-- ==== Sys2Proof/Word.lean ====
section
/-! DEFINITION. The words of the device, its packets and frames, and the plain data that its commands carry. -/

namespace Sys2Proof

/-- A register word (R11). -/
abbrev Word := BitVec 32

/-- One byte. -/
abbrev Byte := BitVec 8

/-- The packet of the event mesh: a 64-bit header and a 192-bit payload (R270). -/
structure Pip where
  hdr : BitVec 64
  pay : BitVec 192
  deriving DecidableEq, Repr

/-- A beat of the scheduled mesh: 512 data bits and its side band with the 64 check bits (R313); `tag` is the model's own, the
cycle in which the beat arrives at the next router. -/
structure Beat where
  data   : BitVec 512
  null   : Bool
  first  : Bool
  last   : Bool
  poison : Bool
  check  : BitVec 64
  tag    : Nat
  deriving DecidableEq, Repr

/-- A CAN frame (R554). -/
structure CanFrame where
  id : Nat
  ide : Bool
  fdf : Bool
  brs : Bool
  data : List Byte
  deriving DecidableEq, Repr

/-- What a memory's check bits say of one read (R407, R422): the spec stores no codes, so a command that reads a
row or a burst carries what the code found. -/
inductive Ecc where
  | clean
  | corrected
  | uncorrectable
  deriving DecidableEq, Repr

/-- An error that a read of an SRAM meets (R407, R408): the byte offset of the word in its memory, and whether it is
uncorrectable. -/
structure EccHit where
  addr  : Nat
  fatal : Bool
  deriving DecidableEq, Repr

/-- What a read of a DRAM burst finds (R420, R422): a corrected error may be one of a whole device. -/
inductive Burst where
  | clean
  | corrected (device : Option (Fin 5))
  | uncorrectable
  deriving DecidableEq, Repr

/-- The SRAM that a scrubber serves (R409, R411). -/
inductive Site where
  | tileData (t : Fin 1152)
  | tileInstr (t : Fin 1152)
  | pod (p : Fin 72)
  | manager
  deriving DecidableEq, Repr

/-- The core that runs a load or a store: a hart of the manager complex, in machine mode or in a lower one (R412), or the
control core of a tile. -/
inductive Requester where
  | hart (n : Fin 4) (machine : Bool)
  | tile (t : Fin 1152)
  deriving DecidableEq, Repr

/-- An access by a core: the core, and what a read of a checked memory that the access makes meets. -/
structure CoreAccess where
  src : Requester
  ecc : Ecc
  deriving DecidableEq, Repr

/-- The two halves of the die. -/
inductive Half where
  | west
  | east
  deriving DecidableEq, Repr

/-- One thing the loader puts on chip at a switch (R118): a register, bytes of memory, a multicast entry of a router, or an
entry of the active slot table of a router or of the slot-class map. -/
inductive Load where
  | reg (addr : Nat) (value : Word)
  | bytes (addr : Nat) (data : List Byte)
  | mcast (router : Fin 1152) (group : Fin 4096) (entry : Fin 64)
  | slot (router : Fin 1152) (slot : Fin 1024) (entry : Word)
  | slotClass (slot : Fin 1024) (cls : Fin 4)
  deriving DecidableEq, Repr

/-- What the image that Mollu wrote says of itself (R55, R565), the address in DRAM at which firmware places it, the
contexts, as tile and number, of each population, the pods with the number of descriptors it needs in each (R160), and what the
loader puts on chip when the image comes to run. The format
of a Mollu image is no part of the spec; the loader's reading of one is this record. -/
structure ImageInfo where
  hier : Nat
  window : Nat
  kMin : Nat
  flags : Nat
  tiles : Nat
  projections : Nat
  reserve : Nat
  dram : Nat
  id : Nat
  name : List Byte
  base : Nat
  populations : List (List (Nat × Nat))
  descriptors : List (Fin 72 × Nat)
  initial : List Load
  deriving DecidableEq, Repr

/-- The reading of bytes that spell no image. -/
def ImageInfo.blank : ImageInfo := ⟨0, 0, 0, 0, 0, 0, 0, 0, 0, [], 0, [], [], []⟩

/-- What the fuses hold that the boot ROM reads (R593): the serial number, the variant word and the revision as their
registers show them, the defect map, 2 bits to a tile, and the first word that fails its check, where one does. -/
structure Fuses where
  serial : BitVec 64
  variant : Word
  rev : Byte
  defects : List Word
  bad : Option Byte
  deriving DecidableEq, Repr

end Sys2Proof
end

