-- ==== Sys2Proof/Syntax.lean ====
section
/-! DEFINITION. The commands of the block: one constructor for each row of the opcode table. Operands are what the
sender of the command supplies: the index of the unit that acts, the value written, and what the outside world
brings (a received frame, a sensor reading, the outcome of a test or of a check code). -/

namespace Sys2Proof

/-- A command to the block. -/
inductive Instr where
  /-- REGISTER_WRITE (R16): A write to a register that has no row of its own; fields that receive an unassigned encoding keep their value and the others take the new value. -/
  | registerWrite (core : CoreAccess) (addr : BitVec 40) (value : Word)
  /-- LOW_WORD_READ (R12): A read of the low word of a 64-bit quantity latches its high word for the read that follows. -/
  | lowWordRead (core : CoreAccess) (addr : BitVec 40)
  /-- DICT_READ (R558): A dictionary read request from a USDO client, the mailbox or a proxy is served whole, with role and existence checks. -/
  | dictRead (slot : Fin 8) (index : Fin 65536) (sub : Fin 256) (len : Nat)
  /-- DICT_WRITE (R60): A dictionary write request is checked for role, range and mode constraints, then applied, staged or refused, and audited. -/
  | dictWrite (slot : Fin 8) (index : Fin 65536) (sub : Fin 256) (data : List Byte) (image : Option ImageInfo) (saved : Bool)
  /-- COMMIT_STAGED (R67): A write of 1 to 0x2402:01 rechecks the staging set and accepts it for a later launch, or discards it whole. -/
  | commitStaged
  /-- DISCARD_STAGED (R69): A write of 1 to 0x2402:03 empties the staging set without applying it. -/
  | discardStaged
  /-- FLASH_PARAM_SAVE (R571): Changed FLASH objects are saved to the parameter area within 2 s of their write. -/
  | flashParamSave (ok : Bool)
  /-- STORE_PARAMETERS (R571): A write of the save signature to 0x1010:01 saves every changed FLASH object at once. -/
  | storeParameters (slot : Fin 8) (value : Word) (ok : Bool)
  /-- RESTORE_DEFAULTS (R571): A write of the load signature to 0x1011:01 returns every FLASH object to its default at the next start. -/
  | restoreDefaults (slot : Fin 8) (value : Word)
  /-- TB_LOAD (R79): TB_CTRL.LOAD loads TB_SET into the global counter and every replica on one tick while the step clock is halted, and is otherwise ignored with CFG_ERR set. -/
  | tbLoad
  /-- TB_SLEW_CODE (R78): Every 1,024 ticks while slew remains, a skip or double code is issued. -/
  | tbSlewCode
  /-- REPLICA_COMPARE (R80): Every 65,536 counts, the global value is sent to all replicas, and a replica that differs is reloaded and counted. -/
  | replicaCompare (differs : List (Fin 1152))
  /-- TB_COMPARE_FIRE (R122): A tile replica reaches TB_CMP, which sets FIRED and interrupts the core when enabled. -/
  | tbCompareFire (tile : Fin 1152)
  /-- STEP_RUN (R84): Setting STEP_CTRL.RUN, or 0x2405:01 to 1, starts the step clock at STEP_FIRST, or is refused with LAUNCH_PAST. -/
  | stepRun (slot : Option (Fin 8))
  /-- STEP_HALT (R85): Writing 0 to RUN halts the step clock at the next close, or at once between a close and a launch. -/
  | stepHalt
  /-- STEP_LAUNCH (R86): A tile replica reaches the armed launch value, opening delivery of the step and starting its deadline. -/
  | stepLaunch
  /-- QUIESCENCE_WAVE (R91): Every 32 cycles from launch, the root gathers SUM E, SUM R and AND idle, and declares quiescence after two matching clean waves. -/
  | quiescenceWave
  /-- NEURON_SCAN (R136): A tile's neuron engine updates every enabled context once its pod's sweeps and learning pass are done, and emits spikes. -/
  | neuronScan (tile : Fin 1152) (ecc : List (Fin 32 × Nat × EccHit))
  /-- STEP_CLOSE (R86): When every tile reports update done, the root closes the step, writes its statistics and arms the next launch. -/
  | stepClose
  /-- DEADLINE_FORCED_CLOSE (R94): Under STRICT, when the deadline passes without quiescence, delivery is closed by force and the remaining work is discarded and counted. -/
  | deadlineForcedClose
  /-- STRETCH_LIMIT_CLOSE (R97): Under ELASTIC, when the stretch limit ends without quiescence, the close is forced with the full stretch. -/
  | stretchLimitClose
  /-- FREE_RUN_WATCHDOG_FIRE (R102): A FREE-RUN step that does not close within STEP_FR_WATCHDOG halts the step clock without closing. -/
  | freeRunWatchdogFire
  /-- SWITCH_REQUEST (R117): STEP_SWITCH_CTRL.GO, or 0x2406:04, requests an image switch at a target step, which is checked and accepted or refused. -/
  | switchRequest
  /-- IMAGE_SWITCH_LOAD_DONE (R118): When the incoming image has been loaded, step s is scheduled under it and the gap is recorded. -/
  | imageSwitchLoadDone
  /-- SWITCH_VOTE_TIMEOUT (R519): A worker that does not vote within 100 µs causes the switch to be refused with 0x0016. -/
  | switchVoteTimeout (worker : Fin 8)
  /-- CONTEXT_ENABLE (R153): A write of 1 to POP_CTRL.EN checks the context and enables it, or refuses with an error code. -/
  | contextEnable (tile : Fin 1152) (ctx : Fin 32) (value : Word)
  /-- CONTEXT_DISABLE (R155): A write of 0 to POP_CTRL.EN disables the context from the next update that latches. -/
  | contextDisable (tile : Fin 1152) (ctx : Fin 32) (value : Word)
  /-- CONTEXT_FIELD_WRITE (R154): A write to the fields of an enabled context changes live fields and refuses changes to structural fields. -/
  | contextFieldWrite (tile : Fin 1152) (ctx : Fin 32) (reg : Fin 16) (value : Word)
  /-- NE_WINDOW_WRITE (R148): A write of NE_WINDOW is ignored with CFG_ERR while a windowed context is enabled. -/
  | neWindowWrite (tile : Fin 1152) (value : Word)
  /-- MATCH_RECORD (R189): The pod matcher takes one record from an ejection buffer and makes jobs, activity writes or window-buffer entries for the descriptors it matches. -/
  | matchRecord (tile : Fin 1152) (ecc : Option (EccHit × Fin 64))
  /-- ENGINE_TAKE_JOB (R193): A free delivery engine takes its next job or part from its own deque or by stealing, and runs it. -/
  | engineTakeJob (tile : Fin 1152) (ecc : Option (EccHit × Nat))
  /-- ACCUMULATE_CONTRIBUTION (R200): A contribution enters the owner's accumulate port and is added modulo 2^32, or waits a cycle. -/
  | accumulateContribution (tile : Fin 1152) (ecc : Option EccHit)
  /-- AREA_CLEAR_DONE (R205): The clear of a swept activity area completes, and the records held for it may proceed. -/
  | areaClearDone (pod : Fin 72) (slot : Fin 64)
  /-- WINDOW_APPLICATION_DONE (R207): Window application ends; the area and buffer are cleared and the tile reports it done. -/
  | windowApplicationDone (tile : Fin 1152)
  /-- PROJ_CTRL_WRITE (R219): A write of DE_PROJ_CTRL sets traversal, threshold, DGEN or FAULTED under its mode checks. -/
  | projCtrlWrite (pod : Fin 72) (slot : Fin 64) (value : Word)
  /-- LEARNING_PASS (R247): After the sweeps, each pod runs one learning pass over its enabled slots, updating eligibilities, weights and traces. -/
  | learningPass (pod : Fin 72)
  /-- PL_ENABLE_WRITE (R239): A write of DE_PL_CTRL.EN enables learning, or is refused when the slot cannot learn. -/
  | plEnableWrite (pod : Fin 72) (slot : Fin 64) (value : Word)
  /-- MODQ_PUSH (R254): A push of a modulator entry is queued for its step, or refused as late, too far or full. -/
  | modqPush (value : Word)
  /-- DRIFT_RESET (R256): A write of 1 to 0x2524:05 resets drift used in every pod. -/
  | driftReset (slot : Fin 8)
  /-- PIP_ROUTE (R280): A router places each pip that reaches it on a productive port, ejects it, replicates it or deflects it. -/
  | pipRoute (router : Fin 1152) (crc : List (Fin 4 × BitVec 16))
  /-- PIP_INJECT (R284): After link pips are placed, the router injects one candidate pip from its sources, or counts a wait. -/
  | pipInject (router : Fin 1152)
  /-- EDGE_RETURN_PIP (R769): The west edge interface returns a deflected pip unchanged into router (0, y) in the next cycle. -/
  | edgeReturnPip (row : Fin 32)
  /-- EDGE_INJECT (R443): The west edge interface injects a waiting pip of a row when that row's bucket holds a token. -/
  | edgeInject (row : Fin 32)
  /-- NAK_RECEIVE (R288): A NAK moves the named pip from its replay register into the retry queue, or takes the link down when the queue is full. -/
  | nakReceive (router : Fin 1152) (port : Fin 4)
  /-- LINK_DOWN_SIGNAL (R287): The DOWN signal of an event-mesh link rises; arriving pips are discarded and replay pips count as NAKed. -/
  | linkDownSignal (router : Fin 1152) (port : Fin 4)
  /-- ECHO_RECEIVE (R296): A congestion echo reaches the throttle and lowers RATE unless one was accepted within DEC_HOLD. -/
  | echoReceive (node : Fin 1184)
  /-- STORM_NOTICE_RECEIVE (R296): A storm notice sets the router's RATE to MIN. -/
  | stormNoticeReceive (node : Fin 1184)
  /-- THROTTLE_INCREASE (R296): After AI_PERIOD cycles with no accepted echo, RATE rises by AI_STEP. -/
  | throttleIncrease (node : Fin 1184)
  /-- DELAY_STORE_WRITE (R298): A delayed spike pip or a deferred-segment record is written into the delay store. -/
  | delayStoreWrite (router : Fin 1152)
  /-- DELAY_STORE_RELEASE (R300): From launch, due entries are released one per cycle into the ejection buffer or as jobs. -/
  | delayStoreRelease (router : Fin 1152) (poisoned : Bool)
  /-- MC_ENTRY_WRITE (R289): A write of EVM_MC_DATA writes one multicast entry whole, accepted only from the remap path while running. -/
  | mcEntryWrite (router : Fin 1152) (value : Word) (remap : Bool)
  /-- SPILL_REGION_WRITE (R301): A write of EVM_SPILL_BASE or EVM_SPILL_LEN is ignored with CFG_ERR if the region would pass pod memory. -/
  | spillRegionWrite (router : Fin 1152) (isLen : Bool) (value : Word)
  /-- REG_READ_REQUEST (R276): A register read request pip reaches its tile and is answered with a register response. -/
  | regReadRequest (tile : Fin 1152) (ecc : Ecc)
  /-- REG_WRITE_REQUEST (R276): A register write request pip reaches its tile, performs the write and is answered. -/
  | regWriteRequest (tile : Fin 1152) (ecc : Ecc)
  /-- REG_RESPONSE_RECEIVE (R276): A register response pip reaches its requester and completes the access with its status. -/
  | regResponseReceive (row : Fin 32)
  /-- SCM_BEAT_ROUTE (R316): A scheduled-mesh port routes the beats at its inputs by the slot-table entry of the current slot. -/
  | scmBeatRoute (router : Fin 1152) (ecc : List (Fin 5 × Ecc))
  /-- SCM_CHECK (R320): SCM_LD_CTRL.CHECK starts the check of every standby slot table and class map. -/
  | scmCheck
  /-- SCM_CHECK_DONE (R321): The check ends and sets RESULT, recording the first failure and logging 0x3201. -/
  | scmCheckDone
  /-- SCM_SWAP (R320): SCM_LD_CTRL.SWAP exchanges the banks at once when halted, marks it pending for the next launch, or is refused. -/
  | scmSwap
  /-- SCM_LINK_FAIL (R322): A scheduled-mesh link goes down; beats routed onto it are discarded and their copies fail. -/
  | scmLinkFail (router : Fin 1152) (port : Fin 4)
  /-- DRAM_FETCH_COMPLETE (R327): DRAM data for a READ or STAGE fetch arrives in the engine's read buffer. -/
  | dramFetchComplete (engine : Fin 16) (desc : Fin 64) (burst : Nat) (first again : Burst)
  /-- WRITE_DRAIN_COMPLETE (R328): A write-buffer beat reaches DRAM, completing the copy with its LAST beat. -/
  | writeDrainComplete (engine : Fin 16)
  /-- UNION_RUNS_READY (R339): The union bitmap scan ends, and its runs are ready to send followed by an end beat. -/
  | unionRunsReady (pod : Fin 72)
  /-- OPEN_RX (R362): Q_CMD OPEN_RX advances the epoch, resets the queue and starts clearing its fill map. -/
  | openRx (unit : Fin 1153) (index : Fin 1024)
  /-- FILL_MAP_CLEARED (R362): When the fill map is clear, the queue opens and a credit return of N credits goes to PEER. -/
  | fillMapCleared (unit : Fin 1153) (index : Fin 1024)
  /-- RESET_RX (R362): Q_CMD RESET_RX discards messages, advances the epoch, revokes credit and reopens the queue. -/
  | resetRx (unit : Fin 1153) (index : Fin 1024)
  /-- CLOSE_QUEUE (R362): Q_CMD CLOSE closes a receive queue with a revoke, or a send endpoint silently. -/
  | closeQueue (unit : Fin 1153) (index : Fin 1024)
  /-- OPEN_TX (R362): Q_CMD OPEN_TX opens a send endpoint with no credit, or refuses a duplicate TARGET. -/
  | openTx (unit : Fin 1153) (index : Fin 1024)
  /-- ACK_EPOCH (R362): Q_CMD ACK_EPOCH takes the pending epoch and credits and clears STALE. -/
  | ackEpoch (unit : Fin 1153) (index : Fin 1024)
  /-- QUEUE_SEND (R364): A write of Q_SEND offers a message to an endpoint and sends it, or returns NO_CREDIT, STALE_EPOCH or REFUSED. -/
  | queueSend (unit : Fin 1153) (index : Fin 1024)
  /-- CREDIT_RETURN_RECEIVE (R366): A credit return pip adds credits to the matching endpoint or moves it to STALE. -/
  | creditReturnReceive (unit : Fin 1153)
  /-- CREDIT_REVOKE_RECEIVE (R366): A credit revoke pip sets the endpoint's epoch state as its table gives. -/
  | creditRevokeReceive (unit : Fin 1153)
  /-- MESSAGE_RECEIVE (R367): An arriving message is checked and written to its ring slot, advancing the visible tail, or discarded. -/
  | messageReceive (unit : Fin 1153) (ecc : Option EccHit)
  /-- QUEUE_POP (R368): A write of Q_POP frees n visible slots of a queue, or is refused. -/
  | queuePop (unit : Fin 1153) (index : Fin 1024) (count : Fin 4096)
  /-- CREDIT_RETURN_SEND (R369): When freed credits reach the batch size, or the queue empties, a credit return goes to PEER once control injection has room. -/
  | creditReturnSend (unit : Fin 1153) (index : Fin 1024)
  /-- GAP_SCAN (R372): Every GAP_SCAN periods, open queues whose tail has not moved with OOO set are marked GAP. -/
  | gapScan (unit : Fin 1153)
  /-- BARRIER_ARRIVE (R381): A write of SYNC_BAR_ARRIVE records the node's arrival at a barrier context with its reduction value. -/
  | barrierArrive (node : Fin 1153) (ctx : Fin 64)
  /-- BARRIER_RELEASE (R379): When every member has arrived, the root releases the context, toggling GEN and writing the reduction result. -/
  | barrierRelease (ctx : Fin 64)
  /-- BAR_MEMBER_WRITE (R382): A write of SYNC_BAR_MEMBER changes membership except for contexts with a pending arrival. -/
  | barMemberWrite (node : Fin 1153) (hi : Bool) (value : Word)
  /-- RED_CFG_WRITE (R384): A write of SYNC_ROOT_RED_CFG binds a lane to a context and operation, unless an arrival is pending. -/
  | redCfgWrite (lane : Fin 16) (value : Word)
  /-- FAULT_REPORT_FILE (R386): A block or firmware files a suspect report at its node, suppressed if repeated within 1,024 steps. -/
  | faultReportFile (node : Fin 1153) (suspect : Fin 1048576)
  /-- FAULT_WAVE (R388): Every 256 cycles the root takes the lowest pending suspect and its count into its report queue. -/
  | faultWave
  /-- FAULT_REPORT_TAKE (R692): The global fault block takes the oldest report, applies the thresholds and records the verdict. -/
  | faultReportTake
  /-- SCRUB_ROW (R409): In a scrubber cycle, one row of a bank is read and its errors counted. -/
  | scrubRow (site : Site) (bank : Fin 32) (ecc : Ecc)
  /-- TAMPER_ASSERT (R413): A tamper input asserts, latching the tamper and starting a husk wipe. -/
  | tamperAssert (input : Fin 2)
  /-- HUSK_WIPE_DONE (R414): The sealed copies are erased, key material is derived again, the mark is cleared and 0x6111 logged. -/
  | huskWipeDone
  /-- SEAL_REQUEST (R416): A write of SEC_SEAL_CTRL.SEAL writes a sealed copy of the husk regions now. -/
  | sealRequest
  /-- SEAL_GAP_EXPIRE (R416): When SEAL_GAP has passed since the last copy with a change pending, a new sealed copy is written. -/
  | sealGapExpire
  /-- SRAM_CLEAR_DONE (R417): Clearing of SRAM after power-up ends and sets SEC_CLEAR_STAT.DONE. -/
  | sramClearDone (us : Fin 401)
  /-- DRAM_READ_RETRY (R423): An uncorrectable DRAM burst is read again; clean data is returned, or it is poisoned and reported. -/
  | dramReadRetry (burst : Nat) (again : Burst)
  /-- PAGE_COPY_DONE (R424): The copy of a retired page completes and accesses go to the spare page. -/
  | pageCopyDone (sub : Fin 16) (bad : List (Fin 128))
  /-- SUBCHANNEL_RETIRE (R425): A write of DDR_SUB_RETIRE retires the subchannel, disabling its engine and failing its copies. -/
  | subchannelRetire (sub : Fin 16)
  /-- MAP_REFORM (R426): DDR_MAP_CTRL.REFORM re-forms the DRAM map over live subchannels while halted and engines are off. -/
  | mapReform
  /-- PATROL_READ (R427): Patrol scrub reads a burst and handles any errors found. -/
  | patrolRead (sub : Fin 16) (first again : Burst)
  /-- FULL_SCRUB_START (R427): DDR_SCRUB_CFG.FULL or 0x2303:01 starts a full scrub as a long operation. -/
  | fullScrubStart (quad : Option (Fin 4))
  /-- FULL_SCRUB_ABORT (R427): A write of 1 to 0x2303:03 aborts the full scrub at the next burst. -/
  | fullScrubAbort
  /-- FILL_GRANULE (R428): The background fill writes zeros to the next unfilled granule. -/
  | fillGranule
  /-- STREAM_CONTEXT_ENABLE (R448): A write of 1 to SEN_CTX_CTRL.EN checks the stream context and enables it, or refuses with a code. -/
  | streamContextEnable (ctx : Fin 32) (value : Word)
  /-- STREAM_CONTEXT_DISABLE (R444): Disabling a stream context discards the entries left in its ring. -/
  | streamContextDisable (ctx : Fin 32) (value : Word)
  /-- HUB_ENABLE_WRITE (R774): A write of SEN_CTRL.EN enables the hub, or disables it and discards every injection-ring entry. -/
  | hubEnableWrite (value : Word)
  /-- CSI_FRAME_START (R440): A CSI-2 Frame Start short packet stamps the frame's τ. -/
  | csiFrameStart (receiver : Fin 4) (channel : Fin 4) (ecc : Ecc)
  /-- CSI_LONG_PACKET (R450): A CSI-2 line packet is checked and its pixels or event words go to the bound context, or the line is dropped. -/
  | csiLongPacket (receiver : Fin 4) (channel : Fin 4) (type : Fin 64) (ecc : Ecc) (crcOk : Bool) (payload : List Byte)
  /-- CSI_FRAME_END (R450): A CSI-2 Frame End short packet ends the frame; a missing one marks truncation. -/
  | csiFrameEnd (receiver : Fin 4) (channel : Fin 4) (ecc : Ecc)
  /-- ETH_FRAME_RECEIVE (R452): A received Ethernet frame goes to a matching flow filter or to the firmware ring, or is dropped. -/
  | ethFrameReceive (port : Fin 2) (frame : List Byte) (fcsOk : Bool)
  /-- ETH_FW_TRANSMIT (R452): A frame posted on the firmware transmit ring is sent and stamped if TS_REQ is set. -/
  | ethFwTransmit (port : Fin 2) (tsReq : Bool)
  /-- SEL_FRAME_RECEIVE (R459): A Sensor Event Link frame is accepted and acknowledged, or discarded with NAK. -/
  | selFrameReceive (port : Fin 16) (ok : Bool) (type subch : Fin 16) (seq : Fin 256) (sat : Bool) (fage : Fin 16777216) (words : List Word) (room : Fin 65)
  /-- SEL_ACK_RECEIVE (R460): An ACK marks frames up to its sequence acknowledged. -/
  | selAckReceive (port : Fin 16) (seq inverse : Fin 256)
  /-- SEL_NAK_RECEIVE (R460): A NAK causes retransmission from the named frame, at once or after the busy wait. -/
  | selNakReceive (port : Fin 16) (seq inverse reason : Fin 256)
  /-- SEL_BUSY_WAIT_EXPIRE (R460): 4 µs after a BUSY NAK, the sender retransmits from the named frame. -/
  | selBusyWaitExpire (port : Fin 16)
  /-- SEL_ACK_TIMEOUT (R460): 8 µs without acknowledgement progress makes the sender retransmit, or retrain after 16 tries. -/
  | selAckTimeout (port : Fin 16)
  /-- SEL_IDLE_SET_RECEIVE (R461): Valid IDLE sets received in ALIGN advance the link to TRAIN after 8 in a row. -/
  | selIdleSetReceive (port : Fin 16) (valid : Bool)
  /-- SEL_TS_RECEIVE (R461): A valid TS set advances training and brings the link to ACTIVE. -/
  | selTsReceive (port : Fin 16) (data : List (Fin 256)) (sent : Nat)
  /-- SEL_ALIGN_TIMEOUT (R461): 200 µs in ALIGN without alignment counts a failed attempt. -/
  | selAlignTimeout (port : Fin 16)
  /-- SEL_TRAIN_TIMEOUT (R461): 500 µs in TRAIN without completion counts a failed attempt, and 8 failures enter DOWN. -/
  | selTrainTimeout (port : Fin 16)
  /-- SEL_COMMA_LOSS (R462): 2 µs without a valid K28.5 puts the link in RETRAIN. -/
  | selCommaLoss (port : Fin 16)
  /-- SEL_RETRAIN (R462): A write of SEN_SEL_CTRL.RETRAIN puts the port in RETRAIN. -/
  | selRetrain (port : Fin 16)
  /-- SEL_ENABLE (R461): Writing SEN_SEL_CTRL.EN to 1 resets RXSEQ and starts alignment. -/
  | selEnable (port : Fin 16)
  /-- SEL_SLEEP_REQ (R463): A write of SLEEP_REQ makes the device send a SLEEP frame. -/
  | selSleepReq (port : Fin 16)
  /-- SEL_WAKE_DETECT (R463): 20 µs of activity on an armed Sensor Event Link detector signals a wake. -/
  | selWakeDetect (port : Fin 16)
  /-- SEL_CMD_SEND (R474): SEN_SEL_CMD_CTRL.GO sends a CMD frame, and DONE is set once it is acknowledged. -/
  | selCmdSend (port : Fin 16) (len : Fin 16)
  /-- GPIO_INPUT_CHANGE (R464): A GPIO input level change passes the glitch filter and updates the filtered level, overrun and gate. -/
  | gpioInputChange (pin : Fin 32) (high : Bool) (samples : Nat)
  /-- GPIO_STUCK_EXPIRE (R464): An input active for STUCK_MS sets STUCK and applies its policy. -/
  | gpioStuckExpire (pin : Fin 32)
  /-- GUARD_QUEUE_CANDIDATE (R466): The guard pops a message from its channel queue and passes the candidate through range, dead band and rate. -/
  | guardQueueCandidate (channel : Fin 64)
  /-- GUARD_WRITE_CANDIDATE (R466): A write of EGR_CH_WRITE gives a WORD candidate to the channel. -/
  | guardWriteCandidate (channel : Fin 64) (value : Word)
  /-- GUARD_GAP_EXPIRE (R467): When GAP expires with a held value, that value is emitted. -/
  | guardGapExpire (channel : Fin 64)
  /-- GUARD_SILENCE_EXPIRE (R468): No candidate for SILENCE ms puts the channel in its safe state. -/
  | guardSilenceExpire (channel : Fin 64)
  /-- GUARD_FORCE_SAFE_WRITE (R468): A write of FORCE_SAFE or EGR_FORCE.ALL forces or releases the firmware safe cause. -/
  | guardForceSafeWrite (channel : Option (Fin 64)) (on : Bool)
  /-- CAN_FRAME_RECEIVE (R527): A received CAN frame is deduplicated under the bus mode and passed to the CANopen layer or raw buffer. -/
  | canFrameReceive (bus : Fin 2) (frame : CanFrame) (remote : Bool)
  /-- RPDO_AUDIT_FLUSH (R530): At the end of a second, the merged audit entry of an RPDO's writes is appended. -/
  | rpdoAuditFlush
  /-- CAN_RAW_TRANSMIT (R533): A CAN_TX_REQ queues a raw frame under the limiter, or returns NO_CREDIT or REFUSED. -/
  | canRawTransmit (bus : Fin 2) (cls : Fin 4)
  /-- TPDO_TRIGGER (R532): CAN_TPDO_TRIG, or a guard emission with AUTO, queues or merges a TPDO request. -/
  | tpdoTrigger (bus : Fin 2) (tpdo : Fin 16)
  /-- CAN_TOKEN_AVAILABLE (R534): A limiter token becomes available and the waiting request first in the fixed order takes it. -/
  | canTokenAvailable (bus : Fin 2)
  /-- CAN_BUSOFF_RECOVERY (R525): After 128 occurrences of 11 recessive bits with AUTO_REC, the controller leaves bus-off. -/
  | canBusoffRecovery (bus : Fin 2)
  /-- CAN_STANDBY_FAILOVER (R527): In STANDBY mode after 1 s of bus-off on bus 0, traffic moves to bus 1. -/
  | canStandbyFailover
  /-- CAN_STANDBY_RETURN (R527): After bus 0 has been error-active for 10 s, traffic returns to bus 0. -/
  | canStandbyReturn
  /-- CAN_RX_POP (R554): CAN_RX_POP.GO frees the head receive entry. -/
  | canRxPop (bus : Fin 2)
  /-- HEARTBEAT_PRODUCE (R528): The producer heartbeat time expires and a heartbeat is sent. -/
  | heartbeatProduce
  /-- HEARTBEAT_CONSUMER_TIMEOUT (R528): A watched node's heartbeat times out; event 0x5803 is logged and its session ends. -/
  | heartbeatConsumerTimeout (entry : Fin 4) (slot : Option (Fin 4))
  /-- ERROR_REGISTER_CLEAR (R579): After 10 s without events of its classes, an error-register bit clears, with EMCY 0x0000 when it reaches 0. -/
  | errorRegisterClear (bit : Fin 8)
  /-- MAILBOX_DOORBELL (R484): A write of HOST_MBX_DOORBELL submits the mailbox request to the dictionary server. -/
  | mailboxDoorbell (image : Option ImageInfo) (saved : Bool)
  /-- BAR0_ACCESS (R480): A host access to BAR0 reaches the HOST_ block, queue view or peripheral mirror, or aborts. -/
  | bar0Access (offset : BitVec 24) (value : Option Word) (enables : Fin 16)
  /-- BAR2_ACCESS (R482): A host access to BAR2 reaches DRAM through the movable window. -/
  | bar2Access (offset : BitVec 36) (value : Option Word) (enables : Fin 16)
  /-- BAR4_ACCESS (R481): A host access to BAR4 reaches tile, pod or manager SRAM windows, or aborts. -/
  | bar4Access (offset : BitVec 29) (value : Option Word) (enables : Fin 16) (ecc : Ecc)
  /-- HOST_WIN_BASE_WRITE (R482): A write of HOST_WIN_BASE holds new BAR2 requests until earlier ones complete. -/
  | hostWinBaseWrite (gib : Fin 512)
  /-- PCIE_RESET (R483): FLR, hot reset or link loss resets the endpoint, DMA and mailbox only. -/
  | pcieReset (kind : Fin 3)
  /-- DMA_TAIL_WRITE (R488): A write of HOST_DMA_TAIL makes new descriptors available to the channel. -/
  | dmaTailWrite (channel : Fin 8) (index : Fin 65536)
  /-- DMA_DESCRIPTOR_DONE (R488): A DMA descriptor completes, writing its status and advancing HEAD, or halts the channel on error. -/
  | dmaDescriptorDone (channel : Fin 8) (ctrl length : Word) (host dev : BitVec 64) (data : List Byte) (error : Bool)
  /-- DMA_RESUME (R489): HOST_DMA_CTRL.RESUME takes a halted channel out of HALTED. -/
  | dmaResume (channel : Fin 8)
  /-- HOST_ORING_READ_WRITE (R487): A write of HOST_ORING_RD frees entries of the egress host ring. -/
  | hostOringReadWrite (index : Fin 65536)
  /-- TLK_CONTROL_FLIT (R496): A received Tierlink control flit is checked and acted on by its CTYPE. -/
  | tlkControlFlit (port : Fin 8) (flit : List Byte)
  /-- TLK_PACKET_RECEIVE (R498): A Tierlink packet is accepted in sequence and acknowledged, or discarded with NAK. -/
  | tlkPacketReceive (port : Fin 8) (header : List Byte) (flits : List (List Byte)) (codeError : Bool)
  /-- TLK_ACK_RECEIVE (R499): An ACK frees acknowledged packets from the replay buffer. -/
  | tlkAckReceive (port : Fin 8) (seq : Fin 4096)
  /-- TLK_NAK_RECEIVE (R499): A NAK makes the sender resend every unacknowledged packet from the named one. -/
  | tlkNakReceive (port : Fin 8) (seq : Fin 4096)
  /-- TLK_REPLAY_TIMEOUT (R499): 2 µs without acknowledgement progress resends from the oldest packet, or retrains after 8 resends. -/
  | tlkReplayTimeout (port : Fin 8)
  /-- TLK_CREDIT_RECEIVE (R500): A CREDIT flit updates the sender's per-class credit. -/
  | tlkCreditReceive (port : Fin 8) (counters : List (Fin 65536))
  /-- TLK_TRANSMIT_PIP (R508): A pip waiting in a Tierlink transmit buffer is sent once the port is ACTIVE with PIP credit. -/
  | tlkTransmitPip (port : Fin 8)
  /-- TLK_TS_RECEIVE (R503): A TS flit is checked and advances training, or forces RETRAIN while ACTIVE. -/
  | tlkTsReceive (port : Fin 8) (flit : List Byte)
  /-- TLK_STATE_TIMEOUT (R502): A LOCK, DESKEW or TRAIN state times out, counting a failed attempt. -/
  | tlkStateTimeout (port : Fin 8)
  /-- TLK_MARK_LOSS (R503): 4 µs without MARK puts the link in RETRAIN. -/
  | tlkMarkLoss (port : Fin 8)
  /-- TLK_RETRAIN (R503): A write of TLK_CTRL.RETRAIN puts the port in RETRAIN. -/
  | tlkRetrain (port : Fin 8)
  /-- TLK_ENABLE (R502): Writing TLK_CTRL.EN to 1 takes the port from DOWN to LOCK. -/
  | tlkEnable (port : Fin 8)
  /-- TLK_SLEEP_REQ (R502): A write of TLK_CTRL.SLEEP_REQ requests SLEEP. -/
  | tlkSleepReq (port : Fin 8)
  /-- TLK_WAKE_DETECT (R504): 20 µs of activity on an armed Tierlink lane 0 signals a wake. -/
  | tlkWakeDetect (port : Fin 8)
  /-- TIME_EXCHANGE_START (R514): Every 65,536 counts a manager port sends TIME type 1 to its worker. -/
  | timeExchangeStart (port : Fin 8)
  /-- TIME_FLIT_RECEIVE (R514): A TIME flit continues the exchange, stamping and replying. -/
  | timeFlitReceive (port : Fin 8) (flit : List Byte)
  /-- SYNC_ARM_RECEIVE (R512): A worker receives ARM and writes its step-clock registers and launch value. -/
  | syncArmReceive (port : Fin 8)
  /-- SYNC_WAVE_RECEIVE (R511): A worker receives WAVE and returns RESULT for that wave. -/
  | syncWaveReceive (port : Fin 8)
  /-- SYNC_RESULT_RECEIVE (R512): The manager combines a worker's RESULT into its wave. -/
  | syncResultReceive (port : Fin 8)
  /-- SYNC_UPDATE_RECEIVE (R512): A worker receives UPDATE and broadcasts the update, forced or not. -/
  | syncUpdateReceive (port : Fin 8)
  /-- SYNC_DONE_RECEIVE (R512): The manager takes a worker's DONE with its late drops and modulator sums toward the close. -/
  | syncDoneReceive (port : Fin 8)
  /-- SYNC_SWITCH_RECEIVE (R511): A worker receives SWITCH and returns its VOTE. -/
  | syncSwitchReceive (port : Fin 8)
  /-- SYNC_VOTE_RECEIVE (R511): The manager receives a worker's VOTE on a switch. -/
  | syncVoteReceive (port : Fin 8)
  /-- SYNC_REJOIN_RECEIVE (R518): The manager receives REJOIN and includes the worker from its next ARM. -/
  | syncRejoinReceive (port : Fin 8)
  /-- WORKER_ISOLATE (R516): A worker whose upstream is lost for the isolation time, or sees no ARM, enters ISOLATED. -/
  | workerIsolate (cause : Fin 3)
  /-- WORKER_LOST (R517): The manager loses a worker, forces the open step closed and excludes it. -/
  | workerLost (worker : Fin 8)
  /-- DICT_PROXY_RECEIVE (R510): A DICT packet carries a proxy request to a worker, or its response to the manager. -/
  | dictProxyReceive (port : Fin 8) (image : Option ImageInfo) (saved : Bool)
  /-- GATEWAY_EXECUTE (R523): A write to the gateway's execute object sends a proxy read or write to a worker. -/
  | gatewayExecute (slot : Fin 8) (worker : Fin 8) (value : Fin 256)
  /-- GATEWAY_TIMEOUT (R523): No proxy response within 50 ms fails the gateway request and logs 0x8205. -/
  | gatewayTimeout (worker : Fin 8)
  /-- FW_PACKET_RECEIVE (R614): A worker receives tile firmware in FW packets from the manager. -/
  | fwPacketReceive (port : Fin 8)
  /-- WORKER_FW_TIMEOUT (R614): With no complete image 10 s after its step 8, a worker broadcasts its own slot's image. -/
  | workerFwTimeout
  /-- LOGIN_CHALLENGE (R540): A challenge request for a role returns 8 random bytes valid for 60 s. -/
  | loginChallenge (slot : Fin 8) (role : Fin 4)
  /-- LOGIN_VERIFY (R540): A response is compared by the security block, granting the role or counting a failure. -/
  | loginVerify (slot : Fin 8) (role : Fin 4)
  /-- CHALLENGE_EXPIRE (R540): An unanswered challenge expires after 60 s. -/
  | challengeExpire (slot : Fin 9)
  /-- LOGOUT (R537): A logout ends the slot's session. -/
  | logout (slot : Fin 8)
  /-- SESSION_IDLE_TIMEOUT (R537): A slot idle for SEC_IDLE seconds has its session ended. -/
  | sessionIdleTimeout (slot : Fin 8)
  /-- LOCKOUT_EXPIRE (R542): A locked role's lockout time ends. -/
  | lockoutExpire (role : Fin 4)
  /-- AUTH_WRITE (R543): SEC_AUTH_GO performs a bound register write if the slot's role suffices, and audits it. -/
  | authWrite (slot : Fin 8)
  /-- LIFECYCLE_REQUEST (R546): A maker writes the target lifecycle state to 0x2002:02 while halted. -/
  | lifecycleRequest (slot : Fin 8) (target : Fin 256)
  /-- LIFECYCLE_CONFIRM (R546): The complement written to 0x2002:03 burns a fuse record, wipes the husk and performs the transition. -/
  | lifecycleConfirm (slot : Fin 8) (value : Fin 256)
  /-- LIFECYCLE_CONFIRM_TIMEOUT (R546): A lifecycle request not confirmed within 10 s lapses. -/
  | lifecycleConfirmTimeout
  /-- AUDIT_APPEND (R549): A write of SEC_AUDIT_APP3 appends a firmware dictionary-write entry to the audit log. -/
  | auditAppend (value : Word)
  /-- AUDIT_EXPORT_READ (R550): A read of 0x2010:03 exports the audit log with its tag, or fails if entries were overwritten. -/
  | auditExportRead (slot : Fin 8) (len : Nat)
  /-- IMAGE_LOAD_FLASH (R584): A write of 0x2400:03 loads an image from the flash image area into the selected index. -/
  | imageLoadFlash (slot : Fin 8) (entry : Fin 32) (info : ImageInfo)
  /-- IMAGE_LOAD_DRAM (R584): A write of 0x2400:08 loads an image placed in DRAM by the host into the selected index. -/
  | imageLoadDram (slot : Fin 8) (addr : BitVec 64) (info : ImageInfo)
  /-- IMAGE_LOAD_DONE (R584): An image load ends as loaded or failed, updating its progress and state. -/
  | imageLoadDone (index : Fin 64) (good : Bool)
  /-- IMAGE_UNLOAD (R584): A write of 0x2400:04 unloads the selected index, refused for the running image. -/
  | imageUnload (slot : Fin 8)
  /-- COLD_START (R591): With VAON, the reference and PORST_N good, the device runs the start sequence of its kind. -/
  | coldStart (fuses : Fuses) (xtal testen : Bool) (ddr : Word)
  /-- PORST_ASSERT (R764): PORST_N low for 10 µs acts as a loss of VAON and switches every rail off. -/
  | porstAssert
  /-- BIST_START (R594): FLT_BIST_CTRL.GO starts the self-test in every tile and pod. -/
  | bistStart
  /-- BIST_DONE (R594): The self-test ends, disabling tiles, making holes and marking links down. -/
  | bistDone (tiles : List (Fin 1152 × Fin 64 × Fin 16)) (pods : List (Fin 72 × Word))
  /-- DDR_TRAIN_STEP (R601): DDR_TRN_CTRL.GO runs one training step on a subchannel rank. -/
  | ddrTrainStep (sub step : Fin 16) (rank : Fin 2)
  /-- DDR_TRAIN_STEP_DONE (R601): A training step ends with pass or a failing lane. -/
  | ddrTrainStepDone (sub : Fin 16) (pass : Bool) (lane : Fin 64) (found : List (Fin 65 × Word))
  /-- DDR_MODE_REGISTER_ACCESS (R621): DDR_TRN_MR.GO reads or writes a DRAM mode register. -/
  | ddrModeRegisterAccess (sub : Fin 16) (value : Word)
  /-- MEMORY_TEST_START (R602): DDR_MT_CTRL.GO starts the memory test of march and retention passes. -/
  | memoryTestStart (quad : Fin 4) (value : Word)
  /-- MEMORY_TEST_ABORT (R621): DDR_MT_CTRL.ABORT stops the memory test at the next burst. -/
  | memoryTestAbort (quad : Fin 4)
  /-- RETENTION_HOLD_EXPIRE (R603): The hold of a retention pass ends and every burst is read back. -/
  | retentionHoldExpire (quad : Fin 4)
  /-- MEMORY_TEST_DONE (R604): The memory test ends, with failing bursts counted and pages retired. -/
  | memoryTestDone (quad : Fin 4) (bad : List (Fin 4 × Nat))
  /-- TRAIN_SET_SEAL (R600): SEC_TRAIN_CTRL.SEAL writes the tag over the saved training region. -/
  | trainSetSeal (temp : Fin 65536)
  /-- TRAIN_SET_CHECK (R600): SEC_TRAIN_CTRL.CHECK verifies the tag and sets VALID. -/
  | trainSetCheck
  /-- FW_CHUNK_RECEIVE (R610): A tile firmware receiver handles a chunk control pip, storing data or header, or discarding it. -/
  | fwChunkReceive (tile : Fin 1152)
  /-- FW_REPORT (R611): Q_FW_CTRL.REPORT makes the receiver send its missing-run or completion reports. -/
  | fwReport (tile : Fin 1152)
  /-- FW_RELEASE (R613): Q_FW_CTRL.RELEASE activates the written half and releases the core if MATCH. -/
  | fwRelease (tile : Fin 1152)
  /-- POWER_STATE_REQUEST (R626): A write of 0x2100:01 starts the entry procedure of the requested power state, or is refused. -/
  | powerStateRequest (target : Fin 4) (slot : Option (Fin 8))
  /-- HALF_CLOCK_REQUEST (R629): A half-clock state or clock change begins its procedure, ramping the rail first if a clock rises. -/
  | halfClockRequest (split direct : Bool)
  /-- CORE_CLOCK_WRITE (R628): A write of 0x2110:03 or :04 sets a half clock, refused if off-grid or outside the rail window. -/
  | coreClockWrite (half : Half) (mhz : Fin 1024) (direct : Bool)
  /-- PLL_RELOCK_DONE (R629): A half's PLL relocks, its clock is ungated and the voltage step that follows begins. -/
  | pllRelockDone (half : Half)
  /-- RAIL_VOUT_POLL (R630): Every 50 µs READ_VOUT is polled, confirming a voltage change when in tolerance with power-good. -/
  | railVoutPoll (rail : Fin 7) (mv : Fin 65536) (fault : Bool)
  /-- RAIL_CONFIRM_TIMEOUT (R630): A voltage change unconfirmed within PWR_RAIL_TMO is faulted and rolled back. -/
  | railConfirmTimeout (rail : Fin 7)
  /-- PMB_RAW_TRANSACTION (R632): PWR_PMB_CMD.GO issues a raw PMBus transaction, refused for forbidden writes. -/
  | pmbRawTransaction (value : Word)
  /-- PMB_TRANSACTION_DONE (R633): A PMBus transaction completes, is retried on NACK or PEC failure, or fails. -/
  | pmbTransactionDone (ok : Bool) (data : Fin 65536)
  /-- RAIL_POWER_GOOD (R634): A rail's power-good rises and the sequencer enables the next rail after its delay. -/
  | railPowerGood (rail : Fin 7)
  /-- RAIL_PG_TIMEOUT (R635): A rail misses its power-good time; the sequence stops and the rails fall. -/
  | railPgTimeout (rail : Fin 7)
  /-- SEQUENCE_RETRY (R635): 1 s after a failed sequence it is tried again, up to three tries. -/
  | sequenceRetry
  /-- RAIL_PG_LOSS (R635): A kept rail loses power-good for 10 µs; outputs go safe and the device enters OFF-WAKEABLE. -/
  | railPgLoss (rail : Fin 7)
  /-- WAKE_EVENT (R636): An enabled wake source sees its pattern, records the wake and returns the device to ON. -/
  | wakeEvent (cycles : Nat) (seen : List (Fin 9 × Fin 32))
  /-- WAKE_TIMER_MATCH (R636): The 32.768 kHz wake counter reaches PWR_WAKE_TMR. -/
  | wakeTimerMatch
  /-- GOVERNOR_INTERVAL (R639): Every 10 µs the governor estimates power and lowers or raises ALLOW. -/
  | governorInterval (power withheld : Fin 65536)
  /-- GOVERNOR_CORRECTION (R639): Every 1 ms the power estimate is corrected from rail readings. -/
  | governorCorrection (reads : List (Fin 65536 × Fin 65536))
  /-- THERMAL_SAMPLE (R640): Every 100 µs the junction sensors of each half are read. -/
  | thermalSample (west east : Fin 65536)
  /-- THROTTLE_STEP (R640): The half's throttle level rises every 1 ms above +105 °C or falls every 10 ms below +100 °C. -/
  | throttleStep (half : Half)
  /-- UPDATE_BEGIN (R654): Update command 1 erases staging and opens a new delta. -/
  | updateBegin (slot : Fin 8)
  /-- UPDATE_DATA (R587): A write of 0x2C00:04 appends delta bytes to the open update. -/
  | updateData (slot : Fin 8) (offset : Option Nat) (data : List Byte)
  /-- UPDATE_VERIFY_WRITE (R655): Update command 2 checks the delta and writes the target image into the inactive slot. -/
  | updateVerifyWrite (slot : Fin 8)
  /-- UPDATE_APPLY_DONE (R655): Verify and write ends with the target checked, as VERIFIED or FAILED. -/
  | updateApplyDone
  /-- UPDATE_ACTIVATE (R658): Update command 3 starts the handover to the new manager image. -/
  | updateActivate (slot : Fin 8)
  /-- UPDATE_ABORT (R654): Update command 4 returns the update to IDLE, or requests fallback during a trial. -/
  | updateAbort (slot : Fin 8)
  /-- FW_ACTIVATE (R657): SEC_FW_CTRL ACTIVATE releases the standby pair at its checked image. -/
  | fwActivate (hart : Option (Fin 4))
  /-- FW_SWAP (R658): SEC_FW_CTRL SWAP hands over to the new pair and arms the fallback timer with TRIAL set. -/
  | fwSwap (hart : Option (Fin 4))
  /-- FW_CONFIRM (R662): SEC_FW_CTRL CONFIRM disarms the fallback timer and clears TRIAL. -/
  | fwConfirm (hart : Option (Fin 4))
  /-- FW_FALLBACK_COMMAND (R663): SEC_FW_CTRL FALLBACK returns to the previous slot. -/
  | fwFallbackCommand (hart : Option (Fin 4))
  /-- FW_OPEN_INACTIVE (R659): SEC_FW_CTRL OPEN_INACTIVE lifts the protection of the inactive slot. -/
  | fwOpenInactive (hart : Option (Fin 4))
  /-- SIG_CHECK_START (R656): SEC_SIG_CTRL.GO starts the signature check of a load region. -/
  | sigCheckStart (region : Fin 2)
  /-- SIG_CHECK_DONE (R656): The region check ends and sets VALID or FAIL. -/
  | sigCheckDone
  /-- FALLBACK_TIMER_EXPIRE (R663): The fallback timer expires during a trial and the previous slot is restarted. -/
  | fallbackTimerExpire
  /-- HANDOVER_READY_TIMEOUT (R658): No READY within 2 s of ACTIVATE abandons the handover. -/
  | handoverReadyTimeout
  /-- FLASH_PROGRAM_COMMAND (R646): A firmware program or erase command is performed, or refused in protected areas. -/
  | flashProgramCommand (offset : BitVec 27) (eraseLen : Option (Fin 134217728)) (data : List Byte)
  /-- FW_SWITCH_ARM (R661): SYNC_FW_SWITCH.GO arms a tile firmware switch for the next arming broadcast. -/
  | fwSwitchArm (gen : Fin 256)
  /-- CHK_START (R669): CHK_CMD.START begins a check-value job, or is refused while the unit is busy. -/
  | chkStart (unit : Fin 8) (owner : Fin 5)
  /-- CHK_ABORT (R670): CHK_CMD.ABORT from the owner ends the job with result 7. -/
  | chkAbort (unit : Fin 8) (owner : Fin 5)
  /-- CHK_JOB_DONE (R669): A check-value job ends, setting DONE and comparing or checking the message. -/
  | chkJobDone (unit : Fin 8)
  /-- CHK_SECURITY_CLAIM (R671): The security block claims unit 7 once any firmware job on it ends. -/
  | chkSecurityClaim
  /-- CHK_PROFILE_RESET (R672): CHK_PROF_CNT.RESET clears the profile's VALID. -/
  | chkProfileReset (unit : Fin 8) (prof : Fin 4)
  /-- TIMER_COUNT_EVENT (R674): A timer counts the events of a cycle under its mode, raising compare and wrap events. -/
  | timerCountEvent (timer : Fin 16) (events : Fin 3)
  /-- TIMER_START (R679): TMR_CMD START sets RUN. -/
  | timerStart (timer : Fin 16)
  /-- TIMER_STOP (R679): TMR_CMD STOP clears RUN. -/
  | timerStop (timer : Fin 16)
  /-- TIMER_RESET (R679): TMR_CMD RESET sets the count to 0 with RUN unchanged. -/
  | timerReset (timer : Fin 16)
  /-- TIMER_RESET_START (R679): TMR_CMD RESET_START sets the count to 0 and starts the timer. -/
  | timerResetStart (timer : Fin 16)
  /-- TIMER_LOAD (R679): TMR_CMD LOAD sets the count to TMR_LOAD. -/
  | timerLoad (timer : Fin 16)
  /-- TIMER_CAPTURE (R679): TMR_CMD CAPTURE copies the count into capture register A or B. -/
  | timerCapture (timer : Fin 16) (intoB : Bool)
  /-- TIMER_SLAVE_ACTION (R677): A master's event makes the slave apply its action in the next cycle. -/
  | timerSlaveAction (timer : Fin 16)
  /-- TIMER_CAPTURE_SOURCE (R678): A pin edge, master event or step launch captures the count, setting FRESH or OVERCAP. -/
  | timerCaptureSource (timer : Fin 16) (intoB : Bool) (source : Fin 3)
  /-- TIMER_HEAD_READ (R676): A read of a chain head's TMR_CNT_LO snapshots every member of the chain. -/
  | timerHeadRead (timer : Fin 16)
  /-- TIMER_CAPTURE_READ (R678): A read of TMR_CAPx_LO returns the held value, latches its high word and clears FRESH. -/
  | timerCaptureRead (timer : Fin 16) (ofB : Bool)
  /-- TIMER_CONFIG_WRITE (R679): A write of TMR_CFG, TMR_PIN or TMR_TRIG is applied, or ignored with CFG_ERR. -/
  | timerConfigWrite (timer : Fin 16) (which : Fin 3) (value : Word)
  /-- WATCHDOG_KICK (R680): The two-write kick sequence reloads the manager watchdog, or a bad write is counted. -/
  | watchdogKick (hart : Option (Fin 4)) (value : Word)
  /-- WATCHDOG_EXPIRE (R681): The manager watchdog reaches 0, making every output safe and, in a trial, causing fallback. -/
  | watchdogExpire
  /-- LINK_RETRAIN_DONE (R689): After 20 µs down and a loopback, a retrained event-mesh link comes up again or is retired. -/
  | linkRetrainDone (router : Fin 1152) (port : Fin 4) (ok : Bool)
  /-- HEARTBEAT_TIMEOUT (R693): No heartbeat from tile logic for FLT_HB_CFG.TMO cycles files a report for the tile. -/
  | heartbeatTimeout (tile : Fin 1152)
  /-- ENGINE_TIMEOUT (R693): An engine holding one job beyond FLT_ENG_TMO files a report for the tile. -/
  | engineTimeout (tile : Fin 1152) (engine : Fin 4)
  /-- FIRMWARE_FENCE_WRITE (R695): A write of FLT_FENCE fences a tile, or clears a fence while halted, under its rules. -/
  | firmwareFenceWrite (word : Fin 36) (value : Word)
  /-- REMAP_START (R702): FLT_REMAP_CTRL.GO, or a tile retirement while ARMED, chooses a spare and starts restoring it. -/
  | remapStart (ltile : Option (Fin 1024))
  /-- REMAP_RESTORE_DONE (R702): The slice and package restore into the spare completes. -/
  | remapRestoreDone
  /-- REMAP_SWITCH (R703): Outside the neuron update, the logical ID moves to the spare with its trees, clones and queues. -/
  | remapSwitch
  /-- EVENT_LOG_APPEND (R709): The fault block appends the waiting event of the first source in its fixed order to the log ring. -/
  | eventLogAppend
  /-- FIRMWARE_LOG_APPEND (R710): A write of FLT_LOG_APP7 appends a firmware event of an allowed class. -/
  | firmwareLogAppend
  /-- OPS_LATCH_READ (R716): A read of DBG_OPS0_LO latches every operation counter of the tile. -/
  | opsLatchRead (tile : Fin 1152)
  /-- COUNTER_CLEAR (R716): DBG_TCTRL.CLR sets every operation counter to 0. -/
  | counterClear (tile : Fin 1152)
  /-- TRACE_WRITE (R724): The trace writer writes a trace pip into the DRAM ring, or drops it. -/
  | traceWrite
  /-- WAIT_DECLARE (R726): A write of DBG_WAIT_DECL declares or clears a queue or copy wait. -/
  | waitDeclare (tile : Fin 1152) (value : Word)
  /-- HANG_ANALYSIS_START (R727): A write of 0x2B02:01 reads every node's wait registers to start hang analysis. -/
  | hangAnalysisStart
  /-- HANG_ANALYSIS_SECOND_READ (R727): 1 ms later the wait registers are read again, the graph built and any cycle reported. -/
  | hangAnalysisSecondRead
  /-- JTAG_EXTEST (R733): EXTEST takes every functional pin from its function and logs 0x9103. -/
  | jtagExtest (pins shift : Nat)
  /-- JTAG_SAMPLE_PRELOAD (R729): SAMPLE/PRELOAD samples or preloads the boundary scan register. -/
  | jtagSamplePreload (pins shift : Nat)
  /-- JTAG_IDCODE (R729): IDCODE returns the device identification word. -/
  | jtagIdcode
  /-- JTAG_UNLOCK_CHAL (R730): UNLOCK_CHAL takes a role and returns an 8-byte challenge, or locks on role 0. -/
  | jtagUnlockChal (role : Fin 4)
  /-- JTAG_UNLOCK_RESP (R730): UNLOCK_RESP checks the response and grants the unlock if the lifecycle permits the role. -/
  | jtagUnlockResp (response : List Byte)
  /-- JTAG_DBG_STATUS (R729): DBG_STATUS returns the unlock level, EXTEST and last access status. -/
  | jtagDbgStatus
  /-- JTAG_DBG_ACCESS (R731): DBG_ACCESS performs one access to the global map and captures the previous result. -/
  | jtagDbgAccess (addr : BitVec 40) (data : Word) (write : Bool) (ecc : Ecc)
  /-- JTAG_BYPASS (R729): BYPASS, or any unassigned code, selects the bypass register. -/
  | jtagBypass (code : Byte)
  /-- TRST_ASSERT (R732): TRST_N asserting ends the debug unlock. -/
  | trstAssert
  /-- JTAG_IDLE_TIMEOUT (R732): SEC_IDLE seconds without a DBG_ACCESS end the debug unlock. -/
  | jtagIdleTimeout
  /-- INJECTION_ARM (R734): An authorised arm of fault injection replaces any armed injection and logs 0x9401. -/
  | injectionArm (slot : Fin 8)
  /-- INJECTION_DISARM (R734): An authorised disarm removes the armed injection. -/
  | injectionDisarm (slot : Fin 8)
  /-- TB_RATE_CODE (R78): The TB_RATE accumulator passes +1 or −1 on a tick, and the device issues a double or skip code to the counter and every replica. -/
  | tbRateCode
  /-- VAON_LOSS (R765): VAON falls below 0.70 V, the always-on domain is lost and RAIL_EN falls, ending every state in OFF. -/
  | vaonLoss
  /-- RAIL_POWER_GOOD_FALL (R634): During a requested power-down, a rail falls below its power-good threshold and the next rail is switched off 0.2 ms later. -/
  | railPowerGoodFall (rail : Fin 7)
  /-- CODE_GROUP_ERRORS (R462): A Sensor Event Link receiver counts 8 code-group or disparity errors within 256 code groups and enters RETRAIN. -/
  | codeGroupErrors (port : Fin 16)
  /-- SYNC_HEADER_LOCK (R502): Every allowed Tierlink lane shows 64 valid sync headers in a row, or a lane pair locks, and the port moves from LOCK to DESKEW. -/
  | syncHeaderLock (port : Fin 8) (lanes : Fin 16)
  /-- SYNC_HEADER_ERRORS (R503): 16 invalid sync headers within 64 blocks on a live Tierlink lane put the port in RETRAIN. -/
  | syncHeaderErrors (port : Fin 8)
  /-- CAN_BUS_ERROR (R525): A CAN bus error changes TEC or REC, moving the controller between error-active, error-passive and bus-off, with event 0x5801 on bus-off. -/
  | canBusError (bus : Fin 2) (tec rec : Fin 512)
  /-- CAN_FRAME_TRANSMITTED (R554): A CAN frame finishes on the bus, setting CAN_TX_RESULT, counting CAN_TX_FRAMES and raising the transmit-done interrupt. -/
  | canFrameTransmitted (bus : Fin 2)
  /-- ETH_LINK_CHANGE (R474): An Ethernet port gains or loses block lock, changing SEN_ETH_STATUS.LINK and counting SEN_ETH_LINK_DOWN on loss. -/
  | ethLinkChange (port : Fin 2) (up : Bool)
  /-- PCIE_LINK_UP (R520): The PCIe link trains to L0, setting HOST_STATUS.LINK_UP, SPEED and WIDTH. -/
  | pcieLinkUp (speed : Fin 5) (width : Fin 9) (bme : Bool)
  /-- HIGH_WATER_READ (R158): A read of a register with a high-water field returns it and restarts the mark from the current level. -/
  | highWaterRead (core : CoreAccess) (addr : BitVec 40)
  /-- PTP_INFO_READ (R474): A read of SEN_ETH_PTP_RX_INFO or _TX_INFO returns the oldest stamp's identification and removes the entry from its FIFO. -/
  | ptpInfoRead (port : Fin 2) (tx : Bool)
  /-- FULL_SCRUB_READ (R427): A full scrub reads the next burst at its rate, handles errors found and advances its progress record, ending as done. -/
  | fullScrubRead (sub : Fin 16) (first again : Burst)
  deriving DecidableEq, Repr

end Sys2Proof
end

