-- ==== Sys2Proof/Config.lean ====
section
/-! DEFINITION. What an implementation fixes, and the free values: constants with no body, of which nothing can be
proved but that they are what they are. -/

namespace Sys2Proof.Config

/-- A value the spec leaves open, fresh for each value of State's free-value counter (log entry 5). -/
opaque freeValue : Nat → BitVec 64

/-- Whether the trace intake of a tile has room at a time: R283 names the intake and gives it no depth (log entry 82). -/
opaque traceRoom : (tile now : Nat) → Bool

/-- The SEC-DED check bits of a beat's eight 64-bit lanes (R313); the spec gives no code (log entry 153). -/
opaque beatCheck : BitVec 512 → BitVec 64

/-- The byte that a DRAM address reads as after the re-form of the map that lost its contents, by the number of that
re-form's free value and by address (R426, log entry 16). -/
opaque lostByte : Nat → Nat → BitVec 8

/-- Random bytes that the device draws (challenges, session numbers), fresh for each counter value (log entry 6). -/
opaque random : Nat → BitVec 64

/-- Byte `i` of the SHA-256 of a byte string; FIPS 180-4 gives the function, the spec names it (log entry 6). -/
opaque sha256 : List Byte → (i : Nat) → Byte

/-- Byte `i` of the HMAC-SHA-256 of a byte string under a key (log entry 6). -/
opaque hmac : (key msg : List Byte) → (i : Nat) → Byte

/-- The maker key, derived from the fused device key (R539). -/
opaque makerKey : List Byte

/-- The audit key, derived from the fused device key (R550). -/
opaque auditKey : List Byte

/-- The key of the saved training set's tag, from the derived-key region (R600). -/
opaque trainKey : List Byte

/-- The digest of the firmware key, in the fuses (R593, R648). -/
opaque keyDigest : List Byte

/-- A P-256 signature `sig` of the digest of `msg` verifies under a public key (R647, log entry 6). -/
opaque sigOk : (key msg sig : List Byte) → Bool

/-- The DRAM address at which the loader put a logical tile's relocation package (R699); the spec gives no register for it. -/
opaque package : (ltile : Nat) → Nat

/-- The standby-region offset that base field `field` of clone `clone` of a logical tile takes: 0 SEG, 1 DIR, 2 SCALE, 3 ACT,
4 PRE, 5 ELIG (R703); the spec gives no layout of the package. -/
opaque cloneBase : (ltile clone field : Nat) → Nat

/-- Byte `i` of the text form of a version, 0 silicon revision and 1 manager firmware (R573); the spec gives no form. -/
opaque versionText : (kind value i : Nat) → Byte

/-- The bytes of the boot ROM (R44); the spec gives none. -/
opaque rom : Nat → Byte

/-- Part number and manufacturer of IDCODE, from the fuses (R729); the spec gives no value. -/
opaque idPart : BitVec 16

/-- The manufacturer code of IDCODE (R729). -/
opaque idMaker : BitVec 11

end Sys2Proof.Config
end

