-- ==== Sys2Proof/Machine/Bits.lean ====
section
/-! DEFINITION. Bit fields of a word, byte order, saturating and signed readings, and the one sparse store that the
register file and the memory are both made of. -/

namespace Sys2Proof

/-- Bits `lo .. lo+len-1` of a number. -/
def bits (w lo len : Nat) : Nat := (w >>> lo) % 2 ^ len

/-- A field of a register word. -/
def getF (w : Word) (lo len : Nat) : Nat := (w.extractLsb' lo len).toNat

/-- The ones of field `lo, len`. -/
def maskF (lo len : Nat) : Word := BitVec.ofNat 32 (2 ^ len - 1) <<< lo

/-- A register word with one field replaced. -/
def setF (w : Word) (lo len v : Nat) : Word :=
  (w &&& ~~~ maskF lo len) ||| (BitVec.ofNat 32 (v % 2 ^ len) <<< lo)

/-- The signed reading of the low `len` bits. -/
def sext (len v : Nat) : Int :=
  let u : Int := (v % 2 ^ len : Nat)
  if 2 * u < 2 ^ len then u else u - 2 ^ len

/-- The `len`-bit two's complement pattern of an integer. -/
def toBits (len : Nat) (i : Int) : Nat := (i % (2 ^ len : Nat)).toNat

/-- Saturation of an integer to `len` signed bits. -/
def satS (len : Nat) (i : Int) : Int := max (-(2 ^ (len - 1) : Nat)) (min ((2 ^ (len - 1) : Nat) - 1) i)

/-- A saturating increment of a `len`-bit counter. -/
def satInc (len v n : Nat) : Nat := min (2 ^ len - 1) (v + n)

/-- The little-endian bytes of a number (R9). -/
def leBytes : Nat → Nat → List Byte
  | 0, _ => []
  | k + 1, v => BitVec.ofNat 8 v :: leBytes k (v / 256)

/-- The number that little-endian bytes spell (R9). -/
def ofLe : List Byte → Nat
  | [] => 0
  | b :: bs => b.toNat + 256 * ofLe bs

/-- Ceiling division. -/
def ceilDiv (a b : Nat) : Nat := (a + b - 1) / b

namespace Sparse

variable {β : Type} [DecidableEq β]

/-- The value held under key `k`, or `d` where none is listed. -/
def find (d : β) : List (Nat × β) → Nat → β
  | [], _ => d
  | (a, v) :: r, k => if a = k then v else find d r k

/-- Remove what is held under key `k`. -/
def erase : List (Nat × β) → Nat → List (Nat × β)
  | [], _ => []
  | (a, v) :: r, k => if a = k then erase r k else (a, v) :: erase r k

/-- Insert or replace the entry of key `k`, keeping the keys rising. -/
def insert : List (Nat × β) → Nat → β → List (Nat × β)
  | [], k, x => [(k, x)]
  | (a, v) :: r, k, x =>
    if k < a then (k, x) :: (a, v) :: r
    else if a = k then (k, x) :: r
    else (a, v) :: insert r k x

/-- Store `x` under key `k`; the value that an unlisted key reads as is not listed. -/
def store (d : β) (l : List (Nat × β)) (k : Nat) (x : β) : List (Nat × β) :=
  if x = d then erase l k else insert l k x

/-- Keys strictly rise from `lo` on, and no entry equals what an unlisted key reads as. -/
def wfFrom (d : Nat → β) : Nat → List (Nat × β) → Bool
  | _, [] => true
  | lo, (a, v) :: r => decide (lo ≤ a) && decide (v ≠ d a) && wfFrom d (a + 1) r

/-- The canonical form. -/
def wf (d : Nat → β) (l : List (Nat × β)) : Bool := wfFrom d 0 l

end Sparse

end Sys2Proof
end

