-- ==== Sys2Proof/Machine/RegMap.lean ====
section
/-! DEFINITION. The register map: the address of every register by its name in the spec, and for every register its
fields with their access, reset value and assigned encodings. The rows are laid out from the register tables that end
the chapters of the spec. -/

namespace Sys2Proof.Machine

/-- How a field answers reads and writes (R10). `auth` fields accept writes only on the path of R255 and R543,
`bound` fields are the egress bounds of R465, `mgr` fields accept writes of manager cores only, `woData` fields
keep the value written for the action that uses it. -/
inductive Acc where
  | ro | rw | w1c | wo | woData | auth | woAuth | bound | mgr
  deriving DecidableEq, Repr

/-- One field: place, access, reset value, least and greatest assigned encoding (R16). -/
structure FieldRow where
  lo : Nat
  len : Nat
  acc : Acc
  rst : Nat
  least : Nat
  most : Nat
  deriving DecidableEq, Repr

/-- One register, or `count` alike registers `stride` bytes apart; `low` marks the low word of a 64-bit quantity (R12). -/
structure RegRow where
  off : Nat
  count : Nat
  stride : Nat
  low : Bool
  fields : List FieldRow
  deriving DecidableEq, Repr

/-- A field by its global register address. -/
structure RF where
  addr : Nat
  lo : Nat
  len : Nat
  deriving DecidableEq, Repr

/-- The base of a tile window (R37). -/
abbrev tileBase (t : Nat) : Nat := 0x100000000 + 0x40000 * t

/-- The base of a pod window (R37). -/
abbrev podBase (p : Nat) : Nat := 0x180000000 + 0x100000 * p

namespace RegMap

/-- Registers of block `tb` (manager base 0x01010000), part 0. Rules R121. -/
def tbRows0 : List RegRow :=
  [
   /- TB_COUNT_LO -/ ⟨0x0, 1, 0, true, [⟨0, 32, .ro, 0, 0, 4294967295⟩]⟩,
   /- TB_COUNT_HI -/ ⟨0x4, 1, 0, false, [⟨0, 32, .ro, 0, 0, 4294967295⟩]⟩,
   /- TB_CTRL -/ ⟨0x8, 1, 0, false, [⟨0, 2, .rw, 0, 0, 3⟩, ⟨4, 1, .wo, 0, 0, 1⟩]⟩,
   /- TB_SET_LO -/ ⟨0x10, 1, 0, true, [⟨0, 32, .rw, 0, 0, 4294967295⟩]⟩,
   /- TB_SET_HI -/ ⟨0x14, 1, 0, false, [⟨0, 32, .rw, 0, 0, 4294967295⟩]⟩,
   /- TB_RATE -/ ⟨0x18, 1, 0, false, [⟨0, 32, .rw, 0, 0, 4294967295⟩]⟩,
   /- TB_SLEW -/ ⟨0x1C, 1, 0, false, [⟨0, 16, .rw, 0, 0, 65535⟩]⟩,
   /- TB_STAT -/ ⟨0x20, 1, 0, false, [⟨0, 16, .ro, 0, 0, 65535⟩, ⟨16, 11, .ro, 0, 0, 2047⟩, ⟨31, 1, .w1c, 0, 0, 1⟩]⟩]

/-- Every register of block `tb`. -/
def tbRows : List RegRow := tbRows0

/-- Registers of block `replica` (tile offset 0x32000), part 0. Rules R122. -/
def replicaRows0 : List RegRow :=
  [
   /- TB_REPLICA_LO -/ ⟨0x0, 1, 0, true, [⟨0, 32, .ro, 0, 0, 4294967295⟩]⟩,
   /- TB_REPLICA_HI -/ ⟨0x4, 1, 0, false, [⟨0, 32, .ro, 0, 0, 4294967295⟩]⟩,
   /- TB_CMP_LO -/ ⟨0x8, 1, 0, true, [⟨0, 32, .rw, 0, 0, 4294967295⟩]⟩,
   /- TB_CMP_HI -/ ⟨0xC, 1, 0, false, [⟨0, 32, .rw, 0, 0, 4294967295⟩]⟩,
   /- TB_CMP_CTRL -/ ⟨0x10, 1, 0, false, [⟨0, 1, .rw, 0, 0, 1⟩, ⟨1, 1, .w1c, 0, 0, 1⟩]⟩,
   /- TB_LAUNCH_LO -/ ⟨0x18, 1, 0, true, [⟨0, 32, .ro, 0, 0, 4294967295⟩]⟩,
   /- TB_LAUNCH_HI -/ ⟨0x1C, 1, 0, false, [⟨0, 32, .ro, 0, 0, 4294967295⟩]⟩,
   /- TB_STEP_LO -/ ⟨0x20, 1, 0, true, [⟨0, 32, .ro, 0, 0, 4294967295⟩]⟩,
   /- TB_STEP_HI -/ ⟨0x24, 1, 0, false, [⟨0, 32, .ro, 0, 0, 4294967295⟩]⟩,
   /- TB_TILE_PHASE -/ ⟨0x28, 1, 0, false, [⟨0, 3, .ro, 0, 0, 7⟩]⟩]

/-- Every register of block `replica`. -/
def replicaRows : List RegRow := replicaRows0

/-- Registers of block `stepClock` (manager base 0x01000000), part 0. Rules R123. -/
def stepClockRows0 : List RegRow :=
  [
   /- STEP_CTRL -/ ⟨0x0, 1, 0, false, [⟨0, 1, .rw, 0, 0, 1⟩, ⟨1, 2, .rw, 0, 0, 2⟩, ⟨3, 1, .rw, 0, 0, 1⟩, ⟨4, 1, .rw, 0, 0, 1⟩, ⟨5, 1, .rw, 1, 0, 1⟩, ⟨6, 1, .rw, 1, 0, 1⟩]⟩,
   /- STEP_STATUS -/ ⟨0x4, 1, 0, false, [⟨0, 3, .ro, 0, 0, 7⟩, ⟨8, 1, .w1c, 0, 0, 1⟩, ⟨9, 1, .w1c, 0, 0, 1⟩, ⟨10, 1, .w1c, 0, 0, 1⟩, ⟨11, 1, .w1c, 0, 0, 1⟩, ⟨12, 1, .w1c, 0, 0, 1⟩]⟩,
   /- STEP_PERIOD -/ ⟨0x8, 1, 0, false, [⟨0, 28, .rw, 200000, 0, 268435455⟩]⟩,
   /- STEP_DEADLINE -/ ⟨0xC, 1, 0, false, [⟨0, 10, .rw, 896, 1, 1023⟩]⟩,
   /- STEP_STRETCH_MAX -/ ⟨0x10, 1, 0, false, [⟨0, 28, .rw, 0, 0, 268435455⟩]⟩,
   /- STEP_MIN_PERIOD -/ ⟨0x14, 1, 0, false, [⟨0, 28, .rw, 200000, 0, 268435455⟩]⟩,
   /- STEP_UPDATE_RESERVE -/ ⟨0x18, 1, 0, false, [⟨0, 28, .rw, 0, 0, 268435455⟩]⟩,
   /- STEP_FR_WATCHDOG -/ ⟨0x1C, 1, 0, false, [⟨0, 32, .rw, 200000000, 0, 4294967295⟩]⟩,
   /- STEP_FIRST_LO -/ ⟨0x20, 1, 0, true, [⟨0, 32, .rw, 0, 0, 4294967295⟩]⟩,
   /- STEP_FIRST_HI -/ ⟨0x24, 1, 0, false, [⟨0, 32, .rw, 0, 0, 4294967295⟩]⟩,
   /- STEP_NUM_LO -/ ⟨0x28, 1, 0, true, [⟨0, 32, .rw, 0, 0, 4294967295⟩]⟩,
   /- STEP_NUM_HI -/ ⟨0x2C, 1, 0, false, [⟨0, 32, .rw, 0, 0, 4294967295⟩]⟩,
   /- STEP_LAST_LAUNCH_LO -/ ⟨0x30, 1, 0, true, [⟨0, 32, .ro, 0, 0, 4294967295⟩]⟩,
   /- STEP_LAST_LAUNCH_HI -/ ⟨0x34, 1, 0, false, [⟨0, 32, .ro, 0, 0, 4294967295⟩]⟩,
   /- STEP_NEXT_LAUNCH_LO -/ ⟨0x38, 1, 0, true, [⟨0, 32, .ro, 0, 0, 4294967295⟩]⟩,
   /- STEP_NEXT_LAUNCH_HI -/ ⟨0x3C, 1, 0, false, [⟨0, 32, .ro, 0, 0, 4294967295⟩]⟩,
   /- STEP_SLIP_LO -/ ⟨0x40, 1, 0, true, [⟨0, 32, .ro, 0, 0, 4294967295⟩]⟩,
   /- STEP_SLIP_HI -/ ⟨0x44, 1, 0, false, [⟨0, 32, .ro, 0, 0, 4294967295⟩]⟩,
   /- STEP_LAST_CLOSE_LO -/ ⟨0x48, 1, 0, true, [⟨0, 32, .ro, 0, 0, 4294967295⟩]⟩,
   /- STEP_LAST_CLOSE_HI -/ ⟨0x4C, 1, 0, false, [⟨0, 32, .ro, 0, 0, 4294967295⟩]⟩,
   /- STEP_LAST_QUIESCE -/ ⟨0x50, 1, 0, false, [⟨0, 28, .ro, 0, 0, 268435455⟩]⟩,
   /- STEP_LAST_LATE -/ ⟨0x54, 1, 0, false, [⟨0, 32, .ro, 0, 0, 4294967295⟩]⟩,
   /- STEP_FORCED_CNT -/ ⟨0x58, 1, 0, false, [⟨0, 32, .ro, 0, 0, 4294967295⟩]⟩,
   /- STEP_STRETCH_CNT -/ ⟨0x5C, 1, 0, false, [⟨0, 32, .ro, 0, 0, 4294967295⟩]⟩]

/-- Registers of block `stepClock` (manager base 0x01000000), part 1. Rules R123. -/
def stepClockRows1 : List RegRow :=
  [
   /- STEP_OVERRUN_CNT -/ ⟨0x60, 1, 0, false, [⟨0, 32, .ro, 0, 0, 4294967295⟩]⟩,
   /- STEP_WINDOW -/ ⟨0x68, 1, 0, false, [⟨0, 7, .rw, 0, 0, 127⟩]⟩,
   /- STEP_WIN_BASE_LO -/ ⟨0x70, 1, 0, true, [⟨0, 32, .rw, 0, 0, 4294967295⟩]⟩,
   /- STEP_WIN_BASE_HI -/ ⟨0x74, 1, 0, false, [⟨0, 32, .rw, 0, 0, 4294967295⟩]⟩,
   /- STEP_SWITCH_CTRL -/ ⟨0x78, 1, 0, false, [⟨0, 6, .rw, 0, 0, 63⟩, ⟨8, 1, .rw, 1, 0, 1⟩, ⟨31, 1, .wo, 0, 0, 1⟩]⟩,
   /- STEP_SWITCH_AT_LO -/ ⟨0x80, 1, 0, true, [⟨0, 32, .rw, 0, 0, 4294967295⟩]⟩,
   /- STEP_SWITCH_AT_HI -/ ⟨0x84, 1, 0, false, [⟨0, 32, .rw, 0, 0, 4294967295⟩]⟩,
   /- STEP_SWITCH_STAT -/ ⟨0x88, 1, 0, false, [⟨0, 2, .ro, 0, 0, 3⟩, ⟨8, 8, .ro, 0, 0, 255⟩]⟩,
   /- STEP_SWITCH_GAP -/ ⟨0x8C, 1, 0, false, [⟨0, 28, .ro, 0, 0, 268435455⟩]⟩,
   /- STEP_INT_EN -/ ⟨0x90, 1, 0, false, [⟨0, 6, .rw, 0, 0, 63⟩]⟩]

/-- Every register of block `stepClock`. -/
def stepClockRows : List RegRow := stepClockRows0 ++ stepClockRows1

/-- Registers of block `pop` (tile offset 0x31000), part 0. Rules R157. -/
def popRows0 : List RegRow :=
  [
   /- POP_CTRL -/ ⟨0x0, 1, 0, false, [⟨0, 1, .rw, 0, 0, 1⟩, ⟨1, 3, .rw, 0, 0, 7⟩, ⟨4, 1, .rw, 0, 0, 1⟩, ⟨5, 1, .rw, 0, 0, 1⟩, ⟨6, 1, .rw, 0, 0, 1⟩, ⟨7, 1, .rw, 0, 0, 1⟩, ⟨8, 1, .rw, 0, 0, 1⟩, ⟨9, 1, .rw, 0, 0, 1⟩, ⟨10, 1, .rw, 0, 0, 1⟩, ⟨11, 1, .rw, 0, 0, 1⟩, ⟨12, 4, .rw, 0, 0, 14⟩]⟩,
   /- POP_RANGE -/ ⟨0x4, 1, 0, false, [⟨0, 14, .rw, 0, 0, 16383⟩, ⟨16, 15, .rw, 0, 0, 32767⟩]⟩,
   /- POP_STATE_BASE -/ ⟨0x8, 1, 0, false, [⟨0, 18, .rw, 0, 0, 262143⟩]⟩,
   /- POP_ACC_BASE -/ ⟨0xC, 1, 0, false, [⟨0, 18, .rw, 0, 0, 262143⟩]⟩,
   /- POP_THRESH -/ ⟨0x10, 1, 0, false, [⟨0, 16, .rw, 256, 0, 65535⟩, ⟨16, 16, .rw, 32768, 0, 65535⟩]⟩,
   /- POP_LEAK -/ ⟨0x14, 1, 0, false, [⟨0, 4, .rw, 0, 0, 15⟩, ⟨8, 8, .rw, 0, 0, 255⟩, ⟨16, 8, .rw, 0, 0, 255⟩]⟩,
   /- POP_BIAS -/ ⟨0x18, 1, 0, false, [⟨0, 16, .rw, 0, 0, 65535⟩]⟩,
   /- POP_ADAPT -/ ⟨0x1C, 1, 0, false, [⟨0, 16, .rw, 0, 0, 65535⟩, ⟨16, 4, .rw, 0, 0, 15⟩, ⟨20, 4, .rw, 0, 0, 15⟩]⟩,
   /- POP_RES -/ ⟨0x20, 1, 0, false, [⟨0, 16, .rw, 0, 0, 65535⟩, ⟨16, 16, .rw, 0, 0, 65535⟩]⟩,
   /- POP_QUANT -/ ⟨0x24, 1, 0, false, [⟨0, 16, .rw, 0, 0, 65535⟩, ⟨16, 8, .rw, 1, 0, 255⟩, ⟨24, 4, .rw, 0, 0, 15⟩]⟩,
   /- POP_MCAST -/ ⟨0x28, 1, 0, false, [⟨0, 12, .rw, 0, 0, 4095⟩]⟩,
   /- POP_AXON -/ ⟨0x2C, 1, 0, false, [⟨0, 24, .rw, 0, 0, 16777215⟩]⟩,
   /- POP_TAP -/ ⟨0x30, 1, 0, false, [⟨0, 20, .rw, 0, 0, 1048575⟩]⟩,
   /- POP_STATUS -/ ⟨0x34, 1, 0, false, [⟨0, 1, .w1c, 0, 0, 1⟩, ⟨8, 8, .ro, 0, 0, 255⟩, ⟨16, 15, .ro, 0, 0, 32767⟩]⟩,
   /- POP_SPIKE_CNT -/ ⟨0x38, 1, 0, false, [⟨0, 32, .ro, 0, 0, 4294967295⟩]⟩,
   /- POP_SAT_CNT -/ ⟨0x3C, 1, 0, false, [⟨0, 32, .ro, 0, 0, 4294967295⟩]⟩]

/-- Every register of block `pop`. -/
def popRows : List RegRow := popRows0

/-- Registers of block `ne` (tile offset 0x30000), part 0. Rules R158, R264. -/
def neRows0 : List RegRow :=
  [
   /- NE_CTRL -/ ⟨0x0, 1, 0, false, [⟨0, 1, .rw, 0, 0, 1⟩]⟩,
   /- NE_STATUS -/ ⟨0x4, 1, 0, false, [⟨0, 1, .ro, 0, 0, 1⟩, ⟨1, 5, .ro, 0, 0, 31⟩, ⟨6, 6, .ro, 0, 0, 63⟩, ⟨16, 1, .w1c, 0, 0, 1⟩, ⟨17, 5, .ro, 0, 0, 31⟩, ⟨24, 8, .ro, 0, 0, 255⟩]⟩,
   /- NE_WINDOW -/ ⟨0x8, 1, 0, false, [⟨0, 7, .rw, 0, 0, 127⟩]⟩,
   /- NE_WIN_BASE_LO -/ ⟨0xC, 1, 0, true, [⟨0, 32, .rw, 0, 0, 4294967295⟩]⟩,
   /- NE_WIN_BASE_HI -/ ⟨0x10, 1, 0, false, [⟨0, 32, .rw, 0, 0, 4294967295⟩]⟩,
   /- NE_LAST_CYCLES -/ ⟨0x14, 1, 0, false, [⟨0, 24, .ro, 0, 0, 16777215⟩]⟩,
   /- NE_LAST_SPIKES -/ ⟨0x18, 1, 0, false, [⟨0, 18, .ro, 0, 0, 262143⟩]⟩,
   /- NE_LAST_SAT -/ ⟨0x1C, 1, 0, false, [⟨0, 18, .ro, 0, 0, 262143⟩]⟩,
   /- NE_UPDATES_LO -/ ⟨0x20, 1, 0, true, [⟨0, 32, .ro, 0, 0, 4294967295⟩]⟩,
   /- NE_UPDATES_HI -/ ⟨0x24, 1, 0, false, [⟨0, 32, .ro, 0, 0, 4294967295⟩]⟩,
   /- NE_SPIKES_LO -/ ⟨0x28, 1, 0, true, [⟨0, 32, .ro, 0, 0, 4294967295⟩]⟩,
   /- NE_SPIKES_HI -/ ⟨0x2C, 1, 0, false, [⟨0, 32, .ro, 0, 0, 4294967295⟩]⟩,
   /- NE_STALL_BANK -/ ⟨0x30, 1, 0, false, [⟨0, 32, .ro, 0, 0, 4294967295⟩]⟩,
   /- NE_STALL_OUT -/ ⟨0x34, 1, 0, false, [⟨0, 32, .ro, 0, 0, 4294967295⟩]⟩,
   /- NE_TAP_DROP -/ ⟨0x38, 1, 0, false, [⟨0, 32, .ro, 0, 0, 4294967295⟩]⟩,
   /- NE_OUTFIFO -/ ⟨0x3C, 1, 0, false, [⟨0, 7, .ro, 0, 0, 127⟩, ⟨8, 7, .ro, 0, 0, 127⟩]⟩,
   /- NE_INT_EN -/ ⟨0x40, 1, 0, false, [⟨0, 3, .rw, 0, 0, 7⟩]⟩,
   /- NE_TRACE -/ ⟨0x80, 32, 4, false, [⟨0, 4, .rw, 0, 0, 15⟩, ⟨16, 16, .rw, 0, 0, 65535⟩]⟩,
   /- NE_MOD_MAP -/ ⟨0x100, 8, 4, false, [⟨0, 1, .rw, 0, 0, 1⟩, ⟨1, 1, .rw, 0, 0, 1⟩, ⟨2, 5, .rw, 0, 0, 31⟩]⟩]

/-- Every register of block `ne`. -/
def neRows : List RegRow := neRows0

/-- Registers of block `de` (tile offset 0x30800), part 0. Rules R218. -/
def deRows0 : List RegRow :=
  [
   /- DE_CTRL -/ ⟨0x0, 1, 0, false, [⟨0, 1, .rw, 0, 0, 1⟩, ⟨1, 1, .rw, 1, 0, 1⟩]⟩,
   /- DE_STATUS -/ ⟨0x4, 1, 0, false, [⟨0, 1, .ro, 0, 0, 1⟩, ⟨1, 2, .ro, 0, 0, 3⟩, ⟨3, 6, .ro, 0, 0, 63⟩, ⟨16, 1, .w1c, 0, 0, 1⟩]⟩,
   /- DE_WINBUF_BASE -/ ⟨0x8, 1, 0, false, [⟨0, 18, .rw, 0, 0, 262143⟩]⟩,
   /- DE_WINBUF_CAP -/ ⟨0xC, 1, 0, false, [⟨0, 13, .rw, 0, 0, 4096⟩]⟩,
   /- DE_WINBUF_FILL -/ ⟨0x10, 1, 0, false, [⟨0, 13, .ro, 0, 0, 8191⟩, ⟨16, 13, .ro, 0, 0, 8191⟩]⟩,
   /- DE_SYN_LO -/ ⟨0x18, 1, 0, true, [⟨0, 32, .ro, 0, 0, 4294967295⟩]⟩,
   /- DE_SYN_HI -/ ⟨0x1C, 1, 0, false, [⟨0, 32, .ro, 0, 0, 4294967295⟩]⟩,
   /- DE_MAC_LO -/ ⟨0x20, 1, 0, true, [⟨0, 32, .ro, 0, 0, 4294967295⟩]⟩,
   /- DE_MAC_HI -/ ⟨0x24, 1, 0, false, [⟨0, 32, .ro, 0, 0, 4294967295⟩]⟩,
   /- DE_JOBS -/ ⟨0x28, 1, 0, false, [⟨0, 32, .ro, 0, 0, 4294967295⟩]⟩,
   /- DE_STEALS -/ ⟨0x2C, 1, 0, false, [⟨0, 32, .ro, 0, 0, 4294967295⟩]⟩,
   /- DE_STALL_POD -/ ⟨0x30, 1, 0, false, [⟨0, 32, .ro, 0, 0, 4294967295⟩]⟩,
   /- DE_STALL_ACC -/ ⟨0x34, 1, 0, false, [⟨0, 32, .ro, 0, 0, 4294967295⟩]⟩,
   /- DE_DROP_LATE -/ ⟨0x38, 1, 0, false, [⟨0, 32, .ro, 0, 0, 4294967295⟩]⟩,
   /- DE_DROP_WINBUF -/ ⟨0x3C, 1, 0, false, [⟨0, 32, .ro, 0, 0, 4294967295⟩]⟩,
   /- DE_DROP_FAULT -/ ⟨0x40, 1, 0, false, [⟨0, 32, .ro, 0, 0, 4294967295⟩]⟩,
   /- DE_DROP_STALE -/ ⟨0x44, 1, 0, false, [⟨0, 32, .ro, 0, 0, 4294967295⟩]⟩,
   /- DE_DROP_FENCED -/ ⟨0x48, 1, 0, false, [⟨0, 32, .ro, 0, 0, 4294967295⟩]⟩,
   /- DE_DROP_WINLATE -/ ⟨0x4C, 1, 0, false, [⟨0, 32, .ro, 0, 0, 4294967295⟩]⟩,
   /- DE_DUP -/ ⟨0x50, 1, 0, false, [⟨0, 32, .ro, 0, 0, 4294967295⟩]⟩,
   /- DE_LAST_FAULT -/ ⟨0x54, 1, 0, false, [⟨0, 16, .ro, 0, 0, 65535⟩, ⟨16, 6, .ro, 0, 0, 63⟩, ⟨24, 8, .ro, 0, 0, 255⟩]⟩,
   /- DE_LAST_FAULT_SRC -/ ⟨0x58, 1, 0, false, [⟨0, 24, .ro, 0, 0, 16777215⟩]⟩,
   /- DE_INT_EN -/ ⟨0x5C, 1, 0, false, [⟨0, 3, .rw, 0, 0, 7⟩]⟩]

/-- Every register of block `de`. -/
def deRows : List RegRow := deRows0

/-- Registers of block `arb` (pod offset 0x81000), part 0. Rules R219, R263. -/
def arbRows0 : List RegRow :=
  [
   /- DE_ARB_CTRL -/ ⟨0x0, 1, 0, false, [⟨0, 6, .rw, 2, 1, 63⟩, ⟨8, 1, .rw, 0, 0, 1⟩, ⟨9, 1, .rw, 1, 0, 1⟩]⟩,
   /- DE_ARB_STATUS -/ ⟨0x4, 1, 0, false, [⟨0, 1, .ro, 0, 0, 1⟩, ⟨8, 1, .w1c, 0, 0, 1⟩, ⟨16, 6, .ro, 0, 0, 63⟩]⟩,
   /- DE_MATCH_MISS -/ ⟨0x8, 1, 0, false, [⟨0, 32, .ro, 0, 0, 4294967295⟩]⟩,
   /- DE_STALL_MATCH -/ ⟨0xC, 1, 0, false, [⟨0, 32, .ro, 0, 0, 4294967295⟩]⟩,
   /- DE_DQ_LEVEL -/ ⟨0x40, 16, 4, false, [⟨0, 7, .ro, 0, 0, 127⟩, ⟨8, 6, .ro, 0, 0, 63⟩, ⟨16, 7, .ro, 0, 0, 127⟩, ⟨24, 6, .ro, 0, 0, 63⟩]⟩,
   /- DE_PROJ_CTRL -/ ⟨0x100, 64, 4, false, [⟨0, 2, .rw, 0, 0, 2⟩, ⟨2, 1, .rw, 0, 0, 1⟩, ⟨8, 8, .rw, 0, 0, 255⟩, ⟨16, 16, .rw, 0, 0, 65535⟩]⟩,
   /- DE_PROJ_MODE -/ ⟨0x200, 64, 4, false, [⟨0, 16, .ro, 0, 0, 65535⟩, ⟨16, 16, .ro, 0, 0, 65535⟩]⟩,
   /- DE_PL_CTRL -/ ⟨0x300, 64, 4, false, [⟨0, 1, .rw, 0, 0, 1⟩, ⟨8, 8, .rw, 0, 0, 255⟩]⟩,
   /- DE_PL_RATE_MAX -/ ⟨0x400, 64, 4, false, [⟨0, 8, .auth, 0, 0, 255⟩]⟩,
   /- DE_PL_DRIFT_MAX -/ ⟨0x500, 64, 4, false, [⟨0, 32, .auth, 0, 0, 4294967295⟩]⟩,
   /- DE_PL_DRIFT_USED -/ ⟨0x600, 64, 4, false, [⟨0, 32, .auth, 0, 0, 4294967295⟩]⟩,
   /- DE_PL_STATUS -/ ⟨0x700, 1, 0, false, [⟨0, 1, .w1c, 0, 0, 1⟩, ⟨8, 6, .ro, 0, 0, 63⟩, ⟨16, 1, .ro, 0, 0, 1⟩, ⟨24, 8, .ro, 0, 0, 255⟩]⟩,
   /- DE_PL_LAST_CYCLES -/ ⟨0x704, 1, 0, false, [⟨0, 24, .ro, 0, 0, 16777215⟩]⟩,
   /- DE_PL_UPDATES -/ ⟨0x708, 1, 0, false, [⟨0, 32, .ro, 0, 0, 4294967295⟩]⟩,
   /- DE_PL_STALL -/ ⟨0x70C, 1, 0, false, [⟨0, 32, .ro, 0, 0, 4294967295⟩]⟩,
   /- DE_PL_MOD -/ ⟨0x710, 8, 4, false, [⟨0, 32, .ro, 0, 0, 4294967295⟩]⟩]

/-- Every register of block `arb`. -/
def arbRows : List RegRow := arbRows0

/-- Registers of block `syncRoot` (manager base 0x01020000), part 0. Rules R265, R394, R395, R665. -/
def syncRootRows0 : List RegRow :=
  [
   /- SYNC_MODQ_PUSH_LO -/ ⟨0x800, 1, 0, false, [⟨0, 32, .woData, 0, 0, 4294967295⟩]⟩,
   /- SYNC_MODQ_PUSH_HI -/ ⟨0x804, 1, 0, false, [⟨0, 3, .woData, 0, 0, 7⟩]⟩,
   /- SYNC_MODQ_STEP -/ ⟨0x808, 1, 0, false, [⟨0, 32, .rw, 0, 0, 4294967295⟩]⟩,
   /- SYNC_MODQ_STAT -/ ⟨0x80C, 1, 0, false, [⟨0, 7, .ro, 0, 0, 127⟩, ⟨8, 8, .ro, 0, 0, 255⟩, ⟨16, 8, .ro, 0, 0, 255⟩]⟩,
   /- SYNC_MOD_LAST -/ ⟨0x820, 8, 4, false, [⟨0, 32, .ro, 0, 0, 4294967295⟩]⟩,
   /- SYNC_STATUS -/ ⟨0x4, 1, 0, false, [⟨0, 1, .w1c, 0, 0, 1⟩, ⟨1, 1, .w1c, 0, 0, 1⟩]⟩,
   /- SYNC_BAR_MEMBER_LO -/ ⟨0x10, 1, 0, true, [⟨0, 32, .rw, 0, 0, 4294967295⟩]⟩,
   /- SYNC_BAR_MEMBER_HI -/ ⟨0x14, 1, 0, false, [⟨0, 32, .rw, 0, 0, 4294967295⟩]⟩,
   /- SYNC_BAR_ARRIVE -/ ⟨0x18, 1, 0, false, [⟨0, 6, .wo, 0, 0, 63⟩]⟩,
   /- SYNC_BAR_GEN_LO -/ ⟨0x20, 1, 0, true, [⟨0, 32, .ro, 0, 0, 4294967295⟩]⟩,
   /- SYNC_BAR_GEN_HI -/ ⟨0x24, 1, 0, false, [⟨0, 32, .ro, 0, 0, 4294967295⟩]⟩,
   /- SYNC_BAR_PEND_LO -/ ⟨0x28, 1, 0, true, [⟨0, 32, .ro, 0, 0, 4294967295⟩]⟩,
   /- SYNC_BAR_PEND_HI -/ ⟨0x2C, 1, 0, false, [⟨0, 32, .ro, 0, 0, 4294967295⟩]⟩,
   /- SYNC_BAR_IE_LO -/ ⟨0x30, 1, 0, true, [⟨0, 32, .rw, 0, 0, 4294967295⟩]⟩,
   /- SYNC_BAR_IE_HI -/ ⟨0x34, 1, 0, false, [⟨0, 32, .rw, 0, 0, 4294967295⟩]⟩,
   /- SYNC_RED_IN -/ ⟨0x40, 16, 4, false, [⟨0, 32, .rw, 0, 0, 4294967295⟩]⟩,
   /- SYNC_RED_OUT -/ ⟨0x80, 16, 4, false, [⟨0, 32, .ro, 0, 0, 4294967295⟩]⟩,
   /- SYNC_RED_CFG -/ ⟨0xC0, 16, 4, false, [⟨0, 3, .ro, 0, 0, 7⟩, ⟨8, 6, .ro, 0, 0, 63⟩]⟩,
   /- SYNC_FLT_REPORT -/ ⟨0x100, 1, 0, false, [⟨0, 20, .wo, 0, 0, 1048575⟩]⟩,
   /- SYNC_FLT_STAT -/ ⟨0x104, 1, 0, false, [⟨0, 3, .ro, 0, 0, 7⟩, ⟨8, 1, .w1c, 0, 0, 1⟩, ⟨16, 16, .ro, 0, 0, 65535⟩]⟩,
   /- SYNC_INT_EN -/ ⟨0x10C, 1, 0, false, [⟨0, 2, .rw, 0, 0, 3⟩]⟩,
   /- SYNC_ROOT_RED_CFG -/ ⟨0x200, 16, 4, false, [⟨0, 3, .rw, 0, 0, 5⟩, ⟨8, 6, .rw, 0, 0, 63⟩]⟩,
   /- SYNC_FLT_SUSPECT -/ ⟨0x240, 1, 0, false, [⟨0, 20, .ro, 1048575, 0, 1048575⟩]⟩,
   /- SYNC_FLT_COUNT -/ ⟨0x244, 1, 0, false, [⟨0, 32, .ro, 0, 0, 4294967295⟩]⟩]

/-- Registers of block `syncRoot` (manager base 0x01020000), part 1. Rules R265, R394, R395, R665. -/
def syncRootRows1 : List RegRow :=
  [
   /- SYNC_FLT_STEP -/ ⟨0x248, 1, 0, false, [⟨0, 32, .ro, 0, 0, 4294967295⟩]⟩,
   /- SYNC_FLT_QLEVEL -/ ⟨0x24C, 1, 0, false, [⟨0, 5, .ro, 0, 0, 31⟩, ⟨8, 1, .w1c, 0, 0, 1⟩]⟩,
   /- SYNC_BAR_LAST_CYC -/ ⟨0x250, 1, 0, false, [⟨0, 8, .ro, 0, 0, 255⟩]⟩,
   /- SYNC_ROOT_STATUS -/ ⟨0x254, 1, 0, false, [⟨0, 1, .w1c, 0, 0, 1⟩]⟩,
   /- SYNC_FW_SWITCH -/ ⟨0x300, 1, 0, false, [⟨0, 8, .rw, 0, 0, 255⟩, ⟨30, 1, .ro, 0, 0, 1⟩, ⟨31, 1, .wo, 0, 0, 1⟩]⟩]

/-- Every register of block `syncRoot`. -/
def syncRootRows : List RegRow := syncRootRows0 ++ syncRootRows1

/-- Registers of block `evm` (tile offset 0x31800), part 0. Rules R311. -/
def evmRows0 : List RegRow :=
  [
   /- EVM_CTRL -/ ⟨0x0, 1, 0, false, [⟨0, 1, .rw, 1, 0, 1⟩, ⟨1, 1, .rw, 1, 0, 1⟩]⟩,
   /- EVM_STATUS -/ ⟨0x4, 1, 0, false, [⟨0, 1, .ro, 0, 0, 1⟩, ⟨1, 1, .w1c, 0, 0, 1⟩, ⟨2, 1, .w1c, 0, 0, 1⟩, ⟨3, 1, .w1c, 0, 0, 1⟩, ⟨4, 1, .w1c, 0, 0, 1⟩, ⟨5, 1, .w1c, 0, 0, 1⟩, ⟨6, 1, .w1c, 0, 0, 1⟩, ⟨7, 1, .w1c, 0, 0, 1⟩]⟩,
   /- EVM_LINK -/ ⟨0x8, 1, 0, false, [⟨0, 4, .ro, 15, 0, 15⟩, ⟨4, 4, .ro, 0, 0, 15⟩, ⟨8, 4, .ro, 0, 0, 15⟩]⟩,
   /- EVM_THR_CFG -/ ⟨0xC, 1, 0, false, [⟨0, 4, .rw, 8, 1, 15⟩, ⟨4, 8, .rw, 4, 1, 255⟩, ⟨16, 12, .rw, 256, 1, 4095⟩]⟩,
   /- EVM_THR_HOLD -/ ⟨0x10, 1, 0, false, [⟨0, 9, .rw, 16, 1, 256⟩, ⟨16, 16, .rw, 64, 0, 65535⟩]⟩,
   /- EVM_THR_RATE -/ ⟨0x14, 1, 0, false, [⟨0, 9, .ro, 256, 0, 511⟩, ⟨16, 3, .ro, 4, 0, 7⟩]⟩,
   /- EVM_ECHO_CFG -/ ⟨0x18, 1, 0, false, [⟨0, 16, .rw, 256, 0, 65535⟩]⟩,
   /- EVM_TRACE_QUOTA -/ ⟨0x1C, 1, 0, false, [⟨0, 5, .rw, 30, 0, 30⟩]⟩,
   /- EVM_MC_ADDR -/ ⟨0x20, 1, 0, false, [⟨0, 12, .rw, 0, 0, 4095⟩, ⟨31, 1, .rw, 0, 0, 1⟩]⟩,
   /- EVM_MC_DATA -/ ⟨0x24, 1, 0, false, [⟨0, 32, .rw, 0, 0, 4294967295⟩]⟩,
   /- EVM_DS_LEVEL -/ ⟨0x28, 1, 0, false, [⟨0, 11, .ro, 0, 0, 2047⟩, ⟨16, 11, .ro, 0, 0, 2047⟩]⟩,
   /- EVM_SPILL_BASE -/ ⟨0x2C, 1, 0, false, [⟨0, 19, .rw, 0, 0, 524287⟩]⟩,
   /- EVM_SPILL_LEN -/ ⟨0x30, 1, 0, false, [⟨0, 10, .rw, 0, 0, 1023⟩]⟩,
   /- EVM_SPILL_LEVEL -/ ⟨0x34, 1, 0, false, [⟨0, 16, .ro, 0, 0, 65535⟩]⟩,
   /- EVM_SEAM -/ ⟨0x38, 1, 0, false, [⟨0, 7, .ro, 0, 0, 127⟩, ⟨8, 7, .ro, 0, 0, 127⟩]⟩,
   /- EVM_LAST_STORM -/ ⟨0x3C, 1, 0, false, [⟨0, 11, .ro, 0, 0, 2047⟩, ⟨12, 3, .ro, 0, 0, 7⟩, ⟨16, 2, .ro, 0, 0, 3⟩]⟩,
   /- EVM_INJ_LO -/ ⟨0x40, 1, 0, true, [⟨0, 32, .ro, 0, 0, 4294967295⟩]⟩,
   /- EVM_INJ_HI -/ ⟨0x44, 1, 0, false, [⟨0, 32, .ro, 0, 0, 4294967295⟩]⟩,
   /- EVM_EJ_LO -/ ⟨0x48, 1, 0, true, [⟨0, 32, .ro, 0, 0, 4294967295⟩]⟩,
   /- EVM_EJ_HI -/ ⟨0x4C, 1, 0, false, [⟨0, 32, .ro, 0, 0, 4294967295⟩]⟩,
   /- EVM_DEFL_LO -/ ⟨0x50, 1, 0, true, [⟨0, 32, .ro, 0, 0, 4294967295⟩]⟩,
   /- EVM_DEFL_HI -/ ⟨0x54, 1, 0, false, [⟨0, 32, .ro, 0, 0, 4294967295⟩]⟩,
   /- EVM_DROP_LATE -/ ⟨0x58, 1, 0, false, [⟨0, 32, .ro, 0, 0, 4294967295⟩]⟩,
   /- EVM_DROP_TAG -/ ⟨0x5C, 1, 0, false, [⟨0, 32, .ro, 0, 0, 4294967295⟩]⟩]

/-- Registers of block `evm` (tile offset 0x31800), part 1. Rules R311. -/
def evmRows1 : List RegRow :=
  [
   /- EVM_DROP_FENCE -/ ⟨0x60, 1, 0, false, [⟨0, 32, .ro, 0, 0, 4294967295⟩]⟩,
   /- EVM_DROP_SPILL -/ ⟨0x64, 1, 0, false, [⟨0, 32, .ro, 0, 0, 4294967295⟩]⟩,
   /- EVM_DROP_UNDELIV -/ ⟨0x68, 1, 0, false, [⟨0, 32, .ro, 0, 0, 4294967295⟩]⟩,
   /- EVM_DROP_TRACE -/ ⟨0x6C, 1, 0, false, [⟨0, 32, .ro, 0, 0, 4294967295⟩]⟩,
   /- EVM_SPILLED -/ ⟨0x70, 1, 0, false, [⟨0, 32, .ro, 0, 0, 4294967295⟩]⟩,
   /- EVM_STORM -/ ⟨0x74, 1, 0, false, [⟨0, 32, .ro, 0, 0, 4294967295⟩]⟩,
   /- EVM_CRC_ERR -/ ⟨0x78, 1, 0, false, [⟨0, 32, .ro, 0, 0, 4294967295⟩]⟩,
   /- EVM_RETRY -/ ⟨0x7C, 1, 0, false, [⟨0, 32, .ro, 0, 0, 4294967295⟩]⟩,
   /- EVM_ECHO_TX -/ ⟨0x80, 1, 0, false, [⟨0, 32, .ro, 0, 0, 4294967295⟩]⟩,
   /- EVM_ECHO_RX -/ ⟨0x84, 1, 0, false, [⟨0, 32, .ro, 0, 0, 4294967295⟩]⟩,
   /- EVM_INJ_WAIT -/ ⟨0x88, 1, 0, false, [⟨0, 32, .ro, 0, 0, 4294967295⟩]⟩,
   /- EVM_SEAM_FULL -/ ⟨0x8C, 1, 0, false, [⟨0, 32, .ro, 0, 0, 4294967295⟩]⟩,
   /- EVM_INT_EN -/ ⟨0x90, 1, 0, false, [⟨0, 4, .rw, 0, 0, 15⟩]⟩]

/-- Every register of block `evm`. -/
def evmRows : List RegRow := evmRows0 ++ evmRows1

/-- Registers of block `scm` (tile offset 0x35000), part 0. Rules R315, R351. -/
def scmRows0 : List RegRow :=
  [
   /- SCM_CTRL -/ ⟨0x0, 1, 0, false, [⟨0, 1, .rw, 0, 0, 1⟩]⟩,
   /- SCM_STATUS -/ ⟨0x4, 1, 0, false, [⟨0, 1, .w1c, 0, 0, 1⟩, ⟨1, 1, .w1c, 0, 0, 1⟩, ⟨2, 1, .w1c, 0, 0, 1⟩, ⟨4, 4, .ro, 15, 0, 15⟩]⟩,
   /- SCM_POS -/ ⟨0x8, 1, 0, false, [⟨0, 10, .ro, 0, 0, 1023⟩, ⟨16, 10, .ro, 0, 0, 1023⟩]⟩,
   /- SCM_ECC_CORR -/ ⟨0xC, 1, 0, false, [⟨0, 32, .ro, 0, 0, 4294967295⟩]⟩,
   /- SCM_ECC_UNCORR -/ ⟨0x10, 1, 0, false, [⟨0, 32, .ro, 0, 0, 4294967295⟩]⟩,
   /- SCM_UNROUTED -/ ⟨0x14, 1, 0, false, [⟨0, 32, .ro, 0, 0, 4294967295⟩]⟩,
   /- SCM_BEATS_LO -/ ⟨0x18, 1, 0, true, [⟨0, 32, .ro, 0, 0, 4294967295⟩]⟩,
   /- SCM_BEATS_HI -/ ⟨0x1C, 1, 0, false, [⟨0, 32, .ro, 0, 0, 4294967295⟩]⟩,
   /- SCM_INT_EN -/ ⟨0x20, 1, 0, false, [⟨0, 3, .rw, 0, 0, 7⟩]⟩,
   /- SCM_SLOT -/ ⟨0x1000, 1024, 4, false, [⟨0, 27, .rw, 0, 0, 134217727⟩]⟩]

/-- Every register of block `scm`. -/
def scmRows : List RegRow := scmRows0

/-- Registers of block `podStream` (pod offset 0x82000), part 0. Rules R352. -/
def podStreamRows0 : List RegRow :=
  [
   /- SCM_PI_CTRL -/ ⟨0x0, 1, 0, false, [⟨0, 1, .rw, 0, 0, 1⟩]⟩,
   /- SCM_PI_STATUS -/ ⟨0x4, 1, 0, false, [⟨0, 1, .ro, 0, 0, 1⟩, ⟨1, 1, .w1c, 0, 0, 1⟩]⟩,
   /- SCM_PI_NULL_TX -/ ⟨0x8, 1, 0, false, [⟨0, 32, .ro, 0, 0, 4294967295⟩]⟩,
   /- SCM_PI_FAIL -/ ⟨0xC, 1, 0, false, [⟨0, 6, .ro, 0, 0, 63⟩, ⟨8, 3, .ro, 0, 0, 7⟩]⟩,
   /- SCM_CH_CFG -/ ⟨0x800, 64, 32, false, [⟨0, 2, .rw, 0, 0, 3⟩, ⟨2, 1, .rw, 0, 0, 1⟩, ⟨3, 4, .rw, 0, 0, 15⟩, ⟨8, 6, .rw, 0, 0, 63⟩, ⟨14, 1, .rw, 0, 0, 1⟩, ⟨16, 2, .rw, 0, 0, 2⟩]⟩,
   /- SCM_CH_SCHED -/ ⟨0x804, 64, 32, false, [⟨0, 16, .rw, 0, 0, 65535⟩, ⟨16, 16, .rw, 0, 0, 65535⟩]⟩,
   /- SCM_CH_BASE -/ ⟨0x808, 64, 32, false, [⟨0, 19, .rw, 0, 0, 524287⟩]⟩,
   /- SCM_CH_LEN -/ ⟨0x80C, 64, 32, false, [⟨0, 20, .rw, 0, 0, 1048575⟩]⟩,
   /- SCM_CH_CUR -/ ⟨0x810, 64, 32, false, [⟨0, 20, .ro, 0, 0, 1048575⟩]⟩,
   /- SCM_CH_STAT -/ ⟨0x814, 64, 32, false, [⟨0, 1, .ro, 0, 0, 1⟩, ⟨1, 1, .w1c, 0, 0, 1⟩, ⟨2, 1, .w1c, 0, 0, 1⟩]⟩]

/-- Every register of block `podStream`. -/
def podStreamRows : List RegRow := podStreamRows0

/-- Registers of block `loader` (manager base 0x01030000), part 0. Rules R353. -/
def loaderRows0 : List RegRow :=
  [
   /- SCM_LD_CTRL -/ ⟨0x0, 1, 0, false, [⟨0, 1, .wo, 0, 0, 1⟩, ⟨1, 1, .wo, 0, 0, 1⟩]⟩,
   /- SCM_LD_STAT -/ ⟨0x4, 1, 0, false, [⟨0, 1, .ro, 0, 0, 1⟩, ⟨1, 2, .ro, 0, 0, 3⟩, ⟨3, 1, .ro, 0, 0, 1⟩, ⟨4, 1, .w1c, 0, 0, 1⟩, ⟨8, 1, .ro, 0, 0, 1⟩, ⟨9, 1, .ro, 0, 0, 1⟩, ⟨16, 10, .ro, 0, 0, 1023⟩]⟩,
   /- SCM_LD_ERR -/ ⟨0x8, 1, 0, false, [⟨0, 11, .ro, 0, 0, 2047⟩, ⟨16, 10, .ro, 0, 0, 1023⟩, ⟨28, 4, .ro, 0, 0, 15⟩]⟩,
   /- SCM_CLASS -/ ⟨0x100, 64, 4, false, [⟨0, 32, .rw, 0, 0, 4294967295⟩]⟩]

/-- Every register of block `loader`. -/
def loaderRows : List RegRow := loaderRows0

/-- Registers of block `stream` (manager base 0x01040000), part 0. Rules R325, R354. -/
def streamRows0 : List RegRow :=
  [
   /- STR_CTRL -/ ⟨0x0, 1, 0, false, [⟨0, 1, .rw, 0, 0, 1⟩]⟩,
   /- STR_STATUS -/ ⟨0x4, 1, 0, false, [⟨0, 16, .ro, 0, 0, 65535⟩, ⟨16, 6, .ro, 0, 0, 63⟩, ⟨31, 1, .w1c, 0, 0, 1⟩]⟩,
   /- STR_BUF_LEVEL -/ ⟨0x8, 1, 0, false, [⟨0, 11, .ro, 0, 0, 2047⟩, ⟨16, 9, .ro, 0, 0, 511⟩]⟩,
   /- STR_NULL -/ ⟨0xC, 1, 0, false, [⟨0, 32, .ro, 0, 0, 4294967295⟩]⟩,
   /- STR_WR_DISCARD -/ ⟨0x10, 1, 0, false, [⟨0, 32, .ro, 0, 0, 4294967295⟩]⟩,
   /- STR_OVERRUN -/ ⟨0x14, 1, 0, false, [⟨0, 32, .ro, 0, 0, 4294967295⟩]⟩,
   /- STR_FAILED -/ ⟨0x18, 1, 0, false, [⟨0, 32, .ro, 0, 0, 4294967295⟩]⟩,
   /- STR_OBS_ABANDON -/ ⟨0x1C, 1, 0, false, [⟨0, 32, .ro, 0, 0, 4294967295⟩]⟩,
   /- STR_RD_BYTES_LO -/ ⟨0x20, 1, 0, true, [⟨0, 32, .ro, 0, 0, 4294967295⟩]⟩,
   /- STR_RD_BYTES_HI -/ ⟨0x24, 1, 0, false, [⟨0, 32, .ro, 0, 0, 4294967295⟩]⟩,
   /- STR_WR_BYTES_LO -/ ⟨0x28, 1, 0, true, [⟨0, 32, .ro, 0, 0, 4294967295⟩]⟩,
   /- STR_WR_BYTES_HI -/ ⟨0x2C, 1, 0, false, [⟨0, 32, .ro, 0, 0, 4294967295⟩]⟩,
   /- STR_WB_STATE -/ ⟨0x30, 1, 0, false, [⟨0, 1, .ro, 0, 0, 1⟩]⟩,
   /- STR_INT_EN -/ ⟨0x34, 1, 0, false, [⟨0, 3, .rw, 0, 0, 7⟩]⟩,
   /- STR_DESC0 -/ ⟨0x800, 64, 32, false, [⟨0, 1, .rw, 0, 0, 1⟩, ⟨1, 3, .rw, 0, 1, 3⟩, ⟨4, 2, .rw, 0, 0, 3⟩, ⟨6, 1, .rw, 0, 0, 1⟩, ⟨8, 2, .rw, 0, 0, 2⟩]⟩,
   /- STR_DESC1 -/ ⟨0x804, 64, 32, false, [⟨0, 16, .rw, 0, 0, 65535⟩, ⟨16, 16, .rw, 0, 0, 65535⟩]⟩,
   /- STR_DESC2 -/ ⟨0x808, 64, 32, false, [⟨0, 16, .rw, 0, 0, 65535⟩, ⟨16, 11, .rw, 0, 0, 2047⟩]⟩,
   /- STR_DESC3 -/ ⟨0x80C, 64, 32, false, [⟨0, 10, .rw, 0, 0, 1023⟩, ⟨16, 11, .rw, 0, 0, 2047⟩]⟩,
   /- STR_DESC4 -/ ⟨0x810, 64, 32, false, [⟨0, 32, .rw, 0, 0, 4294967295⟩]⟩,
   /- STR_DESC5 -/ ⟨0x814, 64, 32, false, [⟨0, 8, .rw, 0, 0, 255⟩]⟩,
   /- STR_DESC6 -/ ⟨0x818, 64, 32, false, [⟨0, 32, .rw, 0, 0, 4294967295⟩]⟩,
   /- STR_DESC7 -/ ⟨0x81C, 64, 32, false, [⟨0, 7, .rw, 0, 0, 71⟩, ⟨8, 6, .rw, 0, 0, 63⟩, ⟨14, 10, .rw, 0, 0, 1023⟩, ⟨24, 8, .rw, 0, 0, 255⟩]⟩]

/-- Every register of block `stream`. -/
def streamRows : List RegRow := streamRows0

/-- Registers of block `queue` (tile offset 0x33000), part 0. Rules R393, R620, R665. -/
def queueRows0 : List RegRow :=
  [
   /- Q_CTRL -/ ⟨0x0, 1, 0, false, [⟨0, 1, .rw, 0, 0, 1⟩, ⟨8, 8, .rw, 64, 0, 255⟩]⟩,
   /- Q_STATUS -/ ⟨0x4, 1, 0, false, [⟨0, 1, .w1c, 0, 0, 1⟩, ⟨1, 1, .w1c, 0, 0, 1⟩, ⟨16, 10, .ro, 0, 0, 1023⟩]⟩,
   /- Q_CMD -/ ⟨0x8, 1, 0, false, [⟨0, 3, .wo, 0, 0, 7⟩, ⟨16, 10, .wo, 0, 0, 1023⟩]⟩,
   /- Q_CMD_RESULT -/ ⟨0xC, 1, 0, false, [⟨0, 4, .ro, 0, 0, 15⟩, ⟨31, 1, .ro, 0, 0, 1⟩]⟩,
   /- Q_TXBUF0 -/ ⟨0x10, 1, 0, false, [⟨0, 32, .rw, 0, 0, 4294967295⟩]⟩,
   /- Q_TXBUF1 -/ ⟨0x14, 1, 0, false, [⟨0, 32, .rw, 0, 0, 4294967295⟩]⟩,
   /- Q_TXBUF2 -/ ⟨0x18, 1, 0, false, [⟨0, 32, .rw, 0, 0, 4294967295⟩]⟩,
   /- Q_TXBUF3 -/ ⟨0x1C, 1, 0, false, [⟨0, 32, .rw, 0, 0, 4294967295⟩]⟩,
   /- Q_SEND -/ ⟨0x20, 1, 0, false, [⟨0, 10, .wo, 0, 0, 1023⟩]⟩,
   /- Q_SEND_RESULT -/ ⟨0x24, 1, 0, false, [⟨0, 4, .ro, 0, 0, 15⟩, ⟨4, 1, .ro, 0, 0, 1⟩, ⟨8, 12, .ro, 0, 0, 4095⟩, ⟨20, 10, .ro, 0, 0, 1023⟩, ⟨31, 1, .ro, 0, 0, 1⟩]⟩,
   /- Q_POP -/ ⟨0x28, 1, 0, false, [⟨0, 10, .wo, 0, 0, 1023⟩, ⟨16, 12, .wo, 0, 0, 4095⟩]⟩,
   /- Q_POP_RESULT -/ ⟨0x2C, 1, 0, false, [⟨0, 4, .ro, 0, 0, 15⟩, ⟨31, 1, .ro, 0, 0, 1⟩]⟩,
   /- Q_TX_LO -/ ⟨0x30, 1, 0, true, [⟨0, 32, .ro, 0, 0, 4294967295⟩]⟩,
   /- Q_TX_HI -/ ⟨0x34, 1, 0, false, [⟨0, 32, .ro, 0, 0, 4294967295⟩]⟩,
   /- Q_RX_LO -/ ⟨0x38, 1, 0, true, [⟨0, 32, .ro, 0, 0, 4294967295⟩]⟩,
   /- Q_RX_HI -/ ⟨0x3C, 1, 0, false, [⟨0, 32, .ro, 0, 0, 4294967295⟩]⟩,
   /- Q_NO_CREDIT -/ ⟨0x40, 1, 0, false, [⟨0, 32, .ro, 0, 0, 4294967295⟩]⟩,
   /- Q_DROP_STALE -/ ⟨0x44, 1, 0, false, [⟨0, 32, .ro, 0, 0, 4294967295⟩]⟩,
   /- Q_DROP_CLOSED -/ ⟨0x48, 1, 0, false, [⟨0, 32, .ro, 0, 0, 4294967295⟩]⟩,
   /- Q_DROP_FOREIGN -/ ⟨0x4C, 1, 0, false, [⟨0, 32, .ro, 0, 0, 4294967295⟩]⟩,
   /- Q_DROP_SEQ -/ ⟨0x50, 1, 0, false, [⟨0, 32, .ro, 0, 0, 4294967295⟩]⟩,
   /- Q_CR_DISCARD -/ ⟨0x54, 1, 0, false, [⟨0, 32, .ro, 0, 0, 4294967295⟩]⟩,
   /- Q_GAP_CNT -/ ⟨0x58, 1, 0, false, [⟨0, 32, .ro, 0, 0, 4294967295⟩]⟩,
   /- Q_INT_EN -/ ⟨0x5C, 1, 0, false, [⟨0, 1, .rw, 0, 0, 1⟩, ⟨1, 1, .rw, 0, 0, 1⟩, ⟨2, 1, .rw, 0, 0, 1⟩]⟩]

/-- Registers of block `queue` (tile offset 0x33000), part 1. Rules R393, R620, R665. -/
def queueRows1 : List RegRow :=
  [
   /- Q_READY -/ ⟨0x400, 32, 4, false, [⟨0, 32, .ro, 0, 0, 4294967295⟩]⟩,
   /- Q_READY_IE -/ ⟨0x480, 32, 4, false, [⟨0, 32, .rw, 0, 0, 4294967295⟩]⟩,
   /- Q_FW_CTRL -/ ⟨0x600, 1, 0, false, [⟨0, 1, .rw, 0, 0, 1⟩, ⟨1, 1, .wo, 0, 0, 1⟩, ⟨2, 1, .wo, 0, 0, 1⟩, ⟨3, 1, .rw, 0, 0, 1⟩]⟩,
   /- Q_FW_STAT -/ ⟨0x604, 1, 0, false, [⟨0, 1, .ro, 0, 0, 1⟩, ⟨1, 1, .ro, 0, 0, 1⟩, ⟨2, 1, .ro, 0, 0, 1⟩, ⟨8, 8, .ro, 0, 0, 255⟩, ⟨16, 11, .ro, 0, 0, 2047⟩, ⟨3, 1, .w1c, 0, 0, 1⟩, ⟨4, 1, .ro, 0, 0, 1⟩, ⟨5, 1, .w1c, 0, 0, 1⟩]⟩,
   /- Q_FW_CHECK -/ ⟨0x608, 1, 0, false, [⟨0, 32, .ro, 0, 0, 4294967295⟩]⟩,
   /- Q_FW_DROP -/ ⟨0x60C, 1, 0, false, [⟨0, 32, .ro, 0, 0, 4294967295⟩]⟩,
   /- Q_FW_BITMAP -/ ⟨0x680, 32, 4, false, [⟨0, 32, .ro, 0, 0, 4294967295⟩]⟩]

/-- Every register of block `queue`. -/
def queueRows : List RegRow := queueRows0 ++ queueRows1

/-- Registers of block `queueDesc` (tile offset 0x38000), part 0. Rules R360. -/
def queueDescRows0 : List RegRow :=
  [
   /- Q_DESC0 -/ ⟨0x0, 1024, 16, false, [⟨0, 2, .rw, 0, 0, 2⟩, ⟨2, 4, .rw, 0, 0, 15⟩, ⟨6, 2, .rw, 0, 0, 3⟩, ⟨8, 12, .rw, 0, 0, 4095⟩, ⟨24, 8, .rw, 0, 0, 255⟩]⟩,
   /- Q_DESC1 -/ ⟨0x4, 1024, 16, false, [⟨0, 32, .rw, 0, 0, 4294967295⟩]⟩,
   /- Q_DESC2 -/ ⟨0x8, 1024, 16, false, [⟨0, 32, .rw, 0, 0, 4294967295⟩]⟩,
   /- Q_DESC3 -/ ⟨0xC, 1024, 16, false, [⟨0, 28, .rw, 0, 0, 268435455⟩]⟩]

/-- Every register of block `queueDesc`. -/
def queueDescRows : List RegRow := queueDescRows0

/-- Registers of block `syncNode` (tile offset 0x32800), part 0. Rules R394. -/
def syncNodeRows0 : List RegRow :=
  [
   /- SYNC_STATUS -/ ⟨0x4, 1, 0, false, [⟨0, 1, .w1c, 0, 0, 1⟩, ⟨1, 1, .w1c, 0, 0, 1⟩]⟩,
   /- SYNC_BAR_MEMBER_LO -/ ⟨0x10, 1, 0, true, [⟨0, 32, .rw, 0, 0, 4294967295⟩]⟩,
   /- SYNC_BAR_MEMBER_HI -/ ⟨0x14, 1, 0, false, [⟨0, 32, .rw, 0, 0, 4294967295⟩]⟩,
   /- SYNC_BAR_ARRIVE -/ ⟨0x18, 1, 0, false, [⟨0, 6, .wo, 0, 0, 63⟩]⟩,
   /- SYNC_BAR_GEN_LO -/ ⟨0x20, 1, 0, true, [⟨0, 32, .ro, 0, 0, 4294967295⟩]⟩,
   /- SYNC_BAR_GEN_HI -/ ⟨0x24, 1, 0, false, [⟨0, 32, .ro, 0, 0, 4294967295⟩]⟩,
   /- SYNC_BAR_PEND_LO -/ ⟨0x28, 1, 0, true, [⟨0, 32, .ro, 0, 0, 4294967295⟩]⟩,
   /- SYNC_BAR_PEND_HI -/ ⟨0x2C, 1, 0, false, [⟨0, 32, .ro, 0, 0, 4294967295⟩]⟩,
   /- SYNC_BAR_IE_LO -/ ⟨0x30, 1, 0, true, [⟨0, 32, .rw, 0, 0, 4294967295⟩]⟩,
   /- SYNC_BAR_IE_HI -/ ⟨0x34, 1, 0, false, [⟨0, 32, .rw, 0, 0, 4294967295⟩]⟩,
   /- SYNC_RED_IN -/ ⟨0x40, 16, 4, false, [⟨0, 32, .rw, 0, 0, 4294967295⟩]⟩,
   /- SYNC_RED_OUT -/ ⟨0x80, 16, 4, false, [⟨0, 32, .ro, 0, 0, 4294967295⟩]⟩,
   /- SYNC_RED_CFG -/ ⟨0xC0, 16, 4, false, [⟨0, 3, .ro, 0, 0, 7⟩, ⟨8, 6, .ro, 0, 0, 63⟩]⟩,
   /- SYNC_FLT_REPORT -/ ⟨0x100, 1, 0, false, [⟨0, 20, .wo, 0, 0, 1048575⟩]⟩,
   /- SYNC_FLT_STAT -/ ⟨0x104, 1, 0, false, [⟨0, 3, .ro, 0, 0, 7⟩, ⟨8, 1, .w1c, 0, 0, 1⟩, ⟨16, 16, .ro, 0, 0, 65535⟩]⟩,
   /- SYNC_INT_EN -/ ⟨0x10C, 1, 0, false, [⟨0, 2, .rw, 0, 0, 3⟩]⟩]

/-- Every register of block `syncNode`. -/
def syncNodeRows : List RegRow := syncNodeRows0

/-- Registers of block `tileFault` (tile offset 0x34000), part 0. Rules R432, R618, R711. -/
def tileFaultRows0 : List RegRow :=
  [
   /- FLT_TILE_STAT -/ ⟨0x0, 1, 0, false, [⟨0, 1, .ro, 0, 0, 1⟩, ⟨1, 1, .ro, 0, 0, 1⟩, ⟨2, 1, .ro, 0, 0, 1⟩, ⟨3, 1, .ro, 0, 0, 1⟩, ⟨4, 3, .ro, 0, 0, 7⟩]⟩,
   /- FLT_HB_CFG -/ ⟨0x4, 1, 0, false, [⟨0, 16, .rw, 8192, 1024, 65535⟩]⟩,
   /- FLT_ENG_TMO -/ ⟨0x8, 1, 0, false, [⟨0, 32, .rw, 65536, 4096, 4294967295⟩]⟩,
   /- FLT_SLICE_STEP -/ ⟨0xC, 1, 0, false, [⟨0, 32, .ro, 0, 0, 4294967295⟩]⟩,
   /- FLT_MEM_CTRL -/ ⟨0x600, 1, 0, false, [⟨0, 1, .rw, 1, 0, 1⟩, ⟨1, 1, .wo, 0, 0, 1⟩]⟩,
   /- FLT_MEM_STATUS -/ ⟨0x604, 1, 0, false, [⟨0, 1, .w1c, 0, 0, 1⟩, ⟨1, 1, .w1c, 0, 0, 1⟩, ⟨2, 1, .w1c, 0, 0, 1⟩, ⟨3, 1, .w1c, 0, 0, 1⟩, ⟨8, 5, .ro, 0, 0, 31⟩, ⟨16, 10, .ro, 0, 0, 1023⟩]⟩,
   /- FLT_MEM_DCE -/ ⟨0x608, 1, 0, false, [⟨0, 32, .ro, 0, 0, 4294967295⟩]⟩,
   /- FLT_MEM_DUE -/ ⟨0x60C, 1, 0, false, [⟨0, 32, .ro, 0, 0, 4294967295⟩]⟩,
   /- FLT_MEM_ICE -/ ⟨0x610, 1, 0, false, [⟨0, 32, .ro, 0, 0, 4294967295⟩]⟩,
   /- FLT_MEM_IUE -/ ⟨0x614, 1, 0, false, [⟨0, 32, .ro, 0, 0, 4294967295⟩]⟩,
   /- FLT_MEM_SCRUB_PASS -/ ⟨0x618, 1, 0, false, [⟨0, 32, .ro, 0, 0, 4294967295⟩]⟩,
   /- FLT_BIST_STAT -/ ⟨0x700, 1, 0, false, [⟨0, 1, .ro, 0, 0, 1⟩, ⟨1, 1, .ro, 0, 0, 1⟩, ⟨2, 6, .ro, 0, 0, 63⟩, ⟨8, 4, .ro, 0, 0, 15⟩]⟩]

/-- Every register of block `tileFault`. -/
def tileFaultRows : List RegRow := tileFaultRows0

/-- Registers of block `tileDebug` (tile offset 0x33800), part 0. Rules R432, R738. -/
def tileDebugRows0 : List RegRow :=
  [
   /- DBG_OPS0_LO -/ ⟨0x0, 1, 0, true, [⟨0, 32, .ro, 0, 0, 4294967295⟩]⟩,
   /- DBG_OPS0_HI -/ ⟨0x4, 1, 0, false, [⟨0, 32, .ro, 0, 0, 4294967295⟩]⟩,
   /- DBG_OPS1_LO -/ ⟨0x8, 1, 0, true, [⟨0, 32, .ro, 0, 0, 4294967295⟩]⟩,
   /- DBG_OPS1_HI -/ ⟨0xC, 1, 0, false, [⟨0, 32, .ro, 0, 0, 4294967295⟩]⟩,
   /- DBG_OPS2_LO -/ ⟨0x10, 1, 0, true, [⟨0, 32, .ro, 0, 0, 4294967295⟩]⟩,
   /- DBG_OPS2_HI -/ ⟨0x14, 1, 0, false, [⟨0, 32, .ro, 0, 0, 4294967295⟩]⟩,
   /- DBG_OPS3_LO -/ ⟨0x18, 1, 0, true, [⟨0, 32, .ro, 0, 0, 4294967295⟩]⟩,
   /- DBG_OPS3_HI -/ ⟨0x1C, 1, 0, false, [⟨0, 32, .ro, 0, 0, 4294967295⟩]⟩,
   /- DBG_OPS4_LO -/ ⟨0x20, 1, 0, true, [⟨0, 32, .ro, 0, 0, 4294967295⟩]⟩,
   /- DBG_OPS4_HI -/ ⟨0x24, 1, 0, false, [⟨0, 32, .ro, 0, 0, 4294967295⟩]⟩,
   /- DBG_OPS5_LO -/ ⟨0x28, 1, 0, true, [⟨0, 32, .ro, 0, 0, 4294967295⟩]⟩,
   /- DBG_OPS5_HI -/ ⟨0x2C, 1, 0, false, [⟨0, 32, .ro, 0, 0, 4294967295⟩]⟩,
   /- DBG_OPS6_LO -/ ⟨0x30, 1, 0, true, [⟨0, 32, .ro, 0, 0, 4294967295⟩]⟩,
   /- DBG_OPS6_HI -/ ⟨0x34, 1, 0, false, [⟨0, 32, .ro, 0, 0, 4294967295⟩]⟩,
   /- DBG_OPS7_LO -/ ⟨0x38, 1, 0, true, [⟨0, 32, .ro, 0, 0, 4294967295⟩]⟩,
   /- DBG_OPS7_HI -/ ⟨0x3C, 1, 0, false, [⟨0, 32, .ro, 0, 0, 4294967295⟩]⟩,
   /- DBG_OPS8_LO -/ ⟨0x40, 1, 0, true, [⟨0, 32, .ro, 0, 0, 4294967295⟩]⟩,
   /- DBG_OPS8_HI -/ ⟨0x44, 1, 0, false, [⟨0, 32, .ro, 0, 0, 4294967295⟩]⟩,
   /- DBG_OPS9_LO -/ ⟨0x48, 1, 0, true, [⟨0, 32, .ro, 0, 0, 4294967295⟩]⟩,
   /- DBG_OPS9_HI -/ ⟨0x4C, 1, 0, false, [⟨0, 32, .ro, 0, 0, 4294967295⟩]⟩,
   /- DBG_OPS10_LO -/ ⟨0x50, 1, 0, true, [⟨0, 32, .ro, 0, 0, 4294967295⟩]⟩,
   /- DBG_OPS10_HI -/ ⟨0x54, 1, 0, false, [⟨0, 32, .ro, 0, 0, 4294967295⟩]⟩,
   /- DBG_OPS11_LO -/ ⟨0x58, 1, 0, true, [⟨0, 32, .ro, 0, 0, 4294967295⟩]⟩,
   /- DBG_OPS11_HI -/ ⟨0x5C, 1, 0, false, [⟨0, 32, .ro, 0, 0, 4294967295⟩]⟩]

/-- Registers of block `tileDebug` (tile offset 0x33800), part 1. Rules R432, R738. -/
def tileDebugRows1 : List RegRow :=
  [
   /- DBG_OPS12_LO -/ ⟨0x60, 1, 0, true, [⟨0, 32, .ro, 0, 0, 4294967295⟩]⟩,
   /- DBG_OPS12_HI -/ ⟨0x64, 1, 0, false, [⟨0, 32, .ro, 0, 0, 4294967295⟩]⟩,
   /- DBG_OPS13_LO -/ ⟨0x68, 1, 0, true, [⟨0, 32, .ro, 0, 0, 4294967295⟩]⟩,
   /- DBG_OPS13_HI -/ ⟨0x6C, 1, 0, false, [⟨0, 32, .ro, 0, 0, 4294967295⟩]⟩,
   /- DBG_TCTRL -/ ⟨0x80, 1, 0, false, [⟨0, 1, .wo, 0, 0, 1⟩]⟩,
   /- DBG_SNAP -/ ⟨0x84, 1, 0, false, [⟨0, 18, .rw, 0, 0, 262143⟩]⟩,
   /- DBG_WAIT -/ ⟨0x100, 1, 0, false, [⟨0, 3, .ro, 0, 0, 7⟩, ⟨3, 1, .ro, 0, 0, 1⟩, ⟨8, 8, .ro, 0, 0, 255⟩]⟩,
   /- DBG_WAIT_OBJ -/ ⟨0x104, 1, 0, false, [⟨0, 10, .ro, 0, 0, 1023⟩, ⟨16, 11, .ro, 0, 0, 2047⟩]⟩,
   /- DBG_WAIT_SINCE -/ ⟨0x108, 1, 0, false, [⟨0, 32, .ro, 0, 0, 4294967295⟩]⟩,
   /- DBG_WAIT_DECL -/ ⟨0x10C, 1, 0, false, [⟨0, 10, .wo, 0, 0, 1023⟩, ⟨16, 11, .wo, 0, 0, 2047⟩, ⟨29, 3, .wo, 0, 0, 7⟩]⟩,
   /- DBG_TRC_CFG -/ ⟨0x200, 1, 0, false, [⟨0, 5, .rw, 0, 0, 31⟩, ⟨8, 5, .rw, 0, 0, 31⟩, ⟨16, 8, .rw, 1, 1, 255⟩]⟩,
   /- DBG_TRC_MEM -/ ⟨0x204, 1, 0, false, [⟨0, 14, .rw, 0, 0, 16383⟩, ⟨16, 4, .rw, 1, 1, 15⟩]⟩,
   /- DBG_TRC_LOST -/ ⟨0x208, 1, 0, false, [⟨0, 32, .ro, 0, 0, 4294967295⟩]⟩,
   /- DBG_CONF -/ ⟨0x600, 40, 4, false, [⟨0, 32, .ro, 0, 0, 4294967295⟩]⟩]

/-- Every register of block `tileDebug`. -/
def tileDebugRows : List RegRow := tileDebugRows0 ++ tileDebugRows1

/-- Registers of block `pod` (pod offset 0x80000), part 0. Rules R433, R618, R619. -/
def podRows0 : List RegRow :=
  [
   /- POD_CTRL -/ ⟨0x0, 1, 0, false, [⟨0, 1, .rw, 1, 0, 1⟩, ⟨1, 1, .wo, 0, 0, 1⟩]⟩,
   /- POD_STATUS -/ ⟨0x4, 1, 0, false, [⟨0, 1, .w1c, 0, 0, 1⟩, ⟨1, 1, .w1c, 0, 0, 1⟩, ⟨8, 5, .ro, 0, 0, 31⟩, ⟨16, 9, .ro, 0, 0, 511⟩]⟩,
   /- POD_ECC_CE -/ ⟨0x8, 1, 0, false, [⟨0, 32, .ro, 0, 0, 4294967295⟩]⟩,
   /- POD_ECC_UE -/ ⟨0xC, 1, 0, false, [⟨0, 32, .ro, 0, 0, 4294967295⟩]⟩,
   /- POD_SCRUB_PASS -/ ⟨0x10, 1, 0, false, [⟨0, 32, .ro, 0, 0, 4294967295⟩]⟩,
   /- POD_CONF -/ ⟨0x100, 304, 4, false, [⟨0, 32, .ro, 0, 0, 4294967295⟩]⟩,
   /- POD_BIST_STAT -/ ⟨0x700, 1, 0, false, [⟨0, 1, .ro, 0, 0, 1⟩, ⟨1, 1, .ro, 0, 0, 1⟩]⟩,
   /- POD_BIST_BANKS -/ ⟨0x704, 1, 0, false, [⟨0, 32, .ro, 0, 0, 4294967295⟩]⟩,
   /- POD_LTT -/ ⟨0x800, 512, 4, false, [⟨0, 11, .rw, 0, 0, 2047⟩, ⟨15, 1, .rw, 0, 0, 1⟩, ⟨16, 11, .rw, 0, 0, 2047⟩, ⟨31, 1, .rw, 0, 0, 1⟩]⟩]

/-- Every register of block `pod`. -/
def podRows : List RegRow := podRows0

/-- Registers of block `ddr` (manager base 0x01050000), part 0. Rules R434, R621. -/
def ddrRows0 : List RegRow :=
  [
   /- DDR_CTRL -/ ⟨0x0, 1, 0, false, [⟨0, 1, .rw, 0, 0, 1⟩, ⟨1, 2, .rw, 0, 0, 2⟩, ⟨3, 1, .rw, 0, 0, 1⟩, ⟨4, 1, .rw, 0, 0, 1⟩]⟩,
   /- DDR_STATUS -/ ⟨0x4, 1, 0, false, [⟨0, 4, .ro, 0, 0, 15⟩, ⟨4, 1, .ro, 0, 0, 1⟩, ⟨5, 1, .ro, 0, 0, 1⟩]⟩,
   /- DDR_SCRUB_CFG -/ ⟨0x8, 1, 0, false, [⟨0, 1, .rw, 1, 0, 1⟩, ⟨8, 8, .rw, 24, 1, 255⟩, ⟨16, 1, .wo, 0, 0, 1⟩]⟩,
   /- DDR_MGR_LAT -/ ⟨0xC, 1, 0, false, [⟨0, 16, .ro, 0, 0, 65535⟩]⟩,
   /- DDR_MAP_CTRL -/ ⟨0x40, 1, 0, false, [⟨0, 1, .wo, 0, 0, 1⟩]⟩,
   /- DDR_MAP_STAT -/ ⟨0x44, 1, 0, false, [⟨0, 16, .ro, 65535, 0, 65535⟩, ⟨16, 8, .ro, 0, 0, 255⟩, ⟨31, 1, .w1c, 0, 0, 1⟩]⟩,
   /- DDR_SUB_STAT -/ ⟨0x100, 4, 64, false, [⟨0, 1, .ro, 0, 0, 1⟩, ⟨8, 9, .ro, 0, 0, 511⟩, ⟨20, 3, .ro, 0, 0, 7⟩]⟩,
   /- DDR_SUB_CE -/ ⟨0x104, 4, 64, false, [⟨0, 32, .ro, 0, 0, 4294967295⟩]⟩,
   /- DDR_SUB_RETRY -/ ⟨0x108, 4, 64, false, [⟨0, 32, .ro, 0, 0, 4294967295⟩]⟩,
   /- DDR_SUB_UE -/ ⟨0x10C, 4, 64, false, [⟨0, 32, .ro, 0, 0, 4294967295⟩]⟩,
   /- DDR_SUB_LAST_LO -/ ⟨0x110, 4, 64, true, [⟨0, 32, .ro, 0, 0, 4294967295⟩]⟩,
   /- DDR_SUB_LAST_HI -/ ⟨0x114, 4, 64, false, [⟨0, 32, .ro, 0, 0, 4294967295⟩]⟩,
   /- DDR_SUB_DEVCORR -/ ⟨0x118, 4, 64, false, [⟨0, 32, .ro, 0, 0, 4294967295⟩]⟩,
   /- DDR_SUB_SCRUB -/ ⟨0x11C, 4, 64, false, [⟨0, 32, .ro, 0, 0, 4294967295⟩]⟩,
   /- DDR_SUB_RETIRE -/ ⟨0x120, 4, 64, false, [⟨0, 1, .wo, 0, 0, 1⟩]⟩,
   /- DDR_SPARE -/ ⟨0x1000, 1024, 4, false, [⟨0, 22, .ro, 0, 0, 4194303⟩, ⟨31, 1, .ro, 0, 0, 1⟩]⟩,
   /- DDR_TRN_CTRL -/ ⟨0x2000, 4, 1024, false, [⟨0, 4, .rw, 0, 0, 9⟩, ⟨4, 1, .rw, 0, 0, 1⟩, ⟨31, 1, .wo, 0, 0, 1⟩]⟩,
   /- DDR_TRN_STAT -/ ⟨0x2004, 4, 1024, false, [⟨0, 1, .ro, 0, 0, 1⟩, ⟨1, 1, .ro, 0, 0, 1⟩, ⟨4, 4, .ro, 0, 0, 15⟩, ⟨8, 6, .ro, 0, 0, 63⟩]⟩,
   /- DDR_TRN_MR -/ ⟨0x2008, 4, 1024, false, [⟨0, 8, .rw, 0, 0, 255⟩, ⟨8, 8, .rw, 0, 0, 255⟩, ⟨16, 1, .rw, 0, 0, 1⟩, ⟨17, 3, .rw, 0, 0, 4⟩, ⟨30, 1, .rw, 0, 0, 1⟩, ⟨31, 1, .wo, 0, 0, 1⟩]⟩,
   /- DDR_TRN_VREF -/ ⟨0x200C, 4, 1024, false, [⟨0, 8, .rw, 0, 0, 255⟩, ⟨8, 8, .rw, 0, 0, 255⟩]⟩,
   /- DDR_TRN_DLY0 -/ ⟨0x2100, 64, 4, false, [⟨0, 10, .rw, 0, 0, 1023⟩, ⟨16, 10, .rw, 0, 0, 1023⟩]⟩,
   /- DDR_TRN_DLY1 -/ ⟨0x2500, 64, 4, false, [⟨0, 10, .rw, 0, 0, 1023⟩, ⟨16, 10, .rw, 0, 0, 1023⟩]⟩,
   /- DDR_TRN_DLY2 -/ ⟨0x2900, 64, 4, false, [⟨0, 10, .rw, 0, 0, 1023⟩, ⟨16, 10, .rw, 0, 0, 1023⟩]⟩,
   /- DDR_TRN_DLY3 -/ ⟨0x2D00, 64, 4, false, [⟨0, 10, .rw, 0, 0, 1023⟩, ⟨16, 10, .rw, 0, 0, 1023⟩]⟩]

/-- Registers of block `ddr` (manager base 0x01050000), part 1. Rules R434, R621. -/
def ddrRows1 : List RegRow :=
  [
   /- DDR_MT_CTRL -/ ⟨0x3000, 1, 0, false, [⟨0, 1, .wo, 0, 0, 1⟩, ⟨1, 1, .wo, 0, 0, 1⟩, ⟨2, 1, .rw, 1, 0, 1⟩, ⟨3, 2, .rw, 2, 0, 2⟩, ⟨5, 2, .rw, 1, 0, 2⟩, ⟨8, 16, .rw, 60, 30, 150⟩]⟩,
   /- DDR_MT_STAT -/ ⟨0x3004, 1, 0, false, [⟨0, 1, .ro, 0, 0, 1⟩, ⟨4, 3, .ro, 0, 0, 7⟩]⟩,
   /- DDR_MT_ERR -/ ⟨0x3008, 1, 0, false, [⟨0, 32, .ro, 0, 0, 4294967295⟩]⟩,
   /- DDR_MT_POS_LO -/ ⟨0x3010, 1, 0, true, [⟨0, 32, .ro, 0, 0, 4294967295⟩]⟩,
   /- DDR_MT_POS_HI -/ ⟨0x3014, 1, 0, false, [⟨0, 32, .ro, 0, 0, 4294967295⟩]⟩]

/-- Every register of block `ddr`. -/
def ddrRows : List RegRow := ddrRows0 ++ ddrRows1

/-- Registers of block `fault` (manager base 0x010E0000), part 0. Rules R435, R618, R685, R712. -/
def faultRows0 : List RegRow :=
  [
   /- FLT_CTRL -/ ⟨0x0, 1, 0, false, [⟨0, 1, .rw, 1, 0, 1⟩]⟩,
   /- FLT_STATUS -/ ⟨0x4, 1, 0, false, [⟨0, 1, .ro, 0, 0, 1⟩, ⟨1, 1, .w1c, 0, 0, 1⟩]⟩,
   /- FLT_RPT_SUSPECT -/ ⟨0x10, 1, 0, false, [⟨0, 20, .ro, 1048575, 0, 1048575⟩]⟩,
   /- FLT_RPT_COUNT -/ ⟨0x14, 1, 0, false, [⟨0, 32, .ro, 0, 0, 4294967295⟩]⟩,
   /- FLT_RPT_STEP -/ ⟨0x18, 1, 0, false, [⟨0, 32, .ro, 0, 0, 4294967295⟩]⟩,
   /- FLT_RPT_VERDICT -/ ⟨0x1C, 1, 0, false, [⟨0, 2, .ro, 0, 0, 3⟩]⟩,
   /- FLT_THR_PARTNER -/ ⟨0x40, 1, 0, false, [⟨0, 16, .rw, 8, 2, 1024⟩]⟩,
   /- FLT_LOG_BASE -/ ⟨0x80, 1, 0, false, [⟨0, 22, .rw, 0, 0, 4194303⟩]⟩,
   /- FLT_LOG_LEN -/ ⟨0x84, 1, 0, false, [⟨0, 13, .rw, 1024, 64, 4096⟩]⟩,
   /- FLT_LOG_HEAD -/ ⟨0x88, 1, 0, false, [⟨0, 32, .ro, 0, 0, 4294967295⟩]⟩,
   /- FLT_LOG_LOST -/ ⟨0x8C, 1, 0, false, [⟨0, 32, .ro, 0, 0, 4294967295⟩]⟩,
   /- FLT_LOG_APP0 -/ ⟨0x90, 1, 0, false, [⟨0, 32, .rw, 0, 0, 4294967295⟩]⟩,
   /- FLT_LOG_APP1 -/ ⟨0x94, 1, 0, false, [⟨0, 32, .rw, 0, 0, 4294967295⟩]⟩,
   /- FLT_LOG_APP2 -/ ⟨0x98, 1, 0, false, [⟨0, 32, .rw, 0, 0, 4294967295⟩]⟩,
   /- FLT_LOG_APP3 -/ ⟨0x9C, 1, 0, false, [⟨0, 32, .rw, 0, 0, 4294967295⟩]⟩,
   /- FLT_LOG_APP4 -/ ⟨0xA0, 1, 0, false, [⟨0, 32, .rw, 0, 0, 4294967295⟩]⟩,
   /- FLT_LOG_APP5 -/ ⟨0xA4, 1, 0, false, [⟨0, 32, .rw, 0, 0, 4294967295⟩]⟩,
   /- FLT_LOG_APP6 -/ ⟨0xA8, 1, 0, false, [⟨0, 32, .rw, 0, 0, 4294967295⟩]⟩,
   /- FLT_LOG_APP7 -/ ⟨0xAC, 1, 0, false, [⟨0, 1, .wo, 0, 0, 1⟩, ⟨8, 4, .ro, 0, 0, 15⟩]⟩,
   /- FLT_REMAP_CTRL -/ ⟨0x100, 1, 0, false, [⟨0, 10, .rw, 0, 0, 1023⟩, ⟨31, 1, .wo, 0, 0, 1⟩]⟩,
   /- FLT_REMAP_STAT -/ ⟨0x104, 1, 0, false, [⟨0, 4, .ro, 0, 0, 15⟩, ⟨16, 10, .ro, 0, 0, 1023⟩]⟩,
   /- FLT_REMAP_SPARE -/ ⟨0x108, 1, 0, false, [⟨0, 11, .ro, 0, 0, 2047⟩]⟩,
   /- FLT_REMAP_AGE -/ ⟨0x10C, 1, 0, false, [⟨0, 16, .ro, 0, 0, 65535⟩, ⟨16, 16, .ro, 0, 0, 65535⟩]⟩,
   /- FLT_REMAP_TIME -/ ⟨0x110, 1, 0, false, [⟨0, 20, .ro, 0, 0, 1048575⟩]⟩]

/-- Registers of block `fault` (manager base 0x010E0000), part 1. Rules R435, R618, R685, R712. -/
def faultRows1 : List RegRow :=
  [
   /- FLT_SB_OFF -/ ⟨0x114, 1, 0, false, [⟨0, 19, .rw, 0, 0, 524287⟩]⟩,
   /- FLT_SB_LEN -/ ⟨0x118, 1, 0, false, [⟨0, 19, .rw, 0, 0, 524287⟩]⟩,
   /- FLT_CKPT_BASE_LO -/ ⟨0x120, 1, 0, true, [⟨0, 32, .rw, 0, 0, 4294967295⟩]⟩,
   /- FLT_CKPT_BASE_HI -/ ⟨0x124, 1, 0, false, [⟨0, 32, .rw, 0, 0, 4294967295⟩]⟩,
   /- FLT_CKPT_STRIDE -/ ⟨0x128, 1, 0, false, [⟨0, 32, .rw, 0, 0, 4294967295⟩]⟩,
   /- FLT_FENCE -/ ⟨0x200, 36, 4, false, [⟨0, 32, .rw, 0, 0, 4294967295⟩]⟩,
   /- FLT_MSRAM_STATUS -/ ⟨0x600, 1, 0, false, [⟨0, 1, .w1c, 0, 0, 1⟩, ⟨1, 1, .w1c, 0, 0, 1⟩, ⟨8, 5, .ro, 0, 0, 31⟩, ⟨16, 13, .ro, 0, 0, 8191⟩]⟩,
   /- FLT_MSRAM_CE -/ ⟨0x604, 1, 0, false, [⟨0, 32, .ro, 0, 0, 4294967295⟩]⟩,
   /- FLT_MSRAM_UE -/ ⟨0x608, 1, 0, false, [⟨0, 32, .ro, 0, 0, 4294967295⟩]⟩,
   /- FLT_BIST_CTRL -/ ⟨0x700, 1, 0, false, [⟨0, 1, .wo, 0, 0, 1⟩, ⟨1, 1, .ro, 0, 0, 1⟩, ⟨2, 11, .ro, 0, 0, 2047⟩]⟩,
   /- FLT_WDOG_TMO -/ ⟨0x800, 1, 0, false, [⟨0, 16, .auth, 1000, 10, 60000⟩]⟩,
   /- FLT_WDOG_KICK -/ ⟨0x804, 1, 0, false, [⟨0, 16, .wo, 0, 0, 65535⟩]⟩,
   /- FLT_WDOG_STAT -/ ⟨0x808, 1, 0, false, [⟨0, 1, .ro, 0, 0, 1⟩, ⟨1, 1, .ro, 0, 0, 1⟩, ⟨16, 16, .ro, 0, 0, 65535⟩]⟩,
   /- FLT_WDOG_REMAIN -/ ⟨0x80C, 1, 0, false, [⟨0, 16, .ro, 1000, 0, 65535⟩]⟩]

/-- Every register of block `fault`. -/
def faultRows : List RegRow := faultRows0 ++ faultRows1

/-- Registers of block `security` (manager base 0x01100000), part 0. Rules R436, R555, R617, R665. -/
def securityRows0 : List RegRow :=
  [
   /- SEC_HUSK_STAT -/ ⟨0x100, 1, 0, false, [⟨0, 1, .ro, 0, 0, 1⟩, ⟨1, 1, .ro, 0, 0, 1⟩, ⟨4, 3, .ro, 0, 0, 7⟩, ⟨8, 1, .ro, 0, 0, 1⟩]⟩,
   /- SEC_HUSK_CTRL -/ ⟨0x104, 1, 0, false, [⟨0, 1, .auth, 0, 0, 1⟩, ⟨8, 16, .auth, 60, 1, 65535⟩]⟩,
   /- SEC_HUSK_WIPE -/ ⟨0x108, 1, 0, false, [⟨0, 1, .woAuth, 0, 0, 1⟩]⟩,
   /- SEC_HUSK_WIPE_CNT -/ ⟨0x10C, 1, 0, false, [⟨0, 16, .ro, 0, 0, 65535⟩]⟩,
   /- SEC_HUSK_WIPE_TB_LO -/ ⟨0x110, 1, 0, true, [⟨0, 32, .ro, 0, 0, 4294967295⟩]⟩,
   /- SEC_HUSK_WIPE_TB_HI -/ ⟨0x114, 1, 0, false, [⟨0, 32, .ro, 0, 0, 4294967295⟩]⟩,
   /- SEC_SEAL_CTRL -/ ⟨0x118, 1, 0, false, [⟨0, 1, .wo, 0, 0, 1⟩]⟩,
   /- SEC_CLEAR_STAT -/ ⟨0x11C, 1, 0, false, [⟨0, 1, .ro, 0, 0, 1⟩, ⟨16, 9, .ro, 0, 0, 511⟩]⟩,
   /- SEC_TRAIN_CTRL -/ ⟨0x120, 1, 0, false, [⟨0, 1, .wo, 0, 0, 1⟩, ⟨1, 1, .wo, 0, 0, 1⟩, ⟨2, 1, .ro, 0, 0, 1⟩, ⟨3, 1, .ro, 0, 0, 1⟩]⟩,
   /- SEC_LOGIN_CTRL -/ ⟨0x200, 1, 0, false, [⟨0, 3, .wo, 0, 0, 7⟩, ⟨4, 2, .wo, 0, 0, 3⟩, ⟨8, 2, .wo, 0, 0, 3⟩]⟩,
   /- SEC_LOGIN_CHAL_LO -/ ⟨0x204, 1, 0, true, [⟨0, 32, .ro, 0, 0, 4294967295⟩]⟩,
   /- SEC_LOGIN_CHAL_HI -/ ⟨0x208, 1, 0, false, [⟨0, 32, .ro, 0, 0, 4294967295⟩]⟩,
   /- SEC_LOGIN_RESP0 -/ ⟨0x20C, 1, 0, false, [⟨0, 32, .woData, 0, 0, 4294967295⟩]⟩,
   /- SEC_LOGIN_RESP1 -/ ⟨0x210, 1, 0, false, [⟨0, 32, .woData, 0, 0, 4294967295⟩]⟩,
   /- SEC_LOGIN_RESP2 -/ ⟨0x214, 1, 0, false, [⟨0, 16, .woData, 0, 0, 65535⟩]⟩,
   /- SEC_LOGIN_STAT -/ ⟨0x218, 1, 0, false, [⟨0, 4, .ro, 0, 0, 15⟩, ⟨31, 1, .ro, 0, 0, 1⟩]⟩,
   /- SEC_IDLE -/ ⟨0x21C, 1, 0, false, [⟨0, 16, .auth, 600, 60, 65535⟩]⟩,
   /- SEC_SESS -/ ⟨0x240, 8, 4, false, [⟨0, 2, .ro, 0, 0, 3⟩, ⟨2, 1, .ro, 0, 0, 1⟩]⟩,
   /- SEC_LOCK -/ ⟨0x264, 3, 4, false, [⟨0, 5, .ro, 0, 0, 31⟩, ⟨5, 1, .ro, 0, 0, 1⟩, ⟨8, 24, .ro, 0, 0, 16777215⟩]⟩,
   /- SEC_AUTH_ADDR_LO -/ ⟨0x280, 1, 0, true, [⟨0, 32, .rw, 0, 0, 4294967295⟩]⟩,
   /- SEC_AUTH_ADDR_HI -/ ⟨0x284, 1, 0, false, [⟨0, 8, .rw, 0, 0, 255⟩]⟩,
   /- SEC_AUTH_DATA -/ ⟨0x288, 1, 0, false, [⟨0, 32, .rw, 0, 0, 4294967295⟩]⟩,
   /- SEC_AUTH_GO -/ ⟨0x28C, 1, 0, false, [⟨0, 3, .rw, 0, 0, 7⟩, ⟨8, 1, .wo, 0, 0, 1⟩, ⟨16, 4, .ro, 0, 0, 15⟩]⟩,
   /- SEC_AUDIT_APP0 -/ ⟨0x2A0, 1, 0, false, [⟨0, 32, .rw, 0, 0, 4294967295⟩]⟩]

/-- Registers of block `security` (manager base 0x01100000), part 1. Rules R436, R555, R617, R665. -/
def securityRows1 : List RegRow :=
  [
   /- SEC_AUDIT_APP1 -/ ⟨0x2A4, 1, 0, false, [⟨0, 3, .rw, 0, 0, 7⟩, ⟨8, 4, .rw, 0, 0, 15⟩]⟩,
   /- SEC_AUDIT_APP2 -/ ⟨0x2A8, 1, 0, false, [⟨0, 24, .rw, 0, 0, 16777215⟩]⟩,
   /- SEC_AUDIT_APP3 -/ ⟨0x2AC, 1, 0, false, [⟨0, 24, .rw, 0, 0, 16777215⟩]⟩,
   /- SEC_AUDIT_HEAD -/ ⟨0x2C0, 1, 0, false, [⟨0, 24, .ro, 0, 0, 16777215⟩]⟩,
   /- SEC_AUDIT_STAT -/ ⟨0x2C4, 1, 0, false, [⟨0, 13, .ro, 0, 0, 8191⟩, ⟨16, 16, .ro, 0, 0, 65535⟩]⟩,
   /- SEC_LC -/ ⟨0x2E0, 1, 0, false, [⟨0, 2, .ro, 0, 0, 3⟩, ⟨8, 5, .ro, 0, 0, 31⟩]⟩,
   /- SEC_FUSE_STAT -/ ⟨0x400, 1, 0, false, [⟨0, 1, .ro, 0, 0, 1⟩, ⟨1, 1, .ro, 0, 0, 1⟩, ⟨8, 8, .ro, 0, 0, 255⟩]⟩,
   /- SEC_FUSE_VARIANT -/ ⟨0x404, 1, 0, false, [⟨0, 8, .ro, 1, 0, 255⟩, ⟨8, 10, .ro, 800, 0, 1023⟩, ⟨20, 8, .ro, 140, 0, 255⟩]⟩,
   /- SEC_FUSE_REV -/ ⟨0x408, 1, 0, false, [⟨0, 8, .ro, 0, 0, 255⟩]⟩,
   /- SEC_FUSE_SERIAL_LO -/ ⟨0x40C, 1, 0, true, [⟨0, 32, .ro, 0, 0, 4294967295⟩]⟩,
   /- SEC_FUSE_SERIAL_HI -/ ⟨0x410, 1, 0, false, [⟨0, 32, .ro, 0, 0, 4294967295⟩]⟩,
   /- SEC_FUSE_DEFECT -/ ⟨0x420, 72, 4, false, [⟨0, 32, .ro, 0, 0, 4294967295⟩]⟩,
   /- SEC_FW_CTRL -/ ⟨0x600, 1, 0, false, [⟨0, 3, .wo, 0, 0, 7⟩, ⟨31, 1, .wo, 0, 0, 1⟩, ⟨8, 4, .ro, 0, 0, 15⟩]⟩,
   /- SEC_FW_STAT -/ ⟨0x604, 1, 0, false, [⟨0, 1, .ro, 0, 0, 1⟩, ⟨1, 1, .ro, 0, 0, 1⟩, ⟨2, 1, .ro, 0, 0, 1⟩, ⟨3, 1, .ro, 0, 0, 1⟩, ⟨4, 1, .ro, 0, 0, 1⟩, ⟨5, 1, .ro, 0, 0, 1⟩, ⟨8, 3, .ro, 0, 0, 7⟩]⟩,
   /- SEC_FW_DIR_GEN -/ ⟨0x608, 1, 0, false, [⟨0, 32, .ro, 0, 0, 4294967295⟩]⟩,
   /- SEC_FW_HREC -/ ⟨0x60C, 1, 0, false, [⟨0, 24, .rw, 0, 0, 16777215⟩]⟩,
   /- SEC_SIG_CTRL -/ ⟨0x610, 1, 0, false, [⟨0, 1, .rw, 0, 0, 1⟩, ⟨31, 1, .wo, 0, 0, 1⟩]⟩,
   /- SEC_SIG_STAT -/ ⟨0x614, 1, 0, false, [⟨0, 1, .ro, 0, 0, 1⟩, ⟨1, 1, .ro, 0, 0, 1⟩, ⟨4, 3, .ro, 0, 0, 7⟩]⟩,
   /- SEC_BOOT_STAT -/ ⟨0x618, 1, 0, false, [⟨0, 4, .ro, 0, 0, 15⟩, ⟨4, 1, .ro, 0, 0, 1⟩]⟩,
   /- SEC_FB_TIMER -/ ⟨0x620, 1, 0, false, [⟨0, 12, .ro, 300, 0, 4095⟩, ⟨31, 1, .ro, 0, 0, 1⟩]⟩,
   /- SEC_FB_REMAIN -/ ⟨0x624, 1, 0, false, [⟨0, 27, .ro, 0, 0, 134217727⟩]⟩]

/-- Every register of block `security`. -/
def securityRows : List RegRow := securityRows0 ++ securityRows1

/-- Registers of block `hub` (manager base 0x01060000), part 0. Rules R474, R619. -/
def hubRows0 : List RegRow :=
  [
   /- SEN_CTRL -/ ⟨0x0, 1, 0, false, [⟨0, 1, .rw, 0, 0, 1⟩, ⟨1, 1, .rw, 0, 0, 1⟩]⟩,
   /- SEN_STATUS -/ ⟨0x4, 1, 0, false, [⟨0, 1, .w1c, 0, 0, 1⟩, ⟨1, 1, .w1c, 0, 0, 1⟩]⟩,
   /- SEN_WE_THR_CFG -/ ⟨0x80, 1, 0, false, [⟨0, 4, .rw, 8, 1, 15⟩, ⟨4, 8, .rw, 4, 1, 255⟩, ⟨16, 12, .rw, 256, 1, 4095⟩]⟩,
   /- SEN_WE_THR_HOLD -/ ⟨0x84, 1, 0, false, [⟨0, 9, .rw, 16, 1, 256⟩, ⟨16, 16, .rw, 64, 0, 65535⟩]⟩,
   /- SEN_WE_RATE -/ ⟨0x100, 32, 4, false, [⟨0, 9, .ro, 256, 0, 511⟩, ⟨16, 3, .ro, 4, 0, 7⟩]⟩,
   /- SEN_CAP_BASE_LO -/ ⟨0x600, 1, 0, true, [⟨0, 32, .rw, 0, 0, 4294967295⟩]⟩,
   /- SEN_CAP_BASE_HI -/ ⟨0x604, 1, 0, false, [⟨0, 32, .rw, 0, 0, 4294967295⟩]⟩,
   /- SEN_CAP_LEN -/ ⟨0x608, 1, 0, false, [⟨0, 32, .rw, 0, 0, 4294967295⟩]⟩,
   /- SEN_CAP_WR -/ ⟨0x60C, 1, 0, false, [⟨0, 32, .rw, 0, 0, 4294967295⟩]⟩,
   /- SEN_CTX_CTRL -/ ⟨0x1000, 32, 128, false, [⟨0, 1, .rw, 0, 0, 1⟩, ⟨1, 3, .rw, 0, 0, 4⟩, ⟨4, 1, .rw, 0, 0, 1⟩, ⟨5, 1, .rw, 0, 0, 1⟩, ⟨6, 1, .rw, 0, 0, 1⟩, ⟨8, 6, .rw, 0, 0, 63⟩, ⟨16, 5, .rw, 0, 0, 31⟩]⟩,
   /- SEN_CTX_BIND -/ ⟨0x1004, 32, 128, false, [⟨0, 16, .rw, 0, 0, 65535⟩]⟩,
   /- SEN_CTX_AXON -/ ⟨0x1008, 32, 128, false, [⟨0, 24, .rw, 0, 0, 16777215⟩]⟩,
   /- SEN_CTX_MCAST -/ ⟨0x100C, 32, 128, false, [⟨0, 12, .rw, 0, 0, 4095⟩, ⟨12, 4, .rw, 0, 0, 14⟩]⟩,
   /- SEN_CTX_P0 -/ ⟨0x1010, 32, 128, false, [⟨0, 16, .rw, 0, 0, 65535⟩]⟩,
   /- SEN_CTX_P1 -/ ⟨0x1014, 32, 128, false, [⟨0, 8, .rw, 1, 0, 255⟩, ⟨8, 4, .rw, 0, 0, 15⟩, ⟨16, 16, .rw, 0, 0, 65535⟩]⟩,
   /- SEN_CTX_ROI0 -/ ⟨0x1018, 32, 128, false, [⟨0, 12, .rw, 0, 0, 4095⟩, ⟨16, 12, .rw, 0, 0, 4095⟩]⟩,
   /- SEN_CTX_ROI1 -/ ⟨0x101C, 32, 128, false, [⟨0, 13, .rw, 0, 0, 8191⟩, ⟨16, 13, .rw, 0, 0, 8191⟩, ⟨30, 2, .rw, 0, 0, 3⟩]⟩,
   /- SEN_CTX_STATE_BASE -/ ⟨0x1020, 32, 128, false, [⟨4, 18, .rw, 0, 0, 262143⟩]⟩,
   /- SEN_CTX_STATE_LEN -/ ⟨0x1024, 32, 128, false, [⟨0, 22, .rw, 0, 0, 4194303⟩]⟩,
   /- SEN_CTX_RING_BASE -/ ⟨0x1028, 32, 128, false, [⟨4, 18, .rw, 0, 0, 262143⟩]⟩,
   /- SEN_CTX_RING_LEN -/ ⟨0x102C, 32, 128, false, [⟨0, 16, .rw, 0, 0, 65535⟩]⟩,
   /- SEN_CTX_RATE -/ ⟨0x1030, 32, 128, false, [⟨0, 16, .rw, 0, 0, 65535⟩]⟩,
   /- SEN_CTX_ACCEPT -/ ⟨0x1034, 32, 128, false, [⟨0, 32, .ro, 0, 0, 4294967295⟩]⟩,
   /- SEN_CTX_DROP_RATE -/ ⟨0x1038, 32, 128, false, [⟨0, 32, .ro, 0, 0, 4294967295⟩]⟩]

/-- Registers of block `hub` (manager base 0x01060000), part 1. Rules R474, R619. -/
def hubRows1 : List RegRow :=
  [
   /- SEN_CTX_DROP_RING -/ ⟨0x103C, 32, 128, false, [⟨0, 32, .ro, 0, 0, 4294967295⟩]⟩,
   /- SEN_CTX_DROP_OFF -/ ⟨0x1040, 32, 128, false, [⟨0, 32, .ro, 0, 0, 4294967295⟩]⟩,
   /- SEN_CTX_LATE -/ ⟨0x1044, 32, 128, false, [⟨0, 32, .ro, 0, 0, 4294967295⟩]⟩,
   /- SEN_CTX_RANGE -/ ⟨0x1048, 32, 128, false, [⟨0, 32, .ro, 0, 0, 4294967295⟩]⟩,
   /- SEN_CTX_DROP_KIND -/ ⟨0x104C, 32, 128, false, [⟨0, 32, .ro, 0, 0, 4294967295⟩]⟩,
   /- SEN_CTX_STATUS -/ ⟨0x1050, 32, 128, false, [⟨0, 8, .ro, 0, 0, 255⟩]⟩,
   /- SEN_CSI_CTRL -/ ⟨0x2000, 4, 1024, false, [⟨0, 1, .rw, 0, 0, 1⟩, ⟨1, 2, .rw, 0, 0, 2⟩, ⟨3, 1, .rw, 1, 0, 1⟩]⟩,
   /- SEN_CSI_STATUS -/ ⟨0x2004, 4, 1024, false, [⟨0, 5, .ro, 0, 0, 31⟩, ⟨8, 1, .w1c, 0, 0, 1⟩]⟩,
   /- SEN_CSI_LAT -/ ⟨0x2008, 4, 1024, false, [⟨0, 16, .rw, 0, 0, 65535⟩]⟩,
   /- SEN_CSI_ECC_CORR -/ ⟨0x200C, 4, 1024, false, [⟨0, 32, .ro, 0, 0, 4294967295⟩]⟩,
   /- SEN_CSI_LINE_DROP -/ ⟨0x2010, 4, 1024, false, [⟨0, 32, .ro, 0, 0, 4294967295⟩]⟩,
   /- SEN_CSI_TYPE_DROP -/ ⟨0x2014, 4, 1024, false, [⟨0, 32, .ro, 0, 0, 4294967295⟩]⟩,
   /- SEN_CSI_FRAMES -/ ⟨0x2018, 4, 1024, false, [⟨0, 32, .ro, 0, 0, 4294967295⟩]⟩,
   /- SEN_ETH_CTRL -/ ⟨0x3000, 2, 1024, false, [⟨0, 1, .rw, 0, 0, 1⟩]⟩,
   /- SEN_ETH_STATUS -/ ⟨0x3004, 2, 1024, false, [⟨0, 1, .ro, 0, 0, 1⟩]⟩,
   /- SEN_ETH_MAC_LO -/ ⟨0x3008, 2, 1024, true, [⟨0, 32, .rw, 0, 0, 4294967295⟩]⟩,
   /- SEN_ETH_MAC_HI -/ ⟨0x300C, 2, 1024, false, [⟨0, 16, .rw, 0, 0, 65535⟩]⟩,
   /- SEN_ETH_IP -/ ⟨0x3010, 2, 1024, false, [⟨0, 32, .rw, 0, 0, 4294967295⟩]⟩,
   /- SEN_ETH_RX_DROP -/ ⟨0x3014, 2, 1024, false, [⟨0, 32, .ro, 0, 0, 4294967295⟩]⟩,
   /- SEN_ETH_CRC_ERR -/ ⟨0x3018, 2, 1024, false, [⟨0, 32, .ro, 0, 0, 4294967295⟩]⟩,
   /- SEN_ETH_PAUSE -/ ⟨0x301C, 2, 1024, false, [⟨0, 32, .ro, 0, 0, 4294967295⟩]⟩,
   /- SEN_ETH_EPOCH_LO -/ ⟨0x3020, 2, 1024, true, [⟨0, 32, .rw, 0, 0, 4294967295⟩]⟩,
   /- SEN_ETH_EPOCH_HI -/ ⟨0x3024, 2, 1024, false, [⟨0, 32, .rw, 0, 0, 4294967295⟩]⟩,
   /- SEN_ETH_LAT -/ ⟨0x3028, 2, 1024, false, [⟨0, 16, .rw, 0, 0, 65535⟩]⟩]

/-- Registers of block `hub` (manager base 0x01060000), part 2. Rules R474, R619. -/
def hubRows2 : List RegRow :=
  [
   /- SEN_ETH_TS_CORR -/ ⟨0x302C, 2, 1024, false, [⟨0, 16, .rw, 0, 0, 65535⟩, ⟨16, 16, .rw, 0, 0, 65535⟩]⟩,
   /- SEN_ETH_FWRX_BASE -/ ⟨0x3030, 2, 1024, false, [⟨0, 22, .rw, 0, 0, 4194303⟩]⟩,
   /- SEN_ETH_FWRX_PTR -/ ⟨0x3034, 2, 1024, false, [⟨0, 5, .ro, 0, 0, 31⟩, ⟨16, 5, .rw, 0, 0, 31⟩]⟩,
   /- SEN_ETH_FWTX_BASE -/ ⟨0x3038, 2, 1024, false, [⟨0, 22, .rw, 0, 0, 4194303⟩]⟩,
   /- SEN_ETH_FWTX_PTR -/ ⟨0x303C, 2, 1024, false, [⟨0, 5, .ro, 0, 0, 31⟩, ⟨16, 5, .rw, 0, 0, 31⟩]⟩,
   /- SEN_ETH_PTP_RX_LO -/ ⟨0x3040, 2, 1024, true, [⟨0, 32, .ro, 0, 0, 4294967295⟩]⟩,
   /- SEN_ETH_PTP_RX_HI -/ ⟨0x3044, 2, 1024, false, [⟨0, 32, .ro, 0, 0, 4294967295⟩]⟩,
   /- SEN_ETH_PTP_RX_INFO -/ ⟨0x3048, 2, 1024, false, [⟨0, 16, .ro, 0, 0, 65535⟩, ⟨16, 4, .ro, 0, 0, 15⟩, ⟨20, 8, .ro, 0, 0, 255⟩, ⟨31, 1, .ro, 0, 0, 1⟩]⟩,
   /- SEN_ETH_PTP_TX_LO -/ ⟨0x304C, 2, 1024, true, [⟨0, 32, .ro, 0, 0, 4294967295⟩]⟩,
   /- SEN_ETH_PTP_TX_HI -/ ⟨0x3050, 2, 1024, false, [⟨0, 32, .ro, 0, 0, 4294967295⟩]⟩,
   /- SEN_ETH_PTP_TX_INFO -/ ⟨0x3054, 2, 1024, false, [⟨0, 16, .ro, 0, 0, 65535⟩, ⟨16, 4, .ro, 0, 0, 15⟩, ⟨20, 8, .ro, 0, 0, 255⟩, ⟨31, 1, .ro, 0, 0, 1⟩]⟩,
   /- SEN_ETH_TS_LOST -/ ⟨0x3058, 2, 1024, false, [⟨0, 32, .ro, 0, 0, 4294967295⟩]⟩,
   /- SEN_ETH_LINK_DOWN -/ ⟨0x305C, 2, 1024, false, [⟨0, 32, .ro, 0, 0, 4294967295⟩]⟩,
   /- SEN_ETH_FLOW0 -/ ⟨0x3100, 16, 8, false, [⟨0, 16, .rw, 0, 0, 65535⟩, ⟨16, 2, .rw, 0, 0, 2⟩, ⟨30, 1, .rw, 0, 0, 1⟩, ⟨31, 1, .rw, 0, 0, 1⟩]⟩,
   /- SEN_ETH_FLOW_SRC0 -/ ⟨0x3104, 16, 8, false, [⟨0, 32, .rw, 0, 0, 4294967295⟩]⟩,
   /- SEN_ETH_FLOW_LOST0 -/ ⟨0x3200, 16, 4, false, [⟨0, 32, .ro, 0, 0, 4294967295⟩]⟩,
   /- SEN_ETH_FLOW1 -/ ⟨0x3500, 16, 8, false, [⟨0, 16, .rw, 0, 0, 65535⟩, ⟨16, 2, .rw, 0, 0, 2⟩, ⟨30, 1, .rw, 0, 0, 1⟩, ⟨31, 1, .rw, 0, 0, 1⟩]⟩,
   /- SEN_ETH_FLOW_SRC1 -/ ⟨0x3504, 16, 8, false, [⟨0, 32, .rw, 0, 0, 4294967295⟩]⟩,
   /- SEN_ETH_FLOW_LOST1 -/ ⟨0x3600, 16, 4, false, [⟨0, 32, .ro, 0, 0, 4294967295⟩]⟩,
   /- SEN_SEL_CTRL -/ ⟨0x4000, 16, 256, false, [⟨0, 1, .rw, 0, 0, 1⟩, ⟨1, 1, .rw, 0, 0, 1⟩, ⟨2, 1, .wo, 0, 0, 1⟩, ⟨3, 1, .wo, 0, 0, 1⟩]⟩,
   /- SEN_SEL_STATUS -/ ⟨0x4004, 16, 256, false, [⟨0, 3, .ro, 0, 0, 7⟩, ⟨3, 1, .w1c, 0, 0, 1⟩, ⟨8, 8, .ro, 0, 0, 255⟩]⟩,
   /- SEN_SEL_LAT -/ ⟨0x4008, 16, 256, false, [⟨0, 16, .rw, 0, 0, 65535⟩]⟩,
   /- SEN_SEL_CODE_ERR -/ ⟨0x400C, 16, 256, false, [⟨0, 32, .ro, 0, 0, 4294967295⟩]⟩,
   /- SEN_SEL_CRC_ERR -/ ⟨0x4010, 16, 256, false, [⟨0, 32, .ro, 0, 0, 4294967295⟩]⟩]

/-- Registers of block `hub` (manager base 0x01060000), part 3. Rules R474, R619. -/
def hubRows3 : List RegRow :=
  [
   /- SEN_SEL_BUSY -/ ⟨0x4014, 16, 256, false, [⟨0, 32, .ro, 0, 0, 4294967295⟩]⟩,
   /- SEN_SEL_RETRAIN -/ ⟨0x4018, 16, 256, false, [⟨0, 32, .ro, 0, 0, 4294967295⟩]⟩,
   /- SEN_SEL_FRAMES -/ ⟨0x401C, 16, 256, false, [⟨0, 32, .ro, 0, 0, 4294967295⟩]⟩,
   /- SEN_SEL_NAK_TX -/ ⟨0x4020, 16, 256, false, [⟨0, 32, .ro, 0, 0, 4294967295⟩]⟩,
   /- SEN_SEL_RETX -/ ⟨0x4024, 16, 256, false, [⟨0, 32, .ro, 0, 0, 4294967295⟩]⟩,
   /- SEN_SEL_CMD0 -/ ⟨0x4040, 16, 256, false, [⟨0, 32, .rw, 0, 0, 4294967295⟩]⟩,
   /- SEN_SEL_CMD1 -/ ⟨0x4044, 16, 256, false, [⟨0, 32, .rw, 0, 0, 4294967295⟩]⟩,
   /- SEN_SEL_CMD2 -/ ⟨0x4048, 16, 256, false, [⟨0, 32, .rw, 0, 0, 4294967295⟩]⟩,
   /- SEN_SEL_CMD3 -/ ⟨0x404C, 16, 256, false, [⟨0, 32, .rw, 0, 0, 4294967295⟩]⟩,
   /- SEN_SEL_CMD4 -/ ⟨0x4050, 16, 256, false, [⟨0, 32, .rw, 0, 0, 4294967295⟩]⟩,
   /- SEN_SEL_CMD5 -/ ⟨0x4054, 16, 256, false, [⟨0, 32, .rw, 0, 0, 4294967295⟩]⟩,
   /- SEN_SEL_CMD6 -/ ⟨0x4058, 16, 256, false, [⟨0, 32, .rw, 0, 0, 4294967295⟩]⟩,
   /- SEN_SEL_CMD7 -/ ⟨0x405C, 16, 256, false, [⟨0, 32, .rw, 0, 0, 4294967295⟩]⟩,
   /- SEN_SEL_CMD_CTRL -/ ⟨0x4060, 16, 256, false, [⟨0, 4, .rw, 0, 0, 15⟩, ⟨8, 1, .wo, 0, 0, 1⟩, ⟨9, 1, .ro, 0, 0, 1⟩]⟩,
   /- SEN_SEL_RSP0 -/ ⟨0x4080, 16, 256, false, [⟨0, 32, .ro, 0, 0, 4294967295⟩]⟩,
   /- SEN_SEL_RSP1 -/ ⟨0x4084, 16, 256, false, [⟨0, 32, .ro, 0, 0, 4294967295⟩]⟩,
   /- SEN_SEL_RSP2 -/ ⟨0x4088, 16, 256, false, [⟨0, 32, .ro, 0, 0, 4294967295⟩]⟩,
   /- SEN_SEL_RSP3 -/ ⟨0x408C, 16, 256, false, [⟨0, 32, .ro, 0, 0, 4294967295⟩]⟩,
   /- SEN_SEL_RSP4 -/ ⟨0x4090, 16, 256, false, [⟨0, 32, .ro, 0, 0, 4294967295⟩]⟩,
   /- SEN_SEL_RSP5 -/ ⟨0x4094, 16, 256, false, [⟨0, 32, .ro, 0, 0, 4294967295⟩]⟩,
   /- SEN_SEL_RSP6 -/ ⟨0x4098, 16, 256, false, [⟨0, 32, .ro, 0, 0, 4294967295⟩]⟩,
   /- SEN_SEL_RSP7 -/ ⟨0x409C, 16, 256, false, [⟨0, 32, .ro, 0, 0, 4294967295⟩]⟩,
   /- SEN_SEL_RSP_STAT -/ ⟨0x40A0, 16, 256, false, [⟨0, 4, .ro, 0, 0, 15⟩, ⟨8, 1, .w1c, 0, 0, 1⟩, ⟨16, 16, .ro, 0, 0, 65535⟩]⟩,
   /- SEN_GPI_CFG -/ ⟨0x5000, 32, 16, false, [⟨0, 16, .rw, 0, 0, 65535⟩, ⟨16, 8, .rw, 2, 2, 255⟩, ⟨24, 1, .rw, 0, 0, 1⟩, ⟨25, 2, .rw, 0, 0, 2⟩]⟩]

/-- Registers of block `hub` (manager base 0x01060000), part 4. Rules R474, R619. -/
def hubRows4 : List RegRow :=
  [
   /- SEN_GPI_STUCK -/ ⟨0x5004, 32, 16, false, [⟨0, 16, .rw, 0, 0, 65535⟩]⟩,
   /- SEN_GPI_STAT -/ ⟨0x5008, 32, 16, false, [⟨0, 1, .ro, 0, 0, 1⟩, ⟨1, 1, .ro, 0, 0, 1⟩, ⟨2, 1, .w1c, 0, 0, 1⟩, ⟨3, 1, .w1c, 0, 0, 1⟩, ⟨4, 1, .ro, 0, 0, 1⟩]⟩,
   /- SEN_GPI_LEVELS -/ ⟨0x5200, 1, 0, false, [⟨0, 32, .ro, 0, 0, 4294967295⟩]⟩,
   /- SEN_LTT -/ ⟨0x6000, 577, 4, false, [⟨0, 11, .rw, 0, 0, 2047⟩, ⟨15, 1, .rw, 0, 0, 1⟩, ⟨16, 11, .rw, 0, 0, 2047⟩, ⟨31, 1, .rw, 0, 0, 1⟩]⟩]

/-- Every register of block `hub`. -/
def hubRows : List RegRow := hubRows0 ++ hubRows1 ++ hubRows2 ++ hubRows3 ++ hubRows4

/-- Registers of block `mgrQueue` (manager base 0x01068000), part 0. Rules R360, R393. -/
def mgrQueueRows0 : List RegRow :=
  [
   /- Q_CTRL -/ ⟨0x0, 1, 0, false, [⟨0, 1, .rw, 0, 0, 1⟩, ⟨8, 8, .rw, 64, 0, 255⟩]⟩,
   /- Q_STATUS -/ ⟨0x4, 1, 0, false, [⟨0, 1, .w1c, 0, 0, 1⟩, ⟨1, 1, .w1c, 0, 0, 1⟩, ⟨16, 10, .ro, 0, 0, 1023⟩]⟩,
   /- Q_CMD -/ ⟨0x8, 1, 0, false, [⟨0, 3, .wo, 0, 0, 7⟩, ⟨16, 10, .wo, 0, 0, 1023⟩]⟩,
   /- Q_CMD_RESULT -/ ⟨0xC, 1, 0, false, [⟨0, 4, .ro, 0, 0, 15⟩, ⟨31, 1, .ro, 0, 0, 1⟩]⟩,
   /- Q_TXBUF0 -/ ⟨0x10, 1, 0, false, [⟨0, 32, .rw, 0, 0, 4294967295⟩]⟩,
   /- Q_TXBUF1 -/ ⟨0x14, 1, 0, false, [⟨0, 32, .rw, 0, 0, 4294967295⟩]⟩,
   /- Q_TXBUF2 -/ ⟨0x18, 1, 0, false, [⟨0, 32, .rw, 0, 0, 4294967295⟩]⟩,
   /- Q_TXBUF3 -/ ⟨0x1C, 1, 0, false, [⟨0, 32, .rw, 0, 0, 4294967295⟩]⟩,
   /- Q_SEND -/ ⟨0x20, 1, 0, false, [⟨0, 10, .wo, 0, 0, 1023⟩]⟩,
   /- Q_SEND_RESULT -/ ⟨0x24, 1, 0, false, [⟨0, 4, .ro, 0, 0, 15⟩, ⟨4, 1, .ro, 0, 0, 1⟩, ⟨8, 12, .ro, 0, 0, 4095⟩, ⟨20, 10, .ro, 0, 0, 1023⟩, ⟨31, 1, .ro, 0, 0, 1⟩]⟩,
   /- Q_POP -/ ⟨0x28, 1, 0, false, [⟨0, 10, .wo, 0, 0, 1023⟩, ⟨16, 12, .wo, 0, 0, 4095⟩]⟩,
   /- Q_POP_RESULT -/ ⟨0x2C, 1, 0, false, [⟨0, 4, .ro, 0, 0, 15⟩, ⟨31, 1, .ro, 0, 0, 1⟩]⟩,
   /- Q_TX_LO -/ ⟨0x30, 1, 0, true, [⟨0, 32, .ro, 0, 0, 4294967295⟩]⟩,
   /- Q_TX_HI -/ ⟨0x34, 1, 0, false, [⟨0, 32, .ro, 0, 0, 4294967295⟩]⟩,
   /- Q_RX_LO -/ ⟨0x38, 1, 0, true, [⟨0, 32, .ro, 0, 0, 4294967295⟩]⟩,
   /- Q_RX_HI -/ ⟨0x3C, 1, 0, false, [⟨0, 32, .ro, 0, 0, 4294967295⟩]⟩,
   /- Q_NO_CREDIT -/ ⟨0x40, 1, 0, false, [⟨0, 32, .ro, 0, 0, 4294967295⟩]⟩,
   /- Q_DROP_STALE -/ ⟨0x44, 1, 0, false, [⟨0, 32, .ro, 0, 0, 4294967295⟩]⟩,
   /- Q_DROP_CLOSED -/ ⟨0x48, 1, 0, false, [⟨0, 32, .ro, 0, 0, 4294967295⟩]⟩,
   /- Q_DROP_FOREIGN -/ ⟨0x4C, 1, 0, false, [⟨0, 32, .ro, 0, 0, 4294967295⟩]⟩,
   /- Q_DROP_SEQ -/ ⟨0x50, 1, 0, false, [⟨0, 32, .ro, 0, 0, 4294967295⟩]⟩,
   /- Q_CR_DISCARD -/ ⟨0x54, 1, 0, false, [⟨0, 32, .ro, 0, 0, 4294967295⟩]⟩,
   /- Q_GAP_CNT -/ ⟨0x58, 1, 0, false, [⟨0, 32, .ro, 0, 0, 4294967295⟩]⟩,
   /- Q_INT_EN -/ ⟨0x5C, 1, 0, false, [⟨0, 1, .rw, 0, 0, 1⟩, ⟨1, 1, .rw, 0, 0, 1⟩, ⟨2, 1, .rw, 0, 0, 1⟩]⟩]

/-- Registers of block `mgrQueue` (manager base 0x01068000), part 1. Rules R360, R393. -/
def mgrQueueRows1 : List RegRow :=
  [
   /- Q_READY -/ ⟨0x400, 32, 4, false, [⟨0, 32, .ro, 0, 0, 4294967295⟩]⟩,
   /- Q_READY_IE -/ ⟨0x480, 32, 4, false, [⟨0, 32, .rw, 0, 0, 4294967295⟩]⟩,
   /- Q_DESC0 -/ ⟨0x4000, 1024, 16, false, [⟨0, 2, .rw, 0, 0, 2⟩, ⟨2, 4, .rw, 0, 0, 15⟩, ⟨6, 2, .rw, 0, 0, 3⟩, ⟨8, 12, .rw, 0, 0, 4095⟩, ⟨24, 8, .rw, 0, 0, 255⟩]⟩,
   /- Q_DESC1 -/ ⟨0x4004, 1024, 16, false, [⟨0, 32, .rw, 0, 0, 4294967295⟩]⟩,
   /- Q_DESC2 -/ ⟨0x4008, 1024, 16, false, [⟨0, 32, .rw, 0, 0, 4294967295⟩]⟩,
   /- Q_DESC3 -/ ⟨0x400C, 1024, 16, false, [⟨0, 28, .rw, 0, 0, 268435455⟩]⟩]

/-- Every register of block `mgrQueue`. -/
def mgrQueueRows : List RegRow := mgrQueueRows0 ++ mgrQueueRows1

/-- Registers of block `guard` (manager base 0x01070000), part 0. Rules R475. -/
def guardRows0 : List RegRow :=
  [
   /- EGR_CTRL -/ ⟨0x0, 1, 0, false, [⟨0, 1, .bound, 0, 0, 1⟩]⟩,
   /- EGR_STATUS -/ ⟨0x4, 1, 0, false, [⟨0, 5, .ro, 0, 0, 31⟩, ⟨8, 1, .w1c, 0, 0, 1⟩]⟩,
   /- EGR_FORCE -/ ⟨0x8, 1, 0, false, [⟨0, 1, .rw, 0, 0, 1⟩]⟩,
   /- EGR_HOST_BASE_LO -/ ⟨0x10, 1, 0, true, [⟨0, 32, .bound, 0, 0, 4294967295⟩]⟩,
   /- EGR_HOST_BASE_HI -/ ⟨0x14, 1, 0, false, [⟨0, 32, .bound, 0, 0, 4294967295⟩]⟩,
   /- EGR_HOST_LEN -/ ⟨0x18, 1, 0, false, [⟨0, 16, .bound, 0, 0, 65535⟩]⟩,
   /- EGR_HOST_PTR -/ ⟨0x1C, 1, 0, false, [⟨0, 16, .ro, 0, 0, 65535⟩, ⟨16, 16, .rw, 0, 0, 65535⟩]⟩,
   /- EGR_HOST_DROP -/ ⟨0x20, 1, 0, false, [⟨0, 32, .ro, 0, 0, 4294967295⟩]⟩,
   /- EGR_ETH_DMAC_LO -/ ⟨0x40, 2, 16, true, [⟨0, 32, .bound, 0, 0, 4294967295⟩]⟩,
   /- EGR_ETH_DMAC_HI -/ ⟨0x44, 2, 16, false, [⟨0, 16, .bound, 0, 0, 65535⟩]⟩,
   /- EGR_ETH_DIP -/ ⟨0x48, 2, 16, false, [⟨0, 32, .bound, 0, 0, 4294967295⟩]⟩,
   /- EGR_ETH_PORTS -/ ⟨0x4C, 2, 16, false, [⟨0, 16, .bound, 0, 0, 65535⟩, ⟨16, 16, .bound, 0, 0, 65535⟩]⟩,
   /- EGR_CH_CTRL -/ ⟨0x1000, 64, 64, false, [⟨0, 1, .bound, 0, 0, 1⟩, ⟨1, 2, .bound, 0, 0, 2⟩, ⟨4, 3, .bound, 0, 0, 4⟩, ⟨7, 1, .bound, 0, 0, 1⟩, ⟨8, 5, .bound, 0, 0, 31⟩, ⟨16, 1, .rw, 0, 0, 1⟩]⟩,
   /- EGR_CH_SINK -/ ⟨0x1004, 64, 64, false, [⟨0, 32, .bound, 0, 0, 4294967295⟩]⟩,
   /- EGR_CH_LO -/ ⟨0x1008, 64, 64, false, [⟨0, 32, .bound, 2147483648, 0, 4294967295⟩]⟩,
   /- EGR_CH_HI -/ ⟨0x100C, 64, 64, false, [⟨0, 32, .bound, 2147483647, 0, 4294967295⟩]⟩,
   /- EGR_CH_DB -/ ⟨0x1010, 64, 64, false, [⟨0, 32, .bound, 0, 0, 4294967295⟩]⟩,
   /- EGR_CH_GAP -/ ⟨0x1014, 64, 64, false, [⟨0, 32, .bound, 0, 0, 4294967295⟩]⟩,
   /- EGR_CH_SAFE -/ ⟨0x1018, 64, 64, false, [⟨0, 32, .bound, 0, 0, 4294967295⟩]⟩,
   /- EGR_CH_SILENCE -/ ⟨0x101C, 64, 64, false, [⟨0, 16, .bound, 0, 0, 65535⟩]⟩,
   /- EGR_CH_WRITE -/ ⟨0x1020, 64, 64, false, [⟨0, 32, .wo, 0, 0, 4294967295⟩]⟩,
   /- EGR_CH_LAST -/ ⟨0x1024, 64, 64, false, [⟨0, 32, .ro, 0, 0, 4294967295⟩]⟩,
   /- EGR_CH_CLAMP -/ ⟨0x1028, 64, 64, false, [⟨0, 32, .ro, 0, 0, 4294967295⟩]⟩,
   /- EGR_CH_HELD -/ ⟨0x102C, 64, 64, false, [⟨0, 32, .ro, 0, 0, 4294967295⟩]⟩]

/-- Registers of block `guard` (manager base 0x01070000), part 1. Rules R475. -/
def guardRows1 : List RegRow :=
  [
   /- EGR_CH_LATE -/ ⟨0x1030, 64, 64, false, [⟨0, 32, .ro, 0, 0, 4294967295⟩]⟩,
   /- EGR_CH_STATUS -/ ⟨0x1034, 64, 64, false, [⟨0, 1, .ro, 1, 0, 1⟩, ⟨4, 8, .ro, 1, 0, 255⟩]⟩,
   /- EGR_CH_EMIT -/ ⟨0x1038, 64, 64, false, [⟨0, 32, .ro, 0, 0, 4294967295⟩]⟩,
   /- EGR_GPO_CFG -/ ⟨0x2000, 32, 16, false, [⟨0, 1, .bound, 0, 0, 1⟩, ⟨1, 1, .bound, 0, 0, 1⟩, ⟨2, 1, .bound, 0, 0, 1⟩]⟩,
   /- EGR_GPO_STAT -/ ⟨0x2004, 32, 16, false, [⟨0, 1, .ro, 0, 0, 1⟩, ⟨1, 1, .ro, 0, 0, 1⟩]⟩]

/-- Every register of block `guard`. -/
def guardRows : List RegRow := guardRows0 ++ guardRows1

/-- Registers of block `host` (manager base 0x01080000), part 0. Rules R520. -/
def hostRows0 : List RegRow :=
  [
   /- HOST_CTRL -/ ⟨0x0, 1, 0, false, [⟨0, 1, .mgr, 0, 0, 1⟩, ⟨1, 1, .mgr, 0, 0, 1⟩]⟩,
   /- HOST_STATUS -/ ⟨0x4, 1, 0, false, [⟨0, 1, .ro, 0, 0, 1⟩, ⟨1, 3, .ro, 0, 0, 7⟩, ⟨4, 4, .ro, 0, 0, 15⟩, ⟨8, 1, .ro, 0, 0, 1⟩]⟩,
   /- HOST_WIN_BASE -/ ⟨0x8, 1, 0, false, [⟨0, 9, .rw, 0, 0, 448⟩]⟩,
   /- HOST_ORING_RD -/ ⟨0xC, 1, 0, false, [⟨0, 16, .rw, 0, 0, 65535⟩]⟩,
   /- HOST_AER_CE -/ ⟨0x10, 1, 0, false, [⟨0, 32, .ro, 0, 0, 4294967295⟩]⟩,
   /- HOST_AER_UE -/ ⟨0x14, 1, 0, false, [⟨0, 32, .ro, 0, 0, 4294967295⟩]⟩,
   /- HOST_ABORTS -/ ⟨0x18, 1, 0, false, [⟨0, 32, .ro, 0, 0, 4294967295⟩]⟩,
   /- HOST_IRQ_STAT -/ ⟨0x20, 1, 0, false, [⟨0, 32, .w1c, 0, 0, 4294967295⟩]⟩,
   /- HOST_IRQ_MASK -/ ⟨0x24, 1, 0, false, [⟨0, 32, .rw, 0, 0, 4294967295⟩]⟩,
   /- HOST_IRQ_MAP -/ ⟨0x40, 32, 4, false, [⟨0, 6, .rw, 0, 0, 63⟩]⟩,
   /- HOST_DMA_CTRL -/ ⟨0x100, 8, 64, false, [⟨0, 1, .rw, 0, 0, 1⟩, ⟨1, 1, .wo, 0, 0, 1⟩]⟩,
   /- HOST_DMA_STATUS -/ ⟨0x104, 8, 64, false, [⟨0, 1, .ro, 0, 0, 1⟩, ⟨1, 1, .ro, 0, 0, 1⟩]⟩,
   /- HOST_DMA_RING_LO -/ ⟨0x108, 8, 64, true, [⟨0, 32, .rw, 0, 0, 4294967295⟩]⟩,
   /- HOST_DMA_RING_HI -/ ⟨0x10C, 8, 64, false, [⟨0, 32, .rw, 0, 0, 4294967295⟩]⟩,
   /- HOST_DMA_RING_LEN -/ ⟨0x110, 8, 64, false, [⟨0, 16, .rw, 0, 2, 65535⟩]⟩,
   /- HOST_DMA_HEAD -/ ⟨0x114, 8, 64, false, [⟨0, 16, .ro, 0, 0, 65535⟩]⟩,
   /- HOST_DMA_TAIL -/ ⟨0x118, 8, 64, false, [⟨0, 16, .rw, 0, 0, 65535⟩]⟩,
   /- HOST_DMA_DONE -/ ⟨0x11C, 8, 64, false, [⟨0, 32, .ro, 0, 0, 4294967295⟩]⟩,
   /- HOST_MBX_DOORBELL -/ ⟨0x4200, 1, 0, false, [⟨0, 1, .wo, 0, 0, 1⟩]⟩,
   /- HOST_MBX_STAT -/ ⟨0x4204, 1, 0, false, [⟨0, 1, .ro, 0, 0, 1⟩, ⟨1, 1, .w1c, 0, 0, 1⟩, ⟨2, 1, .w1c, 0, 0, 1⟩]⟩]

/-- Every register of block `host`. -/
def hostRows : List RegRow := hostRows0

/-- Registers of block `tierlink` (manager base 0x01090000), part 0. Rules R521. -/
def tierlinkRows0 : List RegRow :=
  [
   /- TLK_CTRL -/ ⟨0x0, 1, 0, false, [⟨0, 1, .rw, 0, 0, 1⟩, ⟨1, 1, .wo, 0, 0, 1⟩, ⟨2, 1, .wo, 0, 0, 1⟩, ⟨3, 1, .rw, 0, 0, 1⟩, ⟨4, 4, .rw, 15, 0, 15⟩, ⟨8, 2, .rw, 1, 0, 2⟩]⟩,
   /- TLK_STATUS -/ ⟨0x4, 1, 0, false, [⟨0, 3, .ro, 0, 0, 7⟩, ⟨4, 4, .ro, 0, 0, 15⟩, ⟨8, 1, .ro, 0, 0, 1⟩, ⟨9, 1, .w1c, 0, 0, 1⟩, ⟨10, 1, .w1c, 0, 0, 1⟩, ⟨16, 3, .ro, 0, 0, 7⟩]⟩,
   /- TLK_SESSION -/ ⟨0x8, 1, 0, false, [⟨0, 32, .ro, 0, 0, 4294967295⟩]⟩,
   /- TLK_PEER_ID_LO -/ ⟨0xC, 1, 0, true, [⟨0, 32, .ro, 0, 0, 4294967295⟩]⟩,
   /- TLK_PEER_ID_HI -/ ⟨0x10, 1, 0, false, [⟨0, 32, .ro, 0, 0, 4294967295⟩]⟩,
   /- TLK_SEQ -/ ⟨0x14, 1, 0, false, [⟨0, 12, .ro, 0, 0, 4095⟩, ⟨16, 12, .ro, 0, 0, 4095⟩]⟩,
   /- TLK_HOLD -/ ⟨0x18, 1, 0, false, [⟨0, 9, .ro, 0, 0, 511⟩]⟩,
   /- TLK_TB_OFFSET -/ ⟨0x1C, 1, 0, false, [⟨0, 32, .ro, 0, 0, 4294967295⟩]⟩,
   /- TLK_TB_DELAY -/ ⟨0x20, 1, 0, false, [⟨0, 16, .ro, 0, 0, 65535⟩]⟩,
   /- TLK_CRC_ERR -/ ⟨0x40, 1, 0, false, [⟨0, 32, .ro, 0, 0, 4294967295⟩]⟩,
   /- TLK_CODE_ERR -/ ⟨0x44, 1, 0, false, [⟨0, 32, .ro, 0, 0, 4294967295⟩]⟩,
   /- TLK_REPLAY -/ ⟨0x48, 1, 0, false, [⟨0, 32, .ro, 0, 0, 4294967295⟩]⟩,
   /- TLK_RETRAIN -/ ⟨0x4C, 1, 0, false, [⟨0, 32, .ro, 0, 0, 4294967295⟩]⟩,
   /- TLK_DROP_HOLD -/ ⟨0x50, 1, 0, false, [⟨0, 32, .ro, 0, 0, 4294967295⟩]⟩,
   /- TLK_DROP_SESSION -/ ⟨0x54, 1, 0, false, [⟨0, 32, .ro, 0, 0, 4294967295⟩]⟩,
   /- TLK_ARM_LATE -/ ⟨0x58, 1, 0, false, [⟨0, 32, .ro, 0, 0, 4294967295⟩]⟩,
   /- TLK_FWD_MISS -/ ⟨0x5C, 1, 0, false, [⟨0, 32, .ro, 0, 0, 4294967295⟩]⟩,
   /- TLK_TX_PIPS_LO -/ ⟨0x60, 1, 0, true, [⟨0, 32, .ro, 0, 0, 4294967295⟩]⟩,
   /- TLK_TX_PIPS_HI -/ ⟨0x64, 1, 0, false, [⟨0, 32, .ro, 0, 0, 4294967295⟩]⟩,
   /- TLK_RX_PIPS_LO -/ ⟨0x68, 1, 0, true, [⟨0, 32, .ro, 0, 0, 4294967295⟩]⟩,
   /- TLK_RX_PIPS_HI -/ ⟨0x6C, 1, 0, false, [⟨0, 32, .ro, 0, 0, 4294967295⟩]⟩,
   /- TLK_INT_EN -/ ⟨0x80, 1, 0, false, [⟨0, 4, .rw, 0, 0, 15⟩]⟩]

/-- Every register of block `tierlink`. -/
def tierlinkRows : List RegRow := tierlinkRows0

/-- Registers of block `hier` (manager base 0x01090000), part 0. Rules R521. -/
def hierRows0 : List RegRow :=
  [
   /- TLK_HIER_CTRL -/ ⟨0x1000, 1, 0, false, [⟨0, 2, .ro, 0, 0, 3⟩, ⟨4, 3, .ro, 0, 0, 7⟩, ⟨8, 1, .ro, 0, 0, 1⟩, ⟨16, 16, .ro, 100, 0, 65535⟩]⟩,
   /- TLK_HIER_STAT -/ ⟨0x1004, 1, 0, false, [⟨0, 2, .ro, 0, 0, 3⟩, ⟨4, 3, .ro, 0, 0, 7⟩, ⟨8, 8, .ro, 0, 0, 255⟩]⟩,
   /- TLK_HIER_LEAD -/ ⟨0x1008, 1, 0, false, [⟨0, 12, .rw, 600, 100, 4000⟩]⟩,
   /- TLK_FWD_BASE -/ ⟨0x100C, 1, 0, false, [⟨0, 22, .rw, 0, 0, 4194303⟩]⟩]

/-- Every register of block `hier`. -/
def hierRows : List RegRow := hierRows0

/-- Registers of block `can` (manager base 0x010A0000), part 0. Rules R554. -/
def canRows0 : List RegRow :=
  [
   /- CAN_CTRL -/ ⟨0x0, 1, 0, false, [⟨0, 1, .rw, 0, 0, 1⟩, ⟨1, 1, .rw, 0, 0, 1⟩, ⟨2, 1, .rw, 0, 0, 1⟩, ⟨3, 1, .rw, 0, 0, 1⟩, ⟨4, 1, .rw, 0, 0, 1⟩, ⟨5, 1, .rw, 1, 0, 1⟩]⟩,
   /- CAN_STATUS -/ ⟨0x4, 1, 0, false, [⟨0, 2, .ro, 3, 0, 3⟩, ⟨8, 8, .ro, 0, 0, 255⟩, ⟨16, 8, .ro, 0, 0, 255⟩]⟩,
   /- CAN_NBT -/ ⟨0x8, 1, 0, false, [⟨0, 8, .rw, 0, 0, 255⟩, ⟨8, 8, .rw, 63, 0, 255⟩, ⟨16, 7, .rw, 16, 0, 127⟩, ⟨24, 7, .rw, 16, 0, 127⟩]⟩,
   /- CAN_DBT -/ ⟨0xC, 1, 0, false, [⟨0, 5, .rw, 0, 0, 31⟩, ⟨8, 5, .rw, 11, 0, 31⟩, ⟨16, 4, .rw, 4, 0, 15⟩, ⟨24, 4, .rw, 4, 0, 15⟩]⟩,
   /- CAN_TDC -/ ⟨0x10, 1, 0, false, [⟨0, 7, .rw, 12, 0, 127⟩]⟩,
   /- CAN_TXLIM -/ ⟨0x14, 1, 0, false, [⟨0, 14, .auth, 1000, 1, 10000⟩, ⟨16, 6, .auth, 16, 1, 32⟩]⟩,
   /- CAN_TXLIM_STAT -/ ⟨0x18, 1, 0, false, [⟨0, 6, .ro, 16, 0, 63⟩, ⟨8, 1, .ro, 0, 0, 1⟩]⟩,
   /- CAN_TX_MERGED -/ ⟨0x1C, 1, 0, false, [⟨0, 32, .ro, 0, 0, 4294967295⟩]⟩,
   /- CAN_TX_FRAMES -/ ⟨0x20, 1, 0, false, [⟨0, 32, .ro, 0, 0, 4294967295⟩]⟩,
   /- CAN_RX_FRAMES -/ ⟨0x24, 1, 0, false, [⟨0, 32, .ro, 0, 0, 4294967295⟩]⟩,
   /- CAN_RX_DROP -/ ⟨0x28, 1, 0, false, [⟨0, 32, .ro, 0, 0, 4294967295⟩]⟩,
   /- CAN_BUSOFF -/ ⟨0x2C, 1, 0, false, [⟨0, 32, .ro, 0, 0, 4294967295⟩]⟩,
   /- CAN_DUP_DISCARD -/ ⟨0x30, 1, 0, false, [⟨0, 32, .ro, 0, 0, 4294967295⟩]⟩,
   /- CAN_INT_EN -/ ⟨0x34, 1, 0, false, [⟨0, 4, .rw, 0, 0, 15⟩]⟩,
   /- CAN_TXBUF -/ ⟨0x100, 18, 4, false, [⟨0, 32, .rw, 0, 0, 4294967295⟩]⟩,
   /- CAN_TX_REQ -/ ⟨0x148, 1, 0, false, [⟨0, 2, .wo, 0, 0, 3⟩, ⟨31, 1, .wo, 0, 0, 1⟩]⟩,
   /- CAN_TX_RESULT -/ ⟨0x14C, 1, 0, false, [⟨0, 4, .ro, 0, 0, 15⟩, ⟨31, 1, .ro, 0, 0, 1⟩]⟩,
   /- CAN_RXBUF -/ ⟨0x200, 20, 4, false, [⟨0, 32, .ro, 0, 0, 4294967295⟩]⟩,
   /- CAN_RX_POP -/ ⟨0x250, 1, 0, false, [⟨0, 1, .wo, 0, 0, 1⟩]⟩,
   /- CAN_RX_LEVEL -/ ⟨0x254, 1, 0, false, [⟨0, 7, .ro, 0, 0, 127⟩]⟩,
   /- CAN_TPDO_CFG -/ ⟨0x400, 16, 16, false, [⟨0, 11, .auth, 0, 0, 2047⟩, ⟨16, 7, .auth, 0, 0, 127⟩, ⟨30, 1, .auth, 0, 0, 1⟩, ⟨31, 1, .auth, 0, 0, 1⟩]⟩,
   /- CAN_TPDO_TRIG -/ ⟨0x404, 16, 16, false, [⟨0, 1, .wo, 0, 0, 1⟩]⟩,
   /- CAN_TPDO_BUF -/ ⟨0x800, 256, 4, false, [⟨0, 32, .rw, 0, 0, 4294967295⟩]⟩]

/-- Every register of block `can`. -/
def canRows : List RegRow := canRows0

/-- Registers of block `power` (manager base 0x010B0000), part 0. Rules R642. -/
def powerRows0 : List RegRow :=
  [
   /- PWR_CTRL -/ ⟨0x0, 1, 0, false, [⟨0, 2, .rw, 0, 0, 3⟩]⟩,
   /- PWR_STATUS -/ ⟨0x4, 1, 0, false, [⟨0, 3, .ro, 0, 0, 7⟩, ⟨8, 1, .w1c, 0, 0, 1⟩]⟩,
   /- PWR_CLK_W -/ ⟨0x8, 1, 0, false, [⟨0, 10, .rw, 800, 0, 1023⟩]⟩,
   /- PWR_CLK_E -/ ⟨0xC, 1, 0, false, [⟨0, 10, .rw, 800, 0, 1023⟩]⟩,
   /- PWR_HALF_CTRL -/ ⟨0x10, 1, 0, false, [⟨0, 1, .rw, 0, 0, 1⟩]⟩,
   /- PWR_HALF_STAT -/ ⟨0x14, 1, 0, false, [⟨0, 2, .ro, 0, 0, 3⟩, ⟨8, 4, .ro, 0, 0, 15⟩, ⟨12, 4, .ro, 0, 0, 15⟩]⟩,
   /- PWR_VMARGIN -/ ⟨0x18, 1, 0, false, [⟨0, 6, .rw, 10, 0, 50⟩]⟩,
   /- PWR_GOV_CTRL -/ ⟨0x40, 1, 0, false, [⟨0, 1, .ro, 1, 0, 1⟩]⟩,
   /- PWR_GOV_LIMIT -/ ⟨0x44, 1, 0, false, [⟨0, 8, .auth, 0, 0, 255⟩]⟩,
   /- PWR_GOV_STAT -/ ⟨0x48, 1, 0, false, [⟨0, 7, .ro, 64, 0, 127⟩, ⟨8, 8, .ro, 140, 0, 255⟩]⟩,
   /- PWR_PKG_POWER -/ ⟨0x4C, 1, 0, false, [⟨0, 16, .ro, 0, 0, 65535⟩]⟩,
   /- PWR_TEMP -/ ⟨0x50, 1, 0, false, [⟨0, 16, .ro, 0, 0, 65535⟩, ⟨16, 16, .ro, 0, 0, 65535⟩]⟩,
   /- PWR_WITHHELD -/ ⟨0x54, 1, 0, false, [⟨0, 32, .ro, 0, 0, 4294967295⟩]⟩,
   /- PWR_RAIL_CFG -/ ⟨0x100, 8, 32, false, [⟨0, 7, .rw, 0, 0, 127⟩, ⟨8, 8, .rw, 0, 0, 255⟩, ⟨16, 5, .rw, 0, 0, 31⟩, ⟨24, 1, .rw, 1, 0, 1⟩]⟩,
   /- PWR_RAIL_WIN -/ ⟨0x104, 8, 32, false, [⟨0, 16, .auth, 0, 0, 65535⟩, ⟨16, 16, .auth, 0, 0, 65535⟩]⟩,
   /- PWR_RAIL_SET -/ ⟨0x108, 8, 32, false, [⟨0, 16, .ro, 0, 0, 65535⟩]⟩,
   /- PWR_RAIL_MEAS -/ ⟨0x10C, 8, 32, false, [⟨0, 16, .ro, 0, 0, 65535⟩, ⟨16, 16, .ro, 0, 0, 65535⟩]⟩,
   /- PWR_RAIL_STAT -/ ⟨0x110, 8, 32, false, [⟨0, 1, .ro, 0, 0, 1⟩, ⟨1, 1, .ro, 0, 0, 1⟩, ⟨2, 1, .w1c, 0, 0, 1⟩]⟩,
   /- PWR_RAIL_TMO -/ ⟨0x114, 8, 32, false, [⟨0, 16, .rw, 1000, 100, 65535⟩]⟩,
   /- PWR_PMB_CFG -/ ⟨0x200, 1, 0, false, [⟨0, 1, .rw, 0, 0, 1⟩]⟩,
   /- PWR_PMB_CMD -/ ⟨0x204, 1, 0, false, [⟨0, 3, .wo, 0, 0, 7⟩, ⟨8, 8, .wo, 0, 0, 255⟩, ⟨16, 2, .wo, 0, 0, 3⟩, ⟨30, 1, .wo, 0, 0, 1⟩, ⟨31, 1, .wo, 0, 0, 1⟩]⟩,
   /- PWR_PMB_DATA -/ ⟨0x208, 1, 0, false, [⟨0, 16, .rw, 0, 0, 65535⟩]⟩,
   /- PWR_PMB_RESULT -/ ⟨0x20C, 1, 0, false, [⟨0, 4, .ro, 0, 0, 15⟩, ⟨31, 1, .ro, 0, 0, 1⟩]⟩,
   /- PWR_AON_STAT -/ ⟨0x800, 1, 0, false, [⟨0, 1, .ro, 0, 0, 1⟩]⟩]

/-- Registers of block `power` (manager base 0x010B0000), part 1. Rules R642. -/
def powerRows1 : List RegRow :=
  [
   /- PWR_SEQ_STAT -/ ⟨0x804, 1, 0, false, [⟨0, 3, .ro, 0, 0, 7⟩, ⟨8, 1, .ro, 0, 0, 1⟩]⟩,
   /- PWR_WAKE_EN -/ ⟨0x808, 1, 0, false, [⟨1, 8, .rw, 255, 0, 255⟩]⟩,
   /- PWR_WAKE_GPIO -/ ⟨0x80C, 1, 0, false, [⟨0, 32, .rw, 0, 0, 4294967295⟩]⟩,
   /- PWR_WAKE_UDP -/ ⟨0x810, 1, 0, false, [⟨0, 16, .rw, 0, 0, 65535⟩]⟩,
   /- PWR_WAKE_GFLT -/ ⟨0x814, 1, 0, false, [⟨0, 8, .rw, 4, 1, 255⟩]⟩,
   /- PWR_WAKE_TMR_LO -/ ⟨0x818, 1, 0, true, [⟨0, 32, .rw, 0, 0, 4294967295⟩]⟩,
   /- PWR_WAKE_TMR_HI -/ ⟨0x81C, 1, 0, false, [⟨0, 16, .rw, 0, 0, 65535⟩]⟩,
   /- PWR_WAKE_REC -/ ⟨0x820, 1, 0, false, [⟨0, 4, .ro, 0, 0, 15⟩, ⟨4, 8, .ro, 0, 0, 255⟩, ⟨12, 3, .ro, 0, 0, 7⟩, ⟨16, 9, .w1c, 0, 0, 511⟩]⟩,
   /- PWR_WAKE_TB_LO -/ ⟨0x828, 1, 0, true, [⟨0, 32, .ro, 0, 0, 4294967295⟩]⟩,
   /- PWR_WAKE_TB_HI -/ ⟨0x82C, 1, 0, false, [⟨0, 32, .ro, 0, 0, 4294967295⟩]⟩,
   /- PWR_TRIP_REC -/ ⟨0x830, 1, 0, false, [⟨0, 2, .ro, 0, 0, 3⟩, ⟨4, 3, .ro, 0, 0, 7⟩]⟩,
   /- PWR_TRIP_TB_LO -/ ⟨0x838, 1, 0, true, [⟨0, 32, .ro, 0, 0, 4294967295⟩]⟩,
   /- PWR_TRIP_TB_HI -/ ⟨0x83C, 1, 0, false, [⟨0, 32, .ro, 0, 0, 4294967295⟩]⟩]

/-- Every register of block `power`. -/
def powerRows : List RegRow := powerRows0 ++ powerRows1

/-- Registers of block `chk` (manager base 0x010C0000), part 0. Rules R683. -/
def chkRows0 : List RegRow :=
  [
   /- CHK_CTRL -/ ⟨0x0, 1, 0, false, [⟨0, 3, .rw, 1, 0, 7⟩, ⟨4, 2, .rw, 2, 0, 2⟩, ⟨6, 1, .rw, 0, 0, 1⟩, ⟨7, 1, .rw, 0, 0, 1⟩, ⟨8, 2, .rw, 0, 0, 2⟩, ⟨12, 2, .rw, 0, 0, 3⟩]⟩,
   /- CHK_CMD -/ ⟨0x4, 1, 0, false, [⟨0, 1, .wo, 0, 0, 1⟩, ⟨1, 1, .wo, 0, 0, 1⟩]⟩,
   /- CHK_STATUS -/ ⟨0x8, 1, 0, false, [⟨0, 1, .ro, 0, 0, 1⟩, ⟨1, 1, .w1c, 0, 0, 1⟩, ⟨2, 1, .ro, 0, 0, 1⟩, ⟨3, 1, .w1c, 0, 0, 1⟩, ⟨4, 3, .ro, 0, 0, 7⟩, ⟨8, 4, .ro, 0, 0, 15⟩, ⟨12, 4, .ro, 0, 0, 15⟩]⟩,
   /- CHK_ADDR_LO -/ ⟨0x10, 1, 0, true, [⟨0, 32, .rw, 0, 0, 4294967295⟩]⟩,
   /- CHK_ADDR_HI -/ ⟨0x14, 1, 0, false, [⟨0, 8, .rw, 0, 0, 255⟩]⟩,
   /- CHK_LEN -/ ⟨0x18, 1, 0, false, [⟨0, 32, .rw, 0, 0, 4294967295⟩]⟩,
   /- CHK_INIT -/ ⟨0x1C, 1, 0, false, [⟨0, 32, .rw, 0, 0, 4294967295⟩]⟩,
   /- CHK_XOROUT -/ ⟨0x20, 1, 0, false, [⟨0, 32, .rw, 0, 0, 4294967295⟩]⟩,
   /- CHK_POLY -/ ⟨0x24, 1, 0, false, [⟨0, 32, .rw, 0, 0, 4294967295⟩]⟩,
   /- CHK_RESULT -/ ⟨0x28, 1, 0, false, [⟨0, 32, .ro, 0, 0, 4294967295⟩]⟩,
   /- CHK_EXPECT -/ ⟨0x2C, 1, 0, false, [⟨0, 32, .rw, 0, 0, 4294967295⟩]⟩,
   /- CHK_POS -/ ⟨0x30, 1, 0, false, [⟨0, 32, .ro, 0, 0, 4294967295⟩]⟩,
   /- CHK_JOBS -/ ⟨0x34, 1, 0, false, [⟨0, 32, .ro, 0, 0, 4294967295⟩]⟩,
   /- CHK_MISMATCH -/ ⟨0x38, 1, 0, false, [⟨0, 32, .ro, 0, 0, 4294967295⟩]⟩,
   /- CHK_INT_EN -/ ⟨0x3C, 1, 0, false, [⟨0, 2, .rw, 0, 0, 3⟩]⟩,
   /- CHK_PROF_ID -/ ⟨0x100, 4, 16, false, [⟨0, 16, .rw, 0, 0, 65535⟩, ⟨16, 4, .rw, 1, 1, 15⟩]⟩,
   /- CHK_PROF_OFF -/ ⟨0x104, 4, 16, false, [⟨0, 16, .rw, 0, 0, 65535⟩, ⟨16, 16, .rw, 0, 0, 65535⟩]⟩,
   /- CHK_PROF_CNT -/ ⟨0x108, 4, 16, false, [⟨0, 8, .ro, 0, 0, 255⟩, ⟨8, 1, .ro, 0, 0, 1⟩, ⟨31, 1, .wo, 0, 0, 1⟩]⟩,
   /- CHK_PROF_LOST -/ ⟨0x10C, 4, 16, false, [⟨0, 32, .ro, 0, 0, 4294967295⟩]⟩]

/-- Every register of block `chk`. -/
def chkRows : List RegRow := chkRows0

/-- Registers of block `timer` (manager base 0x010D0000), part 0. Rules R684. -/
def timerRows0 : List RegRow :=
  [
   /- TMR_CFG -/ ⟨0x0, 1, 0, false, [⟨0, 3, .rw, 0, 0, 5⟩, ⟨8, 8, .rw, 0, 0, 255⟩, ⟨16, 2, .rw, 0, 0, 3⟩, ⟨20, 2, .rw, 0, 0, 2⟩]⟩,
   /- TMR_TRIG -/ ⟨0x4, 1, 0, false, [⟨0, 4, .rw, 0, 0, 15⟩, ⟨4, 3, .rw, 0, 0, 4⟩, ⟨8, 3, .rw, 0, 0, 5⟩]⟩,
   /- TMR_PIN -/ ⟨0x8, 1, 0, false, [⟨0, 5, .rw, 0, 0, 31⟩, ⟨8, 2, .rw, 0, 0, 3⟩]⟩,
   /- TMR_CAP_CFG -/ ⟨0xC, 1, 0, false, [⟨0, 3, .rw, 0, 0, 4⟩, ⟨4, 3, .rw, 0, 0, 4⟩]⟩,
   /- TMR_CMD -/ ⟨0x10, 1, 0, false, [⟨0, 3, .wo, 0, 0, 7⟩, ⟨8, 1, .wo, 0, 0, 1⟩]⟩,
   /- TMR_STATUS -/ ⟨0x14, 1, 0, false, [⟨0, 1, .ro, 0, 0, 1⟩, ⟨1, 1, .ro, 0, 0, 1⟩, ⟨2, 1, .w1c, 0, 0, 1⟩, ⟨3, 1, .w1c, 0, 0, 1⟩, ⟨4, 1, .w1c, 0, 0, 1⟩, ⟨5, 1, .ro, 0, 0, 1⟩, ⟨6, 1, .ro, 0, 0, 1⟩, ⟨7, 1, .w1c, 0, 0, 1⟩, ⟨8, 1, .w1c, 0, 0, 1⟩, ⟨9, 1, .w1c, 0, 0, 1⟩]⟩,
   /- TMR_INT_EN -/ ⟨0x18, 1, 0, false, [⟨0, 6, .rw, 0, 0, 63⟩]⟩,
   /- TMR_CNT_LO -/ ⟨0x20, 1, 0, true, [⟨0, 32, .ro, 0, 0, 4294967295⟩]⟩,
   /- TMR_CNT_HI -/ ⟨0x24, 1, 0, false, [⟨0, 32, .ro, 0, 0, 4294967295⟩]⟩,
   /- TMR_LOAD_LO -/ ⟨0x28, 1, 0, true, [⟨0, 32, .rw, 0, 0, 4294967295⟩]⟩,
   /- TMR_LOAD_HI -/ ⟨0x2C, 1, 0, false, [⟨0, 32, .rw, 0, 0, 4294967295⟩]⟩,
   /- TMR_CMP0_LO -/ ⟨0x30, 1, 0, true, [⟨0, 32, .rw, 4294967295, 0, 4294967295⟩]⟩,
   /- TMR_CMP0_HI -/ ⟨0x34, 1, 0, false, [⟨0, 32, .rw, 4294967295, 0, 4294967295⟩]⟩,
   /- TMR_CMP1_LO -/ ⟨0x38, 1, 0, true, [⟨0, 32, .rw, 4294967295, 0, 4294967295⟩]⟩,
   /- TMR_CMP1_HI -/ ⟨0x3C, 1, 0, false, [⟨0, 32, .rw, 4294967295, 0, 4294967295⟩]⟩,
   /- TMR_CAPA_LO -/ ⟨0x40, 1, 0, true, [⟨0, 32, .ro, 0, 0, 4294967295⟩]⟩,
   /- TMR_CAPA_HI -/ ⟨0x44, 1, 0, false, [⟨0, 32, .ro, 0, 0, 4294967295⟩]⟩,
   /- TMR_CAPB_LO -/ ⟨0x48, 1, 0, true, [⟨0, 32, .ro, 0, 0, 4294967295⟩]⟩,
   /- TMR_CAPB_HI -/ ⟨0x4C, 1, 0, false, [⟨0, 32, .ro, 0, 0, 4294967295⟩]⟩,
   /- TMR_SNAP_LO -/ ⟨0x50, 1, 0, true, [⟨0, 32, .ro, 0, 0, 4294967295⟩]⟩,
   /- TMR_SNAP_HI -/ ⟨0x54, 1, 0, false, [⟨0, 32, .ro, 0, 0, 4294967295⟩]⟩]

/-- Every register of block `timer`. -/
def timerRows : List RegRow := timerRows0

/-- Registers of block `debug` (manager base 0x010F0000), part 0. Rules R739. -/
def debugRows0 : List RegRow :=
  [
   /- DBG_CTRL -/ ⟨0x0, 1, 0, false, [⟨0, 2, .rw, 1, 0, 2⟩, ⟨16, 16, .rw, 1, 1, 65535⟩]⟩,
   /- DBG_STATUS -/ ⟨0x4, 1, 0, false, [⟨0, 2, .ro, 1, 0, 3⟩]⟩,
   /- DBG_OBS_BASE_LO -/ ⟨0x10, 1, 0, true, [⟨0, 32, .rw, 0, 0, 4294967295⟩]⟩,
   /- DBG_OBS_BASE_HI -/ ⟨0x14, 1, 0, false, [⟨0, 32, .rw, 0, 0, 4294967295⟩]⟩,
   /- DBG_TRC_BASE_LO -/ ⟨0x20, 1, 0, true, [⟨0, 32, .rw, 0, 0, 4294967295⟩]⟩,
   /- DBG_TRC_BASE_HI -/ ⟨0x24, 1, 0, false, [⟨0, 32, .rw, 0, 0, 4294967295⟩]⟩,
   /- DBG_TRC_LEN -/ ⟨0x28, 1, 0, false, [⟨0, 24, .rw, 0, 0, 16777215⟩]⟩,
   /- DBG_TRC_WR -/ ⟨0x2C, 1, 0, false, [⟨0, 24, .ro, 0, 0, 16777215⟩]⟩,
   /- DBG_TRC_RD -/ ⟨0x30, 1, 0, false, [⟨0, 24, .rw, 0, 0, 16777215⟩]⟩,
   /- DBG_TRC_CTRL -/ ⟨0x34, 1, 0, false, [⟨0, 1, .rw, 0, 0, 1⟩, ⟨1, 1, .rw, 1, 0, 1⟩]⟩,
   /- DBG_GTRC_LOST -/ ⟨0x38, 1, 0, false, [⟨0, 16, .ro, 0, 0, 65535⟩, ⟨16, 16, .ro, 0, 0, 65535⟩]⟩,
   /- DBG_INJ_TARGET -/ ⟨0x100, 1, 0, false, [⟨0, 20, .auth, 1048575, 0, 1048575⟩]⟩,
   /- DBG_INJ_KIND -/ ⟨0x104, 1, 0, false, [⟨0, 3, .auth, 0, 0, 7⟩]⟩,
   /- DBG_INJ_COUNT -/ ⟨0x108, 1, 0, false, [⟨0, 16, .auth, 1, 1, 65535⟩]⟩,
   /- DBG_INJ_CTRL -/ ⟨0x10C, 1, 0, false, [⟨0, 1, .woAuth, 0, 0, 1⟩, ⟨1, 1, .woAuth, 0, 0, 1⟩]⟩,
   /- DBG_INJ_STAT -/ ⟨0x110, 1, 0, false, [⟨0, 1, .ro, 0, 0, 1⟩, ⟨16, 16, .ro, 0, 0, 65535⟩]⟩,
   /- DBG_INJ_DONE -/ ⟨0x114, 1, 0, false, [⟨0, 32, .ro, 0, 0, 4294967295⟩]⟩,
   /- DBG_JTAG_STAT -/ ⟨0x200, 1, 0, false, [⟨0, 2, .ro, 0, 0, 3⟩, ⟨2, 1, .ro, 0, 0, 1⟩]⟩,
   /- DBG_MWAIT -/ ⟨0x300, 1, 0, false, [⟨0, 3, .rw, 0, 0, 4⟩, ⟨3, 1, .rw, 0, 0, 1⟩, ⟨8, 8, .rw, 0, 0, 255⟩]⟩,
   /- DBG_MWAIT_OBJ -/ ⟨0x304, 1, 0, false, [⟨0, 10, .rw, 0, 0, 1023⟩, ⟨16, 11, .rw, 0, 0, 2047⟩]⟩,
   /- DBG_MWAIT_SINCE -/ ⟨0x308, 1, 0, false, [⟨0, 32, .rw, 0, 0, 4294967295⟩]⟩]

/-- Every register of block `debug`. -/
def debugRows : List RegRow := debugRows0

/-- The register at an offset of a block. -/
def rowAt (rows : List RegRow) (off : Nat) : Option RegRow :=
  rows.find? fun r =>
    if r.stride = 0 then off = r.off
    else r.off ≤ off && (off - r.off) % r.stride = 0 && (off - r.off) / r.stride < r.count

/-- The block and the offset within it, of a tile-window offset (R42). -/
def tileBlock (o : Nat) : Option (List RegRow × Nat) :=
  if o < 0x30000 then none
  else if o < 0x30800 then some (neRows, o - 0x30000)
  else if o < 0x31000 then some (deRows, o - 0x30800)
  else if o < 0x31800 then some (popRows, (o - 0x31000) % 0x40)
  else if o < 0x32000 then some (evmRows, o - 0x31800)
  else if o < 0x32800 then some (replicaRows, o - 0x32000)
  else if o < 0x33000 then some (syncNodeRows, o - 0x32800)
  else if o < 0x33800 then some (queueRows, o - 0x33000)
  else if o < 0x34000 then some (tileDebugRows, o - 0x33800)
  else if o < 0x34800 then some (tileFaultRows, o - 0x34000)
  else if o < 0x35000 then none
  else if o < 0x37000 then some (scmRows, o - 0x35000)
  else if o < 0x38000 then none
  else if o < 0x3C000 then some (queueDescRows, o - 0x38000)
  else none

/-- The block and the offset within it, of a pod-window offset (R43). -/
def podBlock (o : Nat) : Option (List RegRow × Nat) :=
  if o < 0x80000 then none
  else if o < 0x81000 then some (podRows, o - 0x80000)
  else if o < 0x82000 then some (arbRows, o - 0x81000)
  else if o < 0x83000 then some (podStreamRows, o - 0x82000)
  else none

/-- The block and the offset within it, of a manager-local address (R44). -/
def managerBlock (a : Nat) : Option (List RegRow × Nat) :=
  let o := a % 0x10000
  match a / 0x10000 with
  | 0x100 => some (stepClockRows, o)
  | 0x101 => some (tbRows, o)
  | 0x102 => some (syncRootRows, o)
  | 0x103 => some (loaderRows, o)
  | 0x104 => some (streamRows, o % 0x1000)
  | 0x105 => if 0x4000 ≤ o && (o % 0x4000 = 0x40 || o % 0x4000 = 0x44) then none else some (ddrRows, o % 0x4000)
  | 0x106 => if (0x8000 ≤ o && o < 0x8800) || 0xC000 ≤ o then some (mgrQueueRows, o - 0x8000) else some (hubRows, o)
  | 0x107 => some (guardRows, o)
  | 0x108 => some (hostRows, o)
  | 0x109 => if 0x1000 ≤ o && o < 0x2000 then some (hierRows, o) else some (tierlinkRows, o % 0x2000)
  | 0x10A => some (canRows, o % 0x8000)
  | 0x10B => some (powerRows, o)
  | 0x10C => some (chkRows, o % 0x2000)
  | 0x10D => some (timerRows, o % 0x1000)
  | 0x10E => some (faultRows, o)
  | 0x10F => some (debugRows, o)
  | 0x110 => some (securityRows, o)
  | _ => none

/-- The block and the offset within it, of a global address (R37). -/
def blockOf (a : Nat) : Option (List RegRow × Nat) :=
  if a < 0x10000000 then managerBlock a
  else if 0x100000000 ≤ a && a < 0x112000000 then tileBlock ((a - 0x100000000) % 0x40000)
  else if 0x180000000 ≤ a && a < 0x184800000 then podBlock ((a - 0x180000000) % 0x100000)
  else none

/-- The register row of a global address, where one lies there. -/
def rowOf (a : Nat) : Option RegRow := do
  let (rows, o) ← blockOf a
  rowAt rows o

/-- The links that exist at a router: no N in row 0, no S in row 31, no E in column 35 (R267). -/
def linkMask (t : Nat) : Nat :=
  (if t / 36 = 0 then 0 else 1) + (if t % 36 = 35 then 0 else 2) + (if t / 36 = 31 then 0 else 4) + 8

/-- The set-point range of a rail in mV, both words of PWR_RAIL_WIN (R623, R642). -/
def railRange : Nat → Nat × Nat
  | 0 => (650, 900)
  | 1 => (650, 900)
  | 2 => (760, 840)
  | 3 => (1060, 1160)
  | 4 => (1750, 1900)
  | 5 => (800, 900)
  | 6 => (1710, 1890)
  | _ => (760, 840)

/-- The reset value of the register at an address: its fields' reset values, with the window of a rail at the rail's
range (R642) and the link bits of a router at the links it has (log entry 2). -/
def resetAt (a : Nat) : Word :=
  match rowOf a with
  | none => 0
  | some r =>
    let w := r.fields.foldl (fun w f => setF w f.lo f.len f.rst) 0
    if 0x010B0100 ≤ a ∧ a < 0x010B0200 ∧ a % 0x20 = 4 then
      let (lo, hi) := railRange ((a - 0x010B0100) / 0x20)
      BitVec.ofNat 32 (hi * 65536 + lo)
    else if 0x100000000 ≤ a ∧ a < 0x112000000 then
      let o := (a - 0x100000000) % 0x40000
      if o = 0x31808 then BitVec.ofNat 32 (linkMask ((a - 0x100000000) / 0x40000))
      else if o = 0x35004 then BitVec.ofNat 32 (16 * linkMask ((a - 0x100000000) / 0x40000))
      else w
    else w

end RegMap

/-! The address of every register, by its name. -/
namespace Reg

abbrev TB_COUNT_LO : Nat := 0x1010000
abbrev TB_COUNT_HI : Nat := 0x1010004
abbrev TB_CTRL : Nat := 0x1010008
abbrev TB_SET_LO : Nat := 0x1010010
abbrev TB_SET_HI : Nat := 0x1010014
abbrev TB_RATE : Nat := 0x1010018
abbrev TB_SLEW : Nat := 0x101001C
abbrev TB_STAT : Nat := 0x1010020
abbrev TB_REPLICA_LO (t : Nat) : Nat := tileBase t + 0x32000
abbrev TB_REPLICA_HI (t : Nat) : Nat := tileBase t + 0x32004
abbrev TB_CMP_LO (t : Nat) : Nat := tileBase t + 0x32008
abbrev TB_CMP_HI (t : Nat) : Nat := tileBase t + 0x3200C
abbrev TB_CMP_CTRL (t : Nat) : Nat := tileBase t + 0x32010
abbrev TB_LAUNCH_LO (t : Nat) : Nat := tileBase t + 0x32018
abbrev TB_LAUNCH_HI (t : Nat) : Nat := tileBase t + 0x3201C
abbrev TB_STEP_LO (t : Nat) : Nat := tileBase t + 0x32020
abbrev TB_STEP_HI (t : Nat) : Nat := tileBase t + 0x32024
abbrev TB_TILE_PHASE (t : Nat) : Nat := tileBase t + 0x32028
abbrev STEP_CTRL : Nat := 0x1000000
abbrev STEP_STATUS : Nat := 0x1000004
abbrev STEP_PERIOD : Nat := 0x1000008
abbrev STEP_DEADLINE : Nat := 0x100000C
abbrev STEP_STRETCH_MAX : Nat := 0x1000010
abbrev STEP_MIN_PERIOD : Nat := 0x1000014
abbrev STEP_UPDATE_RESERVE : Nat := 0x1000018
abbrev STEP_FR_WATCHDOG : Nat := 0x100001C
abbrev STEP_FIRST_LO : Nat := 0x1000020
abbrev STEP_FIRST_HI : Nat := 0x1000024
abbrev STEP_NUM_LO : Nat := 0x1000028
abbrev STEP_NUM_HI : Nat := 0x100002C
abbrev STEP_LAST_LAUNCH_LO : Nat := 0x1000030
abbrev STEP_LAST_LAUNCH_HI : Nat := 0x1000034
abbrev STEP_NEXT_LAUNCH_LO : Nat := 0x1000038
abbrev STEP_NEXT_LAUNCH_HI : Nat := 0x100003C
abbrev STEP_SLIP_LO : Nat := 0x1000040
abbrev STEP_SLIP_HI : Nat := 0x1000044
abbrev STEP_LAST_CLOSE_LO : Nat := 0x1000048
abbrev STEP_LAST_CLOSE_HI : Nat := 0x100004C
abbrev STEP_LAST_QUIESCE : Nat := 0x1000050
abbrev STEP_LAST_LATE : Nat := 0x1000054
abbrev STEP_FORCED_CNT : Nat := 0x1000058
abbrev STEP_STRETCH_CNT : Nat := 0x100005C
abbrev STEP_OVERRUN_CNT : Nat := 0x1000060
abbrev STEP_WINDOW : Nat := 0x1000068
abbrev STEP_WIN_BASE_LO : Nat := 0x1000070
abbrev STEP_WIN_BASE_HI : Nat := 0x1000074
abbrev STEP_SWITCH_CTRL : Nat := 0x1000078
abbrev STEP_SWITCH_AT_LO : Nat := 0x1000080
abbrev STEP_SWITCH_AT_HI : Nat := 0x1000084
abbrev STEP_SWITCH_STAT : Nat := 0x1000088
abbrev STEP_SWITCH_GAP : Nat := 0x100008C
abbrev STEP_INT_EN : Nat := 0x1000090
abbrev POP_CTRL (t u : Nat) : Nat := tileBase t + 0x31000 + 0x40 * u
abbrev POP_RANGE (t u : Nat) : Nat := tileBase t + 0x31004 + 0x40 * u
abbrev POP_STATE_BASE (t u : Nat) : Nat := tileBase t + 0x31008 + 0x40 * u
abbrev POP_ACC_BASE (t u : Nat) : Nat := tileBase t + 0x3100C + 0x40 * u
abbrev POP_THRESH (t u : Nat) : Nat := tileBase t + 0x31010 + 0x40 * u
abbrev POP_LEAK (t u : Nat) : Nat := tileBase t + 0x31014 + 0x40 * u
abbrev POP_BIAS (t u : Nat) : Nat := tileBase t + 0x31018 + 0x40 * u
abbrev POP_ADAPT (t u : Nat) : Nat := tileBase t + 0x3101C + 0x40 * u
abbrev POP_RES (t u : Nat) : Nat := tileBase t + 0x31020 + 0x40 * u
abbrev POP_QUANT (t u : Nat) : Nat := tileBase t + 0x31024 + 0x40 * u
abbrev POP_MCAST (t u : Nat) : Nat := tileBase t + 0x31028 + 0x40 * u
abbrev POP_AXON (t u : Nat) : Nat := tileBase t + 0x3102C + 0x40 * u
abbrev POP_TAP (t u : Nat) : Nat := tileBase t + 0x31030 + 0x40 * u
abbrev POP_STATUS (t u : Nat) : Nat := tileBase t + 0x31034 + 0x40 * u
abbrev POP_SPIKE_CNT (t u : Nat) : Nat := tileBase t + 0x31038 + 0x40 * u
abbrev POP_SAT_CNT (t u : Nat) : Nat := tileBase t + 0x3103C + 0x40 * u
abbrev NE_CTRL (t : Nat) : Nat := tileBase t + 0x30000
abbrev NE_STATUS (t : Nat) : Nat := tileBase t + 0x30004
abbrev NE_WINDOW (t : Nat) : Nat := tileBase t + 0x30008
abbrev NE_WIN_BASE_LO (t : Nat) : Nat := tileBase t + 0x3000C
abbrev NE_WIN_BASE_HI (t : Nat) : Nat := tileBase t + 0x30010
abbrev NE_LAST_CYCLES (t : Nat) : Nat := tileBase t + 0x30014
abbrev NE_LAST_SPIKES (t : Nat) : Nat := tileBase t + 0x30018
abbrev NE_LAST_SAT (t : Nat) : Nat := tileBase t + 0x3001C
abbrev NE_UPDATES_LO (t : Nat) : Nat := tileBase t + 0x30020
abbrev NE_UPDATES_HI (t : Nat) : Nat := tileBase t + 0x30024
abbrev NE_SPIKES_LO (t : Nat) : Nat := tileBase t + 0x30028
abbrev NE_SPIKES_HI (t : Nat) : Nat := tileBase t + 0x3002C
abbrev NE_STALL_BANK (t : Nat) : Nat := tileBase t + 0x30030
abbrev NE_STALL_OUT (t : Nat) : Nat := tileBase t + 0x30034
abbrev NE_TAP_DROP (t : Nat) : Nat := tileBase t + 0x30038
abbrev NE_OUTFIFO (t : Nat) : Nat := tileBase t + 0x3003C
abbrev NE_INT_EN (t : Nat) : Nat := tileBase t + 0x30040
abbrev NE_TRACE (t n : Nat) : Nat := tileBase t + 0x30080 + 0x4 * n
abbrev NE_MOD_MAP (t n : Nat) : Nat := tileBase t + 0x30100 + 0x4 * n
abbrev DE_CTRL (t : Nat) : Nat := tileBase t + 0x30800
abbrev DE_STATUS (t : Nat) : Nat := tileBase t + 0x30804
abbrev DE_WINBUF_BASE (t : Nat) : Nat := tileBase t + 0x30808
abbrev DE_WINBUF_CAP (t : Nat) : Nat := tileBase t + 0x3080C
abbrev DE_WINBUF_FILL (t : Nat) : Nat := tileBase t + 0x30810
abbrev DE_SYN_LO (t : Nat) : Nat := tileBase t + 0x30818
abbrev DE_SYN_HI (t : Nat) : Nat := tileBase t + 0x3081C
abbrev DE_MAC_LO (t : Nat) : Nat := tileBase t + 0x30820
abbrev DE_MAC_HI (t : Nat) : Nat := tileBase t + 0x30824
abbrev DE_JOBS (t : Nat) : Nat := tileBase t + 0x30828
abbrev DE_STEALS (t : Nat) : Nat := tileBase t + 0x3082C
abbrev DE_STALL_POD (t : Nat) : Nat := tileBase t + 0x30830
abbrev DE_STALL_ACC (t : Nat) : Nat := tileBase t + 0x30834
abbrev DE_DROP_LATE (t : Nat) : Nat := tileBase t + 0x30838
abbrev DE_DROP_WINBUF (t : Nat) : Nat := tileBase t + 0x3083C
abbrev DE_DROP_FAULT (t : Nat) : Nat := tileBase t + 0x30840
abbrev DE_DROP_STALE (t : Nat) : Nat := tileBase t + 0x30844
abbrev DE_DROP_FENCED (t : Nat) : Nat := tileBase t + 0x30848
abbrev DE_DROP_WINLATE (t : Nat) : Nat := tileBase t + 0x3084C
abbrev DE_DUP (t : Nat) : Nat := tileBase t + 0x30850
abbrev DE_LAST_FAULT (t : Nat) : Nat := tileBase t + 0x30854
abbrev DE_LAST_FAULT_SRC (t : Nat) : Nat := tileBase t + 0x30858
abbrev DE_INT_EN (t : Nat) : Nat := tileBase t + 0x3085C
abbrev DE_ARB_CTRL (p : Nat) : Nat := podBase p + 0x81000
abbrev DE_ARB_STATUS (p : Nat) : Nat := podBase p + 0x81004
abbrev DE_MATCH_MISS (p : Nat) : Nat := podBase p + 0x81008
abbrev DE_STALL_MATCH (p : Nat) : Nat := podBase p + 0x8100C
abbrev DE_DQ_LEVEL (p n : Nat) : Nat := podBase p + 0x81040 + 0x4 * n
abbrev DE_PROJ_CTRL (p n : Nat) : Nat := podBase p + 0x81100 + 0x4 * n
abbrev DE_PROJ_MODE (p n : Nat) : Nat := podBase p + 0x81200 + 0x4 * n
abbrev DE_PL_CTRL (p n : Nat) : Nat := podBase p + 0x81300 + 0x4 * n
abbrev DE_PL_RATE_MAX (p n : Nat) : Nat := podBase p + 0x81400 + 0x4 * n
abbrev DE_PL_DRIFT_MAX (p n : Nat) : Nat := podBase p + 0x81500 + 0x4 * n
abbrev DE_PL_DRIFT_USED (p n : Nat) : Nat := podBase p + 0x81600 + 0x4 * n
abbrev DE_PL_STATUS (p : Nat) : Nat := podBase p + 0x81700
abbrev DE_PL_LAST_CYCLES (p : Nat) : Nat := podBase p + 0x81704
abbrev DE_PL_UPDATES (p : Nat) : Nat := podBase p + 0x81708
abbrev DE_PL_STALL (p : Nat) : Nat := podBase p + 0x8170C
abbrev DE_PL_MOD (p n : Nat) : Nat := podBase p + 0x81710 + 0x4 * n
abbrev SYNC_MODQ_PUSH_LO : Nat := 0x1020800
abbrev SYNC_MODQ_PUSH_HI : Nat := 0x1020804
abbrev SYNC_MODQ_STEP : Nat := 0x1020808
abbrev SYNC_MODQ_STAT : Nat := 0x102080C
abbrev SYNC_MOD_LAST (n : Nat) : Nat := 0x1020820 + 0x4 * n
abbrev ROOT_SYNC_STATUS : Nat := 0x1020004
abbrev ROOT_SYNC_BAR_MEMBER_LO : Nat := 0x1020010
abbrev ROOT_SYNC_BAR_MEMBER_HI : Nat := 0x1020014
abbrev ROOT_SYNC_BAR_ARRIVE : Nat := 0x1020018
abbrev ROOT_SYNC_BAR_GEN_LO : Nat := 0x1020020
abbrev ROOT_SYNC_BAR_GEN_HI : Nat := 0x1020024
abbrev ROOT_SYNC_BAR_PEND_LO : Nat := 0x1020028
abbrev ROOT_SYNC_BAR_PEND_HI : Nat := 0x102002C
abbrev ROOT_SYNC_BAR_IE_LO : Nat := 0x1020030
abbrev ROOT_SYNC_BAR_IE_HI : Nat := 0x1020034
abbrev ROOT_SYNC_RED_IN (n : Nat) : Nat := 0x1020040 + 0x4 * n
abbrev ROOT_SYNC_RED_OUT (n : Nat) : Nat := 0x1020080 + 0x4 * n
abbrev ROOT_SYNC_RED_CFG (n : Nat) : Nat := 0x10200C0 + 0x4 * n
abbrev ROOT_SYNC_FLT_REPORT : Nat := 0x1020100
abbrev ROOT_SYNC_FLT_STAT : Nat := 0x1020104
abbrev ROOT_SYNC_INT_EN : Nat := 0x102010C
abbrev SYNC_ROOT_RED_CFG (n : Nat) : Nat := 0x1020200 + 0x4 * n
abbrev SYNC_FLT_SUSPECT : Nat := 0x1020240
abbrev SYNC_FLT_COUNT : Nat := 0x1020244
abbrev SYNC_FLT_STEP : Nat := 0x1020248
abbrev SYNC_FLT_QLEVEL : Nat := 0x102024C
abbrev SYNC_BAR_LAST_CYC : Nat := 0x1020250
abbrev SYNC_ROOT_STATUS : Nat := 0x1020254
abbrev SYNC_FW_SWITCH : Nat := 0x1020300
abbrev EVM_CTRL (t : Nat) : Nat := tileBase t + 0x31800
abbrev EVM_STATUS (t : Nat) : Nat := tileBase t + 0x31804
abbrev EVM_LINK (t : Nat) : Nat := tileBase t + 0x31808
abbrev EVM_THR_CFG (t : Nat) : Nat := tileBase t + 0x3180C
abbrev EVM_THR_HOLD (t : Nat) : Nat := tileBase t + 0x31810
abbrev EVM_THR_RATE (t : Nat) : Nat := tileBase t + 0x31814
abbrev EVM_ECHO_CFG (t : Nat) : Nat := tileBase t + 0x31818
abbrev EVM_TRACE_QUOTA (t : Nat) : Nat := tileBase t + 0x3181C
abbrev EVM_MC_ADDR (t : Nat) : Nat := tileBase t + 0x31820
abbrev EVM_MC_DATA (t : Nat) : Nat := tileBase t + 0x31824
abbrev EVM_DS_LEVEL (t : Nat) : Nat := tileBase t + 0x31828
abbrev EVM_SPILL_BASE (t : Nat) : Nat := tileBase t + 0x3182C
abbrev EVM_SPILL_LEN (t : Nat) : Nat := tileBase t + 0x31830
abbrev EVM_SPILL_LEVEL (t : Nat) : Nat := tileBase t + 0x31834
abbrev EVM_SEAM (t : Nat) : Nat := tileBase t + 0x31838
abbrev EVM_LAST_STORM (t : Nat) : Nat := tileBase t + 0x3183C
abbrev EVM_INJ_LO (t : Nat) : Nat := tileBase t + 0x31840
abbrev EVM_INJ_HI (t : Nat) : Nat := tileBase t + 0x31844
abbrev EVM_EJ_LO (t : Nat) : Nat := tileBase t + 0x31848
abbrev EVM_EJ_HI (t : Nat) : Nat := tileBase t + 0x3184C
abbrev EVM_DEFL_LO (t : Nat) : Nat := tileBase t + 0x31850
abbrev EVM_DEFL_HI (t : Nat) : Nat := tileBase t + 0x31854
abbrev EVM_DROP_LATE (t : Nat) : Nat := tileBase t + 0x31858
abbrev EVM_DROP_TAG (t : Nat) : Nat := tileBase t + 0x3185C
abbrev EVM_DROP_FENCE (t : Nat) : Nat := tileBase t + 0x31860
abbrev EVM_DROP_SPILL (t : Nat) : Nat := tileBase t + 0x31864
abbrev EVM_DROP_UNDELIV (t : Nat) : Nat := tileBase t + 0x31868
abbrev EVM_DROP_TRACE (t : Nat) : Nat := tileBase t + 0x3186C
abbrev EVM_SPILLED (t : Nat) : Nat := tileBase t + 0x31870
abbrev EVM_STORM (t : Nat) : Nat := tileBase t + 0x31874
abbrev EVM_CRC_ERR (t : Nat) : Nat := tileBase t + 0x31878
abbrev EVM_RETRY (t : Nat) : Nat := tileBase t + 0x3187C
abbrev EVM_ECHO_TX (t : Nat) : Nat := tileBase t + 0x31880
abbrev EVM_ECHO_RX (t : Nat) : Nat := tileBase t + 0x31884
abbrev EVM_INJ_WAIT (t : Nat) : Nat := tileBase t + 0x31888
abbrev EVM_SEAM_FULL (t : Nat) : Nat := tileBase t + 0x3188C
abbrev EVM_INT_EN (t : Nat) : Nat := tileBase t + 0x31890
abbrev SCM_CTRL (t : Nat) : Nat := tileBase t + 0x35000
abbrev SCM_STATUS (t : Nat) : Nat := tileBase t + 0x35004
abbrev SCM_POS (t : Nat) : Nat := tileBase t + 0x35008
abbrev SCM_ECC_CORR (t : Nat) : Nat := tileBase t + 0x3500C
abbrev SCM_ECC_UNCORR (t : Nat) : Nat := tileBase t + 0x35010
abbrev SCM_UNROUTED (t : Nat) : Nat := tileBase t + 0x35014
abbrev SCM_BEATS_LO (t : Nat) : Nat := tileBase t + 0x35018
abbrev SCM_BEATS_HI (t : Nat) : Nat := tileBase t + 0x3501C
abbrev SCM_INT_EN (t : Nat) : Nat := tileBase t + 0x35020
abbrev SCM_SLOT (t n : Nat) : Nat := tileBase t + 0x36000 + 0x4 * n
abbrev SCM_PI_CTRL (p : Nat) : Nat := podBase p + 0x82000
abbrev SCM_PI_STATUS (p : Nat) : Nat := podBase p + 0x82004
abbrev SCM_PI_NULL_TX (p : Nat) : Nat := podBase p + 0x82008
abbrev SCM_PI_FAIL (p : Nat) : Nat := podBase p + 0x8200C
abbrev SCM_CH_CFG (p n : Nat) : Nat := podBase p + 0x82800 + 0x20 * n
abbrev SCM_CH_SCHED (p n : Nat) : Nat := podBase p + 0x82804 + 0x20 * n
abbrev SCM_CH_BASE (p n : Nat) : Nat := podBase p + 0x82808 + 0x20 * n
abbrev SCM_CH_LEN (p n : Nat) : Nat := podBase p + 0x8280C + 0x20 * n
abbrev SCM_CH_CUR (p n : Nat) : Nat := podBase p + 0x82810 + 0x20 * n
abbrev SCM_CH_STAT (p n : Nat) : Nat := podBase p + 0x82814 + 0x20 * n
abbrev SCM_LD_CTRL : Nat := 0x1030000
abbrev SCM_LD_STAT : Nat := 0x1030004
abbrev SCM_LD_ERR : Nat := 0x1030008
abbrev SCM_CLASS (n : Nat) : Nat := 0x1030100 + 0x4 * n
abbrev STR_CTRL (u : Nat) : Nat := 0x1040000 + 0x1000 * u
abbrev STR_STATUS (u : Nat) : Nat := 0x1040004 + 0x1000 * u
abbrev STR_BUF_LEVEL (u : Nat) : Nat := 0x1040008 + 0x1000 * u
abbrev STR_NULL (u : Nat) : Nat := 0x104000C + 0x1000 * u
abbrev STR_WR_DISCARD (u : Nat) : Nat := 0x1040010 + 0x1000 * u
abbrev STR_OVERRUN (u : Nat) : Nat := 0x1040014 + 0x1000 * u
abbrev STR_FAILED (u : Nat) : Nat := 0x1040018 + 0x1000 * u
abbrev STR_OBS_ABANDON (u : Nat) : Nat := 0x104001C + 0x1000 * u
abbrev STR_RD_BYTES_LO (u : Nat) : Nat := 0x1040020 + 0x1000 * u
abbrev STR_RD_BYTES_HI (u : Nat) : Nat := 0x1040024 + 0x1000 * u
abbrev STR_WR_BYTES_LO (u : Nat) : Nat := 0x1040028 + 0x1000 * u
abbrev STR_WR_BYTES_HI (u : Nat) : Nat := 0x104002C + 0x1000 * u
abbrev STR_WB_STATE (u : Nat) : Nat := 0x1040030 + 0x1000 * u
abbrev STR_INT_EN (u : Nat) : Nat := 0x1040034 + 0x1000 * u
abbrev STR_DESC0 (u n : Nat) : Nat := 0x1040800 + 0x1000 * u + 0x20 * n
abbrev STR_DESC1 (u n : Nat) : Nat := 0x1040804 + 0x1000 * u + 0x20 * n
abbrev STR_DESC2 (u n : Nat) : Nat := 0x1040808 + 0x1000 * u + 0x20 * n
abbrev STR_DESC3 (u n : Nat) : Nat := 0x104080C + 0x1000 * u + 0x20 * n
abbrev STR_DESC4 (u n : Nat) : Nat := 0x1040810 + 0x1000 * u + 0x20 * n
abbrev STR_DESC5 (u n : Nat) : Nat := 0x1040814 + 0x1000 * u + 0x20 * n
abbrev STR_DESC6 (u n : Nat) : Nat := 0x1040818 + 0x1000 * u + 0x20 * n
abbrev STR_DESC7 (u n : Nat) : Nat := 0x104081C + 0x1000 * u + 0x20 * n
abbrev Q_CTRL (t : Nat) : Nat := tileBase t + 0x33000
abbrev Q_STATUS (t : Nat) : Nat := tileBase t + 0x33004
abbrev Q_CMD (t : Nat) : Nat := tileBase t + 0x33008
abbrev Q_CMD_RESULT (t : Nat) : Nat := tileBase t + 0x3300C
abbrev Q_TXBUF0 (t : Nat) : Nat := tileBase t + 0x33010
abbrev Q_TXBUF1 (t : Nat) : Nat := tileBase t + 0x33014
abbrev Q_TXBUF2 (t : Nat) : Nat := tileBase t + 0x33018
abbrev Q_TXBUF3 (t : Nat) : Nat := tileBase t + 0x3301C
abbrev Q_SEND (t : Nat) : Nat := tileBase t + 0x33020
abbrev Q_SEND_RESULT (t : Nat) : Nat := tileBase t + 0x33024
abbrev Q_POP (t : Nat) : Nat := tileBase t + 0x33028
abbrev Q_POP_RESULT (t : Nat) : Nat := tileBase t + 0x3302C
abbrev Q_TX_LO (t : Nat) : Nat := tileBase t + 0x33030
abbrev Q_TX_HI (t : Nat) : Nat := tileBase t + 0x33034
abbrev Q_RX_LO (t : Nat) : Nat := tileBase t + 0x33038
abbrev Q_RX_HI (t : Nat) : Nat := tileBase t + 0x3303C
abbrev Q_NO_CREDIT (t : Nat) : Nat := tileBase t + 0x33040
abbrev Q_DROP_STALE (t : Nat) : Nat := tileBase t + 0x33044
abbrev Q_DROP_CLOSED (t : Nat) : Nat := tileBase t + 0x33048
abbrev Q_DROP_FOREIGN (t : Nat) : Nat := tileBase t + 0x3304C
abbrev Q_DROP_SEQ (t : Nat) : Nat := tileBase t + 0x33050
abbrev Q_CR_DISCARD (t : Nat) : Nat := tileBase t + 0x33054
abbrev Q_GAP_CNT (t : Nat) : Nat := tileBase t + 0x33058
abbrev Q_INT_EN (t : Nat) : Nat := tileBase t + 0x3305C
abbrev Q_READY (t n : Nat) : Nat := tileBase t + 0x33400 + 0x4 * n
abbrev Q_READY_IE (t n : Nat) : Nat := tileBase t + 0x33480 + 0x4 * n
abbrev Q_FW_CTRL (t : Nat) : Nat := tileBase t + 0x33600
abbrev Q_FW_STAT (t : Nat) : Nat := tileBase t + 0x33604
abbrev Q_FW_CHECK (t : Nat) : Nat := tileBase t + 0x33608
abbrev Q_FW_DROP (t : Nat) : Nat := tileBase t + 0x3360C
abbrev Q_FW_BITMAP (t n : Nat) : Nat := tileBase t + 0x33680 + 0x4 * n
abbrev Q_DESC0 (t n : Nat) : Nat := tileBase t + 0x38000 + 0x10 * n
abbrev Q_DESC1 (t n : Nat) : Nat := tileBase t + 0x38004 + 0x10 * n
abbrev Q_DESC2 (t n : Nat) : Nat := tileBase t + 0x38008 + 0x10 * n
abbrev Q_DESC3 (t n : Nat) : Nat := tileBase t + 0x3800C + 0x10 * n
abbrev SYNC_STATUS (t : Nat) : Nat := tileBase t + 0x32804
abbrev SYNC_BAR_MEMBER_LO (t : Nat) : Nat := tileBase t + 0x32810
abbrev SYNC_BAR_MEMBER_HI (t : Nat) : Nat := tileBase t + 0x32814
abbrev SYNC_BAR_ARRIVE (t : Nat) : Nat := tileBase t + 0x32818
abbrev SYNC_BAR_GEN_LO (t : Nat) : Nat := tileBase t + 0x32820
abbrev SYNC_BAR_GEN_HI (t : Nat) : Nat := tileBase t + 0x32824
abbrev SYNC_BAR_PEND_LO (t : Nat) : Nat := tileBase t + 0x32828
abbrev SYNC_BAR_PEND_HI (t : Nat) : Nat := tileBase t + 0x3282C
abbrev SYNC_BAR_IE_LO (t : Nat) : Nat := tileBase t + 0x32830
abbrev SYNC_BAR_IE_HI (t : Nat) : Nat := tileBase t + 0x32834
abbrev SYNC_RED_IN (t n : Nat) : Nat := tileBase t + 0x32840 + 0x4 * n
abbrev SYNC_RED_OUT (t n : Nat) : Nat := tileBase t + 0x32880 + 0x4 * n
abbrev SYNC_RED_CFG (t n : Nat) : Nat := tileBase t + 0x328C0 + 0x4 * n
abbrev SYNC_FLT_REPORT (t : Nat) : Nat := tileBase t + 0x32900
abbrev SYNC_FLT_STAT (t : Nat) : Nat := tileBase t + 0x32904
abbrev SYNC_INT_EN (t : Nat) : Nat := tileBase t + 0x3290C
abbrev FLT_TILE_STAT (t : Nat) : Nat := tileBase t + 0x34000
abbrev FLT_HB_CFG (t : Nat) : Nat := tileBase t + 0x34004
abbrev FLT_ENG_TMO (t : Nat) : Nat := tileBase t + 0x34008
abbrev FLT_SLICE_STEP (t : Nat) : Nat := tileBase t + 0x3400C
abbrev FLT_MEM_CTRL (t : Nat) : Nat := tileBase t + 0x34600
abbrev FLT_MEM_STATUS (t : Nat) : Nat := tileBase t + 0x34604
abbrev FLT_MEM_DCE (t : Nat) : Nat := tileBase t + 0x34608
abbrev FLT_MEM_DUE (t : Nat) : Nat := tileBase t + 0x3460C
abbrev FLT_MEM_ICE (t : Nat) : Nat := tileBase t + 0x34610
abbrev FLT_MEM_IUE (t : Nat) : Nat := tileBase t + 0x34614
abbrev FLT_MEM_SCRUB_PASS (t : Nat) : Nat := tileBase t + 0x34618
abbrev FLT_BIST_STAT (t : Nat) : Nat := tileBase t + 0x34700
abbrev DBG_OPS0_LO (t : Nat) : Nat := tileBase t + 0x33800
abbrev DBG_OPS0_HI (t : Nat) : Nat := tileBase t + 0x33804
abbrev DBG_OPS1_LO (t : Nat) : Nat := tileBase t + 0x33808
abbrev DBG_OPS1_HI (t : Nat) : Nat := tileBase t + 0x3380C
abbrev DBG_OPS2_LO (t : Nat) : Nat := tileBase t + 0x33810
abbrev DBG_OPS2_HI (t : Nat) : Nat := tileBase t + 0x33814
abbrev DBG_OPS3_LO (t : Nat) : Nat := tileBase t + 0x33818
abbrev DBG_OPS3_HI (t : Nat) : Nat := tileBase t + 0x3381C
abbrev DBG_OPS4_LO (t : Nat) : Nat := tileBase t + 0x33820
abbrev DBG_OPS4_HI (t : Nat) : Nat := tileBase t + 0x33824
abbrev DBG_OPS5_LO (t : Nat) : Nat := tileBase t + 0x33828
abbrev DBG_OPS5_HI (t : Nat) : Nat := tileBase t + 0x3382C
abbrev DBG_OPS6_LO (t : Nat) : Nat := tileBase t + 0x33830
abbrev DBG_OPS6_HI (t : Nat) : Nat := tileBase t + 0x33834
abbrev DBG_OPS7_LO (t : Nat) : Nat := tileBase t + 0x33838
abbrev DBG_OPS7_HI (t : Nat) : Nat := tileBase t + 0x3383C
abbrev DBG_OPS8_LO (t : Nat) : Nat := tileBase t + 0x33840
abbrev DBG_OPS8_HI (t : Nat) : Nat := tileBase t + 0x33844
abbrev DBG_OPS9_LO (t : Nat) : Nat := tileBase t + 0x33848
abbrev DBG_OPS9_HI (t : Nat) : Nat := tileBase t + 0x3384C
abbrev DBG_OPS10_LO (t : Nat) : Nat := tileBase t + 0x33850
abbrev DBG_OPS10_HI (t : Nat) : Nat := tileBase t + 0x33854
abbrev DBG_OPS11_LO (t : Nat) : Nat := tileBase t + 0x33858
abbrev DBG_OPS11_HI (t : Nat) : Nat := tileBase t + 0x3385C
abbrev DBG_OPS12_LO (t : Nat) : Nat := tileBase t + 0x33860
abbrev DBG_OPS12_HI (t : Nat) : Nat := tileBase t + 0x33864
abbrev DBG_OPS13_LO (t : Nat) : Nat := tileBase t + 0x33868
abbrev DBG_OPS13_HI (t : Nat) : Nat := tileBase t + 0x3386C
abbrev DBG_TCTRL (t : Nat) : Nat := tileBase t + 0x33880
abbrev DBG_SNAP (t : Nat) : Nat := tileBase t + 0x33884
abbrev DBG_WAIT (t : Nat) : Nat := tileBase t + 0x33900
abbrev DBG_WAIT_OBJ (t : Nat) : Nat := tileBase t + 0x33904
abbrev DBG_WAIT_SINCE (t : Nat) : Nat := tileBase t + 0x33908
abbrev DBG_WAIT_DECL (t : Nat) : Nat := tileBase t + 0x3390C
abbrev DBG_TRC_CFG (t : Nat) : Nat := tileBase t + 0x33A00
abbrev DBG_TRC_MEM (t : Nat) : Nat := tileBase t + 0x33A04
abbrev DBG_TRC_LOST (t : Nat) : Nat := tileBase t + 0x33A08
abbrev DBG_CONF (t n : Nat) : Nat := tileBase t + 0x33E00 + 0x4 * n
abbrev POD_CTRL (p : Nat) : Nat := podBase p + 0x80000
abbrev POD_STATUS (p : Nat) : Nat := podBase p + 0x80004
abbrev POD_ECC_CE (p : Nat) : Nat := podBase p + 0x80008
abbrev POD_ECC_UE (p : Nat) : Nat := podBase p + 0x8000C
abbrev POD_SCRUB_PASS (p : Nat) : Nat := podBase p + 0x80010
abbrev POD_CONF (p n : Nat) : Nat := podBase p + 0x80100 + 0x4 * n
abbrev POD_BIST_STAT (p : Nat) : Nat := podBase p + 0x80700
abbrev POD_BIST_BANKS (p : Nat) : Nat := podBase p + 0x80704
abbrev POD_LTT (p n : Nat) : Nat := podBase p + 0x80800 + 0x4 * n
abbrev DDR_CTRL (u : Nat) : Nat := 0x1050000 + 0x4000 * u
abbrev DDR_STATUS (u : Nat) : Nat := 0x1050004 + 0x4000 * u
abbrev DDR_SCRUB_CFG (u : Nat) : Nat := 0x1050008 + 0x4000 * u
abbrev DDR_MGR_LAT (u : Nat) : Nat := 0x105000C + 0x4000 * u
abbrev DDR_MAP_CTRL (u : Nat) : Nat := 0x1050040 + 0x4000 * u
abbrev DDR_MAP_STAT (u : Nat) : Nat := 0x1050044 + 0x4000 * u
abbrev DDR_SUB_STAT (u n : Nat) : Nat := 0x1050100 + 0x4000 * u + 0x40 * n
abbrev DDR_SUB_CE (u n : Nat) : Nat := 0x1050104 + 0x4000 * u + 0x40 * n
abbrev DDR_SUB_RETRY (u n : Nat) : Nat := 0x1050108 + 0x4000 * u + 0x40 * n
abbrev DDR_SUB_UE (u n : Nat) : Nat := 0x105010C + 0x4000 * u + 0x40 * n
abbrev DDR_SUB_LAST_LO (u n : Nat) : Nat := 0x1050110 + 0x4000 * u + 0x40 * n
abbrev DDR_SUB_LAST_HI (u n : Nat) : Nat := 0x1050114 + 0x4000 * u + 0x40 * n
abbrev DDR_SUB_DEVCORR (u n : Nat) : Nat := 0x1050118 + 0x4000 * u + 0x40 * n
abbrev DDR_SUB_SCRUB (u n : Nat) : Nat := 0x105011C + 0x4000 * u + 0x40 * n
abbrev DDR_SUB_RETIRE (u n : Nat) : Nat := 0x1050120 + 0x4000 * u + 0x40 * n
abbrev DDR_SPARE (u n : Nat) : Nat := 0x1051000 + 0x4000 * u + 0x4 * n
abbrev DDR_TRN_CTRL (u n : Nat) : Nat := 0x1052000 + 0x4000 * u + 0x400 * n
abbrev DDR_TRN_STAT (u n : Nat) : Nat := 0x1052004 + 0x4000 * u + 0x400 * n
abbrev DDR_TRN_MR (u n : Nat) : Nat := 0x1052008 + 0x4000 * u + 0x400 * n
abbrev DDR_TRN_VREF (u n : Nat) : Nat := 0x105200C + 0x4000 * u + 0x400 * n
abbrev DDR_TRN_DLY0 (u n : Nat) : Nat := 0x1052100 + 0x4000 * u + 0x4 * n
abbrev DDR_TRN_DLY1 (u n : Nat) : Nat := 0x1052500 + 0x4000 * u + 0x4 * n
abbrev DDR_TRN_DLY2 (u n : Nat) : Nat := 0x1052900 + 0x4000 * u + 0x4 * n
abbrev DDR_TRN_DLY3 (u n : Nat) : Nat := 0x1052D00 + 0x4000 * u + 0x4 * n
abbrev DDR_MT_CTRL (u : Nat) : Nat := 0x1053000 + 0x4000 * u
abbrev DDR_MT_STAT (u : Nat) : Nat := 0x1053004 + 0x4000 * u
abbrev DDR_MT_ERR (u : Nat) : Nat := 0x1053008 + 0x4000 * u
abbrev DDR_MT_POS_LO (u : Nat) : Nat := 0x1053010 + 0x4000 * u
abbrev DDR_MT_POS_HI (u : Nat) : Nat := 0x1053014 + 0x4000 * u
abbrev FLT_CTRL : Nat := 0x10E0000
abbrev FLT_STATUS : Nat := 0x10E0004
abbrev FLT_RPT_SUSPECT : Nat := 0x10E0010
abbrev FLT_RPT_COUNT : Nat := 0x10E0014
abbrev FLT_RPT_STEP : Nat := 0x10E0018
abbrev FLT_RPT_VERDICT : Nat := 0x10E001C
abbrev FLT_THR_PARTNER : Nat := 0x10E0040
abbrev FLT_LOG_BASE : Nat := 0x10E0080
abbrev FLT_LOG_LEN : Nat := 0x10E0084
abbrev FLT_LOG_HEAD : Nat := 0x10E0088
abbrev FLT_LOG_LOST : Nat := 0x10E008C
abbrev FLT_LOG_APP0 : Nat := 0x10E0090
abbrev FLT_LOG_APP1 : Nat := 0x10E0094
abbrev FLT_LOG_APP2 : Nat := 0x10E0098
abbrev FLT_LOG_APP3 : Nat := 0x10E009C
abbrev FLT_LOG_APP4 : Nat := 0x10E00A0
abbrev FLT_LOG_APP5 : Nat := 0x10E00A4
abbrev FLT_LOG_APP6 : Nat := 0x10E00A8
abbrev FLT_LOG_APP7 : Nat := 0x10E00AC
abbrev FLT_REMAP_CTRL : Nat := 0x10E0100
abbrev FLT_REMAP_STAT : Nat := 0x10E0104
abbrev FLT_REMAP_SPARE : Nat := 0x10E0108
abbrev FLT_REMAP_AGE : Nat := 0x10E010C
abbrev FLT_REMAP_TIME : Nat := 0x10E0110
abbrev FLT_SB_OFF : Nat := 0x10E0114
abbrev FLT_SB_LEN : Nat := 0x10E0118
abbrev FLT_CKPT_BASE_LO : Nat := 0x10E0120
abbrev FLT_CKPT_BASE_HI : Nat := 0x10E0124
abbrev FLT_CKPT_STRIDE : Nat := 0x10E0128
abbrev FLT_FENCE (n : Nat) : Nat := 0x10E0200 + 0x4 * n
abbrev FLT_MSRAM_STATUS : Nat := 0x10E0600
abbrev FLT_MSRAM_CE : Nat := 0x10E0604
abbrev FLT_MSRAM_UE : Nat := 0x10E0608
abbrev FLT_BIST_CTRL : Nat := 0x10E0700
abbrev FLT_WDOG_TMO : Nat := 0x10E0800
abbrev FLT_WDOG_KICK : Nat := 0x10E0804
abbrev FLT_WDOG_STAT : Nat := 0x10E0808
abbrev FLT_WDOG_REMAIN : Nat := 0x10E080C
abbrev SEC_HUSK_STAT : Nat := 0x1100100
abbrev SEC_HUSK_CTRL : Nat := 0x1100104
abbrev SEC_HUSK_WIPE : Nat := 0x1100108
abbrev SEC_HUSK_WIPE_CNT : Nat := 0x110010C
abbrev SEC_HUSK_WIPE_TB_LO : Nat := 0x1100110
abbrev SEC_HUSK_WIPE_TB_HI : Nat := 0x1100114
abbrev SEC_SEAL_CTRL : Nat := 0x1100118
abbrev SEC_CLEAR_STAT : Nat := 0x110011C
abbrev SEC_TRAIN_CTRL : Nat := 0x1100120
abbrev SEC_LOGIN_CTRL : Nat := 0x1100200
abbrev SEC_LOGIN_CHAL_LO : Nat := 0x1100204
abbrev SEC_LOGIN_CHAL_HI : Nat := 0x1100208
abbrev SEC_LOGIN_RESP0 : Nat := 0x110020C
abbrev SEC_LOGIN_RESP1 : Nat := 0x1100210
abbrev SEC_LOGIN_RESP2 : Nat := 0x1100214
abbrev SEC_LOGIN_STAT : Nat := 0x1100218
abbrev SEC_IDLE : Nat := 0x110021C
abbrev SEC_SESS (n : Nat) : Nat := 0x1100240 + 0x4 * n
abbrev SEC_LOCK (n : Nat) : Nat := 0x1100264 + 0x4 * n
abbrev SEC_AUTH_ADDR_LO : Nat := 0x1100280
abbrev SEC_AUTH_ADDR_HI : Nat := 0x1100284
abbrev SEC_AUTH_DATA : Nat := 0x1100288
abbrev SEC_AUTH_GO : Nat := 0x110028C
abbrev SEC_AUDIT_APP0 : Nat := 0x11002A0
abbrev SEC_AUDIT_APP1 : Nat := 0x11002A4
abbrev SEC_AUDIT_APP2 : Nat := 0x11002A8
abbrev SEC_AUDIT_APP3 : Nat := 0x11002AC
abbrev SEC_AUDIT_HEAD : Nat := 0x11002C0
abbrev SEC_AUDIT_STAT : Nat := 0x11002C4
abbrev SEC_LC : Nat := 0x11002E0
abbrev SEC_FUSE_STAT : Nat := 0x1100400
abbrev SEC_FUSE_VARIANT : Nat := 0x1100404
abbrev SEC_FUSE_REV : Nat := 0x1100408
abbrev SEC_FUSE_SERIAL_LO : Nat := 0x110040C
abbrev SEC_FUSE_SERIAL_HI : Nat := 0x1100410
abbrev SEC_FUSE_DEFECT (n : Nat) : Nat := 0x1100420 + 0x4 * n
abbrev SEC_FW_CTRL : Nat := 0x1100600
abbrev SEC_FW_STAT : Nat := 0x1100604
abbrev SEC_FW_DIR_GEN : Nat := 0x1100608
abbrev SEC_FW_HREC : Nat := 0x110060C
abbrev SEC_SIG_CTRL : Nat := 0x1100610
abbrev SEC_SIG_STAT : Nat := 0x1100614
abbrev SEC_BOOT_STAT : Nat := 0x1100618
abbrev SEC_FB_TIMER : Nat := 0x1100620
abbrev SEC_FB_REMAIN : Nat := 0x1100624
abbrev SEN_CTRL : Nat := 0x1060000
abbrev SEN_STATUS : Nat := 0x1060004
abbrev SEN_WE_THR_CFG : Nat := 0x1060080
abbrev SEN_WE_THR_HOLD : Nat := 0x1060084
abbrev SEN_WE_RATE (n : Nat) : Nat := 0x1060100 + 0x4 * n
abbrev SEN_CAP_BASE_LO : Nat := 0x1060600
abbrev SEN_CAP_BASE_HI : Nat := 0x1060604
abbrev SEN_CAP_LEN : Nat := 0x1060608
abbrev SEN_CAP_WR : Nat := 0x106060C
abbrev SEN_CTX_CTRL (n : Nat) : Nat := 0x1061000 + 0x80 * n
abbrev SEN_CTX_BIND (n : Nat) : Nat := 0x1061004 + 0x80 * n
abbrev SEN_CTX_AXON (n : Nat) : Nat := 0x1061008 + 0x80 * n
abbrev SEN_CTX_MCAST (n : Nat) : Nat := 0x106100C + 0x80 * n
abbrev SEN_CTX_P0 (n : Nat) : Nat := 0x1061010 + 0x80 * n
abbrev SEN_CTX_P1 (n : Nat) : Nat := 0x1061014 + 0x80 * n
abbrev SEN_CTX_ROI0 (n : Nat) : Nat := 0x1061018 + 0x80 * n
abbrev SEN_CTX_ROI1 (n : Nat) : Nat := 0x106101C + 0x80 * n
abbrev SEN_CTX_STATE_BASE (n : Nat) : Nat := 0x1061020 + 0x80 * n
abbrev SEN_CTX_STATE_LEN (n : Nat) : Nat := 0x1061024 + 0x80 * n
abbrev SEN_CTX_RING_BASE (n : Nat) : Nat := 0x1061028 + 0x80 * n
abbrev SEN_CTX_RING_LEN (n : Nat) : Nat := 0x106102C + 0x80 * n
abbrev SEN_CTX_RATE (n : Nat) : Nat := 0x1061030 + 0x80 * n
abbrev SEN_CTX_ACCEPT (n : Nat) : Nat := 0x1061034 + 0x80 * n
abbrev SEN_CTX_DROP_RATE (n : Nat) : Nat := 0x1061038 + 0x80 * n
abbrev SEN_CTX_DROP_RING (n : Nat) : Nat := 0x106103C + 0x80 * n
abbrev SEN_CTX_DROP_OFF (n : Nat) : Nat := 0x1061040 + 0x80 * n
abbrev SEN_CTX_LATE (n : Nat) : Nat := 0x1061044 + 0x80 * n
abbrev SEN_CTX_RANGE (n : Nat) : Nat := 0x1061048 + 0x80 * n
abbrev SEN_CTX_DROP_KIND (n : Nat) : Nat := 0x106104C + 0x80 * n
abbrev SEN_CTX_STATUS (n : Nat) : Nat := 0x1061050 + 0x80 * n
abbrev SEN_CSI_CTRL (n : Nat) : Nat := 0x1062000 + 0x400 * n
abbrev SEN_CSI_STATUS (n : Nat) : Nat := 0x1062004 + 0x400 * n
abbrev SEN_CSI_LAT (n : Nat) : Nat := 0x1062008 + 0x400 * n
abbrev SEN_CSI_ECC_CORR (n : Nat) : Nat := 0x106200C + 0x400 * n
abbrev SEN_CSI_LINE_DROP (n : Nat) : Nat := 0x1062010 + 0x400 * n
abbrev SEN_CSI_TYPE_DROP (n : Nat) : Nat := 0x1062014 + 0x400 * n
abbrev SEN_CSI_FRAMES (n : Nat) : Nat := 0x1062018 + 0x400 * n
abbrev SEN_ETH_CTRL (n : Nat) : Nat := 0x1063000 + 0x400 * n
abbrev SEN_ETH_STATUS (n : Nat) : Nat := 0x1063004 + 0x400 * n
abbrev SEN_ETH_MAC_LO (n : Nat) : Nat := 0x1063008 + 0x400 * n
abbrev SEN_ETH_MAC_HI (n : Nat) : Nat := 0x106300C + 0x400 * n
abbrev SEN_ETH_IP (n : Nat) : Nat := 0x1063010 + 0x400 * n
abbrev SEN_ETH_RX_DROP (n : Nat) : Nat := 0x1063014 + 0x400 * n
abbrev SEN_ETH_CRC_ERR (n : Nat) : Nat := 0x1063018 + 0x400 * n
abbrev SEN_ETH_PAUSE (n : Nat) : Nat := 0x106301C + 0x400 * n
abbrev SEN_ETH_EPOCH_LO (n : Nat) : Nat := 0x1063020 + 0x400 * n
abbrev SEN_ETH_EPOCH_HI (n : Nat) : Nat := 0x1063024 + 0x400 * n
abbrev SEN_ETH_LAT (n : Nat) : Nat := 0x1063028 + 0x400 * n
abbrev SEN_ETH_TS_CORR (n : Nat) : Nat := 0x106302C + 0x400 * n
abbrev SEN_ETH_FWRX_BASE (n : Nat) : Nat := 0x1063030 + 0x400 * n
abbrev SEN_ETH_FWRX_PTR (n : Nat) : Nat := 0x1063034 + 0x400 * n
abbrev SEN_ETH_FWTX_BASE (n : Nat) : Nat := 0x1063038 + 0x400 * n
abbrev SEN_ETH_FWTX_PTR (n : Nat) : Nat := 0x106303C + 0x400 * n
abbrev SEN_ETH_PTP_RX_LO (n : Nat) : Nat := 0x1063040 + 0x400 * n
abbrev SEN_ETH_PTP_RX_HI (n : Nat) : Nat := 0x1063044 + 0x400 * n
abbrev SEN_ETH_PTP_RX_INFO (n : Nat) : Nat := 0x1063048 + 0x400 * n
abbrev SEN_ETH_PTP_TX_LO (n : Nat) : Nat := 0x106304C + 0x400 * n
abbrev SEN_ETH_PTP_TX_HI (n : Nat) : Nat := 0x1063050 + 0x400 * n
abbrev SEN_ETH_PTP_TX_INFO (n : Nat) : Nat := 0x1063054 + 0x400 * n
abbrev SEN_ETH_TS_LOST (n : Nat) : Nat := 0x1063058 + 0x400 * n
abbrev SEN_ETH_LINK_DOWN (n : Nat) : Nat := 0x106305C + 0x400 * n
abbrev SEN_ETH_FLOW0 (n : Nat) : Nat := 0x1063100 + 0x8 * n
abbrev SEN_ETH_FLOW_SRC0 (n : Nat) : Nat := 0x1063104 + 0x8 * n
abbrev SEN_ETH_FLOW_LOST0 (n : Nat) : Nat := 0x1063200 + 0x4 * n
abbrev SEN_ETH_FLOW1 (n : Nat) : Nat := 0x1063500 + 0x8 * n
abbrev SEN_ETH_FLOW_SRC1 (n : Nat) : Nat := 0x1063504 + 0x8 * n
abbrev SEN_ETH_FLOW_LOST1 (n : Nat) : Nat := 0x1063600 + 0x4 * n
abbrev SEN_SEL_CTRL (n : Nat) : Nat := 0x1064000 + 0x100 * n
abbrev SEN_SEL_STATUS (n : Nat) : Nat := 0x1064004 + 0x100 * n
abbrev SEN_SEL_LAT (n : Nat) : Nat := 0x1064008 + 0x100 * n
abbrev SEN_SEL_CODE_ERR (n : Nat) : Nat := 0x106400C + 0x100 * n
abbrev SEN_SEL_CRC_ERR (n : Nat) : Nat := 0x1064010 + 0x100 * n
abbrev SEN_SEL_BUSY (n : Nat) : Nat := 0x1064014 + 0x100 * n
abbrev SEN_SEL_RETRAIN (n : Nat) : Nat := 0x1064018 + 0x100 * n
abbrev SEN_SEL_FRAMES (n : Nat) : Nat := 0x106401C + 0x100 * n
abbrev SEN_SEL_NAK_TX (n : Nat) : Nat := 0x1064020 + 0x100 * n
abbrev SEN_SEL_RETX (n : Nat) : Nat := 0x1064024 + 0x100 * n
abbrev SEN_SEL_CMD0 (n : Nat) : Nat := 0x1064040 + 0x100 * n
abbrev SEN_SEL_CMD1 (n : Nat) : Nat := 0x1064044 + 0x100 * n
abbrev SEN_SEL_CMD2 (n : Nat) : Nat := 0x1064048 + 0x100 * n
abbrev SEN_SEL_CMD3 (n : Nat) : Nat := 0x106404C + 0x100 * n
abbrev SEN_SEL_CMD4 (n : Nat) : Nat := 0x1064050 + 0x100 * n
abbrev SEN_SEL_CMD5 (n : Nat) : Nat := 0x1064054 + 0x100 * n
abbrev SEN_SEL_CMD6 (n : Nat) : Nat := 0x1064058 + 0x100 * n
abbrev SEN_SEL_CMD7 (n : Nat) : Nat := 0x106405C + 0x100 * n
abbrev SEN_SEL_CMD_CTRL (n : Nat) : Nat := 0x1064060 + 0x100 * n
abbrev SEN_SEL_RSP0 (n : Nat) : Nat := 0x1064080 + 0x100 * n
abbrev SEN_SEL_RSP1 (n : Nat) : Nat := 0x1064084 + 0x100 * n
abbrev SEN_SEL_RSP2 (n : Nat) : Nat := 0x1064088 + 0x100 * n
abbrev SEN_SEL_RSP3 (n : Nat) : Nat := 0x106408C + 0x100 * n
abbrev SEN_SEL_RSP4 (n : Nat) : Nat := 0x1064090 + 0x100 * n
abbrev SEN_SEL_RSP5 (n : Nat) : Nat := 0x1064094 + 0x100 * n
abbrev SEN_SEL_RSP6 (n : Nat) : Nat := 0x1064098 + 0x100 * n
abbrev SEN_SEL_RSP7 (n : Nat) : Nat := 0x106409C + 0x100 * n
abbrev SEN_SEL_RSP_STAT (n : Nat) : Nat := 0x10640A0 + 0x100 * n
abbrev SEN_GPI_CFG (n : Nat) : Nat := 0x1065000 + 0x10 * n
abbrev SEN_GPI_STUCK (n : Nat) : Nat := 0x1065004 + 0x10 * n
abbrev SEN_GPI_STAT (n : Nat) : Nat := 0x1065008 + 0x10 * n
abbrev SEN_GPI_LEVELS : Nat := 0x1065200
abbrev SEN_LTT (n : Nat) : Nat := 0x1066000 + 0x4 * n
abbrev MGR_Q_CTRL : Nat := 0x1068000
abbrev MGR_Q_STATUS : Nat := 0x1068004
abbrev MGR_Q_CMD : Nat := 0x1068008
abbrev MGR_Q_CMD_RESULT : Nat := 0x106800C
abbrev MGR_Q_TXBUF0 : Nat := 0x1068010
abbrev MGR_Q_TXBUF1 : Nat := 0x1068014
abbrev MGR_Q_TXBUF2 : Nat := 0x1068018
abbrev MGR_Q_TXBUF3 : Nat := 0x106801C
abbrev MGR_Q_SEND : Nat := 0x1068020
abbrev MGR_Q_SEND_RESULT : Nat := 0x1068024
abbrev MGR_Q_POP : Nat := 0x1068028
abbrev MGR_Q_POP_RESULT : Nat := 0x106802C
abbrev MGR_Q_TX_LO : Nat := 0x1068030
abbrev MGR_Q_TX_HI : Nat := 0x1068034
abbrev MGR_Q_RX_LO : Nat := 0x1068038
abbrev MGR_Q_RX_HI : Nat := 0x106803C
abbrev MGR_Q_NO_CREDIT : Nat := 0x1068040
abbrev MGR_Q_DROP_STALE : Nat := 0x1068044
abbrev MGR_Q_DROP_CLOSED : Nat := 0x1068048
abbrev MGR_Q_DROP_FOREIGN : Nat := 0x106804C
abbrev MGR_Q_DROP_SEQ : Nat := 0x1068050
abbrev MGR_Q_CR_DISCARD : Nat := 0x1068054
abbrev MGR_Q_GAP_CNT : Nat := 0x1068058
abbrev MGR_Q_INT_EN : Nat := 0x106805C
abbrev MGR_Q_READY (n : Nat) : Nat := 0x1068400 + 0x4 * n
abbrev MGR_Q_READY_IE (n : Nat) : Nat := 0x1068480 + 0x4 * n
abbrev MGR_Q_DESC0 (n : Nat) : Nat := 0x106C000 + 0x10 * n
abbrev MGR_Q_DESC1 (n : Nat) : Nat := 0x106C004 + 0x10 * n
abbrev MGR_Q_DESC2 (n : Nat) : Nat := 0x106C008 + 0x10 * n
abbrev MGR_Q_DESC3 (n : Nat) : Nat := 0x106C00C + 0x10 * n
abbrev EGR_CTRL : Nat := 0x1070000
abbrev EGR_STATUS : Nat := 0x1070004
abbrev EGR_FORCE : Nat := 0x1070008
abbrev EGR_HOST_BASE_LO : Nat := 0x1070010
abbrev EGR_HOST_BASE_HI : Nat := 0x1070014
abbrev EGR_HOST_LEN : Nat := 0x1070018
abbrev EGR_HOST_PTR : Nat := 0x107001C
abbrev EGR_HOST_DROP : Nat := 0x1070020
abbrev EGR_ETH_DMAC_LO (n : Nat) : Nat := 0x1070040 + 0x10 * n
abbrev EGR_ETH_DMAC_HI (n : Nat) : Nat := 0x1070044 + 0x10 * n
abbrev EGR_ETH_DIP (n : Nat) : Nat := 0x1070048 + 0x10 * n
abbrev EGR_ETH_PORTS (n : Nat) : Nat := 0x107004C + 0x10 * n
abbrev EGR_CH_CTRL (n : Nat) : Nat := 0x1071000 + 0x40 * n
abbrev EGR_CH_SINK (n : Nat) : Nat := 0x1071004 + 0x40 * n
abbrev EGR_CH_LO (n : Nat) : Nat := 0x1071008 + 0x40 * n
abbrev EGR_CH_HI (n : Nat) : Nat := 0x107100C + 0x40 * n
abbrev EGR_CH_DB (n : Nat) : Nat := 0x1071010 + 0x40 * n
abbrev EGR_CH_GAP (n : Nat) : Nat := 0x1071014 + 0x40 * n
abbrev EGR_CH_SAFE (n : Nat) : Nat := 0x1071018 + 0x40 * n
abbrev EGR_CH_SILENCE (n : Nat) : Nat := 0x107101C + 0x40 * n
abbrev EGR_CH_WRITE (n : Nat) : Nat := 0x1071020 + 0x40 * n
abbrev EGR_CH_LAST (n : Nat) : Nat := 0x1071024 + 0x40 * n
abbrev EGR_CH_CLAMP (n : Nat) : Nat := 0x1071028 + 0x40 * n
abbrev EGR_CH_HELD (n : Nat) : Nat := 0x107102C + 0x40 * n
abbrev EGR_CH_LATE (n : Nat) : Nat := 0x1071030 + 0x40 * n
abbrev EGR_CH_STATUS (n : Nat) : Nat := 0x1071034 + 0x40 * n
abbrev EGR_CH_EMIT (n : Nat) : Nat := 0x1071038 + 0x40 * n
abbrev EGR_GPO_CFG (n : Nat) : Nat := 0x1072000 + 0x10 * n
abbrev EGR_GPO_STAT (n : Nat) : Nat := 0x1072004 + 0x10 * n
abbrev HOST_CTRL : Nat := 0x1080000
abbrev HOST_STATUS : Nat := 0x1080004
abbrev HOST_WIN_BASE : Nat := 0x1080008
abbrev HOST_ORING_RD : Nat := 0x108000C
abbrev HOST_AER_CE : Nat := 0x1080010
abbrev HOST_AER_UE : Nat := 0x1080014
abbrev HOST_ABORTS : Nat := 0x1080018
abbrev HOST_IRQ_STAT : Nat := 0x1080020
abbrev HOST_IRQ_MASK : Nat := 0x1080024
abbrev HOST_IRQ_MAP (n : Nat) : Nat := 0x1080040 + 0x4 * n
abbrev HOST_DMA_CTRL (n : Nat) : Nat := 0x1080100 + 0x40 * n
abbrev HOST_DMA_STATUS (n : Nat) : Nat := 0x1080104 + 0x40 * n
abbrev HOST_DMA_RING_LO (n : Nat) : Nat := 0x1080108 + 0x40 * n
abbrev HOST_DMA_RING_HI (n : Nat) : Nat := 0x108010C + 0x40 * n
abbrev HOST_DMA_RING_LEN (n : Nat) : Nat := 0x1080110 + 0x40 * n
abbrev HOST_DMA_HEAD (n : Nat) : Nat := 0x1080114 + 0x40 * n
abbrev HOST_DMA_TAIL (n : Nat) : Nat := 0x1080118 + 0x40 * n
abbrev HOST_DMA_DONE (n : Nat) : Nat := 0x108011C + 0x40 * n
abbrev HOST_MBX_DOORBELL : Nat := 0x1084200
abbrev HOST_MBX_STAT : Nat := 0x1084204
abbrev TLK_CTRL (u : Nat) : Nat := 0x1090000 + 0x2000 * u
abbrev TLK_STATUS (u : Nat) : Nat := 0x1090004 + 0x2000 * u
abbrev TLK_SESSION (u : Nat) : Nat := 0x1090008 + 0x2000 * u
abbrev TLK_PEER_ID_LO (u : Nat) : Nat := 0x109000C + 0x2000 * u
abbrev TLK_PEER_ID_HI (u : Nat) : Nat := 0x1090010 + 0x2000 * u
abbrev TLK_SEQ (u : Nat) : Nat := 0x1090014 + 0x2000 * u
abbrev TLK_HOLD (u : Nat) : Nat := 0x1090018 + 0x2000 * u
abbrev TLK_TB_OFFSET (u : Nat) : Nat := 0x109001C + 0x2000 * u
abbrev TLK_TB_DELAY (u : Nat) : Nat := 0x1090020 + 0x2000 * u
abbrev TLK_CRC_ERR (u : Nat) : Nat := 0x1090040 + 0x2000 * u
abbrev TLK_CODE_ERR (u : Nat) : Nat := 0x1090044 + 0x2000 * u
abbrev TLK_REPLAY (u : Nat) : Nat := 0x1090048 + 0x2000 * u
abbrev TLK_RETRAIN (u : Nat) : Nat := 0x109004C + 0x2000 * u
abbrev TLK_DROP_HOLD (u : Nat) : Nat := 0x1090050 + 0x2000 * u
abbrev TLK_DROP_SESSION (u : Nat) : Nat := 0x1090054 + 0x2000 * u
abbrev TLK_ARM_LATE (u : Nat) : Nat := 0x1090058 + 0x2000 * u
abbrev TLK_FWD_MISS (u : Nat) : Nat := 0x109005C + 0x2000 * u
abbrev TLK_TX_PIPS_LO (u : Nat) : Nat := 0x1090060 + 0x2000 * u
abbrev TLK_TX_PIPS_HI (u : Nat) : Nat := 0x1090064 + 0x2000 * u
abbrev TLK_RX_PIPS_LO (u : Nat) : Nat := 0x1090068 + 0x2000 * u
abbrev TLK_RX_PIPS_HI (u : Nat) : Nat := 0x109006C + 0x2000 * u
abbrev TLK_INT_EN (u : Nat) : Nat := 0x1090080 + 0x2000 * u
abbrev TLK_HIER_CTRL : Nat := 0x1091000
abbrev TLK_HIER_STAT : Nat := 0x1091004
abbrev TLK_HIER_LEAD : Nat := 0x1091008
abbrev TLK_FWD_BASE : Nat := 0x109100C
abbrev CAN_CTRL (u : Nat) : Nat := 0x10A0000 + 0x8000 * u
abbrev CAN_STATUS (u : Nat) : Nat := 0x10A0004 + 0x8000 * u
abbrev CAN_NBT (u : Nat) : Nat := 0x10A0008 + 0x8000 * u
abbrev CAN_DBT (u : Nat) : Nat := 0x10A000C + 0x8000 * u
abbrev CAN_TDC (u : Nat) : Nat := 0x10A0010 + 0x8000 * u
abbrev CAN_TXLIM (u : Nat) : Nat := 0x10A0014 + 0x8000 * u
abbrev CAN_TXLIM_STAT (u : Nat) : Nat := 0x10A0018 + 0x8000 * u
abbrev CAN_TX_MERGED (u : Nat) : Nat := 0x10A001C + 0x8000 * u
abbrev CAN_TX_FRAMES (u : Nat) : Nat := 0x10A0020 + 0x8000 * u
abbrev CAN_RX_FRAMES (u : Nat) : Nat := 0x10A0024 + 0x8000 * u
abbrev CAN_RX_DROP (u : Nat) : Nat := 0x10A0028 + 0x8000 * u
abbrev CAN_BUSOFF (u : Nat) : Nat := 0x10A002C + 0x8000 * u
abbrev CAN_DUP_DISCARD (u : Nat) : Nat := 0x10A0030 + 0x8000 * u
abbrev CAN_INT_EN (u : Nat) : Nat := 0x10A0034 + 0x8000 * u
abbrev CAN_TXBUF (u n : Nat) : Nat := 0x10A0100 + 0x8000 * u + 0x4 * n
abbrev CAN_TX_REQ (u : Nat) : Nat := 0x10A0148 + 0x8000 * u
abbrev CAN_TX_RESULT (u : Nat) : Nat := 0x10A014C + 0x8000 * u
abbrev CAN_RXBUF (u n : Nat) : Nat := 0x10A0200 + 0x8000 * u + 0x4 * n
abbrev CAN_RX_POP (u : Nat) : Nat := 0x10A0250 + 0x8000 * u
abbrev CAN_RX_LEVEL (u : Nat) : Nat := 0x10A0254 + 0x8000 * u
abbrev CAN_TPDO_CFG (u n : Nat) : Nat := 0x10A0400 + 0x8000 * u + 0x10 * n
abbrev CAN_TPDO_TRIG (u n : Nat) : Nat := 0x10A0404 + 0x8000 * u + 0x10 * n
abbrev CAN_TPDO_BUF (u n : Nat) : Nat := 0x10A0800 + 0x8000 * u + 0x4 * n
abbrev PWR_CTRL : Nat := 0x10B0000
abbrev PWR_STATUS : Nat := 0x10B0004
abbrev PWR_CLK_W : Nat := 0x10B0008
abbrev PWR_CLK_E : Nat := 0x10B000C
abbrev PWR_HALF_CTRL : Nat := 0x10B0010
abbrev PWR_HALF_STAT : Nat := 0x10B0014
abbrev PWR_VMARGIN : Nat := 0x10B0018
abbrev PWR_GOV_CTRL : Nat := 0x10B0040
abbrev PWR_GOV_LIMIT : Nat := 0x10B0044
abbrev PWR_GOV_STAT : Nat := 0x10B0048
abbrev PWR_PKG_POWER : Nat := 0x10B004C
abbrev PWR_TEMP : Nat := 0x10B0050
abbrev PWR_WITHHELD : Nat := 0x10B0054
abbrev PWR_RAIL_CFG (n : Nat) : Nat := 0x10B0100 + 0x20 * n
abbrev PWR_RAIL_WIN (n : Nat) : Nat := 0x10B0104 + 0x20 * n
abbrev PWR_RAIL_SET (n : Nat) : Nat := 0x10B0108 + 0x20 * n
abbrev PWR_RAIL_MEAS (n : Nat) : Nat := 0x10B010C + 0x20 * n
abbrev PWR_RAIL_STAT (n : Nat) : Nat := 0x10B0110 + 0x20 * n
abbrev PWR_RAIL_TMO (n : Nat) : Nat := 0x10B0114 + 0x20 * n
abbrev PWR_PMB_CFG : Nat := 0x10B0200
abbrev PWR_PMB_CMD : Nat := 0x10B0204
abbrev PWR_PMB_DATA : Nat := 0x10B0208
abbrev PWR_PMB_RESULT : Nat := 0x10B020C
abbrev PWR_AON_STAT : Nat := 0x10B0800
abbrev PWR_SEQ_STAT : Nat := 0x10B0804
abbrev PWR_WAKE_EN : Nat := 0x10B0808
abbrev PWR_WAKE_GPIO : Nat := 0x10B080C
abbrev PWR_WAKE_UDP : Nat := 0x10B0810
abbrev PWR_WAKE_GFLT : Nat := 0x10B0814
abbrev PWR_WAKE_TMR_LO : Nat := 0x10B0818
abbrev PWR_WAKE_TMR_HI : Nat := 0x10B081C
abbrev PWR_WAKE_REC : Nat := 0x10B0820
abbrev PWR_WAKE_TB_LO : Nat := 0x10B0828
abbrev PWR_WAKE_TB_HI : Nat := 0x10B082C
abbrev PWR_TRIP_REC : Nat := 0x10B0830
abbrev PWR_TRIP_TB_LO : Nat := 0x10B0838
abbrev PWR_TRIP_TB_HI : Nat := 0x10B083C
abbrev CHK_CTRL (u : Nat) : Nat := 0x10C0000 + 0x2000 * u
abbrev CHK_CMD (u : Nat) : Nat := 0x10C0004 + 0x2000 * u
abbrev CHK_STATUS (u : Nat) : Nat := 0x10C0008 + 0x2000 * u
abbrev CHK_ADDR_LO (u : Nat) : Nat := 0x10C0010 + 0x2000 * u
abbrev CHK_ADDR_HI (u : Nat) : Nat := 0x10C0014 + 0x2000 * u
abbrev CHK_LEN (u : Nat) : Nat := 0x10C0018 + 0x2000 * u
abbrev CHK_INIT (u : Nat) : Nat := 0x10C001C + 0x2000 * u
abbrev CHK_XOROUT (u : Nat) : Nat := 0x10C0020 + 0x2000 * u
abbrev CHK_POLY (u : Nat) : Nat := 0x10C0024 + 0x2000 * u
abbrev CHK_RESULT (u : Nat) : Nat := 0x10C0028 + 0x2000 * u
abbrev CHK_EXPECT (u : Nat) : Nat := 0x10C002C + 0x2000 * u
abbrev CHK_POS (u : Nat) : Nat := 0x10C0030 + 0x2000 * u
abbrev CHK_JOBS (u : Nat) : Nat := 0x10C0034 + 0x2000 * u
abbrev CHK_MISMATCH (u : Nat) : Nat := 0x10C0038 + 0x2000 * u
abbrev CHK_INT_EN (u : Nat) : Nat := 0x10C003C + 0x2000 * u
abbrev CHK_PROF_ID (u n : Nat) : Nat := 0x10C0100 + 0x2000 * u + 0x10 * n
abbrev CHK_PROF_OFF (u n : Nat) : Nat := 0x10C0104 + 0x2000 * u + 0x10 * n
abbrev CHK_PROF_CNT (u n : Nat) : Nat := 0x10C0108 + 0x2000 * u + 0x10 * n
abbrev CHK_PROF_LOST (u n : Nat) : Nat := 0x10C010C + 0x2000 * u + 0x10 * n
abbrev TMR_CFG (u : Nat) : Nat := 0x10D0000 + 0x1000 * u
abbrev TMR_TRIG (u : Nat) : Nat := 0x10D0004 + 0x1000 * u
abbrev TMR_PIN (u : Nat) : Nat := 0x10D0008 + 0x1000 * u
abbrev TMR_CAP_CFG (u : Nat) : Nat := 0x10D000C + 0x1000 * u
abbrev TMR_CMD (u : Nat) : Nat := 0x10D0010 + 0x1000 * u
abbrev TMR_STATUS (u : Nat) : Nat := 0x10D0014 + 0x1000 * u
abbrev TMR_INT_EN (u : Nat) : Nat := 0x10D0018 + 0x1000 * u
abbrev TMR_CNT_LO (u : Nat) : Nat := 0x10D0020 + 0x1000 * u
abbrev TMR_CNT_HI (u : Nat) : Nat := 0x10D0024 + 0x1000 * u
abbrev TMR_LOAD_LO (u : Nat) : Nat := 0x10D0028 + 0x1000 * u
abbrev TMR_LOAD_HI (u : Nat) : Nat := 0x10D002C + 0x1000 * u
abbrev TMR_CMP0_LO (u : Nat) : Nat := 0x10D0030 + 0x1000 * u
abbrev TMR_CMP0_HI (u : Nat) : Nat := 0x10D0034 + 0x1000 * u
abbrev TMR_CMP1_LO (u : Nat) : Nat := 0x10D0038 + 0x1000 * u
abbrev TMR_CMP1_HI (u : Nat) : Nat := 0x10D003C + 0x1000 * u
abbrev TMR_CAPA_LO (u : Nat) : Nat := 0x10D0040 + 0x1000 * u
abbrev TMR_CAPA_HI (u : Nat) : Nat := 0x10D0044 + 0x1000 * u
abbrev TMR_CAPB_LO (u : Nat) : Nat := 0x10D0048 + 0x1000 * u
abbrev TMR_CAPB_HI (u : Nat) : Nat := 0x10D004C + 0x1000 * u
abbrev TMR_SNAP_LO (u : Nat) : Nat := 0x10D0050 + 0x1000 * u
abbrev TMR_SNAP_HI (u : Nat) : Nat := 0x10D0054 + 0x1000 * u
abbrev DBG_CTRL : Nat := 0x10F0000
abbrev DBG_STATUS : Nat := 0x10F0004
abbrev DBG_OBS_BASE_LO : Nat := 0x10F0010
abbrev DBG_OBS_BASE_HI : Nat := 0x10F0014
abbrev DBG_TRC_BASE_LO : Nat := 0x10F0020
abbrev DBG_TRC_BASE_HI : Nat := 0x10F0024
abbrev DBG_TRC_LEN : Nat := 0x10F0028
abbrev DBG_TRC_WR : Nat := 0x10F002C
abbrev DBG_TRC_RD : Nat := 0x10F0030
abbrev DBG_TRC_CTRL : Nat := 0x10F0034
abbrev DBG_GTRC_LOST : Nat := 0x10F0038
abbrev DBG_INJ_TARGET : Nat := 0x10F0100
abbrev DBG_INJ_KIND : Nat := 0x10F0104
abbrev DBG_INJ_COUNT : Nat := 0x10F0108
abbrev DBG_INJ_CTRL : Nat := 0x10F010C
abbrev DBG_INJ_STAT : Nat := 0x10F0110
abbrev DBG_INJ_DONE : Nat := 0x10F0114
abbrev DBG_JTAG_STAT : Nat := 0x10F0200
abbrev DBG_MWAIT : Nat := 0x10F0300
abbrev DBG_MWAIT_OBJ : Nat := 0x10F0304
abbrev DBG_MWAIT_SINCE : Nat := 0x10F0308

end Reg

end Sys2Proof.Machine
end

