-- ==== Sys2Proof/Machine/Fields.lean ====
section
/-! DEFINITION. The register fields by their names in the spec: REGISTER_FIELD, with the tile `t` or pod `p`, the unit
`u` and the index `n` that the register takes. -/

namespace Sys2Proof.Machine.Reg

abbrev TB_COUNT_LO_COUNT : RF := ⟨TB_COUNT_LO, 0, 32⟩
abbrev TB_COUNT_HI_COUNT : RF := ⟨TB_COUNT_HI, 0, 32⟩
abbrev TB_CTRL_DISC : RF := ⟨TB_CTRL, 0, 2⟩
abbrev TB_CTRL_LOAD : RF := ⟨TB_CTRL, 4, 1⟩
abbrev TB_SET_LO_VALUE : RF := ⟨TB_SET_LO, 0, 32⟩
abbrev TB_SET_HI_VALUE : RF := ⟨TB_SET_HI, 0, 32⟩
abbrev TB_RATE_RATE : RF := ⟨TB_RATE, 0, 32⟩
abbrev TB_SLEW_SLEW : RF := ⟨TB_SLEW, 0, 16⟩
abbrev TB_STAT_MISMATCH_CNT : RF := ⟨TB_STAT, 0, 16⟩
abbrev TB_STAT_LAST_TILE : RF := ⟨TB_STAT, 16, 11⟩
abbrev TB_STAT_CFG_ERR : RF := ⟨TB_STAT, 31, 1⟩
abbrev TB_REPLICA_LO_COUNT (t : Nat) : RF := ⟨TB_REPLICA_LO t, 0, 32⟩
abbrev TB_REPLICA_HI_COUNT (t : Nat) : RF := ⟨TB_REPLICA_HI t, 0, 32⟩
abbrev TB_CMP_LO_VALUE (t : Nat) : RF := ⟨TB_CMP_LO t, 0, 32⟩
abbrev TB_CMP_HI_VALUE (t : Nat) : RF := ⟨TB_CMP_HI t, 0, 32⟩
abbrev TB_CMP_CTRL_EN (t : Nat) : RF := ⟨TB_CMP_CTRL t, 0, 1⟩
abbrev TB_CMP_CTRL_FIRED (t : Nat) : RF := ⟨TB_CMP_CTRL t, 1, 1⟩
abbrev TB_LAUNCH_LO_VALUE (t : Nat) : RF := ⟨TB_LAUNCH_LO t, 0, 32⟩
abbrev TB_LAUNCH_HI_VALUE (t : Nat) : RF := ⟨TB_LAUNCH_HI t, 0, 32⟩
abbrev TB_STEP_LO_STEP (t : Nat) : RF := ⟨TB_STEP_LO t, 0, 32⟩
abbrev TB_STEP_HI_STEP (t : Nat) : RF := ⟨TB_STEP_HI t, 0, 32⟩
abbrev TB_TILE_PHASE_PHASE (t : Nat) : RF := ⟨TB_TILE_PHASE t, 0, 3⟩
abbrev STEP_CTRL_RUN : RF := ⟨STEP_CTRL, 0, 1⟩
abbrev STEP_CTRL_POLICY : RF := ⟨STEP_CTRL, 1, 2⟩
abbrev STEP_CTRL_CATCHUP : RF := ⟨STEP_CTRL, 3, 1⟩
abbrev STEP_CTRL_INPUT : RF := ⟨STEP_CTRL, 4, 1⟩
abbrev STEP_CTRL_REPLAY_RO : RF := ⟨STEP_CTRL, 5, 1⟩
abbrev STEP_CTRL_WD_EN : RF := ⟨STEP_CTRL, 6, 1⟩
abbrev STEP_STATUS_PHASE : RF := ⟨STEP_STATUS, 0, 3⟩
abbrev STEP_STATUS_CFG_ERR : RF := ⟨STEP_STATUS, 8, 1⟩
abbrev STEP_STATUS_LAUNCH_PAST : RF := ⟨STEP_STATUS, 9, 1⟩
abbrev STEP_STATUS_OVERRUN : RF := ⟨STEP_STATUS, 10, 1⟩
abbrev STEP_STATUS_FORCED : RF := ⟨STEP_STATUS, 11, 1⟩
abbrev STEP_STATUS_WD_FIRED : RF := ⟨STEP_STATUS, 12, 1⟩
abbrev STEP_PERIOD_P : RF := ⟨STEP_PERIOD, 0, 28⟩
abbrev STEP_DEADLINE_FRAC : RF := ⟨STEP_DEADLINE, 0, 10⟩
abbrev STEP_STRETCH_MAX_S : RF := ⟨STEP_STRETCH_MAX, 0, 28⟩
abbrev STEP_MIN_PERIOD_P : RF := ⟨STEP_MIN_PERIOD, 0, 28⟩
abbrev STEP_UPDATE_RESERVE_U : RF := ⟨STEP_UPDATE_RESERVE, 0, 28⟩
abbrev STEP_FR_WATCHDOG_T : RF := ⟨STEP_FR_WATCHDOG, 0, 32⟩
abbrev STEP_FIRST_LO_VALUE : RF := ⟨STEP_FIRST_LO, 0, 32⟩
abbrev STEP_FIRST_HI_VALUE : RF := ⟨STEP_FIRST_HI, 0, 32⟩
abbrev STEP_NUM_LO_STEP : RF := ⟨STEP_NUM_LO, 0, 32⟩
abbrev STEP_NUM_HI_STEP : RF := ⟨STEP_NUM_HI, 0, 32⟩
abbrev STEP_LAST_LAUNCH_LO_VALUE : RF := ⟨STEP_LAST_LAUNCH_LO, 0, 32⟩
abbrev STEP_LAST_LAUNCH_HI_VALUE : RF := ⟨STEP_LAST_LAUNCH_HI, 0, 32⟩
abbrev STEP_NEXT_LAUNCH_LO_VALUE : RF := ⟨STEP_NEXT_LAUNCH_LO, 0, 32⟩
abbrev STEP_NEXT_LAUNCH_HI_VALUE : RF := ⟨STEP_NEXT_LAUNCH_HI, 0, 32⟩
abbrev STEP_SLIP_LO_VALUE : RF := ⟨STEP_SLIP_LO, 0, 32⟩
abbrev STEP_SLIP_HI_VALUE : RF := ⟨STEP_SLIP_HI, 0, 32⟩
abbrev STEP_LAST_CLOSE_LO_VALUE : RF := ⟨STEP_LAST_CLOSE_LO, 0, 32⟩
abbrev STEP_LAST_CLOSE_HI_VALUE : RF := ⟨STEP_LAST_CLOSE_HI, 0, 32⟩
abbrev STEP_LAST_QUIESCE_T : RF := ⟨STEP_LAST_QUIESCE, 0, 28⟩
abbrev STEP_LAST_LATE_COUNT : RF := ⟨STEP_LAST_LATE, 0, 32⟩
abbrev STEP_FORCED_CNT_VALUE : RF := ⟨STEP_FORCED_CNT, 0, 32⟩
abbrev STEP_STRETCH_CNT_VALUE : RF := ⟨STEP_STRETCH_CNT, 0, 32⟩
abbrev STEP_OVERRUN_CNT_VALUE : RF := ⟨STEP_OVERRUN_CNT, 0, 32⟩
abbrev STEP_WINDOW_W : RF := ⟨STEP_WINDOW, 0, 7⟩
abbrev STEP_WIN_BASE_LO_STEP : RF := ⟨STEP_WIN_BASE_LO, 0, 32⟩
abbrev STEP_WIN_BASE_HI_STEP : RF := ⟨STEP_WIN_BASE_HI, 0, 32⟩
abbrev STEP_SWITCH_CTRL_IMAGE : RF := ⟨STEP_SWITCH_CTRL, 0, 6⟩
abbrev STEP_SWITCH_CTRL_RETAIN : RF := ⟨STEP_SWITCH_CTRL, 8, 1⟩
abbrev STEP_SWITCH_CTRL_GO : RF := ⟨STEP_SWITCH_CTRL, 31, 1⟩
abbrev STEP_SWITCH_AT_LO_STEP : RF := ⟨STEP_SWITCH_AT_LO, 0, 32⟩
abbrev STEP_SWITCH_AT_HI_STEP : RF := ⟨STEP_SWITCH_AT_HI, 0, 32⟩
abbrev STEP_SWITCH_STAT_STATE : RF := ⟨STEP_SWITCH_STAT, 0, 2⟩
abbrev STEP_SWITCH_STAT_REASON : RF := ⟨STEP_SWITCH_STAT, 8, 8⟩
abbrev STEP_SWITCH_GAP_T : RF := ⟨STEP_SWITCH_GAP, 0, 28⟩
abbrev STEP_INT_EN_EN : RF := ⟨STEP_INT_EN, 0, 6⟩
abbrev POP_CTRL_EN (t u : Nat) : RF := ⟨POP_CTRL t u, 0, 1⟩
abbrev POP_CTRL_MODEL (t u : Nat) : RF := ⟨POP_CTRL t u, 1, 3⟩
abbrev POP_CTRL_FMT (t u : Nat) : RF := ⟨POP_CTRL t u, 4, 1⟩
abbrev POP_CTRL_RESET (t u : Nat) : RF := ⟨POP_CTRL t u, 5, 1⟩
abbrev POP_CTRL_LEAK_MODE (t u : Nat) : RF := ⟨POP_CTRL t u, 6, 1⟩
abbrev POP_CTRL_OUT_MODE (t u : Nat) : RF := ⟨POP_CTRL t u, 7, 1⟩
abbrev POP_CTRL_PLAST (t u : Nat) : RF := ⟨POP_CTRL t u, 8, 1⟩
abbrev POP_CTRL_WINDOWED (t u : Nat) : RF := ⟨POP_CTRL t u, 9, 1⟩
abbrev POP_CTRL_OUT_EN (t u : Nat) : RF := ⟨POP_CTRL t u, 10, 1⟩
abbrev POP_CTRL_TAP_EN (t u : Nat) : RF := ⟨POP_CTRL t u, 11, 1⟩
abbrev POP_CTRL_MC_SHIFT (t u : Nat) : RF := ⟨POP_CTRL t u, 12, 4⟩
abbrev POP_RANGE_FIRST (t u : Nat) : RF := ⟨POP_RANGE t u, 0, 14⟩
abbrev POP_RANGE_COUNT (t u : Nat) : RF := ⟨POP_RANGE t u, 16, 15⟩
abbrev POP_STATE_BASE_BASE (t u : Nat) : RF := ⟨POP_STATE_BASE t u, 0, 18⟩
abbrev POP_ACC_BASE_BASE (t u : Nat) : RF := ⟨POP_ACC_BASE t u, 0, 18⟩
abbrev POP_THRESH_THETA (t u : Nat) : RF := ⟨POP_THRESH t u, 0, 16⟩
abbrev POP_THRESH_V_MIN (t u : Nat) : RF := ⟨POP_THRESH t u, 16, 16⟩
abbrev POP_LEAK_LEAK_SHIFT (t u : Nat) : RF := ⟨POP_LEAK t u, 0, 4⟩
abbrev POP_LEAK_LEAK_MUL (t u : Nat) : RF := ⟨POP_LEAK t u, 8, 8⟩
abbrev POP_LEAK_REFRAC (t u : Nat) : RF := ⟨POP_LEAK t u, 16, 8⟩
abbrev POP_BIAS_BIAS (t u : Nat) : RF := ⟨POP_BIAS t u, 0, 16⟩
abbrev POP_ADAPT_A_INC (t u : Nat) : RF := ⟨POP_ADAPT t u, 0, 16⟩
abbrev POP_ADAPT_A_DECAY (t u : Nat) : RF := ⟨POP_ADAPT t u, 16, 4⟩
abbrev POP_ADAPT_A_SHL (t u : Nat) : RF := ⟨POP_ADAPT t u, 20, 4⟩
abbrev POP_RES_RF_C (t u : Nat) : RF := ⟨POP_RES t u, 0, 16⟩
abbrev POP_RES_RF_S (t u : Nat) : RF := ⟨POP_RES t u, 16, 16⟩
abbrev POP_QUANT_Q_OFF (t u : Nat) : RF := ⟨POP_QUANT t u, 0, 16⟩
abbrev POP_QUANT_Q_MUL (t u : Nat) : RF := ⟨POP_QUANT t u, 16, 8⟩
abbrev POP_QUANT_Q_SH (t u : Nat) : RF := ⟨POP_QUANT t u, 24, 4⟩
abbrev POP_MCAST_MC_BASE (t u : Nat) : RF := ⟨POP_MCAST t u, 0, 12⟩
abbrev POP_AXON_AXON_BASE (t u : Nat) : RF := ⟨POP_AXON t u, 0, 24⟩
abbrev POP_TAP_QUEUE (t u : Nat) : RF := ⟨POP_TAP t u, 0, 20⟩
abbrev POP_STATUS_CFG_ERR (t u : Nat) : RF := ⟨POP_STATUS t u, 0, 1⟩
abbrev POP_STATUS_ERR_CODE (t u : Nat) : RF := ⟨POP_STATUS t u, 8, 8⟩
abbrev POP_STATUS_LAST_SPIKES (t u : Nat) : RF := ⟨POP_STATUS t u, 16, 15⟩
abbrev POP_SPIKE_CNT_COUNT (t u : Nat) : RF := ⟨POP_SPIKE_CNT t u, 0, 32⟩
abbrev POP_SAT_CNT_COUNT (t u : Nat) : RF := ⟨POP_SAT_CNT t u, 0, 32⟩
abbrev NE_CTRL_EN (t : Nat) : RF := ⟨NE_CTRL t, 0, 1⟩
abbrev NE_STATUS_BUSY (t : Nat) : RF := ⟨NE_STATUS t, 0, 1⟩
abbrev NE_STATUS_CUR_CTX (t : Nat) : RF := ⟨NE_STATUS t, 1, 5⟩
abbrev NE_STATUS_CUR_PASS (t : Nat) : RF := ⟨NE_STATUS t, 6, 6⟩
abbrev NE_STATUS_CFG_ERR (t : Nat) : RF := ⟨NE_STATUS t, 16, 1⟩
abbrev NE_STATUS_ERR_CTX (t : Nat) : RF := ⟨NE_STATUS t, 17, 5⟩
abbrev NE_STATUS_ERR_CODE (t : Nat) : RF := ⟨NE_STATUS t, 24, 8⟩
abbrev NE_WINDOW_W (t : Nat) : RF := ⟨NE_WINDOW t, 0, 7⟩
abbrev NE_WIN_BASE_LO_STEP (t : Nat) : RF := ⟨NE_WIN_BASE_LO t, 0, 32⟩
abbrev NE_WIN_BASE_HI_STEP (t : Nat) : RF := ⟨NE_WIN_BASE_HI t, 0, 32⟩
abbrev NE_LAST_CYCLES_CYCLES (t : Nat) : RF := ⟨NE_LAST_CYCLES t, 0, 24⟩
abbrev NE_LAST_SPIKES_COUNT (t : Nat) : RF := ⟨NE_LAST_SPIKES t, 0, 18⟩
abbrev NE_LAST_SAT_COUNT (t : Nat) : RF := ⟨NE_LAST_SAT t, 0, 18⟩
abbrev NE_UPDATES_LO_COUNT (t : Nat) : RF := ⟨NE_UPDATES_LO t, 0, 32⟩
abbrev NE_UPDATES_HI_COUNT (t : Nat) : RF := ⟨NE_UPDATES_HI t, 0, 32⟩
abbrev NE_SPIKES_LO_COUNT (t : Nat) : RF := ⟨NE_SPIKES_LO t, 0, 32⟩
abbrev NE_SPIKES_HI_COUNT (t : Nat) : RF := ⟨NE_SPIKES_HI t, 0, 32⟩
abbrev NE_STALL_BANK_COUNT (t : Nat) : RF := ⟨NE_STALL_BANK t, 0, 32⟩
abbrev NE_STALL_OUT_COUNT (t : Nat) : RF := ⟨NE_STALL_OUT t, 0, 32⟩
abbrev NE_TAP_DROP_COUNT (t : Nat) : RF := ⟨NE_TAP_DROP t, 0, 32⟩
abbrev NE_OUTFIFO_LEVEL (t : Nat) : RF := ⟨NE_OUTFIFO t, 0, 7⟩
abbrev NE_OUTFIFO_HIGH_WATER (t : Nat) : RF := ⟨NE_OUTFIFO t, 8, 7⟩
abbrev NE_INT_EN_EN (t : Nat) : RF := ⟨NE_INT_EN t, 0, 3⟩
abbrev NE_TRACE_POST_DECAY (t n : Nat) : RF := ⟨NE_TRACE t n, 0, 4⟩
abbrev NE_TRACE_POST_INC (t n : Nat) : RF := ⟨NE_TRACE t n, 16, 16⟩
abbrev NE_MOD_MAP_EN (t n : Nat) : RF := ⟨NE_MOD_MAP t n, 0, 1⟩
abbrev NE_MOD_MAP_NEG (t n : Nat) : RF := ⟨NE_MOD_MAP t n, 1, 1⟩
abbrev NE_MOD_MAP_CTX (t n : Nat) : RF := ⟨NE_MOD_MAP t n, 2, 5⟩
abbrev DE_CTRL_EN (t : Nat) : RF := ⟨DE_CTRL t, 0, 1⟩
abbrev DE_CTRL_STEAL (t : Nat) : RF := ⟨DE_CTRL t, 1, 1⟩
abbrev DE_STATUS_BUSY (t : Nat) : RF := ⟨DE_STATUS t, 0, 1⟩
abbrev DE_STATUS_KIND (t : Nat) : RF := ⟨DE_STATUS t, 1, 2⟩
abbrev DE_STATUS_DSLOT (t : Nat) : RF := ⟨DE_STATUS t, 3, 6⟩
abbrev DE_STATUS_FAULT (t : Nat) : RF := ⟨DE_STATUS t, 16, 1⟩
abbrev DE_WINBUF_BASE_BASE (t : Nat) : RF := ⟨DE_WINBUF_BASE t, 0, 18⟩
abbrev DE_WINBUF_CAP_CAP (t : Nat) : RF := ⟨DE_WINBUF_CAP t, 0, 13⟩
abbrev DE_WINBUF_FILL_FILL0 (t : Nat) : RF := ⟨DE_WINBUF_FILL t, 0, 13⟩
abbrev DE_WINBUF_FILL_FILL1 (t : Nat) : RF := ⟨DE_WINBUF_FILL t, 16, 13⟩
abbrev DE_SYN_LO_COUNT (t : Nat) : RF := ⟨DE_SYN_LO t, 0, 32⟩
abbrev DE_SYN_HI_COUNT (t : Nat) : RF := ⟨DE_SYN_HI t, 0, 32⟩
abbrev DE_MAC_LO_COUNT (t : Nat) : RF := ⟨DE_MAC_LO t, 0, 32⟩
abbrev DE_MAC_HI_COUNT (t : Nat) : RF := ⟨DE_MAC_HI t, 0, 32⟩
abbrev DE_JOBS_COUNT (t : Nat) : RF := ⟨DE_JOBS t, 0, 32⟩
abbrev DE_STEALS_COUNT (t : Nat) : RF := ⟨DE_STEALS t, 0, 32⟩
abbrev DE_STALL_POD_COUNT (t : Nat) : RF := ⟨DE_STALL_POD t, 0, 32⟩
abbrev DE_STALL_ACC_COUNT (t : Nat) : RF := ⟨DE_STALL_ACC t, 0, 32⟩
abbrev DE_DROP_LATE_COUNT (t : Nat) : RF := ⟨DE_DROP_LATE t, 0, 32⟩
abbrev DE_DROP_WINBUF_COUNT (t : Nat) : RF := ⟨DE_DROP_WINBUF t, 0, 32⟩
abbrev DE_DROP_FAULT_COUNT (t : Nat) : RF := ⟨DE_DROP_FAULT t, 0, 32⟩
abbrev DE_DROP_STALE_COUNT (t : Nat) : RF := ⟨DE_DROP_STALE t, 0, 32⟩
abbrev DE_DROP_FENCED_COUNT (t : Nat) : RF := ⟨DE_DROP_FENCED t, 0, 32⟩
abbrev DE_DROP_WINLATE_COUNT (t : Nat) : RF := ⟨DE_DROP_WINLATE t, 0, 32⟩
abbrev DE_DUP_COUNT (t : Nat) : RF := ⟨DE_DUP t, 0, 32⟩
abbrev DE_LAST_FAULT_CODE (t : Nat) : RF := ⟨DE_LAST_FAULT t, 0, 16⟩
abbrev DE_LAST_FAULT_DSLOT (t : Nat) : RF := ⟨DE_LAST_FAULT t, 16, 6⟩
abbrev DE_LAST_FAULT_GROUP (t : Nat) : RF := ⟨DE_LAST_FAULT t, 24, 8⟩
abbrev DE_LAST_FAULT_SRC_AXON (t : Nat) : RF := ⟨DE_LAST_FAULT_SRC t, 0, 24⟩
abbrev DE_INT_EN_EN (t : Nat) : RF := ⟨DE_INT_EN t, 0, 3⟩
abbrev DE_ARB_CTRL_STEAL_MIN (p : Nat) : RF := ⟨DE_ARB_CTRL p, 0, 6⟩
abbrev DE_ARB_CTRL_MATCH_EN (p : Nat) : RF := ⟨DE_ARB_CTRL p, 8, 1⟩
abbrev DE_ARB_CTRL_GANG_EN (p : Nat) : RF := ⟨DE_ARB_CTRL p, 9, 1⟩
abbrev DE_ARB_STATUS_SWEEP (p : Nat) : RF := ⟨DE_ARB_STATUS p, 0, 1⟩
abbrev DE_ARB_STATUS_MODE_VIOLATION (p : Nat) : RF := ⟨DE_ARB_STATUS p, 8, 1⟩
abbrev DE_ARB_STATUS_VIOL_SLOT (p : Nat) : RF := ⟨DE_ARB_STATUS p, 16, 6⟩
abbrev DE_MATCH_MISS_COUNT (p : Nat) : RF := ⟨DE_MATCH_MISS p, 0, 32⟩
abbrev DE_STALL_MATCH_COUNT (p : Nat) : RF := ⟨DE_STALL_MATCH p, 0, 32⟩
abbrev DE_DQ_LEVEL_STEP (p n : Nat) : RF := ⟨DE_DQ_LEVEL p n, 0, 7⟩
abbrev DE_DQ_LEVEL_WIN (p n : Nat) : RF := ⟨DE_DQ_LEVEL p n, 8, 6⟩
abbrev DE_DQ_LEVEL_STEP_HW (p n : Nat) : RF := ⟨DE_DQ_LEVEL p n, 16, 7⟩
abbrev DE_DQ_LEVEL_WIN_HW (p n : Nat) : RF := ⟨DE_DQ_LEVEL p n, 24, 6⟩
abbrev DE_PROJ_CTRL_TRAV (p n : Nat) : RF := ⟨DE_PROJ_CTRL p n, 0, 2⟩
abbrev DE_PROJ_CTRL_FAULTED (p n : Nat) : RF := ⟨DE_PROJ_CTRL p n, 2, 1⟩
abbrev DE_PROJ_CTRL_DGEN (p n : Nat) : RF := ⟨DE_PROJ_CTRL p n, 8, 8⟩
abbrev DE_PROJ_CTRL_ADAPT_TH (p n : Nat) : RF := ⟨DE_PROJ_CTRL p n, 16, 16⟩
abbrev DE_PROJ_MODE_DENSE_GROUPS (p n : Nat) : RF := ⟨DE_PROJ_MODE p n, 0, 16⟩
abbrev DE_PROJ_MODE_EVENT_GROUPS (p n : Nat) : RF := ⟨DE_PROJ_MODE p n, 16, 16⟩
abbrev DE_PL_CTRL_EN (p n : Nat) : RF := ⟨DE_PL_CTRL p n, 0, 1⟩
abbrev DE_PL_CTRL_ETA (p n : Nat) : RF := ⟨DE_PL_CTRL p n, 8, 8⟩
abbrev DE_PL_RATE_MAX_RATE (p n : Nat) : RF := ⟨DE_PL_RATE_MAX p n, 0, 8⟩
abbrev DE_PL_DRIFT_MAX_DRIFT (p n : Nat) : RF := ⟨DE_PL_DRIFT_MAX p n, 0, 32⟩
abbrev DE_PL_DRIFT_USED_DRIFT (p n : Nat) : RF := ⟨DE_PL_DRIFT_USED p n, 0, 32⟩
abbrev DE_PL_STATUS_DRIFT_HIT (p : Nat) : RF := ⟨DE_PL_STATUS p, 0, 1⟩
abbrev DE_PL_STATUS_HIT_SLOT (p : Nat) : RF := ⟨DE_PL_STATUS p, 8, 6⟩
abbrev DE_PL_STATUS_BUSY (p : Nat) : RF := ⟨DE_PL_STATUS p, 16, 1⟩
abbrev DE_PL_STATUS_WB_SKIP (p : Nat) : RF := ⟨DE_PL_STATUS p, 24, 8⟩
abbrev DE_PL_LAST_CYCLES_CYCLES (p : Nat) : RF := ⟨DE_PL_LAST_CYCLES p, 0, 24⟩
abbrev DE_PL_UPDATES_COUNT (p : Nat) : RF := ⟨DE_PL_UPDATES p, 0, 32⟩
abbrev DE_PL_STALL_COUNT (p : Nat) : RF := ⟨DE_PL_STALL p, 0, 32⟩
abbrev DE_PL_MOD_SUM (p n : Nat) : RF := ⟨DE_PL_MOD p n, 0, 32⟩
abbrev SYNC_MODQ_PUSH_LO_VALUE : RF := ⟨SYNC_MODQ_PUSH_LO, 0, 32⟩
abbrev SYNC_MODQ_PUSH_HI_CH : RF := ⟨SYNC_MODQ_PUSH_HI, 0, 3⟩
abbrev SYNC_MODQ_STEP_STEP : RF := ⟨SYNC_MODQ_STEP, 0, 32⟩
abbrev SYNC_MODQ_STAT_LEVEL : RF := ⟨SYNC_MODQ_STAT, 0, 7⟩
abbrev SYNC_MODQ_STAT_LATE : RF := ⟨SYNC_MODQ_STAT, 8, 8⟩
abbrev SYNC_MODQ_STAT_FULL_CNT : RF := ⟨SYNC_MODQ_STAT, 16, 8⟩
abbrev SYNC_MOD_LAST_SUM (n : Nat) : RF := ⟨SYNC_MOD_LAST n, 0, 32⟩
abbrev ROOT_SYNC_STATUS_CFG_ERR : RF := ⟨ROOT_SYNC_STATUS, 0, 1⟩
abbrev ROOT_SYNC_STATUS_DOUBLE : RF := ⟨ROOT_SYNC_STATUS, 1, 1⟩
abbrev ROOT_SYNC_BAR_MEMBER_LO_BITS : RF := ⟨ROOT_SYNC_BAR_MEMBER_LO, 0, 32⟩
abbrev ROOT_SYNC_BAR_MEMBER_HI_BITS : RF := ⟨ROOT_SYNC_BAR_MEMBER_HI, 0, 32⟩
abbrev ROOT_SYNC_BAR_ARRIVE_CTX : RF := ⟨ROOT_SYNC_BAR_ARRIVE, 0, 6⟩
abbrev ROOT_SYNC_BAR_GEN_LO_BITS : RF := ⟨ROOT_SYNC_BAR_GEN_LO, 0, 32⟩
abbrev ROOT_SYNC_BAR_GEN_HI_BITS : RF := ⟨ROOT_SYNC_BAR_GEN_HI, 0, 32⟩
abbrev ROOT_SYNC_BAR_PEND_LO_BITS : RF := ⟨ROOT_SYNC_BAR_PEND_LO, 0, 32⟩
abbrev ROOT_SYNC_BAR_PEND_HI_BITS : RF := ⟨ROOT_SYNC_BAR_PEND_HI, 0, 32⟩
abbrev ROOT_SYNC_BAR_IE_LO_BITS : RF := ⟨ROOT_SYNC_BAR_IE_LO, 0, 32⟩
abbrev ROOT_SYNC_BAR_IE_HI_BITS : RF := ⟨ROOT_SYNC_BAR_IE_HI, 0, 32⟩
abbrev ROOT_SYNC_RED_IN_VALUE (n : Nat) : RF := ⟨ROOT_SYNC_RED_IN n, 0, 32⟩
abbrev ROOT_SYNC_RED_OUT_VALUE (n : Nat) : RF := ⟨ROOT_SYNC_RED_OUT n, 0, 32⟩
abbrev ROOT_SYNC_RED_CFG_OP (n : Nat) : RF := ⟨ROOT_SYNC_RED_CFG n, 0, 3⟩
abbrev ROOT_SYNC_RED_CFG_CTX (n : Nat) : RF := ⟨ROOT_SYNC_RED_CFG n, 8, 6⟩
abbrev ROOT_SYNC_FLT_REPORT_SUSPECT : RF := ⟨ROOT_SYNC_FLT_REPORT, 0, 20⟩
abbrev ROOT_SYNC_FLT_STAT_PEND : RF := ⟨ROOT_SYNC_FLT_STAT, 0, 3⟩
abbrev ROOT_SYNC_FLT_STAT_OVF : RF := ⟨ROOT_SYNC_FLT_STAT, 8, 1⟩
abbrev ROOT_SYNC_FLT_STAT_SUPP : RF := ⟨ROOT_SYNC_FLT_STAT, 16, 16⟩
abbrev ROOT_SYNC_INT_EN_EN : RF := ⟨ROOT_SYNC_INT_EN, 0, 2⟩
abbrev SYNC_ROOT_RED_CFG_OP (n : Nat) : RF := ⟨SYNC_ROOT_RED_CFG n, 0, 3⟩
abbrev SYNC_ROOT_RED_CFG_CTX (n : Nat) : RF := ⟨SYNC_ROOT_RED_CFG n, 8, 6⟩
abbrev SYNC_FLT_SUSPECT_ID : RF := ⟨SYNC_FLT_SUSPECT, 0, 20⟩
abbrev SYNC_FLT_COUNT_COUNT : RF := ⟨SYNC_FLT_COUNT, 0, 32⟩
abbrev SYNC_FLT_STEP_STEP : RF := ⟨SYNC_FLT_STEP, 0, 32⟩
abbrev SYNC_FLT_QLEVEL_LEVEL : RF := ⟨SYNC_FLT_QLEVEL, 0, 5⟩
abbrev SYNC_FLT_QLEVEL_OVF : RF := ⟨SYNC_FLT_QLEVEL, 8, 1⟩
abbrev SYNC_BAR_LAST_CYC_CYCLES : RF := ⟨SYNC_BAR_LAST_CYC, 0, 8⟩
abbrev SYNC_ROOT_STATUS_CFG_ERR : RF := ⟨SYNC_ROOT_STATUS, 0, 1⟩
abbrev SYNC_FW_SWITCH_GEN : RF := ⟨SYNC_FW_SWITCH, 0, 8⟩
abbrev SYNC_FW_SWITCH_PEND : RF := ⟨SYNC_FW_SWITCH, 30, 1⟩
abbrev SYNC_FW_SWITCH_GO : RF := ⟨SYNC_FW_SWITCH, 31, 1⟩
abbrev EVM_CTRL_ECHO_EN (t : Nat) : RF := ⟨EVM_CTRL t, 0, 1⟩
abbrev EVM_CTRL_THR_EN (t : Nat) : RF := ⟨EVM_CTRL t, 1, 1⟩
abbrev EVM_STATUS_FENCED (t : Nat) : RF := ⟨EVM_STATUS t, 0, 1⟩
abbrev EVM_STATUS_STORM (t : Nat) : RF := ⟨EVM_STATUS t, 1, 1⟩
abbrev EVM_STATUS_CRC (t : Nat) : RF := ⟨EVM_STATUS t, 2, 1⟩
abbrev EVM_STATUS_SPILL (t : Nat) : RF := ⟨EVM_STATUS t, 3, 1⟩
abbrev EVM_STATUS_SPILL_DROP (t : Nat) : RF := ⟨EVM_STATUS t, 4, 1⟩
abbrev EVM_STATUS_UNDELIV (t : Nat) : RF := ⟨EVM_STATUS t, 5, 1⟩
abbrev EVM_STATUS_MC_MISS (t : Nat) : RF := ⟨EVM_STATUS t, 6, 1⟩
abbrev EVM_STATUS_CFG_ERR (t : Nat) : RF := ⟨EVM_STATUS t, 7, 1⟩
abbrev EVM_LINK_UP (t : Nat) : RF := ⟨EVM_LINK t, 0, 4⟩
abbrev EVM_LINK_RETRY_DOWN (t : Nat) : RF := ⟨EVM_LINK t, 4, 4⟩
abbrev EVM_LINK_RETRY_LEVEL (t : Nat) : RF := ⟨EVM_LINK t, 8, 4⟩
abbrev EVM_THR_CFG_MD (t : Nat) : RF := ⟨EVM_THR_CFG t, 0, 4⟩
abbrev EVM_THR_CFG_AI_STEP (t : Nat) : RF := ⟨EVM_THR_CFG t, 4, 8⟩
abbrev EVM_THR_CFG_AI_PERIOD (t : Nat) : RF := ⟨EVM_THR_CFG t, 16, 12⟩
abbrev EVM_THR_HOLD_MIN (t : Nat) : RF := ⟨EVM_THR_HOLD t, 0, 9⟩
abbrev EVM_THR_HOLD_DEC_HOLD (t : Nat) : RF := ⟨EVM_THR_HOLD t, 16, 16⟩
abbrev EVM_THR_RATE_RATE (t : Nat) : RF := ⟨EVM_THR_RATE t, 0, 9⟩
abbrev EVM_THR_RATE_TOKENS (t : Nat) : RF := ⟨EVM_THR_RATE t, 16, 3⟩
abbrev EVM_ECHO_CFG_HOLD (t : Nat) : RF := ⟨EVM_ECHO_CFG t, 0, 16⟩
abbrev EVM_TRACE_QUOTA_QUOTA (t : Nat) : RF := ⟨EVM_TRACE_QUOTA t, 0, 5⟩
abbrev EVM_MC_ADDR_GROUP (t : Nat) : RF := ⟨EVM_MC_ADDR t, 0, 12⟩
abbrev EVM_MC_ADDR_AUTO_INC (t : Nat) : RF := ⟨EVM_MC_ADDR t, 31, 1⟩
abbrev EVM_MC_DATA_ENTRY (t : Nat) : RF := ⟨EVM_MC_DATA t, 0, 32⟩
abbrev EVM_DS_LEVEL_LEVEL (t : Nat) : RF := ⟨EVM_DS_LEVEL t, 0, 11⟩
abbrev EVM_DS_LEVEL_HIGH_WATER (t : Nat) : RF := ⟨EVM_DS_LEVEL t, 16, 11⟩
abbrev EVM_SPILL_BASE_BASE (t : Nat) : RF := ⟨EVM_SPILL_BASE t, 0, 19⟩
abbrev EVM_SPILL_LEN_LEN (t : Nat) : RF := ⟨EVM_SPILL_LEN t, 0, 10⟩
abbrev EVM_SPILL_LEVEL_COUNT (t : Nat) : RF := ⟨EVM_SPILL_LEVEL t, 0, 16⟩
abbrev EVM_SEAM_LEVEL (t : Nat) : RF := ⟨EVM_SEAM t, 0, 7⟩
abbrev EVM_SEAM_HIGH_WATER (t : Nat) : RF := ⟨EVM_SEAM t, 8, 7⟩
abbrev EVM_LAST_STORM_SRC (t : Nat) : RF := ⟨EVM_LAST_STORM t, 0, 11⟩
abbrev EVM_LAST_STORM_PORT (t : Nat) : RF := ⟨EVM_LAST_STORM t, 12, 3⟩
abbrev EVM_LAST_STORM_CLASS (t : Nat) : RF := ⟨EVM_LAST_STORM t, 16, 2⟩
abbrev EVM_INJ_LO_COUNT (t : Nat) : RF := ⟨EVM_INJ_LO t, 0, 32⟩
abbrev EVM_INJ_HI_COUNT (t : Nat) : RF := ⟨EVM_INJ_HI t, 0, 32⟩
abbrev EVM_EJ_LO_COUNT (t : Nat) : RF := ⟨EVM_EJ_LO t, 0, 32⟩
abbrev EVM_EJ_HI_COUNT (t : Nat) : RF := ⟨EVM_EJ_HI t, 0, 32⟩
abbrev EVM_DEFL_LO_COUNT (t : Nat) : RF := ⟨EVM_DEFL_LO t, 0, 32⟩
abbrev EVM_DEFL_HI_COUNT (t : Nat) : RF := ⟨EVM_DEFL_HI t, 0, 32⟩
abbrev EVM_DROP_LATE_COUNT (t : Nat) : RF := ⟨EVM_DROP_LATE t, 0, 32⟩
abbrev EVM_DROP_TAG_COUNT (t : Nat) : RF := ⟨EVM_DROP_TAG t, 0, 32⟩
abbrev EVM_DROP_FENCE_COUNT (t : Nat) : RF := ⟨EVM_DROP_FENCE t, 0, 32⟩
abbrev EVM_DROP_SPILL_COUNT (t : Nat) : RF := ⟨EVM_DROP_SPILL t, 0, 32⟩
abbrev EVM_DROP_UNDELIV_COUNT (t : Nat) : RF := ⟨EVM_DROP_UNDELIV t, 0, 32⟩
abbrev EVM_DROP_TRACE_COUNT (t : Nat) : RF := ⟨EVM_DROP_TRACE t, 0, 32⟩
abbrev EVM_SPILLED_COUNT (t : Nat) : RF := ⟨EVM_SPILLED t, 0, 32⟩
abbrev EVM_STORM_COUNT (t : Nat) : RF := ⟨EVM_STORM t, 0, 32⟩
abbrev EVM_CRC_ERR_COUNT (t : Nat) : RF := ⟨EVM_CRC_ERR t, 0, 32⟩
abbrev EVM_RETRY_COUNT (t : Nat) : RF := ⟨EVM_RETRY t, 0, 32⟩
abbrev EVM_ECHO_TX_COUNT (t : Nat) : RF := ⟨EVM_ECHO_TX t, 0, 32⟩
abbrev EVM_ECHO_RX_COUNT (t : Nat) : RF := ⟨EVM_ECHO_RX t, 0, 32⟩
abbrev EVM_INJ_WAIT_COUNT (t : Nat) : RF := ⟨EVM_INJ_WAIT t, 0, 32⟩
abbrev EVM_SEAM_FULL_COUNT (t : Nat) : RF := ⟨EVM_SEAM_FULL t, 0, 32⟩
abbrev EVM_INT_EN_EN (t : Nat) : RF := ⟨EVM_INT_EN t, 0, 4⟩
abbrev SCM_CTRL_EN (t : Nat) : RF := ⟨SCM_CTRL t, 0, 1⟩
abbrev SCM_STATUS_CORR (t : Nat) : RF := ⟨SCM_STATUS t, 0, 1⟩
abbrev SCM_STATUS_POISON (t : Nat) : RF := ⟨SCM_STATUS t, 1, 1⟩
abbrev SCM_STATUS_UNROUTED (t : Nat) : RF := ⟨SCM_STATUS t, 2, 1⟩
abbrev SCM_STATUS_LINK_UP (t : Nat) : RF := ⟨SCM_STATUS t, 4, 4⟩
abbrev SCM_POS_SLOT (t : Nat) : RF := ⟨SCM_POS t, 0, 10⟩
abbrev SCM_POS_FRAME (t : Nat) : RF := ⟨SCM_POS t, 16, 10⟩
abbrev SCM_ECC_CORR_COUNT (t : Nat) : RF := ⟨SCM_ECC_CORR t, 0, 32⟩
abbrev SCM_ECC_UNCORR_COUNT (t : Nat) : RF := ⟨SCM_ECC_UNCORR t, 0, 32⟩
abbrev SCM_UNROUTED_COUNT (t : Nat) : RF := ⟨SCM_UNROUTED t, 0, 32⟩
abbrev SCM_BEATS_LO_COUNT (t : Nat) : RF := ⟨SCM_BEATS_LO t, 0, 32⟩
abbrev SCM_BEATS_HI_COUNT (t : Nat) : RF := ⟨SCM_BEATS_HI t, 0, 32⟩
abbrev SCM_INT_EN_EN (t : Nat) : RF := ⟨SCM_INT_EN t, 0, 3⟩
abbrev SCM_SLOT_ENTRY (t n : Nat) : RF := ⟨SCM_SLOT t n, 0, 27⟩
abbrev SCM_PI_CTRL_EN (p : Nat) : RF := ⟨SCM_PI_CTRL p, 0, 1⟩
abbrev SCM_PI_STATUS_UNION_BUSY (p : Nat) : RF := ⟨SCM_PI_STATUS p, 0, 1⟩
abbrev SCM_PI_STATUS_FAIL (p : Nat) : RF := ⟨SCM_PI_STATUS p, 1, 1⟩
abbrev SCM_PI_NULL_TX_COUNT (p : Nat) : RF := ⟨SCM_PI_NULL_TX p, 0, 32⟩
abbrev SCM_PI_FAIL_CH (p : Nat) : RF := ⟨SCM_PI_FAIL p, 0, 6⟩
abbrev SCM_PI_FAIL_CAUSE (p : Nat) : RF := ⟨SCM_PI_FAIL p, 8, 3⟩
abbrev SCM_CH_CFG_MODE (p n : Nat) : RF := ⟨SCM_CH_CFG p n, 0, 2⟩
abbrev SCM_CH_CFG_TARGET (p n : Nat) : RF := ⟨SCM_CH_CFG p n, 2, 1⟩
abbrev SCM_CH_CFG_TILE (p n : Nat) : RF := ⟨SCM_CH_CFG p n, 3, 4⟩
abbrev SCM_CH_CFG_DSLOT (p n : Nat) : RF := ⟨SCM_CH_CFG p n, 8, 6⟩
abbrev SCM_CH_CFG_START_EV (p n : Nat) : RF := ⟨SCM_CH_CFG p n, 14, 1⟩
abbrev SCM_CH_CFG_BASE_SEL (p n : Nat) : RF := ⟨SCM_CH_CFG p n, 16, 2⟩
abbrev SCM_CH_SCHED_PERIOD (p n : Nat) : RF := ⟨SCM_CH_SCHED p n, 0, 16⟩
abbrev SCM_CH_SCHED_PHASE (p n : Nat) : RF := ⟨SCM_CH_SCHED p n, 16, 16⟩
abbrev SCM_CH_BASE_BASE (p n : Nat) : RF := ⟨SCM_CH_BASE p n, 0, 19⟩
abbrev SCM_CH_LEN_LEN (p n : Nat) : RF := ⟨SCM_CH_LEN p n, 0, 20⟩
abbrev SCM_CH_CUR_CUR (p n : Nat) : RF := ⟨SCM_CH_CUR p n, 0, 20⟩
abbrev SCM_CH_STAT_PENDING (p n : Nat) : RF := ⟨SCM_CH_STAT p n, 0, 1⟩
abbrev SCM_CH_STAT_DONE (p n : Nat) : RF := ⟨SCM_CH_STAT p n, 1, 1⟩
abbrev SCM_CH_STAT_FAILED (p n : Nat) : RF := ⟨SCM_CH_STAT p n, 2, 1⟩
abbrev SCM_LD_CTRL_CHECK : RF := ⟨SCM_LD_CTRL, 0, 1⟩
abbrev SCM_LD_CTRL_SWAP : RF := ⟨SCM_LD_CTRL, 1, 1⟩
abbrev SCM_LD_STAT_BUSY : RF := ⟨SCM_LD_STAT, 0, 1⟩
abbrev SCM_LD_STAT_RESULT : RF := ⟨SCM_LD_STAT, 1, 2⟩
abbrev SCM_LD_STAT_SWAP_PEND : RF := ⟨SCM_LD_STAT, 3, 1⟩
abbrev SCM_LD_STAT_SWAP_REFUSED : RF := ⟨SCM_LD_STAT, 4, 1⟩
abbrev SCM_LD_STAT_SEAM_ACT : RF := ⟨SCM_LD_STAT, 8, 1⟩
abbrev SCM_LD_STAT_SEAM_STBY : RF := ⟨SCM_LD_STAT, 9, 1⟩
abbrev SCM_LD_STAT_OBS_SLOTS : RF := ⟨SCM_LD_STAT, 16, 10⟩
abbrev SCM_LD_ERR_TILE : RF := ⟨SCM_LD_ERR, 0, 11⟩
abbrev SCM_LD_ERR_SLOT : RF := ⟨SCM_LD_ERR, 16, 10⟩
abbrev SCM_LD_ERR_CODE : RF := ⟨SCM_LD_ERR, 28, 4⟩
abbrev SCM_CLASS_CLASS (n : Nat) : RF := ⟨SCM_CLASS n, 0, 32⟩
abbrev STR_CTRL_EN (u : Nat) : RF := ⟨STR_CTRL u, 0, 1⟩
abbrev STR_STATUS_PENDING (u : Nat) : RF := ⟨STR_STATUS u, 0, 16⟩
abbrev STR_STATUS_LAST_FAIL (u : Nat) : RF := ⟨STR_STATUS u, 16, 6⟩
abbrev STR_STATUS_CFG_ERR (u : Nat) : RF := ⟨STR_STATUS u, 31, 1⟩
abbrev STR_BUF_LEVEL_READ (u : Nat) : RF := ⟨STR_BUF_LEVEL u, 0, 11⟩
abbrev STR_BUF_LEVEL_WRITE (u : Nat) : RF := ⟨STR_BUF_LEVEL u, 16, 9⟩
abbrev STR_NULL_COUNT (u : Nat) : RF := ⟨STR_NULL u, 0, 32⟩
abbrev STR_WR_DISCARD_COUNT (u : Nat) : RF := ⟨STR_WR_DISCARD u, 0, 32⟩
abbrev STR_OVERRUN_COUNT (u : Nat) : RF := ⟨STR_OVERRUN u, 0, 32⟩
abbrev STR_FAILED_COUNT (u : Nat) : RF := ⟨STR_FAILED u, 0, 32⟩
abbrev STR_OBS_ABANDON_COUNT (u : Nat) : RF := ⟨STR_OBS_ABANDON u, 0, 32⟩
abbrev STR_RD_BYTES_LO_VALUE (u : Nat) : RF := ⟨STR_RD_BYTES_LO u, 0, 32⟩
abbrev STR_RD_BYTES_HI_VALUE (u : Nat) : RF := ⟨STR_RD_BYTES_HI u, 0, 32⟩
abbrev STR_WR_BYTES_LO_VALUE (u : Nat) : RF := ⟨STR_WR_BYTES_LO u, 0, 32⟩
abbrev STR_WR_BYTES_HI_VALUE (u : Nat) : RF := ⟨STR_WR_BYTES_HI u, 0, 32⟩
abbrev STR_WB_STATE_LAST_AREA (u : Nat) : RF := ⟨STR_WB_STATE u, 0, 1⟩
abbrev STR_INT_EN_EN (u : Nat) : RF := ⟨STR_INT_EN u, 0, 3⟩
abbrev STR_DESC0_VALID (u n : Nat) : RF := ⟨STR_DESC0 u n, 0, 1⟩
abbrev STR_DESC0_KIND (u n : Nat) : RF := ⟨STR_DESC0 u n, 1, 3⟩
abbrev STR_DESC0_CLASS (u n : Nat) : RF := ⟨STR_DESC0 u n, 4, 2⟩
abbrev STR_DESC0_START_EV (u n : Nat) : RF := ⟨STR_DESC0 u n, 6, 1⟩
abbrev STR_DESC0_BASE_SEL (u n : Nat) : RF := ⟨STR_DESC0 u n, 8, 2⟩
abbrev STR_DESC1_PERIOD (u n : Nat) : RF := ⟨STR_DESC1 u n, 0, 16⟩
abbrev STR_DESC1_PHASE (u n : Nat) : RF := ⟨STR_DESC1 u n, 16, 16⟩
abbrev STR_DESC2_DUE (u n : Nat) : RF := ⟨STR_DESC2 u n, 0, 16⟩
abbrev STR_DESC2_BUF_BEATS (u n : Nat) : RF := ⟨STR_DESC2 u n, 16, 11⟩
abbrev STR_DESC3_SLOT_FIRST (u n : Nat) : RF := ⟨STR_DESC3 u n, 0, 10⟩
abbrev STR_DESC3_SLOT_N (u n : Nat) : RF := ⟨STR_DESC3 u n, 16, 11⟩
abbrev STR_DESC4_ADDR (u n : Nat) : RF := ⟨STR_DESC4 u n, 0, 32⟩
abbrev STR_DESC5_ADDR (u n : Nat) : RF := ⟨STR_DESC5 u n, 0, 8⟩
abbrev STR_DESC6_LENGTH (u n : Nat) : RF := ⟨STR_DESC6 u n, 0, 32⟩
abbrev STR_DESC7_POD (u n : Nat) : RF := ⟨STR_DESC7 u n, 0, 7⟩
abbrev STR_DESC7_CH (u n : Nat) : RF := ⟨STR_DESC7 u n, 8, 6⟩
abbrev STR_DESC7_UP_SLOT (u n : Nat) : RF := ⟨STR_DESC7 u n, 14, 10⟩
abbrev STR_DESC7_UP_N (u n : Nat) : RF := ⟨STR_DESC7 u n, 24, 8⟩
abbrev Q_CTRL_EN (t : Nat) : RF := ⟨Q_CTRL t, 0, 1⟩
abbrev Q_CTRL_GAP_SCAN (t : Nat) : RF := ⟨Q_CTRL t, 8, 8⟩
abbrev Q_STATUS_CFG_ERR (t : Nat) : RF := ⟨Q_STATUS t, 0, 1⟩
abbrev Q_STATUS_GAP (t : Nat) : RF := ⟨Q_STATUS t, 1, 1⟩
abbrev Q_STATUS_LAST_GAP (t : Nat) : RF := ⟨Q_STATUS t, 16, 10⟩
abbrev Q_CMD_OP (t : Nat) : RF := ⟨Q_CMD t, 0, 3⟩
abbrev Q_CMD_IDX (t : Nat) : RF := ⟨Q_CMD t, 16, 10⟩
abbrev Q_CMD_RESULT_STATUS (t : Nat) : RF := ⟨Q_CMD_RESULT t, 0, 4⟩
abbrev Q_CMD_RESULT_VALID (t : Nat) : RF := ⟨Q_CMD_RESULT t, 31, 1⟩
abbrev Q_TXBUF0_DATA (t : Nat) : RF := ⟨Q_TXBUF0 t, 0, 32⟩
abbrev Q_TXBUF1_DATA (t : Nat) : RF := ⟨Q_TXBUF1 t, 0, 32⟩
abbrev Q_TXBUF2_DATA (t : Nat) : RF := ⟨Q_TXBUF2 t, 0, 32⟩
abbrev Q_TXBUF3_DATA (t : Nat) : RF := ⟨Q_TXBUF3 t, 0, 32⟩
abbrev Q_SEND_IDX (t : Nat) : RF := ⟨Q_SEND t, 0, 10⟩
abbrev Q_SEND_RESULT_STATUS (t : Nat) : RF := ⟨Q_SEND_RESULT t, 0, 4⟩
abbrev Q_SEND_RESULT_FIFO_FULL (t : Nat) : RF := ⟨Q_SEND_RESULT t, 4, 1⟩
abbrev Q_SEND_RESULT_SEQ (t : Nat) : RF := ⟨Q_SEND_RESULT t, 8, 12⟩
abbrev Q_SEND_RESULT_IDX (t : Nat) : RF := ⟨Q_SEND_RESULT t, 20, 10⟩
abbrev Q_SEND_RESULT_VALID (t : Nat) : RF := ⟨Q_SEND_RESULT t, 31, 1⟩
abbrev Q_POP_IDX (t : Nat) : RF := ⟨Q_POP t, 0, 10⟩
abbrev Q_POP_N (t : Nat) : RF := ⟨Q_POP t, 16, 12⟩
abbrev Q_POP_RESULT_STATUS (t : Nat) : RF := ⟨Q_POP_RESULT t, 0, 4⟩
abbrev Q_POP_RESULT_VALID (t : Nat) : RF := ⟨Q_POP_RESULT t, 31, 1⟩
abbrev Q_TX_LO_COUNT (t : Nat) : RF := ⟨Q_TX_LO t, 0, 32⟩
abbrev Q_TX_HI_COUNT (t : Nat) : RF := ⟨Q_TX_HI t, 0, 32⟩
abbrev Q_RX_LO_COUNT (t : Nat) : RF := ⟨Q_RX_LO t, 0, 32⟩
abbrev Q_RX_HI_COUNT (t : Nat) : RF := ⟨Q_RX_HI t, 0, 32⟩
abbrev Q_NO_CREDIT_COUNT (t : Nat) : RF := ⟨Q_NO_CREDIT t, 0, 32⟩
abbrev Q_DROP_STALE_COUNT (t : Nat) : RF := ⟨Q_DROP_STALE t, 0, 32⟩
abbrev Q_DROP_CLOSED_COUNT (t : Nat) : RF := ⟨Q_DROP_CLOSED t, 0, 32⟩
abbrev Q_DROP_FOREIGN_COUNT (t : Nat) : RF := ⟨Q_DROP_FOREIGN t, 0, 32⟩
abbrev Q_DROP_SEQ_COUNT (t : Nat) : RF := ⟨Q_DROP_SEQ t, 0, 32⟩
abbrev Q_CR_DISCARD_COUNT (t : Nat) : RF := ⟨Q_CR_DISCARD t, 0, 32⟩
abbrev Q_GAP_CNT_COUNT (t : Nat) : RF := ⟨Q_GAP_CNT t, 0, 32⟩
abbrev Q_INT_EN_READY (t : Nat) : RF := ⟨Q_INT_EN t, 0, 1⟩
abbrev Q_INT_EN_GAP (t : Nat) : RF := ⟨Q_INT_EN t, 1, 1⟩
abbrev Q_INT_EN_DROP (t : Nat) : RF := ⟨Q_INT_EN t, 2, 1⟩
abbrev Q_READY_BITS (t n : Nat) : RF := ⟨Q_READY t n, 0, 32⟩
abbrev Q_READY_IE_BITS (t n : Nat) : RF := ⟨Q_READY_IE t n, 0, 32⟩
abbrev Q_FW_CTRL_EN (t : Nat) : RF := ⟨Q_FW_CTRL t, 0, 1⟩
abbrev Q_FW_CTRL_REPORT (t : Nat) : RF := ⟨Q_FW_CTRL t, 1, 1⟩
abbrev Q_FW_CTRL_RELEASE (t : Nat) : RF := ⟨Q_FW_CTRL t, 2, 1⟩
abbrev Q_FW_CTRL_HALF (t : Nat) : RF := ⟨Q_FW_CTRL t, 3, 1⟩
abbrev Q_FW_STAT_HDR (t : Nat) : RF := ⟨Q_FW_STAT t, 0, 1⟩
abbrev Q_FW_STAT_COMPLETE (t : Nat) : RF := ⟨Q_FW_STAT t, 1, 1⟩
abbrev Q_FW_STAT_MATCH (t : Nat) : RF := ⟨Q_FW_STAT t, 2, 1⟩
abbrev Q_FW_STAT_GEN (t : Nat) : RF := ⟨Q_FW_STAT t, 8, 8⟩
abbrev Q_FW_STAT_MISSING (t : Nat) : RF := ⟨Q_FW_STAT t, 16, 11⟩
abbrev Q_FW_STAT_SWITCHED (t : Nat) : RF := ⟨Q_FW_STAT t, 3, 1⟩
abbrev Q_FW_STAT_ACTIVE_HALF (t : Nat) : RF := ⟨Q_FW_STAT t, 4, 1⟩
abbrev Q_FW_STAT_SWITCH_MISS (t : Nat) : RF := ⟨Q_FW_STAT t, 5, 1⟩
abbrev Q_FW_CHECK_VALUE (t : Nat) : RF := ⟨Q_FW_CHECK t, 0, 32⟩
abbrev Q_FW_DROP_COUNT (t : Nat) : RF := ⟨Q_FW_DROP t, 0, 32⟩
abbrev Q_FW_BITMAP_BITS (t n : Nat) : RF := ⟨Q_FW_BITMAP t n, 0, 32⟩
abbrev Q_DESC0_MODE (t n : Nat) : RF := ⟨Q_DESC0 t n, 0, 2⟩
abbrev Q_DESC0_LOG2N (t n : Nat) : RF := ⟨Q_DESC0 t n, 2, 4⟩
abbrev Q_DESC0_LOC (t n : Nat) : RF := ⟨Q_DESC0 t n, 6, 2⟩
abbrev Q_DESC0_RET_MIN (t n : Nat) : RF := ⟨Q_DESC0 t n, 8, 12⟩
abbrev Q_DESC0_EPOCH (t n : Nat) : RF := ⟨Q_DESC0 t n, 24, 8⟩
abbrev Q_DESC1_RING (t n : Nat) : RF := ⟨Q_DESC1 t n, 0, 32⟩
abbrev Q_DESC2_WORD (t n : Nat) : RF := ⟨Q_DESC2 t n, 0, 32⟩
abbrev Q_DESC3_WORD (t n : Nat) : RF := ⟨Q_DESC3 t n, 0, 28⟩
abbrev SYNC_STATUS_CFG_ERR (t : Nat) : RF := ⟨SYNC_STATUS t, 0, 1⟩
abbrev SYNC_STATUS_DOUBLE (t : Nat) : RF := ⟨SYNC_STATUS t, 1, 1⟩
abbrev SYNC_BAR_MEMBER_LO_BITS (t : Nat) : RF := ⟨SYNC_BAR_MEMBER_LO t, 0, 32⟩
abbrev SYNC_BAR_MEMBER_HI_BITS (t : Nat) : RF := ⟨SYNC_BAR_MEMBER_HI t, 0, 32⟩
abbrev SYNC_BAR_ARRIVE_CTX (t : Nat) : RF := ⟨SYNC_BAR_ARRIVE t, 0, 6⟩
abbrev SYNC_BAR_GEN_LO_BITS (t : Nat) : RF := ⟨SYNC_BAR_GEN_LO t, 0, 32⟩
abbrev SYNC_BAR_GEN_HI_BITS (t : Nat) : RF := ⟨SYNC_BAR_GEN_HI t, 0, 32⟩
abbrev SYNC_BAR_PEND_LO_BITS (t : Nat) : RF := ⟨SYNC_BAR_PEND_LO t, 0, 32⟩
abbrev SYNC_BAR_PEND_HI_BITS (t : Nat) : RF := ⟨SYNC_BAR_PEND_HI t, 0, 32⟩
abbrev SYNC_BAR_IE_LO_BITS (t : Nat) : RF := ⟨SYNC_BAR_IE_LO t, 0, 32⟩
abbrev SYNC_BAR_IE_HI_BITS (t : Nat) : RF := ⟨SYNC_BAR_IE_HI t, 0, 32⟩
abbrev SYNC_RED_IN_VALUE (t n : Nat) : RF := ⟨SYNC_RED_IN t n, 0, 32⟩
abbrev SYNC_RED_OUT_VALUE (t n : Nat) : RF := ⟨SYNC_RED_OUT t n, 0, 32⟩
abbrev SYNC_RED_CFG_OP (t n : Nat) : RF := ⟨SYNC_RED_CFG t n, 0, 3⟩
abbrev SYNC_RED_CFG_CTX (t n : Nat) : RF := ⟨SYNC_RED_CFG t n, 8, 6⟩
abbrev SYNC_FLT_REPORT_SUSPECT (t : Nat) : RF := ⟨SYNC_FLT_REPORT t, 0, 20⟩
abbrev SYNC_FLT_STAT_PEND (t : Nat) : RF := ⟨SYNC_FLT_STAT t, 0, 3⟩
abbrev SYNC_FLT_STAT_OVF (t : Nat) : RF := ⟨SYNC_FLT_STAT t, 8, 1⟩
abbrev SYNC_FLT_STAT_SUPP (t : Nat) : RF := ⟨SYNC_FLT_STAT t, 16, 16⟩
abbrev SYNC_INT_EN_EN (t : Nat) : RF := ⟨SYNC_INT_EN t, 0, 2⟩
abbrev FLT_TILE_STAT_HB_LOST (t : Nat) : RF := ⟨FLT_TILE_STAT t, 0, 1⟩
abbrev FLT_TILE_STAT_ENG_TMO (t : Nat) : RF := ⟨FLT_TILE_STAT t, 1, 1⟩
abbrev FLT_TILE_STAT_FENCED (t : Nat) : RF := ⟨FLT_TILE_STAT t, 2, 1⟩
abbrev FLT_TILE_STAT_RETIRED (t : Nat) : RF := ⟨FLT_TILE_STAT t, 3, 1⟩
abbrev FLT_TILE_STAT_ENGINE (t : Nat) : RF := ⟨FLT_TILE_STAT t, 4, 3⟩
abbrev FLT_HB_CFG_TMO (t : Nat) : RF := ⟨FLT_HB_CFG t, 0, 16⟩
abbrev FLT_ENG_TMO_CYCLES (t : Nat) : RF := ⟨FLT_ENG_TMO t, 0, 32⟩
abbrev FLT_SLICE_STEP_STEP (t : Nat) : RF := ⟨FLT_SLICE_STEP t, 0, 32⟩
abbrev FLT_MEM_CTRL_SCRUB_EN (t : Nat) : RF := ⟨FLT_MEM_CTRL t, 0, 1⟩
abbrev FLT_MEM_CTRL_CONF_CLR (t : Nat) : RF := ⟨FLT_MEM_CTRL t, 1, 1⟩
abbrev FLT_MEM_STATUS_DCE (t : Nat) : RF := ⟨FLT_MEM_STATUS t, 0, 1⟩
abbrev FLT_MEM_STATUS_DUE (t : Nat) : RF := ⟨FLT_MEM_STATUS t, 1, 1⟩
abbrev FLT_MEM_STATUS_ICE (t : Nat) : RF := ⟨FLT_MEM_STATUS t, 2, 1⟩
abbrev FLT_MEM_STATUS_IUE (t : Nat) : RF := ⟨FLT_MEM_STATUS t, 3, 1⟩
abbrev FLT_MEM_STATUS_LAST_BANK (t : Nat) : RF := ⟨FLT_MEM_STATUS t, 8, 5⟩
abbrev FLT_MEM_STATUS_LAST_ROW (t : Nat) : RF := ⟨FLT_MEM_STATUS t, 16, 10⟩
abbrev FLT_MEM_DCE_COUNT (t : Nat) : RF := ⟨FLT_MEM_DCE t, 0, 32⟩
abbrev FLT_MEM_DUE_COUNT (t : Nat) : RF := ⟨FLT_MEM_DUE t, 0, 32⟩
abbrev FLT_MEM_ICE_COUNT (t : Nat) : RF := ⟨FLT_MEM_ICE t, 0, 32⟩
abbrev FLT_MEM_IUE_COUNT (t : Nat) : RF := ⟨FLT_MEM_IUE t, 0, 32⟩
abbrev FLT_MEM_SCRUB_PASS_COUNT (t : Nat) : RF := ⟨FLT_MEM_SCRUB_PASS t, 0, 32⟩
abbrev FLT_BIST_STAT_DONE (t : Nat) : RF := ⟨FLT_BIST_STAT t, 0, 1⟩
abbrev FLT_BIST_STAT_PASS (t : Nat) : RF := ⟨FLT_BIST_STAT t, 1, 1⟩
abbrev FLT_BIST_STAT_ITEMS (t : Nat) : RF := ⟨FLT_BIST_STAT t, 2, 6⟩
abbrev FLT_BIST_STAT_LINKS (t : Nat) : RF := ⟨FLT_BIST_STAT t, 8, 4⟩
abbrev DBG_OPS0_LO_COUNT (t : Nat) : RF := ⟨DBG_OPS0_LO t, 0, 32⟩
abbrev DBG_OPS0_HI_COUNT (t : Nat) : RF := ⟨DBG_OPS0_HI t, 0, 32⟩
abbrev DBG_OPS1_LO_COUNT (t : Nat) : RF := ⟨DBG_OPS1_LO t, 0, 32⟩
abbrev DBG_OPS1_HI_COUNT (t : Nat) : RF := ⟨DBG_OPS1_HI t, 0, 32⟩
abbrev DBG_OPS2_LO_COUNT (t : Nat) : RF := ⟨DBG_OPS2_LO t, 0, 32⟩
abbrev DBG_OPS2_HI_COUNT (t : Nat) : RF := ⟨DBG_OPS2_HI t, 0, 32⟩
abbrev DBG_OPS3_LO_COUNT (t : Nat) : RF := ⟨DBG_OPS3_LO t, 0, 32⟩
abbrev DBG_OPS3_HI_COUNT (t : Nat) : RF := ⟨DBG_OPS3_HI t, 0, 32⟩
abbrev DBG_OPS4_LO_COUNT (t : Nat) : RF := ⟨DBG_OPS4_LO t, 0, 32⟩
abbrev DBG_OPS4_HI_COUNT (t : Nat) : RF := ⟨DBG_OPS4_HI t, 0, 32⟩
abbrev DBG_OPS5_LO_COUNT (t : Nat) : RF := ⟨DBG_OPS5_LO t, 0, 32⟩
abbrev DBG_OPS5_HI_COUNT (t : Nat) : RF := ⟨DBG_OPS5_HI t, 0, 32⟩
abbrev DBG_OPS6_LO_COUNT (t : Nat) : RF := ⟨DBG_OPS6_LO t, 0, 32⟩
abbrev DBG_OPS6_HI_COUNT (t : Nat) : RF := ⟨DBG_OPS6_HI t, 0, 32⟩
abbrev DBG_OPS7_LO_COUNT (t : Nat) : RF := ⟨DBG_OPS7_LO t, 0, 32⟩
abbrev DBG_OPS7_HI_COUNT (t : Nat) : RF := ⟨DBG_OPS7_HI t, 0, 32⟩
abbrev DBG_OPS8_LO_COUNT (t : Nat) : RF := ⟨DBG_OPS8_LO t, 0, 32⟩
abbrev DBG_OPS8_HI_COUNT (t : Nat) : RF := ⟨DBG_OPS8_HI t, 0, 32⟩
abbrev DBG_OPS9_LO_COUNT (t : Nat) : RF := ⟨DBG_OPS9_LO t, 0, 32⟩
abbrev DBG_OPS9_HI_COUNT (t : Nat) : RF := ⟨DBG_OPS9_HI t, 0, 32⟩
abbrev DBG_OPS10_LO_COUNT (t : Nat) : RF := ⟨DBG_OPS10_LO t, 0, 32⟩
abbrev DBG_OPS10_HI_COUNT (t : Nat) : RF := ⟨DBG_OPS10_HI t, 0, 32⟩
abbrev DBG_OPS11_LO_COUNT (t : Nat) : RF := ⟨DBG_OPS11_LO t, 0, 32⟩
abbrev DBG_OPS11_HI_COUNT (t : Nat) : RF := ⟨DBG_OPS11_HI t, 0, 32⟩
abbrev DBG_OPS12_LO_COUNT (t : Nat) : RF := ⟨DBG_OPS12_LO t, 0, 32⟩
abbrev DBG_OPS12_HI_COUNT (t : Nat) : RF := ⟨DBG_OPS12_HI t, 0, 32⟩
abbrev DBG_OPS13_LO_COUNT (t : Nat) : RF := ⟨DBG_OPS13_LO t, 0, 32⟩
abbrev DBG_OPS13_HI_COUNT (t : Nat) : RF := ⟨DBG_OPS13_HI t, 0, 32⟩
abbrev DBG_TCTRL_CLR (t : Nat) : RF := ⟨DBG_TCTRL t, 0, 1⟩
abbrev DBG_SNAP_OFF (t : Nat) : RF := ⟨DBG_SNAP t, 0, 18⟩
abbrev DBG_WAIT_KIND (t : Nat) : RF := ⟨DBG_WAIT t, 0, 3⟩
abbrev DBG_WAIT_SRC (t : Nat) : RF := ⟨DBG_WAIT t, 3, 1⟩
abbrev DBG_WAIT_WSEQ (t : Nat) : RF := ⟨DBG_WAIT t, 8, 8⟩
abbrev DBG_WAIT_OBJ_OBJ (t : Nat) : RF := ⟨DBG_WAIT_OBJ t, 0, 10⟩
abbrev DBG_WAIT_OBJ_PEER (t : Nat) : RF := ⟨DBG_WAIT_OBJ t, 16, 11⟩
abbrev DBG_WAIT_SINCE_STEP (t : Nat) : RF := ⟨DBG_WAIT_SINCE t, 0, 32⟩
abbrev DBG_WAIT_DECL_OBJ (t : Nat) : RF := ⟨DBG_WAIT_DECL t, 0, 10⟩
abbrev DBG_WAIT_DECL_PEER (t : Nat) : RF := ⟨DBG_WAIT_DECL t, 16, 11⟩
abbrev DBG_WAIT_DECL_KIND (t : Nat) : RF := ⟨DBG_WAIT_DECL t, 29, 3⟩
abbrev DBG_TRC_CFG_EN (t : Nat) : RF := ⟨DBG_TRC_CFG t, 0, 5⟩
abbrev DBG_TRC_CFG_CTX (t : Nat) : RF := ⟨DBG_TRC_CFG t, 8, 5⟩
abbrev DBG_TRC_CFG_SAMPLE (t : Nat) : RF := ⟨DBG_TRC_CFG t, 16, 8⟩
abbrev DBG_TRC_MEM_K (t : Nat) : RF := ⟨DBG_TRC_MEM t, 0, 14⟩
abbrev DBG_TRC_MEM_MEM_N (t : Nat) : RF := ⟨DBG_TRC_MEM t, 16, 4⟩
abbrev DBG_TRC_LOST_COUNT (t : Nat) : RF := ⟨DBG_TRC_LOST t, 0, 32⟩
abbrev DBG_CONF_COUNT (t n : Nat) : RF := ⟨DBG_CONF t n, 0, 32⟩
abbrev POD_CTRL_SCRUB_EN (p : Nat) : RF := ⟨POD_CTRL p, 0, 1⟩
abbrev POD_CTRL_CONF_CLR (p : Nat) : RF := ⟨POD_CTRL p, 1, 1⟩
abbrev POD_STATUS_CE (p : Nat) : RF := ⟨POD_STATUS p, 0, 1⟩
abbrev POD_STATUS_UE (p : Nat) : RF := ⟨POD_STATUS p, 1, 1⟩
abbrev POD_STATUS_LAST_BANK (p : Nat) : RF := ⟨POD_STATUS p, 8, 5⟩
abbrev POD_STATUS_LAST_ROW (p : Nat) : RF := ⟨POD_STATUS p, 16, 9⟩
abbrev POD_ECC_CE_COUNT (p : Nat) : RF := ⟨POD_ECC_CE p, 0, 32⟩
abbrev POD_ECC_UE_COUNT (p : Nat) : RF := ⟨POD_ECC_UE p, 0, 32⟩
abbrev POD_SCRUB_PASS_COUNT (p : Nat) : RF := ⟨POD_SCRUB_PASS p, 0, 32⟩
abbrev POD_CONF_COUNT (p n : Nat) : RF := ⟨POD_CONF p n, 0, 32⟩
abbrev POD_BIST_STAT_DONE (p : Nat) : RF := ⟨POD_BIST_STAT p, 0, 1⟩
abbrev POD_BIST_STAT_PASS (p : Nat) : RF := ⟨POD_BIST_STAT p, 1, 1⟩
abbrev POD_BIST_BANKS_FAIL (p : Nat) : RF := ⟨POD_BIST_BANKS p, 0, 32⟩
abbrev POD_LTT_PHYS0 (p n : Nat) : RF := ⟨POD_LTT p n, 0, 11⟩
abbrev POD_LTT_VALID0 (p n : Nat) : RF := ⟨POD_LTT p n, 15, 1⟩
abbrev POD_LTT_PHYS1 (p n : Nat) : RF := ⟨POD_LTT p n, 16, 11⟩
abbrev POD_LTT_VALID1 (p n : Nat) : RF := ⟨POD_LTT p n, 31, 1⟩
abbrev DDR_CTRL_EN (u : Nat) : RF := ⟨DDR_CTRL u, 0, 1⟩
abbrev DDR_CTRL_RATE (u : Nat) : RF := ⟨DDR_CTRL u, 1, 2⟩
abbrev DDR_CTRL_DENSITY (u : Nat) : RF := ⟨DDR_CTRL u, 3, 1⟩
abbrev DDR_CTRL_RANKS (u : Nat) : RF := ⟨DDR_CTRL u, 4, 1⟩
abbrev DDR_STATUS_TRAINED (u : Nat) : RF := ⟨DDR_STATUS u, 0, 4⟩
abbrev DDR_STATUS_SELF_REFRESH (u : Nat) : RF := ⟨DDR_STATUS u, 4, 1⟩
abbrev DDR_STATUS_FILLING (u : Nat) : RF := ⟨DDR_STATUS u, 5, 1⟩
abbrev DDR_SCRUB_CFG_EN (u : Nat) : RF := ⟨DDR_SCRUB_CFG u, 0, 1⟩
abbrev DDR_SCRUB_CFG_PERIOD (u : Nat) : RF := ⟨DDR_SCRUB_CFG u, 8, 8⟩
abbrev DDR_SCRUB_CFG_FULL (u : Nat) : RF := ⟨DDR_SCRUB_CFG u, 16, 1⟩
abbrev DDR_MGR_LAT_NS (u : Nat) : RF := ⟨DDR_MGR_LAT u, 0, 16⟩
abbrev DDR_MAP_CTRL_REFORM (u : Nat) : RF := ⟨DDR_MAP_CTRL u, 0, 1⟩
abbrev DDR_MAP_STAT_LIVE (u : Nat) : RF := ⟨DDR_MAP_STAT u, 0, 16⟩
abbrev DDR_MAP_STAT_SLICES (u : Nat) : RF := ⟨DDR_MAP_STAT u, 16, 8⟩
abbrev DDR_MAP_STAT_CFG_ERR (u : Nat) : RF := ⟨DDR_MAP_STAT u, 31, 1⟩
abbrev DDR_SUB_STAT_RETIRED (u n : Nat) : RF := ⟨DDR_SUB_STAT u n, 0, 1⟩
abbrev DDR_SUB_STAT_SPARES_USED (u n : Nat) : RF := ⟨DDR_SUB_STAT u n, 8, 9⟩
abbrev DDR_SUB_STAT_LAST_DEV (u n : Nat) : RF := ⟨DDR_SUB_STAT u n, 20, 3⟩
abbrev DDR_SUB_CE_COUNT (u n : Nat) : RF := ⟨DDR_SUB_CE u n, 0, 32⟩
abbrev DDR_SUB_RETRY_COUNT (u n : Nat) : RF := ⟨DDR_SUB_RETRY u n, 0, 32⟩
abbrev DDR_SUB_UE_COUNT (u n : Nat) : RF := ⟨DDR_SUB_UE u n, 0, 32⟩
abbrev DDR_SUB_LAST_LO_ADDR (u n : Nat) : RF := ⟨DDR_SUB_LAST_LO u n, 0, 32⟩
abbrev DDR_SUB_LAST_HI_ADDR (u n : Nat) : RF := ⟨DDR_SUB_LAST_HI u n, 0, 32⟩
abbrev DDR_SUB_DEVCORR_COUNT (u n : Nat) : RF := ⟨DDR_SUB_DEVCORR u n, 0, 32⟩
abbrev DDR_SUB_SCRUB_PASSES (u n : Nat) : RF := ⟨DDR_SUB_SCRUB u n, 0, 32⟩
abbrev DDR_SUB_RETIRE_GO (u n : Nat) : RF := ⟨DDR_SUB_RETIRE u n, 0, 1⟩
abbrev DDR_SPARE_PAGE (u n : Nat) : RF := ⟨DDR_SPARE u n, 0, 22⟩
abbrev DDR_SPARE_VALID (u n : Nat) : RF := ⟨DDR_SPARE u n, 31, 1⟩
abbrev DDR_TRN_CTRL_STEP (u n : Nat) : RF := ⟨DDR_TRN_CTRL u n, 0, 4⟩
abbrev DDR_TRN_CTRL_RANK (u n : Nat) : RF := ⟨DDR_TRN_CTRL u n, 4, 1⟩
abbrev DDR_TRN_CTRL_GO (u n : Nat) : RF := ⟨DDR_TRN_CTRL u n, 31, 1⟩
abbrev DDR_TRN_STAT_BUSY (u n : Nat) : RF := ⟨DDR_TRN_STAT u n, 0, 1⟩
abbrev DDR_TRN_STAT_PASS (u n : Nat) : RF := ⟨DDR_TRN_STAT u n, 1, 1⟩
abbrev DDR_TRN_STAT_LAST_STEP (u n : Nat) : RF := ⟨DDR_TRN_STAT u n, 4, 4⟩
abbrev DDR_TRN_STAT_FAIL_LANE (u n : Nat) : RF := ⟨DDR_TRN_STAT u n, 8, 6⟩
abbrev DDR_TRN_MR_ADDR (u n : Nat) : RF := ⟨DDR_TRN_MR u n, 0, 8⟩
abbrev DDR_TRN_MR_DATA (u n : Nat) : RF := ⟨DDR_TRN_MR u n, 8, 8⟩
abbrev DDR_TRN_MR_RANK (u n : Nat) : RF := ⟨DDR_TRN_MR u n, 16, 1⟩
abbrev DDR_TRN_MR_DEV (u n : Nat) : RF := ⟨DDR_TRN_MR u n, 17, 3⟩
abbrev DDR_TRN_MR_WRITE (u n : Nat) : RF := ⟨DDR_TRN_MR u n, 30, 1⟩
abbrev DDR_TRN_MR_GO (u n : Nat) : RF := ⟨DDR_TRN_MR u n, 31, 1⟩
abbrev DDR_TRN_VREF_DQ (u n : Nat) : RF := ⟨DDR_TRN_VREF u n, 0, 8⟩
abbrev DDR_TRN_VREF_CA (u n : Nat) : RF := ⟨DDR_TRN_VREF u n, 8, 8⟩
abbrev DDR_TRN_DLY0_WR (u n : Nat) : RF := ⟨DDR_TRN_DLY0 u n, 0, 10⟩
abbrev DDR_TRN_DLY0_RD (u n : Nat) : RF := ⟨DDR_TRN_DLY0 u n, 16, 10⟩
abbrev DDR_TRN_DLY1_WR (u n : Nat) : RF := ⟨DDR_TRN_DLY1 u n, 0, 10⟩
abbrev DDR_TRN_DLY1_RD (u n : Nat) : RF := ⟨DDR_TRN_DLY1 u n, 16, 10⟩
abbrev DDR_TRN_DLY2_WR (u n : Nat) : RF := ⟨DDR_TRN_DLY2 u n, 0, 10⟩
abbrev DDR_TRN_DLY2_RD (u n : Nat) : RF := ⟨DDR_TRN_DLY2 u n, 16, 10⟩
abbrev DDR_TRN_DLY3_WR (u n : Nat) : RF := ⟨DDR_TRN_DLY3 u n, 0, 10⟩
abbrev DDR_TRN_DLY3_RD (u n : Nat) : RF := ⟨DDR_TRN_DLY3 u n, 16, 10⟩
abbrev DDR_MT_CTRL_GO (u : Nat) : RF := ⟨DDR_MT_CTRL u, 0, 1⟩
abbrev DDR_MT_CTRL_ABORT (u : Nat) : RF := ⟨DDR_MT_CTRL u, 1, 1⟩
abbrev DDR_MT_CTRL_MARCH (u : Nat) : RF := ⟨DDR_MT_CTRL u, 2, 1⟩
abbrev DDR_MT_CTRL_RET (u : Nat) : RF := ⟨DDR_MT_CTRL u, 3, 2⟩
abbrev DDR_MT_CTRL_STRETCH (u : Nat) : RF := ⟨DDR_MT_CTRL u, 5, 2⟩
abbrev DDR_MT_CTRL_HOLD (u : Nat) : RF := ⟨DDR_MT_CTRL u, 8, 16⟩
abbrev DDR_MT_STAT_BUSY (u : Nat) : RF := ⟨DDR_MT_STAT u, 0, 1⟩
abbrev DDR_MT_STAT_PHASE (u : Nat) : RF := ⟨DDR_MT_STAT u, 4, 3⟩
abbrev DDR_MT_ERR_COUNT (u : Nat) : RF := ⟨DDR_MT_ERR u, 0, 32⟩
abbrev DDR_MT_POS_LO_BYTES (u : Nat) : RF := ⟨DDR_MT_POS_LO u, 0, 32⟩
abbrev DDR_MT_POS_HI_BYTES (u : Nat) : RF := ⟨DDR_MT_POS_HI u, 0, 32⟩
abbrev FLT_CTRL_AUTO : RF := ⟨FLT_CTRL, 0, 1⟩
abbrev FLT_STATUS_REMAP : RF := ⟨FLT_STATUS, 0, 1⟩
abbrev FLT_STATUS_CFG_ERR : RF := ⟨FLT_STATUS, 1, 1⟩
abbrev FLT_RPT_SUSPECT_ID : RF := ⟨FLT_RPT_SUSPECT, 0, 20⟩
abbrev FLT_RPT_COUNT_COUNT : RF := ⟨FLT_RPT_COUNT, 0, 32⟩
abbrev FLT_RPT_STEP_STEP : RF := ⟨FLT_RPT_STEP, 0, 32⟩
abbrev FLT_RPT_VERDICT_V : RF := ⟨FLT_RPT_VERDICT, 0, 2⟩
abbrev FLT_THR_PARTNER_N : RF := ⟨FLT_THR_PARTNER, 0, 16⟩
abbrev FLT_LOG_BASE_OFFSET : RF := ⟨FLT_LOG_BASE, 0, 22⟩
abbrev FLT_LOG_LEN_N : RF := ⟨FLT_LOG_LEN, 0, 13⟩
abbrev FLT_LOG_HEAD_NUMBER : RF := ⟨FLT_LOG_HEAD, 0, 32⟩
abbrev FLT_LOG_LOST_COUNT : RF := ⟨FLT_LOG_LOST, 0, 32⟩
abbrev FLT_LOG_APP0_DATA : RF := ⟨FLT_LOG_APP0, 0, 32⟩
abbrev FLT_LOG_APP1_DATA : RF := ⟨FLT_LOG_APP1, 0, 32⟩
abbrev FLT_LOG_APP2_DATA : RF := ⟨FLT_LOG_APP2, 0, 32⟩
abbrev FLT_LOG_APP3_DATA : RF := ⟨FLT_LOG_APP3, 0, 32⟩
abbrev FLT_LOG_APP4_DATA : RF := ⟨FLT_LOG_APP4, 0, 32⟩
abbrev FLT_LOG_APP5_DATA : RF := ⟨FLT_LOG_APP5, 0, 32⟩
abbrev FLT_LOG_APP6_DATA : RF := ⟨FLT_LOG_APP6, 0, 32⟩
abbrev FLT_LOG_APP7_GO : RF := ⟨FLT_LOG_APP7, 0, 1⟩
abbrev FLT_LOG_APP7_STATUS : RF := ⟨FLT_LOG_APP7, 8, 4⟩
abbrev FLT_REMAP_CTRL_LTILE : RF := ⟨FLT_REMAP_CTRL, 0, 10⟩
abbrev FLT_REMAP_CTRL_GO : RF := ⟨FLT_REMAP_CTRL, 31, 1⟩
abbrev FLT_REMAP_STAT_PHASE : RF := ⟨FLT_REMAP_STAT, 0, 4⟩
abbrev FLT_REMAP_STAT_LTILE : RF := ⟨FLT_REMAP_STAT, 16, 10⟩
abbrev FLT_REMAP_SPARE_PHYS : RF := ⟨FLT_REMAP_SPARE, 0, 11⟩
abbrev FLT_REMAP_AGE_AGE : RF := ⟨FLT_REMAP_AGE, 0, 16⟩
abbrev FLT_REMAP_AGE_MISSED : RF := ⟨FLT_REMAP_AGE, 16, 16⟩
abbrev FLT_REMAP_TIME_US : RF := ⟨FLT_REMAP_TIME, 0, 20⟩
abbrev FLT_SB_OFF_OFFSET : RF := ⟨FLT_SB_OFF, 0, 19⟩
abbrev FLT_SB_LEN_BYTES : RF := ⟨FLT_SB_LEN, 0, 19⟩
abbrev FLT_CKPT_BASE_LO_ADDR : RF := ⟨FLT_CKPT_BASE_LO, 0, 32⟩
abbrev FLT_CKPT_BASE_HI_ADDR : RF := ⟨FLT_CKPT_BASE_HI, 0, 32⟩
abbrev FLT_CKPT_STRIDE_BYTES : RF := ⟨FLT_CKPT_STRIDE, 0, 32⟩
abbrev FLT_FENCE_BITS (n : Nat) : RF := ⟨FLT_FENCE n, 0, 32⟩
abbrev FLT_MSRAM_STATUS_CE : RF := ⟨FLT_MSRAM_STATUS, 0, 1⟩
abbrev FLT_MSRAM_STATUS_UE : RF := ⟨FLT_MSRAM_STATUS, 1, 1⟩
abbrev FLT_MSRAM_STATUS_LAST_BANK : RF := ⟨FLT_MSRAM_STATUS, 8, 5⟩
abbrev FLT_MSRAM_STATUS_LAST_ROW : RF := ⟨FLT_MSRAM_STATUS, 16, 13⟩
abbrev FLT_MSRAM_CE_COUNT : RF := ⟨FLT_MSRAM_CE, 0, 32⟩
abbrev FLT_MSRAM_UE_COUNT : RF := ⟨FLT_MSRAM_UE, 0, 32⟩
abbrev FLT_BIST_CTRL_GO : RF := ⟨FLT_BIST_CTRL, 0, 1⟩
abbrev FLT_BIST_CTRL_DONE : RF := ⟨FLT_BIST_CTRL, 1, 1⟩
abbrev FLT_BIST_CTRL_FAILED : RF := ⟨FLT_BIST_CTRL, 2, 11⟩
abbrev FLT_WDOG_TMO_MS : RF := ⟨FLT_WDOG_TMO, 0, 16⟩
abbrev FLT_WDOG_KICK_VALUE : RF := ⟨FLT_WDOG_KICK, 0, 16⟩
abbrev FLT_WDOG_STAT_EXPIRED : RF := ⟨FLT_WDOG_STAT, 0, 1⟩
abbrev FLT_WDOG_STAT_HALF : RF := ⟨FLT_WDOG_STAT, 1, 1⟩
abbrev FLT_WDOG_STAT_BADKICK : RF := ⟨FLT_WDOG_STAT, 16, 16⟩
abbrev FLT_WDOG_REMAIN_MS : RF := ⟨FLT_WDOG_REMAIN, 0, 16⟩
abbrev SEC_HUSK_STAT_VALID : RF := ⟨SEC_HUSK_STAT, 0, 1⟩
abbrev SEC_HUSK_STAT_WIPING : RF := ⟨SEC_HUSK_STAT, 1, 1⟩
abbrev SEC_HUSK_STAT_LAST_CAUSE : RF := ⟨SEC_HUSK_STAT, 4, 3⟩
abbrev SEC_HUSK_STAT_SEAL_PEND : RF := ⟨SEC_HUSK_STAT, 8, 1⟩
abbrev SEC_HUSK_CTRL_LOCKOUT_WIPE : RF := ⟨SEC_HUSK_CTRL, 0, 1⟩
abbrev SEC_HUSK_CTRL_SEAL_GAP : RF := ⟨SEC_HUSK_CTRL, 8, 16⟩
abbrev SEC_HUSK_WIPE_GO : RF := ⟨SEC_HUSK_WIPE, 0, 1⟩
abbrev SEC_HUSK_WIPE_CNT_COUNT : RF := ⟨SEC_HUSK_WIPE_CNT, 0, 16⟩
abbrev SEC_HUSK_WIPE_TB_LO_VALUE : RF := ⟨SEC_HUSK_WIPE_TB_LO, 0, 32⟩
abbrev SEC_HUSK_WIPE_TB_HI_VALUE : RF := ⟨SEC_HUSK_WIPE_TB_HI, 0, 32⟩
abbrev SEC_SEAL_CTRL_SEAL : RF := ⟨SEC_SEAL_CTRL, 0, 1⟩
abbrev SEC_CLEAR_STAT_DONE : RF := ⟨SEC_CLEAR_STAT, 0, 1⟩
abbrev SEC_CLEAR_STAT_US : RF := ⟨SEC_CLEAR_STAT, 16, 9⟩
abbrev SEC_TRAIN_CTRL_SEAL : RF := ⟨SEC_TRAIN_CTRL, 0, 1⟩
abbrev SEC_TRAIN_CTRL_CHECK : RF := ⟨SEC_TRAIN_CTRL, 1, 1⟩
abbrev SEC_TRAIN_CTRL_VALID : RF := ⟨SEC_TRAIN_CTRL, 2, 1⟩
abbrev SEC_TRAIN_CTRL_BUSY : RF := ⟨SEC_TRAIN_CTRL, 3, 1⟩
abbrev SEC_LOGIN_CTRL_SLOT : RF := ⟨SEC_LOGIN_CTRL, 0, 3⟩
abbrev SEC_LOGIN_CTRL_ROLE : RF := ⟨SEC_LOGIN_CTRL, 4, 2⟩
abbrev SEC_LOGIN_CTRL_CMD : RF := ⟨SEC_LOGIN_CTRL, 8, 2⟩
abbrev SEC_LOGIN_CHAL_LO_VALUE : RF := ⟨SEC_LOGIN_CHAL_LO, 0, 32⟩
abbrev SEC_LOGIN_CHAL_HI_VALUE : RF := ⟨SEC_LOGIN_CHAL_HI, 0, 32⟩
abbrev SEC_LOGIN_RESP0_VALUE : RF := ⟨SEC_LOGIN_RESP0, 0, 32⟩
abbrev SEC_LOGIN_RESP1_VALUE : RF := ⟨SEC_LOGIN_RESP1, 0, 32⟩
abbrev SEC_LOGIN_RESP2_VALUE : RF := ⟨SEC_LOGIN_RESP2, 0, 16⟩
abbrev SEC_LOGIN_STAT_STATUS : RF := ⟨SEC_LOGIN_STAT, 0, 4⟩
abbrev SEC_LOGIN_STAT_VALID : RF := ⟨SEC_LOGIN_STAT, 31, 1⟩
abbrev SEC_IDLE_SECONDS : RF := ⟨SEC_IDLE, 0, 16⟩
abbrev SEC_SESS_ROLE (n : Nat) : RF := ⟨SEC_SESS n, 0, 2⟩
abbrev SEC_SESS_VALID (n : Nat) : RF := ⟨SEC_SESS n, 2, 1⟩
abbrev SEC_LOCK_FAILS (n : Nat) : RF := ⟨SEC_LOCK n, 0, 5⟩
abbrev SEC_LOCK_LOCKED (n : Nat) : RF := ⟨SEC_LOCK n, 5, 1⟩
abbrev SEC_LOCK_REMAIN (n : Nat) : RF := ⟨SEC_LOCK n, 8, 24⟩
abbrev SEC_AUTH_ADDR_LO_VALUE : RF := ⟨SEC_AUTH_ADDR_LO, 0, 32⟩
abbrev SEC_AUTH_ADDR_HI_VALUE : RF := ⟨SEC_AUTH_ADDR_HI, 0, 8⟩
abbrev SEC_AUTH_DATA_VALUE : RF := ⟨SEC_AUTH_DATA, 0, 32⟩
abbrev SEC_AUTH_GO_SLOT : RF := ⟨SEC_AUTH_GO, 0, 3⟩
abbrev SEC_AUTH_GO_GO : RF := ⟨SEC_AUTH_GO, 8, 1⟩
abbrev SEC_AUTH_GO_STATUS : RF := ⟨SEC_AUTH_GO, 16, 4⟩
abbrev SEC_AUDIT_APP0_OBJ : RF := ⟨SEC_AUDIT_APP0, 0, 32⟩
abbrev SEC_AUDIT_APP1_SLOT : RF := ⟨SEC_AUDIT_APP1, 0, 3⟩
abbrev SEC_AUDIT_APP1_STATUS : RF := ⟨SEC_AUDIT_APP1, 8, 4⟩
abbrev SEC_AUDIT_APP2_OLD : RF := ⟨SEC_AUDIT_APP2, 0, 24⟩
abbrev SEC_AUDIT_APP3_NEW : RF := ⟨SEC_AUDIT_APP3, 0, 24⟩
abbrev SEC_AUDIT_HEAD_SEQ : RF := ⟨SEC_AUDIT_HEAD, 0, 24⟩
abbrev SEC_AUDIT_STAT_HELD : RF := ⟨SEC_AUDIT_STAT, 0, 13⟩
abbrev SEC_AUDIT_STAT_LOST : RF := ⟨SEC_AUDIT_STAT, 16, 16⟩
abbrev SEC_LC_STATE : RF := ⟨SEC_LC, 0, 2⟩
abbrev SEC_LC_USED : RF := ⟨SEC_LC, 8, 5⟩
abbrev SEC_FUSE_STAT_DONE : RF := ⟨SEC_FUSE_STAT, 0, 1⟩
abbrev SEC_FUSE_STAT_ERR : RF := ⟨SEC_FUSE_STAT, 1, 1⟩
abbrev SEC_FUSE_STAT_ERR_WORD : RF := ⟨SEC_FUSE_STAT, 8, 8⟩
abbrev SEC_FUSE_VARIANT_CODE : RF := ⟨SEC_FUSE_VARIANT, 0, 8⟩
abbrev SEC_FUSE_VARIANT_CLK : RF := ⟨SEC_FUSE_VARIANT, 8, 10⟩
abbrev SEC_FUSE_VARIANT_PWR : RF := ⟨SEC_FUSE_VARIANT, 20, 8⟩
abbrev SEC_FUSE_REV_REV : RF := ⟨SEC_FUSE_REV, 0, 8⟩
abbrev SEC_FUSE_SERIAL_LO_VALUE : RF := ⟨SEC_FUSE_SERIAL_LO, 0, 32⟩
abbrev SEC_FUSE_SERIAL_HI_VALUE : RF := ⟨SEC_FUSE_SERIAL_HI, 0, 32⟩
abbrev SEC_FUSE_DEFECT_MAP (n : Nat) : RF := ⟨SEC_FUSE_DEFECT n, 0, 32⟩
abbrev SEC_FW_CTRL_CMD : RF := ⟨SEC_FW_CTRL, 0, 3⟩
abbrev SEC_FW_CTRL_GO : RF := ⟨SEC_FW_CTRL, 31, 1⟩
abbrev SEC_FW_CTRL_STATUS : RF := ⟨SEC_FW_CTRL, 8, 4⟩
abbrev SEC_FW_STAT_ACTIVE : RF := ⟨SEC_FW_STAT, 0, 1⟩
abbrev SEC_FW_STAT_TRIAL : RF := ⟨SEC_FW_STAT, 1, 1⟩
abbrev SEC_FW_STAT_PREV_VALID : RF := ⟨SEC_FW_STAT, 2, 1⟩
abbrev SEC_FW_STAT_PAIR : RF := ⟨SEC_FW_STAT, 3, 1⟩
abbrev SEC_FW_STAT_STBY_RUN : RF := ⟨SEC_FW_STAT, 4, 1⟩
abbrev SEC_FW_STAT_INACTIVE_OPEN : RF := ⟨SEC_FW_STAT, 5, 1⟩
abbrev SEC_FW_STAT_FB_CAUSE : RF := ⟨SEC_FW_STAT, 8, 3⟩
abbrev SEC_FW_DIR_GEN_GEN : RF := ⟨SEC_FW_DIR_GEN, 0, 32⟩
abbrev SEC_FW_HREC_ADDR : RF := ⟨SEC_FW_HREC, 0, 24⟩
abbrev SEC_SIG_CTRL_REGION : RF := ⟨SEC_SIG_CTRL, 0, 1⟩
abbrev SEC_SIG_CTRL_GO : RF := ⟨SEC_SIG_CTRL, 31, 1⟩
abbrev SEC_SIG_STAT_BUSY : RF := ⟨SEC_SIG_STAT, 0, 1⟩
abbrev SEC_SIG_STAT_VALID : RF := ⟨SEC_SIG_STAT, 1, 1⟩
abbrev SEC_SIG_STAT_FAIL : RF := ⟨SEC_SIG_STAT, 4, 3⟩
abbrev SEC_BOOT_STAT_CODE : RF := ⟨SEC_BOOT_STAT, 0, 4⟩
abbrev SEC_BOOT_STAT_SLOT : RF := ⟨SEC_BOOT_STAT, 4, 1⟩
abbrev SEC_FB_TIMER_SECONDS : RF := ⟨SEC_FB_TIMER, 0, 12⟩
abbrev SEC_FB_TIMER_ARMED : RF := ⟨SEC_FB_TIMER, 31, 1⟩
abbrev SEC_FB_REMAIN_TICKS : RF := ⟨SEC_FB_REMAIN, 0, 27⟩
abbrev SEN_CTRL_EN : RF := ⟨SEN_CTRL, 0, 1⟩
abbrev SEN_CTRL_CAPTURE : RF := ⟨SEN_CTRL, 1, 1⟩
abbrev SEN_STATUS_CAP_FULL : RF := ⟨SEN_STATUS, 0, 1⟩
abbrev SEN_STATUS_CFG_ERR : RF := ⟨SEN_STATUS, 1, 1⟩
abbrev SEN_WE_THR_CFG_MD : RF := ⟨SEN_WE_THR_CFG, 0, 4⟩
abbrev SEN_WE_THR_CFG_AI_STEP : RF := ⟨SEN_WE_THR_CFG, 4, 8⟩
abbrev SEN_WE_THR_CFG_AI_PERIOD : RF := ⟨SEN_WE_THR_CFG, 16, 12⟩
abbrev SEN_WE_THR_HOLD_MIN : RF := ⟨SEN_WE_THR_HOLD, 0, 9⟩
abbrev SEN_WE_THR_HOLD_DEC_HOLD : RF := ⟨SEN_WE_THR_HOLD, 16, 16⟩
abbrev SEN_WE_RATE_RATE (n : Nat) : RF := ⟨SEN_WE_RATE n, 0, 9⟩
abbrev SEN_WE_RATE_TOKENS (n : Nat) : RF := ⟨SEN_WE_RATE n, 16, 3⟩
abbrev SEN_CAP_BASE_LO_ADDR : RF := ⟨SEN_CAP_BASE_LO, 0, 32⟩
abbrev SEN_CAP_BASE_HI_ADDR : RF := ⟨SEN_CAP_BASE_HI, 0, 32⟩
abbrev SEN_CAP_LEN_ENTRIES : RF := ⟨SEN_CAP_LEN, 0, 32⟩
abbrev SEN_CAP_WR_ENTRIES : RF := ⟨SEN_CAP_WR, 0, 32⟩
abbrev SEN_CTX_CTRL_EN (n : Nat) : RF := ⟨SEN_CTX_CTRL n, 0, 1⟩
abbrev SEN_CTX_CTRL_ENC (n : Nat) : RF := ⟨SEN_CTX_CTRL n, 1, 3⟩
abbrev SEN_CTX_CTRL_POL_SPLIT (n : Nat) : RF := ⟨SEN_CTX_CTRL n, 4, 1⟩
abbrev SEN_CTX_CTRL_LUT_EN (n : Nat) : RF := ⟨SEN_CTX_CTRL n, 5, 1⟩
abbrev SEN_CTX_CTRL_GRADED (n : Nat) : RF := ⟨SEN_CTX_CTRL n, 6, 1⟩
abbrev SEN_CTX_CTRL_DELAY (n : Nat) : RF := ⟨SEN_CTX_CTRL n, 8, 6⟩
abbrev SEN_CTX_CTRL_ROW (n : Nat) : RF := ⟨SEN_CTX_CTRL n, 16, 5⟩
abbrev SEN_CTX_BIND_CODE (n : Nat) : RF := ⟨SEN_CTX_BIND n, 0, 16⟩
abbrev SEN_CTX_AXON_AXON_BASE (n : Nat) : RF := ⟨SEN_CTX_AXON n, 0, 24⟩
abbrev SEN_CTX_MCAST_MC_BASE (n : Nat) : RF := ⟨SEN_CTX_MCAST n, 0, 12⟩
abbrev SEN_CTX_MCAST_MC_SHIFT (n : Nat) : RF := ⟨SEN_CTX_MCAST n, 12, 4⟩
abbrev SEN_CTX_P0_TH (n : Nat) : RF := ⟨SEN_CTX_P0 n, 0, 16⟩
abbrev SEN_CTX_P1_MUL (n : Nat) : RF := ⟨SEN_CTX_P1 n, 0, 8⟩
abbrev SEN_CTX_P1_SH (n : Nat) : RF := ⟨SEN_CTX_P1 n, 8, 4⟩
abbrev SEN_CTX_P1_OFF (n : Nat) : RF := ⟨SEN_CTX_P1 n, 16, 16⟩
abbrev SEN_CTX_ROI0_X0 (n : Nat) : RF := ⟨SEN_CTX_ROI0 n, 0, 12⟩
abbrev SEN_CTX_ROI0_Y0 (n : Nat) : RF := ⟨SEN_CTX_ROI0 n, 16, 12⟩
abbrev SEN_CTX_ROI1_W (n : Nat) : RF := ⟨SEN_CTX_ROI1 n, 0, 13⟩
abbrev SEN_CTX_ROI1_H (n : Nat) : RF := ⟨SEN_CTX_ROI1 n, 16, 13⟩
abbrev SEN_CTX_ROI1_BIN (n : Nat) : RF := ⟨SEN_CTX_ROI1 n, 30, 2⟩
abbrev SEN_CTX_STATE_BASE_VALUE (n : Nat) : RF := ⟨SEN_CTX_STATE_BASE n, 4, 18⟩
abbrev SEN_CTX_STATE_LEN_VALUE (n : Nat) : RF := ⟨SEN_CTX_STATE_LEN n, 0, 22⟩
abbrev SEN_CTX_RING_BASE_VALUE (n : Nat) : RF := ⟨SEN_CTX_RING_BASE n, 4, 18⟩
abbrev SEN_CTX_RING_LEN_VALUE (n : Nat) : RF := ⟨SEN_CTX_RING_LEN n, 0, 16⟩
abbrev SEN_CTX_RATE_MAX (n : Nat) : RF := ⟨SEN_CTX_RATE n, 0, 16⟩
abbrev SEN_CTX_ACCEPT_COUNT (n : Nat) : RF := ⟨SEN_CTX_ACCEPT n, 0, 32⟩
abbrev SEN_CTX_DROP_RATE_COUNT (n : Nat) : RF := ⟨SEN_CTX_DROP_RATE n, 0, 32⟩
abbrev SEN_CTX_DROP_RING_COUNT (n : Nat) : RF := ⟨SEN_CTX_DROP_RING n, 0, 32⟩
abbrev SEN_CTX_DROP_OFF_COUNT (n : Nat) : RF := ⟨SEN_CTX_DROP_OFF n, 0, 32⟩
abbrev SEN_CTX_LATE_COUNT (n : Nat) : RF := ⟨SEN_CTX_LATE n, 0, 32⟩
abbrev SEN_CTX_RANGE_COUNT (n : Nat) : RF := ⟨SEN_CTX_RANGE n, 0, 32⟩
abbrev SEN_CTX_DROP_KIND_COUNT (n : Nat) : RF := ⟨SEN_CTX_DROP_KIND n, 0, 32⟩
abbrev SEN_CTX_STATUS_ERR (n : Nat) : RF := ⟨SEN_CTX_STATUS n, 0, 8⟩
abbrev SEN_CSI_CTRL_EN (n : Nat) : RF := ⟨SEN_CSI_CTRL n, 0, 1⟩
abbrev SEN_CSI_CTRL_LANES (n : Nat) : RF := ⟨SEN_CSI_CTRL n, 1, 2⟩
abbrev SEN_CSI_CTRL_DESKEW (n : Nat) : RF := ⟨SEN_CSI_CTRL n, 3, 1⟩
abbrev SEN_CSI_STATUS_STOP (n : Nat) : RF := ⟨SEN_CSI_STATUS n, 0, 5⟩
abbrev SEN_CSI_STATUS_TRUNC (n : Nat) : RF := ⟨SEN_CSI_STATUS n, 8, 1⟩
abbrev SEN_CSI_LAT_COUNTS (n : Nat) : RF := ⟨SEN_CSI_LAT n, 0, 16⟩
abbrev SEN_CSI_ECC_CORR_COUNT (n : Nat) : RF := ⟨SEN_CSI_ECC_CORR n, 0, 32⟩
abbrev SEN_CSI_LINE_DROP_COUNT (n : Nat) : RF := ⟨SEN_CSI_LINE_DROP n, 0, 32⟩
abbrev SEN_CSI_TYPE_DROP_COUNT (n : Nat) : RF := ⟨SEN_CSI_TYPE_DROP n, 0, 32⟩
abbrev SEN_CSI_FRAMES_COUNT (n : Nat) : RF := ⟨SEN_CSI_FRAMES n, 0, 32⟩
abbrev SEN_ETH_CTRL_EN (n : Nat) : RF := ⟨SEN_ETH_CTRL n, 0, 1⟩
abbrev SEN_ETH_STATUS_LINK (n : Nat) : RF := ⟨SEN_ETH_STATUS n, 0, 1⟩
abbrev SEN_ETH_MAC_LO_VALUE (n : Nat) : RF := ⟨SEN_ETH_MAC_LO n, 0, 32⟩
abbrev SEN_ETH_MAC_HI_VALUE (n : Nat) : RF := ⟨SEN_ETH_MAC_HI n, 0, 16⟩
abbrev SEN_ETH_IP_VALUE (n : Nat) : RF := ⟨SEN_ETH_IP n, 0, 32⟩
abbrev SEN_ETH_RX_DROP_COUNT (n : Nat) : RF := ⟨SEN_ETH_RX_DROP n, 0, 32⟩
abbrev SEN_ETH_CRC_ERR_COUNT (n : Nat) : RF := ⟨SEN_ETH_CRC_ERR n, 0, 32⟩
abbrev SEN_ETH_PAUSE_COUNT (n : Nat) : RF := ⟨SEN_ETH_PAUSE n, 0, 32⟩
abbrev SEN_ETH_EPOCH_LO_NS (n : Nat) : RF := ⟨SEN_ETH_EPOCH_LO n, 0, 32⟩
abbrev SEN_ETH_EPOCH_HI_NS (n : Nat) : RF := ⟨SEN_ETH_EPOCH_HI n, 0, 32⟩
abbrev SEN_ETH_LAT_COUNTS (n : Nat) : RF := ⟨SEN_ETH_LAT n, 0, 16⟩
abbrev SEN_ETH_TS_CORR_RX (n : Nat) : RF := ⟨SEN_ETH_TS_CORR n, 0, 16⟩
abbrev SEN_ETH_TS_CORR_TX (n : Nat) : RF := ⟨SEN_ETH_TS_CORR n, 16, 16⟩
abbrev SEN_ETH_FWRX_BASE_VALUE (n : Nat) : RF := ⟨SEN_ETH_FWRX_BASE n, 0, 22⟩
abbrev SEN_ETH_FWRX_PTR_WR (n : Nat) : RF := ⟨SEN_ETH_FWRX_PTR n, 0, 5⟩
abbrev SEN_ETH_FWRX_PTR_RD (n : Nat) : RF := ⟨SEN_ETH_FWRX_PTR n, 16, 5⟩
abbrev SEN_ETH_FWTX_BASE_VALUE (n : Nat) : RF := ⟨SEN_ETH_FWTX_BASE n, 0, 22⟩
abbrev SEN_ETH_FWTX_PTR_WR (n : Nat) : RF := ⟨SEN_ETH_FWTX_PTR n, 0, 5⟩
abbrev SEN_ETH_FWTX_PTR_RD (n : Nat) : RF := ⟨SEN_ETH_FWTX_PTR n, 16, 5⟩
abbrev SEN_ETH_PTP_RX_LO_VALUE (n : Nat) : RF := ⟨SEN_ETH_PTP_RX_LO n, 0, 32⟩
abbrev SEN_ETH_PTP_RX_HI_VALUE (n : Nat) : RF := ⟨SEN_ETH_PTP_RX_HI n, 0, 32⟩
abbrev SEN_ETH_PTP_RX_INFO_SEQ (n : Nat) : RF := ⟨SEN_ETH_PTP_RX_INFO n, 0, 16⟩
abbrev SEN_ETH_PTP_RX_INFO_TYPE (n : Nat) : RF := ⟨SEN_ETH_PTP_RX_INFO n, 16, 4⟩
abbrev SEN_ETH_PTP_RX_INFO_DOMAIN (n : Nat) : RF := ⟨SEN_ETH_PTP_RX_INFO n, 20, 8⟩
abbrev SEN_ETH_PTP_RX_INFO_VALID (n : Nat) : RF := ⟨SEN_ETH_PTP_RX_INFO n, 31, 1⟩
abbrev SEN_ETH_PTP_TX_LO_VALUE (n : Nat) : RF := ⟨SEN_ETH_PTP_TX_LO n, 0, 32⟩
abbrev SEN_ETH_PTP_TX_HI_VALUE (n : Nat) : RF := ⟨SEN_ETH_PTP_TX_HI n, 0, 32⟩
abbrev SEN_ETH_PTP_TX_INFO_SEQ (n : Nat) : RF := ⟨SEN_ETH_PTP_TX_INFO n, 0, 16⟩
abbrev SEN_ETH_PTP_TX_INFO_TYPE (n : Nat) : RF := ⟨SEN_ETH_PTP_TX_INFO n, 16, 4⟩
abbrev SEN_ETH_PTP_TX_INFO_DOMAIN (n : Nat) : RF := ⟨SEN_ETH_PTP_TX_INFO n, 20, 8⟩
abbrev SEN_ETH_PTP_TX_INFO_VALID (n : Nat) : RF := ⟨SEN_ETH_PTP_TX_INFO n, 31, 1⟩
abbrev SEN_ETH_TS_LOST_COUNT (n : Nat) : RF := ⟨SEN_ETH_TS_LOST n, 0, 32⟩
abbrev SEN_ETH_LINK_DOWN_COUNT (n : Nat) : RF := ⟨SEN_ETH_LINK_DOWN n, 0, 32⟩
abbrev SEN_ETH_FLOW0_UDP (n : Nat) : RF := ⟨SEN_ETH_FLOW0 n, 0, 16⟩
abbrev SEN_ETH_FLOW0_KIND (n : Nat) : RF := ⟨SEN_ETH_FLOW0 n, 16, 2⟩
abbrev SEN_ETH_FLOW0_SRC_EN (n : Nat) : RF := ⟨SEN_ETH_FLOW0 n, 30, 1⟩
abbrev SEN_ETH_FLOW0_EN (n : Nat) : RF := ⟨SEN_ETH_FLOW0 n, 31, 1⟩
abbrev SEN_ETH_FLOW_SRC0_IP (n : Nat) : RF := ⟨SEN_ETH_FLOW_SRC0 n, 0, 32⟩
abbrev SEN_ETH_FLOW_LOST0_COUNT (n : Nat) : RF := ⟨SEN_ETH_FLOW_LOST0 n, 0, 32⟩
abbrev SEN_ETH_FLOW1_UDP (n : Nat) : RF := ⟨SEN_ETH_FLOW1 n, 0, 16⟩
abbrev SEN_ETH_FLOW1_KIND (n : Nat) : RF := ⟨SEN_ETH_FLOW1 n, 16, 2⟩
abbrev SEN_ETH_FLOW1_SRC_EN (n : Nat) : RF := ⟨SEN_ETH_FLOW1 n, 30, 1⟩
abbrev SEN_ETH_FLOW1_EN (n : Nat) : RF := ⟨SEN_ETH_FLOW1 n, 31, 1⟩
abbrev SEN_ETH_FLOW_SRC1_IP (n : Nat) : RF := ⟨SEN_ETH_FLOW_SRC1 n, 0, 32⟩
abbrev SEN_ETH_FLOW_LOST1_COUNT (n : Nat) : RF := ⟨SEN_ETH_FLOW_LOST1 n, 0, 32⟩
abbrev SEN_SEL_CTRL_EN (n : Nat) : RF := ⟨SEN_SEL_CTRL n, 0, 1⟩
abbrev SEN_SEL_CTRL_WAKE_EN (n : Nat) : RF := ⟨SEN_SEL_CTRL n, 1, 1⟩
abbrev SEN_SEL_CTRL_RETRAIN (n : Nat) : RF := ⟨SEN_SEL_CTRL n, 2, 1⟩
abbrev SEN_SEL_CTRL_SLEEP_REQ (n : Nat) : RF := ⟨SEN_SEL_CTRL n, 3, 1⟩
abbrev SEN_SEL_STATUS_STATE (n : Nat) : RF := ⟨SEN_SEL_STATUS n, 0, 3⟩
abbrev SEN_SEL_STATUS_TRAIN_FAIL (n : Nat) : RF := ⟨SEN_SEL_STATUS n, 3, 1⟩
abbrev SEN_SEL_STATUS_RXSEQ (n : Nat) : RF := ⟨SEN_SEL_STATUS n, 8, 8⟩
abbrev SEN_SEL_LAT_COUNTS (n : Nat) : RF := ⟨SEN_SEL_LAT n, 0, 16⟩
abbrev SEN_SEL_CODE_ERR_COUNT (n : Nat) : RF := ⟨SEN_SEL_CODE_ERR n, 0, 32⟩
abbrev SEN_SEL_CRC_ERR_COUNT (n : Nat) : RF := ⟨SEN_SEL_CRC_ERR n, 0, 32⟩
abbrev SEN_SEL_BUSY_COUNT (n : Nat) : RF := ⟨SEN_SEL_BUSY n, 0, 32⟩
abbrev SEN_SEL_RETRAIN_COUNT (n : Nat) : RF := ⟨SEN_SEL_RETRAIN n, 0, 32⟩
abbrev SEN_SEL_FRAMES_COUNT (n : Nat) : RF := ⟨SEN_SEL_FRAMES n, 0, 32⟩
abbrev SEN_SEL_NAK_TX_COUNT (n : Nat) : RF := ⟨SEN_SEL_NAK_TX n, 0, 32⟩
abbrev SEN_SEL_RETX_COUNT (n : Nat) : RF := ⟨SEN_SEL_RETX n, 0, 32⟩
abbrev SEN_SEL_CMD0_WORD (n : Nat) : RF := ⟨SEN_SEL_CMD0 n, 0, 32⟩
abbrev SEN_SEL_CMD1_WORD (n : Nat) : RF := ⟨SEN_SEL_CMD1 n, 0, 32⟩
abbrev SEN_SEL_CMD2_WORD (n : Nat) : RF := ⟨SEN_SEL_CMD2 n, 0, 32⟩
abbrev SEN_SEL_CMD3_WORD (n : Nat) : RF := ⟨SEN_SEL_CMD3 n, 0, 32⟩
abbrev SEN_SEL_CMD4_WORD (n : Nat) : RF := ⟨SEN_SEL_CMD4 n, 0, 32⟩
abbrev SEN_SEL_CMD5_WORD (n : Nat) : RF := ⟨SEN_SEL_CMD5 n, 0, 32⟩
abbrev SEN_SEL_CMD6_WORD (n : Nat) : RF := ⟨SEN_SEL_CMD6 n, 0, 32⟩
abbrev SEN_SEL_CMD7_WORD (n : Nat) : RF := ⟨SEN_SEL_CMD7 n, 0, 32⟩
abbrev SEN_SEL_CMD_CTRL_LEN (n : Nat) : RF := ⟨SEN_SEL_CMD_CTRL n, 0, 4⟩
abbrev SEN_SEL_CMD_CTRL_GO (n : Nat) : RF := ⟨SEN_SEL_CMD_CTRL n, 8, 1⟩
abbrev SEN_SEL_CMD_CTRL_DONE (n : Nat) : RF := ⟨SEN_SEL_CMD_CTRL n, 9, 1⟩
abbrev SEN_SEL_RSP0_WORD (n : Nat) : RF := ⟨SEN_SEL_RSP0 n, 0, 32⟩
abbrev SEN_SEL_RSP1_WORD (n : Nat) : RF := ⟨SEN_SEL_RSP1 n, 0, 32⟩
abbrev SEN_SEL_RSP2_WORD (n : Nat) : RF := ⟨SEN_SEL_RSP2 n, 0, 32⟩
abbrev SEN_SEL_RSP3_WORD (n : Nat) : RF := ⟨SEN_SEL_RSP3 n, 0, 32⟩
abbrev SEN_SEL_RSP4_WORD (n : Nat) : RF := ⟨SEN_SEL_RSP4 n, 0, 32⟩
abbrev SEN_SEL_RSP5_WORD (n : Nat) : RF := ⟨SEN_SEL_RSP5 n, 0, 32⟩
abbrev SEN_SEL_RSP6_WORD (n : Nat) : RF := ⟨SEN_SEL_RSP6 n, 0, 32⟩
abbrev SEN_SEL_RSP7_WORD (n : Nat) : RF := ⟨SEN_SEL_RSP7 n, 0, 32⟩
abbrev SEN_SEL_RSP_STAT_LEN (n : Nat) : RF := ⟨SEN_SEL_RSP_STAT n, 0, 4⟩
abbrev SEN_SEL_RSP_STAT_FULL (n : Nat) : RF := ⟨SEN_SEL_RSP_STAT n, 8, 1⟩
abbrev SEN_SEL_RSP_STAT_LOST (n : Nat) : RF := ⟨SEN_SEL_RSP_STAT n, 16, 16⟩
abbrev SEN_GPI_CFG_PRESCALE (n : Nat) : RF := ⟨SEN_GPI_CFG n, 0, 16⟩
abbrev SEN_GPI_CFG_FLT (n : Nat) : RF := ⟨SEN_GPI_CFG n, 16, 8⟩
abbrev SEN_GPI_CFG_ACTIVE_LOW (n : Nat) : RF := ⟨SEN_GPI_CFG n, 24, 1⟩
abbrev SEN_GPI_CFG_POLICY (n : Nat) : RF := ⟨SEN_GPI_CFG n, 25, 2⟩
abbrev SEN_GPI_STUCK_MS (n : Nat) : RF := ⟨SEN_GPI_STUCK n, 0, 16⟩
abbrev SEN_GPI_STAT_LEVEL (n : Nat) : RF := ⟨SEN_GPI_STAT n, 0, 1⟩
abbrev SEN_GPI_STAT_RAW (n : Nat) : RF := ⟨SEN_GPI_STAT n, 1, 1⟩
abbrev SEN_GPI_STAT_OVERRUN (n : Nat) : RF := ⟨SEN_GPI_STAT n, 2, 1⟩
abbrev SEN_GPI_STAT_STUCK (n : Nat) : RF := ⟨SEN_GPI_STAT n, 3, 1⟩
abbrev SEN_GPI_STAT_GATE (n : Nat) : RF := ⟨SEN_GPI_STAT n, 4, 1⟩
abbrev SEN_GPI_LEVELS_BITS : RF := ⟨SEN_GPI_LEVELS, 0, 32⟩
abbrev SEN_LTT_PHYS0 (n : Nat) : RF := ⟨SEN_LTT n, 0, 11⟩
abbrev SEN_LTT_VALID0 (n : Nat) : RF := ⟨SEN_LTT n, 15, 1⟩
abbrev SEN_LTT_PHYS1 (n : Nat) : RF := ⟨SEN_LTT n, 16, 11⟩
abbrev SEN_LTT_VALID1 (n : Nat) : RF := ⟨SEN_LTT n, 31, 1⟩
abbrev MGR_Q_CTRL_EN : RF := ⟨MGR_Q_CTRL, 0, 1⟩
abbrev MGR_Q_CTRL_GAP_SCAN : RF := ⟨MGR_Q_CTRL, 8, 8⟩
abbrev MGR_Q_STATUS_CFG_ERR : RF := ⟨MGR_Q_STATUS, 0, 1⟩
abbrev MGR_Q_STATUS_GAP : RF := ⟨MGR_Q_STATUS, 1, 1⟩
abbrev MGR_Q_STATUS_LAST_GAP : RF := ⟨MGR_Q_STATUS, 16, 10⟩
abbrev MGR_Q_CMD_OP : RF := ⟨MGR_Q_CMD, 0, 3⟩
abbrev MGR_Q_CMD_IDX : RF := ⟨MGR_Q_CMD, 16, 10⟩
abbrev MGR_Q_CMD_RESULT_STATUS : RF := ⟨MGR_Q_CMD_RESULT, 0, 4⟩
abbrev MGR_Q_CMD_RESULT_VALID : RF := ⟨MGR_Q_CMD_RESULT, 31, 1⟩
abbrev MGR_Q_TXBUF0_DATA : RF := ⟨MGR_Q_TXBUF0, 0, 32⟩
abbrev MGR_Q_TXBUF1_DATA : RF := ⟨MGR_Q_TXBUF1, 0, 32⟩
abbrev MGR_Q_TXBUF2_DATA : RF := ⟨MGR_Q_TXBUF2, 0, 32⟩
abbrev MGR_Q_TXBUF3_DATA : RF := ⟨MGR_Q_TXBUF3, 0, 32⟩
abbrev MGR_Q_SEND_IDX : RF := ⟨MGR_Q_SEND, 0, 10⟩
abbrev MGR_Q_SEND_RESULT_STATUS : RF := ⟨MGR_Q_SEND_RESULT, 0, 4⟩
abbrev MGR_Q_SEND_RESULT_FIFO_FULL : RF := ⟨MGR_Q_SEND_RESULT, 4, 1⟩
abbrev MGR_Q_SEND_RESULT_SEQ : RF := ⟨MGR_Q_SEND_RESULT, 8, 12⟩
abbrev MGR_Q_SEND_RESULT_IDX : RF := ⟨MGR_Q_SEND_RESULT, 20, 10⟩
abbrev MGR_Q_SEND_RESULT_VALID : RF := ⟨MGR_Q_SEND_RESULT, 31, 1⟩
abbrev MGR_Q_POP_IDX : RF := ⟨MGR_Q_POP, 0, 10⟩
abbrev MGR_Q_POP_N : RF := ⟨MGR_Q_POP, 16, 12⟩
abbrev MGR_Q_POP_RESULT_STATUS : RF := ⟨MGR_Q_POP_RESULT, 0, 4⟩
abbrev MGR_Q_POP_RESULT_VALID : RF := ⟨MGR_Q_POP_RESULT, 31, 1⟩
abbrev MGR_Q_TX_LO_COUNT : RF := ⟨MGR_Q_TX_LO, 0, 32⟩
abbrev MGR_Q_TX_HI_COUNT : RF := ⟨MGR_Q_TX_HI, 0, 32⟩
abbrev MGR_Q_RX_LO_COUNT : RF := ⟨MGR_Q_RX_LO, 0, 32⟩
abbrev MGR_Q_RX_HI_COUNT : RF := ⟨MGR_Q_RX_HI, 0, 32⟩
abbrev MGR_Q_NO_CREDIT_COUNT : RF := ⟨MGR_Q_NO_CREDIT, 0, 32⟩
abbrev MGR_Q_DROP_STALE_COUNT : RF := ⟨MGR_Q_DROP_STALE, 0, 32⟩
abbrev MGR_Q_DROP_CLOSED_COUNT : RF := ⟨MGR_Q_DROP_CLOSED, 0, 32⟩
abbrev MGR_Q_DROP_FOREIGN_COUNT : RF := ⟨MGR_Q_DROP_FOREIGN, 0, 32⟩
abbrev MGR_Q_DROP_SEQ_COUNT : RF := ⟨MGR_Q_DROP_SEQ, 0, 32⟩
abbrev MGR_Q_CR_DISCARD_COUNT : RF := ⟨MGR_Q_CR_DISCARD, 0, 32⟩
abbrev MGR_Q_GAP_CNT_COUNT : RF := ⟨MGR_Q_GAP_CNT, 0, 32⟩
abbrev MGR_Q_INT_EN_READY : RF := ⟨MGR_Q_INT_EN, 0, 1⟩
abbrev MGR_Q_INT_EN_GAP : RF := ⟨MGR_Q_INT_EN, 1, 1⟩
abbrev MGR_Q_INT_EN_DROP : RF := ⟨MGR_Q_INT_EN, 2, 1⟩
abbrev MGR_Q_READY_BITS (n : Nat) : RF := ⟨MGR_Q_READY n, 0, 32⟩
abbrev MGR_Q_READY_IE_BITS (n : Nat) : RF := ⟨MGR_Q_READY_IE n, 0, 32⟩
abbrev MGR_Q_DESC0_MODE (n : Nat) : RF := ⟨MGR_Q_DESC0 n, 0, 2⟩
abbrev MGR_Q_DESC0_LOG2N (n : Nat) : RF := ⟨MGR_Q_DESC0 n, 2, 4⟩
abbrev MGR_Q_DESC0_LOC (n : Nat) : RF := ⟨MGR_Q_DESC0 n, 6, 2⟩
abbrev MGR_Q_DESC0_RET_MIN (n : Nat) : RF := ⟨MGR_Q_DESC0 n, 8, 12⟩
abbrev MGR_Q_DESC0_EPOCH (n : Nat) : RF := ⟨MGR_Q_DESC0 n, 24, 8⟩
abbrev MGR_Q_DESC1_RING (n : Nat) : RF := ⟨MGR_Q_DESC1 n, 0, 32⟩
abbrev MGR_Q_DESC2_WORD (n : Nat) : RF := ⟨MGR_Q_DESC2 n, 0, 32⟩
abbrev MGR_Q_DESC3_WORD (n : Nat) : RF := ⟨MGR_Q_DESC3 n, 0, 28⟩
abbrev EGR_CTRL_SAFE_ALL : RF := ⟨EGR_CTRL, 0, 1⟩
abbrev EGR_STATUS_CAUSE : RF := ⟨EGR_STATUS, 0, 5⟩
abbrev EGR_STATUS_CFG_ERR : RF := ⟨EGR_STATUS, 8, 1⟩
abbrev EGR_FORCE_ALL : RF := ⟨EGR_FORCE, 0, 1⟩
abbrev EGR_HOST_BASE_LO_ADDR : RF := ⟨EGR_HOST_BASE_LO, 0, 32⟩
abbrev EGR_HOST_BASE_HI_ADDR : RF := ⟨EGR_HOST_BASE_HI, 0, 32⟩
abbrev EGR_HOST_LEN_ENTRIES : RF := ⟨EGR_HOST_LEN, 0, 16⟩
abbrev EGR_HOST_PTR_WR : RF := ⟨EGR_HOST_PTR, 0, 16⟩
abbrev EGR_HOST_PTR_RD : RF := ⟨EGR_HOST_PTR, 16, 16⟩
abbrev EGR_HOST_DROP_COUNT : RF := ⟨EGR_HOST_DROP, 0, 32⟩
abbrev EGR_ETH_DMAC_LO_VALUE (n : Nat) : RF := ⟨EGR_ETH_DMAC_LO n, 0, 32⟩
abbrev EGR_ETH_DMAC_HI_VALUE (n : Nat) : RF := ⟨EGR_ETH_DMAC_HI n, 0, 16⟩
abbrev EGR_ETH_DIP_VALUE (n : Nat) : RF := ⟨EGR_ETH_DIP n, 0, 32⟩
abbrev EGR_ETH_PORTS_DST (n : Nat) : RF := ⟨EGR_ETH_PORTS n, 0, 16⟩
abbrev EGR_ETH_PORTS_SRC (n : Nat) : RF := ⟨EGR_ETH_PORTS n, 16, 16⟩
abbrev EGR_CH_CTRL_EN (n : Nat) : RF := ⟨EGR_CH_CTRL n, 0, 1⟩
abbrev EGR_CH_CTRL_SRC_MODE (n : Nat) : RF := ⟨EGR_CH_CTRL n, 1, 2⟩
abbrev EGR_CH_CTRL_SINK (n : Nat) : RF := ⟨EGR_CH_CTRL n, 4, 3⟩
abbrev EGR_CH_CTRL_GATE_EN (n : Nat) : RF := ⟨EGR_CH_CTRL n, 7, 1⟩
abbrev EGR_CH_CTRL_GATE_PIN (n : Nat) : RF := ⟨EGR_CH_CTRL n, 8, 5⟩
abbrev EGR_CH_CTRL_FORCE_SAFE (n : Nat) : RF := ⟨EGR_CH_CTRL n, 16, 1⟩
abbrev EGR_CH_SINK_PARAM (n : Nat) : RF := ⟨EGR_CH_SINK n, 0, 32⟩
abbrev EGR_CH_LO_VALUE (n : Nat) : RF := ⟨EGR_CH_LO n, 0, 32⟩
abbrev EGR_CH_HI_VALUE (n : Nat) : RF := ⟨EGR_CH_HI n, 0, 32⟩
abbrev EGR_CH_DB_VALUE (n : Nat) : RF := ⟨EGR_CH_DB n, 0, 32⟩
abbrev EGR_CH_GAP_US (n : Nat) : RF := ⟨EGR_CH_GAP n, 0, 32⟩
abbrev EGR_CH_SAFE_VALUE (n : Nat) : RF := ⟨EGR_CH_SAFE n, 0, 32⟩
abbrev EGR_CH_SILENCE_MS (n : Nat) : RF := ⟨EGR_CH_SILENCE n, 0, 16⟩
abbrev EGR_CH_WRITE_VALUE (n : Nat) : RF := ⟨EGR_CH_WRITE n, 0, 32⟩
abbrev EGR_CH_LAST_VALUE (n : Nat) : RF := ⟨EGR_CH_LAST n, 0, 32⟩
abbrev EGR_CH_CLAMP_COUNT (n : Nat) : RF := ⟨EGR_CH_CLAMP n, 0, 32⟩
abbrev EGR_CH_HELD_COUNT (n : Nat) : RF := ⟨EGR_CH_HELD n, 0, 32⟩
abbrev EGR_CH_LATE_COUNT (n : Nat) : RF := ⟨EGR_CH_LATE n, 0, 32⟩
abbrev EGR_CH_STATUS_SAFE (n : Nat) : RF := ⟨EGR_CH_STATUS n, 0, 1⟩
abbrev EGR_CH_STATUS_CAUSE (n : Nat) : RF := ⟨EGR_CH_STATUS n, 4, 8⟩
abbrev EGR_CH_EMIT_COUNT (n : Nat) : RF := ⟨EGR_CH_EMIT n, 0, 32⟩
abbrev EGR_GPO_CFG_OUT_EN (n : Nat) : RF := ⟨EGR_GPO_CFG n, 0, 1⟩
abbrev EGR_GPO_CFG_SAFE_LEVEL (n : Nat) : RF := ⟨EGR_GPO_CFG n, 1, 1⟩
abbrev EGR_GPO_CFG_INVERT (n : Nat) : RF := ⟨EGR_GPO_CFG n, 2, 1⟩
abbrev EGR_GPO_STAT_LEVEL (n : Nat) : RF := ⟨EGR_GPO_STAT n, 0, 1⟩
abbrev EGR_GPO_STAT_SAFE (n : Nat) : RF := ⟨EGR_GPO_STAT n, 1, 1⟩
abbrev HOST_CTRL_PERIPH_EN : RF := ⟨HOST_CTRL, 0, 1⟩
abbrev HOST_CTRL_HQ_EN : RF := ⟨HOST_CTRL, 1, 1⟩
abbrev HOST_STATUS_LINK_UP : RF := ⟨HOST_STATUS, 0, 1⟩
abbrev HOST_STATUS_SPEED : RF := ⟨HOST_STATUS, 1, 3⟩
abbrev HOST_STATUS_WIDTH : RF := ⟨HOST_STATUS, 4, 4⟩
abbrev HOST_STATUS_BME : RF := ⟨HOST_STATUS, 8, 1⟩
abbrev HOST_WIN_BASE_GIB : RF := ⟨HOST_WIN_BASE, 0, 9⟩
abbrev HOST_ORING_RD_RD : RF := ⟨HOST_ORING_RD, 0, 16⟩
abbrev HOST_AER_CE_COUNT : RF := ⟨HOST_AER_CE, 0, 32⟩
abbrev HOST_AER_UE_COUNT : RF := ⟨HOST_AER_UE, 0, 32⟩
abbrev HOST_ABORTS_COUNT : RF := ⟨HOST_ABORTS, 0, 32⟩
abbrev HOST_IRQ_STAT_BITS : RF := ⟨HOST_IRQ_STAT, 0, 32⟩
abbrev HOST_IRQ_MASK_BITS : RF := ⟨HOST_IRQ_MASK, 0, 32⟩
abbrev HOST_IRQ_MAP_VEC (n : Nat) : RF := ⟨HOST_IRQ_MAP n, 0, 6⟩
abbrev HOST_DMA_CTRL_EN (n : Nat) : RF := ⟨HOST_DMA_CTRL n, 0, 1⟩
abbrev HOST_DMA_CTRL_RESUME (n : Nat) : RF := ⟨HOST_DMA_CTRL n, 1, 1⟩
abbrev HOST_DMA_STATUS_HALTED (n : Nat) : RF := ⟨HOST_DMA_STATUS n, 0, 1⟩
abbrev HOST_DMA_STATUS_BUSY (n : Nat) : RF := ⟨HOST_DMA_STATUS n, 1, 1⟩
abbrev HOST_DMA_RING_LO_ADDR (n : Nat) : RF := ⟨HOST_DMA_RING_LO n, 0, 32⟩
abbrev HOST_DMA_RING_HI_ADDR (n : Nat) : RF := ⟨HOST_DMA_RING_HI n, 0, 32⟩
abbrev HOST_DMA_RING_LEN_N (n : Nat) : RF := ⟨HOST_DMA_RING_LEN n, 0, 16⟩
abbrev HOST_DMA_HEAD_IDX (n : Nat) : RF := ⟨HOST_DMA_HEAD n, 0, 16⟩
abbrev HOST_DMA_TAIL_IDX (n : Nat) : RF := ⟨HOST_DMA_TAIL n, 0, 16⟩
abbrev HOST_DMA_DONE_COUNT (n : Nat) : RF := ⟨HOST_DMA_DONE n, 0, 32⟩
abbrev HOST_MBX_DOORBELL_GO : RF := ⟨HOST_MBX_DOORBELL, 0, 1⟩
abbrev HOST_MBX_STAT_BUSY : RF := ⟨HOST_MBX_STAT, 0, 1⟩
abbrev HOST_MBX_STAT_DONE : RF := ⟨HOST_MBX_STAT, 1, 1⟩
abbrev HOST_MBX_STAT_OVERRUN : RF := ⟨HOST_MBX_STAT, 2, 1⟩
abbrev TLK_CTRL_EN (u : Nat) : RF := ⟨TLK_CTRL u, 0, 1⟩
abbrev TLK_CTRL_RETRAIN (u : Nat) : RF := ⟨TLK_CTRL u, 1, 1⟩
abbrev TLK_CTRL_SLEEP_REQ (u : Nat) : RF := ⟨TLK_CTRL u, 2, 1⟩
abbrev TLK_CTRL_WAKE_EN (u : Nat) : RF := ⟨TLK_CTRL u, 3, 1⟩
abbrev TLK_CTRL_LANE_MASK (u : Nat) : RF := ⟨TLK_CTRL u, 4, 4⟩
abbrev TLK_CTRL_TX_PRESET (u : Nat) : RF := ⟨TLK_CTRL u, 8, 2⟩
abbrev TLK_STATUS_STATE (u : Nat) : RF := ⟨TLK_STATUS u, 0, 3⟩
abbrev TLK_STATUS_LANES (u : Nat) : RF := ⟨TLK_STATUS u, 4, 4⟩
abbrev TLK_STATUS_TB_LOCKED (u : Nat) : RF := ⟨TLK_STATUS u, 8, 1⟩
abbrev TLK_STATUS_TRAIN_FAIL (u : Nat) : RF := ⟨TLK_STATUS u, 9, 1⟩
abbrev TLK_STATUS_SESSION_NEW (u : Nat) : RF := ⟨TLK_STATUS u, 10, 1⟩
abbrev TLK_STATUS_PEER_PORT (u : Nat) : RF := ⟨TLK_STATUS u, 16, 3⟩
abbrev TLK_SESSION_ID (u : Nat) : RF := ⟨TLK_SESSION u, 0, 32⟩
abbrev TLK_PEER_ID_LO_SERIAL (u : Nat) : RF := ⟨TLK_PEER_ID_LO u, 0, 32⟩
abbrev TLK_PEER_ID_HI_SERIAL (u : Nat) : RF := ⟨TLK_PEER_ID_HI u, 0, 32⟩
abbrev TLK_SEQ_TX (u : Nat) : RF := ⟨TLK_SEQ u, 0, 12⟩
abbrev TLK_SEQ_RX (u : Nat) : RF := ⟨TLK_SEQ u, 16, 12⟩
abbrev TLK_HOLD_LEVEL (u : Nat) : RF := ⟨TLK_HOLD u, 0, 9⟩
abbrev TLK_TB_OFFSET_COUNTS (u : Nat) : RF := ⟨TLK_TB_OFFSET u, 0, 32⟩
abbrev TLK_TB_DELAY_COUNTS (u : Nat) : RF := ⟨TLK_TB_DELAY u, 0, 16⟩
abbrev TLK_CRC_ERR_COUNT (u : Nat) : RF := ⟨TLK_CRC_ERR u, 0, 32⟩
abbrev TLK_CODE_ERR_COUNT (u : Nat) : RF := ⟨TLK_CODE_ERR u, 0, 32⟩
abbrev TLK_REPLAY_COUNT (u : Nat) : RF := ⟨TLK_REPLAY u, 0, 32⟩
abbrev TLK_RETRAIN_COUNT (u : Nat) : RF := ⟨TLK_RETRAIN u, 0, 32⟩
abbrev TLK_DROP_HOLD_COUNT (u : Nat) : RF := ⟨TLK_DROP_HOLD u, 0, 32⟩
abbrev TLK_DROP_SESSION_COUNT (u : Nat) : RF := ⟨TLK_DROP_SESSION u, 0, 32⟩
abbrev TLK_ARM_LATE_COUNT (u : Nat) : RF := ⟨TLK_ARM_LATE u, 0, 32⟩
abbrev TLK_FWD_MISS_COUNT (u : Nat) : RF := ⟨TLK_FWD_MISS u, 0, 32⟩
abbrev TLK_TX_PIPS_LO_COUNT (u : Nat) : RF := ⟨TLK_TX_PIPS_LO u, 0, 32⟩
abbrev TLK_TX_PIPS_HI_COUNT (u : Nat) : RF := ⟨TLK_TX_PIPS_HI u, 0, 32⟩
abbrev TLK_RX_PIPS_LO_COUNT (u : Nat) : RF := ⟨TLK_RX_PIPS_LO u, 0, 32⟩
abbrev TLK_RX_PIPS_HI_COUNT (u : Nat) : RF := ⟨TLK_RX_PIPS_HI u, 0, 32⟩
abbrev TLK_INT_EN_EN (u : Nat) : RF := ⟨TLK_INT_EN u, 0, 4⟩
abbrev TLK_HIER_CTRL_ROLE : RF := ⟨TLK_HIER_CTRL, 0, 2⟩
abbrev TLK_HIER_CTRL_UPPORT : RF := ⟨TLK_HIER_CTRL, 4, 3⟩
abbrev TLK_HIER_CTRL_POLICY : RF := ⟨TLK_HIER_CTRL, 8, 1⟩
abbrev TLK_HIER_CTRL_ISO_US : RF := ⟨TLK_HIER_CTRL, 16, 16⟩
abbrev TLK_HIER_STAT_STATE : RF := ⟨TLK_HIER_STAT, 0, 2⟩
abbrev TLK_HIER_STAT_WORKER : RF := ⟨TLK_HIER_STAT, 4, 3⟩
abbrev TLK_HIER_STAT_ATTACHED : RF := ⟨TLK_HIER_STAT, 8, 8⟩
abbrev TLK_HIER_LEAD_COUNTS : RF := ⟨TLK_HIER_LEAD, 0, 12⟩
abbrev TLK_FWD_BASE_OFFSET : RF := ⟨TLK_FWD_BASE, 0, 22⟩
abbrev CAN_CTRL_EN (u : Nat) : RF := ⟨CAN_CTRL u, 0, 1⟩
abbrev CAN_CTRL_FD_EN (u : Nat) : RF := ⟨CAN_CTRL u, 1, 1⟩
abbrev CAN_CTRL_BRS_EN (u : Nat) : RF := ⟨CAN_CTRL u, 2, 1⟩
abbrev CAN_CTRL_LISTEN (u : Nat) : RF := ⟨CAN_CTRL u, 3, 1⟩
abbrev CAN_CTRL_TDC_EN (u : Nat) : RF := ⟨CAN_CTRL u, 4, 1⟩
abbrev CAN_CTRL_AUTO_REC (u : Nat) : RF := ⟨CAN_CTRL u, 5, 1⟩
abbrev CAN_STATUS_STATE (u : Nat) : RF := ⟨CAN_STATUS u, 0, 2⟩
abbrev CAN_STATUS_TEC (u : Nat) : RF := ⟨CAN_STATUS u, 8, 8⟩
abbrev CAN_STATUS_REC (u : Nat) : RF := ⟨CAN_STATUS u, 16, 8⟩
abbrev CAN_NBT_BRP (u : Nat) : RF := ⟨CAN_NBT u, 0, 8⟩
abbrev CAN_NBT_TSEG1 (u : Nat) : RF := ⟨CAN_NBT u, 8, 8⟩
abbrev CAN_NBT_TSEG2 (u : Nat) : RF := ⟨CAN_NBT u, 16, 7⟩
abbrev CAN_NBT_SJW (u : Nat) : RF := ⟨CAN_NBT u, 24, 7⟩
abbrev CAN_DBT_BRP (u : Nat) : RF := ⟨CAN_DBT u, 0, 5⟩
abbrev CAN_DBT_TSEG1 (u : Nat) : RF := ⟨CAN_DBT u, 8, 5⟩
abbrev CAN_DBT_TSEG2 (u : Nat) : RF := ⟨CAN_DBT u, 16, 4⟩
abbrev CAN_DBT_SJW (u : Nat) : RF := ⟨CAN_DBT u, 24, 4⟩
abbrev CAN_TDC_OFFSET (u : Nat) : RF := ⟨CAN_TDC u, 0, 7⟩
abbrev CAN_TXLIM_RATE (u : Nat) : RF := ⟨CAN_TXLIM u, 0, 14⟩
abbrev CAN_TXLIM_BURST (u : Nat) : RF := ⟨CAN_TXLIM u, 16, 6⟩
abbrev CAN_TXLIM_STAT_TOKENS (u : Nat) : RF := ⟨CAN_TXLIM_STAT u, 0, 6⟩
abbrev CAN_TXLIM_STAT_WAITING (u : Nat) : RF := ⟨CAN_TXLIM_STAT u, 8, 1⟩
abbrev CAN_TX_MERGED_COUNT (u : Nat) : RF := ⟨CAN_TX_MERGED u, 0, 32⟩
abbrev CAN_TX_FRAMES_COUNT (u : Nat) : RF := ⟨CAN_TX_FRAMES u, 0, 32⟩
abbrev CAN_RX_FRAMES_COUNT (u : Nat) : RF := ⟨CAN_RX_FRAMES u, 0, 32⟩
abbrev CAN_RX_DROP_COUNT (u : Nat) : RF := ⟨CAN_RX_DROP u, 0, 32⟩
abbrev CAN_BUSOFF_COUNT (u : Nat) : RF := ⟨CAN_BUSOFF u, 0, 32⟩
abbrev CAN_DUP_DISCARD_COUNT (u : Nat) : RF := ⟨CAN_DUP_DISCARD u, 0, 32⟩
abbrev CAN_INT_EN_EN (u : Nat) : RF := ⟨CAN_INT_EN u, 0, 4⟩
abbrev CAN_TXBUF_WORD (u n : Nat) : RF := ⟨CAN_TXBUF u n, 0, 32⟩
abbrev CAN_TX_REQ_CLS (u : Nat) : RF := ⟨CAN_TX_REQ u, 0, 2⟩
abbrev CAN_TX_REQ_GO (u : Nat) : RF := ⟨CAN_TX_REQ u, 31, 1⟩
abbrev CAN_TX_RESULT_STATUS (u : Nat) : RF := ⟨CAN_TX_RESULT u, 0, 4⟩
abbrev CAN_TX_RESULT_VALID (u : Nat) : RF := ⟨CAN_TX_RESULT u, 31, 1⟩
abbrev CAN_RXBUF_WORD (u n : Nat) : RF := ⟨CAN_RXBUF u n, 0, 32⟩
abbrev CAN_RX_POP_GO (u : Nat) : RF := ⟨CAN_RX_POP u, 0, 1⟩
abbrev CAN_RX_LEVEL_N (u : Nat) : RF := ⟨CAN_RX_LEVEL u, 0, 7⟩
abbrev CAN_TPDO_CFG_COBID (u n : Nat) : RF := ⟨CAN_TPDO_CFG u n, 0, 11⟩
abbrev CAN_TPDO_CFG_LEN (u n : Nat) : RF := ⟨CAN_TPDO_CFG u n, 16, 7⟩
abbrev CAN_TPDO_CFG_AUTO (u n : Nat) : RF := ⟨CAN_TPDO_CFG u n, 30, 1⟩
abbrev CAN_TPDO_CFG_EN (u n : Nat) : RF := ⟨CAN_TPDO_CFG u n, 31, 1⟩
abbrev CAN_TPDO_TRIG_GO (u n : Nat) : RF := ⟨CAN_TPDO_TRIG u n, 0, 1⟩
abbrev CAN_TPDO_BUF_WORD (u n : Nat) : RF := ⟨CAN_TPDO_BUF u n, 0, 32⟩
abbrev PWR_CTRL_REQ : RF := ⟨PWR_CTRL, 0, 2⟩
abbrev PWR_STATUS_STATE : RF := ⟨PWR_STATUS, 0, 3⟩
abbrev PWR_STATUS_FAULT : RF := ⟨PWR_STATUS, 8, 1⟩
abbrev PWR_CLK_W_MHZ : RF := ⟨PWR_CLK_W, 0, 10⟩
abbrev PWR_CLK_E_MHZ : RF := ⟨PWR_CLK_E, 0, 10⟩
abbrev PWR_HALF_CTRL_SPLIT : RF := ⟨PWR_HALF_CTRL, 0, 1⟩
abbrev PWR_HALF_STAT_STATE : RF := ⟨PWR_HALF_STAT, 0, 2⟩
abbrev PWR_HALF_STAT_KW : RF := ⟨PWR_HALF_STAT, 8, 4⟩
abbrev PWR_HALF_STAT_KE : RF := ⟨PWR_HALF_STAT, 12, 4⟩
abbrev PWR_VMARGIN_MV : RF := ⟨PWR_VMARGIN, 0, 6⟩
abbrev PWR_GOV_CTRL_EN : RF := ⟨PWR_GOV_CTRL, 0, 1⟩
abbrev PWR_GOV_LIMIT_W : RF := ⟨PWR_GOV_LIMIT, 0, 8⟩
abbrev PWR_GOV_STAT_ALLOW : RF := ⟨PWR_GOV_STAT, 0, 7⟩
abbrev PWR_GOV_STAT_LIMIT : RF := ⟨PWR_GOV_STAT, 8, 8⟩
abbrev PWR_PKG_POWER_DW : RF := ⟨PWR_PKG_POWER, 0, 16⟩
abbrev PWR_TEMP_W : RF := ⟨PWR_TEMP, 0, 16⟩
abbrev PWR_TEMP_E : RF := ⟨PWR_TEMP, 16, 16⟩
abbrev PWR_WITHHELD_COUNT : RF := ⟨PWR_WITHHELD, 0, 32⟩
abbrev PWR_RAIL_CFG_ADDR (n : Nat) : RF := ⟨PWR_RAIL_CFG n, 0, 7⟩
abbrev PWR_RAIL_CFG_PAGE (n : Nat) : RF := ⟨PWR_RAIL_CFG n, 8, 8⟩
abbrev PWR_RAIL_CFG_EXP (n : Nat) : RF := ⟨PWR_RAIL_CFG n, 16, 5⟩
abbrev PWR_RAIL_CFG_PG_PIN (n : Nat) : RF := ⟨PWR_RAIL_CFG n, 24, 1⟩
abbrev PWR_RAIL_WIN_LO (n : Nat) : RF := ⟨PWR_RAIL_WIN n, 0, 16⟩
abbrev PWR_RAIL_WIN_HI (n : Nat) : RF := ⟨PWR_RAIL_WIN n, 16, 16⟩
abbrev PWR_RAIL_SET_MV (n : Nat) : RF := ⟨PWR_RAIL_SET n, 0, 16⟩
abbrev PWR_RAIL_MEAS_MV (n : Nat) : RF := ⟨PWR_RAIL_MEAS n, 0, 16⟩
abbrev PWR_RAIL_MEAS_A (n : Nat) : RF := ⟨PWR_RAIL_MEAS n, 16, 16⟩
abbrev PWR_RAIL_STAT_PG (n : Nat) : RF := ⟨PWR_RAIL_STAT n, 0, 1⟩
abbrev PWR_RAIL_STAT_BUSY (n : Nat) : RF := ⟨PWR_RAIL_STAT n, 1, 1⟩
abbrev PWR_RAIL_STAT_FAULT (n : Nat) : RF := ⟨PWR_RAIL_STAT n, 2, 1⟩
abbrev PWR_RAIL_TMO_US (n : Nat) : RF := ⟨PWR_RAIL_TMO n, 0, 16⟩
abbrev PWR_PMB_CFG_FAST : RF := ⟨PWR_PMB_CFG, 0, 1⟩
abbrev PWR_PMB_CMD_RAIL : RF := ⟨PWR_PMB_CMD, 0, 3⟩
abbrev PWR_PMB_CMD_CODE : RF := ⟨PWR_PMB_CMD, 8, 8⟩
abbrev PWR_PMB_CMD_LEN : RF := ⟨PWR_PMB_CMD, 16, 2⟩
abbrev PWR_PMB_CMD_WR : RF := ⟨PWR_PMB_CMD, 30, 1⟩
abbrev PWR_PMB_CMD_GO : RF := ⟨PWR_PMB_CMD, 31, 1⟩
abbrev PWR_PMB_DATA_DATA : RF := ⟨PWR_PMB_DATA, 0, 16⟩
abbrev PWR_PMB_RESULT_STATUS : RF := ⟨PWR_PMB_RESULT, 0, 4⟩
abbrev PWR_PMB_RESULT_VALID : RF := ⟨PWR_PMB_RESULT, 31, 1⟩
abbrev PWR_AON_STAT_XTAL_OK : RF := ⟨PWR_AON_STAT, 0, 1⟩
abbrev PWR_SEQ_STAT_RAIL : RF := ⟨PWR_SEQ_STAT, 0, 3⟩
abbrev PWR_SEQ_STAT_FAIL : RF := ⟨PWR_SEQ_STAT, 8, 1⟩
abbrev PWR_WAKE_EN_BITS : RF := ⟨PWR_WAKE_EN, 1, 8⟩
abbrev PWR_WAKE_GPIO_PINS : RF := ⟨PWR_WAKE_GPIO, 0, 32⟩
abbrev PWR_WAKE_UDP_PORT : RF := ⟨PWR_WAKE_UDP, 0, 16⟩
abbrev PWR_WAKE_GFLT_FLT : RF := ⟨PWR_WAKE_GFLT, 0, 8⟩
abbrev PWR_WAKE_TMR_LO_COUNT : RF := ⟨PWR_WAKE_TMR_LO, 0, 32⟩
abbrev PWR_WAKE_TMR_HI_COUNT : RF := ⟨PWR_WAKE_TMR_HI, 0, 16⟩
abbrev PWR_WAKE_REC_SRC : RF := ⟨PWR_WAKE_REC, 0, 4⟩
abbrev PWR_WAKE_REC_DETAIL : RF := ⟨PWR_WAKE_REC, 4, 8⟩
abbrev PWR_WAKE_REC_FROM : RF := ⟨PWR_WAKE_REC, 12, 3⟩
abbrev PWR_WAKE_REC_PEND : RF := ⟨PWR_WAKE_REC, 16, 9⟩
abbrev PWR_WAKE_TB_LO_VALUE : RF := ⟨PWR_WAKE_TB_LO, 0, 32⟩
abbrev PWR_WAKE_TB_HI_VALUE : RF := ⟨PWR_WAKE_TB_HI, 0, 32⟩
abbrev PWR_TRIP_REC_CAUSE : RF := ⟨PWR_TRIP_REC, 0, 2⟩
abbrev PWR_TRIP_REC_RAIL : RF := ⟨PWR_TRIP_REC, 4, 3⟩
abbrev PWR_TRIP_TB_LO_VALUE : RF := ⟨PWR_TRIP_TB_LO, 0, 32⟩
abbrev PWR_TRIP_TB_HI_VALUE : RF := ⟨PWR_TRIP_TB_HI, 0, 32⟩
abbrev CHK_CTRL_ALG (u : Nat) : RF := ⟨CHK_CTRL u, 0, 3⟩
abbrev CHK_CTRL_WIDTH (u : Nat) : RF := ⟨CHK_CTRL u, 4, 2⟩
abbrev CHK_CTRL_REFLECT (u : Nat) : RF := ⟨CHK_CTRL u, 6, 1⟩
abbrev CHK_CTRL_CMP_EN (u : Nat) : RF := ⟨CHK_CTRL u, 7, 1⟩
abbrev CHK_CTRL_MODE (u : Nat) : RF := ⟨CHK_CTRL u, 8, 2⟩
abbrev CHK_CTRL_PROF (u : Nat) : RF := ⟨CHK_CTRL u, 12, 2⟩
abbrev CHK_CMD_START (u : Nat) : RF := ⟨CHK_CMD u, 0, 1⟩
abbrev CHK_CMD_ABORT (u : Nat) : RF := ⟨CHK_CMD u, 1, 1⟩
abbrev CHK_STATUS_BUSY (u : Nat) : RF := ⟨CHK_STATUS u, 0, 1⟩
abbrev CHK_STATUS_DONE (u : Nat) : RF := ⟨CHK_STATUS u, 1, 1⟩
abbrev CHK_STATUS_MATCH (u : Nat) : RF := ⟨CHK_STATUS u, 2, 1⟩
abbrev CHK_STATUS_CFG_ERR (u : Nat) : RF := ⟨CHK_STATUS u, 3, 1⟩
abbrev CHK_STATUS_OWNER (u : Nat) : RF := ⟨CHK_STATUS u, 4, 3⟩
abbrev CHK_STATUS_STATUS (u : Nat) : RF := ⟨CHK_STATUS u, 8, 4⟩
abbrev CHK_STATUS_RESULT (u : Nat) : RF := ⟨CHK_STATUS u, 12, 4⟩
abbrev CHK_ADDR_LO_ADDR (u : Nat) : RF := ⟨CHK_ADDR_LO u, 0, 32⟩
abbrev CHK_ADDR_HI_ADDR (u : Nat) : RF := ⟨CHK_ADDR_HI u, 0, 8⟩
abbrev CHK_LEN_BYTES (u : Nat) : RF := ⟨CHK_LEN u, 0, 32⟩
abbrev CHK_INIT_VALUE (u : Nat) : RF := ⟨CHK_INIT u, 0, 32⟩
abbrev CHK_XOROUT_VALUE (u : Nat) : RF := ⟨CHK_XOROUT u, 0, 32⟩
abbrev CHK_POLY_VALUE (u : Nat) : RF := ⟨CHK_POLY u, 0, 32⟩
abbrev CHK_RESULT_VALUE (u : Nat) : RF := ⟨CHK_RESULT u, 0, 32⟩
abbrev CHK_EXPECT_VALUE (u : Nat) : RF := ⟨CHK_EXPECT u, 0, 32⟩
abbrev CHK_POS_BYTES (u : Nat) : RF := ⟨CHK_POS u, 0, 32⟩
abbrev CHK_JOBS_COUNT (u : Nat) : RF := ⟨CHK_JOBS u, 0, 32⟩
abbrev CHK_MISMATCH_COUNT (u : Nat) : RF := ⟨CHK_MISMATCH u, 0, 32⟩
abbrev CHK_INT_EN_EN (u : Nat) : RF := ⟨CHK_INT_EN u, 0, 2⟩
abbrev CHK_PROF_ID_DID (u n : Nat) : RF := ⟨CHK_PROF_ID u n, 0, 16⟩
abbrev CHK_PROF_ID_MAXDELTA (u n : Nat) : RF := ⟨CHK_PROF_ID u n, 16, 4⟩
abbrev CHK_PROF_OFF_CNT_OFF (u n : Nat) : RF := ⟨CHK_PROF_OFF u n, 0, 16⟩
abbrev CHK_PROF_OFF_CRC_OFF (u n : Nat) : RF := ⟨CHK_PROF_OFF u n, 16, 16⟩
abbrev CHK_PROF_CNT_LAST (u n : Nat) : RF := ⟨CHK_PROF_CNT u n, 0, 8⟩
abbrev CHK_PROF_CNT_VALID (u n : Nat) : RF := ⟨CHK_PROF_CNT u n, 8, 1⟩
abbrev CHK_PROF_CNT_RESET (u n : Nat) : RF := ⟨CHK_PROF_CNT u n, 31, 1⟩
abbrev CHK_PROF_LOST_COUNT (u n : Nat) : RF := ⟨CHK_PROF_LOST u n, 0, 32⟩
abbrev TMR_CFG_SRC (u : Nat) : RF := ⟨TMR_CFG u, 0, 3⟩
abbrev TMR_CFG_PRESCALE (u : Nat) : RF := ⟨TMR_CFG u, 8, 8⟩
abbrev TMR_CFG_GATE (u : Nat) : RF := ⟨TMR_CFG u, 16, 2⟩
abbrev TMR_CFG_MODE (u : Nat) : RF := ⟨TMR_CFG u, 20, 2⟩
abbrev TMR_TRIG_MASTER (u : Nat) : RF := ⟨TMR_TRIG u, 0, 4⟩
abbrev TMR_TRIG_MEVENT (u : Nat) : RF := ⟨TMR_TRIG u, 4, 3⟩
abbrev TMR_TRIG_SLAVE (u : Nat) : RF := ⟨TMR_TRIG u, 8, 3⟩
abbrev TMR_PIN_PIN (u : Nat) : RF := ⟨TMR_PIN u, 0, 5⟩
abbrev TMR_PIN_EDGE (u : Nat) : RF := ⟨TMR_PIN u, 8, 2⟩
abbrev TMR_CAP_CFG_SRCA (u : Nat) : RF := ⟨TMR_CAP_CFG u, 0, 3⟩
abbrev TMR_CAP_CFG_SRCB (u : Nat) : RF := ⟨TMR_CAP_CFG u, 4, 3⟩
abbrev TMR_CMD_OP (u : Nat) : RF := ⟨TMR_CMD u, 0, 3⟩
abbrev TMR_CMD_CAPB (u : Nat) : RF := ⟨TMR_CMD u, 8, 1⟩
abbrev TMR_STATUS_RUN (u : Nat) : RF := ⟨TMR_STATUS u, 0, 1⟩
abbrev TMR_STATUS_GATE (u : Nat) : RF := ⟨TMR_STATUS u, 1, 1⟩
abbrev TMR_STATUS_CMP0 (u : Nat) : RF := ⟨TMR_STATUS u, 2, 1⟩
abbrev TMR_STATUS_CMP1 (u : Nat) : RF := ⟨TMR_STATUS u, 3, 1⟩
abbrev TMR_STATUS_WRAP (u : Nat) : RF := ⟨TMR_STATUS u, 4, 1⟩
abbrev TMR_STATUS_FRESH_A (u : Nat) : RF := ⟨TMR_STATUS u, 5, 1⟩
abbrev TMR_STATUS_FRESH_B (u : Nat) : RF := ⟨TMR_STATUS u, 6, 1⟩
abbrev TMR_STATUS_OVERCAP_A (u : Nat) : RF := ⟨TMR_STATUS u, 7, 1⟩
abbrev TMR_STATUS_OVERCAP_B (u : Nat) : RF := ⟨TMR_STATUS u, 8, 1⟩
abbrev TMR_STATUS_CFG_ERR (u : Nat) : RF := ⟨TMR_STATUS u, 9, 1⟩
abbrev TMR_INT_EN_EN (u : Nat) : RF := ⟨TMR_INT_EN u, 0, 6⟩
abbrev TMR_CNT_LO_COUNT (u : Nat) : RF := ⟨TMR_CNT_LO u, 0, 32⟩
abbrev TMR_CNT_HI_COUNT (u : Nat) : RF := ⟨TMR_CNT_HI u, 0, 32⟩
abbrev TMR_LOAD_LO_VALUE (u : Nat) : RF := ⟨TMR_LOAD_LO u, 0, 32⟩
abbrev TMR_LOAD_HI_VALUE (u : Nat) : RF := ⟨TMR_LOAD_HI u, 0, 32⟩
abbrev TMR_CMP0_LO_VALUE (u : Nat) : RF := ⟨TMR_CMP0_LO u, 0, 32⟩
abbrev TMR_CMP0_HI_VALUE (u : Nat) : RF := ⟨TMR_CMP0_HI u, 0, 32⟩
abbrev TMR_CMP1_LO_VALUE (u : Nat) : RF := ⟨TMR_CMP1_LO u, 0, 32⟩
abbrev TMR_CMP1_HI_VALUE (u : Nat) : RF := ⟨TMR_CMP1_HI u, 0, 32⟩
abbrev TMR_CAPA_LO_VALUE (u : Nat) : RF := ⟨TMR_CAPA_LO u, 0, 32⟩
abbrev TMR_CAPA_HI_VALUE (u : Nat) : RF := ⟨TMR_CAPA_HI u, 0, 32⟩
abbrev TMR_CAPB_LO_VALUE (u : Nat) : RF := ⟨TMR_CAPB_LO u, 0, 32⟩
abbrev TMR_CAPB_HI_VALUE (u : Nat) : RF := ⟨TMR_CAPB_HI u, 0, 32⟩
abbrev TMR_SNAP_LO_VALUE (u : Nat) : RF := ⟨TMR_SNAP_LO u, 0, 32⟩
abbrev TMR_SNAP_HI_VALUE (u : Nat) : RF := ⟨TMR_SNAP_HI u, 0, 32⟩
abbrev DBG_CTRL_LEVEL : RF := ⟨DBG_CTRL, 0, 2⟩
abbrev DBG_CTRL_GATHER : RF := ⟨DBG_CTRL, 16, 16⟩
abbrev DBG_STATUS_LEVEL : RF := ⟨DBG_STATUS, 0, 2⟩
abbrev DBG_OBS_BASE_LO_ADDR : RF := ⟨DBG_OBS_BASE_LO, 0, 32⟩
abbrev DBG_OBS_BASE_HI_ADDR : RF := ⟨DBG_OBS_BASE_HI, 0, 32⟩
abbrev DBG_TRC_BASE_LO_ADDR : RF := ⟨DBG_TRC_BASE_LO, 0, 32⟩
abbrev DBG_TRC_BASE_HI_ADDR : RF := ⟨DBG_TRC_BASE_HI, 0, 32⟩
abbrev DBG_TRC_LEN_N : RF := ⟨DBG_TRC_LEN, 0, 24⟩
abbrev DBG_TRC_WR_IDX : RF := ⟨DBG_TRC_WR, 0, 24⟩
abbrev DBG_TRC_RD_IDX : RF := ⟨DBG_TRC_RD, 0, 24⟩
abbrev DBG_TRC_CTRL_WRAP : RF := ⟨DBG_TRC_CTRL, 0, 1⟩
abbrev DBG_TRC_CTRL_MARKER : RF := ⟨DBG_TRC_CTRL, 1, 1⟩
abbrev DBG_GTRC_LOST_EDGE : RF := ⟨DBG_GTRC_LOST, 0, 16⟩
abbrev DBG_GTRC_LOST_FULL : RF := ⟨DBG_GTRC_LOST, 16, 16⟩
abbrev DBG_INJ_TARGET_ID : RF := ⟨DBG_INJ_TARGET, 0, 20⟩
abbrev DBG_INJ_KIND_KIND : RF := ⟨DBG_INJ_KIND, 0, 3⟩
abbrev DBG_INJ_COUNT_N : RF := ⟨DBG_INJ_COUNT, 0, 16⟩
abbrev DBG_INJ_CTRL_ARM : RF := ⟨DBG_INJ_CTRL, 0, 1⟩
abbrev DBG_INJ_CTRL_DISARM : RF := ⟨DBG_INJ_CTRL, 1, 1⟩
abbrev DBG_INJ_STAT_ARMED : RF := ⟨DBG_INJ_STAT, 0, 1⟩
abbrev DBG_INJ_STAT_LEFT : RF := ⟨DBG_INJ_STAT, 16, 16⟩
abbrev DBG_INJ_DONE_COUNT : RF := ⟨DBG_INJ_DONE, 0, 32⟩
abbrev DBG_JTAG_STAT_LEVEL : RF := ⟨DBG_JTAG_STAT, 0, 2⟩
abbrev DBG_JTAG_STAT_EXTEST : RF := ⟨DBG_JTAG_STAT, 2, 1⟩
abbrev DBG_MWAIT_KIND : RF := ⟨DBG_MWAIT, 0, 3⟩
abbrev DBG_MWAIT_SRC : RF := ⟨DBG_MWAIT, 3, 1⟩
abbrev DBG_MWAIT_WSEQ : RF := ⟨DBG_MWAIT, 8, 8⟩
abbrev DBG_MWAIT_OBJ_OBJ : RF := ⟨DBG_MWAIT_OBJ, 0, 10⟩
abbrev DBG_MWAIT_OBJ_PEER : RF := ⟨DBG_MWAIT_OBJ, 16, 11⟩
abbrev DBG_MWAIT_SINCE_STEP : RF := ⟨DBG_MWAIT_SINCE, 0, 32⟩

end Sys2Proof.Machine.Reg
end

