-- ==== Sys2Proof/Machine/ObjMap.lean ====
section
/-! DEFINITION. The object dictionary's table: for every object its type, access, role, default, persistence and
range of values, from the object tables of the spec's chapters. Defaults that the spec calls fused are those of the
model's fuses (log entry 1). -/

namespace Sys2Proof.Machine

/-- How an object answers (R557). -/
inductive ObjAcc where
  | ro | rw | wo | const
  deriving DecidableEq, Repr

/-- How an object's value lasts (R571, R572). -/
inductive Persist where
  | vol | flash | husk | none
  deriving DecidableEq, Repr

/-- One object, or `count` alike objects at consecutive indices, of `subs` alike subindices. `size` is in bytes, 0 for a
type without a fixed length. `role` is 0 NONE, 1 operator, 2 installer, 3 maker. -/
structure ObjRow where
  index : Nat
  count : Nat
  sub : Nat
  subs : Nat
  size : Nat
  signed : Bool
  acc : ObjAcc
  role : Nat
  dflt : Nat
  persist : Persist
  least : Nat
  most : Nat
  deriving DecidableEq, Repr

namespace ObjMap

/-- Objects of the chapter of file 02_modes.md. -/
def rows02a : List ObjRow :=
  [/- Step policy -/ ⟨0x2401, 1, 1, 1, 1, false, .rw, 2, 0, .flash, 0, 2⟩,
   /- Commit staged changes -/ ⟨0x2402, 1, 1, 1, 1, false, .wo, 1, 0, .vol, 0, 255⟩,
   /- Staged change count -/ ⟨0x2402, 1, 2, 1, 1, false, .ro, 1, 0, .vol, 0, 255⟩,
   /- Discard staged changes -/ ⟨0x2402, 1, 3, 1, 1, false, .wo, 1, 0, .vol, 0, 255⟩,
   /- Effective step of last commit -/ ⟨0x2402, 1, 4, 1, 8, false, .ro, 1, 0, .vol, 0, 18446744073709551615⟩,
   /- Last refusal reason -/ ⟨0x2402, 1, 5, 1, 2, false, .ro, 1, 0, .vol, 0, 65535⟩,
   /- Last refused object -/ ⟨0x2402, 1, 6, 1, 4, false, .ro, 1, 0, .vol, 0, 4294967295⟩,
   /- Input mode -/ ⟨0x2403, 1, 1, 1, 1, false, .rw, 2, 0, .vol, 0, 1⟩,
   /- Replay read-only -/ ⟨0x2403, 1, 2, 1, 1, false, .rw, 2, 1, .vol, 0, 1⟩,
   /- Replay bound -/ ⟨0x2403, 1, 3, 1, 4, false, .rw, 2, 0, .vol, 0, 4294967295⟩,
   /- Projection selector -/ ⟨0x2500, 1, 1, 1, 2, false, .rw, 1, 0, .vol, 0, 65535⟩,
   /- Form -/ ⟨0x2520, 1, 1, 1, 1, false, .ro, 1, 0, .vol, 0, 255⟩,
   /- Residency -/ ⟨0x2520, 1, 2, 1, 1, false, .ro, 1, 0, .vol, 0, 255⟩,
   /- Window W -/ ⟨0x2520, 1, 3, 1, 1, false, .ro, 1, 0, .vol, 0, 255⟩,
   /- Traversal -/ ⟨0x2520, 1, 4, 1, 1, false, .rw, 2, 0, .vol, 0, 2⟩,
   /- Adaptive threshold -/ ⟨0x2520, 1, 5, 1, 2, false, .rw, 2, 0, .vol, 0, 65535⟩,
   /- Plasticity -/ ⟨0x2520, 1, 6, 1, 1, false, .rw, 2, 0, .vol, 0, 1⟩,
   /- Standby mode -/ ⟨0x2A10, 1, 1, 1, 1, false, .rw, 2, 0, .flash, 0, 1⟩,
   /- Checkpoint interval K -/ ⟨0x2A10, 1, 2, 1, 2, false, .rw, 2, 0, .flash, 0, 65535⟩,
   /- Standby state -/ ⟨0x2A10, 1, 3, 1, 1, false, .ro, 1, 0, .vol, 0, 255⟩,
   /- Runtime spare tiles -/ ⟨0x2A10, 1, 4, 1, 1, false, .ro, 1, 0, .vol, 0, 255⟩,
   /- Hierarchy role, configured -/ ⟨0x2E00, 1, 1, 1, 1, false, .rw, 2, 0, .flash, 0, 2⟩,
   /- Hierarchy role, in effect -/ ⟨0x2E00, 1, 2, 1, 1, false, .ro, 1, 0, .vol, 0, 255⟩,
   /- Half-clock request -/ ⟨0x2110, 1, 1, 1, 1, false, .rw, 2, 0, .vol, 0, 1⟩,
   /- Half-clock state -/ ⟨0x2110, 1, 2, 1, 1, false, .ro, 1, 0, .vol, 0, 255⟩,
   /- Observation level -/ ⟨0x2B00, 1, 1, 1, 1, false, .rw, 1, 1, .vol, 0, 2⟩,
   /- Lifecycle state -/ ⟨0x2002, 1, 1, 1, 1, false, .ro, 0, 0, .husk, 0, 255⟩,
   /- Lifecycle transition request -/ ⟨0x2002, 1, 2, 1, 1, false, .wo, 3, 0, .vol, 0, 3⟩,
   /- Source binding -/ ⟨0x2600, 32, 1, 1, 2, false, .rw, 2, 0, .flash, 0, 65535⟩,
   /- Encoder -/ ⟨0x2600, 32, 2, 1, 1, false, .rw, 2, 0, .flash, 0, 4⟩,
   /- Context enable -/ ⟨0x2600, 32, 3, 1, 1, false, .rw, 1, 0, .vol, 0, 1⟩]

/-- Objects of the chapter of file 03_time_steps.md. The maximum stretch is bounded by the 28 bits of STEP_STRETCH_MAX.S (DESIGN
CHOICE, log entry 141). -/
def rows03a : List ObjRow :=
  [/- Step period -/ ⟨0x2404, 1, 1, 1, 4, false, .rw, 2, 200000, .flash, 2000, 200000000⟩,
   /- Deadline fraction -/ ⟨0x2404, 1, 2, 1, 2, false, .rw, 2, 896, .flash, 1, 1023⟩,
   /- Maximum stretch -/ ⟨0x2404, 1, 3, 1, 4, false, .rw, 2, 0, .flash, 0, 268435455⟩,
   /- Catch-up -/ ⟨0x2404, 1, 4, 1, 1, false, .rw, 2, 0, .flash, 0, 1⟩,
   /- Minimum period -/ ⟨0x2404, 1, 5, 1, 4, false, .rw, 2, 200000, .flash, 2000, 200000000⟩,
   /- FREE-RUN watchdog -/ ⟨0x2404, 1, 6, 1, 4, false, .rw, 2, 200000000, .flash, 0, 4294967295⟩,
   /- Run -/ ⟨0x2405, 1, 1, 1, 1, false, .rw, 1, 0, .vol, 0, 1⟩,
   /- First launch -/ ⟨0x2405, 1, 2, 1, 8, false, .rw, 1, 0, .vol, 0, 18446744073709551615⟩,
   /- Current step -/ ⟨0x2405, 1, 3, 1, 8, false, .ro, 1, 0, .vol, 0, 18446744073709551615⟩,
   /- Phase -/ ⟨0x2405, 1, 4, 1, 1, false, .ro, 1, 0, .vol, 0, 255⟩,
   /- Switch target image -/ ⟨0x2406, 1, 1, 1, 1, false, .rw, 1, 0, .vol, 0, 63⟩,
   /- Switch step -/ ⟨0x2406, 1, 2, 1, 8, false, .rw, 1, 0, .vol, 0, 18446744073709551615⟩,
   /- Retain state -/ ⟨0x2406, 1, 3, 1, 1, false, .rw, 1, 1, .vol, 0, 1⟩,
   /- Switch request -/ ⟨0x2406, 1, 4, 1, 1, false, .wo, 1, 0, .vol, 0, 255⟩,
   /- Switch state -/ ⟨0x2406, 1, 5, 1, 1, false, .ro, 1, 0, .vol, 0, 255⟩,
   /- Forced closes -/ ⟨0x2407, 1, 1, 1, 4, false, .ro, 1, 0, .vol, 0, 4294967295⟩,
   /- Stretched steps -/ ⟨0x2407, 1, 2, 1, 4, false, .ro, 1, 0, .vol, 0, 4294967295⟩,
   /- Launch overruns -/ ⟨0x2407, 1, 3, 1, 4, false, .ro, 1, 0, .vol, 0, 4294967295⟩,
   /- Outstanding slip -/ ⟨0x2407, 1, 4, 1, 8, false, .ro, 1, 0, .vol, 0, 18446744073709551615⟩,
   /- Late drops, last step -/ ⟨0x2407, 1, 5, 1, 4, false, .ro, 1, 0, .vol, 0, 4294967295⟩]

/-- Objects of the chapter of file 04_neurons.md. -/
def rows04a : List ObjRow :=
  [/- Population selector -/ ⟨0x2500, 1, 2, 1, 2, false, .rw, 1, 0, .vol, 0, 65535⟩,
   /- Model -/ ⟨0x2510, 1, 1, 1, 1, false, .ro, 1, 0, .vol, 0, 255⟩,
   /- State format -/ ⟨0x2510, 1, 2, 1, 1, false, .ro, 1, 0, .vol, 0, 255⟩,
   /- Neuron count -/ ⟨0x2510, 1, 3, 1, 4, false, .ro, 1, 0, .vol, 0, 4294967295⟩,
   /- Tiles spanned -/ ⟨0x2510, 1, 4, 1, 2, false, .ro, 1, 0, .vol, 0, 65535⟩,
   /- Threshold -/ ⟨0x2510, 1, 5, 1, 2, true, .rw, 2, 0, .vol, 0, 65535⟩,
   /- Membrane floor -/ ⟨0x2510, 1, 6, 1, 2, true, .rw, 2, 0, .vol, 0, 65535⟩,
   /- Leak value -/ ⟨0x2510, 1, 7, 1, 1, false, .rw, 2, 0, .vol, 0, 255⟩,
   /- Bias -/ ⟨0x2510, 1, 8, 1, 2, true, .rw, 2, 0, .vol, 0, 65535⟩,
   /- Refractory steps -/ ⟨0x2510, 1, 9, 1, 1, false, .rw, 2, 0, .vol, 0, 255⟩,
   /- Spikes, last step -/ ⟨0x2510, 1, 10, 1, 4, false, .ro, 1, 0, .vol, 0, 4294967295⟩,
   /- Saturations, last step -/ ⟨0x2510, 1, 11, 1, 4, false, .ro, 1, 0, .vol, 0, 4294967295⟩]

/-- Objects of the chapter of file 06_delivery.md. -/
def rows06a : List ObjRow :=
  [/- Faulted -/ ⟨0x2522, 1, 1, 1, 1, false, .ro, 1, 0, .vol, 0, 1⟩,
   /- Fault event code -/ ⟨0x2522, 1, 2, 1, 2, false, .ro, 1, 0, .vol, 0, 65535⟩,
   /- Fault source -/ ⟨0x2522, 1, 3, 1, 4, false, .ro, 1, 0, .vol, 0, 4294967295⟩,
   /- Dense groups, last step -/ ⟨0x2522, 1, 4, 1, 4, false, .ro, 1, 0, .vol, 0, 4294967295⟩,
   /- Event groups, last step -/ ⟨0x2522, 1, 5, 1, 4, false, .ro, 1, 0, .vol, 0, 4294967295⟩]

/-- Objects of the chapter of file 08_plasticity.md. -/
def rows08a : List ObjRow :=
  [/- Learning rate -/ ⟨0x2524, 1, 1, 1, 1, false, .rw, 2, 0, .vol, 0, 255⟩,
   /- Rate bound -/ ⟨0x2524, 1, 2, 1, 1, false, .rw, 2, 0, .husk, 0, 255⟩,
   /- Drift bound per pod -/ ⟨0x2524, 1, 3, 1, 4, false, .rw, 2, 0, .husk, 0, 4294967295⟩,
   /- Drift used, largest pod -/ ⟨0x2524, 1, 4, 1, 4, false, .ro, 1, 0, .vol, 0, 4294967295⟩,
   /- Drift reset -/ ⟨0x2524, 1, 5, 1, 1, false, .wo, 2, 0, .vol, 0, 255⟩,
   /- Modulator channel -/ ⟨0x2524, 1, 6, 1, 1, false, .ro, 1, 0, .vol, 0, 255⟩,
   /- Write-back interval -/ ⟨0x2524, 1, 7, 1, 2, false, .rw, 2, 0, .vol, 0, 65535⟩,
   /- Last valid write-back step -/ ⟨0x2524, 1, 8, 1, 8, false, .ro, 1, 0, .vol, 0, 18446744073709551615⟩,
   /- Pods holding -/ ⟨0x2524, 1, 9, 1, 2, false, .ro, 1, 0, .vol, 0, 65535⟩,
   /- Weights rewritten, last step -/ ⟨0x2524, 1, 10, 1, 4, false, .ro, 1, 0, .vol, 0, 4294967295⟩,
   /- Modulator target step -/ ⟨0x2526, 1, 1, 1, 8, false, .rw, 1, 0, .vol, 0, 18446744073709551615⟩,
   /- Modulator channel -/ ⟨0x2526, 1, 2, 1, 1, false, .rw, 1, 0, .vol, 0, 7⟩,
   /- Modulator push -/ ⟨0x2526, 1, 3, 1, 4, true, .wo, 1, 0, .vol, 0, 4294967295⟩,
   /- Late modulator entries -/ ⟨0x2526, 1, 4, 1, 4, false, .ro, 1, 0, .vol, 0, 4294967295⟩]

/-- Objects of the chapter of file 09_event_mesh.md. -/
def rows09a : List ObjRow :=
  [/- Throttle decrease factor -/ ⟨0x2800, 1, 1, 1, 1, false, .rw, 2, 8, .flash, 1, 15⟩,
   /- Throttle increase step -/ ⟨0x2800, 1, 2, 1, 1, false, .rw, 2, 4, .flash, 1, 255⟩,
   /- Throttle increase period -/ ⟨0x2800, 1, 3, 1, 2, false, .rw, 2, 256, .flash, 1, 4095⟩,
   /- Throttle least rate -/ ⟨0x2800, 1, 4, 1, 2, false, .rw, 2, 16, .flash, 1, 256⟩,
   /- Decrease hold -/ ⟨0x2800, 1, 5, 1, 2, false, .rw, 2, 64, .flash, 0, 65535⟩,
   /- Echo hold -/ ⟨0x2800, 1, 6, 1, 2, false, .rw, 2, 256, .flash, 0, 65535⟩,
   /- Trace quota -/ ⟨0x2800, 1, 7, 1, 1, false, .rw, 2, 30, .flash, 0, 30⟩,
   /- Deflections, last step -/ ⟨0x2801, 1, 1, 1, 4, false, .ro, 1, 0, .vol, 0, 4294967295⟩,
   /- Late and tag drops, last step -/ ⟨0x2801, 1, 2, 1, 4, false, .ro, 1, 0, .vol, 0, 4294967295⟩,
   /- Fence drops, last step -/ ⟨0x2801, 1, 3, 1, 4, false, .ro, 1, 0, .vol, 0, 4294967295⟩,
   /- Spill drops, last step -/ ⟨0x2801, 1, 4, 1, 4, false, .ro, 1, 0, .vol, 0, 4294967295⟩,
   /- Undeliverable drops, last step -/ ⟨0x2801, 1, 5, 1, 4, false, .ro, 1, 0, .vol, 0, 4294967295⟩,
   /- Storms, last step -/ ⟨0x2801, 1, 6, 1, 4, false, .ro, 1, 0, .vol, 0, 4294967295⟩,
   /- CRC errors, last step -/ ⟨0x2801, 1, 7, 1, 4, false, .ro, 1, 0, .vol, 0, 4294967295⟩,
   /- Links down -/ ⟨0x2801, 1, 8, 1, 2, false, .ro, 1, 0, .vol, 0, 65535⟩]

/-- Objects of the chapter of file 10_scheduled_mesh.md. -/
def rows10a : List ObjRow :=
  [/- Seam crossings, running image -/ ⟨0x2802, 1, 1, 1, 1, false, .ro, 1, 0, .vol, 0, 1⟩,
   /- Observation slots per frame -/ ⟨0x2802, 1, 2, 1, 2, false, .ro, 1, 0, .vol, 0, 65535⟩,
   /- Null read beats, last step -/ ⟨0x2802, 1, 3, 1, 4, false, .ro, 1, 0, .vol, 0, 4294967295⟩,
   /- Failed copies, last step -/ ⟨0x2802, 1, 4, 1, 4, false, .ro, 1, 0, .vol, 0, 4294967295⟩,
   /- Corrected beats, last step -/ ⟨0x2802, 1, 5, 1, 4, false, .ro, 1, 0, .vol, 0, 4294967295⟩,
   /- Poisoned beats, last step -/ ⟨0x2802, 1, 6, 1, 4, false, .ro, 1, 0, .vol, 0, 4294967295⟩]

/-- Objects of the chapter of file 11_queues_sync.md. -/
def rows11a : List ObjRow :=
  [/- Messages sent, last step -/ ⟨0x2900, 1, 1, 1, 4, false, .ro, 1, 0, .vol, 0, 4294967295⟩,
   /- NO_CREDIT returns, last step -/ ⟨0x2900, 1, 2, 1, 4, false, .ro, 1, 0, .vol, 0, 4294967295⟩,
   /- Stale, closed and foreign drops, last step -/ ⟨0x2900, 1, 3, 1, 4, false, .ro, 1, 0, .vol, 0, 4294967295⟩,
   /- Queues marked GAP since start -/ ⟨0x2900, 1, 4, 1, 4, false, .ro, 1, 0, .vol, 0, 4294967295⟩,
   /- Gap scan period -/ ⟨0x2900, 1, 5, 1, 1, false, .rw, 2, 64, .flash, 0, 255⟩,
   /- Coalesced fault reports, last step -/ ⟨0x2901, 1, 1, 1, 4, false, .ro, 1, 0, .vol, 0, 4294967295⟩,
   /- Suppressed fault reports, last step -/ ⟨0x2901, 1, 2, 1, 4, false, .ro, 1, 0, .vol, 0, 4294967295⟩,
   /- Fault reports lost since start -/ ⟨0x2901, 1, 3, 1, 4, false, .ro, 1, 0, .vol, 0, 4294967295⟩,
   /- Last barrier time -/ ⟨0x2901, 1, 4, 1, 1, false, .ro, 1, 0, .vol, 0, 255⟩]

/-- Objects of the chapter of file 12_memory.md. -/
def rows12a : List ObjRow :=
  [/- DRAM installed -/ ⟨0x2300, 1, 1, 1, 2, false, .ro, 1, 0, .vol, 0, 65535⟩,
   /- DRAM usable -/ ⟨0x2300, 1, 2, 1, 4, false, .ro, 1, 0, .vol, 0, 4294967295⟩,
   /- DRAM data rate -/ ⟨0x2300, 1, 3, 1, 2, false, .ro, 1, 0, .vol, 0, 65535⟩,
   /- Live subchannels -/ ⟨0x2300, 1, 4, 1, 2, false, .ro, 1, 65535, .vol, 0, 65535⟩,
   /- Retired pages -/ ⟨0x2300, 1, 5, 1, 2, false, .ro, 1, 0, .vol, 0, 65535⟩,
   /- DRAM corrected errors -/ ⟨0x2301, 1, 1, 1, 4, false, .ro, 1, 0, .vol, 0, 4294967295⟩,
   /- DRAM retries -/ ⟨0x2301, 1, 2, 1, 4, false, .ro, 1, 0, .vol, 0, 4294967295⟩,
   /- DRAM uncorrectable errors -/ ⟨0x2301, 1, 3, 1, 4, false, .ro, 1, 0, .vol, 0, 4294967295⟩,
   /- SRAM corrected errors -/ ⟨0x2301, 1, 4, 1, 4, false, .ro, 1, 0, .vol, 0, 4294967295⟩,
   /- SRAM uncorrectable errors -/ ⟨0x2301, 1, 5, 1, 4, false, .ro, 1, 0, .vol, 0, 4294967295⟩,
   /- Patrol period -/ ⟨0x2302, 1, 1, 1, 1, false, .rw, 2, 24, .flash, 1, 255⟩,
   /- Patrol enable -/ ⟨0x2302, 1, 2, 1, 1, false, .rw, 2, 1, .flash, 0, 1⟩,
   /- Start full scrub -/ ⟨0x2303, 1, 1, 1, 1, false, .wo, 2, 0, .vol, 0, 255⟩,
   /- Full scrub progress -/ ⟨0x2303, 1, 2, 1, 24, false, .ro, 1, 0, .vol, 0, 18446744073709551615⟩,
   /- Abort full scrub -/ ⟨0x2303, 1, 3, 1, 1, false, .wo, 2, 0, .vol, 0, 255⟩]

/-- Objects of the chapter of file 13_sensor_io.md. -/
def rows13a : List ObjRow :=
  [/- Axon base -/ ⟨0x2600, 32, 4, 1, 4, false, .rw, 2, 0, .flash, 0, 16777215⟩,
   /- Group base and shift -/ ⟨0x2600, 32, 5, 1, 2, false, .rw, 2, 0, .flash, 0, 65535⟩,
   /- Row and delay -/ ⟨0x2600, 32, 6, 1, 2, false, .rw, 2, 0, .flash, 0, 65535⟩,
   /- Threshold or step -/ ⟨0x2600, 32, 7, 1, 2, false, .rw, 2, 0, .flash, 0, 65535⟩,
   /- Sample scaling -/ ⟨0x2600, 32, 8, 1, 4, false, .rw, 2, 1, .flash, 0, 4294967295⟩,
   /- Records per step limit -/ ⟨0x2600, 32, 9, 1, 2, false, .rw, 2, 0, .flash, 0, 65535⟩,
   /- Records injected, last step -/ ⟨0x2600, 32, 10, 1, 4, false, .ro, 1, 0, .vol, 0, 4294967295⟩,
   /- Records dropped, last step -/ ⟨0x2600, 32, 11, 1, 4, false, .ro, 1, 0, .vol, 0, 4294967295⟩,
   /- Late and out-of-range inputs -/ ⟨0x2600, 32, 12, 1, 4, false, .ro, 1, 0, .vol, 0, 4294967295⟩,
   /- Channel selector -/ ⟨0x2700, 1, 1, 1, 1, false, .rw, 1, 0, .vol, 0, 63⟩,
   /- Enable, mode, sink, gate -/ ⟨0x2701, 1, 1, 1, 4, false, .rw, 2, 0, .husk, 0, 8191⟩,
   /- Sink parameter -/ ⟨0x2701, 1, 2, 1, 4, false, .rw, 2, 0, .husk, 0, 4294967295⟩,
   /- Lower bound -/ ⟨0x2701, 1, 3, 1, 4, true, .rw, 2, 2147483648, .husk, 0, 4294967295⟩,
   /- Upper bound -/ ⟨0x2701, 1, 4, 1, 4, true, .rw, 2, 2147483647, .husk, 0, 4294967295⟩,
   /- Dead band -/ ⟨0x2701, 1, 5, 1, 4, false, .rw, 2, 0, .husk, 0, 4294967295⟩,
   /- Least interval -/ ⟨0x2701, 1, 6, 1, 4, false, .rw, 2, 0, .husk, 0, 4294967295⟩,
   /- Safe value -/ ⟨0x2701, 1, 7, 1, 4, true, .rw, 2, 0, .husk, 0, 4294967295⟩,
   /- Silence timeout -/ ⟨0x2701, 1, 8, 1, 2, false, .rw, 2, 0, .husk, 0, 65535⟩,
   /- Last emitted value -/ ⟨0x2701, 1, 9, 1, 4, true, .ro, 1, 0, .vol, 0, 4294967295⟩,
   /- Safe state and causes -/ ⟨0x2701, 1, 10, 1, 2, false, .ro, 1, 17, .vol, 0, 65535⟩,
   /- Clamps since start -/ ⟨0x2701, 1, 11, 1, 4, false, .ro, 1, 0, .vol, 0, 4294967295⟩,
   /- All outputs safe -/ ⟨0x2702, 1, 1, 1, 1, false, .rw, 2, 0, .husk, 0, 1⟩,
   /- GPIO selector -/ ⟨0x2703, 1, 1, 1, 1, false, .rw, 1, 0, .vol, 0, 31⟩,
   /- Pin output configuration -/ ⟨0x2704, 1, 1, 1, 1, false, .rw, 2, 0, .husk, 0, 7⟩,
   /- Input filter -/ ⟨0x2704, 1, 2, 1, 4, false, .rw, 2, 131072, .flash, 0, 4294967295⟩,
   /- Stuck time -/ ⟨0x2704, 1, 3, 1, 2, false, .rw, 2, 0, .flash, 0, 65535⟩,
   /- Input status -/ ⟨0x2704, 1, 4, 1, 1, false, .ro, 1, 0, .vol, 0, 255⟩]

/-- Objects of the chapter of file 14_host_tierlink.md. -/
def rows14a : List ObjRow :=
  [/- Worker number -/ ⟨0x2E00, 1, 3, 1, 1, false, .ro, 1, 255, .vol, 0, 255⟩,
   /- Upstream port -/ ⟨0x2E00, 1, 4, 1, 1, false, .rw, 2, 0, .flash, 0, 7⟩,
   /- Isolation policy -/ ⟨0x2E00, 1, 5, 1, 1, false, .rw, 2, 0, .flash, 0, 1⟩,
   /- Isolation time -/ ⟨0x2E00, 1, 6, 1, 2, false, .rw, 2, 100, .flash, 60, 10000⟩,
   /- Hierarchy state -/ ⟨0x2E00, 1, 7, 1, 1, false, .ro, 1, 0, .vol, 0, 255⟩,
   /- Expected workers -/ ⟨0x2E00, 1, 8, 1, 1, false, .rw, 2, 0, .flash, 0, 255⟩,
   /- Joined workers -/ ⟨0x2E00, 1, 9, 1, 1, false, .ro, 1, 0, .vol, 0, 255⟩,
   /- Link state -/ ⟨0x2E10, 8, 1, 1, 1, false, .ro, 1, 0, .vol, 0, 255⟩,
   /- Live lanes -/ ⟨0x2E10, 8, 2, 1, 1, false, .ro, 1, 0, .vol, 0, 255⟩,
   /- Replays since start -/ ⟨0x2E10, 8, 3, 1, 4, false, .ro, 1, 0, .vol, 0, 4294967295⟩,
   /- Retrains since start -/ ⟨0x2E10, 8, 4, 1, 4, false, .ro, 1, 0, .vol, 0, 4294967295⟩,
   /- Pips dropped since start -/ ⟨0x2E10, 8, 5, 1, 4, false, .ro, 1, 0, .vol, 0, 4294967295⟩,
   /- Timebase offset -/ ⟨0x2E10, 8, 6, 1, 4, true, .ro, 1, 0, .vol, 0, 4294967295⟩,
   /- Hierarchy lead -/ ⟨0x2E20, 1, 1, 1, 2, false, .rw, 2, 600, .flash, 100, 4000⟩,
   /- PCIe speed and width -/ ⟨0x2E40, 1, 1, 1, 1, false, .ro, 1, 0, .vol, 0, 255⟩,
   /- Peripheral mirror -/ ⟨0x2E40, 1, 2, 1, 1, false, .rw, 2, 0, .flash, 0, 1⟩,
   /- Host queues -/ ⟨0x2E40, 1, 3, 1, 1, false, .rw, 2, 0, .flash, 0, 1⟩]

/-- Objects of the chapter of file 15_field_control.md. -/
def rows15a : List ObjRow :=
  [/- Lifecycle confirm -/ ⟨0x2002, 1, 3, 1, 1, false, .wo, 3, 0, .vol, 0, 255⟩,
   /- Transitions remaining -/ ⟨0x2002, 1, 4, 1, 1, false, .ro, 1, 16, .vol, 0, 255⟩,
   /- Session role -/ ⟨0x2003, 1, 1, 1, 1, false, .ro, 0, 0, .vol, 0, 255⟩,
   /- Operator open -/ ⟨0x2003, 1, 2, 1, 1, false, .rw, 2, 0, .husk, 0, 1⟩,
   /- Session idle time -/ ⟨0x2003, 1, 3, 1, 2, false, .rw, 2, 600, .husk, 60, 65535⟩,
   /- Failure limit -/ ⟨0x2003, 1, 4, 1, 1, false, .rw, 2, 5, .husk, 3, 16⟩,
   /- Lockout time -/ ⟨0x2003, 1, 5, 1, 2, false, .rw, 2, 300, .husk, 10, 86400⟩,
   /- Operator key -/ ⟨0x2003, 1, 6, 1, 0, false, .wo, 2, 0, .husk, 0, 0⟩,
   /- Installer key -/ ⟨0x2003, 1, 7, 1, 0, false, .wo, 2, 0, .husk, 0, 0⟩,
   /- Login role -/ ⟨0x2004, 1, 1, 1, 1, false, .wo, 0, 0, .vol, 1, 3⟩,
   /- Challenge -/ ⟨0x2004, 1, 2, 1, 0, false, .ro, 0, 0, .vol, 0, 0⟩,
   /- Response -/ ⟨0x2004, 1, 3, 1, 0, false, .wo, 0, 0, .vol, 0, 0⟩,
   /- Login result -/ ⟨0x2004, 1, 4, 1, 1, false, .ro, 0, 0, .vol, 0, 255⟩,
   /- Logout -/ ⟨0x2004, 1, 5, 1, 1, false, .wo, 0, 0, .vol, 0, 255⟩,
   /- Node-ID -/ ⟨0x2008, 1, 1, 1, 1, false, .rw, 2, 1, .flash, 1, 127⟩,
   /- Bus mode -/ ⟨0x2008, 1, 2, 1, 1, false, .rw, 2, 0, .flash, 0, 2⟩,
   /- Arbitration rate -/ ⟨0x2008, 1, 3, 1, 2, false, .rw, 2, 500, .flash, 125, 1000⟩,
   /- Data rate -/ ⟨0x2008, 1, 4, 1, 2, false, .rw, 2, 2000, .flash, 1000, 5000⟩,
   /- Audit entries held -/ ⟨0x2010, 1, 1, 1, 2, false, .ro, 1, 0, .vol, 0, 65535⟩,
   /- Audit head SEQ -/ ⟨0x2010, 1, 2, 1, 4, false, .ro, 1, 0, .vol, 0, 4294967295⟩,
   /- Audit export -/ ⟨0x2010, 1, 3, 1, 0, false, .ro, 2, 0, .vol, 0, 0⟩,
   /- Overwritten unexported -/ ⟨0x2010, 1, 5, 1, 4, false, .ro, 1, 0, .vol, 0, 4294967295⟩,
   /- CAN frame rate bound -/ ⟨0x2705, 1, 1, 1, 2, false, .rw, 2, 1000, .husk, 1, 10000⟩,
   /- CAN burst bound -/ ⟨0x2705, 1, 2, 1, 1, false, .rw, 2, 16, .husk, 1, 32⟩]

/-- Objects of the chapter of file 16_dictionary.md. -/
def rows16a : List ObjRow :=
  [/- Device type -/ ⟨0x1000, 1, 0, 1, 4, false, .const, 0, 0, .none, 0, 4294967295⟩,
   /- Error register -/ ⟨0x1001, 1, 0, 1, 1, false, .ro, 1, 0, .vol, 0, 255⟩,
   /- Error history count -/ ⟨0x1003, 1, 0, 1, 1, false, .rw, 2, 0, .vol, 0, 16⟩,
   /- Error history -/ ⟨0x1003, 1, 1, 16, 4, false, .ro, 1, 0, .vol, 0, 4294967295⟩,
   /- COB-ID SYNC -/ ⟨0x1005, 1, 0, 1, 4, false, .rw, 2, 128, .flash, 0, 4294967295⟩,
   /- Device name -/ ⟨0x1008, 1, 0, 1, 0, false, .const, 0, 0, .none, 0, 0⟩,
   /- Hardware version -/ ⟨0x1009, 1, 0, 1, 0, false, .const, 0, 0, .none, 0, 0⟩,
   /- Software version -/ ⟨0x100A, 1, 0, 1, 0, false, .ro, 0, 0, .none, 0, 0⟩,
   /- Store parameters -/ ⟨0x1010, 1, 1, 1, 4, false, .rw, 2, 3, .none, 0, 4294967295⟩,
   /- Restore defaults -/ ⟨0x1011, 1, 1, 1, 4, false, .rw, 2, 1, .none, 0, 4294967295⟩,
   /- COB-ID TIME -/ ⟨0x1012, 1, 0, 1, 4, false, .rw, 2, 256, .flash, 0, 4294967295⟩,
   /- COB-ID EMCY -/ ⟨0x1014, 1, 0, 1, 4, false, .ro, 1, 129, .none, 0, 4294967295⟩,
   /- EMCY inhibit time -/ ⟨0x1015, 1, 0, 1, 2, false, .rw, 2, 0, .flash, 0, 65535⟩,
   /- Consumer heartbeat count -/ ⟨0x1016, 1, 0, 1, 1, false, .const, 1, 4, .none, 0, 255⟩,
   /- Consumer heartbeat time -/ ⟨0x1016, 1, 1, 4, 4, false, .rw, 2, 0, .flash, 0, 4294967295⟩,
   /- Producer heartbeat time -/ ⟨0x1017, 1, 0, 1, 2, false, .rw, 2, 1000, .flash, 0, 65535⟩,
   /- Vendor ID -/ ⟨0x1018, 1, 1, 1, 4, false, .const, 0, 1459, .none, 0, 4294967295⟩,
   /- Product code -/ ⟨0x1018, 1, 2, 1, 4, false, .const, 0, 65537, .none, 0, 4294967295⟩,
   /- Revision number -/ ⟨0x1018, 1, 3, 1, 4, false, .ro, 0, 0, .none, 0, 4294967295⟩,
   /- Serial number -/ ⟨0x1018, 1, 4, 1, 4, false, .const, 0, 0, .none, 0, 4294967295⟩,
   /- Serial number -/ ⟨0x2001, 1, 1, 1, 8, false, .const, 0, 0, .none, 0, 18446744073709551615⟩,
   /- Variant code -/ ⟨0x2001, 1, 2, 1, 1, false, .const, 0, 1, .none, 0, 255⟩,
   /- Fused core clock -/ ⟨0x2001, 1, 3, 1, 2, false, .const, 0, 800, .none, 0, 65535⟩,
   /- Fused package power limit -/ ⟨0x2001, 1, 4, 1, 2, false, .const, 0, 140, .none, 0, 65535⟩,
   /- Silicon revision -/ ⟨0x2001, 1, 5, 1, 1, false, .const, 0, 0, .none, 0, 255⟩,
   /- Boot ROM version -/ ⟨0x2001, 1, 6, 1, 4, false, .const, 0, 0, .none, 0, 4294967295⟩,
   /- Manager firmware version -/ ⟨0x2001, 1, 7, 1, 4, false, .ro, 0, 0, .vol, 0, 4294967295⟩,
   /- Tile firmware version -/ ⟨0x2001, 1, 8, 1, 4, false, .ro, 0, 0, .vol, 0, 4294967295⟩,
   /- Power state request -/ ⟨0x2100, 1, 1, 1, 1, false, .rw, 2, 0, .vol, 0, 3⟩,
   /- Power state -/ ⟨0x2100, 1, 2, 1, 1, false, .ro, 1, 0, .vol, 0, 255⟩,
   /- Last wake source -/ ⟨0x2100, 1, 3, 1, 1, false, .ro, 1, 0, .vol, 0, 255⟩,
   /- Last wake timebase -/ ⟨0x2100, 1, 4, 1, 8, false, .ro, 1, 0, .vol, 0, 18446744073709551615⟩,
   /- Wake sources enabled -/ ⟨0x2100, 1, 5, 1, 2, false, .rw, 2, 510, .flash, 0, 65535⟩,
   /- Package power -/ ⟨0x2101, 1, 1, 1, 2, false, .ro, 1, 0, .vol, 0, 65535⟩,
   /- Junction temperature, west -/ ⟨0x2101, 1, 2, 1, 2, true, .ro, 1, 0, .vol, 0, 65535⟩,
   /- Junction temperature, east -/ ⟨0x2101, 1, 3, 1, 2, true, .ro, 1, 0, .vol, 0, 65535⟩,
   /- Dense issue withheld, last step -/ ⟨0x2101, 1, 4, 1, 2, false, .ro, 1, 0, .vol, 0, 65535⟩,
   /- Thermal trips since start -/ ⟨0x2101, 1, 5, 1, 2, false, .ro, 1, 0, .vol, 0, 65535⟩,
   /- Package power limit -/ ⟨0x2102, 1, 1, 1, 2, false, .rw, 3, 0, .husk, 0, 65535⟩,
   /- West core clock -/ ⟨0x2110, 1, 3, 1, 2, false, .rw, 2, 800, .flash, 100, 800⟩]

/-- Objects of the chapter of file 16_dictionary.md. -/
def rows16b : List ObjRow :=
  [/- East core clock -/ ⟨0x2110, 1, 4, 1, 2, false, .rw, 2, 800, .flash, 100, 800⟩,
   /- Rail selector -/ ⟨0x2120, 1, 1, 1, 1, false, .rw, 1, 0, .vol, 0, 7⟩,
   /- Rail set point -/ ⟨0x2121, 1, 1, 1, 2, false, .ro, 1, 0, .vol, 0, 65535⟩,
   /- Rail window, low -/ ⟨0x2121, 1, 2, 1, 2, false, .rw, 2, 0, .husk, 0, 65535⟩,
   /- Rail window, high -/ ⟨0x2121, 1, 3, 1, 2, false, .rw, 2, 0, .husk, 0, 65535⟩,
   /- Rail voltage measured -/ ⟨0x2121, 1, 4, 1, 2, false, .ro, 1, 0, .vol, 0, 65535⟩,
   /- Rail current measured -/ ⟨0x2121, 1, 5, 1, 4, false, .ro, 1, 0, .vol, 0, 4294967295⟩,
   /- Last start kind -/ ⟨0x2200, 1, 1, 1, 1, false, .ro, 1, 0, .vol, 0, 255⟩,
   /- Next start kind allowed -/ ⟨0x2200, 1, 2, 1, 1, false, .rw, 2, 0, .flash, 0, 2⟩,
   /- Last start duration -/ ⟨0x2200, 1, 3, 1, 4, false, .ro, 1, 0, .vol, 0, 4294967295⟩,
   /- Good tiles -/ ⟨0x2201, 1, 1, 1, 2, false, .ro, 1, 0, .vol, 0, 65535⟩,
   /- Logical tiles -/ ⟨0x2201, 1, 2, 1, 2, false, .ro, 1, 0, .vol, 0, 65535⟩,
   /- Tiles disabled by fuse -/ ⟨0x2201, 1, 3, 1, 2, false, .ro, 1, 0, .vol, 0, 65535⟩,
   /- Tiles failing start-up test -/ ⟨0x2201, 1, 4, 1, 2, false, .ro, 1, 0, .vol, 0, 65535⟩,
   /- Degraded start -/ ⟨0x2201, 1, 5, 1, 1, false, .ro, 1, 0, .vol, 0, 1⟩,
   /- Tile selector -/ ⟨0x2202, 1, 1, 1, 2, false, .rw, 1, 0, .vol, 0, 1151⟩,
   /- Tile entry -/ ⟨0x2202, 1, 2, 1, 8, false, .ro, 1, 0, .vol, 0, 18446744073709551615⟩,
   /- Memory test progress -/ ⟨0x2203, 1, 1, 1, 24, false, .ro, 1, 0, .vol, 0, 18446744073709551615⟩,
   /- Memory test errors found -/ ⟨0x2203, 1, 2, 1, 4, false, .ro, 1, 0, .vol, 0, 4294967295⟩,
   /- Firmware broadcast repairs -/ ⟨0x2204, 1, 1, 1, 4, false, .ro, 1, 0, .vol, 0, 4294967295⟩,
   /- Image selector -/ ⟨0x2400, 1, 1, 1, 1, false, .rw, 1, 0, .vol, 0, 63⟩,
   /- Image information -/ ⟨0x2400, 1, 2, 1, 64, false, .ro, 1, 0, .vol, 0, 18446744073709551615⟩,
   /- Load from flash -/ ⟨0x2400, 1, 3, 1, 1, false, .wo, 2, 0, .vol, 0, 255⟩,
   /- Unload -/ ⟨0x2400, 1, 4, 1, 1, false, .wo, 2, 0, .vol, 0, 255⟩,
   /- Load progress -/ ⟨0x2400, 1, 5, 1, 24, false, .ro, 1, 0, .vol, 0, 18446744073709551615⟩,
   /- Running image -/ ⟨0x2400, 1, 6, 1, 1, false, .ro, 1, 255, .vol, 0, 255⟩,
   /- Loaded images -/ ⟨0x2400, 1, 7, 1, 8, false, .ro, 1, 0, .vol, 0, 18446744073709551615⟩,
   /- Load from DRAM -/ ⟨0x2400, 1, 8, 1, 8, false, .wo, 2, 0, .vol, 0, 18446744073709551615⟩,
   /- Projection count -/ ⟨0x2500, 1, 3, 1, 4, false, .ro, 1, 0, .vol, 0, 4294967295⟩,
   /- Population count -/ ⟨0x2500, 1, 4, 1, 4, false, .ro, 1, 0, .vol, 0, 4294967295⟩,
   /- Entries held -/ ⟨0x2A00, 1, 1, 1, 2, false, .ro, 1, 0, .vol, 0, 65535⟩,
   /- Newest entry number -/ ⟨0x2A00, 1, 2, 1, 4, false, .ro, 1, 0, .vol, 0, 4294967295⟩,
   /- Entry selector -/ ⟨0x2A00, 1, 3, 1, 4, false, .rw, 1, 0, .vol, 0, 4294967295⟩,
   /- Entry -/ ⟨0x2A00, 1, 4, 1, 32, false, .ro, 1, 0, .vol, 0, 18446744073709551615⟩,
   /- Entries lost -/ ⟨0x2A00, 1, 5, 1, 4, false, .ro, 1, 0, .vol, 0, 4294967295⟩,
   /- EMCY classes -/ ⟨0x2A01, 1, 1, 1, 2, false, .rw, 2, 510, .flash, 0, 65535⟩,
   /- Checkpoint restore progress -/ ⟨0x2A10, 1, 5, 1, 24, false, .ro, 1, 0, .vol, 0, 18446744073709551615⟩,
   /- Last remap interruption -/ ⟨0x2A10, 1, 6, 1, 4, false, .ro, 1, 0, .vol, 0, 4294967295⟩,
   /- Remaps since start -/ ⟨0x2A10, 1, 7, 1, 2, false, .ro, 1, 0, .vol, 0, 65535⟩,
   /- Event-mesh link CRC errors -/ ⟨0x2A20, 1, 1, 1, 2, false, .rw, 2, 32, .flash, 0, 65535⟩]

/-- Objects of the chapter of file 16_dictionary.md. -/
def rows16c : List ObjRow :=
  [/- Scheduled-mesh corrected beats -/ ⟨0x2A20, 1, 2, 1, 2, false, .rw, 2, 32, .flash, 0, 65535⟩,
   /- DRAM pages retired -/ ⟨0x2A20, 1, 3, 1, 2, false, .rw, 2, 64, .flash, 1, 256⟩,
   /- Router storms -/ ⟨0x2A20, 1, 4, 1, 2, false, .rw, 2, 16, .flash, 0, 65535⟩,
   /- Tile uncorrectable SRAM errors -/ ⟨0x2A20, 1, 5, 1, 2, false, .rw, 2, 4, .flash, 0, 65535⟩,
   /- Timebase replica mismatches -/ ⟨0x2A20, 1, 6, 1, 2, false, .rw, 2, 2, .flash, 0, 65535⟩,
   /- Counter gather period -/ ⟨0x2B00, 1, 2, 1, 2, false, .rw, 1, 1, .vol, 1, 65535⟩,
   /- Neuron updates, last step -/ ⟨0x2B01, 1, 1, 1, 8, false, .ro, 1, 0, .vol, 0, 18446744073709551615⟩,
   /- Event synaptic updates, last step -/ ⟨0x2B01, 1, 2, 1, 8, false, .ro, 1, 0, .vol, 0, 18446744073709551615⟩,
   /- Dense MACs int4, last step -/ ⟨0x2B01, 1, 3, 1, 8, false, .ro, 1, 0, .vol, 0, 18446744073709551615⟩,
   /- Dense MACs int8, last step -/ ⟨0x2B01, 1, 4, 1, 8, false, .ro, 1, 0, .vol, 0, 18446744073709551615⟩,
   /- Dense MACs E4M3, last step -/ ⟨0x2B01, 1, 5, 1, 8, false, .ro, 1, 0, .vol, 0, 18446744073709551615⟩,
   /- Dense MACs E5M2, last step -/ ⟨0x2B01, 1, 6, 1, 8, false, .ro, 1, 0, .vol, 0, 18446744073709551615⟩,
   /- S16 scales applied, last step -/ ⟨0x2B01, 1, 7, 1, 8, false, .ro, 1, 0, .vol, 0, 18446744073709551615⟩,
   /- Spikes emitted, last step -/ ⟨0x2B01, 1, 8, 1, 8, false, .ro, 1, 0, .vol, 0, 18446744073709551615⟩,
   /- Pips injected, last step -/ ⟨0x2B01, 1, 9, 1, 8, false, .ro, 1, 0, .vol, 0, 18446744073709551615⟩,
   /- Start hang analysis -/ ⟨0x2B02, 1, 1, 1, 1, false, .wo, 1, 0, .vol, 0, 255⟩,
   /- Hang analysis result -/ ⟨0x2B02, 1, 2, 1, 1, false, .ro, 1, 0, .vol, 0, 255⟩,
   /- Tiles in cycle -/ ⟨0x2B02, 1, 3, 1, 2, false, .ro, 1, 0, .vol, 0, 65535⟩,
   /- First tile in cycle -/ ⟨0x2B02, 1, 4, 1, 2, false, .ro, 1, 0, .vol, 0, 65535⟩,
   /- Wait kind of first tile -/ ⟨0x2B02, 1, 5, 1, 1, false, .ro, 1, 0, .vol, 0, 255⟩,
   /- Injection target -/ ⟨0x2B03, 1, 1, 1, 4, false, .rw, 2, 1048575, .vol, 0, 1048575⟩,
   /- Injection kind -/ ⟨0x2B03, 1, 2, 1, 1, false, .rw, 2, 0, .vol, 1, 6⟩,
   /- Injection count -/ ⟨0x2B03, 1, 3, 1, 2, false, .rw, 2, 1, .vol, 1, 65535⟩,
   /- Arm injection -/ ⟨0x2B03, 1, 4, 1, 1, false, .wo, 2, 0, .vol, 0, 255⟩,
   /- Injections done -/ ⟨0x2B03, 1, 5, 1, 4, false, .ro, 1, 0, .vol, 0, 4294967295⟩,
   /- Debug unlock state -/ ⟨0x2B04, 1, 1, 1, 1, false, .ro, 1, 0, .vol, 0, 255⟩,
   /- Active slot -/ ⟨0x2C00, 1, 1, 1, 1, false, .ro, 1, 0, .vol, 0, 255⟩,
   /- Slot A version -/ ⟨0x2C00, 1, 2, 1, 4, false, .ro, 1, 0, .vol, 0, 4294967295⟩,
   /- Slot B version -/ ⟨0x2C00, 1, 3, 1, 4, false, .ro, 1, 0, .vol, 0, 4294967295⟩,
   /- Update data -/ ⟨0x2C00, 1, 4, 1, 0, false, .wo, 2, 0, .vol, 0, 0⟩,
   /- Update command -/ ⟨0x2C00, 1, 5, 1, 1, false, .wo, 2, 0, .vol, 1, 4⟩,
   /- Update progress -/ ⟨0x2C00, 1, 6, 1, 24, false, .ro, 1, 0, .vol, 0, 18446744073709551615⟩,
   /- Health window -/ ⟨0x2C00, 1, 7, 1, 2, false, .rw, 2, 300, .flash, 10, 3600⟩,
   /- Health confirmed -/ ⟨0x2C00, 1, 8, 1, 1, false, .ro, 1, 0, .vol, 0, 1⟩,
   /- Fallbacks since start -/ ⟨0x2C00, 1, 9, 1, 2, false, .ro, 1, 0, .vol, 0, 65535⟩,
   /- Manager watchdog timeout -/ ⟨0x2D00, 1, 1, 1, 2, false, .rw, 2, 1000, .husk, 10, 60000⟩,
   /- Watchdog expiries since start -/ ⟨0x2D00, 1, 2, 1, 2, false, .ro, 1, 0, .vol, 0, 65535⟩,
   /- Check-value jobs completed -/ ⟨0x2D01, 1, 1, 1, 4, false, .ro, 1, 0, .vol, 0, 4294967295⟩,
   /- Check-value mismatches -/ ⟨0x2D01, 1, 2, 1, 4, false, .ro, 1, 0, .vol, 0, 4294967295⟩]

/-- The PDO objects (R574 to R576): both buses of a direction at consecutive indices. -/
def rowsPdo : List ObjRow :=
  [/- RPDO COB-ID; 2^32 stands for the predefined set, disabled -/ ⟨0x1400, 32, 1, 1, 4, false, .rw, 2, 4294967296, .flash, 0, 4294967295⟩,
   /- RPDO transmission type -/ ⟨0x1400, 32, 2, 1, 1, false, .rw, 2, 254, .flash, 1, 255⟩,
   /- RPDO mapping count -/ ⟨0x1600, 32, 0, 1, 1, false, .rw, 2, 0, .flash, 0, 64⟩,
   /- RPDO mapping entry -/ ⟨0x1600, 32, 1, 64, 4, false, .rw, 2, 0, .flash, 0, 4294967295⟩,
   /- TPDO COB-ID; 2^32 stands for the predefined set, disabled -/ ⟨0x1800, 32, 1, 1, 4, false, .rw, 2, 4294967296, .flash, 0, 4294967295⟩,
   /- TPDO transmission type -/ ⟨0x1800, 32, 2, 1, 1, false, .rw, 2, 254, .flash, 1, 255⟩,
   /- TPDO inhibit time -/ ⟨0x1800, 32, 3, 1, 2, false, .rw, 2, 0, .flash, 0, 65535⟩,
   /- TPDO event timer -/ ⟨0x1800, 32, 5, 1, 2, false, .rw, 2, 0, .flash, 0, 65535⟩,
   /- TPDO mapping count -/ ⟨0x1A00, 32, 0, 1, 1, false, .rw, 2, 0, .flash, 0, 64⟩,
   /- TPDO mapping entry -/ ⟨0x1A00, 32, 1, 64, 4, false, .rw, 2, 0, .flash, 0, 4294967295⟩]

/-- The gateways (R523). -/
def rowsGate : List ObjRow :=
  [/- Gateway target -/ ⟨0x3000, 1, 1, 1, 4, false, .rw, 1, 0, .vol, 0, 4294967295⟩,
   /- Gateway data -/ ⟨0x3000, 1, 2, 1, 0, false, .rw, 1, 0, .vol, 0, 0⟩,
   /- Gateway offset -/ ⟨0x3000, 1, 3, 1, 4, false, .rw, 1, 0, .vol, 0, 4294967295⟩,
   /- Gateway execute -/ ⟨0x3000, 1, 4, 1, 1, false, .wo, 1, 0, .vol, 1, 2⟩,
   /- Gateway state -/ ⟨0x3000, 1, 5, 1, 1, false, .ro, 1, 0, .vol, 0, 3⟩,
   /- Gateway abort code -/ ⟨0x3000, 1, 6, 1, 4, false, .ro, 1, 0, .vol, 0, 4294967295⟩,
   /- Gateway target -/ ⟨0x3100, 1, 1, 1, 4, false, .rw, 1, 0, .vol, 0, 4294967295⟩,
   /- Gateway data -/ ⟨0x3100, 1, 2, 1, 0, false, .rw, 1, 0, .vol, 0, 0⟩,
   /- Gateway offset -/ ⟨0x3100, 1, 3, 1, 4, false, .rw, 1, 0, .vol, 0, 4294967295⟩,
   /- Gateway execute -/ ⟨0x3100, 1, 4, 1, 1, false, .wo, 1, 0, .vol, 1, 2⟩,
   /- Gateway state -/ ⟨0x3100, 1, 5, 1, 1, false, .ro, 1, 0, .vol, 0, 3⟩,
   /- Gateway abort code -/ ⟨0x3100, 1, 6, 1, 4, false, .ro, 1, 0, .vol, 0, 4294967295⟩,
   /- Gateway target -/ ⟨0x3200, 1, 1, 1, 4, false, .rw, 1, 0, .vol, 0, 4294967295⟩,
   /- Gateway data -/ ⟨0x3200, 1, 2, 1, 0, false, .rw, 1, 0, .vol, 0, 0⟩,
   /- Gateway offset -/ ⟨0x3200, 1, 3, 1, 4, false, .rw, 1, 0, .vol, 0, 4294967295⟩,
   /- Gateway execute -/ ⟨0x3200, 1, 4, 1, 1, false, .wo, 1, 0, .vol, 1, 2⟩,
   /- Gateway state -/ ⟨0x3200, 1, 5, 1, 1, false, .ro, 1, 0, .vol, 0, 3⟩,
   /- Gateway abort code -/ ⟨0x3200, 1, 6, 1, 4, false, .ro, 1, 0, .vol, 0, 4294967295⟩,
   /- Gateway target -/ ⟨0x3300, 1, 1, 1, 4, false, .rw, 1, 0, .vol, 0, 4294967295⟩,
   /- Gateway data -/ ⟨0x3300, 1, 2, 1, 0, false, .rw, 1, 0, .vol, 0, 0⟩,
   /- Gateway offset -/ ⟨0x3300, 1, 3, 1, 4, false, .rw, 1, 0, .vol, 0, 4294967295⟩,
   /- Gateway execute -/ ⟨0x3300, 1, 4, 1, 1, false, .wo, 1, 0, .vol, 1, 2⟩,
   /- Gateway state -/ ⟨0x3300, 1, 5, 1, 1, false, .ro, 1, 0, .vol, 0, 3⟩,
   /- Gateway abort code -/ ⟨0x3300, 1, 6, 1, 4, false, .ro, 1, 0, .vol, 0, 4294967295⟩,
   /- Gateway target -/ ⟨0x3400, 1, 1, 1, 4, false, .rw, 1, 0, .vol, 0, 4294967295⟩,
   /- Gateway data -/ ⟨0x3400, 1, 2, 1, 0, false, .rw, 1, 0, .vol, 0, 0⟩,
   /- Gateway offset -/ ⟨0x3400, 1, 3, 1, 4, false, .rw, 1, 0, .vol, 0, 4294967295⟩,
   /- Gateway execute -/ ⟨0x3400, 1, 4, 1, 1, false, .wo, 1, 0, .vol, 1, 2⟩,
   /- Gateway state -/ ⟨0x3400, 1, 5, 1, 1, false, .ro, 1, 0, .vol, 0, 3⟩,
   /- Gateway abort code -/ ⟨0x3400, 1, 6, 1, 4, false, .ro, 1, 0, .vol, 0, 4294967295⟩,
   /- Gateway target -/ ⟨0x3500, 1, 1, 1, 4, false, .rw, 1, 0, .vol, 0, 4294967295⟩,
   /- Gateway data -/ ⟨0x3500, 1, 2, 1, 0, false, .rw, 1, 0, .vol, 0, 0⟩,
   /- Gateway offset -/ ⟨0x3500, 1, 3, 1, 4, false, .rw, 1, 0, .vol, 0, 4294967295⟩,
   /- Gateway execute -/ ⟨0x3500, 1, 4, 1, 1, false, .wo, 1, 0, .vol, 1, 2⟩,
   /- Gateway state -/ ⟨0x3500, 1, 5, 1, 1, false, .ro, 1, 0, .vol, 0, 3⟩,
   /- Gateway abort code -/ ⟨0x3500, 1, 6, 1, 4, false, .ro, 1, 0, .vol, 0, 4294967295⟩,
   /- Gateway target -/ ⟨0x3600, 1, 1, 1, 4, false, .rw, 1, 0, .vol, 0, 4294967295⟩,
   /- Gateway data -/ ⟨0x3600, 1, 2, 1, 0, false, .rw, 1, 0, .vol, 0, 0⟩,
   /- Gateway offset -/ ⟨0x3600, 1, 3, 1, 4, false, .rw, 1, 0, .vol, 0, 4294967295⟩,
   /- Gateway execute -/ ⟨0x3600, 1, 4, 1, 1, false, .wo, 1, 0, .vol, 1, 2⟩,
   /- Gateway state -/ ⟨0x3600, 1, 5, 1, 1, false, .ro, 1, 0, .vol, 0, 3⟩,
   /- Gateway abort code -/ ⟨0x3600, 1, 6, 1, 4, false, .ro, 1, 0, .vol, 0, 4294967295⟩,
   /- Gateway target -/ ⟨0x3700, 1, 1, 1, 4, false, .rw, 1, 0, .vol, 0, 4294967295⟩,
   /- Gateway data -/ ⟨0x3700, 1, 2, 1, 0, false, .rw, 1, 0, .vol, 0, 0⟩,
   /- Gateway offset -/ ⟨0x3700, 1, 3, 1, 4, false, .rw, 1, 0, .vol, 0, 4294967295⟩,
   /- Gateway execute -/ ⟨0x3700, 1, 4, 1, 1, false, .wo, 1, 0, .vol, 1, 2⟩,
   /- Gateway state -/ ⟨0x3700, 1, 5, 1, 1, false, .ro, 1, 0, .vol, 0, 3⟩,
   /- Gateway abort code -/ ⟨0x3700, 1, 6, 1, 4, false, .ro, 1, 0, .vol, 0, 4294967295⟩]

/-- Every object. -/
def rows : List ObjRow := rows02a ++ rows03a ++ rows04a ++ rows06a ++ rows08a ++ rows09a ++ rows10a ++ rows11a ++ rows12a ++ rows13a ++ rows14a ++ rows15a ++ rows16a ++ rows16b ++ rows16c ++ rowsPdo ++ rowsGate

/-- The row of object `index`, subindex `sub`. -/
def rowOf (index sub : Nat) : Option ObjRow :=
  rows.find? fun r => r.index ≤ index && index < r.index + r.count && r.sub ≤ sub && sub < r.sub + r.subs

/-- The key of an object in State's object table. -/
abbrev key (index sub : Nat) : Nat := index * 256 + sub

/-- The default of an object by its key. -/
def dflt (k : Nat) : Nat := ((rowOf (k / 256) (k % 256)).map ObjRow.dflt).getD 0

end ObjMap

end Sys2Proof.Machine
end

