-- ==== Sys2Proof/Machine/State.lean ====
section
/-! DEFINITION. The state of the block: plain data. Registers live in one sparse file keyed by global address, memory
in one sparse list of bytes; what the spec gives the machine beyond both is in the records below. -/

namespace Sys2Proof.Machine

/-- Why the block stops with a fault. -/
inductive Fault where
  /-- Raised by no meaning of this model: the spec answers every wrong access with a status (safe). -/
  | none
  deriving DecidableEq, Repr

/-- Why a command has no effect to give. -/
inductive Refusal where
  /-- The command is not modelled yet (safe). -/
  | notModelled (mnemonic : String)
  deriving DecidableEq, Repr

/-- An event waiting in a block's queue for the event log (R709), or held in the log. `rank` is the place of the
block's prefix in the fixed order of R709 and `inst` its tile, pod or instance number. -/
structure Event where
  rank : Nat
  inst : Nat
  code : Nat
  source : Nat
  p0 : Nat
  p1 : Nat
  tb : Nat
  step : Nat
  deriving DecidableEq, Repr

/-- A table of lists by key, in canonical form: keys rising, no empty list held. -/
abbrev Lists (α : Type) := List (Nat × List α)

/-- A table of numbers by key, in canonical form: keys rising, no default value held. -/
abbrev Nums := List (Nat × Nat)

/-- A pip in an ejection buffer, with the number of its records already taken by the matcher (R188). -/
structure Ejected where
  pip : Pip
  taken : Nat
  deriving DecidableEq, Repr

/-- The event mesh: links, buffers, tables and throttles of the 1,152 routers and of the west edge. A router is named
by its physical tile index r, an output or input port of it by 4 r + p, and the edge of row y by the node 1,152 + y
(R269). -/
structure Mesh where
  /-- Pips on the link into input port p of router r, oldest first, key 4 r + p; the seam FIFOs are the links across
  it (R308). -/
  links : Lists Pip
  /-- Pips that a receiver discarded and named by NAK, and not yet in the retry queue, by the output port 4 r + p that
  sent them: their places in the replay registers (R288, log entry 10). -/
  naks : Lists Pip
  /-- The retry queue of 8 of each router, each pip with the port that sent it (R288). -/
  retry : Lists (Pip × Nat)
  /-- Output ports a router awarded to link pips in its present cycle (R280, log entry 8). -/
  awarded : Lists Nat
  /-- The output FIFO of each neuron engine (R150). -/
  spikes : Lists Pip
  /-- The message injection FIFO of each queue unit; 1,152 is the manager's (R364). -/
  msgs : Lists Pip
  /-- Control pips waiting for injection, by node (R284). -/
  ctrl : Lists Pip
  /-- The trace FIFO of each tile (R722). -/
  trace : Lists Pip
  /-- The ejection buffer of each tile (R188). -/
  eject : Lists Ejected
  /-- Messages accepted at L and not yet taken by the queue unit, 1,152 for the manager's (R367). -/
  msgIn : Lists Pip
  /-- The control intake of each node (R283). -/
  ctrlIn : Lists Pip
  /-- Echoes and storm notices on their way into the throttle of each node (R283). -/
  throttleIn : Lists Pip
  /-- The trace intake of each tile (R283, log entry 82). -/
  traceIn : Lists Pip
  /-- Pips the west edge returns into router (0, y), by y (R769). -/
  edgeBack : Lists Pip
  /-- Spike pips waiting at the west edge for the bucket of their row, by row (R443). -/
  edgeOut : Lists Pip
  /-- Pips lost on the link into router (0, y), which the edge interface sends again, by y (R288, log entry 161). -/
  edgeRetry : Lists Pip
  /-- On-chip entries of each delay store, in the order written (R298). -/
  delay : Lists (BitVec 128)
  /-- The deferred-record write queue of each delay store, 16 entries at most (R285). -/
  delayWait : Lists (BitVec 128)
  /-- Entries held in spill sub-ring j of tile t, key 64 t + j (R301). -/
  spilled : Nums
  /-- Entries of a sub-ring already released, key 64 t + j (R300). -/
  spillRead : Nums
  /-- Multicast entries, key 4,096 r + group (R289). -/
  mcast : Nums
  /-- E(t) by node and step parity, key 2 n + t mod 2; node 1,152 is the edge (R89). -/
  expected : Nums
  /-- R(t) by node and step parity, key 2 n + t mod 2 (R89). -/
  received : Nums
  /-- Echo filter of each router: up to 8 sources with the time of the last echo, newest first (R295). -/
  echoes : Lists (Nat × Nat)
  /-- Storm notices sent by each router: sources with the time (R282). -/
  storms : Lists (Nat × Nat)
  /-- One more than the time of the last accepted echo of each node, 0 for none (R296). -/
  lastEcho : Nums
  /-- The time from which a node's next AI_PERIOD counts (R296). -/
  riseFrom : Nums
  /-- Marked pips ended at router r for source n since the last echo to it, key 2,048 r + n (R276). -/
  marked : Nums
  /-- 1,024 less the bucket of each node, in units of 1/256 token (R296). -/
  spent : Nums
  /-- The window of 1,024 cycles of port p of router r and the trace pips sent in it, as 32 window + count, key
  5 r + p (R297). -/
  traceSent : Nums
  /-- Late drops of the step in progress over all tiles (R94, R708). -/
  late : Nat
  /-- The transmit buffer of each Tierlink port, 256 pips (R508). -/
  tlkTx : Lists Pip
  /-- Queue messages and credit pips of bridged descriptors waiting to cross each Tierlink port (R509). -/
  tlkMsg : Lists Pip
  /-- Trace pips in the trace writer, 64 at most (R724). -/
  traceWriter : List Pip
  deriving DecidableEq, Repr

/-- The event mesh with nothing in it. -/
def Mesh.empty : Mesh := ⟨[], [], [], [], [], [], [], [], [], [], [], [], [], [], [], [], [], [], [], [], [], [], [], [],
  [], [], [], [], [], [], 0, [], [], []⟩

/-- A remap (R702, R703): its phase, the logical ID, the failed tile, the spare, the step f of the failure, the number of
updates lost with the slice, the time of the report, and the updates missed (R698, R704). -/
structure Remap where
  phase : Nat
  ltile : Nat
  tile : Nat
  spare : Nat
  fail : Nat
  age : Nat
  began : Nat
  missed : Nat
  deriving DecidableEq, Repr

/-- Fault detection and the fault lane. Nodes are the physical tile indices; 1,152 is the manager's node at the root. -/
structure Faults where
  /-- Pending reports of each node, 4 at most (R386). -/
  pend : Lists Nat
  /-- The last 8 suspects each node filed, with the step of each, newest first (R387). -/
  hist : Lists (Nat × Nat)
  /-- Counts of detections within their window, key kind · 2^20 + suspect, as window · 2^20 + count (R688). -/
  counts : Nums
  /-- Detections that crossed their threshold and wait for the verdict, as kind · 2^20 + suspect (R687). -/
  due : List Nat
  /-- One more than the time of the last crossing of an event-mesh link's threshold, by suspect (R689). -/
  crossed : Nums
  /-- Coalesced reports in the root's queue, 16 at most: suspect, count, step (R388). -/
  queue : List (Nat × Nat × Nat)
  /-- Tiles in the runtime map (R596). -/
  retired : List Nat
  /-- Event-mesh links that a retrain holds down, as 4 router + port (R689). -/
  retraining : List Nat
  /-- The run of failed copies of each stream engine, as 16 (last step + 1) + length (R687). -/
  streaks : Nums
  /-- Times of the failed retrains of each Tierlink lane in the last 60 s, by 4 port + lane (R687). -/
  laneFails : Lists Nat
  /-- Trees wait to be rebuilt at the next close (R689, R691). -/
  rebuild : Bool
  /-- The remap in progress (R702). -/
  remap : Option Remap
  /-- Tiles that wait for their remap, with the time of the report, the step of the failure, and whether firmware asked for it
  (R698, R707). -/
  waiting : List (Nat × Nat × Nat × Bool)
  /-- Spares whose part of the standby region is used (R699). -/
  standbyUsed : List Nat
  /-- One more than the first step whose update a moved logical ID's spare makes, by ID: an older slice is of the tile before
  (R706). -/
  moved : Nums
  /-- Tile cores released from reset: tile, entry, a0 (R703, R613). -/
  cores : List (Nat × Nat × Nat)
  /-- Contributions latched by arrivals, key 16 node + lane (R384). -/
  latched : Nums
  /-- Coalesced reports since the start (R396). -/
  reports : Nat
  /-- Entries held in the event log (R709). -/
  held : Nat
  deriving DecidableEq, Repr

/-- No fault seen. -/
def Faults.none : Faults := ⟨[], [], [], [], [], [], [], [], [], [], false, .none, [], [], [], [], [], 0, 0⟩

/-- A job of a deque (R191). `half` is the staging half that a job on staged data reads, `none` for one that reads its
descriptor's own store (R341, R342). -/
structure Job where
  kind : Nat
  dslot : Nat
  axon : Nat
  grade : Nat
  slot : Nat
  run : Nat
  step : Nat
  dgen : Nat
  seg : Nat
  block : Nat
  slotN : Nat
  half : Option Nat
  deriving DecidableEq, Repr

/-- A contribution on its way to the accumulate port of the tile it is listed under: context, neuron, slot, the 32-bit
pattern of the value, the tile of the engine that formed it, and whether it serves a window's application (R90, R200, R201). -/
structure Contrib where
  ctx : Nat
  k : Nat
  slot : Nat
  val : Nat
  engine : Nat
  win : Bool
  deriving DecidableEq, Repr

/-- A sweep of an activity area in progress: the pod and slot, whether its target is windowed, the traversal latched
at its start, and the mode of each group, 0 skip, 1 dense, 2 event (R211). -/
structure Sweep where
  pod : Nat
  dslot : Nat
  windowed : Bool
  trav : Nat
  modes : List Nat
  deriving DecidableEq, Repr

/-- Delivery in the pods. A deque is named by its physical tile, an activity area by 64 pod + slot. -/
structure Delivery where
  /-- The step deque of each tile, 64 jobs (R192). -/
  step : Lists Job
  /-- Sweep parts that wait for room at the head of a step deque (R192, R204). -/
  stepWait : Lists Job
  /-- The window deque of each tile, 32 jobs (R192). -/
  win : Lists Job
  /-- Window jobs and parts that wait for room in a window deque (R192). -/
  winWait : Lists Job
  /-- Contributions on their way to each tile's accumulate port, oldest first (R200). -/
  contribs : Lists Contrib
  /-- One more than the step whose records a step's activity area holds (R203, R204). -/
  areaStep : Nums
  /-- Activity areas whose sweep is over and whose clear is not (R205). -/
  clearing : List Nat
  /-- Sweeps in progress (R211). -/
  sweeps : List Sweep
  /-- One more than the window that each tile applies (R207). -/
  applying : Nums
  /-- One more than the last window for which each tile logged a record lost to a full window buffer (R111). -/
  lostWindow : Nums
  /-- One more than the last window of which the pod has taken the last chunk of a WINDOWED slot (R342). -/
  stagedWindow : Nums
  /-- Chunks taken and not yet released: area name and half (R342). -/
  chunks : List (Nat × Nat)
  /-- Halves that are free and whose release no request beat has carried yet: area name and half (R335, R342). -/
  releases : List (Nat × Nat)
  /-- The first fault of each projection since its load: projection, event code and source (R220). -/
  firstFault : List (Nat × Nat × Nat)
  /-- Tiles that reported the neuron update of the step most recently launched done (R149, R192). -/
  updated : List Nat
  /-- Pods whose learning pass of that step is done (R247). -/
  passed : List Nat
  /-- Weights that the last learning pass rewrote, by area name (R266). -/
  rewritten : Nums
  /-- The sum of each modulator channel over the populations' spikes of the step in progress (R253). -/
  modSums : Nums
  /-- The modulator queue at the root: target step, channel and value (R254). -/
  modQueue : List (Nat × Nat × Nat)
  /-- Saturations of each context in its last update, key 32 tile + context (R159). -/
  lastSat : Nums
  deriving DecidableEq, Repr

/-- No delivery in progress. -/
def Delivery.empty : Delivery := ⟨[], [], [], [], [], [], [], [], [], [], [], [], [], [], [], [], [], [], [], []⟩

/-- A pending planned copy: its engine and descriptor, the step it started in, the bytes fetched or beats taken so far,
the beats sent or drained, and the write-back or checkpoint area it goes to (R326 to R328, R345, R697). -/
structure Copy where
  engine : Nat
  desc : Nat
  start : Nat
  taken : Nat
  done : Nat
  area : Nat
  deriving DecidableEq, Repr

/-- What a stream engine holds of a STAGE copy: the header it received, the runs waiting, the halves released, and the
beats of the chunk in preparation (R335 to R340). -/
structure Stage where
  engine : Nat
  desc : Nat
  dir : Nat
  seg : Nat
  scale : Nat
  halfLen : Nat
  nb : Nat
  ng : Nat
  gb : Nat
  runMax : Nat
  mLo : Nat
  runs : List (Nat × Nat)
  ended : Bool
  free : List Nat
  half : Nat
  chunk : Nat
  block : Nat
  prep : List Beat
  final : Bool
  deriving DecidableEq, Repr

/-- The scheduled mesh, the stream engines and the pod stream interfaces. -/
structure Streams where
  /-- Beats on the link into input p of router r, key 4 r + p; a beat's tag is the cycle it arrives in (R316). -/
  links : Lists Beat
  /-- Cycles of each port since the launch (R315). -/
  cycle : Nums
  /-- Entries of the active slot tables, key 1,024 r + slot; the standby ones are registers (R320). -/
  active : Nums
  /-- Words of the active slot-class map (R320, R323). -/
  activeClass : Nums
  /-- Pending copies (R326). -/
  copies : List Copy
  /-- STAGE copies whose header has arrived (R337). -/
  stages : List Stage
  /-- The read buffer of each descriptor, key 64 engine + descriptor (R327). -/
  rdBuf : Lists Beat
  /-- The write buffer of each engine: descriptor, place in the copy, beat (R328). -/
  wrBuf : Lists (Nat × Nat × Beat)
  /-- Request beats that a stage channel has ready, key 64 pod + channel (R335). -/
  requests : Lists Beat
  /-- The read-ahead buffer of each send channel, 16 beats, key 64 pod + channel (R331). -/
  ahead : Lists Beat
  /-- The first step of the standby commit (R71, R325). -/
  standbyBase : Nat
  deriving DecidableEq, Repr

/-- No stream in progress. -/
def Streams.empty : Streams := ⟨[], [], [], [], [], [], [], [], [], [], 0⟩

/-- The memories' own state beside their bytes. A DRAM burst is named by the global address of its 64 bytes. -/
structure Memories where
  /-- Rows each scrubber has read of each bank, key 64 site + bank (R409). -/
  scrubRows : Nums
  /-- DRAM bursts that hold the poison pattern (R424). -/
  poison : List Nat
  /-- Re-forms of the map, newest first: the first address whose contents are lost, and the number of the free values
  those addresses read as until they are written (R426). -/
  lost : List (Nat × Nat)
  /-- The next granule of the background fill (R428). -/
  fillNext : Nat
  /-- Page copies in progress: subchannel, page, spare entry (R424). -/
  copies : List (Nat × Nat × Nat)
  /-- The burst that the patrol of each subchannel reads next (R427). -/
  patrol : Nums
  /-- Quads that the full scrub covers (R427). -/
  scrubQuads : List Nat
  /-- The burst that the full scrub reads next in each subchannel (R427). -/
  full : Nums
  deriving DecidableEq, Repr

/-- Memories as power-up leaves them. -/
def Memories.empty : Memories := ⟨[], [], [], 0, [], [], [], []⟩

/-- A progress record (R552, R563): STATE 0 idle, 1 running, 2 done, 3 failed, 4 aborted; the bytes processed and in all;
and the time it started. -/
structure Progress where
  state : Nat
  position : Nat
  total : Nat
  began : Nat
  deriving DecidableEq, Repr

/-- An operation that never ran. -/
def Progress.idle : Progress := ⟨0, 0, 0, 0⟩

/-- An input that a stream context encodes: a frame's lines of 8-bit pixels, an event word's address and polarity, or a
sample word's lane and 16-bit value (R446, R458). -/
inductive HubItem where
  | frame (lines : List (List Nat))
  | event (addr pol : Nat)
  | sample (lane value : Nat)
  deriving DecidableEq, Repr

/-- A CSI-2 frame on its way in: its τ, the running time of its event words, and its lines (R440, R450). -/
structure CsiFrame where
  tau : Nat
  run : Nat
  lines : List (List Nat)
  deriving DecidableEq, Repr

/-- A PTP stamp: time, sequenceId, messageType, domainNumber (R454). -/
structure Stamp where
  time : Nat
  seq : Nat
  type : Nat
  domain : Nat
  deriving DecidableEq, Repr

/-- A Sensor Event Link port: frames not yet acknowledged as sequence, TYPE and words, the next sequence number, the
retransmissions of the oldest frame, the runs of IDLE sets, TS sets and TS sets with ACKSEEN received in training, the
failed attempts in a row, and the frame that a BUSY NAK named (R459 to R461). -/
structure SelPort where
  out : List (Nat × Nat × List Nat)
  next : Nat
  tries : Nat
  idles : Nat
  sets : Nat
  acks : Nat
  fails : Nat
  busy : Option Nat
  deriving DecidableEq, Repr

/-- A port that is down. -/
def SelPort.down : SelPort := ⟨[], 0, 0, 0, 0, 0, 0, none⟩

/-- What left the device on an interface whose far end the device does not hold. -/
inductive Output where
  /-- An Ethernet frame without its FCS. -/
  | eth (port : Nat) (bytes : List Byte)
  /-- An ACK of a Sensor Event Link frame (R459). -/
  | selAck (port seq : Nat)
  /-- A NAK with its reason (R459). -/
  | selNak (port seq reason : Nat)
  /-- A Sensor Event Link frame (R457). -/
  | selFrame (port seq type : Nat) (words : List Nat)
  /-- A CAN frame (R525). -/
  | can (bus : Nat) (frame : CanFrame)
  /-- An interrupt to a core, by the register and the bit that enable it. -/
  | irq (enable bit : Nat)
  /-- An MSI-X message to the host (R491). -/
  | msix (vector : Nat)
  /-- A guard's datagram: port, destination MAC and address, destination and source UDP port, and data (R470). -/
  | datagram (port mac ip dst src : Nat) (data : List Byte)
  /-- A Tierlink control flit, or a packet's header flit and data flits (R496, R497). -/
  | flits (port : Nat) (flits : List (List Byte))
  /-- Bytes written to host memory at a bus address (R488). -/
  | hostWrite (addr : Nat) (bytes : List Byte)
  deriving DecidableEq, Repr

/-- The I/O hub. -/
structure Hub where
  /-- Items whose step is not known yet: context, τ and item (R104, log entry 17). -/
  held : List (Nat × Nat × HubItem)
  /-- The first entry and the fill of each injection ring (R441). -/
  ringHead : Nums
  ringFill : Nums
  /-- Lanes that have a reference since the context was enabled; lane 0 stands for a whole frame (R446). -/
  primed : Lists Nat
  /-- Frames on their way in, by 4 receiver + virtual channel (R450). -/
  frames : List (Nat × CsiFrame)
  /-- The first replayed step, the step of the recording's first entry in this pass, and the next entry (R103, R445). -/
  replay : Option (Nat × Nat × Nat)
  /-- ACCEPT and the sum of the drop counters of each context at the last close (R476). -/
  marks : List (Nat × Nat × Nat)
  /-- One more than the last SEQ of each flow filter, by 16 port + filter (R453). -/
  flowSeq : Nums
  /-- The receive and transmit stamp FIFOs, by port and 2 + port (R454). -/
  stamps : Lists Stamp
  /-- Sensor Event Link ports (R459 to R463). -/
  sel : List (Nat × SelPort)
  /-- Changes of a GPIO input rejected in a row (R464). -/
  rejects : Nums
  /-- One more than the time since which the filtered level of a GPIO input is active (R464). -/
  activeFrom : Nums
  /-- Ethernet frames that an injected reordering holds back, by port (R735). -/
  ethHeld : List (Nat × List Byte × Bool)
  /-- Sensor Event Link frames that an injected reordering holds back, by port: CRC good, fields, words (R735). -/
  selHeld : List (Nat × Bool × List Nat × List Nat)
  deriving DecidableEq, Repr

/-- A hub with nothing in it. -/
def Hub.empty : Hub := ⟨[], [], [], [], [], none, [], [], [], [], [], [], [], []⟩

/-- One CAN controller. -/
structure CanCtl where
  /-- The receive buffer, each frame with its stamp (R554). -/
  rx : List (CanFrame × Nat)
  /-- Raw requests that wait, with their class, in request order (R534). -/
  raw : List (Nat × CanFrame)
  /-- TPDOs with a request that waits (R532). -/
  tpdo : List Nat
  /-- The frame loaded for transmission (R532). -/
  loaded : Option CanFrame
  /-- The time at which the bucket held exactly its tokens (R533). -/
  since : Nat
  /-- One more than the second in which a wait was last logged (R533). -/
  waited : Nat
  /-- Frames received in the last 2 ms, with their time (R527). -/
  recent : List (CanFrame × Nat)
  /-- The time since which the controller is in its state (R527). -/
  stateFrom : Nat
  deriving DecidableEq, Repr

/-- A controller with nothing to do. -/
def CanCtl.idle : CanCtl := ⟨[], [], [], none, 0, 0, [], 0⟩

/-- The egress guard. -/
structure Guard where
  /-- Values held by stage 3, by channel (R467). -/
  held : List (Nat × Nat)
  /-- One more than the time of the last emission of each channel (R467). -/
  emitted : Nums
  /-- Channels that have emitted no candidate for SILENCE ms (R468). -/
  silent : List Nat
  /-- The time of the last candidate of each channel, or of its enable (R468). -/
  heard : Nums
  /-- Tap records of channels under COUNT and GRADE_MAX: channel, step, records, largest grade (R466). -/
  taps : List (Nat × Nat × Nat × Nat)
  /-- Datagrams sent by each Ethernet port (R453, R470). -/
  seq : Nums
  deriving DecidableEq, Repr

/-- A guard that has seen nothing. -/
def Guard.empty : Guard := ⟨[], [], [], [], [], []⟩

/-- The EMCY producer: messages that the inhibit time holds back, one more than the time of the last message, one more than
the time of the last event of each error register bit, and one more than the time of the last 0xFF00 (R578, R579). -/
structure Emcy where
  waiting : List (List Byte)
  sentAt : Nat
  bits : Nums
  lostAt : Nat
  deriving DecidableEq, Repr

/-- A producer that has sent nothing. -/
def Emcy.none : Emcy := ⟨[], 0, [], 0⟩

/-- An entry of the audit log that an RPDO's writes to one object share for a second (R530): bus and PDO, the object, the
digests, and the time of the first write. -/
structure RpdoAudit where
  pdo : Nat
  obj : Nat
  old : Nat
  new : Nat
  began : Nat
  deriving DecidableEq, Repr

/-- The CANopen FD layer in firmware. A PDO is named by 16 bus + n. -/
structure Field where
  /-- Data of synchronous RPDOs that wait for the next SYNC (R528). -/
  waiting : Lists Byte
  /-- SYNCs since a synchronous TPDO was last triggered (R575). -/
  syncs : Nums
  /-- Audit entries not yet appended (R530). -/
  audits : List RpdoAudit
  /-- One more than the time of the last heartbeat of each node (R528). -/
  heard : Nums
  deriving DecidableEq, Repr

/-- A layer that has seen nothing. -/
def Field.empty : Field := ⟨[], [], [], []⟩

/-- A gateway request on its way (R523): worker, request ID, and the time it left. -/
structure GateRequest where
  worker : Nat
  id : Nat
  began : Nat
  deriving DecidableEq, Repr

/-- The manager's gateways: the data of each, and the requests that wait for a response. -/
structure Gates where
  data : Lists Byte
  waiting : List GateRequest
  next : Nat
  deriving DecidableEq, Repr

/-- Gateways at rest. -/
def Gates.idle : Gates := ⟨[], [], 0⟩

/-- A sealed copy of the husk in the flash (R416, R645): its GEN and what it holds. -/
structure SealCopy where
  gen : Nat
  keys : List (Nat × List Byte)
  objs : Nums
  regs : List (Nat × Word)
  bytes : List (Nat × Byte)
  appended : Nat
  held : Nat
  retired : List Nat
  deriving DecidableEq, Repr

/-- An audit export whose range is fixed: slot, first SEQ, entries, bytes given so far, header and tag (R550). -/
structure Export where
  slot : Nat
  first : Nat
  count : Nat
  pos : Nat
  header : List Byte
  tag : List Byte
  deriving DecidableEq, Repr

/-- The security block beside its registers and the husk's bytes. -/
structure Security where
  /-- Challenges that wait for their response: slot, role, bytes, time (R540). -/
  challenges : List (Nat × Nat × List Byte × Nat)
  /-- One more than the time of the last request of each slot (R537). -/
  heard : Nums
  /-- Locked roles with the time at which the lock began and its seconds (R542). -/
  locks : List (Nat × Nat × Nat)
  /-- The last lockout of each role with its seconds (R542). -/
  lockouts : List (Nat × Nat × Nat)
  /-- Stored keys, by role: 1 operator, 2 installer (R539). -/
  keys : List (Nat × List Byte)
  /-- A lifecycle transition that waits for its confirmation: slot, target, time (R546). -/
  target : Option (Nat × Nat × Nat)
  /-- Exports in progress (R550). -/
  exports : List Export
  /-- Audit entries appended since the last wipe (R547). -/
  appended : Nat
  /-- Of these, the number up to which exports have covered them (R551). -/
  covered : Nat
  /-- One more than the time at which event 0x6107 was last logged (R551). -/
  lostAt : Nat
  /-- Sealed copies, newest first (R416). -/
  sealed : List SealCopy
  /-- One more than the time of the newest sealed copy (R416). -/
  sealedAt : Nat
  /-- The wipe mark in the flash (R414). -/
  mark : Bool
  /-- Tamper inputs latched by the always-on domain and not yet served (R637). -/
  tamper : List Nat
  deriving DecidableEq, Repr

/-- A security block with nothing stored. -/
def Security.empty : Security := ⟨[], [], [], [], [], none, [], 0, 0, 0, [], 0, false, []⟩

/-- The manager firmware and the tile firmware receivers. -/
structure Firmware where
  /-- The update: 0 IDLE, 1 RECEIVING, 2 APPLYING, 3 VERIFIED, 4 FAILED (R654). -/
  update : Nat
  /-- Bytes of the delta received (R654). -/
  received : Nat
  /-- A handover is under way, and the time of its ACTIVATE where that was given (R658). -/
  handover : Option (Option Nat)
  /-- A write reached the load region under check since its GO (R656). -/
  dirty : Bool
  /-- The time at which SWAP armed the fallback timer (R662). -/
  armedAt : Nat
  /-- The time of the first write of a kick (R680). -/
  kickAt : Nat
  /-- The time of the watchdog's last reload; none before a core pair is released and after an expiry (R680, R681). -/
  loadedAt : Option Nat
  /-- The header that each tile's receiver holds: tile, chunk count, check value, version, entry offset (R608, R610). -/
  headers : List (Nat × Nat × Nat × Nat × Nat)
  /-- A tile firmware switch went down the tree with the last arming (R661). -/
  tileSwitch : Bool
  deriving DecidableEq, Repr

/-- No firmware runs. -/
def Firmware.start : Firmware := ⟨0, 0, none, false, 0, 0, none, [], false⟩

/-- The timers beside their registers: counted events not yet worth a count, slaves whose action is due, and capture
registers (2 timer + B) for which the master's event was raised (R673, R677, R678). -/
structure Timers where
  div : Nums
  slaves : List Nat
  caps : List Nat
  deriving DecidableEq, Repr

/-- Timers with nothing due. -/
def Timers.empty : Timers := ⟨[], [], []⟩

/-- Hang analysis: the first reads of the wait registers, as node, DBG_WAIT and DBG_WAIT_OBJ, and their time (R727). -/
structure Hang where
  first : List (Nat × Word × Word)
  at_ : Nat
  deriving DecidableEq, Repr

/-- The test access port: the code in the instruction register, the boundary register, the result of the last access with
its status, the time of the last access, and the access that waits behind one in progress: its address and the word it writes
(R36, R729, R731). -/
structure Jtag where
  code : Nat
  boundary : Nat
  data : Nat
  status : Nat
  heard : Nat
  next : Option (Nat × Option Word)
  deriving DecidableEq, Repr

/-- The port after Test-Logic-Reset. -/
def Jtag.reset : Jtag := ⟨2, 0, 0, 0, 0, none⟩

/-- A Tierlink packet in a replay buffer: SEQ, class and data flits (R497, R499). -/
structure TlkPacket where
  seq : Nat
  cls : Nat
  flits : List (List Byte)
  deriving DecidableEq, Repr

/-- A Tierlink port beside its registers. -/
structure TlkPort where
  /-- Packets not yet acknowledged, oldest first (R499). -/
  replay : List TlkPacket
  /-- Packets that wait for the port or for credit: class and data flits (R500). -/
  waiting : List (Nat × List (List Byte))
  /-- Buffer sizes of the peer, by class (R500). -/
  sizes : Nums
  /-- Data flits sent, and freed by the peer, by class, modulo 2^16 (R496). -/
  sent : Nums
  freed : Nums
  /-- Data flits this end freed, by class, modulo 2^16 (R496). -/
  mine : Nums
  /-- Resends of the oldest packet without progress (R499). -/
  resends : Nat
  /-- Failed attempts to train in a row (R502). -/
  fails : Nat
  /-- Valid TS received in TRAIN, and those of them with ACKSEEN (R502). -/
  ts : Nat
  acks : Nat
  /-- RXSEQ of the peer's last TS (R501). -/
  peerRx : Nat
  /-- SESSION of this training; on the manager side it stands from the first TRAIN after the port's enable (R501). -/
  session : Option Nat
  /-- A session has been established (R503). -/
  known : Bool
  /-- This end asked for SLEEP (R502). -/
  sleeping : Bool
  /-- The time at which the port last left ACTIVE (R516). -/
  downSince : Nat
  /-- A packet that an injected reordering holds back (R735). -/
  heldBack : Option (List Byte × List (List Byte) × Bool)
  /-- The stamps t1, t2, t3 of the exchange in progress (R514). -/
  stamps : List Nat
  /-- Exchanges in a row with an offset of at most 2 (R515). -/
  good : Nat
  /-- The port reached ACTIVE with a new SESSION since this worker last asked to join (R516). -/
  fresh : Bool
  deriving DecidableEq, Repr

/-- A port that is down. -/
def TlkPort.down : TlkPort := ⟨[], [], [], [], [], [], 0, 0, 0, 0, 0, none, false, false, 0, none, [], 0, false⟩

/-- An accepted image switch: index, RETAIN, target step (R117). -/
structure Switch where
  image : Nat
  retain : Bool
  step : Nat
  deriving DecidableEq, Repr

/-- The step clock beside its registers. -/
structure Clock where
  /-- A halt waits for the close of the step in progress (R85). -/
  halting : Bool
  /-- The policy in force: 0 STRICT, 1 ELASTIC, 2 FREE-RUN. -/
  policy : Nat
  /-- L_s of the step in progress, and of the armed one (R82). -/
  sched : Nat
  armed : Nat
  /-- I(t) of the step in progress (R82, R99). -/
  interval : Nat
  /-- The sums of the wave before, where it was clean (R91). -/
  prev : Option (Nat × Nat)
  /-- s(t), and whether the delivery of the step was closed by force (R94, R97). -/
  stretch : Nat
  forced : Bool
  /-- The phase that the watchdog found (R102). -/
  held : Nat
  /-- The number of the last wave, and the one in progress: number, E, R, idle, workers awaited (R512). -/
  waves : Nat
  wave : Option (Nat × Nat × Nat × Bool × List Nat)
  /-- Workers that reported DONE, and their late drops (R512). -/
  done : List Nat
  lateSum : Nat
  /-- An accepted switch, and workers whose vote on a requested one is awaited with the time of the request (R117, R511). -/
  switch : Option Switch
  votes : Option (Switch × List Nat × Nat)
  /-- The time at which the switch in progress began (R118). -/
  gapFrom : Nat
  /-- An armed launch stands (R83). -/
  ready : Bool
  /-- Workers that sent REJOIN and wait for the next ARM (R518). -/
  rejoining : List Nat
  /-- The time of the last close (R516). -/
  closedAt : Nat
  /-- What catch-up took from the period in the step in progress: P − I(t) (R99). -/
  cut : Nat
  /-- The switch in progress withdrew an armed launch (R118). -/
  lifted : Bool
  /-- The running image was switched to afresh while the clock was halted and has not run: the next start's step is its first
  (R775). -/
  fresh : Bool
  deriving DecidableEq, Repr

/-- A step clock that has not run. -/
def Clock.stopped : Clock := ⟨false, 0, 0, 0, 0, none, 0, false, 0, 0, none, [], 0, none, none, 0, false, [], 0, 0, false,
  false⟩

/-- The adjustment of the timebase beside its registers (R78): the counts by which the timebase is ahead of the ticks it has
taken; the accumulator of TB_RATE in units of 2^-40, and the tick it stands for; and the ticks of the last skip or double
code and of the last one that TB_SLEW issued. -/
structure Rate where
  skew : Int
  acc : Int
  accAt : Int
  codeAt : Option Int
  slewAt : Option Int
  deriving DecidableEq, Repr

/-- A timebase never adjusted. -/
def Rate.none : Rate := ⟨0, 0, 0, .none, .none⟩

/-- A voltage change that waits for its confirmation: rail, new and previous set point in mV, the time it began, and
the end of the write where it has ended (R630). -/
structure Ramp where
  rail : Nat
  target : Nat
  old : Nat
  began : Nat
  written : Option Nat
  deriving DecidableEq, Repr

/-- A half-clock change: the state and the clocks it leads to, its stage (0 rails rise, 1 waits for the close, 2 PLLs
relock, 3 rails fall), and the halves still relocking, 0 west and 1 east (R629). -/
structure HalfChange where
  split : Bool
  west : Nat
  east : Nat
  stage : Nat
  locks : List Nat
  deriving DecidableEq, Repr

/-- A request of the PMBus master: its place in the order of R633, rail, command code, data, write, and failed tries. -/
structure PmbRequest where
  place : Nat
  rail : Nat
  code : Nat
  data : Nat
  write : Bool
  tries : Nat
  deriving DecidableEq, Repr

/-- Power beside its registers. -/
structure Power where
  /-- The clocks of the halves in force, in MHz, and whether the halves are split by request (R629). -/
  west : Nat
  east : Nat
  split : Bool
  /-- The half-clock change in progress (R629). -/
  half : Option HalfChange
  /-- Voltage changes in progress (R630). -/
  ramps : List Ramp
  /-- Requests of the PMBus master; the first is the transaction in progress (R633). -/
  pmb : List PmbRequest
  /-- The power-state change in progress: the state being left and its target (R626). -/
  goal : Option (Nat × Nat)
  /-- Rails whose enable output is high (R624). -/
  enabled : List Nat
  /-- Rails still to fall, the one falling first (R634). -/
  off : List Nat
  /-- Every egress channel is held safe by a power state or by the start (R592, R626, R635). -/
  safe : Bool
  /-- VAON, the reference and PORST_N are good (R764, R765). -/
  vaon : Bool
  /-- The estimates of the last 100 governor intervals in 0.1 W, newest first, and the correction (R639). -/
  loads : List Nat
  bias : Int
  /-- Governor intervals since the start, and the cycles withheld in the step in progress (R639). -/
  ticks : Nat
  withheld : Nat
  /-- One more than the time of the last event 0x1301 (R639). -/
  warned : Nat
  /-- The throttle level of each half, and the time of its last change (R640). -/
  kWest : Nat
  kEast : Nat
  kWestAt : Nat
  kEastAt : Nat
  /-- The time of the last governor interval (R639). -/
  ranAt : Nat
  /-- THERM_N is low (R767). -/
  thermN : Bool
  /-- The block's MODE_VIOLATION flag (R59), which no register of R642 shows. -/
  violated : Bool
  deriving DecidableEq, Repr

/-- Power right after reset: the halves matched at the fused clock, egress held until run. -/
def Power.start : Power := ⟨800, 800, false, none, [], [], none, [], [], true, true, [], 0, 0, 0, 0, 0, 0, 0, 0, 0, false,
  false⟩

/-- The start sequence (R591). -/
structure Start where
  /-- 0 not begun, 1 rails, 2 clearing, 3 self-test, 4 the firmware's steps, 5 run, 6 halted by the boot ROM
  (R591 to R593). -/
  stage : Nat
  /-- The kind of this start (R590). -/
  kind : Nat
  /-- The rail whose power-good the sequencer awaits, and failed tries (R634, R635). -/
  rail : Option Nat
  tries : Nat
  /-- The time of the power-good of the last rail (R592). -/
  pgAt : Nat
  /-- The state and cause of each physical tile in the defect map, state + 16 cause, as TILE_ENTRY has them (R566, R595). -/
  map : Nums
  /-- A start with the memory test has not completed since (R590). -/
  testDue : Bool
  /-- Tiles whose firmware is released, and tiles whose whole image failed, with the number of attempts (R612, R613). -/
  released : List Nat
  misses : Nums
  /-- DRAM mode registers written: sub · 2^12 + rank · 2^11 + device · 2^8 + address, and one more than the value (R621). -/
  modes : Nums
  /-- What the fuses hold (R593). -/
  fuses : Fuses
  /-- DDR_CTRL as firmware programs it (R600). -/
  ddr : Word
  /-- The 32.768 kHz crystal runs (R626); TESTEN is high (R768). -/
  xtal : Bool
  testen : Bool
  /-- A self-test runs (R594). -/
  bist : Bool
  /-- Subchannels that train from scratch, and subchannel ranks that passed their verify, as 2 sub + rank (R601). -/
  scratch : List Nat
  verified : List Nat
  /-- Quads whose memory test is over; the time from which the phase of a quad's test counts, and its retention passes
  (R602 to R604). -/
  tested : List Nat
  testAt : Nums
  passes : Nums
  /-- The generation of the last tile image sent (R608), and one more than the time of the end of step 8 (R614). -/
  gen : Nat
  fwAt : Nat
  /-- A worker's image from its manager: header as count, check value, version and entry offset, and its chunks (R614). -/
  head : Option (Nat × Nat × Nat × Nat)
  chunks : List (Nat × List Byte)
  /-- A trip or rail fault that no start has told yet (R635, R641). -/
  trip : Bool
  deriving DecidableEq, Repr

/-- The fuses of the model's device until COLD_START says otherwise (log entry 1): variant code 1, 800 MHz, 140 W. -/
def Fuses.model : Fuses := ⟨0, 147005441#32, 0, [], none⟩

/-- No start begun. -/
def Start.none : Start := ⟨0, 0, .none, 0, 0, [], false, [], [], [], Fuses.model, 0, true, false, false, [], [], [], [], [], 0, 0,
  .none, [], false⟩

/-- What a switch with RETAIN 1 saves of an outgoing image: the registers and bytes of the tiles and pods, the delay
stores, the window buffers, and the step at which it left (R118, R119, log entries 134, 135). -/
structure Retained where
  regs : List (Nat × Word)
  bytes : List (Nat × Byte)
  delay : Lists (BitVec 128)
  delayWait : Lists (BitVec 128)
  spilled : Nums
  spillRead : Nums
  delivery : Delivery
  step : Nat
  base : Nat
  deriving DecidableEq, Repr

/-- An image at its index: 1 loading, 2 loaded, 3 running, 4 load failed (R565); where a load reads it and its length;
the progress of its load; what its last switch saved; and the values written to its windows, as index, subindex, item and
value (R56). -/
structure Image where
  index : Nat
  state : Nat
  info : ImageInfo
  source : Nat
  length : Nat
  crc : Option Nat
  progress : Progress
  retained : Option Retained
  writes : List (Nat × Nat × Nat × Nat)
  deriving DecidableEq, Repr

/-- A staged write: index, subindex, the item its selector named, and the value (R65, R568). -/
structure Staged where
  index : Nat
  sub : Nat
  item : Nat
  value : Nat
  deriving DecidableEq, Repr

/-- The staging set, and a set accepted for a launch with its first step (R65, R67, R68). -/
structure Staging where
  writes : List Staged
  accepted : List (Nat × List Staged)
  deriving DecidableEq, Repr

/-- The state of the block. -/
structure State where
  /-- The register file: addresses rising, no entry equal to the register's reset value. -/
  regs : List (Nat × Word)
  /-- Memory over the global address map (R37): addresses rising, no entry 0. -/
  mem : List (Nat × Byte)
  /-- One more than the high word latched by a read of its low word (R12), by address of the high word. -/
  latches : Nums
  /-- The waiting commands, first in, first out. -/
  pending : List Instr
  /-- The free-value counter: each open value takes the next one (the model's own field, log entry 5). -/
  freeCount : Nat
  /-- Events waiting in their blocks' queues (R709), oldest first. -/
  events : List Event
  /-- The event mesh. -/
  mesh : Mesh
  /-- Events already logged in the step in progress, for those logged once per step (the rules' own limits). -/
  once : List Nat
  /-- Delivery of the step most recently launched is open (R86, R88). -/
  deliveryOpen : Bool
  /-- The step most recently launched, c of R88; a worker's and a standalone device's clock share it. -/
  launched : Nat
  /-- The register file as the update broadcast latched it (R134). -/
  scanRegs : List (Nat × Word)
  /-- Values of dictionary objects that no register holds, by object key; an unlisted object has its default (R573 to R588). -/
  objs : Nums
  /-- Fault detection and the fault lane. -/
  fault : Faults
  /-- s_load, the first step of the running image (R718). -/
  loadStep : Nat
  /-- Receive queues whose fill map is being cleared, as unit and index; the manager's unit is 1,152 (R362). -/
  clearing : List (Nat × Nat)
  /-- Receive queues whose freed credits are due to go back, as unit and index (R369). -/
  creditDue : List (Nat × Nat)
  /-- What the last gap scan saw of an open queue with OOO set, key 1,024 unit + index: 1 + HEAD_SEQ + AVAIL modulo 4,096 (R372). -/
  oooSeen : Nums
  /-- Delivery in the pods. -/
  delivery : Delivery
  /-- The scheduled mesh, the stream engines and the pod stream interfaces. -/
  streams : Streams
  /-- The memories' own state beside their bytes. -/
  memories : Memories
  /-- Progress records by OP (R563), in canonical form; an unlisted operation is idle. -/
  progress : List (Nat × Progress)
  /-- The I/O hub. -/
  hub : Hub
  /-- What left the device on its outside interfaces, oldest first. -/
  sent : List Output
  /-- What the last command that reads, or that is answered, gave back to its sender. -/
  answer : List Nat
  /-- Wake patterns seen and not yet taken: source and detail (R636). -/
  wakes : List (Nat × Nat)
  /-- The two CAN controllers, by number; an unlisted one is idle. -/
  can : List (Nat × CanCtl)
  /-- The bus mode in force, latched at the last reset communication (R527, R556). -/
  canMode : Nat
  /-- In STANDBY mode, traffic is on bus 1 (R527). -/
  canStandby : Bool
  /-- NMT state: 127 pre-operational, 5 operational, 4 stopped (R528, R529). -/
  nmt : Nat
  /-- The egress guard. -/
  guard : Guard
  /-- The security block. -/
  sec : Security
  /-- The selectors of each session slot, key 8 selector + slot (R567). -/
  selectors : Nums
  /-- The calendar reference that the last TIME message carried (R528). -/
  calendar : Nat
  /-- The EMCY producer (R578). -/
  emcy : Emcy
  /-- The manager firmware. -/
  fw : Firmware
  /-- The security block waits for check unit 7 (R671). -/
  chkWait : Bool
  /-- The timers. -/
  timers : Timers
  /-- A hang analysis in progress. -/
  hang : Option Hang
  /-- The test access port. -/
  jtag : Jtag
  /-- The DMA descriptors that the host has posted and the channels have not completed, in the order of posting: channel and
  number (R488). -/
  posted : List (Nat × Nat)
  /-- Accesses of the host and of JTAG to tile and pod windows that wait for their register response: tag, and 5 for the host or 6 for JTAG (R41, R276). -/
  accesses : List (Nat × Nat)
  /-- The Tierlink ports, by number; an unlisted one is down. -/
  tlk : List (Nat × TlkPort)
  /-- Packets received and not yet acted on: port, class, data flits. -/
  tlkIn : List (Nat × Nat × List (List Byte))
  /-- The step clock. -/
  clock : Clock
  /-- The adjustment of the timebase (R78). -/
  tbRate : Rate
  /-- Power, clocks and temperature. -/
  power : Power
  /-- The start sequence. -/
  start : Start
  /-- The per-step sums at the last close, by object key (R312, R717). -/
  totals : Nums
  /-- The last valid counter record that firmware read of each logical ID: its tile, then the counters 0 to 8 (R719, R721). -/
  records : Lists Nat
  /-- The images in DRAM (R117, R565). -/
  images : List Image
  /-- Staged dictionary writes. -/
  staging : Staging
  /-- Written FLASH objects not yet saved, with the time of the write (R571). -/
  unsaved : List (Nat × Nat × Nat)
  /-- The node-ID in force, latched at the last reset communication (R556). -/
  node : Nat
  /-- Every FLASH object returns to its default at the next start (R571). -/
  restoreDue : Bool
  /-- The CANopen FD layer. -/
  field : Field
  /-- The gateways to workers. -/
  gates : Gates
  deriving DecidableEq, Repr

/-- The block right after reset: every register at the value of its table (the register file lists none), every
queue, buffer and engine empty, memory with nothing listed. -/
def State.reset : State where
  regs := []
  mem := []
  latches := []
  pending := []
  freeCount := 0
  events := []
  mesh := Mesh.empty
  once := []
  deliveryOpen := false
  launched := 0
  scanRegs := []
  objs := []
  fault := Faults.none
  loadStep := 0
  clearing := []
  creditDue := []
  oooSeen := []
  delivery := Delivery.empty
  streams := Streams.empty
  memories := Memories.empty
  progress := []
  hub := Hub.empty
  sent := []
  answer := []
  wakes := []
  can := []
  canMode := 0
  canStandby := false
  nmt := 127
  guard := Guard.empty
  sec := Security.empty
  selectors := []
  calendar := 0
  emcy := Emcy.none
  fw := Firmware.start
  chkWait := false
  timers := Timers.empty
  hang := none
  jtag := Jtag.reset
  posted := []
  accesses := []
  tlk := []
  tlkIn := []
  clock := Clock.stopped
  tbRate := Rate.none
  power := Power.start
  start := Start.none
  totals := []
  records := []
  images := []
  staging := ⟨[], []⟩
  unsaved := []
  node := 1
  restoreDue := false
  field := Field.empty
  gates := Gates.idle

end Sys2Proof.Machine
end

