-- ==== Sys2Proof/Machine/Ops.lean ====
section
/-! DEFINITION. The named operations over registers, memory, the event log and the free values that every meaning is
made of. -/

namespace Sys2Proof.Machine

/-- The outcome of a command. -/
abbrev Result := Host.Outcome State Fault Refusal

/-- A state with the waiting commands `q`. -/
def State.withQueue (t : State) (q : List Instr) : State := { t with pending := q }

/-- A command ends in a next state; its effect is on everything but the queue of waiting commands. -/
def State.done (s t : State) : Result := .next (t.withQueue s.pending)

namespace State

/-! Registers. -/

/-- The word a register holds. -/
def reg (s : State) (a : Nat) : Word := Sparse.find (RegMap.resetAt a) s.regs a

/-- Store a word in a register. -/
def setReg (s : State) (a : Nat) (w : Word) : State :=
  { s with regs := Sparse.store (RegMap.resetAt a) s.regs a w }

/-- A field of a register. -/
def get (s : State) (f : RF) : Nat := getF (s.reg f.addr) f.lo f.len

/-- Store a field of a register, the rest of the register as it was. -/
def put (s : State) (f : RF) (v : Nat) : State := s.setReg f.addr (setF (s.reg f.addr) f.lo f.len v)

/-- A flag of a register. -/
def flag (s : State) (f : RF) : Bool := s.get f != 0

/-- Add to a counter field, saturating at its width. -/
def count (s : State) (f : RF) (n : Nat := 1) : State := s.put f (satInc f.len (s.get f) n)

/-- Raise a high-water field to a level. -/
def raiseTo (s : State) (f : RF) (v : Nat) : State := s.put f (max (s.get f) v)

/-- A 64-bit quantity by the address of its low word (R12). -/
def get64 (s : State) (a : Nat) : Nat := (s.reg a).toNat + 2 ^ 32 * (s.reg (a + 4)).toNat

/-- Store a 64-bit quantity by the address of its low word. -/
def put64 (s : State) (a v : Nat) : State :=
  (s.setReg a (BitVec.ofNat 32 v)).setReg (a + 4) (BitVec.ofNat 32 (v / 2 ^ 32))

/-- Add to a 64-bit counter, which wraps. -/
def add64 (s : State) (a n : Nat) : State := s.put64 a (s.get64 a + n)

/-- A field that only the authorised-write path writes. -/
def authField (f : FieldRow) : Bool := f.acc = .auth || f.acc = .bound || f.acc = .woAuth

/-- The fields of a register that the authorised-write path writes. -/
def authFields (a : Nat) : List FieldRow :=
  match RegMap.rowOf a with
  | some r => r.fields.filter authField
  | none => []

/-! Memory. -/

/-- What the byte stored at an address is combined with: nothing, or the free byte of the last re-form of the map that
lost the address (R426). -/
def veil (s : State) (a : Nat) : Byte :=
  match s.memories.lost.find? fun l => l.1 ≤ a && a < 0x9000000000 with
  | some l => Config.lostByte l.2 a
  | none => 0

/-- The byte at an address; an address nothing is listed for reads 0 (log entry 4), or its free byte. -/
def rd8 (s : State) (a : Nat) : Byte := Sparse.find 0 s.mem a ^^^ s.veil a

/-- Store a byte. -/
def raw8 (s : State) (a : Nat) (b : Byte) : State := { s with mem := Sparse.store 0 s.mem a (b ^^^ s.veil a) }

/-- `n` bytes from an address on. -/
def rdBytes (s : State) (a : Nat) : Nat → List Byte
  | 0 => []
  | n + 1 => s.rd8 a :: s.rdBytes (a + 1) n

/-- Store bytes from an address on. -/
def rawBytes (s : State) (a : Nat) : List Byte → State
  | [] => s
  | b :: bs => (s.raw8 a b).rawBytes (a + 1) bs

/-- The little-endian number of `n` bytes (R9). -/
def rdLe (s : State) (a n : Nat) : Nat := ofLe (s.rdBytes a n)

/-! Free values. -/

/-- The free value the next open value takes, cut to `w` bits. -/
def nextFree (s : State) (w : Nat) : Nat := (Config.freeValue s.freeCount).toNat % 2 ^ w

/-- Step on to the next free value. -/
def useFree (s : State) : State := { s with freeCount := s.freeCount + 1 }

/-! Time and steps. -/

/-- The global timebase (R76). -/
def now (s : State) : Nat := s.get64 Reg.TB_COUNT_LO

/-- The timebase is at `t` or later: a time-driven event finds the time it is due at (log entry 7). -/
def reach (s : State) (t : Nat) : State := if s.now < t then s.put64 Reg.TB_COUNT_LO t else s

/-- The number of the step in progress or next to launch (R123). -/
def stepNum (s : State) : Nat := s.get64 Reg.STEP_NUM_LO

/-- The step clock runs. -/
def running (s : State) : Bool := s.flag Reg.STEP_CTRL_RUN

end State

/-- Blocks in the fixed order of R709. -/
inductive Block where
  | sec | pwr | flt | ddr | pod | tb | step | sync | evm | scm | str | ne | de | pop | q | sen | egr | host | tlk | can
  | chk | tmr | dbg | app
  deriving DecidableEq, Repr

/-- The place of a block in the order of R709. -/
def Block.rank (b : Block) : Nat := b.ctorIdx

/-- A block puts an event into its queue of 4; a full queue drops it and counts it in FLT_LOG_LOST (R709).
The entry keeps the timebase value and the step of the event (R564). -/
def State.log (s : State) (b : Block) (inst code source : Nat) (p0 p1 : Nat := 0) : State :=
  if 4 ≤ (s.events.filter fun e => e.rank = b.rank ∧ e.inst = inst).length then
    s.count Reg.FLT_LOG_LOST_COUNT
  else
    { s with events := s.events ++
        [⟨b.rank, inst, code, source, p0 % 2 ^ 32, p1 % 2 ^ 32, s.now, s.stepNum⟩] }

/-- The SOURCE of an event of the manager complex (R564). -/
abbrev srcManager : Nat := 0xFFFE

/-- The SOURCE of an event of the device as a whole (R564). -/
abbrev srcDevice : Nat := 0xFFFF

/-! The DRAM map. -/

/-- The first address of DRAM (R37). -/
abbrev dramBase : Nat := 0x1000000000
/-- Slices of each subchannel: 8, 16 or 32 (R419, R421). -/
def State.slices (s : State) : Nat := 8 * 2 ^ (s.get (Reg.DDR_CTRL_DENSITY 0) + s.get (Reg.DDR_CTRL_RANKS 0))

/-- The live subchannels of the map in ascending order (R421). -/
def State.liveSubs (s : State) : List Nat := (List.range 16).filter fun q => bits (s.get (Reg.DDR_MAP_STAT_LIVE 0)) q 1 = 1

/-- Where a DRAM address lies: subchannel and offset within it, or none where it is unmapped (R421). -/
def State.dramAt (s : State) (a : Nat) : Option (Nat × Nat) :=
  if a < dramBase ∨ 0x9000000000 ≤ a then none
  else
    let o := a - dramBase
    let k := o / 2 ^ 30
    let live := s.liveSubs
    let n := live.length
    if n = 0 then none
    else if s.slices ≤ k / n then none
    else if k / n = s.slices - 1 ∧ 2 ^ 30 - 2 ^ 21 ≤ o % 2 ^ 30 then none
    else some (live.getD (k % n) 0, k / n * 2 ^ 30 + o % 2 ^ 30)

namespace State

/-! Fault injection (R735). -/

/-- An injection of a kind is armed on a target. -/
def injecting (s : State) (suspect kind : Nat) : Bool :=
  s.flag Reg.DBG_INJ_STAT_ARMED && s.get Reg.DBG_INJ_TARGET_ID = suspect && s.get Reg.DBG_INJ_KIND_KIND = kind

/-- `n` items took the armed injection; after the last it disarms and logs event 0x9402. -/
def injected (s : State) (n : Nat := 1) : State :=
  let left := s.get Reg.DBG_INJ_STAT_LEFT
  let s := (s.put Reg.DBG_INJ_STAT_LEFT (left - n)).put Reg.DBG_INJ_DONE_COUNT (s.get Reg.DBG_INJ_DONE_COUNT + min n left)
  if left ≤ n then (s.put Reg.DBG_INJ_STAT_ARMED 0).log .dbg 0 0x9402 srcManager else s

/-- The suspect whose memory an address lies in: a tile's data SRAM, a bank of pod memory, or a bank of manager SRAM
(R386, R397, R403, R411, R692). -/
def memorySuspect (a : Nat) : Option Nat :=
  if 0x100000000 ≤ a ∧ a < 0x100000000 + 0x40000 * 1152 then
    (if (a - 0x100000000) % 0x40000 < 0x28000 then some ((a - 0x100000000) / 0x40000) else none)
  else if 0x180000000 ≤ a ∧ a < 0x180000000 + 0x100000 * 72 then
    let o := a - 0x180000000
    if o % 0x100000 < 0x80000 then some (0x30000 + 32 * (o / 0x100000) + bits (o % 0x100000) 5 5) else none
  else if 0x400000 ≤ a ∧ a < 0x7C0000 then some (0xD0000 + (a - 0x400000) / 16 % 30)
  else none

/-- The 64-bit words of a write at `a` of `n` bytes that lie in the target of an armed memory injection. -/
def injectedWords (s : State) (a n : Nat) : Nat :=
  ((List.range (n / 8 + 2)).filter fun i =>
    let w := (a / 8 + i) * 8
    decide (w < a + n) && match memorySuspect w with
      | some x => s.injecting x 5 || s.injecting x 6
      | none => false).length

/-- The 64-byte bursts of a write that lie in the subchannel of an armed injection. -/
def injectedBursts (s : State) (a n : Nat) : Nat :=
  ((List.range (n / 64 + 2)).filter fun i =>
    let w := (a / 64 + i) * 64
    decide (w < a + n) && match s.dramAt w with
      | some x => s.injecting (0x40000 + x.1) 5 || s.injecting (0x40000 + x.1) 6
      | none => false).length

/-- A write that an armed memory injection meets (log entry 25). -/
def injectWrite (s : State) (a n : Nat) : State :=
  if s.flag Reg.DBG_INJ_STAT_ARMED then
    let k := s.injectedWords a n + s.injectedBursts a n
    if k = 0 then s else s.injected k
  else s

/-! Writing memory. -/

/-- A write to the load region that SEC_SIG_CTRL names clears VALID from GO on (R653, R656). -/
def sigTouch (s : State) (a n : Nat) : State :=
  let r := 0x400000 + 0x180000 * s.get Reg.SEC_SIG_CTRL_REGION
  if (s.flag Reg.SEC_SIG_STAT_BUSY || s.flag Reg.SEC_SIG_STAT_VALID) && decide (a < r + 0x180000) && decide (r < a + n) then
    { s with fw := { s.fw with dirty := true } }.put Reg.SEC_SIG_STAT_VALID 0
  else s

/-- Store bytes from an address on. -/
def wrBytes (s : State) (a : Nat) (bs : List Byte) : State :=
  ((s.rawBytes a bs).injectWrite a bs.length).sigTouch a bs.length

/-- Store a byte. -/
def wr8 (s : State) (a : Nat) (b : Byte) : State := s.wrBytes a [b]

/-- Store a number in `n` bytes, little-endian (R9). -/
def wrLe (s : State) (a n v : Nat) : State := s.wrBytes a (leBytes n v)

end State

/-- Status codes of R277. -/
inductive Status where
  | ok | noCredit | staleEpoch | late | fenced | scaleSync | refused | accessError
  deriving DecidableEq, Repr

/-- The 4-bit code of a status (R277). -/
def Status.code (t : Status) : Nat := t.ctorIdx

/-! Interrupts. -/

/-- What leaves the device leaves by its pins; an interrupt to a core does not. -/
def Output.onPins : Output → Bool
  | .irq _ _ => false
  | _ => true

/-- Something leaves the device. While EXTEST has the pins, nothing leaves by them (R733). -/
def State.emitOut (s : State) (x : Output) : State :=
  if x.onPins && s.flag Reg.DBG_JTAG_STAT_EXTEST then s else { s with sent := s.sent ++ [x] }

/-- Raise an interrupt to a core while bit `bit` of its enable register is 1. -/
def State.raise (s : State) (enable bit : Nat) : State :=
  if (s.reg enable).getLsbD bit then s.emitOut (.irq enable bit) else s

/-- Raise an interrupt source of the host: a message on its vector, or its pending bit while it is masked (R491). -/
def State.msix (s : State) (n : Nat) : State :=
  if (s.reg Reg.HOST_IRQ_MASK).getLsbD n then s.emitOut (.msix (s.get (Reg.HOST_IRQ_MAP_VEC n)))
  else s.put ⟨Reg.HOST_IRQ_STAT, n, 1⟩ 1

/-! Tables by key. -/

/-- The list held under a key. -/
def Lists.at {α : Type} [DecidableEq α] (m : Lists α) (k : Nat) : List α := Sparse.find [] m k

/-- Replace the list held under a key. -/
def Lists.put {α : Type} [DecidableEq α] (m : Lists α) (k : Nat) (l : List α) : Lists α := Sparse.store [] m k l

/-- Append one item under a key. -/
def Lists.push {α : Type} [DecidableEq α] (m : Lists α) (k : Nat) (x : α) : Lists α := m.put k (m.at k ++ [x])

/-- Drop the first item under a key. -/
def Lists.drop1 {α : Type} [DecidableEq α] (m : Lists α) (k : Nat) : Lists α := m.put k (m.at k).tail

/-- The number held under a key. -/
def Nums.at (m : Nums) (k : Nat) : Nat := Sparse.find 0 m k

/-- Replace the number held under a key. -/
def Nums.put (m : Nums) (k v : Nat) : Nums := Sparse.store 0 m k v

/-- Add to the number held under a key. -/
def Nums.add (m : Nums) (k v : Nat) : Nums := m.put k (m.at k + v)

/-! Reads of 64-bit quantities. -/

/-- A read of the low word of a 64-bit quantity: the reader takes it, and the high word is latched (R12). -/
def State.latchLow (s : State) (a : Nat) : State :=
  { s with answer := [(s.reg a).toNat], latches := s.latches.put (a + 4) ((s.reg (a + 4)).toNat + 1) }

/-! The grid. -/

/-- Column of a physical tile. -/
def colOf (t : Nat) : Nat := t % 36

/-- Row of a physical tile. -/
def rowOf (t : Nat) : Nat := t / 36

/-- The pod of a physical tile. -/
def podOf (t : Nat) : Nat := rowOf t / 4 * 9 + colOf t / 4

/-- The index of a physical tile within its pod. -/
def inPod (t : Nat) : Nat := rowOf t % 4 * 4 + colOf t % 4

/-- The physical tile of a pod and an index within it. -/
def podTile (p i : Nat) : Nat := (p / 9 * 4 + i / 4) * 36 + p % 9 * 4 + i % 4

/-- The half a physical tile's core clock comes from (R33). -/
def halfOf (t : Nat) : Half := if colOf t < 18 then .west else .east

/-- The throttle level in force in a half (R640). -/
def State.throttle (s : State) : Half → Nat
  | .west => s.get Reg.PWR_HALF_STAT_KW
  | .east => s.get Reg.PWR_HALF_STAT_KE

/-- Sixteen times the rate of a half in MHz: its clock less the pulses that its throttle level removes (R628, R640). -/
def State.mhz16 (s : State) (h : Half) : Nat :=
  (match h with
    | .west => s.power.west
    | .east => s.power.east) * (16 - s.throttle h)

/-- The rate of a half in MHz. -/
def State.mhz (s : State) (h : Half) : Nat := s.mhz16 h / 16

/-- The clock of the slower half in MHz. -/
def State.slowMhz (s : State) : Nat := min (s.mhz .west) (s.mhz .east)

/-- Timebase counts that `n` cycles of a tile's half take, rounded up; a count is 5 ns (R76). -/
def State.cycles (s : State) (t n : Nat) : Nat := ceilDiv (n * 3200) (max 1 (s.mhz16 (halfOf t)))

/-- Log an event that its rule limits to once per step for each unit `key`. -/
def State.logOnceBy (s : State) (key : Nat) (b : Block) (inst code source : Nat) (p0 p1 : Nat := 0) : State :=
  let k := (b.rank * 65536 + code) * 2048 + key
  if k ∈ s.once then s else { s with once := k :: s.once }.log b inst code source p0 p1

/-- Log an event that its rule limits to once per step and block. -/
def State.logOnce (s : State) (b : Block) (inst code source : Nat) (p0 p1 : Nat := 0) : State :=
  s.logOnceBy inst b inst code source p0 p1

/-- A tile's fence bit (R305, R712). -/
def State.fenced (s : State) (t : Nat) : Bool := (s.reg (Reg.FLT_FENCE (t / 32))).getLsbD (t % 32)

/-- Add to operation counter `n` of a tile (R714). -/
def State.countOp (s : State) (t n k : Nat) : State := s.add64 (Reg.DBG_OPS0_LO t + 8 * n) k

/-- Count a pip or item dropped in register field `f` and in the drop counter `n` of its tile (R708, R714). -/
def State.countDrop (s : State) (t n : Nat) (f : RF) (k : Nat := 1) : State := (s.count f k).countOp t n k

/-! Register writes by fields (R10, R16). -/

/-- A field takes a write: writable by its access, with an assigned encoding. -/
def takes (f : FieldRow) (v : Nat) : Bool :=
  match f.acc with
  | .rw | .woData => f.least ≤ v && v ≤ f.most
  | _ => false

/-- A register word after a plain write: writable fields take assigned encodings, W1C fields clear where a 1 is written,
every other field and reserved bit keeps its value (R10, R16). `only` picks the fields a caller lets through. -/
def writeFields (fields : List FieldRow) (only : FieldRow → Bool) (old new : Word) : Word :=
  fields.foldl (fun w f =>
    if !only f then w
    else match f.acc with
      | .w1c => setF w f.lo f.len ((BitVec.ofNat 32 (getF w f.lo f.len) &&& ~~~ BitVec.ofNat 32 (getF new f.lo f.len)).toNat)
      | _ => if takes f (getF new f.lo f.len) then setF w f.lo f.len (getF new f.lo f.len) else w) old

/-- A plain write of a register, through the fields a caller lets through. -/
def State.writeOnly (s : State) (a : Nat) (w : Word) (only : FieldRow → Bool) : State :=
  match RegMap.rowOf a with
  | none => s
  | some r => s.setReg a (writeFields r.fields only (s.reg a) w)

/-- A plain write of a register (R16). -/
def State.writePlain (s : State) (a : Nat) (w : Word) : State := s.writeOnly a w fun _ => true

/-- A register's word with its write-only fields reading zero (R10). -/
def State.shown (s : State) (a : Nat) : Word :=
  match RegMap.rowOf a with
  | none => 0
  | some r => r.fields.foldl (fun w f =>
      match f.acc with
      | .wo | .woData | .woAuth => setF w f.lo f.len 0
      | _ => w) (s.reg a)

/-! Dictionary objects that no register holds. -/

/-- The value of an object, as the pattern of its type. -/
def State.obj (s : State) (index sub : Nat) : Nat :=
  Sparse.find (ObjMap.dflt (ObjMap.key index sub)) s.objs (ObjMap.key index sub)

/-- Store the value of an object. -/
def State.setObj (s : State) (index sub v : Nat) : State :=
  { s with objs := Sparse.store (ObjMap.dflt (ObjMap.key index sub)) s.objs (ObjMap.key index sub) v }

/-- Add to an object that counts, saturating at `w` bits. -/
def State.countObj (s : State) (w index sub : Nat) (n : Nat := 1) : State :=
  s.setObj index sub (satInc w (s.obj index sub) n)

/-- A refused request leaves its reason and its object (R61, R559). -/
def State.refusal (s : State) (reason index sub : Nat) : State :=
  (s.setObj 0x2402 5 reason).setObj 0x2402 6 (index * 256 + sub)

/-! Progress records (R552). -/

/-- The progress record of an operation: 1 memory test, 2 image load, 3 checkpoint restore, 4 update, 5 scrub. -/
def State.prog (s : State) (op : Nat) : Progress := Sparse.find .idle s.progress op

/-- Replace a progress record. -/
def State.setProg (s : State) (op : Nat) (p : Progress) : State := { s with progress := Sparse.store .idle s.progress op p }

/-- Start a progress record over `total` bytes. -/
def State.progStart (s : State) (op total : Nat) : State := s.setProg op ⟨1, 0, total, s.now⟩

/-- Move a progress record on. -/
def State.progAdd (s : State) (op n : Nat) : State := s.setProg op { s.prog op with position := (s.prog op).position + n }

/-- End a progress record as done (2), failed (3) or aborted (4). -/
def State.progEnd (s : State) (op st : Nat) : State := s.setProg op { s.prog op with state := st }

/-- An operation is running. -/
def State.busy (s : State) (op : Nat) : Bool := (s.prog op).state = 1

/-! Fault reports. -/

/-- The node of the manager complex and of the west edge. -/
abbrev edgeNode : Nat := 1152

/-- The fault-lane status register of a node (R394). -/
def fltStat (n : Nat) : Nat := if n < 1152 then Reg.SYNC_FLT_STAT n else Reg.ROOT_SYNC_FLT_STAT

/-- A suspect ID of class and index (R386). -/
abbrev suspectId (cls index : Nat) : Nat := cls * 65536 + index % 65536

/-- File a report at a node: suppressed within 1,024 steps of the last of the same suspect, lost where four are
pending (R386, R387). -/
def State.fileReport (s : State) (n suspect : Nat) : State :=
  let hist := s.fault.hist.at n
  if hist.any fun e => e.1 = suspect && s.stepNum < e.2 + 1024 then s.count ⟨fltStat n, 16, 16⟩
  else if 4 ≤ (s.fault.pend.at n).length then (s.put ⟨fltStat n, 8, 1⟩ 1).countObj 32 0x2901 3
  else
    let f := { s.fault with
      pend := s.fault.pend.push n suspect
      hist := s.fault.hist.put n (((suspect, s.stepNum) :: hist.filter fun e => e.1 ≠ suspect).take 8) }
    { s with fault := f }.put ⟨fltStat n, 0, 3⟩ (f.pend.at n).length

/-- What R687 counts against a threshold within a window. -/
inductive Detect where
  | linkCrc | beatCorrected | beatPoisoned | storm | sram | replica | bank
  deriving DecidableEq, Repr

/-- The threshold of a kind of detection (R687, R585). -/
def State.threshold (s : State) : Detect → Nat
  | .linkCrc => s.obj 0x2A20 1
  | .beatCorrected => s.obj 0x2A20 2
  | .beatPoisoned => 1
  | .storm => s.obj 0x2A20 4
  | .sram => s.obj 0x2A20 5
  | .replica => s.obj 0x2A20 6
  | .bank => 3

/-- The window in force for a kind of detection (R688). -/
def State.window (s : State) : Detect → Nat
  | .linkCrc | .beatCorrected | .beatPoisoned => s.now / 200000000
  | .storm => s.stepNum / 1024
  | .sram | .replica | .bank => s.now / 720000000000

/-- A block detects a transient fault of a suspect: it counts in its window, and it is reported at the node. The
detection that crosses the threshold is reported whatever was reported before, and its verdict waits for that report
(R387, R687, R692, log entry 9). -/
def State.detect (s : State) (n suspect : Nat) (d : Detect) : State :=
  let key := d.ctorIdx * 2 ^ 20 + suspect
  let w := s.window d
  let old := s.fault.counts.at key
  let c := (if old / 2 ^ 20 = w then old % 2 ^ 20 else 0) + 1
  let f := { s.fault with counts := s.fault.counts.put key (w * 2 ^ 20 + min c (2 ^ 20 - 1)) }
  if c = s.threshold d + 1 then
    let f := { f with
      due := if key ∈ f.due then f.due else f.due ++ [key]
      hist := f.hist.put n ((f.hist.at n).filter fun e => e.1 ≠ suspect) }
    { s with fault := f }.fileReport n suspect
  else { s with fault := f }.fileReport n suspect

/-! Errors in SRAM (R407, R408, R410). -/

/-- An error in bank `bank`, row `row` of a tile's SRAM: counted, logged once per step and, where it is uncorrectable,
reported. Banks 20 to 23 are the instruction SRAM. -/
def State.tileError (s : State) (t bank row : Nat) (fatal : Bool) : State :=
  let k := (if bank < 20 then 0 else 2) + (if fatal then 1 else 0)
  let s := s.put ⟨Reg.FLT_MEM_STATUS t, k, 1⟩ 1
  let s := (s.put (Reg.FLT_MEM_STATUS_LAST_BANK t) bank).put (Reg.FLT_MEM_STATUS_LAST_ROW t) row
  let s := (s.count ⟨Reg.FLT_MEM_DCE t + 4 * k, 0, 32⟩).logOnce .flt (t + 1) (0x2101 + k) t
  if fatal then s.detect t (suspectId 0 t) .sram else s

/-- An error in a bank of pod memory; its report goes through the node of the pod's first tile (R410, log entry 14). -/
def State.podError (s : State) (p bank row : Nat) (fatal : Bool) : State :=
  let k := if fatal then 1 else 0
  let s := s.put ⟨Reg.POD_STATUS p, k, 1⟩ 1
  let s := (s.put (Reg.POD_STATUS_LAST_BANK p) bank).put (Reg.POD_STATUS_LAST_ROW p) row
  let s := (s.count ⟨Reg.POD_ECC_CE p + 4 * k, 0, 32⟩).logOnce .pod p (0x2111 + k) srcDevice
  if fatal then s.detect (podTile p 0) (suspectId 3 (32 * p + bank)) .bank else s

/-- An error in a bank of manager SRAM. -/
def State.managerError (s : State) (bank row : Nat) (fatal : Bool) : State :=
  let k := if fatal then 1 else 0
  let s := s.put ⟨Reg.FLT_MSRAM_STATUS, k, 1⟩ 1
  let s := (s.put Reg.FLT_MSRAM_STATUS_LAST_BANK bank).put Reg.FLT_MSRAM_STATUS_LAST_ROW row
  (s.count ⟨Reg.FLT_MSRAM_CE + 4 * k, 0, 32⟩).logOnce .flt 0 (0x2121 + k) srcManager

/-- A read of data SRAM that meets an error, by byte offset (R397). -/
def State.tileHit (s : State) (t : Nat) (h : EccHit) : State :=
  s.tileError t (h.addr / 16 % 20) (h.addr / 16 / 20 % 512) h.fatal

/-- A read of pod memory that meets an error, by byte offset (R403). -/
def State.podHit (s : State) (p : Nat) (h : EccHit) : State :=
  s.podError p (bits h.addr 5 5) (bits h.addr 10 9) h.fatal

/-- A read of the general region of manager SRAM that meets an error, by byte offset (R411). -/
def State.managerHit (s : State) (h : EccHit) : State :=
  s.managerError (h.addr / 16 % 30) (h.addr / 16 / 30 % 8192) h.fatal

/-! Grid neighbours and links. -/

/-- The router across port `p` of router `r`, where that port has a link to one (R267). -/
def neighbour (r p : Nat) : Option Nat :=
  match p with
  | 0 => if rowOf r = 0 then none else some (r - 36)
  | 1 => if colOf r = 35 then none else some (r + 1)
  | 2 => if rowOf r = 31 then none else some (r + 36)
  | _ => if colOf r = 0 then none else some (r - 1)

/-- The port at the other end of a link. -/
abbrev facing (p : Nat) : Nat := (p + 2) % 4

/-- A link of a router is live (R268). -/
def State.linkUp (s : State) (r p : Nat) : Bool := (s.reg (Reg.EVM_LINK r)).getLsbD p

/-- A tile is a hole: every link into it is down (R23, R307). -/
def State.isHole (s : State) (t : Nat) : Bool := s.get (Reg.EVM_LINK_UP t) = 0

/-- The role in effect: 0 STANDALONE, 1 MANAGER, 2 WORKER (R521). -/
def State.role (s : State) : Nat := s.get Reg.TLK_HIER_CTRL_ROLE

/-! The address map beyond the tile and pod windows (R37, R44, R421, R773). -/

/-- The general region of manager SRAM (R44). -/
abbrev sramBase : Nat := 0x400000
/-- The bytes of the general region (R773). -/
abbrev sramBytes : Nat := 0x3C0000
/-- The bytes of a tile's data SRAM (R42). -/
abbrev dataBytes : Nat := 0x28000
/-- The bytes of a pod's memory (R43). -/
abbrev podBytes : Nat := 0x80000

/-- A subchannel is retired (R425). -/
def State.subRetired (s : State) (q : Nat) : Bool := s.flag (Reg.DDR_SUB_STAT_RETIRED (q / 4) (q % 4))

/-- An address is mapped and its subchannel answers (R421, R425). -/
def State.dramOk (s : State) (a : Nat) : Bool := (s.dramAt a).any fun x => !s.subRetired x.1

/-- Both ends of a range of at most 2 MiB are mapped, and with them all of it (R421). -/
def State.dramMapped (s : State) (a len : Nat) : Bool := s.dramOk a && s.dramOk (a + len - 1)

/-- The global address of an offset within a subchannel of the map (R421). -/
def State.dramAddr (s : State) (q off : Nat) : Nat :=
  dramBase + (off / 2 ^ 30 * s.liveSubs.length + s.liveSubs.idxOf q) * 2 ^ 30 + off % 2 ^ 30

/-! The logical tile tables (R619). -/

/-- The entry of code `c` in a table of 16-bit entries at `base`: the physical index, where VALID. -/
def State.lttAt (s : State) (base c : Nat) : Option Nat :=
  let e := bits (s.reg (base + 4 * (c / 2))).toNat (16 * (c % 2)) 16
  if bits e 15 1 = 1 then some (bits e 0 11) else none

/-- The physical index of a logical tile in a pod's table. -/
def State.podLtt (s : State) (p c : Nat) : Option Nat := if c < 1024 then s.lttAt (Reg.POD_LTT p 0) c else none

/-- The physical index of a logical tile or a spare code in the manager's table. -/
def State.mgrLtt (s : State) (c : Nat) : Option Nat :=
  if c = 0x400 ∨ 0x480 < c then none else s.lttAt (Reg.SEN_LTT 0) c

/-- The logical ID, or else the spare code, of a physical tile in the manager's table; 0x7FF where it has neither. -/
def State.codeOf (s : State) (t : Nat) : Nat :=
  ((List.range 0x481).find? fun c => s.mgrLtt c == some t).getD 0x7FF

/-- A tile that holds a logical ID. -/
def State.isLogical (s : State) (t : Nat) : Bool := s.codeOf t < 1024

/-- The state of a tile in the defect map. -/
def State.mapState (s : State) (t : Nat) : Nat := s.start.map.at t % 16

/-- A tile is a hole, disabled or fenced: it answers no access from outside its window and takes no contribution (R40, R201,
R595). -/
def State.shut (s : State) (t : Nat) : Bool :=
  s.isHole t || s.fenced t || decide (3 ≤ s.mapState t) || s.fault.retired.contains t

/-- The ticks that the timebase has taken (R78). -/
def State.ticks (s : State) : Int := s.now - s.tbRate.skew

/-- The timebase moves to an arbitrary value, which is logged (R76, R771). -/
def State.tbMove (s : State) (v : Nat) : State :=
  let s := { s with tbRate := { s.tbRate with skew := (v % 2 ^ 64 : Nat) - s.ticks } }
  (s.put64 Reg.TB_COUNT_LO v).log .tb 0 0x420D srcManager s.now v

/-- A spare tile: its engines and control core are clock-gated (R22). -/
def State.isSpare (s : State) (t : Nat) : Bool := 0x401 ≤ s.codeOf t && s.codeOf t ≤ 0x480

/-- The half whose PLL relocks is gated until it is locked (R629). -/
def State.relocking (s : State) (h : Half) : Bool := s.power.half.any fun c => c.stage = 2 && c.locks.contains h.ctorIdx

/-- The clock of a tile's place is gated, or its rail off: in IDLE, DOZE and OFF-WAKEABLE, and while its half relocks; pips and
beats then stay where they are (R625, R626, R629). -/
def State.coreGated (s : State) (t : Nat) : Bool :=
  (decide (1 ≤ s.get Reg.PWR_STATUS_STATE) && decide (s.get Reg.PWR_STATUS_STATE ≤ 3)) || s.relocking (halfOf t)

end Sys2Proof.Machine
end

