-- ==== Sys2Proof/Machine/Flags.lean ====
section
/-! DEFINITION. Arithmetic: the weight, scale and contribution formats of chapter "Number formats, scales and
rounding", the helpers of the neuron update, and the check-value algorithms. -/

namespace Sys2Proof.Machine

/-- A decoded operand: an exact pair of mantissa and exponent, an infinity with its sign, or not a number. -/
inductive Num where
  | fin (m : Int) (e : Int)
  | inf (neg : Bool)
  | nan
  deriving DecidableEq, Repr

/-- Sign applied to a magnitude. -/
def signed (neg : Bool) (m : Nat) : Int := if neg then -(m : Int) else m

/-- Decode of a stored weight by format code 0 int4, 1 int8, 2 E4M3, 3 E5M2 (R221, R222, R223). -/
def decodeWeight (fmt raw : Nat) : Num :=
  match fmt with
  | 0 => .fin (sext 4 raw) 0
  | 1 => .fin (sext 8 raw) 0
  | 2 =>
    let neg := bits raw 7 1 = 1
    let e := bits raw 3 4
    let m := bits raw 0 3
    if e = 15 ∧ m = 7 then .nan
    else if e = 0 then .fin (signed neg m) (-9)
    else .fin (signed neg (8 + m)) ((e : Int) - 10)
  | _ =>
    let neg := bits raw 7 1 = 1
    let e := bits raw 2 5
    let m := bits raw 0 2
    if e = 31 then (if m = 0 then .inf neg else .nan)
    else if e = 0 then .fin (signed neg m) (-16)
    else .fin (signed neg (4 + m)) ((e : Int) - 17)

/-- Decode of an S16 scale (R224). -/
def decodeScale (raw : Nat) : Num :=
  let neg := bits raw 15 1 = 1
  let e := bits raw 7 8
  let f := bits raw 0 7
  if e = 255 then (if f = 0 then .inf neg else .nan)
  else if e = 0 then .fin (signed neg f) (-133)
  else .fin (signed neg (128 + f)) ((e : Int) - 134)

/-- Division by 2^n rounded to nearest, ties to the even integer (R228). -/
def rne (m : Int) (n : Nat) : Int :=
  let q := m / (2 ^ n : Nat)
  let h := m - q * (2 ^ n : Nat)
  if 2 * h > (2 ^ n : Nat) ∨ (2 * h = (2 ^ n : Nat) ∧ q % 2 = 1) then q + 1 else q

/-- The clamp of one contribution (R229). -/
def clampC (r : Int) : Int := max (-8388608) (min 8388608 r)

/-- The contribution of finite operands (R227). -/
def contribFinite (wm we : Int) (g : Nat) (sm se : Int) : Int :=
  let m := wm * g * sm
  let k := we + se + 16
  if 0 ≤ k then clampC (m * (2 ^ k.toNat : Nat)) else clampC (rne m (-k).toNat)

/-- The sign of an operand. -/
def Num.neg : Num → Bool
  | .fin m _ => decide (m < 0)
  | .inf n => n
  | .nan => false

/-- Whether an operand is zero. -/
def Num.isZero : Num → Bool
  | .fin m _ => decide (m = 0)
  | _ => false

/-- Whether an operand is finite. -/
def Num.finite : Num → Bool
  | .fin _ _ => true
  | _ => false

/-- A contribution of weight, graded value and scale, in units of 2^-16 (R227, R231). -/
def contribution (w : Num) (g : Nat) (sc : Num) : Int :=
  match w, sc with
  | .fin wm we, .fin sm se => contribFinite wm we g sm se
  | .nan, _ => 0
  | _, .nan => 0
  | w, sc =>
    if w.isZero || sc.isZero || g = 0 then 0
    else if w.neg != sc.neg then -8388608 else 8388608

/-- Addition of a contribution to an accumulator word, modulo 2^32 (R233). -/
def accAdd (a : Nat) (c : Int) : Nat := toBits 32 ((a : Int) + c)

/-- Largest finite magnitude of a format as an exact pair, by sign (R238). -/
def fmtMax (fmt : Nat) (neg : Bool) : Num :=
  match fmt with
  | 0 => if neg then .fin (-8) 0 else .fin 7 0
  | 1 => if neg then .fin (-128) 0 else .fin 127 0
  | 2 => .fin (signed neg 14) 5
  | _ => .fin (signed neg 7) 13

/-- The value of a decoded operand in units of 2^-u (the places below the unit are dropped; every use has none). -/
def Num.scaled (u : Nat) : Num → Int
  | .fin m e => if 0 ≤ e + u then m * (2 ^ (e + u).toNat : Nat) else m / (2 ^ (-(e + u)).toNat : Nat)
  | _ => 0

/-- Whether an encoding is a candidate of the conversion: finite and not negative zero (R238). -/
def convCandidate (fmt raw : Nat) : Bool :=
  match decodeWeight fmt raw with
  | .fin 0 _ => decide (raw = 0)
  | .fin _ _ => true
  | _ => false

/-- Conversion of the exact value x · 2^-u, u at least 16, into a weight format: nearest, ties to the encoding with
bit 0 clear, beyond the largest finite value that value (R238). -/
def convWeight (fmt : Nat) (x : Int) (u : Nat) : Nat :=
  let width := if fmt = 0 then 16 else 256
  let top := (fmtMax fmt false).scaled u
  let bot := (fmtMax fmt true).scaled u
  let x := if x > top then top else if x < bot then bot else x
  (List.range width).foldl (fun best raw =>
    if convCandidate fmt raw then
      let d := ((decodeWeight fmt raw).scaled u - x).natAbs
      let b := ((decodeWeight fmt best).scaled u - x).natAbs
      if d < b ∨ (d = b ∧ raw % 2 = 0 ∧ best % 2 = 1) then raw else best
    else best) 0

/-! The helpers of the neuron update (R135). -/

/-- Accumulator to membrane units, ties to even. -/
def rne8 (a : Int) : Int := rne a 8

/-- Saturation between two bounds. -/
def sat (x lo hi : Int) : Int := if x < lo then lo else if x > hi then hi else x

/-- Arithmetic right shift. -/
def shr (x : Int) (n : Nat) : Int := x / (2 ^ n : Nat)

/-- The rotation's rounding shift. -/
def rot14 (x : Int) : Int := shr (x + 8192) 14

/-! Check values (R668). -/

/-- The low `n` bits of a word in reverse order. -/
def reflectBits : Nat → Nat → Nat
  | 0, _ => 0
  | n + 1, w => (w % 2) * 2 ^ n + reflectBits n (w / 2)

/-- One bit of a CRC register of width `w` that shifts toward its top. -/
def crcStep (w poly c : Nat) : Nat :=
  if c / 2 ^ (w - 1) % 2 = 1 then (c * 2 % 2 ^ w).xor poly else c * 2 % 2 ^ w

/-- A CRC register after one byte. -/
def crcByte (w poly : Nat) (refl : Bool) (c b : Nat) : Nat :=
  let b := if refl then reflectBits 8 b else b
  (List.range 8).foldl (fun c i =>
    let bit := b / 2 ^ (7 - i) % 2
    let c := c.xor (bit * 2 ^ (w - 1))
    crcStep w poly c) c

/-- A CRC of width `w` over bytes. -/
def crc (w poly init xorout : Nat) (refl : Bool) (bs : List Nat) : Nat :=
  let c := bs.foldl (crcByte w poly refl) init
  ((if refl then reflectBits w c else c).xor xorout) % 2 ^ w

end Sys2Proof.Machine
end

