-- ==== Sys2Proof/Machine/Operands.lean ====
section
/-! DEFINITION. The forms that commands carry: the header and payload fields of pips, spike records, queue messages
and words of memory. -/

namespace Sys2Proof

namespace Pip

/-- Header bits `lo .. lo+len-1`. -/
def h (p : Pip) (lo len : Nat) : Nat := bits p.hdr.toNat lo len

/-- Replace header bits `lo .. lo+len-1`. -/
def setH (p : Pip) (lo len v : Nat) : Pip :=
  let w := p.hdr.toNat
  { p with hdr := BitVec.ofNat 64 (w - bits w lo len * 2 ^ lo + (v % 2 ^ len) * 2 ^ lo) }

/-- Payload bits `lo .. lo+len-1`. -/
def b (p : Pip) (lo len : Nat) : Nat := bits p.pay.toNat lo len

/-- CLASS (R271). -/
def cls (p : Pip) : Nat := p.h 0 2
/-- MC. -/
def mc (p : Pip) : Bool := p.h 2 1 = 1
/-- MARK. -/
def mark (p : Pip) : Bool := p.h 3 1 = 1
/-- AGE. -/
def age (p : Pip) : Nat := p.h 4 6
/-- DEST, or the multicast group. -/
def dest (p : Pip) : Nat := p.h 10 12
/-- SRC. -/
def src (p : Pip) : Nat := p.h 22 11
/-- DELAY. -/
def delay (p : Pip) : Nat := p.h 33 6
/-- STEP. -/
def tag (p : Pip) : Nat := p.h 39 8
/-- SEQ, or the rejoin router. -/
def seq (p : Pip) : Nat := p.h 47 12
/-- The rejoin router. -/
def rejoinAt (p : Pip) : Nat := p.h 47 11
/-- REJOIN. -/
def rejoin (p : Pip) : Bool := p.mc && p.h 58 1 = 1
/-- PTYPE. -/
def ptype (p : Pip) : Nat := p.h 59 5

/-- A pip of the given header fields (R271) and payload. -/
def make (cls : Nat) (mc : Bool) (dest src delay tag seq ptype pay : Nat) : Pip where
  hdr := BitVec.ofNat 64 (cls % 4 + (if mc then 4 else 0) + (dest % 4096) * 2 ^ 10 + (src % 2048) * 2 ^ 22
    + (delay % 64) * 2 ^ 33 + (tag % 256) * 2 ^ 39 + (seq % 4096) * 2 ^ 47 + (ptype % 32) * 2 ^ 59)
  pay := BitVec.ofNat 192 pay

/-- A pip keeps to R272. -/
def legal (p : Pip) : Bool :=
  let unicast := p.mc || (p.dest < 1184)
  let plain := p.delay = 0 && p.tag = 0
  match p.cls with
  | 0 => unicast && plain && (p.mc || p.seq = 0) && 1 ≤ p.ptype && p.ptype ≤ 8
  | 1 => unicast && (p.mc || p.seq = 0) && 1 ≤ p.ptype && p.ptype ≤ 4
  | 2 => unicast && !p.mc && plain && p.ptype = 1
  | _ => unicast && !p.mc && p.delay = 0 && p.seq = 0 && 1 ≤ p.ptype && p.ptype ≤ 5

/-- Record `n` of a spike payload (R274). -/
def record (p : Pip) (n : Nat) : Nat := p.b (48 * n) 48

/-- The records of a spike pip. -/
def records (p : Pip) : List Nat := (List.range p.ptype).map p.record

end Pip

namespace Beat

/-- A beat of 64 bytes that carries data. -/
def ofBytes (l : List Byte) (first last poison : Bool) : Beat :=
  let d := BitVec.ofNat 512 (ofLe l)
  ⟨d, false, first, last, poison, Config.beatCheck d, 0⟩

/-- A null beat (R313). -/
def nullBeat : Beat := ⟨0, true, false, false, false, Config.beatCheck 0, 0⟩

/-- A beat that a pod's stage channel sends (R335). -/
def ofRequest (data : Nat) : Beat :=
  let d := BitVec.ofNat 512 data
  ⟨d, false, false, false, false, Config.beatCheck d, 0⟩

/-- Field of `n` bytes at byte `o` of a beat. -/
def field (b : Beat) (o n : Nat) : Nat := bits b.data.toNat (8 * o) (8 * n)

/-- The bytes of a beat. -/
def bytes (b : Beat) : List Byte := leBytes 64 b.data.toNat

end Beat

namespace Machine

/-- The spike payload of up to four records (R274). -/
def packRecords : List Nat → Nat
  | [] => 0
  | r :: rs => r % 2 ^ 48 + 2 ^ 48 * packRecords rs

/-- A spike record of axon, graded value and slot (R141). -/
def mkRecord (axon graded slot : Nat) : Nat := axon % 2 ^ 24 + (graded % 256) * 2 ^ 24 + (slot % 64) * 2 ^ 32

/-- Source axon of a record. -/
def recAxon (r : Nat) : Nat := bits r 0 24
/-- Graded value of a record. -/
def recGraded (r : Nat) : Nat := bits r 24 8
/-- Slot of a record. -/
def recSlot (r : Nat) : Nat := bits r 32 6

/-- The queue message of a message pip: BODY (R275). -/
def msgBody (p : Pip) : Nat := p.b 0 128
/-- QUEUE. -/
def msgQueue (p : Pip) : Nat := p.b 128 10
/-- EPOCH. -/
def msgEpoch (p : Pip) : Nat := p.b 144 8

/-- A register response to a requester (R276). -/
def regResponse (src req tag data status : Nat) : Pip :=
  Pip.make 0 false req src 0 0 0 0x07 (data % 2 ^ 32 + (status % 16) * 2 ^ 32 + (tag % 256) * 2 ^ 96)

/-- The requester of a register request. -/
def reqFrom (p : Pip) : Nat := p.b 104 11
/-- The tag of a register request. -/
def reqTag (p : Pip) : Nat := p.b 96 8
/-- The address of a register request. -/
def reqAddr (p : Pip) : Nat := p.b 0 40

/-- The byte-enable merge of a register write (R276). -/
def mergeBytes (old new be : Nat) : Nat :=
  (List.range 4).foldl (fun acc i =>
    acc + (if bits be i 1 = 1 then bits new (8 * i) 8 else bits old (8 * i) 8) * 2 ^ (8 * i)) 0

end Machine

end Sys2Proof
end

