-- ==== Sys2Proof/Machine/Mesh.lean ====
section
/-! DEFINITION. The event mesh: routing, ejection, multicast, link errors, the throttle and the delay stores (R267 to
R311). -/

namespace Sys2Proof.Machine

namespace State

/-- Change the event mesh. -/
def onMesh (s : State) (f : Mesh → Mesh) : State := { s with mesh := f s.mesh }

/-! Quiescence counts (R89). -/

/-- Add to E(t) of a node for tag `g`, where the tag names the step last launched or the one after it. -/
def addE (s : State) (n g k : Nat) : State :=
  if g = s.launched % 256 ∨ g = (s.launched + 1) % 256 then
    s.onMesh fun m => { m with expected := m.expected.add (2 * n + g % 2) k }
  else s

/-- Add to R(t) of a node for tag `g`. -/
def addR (s : State) (n g k : Nat) : State :=
  if g = s.launched % 256 ∨ g = (s.launched + 1) % 256 then
    s.onMesh fun m => { m with received := m.received.add (2 * n + g % 2) k }
  else s

/-- R(t) of a spike pip that ends its path; other classes count nothing. -/
def endSpike (s : State) (n : Nat) (p : Pip) (k : Nat := 1) : State := if p.cls = 1 then s.addR n p.tag k else s

/-! Control pips a router sends. -/

/-- Queue a control pip for injection at a node. -/
def sendCtrl (s : State) (n : Nat) (p : Pip) : State := s.onMesh fun m => { m with ctrl := m.ctrl.push n p }

/-- Answer a dropped register request with FENCED (R305, R307). -/
def answerFenced (s : State) (r : Nat) (p : Pip) : State :=
  if p.cls = 0 ∧ (p.ptype = 5 ∨ p.ptype = 6) then
    s.sendCtrl r (regResponse r (reqFrom p) (reqTag p) 0 Status.fenced.code)
  else s

/-- Count a marked spike or message pip whose path ends at a router, and echo it to its source (R295, R276). -/
def echo (s : State) (r : Nat) (p : Pip) : State :=
  if (p.cls = 1 ∨ p.cls = 2) ∧ p.mark then
    let k := 2048 * r + p.src
    let n := min 65535 (s.mesh.marked.at k + 1)
    let seen := s.mesh.echoes.at r
    if !s.flag (Reg.EVM_CTRL_ECHO_EN r) || seen.any fun e => e.1 = p.src && s.now < e.2 + s.cycles r (s.get (Reg.EVM_ECHO_CFG_HOLD r)) then
      s.onMesh fun m => { m with marked := m.marked.put k n }
    else
      let s := s.onMesh fun m => { m with
        marked := m.marked.put k 0
        echoes := m.echoes.put r (((p.src, s.now) :: seen.filter fun e => e.1 ≠ p.src).take 8) }
      (s.sendCtrl r (Pip.make 0 false p.src r 0 0 0 0x01 (r + n * 2 ^ 16))).count (Reg.EVM_ECHO_TX_COUNT r)
  else s

/-! Undeliverable pips. -/

/-- Count an undeliverable drop (R273, R293, R307). -/
def undeliverable (s : State) (r code : Nat) (p : Pip) : State :=
  (((s.countDrop r 10 (Reg.EVM_DROP_UNDELIV_COUNT r)).put (Reg.EVM_STATUS_UNDELIV r) 1).raise (Reg.EVM_INT_EN r) 3).log
    .evm r code r p.src

/-- A pip that breaks R272 (R273). -/
def dropIllegal (s : State) (r : Nat) (p : Pip) : State := (s.undeliverable r 0x310A p).endSpike r p

/-- The router a pip is routed to as a unicast pip would be, as a node index (R278, R292). -/
def target (p : Pip) : Nat := if p.rejoin then p.rejoinAt else p.dest

/-- The point (column + 1, row) of a node; the edge lies at column 0 (R278). -/
def pointOf (n : Nat) : Nat × Nat := if n < 1152 then (colOf n + 1, rowOf n) else (0, n - 1152)

/-- Productive ports of a pip at a router, the preferred one first (R278, R769). -/
def productive (r : Nat) (p : Pip) : List Nat :=
  let (dx, dy) := pointOf (target p)
  let x := colOf r + 1
  let y := rowOf r
  let xs := if dx > x then [1] else if dx < x then (if x = 1 ∧ dy ≠ y then [] else [3]) else []
  xs ++ (if dy > y then [2] else if dy < y then [0] else [])

/-- The neighbour across a down link is the pip's target: the pip is dropped (R307, R293). -/
def blockedAt (s : State) (r : Nat) (p : Pip) : Bool :=
  (p.rejoin || !p.mc) && (List.range 4).any fun q =>
    !s.linkUp r q && (neighbour r q = some (target p) || (q = 3 && colOf r = 0 && target p = 1152 + rowOf r))

/-- Drop a pip at a down link (R307, R293). -/
def dropBlocked (s : State) (r : Nat) (p : Pip) : State :=
  ((s.undeliverable r 0x3106 p).endSpike r p).answerFenced r p

/-! Delay store (R298 to R303). -/

/-- The due step of an entry, modulo 256. -/
def dueOf (e : BitVec 128) : Nat := bits e.toNat 10 8

/-- Address of entry `i` of spill sub-ring `j` of a router (R301). -/
def spillAddr (s : State) (t j i : Nat) : Nat :=
  podBase (podOf t) + s.get (Reg.EVM_SPILL_BASE_BASE t) + 16 * s.get (Reg.EVM_SPILL_LEN_LEN t) * j + 16 * i

/-- Spill an entry, or drop it where its sub-ring is full (R301, R302). -/
def dsSpill (s : State) (t : Nat) (e : BitVec 128) : State :=
  let j := dueOf e % 64
  let n := s.mesh.spilled.at (64 * t + j)
  if n < s.get (Reg.EVM_SPILL_LEN_LEN t) then
    let s := s.wrLe (s.spillAddr t j n) 16 e.toNat
    let s := s.onMesh fun m => { m with spilled := m.spilled.put (64 * t + j) (n + 1) }
    let s := (s.countDrop t 13 (Reg.EVM_SPILLED_COUNT t)).put (Reg.EVM_STATUS_SPILL t) 1
    (s.put (Reg.EVM_SPILL_LEVEL_COUNT t) (s.get (Reg.EVM_SPILL_LEVEL_COUNT t) + 1)).logOnce .evm t 0x3107 t
  else
    (((s.countDrop t 10 (Reg.EVM_DROP_SPILL_COUNT t)).put (Reg.EVM_STATUS_SPILL_DROP t) 1).raise (Reg.EVM_INT_EN t) 2).logOnce
      .evm t 0x3108 t

/-- The level register of a delay store and its mark. -/
def dsLevel (s : State) (t : Nat) : State :=
  let n := (s.mesh.delay.at t).length
  (s.put (Reg.EVM_DS_LEVEL_LEVEL t) n).raiseTo (Reg.EVM_DS_LEVEL_HIGH_WATER t) n

/-- Write one entry into a delay store: on chip while there is room, else into the spill region (R298, R301). -/
def dsWrite (s : State) (t : Nat) (e : BitVec 128) : State :=
  if (s.mesh.delay.at t).length < 1024 then (s.onMesh fun m => { m with delay := m.delay.push t e }).dsLevel t
  else s.dsSpill t e

/-- The entry of one record of a delayed spike pip (R298). -/
def dsEntry (p : Pip) (record : Nat) : BitVec 128 :=
  BitVec.ofNat 128 (1 + ((p.tag + p.delay) % 256) * 2 ^ 10 + (record % 2 ^ 48) * 2 ^ 32 + (p.src % 2048) * 2 ^ 80)

/-! Ejection (R283, R305, R88). -/

/-- What R88 says of a spike tag at a tile. -/
inductive TagCase where
  | accept | late | wrong
  deriving DecidableEq, Repr

/-- The case of R88 for a tag. -/
def tagCase (s : State) (g : Nat) : TagCase :=
  let d := (g + 256 - s.launched % 256) % 256
  if d = 0 then (if s.deliveryOpen then .accept else .late)
  else if d = 1 then .accept
  else if d < 128 then .wrong
  else .late

/-- Port L accepts a pip (R283). -/
def ejectable (s : State) (r : Nat) (p : Pip) : Bool :=
  if s.fenced r then true
  else match p.cls with
    | 0 => if p.ptype = 1 ∨ p.ptype = 2 then true else decide ((s.mesh.ctrlIn.at r).length < 4)
    | 1 => s.tagCase p.tag != .accept || 0 < p.delay || decide ((s.mesh.eject.at r).length < 8)
    | 2 => true
    | _ => Config.traceRoom r s.now

/-- A late drop: counted at its place and in the sum of the step (R88, R94, R708). -/
def dropLate (s : State) (t : Nat) (f : RF) (k : Nat := 1) : State :=
  (s.countDrop t 12 f k).onMesh fun m => { m with late := m.late + k }

/-- Port L takes a pip (R283, R305, R88, R298). -/
def takeAtL (s : State) (r : Nat) (p : Pip) : State :=
  let s := s.add64 (Reg.EVM_EJ_LO r) 1
  let s := s.echo r p
  if s.fenced r then
    (((s.countDrop r 11 (Reg.EVM_DROP_FENCE_COUNT r)).logOnce .evm r 0x3109 r).endSpike r p).answerFenced r p
  else match p.cls with
    | 0 =>
      if p.ptype = 1 ∨ p.ptype = 2 then s.onMesh fun m => { m with throttleIn := m.throttleIn.push r p }
      else s.onMesh fun m => { m with ctrlIn := m.ctrlIn.push r p }
    | 1 =>
      let s := s.endSpike r p
      match s.tagCase p.tag with
      | .late => s.dropLate r (Reg.EVM_DROP_LATE_COUNT r)
      | .wrong => (s.countDrop r 10 (Reg.EVM_DROP_TAG_COUNT r)).log .evm r 0x420B r p.tag
      | .accept =>
        if p.delay = 0 then s.onMesh fun m => { m with eject := m.eject.push r ⟨p, 0⟩ }
        else p.records.foldl (fun s rec => s.dsWrite r (dsEntry p rec)) s
    | 2 => s.onMesh fun m => { m with msgIn := m.msgIn.push r p }
    | _ => s.onMesh fun m => { m with traceIn := m.traceIn.push r p }

/-! The west edge (R269, R769, R770, R505 to R508). -/

/-- Put a pip into a Tierlink transmit buffer, or drop it where the buffer is full (R506, R508). -/
def tierlinkQueue (s : State) (port : Nat) (p : Pip) : State :=
  let s := if p.cls = 1 then s.addE edgeNode p.tag 1 else s
  if (s.mesh.tlkTx.at port).length < 256 then
    let s := s.onMesh fun m => { m with tlkTx := m.tlkTx.push port p }
    s.put (Reg.TLK_HOLD_LEVEL port) (s.mesh.tlkTx.at port).length
  else
    (((s.count (Reg.TLK_DROP_HOLD_COUNT port)).raise (Reg.TLK_INT_EN port) 1).logOnce .tlk port 0x8106 srcManager port).endSpike edgeNode p

/-- The forwarding-table entry of an ingress and a group (R507). -/
def fwdEntry (s : State) (ingress group : Nat) : Nat :=
  s.rdLe (sramBase + s.get Reg.TLK_FWD_BASE_OFFSET + (4096 * ingress + group) * 8) 8

/-- The manager forwards a spike pip of an ingress (R507). -/
def forward (s : State) (ingress : Nat) (p : Pip) : State :=
  let e := s.fwdEntry ingress p.dest
  if bits e 0 1 = 0 then s.count (Reg.TLK_FWD_MISS_COUNT (if ingress < 8 then ingress else 0))
  else
    let s :=
      if bits e 1 1 = 1 ∧ ingress < 8 then
        let row := bits e 2 5
        s.onMesh fun m => { m with edgeOut := m.edgeOut.push row ((p.setH 10 12 (bits e 7 12)).setH 22 11 (1152 + row)) }
      else s
    (List.range 8).foldl (fun s n =>
      if bits e (19 + n) 1 = 1 ∧ n ≠ ingress then
        s.tierlinkQueue n ((p.setH 10 12 (bits e 27 12)).setH 22 11 (1152 + bits e 39 5))
      else s) s

/-- A spike copy at the edge is carried on as the role in effect says (R505, R770). -/
def edgeSpike (s : State) (p : Pip) : State :=
  match s.role with
  | 1 => s.forward 8 p
  | 2 => s.tierlinkQueue (s.get Reg.TLK_HIER_CTRL_UPPORT) p
  | _ => s.count (Reg.TLK_FWD_MISS_COUNT 0)

/-- The trace writer's buffer takes a trace pip, or drops it where it is full (R724). -/
def traceTake (s : State) (p : Pip) : State :=
  if s.mesh.traceWriter.length < 64 then s.onMesh fun m => { m with traceWriter := m.traceWriter ++ [p] }
  else s.count Reg.DBG_GTRC_LOST_EDGE

/-- The west edge interface takes the pip that router (0, y) sends out on W (R769, R770, R358). -/
def edgeTake (s : State) (y : Nat) (p : Pip) : State :=
  if !p.mc && p.dest = 1152 + y then
    match p.cls with
    | 0 =>
      if p.ptype = 1 ∨ p.ptype = 2 then s.onMesh fun m => { m with throttleIn := m.throttleIn.push (1152 + y) p }
      else s.onMesh fun m => { m with ctrlIn := m.ctrlIn.push (1152 + y) p }
    | 1 => s.addR edgeNode p.tag 1
    | 2 => s.onMesh fun m => { m with msgIn := m.msgIn.push edgeNode p }
    | _ => s.traceTake p
  else if p.mc && !p.rejoin then
    if p.cls = 1 then (s.addR edgeNode p.tag 1).edgeSpike p
    else s.onMesh fun m => { m with ctrlIn := m.ctrlIn.push (1152 + y) p }
  else s.onMesh fun m => { m with edgeBack := m.edgeBack.push y p }

/-! Output ports. -/

/-- A port crosses the seam (R267). -/
def isSeam (r p : Nat) : Bool := (colOf r = 17 && p = 1) || (colOf r = 18 && p = 3)

/-- The key of the link that an output port drives. -/
def linkOut (r p : Nat) : Option Nat := (neighbour r p).map fun r' => 4 * r' + facing p

/-- The level register of the seam FIFO that a router drives. -/
def seamLevel (s : State) (r : Nat) : State :=
  let p := if colOf r = 17 then 1 else 3
  if isSeam r p then
    let n := ((linkOut r p).map fun k => (s.mesh.links.at k).length).getD 0
    (s.put (Reg.EVM_SEAM_LEVEL r) n).raiseTo (Reg.EVM_SEAM_HIGH_WATER r) n
  else s

/-- A seam port whose FIFO has no room (R308). -/
def seamFull (s : State) (r p : Nat) : Bool :=
  isSeam r p && ((linkOut r p).map fun k => decide (64 ≤ (s.mesh.links.at k).length)).getD false

/-- The window of 1,024 cycles a router is in (R297). -/
def traceWindow (s : State) (r : Nat) : Nat := s.now * s.mhz (halfOf r) / 200 / 1024

/-- A port has trace quota left in its window (R297). -/
def quotaLeft (s : State) (r p : Nat) : Bool :=
  let e := s.mesh.traceSent.at (5 * r + p)
  let used := if e / 32 = s.traceWindow r then e % 32 else 0
  used < s.get (Reg.EVM_TRACE_QUOTA_QUOTA r)

/-- A mesh port a pip may take: live, with room across the seam, with quota for a trace pip (R280, R297). -/
def portOpen (s : State) (r : Nat) (p : Pip) (q : Nat) : Bool :=
  s.linkUp r q && !s.seamFull r q && (p.cls != 3 || s.quotaLeft r q)

/-- The bytes of a pip. -/
def pipBytes (p : Pip) : List Byte := leBytes 8 p.hdr.toNat ++ leBytes 24 p.pay.toNat

/-- The CRC that a link carries beside a pip, over its 32 bytes in byte order (R268). -/
def pipCrc (p : Pip) : Nat := crc 16 0x1021 0xFFFF 0 false ((pipBytes p).map (·.toNat))

/-- Pips that arrive at port `p` of a router are discarded: counted, and logged once a step (R287). -/
def discardPips (s : State) (r p k : Nat) : State :=
  if k = 0 then s
  else (((s.count (Reg.EVM_CRC_ERR_COUNT r) k).put (Reg.EVM_STATUS_CRC r) 1).raise (Reg.EVM_INT_EN r) 1).logOnce .evm r 0x3102 r p

/-- The end that sent pips over the link into port `p` of a router finds them NAKed (R288). -/
def nakPips (s : State) (r p : Nat) (l : List Pip) : State :=
  match neighbour r p with
  | some r' => s.onMesh fun m => { m with naks := m.naks.put (4 * r' + facing p) (m.naks.at (4 * r' + facing p) ++ l) }
  | none => s.onMesh fun m => { m with edgeRetry := m.edgeRetry.put (rowOf r) (m.edgeRetry.at (rowOf r) ++ l) }

/-- A damaged pip on the link into port `p` of a router: discarded, counted and named by a NAK on its link (R287). -/
def damaged (s : State) (r p : Nat) (pip : Pip) : State :=
  ((s.discardPips r p 1).detect r (suspectId 1 (4 * r + p)) .linkCrc).nakPips r p [pip]

/-- Send a pip on a mesh port. -/
def sendOn (s : State) (r q : Nat) (p : Pip) : State :=
  let s :=
    if p.cls = 3 then
      let k := 5 * r + q
      let w := s.traceWindow r
      let e := s.mesh.traceSent.at k
      s.onMesh fun m => { m with traceSent := m.traceSent.put k (w * 32 + (if e / 32 = w then e % 32 else 0) + 1) }
    else s
  match linkOut r q with
  | some k =>
    if s.injecting (suspectId 1 (4 * r + q)) 2 then s.injected.damaged (k / 4) (k % 4) p
    else if p.cls = 2 && s.injecting (suspectId 1 (4 * r + q)) 3 then
      s.injected.onMesh fun m => { m with naks := m.naks.push (4 * r + q) p }
    else (s.onMesh fun m => { m with links := m.links.push k p }).seamLevel r
  | none => if q = 3 ∧ colOf r = 0 then s.edgeTake (rowOf r) p else s

/-- The pip as a deflection leaves it (R281). -/
def aged (p : Pip) : Pip := (p.setH 4 6 (min 63 (p.age + 1))).setH 3 1 1

/-- A storm: counted, recorded and notified to the source (R282). -/
def storm (s : State) (r port : Nat) (p : Pip) : State :=
  let s := ((s.count (Reg.EVM_STORM_COUNT r)).put (Reg.EVM_STATUS_STORM r) 1).raise (Reg.EVM_INT_EN r) 0
  let s := ((s.put (Reg.EVM_LAST_STORM_SRC r) p.src).put (Reg.EVM_LAST_STORM_PORT r) port).put
    (Reg.EVM_LAST_STORM_CLASS r) p.cls
  let s := (s.logOnce .evm r 0x3101 r p.src).detect r (suspectId 0 r) .storm
  let held := (s.mesh.storms.at r).filter fun e => s.now < e.2 + s.cycles r (s.get (Reg.EVM_ECHO_CFG_HOLD r))
  if held.any fun e => e.1 = p.src then s
  else
    let s := s.onMesh fun m => { m with storms := m.storms.put r ((p.src, s.now) :: held) }
    s.sendCtrl r (Pip.make 0 false p.src r 0 0 0 0x02 (r + port * 2 ^ 16))

/-- What a router's cycle has left over: the ports still free and the pips it could not place. -/
structure Award where
  st : State
  free : List Nat
  kept : List (Nat × Pip)

/-- Free mesh ports that a pip may take, in port order. -/
def Award.mesh (a : Award) (r : Nat) (p : Pip) : List Nat := a.free.filter fun q => q < 4 && a.st.portOpen r p q

/-- Award a port. -/
def Award.give (a : Award) (r q : Nat) (p : Pip) : Award :=
  { a with st := a.st.sendOn r q p, free := a.free.filter fun x => x ≠ q }

/-- A pip that deflects where a seam port it needs is full counts in EVM_SEAM_FULL (R308). -/
def seamDeflect (s : State) (r : Nat) (need : List Nat) : State :=
  if need.any fun x => x < 4 && s.linkUp r x && s.seamFull r x then s.count (Reg.EVM_SEAM_FULL_COUNT r) else s

/-- Deflect a pip that came in on `port` and needs the ports `need` (R280, R281, R282, R297, R308). -/
def Award.deflect (a : Award) (r port : Nat) (p : Pip) (need : List Nat) : Award :=
  match a.mesh r p with
  | q :: _ =>
    let s := a.st.seamDeflect r need
    let s := (s.add64 (Reg.EVM_DEFL_LO r) 1).countOp r 9 1
    let s := if p.age = 63 then s.storm r port p else s
    { a with st := s }.give r q (aged p)
  | [] =>
    if p.cls = 3 then { a with st := a.st.countDrop r 10 (Reg.EVM_DROP_TRACE_COUNT r) }
    else { a with kept := a.kept ++ [(port, p)] }

/-- The multicast entry that a pip names at a router (R289). -/
def mcEntry (s : State) (r : Nat) (p : Pip) : Nat := s.mesh.mcast.at (4096 * r + p.dest)

/-- The delivery count of a multicast pip at a router: DCOUNT, or 1 where VALID is 0 (R89, R293). -/
def mcCount (s : State) (r : Nat) (p : Pip) : Nat :=
  let e := s.mcEntry r p
  if bits e 10 1 = 1 then bits e 12 12 else 1

/-- The ports a mask names. -/
def maskPorts (m : Nat) : List Nat := (List.range 5).filter fun p => bits m p 1 = 1

/-- A mask has a mesh port that is down (R291). -/
def maskDown (s : State) (r m : Nat) : Bool := (maskPorts m).any fun p => p < 4 && !s.linkUp r p

/-- What R291 finds for a multicast pip at a router. -/
inductive McNeed where
  | ports (need : List Nat)
  | miss
  | dead
  deriving DecidableEq, Repr

/-- The need of a multicast pip (R291). -/
def mcNeed (s : State) (r : Nat) (p : Pip) : McNeed :=
  let e := s.mcEntry r p
  let pri := bits e 0 5
  let sec := bits e 5 5
  if bits e 10 1 = 0 then .miss
  else if !s.maskDown r pri then .ports (maskPorts pri)
  else if sec = 0 || s.maskDown r sec then .dead
  else .ports (maskPorts sec)

/-- Drop an undeliverable multicast pip (R293). -/
def dropMulticast (s : State) (r : Nat) (p : Pip) (need : McNeed) : State :=
  let k := s.mcCount r p
  let s := if need = .miss then s.put (Reg.EVM_STATUS_MC_MISS r) 1 else s
  (s.undeliverable r (if need = .miss then 0x3104 else 0x3105) p).endSpike r p k

/-- Every port of a need is free, and enough mesh ports stay free for the pips after this one (R291). -/
def Award.fits (a : Award) (r : Nat) (p : Pip) (need : List Nat) (later : Nat) : Bool :=
  need.all (fun q => if q = 4 then a.free.contains 4 && a.st.ejectable r p else (a.mesh r p).contains q)
    && decide (later ≤ ((a.free.filter fun q => q < 4 && a.st.linkUp r q && !a.st.seamFull r q).filter
      fun q => !need.contains q).length)

/-- Send a copy on every port of a need (R291). -/
def Award.copy (a : Award) (r : Nat) (p : Pip) (need : List Nat) : Award :=
  need.foldl (fun a q =>
    if q = 4 then { a with st := a.st.takeAtL r p, free := a.free.filter fun x => x ≠ 4 } else a.give r q p) a

/-- Place one link pip (R280, R291, R292, R307). -/
def Award.place (a : Award) (r port : Nat) (p : Pip) (later : Nat) : Award :=
  if !p.legal then { a with st := a.st.dropIllegal r p }
  else if p.mc && (!p.rejoin || p.rejoinAt = r) then
    let p := p.setH 47 12 0
    match a.st.mcNeed r p with
    | .ports need =>
      if a.fits r p need later then a.copy r p need
      else a.deflect r port (p.setH 47 12 (2048 + r)) need
    | need => { a with st := a.st.dropMulticast r p need }
  else if a.st.blockedAt r p then { a with st := a.st.dropBlocked r p }
  else if !p.mc && p.dest = r then
    if a.free.contains 4 && a.st.ejectable r p then
      { a with st := a.st.takeAtL r p, free := a.free.filter fun x => x ≠ 4 }
    else a.deflect r port p []
  else
    match (productive r p).find? fun q => (a.mesh r p).contains q with
    | some q =>
      if a.st.injecting (suspectId 1 (4 * r + q)) 4 && (a.mesh r p).any (· != q) then
        let a' := ({ a with st := a.st.injected, free := a.free.filter (· != q) } : Award).deflect r port p []
        { a' with free := (List.range 5).filter fun x => x = q || a'.free.contains x }
      else a.give r q p
    | none => a.deflect r port p (productive r p)

/-- The rank of a pip at an input port; the lower number goes first (R279). -/
def rank (p : Pip) (port : Nat) : Nat :=
  (((if p.cls = 0 then 0 else 1) * 64 + (63 - p.age)) * 2048 + p.src) * 4 + port

/-- Insert by rank. -/
def insertRank (x : Nat × Pip) : List (Nat × Pip) → List (Nat × Pip)
  | [] => [x]
  | y :: r => if rank x.2 x.1 < rank y.2 y.1 then x :: y :: r else y :: insertRank x r

/-- Place the candidates in rank order. -/
def Award.all (a : Award) (r : Nat) : List (Nat × Pip) → Award
  | [] => a
  | (port, p) :: rest => (a.place r port p rest.length).all r rest

/-- Take the oldest pip off the link into port `p` of a router (R268). -/
def takeLink (s : State) (r p : Nat) : State :=
  let s := s.onMesh fun m => { m with links := m.links.drop1 (4 * r + p) }
  match neighbour r p with
  | some r' => if isSeam r' (facing p) then s.seamLevel r' else s
  | none => s

/-- A damaged pip at the head of a link (R287). -/
def crcDiscard (s : State) (r p : Nat) (pip : Pip) : State := (s.takeLink r p).damaged r p pip

/-- The CRC that arrived beside a pip is not the pip's (R287); `got` gives the one that arrived at a port where the link
changed it. -/
def crcFails (got : List (Fin 4 × BitVec 16)) (x : Nat × Pip) : Bool :=
  got.any fun c => c.1.val = x.1 && c.2.toNat != pipCrc x.2

/-- One router cycle for the pips at a router's link inputs; `got` names the input ports at which a CRC arrived that is not
the one sent. A router whose clock is gated takes no pip (R280, R287, R626, R629). -/
def routeCycle (s : State) (r : Nat) (got : List (Fin 4 × BitVec 16)) : State :=
  if s.coreGated r then s else
  let heads := (List.range 4).filterMap fun p =>
    if s.linkUp r p then ((s.mesh.links.at (4 * r + p)).head?).map fun x => (p, x) else none
  let isBad := crcFails got
  let s := (heads.filter isBad).foldl (fun s x => s.crcDiscard r x.1 x.2) s
  let good := heads.filter fun x => !isBad x
  let s := good.foldl (fun s x => s.takeLink r x.1) s
  let free := (List.range 5).filter fun q => q = 4 || s.linkUp r q
  let a := ({ st := s, free := free, kept := [] } : Award).all r (good.foldr insertRank [])
  let s := a.kept.foldl (fun s x => s.onMesh fun m =>
    { m with links := m.links.put (4 * r + x.1) (x.2 :: m.links.at (4 * r + x.1)) }) a.st
  s.onMesh fun m => { m with awarded := m.awarded.put r (free.filter fun q => !a.free.contains q) }

/-! The throttle (R295, R296). -/

/-- THR_CFG of a node. -/
def thrCfg (n : Nat) : Nat := if n < 1152 then Reg.EVM_THR_CFG n else Reg.SEN_WE_THR_CFG
/-- THR_HOLD of a node. -/
def thrHold (n : Nat) : Nat := if n < 1152 then Reg.EVM_THR_HOLD n else Reg.SEN_WE_THR_HOLD
/-- THR_RATE of a node. -/
def thrRate (n : Nat) : Nat := if n < 1152 then Reg.EVM_THR_RATE n else Reg.SEN_WE_RATE (n - 1152)

/-- Whether a node meters its injection. -/
def metered (s : State) (n : Nat) : Bool := 1152 ≤ n || s.flag (Reg.EVM_CTRL_THR_EN n)

/-- The rate of a node. -/
def rate (s : State) (n : Nat) : Nat := if s.metered n then s.get ⟨thrRate n, 0, 9⟩ else 256

/-- Store a bucket, as 1,024 less its level, and the whole tokens it holds. -/
def putBucket (s : State) (n spent : Nat) : State :=
  (s.onMesh fun m => { m with spent := m.spent.put n spent }).put ⟨thrRate n, 16, 3⟩ ((1024 - spent) / 256)

/-- One cycle's share of a token (R296). -/
def refill (s : State) (n : Nat) : State := s.putBucket n (s.mesh.spent.at n - s.rate n)

/-- The bucket holds a whole token. -/
def hasToken (s : State) (n : Nat) : Bool := s.mesh.spent.at n + 256 ≤ 1024

/-- Spend one token. -/
def spend (s : State) (n : Nat) : State := s.putBucket n (s.mesh.spent.at n + 256)

/-- The timebase counts of `c` cycles at a node; the edge runs with the west half's routers. -/
def nodeCycles (s : State) (n c : Nat) : Nat := s.cycles (if n < 1152 then n else 36 * (n - 1152)) c

/-- An accepted echo lowers the rate (R296). -/
def acceptEcho (s : State) (n : Nat) : State :=
  let s := if n < 1152 then s.count (Reg.EVM_ECHO_RX_COUNT n) else s
  let last := s.mesh.lastEcho.at n
  let hold := s.nodeCycles n (s.get ⟨thrHold n, 16, 16⟩)
  if last ≠ 0 ∧ s.now < last - 1 + hold then s
  else
    let s := s.onMesh fun m => { m with
      lastEcho := m.lastEcho.put n (s.now + 1), riseFrom := m.riseFrom.put n s.now }
    if s.metered n then
      s.put ⟨thrRate n, 0, 9⟩ (max (s.get ⟨thrHold n, 0, 9⟩) (s.rate n * s.get ⟨thrCfg n, 0, 4⟩ / 16))
    else s

/-! Retries (R288). -/

/-- The retry level register. -/
def retryLevel (s : State) (r : Nat) : State :=
  s.put (Reg.EVM_LINK_RETRY_LEVEL r) (s.mesh.retry.at r).length

/-- Move NAKed pips of a port into the retry queue while it has room, at most `fuel` of them. -/
def drainNaks (s : State) (r p : Nat) : Nat → State
  | 0 => s
  | fuel + 1 =>
    match s.mesh.naks.at (4 * r + p) with
    | [] => s
    | pip :: _ =>
      if 8 ≤ (s.mesh.retry.at r).length then s
      else
        let s := s.onMesh fun m => { m with
          naks := m.naks.drop1 (4 * r + p), retry := m.retry.push r (pip, p) }
        (s.retryLevel r).drainNaks r p fuel

/-- Room in the retry queue is given to the pips of links that are down, in port order (R285, R288). -/
def refillRetry (s : State) (r : Nat) : State :=
  (List.range 4).foldl (fun s p => if s.linkUp r p then s else s.drainNaks r p 8) s

/-- Take a link down at one end: the pips on their way over it are discarded there and count as NAKed at the other (R287,
R288). -/
def halfDown (s : State) (r p : Nat) : State :=
  let s := s.put (Reg.EVM_LINK_UP r) (s.get (Reg.EVM_LINK_UP r) - bits (s.get (Reg.EVM_LINK_UP r)) p 1 * 2 ^ p)
  let onway := s.mesh.links.at (4 * r + p)
  let s := s.onMesh fun m => { m with links := m.links.put (4 * r + p) [] }
  let s := match neighbour r p with
    | some r' => if isSeam r' (facing p) then s.seamLevel r' else s
    | none => s
  (s.discardPips r p onway.length).nakPips r p onway

/-- Take a link down in both directions (R268). -/
def linkDown (s : State) (r p : Nat) : State :=
  let s := s.halfDown r p
  match neighbour r p with
  | some r' => ((s.halfDown r' (facing p)).refillRetry r).refillRetry r'
  | none => s.refillRetry r

/-- Bring a link up at both ends, where it exists. -/
def linkRaise (s : State) (r p : Nat) : State :=
  let up := fun (s : State) (r p : Nat) =>
    let s := s.put (Reg.EVM_LINK_UP r) ((s.get (Reg.EVM_LINK_UP r)).lor (2 ^ p))
    s.put (Reg.EVM_LINK_RETRY_DOWN r)
      (s.get (Reg.EVM_LINK_RETRY_DOWN r) - bits (s.get (Reg.EVM_LINK_RETRY_DOWN r)) p 1 * 2 ^ p)
  match neighbour r p with
  | some r' => up (up s r p) r' (facing p)
  | none => if p = 3 ∧ colOf r = 0 then up s r p else s

/-- Clearing THR_EN puts the rate of a router back to 256 (R296). -/
def thrCleared (s : State) (r : Nat) : State :=
  if s.flag (Reg.EVM_CTRL_THR_EN r) then s else s.put (Reg.EVM_THR_RATE_RATE r) 256

/-! Injection (R284). -/

/-- The source of an injection candidate. -/
inductive Source where
  | retry | ctrl | msgs | spikes | trace
  deriving DecidableEq, Repr

/-- The first candidate of a router that may go, the port a retried pip was sent on with it (R284, R295). -/
def candidate (s : State) (r : Nat) : Option (Source × Pip × Nat) :=
  match s.mesh.retry.at r with
  | (p, q) :: _ => some (.retry, p, q)
  | [] =>
    match s.mesh.ctrl.at r with
    | p :: _ => some (.ctrl, p, 4)
    | [] =>
      if s.hasToken r || !s.metered r then
        match s.mesh.msgs.at r, s.mesh.spikes.at r, s.mesh.trace.at r with
        | p :: _, _, _ => some (.msgs, p, 4)
        | [], p :: _, _ => some (.spikes, p, 4)
        | [], [], p :: _ => some (.trace, p, 4)
        | [], [], [] => none
      else none

/-- Take the candidate from its source; a metered one spends a token, and an injected spike pip counts its deliveries
(R284, R296, R89). -/
def takeCandidate (s : State) (r : Nat) (src : Source) (p : Pip) : State :=
  let s := (s.add64 (Reg.EVM_INJ_LO r) 1).countOp r 8 1
  match src with
  | .retry =>
    let s := s.onMesh fun m => { m with retry := m.retry.drop1 r }
    ((s.count (Reg.EVM_RETRY_COUNT r)).retryLevel r).refillRetry r
  | .ctrl => s.onMesh fun m => { m with ctrl := m.ctrl.drop1 r }
  | .msgs => (s.spend r).onMesh fun m => { m with msgs := m.msgs.drop1 r }
  | .spikes =>
    let s := (s.spend r).onMesh fun m => { m with spikes := m.spikes.drop1 r }
    s.addE r p.tag (if p.mc then s.mcCount r p else 1)
  | .trace => (s.spend r).onMesh fun m => { m with trace := m.trace.drop1 r }

/-- A candidate that cannot go counts the cycle (R284). -/
def injectWait (s : State) (r : Nat) : State := s.count (Reg.EVM_INJ_WAIT_COUNT r)

/-- The pip of the retry queue as it goes out again: a copy of a multicast pip that cannot take its port again heads for
the router it was sent to, as a pip in REJOIN state does (R292, log entry 11). -/
def retryForm (s : State) (r : Nat) (p : Pip) (q : Nat) (free : List Nat) : Pip :=
  if p.mc && !p.rejoin && !(free.contains q && s.portOpen r p q) then
    match neighbour r q with
    | some r' => p.setH 47 12 (2048 + r')
    | none => p
  else p

/-- One cycle of a router's injection, after its link pips; none while its clock is gated (R284, R626, R629). -/
def injectCycle (s : State) (r : Nat) : State :=
  if s.coreGated r then s else
  let free := (List.range 5).filter fun q =>
    !(s.mesh.awarded.at r).contains q && (q = 4 || s.linkUp r q)
  let s := (s.refill r).onMesh fun m => { m with awarded := m.awarded.put r [] }
  match s.candidate r with
  | none => s
  | some (src, p, q) =>
    let a : Award := { st := s, free := free, kept := [] }
    let meshFree := a.mesh r p
    let take := { a with st := s.takeCandidate r src p }
    if !p.legal then (s.takeCandidate r src p).dropIllegal r p
    else if p.mc && !p.rejoin && src != .retry then
      match s.mcNeed r p with
      | .ports need => if a.fits r p need 0 then (take.copy r p need).st else s.injectWait r
      | need => (s.takeCandidate r src p).dropMulticast r p need
    else if s.blockedAt r p then (s.takeCandidate r src p).dropBlocked r p
    else if !p.mc && p.dest = r then
      if free.contains 4 && s.ejectable r p then (s.takeCandidate r src p).takeAtL r p else s.injectWait r
    else
      let p := if src = .retry then s.retryForm r p q free else p
      let own := if src = .retry && p.mc && !p.rejoin then [q] else productive r p
      match own.find? fun x => meshFree.contains x with
      | some x => (take.give r x p).st
      | none =>
        if src = .retry || src = .ctrl then
          match meshFree with
          | x :: _ =>
            let s := (((s.takeCandidate r src p).seamDeflect r own).add64 (Reg.EVM_DEFL_LO r) 1).countOp r 9 1
            ({ st := s, free := free, kept := [] } : Award).give r x ((p.setH 4 6 1).setH 3 1 1) |>.st
          | [] => s.injectWait r
        else s.injectWait r

/-- Put a pip of the edge on the link into router (0, row). -/
def edgeSend (s : State) (row : Nat) (p : Pip) : State :=
  s.onMesh fun m => { m with links := m.links.push (4 * (36 * row) + 3) p }

end State

open State

/-- PIP_ROUTE (R280). -/
def execPipRoute (router : Fin 1152) (crc : List (Fin 4 × BitVec 16)) (s : State) : Result :=
  s.done (s.routeCycle router.val crc)

/-- PIP_INJECT (R284). -/
def execPipInject (router : Fin 1152) (s : State) : Result := s.done (s.injectCycle router.val)

/-- EDGE_RETURN_PIP (R769). -/
def execEdgeReturnPip (row : Fin 32) (s : State) : Result :=
  match s.mesh.edgeBack.at row.val with
  | [] => s.done s
  | p :: _ => s.done ((s.onMesh fun m => { m with edgeBack := m.edgeBack.drop1 row.val }).edgeSend row.val p)

/-- One cycle of the edge's injection into a row: returned pips go first, then those to be sent again, then control pips, then messages of the row,
then spike pips while the row's bucket holds a token (R443, R769, R36, R358). -/
def State.edgeCycle (s : State) (row : Nat) : State :=
  let n := 1152 + row
  let s := s.refill n
  if !(s.mesh.edgeBack.at row).isEmpty || !s.linkUp (36 * row) 3 then s
  else if let p :: _ := s.mesh.edgeRetry.at row then
    (s.onMesh fun m => { m with edgeRetry := m.edgeRetry.drop1 row }).edgeSend row p
  else
    match s.mesh.ctrl.at n with
    | p :: _ => (s.onMesh fun m => { m with ctrl := m.ctrl.drop1 n }).edgeSend row p
    | [] =>
      if !s.hasToken n then s
      else
        match (s.mesh.msgs.at edgeNode).find? fun p => p.src = n with
        | some p =>
          let s := s.onMesh fun m => { m with msgs := m.msgs.put edgeNode ((m.msgs.at edgeNode).erase p) }
          (s.spend n).edgeSend row p
        | none =>
          match s.mesh.edgeOut.at row with
          | p :: _ =>
            let s := (s.spend n).onMesh fun m => { m with edgeOut := m.edgeOut.drop1 row }
            (s.addE edgeNode p.tag (if p.mc then s.mcCount (36 * row) p else 1)).edgeSend row p
          | [] => s

/-- EDGE_INJECT (R443). -/
def execEdgeInject (row : Fin 32) (s : State) : Result := s.done (s.edgeCycle row.val)

/-- NAK_RECEIVE (R288). -/
def execNakReceive (router : Fin 1152) (port : Fin 4) (s : State) : Result :=
  let r := router.val
  let p := port.val
  if (s.mesh.naks.at (4 * r + p)).isEmpty then s.done s
  else if (s.mesh.retry.at r).length < 8 then s.done (s.drainNaks r p 1)
  else
    let t := s.put (Reg.EVM_LINK_RETRY_DOWN r) ((s.get (Reg.EVM_LINK_RETRY_DOWN r)).lor (2 ^ p))
    s.done ((t.linkDown r p).log .evm r 0x3103 r p)

/-- LINK_DOWN_SIGNAL (R287). -/
def execLinkDownSignal (router : Fin 1152) (port : Fin 4) (s : State) : Result :=
  s.done (s.linkDown router.val port.val)

/-- Take the first control pip of a type out of a throttle's intake. -/
def State.throttleTake (s : State) (n ptype : Nat) : Option State :=
  match (s.mesh.throttleIn.at n).find? fun p => p.ptype = ptype with
  | none => none
  | some p => some (s.onMesh fun m => { m with throttleIn := m.throttleIn.put n ((m.throttleIn.at n).erase p) })

/-- ECHO_RECEIVE (R296). -/
def execEchoReceive (node : Fin 1184) (s : State) : Result :=
  match s.throttleTake node.val 1 with
  | none => s.done s
  | some s₁ => s.done (s₁.acceptEcho node.val)

/-- STORM_NOTICE_RECEIVE (R296). -/
def execStormNoticeReceive (node : Fin 1184) (s : State) : Result :=
  match s.throttleTake node.val 2 with
  | none => s.done s
  | some s₁ =>
    if s₁.metered node.val then s.done (s₁.put ⟨thrRate node.val, 0, 9⟩ (s₁.get ⟨thrHold node.val, 0, 9⟩)) else s.done s₁

/-- THROTTLE_INCREASE (R296). -/
def execThrottleIncrease (node : Fin 1184) (s : State) : Result :=
  let n := node.val
  let t := s.reach (s.mesh.riseFrom.at n + s.nodeCycles n (s.get ⟨thrCfg n, 16, 12⟩))
  let t := t.onMesh fun m => { m with riseFrom := m.riseFrom.put n t.now }
  if t.metered n then s.done (t.put ⟨thrRate n, 0, 9⟩ (min 256 (t.rate n + t.get ⟨thrCfg n, 4, 8⟩))) else s.done t

/-- The write ports empty the deferred-record write queues before a launch: an entry is due a step after the one that wrote it
at least (R299). -/
def State.delayDrain (s : State) : State :=
  s.mesh.delayWait.foldl (fun s x => x.2.foldl (fun s e => s.dsWrite x.1 e) s)
    (s.onMesh fun m => { m with delayWait := [] })

/-- DELAY_STORE_WRITE: the write port takes the head of the deferred-record write queue (R285, R298). -/
def execDelayStoreWrite (router : Fin 1152) (s : State) : Result :=
  match s.mesh.delayWait.at router.val with
  | [] => s.done s
  | e :: _ =>
    s.done ((s.onMesh fun m => { m with delayWait := m.delayWait.drop1 router.val }).dsWrite router.val e)

/-- The multicast entry at EVM_MC_ADDR.GROUP. -/
def State.mcRead (s : State) (r : Nat) : Nat := s.mesh.mcast.at (4096 * r + s.get (Reg.EVM_MC_ADDR_GROUP r))

/-- AUTO_INC after an access to EVM_MC_DATA (R311). -/
def State.mcStep (s : State) (r : Nat) : State :=
  if s.flag (Reg.EVM_MC_ADDR_AUTO_INC r) then s.put (Reg.EVM_MC_ADDR_GROUP r) (s.get (Reg.EVM_MC_ADDR_GROUP r) + 1)
  else s

/-- A write of EVM_MC_DATA: one entry whole, refused while the step clock runs unless the remap makes it (R289, R294). -/
def State.mcWrite (s : State) (r value : Nat) (remap : Bool) : State :=
  let s' :=
    if s.running && !remap then s
    else s.onMesh fun m => { m with
      mcast := m.mcast.put (4096 * r + s.get (Reg.EVM_MC_ADDR_GROUP r)) (value % 2 ^ 24 - bits value 11 1 * 2 ^ 11) }
  s'.mcStep r

/-- MC_ENTRY_WRITE (R289). -/
def execMcEntryWrite (router : Fin 1152) (value : Word) (remap : Bool) (s : State) : Result :=
  s.done (s.mcWrite router.val value.toNat remap)

/-- A write of EVM_SPILL_BASE or EVM_SPILL_LEN (R301, R311). -/
def State.spillWrite (s : State) (r : Nat) (isLen : Bool) (value : Nat) : State :=
  let base := if isLen then s.get (Reg.EVM_SPILL_BASE_BASE r) else value % 2 ^ 19
  let len := if isLen then value % 1024 else s.get (Reg.EVM_SPILL_LEN_LEN r)
  if isLen && s.running then s
  else if !isLen && base % 16 ≠ 0 then s
  else if base + 1024 * len > 0x80000 then s.put (Reg.EVM_STATUS_CFG_ERR r) 1
  else if isLen then s.put (Reg.EVM_SPILL_LEN_LEN r) len
  else s.put (Reg.EVM_SPILL_BASE_BASE r) base

/-- SPILL_REGION_WRITE (R301). -/
def execSpillRegionWrite (router : Fin 1152) (isLen : Bool) (value : Word) (s : State) : Result :=
  s.done (s.spillWrite router.val isLen value.toNat)

end Sys2Proof.Machine
end

