-- ==== Sys2Proof/Machine/Trace.lean ====
section
/-! DEFINITION. Trace records and the wait registers of the tiles (R722, R723, R726). -/

namespace Sys2Proof.Machine

namespace State

/-- A tile sends trace records of a type (R722, R723). -/
def traces (s : State) (t ptype : Nat) : Bool :=
  s.get Reg.DBG_STATUS_LEVEL = 2 && bits (s.get (Reg.DBG_TRC_CFG_EN t)) (ptype - 1) 1 = 1

/-- A step is sampled by the tile's trace (R723). -/
def sampled (s : State) (t step : Nat) : Bool := (step - s.loadStep) % s.get (Reg.DBG_TRC_CFG_SAMPLE t) = 0

/-- Queue a trace record, or count it where the FIFO of 16 is full (R722). -/
def trace (s : State) (t ptype pay : Nat) : State :=
  if !s.traces t ptype then s
  else if 16 ≤ (s.mesh.trace.at t).length then s.count (Reg.DBG_TRC_LOST_COUNT t)
  else s.onMesh fun m => { m with
    trace := m.trace.push t (Pip.make 3 false (1152 + Machine.rowOf t) t 0 s.stepNum 0 ptype pay) }

/-- Cycles of a tile's half since its launch of the step. -/
def stepCycles (s : State) (t : Nat) : Nat :=
  (s.now - s.get64 Reg.STEP_LAST_LAUNCH_LO) * s.mhz (halfOf t) / 200

/-- The wait registers are set, and a change of them has its trace record (R726, R723). -/
def setWait (s : State) (t kind src obj peer : Nat) : State :=
  let old := s.get (Reg.DBG_WAIT_WSEQ t)
  let was := s.reg (Reg.DBG_WAIT t)
  let s := (s.put (Reg.DBG_WAIT_KIND t) kind).put (Reg.DBG_WAIT_SRC t) src
  let s := if kind = 0 then s else
    ((((s.put (Reg.DBG_WAIT_WSEQ t) ((old + 1) % 256)).put (Reg.DBG_WAIT_OBJ_OBJ t) obj).put
      (Reg.DBG_WAIT_OBJ_PEER t) peer).put (Reg.DBG_WAIT_SINCE_STEP t) (s.stepNum % 2 ^ 32))
  if s.reg (Reg.DBG_WAIT t) = was then s
  else s.trace t 5 ((s.reg (Reg.DBG_WAIT t)).toNat + (s.reg (Reg.DBG_WAIT_OBJ t)).toNat * 2 ^ 32
    + (s.reg (Reg.DBG_WAIT_SINCE t)).toNat * 2 ^ 64 + (s.stepCycles t % 2 ^ 32) * 2 ^ 96)

end State

end Sys2Proof.Machine
end

