-- ==== Sys2Proof/Machine/Queue.lean ====
section
/-! DEFINITION. Message queues (R356 to R376). A queue unit is named by its tile's physical index; the manager's
unit is 1,152 (R358). -/

namespace Sys2Proof.Machine

namespace State

/-- A register field of a queue unit: the manager's unit holds the same registers in the I/O hub block (R393). -/
def qr (u : Nat) (f : RF) : RF :=
  if u < 1152 then f
  else
    let o := f.addr - tileBase u
    { f with addr := if o < 0x38000 then 0x1068000 + (o - 0x33000) else 0x106C000 + (o - 0x38000) }

/-- A field of descriptor `i` of unit `u`, by its bits in the descriptor (R360). -/
def qf (u i lo len : Nat) : RF := qr u ⟨Reg.Q_DESC0 u i + 4 * (lo / 32), lo % 32, len⟩

/-- Read a descriptor field. -/
def qget (s : State) (u i lo len : Nat) : Nat := s.get (qf u i lo len)

/-- Write a descriptor field. -/
def qput (s : State) (u i lo len v : Nat) : State := s.put (qf u i lo len) v

/-- MODE: 0 closed, 1 receive, 2 send. -/
def qMode (s : State) (u i : Nat) : Nat := s.qget u i 0 2
/-- The bits that a descriptor of a mode has in word `w`; the others are reserved (R360). -/
def qBits (mode w : Nat) : Word :=
  match mode, w with
  | 1, 0 => 0xFF0FFFFF
  | 1, 2 => 0x007FFFFF
  | 1, 3 => 0x0FFFFFFF
  | 2, 0 => 0xFF000003
  | 2, 1 => 0x001FFFFF
  | 2, 3 => 0x00003FFF
  | _, _ => 0xFFFFFFFF

/-- The reserved bits of an open descriptor read 0 (R14, R360). -/
def qShape (s : State) (u i : Nat) : State :=
  let m := s.qMode u i
  if m = 0 then s
  else (List.range 4).foldl (fun s w =>
    let a := (qr u ⟨Reg.Q_DESC0 u i + 4 * w, 0, 32⟩).addr
    s.setReg a (s.reg a &&& qBits m w)) s

/-- Slots of a ring. -/
def qSlots (s : State) (u i : Nat) : Nat := 2 ^ s.qget u i 2 4
/-- EPOCH. -/
def qEpoch (s : State) (u i : Nat) : Nat := s.qget u i 24 8
/-- PEER. -/
def qPeer (s : State) (u i : Nat) : Nat := s.qget u i 64 11
/-- AVAIL. -/
def qAvail (s : State) (u i : Nat) : Nat := s.qget u i 96 12
/-- HEAD_SEQ. -/
def qHead (s : State) (u i : Nat) : Nat := s.qget u i 108 12
/-- FREED. -/
def qFreed (s : State) (u i : Nat) : Nat := s.qget u i 75 12

/-- Base and bytes of the region that a LOC names for a unit, where the unit reaches it (R359). -/
def qRegion (u loc : Nat) : Option (Nat × Nat) :=
  if u < 1152 then
    match loc with
    | 0 => some (tileBase u, dataBytes)
    | 1 => some (podBase (podOf u), podBytes)
    | _ => none
  else
    match loc with
    | 2 => some (sramBase, sramBytes)
    | 3 => some (dramBase, 2 ^ 39)
    | _ => none

/-- Bytes of the fill map of a ring of N slots (R359). -/
def fillBytes (n : Nat) : Nat := 16 * ceilDiv (ceilDiv n 8) 16

/-- Address of a ring, where its location, size and region allow it (R359). -/
def qRing (s : State) (u i : Nat) : Option Nat :=
  let k := s.qget u i 2 4
  match qRegion u (s.qget u i 6 2) with
  | none => none
  | some (base, size) =>
    let off := 16 * s.qget u i 32 32
    let len := 16 * 2 ^ k + fillBytes (2 ^ k)
    if k < 1 ∨ 11 < k ∨ size < off + len then none
    else if base = dramBase && !s.dramMapped (base + off) len then none
    else some (base + off)

/-- The physical index of a tile code in a unit's table (R364, R369). -/
def qTile (s : State) (u code : Nat) : Option Nat := if u < 1152 then s.podLtt (podOf u) code else s.mgrLtt code

/-- The port that bridges a manager descriptor (R509). -/
def bridged (s : State) (u i : Nat) : Option Nat :=
  if u < 1152 then none
  else match s.role with
    | 1 => if 768 ≤ i ∧ i < 896 then some ((i - 768) / 16) else none
    | 2 => if 768 ≤ i ∧ i < 784 then some (s.get Reg.TLK_HIER_CTRL_UPPORT) else none
    | _ => none

/-- The descriptor at the far end of a bridged pair (R509). -/
def bridgeFar (s : State) (i : Nat) : Nat :=
  if s.role = 1 then 768 + (i - 768) % 16 else 768 + 16 * s.get Reg.TLK_HIER_STAT_WORKER + (i - 768)

/-- The code by which a unit names itself in credit pips. -/
def qSelf (s : State) (u : Nat) : Nat := if u < 1152 then s.codeOf u else 0x400

/-- Put a control pip of a unit on its way to a node: the manager's pips enter at the row of the receiving tile with
SRC 1,152 + y, and pips for the manager go to 1,152 + y of the sender's row (R358). -/
def unitCtrl (s : State) (u dest ptype pay : Nat) : State :=
  if u < 1152 then s.sendCtrl u (Pip.make 0 false dest u 0 0 0 ptype pay)
  else
    let y := 1152 + Machine.rowOf dest
    s.sendCtrl y (Pip.make 0 false dest y 0 0 0 ptype pay)

/-- Send a credit pip of a receive queue to its PEER: PTYPE 0x03 return or 0x04 revoke (R276, R369, R509). -/
def sendCredit (s : State) (u i ptype epoch n : Nat) : State :=
  let pay := fun tile q => tile % 2 ^ 16 + (q % 2 ^ 16) * 2 ^ 16 + (epoch % 256) * 2 ^ 32 + (n % 2 ^ 16) * 2 ^ 40
  match s.bridged u i with
  | some port => s.onMesh fun m => { m with
      tlkMsg := m.tlkMsg.push port (Pip.make 0 false 0 0 0 0 0 ptype (pay 0x400 (s.bridgeFar i))) }
  | none =>
    let peer := s.qPeer u i
    if peer = 0x400 ∧ u < 1152 then s.unitCtrl u (1152 + Machine.rowOf u) ptype (pay (s.qSelf u) i)
    else
      match s.qTile u peer with
      | some t => s.unitCtrl u t ptype (pay (s.qSelf u) i)
      | none => s.count (qr u (Reg.Q_CR_DISCARD_COUNT u))

/-- The Q_READY bit of a queue follows AVAIL while it is open; its rise may interrupt a core, or the host for a host queue
(R370, R486, R491). -/
def qReady (s : State) (u i : Nat) : State :=
  let was := s.flag (qr u ⟨Reg.Q_READY u (i / 32), i % 32, 1⟩)
  let now := s.qMode u i = 1 && s.qget u i 120 1 = 1 && decide (0 < s.qAvail u i)
  let s := s.put (qr u ⟨Reg.Q_READY u (i / 32), i % 32, 1⟩) (if now then 1 else 0)
  if was || !now then s
  else
    let s := if s.flag (qr u ⟨Reg.Q_READY_IE u (i / 32), i % 32, 1⟩) then s.raise (qr u ⟨Reg.Q_INT_EN u, 0, 1⟩).addr 0 else s
    if u = 1152 && 640 ≤ i && i < 768 then s.msix 9 else s

/-- The outcome of a command in Q_CMD_RESULT. -/
def qResult (s : State) (u : Nat) (st : Status) : State :=
  (s.put (qr u (Reg.Q_CMD_RESULT_STATUS u)) st.code).put (qr u (Reg.Q_CMD_RESULT_VALID u)) 1

/-- Step the epoch of a receive queue, empty it and start the clear of its fill map (R362). -/
def qRestart (s : State) (u i : Nat) : State :=
  let s := s.qput u i 24 8 (s.qEpoch u i + 1)
  let s := ((s.qput u i 96 12 0).qput u i 108 12 0).qput u i 75 12 0
  let s := ((((s.qput u i 120 1 0).qput u i 121 1 0).qput u i 122 1 0).qput u i 123 1 0).qput u i 0 2 1
  let s := s.qShape u i
  ({ s with
    clearing := if (u, i) ∈ s.clearing then s.clearing else s.clearing ++ [(u, i)]
    creditDue := s.creditDue.filter fun x => x ≠ (u, i)
    oooSeen := s.oooSeen.put (1024 * u + i) 0 } : State).qReady u i

/-- The guard alone pops this queue: that of an enabled channel (R466). -/
def guardOwns (s : State) (u i : Nat) : Bool := u = 1152 && 896 ≤ i && i < 960 && s.flag (Reg.EGR_CH_CTRL_EN (i - 896))

/-- OPEN_RX (R362, R359). -/
def openRx (s : State) (u i : Nat) : State :=
  if s.guardOwns u i ∨ s.qMode u i ≠ 0 ∨ (s.qRing u i).isNone then s.qResult u .refused
  else (s.qRestart u i).qResult u .ok

/-- RESET_RX (R362). -/
def resetRx (s : State) (u i : Nat) : State :=
  if s.guardOwns u i ∨ s.qMode u i ≠ 1 then s.qResult u .refused
  else
    let s := s.qRestart u i
    (s.sendCredit u i 0x04 (s.qEpoch u i) 0).qResult u .ok

/-- The fill map is clear: the queue opens and grants N credits (R362). -/
def fillCleared (s : State) (u i : Nat) : State :=
  if (u, i) ∉ s.clearing then s
  else
    let s := { s with clearing := s.clearing.filter fun x => x ≠ (u, i) }
    if s.qMode u i ≠ 1 then s
    else
      let n := s.qSlots u i
      let s := match s.qRing u i with
        | some a => s.wrBytes (a + 16 * n) (List.replicate (fillBytes n) 0)
        | none => s
      (s.qput u i 120 1 1).sendCredit u i 0x03 (s.qEpoch u i) n

/-- CLOSE (R362). -/
def closeQueue (s : State) (u i : Nat) : State :=
  match if s.guardOwns u i then 0 else s.qMode u i with
  | 1 =>
    let s := s.qput u i 24 8 (s.qEpoch u i + 1)
    let s := (s.sendCredit u i 0x04 (s.qEpoch u i) 0).qput u i 0 2 0
    let s := { s with
      clearing := s.clearing.filter fun x => x ≠ (u, i), creditDue := s.creditDue.filter fun x => x ≠ (u, i) }
    ((s.qput u i 120 1 0).qReady u i).qResult u .ok
  | 2 => (s.qput u i 0 2 0).qResult u .ok
  | _ => s.qResult u .refused

/-- OPEN_TX (R362). -/
def openTx (s : State) (u i : Nat) : State :=
  let target := s.qget u i 32 20
  if s.guardOwns u i ∨ s.qMode u i ≠ 0 then s.qResult u .refused
  else if (List.range 1024).any fun j => s.qMode u j = 2 && s.qget u j 32 20 = target then s.qResult u .refused
  else
    let s := ((s.qput u i 64 12 0).qput u i 76 12 0).qput u i 98 12 0
    ((((s.qput u i 96 1 0).qput u i 97 1 0).qput u i 0 2 2).qShape u i).qResult u .ok

/-- ACK_EPOCH (R362). -/
def ackEpoch (s : State) (u i : Nat) : State :=
  if s.guardOwns u i ∨ s.qMode u i ≠ 2 ∨ s.qget u i 96 1 = 0 then s.qResult u .refused
  else
    let s := (s.qput u i 24 8 (s.qget u i 88 8)).qput u i 64 12 (s.qget u i 98 12)
    ((((s.qput u i 98 12 0).qput u i 76 12 0).qput u i 96 1 0).qput u i 97 1 1).qResult u .ok

/-- The outcome of a send. -/
structure Sent where
  st : State
  status : Status
  full : Bool
  seq : Nat

/-- Offer a message to an endpoint (R364); what the manager sends to itself crosses no mesh (log entry 163). -/
def offer (s : State) (u i body : Nat) : Sent :=
  let mgr := s.qget u i 52 1 = 1
  let tile := s.qget u i 42 10
  let far := s.bridged u i
  if s.qMode u i ≠ 2 then ⟨s, .refused, false, 0⟩
  else if far.isNone && !mgr && (s.qTile u tile).isNone then ⟨s, .refused, false, 0⟩
  else if s.qget u i 96 1 = 1 then ⟨s, .staleEpoch, false, 0⟩
  else if s.qget u i 97 1 = 0 ∨ s.qget u i 64 12 = 0 then
    ⟨s.count (qr u (Reg.Q_NO_CREDIT_COUNT u)), .noCredit, false, 0⟩
  else if 16 ≤ (s.mesh.msgs.at u).length then ⟨s.count (qr u (Reg.Q_NO_CREDIT_COUNT u)), .noCredit, true, 0⟩
  else
    let seq := s.qget u i 76 12
    let s := (s.qput u i 64 12 (s.qget u i 64 12 - 1)).qput u i 76 12 (seq + 1)
    let queue := if far.isSome then s.bridgeFar i else s.qget u i 32 10
    let pay := body % 2 ^ 128 + queue * 2 ^ 128 + s.qEpoch u i * 2 ^ 144
    let s := s.add64 (qr u ⟨Reg.Q_TX_LO u, 0, 32⟩).addr 1
    match far with
    | some port =>
      ⟨s.onMesh fun m => { m with tlkMsg := m.tlkMsg.push port (Pip.make 2 false 0 0 0 0 seq 1 pay) }, .ok, false, seq⟩
    | none =>
      if mgr ∧ u = edgeNode then
        ⟨s.onMesh fun m => { m with msgIn := m.msgIn.push u (Pip.make 2 false u u 0 0 seq 1 pay) }, .ok, false, seq⟩
      else
      let dest := if mgr then 1152 + Machine.rowOf u else (s.qTile u tile).getD 0
      let src := if u < 1152 then u else 1152 + Machine.rowOf dest
      ⟨s.onMesh fun m => { m with msgs := m.msgs.push u (Pip.make 2 false dest src 0 0 seq 1 pay) }, .ok, false, seq⟩

/-- A message of the transmit buffer. -/
def txBody (s : State) (u : Nat) : Nat :=
  (List.range 4).foldl (fun acc k =>
    acc + (s.reg (qr u ⟨Reg.Q_TXBUF0 u + 4 * k, 0, 32⟩).addr).toNat * 2 ^ (32 * k)) 0

/-- A trace record of a queue operation of a core (R723). -/
def traceQueue (s : State) (u i body dir seq peer : Nat) (st : Status) : State :=
  if u < 1152 then
    s.trace u 4 (body % 2 ^ 128 + (i + dir * 2 ^ 15) * 2 ^ 128 + seq * 2 ^ 144 + peer * 2 ^ 160 + st.code * 2 ^ 176)
  else s

/-- The node that an endpoint's TARGET names, as wait registers show it (R726). -/
def targetCode (s : State) (u i : Nat) : Nat := if s.qget u i 52 1 = 1 then 0x400 else s.qget u i 42 10

/-- A core send through endpoint `i` (R364, R726, R723). -/
def queueSend (s : State) (u i : Nat) : State :=
  let body := s.txBody u
  let r : Sent := if s.guardOwns u i then ⟨s, .refused, false, 0⟩ else s.offer u i body
  let s := (((r.st.put (qr u (Reg.Q_SEND_RESULT_STATUS u)) r.status.code).put (qr u (Reg.Q_SEND_RESULT_FIFO_FULL u))
    (if r.full then 1 else 0)).put (qr u (Reg.Q_SEND_RESULT_IDX u)) i).put (qr u (Reg.Q_SEND_RESULT_VALID u)) 1
  let s := if r.status = .ok then s.put (qr u (Reg.Q_SEND_RESULT_SEQ u)) r.seq else s
  if u < 1152 then
    match r.status with
    | .ok =>
      let s := if s.get (Reg.DBG_WAIT_KIND u) = 2 then s.setWait u 0 0 0 0 else s
      s.traceQueue u i body 0 r.seq (s.targetCode u i) .ok
    | .noCredit => if r.full then s else s.setWait u 2 0 i (s.targetCode u i)
    | _ => s
  else s

/-- A send of an engine to a 20-bit queue address (R365). -/
def engineSend (s : State) (u addr body : Nat) : Sent :=
  match (List.range 1024).find? fun i => s.qMode u i = 2 && s.qget u i 32 20 = addr with
  | some i => s.offer u i body
  | none => ⟨s.count (qr u (Reg.Q_NO_CREDIT_COUNT u)), .refused, false, 0⟩

/-! Credits at the sender (R366). -/

/-- An epoch is newer than a reference. -/
def newer (e r : Nat) : Bool := let d := (e + 256 - r) % 256; 1 ≤ d && d ≤ 127

/-- A credit pip changes its endpoint by the first row of R366 that applies; a revoke carries no credits. -/
def applyCredit (s : State) (u i : Nat) (revoke : Bool) (e n : Nat) : State :=
  let ev := s.qget u i 97 1 = 1
  let stale := s.qget u i 96 1 = 1
  let epoch := s.qEpoch u i
  let pend := s.qget u i 88 8
  if !ev then ((s.qput u i 24 8 e).qput u i 64 12 (if revoke then 0 else n)).qput u i 97 1 1
  else if !revoke && !stale && e = epoch then s.qput u i 64 12 (min 2048 (s.qget u i 64 12 + n))
  else if !revoke && stale && e = pend then s.qput u i 98 12 (min 2048 (s.qget u i 98 12 + n))
  else if newer e epoch && (!stale || newer e pend) then
    (((s.qput u i 64 12 0).qput u i 96 1 1).qput u i 88 8 e).qput u i 98 12 (if revoke then 0 else n)
  else if revoke && stale && e = pend then s
  else s.count (qr u (Reg.Q_CR_DISCARD_COUNT u))

/-- The open endpoint that serves a receiver's queue. -/
def endpointOf (s : State) (u tile queue : Nat) : Option Nat :=
  (List.range 1024).find? fun i =>
    s.qMode u i = 2 && s.qget u i 32 10 = queue &&
      (if tile = 0x400 then s.qget u i 52 1 = 1 else s.qget u i 52 1 = 0 && s.qget u i 42 10 = tile)

/-- A credit pip at a unit (R366). -/
def creditPip (s : State) (u : Nat) (revoke : Bool) (p : Pip) : State :=
  match s.endpointOf u (p.b 0 16) (p.b 16 16) with
  | some i => s.applyCredit u i revoke (p.b 32 8) (p.b 40 16)
  | none => s.count (qr u (Reg.Q_CR_DISCARD_COUNT u))

/-! Receiving (R367). -/

/-- The slot of a sequence number. -/
def slotAddr (ring n q : Nat) : Nat := ring + 16 * (q % n)

/-- The fill bit of a slot. -/
def fillBit (s : State) (ring n q : Nat) : Bool := (s.rd8 (ring + 16 * n + q % n / 8)).getLsbD (q % n % 8)

/-- Change the fill bit of a slot. -/
def setFill (s : State) (ring n q : Nat) (v : Bool) : State :=
  let a := ring + 16 * n + q % n / 8
  let m : Byte := 1 <<< (q % n % 8)
  s.wr8 a (if v then s.rd8 a ||| m else s.rd8 a &&& ~~~m)

/-- Fill bits set, in slot order, after slot `q`: how far the tail passes, clearing each (R367). -/
def passFilled (s : State) (ring n q : Nat) : Nat → State × Nat
  | 0 => (s, 0)
  | fuel + 1 =>
    if s.fillBit ring n q then
      let (s', k) := (s.setFill ring n q false).passFilled ring n (q + 1) fuel
      (s', k + 1)
    else (s, 0)

/-- Any fill bit of a ring is set. -/
def anyFill (s : State) (ring n : Nat) : Bool := (s.rdBytes (ring + 16 * n) (fillBytes n)).any fun b => b != 0

/-- The message's sender is the queue's peer (R357, R358). -/
def fromPeer (s : State) (u i : Nat) (p : Pip) : Bool :=
  let peer := s.qPeer u i
  if peer = 0x400 && u < 1152 then 1152 ≤ p.src && p.src ≤ 1183 else s.qTile u peer == some p.src

/-- A message is dropped and counted, with the interrupt on a drop (R393). -/
def qDropped (s : State) (u : Nat) (f : RF) : State := (s.count (qr u f)).raise (qr u ⟨Reg.Q_INT_EN u, 0, 1⟩).addr 2

/-- A message at queue `i` of a unit; `mine` says that its sender is the queue's peer (R367). -/
def accept (s : State) (u i : Nat) (mine : Bool) (p : Pip) : State :=
  let closed := s.qDropped u (Reg.Q_DROP_CLOSED_COUNT u)
  if s.get (qr u (Reg.Q_CTRL_EN u)) = 0 ∨ s.qMode u i ≠ 1 then closed
  else
    match s.qRing u i with
    | none => closed
    | some ring =>
      let n := s.qSlots u i
      let head := s.qHead u i
      let avail := s.qAvail u i
      let seq := p.seq
      let ahead := (seq + 8192 - head - avail) % 4096
      if msgEpoch p ≠ s.qEpoch u i then (s.qDropped u (Reg.Q_DROP_STALE_COUNT u)).qput u i 122 1 1
      else if !mine then s.qDropped u (Reg.Q_DROP_FOREIGN_COUNT u)
      else if n - avail ≤ ahead ∨ s.fillBit ring n seq then
        (s.qDropped u (Reg.Q_DROP_SEQ_COUNT u)).log .q u 0x3302 (if u < 1152 then u else srcManager) i seq
      else
        let s := (s.wrLe (slotAddr ring n seq) 16 (msgBody p)).add64 (qr u ⟨Reg.Q_RX_LO u, 0, 32⟩).addr 1
        if ahead = 0 then
          let (s, k) := s.passFilled ring n (seq + 1) (n - avail - 1)
          let s := s.qput u i 96 12 (avail + k + 1)
          (s.qput u i 123 1 (if s.anyFill ring n then 1 else 0)).qReady u i
        else (s.setFill ring n seq true).qput u i 123 1 1

/-- A read of a fill map meets an error, in the memory that the queue's LOC names (R359, R408). -/
def fillHit (s : State) (u i : Nat) (h : EccHit) : State :=
  match s.qget u i 6 2 with
  | 0 => s.tileHit u h
  | 1 => s.podHit (podOf u) h
  | 2 => s.managerHit h
  | _ => s

/-- A message that port L accepted reaches the queue unit (R367); where its fill map is uncorrectable it is discarded
(R408). -/
def receiveMsg (s : State) (u : Nat) (ecc : Option EccHit) : State :=
  match s.mesh.msgIn.at u with
  | [] => s
  | p :: _ =>
    let s := s.onMesh fun m => { m with msgIn := m.msgIn.drop1 u }
    let take := fun (s : State) => s.accept u (msgQueue p) (s.fromPeer u (msgQueue p) p) p
    match ecc with
    | none => take s
    | some h =>
      let s := s.fillHit u (msgQueue p) h
      if h.fatal then s.qDropped u (Reg.Q_DROP_SEQ_COUNT u) else take s

/-! Popping (R368, R369). -/

/-- A credit return is due (R369). -/
def creditReady (s : State) (u i : Nat) : Bool :=
  let freed := s.qFreed u i
  0 < freed && (max 1 (s.qget u i 8 12) ≤ freed || s.qAvail u i = 0)

/-- Free the first `n` visible slots of a queue (R368). -/
def queueTake (s : State) (u i n : Nat) : State :=
  let head := s.qHead u i
  let s := match s.qRing u i with
    | some ring => (List.range n).foldl (fun (s : State) k =>
        s.traceQueue u i (s.rdLe (slotAddr ring (s.qSlots u i) (head + k)) 16) 1 ((head + k) % 4096) (s.qPeer u i) .ok) s
    | none => s
  let s := ((s.qput u i 108 12 (head + n)).qput u i 96 12 (s.qAvail u i - n)).qput u i 75 12 (s.qFreed u i + n)
  let s := if s.creditReady u i && !(s.creditDue.contains (u, i)) then { s with creditDue := s.creditDue ++ [(u, i)] }
    else s
  s.qReady u i

/-- A pop of `n` visible slots by a core (R368). -/
def queuePop (s : State) (u i n : Nat) : State :=
  let fin := fun (s : State) (st : Status) =>
    (s.put (qr u (Reg.Q_POP_RESULT_STATUS u)) st.code).put (qr u (Reg.Q_POP_RESULT_VALID u)) 1
  if s.qMode u i = 1 ∧ s.qget u i 120 1 = 1 ∧ 1 ≤ n ∧ n ≤ s.qAvail u i ∧ !s.guardOwns u i then fin (s.queueTake u i n) .ok
  else fin s .refused

/-- The credits of one queue go back to PEER (R369). -/
def returnOne (s : State) (u i : Nat) : State :=
  let s := { s with creditDue := s.creditDue.filter fun x => x ≠ (u, i) }
  (s.sendCredit u i 0x03 (s.qEpoch u i) (s.qFreed u i)).qput u i 75 12 0

/-- The credits of a queue that are due go back to PEER, after those of its unit that were due before them (R369, R373). -/
def returnCredits (s : State) (u i : Nat) : State :=
  if (u, i) ∉ s.creditDue then s
  else
    let before := (s.creditDue.filter fun x => x.1 = u).takeWhile fun x => x != (u, i)
    (before.foldl (fun s x => s.returnOne x.1 x.2) s).returnOne u i

/-- One queue at a gap scan (R372). -/
def gapScanOne (s : State) (u i : Nat) : State :=
  let key := 1024 * u + i
  if s.qMode u i = 1 ∧ s.qget u i 120 1 = 1 ∧ s.qget u i 123 1 = 1 then
    let tail := (s.qHead u i + s.qAvail u i) % 4096
    let s' := { s with oooSeen := s.oooSeen.put key (tail + 1) }
    if s.oooSeen.at key = tail + 1 ∧ s.qget u i 121 1 = 0 then
      let s := ((s'.qput u i 121 1 1).put (qr u (Reg.Q_STATUS_GAP u)) 1).raise (qr u ⟨Reg.Q_INT_EN u, 0, 1⟩).addr 1
      (((s.put (qr u (Reg.Q_STATUS_LAST_GAP u)) i).count (qr u (Reg.Q_GAP_CNT_COUNT u))).countObj 32 0x2900 4).log .q u 0x3301
        (if u < 1152 then u else srcManager) i
    else s'
  else { s with oooSeen := s.oooSeen.put key 0 }

/-- The gap scan of a unit; GAP_SCAN 0 disables it (R372). -/
def gapScan (s : State) (u : Nat) : State :=
  if s.get (qr u (Reg.Q_CTRL_GAP_SCAN u)) = 0 then s
  else (List.range 1024).foldl (fun s i => s.gapScanOne u i) s

end State

/-- OPEN_RX (R362). -/
def execOpenRx (unit : Fin 1153) (index : Fin 1024) (s : State) : Result := s.done (s.openRx unit.val index.val)

/-- FILL_MAP_CLEARED (R362). -/
def execFillMapCleared (unit : Fin 1153) (index : Fin 1024) (s : State) : Result :=
  s.done (s.fillCleared unit.val index.val)

/-- RESET_RX (R362). -/
def execResetRx (unit : Fin 1153) (index : Fin 1024) (s : State) : Result := s.done (s.resetRx unit.val index.val)

/-- CLOSE (R362). -/
def execCloseQueue (unit : Fin 1153) (index : Fin 1024) (s : State) : Result :=
  s.done (s.closeQueue unit.val index.val)

/-- OPEN_TX (R362). -/
def execOpenTx (unit : Fin 1153) (index : Fin 1024) (s : State) : Result := s.done (s.openTx unit.val index.val)

/-- ACK_EPOCH (R362). -/
def execAckEpoch (unit : Fin 1153) (index : Fin 1024) (s : State) : Result := s.done (s.ackEpoch unit.val index.val)

/-- QUEUE_SEND (R364). -/
def execQueueSend (unit : Fin 1153) (index : Fin 1024) (s : State) : Result := s.done (s.queueSend unit.val index.val)

/-- The first control pip of a type in a unit's intake: the manager's intakes are those of the 32 rows. -/
def State.takeCtrl (s : State) (u ptype : Nat) : Option (Pip × State) :=
  let nodes := if u < 1152 then [u] else (List.range 32).map fun y => 1152 + y
  (nodes.find? fun n => (s.mesh.ctrlIn.at n).any fun p => p.ptype = ptype).bind fun n =>
    ((s.mesh.ctrlIn.at n).find? fun p => p.ptype = ptype).map fun p =>
      (p, s.onMesh fun m => { m with ctrlIn := m.ctrlIn.put n ((m.ctrlIn.at n).erase p) })

/-- CREDIT_RETURN_RECEIVE (R366). -/
def execCreditReturnReceive (unit : Fin 1153) (s : State) : Result :=
  match s.takeCtrl unit.val 0x03 with
  | some (p, s₁) => s.done (s₁.creditPip unit.val false p)
  | none => s.done s

/-- CREDIT_REVOKE_RECEIVE (R366). -/
def execCreditRevokeReceive (unit : Fin 1153) (s : State) : Result :=
  match s.takeCtrl unit.val 0x04 with
  | some (p, s₁) => s.done (s₁.creditPip unit.val true p)
  | none => s.done s

/-- QUEUE_POP (R368). -/
def execQueuePop (unit : Fin 1153) (index : Fin 1024) (count : Fin 4096) (s : State) : Result :=
  s.done (s.queuePop unit.val index.val count.val)

/-- CREDIT_RETURN_SEND (R369). -/
def execCreditReturnSend (unit : Fin 1153) (index : Fin 1024) (s : State) : Result :=
  s.done (s.returnCredits unit.val index.val)

/-- GAP_SCAN (R372). -/
def execGapScan (unit : Fin 1153) (s : State) : Result := s.done (s.gapScan unit.val)

end Sys2Proof.Machine
end

