-- ==== Sys2Proof/Machine/Neuron.lean ====
section
/-! DEFINITION. Population contexts and the update of one neuron (R125 to R148, R153 to R157, R245). -/

namespace Sys2Proof.Machine

/-- A population context as the engine reads it (R157). -/
structure Ctx where
  model : Nat
  fmt : Nat
  reset : Nat
  leakMode : Nat
  outMode : Nat
  plast : Bool
  windowed : Bool
  outEn : Bool
  tapEn : Bool
  mcShift : Nat
  first : Nat
  count : Nat
  stateBase : Nat
  accBase : Nat
  theta : Int
  vMin : Int
  leakShift : Nat
  leakMul : Nat
  refrac : Nat
  bias : Int
  aInc : Nat
  aDecay : Nat
  aShl : Nat
  rfC : Int
  rfS : Int
  qOff : Int
  qMul : Nat
  qSh : Nat
  mcBase : Nat
  axonBase : Nat
  tapQueue : Nat
  postDecay : Nat
  postInc : Nat
  deriving DecidableEq, Repr

/-- Context `c` of tile `t` as its registers stand. -/
def State.ctx (s : State) (t c : Nat) : Ctx where
  model := s.get (Reg.POP_CTRL_MODEL t c)
  fmt := s.get (Reg.POP_CTRL_FMT t c)
  reset := s.get (Reg.POP_CTRL_RESET t c)
  leakMode := s.get (Reg.POP_CTRL_LEAK_MODE t c)
  outMode := s.get (Reg.POP_CTRL_OUT_MODE t c)
  plast := s.flag (Reg.POP_CTRL_PLAST t c)
  windowed := s.flag (Reg.POP_CTRL_WINDOWED t c)
  outEn := s.flag (Reg.POP_CTRL_OUT_EN t c)
  tapEn := s.flag (Reg.POP_CTRL_TAP_EN t c)
  mcShift := s.get (Reg.POP_CTRL_MC_SHIFT t c)
  first := s.get (Reg.POP_RANGE_FIRST t c)
  count := s.get (Reg.POP_RANGE_COUNT t c)
  stateBase := s.get (Reg.POP_STATE_BASE_BASE t c)
  accBase := s.get (Reg.POP_ACC_BASE_BASE t c)
  theta := sext 16 (s.get (Reg.POP_THRESH_THETA t c))
  vMin := sext 16 (s.get (Reg.POP_THRESH_V_MIN t c))
  leakShift := s.get (Reg.POP_LEAK_LEAK_SHIFT t c)
  leakMul := s.get (Reg.POP_LEAK_LEAK_MUL t c)
  refrac := s.get (Reg.POP_LEAK_REFRAC t c)
  bias := sext 16 (s.get (Reg.POP_BIAS_BIAS t c))
  aInc := s.get (Reg.POP_ADAPT_A_INC t c)
  aDecay := s.get (Reg.POP_ADAPT_A_DECAY t c)
  aShl := s.get (Reg.POP_ADAPT_A_SHL t c)
  rfC := sext 16 (s.get (Reg.POP_RES_RF_C t c))
  rfS := sext 16 (s.get (Reg.POP_RES_RF_S t c))
  qOff := sext 16 (s.get (Reg.POP_QUANT_Q_OFF t c))
  qMul := s.get (Reg.POP_QUANT_Q_MUL t c)
  qSh := s.get (Reg.POP_QUANT_Q_SH t c)
  mcBase := s.get (Reg.POP_MCAST_MC_BASE t c)
  axonBase := s.get (Reg.POP_AXON_AXON_BASE t c)
  tapQueue := s.get (Reg.POP_TAP_QUEUE t c)
  postDecay := s.get (Reg.NE_TRACE_POST_DECAY t c)
  postInc := s.get (Reg.NE_TRACE_POST_INC t c)

/-- Bytes of one neuron's state (R126). -/
def Ctx.size (c : Ctx) : Nat := if c.fmt = 0 then 4 else 8

/-- The leak (R135). -/
def Ctx.leak (c : Ctx) (v : Int) : Int :=
  if c.leakMode = 0 then (if c.leakShift = 0 then v else v - shr v c.leakShift) else shr (v * c.leakMul + 128) 8

/-- The quantiser (R135). -/
def Ctx.quant (c : Ctx) (v : Int) : Nat :=
  let x := max 0 (v - c.qOff) * c.qMul
  (min 255 (if c.qSh = 0 then x else shr (x + (2 ^ (c.qSh - 1) : Nat)) c.qSh)).toNat

/-- A decay by shift; a shift of 0 leaves the value (R135, R245). -/
def decay (a sh : Nat) : Nat := if sh = 0 then a else a - a / 2 ^ sh

/-- The state of a neuron, taken apart (R129, R130). -/
structure Neuron where
  v : Int
  y : Int
  a : Nat
  trace : Nat
  ref : Nat
  deriving DecidableEq, Repr

/-- Read a state word. -/
def Ctx.read (c : Ctx) (w : Nat) : Neuron :=
  if c.fmt = 0 then ⟨sext 16 w, 0, bits w 24 8, bits w 24 8, bits w 16 6⟩
  else ⟨sext 16 w, sext 16 (w / 2 ^ 16), bits w 16 16, bits w 32 16, bits w 48 8⟩

/-- What an update of one neuron leaves. -/
structure Updated where
  n : Neuron
  fire : Bool
  g : Nat
  hi : Bool
  lo : Bool
  yClip : Bool
  deriving DecidableEq, Repr

/-- The largest adaptation (R136). -/
def Ctx.amax (c : Ctx) : Nat := if c.fmt = 0 then 255 else 65535

/-- The update of one neuron from its accumulator (R136 to R140, R245). -/
def Ctx.update (c : Ctx) (n : Neuron) (acc : Nat) : Updated :=
  let i := rne8 (sext 32 acc)
  let a := if c.model = 2 then decay n.a c.aDecay else n.a
  let post := fun (fire : Bool) => if c.plast then min c.amax (decay n.trace c.postDecay + if fire then c.postInc else 0)
    else n.trace
  if 0 < n.ref then ⟨{ n with a := a, trace := post false, ref := n.ref - 1 }, false, 0, false, false, false⟩
  else
    let lo : Int := if c.model = 4 then 0 else c.vMin
    let u : Int := match c.model with
      | 0 => n.v + i + c.bias
      | 1 | 2 => c.leak n.v + i + c.bias
      | 3 => rot14 (c.rfC * n.v - c.rfS * n.y) + i + c.bias
      | _ => i + c.bias
    let v1 := sat u lo 32767
    let y0 := rot14 (c.rfS * n.v + c.rfC * n.y)
    let y := if c.model = 3 then sat y0 (-32768) 32767 else n.y
    let yClip := c.model = 3 && (y0 < -32768 || 32767 < y0)
    if c.model = 4 then
      let g := c.quant v1
      let fire := decide (1 ≤ g)
      ⟨⟨v1, y, a, post fire, n.ref⟩, fire, g, decide (32767 < u), decide (u < lo), yClip⟩
    else
      let th : Int := c.theta + if c.model = 2 then (a * 2 ^ c.aShl : Nat) else 0
      let fire := decide (th ≤ v1)
      if fire then
        let g := if c.outMode = 0 then 1 else max 1 (c.quant v1)
        let r := v1 - th
        let v := if c.reset = 0 then 0 else sat r lo 32767
        let y := if c.reset = 0 && c.model = 3 then 0 else y
        let a := if c.model = 2 then min (a + c.aInc) c.amax else a
        ⟨⟨v, y, a, post true, c.refrac⟩, true, g, decide (32767 < u) || (c.reset ≠ 0 && 32767 < r),
          decide (u < lo) || (c.reset ≠ 0 && r < lo), yClip⟩
      else ⟨⟨v1, y, a, post false, n.ref⟩, false, 0, decide (32767 < u), decide (u < lo), yClip⟩

/-- The state word an update writes; reserved bits keep their value (R129, R130). -/
def Ctx.write (c : Ctx) (w : Nat) (r : Updated) : Nat :=
  let bit := fun (b : Bool) (k : Nat) => if b then 2 ^ k else 0
  if c.fmt = 0 then
    let aux := if c.plast then r.n.trace else if c.model = 2 then r.n.a else bits w 24 8
    toBits 16 r.n.v + r.n.ref % 64 * 2 ^ 16 + bit r.fire 22 + bit (r.hi || r.lo) 23 + aux % 256 * 2 ^ 24
  else
    let adp := if c.model = 3 then toBits 16 r.n.y else if c.model = 2 then r.n.a else bits w 16 16
    toBits 16 r.n.v + adp * 2 ^ 16 + r.n.trace % 65536 * 2 ^ 32 + r.n.ref % 256 * 2 ^ 48 + bit r.fire 56 + bit r.hi 57
      + bit r.lo 58 + bit r.yClip 59 + bits w 60 4 * 2 ^ 60

namespace State

/-! Enabling and changing a context (R153 to R155). -/

/-- Two byte ranges overlap; an empty one overlaps none. -/
def overlap (a la b lb : Nat) : Bool := 0 < la && 0 < lb && a < b + lb && b < a + la

/-- The accumulator bytes of a context under the tile's window W (R126, R146). -/
def accBytes (w : Nat) (c : Ctx) : Nat := 4 * c.count * (if c.windowed then w else 1)

/-- The first failing condition of the enable check, 0 where all hold (R153). -/
def ctxCheck (s : State) (t n : Nat) : Nat :=
  let c := s.ctx t n
  let w := s.get (Reg.NE_WINDOW_W t)
  let others := (List.range 32).filterMap fun m =>
    if m ≠ n ∧ s.flag (Reg.POP_CTRL_EN t m) then some (m, s.ctx t m) else none
  let sb := c.stateBase
  let sl := c.count * c.size
  let ab := c.accBase
  let al := accBytes w c
  let hits := fun (b l : Nat) => others.any fun o =>
    overlap b l o.2.stateBase (o.2.count * o.2.size) || overlap b l o.2.accBase (accBytes w o.2)
  if 5 ≤ c.model then 0x01
  else if c.model = 3 ∧ c.fmt = 0 then 0x02
  else if c.model = 2 ∧ c.fmt = 0 ∧ c.plast then 0x03
  else if c.count = 0 ∨ 16384 < c.first + c.count then 0x04
  else if others.any fun o =>
      overlap c.first c.count o.2.first o.2.count ||
        (if o.1 < n then c.first < o.2.first + o.2.count else o.2.first < c.first + c.count) then 0x05
  else if sb % 16 ≠ 0 ∨ dataBytes < sb + sl ∨ overlap sb sl ab al ∨ hits sb sl then 0x06
  else if ab % 16 ≠ 0 ∨ dataBytes < ab + al ∨ hits ab al then 0x07
  else if c.fmt = 0 ∧ 63 < c.refrac then 0x08
  else if c.model = 4 ∧ (c.refrac ≠ 0 ∨ c.qMul = 0) then 0x09
  else if 8 < c.aShl then 0x0A
  else if 4095 < c.mcBase + (c.count - 1) / 2 ^ c.mcShift then 0x0C
  else if c.windowed ∧ w = 0 then 0x0D
  else 0

/-- Record a refused enable or field write (R153, R154). -/
def ctxError (s : State) (t n code : Nat) : State :=
  let s := (s.put (Reg.POP_STATUS_CFG_ERR t n) 1).put (Reg.POP_STATUS_ERR_CODE t n) code
  (((s.put (Reg.NE_STATUS_CFG_ERR t) 1).put (Reg.NE_STATUS_ERR_CTX t) n).put (Reg.NE_STATUS_ERR_CODE t) code).raise
    (Reg.NE_INT_EN t) 1

/-- A field of a context register is structural: MODEL, FMT, PLAST, WINDOWED, MC_SHIFT of POP_CTRL, and the registers
at 0x04 to 0x0C, 0x28 and 0x2C (R154). -/
def structural (off lo : Nat) : Bool :=
  (off = 0 && [1, 4, 8, 9, 12].contains lo) || [0x04, 0x08, 0x0C, 0x28, 0x2C].contains off

/-- The code under which a write of a field of an enabled context is refused, 0 where it is taken (R154). -/
def fieldRefusal (s : State) (t n off lo v old : Nat) : Nat :=
  let c := s.ctx t n
  if structural off lo then (if v = old then 0 else 0x0B)
  else if off = 0x14 ∧ lo = 16 ∧ c.fmt = 0 ∧ 63 < v then 0x08
  else if off = 0x14 ∧ lo = 16 ∧ c.model = 4 ∧ v ≠ 0 then 0x09
  else if off = 0x24 ∧ lo = 16 ∧ c.model = 4 ∧ v = 0 then 0x09
  else if off = 0x1C ∧ lo = 20 ∧ 8 < v then 0x0A
  else 0

/-- A write of a context register other than its EN bit (R154). -/
def ctxWrite (s : State) (t n off : Nat) (w : Word) : State :=
  let a := Reg.POP_CTRL t n + off
  let noEn := fun (f : FieldRow) => !(off = 0 && f.lo = 0)
  if !s.flag (Reg.POP_CTRL_EN t n) then s.writeOnly a w noEn
  else
    match RegMap.rowOf a with
    | none => s
    | some r =>
      let code := fun (f : FieldRow) =>
        if f.acc = .rw && noEn f then s.fieldRefusal t n off f.lo (getF w f.lo f.len) (getF (s.reg a) f.lo f.len) else 0
      let s' := s.writeOnly a w fun f => noEn f && code f = 0
      r.fields.foldl (fun s f => if code f = 0 then s else s.ctxError t n (code f)) s'

/-- A write of POP_CTRL, EN included (R153, R154, R155). -/
def ctrlWrite (s : State) (t n : Nat) (w : Word) : State :=
  let was := s.flag (Reg.POP_CTRL_EN t n)
  let s := s.ctxWrite t n 0 w
  if getF w 0 1 = 0 then s.put (Reg.POP_CTRL_EN t n) 0
  else if was then s
  else
    let code := s.ctxCheck t n
    if code = 0 then s.put (Reg.POP_CTRL_EN t n) 1 else s.ctxError t n code

/-- A write of NE_WINDOW: a change is ignored while a windowed context is enabled (R148). -/
def windowWrite (s : State) (t : Nat) (w : Word) : State :=
  let v := getF w 0 7
  if v = s.get (Reg.NE_WINDOW_W t) ∨ v = 1 ∨ 64 < v then s
  else if (List.range 32).any fun n => s.flag (Reg.POP_CTRL_EN t n) && s.flag (Reg.POP_CTRL_WINDOWED t n) then
    (s.put (Reg.NE_STATUS_CFG_ERR t) 1).raise (Reg.NE_INT_EN t) 1
  else s.put (Reg.NE_WINDOW_W t) v

end State

/-- CONTEXT_ENABLE: a write of POP_CTRL with EN 1 (R153). -/
def execContextEnable (tile : Fin 1152) (ctx : Fin 32) (value : Word) (s : State) : Result :=
  s.done (s.ctrlWrite tile.val ctx.val (value ||| 1))

/-- CONTEXT_DISABLE: a write of POP_CTRL with EN 0 (R155). -/
def execContextDisable (tile : Fin 1152) (ctx : Fin 32) (value : Word) (s : State) : Result :=
  s.done (s.ctrlWrite tile.val ctx.val (value &&& ~~~ 1))

/-- CONTEXT_FIELD_WRITE: a write of one of a context's sixteen registers that leaves EN (R154). -/
def execContextFieldWrite (tile : Fin 1152) (ctx : Fin 32) (reg : Fin 16) (value : Word) (s : State) : Result :=
  s.done (s.ctxWrite tile.val ctx.val (4 * reg.val) value)

/-- NE_WINDOW_WRITE (R148). -/
def execNeWindowWrite (tile : Fin 1152) (value : Word) (s : State) : Result := s.done (s.windowWrite tile.val value)

end Sys2Proof.Machine
end

