-- ==== Sys2Proof/Machine/Synapse.lean ====
section
/-! DEFINITION. Projection descriptors and the LIST and BLOCK stores as an engine reads them (R160 to R186). -/

namespace Sys2Proof.Machine

/-- A projection descriptor (R161, R217, R246). -/
structure Desc where
  valid : Bool
  block : Bool
  windowed : Bool
  gcode : Nat
  g : Nat
  bfmt : Nat
  tgtN : Nat
  proj : Nat
  srcBase : Nat
  srcCount : Nat
  nT : Nat
  seg : Nat
  dir : Nat
  scale : Nat
  area16 : Nat
  scaleCount : Nat
  wintgt : Bool
  actBase : Nat
  actLen : Nat
  stageIdx : Nat
  modCh : Nat
  ltp : Bool
  ltd : Bool
  eDecay : Nat
  aPos : Nat
  aNeg : Nat
  preDecay : Nat
  modSh : Nat
  preInc : Nat
  stepMax : Nat
  wLo : Nat
  wHi : Nat
  wbMin : Nat
  preBase : Nat
  eligBase : Nat
  deriving DecidableEq, Repr

/-- Target blocks of a BLOCK store (R177). -/
def Desc.nb (d : Desc) : Nat := ceilDiv d.nT 64
/-- Source groups of a BLOCK store (R177). -/
def Desc.ng (d : Desc) : Nat := ceilDiv d.srcCount d.g
/-- Bytes of a column of a BLOCK store (R178). -/
def Desc.cb (d : Desc) : Nat := if d.bfmt = 0 then 32 else 64
/-- Bytes of a group of a BLOCK store (R178). -/
def Desc.gb (d : Desc) : Nat := 16 + d.g * d.cb
/-- A record's axon lies in the source range (R165). -/
def Desc.holds (d : Desc) (axon : Nat) : Bool := d.valid && d.srcBase ≤ axon && axon < d.srcBase + d.srcCount

namespace State

/-- The descriptor of slot `n` of pod `p` (R160). The loader refuses the unassigned GCODE 3 (R184); an engine that meets it
all the same takes the next power of two (DESIGN CHOICE, log entry 144). -/
def desc (s : State) (p n : Nat) : Desc :=
  let a := podBase p + 256 * n
  let b0 := (s.rd8 a).toNat
  let f := fun (off len lo w : Nat) => bits (s.rdLe (a + off) len) lo w
  { valid := bits b0 0 1 = 1, block := bits b0 1 1 = 1, windowed := bits b0 2 1 = 1, gcode := bits b0 3 2,
    g := 32 * 2 ^ bits b0 3 2, bfmt := bits b0 5 2, tgtN := f 0x01 1 0 5, proj := f 0x02 2 0 16, srcBase := f 0x04 4 0 24, srcCount := f 0x08 4 0 25, nT := f 0x0C 4 0 19,
    seg := f 0x10 8 0 40, dir := f 0x18 8 0 40, scale := f 0x20 8 0 40,
    area16 := f 0x28 4 0 32, scaleCount := f 0x2C 4 0 32, wintgt := f 0xC0 1 0 1 = 1,
    actBase := f 0xC4 4 0 19, actLen := f 0xC8 4 0 19, stageIdx := f 0xD0 8 0 40, modCh := f 0xE0 1 0 3,
    ltp := f 0xE0 1 3 1 = 1, ltd := f 0xE0 1 4 1 = 1, eDecay := f 0xE1 1 0 3, aPos := f 0xE2 1 0 8, aNeg := f 0xE3 1 0 8,
    preDecay := f 0xE4 1 0 4, modSh := f 0xE5 1 0 6, preInc := f 0xE6 2 0 16, stepMax := f 0xE8 1 0 8,
    wLo := f 0xEA 2 0 16, wHi := f 0xEC 2 0 16, wbMin := f 0xEE 2 0 16, preBase := f 0xF0 4 0 19,
    eligBase := f 0xF4 4 0 19 }

/-- The slots of a pod with their VALID descriptors. -/
def validSlots (s : State) (p : Nat) : List (Nat × Desc) :=
  (List.range 64).filterMap fun n => let d := s.desc p n; if d.valid then some (n, d) else none

/-- Entry `e` of the target table of a slot (R162). -/
def targetEntry (s : State) (p n e : Nat) : Nat := s.rdLe (podBase p + 256 * n + 0x40 + 8 * e) 8

/-- The physical tile that a target entry names, in the entry's own pod (R189). -/
def entryTile (s : State) (p e : Nat) : Option Nat :=
  if bits e 15 1 = 0 then none
  else (s.podLtt p (bits e 0 10)).filter fun t => podOf t = p

/-- The home tile of a slot (R189, R701). -/
def homeOf (s : State) (p n : Nat) : Option Nat := (List.range 16).findSome? fun e => s.entryTile p (s.targetEntry p n e)

/-- The owner of a target ordinal: tile, context and neuron (R163, R701). -/
def ownerOf (s : State) (p n o : Nat) : Option (Nat × Nat × Nat) :=
  (List.range 16).findSome? fun i =>
    let e := s.targetEntry p n i
    let base := bits e 16 18
    if base ≤ o ∧ o < base + bits e 34 15 then (s.entryTile p e).map fun t => (t, bits e 10 5, o - base) else none

/-- A slot of a pod's arbiter is FAULTED. -/
def faulted (s : State) (p n : Nat) : Bool := s.flag (Reg.DE_PROJ_CTRL_FAULTED p n)

/-- A byte range lies in the memory of a pod (R181, R185). -/
def inPodMem (p a len : Nat) : Bool := podBase p ≤ a && a + len ≤ podBase p + podBytes

end State

/-- A failed check of a row: the event, the group it names, and the tags where the tags differ (R185, R214). -/
structure Bad where
  code : Nat
  group : Nat
  found : Nat
  expected : Nat
  deriving DecidableEq, Repr

/-- A failed check that names no tag. -/
def Bad.plain (code group : Nat) : Bad := ⟨code, group, 0, 0⟩

/-- One synapse entry of a group: target ordinal, stored weight and the place of the entry in the group (R171). -/
structure Syn where
  ord : Nat
  raw : Nat
  entry : Nat
  deriving DecidableEq, Repr

/-- What the reading of a group gives: the synapses read, the cursor, the entries taken and the failed check if one
stopped it (R174). -/
structure GroupRead where
  syns : List Syn
  cursor : Nat
  entries : Nat
  bad : Option Nat
  deriving DecidableEq, Repr

/-- Bytes of `x` entries of a format (R173). -/
def groupBytes (fmt x : Nat) : Nat := if fmt = 0 then 3 * (x / 2) + 2 * (x % 2) else 2 * x

/-- DELTA and HI of entry `x` of a group whose entries start at `a` (R171, R173). -/
def State.entryAt (s : State) (fmt a x : Nat) : Nat × Nat :=
  if fmt = 0 then
    let w := s.rdLe (a + 3 * (x / 2) + x % 2) 2
    let e := if x % 2 = 0 then w % 4096 else w / 16
    (e % 256, e / 256)
  else
    let w := s.rdLe (a + 2 * x) 2
    (w % 256, w / 256)

/-- Read `n` more synapse entries of a group from entry `x` on, within `limit` bytes (R172, R174, R185). -/
def State.readGroup (s : State) (fmt a limit nT n cursor x : Nat) : Nat → GroupRead
  | 0 => ⟨[], cursor, x, if n = 0 then none else some 0x4304⟩
  | fuel + 1 =>
    if n = 0 then ⟨[], cursor, x, none⟩
    else if limit < groupBytes fmt (x + 1) then ⟨[], cursor, x, some 0x4304⟩
    else
      let (delta, hi) := s.entryAt fmt a x
      if delta = 0xFF then s.readGroup fmt a limit nT n (cursor + 255 * (hi + 1)) (x + 1) fuel
      else
        let c := cursor + delta
        if nT ≤ c then ⟨[], c, x + 1, some 0x4303⟩
        else
          let r := s.readGroup fmt a limit nT (n - 1) c (x + 1) fuel
          { r with syns := ⟨c, hi, x⟩ :: r.syns }

/-- A segment whose header and run directory stand at `a`: scale index, runs, synapses, groups and length (R167). -/
structure Seg where
  at_ : Nat
  scaleIdx : Nat
  runs : Nat
  syn : Nat
  groups : Nat
  len : Nat
  deriving DecidableEq, Repr

/-- A run of a segment (R168). -/
structure RunAt where
  off : Nat
  delay : Nat
  first : Nat
  lastN : Nat
  groups : Nat
  fin : Nat
  deriving DecidableEq, Repr

namespace State

/-- Run `r` of a segment, with its count of groups and the byte at which it ends (R168, R169). R169 gives the last run at most
GROUPS − FIRST_GROUP groups; it is taken to hold just as many, which is what the synapse count of a full segment needs
(DEDUCED, log entry 145). The last run ends within the 16 bytes before the end of the segment. -/
def runAt (s : State) (g : Seg) (r : Nat) : RunAt :=
  let w := s.rdLe (g.at_ + 16 + 8 * r) 8
  let next := s.rdLe (g.at_ + 24 + 8 * r) 8
  let last := r + 1 = g.runs
  ⟨bits w 0 20, bits w 20 6, bits w 32 16, bits w 48 8,
    (if last then g.groups else bits next 32 16) - bits w 32 16, if last then 16 * g.len else bits next 0 20⟩

/-- The run directory keeps to R169 for groups of `G` entries, that of a WINDOWED projection with one run of DELAY 0. -/
def runsOk (s : State) (g : Seg) (G : Nat) (windowed : Bool) : Bool :=
  1 ≤ g.runs && g.runs ≤ 64 && (s.runAt g 0).off = 16 + 8 * g.runs && (s.runAt g 0).first = 0 &&
    ((List.range g.runs).all fun r =>
      let x := s.runAt g r
      1 ≤ x.groups && 1 ≤ x.lastN && x.lastN ≤ G && x.off < x.fin && x.fin ≤ 16 * g.len &&
        (r = 0 || ((s.runAt g (r - 1)).delay < x.delay && (s.runAt g (r - 1)).first < x.first))) &&
    ((List.range g.runs).map fun r => let x := s.runAt g r; (x.groups - 1) * G + x.lastN).sum = g.syn &&
    (!windowed || (g.runs = 1 && (s.runAt g 0).delay = 0))

/-- The bytes from `a` to the end of a segment are its padding: fewer than 16, all zero (R167, R169). -/
def paddingOk (s : State) (g : Seg) (a : Nat) : Bool :=
  let k := g.at_ + 16 * g.len - a
  k < 16 && (List.range k).all fun i => s.rd8 (a + i) = 0

/-- Read a segment header for a source, against the length that the directory gives where it was read (R185). -/
def readSeg (s : State) (a axon : Nat) (len : Option Nat) (G : Nat) (windowed : Bool) : Seg × Option Nat :=
  let g : Seg := ⟨a, s.rdLe a 4, bits (s.rd8 (a + 7)).toNat 0 7, s.rdLe (a + 8) 4, s.rdLe (a + 12) 2, s.rdLe (a + 14) 2⟩
  (g,
    if s.rdLe (a + 4) 3 ≠ axon then some 0x4301
    else if len.any fun n => n ≠ g.len then some 0x4302
    else if s.runsOk g G windowed then none else some 0x4304)

/-- The tag and scale of scale entry at an address (R175). -/
def scaleAt (s : State) (a : Nat) : Nat × Nat := let w := s.rdLe a 3; (w / 2 ^ 16, w % 2 ^ 16)

end State

end Sys2Proof.Machine
end

