-- ==== Sys2Proof/Machine/Delivery.lean ====
section
/-! DEFINITION. Synaptic delivery in the pods: matching, deques, expansion, accumulation, activity areas, sweeps and
window application (R188 to R219, R298 to R303, R341, R342, R772). -/

namespace Sys2Proof.Machine

/-- What the expansion of a job has formed so far: contributions as slot, ordinal and value, how many of them event work
formed, the scale entries applied, dense MACs, the group of the first non-finite operand, and the check that stopped it.
`left` is how many more contributions are formed before a read comes back poisoned, with the event that this then logs
(R408). -/
structure Work where
  out : List (Nat × Nat × Int)
  events : Nat
  scales : Nat
  macs : Nat
  odd : Option Nat
  bad : Option Bad
  left : Option (Nat × Nat)
  deriving DecidableEq, Repr

/-- No work yet. -/
def Work.start (left : Option (Nat × Nat)) : Work := ⟨[], 0, 0, 0, .none, .none, left⟩

/-- One weight of group `gi` applied (R227, R231); after a failed check or a poisoned read nothing is. -/
def Work.apply (w : Work) (gi slot ord : Nat) (weight : Num) (grade : Nat) (scale : Num) : Work :=
  if w.bad.isSome then w
  else match w.left with
    | some (0, code) => { w with bad := some (.plain code gi) }
    | left => { w with
      out := w.out ++ [(slot, ord, contribution weight grade scale)]
      events := w.events + 1
      odd := if w.odd.isNone && !(weight.finite && scale.finite) then some gi else w.odd
      left := left.map fun x => (x.1 - 1, x.2) }

namespace State

/-- Change the delivery state. -/
def onDelivery (s : State) (f : Delivery → Delivery) : State := { s with delivery := f s.delivery }

/-! LIST rows (R174, R196). -/

/-- Apply the groups of a run. `scaleOf` gives the address of the scale entry of a group, none where R185 bars the
read; `exact` says that the run must end where the next one begins; the last one ends where the padding does. -/
def runGroups (s : State) (g : Seg) (d : Desc) (x : RunAt) (exact : Bool) (scaleOf : Nat → Option Nat) (grade slot : Nat) :
    (left j a cursor : Nat) → Work → Work
  | 0, _, a, _, w =>
    if if exact then a ≠ g.at_ + x.fin else !s.paddingOk g a then { w with bad := some (.plain 0x4304 (x.first + x.groups - 1)) }
    else w
  | left + 1, j, a, cursor, w =>
    let gi := x.first + j
    if g.at_ + x.fin ≤ a then { w with bad := some (.plain 0x4304 gi) }
    else
      let marker := (s.rd8 a).toNat
      match scaleOf gi with
      | none => { w with bad := some (.plain 0x4306 gi) }
      | some sa =>
        let (tag, raw) := s.scaleAt sa
        if tag ≠ marker then { w with bad := some ⟨0x4300, gi, tag, marker⟩ }
        else
          let fmt := bits marker 6 2
          let limit := g.at_ + x.fin - (a + 1)
          let r := s.readGroup fmt (a + 1) limit d.nT (if left = 0 then x.lastN else d.g) cursor 0 (limit + 1)
          let sc := decodeScale raw
          let w := r.syns.foldl (fun w y => w.apply gi slot y.ord (decodeWeight fmt y.raw) grade sc) { w with scales := w.scales + 1 }
          match w.bad, r.bad with
          | some _, _ => w
          | none, some c => { w with bad := some (.plain c gi) }
          | none, none => s.runGroups g d x exact scaleOf grade slot left (j + 1) (a + 1 + groupBytes fmt r.entries) r.cursor w

/-- Apply run `r` of a segment (R174). -/
def applyRun (s : State) (g : Seg) (d : Desc) (r : Nat) (scaleOf : Nat → Option Nat) (grade slot : Nat)
    (cut : Option (Nat × Nat)) : Work :=
  let x := s.runAt g r
  s.runGroups g d x (r + 1 ≠ g.runs) scaleOf grade slot x.groups 0 (g.at_ + x.off) 0 (.start cut)

/-! BLOCK groups (R178, R179, R209, R210). -/

/-- Where the groups and scales of a block are: the group of source group `g` at `grp g`, its 64 scale entries at
`scl g`; none where R185 bars the read. -/
structure BlockAt where
  grp : Nat → Option Nat
  scl : Nat → Option Nat

/-- A stored BLOCK weight (R178). -/
def blockWeight (s : State) (d : Desc) (a c t : Nat) : Nat :=
  if d.bfmt = 0 then bits (s.rd8 (a + 16 + c * d.cb + t / 2)).toNat (4 * (t % 2)) 4 else (s.rd8 (a + 16 + c * d.cb + t)).toNat

/-- The 64 scales of a group, or the failed check (R176, R179). -/
def blockScales (s : State) (at_ : BlockAt) (g : Nat) : Nat × List Nat × Option Bad :=
  match at_.grp g, at_.scl g with
  | some a, some sa =>
    let marker := (s.rd8 a).toNat
    let es := (List.range 64).map fun t => s.scaleAt (sa + 3 * t)
    match es.find? fun e => e.1 ≠ marker with
    | some e => (a, [], some ⟨0x4300, g, e.1, marker⟩)
    | none => (a, es.map (·.2), none)
  | _, _ => (0, [], some (.plain 0x4306 g))

/-- Apply column `c` of a group to the real ordinals of block `b`. -/
def blockColumn (s : State) (d : Desc) (b g a : Nat) (scales : List Nat) (c grade slot : Nat) (w : Work) : Work :=
  (List.range 64).foldl (fun (w : Work) t =>
    if 64 * b + t < d.nT then
      w.apply g slot (64 * b + t) (decodeWeight d.bfmt (s.blockWeight d a c t)) grade (decodeScale (scales.getD t 0))
    else w) w

/-- Apply one source to one block: a BLOCK job's share of the block (R179, R213). -/
def blockEvent (s : State) (d : Desc) (at_ : BlockAt) (b i grade slot : Nat) (w : Work) : Work :=
  let g := i / d.g
  let (a, scales, bad) := s.blockScales at_ g
  match bad with
  | some x => { w with bad := some x }
  | none => s.blockColumn d b g a scales (i % d.g) grade slot { w with scales := w.scales + 64 }

/-! Activity areas (R202, R203). -/

/-- W', the slots of an area (R202). -/
def areaSlots (s : State) (p n : Nat) (d : Desc) : Nat :=
  if d.wintgt then ((s.homeOf p n).map fun t => s.get (Reg.NE_WINDOW_W t)).getD 0 else 1

/-- Address of the count of group `g` in slot `j` of an area. -/
def areaCount (p : Nat) (d : Desc) (j g : Nat) : Nat := podBase p + d.actBase + j * d.ng + g

/-- Address of the activity byte of source offset `i` in slot `j` of an area of `w` slots. -/
def areaByte (p : Nat) (d : Desc) (w j i : Nat) : Nat :=
  podBase p + d.actBase + 16 * ceilDiv (w * d.ng) 16 + j * (d.ng * d.g) + i

/-- Bytes of both parts of an area. -/
def areaBytes (d : Desc) (w : Nat) : Nat := 16 * ceilDiv (w * d.ng) 16 + w * (d.ng * d.g)

/-- A source is active in slot `j` of an area. -/
def areaActive (s : State) (p n : Nat) (d : Desc) (j i : Nat) : Bool := s.rd8 (areaByte p d (s.areaSlots p n d) j i) != 0

/-- Make a source active (R203). -/
def areaWrite (s : State) (p n : Nat) (d : Desc) (j i grade : Nat) : State :=
  let c := areaCount p d j (i / d.g)
  (s.wrLe (areaByte p d (s.areaSlots p n d) j i) 1 grade).wrLe c 1 ((s.rd8 c).toNat + 1)

/-- Clear an area (R205). -/
def areaClear (s : State) (p n : Nat) (d : Desc) : State :=
  s.wrBytes (podBase p + d.actBase) (List.replicate (areaBytes d (s.areaSlots p n d)) 0)

/-- The mode of each group at the start of a sweep: 0 skip, 1 dense, 2 event (R211). -/
def groupModes (s : State) (p n : Nat) (d : Desc) : List Nat :=
  let w := s.areaSlots p n d
  let trav := s.get (Reg.DE_PROJ_CTRL_TRAV p n)
  (List.range d.ng).map fun g =>
    let a := (List.range w).foldl (fun acc j => acc + (s.rd8 (areaCount p d j g)).toNat) 0
    if a = 0 then 0
    else if trav = 1 ∨ (trav = 2 ∧ s.get (Reg.DE_PROJ_CTRL_ADAPT_TH p n) ≤ a) then 1
    else 2

/-- One sweep part over its groups in ascending order: its work, and the products of its dense groups, which the engine sums
(R209 to R211, R214). Of a dense group that fails, nothing is kept. -/
def partGroups (s : State) (p n : Nat) (d : Desc) (at_ : BlockAt) (b : Nat) (slots : List Nat) :
    (modes : List Nat) → (g : Nat) → (dense : List (Nat × Nat × Int)) → Work → List (Nat × Nat × Int) × Work
  | [], _, dense, w => (dense, w)
  | m :: ms, g, dense, w =>
    let live := slots.any fun j => s.rd8 (areaCount p d j g) != 0
    if m = 0 || !live then s.partGroups p n d at_ b slots ms (g + 1) dense w
    else
      let (a, scales, bad) := s.blockScales at_ g
      match bad with
      | some x => (dense, { w with bad := some x })
      | none =>
        let w := { w with scales := w.scales + 64 }
        let formed := (List.range d.g).foldl (fun w c => slots.foldl (fun w j =>
          let v := (s.rd8 (areaByte p d (s.areaSlots p n d) j (g * d.g + c))).toNat
          if v = 0 then w else s.blockColumn d b g a scales c v j w) w) w
        if formed.bad.isSome then (dense, if m = 1 then { w with bad := formed.bad } else formed)
        else if m = 1 then
          s.partGroups p n d at_ b slots ms (g + 1) (dense ++ formed.out.drop w.out.length)
            { formed with out := w.out, events := w.events, macs := w.macs + d.g * 64 * slots.length }
        else s.partGroups p n d at_ b slots ms (g + 1) dense formed

/-- The flush of a part in which a dense group ran: the partial sum of every slot and real ordinal of the block (R210). -/
def partFlush (d : Desc) (b : Nat) (slots : List Nat) (dense : List (Nat × Nat × Int)) : List (Nat × Nat × Int) :=
  slots.flatMap fun j => ((List.range 64).filter fun t => 64 * b + t < d.nT).map fun t =>
    (j, 64 * b + t, ((dense.filter fun x => x.1 = j && x.2.1 = 64 * b + t).map fun x => x.2.2).sum)

/-! Deques (R192 to R195, R772). -/

/-- A delivery engine may take work (R194). -/
def engineOk (s : State) (t : Nat) : Bool :=
  s.flag (Reg.DE_CTRL_EN t) && s.isLogical t && !s.fenced t && !s.isHole t

/-- No engine of a pod may take work (R772). -/
def podDead (s : State) (p : Nat) : Bool := (List.range 16).all fun i => !s.engineOk (podTile p i)

/-- The level register of the deques of a tile and its marks (R219). -/
def dqLevel (s : State) (t : Nat) : State :=
  let p := podOf t
  let i := inPod t
  let a := (s.delivery.step.at t).length
  let b := (s.delivery.win.at t).length
  (((s.put (Reg.DE_DQ_LEVEL_STEP p i) a).raiseTo (Reg.DE_DQ_LEVEL_STEP_HW p i) a).put (Reg.DE_DQ_LEVEL_WIN p i) b).raiseTo
    (Reg.DE_DQ_LEVEL_WIN_HW p i) b

/-- Fill the room in the deques of a tile from what waits for it: sweep parts at the head, window jobs at the tail. -/
def refillDeques (s : State) (t : Nat) : State :=
  let q := s.delivery
  let a := 64 - (q.step.at t).length
  let b := 32 - (q.win.at t).length
  (s.onDelivery fun q => { q with
    step := q.step.put t ((q.stepWait.at t).take a ++ q.step.at t), stepWait := q.stepWait.put t ((q.stepWait.at t).drop a)
    win := q.win.put t (q.win.at t ++ (q.winWait.at t).take b), winWait := q.winWait.put t ((q.winWait.at t).drop b) }).dqLevel t

/-- Count a job or part that no engine of its pod may take (R772). -/
def dropDead (s : State) (home : Nat) (k : Nat := 1) : State := s.countDrop home 11 (Reg.DE_DROP_FENCED_COUNT home) k

/-- Put a job at the tail of a step deque. -/
def pushStep (s : State) (home : Nat) (j : Job) : State :=
  if s.podDead (podOf home) then s.dropDead home
  else (s.onDelivery fun q => { q with step := q.step.push home j }).dqLevel home

/-- Hand window jobs or parts to a tile's window deque (R192, R207). -/
def pushWin (s : State) (home : Nat) (js : List Job) : State :=
  if s.podDead (podOf home) then s.dropDead home js.length
  else (s.onDelivery fun q => { q with winWait := q.winWait.put home (q.winWait.at home ++ js) }).refillDeques home

/-- Hand sweep parts of the step in progress to the head of a tile's step deque (R192, R204). -/
def pushParts (s : State) (home : Nat) (js : List Job) : State :=
  if s.podDead (podOf home) then s.dropDead home js.length
  else (s.onDelivery fun q => { q with stepWait := q.stepWait.put home (q.stepWait.at home ++ js) }).refillDeques home

/-- The sweeps of the step in a pod that have no part left are over (R204, R205). -/
def sweepsSettle (s : State) (p : Nat) : State :=
  let left := fun (n : Nat) => (List.range 16).any fun i =>
    let q := s.delivery
    (q.step.at (podTile p i) ++ q.stepWait.at (podTile p i)).any fun j => j.dslot = n && j.kind = 3
  let ended := s.delivery.sweeps.filter fun w => w.pod = p && !w.windowed && !left w.dslot
  let keys := (ended.map fun w => 64 * p + w.dslot).filter fun k => !s.delivery.clearing.contains k
  let s := s.onDelivery fun q => { q with sweeps := q.sweeps.filter fun w => !ended.contains w, clearing := q.clearing ++ keys }
  if s.delivery.sweeps.any fun w => w.pod = p && !w.windowed then s else s.put (Reg.DE_ARB_STATUS_SWEEP p) 0

/-- Every job and part in a pod that no engine may take is discarded, and its sweeps end (R772). -/
def drainDead (s : State) (p : Nat) : State :=
  if !s.podDead p then s
  else (List.range 16).foldl (fun (s : State) i =>
    let t := podTile p i
    let q := s.delivery
    let k := (q.step.at t).length + (q.stepWait.at t).length + (q.win.at t).length + (q.winWait.at t).length
    if k = 0 then s
    else ((s.dropDead t k).onDelivery fun q => { q with
      step := q.step.put t [], stepWait := q.stepWait.put t [], win := q.win.put t [], winWait := q.winWait.put t [] }).dqLevel t) s
    |>.sweepsSettle p

/-- Every tile of a pod has reported the neuron update of the step last launched done (R192). -/
def podUpdated (s : State) (p : Nat) : Bool :=
  (List.range 16).all fun i => s.isHole (podTile p i) || s.delivery.updated.contains (podTile p i)

/-- A job of a step deque is held (R192). -/
def held (s : State) (p : Nat) (j : Job) : Bool := j.step = (s.launched + 1) % 256 && !s.podUpdated p

/-- The job an engine takes next: the tile it comes from, whether from its window deque, and the job (R193, R194). -/
def nextJob (s : State) (t : Nat) : Option (Nat × Bool × Job) :=
  let p := podOf t
  let free := fun (v : Nat) => (s.delivery.step.at v).filter fun j => !s.held p j
  let victims := if s.flag (Reg.DE_CTRL_STEAL t) then (List.range 15).map fun k => podTile p ((inPod t + 1 + k) % 16) else []
  let rich := fun (v : Nat) (l : List Job) =>
    !l.isEmpty && (decide (s.get (Reg.DE_ARB_CTRL_STEAL_MIN p) ≤ l.length) || !s.engineOk v)
  match (free t).head? with
  | some j => some (t, false, j)
  | none =>
    match victims.find? fun v => rich v (free v) with
    | some v => (free v).getLast?.map fun j => (v, false, j)
    | none =>
      match (s.delivery.win.at t).head? with
      | some j => some (t, true, j)
      | none => (victims.find? fun v => rich v (s.delivery.win.at v)).bind fun v =>
          (s.delivery.win.at v).getLast?.map fun j => (v, true, j)

/-- Take a job out of a deque. -/
def takeJob (s : State) (v : Nat) (win : Bool) (j : Job) (fromHead : Bool) : State :=
  let cut := fun (l : List Job) => if fromHead then l.erase j else (l.reverse.erase j).reverse
  (s.onDelivery fun q =>
    if win then { q with win := q.win.put v (cut (q.win.at v)) } else { q with step := q.step.put v (cut (q.step.at v)) }
    ).refillDeques v

/-! Faults in delivery (R186, R189, R214). -/

/-- An engine faults a slot. -/
def faultSlot (s : State) (t p n : Nat) (d : Desc) (b : Bad) (src : Nat) : State :=
  let p0 := d.proj + p * 2 ^ 16
  let s :=
    if b.code = 0x4300 then s.log .de t b.code t (p0 + b.found * 2 ^ 24) (src % 2 ^ 24 + b.expected * 2 ^ 24)
    else s.log .de t b.code t p0 (src % 2 ^ 24 + b.group % 256 * 2 ^ 24)
  let s := ((s.put (Reg.DE_PROJ_CTRL_FAULTED p n) 1).put (Reg.DE_STATUS_FAULT t) 1).raise (Reg.DE_INT_EN t) 0
  let s := ((s.put (Reg.DE_LAST_FAULT_CODE t) b.code).put (Reg.DE_LAST_FAULT_DSLOT t) n).put (Reg.DE_LAST_FAULT_GROUP t) b.group
  let s := s.put (Reg.DE_LAST_FAULT_SRC_AXON t) src
  s.onDelivery fun q => { q with
    firstFault := if q.firstFault.any fun f => f.1 = d.proj then q.firstFault else q.firstFault ++ [(d.proj, b.code, src)] }

/-- A descriptor without a home tile faults its slot (R189). -/
def faultHomeless (s : State) (t p n : Nat) (d : Desc) : State :=
  (((s.put (Reg.DE_PROJ_CTRL_FAULTED p n) 1).log .de t 0x4307 t (d.proj + p * 2 ^ 16)).countDrop t 10
    (Reg.DE_DROP_FAULT_COUNT t)).onDelivery fun q => { q with
      firstFault := if q.firstFault.any fun f => f.1 = d.proj then q.firstFault else q.firstFault ++ [(d.proj, 0x4307, 0)] }

/-! Sending contributions (R200, R201, R701). -/

/-- Send contributions of a slot to the pod crossbar; `win` where they serve a window. -/
def sendAll (s : State) (t p n : Nat) (win : Bool) (out : List (Nat × Nat × Int)) : State :=
  out.foldl (fun s c =>
    match s.ownerOf p n c.2.1 with
    | none => s
    | some (owner, ctx, k) =>
      s.onDelivery fun q => { q with contribs := q.contribs.push owner ⟨ctx, k, c.1, toBits 32 c.2.2, t, win⟩ }) s

/-- The check whose event a poisoned read logs: the spec names none, so it is a free choice among the checks that are
handled as R408 states (R185, log entry 15). -/
def poisonCode (s : State) : Nat := [0x4301, 0x4302, 0x4303, 0x4304, 0x4306].getD (s.nextFree 8 % 5) 0x4306

/-- Count and send what a job formed (R214, R218, R231, R714). -/
def finishWork (s : State) (t p n : Nat) (d : Desc) (src : Nat) (w : Work) : State :=
  let bad := match w.bad, w.left with
    | none, some (_, code) => some (.plain code 0)
    | b, _ => b
  let s := (s.add64 (Reg.DE_SYN_LO t) w.events).countOp t 1 w.events
  let s := (s.add64 (Reg.DE_MAC_LO t) w.macs).countOp t (2 + d.bfmt) w.macs
  let s := (s.countOp t 6 w.scales).sendAll t p n d.wintgt w.out
  let s := match w.odd with
    | some g => s.logOnce .de t 0x4305 t (d.proj + p * 2 ^ 16) (src % 2 ^ 24 + g % 256 * 2 ^ 24)
    | none => s
  match bad with
  | some b => s.faultSlot t p n d b src
  | none => s

/-! Deferred runs (R197, R285, R299). -/

/-- The entry of a deferred run (R197). -/
def deferEntry (p : Nat) (j : Job) (home a run delay : Nat) : BitVec 128 :=
  BitVec.ofNat 128 (2 + j.dslot * 2 ^ 4 + ((j.step + delay) % 256) * 2 ^ 10 + run * 2 ^ 18 + j.grade * 2 ^ 24
    + j.axon * 2 ^ 32 + j.dgen * 2 ^ 56 + ((a - podBase p) / 16 % 2 ^ 15) * 2 ^ 64 + inPod home * 2 ^ 80)

/-- Queue a deferred record; where the queue of 16 is full its head is written first, while the engine waits (R285). -/
def deferRecord (s : State) (home : Nat) (e : BitVec 128) : State :=
  match s.mesh.delayWait.at home with
  | x :: r =>
    if 16 ≤ (x :: r).length then
      (s.onMesh fun m => { m with delayWait := m.delayWait.put home (r ++ [e]) }).dsWrite home x
    else s.onMesh fun m => { m with delayWait := m.delayWait.push home e }
  | [] => s.onMesh fun m => { m with delayWait := m.delayWait.push home e }

/-! Staged data (R334, R336, R340, R341). -/

/-- Address of a half of a staging index (R334). -/
def halfAt (s : State) (p : Nat) (d : Desc) (h : Nat) : Nat := podBase p + s.rdLe (d.stageIdx + 4 + 4 * h) 4

/-- The segment and scale run of a source in a staged half: segment address, length in 16-byte units, scale run
address and its first index (R341). -/
def stagedRow (s : State) (a i : Nat) : Option (Nat × Nat × Nat × Nat) :=
  ((List.range (s.rdLe (a + 0x0C) 4)).find? fun r =>
    let e := a + 64 + 16 * r
    s.rdLe e 4 ≤ i && i < s.rdLe e 4 + s.rdLe (e + 4) 4).map fun r =>
    let e := a + 64 + 16 * r
    let first := s.rdLe e 4
    let count := s.rdLe (e + 4) 4
    let data := a + s.rdLe (e + 8) 4
    let dir := fun (k : Nat) => s.rdLe (data + 4 * k) 4
    let segs := data + 16 * ceilDiv (4 * (count + 1)) 16
    (segs + 16 * (dir (i - first) - dir 0), dir (i - first + 1) - dir (i - first),
      segs + 16 * (dir count - dir 0), s.rdLe (e + 12) 4)

/-- Where block `b` of a staged chunk lies (R338). -/
def stagedBlock (s : State) (d : Desc) (a b : Nat) : BlockAt :=
  let x := a + 64 + (b - s.rdLe (a + 4) 4) * (d.ng * d.gb + d.ng * 192)
  ⟨fun g => some (x + g * d.gb), fun g => some (x + d.ng * d.gb + g * 192)⟩

/-- Where block `b` of a store lies; RESIDENT reads stay in their pod (R178, R179, R185). -/
def storeBlock (p : Nat) (d : Desc) (b : Nat) : BlockAt :=
  let ok := fun (a len : Nat) => if d.windowed || inPodMem p a len then some a else none
  ⟨fun g => ok (d.seg + (b * d.ng + g) * d.gb) d.gb, fun g => ok (d.scale + 192 * (b * d.ng + g)) 192⟩

/-! Expansion (R196, R209). -/

/-- Expand a job on a LIST descriptor (R196, R341). -/
def expandList (s : State) (t p : Nat) (d : Desc) (j : Job) (cut : Option (Nat × Nat)) : State :=
  let n := j.dslot
  let i := j.axon - d.srcBase
  let fail := fun (s : State) (code : Nat) => s.faultSlot t p n d (.plain code 0) j.axon
  let run := fun (s : State) (g : Seg) (r : Nat) (scaleOf : Nat → Option Nat) =>
    s.finishWork t p n d j.axon (s.applyRun g d r scaleOf j.grade j.slot cut)
  let ownScale := fun (g : Seg) (gi : Nat) =>
    let a := d.scale + 3 * (g.scaleIdx + gi)
    if d.windowed || inPodMem p a 3 then some a else none
  if j.kind = 1 then
    let a := podBase p + 16 * j.seg
    let (g, bad) := s.readSeg a j.axon none d.g d.windowed
    match bad with
    | some c => fail s c
    | none =>
      if !inPodMem p a (16 * g.len) then fail s 0x4306
      else if g.runs ≤ j.run then fail s 0x4304
      else run s g j.run (ownScale g)
  else
    match j.half with
    | some h =>
      match s.stagedRow (s.halfAt p d h) i with
      | none => fail s 0x4301
      | some (a, len, scales, first) =>
        if len = 0 then s
        else
          let (g, bad) := s.readSeg a j.axon (some len) d.g d.windowed
          match bad with
          | some c => fail s c
          | none => run s g 0 fun gi => some (scales + 3 * (g.scaleIdx + gi - first))
    | none =>
      if !d.windowed && !inPodMem p (d.dir + 4 * i) 8 then fail s 0x4306
      else
        let lo := s.rdLe (d.dir + 4 * i) 4
        let hi := s.rdLe (d.dir + 4 * i + 4) 4
        let a := d.seg + 16 * lo
        if lo = hi then s
        else if hi < lo || (!d.windowed && !inPodMem p a (16 * (hi - lo))) then fail s 0x4306
        else
          let (g, bad) := s.readSeg a j.axon (some (hi - lo)) d.g d.windowed
          match bad with
          | some c => fail s c
          | none =>
            let home := (s.homeOf p n).getD t
            let late := (List.range g.runs).filter fun r => 0 < (s.runAt g r).delay
            let s := if j.kind = 0 then
              late.foldl (fun s r => s.deferRecord home (deferEntry p j home a r (s.runAt g r).delay)) s else s
            if j.kind = 2 ∨ (s.runAt g 0).delay = 0 then run s g 0 (ownScale g) else s

/-- Expand a fresh or window job on a BLOCK descriptor, block by block (R179, R202). -/
def expandBlock (s : State) (t p : Nat) (d : Desc) (j : Job) (cut : Option (Nat × Nat)) : State :=
  let i := j.axon - d.srcBase
  let blocks := match j.half with
    | some h =>
      let a := s.halfAt p d h
      (List.range (s.rdLe (a + 8) 4 - s.rdLe (a + 4) 4)).map fun k => s.rdLe (a + 4) 4 + k
    | none => List.range d.nb
  let place := fun (b : Nat) => match j.half with
    | some h => s.stagedBlock d (s.halfAt p d h) b
    | none => storeBlock p d b
  let w := blocks.foldl (fun (w : Work) b =>
    if w.bad.isSome then w else s.blockEvent d (place b) b i j.grade j.slot w) (.start cut)
  s.finishWork t p j.dslot d j.axon w

/-- Run a sweep part (R209, R211). -/
def runPart (s : State) (t p : Nat) (d : Desc) (j : Job) (cut : Option (Nat × Nat)) : State :=
  match s.delivery.sweeps.find? fun w => w.pod = p && w.dslot = j.dslot with
  | none => s
  | some sw =>
    let place := match j.half with
      | some h => s.stagedBlock d (s.halfAt p d h) j.block
      | none => storeBlock p d j.block
    let slots := (List.range j.slotN).map fun k => j.slot + k
    let (dense, w) := s.partGroups p j.dslot d place j.block slots sw.modes 0 [] (.start cut)
    s.finishWork t p j.dslot d j.block { w with out := w.out ++ if w.macs = 0 then [] else partFlush d j.block slots dense }

/-- Zero the STATE bytes of the halves a staging index governs (R337). -/
def stageFree (s : State) (d : Desc) : State := s.wrBytes (d.stageIdx + 0x14) [0, 0]

/-- Any job or part of a slot, of one half where `h` names it, is still in a deque of the pod. -/
def slotBusy (s : State) (p n : Nat) (pick : Job → Bool) : Bool :=
  (List.range 16).any fun i =>
    let t := podTile p i
    let q := s.delivery
    (q.step.at t ++ q.stepWait.at t ++ q.win.at t ++ q.winWait.at t).any fun j => j.dslot = n && pick j

/-- Release a half whose chunk has been applied (R337, R342). -/
def releaseHalf (s : State) (p n h : Nat) : State :=
  let key := 64 * p + n
  if !(s.delivery.chunks.contains (key, h)) || s.slotBusy p n (fun j => j.half = some h) then s
  else
    let d := s.desc p n
    let lastChunk := (s.rd8 (s.halfAt p d h + 0x14)).getLsbD 0
    let s := s.onDelivery fun q => { q with
      chunks := q.chunks.filter fun c => c ≠ (key, h), releases := q.releases ++ [(key, h)] }
    if lastChunk then s.stageFree d else s.wr8 (d.stageIdx + 0x14 + h) 0

/-- What ends with the last part of a sweep or the last job of a chunk (R204, R205, R342). -/
def settle (s : State) (p n : Nat) : State := ((s.sweepsSettle p).releaseHalf p n 0).releaseHalf p n 1

/-- An engine runs a job it has taken (R196, R199, R209, R215, R216). -/
def runJob (s : State) (t : Nat) (j : Job) (cut : Option (Nat × Nat)) : State :=
  let p := podOf t
  let n := j.dslot
  let s :=
    if s.faulted p n then s.countDrop t 10 (Reg.DE_DROP_FAULT_COUNT t)
    else if j.dgen ≠ s.get (Reg.DE_PROJ_CTRL_DGEN p n) then s.countDrop t 10 (Reg.DE_DROP_STALE_COUNT t)
    else
      let d := s.desc p n
      let s := if j.kind = 3 then s.runPart t p d j cut
        else if d.block then s.expandBlock t p d j cut else s.expandList t p d j cut
      s.count (Reg.DE_JOBS_COUNT t)
  s.settle p n

/-- ENGINE_TAKE_JOB: a free engine takes its next job and runs it (R193). `ecc` is an error its reads meet, with the
contributions formed before it (R408). -/
def engineTake (s : State) (t : Nat) (ecc : Option (EccHit × Nat)) : State :=
  if !s.engineOk t then s
  else
    match s.nextJob t with
    | none => s
    | some (v, win, j) =>
      let s := s.takeJob v win j (v = t)
      let s := if v = t then s else s.count (Reg.DE_STEALS_COUNT t)
      match ecc with
      | none => s.runJob t j none
      | some (h, k) => 
        let s := s.podHit (podOf t) h
        if h.fatal then s.useFree.runJob t j (some (k, s.poisonCode)) else s.runJob t j none

/-! Sweeps of a step (R204). -/

/-- The slots of an area that hold activity in any group. -/
def activeSlots (s : State) (p n : Nat) (d : Desc) : List Nat :=
  (List.range (s.areaSlots p n d)).filter fun j => (List.range d.ng).any fun g => s.rd8 (areaCount p d j g) != 0

/-- Begin the sweep of an area: latch the modes and record them (R211). -/
def sweepBegin (s : State) (p n : Nat) (d : Desc) : State :=
  let modes := s.groupModes p n d
  let s := s.onDelivery fun q => { q with
    sweeps := (q.sweeps.filter fun w => !(w.pod = p && w.dslot = n)) ++
      [⟨p, n, d.wintgt, s.get (Reg.DE_PROJ_CTRL_TRAV p n), modes⟩] }
  (s.put (Reg.DE_PROJ_MODE_DENSE_GROUPS p n) (min 65535 (modes.filter (· = 1)).length)).put
    (Reg.DE_PROJ_MODE_EVENT_GROUPS p n) (min 65535 (modes.filter (· = 2)).length)

/-- The sweep parts of one step's area at a pod (R204). -/
def sweepSlot (s : State) (p n : Nat) (d : Desc) (t : Nat) : State :=
  if !d.block || d.wintgt || s.delivery.areaStep.at (64 * p + n) ≠ t + 1 then s
  else
    let s := s.onDelivery fun q => { q with areaStep := q.areaStep.put (64 * p + n) 0 }
    match s.homeOf p n with
    | none => s.onDelivery fun q => { q with clearing := q.clearing ++ [64 * p + n] }
    | some home =>
      let s := (s.sweepBegin p n d).put (Reg.DE_ARB_STATUS_SWEEP p) 1
      let dg := s.get (Reg.DE_PROJ_CTRL_DGEN p n)
      (s.pushParts home ((List.range d.nb).map fun b => ⟨3, n, 0, 0, 0, 0, t % 256, dg, 0, b, 1, none⟩)).settle p n

/-- SWEEP_GENERATE at the update broadcast of step `t` (R204). -/
def sweepGenerate (s : State) (t : Nat) : State :=
  (List.range 72).foldl (fun s p => (s.validSlots p).foldl (fun s x => s.sweepSlot p x.1 x.2 t) s) s

/-- The step is in its neuron update; a halt by the watchdog does not cut it short (R86, R102, R151). -/
def inUpdate (s : State) : Bool :=
  s.get Reg.STEP_STATUS_PHASE = 3 || (s.get Reg.STEP_STATUS_PHASE = 7 && s.clock.held = 3)

/-- The pod's sweeps of the step are done (R204, R247). -/
def sweepsDone (s : State) (p : Nat) : Bool := !(s.delivery.sweeps.any fun w => w.pod = p && !w.windowed)

/-! Matching (R188, R189, R243). -/

/-- The full number of the step a delivery tag names: the step last launched or the one after it. -/
def stepOf (s : State) (g : Nat) : Nat := s.launched + (g + 256 - s.launched % 256) % 256

/-- A record of step t + 1 for a descriptor whose area still serves step t waits until its clear is complete (R205). -/
def areaHeld (s : State) (p n : Nat) (d : Desc) (g : Nat) : Bool :=
  let key := 64 * p + n
  d.block && !d.wintgt && s.stepOf g = s.launched + 1 &&
    (s.delivery.clearing.contains key || (s.delivery.sweeps.any fun w => w.pod = p && w.dslot = n) ||
      s.delivery.areaStep.at key = s.launched + 1)

/-- A record written to an activity area must wait: the area belongs to an earlier step, or is being cleared (R205). -/
def areaWaits (s : State) (p n g : Nat) : Bool :=
  let key := 64 * p + n
  let t := s.stepOf g
  s.delivery.clearing.contains key || (s.delivery.sweeps.any fun w => w.pod = p && w.dslot = n) ||
    (s.delivery.areaStep.at key ≠ 0 && s.delivery.areaStep.at key ≠ t + 1) || (t = s.launched + 1 && s.deliveryOpen)

/-- What the matcher does with one descriptor that a record matches (R189). -/
inductive Match where
  | faulted
  | homeless
  | window
  | job (home : Nat) (dup : Bool)
  | area
  deriving DecidableEq, Repr

/-- The first row of R189 that applies. -/
def matchRow (s : State) (p n : Nat) (d : Desc) (axon : Nat) : Match :=
  if s.faulted p n then .faulted
  else match s.homeOf p n with
    | none => .homeless
    | some home =>
      if d.wintgt then .window
      else if !d.block || s.get (Reg.DE_PROJ_CTRL_TRAV p n) = 0 then .job home false
      else if s.areaActive p n d 0 (axon - d.srcBase) then .job home true
      else .area

/-- Count a record of a learning slot (R243). -/
def preCount (s : State) (p n : Nat) (d : Desc) (axon t : Nat) : State :=
  if !s.flag (Reg.DE_PL_CTRL_EN p n) then s
  else
    let a := podBase p + d.preBase + 4 * (axon - d.srcBase) + 2 + t % 2
    s.wrLe a 1 (min 255 ((s.rd8 a).toNat + 1))

/-- The window of a step at a tile (R107). -/
def windowOf (s : State) (tile step : Nat) : Nat := (step - s.get64 (Reg.NE_WIN_BASE_LO tile)) / s.get (Reg.NE_WINDOW_W tile)

/-- The address of record `i` of window buffer `b` of a tile (R218). -/
def winRecord (s : State) (tile b i : Nat) : Nat :=
  tileBase tile + s.get (Reg.DE_WINBUF_BASE_BASE tile) + 8 * s.get (Reg.DE_WINBUF_CAP_CAP tile) * b + 8 * i

/-- The fill field of a window buffer. -/
def winFill (tile b : Nat) : RF := if b = 0 then Reg.DE_WINBUF_FILL_FILL0 tile else Reg.DE_WINBUF_FILL_FILL1 tile

/-- Store a record in a window spike buffer, which window application takes one window later (R110, R111, R113). -/
def winStore (s : State) (tile step record : Nat) : State :=
  let m := s.windowOf tile (step - 1)
  let f := winFill tile (m % 2)
  let n := s.get f
  if n < s.get (Reg.DE_WINBUF_CAP_CAP tile) then (s.wrLe (s.winRecord tile (m % 2) n) 8 (record % 2 ^ 48)).put f (n + 1)
  else
    let s := (s.countDrop tile 10 (Reg.DE_DROP_WINBUF_COUNT tile)).raise (Reg.DE_INT_EN tile) 1
    if s.delivery.lostWindow.at tile = m + 1 then s
    else (s.onDelivery fun q => { q with lostWindow := q.lostWindow.put tile (m + 1) }).log .de tile 0x4207 tile tile
      (s.get (Reg.DE_DROP_WINBUF_COUNT tile))

/-- Apply one row of R189. -/
def matchApply (s : State) (tile p : Nat) (x : Nat × Desc × Match) (g record : Nat) : State :=
  let (n, d, r) := x
  let axon := recAxon record
  let s := if r = .faulted then s else s.preCount p n d axon (s.stepOf g)
  let fresh : Job := ⟨0, n, axon, recGraded record, recSlot record, 0, g, s.get (Reg.DE_PROJ_CTRL_DGEN p n), 0, 0, 0, none⟩
  match r with
  | .faulted => let h := (s.homeOf p n).getD tile; s.countDrop h 10 (Reg.DE_DROP_FAULT_COUNT h)
  | .homeless => s.faultHomeless tile p n d
  | .window => s
  | .job home dup => (if dup then s.count (Reg.DE_DUP_COUNT home) else s).pushStep home fresh
  | .area => (s.areaWrite p n d 0 (axon - d.srcBase) (recGraded record)).onDelivery fun q =>
      { q with areaStep := q.areaStep.put (64 * p + n) (s.stepOf g + 1) }

/-- A read of the matcher for slot `n` meets an error (R408). -/
def matchHit (s : State) (tile axon : Nat) (h : EccHit) (n : Nat) : State :=
  let p := podOf tile
  let s := s.podHit p h
  if !h.fatal then s else s.useFree.faultSlot tile p n (s.desc p n) (.plain s.poisonCode 0) axon

/-- MATCH_RECORD: the matcher takes one record of a tile's ejection buffer (R188, R189, R192, R205); `ecc` is an error
that its reads for a slot meet. -/
def matchRecord (s : State) (tile : Nat) (ecc : Option (EccHit × Fin 64)) : State :=
  let p := podOf tile
  match s.mesh.eject.at tile with
  | [] => s
  | e :: rest =>
    let s := match ecc with
      | some (h, n) => s.matchHit tile (recAxon (e.pip.record e.taken)) h n.val
      | none => s
    if !s.flag (Reg.DE_ARB_CTRL_MATCH_EN p) then s
    else
      let record := e.pip.record e.taken
      let g := e.pip.tag
      let rows := ((s.validSlots p).filter fun x => x.2.holds (recAxon record)).map fun x =>
        (x.1, x.2, s.matchRow p x.1 x.2 (recAxon record))
      let homes := rows.filterMap fun x => match x.2.2 with | .job h _ => some h | _ => none
      let full := homes.any fun h => 64 < (s.delivery.step.at h).length + homes.count h
      let waits := rows.any fun x => x.2.2 ≠ .faulted && x.2.2 ≠ .homeless &&
        (s.areaHeld p x.1 x.2.1 g || (x.2.2 = .area && s.areaWaits p x.1 g))
      if full || waits then s.count (Reg.DE_STALL_MATCH_COUNT p)
      else
        let left := if e.taken + 1 < e.pip.ptype then { e with taken := e.taken + 1 } :: rest else rest
        let s := s.onMesh fun m => { m with eject := m.eject.put tile left }
        let s := if rows.isEmpty then s.count (Reg.DE_MATCH_MISS_COUNT p) else s
        let s := rows.foldl (fun s x => s.matchApply tile p x g record) s
        if rows.any fun x => x.2.2 = .window then s.winStore tile (s.stepOf g) record else s

/-! Accumulation (R200, R201). -/

/-- Add a contribution at the tile that owns its target; a fenced or disabled one takes none (R201). -/
def accumulate (s : State) (t : Nat) (c : Contrib) : State :=
  if s.shut t then s.countDrop c.engine 11 (Reg.DE_DROP_FENCED_COUNT c.engine)
  else
    let x := s.ctx t c.ctx
    let slot := if x.windowed then c.slot else 0
    if x.count ≤ c.k ∨ (x.windowed ∧ s.get (Reg.NE_WINDOW_W t) ≤ slot) then s
    else
      let a := tileBase t + x.accBase + 4 * (slot * x.count + c.k)
      s.wrLe a 4 (accAdd (s.rdLe a 4) (sext 32 c.val))

/-- ACCUMULATE_CONTRIBUTION: the port takes the oldest contribution on its way to the tile; one whose word is
uncorrectable is discarded (R408). -/
def accumulateNext (s : State) (t : Nat) (ecc : Option EccHit) : State :=
  match s.delivery.contribs.at t with
  | [] => s
  | c :: _ =>
    let s := s.onDelivery fun q => { q with contribs := q.contribs.drop1 t }
    match ecc with
    | none => s.accumulate t c
    | some h => let s := s.tileHit t h; if h.fatal then s else s.accumulate t c

/-! Window application (R207, R208, R342). -/

/-- The records of a window buffer, in buffer order. -/
def winRecords (s : State) (tile b : Nat) : List Nat :=
  (List.range (s.get (winFill tile b))).map fun i => s.rdLe (s.winRecord tile b i) 6

/-- A window job for a record. -/
def winJob (s : State) (p n m record : Nat) (half : Option Nat) : Job :=
  ⟨2, n, recAxon record, recGraded record, recSlot record, 0, m % 256, s.get (Reg.DE_PROJ_CTRL_DGEN p n), 0, 0, 0, half⟩

/-- Match a record of a window buffer again at the start of the application. -/
def winMatch (s : State) (tile p m : Nat) (x : Nat × Desc) (record : Nat) : State :=
  let (n, d) := x
  let i := recAxon record - d.srcBase
  if s.faulted p n then let h := (s.homeOf p n).getD tile; s.countDrop h 10 (Reg.DE_DROP_FAULT_COUNT h)
  else match s.homeOf p n with
    | none => s.faultHomeless tile p n d
    | some home =>
      if d.block && s.get (Reg.DE_PROJ_CTRL_TRAV p n) ≠ 0 then
        if !s.areaActive p n d (recSlot record) i then s.areaWrite p n d (recSlot record) i (recGraded record)
        else
          let s := s.count (Reg.DE_DUP_COUNT home)
          if d.windowed then s else s.pushWin home [s.winJob p n m record none]
      else if d.windowed then s
      else s.pushWin home [s.winJob p n m record none]

/-- The windowed sweep parts of a block (R207). -/
def winParts (s : State) (p n : Nat) (d : Desc) (m b : Nat) (half : Option Nat) : List Job :=
  let dg := s.get (Reg.DE_PROJ_CTRL_DGEN p n)
  let live := s.activeSlots p n d
  let w := s.areaSlots p n d
  if d.bfmt ≤ 1 then
    ((List.range (ceilDiv w 2)).filter fun k => live.contains (2 * k) || live.contains (2 * k + 1)).map fun k =>
      ⟨3, n, 0, 0, 2 * k, 0, m % 256, dg, 0, b, min 2 (w - 2 * k), half⟩
  else live.map fun j => ⟨3, n, 0, 0, j, 0, m % 256, dg, 0, b, 1, half⟩

/-- After the buffers of a pod are matched: sweeps of windowed areas begin, and RESIDENT ones make all their parts. -/
def winSweep (s : State) (p m : Nat) (x : Nat × Desc) : State :=
  let (n, d) := x
  if !d.block || s.faulted p n || s.get (Reg.DE_PROJ_CTRL_TRAV p n) = 0 then s
  else
    let s := s.sweepBegin p n d
    if d.windowed then s
    else match s.homeOf p n with
      | none => s
      | some home => s.pushWin home ((List.range d.nb).flatMap fun b => s.winParts p n d m b none)

/-- The windowed-target descriptors of a pod. -/
def winSlots (s : State) (p : Nat) : List (Nat × Desc) := (s.validSlots p).filter fun x => x.2.wintgt

/-- Window application of window `m` begins at a pod (R207). -/
def winBegin (s : State) (p m : Nat) : State :=
  let slots := s.winSlots p
  if slots.isEmpty then s
  else
    let tiles := (List.range 16).map (podTile p)
    let s := s.onDelivery fun q => { q with applying := tiles.foldl (fun a t => a.put t (m + 1)) q.applying }
    let s := tiles.foldl (fun s t => (s.winRecords t (m % 2)).foldl (fun s r =>
      (slots.filter fun x => x.2.holds (recAxon r)).foldl (fun s x => s.winMatch t p m x r) s) s) s
    slots.foldl (fun s x => s.winSweep p m x) s

/-- The records of a window buffer that meet an active source again (R203). -/
def repeats : List (Nat × Nat) → List Nat → List Nat
  | _, [] => []
  | seen, r :: rs =>
    let k := (recSlot r, recAxon r)
    if seen.contains k then r :: repeats seen rs else repeats (k :: seen) rs

/-- The arbiter takes a complete chunk (R342). -/
def chunkTake (s : State) (p n h : Nat) : State :=
  let d := s.desc p n
  let key := 64 * p + n
  let a := s.halfAt p d h
  let first := s.rdLe (a + 4) 4
  let end_ := s.rdLe (a + 8) 4
  let tiles := (List.range 16).map (podTile p)
  let m := (tiles.findSome? fun t => let v := s.delivery.applying.at t; if v = 0 then none else some (v - 1)).getD 0
  let s := s.onDelivery fun q => { q with chunks := q.chunks ++ [(key, h)] }
  let s := if (s.rd8 (a + 0x14)).getLsbD 0 then
    s.onDelivery fun q => { q with stagedWindow := q.stagedWindow.put key (m + 1) } else s
  let records := (tiles.flatMap fun t => s.winRecords t (m % 2)).filter fun r => d.holds (recAxon r)
  let s :=
    if s.faulted p n then s
    else match s.homeOf p n with
      | none => s
      | some home =>
        if !d.block then
          s.pushWin home ((records.filter fun r => first ≤ recAxon r - d.srcBase && recAxon r - d.srcBase < end_).map fun r =>
            s.winJob p n m r (some h))
        else
          match s.delivery.sweeps.find? fun w => w.pod = p && w.dslot = n with
          | none => s.pushWin home (records.map fun r => s.winJob p n m r (some h))
          | some _ =>
            let s := s.pushWin home ((repeats [] records).map fun r => s.winJob p n m r (some h))
            s.pushWin home ((List.range (end_ - first)).flatMap fun k => s.winParts p n d m (first + k) (some h))
  s.releaseHalf p n h

/-- The application of a pod's window is finished (R207). -/
def winFinished (s : State) (p m : Nat) : Bool :=
  (List.range 16).all (fun i => (s.delivery.win.at (podTile p i)).isEmpty && (s.delivery.winWait.at (podTile p i)).isEmpty) &&
    (s.winSlots p).all fun x => !x.2.windowed || s.faulted p x.1 || s.delivery.stagedWindow.at (64 * p + x.1) = m + 1

/-- Clear the buffer, the areas and the sweeps of a window at a tile (R207). -/
def winClear (s : State) (t m : Nat) : State :=
  let p := podOf t
  let s := (s.winSlots p).foldl (fun s x => if x.2.block then s.areaClear p x.1 x.2 else s) s
  (s.put (winFill t (m % 2)) 0).onDelivery fun q => { q with
    applying := q.applying.put t 0, sweeps := q.sweeps.filter fun w => !(w.pod = p && w.windowed) }

/-- WINDOW_APPLICATION_DONE. -/
def winDone (s : State) (t : Nat) : State :=
  match s.delivery.applying.at t with
  | 0 => s
  | m + 1 => if s.winFinished (podOf t) m then s.winClear t m else s

/-- Window `m` of a windowed-target slot is not yet applied in full: jobs, parts or chunks are left. -/
def winLeft (s : State) (p : Nat) (n : Nat) : Bool :=
  (s.delivery.chunks.any fun c => c.1 = 64 * p + n) || (List.range 16).any fun i =>
    let t := podTile p i
    (s.delivery.win.at t ++ s.delivery.winWait.at t).any fun j => j.dslot = n

/-- The window jobs and parts of a tile that a forced close discards (R208). -/
def winCut (s : State) (t : Nat) : State :=
  match s.delivery.applying.at t with
  | 0 => s
  | m + 1 =>
    let k := (s.delivery.win.at t).length + (s.delivery.winWait.at t).length
    let s := (s.countDrop t 10 (Reg.DE_DROP_WINLATE_COUNT t) k).onDelivery fun q => { q with
      win := q.win.put t [], winWait := q.winWait.put t [] }
    (s.winClear t m).dqLevel t

/-- The last step of a window is closed by force: event 0x4205 names each projection whose application is incomplete while all
of its data is there (a copy that is late is named where it fails), and what is left is discarded (R114, R208). -/
def windowCut (s : State) : State :=
  let late := (List.range 72).flatMap fun p => ((s.winSlots p).filter fun x => !s.faulted p x.1 && s.winLeft p x.1 &&
    (!x.2.windowed || (s.delivery.stagedWindow.at (64 * p + x.1) ≠ 0 &&
      s.delivery.stagedWindow.at (64 * p + x.1) = s.delivery.applying.at (podTile p 0)))).map fun x => (p, x.2.proj)
  let named := late.foldl (fun (l : List (Nat × Nat)) x => if l.any (·.2 = x.2) then l else l ++ [x]) []
  let s := named.foldl (fun s x => s.log .step 0 0x4205 srcManager x.2) s
  (List.range 1152).foldl (fun s t => s.winCut t) s

/-! Delay-store release (R300, R301, R198). -/

/-- A released entry that is neither type is dropped (R301). -/
def releaseBad (s : State) (r : Nat) : State :=
  (((s.countDrop r 10 (Reg.EVM_DROP_SPILL_COUNT r)).put (Reg.EVM_STATUS_SPILL_DROP r) 1).raise (Reg.EVM_INT_EN r) 2).logOnce
    .evm r 0x3108 r

/-- Room for a released entry. -/
def releaseRoom (s : State) (r : Nat) (e : BitVec 128) : Bool :=
  let w := e.toNat
  match bits w 0 4 with
  | 1 => s.fenced r || decide ((s.mesh.eject.at r).length < 8)
  | 2 => decide ((s.delivery.step.at (podTile (podOf r) (bits w 80 4))).length < 64)
  | _ => true

/-- Release one entry (R300, R198, R215, R216). -/
def releaseEntry (s : State) (r : Nat) (e : BitVec 128) : State :=
  let w := e.toNat
  match bits w 0 4 with
  | 1 =>
    if s.fenced r then (s.countDrop r 11 (Reg.EVM_DROP_FENCE_COUNT r)).logOnce .evm r 0x3109 r
    else
      let p := Pip.make 1 false r (bits w 80 11) 0 s.launched 0 1 (bits w 32 48)
      s.onMesh fun m => { m with eject := m.eject.push r ⟨p, 0⟩ }
  | 2 =>
    let p := podOf r
    let home := podTile p (bits w 80 4)
    let n := bits w 4 6
    if s.faulted p n then s.countDrop home 10 (Reg.DE_DROP_FAULT_COUNT home)
    else if bits w 56 8 ≠ s.get (Reg.DE_PROJ_CTRL_DGEN p n) then s.countDrop home 10 (Reg.DE_DROP_STALE_COUNT home)
    else s.pushStep home ⟨1, n, bits w 32 24, bits w 24 8, 0, bits w 18 6, bits w 10 8, bits w 56 8, bits w 64 15, 0, 0, none⟩
  | _ => s.releaseBad r

/-- The on-chip entry of a router due at the step last launched. -/
def dueOnChip (s : State) (r : Nat) : Option (BitVec 128) := (s.mesh.delay.at r).find? fun e => dueOf e = s.launched % 256

/-- Entries of the step's spill sub-ring that are still to be released. -/
def dueSpilled (s : State) (r : Nat) : Nat :=
  let k := 64 * r + s.launched % 64
  s.mesh.spilled.at k - s.mesh.spillRead.at k

/-- Count one spilled entry out of its sub-ring; the last one empties it (R301). -/
def spillStep (s : State) (r : Nat) : State :=
  let k := 64 * r + s.launched % 64
  let read := s.mesh.spillRead.at k + 1
  let s := s.put (Reg.EVM_SPILL_LEVEL_COUNT r) (s.get (Reg.EVM_SPILL_LEVEL_COUNT r) - 1)
  if s.mesh.spilled.at k ≤ read then
    s.onMesh fun m => { m with spilled := m.spilled.put k 0, spillRead := m.spillRead.put k 0 }
  else s.onMesh fun m => { m with spillRead := m.spillRead.put k read }

/-- DELAY_STORE_RELEASE: one entry due at the step last launched; `poisoned` says that the read of a spilled entry is
(R300, R301). -/
def releaseNext (s : State) (r : Nat) (poisoned : Bool) : State :=
  if !s.deliveryOpen then s
  else match s.dueOnChip r with
    | some e =>
      if s.releaseRoom r e then
        ((s.onMesh fun m => { m with delay := m.delay.put r ((m.delay.at r).erase e) }).dsLevel r).releaseEntry r e
      else s
    | none =>
      if s.dueSpilled r = 0 then s
      else
        let e := BitVec.ofNat 128 (s.rdLe (s.spillAddr r (s.launched % 64) (s.mesh.spillRead.at (64 * r + s.launched % 64))) 16)
        if poisoned then (s.spillStep r).releaseBad r
        else if s.releaseRoom r e then (s.spillStep r).releaseEntry r e
        else s

/-! Idle and forced close (R90, R94, R206). -/

/-- A tile is idle for the step last launched (R90); the work that R90 counts at a deque counts here at the tile whose
deque, engine, or accumulate port holds it. Contributions of a window count in the last step of the next one only. -/
def tileIdle (s : State) (t : Nat) : Bool :=
  let g := s.launched % 256
  let w := s.get (Reg.NE_WINDOW_W t)
  let last := w ≠ 0 ∧ (s.launched - s.get64 (Reg.NE_WIN_BASE_LO t)) % w = w - 1
  !((s.delivery.step.at t).any fun j => j.step = g) && !((s.delivery.contribs.at t).any fun c => !c.win || decide last) &&
    !((s.mesh.eject.at t).any fun e => e.pip.tag = g) && (s.dueOnChip t).isNone && s.dueSpilled t = 0 &&
    (!decide last || s.delivery.applying.at t = 0)

/-- What a forced close discards at a tile (R94, R206). -/
def cutTile (s : State) (t : Nat) : State :=
  let g := s.launched % 256
  let jobs := (s.delivery.step.at t).filter fun j => j.step = g
  let recs := (s.mesh.eject.at t).foldl (fun acc e => acc + if e.pip.tag = g then e.pip.ptype - e.taken else 0) 0
  let due := (s.mesh.delay.at t).filter fun e => dueOf e = g
  let k := 64 * t + s.launched % 64
  let sp := s.dueSpilled t
  let s := s.onDelivery fun q => { q with step := q.step.put t ((q.step.at t).filter fun j => j.step ≠ g) }
  let s := s.onMesh fun m => { m with
    eject := m.eject.put t ((m.eject.at t).filter fun e => e.pip.tag ≠ g)
    delay := m.delay.put t ((m.delay.at t).filter fun e => dueOf e ≠ g)
    spilled := m.spilled.put k 0, spillRead := m.spillRead.put k 0 }
  let s := s.put (Reg.EVM_SPILL_LEVEL_COUNT t) (s.get (Reg.EVM_SPILL_LEVEL_COUNT t) - sp)
  let n := jobs.length + recs + due.length + sp
  let s := s.dropLate t (Reg.DE_DROP_LATE_COUNT t) n
  ((if n = 0 then s else s.raise (Reg.DE_INT_EN t) 2).dsLevel t).dqLevel t

/-! Writes of DE_PROJ_CTRL (R59, R215, R219). -/

/-- A write of DE_PROJ_CTRL. -/
def projCtrlWrite (s : State) (p n : Nat) (v : Word) : State :=
  let a := Reg.DE_PROJ_CTRL p n
  let trav := getF v 0 2
  let barred := (trav = 1 ∨ trav = 2) ∧ !(s.desc p n).block
  let s' := s.writeOnly a v fun f =>
    if f.lo = 0 then !decide barred else if f.lo = 2 then !(getF v 2 1 = 0 && s.running) else true
  if barred then
    ((s'.put (Reg.DE_ARB_STATUS_MODE_VIOLATION p) 1).put (Reg.DE_ARB_STATUS_VIOL_SLOT p) n).log .de p 0x4103 srcDevice p a
  else s'

end State

/-- MATCH_RECORD (R189). -/
def execMatchRecord (tile : Fin 1152) (ecc : Option (EccHit × Fin 64)) (s : State) : Result :=
  s.done (s.matchRecord tile.val ecc)

/-- ENGINE_TAKE_JOB (R193). -/
def execEngineTakeJob (tile : Fin 1152) (ecc : Option (EccHit × Nat)) (s : State) : Result :=
  s.done (s.engineTake tile.val ecc)

/-- ACCUMULATE_CONTRIBUTION (R200). -/
def execAccumulateContribution (tile : Fin 1152) (ecc : Option EccHit) (s : State) : Result :=
  s.done (s.accumulateNext tile.val ecc)

/-- AREA_CLEAR_DONE (R205). -/
def execAreaClearDone (pod : Fin 72) (slot : Fin 64) (s : State) : Result :=
  let key := 64 * pod.val + slot.val
  if s.delivery.clearing.contains key then
    s.done ((s.areaClear pod.val slot.val (s.desc pod.val slot.val)).onDelivery fun q =>
      { q with clearing := q.clearing.filter fun k => k ≠ key })
  else s.done s

/-- WINDOW_APPLICATION_DONE (R207). -/
def execWindowApplicationDone (tile : Fin 1152) (s : State) : Result := s.done (s.winDone tile.val)

/-- PROJ_CTRL_WRITE (R219). -/
def execProjCtrlWrite (pod : Fin 72) (slot : Fin 64) (value : Word) (s : State) : Result :=
  s.done (s.projCtrlWrite pod.val slot.val value)

/-- DELAY_STORE_RELEASE (R300). -/
def execDelayStoreRelease (router : Fin 1152) (poisoned : Bool) (s : State) : Result :=
  s.done (s.releaseNext router.val poisoned)

end Sys2Proof.Machine
end

