-- ==== Sys2Proof/Machine/Scheduled.lean ====
section
/-! DEFINITION. The scheduled mesh: slot tables, beats, stream engines, pod stream interfaces, planned copies and
staging (R313 to R354). -/

namespace Sys2Proof.Machine

namespace State

/-- Change the scheduled mesh. -/
def onStreams (s : State) (f : Streams → Streams) : State := { s with streams := f s.streams }

/-- Change the memories' own state. -/
def onMemories (s : State) (f : Memories → Memories) : State := { s with memories := f s.memories }

/-- The halves are split, by request or by their throttle levels (R35, R629, R640). -/
def split (s : State) : Bool := s.power.split || s.throttle .west != s.throttle .east

/-! Slot tables (R318 to R323, R349). -/

/-- A route field of an entry: inputs N, E, S, W are 0 to 3, L is 4. -/
abbrev routeOf (e input : Nat) : Nat := bits e (3 * input) 3
/-- RXCH of an entry. -/
abbrev rxch (e : Nat) : Nat := bits e 15 6
/-- TXCH of an entry. -/
abbrev txch (e : Nat) : Nat := bits e 21 6

/-- Active entry `n` of a port. -/
def slotEntry (s : State) (r n : Nat) : Nat := s.streams.active.at (1024 * r + n)

/-- Columns of the stream engines of a quad (R27). -/
def engineCol (q : Nat) : Nat := [2, 6, 10, 14, 20, 24, 28, 32].getD (q % 8) 0

/-- Router and port where stream engine `q` is attached (R27). -/
def enginePort (q : Nat) : Nat × Nat := if q < 8 then (engineCol q, 0) else (36 * 31 + engineCol q, 2)

/-- The stream engine at a port of a router. -/
def engineAt (r p : Nat) : Option Nat := (List.range 16).find? fun q => enginePort q = (r, p)

/-- A scheduled-mesh link is live (R351). -/
def scmUp (s : State) (r p : Nat) : Bool := bits (s.get (Reg.SCM_STATUS_LINK_UP r)) p 1 = 1

/-- An entry crosses the seam (R349). -/
def crossesSeam (r e : Nat) : Bool :=
  (List.range 5).any fun i =>
    let o := routeOf e i
    (colOf r = 17 && o = 2) || (colOf r = 18 && o = 4) ||
      ((colOf r = 18 || colOf r = 19) && (o = 5 || (i = 4 && o ≠ 0)))

/-- The standby entries that are not 0, in ascending tile and slot order. -/
def standbyEntries (s : State) : List (Nat × Nat × Nat) :=
  s.regs.filterMap fun x =>
    let t := (x.1 - tileBase 0) / 0x40000
    let o := (x.1 - tileBase 0) % 0x40000
    if tileBase 0 ≤ x.1 ∧ t < 1152 ∧ 0x36000 ≤ o ∧ o < 0x37000 then some (t, (o - 0x36000) / 4, x.2.toNat) else none

/-- The standby class of a slot (R353). -/
def standbyClass (s : State) (n : Nat) : Nat := bits (s.get (Reg.SCM_CLASS_CLASS (n / 16))) (2 * (n % 16)) 2

/-- Observation slots of the standby class map (R353). -/
def obsSlots (s : State) : Nat := ((List.range 1024).filter fun n => s.standbyClass n = 3).length

/-- A standby entry meets the condition of a code (R321). -/
def entryFails (s : State) (code r n e : Nat) : Bool :=
  let outs := (List.range 5).map (routeOf e)
  match code with
  | 1 => (List.range 5).any fun i => (List.range i).any fun j => outs.getD i 0 ≠ 0 && outs.getD i 0 = outs.getD j 0
  | 2 => (outs.any fun o => 6 ≤ o) || outs.getD 4 0 = 5
  | 3 => outs.any fun o => 1 ≤ o && o ≤ 4 &&
      (if (neighbour r (o - 1)).isSome then !s.scmUp r (o - 1) else (engineAt r (o - 1)).isNone)
  | 4 => outs.any fun o => 1 ≤ o && o ≤ 4 &&
      match neighbour r (o - 1) with
      | some r' =>
        let n' := (n + if isSeam r (o - 1) then 5 else 1) % 1024
        routeOf (s.get (Reg.SCM_SLOT_ENTRY r' n')) (facing (o - 1)) = 0
      | none => false
  | 5 => s.split && crossesSeam r e
  | 7 =>
    let p := podOf r
    (outs.contains 5 && (let m := s.get (Reg.SCM_CH_CFG_MODE p (rxch e)); m ≠ 1 && m ≠ 3)) ||
      (outs.getD 4 0 ≠ 0 && (let m := s.get (Reg.SCM_CH_CFG_MODE p (txch e)); m ≠ 2 && m ≠ 3))
  | _ => false

/-- The first failure that CHECK finds: tile, slot and code (R320, R321). -/
def checkFailure (s : State) : Option (Nat × Nat × Nat) :=
  let es := s.standbyEntries
  [1, 2, 3, 4, 5, 6, 7].findSome? fun code =>
    if code = 6 then (if 30 < s.obsSlots then some (0, 0, 6) else none)
    else (es.find? fun x => s.entryFails code x.1 x.2.1 x.2.2).map fun x => (x.1, x.2.1, code)

/-- CHECK starts (R320). -/
def checkStart (s : State) : State :=
  if s.flag Reg.SCM_LD_STAT_BUSY then s else (s.put Reg.SCM_LD_STAT_BUSY 1).put Reg.SCM_LD_STAT_RESULT 0

/-- CHECK ends (R320, R321, R349). -/
def checkEnd (s : State) : State :=
  if !s.flag Reg.SCM_LD_STAT_BUSY then s
  else
    let s := (s.put Reg.SCM_LD_STAT_BUSY 0).put Reg.SCM_LD_STAT_OBS_SLOTS s.obsSlots
    let s := s.put Reg.SCM_LD_STAT_SEAM_STBY (if s.standbyEntries.any fun x => crossesSeam x.1 x.2.2 then 1 else 0)
    match s.checkFailure with
    | some (t, n, c) =>
      let s := ((s.put Reg.SCM_LD_ERR_TILE t).put Reg.SCM_LD_ERR_SLOT n).put Reg.SCM_LD_ERR_CODE c
      (s.put Reg.SCM_LD_STAT_RESULT 2).log .scm 0 0x3201 srcManager t n
    | none => if s.get Reg.SCM_LD_STAT_RESULT = 3 then s else s.put Reg.SCM_LD_STAT_RESULT 1

/-- A write of a standby entry or of the standby class map makes the last CHECK stale, and stands unchecked where there was
none (R320, log entry 154). -/
def standbyWritten (s : State) : State := s.put Reg.SCM_LD_STAT_RESULT 3

/-- The banks of every port are exchanged (R320). -/
def bankSwap (s : State) : State :=
  let old := s.streams.active
  let oldClass := s.streams.activeClass
  let stby := s.standbyEntries
  let cls := (List.range 64).map fun n => (n, s.get (Reg.SCM_CLASS_CLASS n))
  let s := stby.foldl (fun s x => s.put (Reg.SCM_SLOT_ENTRY x.1 x.2.1) 0) s
  let s := old.foldl (fun s x => s.put (Reg.SCM_SLOT_ENTRY (x.1 / 1024) (x.1 % 1024)) x.2) s
  let s := cls.foldl (fun s x => s.put (Reg.SCM_CLASS_CLASS x.1) (oldClass.at x.1)) s
  let s := s.onStreams fun m => { m with
    active := stby.foldl (fun a x => a.put (1024 * x.1 + x.2.1) x.2.2) []
    activeClass := cls.foldl (fun a x => a.put x.1 x.2) [] }
  let act := s.streams.active.any fun x => crossesSeam (x.1 / 1024) x.2
  let stb := s.standbyEntries.any fun x => crossesSeam x.1 x.2.2
  ((((s.put Reg.SCM_LD_STAT_SEAM_ACT (if act then 1 else 0)).put Reg.SCM_LD_STAT_SEAM_STBY (if stb then 1 else 0)).put
    Reg.SCM_LD_STAT_RESULT 0).put Reg.SCM_LD_STAT_SWAP_PEND 0).put Reg.SCM_LD_STAT_OBS_SLOTS s.obsSlots

/-- SWAP is refused (R320, R349). -/
def swapBarred (s : State) : Bool :=
  2 ≤ s.get Reg.SCM_LD_STAT_RESULT || (s.split && s.flag Reg.SCM_LD_STAT_SEAM_STBY)

/-- SWAP (R320). -/
def swapRequest (s : State) : State :=
  if s.swapBarred then s.put Reg.SCM_LD_STAT_SWAP_REFUSED 1
  else if s.running then s.put Reg.SCM_LD_STAT_SWAP_PEND 1
  else s.bankSwap

/-! Copy descriptors (R325). -/

/-- Bits of descriptor `d` of engine `q`. -/
def cd (s : State) (q d lo len : Nat) : Nat := s.get ⟨Reg.STR_DESC0 q d + 4 * (lo / 32), lo % 32, len⟩

/-- VALID of an enabled engine's descriptor. -/
def cdValid (s : State) (q d : Nat) : Bool := s.flag (Reg.STR_CTRL_EN q) && s.cd q d 0 1 = 1
/-- KIND: 1 READ, 2 WRITE, 3 STAGE. -/
def cdKind (s : State) (q d : Nat) : Nat := s.cd q d 1 3
/-- CLASS. -/
def cdClass (s : State) (q d : Nat) : Nat := s.cd q d 4 2
/-- PERIOD. -/
def cdPeriod (s : State) (q d : Nat) : Nat := s.cd q d 32 16
/-- DRAM_ADDR. -/
def cdAddr (s : State) (q d : Nat) : Nat := s.cd q d 128 32 + 2 ^ 32 * s.cd q d 160 8
/-- LENGTH. -/
def cdLen (s : State) (q d : Nat) : Nat := s.cd q d 192 32
/-- POD. -/
def cdPod (s : State) (q d : Nat) : Nat := s.cd q d 224 7
/-- CH. -/
def cdCh (s : State) (q d : Nat) : Nat := s.cd q d 232 6

/-- Engine `q` reaches a DRAM address: the interleave places it in its subchannel (R324). -/
def engineReach (s : State) (q a : Nat) : Bool := (s.dramAt a).any fun x => x.1 = q

/-- Slot `n` is one of `k` consecutive slots from `first` on, modulo 1,024. -/
def inSlots (n first k : Nat) : Bool := (n + 1024 - first) % 1024 < k

/-- A slot of a descriptor's data beats. -/
def dataSlot (s : State) (q d n : Nat) : Bool := inSlots n (s.cd q d 96 10) (s.cd q d 112 11)
/-- A slot of a STAGE descriptor's request beats, in which the pod sends them (R335, log entry 185). -/
def upSlot (s : State) (q d n : Nat) : Bool := inSlots n (s.cd q d 238 10) (s.cd q d 248 8)

/-- The pending copy of a descriptor. -/
def copyOf (s : State) (q d : Nat) : Option Copy := s.streams.copies.find? fun c => c.engine = q && c.desc = d

/-- Replace a pending copy. -/
def copyPut (s : State) (c : Copy) : State := s.onStreams fun m => { m with
  copies := m.copies.map fun x => if x.engine = c.engine && x.desc = c.desc then c else x }

/-- The step base that a schedule selects (R325). -/
def stepBase (s : State) (sel : Nat) : Nat :=
  match sel with
  | 0 => s.get64 Reg.STEP_WIN_BASE_LO
  | 1 => s.loadStep
  | _ => s.streams.standbyBase

/-- A schedule starts in step `t` (R325). -/
def startsIn (s : State) (t sel period phase : Nat) : Bool :=
  period ≠ 0 && s.stepBase sel ≤ t && (t - s.stepBase sel) % period = phase

/-- The level registers of an engine (R354). -/
def strLevel (s : State) (q : Nat) : State :=
  let rd := (List.range 64).foldl (fun a d => a + (s.streams.rdBuf.at (64 * q + d)).length) 0
  let n := (s.streams.copies.filter fun c => c.engine = q).length
  ((s.put (Reg.STR_BUF_LEVEL_READ q) rd).put (Reg.STR_BUF_LEVEL_WRITE q) (s.streams.wrBuf.at q).length).put
    (Reg.STR_STATUS_PENDING q) (min 65535 n)

/-- The projection a copy serves: that of its channel's slot. -/
def copyProj (s : State) (q d : Nat) : Nat :=
  let p := s.cdPod q d
  (s.desc p (s.get (Reg.SCM_CH_CFG_DSLOT p (s.cdCh q d)))).proj

/-- A copy is over: its buffers empty. -/
def copyEnd (s : State) (q d : Nat) : State :=
  (s.onStreams fun m => { m with
    copies := m.copies.filter fun c => !(c.engine = q && c.desc = d)
    stages := m.stages.filter fun c => !(c.engine = q && c.desc = d)
    rdBuf := m.rdBuf.put (64 * q + d) []
    wrBuf := m.wrBuf.put q ((m.wrBuf.at q).filter fun x => x.1 ≠ d) }).strLevel q

/-- A staged projection is faulted for its window: its jobs are not made and the half being filled is released
(R348). -/
def stageAbandon (s : State) (p ch : Nat) : State :=
  let n := s.get (Reg.SCM_CH_CFG_DSLOT p ch)
  let key := 64 * p + n
  let v := (List.range 16).findSome? fun i => let v := s.delivery.applying.at (podTile p i); if v = 0 then none else some v
  let d := s.desc p n
  let half := (s.rd8 (d.stageIdx + 0x17)).toNat % 2
  let s := s.wr8 (d.stageIdx + 0x14 + half) 3
  (s.onStreams fun m => { m with requests := m.requests.put (64 * p + ch) [] }).onDelivery fun q => { q with
    stagedWindow := q.stagedWindow.put key (v.getD (q.stagedWindow.at key))
    releases := if q.releases.contains (key, half) then q.releases else q.releases ++ [(key, half)] }

/-- The outcome of a failed or incomplete copy by its class (R346, R348). -/
def copyOutcome (s : State) (q d : Nat) : State :=
  match s.cdClass q d with
  | 1 => if s.cdKind q d = 2 then s.log .flt 0 0x4230 srcManager else s
  | 2 => s.log .str q 0x4322 srcManager (s.copyProj q d + s.cdPod q d * 2 ^ 16)
  | 3 => s
  | _ =>
    let s := s.log .step 0 0x4205 srcManager (s.copyProj q d)
    if s.cdKind q d = 3 then s.stageAbandon (s.cdPod q d) (s.cdCh q d) else s

/-- A failed copy extends its engine's run of steps with a failure; the eighth is reported while the engine's subchannel is
live (R687). -/
def copyStreak (s : State) (q : Nat) : State :=
  let v := s.fault.streaks.at q
  let t := s.stepNum
  let n := if v / 16 = t + 1 then v % 16 else if v / 16 = t then min 15 (v % 16 + 1) else 1
  let s' := { s with fault := { s.fault with streaks := s.fault.streaks.put q (16 * (t + 1) + n) } }
  if n = 8 ∧ v / 16 ≠ t + 1 ∧ !s.subRetired q then s'.fileReport edgeNode (suspectId 5 q) else s'

/-- A copy fails, and with it what its channel received or sent of it (R348, R352, log entry 155). -/
def copyFail (s : State) (q d : Nat) : State :=
  if (s.copyOf q d).isNone then s
  else
    let s := ((s.count (Reg.STR_FAILED_COUNT q)).put (Reg.STR_STATUS_LAST_FAIL q) d).raise (Reg.STR_INT_EN q) 0
    let (p, ch) := (s.cdPod q d, s.cdCh q d)
    let s := ((s.put (Reg.SCM_CH_STAT_PENDING p ch) 0).put (Reg.SCM_CH_STAT_FAILED p ch) 1).onStreams fun m =>
      { m with ahead := m.ahead.put (64 * p + ch) [] }
    ((s.copyOutcome q d).copyEnd q d).copyStreak q

/-- A copy that meets a pod channel fails there (R331, R352). -/
def channelFail (s : State) (p ch cause : Nat) : State :=
  let s := ((s.put (Reg.SCM_PI_STATUS_FAIL p) 1).put (Reg.SCM_PI_FAIL_CH p) ch).put (Reg.SCM_PI_FAIL_CAUSE p) cause
  let s := (s.put (Reg.SCM_CH_STAT_FAILED p ch) 1).put (Reg.SCM_CH_STAT_PENDING p ch) 0
  match s.streams.copies.find? fun c => s.cdPod c.engine c.desc = p && s.cdCh c.engine c.desc = ch with
  | some c => s.copyFail c.engine c.desc
  | none =>
    if s.get (Reg.SCM_CH_CFG_MODE p ch) = 3 then
      (s.log .step 0 0x4205 srcManager (s.desc p (s.get (Reg.SCM_CH_CFG_DSLOT p ch))).proj).stageAbandon p ch
    else s

/-! Starting copies (R326, R345 to R347). -/

/-- Descriptors `d` and `e` of an engine write back the same slot of the same pod (R345). -/
def wbPair (s : State) (q d e : Nat) : Bool :=
  s.cd q e 0 1 = 1 && s.cdClass q e = 2 && s.cdKind q e = 2 && s.cdPod q e = s.cdPod q d &&
    s.get (Reg.SCM_CH_CFG_DSLOT (s.cdPod q e) (s.cdCh q e)) = s.get (Reg.SCM_CH_CFG_DSLOT (s.cdPod q d) (s.cdCh q d))

/-- The area that a write-back descriptor belongs to: the lower one of a pair is A (log entry 13). -/
def wbArea (s : State) (q d : Nat) : Nat := ((List.range d).filter (s.wbPair q d)).length % 2

/-- The step of the stamp that follows the data of a write-back descriptor's area, where VALID (R259, log entry 13). -/
def wbStamp (s : State) (q d : Nat) : Option Nat :=
  let w := s.rdLe (s.cdAddr q d + s.cdLen q d) 16
  if bits w 112 1 = 1 then some (bits w 0 64) else none

/-- The descriptor whose area holds the newest valid write-back of the slot that `d` writes back (R260, R261). -/
def wbNewest (s : State) (q d : Nat) : Option Nat :=
  (((List.range 64).filter (s.wbPair q d)).foldl (fun (best : Option (Nat × Nat)) e =>
    match s.wbStamp q e, best with
    | none, _ => best
    | some t, none => some (e, t)
    | some t, some b => if b.2 < t then some (e, t) else best) none).map (·.1)

/-- A write-back step starts the set of the area that does not hold the newest valid stamp, and A where neither holds one
(R260, R345). -/
def wbSkips (s : State) (q d : Nat) : Bool :=
  match s.wbNewest q d with
  | some e => s.wbArea q e = s.wbArea q d
  | none => s.wbArea q d = 1

/-- The logical tile whose checkpoint area a class-1 descriptor writes (R697). -/
def ckptTile (s : State) (q d : Nat) : Nat :=
  (s.cdAddr q d - s.get64 Reg.FLT_CKPT_BASE_LO) / (2 * s.get Reg.FLT_CKPT_STRIDE_BYTES)

/-- Address of a checkpoint area (R697). -/
def ckptArea (s : State) (n x : Nat) : Nat := s.get64 Reg.FLT_CKPT_BASE_LO + (2 * n + x) * s.get Reg.FLT_CKPT_STRIDE_BYTES

/-- The stamp of a checkpoint area: its step where VALID. -/
def ckptStamp (s : State) (n x : Nat) : Option Nat :=
  let w := s.rdLe (s.ckptArea n x) 16
  if bits w 80 1 = 1 then some (bits w 0 64) else none

/-- The area that holds a tile's newest valid slice (R697). -/
def ckptNewest (s : State) (n : Nat) : Option Nat :=
  match s.ckptStamp n 0, s.ckptStamp n 1 with
  | none, none => none
  | some _, none => some 0
  | none, some _ => some 1
  | some a, some b => some (if a < b then 1 else 0)

/-- The address a WRITE copy writes its beats from (R259, R697). -/
def writeBase (s : State) (c : Copy) : Nat :=
  s.cdAddr c.engine c.desc + if s.cdClass c.engine c.desc = 1 ∧ c.area = 1 then s.get Reg.FLT_CKPT_STRIDE_BYTES else 0

/-- Address of the stamp of a class-1 or class-2 copy; a write-back's stamp follows its data (R259, R697, log entry
13). -/
def stampAddr (s : State) (c : Copy) : Nat :=
  if s.cdClass c.engine c.desc = 1 then s.ckptArea (s.ckptTile c.engine c.desc) c.area
  else s.cdAddr c.engine c.desc + s.cdLen c.engine c.desc

/-- The circuit of a beat that enters router `r` on an input at a slot uses output `port` of `at_` (R316). -/
def circuitUses (s : State) (at_ port : Nat) : (fuel r input n : Nat) → Bool
  | 0, _, _, _ => false
  | fuel + 1, r, input, n =>
    let o := routeOf (s.slotEntry r n) input
    if o = 0 ∨ 5 ≤ o then false
    else if r = at_ ∧ o = port + 1 then true
    else
      match neighbour r (o - 1) with
      | some r' => s.circuitUses at_ port fuel r' (facing (o - 1)) ((n + if isSeam r (o - 1) then 5 else 1) % 1024)
      | none => false

/-- The tile and slot from which a beat came that leaves router `r` by an output port at a slot (R316). -/
def circuitStart (s : State) : (fuel r port n : Nat) → Option (Nat × Nat)
  | 0, _, _, _ => none
  | fuel + 1, r, port, n =>
    match (List.range 5).find? fun i => routeOf (s.slotEntry r n) i = port + 1 with
    | none => none
    | some 4 => some (r, n)
    | some i => (neighbour r i).bind fun r' => s.circuitStart fuel r' (facing i) ((n + 1024 - if isSeam r i then 5 else 1) % 1024)

/-- A pending copy uses an output port of a router: its data beats, or its request beats. -/
def copyUses (s : State) (r port : Nat) (c : Copy) : Bool :=
  let q := c.engine
  let d := c.desc
  let down := (s.cdKind q d = 1 || s.cdKind q d = 3) &&
    (List.range 1024).any fun n => s.dataSlot q d n && s.circuitUses r port 72 (enginePort q).1 (enginePort q).2 n
  let up := (s.cdKind q d = 2 || s.cdKind q d = 3) &&
    (List.range 16).any fun i => let t := podTile (s.cdPod q d) i
      (List.range 1024).any fun n => routeOf (s.slotEntry t n) 4 ≠ 0 && txch (s.slotEntry t n) = s.cdCh q d &&
        s.circuitUses r port 72 t 4 n
  down || up

/-- Scheduled-mesh links that are down, as router and output port (R322). -/
def linksDead (s : State) : List (Nat × Nat) :=
  (s.regs.filterMap fun x =>
    if tileBase 0 ≤ x.1 ∧ x.1 < tileBase 1152 ∧ (x.1 - tileBase 0) % 0x40000 = 0x35004 then some ((x.1 - tileBase 0) / 0x40000)
    else none).flatMap fun r => ((List.range 4).filter fun p => (neighbour r p).isSome && !s.scmUp r p).map fun p => (r, p)

/-- A descriptor starts, or its start is skipped as overrun (R326). -/
def copyStart (s : State) (q d t : Nat) : State :=
  let cls := s.cdClass q d
  if cls = 3 ∧ s.get Reg.DBG_STATUS_LEVEL = 0 then s
  else if cls = 2 ∧ s.flag Reg.STEP_CTRL_INPUT ∧ s.flag Reg.STEP_CTRL_REPLAY_RO then
    s.count (Reg.DE_PL_STATUS_WB_SKIP (s.cdPod q d))
  else if s.flag Reg.STEP_CTRL_INPUT ∧ s.flag Reg.STEP_CTRL_REPLAY_RO ∧ s.cdKind q d = 2 then s
  else if cls = 2 ∧ s.cdKind q d = 2 ∧ s.wbSkips q d then s
  else if (s.copyOf q d).isSome then (s.count (Reg.STR_OVERRUN_COUNT q)).raise (Reg.STR_INT_EN q) 2
  else
    let area := if cls = 1 ∧ s.cdKind q d = 2 then (if s.ckptNewest (s.ckptTile q d) = some 0 then 1 else 0) else s.wbArea q d
    let c : Copy := ⟨q, d, t, 0, 0, area⟩
    let s := if s.cdKind q d = 2 ∧ (cls = 1 ∨ cls = 2) then
      let b := s.stampAddr c + if cls = 1 then 10 else 14
      s.wr8 b (s.rd8 b &&& ~~~ 1) else s
    let s := (s.onStreams fun m => { m with copies := m.copies ++ [c] }).strLevel q
    if s.linksDead.any fun x => s.copyUses x.1 x.2 c then (s.channelFail (s.cdPod q d) (s.cdCh q d) 3).copyFail q d else s

/-- A pod's send channel starts on its own schedule (R331). -/
def channelStart (s : State) (p ch t ev : Nat) : State :=
  if s.get (Reg.SCM_CH_CFG_MODE p ch) = 2 ∧ s.get (Reg.SCM_CH_CFG_START_EV p ch) = ev ∧
      s.startsIn t (s.get (Reg.SCM_CH_CFG_BASE_SEL p ch)) (s.get (Reg.SCM_CH_SCHED_PERIOD p ch)) (s.get (Reg.SCM_CH_SCHED_PHASE p ch)) ∧
      !s.flag (Reg.SCM_CH_STAT_PENDING p ch) then
    ((s.put (Reg.SCM_CH_STAT_PENDING p ch) 1).put (Reg.SCM_CH_CUR_CUR p ch) 0).onStreams fun m =>
      { m with ahead := m.ahead.put (64 * p + ch) [] }
  else s

/-- STREAM_DESCRIPTOR_START at the launch (`ev` 0) or quiescence (`ev` 1) of step `t` (R326). -/
def startCopies (s : State) (t ev : Nat) : State :=
  let s := (List.range 16).foldl (fun s q => (List.range 64).foldl (fun (s : State) d =>
    if s.cdValid q d ∧ s.cd q d 6 1 = ev ∧ 1 ≤ s.cdKind q d ∧ s.cdKind q d ≤ 3 ∧
        s.startsIn t (s.cd q d 8 2) (s.cdPeriod q d) (s.cd q d 48 16) then s.copyStart q d t else s) s) s
  (List.range 72).foldl (fun s p => if s.flag (Reg.SCM_PI_CTRL_EN p) then
    (List.range 64).foldl (fun s ch => s.channelStart p ch t ev) s else s) s

/-! Stage channels (R335, R337, R339, R343). -/

/-- Queue a request beat at a stage channel. -/
def request (s : State) (p ch data : Nat) : State := s.onStreams fun m => { m with
  requests := m.requests.push (64 * p + ch) (Beat.ofRequest data) }

/-- The end beat of a window's requests. -/
def requestEnd (s : State) (p ch mLo : Nat) : State := s.request p ch (3 + mLo * 2 ^ 24)

/-- Staging begins for window `m` at a stage channel; with no window yet the end follows at once (R337, R343). -/
def stageBegin (s : State) (p ch : Nat) (m : Option Nat) : State :=
  let n := s.get (Reg.SCM_CH_CFG_DSLOT p ch)
  let d := s.desc p n
  if !(d.valid && d.windowed) then s
  else
    let mLo := match m with | some m => m % 256 | none => 255
    let at8 := fun (b v : Nat) => v * 2 ^ (8 * b)
    let s := ((s.wr8 (d.stageIdx + 0x16) (BitVec.ofNat 8 mLo)).wr8 (d.stageIdx + 0x17) 0).stageFree d
    let nb := if d.block then d.nb else 0
    let ng := if d.block then d.ng else 0
    let gb := if d.block then d.gb else 0
    let head := 1 + at8 1 3 + at8 3 mLo + at8 8 d.dir + at8 13 d.seg + at8 18 d.scale + at8 24 (s.rdLe d.stageIdx 4) +
      at8 28 nb + at8 32 ng + at8 36 gb + at8 40 (s.rdLe (d.stageIdx + 0x12) 2)
    let s := s.request p ch head
    match m with
    | none => s.requestEnd p ch mLo
    | some _ => s

/-- The stage channels of a pod, with their descriptor slots. -/
def stageChannels (s : State) (p : Nat) : List (Nat × Nat) :=
  if !s.flag (Reg.SCM_PI_CTRL_EN p) then []
  else (List.range 64).filterMap fun ch =>
    if s.get (Reg.SCM_CH_CFG_MODE p ch) = 3 then some (ch, s.get (Reg.SCM_CH_CFG_DSLOT p ch)) else none

/-- At the launch of the first step of a window the stage channels begin the window before it (R337, R343). -/
def stageLaunch (s : State) (t : Nat) : State :=
  let w := s.get Reg.STEP_WINDOW_W
  let s0 := s.get64 Reg.STEP_WIN_BASE_LO
  if w = 0 ∨ t < s0 ∨ (t - s0) % w ≠ 0 then s
  else
    let m := if t = s0 then none else some ((t - s0) / w - 1)
    (List.range 72).foldl (fun s p => (s.stageChannels p).foldl (fun s x => s.stageBegin p x.1 m) s) s

/-- Set a bit of the union bitmap for every record of the pod's buffers that a descriptor holds (R339). -/
def unionBuild (s : State) (p m : Nat) : State :=
  let lists := (s.stageChannels p).filterMap fun x =>
    let d := s.desc p x.2
    if d.valid && d.windowed && !d.block then some d else none
  if lists.isEmpty then s
  else
    let records := (List.range 16).flatMap fun i => s.winRecords (podTile p i) (m % 2)
    let s := lists.foldl (fun s d =>
      let base := podBase p + s.rdLe (d.stageIdx + 0x0C) 4
      (records.filter fun r => d.holds (recAxon r)).foldl (fun (s : State) r =>
        let i := recAxon r - d.srcBase
        s.wr8 (base + i / 8) (s.rd8 (base + i / 8) ||| BitVec.ofNat 8 (2 ^ (i % 8)))) s) s
    s.put (Reg.SCM_PI_STATUS_UNION_BUSY p) 1

/-- Runs of set bits, merged over gaps of at most `gap`, in ascending order (R339). -/
def mergeRuns (gap : Nat) : List Nat → List (Nat × Nat)
  | [] => []
  | i :: rest =>
    match mergeRuns gap rest with
    | (f, n) :: more => if f ≤ i + 1 + gap then (i, f + n - i) :: more else (i, 1) :: (f, n) :: more
    | [] => [(i, 1)]

/-- The request beats of runs, seven to each (R335, R339). -/
def requestRuns (s : State) (p ch mLo : Nat) : Nat → List (Nat × Nat) → State
  | 0, _ => s
  | _, [] => s
  | fuel + 1, r :: rs =>
    let l := (r :: rs).take 7
    let body := l.zipIdx.foldl (fun a x => a + (x.1.1 % 2 ^ 24 + x.1.2 % 2 ^ 24 * 2 ^ 32) * 2 ^ (8 * (8 + 8 * x.2))) 0
    (s.request p ch (2 + l.length * 2 ^ 16 + mLo * 2 ^ 24 + body)).requestRuns p ch mLo fuel (rs.drop 6)

/-- UNION_RUNS_READY: the runs of a pod's LIST projections go to their request slots and the bitmaps are cleared
(R339). -/
def unionReady (s : State) (p : Nat) : State :=
  if !s.flag (Reg.SCM_PI_STATUS_UNION_BUSY p) then s
  else
    let s := (s.stageChannels p).foldl (fun (s : State) x =>
      let d := s.desc p x.2
      if d.valid && d.windowed && !d.block then
        let base := podBase p + s.rdLe (d.stageIdx + 0x0C) 4
        let len := ceilDiv d.srcCount 512 * 64
        let set := ((s.rdBytes base len).zipIdx.flatMap fun b => (List.range 8).filterMap fun k =>
          if b.1.getLsbD k then some (8 * b.2 + k) else none)
        let runs := mergeRuns (s.rdLe (d.stageIdx + 0x10) 2) set
        let mLo := (s.rd8 (d.stageIdx + 0x16)).toNat
        ((s.requestRuns p x.1 mLo runs.length runs).requestEnd p x.1 mLo).wrBytes base (List.replicate len 0)
      else s) s
    s.put (Reg.SCM_PI_STATUS_UNION_BUSY p) 0

/-! Staging at the engine (R336 to R340). -/

/-- A request beat reaches a STAGE copy (R335). -/
def stageRequest (s : State) (q d : Nat) (b : Beat) : State :=
  if (s.copyOf q d).isNone then s
  else
    let rel := (if bits (b.field 1 1) 0 1 = 1 then [0] else []) ++ (if bits (b.field 1 1) 1 1 = 1 then [1] else [])
    let put := fun (s : State) (g : Stage) => s.onStreams fun m => { m with
      stages := (m.stages.filter fun x => !(x.engine = q && x.desc = d)) ++ [g] }
    if b.field 0 1 = 1 then
      put s ⟨q, d, b.field 8 5, b.field 13 5, b.field 18 5, b.field 24 4, b.field 28 4, b.field 32 4, b.field 36 4, b.field 40 2, b.field 3 1, [], false,
        rel, 0, 0, 0, [], false⟩
    else
      match s.streams.stages.find? fun x => x.engine = q && x.desc = d with
      | none => s
      | some g =>
        let g := { g with free := g.free ++ rel.filter fun h => !g.free.contains h }
        match b.field 0 1 with
        | 2 => put s { g with runs := g.runs ++ (List.range (b.field 2 1)).map fun j => (b.field (8 + 8 * j) 3, b.field (12 + 8 * j) 3) }
        | 3 => put s { g with ended := true }
        | _ => put s g

/-- Bytes padded with zeros to a multiple. -/
def padTo (n : Nat) (l : List Byte) : List Byte := l ++ List.replicate (n * ceilDiv l.length n - l.length) 0

/-- The run data of a run: directory copy, segments, scales, each padded to 16 bytes, and the first scale index
(R340). -/
def runData (s : State) (g : Stage) (r : Nat × Nat) : List Byte × Nat :=
  let dir := s.rdBytes (g.dir + 4 * r.1) (4 * (r.2 + 1))
  let d := fun (k : Nat) => s.rdLe (g.dir + 4 * (r.1 + k)) 4
  let live := (List.range r.2).filter fun k => d k < d (k + 1)
  let seg := s.rdBytes (g.seg + 16 * d 0) (16 * (d r.2 - d 0))
  let head := fun (k : Nat) => g.seg + 16 * d k
  let first := (live.head?.map fun k => s.rdLe (head k) 4).getD 0
  let last := (live.getLast?.map fun k => s.rdLe (head k) 4 + s.rdLe (head k + 12) 2).getD first
  (padTo 16 dir ++ padTo 16 seg ++ padTo 16 (s.rdBytes (g.scale + 3 * first) (3 * (last - first))), first)

/-- The whole runs that fit a chunk, a run that does not fit cut at a source boundary: the runs taken, their data, and
the runs left (R340). -/
def takeRuns (s : State) (g : Stage) (room : Nat) : Nat → List (Nat × Nat) → List ((Nat × Nat) × List Byte × Nat) →
    List ((Nat × Nat) × List Byte × Nat) × List (Nat × Nat)
  | 0, rest, acc => (acc, rest)
  | _, [], acc => (acc, [])
  | fuel + 1, r :: rest, acc =>
    let n := acc.length + 1
    let used := acc.foldl (fun a x => a + x.2.1.length) 0 + 64 * ceilDiv (16 * n) 64
    let fits := fun (k : Nat) => used + (s.runData g (r.1, k)).1.length ≤ room
    if g.runMax < n then (acc, r :: rest)
    else if fits r.2 then s.takeRuns g room fuel rest (acc ++ [(r, s.runData g r)])
    else
      let k := ((List.range r.2).filter fits).foldl max 0
      if k = 0 then (acc, r :: rest)
      else (acc ++ [((r.1, k), s.runData g (r.1, k))], (r.1 + k, r.2 - k) :: rest)

/-- The chunk record (R336). -/
def chunkRecord (form : Nat) (g : Stage) (first end_ runs size : Nat) (last : Bool) : List Byte :=
  padTo 64 (leBytes 1 form ++ leBytes 1 g.mLo ++ leBytes 2 g.chunk ++ leBytes 4 first ++ leBytes 4 end_ ++ leBytes 4 runs ++
    leBytes 4 size ++ leBytes 1 (if last then 1 else 0))

/-- Cut bytes into beats, the first and last marked. -/
def beatsOf (l : List Byte) : List Beat :=
  let n := ceilDiv l.length 64
  (List.range n).map fun i => Beat.ofBytes ((l.drop (64 * i)).take 64) (i = 0) (i + 1 = n) false

/-- Prepare the next chunk of a STAGE copy, where its half is released and its runs are known (R337, R338, R340,
R343). -/
def stagePrepare (s : State) (g : Stage) : Stage :=
  if !g.prep.isEmpty || g.final || !g.free.contains g.half then g
  else
    let done := fun (form first end_ runs : Nat) (body : List Byte) (last : Bool) (g' : Stage) =>
      let l := chunkRecord form g first end_ runs (64 + body.length) last ++ body
      { g' with prep := beatsOf (padTo 64 l), final := last, chunk := g.chunk + 1, half := 1 - g.half,
                free := g.free.filter fun h => h ≠ g.half }
    if g.nb ≠ 0 then
      if g.ended then done 1 0 0 0 [] true g
      else
        let per := g.ng * g.gb + g.ng * 192
        let k := min (g.nb - g.block) ((g.halfLen - 64) / max 1 per)
        if k = 0 then g
        else
          let body := (List.range k).flatMap fun j =>
            let b := g.block + j
            s.rdBytes (g.seg + b * (g.ng * g.gb)) (g.ng * g.gb) ++ s.rdBytes (g.scale + b * (g.ng * 192)) (g.ng * 192)
          done 1 g.block (g.block + k) 0 body (g.block + k = g.nb) { g with block := g.block + k }
    else if !g.ended then g
    else
      let (took, rest) := s.takeRuns g (g.halfLen - 64) (g.runs.length + 1) g.runs []
      let n := took.length
      let base := 64 + 64 * ceilDiv (16 * n) 64
      let index := (took.foldl (fun (a : List Byte × Nat) x =>
        (a.1 ++ leBytes 4 x.1.1 ++ leBytes 4 x.1.2 ++ leBytes 4 a.2 ++ leBytes 4 x.2.2, a.2 + x.2.1.length)) ([], base)).1
      let first := (took.head?.map fun x => x.1.1).getD 0
      let end_ := (took.getLast?.map fun x => x.1.1 + x.1.2).getD 0
      if n = 0 ∧ rest ≠ [] then g
      else done 0 first end_ n (padTo 64 index ++ took.flatMap fun x => x.2.1) (rest.isEmpty) { g with runs := rest }

/-- DRAM data of a burst arrives for a fetch of a pending copy: a READ copy's next beat lies in it, a STAGE copy's in its
subchannel (R324, R327, R329). -/
def fetchDone (s : State) (q d burst : Nat) (poisoned : Bool) : State :=
  match s.copyOf q d with
  | none => s
  | some c =>
    let buf := s.streams.rdBuf.at (64 * q + d)
    if s.cd q d 80 11 ≤ buf.length ∨ 1024 ≤ s.get (Reg.STR_BUF_LEVEL_READ q) ∨ !s.engineReach q burst then s
    else
      let push := fun (s : State) (b : Beat) =>
        ((s.onStreams fun m => { m with rdBuf := m.rdBuf.push (64 * q + d) { b with poison := b.poison || poisoned } }).strLevel q).add64
          (Reg.STR_RD_BYTES_LO q) 64
      match s.cdKind q d with
      | 1 =>
        let len := s.cdLen q d
        if len ≤ c.taken ∨ burst ≠ s.cdAddr q d + c.taken then s
        else push (s.copyPut { c with taken := c.taken + 64 })
          (Beat.ofBytes (s.rdBytes (s.cdAddr q d + c.taken) 64) (c.taken = 0) (len ≤ c.taken + 64) false)
      | 3 =>
        match s.streams.stages.find? fun x => x.engine = q && x.desc = d with
        | none => s
        | some g =>
          let g := s.stagePrepare g
          match g.prep with
          | [] => s
          | b :: rest => push (s.onStreams fun m => { m with
              stages := (m.stages.filter fun x => !(x.engine = q && x.desc = d)) ++ [{ g with prep := rest }] }) b
      | _ => s

/-! Beats at the endpoints (R317, R327, R328, R331, R335). -/

/-- No endpoint injects: halted, or within 128 cycles of the armed launch (R317). -/
def quiet (s : State) (r : Nat) : Bool :=
  s.get Reg.STEP_STATUS_PHASE = 0 || s.get Reg.STEP_STATUS_PHASE = 7 ||
    ((s.get Reg.STEP_STATUS_PHASE = 4 || s.get Reg.STEP_STATUS_PHASE = 1) &&
      decide (s.get64 Reg.STEP_NEXT_LAUNCH_LO ≤ s.now + s.cycles r 128))

/-- What an engine presents at its edge router in a slot (R327). -/
def engineBeat (s : State) (q n : Nat) : State × Option Beat :=
  match (List.range 64).find? fun d => s.cdValid q d && (s.cdKind q d = 1 || s.cdKind q d = 3) && s.dataSlot q d n with
  | none => (s, none)
  | some d =>
    match s.copyOf q d, s.streams.rdBuf.at (64 * q + d) with
    | none, _ => (s, some Beat.nullBeat)
    | some _, [] => (s.count (Reg.STR_NULL_COUNT q), some Beat.nullBeat)
    | some c, b :: _ =>
      let s := ((s.copyPut { c with done := c.done + 1 }).onStreams fun m => { m with rdBuf := m.rdBuf.drop1 (64 * q + d) }).strLevel q
      let ended := b.last && (s.cdKind q d = 1 || ((s.streams.rdBuf.at (64 * q + d)).isEmpty &&
        s.streams.stages.any fun g => g.engine = q && g.desc = d && g.final && g.prep.isEmpty))
      (if ended then s.copyEnd q d else s, some b)

/-- Bytes of a send channel's region that are sent or read ahead. -/
def aheadAt (s : State) (p ch : Nat) : Nat :=
  s.get (Reg.SCM_CH_CUR_CUR p ch) + 64 * (s.streams.ahead.at (64 * p + ch)).length

/-- A send channel reads its region ahead into its buffer, whose 16 places it fills as far as the banks grant it accesses: how
many beats it has read by its slot is free (R331, R332, log entry 156). -/
def readAhead (s : State) (p ch : Nat) : State :=
  let at_ := s.aheadAt p ch
  let len := s.get (Reg.SCM_CH_LEN_LEN p ch)
  let most := min (16 - (s.streams.ahead.at (64 * p + ch)).length) ((len - at_ + 63) / 64)
  let n := s.nextFree 16 % (most + 1)
  let base := (if s.flag (Reg.SCM_CH_CFG_TARGET p ch) then tileBase (podTile p (s.get (Reg.SCM_CH_CFG_TILE p ch))) else podBase p)
    + s.get (Reg.SCM_CH_BASE_BASE p ch)
  let beats := (List.range n).map fun i =>
    Beat.ofBytes (s.rdBytes (base + at_ + 64 * i) 64) (at_ + 64 * i = 0) (len ≤ at_ + 64 * i + 64) false
  s.useFree.onStreams fun m => { m with ahead := m.ahead.put (64 * p + ch) (m.ahead.at (64 * p + ch) ++ beats) }

/-- The beat a pod's channel presents at L (R331, R335). -/
def podBeat (s : State) (p ch : Nat) : State × Option Beat :=
  if !s.flag (Reg.SCM_PI_CTRL_EN p) then (s, none)
  else
    let null := (s.count (Reg.SCM_PI_NULL_TX_COUNT p), some Beat.nullBeat)
    match s.get (Reg.SCM_CH_CFG_MODE p ch) with
    | 2 =>
      if !s.flag (Reg.SCM_CH_STAT_PENDING p ch) then null
      else
        let s := s.readAhead p ch
        match s.streams.ahead.at (64 * p + ch) with
        | [] => (s.count (Reg.SCM_PI_NULL_TX_COUNT p), some Beat.nullBeat)
        | b :: _ =>
          let s := (s.onStreams fun m => { m with ahead := m.ahead.drop1 (64 * p + ch) }).put (Reg.SCM_CH_CUR_CUR p ch)
            (s.get (Reg.SCM_CH_CUR_CUR p ch) + 64)
          (if b.last then (s.put (Reg.SCM_CH_STAT_PENDING p ch) 0).put (Reg.SCM_CH_STAT_DONE p ch) 1 else s, some b)
    | 3 =>
      let key := 64 * p + s.get (Reg.SCM_CH_CFG_DSLOT p ch)
      let rel := (if s.delivery.releases.contains (key, 0) then 1 else 0) + (if s.delivery.releases.contains (key, 1) then 2 else 0)
      let clear := fun (s : State) => s.onDelivery fun q => { q with releases := q.releases.filter fun x => x.1 ≠ key }
      match s.streams.requests.at (64 * p + ch) with
      | b :: _ =>
        let s := s.onStreams fun m => { m with requests := m.requests.drop1 (64 * p + ch) }
        (clear s, some (Beat.ofRequest (b.data ||| BitVec.ofNat 512 (rel * 2 ^ 8)).toNat))
      | [] =>
        let mLo := (s.rd8 ((s.desc p (s.get (Reg.SCM_CH_CFG_DSLOT p ch))).stageIdx + 0x16)).toNat
        if rel = 0 then null else (clear s, some (Beat.ofRequest (rel * 2 ^ 8 + mLo * 2 ^ 24)))
    | _ => (s, none)

/-- A beat arrives at an engine's edge in a slot (R328, R335). -/
def engineTakes (s : State) (q n : Nat) (b : Beat) : State :=
  if b.null then s
  else
    match (List.range 64).find? fun d => s.cdValid q d &&
        ((s.cdKind q d = 2 && s.dataSlot q d n) ||
          (s.cdKind q d = 3 && (s.circuitStart 72 (enginePort q).1 (enginePort q).2 n).any fun x => s.upSlot q d x.2)) with
    | none => s
    | some d =>
      match s.copyOf q d with
      | none => s
      | some c =>
        if b.poison then s.copyFail q d
        else if s.cdKind q d = 3 then s.stageRequest q d b
        else if 256 ≤ (s.streams.wrBuf.at q).length then
          (((s.count (Reg.STR_WR_DISCARD_COUNT q)).raise (Reg.STR_INT_EN q) 1).log .str q 0x3204 srcManager).copyFail q d
        else
          ((s.copyPut { c with taken := c.taken + 1 }).onStreams fun m => { m with
            wrBuf := m.wrBuf.push q (d, c.taken, b) }).strLevel q

/-- A beat of a staged chunk reaches the interface (R336). -/
def stageBeat (s : State) (p ch : Nat) (b : Beat) : State :=
  let n := s.get (Reg.SCM_CH_CFG_DSLOT p ch)
  let d := s.desc p n
  let chunks := (s.rd8 (d.stageIdx + 0x17)).toNat
  let half := chunks % 2
  let s := if b.first then ((s.put (Reg.SCM_CH_CUR_CUR p ch) 0).put (Reg.SCM_CH_STAT_PENDING p ch) 1).wr8 (d.stageIdx + 0x14 + half) 1
    else s
  let cur := s.get (Reg.SCM_CH_CUR_CUR p ch)
  let at_ := s.halfAt p d half
  let s := (s.wrBytes (at_ + cur) b.bytes).put (Reg.SCM_CH_CUR_CUR p ch) (cur + 64)
  if !b.last then s
  else if s.rd8 (at_ + 1) = s.rd8 (d.stageIdx + 0x16) then
    let s := ((s.put (Reg.SCM_CH_STAT_PENDING p ch) 0).put (Reg.SCM_CH_STAT_DONE p ch) 1).wr8 (d.stageIdx + 0x17)
      (BitVec.ofNat 8 (chunks + 1))
    (s.wr8 (d.stageIdx + 0x14 + half) 2).chunkTake p n half
  else s.channelFail p ch 2

/-- A beat routed to L reaches a pod's channel (R331). -/
def podTakes (s : State) (p ch : Nat) (b : Beat) : State :=
  if b.null || !s.flag (Reg.SCM_PI_CTRL_EN p) then s
  else
    let mode := s.get (Reg.SCM_CH_CFG_MODE p ch)
    if mode ≠ 1 ∧ mode ≠ 3 then s
    else if b.poison then s.channelFail p ch 1
    else if mode = 3 then s.stageBeat p ch b
    else
      let s := if b.first then (s.put (Reg.SCM_CH_CUR_CUR p ch) 0).put (Reg.SCM_CH_STAT_PENDING p ch) 1 else s
      if !s.flag (Reg.SCM_CH_STAT_PENDING p ch) then s
      else
        let cur := s.get (Reg.SCM_CH_CUR_CUR p ch)
        let base := (if s.flag (Reg.SCM_CH_CFG_TARGET p ch) then tileBase (podTile p (s.get (Reg.SCM_CH_CFG_TILE p ch))) else podBase p)
          + s.get (Reg.SCM_CH_BASE_BASE p ch)
        let s := if cur + 64 ≤ s.get (Reg.SCM_CH_LEN_LEN p ch) then s.wrBytes (base + cur) b.bytes else s
        let s := s.put (Reg.SCM_CH_CUR_CUR p ch) (cur + 64)
        if b.last then (s.put (Reg.SCM_CH_STAT_PENDING p ch) 0).put (Reg.SCM_CH_STAT_DONE p ch) 1 else s

/-- A write-buffer beat reaches DRAM; the LAST one completes the copy (R328, R345, R697). An engine writes no address of another
subchannel (R324). -/
def drainDone (s : State) (q : Nat) : State :=
  match s.streams.wrBuf.at q with
  | [] => s
  | (d, i, b) :: _ =>
    let s := s.onStreams fun m => { m with wrBuf := m.wrBuf.drop1 q }
    match s.copyOf q d with
    | none => s.strLevel q
    | some c =>
      let a := s.writeBase c + 64 * i
      let s := if s.engineReach q a then
        ((s.onMemories fun m => { m with poison := m.poison.filter fun x => x ≠ a }).wrBytes a b.bytes).add64
          (Reg.STR_WR_BYTES_LO q) 64
        else s
      let s := s.copyPut { c with done := c.done + 1 }
      if !b.last then s.strLevel q
      else
        let s := match s.cdClass q d with
          | 2 =>
            let p := s.cdPod q d
            let n := s.get (Reg.SCM_CH_CFG_DSLOT p (s.cdCh q d))
            let stamp := (c.start - 1) + s.get (Reg.DE_PL_DRIFT_USED_DRIFT p n) * 2 ^ 64 + (s.desc p n).proj * 2 ^ 96 + 2 ^ 112
            (s.wrLe (s.stampAddr c) 16 stamp).put (Reg.STR_WB_STATE_LAST_AREA q) c.area
          | 1 =>
            let n := s.ckptTile q d
            let others := s.streams.copies.any fun x => !(x.engine = q && x.desc = d) && s.cdClass x.engine x.desc = 1 &&
              s.cdKind x.engine x.desc = 2 && s.ckptTile x.engine x.desc = n
            if others then s else s.wrLe (s.stampAddr c) 16 ((c.start - 1) % 2 ^ 64 + n % 2 ^ 10 * 2 ^ 64 + 2 ^ 80)
          | _ => s
        s.copyEnd q d

/-! Routing (R314, R316, R319). -/

/-- An error on a link is a detection of that link; the inputs from an engine and from the pod's interface are no links
(R687). -/
def beatSuspect (s : State) (r p : Nat) (d : Detect) : State :=
  if p < 4 ∧ (neighbour r p).isSome then s.detect r (suspectId 2 (4 * r + p)) d else s

/-- What the ECC of a beat received at an input says (R314). -/
def beatEcc (s : State) (r p : Nat) (b : Beat) : Ecc → State × Beat
  | .clean => (s, b)
  | .corrected =>
    let s := (((s.count (Reg.SCM_ECC_CORR_COUNT r)).put (Reg.SCM_STATUS_CORR r) 1).raise (Reg.SCM_INT_EN r) 0).logOnce .scm r 0x3203 r
    (s.beatSuspect r p .beatCorrected, b)
  | .uncorrectable =>
    let s := (((s.count (Reg.SCM_ECC_UNCORR_COUNT r)).put (Reg.SCM_STATUS_POISON r) 1).raise (Reg.SCM_INT_EN r) 1).log .scm r 0x3202 r r p
    (s.beatSuspect r p .beatPoisoned, { b with poison := true })

/-- Discard a beat that no entry routes (R319, R351). -/
def unrouted (s : State) (r : Nat) : State :=
  (((s.count (Reg.SCM_UNROUTED_COUNT r)).put (Reg.SCM_STATUS_UNROUTED r) 1).raise (Reg.SCM_INT_EN r) 2).logOnce .scm r 0x3205 r

/-- Send a beat where the slot's entry routes it; while the halves are split none crosses the seam (R35, R316, R319, R322). -/
def routeBeat (s : State) (r c e input : Nat) (b : Beat) : State :=
  let o := routeOf e input
  if !s.flag (Reg.SCM_CTRL_EN r) then s.count (Reg.SCM_UNROUTED_COUNT r)
  else if o = 0 ∨ 6 ≤ o then s.unrouted r
  else
    let s := if b.null then s else s.add64 (Reg.SCM_BEATS_LO r) 1
    if o = 5 then s.podTakes (podOf r) (rxch e) b
    else
      match linkOut r (o - 1) with
      | some k =>
        if s.scmUp r (o - 1) && !(isSeam r (o - 1) && s.split) then
          let x := suspectId 2 (4 * r + (o - 1))
          let hop := if isSeam r (o - 1) then 5 else 1
          let sb :=
            if b.null then (s, b)
            else if s.injecting x 5 then s.injected.beatEcc (k / 4) (k % 4) b .corrected
            else if s.injecting x 6 then s.injected.beatEcc (k / 4) (k % 4) b .uncorrectable
            else (s, b)
          sb.1.onStreams fun m => { m with links := m.links.push k { sb.2 with tag := c + hop } }
        else s
      | none =>
        match engineAt r (o - 1) with
        | some q => s.engineTakes q (c % 1024) b
        | none => s

/-- One cycle of a port: the beats at its inputs go where the entry of its slot routes them (R315, R316). `ecc` names the inputs
whose beat has an error: N, E, S, W, from a link or at the edge from an engine, and L. A port whose clock is gated stands still
(R314, R629). -/
def beatCycle (s : State) (r : Nat) (ecc : List (Fin 5 × Ecc)) : State :=
  if s.get Reg.STEP_STATUS_PHASE = 0 ∨ s.get Reg.STEP_STATUS_PHASE = 7 ∨ s.coreGated r then s
  else
    let c := s.streams.cycle.at r
    let n := c % 1024
    let e := s.slotEntry r n
    let found := fun (p : Nat) => ((ecc.find? fun x => x.1.val = p).map fun x => x.2).getD .clean
    let enter := fun (s : State) (p : Nat) (b : Beat) => let (s, b) := s.beatEcc r p b (found p); s.routeBeat r c e p b
    let s := (List.range 4).foldl (fun (s : State) p =>
      let s := match s.streams.links.at (4 * r + p) with
        | b :: _ =>
          if b.tag ≤ c then
            enter (s.onStreams fun m => { m with links := m.links.drop1 (4 * r + p) }) p b
          else s
        | [] => s
      match engineAt r p with
      | some q =>
        if s.quiet r then s
        else
          match s.engineBeat q n with
          | (s, some b) => enter s p b
          | (s, none) => s
      | none => s) s
    let s :=
      if routeOf e 4 = 0 || s.quiet r then s
      else
        match s.podBeat (podOf r) (txch e) with
        | (s, some b) => enter s 4 b
        | (s, none) => s
    let s := s.onStreams fun m => { m with cycle := m.cycle.put r (c + 1) }
    (s.put (Reg.SCM_POS_SLOT r) ((c + 1) % 1024)).put (Reg.SCM_POS_FRAME r) (min 1023 ((c + 1) / 1024))

/-- The slot counters restart and a pending swap takes effect at a launch (R315, R320). -/
def streamsLaunch (s : State) : State :=
  let s := s.streams.cycle.foldl (fun s x => (s.put (Reg.SCM_POS_SLOT x.1) 0).put (Reg.SCM_POS_FRAME x.1) 0) s
  let s := s.onStreams fun m => { m with cycle := [] }
  if s.flag Reg.SCM_LD_STAT_SWAP_PEND then s.bankSwap else s

/-! Link failure (R322). -/

/-- A scheduled-mesh link goes down at its sending end: beats on it are lost and the copies over it fail (R322). -/
def scmDown (s : State) (r port : Nat) : State :=
  let lost := s.streams.copies.filter (s.copyUses r port)
  let routed := s.streams.active.any fun x => x.1 / 1024 = r && (List.range 5).any fun i => routeOf x.2 i = port + 1
  let s := s.put (Reg.SCM_STATUS_LINK_UP r) (s.get (Reg.SCM_STATUS_LINK_UP r) - bits (s.get (Reg.SCM_STATUS_LINK_UP r)) port 1 * 2 ^ port)
  let s := match linkOut r port with
    | some k => s.onStreams fun m => { m with links := m.links.put k [] }
    | none => s
  let s := if routed then s.log .scm r 0x3206 r r port else s
  lost.foldl (fun s c => (s.channelFail (s.cdPod c.engine c.desc) (s.cdCh c.engine c.desc) 3).copyFail c.engine c.desc) s

/-- SCM_LINK_FAIL: both directions of a link go down. -/
def scmLinkFail (s : State) (r port : Nat) : State :=
  let s := s.scmDown r port
  match neighbour r port with
  | some r' => s.scmDown r' (facing port)
  | none => s

/-! Copies and the step (R333, R346, R348). -/

/-- A copy that must be complete before quiescence of step `t` is pending (R333). -/
def copiesDue (s : State) (t : Nat) : Bool :=
  s.streams.copies.any fun c => s.cdClass c.engine c.desc ≠ 3 && c.start + s.cd c.engine c.desc 64 16 ≤ t

/-- Copies that a forced close of step `t` finds incomplete (R94, R348). -/
def copiesCut (s : State) (t : Nat) : State :=
  (s.streams.copies.filter fun c => s.cdClass c.engine c.desc ≠ 3 && c.start + s.cd c.engine c.desc 64 16 ≤ t).foldl
    (fun s c => s.copyFail c.engine c.desc) s

/-- Observation copies still pending at the close of their due step are abandoned (R346). -/
def obsAbandon (s : State) (t : Nat) : State :=
  (s.streams.copies.filter fun c => s.cdClass c.engine c.desc = 3 && c.start + s.cd c.engine c.desc 64 16 ≤ t).foldl
    (fun s c => ((s.count (Reg.STR_OBS_ABANDON_COUNT c.engine)).log .dbg 0 0x9201 srcManager).copyEnd
      c.engine c.desc) s

end State

/-- SCM_BEAT_ROUTE (R316). -/
def execScmBeatRoute (router : Fin 1152) (ecc : List (Fin 5 × Ecc)) (s : State) : Result :=
  s.done (s.beatCycle router.val ecc)

/-- SCM_CHECK (R320). -/
def execScmCheck (s : State) : Result := s.done s.checkStart

/-- SCM_CHECK_DONE (R321). -/
def execScmCheckDone (s : State) : Result := s.done s.checkEnd

/-- SCM_SWAP (R320). -/
def execScmSwap (s : State) : Result := s.done s.swapRequest

/-- SCM_LINK_FAIL (R322). -/
def execScmLinkFail (router : Fin 1152) (port : Fin 4) (s : State) : Result := s.done (s.scmLinkFail router.val port.val)

/-- WRITE_DRAIN_COMPLETE (R328). -/
def execWriteDrainComplete (engine : Fin 16) (s : State) : Result := s.done (s.drainDone engine.val)

/-- UNION_RUNS_READY (R339). -/
def execUnionRunsReady (pod : Fin 72) (s : State) : Result := s.done (s.unionReady pod.val)

end Sys2Proof.Machine
end

