-- ==== Sys2Proof/Machine/Memory.lean ====
section
/-! DEFINITION. The memories: scrubbing of SRAM, clearing at power-up, and the external DRAM with its retries, page and
subchannel retirement, re-forming of the map, patrol, full scrub and background fill (R407 to R428). -/

namespace Sys2Proof.Machine

/-- Rows of each bank of a memory (R397, R398, R403, R411). -/
def rowsOf : Site → Nat
  | .tileData _ => 512
  | .tileInstr _ => 1024
  | .pod _ => 512
  | .manager => 8192

/-- Banks of a memory. -/
def banksOf : Site → Nat
  | .tileData _ => 20
  | .tileInstr _ => 4
  | .pod _ => 32
  | .manager => 32

/-- The number of a memory among all that are scrubbed. -/
def siteKey : Site → Nat
  | .tileData t => t.val
  | .tileInstr t => 1152 + t.val
  | .pod p => 2304 + p.val
  | .manager => 2376

namespace State

/-! Scrubbing SRAM (R407, R409). -/

/-- The scrubber of a memory is enabled; the manager's has no enable. -/
def scrubOn (s : State) : Site → Bool
  | .tileData t => s.flag (Reg.FLT_MEM_CTRL_SCRUB_EN t)
  | .tileInstr t => s.flag (Reg.FLT_MEM_CTRL_SCRUB_EN t)
  | .pod p => s.flag (Reg.POD_CTRL_SCRUB_EN p)
  | .manager => true

/-- Count an error the scrubber finds. -/
def scrubFound (s : State) (site : Site) (bank row : Nat) (fatal : Bool) : State :=
  match site with
  | .tileData t => s.tileError t bank row fatal
  | .tileInstr t => s.tileError t (20 + bank) row fatal
  | .pod p => s.podError p bank row fatal
  | .manager => s.managerError bank row fatal

/-- Rows that the scrubber of a memory has read of a bank. -/
def scrubRead (s : State) (site : Site) (bank : Nat) : Nat := s.memories.scrubRows.at (64 * siteKey site + bank)

/-- Complete passes over every bank of a memory. -/
def scrubPasses (s : State) (site : Site) : Nat :=
  (List.range (banksOf site)).foldl (fun m b => min m (s.scrubRead site b / rowsOf site)) (s.scrubRead site 0 / rowsOf site)

/-- SCRUB_ROW: the next row of a bank is read. A corrected row is written back with the data it holds, which changes no
byte (R409). -/
def scrubRow (s : State) (site : Site) (bank : Nat) (ecc : Ecc) : State :=
  if banksOf site ≤ bank || !s.scrubOn site then s
  else
    let n := s.scrubRead site bank
    let before := s.scrubPasses site
    let s := match ecc with
      | .clean => s
      | .corrected => s.scrubFound site bank (n % rowsOf site) false
      | .uncorrectable => s.scrubFound site bank (n % rowsOf site) true
    let s := s.onMemories fun m => { m with scrubRows := m.scrubRows.put (64 * siteKey site + bank) (n + 1) }
    if s.scrubPasses site = before then s
    else match site with
      | .tileData t => s.count (Reg.FLT_MEM_SCRUB_PASS_COUNT t)
      | .pod p => s.count (Reg.POD_SCRUB_PASS_COUNT p)
      | _ => s

/-! Subchannels (R425, R426). -/

/-- A subchannel is retired: its stream engine stops and every copy that uses it fails (R425). -/
def subRetire (s : State) (q : Nat) : State :=
  if s.subRetired q then s
  else
    let s := s.put (Reg.DDR_SUB_STAT_RETIRED (q / 4) (q % 4)) 1
    let mine := s.streams.copies.filter fun c => c.engine = q
    let s := mine.foldl (fun s c => s.copyFail c.engine c.desc) s
    (s.put (Reg.STR_CTRL_EN q) 0).log .ddr (q / 4) 0x2206 srcManager

/-- A report of a subchannel (R423, R424). -/
def subReport (s : State) (q : Nat) : State := s.fileReport edgeNode (suspectId 4 q)

/-- The page of an offset begins to move to a spare page; a full spare table retires the subchannel (R424, R425). -/
def pageRetire (s : State) (q page : Nat) : State :=
  let u := q / 4
  let i := q % 4
  if s.memories.copies.any fun c => c.1 = q && c.2.1 = page then s
  else
    let e := s.get (Reg.DDR_SUB_STAT_SPARES_USED u i)
    if e < 256 then
      let s := ((s.put ⟨Reg.DDR_SPARE u (256 * i + e), 0, 22⟩ page).put ⟨Reg.DDR_SPARE u (256 * i + e), 31, 1⟩ 1).put
        (Reg.DDR_SUB_STAT_SPARES_USED u i) (e + 1)
      s.onMemories fun m => { m with copies := m.copies ++ [(q, page, e)] }
    else ((s.log .ddr u 0x2205 srcManager).subReport q).subRetire q

/-! Errors in DRAM (R422, R423). -/

/-- The place of the last error of a subchannel. -/
def dramLast (s : State) (q off : Nat) : State := s.put64 (Reg.DDR_SUB_LAST_LO (q / 4) (q % 4)) off

/-- A corrected burst (R422). -/
def burstFixed (s : State) (q off : Nat) (dev : Option (Fin 5)) : State :=
  let u := q / 4
  let i := q % 4
  let s := (((s.count (Reg.DDR_SUB_CE_COUNT u i)).dramLast q off)).logOnceBy q .ddr u 0x2201 srcManager
  match dev with
  | some d => (s.count (Reg.DDR_SUB_DEVCORR_COUNT u i)).put (Reg.DDR_SUB_STAT_LAST_DEV u i) d.val
  | none => s

/-- The second read of an uncorrectable burst: cleared, or poisoned and its page retired (R423). The flag says that the
data is poisoned. -/
def burstRetry (s : State) (q off : Nat) (again : Burst) : State × Bool :=
  let u := q / 4
  let i := q % 4
  let s := s.dramLast q off
  match again with
  | .uncorrectable =>
    let s := (s.count (Reg.DDR_SUB_UE_COUNT u i)).log .ddr u 0x2203 srcManager
    ((s.subReport q).pageRetire q (off / 8192), true)
  | _ => ((s.count (Reg.DDR_SUB_RETRY_COUNT u i)).log .ddr u 0x2202 srcManager, false)

/-- A burst holds the poison pattern (R424). -/
def poisoned (s : State) (a : Nat) : Bool := s.memories.poison.contains (a / 64 * 64)

/-- A read of a burst with its retry (R422, R423); every read of a burst that holds the poison pattern is
uncorrectable. The flag says that the data is poisoned. -/
def burstRead (s : State) (a : Nat) (first again : Burst) : State × Bool :=
  match s.dramAt a with
  | none => (s, true)
  | some (q, off) =>
    if s.subRetired q then (s, true)
    else if s.poisoned a then s.burstRetry q off .uncorrectable
    else match first with
      | .clean => (s, false)
      | .corrected dev => (s.burstFixed q off dev, false)
      | .uncorrectable => s.burstRetry q off again

/-- The copy of a page ends: accesses go to the spare page; the bursts that no read recovered hold the poison pattern
(R424). -/
def pageCopied (s : State) (q : Nat) (bad : List (Fin 128)) : State :=
  match s.memories.copies.find? fun c => c.1 = q with
  | none => s
  | some (_, page, e) =>
    let marks := (bad.map fun b => s.dramAddr q (8192 * page + 64 * b.val)).filter fun a => !s.poisoned a
    (s.onMemories fun m => { m with
      copies := m.copies.filter fun c => c ≠ (q, page, e), poison := m.poison ++ marks }).log .ddr (q / 4) 0x2204 srcManager

/-! The map (R426). -/

/-- The first slice that a re-form moves, where one does. -/
def firstMoved : Nat → List Nat → List Nat → Option Nat
  | _, [], [] => none
  | k, a :: as, b :: bs => if a = b then firstMoved (k + 1) as bs else some k
  | k, _, _ => some k

/-- MAP_REFORM: the map over the subchannels that are not retired; the contents at every address that moves are lost,
and read as free values until they are written (R426). -/
def mapReform (s : State) : State :=
  if s.running || (List.range 16).any fun q => s.flag (Reg.STR_CTRL_EN q) then s.put (Reg.DDR_MAP_STAT_CFG_ERR 0) 1
  else
    let old := s.liveSubs
    let new := old.filter fun q => !s.subRetired q
    let mask := new.foldl (fun m q => m + 2 ^ q) 0
    let s := (s.put (Reg.DDR_MAP_STAT_LIVE 0) mask).put (Reg.DDR_MAP_STAT_SLICES 0) (new.length * s.slices)
    let s := match firstMoved 0 old new with
      | none => s
      | some k =>
        let a := dramBase + k * 2 ^ 30
        { s.useFree with
          mem := s.mem.filter fun e => e.1 < a || 0x9000000000 ≤ e.1
          memories := { s.memories with lost := (a, s.freeCount) :: s.memories.lost, poison := s.memories.poison.filter (· < a) } }
    s.log .ddr 0 0x2207 srcManager

/-! Patrol, full scrub and fill (R427, R428). -/

/-- Bursts of a subchannel. -/
def subBursts (s : State) : Nat := s.slices * 2 ^ 24

/-- A subchannel is live and its devices answer. -/
def subReadable (s : State) (q : Nat) : Bool :=
  s.liveSubs.contains q && !s.subRetired q && !s.flag (Reg.DDR_STATUS_SELF_REFRESH (q / 4))

/-- PATROL_READ: the patrol of a subchannel reads its next burst (R427), but for a test of its quad
(R603). A page being retired is left to its copy (R431). -/
def patrolRead (s : State) (q : Nat) (first again : Burst) : State :=
  if !(s.subReadable q && s.flag (Reg.DDR_SCRUB_CFG_EN (q / 4))) || s.flag (Reg.DDR_MT_STAT_BUSY (q / 4)) then s
  else
    let n := s.memories.patrol.at q
    let moving := s.memories.copies.any fun c => c.1 = q && c.2.1 = n / 128
    let s := if moving then s else (s.burstRead (s.dramAddr q (64 * n)) first again).1
    if n + 1 < s.subBursts then s.onMemories fun m => { m with patrol := m.patrol.put q (n + 1) }
    else (s.onMemories fun m => { m with patrol := m.patrol.put q 0 }).count (Reg.DDR_SUB_SCRUB_PASSES (q / 4) (q % 4))

/-- The subchannels that the full scrub covers. -/
def scrubSubs (s : State) : List Nat := (List.range 16).filter fun q => s.memories.scrubQuads.contains (q / 4) && s.subReadable q

/-- FULL_SCRUB_START: by DDR_SCRUB_CFG.FULL of a quad, or by 0x2303:01 for every quad (R427, R552). -/
def fullStart (s : State) (quad : Option (Fin 4)) : State :=
  if s.busy 5 then (if quad.isNone then s.refusal 0x17 0x2303 1 else s)
  else
    let quads := match quad with
      | some q => [q.val]
      | none => List.range 4
    let s := s.onMemories fun m => { m with scrubQuads := quads, full := [] }
    s.progStart 5 (64 * s.subBursts * s.scrubSubs.length)

/-- FULL_SCRUB_READ: the full scrub reads the next burst of a subchannel (R427). -/
def fullRead (s : State) (q : Nat) (first again : Burst) : State :=
  let n := s.memories.full.at q
  if !(s.busy 5 && s.scrubSubs.contains q && n < s.subBursts) then s
  else
    let moving := s.memories.copies.any fun c => c.1 = q && c.2.1 = n / 128
    let s := if moving then s else (s.burstRead (s.dramAddr q (64 * n)) first again).1
    let s := (s.onMemories fun m => { m with full := m.full.put q (n + 1) }).progAdd 5 64
    if s.scrubSubs.all fun i => s.subBursts ≤ s.memories.full.at i then s.progEnd 5 2 else s

/-- Granules of 1 MiB under the map. -/
def granules (s : State) : Nat := s.liveSubs.length * s.slices * 1024

/-- Background fill is in progress. -/
def filling (s : State) : Bool := s.flag (Reg.DDR_STATUS_FILLING 0)

/-- FILL_GRANULE: the next granule is filled. An unfilled granule already reads as zeros, and a write to one waits for its
own fill, so no byte changes (R428). -/
def fillGranule (s : State) : State :=
  if !s.filling then s
  else
    let n := s.memories.fillNext + 1
    let s := s.onMemories fun m => { m with fillNext := n }
    if n < s.granules then s
    else ((List.range 4).foldl (fun s u => s.put (Reg.DDR_STATUS_FILLING u) 0) s).log .ddr 0 0x2302 srcManager

end State

/-- SCRUB_ROW (R409). -/
def execScrubRow (site : Site) (bank : Fin 32) (ecc : Ecc) (s : State) : Result := s.done (s.scrubRow site bank.val ecc)

/-- DRAM_READ_RETRY (R423). -/
def execDramReadRetry (burst : Nat) (again : Burst) (s : State) : Result :=
  s.done (s.burstRead burst .uncorrectable again).1

/-- DRAM_FETCH_COMPLETE: the data of a burst arrives for a copy, poisoned where its retry failed (R327, R423). -/
def execDramFetchComplete (engine : Fin 16) (desc : Fin 64) (burst : Nat) (first again : Burst) (s : State) : Result :=
  let r := s.burstRead burst first again
  s.done (r.1.fetchDone engine.val desc.val burst r.2)

/-- PAGE_COPY_DONE (R424). -/
def execPageCopyDone (sub : Fin 16) (bad : List (Fin 128)) (s : State) : Result := s.done (s.pageCopied sub.val bad)

/-- SUBCHANNEL_RETIRE (R425). -/
def execSubchannelRetire (sub : Fin 16) (s : State) : Result := s.done (s.subRetire sub.val)

/-- MAP_REFORM (R426). -/
def execMapReform (s : State) : Result := s.done s.mapReform

/-- PATROL_READ (R427). -/
def execPatrolRead (sub : Fin 16) (first again : Burst) (s : State) : Result := s.done (s.patrolRead sub.val first again)

/-- FULL_SCRUB_START (R427). -/
def execFullScrubStart (quad : Option (Fin 4)) (s : State) : Result := s.done (s.fullStart quad)

/-- FULL_SCRUB_ABORT (R427). -/
def execFullScrubAbort (s : State) : Result := s.done (if s.busy 5 then s.progEnd 5 4 else s)

/-- FULL_SCRUB_READ (R427). -/
def execFullScrubRead (sub : Fin 16) (first again : Burst) (s : State) : Result := s.done (s.fullRead sub.val first again)

/-- FILL_GRANULE (R428). -/
def execFillGranule (s : State) : Result := s.done s.fillGranule

end Sys2Proof.Machine
end

