-- ==== Sys2Proof/Machine/Sensor.lean ====
section
/-! DEFINITION. Sensor inputs: stream contexts, encoders and injection rings, camera receivers, Ethernet ports and the
Sensor Event Link (R439 to R463, R774). -/

namespace Sys2Proof.Machine

/-- The source class of an item (R63). -/
inductive SourceClass where
  | none | frame | event | sample
  deriving DecidableEq, Repr

/-- The class of an item. -/
def classOf : HubItem → SourceClass
  | .frame _ => .frame
  | .event _ _ => .event
  | .sample _ _ => .sample

/-- Which encoders suit which source (R63). -/
def suits (enc : Nat) (c : SourceClass) : Bool :=
  match enc, c with
  | 0, .event => true
  | 1, .frame => true
  | 2, .sample => true
  | 3, .frame | 3, .sample => true
  | 4, .frame | 4, .sample => true
  | _, _ => false

/-- The big-endian number of `n` bytes at `o` of a frame. -/
def beAt (l : List Byte) (o n : Nat) : Nat := ((l.drop o).take n).foldl (fun a b => a * 256 + b.toNat) 0

/-- The little-endian number of `n` bytes at `o`. -/
def leAt (l : List Byte) (o n : Nat) : Nat := ofLe ((l.drop o).take n)

/-- The ones' complement sum of the 16-bit words of a byte string. -/
def onesSum : List Byte → Nat
  | [] => 0
  | [a] => a.toNat * 256
  | a :: b :: r => let x := a.toNat * 256 + b.toNat + onesSum r; x % 65536 + x / 65536

namespace State

/-- Change the hub. -/
def onHub (s : State) (f : Hub → Hub) : State := { s with hub := f s.hub }

/-- Flow filter `f` of port `p`. -/
def flowReg (p f : Nat) : Nat := if p = 0 then Reg.SEN_ETH_FLOW0 f else Reg.SEN_ETH_FLOW1 f

/-- The source address of a flow filter. -/
def flowSrc (p f : Nat) : Nat := if p = 0 then Reg.SEN_ETH_FLOW_SRC0 f else Reg.SEN_ETH_FLOW_SRC1 f

/-- The loss counter of a flow filter. -/
def flowLost (p f : Nat) : Nat := if p = 0 then Reg.SEN_ETH_FLOW_LOST0 f else Reg.SEN_ETH_FLOW_LOST1 f

/-- The source class of a binding code (R439). -/
def bindClass (s : State) (code : Nat) : SourceClass :=
  match bits code 12 4 with
  | 1 => if 4 ≤ bits code 8 4 ∨ 8 ≤ bits code 0 8 then .none else if bits code 2 1 = 0 then .frame else .event
  | 2 =>
    if 2 ≤ bits code 8 4 ∨ 16 ≤ bits code 0 8 then .none
    else match s.get ⟨flowReg (bits code 8 4) (bits code 0 4), 16, 2⟩ with
    | 1 => .event
    | 2 => .sample
    | _ => .none
  | 3 => if 32 ≤ bits code 0 8 then .none else if bits code 4 1 = 0 then .event else .sample
  | _ => .none

/-- Input mode REPLAY (R54). -/
def replaying (s : State) : Bool := s.flag Reg.STEP_CTRL_INPUT

/-! Regions of interest and elements (R447). -/

/-- BIN of a context. -/
def binOf (s : State) (n : Nat) : Nat := 2 ^ s.get (Reg.SEN_CTX_ROI1_BIN n)

/-- Elements across a region. -/
def roiCols (s : State) (n : Nat) : Nat := s.get (Reg.SEN_CTX_ROI1_W n) / s.binOf n

/-- Elements of a context: those of its region, or the 64 lanes. -/
def elements (s : State) (n : Nat) (c : SourceClass) : Nat :=
  match c with
  | .frame => s.roiCols n * (s.get (Reg.SEN_CTX_ROI1_H n) / s.binOf n)
  | .event => 65536
  | _ => 64

/-- The bytes of the lookup table that precede the state of a context. -/
def lutBytes (s : State) (n : Nat) (c : SourceClass) : Nat :=
  if c = .frame ∧ s.flag (Reg.SEN_CTX_CTRL_LUT_EN n) then 256 else 0

/-- Bytes that the encoder state of a context needs (R447). -/
def stateNeed (s : State) (n : Nat) (c : SourceClass) : Nat :=
  let e := s.elements n c
  s.lutBytes n c + match s.get (Reg.SEN_CTX_CTRL_ENC n) with
    | 1 => e
    | 2 => 4 * e
    | 3 => 2 * e
    | 4 => e
    | _ => 0

/-- The address of the encoder state of a context, past its table. -/
def stateAt (s : State) (n : Nat) (c : SourceClass) : Nat :=
  sramBase + 16 * s.get (Reg.SEN_CTX_STATE_BASE_VALUE n) + s.lutBytes n c

/-- The binned and looked-up value of element `e` of a frame (R446, R447). -/
def pixel (s : State) (n : Nat) (lines : List (List Nat)) (e : Nat) : Nat :=
  let b := s.binOf n
  let cols := max 1 (s.roiCols n)
  let x0 := s.get (Reg.SEN_CTX_ROI0_X0 n) + e % cols * b
  let y0 := s.get (Reg.SEN_CTX_ROI0_Y0 n) + e / cols * b
  let sum := (List.range b).foldl (fun a y => (List.range b).foldl (fun a x =>
    a + (lines.getD (y0 + y) []).getD (x0 + x) 0) a) 0
  let v := (sum >>> (2 * s.get (Reg.SEN_CTX_ROI1_BIN n))) % 256
  if s.flag (Reg.SEN_CTX_CTRL_LUT_EN n) then (s.rd8 (sramBase + 16 * s.get (Reg.SEN_CTX_STATE_BASE_VALUE n) + v)).toNat
  else v

/-- v8 of a sample (R446). -/
def sample8 (s : State) (n value : Nat) : Nat :=
  let v : Int := (sext 16 value - sext 16 (s.get (Reg.SEN_CTX_P1_OFF n))) * (s.get (Reg.SEN_CTX_P1_MUL n) : Int)
  (max 0 (min 255 (v / (2 ^ s.get (Reg.SEN_CTX_P1_SH n) : Nat)))).toNat

/-! Injection rings (R441, R442). -/

/-- The address of entry `i` of a ring. -/
def ringAddr (s : State) (n i : Nat) : Nat :=
  sramBase + 16 * s.get (Reg.SEN_CTX_RING_BASE_VALUE n) + 8 * (i % max 1 (s.get (Reg.SEN_CTX_RING_LEN_VALUE n)))

/-- The slot of a record injected at a step (R109, R442). -/
def hubSlot (s : State) (step : Nat) : Nat :=
  let w := s.get Reg.STEP_WINDOW_W
  if w = 0 then 0 else (((step : Int) - 1 - (s.get64 Reg.STEP_WIN_BASE_LO : Int)) % (w : Int)).toNat

/-- A record of address `a` and graded value `g` joins the ring of a context for a step (R441, R442). -/
def hubRecord (s : State) (n step a g : Nat) : State :=
  let fill := s.hub.ringFill.at n
  if s.get (Reg.SEN_CTX_RING_LEN_VALUE n) ≤ fill then
    (s.count (Reg.SEN_CTX_DROP_RING_COUNT n)).logOnceBy n .sen 0 0x5402 srcManager
  else
    let r := mkRecord ((s.get (Reg.SEN_CTX_AXON_AXON_BASE n) + a) % 2 ^ 24) g (s.hubSlot step)
    (s.wrLe (s.ringAddr n (s.hub.ringHead.at n + fill)) 8 (r + step % 256 * 2 ^ 48)).onHub fun h =>
      { h with ringFill := h.ringFill.put n (fill + 1) }

/-- The entries of a context's ring are discarded (R444, R774). -/
def ringDiscard (s : State) (n : Nat) : State :=
  (s.count (Reg.SEN_CTX_DROP_OFF_COUNT n) (s.hub.ringFill.at n)).onHub fun h =>
    { h with ringFill := h.ringFill.put n 0, ringHead := h.ringHead.put n 0 }

/-! Encoders (R446). -/

/-- An address with its polarity. -/
def polAddr (s : State) (n e pol : Nat) : Nat := if s.flag (Reg.SEN_CTX_CTRL_POL_SPLIT n) then 2 * e + pol else e

/-- Temporal contrast of one element. -/
def contrast (s : State) (n step e v : Nat) : State :=
  let a := s.stateAt n .frame + e
  let d : Int := (v : Int) - ((s.rd8 a).toNat : Int)
  let t : Int := (max (s.get (Reg.SEN_CTX_P0_TH n)) 1 : Nat)
  let g := if s.flag (Reg.SEN_CTX_CTRL_GRADED n) then min 255 d.natAbs else 1
  if t ≤ d then (s.wrLe a 1 v).hubRecord n step (s.polAddr n e 1) g
  else if t ≤ -d then (s.wrLe a 1 v).hubRecord n step (s.polAddr n e 0) g
  else s

/-- Level crossing of one lane. -/
def crossing (s : State) (n step lane value : Nat) : State :=
  let a := s.stateAt n .sample + 4 * lane
  let v := sext 16 value
  let d : Int := (s.get (Reg.SEN_CTX_P0_TH n) : Nat)
  if lane ∉ s.hub.primed.at n then
    (s.wrLe a 4 (toBits 32 v)).onHub fun h => { h with primed := h.primed.push n lane }
  else if d = 0 then s
  else
    let ref := sext 32 (s.rdLe a 4)
    if d ≤ v - ref then
      let k := (v - ref) / d
      (s.wrLe a 4 (toBits 32 (ref + k * d))).hubRecord n step (2 * lane) (min 255 k.toNat)
    else if d ≤ ref - v then
      let k := (ref - v) / d
      (s.wrLe a 4 (toBits 32 (ref - k * d))).hubRecord n step (2 * lane + 1) (min 255 k.toNat)
    else s

/-- The rate and direct encoders keep the latest value of an element; a rate element is the value below its accumulator
(log entry 18). -/
def latest (s : State) (n : Nat) (c : SourceClass) (e v : Nat) : State :=
  if s.get (Reg.SEN_CTX_CTRL_ENC n) = 3 then s.wrLe (s.stateAt n c + 2 * e) 1 v
  else s.wrLe (s.stateAt n c + e) 1 v

/-- An item with its step goes through the encoder of its context (R446). -/
def encode (s : State) (n step : Nat) (item : HubItem) : State :=
  let enc := s.get (Reg.SEN_CTX_CTRL_ENC n)
  match item with
  | .event addr pol => s.hubRecord n step (s.polAddr n addr pol) 1
  | .sample lane value =>
    if enc = 2 then s.crossing n step lane value else s.latest n .sample lane (s.sample8 n value)
  | .frame lines =>
    let es := List.range (s.elements n .frame)
    if enc ≠ 1 then es.foldl (fun s e => s.latest n .frame e (s.pixel n lines e)) s
    else if (s.hub.primed.at n).isEmpty then
      (es.foldl (fun s e => s.wrLe (s.stateAt n .frame + e) 1 (s.pixel n lines e)) s).onHub fun h =>
        { h with primed := h.primed.push n 0 }
    else es.foldl (fun s e => s.contrast n step e (s.pixel n lines e)) s

/-- The records of a rate or direct context at the launch of a step. -/
def emitLatest (s : State) (n step : Nat) : State :=
  let enc := s.get (Reg.SEN_CTX_CTRL_ENC n)
  let c := s.bindClass (s.get (Reg.SEN_CTX_BIND_CODE n))
  if enc = 3 then
    (List.range (s.elements n c)).foldl (fun s e =>
      let a := s.stateAt n c + 2 * e
      let acc := (s.rd8 (a + 1)).toNat + (s.rd8 a).toNat
      if 256 ≤ acc then (s.wrLe (a + 1) 1 (acc - 256)).hubRecord n step e 1 else s.wrLe (a + 1) 1 acc) s
  else if enc = 4 then
    (List.range (s.elements n c)).foldl (fun s e =>
      let a := s.stateAt n c + e
      let v := (s.rd8 a).toNat
      if v = 0 then s else (s.wrLe a 1 0).hubRecord n step e v) s
  else s

/-! Items (R104 to R106, R439, R440). -/

/-- The launch of the next step is armed. -/
def launchArmed (s : State) : Bool :=
  s.running && (s.get Reg.STEP_STATUS_PHASE = 1 || s.get Reg.STEP_STATUS_PHASE = 4)

/-- The step whose injection is the next to begin. -/
def nextInjection (s : State) : Nat :=
  if s.running && (s.get Reg.STEP_STATUS_PHASE = 2 || s.get Reg.STEP_STATUS_PHASE = 3) then s.stepNum + 1 else s.stepNum

/-- The launch that decides the step of τ is not known yet. -/
def tooEarly (s : State) (tau : Nat) : Bool :=
  s.running && if s.launchArmed then s.get64 Reg.STEP_NEXT_LAUNCH_LO ≤ tau else s.now < tau

/-- An item of an enabled context: out of range, kept until its step is known, or encoded, late where the injection of
its step has begun (R104 to R106). -/
def placeItem (s : State) (n tau : Nat) (item : HubItem) : State :=
  let last := if s.launchArmed then s.get64 Reg.STEP_NEXT_LAUNCH_LO else s.get64 Reg.STEP_LAST_LAUNCH_LO
  if last + 64 * s.get Reg.STEP_PERIOD_P < tau then s.count (Reg.SEN_CTX_RANGE_COUNT n)
  else if s.tooEarly tau then s.onHub fun h => { h with held := h.held ++ [(n, tau, item)] }
  else
    let s := if tau < s.get64 Reg.STEP_LAST_LAUNCH_LO then s.count (Reg.SEN_CTX_LATE_COUNT n) else s
    s.encode n s.nextInjection item

/-- An item that its context takes: not with the hub off or replaying, and not by a disabled context (R444, R445, R774). -/
def takeItem (s : State) (n tau : Nat) (item : HubItem) : State :=
  if !s.flag Reg.SEN_CTRL_EN || s.replaying then s
  else if !s.flag (Reg.SEN_CTX_CTRL_EN n) then s.count (Reg.SEN_CTX_DROP_OFF_COUNT n)
  else s.placeItem n tau item

/-- Kept items whose launch is known now (at an arming, R104). -/
def placeHeld (s : State) : State :=
  s.hub.held.foldl (fun s x => s.takeItem x.1 x.2.1 x.2.2) (s.onHub fun h => { h with held := [] })

/-- The context that a source's items go to: the lowest enabled one bound to it, else the lowest bound (R439). -/
def boundTo (s : State) (code : Nat) : Option Nat :=
  let l := (List.range 32).filter fun n => s.get (Reg.SEN_CTX_BIND_CODE n) = code
  (l.find? fun n => s.flag (Reg.SEN_CTX_CTRL_EN n)).or l.head?

/-- An item arrives from a source (R439, R444, R774). -/
def hubItem (s : State) (code tau : Nat) (item : HubItem) : State :=
  if !s.flag Reg.SEN_CTRL_EN || s.replaying then s
  else match s.boundTo code with
    | none => s
    | some n =>
      if s.flag (Reg.SEN_CTX_CTRL_EN n) ∧
          (s.bindClass code ≠ classOf item ∨ !suits (s.get (Reg.SEN_CTX_CTRL_ENC n)) (classOf item)) then
        s.count (Reg.SEN_CTX_DROP_KIND_COUNT n)
      else s.takeItem n tau item

/-- A word of an event or sample stream: its time follows the word before it (R440, R458). `codeOf` gives the binding
code of an event (0) or a sample (1), and `bad` counts an unassigned word. -/
def hubWords (s : State) (codeOf : Nat → Nat) (bad : State → State) : (tau : Nat) → List Nat → State × Nat
  | tau, [] => (s, tau)
  | tau, w :: ws =>
    let tau := tau + 8 * bits w 0 8
    match bits w 30 2 with
    | 0 => (s.hubItem (codeOf 0) tau (.event (bits w 14 16) (bits w 13 1))).hubWords codeOf bad tau ws
    | 1 => (s.hubItem (codeOf 1) tau (.sample (bits w 24 6) (bits w 8 16))).hubWords codeOf bad tau ws
    | 2 => s.hubWords codeOf bad (tau + 8 * 256 * bits w 8 22) ws
    | _ => (bad s).hubWords codeOf bad tau ws

/-! Enabling contexts (R444, R448). -/

/-- Two ranges of bytes meet. -/
def meets (a al b bl : Nat) : Bool := 0 < al && 0 < bl && decide (a < b + bl) && decide (b < a + al)

/-- The state region and the ring of a context, as offset and length. -/
def ctxRegions (s : State) (n : Nat) : List (Nat × Nat) :=
  [(16 * s.get (Reg.SEN_CTX_STATE_BASE_VALUE n), s.get (Reg.SEN_CTX_STATE_LEN_VALUE n)),
   (16 * s.get (Reg.SEN_CTX_RING_BASE_VALUE n), 8 * s.get (Reg.SEN_CTX_RING_LEN_VALUE n))]

/-- The addresses that the encoder of a context can form. -/
def addresses (s : State) (n : Nat) (c : SourceClass) : Nat :=
  let e := s.elements n c
  match s.get (Reg.SEN_CTX_CTRL_ENC n) with
  | 2 => 2 * e
  | 0 | 1 => if s.flag (Reg.SEN_CTX_CTRL_POL_SPLIT n) then 2 * e else e
  | _ => e

/-- The first failure of R448, 0 where there is none. -/
def streamCheck (s : State) (n : Nat) : Nat :=
  let c := s.bindClass (s.get (Reg.SEN_CTX_BIND_CODE n))
  let mine := s.ctxRegions n
  let others := ((List.range 32).filter fun m => m ≠ n && s.flag (Reg.SEN_CTX_CTRL_EN m)).flatMap s.ctxRegions
  let w := s.get (Reg.SEN_CTX_ROI1_W n)
  let h := s.get (Reg.SEN_CTX_ROI1_H n)
  if !suits (s.get (Reg.SEN_CTX_CTRL_ENC n)) c then 1
  else if mine.any fun r => sramBytes < r.1 + r.2 || others.any fun o => meets r.1 r.2 o.1 o.2 then 2
  else if s.get (Reg.SEN_CTX_STATE_LEN_VALUE n) < s.stateNeed n c then 3
  else if c = .frame ∧ (w % s.binOf n ≠ 0 ∨ h % s.binOf n ≠ 0 ∨ 65536 < s.elements n c) then 4
  else if 4095 < s.get (Reg.SEN_CTX_MCAST_MC_BASE n) + (s.addresses n c - 1) >>> s.get (Reg.SEN_CTX_MCAST_MC_SHIFT n) then 5
  else 0

/-- STREAM_CONTEXT_ENABLE: a write of SEN_CTX_CTRL with EN 1. -/
def ctxEnable (s : State) (n : Nat) (v : Word) : State :=
  let was := s.flag (Reg.SEN_CTX_CTRL_EN n)
  let s := s.writeOnly (Reg.SEN_CTX_CTRL n) v fun f => f.lo ≠ 0
  match s.streamCheck n with
  | 0 =>
    if was then s
    else (s.put (Reg.SEN_CTX_CTRL_EN n) 1).onHub fun h => { h with primed := h.primed.put n [] }
  | e => s.put (Reg.SEN_CTX_STATUS_ERR n) e

/-- STREAM_CONTEXT_DISABLE: a write of SEN_CTX_CTRL with EN 0. -/
def ctxDisable (s : State) (n : Nat) (v : Word) : State := (s.writePlain (Reg.SEN_CTX_CTRL n) (setF v 0 1 0)).ringDiscard n

/-- HUB_ENABLE_WRITE: a write of SEN_CTRL. -/
def hubWrite (s : State) (v : Word) : State :=
  let s := s.writePlain Reg.SEN_CTRL v
  if s.flag Reg.SEN_CTRL_EN then s else (List.range 32).foldl (fun s n => s.ringDiscard n) s

/-! Injection at a launch (R443 to R445, R103). -/

/-- Step `e`, by its low 8 bits, is `t` or earlier. -/
def due8 (t e : Nat) : Bool := (t % 256 + 256 - e % 256) % 256 < 128

/-- The entries at the head of a ring that are due at a step. -/
def dueEntries (s : State) (n t : Nat) : List Nat :=
  ((List.range (s.hub.ringFill.at n)).map fun i => s.rdLe (s.ringAddr n (s.hub.ringHead.at n + i)) 8).takeWhile fun e =>
    due8 t (bits e 48 8)

/-- The group of a record of a context (R442, R445). -/
def hubGroup (s : State) (n r : Nat) : Nat :=
  let a := (recAxon r + 2 ^ 24 - s.get (Reg.SEN_CTX_AXON_AXON_BASE n)) % 2 ^ 24
  (s.get (Reg.SEN_CTX_MCAST_MC_BASE n) + a >>> s.get (Reg.SEN_CTX_MCAST_MC_SHIFT n)) % 4096

/-- Cut records into runs of at most four that share a group. -/
def runsOf : (fuel : Nat) → List (Nat × Nat) → List (Nat × List Nat)
  | 0, _ => []
  | _, [] => []
  | fuel + 1, (g, r) :: rest =>
    let same := (rest.takeWhile fun x => x.1 = g).take 3
    (g, r :: same.map (·.2)) :: runsOf fuel (rest.drop same.length)

/-- Records of a context go to the west edge as pips of step `t` (R442, R443). -/
def hubSend (s : State) (n t : Nat) (records : List Nat) : State :=
  let row := s.get (Reg.SEN_CTX_CTRL_ROW n)
  let delay := s.get (Reg.SEN_CTX_CTRL_DELAY n)
  let pips := (runsOf records.length (records.map fun r => (s.hubGroup n r, r))).map fun x =>
    Pip.make 1 true x.1 (1152 + row) delay t 0 x.2.length (packRecords x.2)
  (s.count (Reg.SEN_CTX_ACCEPT_COUNT n) records.length).onMesh fun m =>
    { m with edgeOut := m.edgeOut.put row (m.edgeOut.at row ++ pips) }

/-- One injected record is captured (R445). -/
def capture (s : State) (t n r : Nat) : State :=
  let k := s.get Reg.SEN_CAP_WR_ENTRIES
  let len := s.get Reg.SEN_CAP_LEN_ENTRIES
  let a := s.get64 Reg.SEN_CAP_BASE_LO / 64 * 64 + 16 * k
  if !s.flag Reg.SEN_CTRL_CAPTURE || len ≤ k then s
  else
    let s := if s.dramMapped a 16 then s.wrLe a 16 (t % 2 ^ 64 + n * 2 ^ 64 + r % 2 ^ 48 * 2 ^ 80) else s
    let s := s.put Reg.SEN_CAP_WR_ENTRIES (k + 1)
    if k + 1 < len then s else (s.put Reg.SEN_STATUS_CAP_FULL 1).log .sen 0 0x5403 srcManager

/-- The due entries of one context leave at a launch, up to its limit (R443, R444). -/
def hubContext (s : State) (n t : Nat) : State :=
  if !s.flag (Reg.SEN_CTX_CTRL_EN n) then s
  else
    let s := s.emitLatest n t
    let due := s.dueEntries n t
    let m := s.get (Reg.SEN_CTX_RATE_MAX n)
    let go := if m = 0 then due else due.take m
    let lost := due.length - go.length
    let s := s.onHub fun h => { h with
      ringFill := h.ringFill.put n (h.ringFill.at n - due.length)
      ringHead := h.ringHead.put n ((h.ringHead.at n + due.length) % max 1 (s.get (Reg.SEN_CTX_RING_LEN_VALUE n))) }
    let s := if lost = 0 then s
      else (s.count (Reg.SEN_CTX_DROP_RATE_COUNT n) lost).logOnceBy n .sen 0 0x5401 srcManager
    let records := go.map fun e => bits e 0 48
    (records.foldl (fun s r => s.capture t n r) s).hubSend n t records

/-- Entry `k` of the capture region: step, context and record. -/
def capEntry (s : State) (k : Nat) : Nat × Nat × Nat :=
  let e := s.rdLe (s.get64 Reg.SEN_CAP_BASE_LO / 64 * 64 + 16 * k) 16
  (bits e 0 64, bits e 64 5, bits e 80 48)

/-- Replayed entries due at a step, from entry `k` on (R445). -/
def replayTake (s : State) (base t : Nat) : (fuel k : Nat) → State × Nat
  | 0, k => (s, k)
  | fuel + 1, k =>
    let (step, n, r) := s.capEntry k
    if t < base + (step - (s.capEntry 0).1) then (s, k)
    else
      let r := mkRecord (recAxon r) (recGraded r) (s.hubSlot t)
      let s := if s.flag (Reg.SEN_CTX_CTRL_EN n) then s.hubSend n t [r] else s.count (Reg.SEN_CTX_DROP_OFF_COUNT n)
      s.replayTake base t fuel (k + 1)

/-- The replay bound of R54. -/
def replayLimit (s : State) : Nat := s.obj 0x2403 3

/-- Replay at the launch of a step; an endless replay starts again at the step after its last (R103, R445). -/
def replayLaunch (s : State) (t : Nat) : State :=
  let wr := s.get Reg.SEN_CAP_WR_ENTRIES
  let (first, base, k) := s.hub.replay.getD (t, t, 0)
  let (s, k) := s.replayTake base t (wr - k) k
  let again := s.replayLimit = 0xFFFFFFFF && k = wr && 0 < wr
  s.onHub fun h => { h with replay := some (if again then (first, t + 1, 0) else (first, base, k)) }

/-- The hub's injection at the launch of step `t`. -/
def hubLaunch (s : State) (t : Nat) : State :=
  if !s.flag Reg.SEN_CTRL_EN then s
  else if s.replaying then s.replayLaunch t
  else (List.range 32).foldl (fun s n => s.hubContext n t) s

/-- The close of step `t` ends the replay by its bound (R103). -/
def replayOver (s : State) (t : Nat) : Bool :=
  match s.hub.replay with
  | none => false
  | some (first, _, k) =>
    let b := s.replayLimit
    if b = 0 then decide (s.get Reg.SEN_CAP_WR_ENTRIES ≤ k)
    else b ≠ 0xFFFFFFFF && decide (first + b ≤ t + 1)

/-- Drops of a context by every cause of R441 and R444. -/
def hubDrops (s : State) (n : Nat) : Nat :=
  s.get (Reg.SEN_CTX_DROP_RATE_COUNT n) + s.get (Reg.SEN_CTX_DROP_RING_COUNT n) + s.get (Reg.SEN_CTX_DROP_OFF_COUNT n)
    + s.get (Reg.SEN_CTX_DROP_KIND_COUNT n)

/-- The contexts' sums of the step that closes (R476). -/
def hubClose (s : State) : State :=
  let s := (List.range 32).foldl (fun (s : State) n =>
    let (a, d) := Sparse.find (0, 0) s.hub.marks n
    (s.setObj (0x2600 + n) 0x0A (s.get (Reg.SEN_CTX_ACCEPT_COUNT n) - a)).setObj (0x2600 + n) 0x0B (s.hubDrops n - d)) s
  s.onHub fun h => { h with marks := (List.range 32).foldl (fun m n =>
    Sparse.store (0, 0) m n (s.get (Reg.SEN_CTX_ACCEPT_COUNT n), s.hubDrops n)) h.marks }

/-! Camera receivers (R449, R450). -/

/-- The binding code of a virtual channel. -/
def csiCode (r vc kind : Nat) : Nat := 0x1000 + r * 256 + kind * 4 + vc

/-- A frame is delivered to its context. -/
def csiDeliver (s : State) (r vc : Nat) (f : CsiFrame) : State :=
  let s := (s.count (Reg.SEN_CSI_FRAMES_COUNT r)).onHub fun h => { h with frames := h.frames.filter fun x => x.1 ≠ 4 * r + vc }
  if f.lines.isEmpty then s else s.hubItem (csiCode r vc 0) f.tau (.frame f.lines)

/-- A line is dropped (R450). -/
def lineDrop (s : State) (r : Nat) : State := (s.count (Reg.SEN_CSI_LINE_DROP_COUNT r)).logOnceBy r .sen 0 0x5101 srcManager

/-- A packet header with its error correction; none where it cannot be corrected (R450). -/
def csiHeader (s : State) (r : Nat) : Ecc → Option State
  | .clean => some s
  | .corrected => some (s.count (Reg.SEN_CSI_ECC_CORR_COUNT r))
  | .uncorrectable => none

/-- CSI_FRAME_START (R440, R450). -/
def csiStart (s : State) (r vc : Nat) (ecc : Ecc) : State :=
  if !s.flag (Reg.SEN_CSI_CTRL_EN r) then s
  else match s.csiHeader r ecc with
    | none => s.lineDrop r
    | some s =>
      let key := 4 * r + vc
      let s := match s.hub.frames.find? fun x => x.1 = key with
        | some x => (s.put (Reg.SEN_CSI_STATUS_TRUNC r) 1).csiDeliver r vc x.2
        | none => s
      let tau := s.now - s.get (Reg.SEN_CSI_LAT_COUNTS r)
      s.onHub fun h => { h with frames := h.frames ++ [(key, ⟨tau, tau, []⟩)] }

/-- The p8 values of a line's payload by its data type: 8-bit samples as they are, the high bytes of RAW10 and RAW12 as
MIPI CSI-2 packs them, and the luma bytes of YUV422 (R446, R449, log entry 19). -/
def linePixels (dt : Nat) (payload : List Byte) : List Nat :=
  let pick := fun (keep : Nat → Bool) => (payload.zipIdx.filter fun x => keep x.2).map fun x => x.1.toNat
  match dt with
  | 0x2A => payload.map (·.toNat)
  | 0x2B => pick fun i => decide (i % 5 ≠ 4)
  | 0x2C => pick fun i => decide (i % 3 ≠ 2)
  | _ => pick fun i => decide (i % 2 = 1)

/-- The 32-bit little-endian words of a payload. -/
def wordsOf : (fuel : Nat) → List Byte → List Nat
  | 0, _ => []
  | fuel + 1, l => if l.length < 4 then [] else ofLe (l.take 4) :: wordsOf fuel (l.drop 4)

/-- CSI_LONG_PACKET (R449, R450). -/
def csiLine (s : State) (r vc dt : Nat) (ecc : Ecc) (crcOk : Bool) (payload : List Byte) : State :=
  if !s.flag (Reg.SEN_CSI_CTRL_EN r) then s
  else match s.csiHeader r ecc with
    | none => s.lineDrop r
    | some s =>
      if dt ∉ [0x2A, 0x2B, 0x2C, 0x1E, 0x30] then s.count (Reg.SEN_CSI_TYPE_DROP_COUNT r)
      else if !crcOk ∨ 8192 < payload.length then s.lineDrop r
      else match s.hub.frames.find? fun x => x.1 = 4 * r + vc with
        | none => s.lineDrop r
        | some (key, f) =>
          let keep := fun (s : State) (f : CsiFrame) => s.onHub fun h => { h with
            frames := (h.frames.filter fun x => x.1 ≠ key) ++ [(key, f)] }
          if dt = 0x30 then
            let (s, run) := s.hubWords (fun _ => csiCode r vc 1) id f.run (wordsOf payload.length payload)
            keep s { f with run := run }
          else keep s { f with lines := f.lines ++ [linePixels dt payload] }

/-- CSI_FRAME_END (R450). -/
def csiEnd (s : State) (r vc : Nat) (ecc : Ecc) : State :=
  if !s.flag (Reg.SEN_CSI_CTRL_EN r) then s
  else match s.csiHeader r ecc with
    | none => s.lineDrop r
    | some s =>
      match s.hub.frames.find? fun x => x.1 = 4 * r + vc with
      | none => s
      | some x => s.csiDeliver r vc x.2

/-! Ethernet (R451 to R454). -/

/-- The stamp FIFO registers show the oldest stamp. -/
def stampView (s : State) (p : Nat) (tx : Bool) : State :=
  let key := if tx then 2 + p else p
  let lo := if tx then Reg.SEN_ETH_PTP_TX_LO p else Reg.SEN_ETH_PTP_RX_LO p
  let info := if tx then Reg.SEN_ETH_PTP_TX_INFO p else Reg.SEN_ETH_PTP_RX_INFO p
  match s.hub.stamps.at key with
  | [] => s.put ⟨info, 31, 1⟩ 0
  | x :: _ => (s.put64 lo x.time).setReg info
      (BitVec.ofNat 32 (x.seq % 2 ^ 16 + x.type % 16 * 2 ^ 16 + x.domain % 256 * 2 ^ 20 + 2 ^ 31))

/-- Place a stamp in a FIFO of 16 or 4 entries; a full one loses it (R454). -/
def stampPush (s : State) (p : Nat) (tx : Bool) (x : Stamp) : State :=
  let key := if tx then 2 + p else p
  if (if tx then 4 else 16) ≤ (s.hub.stamps.at key).length then
    (s.count (Reg.SEN_ETH_TS_LOST_COUNT p)).log .sen 0 0x5210 srcManager
  else (s.onHub fun h => { h with stamps := h.stamps.push key x }).stampView p tx

/-- The start of the payload after the MAC header, without its tag: EtherType and the rest (R451). -/
def untag (frame : List Byte) : Nat × List Byte :=
  if beAt frame 12 2 = 0x8100 then (beAt frame 16 2, frame.drop 18) else (beAt frame 12 2, frame.drop 14)

/-- A frame without its tag (R451). -/
def tagless (frame : List Byte) : List Byte :=
  if beAt frame 12 2 = 0x8100 then frame.take 12 ++ frame.drop 16 else frame

/-- A UDP datagram of an untagged payload: destination address, source address, destination port and data. -/
structure Udp where
  dst : Nat
  src : Nat
  port : Nat
  data : List Byte

/-- The UDP datagram in an IPv4 packet whose checksums hold and that is no fragment (R451). -/
def udpOf (type : Nat) (l : List Byte) : Option Udp :=
  let ihl := 4 * (beAt l 0 1 % 16)
  let total := beAt l 2 2
  let udp := (l.take total).drop ihl
  let len := beAt udp 4 2
  if type ≠ 0x0800 ∨ beAt l 0 1 / 16 ≠ 4 ∨ ihl < 20 ∨ l.length < total ∨ total < ihl + 8 ∨ beAt l 9 1 ≠ 17 ∨
      beAt l 6 2 % 0x4000 ≠ 0 ∨ onesSum (l.take ihl) ≠ 0xFFFF ∨ len < 8 ∨ udp.length < len then none
  else
    let body := udp.take len
    let pseudo := (l.drop 12).take 8 ++ [0, 17] ++ (udp.drop 4).take 2
    if beAt udp 6 2 ≠ 0 ∧ onesSum (pseudo ++ body) ≠ 0xFFFF then none
    else some ⟨beAt l 16 4, beAt l 12 4, beAt udp 2 2, body.drop 8⟩

/-- The PTP message of a frame: over UDP, or with its own EtherType (R454). -/
def ptpOf (type : Nat) (l : List Byte) : Option (List Byte) :=
  if type = 0x88F7 then some l
  else match udpOf type l with
    | some u => if u.port = 319 ∨ u.port = 320 then some u.data else none
    | none => none

/-- A PTP event message of a frame with its identification (R454, log entry 19). -/
def ptpEvent (type : Nat) (l : List Byte) : Option Stamp :=
  match ptpOf type l with
  | some m => if beAt m 0 1 % 16 ≤ 1 ∧ 34 ≤ m.length then some ⟨0, beAt m 30 2, beAt m 0 1 % 16, beAt m 4 1⟩ else none
  | none => none

/-- A stamp with its port's signed correction (R454). -/
def stampTime (s : State) (p : Nat) (tx : Bool) : Nat :=
  let corr := sext 16 (if tx then s.get (Reg.SEN_ETH_TS_CORR_TX p) else s.get (Reg.SEN_ETH_TS_CORR_RX p))
  toBits 64 ((s.now : Int) + corr)

/-- A received frame is dropped (R452, R453). -/
def ethDrop (s : State) (p : Nat) : State :=
  (s.count (Reg.SEN_ETH_RX_DROP_COUNT p)).logOnceBy p .sen 0 0x5201 srcManager

/-- The filter that a datagram matches (R452). -/
def flowOf (s : State) (p : Nat) (u : Udp) : Option Nat :=
  (List.range 16).find? fun f =>
    s.flag ⟨flowReg p f, 31, 1⟩ && s.get ⟨flowReg p f, 0, 16⟩ = u.port &&
      (!s.flag ⟨flowReg p f, 30, 1⟩ || s.get ⟨flowSrc p f, 0, 32⟩ = u.src)

/-- A datagram of a flow (R440, R453). -/
def flowData (s : State) (p f : Nat) (d : List Byte) : State :=
  let kind := s.get ⟨flowReg p f, 16, 2⟩
  if leAt d 0 2 ≠ 0x4E5A ∨ leAt d 2 1 ≠ 1 ∨ leAt d 3 1 ≠ kind ∨ d.length < 16 ∨ d.length % 4 ≠ 0 then s.ethDrop p
  else
    let key := 16 * p + f
    let seq := leAt d 4 4
    let s := match s.hub.flowSeq.at key with
      | 0 => s
      | q + 1 => s.count ⟨flowLost p f, 0, 32⟩ ((seq + 2 ^ 33 - q - 1) % 2 ^ 32)
    let s := s.onHub fun h => { h with flowSeq := h.flowSeq.put key (seq + 1) }
    let t0 := leAt d 8 8
    let tau := if t0 ≠ 0 ∧ s.get Reg.TB_CTRL_DISC = 2 + p then (t0 - s.get64 (Reg.SEN_ETH_EPOCH_LO p)) / 5
      else s.now - s.get (Reg.SEN_ETH_LAT_COUNTS p)
    (s.hubWords (fun _ => 0x2000 + p * 256 + f) id tau (wordsOf d.length (d.drop 16))).1

/-- A frame goes to the firmware receive ring (R452). -/
def toFirmware (s : State) (p : Nat) (frame : List Byte) : State :=
  let wr := s.get (Reg.SEN_ETH_FWRX_PTR_WR p)
  let base := s.get (Reg.SEN_ETH_FWRX_BASE_VALUE p)
  if 2046 < frame.length ∨ (wr + 1) % 32 = s.get (Reg.SEN_ETH_FWRX_PTR_RD p) ∨ sramBytes < base + 65536 then s.ethDrop p
  else
    let a := sramBase + base + 2048 * wr
    ((s.wrLe a 2 frame.length).wrBytes (a + 2) frame).put (Reg.SEN_ETH_FWRX_PTR_WR p) ((wr + 1) % 32)

/-- ETH_FRAME_RECEIVE: a frame without its FCS, and whether the FCS holds (R451 to R454). -/
def ethReceive (s : State) (p : Nat) (frame : List Byte) (fcsOk : Bool) : State :=
  if !s.flag (Reg.SEN_ETH_CTRL_EN p) then s
  else if !fcsOk then s.count (Reg.SEN_ETH_CRC_ERR_COUNT p)
  else if frame.length < 60 ∨ 9212 < frame.length then s.ethDrop p
  else
    let (type, l) := untag frame
    if type = 0x8808 then s.count (Reg.SEN_ETH_PAUSE_COUNT p)
    else
      let s := match ptpEvent type l with
        | some x => s.stampPush p false { x with time := s.stampTime p false }
        | none => s
      match udpOf type l with
      | some u =>
        if u.dst = s.get (Reg.SEN_ETH_IP_VALUE p) then
          match s.flowOf p u with
          | some f => s.flowData p f u.data
          | none => s.toFirmware p (tagless frame)
        else s.toFirmware p (tagless frame)
      | none => s.toFirmware p (tagless frame)

/-- ETH_FW_TRANSMIT: the frame posted at the producer slot of the transmit ring is sent (R452, R454, log entry 20). -/
def ethTransmit (s : State) (p : Nat) (tsReq : Bool) : State :=
  let wr := s.get (Reg.SEN_ETH_FWTX_PTR_WR p)
  let base := s.get (Reg.SEN_ETH_FWTX_BASE_VALUE p)
  if !s.flag (Reg.SEN_ETH_CTRL_EN p) || sramBytes < base + 65536 then s
  else
    let a := sramBase + base + 2048 * wr
    let frame := s.rdBytes (a + 2) (min 2046 (s.rdLe a 2))
    let s := (s.put (Reg.SEN_ETH_FWTX_PTR_WR p) ((wr + 1) % 32)).put (Reg.SEN_ETH_FWTX_PTR_RD p) ((wr + 1) % 32)
    let s := s.emitOut (.eth p frame)
    if !tsReq then s
    else
      let (type, l) := untag frame
      let x := (ptpEvent type l).getD ⟨0, beAt l 30 2, beAt l 0 1 % 16, beAt l 4 1⟩
      s.stampPush p true { x with time := s.stampTime p true }

/-- ETH_LINK_CHANGE (R474). -/
def ethLink (s : State) (p : Nat) (up : Bool) : State :=
  let was := s.flag (Reg.SEN_ETH_STATUS_LINK p)
  let s := s.put (Reg.SEN_ETH_STATUS_LINK p) (if up then 1 else 0)
  if was && !up then s.count (Reg.SEN_ETH_LINK_DOWN_COUNT p) else s

/-- PTP_INFO_READ: the oldest stamp's identification is returned and its entry removed (R474). -/
def ptpRead (s : State) (p : Nat) (tx : Bool) : State :=
  let info := if tx then Reg.SEN_ETH_PTP_TX_INFO p else Reg.SEN_ETH_PTP_RX_INFO p
  let s := { s with answer := [(s.reg info).toNat] }
  (s.onHub fun h => { h with stamps := h.stamps.drop1 (if tx then 2 + p else p) }).stampView p tx

/-! The Sensor Event Link (R459 to R463). -/

/-- The link layer of a port. -/
def selPort (s : State) (k : Nat) : SelPort := Sparse.find .down s.hub.sel k

/-- Replace the link layer of a port. -/
def setSel (s : State) (k : Nat) (x : SelPort) : State := s.onHub fun h => { h with sel := Sparse.store .down h.sel k x }

/-- The link state of a port: 0 DOWN, 1 ALIGN, 2 TRAIN, 3 ACTIVE, 4 RETRAIN, 5 SLEEP. -/
def selState (s : State) (k : Nat) : Nat := s.get (Reg.SEN_SEL_STATUS_STATE k)

/-- Something leaves a Sensor Event Link port. -/
def selSend (s : State) (x : Output) : State := s.emitOut (x)

/-- Frames of a port go out (again). -/
def selFrames (s : State) (k : Nat) (l : List (Nat × Nat × List Nat)) : State :=
  l.foldl (fun s f => s.selSend (.selFrame k f.1 f.2.1 f.2.2)) s

/-- Enter ALIGN. -/
def selAlign (s : State) (k : Nat) : State :=
  (s.put (Reg.SEN_SEL_STATUS_STATE k) 1).setSel k { s.selPort k with idles := 0, sets := 0, acks := 0, tries := 0, busy := none }

/-- Enter RETRAIN, which leads to ALIGN at once (R461, R462). -/
def selRetrain (s : State) (k : Nat) : State :=
  ((s.count (Reg.SEN_SEL_RETRAIN_COUNT k)).log .sen 0 0x5301 srcManager).selAlign k

/-- A failed attempt to train; the eighth in a row ends in DOWN (R461, R687). -/
def selFail (s : State) (k : Nat) : State :=
  let x := s.selPort k
  if x.fails + 1 < 8 then (s.setSel k { x with fails := x.fails + 1 }).selAlign k
  else
    let s := s.setSel k { x with fails := 0, idles := 0, sets := 0, acks := 0 }
    let s := (s.put (Reg.SEN_SEL_STATUS_STATE k) 0).put (Reg.SEN_SEL_STATUS_TRAIN_FAIL k) 1
    (s.log .sen 0 0x5302 srcManager).fileReport edgeNode (suspectId 8 k)

/-- A NAK leaves the port (R459). -/
def selNakOut (s : State) (k reason : Nat) : State :=
  (s.count (Reg.SEN_SEL_NAK_TX_COUNT k)).selSend (.selNak k (s.get (Reg.SEN_SEL_STATUS_RXSEQ k)) reason)

/-- An accepted frame's content (R458, R459). -/
def selAccept (s : State) (k type subch : Nat) (sat : Bool) (fage : Nat) (words : List Nat) : State :=
  match type with
  | 1 =>
    let tau := s.now - s.get (Reg.SEN_SEL_LAT_COUNTS k) - (if sat then 0 else 8 * fage)
    (s.hubWords (fun kind => 0x3000 + k * 256 + kind * 16 + subch) (fun s => s.count (Reg.SEN_SEL_CODE_ERR_COUNT k)) tau words).1
  | 2 =>
    if s.flag (Reg.SEN_SEL_RSP_STAT_FULL k) then s.count (Reg.SEN_SEL_RSP_STAT_LOST k)
    else
      let s := (words.take 8).zipIdx.foldl (fun s x => s.setReg (Reg.SEN_SEL_RSP0 k + 4 * x.2) (BitVec.ofNat 32 x.1)) s
      (s.put (Reg.SEN_SEL_RSP_STAT_LEN k) (min 8 words.length)).put (Reg.SEN_SEL_RSP_STAT_FULL k) 1
  | _ => s

/-- SEL_FRAME_RECEIVE: `ok` says that the frame came without code error, ABORT or CRC failure, and `room` how many words
the event buffer takes (R459). A SLEEP frame of the sensor is acknowledged and ends in SLEEP (R461). -/
def selReceive (s : State) (k : Nat) (ok : Bool) (type subch seq : Nat) (sat : Bool) (fage : Nat) (words : List Nat)
    (room : Nat) : State :=
  if s.selState k ≠ 3 then s
  else
    let rx := s.get (Reg.SEN_SEL_STATUS_RXSEQ k)
    if !ok then (s.count (Reg.SEN_SEL_CRC_ERR_COUNT k)).selNakOut k 1
    else if seq = rx then
      if room < words.length then (s.count (Reg.SEN_SEL_BUSY_COUNT k)).selNakOut k 2
      else
        let s := (s.put (Reg.SEN_SEL_STATUS_RXSEQ k) ((rx + 1) % 256)).selSend (.selAck k seq)
        let s := (s.count (Reg.SEN_SEL_FRAMES_COUNT k)).selAccept k type subch sat fage words
        if type = 4 then s.put (Reg.SEN_SEL_STATUS_STATE k) 5 else s
    else if 1 ≤ (rx + 256 - seq) % 256 ∧ (rx + 256 - seq) % 256 ≤ 8 then s.selSend (.selAck k ((rx + 255) % 256))
    else s.selNakOut k 3

/-- SEL_ACK_RECEIVE: frames up to `seq` are acknowledged; frames that waited behind eight go out (R460). -/
def selAcked (s : State) (k seq inv : Nat) : State :=
  let x := s.selPort k
  match x.out.findIdx? fun f => f.1 = seq with
  | none => s
  | some i =>
    if s.selState k ≠ 3 ∨ seq + inv ≠ 255 ∨ 8 ≤ i then s
    else
      let done := x.out.take (i + 1)
      let rest := x.out.drop (i + 1)
      let fresh := (rest.drop (7 - i)).take (i + 1)
      let s := (s.setSel k { x with out := rest, tries := 0, busy := none }).selFrames k fresh
      let s := if done.any fun f => f.2.1 = 3 then s.put (Reg.SEN_SEL_CMD_CTRL_DONE k) 1 else s
      if done.any fun f => f.2.1 = 4 then s.put (Reg.SEN_SEL_STATUS_STATE k) 5 else s

/-- The unacknowledged frames in flight, from the named one on. -/
def selFrom (x : SelPort) (seq : Nat) : List (Nat × Nat × List Nat) := (x.out.take 8).dropWhile fun f => f.1 ≠ seq

/-- Retransmission from the named frame, counted toward the 16 without progress, or not (R460). -/
def selAgain (s : State) (k seq : Nat) (counted : Bool) : State :=
  let x := s.selPort k
  let l := selFrom x seq
  if l.isEmpty then s
  else if counted && 16 ≤ x.tries then s.selRetrain k
  else
    let s := s.setSel k { x with tries := if counted then x.tries + 1 else x.tries, busy := none }
    (s.count (Reg.SEN_SEL_RETX_COUNT k) l.length).selFrames k l

/-- SEL_NAK_RECEIVE (R460). -/
def selNaked (s : State) (k seq inv reason : Nat) : State :=
  if s.selState k ≠ 3 ∨ seq + inv ≠ 255 then s
  else if reason = 2 then s.setSel k { s.selPort k with busy := some seq }
  else if reason = 1 ∨ reason = 3 then s.selAgain k seq true
  else s

/-- A frame of the device joins the sender; at most eight are in flight (R460). -/
def selPost (s : State) (k type : Nat) (words : List Nat) : State :=
  let x := s.selPort k
  let f := (x.next, type, words)
  let s := s.setSel k { x with out := x.out ++ [f], next := (x.next + 1) % 256 }
  if s.selState k = 3 ∧ x.out.length < 8 then s.selFrames k [f] else s

/-- SEL_IDLE_SET_RECEIVE (R461). -/
def selIdle (s : State) (k : Nat) (valid : Bool) : State :=
  let x := s.selPort k
  if s.selState k ≠ 1 then s
  else if !valid then s.setSel k { x with idles := 0 }
  else if x.idles + 1 < 8 then s.setSel k { x with idles := x.idles + 1 }
  else (s.setSel k { x with idles := 0, sets := 0, acks := 0 }).put (Reg.SEN_SEL_STATUS_STATE k) 2

/-- Enter ACTIVE: what the peer has is acknowledged, the rest is numbered from its RXSEQ and sent (R461). -/
def selActive (s : State) (k peer : Nat) : State :=
  let x := s.selPort k
  let known := x.out.filter fun f => (peer + 256 - f.1) % 256 ∈ List.range 128 ∧ f.1 ≠ peer
  let rest := (x.out.filter fun f => !(known.contains f)).zipIdx.map fun y => ((peer + y.2) % 256, y.1.2.1, y.1.2.2)
  let s := s.setSel k { x with
    out := rest, next := (peer + rest.length) % 256, idles := 0, sets := 0, acks := 0, fails := 0, tries := 0, busy := none }
  let s := if known.any fun f => f.2.1 = 3 then s.put (Reg.SEN_SEL_CMD_CTRL_DONE k) 1 else s
  (s.put (Reg.SEN_SEL_STATUS_STATE k) 3).selFrames k (rest.take 8)

/-- SEL_TS_RECEIVE: the six data bytes of a TS set, and how many sets with ACKSEEN this end has sent (R461). -/
def selTs (s : State) (k : Nat) (d : List Nat) (sent : Nat) : State :=
  let x := s.selPort k
  let g := fun i => d.getD i 0
  if s.selState k ≠ 2 then s
  else if g 0 ≠ 1 ∨ g 5 ≠ (((g 0).xor (g 1)).xor (g 2)).xor ((g 3).xor (g 4)) then s
  else
    let sets := x.sets + 1
    let acks := if 128 ≤ g 1 then x.acks + 1 else 0
    if 4 ≤ sets ∧ 4 ≤ acks ∧ 16 ≤ sent then s.selActive k (g 2)
    else s.setSel k { x with sets := sets, acks := acks }

/-- SEL_ENABLE: EN is written to 1 (R461). -/
def selEnable (s : State) (k : Nat) : State :=
  ((s.put (Reg.SEN_SEL_CTRL_EN k) 1).put (Reg.SEN_SEL_STATUS_RXSEQ k) 0).selAlign k

/-- SEL_CMD_SEND: SEN_SEL_CMD_CTRL is written with GO (R474). -/
def selCommand (s : State) (k len : Nat) : State :=
  let s := (s.put (Reg.SEN_SEL_CMD_CTRL_LEN k) len).put (Reg.SEN_SEL_CMD_CTRL_DONE k) 0
  s.selPost k 3 ((List.range (min 8 len)).map fun i => (s.reg (Reg.SEN_SEL_CMD0 k + 4 * i)).toNat)

/-- A wake pattern is seen (R636). -/
def wakeSeen (s : State) (src detail : Nat) : State := { s with wakes := s.wakes ++ [(src, detail)] }

/-- SEL_WAKE_DETECT: an armed detector sees activity; the port aligns (R461, R463). -/
def selWake (s : State) (k : Nat) : State :=
  if !s.flag (Reg.SEN_SEL_CTRL_WAKE_EN k) then s
  else
    let s := s.wakeSeen 3 k
    if s.selState k = 0 ∨ s.selState k = 5 then s.selAlign k else s

end State

namespace State

/-! Injected receive faults (R735). -/

/-- An Ethernet frame, with the injection that may be armed on its port. -/
def ethIn (s : State) (port : Nat) (frame : List Byte) (ok : Bool) : State :=
  let x := suspectId 9 port
  if s.injecting x 1 then s.injected
  else if s.injecting x 2 then s.injected.ethReceive port frame false
  else if s.injecting x 3 && !s.hub.ethHeld.any (·.1 = port) then
    s.injected.onHub fun h => { h with ethHeld := h.ethHeld ++ [(port, frame, ok)] }
  else
    let s := s.ethReceive port frame ok
    match s.hub.ethHeld.find? (·.1 = port) with
    | some f => (s.onHub fun h => { h with ethHeld := h.ethHeld.erase f }).ethReceive port f.2.1 f.2.2
    | none => s

/-- A Sensor Event Link frame of fields TYPE, SUBCH, SEQ, SAT, FAGE and the receiver's room. -/
def selTake (s : State) (port : Nat) (ok : Bool) (f words : List Nat) : State :=
  s.selReceive port ok (f.getD 0 0) (f.getD 1 0) (f.getD 2 0) (f.getD 3 0 != 0) (f.getD 4 0) words (f.getD 5 0)

/-- A Sensor Event Link frame, with the injection that may be armed on its port. -/
def selIn (s : State) (port : Nat) (ok : Bool) (f words : List Nat) : State :=
  let x := suspectId 8 port
  if s.injecting x 1 then s.injected
  else if s.injecting x 2 then s.injected.selTake port false f words
  else if s.injecting x 3 && !s.hub.selHeld.any (·.1 = port) then
    s.injected.onHub fun h => { h with selHeld := h.selHeld ++ [(port, ok, f, words)] }
  else
    let s := s.selTake port ok f words
    match s.hub.selHeld.find? (·.1 = port) with
    | some y => (s.onHub fun h => { h with selHeld := h.selHeld.erase y }).selTake port y.2.1 y.2.2.1 y.2.2.2
    | none => s

end State

/-- STREAM_CONTEXT_ENABLE (R448). -/
def execStreamContextEnable (ctx : Fin 32) (value : Word) (s : State) : Result := s.done (s.ctxEnable ctx.val value)

/-- STREAM_CONTEXT_DISABLE (R444). -/
def execStreamContextDisable (ctx : Fin 32) (value : Word) (s : State) : Result := s.done (s.ctxDisable ctx.val value)

/-- HUB_ENABLE_WRITE (R774). -/
def execHubEnableWrite (value : Word) (s : State) : Result := s.done (s.hubWrite value)

/-- CSI_FRAME_START (R440). -/
def execCsiFrameStart (receiver : Fin 4) (channel : Fin 4) (ecc : Ecc) (s : State) : Result :=
  s.done (s.csiStart receiver.val channel.val ecc)

/-- CSI_LONG_PACKET (R450). -/
def execCsiLongPacket (receiver : Fin 4) (channel : Fin 4) (type : Fin 64) (ecc : Ecc) (crcOk : Bool) (payload : List Byte)
    (s : State) : Result := s.done (s.csiLine receiver.val channel.val type.val ecc crcOk payload)

/-- CSI_FRAME_END (R450). -/
def execCsiFrameEnd (receiver : Fin 4) (channel : Fin 4) (ecc : Ecc) (s : State) : Result :=
  s.done (s.csiEnd receiver.val channel.val ecc)

/-- ETH_FRAME_RECEIVE (R452). -/
def execEthFrameReceive (port : Fin 2) (frame : List Byte) (fcsOk : Bool) (s : State) : Result :=
  s.done (s.ethIn port.val frame fcsOk)

/-- ETH_FW_TRANSMIT (R452). -/
def execEthFwTransmit (port : Fin 2) (tsReq : Bool) (s : State) : Result := s.done (s.ethTransmit port.val tsReq)

/-- ETH_LINK_CHANGE (R474). -/
def execEthLinkChange (port : Fin 2) (up : Bool) (s : State) : Result := s.done (s.ethLink port.val up)

/-- PTP_INFO_READ (R474). -/
def execPtpInfoRead (port : Fin 2) (tx : Bool) (s : State) : Result := s.done (s.ptpRead port.val tx)

/-- SEL_FRAME_RECEIVE (R459). -/
def execSelFrameReceive (port : Fin 16) (ok : Bool) (type subch : Fin 16) (seq : Fin 256) (sat : Bool) (fage : Fin 16777216)
    (words : List Word) (room : Fin 65) (s : State) : Result :=
  s.done (s.selIn port.val ok [type.val, subch.val, seq.val, if sat then 1 else 0, fage.val, room.val] (words.map (·.toNat)))

/-- SEL_ACK_RECEIVE (R460). -/
def execSelAckReceive (port : Fin 16) (seq inverse : Fin 256) (s : State) : Result :=
  s.done (s.selAcked port.val seq.val inverse.val)

/-- SEL_NAK_RECEIVE (R460). -/
def execSelNakReceive (port : Fin 16) (seq inverse reason : Fin 256) (s : State) : Result :=
  s.done (s.selNaked port.val seq.val inverse.val reason.val)

/-- SEL_BUSY_WAIT_EXPIRE (R460). -/
def execSelBusyWaitExpire (port : Fin 16) (s : State) : Result :=
  match (s.selPort port.val).busy with
  | some seq => s.done (s.selAgain port.val seq false)
  | none => s.done s

/-- SEL_ACK_TIMEOUT (R460). -/
def execSelAckTimeout (port : Fin 16) (s : State) : Result :=
  match (s.selPort port.val).out with
  | f :: _ => s.done (if s.selState port.val = 3 then s.selAgain port.val f.1 true else s)
  | [] => s.done s

/-- SEL_IDLE_SET_RECEIVE (R461). -/
def execSelIdleSetReceive (port : Fin 16) (valid : Bool) (s : State) : Result := s.done (s.selIdle port.val valid)

/-- SEL_TS_RECEIVE (R461). -/
def execSelTsReceive (port : Fin 16) (data : List (Fin 256)) (sent : Nat) (s : State) : Result :=
  s.done (s.selTs port.val (data.map (·.val)) sent)

/-- SEL_ALIGN_TIMEOUT (R461). -/
def execSelAlignTimeout (port : Fin 16) (s : State) : Result :=
  s.done (if s.selState port.val = 1 then s.selFail port.val else s)

/-- SEL_TRAIN_TIMEOUT (R461). -/
def execSelTrainTimeout (port : Fin 16) (s : State) : Result :=
  s.done (if s.selState port.val = 2 then s.selFail port.val else s)

/-- SEL_COMMA_LOSS (R462). -/
def execSelCommaLoss (port : Fin 16) (s : State) : Result :=
  s.done (if s.selState port.val = 3 then s.selRetrain port.val else s)

/-- CODE_GROUP_ERRORS (R462). -/
def execCodeGroupErrors (port : Fin 16) (s : State) : Result :=
  s.done (if s.selState port.val = 3 then s.selRetrain port.val else s)

/-- SEL_RETRAIN (R461, R462). -/
def execSelRetrain (port : Fin 16) (s : State) : Result :=
  s.done (if s.selState port.val = 0 then s.selAlign port.val
    else if s.selState port.val = 3 then s.selRetrain port.val else s)

/-- SEL_ENABLE (R461). -/
def execSelEnable (port : Fin 16) (s : State) : Result := s.done (s.selEnable port.val)

/-- SEL_SLEEP_REQ: a SLEEP frame joins the sender (R463). -/
def execSelSleepReq (port : Fin 16) (s : State) : Result := s.done (s.selPost port.val 4 [])

/-- SEL_WAKE_DETECT (R463). -/
def execSelWakeDetect (port : Fin 16) (s : State) : Result := s.done (s.selWake port.val)

/-- SEL_CMD_SEND (R474). -/
def execSelCmdSend (port : Fin 16) (len : Fin 16) (s : State) : Result := s.done (s.selCommand port.val len.val)

end Sys2Proof.Machine
end

