-- ==== Sys2Proof/Machine/Can.lean ====
section
/-! DEFINITION. The CAN FD controllers: transmit requests and the limiter, fault confinement, bus modes, and the receive
buffer (R525 to R534, R554). -/

namespace Sys2Proof.Machine

/-- The data lengths of R525. -/
def canSizes : List Nat := [0, 1, 2, 3, 4, 5, 6, 7, 8, 12, 16, 20, 24, 32, 48, 64]

/-- The length that a DLC stands for. -/
def dlcBytes (dlc : Nat) : Nat := canSizes.getD dlc 64

/-- The DLC of a length: that of the smallest size which holds it. -/
def dlcOf (n : Nat) : Nat := (canSizes.findIdx? fun k => n ≤ k).getD 15

namespace State

/-- A controller. -/
def canCtl (s : State) (c : Nat) : CanCtl := Sparse.find .idle s.can c

/-- Replace a controller. -/
def setCan (s : State) (c : Nat) (x : CanCtl) : State := { s with can := Sparse.store .idle s.can c x }

/-- Store one byte of a register. -/
def putByte (s : State) (a : Nat) (b : Nat) : State := s.put ⟨a - a % 4, 8 * (a % 4), 8⟩ b

/-- One byte of a register. -/
def getByte (s : State) (a : Nat) : Byte := BitVec.ofNat 8 (s.get ⟨a - a % 4, 8 * (a % 4), 8⟩)

/-- Bytes from register address `a` on. -/
def regBytes (s : State) (a n : Nat) : List Byte := (List.range n).map fun i => s.getByte (a + i)

/-- Controller `c` takes part under the bus mode (R527). -/
def canUsed (s : State) (c : Nat) : Bool :=
  match s.canMode with
  | 1 => true
  | 2 => c = (if s.canStandby then 1 else 0)
  | _ => c = 0

/-- The controllers that carry the device's frames (R527). -/
def canTargets (s : State) : List Nat := [0, 1].filter s.canUsed

/-! The limiter (R533). -/

/-- The bucket gains the tokens due by now. -/
def canRefill (s : State) (c : Nat) : State :=
  let x := s.canCtl c
  let rate := max 1 (s.get (Reg.CAN_TXLIM_RATE c))
  let burst := s.get (Reg.CAN_TXLIM_BURST c)
  let k := (s.now - x.since) * rate / 200000000
  let t := s.get (Reg.CAN_TXLIM_STAT_TOKENS c) + k
  if burst ≤ t then (s.setCan c { x with since := s.now }).put (Reg.CAN_TXLIM_STAT_TOKENS c) burst
  else (s.setCan c { x with since := x.since + ceilDiv (k * 200000000) rate }).put (Reg.CAN_TXLIM_STAT_TOKENS c) t

/-- The request first in the fixed order: a raw one by its class, or a TPDO (R534). -/
def canFirst (s : State) (c : Nat) : Option (Nat × CanFrame ⊕ Nat) :=
  let x := s.canCtl c
  match (List.range 3).findSome? fun k => x.raw.find? fun r => r.1 = k with
  | some r => some (.inl r)
  | none =>
    match (List.range 16).find? fun n => x.tpdo.contains n with
    | some n => some (.inr n)
    | none => (x.raw.head?).map .inl

/-- A controller can put a frame on its bus. -/
def canReady (s : State) (c : Nat) : Bool :=
  s.flag (Reg.CAN_CTRL_EN c) && !s.flag (Reg.CAN_CTRL_LISTEN c) && decide (s.get (Reg.CAN_STATUS_STATE c) ≤ 1) && s.canUsed c

/-- The frame of a TPDO with the buffer bytes as they stand (R532). -/
def tpdoFrame (s : State) (c n : Nat) : CanFrame where
  id := s.get (Reg.CAN_TPDO_CFG_COBID c n)
  ide := false
  fdf := s.flag (Reg.CAN_CTRL_FD_EN c)
  brs := s.flag (Reg.CAN_CTRL_BRS_EN c)
  data := s.regBytes (Reg.CAN_TPDO_BUF c (16 * n)) (s.get (Reg.CAN_TPDO_CFG_LEN c n))

/-- Load the next request while the bus of the controller is free and a token is held; a request that waits for a token
is flagged, and logged once a second (R532 to R534). -/
def canPump (s : State) (c : Nat) : State :=
  if !s.canReady c || (s.canCtl c).loaded.isSome then s
  else match s.canFirst c with
    | none => s.put (Reg.CAN_TXLIM_STAT_WAITING c) 0
    | some r =>
      let s := s.canRefill c
      let t := s.get (Reg.CAN_TXLIM_STAT_TOKENS c)
      let x := s.canCtl c
      if t = 0 then
        let sec := s.now / 200000000 + 1
        let s := (s.put (Reg.CAN_TXLIM_STAT_WAITING c) 1).raise (Reg.CAN_INT_EN c) 2
        if x.waited = sec then s else (s.setCan c { x with waited := sec }).log .can c 0x5802 srcManager
      else
        let s := (s.put (Reg.CAN_TXLIM_STAT_TOKENS c) (t - 1)).put (Reg.CAN_TXLIM_STAT_WAITING c) 0
        match r with
        | .inl f => s.setCan c { x with raw := x.raw.erase f, loaded := some f.2 }
        | .inr n => s.setCan c { x with tpdo := x.tpdo.filter fun m => m ≠ n, loaded := some (s.tpdoFrame c n) }

/-! Requests (R531 to R534). -/

/-- The result of a raw request or of a frame's end (R554). -/
def canResult (s : State) (c : Nat) (t : Status) : State :=
  (s.put (Reg.CAN_TX_RESULT_STATUS c) t.code).put (Reg.CAN_TX_RESULT_VALID c) 1

/-- An enabled TPDO of a controller carries an identifier (R531). -/
def tpdoOwns (s : State) (c id : Nat) : Bool :=
  (List.range 16).any fun n => s.flag (Reg.CAN_TPDO_CFG_EN c n) && s.get (Reg.CAN_TPDO_CFG_COBID c n) = id

/-- A frame joins the raw requests of a controller, which refuses the identifier of an enabled TPDO (R531, R533). -/
def canQueue (s : State) (c cls : Nat) (f : CanFrame) : State :=
  let x := s.canCtl c
  if s.tpdoOwns c f.id then s.canResult c .refused
  else if 32 ≤ x.raw.length then s.canResult c .noCredit
  else ((s.put (Reg.CAN_TX_RESULT_VALID c) 0).setCan c { x with raw := x.raw ++ [(cls, f)] }).canPump c

/-- The device sends a frame of a class on every bus in use (R527). -/
def canSend (s : State) (cls : Nat) (f : CanFrame) : State := s.canTargets.foldl (fun s c => s.canQueue c cls f) s

/-- The frame that CAN_TXBUF holds (R554). -/
def txBuf (s : State) (c : Nat) : CanFrame :=
  let w := (s.reg (Reg.CAN_TXBUF c 0)).toNat
  let n := dlcBytes ((s.reg (Reg.CAN_TXBUF c 1)).toNat % 16)
  ⟨bits w 0 29, bits w 29 1 = 1, bits w 30 1 = 1, bits w 31 1 = 1, s.regBytes (Reg.CAN_TXBUF c 2) n⟩

/-- CAN_RAW_TRANSMIT: a write of CAN_TX_REQ with GO (R525, R527, R531, R533). -/
def canRaw (s : State) (c cls : Nat) : State :=
  let f := s.txBuf c
  if f.ide || !s.flag (Reg.CAN_CTRL_EN c) || s.tpdoOwns c f.id || (s.canMode = 0 && c = 1) then s.canResult c .refused
  else if s.canMode = 0 then s.canQueue c cls f
  else s.canSend cls f

/-- A trigger on one controller: one request for the TPDO, into which further triggers merge (R529, R532). -/
def tpdoTrigger (s : State) (c n : Nat) : State :=
  let x := s.canCtl c
  if !s.flag (Reg.CAN_TPDO_CFG_EN c n) || s.nmt ≠ 5 then s
  else if x.tpdo.contains n then s.count (Reg.CAN_TX_MERGED_COUNT c)
  else (s.setCan c { x with tpdo := x.tpdo ++ [n] }).canPump c

/-- A trigger of a TPDO of a bus reaches every controller in use (R527, R532). -/
def tpdoFire (s : State) (c n : Nat) : State :=
  (if s.canMode = 0 then [c] else s.canTargets).foldl (fun s c => s.tpdoTrigger c n) s

/-- CAN_FRAME_TRANSMITTED: the loaded frame finishes; none does in bus-off or disabled (R525, R554). -/
def canDone (s : State) (c : Nat) : State :=
  let x := s.canCtl c
  match x.loaded with
  | none => s
  | some f =>
    if 2 ≤ s.get (Reg.CAN_STATUS_STATE c) then s else
    let s := (s.setCan c { x with loaded := none }).emitOut (.can c f)
    (((s.canResult c .ok).count (Reg.CAN_TX_FRAMES_COUNT c)).raise (Reg.CAN_INT_EN c) 3).canPump c

/-- CAN_TOKEN_AVAILABLE: the next token is due (R533, R534). -/
def canToken (s : State) (c : Nat) : State :=
  let s := if s.get (Reg.CAN_TXLIM_STAT_TOKENS c) = 0 then
    s.reach ((s.canCtl c).since + ceilDiv 200000000 (max 1 (s.get (Reg.CAN_TXLIM_RATE c)))) else s
  (s.canRefill c).canPump c

/-! Fault confinement and bus modes (R525, R527). -/

/-- The fault state of a controller. -/
def canState (s : State) (c st : Nat) : State :=
  if s.get (Reg.CAN_STATUS_STATE c) = st then s
  else (s.put (Reg.CAN_STATUS_STATE c) st).setCan c { s.canCtl c with stateFrom := s.now }

/-- CAN_BUS_ERROR: the error counters that ISO 11898-1 gives after a bus error (R525, log entry 19). -/
def canError (s : State) (c tec rec : Nat) : State :=
  if 2 ≤ s.get (Reg.CAN_STATUS_STATE c) then s
  else
    let s := (s.put (Reg.CAN_STATUS_TEC c) (min 255 tec)).put (Reg.CAN_STATUS_REC c) (min 255 rec)
    if 256 ≤ tec then
      (((s.canState c 2).count (Reg.CAN_BUSOFF_COUNT c)).log .can c 0x5801 srcManager).raise (Reg.CAN_INT_EN c) 1
    else s.canState c (if 128 ≤ tec ∨ 128 ≤ rec then 1 else 0)

/-- CAN_BUSOFF_RECOVERY (R525). -/
def canRecover (s : State) (c : Nat) : State :=
  if s.get (Reg.CAN_STATUS_STATE c) = 2 ∧ s.flag (Reg.CAN_CTRL_AUTO_REC c) then
    (((s.canState c 0).put (Reg.CAN_STATUS_TEC c) 0).put (Reg.CAN_STATUS_REC c) 0).canPump c
  else s

/-- What waits on one bus moves to the other. -/
def canMove (s : State) (a b : Nat) : State :=
  let x := s.canCtl a
  let y := s.canCtl b
  let s := s.setCan a { x with raw := [], tpdo := [] }
  (s.setCan b { y with raw := y.raw ++ x.raw, tpdo := y.tpdo ++ (x.tpdo.filter fun n => !y.tpdo.contains n) }).canPump b

/-- CAN_STANDBY_FAILOVER: bus 0 has been in bus-off for 1 s (R527). -/
def canFailover (s : State) : State :=
  if s.canMode = 2 ∧ !s.canStandby ∧ s.get (Reg.CAN_STATUS_STATE 0) = 2 then
    ({ s.reach ((s.canCtl 0).stateFrom + 200000000) with canStandby := true }).canMove 0 1
  else s

/-- CAN_STANDBY_RETURN: bus 0 has been error-active for 10 s (R527). -/
def canReturn (s : State) : State :=
  if s.canMode = 2 ∧ s.canStandby ∧ s.get (Reg.CAN_STATUS_STATE 0) = 0 then
    ({ s.reach ((s.canCtl 0).stateFrom + 2000000000) with canStandby := false }).canMove 1 0
  else s

/-! The receive buffer (R554). -/

/-- CAN_RXBUF shows the head entry and CAN_RX_LEVEL the fill. -/
def rxView (s : State) (c : Nat) : State :=
  let l := (s.canCtl c).rx
  let s := s.put (Reg.CAN_RX_LEVEL_N c) l.length
  match l with
  | [] => s
  | (f, t) :: _ =>
    let w0 := f.id % 2 ^ 29 + (if f.ide then 2 ^ 29 else 0) + (if f.fdf then 2 ^ 30 else 0) + (if f.brs then 2 ^ 31 else 0)
    let s := (s.setReg (Reg.CAN_RXBUF c 0) (BitVec.ofNat 32 w0)).setReg (Reg.CAN_RXBUF c 1) (BitVec.ofNat 32 (dlcOf f.data.length))
    let s := s.put64 (Reg.CAN_RXBUF c 2) t
    (List.range 16).foldl (fun s i => s.setReg (Reg.CAN_RXBUF c (4 + i)) (BitVec.ofNat 32 (ofLe ((f.data.drop (4 * i)).take 4)))) s

/-- A frame joins the receive buffer of 64 frames (R36, R554). -/
def rxStore (s : State) (c : Nat) (f : CanFrame) : State :=
  let x := s.canCtl c
  if 64 ≤ x.rx.length then s.count (Reg.CAN_RX_DROP_COUNT c)
  else ((s.setCan c { x with rx := x.rx ++ [(f, s.now)] }).rxView c).raise (Reg.CAN_INT_EN c) 0

/-- A frame that the other bus brought within the last 2 ms under PARALLEL (R527). -/
def canTwin (s : State) (c : Nat) (f : CanFrame) : Bool :=
  s.canMode = 1 && (s.canCtl (1 - c)).recent.any fun r => r.1.id = f.id && r.1.ide = f.ide && r.1.data = f.data && decide (s.now ≤ r.2 + 400000)

/-- A frame from the bus reaches the device: none where it is discarded (R525, R527). -/
def canTake (s : State) (c : Nat) (f : CanFrame) (remote : Bool) : State × Bool :=
  if !s.flag (Reg.CAN_CTRL_EN c) || !s.canUsed c then (s, false)
  else if remote then (s.count (Reg.CAN_RX_DROP_COUNT c), false)
  else
    let s := s.count (Reg.CAN_RX_FRAMES_COUNT c)
    if s.canTwin c f then (s.count (Reg.CAN_DUP_DISCARD_COUNT c), false)
    else
      let x := s.canCtl c
      let recent := (x.recent.filter fun r => decide (s.now ≤ r.2 + 400000)) ++ [(f, s.now)]
      (if s.canMode = 1 then s.setCan c { x with recent := recent } else s, true)

/-- CAN_RX_POP (R554). -/
def canPop (s : State) (c : Nat) : State :=
  let x := s.canCtl c
  (s.setCan c { x with rx := x.rx.tail }).rxView c

end State

/-- CAN_RAW_TRANSMIT (R533). -/
def execCanRawTransmit (bus : Fin 2) (cls : Fin 4) (s : State) : Result := s.done (s.canRaw bus.val cls.val)

/-- CAN_TOKEN_AVAILABLE (R534). -/
def execCanTokenAvailable (bus : Fin 2) (s : State) : Result := s.done (s.canToken bus.val)

/-- CAN_FRAME_TRANSMITTED (R554). -/
def execCanFrameTransmitted (bus : Fin 2) (s : State) : Result := s.done (s.canDone bus.val)

/-- CAN_BUS_ERROR (R525). -/
def execCanBusError (bus : Fin 2) (tec rec : Fin 512) (s : State) : Result := s.done (s.canError bus.val tec.val rec.val)

/-- CAN_BUSOFF_RECOVERY (R525). -/
def execCanBusoffRecovery (bus : Fin 2) (s : State) : Result := s.done (s.canRecover bus.val)

/-- CAN_STANDBY_FAILOVER (R527). -/
def execCanStandbyFailover (s : State) : Result := s.done s.canFailover

/-- CAN_STANDBY_RETURN (R527). -/
def execCanStandbyReturn (s : State) : Result := s.done s.canReturn

/-- CAN_RX_POP (R554). -/
def execCanRxPop (bus : Fin 2) (s : State) : Result := s.done (s.canPop bus.val)

end Sys2Proof.Machine
end

