-- ==== Sys2Proof/Machine/Guard.lean ====
section
/-! DEFINITION. The egress guard and the GPIO pins: candidates, their four stages, safe states and sinks (R464 to R473). -/

namespace Sys2Proof.Machine

namespace State

/-- Change the guard. -/
def onGuard (s : State) (f : Guard → Guard) : State := { s with guard := f s.guard }

/-- A signed value of a channel's register. -/
def egrInt (s : State) (a : Nat) : Int := sext 32 (s.reg a).toNat

/-! Pins (R464, R470, R471). -/

/-- The channel that a GPIO pin is bound to: an enabled or disabled one whose sink is GPIO with that pin. -/
def pinChannel (s : State) (i : Nat) : Option Nat :=
  (List.range 64).find? fun n => s.get (Reg.EGR_CH_CTRL_SINK n) = 3 && s.get ⟨Reg.EGR_CH_SINK n, 0, 5⟩ = i

/-- What a pin drives (R470, R471). -/
def pinDrive (s : State) (i : Nat) : State :=
  let set := fun (level safe : Nat) => (s.put (Reg.EGR_GPO_STAT_LEVEL i) level).put (Reg.EGR_GPO_STAT_SAFE i) safe
  let safe := s.get (Reg.EGR_GPO_CFG_SAFE_LEVEL i)
  if !s.flag (Reg.EGR_GPO_CFG_OUT_EN i) then set 0 0
  else match s.pinChannel i with
    | none => set safe 1
    | some n =>
      if s.flag (Reg.EGR_CH_STATUS_SAFE n) then set safe 1
      else
        let on := decide (sext 16 (s.get ⟨Reg.EGR_CH_SINK n, 16, 16⟩) ≤ s.egrInt (Reg.EGR_CH_LAST n))
        set (if on != s.flag (Reg.EGR_GPO_CFG_INVERT i) then 1 else 0) 0

/-! Sinks (R470). -/

/-- The bytes of a TPDO buffer that a channel owns, as controller, TPDO, offset and width; a width code w stands for 2^w
bytes (R470, R531, log entry 21). -/
def canBytes (s : State) (n : Nat) : Nat × Nat × Nat × Nat :=
  let p := (s.reg (Reg.EGR_CH_SINK n)).toNat
  (bits p 0 1, bits p 1 4, bits p 5 6, 2 ^ min 2 (bits p 11 2))

/-- Write a value into the bytes a channel owns, in both controllers where the bus mode joins them (R470, R574). -/
def canWrite (s : State) (n v : Nat) : State :=
  let (c, t, off, w) := s.canBytes n
  (if s.canMode = 0 then [c] else [0, 1]).foldl (fun s c =>
    (List.range w).foldl (fun s i =>
      if off + i < 64 then s.putByte (Reg.CAN_TPDO_BUF c (16 * t) + off + i) (bits v (8 * i) 8) else s) s) s

/-- A guard datagram (R453, R470). -/
def ethWrite (s : State) (n v : Nat) : State :=
  let p := s.get ⟨Reg.EGR_CH_SINK n, 0, 1⟩
  let seq := s.guard.seq.at p
  let t0 := if s.get Reg.TB_CTRL_DISC = 2 + p then 5 * s.now + s.get64 (Reg.SEN_ETH_EPOCH_LO p) else 0
  let data := [0x5A, 0x4E, 1, 3] ++ leBytes 4 seq ++ leBytes 8 t0 ++ leBytes 2 n ++ [0, 0] ++ leBytes 4 v
  let mac := s.get64 (Reg.EGR_ETH_DMAC_LO p) % 2 ^ 48
  (s.onGuard fun g => { g with seq := g.seq.put p ((seq + 1) % 2 ^ 32) }).emitOut
    (.datagram p mac (s.get (Reg.EGR_ETH_DIP_VALUE p)) (s.get (Reg.EGR_ETH_PORTS_DST p)) (s.get (Reg.EGR_ETH_PORTS_SRC p)) data)

/-- An entry of the host output ring; one place of the ring stays free (R470, R487, log entry 22). -/
def hostWrite (s : State) (n v : Nat) : State :=
  let len := max 1 (s.get Reg.EGR_HOST_LEN_ENTRIES)
  let wr := s.get Reg.EGR_HOST_PTR_WR
  let rd := s.get Reg.EGR_HOST_PTR_RD
  if (wr + 1) % len = rd % len then s.count Reg.EGR_HOST_DROP_COUNT
  else
    let data := leBytes 8 s.stepNum ++ leBytes 2 n ++ [0, 0] ++ leBytes 4 v
    let s := (s.wrBytes (s.get64 Reg.EGR_HOST_BASE_LO + 16 * wr) data).put Reg.EGR_HOST_PTR_WR ((wr + 1) % len)
    if wr = rd then s.msix 10 else s

/-- A value goes to the sink of a channel. -/
def sink (s : State) (n : Nat) (v : Int) : State :=
  let w := toBits 32 v
  let s := s.setReg (Reg.EGR_CH_LAST n) (BitVec.ofNat 32 w)
  match s.get (Reg.EGR_CH_CTRL_SINK n) with
  | 1 =>
    let (c, t, _, _) := s.canBytes n
    let s := s.canWrite n w
    if s.flag (Reg.CAN_TPDO_CFG_AUTO c t) then s.tpdoFire c t else s
  | 2 => s.ethWrite n w
  | 3 => s.pinDrive (s.get ⟨Reg.EGR_CH_SINK n, 0, 5⟩)
  | 4 => s.hostWrite n w
  | _ => s

/-! Safe states (R468). -/

/-- The FORCE_SAFE policy of a GPIO input applies (R464). -/
def gpiForced (s : State) (i : Nat) : Bool :=
  s.get (Reg.SEN_GPI_CFG_POLICY i) = 2 && (s.flag (Reg.SEN_GPI_STAT_OVERRUN i) || s.flag (Reg.SEN_GPI_STAT_STUCK i))

/-- The gate of a channel is inactive or forced. -/
def gateShut (s : State) (n : Nat) : Bool :=
  let i := s.get (Reg.EGR_CH_CTRL_GATE_PIN n)
  s.flag (Reg.EGR_CH_CTRL_GATE_EN n) &&
    (s.gpiForced i || s.get (Reg.SEN_GPI_STAT_GATE i) = s.get (Reg.SEN_GPI_CFG_ACTIVE_LOW i))

/-- The lifecycle holds outputs at their safe state (R64). -/
def lifecycleSafe (s : State) : Bool := s.get Reg.SEC_LC_STATE = 0 || s.get Reg.SEC_LC_STATE = 3

/-- The causes of a channel's safe state, in the order of R468; last the hold of R592, R626 and R635, which CAUSE has no bit
for. -/
def causes (s : State) (n : Nat) : Nat :=
  let l := [!s.flag (Reg.EGR_CH_CTRL_EN n), s.flag (Reg.EGR_CH_CTRL_FORCE_SAFE n) || s.flag Reg.EGR_FORCE_ALL,
    s.flag Reg.FLT_WDOG_STAT_EXPIRED, s.lifecycleSafe, s.flag Reg.SEC_HUSK_STAT_WIPING, s.flag Reg.EGR_CTRL_SAFE_ALL,
    s.guard.silent.contains n, s.gateShut n, s.power.safe]
  l.zipIdx.foldl (fun a x => a + if x.1 then 2 ^ x.2 else 0) 0

/-- The global causes of EGR_STATUS. -/
def globalCauses (s : State) : Nat :=
  let l := [s.flag Reg.FLT_WDOG_STAT_EXPIRED, s.lifecycleSafe, s.flag Reg.SEC_HUSK_STAT_WIPING, s.flag Reg.EGR_CTRL_SAFE_ALL,
    s.flag Reg.EGR_FORCE_ALL]
  l.zipIdx.foldl (fun a x => a + if x.1 then 2 ^ x.2 else 0) 0

/-- One channel meets its causes: on entry SAFE goes to the sink, past stages 2 and 3 (R468, R473). -/
def guardChannel (s : State) (n : Nat) : State :=
  let c := s.causes n
  if s.flag (Reg.EGR_CH_STATUS_SAFE n) then
    if c = 0 then s.put (Reg.EGR_CH_STATUS_CAUSE n) 0 else s.put (Reg.EGR_CH_STATUS_CAUSE n) c
  else if c = 0 then s
  else
    let s := (s.put (Reg.EGR_CH_STATUS_SAFE n) 1).put (Reg.EGR_CH_STATUS_CAUSE n) c
    let s := s.onGuard fun g => { g with held := g.held.filter fun h => h.1 ≠ n }
    let s := s.sink n (s.egrInt (Reg.EGR_CH_SAFE n))
    (s.log .egr 0 0x5502 srcManager c).msix 14

/-- Every channel meets its causes, in ascending number (R468, R472). -/
def guardScan (s : State) : State :=
  (List.range 64).foldl guardChannel (s.put Reg.EGR_STATUS_CAUSE s.globalCauses)

/-! Candidates (R466, R467). -/

/-- Stage 4: a value goes out. -/
def guardEmit (s : State) (n : Nat) (x : Int) : State :=
  ((s.sink n x).count (Reg.EGR_CH_EMIT_COUNT n)).onGuard fun g => { g with
    emitted := g.emitted.put n (s.now + 1), held := g.held.filter fun h => h.1 ≠ n }

/-- GAP has passed since the last emission of a channel. -/
def gapOver (s : State) (n : Nat) : Bool :=
  match s.guard.emitted.at n with
  | 0 => true
  | t + 1 => decide (t + 200 * s.get (Reg.EGR_CH_GAP_US n) ≤ s.now)

/-- A candidate of a channel passes range, dead band and rate (R467); the first one after every safe cause has ended goes
out past stages 2 and 3 (R468). -/
def guardValue (s : State) (n : Nat) (x : Int) : State :=
  let s := s.onGuard fun g => { g with heard := g.heard.put n s.now, silent := g.silent.filter fun m => m ≠ n }
  if s.causes n ≠ 0 then s.guardChannel n
  else
    let lo := s.egrInt (Reg.EGR_CH_LO n)
    let hi := s.egrInt (Reg.EGR_CH_HI n)
    let y := s.egrInt (Reg.EGR_CH_LAST n)
    let c := sat x lo hi
    let s := if c = x then s else (s.count (Reg.EGR_CH_CLAMP_COUNT n)).logOnceBy n .egr 0 0x5501 srcManager
    if s.flag (Reg.EGR_CH_STATUS_SAFE n) then
      let s := (s.put (Reg.EGR_CH_STATUS_SAFE n) 0).put (Reg.EGR_CH_STATUS_CAUSE n) 0
      (s.guardEmit n c).log .egr 0 0x5503 srcManager
    else if (c - y).natAbs < (s.reg (Reg.EGR_CH_DB n)).toNat then s
    else if s.gapOver n then s.guardEmit n c
    else
      let s := if s.guard.held.any fun h => h.1 = n then s.count (Reg.EGR_CH_HELD_COUNT n) else s
      s.onGuard fun g => { g with held := (g.held.filter fun h => h.1 ≠ n) ++ [(n, toBits 32 c)] }

/-- A tap message of a channel under COUNT or GRADE_MAX: its records join their step; a message for a step whose candidate
is already formed is late (R145, R466). -/
def tapMessage (s : State) (n : Nat) (body : Nat) : State :=
  let low := bits body 0 32
  let step := s.stepNum - (s.stepNum + 2 ^ 32 - low) % 2 ^ 32
  if step + 1 < s.stepNum then s.count (Reg.EGR_CH_LATE_COUNT n)
  else
    let second := bits body 80 48
    let rs := bits body 32 48 :: (if second = 0 then [] else [second])
    let top := rs.foldl (fun m r => max m (recGraded r)) 0
    let old := (s.guard.taps.find? fun x => x.1 = n && x.2.1 = step).getD (n, step, 0, 0)
    s.onGuard fun g => { g with
      taps := (g.taps.filter fun x => !(x.1 = n && x.2.1 = step)) ++ [(n, step, old.2.2.1 + rs.length, max old.2.2.2 top)] }

/-- GUARD_QUEUE_CANDIDATE: the guard pops the head message of queue 896 + n (R466). -/
def guardPop (s : State) (n : Nat) : State :=
  let i := 896 + n
  if !s.flag (Reg.EGR_CH_CTRL_EN n) || s.qMode 1152 i ≠ 1 || s.qAvail 1152 i = 0 then s
  else match s.qRing 1152 i with
    | none => s
    | some ring =>
      let body := s.rdLe (slotAddr ring (s.qSlots 1152 i) (s.qHead 1152 i)) 16
      let s := s.queueTake 1152 i 1
      if s.get (Reg.EGR_CH_CTRL_SRC_MODE n) = 0 then s.guardValue n (sext 32 (bits body 32 32)) else s.tapMessage n body

/-- At the close of step t the candidates for step t − 1 of channels under COUNT and GRADE_MAX are formed, in ascending
channel number (R466, R472). -/
def guardClose (s : State) (t : Nat) : State :=
  (List.range 64).foldl (fun (s : State) n =>
    let mode := s.get (Reg.EGR_CH_CTRL_SRC_MODE n)
    if !s.flag (Reg.EGR_CH_CTRL_EN n) || mode = 0 || mode = 3 || t = 0 then s
    else
      let x := (s.guard.taps.find? fun x => x.1 = n && x.2.1 + 1 = t).getD (n, t - 1, 0, 0)
      let s := s.onGuard fun g => { g with taps := g.taps.filter fun x => !(x.1 = n && x.2.1 + 1 ≤ t) }
      s.guardValue n (if mode = 1 then x.2.2.1 else x.2.2.2)) s

/-- GUARD_GAP_EXPIRE: a held value goes out when GAP is over (R467). -/
def gapExpire (s : State) (n : Nat) : State :=
  match s.guard.held.find? fun h => h.1 = n with
  | none => s
  | some h =>
    let due := match s.guard.emitted.at n with
      | 0 => 0
      | t + 1 => t + 200 * s.get (Reg.EGR_CH_GAP_US n)
    let s := s.reach due
    if s.causes n ≠ 0 then s.guardChannel n else s.guardEmit n (sext 32 h.2)

/-- GUARD_SILENCE_EXPIRE: no candidate for SILENCE ms (R468). -/
def silenceExpire (s : State) (n : Nat) : State :=
  let ms := s.get (Reg.EGR_CH_SILENCE_MS n)
  if ms = 0 ∨ s.guard.silent.contains n then s
  else
    let s := s.reach (s.guard.heard.at n + 200000 * ms)
    (s.onGuard fun g => { g with silent := g.silent ++ [n] }).guardChannel n

/-- GUARD_FORCE_SAFE_WRITE: EGR_CH_CTRL.FORCE_SAFE of a channel, or EGR_FORCE.ALL (R468). -/
def forceSafe (s : State) (ch : Option Nat) (on : Bool) : State :=
  let v := if on then 1 else 0
  match ch with
  | some n => (s.put (Reg.EGR_CH_CTRL_FORCE_SAFE n) v).guardChannel n
  | none => (s.put Reg.EGR_FORCE_ALL v).guardScan

/-! Bounds (R469). -/

/-- The range that a sink's width carries, signed. -/
def sinkRange (s : State) (n : Nat) : Int × Int :=
  let w := if s.get (Reg.EGR_CH_CTRL_SINK n) = 1 then 8 * (s.canBytes n).2.2.2 else 32
  (-(2 ^ (w - 1) : Nat), (2 ^ (w - 1) : Nat) - 1)

/-- The bounds of a channel hold together (R469); an unconfigured sink carries 32 bits. -/
def boundsOk (s : State) (n : Nat) : Bool :=
  let lo := s.egrInt (Reg.EGR_CH_LO n)
  let hi := s.egrInt (Reg.EGR_CH_HI n)
  let safe := s.egrInt (Reg.EGR_CH_SAFE n)
  let (least, most) := s.sinkRange n
  let pin := s.get ⟨Reg.EGR_CH_SINK n, 0, 5⟩
  let pinOk := s.get (Reg.EGR_CH_CTRL_SINK n) ≠ 3 ||
    (s.flag (Reg.EGR_GPO_CFG_OUT_EN pin) &&
      (List.range 64).all fun m => m = n || !(s.get (Reg.EGR_CH_CTRL_SINK m) = 3 && s.get ⟨Reg.EGR_CH_SINK m, 0, 5⟩ = pin))
  decide (lo ≤ hi) && decide (lo ≤ safe) && decide (safe ≤ hi) && decide (least ≤ lo) && decide (hi ≤ most) && pinOk

/-! GPIO inputs (R464). -/

/-- The gate level of an input after its policy, and the word of filtered levels. -/
def gpiGate (s : State) (i : Nat) : State :=
  let low := s.get (Reg.SEN_GPI_CFG_ACTIVE_LOW i)
  let level := s.get (Reg.SEN_GPI_STAT_LEVEL i)
  let applies := decide (16 ≤ s.hub.rejects.at i) || (s.flag (Reg.SEN_GPI_STAT_STUCK i) && level ≠ low)
  let gate := if applies && s.get (Reg.SEN_GPI_CFG_POLICY i) = 1 then low else level
  (s.put (Reg.SEN_GPI_STAT_GATE i) gate).put ⟨Reg.SEN_GPI_LEVELS, i, 1⟩ level

/-- The channels gated by an input meet their causes. -/
def gpiGuard (s : State) (i : Nat) : State :=
  ((List.range 64).filter fun n => s.flag (Reg.EGR_CH_CTRL_GATE_EN n) && s.get (Reg.EGR_CH_CTRL_GATE_PIN n) = i).foldl
    guardChannel s

/-- GPIO_INPUT_CHANGE: an input took a level for a number of samples in a row (R464). -/
def gpioChange (s : State) (i : Nat) (high : Bool) (samples : Nat) : State :=
  let level := if high then 1 else 0
  let s := s.put (Reg.SEN_GPI_STAT_RAW i) level
  if level = s.get (Reg.SEN_GPI_STAT_LEVEL i) then s
  else
    let s :=
      if s.get (Reg.SEN_GPI_CFG_FLT i) ≤ samples then
        let active := level ≠ s.get (Reg.SEN_GPI_CFG_ACTIVE_LOW i)
        (s.put (Reg.SEN_GPI_STAT_LEVEL i) level).onHub fun h => { h with
          rejects := h.rejects.put i 0, activeFrom := h.activeFrom.put i (if active then s.now + 1 else 0) }
      else
        let k := s.hub.rejects.at i + 1
        let s := s.onHub fun h => { h with rejects := h.rejects.put i k }
        if k = 16 then (s.put (Reg.SEN_GPI_STAT_OVERRUN i) 1).log .sen 0 0x5601 srcManager else s
    (s.gpiGate i).gpiGuard i

/-- GPIO_STUCK_EXPIRE: an input has been active for STUCK_MS (R464). -/
def gpioStuck (s : State) (i : Nat) : State :=
  let ms := s.get (Reg.SEN_GPI_STUCK_MS i)
  match s.hub.activeFrom.at i with
  | 0 => s
  | t + 1 =>
    if ms = 0 then s
    else
      let s := ((s.reach (t + 200000 * ms)).put (Reg.SEN_GPI_STAT_STUCK i) 1).onHub fun h =>
        { h with activeFrom := h.activeFrom.put i 0 }
      ((s.log .sen 0 0x5602 srcManager).gpiGate i).gpiGuard i

end State

/-- GPIO_INPUT_CHANGE (R464). -/
def execGpioInputChange (pin : Fin 32) (high : Bool) (samples : Nat) (s : State) : Result :=
  s.done (s.gpioChange pin.val high samples)

/-- GPIO_STUCK_EXPIRE (R464). -/
def execGpioStuckExpire (pin : Fin 32) (s : State) : Result := s.done (s.gpioStuck pin.val)

/-- GUARD_QUEUE_CANDIDATE (R466). -/
def execGuardQueueCandidate (channel : Fin 64) (s : State) : Result := s.done (s.guardPop channel.val)

/-- GUARD_WRITE_CANDIDATE (R466). -/
def execGuardWriteCandidate (channel : Fin 64) (value : Word) (s : State) : Result :=
  s.done (s.guardValue channel.val value.toInt)

/-- GUARD_GAP_EXPIRE (R467). -/
def execGuardGapExpire (channel : Fin 64) (s : State) : Result := s.done (s.gapExpire channel.val)

/-- GUARD_SILENCE_EXPIRE (R468). -/
def execGuardSilenceExpire (channel : Fin 64) (s : State) : Result := s.done (s.silenceExpire channel.val)

/-- GUARD_FORCE_SAFE_WRITE (R468). -/
def execGuardForceSafeWrite (channel : Option (Fin 64)) (on : Bool) (s : State) : Result :=
  s.done (s.forceSafe (channel.map (·.val)) on)

end Sys2Proof.Machine
end

