-- ==== Sys2Proof/Machine/Plasticity.lean ====
section
/-! DEFINITION. On-site learning: the learning pass, its bounds and the modulator queue (R239 to R263). -/

namespace Sys2Proof.Machine

/-- What one part of a pass has done: synapses visited, entries read, groups checked, scale entries checked, the drift
added, the weights rewritten, whether an operand was not finite, and the failed check. -/
structure Pass where
  st : State
  syns : Nat
  entries : Nat
  groups : Nat
  scales : Nat
  drift : Nat
  rewritten : Nat
  odd : Bool
  bad : Option (Bad × Nat)

/-- What a slot's pass reads at its start (R247, R248, R256). -/
structure Learn where
  pod : Nat
  slot : Nat
  d : Desc
  /-- The state at the start of the pass. -/
  at_ : State
  parity : Nat
  eta : Nat
  m : Int
  opened : Bool

namespace Learn

/-- The pre-state word of source offset `i` (R242). -/
def preAddr (l : Learn) (i : Nat) : Nat := podBase l.pod + l.d.preBase + 4 * i

/-- X and n of a source as the pass reads them (R247). -/
def pre (l : Learn) (i : Nat) : Nat × Nat :=
  let w := l.at_.rdLe (l.preAddr i) 4
  (bits w 0 16, bits w (16 + 8 * l.parity) 8)

/-- SPIKED and y16 of a target (R248, R262). -/
def post (l : Learn) (ord : Nat) : Bool × Nat :=
  match l.at_.ownerOf l.pod l.slot ord with
  | none => (false, 0)
  | some (t, c, k) =>
    let x := l.at_.ctx t c
    let w := l.at_.rdLe (tileBase t + x.stateBase + k * x.size) x.size
    if x.fmt = 0 then (bits w 22 1 = 1, if x.plast then bits w 24 8 * 256 else 0)
    else (bits w 56 1 = 1, if x.plast then bits w 32 16 else 0)

/-- The new eligibility of a synapse (R248). -/
def elig (l : Learn) (e : Int) (x n : Nat) (spiked : Bool) (y16 : Nat) : Int :=
  let e := if l.d.eDecay = 0 then e else e - shr e l.d.eDecay
  let p := if l.d.ltp && spiked then rne ((x * l.d.aPos : Nat) : Int) 16 else 0
  let q := if l.d.ltd && 0 < n then rne ((y16 * l.d.aNeg * n : Nat) : Int) 16 else 0
  sat (e + p - q) (-128) 127

/-- The weight change of a synapse before the clamps (R248). -/
def change (l : Learn) (e : Int) : Int := sat (rne (l.eta * l.m * e) l.d.modSh) (-(l.d.stepMax : Int)) l.d.stepMax

/-- The places below the binary point in which weights and clamps are exact. -/
def places : Nat := 136

/-- The new encoding of a weight, where it and the clamps are finite (R248). -/
def weight (l : Learn) (fmt raw : Nat) (dw : Int) : Option Nat :=
  let w := decodeWeight fmt raw
  let lo := decodeScale l.d.wLo
  let hi := decodeScale l.d.wHi
  if w.finite && lo.finite && hi.finite then
    some (convWeight fmt (sat (w.scaled places + dw * 2 ^ (places - 4)) (lo.scaled places) (hi.scaled places)) places)
  else none

/-- One synapse: its shadow byte at `ea`, its stored weight, and how a new weight is written (R248). -/
def synapse (l : Learn) (a : Pass) (i ord fmt raw ea : Nat) (store : State → Nat → State) : Pass :=
  let (x, n) := l.pre i
  let (spiked, y16) := l.post ord
  let e := l.elig (sext 8 (a.st.rd8 ea).toNat) x n spiked y16
  let a := { a with st := a.st.wrLe ea 1 (toBits 8 e), syns := a.syns + 1 }
  let dw := l.change e
  match l.weight fmt raw dw with
  | none => { a with odd := true }
  | some w =>
    if l.m = 0 ∨ e = 0 ∨ !l.opened ∨ w = raw then a
    else { a with st := store a.st w, drift := a.drift + dw.natAbs, rewritten := a.rewritten + 1 }

/-- The new pre-state word of a source (R249). -/
def preUpdate (l : Learn) (a : Pass) (i : Nat) : Pass :=
  let (x, n) := l.pre i
  let x' := min 65535 (decay x l.d.preDecay + l.d.preInc * n)
  let s := a.st.wrLe (l.preAddr i) 2 x'
  { a with st := s.wrLe (l.preAddr i + 2 + l.parity) 1 0 }

/-- Write a weight into its entry of a LIST group (R248). -/
def storeEntry (fmt a x : Nat) (s : State) (w : Nat) : State :=
  if fmt = 0 then
    let b := a + 3 * (x / 2) + 1
    if x % 2 = 0 then s.wrLe b 1 ((s.rd8 b).toNat / 16 * 16 + w)
    else s.wrLe (b + 1) 1 ((s.rd8 (b + 1)).toNat % 16 + 16 * w)
  else s.wrLe (a + 2 * x + 1) 1 w

/-- The groups of a run of the pass (R244, R248). -/
def runGroups (l : Learn) (g : Seg) (x : RunAt) (exact : Bool) (i : Nat) : (left j at_ cursor : Nat) → Pass → Pass
  | 0, _, p, _, a =>
    if (if exact then p ≠ g.at_ + x.fin else !a.st.paddingOk g p) then { a with bad := some (.plain 0x4304 (x.first + x.groups - 1), l.d.srcBase + i) } else a
  | left + 1, j, p, cursor, a =>
    let gi := x.first + j
    let src := l.d.srcBase + i
    let sa := l.d.scale + 3 * (g.scaleIdx + gi)
    if g.at_ + x.fin ≤ p then { a with bad := some (.plain 0x4304 gi, src) }
    else if !State.inPodMem l.pod sa 3 then { a with bad := some (.plain 0x4306 gi, src) }
    else
      let marker := (a.st.rd8 p).toNat
      let tag := (a.st.scaleAt sa).1
      if tag ≠ marker then { a with bad := some (⟨0x4300, gi, tag, marker⟩, src) }
      else
        let fmt := bits marker 6 2
        let limit := g.at_ + x.fin - (p + 1)
        let r := a.st.readGroup fmt (p + 1) limit l.d.nT (if left = 0 then x.lastN else l.d.g) cursor 0 (limit + 1)
        let a := { a with entries := a.entries + r.entries, groups := a.groups + 1, scales := a.scales + 1 }
        let a := r.syns.zipIdx.foldl (fun a y => l.synapse a i y.1.ord fmt y.1.raw
          (podBase l.pod + l.d.eligBase + (g.scaleIdx + gi) * l.d.g + y.2) (storeEntry fmt (p + 1) y.1.entry)) a
        match r.bad with
        | some c => { a with bad := some (.plain c gi, src) }
        | none => l.runGroups g x exact i left (j + 1) (p + 1 + groupBytes fmt r.entries) r.cursor a

/-- The segment of one source (R248, R249). -/
def source (l : Learn) (a : Pass) (i : Nat) : Pass :=
  if a.bad.isSome then a
  else
    let d := l.d
    let src := d.srcBase + i
    let da := d.dir + 4 * i
    if !State.inPodMem l.pod da 8 then { a with bad := some (.plain 0x4306 0, src) }
    else
      let lo := a.st.rdLe da 4
      let hi := a.st.rdLe (da + 4) 4
      let p := d.seg + 16 * lo
      let a :=
        if lo = hi then a
        else if hi < lo || !State.inPodMem l.pod p (16 * (hi - lo)) then { a with bad := some (.plain 0x4306 0, src) }
        else
          let (g, bad) := a.st.readSeg p src (some (hi - lo)) d.g false
          match bad with
          | some c => { a with bad := some (.plain c 0, src) }
          | none => (List.range g.runs).foldl (fun a r =>
              if a.bad.isSome then a
              else
                let x := a.st.runAt g r
                l.runGroups g x (r + 1 ≠ g.runs) i x.groups 0 (g.at_ + x.off) 0 a) a
      if a.bad.isSome then a else l.preUpdate a i

/-- One block of a BLOCK store; the last one updates the pre-state words (R244, R249, R251). -/
def blockPart (l : Learn) (a : Pass) (b : Nat) : Pass :=
  let d := l.d
  let a := (List.range d.ng).foldl (fun (a : Pass) g =>
    if a.bad.isSome then a
    else
      let (ga, scales, bad) := a.st.blockScales (State.storeBlock l.pod d b) g
      match bad with
      | some x => { a with bad := some (x, b) }
      | none =>
        let a := { a with groups := a.groups + 1, entries := a.entries + d.g * 64, scales := a.scales + scales.length }
        (List.range d.g).foldl (fun a c => (List.range 64).foldl (fun a t =>
          if 64 * b + t < d.nT ∧ g * d.g + c < d.srcCount then
            let raw := a.st.blockWeight d ga c t
            let wa := if d.bfmt = 0 then ga + 16 + c * d.cb + t / 2 else ga + 16 + c * d.cb + t
            l.synapse a (g * d.g + c) (64 * b + t) d.bfmt raw
              (podBase l.pod + d.eligBase + ((b * d.ng + g) * d.g + c) * 64 + t) fun s w =>
                if d.bfmt = 0 then
                  let v := (s.rd8 wa).toNat
                  s.wrLe wa 1 (if t % 2 = 0 then v / 16 * 16 + w else v % 16 + 16 * w)
                else s.wrLe wa 1 w
          else a) a) a) a
  if a.bad.isNone && b + 1 = d.nb then (List.range d.srcCount).foldl l.preUpdate a else a

end Learn

/-- The engines of a pod with the cycle at which each is free, the latest end of a part issued, and the latest end of the
slot's parts (R251). -/
structure Sched where
  free : List (Nat × Nat)
  ends : Nat
  slotEnds : Nat

/-- The engine that is free first, the lowest index where several are. -/
def Sched.first (c : Sched) : Option (Nat × Nat) :=
  c.free.foldl (fun best e => match best with
    | none => some e
    | some b => if e.2 < b.2 then some e else best) none

namespace State

/-- Run one part on the next free engine: its work is counted at that engine (R251, R714, R715); with no engine the
part is discarded (R772). `after` is the cycle before which the part may not be issued. -/
def learnPart (s : State) (l : Learn) (c : Sched) (after sources : Nat) (work : Pass → Pass) : State × Sched × Pass :=
  let p0 : Pass := ⟨s, 0, 0, 0, 0, 0, 0, false, none⟩
  match c.first with
  | none =>
    match s.homeOf l.pod l.slot with
    | some home => (s.dropDead home, c, p0)
    | none => (s, c, p0)
  | some (t, at_) =>
    let r := work p0
    let e := max at_ after + 4 + sources + r.groups + ceilDiv r.entries 16
    let s := (r.st.countOp t 1 r.syns).countOp t 6 r.scales
    let s := if r.odd then s.logOnce .de (2000 + l.pod) 0x4305 srcDevice (l.d.proj + l.pod * 2 ^ 16) else s
    let s := match r.bad with
      | some (b, src) => s.faultSlot t l.pod l.slot l.d b src
      | none => s
    (s, ⟨c.free.map fun x => if x.1 = t then (t, e) else x, max c.ends e, max c.slotEnds e⟩, r)

/-- The parts of a slot in ascending order; a failed check skips the rest (R248, R251). -/
def learnParts (s : State) (l : Learn) (c : Sched) (drift count : Nat) : List (Nat × Bool × (Pass → Pass)) →
    State × Sched × Nat × Nat
  | [] => (s, c, drift, count)
  | (sources, last, work) :: rest =>
    let (s, c, r) := s.learnPart l c (if last then c.slotEnds else 0) sources work
    if r.bad.isSome then (s, c, drift + r.drift, count + r.rewritten)
    else s.learnParts l c (drift + r.drift) (count + r.rewritten) rest

/-- The weights of a slot close (R256). -/
def driftClose (s : State) (p n : Nat) : State :=
  ((s.put (Reg.DE_PL_STATUS_DRIFT_HIT p) 1).put (Reg.DE_PL_STATUS_HIT_SLOT p) n).log .de p 0x4320 srcDevice (s.desc p n).proj p

/-- The pass of one slot (R247 to R251, R256). -/
def learnSlot (s : State) (p n : Nat) (c : Sched) : State × Sched :=
  let d := s.desc p n
  let used := s.get (Reg.DE_PL_DRIFT_USED_DRIFT p n)
  let opened := decide (used < s.get (Reg.DE_PL_DRIFT_MAX_DRIFT p n))
  let l : Learn := ⟨p, n, d, s, s.launched % 2, min (s.get (Reg.DE_PL_CTRL_ETA p n)) (s.get (Reg.DE_PL_RATE_MAX_RATE p n)),
    sext 32 (s.get (Reg.DE_PL_MOD_SUM p d.modCh)), opened⟩
  let parts : List (Nat × Bool × (Pass → Pass)) :=
    if d.block then (List.range d.nb).map fun b => (d.srcCount, b + 1 = d.nb, fun a => l.blockPart a b)
    else (List.range (ceilDiv d.srcCount 256)).map fun k =>
      let m := min 256 (d.srcCount - 256 * k)
      (m, false, fun a => (List.range m).foldl (fun a i => l.source a (256 * k + i)) a)
  let (s, c, drift, count) := s.learnParts l { c with slotEnds := 0 } 0 0 parts
  let now := min (2 ^ 32 - 1) (used + drift)
  let s := (s.put (Reg.DE_PL_DRIFT_USED_DRIFT p n) now).count (Reg.DE_PL_UPDATES_COUNT p) count
  let s := s.onDelivery fun q => { q with rewritten := q.rewritten.put (64 * p + n) count }
  (if opened ∧ s.get (Reg.DE_PL_DRIFT_MAX_DRIFT p n) ≤ now then s.driftClose p n else s, c)

/-- The slots of a pod that learn (R239, R241, R262). -/
def learning (s : State) (p : Nat) : List Nat :=
  (List.range 64).filter fun n => s.flag (Reg.DE_PL_CTRL_EN p n) && !s.faulted p n && (s.desc p n).valid

/-- The stall cycles of a pass that issued a part, and what they add to its duration: free values (R251, log entry 152). -/
def passStalls (s : State) (p ends : Nat) : State :=
  if ends = 0 then s.put (Reg.DE_PL_LAST_CYCLES_CYCLES p) 0
  else
    let n := s.nextFree 24
    let k := s.useFree.nextFree 24 % (n + 1)
    ((s.useFree.useFree).count (Reg.DE_PL_STALL_COUNT p) n).put (Reg.DE_PL_LAST_CYCLES_CYCLES p) (min (2 ^ 24 - 1) (ends + k))

/-- The weights that a pod's last pass rewrote are forgotten (R266). -/
def rewrittenClear (s : State) (p : Nat) : State :=
  s.onDelivery fun q => { q with rewritten := q.rewritten.filter fun x => x.1 / 64 ≠ p }

/-- LEARNING_PASS: the pass of the step last launched in a pod, once in its update phase (R247). -/
def learningPass (s : State) (p : Nat) : State :=
  let s := s.drainDead p
  if !s.inUpdate ∨ !s.sweepsDone p ∨ p ∈ s.delivery.passed then s
  else
    let c : Sched := ⟨((List.range 16).map (podTile p)).filterMap fun t => if s.engineOk t then some (t, 0) else none, 0, 0⟩
    let (s, c) := (s.learning p).foldl (fun (x : State × Sched) n => x.1.learnSlot p n x.2) (s.rewrittenClear p, c)
    (s.passStalls p c.ends).onDelivery fun q => { q with passed := q.passed ++ [p] }

/-- The hardware refuses to let a slot learn (R239). -/
def learnBarred (s : State) (p n : Nat) : Bool :=
  let d := s.desc p n
  d.windowed || d.wintgt || s.get (Reg.DE_PL_RATE_MAX_RATE p n) = 0 || s.get (Reg.DE_PL_DRIFT_MAX_DRIFT p n) = 0 ||
    (!d.ltp && !d.ltd) || d.preBase = 0 || d.eligBase = 0

/-- A refused field write at a pod's arbiter (R59, R219). -/
def podViolation (s : State) (p n a : Nat) : State :=
  ((s.put (Reg.DE_ARB_STATUS_MODE_VIOLATION p) 1).put (Reg.DE_ARB_STATUS_VIOL_SLOT p) n).log .de p 0x4103 srcDevice p a

/-- EN of a slot is set, where the hardware does not refuse it (R59, R239). -/
def learnSet (s : State) (p n : Nat) : State :=
  if s.learnBarred p n then s.podViolation p n (Reg.DE_PL_CTRL p n) else s.put (Reg.DE_PL_CTRL_EN p n) 1

/-- What the loader wrote into the slots' EN bits stands where the hardware does not refuse it (R59, R239). -/
def learnLoad (s : State) : State :=
  let on := s.regs.filterMap fun x =>
    let o := (x.1 - 0x180000000) % 0x100000
    if 0x180000000 ≤ x.1 ∧ x.1 < 0x184800000 ∧ 0x81300 ≤ o ∧ o < 0x81400 ∧ x.2.getLsbD 0 then
      some ((x.1 - 0x180000000) / 0x100000, (o - 0x81300) / 4) else none
  on.foldl (fun s x => (s.put (Reg.DE_PL_CTRL_EN x.1 x.2) 0).learnSet x.1 x.2) s

/-- A write of DE_PL_CTRL (R239, R263). -/
def plCtrlWrite (s : State) (p n : Nat) (v : Word) : State :=
  let a := Reg.DE_PL_CTRL p n
  let barred := getF v 0 1 = 1 && !s.flag (Reg.DE_PL_CTRL_EN p n) && s.learnBarred p n
  let s' := s.writeOnly a v fun f => !(f.lo = 0 && barred)
  if barred then s'.podViolation p n a else s'

/-! The modulator queue (R253, R254). -/

/-- The level of the modulator queue. -/
def modLevel (s : State) : State := s.put Reg.SYNC_MODQ_STAT_LEVEL s.delivery.modQueue.length

/-- A modulator entry that comes too late (R254); the register counts to 255 and the object in 32 bits (R265, R266). -/
def modLate (s : State) (step ch : Nat) : State :=
  ((s.count Reg.SYNC_MODQ_STAT_LATE).countObj 32 0x2526 4).log .sync 0 0x4321 srcManager step ch

/-- Push a modulator entry for a step that lies `ahead` of the step in progress (R254). -/
def modPush (s : State) (ahead : Int) (step ch val : Nat) : State × Status :=
  if ahead < 0 then (s.modLate step ch, .late)
  else if 255 < ahead then (s, .refused)
  else if 64 ≤ s.delivery.modQueue.length then (s.count Reg.SYNC_MODQ_STAT_FULL_CNT, .noCredit)
  else ((s.onDelivery fun q => { q with modQueue := q.modQueue ++ [(step % 2 ^ 32, ch, val)] }).modLevel, .ok)

/-- Push an entry whose target is the low 32 bits of a step number, compared with a half-range of 2^31 (R254, R265). -/
def modPush32 (s : State) (step ch val : Nat) : State × Status :=
  s.modPush (sext 32 ((step + 2 ^ 32 - s.stepNum % 2 ^ 32) % 2 ^ 32)) step ch val

/-- MODQ_SETTLE at the close of a step: its entries join their channels, entries for earlier steps are late (R254). -/
def modSettle (s : State) (step : Nat) : State :=
  let low := step % 2 ^ 32
  let mine := s.delivery.modQueue.filter fun e => e.1 = low
  let old := s.delivery.modQueue.filter fun e => e.1 ≠ low && 2 ^ 31 ≤ (e.1 + 2 ^ 32 - low) % 2 ^ 32
  let s := s.onDelivery fun q => { q with
    modQueue := q.modQueue.filter fun e => e.1 ≠ low && !(2 ^ 31 ≤ (e.1 + 2 ^ 32 - low) % 2 ^ 32)
    modSums := mine.foldl (fun m e => m.put e.2.1 ((m.at e.2.1 + e.2.2) % 2 ^ 32)) q.modSums }
  (old.foldl (fun s e => s.modLate e.1 e.2.1) s).modLevel

/-- The sums of the channels for the closed step (R253, R265), and the next step's start at 0; a worker keeps its own
contributions' sums (log entry 151). -/
def modClose (s : State) : State :=
  ((List.range 8).foldl (fun s c => s.put (Reg.SYNC_MOD_LAST_SUM c) (s.delivery.modSums.at c % 2 ^ 32)) s).onDelivery fun q =>
    { q with modSums := [], rewritten := q.rewritten.filter fun x => x.1 / 64 ∈ q.passed }

/-- The pods that hold a projection, with its slot in each. -/
def holders (s : State) (proj : Nat) : List (Nat × Nat) :=
  (List.range 72).flatMap fun p => ((s.validSlots p).filter fun x => x.2.proj = proj).map fun x => (p, x.1)

end State

/-- LEARNING_PASS (R247). -/
def execLearningPass (pod : Fin 72) (s : State) : Result := s.done (s.learningPass pod.val)

/-- PL_ENABLE_WRITE (R239). -/
def execPlEnableWrite (pod : Fin 72) (slot : Fin 64) (value : Word) (s : State) : Result :=
  s.done (s.plCtrlWrite pod.val slot.val value)

/-- MODQ_PUSH: a write of SYNC_MODQ_PUSH_HI pushes the entry held in the two words for SYNC_MODQ_STEP (R254, R265). -/
def execModqPush (value : Word) (s : State) : Result :=
  s.done ((s.modPush32 (s.get Reg.SYNC_MODQ_STEP_STEP) (getF value 0 3) (s.get Reg.SYNC_MODQ_PUSH_LO_VALUE)).1)

end Sys2Proof.Machine
end

