-- ==== Sys2Proof/Machine/Security.lean ====
section
/-! DEFINITION. The security block: sessions and login, the audit log, the husk's wipe and its sealed copies (R411 to
R416, R535 to R551). -/

namespace Sys2Proof.Machine

/-- The first address of the husk (R412). -/
abbrev huskBase : Nat := 0x7C0000
/-- The end of the husk and of manager SRAM. -/
abbrev huskEnd : Nat := 0x800000
/-- The audit region: 4,096 entries of 32 bytes (R412, R547). -/
abbrev auditBase : Nat := 0x7D0000
/-- The training region (R412). -/
abbrev trainBase : Nat := 0x7F8000

/-- The first `n` bytes of a hash given byte by byte. -/
def takeHash (h : Nat → Byte) (n : Nat) : List Byte := (List.range n).map h

/-- The digest of an audit entry: the first 3 bytes of SHA-256 over a value's bytes (R547). -/
def digest3 (v : List Byte) : Nat := ofLe (takeHash (Config.sha256 v) 3)

namespace State

/-- Change the security block. -/
def onSec (s : State) (f : Security → Security) : State := { s with sec := f s.sec }

/-- Memory without the bytes of a range: they read as the value of an unlisted address. -/
def clearMem (s : State) (lo hi : Nat) : State := { s with mem := s.mem.filter fun x => x.1 < lo || hi ≤ x.1 }

/-- A wipe is in progress. -/
def wiping (s : State) : Bool := s.flag Reg.SEC_HUSK_STAT_WIPING

/-- A change of the credential, audit or training region waits to be sealed (R416). -/
def sealDirty (s : State) : State := s.put Reg.SEC_HUSK_STAT_SEAL_PEND 1

/-- The device's serial number as 8 bytes. -/
def serial (s : State) : List Byte := leBytes 8 (s.get64 Reg.SEC_FUSE_SERIAL_LO)

/-! Sessions (R535 to R537). -/

/-- The role a slot holds; without a session it is NONE, or operator while operator access is open (R536). -/
def slotRole (s : State) (slot : Nat) : Nat :=
  if s.flag (Reg.SEC_SESS_VALID slot) then s.get (Reg.SEC_SESS_ROLE slot) else s.obj 0x2003 2

/-! The audit log (R547 to R549). -/

/-- The address of the entry of a SEQ. -/
def auditAt (seq : Nat) : Nat := auditBase + 32 * (seq % 4096)

/-- The security block appends an entry; none while a wipe runs (R544, R547, R548, R551). -/
def audit (s : State) (kind slot role obj status old new : Nat) : State :=
  if s.wiping then s
  else
    let held := s.get Reg.SEC_AUDIT_STAT_HELD
    let seq := s.sec.appended
    let prev := if held = 0 then List.replicate 8 (0 : Byte) else s.rdBytes (auditAt (seq - 1) + 24) 8
    let body := leBytes 8 s.now ++ leBytes 3 seq ++ leBytes 5 obj ++
      [BitVec.ofNat 8 (role + 4 * slot + 32 * kind), BitVec.ofNat 8 status] ++ leBytes 3 old ++ leBytes 3 new
    let s :=
      if held = 4096 ∧ s.sec.covered ≤ seq - 4096 then
        let s := (s.count Reg.SEC_AUDIT_STAT_LOST).countObj 32 0x2010 5
        if s.sec.lostAt = 0 ∨ s.sec.lostAt - 1 + 200000000 ≤ s.now then
          (s.onSec fun x => { x with lostAt := s.now + 1 }).log .sec 0 0x6107 srcManager
        else s
      else s
    let s := s.wrBytes (auditAt seq) (body ++ takeHash (Config.sha256 (prev ++ body)) 8)
    let s := s.onSec fun x => { x with appended := seq + 1 }
    ((s.put Reg.SEC_AUDIT_HEAD_SEQ seq).put Reg.SEC_AUDIT_STAT_HELD (min 4096 (held + 1))).sealDirty

/-- A session ends, with its entry and event (R537, R548). -/
def endSession (s : State) (slot : Nat) : State :=
  if !s.flag (Reg.SEC_SESS_VALID slot) then s
  else
    let role := s.get (Reg.SEC_SESS_ROLE slot)
    let s := (s.audit 3 slot role role 0 0 0).setReg (Reg.SEC_SESS slot) 0
    s.log .sec 0 0x6104 srcManager slot

/-- Every session ends (R537). -/
def endSessions (s : State) : State := (List.range 8).foldl endSession s

/-- A session starts: the slot's selectors return to their defaults, the session it held before ends (R535, R567). -/
def startSession (s : State) (slot role : Nat) : State :=
  let s := s.endSession slot
  let s := { s with selectors := s.selectors.filter fun x => x.1 % 8 ≠ slot }
  ((s.put (Reg.SEC_SESS_ROLE slot) role).put (Reg.SEC_SESS_VALID slot) 1).onSec fun x =>
    { x with heard := x.heard.put slot (s.now + 1) }

/-- A request on a slot (R537). -/
def touchSlot (s : State) (slot : Nat) : State := s.onSec fun x => { x with heard := x.heard.put slot (s.now + 1) }

/-- SESSION_IDLE_TIMEOUT: no request on a slot for SEC_IDLE.SECONDS (R537). -/
def idleTimeout (s : State) (slot : Nat) : State :=
  match s.sec.heard.at slot with
  | 0 => s
  | t + 1 =>
    if s.flag (Reg.SEC_SESS_VALID slot) then
      (s.reach (t + 200000000 * s.get Reg.SEC_IDLE_SECONDS)).endSession slot
    else s

/-! The husk's wipe (R413 to R415). -/

/-- Registers that hold objects of HUSK persistence, with their bounds (R415, R465, R572). -/
def huskReg (a : Nat) : Bool :=
  let o := a % 0x100000
  if 0x180000000 ≤ a ∧ a < 0x184800000 then 0x81400 ≤ o ∧ o < 0x81600
  else !(0x10A0400 ≤ a && a < 0x10AC000) && !(0x10F0000 ≤ a && a < 0x1100000)

/-- A register word with the fields of the authorised path at their reset values. -/
def huskDefault (a : Nat) (w : Word) : Word :=
  match RegMap.rowOf a with
  | none => w
  | some r => r.fields.foldl (fun w f =>
      if f.acc = .auth ∨ f.acc = .bound then setF w f.lo f.len (getF (RegMap.resetAt a) f.lo f.len) else w) w

/-- Every object of HUSK persistence takes its default (R415). -/
def huskDefaults (s : State) : State :=
  let s := (s.regs.map (·.1)).foldl (fun s a => if huskReg a then s.setReg a (huskDefault a (s.reg a)) else s) s
  { s with objs := s.objs.filter fun x =>
      (ObjMap.rowOf (x.1 / 256) (x.1 % 256)).all fun r => r.persist ≠ .husk }

/-- The pods and slots whose weights a drift bound of 0 closes (R256, R258). -/
def openSlots (s : State) : List (Nat × Nat) :=
  s.regs.filterMap fun x =>
    let o := x.1 % 0x100000
    if 0x180000000 ≤ x.1 ∧ x.1 < 0x184800000 ∧ 0x81500 ≤ o ∧ o < 0x81600 ∧
        (s.reg (x.1 + 0x100)).toNat < x.2.toNat then some ((x.1 - 0x180000000) / 0x100000, (o - 0x81500) / 4)
    else none

/-- The debug unlock ends and the armed injection is removed (R732, R734). -/
def debugClose (s : State) : State :=
  ((s.put Reg.DBG_JTAG_STAT_LEVEL 0).put Reg.DBG_INJ_STAT_ARMED 0).put Reg.DBG_INJ_STAT_LEFT 0

/-- A cause starts a wipe: the event and the wipe mark, and the husk is zeroed; with it every session ends and every bound
takes its default (R413 to R415, R537). -/
def wipeStart (s : State) (cause : Nat) : State :=
  let s := s.endSessions.debugClose
  let s := (s.put Reg.SEC_HUSK_STAT_WIPING 1).put Reg.SEC_HUSK_STAT_LAST_CAUSE cause
  let s := ((s.count Reg.SEC_HUSK_WIPE_CNT_COUNT).put64 Reg.SEC_HUSK_WIPE_TB_LO s.now).log .sec 0 0x6110 srcManager cause
  let s := s.clearMem huskBase huskEnd
  let slots := s.openSlots
  let s := slots.foldl (fun s x => s.driftClose x.1 x.2) s.huskDefaults
  let s := (((s.setReg Reg.SEC_AUDIT_HEAD 0).setReg Reg.SEC_AUDIT_STAT 0).put Reg.SEC_HUSK_STAT_SEAL_PEND 0).put
    Reg.SEC_HUSK_STAT_VALID 0
  let s := s.onSec fun x => { x with
    mark := true, keys := [], exports := [], appended := 0, covered := 0, challenges := [], target := none }
  { s with fault := { s.fault with retired := [] } }.guardScan

/-- HUSK_WIPE_DONE: the sealed copies are erased, the key material is derived again, the mark is cleared, and the audit log
begins again (R414, R547). -/
def wipeDone (s : State) : State :=
  if !s.wiping then s
  else
    let s := s.onSec fun x => { x with mark := false, sealed := [], tamper := [] }
    let s := (s.put Reg.SEC_HUSK_STAT_WIPING 0).log .sec 0 0x6111 srcManager
    (s.audit 7 0 0 0 0 0 0).guardScan

/-- The security block is on: in every state but OFF-WAKEABLE (R625, R637). -/
def securityOn (s : State) : Bool := s.get Reg.PWR_STATUS_STATE ≠ 3

/-- TAMPER_ASSERT: an input asserts; it is latched, and the husk is wiped at once or at the next start (R413, R637). -/
def tamperAssert (s : State) (i : Nat) : State :=
  let s := { s with wakes := s.wakes ++ [(7, i)] }.onSec fun x =>
    { x with tamper := if i ∈ x.tamper then x.tamper else x.tamper ++ [i] }
  if s.securityOn then s.wipeStart (1 + i) else s

/-! Sealed copies (R416). -/

/-- The registers of HUSK persistence that do not hold their reset value. -/
def huskRegs (s : State) : List (Nat × Word) := s.regs.filter fun x => huskReg x.1 && huskDefault x.1 x.2 != x.2

/-- The security block writes a sealed copy over the older one (R416, R645). -/
def sealWrite (s : State) : State :=
  let c : SealCopy :=
    { gen := (s.sec.sealed.head?.map (·.gen + 1)).getD 1, keys := s.sec.keys,
      objs := s.objs.filter fun x => (ObjMap.rowOf (x.1 / 256) (x.1 % 256)).any fun r => r.persist = .husk,
      regs := s.huskRegs,
      bytes := s.mem.filter fun x => huskBase ≤ x.1 && x.1 < huskEnd,
      appended := s.sec.appended, held := s.get Reg.SEC_AUDIT_STAT_HELD, retired := s.fault.retired }
  (s.onSec fun x => { x with sealed := (c :: x.sealed).take 2, sealedAt := s.now + 1 }).put Reg.SEC_HUSK_STAT_SEAL_PEND 0

/-- SEAL_REQUEST: a write of SEC_SEAL_CTRL.SEAL (R416). -/
def sealRequest (s : State) : State := if s.wiping then s else s.sealWrite

/-- SEAL_GAP_EXPIRE: a change waits and SEAL_GAP seconds have passed since the last copy (R416). -/
def sealExpire (s : State) : State :=
  if s.wiping || !s.flag Reg.SEC_HUSK_STAT_SEAL_PEND then s
  else match s.sec.sealedAt with
    | 0 => s.sealWrite
    | t + 1 => (s.reach (t + 200000000 * s.get Reg.SEC_HUSK_CTRL_SEAL_GAP)).sealWrite

/-! Login (R539 to R542). -/

/-- The status of a login command. -/
def loginStat (s : State) (t : Status) : State :=
  (s.put Reg.SEC_LOGIN_STAT_STATUS t.code).put Reg.SEC_LOGIN_STAT_VALID 1

/-- LOGIN_CHALLENGE: 8 random bytes for a slot and role, valid for 60 s and one response; none while a wipe runs (R415,
R540). -/
def loginChallenge (s : State) (slot role : Nat) : State :=
  let s := s.touchSlot slot
  if role = 0 ∨ s.wiping then s.loginStat .refused
  else
    let c := leBytes 8 (Config.random s.freeCount).toNat
    let s := (s.useFree.put64 Reg.SEC_LOGIN_CHAL_LO (ofLe c)).loginStat .ok
    s.onSec fun x => { x with challenges := (x.challenges.filter fun y => y.1 ≠ slot) ++ [(slot, role, c, s.now)] }

/-- The challenge of a slot is gone. -/
def dropChallenge (s : State) (slot : Nat) : State :=
  s.onSec fun x => { x with challenges := x.challenges.filter fun y => y.1 ≠ slot }

/-- CHALLENGE_EXPIRE: 60 s after its issue (R540). -/
def challengeExpire (s : State) (slot : Nat) : State :=
  match s.sec.challenges.find? fun x => x.1 = slot with
  | none => s
  | some (_, _, _, t) => (s.reach (t + 12000000000)).dropChallenge slot

/-- The key of a role, where it has one (R539, R541). -/
def roleKey (s : State) (role : Nat) : Option (List Byte) :=
  if role = 3 then some Config.makerKey else (s.sec.keys.find? fun x => x.1 = role).map (·.2)

/-- The lock registers of a role, 1 to 3. -/
abbrev lockOf (role : Nat) : Nat := role - 1

/-- A role is locked: doubled within 24 hours of its last lockout, up to 86,400 s (R542). -/
def lockout (s : State) (slot role : Nat) : State :=
  let base := s.obj 0x2003 5
  let secs :=
    match s.sec.lockouts.find? fun x => x.1 = role with
    | some (_, t, d) => if s.now < t + 17280000000000 then min 86400 (2 * d) else base
    | none => base
  let s := s.onSec fun x => { x with
    locks := (x.locks.filter fun y => y.1 ≠ role) ++ [(role, s.now, secs)]
    lockouts := (x.lockouts.filter fun y => y.1 ≠ role) ++ [(role, s.now, secs)] }
  let s := (s.put (Reg.SEC_LOCK_LOCKED (lockOf role)) 1).put (Reg.SEC_LOCK_REMAIN (lockOf role)) secs
  let s := (s.audit 4 slot (s.slotRole slot) role 6 0 0).log .sec 0 0x6103 srcManager role
  if s.flag Reg.SEC_HUSK_CTRL_LOCKOUT_WIPE then s.wipeStart 4 else s

/-- The security block compares a response to a challenge of the last 60 s (R540, R542): no count where the role has no key (R541). -/
def loginVerify (s : State) (slot role : Nat) : State :=
  let s := s.touchSlot slot
  if role = 0 || s.wiping || s.flag (Reg.SEC_LOCK_LOCKED (lockOf role)) then s.loginStat .refused
  else
    match s.sec.challenges.find? fun x => x.1 = slot && x.2.1 = role && decide (s.now ≤ x.2.2.2 + 12000000000), s.roleKey role with
    | some (_, _, c, _), some key =>
      let s := s.dropChallenge slot
      let resp := s.regBytes Reg.SEC_LOGIN_RESP0 10
      if takeHash (Config.hmac key (c ++ s.serial ++ [BitVec.ofNat 8 slot, BitVec.ofNat 8 role])) 10 = resp then
        let s := (s.startSession slot role).put (Reg.SEC_LOCK_FAILS (lockOf role)) 0
        ((s.audit 2 slot role role 0 0 0).loginStat .ok).log .sec 0 0x6101 srcManager role
      else
        let s := s.count (Reg.SEC_LOCK_FAILS (lockOf role))
        let s := ((s.audit 2 slot (s.slotRole slot) role 6 0 0).loginStat .refused).log .sec 0 0x6102 srcManager role
        if s.obj 0x2003 4 ≤ s.get (Reg.SEC_LOCK_FAILS (lockOf role)) then s.lockout slot role else s
    | _, _ => (s.dropChallenge slot).loginStat .refused

/-- LOCKOUT_EXPIRE: the lock of a role ends (R542). -/
def lockoutExpire (s : State) (role : Nat) : State :=
  match s.sec.locks.find? fun x => x.1 = role with
  | none => s
  | some (_, t, d) =>
    let s := ((s.reach (t + 200000000 * d)).put (Reg.SEC_LOCK_LOCKED (lockOf role)) 0).put (Reg.SEC_LOCK_REMAIN (lockOf role)) 0
    s.onSec fun x => { x with locks := x.locks.filter fun y => y.1 ≠ role }

/-! Export (R550, R551). -/

/-- The bytes of an export from `pos` on. -/
def exportBytes (s : State) (e : Export) (pos len : Nat) : List Byte :=
  let n := 48 + 32 * e.count
  (List.range (min len (n - pos))).map fun i =>
    let k := pos + i
    if k < 32 then e.header.getD k 0
    else if k < 32 + 32 * e.count then s.rd8 (auditAt (e.first + (k - 32) / 32) + k % 32)
    else e.tag.getD (k - 32 - 32 * e.count) 0

/-- A new export fixes its range from the oldest entry held to the head (R550). -/
def exportStart (s : State) (slot : Nat) : State :=
  let held := s.get Reg.SEC_AUDIT_STAT_HELD
  let first := s.sec.appended - held
  let chain := if held = 0 then List.replicate 8 (0 : Byte) else s.rdBytes (auditAt (s.sec.appended - 1) + 24) 8
  let header := s.serial ++ leBytes 4 first ++ leBytes 4 held ++ chain ++ leBytes 8 s.calendar
  let body := (List.range held).flatMap fun i => s.rdBytes (auditAt (first + i)) 32
  let tag := takeHash (Config.hmac Config.auditKey (header ++ body)) 16
  let s := s.onSec fun x => { x with
    exports := (x.exports.filter fun e => e.slot ≠ slot) ++ [⟨slot, first, held, 0, header, tag⟩] }
  (s.audit 6 slot (s.slotRole slot) 0 0 0 0).log .sec 0 0x6106 srcManager

/-- AUDIT_EXPORT_READ: the next bytes of the export that a session of installer or above reads; an entry overwritten before
it was read ends the export (R550, R551). The answer is a status, an SDO abort code, and the bytes. -/
def exportRead (s : State) (slot len : Nat) : State :=
  let s := s.touchSlot slot
  if s.slotRole slot < 2 then
    { s.refusal 0x1A 0x2010 3 with answer := [Status.refused.code, 0x06010000] }
  else
    let s := if s.sec.exports.any fun e => e.slot = slot then s else s.exportStart slot
    match s.sec.exports.find? fun e => e.slot = slot with
    | none => s
    | some e =>
      let k := (e.pos - 32) / 32
      if k < e.count ∧ e.first + k < s.sec.appended - s.get Reg.SEC_AUDIT_STAT_HELD then
        { s.onSec fun x => { x with exports := x.exports.filter fun y => y.slot ≠ slot } with
          answer := [Status.refused.code, 0x08000020] }
      else
        let b := s.exportBytes e e.pos len
        let pos := e.pos + b.length
        let done := decide (48 + 32 * e.count ≤ pos)
        let s := s.onSec fun x => { x with
          exports := if done then x.exports.filter fun y => y.slot ≠ slot
            else x.exports.map fun y => if y.slot = slot then { y with pos := pos } else y
          covered := max x.covered (e.first + min e.count ((pos - 32) / 32)) }
        { s with answer := [Status.ok.code, 0] ++ b.map (·.toNat) }

end State

/-- TAMPER_ASSERT (R413). -/
def execTamperAssert (input : Fin 2) (s : State) : Result := s.done (s.tamperAssert input.val)

/-- HUSK_WIPE_DONE (R414). -/
def execHuskWipeDone (s : State) : Result := s.done s.wipeDone

/-- SEAL_REQUEST (R416). -/
def execSealRequest (s : State) : Result := s.done s.sealRequest

/-- SEAL_GAP_EXPIRE (R416). -/
def execSealGapExpire (s : State) : Result := s.done s.sealExpire

/-- LOGIN_CHALLENGE (R540). -/
def execLoginChallenge (slot : Fin 8) (role : Fin 4) (s : State) : Result := s.done (s.loginChallenge slot.val role.val)

/-- LOGIN_VERIFY (R540): the response lies in SEC_LOGIN_RESP0..2. -/
def execLoginVerify (slot : Fin 8) (role : Fin 4) (s : State) : Result := s.done (s.loginVerify slot.val role.val)

/-- CHALLENGE_EXPIRE (R540). -/
def execChallengeExpire (slot : Fin 9) (s : State) : Result := s.done (s.challengeExpire slot.val)

/-- LOGOUT (R537). -/
def execLogout (slot : Fin 8) (s : State) : Result := s.done ((s.endSession slot.val).loginStat .ok)

/-- SESSION_IDLE_TIMEOUT (R537). -/
def execSessionIdleTimeout (slot : Fin 8) (s : State) : Result := s.done (s.idleTimeout slot.val)

/-- LOCKOUT_EXPIRE (R542). -/
def execLockoutExpire (role : Fin 4) (s : State) : Result := s.done (s.lockoutExpire role.val)

/-- AUDIT_APPEND: a write of SEC_AUDIT_APP3 appends an entry of KIND 0 with the role of the slot named (R548, R549). -/
def State.auditAppend (s : State) (value : Word) : State :=
  let s := s.writePlain Reg.SEC_AUDIT_APP3 value
  let slot := s.get Reg.SEC_AUDIT_APP1_SLOT
  s.audit 0 slot (s.slotRole slot) (s.get Reg.SEC_AUDIT_APP0_OBJ) (s.get Reg.SEC_AUDIT_APP1_STATUS)
    (s.get Reg.SEC_AUDIT_APP2_OLD) (s.get Reg.SEC_AUDIT_APP3_NEW)

/-- AUDIT_APPEND (R549). -/
def execAuditAppend (value : Word) (s : State) : Result := s.done (s.auditAppend value)

/-- AUDIT_EXPORT_READ (R550). -/
def execAuditExportRead (slot : Fin 8) (len : Nat) (s : State) : Result := s.done (s.exportRead slot.val len)

end Sys2Proof.Machine
end

