-- ==== Sys2Proof/Machine/Tree.lean ====
section
/-! DEFINITION. The sync tree: barrier contexts, reduction lanes and the fault lane (R377 to R388). -/

namespace Sys2Proof.Machine

/-- The register at offset `off` of a node's block: a tile's node, or the manager's at the root (R394, R395). -/
def nodeReg (n off : Nat) : Nat := if n < 1152 then tileBase n + 0x32800 + off else 0x1020000 + off

/-- Bit `c` of a pair of node registers that holds one bit for each context. -/
def ctxBit (n off c : Nat) : RF := ⟨nodeReg n (off + 4 * (c / 32)), c % 32, 1⟩

/-- The nodes of the tree: the tiles' and the manager's. -/
abbrev nodes : List Nat := List.range 1153

/-- The identity of a reduction operation (R383). -/
def redIdentity (op : Nat) : Nat := if op = 1 ∨ op = 3 then 0xFFFFFFFF else 0

/-- A reduction operation on 32-bit values (R383). -/
def redApply (op a b : Nat) : Nat :=
  match op with
  | 1 => a.land b
  | 2 => a.lor b
  | 3 => min a b
  | 4 => max a b
  | _ => (a + b) % 2 ^ 32

namespace State

/-- A node is a member of a context (R381). -/
def barMember (s : State) (n c : Nat) : Bool := s.flag (ctxBit n 0x10 c)

/-- A node has arrived at a context that is not released yet (R381). -/
def barPending (s : State) (n c : Nat) : Bool := s.flag (ctxBit n 0x28 c)

/-- The physical tiles that hold a logical ID. -/
def logicalTiles (s : State) : List Nat := (List.range 1024).filterMap s.mgrLtt

/-- A node contributes as a fenced tile's does: fenced, or its own tile reported lost (R378, R693). -/
def silent (s : State) (t : Nat) : Bool :=
  s.fenced t || s.flag (Reg.FLT_TILE_STAT_HB_LOST t) || s.flag (Reg.FLT_TILE_STAT_ENG_TMO t)

/-- The tree waits for a node: the manager's, or that of a tile that is neither spare, disabled, fenced nor a hole
(R378). -/
def takesPart (s : State) (n : Nat) : Bool := n = 1152 || (s.isLogical n && !s.silent n && !s.isHole n)

/-- The reduction lanes that a context works for (R383, R385). -/
def redLanes (s : State) (c : Nat) : List Nat :=
  (List.range 16).filter fun l => s.get (Reg.SYNC_ROOT_RED_CFG_CTX l) = c && s.get (Reg.SYNC_ROOT_RED_CFG_OP l) != 0

/-- An ignored arrival or membership write (R382). -/
def nodeCfgErr (s : State) (n : Nat) : State := (s.put ⟨nodeReg n 4, 0, 1⟩ 1).raise (nodeReg n 0x10C) 1

/-- An arrival at a barrier context (R381, R382, R384, R726). -/
def arrive (s : State) (n c : Nat) : State :=
  if !s.barMember n c then s.nodeCfgErr n
  else if s.barPending n c then s.put ⟨nodeReg n 4, 1, 1⟩ 1
  else
    let s := s.put (ctxBit n 0x28 c) 1
    let s := (s.redLanes c).foldl (fun s l => { s with fault := { s.fault with
      latched := s.fault.latched.put (16 * n + l) (s.reg (nodeReg n (0x40 + 4 * l))).toNat } }) s
    if n < 1152 then s.setWait n 3 0 c 0 else s

/-- Every member that the tree waits for has arrived, and one arrival is pending (R381). -/
def barComplete (s : State) (c : Nat) : Bool :=
  (nodes.any fun n => s.barPending n c) &&
    nodes.all fun n => !s.barMember n c || s.barPending n c || !s.takesPart n

/-- The result of a lane: the latched values of the arrived nodes that take part, and the identity of every other node (R378,
R384). -/
def redResult (s : State) (c l : Nat) : Nat :=
  let op := s.get (Reg.SYNC_ROOT_RED_CFG_OP l)
  nodes.foldl (fun v n => if s.barPending n c && s.takesPart n then redApply op v (s.fault.latched.at (16 * n + l)) else v) (redIdentity op)

/-- A release at one node: its GEN bit toggles, its PEND bit clears, its interrupt is raised (R381). -/
def releaseNode (s : State) (c : Nat) (n : Nat) : State :=
  if !s.barMember n c then s
  else
    let pend := s.barPending n c
    let s := (s.put (ctxBit n 0x20 c) (1 - s.get (ctxBit n 0x20 c))).put (ctxBit n 0x28 c) 0
    let s := if s.flag (ctxBit n 0x30 c) then s.raise (nodeReg n 0x10C) 0 else s
    if pend && n < 1152 then (if s.get (Reg.DBG_WAIT_KIND n) = 3 ∧ s.get (Reg.DBG_WAIT_OBJ_OBJ n) = c then s.setWait n 0 0 0 0 else s) else s

/-- The release of a barrier context, with the results of its lanes (R379, R381, R384). The time of the tree is at most 24
cycles and is free below that. -/
def barRelease (s : State) (c : Nat) : State :=
  if !s.barComplete c then s
  else
    let results := (s.redLanes c).map fun l => (l, s.redResult c l)
    let s := nodes.foldl (fun s n => results.foldl (fun s x =>
      s.setReg (nodeReg n (0x80 + 4 * x.1)) (BitVec.ofNat 32 x.2)) s) s
    let s := nodes.foldl (fun s n => s.releaseNode c n) s
    let cyc := min 24 (s.nextFree 5)
    ((s.useFree).put Reg.SYNC_BAR_LAST_CYC_CYCLES cyc).setObj 0x2901 4 cyc

/-- A write of SYNC_BAR_MEMBER: a bit whose context waits for release keeps its value (R382). -/
def memberWrite (s : State) (n : Nat) (hi : Bool) (v : Word) : State :=
  let k := if hi then 4 else 0
  let old := s.reg (nodeReg n (0x10 + k))
  let pend := s.reg (nodeReg n (0x28 + k))
  let s' := s.setReg (nodeReg n (0x10 + k)) ((v &&& ~~~ pend) ||| (old &&& pend))
  if (old ^^^ v) &&& pend != 0#32 then s'.nodeCfgErr n else s'

/-- A write of SYNC_ROOT_RED_CFG, which the root carries to every node (R383, R384). -/
def redCfgWrite (s : State) (l : Nat) (v : Word) : State :=
  let a := Reg.SYNC_ROOT_RED_CFG l
  let w := writeFields ((RegMap.rowOf a).map (·.fields) |>.getD []) (fun _ => true) (s.reg a) v
  if nodes.any fun n => s.barPending n (getF (s.reg a) 8 6) || s.barPending n (getF w 8 6) then
    s.put Reg.SYNC_ROOT_STATUS_CFG_ERR 1
  else nodes.foldl (fun s n => s.setReg (nodeReg n (0xC0 + 4 * l)) w) (s.setReg a w)

/-! The fault lane. -/

/-- The root shows the oldest report and the level of its queue (R395). -/
def fltShow (s : State) : State :=
  let s := s.put Reg.SYNC_FLT_QLEVEL_LEVEL s.fault.queue.length
  let x := s.fault.queue.headD (0xFFFFF, 0, 0)
  ((s.put Reg.SYNC_FLT_SUSPECT_ID x.1).put Reg.SYNC_FLT_COUNT_COUNT x.2.1).put Reg.SYNC_FLT_STEP_STEP (x.2.2 % 2 ^ 32)

/-- A wave of the fault lane: the least pending suspect, its reporters, and the root's queue (R388). -/
def faultWave (s : State) : State :=
  match (s.fault.pend.flatMap fun e => e.2).min? with
  | none => s
  | some x =>
    let holders := (s.fault.pend.filter fun e => e.2.contains x).map (·.1)
    let n := holders.length
    let s := holders.foldl (fun s h =>
      let l := (s.fault.pend.at h).filter (· != x)
      { s with fault := { s.fault with pend := s.fault.pend.put h l } }.put ⟨fltStat h, 0, 3⟩ l.length) s
    let q := s.fault.queue
    if q.any fun (e : Nat × Nat × Nat) => e.1 = x && e.2.2 = s.stepNum then
      { s with fault := { s.fault with queue := q.map fun (e : Nat × Nat × Nat) =>
        if e.1 = x ∧ e.2.2 = s.stepNum then (e.1, e.2.1 + n, e.2.2) else e } }.fltShow
    else if 16 ≤ q.length then
      ((s.put Reg.SYNC_FLT_QLEVEL_OVF 1).log .sync 0 0x3402 srcManager x n).countObj 32 0x2901 3
    else { s with fault := { s.fault with queue := q ++ [(x, n, s.stepNum)], reports := s.fault.reports + 1 } }.fltShow

end State

/-- BARRIER_ARRIVE (R381). -/
def execBarrierArrive (node : Fin 1153) (ctx : Fin 64) (s : State) : Result := s.done (s.arrive node.val ctx.val)

/-- BARRIER_RELEASE (R381). -/
def execBarrierRelease (ctx : Fin 64) (s : State) : Result := s.done (s.barRelease ctx.val)

/-- BAR_MEMBER_WRITE (R382). -/
def execBarMemberWrite (node : Fin 1153) (hi : Bool) (value : Word) (s : State) : Result :=
  s.done (s.memberWrite node.val hi value)

/-- RED_CFG_WRITE (R384). -/
def execRedCfgWrite (lane : Fin 16) (value : Word) (s : State) : Result := s.done (s.redCfgWrite lane.val value)

/-- FAULT_REPORT_FILE (R386). -/
def execFaultReportFile (node : Fin 1153) (suspect : Fin 1048576) (s : State) : Result :=
  s.done (if suspect.val = 0xFFFFF then s else s.fileReport node.val suspect.val)

/-- FAULT_WAVE (R388). -/
def execFaultWave (s : State) : Result := s.done s.faultWave

end Sys2Proof.Machine
end

