-- ==== Sys2Proof/Machine/Debug.lean ====
section
/-! DEFINITION. Operation counters, the trace writer, waits and hang analysis, and fault injection (R714 to R728, R734
to R735). -/

namespace Sys2Proof.Machine

namespace State

/-- A read of DBG_OPS0_LO latches every counter of the tile (R716). -/
def opsLatch (s : State) (t : Nat) : State :=
  let a := Reg.DBG_OPS0_LO t
  let s := (List.range 27).foldl (fun s i => { s with
    latches := s.latches.put (a + 4 + 4 * i) ((s.reg (a + 4 + 4 * i)).toNat + 1) }) s
  { s with answer := [(s.reg a).toNat] }

/-- DBG_TCTRL.CLR (R716). -/
def opsClear (s : State) (t : Nat) : State :=
  (List.range 14).foldl (fun s n => s.put64 (Reg.DBG_OPS0_LO t + 8 * n) 0) s

/-! The trace writer (R724). -/

/-- Put an entry into the trace ring (R724). -/
def traceEntry (s : State) (p : Pip) : State :=
  let n := s.get Reg.DBG_TRC_LEN_N
  let w := s.get Reg.DBG_TRC_WR_IDX
  let full := n = 0 || (w + 1) % n = s.get Reg.DBG_TRC_RD_IDX
  if full && (n = 0 || !s.flag Reg.DBG_TRC_CTRL_WRAP) then
    (s.count Reg.DBG_GTRC_LOST_FULL).logOnce .dbg 0 0x9202 srcManager
  else
    let a := s.get64 Reg.DBG_TRC_BASE_LO % 2 ^ 40 + 32 * w
    let s := if s.dramMapped a 32 then s.wrBytes a (leBytes 8 p.hdr.toNat ++ leBytes 24 p.pay.toNat) else s
    let s := if full then s.put Reg.DBG_TRC_RD_IDX ((s.get Reg.DBG_TRC_RD_IDX + 1) % n) else s
    s.put Reg.DBG_TRC_WR_IDX ((w + 1) % n)

/-- The trace writer writes its oldest pip (R724). -/
def traceWrite (s : State) : State :=
  match s.mesh.traceWriter with
  | [] => s
  | p :: rest => (s.onMesh fun m => { m with traceWriter := rest }).traceEntry p

/-- The marker of a launch (R724). -/
def traceMarker (s : State) (step time : Nat) : State :=
  if s.get Reg.DBG_STATUS_LEVEL = 2 ∧ s.flag Reg.DBG_TRC_CTRL_MARKER then
    s.traceEntry (Pip.make 3 false 0 1152 0 step 0 0x1F (step % 2 ^ 64 + time % 2 ^ 64 * 2 ^ 64))
  else s

/-! Waits (R726). -/

/-- A write of DBG_WAIT_DECL. -/
def waitDeclare (s : State) (t : Nat) (v : Word) : State :=
  let w := v.toNat
  match bits w 29 3 with
  | 0 => s.setWait t 0 0 0 0
  | 1 => s.setWait t 1 1 (bits w 0 10) (bits w 16 11)
  | 4 => s.setWait t 4 1 (bits w 0 10) (bits w 16 11)
  | _ => s

/-- The wait registers of a logical ID, or of node 0x400 (R726). -/
def waitOf (s : State) (n : Nat) : Word × Word :=
  if n = 0x400 then (s.reg Reg.DBG_MWAIT, s.reg Reg.DBG_MWAIT_OBJ)
  else match s.mgrLtt n with
    | some t => (s.reg (Reg.DBG_WAIT t), s.reg (Reg.DBG_WAIT_OBJ t))
    | none => (0#32, 0#32)

/-- The nodes of the wait-for graph (R727). -/
def waitNodes (s : State) : List Nat := ((List.range 1024).filter fun l => (s.mgrLtt l).isSome) ++ [0x400]

/-- Hang analysis begins (R586, R727, R737). -/
def hangStart (s : State) : State :=
  if s.hang.isSome then s.refusal 0x0017 0x2B02 1
  else
    let l := s.waitNodes.map fun n => let w := s.waitOf n; (n, w.1, w.2)
    ({ s with hang := some ⟨l, s.now⟩ }).setObj 0x2B02 2 1

/-- The nodes that an unchanged wait points at; a copy wait is a sink (R727). -/
def waitEdges (s : State) (first : List (Nat × Word × Word)) (n : Nat) : List Nat :=
  match first.find? fun x => x.1 = n with
  | none => []
  | some (_, w, o) =>
    let kind := getF w 0 3
    if kind = 0 ∨ s.waitOf n ≠ (w, o) then []
    else match kind with
      | 1 | 2 => [getF o 16 11]
      | 3 =>
        let c := getF o 0 10
        s.waitNodes.filter fun m => match (if m = 0x400 then some 1152 else s.mgrLtt m) with
          | some t => s.barMember t c && !s.barPending t c
          | none => false
      | _ => []

end State

/-- Depth-first search: a cycle through the path, or the nodes found to lie on none (R727). -/
def findCycle (edges : Nat → List Nat) : (fuel : Nat) → (path clear : List Nat) → Nat → Option (List Nat) × List Nat
  | 0, _, clear, _ => (none, clear)
  | fuel + 1, path, clear, n =>
    if path.contains n then (some ((path.takeWhile (· != n) ++ [n]).reverse), clear)
    else if clear.contains n then (none, clear)
    else
      let r := (edges n).foldl (fun (r : Option (List Nat) × List Nat) m =>
        if r.1.isSome then r else findCycle edges fuel (n :: path) r.2 m) (none, clear)
      (r.1, n :: r.2)

namespace State

/-- An event that firmware appends (R710). -/
def logFirmware (s : State) (code p0 p1 : Nat) : State := { s with
  events := s.events ++ [⟨Block.app.rank, 0, code, srcManager, p0 % 2 ^ 32, p1 % 2 ^ 32, s.now, s.stepNum⟩] }

/-- The second read and the search of the graph (R727, R728). -/
def hangFinish (s : State) : State :=
  match s.hang with
  | none => s
  | some h =>
    let s := s.reach (h.at_ + 200000)
    let r := s.waitNodes.foldl (fun (r : Option (List Nat) × List Nat) n =>
      if r.1.isSome then r else findCycle (s.waitEdges h.first) 1026 [] r.2 n) (none, [])
    let s := { s with hang := none }
    match r.1 with
    | none => (s.setObj 0x2B02 2 2).logFirmware 0x9302 2 0
    | some c =>
      let low := c.foldl min 0x7FF
      let kind := fun n => getF (s.waitOf n).1 0 3
      let s := ((s.setObj 0x2B02 2 3).setObj 0x2B02 3 c.length).setObj 0x2B02 4 low
      let s := s.setObj 0x2B02 5 (kind low)
      ((c.take 64).foldl (fun s n => s.logFirmware 0x9301 n (kind n)) s).logFirmware 0x9302 3 0

/-! Fault injection (R734, R735). -/

/-- The least role that the lifecycle permits for debug (R730). -/
def debugRole (s : State) : Nat := if s.get Reg.SEC_LC_STATE = 0 ∨ s.get Reg.SEC_LC_STATE = 2 then 3 else 2

/-- The kinds that a target takes (R735). -/
def injectKinds (target : Nat) : List Nat :=
  match target / 65536 with
  | 0 | 2 | 3 | 4 => [5, 6]
  | 1 => [2, 3, 4]
  | 7 | 8 | 9 => [1, 2, 3]
  | 13 => if target % 65536 < 30 then [5, 6] else []
  | _ => []

/-- A session that may not write the injection registers is refused (R734). -/
def injectAuth (s : State) (slot value : Nat) (f : State → State) : State :=
  let s := s.touchSlot slot
  if s.slotRole slot < s.debugRole then s.log .sec 0 0x6121 srcManager Reg.DBG_INJ_CTRL
  else f (s.audit 1 slot (s.slotRole slot) Reg.DBG_INJ_CTRL 0 (digest3 (leBytes 4 (s.reg Reg.DBG_INJ_STAT).toNat))
    (digest3 (leBytes 4 value)))

/-- Arm the injection that the registers describe (R734, R735). -/
def injectArm (s : State) : State :=
  if (injectKinds (s.get Reg.DBG_INJ_TARGET_ID)).contains (s.get Reg.DBG_INJ_KIND_KIND) then
    ((s.put Reg.DBG_INJ_STAT_ARMED 1).put Reg.DBG_INJ_STAT_LEFT (s.get Reg.DBG_INJ_COUNT_N)).log .dbg 0 0x9401 srcManager
  else s.refusal 0x002A 0x2B03 4

/-- Remove the armed injection (R734). -/
def injectDisarm (s : State) : State := (s.put Reg.DBG_INJ_STAT_ARMED 0).put Reg.DBG_INJ_STAT_LEFT 0

end State

/-- OPS_LATCH_READ (R716). -/
def execOpsLatchRead (tile : Fin 1152) (s : State) : Result := s.done (s.opsLatch tile.val)

/-- COUNTER_CLEAR (R716). -/
def execCounterClear (tile : Fin 1152) (s : State) : Result := s.done (s.opsClear tile.val)

/-- TRACE_WRITE (R724). -/
def execTraceWrite (s : State) : Result := s.done s.traceWrite

/-- WAIT_DECLARE (R726). -/
def execWaitDeclare (tile : Fin 1152) (value : Word) (s : State) : Result := s.done (s.waitDeclare tile.val value)

/-- HANG_ANALYSIS_START (R727). -/
def execHangAnalysisStart (s : State) : Result := s.done s.hangStart

/-- HANG_ANALYSIS_SECOND_READ (R727). -/
def execHangAnalysisSecondRead (s : State) : Result := s.done s.hangFinish

/-- INJECTION_ARM: an authorised write of DBG_INJ_CTRL.ARM (R734). -/
def execInjectionArm (slot : Fin 8) (s : State) : Result := s.done (s.injectAuth slot.val 1 State.injectArm)

/-- INJECTION_DISARM: an authorised write of DBG_INJ_CTRL.DISARM (R734). -/
def execInjectionDisarm (slot : Fin 8) (s : State) : Result := s.done (s.injectAuth slot.val 2 State.injectDisarm)

end Sys2Proof.Machine
end

