-- ==== Sys2Proof/Machine/Faults.lean ====
section
/-! DEFINITION. The global fault block: verdicts on reports, the retirement of parts, and the fence bits (R687 to
R696, R712). -/

namespace Sys2Proof.Machine

namespace State

/-- Change the fault state. -/
def onFault (s : State) (f : Faults → Faults) : State := { s with fault := f s.fault }

/-- The standby state: 0 OFF, 1 ARMING, 2 ARMED, 3 EXHAUSTED (R71, R585). -/
def standby (s : State) : Nat := s.obj 0x2A10 3

/-- Write a tile's fence bit where it is read (R305, R711, R712). -/
def fence (s : State) (t v : Nat) : State :=
  ((s.put ⟨Reg.FLT_FENCE (t / 32), t % 32, 1⟩ v).put (Reg.FLT_TILE_STAT_FENCED t) v).put (Reg.EVM_STATUS_FENCED t) v

/-- The number of spares falls by one (R694, R707). -/
def spareUsed (s : State) : State := s.setObj 0x2A10 4 (s.obj 0x2A10 4 - 1)

/-- Retire a tile: fence, runtime map, and a remap or event 0x4232 (R694, R696). -/
def tileRetire (s : State) (t : Nat) : State :=
  if s.fault.retired.contains t then s
  else
    let s := (s.fence t 1).put (Reg.FLT_TILE_STAT_RETIRED t) 1
    let s := s.onFault fun f => { f with retired := f.retired ++ [t] }
    if s.isSpare t then s.spareUsed
    else if !s.isLogical t then s
    else if s.standby = 2 ∧ s.flag Reg.FLT_CTRL_AUTO then
      s.onFault fun f => { f with waiting := f.waiting ++ [(t, s.now, s.stepNum, false)] }
    else s.log .flt 0 0x4232 t

/-- Retire an event-mesh link (R689). -/
def linkRetire (s : State) (r p : Nat) : State :=
  ((s.linkDown r p).log .evm (r + 1) 0x3111 r).onFault fun f =>
    { f with rebuild := true, retraining := f.retraining.filter (· != 4 * r + p) }

/-- Begin a retrain of an event-mesh link (R689). -/
def linkRetrain (s : State) (r p : Nat) : State :=
  (s.linkDown r p).onFault fun f =>
    { f with retraining := f.retraining ++ [4 * r + p], crossed := f.crossed.put (4 * r + p) (s.now + 1) }

/-- Timebase counts of 60 s. -/
abbrev minute : Nat := 12000000000

/-- A link that crossed its CRC threshold: a retrain, or at the second crossing within 60 s its retirement (R687, R689). -/
def linkCrossed (s : State) (r p : Nat) : State × Nat :=
  let old := s.fault.crossed.at (4 * r + p)
  if 0 < old ∧ s.now < old - 1 + minute then (s.linkRetire r p, 2) else (s.linkRetrain r p, 1)

/-- The retrains of a tile's links that are under way end: the links of a hole stay down (R307). -/
def retrainStop (s : State) (t : Nat) : State :=
  let keys := (List.range 4).flatMap fun p =>
    (4 * t + p) :: ((neighbour t p).map fun q => 4 * q + facing p).toList
  s.onFault fun f => { f with retraining := f.retraining.filter (· ∉ keys) }

/-- A retired router's tile becomes a hole (R691). -/
def holeMake (s : State) (t : Nat) : State :=
  let s := ((List.range 4).foldl (fun s p => s.linkDown t p) s).retrainStop t
  ((s.tileRetire t).log .evm (t + 1) 0x3112 t).onFault fun f => { f with rebuild := true }

/-- Retire every tile of a pod in ascending physical index (R687). -/
def podRetire (s : State) (p : Nat) : State :=
  let s := s.log .flt 0 0x2130 srcDevice p
  (List.range 16).foldl (fun s i => s.tileRetire (podTile p i)) s

/-- A seam FIFO takes its row's seam links down in both meshes (R687). -/
def seamRetire (s : State) (row : Nat) : State :=
  let r := 36 * row + 17
  (((s.linkRetire r 1).scmLinkFail r 1).log .scm (r + 1) 0x3210 r)

/-- Exclude the lane pair of a Tierlink lane (R687). -/
def lanePairDrop (s : State) (port lane : Nat) : State :=
  let m := s.get (Reg.TLK_CTRL_LANE_MASK port)
  let pair := 3 * 2 ^ (lane / 2 * 2)
  s.put (Reg.TLK_CTRL_LANE_MASK port) (m - m.land pair)

/-- Detections of a suspect that crossed their threshold, by kind (R687). -/
def crossings (s : State) (suspect : Nat) : List Nat :=
  s.fault.due.filterMap fun k => if k % 2 ^ 20 = suspect then some (k / 2 ^ 20) else none

/-- A verdict on a report of `count` reporters: what is retired, with 0 counted, 1 threshold crossed, 2 retired (R687,
R692). -/
def verdict (s : State) (suspect count : Nat) : State × Nat :=
  let idx := suspect % 65536
  let kinds := s.crossings suspect
  let crossed := !kinds.isEmpty
  match suspect / 65536 with
  | 0 =>
    if 1152 ≤ idx then (s, 0)
    else if kinds.contains Detect.storm.ctorIdx then (s.holeMake idx, 2)
    else if crossed || s.flag (Reg.FLT_TILE_STAT_HB_LOST idx) || s.flag (Reg.FLT_TILE_STAT_ENG_TMO idx)
        || decide (s.get Reg.FLT_THR_PARTNER_N ≤ count) then (s.tileRetire idx, 2)
    else (s, 0)
  | 1 => if crossed && decide (idx < 4608) then s.linkCrossed (idx / 4) (idx % 4) else (s, 0)
  | 2 =>
    if crossed && decide (idx < 4608) then
      ((s.scmLinkFail (idx / 4) (idx % 4)).log .scm (idx / 4 + 1) 0x3210 (idx / 4), 2)
    else (s, 0)
  | 3 => if crossed && decide (idx < 2304) then (s.podRetire (idx / 32), 2) else (s, 0)
  | 4 =>
    if 16 ≤ idx then (s, 0)
    else if s.subRetired idx then (s, 2)
    else if s.obj 0x2A20 3 < s.get (Reg.DDR_SUB_STAT_SPARES_USED (idx / 4) (idx % 4)) then (s.subRetire idx, 2)
    else (s, 0)
  | 5 => if 16 ≤ idx then (s, 0) else if 8 ≤ s.fault.streaks.at idx % 16 then (s.subRetire idx, 2) else (s, 0)
  | 6 => if 64 ≤ idx then (s, 0) else (s.seamRetire (idx / 2), 2)
  | 7 => if 3 ≤ (s.fault.laneFails.at idx).length then (s.lanePairDrop (idx / 4) (idx % 4), 2) else (s, 0)
  | _ => (s, 0)

/-- The fault block takes the oldest report of the root's queue (R692). -/
def reportTake (s : State) : State :=
  match s.fault.queue with
  | [] => s
  | (x, n, t) :: rest =>
    let s := (s.onFault fun f => { f with queue := rest }).fltShow
    let r := s.verdict x n
    let s := r.1.onFault fun f => { f with due := f.due.filter fun k => k % 2 ^ 20 != x }
    (((s.put Reg.FLT_RPT_SUSPECT_ID x).put Reg.FLT_RPT_COUNT_COUNT n).put Reg.FLT_RPT_STEP_STEP (t % 2 ^ 32)).put
      Reg.FLT_RPT_VERDICT_V r.2

/-- A retrained link comes up after its loopback, or is retired (R689). The retrain takes 20 µs. -/
def retrainDone (s : State) (r p : Nat) (ok : Bool) : State :=
  if !s.fault.retraining.contains (4 * r + p) then s
  else
    let s := s.reach (s.fault.crossed.at (4 * r + p) - 1 + 4000)
    if ok then
      ((s.onFault fun f => { f with retraining := f.retraining.filter (· != 4 * r + p) }).linkRaise r p).log
        .evm (r + 1) 0x3110 r
    else s.linkRetire r p

/-- A heartbeat is lost (R693). -/
def heartbeatLost (s : State) (t : Nat) : State := (s.put (Reg.FLT_TILE_STAT_HB_LOST t) 1).fileReport t (suspectId 0 t)

/-- An engine holds its work for too long (R693). -/
def engineTimeout (s : State) (t engine : Nat) : State :=
  ((s.put (Reg.FLT_TILE_STAT_ENG_TMO t) 1).put (Reg.FLT_TILE_STAT_ENGINE t) engine).fileReport t (suspectId 0 t)

/-- A write of FLT_FENCE by firmware (R695). -/
def fenceWrite (s : State) (w : Nat) (v : Word) : State :=
  let old := s.reg (Reg.FLT_FENCE w)
  let changed := (List.range 32).filter fun i => old.getLsbD i != v.getLsbD i
  let allowed := changed.all fun i =>
    let t := 32 * w + i
    if v.getLsbD i then s.isLogical t else !s.running && !s.fault.retired.contains t
  if !allowed then s.put Reg.FLT_STATUS_CFG_ERR 1
  else changed.foldl (fun s i =>
    let t := 32 * w + i
    if v.getLsbD i then (s.fence t 1).log .flt 0 0x4236 t else s.fence t 0) s

end State

/-- FAULT_REPORT_TAKE (R692). -/
def execFaultReportTake (s : State) : Result := s.done s.reportTake

/-- LINK_RETRAIN_DONE (R689). -/
def execLinkRetrainDone (router : Fin 1152) (port : Fin 4) (ok : Bool) (s : State) : Result :=
  s.done (s.retrainDone router.val port.val ok)

/-- HEARTBEAT_TIMEOUT (R693). -/
def execHeartbeatTimeout (tile : Fin 1152) (s : State) : Result := s.done (s.heartbeatLost tile.val)

/-- ENGINE_TIMEOUT (R693). -/
def execEngineTimeout (tile : Fin 1152) (engine : Fin 4) (s : State) : Result :=
  s.done (s.engineTimeout tile.val (engine.val + 1))

/-- FIRMWARE_FENCE_WRITE (R695). -/
def execFirmwareFenceWrite (word : Fin 36) (value : Word) (s : State) : Result := s.done (s.fenceWrite word.val value)

end Sys2Proof.Machine
end

