-- ==== Sys2Proof/Machine/EventLog.lean ====
section
/-! DEFINITION. The event log, firmware's entries, and the EMCY producer (R564, R578, R579, R709, R710). -/

namespace Sys2Proof.Machine

/-- The error register bit of an event class, 0 for a class that has none (R578). -/
def emcyBit (cls : Nat) : Nat := [0, 2, 5, 5, 5, 4, 7, 7, 4, 7].getD cls 0

namespace State

/-- The node-ID in force (R527, R556). -/
def nodeId (s : State) : Nat := s.node

/-! EMCY. -/

/-- An EMCY message goes out, or waits while the inhibit time runs (R578). -/
def emcyPump (s : State) : Nat → State
  | 0 => s
  | n + 1 =>
    match s.emcy.waiting with
    | [] => s
    | b :: rest =>
      if s.emcy.sentAt ≠ 0 ∧ s.now < s.emcy.sentAt - 1 + s.obj 0x1015 0 * 20000 then s
      else
        let s := { s with emcy := { s.emcy with waiting := rest, sentAt := s.now + 1 } }
        (s.canSend 1 ⟨0x80 + s.nodeId, false, s.flag (Reg.CAN_CTRL_FD_EN 0), s.flag (Reg.CAN_CTRL_BRS_EN 0), b⟩).emcyPump n

/-- Queue an EMCY message of a code, the error register, an event code and a parameter (R578). -/
def emcyPut (s : State) (code event p0 : Nat) : State :=
  let b := leBytes 2 code ++ leBytes 1 (s.obj 0x1001 0) ++ leBytes 2 event ++ leBytes 3 p0
  let s := { s with emcy := { s.emcy with waiting := s.emcy.waiting ++ [b] } }
  s.emcyPump s.emcy.waiting.length

/-- A message with a code other than 0 enters the error history, the newest first (R578). -/
def historyPut (s : State) (code event : Nat) : State :=
  let n := min 16 (s.obj 0x1003 0 + 1)
  let s := (List.range 15).foldl (fun s i => s.setObj 0x1003 (16 - i) (s.obj 0x1003 (15 - i))) s
  (s.setObj 0x1003 1 (code + event * 65536)).setObj 0x1003 0 n

/-- Set a bit of the error register, and bit 0 with it (R579). -/
def errorBit (s : State) (b : Nat) : State :=
  let s := s.setObj 0x1001 0 ((s.obj 0x1001 0).lor (2 ^ b + 1 - 2 ^ b % 2))
  { s with emcy := { s.emcy with bits := s.emcy.bits.put b (s.now + 1) } }

/-- The EMCY message of an event-log entry (R578). -/
def emcyEvent (s : State) (e : Event) : State :=
  let cls := e.code / 4096
  if bits (s.obj 0x2A01 1) cls 1 = 0 ∨ emcyBit cls = 0 then s
  else ((s.errorBit (emcyBit cls)).historyPut (0xFF00 + cls) e.code).emcyPut (0xFF00 + cls) e.code e.p0

/-- EMCY 0xFF00, at most once a second (R709). -/
def emcyLost (s : State) : State :=
  if s.emcy.lostAt ≠ 0 ∧ s.now < s.emcy.lostAt - 1 + 200000000 then s
  else ({ s with emcy := { s.emcy with lostAt := s.now + 1 } }.historyPut 0xFF00 0).emcyPut 0xFF00 0 0

/-- Each bit of the error register clears 10 s after the last event of its classes, and the clear register is announced
(R579). -/
def errorClear (s : State) (b : Nat) : State :=
  let last := s.emcy.bits.at b
  if last = 0 then s
  else
    let s := s.reach (last - 1 + 2000000000)
    let s := { s with emcy := { s.emcy with bits := s.emcy.bits.put b 0 } }
    let left := s.obj 0x1001 0 - bits (s.obj 0x1001 0) b 1 * 2 ^ b
    let left := if left = 1 then 0 else left
    let s := s.setObj 0x1001 0 left
    let s := s.emcyPump s.emcy.waiting.length
    if left = 0 then s.emcyPut 0 0 0 else s

/-! The ring. -/

/-- The address of an entry of the ring by its number (R709). -/
def logAddr (s : State) (n : Nat) : Nat :=
  sramBase + s.get Reg.FLT_LOG_BASE_OFFSET + 32 * ((n - 1) % max 64 (s.get Reg.FLT_LOG_LEN_N))

/-- Write an entry into the ring (R564, R709). -/
def ringWrite (s : State) (e : Event) : State :=
  let n := (s.get Reg.FLT_LOG_HEAD_NUMBER + 1) % 2 ^ 32
  let full := max 64 (s.get Reg.FLT_LOG_LEN_N) ≤ s.fault.held
  let s := s.wrBytes (s.logAddr n) (leBytes 8 e.tb ++ leBytes 2 e.code ++ leBytes 2 e.source ++ leBytes 4 n ++
    leBytes 8 e.step ++ leBytes 4 e.p0 ++ leBytes 4 e.p1)
  let s := s.put Reg.FLT_LOG_HEAD_NUMBER n
  let s := if full then (s.count Reg.FLT_LOG_LOST_COUNT).emcyLost
    else s.onFault fun f => { f with held := f.held + 1 }
  let s := s.emcyEvent e
  let cls := e.code / 4096
  if cls = 2 ∨ cls = 3 ∨ cls = 6 ∨ cls = 8 then s.msix 12 else s

/-- One event comes before another in the order of R709. -/
def before (a b : Event) : Bool := a.rank < b.rank || (a.rank = b.rank && a.inst < b.inst)

/-- The waiting event of the first source. -/
def firstEvent (s : State) : Option Event :=
  s.events.foldl (fun o e => match o with
    | none => some e
    | some x => if before e x then some e else some x) none

/-- Append the waiting event of the first source (R709). -/
def appendNext (s : State) : State :=
  match s.firstEvent with
  | none => s
  | some e => { s with events := s.events.erase e }.ringWrite e

/-- Firmware appends an entry of classes 4, 7, 8 or 9 (R710). -/
def firmwareAppend (s : State) : State :=
  let w := (s.reg Reg.FLT_LOG_APP0).toNat
  let cls := bits w 12 4
  if cls = 4 ∨ 7 ≤ cls ∧ cls ≤ 9 then
    (s.put Reg.FLT_LOG_APP7_STATUS Status.ok.code).log .app 0 (bits w 0 16) (bits w 16 16)
      (s.reg Reg.FLT_LOG_APP1).toNat (s.reg Reg.FLT_LOG_APP2).toNat
  else s.put Reg.FLT_LOG_APP7_STATUS Status.refused.code

end State

/-- EVENT_LOG_APPEND (R709). -/
def execEventLogAppend (s : State) : Result := s.done s.appendNext

/-- FIRMWARE_LOG_APPEND (R710). -/
def execFirmwareLogAppend (s : State) : Result := s.done s.firmwareAppend

end Sys2Proof.Machine
end

