-- ==== Sys2Proof/Machine/Check.lean ====
section
/-! DEFINITION. The check-value units (R667 to R672). -/

namespace Sys2Proof.Machine

namespace State

/-- A unit may read an address: general manager SRAM, mapped DRAM, the flash window, the I/O hub block (R667). -/
def chkReads (s : State) (a : Nat) : Bool :=
  decide (sramBase ≤ a ∧ a < sramBase + sramBytes) || s.dramOk a || decide (0x8000000 ≤ a ∧ a < 0x10000000) ||
    decide (0x1060000 ≤ a ∧ a < 0x1070000)

/-- The byte a unit reads at an address. -/
def chkByte (s : State) (a : Nat) : Nat :=
  if 0x1060000 ≤ a ∧ a < 0x1070000 then getF (s.shown (a - a % 4)) (8 * (a % 4)) 8 else (s.rd8 a).toNat

/-- A byte that a unit writes into a message: into manager SRAM, DRAM or a register of the I/O hub; the flash window takes no
writes (R646, R672). -/
def chkPut (s : State) (a : Nat) (b : Nat) : State :=
  if 0x1060000 ≤ a ∧ a < 0x1070000 then
    s.writePlain (a - a % 4) (setF (s.reg (a - a % 4)) (8 * (a % 4)) 8 b)
  else if 0x8000000 ≤ a ∧ a < 0x10000000 then s
  else s.wr8 a (BitVec.ofNat 8 b)

/-- The width, polynomial, initial value, reflection and final XOR of a unit's algorithm (R668). -/
def chkAlg (s : State) (u : Nat) : Nat × Nat × Nat × Bool × Nat :=
  match s.get (Reg.CHK_CTRL_ALG u) with
  | 0 => (32, 0x04C11DB7, 0xFFFFFFFF, true, 0xFFFFFFFF)
  | 1 => (32, 0x1EDC6F41, 0xFFFFFFFF, true, 0xFFFFFFFF)
  | 2 => (16, 0x1021, 0xFFFF, false, 0)
  | 3 => (8, 0x2F, 0xFF, false, 0xFF)
  | _ =>
    let w := 8 * 2 ^ s.get (Reg.CHK_CTRL_WIDTH u)
    let v := fun (a : Nat) => (s.reg a).toNat % 2 ^ w
    (w, v (Reg.CHK_POLY u), v (Reg.CHK_INIT u), s.flag (Reg.CHK_CTRL_REFLECT u), v (Reg.CHK_XOROUT u))

/-- The check value of a unit's algorithm over bytes. -/
def chkValue (s : State) (u : Nat) (bs : List Nat) : Nat :=
  let a := s.chkAlg u
  crc a.1 a.2.1 a.2.2.1 a.2.2.2.2 a.2.2.2.1 bs

/-- The start address of a unit's job. -/
def chkAddr (s : State) (u : Nat) : Nat := s.get64 (Reg.CHK_ADDR_LO u) % 2 ^ 40

/-- Firmware may not touch a busy unit: the write is ignored (R670). -/
def chkIgnored (s : State) (u : Nat) : State := s.put (Reg.CHK_STATUS_CFG_ERR u) 1

/-- CHK_CMD.START (R669 to R671). -/
def chkStart (s : State) (u owner : Nat) : State :=
  if s.flag (Reg.CHK_STATUS_BUSY u) ∨ s.reg (Reg.CHK_LEN u) = 0#32 then s.put (Reg.CHK_STATUS_STATUS u) Status.refused.code
  else
    (((s.put (Reg.CHK_STATUS_STATUS u) Status.ok.code).put (Reg.CHK_STATUS_BUSY u) 1).put
      (Reg.CHK_STATUS_OWNER u) owner).put (Reg.CHK_POS_BYTES u) 0

/-- The security block takes unit 7 where it waits for it and no job holds it (R671). -/
def chkClaim (s : State) : State :=
  if s.chkWait && !s.flag (Reg.CHK_STATUS_BUSY 7) then
    ({ s with chkWait := false }.put (Reg.CHK_STATUS_BUSY 7) 1).put (Reg.CHK_STATUS_OWNER 7) 7
  else s

/-- A job ends with a result and whether it matched; the third is a mismatch to count. -/
def chkEnd (s : State) (u result : Nat) (hit miss : Bool) : State :=
  let s := ((s.put (Reg.CHK_STATUS_BUSY u) 0).put (Reg.CHK_STATUS_DONE u) 1).put (Reg.CHK_STATUS_RESULT u) result
  let s := ((s.put (Reg.CHK_STATUS_MATCH u) (if hit then 1 else 0)).count (Reg.CHK_JOBS_COUNT u)).raise (Reg.CHK_INT_EN u) 0
  let s := if miss then (s.count (Reg.CHK_MISMATCH_COUNT u)).raise (Reg.CHK_INT_EN u) 1 else s
  s.chkClaim

/-- The end of a COMPUTE job, or of a PROTECT job, with its comparison (R669). -/
def chkCompare (s : State) (u v : Nat) : State :=
  let s := s.put (Reg.CHK_RESULT_VALUE u) v
  if s.flag (Reg.CHK_CTRL_CMP_EN u) then
    let hit := v = s.get (Reg.CHK_EXPECT_VALUE u)
    s.chkEnd u 0 hit (!hit)
  else s.chkEnd u 0 false false

/-- A PROTECT job (R672). -/
def chkProtect (s : State) (u p : Nat) (msg : List Nat) : State :=
  let k := (s.chkAlg u).1 / 8
  let cnt := s.get (Reg.CHK_PROF_OFF_CNT_OFF u p)
  let at_ := s.get (Reg.CHK_PROF_OFF_CRC_OFF u p)
  let did := s.get (Reg.CHK_PROF_ID_DID u p)
  let c := if s.flag (Reg.CHK_PROF_CNT_VALID u p) then (s.get (Reg.CHK_PROF_CNT_LAST u p) + 1) % 256 else 0
  let msg := msg.set cnt c
  let v := s.chkValue u ([did % 256, did / 256] ++ msg.take at_ ++ msg.drop (at_ + k))
  let a := s.chkAddr u
  let s := (List.range k).foldl (fun s i => s.chkPut (a + at_ + i) (v / 256 ^ i % 256)) (s.chkPut (a + cnt) c)
  ((s.put (Reg.CHK_PROF_CNT_LAST u p) c).put (Reg.CHK_PROF_CNT_VALID u p) 1).chkCompare u v

/-- A CHECK job (R672). -/
def chkCheck (s : State) (u p : Nat) (msg : List Nat) : State :=
  let k := (s.chkAlg u).1 / 8
  let at_ := s.get (Reg.CHK_PROF_OFF_CRC_OFF u p)
  let did := s.get (Reg.CHK_PROF_ID_DID u p)
  let c := msg.getD (s.get (Reg.CHK_PROF_OFF_CNT_OFF u p)) 0
  let v := s.chkValue u ([did % 256, did / 256] ++ msg.take at_ ++ msg.drop (at_ + k))
  let stored := ofLe (((msg.drop at_).take k).map fun b => BitVec.ofNat 8 b)
  let keep := fun (s : State) => s.put (Reg.CHK_PROF_CNT_LAST u p) c
  let last := s.get (Reg.CHK_PROF_CNT_LAST u p)
  let d := (c + 256 - last) % 256
  let s := s.put (Reg.CHK_RESULT_VALUE u) v
  if v ≠ stored then s.chkEnd u 4 false true
  else if !s.flag (Reg.CHK_PROF_CNT_VALID u p) then ((keep s).put (Reg.CHK_PROF_CNT_VALID u p) 1).chkEnd u 5 false false
  else if d = 1 then (keep s).chkEnd u 0 true false
  else if 2 ≤ d ∧ d ≤ s.get (Reg.CHK_PROF_ID_MAXDELTA u p) then
    ((keep s).count (Reg.CHK_PROF_LOST_COUNT u p) (d - 1)).chkEnd u 1 true false
  else if d = 0 then s.chkEnd u 2 false false
  else (keep s).chkEnd u 3 false true

/-- The job of a unit ends (R667, R669, R672). -/
def chkDone (s : State) (u : Nat) : State :=
  if !s.flag (Reg.CHK_STATUS_BUSY u) || s.get (Reg.CHK_STATUS_OWNER u) = 7 then s
  else
    let a := s.chkAddr u
    let n := s.get (Reg.CHK_LEN_BYTES u)
    let readable := ((List.range n).takeWhile fun i => s.chkReads (a + i)).length
    let s := s.put (Reg.CHK_POS_BYTES u) readable
    if readable < n then (s.put (Reg.CHK_STATUS_STATUS u) Status.accessError.code).chkEnd u 6 false false
    else
      let msg := (List.range n).map fun i => s.chkByte (a + i)
      let p := s.get (Reg.CHK_CTRL_PROF u)
      let mode := s.get (Reg.CHK_CTRL_MODE u)
      if mode = 0 then s.chkCompare u (s.chkValue u msg)
      else
        let k := (s.chkAlg u).1 / 8
        let cnt := s.get (Reg.CHK_PROF_OFF_CNT_OFF u p)
        let at_ := s.get (Reg.CHK_PROF_OFF_CRC_OFF u p)
        if n ≤ cnt ∨ n < at_ + k ∨ (at_ ≤ cnt ∧ cnt < at_ + k) then s.chkEnd u 6 false false
        else if mode = 1 then s.chkProtect u p msg
        else s.chkCheck u p msg

/-- CHK_CMD.ABORT (R670). -/
def chkAbort (s : State) (u owner : Nat) : State :=
  if s.flag (Reg.CHK_STATUS_BUSY u) && decide (s.get (Reg.CHK_STATUS_OWNER u) = owner) then s.chkEnd u 7 false false else s

end State

/-- CHK_START (R669). -/
def execChkStart (unit : Fin 8) (owner : Fin 5) (s : State) : Result := s.done (s.chkStart unit.val owner.val)

/-- CHK_ABORT (R670). -/
def execChkAbort (unit : Fin 8) (owner : Fin 5) (s : State) : Result := s.done (s.chkAbort unit.val owner.val)

/-- CHK_JOB_DONE (R669). -/
def execChkJobDone (unit : Fin 8) (s : State) : Result := s.done (s.chkDone unit.val)

/-- CHK_SECURITY_CLAIM (R671). -/
def execChkSecurityClaim (s : State) : Result :=
  s.done (if s.get (Reg.CHK_STATUS_OWNER 7) = 7 ∧ s.flag (Reg.CHK_STATUS_BUSY 7) then s
    else { s with chkWait := true }.chkClaim)

/-- CHK_PROFILE_RESET (R672). -/
def execChkProfileReset (unit : Fin 8) (prof : Fin 4) (s : State) : Result :=
  s.done (if s.flag (Reg.CHK_STATUS_BUSY unit.val) then s.chkIgnored unit.val
    else s.put (Reg.CHK_PROF_CNT_VALID unit.val prof.val) 0)

end Sys2Proof.Machine
end

