-- ==== Sys2Proof/Machine/Counts.lean ====
section
/-! DEFINITION. The per-step sums that the dictionary reads, gathered at each close (R312, R355, R396, R586, R717). -/

namespace Sys2Proof.Machine

namespace State

/-- A sum over the tiles. -/
def overTiles (f : Nat → Nat) : Nat := ((List.range 1152).map f).sum

/-- A sum over the stream engines. -/
def overEngines (f : Nat → Nat) : Nat := ((List.range 16).map f).sum

/-- The objects that give a count of the last step, with the count since the start that each reads. -/
def stepSums (s : State) : List (Nat × Nat × Nat) :=
  [(0x2801, 1, overTiles fun t => s.get64 (Reg.EVM_DEFL_LO t)),
   (0x2801, 2, overTiles fun t => s.get (Reg.EVM_DROP_LATE_COUNT t) + s.get (Reg.EVM_DROP_TAG_COUNT t)),
   (0x2801, 3, overTiles fun t => s.get (Reg.EVM_DROP_FENCE_COUNT t)),
   (0x2801, 4, overTiles fun t => s.get (Reg.EVM_DROP_SPILL_COUNT t)),
   (0x2801, 5, overTiles fun t => s.get (Reg.EVM_DROP_UNDELIV_COUNT t)),
   (0x2801, 6, overTiles fun t => s.get (Reg.EVM_STORM_COUNT t)),
   (0x2801, 7, overTiles fun t => s.get (Reg.EVM_CRC_ERR_COUNT t)),
   (0x2802, 3, overEngines fun q => s.get (Reg.STR_NULL_COUNT q)),
   (0x2802, 4, overEngines fun q => s.get (Reg.STR_FAILED_COUNT q)),
   (0x2802, 5, overTiles fun t => s.get (Reg.SCM_ECC_CORR_COUNT t)),
   (0x2802, 6, overTiles fun t => s.get (Reg.SCM_ECC_UNCORR_COUNT t)),
   (0x2900, 1, overTiles fun t => s.get64 (Reg.Q_TX_LO t)),
   (0x2900, 2, overTiles fun t => s.get (Reg.Q_NO_CREDIT_COUNT t)),
   (0x2900, 3, overTiles fun t =>
      s.get (Reg.Q_DROP_STALE_COUNT t) + s.get (Reg.Q_DROP_CLOSED_COUNT t) + s.get (Reg.Q_DROP_FOREIGN_COUNT t)),
   (0x2901, 1, s.fault.reports),
   (0x2901, 2, overTiles fun t => s.get (Reg.SYNC_FLT_STAT_SUPP t))]

/-- The sums of the step that closes; at level OFF they read 0. A counter that was cleared since counts from 0. -/
def gather (s : State) : State :=
  s.stepSums.foldl (fun s x =>
    let key := ObjMap.key x.1 x.2.1
    let old := s.totals.at key
    let s := s.setObj x.1 x.2.1 (if s.get Reg.DBG_STATUS_LEVEL = 0 then 0 else if old ≤ x.2.2 then x.2.2 - old else x.2.2)
    { s with totals := s.totals.put key x.2.2 }) s

/-- The counter record that DRAM holds of a logical ID for step `e`, as its tile and the counters 0 to 8, where HEAD and TAIL
agree with each other and with the step (R718, R719). -/
def obsRecord (s : State) (l e : Nat) : Option (List Nat) :=
  let a := s.get64 Reg.DBG_OBS_BASE_LO + 128 * l
  if s.dramMapped a 128 ∧ s.rdLe a 8 = e ∧ s.rdLe (a + 0x7C) 4 = e % 2 ^ 32 then
    some (s.rdLe (a + 0x78) 2 :: (List.range 9).map fun n => s.rdLe (a + 8 + 8 * n) 8)
  else none

/-- What a record adds to the sums: its counters less those of the ID's last valid record; the first one, and that of an ID
that has moved to another tile since, adds nothing (R721, R737). -/
def recordGain (old new : List Nat) : List Nat :=
  if old.head? ≠ new.head? then List.replicate 9 0
  else (old.tail.zip new.tail).map fun x => (x.2 + 2 ^ 64 - x.1) % 2 ^ 64

/-- At level OFF 0x2B01 reads 0; else firmware forms it, when a gather period ends with the close of step `t`, from the records
that the copies of that period have brought (R346, R717, R719, R721). -/
def gatherRecords (s : State) (t : Nat) : State :=
  let k := max 1 (s.get Reg.DBG_CTRL_GATHER)
  let show_ := fun (s : State) (v : List Nat) =>
    (List.range 9).foldl (fun s n => s.setObj 0x2B01 (n + 1) (v.getD n 0 % 2 ^ 64)) s
  if s.get Reg.DBG_STATUS_LEVEL = 0 then show_ s []
  else if t < k ∨ (t - s.loadStep) % k ≠ k - 1 then s
  else
    let found := (List.range 1024).filterMap fun l =>
      if (s.mgrLtt l).any fun x => !s.fault.retired.contains x then (s.obsRecord l (t - k)).map fun r => (l, r) else none
    let sums := found.foldl (fun v x => v.zipWith (· + ·) (recordGain (s.records.at x.1) x.2)) (List.replicate 9 0)
    show_ { s with records := found.foldl (fun m x => m.put x.1 x.2) s.records } sums

end State

end Sys2Proof.Machine
end

