-- ==== Sys2Proof/Machine/Power.lean ====
section
/-! DEFINITION. Supplies, clocks and temperature: the PMBus master, voltage changes, the half-clock procedure, the
governor, and how rails fall (R623 to R642). -/

namespace Sys2Proof.Machine

namespace State

/-- Change the power state beside the registers. -/
def onPower (s : State) (f : Power → Power) : State := { s with power := f s.power }

/-- A refused request leaves its reason, its object and event 0x4101 (R60). -/
def deny (s : State) (reason index sub : Nat) : State :=
  (s.refusal reason index sub).log .app 0 0x4101 srcManager (index * 256 + sub) reason

/-! The PMBus master (R631 to R633). -/

/-- The codes of the PMBus commands in use (R631, log entry 19). -/
abbrev pmbPage : Nat := 0x00
abbrev pmbOperation : Nat := 0x01
abbrev pmbClearFaults : Nat := 0x03
abbrev pmbVout : Nat := 0x21

/-- Place a request behind those of its place and of earlier places. -/
def pmbPlace (r : PmbRequest) : List PmbRequest → List PmbRequest
  | [] => [r]
  | x :: l => if r.place < x.place then r :: x :: l else x :: pmbPlace r l

/-- Queue a request; the transaction in progress, the first, is never interrupted (R633). -/
def pmbSend (s : State) (r : PmbRequest) : State := s.onPower fun p => { p with
  pmb := match p.pmb with
    | [] => [r]
    | x :: l => x :: pmbPlace r l }

/-- The value of a raw VOUT_COMMAND lies inside the rail's window: value · 2^EXP volts against millivolts (R631, R632). -/
def voutInWindow (s : State) (rail v : Nat) : Bool :=
  let lo := s.get (Reg.PWR_RAIL_WIN_LO rail)
  let hi := s.get (Reg.PWR_RAIL_WIN_HI rail)
  let e := sext 5 (s.get (Reg.PWR_RAIL_CFG_EXP rail))
  let k := 2 ^ e.natAbs
  if e < 0 then decide (lo * k ≤ v * 1000) && decide (v * 1000 ≤ hi * k)
  else decide (lo ≤ v * 1000 * k) && decide (v * 1000 * k ≤ hi)

/-- PMB_RAW_TRANSACTION: any read, and the writes R632 names; the others are refused. -/
def pmbRaw (s : State) (w : Word) : State :=
  let rail := getF w 0 3
  let code := getF w 8 8
  let data := s.get Reg.PWR_PMB_DATA_DATA
  let wr := getF w 30 1 = 1
  if wr ∧ ¬ (code = pmbPage ∨ code = pmbClearFaults ∨ code = pmbVout ∧ s.voutInWindow rail data) then
    ((s.put Reg.PWR_PMB_RESULT_STATUS Status.refused.code).put Reg.PWR_PMB_RESULT_VALID 1).log .pwr 0 0x1204 srcManager rail code
  else (s.put Reg.PWR_PMB_RESULT_VALID 0).pmbSend ⟨4, rail, code, data, wr, 0⟩

/-! Voltage changes (R630). -/

/-- The rail of a half, 0 west and 1 east, is the half's number (R623). V_min of a clock plus the margin (R628). -/
def setPoint (s : State) (mhz : Nat) : Nat :=
  (if mhz ≤ 200 then 650 else if mhz ≤ 400 then 690 else if mhz ≤ 500 then 720 else if mhz ≤ 650 then 780 else 850) +
    s.get Reg.PWR_VMARGIN_MV

/-- Begin a voltage change of a core rail. -/
def rampStart (s : State) (rail mv : Nat) : State :=
  let s := s.put (Reg.PWR_RAIL_STAT_BUSY rail) 1
  let s := s.onPower fun p => { p with
    ramps := p.ramps ++ [⟨rail, mv, s.get (Reg.PWR_RAIL_SET_MV rail), s.now, none⟩] }
  s.pmbSend ⟨2, rail, pmbVout, mv, true, 0⟩

/-- The change in progress of a rail. -/
def rampOf (s : State) (rail : Nat) : Option Ramp := s.power.ramps.find? fun r => r.rail = rail

/-- A rail's change is over. -/
def rampDrop (s : State) (rail : Nat) : State :=
  (s.put (Reg.PWR_RAIL_STAT_BUSY rail) 0).onPower fun p => { p with ramps := p.ramps.filter fun r => r.rail ≠ rail }

/-! The half-clock procedure (R629). -/

/-- The clock of a half in force, by the half's number. -/
def clockOf (s : State) (h : Nat) : Nat := if h = 0 then s.power.west else s.power.east

/-- The clock of a half that a change leads to. -/
def halfClock (c : HalfChange) (h : Nat) : Nat := if h = 0 then c.west else c.east

/-- What 0x2110:02 and PWR_HALF_STAT.STATE read (R629, R640). -/
def halfShow (s : State) : State :=
  let v := if s.power.half.isSome then 2 else if s.split then 1 else 0
  s.put Reg.PWR_HALF_STAT_STATE v

/-- The procedure ends: the new state is in force (R629). -/
def halfEnd (s : State) (c : HalfChange) : State :=
  ((s.onPower fun p => { p with half := none, split := c.split }).halfShow).log .pwr 0 0x1402 srcManager

/-- Step 3: the rail of a half whose clock has fallen falls. -/
def halfFall (s : State) (c : HalfChange) : State :=
  let s := s.onPower fun p => { p with half := some { c with stage := 3 } }
  let s := [0, 1].foldl (fun s h =>
    if s.setPoint (halfClock c h) < s.get (Reg.PWR_RAIL_SET_MV h) then s.rampStart h (s.setPoint (halfClock c h)) else s) s
  if s.power.ramps.isEmpty then s.halfEnd c else s

/-- Step 2: each half that changes is gated and its PLL relocks. -/
def halfGate (s : State) : State :=
  match s.power.half with
  | some c =>
    if c.stage ≠ 1 then s
    else
      let l := [0, 1].filter fun h => s.clockOf h != halfClock c h
      if l.isEmpty then s.halfFall c else s.onPower fun p => { p with half := some { c with stage := 2, locks := l } }
  | none => s

/-- The rises are confirmed, or none was needed: the change waits for the close, or goes on at once while halted. -/
def halfWait (s : State) (c : HalfChange) : State :=
  let s := s.onPower fun p => { p with half := some { c with stage := 1 } }
  if s.running then s else s.halfGate

/-- Begin the procedure towards a state (R629). -/
def halfBegin (s : State) (split : Bool) : State :=
  let w := s.get Reg.PWR_CLK_W_MHZ
  let c : HalfChange := ⟨split, w, if split then s.get Reg.PWR_CLK_E_MHZ else w, 0, []⟩
  let s := (s.onPower fun p => { p with half := some c }).halfShow
  let s := [0, 1].foldl (fun s h => if s.clockOf h < halfClock c h then s.rampStart h (s.setPoint (halfClock c h)) else s) s
  if s.power.ramps.isEmpty then s.halfWait c else s

/-- A voltage change is confirmed (R629, R630). -/
def rampDone (s : State) (rail : Nat) : State :=
  let s := s.rampDrop rail
  match s.power.half with
  | some c =>
    if !s.power.ramps.isEmpty then s
    else if c.stage = 0 then s.halfWait c
    else if c.stage = 3 then s.halfEnd c
    else s
  | none => s

/-- A voltage change is faulted: the previous set point goes back to the rail, and a clock rise that waited on it is
abandoned (R630). -/
def rampFault (s : State) (r : Ramp) : State :=
  let s := (s.rampDrop r.rail).put (Reg.PWR_RAIL_STAT_FAULT r.rail) 1
  let s := (s.put (Reg.PWR_RAIL_SET_MV r.rail) r.old).pmbSend ⟨2, r.rail, pmbVout, r.old, true, 0⟩
  let s := s.log .pwr 0 0x1203 srcManager r.rail
  match s.power.half with
  | some c =>
    if c.stage = 0 then (s.onPower fun p => { p with half := none }).halfShow
    else if c.stage = 3 ∧ s.power.ramps.isEmpty then (s.onPower fun p => { p with half := none, split := c.split }).halfShow
    else s
  | none => s

/-- PLL_RELOCK_DONE: the half runs at its new clock (R629). -/
def pllRelock (s : State) (h : Nat) : State :=
  match s.power.half with
  | some c =>
    if c.stage = 2 ∧ h ∈ c.locks then
      let c := { c with locks := c.locks.filter (· != h) }
      let s := s.onPower fun p => { p with
        half := some c, west := if h = 0 then c.west else p.west, east := if h = 1 then c.east else p.east }
      if c.locks.isEmpty then s.halfFall c else s
    else s
  | none => s

/-- The running image, or one a pending swap brings, crosses the seam (R349, R629). -/
def imageCrosses (s : State) : Bool :=
  s.flag Reg.SCM_LD_STAT_SEAM_ACT || (s.flag Reg.SCM_LD_STAT_SWAP_PEND && s.flag Reg.SCM_LD_STAT_SEAM_STBY)

/-- A power-state change or a half-clock change is in progress. -/
def powerBusy (s : State) : Bool := s.power.goal.isSome || s.power.half.isSome

/-- A request refused by either path: from the dictionary with its reason (R60); from a register as a write ignored, which sets
MODE_VIOLATION and logs event 0x4103 where it is the combination of M5 that hardware checks (R59). -/
def turnAway (s : State) (direct : Bool) (reason index sub a : Nat) : State :=
  if !direct then s.deny reason index sub
  else if reason = 5 then (s.onPower fun p => { p with violated := true }).log .pwr 0 0x4103 srcManager 0 a
  else s

/-- Why a half-clock request is refused, 0 for no reason (R629, R707). -/
def halfReason (s : State) (split : Bool) : Nat :=
  if s.fault.remap.isSome then 0x29
  else if s.powerBusy then 0x17
  else if split && s.imageCrosses then 0x05
  else if split && s.get Reg.PWR_CLK_W_MHZ == s.get Reg.PWR_CLK_E_MHZ then 0x1F
  else 0

/-- HALF_CLOCK_REQUEST (R629, R707). -/
def halfRequest (s : State) (split direct : Bool) : State :=
  let r := s.halfReason split
  if r ≠ 0 then s.turnAway direct r 0x2110 1 Reg.PWR_HALF_CTRL
  else
    let s := s.put Reg.PWR_HALF_CTRL_SPLIT (if split then 1 else 0)
    if s.power.split = split then s else s.halfBegin split

/-- Why a clock is refused to a half, 0 for no reason (R61, R628, R629). -/
def clockReason (s : State) (h mhz : Nat) : Nat :=
  let other := if h = 0 then s.get Reg.PWR_CLK_E_MHZ else s.get Reg.PWR_CLK_W_MHZ
  let mv := s.setPoint mhz
  if mhz % 25 ≠ 0 ∨ mhz < 100 ∨ s.obj 0x2001 3 < mhz then 0x10
  else if mv < s.get (Reg.PWR_RAIL_WIN_LO h) ∨ s.get (Reg.PWR_RAIL_WIN_HI h) < mv then 0x22
  else if s.power.split ∧ mhz = other then 0x1F
  else if s.power.split ∧ s.imageCrosses then 0x05
  else if s.powerBusy then 0x17
  else 0

/-- CORE_CLOCK_WRITE: a clock object or register, 0 west and 1 east (R61, R628, R629). -/
def clockWrite (s : State) (h mhz : Nat) (direct : Bool) : State :=
  let r := s.clockReason h mhz
  if r ≠ 0 then s.turnAway direct r 0x2110 (3 + h) (if h = 0 then Reg.PWR_CLK_W else Reg.PWR_CLK_E)
  else
    let s := s.put (if h = 0 then Reg.PWR_CLK_W_MHZ else Reg.PWR_CLK_E_MHZ) mhz
    if s.power.split then (if s.clockOf h = mhz then s else s.halfBegin true)
    else if h = 0 ∧ s.power.west ≠ mhz then s.halfBegin false
    else s

/-- RAIL_VOUT_POLL: what READ_VOUT and STATUS_WORD return of a rail (R624, R630). -/
def voutPoll (s : State) (rail mv : Nat) (fault : Bool) : State :=
  let s := s.put (Reg.PWR_RAIL_MEAS_MV rail) mv
  match s.rampOf rail with
  | some r =>
    match r.written with
    | some t =>
      let good := s.flag (Reg.PWR_RAIL_STAT_PG rail) || !s.flag (Reg.PWR_RAIL_CFG_PG_PIN rail)
      if good && !fault && decide (mv ≤ r.target + 15) && decide (r.target ≤ mv + 15) &&
          decide (s.now ≤ t + 200 * s.get (Reg.PWR_RAIL_TMO_US rail)) then s.rampDone rail
      else s
    | none => s
  | none => s

/-- RAIL_CONFIRM_TIMEOUT (R630). -/
def confirmTimeout (s : State) (rail : Nat) : State :=
  match s.rampOf rail with
  | some r => (s.reach (r.written.getD r.began + 200 * s.get (Reg.PWR_RAIL_TMO_US rail))).rampFault r
  | none => s

/-! How rails fall (R626, R634, R635). -/

/-- The rails in the order in which they are switched off (R626, R634). -/
abbrev fallOrder : List Nat := [1, 0, 3, 4, 5, 2, 6]

/-- Switch off the rail that is next to fall, by OPERATION and its enable output. -/
def fallNext (s : State) : State :=
  match s.power.off with
  | [] => s
  | r :: _ => (s.onPower fun p => { p with enabled := p.enabled.filter (· != r) }).pmbSend ⟨1, r, pmbOperation, 0, true, 0⟩

/-- A register that the always-on domain or the fuses hold: PWR_ from 0x800 on, the lock counts of R542, the fallback timer
and the lifecycle records (R542, R546, R642, R665). -/
def keptReg (aon : Bool) (a : Nat) : Bool :=
  (aon && decide (0x10B0800 ≤ a) && decide (a < 0x10B1000)) || (aon && [0, 1, 2].any fun i => a = Reg.SEC_LOCK i) ||
    (aon && (a = Reg.SEC_FB_TIMER || a = Reg.SEC_FB_REMAIN)) || a = Reg.SEC_LC

/-- What a loss of every rail but VAON leaves, or with `aon` false of VAON too: the flash, the fuses, the sealed copies and
the wipe mark, and the always-on domain's records (R414, R416, R625, R638, R765). The waiting commands and what has left
the device are not the device's own. -/
def powerLoss (s : State) (aon : Bool) : State :=
  { State.reset with
    regs := s.regs.filter fun x => keptReg aon x.1
    mem := s.mem.filter fun x => 0x8000000 ≤ x.1 && x.1 < 0x10000000
    pending := s.pending
    freeCount := s.freeCount
    sent := s.sent
    answer := s.answer
    wakes := if aon then s.wakes else []
    sec := { Security.empty with
      sealed := s.sec.sealed
      mark := s.sec.mark
      tamper := if aon then s.sec.tamper else []
      locks := if aon then s.sec.locks else []
      lockouts := if aon then s.sec.lockouts else [] }
    power := { Power.start with vaon := aon, thermN := aon && s.power.thermN }
    start := { Start.none with
      testDue := s.start.testDue, fuses := s.start.fuses, ddr := s.start.ddr, xtal := s.start.xtal,
      testen := s.start.testen, trip := aon && s.start.trip } }

/-- The tile, pod and router domain after its rails were off: every register at its reset value, every SRAM zero (R417,
R625). -/
def coreLoss (s : State) : State :=
  let out := fun (a : Nat) => a < 0x100000000 || 0x184800000 ≤ a
  { s with
    regs := s.regs.filter fun x => out x.1
    mem := s.mem.filter fun x => out x.1
    mesh := Mesh.empty
    delivery := Delivery.empty
    streams := { Streams.empty with activeClass := s.streams.activeClass, standbyBase := s.streams.standbyBase }
    scanRegs := []
    clearing := s.clearing.filter fun x => x.1 = 1152
    creditDue := s.creditDue.filter fun x => x.1 = 1152
    oooSeen := []
    deliveryOpen := false
    fault := { s.fault with pend := [], hist := [], latched := [], cores := [] } }

/-- OFF-WAKEABLE is entered: what its rails held is lost, and the timebase is latched (R625, R638). -/
def offEntered (s : State) : State :=
  let tb := s.now
  ((s.powerLoss true).put64 Reg.TB_COUNT_LO tb).put Reg.PWR_STATUS_STATE 3

/-- A power-state change ends: event 0x1101 with the old and the new state (R626). -/
def stateEnter (s : State) (old new : Nat) : State :=
  let s := ((s.put Reg.PWR_STATUS_STATE new).onPower fun p => { p with goal := none }).log .pwr 0
    0x1101 srcManager old new
  if new = 3 then s.offEntered else if new = 2 then s.coreLoss else s

/-- DRAM goes into self-refresh; a page copy is finished first (R429). -/
def selfRefresh (s : State) : State :=
  let s := s.memories.copies.foldl (fun s c => s.pageCopied c.1 []) s
  (List.range 4).foldl (fun s u => s.put (Reg.DDR_STATUS_SELF_REFRESH u) 1) s

/-- Begin to switch rails off on the way to a state. -/
def fallBegin (s : State) (dest : Nat) (rails : List Nat) : State :=
  let old := s.get Reg.PWR_STATUS_STATE
  let s := s.put Reg.PWR_STATUS_STATE 4
  let s := s.onPower fun p => { p with goal := some (old, dest), off := rails.filter fun r => r ∈ p.enabled }
  if s.power.off.isEmpty then s.stateEnter old dest else s.fallNext

/-- Every egress channel is held safe (R468, R626, R635). -/
def egressHold (s : State) : State := (s.onPower fun p => { p with safe := true }).guardScan

/-- The entry procedure of OFF-WAKEABLE (R416, R626). -/
def offBegin (s : State) : State :=
  let s := s.egressHold
  let s := if s.wiping then s else s.sealWrite
  s.selfRefresh.fallBegin 3 fallOrder

/-- A trip or a rail fault: every change in progress is abandoned, and the device enters OFF-WAKEABLE with the cause in the
always-on record (R7, R635, R641). -/
def tripOff (s : State) (cause rail : Nat) : State :=
  let s := ((s.put Reg.PWR_TRIP_REC_CAUSE cause).put Reg.PWR_TRIP_REC_RAIL rail).put64 Reg.PWR_TRIP_TB_LO s.now
  let s := s.onPower fun p => { p with
    half := none, ramps := [], pmb := [], goal := none, thermN := p.thermN || cause = 1 }
  { s with start := { s.start with rail := none, trip := true } }.offBegin

/-- RAIL_POWER_GOOD_FALL: the next rail is switched off 0.2 ms later (R634). -/
def pgFall (s : State) (rail : Nat) : State :=
  match s.power.off with
  | r :: l =>
    if r ≠ rail then s
    else
      let s := (s.put (Reg.PWR_RAIL_STAT_PG r) 0).onPower fun p => { p with off := l }
      match l, s.power.goal with
      | [], some (old, new) => s.stateEnter old new
      | [], none => s
      | _, _ => (s.reach (s.now + 40000)).fallNext
  | [] => s

/-- The rails that the device's state keeps on (R625). -/
def keptRails (s : State) : List Nat :=
  match s.get Reg.PWR_STATUS_STATE with
  | 0 => [0, 1, 2, 3, 4, 5, 6]
  | 1 => [0, 1, 2, 3, 4, 5, 6]
  | 2 => [2, 3, 4, 5, 6]
  | _ => []

/-- RAIL_PG_LOSS (R635). -/
def pgLoss (s : State) (rail : Nat) : State :=
  if rail ∈ s.keptRails ∧ rail ∉ s.power.off then (s.put (Reg.PWR_RAIL_STAT_PG rail) 0).tripOff 2 rail else s

/-- A step of a power-state change is faulted: the device stays in the state it was leaving, and the rails it had switched
off are enabled again (R630). -/
def stateFault (s : State) : State :=
  match s.power.goal with
  | none => s
  | some (old, new) =>
    let s := (s.put Reg.PWR_STATUS_STATE old).put Reg.PWR_STATUS_FAULT 1
    let s := s.onPower fun p => { p with
      goal := none, off := [], enabled := p.enabled ++ (s.keptRails.filter fun r => r ∉ p.enabled) }
    s.log .pwr 0 0x1102 srcManager old new

/-- PMB_TRANSACTION_DONE: acknowledged with good PEC, or not; a third failure ends the request (R630, R633). -/
def pmbDone (s : State) (ok : Bool) (data : Nat) : State :=
  match s.power.pmb with
  | [] => s
  | r :: rest =>
    if !ok && r.tries < 2 then s.onPower fun p => { p with pmb := { r with tries := r.tries + 1 } :: rest }
    else
      let s := s.onPower fun p => { p with pmb := rest }
      if r.place = 4 then
        let s := if ok && !r.write then s.put Reg.PWR_PMB_DATA_DATA data else s
        (s.put Reg.PWR_PMB_RESULT_STATUS (if ok then Status.ok.code else Status.accessError.code)).put Reg.PWR_PMB_RESULT_VALID 1
      else if r.code = pmbVout then
        match s.rampOf r.rail with
        | some x =>
          if x.target ≠ r.data then s
          else if ok then
            (s.put (Reg.PWR_RAIL_SET_MV r.rail) r.data).onPower fun p => { p with
              ramps := p.ramps.map fun y => if y.rail = r.rail then { y with written := some s.now } else y }
          else s.rampFault x
        | none => s
      else if r.code = pmbOperation && !ok then s.stateFault
      else s

/-! The governor (R639). -/

/-- The package power limit in effect, in W (R615, R639). -/
def powerLimit (s : State) : Nat :=
  let w := s.get Reg.PWR_GOV_LIMIT_W
  if w = 0 then s.obj 0x2001 4 else min w (s.obj 0x2001 4)

/-- GOVERNOR_INTERVAL: the estimate of one interval in 0.1 W, and the dense issue cycles withheld in it (R639). -/
def governor (s : State) (power withheld : Nat) : State :=
  let s := s.reach (s.power.ranAt + 2000)
  let s := s.onPower fun p => { p with
    loads := ((power + p.bias).toNat :: p.loads).take 100, ticks := p.ticks + 1, withheld := p.withheld + withheld,
    ranAt := s.now }
  let avg := s.power.loads.sum / max 1 s.power.loads.length
  let l := 10 * s.powerLimit
  let allow := s.get Reg.PWR_GOV_STAT_ALLOW
  let s := (s.put Reg.PWR_PKG_POWER_DW (min 65535 avg)).put Reg.PWR_GOV_STAT_LIMIT s.powerLimit
  if l < avg then
    let s := s.put Reg.PWR_GOV_STAT_ALLOW (max 1 (allow - 1))
    if allow = 64 ∧ (s.power.warned = 0 ∨ s.power.warned - 1 + 200000000 ≤ s.now) then
      (s.onPower fun p => { p with warned := s.now + 1 }).log .pwr 0 0x1301 srcManager
    else s
  else if s.power.ticks % 10 = 0 ∧ 100 * avg < 97 * l then s.put Reg.PWR_GOV_STAT_ALLOW (min 64 (allow + 1))
  else s

/-- GOVERNOR_CORRECTION: READ_VOUT in mV and READ_IOUT in 0.1 A of rails 0 to 6; the estimate moves to what they measure
(R639). -/
def governorCorrect (s : State) (reads : List (Nat × Nat)) : State :=
  let s := reads.zipIdx.foldl (fun s x =>
    (s.put (Reg.PWR_RAIL_MEAS_MV x.2) x.1.1).put (Reg.PWR_RAIL_MEAS_A x.2) x.1.2) s
  let got : Int := ((reads.map fun x => x.1 * x.2).sum / 1000 : Nat)
  let avg : Int := (s.power.loads.sum / max 1 s.power.loads.length : Nat)
  s.onPower fun p => { p with bias := p.bias + got - avg }

/-- The withheld cycles of a step are in their register at its close (R639). -/
def withheldClose (s : State) : State :=
  (s.put Reg.PWR_WITHHELD_COUNT (min (2 ^ 32 - 1) s.power.withheld)).onPower fun p => { p with withheld := 0 }

/-! Temperature (R7, R640). -/

/-- The highest reading of a half in 0.1 °C. -/
def junction (s : State) : Half → Int
  | .west => sext 16 (s.get Reg.PWR_TEMP_W)
  | .east => sext 16 (s.get Reg.PWR_TEMP_E)

/-- THERMAL_SAMPLE: the readings of each half's sensors, the highest of each counting; the trip at +115 °C (R7, R640). -/
def thermalSample (s : State) (west east : Nat) : State :=
  let s := (s.put Reg.PWR_TEMP_W west).put Reg.PWR_TEMP_E east
  if 1150 ≤ s.junction .west ∨ 1150 ≤ s.junction .east then
    if s.power.goal.any fun g => g.2 = 3 then
      if s.power.thermN then s
      else
        let s := ((s.put Reg.PWR_TRIP_REC_CAUSE 1).put Reg.PWR_TRIP_REC_RAIL 0).put64 Reg.PWR_TRIP_TB_LO s.now
        { (s.countObj 16 0x2101 5).onPower fun p => { p with thermN := true } with start := { s.start with trip := true } }
    else (s.countObj 16 0x2101 5).tripOff 1 0
  else s

/-- Both halves take the larger level while the running image crosses the seam (R75, R640). -/
def throttleShow (s : State) : State :=
  let both := s.flag Reg.SCM_LD_STAT_SEAM_ACT
  let m := max s.power.kWest s.power.kEast
  ((s.put Reg.PWR_HALF_STAT_KW (if both then m else s.power.kWest)).put Reg.PWR_HALF_STAT_KE
    (if both then m else s.power.kEast)).halfShow

/-- A throttle level changes: events 0x1302 and 0x1303 where it leaves 0 and returns to it (R640). -/
def throttleSet (s : State) (h : Half) (k : Nat) : State :=
  let old := match h with
    | .west => s.power.kWest
    | .east => s.power.kEast
  let s := (match h with
    | .west => s.onPower fun p => { p with kWest := k, kWestAt := s.now }
    | .east => s.onPower fun p => { p with kEast := k, kEastAt := s.now }).throttleShow
  if old = 0 ∧ 0 < k then s.log .pwr 0 0x1302 srcManager h.ctorIdx k
  else if 0 < old ∧ k = 0 then s.log .pwr 0 0x1303 srcManager h.ctorIdx
  else s

/-- THROTTLE_STEP: up every 1 ms above +105 °C, down every 10 ms below +100 °C (R640). -/
def throttleStep (s : State) (h : Half) : State :=
  let (k, last) := match h with
    | .west => (s.power.kWest, s.power.kWestAt)
    | .east => (s.power.kEast, s.power.kEastAt)
  if 1050 < s.junction h then (s.reach (last + 200000)).throttleSet h (min 12 (k + 1))
  else if s.junction h < 1000 ∧ 0 < k then (s.reach (last + 2000000)).throttleSet h (k - 1)
  else s

end State

/-- CORE_CLOCK_WRITE (R628). -/
def execCoreClockWrite (half : Half) (mhz : Fin 1024) (direct : Bool) (s : State) : Result :=
  s.done (s.clockWrite half.ctorIdx mhz.val direct)

/-- HALF_CLOCK_REQUEST (R629). -/
def execHalfClockRequest (split direct : Bool) (s : State) : Result := s.done (s.halfRequest split direct)

/-- RAIL_VOUT_POLL (R630). -/
def execRailVoutPoll (rail : Fin 7) (mv : Fin 65536) (fault : Bool) (s : State) : Result :=
  s.done (s.voutPoll rail.val mv.val fault)

/-- RAIL_CONFIRM_TIMEOUT (R630). -/
def execRailConfirmTimeout (rail : Fin 7) (s : State) : Result := s.done (s.confirmTimeout rail.val)

/-- PMB_RAW_TRANSACTION (R632): the word written to PWR_PMB_CMD. -/
def execPmbRawTransaction (value : Word) (s : State) : Result := s.done (s.pmbRaw value)

/-- PMB_TRANSACTION_DONE (R633). -/
def execPmbTransactionDone (ok : Bool) (data : Fin 65536) (s : State) : Result := s.done (s.pmbDone ok data.val)

/-- RAIL_PG_LOSS (R635). -/
def execRailPgLoss (rail : Fin 7) (s : State) : Result := s.done (s.pgLoss rail.val)

/-- RAIL_POWER_GOOD_FALL (R634). -/
def execRailPowerGoodFall (rail : Fin 7) (s : State) : Result := s.done (s.pgFall rail.val)

/-- GOVERNOR_INTERVAL (R639). -/
def execGovernorInterval (power withheld : Fin 65536) (s : State) : Result := s.done (s.governor power.val withheld.val)

/-- GOVERNOR_CORRECTION (R639). -/
def execGovernorCorrection (reads : List (Fin 65536 × Fin 65536)) (s : State) : Result :=
  s.done (s.governorCorrect ((reads.take 7).map fun x => (x.1.val, x.2.val)))

/-- THERMAL_SAMPLE (R640). -/
def execThermalSample (west east : Fin 65536) (s : State) : Result := s.done (s.thermalSample west.val east.val)

/-- THROTTLE_STEP (R640). -/
def execThrottleStep (half : Half) (s : State) : Result := s.done (s.throttleStep half)

end Sys2Proof.Machine
end

