-- ==== Sys2Proof/Machine/Objects.lean ====
section
/-! DEFINITION. The objects of the dictionary: the registers that hold their values, the checks that a write of a mode
setting meets, and what a write that takes effect does (R54 to R73, R567 to R570). -/

namespace Sys2Proof.Machine

/-- The selector objects (R567). -/
abbrev selectorObjs : List (Nat × Nat) :=
  [(0x2120, 1), (0x2202, 1), (0x2400, 1), (0x2500, 1), (0x2500, 2), (0x2700, 1), (0x2703, 1), (0x2A00, 3)]

namespace State

/-! Selectors and items. -/

/-- A slot's value of selector `k` (R567). -/
def selOf (s : State) (slot k : Nat) : Nat := s.selectors.at (8 * k + slot)

/-- The selector that a window object reads, where it reads one (R568). -/
def selectorOf (index sub : Nat) : Option Nat :=
  match index with
  | 0x2121 => some 0
  | 0x2202 => if sub = 2 then some 1 else none
  | 0x2400 => if sub = 2 ∨ sub = 3 ∨ sub = 4 ∨ sub = 5 ∨ sub = 8 then some 2 else none
  | 0x2510 => some 4
  | 0x2520 => some 3
  | 0x2522 => some 3
  | 0x2524 => some 3
  | 0x2701 => some 5
  | 0x2704 => some 6
  | 0x2A00 => if sub = 4 then some 7 else none
  | _ => none

/-- The running image (R584). -/
def runningImage (s : State) : Option Image := s.images.find? fun i => i.state = 3

/-- The contexts of a population of the running image. -/
def members (s : State) (n : Nat) : List (Nat × Nat) :=
  match s.runningImage with
  | some i => i.info.populations.getD n []
  | none => []

/-- The event-log entry of a number is held (R585). -/
def entryHeld (s : State) (n : Nat) : Bool :=
  let head := s.get Reg.FLT_LOG_HEAD_NUMBER
  1 ≤ n && n ≤ head && head < n + s.fault.held

/-- A selector's value names an item that exists (R569). -/
def itemExists (s : State) (k v : Nat) : Bool :=
  match k with
  | 0 => decide (v < 8)
  | 1 => decide (v < 1152)
  | 2 => decide (v < 64)
  | 3 => (s.runningImage.any fun i => v < i.info.projections)
  | 4 => (s.runningImage.any fun i => v < i.info.populations.length)
  | 5 => decide (v < 64)
  | 6 => decide (v < 32)
  | _ => s.entryHeld v

/-! The registers that hold objects. -/

/-- Objects without an item, with the fields that hold them: a read takes the first, a write reaches all. -/
def plainFields : List (Nat × Nat × List RF) :=
  [(0x2401, 1, [Reg.STEP_CTRL_POLICY]), (0x2403, 1, [Reg.STEP_CTRL_INPUT]), (0x2403, 2, [Reg.STEP_CTRL_REPLAY_RO]),
   (0x2404, 1, [Reg.STEP_PERIOD_P]), (0x2404, 2, [Reg.STEP_DEADLINE_FRAC]), (0x2404, 3, [Reg.STEP_STRETCH_MAX_S]),
   (0x2404, 4, [Reg.STEP_CTRL_CATCHUP]), (0x2404, 5, [Reg.STEP_MIN_PERIOD_P]), (0x2404, 6, [Reg.STEP_FR_WATCHDOG_T]),
   (0x2405, 1, [Reg.STEP_CTRL_RUN]), (0x2405, 4, [Reg.STEP_STATUS_PHASE]),
   (0x2406, 1, [Reg.STEP_SWITCH_CTRL_IMAGE]), (0x2406, 3, [Reg.STEP_SWITCH_CTRL_RETAIN]),
   (0x2406, 5, [Reg.STEP_SWITCH_STAT_STATE]),
   (0x2407, 1, [Reg.STEP_FORCED_CNT_VALUE]), (0x2407, 2, [Reg.STEP_STRETCH_CNT_VALUE]),
   (0x2407, 3, [Reg.STEP_OVERRUN_CNT_VALUE]), (0x2407, 5, [Reg.STEP_LAST_LATE_COUNT]),
   (0x2526, 2, [Reg.SYNC_MODQ_PUSH_HI_CH]),
   (0x2802, 1, [Reg.SCM_LD_STAT_SEAM_ACT]), (0x2802, 2, [Reg.SCM_LD_STAT_OBS_SLOTS])] ++
  [(0x2300, 4, [Reg.DDR_MAP_STAT_LIVE 0]),
   (0x2302, 1, (List.range 4).map Reg.DDR_SCRUB_CFG_PERIOD), (0x2302, 2, (List.range 4).map Reg.DDR_SCRUB_CFG_EN),
   (0x2702, 1, [Reg.EGR_CTRL_SAFE_ALL]), (0x2901, 4, [Reg.SYNC_BAR_LAST_CYC_CYCLES]),
   (0x2E00, 2, [Reg.TLK_HIER_CTRL_ROLE]), (0x2E00, 4, [Reg.TLK_HIER_CTRL_UPPORT]), (0x2E00, 5, [Reg.TLK_HIER_CTRL_POLICY]),
   (0x2E00, 6, [Reg.TLK_HIER_CTRL_ISO_US]), (0x2E00, 7, [Reg.TLK_HIER_STAT_STATE]), (0x2E00, 9, [Reg.TLK_HIER_STAT_ATTACHED]),
   (0x2E20, 1, [Reg.TLK_HIER_LEAD_COUNTS]), (0x2E40, 1, [⟨Reg.HOST_STATUS, 1, 7⟩]), (0x2E40, 2, [Reg.HOST_CTRL_PERIPH_EN]),
   (0x2E40, 3, [Reg.HOST_CTRL_HQ_EN]), (0x2002, 1, [Reg.SEC_LC_STATE]), (0x2003, 3, [Reg.SEC_IDLE_SECONDS]),
   (0x2004, 4, [Reg.SEC_LOGIN_STAT_STATUS]), (0x2010, 1, [Reg.SEC_AUDIT_STAT_HELD]), (0x2010, 2, [Reg.SEC_AUDIT_HEAD_SEQ]),
   (0x2705, 1, [Reg.CAN_TXLIM_RATE 0, Reg.CAN_TXLIM_RATE 1]), (0x2705, 2, [Reg.CAN_TXLIM_BURST 0, Reg.CAN_TXLIM_BURST 1])] ++
  [(0x2100, 1, [Reg.PWR_CTRL_REQ]), (0x2100, 2, [Reg.PWR_STATUS_STATE]), (0x2100, 3, [Reg.PWR_WAKE_REC_SRC]),
   (0x2101, 1, [Reg.PWR_PKG_POWER_DW]), (0x2101, 2, [Reg.PWR_TEMP_W]), (0x2101, 3, [Reg.PWR_TEMP_E]),
   (0x2102, 1, [Reg.PWR_GOV_LIMIT_W]), (0x2110, 1, [Reg.PWR_HALF_CTRL_SPLIT]), (0x2110, 2, [Reg.PWR_HALF_STAT_STATE]),
   (0x2110, 3, [Reg.PWR_CLK_W_MHZ]), (0x2110, 4, [Reg.PWR_CLK_E_MHZ]), (0x2A00, 2, [Reg.FLT_LOG_HEAD_NUMBER]),
   (0x2A00, 5, [Reg.FLT_LOG_LOST_COUNT]), (0x2B00, 1, [Reg.DBG_CTRL_LEVEL]), (0x2B00, 2, [Reg.DBG_CTRL_GATHER]),
   (0x2B03, 1, [Reg.DBG_INJ_TARGET_ID]), (0x2B03, 2, [Reg.DBG_INJ_KIND_KIND]), (0x2B03, 3, [Reg.DBG_INJ_COUNT_N]),
   (0x2B03, 5, [Reg.DBG_INJ_DONE_COUNT]), (0x2B04, 1, [Reg.DBG_JTAG_STAT_LEVEL]), (0x2C00, 1, [Reg.SEC_FW_STAT_ACTIVE]),
   (0x2D00, 1, [Reg.FLT_WDOG_TMO_MS])]

/-- The fields of the event-mesh objects in every router and in the edge's buckets (R312). -/
def meshFields (sub : Nat) : List RF :=
  let all := List.range 1152
  match sub with
  | 1 => all.map Reg.EVM_THR_CFG_MD ++ [Reg.SEN_WE_THR_CFG_MD]
  | 2 => all.map Reg.EVM_THR_CFG_AI_STEP ++ [Reg.SEN_WE_THR_CFG_AI_STEP]
  | 3 => all.map Reg.EVM_THR_CFG_AI_PERIOD ++ [Reg.SEN_WE_THR_CFG_AI_PERIOD]
  | 4 => all.map Reg.EVM_THR_HOLD_MIN ++ [Reg.SEN_WE_THR_HOLD_MIN]
  | 5 => all.map Reg.EVM_THR_HOLD_DEC_HOLD ++ [Reg.SEN_WE_THR_HOLD_DEC_HOLD]
  | 6 => all.map Reg.EVM_ECHO_CFG_HOLD
  | 7 => all.map Reg.EVM_TRACE_QUOTA_QUOTA
  | _ => []

/-- The fields of a population object in each of its contexts (R159). -/
def popFields (s : State) (sub : Nat) (l : List (Nat × Nat)) : List RF :=
  l.filterMap fun x =>
    let (t, c) := x
    match sub with
    | 1 => some (Reg.POP_CTRL_MODEL t c)
    | 2 => some (Reg.POP_CTRL_FMT t c)
    | 5 => some (Reg.POP_THRESH_THETA t c)
    | 6 => some (Reg.POP_THRESH_V_MIN t c)
    | 7 => some (if s.flag (Reg.POP_CTRL_LEAK_MODE t c) then Reg.POP_LEAK_LEAK_MUL t c else Reg.POP_LEAK_LEAK_SHIFT t c)
    | 8 => some (Reg.POP_BIAS_BIAS t c)
    | 9 => some (Reg.POP_LEAK_REFRAC t c)
    | _ => none

/-- The fields of a projection object in each pod that holds the projection (R220, R266). -/
def projFields (index sub : Nat) (l : List (Nat × Nat)) : List RF :=
  l.filterMap fun x =>
    let (p, n) := x
    match index, sub with
    | 0x2520, 4 => some (Reg.DE_PROJ_CTRL_TRAV p n)
    | 0x2520, 5 => some (Reg.DE_PROJ_CTRL_ADAPT_TH p n)
    | 0x2520, 6 => some (Reg.DE_PL_CTRL_EN p n)
    | 0x2524, 1 => some (Reg.DE_PL_CTRL_ETA p n)
    | 0x2524, 2 => some (Reg.DE_PL_RATE_MAX_RATE p n)
    | 0x2524, 3 => some (Reg.DE_PL_DRIFT_MAX_DRIFT p n)
    | _, _ => none

/-- The fields of a stream context's object (R56, R476). -/
def contextFields (n sub : Nat) : List RF :=
  match sub with
  | 1 => [Reg.SEN_CTX_BIND_CODE n]
  | 2 => [Reg.SEN_CTX_CTRL_ENC n]
  | 3 => [Reg.SEN_CTX_CTRL_EN n]
  | 4 => [Reg.SEN_CTX_AXON_AXON_BASE n]
  | 5 => [⟨Reg.SEN_CTX_MCAST n, 0, 16⟩]
  | 7 => [Reg.SEN_CTX_P0_TH n]
  | 8 => [⟨Reg.SEN_CTX_P1 n, 0, 32⟩]
  | 9 => [Reg.SEN_CTX_RATE_MAX n]
  | _ => []

/-- The fields of a guard channel's or a GPIO pin's object (R476). -/
def channelFields (index sub n : Nat) : List RF :=
  match index, sub with
  | 0x2701, 1 => [⟨Reg.EGR_CH_CTRL n, 0, 13⟩]
  | 0x2701, 2 => [Reg.EGR_CH_SINK_PARAM n]
  | 0x2701, 3 => [Reg.EGR_CH_LO_VALUE n]
  | 0x2701, 4 => [Reg.EGR_CH_HI_VALUE n]
  | 0x2701, 5 => [Reg.EGR_CH_DB_VALUE n]
  | 0x2701, 6 => [Reg.EGR_CH_GAP_US n]
  | 0x2701, 7 => [Reg.EGR_CH_SAFE_VALUE n]
  | 0x2701, 8 => [Reg.EGR_CH_SILENCE_MS n]
  | 0x2701, 9 => [Reg.EGR_CH_LAST_VALUE n]
  | 0x2701, 11 => [Reg.EGR_CH_CLAMP_COUNT n]
  | 0x2704, 1 => [⟨Reg.EGR_GPO_CFG n, 0, 3⟩]
  | 0x2704, 2 => [⟨Reg.SEN_GPI_CFG n, 0, 32⟩]
  | 0x2704, 3 => [Reg.SEN_GPI_STUCK_MS n]
  | 0x2704, 4 => [⟨Reg.SEN_GPI_STAT n, 0, 5⟩]
  | _, _ => []

/-- The fields of a rail's or a Tierlink port's object (R522, R582). -/
def unitFields (index sub n : Nat) : List RF :=
  if index = 0x2121 then
    match sub with
    | 1 => [Reg.PWR_RAIL_SET_MV n]
    | 2 => [Reg.PWR_RAIL_WIN_LO n]
    | 3 => [Reg.PWR_RAIL_WIN_HI n]
    | 4 => [Reg.PWR_RAIL_MEAS_MV n]
    | _ => []
  else if 0x2E10 ≤ index ∧ index < 0x2E18 then
    let p := index - 0x2E10
    match sub with
    | 1 => [Reg.TLK_STATUS_STATE p]
    | 2 => [Reg.TLK_STATUS_LANES p]
    | 3 => [Reg.TLK_REPLAY_COUNT p]
    | 4 => [Reg.TLK_RETRAIN_COUNT p]
    | 6 => [Reg.TLK_TB_OFFSET_COUNTS p]
    | _ => []
  else []

/-- The fields that hold an object, none where no register does. -/
def fieldsOf (s : State) (index sub item : Nat) : List RF :=
  if index = 0x2800 then meshFields sub
  else if index = 0x2510 then s.popFields sub (s.members item)
  else if index = 0x2520 ∨ index = 0x2524 then projFields index sub (s.holders item)
  else if 0x2600 ≤ index ∧ index < 0x2620 then contextFields (index - 0x2600) sub
  else if index = 0x2701 ∨ index = 0x2704 then channelFields index sub item
  else if index = 0x2900 ∧ sub = 5 then (List.range 1152).map Reg.Q_CTRL_GAP_SCAN ++ [Reg.MGR_Q_CTRL_GAP_SCAN]
  else if index = 0x2121 ∨ 0x2E10 ≤ index ∧ index < 0x2E18 then unitFields index sub item
  else ((plainFields.find? fun x => x.1 = index && x.2.1 = sub).map (·.2.2)).getD []

/-- The low word of the register pair that holds a 64-bit object. -/
def pairOf (index sub : Nat) : Option Nat :=
  match index, sub with
  | 0x2405, 2 => some Reg.STEP_FIRST_LO
  | 0x2405, 3 => some Reg.STEP_NUM_LO
  | 0x2406, 2 => some Reg.STEP_SWITCH_AT_LO
  | 0x2407, 4 => some Reg.STEP_SLIP_LO
  | 0x2100, 4 => some Reg.PWR_WAKE_TB_LO
  | 0x2001, 1 => some Reg.SEC_FUSE_SERIAL_LO
  | _, _ => none

/-! The checks of mode settings (R58 to R66, R93). -/

/-- The policy that STEP_CTRL names. -/
def ctrlPolicy (s : State) : Nat := s.get Reg.STEP_CTRL_POLICY

/-- The update reserve fits after the deadline of interval `i` (R93). -/
def reserveFits (s : State) (i : Nat) : Bool :=
  decide (s.get Reg.STEP_UPDATE_RESERVE_U ≤ i * (1024 - s.get Reg.STEP_DEADLINE_FRAC) / 1024)

/-- The settings pass the check of R93. -/
def reserveOk (s : State) : Bool :=
  s.ctrlPolicy = 2 || (s.reserveFits (s.get Reg.STEP_PERIOD_P) &&
    (s.ctrlPolicy != 1 || !s.flag Reg.STEP_CTRL_CATCHUP || s.reserveFits (s.get Reg.STEP_MIN_PERIOD_P)))

/-- K_min of the running image, 0 where it has no checkpoint slots. -/
def kMin (s : State) : Nat := (s.runningImage.map (·.info.kMin)).getD 0

/-- The checkpoint interval in effect: 0 stands for K_min (R56). -/
def ckptK (s : State) : Nat := if s.obj 0x2A10 2 = 0 then s.kMin else s.obj 0x2A10 2

/-- A projection of the device learns. -/
def anyLearns (s : State) : Bool :=
  s.regs.any fun x => (List.range 72).any fun p => (List.range 64).any fun n => x.1 = Reg.DE_PL_CTRL p n && x.2.getLsbD 0

/-- M2 is broken (R58). -/
def replayLearns (s : State) : Bool :=
  s.ctrlPolicy = 2 && s.flag Reg.STEP_CTRL_INPUT && s.flag Reg.STEP_CTRL_REPLAY_RO && s.anyLearns

/-- The reason to refuse plasticity ON of a projection (R239, R240). -/
def learnReason (s : State) (proj : Nat) : Nat :=
  let bad := fun (x : Nat × Nat) =>
    let d := s.desc x.1 x.2
    if d.windowed || d.wintgt then 1
    else if s.get (Reg.DE_PL_RATE_MAX_RATE x.1 x.2) = 0 ∨ s.get (Reg.DE_PL_DRIFT_MAX_DRIFT x.1 x.2) = 0 then 3
    else if (!d.ltp && !d.ltd) || d.preBase = 0 || d.eligBase = 0 then 3
    else 0
  ((s.holders proj).map bad).find? (· != 0) |>.getD 0

/-- The reason to refuse a context's enable (M12, R448). -/
def streamReason (s : State) (n : Nat) : Nat :=
  match s.streamCheck n with
  | 0 => 0
  | 1 => 0x0B
  | _ => 0x2B

/-- The reason to refuse a value of a mode setting, 0 for none. `s` is the device as it stands, `c` with the writes
already staged, and `l` the writes that take effect with this one (R66, R67): a context that one of them disables first (R70)
is disabled when an encoder or a binding is applied. -/
def modeReason (s c : State) (l : List Staged) (index sub item v : Nat) : Nat :=
  let lc := s.get Reg.SEC_LC_STATE
  match index, sub with
  | 0x2401, 1 =>
    if s.role = 2 then 0x0D
    else if s.running && (v = 2) != (s.ctrlPolicy = 2) then 0x09
    else if v = 2 ∧ s.role ≠ 0 then 0x08
    else if lc = 3 ∧ v ≠ 2 then 0x0E
    else if (c.put Reg.STEP_CTRL_POLICY v).replayLearns then 0x02
    else if !(c.put Reg.STEP_CTRL_POLICY v).reserveOk then 0x12
    else 0
  | 0x2403, 1 =>
    if s.running && v != s.get Reg.STEP_CTRL_INPUT then 0x09
    else if (c.put Reg.STEP_CTRL_INPUT v).replayLearns then 0x02
    else 0
  | 0x2403, 2 =>
    if s.running && v != s.get Reg.STEP_CTRL_REPLAY_RO then 0x09
    else if (c.put Reg.STEP_CTRL_REPLAY_RO v).replayLearns then 0x02 else 0
  | 0x2403, 3 => if s.running && v != s.obj 0x2403 3 then 0x09 else 0
  | 0x2404, 1 => if !(c.put Reg.STEP_PERIOD_P v).reserveOk then 0x12 else 0
  | 0x2404, 2 => if !(c.put Reg.STEP_DEADLINE_FRAC v).reserveOk then 0x12 else 0
  | 0x2404, 4 => if !(c.put Reg.STEP_CTRL_CATCHUP v).reserveOk then 0x12 else 0
  | 0x2404, 5 =>
    if c.get Reg.STEP_PERIOD_P < v then 0x10
    else if !(c.put Reg.STEP_MIN_PERIOD_P v).reserveOk then 0x12 else 0
  | 0x2404, 6 => if s.running && s.ctrlPolicy = 2 then 0x09 else 0
  | 0x2510, _ =>
    let bad := (c.members item).any fun x =>
      let (t, n) := x
      (sub = 7 && !c.flag (Reg.POP_CTRL_LEAK_MODE t n) && decide (15 < v)) ||
        (sub = 9 && ((c.get (Reg.POP_CTRL_FMT t n) = 0 && decide (63 < v)) || (c.get (Reg.POP_CTRL_MODEL t n) = 4 && v != 0)))
    if bad then 0x10 else 0
  | 0x2520, 4 => if v ≠ 0 ∧ (c.holders item).any (fun x => !(c.desc x.1 x.2).block) then 0x04 else 0
  | 0x2520, 6 =>
    if v = 0 then 0
    else if c.learnReason item ≠ 0 then c.learnReason item
    else if c.ctrlPolicy = 2 && c.flag Reg.STEP_CTRL_INPUT && c.flag Reg.STEP_CTRL_REPLAY_RO then 0x02
    else 0
  | 0x2524, 7 =>
    if v ≠ 0 ∧ (c.holders item).any (fun x => let w := (c.desc x.1 x.2).wbMin; w = 0 || v % w != 0) then 0x10 else 0
  | 0x2A10, 1 =>
    if v = 0 then 0
    else if c.obj 0x2A10 4 = 0 then 0x06
    else if c.kMin = 0 ∨ c.ckptK < c.kMin then 0x07
    else 0
  | 0x2A10, 2 => if v ≠ 0 ∧ v < c.kMin then 0x07 else 0
  | _, _ =>
    if 0x2600 ≤ index ∧ index < 0x2620 then
      let n := index - 0x2600
      if sub = 3 then (if v = 1 then c.streamReason n else 0)
      else if sub = 1 ∨ sub = 2 then
        let enc := if sub = 2 then v else c.get (Reg.SEN_CTX_CTRL_ENC n)
        let cls := c.bindClass (if sub = 1 then v else c.get (Reg.SEN_CTX_BIND_CODE n))
        if s.flag (Reg.SEN_CTX_CTRL_EN n) && !(l.any fun x => x.index = index && x.sub = 3 && x.value = 0) then 0x0C
        else if cls ≠ .none ∧ !suits enc cls then 0x0B
        else 0
      else 0
    else 0

/-! What a write that takes effect does. -/

/-- Copy descriptors that are VALID, as engine and number. -/
def copyDescs (s : State) (cls : Nat) : List (Nat × Nat) :=
  (List.range 16).flatMap fun q => (List.range 64).filterMap fun d =>
    if s.cd q d 0 1 = 1 ∧ s.cdClass q d = cls then some (q, d) else none

/-- Write a field of a copy descriptor (R325). -/
def cdPut (s : State) (q d lo len v : Nat) : State := s.put ⟨Reg.STR_DESC0 q d + 4 * (lo / 32), lo % 32, len⟩ v

/-- The send schedule of the channel paired with a descriptor (R331). -/
def chSched (s : State) (q d : Nat) : Nat := Reg.SCM_CH_SCHED (s.cdPod q d) (s.cdCh q d)

/-- Firmware gives a descriptor and its paired channel a PERIOD and a PHASE (R346, R347). -/
def reschedule (s : State) (q d period phase : Nat) : State :=
  let a := s.chSched q d
  (((s.cdPut q d 32 16 period).cdPut q d 48 16 phase).put ⟨a, 0, 16⟩ period).put ⟨a, 16, 16⟩ phase

/-- A new K: the slices of a checkpoint still end at the K-th step (R71, R347). -/
def rescheduleCkpt (s : State) (k : Nat) : State :=
  (s.copyDescs 1).foldl (fun s x =>
    s.reschedule x.1 x.2 k (s.cd x.1 x.2 48 16 + k - s.cdPeriod x.1 x.2)) s

/-- A new gather period (R346). -/
def rescheduleObs (s : State) (k : Nat) : State :=
  (s.copyDescs 3).foldl (fun s x => (s.reschedule x.1 x.2 k 0).cdPut x.1 x.2 64 16 (k - 1)) s

/-- A new write-back interval of a projection (R260, R345). -/
def rescheduleWb (s : State) (proj v : Nat) : State :=
  ((s.copyDescs 2).filter fun x => s.copyProj x.1 x.2 = proj).foldl (fun s x => s.reschedule x.1 x.2 v 0) s

/-- Store a value in the fields that hold an object, or as the object's own. -/
def objStore (s : State) (index sub item v : Nat) : State :=
  match pairOf index sub with
  | some a => s.put64 a v
  | none =>
    match s.fieldsOf index sub item with
    | [] => s.setObj index sub v
    | l => l.foldl (fun s f => s.put f v) s

/-- The value of a context object of two fields, ROW and DELAY (R476). -/
def rowDelay (s : State) (n : Nat) : Nat := s.get (Reg.SEN_CTX_CTRL_ROW n) + 256 * s.get (Reg.SEN_CTX_CTRL_DELAY n)

/-- A write takes effect (R56, R70, R71, R239, R240, R266, R476). -/
def objApply (s : State) (index sub item v : Nat) : State :=
  match index, sub with
  | 0x2A10, 1 =>
    let s := s.setObj 0x2A10 1 v
    if v = 0 then s.setObj 0x2A10 3 0
    else if s.obj 0x2A10 3 = 0 then
      (s.setObj 0x2A10 3 1).onStreams fun m => { m with standbyBase := s.stepNum }
    else s
  | 0x2A10, 2 => let s := s.setObj 0x2A10 2 v; s.rescheduleCkpt s.ckptK
  | 0x2B00, 2 => (s.put Reg.DBG_CTRL_GATHER v).rescheduleObs v
  | 0x2100, 5 => s.put Reg.PWR_WAKE_EN_BITS (v / 2)
  | 0x2524, 7 => (s.setObj 0x2524 7 v).rescheduleWb item v
  | 0x2520, 6 =>
    if v = 1 ∧ s.learnReason item ≠ 0 then
      (s.holders item).foldl (fun s x => if s.learnBarred x.1 x.2 then s.podViolation x.1 x.2 (Reg.DE_PL_CTRL x.1 x.2) else s) s
    else s.objStore index sub item v
  | 0x2526, 1 => (s.setObj 0x2526 1 v).put Reg.SYNC_MODQ_STEP_STEP (v % 2 ^ 32)
  | _, _ =>
    if 0x2600 ≤ index ∧ index < 0x2620 then
      let n := index - 0x2600
      if sub = 3 then
        let w := s.reg (Reg.SEN_CTX_CTRL n)
        if v = 1 then s.ctxEnable n (setF w 0 1 1) else s.ctxDisable n w
      else if sub = 6 then (s.put (Reg.SEN_CTX_CTRL_ROW n) (v % 32)).put (Reg.SEN_CTX_CTRL_DELAY n) (v / 256 % 64)
      else s.objStore index sub item v
    else s.objStore index sub item v

/-! The staging set (R65 to R70). -/

/-- The place of a staged write in the order of R70; 0 for an object that is never staged. -/
def stagePlace (index sub v : Nat) : Nat :=
  match index, sub with
  | 0x2520, 6 => if v = 0 then 1 else 13
  | 0x2520, 4 => 2
  | 0x2520, 5 => 2
  | 0x2401, 1 => 3
  | 0x2404, _ => 4
  | 0x2510, _ => 5
  | 0x2524, 1 => 6
  | 0x2524, 7 => 6
  | 0x2A10, 1 => 7
  | 0x2A10, 2 => 7
  | 0x2B00, 1 => 8
  | 0x2B00, 2 => 8
  | 0x2800, _ => 9
  | _, _ => if 0x2600 ≤ index ∧ index < 0x2620 then (if sub = 3 then (if v = 0 then 10 else 12) else 11) else 0

/-- The order of two staged writes (R70). -/
def stagedBefore (a b : Staged) : Bool :=
  let k := fun (x : Staged) => ((stagePlace x.index x.sub x.value * 65536 + x.index) * 256 + x.sub) * 2 ^ 32 + x.item
  k a < k b

/-- Insert a write in its place. -/
def stagedInsert (x : Staged) : List Staged → List Staged
  | [] => [x]
  | y :: l => if stagedBefore x y then x :: y :: l else y :: stagedInsert x l

/-- A set in the order of R70. -/
def stagedSort (l : List Staged) : List Staged := l.foldl (fun a x => stagedInsert x a) []

/-- The settings with a set applied. -/
def withStaged (s : State) (l : List Staged) : State :=
  (stagedSort l).foldl (fun s x => s.objApply x.index x.sub x.item x.value) s

/-- A write of a FLASH object waits to be saved (R571); values written to an image's windows stay with it (R56). -/
def keepWrite (s : State) (index sub item v : Nat) : State :=
  let s : State := if (ObjMap.rowOf index sub).any fun r => r.persist = .flash then
    { s with unsaved := s.unsaved ++ [(index, sub, s.now)] } else s
  if index = 0x2510 ∨ index = 0x2520 ∨ index = 0x2524 then
    { s with images := s.images.map fun i => if i.state = 3 then
        { i with writes := (i.writes.filter fun w => !(w.1 = index && w.2.1 = sub && w.2.2.1 = item)) ++ [(index, sub, item, v)] }
      else i }
  else s

/-- STAGED_WRITE: a write enters the set in place of one to the same object and item; the set holds 64 (R65). -/
def stage (s : State) (x : Staged) : Option State :=
  let rest := s.staging.writes.filter fun y => !(y.index = x.index && y.sub = x.sub && y.item = x.item)
  if 64 ≤ rest.length then none
  else
    let l := rest ++ [x]
    some ({ s with staging := { s.staging with writes := l } }.setObj 0x2402 2 l.length)

/-- The set is emptied (R67, R69). -/
def stageClear (s : State) : State := { s with staging := { s.staging with writes := [] } }.setObj 0x2402 2 0

/-- The first step that runs under a set accepted now (R68). During an image switch no launch is scheduled yet, and the set
takes effect from the first launch of the incoming image (DESIGN CHOICE, log entry 136). -/
def effectiveStep (s : State) : Nat :=
  let t := s.stepNum
  let ph := s.get Reg.STEP_STATUS_PHASE
  let closed := ph = 1 ∨ ph = 4 ∨ ph = 5
  let next := if closed then t else t + 1
  if s.ctrlPolicy = 2 then
    if ph = 3 ∨ ph = 4 ∨ ph = 5 then next + 1 else next
  else if ph = 5 then next
  else
    let launch := if s.clock.ready then s.get64 Reg.STEP_NEXT_LAUNCH_LO
      else s.clock.sched + s.clock.interval + s.clock.stretch
    if launch < s.now + 1000 then next + 1 else next

/-- COMMIT_STAGED: the set is checked again and accepted, or discarded whole (R67, R68). The first failing write in the order
of R70 is reported. -/
def commit (s : State) : State × Option (Staged × Nat) :=
  let l := stagedSort s.staging.writes
  let c := s.withStaged l
  let why := fun (x : Staged) => s.modeReason c l x.index x.sub x.item x.value
  match l.find? fun x => why x != 0 with
  | some x => (s.stageClear, some (x, why x))
  | none =>
    let e := if s.running then s.effectiveStep else s.stepNum
    let s := s.stageClear.setObj 0x2402 4 e
    if s.running then ({ s with staging := { s.staging with accepted := s.staging.accepted ++ [(e, l)] } }, none)
    else (l.foldl (fun s x => (s.objApply x.index x.sub x.item x.value).keepWrite x.index x.sub x.item x.value) s, none)

/-- APPLY_STAGED_SET: accepted sets that are due take effect at the launch of a step (R68, R70). -/
def stagedLaunch (s : State) (t : Nat) : State :=
  let due := (s.staging.accepted.filter fun x => x.1 ≤ t).flatMap (·.2)
  let s := { s with staging := { s.staging with accepted := s.staging.accepted.filter fun x => t < x.1 } }
  due.foldl (fun s x => (s.objApply x.index x.sub x.item x.value).keepWrite x.index x.sub x.item x.value) s

/-- COMMIT_STAGED as a command (R67). -/
def commitRun (s : State) : State :=
  match s.commit with
  | (s, some (x, r)) => s.deny r x.index x.sub
  | (s, none) => s

end State

/-- COMMIT_STAGED (R67). -/
def execCommitStaged (s : State) : Result := s.done s.commitRun

/-- DISCARD_STAGED (R69). -/
def execDiscardStaged (s : State) : Result := s.done s.stageClear

end Sys2Proof.Machine
end

