-- ==== Sys2Proof/Machine/Remap.lean ====
section
/-! DEFINITION. Checkpoint standby: multicast trees and their rewriting, the choice of a spare, the restore of a slice and
its package, and the changes of the switch (R697 to R706). -/

namespace Sys2Proof.Machine

/-- The register words of a slice's control fields: every writable register of the NE_, DE_ and SYNC_ blocks in table
order, then Q_CTRL and Q_READY_IE, by offset from the tile's base (R697). -/
def sliceOffsets : List Nat :=
  let of := fun (base : Nat) (rows : List RegRow) => rows.flatMap fun r =>
    if r.fields.any fun f => decide (f.acc = .rw) then (List.range r.count).map fun i => base + r.off + i * r.stride else []
  of 0x30000 RegMap.neRows ++ of 0x30800 RegMap.deRows ++ of 0x32800 RegMap.syncNodeRows ++
    0x33000 :: (List.range 32).map fun w => 0x33480 + 4 * w

namespace State

/-! Multicast trees (R289, R290, R703). -/

/-- A multicast entry, 0 where the router is in no tree of the group. -/
def mcAt (s : State) (r g : Nat) : Nat := let e := s.mesh.mcast.at (4096 * r + g); if bits e 10 1 = 1 then e else 0

/-- Write a multicast entry; one with no port leaves the tree. -/
def mcSet (s : State) (r g pri sec d : Nat) : State := s.onMesh fun m => { m with
  mcast := m.mcast.put (4096 * r + g) (if pri = 0 then 0 else pri + sec * 32 + 1024 + d % 4096 * 4096) }

/-- PRI of an entry. -/
def mcPri (s : State) (r g : Nat) : Nat := bits (s.mcAt r g) 0 5
/-- SEC of an entry. -/
def mcSec (s : State) (r g : Nat) : Nat := bits (s.mcAt r g) 5 5

/-- Set or clear port `p` in PRI, and in SEC where the entry has one. -/
def mcPort (s : State) (r g p : Nat) (on : Bool) : State :=
  let f := fun (m : Nat) => if on then m.lor (2 ^ p) else m - bits m p 1 * 2 ^ p
  let sec := s.mcSec r g
  s.mcSet r g (f (s.mcPri r g)) (if sec = 0 then 0 else f sec) (bits (s.mcAt r g) 12 12)

/-- The router whose PRI leads into a router of a group's tree. -/
def mcParent (s : State) (r g : Nat) : Option (Nat × Nat) :=
  (List.range 4).findSome? fun p => match neighbour r p with
    | some r' => if bits (s.mcPri r' g) (facing p) 1 = 1 then some (r', facing p) else none
    | none => none

/-- The root above a router, at most `fuel` hops up. -/
def mcRoot (s : State) (g : Nat) : (fuel : Nat) → Nat → Nat
  | 0, r => r
  | n + 1, r => match s.mcParent r g with
    | some x => s.mcRoot g n x.1
    | none => r

/-- The routers of the tree at and below a router, at most `fuel` hops down. -/
def mcBelow (s : State) (g : Nat) : (fuel : Nat) → Nat → List Nat
  | 0, _ => []
  | n + 1, r => if s.mcAt r g = 0 then [] else
    r :: (maskPorts (s.mcPri r g)).flatMap fun p => if p < 4 then ((neighbour r p).map (s.mcBelow g n)).getD [] else []

/-- Paths that end at or below a router of a tree (R289). -/
def mcPaths (s : State) (g : Nat) : (fuel : Nat) → Nat → Nat
  | 0, _ => 0
  | n + 1, r => ((maskPorts (s.mcPri r g)).map fun p =>
      if p < 4 then ((neighbour r p).map (s.mcPaths g n)).getD 1 else 1).sum

/-- No path of the mesh is longer than its routers are many. -/
abbrev treeFuel : Nat := 1152

/-- Write DCOUNT anew over a whole tree (R703). -/
def mcRecount (s : State) (g root : Nat) : State :=
  (s.mcBelow g treeFuel root).foldl (fun s r => s.mcSet r g (s.mcPri r g) (s.mcSec r g) (s.mcPaths g treeFuel r)) s

/-- The hops of the path from router `a` to router `b` that runs X first, or Y first. -/
def path (xFirst : Bool) (b : Nat) : (fuel : Nat) → (a : Nat) → List (Nat × Nat)
  | 0, _ => []
  | n + 1, a =>
    let x := if colOf a < colOf b then some 1 else if colOf b < colOf a then some 3 else none
    let y := if rowOf a < rowOf b then some 2 else if rowOf b < rowOf a then some 0 else none
    match if xFirst then x.or y else y.or x with
    | none => []
    | some p => (a, p) :: path xFirst b n ((neighbour a p).getD a)

/-- A path that leaves a tree where it was last in it, over live links and through no router of another tree of the
group. -/
def graftVia (s : State) (g root leaf : Nat) (xFirst : Bool) : Option State :=
  let tree := s.mcBelow g treeFuel root
  let hops := path xFirst leaf 70 root
  let stops := hops.map (·.1) ++ [leaf]
  let last := (stops.zipIdx.filter fun x => tree.contains x.1).getLast?.map (·.2)
  match last with
  | none => none
  | some i =>
    let new := hops.drop i
    if new.any fun h => !s.linkUp h.1 h.2 then none
    else if (stops.drop (i + 1)).any fun r => s.mcAt r g != 0 then none
    else
      let s := new.foldl (fun s h => s.mcPort h.1 g h.2 true) s
      some (s.mcPort leaf g 4 true)

/-- A group's tree gains a leaf: X first, and Y first where that meets a conflict (R703). -/
def graft (s : State) (g root leaf : Nat) : Option State :=
  (s.graftVia g root leaf true).or (s.graftVia g root leaf false)

/-- Routers that no longer lead anywhere leave the tree, from `r` up. -/
def mcPrune (s : State) (g : Nat) : (fuel : Nat) → Nat → State
  | 0, _ => s
  | n + 1, r => if s.mcPri r g != 0 then s else
    match s.mcParent r g with
    | some (r', p) => (s.mcPort r' g p false).mcPrune g n r'
    | none => s

/-- The router of the lowest active tile of a pod (R703). -/
def podLeaf (s : State) (p : Nat) : Option Nat :=
  ((List.range 16).map (podTile p)).find? fun t => s.isLogical t && !s.fenced t && !s.isHole t

/-- A leaf at a router moves to the router of the lowest active tile of its pod (R703). -/
def leafMove (s : State) (g r : Nat) : Option State :=
  if bits (s.mcPri r g) 4 1 = 0 then some s
  else
    let root := s.mcRoot g treeFuel r
    match s.podLeaf (podOf r) with
    | none => some ((s.mcPort r g 4 false).mcPrune g treeFuel r)
    | some t => (((s.mcPort r g 4 false)).graft g root t).map fun s => (s.mcPrune g treeFuel r).mcRecount g root

/-- A branch whose PRI and SEC both need a dead port is cut off and its leaves are grafted anew (R689, R691, R703). -/
def branchRebuild (s : State) (g r : Nat) : Option State :=
  let dead := (maskPorts (s.mcPri r g)).filter fun p => p < 4 && !s.linkUp r p
  let root := s.mcRoot g treeFuel r
  let lost := (dead.filterMap (neighbour r)).flatMap (s.mcBelow g treeFuel)
  let leaves := (lost.filter fun x => bits (s.mcPri x g) 4 1 = 1).filterMap fun x =>
    if s.isHole x then s.podLeaf (podOf x) else some x
  let s := dead.foldl (fun s p => s.mcPort r g p false) s
  let s := lost.foldl (fun s x => s.mcSet x g 0 0 0) s
  (leaves.foldl (fun o x => o.bind fun s => s.graft g root x) (some s)).map fun s => s.mcRecount g root

/-- An entry needs a link that is down, by PRI and by SEC (R689). -/
def mcDead (s : State) (r g : Nat) : Bool :=
  s.mcAt r g != 0 && s.maskDown r (s.mcPri r g) && (s.mcSec r g = 0 || s.maskDown r (s.mcSec r g))

/-- Every tree that a dead link or a hole breaks is rebuilt; a branch that finds no path stays as it is (R689). -/
def treesRebuild (s : State) : State :=
  if !s.fault.rebuild then s
  else
    let keys := s.mesh.mcast.map (·.1)
    let s := keys.foldl (fun s k => if s.mcDead (k / 4096) (k % 4096) then
      (s.branchRebuild (k % 4096) (k / 4096)).getD s else s) s
    s.onFault fun f => { f with rebuild := false }

/-- The groups that a context of a tile emits, and the axons of each as first and last (R137). -/
def emitted (s : State) (t c : Nat) : List (Nat × Nat × Nat) :=
  let n := s.get (Reg.POP_RANGE_COUNT t c)
  let sh := s.get (Reg.POP_CTRL_MC_SHIFT t c)
  if s.flag (Reg.POP_CTRL_EN t c) && s.flag (Reg.POP_CTRL_OUT_EN t c) && decide (0 < n) then
    (List.range ((n - 1) / 2 ^ sh + 1)).map fun i =>
      let a := s.get (Reg.POP_AXON_AXON_BASE t c)
      ((s.get (Reg.POP_MCAST_MC_BASE t c) + i) % 4096, a + i * 2 ^ sh, a + min n ((i + 1) * 2 ^ sh) - 1)
  else []

/-- The routers at which a tree of the group is rooted. -/
def mcRoots (s : State) (g : Nat) : List Nat :=
  (List.range 1152).filter fun r => s.mcAt r g != 0 && (s.mcParent r g).isNone

/-- The trees whose records fall in a source range: those of tiles' contexts, and those of stream contexts, which are
rooted at the west edge (R703). -/
def sources (s : State) (base count : Nat) : List (Nat × Nat) :=
  let hit := fun (x : Nat × Nat × Nat) => x.2.1 < base + count && base ≤ x.2.2
  let tiles := s.logicalTiles.flatMap fun t =>
    (List.range 32).flatMap fun c => ((s.emitted t c).filter hit).map fun x => (x.1, t)
  let hub := (List.range 64).flatMap fun n =>
    let sh := s.get (Reg.SEN_CTX_MCAST_MC_SHIFT n)
    let a := s.get (Reg.SEN_CTX_AXON_AXON_BASE n)
    if s.flag (Reg.SEN_CTX_CTRL_EN n) then
      let groups := (List.range 4096).filter fun i => hit (i, a + i * 2 ^ sh, a + (i + 1) * 2 ^ sh - 1)
      groups.flatMap fun i =>
        let g := (s.get (Reg.SEN_CTX_MCAST_MC_BASE n) + i) % 4096
        ((s.mcRoots g).filter fun r => colOf r = 0).map fun r => (g, r)
    else []
  (tiles ++ hub).eraseDups

/-- A tree is re-rooted at the spare's router, by a path that enters the old root through a port outside its PRI (R703). -/
def reRootVia (s : State) (g old new : Nat) (xFirst : Bool) : Option State :=
  let hops := path xFirst old 70 new
  match hops.getLast? with
  | none => some s
  | some (_, p) =>
    if hops.any fun h => !s.linkUp h.1 h.2 then none
    else if hops.any fun h => s.mcAt h.1 g != 0 then none
    else if bits (s.mcPri old g) (facing p) 1 = 1 then none
    else some ((hops.foldl (fun s h => s.mcPort h.1 g h.2 true) s).mcRecount g new)

/-- Re-root X first, and Y first where that meets a conflict. -/
def reRoot (s : State) (g old new : Nat) : Option State := (s.reRootVia g old new true).or (s.reRootVia g old new false)

/-! The remap (R699, R702, R703). -/

/-- The spares of a pod in ascending pod-local index (R699). -/
def podSpares (s : State) (p : Nat) : List Nat := ((List.range 16).map (podTile p)).filter s.isSpare

/-- A spare's number within its pod. -/
def spareIndex (s : State) (t : Nat) : Nat := (s.podSpares (podOf t)).idxOf t

/-- The standby region of a spare (R699). -/
def standbyAt (s : State) (t i : Nat) : Nat := podBase (podOf t) + s.get Reg.FLT_SB_OFF_OFFSET + i * s.get Reg.FLT_SB_LEN_BYTES

/-- A spare qualifies (R699): not retired, its part of the region unused, and no seam between it and the failed tile while
the halves are split. -/
def qualifies (s : State) (tile t : Nat) : Bool :=
  s.isSpare t && !s.fault.retired.contains t && !s.isHole t && !s.fault.standbyUsed.contains t &&
    (!s.split || halfOf t = halfOf tile)

/-- The distance of two tiles' pods (R702). -/
def podDistance (a b : Nat) : Nat :=
  ((colOf a / 4 : Int) - (colOf b / 4 : Int)).natAbs + ((rowOf a / 4 : Int) - (rowOf b / 4 : Int)).natAbs

/-- The nearest qualifying spare, the lower physical index among equals (R702). -/
def spareFor (s : State) (tile : Nat) : Option Nat :=
  ((List.range 128).filterMap fun i => s.mgrLtt (0x401 + i)).foldl (fun best t =>
    if !s.qualifies tile t then best
    else match best with
      | none => some t
      | some b => if podDistance tile t < podDistance tile b ∨ (podDistance tile t = podDistance tile b ∧ t < b)
          then some t else best) none

/-- A remap that fails leaves the tile fenced, retired without a remap (R696, R703). -/
def remapFail (s : State) (ltile tile : Nat) : State :=
  let s := ((s.put Reg.FLT_REMAP_STAT_PHASE 15).put Reg.FLT_REMAP_STAT_LTILE ltile).put Reg.FLT_STATUS_REMAP 0
  (((s.onFault fun f => { f with remap := none }).progEnd 3 3).log .flt 0 0x4233 tile).log .flt 0 0x4232 tile

/-- The area of an ID's newest valid slice, with its step; a slice from before the ID's last move is of another tile and is
not used (R698, R706). -/
def sliceFor (s : State) (ltile : Nat) : Option (Nat × Nat) :=
  (s.ckptNewest ltile).bind fun x => (s.ckptStamp ltile x).bind fun t =>
    if s.fault.moved.at ltile ≤ t + 1 then some (x, t) else none

/-- The restore descriptors of a spare: READ copies of class 1 that the image keeps for it, VALID as `v` says, whose channel
writes into the spare's data SRAM or into its part of the standby region. Each comes with its offset in the slice or in the
package, and whether it is the slice (R699, R700, R702, log entry 177). -/
def restoreDescs (s : State) (spare v : Nat) : List (Nat × Nat × Bool × Nat) :=
  let p := podOf spare
  let lo := s.get Reg.FLT_SB_OFF_OFFSET + s.spareIndex spare * s.get Reg.FLT_SB_LEN_BYTES
  (List.range 1024).filterMap fun k =>
    let (q, d) := (k / 64, k % 64)
    let ch := s.cdCh q d
    let base := s.get (Reg.SCM_CH_BASE_BASE p ch)
    if s.cd q d 0 1 ≠ v ∨ s.cdKind q d ≠ 1 ∨ s.cdClass q d ≠ 1 ∨ s.cdPod q d ≠ p ∨ s.get (Reg.SCM_CH_CFG_MODE p ch) ≠ 1 then none
    else if s.get (Reg.SCM_CH_CFG_TARGET p ch) = 1 then
      (if podTile p (s.get (Reg.SCM_CH_CFG_TILE p ch)) = spare then some (q, d, true, 0x40 + base) else none)
    else if lo ≤ base ∧ base < lo + s.get Reg.FLT_SB_LEN_BYTES then some (q, d, false, base - lo) else none

/-- The restore descriptors point at a slice and at the package, and are VALID (R700, R702). -/
def restoreArm (s : State) (ltile spare area : Nat) : State :=
  (s.restoreDescs spare 0).foldl (fun s x =>
    let a := (if x.2.2.1 then s.ckptArea ltile area else Config.package ltile) + x.2.2.2
    let w := Reg.STR_DESC0 x.1 x.2.1
    ((s.put ⟨w + 16, 0, 32⟩ (a % 2 ^ 32)).put ⟨w + 20, 0, 8⟩ (a / 2 ^ 32)).put ⟨w, 0, 1⟩ 1) s

/-- The restore descriptors of a spare are idle again (R700). -/
def restoreIdle (s : State) (spare : Nat) : State :=
  (s.restoreDescs spare 1).foldl (fun s x => (s.copyEnd x.1 x.2.1).put ⟨Reg.STR_DESC0 x.1 x.2.1, 0, 1⟩ 0) s

/-- Arm the restore of a tile's newest valid slice, the tile having failed in step `fail`, into the nearest spare. With no slice
to restore the tile is retired without a remap, and with no spare too; a remap under way that finds no further spare fails
(R696, R698, R702, R707). -/
def remapArm (s : State) (ltile tile began fail : Nat) : State :=
  match s.spareFor tile, s.sliceFor ltile with
  | some spare, some (x, stamp) =>
    let s := ((s.put Reg.FLT_REMAP_STAT_PHASE 4).put Reg.FLT_REMAP_STAT_LTILE ltile).put Reg.FLT_STATUS_REMAP 1
    (((s.put Reg.FLT_REMAP_SPARE_PHYS spare).onFault fun f =>
      { f with remap := some ⟨4, ltile, tile, spare, fail, fail - stamp - 1, began, 0⟩ }).progStart 3
        (0x2CA40 + s.get Reg.FLT_SB_LEN_BYTES)).restoreArm ltile spare x
  | _, _ => if s.fault.remap.isSome then s.remapFail ltile tile else s.log .flt 0 0x4232 tile

/-- An image switch is under way (R707). -/
def switching (s : State) : Bool := s.clock.switch.isSome || s.clock.votes.isSome

/-- A remap starts: by firmware for a logical ID, or for the retired tile that waits first (R702, R707). -/
def remapStart (s : State) (ltile : Option Nat) : State :=
  if s.fault.remap.isSome then s
  else match ltile with
    | some l =>
      let s := s.put Reg.FLT_REMAP_CTRL_LTILE l
      match s.mgrLtt l with
      | none => s
      | some t =>
        if s.switching then s.onFault fun f => { f with waiting := f.waiting ++ [(t, s.now, s.stepNum, true)] }
        else (s.fence t 1).remapArm l t s.now s.stepNum
    | none =>
      if s.switching then s
      else match s.fault.waiting with
        | [] => s
        | (t, began, fail, asked) :: rest =>
          let s := s.onFault fun f => { f with waiting := rest }
          if !s.isLogical t then s
          else if asked then (s.fence t 1).remapArm (s.codeOf t) t began s.stepNum
          else if s.standby = 2 then s.remapArm (s.codeOf t) t began fail
          else s.log .flt 0 0x4232 t

/-- Restore a slice into a spare's window and the package into its pod's region (R697, R699). -/
def restore (s : State) (m : Remap) : State :=
  let a := s.ckptArea m.ltile ((s.ckptNewest m.ltile).getD 0)
  let b := tileBase m.spare
  let s := s.wrBytes b (s.rdBytes (a + 0x40) dataBytes)
  let words := fun (s : State) (from_ to_ n : Nat) => (List.range n).foldl (fun s i =>
    s.setReg (to_ + 4 * i) (BitVec.ofNat 32 (s.rdLe (from_ + 4 * i) 4))) s
  let s := words s (a + 0x28040) (Reg.POP_CTRL m.spare 0) 512
  let s := words s (a + 0x28840) (Reg.Q_DESC0 m.spare 0) 4096
  let s := sliceOffsets.zipIdx.foldl (fun s x =>
    s.setReg (b + x.1) (BitVec.ofNat 32 (s.rdLe (a + 0x2C840 + 4 * x.2) 4))) s
  s.wrBytes (s.standbyAt m.spare (s.spareIndex m.spare))
    (s.rdBytes (Config.package m.ltile) (s.get Reg.FLT_SB_LEN_BYTES))

/-- The restore is complete; where the spare failed meanwhile, the next one is chosen and it starts again (R702, R707). -/
def restoreDone (s : State) : State :=
  match s.fault.remap with
  | some m =>
    if m.phase ≠ 4 then s
    else
      let s := s.restoreIdle m.spare
      if s.fault.retired.contains m.spare then s.remapArm m.ltile m.tile m.began m.fail
      else (((s.restore m).put Reg.FLT_REMAP_STAT_PHASE 5).progEnd 3 2).onFault fun f => { f with remap := some { m with phase := 5 } }
  | none => s

/-- Write an entry of a table of 16-bit entries. -/
def lttPut (s : State) (base c v : Nat) : State := s.put ⟨base + 4 * (c / 2), 16 * (c % 2), 16⟩ v

/-- The logical ID moves to the spare in every table, and the spare's code names nothing (R703). -/
def idMove (s : State) (m : Remap) : State :=
  let code := s.codeOf m.spare
  let s := (s.lttPut (Reg.SEN_LTT 0) code 0).lttPut (Reg.SEN_LTT 0) m.ltile (0x8000 + m.spare)
  (List.range 72).foldl (fun s p => s.lttPut (Reg.POD_LTT p 0) m.ltile (0x8000 + m.spare)) s

/-- The slots of a pod whose target table names a logical ID (R699, R703). -/
def naming (s : State) (p ltile : Nat) : List Nat :=
  (List.range 64).filter fun n => (s.desc p n).valid &&
    (List.range 16).any fun e => let x := s.targetEntry p n e; bits x 15 1 = 1 && bits x 0 10 = ltile

/-- Clear VALID of the target entries of a slot that `pick` chooses (R701); a descriptor left with no valid entry has its
slot VALID cleared. -/
def entriesDrop (s : State) (p n : Nat) (pick : Nat → Bool) : State :=
  let at_ := fun (e : Nat) => podBase p + 256 * n + 0x40 + 8 * e
  let s := (List.range 16).foldl (fun s e =>
    let x := s.targetEntry p n e
    if bits x 15 1 = 1 ∧ pick (bits x 0 10) then s.wrLe (at_ e) 8 (x - 2 ^ 15) else s) s
  if (List.range 16).all fun e => bits (s.targetEntry p n e) 15 1 = 0 then
    let a := podBase p + 256 * n
    s.wr8 a (s.rd8 a &&& 0xFE#8)
  else s

/-- A clone takes a slot of the spare's pod: the original with only the tile's own entry valid, its bases in the standby
region, a new generation and learning off (R699, R703). -/
def cloneWrite (s : State) (m : Remap) (orig : List Byte) (i slot : Nat) : State :=
  let p := podOf m.spare
  let a := podBase p + 256 * slot
  let region := s.standbyAt m.spare (s.spareIndex m.spare)
  let base := fun (f : Nat) => region + Config.cloneBase m.ltile i f
  let s := (s.wrBytes a orig).entriesDrop p slot (· != m.ltile)
  let s := ((s.wrLe (a + 0x10) 8 (base 0)).wrLe (a + 0x18) 8 (base 1)).wrLe (a + 0x20) 8 (base 2)
  let s := ((s.wrLe (a + 0xC4) 4 (base 3 - podBase p)).wrLe (a + 0xF0) 4 (base 4 - podBase p)).wrLe (a + 0xF4) 4 (base 5 - podBase p)
  (s.put (Reg.DE_PROJ_CTRL_DGEN p slot) (s.get (Reg.DE_PROJ_CTRL_DGEN p slot) + 1)).put (Reg.DE_PL_CTRL_EN p slot) 0

/-- The trees of step 4: leaves at the failed router move, the clones' groups gain a leaf at the spare, and the moved
contexts' groups start at it (R703). -/
def treesMove (s : State) (m : Remap) (ranges : List (Nat × Nat)) : Option State :=
  let groups := ((s.mesh.mcast.filter fun e => e.1 / 4096 = m.tile).map fun e => e.1 % 4096)
  let gains := (ranges.flatMap fun r => s.sources r.1 r.2).eraseDups
  let moved := ((List.range 32).flatMap fun c => (s.emitted m.tile c).map (·.1)).eraseDups
  let s := groups.foldl (fun o g => o.bind fun s => s.leafMove g m.tile) (some s)
  let s := gains.foldl (fun o x => o.bind fun s => (s.graft x.1 x.2 m.spare).map fun s => s.mcRecount x.1 x.2) s
  let s := moved.foldl (fun o g => o.bind fun s => if s.mcAt m.tile g = 0 then some s else s.reRoot g m.tile m.spare) s
  s.map fun s => s.treesRebuild

/-- The spare's accumulators are written to zero (R703). -/
def accZero (s : State) (t : Nat) : State :=
  (List.range 32).foldl (fun s c =>
    if s.flag (Reg.POP_CTRL_EN t c) then
      let windows := max 1 (if s.flag (Reg.POP_CTRL_WINDOWED t c) then s.get (Reg.NE_WINDOW_W t) else 1)
      s.wrBytes (tileBase t + s.get (Reg.POP_ACC_BASE_BASE t c))
        (List.replicate (4 * s.get (Reg.POP_RANGE_COUNT t c) * windows) 0#8)
    else s) s

/-- Every queue descriptor of the spare is closed, but for the endpoints of guard queues, which are opened on queues reset
anew (R703). -/
def queuesMove (s : State) (t : Nat) : State :=
  (List.range 1024).foldl (fun s i =>
    let target := s.qget t i 32 20
    let was := s.qMode t i
    let s := s.qput t i 0 2 0
    let q := bits target 0 10
    if was = 2 ∧ s.qget t i 52 1 = 1 ∧ 896 ≤ q ∧ q < 960 then (s.resetRx 1152 q).openTx t i else s) s

/-- The entry point of the tile image in the running slot (R647). -/
def tileEntry (s : State) : Nat := s.rdLe (0x8010000 + 0x400000 * s.get Reg.SEC_FW_STAT_ACTIVE + 0x18) 4

/-- The changes of the switch, in order (R703). -/
def switchOver (s : State) (m : Remap) : Option State :=
  let p := podOf m.tile
  let i := s.spareIndex m.spare
  let named := s.naming p m.ltile
  let originals := (named.map fun n => s.rdBytes (podBase p + 256 * n) 256).take 8
  let ranges := (named.map fun n => let d := s.desc p n; (d.srcBase, d.srcCount)).take 8
  let s := named.foldl (fun s n => s.entriesDrop p n (· == m.ltile)) (s.idMove m)
  let s := originals.zipIdx.foldl (fun s x => s.cloneWrite m x.1 x.2 (48 + 8 * i + x.2)) s
  (s.treesMove m ranges).map fun s =>
    let s := (s.accZero m.spare).queuesMove m.spare
    s.onFault fun f => { f with
      cores := f.cores.filter (fun c => c.1 != m.tile && c.1 != m.spare) ++ [(m.spare, s.tileEntry, 3)]
      standbyUsed := f.standbyUsed ++ [m.spare]
      moved := f.moved.put m.ltile (s.stepNum + 1) }

end State

/-- REMAP_START (R702). -/
def execRemapStart (ltile : Option (Fin 1024)) (s : State) : Result := s.done (s.remapStart (ltile.map (·.val)))

/-- REMAP_RESTORE_DONE (R702). -/
def execRemapRestoreDone (s : State) : Result := s.done s.restoreDone

end Sys2Proof.Machine
end

