-- ==== Sys2Proof/Machine/Scan.lean ====
section
/-! DEFINITION. The neuron update of a tile: the scan of its contexts, spikes, taps, modulator sums and their trace
(R133, R134, R141 to R149, R253, R723). -/

namespace Sys2Proof.Machine

/-- What the scan of one pass of a context leaves: the state, its records newest first with their groups, and the
updates that clipped. -/
structure Scan where
  st : State
  out : List (Nat × Nat)
  clips : Nat

namespace State

/-- Update neuron `k` of a context in pass `j` (R131, R136, R141, R142, R146); one whose words are uncorrectable is left
as it is (R408). -/
def scanNeuron (t : Nat) (x : Ctx) (bad : List Nat) (j slot : Nat) (a : Scan) (k : Nat) : Scan :=
  if k ∈ bad then a
  else
    let sa := tileBase t + x.stateBase + k * x.size
    let aa := tileBase t + x.accBase + 4 * (j * x.count + k)
    let w := a.st.rdLe sa x.size
    let u := x.update (x.read w) (a.st.rdLe aa 4)
    let s := (a.st.wrLe sa x.size (x.write w u)).wrLe aa 4 0
    { st := s
      out := if u.fire then (x.mcBase + k / 2 ^ x.mcShift, mkRecord (x.axonBase + k) u.g slot) :: a.out else a.out
      clips := a.clips + if u.hi || u.lo || u.yClip then 1 else 0 }

/-- Cut records in emission order into the pips of their groups, four records at most to each (R143). -/
def cutFours : Nat → List (Nat × Nat) → List (Nat × List Nat)
  | 0, _ => []
  | _, [] => []
  | fuel + 1, (g, r) :: rest =>
    let same := (rest.takeWhile fun x => x.1 = g).take 3
    (g, r :: same.map (·.2)) :: cutFours fuel (rest.drop same.length)

/-- The spike pips of one pass join the output FIFO (R143, R144, R150). -/
def emit (s : State) (t : Nat) (records : List (Nat × Nat)) : State :=
  let pips := (cutFours records.length records).map fun x =>
    Pip.make 1 true x.1 t 0 (s.launched + 1) 0 x.2.length (packRecords x.2)
  let s := s.onMesh fun m => { m with spikes := m.spikes.put t (m.spikes.at t ++ pips) }
  s.raiseTo (Reg.NE_OUTFIFO_HIGH_WATER t) (min 64 (s.mesh.spikes.at t).length)

/-- The tap messages of one pass, two records to each (R145, R365). -/
def tap (s : State) (t addr : Nat) : List Nat → State
  | [] => s
  | [r] => one s [r]
  | r :: q :: rest => tap (one s [r, q]) t addr rest
where
  /-- One tap message. -/
  one (s : State) (rs : List Nat) : State :=
    let x := s.engineSend t addr (s.launched % 2 ^ 32 + packRecords rs * 2 ^ 32)
    match x.status with
    | .noCredit | .staleEpoch => (x.st.count (Reg.NE_TAP_DROP_COUNT t) rs.length).raise (Reg.NE_INT_EN t) 2
    | _ => x.st

/-- Spikes of a context feed the modulator channels that name it (R253). -/
def modAdd (s : State) (t n : Nat) (records : List (Nat × Nat)) : State :=
  let g := records.foldl (fun a r => a + recGraded r.2) 0
  (List.range 8).foldl (fun s ch =>
    if s.flag (Reg.NE_MOD_MAP_EN t ch) && s.get (Reg.NE_MOD_MAP_CTX t ch) = n then
      let v : Int := if s.flag (Reg.NE_MOD_MAP_NEG t ch) then -(g : Int) else g
      s.onDelivery fun q => { q with modSums := q.modSums.put ch (toBits 32 (q.modSums.at ch + v)) }
    else s) s

/-- SPIKE trace records of a pass, three records to each (R723). -/
def traceSpikes (s : State) (t n : Nat) : Nat → List Nat → State
  | 0, _ => s
  | _, [] => s
  | fuel + 1, r :: rs =>
    let l := (r :: rs).take 3
    (s.trace t 1 (n + l.length * 2 ^ 8 + packRecords l * 2 ^ 48)).traceSpikes t n fuel (rs.drop 2)

/-- MEMBRANE trace records of a context after its update, four entries to each (R723). -/
def traceMembrane (s : State) (t n : Nat) (x : Ctx) : State :=
  let first := s.get (Reg.DBG_TRC_MEM_K t)
  let ks := ((List.range (s.get (Reg.DBG_TRC_MEM_MEM_N t))).map fun i => first + i).filter fun k => k < x.count
  let entry := fun (k : Nat) =>
    let w := s.rdLe (tileBase t + x.stateBase + k * x.size) x.size
    k % 2 ^ 16 + bits w 0 16 * 2 ^ 16 + (if x.fmt = 0 then bits w 16 8 else bits w 56 8) * 2 ^ 32
  (List.range (ceilDiv ks.length 4)).foldl (fun s g =>
    let l := (ks.drop (4 * g)).take 4
    let body := l.zipIdx.foldl (fun a y => a + entry y.1 * 2 ^ (8 * (4 + 5 * y.2))) 0
    s.trace t 2 (n + l.length * 2 ^ 8 + body)) s

/-- One pass over a context, with everything its spikes feed; slot `j` of a windowed context holds what window application
added in this window for slot `j` of the one before, which is the lag of R113 (R136 to R145). -/
def scanPass (s : State) (t n : Nat) (x : Ctx) (bad : List Nat) (j slot : Nat) : State × Nat × Nat :=
  let a := (List.range x.count).foldl (scanNeuron t x bad j slot) ⟨s, [], 0⟩
  let records := a.out.reverse
  let s := if x.outEn then a.st.emit t records else a.st
  let s := if x.tapEn then tap s t x.tapQueue (records.map (·.2)) else s
  let s := s.modAdd t n records
  let s := if s.sampled t s.launched && s.get (Reg.DBG_TRC_CFG_CTX t) = n then
    s.traceSpikes t n records.length (records.map (·.2)) else s
  (s, records.length, a.clips)

/-- The passes of a context in the update of the step last launched (R133, R147). No step before NE_WIN_BASE is the last one
of a window (DESIGN CHOICE, log entry 146). -/
def passes (s : State) (t : Nat) (x : Ctx) : Nat :=
  if !x.windowed then 1
  else
    let w := s.get (Reg.NE_WINDOW_W t)
    if w ≠ 0 ∧ s.get64 (Reg.NE_WIN_BASE_LO t) ≤ s.launched ∧ (s.launched - s.get64 (Reg.NE_WIN_BASE_LO t)) % w = w - 1 then w else 0

/-- The slot that records of a context that is not windowed carry (R141); 0 in a step before NE_WIN_BASE (DESIGN CHOICE, log
entry 146). -/
def emitSlot (s : State) (t : Nat) : Nat :=
  let w := s.get (Reg.NE_WINDOW_W t)
  if w = 0 then 0 else (s.launched - s.get64 (Reg.NE_WIN_BASE_LO t)) % w

/-- The totals of a tile's update: neuron updates, spikes, clips and scan cycles. -/
structure Totals where
  updates : Nat
  spikes : Nat
  clips : Nat
  cycles : Nat

/-- The update of one context (R133, R147, R149, R157). -/
def scanContext (s : State) (t n : Nat) (x : Ctx) (bad : List Nat) (z : Totals) : State × Totals :=
  let p := s.passes t x
  if p = 0 then (s, z)
  else
    let (s, spikes, clips) := (List.range p).foldl (fun (a : State × Nat × Nat) j =>
      let (s, k, c) := a.1.scanPass t n x bad j (if x.windowed then j else a.1.emitSlot t)
      (s, a.2.1 + k, a.2.2 + c)) (s, 0, 0)
    let s := s.put (Reg.POP_STATUS_LAST_SPIKES t n) (min (2 ^ 15 - 1) spikes)
    let s := (s.count (Reg.POP_SPIKE_CNT_COUNT t n) spikes).count (Reg.POP_SAT_CNT_COUNT t n) clips
    let s := s.onDelivery fun q => { q with lastSat := q.lastSat.put (32 * t + n) clips }
    let s := if s.sampled t s.launched && s.get (Reg.DBG_TRC_CFG_CTX t) = n then s.traceMembrane t n x else s
    (s, ⟨z.updates + p * (x.count - (bad.filter fun k => k < x.count).length), z.spikes + spikes, z.clips + clips,
      z.cycles + p * ceilDiv x.count (if x.model = 3 then 4 else 8)⟩)

/-- A tile's contexts as the update broadcast latched them (R134). -/
def latched (s : State) (t : Nat) : List (Nat × Ctx) :=
  let o := { s with regs := s.scanRegs }
  if !o.flag (Reg.NE_CTRL_EN t) then []
  else (List.range 32).filterMap fun n => if o.flag (Reg.POP_CTRL_EN t n) then some (n, o.ctx t n) else none

/-- The update of a tile (R133, R149, R156). -/
def scanTile (s : State) (t : Nat) (ecc : List (Fin 32 × Nat × EccHit)) : State :=
  let s := ecc.foldl (fun s e => s.tileHit t e.2.2) s
  let (s, z) := (s.latched t).foldl (fun (a : State × Totals) x =>
    let bad := ((ecc.filter fun e => e.1.val = x.1 && e.2.2.fatal).map fun e => e.2.1).eraseDups
    a.1.scanContext t x.1 x.2 bad a.2) (s, ⟨0, 0, 0, 0⟩)
  let s := (s.add64 (Reg.NE_UPDATES_LO t) z.updates).countOp t 0 z.updates
  let s := (s.add64 (Reg.NE_SPIKES_LO t) z.spikes).countOp t 7 z.spikes
  let s := (s.put (Reg.NE_LAST_SPIKES_COUNT t) (min (2 ^ 18 - 1) z.spikes)).put (Reg.NE_LAST_SAT_COUNT t)
    (min (2 ^ 18 - 1) z.clips)
  s.put (Reg.NE_LAST_CYCLES_CYCLES t) (min (2 ^ 24 - 1) (16 + z.cycles))

/-- The tile may begin its scan: the update phase, its pod's sweeps and pass over, and nothing on the way to its
accumulators (R94, R204, R247). -/
def scanReady (s : State) (t : Nat) : Bool :=
  let p := podOf t
  s.inUpdate && !s.delivery.updated.contains t && s.sweepsDone p &&
    (s.delivery.passed.contains p || (s.learning p).isEmpty) && (s.delivery.contribs.at t).isEmpty

/-- The first update of a spare that took a moved tile's populations ends the remap (R702, R704). -/
def remapResume (s : State) (t : Nat) : State :=
  match s.fault.remap with
  | some m =>
    if m.phase = 8 ∧ m.spare = t then
      let us := (s.now - m.began) / 200
      let s := (s.put Reg.FLT_REMAP_STAT_PHASE 0).put Reg.FLT_STATUS_REMAP 0
      let s := ((s.put Reg.FLT_REMAP_AGE_AGE (min 65535 m.age)).put Reg.FLT_REMAP_AGE_MISSED (min 65535 m.missed)).put
        Reg.FLT_REMAP_TIME_US us
      let s := ((s.setObj 0x2A10 6 us).countObj 16 0x2A10 7).log .flt 0 0x4231 srcManager m.ltile m.spare
      { s with fault := { s.fault with remap := none } }
    else s
  | none => s

/-- NEURON_SCAN: the update of a tile, which then reports it done; a hole, a fenced tile and a spare have no engine at work
(R22). `ecc` names neurons, by context and index, whose words meet an error. -/
def neuronScan (s : State) (t : Nat) (ecc : List (Fin 32 × Nat × EccHit)) : State :=
  let s := s.drainDead (podOf t)
  if !s.scanReady t then s
  else
    let s := if s.isHole t || s.fenced t || s.isSpare t then s else (s.scanTile t ecc).raise (Reg.NE_INT_EN t) 0
    (s.remapResume t).onDelivery fun q => { q with updated := q.updated ++ [t] }

end State

/-- NEURON_SCAN (R136). -/
def execNeuronScan (tile : Fin 1152) (ecc : List (Fin 32 × Nat × EccHit)) (s : State) : Result :=
  s.done (s.neuronScan tile.val ecc)

end Sys2Proof.Machine
end

