-- ==== Sys2Proof/Machine/Tierlink.lean ====
section
/-! DEFINITION. The Tierlink ports: flits, packets, replay, credit and link states (R495 to R509). -/

namespace Sys2Proof.Machine

/-- A byte of a flit as a number. -/
def flitByte (f : List Byte) (i : Nat) : Nat := (f.getD i 0).toNat

/-- A little-endian field of a flit. -/
def flitLe (f : List Byte) (i n : Nat) : Nat := ofLe ((f.drop i).take n)

/-- The bytes of a list as numbers. -/
def nums (l : List Byte) : List Nat := l.map (·.toNat)

/-- The CRC-16 of a control flit (R496). -/
def flitCrc (f : List Byte) : Nat := crc 16 0x1021 0xFFFF 0 false (nums (f.take 30))

/-- A control flit from its bytes 0 to 29, padded with zeros (R496). -/
def controlFlit (bs : List Byte) : List Byte :=
  let f := (bs ++ List.replicate 30 0#8).take 30
  f ++ leBytes 2 (flitCrc f)

/-- The CRC-32 of a packet over header bytes 0 to 3 and 8 to 29 and the data flits (R497). -/
def packetCrc (header : List Byte) (flits : List (List Byte)) : Nat :=
  crc 32 0x04C11DB7 0xFFFFFFFF 0xFFFFFFFF true (nums (header.take 4 ++ (header.drop 8).take 22 ++ flits.flatten))

/-- A data flit of 32 bytes. -/
def dataFlit (bs : List Byte) : List Byte := (bs ++ List.replicate 32 0#8).take 32

/-- The header flit of a packet (R497). -/
def packetHeader (cls seq : Nat) (flits : List (List Byte)) : List Byte :=
  let h := [1#8, BitVec.ofNat 8 (cls + 16 * flits.length)] ++ leBytes 2 seq
  let z := List.replicate 22 0#8
  controlFlit (h ++ leBytes 4 (packetCrc (h ++ List.replicate 4 0#8 ++ z) flits))

/-- The least buffer that a class advertises, in flits (R500). -/
def tlkBuffer (cls : Nat) : Nat := [0, 64, 16, 16, 32, 8].getD cls 0

namespace State

/-- A port beside its registers. -/
def tlkPort (s : State) (n : Nat) : TlkPort := Sparse.find .down s.tlk n

/-- Replace a port. -/
def setTlk (s : State) (n : Nat) (x : TlkPort) : State := { s with tlk := Sparse.store .down s.tlk n x }

/-- Change a port. -/
def onTlk (s : State) (n : Nat) (f : TlkPort → TlkPort) : State := s.setTlk n (f (s.tlkPort n))

/-- A port's state: 0 DOWN, 1 LOCK, 2 DESKEW, 3 TRAIN, 4 ACTIVE, 6 SLEEP (R502). -/
def tlkState (s : State) (n : Nat) : Nat := s.get (Reg.TLK_STATUS_STATE n)

/-- Enter a state. -/
def tlkEnter (s : State) (n st : Nat) : State :=
  let s' := (s.put (Reg.TLK_STATUS_STATE n) st).raise (Reg.TLK_INT_EN n) 0
  if s.tlkState n = 4 ∧ st ≠ 4 then s'.onTlk n fun x => { x with downSince := s.now } else s'

/-- Enter LOCK, at the start of an attempt to train. -/
def tlkLock (s : State) (n : Nat) : State :=
  (s.tlkEnter n 1).onTlk n fun x => { x with ts := 0, acks := 0, resends := 0, sleeping := false }

/-- Enter RETRAIN, which leads to LOCK at once (R502, R503, R524). -/
def tlkRetrain (s : State) (n : Nat) : State :=
  ((s.count (Reg.TLK_RETRAIN_COUNT n)).log .tlk n 0x8102 srcManager n).tlkLock n

/-! Sending (R499, R500). -/

/-- A control flit leaves a port. -/
def flitOut (s : State) (n : Nat) (bs : List Byte) : State := s.emitOut (.flits n [controlFlit bs])

/-- A packet leaves a port. -/
def packetOut (s : State) (n : Nat) (p : TlkPacket) : State :=
  s.emitOut (.flits n (packetHeader p.cls p.seq p.flits :: p.flits))

/-- Credit of a class, in flits (R500). -/
def tlkCredit (s : State) (n cls : Nat) : Nat :=
  let x := s.tlkPort n
  x.sizes.at cls - (x.sent.at cls + 65536 - x.freed.at cls) % 65536

/-- A port can send a packet of a class now (R499, R500). -/
def tlkReady (s : State) (n cls flits : Nat) : Bool :=
  s.tlkState n = 4 && decide (flits ≤ s.tlkCredit n cls) &&
    decide (((s.tlkPort n).replay.map fun p => p.flits.length).sum + flits ≤ 128)

/-- Send a packet: it takes the next SEQ and a place in the replay buffer. -/
def tlkSendNow (s : State) (n cls : Nat) (flits : List (List Byte)) : State :=
  let p : TlkPacket := ⟨s.get ⟨Reg.TLK_SEQ n, 0, 12⟩, cls, flits⟩
  let s := s.put ⟨Reg.TLK_SEQ n, 0, 12⟩ (p.seq + 1)
  (s.onTlk n fun x => { x with
    replay := x.replay ++ [p], sent := x.sent.put cls ((x.sent.at cls + flits.length) % 65536) }).packetOut n p

/-- Send every waiting packet that its class lets go; no class holds back another (R500). -/
def tlkPump (s : State) (n : Nat) : State :=
  let r := (s.tlkPort n).waiting.foldl (fun (r : State × List (Nat × List (List Byte))) w =>
    if !(r.2.any fun v => v.1 = w.1) && r.1.tlkReady n w.1 w.2.length then (r.1.tlkSendNow n w.1 w.2, r.2)
    else (r.1, r.2 ++ [w])) (s, [])
  r.1.onTlk n fun x => { x with waiting := r.2 }

/-- Queue a packet of a class on a port. -/
def tlkSend (s : State) (n cls : Nat) (flits : List (List Byte)) : State :=
  (s.onTlk n fun x => { x with waiting := x.waiting ++ [(cls, flits.map dataFlit)] }).tlkPump n

/-- Resend every unacknowledged packet from `seq` on (R499). -/
def tlkResend (s : State) (n seq : Nat) : State :=
  let l := (s.tlkPort n).replay
  l.foldl (fun s p => if (p.seq + 4096 - seq) % 4096 < 2048 then s.packetOut n p else s) s

/-- A replay event at a port that is ACTIVE: counted, the packets resent, and the eighth without progress retrains (R499,
R502). -/
def tlkReplay (s : State) (n seq : Nat) : State :=
  if (s.tlkPort n).replay.isEmpty ∨ s.tlkState n ≠ 4 then s
  else
    let s := (s.count (Reg.TLK_REPLAY_COUNT n)).raise (Reg.TLK_INT_EN n) 2
    let s := (s.tlkResend n seq).onTlk n fun x => { x with resends := x.resends + 1 }
    if 8 ≤ (s.tlkPort n).resends then s.tlkRetrain n else s

/-- Packets up to `seq` are acknowledged (R499). -/
def tlkAck (s : State) (n seq : Nat) : State :=
  let left := (s.tlkPort n).replay.filter fun p => !((seq + 4096 - p.seq) % 4096 < 2048)
  let progress := left.length < (s.tlkPort n).replay.length
  (s.onTlk n fun x => { x with replay := left, resends := if progress then 0 else x.resends }).tlkPump n

/-- A NAK acknowledges what stands before the SEQ it names (R499). -/
def tlkNak (s : State) (n seq : Nat) : State := (s.tlkAck n ((seq + 4095) % 4096)).tlkReplay n seq

/-- The peer's freed-flit counters (R496, R500). -/
def tlkCredited (s : State) (n : Nat) (c : List Nat) : State :=
  (s.onTlk n fun x => { x with
    freed := (List.range 5).foldl (fun f i => f.put (i + 1) (c.getD i (x.freed.at (i + 1)) % 65536)) x.freed }).tlkPump n

/-! Pips (R506 to R509). -/

/-- The pip of a data flit. -/
def flitPip (f : List Byte) : Pip := ⟨BitVec.ofNat 64 (flitLe f 0 8), BitVec.ofNat 192 (flitLe f 8 24)⟩

/-- The level of a port's transmit buffer. -/
def tlkHold (s : State) (n : Nat) : State := s.put (Reg.TLK_HOLD_LEVEL n) (s.mesh.tlkTx.at n).length

/-- A waiting pip of a transmit buffer is sent, or a waiting pip of a bridged descriptor (R508, R509). -/
def tlkPip (s : State) (n : Nat) : State :=
  let s :=
    match s.mesh.tlkMsg.at n with
    | [] => s
    | p :: _ =>
      if s.tlkReady n 2 1 then (s.onMesh fun m => { m with tlkMsg := m.tlkMsg.drop1 n }).tlkSendNow n 2 [pipBytes p] else s
  match s.mesh.tlkTx.at n with
  | [] => s
  | p :: _ =>
    if s.tlkReady n 1 1 then
      let s := ((s.onMesh fun m => { m with tlkTx := m.tlkTx.drop1 n }).tlkSendNow n 1 [pipBytes p]).tlkHold n
      s.add64 (Reg.TLK_TX_PIPS_LO n) 1
    else s

/-- A pip of a PIP packet: forwarded by the manager, injected by a worker (R506, R507). -/
def pipIn (s : State) (n : Nat) (p : Pip) : State :=
  let s := (s.add64 (Reg.TLK_RX_PIPS_LO n) 1).addR edgeNode p.tag 1
  if s.role = 1 then s.forward n p
  else s.onMesh fun m => { m with edgeOut := m.edgeOut.push ((p.src - 1152) % 32) p }

/-- A pip of a QMSG packet at a bridged descriptor (R509). -/
def msgIn (s : State) (n : Nat) (p : Pip) : State :=
  if p.cls = 2 then s.accept edgeNode (msgQueue p) (s.bridged edgeNode (msgQueue p) == some n) p
  else
    let i := p.b 16 16 % 1024
    if s.bridged edgeNode i == some n then s.applyCredit edgeNode i (p.ptype = 4) (p.b 32 8) (p.b 40 16)
    else s.count (qr edgeNode (Reg.Q_CR_DISCARD_COUNT edgeNode))

/-! Receiving (R498). -/

/-- An ACK or a NAK leaves a port (R496). -/
def ackOut (s : State) (n kind seq reason : Nat) : State :=
  s.flitOut n ([2#8, BitVec.ofNat 8 kind] ++ leBytes 2 (seq % 4096) ++ [BitVec.ofNat 8 reason])

/-- The CREDIT flit of an end (R496). -/
def creditOut (s : State) (n : Nat) : State :=
  s.flitOut n (3#8 :: 0#8 :: ((List.range 5).flatMap fun i => leBytes 2 ((s.tlkPort n).mine.at (i + 1))))

/-- What an accepted packet does: pips and messages at once; the rest waits for the command that acts on it. One of a class
that R497 does not list does nothing. -/
def packetUse (s : State) (n cls : Nat) (flits : List (List Byte)) : State :=
  let s := (s.onTlk n fun x => { x with mine := x.mine.put cls ((x.mine.at cls + flits.length) % 65536) }).creditOut n
  match cls with
  | 1 => flits.foldl (fun s f => s.pipIn n (flitPip f)) s
  | 2 => flits.foldl (fun s f => s.msgIn n (flitPip f)) s
  | 3 | 4 | 5 => { s with tlkIn := s.tlkIn ++ [(n, cls, flits)] }
  | _ => s

/-- A packet at a port that is ACTIVE (R498). -/
def packetTake (s : State) (n : Nat) (header : List Byte) (flits : List (List Byte)) (codeError : Bool) : State :=
  if s.tlkState n ≠ 4 then s
  else
    let rx := s.get ⟨Reg.TLK_SEQ n, 16, 12⟩
    let cls := flitByte header 1 % 16
    let seq := flitLe header 2 2 % 4096
    let bad := flitLe header 4 4 != packetCrc header flits || flitCrc header != flitLe header 30 2 ||
      flitByte header 1 / 16 != flits.length
    if codeError then (s.count (Reg.TLK_CODE_ERR_COUNT n)).ackOut n 1 rx 1
    else if bad then (s.count (Reg.TLK_CRC_ERR_COUNT n)).ackOut n 1 rx 1
    else if seq = rx then ((s.put ⟨Reg.TLK_SEQ n, 16, 12⟩ (rx + 1)).ackOut n 0 seq 0).packetUse n cls flits
    else if (rx + 4096 - seq) % 4096 ≤ 2047 then s.ackOut n 0 (rx + 4095) 0
    else s.ackOut n 1 rx 2

/-- A packet, with the injection that may be armed on a lane of the port (R735). -/
def packetIn (s : State) (n : Nat) (header : List Byte) (flits : List (List Byte)) (codeError : Bool) : State :=
  let armed := fun k => (List.range 4).any fun l => s.injecting (suspectId 7 (4 * n + l)) k
  if armed 1 then s.injected
  else if armed 2 then s.injected.packetTake n (header.set 2 (header.getD 2 0 ^^^ 1#8)) flits codeError
  else if armed 3 && (s.tlkPort n).heldBack.isNone then
    s.injected.onTlk n fun x => { x with heldBack := some (header, flits, codeError) }
  else
    let s := s.packetTake n header flits codeError
    match (s.tlkPort n).heldBack with
    | some h => (s.onTlk n fun x => { x with heldBack := none }).packetTake n h.1 h.2.1 h.2.2
    | none => s

/-! Training (R501 to R503). -/

/-- The TS flit of an end (R501). -/
def tsOut (s : State) (n : Nat) : State :=
  let x := s.tlkPort n
  s.flitOut n ([5#8, 1#8, BitVec.ofNat 8 ((if s.role = 1 then 1 else 0) + if 8 ≤ x.ts then 128 else 0), BitVec.ofNat 8 n] ++
    leBytes 4 (s.reg Reg.SEC_FUSE_SERIAL_LO).toNat ++ leBytes 4 (s.reg Reg.SEC_FUSE_SERIAL_HI).toNat ++
    leBytes 4 (x.session.getD 0) ++ leBytes 1 (s.get (Reg.TLK_STATUS_LANES n)) ++
    (List.range 5).flatMap (fun i => leBytes 1 (tlkBuffer (i + 1))) ++ leBytes 2 (s.get ⟨Reg.TLK_SEQ n, 16, 12⟩))

/-- Enter TRAIN; the manager side sets the session the first time after the port's enable (R501). -/
def tlkTrain (s : State) (n : Nat) : State :=
  ((s.tlkEnter n 3).onTlk n fun x => { x with
    ts := 0, acks := 0
    session := if s.role = 1 then some (x.session.getD (s.now % 2 ^ 32)) else none }).tsOut n

/-- Reaching ACTIVE: the same session resends from the peer's RXSEQ; a new one starts both ends afresh,
and on a worker's upstream port it ends the session of slot 5 (R503, R508, R537). -/
def tlkActive (s : State) (n : Nat) : State :=
  let x := s.tlkPort n
  let sess := x.session.getD 0
  let s := (s.tlkEnter n 4).onTlk n fun x => { x with fails := 0, resends := 0 }
  let s := if s.role = 2 ∧ n = s.get Reg.TLK_HIER_CTRL_UPPORT then
    s.put Reg.TLK_HIER_STAT_WORKER (s.get (Reg.TLK_STATUS_PEER_PORT n)) else s
  if s.get (Reg.TLK_SESSION_ID n) = sess ∧ x.known then
    ((s.tlkAck n ((x.peerRx + 4095) % 4096)).tlkResend n x.peerRx).tlkPump n
  else
    let held := (x.replay.flatMap fun p => if p.cls = 1 then p.flits.map flitPip else []) ++ s.mesh.tlkTx.at n
    let s := s.count (Reg.TLK_DROP_SESSION_COUNT n) held.length
    let s := if held.isEmpty then s else s.raise (Reg.TLK_INT_EN n) 1
    let s := held.foldl (fun s p => s.endSpike edgeNode p) s
    let s := (s.onMesh fun m => { m with tlkTx := m.tlkTx.put n [], tlkMsg := m.tlkMsg.put n [] }).tlkHold n
    let s := (s.setReg (Reg.TLK_SEQ n) 0#32).onTlk n fun x => { x with
      known := true, fresh := true, replay := [], waiting := [], sent := [], freed := [], mine := [], heldBack := none }
    let s := ((s.put (Reg.TLK_SESSION_ID n) sess).put (Reg.TLK_STATUS_SESSION_NEW n) 1).log .tlk n 0x8101 srcManager n sess
    let s : State := { s with tlkIn := s.tlkIn.filter fun y => y.1 != n }
    if s.role = 2 ∧ n = s.get Reg.TLK_HIER_CTRL_UPPORT then s.endSession 5 else s

/-- A TS in TRAIN that passes the checks of R503. A worker end expects the port number and SESSION of the attempt's first TS. -/
def tsGood (s : State) (n : Nat) (f : List Byte) : Bool :=
  let x := s.tlkPort n
  flitByte f 1 = 1 && flitByte f 2 % 2 = (if s.role = 1 then 0 else 1) &&
    (s.role = 1 || (x.session.isNone && decide (x.ts = 0)) ||
      (x.session == some (flitLe f 12 4) && s.get (Reg.TLK_STATUS_PEER_PORT n) == flitByte f 3 % 8))

/-- A TS flit. An end answers each valid one with one of its own, and leaves TRAIN once it has sent 16 (R501 to R503). -/
def tlkTs (s : State) (n : Nat) (f : List Byte) : State :=
  match s.tlkState n with
  | 4 => s.tlkRetrain n
  | 3 =>
    if !s.tsGood n f then s
    else
      let s := s.onTlk n fun x => { x with
        ts := x.ts + 1
        acks := x.acks + flitByte f 2 / 128
        session := if s.role = 1 then x.session else some (flitLe f 12 4)
        sizes := (List.range 5).foldl (fun m i => m.put (i + 1) (flitByte f (17 + i))) x.sizes
        peerRx := flitLe f 22 2 % 4096 }
      let s := ((s.put (Reg.TLK_STATUS_PEER_PORT n) (flitByte f 3)).put64 (Reg.TLK_PEER_ID_LO n) (flitLe f 4 8)).tsOut n
      if 8 ≤ (s.tlkPort n).ts ∧ 8 ≤ (s.tlkPort n).acks then
        ((List.range (15 - (s.tlkPort n).ts)).foldl (fun s _ => s.tsOut n) s).tlkActive n
      else s
  | _ => s

/-- Lanes of LANE_MASK that do not lock fail a retrain; the third within 60 s is reported (R687). -/
def laneFail (s : State) (n lane : Nat) : State :=
  let k := 4 * n + lane
  let l := ((s.fault.laneFails.at k).filter fun t => s.now < t + 12000000000) ++ [s.now]
  let s := { s with fault := { s.fault with laneFails := s.fault.laneFails.put k l } }
  if l.length < 3 then s
  else
    let h := (s.fault.hist.at edgeNode).filter fun e => e.1 ≠ suspectId 7 k
    { s with fault := { s.fault with hist := s.fault.hist.put edgeNode h } }.fileReport edgeNode (suspectId 7 k)

/-- Lanes show valid sync headers in LOCK: every allowed lane, or a pair of them (R502). -/
def headerLock (s : State) (n lanes : Nat) : State :=
  if s.tlkState n ≠ 1 then s
  else
    let allowed := s.get (Reg.TLK_CTRL_LANE_MASK n)
    let live := lanes.land allowed
    let take := fun m => if m = allowed then ((s.put (Reg.TLK_STATUS_LANES n) m).tlkEnter n 2) else
      let s := ((List.range 4).filter fun l => bits allowed l 1 = 1 && bits m l 1 = 0).foldl (fun s l => s.laneFail n l) s
      ((s.put (Reg.TLK_STATUS_LANES n) m).tlkEnter n 2).log .tlk n 0x8104 srcManager n
    if live = allowed then (if allowed = 15 then take 15 else (take allowed).log .tlk n 0x8104 srcManager n)
    else if bits live 0 2 = 3 then take 3
    else if bits live 2 2 = 3 then take 12
    else s

/-- A LOCK, DESKEW or TRAIN state times out (R502). -/
def tlkTimeout (s : State) (n : Nat) : State :=
  if s.tlkState n = 0 ∨ 4 ≤ s.tlkState n then s
  else
    let f := (s.tlkPort n).fails + 1
    if 8 ≤ f then
      (((s.onTlk n fun x => { x with fails := 0 }).tlkEnter n 0).put (Reg.TLK_STATUS_TRAIN_FAIL n) 1).log
        .tlk n 0x8103 srcManager n
    else (s.onTlk n fun x => { x with fails := f }).tlkLock n

/-- A write of 1 to TLK_CTRL.EN (R502, R521). -/
def tlkEnable (s : State) (n : Nat) : State :=
  if s.role = 0 then s
  else
    let was := s.flag (Reg.TLK_CTRL_EN n)
    let s := s.put (Reg.TLK_CTRL_EN n) 1
    let s := if was then s else s.onTlk n fun x => { x with session := none, fails := 0 }
    if s.tlkState n = 0 then s.tlkLock n else s

/-- SLEEP asked for by this end or by the peer (R502). -/
def sleepFlit (s : State) (n : Nat) : State :=
  if s.tlkState n ≠ 4 then s
  else if (s.tlkPort n).sleeping then s.tlkEnter n 6
  else (s.flitOut n [7#8]).tlkEnter n 6

/-- A write of TLK_CTRL.SLEEP_REQ (R502). -/
def sleepReq (s : State) (n : Nat) : State :=
  if s.tlkState n ≠ 4 then s else (s.flitOut n [7#8]).onTlk n fun x => { x with sleeping := true }

/-- An armed wake detector signals; a STANDALONE device keeps its ports disabled (R492, R504, R636). -/
def tlkWake (s : State) (n : Nat) : State :=
  if !s.flag (Reg.TLK_CTRL_WAKE_EN n) then s
  else
    let s := s.wakeSeen 4 n
    if s.role ≠ 0 ∧ (s.tlkState n = 0 ∨ s.tlkState n = 6) then s.tlkLock n else s

/-- A control flit (R496); a TIME flit is acted on by its own command. -/
def controlTake (s : State) (n : Nat) (f : List Byte) : State :=
  if flitCrc f ≠ flitLe f 30 2 then s.count (Reg.TLK_CRC_ERR_COUNT n)
  else match flitByte f 0 with
    | 2 => if flitByte f 1 = 0 then s.tlkAck n (flitLe f 2 2 % 4096) else s.tlkNak n (flitLe f 2 2 % 4096)
    | 3 => s.tlkCredited n ((List.range 5).map fun i => flitLe f (2 + 2 * i) 2)
    | 4 => if s.tlkState n = 2 then s.tlkTrain n else s
    | 5 => s.tlkTs n f
    | 7 => s.sleepFlit n
    | _ => s

end State

/-- TLK_CONTROL_FLIT (R496). -/
def execTlkControlFlit (port : Fin 8) (flit : List Byte) (s : State) : Result := s.done (s.controlTake port.val flit)

/-- TLK_PACKET_RECEIVE (R498). -/
def execTlkPacketReceive (port : Fin 8) (header : List Byte) (flits : List (List Byte)) (codeError : Bool) (s : State) :
    Result := s.done (s.packetIn port.val header flits codeError)

/-- TLK_ACK_RECEIVE (R499). -/
def execTlkAckReceive (port : Fin 8) (seq : Fin 4096) (s : State) : Result := s.done (s.tlkAck port.val seq.val)

/-- TLK_NAK_RECEIVE (R499). -/
def execTlkNakReceive (port : Fin 8) (seq : Fin 4096) (s : State) : Result := s.done (s.tlkNak port.val seq.val)

/-- TLK_REPLAY_TIMEOUT (R499). -/
def execTlkReplayTimeout (port : Fin 8) (s : State) : Result :=
  s.done (s.tlkReplay port.val (((s.tlkPort port.val).replay.head?.map (·.seq)).getD 0))

/-- TLK_CREDIT_RECEIVE (R500). -/
def execTlkCreditReceive (port : Fin 8) (counters : List (Fin 65536)) (s : State) : Result :=
  s.done (s.tlkCredited port.val (counters.map (·.val)))

/-- TLK_TRANSMIT_PIP (R508). -/
def execTlkTransmitPip (port : Fin 8) (s : State) : Result := s.done (s.tlkPip port.val)

/-- TLK_TS_RECEIVE (R503). -/
def execTlkTsReceive (port : Fin 8) (flit : List Byte) (s : State) : Result := s.done (s.tlkTs port.val flit)

/-- TLK_STATE_TIMEOUT (R502). -/
def execTlkStateTimeout (port : Fin 8) (s : State) : Result := s.done (s.tlkTimeout port.val)

/-- TLK_MARK_LOSS (R503). -/
def execTlkMarkLoss (port : Fin 8) (s : State) : Result :=
  s.done (if s.tlkState port.val = 4 then s.tlkRetrain port.val else s)

/-- TLK_RETRAIN (R502, R503). -/
def execTlkRetrain (port : Fin 8) (s : State) : Result :=
  s.done (match s.tlkState port.val with
    | 0 => if s.flag (Reg.TLK_CTRL_EN port.val) then s.tlkLock port.val else s
    | 6 => s
    | _ => s.tlkRetrain port.val)

/-- TLK_ENABLE (R502). -/
def execTlkEnable (port : Fin 8) (s : State) : Result := s.done (s.tlkEnable port.val)

/-- TLK_SLEEP_REQ (R502). -/
def execTlkSleepReq (port : Fin 8) (s : State) : Result := s.done (s.sleepReq port.val)

/-- TLK_WAKE_DETECT (R504). -/
def execTlkWakeDetect (port : Fin 8) (s : State) : Result := s.done (s.tlkWake port.val)

/-- SYNC_HEADER_LOCK (R502). -/
def execSyncHeaderLock (port : Fin 8) (lanes : Fin 16) (s : State) : Result := s.done (s.headerLock port.val lanes.val)

/-- SYNC_HEADER_ERRORS (R503). -/
def execSyncHeaderErrors (port : Fin 8) (s : State) : Result :=
  s.done (if s.tlkState port.val = 4 then s.tlkRetrain port.val else s)

end Sys2Proof.Machine
end

