-- ==== Sys2Proof/Machine/StepClock.lean ====
section
/-! DEFINITION. The step clock: start, halt, arming and launch, waves, quiescence and forced closes, the close of a step,
and what crosses Tierlink with them (R81 to R103, R511, R512). -/

namespace Sys2Proof.Machine

namespace State

/-- Change the clock. -/
def onClock (s : State) (f : Clock → Clock) : State := { s with clock := f s.clock }

/-- A worker that is JOINED takes its steps from the manager (R512). -/
def joined (s : State) : Bool := s.role = 2 && s.get Reg.TLK_HIER_STAT_STATE = 1

/-- The joined workers of a manager device (R513). -/
def workers (s : State) : List Nat :=
  if s.role = 1 then (List.range 8).filter fun n => bits (s.get Reg.TLK_HIER_STAT_ATTACHED) n 1 = 1 else []

/-- The phase of the step clock: 0 halted, 1 armed, 2 delivery, 3 neuron update, 4 closed, 5 switching, 7 halted by the
watchdog. -/
def phase (s : State) : Nat := s.get Reg.STEP_STATUS_PHASE

/-- Set the phase. -/
def setPhase (s : State) (p : Nat) : State := s.put Reg.STEP_STATUS_PHASE p

/-- The arming lead (R82, R512). -/
def lead (s : State) : Nat :=
  if s.role = 1 then s.get Reg.TLK_HIER_LEAD_COUNTS else if 200 ≤ s.slowMhz then 32 else 64

/-- The interval of the next step (R99). -/
def nextInterval (s : State) : Nat :=
  let p := s.get Reg.STEP_PERIOD_P
  if s.ctrlPolicy = 1 ∧ s.flag Reg.STEP_CTRL_CATCHUP then
    max (s.get Reg.STEP_MIN_PERIOD_P) (p - s.get64 Reg.STEP_SLIP_LO)
  else p

/-- The deadline of the step in progress (R92). -/
def deadline (s : State) : Nat := s.clock.sched + s.clock.interval * s.get Reg.STEP_DEADLINE_FRAC / 1024

/-! Step control over Tierlink (R511). -/

/-- A SYNC packet to or from a worker. -/
def syncSend (s : State) (port : Nat) (flits : List (List Byte)) : State := s.tlkSend port 5 flits

/-- The ARM of the armed step. -/
def armFlit (s : State) : List Byte :=
  [1#8, BitVec.ofNat 8 (s.ctrlPolicy + if s.flag Reg.STEP_CTRL_CATCHUP then 4 else 0)] ++
    leBytes 2 (s.get Reg.STEP_DEADLINE_FRAC) ++ leBytes 4 (s.get Reg.STEP_PERIOD_P) ++ leBytes 8 s.stepNum ++
    leBytes 8 (s.get64 Reg.STEP_NEXT_LAUNCH_LO) ++ leBytes 4 (s.get Reg.STEP_STRETCH_MAX_S) ++
    leBytes 4 (s.get Reg.STEP_MIN_PERIOD_P)

/-- A flit of a type, a byte and a step number. -/
def stepFlit (s : State) (stype b : Nat) : List Byte :=
  [BitVec.ofNat 8 stype, BitVec.ofNat 8 b] ++ List.replicate 6 0#8 ++ leBytes 8 s.launched

/-- Send a flit to every joined worker. -/
def toWorkers (s : State) (flit : List Byte) : State := s.workers.foldl (fun s n => s.syncSend n [flit]) s

/-! Arming, start and halt. -/

/-- The workers that rejoin are joined with the next ARM (R518). -/
def attach (s : State) : State :=
  (s.clock.rejoining.foldl (fun s n => (s.put ⟨Reg.TLK_HIER_STAT, 8 + n, 1⟩ 1).msix 13) s).onClock fun c =>
    { c with rejoining := [] }

/-- A pending tile firmware switch goes down the tree with an arming broadcast (R661). -/
def switchSent (s : State) : State :=
  if s.flag Reg.SYNC_FW_SWITCH_PEND then
    { s with fw := { s.fw with tileSwitch := true } }.put Reg.SYNC_FW_SWITCH_PEND 0
  else s

/-- Arm a launch for time `l` on the schedule's time `ls` (R82, R83, R104). -/
def arm (s : State) (l ls ph : Nat) : State :=
  let s := ((s.put64 Reg.STEP_NEXT_LAUNCH_LO l).setPhase ph).onClock fun c => { c with armed := ls, ready := true }
  let s := s.placeHeld.attach.switchSent
  s.toWorkers s.armFlit

/-- The step clock is halted (R85, R100). An accepted switch stays pending until a request while halted replaces it
(DESIGN CHOICE, log entry 137). -/
def haltNow (s : State) : State :=
  (((s.put Reg.STEP_CTRL_RUN 0).setPhase 0).put64 Reg.STEP_SLIP_LO 0).onClock fun c => { c with halting := false, ready := false }

/-- STEP_WIN_BASE, and NE_WIN_BASE of every tile that has a window, which is kept equal to it (R107, R148). -/
def winBase (s : State) (base : Nat) : State :=
  let s := s.put64 Reg.STEP_WIN_BASE_LO base
  (List.range 1152).foldl (fun s t => if s.get (Reg.NE_WINDOW_W t) = 0 then s else s.put64 (Reg.NE_WIN_BASE_LO t) base) s

/-- The step that a start launches is the first of an image that was switched to afresh while halted (R775). -/
def freshBase (s : State) : State :=
  if s.clock.fresh then { (s.winBase s.stepNum).onClock fun c => { c with fresh := false } with loadStep := s.stepNum } else s

/-- STEP_CTRL.RUN := 1; while a halted clock still loads an image, the load ends first (R64, R84, R85, R93, R512, log entry
138). -/
def stepRun (s : State) : State :=
  if s.joined then s.put Reg.STEP_STATUS_CFG_ERR 1
  else if s.running ∨ s.phase = 5 then s
  else if s.get64 Reg.STEP_FIRST_LO < s.now + 1000 then s.put Reg.STEP_STATUS_LAUNCH_PAST 1
  else if !s.reserveOk || s.get Reg.SEC_LC_STATE = 0 ||
      (s.get Reg.SEC_LC_STATE = 3 && !(s.ctrlPolicy = 2 && s.flag Reg.STEP_CTRL_INPUT)) then s.put Reg.STEP_STATUS_CFG_ERR 1
  else
    let first := s.get64 Reg.STEP_FIRST_LO
    let s := ((s.freshBase.put Reg.STEP_CTRL_RUN 1).put64 Reg.STEP_SLIP_LO 0).onHub fun h => { h with replay := none }
    (s.onClock fun c => { c with halting := false, prev := none, policy := s.ctrlPolicy }).arm first first 1

/-- STEP_CTRL.RUN := 0. Between two steps it acts at once; an image switch in progress then goes on to the end of its load
(R85, log entry 138). -/
def stepHalt (s : State) : State :=
  if s.joined then s.put Reg.STEP_STATUS_CFG_ERR 1
  else if !s.running then s
  else if s.phase = 1 ∨ s.phase = 4 then s.haltNow
  else if s.phase = 5 then s.haltNow.setPhase 5
  else s.onClock fun c => { c with halting := true }

/-! The launch. -/

/-- The counts E and R of a step start at 0 (R89). -/
def countsStart (s : State) (t : Nat) : State :=
  let clear := fun (m : Nums) => m.filter fun x => x.1 % 2 ≠ t % 2
  s.onMesh fun m => { m with expected := clear m.expected, received := clear m.received }

/-- The launch of the armed step, after what a launch applies (R82 to R86). -/
def launchCore (s : State) : State :=
  let l := s.get64 Reg.STEP_NEXT_LAUNCH_LO
  let s := (s.reach l).delayDrain
  let t := s.stepNum
  let i := s.nextInterval
  let s := s.onClock fun c => { c with
    policy := s.ctrlPolicy, sched := c.armed, interval := i, cut := s.get Reg.STEP_PERIOD_P - i, prev := none, stretch := 0
    forced := false, waves := 0, wave := none, done := [], lateSum := 0, ready := false }
  let s := ((s.put64 Reg.STEP_LAST_LAUNCH_LO l).setPhase 2).put Reg.DBG_STATUS_LEVEL (s.get Reg.DBG_CTRL_LEVEL)
  let s := { s with launched := t, deliveryOpen := true }.countsStart (t + 1)
  let s := s.onDelivery fun q => { q with updated := [], passed := [] }
  let s := (List.range 72).foldl (fun s p => (List.range 8).foldl (fun s c =>
    s.setReg (Reg.DE_PL_MOD p c) (s.reg (Reg.SYNC_MOD_LAST c))) s) s
  ((((s.streamsLaunch).startCopies t 0).stageLaunch t).hubLaunch t).traceMarker t l

/-! Quiescence and forced closes. -/

/-- Step `t` is the first of a window (R107). -/
def windowStart (s : State) (t : Nat) : Bool :=
  let w := s.get Reg.STEP_WINDOW_W
  w != 0 && decide (s.get64 Reg.STEP_WIN_BASE_LO ≤ t) && (t - s.get64 Reg.STEP_WIN_BASE_LO) % w = 0

/-- The update broadcast ends delivery and begins the neuron update (R86, R204, R210, R326). -/
def updateBroadcast (s : State) (forced : Bool) : State :=
  let t := s.launched
  let s := { s with deliveryOpen := false }.setPhase 3
  let s :=
    if s.windowStart t ∧ s.get64 Reg.STEP_WIN_BASE_LO < t then
      let m := (t - s.get64 Reg.STEP_WIN_BASE_LO) / s.get Reg.STEP_WINDOW_W - 1
      let s := (List.range 72).foldl (fun s p => s.unionBuild p m) s
      (List.range 72).foldl (fun s p => s.winBegin p m) s
    else s
  let s := (s.sweepGenerate t).startCopies t 1
  let s := { s with scanRegs := s.regs }
  s.toWorkers (s.stepFlit 4 (if forced then 1 else 0))

/-- Quiescence of the step is declared (R91, R97). -/
def declareQuiescence (s : State) : State :=
  let q := s.now
  let dl := s.deadline
  let st := if s.clock.policy = 1 ∧ dl < q then q - dl else 0
  let s := s.put Reg.STEP_LAST_QUIESCE_T (min 0x0FFFFFFE (q - s.get64 Reg.STEP_LAST_LAUNCH_LO))
  let s := if 0 < st then (s.count Reg.STEP_STRETCH_CNT_VALUE).raise Reg.STEP_INT_EN 2 else s
  (s.onClock fun c => { c with stretch := st, wave := none }).updateBroadcast false

/-- Step `t` is the last of a window after the first (R110, R114). -/
def windowEnd (s : State) (t : Nat) : Bool := s.windowStart (t + 1) && decide (s.get64 Reg.STEP_WIN_BASE_LO + s.get Reg.STEP_WINDOW_W ≤ t)

/-- Delivery of the step is closed by force: the jobs of the step are cut, and in the last step of a window what is left of the
window's application (R94, R114, R208). -/
def forceClose (s : State) (stretch : Nat) : State :=
  let t := s.launched
  let s := (List.range 1152).foldl (fun s i => s.cutTile i) s
  let s := if s.windowEnd t then s.windowCut else s
  let s := ((s.copiesCut t).count Reg.STEP_FORCED_CNT_VALUE).put Reg.STEP_STATUS_FORCED 1
  let s := (s.put Reg.STEP_LAST_QUIESCE_T 0x0FFFFFFF).raise Reg.STEP_INT_EN 1
  (s.onClock fun c => { c with stretch := stretch, forced := true, wave := none }).updateBroadcast true

/-- The last time at which quiescence of the step may be declared, where the policy has one (R94, R97). -/
def lastCall (s : State) : Option Nat :=
  match s.clock.policy with
  | 0 => some s.deadline
  | 1 => some (s.deadline + s.get Reg.STEP_STRETCH_MAX_S)
  | _ => none

/-- The device's own result of a wave: SUM E, SUM R, and AND idle (R89 to R91, R378). -/
def waveResult (s : State) : Nat × Nat × Bool :=
  let par := s.launched % 2
  let sum := fun (m : Nums) => ((List.range 1153).map fun n => m.at (2 * n + par)).sum % 2 ^ 32
  let tiles := (List.range 1152).all fun t => s.isHole t || s.silent t || s.tileIdle t
  let edge := !s.flag Reg.SEN_CTRL_EN || (List.range 32).all fun y => (s.mesh.edgeOut.at y).isEmpty && (s.mesh.edgeRetry.at y).isEmpty
  (sum s.mesh.expected, sum s.mesh.received, tiles && edge && !s.copiesDue s.launched)

/-- The combined result of a wave: two equal clean ones in a row declare quiescence (R91). -/
def waveEnd (s : State) (e r : Nat) (idle : Bool) : State :=
  let ok := idle && decide (e = r)
  let inTime := match s.lastCall with
    | some l => decide (s.now ≤ l)
    | none => true
  if ok && s.clock.prev == some (e, r) && inTime then s.declareQuiescence
  else s.onClock fun c => { c with prev := if ok then some (e, r) else none, wave := none }

/-- A wave of the root; in a hierarchy it lasts until every joined worker's result is in (R91, R512). -/
def quiescenceWave (s : State) : State :=
  if s.phase ≠ 2 ∨ s.joined then s
  else
    let s := (List.range 72).foldl (fun s p => s.drainDead p) s
    let x := s.waveResult
    let n := (s.clock.waves + 1) % 256
    let s := s.onClock fun c => { c with waves := n }
    if s.workers.isEmpty then s.waveEnd x.1 x.2.1 x.2.2
    else (s.onClock fun c => { c with wave := some (n, x.1, x.2.1, x.2.2, s.workers) }).toWorkers (s.stepFlit 2 n)

/-- STRICT: the deadline passes without quiescence (R94). -/
def deadlineClose (s : State) : State :=
  if s.phase ≠ 2 ∨ s.clock.policy ≠ 0 ∨ s.joined then s else (s.reach s.deadline).forceClose 0

/-- ELASTIC: the stretch limit ends without quiescence (R97). -/
def stretchClose (s : State) : State :=
  if s.phase ≠ 2 ∨ s.clock.policy ≠ 1 ∨ s.joined then s
  else (s.reach (s.deadline + s.get Reg.STEP_STRETCH_MAX_S)).forceClose (s.get Reg.STEP_STRETCH_MAX_S)

/-- FREE-RUN: the watchdog halts the step clock without closing the step (R102). -/
def watchdogFire (s : State) : State :=
  if (s.phase ≠ 2 ∧ s.phase ≠ 3) ∨ s.clock.policy ≠ 2 ∨ !s.flag Reg.STEP_CTRL_WD_EN then s
  else
    let ph := s.phase
    let s := s.reach (s.get64 Reg.STEP_LAST_LAUNCH_LO + s.get Reg.STEP_FR_WATCHDOG_T)
    let s := ((s.haltNow.setPhase 7).put Reg.STEP_STATUS_WD_FIRED 1).onClock fun c => { c with held := ph }
    ((s.log .step 0 0x4206 srcManager s.launched).raise Reg.STEP_INT_EN 4).halfGate

/-! The close. -/

/-- The bytes of a counter snapshot (R718). -/
def snapshotBytes (s : State) (t step : Nat) : List Byte :=
  leBytes 8 step ++ ((List.range 14).flatMap fun n => leBytes 8 (s.get64 (Reg.DBG_OPS0_LO t + 8 * n))) ++
    leBytes 2 t ++ leBytes 2 (s.codeOf t) ++ leBytes 4 step

/-- The counter snapshots of a close; retired tiles are not gathered (R717 to R719). -/
def snapshots (s : State) (step : Nat) : State :=
  let k := max 1 (s.get Reg.DBG_CTRL_GATHER)
  if s.get Reg.DBG_STATUS_LEVEL = 0 ∨ (step - s.loadStep) % k ≠ k - 1 then s
  else (s.logicalTiles.filter fun t => !s.fault.retired.contains t).foldl (fun s t => s.wrBytes (tileBase t + s.get (Reg.DBG_SNAP_OFF t)) (s.snapshotBytes t step)) s

/-- The PHASE trace records of a close: the times of the phases, which are free, and the counts of jobs and steals (R723, log
entry 180). -/
def phaseRecords (s : State) (step : Nat) : State :=
  s.logicalTiles.foldl (fun s t =>
    if s.traces t 3 && s.sampled t step then
      (s.trace t 3 (s.nextFree 64 + (Config.freeValue (s.freeCount + 1)).toNat % 2 ^ 32 * 2 ^ 64 +
        s.get (Reg.DE_JOBS_COUNT t) * 2 ^ 96 + s.get (Reg.DE_STEALS_COUNT t) * 2 ^ 128)).useFree.useFree
    else s) s

/-- Standby becomes ARMED at the close of the K-th step with a complete checkpoint (R71). -/
def standbyArm (s : State) (step : Nat) : State :=
  if s.standby = 1 ∧ s.streams.standbyBase + s.ckptK ≤ step + 1 ∧
      (List.range 1024).all (fun n => (s.mgrLtt n).isNone || (s.ckptNewest n).isSome) then s.setObj 0x2A10 3 2
  else s

/-- Every tile reported its update done, and every worker (R86, R149, R512). -/
def updatesDone (s : State) : Bool :=
  ((List.range 1152).all fun t => s.isHole t || s.silent t ||
    (s.delivery.updated.contains t && decide ((s.mesh.spikes.at t).length ≤ 64))) &&
  (s.workers.all fun n => s.clock.done.contains n) &&
  (s.clock.policy != 2 || !s.copiesDue s.launched)

/-- The slip after a step: what catch-up took back, and the stretch granted (R97, R99). -/
def slipAfter (s : State) : Nat := s.get64 Reg.STEP_SLIP_LO - s.clock.cut + s.clock.stretch

/-- A switch begins at the close before its step (R118). -/
def switchBegin (s : State) : State :=
  ((s.setPhase 5).put Reg.STEP_SWITCH_STAT_STATE 2).onClock fun k =>
    { k with gapFrom := s.now, lifted := k.ready, ready := false }

/-- The accepted switch is due before the step that is next. -/
def switchDue (s : State) : Bool := s.clock.switch.any fun w => w.step = s.stepNum

/-- After the close: halt, switch, or arm the next step (R82, R85, R96, R98, R118). -/
def afterClose (s : State) (ended : Bool) : State :=
  let c := s.now
  let next := s.clock.sched + s.clock.interval + s.clock.stretch
  if s.clock.halting ∨ ended then s.haltNow
  else if s.switchDue then s.switchBegin
  else if s.clock.policy = 2 then s.arm (c + s.lead) (c + s.lead) 4
  else if c + s.lead ≤ next then s.arm next next 4
  else
    let late := c + s.lead
    let s := ((s.count Reg.STEP_OVERRUN_CNT_VALUE).put Reg.STEP_STATUS_OVERRUN 1).log .step 0 0x4208 srcManager
    let s := s.raise Reg.STEP_INT_EN 3
    if s.clock.policy = 1 then (s.put64 Reg.STEP_SLIP_LO (s.get64 Reg.STEP_SLIP_LO + (late - next))).arm late late 4
    else s.arm late next 4

/-- DONE of a worker: the step, its late drops, and its modulator sums (R511). -/
def doneOut (s : State) (sums : List Nat) : State :=
  s.syncSend (s.get Reg.TLK_HIER_CTRL_UPPORT)
    [s.stepFlit 5 0 ++ leBytes 4 (s.get Reg.STEP_LAST_LATE_COUNT), sums.flatMap (leBytes 4)]

/-- The close of the step (R86, R94, R103). -/
def closeStep (s : State) : State :=
  let t := s.launched
  let late := s.mesh.late + s.clock.lateSum
  let s := ((s.put Reg.STEP_LAST_LATE_COUNT (min (2 ^ 32 - 1) late)).onMesh fun m => { m with late := 0 }).put64
    Reg.STEP_LAST_CLOSE_LO s.now
  let s := s.put64 Reg.STEP_NUM_LO (t + 1)
  let s := if s.clock.forced then s.log .step 0 0x4202 srcManager t late else s
  let s := (s.modSettle t).modClose
  let sums := (List.range 8).map fun c => s.get (Reg.SYNC_MOD_LAST_SUM c)
  let s := (((s.obsAbandon t).hubClose).guardClose t).withheldClose.gather.halfGate.gatherRecords t
  let s := ((s.snapshots t).phaseRecords t).standbyArm t
  let s := ((s.treesRebuild).msix 11).raise Reg.STEP_INT_EN 0
  let s := { s with once := [] }.put64 Reg.STEP_SLIP_LO s.slipAfter
  let s := s.onClock fun c => { c with closedAt := s.now }
  if s.joined then (if s.switchDue then s.switchBegin else s.setPhase 4).doneOut sums
  else
    let ended := s.replayOver t
    (if ended then s.log .step 0 0x4209 srcManager else s).afterClose ended

/-- STEP_CLOSE: where the update is done everywhere (R86). -/
def stepClose (s : State) : State := if s.phase = 3 ∧ s.updatesDone then s.closeStep else s

/-! The switch of a remap (R702, R703). -/

/-- The remap's changes, once the step in progress is not in its neuron update; an open delivery is then closed by force,
but under FREE-RUN; a spare that has failed since its restore gives way to the next (R702, R707). -/
def remapSwitch (s : State) : State :=
  match s.fault.remap with
  | none => s
  | some m =>
    if m.phase ≠ 5 ∨ s.phase = 3 then s
    else if s.fault.retired.contains m.spare then s.remapArm m.ltile m.tile m.began m.fail
    else match s.switchOver m with
      | none => s.remapFail m.ltile m.tile
      | some s =>
        let s := (s.put Reg.FLT_REMAP_STAT_PHASE 8).onFault fun f =>
          { f with remap := some { m with phase := 8, missed := s.stepNum - m.fail } }
        let s := s.spareUsed
        let s := if s.obj 0x2A10 4 = 0 then
          (if s.obj 0x2A10 1 = 1 then s.setObj 0x2A10 3 3 else s).log .flt 0 0x4234 srcManager else s
        if s.phase = 2 ∧ s.clock.policy ≠ 2 then s.forceClose 0 else s

end State

/-- STEP_HALT (R85). -/
def execStepHalt (s : State) : Result := s.done s.stepHalt

/-- QUIESCENCE_WAVE (R91). -/
def execQuiescenceWave (s : State) : Result := s.done s.quiescenceWave

/-- STEP_CLOSE (R86). -/
def execStepClose (s : State) : Result := s.done s.stepClose

/-- DEADLINE_FORCED_CLOSE (R94). -/
def execDeadlineForcedClose (s : State) : Result := s.done s.deadlineClose

/-- STRETCH_LIMIT_CLOSE (R97). -/
def execStretchLimitClose (s : State) : Result := s.done s.stretchClose

/-- FREE_RUN_WATCHDOG_FIRE (R102). -/
def execFreeRunWatchdogFire (s : State) : Result := s.done s.watchdogFire

/-- REMAP_SWITCH (R703). -/
def execRemapSwitch (s : State) : Result := s.done s.remapSwitch

end Sys2Proof.Machine
end

