-- ==== Sys2Proof/Machine/Images.lean ====
section
/-! DEFINITION. Images: loading and unloading at an index, and the image switch (R55, R73, R117 to R120, R565, R584,
R775). -/

namespace Sys2Proof.Machine

namespace State

/-! Answers of the dictionary (R559). -/

/-- A request is answered: a status, an SDO abort code, and data. -/
def reply (s : State) (t : Status) (abort : Nat) (data : List Nat := []) : State :=
  { s with answer := [t.code, abort] ++ data }

/-- A write that conflicts with a mode, a state or a running operation (R60, R559). -/
def conflict (s : State) (reason index sub : Nat) : State := (s.deny reason index sub).reply .refused 0x08000022

/-- The session's role is below the object's least (R536, R559). -/
def lowRole (s : State) (index sub : Nat) : State := (s.refusal 0x1A index sub).reply .refused 0x06010000

/-- The status of the answer just given. -/
def answered (s : State) : Nat := s.answer.headD 0

/-- The dictionary server's entry of a write, with the digests of the old and the new bytes (R549, R560). -/
def auditWrite (s : State) (slot index sub : Nat) (old new : List Byte) : State :=
  s.audit 0 slot (s.slotRole slot) (index + 65536 * sub) s.answered (digest3 old) (digest3 new)

/-! Images at their indices (R565, R584). -/

/-- The image at an index. -/
def imageAt (s : State) (i : Nat) : Option Image := s.images.find? fun (x : Image) => x.index = i

/-- What the objects of R584 show of the images. -/
def imagesShow (s : State) : State :=
  let held := s.images.filter fun (x : Image) => x.state = 2 ∨ x.state = 3
  (s.setObj 0x2400 7 (held.map fun (x : Image) => 2 ^ x.index).sum).setObj 0x2400 6 ((s.runningImage.map (·.index)).getD 0xFF)

/-- Replace the image at its index. -/
def setImage (s : State) (x : Image) : State :=
  { s with images := (s.images.filter fun (y : Image) => y.index ≠ x.index) ++ [x] }.imagesShow

/-- The device is in run (R592). -/
def inRun (s : State) : Bool := s.start.stage = 5

/-- A load into the index that the slot's selector names: from `source`, of `length` bytes, with the CRC-32C of a directory
entry or without (R552, R584, R592, R655). -/
def imageLoad (s : State) (slot sub : Nat) (info : ImageInfo) (source length : Nat) (crc : Option Nat) : State :=
  let i := s.selOf slot 2
  let held : Option Nat := (s.imageAt i).map (·.state)
  let new : Image := ⟨i, 1, info, source, length, crc, ⟨1, 0, length, s.now⟩, none, []⟩
  if s.slotRole slot < 2 then s.lowRole 0x2400 sub
  else if !s.inRun then s.conflict 0x1E 0x2400 sub
  else if held = some 1 then s.conflict 0x17 0x2400 sub
  else if held = some 2 ∨ held = some 3 then s.conflict 0x1B 0x2400 sub
  else if s.obj 0x2201 2 < info.tiles then
    let s := s.setImage { new with state := 4, progress := { new.progress with state := 3 } }
    (s.log .app 0 0x4327 srcManager i info.tiles).conflict 0x2C 0x2400 sub
  else (s.setImage new).reply .ok 0

/-- The first address of the flash window (R44). -/
abbrev flashBase : Nat := 0x8000000

/-- The offset of the flash image area (R645). -/
abbrev imageArea : Nat := 0x1000000

/-- IMAGE_LOAD_FLASH: entry `e` of the directory holds an offset, a length, the image ID and a CRC-32C (R651). -/
def loadFlash (s : State) (slot e : Nat) (info : ImageInfo) : State :=
  let d := flashBase + imageArea + 16 * e
  s.imageLoad slot 3 info (flashBase + s.rdLe d 4) (s.rdLe (d + 4) 4) (some (s.rdLe (d + 12) 4))

/-- IMAGE_LOAD_DRAM: an image placed by the host at a DRAM address (R584). -/
def loadDram (s : State) (slot a : Nat) (info : ImageInfo) : State := s.imageLoad slot 8 info a info.dram none

/-- CRC-32C of bytes (R668). -/
def crc32c (bs : List Byte) : Nat := crc 32 0x1EDC6F41 0xFFFFFFFF 0xFFFFFFFF true (bs.map (·.toNat))

/-- IMAGE_UNLOAD: what was written to its windows goes with the image (R56, R584). -/
def imageUnload (s : State) (slot : Nat) : State :=
  let i := s.selOf slot 2
  let held : Option Nat := (s.imageAt i).map (·.state)
  if s.slotRole slot < 2 then s.lowRole 0x2400 4
  else if held = some 3 then s.conflict 0x1B 0x2400 4
  else if held = some 1 then s.conflict 0x17 0x2400 4
  else { s with images := s.images.filter fun (y : Image) => y.index ≠ i }.imagesShow.reply .ok 0

/-! What a switch saves and puts on chip (R118, R119). -/

/-- Registers of a tile, a pod or a stream engine that hold an image: the control fields of a slice (R697), contexts, slot
tables and queue descriptors; projection and learning control, and channels; copy descriptors and the slot classes. The bounds
of a slot are none: only the authorised path writes them (R255). -/
def imageReg (a : Nat) : Bool :=
  if 0x100000000 ≤ a ∧ a < 0x112000000 then
    let o := (a - 0x100000000) % 0x40000
    decide (0x31000 ≤ o ∧ o < 0x31800) || decide (0x36000 ≤ o ∧ o < 0x37000) || decide (0x38000 ≤ o ∧ o < 0x3C000) ||
      sliceOffsets.contains o
  else if 0x180000000 ≤ a ∧ a < 0x184800000 then
    let o := (a - 0x180000000) % 0x100000
    decide (0x81100 ≤ o ∧ o < 0x81400) || decide (0x82800 ≤ o ∧ o < 0x83000)
  else if 0x1040000 ≤ a ∧ a < 0x1050000 then decide (0x800 ≤ (a - 0x1040000) % 0x1000)
  else decide (0x1030100 ≤ a ∧ a < 0x1030200)

/-- Registers of the tile's and pod's state, which a switch with RETAIN 1 saves; the tables that place the image come from the
image itself. -/
def stateReg (a : Nat) : Bool :=
  imageReg a && decide (0x100000000 ≤ a) && !(decide (a < 0x112000000) && decide (0x36000 ≤ (a - 0x100000000) % 0x40000) &&
    decide ((a - 0x100000000) % 0x40000 < 0x37000))

/-- Data SRAM of the tiles and the memory of the pods. -/
def imageByte (a : Nat) : Bool :=
  if 0x100000000 ≤ a ∧ a < 0x112000000 then decide ((a - 0x100000000) % 0x40000 < dataBytes)
  else decide (0x180000000 ≤ a ∧ a < 0x184800000) && decide ((a - 0x180000000) % 0x100000 < podBytes)

/-- Step 1 of R118: the outgoing image's state goes to its area, which the model keeps with the image (log entry 134). -/
def switchSave (s : State) : State :=
  match s.runningImage with
  | none => s
  | some x =>
    let r : Retained :=
      { regs := s.regs.filter fun y => stateReg y.1, bytes := s.mem.filter fun y => imageByte y.1, delay := s.mesh.delay,
        delayWait := s.mesh.delayWait, spilled := s.mesh.spilled, spillRead := s.mesh.spillRead, delivery := s.delivery,
        step := s.stepNum, base := s.get64 Reg.STEP_WIN_BASE_LO }
    s.setImage { x with retained := some r }

/-- A table of lists without the entries that `gone` names. -/
def without {α : Type} (gone : α → Bool) (m : Lists α) : Lists α :=
  (m.map fun x => (x.1, x.2.filter fun y => !gone y)).filter fun x => !x.2.isEmpty

/-- A spike pip or a message of an image (R273). -/
def imagePip (p : Pip) : Bool := p.cls = 1 || p.cls = 2

/-- The event mesh without the pips of the outgoing image, which a switch does not save (R118, log entry 135), and with no
entry of its tables but those of group 0xFFF. -/
def meshClear (m : Mesh) : Mesh :=
  { m with
    links := without imagePip m.links, naks := without imagePip m.naks
    retry := without (fun x : Pip × Nat => imagePip x.1) m.retry
    awarded := [], spikes := [], msgs := [], eject := [], msgIn := [], delay := [], delayWait := [], spilled := [], spillRead := []
    edgeBack := without imagePip m.edgeBack, edgeRetry := without imagePip m.edgeRetry, edgeOut := [], expected := [], received := []
    mcast := m.mcast.filter fun x => x.1 % 4096 = 4095 }

/-- The level registers of the delay stores and of their spill rings (R311). -/
def delayLevels (s : State) : State :=
  (List.range 1152).foldl (fun s r => (s.dsLevel r).put (Reg.EVM_SPILL_LEVEL_COUNT r)
    ((List.range 64).map fun j => s.mesh.spilled.at (64 * r + j) - s.mesh.spillRead.at (64 * r + j)).sum) s

/-- Nothing of the outgoing image stays on chip but its active slot tables, until SWAP; group 0xFFF stays (R118, R320). -/
def switchClear (s : State) : State :=
  let s := { s with
    regs := s.regs.filter fun x => !imageReg x.1, mem := s.mem.filter fun x => !imageByte x.1
    clearing := s.clearing.filter fun x => x.1 = 1152, creditDue := s.creditDue.filter fun x => x.1 = 1152
    oooSeen := s.oooSeen.filter fun x => x.1 / 1024 = 1152 }
  let s := s.onMesh meshClear
  let s := s.onDelivery fun q => { Delivery.empty with modQueue := q.modQueue }
  s.onStreams fun q => { Streams.empty with standbyBase := q.standbyBase, active := q.active, activeClass := q.activeClass }

/-- One thing the loader puts on chip; the loader is not the authorised path (R255). -/
def place (s : State) : Load → State
  | .reg a v => if (authFields a).isEmpty then s.setReg a v else s
  | .bytes a d => s.wrBytes a d
  | .mcast r g e => if g.val = 4095 then s else s.onMesh fun m => { m with mcast := m.mcast.put (4096 * r.val + g.val) e.toNat }
  | .slot r n e => s.put (Reg.SCM_SLOT_ENTRY r.val n.val) e.toNat
  | .slotClass n c => s.put ⟨Reg.SCM_CLASS (n.val / 16), 2 * (n.val % 16), 2⟩ c.val

/-- The saved state of a retained image, in place of its initial state (R118). -/
def unretain (s : State) (r : Retained) : State :=
  let s := { s with regs := s.regs.filter fun x => !stateReg x.1, mem := s.mem.filter fun x => !imageByte x.1 }
  let s := r.regs.foldl (fun s x => s.setReg x.1 x.2) s
  let s := r.bytes.foldl (fun s x => { s with mem := Sparse.store 0 s.mem x.1 x.2 }) s
  let s := s.onMesh fun m => { m with
    delay := r.delay, delayWait := r.delayWait, spilled := r.spilled, spillRead := r.spillRead }
  s.onDelivery fun q => { r.delivery with modQueue := q.modQueue }

/-- What the image says of itself, in the registers that show it (R92, R107). -/
def imageSettings (s : State) (x : ImageInfo) : State :=
  (s.put Reg.STEP_UPDATE_RESERVE_U x.reserve).put Reg.STEP_WINDOW_W x.window

/-- The loader has CHECK run on the slot tables it wrote, and the switch issues SWAP (R320). -/
def slotsSwap (s : State) : State := s.standbyWritten.checkStart.checkEnd.swapRequest

/-- The loader takes the weights of the write-back areas with the newest valid stamp in place of the image's (R261). -/
def weightsBack (s : State) : State :=
  ((s.copyDescs 2).filter fun x => s.wbNewest x.1 x.2 = some x.2).foldl (fun s x =>
    let (p, ch) := (s.cdPod x.1 x.2, s.cdCh x.1 x.2)
    let len := min (s.cdLen x.1 x.2) (s.get (Reg.SCM_CH_LEN_LEN p ch))
    s.wrBytes (podBase p + s.get (Reg.SCM_CH_BASE_BASE p ch)) (s.rdBytes (s.cdAddr x.1 x.2) len)) s

/-- The loader reloads every projection slot: FAULTED is cleared and DGEN is one more, counted from the generation that the
retained image or else the outgoing one had (R216, log entry 147). -/
def slotsReload (s : State) (old : State) : State :=
  (List.range 72).foldl (fun s p => (List.range 64).foldl (fun s n =>
    (s.put (Reg.DE_PROJ_CTRL_FAULTED p n) 0).put (Reg.DE_PROJ_CTRL_DGEN p n) ((old.get (Reg.DE_PROJ_CTRL_DGEN p n) + 1) % 256)) s) s

/-- Step 2 of R118 for the image at an index, which becomes the running image (R56, R100, R119, R775). -/
def switchLoad (s : State) (i : Nat) : State :=
  match s.imageAt i with
  | none => s
  | some x =>
    let t := s.stepNum
    let s := { s with images := s.images.map fun (y : Image) => if y.state = 3 then { y with state := 2 } else y }
    let out := s
    let s := (s.setImage { x with state := 3, retained := none }).switchClear
    let s := x.info.initial.foldl place s
    let s := match x.retained with
      | some r => let s := s.unretain r; ((s.slotsReload s).winBase (t - (r.step - r.base))).onClock fun c => { c with fresh := false }
      | none => ((s.weightsBack.slotsReload out).winBase t).onClock fun c => { c with fresh := !s.running }
    let s := s.learnLoad.slotsSwap
    let s := { (s.delayLevels.imageSettings x.info).put64 Reg.STEP_SLIP_LO 0 with loadStep := t }
    x.writes.foldl (fun s w => s.objApply w.1 w.2.1 w.2.2.1 w.2.2.2) s

/-- A switch is over: event 0x420C and the manager's interrupt (R118, R123, R775). -/
def switchEnd (s : State) : State :=
  let s := (s.put Reg.STEP_SWITCH_STAT_STATE 0).onClock fun c => { c with switch := none }
  (s.log .step 0 0x420C srcManager).raise Reg.STEP_INT_EN 5

/-! The request (R73, R117, R120). -/

/-- Why the image at an index cannot be switched to; 0 for no reason (R73, R93, R569, R707). An image compiled for a hierarchy
suits both roles of one, whatever its number of workers (M15 leaves this open, log entry 142). A request while the clock is
halted replaces an accepted one that waits (log entry 137). -/
def switchReason (s : State) (i : Nat) : Nat :=
  match s.imageAt i with
  | none => 0x1C
  | some x =>
    let lc := s.get Reg.SEC_LC_STATE
    let splits := s.power.split || s.power.half.any (·.split)
    let fits := fun (p : Nat) => decide (x.info.reserve ≤ p * (1024 - s.get Reg.STEP_DEADLINE_FRAC) / 1024)
    if x.state ≠ 2 ∧ x.state ≠ 3 then 0x1C
    else if s.fault.remap.isSome then 0x29
    else if s.switching && (s.running || s.phase = 5 || s.clock.votes.isSome) then 0x17
    else if !s.clock.rejoining.isEmpty then 0x15
    else if splits && bits x.info.flags 0 1 = 1 then 0x05
    else if s.obj 0x2A10 1 = 1 && (x.info.kMin = 0 || (s.obj 0x2A10 2 != 0 && decide (s.obj 0x2A10 2 < x.info.kMin))) then 0x07
    else if lc = 0 || (lc = 3 && !(s.ctrlPolicy = 2 && s.flag Reg.STEP_CTRL_INPUT)) then 0x0E
    else if (x.info.hier = 0) != (s.role = 0) then 0x0F
    else if s.ctrlPolicy != 2 && !(fits (s.get Reg.STEP_PERIOD_P) &&
        (s.ctrlPolicy != 1 || !s.flag Reg.STEP_CTRL_CATCHUP || fits (s.get Reg.STEP_MIN_PERIOD_P))) then 0x12
    else 0

/-- A switch request is refused (R117). -/
def switchRefuse (s : State) (reason : Nat) : State :=
  ((s.put Reg.STEP_SWITCH_STAT_STATE 3).put Reg.STEP_SWITCH_STAT_REASON (reason % 256)).conflict reason 0x2406 4

/-- The scheduled launch of step `t` (R82). -/
def scheduled (s : State) (t : Nat) : Nat :=
  let p := s.get Reg.STEP_PERIOD_P
  if s.phase = 2 ∨ s.phase = 3 then
    s.clock.sched + s.clock.interval + s.clock.stretch + (t - (s.stepNum + 1)) * p
  else s.clock.armed + (t - s.stepNum) * p

/-- The first step that is not yet launched. -/
def nextStep (s : State) : Nat := if s.phase = 2 ∨ s.phase = 3 then s.stepNum + 1 else s.stepNum

/-- The launch of a step is too near for a switch; under FREE-RUN no launch is scheduled beyond the next (R117). -/
def tooLate (s : State) (t : Nat) : Bool :=
  decide (t < s.nextStep) || (s.ctrlPolicy != 2 && decide (s.scheduled t < s.now + 1000))

/-- An accepted switch waits for its step; where that step is armed already, its launch is withdrawn. A worker whose clock has
not started yet begins it at once. -/
def switchAccept (s : State) (w : Switch) : State :=
  let s := (s.put Reg.STEP_SWITCH_STAT_STATE 1).onClock fun c => { c with switch := some w, votes := none }
  if (s.phase = 1 ∨ s.phase = 4 ∨ (s.joined ∧ s.phase = 0)) ∧ s.switchDue then s.switchBegin else s

/-- A worker drops the switch that its manager withdraws; the launch that a begun one had withdrawn is armed again (R120, log
entry 41). -/
def switchWithdraw (s : State) : State :=
  let begun := s.phase = 5
  let s := (s.put Reg.STEP_SWITCH_STAT_STATE 0).onClock fun c => { c with switch := none, ready := if begun then c.lifted else c.ready }
  if begun then s.setPhase (if s.running then 4 else 0) else s

/-- A switch takes effect at once, while the step clock is halted (R775). -/
def switchNow (s : State) (w : Switch) : State :=
  let s := if w.retain then s.switchSave else s
  (s.switchLoad w.image).switchEnd

/-- A SWITCH packet: image index, RETAIN and target step (R511); index 0xFF withdraws the one before (log entry 41). -/
def switchFlit (w : Switch) : List Byte :=
  [6#8, BitVec.ofNat 8 w.image, if w.retain then 1 else 0] ++ List.replicate 5 0#8 ++ leBytes 8 w.step

/-- A switch goes to the votes of the joined workers (R120). -/
def switchVote (s : State) (w : Switch) : State :=
  let s := (s.put Reg.STEP_SWITCH_STAT_STATE 1).onClock fun c => { c with votes := some (w, s.workers, s.now) }
  s.toWorkers (switchFlit w)

/-- SWITCH_REQUEST: halted, it takes effect at once; otherwise it is checked, put to the workers' votes, and accepted or
refused (R73, R117, R120, R775). -/
def switchRequest (s : State) : State :=
  if s.joined then s.put Reg.STEP_STATUS_CFG_ERR 1
  else
    let w : Switch :=
      ⟨s.get Reg.STEP_SWITCH_CTRL_IMAGE, s.flag Reg.STEP_SWITCH_CTRL_RETAIN, s.get64 Reg.STEP_SWITCH_AT_LO⟩
    let r := s.switchReason w.image
    if r ≠ 0 then s.switchRefuse r
    else if !s.running then
      (if s.workers.isEmpty then s.switchNow w else s.switchVote { w with step := s.stepNum }).reply .ok 0
    else if s.tooLate w.step then (s.switchRefuse (s.nextFree 8)).useFree
    else (if s.workers.isEmpty then s.switchAccept w else s.switchVote w).reply .ok 0

/-- The vote on a switch fails: the whole switch is refused, and the workers withdraw it (R120). -/
def voteFail (s : State) (reason : Nat) : State :=
  match s.clock.votes with
  | none => s
  | some (w, _, _) =>
    ((s.switchRefuse reason).onClock fun c => { c with votes := none }).toWorkers (switchFlit { w with image := 0xFF })

/-- SWITCH_VOTE_TIMEOUT: a worker has not voted within 100 µs (R519). -/
def voteTimeout (s : State) (n : Nat) : State :=
  match s.clock.votes with
  | none => s
  | some (_, l, t) => if n ∈ l then (s.reach (t + 20000)).voteFail 0x16 else s

/-- A worker's vote; with the last of them the switch is accepted, or takes effect where the clock is halted (R120, R775). -/
def voteTake (s : State) (n reason : Nat) : State :=
  match s.clock.votes with
  | none => s
  | some (w, l, t) =>
    if n ∉ l then s
    else if reason ≠ 0 then s.voteFail reason
    else
      let l := l.filter (· != n)
      if l.isEmpty then
        (if !s.running then (s.onClock fun c => { c with votes := none }).switchNow w
        else if s.tooLate w.step then (s.voteFail (s.nextFree 8)).useFree else s.switchAccept w)
      else s.onClock fun c => { c with votes := some (w, l, t) }

/-- IMAGE_SWITCH_LOAD_DONE: the incoming image is on chip; the gap, from the begin of the switch to here (log entry 143), is
recorded and its first step armed, a joined worker waiting for its ARM (R118). -/
def switchDone (s : State) : State :=
  match s.clock.switch with
  | none => s
  | some w =>
    if s.phase ≠ 5 then s
    else
      let s := if w.retain then s.switchSave else s
      let gap := s.now - s.clock.gapFrom
      let s := ((s.switchLoad w.image).put Reg.STEP_SWITCH_GAP_T (min (2 ^ 28 - 1) gap)).switchEnd
      if !s.running ∨ s.clock.halting then s.haltNow
      else if s.joined then s.setPhase 4
      else s.arm (s.now + s.lead) (s.now + s.lead) 4

end State

/-- IMAGE_LOAD_FLASH (R584). -/
def execImageLoadFlash (slot : Fin 8) (entry : Fin 32) (info : ImageInfo) (s : State) : Result :=
  let t := (s.touchSlot slot.val).loadFlash slot.val entry.val info
  s.done (t.auditWrite slot.val 0x2400 3 [] [BitVec.ofNat 8 entry.val])

/-- IMAGE_LOAD_DRAM (R584). -/
def execImageLoadDram (slot : Fin 8) (addr : BitVec 64) (info : ImageInfo) (s : State) : Result :=
  let t := (s.touchSlot slot.val).loadDram slot.val addr.toNat info
  s.done (t.auditWrite slot.val 0x2400 8 [] (leBytes 8 addr.toNat))

/-- IMAGE_UNLOAD (R584). -/
def execImageUnload (slot : Fin 8) (s : State) : Result :=
  s.done (((s.touchSlot slot.val).imageUnload slot.val).auditWrite slot.val 0x2400 4 [] [1#8])

/-- SWITCH_REQUEST (R117). -/
def execSwitchRequest (s : State) : Result := s.done s.switchRequest

/-- SWITCH_VOTE_TIMEOUT (R519). -/
def execSwitchVoteTimeout (worker : Fin 8) (s : State) : Result := s.done (s.voteTimeout worker.val)

/-- IMAGE_SWITCH_LOAD_DONE (R118). -/
def execImageSwitchLoadDone (s : State) : Result := s.done s.switchDone

end Sys2Proof.Machine
end

