-- ==== Sys2Proof/Machine/Firmware.lean ====
section
/-! DEFINITION. Firmware: slot images and the directory, delta updates, the handover between core pairs, health and fallback,
the manager watchdog, the flash controller, and the tile firmware switch (R644 to R666, R680, R681). -/

namespace Sys2Proof.Machine

namespace State

/-- Change the firmware's state. -/
def onFw (s : State) (f : Firmware → Firmware) : State := { s with fw := f s.fw }

/-! Slot images (R644, R647, R648). -/

/-- The address of a slot in the flash window. -/
abbrev slotBase (slot : Nat) : Nat := flashBase + 0x10000 + 0x400000 * slot

/-- The address of a load region (R653). -/
abbrev regionBase (r : Nat) : Nat := sramBase + 0x180000 * r

/-- The update staging area, and the size of it and of a slot (R644). -/
abbrev stagingBase : Nat := flashBase + 0x920000
abbrev slotBytes : Nat := 0x400000

/-- The active slot. -/
def activeSlot (s : State) : Nat := s.get Reg.SEC_FW_STAT_ACTIVE

/-- The other slot. -/
def otherSlot (s : State) : Nat := 1 - s.activeSlot

/-- SHA-256 of bytes. -/
def sha (bs : List Byte) : List Byte := takeHash (Config.sha256 bs) 32

/-- Why a slot image at `base`, its manager image read at `mgrAt`, is not valid: 0 valid, 2 header or check value, 3 key
digest, 4 signature, 5 a digest of an image (R648, R656). -/
def slotFail (s : State) (base mgrAt : Nat) : Nat :=
  let mgr := s.rdLe (base + 0x0C) 4
  let tile := s.rdLe (base + 0x14) 4
  let key := s.rdBytes (base + 0x70) 64
  if s.rdLe base 4 ≠ 0x314D5A46 ∨ s.rdLe (base + 4) 2 ≠ 1 then 2
  else if mgr % 16 ≠ 0 ∨ mgr < 16 ∨ 1572864 < mgr ∨ tile % 16 ≠ 0 ∨ tile < 16 ∨ 16384 < tile then 2
  else if crc32c (s.rdBytes (base + 0x100) (mgr + tile)) ≠ s.rdLe (base + 0x20) 4 then 2
  else if sha key ≠ Config.keyDigest then 3
  else if !Config.sigOk key (s.rdBytes base 0xB0) (s.rdBytes (base + 0xB0) 64) then 4
  else if sha (s.rdBytes mgrAt mgr) ≠ s.rdBytes (base + 0x30) 32 then 5
  else if sha (s.rdBytes (base + 0x100 + mgr) tile) ≠ s.rdBytes (base + 0x50) 32 then 5
  else 0

/-- A slot holds a valid image (R648). -/
def slotCode (s : State) (slot : Nat) : Nat := s.slotFail (slotBase slot) (slotBase slot + 0x100)

/-- The VERSION of a slot, 0 where it holds no image (R587). -/
def slotVersion (s : State) (slot : Nat) : Nat :=
  if s.rdLe (slotBase slot) 4 = 0x314D5A46 then s.rdLe (slotBase slot + 8) 4 else 0

/-! The slot directory (R649). -/

/-- The record of a copy is valid. -/
def dirValid (s : State) (c : Nat) : Bool :=
  let a := flashBase + 0x8000 * c
  s.rdLe a 4 = 0x52494453 && crc32c (s.rdBytes a 0x1C) = s.rdLe (a + 0x1C) 4

/-- GEN of a copy. -/
def dirGen (s : State) (c : Nat) : Nat := s.rdLe (flashBase + 0x8000 * c + 4) 4

/-- A generation is newer than another, over 32 bits (R366, R649). -/
def genNewer (a b : Nat) : Bool := let d := (a + 2 ^ 32 - b) % 2 ^ 32; d != 0 && decide (d < 2 ^ 31)

/-- The copy that holds the newest valid record. -/
def dirNewest (s : State) : Option Nat :=
  match s.dirValid 0, s.dirValid 1 with
  | true, true => some (if genNewer (s.dirGen 1) (s.dirGen 0) then 1 else 0)
  | true, false => some 0
  | false, true => some 1
  | false, false => none

/-- The security block writes a directory record into the copy that does not hold the newest (R649). -/
def dirWrite (s : State) (active : Nat) (trial prev : Bool) : State :=
  let c := match s.dirNewest with
    | some c => 1 - c
    | none => 0
  let gen := (match s.dirNewest with
    | some c => s.dirGen c + 1
    | none => 1) % 2 ^ 32
  let flags := (if trial then 1 else 0) + (if prev then 2 else 0)
  let body := leBytes 4 0x52494453 ++ leBytes 4 gen ++ [BitVec.ofNat 8 active, BitVec.ofNat 8 flags, 0, 0] ++
    leBytes 4 (s.slotVersion active) ++ leBytes 4 (if prev then s.slotVersion (1 - active) else 0) ++ List.replicate 8 0
  let s := s.rawBytes (flashBase + 0x8000 * c) (body ++ leBytes 4 (crc32c body))
  ((((s.put Reg.SEC_FW_STAT_ACTIVE active).put Reg.SEC_FW_STAT_TRIAL (if trial then 1 else 0)).put
    Reg.SEC_FW_STAT_PREV_VALID (if prev then 1 else 0)).put Reg.SEC_FW_DIR_GEN_GEN gen).setObj 0x2C00 1 active

/-- A trial is in progress (R658). -/
def trial (s : State) : Bool := s.flag Reg.SEC_FW_STAT_TRIAL

/-! The flash controller (R646). -/

/-- A range of flash offsets that firmware may not program or erase. -/
def flashBarred (s : State) (off n : Nat) : Bool :=
  let hits := fun lo hi => decide (off < hi) && decide (lo < off + n)
  let slot := fun k => hits (0x10000 + slotBytes * k) (0x10000 + slotBytes * (k + 1)) &&
    !(s.flag Reg.SEC_FW_STAT_INACTIVE_OPEN && k != s.activeSlot)
  hits 0 0x10000 || hits 0x890000 0x911000 || slot 0 || slot 1

/-- Erase a range of flash. -/
def erase (s : State) (a n : Nat) : State := s.rawBytes a (List.replicate n 0xFF)

/-- FLASH_PROGRAM_COMMAND: program bytes, each clearing bits, or erase a range (R646, log entry 42). -/
def flashCommand (s : State) (off : Nat) (eraseLen : Option Nat) (data : List Byte) : State :=
  let n := eraseLen.getD data.length
  if s.flashBarred off n ∨ 0x8000000 < off + n then
    { s with answer := [Status.refused.code] }.log .sec 0 0x7107 srcManager
  else
    let s := match eraseLen with
      | some n => s.erase (flashBase + off) n
      | none => s.rawBytes (flashBase + off) (((s.rdBytes (flashBase + off) n).zip data).map fun (x : Byte × Byte) => x.1 &&& x.2)
    { s with answer := [Status.ok.code] }

/-! Updates (R651 to R655). -/

/-- Unsigned little-endian field of a byte list. -/
def fieldAt (l : List Byte) (i : Nat) : Nat := ofLe ((l.drop i).take 4)

/-- Apply the operations of a stream: the target bytes, and whether the stream was well formed (R652). Each operation takes
at least one byte of the stream, so its length bounds their number. -/
def applyOps (src : List Byte) (srcLen dstLen : Nat) : (fuel : Nat) → (ops out : List Byte) → List Byte × Bool
  | 0, _, out => (out, false)
  | n + 1, ops, out =>
    match ops with
    | [] => (out, false)
    | op :: r =>
      let off := fieldAt r 0
      let len := fieldAt r (if op = 0x40 then 0 else 4)
      let fits := len != 0 && decide (out.length + len ≤ dstLen)
      if op = 0xC0 then (out, r.isEmpty && decide (out.length = dstLen))
      else if op = 0x00 then
        if 8 ≤ r.length ∧ fits ∧ off + len ≤ srcLen then
          applyOps src srcLen dstLen n (r.drop 8) (out ++ (src.drop off).take len)
        else (out, false)
      else if op = 0x40 then
        if 4 + len ≤ r.length ∧ fits then applyOps src srcLen dstLen n (r.drop (4 + len)) (out ++ (r.drop 4).take len)
        else (out, false)
      else if op = 0x80 then
        if 8 + len ≤ r.length ∧ fits ∧ off + len ≤ srcLen then
          applyOps src srcLen dstLen n (r.drop (8 + len))
            (out ++ (((src.drop off).take len).zip ((r.drop 8).take len)).map fun (x : Byte × Byte) => x.1 + x.2)
        else (out, false)
      else (out, false)

/-- An update command is refused (R654). -/
def updateNo (s : State) (reason : Nat) : State := s.conflict reason 0x2C00 5

/-- Verify and write fails (R655). -/
def updateFail (s : State) (reason : Nat) : State :=
  let s := (s.progEnd 4 3).onFw fun f => { f with update := 4 }
  (s.setObj 0x2402 5 reason).log .app 0 0x7103 srcManager reason

/-- A session may command an update: its role, and no trial (R587, R654). -/
def updateRole (s : State) (slot sub : Nat) (go : State) : State :=
  if s.slotRole slot < 2 then s.lowRole 0x2C00 sub else go

/-- UPDATE_BEGIN: command 1. A handover under way is no state that accepts it (R654, R658, log entry 174). -/
def updateBegin (s : State) : State :=
  if s.trial then s.updateNo 0x28
  else if s.fw.update = 1 ∨ s.fw.update = 2 ∨ s.fw.handover.isSome then s.updateNo 0x23
  else
    let s := (s.erase stagingBase slotBytes).onFw fun f => { f with update := 1, received := 0 }
    (s.log .app 0 0x7101 srcManager).reply .ok 0

/-- UPDATE_DATA: bytes appended to the open delta; the mailbox names the offset it writes at (R587). -/
def updateData (s : State) (offset : Option Nat) (data : List Byte) : State :=
  let n := s.fw.received
  if s.fw.update ≠ 1 ∨ offset.any (· != n) ∨ slotBytes < n + data.length then s.reply .refused 0x08000022
  else ((s.rawBytes (stagingBase + n) data).onFw fun f => { f with received := n + data.length }).reply .ok 0

/-- A field of the staged delta's header (R651). -/
def deltaField (s : State) (off : Nat) : Nat := s.rdLe (stagingBase + off) 4

/-- The bytes of the source image (R651). -/
def sourceImage (s : State) : List Byte :=
  let b := slotBase s.activeSlot
  s.rdBytes b (256 + s.rdLe (b + 0x0C) 4 + s.rdLe (b + 0x14) 4)

/-- The SRC_LEN bytes of the active slot that the operations read (R651, R652). -/
def sourceBytes (s : State) : List Byte := s.rdBytes (slotBase s.activeSlot) (min slotBytes (s.deltaField 0x0C))

/-- DST_LEN rounded up to 64 KiB (R655). -/
def eraseLen (s : State) : Nat := ceilDiv (s.deltaField 0x30) 0x10000 * 0x10000

/-- The delta's header, trailer and length hold together (R651, R655). -/
def deltaOk (s : State) : Bool :=
  let ops := s.deltaField 0x34
  crc32c (s.rdBytes stagingBase 0x3C) = s.deltaField 0x3C && s.rdLe (stagingBase + 4) 2 = 1 &&
    s.fw.received = 68 + ops && decide (s.deltaField 0x30 ≤ slotBytes) &&
    crc32c (s.rdBytes stagingBase (64 + ops)) = s.deltaField (64 + ops)

/-- Every SEC_FW_CTRL command is audited as an authorised write, under the first channel that firmware provides (R659, log
entry 43). -/
def fwAudit (s : State) (cmd : Nat) (st : Status) : State :=
  (s.audit 1 6 (s.slotRole 6) Reg.SEC_FW_CTRL st.code (digest3 (leBytes 4 0)) (digest3 (leBytes 4 (cmd + 2 ^ 31)))).put
    Reg.SEC_FW_CTRL_STATUS st.code

/-- OPEN_INACTIVE (R655, R659). -/
def openInactive (s : State) : State :=
  (s.dirWrite s.activeSlot s.trial false).put Reg.SEC_FW_STAT_INACTIVE_OPEN 1

/-- UPDATE_VERIFY_WRITE: command 2, steps 1 to 3 and the erase of step 4 (R655). -/
def updateVerify (s : State) : State :=
  if s.fw.update ≠ 1 then s.updateNo 0x23
  else
    let s := (s.onFw fun f => { f with update := 2 }).progStart 4 (s.eraseLen + 2 * s.deltaField 0x30)
    let s := s.reply .ok 0
    if !s.deltaOk then s.updateFail 0x25
    else if sha s.sourceImage ≠ s.rdBytes (stagingBase + 0x10) 32 then s.updateFail 0x24
    else
      let s := s.openInactive.fwAudit 4 .ok
      (s.erase (slotBase s.otherSlot) s.eraseLen).progAdd 4 s.eraseLen

/-- UPDATE_APPLY_DONE: the operations, the read-back and the checks of the target (R655). -/
def updateDone (s : State) : State :=
  if s.fw.update ≠ 2 then s
  else
    let dst := slotBase s.otherSlot
    let len := s.deltaField 0x30
    let ops := s.rdBytes (stagingBase + 64) (s.deltaField 0x34)
    let x := applyOps s.sourceBytes (s.deltaField 0x0C) len (ops.length + 1) ops []
    let s := (s.rawBytes dst x.1).progAdd 4 x.1.length
    if !x.2 then s.updateFail 0x25
    else
      let s := s.progAdd 4 len
      if crc32c (s.rdBytes dst len) ≠ s.deltaField 0x38 then s.updateFail 0x26
      else if s.slotCode s.otherSlot ≠ 0 then s.updateFail 0x27
      else ((s.progEnd 4 2).onFw fun f => { f with update := 3 }).log .app 0 0x7102 srcManager

/-! Handover (R656 to R659). -/

/-- The security block asks for check unit 7 (R671). -/
def sigUnit (s : State) : State :=
  if s.get (Reg.CHK_STATUS_OWNER 7) = 7 ∧ s.flag (Reg.CHK_STATUS_BUSY 7) then s else { s with chkWait := true }.chkClaim

/-- SIG_CHECK_START (R656). -/
def sigStart (s : State) (r : Nat) : State :=
  if s.flag Reg.SEC_SIG_STAT_BUSY then s
  else
    let s := ((s.put Reg.SEC_SIG_CTRL_REGION r).put Reg.SEC_SIG_STAT_BUSY 1).put Reg.SEC_SIG_STAT_VALID 0
    ((s.put Reg.SEC_SIG_STAT_FAIL 0).onFw fun f => { f with dirty := false }).sigUnit

/-- SIG_CHECK_DONE: once the unit is claimed. Without VALID a handover that waited for it cannot go on, and the update is
VERIFIED again (R656, R657, R671, log entry 174). -/
def sigDone (s : State) : State :=
  if !s.flag Reg.SEC_SIG_STAT_BUSY || s.chkWait then s
  else
    let fail := s.slotFail (slotBase s.otherSlot) (regionBase (s.get Reg.SEC_SIG_CTRL_REGION))
    let s := (s.put Reg.SEC_SIG_STAT_BUSY 0).put Reg.SEC_SIG_STAT_FAIL fail
    let valid := decide (fail = 0) && !s.fw.dirty
    let s := (s.put Reg.SEC_SIG_STAT_VALID (if valid then 1 else 0)).put (Reg.CHK_STATUS_BUSY 7) 0
    if valid ∨ s.fw.handover ≠ some none then s else s.onFw fun f => { f with handover := none }

/-- The running pair, and the one that waits. -/
def pair (s : State) : Nat := s.get Reg.SEC_FW_STAT_PAIR
def standbyPair (s : State) : Nat := 1 - s.pair

/-- A hart of the running pair. -/
def fromPair (s : State) (hart : Option (Fin 4)) : Bool := hart.any fun h => h.val / 2 = s.pair

/-- A security command is refused (R657, R659). -/
def fwRefuse (s : State) (cmd : Nat) : State := (s.fwAudit cmd .refused).log .sec 0 0x7107 srcManager

/-- A SEC_FW_CTRL command from a hart: it takes effect where it may (R659). -/
def fwCommand (s : State) (hart : Option (Fin 4)) (cmd : Nat) (may : Bool) (go : State → State) : State :=
  if s.fromPair hart && may then (go s).fwAudit cmd .ok else s.fwRefuse cmd

/-- UPDATE_ACTIVATE: command 3 copies the manager image of the inactive slot into the standby region and asks for its check
(R654, R658). -/
def updateActivate (s : State) : State :=
  if s.fw.update ≠ 3 ∨ s.fw.handover.isSome then s.updateNo 0x23
  else
    let src := slotBase s.otherSlot
    let s := s.wrBytes (regionBase s.standbyPair) (s.rdBytes (src + 0x100) (s.rdLe (src + 0x0C) 4))
    ((s.sigStart s.standbyPair).onFw fun f => { f with handover := some none }).reply .ok 0

/-- ACTIVATE releases the standby pair (R657). -/
def activate (s : State) : State :=
  (s.put Reg.SEC_FW_STAT_STBY_RUN 1).onFw fun f => { f with handover := some (some s.now) }

/-- The standby region holds a checked image. -/
def regionChecked (s : State) : Bool :=
  s.flag Reg.SEC_SIG_STAT_VALID && s.get Reg.SEC_SIG_CTRL_REGION = s.standbyPair

/-- The watchdog's count starts afresh (R680). -/
def watchdogLoad (s : State) : State :=
  (s.put Reg.FLT_WDOG_REMAIN_MS (s.get Reg.FLT_WDOG_TMO_MS)).onFw fun f => { f with loadedAt := some s.now }

/-- The fallback timer runs no more. -/
def fallbackOff (s : State) : State := (s.put Reg.SEC_FB_TIMER_ARMED 0).put Reg.SEC_FB_REMAIN_TICKS 0

/-- SWAP (R658, R662). -/
def swap (s : State) : State :=
  let secs := s.obj 0x2C00 7
  let s := (s.put Reg.SEC_FW_STAT_PAIR s.standbyPair).put Reg.SEC_FW_STAT_STBY_RUN 0
  let s := if s.fw.loadedAt.isSome then s.watchdogLoad else s
  let s := ((s.put Reg.SEC_FB_TIMER_SECONDS secs).put Reg.SEC_FB_TIMER_ARMED 1).put Reg.SEC_FB_REMAIN_TICKS (32768 * secs)
  let s := (s.dirWrite s.otherSlot true true).put Reg.SEC_FW_STAT_INACTIVE_OPEN 0
  let s := s.onFw fun f => { f with armedAt := s.now, update := 0, handover := none }
  (s.setObj 0x2C00 8 0).log .sec 0 0x7105 srcManager

/-- CONFIRM (R662). -/
def confirm (s : State) : State :=
  if !s.trial then s
  else ((s.fallbackOff.dirWrite s.activeSlot false true).setObj 0x2C00 8 1).log .sec 0 0x7109 srcManager

/-- 32.768 kHz ticks left of the fallback timer, 0 in the cycle of its expiry and after it (R662, R664). -/
def fallbackTicks (s : State) : Nat :=
  32768 * s.get Reg.SEC_FB_TIMER_SECONDS - (s.now - s.fw.armedAt) * 32768 / 200000000

/-- A fallback: 1 timer, 2 watchdog, 3 command (R663). -/
def fallback (s : State) (cause : Nat) : State :=
  let s := (s.dirWrite s.otherSlot false false).fallbackOff
  let s := s.put Reg.SEC_BOOT_STAT_SLOT s.activeSlot
  let src := slotBase s.activeSlot
  let s := s.wrBytes (regionBase 0) (s.rdBytes (src + 0x100) (s.rdLe (src + 0x0C) 4))
  let s := ((s.put Reg.SEC_FW_STAT_PAIR 0).put Reg.SEC_FW_STAT_STBY_RUN 0).put Reg.SEC_FW_STAT_INACTIVE_OPEN 0
  let s := (s.put Reg.SEC_FW_STAT_FB_CAUSE cause).onFw fun f => { f with update := 0, handover := none }
  ((s.setObj 0x2C00 8 0).countObj 16 0x2C00 9).log .sec 0 0x7108 srcManager cause

/-- UPDATE_ABORT: command 4 (R654, R663). -/
def updateAbort (s : State) : State :=
  if s.trial then (s.fallback 3).reply .ok 0
  else if s.fw.update = 1 ∨ s.fw.update = 2 then
    let s := if s.fw.update = 2 then s.progEnd 4 4 else s
    (s.onFw fun f => { f with update := 0 }).reply .ok 0
  else s.updateNo 0x23

/-- FALLBACK_TIMER_EXPIRE (R662, R663). -/
def fallbackExpire (s : State) : State :=
  if s.flag Reg.SEC_FB_TIMER_ARMED then
    (s.reach (s.fw.armedAt + 200000000 * s.get Reg.SEC_FB_TIMER_SECONDS)).fallback 1
  else s

/-- HANDOVER_READY_TIMEOUT: 2 s after ACTIVATE (R658). -/
def readyTimeout (s : State) : State :=
  match s.fw.handover with
  | some (some t) =>
    let s := ((s.reach (t + 400000000)).put Reg.SEC_FW_STAT_STBY_RUN 0).onFw fun f => { f with update := 3, handover := none }
    s.log .app 0 0x7104 srcManager
  | _ => s

/-! The manager watchdog (R680, R681). -/

/-- A kick write is rejected. -/
def badKick (s : State) : State := (s.count Reg.FLT_WDOG_STAT_BADKICK).put Reg.FLT_WDOG_STAT_HALF 0

/-- A complete kick: the count is reloaded; after an expiry it rearms the watchdog. -/
def kicked (s : State) : State :=
  let s := (s.put Reg.FLT_WDOG_STAT_HALF 0).watchdogLoad
  if s.flag Reg.FLT_WDOG_STAT_EXPIRED then
    ((s.put Reg.FLT_WDOG_STAT_EXPIRED 0).log .flt 0 0x7302 srcManager).guardScan
  else s

/-- A write is the second of a kick, in order and in time (R680). -/
def kickEnds (s : State) (hart : Option (Fin 4)) (v : Nat) : Bool :=
  s.fromPair hart && s.flag Reg.FLT_WDOG_STAT_HALF && decide (v = 0xB4E2 ∧ s.now ≤ s.fw.kickAt + 200000)

/-- One write of the kick sequence. -/
def kick (s : State) (hart : Option (Fin 4)) (v : Nat) : State :=
  if s.kickEnds hart v then s.kicked
  else if s.fromPair hart ∧ !s.flag Reg.FLT_WDOG_STAT_HALF ∧ v = 0x4B1D then
    (s.put Reg.FLT_WDOG_STAT_HALF 1).onFw fun f => { f with kickAt := s.now }
  else s.badKick

/-- The count has reached 0 in this reference cycle or before it (R681). -/
def watchdogDue (s : State) : Bool :=
  s.fw.loadedAt.any fun t => decide ((t + 200000 * s.get Reg.FLT_WDOG_TMO_MS) / 8 ≤ s.now / 8)

/-- WATCHDOG_EXPIRE. -/
def watchdogExpire (s : State) : State :=
  match s.fw.loadedAt with
  | none => s
  | some t =>
    let s := (s.reach (t + 200000 * s.get Reg.FLT_WDOG_TMO_MS)).onFw fun f => { f with loadedAt := none }
    let s := (s.put Reg.FLT_WDOG_REMAIN_MS 0).put Reg.FLT_WDOG_STAT_EXPIRED 1
    let s := ((s.countObj 16 0x2D00 2).log .flt 0 0x7301 srcManager).guardScan
    if s.trial then s.fallback 2 else s

/-! The tile firmware switch (R661). -/

/-- The entry offset in the header that a tile holds (R608). -/
def headerEntry (s : State) (t : Nat) : Nat :=
  ((s.fw.headers.find? fun x => x.1 = t).map (·.2.2.2.2)).getD 0

/-- A tile switches halves: its core, where it runs, restarts at the entry with a0 = 1. -/
def tileSwitched (s : State) (t : Nat) : State :=
  let s := (s.put (Reg.Q_FW_STAT_ACTIVE_HALF t) (1 - s.get (Reg.Q_FW_STAT_ACTIVE_HALF t))).put (Reg.Q_FW_STAT_SWITCHED t) 1
  s.onFault fun f => { f with cores := f.cores.map fun c => if c.1 = t then (t, s.headerEntry t, 1) else c }

/-- Every tile handles the switch at the launch of the step it was sent with. -/
def tilesSwitch (s : State) : State :=
  if !s.fw.tileSwitch then s
  else
    let gen := s.get Reg.SYNC_FW_SWITCH_GEN
    let s := s.onFw fun f => { f with tileSwitch := false }
    let (done, s) := ((List.range 1152).filter fun t => !s.isHole t).foldl (fun (x : Bool × State) t =>
      let s := x.2
      if s.flag (Reg.Q_FW_STAT_MATCH t) && s.get (Reg.Q_FW_STAT_GEN t) = gen then (true, s.tileSwitched t)
      else (x.1, (s.put (Reg.Q_FW_STAT_SWITCH_MISS t) 1).log .q t 0x7202 t t)) (false, s)
    if done then s.log .sync 0 0x7201 srcManager gen else s

end State

/-- UPDATE_BEGIN (R654). -/
def execUpdateBegin (slot : Fin 8) (s : State) : Result :=
  let t := s.touchSlot slot.val
  s.done ((t.updateRole slot.val 5 t.updateBegin).auditWrite slot.val 0x2C00 5 [] [1#8])

/-- UPDATE_DATA (R587). -/
def execUpdateData (slot : Fin 8) (offset : Option Nat) (data : List Byte) (s : State) : Result :=
  let t := s.touchSlot slot.val
  s.done ((t.updateRole slot.val 4 (t.updateData offset data)).auditWrite slot.val 0x2C00 4 [] data)

/-- UPDATE_VERIFY_WRITE (R655). -/
def execUpdateVerifyWrite (slot : Fin 8) (s : State) : Result :=
  let t := s.touchSlot slot.val
  s.done ((t.updateRole slot.val 5 t.updateVerify).auditWrite slot.val 0x2C00 5 [] [2#8])

/-- UPDATE_APPLY_DONE (R655). -/
def execUpdateApplyDone (s : State) : Result := s.done s.updateDone

/-- UPDATE_ACTIVATE (R658). -/
def execUpdateActivate (slot : Fin 8) (s : State) : Result :=
  let t := s.touchSlot slot.val
  s.done ((t.updateRole slot.val 5 t.updateActivate).auditWrite slot.val 0x2C00 5 [] [3#8])

/-- FW_ACTIVATE (R657). -/
def execFwActivate (hart : Option (Fin 4)) (s : State) : Result :=
  s.done (s.fwCommand hart 1 s.regionChecked State.activate)

/-- FW_OPEN_INACTIVE (R659). -/
def execFwOpenInactive (hart : Option (Fin 4)) (s : State) : Result :=
  s.done (s.fwCommand hart 4 (!s.trial) State.openInactive)

/-- SIG_CHECK_START (R656). -/
def execSigCheckStart (region : Fin 2) (s : State) : Result := s.done (s.sigStart region.val)

/-- SIG_CHECK_DONE (R656). -/
def execSigCheckDone (s : State) : Result := s.done s.sigDone

/-- HANDOVER_READY_TIMEOUT (R658). -/
def execHandoverReadyTimeout (s : State) : Result := s.done s.readyTimeout

/-- FLASH_PROGRAM_COMMAND (R646). -/
def execFlashProgramCommand (offset : BitVec 27) (eraseLen : Option (Fin 134217728)) (data : List Byte) (s : State) : Result :=
  s.done (s.flashCommand offset.toNat (eraseLen.map (·.val)) data)

/-- FW_SWITCH_ARM (R661). -/
def execFwSwitchArm (gen : Fin 256) (s : State) : Result :=
  s.done ((s.put Reg.SYNC_FW_SWITCH_GEN gen.val).put Reg.SYNC_FW_SWITCH_PEND 1)

end Sys2Proof.Machine
end

