-- ==== Sys2Proof/Machine/Launch.lean ====
section
/-! DEFINITION. The start of the step clock and the launch of a step (R62, R64, R84, R86). -/

namespace Sys2Proof.Machine

namespace State

/-- Why the dictionary refuses to start the step clock; 0 for no reason (R58, R64, R93, R592). -/
def runReason (s : State) : Nat :=
  let lc := s.get Reg.SEC_LC_STATE
  if !s.inRun then 0x1E
  else if lc = 0 || (lc = 3 && !(s.ctrlPolicy = 2 && s.flag Reg.STEP_CTRL_INPUT)) then 0x0E
  else if s.runningImage.any fun x => (x.info.hier = 0) != (s.role = 0) then 0x0F
  else if !s.reserveOk then 0x12
  else 0

/-- FREE-RUN, REPLAY and a bound without end (R62). -/
def endless (s : State) : Bool :=
  s.ctrlPolicy = 2 && s.flag Reg.STEP_CTRL_INPUT && s.obj 0x2403 3 = 0xFFFFFFFF

/-- STEP_CTRL.RUN := 1 once the device is in run; before, the request is refused (R84, R592). -/
def runWrite (s : State) : State :=
  if !s.inRun then s.refusal 0x1E 0x2405 1
  else
    let t := s.stepRun
    if !s.running && t.running && s.endless then t.log .app 0 0x4102 srcManager else t

/-- 0x2405:01 := 1 (R84, R124). -/
def runObject (s : State) (slot : Nat) : State :=
  let r := s.runReason
  if s.slotRole slot = 0 then s.lowRole 0x2405 1
  else if r ≠ 0 then s.conflict r 0x2405 1
  else
    let t := s.runWrite
    if t.running then t.reply .ok 0 else t.reply .refused 0x08000022

/-- A half relocks its PLL. -/
def anyRelock (s : State) : Bool := s.relocking .west || s.relocking .east

/-- STEP_LAUNCH: the replicas reach the armed launch value; accepted settings and a tile firmware switch take effect with it. A
relock in progress delays it (R68, R86, R629, R661). -/
def launch (s : State) : State :=
  if (s.phase ≠ 1 ∧ s.phase ≠ 4) ∨ !s.clock.ready ∨ s.anyRelock then s
  else
    let s := s.reach (s.get64 Reg.STEP_NEXT_LAUNCH_LO)
    (s.stagedLaunch s.stepNum).tilesSwitch.launchCore

/-- A launch whose time has passed while a half relocked comes at once, as one that the close came too late for (R96, R98,
R629). -/
def launchDelayed (s : State) : State :=
  let next := s.get64 Reg.STEP_NEXT_LAUNCH_LO
  if (s.phase ≠ 1 ∧ s.phase ≠ 4) ∨ !s.clock.ready ∨ s.anyRelock ∨ s.now ≤ next then s
  else
    let s := s.put64 Reg.STEP_NEXT_LAUNCH_LO s.now
    if s.ctrlPolicy = 2 ∨ s.joined then s
    else
      let s := ((s.count Reg.STEP_OVERRUN_CNT_VALUE).put Reg.STEP_STATUS_OVERRUN 1).log .step 0 0x4208 srcManager
      let s := s.raise Reg.STEP_INT_EN 3
      if s.ctrlPolicy = 1 then
        (s.put64 Reg.STEP_SLIP_LO (s.get64 Reg.STEP_SLIP_LO + (s.now - next))).onClock fun c => { c with armed := s.now }
      else s

end State

/-- PLL_RELOCK_DONE (R629). -/
def execPllRelockDone (half : Half) (s : State) : Result := s.done (s.pllRelock half.ctorIdx).launchDelayed

/-- STEP_RUN (R84): a write of the register, or of 0x2405:01 on a slot. -/
def execStepRun (slot : Option (Fin 8)) (s : State) : Result :=
  match slot with
  | none => s.done s.runWrite
  | some n => s.done (((s.touchSlot n.val).runObject n.val).auditWrite n.val 0x2405 1 [0#8] [1#8])

/-- STEP_LAUNCH (R86). -/
def execStepLaunch (s : State) : Result := s.done s.launch

end Sys2Proof.Machine
end

