-- ==== Sys2Proof/Machine/Params.lean ====
section
/-! DEFINITION. Objects as they stand and as they are saved: the plain value of an object, the PDO configuration, what a
write sets in motion beyond its value, and the parameter area of the flash (R571, R574 to R577, R645). -/

namespace Sys2Proof.Machine

namespace State

/-- The plain value of an object: in its register, or its own. -/
def objValue (s : State) (index sub item : Nat) : Nat :=
  match pairOf index sub with
  | some a => s.get64 a
  | none =>
    if 0x2600 ≤ index ∧ index < 0x2620 ∧ sub = 6 then s.rowDelay (index - 0x2600)
    else if index = 0x2100 ∧ sub = 5 then 2 * s.get Reg.PWR_WAKE_EN_BITS
    else match s.fieldsOf index sub item with
      | [] => s.obj index sub
      | f :: _ => s.get f

/-! PDOs (R574 to R577). A PDO is named by 16 bus + n. -/

/-- The bus whose PDO objects a bus reads: bus 0 while both buses carry the same (R574). -/
def pdoOf (s : State) (p : Nat) : Nat := if s.canMode = 0 then p else p % 16

/-- The COB-ID object of a PDO; by default the predefined connection set's, disabled (R575). -/
def cobId (s : State) (tx : Bool) (p : Nat) : Nat :=
  let p := s.pdoOf p
  let v := s.obj ((if tx then 0x1800 else 0x1400) + p) 1
  if v < 2 ^ 32 then v
  else 2 ^ 31 + (if p % 16 < 4 then (if tx then 0x180 else 0x200) + 0x100 * (p % 16) + s.nodeId else 0)

/-- A PDO is enabled. -/
def pdoOn (s : State) (tx : Bool) (p : Nat) : Bool := bits (s.cobId tx p) 31 1 = 0

/-- The mapping entries of a PDO: index, subindex and bytes (R576). -/
def mapping (s : State) (tx : Bool) (p : Nat) : List (Nat × Nat × Nat) :=
  let ix := (if tx then 0x1A00 else 0x1600) + s.pdoOf p
  (List.range (s.obj ix 0)).map fun i => let e := s.obj ix (i + 1); (bits e 16 16, bits e 8 8, bits e 0 8 / 8)

/-- A dummy entry (R576). -/
def dummy (e : Nat × Nat × Nat) : Bool := e.1 = 5 || e.1 = 6 || e.1 = 7

/-- The places of a mapping's entries in the PDO: the first byte and the entry. -/
def placed : Nat → List (Nat × Nat × Nat) → List (Nat × Nat × Nat × Nat)
  | _, [] => []
  | k, e :: l => (k, e) :: placed (k + e.2.2) l

/-- The bytes of a TPDO that guard channels own, as offset and width (R531). -/
def ownedBytes (s : State) (p : Nat) : List (Nat × Nat) :=
  (List.range 64).filterMap fun n =>
    let (c, t, off, w) := s.canBytes n
    if s.get (Reg.EGR_CH_CTRL_SINK n) = 1 ∧ t = p % 16 ∧ (c = p / 16 ∨ s.canMode ≠ 0) then some (off, w) else none

/-- The smallest size of R525 that covers the mapping and every owned byte (R577). -/
def tpdoLen (s : State) (p : Nat) : Nat :=
  let used := ((s.mapping true p).map fun e => e.2.2).sum
  dlcBytes (dlcOf ((s.ownedBytes p).foldl (fun m x => max m (x.1 + x.2)) used))

/-- The controller's configuration of a TPDO follows its objects (R575, R577). -/
def tpdoConfig (s : State) (p : Nat) : State :=
  let id := s.cobId true p
  let auto := if 254 ≤ s.obj (0x1800 + s.pdoOf p) 2 then 1 else 0
  (if s.canMode = 0 then [p / 16] else [0, 1]).foldl (fun s c =>
    let n := p % 16
    (((s.put (Reg.CAN_TPDO_CFG_COBID c n) (id % 2048)).put (Reg.CAN_TPDO_CFG_LEN c n) (s.tpdoLen p)).put
      (Reg.CAN_TPDO_CFG_AUTO c n) auto).put (Reg.CAN_TPDO_CFG_EN c n) (if s.pdoOn true p then 1 else 0)) s

/-! Writes and what they set in motion. -/

/-- Port enables follow the expected workers (R522). -/
def portsEnable (s : State) (mask : Nat) : State :=
  (List.range 8).foldl (fun s n =>
    if bits mask n 1 = 1 then s.tlkEnable n else if s.role = 0 then s else s.put (Reg.TLK_CTRL_EN n) 0) s

/-- An object takes a value, and what depends on it follows. -/
def objTake (s : State) (index sub item v : Nat) : State :=
  let s := if index = 0x2110 then s.clockWrite (sub - 3) v false else s.objApply index sub item v
  if 0x1800 ≤ index ∧ index < 0x1820 then s.tpdoConfig (index - 0x1800)
  else if 0x1A00 ≤ index ∧ index < 0x1A20 then s.tpdoConfig (index - 0x1A00)
  else if index = 0x2E00 ∧ sub = 8 then s.portsEnable v
  else s

/-! The parameter area (R571, R645). -/

/-- The bytes of a parameter record, and the address of record A (0) and B (1). -/
abbrev recordBytes : Nat := 0x40000
abbrev recordBase (r : Nat) : Nat := flashBase + 0x810000 + recordBytes * r

/-- A record is valid: its CRC-32C is taken with its own field zero (log entry 44). -/
def recordOk (s : State) (r : Nat) : Bool :=
  let a := recordBase r
  let len := s.rdLe (a + 8) 4
  s.rdLe a 4 = 0x4D524150 && decide (32 ≤ len) && decide (len ≤ recordBytes) &&
    crc32c (s.rdBytes a 12 ++ leBytes 4 0 ++ s.rdBytes (a + 16) (len - 16)) = s.rdLe (a + 12) 4

/-- The valid record with the newer GEN. -/
def recordNewest (s : State) : Option Nat :=
  let gen := fun r => s.rdLe (recordBase r + 4) 4
  match s.recordOk 0, s.recordOk 1 with
  | true, true => some (if genNewer (gen 1) (gen 0) then 1 else 0)
  | true, false => some 0
  | false, true => some 1
  | false, false => none

/-- Every object of FLASH persistence, as its row and its index and subindex. -/
def flashObjs : List (ObjRow × Nat × Nat) :=
  (ObjMap.rows.filter fun r => r.persist = .flash).flatMap fun r =>
    (List.range r.count).flatMap fun i => (List.range r.subs).map fun j => (r, r.index + i, r.sub + j)

/-- Items of a FLASH object: a pin's objects have one value for each pin (R476). -/
def flashItems (index : Nat) : List Nat := if index = 0x2704 then List.range 32 else [0]

/-- The default of an object: a clock's is the fused clock (R582). -/
def flashDefault (s : State) (r : ObjRow) (index : Nat) : Nat := if index = 0x2110 then s.obj 0x2001 3 else r.dflt

/-- The entries of a record: every FLASH object that does not hold its default. -/
def recordEntries (s : State) : List Byte :=
  flashObjs.flatMap fun (r, index, sub) =>
    let vs := (flashItems index).map (s.objValue index sub)
    if vs.all (· = s.flashDefault r index) then []
    else leBytes 2 index ++ leBytes 1 sub ++ leBytes 1 (r.size * vs.length) ++ vs.flatMap (leBytes r.size)

/-- A save writes the record with the older GEN; once the defaults are to be restored it holds no entry (R571, R645). -/
def recordSave (s : State) : State :=
  let entries := if s.restoreDue then [] else s.recordEntries
  let r := match s.recordNewest with
    | some r => 1 - r
    | none => 0
  let gen := (match s.recordNewest with
    | some r => s.rdLe (recordBase r + 4) 4 + 1
    | none => 1) % 2 ^ 32
  let head := leBytes 4 0x4D524150 ++ leBytes 4 gen ++ leBytes 4 (32 + entries.length)
  let tail := List.replicate 16 0 ++ entries
  { s.rawBytes (recordBase r) (head ++ leBytes 4 (crc32c (head ++ leBytes 4 0 ++ tail)) ++ tail) with unsaved := [] }

/-- The entries of a record, as index, subindex and value bytes. -/
def parseEntries : (fuel : Nat) → List Byte → List (Nat × Nat × List Byte)
  | 0, _ => []
  | n + 1, l =>
    if l.length < 4 then []
    else
      let len := ofLe ((l.drop 3).take 1)
      (ofLe (l.take 2), ofLe ((l.drop 2).take 1), (l.drop 4).take len) :: parseEntries n (l.drop (4 + len))

/-- Objects of some indices take their values in the newest valid record (R571, R645). -/
def recordTake (s : State) (only : Nat → Bool) : State :=
  match s.recordNewest with
  | none => s
  | some r =>
    let a := recordBase r
    let l := s.rdBytes (a + 32) (s.rdLe (a + 8) 4 - 32)
    (parseEntries l.length l).foldl (fun s e =>
      match ObjMap.rowOf e.1 e.2.1 with
      | none => s
      | some row => if row.persist ≠ .flash ∨ !only e.1 then s else
        (flashItems e.1).foldl (fun s i => s.objTake e.1 e.2.1 i (ofLe ((e.2.2.drop (row.size * i)).take row.size))) s) s

/-- At start every FLASH object takes its value in the newest valid record (R571, R645). -/
def recordLoad (s : State) : State := s.recordTake fun _ => true

/-- The communication objects are reloaded from the flash: what no record holds has its default (R529). -/
def recordReload (s : State) : State :=
  let s := (flashObjs.filter fun x => decide (x.2.1 < 0x2000)).foldl (fun s x => s.objTake x.2.1 x.2.2 0 x.1.dflt) s
  s.recordTake fun index => decide (index < 0x2000)

/-- FLASH_PARAM_SAVE: what was written is saved 2 s after its write at the latest; a save that fails is tried again. -/
def paramSave (s : State) (ok : Bool) : State :=
  match s.unsaved with
  | [] => s
  | _ => if ok then s.recordSave else s

/-- 0x1010:01: the response follows the save (R559, R571). -/
def storeParams (s : State) (slot : Nat) (v : Word) (ok : Bool) : State :=
  if s.slotRole slot < 2 then s.lowRole 0x1010 1
  else if v ≠ 0x65766173#32 then (s.refusal 0x10 0x1010 1).reply .refused 0x06090030
  else if ok then s.recordSave.reply .ok 0
  else (s.refusal 0x1D 0x1010 1).reply .refused 0x08000020

/-- 0x1011:01: every FLASH object returns to its default at the next start (R571). -/
def restoreDefaults (s : State) (slot : Nat) (v : Word) : State :=
  if s.slotRole slot < 2 then s.lowRole 0x1011 1
  else if v ≠ 0x64616F6C#32 then (s.refusal 0x10 0x1011 1).reply .refused 0x06090030
  else ({ s with restoreDue := true }.recordSave).reply .ok 0

end State

/-- FLASH_PARAM_SAVE (R571). -/
def execFlashParamSave (ok : Bool) (s : State) : Result := s.done (s.paramSave ok)

/-- STORE_PARAMETERS (R571). -/
def execStoreParameters (slot : Fin 8) (value : Word) (ok : Bool) (s : State) : Result :=
  s.done (((s.touchSlot slot.val).storeParams slot.val value ok).auditWrite slot.val 0x1010 1 (leBytes 4 3)
    (leBytes 4 value.toNat))

/-- RESTORE_DEFAULTS (R571). -/
def execRestoreDefaults (slot : Fin 8) (value : Word) (s : State) : Result :=
  s.done (((s.touchSlot slot.val).restoreDefaults slot.val value).auditWrite slot.val 0x1011 1 (leBytes 4 1)
    (leBytes 4 value.toNat))

end Sys2Proof.Machine
end

