-- ==== Sys2Proof/Machine/Bringup.lean ====
section
/-! DEFINITION. The start: rails, boot ROM, self-test, the defect map, spares and the logical tile table, the choice of a
firmware slot, and the saved training set's header (R590 to R600, R606, R607, R615, R616, R634, R635, R650, R764 to R768). -/

namespace Sys2Proof.Machine

namespace State

/-- Change the start sequence's state. -/
def onStart (s : State) (f : Start → Start) : State := { s with start := f s.start }

/-! Rails (R634, R635). -/

/-- The rails in the order in which they are switched on. -/
abbrev riseOrder : List Nat := [6, 2, 5, 4, 3, 0, 1]

/-- Enable a rail and wait for its power-good. -/
def railRise (s : State) (r : Nat) : State :=
  (s.onPower fun p => { p with enabled := p.enabled ++ [r] }).onStart fun x => { x with rail := some r }

/-- The first rail of a list rises. -/
def railsBegin (s : State) (rails : List Nat) : State :=
  match rails.find? fun r => r ∉ s.power.enabled with
  | some r => (s.railRise r).onStart fun x => { x with stage := 1 }
  | none => s.onStart fun x => { x with stage := 2, pgAt := s.now, rail := none }

/-- RAIL_POWER_GOOD: the next rail follows; after the last the SRAMs are cleared (R417, R634). -/
def railGood (s : State) (r : Nat) : State :=
  if r ∉ s.power.enabled then s
  else
    let s := s.put (Reg.PWR_RAIL_STAT_PG r) 1
    if s.start.rail ≠ some r then s
    else s.railsBegin (if s.start.kind = 3 then [0, 1] else riseOrder)

/-- The sequence stops and the rails already on fall in reverse order; the third failure ends the tries (R635). -/
def railMissed (s : State) (r : Nat) : State :=
  if s.start.rail ≠ some r then s
  else
    let s := s.put Reg.PWR_SEQ_STAT_RAIL r
    let tries := s.start.tries + 1
    let s := s.onStart fun x => { x with rail := none, stage := 0, tries := tries }
    let s := s.onPower fun p => { p with enabled := p.enabled.filter (· != r) }
    let s := s.onPower fun p => { p with off := fallOrder.filter fun q => q ∈ p.enabled }
    let s := if 3 ≤ tries then ((s.put Reg.PWR_SEQ_STAT_FAIL 1).put Reg.PWR_STATUS_STATE 3).onPower fun p => { p with goal := none }
      else s
    s.fallNext

/-- SEQUENCE_RETRY: 1 s after the failure (R635). -/
def sequenceRetry (s : State) : State :=
  if s.start.stage = 0 ∧ 0 < s.start.tries ∧ s.start.tries < 3 ∧ s.power.off.isEmpty then
    (s.reach (s.now + 200000000)).railsBegin (if s.start.kind = 3 then [0, 1] else riseOrder)
  else s

/-! The saved training set (R600). -/

/-- The header that a set of this device and this DRAM configuration carries: magic, version, DDR_CTRL, silicon revision and
the low half of the serial number, each in a word (log entry 45). -/
def trainHeader (s : State) : List Byte :=
  leBytes 4 0x4E52545A ++ leBytes 4 1 ++ leBytes 4 s.start.ddr.toNat ++ leBytes 4 (s.get Reg.SEC_FUSE_REV_REV) ++
    leBytes 4 (s.get Reg.SEC_FUSE_SERIAL_LO_VALUE)

/-- The bytes of the training region that the tag covers. -/
abbrev trainBytes : Nat := 0x7FE0

/-- The tag over the region as it stands. -/
def trainTag (s : State) : List Byte := takeHash (Config.hmac Config.trainKey (s.rdBytes trainBase trainBytes)) 32

/-- The tag that the region holds is right. -/
def trainTagOk (s : State) : Bool := s.trainTag = s.rdBytes (trainBase + trainBytes) 32

/-- The saved set is valid. -/
def trainOk (s : State) : Bool := s.trainTagOk && s.rdBytes trainBase 20 = s.trainHeader

/-- The byte of the saved runtime map for a tile: STATE in [2:0] and CAUSE in [7:4]. -/
def savedByte (s : State) (t : Nat) : Nat := (s.rd8 (trainBase + 0x2040 + t)).toNat

/-! The defect map (R594 to R596). -/

/-- The state that the fuses give a tile. -/
def fuseState (s : State) (t : Nat) : Nat := [0, 3, 4, 4].getD (s.get ⟨Reg.SEC_FUSE_DEFECT (t / 16), 2 * (t % 16), 2⟩) 0

/-- The state that the saved map gives a tile, where the set is valid. -/
def savedState (s : State) (t : Nat) : Nat :=
  let k := s.savedByte t % 8
  if s.trainOk ∧ (k = 3 ∨ k = 4) then k else 0

/-- The state that the self-test gives a tile: its items, and a pod memory that failed. -/
def testState (s : State) (t : Nat) : Nat :=
  let items := s.get (Reg.FLT_BIST_STAT_ITEMS t)
  if 16 ≤ items then 4 else if items ≠ 0 ∨ s.get (Reg.POD_BIST_BANKS_FAIL (podOf t)) ≠ 0 then 3 else 0

/-- The union: the worst state, with the first source that gives it as the cause. -/
def mapEntry (s : State) (t : Nat) : Nat :=
  let a := s.fuseState t
  let b := s.savedState t
  let c := if s.start.kind ≤ 1 then s.testState t else 0
  let w := max a (max b c)
  if w = 0 then 0
  else w + 16 * (if a = w then 1 else if b = w then s.savedByte t / 16 else 2)

/-- A good tile (R597). -/
def goodTile (s : State) (t : Nat) : Bool := s.mapState t = 0

/-- The good tiles. -/
def goodTiles (s : State) : List Nat := (List.range 1152).filter s.goodTile

/-- A link is down at both ends. -/
def linkOff (s : State) (r p : Nat) : State :=
  let s := s.put ⟨Reg.EVM_LINK r, p, 1⟩ 0
  match neighbour r p with
  | some q => s.put ⟨Reg.EVM_LINK q, facing p, 1⟩ 0
  | none => s

/-- Every link into a hole is down (R23, R307). -/
def holesClose (s : State) : State :=
  ((List.range 1152).filter fun t => s.mapState t = 4).foldl (fun s t => (List.range 4).foldl (fun s p => s.linkOff t p) s) s

/-- The defect map is formed; tiles that only the self-test fails join the runtime map (R595, R596). -/
def mapForm (s : State) : State :=
  let all := List.range 1152
  let s := s.onStart fun x => { x with map := (all.map fun t => (t, s.mapEntry t)).filter fun e => e.2 ≠ 0 }
  let kept := all.filter fun t => s.savedState t ≠ 0
  let new := if s.start.kind ≤ 1 then all.filter fun t =>
    s.fuseState t = 0 && s.savedState t = 0 && s.testState t != 0 else []
  let s := { s with fault := { s.fault with retired := kept ++ new } }
  let s := new.foldl (fun s t => s.log .flt (t + 1) 0x4401 t t
    (s.get (Reg.FLT_BIST_STAT_ITEMS t) + 256 * s.get (Reg.FLT_BIST_STAT_LINKS t))) s
  let count := fun (f : Nat → Bool) => (all.filter f).length
  ((s.setObj 0x2201 3 (count fun t => s.fuseState t != 0)).setObj 0x2201 4 (count fun t =>
    s.fuseState t = 0 && s.start.kind ≤ 1 && s.testState t != 0)).holesClose

/-! Spares and the logical tile table (R597 to R599). -/

/-- The good tile of a pod with the highest pod-local index among those given. -/
def podHighest (l : List Nat) (p : Nat) : Option Nat :=
  ((List.range 16).map (podTile p)).reverse.find? fun t => t ∈ l

/-- The visits of R598: at each the pod named makes one good tile a spare. -/
def spareVisits : (visits : List Nat) → (want : Nat) → (good spares : List Nat) → List Nat
  | [], _, _, spares => spares
  | p :: l, want, good, spares =>
    if want ≤ spares.length then spares
    else match podHighest good p with
      | some t => spareVisits l want (good.filter (· != t)) (spares ++ [t])
      | none => spareVisits l want good spares

/-- The spares (R598): two rounds over the pods suffice for 128. -/
def sparesOf (good : List Nat) : List Nat :=
  let round := (List.range 72).map fun k => 29 * k % 72
  spareVisits (round ++ round ++ round) (good.length - 1024) good []

/-- Write one table of 16-bit entries. -/
def lttWrite (s : State) (base n : Nat) (l : List (Nat × Nat)) : State :=
  let s := (List.range n).foldl (fun s w => s.setReg (base + 4 * w) 0) s
  l.foldl (fun s e => s.lttPut base e.1 (e.2 + 0x8000)) s

/-- Every pod's table and SEN_LTT (R599, R619). -/
def tablesWrite (s : State) (logical spares : List Nat) : State :=
  let ids := logical.zipIdx.map fun x => (x.2, x.1)
  let codes := spares.zipIdx.map fun x => (0x401 + x.2, x.1)
  let s := (List.range 72).foldl (fun s p => s.lttWrite (Reg.POD_LTT p 0) 512 ids) s
  s.lttWrite (Reg.SEN_LTT 0) 577 (ids ++ codes)

/-- R597 to R599: spares, logical IDs and the tables. -/
def tilesName (s : State) : State :=
  let good := s.goodTiles
  let g := good.length
  let spares := if g < 1024 then [] else (sparesOf good).mergeSort
  let s := s.tablesWrite (good.filter fun t => t ∉ spares) spares
  let s := ((s.setObj 0x2201 1 g).setObj 0x2201 2 (min 1024 g)).setObj 0x2201 5 (if g < 1024 then 1 else 0)
  let s := s.setObj 0x2A10 4 spares.length
  if g < 1024 then s.log .app 0 0x4402 srcManager g else s

/-! The tree of group 0xFFF (R609). -/

/-- Breadth-first search over live links: routers found, each with the hop that found it. -/
def bfs (s : State) : (fuel : Nat) → (front : List Nat) → (seen : List (Nat × Nat × Nat)) → List (Nat × Nat × Nat)
  | 0, _, seen => seen
  | n + 1, front, seen =>
    match front with
    | [] => seen
    | r :: rest =>
      let new := (List.range 4).filterMap fun p =>
        if s.linkUp r p then (neighbour r p).bind fun q =>
          if seen.any fun x => x.1 = q then none else some (q, r, p)
        else none
      bfs s n (rest ++ new.map (·.1)) (seen ++ new)

/-- The root: router (0, y0). -/
def rootRow (s : State) : Option Nat := (List.range 32).find? fun y => s.mapState (36 * y) ≠ 4

/-- The hops from a router up to the root. -/
def hopsUp (found : List (Nat × Nat × Nat)) : (fuel : Nat) → Nat → List (Nat × Nat)
  | 0, _ => []
  | n + 1, t => match found.find? fun x => x.1 = t with
    | some (_, r, p) => if r = t then [] else (r, p) :: hopsUp found n r
    | none => []

/-- Write the tree: a leaf at every good tile that the search reaches, spares included. -/
def broadcastTree (s : State) : State :=
  let s := s.onMesh fun m => { m with mcast := m.mcast.filter fun x => x.1 % 4096 ≠ 4095 }
  match s.rootRow with
  | none => s
  | some y =>
    let root := 36 * y
    let found := s.bfs 1153 [root] [(root, root, 0)]
    let leaves := s.goodTiles.filter fun t => found.any fun x => x.1 = t
    let s := leaves.foldl (fun s t =>
      (hopsUp found 1152 t).foldl (fun s h => s.mcPort h.1 4095 h.2 true) (s.mcPort t 4095 4 true)) s
    s.mcRecount 4095 root

/-! The firmware slot (R650). -/

/-- The boot ROM cannot go on: every output stays safe and every tile in reset (R593, R650). -/
def bootHalt (s : State) : State := (s.onStart fun x => { x with stage := 6 }).egressHold

/-- The chosen slot runs: its manager image is in load region 0 and harts 0 and 1 run it. -/
def slotStart (s : State) (slot : Nat) : State :=
  let src := slotBase slot
  let s := s.wrBytes (regionBase 0) (s.rdBytes (src + 0x100) (s.rdLe (src + 0x0C) 4))
  let s := ((s.put Reg.SEC_FW_STAT_PAIR 0).put Reg.SEC_BOOT_STAT_SLOT slot).fallbackOff.watchdogLoad
  (s.setObj 0x2C00 1 slot).setObj 0x2001 7 (s.slotVersion slot)

/-- The slot that the directory names, and what it says of a trial. -/
def bootSlot (s : State) : State :=
  let a := flashBase + 0x8000 * (s.dirNewest.getD 0)
  let active := if s.dirNewest.isSome then s.rdLe (a + 8) 1 % 2 else 0
  let flags := if s.dirNewest.isSome then s.rdLe (a + 9) 1 else 0
  let s := if s.dirNewest.isNone then s.put Reg.SEC_BOOT_STAT_CODE 1 else s
  let s := ((s.put Reg.SEC_FW_STAT_ACTIVE active).put Reg.SEC_FW_STAT_TRIAL (flags % 2)).put Reg.SEC_FW_STAT_PREV_VALID
    (flags / 2 % 2)
  let s := s.put Reg.SEC_FW_DIR_GEN_GEN (if s.dirNewest.isSome then s.rdLe (a + 4) 4 else 0)
  let s := if flags % 4 = 3 then (s.dirWrite (1 - active) false false).log .app 0 0x7106 srcManager else s
  let first := s.activeSlot
  let code := s.slotCode first
  if code = 0 then s.slotStart first
  else
    let s := s.put Reg.SEC_BOOT_STAT_CODE code
    if s.slotCode (1 - first) = 0 then
      ((s.dirWrite (1 - first) false false).log .app 0 0x7110 srcManager).slotStart (1 - first)
    else (s.put Reg.SEC_BOOT_STAT_CODE 6).bootHalt

/-! The boot ROM (R591, R593, R615, R637, R638). -/

/-- The husk at a start: a latched tamper or a pending mark completes the wipe; else the newest sealed copy returns, and with it
SAFE as each channel's last value (R414, R416, R467, R637). -/
def huskBoot (s : State) : State :=
  if s.sec.mark || !s.sec.tamper.isEmpty then (s.wipeStart (match s.sec.tamper with
    | i :: _ => 1 + i
    | [] => s.get Reg.SEC_HUSK_STAT_LAST_CAUSE)).wipeDone
  else match s.sec.sealed with
    | [] => ((s.put Reg.SEC_HUSK_STAT_LAST_CAUSE 6).log .sec 0 0x6114 srcManager)
    | c :: _ =>
      let s := c.regs.foldl (fun s x => s.setReg x.1 x.2) s
      let s := (List.range 64).foldl (fun s n => s.setReg (Reg.EGR_CH_LAST n) (s.reg (Reg.EGR_CH_SAFE n))) s
      let s := (List.range 32).foldl pinDrive s
      let s := c.bytes.foldl (fun s x => s.raw8 x.1 x.2) s
      let s := c.objs.foldl (fun s x => { s with objs := Sparse.store (ObjMap.dflt x.1) s.objs x.1 x.2 }) s
      let s := s.onSec fun x => { x with keys := c.keys, appended := c.appended }
      let s := { s with fault := { s.fault with retired := c.retired } }
      ((s.put Reg.SEC_HUSK_STAT_VALID 1).put Reg.SEC_AUDIT_STAT_HELD c.held).put Reg.SEC_AUDIT_HEAD_SEQ (c.appended - 1)

/-- The fuses are read (R593). -/
def fusesRead (s : State) : State :=
  let f := s.start.fuses
  let s := ((s.setReg Reg.SEC_FUSE_VARIANT f.variant).setReg Reg.SEC_FUSE_REV (f.rev.setWidth 32)).put64
    Reg.SEC_FUSE_SERIAL_LO f.serial.toNat
  let s := (List.range 72).foldl (fun s w => s.setReg (Reg.SEC_FUSE_DEFECT w) (f.defects.getD w 0)) s
  let s := (s.setObj 0x2001 2 (getF f.variant 0 8)).setObj 0x2001 3 (getF f.variant 8 10)
  let s := (s.setObj 0x2001 4 (getF f.variant 20 8)).setObj 0x2001 5 f.rev.toNat
  s.put Reg.SEC_FUSE_STAT_DONE 1

/-- A variant code that R4 assigns, with its clock and power. -/
def variantOk (s : State) : Bool :=
  let c := s.get Reg.SEC_FUSE_VARIANT_CODE
  1 ≤ c && c ≤ 3

/-- Set points and PLLs at the fused clock, and the governor's limit (R615). -/
def clocksBoot (s : State) : State :=
  let f := s.obj 0x2001 3
  let s := (s.put (Reg.PWR_RAIL_SET_MV 0) (s.setPoint f)).put (Reg.PWR_RAIL_SET_MV 1) (s.setPoint f)
  let s := (s.put Reg.PWR_CLK_W_MHZ f).put Reg.PWR_CLK_E_MHZ f
  let s := (s.onPower fun p => { p with west := f, east := f, split := false, thermN := false }).halfShow
  s.put Reg.PWR_GOV_STAT_LIMIT s.powerLimit

/-- What the always-on domain recorded is told once (R635, R638, R641). -/
def bootEvents (s : State) : State :=
  let s := if s.power.goal.isSome then s.log .pwr 0 0x1401 srcManager (s.reg Reg.PWR_WAKE_REC).toNat else s
  let s := if s.flag Reg.PWR_SEQ_STAT_FAIL then
    (s.log .pwr 0 0x1201 srcManager (s.get Reg.PWR_SEQ_STAT_RAIL)).put Reg.PWR_SEQ_STAT_FAIL 0 else s
  if s.start.trip then
    let s := if s.get Reg.PWR_TRIP_REC_CAUSE = 1 then (s.log .pwr 0 0x1304 srcManager).countObj 16 0x2101 5
      else s.log .pwr 0 0x1202 srcManager (s.get Reg.PWR_TRIP_REC_RAIL)
    s.onStart fun x => { x with trip := false }
  else s

/-- The settings that hold from a start on. -/
def settingsBoot (s : State) : State :=
  let s := s.recordLoad
  let s := s.put Reg.TLK_HIER_CTRL_ROLE (s.obj 0x2E00 1)
  let s := if s.role = 2 then s.put Reg.TLK_HIER_STAT_WORKER 0 else s
  let s := { s with canMode := s.obj 0x2008 2, node := s.obj 0x2008 1 }
  let s := s.portsEnable (s.obj 0x2E00 8)
  (List.range 4).foldl (fun s u => s.setReg (Reg.DDR_CTRL u) s.start.ddr) s

/-- The kind of a start (R590). -/
def startKind (s : State) : Nat :=
  let want := s.obj 0x2200 2
  if want = 0 ∨ s.start.testDue then 0
  else if want = 1 then 1
  else if s.trainOk then 2 else 1

/-- The saved set is checked; without a valid one every subchannel trains from scratch (R600). -/
def trainCheck (s : State) : State :=
  let s := s.put Reg.SEC_TRAIN_CTRL_VALID (if s.trainTagOk then 1 else 0)
  if s.trainOk then s.onStart fun x => { x with scratch := [] }
  else (s.onStart fun x => { x with scratch := List.range 16 }).log .app 0 0x4405 srcManager

/-- The registers and mode registers of one subchannel's saved settings (R600, log entry 45). -/
def trainLoad (s : State) (q : Nat) : State :=
  let a := trainBase + 0x40 + 512 * q
  let s := s.setReg (Reg.DDR_TRN_VREF (q / 4) (q % 4)) (BitVec.ofNat 32 (s.rdLe a 4))
  (List.range 64).foldl (fun s k =>
    s.setReg (Reg.DDR_TRN_DLY0 (q / 4) k + 0x400 * (q % 4)) (BitVec.ofNat 32 (s.rdLe (a + 4 + 4 * k) 4))) s

/-- Step 7 begins: saved settings are loaded where the set is valid (R601). -/
def trainBegin (s : State) : State :=
  let s := s.trainCheck
  let s := if s.start.scratch.isEmpty then (List.range 16).foldl trainLoad s else s
  let s := (List.range 4).foldl (fun s u => s.put (Reg.DDR_MAP_STAT_LIVE u) 0xFFFF) s
  let s := (List.range 4).foldl (fun s u => s.put (Reg.DDR_MAP_STAT_SLICES u) (16 * s.slices)) s
  s.onStart fun x => { x with stage := 4, fwAt := 0, verified := [], tested := [], passes := [], released := [], misses := [] }

/-- Step 6: the map, the tables and the tree; then the firmware's steps begin (R591). -/
def tablesBuild (s : State) : State := s.mapForm.tilesName.broadcastTree.trainBegin

/-- The self-test begins in every tile and pod (R594). -/
def bistStart (s : State) : State :=
  let s := s.onStart fun x => { x with bist := true }
  let s := (s.put Reg.FLT_BIST_CTRL_DONE 0).put Reg.FLT_BIST_CTRL_FAILED 0
  let s := (List.range 1152).foldl (fun s t => s.setReg (Reg.FLT_BIST_STAT t) 0) s
  (List.range 72).foldl (fun s p => (s.setReg (Reg.POD_BIST_STAT p) 0).setReg (Reg.POD_BIST_BANKS p) 0) s

/-- Steps 3 and 4 of a start with its rails up, and the step that follows them (R591, R606). -/
def bootRom (s : State) : State :=
  let s := s.huskBoot.fusesRead.clocksBoot.bootEvents
  if s.start.fuses.bad.isSome || !s.variantOk || s.start.testen then
    ((s.put Reg.SEC_FUSE_STAT_ERR 1).put Reg.SEC_FUSE_STAT_ERR_WORD (s.start.fuses.bad.map (·.toNat) |>.getD 0)).bootHalt
  else
    let s := s.settingsBoot.bootSlot
    if s.start.stage = 6 then s
    else
      let k := s.startKind
      let s := (s.onStart fun x => { x with kind := k, testDue := x.testDue || k = 0 }).setObj 0x2200 1 k
      if k = 2 then s.tablesBuild else (s.onStart fun x => { x with stage := 3 }).bistStart

/-- An exit from DOZE: the tables in force before are written again, and DRAM is retrained (R607). -/
def bootDoze (s : State) : State :=
  let s := s.debugClose.bootEvents
  let logical := (List.range 1024).filterMap s.mgrLtt
  let spares := (List.range 128).filterMap fun i => s.mgrLtt (0x401 + i)
  let s := (s.holesClose.tablesWrite logical spares).broadcastTree
  let s := s.trainCheck
  let s := if s.start.scratch.isEmpty then (List.range 16).foldl trainLoad s else s
  (s.onStart fun x => { x with stage := 4, fwAt := 0, verified := [], released := [], misses := [] }).setObj 0x2200 1 3

/-- SRAM_CLEAR_DONE: every SRAM whose rail was off is zero, and the boot ROM runs (R417, R591). -/
def clearDone (s : State) (us : Nat) : State :=
  let s := if s.start.stage = 2 then s.reach (s.start.pgAt + 200 * us) else s
  let s := ((s.put Reg.SEC_CLEAR_STAT_DONE 1).put Reg.SEC_CLEAR_STAT_US us).log .sec 0 0x2301 srcDevice
  if s.start.stage ≠ 2 then s else if s.start.kind = 3 then s.bootDoze else s.bootRom

/-- COLD_START: VAON, the reference and PORST_N are good; the always-on domain switches the first rail on (R591, R634,
R764). -/
def coldStart (s : State) (fuses : Fuses) (xtal testen : Bool) (ddr : Word) : State :=
  if s.start.stage ≠ 0 ∨ !s.power.enabled.isEmpty ∨ !s.power.off.isEmpty ∨ (s.power.vaon ∧ s.get Reg.PWR_STATUS_STATE = 3) then s
  else
    let s := (s.onPower fun p => { p with vaon := true, goal := none }).put Reg.PWR_AON_STAT_XTAL_OK (if xtal then 1 else 0)
    let s := s.onStart fun x => { x with kind := 0, tries := 0, fuses := fuses, ddr := ddr, xtal := xtal, testen := testen }
    s.railsBegin riseOrder

/-- BIST_DONE: the results of every tile and pod. The links that fail loopback go down at both ends: those of the scheduled mesh
where the tile's scheduled-mesh port failed, else those of the event mesh (log entry 170). The test leaves every SRAM it covers zero (R594, R618, log entry 45). -/
def bistDone (s : State) (tiles : List (Nat × Nat × Nat)) (pods : List (Nat × Nat)) : State :=
  if !s.start.bist then s
  else
    let s := s.onStart fun x => { x with bist := false }
    let s := { s with mem := s.mem.filter fun x => !(0x100000000 ≤ x.1 && x.1 < 0x184800000) }
    let s := (List.range 1152).foldl (fun s t => s.setReg (Reg.FLT_BIST_STAT t) 3) s
    let s := (List.range 72).foldl (fun s p => s.setReg (Reg.POD_BIST_STAT p) 3) s
    let s := tiles.foldl (fun (s : State) x =>
      let s := (s.put (Reg.FLT_BIST_STAT_ITEMS x.1) x.2.1).put (Reg.FLT_BIST_STAT_LINKS x.1) x.2.2
      let s := if x.2.1 = 0 then s else s.put (Reg.FLT_BIST_STAT_PASS x.1) 0
      let failed := fun p => bits x.2.2 p 1 = 1
      let port := bits x.2.1 3 1 = 1
      let s := ((List.range 4).filter fun p => 16 ≤ x.2.1 || (failed p && !port)).foldl (fun s p => s.linkOff x.1 p) s
      if port then ((List.range 4).filter fun p => failed p).foldl (fun s p => s.scmLinkFail x.1 p) s else s) s
    let s := pods.foldl (fun (s : State) x => if x.2 = 0 then s else
      (s.put (Reg.POD_BIST_BANKS_FAIL x.1) x.2).put (Reg.POD_BIST_STAT_PASS x.1) 0) s
    let failed := ((List.range 1152).filter fun t => s.get (Reg.FLT_BIST_STAT_ITEMS t) ≠ 0).length
    let s := (s.put Reg.FLT_BIST_CTRL_DONE 1).put Reg.FLT_BIST_CTRL_FAILED failed
    if s.start.stage = 3 then s.tablesBuild else s

/-- PORST_ASSERT: as a loss of VAON; every rail falls in the order of R634 (R764). -/
def porst (s : State) : State :=
  let on := s.power.enabled
  ((s.powerLoss false).onPower fun p => { p with
    enabled := on, off := fallOrder.filter fun r => r ∈ on }).fallNext

end State

/-- COLD_START (R591). -/
def execColdStart (fuses : Fuses) (xtal testen : Bool) (ddr : Word) (s : State) : Result :=
  s.done (s.coldStart fuses xtal testen ddr)

/-- SRAM_CLEAR_DONE (R417). -/
def execSramClearDone (us : Fin 401) (s : State) : Result := s.done (s.clearDone us.val)

/-- RAIL_POWER_GOOD (R634). -/
def execRailPowerGood (rail : Fin 7) (s : State) : Result := s.done (s.railGood rail.val)

/-- RAIL_PG_TIMEOUT (R635). -/
def execRailPgTimeout (rail : Fin 7) (s : State) : Result := s.done (s.railMissed rail.val)

/-- SEQUENCE_RETRY (R635). -/
def execSequenceRetry (s : State) : Result := s.done s.sequenceRetry

/-- BIST_START (R594). -/
def execBistStart (s : State) : Result := s.done s.bistStart

/-- BIST_DONE (R594). -/
def execBistDone (tiles : List (Fin 1152 × Fin 64 × Fin 16)) (pods : List (Fin 72 × Word)) (s : State) : Result :=
  s.done (s.bistDone (tiles.map fun x => (x.1.val, x.2.1.val, x.2.2.val)) (pods.map fun x => (x.1.val, x.2.toNat)))

/-- PORST_ASSERT (R764). -/
def execPorstAssert (s : State) : Result := s.done s.porst

/-- VAON_LOSS (R765): RAIL_EN falls at once. -/
def execVaonLoss (s : State) : Result := s.done (s.powerLoss false)

end Sys2Proof.Machine
end

