-- ==== Sys2Proof/Machine/TileFirmware.lean ====
section
/-! DEFINITION. Tile firmware: its broadcast, the receivers, their reports and the manager's repairs, release, and run (R592,
R608 to R614). -/

namespace Sys2Proof.Machine

namespace State

/-! The image (R608, R614). -/

/-- The tile image that this device sends: bytes, version and entry offset. A worker sends the one its manager sent, once that
is whole; any other device, and a worker that waited in vain, the one of its own slot. -/
def tileImage (s : State) : List Byte × Nat × Nat :=
  match s.start.head with
  | some (n, _, version, entry) =>
    ((List.range n).flatMap fun k => ((s.start.chunks.find? fun c => c.1 = k).map (·.2)).getD (List.replicate 16 0), version, entry)
  | none =>
    let src := slotBase s.activeSlot
    (s.rdBytes (src + 0x100 + s.rdLe (src + 0x0C) 4) (s.rdLe (src + 0x14) 4), s.slotVersion s.activeSlot, s.tileEntry)

/-- A chunk's 24 bytes (R608). -/
def chunkBytes (data : List Byte) (seq kind gen : Nat) : List Byte :=
  let b := (data ++ List.replicate 16 0).take 16 ++ leBytes 2 (seq + 4096 * kind) ++ [BitVec.ofNat 8 gen, 0]
  b ++ leBytes 4 (crc 32 0x04C11DB7 0xFFFFFFFF 0xFFFFFFFF true (b.map (·.toNat)))

/-- The header chunk of the image. -/
def headerChunk (s : State) : List Byte :=
  let (bytes, version, entry) := s.tileImage
  chunkBytes (leBytes 2 (bytes.length / 16) ++ [0, 0] ++ leBytes 4 (crc32c bytes) ++ leBytes 4 version ++ leBytes 4 entry) 0 1
    s.start.gen

/-- Data chunk `k` of the image. -/
def dataChunk (s : State) (k : Nat) : List Byte := chunkBytes ((s.tileImage.1.drop (16 * k)).take 16) k 0 s.start.gen

/-- The chunks of a whole pass, the header first. -/
def allChunks (s : State) : List (List Byte) :=
  s.headerChunk :: (List.range (s.tileImage.1.length / 16)).map s.dataChunk

/-- The control pip of a chunk, to group 0xFFF or to one tile (R276, R358, R608). -/
def chunkPip (mc : Bool) (dest src : Nat) (chunk : List Byte) : Pip := Pip.make 0 mc dest src 0 0 0 8 (ofLe chunk)

/-- Send chunks to one tile. -/
def chunksTo (s : State) (t : Nat) (l : List (List Byte)) : State :=
  let y := 1152 + Machine.rowOf t
  l.foldl (fun s c => s.sendCtrl y (chunkPip false t y c)) s

/-- The broadcast pass: the receivers are enabled, and the chunks go down the tree of group 0xFFF; a manager also sends them
to its workers (R608, R610, R614). -/
def fwBroadcast (s : State) : State :=
  let s := s.onStart fun x => { x with gen := x.gen % 255 + 1 }
  let s := s.goodTiles.foldl (fun s t => s.put (Reg.Q_FW_CTRL_EN t) 1) s
  let y := 1152 + s.rootRow.getD 0
  let chunks := s.allChunks
  let s := chunks.foldl (fun s c => s.sendCtrl y (chunkPip true 4095 y c)) s
  if s.role ≠ 1 then s
  else ((List.range 8).filter fun n => s.tlkState n = 4).foldl (fun s n =>
    chunks.foldl (fun s c => s.tlkSend n 4 [dataFlit c]) s) s

/-- Step 9 begins: a worker without an image waits for its manager's (R614). -/
def fwBegin (s : State) : State :=
  let s := s.onStart fun x => { x with fwAt := s.now + 1 }
  if s.role = 2 ∧ s.start.head.isNone then s else s.fwBroadcast

/-! The receivers (R610). -/

/-- A chunk is discarded. -/
def fwDrop (s : State) (t : Nat) : State := s.count (Reg.Q_FW_DROP_COUNT t)

/-- The header that a tile holds: chunk count, check value, version, entry offset. -/
def fwHeader (s : State) (t : Nat) : Option (Nat × Nat × Nat × Nat) :=
  (s.fw.headers.find? fun x => x.1 = t).map (·.2)

/-- The address of a half of a tile's instruction SRAM. -/
abbrev halfAddr (t half : Nat) : Nat := tileBase t + 0x28000 + 0x4000 * half

/-- No chunk is held. -/
def fwClear (s : State) (t : Nat) : State :=
  let s := (List.range 32).foldl (fun s w => s.setReg (Reg.Q_FW_BITMAP t w) 0) s
  (s.put (Reg.Q_FW_STAT_COMPLETE t) 0).put (Reg.Q_FW_STAT_MATCH t) 0

/-- Chunks missing, of `n`. -/
def fwMissing (s : State) (t n : Nat) : List Nat :=
  (List.range n).filter fun k => s.get ⟨Reg.Q_FW_BITMAP t (k / 32), k % 32, 1⟩ = 0

/-- What the receiver shows of its bitmap; with the last chunk it computes the check value. -/
def fwShow (s : State) (t : Nat) : State :=
  match s.fwHeader t with
  | none => s
  | some (n, check, _, _) =>
    let m := (s.fwMissing t n).length
    let s := s.put (Reg.Q_FW_STAT_MISSING t) m
    if m ≠ 0 ∨ s.flag (Reg.Q_FW_STAT_COMPLETE t) then s
    else
      let v := crc32c (s.rdBytes (halfAddr t (s.get (Reg.Q_FW_CTRL_HALF t))) (16 * n))
      ((s.put (Reg.Q_FW_CHECK_VALUE t) v).put (Reg.Q_FW_STAT_COMPLETE t) 1).put (Reg.Q_FW_STAT_MATCH t) (if v = check then 1 else 0)

/-- A chunk at a receiver, by the first row of R610 that applies; one of a KIND that R608 does not list is discarded and
counted (log entry 171). -/
def fwChunk (s : State) (t : Nat) (c : List Byte) : State :=
  let seq := ofLe ((c.drop 16).take 2) % 1024
  let kind := ofLe ((c.drop 16).take 2) / 4096
  let gen := (c.getD 18 0).toNat
  let good := crc 32 0x04C11DB7 0xFFFFFFFF 0xFFFFFFFF true ((c.take 20).map (·.toNat)) = ofLe ((c.drop 20).take 4)
  if !s.flag (Reg.Q_FW_CTRL_EN t) || !good || decide (1 < kind) then s.fwDrop t
  else if kind = 1 then
    let fresh := !s.flag (Reg.Q_FW_STAT_HDR t) || s.get (Reg.Q_FW_STAT_GEN t) != gen
    let s := s.onFw fun f => { f with headers := (f.headers.filter fun x => x.1 ≠ t) ++
      [(t, ofLe (c.take 2), ofLe ((c.drop 4).take 4), ofLe ((c.drop 8).take 4), ofLe ((c.drop 12).take 4))] }
    let s := (s.put (Reg.Q_FW_STAT_HDR t) 1).put (Reg.Q_FW_STAT_GEN t) gen
    (if fresh then s.fwClear t else s).fwShow t
  else match s.fwHeader t with
    | none => s.fwDrop t
    | some (n, _, _, _) =>
      if !s.flag (Reg.Q_FW_STAT_HDR t) || s.get (Reg.Q_FW_STAT_GEN t) != gen || decide (n ≤ seq) then s.fwDrop t
      else if s.get ⟨Reg.Q_FW_BITMAP t (seq / 32), seq % 32, 1⟩ = 1 then s
      else
        let s := s.wrBytes (halfAddr t (s.get (Reg.Q_FW_CTRL_HALF t)) + 16 * seq) (c.take 16)
        (s.put ⟨Reg.Q_FW_BITMAP t (seq / 32), seq % 32, 1⟩ 1).fwShow t

/-- FW_CHUNK_RECEIVE: the next chunk in a tile's control intake. -/
def fwTake (s : State) (t : Nat) : State :=
  match s.takeCtrl t 8 with
  | none => s
  | some (p, s) => s.fwChunk t (leBytes 24 p.pay.toNat)

/-! Reports and repairs (R611, R612). -/

/-- Runs of consecutive numbers in a rising list. -/
def missingRuns : List Nat → List (Nat × Nat)
  | [] => []
  | k :: l => match missingRuns l with
    | (a, n) :: r => if a = k + 1 then (k, n + 1) :: r else (k, 1) :: (a, n) :: r
    | [] => [(k, 1)]

/-- The messages of a report, 16 bytes each. -/
def fwReports (s : State) (t : Nat) : List Nat :=
  let msg := fun kind first len => ofLe (leBytes 2 t ++ [BitVec.ofNat 8 (s.get (Reg.Q_FW_STAT_GEN t)), BitVec.ofNat 8 kind] ++
    leBytes 2 first ++ leBytes 2 len ++ leBytes 4 (s.get (Reg.Q_FW_CHECK_VALUE t)) ++ leBytes 4 0)
  match s.fwHeader t with
  | none => [msg 4 0 0]
  | some (n, _, _, _) =>
    match missingRuns (s.fwMissing t n) with
    | [] => [msg (if s.flag (Reg.Q_FW_STAT_MATCH t) then 2 else 3) 0 0]
    | l => (l.take 8).map fun r => msg 1 r.1 r.2

/-- A write of Q_FW_CTRL.REPORT: the messages leave on send endpoint 1,023. -/
def fwReport (s : State) (t : Nat) : State := (s.fwReports t).foldl (fun s m => (s.offer t 1023 m).st) s

/-- A tile whose image failed three times fails its start-up test: spares and IDs are given again (R612, R616). -/
def fwFailed (s : State) (t : Nat) : State :=
  let s := (s.onStart fun x => { x with map := x.map.put t (3 + 16 * 2) }).onFault fun f => { f with retired := f.retired ++ [t] }
  let s := (s.log .app 0 0x4403 t t).setObj 0x2201 4 (s.obj 0x2201 4 + 1)
  (s.put (Reg.Q_FW_CTRL_EN t) 0).tilesName

/-- What the manager does on a report: it resends what is missing, or the whole image after a mismatch, and asks again (R612,
R613); while the cores run a third mismatch leaves the tile with the firmware it has (R660). -/
def fwRepair (s : State) (m : Nat) : State :=
  let t := bits m 0 16
  let kind := bits m 24 8
  if (s.start.stage ≠ 4 ∧ s.start.stage ≠ 5) ∨ bits m 16 8 ≠ s.start.gen then s
  else match kind with
    | 1 =>
      let l := (List.range (bits m 48 16)).map fun i => s.dataChunk (bits m 32 16 + i)
      (s.chunksTo t l).countObj 32 0x2204 1 l.length
    | 3 =>
      let k := s.start.misses.at t + 1
      let s := s.onStart fun x => { x with misses := x.misses.put t k }
      if 3 ≤ k then (if s.start.stage = 4 then s.fwFailed t else s)
      else ((s.fwClear t).chunksTo t s.allChunks).countObj 32 0x2204 1 s.allChunks.length
    | 4 => (s.chunksTo t s.allChunks).countObj 32 0x2204 1 s.allChunks.length
    | _ => s

/-- A message for the manager's queues 0 to 575 during a start is a report; the manager acts on those it accepts. -/
def messageTake (s : State) (u : Nat) (ecc : Option EccHit) : State :=
  let old := s.get64 (qr u ⟨Reg.Q_RX_LO u, 0, 32⟩).addr
  match s.mesh.msgIn.at u with
  | [] => s
  | p :: _ =>
    let t := s.receiveMsg u ecc
    if u = 1152 ∧ msgQueue p < 576 ∧ t.get64 (qr u ⟨Reg.Q_RX_LO u, 0, 32⟩).addr ≠ old then t.fwRepair (msgBody p) else t

/-! Release and run (R592, R613). -/

/-- Run: the guard lets go, and what waited on the start is told (R590, R592, R607). -/
def runReached (s : State) : State :=
  let ms := (s.now - s.start.pgAt) / 200000
  let kind := s.start.kind
  let s := s.onStart fun x => { x with stage := 5, testDue := false, head := none, chunks := [] }
  let s := (s.onPower fun p => { p with safe := false }).guardScan
  let s := (s.setObj 0x2200 3 (ms % 2 ^ 32)).setObj 0x2001 8 s.tileImage.2.1
  let s := s.log .app 0 0x4404 srcManager kind ms
  let s := match s.power.goal with
    | some (old, _) => s.stateEnter old 0
    | none => s.put Reg.PWR_STATUS_STATE 0
  if kind ≠ 3 then s
  else match s.runningImage with
    | none => s
    | some x => s.switchLoad x.index

/-- FW_RELEASE: the half becomes active and the core of a logical tile leaves reset; ignored unless MATCH. -/
def fwRelease (s : State) (t : Nat) : State :=
  if !s.flag (Reg.Q_FW_STAT_MATCH t) then s
  else
    let s := (s.put (Reg.Q_FW_STAT_ACTIVE_HALF t) (s.get (Reg.Q_FW_CTRL_HALF t))).put (Reg.Q_FW_CTRL_EN t) 0
    let s := s.onStart fun x => { x with released := if t ∈ x.released then x.released else x.released ++ [t] }
    let s := if s.isLogical t then s.onFault fun f => { f with
      cores := (f.cores.filter fun c => c.1 ≠ t) ++ [(t, s.headerEntry t, 0)] } else s
    if s.start.stage = 4 ∧ s.goodTiles.all (fun g => g ∈ s.start.released) then s.runReached else s

/-! New tile firmware while the cores run (R660, R663). -/

/-- A new image goes into the shadow halves of some tiles. -/
def shadowBroadcast (s : State) (l : List Nat) : State :=
  let s := s.onStart fun x => { x with gen := x.gen % 255 + 1, misses := [] }
  let s := l.foldl (fun s t =>
    (s.put (Reg.Q_FW_CTRL_HALF t) (1 - s.get (Reg.Q_FW_STAT_ACTIVE_HALF t))).put (Reg.Q_FW_CTRL_EN t) 1) s
  let y := 1152 + s.rootRow.getD 0
  s.allChunks.foldl (fun s c => s.sendCtrl y (chunkPip true 4095 y c)) s

/-- After a SWAP the new firmware sends its own tile image. -/
def swapSend (s : State) : State := if s.inRun then s.swap.shadowBroadcast s.swap.goodTiles else s.swap

/-- After a fallback the restarted firmware sends its tile image to the tiles that had switched. -/
def fellBack (s old : State) : State :=
  let l := s.goodTiles.filter fun t => s.flag (Reg.Q_FW_STAT_SWITCHED t)
  if s.obj 0x2C00 9 = old.obj 0x2C00 9 || l.isEmpty then s else s.shadowBroadcast l

/-- CONFIRM: in the cycle in which the fallback timer expires the expiry wins, and the command is refused (R662, R664, log
entry 173). -/
def fwConfirm (s : State) (hart : Option (Fin 4)) : State :=
  if s.flag Reg.SEC_FB_TIMER_ARMED ∧ s.fallbackTicks = 0 then ((s.fallback 1).fellBack s).fwRefuse 2
  else s.fwCommand hart 2 true State.confirm

/-- WATCHDOG_KICK: VALUE of FLT_WDOG_KICK. In the reference cycle of the expiry the expiry wins, and the kick rearms (R680,
R681). -/
def kickWrite (s : State) (hart : Option (Fin 4)) (w : Word) : State :=
  if s.kickEnds hart (getF w 0 16) ∧ s.watchdogDue then (s.watchdogExpire.fellBack s).kicked
  else s.kick hart (getF w 0 16)

/-! Workers (R614). -/

/-- FW_PACKET_RECEIVE: chunks that the manager sent; with the last of them the worker broadcasts the image. -/
def fwPacket (s : State) (n : Nat) : State :=
  match s.tlkIn.find? fun x => x.1 = n && x.2.1 = 4 with
  | none => s
  | some x =>
    let s := { s with tlkIn := s.tlkIn.erase x }
    let s := x.2.2.foldl (fun (s : State) f =>
      let seq := ofLe ((f.drop 16).take 2) % 1024
      if ofLe ((f.drop 16).take 2) / 4096 = 1 then s.onStart fun y => { y with
        head := some (ofLe (f.take 2), ofLe ((f.drop 4).take 4), ofLe ((f.drop 8).take 4), ofLe ((f.drop 12).take 4)), chunks := [] }
      else s.onStart fun y => { y with chunks := (y.chunks.filter fun c => c.1 ≠ seq) ++ [(seq, f.take 16)] }) s
    match s.start.head with
    | some (k, check, _, _) =>
      if s.role = 2 ∧ s.start.stage = 4 ∧ s.start.chunks.length = k ∧ crc32c s.tileImage.1 = check then s.fwBroadcast else s
    | none => s

/-- WORKER_FW_TIMEOUT: no complete image within 10 s of the end of step 8. -/
def fwTimeout (s : State) : State :=
  let whole := s.start.head.any fun h => s.start.chunks.length = h.1
  if s.role ≠ 2 ∨ s.start.stage ≠ 4 ∨ whole then s
  else
    let s := (s.reach (s.start.fwAt - 1 + 2000000000)).onStart fun x => { x with head := none, chunks := [] }
    (s.log .app 0 0x8207 srcManager).fwBroadcast

end State

/-- FW_CHUNK_RECEIVE (R610). -/
def execFwChunkReceive (tile : Fin 1152) (s : State) : Result := s.done (s.fwTake tile.val)

/-- FW_REPORT (R611). -/
def execFwReport (tile : Fin 1152) (s : State) : Result := s.done (s.fwReport tile.val)

/-- FW_RELEASE (R613). -/
def execFwRelease (tile : Fin 1152) (s : State) : Result := s.done (s.fwRelease tile.val)

/-- MESSAGE_RECEIVE (R367, R612). -/
def execMessageReceive (unit : Fin 1153) (ecc : Option EccHit) (s : State) : Result := s.done (s.messageTake unit.val ecc)

/-- FW_PACKET_RECEIVE (R614). -/
def execFwPacketReceive (port : Fin 8) (s : State) : Result := s.done (s.fwPacket port.val)

/-- WORKER_FW_TIMEOUT (R614). -/
def execWorkerFwTimeout (s : State) : Result := s.done s.fwTimeout

/-- UPDATE_ABORT (R654). -/
def execUpdateAbort (slot : Fin 8) (s : State) : Result :=
  let t := s.touchSlot slot.val
  s.done (((t.updateRole slot.val 5 t.updateAbort).auditWrite slot.val 0x2C00 5 [] [4#8]).fellBack t)

/-- FW_CONFIRM (R662). -/
def execFwConfirm (hart : Option (Fin 4)) (s : State) : Result := s.done (s.fwConfirm hart)

/-- FW_FALLBACK_COMMAND (R663): where there is a previous slot to fall back to. -/
def execFwFallbackCommand (hart : Option (Fin 4)) (s : State) : Result :=
  s.done ((s.fwCommand hart 3 (s.flag Reg.SEC_FW_STAT_PREV_VALID) fun s => s.fallback 3).fellBack s)

/-- FW_SWAP (R658, R659): after an ACTIVATE whose pair has not been reset since. -/
def execFwSwap (hart : Option (Fin 4)) (s : State) : Result :=
  s.done (s.fwCommand hart 5 (s.flag Reg.SEC_FW_STAT_STBY_RUN) State.swapSend)

/-- FALLBACK_TIMER_EXPIRE (R663). -/
def execFallbackTimerExpire (s : State) : Result := s.done (s.fallbackExpire.fellBack s)

/-- WATCHDOG_KICK (R680). -/
def execWatchdogKick (hart : Option (Fin 4)) (value : Word) (s : State) : Result := s.done (s.kickWrite hart value)

/-- WATCHDOG_EXPIRE (R681). -/
def execWatchdogExpire (s : State) : Result := s.done (s.watchdogExpire.fellBack s)

end Sys2Proof.Machine
end

