-- ==== Sys2Proof/Machine/Training.lean ====
section
/-! DEFINITION. DRAM training, the saved training set, the memory test, and the power states with their wakes (R600 to R605,
R621, R626, R627, R636, R638). -/

namespace Sys2Proof.Machine

namespace State

/-! Training (R601, R621). -/

/-- Ranks of each subchannel. -/
def ranks (s : State) : Nat := 1 + s.get (Reg.DDR_CTRL_RANKS 0)

/-- A subchannel that is not retired passed the verify of every rank. -/
def trained (s : State) (q : Nat) : Bool := (List.range s.ranks).all fun r => s.start.verified.contains (2 * q + r)

/-- Every subchannel is trained or retired. -/
def allTrained (s : State) : Bool := (List.range 16).all fun q => s.subRetired q || s.trained q

/-- The memory test of every quad with a live subchannel is over. -/
def allTested (s : State) : Bool :=
  (List.range 4).all fun u => s.start.tested.contains u || (List.range 4).all fun i => s.subRetired (4 * u + i)

/-- The DRAM map over the subchannels that remain (R421, R601). -/
def mapStart (s : State) : State :=
  let live := (List.range 16).filter fun q => !s.subRetired q
  let mask := (live.map fun q => 2 ^ q).sum
  (List.range 4).foldl (fun s u =>
    (s.put (Reg.DDR_MAP_STAT_LIVE u) mask).put (Reg.DDR_MAP_STAT_SLICES u) (live.length * s.slices)) s

/-- The background fill starts (R428). -/
def fillStart (s : State) : State :=
  let s := (List.range 4).foldl (fun s u => s.put (Reg.DDR_STATUS_FILLING u) 1) s
  s.onMemories fun m => { m with fillNext := 0 }

/-- What follows the training, once all of it is over: the memory test or the fill, and then the tile firmware (R591). -/
def trainNext (s : State) : State :=
  if s.start.stage ≠ 4 ∨ !s.allTrained ∨ !s.start.released.isEmpty ∨ s.start.fwAt ≠ 0 then s
  else if s.start.kind = 0 then (if s.allTested then s.mapStart.fwBegin else s)
  else if s.start.kind = 3 then
    ((List.range 4).foldl (fun s u => s.put (Reg.DDR_STATUS_SELF_REFRESH u) 0) s).fwBegin
  else s.mapStart.fillStart.fwBegin

/-- DDR_TRAIN_STEP: a write of DDR_TRN_CTRL with GO. -/
def trainStep (s : State) (q step rank : Nat) : State :=
  let u := q / 4
  let i := q % 4
  if step = 0 ∨ 9 < step ∨ s.flag (Reg.DDR_TRN_STAT_BUSY u i) then s
  else ((s.put (Reg.DDR_TRN_CTRL_STEP u i) step).put (Reg.DDR_TRN_CTRL_RANK u i) rank).put (Reg.DDR_TRN_STAT_BUSY u i) 1

/-- DDR_TRAIN_STEP_DONE: the settings found, and what a failed step means (R425, R601). -/
def trainDone (s : State) (q : Nat) (pass : Bool) (lane : Nat) (found : List (Nat × Word)) : State :=
  let u := q / 4
  let i := q % 4
  if !s.flag (Reg.DDR_TRN_STAT_BUSY u i) then s
  else
    let step := s.get (Reg.DDR_TRN_CTRL_STEP u i)
    let s := ((s.put (Reg.DDR_TRN_STAT_BUSY u i) 0).put (Reg.DDR_TRN_STAT_PASS u i) (if pass then 1 else 0)).put
      (Reg.DDR_TRN_STAT_LAST_STEP u i) step
    let s := if pass then s else s.put (Reg.DDR_TRN_STAT_FAIL_LANE u i) lane
    let s := found.foldl (fun s x =>
      if x.1 < 64 then s.writePlain (Reg.DDR_TRN_DLY0 u x.1 + 0x400 * i) x.2 else s.writePlain (Reg.DDR_TRN_VREF u i) x.2) s
    if pass ∧ step = 9 then
      let s := s.onStart fun x => { x with verified := (2 * q + s.get (Reg.DDR_TRN_CTRL_RANK u i)) :: x.verified }
      let s := if s.trained q then s.put ⟨Reg.DDR_STATUS u, i, 1⟩ 1 else s
      s.trainNext
    else if pass then s
    else if q ∈ s.start.scratch then
      ((s.log .ddr u 0x2310 srcManager q).subRetire q).trainNext
    else if step = 9 then s.onStart fun x => { x with
      scratch := q :: x.scratch, verified := x.verified.filter fun v => v / 2 ≠ q }
    else s

/-- DDR_MODE_REGISTER_ACCESS: a write of DDR_TRN_MR with GO; a read of a register not written since power-up returns a free
value (R621). -/
def modeAccess (s : State) (q : Nat) (w : Word) : State :=
  let u := q / 4
  let i := q % 4
  let a := Reg.DDR_TRN_MR u i
  let s := s.writePlain a w
  let key := q * 4096 + getF w 16 1 * 2048 + getF w 17 3 * 256 + getF w 0 8
  if getF w 30 1 = 1 then s.onStart fun x => { x with modes := x.modes.put key (1 + getF w 8 8) }
  else match s.start.modes.at key with
    | 0 => (s.put (Reg.DDR_TRN_MR_DATA u i) (s.nextFree 8)).useFree
    | v + 1 => s.put (Reg.DDR_TRN_MR_DATA u i) v

/-! The saved set (R600). -/

/-- The settings of one subchannel: DDR_TRN_VREF, the DLY words, and the mode registers 0 to 251 of device 0 of rank 0 (log
entry 45). -/
def settingsBytes (s : State) (q : Nat) : List Byte :=
  leBytes 4 (s.reg (Reg.DDR_TRN_VREF (q / 4) (q % 4))).toNat ++
    (List.range 64).flatMap (fun k => leBytes 4 (s.reg (Reg.DDR_TRN_DLY0 (q / 4) k + 0x400 * (q % 4))).toNat) ++
    (List.range 252).map fun k => BitVec.ofNat 8 (s.start.modes.at (q * 4096 + k) - 1)

/-- The byte of the runtime map for a tile: as a saved map gave it, or with the cause of a tile retired since (R566, R596). -/
def runtimeByte (s : State) (t : Nat) : Byte :=
  if t ∉ s.fault.retired then 0
  else
    let e := s.start.map.at t
    if e % 16 = 0 then BitVec.ofNat 8 (3 + 16 * 3) else BitVec.ofNat 8 (e % 16 + 16 * (e / 16))

/-- TRAIN_SET_SEAL: firmware writes the set, and the security block its tag (R596, R600). -/
def trainSeal (s : State) (temp : Nat) : State :=
  if s.wiping then s
  else
    let header := s.trainHeader ++ leBytes 4 temp ++ List.replicate 40 0
    let s := s.wrBytes trainBase (header ++ (List.range 16).flatMap s.settingsBytes ++ (List.range 1152).map s.runtimeByte)
    (s.wrBytes (trainBase + trainBytes) s.trainTag).sealDirty

/-! The memory test (R602 to R605). -/

/-- Bytes of a subchannel. -/
def subBytes (s : State) : Nat := s.slices * 2 ^ 30

/-- Live subchannels of a quad. -/
def quadSubs (s : State) (u : Nat) : List Nat := (List.range 4).map (4 * u + ·) |>.filter fun q => !s.subRetired q

/-- Bytes that a quad's test moves. -/
def testBytes (s : State) (u : Nat) : Nat :=
  (s.quadSubs u).length * s.subBytes * ((if s.flag (Reg.DDR_MT_CTRL_MARCH u) then 10 else 0) + 2 * s.get (Reg.DDR_MT_CTRL_RET u))

/-- Bytes moved so far: the registers' count and the progress record over all quads (R604). -/
def testMoved (s : State) (u n : Nat) : State :=
  (s.put64 (Reg.DDR_MT_POS_LO u) (s.get64 (Reg.DDR_MT_POS_LO u) + n)).progAdd 1 n

/-- MEMORY_TEST_START: a write of DDR_MT_CTRL with GO. -/
def testStart (s : State) (u : Nat) (w : Word) : State :=
  let s := s.writePlain (Reg.DDR_MT_CTRL u) w
  if s.flag (Reg.DDR_MT_STAT_BUSY u) then s
  else
    let n := s.testBytes u
    let s := if s.busy 1 then s.setProg 1 { s.prog 1 with total := (s.prog 1).total + n }
      else (s.progStart 1 n).setObj 0x2203 2 0
    let s := (s.put (Reg.DDR_MT_STAT_BUSY u) 1).put (Reg.DDR_MT_STAT_PHASE u) (if s.flag (Reg.DDR_MT_CTRL_MARCH u) then 1 else 2)
    let s := (s.put (Reg.DDR_MT_ERR_COUNT u) 0).put64 (Reg.DDR_MT_POS_LO u) 0
    s.onStart fun x => { x with
      testAt := x.testAt.put u s.now, passes := x.passes.put u 0, tested := x.tested.filter (· != u) }

/-- MEMORY_TEST_ABORT: at the next burst. -/
def testAbort (s : State) (u : Nat) : State :=
  if !s.flag (Reg.DDR_MT_STAT_BUSY u) then s
  else ((s.put (Reg.DDR_MT_STAT_BUSY u) 0).put (Reg.DDR_MT_STAT_PHASE u) 6).progEnd 1 4

/-- RETENTION_HOLD_EXPIRE: what comes before the hold is done, and the bursts are read back. -/
def holdExpire (s : State) (u : Nat) : State :=
  let k := s.start.passes.at u
  if !s.flag (Reg.DDR_MT_STAT_BUSY u) || decide (s.get (Reg.DDR_MT_CTRL_RET u) ≤ k) then s
  else
    let c := (s.quadSubs u).length * s.subBytes
    let s := s.reach (s.start.testAt.at u + 200000000 * s.get (Reg.DDR_MT_CTRL_HOLD u))
    let s := s.testMoved u (c * (if k = 0 then (if s.flag (Reg.DDR_MT_CTRL_MARCH u) then 11 else 1) else 2))
    (s.put (Reg.DDR_MT_STAT_PHASE u) 4).onStart fun x => { x with
      passes := x.passes.put u (k + 1), testAt := x.testAt.put u s.now }

/-- A burst that reads back wrong (R604). -/
def testFail (s : State) (q burst : Nat) : State :=
  let s := (s.countObj 32 0x2203 2).count (Reg.DDR_MT_ERR_COUNT (q / 4))
  (s.pageRetire q (burst / 128)).log .ddr (q / 4) 0x2311 srcManager q burst

/-- What the test leaves in DRAM: zeros after a march alone; after a retention pass a pattern that the spec does not fix, which
reads as free values (R602, R603, log entry 16). -/
def testLeaves (s : State) (u : Nat) : State :=
  let ret := s.get (Reg.DDR_MT_CTRL_RET u)
  if ret = 0 ∧ !s.flag (Reg.DDR_MT_CTRL_MARCH u) then s
  else if ret = 0 ∧ s.memories.lost.isEmpty then
    { s with mem := s.mem.filter fun e => !((s.dramAt e.1).any fun x => x.1 / 4 = u) }
  else { s.useFree with
    mem := s.mem.filter fun e => e.1 < dramBase || 0x9000000000 ≤ e.1
    memories := { s.memories with lost := (dramBase, s.freeCount) :: s.memories.lost } }

/-- MEMORY_TEST_DONE: with the bursts of each subchannel that read back wrong. -/
def testDone (s : State) (u : Nat) (bad : List (Nat × Nat)) : State :=
  if !s.flag (Reg.DDR_MT_STAT_BUSY u) || decide (s.start.passes.at u < s.get (Reg.DDR_MT_CTRL_RET u)) then s
  else
    let s := s.testLeaves u
    let s := s.testMoved u (s.testBytes u - s.get64 (Reg.DDR_MT_POS_LO u))
    let s := (s.put (Reg.DDR_MT_STAT_BUSY u) 0).put (Reg.DDR_MT_STAT_PHASE u) 5
    let s := bad.foldl (fun s x => if s.subRetired (4 * u + x.1) then s else s.testFail (4 * u + x.1) x.2) s
    let s := s.onStart fun x => { x with tested := u :: x.tested }
    let s := if (List.range 4).any fun v => s.flag (Reg.DDR_MT_STAT_BUSY v) then s
      else if s.busy 1 then s.progEnd 1 2 else s
    s.trainNext

/-! Power states (R626, R627). -/

/-- What keeps a power-state request from being carried out (R626, R664). -/
def powerReason (s : State) (target : Nat) : Nat :=
  if s.running ∧ target ≠ 0 then 0x21
  else if s.powerBusy ∨ s.fw.update = 2 ∨ s.fw.handover.isSome then 0x17
  else if target = 3 ∧ !s.flag Reg.PWR_AON_STAT_XTAL_OK then 0x20
  else 0

/-- A wake is recorded (R638). -/
def wakeRecord (s : State) (src detail : Nat) : State :=
  let s := (s.put Reg.PWR_WAKE_REC_SRC src).put Reg.PWR_WAKE_REC_DETAIL detail
  let s := (s.put Reg.PWR_WAKE_REC_FROM (s.get Reg.PWR_STATUS_STATE)).put64 Reg.PWR_WAKE_TB_LO s.now
  s.put Reg.PWR_WAKE_REC_PEND ((s.get Reg.PWR_WAKE_REC_PEND).lor (2 ^ src))

/-- The device leaves DOZE or OFF-WAKEABLE by a start (R590, R626). -/
def wakeStart (s : State) : State :=
  let old := s.get Reg.PWR_STATUS_STATE
  let s := (s.put Reg.PWR_STATUS_STATE 4).onPower fun p => { p with goal := some (old, 0) }
  let s := s.onStart fun x => { x with kind := if old = 2 then 3 else 0, tries := 0, fwAt := 0 }
  s.railsBegin (if old = 2 then [0, 1] else riseOrder)

/-- POWER_STATE_REQUEST: from a dictionary slot, or by the register (R626, R627). -/
def powerRequest (s : State) (target : Nat) (slot : Option Nat) : State :=
  let old := s.get Reg.PWR_STATUS_STATE
  let r := s.powerReason target
  if slot.any fun n => s.slotRole n < 2 then s.lowRole 0x2100 1
  else if r ≠ 0 then
    (s.turnAway slot.isNone r 0x2100 1 Reg.PWR_CTRL).reply .refused 0x08000022
  else
    let s := (s.put Reg.PWR_CTRL_REQ target).reply .ok 0
    match target with
    | 0 =>
      if old = 1 then s.stateEnter 1 0
      else if old = 2 then
        (s.wakeRecord (match slot with
          | some 4 => 5
          | some 5 => 4
          | _ => 1) 0).wakeStart
      else s
    | 1 => if old = 0 then s.stateEnter 0 1 else s
    | 2 =>
      if old = 2 ∨ old = 3 then s
      else (s.switchSave.selfRefresh.onStart fun x => { x with stage := 0 }).fallBegin 2 [1, 0]
    | _ => if old = 3 then s else s.offBegin

/-- A detector's pattern counts: that of a GPIO input only where the pin is enabled (R636). -/
def wakeCounts (s : State) (x : Nat × Nat) : Bool :=
  x.1 != 0 && (x.1 != 6 || (s.reg Reg.PWR_WAKE_GPIO).getLsbD x.2)

/-- WAKE_EVENT: the always-on domain takes the patterns seen in one reference cycle, those that a command of their own
reported and those that the detectors of the other sources see. Those whose source is enabled wake a device in DOZE or
OFF-WAKEABLE; in OFF-WAKEABLE the stamp counts reference cycles since entry (R636, R638). -/
def wakeEvent (s : State) (cycles : Nat) (seen : List (Nat × Nat)) : State :=
  let l := s.wakes ++ seen.filter s.wakeCounts
  let s := { s with wakes := [] }
  let on := l.filter fun x => bits (s.get Reg.PWR_WAKE_EN_BITS) (x.1 - 1) 1 = 1
  let old := s.get Reg.PWR_STATUS_STATE
  if on.isEmpty ∨ (old ≠ 2 ∧ old ≠ 3) ∨ s.start.stage ≠ 0 then s
  else
    let s := if old = 3 then s.tbMove (s.now + 8 * cycles) else s
    let src := if on.any fun x => x.1 = 7 then 7 else on.foldl (fun m x => min m x.1) 8
    let detail := ((on.find? fun x => x.1 = src).map (·.2)).getD 0
    let s := s.wakeRecord src detail
    let s := on.foldl (fun s x => s.put Reg.PWR_WAKE_REC_PEND ((s.get Reg.PWR_WAKE_REC_PEND).lor (2 ^ x.1))) s
    s.wakeStart

end State

/-- DDR_TRAIN_STEP (R601). -/
def execDdrTrainStep (sub step : Fin 16) (rank : Fin 2) (s : State) : Result := s.done (s.trainStep sub.val step.val rank.val)

/-- DDR_TRAIN_STEP_DONE (R601). -/
def execDdrTrainStepDone (sub : Fin 16) (pass : Bool) (lane : Fin 64) (found : List (Fin 65 × Word)) (s : State) : Result :=
  s.done (s.trainDone sub.val pass lane.val (found.map fun x => (x.1.val, x.2)))

/-- DDR_MODE_REGISTER_ACCESS (R621). -/
def execDdrModeRegisterAccess (sub : Fin 16) (value : Word) (s : State) : Result := s.done (s.modeAccess sub.val value)

/-- TRAIN_SET_SEAL (R600). -/
def execTrainSetSeal (temp : Fin 65536) (s : State) : Result := s.done (s.trainSeal temp.val)

/-- TRAIN_SET_CHECK (R600). -/
def execTrainSetCheck (s : State) : Result := s.done (s.put Reg.SEC_TRAIN_CTRL_VALID (if s.trainTagOk then 1 else 0))

/-- MEMORY_TEST_START (R602). -/
def execMemoryTestStart (quad : Fin 4) (value : Word) (s : State) : Result := s.done (s.testStart quad.val value)

/-- MEMORY_TEST_ABORT (R621). -/
def execMemoryTestAbort (quad : Fin 4) (s : State) : Result := s.done (s.testAbort quad.val)

/-- RETENTION_HOLD_EXPIRE (R603). -/
def execRetentionHoldExpire (quad : Fin 4) (s : State) : Result := s.done (s.holdExpire quad.val)

/-- MEMORY_TEST_DONE (R604). -/
def execMemoryTestDone (quad : Fin 4) (bad : List (Fin 4 × Nat)) (s : State) : Result :=
  s.done (s.testDone quad.val (bad.map fun x => (x.1.val, x.2)))

/-- POWER_STATE_REQUEST (R626): a write of 0x2100:01 on a slot, or of PWR_CTRL. -/
def execPowerStateRequest (target : Fin 4) (slot : Option (Fin 8)) (s : State) : Result :=
  match slot with
  | none => s.done (s.powerRequest target.val none)
  | some n => s.done (((s.touchSlot n.val).powerRequest target.val (some n.val)).auditWrite n.val 0x2100 1
      [BitVec.ofNat 8 (s.get Reg.PWR_CTRL_REQ)] [BitVec.ofNat 8 target.val])

/-- WAKE_EVENT (R636). -/
def execWakeEvent (cycles : Nat) (seen : List (Fin 9 × Fin 32)) (s : State) : Result :=
  s.done (s.wakeEvent cycles (seen.map fun x => (x.1.val, x.2.val)))

/-- WAKE_TIMER_MATCH (R636): the wake counter equals PWR_WAKE_TMR. -/
def execWakeTimerMatch (s : State) : Result := s.done { s with wakes := s.wakes ++ [(8, 0)] }

end Sys2Proof.Machine
end

