-- ==== Sys2Proof/Machine/Authority.lean ====
section
/-! DEFINITION. The authorised-write path and the lifecycle (R543 to R546). -/

namespace Sys2Proof.Machine

namespace State

/-! The registers of the authorised-write path. -/

/-- The least role for an authorised write (R543, R734): for a package power limit below the fused one it is maker. -/
def authRole (s : State) (a v : Nat) : Nat :=
  if Reg.DBG_INJ_TARGET ≤ a ∧ a ≤ Reg.DBG_INJ_CTRL then s.debugRole
  else if a = Reg.PWR_GOV_LIMIT ∧ v ≠ 0 ∧ v < s.obj 0x2001 4 then 3
  else 2

/-- A register word after an authorised write; an unassigned encoding is ignored for its field (R16). -/
def authWord (a : Nat) (old new : Word) : Word :=
  (authFields a).foldl (fun w f =>
    let v := getF new f.lo f.len
    if f.acc ≠ .woAuth ∧ f.least ≤ v ∧ v ≤ f.most then setF w f.lo f.len v else w) old

/-! Guard bounds (R469, R574, R577). -/

/-- A byte of a TPDO that a non-dummy entry of its mapping covers. -/
def mappedByte (s : State) (p i : Nat) : Bool :=
  (placed 0 (s.mapping true p)).any fun e => !dummy e.2 && decide (e.1 ≤ i) && decide (i < e.1 + e.2.2.2)

/-- The bounds of a channel hold, and its sink takes no byte that a mapping holds and no bus that is joined to bus 0. -/
def bindOk (s : State) (n : Nat) : Bool :=
  s.boundsOk n && (s.get (Reg.EGR_CH_CTRL_SINK n) ≠ 1 ||
    (let (c, t, off, w) := s.canBytes n
     (s.canMode = 0 || c = 0) && decide (off + w ≤ 64) && (List.range w).all fun i => !s.mappedByte (16 * c + t) (off + i)))

/-- The channel of a channel's register, where that register enters the check. -/
def channelOf (a : Nat) : Option Nat :=
  if Reg.EGR_CH_CTRL 0 ≤ a ∧ a < Reg.EGR_CH_CTRL 64 then some ((a - Reg.EGR_CH_CTRL 0) / 64) else none

/-- The pin of a pin's configuration register. -/
def pinOf (a : Nat) : Option Nat :=
  if Reg.EGR_GPO_CFG 0 ≤ a ∧ a < Reg.EGR_GPO_CFG 32 then some ((a - Reg.EGR_GPO_CFG 0) / 16) else none

/-- What an authorised write leaves may stand: the guard's bounds hold, and a voltage window lies within its rail's range
(R469, R623). -/
def authOk (s : State) (a : Nat) : Bool :=
  match channelOf a, pinOf a with
  | some n, _ => s.bindOk n
  | none, some i => (s.pinChannel i).all s.bindOk
  | none, none =>
    if Reg.PWR_RAIL_WIN 0 ≤ a ∧ a < Reg.PWR_RAIL_WIN 8 then
      decide (getF (RegMap.resetAt a) 0 16 ≤ getF (s.reg a) 0 16) && decide (getF (s.reg a) 16 16 ≤ getF (RegMap.resetAt a) 16 16) &&
        decide (getF (s.reg a) 0 16 ≤ getF (s.reg a) 16 16)
    else if a = Reg.PWR_GOV_LIMIT then
      let v := s.get Reg.PWR_GOV_LIMIT_W
      v = 0 || (decide (10 ≤ v) && decide (v ≤ s.obj 0x2001 4))
    else true

/-- The pods and slots whose drift an address belongs to. -/
def driftOf (a : Nat) : Option (Nat × Nat) :=
  let o := (a - 0x180000000) % 0x100000
  if 0x180000000 ≤ a ∧ a < 0x184800000 ∧ 0x81500 ≤ o ∧ o < 0x81700 then
    some ((a - 0x180000000) / 0x100000, o % 0x100 / 4) else none

/-- The weights of a slot are open (R256). -/
def driftOpen (s : State) (x : Nat × Nat) : Bool :=
  decide (s.get (Reg.DE_PL_DRIFT_USED_DRIFT x.1 x.2) < s.get (Reg.DE_PL_DRIFT_MAX_DRIFT x.1 x.2))

/-- What follows an authorised write that stands; `old` is the state before it (R256, R468, R471). -/
def authAfter (s old : State) (a : Nat) : State :=
  match channelOf a, pinOf a, driftOf a with
  | some n, _, _ =>
    let fresh := s.flag (Reg.EGR_CH_CTRL_EN n) && !old.flag (Reg.EGR_CH_CTRL_EN n)
    let s := if fresh then s.onGuard fun g => { g with
      heard := g.heard.put n s.now, silent := g.silent.filter (· != n), held := g.held.filter fun h => h.1 != n } else s
    let s := s.guardChannel n
    let pins := [old, s].filterMap fun (x : State) =>
      if x.get (Reg.EGR_CH_CTRL_SINK n) = 3 then some (x.get ⟨Reg.EGR_CH_SINK n, 0, 5⟩) else none
    pins.foldl pinDrive s
  | none, some i, _ => s.pinDrive i
  | none, none, some x => if old.driftOpen x && !s.driftOpen x then s.driftClose x.1 x.2 else s
  | none, none, none => if a = Reg.EGR_CTRL then s.guardScan else s

/-- A write through the authorised path on a slot: the value lands, and the entry of KIND 1 with it; or nothing is written
(R469, R543, R544, R548, R551). -/
def authPut (s : State) (slot a : Nat) (w : Word) : State × Status :=
  if s.wiping then (s, .accessError)
  else if (authFields a).isEmpty || decide (s.slotRole slot < s.authRole a w.toNat) then
    (s.log .sec 0 0x6121 srcManager a, .refused)
  else
    let new := authWord a (s.reg a) w
    let t := s.setReg a new
    if !t.authOk a then
      let s := if (channelOf a).isSome || (pinOf a).isSome then s.put Reg.EGR_STATUS_CFG_ERR 1 else s
      (s.refusal 0x14 0 0, .refused)
    else
      let entry := fun (x : State) => x.audit 1 slot (x.slotRole slot) a 0 (digest3 (leBytes 4 (s.reg a).toNat))
        (digest3 (leBytes 4 (if a = Reg.SEC_HUSK_WIPE ∨ a = Reg.DBG_INJ_CTRL then w else new).toNat))
      if a = Reg.SEC_HUSK_WIPE then
        (if w.getLsbD 0 then (entry s).wipeStart 5 else entry s, .ok)
      else if a = Reg.DBG_INJ_CTRL then
        let s := entry s
        let s := if w.getLsbD 0 then s.injectArm else s
        (if w.getLsbD 1 then s.injectDisarm else s, .ok)
      else (entry (t.authAfter s a), .ok)

/-- AUTH_WRITE: a write of SEC_AUTH_GO with GO. -/
def authGo (s : State) (slot : Nat) : State :=
  let (s, st) := (s.touchSlot slot).authPut slot (s.get64 Reg.SEC_AUTH_ADDR_LO % 2 ^ 40) (s.reg Reg.SEC_AUTH_DATA)
  ((s.put Reg.SEC_AUTH_GO_SLOT slot).put Reg.SEC_AUTH_GO_STATUS st.code)

/-! The lifecycle (R545, R546). -/

/-- The transitions of R545: 0 BLANK, 1 MAKER, 2 FIELD, 3 RETURNED. -/
def lifecycleStep (old new : Nat) : Bool :=
  (old = 0 && new = 1) || (old = 1 && new = 2) || (old = 2 && new = 3) || (old = 3 && new = 1)

/-- Why a transition is refused, 0 for no reason. -/
def lifecycleReason (s : State) (new : Nat) : Nat :=
  if !lifecycleStep (s.get Reg.SEC_LC_STATE) new then 0x18
  else if 16 ≤ s.get Reg.SEC_LC_USED then 0x19
  else if s.running then 0x0A
  else 0

/-- LIFECYCLE_REQUEST: the target state waits for its confirmation. -/
def lifecycleRequest (s : State) (slot v : Nat) : State :=
  let r := s.lifecycleReason v
  if s.slotRole slot < 3 then s.lowRole 0x2002 2
  else if 3 < v then (s.refusal 0x10 0x2002 2).reply .refused 0x06090030
  else if r ≠ 0 then s.conflict r 0x2002 2
  else (s.onSec fun x => { x with target := some (slot, v, s.now) }).reply .ok 0

/-- FIELD to RETURNED: no image, an erased image area, no stored object, unfilled DRAM (R428, R545). -/
def returnDevice (s : State) : State :=
  let s := { s with images := [], unsaved := [] }.imagesShow
  let s := (s.erase (flashBase + imageArea) (0x10000000 - flashBase - imageArea)).erase (recordBase 0) (2 * recordBytes)
  ((s.clearMem 0x1000000000 0x9000000000).onMemories fun m => { m with lost := [], poison := [] }).fillStart

/-- Every FLASH object takes its default (R545). -/
def flashDefaults (s : State) : State :=
  (flashObjs.filter fun x => x.1.persist = .flash).foldl (fun s x =>
    (flashItems x.2.1).foldl (fun s i => s.objTake x.2.1 x.2.2 i (s.flashDefault x.1 x.2.1)) s) s

/-- LIFECYCLE_CONFIRM: the second write, within 10 s, burns a fuse record, and the husk is wiped. -/
def lifecycleConfirm (s : State) (slot v : Nat) : State :=
  let old := s.get Reg.SEC_LC_STATE
  if s.slotRole slot < 3 then s.lowRole 0x2002 3
  else match s.sec.target with
    | none => s.conflict 0x18 0x2002 3
    | some (n, new, t) =>
      if n ≠ slot ∨ v ≠ 255 - new ∨ t + 2000000000 < s.now then s.conflict 0x18 0x2002 3
      else if s.lifecycleReason new ≠ 0 then s.conflict (s.lifecycleReason new) 0x2002 3
      else
        let s := ((s.put Reg.SEC_LC_USED (s.get Reg.SEC_LC_USED + 1)).put Reg.SEC_LC_STATE new).log .sec 0 0x6105 srcManager
        let s := s.audit 5 slot (s.slotRole slot) new 0 0 0
        let s := if old = 2 then s.returnDevice else if old = 3 then s.flashDefaults else s
        ((s.onSec fun x => { x with target := none }).wipeStart 3).reply .ok 0

/-- LIFECYCLE_CONFIRM_TIMEOUT: 10 s without the second write. -/
def lifecycleTimeout (s : State) : State :=
  match s.sec.target with
  | none => s
  | some (_, _, t) => (s.reach (t + 2000000000)).onSec fun x => { x with target := none }

end State

/-- AUTH_WRITE (R543). -/
def execAuthWrite (slot : Fin 8) (s : State) : Result := s.done (s.authGo slot.val)

/-- LIFECYCLE_REQUEST (R546). -/
def execLifecycleRequest (slot : Fin 8) (target : Fin 256) (s : State) : Result :=
  s.done (((s.touchSlot slot.val).lifecycleRequest slot.val target.val).auditWrite slot.val 0x2002 2 [] (leBytes 1 target.val))

/-- LIFECYCLE_CONFIRM (R546). -/
def execLifecycleConfirm (slot : Fin 8) (value : Fin 256) (s : State) : Result :=
  s.done (((s.touchSlot slot.val).lifecycleConfirm slot.val value.val).auditWrite slot.val 0x2002 3 [] (leBytes 1 value.val))

/-- LIFECYCLE_CONFIRM_TIMEOUT (R546). -/
def execLifecycleConfirmTimeout (s : State) : Result := s.done s.lifecycleTimeout

end Sys2Proof.Machine
end

