-- ==== Sys2Proof/Machine/Views.lean ====
section
/-! DEFINITION. What the objects of the dictionary read as: records, sums and views over the registers (R159, R220, R266, R438,
R476, R522, R562 to R566, R573, R581 to R588). -/

namespace Sys2Proof.Machine

namespace State

/-! Records (R562 to R566). -/

/-- A progress record. While an operation runs whose bytes the model moves at once, the position shown and the seconds left
are free values; once it is over, no second is left. -/
def progBytes (s : State) (op : Nat) (p : Progress) : List Byte :=
  let running := p.state = 1
  let pos := if running ∧ op ≠ 5 then p.position + s.nextFree 64 % (p.total - p.position + 1) else p.position
  let unknown := decide (pos * 100 < p.total) && decide (s.now < p.began + 1000000000)
  let remain := if !running then 0 else if unknown then 0xFFFFFFFF
    else (Config.freeValue (s.freeCount + 1)).toNat % 2 ^ 32
  leBytes 1 op ++ leBytes 1 p.state ++ leBytes 2 (if p.total = 0 then 0 else pos * 10000 / p.total) ++ leBytes 8 pos ++
    leBytes 8 p.total ++ leBytes 4 remain

/-- The record of an image index. -/
def imageBytes (s : State) (i : Nat) : List Byte :=
  match s.imageAt i with
  | none => leBytes 64 i
  | some x =>
    let f := x.info
    leBytes 1 i ++ leBytes 1 x.state ++ leBytes 1 f.hier ++ leBytes 1 f.window ++ leBytes 2 f.kMin ++
      leBytes 1 (f.flags % 8 + if x.retained.isSome then 8 else 0) ++ [0#8] ++ leBytes 2 f.tiles ++ leBytes 2 0 ++
      leBytes 4 f.projections ++ leBytes 4 f.populations.length ++ leBytes 4 f.reserve ++ leBytes 8 f.dram ++
      leBytes 4 f.id ++ (f.name ++ List.replicate 28 0#8).take 28

/-- The record of a physical tile. -/
def tileBytes (s : State) (t : Nat) : List Byte :=
  let m := s.start.map.at t
  let c := s.codeOf t
  let (st, cause) :=
    if 3 ≤ m % 16 then (m % 16, m / 16)
    else if s.fault.retired.contains t then (3, 3)
    else if s.fenced t then (1, 0)
    else if c < 1024 then (0, 0) else (2, 0)
  leBytes 2 t ++ leBytes 2 (if c < 1024 then c else 0xFFFF) ++ leBytes 1 (podOf t) ++ leBytes 1 st ++ leBytes 1 cause ++ [0#8]

/-- A text of `n` bytes, padded with zeros. -/
def textBytes (n : Nat) (l : List Nat) : List Byte := (l.map (BitVec.ofNat 8) ++ List.replicate n 0#8).take n

/-! Sums and views. -/

/-- The sum of a register over the subchannels. -/
def overSubs (f : Nat → Nat → Nat) : Nat := ((List.range 16).map fun q => f (q / 4) (q % 4)).sum

/-- Corrected (0) or uncorrectable (1) SRAM errors over tiles, pods and the manager (R438). -/
def sramErrors (s : State) (k : Nat) : Nat :=
  let at4 := fun a => (s.reg a).toNat
  overTiles (fun t => at4 (Reg.FLT_MEM_DCE t + 4 * k) + at4 (Reg.FLT_MEM_DCE t + 8 + 4 * k)) +
    ((List.range 72).map fun p => at4 (Reg.POD_ECC_CE p + 4 * k)).sum + at4 (Reg.FLT_MSRAM_CE + 4 * k)

/-- Mesh links down, each direction counted (R312). -/
def linksDown (s : State) : Nat :=
  ((List.range 1152).map fun r =>
    ((List.range 4).filter fun p => (neighbour r p).isSome && !s.linkUp r p).length
      + (if colOf r = 0 ∧ !s.linkUp r 3 then 2 else 0)).sum

/-- The newest valid write-back stamp of a projection (R259, R266). -/
def lastWriteBack (s : State) (proj : Nat) : Nat :=
  (((s.copyDescs 2).filter fun x => s.copyProj x.1 x.2 = proj).map fun x => (s.wbStamp x.1 x.2).getD 0).foldl max 0

/-- The projection objects that no field holds. -/
def projValue (s : State) (index sub n : Nat) : Nat :=
  let l := s.holders n
  let first := l.head?.map fun x => s.desc x.1 x.2
  match index, sub with
  | 0x2520, 1 => if first.any (·.block) then 1 else 0
  | 0x2520, 2 => if first.any (·.windowed) then 1 else 0
  | 0x2520, 3 => if first.any (·.windowed) then s.get Reg.STEP_WINDOW_W else 0
  | 0x2522, 1 => if l.any fun x => s.faulted x.1 x.2 then 1 else 0
  | 0x2522, 2 => ((s.delivery.firstFault.find? fun f => f.1 = n).map (·.2.1)).getD 0
  | 0x2522, 3 => ((s.delivery.firstFault.find? fun f => f.1 = n).map (·.2.2)).getD 0
  | 0x2522, 4 => (l.map fun x => s.get (Reg.DE_PROJ_MODE_DENSE_GROUPS x.1 x.2)).sum
  | 0x2522, 5 => (l.map fun x => s.get (Reg.DE_PROJ_MODE_EVENT_GROUPS x.1 x.2)).sum
  | 0x2524, 4 => (l.map fun x => s.get (Reg.DE_PL_DRIFT_USED_DRIFT x.1 x.2)).foldl max 0
  | 0x2524, 6 => (first.map (·.modCh)).getD 0
  | 0x2524, 7 => (((s.copyDescs 2).find? fun x => s.copyProj x.1 x.2 = n).map fun x => s.cdPeriod x.1 x.2).getD 0
  | 0x2524, 8 => s.lastWriteBack n
  | 0x2524, 9 => l.length
  | _, _ => (l.map fun x => s.delivery.rewritten.at (64 * x.1 + x.2)).sum

/-- The population objects that no field holds (R159). -/
def popValue (s : State) (sub n : Nat) : Nat :=
  let l := s.members n
  match sub with
  | 3 => (l.map fun x => s.get (Reg.POP_RANGE_COUNT x.1 x.2)).sum
  | 4 => ((l.map (·.1)).eraseDups).length
  | 10 => (l.map fun x => s.get (Reg.POP_STATUS_LAST_SPIKES x.1 x.2)).sum
  | _ => (l.map fun x => s.delivery.lastSat.at (32 * x.1 + x.2)).sum

/-- Objects that read 0 at observation level OFF beside the sums of each close (R159, R220, R266, R438, R476). -/
def levelGated (index sub : Nat) : Bool :=
  match index with
  | 0x2510 => sub = 10 || sub = 11
  | 0x2522 => sub = 4 || sub = 5
  | 0x2524 => sub = 4 || sub = 10
  | 0x2301 => sub = 4 || sub = 5
  | 0x2701 => sub = 11
  | 0x2801 => decide (sub ≤ 7)
  | 0x2802 => decide (3 ≤ sub)
  | 0x2900 => decide (sub ≤ 3)
  | 0x2901 => decide (sub ≤ 2)
  | 0x2B01 => true
  | _ => 0x2600 ≤ index && index < 0x2620 && decide (10 ≤ sub)

/-- The number that an object reads as. -/
def objNumber (s : State) (slot index sub : Nat) : Nat :=
  let item := match selectorOf index sub with
    | some k => s.selOf slot k
    | none => 0
  let plain := s.objValue index sub item
  if levelGated index sub ∧ s.get Reg.DBG_STATUS_LEVEL = 0 then 0
  else match index, sub with
    | 0x1014, _ => 0x80 + s.nodeId
    | 0x1018, 2 => 0x10000 + s.obj 0x2001 2
    | 0x1018, 3 => s.obj 0x2001 5 * 2 ^ 16 + s.obj 0x2001 7 / 2 ^ 24
    | 0x1018, 4 => (s.reg Reg.SEC_FUSE_SERIAL_LO).toNat
    | 0x2002, 4 => 16 - s.get Reg.SEC_LC_USED
    | 0x2003, 1 => s.slotRole slot
    | 0x2101, 4 => if s.get Reg.PWR_WITHHELD_COUNT = 0 then 0 else s.nextFree 16 % 10001
    | 0x2121, 5 => 100 * s.get (Reg.PWR_RAIL_MEAS_A item)
    | 0x2300, 1 => 16 * s.slices
    | 0x2300, 2 => s.liveSubs.length * (1024 * s.slices - 2)
    | 0x2300, 3 => 4800 + 400 * s.get (Reg.DDR_CTRL_RATE 0)
    | 0x2300, 5 => overSubs fun u n => s.get (Reg.DDR_SUB_STAT_SPARES_USED u n)
    | 0x2301, 1 => overSubs fun u n => s.get (Reg.DDR_SUB_CE_COUNT u n)
    | 0x2301, 2 => overSubs fun u n => s.get (Reg.DDR_SUB_RETRY_COUNT u n)
    | 0x2301, 3 => overSubs fun u n => s.get (Reg.DDR_SUB_UE_COUNT u n)
    | 0x2301, 4 => s.sramErrors 0
    | 0x2301, 5 => s.sramErrors 1
    | 0x2500, 3 => (s.runningImage.map (·.info.projections)).getD 0
    | 0x2500, 4 => (s.runningImage.map (·.info.populations.length)).getD 0
    | 0x2510, 3 => s.popValue 3 item
    | 0x2510, 4 => s.popValue 4 item
    | 0x2510, 10 => s.popValue 10 item
    | 0x2510, 11 => s.popValue 11 item
    | 0x2701, 10 => s.get (Reg.EGR_CH_STATUS_SAFE item) + 16 * s.get (Reg.EGR_CH_STATUS_CAUSE item)
    | 0x2801, 8 => s.linksDown
    | 0x2A00, 1 => s.fault.held
    | 0x2B00, 1 => s.get Reg.DBG_CTRL_LEVEL
    | 0x2C00, 2 => s.slotVersion 0
    | 0x2C00, 3 => s.slotVersion 1
    | 0x2D01, 1 => ((List.range 8).map fun u => s.get (Reg.CHK_JOBS_COUNT u)).sum
    | 0x2D01, 2 => ((List.range 8).map fun u => s.get (Reg.CHK_MISMATCH_COUNT u)).sum
    | 0x2E00, 3 => if s.role = 2 then s.get Reg.TLK_HIER_STAT_WORKER else 0xFF
    | _, _ =>
      match selectorObjs.idxOf? (index, sub) with
      | some k => s.selOf slot k
      | none =>
        if (index = 0x2520 ∧ sub ≤ 3) ∨ index = 0x2522 ∨ (index = 0x2524 ∧ 4 ≤ sub) then s.projValue index sub item
        else if (index / 0x20 = 0xA0 ∨ index / 0x20 = 0xC0) ∧ sub = 1 then s.cobId (decide (0x1800 ≤ index)) (index % 0x200)
        else if 0x1400 ≤ index ∧ index < 0x1A20 then s.obj (index / 0x20 * 0x20 + s.pdoOf (index % 0x20)) sub
        else if 0x2600 ≤ index ∧ index < 0x2620 ∧ sub = 12 then
          let n := index - 0x2600
          s.get (Reg.SEN_CTX_LATE_COUNT n) + s.get (Reg.SEN_CTX_RANGE_COUNT n)
        else if 0x2E10 ≤ index ∧ index < 0x2E18 ∧ sub = 5 then
          let n := index - 0x2E10
          s.get (Reg.TLK_DROP_HOLD_COUNT n) + s.get (Reg.TLK_DROP_SESSION_COUNT n)
        else plain

/-- The bytes that an object reads as on a slot; the values that are open are the next two free values. -/
def objBytes (s : State) (slot index sub size : Nat) : List Byte :=
  match index, sub with
  | 0x1008, _ => textBytes 16 [0x5A, 0x79, 0x6E, 0x75, 0x6C, 0x6F, 0x20, 0x5A, 0x31, 0x4B]
  | 0x1009, _ => (List.range 8).map (Config.versionText 0 (s.obj 0x2001 5))
  | 0x100A, _ => (List.range 32).map (Config.versionText 1 (s.obj 0x2001 7))
  | 0x2004, 2 => ((s.sec.challenges.find? fun x => x.1 = slot).map (·.2.2.1)).getD (List.replicate 8 0)
  | 0x2202, 2 => s.tileBytes (s.selOf slot 1)
  | 0x2203, 1 => s.progBytes 1 (s.prog 1)
  | 0x2303, 2 => s.progBytes 5 (s.prog 5)
  | 0x2400, 2 => s.imageBytes (s.selOf slot 2)
  | 0x2400, 5 => s.progBytes 2 (((s.imageAt (s.selOf slot 2)).map (·.progress)).getD .idle)
  | 0x2A00, 4 => s.rdBytes (s.logAddr (s.selOf slot 7)) 32
  | 0x2A10, 5 => s.progBytes 3 (s.prog 3)
  | 0x2C00, 6 => s.progBytes 4 (s.prog 4)
  | _, _ =>
    if 0x3000 ≤ index ∧ sub = 2 then s.gates.data.at ((index - 0x3000) / 0x100)
    else leBytes size (s.objNumber slot index sub)

end State

end Sys2Proof.Machine
end

