-- ==== Sys2Proof/Machine/Dictionary.lean ====
section
/-! DEFINITION. The dictionary server: reads and writes of objects, the worker gateways, and proxy requests (R55 to R69, R510,
R523, R536 to R541, R559 to R572). -/

namespace Sys2Proof.Machine

namespace State

/-- The least role of an object: the injection objects ask for that of the lifecycle (R586, R734). -/
def objRole (s : State) (r : ObjRow) : Nat :=
  if r.index = 0x2B03 ∧ r.sub ≤ 4 then s.debugRole else r.role

/-- An object does not exist (R559, R580). -/
def noObject (s : State) (index : Nat) : State :=
  s.reply .refused (if ObjMap.rows.any fun r => r.index ≤ index && index < r.index + r.count then 0x06090011 else 0x06020000)

/-- The item that a window object acts on exists (R559, R569). -/
def windowOk (s : State) (slot index sub : Nat) : Bool :=
  (selectorOf index sub).all fun k => s.itemExists k (s.selOf slot k)

/-- The item that an object acts on. -/
def itemOf (s : State) (slot index sub : Nat) : Nat := ((selectorOf index sub).map (s.selOf slot)).getD 0

/-- A value outside an object's range (R61, R559). -/
def outOfRange (s : State) (index sub : Nat) : State := (s.refusal 0x10 index sub).reply .refused 0x06090030

/-- A request that a reason code turns away: out of range, or in conflict (R60, R61). -/
def turnDown (s : State) (reason index sub : Nat) : State :=
  if reason = 0x10 then s.outOfRange index sub else s.conflict reason index sub

/-! Reading (R559, R560). -/

/-- A read of an object on a slot; `len` is what a read of the audit export takes. -/
def dictRead (s : State) (slot index sub len : Nat) : State :=
  match ObjMap.rowOf index sub with
  | none => s.noObject index
  | some r =>
    if s.slotRole slot < s.objRole r then (s.lowRole index sub).auditWrite slot index sub [] []
    else if r.acc = .wo then s.reply .refused 0x06010001
    else if !s.windowOk slot index sub then (s.refusal 0x1C index sub).reply .refused 0x08000024
    else if index = 0x2010 ∧ sub = 3 then s.exportRead slot len
    else s.useFree.useFree.reply .ok 0 ((s.objBytes slot index sub r.size).map (·.toNat))

/-! The gateways (R510, R523). -/

/-- The gateway's objects of worker `n`. -/
abbrev gateOf (n : Nat) : Nat := 0x3000 + 0x100 * n

/-- A gateway request ends: 2 done, 3 failed. -/
def gateEnd (s : State) (n st abort : Nat) : State := (s.setObj (gateOf n) 5 st).setObj (gateOf n) 6 abort

/-- Bytes in flits of a DICT packet: 16 in the first, 32 in each further one (R510). -/
def dictFlits (head data : List Byte) : List (List Byte) :=
  let rest := data.drop 16
  dataFlit (head ++ data.take 16) :: (List.range (ceilDiv rest.length 32)).map fun i => dataFlit ((rest.drop (32 * i)).take 32)

/-- The data of a DICT packet. -/
def dictData (flits : List (List Byte)) (n : Nat) : List Byte := (((flits.headD []).drop 16) ++ (flits.drop 1).flatten).take n

/-- GATEWAY_EXECUTE: 1 reads and 2 writes the target on worker `n`. -/
def gateExecute (s : State) (slot n v : Nat) : State :=
  let g := gateOf n
  if s.slotRole slot < 1 then s.lowRole g 4
  else if v ≠ 1 ∧ v ≠ 2 then s.outOfRange g 4
  else if s.obj g 5 = 1 then s.conflict 0x17 g 4
  else if bits (s.get Reg.TLK_HIER_STAT_ATTACHED) n 1 = 0 then (s.gateEnd n 3 0x08000020).reply .refused 0x08000020
  else
    let data := if v = 2 then s.gates.data.at n else []
    let target := s.obj g 1
    let head := leBytes 4 s.gates.next ++ leBytes 1 v ++ leBytes 1 (s.slotRole slot) ++ leBytes 2 (bits target 8 16) ++
      leBytes 1 (bits target 0 8) ++ [0#8] ++ leBytes 2 data.length ++ leBytes 4 (s.obj g 3)
    let s := (s.gateEnd n 1 0).tlkSend n 3 (dictFlits head data)
    let q := s.gates
    let wait : GateRequest := ⟨n, q.next, s.now⟩
    { s with gates := { q with waiting := q.waiting ++ [wait], next := (q.next + 1) % 2 ^ 32 } }.reply .ok 0

/-- GATEWAY_TIMEOUT: no response within 50 ms. -/
def gateTimeout (s : State) (n : Nat) : State :=
  match s.gates.waiting.find? fun q => q.worker = n with
  | none => s
  | some q =>
    let s := s.reach (q.began + 10000000)
    let s : State := { s with gates := { s.gates with waiting := s.gates.waiting.filter fun x => x.worker != n } }
    (s.gateEnd n 3 0x05040000).log .tlk n 0x8205 srcManager

/-- A response to a gateway request; one to no request that waits is ignored. -/
def gateResponse (s : State) (n : Nat) (flits : List (List Byte)) : State :=
  let f := flits.headD []
  match s.gates.waiting.find? fun q => q.worker = n && q.id = flitLe f 0 4 with
  | none => s
  | some _ =>
    let ok := flitByte f 4 = 0
    let s : State := { s with gates := { s.gates with
      waiting := s.gates.waiting.filter fun x => x.worker != n
      data := if ok then s.gates.data.put n (dictData flits (min 240 (flitLe f 6 2))) else s.gates.data } }
    s.gateEnd n (if ok then 2 else 3) (flitLe f 8 4)

/-! Writing through the authorised path (R541, R572). -/

/-- Write the fields of an object through the authorised path, all of them or none (R570, R572). -/
def authObject (s : State) (slot index sub v : Nat) : List RF → State
  | [] => s.reply .ok 0
  | f :: l =>
    match s.authPut slot f.addr (setF (s.reg f.addr) f.lo f.len v) with
    | (s, .ok) => s.authObject slot index sub v l
    | (s, .accessError) => s.reply .accessError 0x08000022
    | (s, _) =>
      if 0x2700 ≤ index ∧ index < 0x2705 then s.conflict 0x14 index sub else s.outOfRange index sub

/-- DRIFT_RESET: drift used is reset in every pod that holds a projection, through the authorised path (R255, R256). -/
def driftReset (s : State) (slot proj : Nat) : State :=
  s.authObject slot 0x2524 5 0 ((s.holders proj).map fun x => Reg.DE_PL_DRIFT_USED_DRIFT x.1 x.2)

/-- An object of HUSK persistence that no register holds. -/
def authOwn (s : State) (slot index sub : Nat) (old new : List Byte) (f : State → State) : State :=
  if s.wiping then s.reply .accessError 0x08000022
  else ((f s).audit 1 slot (s.slotRole slot) (index + 65536 * sub) 0 (digest3 old) (digest3 new)).reply .ok 0

/-- The TPDOs that a channel's sink gives bytes to now and gave before follow what they hold (R577). -/
def sinkFollow (s : State) (old : State) (n : Nat) : State :=
  ([old, s].filterMap fun (x : State) =>
    if x.get (Reg.EGR_CH_CTRL_SINK n) = 1 then some (16 * (x.canBytes n).1 + (x.canBytes n).2.1) else none).foldl tpdoConfig s

/-- A write of a HUSK object. -/
def huskWrite (s : State) (slot index sub v : Nat) (old data : List Byte) : State :=
  let key := fun role => s.authOwn slot index sub old data fun s => s.onSec fun x => { x with
    keys := (x.keys.filter fun k => k.1 != role) ++ [(role, data)] }
  match index, sub with
  | 0x2003, 6 => key 1
  | 0x2003, 7 => key 2
  | _, _ =>
    match s.fieldsOf index sub (s.itemOf slot index sub) with
    | [] => s.authOwn slot index sub old data fun s => s.setObj index sub v
    | l =>
      let t := s.authObject slot index sub v l
      if index = 0x2701 ∧ sub ≤ 2 ∧ t.answered = 0 then t.sinkFollow s (s.itemOf slot index sub) else t

/-! Writing what a write commands. -/

/-- A login object (R540, R556). -/
def loginWrite (s : State) (slot sub v : Nat) (data : List Byte) : State :=
  let answer := fun (s : State) => if s.get Reg.SEC_LOGIN_STAT_STATUS = 0 then s.reply .ok 0 else s.reply .refused 0x08000022
  match sub with
  | 1 => answer (s.loginChallenge slot v)
  | 3 =>
    let role := ((s.sec.challenges.find? fun x => x.1 = slot).map (·.2.1)).getD 0
    let s := (List.range 3).foldl (fun s i =>
      s.setReg (Reg.SEC_LOGIN_RESP0 + 4 * i) (BitVec.ofNat 32 (ofLe ((data.drop (4 * i)).take 4)))) s
    answer (s.loginVerify slot role)
  | _ => ((s.endSession slot).loginStat .ok).reply .ok 0

/-- The status that the modulator queue gives a push; one too far ahead has reason code 0x0010 (R254). -/
def modAnswer (s : State) (x : State × Status) : State :=
  match x.2 with
  | .ok => x.1.reply .ok 0
  | .refused => s.outOfRange 0x2526 3
  | st => x.1.reply st 0x08000022

/-- Objects whose write of 1 commands something, and takes no other value; 0x2402:01 and :03 ignore other values instead (R56). -/
def goObject (index sub : Nat) : Bool :=
  [(0x2303, 1), (0x2303, 3), (0x2400, 4), (0x2406, 4), (0x2524, 5), (0x2B02, 1), (0x2B03, 4),
    (0x2004, 5)].contains (index, sub)

/-- What a write that commands something does; none for an object that holds a value. -/
def commandWrite (s : State) (slot index sub v : Nat) (data : List Byte) (offset : Option Nat) (image : ImageInfo)
    (saved : Bool) : Option State :=
  if goObject index sub ∧ v ≠ 1 then some (s.outOfRange index sub)
  else match index, sub with
  | 0x1003, 0 =>
    some (if v ≠ 0 then s.outOfRange 0x1003 0
      else ((List.range 17).foldl (fun s i => s.setObj 0x1003 i 0) s).reply .ok 0)
  | 0x1010, 1 => some (s.storeParams slot (BitVec.ofNat 32 v) saved)
  | 0x1011, 1 => some (s.restoreDefaults slot (BitVec.ofNat 32 v))
  | 0x2002, 2 => some (s.lifecycleRequest slot v)
  | 0x2002, 3 => some (s.lifecycleConfirm slot v)
  | 0x2004, n => some (s.loginWrite slot n v data)
  | 0x2100, 1 => some (s.powerRequest v (some slot))
  | 0x2110, 1 =>
    let r := s.halfReason (v = 1)
    some (if r ≠ 0 then s.turnDown r 0x2110 1 else (s.halfRequest (v = 1) false).reply .ok 0)
  | 0x2303, 1 => some (if s.busy 5 then s.conflict 0x17 0x2303 1 else (s.fullStart none).reply .ok 0)
  | 0x2303, 3 => some ((if s.busy 5 then s.progEnd 5 4 else s).reply .ok 0)
  | 0x2400, 3 => some (if v < 32 then s.loadFlash slot v image else s.outOfRange 0x2400 3)
  | 0x2400, 4 => some (s.imageUnload slot)
  | 0x2400, 8 => some (s.loadDram slot v image)
  | 0x2402, 1 =>
    some (if v ≠ 1 then s.reply .ok 0 else match s.commit with
      | (s, some (x, r)) => s.turnDown r x.index x.sub
      | (s, none) => s.reply .ok 0)
  | 0x2402, 3 => some ((if v = 1 then s.stageClear else s).reply .ok 0)
  | 0x2405, 1 =>
    some (if v = 1 then s.runObject slot
      else if s.joined then s.stepHalt.reply .refused 0x08000022 else s.stepHalt.reply .ok 0)
  | 0x2406, 4 => some (if s.joined then s.switchRequest.reply .refused 0x08000022 else s.switchRequest)
  | 0x2524, 5 => some (s.driftReset slot (s.selOf slot 3))
  | 0x2526, 3 => some (s.modAnswer (s.modPush ((s.obj 0x2526 1 : Int) - s.stepNum) (s.obj 0x2526 1)
      (s.get Reg.SYNC_MODQ_PUSH_HI_CH) v))
  | 0x2B02, 1 => some (if s.hang.isSome then s.conflict 0x17 0x2B02 1 else s.hangStart.reply .ok 0)
  | 0x2B03, n =>
    some (if n = 4 ∧ !(injectKinds (s.get Reg.DBG_INJ_TARGET_ID)).contains (s.get Reg.DBG_INJ_KIND_KIND) then
        s.conflict 0x2A 0x2B03 4
      else
        let (t, st) := s.authPut slot (Reg.DBG_INJ_TARGET + 4 * (n - 1)) (BitVec.ofNat 32 v)
        t.reply st (if st = .ok then 0 else 0x08000022))
  | 0x2C00, 4 => some (s.updateRole slot 4 (s.updateData offset data))
  | 0x2C00, 5 =>
    some (s.updateRole slot 5 (match v with
      | 1 => s.updateBegin
      | 2 => s.updateVerify
      | 3 => s.updateActivate
      | _ => s.updateAbort))
  | _, _ =>
    if 0x3000 ≤ index ∧ sub = 4 then some (s.gateExecute slot ((index - 0x3000) / 0x100) v)
    else if 0x3000 ≤ index ∧ sub = 2 then
      some ({ s with gates := { s.gates with data := s.gates.data.put ((index - 0x3000) / 0x100) data } }.reply .ok 0)
    else none

/-! PDO objects (R530, R574 to R577). -/

/-- Why a mapping of `k` entries is refused, as an SDO abort code; 0 for no reason. -/
def mapAbort (s : State) (tx : Bool) (p k : Nat) : Nat :=
  let ix := (if tx then 0x1A00 else 0x1600) + p
  let l := (List.range k).map fun i => let e := s.obj ix (i + 1); (bits e 16 16, bits e 8 8, bits e 0 8)
  let bad := fun (e : Nat × Nat × Nat) =>
    let (index, sub, len) := e
    if index = 5 ∨ index = 6 ∨ index = 7 then !(sub = 0 && len = 8 * 2 ^ (index - 5))
    else match ObjMap.rowOf index sub with
      | none => true
      | some r =>
        !([1, 2, 4, 8].contains r.size) || len != 8 * r.size || (selectorOf index sub).isSome ||
          selectorObjs.contains (index, sub) || decide (0x3000 ≤ index) || (0x2002 ≤ index && index ≤ 0x2004) ||
          (if tx then r.acc == .wo || decide (1 < r.role) else r.acc != .rw || r.role != 1)
  let entries := l.map fun e => (e.1, e.2.1, e.2.2 / 8)
  if l.any bad then 0x06040041
  else if 64 < (entries.map (·.2.2)).sum then 0x06040042
  else if tx && (placed 0 entries).any fun e =>
      !dummy e.2 && (s.ownedBytes p).any fun o => decide (e.1 < o.1 + o.2) && decide (o.1 < e.1 + e.2.2.2) then 0x06040043
  else 0

/-- Why a write of a PDO object is refused, as an SDO abort code; 0 for no reason. -/
def pdoAbort (s : State) (index sub v : Nat) : Nat :=
  let p := index % 0x20
  let tx := decide (0x1800 ≤ index)
  let on := s.pdoOn tx p
  let maps := index / 0x20 = 0xB0 ∨ index / 0x20 = 0xD0
  if s.canMode ≠ 0 ∧ 16 ≤ p then 0x08000022
  else if maps then
    let held := s.obj index 0
    if on then 0x08000022
    else if held ≠ 0 ∧ !(sub = 0 && v = 0) then 0x08000022
    else if sub = 0 then s.mapAbort tx p v else 0
  else if sub = 1 then (if on && decide (v % 2048 ≠ s.cobId tx p % 2048) then 0x08000022 else 0)
  else if sub = 2 then (if 240 < v ∧ v < 254 then 0x06090030 else 0)
  else 0

/-- A write of a PDO object; one of a TPDO that holds owned bytes passes the authorised path. -/
def pdoWrite (s : State) (slot index sub v : Nat) (old data : List Byte) : State :=
  let p := index % 0x20
  let abort := s.pdoAbort index sub v
  let owned := decide (0x1800 ≤ index) && !(s.ownedBytes p).isEmpty
  if abort = 0x06090030 then s.outOfRange index sub
  else if abort ≠ 0 then s.reply .refused abort
  else if owned ∧ s.wiping then s.reply .accessError 0x08000022
  else
    let s := if owned then
      s.audit 1 slot (s.slotRole slot) (Reg.CAN_TPDO_CFG (p / 16) (p % 16)) 0 (digest3 old) (digest3 data) else s
    ((s.objTake index sub 0 v).keepWrite index sub 0 v).reply .ok 0

/-! Writing a value. -/

/-- Why a value is refused beyond the checks of mode settings, 0 for no reason (R64, R464, R569, R629). -/
def valueReason (s : State) (slot index sub v : Nat) : Nat :=
  match selectorObjs.idxOf? (index, sub) with
  | some k => if s.itemExists k v then 0 else 0x10
  | none =>
    match index, sub with
    | 0x2110, 3 => s.clockReason 0 v
    | 0x2110, 4 => s.clockReason 1 v
    | 0x2704, 2 => if bits v 16 8 < 2 then 0x10 else 0
    | 0x2B00, 1 => if v = 2 ∧ s.slotRole slot < (if s.get Reg.SEC_LC_STATE = 0 then 3 else 2) then 0x0E else 0
    | _, _ => 0

/-- A value takes effect or is staged (R60, R65, R66, R69, R567). -/
def valueWrite (s : State) (slot index sub v : Nat) : State :=
  let item := s.itemOf slot index sub
  let r := s.valueReason slot index sub v
  if r ≠ 0 then s.turnDown r index sub
  else match selectorObjs.idxOf? (index, sub) with
  | some k => { s with selectors := s.selectors.put (8 * k + slot) v }.reply .ok 0
  | none =>
    let staged := s.running && stagePlace index sub v != 0
    let l := if staged then s.staging.writes else []
    let r := s.modeReason (s.withStaged l) l index sub item v
    if r ≠ 0 then s.turnDown r index sub
    else if staged then
      match s.stage ⟨index, sub, item, v⟩ with
      | some s => s.reply .ok 0
      | none => s.conflict 0x11 index sub
    else
      let t := (s.objTake index sub item v).keepWrite index sub item v
      let t := if index = 0x2704 then (t.gpiGate item).gpiGuard item else t
      t.reply .ok 0

/-! A write request (R559, R560). -/

/-- A write of an object on a slot, before its audit entry. `offset` is the mailbox's; `image` is what an image at the named
place says of itself; `saved` tells whether the flash takes a save. -/
def dictPut (s : State) (slot index sub : Nat) (data : List Byte) (offset : Option Nat) (image : ImageInfo) (saved : Bool) :
    State :=
  match ObjMap.rowOf index sub with
  | none => s.noObject index
  | some r =>
    let v := ofLe data
    let old := if r.acc = .wo then [] else s.objBytes slot index sub r.size
    let longOk := if index = 0x2004 then data.length = 10 else if index = 0x2003 then data.length = 32
      else if 0x3000 ≤ index then data.length ≤ 240 else true
    if s.slotRole slot < s.objRole r then s.lowRole index sub
    else if r.acc = .ro ∨ r.acc = .const then s.reply .refused 0x06010002
    else if (if r.size = 0 then !longOk else data.length != r.size) then s.reply .refused 0x06070010
    else if r.size ≠ 0 ∧ (v < r.least ∨ r.most < v) then s.outOfRange index sub
    else if !s.windowOk slot index sub then (s.refusal 0x1C index sub).reply .refused 0x08000024
    else match s.commandWrite slot index sub v data offset image saved with
      | some s => s
      | none =>
        if r.persist = .husk then s.huskWrite slot index sub v old data
        else if 0x1400 ≤ index ∧ index < 0x1C00 then s.pdoWrite slot index sub v old data
        else s.valueWrite slot index sub v

/-- The old value's bytes, as the audit entry digests them. -/
def oldBytes (s : State) (slot index sub : Nat) : List Byte :=
  match ObjMap.rowOf index sub with
  | some r => if r.acc = .wo then [] else s.objBytes slot index sub r.size
  | none => []

/-- A write request with its audit entry. -/
def dictWrite (s : State) (slot index sub : Nat) (data : List Byte) (offset : Option Nat) (image : ImageInfo) (saved : Bool) :
    State :=
  let old := s.oldBytes slot index sub
  (((s.useFree.useFree.touchSlot slot).dictPut slot index sub data offset image saved)).auditWrite slot index sub old data

/-! Requests in the form of the mailbox (R484, R510). -/

/-- The answer as a status, an abort code and data. -/
def answerBytes (s : State) : Nat × Nat × List Byte :=
  (s.answer.headD 0, (s.answer.drop 1).headD 0, (s.answer.drop 2).map (BitVec.ofNat 8))

/-- The login channel of a request form: the role of a challenge stands in the first data byte (R484, R538). -/
def serveLogin (s : State) (slot cmd : Nat) (data : List Byte) : State :=
  match cmd with
  | 3 =>
    let s := s.loginWrite slot 1 (ofLe (data.take 1)) []
    if s.answered = 0 then s.reply .ok 0 ((leBytes 8 (s.get64 Reg.SEC_LOGIN_CHAL_LO)).map (·.toNat)) else s
  | 4 => s.loginWrite slot 3 0 (data.take 10)
  | _ => s.loginWrite slot 5 1 []

/-- Serve a request: the state, the status, the abort code, the total length and the data of the response. An unknown command
is refused with an abort code that the spec does not give. -/
def serve (s : State) (slot cmd index sub len offset : Nat) (data : List Byte) (image : ImageInfo) (saved : Bool) :
    State × Nat × Nat × Nat × List Byte :=
  let s := s.touchSlot slot
  let cut := fun (s : State) =>
    let (st, abort, d) := s.answerBytes
    (s, st, abort, d.length, (d.drop offset).take (min 240 (if len = 0 then 240 else len)))
  let whole := fun (s : State) => let (st, abort, d) := s.answerBytes; (s, st, abort, d.length, d)
  match cmd with
  | 1 =>
    let s := s.dictRead slot index sub (if len = 0 then 240 else min 240 len)
    if index = 0x2010 ∧ sub = 3 then whole s else cut s
  | 2 => whole (s.dictWrite slot index sub (data.take len) (some offset) image saved)
  | 3 | 4 | 5 => whole (s.serveLogin slot cmd data)
  | _ => (s.useFree, Status.refused.code, s.nextFree 32, 0, [])

/-- A proxied request on a worker: ordinary objects take the stated role, the authorised path and a login do not (R510, R538). -/
def proxyServe (s : State) (flits : List (List Byte)) (image : ImageInfo) (saved : Bool) : State :=
  let f := flits.headD []
  let cmd := flitByte f 4
  let index := flitLe f 6 2
  let sub := flitByte f 8
  let len := flitLe f 10 2
  let husk := ((ObjMap.rowOf index sub).any fun r => r.persist = .husk) || (index = 0x2524 && sub = 5) ||
    (index = 0x2B03 && decide (sub ≤ 4))
  let keep := s.reg (Reg.SEC_SESS 5)
  let lent := cmd ≤ 2 ∧ !husk
  let s1 := if lent then s.setReg (Reg.SEC_SESS 5) (BitVec.ofNat 32 (flitByte f 5 % 4 + 4)) else s
  let (s2, st, abort, total, d) := s1.serve 5 cmd index sub len (flitLe f 12 4) (dictData flits (min 240 len)) image saved
  let s3 := if lent ∧ s2.flag (Reg.SEC_SESS_VALID 5) then s2.setReg (Reg.SEC_SESS 5) keep else s2
  let head := leBytes 4 (flitLe f 0 4) ++ leBytes 1 st ++ [0#8] ++ leBytes 2 d.length ++ leBytes 4 abort ++ leBytes 4 total
  s3.tlkSend (s.get Reg.TLK_HIER_CTRL_UPPORT) 3 (dictFlits head d)

/-- The first packet of a class that a port received and nothing has acted on. -/
def tlkFirst (s : State) (port cls : Nat) : Option (Nat × Nat × List (List Byte)) :=
  s.tlkIn.find? fun x => x.1 = port && x.2.1 = cls

/-- DICT_PROXY_RECEIVE: a worker serves a request, a manager takes a response. -/
def proxyTake (s : State) (port : Nat) (image : ImageInfo) (saved : Bool) : State :=
  match s.tlkFirst port 3 with
  | none => s
  | some x =>
    let s : State := { s with tlkIn := s.tlkIn.erase x }
    if s.role = 2 ∧ port = s.get Reg.TLK_HIER_CTRL_UPPORT then s.proxyServe x.2.2 image saved
    else s.gateResponse port x.2.2

end State

/-- DICT_READ (R559). -/
def execDictRead (slot : Fin 8) (index : Fin 65536) (sub : Fin 256) (len : Nat) (s : State) : Result :=
  s.done ((s.touchSlot slot.val).dictRead slot.val index.val sub.val len)

/-- DICT_WRITE (R559). -/
def execDictWrite (slot : Fin 8) (index : Fin 65536) (sub : Fin 256) (data : List Byte) (image : Option ImageInfo)
    (saved : Bool) (s : State) : Result :=
  s.done (s.dictWrite slot.val index.val sub.val data none (image.getD .blank) saved)

/-- DRIFT_RESET (R256): a write of 1 to 0x2524:05 on a slot. -/
def execDriftReset (slot : Fin 8) (s : State) : Result :=
  s.done (s.dictWrite slot.val 0x2524 5 [1] none .blank true)

/-- GATEWAY_EXECUTE (R523): a write of 0x3000 + 0x100 n, :04, on a slot. -/
def execGatewayExecute (slot : Fin 8) (worker : Fin 8) (value : Fin 256) (s : State) : Result :=
  s.done (((s.touchSlot slot.val).gateExecute slot.val worker.val value.val).auditWrite slot.val (State.gateOf worker.val) 4 []
    (leBytes 1 value.val))

/-- GATEWAY_TIMEOUT (R523). -/
def execGatewayTimeout (worker : Fin 8) (s : State) : Result := s.done (s.gateTimeout worker.val)

/-- DICT_PROXY_RECEIVE (R510). -/
def execDictProxyReceive (port : Fin 8) (image : Option ImageInfo) (saved : Bool) (s : State) : Result :=
  s.done (s.proxyTake port.val (image.getD .blank) saved)

end Sys2Proof.Machine
end

