-- ==== Sys2Proof/Machine/Field.lean ====
section
/-! DEFINITION. The CANopen FD node in firmware: received frames, NMT, SYNC, TIME, heartbeats, PDOs and the error register (R527
to R532, R574 to R579). Frame contents that CiA 1301 gives and the spec does not are PRESUMED (log entry 19). -/

namespace Sys2Proof.Machine

namespace State

/-- Change the CANopen FD layer. -/
def onField (s : State) (f : Field → Field) : State := { s with field := f s.field }

/-- A frame of the layer. -/
def fieldFrame (s : State) (id : Nat) (data : List Byte) : CanFrame :=
  ⟨id, false, s.flag (Reg.CAN_CTRL_FD_EN 0), s.flag (Reg.CAN_CTRL_BRS_EN 0), data⟩

/-! NMT (R529). -/

/-- Reset node and reset communication: the layer restarts, with its objects from the flash, and what R556 and R527 latch is
latched. -/
def communicationReset (s : State) : State :=
  let s := { s with nmt := 127, field := Field.empty }.recordReload
  { s with node := s.obj 0x2008 1, canMode := s.obj 0x2008 2, canStandby := false }

/-- An NMT command for this node or for all. -/
def nmtTake (s : State) (cmd node : Nat) : State :=
  if node ≠ 0 ∧ node ≠ s.nodeId then s
  else match cmd with
  | 1 => { s with nmt := 5 }
  | 2 => { s with nmt := 4 }
  | 128 => { s with nmt := 127 }
  | 129 => s.communicationReset
  | 130 => s.communicationReset
  | _ => s

/-! Process data. -/

/-- The bytes that a mapping's objects give a TPDO stand in its buffers, but for bytes that a channel owns (R531, R576,
R577). -/
def tpdoFill (s : State) (p : Nat) : State :=
  let l := (placed 0 (s.mapping true p)).filter fun e => !dummy e.2
  let write := fun (s : State) (c at_ : Nat) (bs : List Byte) =>
    let owned := fun (i : Nat) => (s.ownedBytes (16 * c + p % 16)).any fun o => decide (o.1 ≤ i) && decide (i < o.1 + o.2)
    ((bs.zipIdx at_).filter fun x => x.2 < 64 && !owned x.2).foldl (fun s x =>
      s.putByte (Reg.CAN_TPDO_BUF c (16 * (p % 16)) + x.2) x.1.toNat) s
  let bus := if s.canMode = 0 then [p / 16] else [0, 1]
  l.foldl (fun s e =>
    let bs := s.objBytes 0 e.2.1 e.2.2.1 e.2.2.2
    bus.foldl (fun s c => write s c e.1 bs) s.useFree.useFree) s

/-- Firmware triggers a TPDO of a bus (R532, R575). -/
def tpdoSend (s : State) (c n : Nat) : State := (s.tpdoFill (16 * c + n)).tpdoFire c n

/-- Write an object as an RPDO does, with the operator role (R530); a write that is refused leaves the object as it was. -/
def operatorWrite (s : State) (index sub : Nat) (data : List Byte) : State :=
  let keep := s.reg (Reg.SEC_SESS 0)
  (((s.setReg (Reg.SEC_SESS 0) 5#32).dictPut 0 index sub data none .blank true)).setReg (Reg.SEC_SESS 0) keep

/-- One object of an RPDO is written; its audit entry is shared for a second: the digests of the value before the first write and
of the value after the last (R530). -/
def rpdoObject (s : State) (p index sub : Nat) (data : List Byte) : State :=
  let obj := index + 65536 * sub
  let old := digest3 (s.objBytes 0 index sub data.length)
  let t := s.operatorWrite index sub data
  let new := digest3 (t.objBytes 0 index sub data.length)
  t.onField fun f =>
    if f.audits.any fun a => a.pdo = p && a.obj = obj then
      { f with audits := f.audits.map fun a => if a.pdo = p ∧ a.obj = obj then { a with new := new } else a }
    else { f with audits := f.audits ++ [⟨p, obj, old, new, s.now⟩] }

/-- The data of an RPDO reach the objects that it maps. -/
def rpdoApply (s : State) (p : Nat) (data : List Byte) : State :=
  let l := placed 0 (s.mapping false p)
  if data.length < (l.map fun e => e.2.2.2).sum then s
  else (l.filter fun e => !dummy e.2).foldl (fun s e => s.rpdoObject p e.2.1 e.2.2.1 ((data.drop e.1).take e.2.2.2)) s

/-- RPDO_AUDIT_FLUSH: the oldest shared entry is appended at the end of its second. -/
def auditFlush (s : State) : State :=
  match s.field.audits with
  | [] => s
  | a :: rest =>
    let s := (s.reach (a.began + 200000000)).onField fun f => { f with audits := rest }
    s.audit 0 0 1 a.obj 0 a.old a.new

/-- The RPDOs of a bus that take an identifier (R575). -/
def rpdosOf (s : State) (c id : Nat) : List Nat :=
  ((List.range 16).map (16 * c + ·)).filter fun p => s.pdoOn false p && s.cobId false p % 2048 = id

/-- A frame of an RPDO: at once, or with the next SYNC where its type is synchronous (R528, R575). -/
def rpdoTake (s : State) (p : Nat) (data : List Byte) : State :=
  if s.nmt ≠ 5 then s
  else if s.obj (0x1400 + s.pdoOf p) 2 ≤ 240 then s.onField fun f => { f with waiting := f.waiting.put p data }
  else s.rpdoApply p data

/-- A SYNC: waiting data take effect, and synchronous TPDOs count it (R528, R575). -/
def syncTake (s : State) : State :=
  let held := s.field.waiting
  let s := s.onField fun f => { f with waiting := [] }
  let s := held.foldl (fun s x => if s.nmt = 5 then s.rpdoApply x.1 x.2 else s) s
  ((List.range (if s.canMode = 0 then 32 else 16)).filter fun p => s.pdoOn true p).foldl (fun s p =>
    let type := s.obj (0x1800 + s.pdoOf p) 2
    if 240 < type ∨ s.nmt ≠ 5 then s
    else
      let n := s.field.syncs.at p + 1
      let s := s.onField fun f => { f with syncs := f.syncs.put p (if type ≤ n then 0 else n) }
      if type ≤ n then s.tpdoSend (p / 16) (p % 16) else s) s

/-! Received frames (R527, R528). -/

/-- The layer takes a data frame; none where it is no frame of the layer's. -/
def layerTake (s : State) (c : Nat) (f : CanFrame) : Option State :=
  let byte := fun i => (f.data.getD i 0).toNat
  if f.ide then none
  else if f.id = 0 then some (s.nmtTake (byte 0) (byte 1))
  else if f.id = s.obj 0x1005 0 % 2048 then some s.syncTake
  else if f.id = s.obj 0x1012 0 % 2048 then some { s with calendar := ofLe (f.data.take 8) }
  else if 0x700 < f.id ∧ f.id < 0x780 then
    some (s.onField fun x => { x with heard := x.heard.put (f.id - 0x700) (s.now + 1) })
  else match s.rpdosOf c f.id with
    | [] => none
    | l => some (l.foldl (fun s p => s.rpdoTake p f.data) s)

/-- CAN_FRAME_RECEIVE: a frame goes to the layer, or else to the receive buffer; a USDO request is among the latter, and the
dictionary server's own commands carry it (log entry 19). -/
def frameReceive (s : State) (c : Nat) (f : CanFrame) (remote : Bool) : State :=
  match s.canTake c f remote with
  | (s, false) => s
  | (s, true) => (s.layerTake (if s.canMode = 0 then c else 0) f).getD (s.rxStore c f)

/-! Heartbeats (R528, R573). -/

/-- HEARTBEAT_PRODUCE. -/
def heartbeat (s : State) : State :=
  if s.obj 0x1017 0 = 0 then s else s.canSend 0 (s.fieldFrame (0x700 + s.nodeId) [BitVec.ofNat 8 s.nmt])

/-- HEARTBEAT_CONSUMER_TIMEOUT: a watched node, and the slot that it holds as a client where it is one (R528, R537). -/
def nodeLost (s : State) (entry : Nat) (slot : Option Nat) : State :=
  let e := s.obj 0x1016 (entry + 1)
  let node := bits e 16 8
  let ms := bits e 0 16
  match s.field.heard.at node with
  | 0 => s
  | t + 1 =>
    if ms = 0 ∨ node = 0 then s
    else
      let s := (s.reach (t + 200000 * ms)).onField fun f => { f with heard := f.heard.put node 0 }
      let s := s.log .can 0 0x5803 srcManager node
      match slot with
      | some n => s.endSession n
      | none => s

end State

/-- CAN_FRAME_RECEIVE (R527). -/
def execCanFrameReceive (bus : Fin 2) (frame : CanFrame) (remote : Bool) (s : State) : Result :=
  s.done (s.frameReceive bus.val frame remote)

/-- TPDO_TRIGGER (R532): a write of CAN_TPDO_TRIG. -/
def execTpdoTrigger (bus : Fin 2) (tpdo : Fin 16) (s : State) : Result := s.done (s.tpdoSend bus.val tpdo.val)

/-- RPDO_AUDIT_FLUSH (R530). -/
def execRpdoAuditFlush (s : State) : Result := s.done s.auditFlush

/-- HEARTBEAT_PRODUCE (R528). -/
def execHeartbeatProduce (s : State) : Result := s.done s.heartbeat

/-- HEARTBEAT_CONSUMER_TIMEOUT (R528). -/
def execHeartbeatConsumerTimeout (entry : Fin 4) (slot : Option (Fin 4)) (s : State) : Result :=
  s.done (s.nodeLost entry.val (slot.map (·.val)))

/-- ERROR_REGISTER_CLEAR (R579). -/
def execErrorRegisterClear (bit : Fin 8) (s : State) : Result := s.done (s.errorClear bit.val)

end Sys2Proof.Machine
end

