-- ==== Sys2Proof/Machine/Timebase.lean ====
section
/-! DEFINITION. The timebase: loads, rate and slew codes, replicas and their compare (R76 to R80, R122). -/

namespace Sys2Proof.Machine

namespace State

/-- A signed 32-bit register. -/
def signedReg (s : State) (a w : Nat) : Int := sext w (s.reg a).toNat

/-- TB_CTRL.LOAD (R79). -/
def tbLoad (s : State) : State :=
  if s.running then s.put Reg.TB_STAT_CFG_ERR 1 else s.tbMove (s.get64 Reg.TB_SET_LO)

/-- Change the adjustment of the timebase. -/
def onRate (s : State) (f : Rate → Rate) : State := { s with tbRate := f s.tbRate }

/-- The normal ticks up to tick `k` pass. -/
def reachTick (s : State) (k : Int) : State := s.reach (k + s.tbRate.skew).toNat

/-- The first tick that may carry a skip or double code: 16 ticks after the last one (R78). -/
def codeFree (s : State) : Int := match s.tbRate.codeAt with
  | some k => k + 16
  | none => s.ticks

/-- A tick with a double code, which adds 2 to the counter and to every replica, or with a skip code, which adds 0
(R77, R78). -/
def tick (s : State) (double : Bool) : State :=
  let k := s.ticks
  (s.put64 Reg.TB_COUNT_LO (s.now + if double then 2 else 0)).onRate fun r =>
    { r with skew := r.skew + if double then 1 else -1, codeAt := some k }

/-- The accumulator of TB_RATE stands for the present tick; so it does before every change of TB_RATE (R78). -/
def rateFold (s : State) : State :=
  let k := s.ticks
  let v := s.signedReg Reg.TB_RATE 32
  s.onRate fun r => { r with acc := r.acc + v * (k - r.accAt), accAt := k }

/-- The skip or double code of a slew: 1,024 ticks after the one before (R78, log entry 139). -/
def slewCode (s : State) : State :=
  let v := s.signedReg Reg.TB_SLEW 16
  if v = 0 then s
  else
    let next := match s.tbRate.slewAt with
      | some k => k + 1024
      | none => s.ticks
    let s := s.reachTick (max next s.codeFree)
    let k := s.ticks
    ((s.tick (0 < v)).put ⟨Reg.TB_SLEW, 0, 16⟩ (toBits 16 (if 0 < v then v - 1 else v + 1))).onRate fun r =>
      { r with slewAt := some k }

/-- The skip or double code of the rate adjustment: on the tick whose share takes the accumulator to +1 or −1, once 16 ticks
have passed since the code before (R78, log entry 139). -/
def rateCode (s : State) : State :=
  let v := s.signedReg Reg.TB_RATE 32
  if v = 0 then s
  else
    let r := s.tbRate
    let need := if 0 < v then 2 ^ 40 - r.acc else 2 ^ 40 + r.acc
    let due := r.accAt + (need + v.natAbs - 1) / v.natAbs - 1
    let s := s.reachTick (max due s.codeFree)
    ((s.tick (0 < v)).rateFold).onRate fun r => { r with acc := if 0 < v then r.acc - 2 ^ 40 else r.acc + 2 ^ 40 }

/-- The next multiple of 65,536 counts. -/
def nextCompare (s : State) : Nat := (s.now / 65536 + 1) * 65536

/-- The compare of the replicas; those that differ are reloaded and counted (R80, R687). -/
def replicaCompare (s : State) (differs : List Nat) : State :=
  let s := s.reach s.nextCompare
  differs.foldl (fun s t =>
    let s := (s.count Reg.TB_STAT_MISMATCH_CNT).put Reg.TB_STAT_LAST_TILE t
    (s.log .tb 0 0x420A t).detect t (suspectId 0 t) .replica) s

/-- A tile's replica reaches TB_CMP (R122). -/
def compareFire (s : State) (t : Nat) : State :=
  if !s.flag (Reg.TB_CMP_CTRL_EN t) then s
  else ((s.reach (s.get64 (Reg.TB_CMP_LO t))).put (Reg.TB_CMP_CTRL_FIRED t) 1).raise (Reg.TB_CMP_CTRL t) 0

end State

/-- TB_LOAD (R79). -/
def execTbLoad (s : State) : Result := s.done s.tbLoad

/-- TB_SLEW_CODE (R78). -/
def execTbSlewCode (s : State) : Result := s.done s.slewCode

/-- TB_RATE_CODE (R78). -/
def execTbRateCode (s : State) : Result := s.done s.rateCode

/-- REPLICA_COMPARE (R80). -/
def execReplicaCompare (differs : List (Fin 1152)) (s : State) : Result := s.done (s.replicaCompare (differs.map (·.val)))

/-- TB_COMPARE_FIRE (R122). -/
def execTbCompareFire (tile : Fin 1152) (s : State) : Result := s.done (s.compareFire tile.val)

end Sys2Proof.Machine
end

