-- ==== Sys2Proof/Machine/Hierarchy.lean ====
section
/-! DEFINITION. Step control, the timebase and membership across the devices of a hierarchy (R511 to R519). -/

namespace Sys2Proof.Machine

namespace State

/-- The first SYNC packet of a type that waits at a port, and the state without it (R511). -/
def syncFirst (s : State) (port stype : Nat) : Option (List (List Byte) × State) :=
  let is := fun (y : Nat × Nat × List (List Byte)) => y.1 = port && y.2.1 = 5 && flitByte (y.2.2.getD 0 []) 0 = stype
  match s.tlkIn.find? is with
  | none => none
  | some y => some (y.2.2, { s with tlkIn := s.tlkIn.eraseP is })

/-- Act on the first SYNC packet of a type at a port, with its first data flit. -/
def onSync (s : State) (port stype : Nat) (act : State → List (List Byte) → List Byte → State) : State :=
  match s.syncFirst port stype with
  | none => s
  | some (fs, s') => act s' fs (fs.getD 0 [])

/-- The upstream port of a worker. -/
def upPort (s : State) : Nat := s.get Reg.TLK_HIER_CTRL_UPPORT

/-- Set a worker's hierarchy state (R491, R513). -/
def hierState (s : State) (v : Nat) : State := (s.put Reg.TLK_HIER_STAT_STATE v).msix 13

/-- The stretch of a step that is closed by force now (R94, R97). -/
def stretchNow (s : State) : Nat := if s.clock.policy = 1 then s.now - s.deadline else 0

/-! The worker's side (R512). -/

/-- Whether a worker's clock can take an ARM: it is between steps. -/
def armable (s : State) : Bool := s.role = 2 && (s.phase = 0 || s.phase = 4) &&
  (s.get Reg.TLK_HIER_STAT_STATE = 1 || s.get Reg.TLK_HIER_STAT_STATE = 3)

/-- The settings of an ARM in the step-clock registers. -/
def armWrite (s : State) (f : List Byte) : State :=
  let b := flitByte f 1
  let s := (s.put Reg.STEP_CTRL_POLICY (b % 4)).put Reg.STEP_CTRL_CATCHUP (b / 4 % 2)
  let s := (s.put Reg.STEP_DEADLINE_FRAC (flitLe f 2 2)).put Reg.STEP_PERIOD_P (flitLe f 4 4)
  let s := (s.put64 Reg.STEP_NUM_LO (flitLe f 8 8)).put64 Reg.STEP_NEXT_LAUNCH_LO (flitLe f 16 8)
  (s.put Reg.STEP_STRETCH_MAX_S (flitLe f 24 4)).put Reg.STEP_MIN_PERIOD_P (flitLe f 28 4)

/-- The first ARM after REJOIN joins the worker, with its window phase from the rejoin step (R518). -/
def rejoined (s : State) (step : Nat) : State :=
  if s.get Reg.TLK_HIER_STAT_STATE = 1 then s
  else ((s.put64 Reg.STEP_WIN_BASE_LO step).hierState 1).log .tlk s.upPort 0x8202 srcManager step

/-- ARM: the registers are written and the launch armed; a late one launches at once (R512, R518). -/
def syncArm (s : State) (port : Nat) : State :=
  if !s.armable then s
  else s.onSync port 1 fun s _ f =>
    let l := flitLe f 16 8
    let s := ((s.armWrite f).freshBase.rejoined (flitLe f 8 8)).put Reg.STEP_CTRL_RUN 1
    let s := ((s.setPhase (if s.phase = 0 then 1 else 4)).onClock fun c =>
      { c with armed := l, ready := true, halting := false }).placeHeld.switchSent
    if l < s.now then
      ((s.count (Reg.TLK_ARM_LATE_COUNT port)).log .tlk port 0x8206 srcManager (flitLe f 8 8)).put64
        Reg.STEP_NEXT_LAUNCH_LO s.now |>.launch
    else s

/-- WAVE: the worker answers with the device's own result for it (R511, R512). -/
def syncWave (s : State) (port : Nat) : State :=
  s.onSync port 2 fun s _ f =>
    if !s.joined ∨ s.phase ≠ 2 ∨ flitLe f 8 8 ≠ s.launched then s
    else
      let s := (List.range 72).foldl (fun s p => s.drainDead p) s
      let x := s.waveResult
      s.syncSend port [[3#8, BitVec.ofNat 8 (flitByte f 1), if x.2.2 then 1#8 else 0#8, 0#8] ++ leBytes 4 x.1 ++ leBytes 4 x.2.1 ++
        leBytes 4 0 ++ leBytes 8 s.launched]

/-- UPDATE: the worker's update broadcast, forced or not; one that is forced closes as forced even where the worker is
quiescent itself (R512, R519). -/
def syncUpdate (s : State) (port : Nat) : State :=
  s.onSync port 4 fun s _ f =>
    if !s.joined ∨ s.phase ≠ 2 ∨ flitLe f 8 8 ≠ s.launched then s
    else if flitByte f 1 % 2 = 1 then s.forceClose s.stretchNow
    else s.declareQuiescence

/-- A VOTE (R511, log entry 41). -/
def voteOut (s : State) (port reason : Nat) : State := s.syncSend port [[7#8] ++ leBytes 2 reason]

/-- SWITCH: the worker checks the switch as its own, holds it where it accepts, and votes; index 0xFF withdraws it
(R120, R511, log entry 41). -/
def syncSwitch (s : State) (port : Nat) : State :=
  s.onSync port 6 fun s _ f =>
    if flitByte f 1 = 0xFF then s.switchWithdraw
    else
      let w : Switch := ⟨flitByte f 1, flitByte f 2 % 2 = 1, flitLe f 8 8⟩
      let r := s.switchReason w.image
      if r ≠ 0 then (s.switchRefuse r).voteOut port r else (s.switchAccept w).voteOut port 0

/-- Why a worker isolates itself: 0 its upstream port stayed out of ACTIVE, 1 it came up with a new session, 2 no ARM came
after its close; the time at which that is so, or none where it is not (R516). -/
def isolateAt (s : State) (cause : Nat) : Option Nat :=
  let iso := 200 * s.get Reg.TLK_HIER_CTRL_ISO_US
  if s.role ≠ 2 ∨ !(s.get Reg.TLK_HIER_STAT_STATE = 1 ∨ s.get Reg.TLK_HIER_STAT_STATE = 3) then none
  else match cause with
    | 0 => if s.tlkState s.upPort = 4 then none else some ((s.tlkPort s.upPort).downSince + iso)
    | 1 => if s.tlkState s.upPort = 4 ∧ (s.tlkPort s.upPort).fresh then some s.now else none
    | _ => if s.joined ∧ s.phase = 4 ∧ !s.clock.ready then some (s.clock.closedAt + iso) else none

/-- A worker enters ISOLATED (R516). -/
def isolate (s : State) (cause : Nat) : State :=
  match s.isolateAt cause with
  | none => s
  | some t =>
    let s := ((s.reach t).hierState 2).log .tlk s.upPort 0x8201 srcManager cause
    let wait := s.phase = 4 && !s.clock.ready
    let s := if s.phase = 2 then s.forceClose s.stretchNow else s
    if s.flag Reg.TLK_HIER_CTRL_POLICY then s.stepHalt
    else if wait then s.afterClose false
    else s

/-! The manager's side (R512). -/

/-- RESULT: a worker's part of the wave in progress; of any other wave it is discarded (R512, R519). -/
def syncResult (s : State) (port : Nat) : State :=
  s.onSync port 3 fun s _ f =>
    match s.clock.wave with
    | none => s
    | some (n, e, r, idle, l) =>
      if flitByte f 1 ≠ n ∨ flitLe f 16 8 ≠ s.launched ∨ port ∉ l ∨ s.phase ≠ 2 then s
      else
        let e := (e + flitLe f 4 4) % 2 ^ 32
        let r := (r + flitLe f 8 4) % 2 ^ 32
        let idle := idle && flitByte f 2 % 2 = 1
        let l := l.filter (· != port)
        if l.isEmpty then s.waveEnd e r idle else s.onClock fun c => { c with wave := some (n, e, r, idle, l) }

/-- DONE: a worker's late drops and modulator sums count toward the close (R253, R512). -/
def syncDone (s : State) (port : Nat) : State :=
  s.onSync port 5 fun s fs f =>
    if port ∉ s.workers ∨ port ∈ s.clock.done ∨ flitLe f 8 8 ≠ s.launched ∨ s.phase ≠ 3 then s
    else
      let g := fs.getD 1 []
      let s := s.onClock fun c => { c with done := c.done ++ [port], lateSum := c.lateSum + flitLe f 16 4 }
      s.onDelivery fun q => { q with
        modSums := (List.range 8).foldl (fun m c => m.put c ((m.at c + flitLe g (4 * c) 4) % 2 ^ 32)) q.modSums }

/-- VOTE (R120, R511). -/
def syncVote (s : State) (port : Nat) : State := s.onSync port 7 fun s _ f => s.voteTake port (flitLe f 1 2)

/-- REJOIN: the worker is included from the next ARM (R518). -/
def syncRejoin (s : State) (port : Nat) : State :=
  s.onSync port 8 fun s _ _ =>
    if s.role ≠ 1 ∨ port ∈ s.clock.rejoining then s else s.onClock fun c => { c with rejoining := c.rejoining ++ [port] }

/-- The manager loses a worker: an open step closes by force, and the worker counts no more in waves, closes and votes
(R517). -/
def workerLost (s : State) (n : Nat) : State :=
  if n ∉ s.workers then s
  else
    let s := if s.tlkState n = 4 then s else s.reach ((s.tlkPort n).downSince + 200 * s.get Reg.TLK_HIER_CTRL_ISO_US)
    let s := ((s.put ⟨Reg.TLK_HIER_STAT, 8 + n, 1⟩ 0).msix 13).log .tlk n 0x8203 srcManager n
    let s := s.voteTake n 0
    if s.phase = 2 then s.forceClose s.stretchNow else s

/-! The timebase (R514, R515). -/

/-- A TIME flit: its type in byte 1, its one or two times in bytes 8 to 15 and 16 to 23 (log entry 46). -/
def timeFlit (s : State) (port kind a b : Nat) : State :=
  s.flitOut port ([6#8, BitVec.ofNat 8 kind] ++ List.replicate 6 0#8 ++ leBytes 8 a ++ leBytes 8 b)

/-- A manager port starts an exchange, every 65,536 counts (R514). -/
def timeStart (s : State) (port : Nat) : State :=
  if s.role ≠ 1 ∨ s.tlkState port ≠ 4 then s
  else
    let s := match (s.tlkPort port).stamps with
      | t :: _ => s.reach (t + 65536)
      | [] => s
    (s.timeFlit port 1 s.now 0).onTlk port fun x => { x with stamps := [s.now] }

/-- A worker whose port is ACTIVE and whose timebase is locked asks to join; its clock halts at the next close (R518). -/
def rejoin (s : State) : State :=
  let st := s.get Reg.TLK_HIER_STAT_STATE
  if s.role ≠ 2 ∨ st = 1 ∨ st = 3 ∨ s.tlkState s.upPort ≠ 4 ∨ !s.flag (Reg.TLK_STATUS_TB_LOCKED s.upPort) then s
  else
    let s := s.syncSend s.upPort [[8#8] ++ List.replicate 7 0#8 ++ leBytes 8 s.stepNum ++ [1#8]]
    let s := s.onTlk s.upPort fun x => { x with fresh := false }
    (s.hierState 3).stepHalt

/-- The worker acts on an offset; where another source disciplines its timebase, or none does, the offset moves no timebase
(R78, R515). -/
def discipline (s : State) (port : Nat) (t1 t2 t3 t4 : Nat) : State :=
  let delay : Int := (((t4 : Int) - t1) - ((t3 : Int) - t2)) / 2
  let off : Int := (t2 : Int) - t1 - delay
  let s := (s.put (Reg.TLK_TB_OFFSET_COUNTS port) (toBits 32 off)).put (Reg.TLK_TB_DELAY_COUNTS port) (toBits 16 delay)
  let s :=
    if s.get Reg.TB_CTRL_DISC ≠ 1 then s
    else if !s.running ∧ 2 < off.natAbs then s.tbMove (toBits 64 ((t1 : Int) + delay + ((s.now : Int) - t2)))
    else
      (s.rateFold.put ⟨Reg.TB_SLEW, 0, 16⟩ (toBits 16 (-off))).setReg Reg.TB_RATE
        (BitVec.ofNat 32 (toBits 32 (s.signedReg Reg.TB_RATE 32 - off * 2 ^ 21)))
  let good := if off.natAbs ≤ 2 then (s.tlkPort port).good + 1 else 0
  let s := s.onTlk port fun x => { x with good := good, stamps := [] }
  let s :=
    if 16 < off.natAbs then
      ((s.put (Reg.TLK_STATUS_TB_LOCKED port) 0).log .tlk port 0x8204 srcManager port).raise (Reg.TLK_INT_EN port) 3
    else if 8 ≤ good then s.put (Reg.TLK_STATUS_TB_LOCKED port) 1
    else s
  s.rejoin

/-- A TIME flit arrives: the worker stamps and replies, the manager stamps the reply, and the worker acts (R514). -/
def timeTake (s : State) (port : Nat) (f : List Byte) : State :=
  if flitCrc f ≠ flitLe f 30 2 then s.count (Reg.TLK_CRC_ERR_COUNT port)
  else if s.tlkState port ≠ 4 ∨ flitByte f 0 ≠ 6 then s
  else match s.role, flitByte f 1 with
    | 2, 1 =>
      (s.timeFlit port 2 s.now s.now).onTlk port fun x => { x with stamps := [flitLe f 8 8, s.now, s.now] }
    | 1, 2 => s.timeFlit port 3 s.now 0
    | 2, 3 => match (s.tlkPort port).stamps with
      | [t1, t2, t3] => s.discipline port t1 t2 t3 (flitLe f 8 8)
      | _ => s
    | _, _ => s

end State

/-- SYNC_ARM_RECEIVE (R512). -/
def execSyncArmReceive (port : Fin 8) (s : State) : Result := s.done (s.syncArm port.val)

/-- SYNC_WAVE_RECEIVE (R511). -/
def execSyncWaveReceive (port : Fin 8) (s : State) : Result := s.done (s.syncWave port.val)

/-- SYNC_RESULT_RECEIVE (R512). -/
def execSyncResultReceive (port : Fin 8) (s : State) : Result := s.done (s.syncResult port.val)

/-- SYNC_UPDATE_RECEIVE (R512). -/
def execSyncUpdateReceive (port : Fin 8) (s : State) : Result := s.done (s.syncUpdate port.val)

/-- SYNC_DONE_RECEIVE (R512). -/
def execSyncDoneReceive (port : Fin 8) (s : State) : Result := s.done (s.syncDone port.val)

/-- SYNC_SWITCH_RECEIVE (R511). -/
def execSyncSwitchReceive (port : Fin 8) (s : State) : Result := s.done (s.syncSwitch port.val)

/-- SYNC_VOTE_RECEIVE (R511). -/
def execSyncVoteReceive (port : Fin 8) (s : State) : Result := s.done (s.syncVote port.val)

/-- SYNC_REJOIN_RECEIVE (R518). -/
def execSyncRejoinReceive (port : Fin 8) (s : State) : Result := s.done (s.syncRejoin port.val)

/-- WORKER_ISOLATE (R516). -/
def execWorkerIsolate (cause : Fin 3) (s : State) : Result := s.done (s.isolate cause.val)

/-- WORKER_LOST (R517). -/
def execWorkerLost (worker : Fin 8) (s : State) : Result := s.done (s.workerLost worker.val)

/-- TIME_EXCHANGE_START (R514). -/
def execTimeExchangeStart (port : Fin 8) (s : State) : Result := s.done (s.timeStart port.val)

/-- TIME_FLIT_RECEIVE (R514). -/
def execTimeFlitReceive (port : Fin 8) (flit : List Byte) (s : State) : Result := s.done (s.timeTake port.val flit)

end Sys2Proof.Machine
end

