-- ==== Sys2Proof/Machine/Host.lean ====
section
/-! DEFINITION. The host interface beside its windows: the dictionary mailbox, the DMA channels, the output ring, and resets
of the PCIe endpoint (R482 to R491, R520). -/

namespace Sys2Proof.Machine

/-- The first address of the HOST_ block (R44). -/
abbrev hostBase : Nat := 0x1080000

namespace State

/-! The mailbox (R484). -/

/-- The response to a mailbox request. -/
def mailReply (s : State) (st abort total : Nat) (d : List Byte) : State :=
  let tag := s.rdBytes (hostBase + 0x400C) 4
  let s := s.wrBytes (hostBase + 0x4100) (leBytes 2 st ++ leBytes 2 d.length ++ leBytes 4 abort ++ leBytes 4 total ++ tag ++ d)
  ((s.put Reg.HOST_MBX_STAT_BUSY 0).put Reg.HOST_MBX_STAT_DONE 1).msix 8

/-- A host write that the busy mailbox discards (R484). -/
def mailOverrun (s : State) : State := (s.put Reg.HOST_MBX_STAT_OVERRUN 1).log .host 0 0x5703 srcManager

/-- MAILBOX_DOORBELL: the request is served as session slot 4's, and answered. A LEN above 240 is no request of R484 and is
served as 240. -/
def doorbell (s : State) (image : ImageInfo) (saved : Bool) : State :=
  if s.flag Reg.HOST_MBX_STAT_BUSY then s.mailOverrun
  else
    let m := hostBase + 0x4000
    let len := min 240 (s.rdLe (m + 6) 2)
    let (s, st, abort, total, d) := s.serve 4 (s.rdLe m 1) (s.rdLe (m + 2) 2) (s.rdLe (m + 4) 1) len (s.rdLe (m + 8) 4)
      (s.rdBytes (m + 0x10) len) image saved
    s.mailReply st abort total (d.take 240)

/-! DMA (R488 to R490). -/

/-- A DMA channel has a descriptor to execute. -/
def dmaActive (s : State) (c : Nat) : Bool :=
  s.flag (Reg.HOST_DMA_CTRL_EN c) && !s.flag (Reg.HOST_DMA_STATUS_HALTED c) &&
    decide (s.get (Reg.HOST_DMA_HEAD_IDX c) ≠ s.get (Reg.HOST_DMA_TAIL_IDX c))

/-- BUSY of a channel follows what it has to execute. -/
def dmaShow (s : State) (c : Nat) : State := s.put (Reg.HOST_DMA_STATUS_BUSY c) (if s.dmaActive c then 1 else 0)

/-- DMA_TAIL_WRITE: the descriptors up to the new TAIL are posted (R488). -/
def dmaTail (s : State) (c v : Nat) : State :=
  let len := max 1 (s.get (Reg.HOST_DMA_RING_LEN_N c))
  let n := (v + len - s.get (Reg.HOST_DMA_TAIL_IDX c) % len) % len
  { (s.put (Reg.HOST_DMA_TAIL_IDX c) v).dmaShow c with posted := s.posted ++ (if n = 0 then [] else [(c, n)]) }

/-- Some descriptor of another channel was posted before the next of channel `c` and has not completed (R488). -/
def dmaFenced (s : State) (c : Nat) : Bool :=
  (s.posted.any fun x => x.1 = c) && (s.posted.head?.map (·.1)) != some c

/-- The next descriptor of a channel completes. -/
def dmaTaken (s : State) (c : Nat) : State :=
  let own := fun (x : Nat × Nat) => decide (x.1 = c)
  { s with posted := match s.posted.find? own with
      | none => s.posted
      | some (_, n) =>
        let l := s.posted.takeWhile fun x => !own x
        let r := (s.posted.dropWhile fun x => !own x).drop 1
        if n ≤ 1 then l ++ r else l ++ (c, n - 1) :: r }

/-- DMA_RESUME (R489). -/
def dmaResume (s : State) (c : Nat) : State := (s.put (Reg.HOST_DMA_STATUS_HALTED c) 0).dmaShow c

/-- `n` bytes at `a` lie in DRAM that is mapped, or in general manager SRAM (R421, R488). -/
def dmaReach (s : State) (a n : Nat) : Bool :=
  (decide (0x400000 ≤ a) && decide (a + n ≤ 0x7C0000)) ||
    (decide (dramBase ≤ a) && decide (a + n ≤ 0x9000000000) && (List.range (n / 2 ^ 21 + 2)).all fun i =>
      let p := if i = 0 then a else (a / 2 ^ 21 + i) * 2 ^ 21
      decide (a + n ≤ p) || (s.dramAt p).isSome)

/-- Some burst of a DRAM range holds the poison pattern (R424). -/
def rangePoisoned (s : State) (a n : Nat) : Bool := s.memories.poison.any fun b => decide (b < a + n) && decide (a < b + 64)

/-- DMA_DESCRIPTOR_DONE: the descriptor at HEAD as the host holds it, the host bytes that it reads, and whether a completion
reported an error. Its STATUS goes back to host memory; an error halts the channel. One with FENCE has not started while a
descriptor posted before it is not complete, and so does not complete (R488, R489). -/
def dmaDone (s : State) (c : Nat) (ctrl len host dev : Nat) (data : List Byte) (bad : Bool) : State :=
  if !s.dmaActive c || (bits ctrl 2 1 = 1 && s.dmaFenced c) then s
  else
    let s := s.dmaTaken c
    let head := s.get (Reg.HOST_DMA_HEAD_IDX c)
    let ring := s.get64 (Reg.HOST_DMA_RING_LO c)
    let fits := decide (4 ≤ len) && decide (len ≤ 16777216) && decide (len % 4 = 0) && decide (host % 4 = 0) &&
      decide (dev % 4 = 0) && s.dmaReach dev len
    let out := bits ctrl 0 1 = 1
    let fail := bad || !fits || (out && s.rangePoisoned dev len)
    let s := if fail then s
      else if out then s.emitOut (.hostWrite host (s.rdBytes dev len))
      else s.wrBytes dev ((data ++ List.replicate len 0#8).take len)
    let st := if fail then Status.accessError.code else Status.ok.code
    let s := s.emitOut (.hostWrite (ring + 32 * head + 24) (leBytes 4 (2 ^ 31 + st)))
    let s := s.put (Reg.HOST_DMA_HEAD_IDX c) ((head + 1) % max 1 (s.get (Reg.HOST_DMA_RING_LEN_N c)))
    let s := s.count (Reg.HOST_DMA_DONE_COUNT c)
    let s := if fail then (s.put (Reg.HOST_DMA_STATUS_HALTED c) 1).log .host 0 0x5704 srcManager c else s
    let s := if fail || bits ctrl 1 1 = 1 then s.msix c else s
    s.dmaShow c

/-! The endpoint (R482, R483, R487). -/

/-- HOST_WIN_BASE_WRITE: a value above 448 is ignored (R482). -/
def hostWindow (s : State) (v : Nat) : State := if v ≤ 448 then s.put Reg.HOST_WIN_BASE_GIB v else s

/-- HOST_ORING_READ_WRITE: HOST_ORING_RD and EGR_HOST_PTR.RD are one field (R487). -/
def oringRead (s : State) (v : Nat) : State := (s.put Reg.HOST_ORING_RD_RD v).put Reg.EGR_HOST_PTR_RD v

/-- PCIE_RESET: 0 a Function Level Reset, 1 a hot reset, 2 the loss of the link. The endpoint's registers, the DMA channels
and the mailbox reset and its session ends; the channels read HALTED (R483, R537). -/
def pcieReset (s : State) (kind : Nat) : State :=
  let s := (List.range 8).foldl (fun s c =>
    let s := (List.range 8).foldl (fun s i => s.setReg (Reg.HOST_DMA_CTRL c + 4 * i) (RegMap.resetAt (Reg.HOST_DMA_CTRL c + 4 * i))) s
    s.put (Reg.HOST_DMA_STATUS_HALTED c) 1) s
  let keep := s.reg Reg.HOST_STATUS
  let s := s.setReg Reg.HOST_STATUS (if kind = 0 then setF keep 8 1 0 else 0)
  let s := ([Reg.HOST_WIN_BASE, Reg.HOST_IRQ_STAT, Reg.HOST_IRQ_MASK, Reg.HOST_MBX_STAT] ++
    (List.range 32).map Reg.HOST_IRQ_MAP).foldl (fun s a => s.setReg a (RegMap.resetAt a)) s
  let s := { s.clearMem (hostBase + 0x2000) (hostBase + 0x4200) with posted := [] }
  (s.endSession 4).log .host 0 0x5701 srcManager kind

/-- PCIE_LINK_UP (R520). -/
def pcieUp (s : State) (speed width : Nat) (bme : Bool) : State :=
  (((s.put Reg.HOST_STATUS_LINK_UP 1).put Reg.HOST_STATUS_SPEED speed).put Reg.HOST_STATUS_WIDTH width).put
    Reg.HOST_STATUS_BME (if bme then 1 else 0)

end State

/-- MAILBOX_DOORBELL (R484). -/
def execMailboxDoorbell (image : Option ImageInfo) (saved : Bool) (s : State) : Result :=
  s.done (s.doorbell (image.getD .blank) saved)

/-- DMA_TAIL_WRITE (R488). -/
def execDmaTailWrite (channel : Fin 8) (index : Fin 65536) (s : State) : Result := s.done (s.dmaTail channel.val index.val)

/-- DMA_DESCRIPTOR_DONE (R488, R489). -/
def execDmaDescriptorDone (channel : Fin 8) (ctrl length : Word) (host dev : BitVec 64) (data : List Byte) (error : Bool)
    (s : State) : Result :=
  s.done (s.dmaDone channel.val ctrl.toNat length.toNat host.toNat dev.toNat data error)

/-- DMA_RESUME (R489). -/
def execDmaResume (channel : Fin 8) (s : State) : Result := s.done (s.dmaResume channel.val)

/-- HOST_WIN_BASE_WRITE (R482). -/
def execHostWinBaseWrite (gib : Fin 512) (s : State) : Result := s.done (s.hostWindow gib.val)

/-- HOST_ORING_READ_WRITE (R487). -/
def execHostOringReadWrite (index : Fin 65536) (s : State) : Result := s.done (s.oringRead index.val)

/-- PCIE_RESET (R483). -/
def execPcieReset (kind : Fin 3) (s : State) : Result := s.done (s.pcieReset kind.val)

/-- PCIE_LINK_UP (R520). -/
def execPcieLinkUp (speed : Fin 5) (width : Fin 9) (bme : Bool) (s : State) : Result :=
  s.done (s.pcieUp speed.val width.val bme)

end Sys2Proof.Machine
end

