-- ==== Sys2Proof/Machine/Timer.lean ====
section
/-! DEFINITION. The timers (R673 to R679). -/

namespace Sys2Proof.Machine

/-- The address of capture register A or B of a timer. -/
def capAddr (t : Nat) (ofB : Bool) : Nat := if ofB then Reg.TMR_CAPB_LO t else Reg.TMR_CAPA_LO t

namespace State

/-- Change the timers. -/
def onTimers (s : State) (f : Timers → Timers) : State := { s with timers := f s.timers }

/-- A timer's count. -/
def tmrCount (s : State) (t : Nat) : Nat := s.get64 (Reg.TMR_CNT_LO t)

/-- The gate of a timer is open (R675). -/
def tmrGate (s : State) (t : Nat) : Bool :=
  let pin := s.flag (Reg.SEN_GPI_STAT_GATE (s.get (Reg.TMR_PIN_PIN t)))
  match s.get (Reg.TMR_CFG_GATE t) with
  | 0 => true
  | 1 => pin
  | 2 => s.flag (Reg.TMR_STATUS_RUN (s.get (Reg.TMR_TRIG_MASTER t)))
  | _ => !pin

/-- A capture into register A or B (R678). -/
def tmrCapture (s : State) (t : Nat) (b : Bool) : State :=
  let fresh := if b then Reg.TMR_STATUS_FRESH_B t else Reg.TMR_STATUS_FRESH_A t
  let cap := if b then Reg.TMR_STATUS_OVERCAP_B t else Reg.TMR_STATUS_OVERCAP_A t
  let s := if s.flag fresh then (s.put cap 1).raise (Reg.TMR_INT_EN t) 5 else s
  ((s.put64 (capAddr t b) (s.tmrCount t)).put fresh 1).raise (Reg.TMR_INT_EN t) (if b then 4 else 3)

/-- An event of a timer, 1 start, 2 CMP0, 3 CMP1, 4 wrap: flag and interrupt, slaves whose action falls due, and captures
that it feeds (R674, R677, R678). -/
def tmrRaise (s : State) (t ev : Nat) : State :=
  let s := if 2 ≤ ev then (s.put ⟨Reg.TMR_STATUS t, ev, 1⟩ 1).raise (Reg.TMR_INT_EN t) (ev - 2) else s
  let fed := (List.range 16).filter fun u => s.get (Reg.TMR_TRIG_MASTER u) = t && s.get (Reg.TMR_TRIG_MEVENT u) = ev
  s.onTimers fun m => { m with
    slaves := m.slaves ++ fed.filter fun u => s.get (Reg.TMR_TRIG_SLAVE u) != 0 && !m.slaves.contains u
    caps := m.caps ++ fed.flatMap fun u =>
      (if s.get (Reg.TMR_CAP_CFG_SRCA u) = 2 then [2 * u] else []) ++
        (if s.get (Reg.TMR_CAP_CFG_SRCB u) = 2 then [2 * u + 1] else []) }

/-- The compare events of a count that has become other than `old` (R674). -/
def tmrHits (s : State) (t old : Nat) : List Nat :=
  let c := s.tmrCount t
  if c = old then [] else
    (if c = s.get64 (Reg.TMR_CMP0_LO t) then [2] else []) ++ (if c = s.get64 (Reg.TMR_CMP1_LO t) then [3] else [])

/-- Stage 4 of a cycle: a count that was `old` is compared (R674). -/
def tmrCompare (s : State) (t old : Nat) : State := (s.tmrHits t old).foldl (fun s ev => s.tmrRaise t ev) s

/-- `k` counted events under a mode, from a count, the wraps so far, and whether a one-shot has reached its compare value: what
they become (R674). -/
def tmrSteps (mode cmp : Nat) : (k c wraps : Nat) → Bool → Nat × Nat × Bool
  | 0, c, w, hit => (c, w, hit)
  | k + 1, c, w, hit =>
    let turns := if mode = 1 then c = cmp else mode = 0 && c + 1 = 2 ^ 64
    let c' := if turns then 0 else (c + 1) % 2 ^ 64
    tmrSteps mode cmp k c' (if turns then w + 1 else w) (hit || (mode = 2 && c' = cmp))

/-- Stage 1 of a timer with `n` events of its source, its compare and wrap events, and its one-shot stop, which is stage 3's and
so leaves RUN to the gates of this stage: the state, the events it raised, and the timers to stop (R673, R674). -/
def tmrAdvance (s : State) (t n : Nat) : State × List Nat × List Nat :=
  if !s.flag (Reg.TMR_STATUS_RUN t) || !s.tmrGate t then (s, [], [])
  else
    let d := s.timers.div.at t + n
    let per := s.get (Reg.TMR_CFG_PRESCALE t) + 1
    let old := s.tmrCount t
    let x := tmrSteps (s.get (Reg.TMR_CFG_MODE t)) (s.get64 (Reg.TMR_CMP0_LO t)) (d / per) old 0 false
    let s := (s.onTimers fun m => { m with div := m.div.put t (d % per) }).put64 (Reg.TMR_CNT_LO t) x.1
    let s := if 0 < x.2.1 then s.tmrRaise t 4 else s
    (s.tmrCompare t old, s.tmrHits t old ++ List.replicate x.2.1 4, if x.2.2 then [t] else [])

/-- One cycle with `n` events of a timer's source, and the cascades they cause, in ascending timer number (R673, R674, R676). -/
def tmrEvents (s : State) (t n : Nat) : State :=
  let first := s.tmrAdvance t n
  let x := ((List.range 16).filter (t < ·)).foldl (fun (x : State × List (Nat × Nat) × List Nat) u =>
    let k := (x.2.1.filter fun e => e.1 = x.1.get (Reg.TMR_TRIG_MASTER u) && e.2 = x.1.get (Reg.TMR_TRIG_MEVENT u)).length
    if x.1.get (Reg.TMR_CFG_SRC u) = 3 ∧ 0 < k then
      let r := x.1.tmrAdvance u k
      (r.1, x.2.1 ++ r.2.1.map (u, ·), x.2.2 ++ r.2.2)
    else x) (first.1, first.2.1.map (t, ·), first.2.2)
  x.2.2.foldl (fun s u => s.put (Reg.TMR_STATUS_RUN u) 0) x.1

/-- A timer starts (R679), and the timers that cascade from its start count. -/
def tmrStart (s : State) (t : Nat) : State :=
  let s := (s.put (Reg.TMR_STATUS_RUN t) 1).tmrRaise t 1
  ((List.range 16).filter fun u => t < u && s.get (Reg.TMR_CFG_SRC u) = 3 && s.get (Reg.TMR_TRIG_MASTER u) = t &&
      s.get (Reg.TMR_TRIG_MEVENT u) = 1).foldl (fun s u => s.tmrEvents u 1) s

/-- A timer stops (R679). -/
def tmrStop (s : State) (t : Nat) : State := s.put (Reg.TMR_STATUS_RUN t) 0

/-- A timer's count becomes `v`, and is compared (R674, R679). -/
def tmrSet (s : State) (t v : Nat) : State := (s.put64 (Reg.TMR_CNT_LO t) v).tmrCompare t (s.tmrCount t)

/-- The action of a slave (R677). -/
def slaveAct (s : State) (t : Nat) : State :=
  if !s.timers.slaves.contains t then s
  else
    let s := s.onTimers fun m => { m with slaves := m.slaves.filter (· != t) }
    match s.get (Reg.TMR_TRIG_SLAVE t) with
    | 1 => s.tmrStart t
    | 2 => s.tmrStop t
    | 3 => s.tmrSet t 0
    | 4 => (s.tmrSet t 0).tmrStart t
    | 5 => s.tmrCapture t false
    | _ => s

/-- The source of a capture register. -/
def capSource (s : State) (t : Nat) (b : Bool) : Nat :=
  if b then s.get (Reg.TMR_CAP_CFG_SRCB t) else s.get (Reg.TMR_CAP_CFG_SRCA t)

/-- A capture from source 1 pin edge, 2 master event, 3 step launch (R678). -/
def capFrom (s : State) (t : Nat) (b : Bool) (source : Nat) : State :=
  if s.capSource t b ≠ source then s
  else if source = 2 then
    let k := 2 * t + if b then 1 else 0
    if s.timers.caps.contains k then (s.onTimers fun m => { m with caps := m.caps.filter (· != k) }).tmrCapture t b else s
  else s.tmrCapture t b

/-- The head of the chain a timer belongs to (R676). -/
def chainHead (s : State) : (fuel : Nat) → Nat → Nat
  | 0, t => t
  | n + 1, t => if s.get (Reg.TMR_CFG_SRC t) = 3 then s.chainHead n (s.get (Reg.TMR_TRIG_MASTER t)) else t

/-- A read of TMR_CNT_LO: of a head, every other member of its chain is copied into its TMR_SNAP (R676). -/
def headRead (s : State) (t : Nat) : State :=
  let s := if s.get (Reg.TMR_CFG_SRC t) = 3 then s
    else ((List.range 16).filter fun u => u != t && s.chainHead 16 u = t).foldl
      (fun s u => s.put64 (Reg.TMR_SNAP_LO u) (s.tmrCount u)) s
  s.latchLow (Reg.TMR_CNT_LO t)

/-- A read of TMR_CAPx_LO (R678). -/
def capRead (s : State) (t : Nat) (b : Bool) : State :=
  (s.latchLow (capAddr t b)).put (if b then Reg.TMR_STATUS_FRESH_B t else Reg.TMR_STATUS_FRESH_A t) 0

/-- A write of TMR_CFG, TMR_PIN or TMR_TRIG (R676, R679). -/
def tmrConfig (s : State) (t which : Nat) (v : Word) : State :=
  let a := [Reg.TMR_CFG t, Reg.TMR_PIN t, Reg.TMR_TRIG t].getD which 0
  let s' := s.writePlain a v
  let held := s.flag (Reg.TMR_STATUS_RUN t) && which != 2
  let breaks := which != 1 && s'.get (Reg.TMR_CFG_SRC t) = 3 && decide (t ≤ s'.get (Reg.TMR_TRIG_MASTER t))
  if held || breaks then s.put (Reg.TMR_STATUS_CFG_ERR t) 1 else s'

end State

/-- TIMER_COUNT_EVENT (R674). -/
def execTimerCountEvent (timer : Fin 16) (events : Fin 3) (s : State) : Result :=
  s.done (if s.get (Reg.TMR_CFG_SRC timer.val) = 3 then s else s.tmrEvents timer.val events.val)

/-- TIMER_START (R679). -/
def execTimerStart (timer : Fin 16) (s : State) : Result := s.done (s.tmrStart timer.val)

/-- TIMER_STOP (R679). -/
def execTimerStop (timer : Fin 16) (s : State) : Result := s.done (s.tmrStop timer.val)

/-- TIMER_RESET (R679). -/
def execTimerReset (timer : Fin 16) (s : State) : Result := s.done (s.tmrSet timer.val 0)

/-- TIMER_RESET_START (R679). -/
def execTimerResetStart (timer : Fin 16) (s : State) : Result := s.done ((s.tmrSet timer.val 0).tmrStart timer.val)

/-- TIMER_LOAD (R679). -/
def execTimerLoad (timer : Fin 16) (s : State) : Result :=
  s.done (s.tmrSet timer.val (s.get64 (Reg.TMR_LOAD_LO timer.val)))

/-- TIMER_CAPTURE: a capture register takes the CAPTURE command as its TMR_CAP_CFG names it (R678, R679). -/
def execTimerCapture (timer : Fin 16) (intoB : Bool) (s : State) : Result :=
  s.done (if s.capSource timer.val intoB = 4 then s.tmrCapture timer.val intoB else s)

/-- TIMER_SLAVE_ACTION (R677). -/
def execTimerSlaveAction (timer : Fin 16) (s : State) : Result := s.done (s.slaveAct timer.val)

/-- TIMER_CAPTURE_SOURCE (R678). -/
def execTimerCaptureSource (timer : Fin 16) (intoB : Bool) (source : Fin 3) (s : State) : Result :=
  s.done (s.capFrom timer.val intoB (source.val + 1))

/-- TIMER_HEAD_READ (R676). -/
def execTimerHeadRead (timer : Fin 16) (s : State) : Result := s.done (s.headRead timer.val)

/-- TIMER_CAPTURE_READ (R678). -/
def execTimerCaptureRead (timer : Fin 16) (ofB : Bool) (s : State) : Result := s.done (s.capRead timer.val ofB)

/-- TIMER_CONFIG_WRITE (R679). -/
def execTimerConfigWrite (timer : Fin 16) (which : Fin 3) (value : Word) (s : State) : Result :=
  s.done (s.tmrConfig timer.val which.val value)

end Sys2Proof.Machine
end

