-- ==== Sys2Proof/Machine/Registers.lean ====
section
/-! DEFINITION. Writes of registers: the fields of R10 and R16, the writes that a state of their block turns away, and the
writes that begin what a command of its own does. -/

namespace Sys2Proof.Machine

/-- Who sends an access: a hart of the manager complex with its mode, a tile control core, the host over PCIe, or JTAG. -/
inductive Sender where
  | hart (n : Fin 4) (machine : Bool)
  | tile
  | host
  | jtag
  deriving DecidableEq, Repr

/-- The hart that sends an access. -/
def Sender.hart? : Sender → Option (Fin 4)
  | .hart n _ => some n
  | _ => none

/-- The owner that a check unit records: a manager hart, else one that no job has (R670). -/
def Sender.owner : Sender → Nat
  | .hart n _ => n.val
  | _ => 5

/-- The number by which an event names who sent an access (log entry 47). -/
def Sender.code : Sender → Nat
  | .hart n _ => n.val
  | .tile => 4
  | .host => 5
  | .jtag => 6

namespace State

/-! Fields of the authorised-write path (R255, R436, R465, R531). -/

/-- A register's bytes in TPDO configurations: the TPDO of both buses that the register belongs to. -/
def tpdoOf (a : Nat) : Option Nat :=
  let o := a - 0x10A0000
  if 0x10A0000 ≤ a ∧ a < 0x10B0000 ∧ 0x400 ≤ o % 0x8000 ∧ o % 0x8000 < 0x500 ∧ o % 16 = 0 then
    some (16 * (o / 0x8000) + (o % 0x8000 - 0x400) / 16) else none

/-- The fields of a register that the path alone writes as the device stands: those of a TPDO's configuration only while some
byte of the TPDO is owned (R531). -/
def lockedFields (s : State) (a : Nat) : List FieldRow :=
  match tpdoOf a with
  | some p => if (s.ownedBytes p).isEmpty then [] else authFields a
  | none => authFields a

/-- A write by another path names a field of the authorised-write path: it would change it, or take its action, or the
register has no other field to write (log entry 48). -/
def crosses (s : State) (a : Nat) (w : Word) : Bool :=
  match RegMap.rowOf a with
  | none => false
  | some r =>
    let l := s.lockedFields a
    !l.isEmpty && ((r.fields.all fun f => l.contains f || f.acc = .ro) ||
      l.any fun f => if f.acc = .woAuth then getF w f.lo f.len != 0 else getF w f.lo f.len != getF (s.reg a) f.lo f.len)

/-- A plain write where fields of the path that are open take it as well. -/
def writeOpen (s : State) (a : Nat) (w : Word) : State :=
  match RegMap.rowOf a with
  | none => s
  | some r => s.setReg a (writeFields (r.fields.map fun f => if f.acc = .auth then { f with acc := .rw } else f) (fun _ => true)
      (s.reg a) w)

/-! The step clock and the timebase (R81 to R99, R512). -/

/-- A write of a step-clock setting that must leave the update reserve (R81, R93, R99). R99 bounds STEP_MIN_PERIOD where it
is written; a period written below it is taken as it stands (DESIGN CHOICE, log entry 140). -/
def stepSetting (s : State) (a : Nat) (w : Word) : State :=
  let t := s.writePlain a w
  let v := getF w 0 28
  let range :=
    if a = Reg.STEP_PERIOD then decide (2000 ≤ v) && decide (v ≤ 200000000)
    else if a = Reg.STEP_MIN_PERIOD then decide (2000 ≤ v) && decide (v ≤ s.get Reg.STEP_PERIOD_P)
    else true
  if range && t.reserveOk then t else s.put Reg.STEP_STATUS_CFG_ERR 1

/-- A write of STEP_CTRL: its settings, then RUN (R84, R85, R93, R123). -/
def stepCtrl (s : State) (w : Word) : State :=
  let p := getF w 1 2
  let moves := s.running && p ≤ 2 && (p = 2) != (s.ctrlPolicy = 2)
  let set := fun (both : Bool) => s.writeOnly Reg.STEP_CTRL w fun f =>
    f.lo != 0 && !(f.lo = 4 && s.running) && !(f.lo = 1 && (moves || !both)) && !(f.lo = 3 && !both)
  let t := set true
  let kept := t.ctrlPolicy = s.ctrlPolicy && t.flag Reg.STEP_CTRL_CATCHUP == s.flag Reg.STEP_CTRL_CATCHUP
  let ok := kept || t.reserveOk
  let t := if ok then t else set false
  let s := if moves || !ok then t.put Reg.STEP_STATUS_CFG_ERR 1 else t
  if getF w 0 1 = 0 then s.stepHalt else if s.running then s else s.runWrite

/-- The step clock block. -/
def writeStep (s : State) (a : Nat) (w : Word) : State :=
  if a = Reg.STEP_STATUS ∨ a = Reg.STEP_INT_EN then s.writePlain a w
  else if s.joined then s.put Reg.STEP_STATUS_CFG_ERR 1
  else if a = Reg.STEP_CTRL then
    let t := s.stepCtrl w
    t
  else if a = Reg.STEP_PERIOD ∨ a = Reg.STEP_DEADLINE ∨ a = Reg.STEP_MIN_PERIOD then s.stepSetting a w
  else if (a = Reg.STEP_NUM_LO ∨ a = Reg.STEP_NUM_HI) ∧ s.running then s
  else if a = Reg.STEP_SWITCH_CTRL then
    let s := s.writePlain a w
    if w.getLsbD 31 then s.switchRequest else s
  else s.writePlain a w

/-- The timebase block (R78, R79). -/
def writeTb (s : State) (a : Nat) (w : Word) : State :=
  let s := (if a = Reg.TB_RATE then s.rateFold else s).writePlain a w
  if a = Reg.TB_CTRL ∧ w.getLsbD 4 then s.tbLoad else s

/-! The sync tree (R254, R381 to R386, R661). -/

/-- A node's sync-tree registers, by offset. -/
def writeNode (s : State) (n a o : Nat) (w : Word) : State :=
  if o = 0x10 then s.memberWrite n false w
  else if o = 0x14 then s.memberWrite n true w
  else if o = 0x18 then s.arrive n (getF w 0 6)
  else if o = 0x100 then (if getF w 0 20 = 0xFFFFF then s else s.fileReport n (getF w 0 20))
  else s.writePlain a w

/-- The root's block. -/
def writeRoot (s : State) (a : Nat) (w : Word) : State :=
  let o := a - 0x1020000
  if 0x200 ≤ o ∧ o < 0x240 then s.redCfgWrite ((o - 0x200) / 4) w
  else if o = 0x300 then
    let s := s.writePlain a w
    if w.getLsbD 31 then s.put Reg.SYNC_FW_SWITCH_PEND 1 else s
  else if a = Reg.SYNC_MODQ_PUSH_HI then
    ((s.writePlain a w).modPush32 (s.get Reg.SYNC_MODQ_STEP_STEP) (getF w 0 3) (s.get Reg.SYNC_MODQ_PUSH_LO_VALUE)).1
  else s.writeNode 1152 a o w

/-! Scheduled mesh and stream engines (R320, R352, R354). -/

/-- The loader block. -/
def writeLoader (s : State) (a : Nat) (w : Word) : State :=
  let s' := s.writePlain a w
  if a = Reg.SCM_LD_CTRL then
    let s' := if w.getLsbD 0 then s'.checkStart else s'
    if w.getLsbD 1 then s'.swapRequest else s'
  else if Reg.SCM_CLASS 0 ≤ a ∧ a < Reg.SCM_CLASS 64 then s'.standbyWritten
  else s'

/-- Bits of a descriptor word that a write reaches while the step clock runs (R354). -/
def descMask (s : State) (q d word : Nat) : Word :=
  match s.cdClass q d, word with
  | 1, 1 => 0xFFFFFFFF
  | 3, 1 => 0xFFFF
  | 3, 2 => 0xFFFF
  | _, _ => 0

/-- A stream engine's block. -/
def writeStream (s : State) (a : Nat) (w : Word) : State :=
  let q := (a - 0x1040000) / 0x1000
  let o := a % 0x1000
  if o < 0x800 then s.writePlain a w
  else if !s.running then s.writePlain a w
  else
    let m := s.descMask q ((o - 0x800) / 32) (o % 32 / 4)
    let v := (w &&& m) ||| (s.reg a &&& ~~~ m)
    let s := s.writePlain a v
    if v = w then s else s.put (Reg.STR_STATUS_CFG_ERR q) 1

/-! DRAM (R425 to R427, R601, R602, R621). -/

/-- A DDR quad's block. -/
def writeDdr (s : State) (a : Nat) (w : Word) : State :=
  let u := (a - 0x1050000) / 0x4000
  let o := a % 0x4000
  if o = 0 then s.writeOnly a w fun f => f.lo = 0 || !s.flag (Reg.DDR_CTRL_EN u)
  else if o = 8 then
    let s := s.writePlain a w
    if w.getLsbD 16 then s.fullStart (some (Fin.ofNat 4 u)) else s
  else if a = Reg.DDR_MAP_CTRL 0 then (if w.getLsbD 0 then s.mapReform else s)
  else if 0x100 ≤ o ∧ o < 0x200 ∧ o % 0x40 = 0x20 then (if w.getLsbD 0 then s.subRetire (4 * u + (o - 0x100) / 0x40) else s)
  else if 0x2000 ≤ o ∧ o < 0x3000 ∧ o % 0x400 = 0 then
    let s' := s.writePlain a w
    if w.getLsbD 31 then s'.trainStep (4 * u + (o - 0x2000) / 0x400) (getF w 0 4) (s'.get (Reg.DDR_TRN_CTRL_RANK u ((o - 0x2000) / 0x400)))
    else s'
  else if 0x2000 ≤ o ∧ o < 0x3000 ∧ o % 0x400 = 8 then
    if w.getLsbD 31 then s.modeAccess (4 * u + (o - 0x2000) / 0x400) w else s.writePlain a w
  else if o = 0x3000 then
    let s := if w.getLsbD 1 then s.testAbort u else s
    if w.getLsbD 0 then s.testStart u w else s.writePlain a w
  else s.writePlain a w

/-! The I/O hub and the guard. -/

/-- The hub's block (R361, R439, R448, R461 to R463, R474, R599, R774). -/
def writeHub (s : State) (a : Nat) (w : Word) : State :=
  let o := a - 0x1060000
  if a = Reg.SEN_CTRL then s.hubWrite w
  else if 0x1000 ≤ o ∧ o < 0x2000 then
    let n := (o - 0x1000) / 0x80
    if o % 0x80 = 0 then (if w.getLsbD 0 then s.ctxEnable n w else s.ctxDisable n w)
    else if o % 0x80 = 4 ∧ s.flag (Reg.SEN_CTX_CTRL_EN n) then s.put Reg.SEN_STATUS_CFG_ERR 1
    else s.writePlain a w
  else if 0x4000 ≤ o ∧ o < 0x5000 then
    let k := (o - 0x4000) / 0x100
    if o % 0x100 = 0 then
      let was := s.flag (Reg.SEN_SEL_CTRL_EN k)
      let s := s.writePlain a w
      let s := if w.getLsbD 0 then (if was ∧ s.selState k ≠ 0 then s else s.selEnable k)
        else if was then s.put (Reg.SEN_SEL_STATUS_STATE k) 0 else s
      let s := if w.getLsbD 2 then
        (if s.selState k = 0 then s.selAlign k else if s.selState k = 3 then s.selRetrain k else s) else s
      if w.getLsbD 3 then s.selPost k 4 [] else s
    else if o % 0x100 = 0x60 then (if w.getLsbD 8 then s.selCommand k (getF w 0 4) else s.writePlain a w)
    else s.writePlain a w
  else if 0x5000 ≤ o ∧ o < 0x5200 then (((s.writePlain a w).gpiGate ((o - 0x5000) / 16)).gpiGuard ((o - 0x5000) / 16))
  else if 0x6000 ≤ o ∧ o < 0x8000 ∧ s.running then s.put Reg.SEN_STATUS_CFG_ERR 1
  else s.writePlain a w

/-- The guard's block beside its bounds (R466, R468, R475, R487). -/
def writeGuard (s : State) (a : Nat) (w : Word) : State :=
  let o := a - 0x1070000
  if a = Reg.EGR_FORCE then s.forceSafe none (w.getLsbD 0)
  else if a = Reg.EGR_HOST_PTR then s.oringRead (getF w 16 16)
  else if 0x1000 ≤ o ∧ o < 0x2000 then
    let n := (o - 0x1000) / 0x40
    if o % 0x40 = 0 then s.forceSafe (some n) (w.getLsbD 16)
    else if o % 0x40 = 0x20 then s.guardValue n w.toInt
    else s.writePlain a w
  else s.writePlain a w

/-! Host interface, Tierlink, CAN. -/

/-- The HOST_ block's registers (R482 to R491). -/
def writeHost (s : State) (src : Sender) (a : Nat) (w : Word) : State :=
  let o := a - hostBase
  if a = Reg.HOST_CTRL then
    match src with
    | .hart _ _ => s.setReg a (w &&& 3)
    | _ => s
  else if a = Reg.HOST_WIN_BASE then s.hostWindow (getF w 0 9)
  else if a = Reg.HOST_ORING_RD then s.oringRead (getF w 0 16)
  else if 0x100 ≤ o ∧ o < 0x300 then
    let c := (o - 0x100) / 0x40
    if o % 0x40 = 0 then
      let s := s.writePlain a w
      if w.getLsbD 1 then s.dmaResume c else s.dmaShow c
    else if o % 0x40 = 0x18 then s.dmaTail c (getF w 0 16)
    else s.writePlain a w
  else if a = Reg.HOST_MBX_DOORBELL then (if w.getLsbD 0 then s.doorbell .blank true else s)
  else s.writePlain a w

/-- The forwarding table of nine ingresses lies in the general region of the manager SRAM (R507, R773). -/
def fwdFits (offset : Nat) : Bool := decide (offset % 2 ^ 22 + 9 * 4096 * 8 ≤ 0x3C0000)

/-- A Tierlink port's block; LANE_MASK takes a pair of lanes or all four (R502 to R505, R521). -/
def writeTlk (s : State) (a : Nat) (w : Word) : State :=
  let n := (a - 0x1090000) / 0x2000
  if (a - 0x1090000) % 0x2000 = 0 then
    let mask := getF w 4 4
    let s := s.writeOnly a w fun f => f.lo != 0 && (f.lo != 4 || mask = 3 || mask = 12 || mask = 15)
    let s := if w.getLsbD 0 then s.tlkEnable n else if s.role = 0 then s else s.put (Reg.TLK_CTRL_EN n) 0
    let s := if w.getLsbD 1 then
      (match s.tlkState n with
        | 0 => if s.flag (Reg.TLK_CTRL_EN n) then s.tlkLock n else s
        | 6 => s
        | _ => s.tlkRetrain n) else s
    if w.getLsbD 2 then s.sleepReq n else s
  else if a = Reg.TLK_FWD_BASE then (if s.running ∨ getF w 0 12 ≠ 0 ∨ !fwdFits (getF w 0 32) then s else s.writePlain a w)
  else s.writePlain a w

/-- A CAN controller's block (R525 to R533, R554). -/
def writeCan (s : State) (a : Nat) (w : Word) : State :=
  let c := (a - 0x10A0000) / 0x8000
  let o := (a - 0x10A0000) % 0x8000
  if o = 0 then
    let s := s.writePlain a w
    if w.getLsbD 0 then (if s.get (Reg.CAN_STATUS_STATE c) = 3 then (s.canState c 0).canPump c else s) else s.canState c 3
  else if 8 ≤ o ∧ o ≤ 0x10 ∧ s.flag (Reg.CAN_CTRL_EN c) then s
  else if o = 0x148 then (if w.getLsbD 31 then s.canRaw c (getF w 0 2) else s)
  else if o = 0x250 then (if w.getLsbD 0 then s.canPop c else s)
  else if 0x400 ≤ o ∧ o < 0x500 ∧ o % 16 = 4 then (if w.getLsbD 0 then s.tpdoSend c ((o - 0x400) / 16) else s)
  else if 0x400 ≤ o ∧ o < 0x500 ∧ o % 16 = 0 then
    (if (s.lockedFields a).isEmpty then s.writeOpen a w else s)
  else if 0x800 ≤ o ∧ o < 0xC00 then
    let p := 16 * c + (o - 0x800) / 64
    let owned := fun (i : Nat) => (s.ownedBytes p).any fun x => decide (x.1 ≤ o % 64 + i) && decide (o % 64 + i < x.1 + x.2)
    let v := (List.range 4).foldl (fun v i => if owned i then setF v (8 * i) 8 (getF (s.reg a) (8 * i) 8) else v) w
    s.writePlain a v
  else s.writePlain a w

/-! Power, check units, timers, fault control, debug. -/

/-- The power block (R626 to R632). -/
def writePower (s : State) (a : Nat) (w : Word) : State :=
  if a = Reg.PWR_CTRL then s.powerRequest (getF w 0 2) none
  else if a = Reg.PWR_HALF_CTRL then s.halfRequest (w.getLsbD 0) true
  else if a = Reg.PWR_CLK_W then s.clockWrite 0 (getF w 0 10) true
  else if a = Reg.PWR_CLK_E then s.clockWrite 1 (getF w 0 10) true
  else if a = Reg.PWR_PMB_CMD then (if w.getLsbD 31 then s.pmbRaw w else s)
  else s.writePlain a w

/-- A check unit's block (R668 to R672). -/
def writeChk (s : State) (src : Sender) (a : Nat) (w : Word) : State :=
  let u := (a - 0x10C0000) / 0x2000
  let o := (a - 0x10C0000) % 0x2000
  if o = 4 then
    let s := if w.getLsbD 0 then s.chkStart u src.owner else s
    if w.getLsbD 1 then s.chkAbort u src.owner else s
  else if s.flag (Reg.CHK_STATUS_BUSY u) ∧ o ≠ 8 ∧ (o < 0x28 ∨ o = 0x2C ∨ 0x100 ≤ o) then s.chkIgnored u
  else if o = 0 then s.writeOnly a w fun f => !(f.lo = 0 && 4 ≤ getF w 0 3 && getF w 0 3 ≤ 6)
  else
    let s := s.writePlain a w
    if 0x100 ≤ o ∧ o < 0x140 ∧ o % 16 = 8 ∧ w.getLsbD 31 then s.put (Reg.CHK_PROF_CNT_VALID u ((o - 0x100) / 16)) 0 else s

/-- A timer's block (R673 to R679). -/
def writeTimer (s : State) (a : Nat) (w : Word) : State :=
  let t := (a - 0x10D0000) / 0x1000
  match a % 0x1000 with
  | 0x00 => s.tmrConfig t 0 w
  | 0x08 => s.tmrConfig t 1 w
  | 0x04 => s.tmrConfig t 2 w
  | 0x10 =>
    match getF w 0 3 with
    | 1 => s.tmrStart t
    | 2 => s.tmrStop t
    | 3 => s.tmrSet t 0
    | 4 => (s.tmrSet t 0).tmrStart t
    | 5 => s.tmrSet t (s.get64 (Reg.TMR_LOAD_LO t))
    | 6 => if s.capSource t (w.getLsbD 8) = 4 then s.tmrCapture t (w.getLsbD 8) else s
    | _ => s
  | _ => s.writePlain a w

/-- The global fault block (R594, R680, R695, R702, R709, R710). -/
def writeFault (s : State) (src : Sender) (a : Nat) (w : Word) : State :=
  if Reg.FLT_FENCE 0 ≤ a ∧ a < Reg.FLT_FENCE 36 then s.fenceWrite ((a - Reg.FLT_FENCE 0) / 4) w
  else if a = Reg.FLT_REMAP_CTRL then
    (if w.getLsbD 31 then s.remapStart (some (getF w 0 10)) else s.writePlain a w)
  else if a = Reg.FLT_BIST_CTRL then (if w.getLsbD 0 then s.bistStart else s)
  else if a = Reg.FLT_WDOG_KICK then s.kickWrite src.hart? w
  else if a = Reg.FLT_LOG_APP7 then (if w.getLsbD 0 then s.firmwareAppend else s)
  else if a = Reg.FLT_LOG_LEN ∧ s.fault.held ≠ 0 then s
  else if a = Reg.FLT_LOG_BASE then
    (if 0x300000 ≤ getF w 0 22 ∧ getF w 0 22 < 0x3C0000 then s.writePlain a w else s)
  else s.writePlain a w

/-- The debug block (R724, R739). -/
def writeDebug (s : State) (a : Nat) (w : Word) : State :=
  if a = Reg.DBG_TRC_LEN ∧ s.get Reg.DBG_STATUS_LEVEL = 2 then s else s.writePlain a w

/-- The security block (R416, R540, R543, R549, R600, R656, R659). -/
def writeSecurity (s : State) (src : Sender) (a : Nat) (w : Word) : State :=
  if a = Reg.SEC_SEAL_CTRL then (if w.getLsbD 0 then s.sealRequest else s)
  else if a = Reg.SEC_TRAIN_CTRL then
    let s := if w.getLsbD 0 then (s.trainSeal (s.nextFree 16)).useFree else s
    if w.getLsbD 1 then s.put Reg.SEC_TRAIN_CTRL_VALID (if s.trainTagOk then 1 else 0) else s
  else if a = Reg.SEC_LOGIN_CTRL then
    match getF w 8 2 with
    | 1 => s.loginChallenge (getF w 0 3) (getF w 4 2)
    | 2 => s.loginVerify (getF w 0 3) (getF w 4 2)
    | 3 => (s.endSession (getF w 0 3)).loginStat .ok
    | _ => s
  else if a = Reg.SEC_AUTH_GO then
    let s := s.writePlain a w
    if w.getLsbD 8 then s.authGo (getF w 0 3) else s
  else if a = Reg.SEC_AUDIT_APP3 then s.auditAppend w
  else if a = Reg.SEC_FW_CTRL then
    if !w.getLsbD 31 then s
    else match getF w 0 3 with
      | 1 => s.fwCommand src.hart? 1 s.regionChecked State.activate
      | 2 => s.fwConfirm src.hart?
      | 3 => (s.fwCommand src.hart? 3 (s.flag Reg.SEC_FW_STAT_PREV_VALID) fun s => s.fallback 3).fellBack s
      | 4 => s.fwCommand src.hart? 4 (!s.trial) State.openInactive
      | 5 => s.fwCommand src.hart? 5 (s.flag Reg.SEC_FW_STAT_STBY_RUN) State.swapSend
      | _ => s
  else if a = Reg.SEC_FW_HREC then
    (if getF w 0 6 = 0 ∧ 0x300000 ≤ getF w 0 24 ∧ getF w 0 24 < 0x3C0000 then s.writePlain a w else s)
  else if a = Reg.SEC_SIG_CTRL then (if w.getLsbD 31 then s.sigStart (getF w 0 1) else s.writePlain a w)
  else s.writePlain a w

/-! Queue units, tiles and pods. -/

/-- A command of Q_CMD (R362). -/
def queueCommand (s : State) (u op i : Nat) : State :=
  match op with
  | 1 => s.openRx u i
  | 2 => s.resetRx u i
  | 3 => s.closeQueue u i
  | 4 => s.openTx u i
  | 5 => s.ackEpoch u i
  | _ => s.qResult u .refused

/-- A descriptor word: an open descriptor ignores it while the step clock runs (R361). -/
def qDescWrite (s : State) (u i a : Nat) (w : Word) : State :=
  if s.running ∧ s.qMode u i ≠ 0 then s.put (qr u (Reg.Q_STATUS_CFG_ERR u)) 1
  else ((s.writePlain a w).qShape u i).qReady u i

/-- A queue unit's control registers by offset (R362 to R368, R611, R613, R660). -/
def writeQueue (s : State) (u a o : Nat) (w : Word) : State :=
  if o = 8 then s.queueCommand u (getF w 0 3) (getF w 16 10)
  else if o = 0x20 then s.queueSend u (getF w 0 10)
  else if o = 0x28 then s.queuePop u (getF w 0 10) (getF w 16 12)
  else if o = 0x600 ∧ u < 1152 then
    let keepHalf := s.fault.cores.any (·.1 = u) && decide (getF w 3 1 = s.get (Reg.Q_FW_STAT_ACTIVE_HALF u))
    let s := s.writeOnly a w fun f => !(f.lo = 3 && keepHalf)
    let s := if w.getLsbD 1 then s.fwReport u else s
    if w.getLsbD 2 then s.fwRelease u else s
  else s.writePlain a w

/-- A register of a tile window. -/
def writeTile (s : State) (a : Nat) (w : Word) : State :=
  let t := (a - 0x100000000) / 0x40000
  let o := (a - 0x100000000) % 0x40000
  if o = 0x30008 then s.windowWrite t w
  else if o = 0x31800 then (s.writePlain a w).thrCleared t
  else if 0x31000 ≤ o ∧ o < 0x31800 then
    let n := (o - 0x31000) / 64
    if o % 64 = 0 then s.ctrlWrite t n w else s.ctxWrite t n (o % 64) w
  else if o = 0x31824 then s.mcWrite t w.toNat false
  else if o = 0x3182C then s.spillWrite t false w.toNat
  else if o = 0x31830 then s.spillWrite t true w.toNat
  else if 0x32800 ≤ o ∧ o < 0x33000 then s.writeNode t a (o - 0x32800) w
  else if 0x33000 ≤ o ∧ o < 0x33800 then s.writeQueue t a (o - 0x33000) w
  else if 0x38000 ≤ o ∧ o < 0x3C000 then s.qDescWrite t ((o - 0x38000) / 16) a w
  else if o = 0x33880 then (if w.getLsbD 0 then s.opsClear t else s)
  else if o = 0x3390C then s.waitDeclare t w
  else if o = 0x34600 then
    let s := s.writePlain a w
    if w.getLsbD 1 then (List.range 40).foldl (fun s i => s.setReg (Reg.DBG_CONF t i) 0) s else s
  else if 0x36000 ≤ o ∧ o < 0x37000 then (s.writePlain a w).standbyWritten
  else s.writePlain a w

/-- A register of a pod window. -/
def writePod (s : State) (a : Nat) (w : Word) : State :=
  let p := (a - 0x180000000) / 0x100000
  let o := (a - 0x180000000) % 0x100000
  if 0x81100 ≤ o ∧ o < 0x81200 then s.projCtrlWrite p ((o - 0x81100) / 4) w
  else if 0x81300 ≤ o ∧ o < 0x81400 then s.plCtrlWrite p ((o - 0x81300) / 4) w
  else if 0x80800 ≤ o ∧ o < 0x81000 ∧ s.running then s
  else if o = 0x80000 then
    let s := s.writePlain a w
    if w.getLsbD 1 then (List.range 304).foldl (fun s i => s.setReg (Reg.POD_CONF p i) 0) s else s
  else if 0x82800 ≤ o ∧ o < 0x83000 ∧ o % 32 = 0 then s.writeOnly a w fun f => !(f.lo = 0 && s.running)
  else s.writePlain a w

/-! Every register. -/

/-- The unit whose multiples alone a register takes, 1 where it takes any value. A channel's base is an offset of any kind where
it stages (R218, R352, R474, R520, R712, R739, log entry 176). -/
def writeUnit (s : State) (a : Nat) : Nat :=
  if 0x180000000 ≤ a then
    let p := (a - 0x180000000) / 0x100000
    let o := (a - 0x180000000) % 0x100000
    let ch := (o - 0x82800) / 32
    if o < 0x82800 ∨ 0x83000 ≤ o then 1
    else if o % 32 = 0x0C ∨ (o % 32 = 8 ∧ s.get (Reg.SCM_CH_CFG_MODE p ch) ≠ 3) then 64 else 1
  else if 0x100000000 ≤ a then
    (if (a - 0x100000000) % 0x40000 = 0x30808 ∨ (a - 0x100000000) % 0x40000 = 0x33884 then 16 else 1)
  else if a = Reg.SEN_CAP_BASE_LO ∨ a = Reg.DBG_TRC_BASE_LO ∨ a = Reg.FLT_SB_LEN ∨ a = Reg.FLT_CKPT_STRIDE then 64
  else if a = Reg.FLT_LOG_BASE ∨ (Reg.HOST_DMA_RING_LO 0 ≤ a ∧ a < Reg.HOST_DMA_RING_LO 8 ∧ a % 64 = 8) then 32
  else 1

/-- A write that its block gives its effect. -/
def blockWrite (s : State) (src : Sender) (a : Nat) (w : Word) : State :=
  if 0x180000000 ≤ a then s.writePod a w
  else if 0x100000000 ≤ a then s.writeTile a w
  else match a / 0x10000 with
    | 0x100 => s.writeStep a w
    | 0x101 => s.writeTb a w
    | 0x102 => s.writeRoot a w
    | 0x103 => s.writeLoader a w
    | 0x104 => s.writeStream a w
    | 0x105 => s.writeDdr a w
    | 0x106 =>
      if 0x1068000 ≤ a ∧ a < 0x1068800 then s.writeQueue 1152 a (a - 0x1068000) w
      else if 0x106C000 ≤ a then s.qDescWrite 1152 ((a - 0x106C000) / 16) a w
      else s.writeHub a w
    | 0x107 => s.writeGuard a w
    | 0x108 => s.writeHost src a w
    | 0x109 => s.writeTlk a w
    | 0x10A => s.writeCan a w
    | 0x10B => s.writePower a w
    | 0x10C => s.writeChk src a w
    | 0x10D => s.writeTimer a w
    | 0x10E => s.writeFault src a w
    | 0x10F => s.writeDebug a w
    | 0x110 => s.writeSecurity src a w
    | _ => s

/-- A write of an aligned register word; an offset that no register has ignores it (R11, R14). A field of the authorised-write
path ignores it, and event 0x6120 is logged (R255). -/
def regWrite (s : State) (src : Sender) (a : Nat) (w : Word) : State :=
  if (RegMap.rowOf a).isNone ∨ w.toNat % s.writeUnit a ≠ 0 then s
  else
    let s := if s.crosses a w then s.log .sec 0 0x6120 srcManager src.code a else s
    s.blockWrite src a w

end State

/-- The tile whose window holds an address. -/
def tileAtAddr (a : Nat) : Option Nat :=
  if 0x100000000 ≤ a ∧ a < 0x112000000 then some ((a - 0x100000000) / 0x40000) else none

end Sys2Proof.Machine
end

