-- ==== Sys2Proof/Machine/Access.lean ====
section
/-! DEFINITION. Reads of registers, and accesses from outside: register request pips at a tile, and the windows of the host
(R10 to R14, R37 to R45, R276, R479 to R487). -/

namespace Sys2Proof.Machine

/-- How an access ends: the state it leaves, its status, and the word it reads. -/
abbrev Ended := State × Status × Word

namespace State

/-! What registers read as. -/

/-- A word of the view of a delay store: the on-chip entries in slot order (R303). -/
def delayView (s : State) (t o : Nat) : Word :=
  match (s.mesh.delay.at t)[o / 16]? with
  | some e => BitVec.ofNat 32 (bits e.toNat (8 * (o % 16)) 32)
  | none => 0

/-- What a tile's register or view reads as, by the tile and the offset in its window: the replica registers follow the
timebase and the step clock (R122), the others their own tables. TB_TILE_PHASE shows the phase of the step clock at every tile,
its own update being done or not (DESIGN CHOICE, log entry 150). -/
def tileView (s : State) (t o a : Nat) : Word :=
  if 0x3C000 ≤ o then s.delayView t (o - 0x3C000)
  else if o = 0x32000 then s.reg Reg.TB_COUNT_LO
  else if o = 0x32004 then s.reg Reg.TB_COUNT_HI
  else if o = 0x32018 then s.reg Reg.STEP_NEXT_LAUNCH_LO
  else if o = 0x3201C then s.reg Reg.STEP_NEXT_LAUNCH_HI
  else if o = 0x32020 then BitVec.ofNat 32 s.launched
  else if o = 0x32024 then BitVec.ofNat 32 (s.launched / 2 ^ 32)
  else if o = 0x32028 then BitVec.ofNat 32 (if s.phase = 7 then s.clock.held else s.phase)
  else if o = 0x3003C then setF (s.reg a) 0 7 (min 64 (s.mesh.spikes.at t).length)
  else if o = 0x31824 then BitVec.ofNat 32 (s.mcRead t)
  else if o = 0x3400C then
    let n := s.codeOf t
    BitVec.ofNat 32 (((s.ckptNewest n).bind fun x => s.ckptStamp n x).getD 0)
  else s.shown a

/-- The seconds left of a role's lockout (R542). -/
def lockLeft (s : State) (role : Nat) : Nat :=
  match s.sec.locks.find? fun x => x.1 = role with
  | some (_, t, d) => d - (s.now - t) / 200000000
  | none => 0

/-- What a register reads as: its word, but for those that follow time or state of their block. -/
def view (s : State) (a : Nat) : Word :=
  match tileAtAddr a with
  | some t => s.tileView t ((a - 0x100000000) % 0x40000) a
  | none =>
    if a = Reg.SEC_LOCK 0 ∨ a = Reg.SEC_LOCK 1 ∨ a = Reg.SEC_LOCK 2 then
      setF (s.reg a) 8 24 (s.lockLeft ((a - Reg.SEC_LOCK 0) / 4 + 1))
    else if a = Reg.SEC_FB_REMAIN ∧ s.flag Reg.SEC_FB_TIMER_ARMED then
      BitVec.ofNat 32 s.fallbackTicks
    else if a = Reg.FLT_WDOG_REMAIN then
      match s.fw.loadedAt with
      | some t => BitVec.ofNat 32 (s.get Reg.FLT_WDOG_TMO_MS - (s.now - t) / 200000)
      | none => s.reg a
    else if 0x10D0000 ≤ a ∧ a < 0x10E0000 ∧ a = Reg.TMR_STATUS ((a - 0x10D0000) / 0x1000) then
      setF (s.reg a) 1 1 (if s.tmrGate ((a - 0x10D0000) / 0x1000) then 1 else 0)
    else s.shown a

/-- The reader takes a word. -/
def give (s : State) (w : Word) : State := { s with answer := [w.toNat] }

/-- A read of a register with high-water fields returns them, and each mark restarts from the present level (R158, R219, R311). -/
def markRead (s : State) (a : Nat) : State :=
  let v := s.view a
  let w := match tileAtAddr a with
    | some _ => if a % 0x40000 = 0x31828 then setF v 16 11 (getF v 0 11) else setF v 8 7 (getF v 0 7)
    | none => setF (setF v 16 7 (getF v 0 7)) 24 6 (getF v 8 6)
  (s.setReg a w).give v

/-- A register has high-water fields. -/
def hasMark (a : Nat) : Bool :=
  match tileAtAddr a with
  | some _ => a % 0x40000 = 0x3003C || a % 0x40000 = 0x31828 || a % 0x40000 = 0x31838
  | none => decide (0x180000000 ≤ a) && decide (a < 0x184800000) && decide (0x81040 ≤ a % 0x100000) &&
      decide (a % 0x100000 < 0x81080)

/-- DDR_MGR_LAT: the longest latency since the last read, a time that the model does not hold and that is free. -/
def isLatency (a : Nat) : Bool := (List.range 4).any fun u => a = Reg.DDR_MGR_LAT u

/-- A read that returns a latched high word, or latches one, or returns the live value (R12). The latch serves one read of the
high word; a second one without another read of the low word reads the live value (DESIGN CHOICE, log entry 148). -/
def pairRead (s : State) (a : Nat) : State :=
  match s.latches.at a with
  | n + 1 => { s with latches := s.latches.put a 0 }.give (BitVec.ofNat 32 n)
  | 0 =>
    let v := s.view a
    let s := if (RegMap.rowOf a).any (·.low) then
      { s with latches := s.latches.put (a + 4) ((s.view (a + 4)).toNat + 1) } else s
    s.give v

/-- A read of an aligned register word; an offset that no register has reads zero (R11, R14). -/
def wordRead (s : State) (a : Nat) : State :=
  match tileAtAddr a with
  | some t =>
    let k := a - Reg.DBG_OPS0_LO t
    if a = Reg.DBG_OPS0_LO t then s.opsLatch t
    else if Reg.DBG_OPS0_LO t < a ∧ k < 112 then
      match s.latches.at a with
      | n + 1 => s.give (BitVec.ofNat 32 n)
      | 0 => s.give (s.reg a)
    else if hasMark a then s.markRead a
    else if a = Reg.EVM_MC_DATA t then (s.give (s.view a)).mcStep t
    else s.pairRead a
  | none =>
    if hasMark a then s.markRead a
    else if isLatency a then (s.give (BitVec.ofNat 32 (s.nextFree 16))).useFree
    else if 0x10D0000 ≤ a ∧ a < 0x10E0000 then
      let n := (a - 0x10D0000) / 0x1000
      if a = Reg.TMR_CNT_LO n then s.headRead n
      else if a = capAddr n false then s.capRead n false
      else if a = capAddr n true then s.capRead n true
      else s.pairRead a
    else if a = Reg.SEN_ETH_PTP_RX_INFO 0 then s.ptpRead 0 false
    else if a = Reg.SEN_ETH_PTP_RX_INFO 1 then s.ptpRead 1 false
    else if a = Reg.SEN_ETH_PTP_TX_INFO 0 then s.ptpRead 0 true
    else if a = Reg.SEN_ETH_PTP_TX_INFO 1 then s.ptpRead 1 true
    else s.pairRead a

/-! One access of a word. -/

/-- The ones of the bytes that byte enables let through. -/
def enableMask (be : Nat) : Word :=
  (List.range 4).foldl (fun w i => if bits be i 1 = 1 then setF w (8 * i) 8 255 else w) 0

/-- What a register write carries in the bytes that are not enabled: what leaves their fields as they are. -/
def keepWord (s : State) (a : Nat) : Word :=
  match RegMap.rowOf a with
  | none => 0
  | some r => r.fields.foldl (fun w f =>
      match f.acc with
      | .rw | .auth | .bound | .mgr => w
      | _ => setF w f.lo f.len 0) (s.reg a)

/-- The status of a register write: REFUSED for a clock above the fused one and for a SWAP that is refused, and what the
modulator queue answers a push (R3, R254, R320). -/
def writeStatus (s : State) (a : Nat) (w : Word) : Status :=
  if (a = Reg.PWR_CLK_W ∨ a = Reg.PWR_CLK_E) ∧ s.obj 0x2001 3 < getF w 0 10 then .refused
  else if a = Reg.SCM_LD_CTRL ∧ w.getLsbD 1 ∧ s.swapBarred then .refused
  else if a = Reg.SYNC_MODQ_PUSH_HI then
    (s.modPush32 (s.get Reg.SYNC_MODQ_STEP_STEP) (getF w 0 3) (s.get Reg.SYNC_MODQ_PUSH_LO_VALUE)).2
  else .ok

/-- An access of a register: a write of the enabled bytes, or a read. -/
def regAccess (s : State) (src : Sender) (a : Nat) (wr : Option Word) (be : Nat) : Ended :=
  match wr with
  | some w =>
    let m := enableMask be
    let v := (w &&& m) ||| (s.keepWord a &&& ~~~ m)
    if be = 0 then (s, .ok, 0) else (s.regWrite src a v, s.writeStatus a v, 0)
  | none =>
    let t := s.wordRead a
    ({ t with answer := s.answer }, .ok, BitVec.ofNat 32 (t.answer.headD 0))

/-- An access of four bytes of memory. -/
def memAccess (s : State) (a : Nat) (wr : Option Word) (be : Nat) : Ended :=
  match wr with
  | some w => if be = 0 then (s, .ok, 0) else (s.wrLe a 4 (mergeBytes (s.rdLe a 4) w.toNat be), .ok, 0)
  | none => (s, .ok, BitVec.ofNat 32 (s.rdLe a 4))

/-- An access of a checked SRAM: the error that its read meets is counted; an uncorrectable one answers an access error, and a
write, which reads the rest of its 64-bit word, then writes nothing (R407, R408). -/
def checkedAccess (s : State) (ecc : Ecc) (hit : State → Bool → State) (a : Nat) (wr : Option Word) (be : Nat) : Ended :=
  match ecc with
  | .clean => s.memAccess a wr be
  | .corrected => (hit s false).memAccess a wr be
  | .uncorrectable => (hit s true, .accessError, 0)

/-- An access that no range of the map takes: an error, and an event with requester and address, whose code the spec does not
give (R39, log entry 47). -/
def nowhere (s : State) (src : Sender) (a : Nat) : Ended :=
  ((s.log .flt 0 (s.nextFree 16) srcManager (src.code + 256 * (a / 2 ^ 32)) a).useFree, .accessError, 0)

/-- An access at an offset of a tile's window (R42). -/
def tileWindow (s : State) (src : Sender) (t o : Nat) (wr : Option Word) (be : Nat) (ecc : Ecc) : Ended :=
  let a := 0x100000000 + 0x40000 * t + o
  if o < 0x28000 then s.checkedAccess ecc (fun s f => s.tileHit t ⟨o, f⟩) a wr be
  else if o < 0x30000 then
    let i := o - 0x28000
    s.checkedAccess ecc (fun s f => s.tileError t (20 + 2 * (i / 0x4000) + i / 8 % 2) (i % 0x4000 / 16) f) a wr be
  else s.regAccess src a wr be

/-- An access of a tile's window from outside the tile (R40). -/
def tileAccess (s : State) (src : Sender) (a : Nat) (wr : Option Word) (be : Nat) (ecc : Ecc) : Ended :=
  let t := (a - 0x100000000) / 0x40000
  if s.shut t then (s, .fenced, 0) else s.tileWindow src t ((a - 0x100000000) % 0x40000) wr be ecc

/-- An access of a pod's window (R43). -/
def podAccess (s : State) (src : Sender) (a : Nat) (wr : Option Word) (be : Nat) (ecc : Ecc) : Ended :=
  let p := (a - 0x180000000) / 0x100000
  let o := (a - 0x180000000) % 0x100000
  if o < 0x80000 then s.checkedAccess ecc (fun s f => s.podHit p ⟨o, f⟩) a wr be
  else s.regAccess src a wr be

/-- An access of DRAM (R421, R423, R425). -/
def dramAccess (s : State) (src : Sender) (a : Nat) (wr : Option Word) (be : Nat) : Ended :=
  if (s.dramAt a).isNone then s.nowhere src a
  else if !s.dramOk a || s.rangePoisoned a 4 then (s, .accessError, 0)
  else s.memAccess a wr be

/-- The HOST_ block by address: registers, and the MSI-X table, the PBA and the mailbox as bytes; the busy mailbox discards a
write of its request (R484, R520). -/
def hostBlock (s : State) (src : Sender) (a : Nat) (wr : Option Word) (be : Nat) : Ended :=
  let o := a - hostBase
  if o < 0x2000 ∨ 0x4200 ≤ o then s.regAccess src a wr be
  else if wr.isNone then s.memAccess a wr be
  else if 0x3000 ≤ o ∧ o < 0x4000 then (s, .ok, 0)
  else if 0x4000 ≤ o ∧ o < 0x4100 ∧ s.flag Reg.HOST_MBX_STAT_BUSY then (s.mailOverrun, .ok, 0)
  else s.memAccess a wr be

/-- The peripheral blocks (R44). The debug module of R731 belongs to the harts, which the model does not hold: a read of it is
free and a write reaches no state of the model. -/
def peripheral (s : State) (src : Sender) (a : Nat) (wr : Option Word) (be : Nat) : Ended :=
  if hostBase ≤ a ∧ a < hostBase + 0x10000 then s.hostBlock src a wr be
  else if 0x10F1000 ≤ a ∧ a < 0x10F2000 then
    (if wr.isSome then (s, .ok, 0) else (s.useFree, .ok, BitVec.ofNat 32 (s.nextFree 32)))
  else s.regAccess src a wr be

/-- The general region of manager SRAM (R44, R411). -/
def sramAccess (s : State) (a : Nat) (wr : Option Word) (be : Nat) (ecc : Ecc) : Ended :=
  s.checkedAccess ecc (fun s f => s.managerHit ⟨a - sramBase, f⟩) a wr be

/-- A region of the husk that a core in machine mode may write, or read (R412). -/
def huskOpen (a : Nat) (write : Bool) : Bool :=
  if write then decide (0x7F8000 ≤ a) else decide (a < 0x7F0000) || decide (0x7F8000 ≤ a)

/-- An access of the husk: a core in machine mode alone reaches it, as its regions allow, and no one while a wipe runs. Every
other access has an error, no effect and event 0x6112 (R45, R412, R414). -/
def huskAccess (s : State) (src : Sender) (a : Nat) (wr : Option Word) (be : Nat) (ecc : Ecc) : Ended :=
  let o := a - huskBase
  let closed : Ended := (s.log .sec 0 0x6112 srcManager src.code a, .accessError, 0)
  match src with
  | .hart _ true =>
    if !huskOpen a wr.isSome then closed
    else if s.flag Reg.SEC_HUSK_STAT_WIPING then (s, .accessError, 0)
    else s.checkedAccess ecc (fun s f => s.managerError (30 + o / 16 % 2) (o / 32) f) a wr be
  | _ => closed

/-- An access of the manager-local region (R44, R45). A write of the boot ROM or of the flash window has no effect. -/
def localAccess (s : State) (src : Sender) (a : Nat) (wr : Option Word) (be : Nat) (ecc : Ecc) : Ended :=
  if a < 0x20000 then
    (s, .ok, if wr.isSome then 0 else BitVec.ofNat 32 (ofLe ((List.range 4).map fun i => Config.rom (a + i))))
  else if sramBase ≤ a ∧ a < huskBase then s.sramAccess a wr be ecc
  else if huskBase ≤ a ∧ a < huskEnd then s.huskAccess src a wr be ecc
  else if 0x1000000 ≤ a ∧ a < 0x1110000 then s.peripheral src a wr be
  else if 0x8000000 ≤ a ∧ a < 0x10000000 then (if wr.isSome then (s, .ok, 0) else s.memAccess a none be)
  else s.nowhere src a

/-! Accesses that travel as control pips (R41, R276). -/

/-- The tile that an access of a pod's window is sent to: its first tile that is not shut. -/
def podDoor (s : State) (p : Nat) : Nat := podTile p (((List.range 16).find? fun i => !s.shut (podTile p i)).getD 0)

/-- The tile that an access of a tile or pod window is sent to. -/
def doorOf (s : State) (a : Nat) : Option Nat :=
  match tileAtAddr a with
  | some t => some t
  | none => if 0x180000000 ≤ a ∧ a < 0x184800000 then some (s.podDoor ((a - 0x180000000) / 0x100000)) else none

/-- An access leaves the manager by the west edge of the row of its tile, under the first tag that no access waits with; with
every tag in use it waits to be sent again. -/
def sendAccess (s : State) (src : Sender) (t a : Nat) (wr : Option Word) (be : Nat) : State :=
  match (List.range 256).find? fun g => s.accesses.all fun x => x.1 != g with
  | none => { s with answer := [] }
  | some g =>
    let edge := 1152 + rowOf t
    let pay := a + (wr.getD 0).toNat * 2 ^ 64 + g * 2 ^ 96 + edge * 2 ^ 104 + (be % 16) * 2 ^ 120
    { s.sendCtrl edge (Pip.make 0 false t edge 0 0 0 (if wr.isSome then 6 else 5) pay) with
      accesses := s.accesses ++ [(g, src.code)], answer := [] }

/-- Who sent the access of a tag. -/
def accessSender (s : State) (g : Nat) : Sender :=
  match s.accesses.find? fun x => x.1 = g with
  | some (_, 5) => .host
  | some (_, 6) => .jtag
  | some (_, n) => .hart (Fin.ofNat 4 n) true
  | none => .tile

/-- A register request at its tile: an address outside the windows of the tile and of its pod is an access error. -/
def serveAccess (s : State) (t a : Nat) (src : Sender) (wr : Option Word) (be : Nat) (ecc : Ecc) : Ended :=
  let a := a / 4 * 4
  if tileAtAddr a = some t then s.tileAccess src a wr be ecc
  else if s.shut t then (s, .fenced, 0)
  else if podBase (podOf t) ≤ a ∧ a < podBase (podOf t) + 0x100000 then s.podAccess src a wr be ecc
  else (s, .accessError, 0)

/-- A register request pip at a tile is served and answered (R276). -/
def regRequest (s : State) (t : Nat) (write : Bool) (ecc : Ecc) : State :=
  match s.takeCtrl t (if write then 6 else 5) with
  | none => s
  | some (p, s) =>
    let wr := if write then some (BitVec.ofNat 32 (p.b 64 32)) else none
    let (s, st, w) := s.serveAccess t (reqAddr p) (s.accessSender (reqTag p)) wr (p.b 120 4) ecc
    s.sendCtrl t (regResponse t (reqFrom p) (reqTag p) w.toNat st.code)

/-- A core takes the end of its access: the word of a read, or the status and no word of one that did not end OK (R39, R40). -/
def coreEnded (s : State) (st w : Nat) : State := { s with answer := if st = 0 then [w] else [st, 0] }

/-- The host takes the end of an access: a status other than OK is a Completer Abort, and counts as one (R481, R520). -/
def hostEnded (s : State) (st w : Nat) : State :=
  let s := if st = 0 then s else s.count Reg.HOST_ABORTS_COUNT
  { s with answer := [st, w] }

/-- The first response pip in the control intake of a row's edge. -/
def takeResponse (s : State) (row : Nat) : Option (Pip × State) :=
  let n := 1152 + row
  ((s.mesh.ctrlIn.at n).find? fun p => p.ptype = 7).map fun p =>
    (p, s.onMesh fun m => { m with ctrlIn := m.ctrlIn.put n ((m.ctrlIn.at n).erase p) })

/-- An access by JTAG of the global map outside the tile and pod windows, with the SEC_ block refused (R37, R39, R731). -/
def jtagReach (s : State) (a : Nat) (wr : Option Word) (ecc : Ecc) : Ended :=
  if 0x1100000 ≤ a ∧ a < 0x1110000 then (s, .accessError, 0)
  else if a < 0x10000000 then s.localAccess .jtag a wr 15 ecc
  else if dramBase ≤ a ∧ a < 0x9000000000 then s.dramAccess .jtag a wr 15
  else s.nowhere .jtag a

/-- An access by JTAG begins: one of a tile or pod window is answered by its register response, any other at once (R41,
R731). -/
def jtagGo (s : State) (a : Nat) (wr : Option Word) (ecc : Ecc) : State :=
  match s.doorOf a with
  | some t => let s := s.sendAccess .jtag t a wr 15; { s with jtag := { s.jtag with status := 1 } }
  | none =>
    let (s, st, w) := s.jtagReach a wr ecc
    { s with jtag := { s.jtag with status := if st = .ok then 0 else 2, data := w.toNat } }

/-- An access of JTAG ends, and the one that waits behind it begins (R36, R731). -/
def jtagEnded (s : State) (st w : Nat) : State :=
  let s := { s with jtag := { s.jtag with data := w, status := if st = 0 then 0 else 2 } }
  match s.jtag.next with
  | some (a, wr) => { s with jtag := { s.jtag with next := none } }.jtagGo a wr .clean
  | none => s

/-- A register response ends the access of its tag (R276, R731). -/
def regEnded (s : State) (row : Nat) : State :=
  match s.takeResponse row with
  | none => s
  | some (p, s) =>
    let g := p.b 96 8
    let src := s.accessSender g
    let st := p.b 32 4
    let w := p.b 0 32
    let s := { s with accesses := s.accesses.filter fun x => x.1 != g }
    match src with
    | .host => s.hostEnded st w
    | .jtag => s.jtagEnded st w
    | .hart _ _ => s.coreEnded st w
    | .tile => s

/-! The windows of the host (R479 to R487). -/

/-- The end of a host access. -/
def hostEnd (r : Ended) : State := r.1.hostEnded r.2.1.code r.2.2.toNat

/-- The host view of the manager queue unit: a command, send or pop names one of the host's queues, and only their ready bits
show (R485, R486). -/
def queueView (s : State) (o : Nat) (wr : Option Word) (be : Nat) : Ended :=
  let a := 0x1068000 + o
  let own := fun (i : Nat) => decide (640 ≤ i) && decide (i < 768)
  match wr with
  | none =>
    if 0x400 ≤ o ∧ o < 0x480 ∧ !(0x450 ≤ o ∧ o < 0x460) then (s, .ok, 0) else s.regAccess .host a none be
  | some w =>
    if o = 8 ∧ !own (getF w 16 10) then (s.qResult 1152 .refused, .ok, 0)
    else if o = 0x20 ∧ !own (getF w 0 10) then
      (((s.put Reg.MGR_Q_SEND_RESULT_STATUS Status.refused.code).put Reg.MGR_Q_SEND_RESULT_IDX (getF w 0 10)).put
        Reg.MGR_Q_SEND_RESULT_VALID 1, .ok, 0)
    else if o = 0x28 ∧ !own (getF w 0 10) then
      ((s.put Reg.MGR_Q_POP_RESULT_STATUS Status.refused.code).put Reg.MGR_Q_POP_RESULT_VALID 1, .ok, 0)
    else s.regAccess .host a (some w) be

/-- The host view of descriptors 640 to 767, writable while their MODE is 0 (R485). -/
def descView (s : State) (o : Nat) (wr : Option Word) (be : Nat) : Ended :=
  let a := 0x106C000 + 16 * 640 + o
  if wr.isSome ∧ s.qMode 1152 (640 + o / 16) ≠ 0 then (s, .ok, 0) else s.regAccess .host a wr be

/-- An access of BAR0 (R480). An offset of no range of R480 reads zero and ignores writes (R14). -/
def bar0 (s : State) (x : Nat) (wr : Option Word) (be : Nat) : State :=
  if x < 0x10000 then hostEnd (s.hostBlock .host (hostBase + x) wr be)
  else if x < 0x10800 then hostEnd (s.queueView (x - 0x10000) wr be)
  else if 0x18000 ≤ x ∧ x < 0x18800 then hostEnd (s.descView (x - 0x18000) wr be)
  else if 0x100000 ≤ x ∧ x < 0x210000 then
    if !s.flag Reg.HOST_CTRL_PERIPH_EN then
      (s.log .host 0 0x5705 srcManager Sender.host.code x).hostEnded Status.accessError.code 0
    else if 0x200000 ≤ x ∧ wr.isSome then s.hostEnded 0 0
    else hostEnd (s.peripheral .host (0x1000000 + (x - 0x100000)) wr be)
  else s.hostEnded 0 0

/-- An access of BAR2 (R482). -/
def bar2 (s : State) (x : Nat) (wr : Option Word) (be : Nat) : State :=
  hostEnd (s.dramAccess .host (dramBase + s.get Reg.HOST_WIN_BASE_GIB * 2 ^ 30 + x) wr be)

/-- An access of BAR4; what goes to a tile or pod window is answered by its register response (R41, R481). The offsets at which
the husk would follow the general region reach it no more than any other does, and are logged (R45). -/
def bar4 (s : State) (x : Nat) (wr : Option Word) (be : Nat) (ecc : Ecc) : State :=
  if x < 0x16800000 then
    let a := if x < 0x12000000 then 0x100000000 + x else 0x180000000 + (x - 0x12000000)
    match s.doorOf a with
    | some t => s.sendAccess .host t a wr be
    | none => s
  else if 0x18000000 ≤ x ∧ x < 0x183C0000 then hostEnd (s.sramAccess (sramBase + (x - 0x18000000)) wr be ecc)
  else if 0x183C0000 ≤ x ∧ x < 0x18400000 then hostEnd (s.huskAccess .host (huskBase + (x - 0x183C0000)) wr be ecc)
  else s.hostEnded Status.accessError.code 0

/-! The loads and stores of cores (R37 to R46). -/

/-- An access by a hart of the manager complex: what it sends to a tile or pod window is answered by its register response, and
everything else at once (R41). -/
def hartAccess (s : State) (n : Fin 4) (machine : Bool) (a : Nat) (wr : Option Word) (ecc : Ecc) : State :=
  let src := Sender.hart n machine
  match s.doorOf a with
  | some t => s.sendAccess src t a wr 15
  | none =>
    let (s, st, w) :=
      if a < 0x10000000 then s.localAccess src a wr 15 ecc
      else if dramBase ≤ a ∧ a < 0x9000000000 then s.dramAccess src a wr 15
      else s.nowhere src a
    s.coreEnded st.code w.toNat

/-- An access by the control core of a tile: its own tile window from 0 and its own pod window from 0x10_0000; elsewhere it
raises an access fault in the core, and has no effect (R46). The core of a spare tile is clock-gated, and so is every core in
IDLE and while its half relocks (R22, R626, R629). -/
def tileCoreAccess (s : State) (t a : Nat) (wr : Option Word) (ecc : Ecc) : State :=
  if s.isSpare t || s.coreGated t then { s with answer := [] }
  else
    let (s, st, w) :=
      if a < 0x40000 then s.tileWindow .tile t a wr 15 ecc
      else if 0x100000 ≤ a ∧ a < 0x200000 then s.podAccess .tile (podBase (podOf t) + (a - 0x100000)) wr 15 ecc
      else (s, .accessError, 0)
    s.coreEnded st.code w.toNat

/-- A load or a store of a word by a core. -/
def coreAccess (s : State) (core : CoreAccess) (a : Nat) (wr : Option Word) : State :=
  match core.src with
  | .hart n machine => s.hartAccess n machine a wr core.ecc
  | .tile t => s.tileCoreAccess t.val a wr core.ecc

end State

/-- LOW_WORD_READ (R12): a core's read of a word, which latches the high word of a pair. -/
def execLowWordRead (core : CoreAccess) (addr : BitVec 40) (s : State) : Result :=
  s.done (s.coreAccess core addr.toNat none)

/-- HIGH_WATER_READ (R158): a core's read of a word, which restarts the high-water marks of its register. -/
def execHighWaterRead (core : CoreAccess) (addr : BitVec 40) (s : State) : Result :=
  s.done (s.coreAccess core addr.toNat none)

/-- REGISTER_WRITE (R16): a core's write of a word. -/
def execRegisterWrite (core : CoreAccess) (addr : BitVec 40) (value : Word) (s : State) : Result :=
  s.done (s.coreAccess core addr.toNat (some value))

/-- REG_READ_REQUEST (R276). -/
def execRegReadRequest (tile : Fin 1152) (ecc : Ecc) (s : State) : Result := s.done (s.regRequest tile.val false ecc)

/-- REG_WRITE_REQUEST (R276). -/
def execRegWriteRequest (tile : Fin 1152) (ecc : Ecc) (s : State) : Result := s.done (s.regRequest tile.val true ecc)

/-- REG_RESPONSE_RECEIVE (R276). -/
def execRegResponseReceive (row : Fin 32) (s : State) : Result := s.done (s.regEnded row.val)

/-- BAR0_ACCESS (R480): a write of the enabled bytes of a word, or a read. -/
def execBar0Access (offset : BitVec 24) (value : Option Word) (enables : Fin 16) (s : State) : Result :=
  s.done (s.bar0 (offset.toNat / 4 * 4) value enables.val)

/-- BAR2_ACCESS (R482). -/
def execBar2Access (offset : BitVec 36) (value : Option Word) (enables : Fin 16) (s : State) : Result :=
  s.done (s.bar2 (offset.toNat / 4 * 4) value enables.val)

/-- BAR4_ACCESS (R481). -/
def execBar4Access (offset : BitVec 29) (value : Option Word) (enables : Fin 16) (ecc : Ecc) (s : State) : Result :=
  s.done (s.bar4 (offset.toNat / 4 * 4) value enables.val ecc)

end Sys2Proof.Machine
end

