-- ==== Sys2Proof/Machine/Jtag.lean ====
section
/-! DEFINITION. The test access port: boundary scan, identification, debug unlock and debug access (R729 to R733). -/

namespace Sys2Proof.Machine

namespace State

/-- Change the test access port. -/
def onJtag (s : State) (f : Jtag → Jtag) : State := { s with jtag := f s.jtag }

/-- The unlock ends (R732). -/
def jtagLock (s : State) : State := s.put Reg.DBG_JTAG_STAT_LEVEL 0

/-- The device starts as after a loss of VAON, with the fuses and straps it has (R733). -/
def restart (s : State) : State :=
  let s := s.powerLoss false
  s.coldStart s.start.fuses s.start.xtal s.start.testen s.start.ddr

/-- The instruction register takes a code. Leaving EXTEST starts the device (R733). -/
def jtagSelect (s : State) (code : Nat) : State :=
  let s := if s.flag Reg.DBG_JTAG_STAT_EXTEST && code != 0 then s.restart else s
  s.onJtag fun j => { j with code := code }

/-- The boundary register captures the pins and takes what is shifted in (R729). -/
def boundaryScan (s : State) (pins shift : Nat) : State :=
  { s.onJtag fun j => { j with boundary := shift } with answer := [pins] }

/-- EXTEST, open at the maker unlock, takes the pins; event 0x9103 at its entry (R729, R733). While it is not open the code
selects nothing but the bypass register. -/
def extest (s : State) (pins shift : Nat) : State :=
  if s.get Reg.DBG_JTAG_STAT_LEVEL ≠ 2 then s.jtagSelect 0xFF
  else
    let entered := !s.flag Reg.DBG_JTAG_STAT_EXTEST
    let s := (s.jtagSelect 0).put Reg.DBG_JTAG_STAT_EXTEST 1
    let s := if entered then s.log .dbg 0 0x9103 srcManager else s
    s.boundaryScan pins shift

/-- The word of IDCODE (R729). -/
def idcode (s : State) : Nat :=
  s.get Reg.SEC_FUSE_REV_REV % 16 * 2 ^ 28 + Config.idPart.toNat * 2 ^ 12 + Config.idMaker.toNat * 2 + 1

/-- The session slot by whose number JTAG's response is computed (R730). -/
abbrev jtagSlot : Nat := 8

/-- UNLOCK_CHAL: role 0 locks; any other role gets a challenge (R729, R730, R732). -/
def unlockChal (s : State) (role : Nat) : State :=
  let s := s.jtagSelect 0x10
  if role = 0 then { s.jtagLock with answer := [] }
  else
    let c := leBytes 8 (Config.random s.freeCount).toNat
    let s := s.useFree.onSec fun x => { x with
      challenges := (x.challenges.filter fun y => y.1 ≠ jtagSlot) ++ [(jtagSlot, role, c, s.now)] }
    { s with answer := c.map (·.toNat) }

/-- A refused unlock (R730). -/
def unlockRefused (s : State) (role : Nat) : State := s.log .dbg 0 0x9102 srcManager role

/-- A failed response counts toward the lockout of the role (R542, R730). -/
def unlockFailed (s : State) (role : Nat) : State :=
  let s := (s.count (Reg.SEC_LOCK_FAILS (lockOf role))).unlockRefused role
  if s.obj 0x2003 4 ≤ s.get (Reg.SEC_LOCK_FAILS (lockOf role)) then s.lockout 0 role else s

/-- A granted unlock: its level, event 0x9101 and its audit entry (R730). -/
def unlockGranted (s : State) (role : Nat) : State :=
  let s := (s.put (Reg.SEC_LOCK_FAILS (lockOf role)) 0).put Reg.DBG_JTAG_STAT_LEVEL (role - 1)
  ((s.onJtag fun j => { j with heard := s.now }).log .dbg 0 0x9101 srcManager role).audit 2 0 role (role + 256) 0 0 0

/-- UNLOCK_RESP: the response to the challenge of slot 8 within its 60 s, for a role that the lifecycle permits (R540, R730). -/
def unlockResp (s : State) (resp : List Byte) : State :=
  let s := s.jtagSelect 0x11
  match s.sec.challenges.find? fun x => x.1 = jtagSlot with
  | none => s
  | some (_, role, c, t) =>
    let s := s.dropChallenge jtagSlot
    if t + 12000000000 < s.now ∨ role < s.debugRole ∨ s.flag (Reg.SEC_LOCK_LOCKED (lockOf role)) then s.unlockRefused role
    else match s.roleKey role with
      | none => s.unlockRefused role
      | some key =>
        if takeHash (Config.hmac key (c ++ s.serial ++ [BitVec.ofNat 8 jtagSlot, BitVec.ofNat 8 role])) 10 = resp then
          s.unlockGranted role
        else s.unlockFailed role

/-- DBG_STATUS: unlock level, EXTEST, the locked roles, and the status of the last access (R729). -/
def dbgStatus (s : State) : State :=
  let s := s.jtagSelect 0x12
  let locks := ((List.range 3).map fun i => s.get (Reg.SEC_LOCK_LOCKED i) * 2 ^ i).sum
  { s with answer := [s.get Reg.DBG_JTAG_STAT_LEVEL, s.get Reg.DBG_JTAG_STAT_EXTEST, locks, s.jtag.status] }

/-- An access of JTAG waits for its register response. -/
def jtagWaits (s : State) : Bool := s.accesses.any fun x => x.2 = Sender.jtag.code

/-- DBG_ACCESS: the result of the access before is captured and the next one made; while that access waits for its response the
capture is busy and the next one waits for it; without an unlock it is locked (R36, R729, R731). -/
def dbgAccess (s : State) (a : Nat) (data : Word) (write : Bool) (ecc : Ecc) : State :=
  let s := s.jtagSelect 0x20
  if s.get Reg.DBG_JTAG_STAT_LEVEL = 0 then { s.onJtag fun j => { j with status := 3 } with answer := [3, 0] }
  else
    let s := s.onJtag fun j => { j with heard := s.now }
    let a := a / 4 * 4
    let wr := if write then some data else none
    if s.jtagWaits then { s.onJtag fun j => { j with next := if j.next.isSome then j.next else some (a, wr) } with answer := [1, 0] }
    else
      let old := [s.jtag.status, s.jtag.data]
      { s.jtagGo a wr ecc with answer := old }

/-- TRST_N asserts: the port is in Test-Logic-Reset, and the unlock ends (R729, R732). -/
def trst (s : State) : State := s.jtagLock.jtagSelect 2

/-- JTAG_IDLE_TIMEOUT: SEC_IDLE.SECONDS without a DBG_ACCESS (R732). -/
def jtagIdle (s : State) : State :=
  if s.get Reg.DBG_JTAG_STAT_LEVEL = 0 then s
  else (s.reach (s.jtag.heard + 200000000 * s.get Reg.SEC_IDLE_SECONDS)).jtagLock

end State

/-- JTAG_EXTEST (R733): the levels of the pins, and what is shifted into the boundary register. -/
def execJtagExtest (pins shift : Nat) (s : State) : Result := s.done (s.extest pins shift)

/-- JTAG_SAMPLE_PRELOAD (R729). -/
def execJtagSamplePreload (pins shift : Nat) (s : State) : Result := s.done ((s.jtagSelect 1).boundaryScan pins shift)

/-- JTAG_IDCODE (R729). -/
def execJtagIdcode (s : State) : Result := s.done { s.jtagSelect 2 with answer := [s.idcode] }

/-- JTAG_UNLOCK_CHAL (R730). -/
def execJtagUnlockChal (role : Fin 4) (s : State) : Result := s.done (s.unlockChal role.val)

/-- JTAG_UNLOCK_RESP (R730). -/
def execJtagUnlockResp (response : List Byte) (s : State) : Result := s.done (s.unlockResp response)

/-- JTAG_DBG_STATUS (R729). -/
def execJtagDbgStatus (s : State) : Result := s.done s.dbgStatus

/-- JTAG_DBG_ACCESS (R731). -/
def execJtagDbgAccess (addr : BitVec 40) (data : Word) (write : Bool) (ecc : Ecc) (s : State) : Result :=
  s.done (s.dbgAccess addr.toNat data write ecc)

/-- JTAG_BYPASS (R729): BYPASS, or a code that names no instruction. -/
def execJtagBypass (code : Byte) (s : State) : Result := s.done (s.jtagSelect code.toNat)

/-- TRST_ASSERT (R732). -/
def execTrstAssert (s : State) : Result := s.done s.trst

/-- JTAG_IDLE_TIMEOUT (R732). -/
def execJtagIdleTimeout (s : State) : Result := s.done s.jtagIdle

end Sys2Proof.Machine
end

