-- ==== Sys2Proof/Machine/Loader.lean ====
section
/-! DEFINITION. The end of an image load, and the loader's checks of the image before it can be started or switched to (R108,
R160, R183, R184, R198, R202, R232, R246, R290, R344, R350, R426, R700). -/

namespace Sys2Proof.Machine

/-- A check that an image fails: its event, where the rule names one, and the event's two parameters (R771). -/
structure Flaw where
  code : Option Nat
  p0 : Nat
  p1 : Nat
  deriving DecidableEq, Repr

/-- The event of a flaw, or a number above every event's. -/
def Flaw.rank (f : Flaw) : Nat := f.code.getD 0x10000

/-- A list of one flaw where a condition holds. -/
def flawIf (bad : Bool) (f : Flaw) : List Flaw := if bad then [f] else []

/-- The failing check that is logged: the first in the order of the event codes, then of pods and slots (log entry 181). -/
def firstFlaw (l : List Flaw) : Option Flaw :=
  l.foldl (fun best f => match best with
    | none => some f
    | some b => if f.rank < b.rank then some f else best) none

/-- A VALID descriptor where it stands. -/
structure Stored where
  pod : Nat
  slot : Nat
  d : Desc
  deriving DecidableEq, Repr

/-- What the event of a projection's flaw names: projection and pod, and a further value (R771). -/
def Stored.flaw (x : Stored) (code p1 : Nat) : Flaw := ⟨some code, x.d.proj + x.pod * 2 ^ 16, p1⟩

/-- A weight group of a LIST store: its index in the scale stream, where its entries stand, its marker, and its entries. -/
structure Group where
  scale : Nat
  at_ : Nat
  marker : Nat
  syns : List Syn
  deriving DecidableEq, Repr

/-- A range of bytes of pod memory with its projection, where it has one. -/
structure Region where
  owner : Option Nat
  lo : Nat
  len : Nat
  deriving DecidableEq, Repr

/-- Two regions share a byte. -/
def Region.meets (x y : Region) : Bool := x.lo < y.lo + y.len && y.lo < x.lo + x.len

/-- Bytes padded to a multiple of 16. -/
def pad16 (n : Nat) : Nat := 16 * ceilDiv n 16

namespace State

/-- The image as it stands when it comes to run: its bytes at its DRAM place, what the loader puts on chip, and its slot tables
active (R118, R320). -/
def imagined (s : State) (x : ImageInfo) (bytes : List Byte) : State :=
  (x.initial.foldl place (s.wrBytes x.base bytes).switchClear).bankSwap

/-- The VALID descriptors of every pod, in ascending pod and slot. -/
def stored (s : State) : List Stored :=
  s.mem.filterMap fun x =>
    let o := (x.1 - podBase 0) % 0x100000
    let (p, n) := ((x.1 - podBase 0) / 0x100000, o / 256)
    if podBase 0 ≤ x.1 ∧ p < 72 ∧ o < 0x4000 ∧ o % 256 = 0 ∧ (s.desc p n).valid then some ⟨p, n, s.desc p n⟩ else none

/-- The contexts that an image sets up, as tile and number. -/
def contexts (s : State) : List (Nat × Nat) :=
  s.regs.filterMap fun x =>
    let o := (x.1 - tileBase 0) % 0x40000
    if tileBase 0 ≤ x.1 ∧ x.1 < tileBase 1152 ∧ 0x31000 ≤ o ∧ o < 0x31800 ∧ o % 64 = 4 then
      some ((x.1 - tileBase 0) / 0x40000, (o - 0x31000) / 64) else none

/-! Stores (R160 to R184). -/

/-- The target table keeps to R162 and R163, its tiles lie in the pod, and its counts are the contexts' (R164). -/
def tableOk (s : State) (x : Stored) : Bool :=
  let e := s.targetEntry x.pod x.slot
  let n := x.d.tgtN
  1 ≤ n && n ≤ 16 && ((List.range 16).all fun i => decide (i < n) || e i = 0) &&
    ((List.range n).all fun i =>
      let k := bits (e i) 34 15
      1 ≤ k && k ≤ 16384 && bits (e i) 16 18 = (if i = 0 then 0 else bits (e (i - 1)) 16 18 + bits (e (i - 1)) 34 15) &&
        (s.entryTile x.pod (e i)).any fun t => k = s.get (Reg.POP_RANGE_COUNT t (bits (e i) 10 5))) &&
    ((List.range n).map fun i => bits (e i) 34 15).sum = x.d.nT

/-- Entry `i` of the directory of a LIST store (R166). -/
def dirEntry (s : State) (d : Desc) (i : Nat) : Nat := s.rdLe (d.dir + 4 * i) 4

/-- The directory keeps to R166. -/
def dirOk (s : State) (d : Desc) : Bool :=
  ((List.range d.srcCount).all fun i => s.dirEntry d i ≤ s.dirEntry d (i + 1)) && s.dirEntry d d.srcCount = d.area16

/-- The groups of a run from one on, and whether they keep to R169 and to the range of the ordinals (R174). -/
def runWalk (s : State) (d : Desc) (g : Seg) (x : RunAt) (last : Bool) : (left j a cursor : Nat) → List Group × Bool
  | 0, _, a, _ => ([], if last then s.paddingOk g a else a = g.at_ + x.fin)
  | left + 1, j, a, cursor =>
    if g.at_ + x.fin ≤ a then ([], false)
    else
      let marker := (s.rd8 a).toNat
      let limit := g.at_ + x.fin - (a + 1)
      let r := s.readGroup (bits marker 6 2) (a + 1) limit d.nT (if left = 0 then x.lastN else d.g) cursor 0 (limit + 1)
      if r.bad.isSome then ([], false)
      else
        let (gs, ok) := s.runWalk d g x last left (j + 1) (a + 1 + groupBytes (bits marker 6 2) r.entries) r.cursor
        (⟨g.scaleIdx + x.first + j, a + 1, marker, r.syns⟩ :: gs, ok)

/-- The segments that a directory names (R166). -/
def segments (s : State) (d : Desc) : List (Seg × Option Nat) :=
  (List.range d.srcCount).filterMap fun i =>
    let lo := s.dirEntry d i
    let hi := s.dirEntry d (i + 1)
    if lo < hi then some (s.readSeg (d.seg + 16 * lo) (d.srcBase + i) (some (hi - lo)) d.g false) else none

/-- The groups of a segment, and whether it keeps to R169. -/
def segWalk (s : State) (d : Desc) (g : Seg × Option Nat) : List Group × Bool :=
  if g.2.isSome then ([], false)
  else
    let parts := (List.range g.1.runs).map fun r =>
      let x := s.runAt g.1 r
      s.runWalk d g.1 x (r + 1 = g.1.runs) x.groups 0 (g.1.at_ + x.off) 0
    (parts.flatMap (·.1), parts.all (·.2))

/-- The tag of entry `k` of a scale stream equals a marker, and SCALE_COUNT covers the entry (R175, R176). -/
def tagOk (s : State) (d : Desc) (k marker : Nat) : Bool :=
  decide (k < d.scaleCount) && (s.scaleAt (d.scale + 3 * k)).1 = marker

/-- Address of group `k` of a BLOCK store in the order of blocks and source groups (R178). -/
def blockAt (d : Desc) (k : Nat) : Nat := d.seg + k * d.gb

/-- Group `k` of a BLOCK store keeps to R177 and R178. -/
def blockOk (s : State) (d : Desc) (k : Nat) : Bool :=
  let (b, g) := (k / d.ng, k % d.ng)
  (s.rd8 (blockAt d k)).toNat = g % 64 + 64 * d.bfmt && ((List.range 15).all fun i => s.rd8 (blockAt d k + 1 + i) = 0) &&
    (List.range d.g).all fun c => (List.range 64).all fun t =>
      (decide (64 * b + t < d.nT) && decide (g * d.g + c < d.srcCount)) || s.blockWeight d (blockAt d k) c t = 0

/-- The byte offset of the first weight of a store that is no finite number (R232, log entry 183). -/
def badWeight (s : State) (d : Desc) (groups : List Group) : Option Nat :=
  if d.block then
    if d.bfmt < 2 then none
    else (List.range (d.nb * d.ng)).findSome? fun k =>
      ((List.range (64 * d.g)).find? fun i => !(decodeWeight d.bfmt (s.blockWeight d (blockAt d k) (i / 64) (i % 64))).finite).map
        fun i => k * d.gb + 16 + i
  else groups.findSome? fun g => (g.syns.find? fun y => !(decodeWeight (bits g.marker 6 2) y.raw).finite).map
    fun y => g.at_ + 2 * y.entry + 1 - d.seg

/-- The byte offset of the first scale that is no finite number (R232). -/
def badScale (s : State) (d : Desc) : Option Nat :=
  ((List.range d.scaleCount).find? fun k => !(decodeScale (s.scaleAt (d.scale + 3 * k)).2).finite).map (3 * ·)

/-- A clamp is finite and lies within the finite range of a format (R246). -/
def clampIn (raw fmt : Nat) : Bool :=
  let v := decodeScale raw
  v.finite && (fmtMax fmt true).scaled Learn.places ≤ v.scaled Learn.places &&
    v.scaled Learn.places ≤ (fmtMax fmt false).scaled Learn.places

/-- The plasticity fields break R246; `fmts` are the formats of the store's groups. -/
def learnBad (d : Desc) (fmts : List Nat) : Bool :=
  let lo := decodeScale d.wLo
  let hi := decodeScale d.wHi
  !lo.finite || !hi.finite || decide (hi.scaled Learn.places < lo.scaled Learn.places) ||
    (fmts.any fun f => !clampIn d.wLo f || !clampIn d.wHi f) || ((d.ltp || d.ltd) && (d.preBase = 0 || d.eligBase = 0))

/-- Slots of the activity area of a BLOCK descriptor: W′ of R202. -/
def areaSlotsOf (s : State) (x : Stored) (window : Nat) : Nat :=
  if !x.d.wintgt then 1 else (((List.range 16).findSome? fun e => s.entryTile x.pod (s.targetEntry x.pod x.slot e)).map
    fun t => s.get (Reg.NE_WINDOW_W t)).getD window

/-- Bytes of the activity area of a BLOCK descriptor (R202). -/
def areaNeed (s : State) (x : Stored) (window : Nat) : Nat :=
  let w := s.areaSlotsOf x window
  pad16 (w * x.d.ng) + w * x.d.ng * x.d.g

/-- The target context of some entry is windowed (R108). -/
def intoWindow (s : State) (x : Stored) : Bool :=
  (List.range x.d.tgtN).any fun i =>
    let e := s.targetEntry x.pod x.slot i
    (s.entryTile x.pod e).any fun t => s.flag (Reg.POP_CTRL_WINDOWED t (bits e 10 5))

/-- The source range of a descriptor meets the axons of a windowed context (R108). -/
def fromWindow (s : State) (d : Desc) : Bool :=
  s.contexts.any fun x =>
    let c := s.ctx x.1 x.2
    c.windowed && decide (c.axonBase < d.srcBase + d.srcCount) && decide (d.srcBase < c.axonBase + c.count)

/-- One source's directory pair, segment and scales, or one target block with its scales, does not fit a half (R344). A BLOCK
half has no run-index line (log entry 184). -/
def halfSmall (s : State) (d : Desc) : Bool :=
  let half := s.rdLe d.stageIdx 4
  if d.block then decide (half < 64 + d.ng * d.gb + 192 * d.ng)
  else (s.segments d).any fun g => decide (half < 64 + 64 + 16 + 16 * g.1.len + pad16 (3 * g.1.groups))

/-- The checks of one store (R108, R184, R198, R202, R232, R246, R344). -/
def storeFlaws (s : State) (window : Nat) (x : Stored) : List Flaw :=
  let d := x.d
  let segs := if d.block then [] else s.segments d
  let walks := segs.map (s.segWalk d)
  let groups := walks.flatMap (·.1)
  let blocks := if d.block then List.range (d.nb * d.ng) else []
  let delayed := segs.any fun g => g.1.runs ≠ 1 || (s.runAt g.1 0).delay ≠ 0
  let tags := if d.block
    then blocks.all fun k => (List.range 64).all fun t => s.tagOk d (64 * k + t) (s.rd8 (blockAt d k)).toNat
    else groups.all fun g => s.tagOk d g.scale g.marker
  let fmts := if d.block then [d.bfmt] else groups.map fun g => bits g.marker 6 2
  let odd := (s.badWeight d groups).orElse fun _ => s.badScale d
  flawIf (!s.tableOk x) (x.flaw 0x4311 0) ++
    flawIf (!d.block && !s.dirOk d) (x.flaw 0x4312 0) ++
    flawIf (walks.any fun w => !w.2) (x.flaw 0x4313 0) ++
    flawIf (!tags) (x.flaw 0x4314 0) ++
    flawIf (delayed && (d.windowed || s.intoWindow x)) (x.flaw 0x4315 0) ++
    flawIf (d.block && !(d.area16 * 16 = d.nb * d.ng * d.gb && blocks.all (s.blockOk d))) (x.flaw 0x4316 0) ++
    flawIf (d.gcode = 3 || (!d.block && d.bfmt ≠ 0)) (x.flaw 0x4317 0) ++
    flawIf (d.block && decide (d.actLen < s.areaNeed x window)) (x.flaw 0x4318 0) ++
    flawIf odd.isSome (x.flaw 0x4319 (odd.getD 0)) ++
    flawIf (learnBad d fmts) (x.flaw 0x431A 0) ++
    flawIf (d.windowed && s.halfSmall d) (x.flaw 0x4325 0) ++
    flawIf (s.intoWindow x != d.wintgt || (s.fromWindow d && !s.intoWindow x)) ⟨none, 0, 0⟩

/-! Regions of pod memory (R183, R202). -/

/-- The regions of a descriptor in pod memory but its activity area. -/
def regionsOf (s : State) (x : Stored) : List Region :=
  let d := x.d
  let own := some d.proj
  let store :=
    if d.windowed then
      [⟨own, d.stageIdx, 64⟩, ⟨own, s.halfAt x.pod d 0, s.rdLe d.stageIdx 4⟩, ⟨own, s.halfAt x.pod d 1, s.rdLe d.stageIdx 4⟩] ++
        (if d.block then [] else [⟨own, podBase x.pod + s.rdLe (d.stageIdx + 0x0C) 4, 64 * ceilDiv d.srcCount 512⟩])
    else
      [⟨own, d.seg, 16 * d.area16⟩, ⟨own, d.scale, 3 * d.scaleCount⟩] ++
        (if d.block then [] else [⟨own, d.dir, 4 * (d.srcCount + 1)⟩])
  let arrays := if d.ltp || d.ltd then
    [⟨own, podBase x.pod + d.preBase, 4 * d.srcCount⟩, ⟨own, podBase x.pod + d.eligBase, d.scaleCount * d.g⟩] else []
  (store ++ arrays).filter fun r => 0 < r.len

/-- The activity area of a descriptor. -/
def areaOf (x : Stored) : List Region :=
  if x.d.block && decide (0 < x.d.actLen) then [⟨some x.d.proj, podBase x.pod + x.d.actBase, x.d.actLen⟩] else []

/-- The queue rings that the tiles of a pod have in its memory (R359). -/
def ringsOf (s : State) (p : Nat) : List Region :=
  s.regs.filterMap fun x =>
    let t := (x.1 - tileBase 0) / 0x40000
    let o := (x.1 - tileBase 0) % 0x40000
    if tileBase 0 ≤ x.1 ∧ t < 1152 ∧ podOf t = p ∧ 0x38000 ≤ o ∧ o < 0x3C000 ∧ o % 16 = 0 then
      let i := (o - 0x38000) / 16
      let n := 2 ^ s.qget t i 2 4
      if s.qget t i 6 2 = 1 then (s.qRing t i).map fun a => ⟨none, a, 16 * n + fillBytes n⟩ else none
    else none

/-- The regions of pod memory that no descriptor owns: the descriptor table, spill regions and queue rings. -/
def regionsFree (s : State) (p : Nat) : List Region :=
  let spills := (List.range 16).filterMap fun i =>
    let t := podTile p i
    let n := s.get (Reg.EVM_SPILL_LEN_LEN t)
    if n = 0 then none else some (⟨none, podBase p + s.get (Reg.EVM_SPILL_BASE_BASE t), 1024 * n⟩ : Region)
  ⟨none, podBase p, 0x4000⟩ :: spills ++ s.ringsOf p

/-- The first region that shares a byte with a later one of a list. -/
def clash : List Region → Option Region
  | [] => none
  | r :: l => if l.any r.meets then some r else clash l

/-- The bytes of a store's part up to the next multiple of 16 are zero, and the part starts on one (R183). -/
def partOk (s : State) (a len : Nat) : Bool :=
  a % 16 = 0 && (List.range (pad16 len - len)).all fun i => s.rd8 (a + len + i) = 0

/-- Regions of a pod overlap, or a part of a store is not aligned or not padded with zeros (R183, R202). -/
def regionFlaws (s : State) (all : List Stored) (p : Nat) : List Flaw :=
  let here := all.filter fun x => x.pod = p
  if here.isEmpty then []
  else
    let fixed := here.flatMap s.regionsOf ++ s.regionsFree p
    let areas := here.flatMap areaOf
    let named := fun (code : Nat) (r : Region) => [(⟨some code, r.owner.getD 0 + p * 2 ^ 16, 0⟩ : Flaw)]
    ((clash fixed).map (named 0x4310)).getD [] ++
      (((clash areas).orElse fun _ => areas.find? fun r => fixed.any r.meets).map (named 0x4318)).getD [] ++
      here.flatMap fun x => flawIf (!(s.partOk x.d.seg (16 * x.d.area16) && s.partOk x.d.scale (3 * x.d.scaleCount) &&
        (x.d.block || s.partOk x.d.dir (4 * (x.d.srcCount + 1))))) (x.flaw 0x4310 0)

/-! Placement of copies (R350). -/

/-- Where a beat that enters router `r` on an input at a slot leaves the mesh: router, route code and slot (R316). -/
def circuitEnd (s : State) : (fuel r input n : Nat) → Option (Nat × Nat × Nat)
  | 0, _, _, _ => none
  | fuel + 1, r, input, n =>
    match routeOf (s.slotEntry r n) input with
    | 0 => none
    | 5 => some (r, 5, n)
    | o + 1 =>
      match neighbour r o with
      | some r' => s.circuitEnd fuel r' (facing o) ((n + if isSeam r o then 5 else 1) % 1024)
      | none => some (r, o + 1, n)

/-- The VALID copy descriptors (R325). -/
def copyAll (s : State) : List (Nat × Nat) :=
  (List.range 16).flatMap fun q => (List.range 64).filterMap fun d => if s.cd q d 0 1 = 1 then some (q, d) else none

/-- The DRAM range of a descriptor lies in its engine's subchannel. -/
def rangeOk (s : State) (q d : Nat) : Bool :=
  s.cdKind q d = 3 || (s.engineReach q (s.cdAddr q d) && s.engineReach q (s.cdAddr q d + s.cdLen q d - 1))

/-- The subchannel that holds a DRAM range, where one does. -/
def subOf (s : State) (a len : Nat) : Option Nat :=
  (s.dramAt a).bind fun x => if s.engineReach x.1 (a + len - 1) then some x.1 else none

/-- The STAGE descriptors of a WINDOWED projection's slot. -/
def stageDescs (s : State) (x : Stored) : List (Nat × Nat) :=
  s.copyAll.filter fun c => s.cdKind c.1 c.2 = 3 && s.cdPod c.1 c.2 = x.pod &&
    s.get (Reg.SCM_CH_CFG_DSLOT x.pod (s.cdCh c.1 c.2)) = x.slot

/-- A WINDOWED store lies in one subchannel, whose engine has its STAGE descriptor. -/
def storeSubOk (s : State) (x : Stored) : Bool :=
  match s.subOf x.d.seg (16 * x.d.area16) with
  | none => false
  | some q => s.subOf x.d.scale (3 * x.d.scaleCount) = some q &&
    (x.d.block || s.subOf x.d.dir (4 * (x.d.srcCount + 1)) = some q) && (s.stageDescs x).any fun c => c.1 = q

/-- No two descriptors of an engine share a slot, and every slot of a descriptor is of its class. -/
def slotsOk (s : State) (q d : Nat) : Bool :=
  (List.range 1024).all fun n => !s.dataSlot q d n ||
    (bits (s.streams.activeClass.at (n / 16)) (2 * (n % 16)) 2 = s.cdClass q d &&
      (List.range d).all fun e => !(s.cd q e 0 1 = 1 && s.dataSlot q e n))

/-- The beats that an engine sends in a slot reach a channel of a pod. -/
def downReaches (s : State) (q p ch n : Nat) : Bool :=
  (s.circuitEnd 72 (enginePort q).1 (enginePort q).2 n).any fun x => x.2.1 = 5 && podOf x.1 = p && rxch (s.slotEntry x.1 x.2.2) = ch

/-- The beats that an engine takes in a slot come from a channel of a pod. -/
def upReaches (s : State) (q p ch n : Nat) : Bool :=
  (s.circuitStart 72 (enginePort q).1 (enginePort q).2 n).any fun x => podOf x.1 = p && txch (s.slotEntry x.1 x.2) = ch

/-- The beats that a pod sends in a slot on a channel reach an engine. -/
def requestReaches (s : State) (q p ch n : Nat) : Bool :=
  (List.range 16).any fun i =>
    let t := podTile p i
    txch (s.slotEntry t n) = ch && (s.circuitEnd 72 t 4 n).any fun x => (x.1, x.2.1) = ((enginePort q).1, (enginePort q).2 + 1)

/-- The slots and up slots of a descriptor reach its pod and channel. -/
def circuitsOk (s : State) (q d : Nat) : Bool :=
  let (p, ch, k) := (s.cdPod q d, s.cdCh q d, s.cdKind q d)
  (List.range 1024).all fun n =>
    (!s.dataSlot q d n || (if k = 2 then s.upReaches q p ch n else s.downReaches q p ch n)) &&
      (k ≠ 3 || !s.upSlot q d n || s.requestReaches q p ch n)

/-- Descriptor `e` can be pending in a step in which `d` starts: some step of each schedule is so far before it (log entry
182). -/
def pendingWith (s : State) (q d e : Nat) : Bool :=
  s.cd q d 8 2 ≠ s.cd q e 8 2 ||
    let m := Nat.gcd (s.cdPeriod q d) (s.cdPeriod q e)
    let gap := (s.cd q d 48 16 + m * s.cd q e 48 16 - s.cd q e 48 16) % m
    decide (gap ≤ s.cd q e 64 16)

/-- The read-buffer shares of what can be pending when `d` starts fit the buffer. -/
def bufferOk (s : State) (q d : Nat) : Bool :=
  (((List.range 64).filter fun e => s.cd q e 0 1 = 1 && s.cdKind q e ≠ 2 && s.pendingWith q d e).map fun e => s.cd q e 80 11).sum ≤ 1024

/-- The write slots of an engine fit 256 × 800 MHz ÷ f, f being the fused clock. -/
def writesOk (s : State) (q : Nat) : Bool :=
  (((List.range 64).filter fun d => s.cd q d 0 1 = 1 && s.cdKind q d = 2).map fun d => s.cd q d 112 11).sum * s.obj 0x2001 3 ≤
    256 * 800

/-- The checked placement rules, in the order of the table; the event names engine and descriptor (log entry 158). -/
def placementFlaws (s : State) (all : List Stored) : List Flaw :=
  let cs := s.copyAll
  let rule := fun (ok : Nat → Nat → Bool) => cs.flatMap fun c => flawIf (!ok c.1 c.2) ⟨some 0x4324, c.1, c.2⟩
  rule s.rangeOk ++
    (all.filter fun x => x.d.windowed).flatMap (fun x => flawIf (!s.storeSubOk x)
      ⟨some 0x4324, ((s.stageDescs x).head?.getD (0, 0)).1, ((s.stageDescs x).head?.getD (0, 0)).2⟩) ++
    rule s.slotsOk ++ rule s.circuitsOk ++ rule s.bufferOk ++ rule fun q _ => s.writesOk q

/-! Standby (R699, R700). -/

/-- The descriptors whose target table names a logical tile. -/
def clonesOf (s : State) (all : List Stored) (ltile : Nat) : List Stored :=
  all.filter fun x => (List.range x.d.tgtN).any fun i =>
    let e := s.targetEntry x.pod x.slot i
    bits e 0 10 = ltile && bits e 15 1 = 1

/-- Bytes of the relocation package of a logical tile on a physical one (R699). -/
def packageBytes (s : State) (clones : List Stored) (tile : Nat) : Nat :=
  ((clones.flatMap fun x => (if x.d.windowed then [] else s.regionsOf x) ++ areaOf x).map fun r => pad16 r.len).sum +
    1024 * s.get (Reg.EVM_SPILL_LEN_LEN tile)

/-- Cycles of a spare's restore: its descriptors send in slots of their own, SLOT_N beats to a frame (R700). -/
def restoreCycles (s : State) (spare : Nat) : Nat :=
  ((s.restoreDescs spare 0).map fun x => 1024 * ceilDiv (ceilDiv (s.cdLen x.1 x.2.1) 64) (max 1 (s.cd x.1 x.2.1 112 11))).foldl max 0

/-- An image with checkpoint slots cannot be stood by for (R700). -/
def standbyBad (s : State) (x : ImageInfo) (all : List Stored) : Bool :=
  let named := (all.flatMap fun y => (List.range y.d.tgtN).map fun i => bits (s.targetEntry y.pod y.slot i) 0 10).eraseDups
  let spares := (List.range 128).filterMap fun i => s.mgrLtt (0x401 + i)
  x.kMin ≠ 0 && (decide (39000 < x.reserve) ||
    (named.any fun n =>
      let clones := s.clonesOf all n
      decide (8 < clones.length) ||
        decide (s.get Reg.FLT_SB_LEN_BYTES < s.packageBytes clones ((s.mgrLtt n).getD 0))) ||
    spares.any fun t => decide (550 * s.obj 0x2001 3 < s.restoreCycles t))

/-! The whole image. -/

/-- An image uses multicast group 0xFFF (R290). -/
def usesManagerGroup (s : State) (x : ImageInfo) : Bool :=
  (x.initial.any fun l => match l with
    | .mcast _ g _ => g.val = 4095
    | _ => false) ||
    s.contexts.any fun y =>
      let c := s.ctx y.1 y.2
      c.outEn && decide (1 ≤ c.count) && c.mcBase + (c.count - 1) / 2 ^ c.mcShift = 4095

/-- Every check that an image fails. -/
def imageFlaws (s : State) (x : ImageInfo) (bytes : List Byte) : List Flaw :=
  let t := s.imagined x bytes
  let all := t.stored
  flawIf (decide (0 < x.dram) && !s.dramMapped x.base x.dram) ⟨some 0x2209, 0, 0⟩ ++
    (x.descriptors.flatMap fun y => flawIf (decide (64 < y.2)) ⟨some 0x4310, y.1.val * 2 ^ 16, y.2⟩) ++
    (List.range 72).flatMap (t.regionFlaws all) ++ all.flatMap (t.storeFlaws x.window) ++
    flawIf (t.usesManagerGroup x) ⟨some 0x4323, 0, 0⟩ ++ t.placementFlaws all ++
    flawIf (t.standbyBad x all) ⟨some 0x4326, 0, 0⟩

/-- The image at an index is refused; its load has failed (R184, R584). -/
def imageRefuse (s : State) (x : Image) : State := s.setImage { x with state := 4, progress := { x.progress with state := 3 } }

/-- The event of a failing check; no memory for the image's DRAM regions is an event of the DRAM (R426). -/
def flawLog (s : State) (f : Flaw) : State :=
  match f.code with
  | none => s
  | some c => s.log (if c = 0x2209 then .ddr else .app) 0 c srcManager f.p0 f.p1

/-- IMAGE_LOAD_DONE: the image stands in DRAM and passes every check, or its load failed (R184, R584). -/
def loadDone (s : State) (i : Nat) (good : Bool) : State :=
  match s.imageAt i with
  | some x =>
    if x.state ≠ 1 then s
    else
      let bytes := s.rdBytes x.source x.length
      let fits := match x.crc with
        | some c => decide (crc32c bytes = c)
        | none => true
      if !(good && fits) then s.imageRefuse x
      else match firstFlaw (s.imageFlaws x.info bytes) with
        | some f => (s.flawLog f).imageRefuse x
        | none => (s.wrBytes x.info.base bytes).setImage { x with
            state := 2, progress := { x.progress with state := 2, position := x.length } }
  | none => s

end State

/-- IMAGE_LOAD_DONE (R584). -/
def execImageLoadDone (index : Fin 64) (good : Bool) (s : State) : Result := s.done (s.loadDone index.val good)

end Sys2Proof.Machine
end

