-- ==== Sys2Proof/Machine/Dispatch.lean ====
section
/-! DEFINITION. Dispatch: one arm per command. -/

namespace Sys2Proof.Machine

def exec (i : Instr) (s : State) : Host.Outcome State Fault Refusal :=
  match i with
  | .registerWrite core addr value => Sys2Proof.Machine.execRegisterWrite core addr value s
  | .lowWordRead core addr => Sys2Proof.Machine.execLowWordRead core addr s
  | .dictRead slot index sub len => Sys2Proof.Machine.execDictRead slot index sub len s
  | .dictWrite slot index sub data image saved => Sys2Proof.Machine.execDictWrite slot index sub data image saved s
  | .commitStaged => Sys2Proof.Machine.execCommitStaged s
  | .discardStaged => Sys2Proof.Machine.execDiscardStaged s
  | .flashParamSave ok => Sys2Proof.Machine.execFlashParamSave ok s
  | .storeParameters slot value ok => Sys2Proof.Machine.execStoreParameters slot value ok s
  | .restoreDefaults slot value => Sys2Proof.Machine.execRestoreDefaults slot value s
  | .tbLoad => Sys2Proof.Machine.execTbLoad s
  | .tbSlewCode => Sys2Proof.Machine.execTbSlewCode s
  | .replicaCompare differs => Sys2Proof.Machine.execReplicaCompare differs s
  | .tbCompareFire tile => Sys2Proof.Machine.execTbCompareFire tile s
  | .stepRun slot => Sys2Proof.Machine.execStepRun slot s
  | .stepHalt => Sys2Proof.Machine.execStepHalt s
  | .stepLaunch => Sys2Proof.Machine.execStepLaunch s
  | .quiescenceWave => Sys2Proof.Machine.execQuiescenceWave s
  | .neuronScan tile ecc => Sys2Proof.Machine.execNeuronScan tile ecc s
  | .stepClose => Sys2Proof.Machine.execStepClose s
  | .deadlineForcedClose => Sys2Proof.Machine.execDeadlineForcedClose s
  | .stretchLimitClose => Sys2Proof.Machine.execStretchLimitClose s
  | .freeRunWatchdogFire => Sys2Proof.Machine.execFreeRunWatchdogFire s
  | .switchRequest => Sys2Proof.Machine.execSwitchRequest s
  | .imageSwitchLoadDone => Sys2Proof.Machine.execImageSwitchLoadDone s
  | .switchVoteTimeout worker => Sys2Proof.Machine.execSwitchVoteTimeout worker s
  | .contextEnable tile ctx value => Sys2Proof.Machine.execContextEnable tile ctx value s
  | .contextDisable tile ctx value => Sys2Proof.Machine.execContextDisable tile ctx value s
  | .contextFieldWrite tile ctx reg value => Sys2Proof.Machine.execContextFieldWrite tile ctx reg value s
  | .neWindowWrite tile value => Sys2Proof.Machine.execNeWindowWrite tile value s
  | .matchRecord tile ecc => Sys2Proof.Machine.execMatchRecord tile ecc s
  | .engineTakeJob tile ecc => Sys2Proof.Machine.execEngineTakeJob tile ecc s
  | .accumulateContribution tile ecc => Sys2Proof.Machine.execAccumulateContribution tile ecc s
  | .areaClearDone pod slot => Sys2Proof.Machine.execAreaClearDone pod slot s
  | .windowApplicationDone tile => Sys2Proof.Machine.execWindowApplicationDone tile s
  | .projCtrlWrite pod slot value => Sys2Proof.Machine.execProjCtrlWrite pod slot value s
  | .learningPass pod => Sys2Proof.Machine.execLearningPass pod s
  | .plEnableWrite pod slot value => Sys2Proof.Machine.execPlEnableWrite pod slot value s
  | .modqPush value => Sys2Proof.Machine.execModqPush value s
  | .driftReset slot => Sys2Proof.Machine.execDriftReset slot s
  | .pipRoute router crc => Sys2Proof.Machine.execPipRoute router crc s
  | .pipInject router => Sys2Proof.Machine.execPipInject router s
  | .edgeReturnPip row => Sys2Proof.Machine.execEdgeReturnPip row s
  | .edgeInject row => Sys2Proof.Machine.execEdgeInject row s
  | .nakReceive router port => Sys2Proof.Machine.execNakReceive router port s
  | .linkDownSignal router port => Sys2Proof.Machine.execLinkDownSignal router port s
  | .echoReceive node => Sys2Proof.Machine.execEchoReceive node s
  | .stormNoticeReceive node => Sys2Proof.Machine.execStormNoticeReceive node s
  | .throttleIncrease node => Sys2Proof.Machine.execThrottleIncrease node s
  | .delayStoreWrite router => Sys2Proof.Machine.execDelayStoreWrite router s
  | .delayStoreRelease router poisoned => Sys2Proof.Machine.execDelayStoreRelease router poisoned s
  | .mcEntryWrite router value remap => Sys2Proof.Machine.execMcEntryWrite router value remap s
  | .spillRegionWrite router isLen value => Sys2Proof.Machine.execSpillRegionWrite router isLen value s
  | .regReadRequest tile ecc => Sys2Proof.Machine.execRegReadRequest tile ecc s
  | .regWriteRequest tile ecc => Sys2Proof.Machine.execRegWriteRequest tile ecc s
  | .regResponseReceive row => Sys2Proof.Machine.execRegResponseReceive row s
  | .scmBeatRoute router ecc => Sys2Proof.Machine.execScmBeatRoute router ecc s
  | .scmCheck => Sys2Proof.Machine.execScmCheck s
  | .scmCheckDone => Sys2Proof.Machine.execScmCheckDone s
  | .scmSwap => Sys2Proof.Machine.execScmSwap s
  | .scmLinkFail router port => Sys2Proof.Machine.execScmLinkFail router port s
  | .dramFetchComplete engine desc burst first again => Sys2Proof.Machine.execDramFetchComplete engine desc burst first again s
  | .writeDrainComplete engine => Sys2Proof.Machine.execWriteDrainComplete engine s
  | .unionRunsReady pod => Sys2Proof.Machine.execUnionRunsReady pod s
  | .openRx unit index => Sys2Proof.Machine.execOpenRx unit index s
  | .fillMapCleared unit index => Sys2Proof.Machine.execFillMapCleared unit index s
  | .resetRx unit index => Sys2Proof.Machine.execResetRx unit index s
  | .closeQueue unit index => Sys2Proof.Machine.execCloseQueue unit index s
  | .openTx unit index => Sys2Proof.Machine.execOpenTx unit index s
  | .ackEpoch unit index => Sys2Proof.Machine.execAckEpoch unit index s
  | .queueSend unit index => Sys2Proof.Machine.execQueueSend unit index s
  | .creditReturnReceive unit => Sys2Proof.Machine.execCreditReturnReceive unit s
  | .creditRevokeReceive unit => Sys2Proof.Machine.execCreditRevokeReceive unit s
  | .messageReceive unit ecc => Sys2Proof.Machine.execMessageReceive unit ecc s
  | .queuePop unit index count => Sys2Proof.Machine.execQueuePop unit index count s
  | .creditReturnSend unit index => Sys2Proof.Machine.execCreditReturnSend unit index s
  | .gapScan unit => Sys2Proof.Machine.execGapScan unit s
  | .barrierArrive node ctx => Sys2Proof.Machine.execBarrierArrive node ctx s
  | .barrierRelease ctx => Sys2Proof.Machine.execBarrierRelease ctx s
  | .barMemberWrite node hi value => Sys2Proof.Machine.execBarMemberWrite node hi value s
  | .redCfgWrite lane value => Sys2Proof.Machine.execRedCfgWrite lane value s
  | .faultReportFile node suspect => Sys2Proof.Machine.execFaultReportFile node suspect s
  | .faultWave => Sys2Proof.Machine.execFaultWave s
  | .faultReportTake => Sys2Proof.Machine.execFaultReportTake s
  | .scrubRow site bank ecc => Sys2Proof.Machine.execScrubRow site bank ecc s
  | .tamperAssert input => Sys2Proof.Machine.execTamperAssert input s
  | .huskWipeDone => Sys2Proof.Machine.execHuskWipeDone s
  | .sealRequest => Sys2Proof.Machine.execSealRequest s
  | .sealGapExpire => Sys2Proof.Machine.execSealGapExpire s
  | .sramClearDone us => Sys2Proof.Machine.execSramClearDone us s
  | .dramReadRetry burst again => Sys2Proof.Machine.execDramReadRetry burst again s
  | .pageCopyDone sub bad => Sys2Proof.Machine.execPageCopyDone sub bad s
  | .subchannelRetire sub => Sys2Proof.Machine.execSubchannelRetire sub s
  | .mapReform => Sys2Proof.Machine.execMapReform s
  | .patrolRead sub first again => Sys2Proof.Machine.execPatrolRead sub first again s
  | .fullScrubStart quad => Sys2Proof.Machine.execFullScrubStart quad s
  | .fullScrubAbort => Sys2Proof.Machine.execFullScrubAbort s
  | .fillGranule => Sys2Proof.Machine.execFillGranule s
  | .streamContextEnable ctx value => Sys2Proof.Machine.execStreamContextEnable ctx value s
  | .streamContextDisable ctx value => Sys2Proof.Machine.execStreamContextDisable ctx value s
  | .hubEnableWrite value => Sys2Proof.Machine.execHubEnableWrite value s
  | .csiFrameStart receiver channel ecc => Sys2Proof.Machine.execCsiFrameStart receiver channel ecc s
  | .csiLongPacket receiver channel type ecc crcOk payload => Sys2Proof.Machine.execCsiLongPacket receiver channel type ecc crcOk payload s
  | .csiFrameEnd receiver channel ecc => Sys2Proof.Machine.execCsiFrameEnd receiver channel ecc s
  | .ethFrameReceive port frame fcsOk => Sys2Proof.Machine.execEthFrameReceive port frame fcsOk s
  | .ethFwTransmit port tsReq => Sys2Proof.Machine.execEthFwTransmit port tsReq s
  | .selFrameReceive port ok type subch seq sat fage words room => Sys2Proof.Machine.execSelFrameReceive port ok type subch seq sat fage words room s
  | .selAckReceive port seq inverse => Sys2Proof.Machine.execSelAckReceive port seq inverse s
  | .selNakReceive port seq inverse reason => Sys2Proof.Machine.execSelNakReceive port seq inverse reason s
  | .selBusyWaitExpire port => Sys2Proof.Machine.execSelBusyWaitExpire port s
  | .selAckTimeout port => Sys2Proof.Machine.execSelAckTimeout port s
  | .selIdleSetReceive port valid => Sys2Proof.Machine.execSelIdleSetReceive port valid s
  | .selTsReceive port data sent => Sys2Proof.Machine.execSelTsReceive port data sent s
  | .selAlignTimeout port => Sys2Proof.Machine.execSelAlignTimeout port s
  | .selTrainTimeout port => Sys2Proof.Machine.execSelTrainTimeout port s
  | .selCommaLoss port => Sys2Proof.Machine.execSelCommaLoss port s
  | .selRetrain port => Sys2Proof.Machine.execSelRetrain port s
  | .selEnable port => Sys2Proof.Machine.execSelEnable port s
  | .selSleepReq port => Sys2Proof.Machine.execSelSleepReq port s
  | .selWakeDetect port => Sys2Proof.Machine.execSelWakeDetect port s
  | .selCmdSend port len => Sys2Proof.Machine.execSelCmdSend port len s
  | .gpioInputChange pin high samples => Sys2Proof.Machine.execGpioInputChange pin high samples s
  | .gpioStuckExpire pin => Sys2Proof.Machine.execGpioStuckExpire pin s
  | .guardQueueCandidate channel => Sys2Proof.Machine.execGuardQueueCandidate channel s
  | .guardWriteCandidate channel value => Sys2Proof.Machine.execGuardWriteCandidate channel value s
  | .guardGapExpire channel => Sys2Proof.Machine.execGuardGapExpire channel s
  | .guardSilenceExpire channel => Sys2Proof.Machine.execGuardSilenceExpire channel s
  | .guardForceSafeWrite channel on => Sys2Proof.Machine.execGuardForceSafeWrite channel on s
  | .canFrameReceive bus frame remote => Sys2Proof.Machine.execCanFrameReceive bus frame remote s
  | .rpdoAuditFlush => Sys2Proof.Machine.execRpdoAuditFlush s
  | .canRawTransmit bus cls => Sys2Proof.Machine.execCanRawTransmit bus cls s
  | .tpdoTrigger bus tpdo => Sys2Proof.Machine.execTpdoTrigger bus tpdo s
  | .canTokenAvailable bus => Sys2Proof.Machine.execCanTokenAvailable bus s
  | .canBusoffRecovery bus => Sys2Proof.Machine.execCanBusoffRecovery bus s
  | .canStandbyFailover => Sys2Proof.Machine.execCanStandbyFailover s
  | .canStandbyReturn => Sys2Proof.Machine.execCanStandbyReturn s
  | .canRxPop bus => Sys2Proof.Machine.execCanRxPop bus s
  | .heartbeatProduce => Sys2Proof.Machine.execHeartbeatProduce s
  | .heartbeatConsumerTimeout entry slot => Sys2Proof.Machine.execHeartbeatConsumerTimeout entry slot s
  | .errorRegisterClear bit => Sys2Proof.Machine.execErrorRegisterClear bit s
  | .mailboxDoorbell image saved => Sys2Proof.Machine.execMailboxDoorbell image saved s
  | .bar0Access offset value enables => Sys2Proof.Machine.execBar0Access offset value enables s
  | .bar2Access offset value enables => Sys2Proof.Machine.execBar2Access offset value enables s
  | .bar4Access offset value enables ecc => Sys2Proof.Machine.execBar4Access offset value enables ecc s
  | .hostWinBaseWrite gib => Sys2Proof.Machine.execHostWinBaseWrite gib s
  | .pcieReset kind => Sys2Proof.Machine.execPcieReset kind s
  | .dmaTailWrite channel index => Sys2Proof.Machine.execDmaTailWrite channel index s
  | .dmaDescriptorDone channel ctrl length host dev data error => Sys2Proof.Machine.execDmaDescriptorDone channel ctrl length host dev data error s
  | .dmaResume channel => Sys2Proof.Machine.execDmaResume channel s
  | .hostOringReadWrite index => Sys2Proof.Machine.execHostOringReadWrite index s
  | .tlkControlFlit port flit => Sys2Proof.Machine.execTlkControlFlit port flit s
  | .tlkPacketReceive port header flits codeError => Sys2Proof.Machine.execTlkPacketReceive port header flits codeError s
  | .tlkAckReceive port seq => Sys2Proof.Machine.execTlkAckReceive port seq s
  | .tlkNakReceive port seq => Sys2Proof.Machine.execTlkNakReceive port seq s
  | .tlkReplayTimeout port => Sys2Proof.Machine.execTlkReplayTimeout port s
  | .tlkCreditReceive port counters => Sys2Proof.Machine.execTlkCreditReceive port counters s
  | .tlkTransmitPip port => Sys2Proof.Machine.execTlkTransmitPip port s
  | .tlkTsReceive port flit => Sys2Proof.Machine.execTlkTsReceive port flit s
  | .tlkStateTimeout port => Sys2Proof.Machine.execTlkStateTimeout port s
  | .tlkMarkLoss port => Sys2Proof.Machine.execTlkMarkLoss port s
  | .tlkRetrain port => Sys2Proof.Machine.execTlkRetrain port s
  | .tlkEnable port => Sys2Proof.Machine.execTlkEnable port s
  | .tlkSleepReq port => Sys2Proof.Machine.execTlkSleepReq port s
  | .tlkWakeDetect port => Sys2Proof.Machine.execTlkWakeDetect port s
  | .timeExchangeStart port => Sys2Proof.Machine.execTimeExchangeStart port s
  | .timeFlitReceive port flit => Sys2Proof.Machine.execTimeFlitReceive port flit s
  | .syncArmReceive port => Sys2Proof.Machine.execSyncArmReceive port s
  | .syncWaveReceive port => Sys2Proof.Machine.execSyncWaveReceive port s
  | .syncResultReceive port => Sys2Proof.Machine.execSyncResultReceive port s
  | .syncUpdateReceive port => Sys2Proof.Machine.execSyncUpdateReceive port s
  | .syncDoneReceive port => Sys2Proof.Machine.execSyncDoneReceive port s
  | .syncSwitchReceive port => Sys2Proof.Machine.execSyncSwitchReceive port s
  | .syncVoteReceive port => Sys2Proof.Machine.execSyncVoteReceive port s
  | .syncRejoinReceive port => Sys2Proof.Machine.execSyncRejoinReceive port s
  | .workerIsolate cause => Sys2Proof.Machine.execWorkerIsolate cause s
  | .workerLost worker => Sys2Proof.Machine.execWorkerLost worker s
  | .dictProxyReceive port image saved => Sys2Proof.Machine.execDictProxyReceive port image saved s
  | .gatewayExecute slot worker value => Sys2Proof.Machine.execGatewayExecute slot worker value s
  | .gatewayTimeout worker => Sys2Proof.Machine.execGatewayTimeout worker s
  | .fwPacketReceive port => Sys2Proof.Machine.execFwPacketReceive port s
  | .workerFwTimeout => Sys2Proof.Machine.execWorkerFwTimeout s
  | .loginChallenge slot role => Sys2Proof.Machine.execLoginChallenge slot role s
  | .loginVerify slot role => Sys2Proof.Machine.execLoginVerify slot role s
  | .challengeExpire slot => Sys2Proof.Machine.execChallengeExpire slot s
  | .logout slot => Sys2Proof.Machine.execLogout slot s
  | .sessionIdleTimeout slot => Sys2Proof.Machine.execSessionIdleTimeout slot s
  | .lockoutExpire role => Sys2Proof.Machine.execLockoutExpire role s
  | .authWrite slot => Sys2Proof.Machine.execAuthWrite slot s
  | .lifecycleRequest slot target => Sys2Proof.Machine.execLifecycleRequest slot target s
  | .lifecycleConfirm slot value => Sys2Proof.Machine.execLifecycleConfirm slot value s
  | .lifecycleConfirmTimeout => Sys2Proof.Machine.execLifecycleConfirmTimeout s
  | .auditAppend value => Sys2Proof.Machine.execAuditAppend value s
  | .auditExportRead slot len => Sys2Proof.Machine.execAuditExportRead slot len s
  | .imageLoadFlash slot entry info => Sys2Proof.Machine.execImageLoadFlash slot entry info s
  | .imageLoadDram slot addr info => Sys2Proof.Machine.execImageLoadDram slot addr info s
  | .imageLoadDone index good => Sys2Proof.Machine.execImageLoadDone index good s
  | .imageUnload slot => Sys2Proof.Machine.execImageUnload slot s
  | .coldStart fuses xtal testen ddr => Sys2Proof.Machine.execColdStart fuses xtal testen ddr s
  | .porstAssert => Sys2Proof.Machine.execPorstAssert s
  | .bistStart => Sys2Proof.Machine.execBistStart s
  | .bistDone tiles pods => Sys2Proof.Machine.execBistDone tiles pods s
  | .ddrTrainStep sub step rank => Sys2Proof.Machine.execDdrTrainStep sub step rank s
  | .ddrTrainStepDone sub pass lane found => Sys2Proof.Machine.execDdrTrainStepDone sub pass lane found s
  | .ddrModeRegisterAccess sub value => Sys2Proof.Machine.execDdrModeRegisterAccess sub value s
  | .memoryTestStart quad value => Sys2Proof.Machine.execMemoryTestStart quad value s
  | .memoryTestAbort quad => Sys2Proof.Machine.execMemoryTestAbort quad s
  | .retentionHoldExpire quad => Sys2Proof.Machine.execRetentionHoldExpire quad s
  | .memoryTestDone quad bad => Sys2Proof.Machine.execMemoryTestDone quad bad s
  | .trainSetSeal temp => Sys2Proof.Machine.execTrainSetSeal temp s
  | .trainSetCheck => Sys2Proof.Machine.execTrainSetCheck s
  | .fwChunkReceive tile => Sys2Proof.Machine.execFwChunkReceive tile s
  | .fwReport tile => Sys2Proof.Machine.execFwReport tile s
  | .fwRelease tile => Sys2Proof.Machine.execFwRelease tile s
  | .powerStateRequest target slot => Sys2Proof.Machine.execPowerStateRequest target slot s
  | .halfClockRequest split direct => Sys2Proof.Machine.execHalfClockRequest split direct s
  | .coreClockWrite half mhz direct => Sys2Proof.Machine.execCoreClockWrite half mhz direct s
  | .pllRelockDone half => Sys2Proof.Machine.execPllRelockDone half s
  | .railVoutPoll rail mv fault => Sys2Proof.Machine.execRailVoutPoll rail mv fault s
  | .railConfirmTimeout rail => Sys2Proof.Machine.execRailConfirmTimeout rail s
  | .pmbRawTransaction value => Sys2Proof.Machine.execPmbRawTransaction value s
  | .pmbTransactionDone ok data => Sys2Proof.Machine.execPmbTransactionDone ok data s
  | .railPowerGood rail => Sys2Proof.Machine.execRailPowerGood rail s
  | .railPgTimeout rail => Sys2Proof.Machine.execRailPgTimeout rail s
  | .sequenceRetry => Sys2Proof.Machine.execSequenceRetry s
  | .railPgLoss rail => Sys2Proof.Machine.execRailPgLoss rail s
  | .wakeEvent cycles seen => Sys2Proof.Machine.execWakeEvent cycles seen s
  | .wakeTimerMatch => Sys2Proof.Machine.execWakeTimerMatch s
  | .governorInterval power withheld => Sys2Proof.Machine.execGovernorInterval power withheld s
  | .governorCorrection reads => Sys2Proof.Machine.execGovernorCorrection reads s
  | .thermalSample west east => Sys2Proof.Machine.execThermalSample west east s
  | .throttleStep half => Sys2Proof.Machine.execThrottleStep half s
  | .updateBegin slot => Sys2Proof.Machine.execUpdateBegin slot s
  | .updateData slot offset data => Sys2Proof.Machine.execUpdateData slot offset data s
  | .updateVerifyWrite slot => Sys2Proof.Machine.execUpdateVerifyWrite slot s
  | .updateApplyDone => Sys2Proof.Machine.execUpdateApplyDone s
  | .updateActivate slot => Sys2Proof.Machine.execUpdateActivate slot s
  | .updateAbort slot => Sys2Proof.Machine.execUpdateAbort slot s
  | .fwActivate hart => Sys2Proof.Machine.execFwActivate hart s
  | .fwSwap hart => Sys2Proof.Machine.execFwSwap hart s
  | .fwConfirm hart => Sys2Proof.Machine.execFwConfirm hart s
  | .fwFallbackCommand hart => Sys2Proof.Machine.execFwFallbackCommand hart s
  | .fwOpenInactive hart => Sys2Proof.Machine.execFwOpenInactive hart s
  | .sigCheckStart region => Sys2Proof.Machine.execSigCheckStart region s
  | .sigCheckDone => Sys2Proof.Machine.execSigCheckDone s
  | .fallbackTimerExpire => Sys2Proof.Machine.execFallbackTimerExpire s
  | .handoverReadyTimeout => Sys2Proof.Machine.execHandoverReadyTimeout s
  | .flashProgramCommand offset eraseLen data => Sys2Proof.Machine.execFlashProgramCommand offset eraseLen data s
  | .fwSwitchArm gen => Sys2Proof.Machine.execFwSwitchArm gen s
  | .chkStart unit owner => Sys2Proof.Machine.execChkStart unit owner s
  | .chkAbort unit owner => Sys2Proof.Machine.execChkAbort unit owner s
  | .chkJobDone unit => Sys2Proof.Machine.execChkJobDone unit s
  | .chkSecurityClaim => Sys2Proof.Machine.execChkSecurityClaim s
  | .chkProfileReset unit prof => Sys2Proof.Machine.execChkProfileReset unit prof s
  | .timerCountEvent timer events => Sys2Proof.Machine.execTimerCountEvent timer events s
  | .timerStart timer => Sys2Proof.Machine.execTimerStart timer s
  | .timerStop timer => Sys2Proof.Machine.execTimerStop timer s
  | .timerReset timer => Sys2Proof.Machine.execTimerReset timer s
  | .timerResetStart timer => Sys2Proof.Machine.execTimerResetStart timer s
  | .timerLoad timer => Sys2Proof.Machine.execTimerLoad timer s
  | .timerCapture timer intoB => Sys2Proof.Machine.execTimerCapture timer intoB s
  | .timerSlaveAction timer => Sys2Proof.Machine.execTimerSlaveAction timer s
  | .timerCaptureSource timer intoB source => Sys2Proof.Machine.execTimerCaptureSource timer intoB source s
  | .timerHeadRead timer => Sys2Proof.Machine.execTimerHeadRead timer s
  | .timerCaptureRead timer ofB => Sys2Proof.Machine.execTimerCaptureRead timer ofB s
  | .timerConfigWrite timer which value => Sys2Proof.Machine.execTimerConfigWrite timer which value s
  | .watchdogKick hart value => Sys2Proof.Machine.execWatchdogKick hart value s
  | .watchdogExpire => Sys2Proof.Machine.execWatchdogExpire s
  | .linkRetrainDone router port ok => Sys2Proof.Machine.execLinkRetrainDone router port ok s
  | .heartbeatTimeout tile => Sys2Proof.Machine.execHeartbeatTimeout tile s
  | .engineTimeout tile engine => Sys2Proof.Machine.execEngineTimeout tile engine s
  | .firmwareFenceWrite word value => Sys2Proof.Machine.execFirmwareFenceWrite word value s
  | .remapStart ltile => Sys2Proof.Machine.execRemapStart ltile s
  | .remapRestoreDone => Sys2Proof.Machine.execRemapRestoreDone s
  | .remapSwitch => Sys2Proof.Machine.execRemapSwitch s
  | .eventLogAppend => Sys2Proof.Machine.execEventLogAppend s
  | .firmwareLogAppend => Sys2Proof.Machine.execFirmwareLogAppend s
  | .opsLatchRead tile => Sys2Proof.Machine.execOpsLatchRead tile s
  | .counterClear tile => Sys2Proof.Machine.execCounterClear tile s
  | .traceWrite => Sys2Proof.Machine.execTraceWrite s
  | .waitDeclare tile value => Sys2Proof.Machine.execWaitDeclare tile value s
  | .hangAnalysisStart => Sys2Proof.Machine.execHangAnalysisStart s
  | .hangAnalysisSecondRead => Sys2Proof.Machine.execHangAnalysisSecondRead s
  | .jtagExtest pins shift => Sys2Proof.Machine.execJtagExtest pins shift s
  | .jtagSamplePreload pins shift => Sys2Proof.Machine.execJtagSamplePreload pins shift s
  | .jtagIdcode => Sys2Proof.Machine.execJtagIdcode s
  | .jtagUnlockChal role => Sys2Proof.Machine.execJtagUnlockChal role s
  | .jtagUnlockResp response => Sys2Proof.Machine.execJtagUnlockResp response s
  | .jtagDbgStatus => Sys2Proof.Machine.execJtagDbgStatus s
  | .jtagDbgAccess addr data write ecc => Sys2Proof.Machine.execJtagDbgAccess addr data write ecc s
  | .jtagBypass code => Sys2Proof.Machine.execJtagBypass code s
  | .trstAssert => Sys2Proof.Machine.execTrstAssert s
  | .jtagIdleTimeout => Sys2Proof.Machine.execJtagIdleTimeout s
  | .injectionArm slot => Sys2Proof.Machine.execInjectionArm slot s
  | .injectionDisarm slot => Sys2Proof.Machine.execInjectionDisarm slot s
  | .tbRateCode => Sys2Proof.Machine.execTbRateCode s
  | .vaonLoss => Sys2Proof.Machine.execVaonLoss s
  | .railPowerGoodFall rail => Sys2Proof.Machine.execRailPowerGoodFall rail s
  | .codeGroupErrors port => Sys2Proof.Machine.execCodeGroupErrors port s
  | .syncHeaderLock port lanes => Sys2Proof.Machine.execSyncHeaderLock port lanes s
  | .syncHeaderErrors port => Sys2Proof.Machine.execSyncHeaderErrors port s
  | .canBusError bus tec rec => Sys2Proof.Machine.execCanBusError bus tec rec s
  | .canFrameTransmitted bus => Sys2Proof.Machine.execCanFrameTransmitted bus s
  | .ethLinkChange port up => Sys2Proof.Machine.execEthLinkChange port up s
  | .pcieLinkUp speed width bme => Sys2Proof.Machine.execPcieLinkUp speed width bme s
  | .highWaterRead core addr => Sys2Proof.Machine.execHighWaterRead core addr s
  | .ptpInfoRead port tx => Sys2Proof.Machine.execPtpInfoRead port tx s
  | .fullScrubRead sub first again => Sys2Proof.Machine.execFullScrubRead sub first again s

end Sys2Proof.Machine
end

