-- ==== Sys2Proof/Safety.lean ====
section
/-! DEFINITION. What counts as safe: the canonical forms that make equal machines equal data, a legal NMT state, a step that
goes on, and an egress channel that keeps its output inside its bounds. -/

namespace Sys2Proof

/-- Commands of which no form stores a byte of memory. -/
def Instr.neverStores : Instr → Bool
  | .lowWordRead .. | .commitStaged .. | .discardStaged .. | .tbLoad .. | .tbSlewCode .. | .replicaCompare ..
  | .tbCompareFire .. | .stepHalt .. | .freeRunWatchdogFire .. | .switchVoteTimeout .. | .contextEnable ..
  | .contextDisable .. | .contextFieldWrite .. | .neWindowWrite .. | .projCtrlWrite .. | .plEnableWrite .. | .modqPush ..
  | .edgeReturnPip .. | .edgeInject .. | .nakReceive .. | .linkDownSignal .. | .echoReceive .. | .stormNoticeReceive ..
  | .throttleIncrease .. | .delayStoreRelease .. | .mcEntryWrite .. | .spillRegionWrite .. | .scmCheck .. | .scmCheckDone ..
  | .scmSwap .. | .openRx .. | .resetRx .. | .closeQueue .. | .openTx .. | .ackEpoch .. | .queueSend ..
  | .creditReturnReceive .. | .creditRevokeReceive .. | .queuePop .. | .creditReturnSend .. | .gapScan .. | .barrierArrive ..
  | .barrierRelease .. | .barMemberWrite .. | .redCfgWrite .. | .faultReportFile .. | .faultWave .. | .sealRequest ..
  | .sealGapExpire .. | .fullScrubAbort .. | .streamContextEnable .. | .streamContextDisable .. | .hubEnableWrite ..
  | .ethFwTransmit .. | .selAckReceive .. | .selNakReceive .. | .selBusyWaitExpire .. | .selAckTimeout ..
  | .selIdleSetReceive .. | .selTsReceive .. | .selAlignTimeout .. | .selTrainTimeout .. | .selCommaLoss .. | .selRetrain ..
  | .selEnable .. | .selSleepReq .. | .selWakeDetect .. | .selCmdSend .. | .canRawTransmit .. | .tpdoTrigger ..
  | .canTokenAvailable .. | .canBusoffRecovery .. | .canStandbyFailover .. | .canStandbyReturn .. | .canRxPop ..
  | .heartbeatProduce .. | .errorRegisterClear .. | .hostWinBaseWrite .. | .dmaTailWrite .. | .dmaResume ..
  | .hostOringReadWrite .. | .tlkAckReceive .. | .tlkNakReceive .. | .tlkReplayTimeout .. | .tlkCreditReceive ..
  | .tlkTransmitPip .. | .tlkStateTimeout .. | .tlkMarkLoss .. | .tlkRetrain .. | .tlkEnable .. | .tlkSleepReq ..
  | .tlkWakeDetect .. | .timeExchangeStart .. | .timeFlitReceive .. | .syncWaveReceive .. | .syncDoneReceive ..
  | .syncSwitchReceive .. | .syncRejoinReceive .. | .gatewayTimeout .. | .fwPacketReceive .. | .workerFwTimeout ..
  | .loginChallenge .. | .challengeExpire .. | .lockoutExpire .. | .lifecycleConfirmTimeout .. | .coldStart ..
  | .bistStart .. | .ddrTrainStep .. | .ddrModeRegisterAccess .. | .memoryTestStart .. | .memoryTestAbort ..
  | .retentionHoldExpire .. | .trainSetCheck .. | .fwReport .. | .halfClockRequest .. | .coreClockWrite ..
  | .pllRelockDone .. | .railVoutPoll .. | .railConfirmTimeout .. | .pmbRawTransaction .. | .pmbTransactionDone ..
  | .railPowerGood .. | .railPgTimeout .. | .sequenceRetry .. | .wakeEvent .. | .wakeTimerMatch .. | .governorInterval ..
  | .governorCorrection .. | .throttleStep .. | .sigCheckStart .. | .sigCheckDone .. | .handoverReadyTimeout ..
  | .fwSwitchArm .. | .chkStart .. | .chkAbort .. | .chkSecurityClaim .. | .chkProfileReset .. | .timerCountEvent ..
  | .timerStart .. | .timerStop .. | .timerReset .. | .timerResetStart .. | .timerLoad .. | .timerCapture ..
  | .timerSlaveAction .. | .timerCaptureSource .. | .timerHeadRead .. | .timerCaptureRead .. | .timerConfigWrite ..
  | .linkRetrainDone .. | .heartbeatTimeout .. | .engineTimeout .. | .firmwareFenceWrite .. | .remapStart ..
  | .firmwareLogAppend .. | .opsLatchRead .. | .counterClear .. | .waitDeclare .. | .hangAnalysisStart ..
  | .hangAnalysisSecondRead .. | .jtagIdleTimeout .. | .tbRateCode .. | .codeGroupErrors .. | .syncHeaderLock ..
  | .syncHeaderErrors .. | .canBusError .. | .canFrameTransmitted .. | .ethLinkChange .. | .pcieLinkUp .. | .highWaterRead ..
  | .ptpInfoRead .. => true
  | _ => false

/-- Commands through which the NMT state may change: what resets the block, an NMT command on the bus, and a write through the
dictionary or of a register that starts one of these. -/
def Instr.mayChangeNmt : Instr → Bool
  | .registerWrite .. | .dictWrite .. | .driftReset .. | .regReadRequest .. | .regWriteRequest .. | .regResponseReceive ..
  | .canFrameReceive .. | .mailboxDoorbell .. | .bar0Access .. | .dictProxyReceive .. | .porstAssert .. | .fwRelease ..
  | .powerStateRequest .. | .railPgLoss .. | .thermalSample .. | .jtagExtest .. | .jtagSamplePreload .. | .jtagIdcode ..
  | .jtagUnlockChal .. | .jtagUnlockResp .. | .jtagDbgStatus .. | .jtagDbgAccess .. | .jtagBypass .. | .trstAssert ..
  | .vaonLoss .. | .railPowerGoodFall .. => true
  | _ => false

end Sys2Proof

namespace Sys2Proof.Machine

/-- Memory in its canonical form: addresses rise, and no entry is what an unlisted address reads as. -/
def Memory.wf (m : List (Nat × Byte)) : Bool := Sparse.wf (fun _ => 0) m

/-- A register file in its canonical form: addresses rise, and no entry is the register's reset value. -/
def Registers.wf (l : List (Nat × Word)) : Bool := Sparse.wf RegMap.resetAt l

/-- The values of dictionary objects in their canonical form: keys rise, and no entry is its object's default. -/
def Objects.wf (m : Nums) : Bool := Sparse.wf ObjMap.dflt m

/-- A table of numbers in its canonical form: keys rise, and no entry is 0. -/
def Nums.wf (m : Nums) : Bool := Sparse.wf (fun _ => 0) m

/-- The NMT state is one that CiA 301 names: pre-operational, operational or stopped (R528, R529). -/
def State.nmtLegal (s : State) : Prop := s.nmt = 127 ∨ s.nmt = 5 ∨ s.nmt = 4

/-- What every step keeps: the stores of the state are in their canonical forms, so that equal machines are equal data, and
the NMT state is a legal one. -/
structure State.Sound (s : State) : Prop where
  regs : Registers.wf s.regs = true
  scanRegs : Registers.wf s.scanRegs = true
  mem : Memory.wf s.mem = true
  objs : Objects.wf s.objs = true
  latches : Nums.wf s.latches = true
  selectors : Nums.wf s.selectors = true
  nmt : s.nmtLegal

/-- Command `c` completes from `s`: `exec` answers a next state with the waiting commands as they were, of which `P` holds. -/
def State.completes (s : State) (c : Instr) (P : State → Prop) : Prop :=
  ∃ t, exec c s = .next t ∧ t.pending = s.pending ∧ P t

/-- Every register but those at the addresses of `A` holds in `t` what it holds in `s`. -/
def State.sameRegs (s t : State) (A : List Nat) : Prop := ∀ a, a ∉ A → t.reg a = s.reg a

/-- Every byte of memory reads in `t` as it reads in `s`. -/
def State.sameBytes (s t : State) : Prop := ∀ a, t.rd8 a = s.rd8 a

/-- Every byte of memory but the `n` bytes from `lo` on reads in `t` as it reads in `s`. -/
def State.sameBytesBut (s t : State) (lo n : Nat) : Prop := ∀ a, a < lo ∨ lo + n ≤ a → t.rd8 a = s.rd8 a

/-- No timer counts the start of timer `n`: none above it cascades from it on event 1 (R676). -/
def State.startsAlone (s : State) (n : Nat) : Prop :=
  ∀ u, u < 16 → n < u → ¬(s.get (Reg.TMR_CFG_SRC u) = 3 ∧ s.get (Reg.TMR_TRIG_MASTER u) = n ∧
    s.get (Reg.TMR_TRIG_MEVENT u) = 1)

/-- No timer cascades from timer `n` (R676). -/
def State.feedsNone (s : State) (n : Nat) : Prop :=
  ∀ u, u < 16 → n < u → ¬(s.get (Reg.TMR_CFG_SRC u) = 3 ∧ s.get (Reg.TMR_TRIG_MASTER u) = n)

/-- A step from a state goes on: no fault, no refusal. -/
def State.goesOn (s : State) : Prop := ∃ t, step s = .next t

/-- An egress channel that is out of its safe state last emitted a value within its bounds (R467). -/
def State.withinBounds (s : State) (n : Nat) : Prop :=
  s.flag (Reg.EGR_CH_STATUS_SAFE n) = true ∨
    (s.egrInt (Reg.EGR_CH_LO n) ≤ s.egrInt (Reg.EGR_CH_LAST n) ∧ s.egrInt (Reg.EGR_CH_LAST n) ≤ s.egrInt (Reg.EGR_CH_HI n))

/-- A register word whose read has no effect but the latching of R12: no high-water, operation, multicast data, latency, timer
or timestamp register. -/
def plainRead (a : Nat) : Bool :=
  !State.hasMark a && (match tileAtAddr a with
    | some t => !(decide (Reg.DBG_OPS0_LO t ≤ a) && decide (a < Reg.DBG_OPS0_LO t + 112)) && a != Reg.EVM_MC_DATA t
    | none => !State.isLatency a && !(decide (0x10D0000 ≤ a) && decide (a < 0x10E0000)) &&
        ([0, 1].all fun n => a != Reg.SEN_ETH_PTP_RX_INFO n && a != Reg.SEN_ETH_PTP_TX_INFO n))

/-- The address of the register that a core's access of `a` reaches at once: a manager hart in the peripheral blocks, and the core
of a tile in the registers of its own tile and pod windows, while neither gating nor being a spare stops it (R41, R44, R46). -/
def State.reaches (s : State) (src : Requester) (a : Nat) : Option Nat :=
  match src with
  | .hart _ _ =>
    if 0x1000000 ≤ a ∧ a < 0x1110000 ∧ !(hostBase + 0x2000 ≤ a ∧ a < hostBase + 0x4200) ∧ !(0x10F1000 ≤ a ∧ a < 0x10F2000)
    then some a else none
  | .tile t =>
    if s.isSpare t || s.coreGated t then none
    else if 0x30000 ≤ a ∧ a < 0x40000 then some (tileBase t + a)
    else if 0x180000 ≤ a ∧ a < 0x200000 then some (podBase (podOf t) + (a - 0x100000))
    else none

end Sys2Proof.Machine
end

