-- ==== Sys2Proof/Certificates/Slice0/Obligations.lean ====
section
/-! DEFINITION. The statements for the provers. First what holds of every command and every state, then for each family of
commands what its commands complete with: under hypotheses on the state and the operands alone, `exec` answers a next state
(`completes`), and what that state holds and leaves as it was. -/

section
open Sys2Proof Sys2Proof.Machine Sys2Proof.Machine.State


/-- The step takes the command at the front of the queue: it is `exec` of that command on the state with the queue's rest. -/
def Obligations.FrontCommandRuns : Prop :=
  ∀ (c : Instr) (rest : List Instr) (s : State),
    step { s with pending := c :: rest } = exec c { s with pending := rest }

/-- On an empty queue the block idles: the model's choice of log entry 7, for the table has no row for the passing of time. -/
def Obligations.EmptyQueueIdles : Prop := ∀ s : State, s.pending = [] → step s = .next s

/-- Every command goes on from every state: no fault, no refusal, and the waiting commands stay as they were. -/
def Obligations.EveryCommandGoesOn : Prop :=
  ∀ (c : Instr) (s : State), ∃ t, exec c s = .next t ∧ t.pending = s.pending

/-- The state after reset is in its canonical forms and in a legal NMT state. -/
def Obligations.ResetIsSound : Prop := State.reset.Sound

/-- What every step keeps from every state that has it: the canonical forms of registers, memory, objects, latches and
selectors, and a legal NMT state. -/
def Obligations.StepKeepsSound : Prop := ∀ s t : State, s.Sound → step s = .next t → t.Sound

/-- Reset values that the register tables give: the step clock is stopped with a period of 1 ms, a session ends after 600 s
without a request, the watchdog waits 1 s, the bounds of every egress channel are the full range, each channel is safe, and
the step number is 0. -/
def Obligations.ResetValues : Prop :=
  State.reset.get Reg.STEP_CTRL_RUN = 0 ∧ State.reset.get Reg.SEC_IDLE_SECONDS = 600 ∧
    State.reset.get Reg.FLT_WDOG_TMO_MS = 1000 ∧ State.reset.stepNum = 0 ∧
    (∀ n, n < 64 → State.reset.egrInt (Reg.EGR_CH_LO n) = -2147483648 ∧
      State.reset.egrInt (Reg.EGR_CH_HI n) = 2147483647 ∧ State.reset.egrInt (Reg.EGR_CH_LAST n) = 0)

/-- The check column of R668: the four fixed algorithms over the nine ASCII bytes "123456789". -/
def Obligations.CheckColumn : Prop :=
  crc 32 0x04C11DB7 0xFFFFFFFF 0xFFFFFFFF true [0x31, 0x32, 0x33, 0x34, 0x35, 0x36, 0x37, 0x38, 0x39] = 0xCBF43926 ∧
    crc 32 0x1EDC6F41 0xFFFFFFFF 0xFFFFFFFF true [0x31, 0x32, 0x33, 0x34, 0x35, 0x36, 0x37, 0x38, 0x39] = 0xE3069283 ∧
    crc 16 0x1021 0xFFFF 0 false [0x31, 0x32, 0x33, 0x34, 0x35, 0x36, 0x37, 0x38, 0x39] = 0x29B1 ∧
    crc 8 0x2F 0xFF 0xFF false [0x31, 0x32, 0x33, 0x34, 0x35, 0x36, 0x37, 0x38, 0x39] = 0xDF

/-- A byte that is stored reads back, and every other byte reads as before, in every state. -/
def Obligations.MemoryReadsBack : Prop :=
  ∀ (s : State) (a x : Nat) (b : Byte), (s.raw8 a b).rd8 x = if x = a then b else s.rd8 x

/-- A register that is written reads back, and every other register reads as before, in every state; the commands' own field
rules stand above this store. -/
def Obligations.RegisterReadsBack : Prop :=
  ∀ (s : State) (a x : Nat) (w : Word), (s.setReg a w).reg x = if x = a then w else s.reg x

/-- The commands that store nothing leave every byte of memory as it was. -/
def Obligations.NonStoringCommandsKeepMemory : Prop :=
  ∀ (c : Instr) (s t : State), c.neverStores = true → exec c s = .next t → s.sameBytes t

/-- The NMT state changes only through the commands of `mayChangeNmt`; every other command leaves it as it was. -/
def Obligations.OtherCommandsKeepNmt : Prop :=
  ∀ (c : Instr) (s t : State), c.mayChangeNmt = false → exec c s = .next t → t.nmt = s.nmt

/-- The reads of a 64-bit quantity (R12): a read of the low word answers it and latches the high word, whatever the high word
becomes before the read of the high word that follows, which answers the latched value; a read of the high word that no read
of the low word precedes answers the live value. `s` and `u` are any states between which only the latches stand. The reads
are those of a manager hart in the peripheral blocks and of a tile's core in its own windows, which take effect at once. -/
def Obligations.PairsReadWhole : Prop :=
  ∀ (s u : State) (src : Requester) (a : BitVec 40) (e : Ecc) (r : Nat) (row : RegRow),
    s.reaches src a.toNat = some r → s.reaches src (a.toNat + 4) = some (r + 4) → a.toNat + 4 < 2 ^ 40 →
    RegMap.rowOf r = some row → row.low = true → plainRead r = true → plainRead (r + 4) = true →
    (s.latches.at r = 0 → s.completes (.lowWordRead ⟨src, e⟩ a) fun t =>
        t.answer = [(s.view r).toNat] ∧ t.latches.at (r + 4) = (s.view (r + 4)).toNat + 1 ∧
        s.sameRegs t [] ∧ s.sameBytes t ∧
        (u.latches = t.latches → u.reaches src (a.toNat + 4) = some (r + 4) → u.completes (.lowWordRead ⟨src, e⟩ (a + 4)) fun v =>
          v.answer = [(s.view (r + 4)).toNat] ∧ v.latches.at (r + 4) = 0 ∧ u.sameRegs v [] ∧ u.sameBytes v)) ∧
    (s.latches.at (r + 4) = 0 → s.completes (.lowWordRead ⟨src, e⟩ (a + 4)) fun t =>
        t.answer = [(s.view (r + 4)).toNat] ∧ s.sameRegs t [] ∧ s.sameBytes t)

/-- Firmware appends codes of classes 4, 7, 8 and 9 alone (R710): such a code is offered to the event log with its source and
parameters as FLT_LOG_APP0 to APP2 hold them, and any other class is refused with REFUSED in FLT_LOG_APP7 and logs nothing. -/
def Obligations.FirmwareCannotForgeEvents : Prop :=
  ∀ s : State, let w := (s.reg Reg.FLT_LOG_APP0).toNat
    (w / 4096 % 16 = 4 ∨ w / 4096 % 16 = 7 ∨ w / 4096 % 16 = 8 ∨ w / 4096 % 16 = 9 →
      (s.events.filter fun e => e.rank = Block.app.rank ∧ e.inst = 0).length < 4 →
      s.completes .firmwareLogAppend fun t => t.get Reg.FLT_LOG_APP7_STATUS = Status.ok.code ∧
        t.events = s.events ++ [⟨Block.app.rank, 0, w % 65536, w / 65536, (s.reg Reg.FLT_LOG_APP1).toNat,
          (s.reg Reg.FLT_LOG_APP2).toNat, s.now, s.stepNum⟩] ∧
        s.sameRegs t [Reg.FLT_LOG_APP7] ∧ s.sameBytes t) ∧
    (w / 4096 % 16 ≠ 4 → w / 4096 % 16 ≠ 7 → w / 4096 % 16 ≠ 8 → w / 4096 % 16 ≠ 9 →
      s.completes .firmwareLogAppend fun t => t.get Reg.FLT_LOG_APP7_STATUS = Status.refused.code ∧
        t.events = s.events ∧ s.sameRegs t [Reg.FLT_LOG_APP7] ∧ s.sameBytes t)

/-- A write of a hart to the window of a hole, or of a tile that is disabled or fenced, is discarded and completes with the
error response FENCED (R40, R41, R276): the write leaves as a control pip, its service at the tile changes no register and no
byte of memory, whatever the address in the tile's or its pod's window, and answers FENCED, and that response, taken at the
edge, is what the hart gets. -/
def Obligations.ClosedWindowDiscardsWrites : Prop :=
  ∀ (s : State) (tile : Fin 1152),
    (∀ (hart : Fin 4) (m : Bool) (a : BitVec 40) (w : Word) (e : Ecc) (g : Nat), tileAtAddr a.toNat = some tile.val →
      ((List.range 256).find? fun g => s.accesses.all fun x => x.1 != g) = some g →
      s.completes (.registerWrite ⟨.hart hart m, e⟩ a w) fun t => t.accesses = s.accesses ++ [(g, hart.val)] ∧
        t.answer = [] ∧ t.regs = s.regs ∧ t.mem = s.mem ∧ t.events = s.events) ∧
    (∀ (p : Pip) (u : State) (e : Ecc), s.takeCtrl tile.val 6 = some (p, u) → s.shut tile.val = true →
      s.completes (.regWriteRequest tile e) fun t => t.regs = s.regs ∧ t.mem = s.mem ∧ t.events = s.events ∧
        t.mesh.ctrl = u.mesh.ctrl.push tile.val (regResponse tile.val (reqFrom p) (reqTag p) 0 Status.fenced.code)) ∧
    (∀ (row : Fin 32) (p : Pip) (u : State) (hart : Fin 4) (m : Bool), s.takeResponse row.val = some (p, u) →
      s.accessSender (p.b 96 8) = .hart hart m → p.b 32 4 = Status.fenced.code →
      s.completes (.regResponseReceive row) fun t => t.answer = [Status.fenced.code, 0] ∧ t.regs = s.regs ∧ t.mem = s.mem)

/-- The egress guard keeps every channel's output inside its bounds while it is out of its safe state: a candidate, and a held
value that goes out when its gap is over, leave a channel whose bounds are in order and whose output and held values are
inside them so (R467, R468). -/
def Obligations.EgressStaysInBounds : Prop :=
  ∀ (s t : State) (n m : Fin 64), s.withinBounds m.val →
    s.egrInt (Reg.EGR_CH_LO m.val) ≤ s.egrInt (Reg.EGR_CH_HI m.val) →
    ((∃ v, exec (.guardWriteCandidate n v) s = .next t) → t.withinBounds m.val) ∧
    ((∀ x ∈ s.guard.held, x.1 = m.val → s.egrInt (Reg.EGR_CH_LO m.val) ≤ sext 32 x.2 ∧
        sext 32 x.2 ≤ s.egrInt (Reg.EGR_CH_HI m.val)) →
      exec (.guardGapExpire n) s = .next t → t.withinBounds m.val)

/-- A candidate is dropped, sent or held by the distance to the last output and by the gap (R467): below the dead band nothing
goes out; inside the gap the clamped value is held in place of one held before; otherwise it goes out. -/
def Obligations.CandidateStages : Prop :=
  ∀ (s : State) (n : Fin 64) (v : Word), s.causes n.val = 0 → s.flag (Reg.EGR_CH_STATUS_SAFE n.val) = false →
    let y := sat v.toInt (s.egrInt (Reg.EGR_CH_LO n.val)) (s.egrInt (Reg.EGR_CH_HI n.val))
    ((y - s.egrInt (Reg.EGR_CH_LAST n.val)).natAbs < (s.reg (Reg.EGR_CH_DB n.val)).toNat →
      s.completes (.guardWriteCandidate n v) fun t => t.reg (Reg.EGR_CH_LAST n.val) = s.reg (Reg.EGR_CH_LAST n.val) ∧
        t.get (Reg.EGR_CH_EMIT_COUNT n.val) = s.get (Reg.EGR_CH_EMIT_COUNT n.val) ∧ t.guard.held = s.guard.held ∧
        t.sent = s.sent) ∧
    ((s.reg (Reg.EGR_CH_DB n.val)).toNat ≤ (y - s.egrInt (Reg.EGR_CH_LAST n.val)).natAbs → s.gapOver n.val = false →
      s.completes (.guardWriteCandidate n v) fun t => t.reg (Reg.EGR_CH_LAST n.val) = s.reg (Reg.EGR_CH_LAST n.val) ∧
        t.get (Reg.EGR_CH_EMIT_COUNT n.val) = s.get (Reg.EGR_CH_EMIT_COUNT n.val) ∧ t.sent = s.sent ∧
        t.guard.held = (s.guard.held.filter fun h => h.1 ≠ n.val) ++ [(n.val, toBits 32 y)])

/-- No NMT command touches the step clock, the images, the event mesh, memory or the egress guard (R529). -/
def Obligations.NmtCommandsTouchOnlyTheLayer : Prop :=
  ∀ (s t : State) (bus : Fin 2) (f : CanFrame), f.id = 0 → f.ide = false →
    exec (.canFrameReceive bus f false) s = .next t →
    t.running = s.running ∧ t.stepNum = s.stepNum ∧ t.phase = s.phase ∧ t.clock = s.clock ∧ t.images = s.images ∧
      t.guard = s.guard ∧ t.mesh = s.mesh ∧ t.delivery = s.delivery ∧ s.sameBytes t

/-- The membrane stays in the model's range (R136, R137): after an update of a neuron that is not refractory, V lies between
V_MIN, or 0 for GRU and after a reset to zero, and 32,767, whatever the accumulator held, where V_MIN is at most 32,767 as its
16 bits make it. -/
def Obligations.MembraneStaysInRange : Prop :=
  ∀ (c : Ctx) (n : Neuron) (acc : Nat), n.ref = 0 → c.vMin ≤ 32767 →
    (c.update n acc).n.v ≤ 32767 ∧
    ((if c.model = 4 then 0 else c.vMin) ≤ (c.update n acc).n.v ∨
      ((c.update n acc).fire = true ∧ c.model ≠ 4 ∧ c.reset = 0 ∧ (c.update n acc).n.v = 0))

/-- A refractory neuron (R139): while REF is above 0 on entry, the update does not fire, keeps V and y whatever the
accumulator held, takes one from REF, and decays the adaptation of an ALIF neuron alone. -/
def Obligations.RefractoryNeuronHolds : Prop :=
  ∀ (c : Ctx) (n : Neuron) (acc : Nat), 0 < n.ref →
    (c.update n acc).fire = false ∧ (c.update n acc).n.v = n.v ∧ (c.update n acc).n.y = n.y ∧
      (c.update n acc).n.ref = n.ref - 1 ∧
      (c.update n acc).n.a = if c.model = 2 then (if c.aDecay = 0 then n.a else n.a - n.a / 2 ^ c.aDecay) else n.a

/-- An ALIF neuron whose adaptive threshold exceeds 32,767 cannot fire in that update (R138): the threshold is the sum itself,
not saturated to the membrane's range. -/
def Obligations.HighThresholdNeverFires : Prop :=
  ∀ (c : Ctx) (n : Neuron) (acc : Nat), c.model = 2 → c.vMin ≤ 32767 →
    32767 < c.theta + ((decay n.a c.aDecay * 2 ^ c.aShl : Nat) : Int) → (c.update n acc).fire = false

/-- The graded value of a spike (R140): 1 to 255 and never 0; 1 under binary output of a spiking model; the quantiser of the
membrane before the reset, raised to 1, under graded output; a rectified unit fires exactly when the quantiser gives 1 or more
and sends that value. -/
def Obligations.SpikeGrade : Prop :=
  ∀ (c : Ctx) (n : Neuron) (acc : Nat),
    ((c.update n acc).fire = true → 1 ≤ (c.update n acc).g ∧ (c.update n acc).g ≤ 255) ∧
    (c.model ≠ 4 → c.outMode = 0 → (c.update n acc).fire = true → (c.update n acc).g = 1) ∧
    (c.model < 3 → c.outMode ≠ 0 → (c.update n acc).fire = true → (c.update n acc).g =
      max 1 (c.quant (sat ((if c.model = 0 then n.v else c.leak n.v) + rne8 (sext 32 acc) + c.bias) c.vMin 32767))) ∧
    (c.model = 3 → c.outMode ≠ 0 → (c.update n acc).fire = true → (c.update n acc).g =
      max 1 (c.quant (sat (rot14 (c.rfC * n.v - c.rfS * n.y) + rne8 (sext 32 acc) + c.bias) c.vMin 32767))) ∧
    (c.model = 4 → n.ref = 0 → (c.update n acc).g = c.quant (sat (rne8 (sext 32 acc) + c.bias) 0 32767) ∧
      ((c.update n acc).fire = true ↔ 1 ≤ (c.update n acc).g))

/-- The rounding of products (R228): `rne m n` is a whole number nearest to m / 2^n, an even one at a tie, and ties at -1.5 and
-2.5 both give -2. Of the accumulator's rounding, n = 8, the result lies in -2^23 to 2^23 for every 32-bit accumulator. -/
def Obligations.RoundsToNearestEven : Prop :=
  (∀ (m : Int) (n : Nat), 2 * ((2 ^ n : Nat) * rne m n - m).natAbs ≤ 2 ^ n ∧
      (2 * ((2 ^ n : Nat) * rne m n - m).natAbs = 2 ^ n → rne m n % 2 = 0)) ∧
    rne (-3) 1 = -2 ∧ rne (-5) 1 = -2 ∧
    ∀ acc : Nat, -(2 ^ 23) ≤ rne8 (sext 32 acc) ∧ rne8 (sext 32 acc) ≤ 2 ^ 23

/-- Products far from the unit (R230): for a weight and a scale of any encoding that decodes to finite operands and any graded
value, the contribution is 0 where k is -24 or less, 0 where the product of the mantissas is 0, and the clamp bound of its sign
where k is 24 or more and the product is not 0. -/
def Obligations.FarProducts : Prop :=
  ∀ (fmt raw scale g : Nat) (wm we sm se : Int), fmt < 4 → raw < 256 → scale < 65536 → g < 256 →
    decodeWeight fmt raw = .fin wm we → decodeScale scale = .fin sm se →
    (we + se + 16 ≤ -24 → contribution (decodeWeight fmt raw) g (decodeScale scale) = 0) ∧
    (wm * g * sm = 0 → contribution (decodeWeight fmt raw) g (decodeScale scale) = 0) ∧
    (24 ≤ we + se + 16 → 0 < wm * g * sm → contribution (decodeWeight fmt raw) g (decodeScale scale) = 2 ^ 23) ∧
    (24 ≤ we + se + 16 → wm * g * sm < 0 → contribution (decodeWeight fmt raw) g (decodeScale scale) = -(2 ^ 23))

/-- The conversion of a value into a weight format (R238), the value being x · 2^-u: the result is finite and never negative
zero, beyond the largest finite value of the format it is that value with the sign of x, and otherwise it is a nearest one of
all finite values, whose encoding has bit 0 clear where two are equally near. -/
def Obligations.ConversionIsNearest : Prop :=
  ∀ (fmt u : Nat) (x : Int), fmt < 4 → 16 ≤ u →
    let r := convWeight fmt x u
    let v := fun (e : Nat) => (decodeWeight fmt e).scaled u
    let top : Int := (if fmt = 0 then 7 else if fmt = 1 then 127 else if fmt = 2 then 448 else 57344) * (2 ^ u : Nat)
    let bot : Int := (if fmt = 0 then -8 else if fmt = 1 then -128 else if fmt = 2 then -448 else -57344) * (2 ^ u : Nat)
    r < (if fmt = 0 then 16 else 256) ∧ (decodeWeight fmt r).finite = true ∧ (v r = 0 → r = 0) ∧
      (top < x → v r = top) ∧ (x < bot → v r = bot) ∧
      (bot ≤ x → x ≤ top → ∀ e, e < (if fmt = 0 then 16 else 256) → (decodeWeight fmt e).finite = true →
        (v r - x).natAbs ≤ (v e - x).natAbs ∧ ((v r - x).natAbs = (v e - x).natAbs → v e ≠ v r → r % 2 = 0))

/-- Accumulation does not depend on grouping or order (R234): contributions are fixed each by its own weight, graded value
and scale; after any of them the word is the initial value plus their sum modulo 2^32, any other order of them leaves the same
word, and so does any grouping in which the contributions of a group are summed modulo 2^32 before they are added. -/
def Obligations.AccumulationIsOrderFree : Prop :=
  ∀ (a : Nat) (l l' : List (Machine.Num × Nat × Machine.Num)), a < 2 ^ 32 → l.Perm l' →
    let c := fun (x : Machine.Num × Nat × Machine.Num) => contribution x.1 x.2.1 x.2.2
    (((l.map c).foldl accAdd a : Nat) : Int) = ((a : Int) + (l.map c).sum) % 2 ^ 32 ∧
      (l.map c).foldl accAdd a = (l'.map c).foldl accAdd a ∧
      ∀ g : List (List (Machine.Num × Nat × Machine.Num)), l = g.flatten →
        (g.map fun x => (x.map c).sum % 2 ^ 32).foldl accAdd a = (l.map c).foldl accAdd a

/-- A tamper assertion while the security block is on starts a wipe at once (R413 to R415, R537, R637): every session has
ended, the stored keys, the challenges and the exports are gone, and WIPING reads 1 with the input as its cause. -/
def Obligations.TamperWipesAtOnce : Prop :=
  ∀ (s : State) (i : Fin 2), s.get Reg.PWR_STATUS_STATE ≠ 3 → s.completes (.tamperAssert i) fun t =>
    (∀ n, n < 8 → t.reg (Reg.SEC_SESS n) = 0 ∨ s.get (Reg.SEC_SESS_VALID n) = 0) ∧
    t.get Reg.SEC_HUSK_STAT_WIPING = 1 ∧ t.get Reg.SEC_HUSK_STAT_LAST_CAUSE = 1 + i.val ∧
    t.sec.keys = [] ∧ t.sec.challenges = [] ∧ t.sec.exports = [] ∧ t.sec.mark = true ∧ i.val ∈ t.sec.tamper

/-- Reads of registers and accesses from outside (R10 to R14, R39, R41, R46, R158, R276, R480 to R482): a read of a low word
latches its high word, a read of a latched high word gives the latched value, a high-water read restarts the mark, a hart's
access of a tile or pod window leaves under the first free tag, an address of no range is an error, a register request is
served and answered, a response ends the access of its tag, and the windows of the host read and write what they show. -/
def Obligations.AccessCommandsComplete : Prop :=
  ∀ s : State,
    (∀ (src : Requester) (a : BitVec 40) (e : Ecc) (r : Nat), s.reaches src a.toNat = some r → plainRead r = true →
      s.latches.at r = 0 → ((RegMap.rowOf r).any (·.low)) = true → s.completes (.lowWordRead ⟨src, e⟩ a) fun t =>
        t.answer = [(s.view r).toNat] ∧ t.latches.at (r + 4) = (s.view (r + 4)).toNat + 1 ∧
        s.sameRegs t [] ∧ s.sameBytes t) ∧
    (∀ (src : Requester) (a : BitVec 40) (e : Ecc) (r n : Nat), s.reaches src a.toNat = some r → plainRead r = true →
      s.latches.at r = n + 1 → n < 2 ^ 32 →
      s.completes (.lowWordRead ⟨src, e⟩ a) fun t => t.answer = [n] ∧ t.latches.at r = 0 ∧ s.sameRegs t [] ∧ s.sameBytes t) ∧
    (∀ (src : Requester) (a : BitVec 40) (e : Ecc) (r : Nat), s.reaches src a.toNat = some r → State.hasMark r = true →
      tileAtAddr r = none → s.completes (.highWaterRead ⟨src, e⟩ a) fun t => t.answer = [(s.view r).toNat] ∧
        t.reg r = setF (setF (s.view r) 16 7 (getF (s.view r) 0 7)) 24 6 (getF (s.view r) 8 6) ∧
        s.sameRegs t [r] ∧ s.sameBytes t) ∧
    (∀ (hart : Fin 4) (m : Bool) (a : BitVec 40) (e : Ecc) (g : Nat), (s.doorOf a.toNat).isSome = true →
      ((List.range 256).find? fun g => s.accesses.all fun x => x.1 != g) = some g →
      s.completes (.lowWordRead ⟨.hart hart m, e⟩ a) fun t => t.accesses = s.accesses ++ [(g, hart.val)] ∧ t.answer = [] ∧
        s.sameRegs t [] ∧ s.sameBytes t) ∧
    (∀ (hart : Fin 4) (m : Bool) (a : BitVec 40) (v : Word) (e : Ecc), 0x2000000 ≤ a.toNat → a.toNat < 0x8000000 →
      s.completes (.registerWrite ⟨.hart hart m, e⟩ a v) fun t => t.answer = [Status.accessError.code, 0] ∧ s.sameBytes t) ∧
    (∀ (tile : Fin 1152) (a : BitVec 40) (v : Word) (e : Ecc), s.isSpare tile.val = false → s.coreGated tile.val = false →
      (0x40000 ≤ a.toNat ∧ a.toNat < 0x100000) ∨ 0x200000 ≤ a.toNat → s.completes (.registerWrite ⟨.tile tile, e⟩ a v) fun t =>
        t.answer = [Status.accessError.code, 0] ∧ t.regs = s.regs ∧ t.mem = s.mem ∧ t.events = s.events) ∧
    (∀ (tile : Fin 1152) (p : Pip) (u : State), s.takeCtrl tile.val 5 = some (p, u) → s.shut tile.val = false →
      tileAtAddr (reqAddr p / 4 * 4) = some tile.val → (reqAddr p / 4 * 4 - 0x100000000) % 0x40000 < 0x28000 →
      s.completes (.regReadRequest tile .clean) fun t => s.sameRegs t [] ∧ s.sameBytes t ∧
        t.mesh.ctrl = u.mesh.ctrl.push tile.val
          (regResponse tile.val (reqFrom p) (reqTag p) (s.rdLe (reqAddr p / 4 * 4) 4) 0)) ∧
    (∀ (tile : Fin 1152) (p : Pip) (u : State), s.takeCtrl tile.val 6 = some (p, u) → s.shut tile.val = false →
      tileAtAddr (reqAddr p / 4 * 4) = some tile.val → (reqAddr p / 4 * 4 - 0x100000000) % 0x40000 < 0x28000 →
      s.completes (.regWriteRequest tile .clean) fun t => s.sameRegs t [Reg.DBG_INJ_STAT, Reg.DBG_INJ_DONE, Reg.FLT_LOG_LOST, Reg.SEC_SIG_STAT] ∧
        t.rdLe (reqAddr p / 4 * 4) 4 = mergeBytes (s.rdLe (reqAddr p / 4 * 4) 4) (p.b 64 32) (p.b 120 4) ∧
        s.sameBytesBut t (reqAddr p / 4 * 4) 4 ∧
        t.mesh.ctrl = u.mesh.ctrl.push tile.val (regResponse tile.val (reqFrom p) (reqTag p) 0 0)) ∧
    (∀ (row : Fin 32) (p : Pip) (u : State), s.takeResponse row.val = some (p, u) → s.accessSender (p.b 96 8) = .host →
      s.completes (.regResponseReceive row) fun t => t.answer = [p.b 32 4, p.b 0 32] ∧
        t.accesses = (s.accesses.filter fun x => x.1 != p.b 96 8) ∧ s.sameRegs t [Reg.HOST_ABORTS] ∧ s.sameBytes t) ∧
    (∀ (x : BitVec 24) (v : Option Word) (be : Fin 16), 0x10800 ≤ x.toNat / 4 * 4 → x.toNat / 4 * 4 < 0x18000 →
      s.completes (.bar0Access x v be) fun t => t.answer = [0, 0] ∧ s.sameRegs t [] ∧ s.sameBytes t) ∧
    (∀ (x : BitVec 24) (be : Fin 16), x.toNat / 4 * 4 < 0x2000 → plainRead (hostBase + x.toNat / 4 * 4) = true →
      s.latches.at (hostBase + x.toNat / 4 * 4) = 0 → s.completes (.bar0Access x none be) fun t =>
        t.answer = [0, (s.view (hostBase + x.toNat / 4 * 4)).toNat] ∧ s.sameRegs t [] ∧ s.sameBytes t) ∧
    (∀ (x : BitVec 24) (v : Word) (be : Fin 16), 0x4000 ≤ x.toNat / 4 * 4 → x.toNat / 4 * 4 < 0x4100 →
      s.flag Reg.HOST_MBX_STAT_BUSY = false → be.val ≠ 0 → s.completes (.bar0Access x (some v) be) fun t => t.answer = [0, 0] ∧
        t.rdLe (hostBase + x.toNat / 4 * 4) 4 = mergeBytes (s.rdLe (hostBase + x.toNat / 4 * 4) 4) v.toNat be.val ∧
        s.sameRegs t [Reg.DBG_INJ_STAT, Reg.DBG_INJ_DONE, Reg.FLT_LOG_LOST, Reg.SEC_SIG_STAT] ∧
        s.sameBytesBut t (hostBase + x.toNat / 4 * 4) 4) ∧
    (∀ (x : BitVec 36) (v : Option Word) (be : Fin 16) (a : Nat),
      a = dramBase + s.get Reg.HOST_WIN_BASE_GIB * 2 ^ 30 + x.toNat / 4 * 4 → (s.dramAt a).isSome = true → s.dramOk a = true →
      s.rangePoisoned a 4 = false → s.completes (.bar2Access x v be) fun t =>
        s.sameRegs t [Reg.DBG_INJ_STAT, Reg.DBG_INJ_DONE, Reg.FLT_LOG_LOST, Reg.SEC_SIG_STAT] ∧
        (v = none → t.answer = [0, s.rdLe a 4] ∧ s.sameBytes t) ∧
        (∀ w : Word, v = some w → t.answer = [0, 0] ∧ s.sameBytesBut t a 4 ∧
          t.rdLe a 4 = mergeBytes (s.rdLe a 4) w.toNat be.val)) ∧
    (∀ (x : BitVec 29) (v : Option Word) (be : Fin 16) (e : Ecc) (g : Nat), x.toNat / 4 * 4 < 0x16800000 →
      ((List.range 256).find? fun g => s.accesses.all fun y => y.1 != g) = some g → s.completes (.bar4Access x v be e) fun t =>
        t.accesses = s.accesses ++ [(g, 5)] ∧ t.answer = [] ∧ s.sameRegs t [] ∧ s.sameBytes t) ∧
    (∀ (x : BitVec 29) (be : Fin 16), 0x18000000 ≤ x.toNat / 4 * 4 → x.toNat / 4 * 4 < 0x183C0000 →
      s.completes (.bar4Access x none be .clean) fun t =>
        t.answer = [0, s.rdLe (sramBase + (x.toNat / 4 * 4 - 0x18000000)) 4] ∧ s.sameRegs t [] ∧ s.sameBytes t)

/-- The authorised-write path and the lifecycle (R543 to R546): an authorised write of a session of the role it needs lands
with its audit entry, a lifecycle request waits for its confirmation or its end, and the confirmation burns a record and wipes
the husk. -/
def Obligations.AuthorityCommandsComplete : Prop :=
  ∀ s : State,
    (∀ (slot : Fin 8) (a : Nat), a = s.get64 Reg.SEC_AUTH_ADDR_LO % 2 ^ 40 → s.wiping = false →
      (authFields a).isEmpty = false → s.authRole a (s.reg Reg.SEC_AUTH_DATA).toNat ≤ s.slotRole slot.val →
      channelOf a = none → pinOf a = none → driftOf a = none → a ∉ [Reg.EGR_CTRL, Reg.SEC_HUSK_WIPE, Reg.DBG_INJ_CTRL] →
      (s.setReg a (authWord a (s.reg a) (s.reg Reg.SEC_AUTH_DATA))).authOk a = true → s.completes (.authWrite slot) fun t =>
        t.reg a = authWord a (s.reg a) (s.reg Reg.SEC_AUTH_DATA) ∧ t.get Reg.SEC_AUTH_GO_STATUS = 0 ∧
        t.get Reg.SEC_AUTH_GO_SLOT = slot.val ∧ t.sec.appended = s.sec.appended + 1) ∧
    (∀ (slot : Fin 8) (v : Fin 256), 3 ≤ s.slotRole slot.val → v.val ≤ 3 → s.lifecycleReason v.val = 0 →
      s.completes (.lifecycleRequest slot v) fun t => t.sec.target = some (slot.val, v.val, s.now) ∧ t.answer = [0, 0]) ∧
    (∀ (slot : Fin 8) (v : Fin 256) (new time : Nat), 3 ≤ s.slotRole slot.val → s.sec.target = some (slot.val, new, time) →
      v.val + new = 255 → s.now ≤ time + 2000000000 → s.lifecycleReason new = 0 → s.completes (.lifecycleConfirm slot v) fun t => t.sec.target = none ∧
        t.sec.mark = true ∧ t.sec.keys = [] ∧ t.answer = [0, 0] ∧ (s.get Reg.SEC_LC_STATE ≤ 1 →
          t.get Reg.SEC_LC_STATE = new ∧ t.get Reg.SEC_LC_USED = s.get Reg.SEC_LC_USED + 1)) ∧
    (∀ x : Nat × Nat × Nat, s.sec.target = some x → s.completes .lifecycleConfirmTimeout fun t => t.sec.target = none ∧
      s.sameRegs t [Reg.TB_COUNT_LO, Reg.TB_COUNT_HI] ∧ s.sameBytes t)

/-- The commands of a start (R417, R591 to R594, R634, R635, R764, R765): a cold start switches the first rail on, a
power-good lets the next rail rise or, after the last, begins the clear, a rail that fails its time stops the sequence and a
retry begins it anew, the end of the clear is recorded and runs the boot ROM, the self-test begins and ends, and a reset or a
loss of the always-on supply keeps only what VAON does not hold. -/
def Obligations.BringupCommandsComplete : Prop :=
  ∀ s : State,
    (∀ (f : Fuses) (xtal testen : Bool) (ddr : Word), s.start.stage = 0 → s.power.enabled = [] → s.power.off = [] →
      s.power.vaon = false → s.completes (.coldStart f xtal testen ddr) fun t => t.power.vaon = true ∧ t.start.stage = 1 ∧
        t.start.rail = some 6 ∧ t.power.enabled = [6] ∧ t.start.fuses = f ∧ t.start.ddr = ddr ∧
        t.get Reg.PWR_AON_STAT_XTAL_OK = (if xtal then 1 else 0) ∧ s.sameRegs t [Reg.PWR_AON_STAT] ∧ s.sameBytes t) ∧
    (∀ us : Fin 401, s.start.stage ≠ 2 → s.completes (.sramClearDone us) fun t => t.get Reg.SEC_CLEAR_STAT_DONE = 1 ∧
      t.get Reg.SEC_CLEAR_STAT_US = us.val ∧ s.sameBytes t) ∧
    (∀ us : Fin 401, s.start.stage = 2 → s.start.kind = 3 → s.completes (.sramClearDone us) fun t => t.start.stage = 4 ∧
      t.obj 0x2200 1 = 3) ∧
    (∀ (r : Fin 7) (q : Nat), s.power.enabled.contains r.val = true → s.start.rail = some r.val →
      ((if s.start.kind = 3 then [0, 1] else riseOrder).find? fun q => q ∉ s.power.enabled) = some q →
      s.completes (.railPowerGood r) fun t => t.get (Reg.PWR_RAIL_STAT_PG r.val) = 1 ∧ t.start.rail = some q ∧
        t.start.stage = 1 ∧ t.power.enabled = s.power.enabled ++ [q] ∧ s.sameRegs t [Reg.PWR_RAIL_STAT r.val] ∧
        s.sameBytes t) ∧
    (∀ r : Fin 7, s.power.enabled.contains r.val = true → s.start.rail = some r.val →
      ((if s.start.kind = 3 then [0, 1] else riseOrder).find? fun q => q ∉ s.power.enabled) = none →
      s.completes (.railPowerGood r) fun t => t.get (Reg.PWR_RAIL_STAT_PG r.val) = 1 ∧ t.start.rail = none ∧
        t.start.stage = 2 ∧ t.start.pgAt = s.now ∧ s.sameRegs t [Reg.PWR_RAIL_STAT r.val] ∧ s.sameBytes t) ∧
    (∀ r : Fin 7, s.start.rail = some r.val → s.completes (.railPgTimeout r) fun t => t.get Reg.PWR_SEQ_STAT_RAIL = r.val ∧
      t.start.tries = s.start.tries + 1 ∧ t.start.stage = 0 ∧ t.start.rail = none ∧ r.val ∉ t.power.enabled ∧
      (2 ≤ s.start.tries → t.get Reg.PWR_SEQ_STAT_FAIL = 1 ∧ t.get Reg.PWR_STATUS_STATE = 3) ∧ s.sameBytes t) ∧
    (∀ q : Nat, s.start.stage = 0 → 0 < s.start.tries → s.start.tries < 3 → s.power.off = [] →
      ((if s.start.kind = 3 then [0, 1] else riseOrder).find? fun q => q ∉ s.power.enabled) = some q →
      s.completes .sequenceRetry fun t => t.start.rail = some q ∧ t.start.stage = 1 ∧
        t.power.enabled = s.power.enabled ++ [q] ∧ s.sameRegs t [Reg.TB_COUNT_LO, Reg.TB_COUNT_HI] ∧ s.sameBytes t) ∧
    (s.completes .bistStart fun t => t.start.bist = true ∧ t.get Reg.FLT_BIST_CTRL_DONE = 0 ∧
      t.get Reg.FLT_BIST_CTRL_FAILED = 0 ∧ (∀ n, n < 1152 → t.reg (Reg.FLT_BIST_STAT n) = 0) ∧
      (∀ n, n < 72 → t.reg (Reg.POD_BIST_STAT n) = 0 ∧ t.reg (Reg.POD_BIST_BANKS n) = 0) ∧ s.sameBytes t) ∧
    (∀ tiles pods, s.start.bist = true → s.start.stage ≠ 3 → s.completes (.bistDone tiles pods) fun t =>
      t.start.bist = false ∧ t.get Reg.FLT_BIST_CTRL_DONE = 1 ∧ (s.streams.copies = [] →
        ((∀ x ∈ s.memories.lost, 0x184800000 ≤ x.1) → ∀ a, 0x100000000 ≤ a → a < 0x184800000 → t.rd8 a = 0) ∧
        ∀ a, a < 0x100000000 ∨ 0x184800000 ≤ a → t.rd8 a = s.rd8 a)) ∧
    (s.completes .porstAssert fun t => t.power.vaon = false ∧ t.start.stage = 0 ∧ t.start.rail = none ∧ t.sec.keys = [] ∧
      t.sec.sealed = s.sec.sealed ∧ t.sec.mark = s.sec.mark ∧ t.events = [] ∧ t.nmt = State.reset.nmt) ∧
    (s.completes .vaonLoss fun t => (∀ a, a ≠ Reg.SEC_LC → t.reg a = RegMap.resetAt a) ∧ t.reg Reg.SEC_LC = s.reg Reg.SEC_LC ∧
      t.power.enabled = [] ∧ t.power.vaon = false ∧ t.sec.sealed = s.sec.sealed ∧ t.sec.mark = s.sec.mark ∧
      ∀ a, a < 0x8000000 ∨ 0x10000000 ≤ a → t.rd8 a = 0)

/-- The commands of the CAN FD controllers (R525 to R534, R554). A raw request joins the queue of its controller, or is loaded
at once where nothing waits and a token is held; a token comes due; a loaded frame that finishes leaves the device and is
counted; error counters set the fault state; bus-off ends by automatic recovery; STANDBY moves traffic and back; a pop drops
the head of the receive buffer. -/
def Obligations.CanCommandsComplete : Prop :=
  ∀ s : State,
    (∀ cls : Fin 4, s.canMode = 0 → (s.txBuf 0).ide = false → s.flag (Reg.CAN_CTRL_EN 0) = true →
      s.tpdoOwns 0 (s.txBuf 0).id = false → (s.canCtl 0).raw.length < 32 → (s.canCtl 0).loaded.isSome = true →
      s.completes (.canRawTransmit 0 cls) fun t => (t.canCtl 0).raw = (s.canCtl 0).raw ++ [(cls.val, s.txBuf 0)] ∧
        t.get (Reg.CAN_TX_RESULT_VALID 0) = 0 ∧ s.sameRegs t [Reg.CAN_TX_RESULT 0] ∧ s.sameBytes t) ∧
    (∀ c : Fin 2, (s.canCtl c.val).loaded.isSome = true → s.get (Reg.CAN_TXLIM_STAT_TOKENS c.val) = 0 →
      0 < s.get (Reg.CAN_TXLIM_BURST c.val) →
      (s.canCtl c.val).since + ceilDiv 200000000 (max 1 (s.get (Reg.CAN_TXLIM_RATE c.val))) < 2 ^ 64 →
      s.completes (.canTokenAvailable c) fun t => 0 < t.get (Reg.CAN_TXLIM_STAT_TOKENS c.val) ∧ s.sameBytes t) ∧
    (∀ (c : Fin 2) (f : CanFrame), (s.canCtl c.val).loaded = some f → s.get (Reg.CAN_STATUS_STATE c.val) < 2 →
      s.flag Reg.DBG_JTAG_STAT_EXTEST = false →
      s.completes (.canFrameTransmitted c) fun t => .can c.val f ∈ t.sent ∧
        t.get (Reg.CAN_TX_FRAMES_COUNT c.val) =
          satInc (Reg.CAN_TX_FRAMES_COUNT c.val).len (s.get (Reg.CAN_TX_FRAMES_COUNT c.val)) 1 ∧
        t.get (Reg.CAN_TX_RESULT_STATUS c.val) = 0 ∧ t.get (Reg.CAN_TX_RESULT_VALID c.val) = 1 ∧ s.sameBytes t) ∧
    (∀ (c : Fin 2) (tec rec : Fin 512), s.get (Reg.CAN_STATUS_STATE c.val) < 2 → tec.val < 128 → rec.val < 128 →
      s.completes (.canBusError c tec rec) fun t => t.get (Reg.CAN_STATUS_TEC c.val) = tec.val ∧
        t.get (Reg.CAN_STATUS_REC c.val) = rec.val ∧ t.get (Reg.CAN_STATUS_STATE c.val) = 0 ∧
        s.sameRegs t [Reg.CAN_STATUS c.val] ∧ s.sameBytes t) ∧
    (∀ (c : Fin 2) (tec rec : Fin 512), s.get (Reg.CAN_STATUS_STATE c.val) < 2 → 256 ≤ tec.val →
      s.completes (.canBusError c tec rec) fun t => t.get (Reg.CAN_STATUS_STATE c.val) = 2 ∧
        t.get (Reg.CAN_BUSOFF_COUNT c.val) = satInc (Reg.CAN_BUSOFF_COUNT c.val).len (s.get (Reg.CAN_BUSOFF_COUNT c.val)) 1) ∧
    (∀ c : Fin 2, s.get (Reg.CAN_STATUS_STATE c.val) = 2 → s.flag (Reg.CAN_CTRL_AUTO_REC c.val) = true →
      s.completes (.canBusoffRecovery c) fun t => t.get (Reg.CAN_STATUS_STATE c.val) = 0 ∧
        t.get (Reg.CAN_STATUS_TEC c.val) = 0 ∧ t.get (Reg.CAN_STATUS_REC c.val) = 0 ∧ s.sameBytes t) ∧
    (s.canMode = 2 → s.canStandby = false → s.get (Reg.CAN_STATUS_STATE 0) = 2 →
      s.completes .canStandbyFailover fun t => t.canStandby = true ∧ (t.canCtl 0).raw = [] ∧ (t.canCtl 0).tpdo = [] ∧
        s.sameBytes t) ∧
    (s.canMode = 2 → s.canStandby = true → s.get (Reg.CAN_STATUS_STATE 0) = 0 →
      s.completes .canStandbyReturn fun t => t.canStandby = false ∧ (t.canCtl 1).raw = [] ∧ (t.canCtl 1).tpdo = [] ∧
        s.sameBytes t) ∧
    (∀ c : Fin 2, s.completes (.canRxPop c) fun t => (t.canCtl c.val).rx = (s.canCtl c.val).rx.tail ∧
      t.get (Reg.CAN_RX_LEVEL_N c.val) = (s.canCtl c.val).rx.tail.length % 2 ^ (Reg.CAN_RX_LEVEL_N c.val).len ∧ s.sameBytes t)

/-- The check-value units (R669 to R672): START of a unit that is free and has a length begins a job of its owner, ABORT by the
owner ends it with result 7 and counts it as a job, a COMPUTE job over bytes that the unit may read leaves their check value,
the security block claims unit 7 when no job holds it, and a reset of a profile makes its counter invalid. -/
def Obligations.CheckUnitCommandsComplete : Prop :=
  ∀ (s : State) (u : Fin 8),
    (∀ owner : Fin 5, s.get (Reg.CHK_STATUS_BUSY u.val) = 0 → s.reg (Reg.CHK_LEN u.val) ≠ 0 →
      s.completes (.chkStart u owner) fun t => t.get (Reg.CHK_STATUS_BUSY u.val) = 1 ∧
        t.get (Reg.CHK_STATUS_OWNER u.val) = owner.val ∧ t.get (Reg.CHK_STATUS_STATUS u.val) = 0 ∧
        t.get (Reg.CHK_POS_BYTES u.val) = 0 ∧ s.sameRegs t [Reg.CHK_STATUS u.val, Reg.CHK_POS u.val] ∧ s.sameBytes t) ∧
    (∀ owner : Fin 5, s.get (Reg.CHK_STATUS_BUSY u.val) = 1 → s.get (Reg.CHK_STATUS_OWNER u.val) = owner.val →
      s.chkWait = false → s.completes (.chkAbort u owner) fun t => t.get (Reg.CHK_STATUS_BUSY u.val) = 0 ∧
        t.get (Reg.CHK_STATUS_DONE u.val) = 1 ∧ t.get (Reg.CHK_STATUS_RESULT u.val) = 7 ∧
        t.get (Reg.CHK_JOBS_COUNT u.val) = min (2 ^ 32 - 1) (s.get (Reg.CHK_JOBS_COUNT u.val) + 1) ∧ s.sameBytes t) ∧
    (s.get (Reg.CHK_STATUS_BUSY u.val) = 1 → s.get (Reg.CHK_STATUS_OWNER u.val) ≠ 7 → s.chkWait = false →
      s.get (Reg.CHK_CTRL_MODE u.val) = 0 → s.get (Reg.CHK_CTRL_CMP_EN u.val) = 0 →
      (∀ i, i < s.get (Reg.CHK_LEN_BYTES u.val) → s.chkReads (s.chkAddr u.val + i) = true) →
      s.completes (.chkJobDone u) fun t =>
        t.get (Reg.CHK_RESULT_VALUE u.val) = s.chkValue u.val
          ((List.range (s.get (Reg.CHK_LEN_BYTES u.val))).map fun i => s.chkByte (s.chkAddr u.val + i)) % 2 ^ 32 ∧
        t.get (Reg.CHK_STATUS_BUSY u.val) = 0 ∧ t.get (Reg.CHK_STATUS_DONE u.val) = 1 ∧
        t.get (Reg.CHK_STATUS_RESULT u.val) = 0 ∧
        t.get (Reg.CHK_JOBS_COUNT u.val) = min (2 ^ 32 - 1) (s.get (Reg.CHK_JOBS_COUNT u.val) + 1) ∧ s.sameBytes t) ∧
    (s.get (Reg.CHK_STATUS_BUSY 7) = 0 → s.completes .chkSecurityClaim fun t => t.get (Reg.CHK_STATUS_BUSY 7) = 1 ∧
      t.get (Reg.CHK_STATUS_OWNER 7) = 7 ∧ t.chkWait = false ∧ s.sameRegs t [Reg.CHK_STATUS 7] ∧ s.sameBytes t) ∧
    (∀ p : Fin 4, s.get (Reg.CHK_STATUS_BUSY u.val) = 0 → s.completes (.chkProfileReset u p) fun t =>
      t.get (Reg.CHK_PROF_CNT_VALID u.val p.val) = 0 ∧
        t.get (Reg.CHK_PROF_CNT_LAST u.val p.val) = s.get (Reg.CHK_PROF_CNT_LAST u.val p.val) ∧
        s.sameRegs t [Reg.CHK_PROF_CNT u.val p.val] ∧ s.sameBytes t)

/-- The commands of the debug unit (R716, R724, R726, R727, R734): the operation counters are latched and cleared, a trace pip
takes the next place of its ring, a wait is declared, hang analysis reads twice and tells what it found, and an injection is
armed and removed. That a ring keeps one place free is the model's choice (log entry 179). -/
def Obligations.DebugCommandsComplete : Prop :=
  ∀ s : State,
    (∀ n : Fin 1152, s.completes (.opsLatchRead n) fun t => t.answer = [(s.reg (Reg.DBG_OPS0_LO n.val)).toNat] ∧
      (∀ i, i < 27 → t.latches.at (Reg.DBG_OPS0_LO n.val + 4 + 4 * i) =
        (s.reg (Reg.DBG_OPS0_LO n.val + 4 + 4 * i)).toNat + 1) ∧ s.sameRegs t [] ∧ s.sameBytes t) ∧
    (∀ n : Fin 1152, s.completes (.counterClear n) fun t => (∀ i, i < 14 → t.get64 (Reg.DBG_OPS0_LO n.val + 8 * i) = 0) ∧
      s.sameRegs t ((List.range 28).map fun i => Reg.DBG_OPS0_LO n.val + 4 * i) ∧ s.sameBytes t) ∧
    (∀ p rest, s.mesh.traceWriter = p :: rest → s.get Reg.DBG_TRC_LEN_N ≠ 0 →
      (s.get Reg.DBG_TRC_WR_IDX + 1) % s.get Reg.DBG_TRC_LEN_N ≠ s.get Reg.DBG_TRC_RD_IDX → s.completes .traceWrite fun t =>
        t.mesh.traceWriter = rest ∧ t.get Reg.DBG_TRC_WR_IDX = (s.get Reg.DBG_TRC_WR_IDX + 1) % s.get Reg.DBG_TRC_LEN_N ∧
        t.get Reg.DBG_TRC_RD_IDX = s.get Reg.DBG_TRC_RD_IDX ∧
        s.sameBytesBut t (s.get64 Reg.DBG_TRC_BASE_LO % 2 ^ 40 + 32 * s.get Reg.DBG_TRC_WR_IDX) 32) ∧
    (∀ (n : Fin 1152) (v : Word), bits v.toNat 29 3 = 1 ∨ bits v.toNat 29 3 = 4 → s.completes (.waitDeclare n v) fun t =>
      t.get (Reg.DBG_WAIT_KIND n.val) = bits v.toNat 29 3 ∧ t.get (Reg.DBG_WAIT_OBJ_OBJ n.val) = bits v.toNat 0 10 ∧
      t.get (Reg.DBG_WAIT_OBJ_PEER n.val) = bits v.toNat 16 11 ∧
      t.get (Reg.DBG_WAIT_SINCE_STEP n.val) = s.stepNum % 2 ^ 32 ∧ s.sameBytes t) ∧
    (s.hang = none → s.completes .hangAnalysisStart fun t => t.hang.map (·.at_) = some s.now ∧ t.obj 0x2B02 2 = 1 ∧
      s.sameRegs t [] ∧ s.sameBytes t) ∧
    (s.hang.isSome = true → s.completes .hangAnalysisSecondRead fun t => t.hang = none ∧
      (t.obj 0x2B02 2 = 2 ∨ t.obj 0x2B02 2 = 3) ∧ s.sameRegs t [Reg.TB_COUNT_LO, Reg.TB_COUNT_HI] ∧ s.sameBytes t) ∧
    (∀ slot : Fin 8, s.debugRole ≤ s.slotRole slot.val →
      (injectKinds (s.get Reg.DBG_INJ_TARGET_ID)).contains (s.get Reg.DBG_INJ_KIND_KIND) = true →
      s.completes (.injectionArm slot) fun t => t.get Reg.DBG_INJ_STAT_ARMED = 1 ∧
        t.get Reg.DBG_INJ_STAT_LEFT = s.get Reg.DBG_INJ_COUNT_N) ∧
    (∀ slot : Fin 8, s.debugRole ≤ s.slotRole slot.val → s.completes (.injectionDisarm slot) fun t =>
      t.get Reg.DBG_INJ_STAT_ARMED = 0 ∧ t.get Reg.DBG_INJ_STAT_LEFT = 0)

/-- The commands of synaptic delivery (R188 to R219, R300): a record that no slot holds is counted as a miss and leaves the
ejection buffer; a record of one RESIDENT list slot becomes a job at the slot's home; an engine takes its own oldest job, which
leaves its deque and is counted; the accumulate port adds a contribution to its word; the clear of an area ends with the area
zero; the application of a window ends; a projection's control register takes a write; and the delay store gives up a due entry. -/
def Obligations.DeliveryCommandsComplete : Prop :=
  ∀ s : State,
    (∀ (n : Fin 1152) e rest, s.mesh.eject.at n.val = e :: rest → s.flag (Reg.DE_ARB_CTRL_MATCH_EN (podOf n.val)) = true →
      (s.validSlots (podOf n.val)).filter (fun x => x.2.holds (recAxon (e.pip.record e.taken))) = [] →
      s.completes (.matchRecord n none) fun t =>
        t.mesh.eject.at n.val = (if e.taken + 1 < e.pip.ptype then { e with taken := e.taken + 1 } :: rest else rest) ∧
        t.get (Reg.DE_MATCH_MISS_COUNT (podOf n.val)) =
          satInc (Reg.DE_MATCH_MISS_COUNT (podOf n.val)).len (s.get (Reg.DE_MATCH_MISS_COUNT (podOf n.val))) 1 ∧
        s.sameRegs t [Reg.DE_MATCH_MISS (podOf n.val)] ∧ s.sameBytes t) ∧
    (∀ (n : Fin 1152) e rest k d h, s.mesh.eject.at n.val = e :: rest →
      s.flag (Reg.DE_ARB_CTRL_MATCH_EN (podOf n.val)) = true →
      (s.validSlots (podOf n.val)).filter (fun x => x.2.holds (recAxon (e.pip.record e.taken))) = [(k, d)] →
      s.matchRow (podOf n.val) k d (recAxon (e.pip.record e.taken)) = .job h false → (s.delivery.step.at h).length < 64 →
      s.podDead (podOf h) = false → s.areaHeld (podOf n.val) k d e.pip.tag = false → s.flag (Reg.DE_PL_CTRL_EN (podOf n.val) k) = false →
      s.completes (.matchRecord n none) fun t => t.delivery.step.at h = s.delivery.step.at h ++
        [⟨0, k, recAxon (e.pip.record e.taken), recGraded (e.pip.record e.taken), recSlot (e.pip.record e.taken), 0, e.pip.tag,
          s.get (Reg.DE_PROJ_CTRL_DGEN (podOf n.val) k), 0, 0, 0, none⟩] ∧ s.sameBytes t) ∧
    (∀ (n : Fin 1152) j, s.engineOk n.val = true → s.nextJob n.val = some (n.val, false, j) →
      s.delivery.stepWait.at n.val = [] → s.faulted (podOf n.val) j.dslot = false →
      j.dgen = s.get (Reg.DE_PROJ_CTRL_DGEN (podOf n.val) j.dslot) → s.completes (.engineTakeJob n none) fun t =>
        t.delivery.step.at n.val = (s.delivery.step.at n.val).erase j ∧
        t.get (Reg.DE_JOBS_COUNT n.val) = satInc (Reg.DE_JOBS_COUNT n.val).len (s.get (Reg.DE_JOBS_COUNT n.val)) 1) ∧
    (∀ (n : Fin 1152) c rest, s.delivery.contribs.at n.val = c :: rest → s.shut n.val = false →
      c.k < (s.ctx n.val c.ctx).count → (s.ctx n.val c.ctx).windowed = false →
      s.completes (.accumulateContribution n none) fun t => t.delivery.contribs.at n.val = rest ∧
        t.rdBytes (tileBase n.val + (s.ctx n.val c.ctx).accBase + 4 * c.k) 4 =
          leBytes 4 (accAdd (s.rdLe (tileBase n.val + (s.ctx n.val c.ctx).accBase + 4 * c.k) 4) (sext 32 c.val)) ∧
        s.sameBytesBut t (tileBase n.val + (s.ctx n.val c.ctx).accBase + 4 * c.k) 4) ∧
    (∀ (p : Fin 72) (n : Fin 64), s.delivery.clearing.contains (64 * p.val + n.val) = true →
      s.completes (.areaClearDone p n) fun t => t.delivery.clearing.contains (64 * p.val + n.val) = false ∧
        (∀ i, i < areaBytes (s.desc p.val n.val) (s.areaSlots p.val n.val (s.desc p.val n.val)) →
          t.rd8 (podBase p.val + (s.desc p.val n.val).actBase + i) = 0) ∧
        s.sameBytesBut t (podBase p.val + (s.desc p.val n.val).actBase)
          (areaBytes (s.desc p.val n.val) (s.areaSlots p.val n.val (s.desc p.val n.val)))) ∧
    (∀ (n : Fin 1152) m, s.delivery.applying.at n.val = m + 1 → s.winFinished (podOf n.val) m = true →
      s.completes (.windowApplicationDone n) fun t => t.delivery.applying.at n.val = 0 ∧ t.get (winFill n.val (m % 2)) = 0) ∧
    (∀ (p : Fin 72) (n : Fin 64) (v : Word), getF v 0 2 = 0 ∨ (s.desc p.val n.val).block = true → s.running = false →
      s.completes (.projCtrlWrite p n v) fun t => t.reg (Reg.DE_PROJ_CTRL p.val n.val) =
        (s.writePlain (Reg.DE_PROJ_CTRL p.val n.val) v).reg (Reg.DE_PROJ_CTRL p.val n.val) ∧
        s.sameRegs t [Reg.DE_PROJ_CTRL p.val n.val] ∧ s.sameBytes t) ∧
    (∀ (r : Fin 1152) (b : Bool) e, s.deliveryOpen = true → s.dueOnChip r.val = some e → s.releaseRoom r.val e = true →
      s.completes (.delayStoreRelease r b) fun t => t.mesh.delay.at r.val = (s.mesh.delay.at r.val).erase e ∧ s.sameBytes t)

/-- Requests of the object dictionary (R256, R510, R523, R559, R560, R567): a read that nothing turns away answers the
object's bytes, a selector and a value of its own take what is written, with an audit entry, a drift reset clears the drift
used in every pod that holds the projection, a gateway request is sent and waits, and it ends with its response or after its
time. -/
def Obligations.DictionaryCommandsComplete : Prop :=
  ∀ s : State,
    (∀ (slot : Fin 8) (index : Fin 65536) (sub : Fin 256) (len : Nat) (r : ObjRow),
      ObjMap.rowOf index.val sub.val = some r → s.objRole r ≤ s.slotRole slot.val → r.acc ≠ .wo →
      s.windowOk slot.val index.val sub.val = true → ¬(index.val = 0x2010 ∧ sub.val = 3) →
      s.completes (.dictRead slot index sub len) fun t =>
        t.answer = [0, 0] ++ ((s.touchSlot slot.val).objBytes slot.val index.val sub.val r.size).map (·.toNat) ∧
        s.sameRegs t [] ∧ s.sameBytes t) ∧
    (∀ (slot : Fin 8) (index : Fin 65536) (sub : Fin 256) (data : List Byte) (r : ObjRow) (k : Nat) image saved,
      ObjMap.rowOf index.val sub.val = some r → selectorObjs.idxOf? (index.val, sub.val) = some k →
      r.role ≤ s.slotRole slot.val → data.length = r.size → r.least ≤ ofLe data → ofLe data ≤ r.most →
      (s.useFree.useFree.touchSlot slot.val).itemExists k (ofLe data) = true →
      s.completes (.dictWrite slot index sub data image saved) fun t => t.selOf slot.val k = ofLe data ∧
        t.answer = [0, 0] ∧ t.sec.appended = s.sec.appended + (if s.wiping then 0 else 1) ∧
        s.sameBytesBut t (auditAt s.sec.appended) 32) ∧
    (∀ (slot : Fin 8) (a b : Byte) image saved, 2 ≤ s.slotRole slot.val → 10 ≤ ofLe [a, b] → ofLe [a, b] ≤ 3600 →
      s.completes (.dictWrite slot 0x2C00 7 [a, b] image saved) fun t => t.obj 0x2C00 7 = ofLe [a, b] ∧ t.answer = [0, 0] ∧
        s.sameBytesBut t (auditAt s.sec.appended) 32) ∧
    (∀ slot : Fin 8, 2 ≤ s.slotRole slot.val → s.windowOk slot.val 0x2524 5 = true → s.wiping = false →
      s.completes (.driftReset slot) fun t => t.answer = [0, 0] ∧
        (∀ x ∈ s.holders (s.selOf slot.val 3), t.get (Reg.DE_PL_DRIFT_USED_DRIFT x.1 x.2) = 0) ∧
        t.sec.appended = s.sec.appended + (s.holders (s.selOf slot.val 3)).length + 1) ∧
    (∀ (slot n : Fin 8) (v : Fin 256), 1 ≤ s.slotRole slot.val → v.val = 1 ∨ v.val = 2 → s.obj (gateOf n.val) 5 ≠ 1 →
      bits (s.get Reg.TLK_HIER_STAT_ATTACHED) n.val 1 = 1 → s.completes (.gatewayExecute slot n v) fun t =>
        t.answer = [0, 0] ∧ t.obj (gateOf n.val) 5 = 1 ∧ t.obj (gateOf n.val) 6 = 0 ∧
        t.gates.waiting = s.gates.waiting ++ [⟨n.val, s.gates.next, s.now⟩] ∧ t.gates.next = (s.gates.next + 1) % 2 ^ 32) ∧
    (∀ (n : Fin 8) (q : GateRequest), (s.gates.waiting.find? fun q => q.worker = n.val) = some q →
      s.completes (.gatewayTimeout n) fun t => t.obj (gateOf n.val) 5 = 3 ∧ t.obj (gateOf n.val) 6 = 0x05040000 ∧
        t.gates.waiting = (s.gates.waiting.filter fun x => x.worker != n.val) ∧ s.sameBytes t) ∧
    (∀ (port : Fin 8) x image saved, s.role ≠ 2 → s.tlkFirst port.val 3 = some x → flitByte (x.2.2.headD []) 4 = 0 →
      (s.gates.waiting.any fun q => q.worker = port.val && q.id = flitLe (x.2.2.headD []) 0 4) = true →
      s.completes (.dictProxyReceive port image saved) fun t => t.tlkIn = s.tlkIn.erase x ∧ t.obj (gateOf port.val) 5 = 2 ∧
        t.obj (gateOf port.val) 6 = flitLe (x.2.2.headD []) 8 4 ∧
        t.gates.waiting = (s.gates.waiting.filter fun x => x.worker != port.val) ∧ s.sameRegs t [])

/-- The commands of the sync tree and of the fault block (R381 to R388, R689 to R695). -/
def Obligations.TreeAndFaultCommandsComplete : Prop :=
  ∀ s : State,
    (∀ (n : Fin 1153) (c : Fin 64), s.barMember n.val c.val = true → s.barPending n.val c.val = false →
      s.completes (.barrierArrive n c) fun t => t.barPending n.val c.val = true ∧ s.sameBytes t) ∧
    (∀ c : Fin 64, s.barComplete c.val = true → s.completes (.barrierRelease c) fun t =>
      (∀ n : Fin 1153, s.barMember n.val c.val = true → t.barPending n.val c.val = false) ∧
        t.get Reg.SYNC_BAR_LAST_CYC_CYCLES ≤ 24 ∧ s.sameBytes t) ∧
    (∀ (n : Fin 1153) (hi : Bool) (v : Word), s.completes (.barMemberWrite n hi v) fun t =>
      t.reg (nodeReg n.val (0x10 + if hi then 4 else 0)) =
        (v &&& ~~~ s.reg (nodeReg n.val (0x28 + if hi then 4 else 0))) |||
        (s.reg (nodeReg n.val (0x10 + if hi then 4 else 0)) &&& s.reg (nodeReg n.val (0x28 + if hi then 4 else 0))) ∧
      s.sameRegs t [nodeReg n.val (0x10 + if hi then 4 else 0), nodeReg n.val 4] ∧ s.sameBytes t) ∧
    (∀ (l : Fin 16) (v : Word), (∀ n, n < 1153 → ∀ c, c < 64 → s.barPending n c = false) →
      s.completes (.redCfgWrite l v) fun t => t.reg (Reg.SYNC_ROOT_RED_CFG l.val) =
        writeFields ((RegMap.rowOf (Reg.SYNC_ROOT_RED_CFG l.val)).map (·.fields) |>.getD []) (fun _ => true)
          (s.reg (Reg.SYNC_ROOT_RED_CFG l.val)) v ∧ s.sameBytes t) ∧
    (∀ (n : Fin 1153) (x : Fin 1048576), x.val ≠ 0xFFFFF → s.fault.hist.at n.val = [] →
      (s.fault.pend.at n.val).length < 4 → s.completes (.faultReportFile n x) fun t =>
        t.fault.pend.at n.val = s.fault.pend.at n.val ++ [x.val] ∧ s.sameRegs t [fltStat n.val] ∧ s.sameBytes t) ∧
    (∀ x, (s.fault.pend.flatMap fun e => e.2).min? = some x → s.fault.queue = [] → s.completes .faultWave fun t =>
      t.fault.queue = [(x, (s.fault.pend.filter fun e => e.2.contains x).length, s.stepNum)] ∧ s.sameBytes t) ∧
    (∀ x n tm rest, s.fault.queue = (x, n, tm) :: rest → s.completes .faultReportTake fun t =>
      t.get Reg.FLT_RPT_SUSPECT_ID = x % 2 ^ Reg.FLT_RPT_SUSPECT_ID.len ∧
      t.get Reg.FLT_RPT_COUNT_COUNT = n % 2 ^ Reg.FLT_RPT_COUNT_COUNT.len ∧ t.get Reg.FLT_RPT_STEP_STEP = tm % 2 ^ 32) ∧
    (∀ (r : Fin 1152) (p : Fin 4) (ok : Bool), s.fault.retraining.contains (4 * r.val + p.val) = true →
      s.completes (.linkRetrainDone r p ok) fun t => t.fault.retraining.contains (4 * r.val + p.val) = false) ∧
    (∀ n : Fin 1152, s.completes (.heartbeatTimeout n) fun t => t.get (Reg.FLT_TILE_STAT_HB_LOST n.val) = 1 ∧
      s.sameRegs t [Reg.FLT_TILE_STAT n.val, fltStat n.val] ∧ s.sameBytes t) ∧
    (∀ (n : Fin 1152) (e : Fin 4), s.completes (.engineTimeout n e) fun t => t.get (Reg.FLT_TILE_STAT_ENG_TMO n.val) = 1 ∧
      t.get (Reg.FLT_TILE_STAT_ENGINE n.val) = e.val + 1 ∧
      s.sameRegs t [Reg.FLT_TILE_STAT n.val, fltStat n.val] ∧ s.sameBytes t) ∧
    (∀ (w : Fin 36) (v : Word), (∀ i, i < 32 → (s.reg (Reg.FLT_FENCE w.val)).getLsbD i ≠ v.getLsbD i →
        if v.getLsbD i then s.isLogical (32 * w.val + i) = true
        else s.running = false ∧ s.fault.retired.contains (32 * w.val + i) = false) →
      s.completes (.firmwareFenceWrite w v) fun t => t.reg (Reg.FLT_FENCE w.val) = v ∧ s.sameBytes t)

/-- The commands of the CANopen FD node, of its error register and of the event log (R527 to R532, R564, R579, R709, R710). A
frame with a 29-bit identifier goes to the receive buffer; an NMT command changes the NMT state; a TPDO trigger in operational
leaves one request; a shared audit entry of RPDO writes leaves the list at the end of its second; a heartbeat is queued;
a lost node is no longer watched; a bit of the error register clears; the event of the first source takes the next entry of the
ring, 32 bytes; and firmware appends an event of its classes. -/
def Obligations.FieldAndLogCommandsComplete : Prop :=
  ∀ s : State,
    (∀ (c : Fin 2) (f : CanFrame), s.flag (Reg.CAN_CTRL_EN c.val) = true → s.canUsed c.val = true → s.canMode = 0 →
      f.ide = true → (s.canCtl c.val).rx.length < 64 → s.completes (.canFrameReceive c f false) fun t =>
        (t.canCtl c.val).rx = (s.canCtl c.val).rx ++ [(f, s.now)] ∧ s.sameBytes t) ∧
    (∀ (c : Fin 2) (f : CanFrame) (node : Byte), s.flag (Reg.CAN_CTRL_EN c.val) = true → s.canUsed c.val = true →
      s.canMode = 0 → f.ide = false → f.id = 0 → f.data = [1#8, node] → node = 0#8 ∨ node.toNat = s.nodeId →
      s.completes (.canFrameReceive c f false) fun t => t.nmt = 5 ∧ s.sameRegs t [Reg.CAN_RX_FRAMES c.val] ∧
        s.sameBytes t) ∧
    (∀ (c : Fin 2) (n : Fin 16), s.canMode = 0 → s.flag (Reg.CAN_TPDO_CFG_EN c.val n.val) = true → s.nmt = 5 →
      (s.canCtl c.val).tpdo = [] → (s.canCtl c.val).loaded.isSome = true →
      s.completes (.tpdoTrigger c n) fun t => (t.canCtl c.val).tpdo = [n.val] ∧ s.sameBytes t) ∧
    (∀ a rest, s.field.audits = a :: rest → s.completes .rpdoAuditFlush fun t => t.field.audits = rest) ∧
    (s.obj 0x1017 0 ≠ 0 → s.canMode = 0 → (s.canCtl 0).raw.length < 32 → (s.canCtl 0).loaded.isSome = true →
      s.completes .heartbeatProduce fun t => (t.canCtl 0).raw =
        (s.canCtl 0).raw ++ [(0, s.fieldFrame (0x700 + s.nodeId) [BitVec.ofNat 8 s.nmt])] ∧ s.sameBytes t) ∧
    (∀ (e : Fin 4) (slot : Option (Fin 4)), s.field.heard.at (bits (s.obj 0x1016 (e.val + 1)) 16 8) ≠ 0 →
      bits (s.obj 0x1016 (e.val + 1)) 0 16 ≠ 0 → bits (s.obj 0x1016 (e.val + 1)) 16 8 ≠ 0 →
      s.completes (.heartbeatConsumerTimeout e slot) fun t =>
        t.field.heard.at (bits (s.obj 0x1016 (e.val + 1)) 16 8) = 0) ∧
    (∀ b : Fin 8, s.emcy.bits.at b.val ≠ 0 → s.completes (.errorRegisterClear b) fun t => t.emcy.bits.at b.val = 0 ∧
      bits (t.obj 0x1001 0) b.val 1 = 0 ∧ s.sameBytes t) ∧
    (∀ e, s.firstEvent = some e → s.completes .eventLogAppend fun t =>
      t.get Reg.FLT_LOG_HEAD_NUMBER = (s.get Reg.FLT_LOG_HEAD_NUMBER + 1) % 2 ^ 32 ∧
      t.rdBytes (s.logAddr ((s.get Reg.FLT_LOG_HEAD_NUMBER + 1) % 2 ^ 32)) 32 =
        leBytes 8 e.tb ++ leBytes 2 e.code ++ leBytes 2 e.source ++
          leBytes 4 ((s.get Reg.FLT_LOG_HEAD_NUMBER + 1) % 2 ^ 32) ++ leBytes 8 e.step ++ leBytes 4 e.p0 ++ leBytes 4 e.p1 ∧
      s.sameBytesBut t (s.logAddr ((s.get Reg.FLT_LOG_HEAD_NUMBER + 1) % 2 ^ 32)) 32) ∧
    (7 ≤ bits (s.reg Reg.FLT_LOG_APP0).toNat 12 4 → bits (s.reg Reg.FLT_LOG_APP0).toNat 12 4 ≤ 9 →
      (s.events.filter fun e => e.rank = Block.app.rank ∧ e.inst = 0).length < 4 →
      s.completes .firmwareLogAppend fun t => t.events = s.events ++
        [⟨Block.app.rank, 0, bits (s.reg Reg.FLT_LOG_APP0).toNat 0 16, bits (s.reg Reg.FLT_LOG_APP0).toNat 16 16,
          (s.reg Reg.FLT_LOG_APP1).toNat, (s.reg Reg.FLT_LOG_APP2).toNat, s.now, s.stepNum⟩] ∧
        t.get Reg.FLT_LOG_APP7_STATUS = 0 ∧ s.sameRegs t [Reg.FLT_LOG_APP7] ∧ s.sameBytes t)

/-- The commands of a firmware update and of the manager watchdog (R587, R646, R654 to R659, R661, R662, R680): a begun update
erases the staging area, its data are appended, its verify step opens the inactive slot where the source's digest agrees and
fails where it does not, its end is reported by what the target's checks say, the standby
pair is checked and released, a trial is confirmed, a slot is opened, a tile switch is armed, the flash controller programs
and erases, and a kick in two writes reloads the watchdog. -/
def Obligations.FirmwareCommandsComplete : Prop :=
  ∀ s : State,
    (∀ slot : Fin 8, 2 ≤ s.slotRole slot.val → s.trial = false → s.fw.update ≠ 1 → s.fw.update ≠ 2 →
      s.fw.handover = none → s.completes (.updateBegin slot) fun t => t.fw.update = 1 ∧ t.fw.received = 0 ∧ t.answer = [0, 0]) ∧
    (∀ (slot : Fin 8) (off : Option Nat) (data : List Byte), 2 ≤ s.slotRole slot.val → s.fw.update = 1 →
      off = none ∨ off = some s.fw.received → s.fw.received + data.length ≤ 0x400000 →
      s.completes (.updateData slot off data) fun t => t.fw.received = s.fw.received + data.length ∧ t.fw.update = 1 ∧
        t.answer = [0, 0] ∧ t.rdBytes (stagingBase + s.fw.received) data.length = data) ∧
    (∀ slot : Fin 8, 2 ≤ s.slotRole slot.val → s.fw.update = 1 → s.deltaOk = true →
      s.completes (.updateVerifyWrite slot) fun t => t.answer = [0, 0] ∧
        (sha s.sourceImage = s.rdBytes (stagingBase + 0x10) 32 → t.fw.update = 2 ∧
          t.get Reg.SEC_FW_STAT_INACTIVE_OPEN = 1 ∧ t.get Reg.SEC_FW_CTRL_STATUS = 0) ∧
        (sha s.sourceImage ≠ s.rdBytes (stagingBase + 0x10) 32 → t.fw.update = 4 ∧
          s.sameBytesBut t (auditAt s.sec.appended) 32)) ∧
    (∀ (ops out : List Byte) (u : State), s.fw.update = 2 → ops = s.rdBytes (stagingBase + 64) (s.deltaField 0x34) →
      applyOps s.sourceBytes (s.deltaField 0x0C) (s.deltaField 0x30) (ops.length + 1) ops [] = (out, true) →
      u = s.rawBytes (slotBase s.otherSlot) out → s.completes .updateApplyDone fun t => u.sameBytes t ∧
        t.fw.update = (if crc32c (u.rdBytes (slotBase s.otherSlot) (s.deltaField 0x30)) = u.deltaField 0x38 ∧
          u.slotCode s.otherSlot = 0 then 3 else 4)) ∧
    (∀ slot : Fin 8, 2 ≤ s.slotRole slot.val → s.fw.update = 3 → s.fw.handover = none → s.completes (.updateActivate slot) fun t =>
      t.fw.handover = some none ∧ t.answer = [0, 0]) ∧
    (∀ h : Fin 4, s.fromPair (some h) = true → s.regionChecked = true → s.completes (.fwActivate (some h)) fun t =>
      t.get Reg.SEC_FW_STAT_STBY_RUN = 1 ∧ t.fw.handover = some (some s.now) ∧ t.get Reg.SEC_FW_CTRL_STATUS = 0) ∧
    (∀ h : Fin 4, s.fromPair (some h) = true → s.trial = true →
      s.flag Reg.SEC_FB_TIMER_ARMED = false ∨ 0 < s.fallbackTicks → s.completes (.fwConfirm (some h)) fun t =>
      t.trial = false ∧ t.get Reg.SEC_FW_STAT_PREV_VALID = 1 ∧ t.get Reg.SEC_FB_TIMER_ARMED = 0 ∧ t.obj 0x2C00 8 = 1 ∧
        t.get Reg.SEC_FW_CTRL_STATUS = 0) ∧
    (∀ h : Fin 4, s.fromPair (some h) = true → s.trial = false → s.completes (.fwOpenInactive (some h)) fun t =>
      t.get Reg.SEC_FW_STAT_INACTIVE_OPEN = 1 ∧ t.get Reg.SEC_FW_STAT_PREV_VALID = 0 ∧ t.get Reg.SEC_FW_CTRL_STATUS = 0) ∧
    (∀ r : Fin 2, s.flag Reg.SEC_SIG_STAT_BUSY = false → s.completes (.sigCheckStart r) fun t =>
      t.get Reg.SEC_SIG_CTRL_REGION = r.val ∧ t.get Reg.SEC_SIG_STAT_BUSY = 1 ∧ t.get Reg.SEC_SIG_STAT_VALID = 0 ∧
      t.fw.dirty = false ∧ s.sameRegs t [Reg.SEC_SIG_CTRL, Reg.SEC_SIG_STAT, Reg.CHK_STATUS 7] ∧ s.sameBytes t) ∧
    (s.get Reg.SEC_SIG_STAT_BUSY = 1 → s.chkWait = false → s.completes .sigCheckDone fun t =>
      t.get Reg.SEC_SIG_STAT_BUSY = 0 ∧
      t.get Reg.SEC_SIG_STAT_FAIL = s.slotFail (slotBase s.otherSlot) (regionBase (s.get Reg.SEC_SIG_CTRL_REGION)) ∧
      t.get Reg.SEC_SIG_STAT_VALID =
        (if s.slotFail (slotBase s.otherSlot) (regionBase (s.get Reg.SEC_SIG_CTRL_REGION)) = 0 ∧ s.fw.dirty = false
          then 1 else 0) ∧ s.sameRegs t [Reg.SEC_SIG_STAT, Reg.CHK_STATUS 7] ∧ s.sameBytes t) ∧
    (∀ time : Nat, s.fw.handover = some (some time) → s.completes .handoverReadyTimeout fun t => t.fw.handover = none ∧
      t.fw.update = 3 ∧ t.get Reg.SEC_FW_STAT_STBY_RUN = 0 ∧ s.sameBytes t) ∧
    (∀ (off : BitVec 27) (n : Fin 134217728) (data : List Byte), s.flashBarred off.toNat n.val = false →
      off.toNat + n.val ≤ 0x8000000 → s.completes (.flashProgramCommand off (some n) data) fun t => t.answer = [0] ∧
        s.sameRegs t [] ∧ s.sameBytesBut t (flashBase + off.toNat) n.val ∧
        ∀ i, i < n.val → t.rd8 (flashBase + off.toNat + i) = 0xFF#8) ∧
    (∀ (off : BitVec 27) (data : List Byte), s.flashBarred off.toNat data.length = false →
      off.toNat + data.length ≤ 0x8000000 → s.completes (.flashProgramCommand off none data) fun t => t.answer = [0] ∧
        s.sameRegs t [] ∧ s.sameBytesBut t (flashBase + off.toNat) data.length ∧ ∀ i, i < data.length →
          t.rd8 (flashBase + off.toNat + i) = s.rd8 (flashBase + off.toNat + i) &&& data.getD i 0) ∧
    (∀ g : Fin 256, s.completes (.fwSwitchArm g) fun t => t.get Reg.SYNC_FW_SWITCH_GEN = g.val ∧
      t.get Reg.SYNC_FW_SWITCH_PEND = 1 ∧ s.sameRegs t [Reg.SYNC_FW_SWITCH] ∧ s.sameBytes t) ∧
    (∀ h : Fin 4, s.fromPair (some h) = true → s.flag Reg.FLT_WDOG_STAT_HALF = false →
      s.completes (.watchdogKick (some h) 0x4B1D#32) fun t => t.get Reg.FLT_WDOG_STAT_HALF = 1 ∧ t.fw.kickAt = s.now ∧
        s.sameRegs t [Reg.FLT_WDOG_STAT] ∧ s.sameBytes t) ∧
    (∀ h : Fin 4, s.fromPair (some h) = true → s.get Reg.FLT_WDOG_STAT_HALF = 1 → s.now ≤ s.fw.kickAt + 200000 →
      s.flag Reg.FLT_WDOG_STAT_EXPIRED = false → s.watchdogDue = false → s.completes (.watchdogKick (some h) 0xB4E2#32) fun t =>
        t.get Reg.FLT_WDOG_STAT_HALF = 0 ∧ t.fw.loadedAt = some s.now ∧
        t.get Reg.FLT_WDOG_REMAIN_MS = s.get Reg.FLT_WDOG_TMO_MS ∧
        s.sameRegs t [Reg.FLT_WDOG_STAT, Reg.FLT_WDOG_REMAIN] ∧ s.sameBytes t)

/-- The commands of the egress guard and of the GPIO inputs (R464 to R468): a filtered level is taken, an input that is active
for too long is stuck, the guard pops its queue, a candidate that passes every stage goes out clamped to its bounds, a held
value goes out when its gap is over, a silent channel is marked, and a forced channel is safe. -/
def Obligations.GuardCommandsComplete : Prop :=
  ∀ s : State,
    (∀ (i : Fin 32) (high : Bool) (k : Nat), (if high then 1 else 0) ≠ s.get (Reg.SEN_GPI_STAT_LEVEL i.val) →
      s.get (Reg.SEN_GPI_CFG_FLT i.val) ≤ k → s.completes (.gpioInputChange i high k) fun t =>
        t.get (Reg.SEN_GPI_STAT_LEVEL i.val) = (if high then 1 else 0) ∧
        t.get (Reg.SEN_GPI_STAT_RAW i.val) = (if high then 1 else 0)) ∧
    (∀ i : Fin 32, s.hub.activeFrom.at i.val ≠ 0 → s.get (Reg.SEN_GPI_STUCK_MS i.val) ≠ 0 →
      s.completes (.gpioStuckExpire i) fun t => t.get (Reg.SEN_GPI_STAT_STUCK i.val) = 1) ∧
    (∀ n : Fin 64, s.flag (Reg.EGR_CH_CTRL_EN n.val) = true → s.qMode 1152 (896 + n.val) = 1 →
      0 < s.qAvail 1152 (896 + n.val) → (s.qRing 1152 (896 + n.val)).isSome = true →
      s.completes (.guardQueueCandidate n) fun t => t.qAvail 1152 (896 + n.val) = s.qAvail 1152 (896 + n.val) - 1 ∧
        t.qHead 1152 (896 + n.val) = (s.qHead 1152 (896 + n.val) + 1) % 4096) ∧
    (∀ (n : Fin 64) (v : Word), s.causes n.val = 0 → s.flag (Reg.EGR_CH_STATUS_SAFE n.val) = false → s.gapOver n.val = true →
      (s.reg (Reg.EGR_CH_DB n.val)).toNat ≤
        (sat v.toInt (s.egrInt (Reg.EGR_CH_LO n.val)) (s.egrInt (Reg.EGR_CH_HI n.val)) - s.egrInt (Reg.EGR_CH_LAST n.val)).natAbs →
      s.completes (.guardWriteCandidate n v) fun t => t.egrInt (Reg.EGR_CH_LAST n.val) =
          sat v.toInt (s.egrInt (Reg.EGR_CH_LO n.val)) (s.egrInt (Reg.EGR_CH_HI n.val)) ∧
        t.get (Reg.EGR_CH_EMIT_COUNT n.val) = satInc (Reg.EGR_CH_EMIT_COUNT n.val).len (s.get (Reg.EGR_CH_EMIT_COUNT n.val)) 1) ∧
    (∀ (n : Fin 64) h, (s.guard.held.find? fun x => x.1 = n.val) = some h → s.causes n.val = 0 →
      s.completes (.guardGapExpire n) fun t => t.egrInt (Reg.EGR_CH_LAST n.val) = sext 32 h.2 ∧
        (t.guard.held.find? fun x => x.1 = n.val) = none) ∧
    (∀ n : Fin 64, s.get (Reg.EGR_CH_SILENCE_MS n.val) ≠ 0 → s.guard.silent.contains n.val = false →
      s.completes (.guardSilenceExpire n) fun t => t.guard.silent = s.guard.silent ++ [n.val]) ∧
    (∀ n : Fin 64, s.completes (.guardForceSafeWrite (some n) true) fun t =>
      t.get (Reg.EGR_CH_CTRL_FORCE_SAFE n.val) = 1 ∧ t.get (Reg.EGR_CH_STATUS_SAFE n.val) = 1) ∧
    (s.completes (.guardForceSafeWrite none true) fun t => t.get Reg.EGR_FORCE_ALL = 1 ∧
      ∀ n, n < 64 → t.get (Reg.EGR_CH_STATUS_SAFE n) = 1)

/-- The commands of a hierarchy (R511 to R519): a worker arms and launches by ARM, answers a wave with its own result, ends
delivery by UPDATE, votes on a switch and withdraws one; the manager takes the parts of a wave, a worker's close, its vote
and its wish to rejoin, and loses a worker; a worker isolates itself; and a TIME exchange begins and is answered. -/
def Obligations.HierarchyCommandsComplete : Prop :=
  ∀ s : State,
    (∀ (port : Fin 8) fs u, s.armable = true → s.syncFirst port.val 1 = some (fs, u) →
      s.now ≤ flitLe (fs.getD 0 []) 16 8 → s.completes (.syncArmReceive port) fun t => t.tlkIn = u.tlkIn ∧
        t.clock.ready = true ∧ t.clock.armed = flitLe (fs.getD 0 []) 16 8 ∧ t.clock.halting = false) ∧
    (∀ (port : Fin 8) fs u, s.armable = true → s.syncFirst port.val 1 = some (fs, u) →
      flitLe (fs.getD 0 []) 16 8 < s.now → s.completes (.syncArmReceive port) fun t => t.tlkIn = u.tlkIn ∧
        t.deliveryOpen = true) ∧
    (∀ (port : Fin 8) fs u (v : State), s.syncFirst port.val 2 = some (fs, u) → s.joined = true → s.phase = 2 →
      flitLe (fs.getD 0 []) 8 8 = s.launched → v = (List.range 72).foldl (fun x p => x.drainDead p) u →
      s.completes (.syncWaveReceive port) fun t => t.tlkIn = u.tlkIn ∧ t.tlk = (v.syncSend port.val
        [[3#8, BitVec.ofNat 8 (flitByte (fs.getD 0 []) 1), if v.waveResult.2.2 then 1#8 else 0#8, 0#8] ++
          leBytes 4 v.waveResult.1 ++ leBytes 4 v.waveResult.2.1 ++ leBytes 4 0 ++ leBytes 8 s.launched]).tlk ∧
        s.sameBytes t) ∧
    (∀ (port : Fin 8) fs u (n e r : Nat) (idle : Bool) (l : List Nat), s.syncFirst port.val 3 = some (fs, u) → s.phase = 2 →
      s.clock.wave = some (n, e, r, idle, l) → flitByte (fs.getD 0 []) 1 = n → flitLe (fs.getD 0 []) 16 8 = s.launched →
      port.val ∈ l → (l.filter (· != port.val)).isEmpty = false → s.completes (.syncResultReceive port) fun t =>
        t.tlkIn = u.tlkIn ∧ t.clock.wave = some (n, (e + flitLe (fs.getD 0 []) 4 4) % 2 ^ 32,
          (r + flitLe (fs.getD 0 []) 8 4) % 2 ^ 32, idle && flitByte (fs.getD 0 []) 2 % 2 = 1, l.filter (· != port.val)) ∧
        s.sameRegs t [] ∧ s.sameBytes t) ∧
    (∀ (port : Fin 8) fs u, s.syncFirst port.val 4 = some (fs, u) → s.joined = true → s.phase = 2 →
      flitLe (fs.getD 0 []) 8 8 = s.launched → s.completes (.syncUpdateReceive port) fun t => t.tlkIn = u.tlkIn ∧
        t.deliveryOpen = false ∧ t.clock.wave = none ∧
        (flitByte (fs.getD 0 []) 1 % 2 = 1 → t.clock.forced = true ∧ t.clock.stretch = s.stretchNow)) ∧
    (∀ (port : Fin 8) fs u, s.syncFirst port.val 5 = some (fs, u) → port.val ∈ s.workers → port.val ∉ s.clock.done →
      flitLe (fs.getD 0 []) 8 8 = s.launched → s.phase = 3 → s.completes (.syncDoneReceive port) fun t =>
        t.tlkIn = u.tlkIn ∧ t.clock.done = s.clock.done ++ [port.val] ∧
        t.clock.lateSum = s.clock.lateSum + flitLe (fs.getD 0 []) 16 4 ∧ s.sameRegs t [] ∧ s.sameBytes t) ∧
    (∀ (port : Fin 8) fs u, s.syncFirst port.val 6 = some (fs, u) → flitByte (fs.getD 0 []) 1 = 0xFF → s.phase ≠ 5 →
      s.completes (.syncSwitchReceive port) fun t => t.tlkIn = u.tlkIn ∧ t.clock.switch = none ∧
        t.get Reg.STEP_SWITCH_STAT_STATE = 0 ∧ s.sameRegs t [Reg.STEP_SWITCH_STAT] ∧ s.sameBytes t) ∧
    (∀ (port : Fin 8) fs u, s.syncFirst port.val 6 = some (fs, u) → flitByte (fs.getD 0 []) 1 ≠ 0xFF →
      u.switchReason (flitByte (fs.getD 0 []) 1) = 0 → s.phase ≠ 1 → s.phase ≠ 4 →
      s.completes (.syncSwitchReceive port) fun t => t.tlkIn = u.tlkIn ∧ t.get Reg.STEP_SWITCH_STAT_STATE = 1 ∧
        t.clock.switch = some ⟨flitByte (fs.getD 0 []) 1, flitByte (fs.getD 0 []) 2 % 2 = 1, flitLe (fs.getD 0 []) 8 8⟩ ∧
        s.sameBytes t) ∧
    (∀ (port : Fin 8) fs u (w : Switch) (l : List Nat) (time : Nat), s.syncFirst port.val 7 = some (fs, u) →
      s.clock.votes = some (w, l, time) → port.val ∈ l → s.completes (.syncVoteReceive port) fun t => t.tlkIn = u.tlkIn ∧
        (flitLe (fs.getD 0 []) 1 2 ≠ 0 → t.clock.votes = none ∧ t.get Reg.STEP_SWITCH_STAT_STATE = 3) ∧
        (flitLe (fs.getD 0 []) 1 2 = 0 → (l.filter (· != port.val)).isEmpty = false →
          t.clock.votes = some (w, l.filter (· != port.val), time) ∧ s.sameRegs t []) ∧ s.sameBytes t) ∧
    (∀ (port : Fin 8) fs u, s.syncFirst port.val 8 = some (fs, u) → s.role = 1 → port.val ∉ s.clock.rejoining →
      s.completes (.syncRejoinReceive port) fun t => t.tlkIn = u.tlkIn ∧
        t.clock.rejoining = s.clock.rejoining ++ [port.val] ∧ s.sameRegs t [] ∧ s.sameBytes t) ∧
    (∀ (cause : Fin 3) (time : Nat), s.isolateAt cause.val = some time → s.phase ≠ 2 → s.phase ≠ 4 ∨ s.clock.ready = true →
      s.completes (.workerIsolate cause) fun t => t.get Reg.TLK_HIER_STAT_STATE = 2 ∧ s.sameBytes t) ∧
    (∀ n : Fin 8, n.val ∈ s.workers → s.clock.votes = none → s.phase ≠ 2 → s.completes (.workerLost n) fun t =>
      t.workers = (s.workers.filter fun x => x != n.val) ∧ s.sameBytes t) ∧
    (∀ port : Fin 8, s.role = 1 → s.tlkState port.val = 4 → s.completes (.timeExchangeStart port) fun t =>
      (t.tlkPort port.val).stamps = [t.now] ∧ s.now ≤ t.now ∧ s.sameRegs t [Reg.TB_COUNT_LO, Reg.TB_COUNT_HI] ∧ s.sameBytes t) ∧
    (∀ (port : Fin 8) (f : List Byte), s.role = 2 → s.tlkState port.val = 4 → flitCrc f = flitLe f 30 2 → flitByte f 0 = 6 →
      flitByte f 1 = 1 → s.completes (.timeFlitReceive port f) fun t =>
        (t.tlkPort port.val).stamps = [flitLe f 8 8, s.now, s.now] ∧ s.sameRegs t [] ∧ s.sameBytes t) ∧
    (∀ (port : Fin 8) fs u, s.syncFirst port.val 6 = some (fs, u) → flitByte (fs.getD 0 []) 1 = 0xFF → s.phase = 5 →
      s.completes (.syncSwitchReceive port) fun t => t.tlkIn = u.tlkIn ∧ t.clock.switch = none ∧
        t.clock.ready = s.clock.lifted ∧ t.get Reg.STEP_SWITCH_STAT_STATE = 0 ∧ t.phase = (if s.running then 4 else 0) ∧
        s.sameRegs t [Reg.STEP_SWITCH_STAT, Reg.STEP_STATUS] ∧ s.sameBytes t)

/-- The commands of the host interface beside its windows (R482 to R489, R520). -/
def Obligations.HostCommandsComplete : Prop :=
  ∀ s : State,
    (∀ image saved, s.flag Reg.HOST_MBX_STAT_BUSY = false → s.completes (.mailboxDoorbell image saved) fun t =>
      t.get Reg.HOST_MBX_STAT_DONE = 1 ∧ t.get Reg.HOST_MBX_STAT_BUSY = 0) ∧
    (∀ (c : Fin 8) (v : Fin 65536), s.completes (.dmaTailWrite c v) fun t => t.get (Reg.HOST_DMA_TAIL_IDX c.val) = v.val ∧
      s.sameRegs t [Reg.HOST_DMA_TAIL c.val, Reg.HOST_DMA_STATUS c.val] ∧ s.sameBytes t) ∧
    (∀ (c : Fin 8) ctrl len host dev data bad, s.dmaActive c.val = true →
      s.completes (.dmaDescriptorDone c ctrl len host dev data bad) fun t =>
        t.get (Reg.HOST_DMA_HEAD_IDX c.val) = (s.get (Reg.HOST_DMA_HEAD_IDX c.val) + 1) %
          max 1 (s.get (Reg.HOST_DMA_RING_LEN_N c.val)) ∧
        t.get (Reg.HOST_DMA_DONE_COUNT c.val) =
          satInc (Reg.HOST_DMA_DONE_COUNT c.val).len (s.get (Reg.HOST_DMA_DONE_COUNT c.val)) 1) ∧
    (∀ (c : Fin 8) (ctrl len : Word) (host dev : BitVec 64) data, s.dmaActive c.val = true → bits ctrl.toNat 0 1 = 0 →
      4 ≤ len.toNat → len.toNat ≤ 16777216 → len.toNat % 4 = 0 → host.toNat % 4 = 0 → dev.toNat % 4 = 0 →
      s.dmaReach dev.toNat len.toNat = true → data.length = len.toNat →
      s.completes (.dmaDescriptorDone c ctrl len host dev data false) fun t =>
        t.rdBytes dev.toNat len.toNat = data ∧ s.sameBytesBut t dev.toNat len.toNat) ∧
    (∀ c : Fin 8, s.completes (.dmaResume c) fun t => t.get (Reg.HOST_DMA_STATUS_HALTED c.val) = 0 ∧
      s.sameRegs t [Reg.HOST_DMA_STATUS c.val] ∧ s.sameBytes t) ∧
    (∀ v : Fin 512, v.val ≤ 448 → s.completes (.hostWinBaseWrite v) fun t => t.get Reg.HOST_WIN_BASE_GIB = v.val ∧
      s.sameRegs t [Reg.HOST_WIN_BASE] ∧ s.sameBytes t) ∧
    (∀ v : Fin 65536, s.completes (.hostOringReadWrite v) fun t =>
      t.get Reg.HOST_ORING_RD_RD = v.val % 2 ^ Reg.HOST_ORING_RD_RD.len ∧
      t.get Reg.EGR_HOST_PTR_RD = v.val % 2 ^ Reg.EGR_HOST_PTR_RD.len ∧
      s.sameRegs t [Reg.HOST_ORING_RD, Reg.EGR_HOST_PTR] ∧ s.sameBytes t) ∧
    (∀ kind : Fin 3, s.completes (.pcieReset kind) fun t => (∀ c, c < 8 → t.get (Reg.HOST_DMA_STATUS_HALTED c) = 1) ∧
      t.get Reg.HOST_WIN_BASE_GIB = getF (RegMap.resetAt Reg.HOST_WIN_BASE) Reg.HOST_WIN_BASE_GIB.lo Reg.HOST_WIN_BASE_GIB.len) ∧
    (∀ (speed : Fin 5) (width : Fin 9) (bme : Bool), s.completes (.pcieLinkUp speed width bme) fun t =>
      t.get Reg.HOST_STATUS_LINK_UP = 1 ∧ t.get Reg.HOST_STATUS_SPEED = speed.val ∧
      t.get Reg.HOST_STATUS_WIDTH = width.val ∧ t.get Reg.HOST_STATUS_BME = (if bme then 1 else 0) ∧
      s.sameRegs t [Reg.HOST_STATUS] ∧ s.sameBytes t)

/-- The commands of the I/O hub's contexts, cameras and Ethernet ports (R440 to R454, R474, R774). -/
def Obligations.HubCommandsComplete : Prop :=
  ∀ s : State,
    (∀ (n : Fin 32) (v : Word), s.flag (Reg.SEN_CTX_CTRL_EN n.val) = false →
      (s.writeOnly (Reg.SEN_CTX_CTRL n.val) v fun f => f.lo ≠ 0).streamCheck n.val = 0 →
      s.completes (.streamContextEnable n v) fun t => t.get (Reg.SEN_CTX_CTRL_EN n.val) = 1 ∧ t.hub.primed.at n.val = [] ∧
        s.sameRegs t [Reg.SEN_CTX_CTRL n.val] ∧ s.sameBytes t) ∧
    (∀ (n : Fin 32) (v : Word), s.completes (.streamContextDisable n v) fun t => t.get (Reg.SEN_CTX_CTRL_EN n.val) = 0 ∧
      t.hub.ringFill.at n.val = 0 ∧ s.sameRegs t [Reg.SEN_CTX_CTRL n.val, Reg.SEN_CTX_DROP_OFF n.val] ∧ s.sameBytes t) ∧
    (∀ v : Word, s.completes (.hubEnableWrite v) fun t =>
      t.reg Reg.SEN_CTRL = (s.writePlain Reg.SEN_CTRL v).reg Reg.SEN_CTRL ∧
        ((s.writePlain Reg.SEN_CTRL v).flag Reg.SEN_CTRL_EN = false → ∀ n, n < 32 → t.hub.ringFill.at n = 0) ∧ s.sameBytes t) ∧
    (∀ r vc : Fin 4, s.flag (Reg.SEN_CSI_CTRL_EN r.val) = true →
      (s.hub.frames.find? fun x => x.1 = 4 * r.val + vc.val) = none → s.completes (.csiFrameStart r vc .clean) fun t =>
        t.hub.frames = s.hub.frames ++ [(4 * r.val + vc.val, ⟨s.now - s.get (Reg.SEN_CSI_LAT_COUNTS r.val),
          s.now - s.get (Reg.SEN_CSI_LAT_COUNTS r.val), []⟩)] ∧ s.sameRegs t [] ∧ s.sameBytes t) ∧
    (∀ (r vc : Fin 4) (bs : List Byte) f, s.flag (Reg.SEN_CSI_CTRL_EN r.val) = true → bs.length ≤ 8192 →
      (s.hub.frames.find? fun x => x.1 = 4 * r.val + vc.val) = some (4 * r.val + vc.val, f) →
      s.completes (.csiLongPacket r vc 0x2A .clean true bs) fun t =>
        t.hub.frames = (s.hub.frames.filter fun x => x.1 ≠ 4 * r.val + vc.val) ++
          [(4 * r.val + vc.val, { f with lines := f.lines ++ [bs.map (·.toNat)] })] ∧ s.sameRegs t [] ∧ s.sameBytes t) ∧
    (∀ (r vc : Fin 4) x, s.flag (Reg.SEN_CSI_CTRL_EN r.val) = true →
      (s.hub.frames.find? fun y => y.1 = 4 * r.val + vc.val) = some x → s.completes (.csiFrameEnd r vc .clean) fun t =>
        (t.hub.frames.find? fun y => y.1 = 4 * r.val + vc.val) = none ∧ t.get (Reg.SEN_CSI_FRAMES_COUNT r.val) =
          satInc (Reg.SEN_CSI_FRAMES_COUNT r.val).len (s.get (Reg.SEN_CSI_FRAMES_COUNT r.val)) 1) ∧
    (∀ (p : Fin 2) (f : List Byte), s.flag (Reg.SEN_ETH_CTRL_EN p.val) = true → s.flag Reg.DBG_INJ_STAT_ARMED = false →
      s.hub.ethHeld = [] → 60 ≤ f.length → f.length ≤ 2046 → (untag f).1 ≠ 0x8808 → ptpEvent (untag f).1 (untag f).2 = none →
      (udpOf (untag f).1 (untag f).2).isNone = true →
      (s.get (Reg.SEN_ETH_FWRX_PTR_WR p.val) + 1) % 32 ≠ s.get (Reg.SEN_ETH_FWRX_PTR_RD p.val) →
      s.get (Reg.SEN_ETH_FWRX_BASE_VALUE p.val) + 65536 ≤ sramBytes → s.completes (.ethFrameReceive p f true) fun t =>
        t.get (Reg.SEN_ETH_FWRX_PTR_WR p.val) = (s.get (Reg.SEN_ETH_FWRX_PTR_WR p.val) + 1) % 32 ∧
        t.rdBytes (sramBase + s.get (Reg.SEN_ETH_FWRX_BASE_VALUE p.val) + 2048 * s.get (Reg.SEN_ETH_FWRX_PTR_WR p.val)) (2 + f.length) =
          leBytes 2 f.length ++ f ∧
        s.sameBytesBut t (sramBase + s.get (Reg.SEN_ETH_FWRX_BASE_VALUE p.val) + 2048 * s.get (Reg.SEN_ETH_FWRX_PTR_WR p.val))
          (2 + f.length)) ∧
    (∀ p : Fin 2, s.flag (Reg.SEN_ETH_CTRL_EN p.val) = true → s.flag Reg.DBG_JTAG_STAT_EXTEST = false →
      s.get (Reg.SEN_ETH_FWTX_BASE_VALUE p.val) + 65536 ≤ sramBytes → s.completes (.ethFwTransmit p false) fun t =>
        t.sent = s.sent ++ [.eth p.val (s.rdBytes (sramBase + s.get (Reg.SEN_ETH_FWTX_BASE_VALUE p.val) +
          2048 * s.get (Reg.SEN_ETH_FWTX_PTR_WR p.val) + 2) (min 2046 (s.rdLe (sramBase +
            s.get (Reg.SEN_ETH_FWTX_BASE_VALUE p.val) + 2048 * s.get (Reg.SEN_ETH_FWTX_PTR_WR p.val)) 2)))] ∧
        t.get (Reg.SEN_ETH_FWTX_PTR_WR p.val) = (s.get (Reg.SEN_ETH_FWTX_PTR_WR p.val) + 1) % 32 ∧
        s.sameRegs t [Reg.SEN_ETH_FWTX_PTR p.val] ∧ s.sameBytes t) ∧
    (∀ (p : Fin 2) (up : Bool), s.completes (.ethLinkChange p up) fun t =>
      t.get (Reg.SEN_ETH_STATUS_LINK p.val) = (if up then 1 else 0) ∧
        s.sameRegs t [Reg.SEN_ETH_STATUS p.val, Reg.SEN_ETH_LINK_DOWN p.val] ∧ s.sameBytes t) ∧
    (∀ (p : Fin 2) (tx : Bool), s.completes (.ptpInfoRead p tx) fun t =>
      t.answer = [(s.reg (if tx then Reg.SEN_ETH_PTP_TX_INFO p.val else Reg.SEN_ETH_PTP_RX_INFO p.val)).toNat] ∧
        t.hub.stamps.at (if tx then 2 + p.val else p.val) = (s.hub.stamps.at (if tx then 2 + p.val else p.val)).tail ∧
        s.sameBytes t)

/-- The commands of images (R117, R118, R519, R584): a load is taken up and ends with the image in DRAM where it passes
every check, an image is unloaded,
a switch of a halted device is done at once one of a running device waits for its step, and one of
a manager goes to the votes of its workers, a vote that does not come refuses
it, and a switch whose image stands on chip is over. -/
def Obligations.ImageCommandsComplete : Prop :=
  ∀ s : State,
    (∀ (slot : Fin 8) (e : Fin 32) (info : ImageInfo), 2 ≤ s.slotRole slot.val → s.inRun = true →
      (s.imageAt (s.selOf slot.val 2)).all (fun x => decide (4 ≤ x.state) || decide (x.state = 0)) = true →
      info.tiles ≤ s.obj 0x2201 2 → s.completes (.imageLoadFlash slot e info) fun t => t.answer = [0, 0] ∧
        (t.imageAt (s.selOf slot.val 2)).map (fun x => (x.state, x.info)) = some (1, info)) ∧
    (∀ (slot : Fin 8) (a : BitVec 64) (info : ImageInfo), 2 ≤ s.slotRole slot.val → s.inRun = true →
      (s.imageAt (s.selOf slot.val 2)).all (fun x => decide (4 ≤ x.state) || decide (x.state = 0)) = true →
      info.tiles ≤ s.obj 0x2201 2 → s.completes (.imageLoadDram slot a info) fun t => t.answer = [0, 0] ∧
        (t.imageAt (s.selOf slot.val 2)).map (fun x => (x.state, x.source)) = some (1, a.toNat)) ∧
    (∀ (i : Fin 64) (x : Image), s.imageAt i.val = some x → x.state = 1 →
      (x.crc.all fun c => decide (crc32c (s.rdBytes x.source x.length) = c)) = true →
      firstFlaw (s.imageFlaws x.info (s.rdBytes x.source x.length)) = none →
      s.completes (.imageLoadDone i true) fun t => (t.imageAt i.val).map (·.state) = some 2 ∧
        t.rdBytes x.info.base x.length = s.rdBytes x.source x.length ∧ s.sameBytesBut t x.info.base x.length) ∧
    (∀ (i : Fin 64) (x : Image), s.imageAt i.val = some x → x.state = 1 → s.completes (.imageLoadDone i false) fun t =>
      (t.imageAt i.val).map (·.state) = some 4 ∧ s.sameRegs t [] ∧ s.sameBytes t) ∧
    (∀ slot : Fin 8, 2 ≤ s.slotRole slot.val → (s.imageAt (s.selOf slot.val 2)).all (fun x => x.state != 1 && x.state != 3) = true →
      s.completes (.imageUnload slot) fun t => t.imageAt (s.selOf slot.val 2) = none ∧ t.answer = [0, 0]) ∧
    (s.joined = false → s.switchReason (s.get Reg.STEP_SWITCH_CTRL_IMAGE) = 0 → s.running = false →
      s.workers = [] →
      s.completes .switchRequest fun t => t.answer = [0, 0] ∧ t.get Reg.STEP_SWITCH_STAT_STATE = 0 ∧ t.clock.switch = none) ∧
    (s.joined = false → s.switchReason (s.get Reg.STEP_SWITCH_CTRL_IMAGE) = 0 → s.running = true →
      s.tooLate (s.get64 Reg.STEP_SWITCH_AT_LO) = false → s.workers = [] → s.phase ≠ 1 → s.phase ≠ 4 →
      s.completes .switchRequest fun t => t.answer = [0, 0] ∧ t.get Reg.STEP_SWITCH_STAT_STATE = 1 ∧
        t.clock.switch = some ⟨s.get Reg.STEP_SWITCH_CTRL_IMAGE, s.flag Reg.STEP_SWITCH_CTRL_RETAIN,
          s.get64 Reg.STEP_SWITCH_AT_LO⟩ ∧ s.sameRegs t [Reg.STEP_SWITCH_STAT] ∧ s.sameBytes t) ∧
    (∀ (n : Fin 8) (w : Switch) (l : List Nat) (time : Nat), s.clock.votes = some (w, l, time) → n.val ∈ l →
      s.completes (.switchVoteTimeout n) fun t => t.clock.votes = none ∧ t.get Reg.STEP_SWITCH_STAT_STATE = 3 ∧
        t.get Reg.STEP_SWITCH_STAT_REASON = 0x16 ∧ s.sameBytes t) ∧
    (∀ (w : Switch) (v : State), s.clock.switch = some w → s.phase = 5 →
      v = (if w.retain then s.switchSave else s).switchLoad w.image →
      s.completes .imageSwitchLoadDone fun t => t.get Reg.STEP_SWITCH_STAT_STATE = 0 ∧ t.clock.switch = none ∧
        (v.running = false ∨ v.clock.halting = true → t.phase = 0 ∧ t.get Reg.STEP_CTRL_RUN = 0) ∧
        (v.running = true → v.clock.halting = false → v.joined = true → t.phase = 4)) ∧
    (∀ (i : Fin 64) (x : Image) (f : Flaw), s.imageAt i.val = some x → x.state = 1 →
      (x.crc.all fun c => decide (crc32c (s.rdBytes x.source x.length) = c)) = true →
      firstFlaw (s.imageFlaws x.info (s.rdBytes x.source x.length)) = some f → s.completes (.imageLoadDone i true) fun t =>
        (t.imageAt i.val).map (·.state) = some 4 ∧ s.sameRegs t [Reg.FLT_LOG_LOST] ∧ s.sameBytes t) ∧
    (s.joined = false → s.switchReason (s.get Reg.STEP_SWITCH_CTRL_IMAGE) = 0 → s.running = false → s.workers ≠ [] →
      s.completes .switchRequest fun t => t.answer = [0, 0] ∧ t.get Reg.STEP_SWITCH_STAT_STATE = 1 ∧
        (t.clock.votes.map fun x => (x.1.image, x.2.1)) = some (s.get Reg.STEP_SWITCH_CTRL_IMAGE, s.workers))

/-- The instructions of the test access port (R729 to R733): the boundary register, the identification, the challenge and the
grant of a debug unlock, its status, a debug access by memory or by a register request, the bypass, the reset of the port, and
the end of an idle unlock. -/
def Obligations.JtagCommandsComplete : Prop :=
  ∀ s : State,
    (∀ pins shift : Nat, s.get Reg.DBG_JTAG_STAT_LEVEL = 2 → s.completes (.jtagExtest pins shift) fun t =>
      t.get Reg.DBG_JTAG_STAT_EXTEST = 1 ∧ t.jtag.boundary = shift ∧ t.jtag.code = 0 ∧ t.answer = [pins] ∧ s.sameBytes t) ∧
    (∀ pins shift : Nat, s.flag Reg.DBG_JTAG_STAT_EXTEST = false → s.completes (.jtagSamplePreload pins shift) fun t =>
      t.jtag.boundary = shift ∧ t.jtag.code = 1 ∧ t.answer = [pins] ∧ s.sameRegs t [] ∧ s.sameBytes t) ∧
    (s.flag Reg.DBG_JTAG_STAT_EXTEST = false → s.completes .jtagIdcode fun t => t.answer = [s.idcode] ∧ t.jtag.code = 2 ∧
      s.sameRegs t [] ∧ s.sameBytes t) ∧
    (∀ role : Fin 4, s.flag Reg.DBG_JTAG_STAT_EXTEST = false → s.completes (.jtagUnlockChal role) fun t => s.sameBytes t ∧
      t.jtag.code = 0x10 ∧ (role.val = 0 → t.get Reg.DBG_JTAG_STAT_LEVEL = 0 ∧ t.answer = []) ∧
      (role.val ≠ 0 → (t.sec.challenges.find? fun x => x.1 = 8).map (·.2.1) = some role.val ∧
        t.answer = (leBytes 8 (Config.random s.freeCount).toNat).map (·.toNat) ∧ s.sameRegs t [])) ∧
    (∀ (resp c key : List Byte) (slot role time : Nat), s.flag Reg.DBG_JTAG_STAT_EXTEST = false →
      (s.sec.challenges.find? fun x => x.1 = 8) = some (slot, role, c, time) → s.now ≤ time + 12000000000 → s.debugRole ≤ role → role ≤ 3 →
      s.flag (Reg.SEC_LOCK_LOCKED (role - 1)) = false → s.roleKey role = some key →
      takeHash (Config.hmac key (c ++ s.serial ++ [8#8, BitVec.ofNat 8 role])) 10 = resp →
      s.completes (.jtagUnlockResp resp) fun t => t.get Reg.DBG_JTAG_STAT_LEVEL = role - 1 ∧ t.jtag.heard = s.now ∧
        t.get (Reg.SEC_LOCK_FAILS (role - 1)) = 0 ∧ (t.sec.challenges.find? fun x => x.1 = 8) = none) ∧
    (s.flag Reg.DBG_JTAG_STAT_EXTEST = false → s.completes .jtagDbgStatus fun t => s.sameRegs t [] ∧ s.sameBytes t ∧
      t.answer = [s.get Reg.DBG_JTAG_STAT_LEVEL, 0, s.get (Reg.SEC_LOCK_LOCKED 0) + 2 * s.get (Reg.SEC_LOCK_LOCKED 1) +
        4 * s.get (Reg.SEC_LOCK_LOCKED 2), s.jtag.status]) ∧
    (∀ (a : BitVec 40) (v : Word) (wr : Bool) (e : Ecc), s.flag Reg.DBG_JTAG_STAT_EXTEST = false →
      s.get Reg.DBG_JTAG_STAT_LEVEL ≠ 0 → s.jtagWaits = false → dramBase ≤ a.toNat → a.toNat < 0x9000000000 →
      (s.dramAt (a.toNat / 4 * 4)).isSome = true → s.dramOk (a.toNat / 4 * 4) = true →
      s.rangePoisoned (a.toNat / 4 * 4) 4 = false → s.completes (.jtagDbgAccess a v wr e) fun t =>
        t.answer = [s.jtag.status, s.jtag.data] ∧ t.jtag.status = 0 ∧ t.jtag.heard = s.now ∧
        (wr = true → t.rdLe (a.toNat / 4 * 4) 4 = v.toNat ∧ s.sameBytesBut t (a.toNat / 4 * 4) 4) ∧
        (wr = false → t.jtag.data = s.rdLe (a.toNat / 4 * 4) 4 ∧ s.sameBytes t ∧ s.sameRegs t [])) ∧
    (∀ (a : BitVec 40) (v : Word) (wr : Bool) (e : Ecc) (g tile : Nat), s.flag Reg.DBG_JTAG_STAT_EXTEST = false →
      s.get Reg.DBG_JTAG_STAT_LEVEL ≠ 0 → s.jtagWaits = false → s.doorOf (a.toNat / 4 * 4) = some tile →
      ((List.range 256).find? fun g => s.accesses.all fun y => y.1 != g) = some g →
      s.completes (.jtagDbgAccess a v wr e) fun t => t.answer = [s.jtag.status, s.jtag.data] ∧ t.jtag.status = 1 ∧
        t.accesses = s.accesses ++ [(g, 6)] ∧ s.sameRegs t [] ∧ s.sameBytes t) ∧
    (∀ code : Byte, s.flag Reg.DBG_JTAG_STAT_EXTEST = false → s.completes (.jtagBypass code) fun t =>
      t.jtag.code = code.toNat ∧ s.sameRegs t [] ∧ s.sameBytes t) ∧
    (∀ code : Byte, s.get Reg.DBG_JTAG_STAT_EXTEST = 1 → code ≠ 0 → s.completes (.jtagBypass code) fun t =>
      t.jtag.code = code.toNat ∧ t.start.stage = 1 ∧ t.start.rail = some 6 ∧ t.get Reg.DBG_JTAG_STAT_EXTEST = 0) ∧
    (s.completes .trstAssert fun t => t.get Reg.DBG_JTAG_STAT_LEVEL = 0 ∧ t.jtag.code = 2) ∧
    (s.get Reg.DBG_JTAG_STAT_LEVEL ≠ 0 → s.completes .jtagIdleTimeout fun t => t.get Reg.DBG_JTAG_STAT_LEVEL = 0 ∧
      s.sameRegs t [Reg.DBG_JTAG_STAT, Reg.TB_COUNT_LO, Reg.TB_COUNT_HI] ∧ s.sameBytes t)

/-- The commands of the memories (R407 to R409, R422 to R428). -/
def Obligations.MemoryCommandsComplete : Prop :=
  ∀ s : State,
    (∀ (x : Site) (b : Fin 32) (e : Ecc), b.val < banksOf x → s.scrubOn x = true → s.completes (.scrubRow x b e) fun t =>
      t.scrubRead x b.val = s.scrubRead x b.val + 1 ∧ s.sameBytes t) ∧
    (∀ a q off, s.dramAt a = some (q, off) → s.subRetired q = false → s.poisoned a = false →
      s.completes (.dramReadRetry a .clean) fun t =>
        t.get (Reg.DDR_SUB_RETRY_COUNT (q / 4) (q % 4)) =
          satInc (Reg.DDR_SUB_RETRY_COUNT (q / 4) (q % 4)).len (s.get (Reg.DDR_SUB_RETRY_COUNT (q / 4) (q % 4))) 1 ∧
        t.get64 (Reg.DDR_SUB_LAST_LO (q / 4) (q % 4)) = off % 2 ^ 64 ∧ s.sameBytes t) ∧
    (∀ a q off, s.dramAt a = some (q, off) → s.subRetired q = false →
      s.completes (.dramReadRetry a .uncorrectable) fun t =>
        t.get (Reg.DDR_SUB_UE_COUNT (q / 4) (q % 4)) =
          satInc (Reg.DDR_SUB_UE_COUNT (q / 4) (q % 4)).len (s.get (Reg.DDR_SUB_UE_COUNT (q / 4) (q % 4))) 1) ∧
    (∀ (q : Fin 16) (bad : List (Fin 128)) page e, (s.memories.copies.find? fun c => c.1 = q.val) = some (q.val, page, e) →
      s.completes (.pageCopyDone q bad) fun t => (q.val, page, e) ∉ t.memories.copies ∧
        (∀ b ∈ bad, t.poisoned (s.dramAddr q.val (8192 * page + 64 * b.val)) = true) ∧ s.sameRegs t [Reg.FLT_LOG_LOST] ∧ s.sameBytes t) ∧
    (∀ q : Fin 16, s.subRetired q.val = false → s.completes (.subchannelRetire q) fun t => t.subRetired q.val = true ∧
      t.get (Reg.STR_CTRL_EN q.val) = 0) ∧
    (s.running = false → (∀ q, q < 16 → s.flag (Reg.STR_CTRL_EN q) = false) → s.completes .mapReform fun t =>
      t.liveSubs = s.liveSubs.filter (fun q => !s.subRetired q) ∧
        s.sameRegs t [Reg.DDR_MAP_STAT 0, Reg.FLT_LOG_LOST]) ∧
    (∀ (q : Fin 16) (a b : Burst), s.subReadable q.val = true → s.flag (Reg.DDR_SCRUB_CFG_EN (q.val / 4)) = true →
      s.flag (Reg.DDR_MT_STAT_BUSY (q.val / 4)) = false → s.memories.patrol.at q.val + 1 < s.subBursts →
      s.completes (.patrolRead q a b) fun t => t.memories.patrol.at q.val = s.memories.patrol.at q.val + 1) ∧
    (∀ quad, s.busy 5 = false → s.completes (.fullScrubStart quad) fun t => t.busy 5 = true ∧ (t.prog 5).position = 0 ∧
      s.sameRegs t [] ∧ s.sameBytes t) ∧
    (s.busy 5 = true → s.completes .fullScrubAbort fun t => (t.prog 5).state = 4 ∧
      (t.prog 5).position = (s.prog 5).position ∧ s.sameRegs t [] ∧ s.sameBytes t) ∧
    (∀ (q : Fin 16) (a b : Burst), s.busy 5 = true → s.scrubSubs.contains q.val = true →
      s.memories.full.at q.val < s.subBursts → s.completes (.fullScrubRead q a b) fun t =>
        t.memories.full.at q.val = s.memories.full.at q.val + 1) ∧
    (s.filling = true → s.completes .fillGranule fun t => t.memories.fillNext = s.memories.fillNext + 1 ∧ s.sameBytes t)

/-- The commands of the event mesh (R280 to R311, R443, R769). A control pip at its own router is taken by port L; a spike pip
bound eastwards crosses on the link to the east; a damaged pip is counted and named by a NAK. A control pip waiting at its own
node is injected. The edge returns and injects pips. A NAK puts the pip in the retry queue, and a down signal takes the link
down. Echoes and storm notices lower the rate of a metered node and time raises it. The delay store takes a record, and the
multicast table and the spill region take what is written. -/
def Obligations.MeshCommandsComplete : Prop :=
  ∀ s : State,
    (∀ (r : Fin 1152) (p : Fin 4) (x : Pip), s.coreGated r.val = false → s.linkUp r.val p.val = true →
      s.mesh.links.at (4 * r.val + p.val) = [x] →
      (∀ q, q < 4 → q ≠ p.val → s.mesh.links.at (4 * r.val + q) = []) → x.legal = true → x.mc = false → x.dest = r.val →
      x.cls = 0 → x.ptype ≠ 1 → x.ptype ≠ 2 → s.fenced r.val = false → (s.mesh.ctrlIn.at r.val).length < 4 →
      s.completes (.pipRoute r []) fun t => t.mesh.ctrlIn.at r.val = s.mesh.ctrlIn.at r.val ++ [x] ∧
        t.mesh.links.at (4 * r.val + p.val) = [] ∧ t.get64 (Reg.EVM_EJ_LO r.val) = (s.get64 (Reg.EVM_EJ_LO r.val) + 1) % 2 ^ 64) ∧
    (∀ (r : Fin 1152) (p : Fin 4) (x : Pip), s.coreGated r.val = false → s.linkUp r.val p.val = true →
      s.mesh.links.at (4 * r.val + p.val) = [x] →
      (∀ q, q < 4 → q ≠ p.val → s.mesh.links.at (4 * r.val + q) = []) → x.legal = true → x.mc = false → x.rejoin = false →
      x.cls = 1 → s.linkUp r.val 1 = true → colOf r.val < 35 → colOf r.val ≠ 17 → x.dest < 1152 → x.dest ≠ r.val →
      colOf r.val < colOf x.dest → s.blockedAt r.val x = false → s.flag Reg.DBG_INJ_STAT_ARMED = false →
      s.completes (.pipRoute r []) fun t => t.mesh.links.at (4 * (r.val + 1) + 3) =
        s.mesh.links.at (4 * (r.val + 1) + 3) ++ [x] ∧ t.mesh.links.at (4 * r.val + p.val) = []) ∧
    (∀ (r : Fin 1152) (p : Fin 4) (c : BitVec 16) (x : Pip), s.coreGated r.val = false → s.linkUp r.val p.val = true →
      s.mesh.links.at (4 * r.val + p.val) = [x] →
      (∀ q, q < 4 → q ≠ p.val → s.mesh.links.at (4 * r.val + q) = []) → c.toNat ≠ pipCrc x →
      s.completes (.pipRoute r [(p, c)]) fun t => t.get (Reg.EVM_CRC_ERR_COUNT r.val) =
          satInc (Reg.EVM_CRC_ERR_COUNT r.val).len (s.get (Reg.EVM_CRC_ERR_COUNT r.val)) 1 ∧
        t.mesh.links.at (4 * r.val + p.val) = [] ∧
        (∀ r', neighbour r.val p.val = some r' →
          t.mesh.naks.at (4 * r' + facing p.val) = s.mesh.naks.at (4 * r' + facing p.val) ++ [x]) ∧
        (neighbour r.val p.val = none → t.mesh.edgeRetry.at (rowOf r.val) = s.mesh.edgeRetry.at (rowOf r.val) ++ [x])) ∧
    (∀ (r : Fin 1152) (x : Pip) rest, s.coreGated r.val = false → s.mesh.retry.at r.val = [] → s.mesh.ctrl.at r.val = x :: rest → x.legal = true →
      x.mc = false → x.dest = r.val → x.cls = 0 → x.ptype ≠ 1 → x.ptype ≠ 2 → s.fenced r.val = false →
      (s.mesh.ctrlIn.at r.val).length < 4 → (s.mesh.awarded.at r.val).contains 4 = false →
      s.completes (.pipInject r) fun t => t.mesh.ctrlIn.at r.val = s.mesh.ctrlIn.at r.val ++ [x] ∧
        t.mesh.ctrl.at r.val = rest ∧ t.mesh.awarded.at r.val = []) ∧
    (∀ (y : Fin 32) (x : Pip) rest, s.mesh.edgeBack.at y.val = x :: rest → s.completes (.edgeReturnPip y) fun t =>
      t.mesh.edgeBack.at y.val = rest ∧
        t.mesh.links.at (4 * (36 * y.val) + 3) = s.mesh.links.at (4 * (36 * y.val) + 3) ++ [x] ∧ s.sameRegs t [] ∧ s.sameBytes t) ∧
    (∀ (y : Fin 32) (x : Pip) rest, s.mesh.edgeBack.at y.val = [] → s.linkUp (36 * y.val) 3 = true →
      s.mesh.edgeRetry.at y.val = [] → s.mesh.ctrl.at (1152 + y.val) = x :: rest → s.completes (.edgeInject y) fun t => t.mesh.ctrl.at (1152 + y.val) = rest ∧
        t.mesh.links.at (4 * (36 * y.val) + 3) = s.mesh.links.at (4 * (36 * y.val) + 3) ++ [x] ∧ s.sameBytes t) ∧
    (∀ (r : Fin 1152) (p : Fin 4) (x : Pip) rest, s.mesh.naks.at (4 * r.val + p.val) = x :: rest →
      (s.mesh.retry.at r.val).length < 8 → s.completes (.nakReceive r p) fun t =>
        t.mesh.retry.at r.val = s.mesh.retry.at r.val ++ [(x, p.val)] ∧ t.mesh.naks.at (4 * r.val + p.val) = rest ∧
        s.sameRegs t [Reg.EVM_LINK r.val] ∧ s.sameBytes t) ∧
    (∀ (r : Fin 1152) (p : Fin 4), s.completes (.linkDownSignal r p) fun t => t.linkUp r.val p.val = false ∧ s.sameBytes t) ∧
    (∀ (n : Fin 1184) (x : Pip), ((s.mesh.throttleIn.at n.val).find? fun p => p.ptype = 1) = some x →
      s.metered n.val = true → s.mesh.lastEcho.at n.val = 0 → s.completes (.echoReceive n) fun t =>
        t.get ⟨thrRate n.val, 0, 9⟩ =
          max (s.get ⟨thrHold n.val, 0, 9⟩) (s.rate n.val * s.get ⟨thrCfg n.val, 0, 4⟩ / 16) % 2 ^ 9 ∧
        t.mesh.throttleIn.at n.val = (s.mesh.throttleIn.at n.val).erase x ∧ s.sameBytes t) ∧
    (∀ (n : Fin 1184) (x : Pip), ((s.mesh.throttleIn.at n.val).find? fun p => p.ptype = 2) = some x →
      s.metered n.val = true → s.completes (.stormNoticeReceive n) fun t =>
        t.get ⟨thrRate n.val, 0, 9⟩ = s.get ⟨thrHold n.val, 0, 9⟩ ∧
        t.mesh.throttleIn.at n.val = (s.mesh.throttleIn.at n.val).erase x ∧ s.sameRegs t [thrRate n.val] ∧ s.sameBytes t) ∧
    (∀ n : Fin 1184, s.metered n.val = true → s.completes (.throttleIncrease n) fun t =>
      t.get ⟨thrRate n.val, 0, 9⟩ = min 256 (s.get ⟨thrRate n.val, 0, 9⟩ + s.get ⟨thrCfg n.val, 4, 8⟩) ∧ s.sameBytes t) ∧
    (∀ (r : Fin 1152) (e : BitVec 128) rest, s.mesh.delayWait.at r.val = e :: rest →
      (s.mesh.delay.at r.val).length < 1024 → s.completes (.delayStoreWrite r) fun t =>
        t.mesh.delay.at r.val = s.mesh.delay.at r.val ++ [e] ∧ t.mesh.delayWait.at r.val = rest ∧
        t.get (Reg.EVM_DS_LEVEL_LEVEL r.val) = (s.mesh.delay.at r.val).length + 1 ∧
        s.sameRegs t [Reg.EVM_DS_LEVEL r.val] ∧ s.sameBytes t) ∧
    (∀ (r : Fin 1152) (v : Word) (remap : Bool), s.running = false ∨ remap = true → s.completes (.mcEntryWrite r v remap) fun t =>
      t.mesh.mcast.at (4096 * r.val + s.get (Reg.EVM_MC_ADDR_GROUP r.val)) =
        v.toNat % 2 ^ 24 - bits v.toNat 11 1 * 2 ^ 11 ∧ s.sameRegs t [Reg.EVM_MC_ADDR r.val] ∧ s.sameBytes t) ∧
    (∀ (r : Fin 1152) (v : Word), v.toNat % 2 ^ 19 % 16 = 0 →
      v.toNat % 2 ^ 19 + 1024 * s.get (Reg.EVM_SPILL_LEN_LEN r.val) ≤ 0x80000 →
      s.completes (.spillRegionWrite r false v) fun t => t.get (Reg.EVM_SPILL_BASE_BASE r.val) = v.toNat % 2 ^ 19 ∧
        s.sameRegs t [Reg.EVM_SPILL_BASE r.val] ∧ s.sameBytes t) ∧
    (∀ (r : Fin 1152) (v : Word), s.running = false →
      s.get (Reg.EVM_SPILL_BASE_BASE r.val) + 1024 * (v.toNat % 1024) ≤ 0x80000 →
      s.completes (.spillRegionWrite r true v) fun t => t.get (Reg.EVM_SPILL_LEN_LEN r.val) = v.toNat % 1024 ∧
        s.sameRegs t [Reg.EVM_SPILL_LEN r.val] ∧ s.sameBytes t)

/-- The commands of the neuron engines and of learning (R136, R148, R153 to R155, R239, R247, R254): a scan reports its tile's
update done once, a context is enabled where its check finds nothing, is disabled at any time, and takes a field write while
it is not enabled; the window register takes an assigned value; a learning pass of a pod runs once in the update phase; a
learning control register takes a write that is not barred; and the modulator queue takes an entry for one of the next 255 steps. -/
def Obligations.NeuronAndLearningCommandsComplete : Prop :=
  ∀ s : State,
    (∀ (n : Fin 1152) ecc, s.scanReady n.val = true → s.completes (.neuronScan n ecc) fun t =>
      t.delivery.updated = s.delivery.updated ++ [n.val]) ∧
    (∀ (n : Fin 1152) (c : Fin 32) (v : Word), s.flag (Reg.POP_CTRL_EN n.val c.val) = false →
      (s.ctxWrite n.val c.val 0 (v ||| 1)).ctxCheck n.val c.val = 0 → s.completes (.contextEnable n c v) fun t =>
        t.get (Reg.POP_CTRL_EN n.val c.val) = 1 ∧ s.sameRegs t [Reg.POP_CTRL n.val c.val] ∧ s.sameBytes t) ∧
    (∀ (n : Fin 1152) (c : Fin 32) (v : Word), s.completes (.contextDisable n c v) fun t =>
      t.get (Reg.POP_CTRL_EN n.val c.val) = 0 ∧ s.sameBytes t) ∧
    (∀ (n : Fin 1152) (c : Fin 32) (r : Fin 16) (v : Word), s.flag (Reg.POP_CTRL_EN n.val c.val) = false →
      s.completes (.contextFieldWrite n c r v) fun t => t.reg (Reg.POP_CTRL n.val c.val + 4 * r.val) =
        writeFields ((RegMap.rowOf (Reg.POP_CTRL n.val c.val + 4 * r.val)).map (·.fields) |>.getD [])
          (fun f => !(4 * r.val = 0 && f.lo = 0)) (s.reg (Reg.POP_CTRL n.val c.val + 4 * r.val)) v ∧
        s.sameRegs t [Reg.POP_CTRL n.val c.val + 4 * r.val] ∧ s.sameBytes t) ∧
    (∀ (n : Fin 1152) (v : Word), (∀ c, c < 32 → s.flag (Reg.POP_CTRL_EN n.val c) = true →
        s.flag (Reg.POP_CTRL_WINDOWED n.val c) = false) → getF v 0 7 ≠ 1 → getF v 0 7 ≤ 64 →
      s.completes (.neWindowWrite n v) fun t => t.get (Reg.NE_WINDOW_W n.val) = getF v 0 7 ∧
        s.sameRegs t [Reg.NE_WINDOW n.val] ∧ s.sameBytes t) ∧
    (∀ p : Fin 72, s.get Reg.STEP_STATUS_PHASE = 3 → s.sweepsDone p.val = true → p.val ∉ s.delivery.passed →
      s.completes (.learningPass p) fun t => t.delivery.passed = s.delivery.passed ++ [p.val]) ∧
    (∀ (p : Fin 72) (n : Fin 64) (v : Word), getF v 0 1 = 0 ∨ s.learnBarred p.val n.val = false →
      s.completes (.plEnableWrite p n v) fun t =>
        t.reg (Reg.DE_PL_CTRL p.val n.val) = (s.writePlain (Reg.DE_PL_CTRL p.val n.val) v).reg (Reg.DE_PL_CTRL p.val n.val) ∧
        s.sameRegs t [Reg.DE_PL_CTRL p.val n.val] ∧ s.sameBytes t) ∧
    (∀ v : Word, (s.get Reg.SYNC_MODQ_STEP_STEP + 2 ^ 32 - s.stepNum % 2 ^ 32) % 2 ^ 32 ≤ 255 →
      s.delivery.modQueue.length < 64 → s.completes (.modqPush v) fun t => t.delivery.modQueue =
        s.delivery.modQueue ++ [(s.get Reg.SYNC_MODQ_STEP_STEP, getF v 0 3, s.get Reg.SYNC_MODQ_PUSH_LO_VALUE)] ∧
        t.get Reg.SYNC_MODQ_STAT_LEVEL = s.delivery.modQueue.length + 1 ∧ s.sameRegs t [Reg.SYNC_MODQ_STAT] ∧ s.sameBytes t)

/-- Register writes, the staging set and the stored parameters (R14, R16, R40, R65 to R69, R571): a register of a router takes
what its core writes, an offset without a register ignores it, a shut tile discards it and answers FENCED, a staged set is accepted or emptied, and
parameters are saved and given back their defaults. -/
def Obligations.SettingsCommandsComplete : Prop :=
  ∀ s : State,
    (∀ (n : Fin 1152) (a : BitVec 40) (v : Word) (e : Ecc), s.reaches (.tile n) a.toNat = some (Reg.EVM_CTRL n.val) →
      s.completes (.registerWrite ⟨.tile n, e⟩ a v) fun t => t.get (Reg.EVM_CTRL_ECHO_EN n.val) = getF v 0 1 ∧
        t.get (Reg.EVM_CTRL_THR_EN n.val) = getF v 1 1 ∧ (getF v 1 1 = 0 → t.get (Reg.EVM_THR_RATE_RATE n.val) = 256) ∧
        t.answer = [0] ∧ s.sameRegs t [Reg.EVM_CTRL n.val, Reg.EVM_THR_RATE n.val] ∧ s.sameBytes t) ∧
    (∀ (src : Requester) (a : BitVec 40) (v : Word) (e : Ecc) (r : Nat), s.reaches src a.toNat = some r →
      RegMap.rowOf r = none → s.completes (.registerWrite ⟨src, e⟩ a v) fun t => t.regs = s.regs ∧ t.mem = s.mem ∧
        t.events = s.events) ∧
    (∀ (tile : Fin 1152) (p : Pip) (u : State) (e : Ecc), s.takeCtrl tile.val 6 = some (p, u) → s.shut tile.val = true →
      s.completes (.regWriteRequest tile e) fun t => t.mesh.ctrl = u.mesh.ctrl.push tile.val
        (regResponse tile.val (reqFrom p) (reqTag p) 0 Status.fenced.code) ∧ s.sameRegs t [] ∧ s.sameBytes t) ∧
    (s.running = true → (∀ x ∈ stagedSort s.staging.writes, s.modeReason (s.withStaged (stagedSort s.staging.writes))
      (stagedSort s.staging.writes) x.index x.sub x.item x.value = 0) → s.completes .commitStaged fun t =>
        t.staging.accepted = s.staging.accepted ++ [(s.effectiveStep, stagedSort s.staging.writes)] ∧ t.staging.writes = [] ∧
        t.obj 0x2402 4 = s.effectiveStep ∧ t.obj 0x2402 2 = 0 ∧ s.sameRegs t [] ∧ s.sameBytes t) ∧
    (s.completes .discardStaged fun t => t.staging.writes = [] ∧ t.staging.accepted = s.staging.accepted ∧
      t.obj 0x2402 2 = 0 ∧ s.sameRegs t [] ∧ s.sameBytes t) ∧
    (s.unsaved ≠ [] → s.completes (.flashParamSave true) fun t => t.unsaved = [] ∧ s.sameRegs t [] ∧
      t.rdLe (recordBase ((s.recordNewest.map (1 - ·)).getD 0)) 4 = 0x4D524150) ∧
    (∀ slot : Fin 8, 2 ≤ s.slotRole slot.val → s.completes (.storeParameters slot 0x65766173#32 true) fun t =>
      t.answer = [0, 0] ∧ t.unsaved = []) ∧
    (∀ slot : Fin 8, 2 ≤ s.slotRole slot.val → s.completes (.restoreDefaults slot 0x64616F6C#32) fun t =>
      t.answer = [0, 0] ∧ t.unsaved = [] ∧ t.restoreDue = true)

/-- The commands of supplies, clocks and temperature (R628 to R640): a clock and the split of the halves are taken, a half
relocks, a rail's voltage is measured, confirmed or given up, a raw PMBus transaction is queued and ends, a lost power-good
trips the device, a rail falls, the governor and its correction take their samples, and the temperature is sampled and
throttles. -/
def Obligations.PowerCommandsComplete : Prop :=
  ∀ s : State,
    (∀ (h : Half) (mhz : Fin 1024) (direct : Bool), s.clockReason h.ctorIdx mhz.val = 0 →
      s.completes (.coreClockWrite h mhz direct) fun t =>
        t.get (if h = .west then Reg.PWR_CLK_W_MHZ else Reg.PWR_CLK_E_MHZ) = mhz.val ∧ s.sameBytes t) ∧
    (∀ (split direct : Bool), s.halfReason split = 0 → s.completes (.halfClockRequest split direct) fun t =>
      t.get Reg.PWR_HALF_CTRL_SPLIT = (if split then 1 else 0) ∧ s.sameBytes t ∧
        (s.power.split = split → s.sameRegs t [Reg.PWR_HALF_CTRL])) ∧
    (∀ (h : Half) (c : HalfChange), s.power.half = some c → c.stage = 2 → h.ctorIdx ∈ c.locks →
      (c.locks.filter (· != h.ctorIdx)).isEmpty = false → s.completes (.pllRelockDone h) fun t =>
        t.power.half = some { c with locks := c.locks.filter (· != h.ctorIdx) } ∧
        (if h = .west then t.power.west = c.west else t.power.east = c.east) ∧ s.sameRegs t [] ∧ s.sameBytes t) ∧
    (∀ (r : Fin 7) (mv : Fin 65536) (f : Bool), s.rampOf r.val = none → s.completes (.railVoutPoll r mv f) fun t =>
      t.get (Reg.PWR_RAIL_MEAS_MV r.val) = mv.val ∧ s.sameRegs t [Reg.PWR_RAIL_MEAS r.val] ∧ s.sameBytes t) ∧
    (∀ (r : Fin 7) (mv : Fin 65536) (x : Ramp) (w : Nat), s.rampOf r.val = some x → x.written = some w →
      s.flag (Reg.PWR_RAIL_STAT_PG r.val) = true → mv.val ≤ x.target + 15 → x.target ≤ mv.val + 15 →
      s.now ≤ w + 200 * s.get (Reg.PWR_RAIL_TMO_US r.val) → s.power.half = none →
      s.completes (.railVoutPoll r mv false) fun t => t.get (Reg.PWR_RAIL_MEAS_MV r.val) = mv.val ∧
        t.get (Reg.PWR_RAIL_STAT_BUSY r.val) = 0 ∧ t.rampOf r.val = none ∧ s.sameBytes t) ∧
    (∀ (r : Fin 7) (x : Ramp), s.rampOf r.val = some x → s.completes (.railConfirmTimeout r) fun t =>
      t.get (Reg.PWR_RAIL_STAT_FAULT r.val) = 1 ∧ s.sameBytes t) ∧
    (∀ v : Word, v.getLsbD 30 = false → s.completes (.pmbRawTransaction v) fun t => t.get Reg.PWR_PMB_RESULT_VALID = 0 ∧
      ⟨4, getF v 0 3, getF v 8 8, s.get Reg.PWR_PMB_DATA_DATA, false, 0⟩ ∈ t.power.pmb ∧
      s.sameRegs t [Reg.PWR_PMB_RESULT] ∧ s.sameBytes t) ∧
    (∀ (q : PmbRequest) rest (d : Fin 65536), s.power.pmb = q :: rest → q.place = 4 → q.write = false →
      s.completes (.pmbTransactionDone true d) fun t => t.power.pmb = rest ∧ t.get Reg.PWR_PMB_DATA_DATA = d.val ∧
        t.get Reg.PWR_PMB_RESULT_STATUS = 0 ∧ t.get Reg.PWR_PMB_RESULT_VALID = 1 ∧
        s.sameRegs t [Reg.PWR_PMB_DATA, Reg.PWR_PMB_RESULT] ∧ s.sameBytes t) ∧
    (∀ r : Fin 7, r.val ∈ s.keptRails → r.val ∉ s.power.off → s.completes (.railPgLoss r) fun t => t.start.trip = true ∧
      t.get Reg.PWR_TRIP_REC_CAUSE = 2 ∧ t.get Reg.PWR_TRIP_REC_RAIL = r.val) ∧
    (∀ (r : Fin 7) (q : Nat) (l : List Nat), s.power.off = r.val :: q :: l → s.completes (.railPowerGoodFall r) fun t =>
      t.get (Reg.PWR_RAIL_STAT_PG r.val) = 0 ∧ t.power.off = q :: l ∧
        t.power.enabled = s.power.enabled.filter (· != q) ∧
        s.sameRegs t [Reg.PWR_RAIL_STAT r.val, Reg.TB_COUNT_LO, Reg.TB_COUNT_HI] ∧ s.sameBytes t) ∧
    (∀ p w : Fin 65536, s.completes (.governorInterval p w) fun t =>
      t.power.loads = ((p.val + s.power.bias).toNat :: s.power.loads).take 100 ∧ t.power.ticks = s.power.ticks + 1 ∧
      t.power.withheld = s.power.withheld + w.val ∧ s.sameBytes t) ∧
    (∀ reads : List (Fin 65536 × Fin 65536), s.completes (.governorCorrection reads) fun t => s.sameBytes t ∧
      ∀ (i : Nat) x, i < 7 → reads[i]? = some x → t.get (Reg.PWR_RAIL_MEAS_MV i) = x.1.val ∧
        t.get (Reg.PWR_RAIL_MEAS_A i) = x.2.val) ∧
    (∀ w e : Fin 65536, sext 16 w.val < 1150 → sext 16 e.val < 1150 → s.completes (.thermalSample w e) fun t =>
      t.get Reg.PWR_TEMP_W = w.val ∧ t.get Reg.PWR_TEMP_E = e.val ∧ s.sameRegs t [Reg.PWR_TEMP_W.addr] ∧ s.sameBytes t) ∧
    (∀ w e : Fin 65536, 1150 ≤ sext 16 w.val ∨ 1150 ≤ sext 16 e.val → s.power.goal = none →
      s.completes (.thermalSample w e) fun t => t.start.trip = true ∧ t.get Reg.PWR_TRIP_REC_CAUSE = 1) ∧
    (1050 < s.junction .west → s.completes (.throttleStep .west) fun t => t.power.kWest = min 12 (s.power.kWest + 1) ∧
      t.power.kEast = s.power.kEast ∧ s.sameBytes t) ∧
    (s.junction .east < 1000 → 0 < s.power.kEast → s.completes (.throttleStep .east) fun t =>
      t.power.kEast = s.power.kEast - 1 ∧ t.power.kWest = s.power.kWest ∧ s.sameBytes t)

/-- The commands of the queue units (R361 to R372). OPEN_RX and RESET_RX step the epoch and empty the ring, the clear of the
fill map opens the queue, CLOSE and OPEN_TX set the mode, ACK_EPOCH takes the pending epoch with its credits, a send with
credit leaves the unit and spends one, a credit return adds credits and a revoke of a newer epoch makes the endpoint stale, a
pop frees visible slots, a message is written to its slot, in order or ahead of the tail, or is discarded and counted, due credits go back, and a gap scan flags a queue whose tail has not moved. -/
def Obligations.QueueCommandsComplete : Prop :=
  ∀ (s : State) (u : Fin 1153) (i : Fin 1024),
    (s.guardOwns u.val i.val = false → s.qMode u.val i.val = 0 → (s.qRing u.val i.val).isSome = true →
      s.completes (.openRx u i) fun t => t.qMode u.val i.val = 1 ∧ t.qEpoch u.val i.val = (s.qEpoch u.val i.val + 1) % 256 ∧
        t.qAvail u.val i.val = 0 ∧ (u.val, i.val) ∈ t.clearing ∧ t.get (qr u.val (Reg.Q_CMD_RESULT_STATUS u.val)) = 0 ∧
        s.sameBytes t) ∧
    (s.qMode u.val i.val = 1 → (u.val, i.val) ∈ s.clearing → s.completes (.fillMapCleared u i) fun t =>
      t.qget u.val i.val 120 1 = 1 ∧ (u.val, i.val) ∉ t.clearing ∧ t.qMode u.val i.val = 1) ∧
    (s.guardOwns u.val i.val = false → s.qMode u.val i.val = 1 → s.completes (.resetRx u i) fun t =>
      t.qMode u.val i.val = 1 ∧ t.qEpoch u.val i.val = (s.qEpoch u.val i.val + 1) % 256 ∧ t.qAvail u.val i.val = 0 ∧
        (u.val, i.val) ∈ t.clearing ∧ t.get (qr u.val (Reg.Q_CMD_RESULT_STATUS u.val)) = 0 ∧ s.sameBytes t) ∧
    (s.guardOwns u.val i.val = false → s.qMode u.val i.val = 1 → s.completes (.closeQueue u i) fun t =>
      t.qMode u.val i.val = 0 ∧ t.qEpoch u.val i.val = (s.qEpoch u.val i.val + 1) % 256 ∧ (u.val, i.val) ∉ t.clearing ∧
        t.get (qr u.val (Reg.Q_CMD_RESULT_STATUS u.val)) = 0 ∧ s.sameBytes t) ∧
    (s.guardOwns u.val i.val = false → s.qMode u.val i.val = 2 → s.completes (.closeQueue u i) fun t =>
      t.qMode u.val i.val = 0 ∧ t.get (qr u.val (Reg.Q_CMD_RESULT_STATUS u.val)) = 0 ∧
        s.sameRegs t [(qf u.val i.val 0 2).addr, (qr u.val (Reg.Q_CMD_RESULT_STATUS u.val)).addr] ∧
        s.sameBytes t) ∧
    (s.guardOwns u.val i.val = false → s.qMode u.val i.val = 0 →
      (∀ j, j < 1024 → ¬(s.qMode u.val j = 2 ∧ s.qget u.val j 32 20 = s.qget u.val i.val 32 20)) →
      s.completes (.openTx u i) fun t => t.qMode u.val i.val = 2 ∧ t.qget u.val i.val 64 12 = 0 ∧
        t.qget u.val i.val 76 12 = 0 ∧ t.qget u.val i.val 96 2 = 0 ∧
        t.get (qr u.val (Reg.Q_CMD_RESULT_STATUS u.val)) = 0 ∧ s.sameBytes t) ∧
    (s.guardOwns u.val i.val = false → s.qMode u.val i.val = 2 → s.qget u.val i.val 96 1 = 1 →
      s.completes (.ackEpoch u i) fun t => t.qEpoch u.val i.val = s.qget u.val i.val 88 8 ∧
        t.qget u.val i.val 64 12 = s.qget u.val i.val 98 12 ∧ t.qget u.val i.val 96 1 = 0 ∧ t.qget u.val i.val 97 1 = 1 ∧
        t.get (qr u.val (Reg.Q_CMD_RESULT_STATUS u.val)) = 0 ∧ s.sameBytes t) ∧
    (s.guardOwns u.val i.val = false → s.qMode u.val i.val = 2 → s.bridged u.val i.val = none →
      u.val ≠ 1152 ∨ s.qget u.val i.val 52 1 ≠ 1 → s.qget u.val i.val 52 1 = 1 ∨ (s.qTile u.val (s.qget u.val i.val 42 10)).isSome = true →
      s.qget u.val i.val 96 1 = 0 → s.qget u.val i.val 97 1 = 1 → 0 < s.qget u.val i.val 64 12 →
      (s.mesh.msgs.at u.val).length < 16 → s.completes (.queueSend u i) fun t =>
        (t.mesh.msgs.at u.val).length = (s.mesh.msgs.at u.val).length + 1 ∧
        t.qget u.val i.val 64 12 = s.qget u.val i.val 64 12 - 1 ∧
        t.qget u.val i.val 76 12 = (s.qget u.val i.val 76 12 + 1) % 4096 ∧
        t.get (qr u.val (Reg.Q_SEND_RESULT_STATUS u.val)) = 0 ∧ s.sameBytes t) ∧
    (∀ p s₁ j, s.takeCtrl u.val 0x03 = some (p, s₁) → s₁.endpointOf u.val (p.b 0 16) (p.b 16 16) = some j →
      s₁.qget u.val j 97 1 = 1 → s₁.qget u.val j 96 1 = 0 → p.b 32 8 = s₁.qEpoch u.val j →
      s.completes (.creditReturnReceive u) fun t =>
        t.qget u.val j 64 12 = min 2048 (s.qget u.val j 64 12 + p.b 40 16) ∧
        s.sameRegs t [(qf u.val j 64 12).addr] ∧ s.sameBytes t) ∧
    (∀ p s₁ j, s.takeCtrl u.val 0x04 = some (p, s₁) → s₁.endpointOf u.val (p.b 0 16) (p.b 16 16) = some j →
      s₁.qget u.val j 97 1 = 1 → s₁.qget u.val j 96 1 = 0 → newer (p.b 32 8) (s₁.qEpoch u.val j) = true →
      s.completes (.creditRevokeReceive u) fun t => t.qget u.val j 64 12 = 0 ∧ t.qget u.val j 96 1 = 1 ∧
        t.qget u.val j 88 8 = p.b 32 8 ∧ t.qget u.val j 98 12 = 0 ∧ s.sameBytes t) ∧
    (∀ n : Fin 4096, s.qMode u.val i.val = 1 → s.qget u.val i.val 120 1 = 1 → 1 ≤ n.val → n.val ≤ s.qAvail u.val i.val →
      s.guardOwns u.val i.val = false → s.completes (.queuePop u i n) fun t =>
        t.qAvail u.val i.val = s.qAvail u.val i.val - n.val ∧ t.qHead u.val i.val = (s.qHead u.val i.val + n.val) % 4096 ∧
        t.qFreed u.val i.val = (s.qFreed u.val i.val + n.val) % 4096 ∧
        t.get (qr u.val (Reg.Q_POP_RESULT_STATUS u.val)) = 0 ∧ s.sameBytes t) ∧
    ((u.val, i.val) ∈ s.creditDue → s.completes (.creditReturnSend u i) fun t => t.qFreed u.val i.val = 0 ∧
      (u.val, i.val) ∉ t.creditDue ∧ s.sameBytes t) ∧
    (s.get (qr u.val (Reg.Q_CTRL_GAP_SCAN u.val)) ≠ 0 → s.qMode u.val i.val = 1 → s.qget u.val i.val 120 1 = 1 →
      s.qget u.val i.val 123 1 = 1 → s.qget u.val i.val 121 1 = 0 →
      s.oooSeen.at (1024 * u.val + i.val) = (s.qHead u.val i.val + s.qAvail u.val i.val) % 4096 + 1 →
      s.completes (.gapScan u) fun t => t.qget u.val i.val 121 1 = 1 ∧ s.sameBytes t) ∧
    (s.guardOwns u.val i.val = false → s.qMode u.val i.val = 2 → s.bridged u.val i.val = none → u.val = 1152 →
      s.qget u.val i.val 52 1 = 1 → s.qget u.val i.val 96 1 = 0 → s.qget u.val i.val 97 1 = 1 →
      0 < s.qget u.val i.val 64 12 → (s.mesh.msgs.at u.val).length < 16 → s.completes (.queueSend u i) fun t =>
        (t.mesh.msgIn.at u.val).length = (s.mesh.msgIn.at u.val).length + 1 ∧
        t.qget u.val i.val 64 12 = s.qget u.val i.val 64 12 - 1 ∧
        t.qget u.val i.val 76 12 = (s.qget u.val i.val 76 12 + 1) % 4096 ∧
        t.get (qr u.val (Reg.Q_SEND_RESULT_STATUS u.val)) = 0 ∧ s.sameBytes t) ∧
    (∀ p rest ring, s.mesh.msgIn.at u.val = p :: rest → msgQueue p = i.val →
      (u.val = 1152 → 576 ≤ i.val ∨ (s.start.stage ≠ 4 ∧ s.start.stage ≠ 5)) →
      s.get (qr u.val (Reg.Q_CTRL_EN u.val)) = 1 → s.qMode u.val i.val = 1 → s.qRing u.val i.val = some ring →
      msgEpoch p = s.qEpoch u.val i.val → s.fromPeer u.val i.val p = true → s.qAvail u.val i.val < s.qSlots u.val i.val →
      p.seq = (s.qHead u.val i.val + s.qAvail u.val i.val) % 4096 → s.fillBit ring (s.qSlots u.val i.val) p.seq = false →
      s.qAvail u.val i.val + 1 = s.qSlots u.val i.val ∨ s.fillBit ring (s.qSlots u.val i.val) (p.seq + 1) = false →
      s.completes (.messageReceive u none) fun t => t.mesh.msgIn.at u.val = rest ∧
        t.rdLe (slotAddr ring (s.qSlots u.val i.val) p.seq) 16 = msgBody p ∧
        t.qAvail u.val i.val = s.qAvail u.val i.val + 1 ∧
        s.sameBytesBut t (slotAddr ring (s.qSlots u.val i.val) p.seq) 16) ∧
    (∀ p rest ring, s.mesh.msgIn.at u.val = p :: rest → msgQueue p = i.val →
      (u.val = 1152 → 576 ≤ i.val ∨ (s.start.stage ≠ 4 ∧ s.start.stage ≠ 5)) →
      s.get (qr u.val (Reg.Q_CTRL_EN u.val)) = 1 → s.qMode u.val i.val = 1 → s.qRing u.val i.val = some ring →
      msgEpoch p = s.qEpoch u.val i.val → s.fromPeer u.val i.val p = true →
      0 < (p.seq + 8192 - s.qHead u.val i.val - s.qAvail u.val i.val) % 4096 →
      (p.seq + 8192 - s.qHead u.val i.val - s.qAvail u.val i.val) % 4096 + s.qAvail u.val i.val < s.qSlots u.val i.val →
      s.fillBit ring (s.qSlots u.val i.val) p.seq = false →
      s.completes (.messageReceive u none) fun t => t.mesh.msgIn.at u.val = rest ∧
        t.rdLe (slotAddr ring (s.qSlots u.val i.val) p.seq) 16 = msgBody p ∧
        t.fillBit ring (s.qSlots u.val i.val) p.seq = true ∧ t.qget u.val i.val 123 1 = 1 ∧
        t.qAvail u.val i.val = s.qAvail u.val i.val) ∧
    (∀ p rest, s.mesh.msgIn.at u.val = p :: rest → msgQueue p = i.val →
      s.get (qr u.val (Reg.Q_CTRL_EN u.val)) = 0 ∨ s.qMode u.val i.val ≠ 1 ∨ s.qRing u.val i.val = none →
      s.completes (.messageReceive u none) fun t => t.mesh.msgIn.at u.val = rest ∧
        t.get (qr u.val (Reg.Q_DROP_CLOSED_COUNT u.val)) = satInc (qr u.val (Reg.Q_DROP_CLOSED_COUNT u.val)).len
          (s.get (qr u.val (Reg.Q_DROP_CLOSED_COUNT u.val))) 1 ∧ s.sameBytes t) ∧
    (∀ p rest ring, s.mesh.msgIn.at u.val = p :: rest → msgQueue p = i.val → s.get (qr u.val (Reg.Q_CTRL_EN u.val)) = 1 →
      s.qMode u.val i.val = 1 → s.qRing u.val i.val = some ring → msgEpoch p ≠ s.qEpoch u.val i.val →
      s.completes (.messageReceive u none) fun t => t.mesh.msgIn.at u.val = rest ∧ t.qget u.val i.val 122 1 = 1 ∧
        t.get (qr u.val (Reg.Q_DROP_STALE_COUNT u.val)) = satInc (qr u.val (Reg.Q_DROP_STALE_COUNT u.val)).len
          (s.get (qr u.val (Reg.Q_DROP_STALE_COUNT u.val))) 1 ∧ s.sameBytes t)

/-- The commands of a remap (R702, R703, R707): a start by firmware fences the tile and arms the restore of its newest slice
into a spare, a tile retired while an image switch runs waits, the restore's end waits for the switch, and the switch of a
tile whose changes are made is done. -/
def Obligations.RemapCommandsComplete : Prop :=
  ∀ s : State,
    (∀ (l : Fin 1024) (t sp x stamp : Nat), s.fault.remap = none → s.mgrLtt l.val = some t → s.switching = false →
      ((s.put Reg.FLT_REMAP_CTRL_LTILE l.val).fence t 1).spareFor t = some sp →
      ((s.put Reg.FLT_REMAP_CTRL_LTILE l.val).fence t 1).sliceFor l.val = some (x, stamp) →
      s.completes (.remapStart (some l)) fun u => u.fault.remap.map (·.spare) = some sp ∧
        u.get Reg.FLT_REMAP_STAT_PHASE = 4 ∧ u.get Reg.FLT_REMAP_STAT_LTILE = l.val ∧ u.get Reg.FLT_STATUS_REMAP = 1 ∧
        s.sameBytes u) ∧
    (∀ (t b k : Nat) r, s.fault.remap = none → s.fault.waiting = (t, b, k, false) :: r → s.switching = false → s.isLogical t = true →
      s.standby ≠ 2 → s.completes (.remapStart none) fun u => u.fault.waiting = r ∧ s.sameBytes u) ∧
    (∀ m : Remap, s.fault.remap = some m → m.phase = 4 → s.fault.retired.contains m.spare = false →
      s.completes .remapRestoreDone fun t => t.fault.remap = some { m with phase := 5 } ∧
        t.get Reg.FLT_REMAP_STAT_PHASE = 5) ∧
    (∀ (m : Remap) (u : State), s.fault.remap = some m → m.phase = 5 → s.phase ≠ 3 →
      s.fault.retired.contains m.spare = false → s.switchOver m = some u → u.phase ≠ 2 ∨ u.clock.policy = 2 →
      s.completes .remapSwitch fun t => t.get Reg.FLT_REMAP_STAT_PHASE = 8 ∧
        t.fault.remap = some { m with phase := 8, missed := u.stepNum - m.fail } ∧ u.sameBytes t)

/-- The commands of the security block (R411 to R416, R535 to R551): a tamper input starts a wipe whose end erases the
sealed copies, a sealed copy is written, a challenge is drawn, a right response starts a session and any other starts none, a
session and a lock end, and the audit log takes an entry and is exported. -/
def Obligations.SecurityCommandsComplete : Prop :=
  ∀ s : State,
    (∀ i : Fin 2, s.securityOn = true → s.completes (.tamperAssert i) fun t => i.val ∈ t.sec.tamper ∧ t.sec.mark = true ∧
      t.sec.keys = [] ∧ t.sec.challenges = [] ∧ t.sec.exports = [] ∧ t.sec.appended = 0 ∧ t.fault.retired = []) ∧
    (s.wiping = true → s.completes .huskWipeDone fun t => t.sec.mark = false ∧ t.sec.sealed = [] ∧ t.sec.tamper = [] ∧
      t.wiping = false) ∧
    (s.wiping = false → s.completes .sealRequest fun t => t.get Reg.SEC_HUSK_STAT_SEAL_PEND = 0 ∧
      t.sec.sealedAt = s.now + 1 ∧ t.sec.sealed.tail = s.sec.sealed.take 1 ∧
      s.sameRegs t [Reg.SEC_HUSK_STAT] ∧ s.sameBytes t) ∧
    (s.wiping = false → s.get Reg.SEC_HUSK_STAT_SEAL_PEND = 1 → s.sec.sealedAt = 0 → s.completes .sealGapExpire fun t =>
      t.get Reg.SEC_HUSK_STAT_SEAL_PEND = 0 ∧ t.sec.sealedAt = s.now + 1 ∧ s.sameBytes t) ∧
    (∀ (slot : Fin 8) (role : Fin 4), role.val ≠ 0 → s.wiping = false → s.completes (.loginChallenge slot role) fun t =>
      t.get Reg.SEC_LOGIN_STAT_STATUS = 0 ∧ t.get Reg.SEC_LOGIN_STAT_VALID = 1 ∧
      t.get64 Reg.SEC_LOGIN_CHAL_LO = (Config.random s.freeCount).toNat ∧
      (t.sec.challenges.find? fun x => x.1 = slot.val).map (·.2.1) = some role.val ∧ s.sameBytes t) ∧
    (∀ (slot : Fin 8) (role : Fin 4) (x : Nat × Nat × List Byte × Nat) (key : List Byte), role.val ≠ 0 → s.wiping = false →
      s.get (Reg.SEC_LOCK_LOCKED (role.val - 1)) = 0 →
      (s.sec.challenges.find? fun y => y.1 = slot.val && y.2.1 = role.val) = some x → s.now ≤ x.2.2.2 + 12000000000 →
      s.roleKey role.val = some key →
      s.completes (.loginVerify slot role) fun t => t.get Reg.SEC_LOGIN_STAT_VALID = 1 ∧
        (t.sec.challenges.find? fun y => y.1 = slot.val) = none ∧
        (takeHash (Config.hmac key (x.2.2.1 ++ s.serial ++ [BitVec.ofNat 8 slot.val, BitVec.ofNat 8 role.val])) 10 =
          s.regBytes Reg.SEC_LOGIN_RESP0 10 → t.get (Reg.SEC_SESS_ROLE slot.val) = role.val ∧
          t.get (Reg.SEC_SESS_VALID slot.val) = 1 ∧ t.get (Reg.SEC_LOCK_FAILS (role.val - 1)) = 0 ∧
          t.get Reg.SEC_LOGIN_STAT_STATUS = 0) ∧
        (takeHash (Config.hmac key (x.2.2.1 ++ s.serial ++ [BitVec.ofNat 8 slot.val, BitVec.ofNat 8 role.val])) 10 ≠
          s.regBytes Reg.SEC_LOGIN_RESP0 10 →
          (t.get (Reg.SEC_SESS_VALID slot.val) = 1 → t.reg (Reg.SEC_SESS slot.val) = s.reg (Reg.SEC_SESS slot.val)) ∧
          t.get Reg.SEC_LOGIN_STAT_STATUS = Status.refused.code)) ∧
    (∀ slot : Fin 9, (s.sec.challenges.any fun y => y.1 = slot.val) = true → s.completes (.challengeExpire slot) fun t =>
      (t.sec.challenges.find? fun y => y.1 = slot.val) = none ∧ s.sameRegs t [Reg.TB_COUNT_LO, Reg.TB_COUNT_HI] ∧
      s.sameBytes t) ∧
    (∀ slot : Fin 8, s.get (Reg.SEC_SESS_VALID slot.val) = 1 → s.completes (.logout slot) fun t =>
      t.reg (Reg.SEC_SESS slot.val) = 0 ∧ t.get Reg.SEC_LOGIN_STAT_STATUS = 0 ∧ t.get Reg.SEC_LOGIN_STAT_VALID = 1) ∧
    (∀ slot : Fin 8, s.get (Reg.SEC_SESS_VALID slot.val) = 1 → s.sec.heard.at slot.val ≠ 0 →
      s.completes (.sessionIdleTimeout slot) fun t => t.reg (Reg.SEC_SESS slot.val) = 0) ∧
    (∀ role : Fin 4, role.val ≠ 0 → (s.sec.locks.any fun x => x.1 = role.val) = true →
      s.completes (.lockoutExpire role) fun t => t.get (Reg.SEC_LOCK_LOCKED (role.val - 1)) = 0 ∧
        t.get (Reg.SEC_LOCK_REMAIN (role.val - 1)) = 0 ∧ (t.sec.locks.find? fun x => x.1 = role.val) = none ∧
        s.sameBytes t) ∧
    (∀ v : Word, s.wiping = false → s.completes (.auditAppend v) fun t => t.sec.appended = s.sec.appended + 1 ∧
      t.get Reg.SEC_AUDIT_STAT_HELD = min 4096 (s.get Reg.SEC_AUDIT_STAT_HELD + 1) ∧
      t.get Reg.SEC_HUSK_STAT_SEAL_PEND = 1 ∧ s.sameBytesBut t (auditAt s.sec.appended) 32) ∧
    (∀ (slot : Fin 8) (len : Nat) (e : Export), 2 ≤ s.slotRole slot.val →
      (s.sec.exports.find? fun x => x.slot = slot.val) = some e →
      s.sec.appended - s.get Reg.SEC_AUDIT_STAT_HELD ≤ e.first →
      s.completes (.auditExportRead slot len) fun t => t.answer.take 2 = [0, 0] ∧
        t.answer.length = 2 + min len (48 + 32 * e.count - e.pos) ∧ s.sameRegs t [] ∧ s.sameBytes t)

/-- The commands of the Sensor Event Link (R459 to R463, R474, R636): an expected frame is taken and acknowledged, an ACK
retires what it covers, a NAK for a busy peer waits and any other sends again, the timers send again, trained sets walk a port
from ALIGN to TRAIN and from TRAIN to ACTIVE, failed attempts and retraining return it to ALIGN or to DOWN, and frames of the
device join the sender. -/
def Obligations.SensorLinkCommandsComplete : Prop :=
  ∀ (s : State) (k : Fin 16),
    (∀ (type subch : Fin 16) (seq : Fin 256) (sat : Bool) (fage : Fin 16777216) (words : List Word) (room : Fin 65),
      s.selState k.val = 3 → s.flag Reg.DBG_INJ_STAT_ARMED = false → s.hub.selHeld = [] →
      seq.val = s.get (Reg.SEN_SEL_STATUS_RXSEQ k.val) → words.length ≤ room.val →
      s.completes (.selFrameReceive k true type subch seq sat fage words room) fun t =>
        t.get (Reg.SEN_SEL_STATUS_RXSEQ k.val) = (seq.val + 1) % 256 ∧
        t.get (Reg.SEN_SEL_FRAMES_COUNT k.val) =
          satInc (Reg.SEN_SEL_FRAMES_COUNT k.val).len (s.get (Reg.SEN_SEL_FRAMES_COUNT k.val)) 1) ∧
    (∀ (seq inv : Fin 256) i, s.selState k.val = 3 → seq.val + inv.val = 255 →
      (s.selPort k.val).out.findIdx? (fun f => f.1 = seq.val) = some i → i < 8 → s.completes (.selAckReceive k seq inv) fun t =>
        (t.selPort k.val).out = (s.selPort k.val).out.drop (i + 1) ∧
        s.sameRegs t [Reg.SEN_SEL_CMD_CTRL k.val, Reg.SEN_SEL_STATUS k.val] ∧ s.sameBytes t) ∧
    (∀ seq inv : Fin 256, s.selState k.val = 3 → seq.val + inv.val = 255 → s.completes (.selNakReceive k seq inv 2) fun t =>
      (t.selPort k.val).busy = some seq.val ∧ s.sameRegs t [] ∧ s.sameBytes t) ∧
    (∀ seq inv reason : Fin 256, s.selState k.val = 3 → seq.val + inv.val = 255 → reason.val = 1 ∨ reason.val = 3 →
      selFrom (s.selPort k.val) seq.val ≠ [] → (s.selPort k.val).tries < 16 → s.completes (.selNakReceive k seq inv reason) fun t =>
        (t.selPort k.val).tries = (s.selPort k.val).tries + 1 ∧ (t.selPort k.val).busy = none ∧
        s.sameRegs t [Reg.SEN_SEL_RETX k.val] ∧ s.sameBytes t) ∧
    (∀ seq, (s.selPort k.val).busy = some seq → selFrom (s.selPort k.val) seq ≠ [] → s.completes (.selBusyWaitExpire k) fun t =>
      (t.selPort k.val).busy = none ∧ t.get (Reg.SEN_SEL_RETX_COUNT k.val) = satInc (Reg.SEN_SEL_RETX_COUNT k.val).len
        (s.get (Reg.SEN_SEL_RETX_COUNT k.val)) (selFrom (s.selPort k.val) seq).length ∧ s.sameBytes t) ∧
    (s.selState k.val = 3 → (s.selPort k.val).out ≠ [] → (s.selPort k.val).tries < 16 → s.completes (.selAckTimeout k) fun t =>
      (t.selPort k.val).tries = (s.selPort k.val).tries + 1 ∧ s.sameRegs t [Reg.SEN_SEL_RETX k.val] ∧ s.sameBytes t) ∧
    (s.selState k.val = 1 → (s.selPort k.val).idles = 7 → s.completes (.selIdleSetReceive k true) fun t =>
      t.selState k.val = 2 ∧ s.sameRegs t [Reg.SEN_SEL_STATUS k.val] ∧ s.sameBytes t) ∧
    (∀ (a b c d e : Fin 256) sent, s.selState k.val = 2 → 128 ≤ a.val →
      e.val = ((Nat.xor 1 a.val).xor b.val).xor (c.val.xor d.val) → 3 ≤ (s.selPort k.val).sets →
      3 ≤ (s.selPort k.val).acks → 16 ≤ sent → s.completes (.selTsReceive k [1, a, b, c, d, e] sent) fun t =>
        t.selState k.val = 3 ∧ s.sameRegs t [Reg.SEN_SEL_STATUS k.val, Reg.SEN_SEL_CMD_CTRL k.val] ∧ s.sameBytes t) ∧
    (s.selState k.val = 1 → (s.selPort k.val).fails < 7 → s.completes (.selAlignTimeout k) fun t => t.selState k.val = 1 ∧
      (t.selPort k.val).fails = (s.selPort k.val).fails + 1 ∧ s.sameBytes t) ∧
    (s.selState k.val = 2 → (s.selPort k.val).fails = 7 → s.completes (.selTrainTimeout k) fun t => t.selState k.val = 0 ∧
      t.get (Reg.SEN_SEL_STATUS_TRAIN_FAIL k.val) = 1 ∧ s.sameBytes t) ∧
    (s.selState k.val = 3 → s.completes (.selCommaLoss k) fun t => t.selState k.val = 1 ∧
      t.get (Reg.SEN_SEL_RETRAIN_COUNT k.val) = satInc (Reg.SEN_SEL_RETRAIN_COUNT k.val).len
        (s.get (Reg.SEN_SEL_RETRAIN_COUNT k.val)) 1 ∧ s.sameBytes t) ∧
    (s.selState k.val = 3 → s.completes (.codeGroupErrors k) fun t => t.selState k.val = 1 ∧
      t.get (Reg.SEN_SEL_RETRAIN_COUNT k.val) = satInc (Reg.SEN_SEL_RETRAIN_COUNT k.val).len
        (s.get (Reg.SEN_SEL_RETRAIN_COUNT k.val)) 1 ∧ s.sameBytes t) ∧
    (s.selState k.val = 0 ∨ s.selState k.val = 3 → s.completes (.selRetrain k) fun t => t.selState k.val = 1 ∧ s.sameBytes t) ∧
    (s.completes (.selEnable k) fun t => t.get (Reg.SEN_SEL_CTRL_EN k.val) = 1 ∧ t.get (Reg.SEN_SEL_STATUS_RXSEQ k.val) = 0 ∧
      t.selState k.val = 1 ∧ s.sameRegs t [Reg.SEN_SEL_CTRL k.val, Reg.SEN_SEL_STATUS k.val] ∧ s.sameBytes t) ∧
    (s.completes (.selSleepReq k) fun t => (t.selPort k.val).out = (s.selPort k.val).out ++ [((s.selPort k.val).next, 4, [])] ∧
      (t.selPort k.val).next = ((s.selPort k.val).next + 1) % 256 ∧ s.sameRegs t [] ∧ s.sameBytes t) ∧
    (s.flag (Reg.SEN_SEL_CTRL_WAKE_EN k.val) = true → s.selState k.val = 0 ∨ s.selState k.val = 5 →
      s.completes (.selWakeDetect k) fun t => t.wakes = s.wakes ++ [(3, k.val)] ∧ t.selState k.val = 1 ∧
        s.sameRegs t [Reg.SEN_SEL_STATUS k.val] ∧ s.sameBytes t) ∧
    (∀ n : Fin 16, s.completes (.selCmdSend k n) fun t => (t.selPort k.val).out = (s.selPort k.val).out ++
        [((s.selPort k.val).next, 3, (List.range (min 8 n.val)).map fun i => (s.reg (Reg.SEN_SEL_CMD0 k.val + 4 * i)).toNat)] ∧
      t.get (Reg.SEN_SEL_CMD_CTRL_DONE k.val) = 0 ∧ s.sameRegs t [Reg.SEN_SEL_CMD_CTRL k.val] ∧ s.sameBytes t)

/-- The commands of the step clock (R84 to R102): a start arms the first launch, a halt acts at once between a close and a
launch, in a switch too, and at the close otherwise, a launch opens delivery, a wave is counted, a forced close ends delivery, the watchdog
halts without closing, and the close of a step makes the next step current. The halt in a switch is the model's reading (log
entry 138). -/
def Obligations.StepClockCommandsComplete : Prop :=
  ∀ s : State,
    (s.inRun = true → s.joined = false → s.running = false → s.phase ≠ 5 → s.now + 1000 ≤ s.get64 Reg.STEP_FIRST_LO →
      s.reserveOk = true → s.get Reg.SEC_LC_STATE ≠ 0 → s.get Reg.SEC_LC_STATE ≠ 3 → s.completes (.stepRun none) fun t =>
        t.running = true ∧ t.phase = 1 ∧ t.get64 Reg.STEP_NEXT_LAUNCH_LO = s.get64 Reg.STEP_FIRST_LO ∧
        t.get64 Reg.STEP_SLIP_LO = 0 ∧ t.clock.ready = true ∧ t.clock.armed = s.get64 Reg.STEP_FIRST_LO) ∧
    (s.joined = false → s.running = true → s.phase = 1 ∨ s.phase = 4 → s.completes .stepHalt fun t => t.running = false ∧
      t.phase = 0 ∧ t.get64 Reg.STEP_SLIP_LO = 0 ∧ t.clock.ready = false ∧
      s.sameRegs t [Reg.STEP_CTRL, Reg.STEP_STATUS, Reg.STEP_SLIP_LO, Reg.STEP_SLIP_HI] ∧ s.sameBytes t) ∧
    (s.joined = false → s.running = true → s.phase ≠ 1 → s.phase ≠ 4 → s.phase ≠ 5 → s.completes .stepHalt fun t =>
      t.clock.halting = true ∧ s.sameRegs t [] ∧ s.sameBytes t) ∧
    (s.phase = 1 ∨ s.phase = 4 → s.clock.ready = true → s.completes .stepLaunch fun t => t.deliveryOpen = true ∧
      t.clock.ready = false ∧ t.clock.forced = false ∧ t.clock.waves = 0) ∧
    (s.phase = 2 → s.joined = false → s.completes .quiescenceWave fun t => t.clock.waves = (s.clock.waves + 1) % 256) ∧
    (s.phase = 2 → s.clock.policy = 0 → s.joined = false → s.completes .deadlineForcedClose fun t =>
      t.deliveryOpen = false ∧ t.clock.forced = true ∧ t.clock.stretch = 0) ∧
    (s.phase = 2 → s.clock.policy = 1 → s.joined = false → s.completes .stretchLimitClose fun t =>
      t.deliveryOpen = false ∧ t.clock.forced = true ∧ t.clock.stretch = s.get Reg.STEP_STRETCH_MAX_S) ∧
    (s.phase = 2 ∨ s.phase = 3 → s.clock.policy = 2 → s.flag Reg.STEP_CTRL_WD_EN = true →
      s.completes .freeRunWatchdogFire fun t => t.running = false ∧ t.phase = 7 ∧ t.get Reg.STEP_STATUS_WD_FIRED = 1 ∧
        t.clock.held = s.phase ∧ s.sameBytes t) ∧
    (s.phase = 3 → s.updatesDone = true → s.completes .stepClose fun t => t.stepNum = (s.launched + 1) % 2 ^ 64 ∧ t.once = []) ∧
    (s.joined = false → s.running = true → s.phase = 5 → s.completes .stepHalt fun t => t.running = false ∧ t.phase = 5 ∧
      t.clock.ready = false ∧ s.sameRegs t [Reg.STEP_CTRL, Reg.STEP_STATUS, Reg.STEP_SLIP_LO, Reg.STEP_SLIP_HI] ∧
      s.sameBytes t)

/-- The commands of the scheduled mesh and of its streams (R315 to R331, R339): a beat crosses its router where the slot's entry
routes it and the slot counter advances; CHECK runs and gives its result; SWAP exchanges the banks, or waits for the launch
while the clock runs; a failed link is down; a write-buffer beat reaches DRAM; the union bitmaps of a pod are read out; and a
fetched beat joins its descriptor's read buffer. -/
def Obligations.StreamCommandsComplete : Prop :=
  ∀ s : State,
    (∀ (r : Fin 1152) ecc, s.get Reg.STEP_STATUS_PHASE ≠ 0 → s.get Reg.STEP_STATUS_PHASE ≠ 7 → s.coreGated r.val = false →
      s.completes (.scmBeatRoute r ecc) fun t => t.streams.cycle.at r.val = s.streams.cycle.at r.val + 1 ∧
        t.get (Reg.SCM_POS_SLOT r.val) = (s.streams.cycle.at r.val + 1) % 1024) ∧
    (∀ (r : Fin 1152) (p : Fin 4) b o k, s.get Reg.STEP_STATUS_PHASE ≠ 0 → s.get Reg.STEP_STATUS_PHASE ≠ 7 →
      s.coreGated r.val = false →
      s.streams.links.at (4 * r.val + p.val) = [b] → b.tag ≤ s.streams.cycle.at r.val →
      (∀ q, q < 4 → q ≠ p.val → s.streams.links.at (4 * r.val + q) = []) → (∀ q, q < 4 → engineAt r.val q = none) →
      routeOf (s.slotEntry r.val (s.streams.cycle.at r.val % 1024)) 4 = 0 →
      routeOf (s.slotEntry r.val (s.streams.cycle.at r.val % 1024)) p.val = o + 1 → o < 4 → linkOut r.val o = some k →
      s.scmUp r.val o = true → isSeam r.val o = false ∨ s.split = false → s.flag (Reg.SCM_CTRL_EN r.val) = true → s.flag Reg.DBG_INJ_STAT_ARMED = false →
      s.completes (.scmBeatRoute r []) fun t => t.streams.links.at (4 * r.val + p.val) = [] ∧
        t.streams.links.at k = s.streams.links.at k ++
          [{ b with tag := s.streams.cycle.at r.val + if isSeam r.val o then 5 else 1 }] ∧ s.sameBytes t) ∧
    (s.flag Reg.SCM_LD_STAT_BUSY = false → s.completes .scmCheck fun t => t.get Reg.SCM_LD_STAT_BUSY = 1 ∧
      t.get Reg.SCM_LD_STAT_RESULT = 0 ∧ s.sameRegs t [Reg.SCM_LD_STAT] ∧ s.sameBytes t) ∧
    (s.flag Reg.SCM_LD_STAT_BUSY = true → s.completes .scmCheckDone fun t => t.get Reg.SCM_LD_STAT_BUSY = 0 ∧
      (s.checkFailure = none → s.get Reg.SCM_LD_STAT_RESULT ≠ 3 → t.get Reg.SCM_LD_STAT_RESULT = 1) ∧
      (∀ x n c, s.checkFailure = some (x, n, c) → t.get Reg.SCM_LD_STAT_RESULT = 2 ∧
        t.get Reg.SCM_LD_ERR_CODE = c % 2 ^ Reg.SCM_LD_ERR_CODE.len) ∧
      s.sameRegs t [Reg.SCM_LD_STAT, Reg.SCM_LD_ERR, Reg.FLT_LOG_LOST] ∧ s.sameBytes t) ∧
    (s.swapBarred = false → s.running = true → s.completes .scmSwap fun t => t.get Reg.SCM_LD_STAT_SWAP_PEND = 1 ∧
      s.sameRegs t [Reg.SCM_LD_STAT] ∧ t.streams.active = s.streams.active ∧ s.sameBytes t) ∧
    (s.swapBarred = false → s.running = false → s.completes .scmSwap fun t => t.get Reg.SCM_LD_STAT_SWAP_PEND = 0 ∧
      t.get Reg.SCM_LD_STAT_RESULT = 0 ∧
      t.streams.active = s.standbyEntries.foldl (fun (a : Nums) x => a.put (1024 * x.1 + x.2.1) x.2.2) [] ∧ s.sameBytes t) ∧
    (∀ (r : Fin 1152) (p : Fin 4), s.completes (.scmLinkFail r p) fun t => t.scmUp r.val p.val = false) ∧
    (∀ (q : Fin 16) d i b rest c, s.streams.wrBuf.at q.val = (d, i, b) :: rest → s.copyOf q.val d = some c → b.last = false →
      s.engineReach q.val (s.writeBase c + 64 * i) = true →
      s.completes (.writeDrainComplete q) fun t => t.streams.wrBuf.at q.val = rest ∧
        t.rdBytes (s.writeBase c + 64 * i) 64 = b.bytes ∧ s.sameBytesBut t (s.writeBase c + 64 * i) 64) ∧
    (∀ p : Fin 72, s.flag (Reg.SCM_PI_STATUS_UNION_BUSY p.val) = true → s.completes (.unionRunsReady p) fun t =>
      t.get (Reg.SCM_PI_STATUS_UNION_BUSY p.val) = 0) ∧
    (∀ (q : Fin 16) (d : Fin 64) a x c, s.dramAt a = some x → s.subRetired x.1 = false → s.poisoned a = false →
      s.copyOf q.val d.val = some c → (s.streams.rdBuf.at (64 * q.val + d.val)).length < s.cd q.val d.val 80 11 →
      s.get (Reg.STR_BUF_LEVEL_READ q.val) < 1024 → s.cdKind q.val d.val = 1 → c.taken < s.cdLen q.val d.val →
      a = s.cdAddr q.val d.val + c.taken → x.1 = q.val →
      s.completes (.dramFetchComplete q d a .clean .clean) fun t => t.streams.rdBuf.at (64 * q.val + d.val) =
          s.streams.rdBuf.at (64 * q.val + d.val) ++ [Beat.ofBytes (s.rdBytes (s.cdAddr q.val d.val + c.taken) 64)
            (c.taken = 0) (s.cdLen q.val d.val ≤ c.taken + 64) false] ∧ s.sameBytes t)

/-- The commands of a Tierlink port (R496 to R508): a deskew flit leads to TRAIN, a packet in order is taken, packets are
acknowledged, resent and let go by credit, a pip is sent, training advances or times out, a port retrains, is enabled, sleeps
and wakes, and its lanes lock. -/
def Obligations.TierlinkCommandsComplete : Prop :=
  ∀ (s : State) (n : Fin 8),
    (∀ f : List Byte, flitCrc f = flitLe f 30 2 → flitByte f 0 = 4 → s.tlkState n.val = 2 →
      s.completes (.tlkControlFlit n f) fun t => t.tlkState n.val = 3 ∧ s.sameBytes t) ∧
    (∀ (h : List Byte) (flits : List (List Byte)), s.tlkState n.val = 4 → s.get Reg.DBG_INJ_STAT_ARMED = 0 →
      (s.tlkPort n.val).heldBack = none → flitLe h 4 4 = packetCrc h flits → flitCrc h = flitLe h 30 2 →
      flitByte h 1 / 16 = flits.length → flitByte h 1 % 16 ≠ 1 → flitByte h 1 % 16 ≠ 2 →
      flitLe h 2 2 % 4096 = s.get ⟨Reg.TLK_SEQ n.val, 16, 12⟩ → s.completes (.tlkPacketReceive n h flits false) fun t =>
        t.tlkIn = s.tlkIn ++ [(n.val, flitByte h 1 % 16, flits)] ∧
        t.get ⟨Reg.TLK_SEQ n.val, 16, 12⟩ = (flitLe h 2 2 % 4096 + 1) % 4096 ∧ s.sameRegs t [Reg.TLK_SEQ n.val] ∧
        s.sameBytes t) ∧
    (∀ q : Fin 4096, (s.tlkPort n.val).waiting = [] → s.completes (.tlkAckReceive n q) fun t => s.sameRegs t [] ∧
      (t.tlkPort n.val).replay =
        ((s.tlkPort n.val).replay.filter fun p => !((q.val + 4096 - p.seq) % 4096 < 2048)) ∧ s.sameBytes t) ∧
    (∀ q : Fin 4096, (s.tlkPort n.val).waiting = [] → (s.tlkPort n.val).resends < 7 →
      ((s.tlkPort n.val).replay.filter fun p => !(((q.val + 4095) % 4096 + 4096 - p.seq) % 4096 < 2048)) ≠ [] →
      s.completes (.tlkNakReceive n q) fun t => s.sameBytes t ∧
        (t.tlkPort n.val).replay =
          ((s.tlkPort n.val).replay.filter fun p => !(((q.val + 4095) % 4096 + 4096 - p.seq) % 4096 < 2048)) ∧
        t.get (Reg.TLK_REPLAY_COUNT n.val) =
          satInc (Reg.TLK_REPLAY_COUNT n.val).len (s.get (Reg.TLK_REPLAY_COUNT n.val)) 1) ∧
    ((s.tlkPort n.val).replay ≠ [] → (s.tlkPort n.val).resends < 7 → s.completes (.tlkReplayTimeout n) fun t =>
      (t.tlkPort n.val).replay = (s.tlkPort n.val).replay ∧ (t.tlkPort n.val).resends = (s.tlkPort n.val).resends + 1 ∧
      t.get (Reg.TLK_REPLAY_COUNT n.val) =
        satInc (Reg.TLK_REPLAY_COUNT n.val).len (s.get (Reg.TLK_REPLAY_COUNT n.val)) 1 ∧ s.sameBytes t) ∧
    (∀ l : List (Fin 65536), (s.tlkPort n.val).waiting = [] → s.completes (.tlkCreditReceive n l) fun t =>
      (∀ (i : Nat) v, i < 5 → l[i]? = some v → (t.tlkPort n.val).freed.at (i + 1) = v.val) ∧ s.sameRegs t [] ∧ s.sameBytes t) ∧
    (∀ p r, s.mesh.tlkMsg.at n.val = [] → s.mesh.tlkTx.at n.val = p :: r → s.tlkReady n.val 1 1 = true →
      s.completes (.tlkTransmitPip n) fun t => t.mesh.tlkTx.at n.val = r ∧ s.sameBytes t ∧
        (t.tlkPort n.val).replay = (s.tlkPort n.val).replay ++ [⟨s.get ⟨Reg.TLK_SEQ n.val, 0, 12⟩, 1, [pipBytes p]⟩] ∧
        t.get ⟨Reg.TLK_SEQ n.val, 0, 12⟩ = (s.get ⟨Reg.TLK_SEQ n.val, 0, 12⟩ + 1) % 4096) ∧
    (∀ f : List Byte, s.tlkState n.val = 3 → s.tsGood n.val f = true → (s.tlkPort n.val).ts + 1 < 8 →
      s.completes (.tlkTsReceive n f) fun t => (t.tlkPort n.val).ts = (s.tlkPort n.val).ts + 1 ∧ t.tlkState n.val = 3 ∧
        t.get64 (Reg.TLK_PEER_ID_LO n.val) = flitLe f 4 8 ∧ s.sameBytes t) ∧
    (1 ≤ s.tlkState n.val → s.tlkState n.val ≤ 3 → (s.tlkPort n.val).fails + 1 < 8 → s.completes (.tlkStateTimeout n) fun t =>
      t.tlkState n.val = 1 ∧ (t.tlkPort n.val).fails = (s.tlkPort n.val).fails + 1 ∧ s.sameBytes t) ∧
    (1 ≤ s.tlkState n.val → s.tlkState n.val ≤ 3 → 8 ≤ (s.tlkPort n.val).fails + 1 → s.completes (.tlkStateTimeout n) fun t =>
      t.tlkState n.val = 0 ∧ t.get (Reg.TLK_STATUS_TRAIN_FAIL n.val) = 1 ∧ (t.tlkPort n.val).fails = 0 ∧ s.sameBytes t) ∧
    (∀ c : Instr, c = .tlkMarkLoss n ∨ c = .tlkRetrain n ∨ c = .syncHeaderErrors n → s.tlkState n.val = 4 →
      s.completes c fun t => t.tlkState n.val = 1 ∧ (t.tlkPort n.val).ts = 0 ∧ t.get (Reg.TLK_RETRAIN_COUNT n.val) =
        satInc (Reg.TLK_RETRAIN_COUNT n.val).len (s.get (Reg.TLK_RETRAIN_COUNT n.val)) 1 ∧ s.sameBytes t) ∧
    (s.role ≠ 0 → s.tlkState n.val = 0 → s.completes (.tlkEnable n) fun t => t.get (Reg.TLK_CTRL_EN n.val) = 1 ∧
      t.tlkState n.val = 1 ∧ s.sameBytes t) ∧
    (s.tlkState n.val = 4 → s.completes (.tlkSleepReq n) fun t => (t.tlkPort n.val).sleeping = true ∧ s.sameRegs t [] ∧
      s.sameBytes t) ∧
    (s.role ≠ 0 → s.get (Reg.TLK_CTRL_WAKE_EN n.val) = 1 → s.tlkState n.val = 0 ∨ s.tlkState n.val = 6 →
      s.completes (.tlkWakeDetect n) fun t => t.wakes = s.wakes ++ [(4, n.val)] ∧ t.tlkState n.val = 1 ∧ s.sameBytes t) ∧
    (s.tlkState n.val = 1 → s.get (Reg.TLK_CTRL_LANE_MASK n.val) = 15 → s.completes (.syncHeaderLock n 15) fun t =>
      t.get (Reg.TLK_STATUS_LANES n.val) = 15 ∧ t.tlkState n.val = 2 ∧ s.sameBytes t) ∧
    (s.tlkState n.val = 1 → s.get (Reg.TLK_CTRL_LANE_MASK n.val) = 15 → s.completes (.syncHeaderLock n 3) fun t =>
      t.get (Reg.TLK_STATUS_LANES n.val) = 3 ∧ t.tlkState n.val = 2 ∧ s.sameBytes t)

/-- The commands of tile firmware (R608 to R614, R654, R658, R663, R681): a header and a data chunk are taken, a report and a
message are sent and taken, a tile is released, a worker takes its manager's chunks or waits in vain, an update is given up,
the pairs swap, and a fallback of each cause and a watchdog's expiry leave the previous slot running. -/
def Obligations.TileFirmwareCommandsComplete : Prop :=
  ∀ s : State,
    (∀ (n : Fin 1152) (p : Pip) (u : State) (c : List Byte), s.takeCtrl n.val 8 = some (p, u) → c = leBytes 24 p.pay.toNat →
      s.get (Reg.Q_FW_CTRL_EN n.val) = 1 →
      crc 32 0x04C11DB7 0xFFFFFFFF 0xFFFFFFFF true ((c.take 20).map (·.toNat)) = ofLe ((c.drop 20).take 4) →
      ofLe ((c.drop 16).take 2) / 4096 = 1 → s.completes (.fwChunkReceive n) fun t =>
        t.get (Reg.Q_FW_STAT_HDR n.val) = 1 ∧ t.get (Reg.Q_FW_STAT_GEN n.val) = (c.getD 18 0).toNat ∧
        t.fwHeader n.val = some (ofLe (c.take 2), ofLe ((c.drop 4).take 4), ofLe ((c.drop 8).take 4), ofLe ((c.drop 12).take 4)) ∧
        s.sameBytes t) ∧
    (∀ (n : Fin 1152) (p : Pip) (u : State) (c : List Byte) (k : Nat) (h : Nat × Nat × Nat × Nat),
      s.takeCtrl n.val 8 = some (p, u) → c = leBytes 24 p.pay.toNat → k = ofLe ((c.drop 16).take 2) % 1024 →
      s.get (Reg.Q_FW_CTRL_EN n.val) = 1 →
      crc 32 0x04C11DB7 0xFFFFFFFF 0xFFFFFFFF true ((c.take 20).map (·.toNat)) = ofLe ((c.drop 20).take 4) →
      ofLe ((c.drop 16).take 2) / 4096 ≠ 1 → s.fwHeader n.val = some h → s.get (Reg.Q_FW_STAT_HDR n.val) = 1 →
      s.get (Reg.Q_FW_STAT_GEN n.val) = (c.getD 18 0).toNat → k < h.1 →
      s.get ⟨Reg.Q_FW_BITMAP n.val (k / 32), k % 32, 1⟩ = 0 → s.completes (.fwChunkReceive n) fun t =>
        t.get ⟨Reg.Q_FW_BITMAP n.val (k / 32), k % 32, 1⟩ = 1 ∧
        t.rdBytes (halfAddr n.val (s.get (Reg.Q_FW_CTRL_HALF n.val)) + 16 * k) 16 = c.take 16 ∧
        s.sameBytesBut t (halfAddr n.val (s.get (Reg.Q_FW_CTRL_HALF n.val)) + 16 * k) 16) ∧
    (∀ (n : Fin 1152) (m : Nat), s.fwReports n.val = [m] → s.qMode n.val 1023 = 2 → s.bridged n.val 1023 = none →
      s.qget n.val 1023 52 1 = 1 → s.qget n.val 1023 96 1 = 0 → s.qget n.val 1023 97 1 = 1 → s.qget n.val 1023 64 12 ≠ 0 →
      (s.mesh.msgs.at n.val).length < 16 → s.completes (.fwReport n) fun t =>
        (t.mesh.msgs.at n.val).length = (s.mesh.msgs.at n.val).length + 1 ∧
        t.qget n.val 1023 64 12 = s.qget n.val 1023 64 12 - 1 ∧ s.sameBytes t) ∧
    (∀ n : Fin 1152, s.get (Reg.Q_FW_STAT_MATCH n.val) = 1 → s.start.stage ≠ 4 → s.completes (.fwRelease n) fun t =>
      t.get (Reg.Q_FW_STAT_ACTIVE_HALF n.val) = s.get (Reg.Q_FW_CTRL_HALF n.val) ∧ t.get (Reg.Q_FW_CTRL_EN n.val) = 0 ∧
      n.val ∈ t.start.released ∧ (s.isLogical n.val = true → (n.val, s.headerEntry n.val, 0) ∈ t.fault.cores) ∧
      s.sameRegs t [Reg.Q_FW_STAT n.val, Reg.Q_FW_CTRL n.val] ∧ s.sameBytes t) ∧
    (∀ (n : Fin 1153) (e : Option EccHit) p rest, s.mesh.msgIn.at n.val = p :: rest → s.completes (.messageReceive n e) fun t =>
      t.mesh.msgIn.at n.val = rest) ∧
    (∀ (port : Fin 8) x (f : List Byte), s.tlkIn.find? (fun x => x.1 = port.val && x.2.1 = 4) = some x → x.2.2 = [f] →
      s.start.stage ≠ 4 → ofLe ((f.drop 16).take 2) / 4096 ≠ 1 → s.completes (.fwPacketReceive port) fun t =>
        t.tlkIn = s.tlkIn.erase x ∧ t.start.chunks =
          (s.start.chunks.filter fun c => c.1 ≠ ofLe ((f.drop 16).take 2) % 1024) ++
            [(ofLe ((f.drop 16).take 2) % 1024, f.take 16)] ∧ s.sameRegs t [] ∧ s.sameBytes t) ∧
    (s.role = 2 → s.start.stage = 4 → (s.start.head.any fun h => s.start.chunks.length = h.1) = false →
      s.completes .workerFwTimeout fun t => t.start.head = none ∧ t.start.chunks = [] ∧
        t.start.gen = s.start.gen % 255 + 1 ∧ s.sameBytes t) ∧
    (∀ slot : Fin 8, 2 ≤ s.slotRole slot.val → s.trial = false → s.fw.update = 1 ∨ s.fw.update = 2 →
      s.completes (.updateAbort slot) fun t => t.fw.update = 0 ∧ t.answer = [0, 0]) ∧
    (∀ h : Fin 4, s.fromPair (some h) = true → s.get Reg.SEC_FW_STAT_PREV_VALID = 1 →
      s.completes (.fwFallbackCommand (some h)) fun t => t.get Reg.SEC_FW_STAT_FB_CAUSE = 3 ∧
        t.get Reg.SEC_FW_STAT_PAIR = 0 ∧ t.get Reg.SEC_FW_STAT_TRIAL = 0 ∧ t.fw.update = 0 ∧ t.fw.handover = none ∧
        t.get Reg.SEC_FW_CTRL_STATUS = 0) ∧
    (∀ h : Fin 4, s.fromPair (some h) = true → s.get Reg.SEC_FW_STAT_STBY_RUN = 1 → s.completes (.fwSwap (some h)) fun t =>
      t.get Reg.SEC_FW_STAT_PAIR = 1 - s.get Reg.SEC_FW_STAT_PAIR ∧ t.get Reg.SEC_FW_STAT_TRIAL = 1 ∧
      t.get Reg.SEC_FW_STAT_STBY_RUN = 0 ∧ t.get Reg.SEC_FB_TIMER_ARMED = 1 ∧ t.fw.update = 0 ∧ t.fw.handover = none ∧
      t.get Reg.SEC_FW_CTRL_STATUS = 0) ∧
    (s.get Reg.SEC_FB_TIMER_ARMED = 1 → s.completes .fallbackTimerExpire fun t => t.get Reg.SEC_FW_STAT_FB_CAUSE = 1 ∧
      t.get Reg.SEC_FW_STAT_TRIAL = 0 ∧ t.get Reg.SEC_FB_TIMER_ARMED = 0 ∧ t.get Reg.SEC_FW_STAT_PAIR = 0) ∧
    (∀ time : Nat, s.fw.loadedAt = some time → s.completes .watchdogExpire fun t =>
      t.get Reg.FLT_WDOG_STAT_EXPIRED = 1 ∧ t.get Reg.FLT_WDOG_REMAIN_MS = 0 ∧ t.fw.loadedAt = none ∧
      (s.trial = true → t.get Reg.SEC_FW_STAT_FB_CAUSE = 2 ∧ t.get Reg.SEC_FW_STAT_TRIAL = 0))

/-- The commands of the timebase (R76 to R80, R122). A load moves the counter to TB_SET and logs the move. A slew code
falls on the first tick `k` that is 16 ticks after the code before and 1,024 after the slew code before; it adds two counts or
none and takes one from what is left of the slew. A rate code falls on the first tick, 16 ticks after the code before at least,
whose share takes the accumulator to +1 or −1; it adds two counts or none. The times at which the first codes may fall are the
model's choice (log entry 139). A compare finds the counter at
a multiple of 65,536 or later and counts the replicas that differ, and a tile's compare register fires once it is enabled. -/
def Obligations.TimebaseCommandsComplete : Prop :=
  ∀ s : State,
    (s.running = false → s.completes .tbLoad fun t => t.now = s.get64 Reg.TB_SET_LO ∧
      s.sameRegs t [Reg.TB_COUNT_LO, Reg.TB_COUNT_HI, Reg.FLT_LOG_LOST] ∧ s.sameBytes t) ∧
    (∀ k : Int, 0 < s.signedReg Reg.TB_SLEW 16 → s.ticks ≤ k → s.codeFree ≤ k → (∀ j, s.tbRate.slewAt = some j → j + 1024 ≤ k) →
      k = s.ticks ∨ s.codeFree = k ∨ s.tbRate.slewAt = some (k - 1024) → 0 ≤ k + s.tbRate.skew → k + s.tbRate.skew < 2 ^ 64 →
      s.completes .tbSlewCode fun t => t.now = ((k + s.tbRate.skew).toNat + 2) % 2 ^ 64 ∧
        t.signedReg Reg.TB_SLEW 16 = s.signedReg Reg.TB_SLEW 16 - 1 ∧ t.tbRate.slewAt = some k ∧ t.tbRate.codeAt = some k ∧
        s.sameRegs t [Reg.TB_COUNT_LO, Reg.TB_COUNT_HI, Reg.TB_SLEW] ∧ s.sameBytes t) ∧
    (∀ k : Int, s.signedReg Reg.TB_SLEW 16 < 0 → s.ticks ≤ k → s.codeFree ≤ k → (∀ j, s.tbRate.slewAt = some j → j + 1024 ≤ k) →
      k = s.ticks ∨ s.codeFree = k ∨ s.tbRate.slewAt = some (k - 1024) → 0 ≤ k + s.tbRate.skew → k + s.tbRate.skew < 2 ^ 64 →
      s.completes .tbSlewCode fun t => t.now = ((k + s.tbRate.skew).toNat) % 2 ^ 64 ∧
        t.signedReg Reg.TB_SLEW 16 = s.signedReg Reg.TB_SLEW 16 + 1 ∧ t.tbRate.slewAt = some k ∧ t.tbRate.codeAt = some k ∧
        s.sameRegs t [Reg.TB_COUNT_LO, Reg.TB_COUNT_HI, Reg.TB_SLEW] ∧ s.sameBytes t) ∧
    (∀ k : Int, 0 < s.signedReg Reg.TB_RATE 32 → s.ticks ≤ k → s.codeFree ≤ k →
      2 ^ 40 ≤ s.tbRate.acc + s.signedReg Reg.TB_RATE 32 * (k + 1 - s.tbRate.accAt) →
      k = s.ticks ∨ s.codeFree = k ∨ s.tbRate.acc + s.signedReg Reg.TB_RATE 32 * (k - s.tbRate.accAt) < 2 ^ 40 →
      0 ≤ k + s.tbRate.skew → k + s.tbRate.skew < 2 ^ 64 →
      s.completes .tbRateCode fun t => t.now = ((k + s.tbRate.skew).toNat + 2) % 2 ^ 64 ∧ t.tbRate.codeAt = some k ∧
        t.tbRate.acc = s.tbRate.acc + s.signedReg Reg.TB_RATE 32 * (k + 1 - s.tbRate.accAt) - 2 ^ 40 ∧
        s.sameRegs t [Reg.TB_COUNT_LO, Reg.TB_COUNT_HI] ∧ s.sameBytes t) ∧
    (∀ k : Int, s.signedReg Reg.TB_RATE 32 < 0 → s.ticks ≤ k → s.codeFree ≤ k →
      s.tbRate.acc + s.signedReg Reg.TB_RATE 32 * (k + 1 - s.tbRate.accAt) ≤ -(2 ^ 40) →
      k = s.ticks ∨ s.codeFree = k ∨ -(2 ^ 40) < s.tbRate.acc + s.signedReg Reg.TB_RATE 32 * (k - s.tbRate.accAt) →
      0 ≤ k + s.tbRate.skew → k + s.tbRate.skew < 2 ^ 64 →
      s.completes .tbRateCode fun t => t.now = ((k + s.tbRate.skew).toNat) % 2 ^ 64 ∧ t.tbRate.codeAt = some k ∧
        t.tbRate.acc = s.tbRate.acc + s.signedReg Reg.TB_RATE 32 * (k + 1 - s.tbRate.accAt) + 2 ^ 40 ∧
        s.sameRegs t [Reg.TB_COUNT_LO, Reg.TB_COUNT_HI] ∧ s.sameBytes t) ∧
    (∀ l : List (Fin 1152), s.nextCompare < 2 ^ 64 → s.completes (.replicaCompare l) fun t => s.nextCompare ≤ t.now ∧
      t.get Reg.TB_STAT_MISMATCH_CNT = min (2 ^ 16 - 1) (s.get Reg.TB_STAT_MISMATCH_CNT + l.length) ∧ s.sameBytes t) ∧
    (∀ n : Fin 1152, s.flag (Reg.TB_CMP_CTRL_EN n.val) = true → s.completes (.tbCompareFire n) fun t =>
      s.get64 (Reg.TB_CMP_LO n.val) ≤ t.now ∧ t.get (Reg.TB_CMP_CTRL_FIRED n.val) = 1 ∧
      s.sameRegs t [Reg.TB_COUNT_LO, Reg.TB_COUNT_HI, Reg.TB_CMP_CTRL n.val] ∧ s.sameBytes t)

/-- The commands of a timer (R673 to R679). Start sets RUN and makes due the actions of its slaves on event 1, stop clears RUN,
reset and load set the count and leave RUN, and raise CMP0 where the count comes to be CMP0. A capture register takes the count
where its source is the one that occurs, and is fresh until it is read. A slave whose action is due acts as its TMR_TRIG says. A
head read gives the low word of the count, latches the high one and snaps the members of its chain. Events count a running timer
on behind an open gate, by its prescaler and mode. A configuration write takes effect while the timer is stopped, and a write of
TMR_TRIG always, but for one that cascades from a timer that is not lower. -/
def Obligations.TimerCommandsComplete : Prop :=
  ∀ (s : State) (n : Fin 16),
    (s.completes (.timerStart n) fun t => t.get (Reg.TMR_STATUS_RUN n.val) = 1 ∧
      t.get64 (Reg.TMR_CNT_LO n.val) = s.get64 (Reg.TMR_CNT_LO n.val) ∧
      (∀ u, u < 16 → s.get (Reg.TMR_TRIG_MASTER u) = n.val → s.get (Reg.TMR_TRIG_MEVENT u) = 1 →
        s.get (Reg.TMR_TRIG_SLAVE u) ≠ 0 → u ∈ t.timers.slaves) ∧ s.sameBytes t) ∧
    (s.completes (.timerStop n) fun t => t.get (Reg.TMR_STATUS_RUN n.val) = 0 ∧ t.timers = s.timers ∧
      s.sameRegs t [Reg.TMR_STATUS n.val] ∧ s.sameBytes t) ∧
    (s.completes (.timerReset n) fun t => t.get64 (Reg.TMR_CNT_LO n.val) = 0 ∧
      t.get (Reg.TMR_STATUS_RUN n.val) = s.get (Reg.TMR_STATUS_RUN n.val) ∧
      (s.get64 (Reg.TMR_CNT_LO n.val) ≠ 0 → s.get64 (Reg.TMR_CMP0_LO n.val) = 0 →
        t.get (Reg.TMR_STATUS_CMP0 n.val) = 1) ∧
      s.sameRegs t [Reg.TMR_CNT_LO n.val, Reg.TMR_CNT_HI n.val, Reg.TMR_STATUS n.val] ∧ s.sameBytes t) ∧
    (s.completes (.timerResetStart n) fun t => t.get64 (Reg.TMR_CNT_LO n.val) = 0 ∧
      t.get (Reg.TMR_STATUS_RUN n.val) = 1 ∧ s.sameBytes t) ∧
    (s.completes (.timerLoad n) fun t => t.get64 (Reg.TMR_CNT_LO n.val) = s.get64 (Reg.TMR_LOAD_LO n.val) ∧
      t.get (Reg.TMR_STATUS_RUN n.val) = s.get (Reg.TMR_STATUS_RUN n.val) ∧
      s.sameRegs t [Reg.TMR_CNT_LO n.val, Reg.TMR_CNT_HI n.val, Reg.TMR_STATUS n.val] ∧ s.sameBytes t) ∧
    (∀ b, s.capSource n.val b = 4 → s.completes (.timerCapture n b) fun t =>
      t.get64 (capAddr n.val b) = s.get64 (Reg.TMR_CNT_LO n.val) ∧
        t.get (if b then Reg.TMR_STATUS_FRESH_B n.val else Reg.TMR_STATUS_FRESH_A n.val) = 1 ∧
        (s.get (if b then Reg.TMR_STATUS_FRESH_B n.val else Reg.TMR_STATUS_FRESH_A n.val) = 1 →
          t.get (if b then Reg.TMR_STATUS_OVERCAP_B n.val else Reg.TMR_STATUS_OVERCAP_A n.val) = 1) ∧
        s.sameRegs t [capAddr n.val b, capAddr n.val b + 4, Reg.TMR_STATUS n.val] ∧ s.sameBytes t) ∧
    (∀ b, s.capSource n.val b ≠ 4 → s.completes (.timerCapture n b) fun t => t = s) ∧
    (∀ (b : Bool) (source : Fin 3), s.capSource n.val b = source.val + 1 →
      (source.val = 1 → 2 * n.val + (if b then 1 else 0) ∈ s.timers.caps) →
      s.completes (.timerCaptureSource n b source) fun t =>
        t.get64 (capAddr n.val b) = s.get64 (Reg.TMR_CNT_LO n.val) ∧
        t.get (if b then Reg.TMR_STATUS_FRESH_B n.val else Reg.TMR_STATUS_FRESH_A n.val) = 1 ∧
        s.sameRegs t [capAddr n.val b, capAddr n.val b + 4, Reg.TMR_STATUS n.val] ∧ s.sameBytes t) ∧
    (∀ (b : Bool) (source : Fin 3), s.capSource n.val b ≠ source.val + 1 →
      s.completes (.timerCaptureSource n b source) fun t => t = s) ∧
    (n.val ∈ s.timers.slaves → s.get (Reg.TMR_TRIG_SLAVE n.val) = 1 → s.completes (.timerSlaveAction n) fun t =>
      t.get (Reg.TMR_STATUS_RUN n.val) = 1 ∧ t.get64 (Reg.TMR_CNT_LO n.val) = s.get64 (Reg.TMR_CNT_LO n.val) ∧
        s.sameBytes t) ∧
    (n.val ∈ s.timers.slaves → s.get (Reg.TMR_TRIG_SLAVE n.val) = 2 → s.completes (.timerSlaveAction n) fun t =>
      t.get (Reg.TMR_STATUS_RUN n.val) = 0 ∧ n.val ∉ t.timers.slaves ∧ s.sameRegs t [Reg.TMR_STATUS n.val] ∧
        s.sameBytes t) ∧
    (n.val ∈ s.timers.slaves → s.get (Reg.TMR_TRIG_SLAVE n.val) = 3 → s.completes (.timerSlaveAction n) fun t =>
      t.get64 (Reg.TMR_CNT_LO n.val) = 0 ∧ t.get (Reg.TMR_STATUS_RUN n.val) = s.get (Reg.TMR_STATUS_RUN n.val) ∧
        s.sameRegs t [Reg.TMR_CNT_LO n.val, Reg.TMR_CNT_HI n.val, Reg.TMR_STATUS n.val] ∧ s.sameBytes t) ∧
    (n.val ∈ s.timers.slaves → s.get (Reg.TMR_TRIG_SLAVE n.val) = 4 → s.completes (.timerSlaveAction n) fun t =>
      t.get64 (Reg.TMR_CNT_LO n.val) = 0 ∧ t.get (Reg.TMR_STATUS_RUN n.val) = 1 ∧ s.sameBytes t) ∧
    (n.val ∈ s.timers.slaves → s.get (Reg.TMR_TRIG_SLAVE n.val) = 5 → s.completes (.timerSlaveAction n) fun t =>
      t.get64 (Reg.TMR_CAPA_LO n.val) = s.get64 (Reg.TMR_CNT_LO n.val) ∧ t.get (Reg.TMR_STATUS_FRESH_A n.val) = 1 ∧
        n.val ∉ t.timers.slaves ∧
        s.sameRegs t [Reg.TMR_CAPA_LO n.val, Reg.TMR_CAPA_HI n.val, Reg.TMR_STATUS n.val] ∧ s.sameBytes t) ∧
    (n.val ∉ s.timers.slaves → s.completes (.timerSlaveAction n) fun t => t = s) ∧
    (s.completes (.timerHeadRead n) fun t => t.answer = [s.get64 (Reg.TMR_CNT_LO n.val) % 2 ^ 32] ∧
      t.latches.at (Reg.TMR_CNT_HI n.val) = s.get64 (Reg.TMR_CNT_LO n.val) / 2 ^ 32 + 1 ∧
      (∀ u, u < 16 → u ≠ n.val → s.get (Reg.TMR_CFG_SRC n.val) ≠ 3 → s.get (Reg.TMR_CFG_SRC u) = 3 →
        s.get (Reg.TMR_TRIG_MASTER u) = n.val → t.get64 (Reg.TMR_SNAP_LO u) = s.get64 (Reg.TMR_CNT_LO u)) ∧
      s.sameBytes t) ∧
    (∀ b, s.completes (.timerCaptureRead n b) fun t => t.answer = [s.get64 (capAddr n.val b) % 2 ^ 32] ∧
      t.latches.at (capAddr n.val b + 4) = s.get64 (capAddr n.val b) / 2 ^ 32 + 1 ∧
      t.get (if b then Reg.TMR_STATUS_FRESH_B n.val else Reg.TMR_STATUS_FRESH_A n.val) = 0 ∧
      s.sameRegs t [Reg.TMR_STATUS n.val] ∧ s.sameBytes t) ∧
    (∀ k : Fin 3, s.get (Reg.TMR_CFG_SRC n.val) ≠ 3 → s.get (Reg.TMR_STATUS_RUN n.val) = 1 → s.tmrGate n.val = true →
      s.get (Reg.TMR_CFG_PRESCALE n.val) = 0 → s.timers.div.at n.val = 0 → s.get (Reg.TMR_CFG_MODE n.val) = 0 →
      s.completes (.timerCountEvent n k) fun t =>
        t.get64 (Reg.TMR_CNT_LO n.val) = (s.get64 (Reg.TMR_CNT_LO n.val) + k.val) % 2 ^ 64 ∧ s.sameBytes t) ∧
    (s.get (Reg.TMR_CFG_SRC n.val) ≠ 3 → s.get (Reg.TMR_STATUS_RUN n.val) = 1 → s.tmrGate n.val = true →
      s.get (Reg.TMR_CFG_MODE n.val) = 0 → s.timers.div.at n.val + 1 = s.get (Reg.TMR_CFG_PRESCALE n.val) + 1 →
      s.completes (.timerCountEvent n 1) fun t =>
        t.get64 (Reg.TMR_CNT_LO n.val) = (s.get64 (Reg.TMR_CNT_LO n.val) + 1) % 2 ^ 64 ∧ t.timers.div.at n.val = 0 ∧
          s.sameBytes t) ∧
    (s.get (Reg.TMR_CFG_SRC n.val) ≠ 3 → s.get (Reg.TMR_STATUS_RUN n.val) = 1 → s.tmrGate n.val = true →
      s.timers.div.at n.val + 1 < s.get (Reg.TMR_CFG_PRESCALE n.val) + 1 →
      s.completes (.timerCountEvent n 1) fun t => t.timers.div.at n.val = s.timers.div.at n.val + 1 ∧
        s.sameRegs t [] ∧ s.sameBytes t) ∧
    (s.get (Reg.TMR_CFG_SRC n.val) ≠ 3 → s.get (Reg.TMR_STATUS_RUN n.val) = 1 → s.tmrGate n.val = true →
      s.get (Reg.TMR_CFG_PRESCALE n.val) = 0 → s.timers.div.at n.val = 0 → s.get (Reg.TMR_CFG_MODE n.val) = 1 →
      s.get64 (Reg.TMR_CNT_LO n.val) = s.get64 (Reg.TMR_CMP0_LO n.val) → s.completes (.timerCountEvent n 1) fun t =>
        t.get64 (Reg.TMR_CNT_LO n.val) = 0 ∧ t.get (Reg.TMR_STATUS_WRAP n.val) = 1 ∧ s.sameBytes t) ∧
    (s.get (Reg.TMR_CFG_SRC n.val) ≠ 3 → s.get (Reg.TMR_STATUS_RUN n.val) = 1 → s.tmrGate n.val = true →
      s.get (Reg.TMR_CFG_PRESCALE n.val) = 0 → s.timers.div.at n.val = 0 → s.get (Reg.TMR_CFG_MODE n.val) = 2 →
      (s.get64 (Reg.TMR_CNT_LO n.val) + 1) % 2 ^ 64 = s.get64 (Reg.TMR_CMP0_LO n.val) →
      s.completes (.timerCountEvent n 1) fun t => t.get64 (Reg.TMR_CNT_LO n.val) = s.get64 (Reg.TMR_CMP0_LO n.val) ∧
        t.get (Reg.TMR_STATUS_RUN n.val) = 0 ∧ t.get (Reg.TMR_STATUS_CMP0 n.val) = 1 ∧ s.sameBytes t) ∧
    (∀ k : Fin 3, s.get (Reg.TMR_CFG_SRC n.val) = 3 ∨ s.get (Reg.TMR_STATUS_RUN n.val) = 0 ∨ s.tmrGate n.val = false →
      s.completes (.timerCountEvent n k) fun t => s.sameRegs t [] ∧ s.sameBytes t) ∧
    (∀ v : Word, s.get (Reg.TMR_STATUS_RUN n.val) = 0 → getF v 0 3 < 6 →
      (getF v 0 3 = 3 → s.get (Reg.TMR_TRIG_MASTER n.val) < n.val) → s.completes (.timerConfigWrite n 0 v) fun t =>
        t.get (Reg.TMR_CFG_SRC n.val) = getF v 0 3 ∧ t.get (Reg.TMR_CFG_PRESCALE n.val) = getF v 8 8 ∧
        t.get (Reg.TMR_CFG_GATE n.val) = getF v 16 2 ∧ s.sameRegs t [Reg.TMR_CFG n.val] ∧ s.sameBytes t) ∧
    (∀ v : Word, s.get (Reg.TMR_STATUS_RUN n.val) = 0 → s.completes (.timerConfigWrite n 1 v) fun t =>
      t.get (Reg.TMR_PIN_PIN n.val) = getF v 0 5 ∧ s.sameRegs t [Reg.TMR_PIN n.val] ∧ s.sameBytes t) ∧
    (∀ v : Word, s.get (Reg.TMR_CFG_SRC n.val) ≠ 3 ∨ getF v 0 4 < n.val → s.completes (.timerConfigWrite n 2 v) fun t =>
      t.get (Reg.TMR_TRIG_MASTER n.val) = getF v 0 4 ∧ s.sameRegs t [Reg.TMR_TRIG n.val] ∧ s.sameBytes t) ∧
    (∀ (which : Fin 3) (v : Word), which.val ≠ 2 ∧ s.get (Reg.TMR_STATUS_RUN n.val) = 1 ∨
        which.val = 0 ∧ getF v 0 3 = 3 ∧ n.val ≤ s.get (Reg.TMR_TRIG_MASTER n.val) ∨
        which.val = 2 ∧ s.get (Reg.TMR_CFG_SRC n.val) = 3 ∧ n.val ≤ getF v 0 4 →
      s.completes (.timerConfigWrite n which v) fun t => t.get (Reg.TMR_STATUS_CFG_ERR n.val) = 1 ∧
        s.sameRegs t [Reg.TMR_STATUS n.val] ∧ s.sameBytes t)

/-- The commands of DRAM training, of the memory test and of the power states (R600 to R605, R621, R626, R636, R638): a step
begins and ends, a mode register is written and read back, the saved set is sealed and checked, a test begins, is held, is
given up and ends, the device goes to and comes back from its power states, and a wake pattern is kept. -/
def Obligations.TrainingCommandsComplete : Prop :=
  ∀ s : State,
    (∀ (q step : Fin 16) (rank : Fin 2), 1 ≤ step.val → step.val ≤ 9 →
      s.flag (Reg.DDR_TRN_STAT_BUSY (q.val / 4) (q.val % 4)) = false → s.completes (.ddrTrainStep q step rank) fun t =>
        t.get (Reg.DDR_TRN_CTRL_STEP (q.val / 4) (q.val % 4)) = step.val ∧
        t.get (Reg.DDR_TRN_CTRL_RANK (q.val / 4) (q.val % 4)) = rank.val ∧
        t.get (Reg.DDR_TRN_STAT_BUSY (q.val / 4) (q.val % 4)) = 1 ∧ s.sameBytes t ∧
        s.sameRegs t [Reg.DDR_TRN_CTRL (q.val / 4) (q.val % 4), Reg.DDR_TRN_STAT (q.val / 4) (q.val % 4)]) ∧
    (∀ (q : Fin 16) (lane : Fin 64), s.get (Reg.DDR_TRN_STAT_BUSY (q.val / 4) (q.val % 4)) = 1 →
      s.get (Reg.DDR_TRN_CTRL_STEP (q.val / 4) (q.val % 4)) ≠ 9 → s.completes (.ddrTrainStepDone q true lane []) fun t =>
        t.get (Reg.DDR_TRN_STAT_BUSY (q.val / 4) (q.val % 4)) = 0 ∧
        t.get (Reg.DDR_TRN_STAT_PASS (q.val / 4) (q.val % 4)) = 1 ∧
        t.get (Reg.DDR_TRN_STAT_LAST_STEP (q.val / 4) (q.val % 4)) =
          s.get (Reg.DDR_TRN_CTRL_STEP (q.val / 4) (q.val % 4)) ∧
        s.sameRegs t [Reg.DDR_TRN_STAT (q.val / 4) (q.val % 4)] ∧ s.sameBytes t) ∧
    (∀ (q : Fin 16) (w : Word), w.getLsbD 30 = true → s.completes (.ddrModeRegisterAccess q w) fun t =>
      t.start.modes.at (q.val * 4096 + getF w 16 1 * 2048 + getF w 17 3 * 256 + getF w 0 8) = 1 + getF w 8 8 ∧
        s.sameRegs t [Reg.DDR_TRN_MR (q.val / 4) (q.val % 4)] ∧ s.sameBytes t) ∧
    (∀ (q : Fin 16) (w : Word) (v : Nat), w.getLsbD 30 = false → v < 256 →
      s.start.modes.at (q.val * 4096 + getF w 16 1 * 2048 + getF w 17 3 * 256 + getF w 0 8) = v + 1 →
      s.completes (.ddrModeRegisterAccess q w) fun t => t.get (Reg.DDR_TRN_MR_DATA (q.val / 4) (q.val % 4)) = v ∧
        s.sameRegs t [Reg.DDR_TRN_MR (q.val / 4) (q.val % 4)] ∧ s.sameBytes t) ∧
    (∀ temp : Fin 65536, s.wiping = false → s.completes (.trainSetSeal temp) fun t => t.trainTagOk = true ∧
      t.get Reg.SEC_HUSK_STAT_SEAL_PEND = 1 ∧ t.rdBytes trainBase 20 = s.trainHeader ∧
      s.sameBytesBut t trainBase 0x8000) ∧
    (s.completes .trainSetCheck fun t => t.get Reg.SEC_TRAIN_CTRL_VALID = (if s.trainTagOk then 1 else 0) ∧
      s.sameRegs t [Reg.SEC_TRAIN_CTRL] ∧ s.sameBytes t) ∧
    (∀ (u : Fin 4) (w : Word), s.flag (Reg.DDR_MT_STAT_BUSY u.val) = false → s.completes (.memoryTestStart u w) fun t =>
      t.get (Reg.DDR_MT_STAT_BUSY u.val) = 1 ∧ t.get (Reg.DDR_MT_ERR_COUNT u.val) = 0 ∧
      t.get64 (Reg.DDR_MT_POS_LO u.val) = 0 ∧ t.start.testAt.at u.val = s.now ∧ t.start.passes.at u.val = 0 ∧
      u.val ∉ t.start.tested ∧ s.sameBytes t) ∧
    (∀ u : Fin 4, s.get (Reg.DDR_MT_STAT_BUSY u.val) = 1 → s.completes (.memoryTestAbort u) fun t =>
      t.get (Reg.DDR_MT_STAT_BUSY u.val) = 0 ∧ t.get (Reg.DDR_MT_STAT_PHASE u.val) = 6 ∧
      s.sameRegs t [Reg.DDR_MT_STAT u.val] ∧ s.sameBytes t) ∧
    (∀ u : Fin 4, s.get (Reg.DDR_MT_STAT_BUSY u.val) = 1 → s.start.passes.at u.val < s.get (Reg.DDR_MT_CTRL_RET u.val) →
      s.completes (.retentionHoldExpire u) fun t => t.get (Reg.DDR_MT_STAT_PHASE u.val) = 4 ∧
        t.start.passes.at u.val = s.start.passes.at u.val + 1 ∧ s.sameBytes t) ∧
    (∀ u : Fin 4, s.get (Reg.DDR_MT_STAT_BUSY u.val) = 1 → s.get (Reg.DDR_MT_CTRL_RET u.val) ≤ s.start.passes.at u.val →
      s.start.stage ≠ 4 → s.completes (.memoryTestDone u []) fun t => t.get (Reg.DDR_MT_STAT_BUSY u.val) = 0 ∧
        t.get (Reg.DDR_MT_STAT_PHASE u.val) = 5 ∧ u.val ∈ t.start.tested) ∧
    (s.powerReason 1 = 0 → s.get Reg.PWR_STATUS_STATE = 0 → s.completes (.powerStateRequest 1 none) fun t =>
      t.get Reg.PWR_STATUS_STATE = 1 ∧ t.get Reg.PWR_CTRL_REQ = 1 ∧ t.power.goal = none ∧ t.answer = [0, 0] ∧ s.sameBytes t) ∧
    (s.powerReason 0 = 0 → s.get Reg.PWR_STATUS_STATE = 1 → s.completes (.powerStateRequest 0 none) fun t =>
      t.get Reg.PWR_STATUS_STATE = 0 ∧ t.get Reg.PWR_CTRL_REQ = 0 ∧ t.power.goal = none ∧ t.answer = [0, 0] ∧ s.sameBytes t) ∧
    (s.powerReason 2 = 0 → s.get Reg.PWR_STATUS_STATE ≤ 1 → 1 ∈ s.power.enabled → s.completes (.powerStateRequest 2 none) fun t =>
      t.get Reg.PWR_STATUS_STATE = 4 ∧ t.power.goal = some (s.get Reg.PWR_STATUS_STATE, 2) ∧ 1 ∉ t.power.enabled ∧
      t.start.stage = 0 ∧ t.answer = [0, 0]) ∧
    (s.powerReason 3 = 0 → s.get Reg.PWR_STATUS_STATE ≤ 2 → 6 ∈ s.power.enabled → s.completes (.powerStateRequest 3 none) fun t =>
      t.get Reg.PWR_STATUS_STATE = 4 ∧ t.power.goal = some (s.get Reg.PWR_STATUS_STATE, 3) ∧ t.power.safe = true ∧
      t.answer = [0, 0]) ∧
    (∀ (cycles : Nat) (x : Nat × Nat), s.start.stage = 0 → s.get Reg.PWR_STATUS_STATE = 2 → x ∈ s.wakes →
      bits (s.get Reg.PWR_WAKE_EN_BITS) (x.1 - 1) 1 = 1 → s.completes (.wakeEvent cycles []) fun t => t.wakes = [] ∧
        t.get Reg.PWR_STATUS_STATE = 4 ∧ t.power.goal = some (2, 0) ∧ t.start.kind = 3 ∧ s.sameBytes t) ∧
    (∀ (cycles : Nat) (x : Nat × Nat), s.start.stage = 0 → s.get Reg.PWR_STATUS_STATE = 3 → x ∈ s.wakes →
      bits (s.get Reg.PWR_WAKE_EN_BITS) (x.1 - 1) 1 = 1 → s.completes (.wakeEvent cycles []) fun t => t.wakes = [] ∧
        t.get Reg.PWR_STATUS_STATE = 4 ∧ t.power.goal = some (3, 0) ∧ t.start.kind = 0 ∧ s.sameBytes t) ∧
    (s.completes .wakeTimerMatch fun t => t.wakes = s.wakes ++ [(8, 0)] ∧ s.sameRegs t [] ∧ s.sameBytes t)

end
end

