-- ==== Sys2Proof/Laws/Bits.lean ====
section
/-! SUPPORT. The laws of bit fields: what a field reads as after it, or another field of the word, is stored. -/

namespace Sys2Proof

variable {w : Word} {lo len lo' len' v i : Nat}

theorem getLsbD_maskF : (maskF lo len).getLsbD i = (decide (i < 32) && decide (lo ≤ i) && decide (i < lo + len)) := by
  unfold maskF
  rw [BitVec.getLsbD_shiftLeft]
  by_cases h : i < 32 <;> by_cases h2 : lo ≤ i <;> by_cases h3 : i < lo + len <;>
    simp [h, h2, h3, BitVec.getLsbD_ofNat, Nat.testBit_two_pow_sub_one] <;> omega

theorem getLsbD_setF : (setF w lo len v).getLsbD i =
    if lo ≤ i ∧ i < lo + len ∧ i < 32 then (v % 2 ^ len).testBit (i - lo) else w.getLsbD i := by
  unfold setF
  rw [BitVec.getLsbD_or, BitVec.getLsbD_and, BitVec.getLsbD_not, getLsbD_maskF, BitVec.getLsbD_shiftLeft,
    BitVec.getLsbD_ofNat]
  by_cases h : i < 32
  · by_cases h2 : lo ≤ i
    · by_cases h3 : i < lo + len
      · have : i - lo < 32 := by omega
        have h4 : ¬i < lo := by omega
        simp [h, h2, h3, h4, this]
      · have h4 : ¬i < lo := by omega
        have h5 : (v % 2 ^ len).testBit (i - lo) = false := by
          rw [Nat.testBit_mod_two_pow]; simp; omega
        simp [h, h2, h3, h4, h5]
    · simp [h, h2]
  · have := BitVec.getLsbD_of_ge w i (by omega)
    simp [h, this]

/-- A field reads as what was stored in it. -/
theorem getF_setF (h : lo + len ≤ 32) : getF (setF w lo len v) lo len = v % 2 ^ len := by
  unfold getF
  apply Nat.eq_of_testBit_eq
  intro i
  rw [BitVec.testBit_toNat, BitVec.getLsbD_extractLsb', getLsbD_setF]
  by_cases hi : i < len
  · have : lo ≤ lo + i ∧ lo + i < lo + len ∧ lo + i < 32 := by omega
    simp [hi, this]
  · have : (v % 2 ^ len).testBit i = false := by rw [Nat.testBit_mod_two_pow]; simp [hi]
    simp [hi, this]

/-- A store in one field leaves every field that lies clear of it. -/
theorem getF_setF_ne (h : lo' + len' ≤ lo ∨ lo + len ≤ lo') : getF (setF w lo len v) lo' len' = getF w lo' len' := by
  unfold getF
  congr 1
  apply BitVec.eq_of_getLsbD_eq
  intro i hi
  rw [BitVec.getLsbD_extractLsb', BitVec.getLsbD_extractLsb', getLsbD_setF]
  have : ¬(lo ≤ lo' + i ∧ lo' + i < lo + len ∧ lo' + i < 32) := by omega
  rw [if_neg this]

/-- A field reads below 2 to the number of its bits. -/
theorem getF_lt : getF w lo len < 2 ^ len := by unfold getF; exact BitVec.isLt _

end Sys2Proof
end

