-- ==== Sys2Proof/Laws/Sparse.lean ====
section
/-! SUPPORT. The laws of the sparse store: a read after a store, and the canonical form, which every store and every
removal keeps. -/

namespace Sys2Proof.Sparse

variable {β : Type} [DecidableEq β] {d : β} {l : List (Nat × β)} {k j : Nat} {x : β}

omit [DecidableEq β] in
theorem find_erase_ne (h : j ≠ k) : find d (erase l k) j = find d l j := by
  induction l with
  | nil => rfl
  | cons e r ih =>
    obtain ⟨a, v⟩ := e
    by_cases ha : a = k
    · subst ha
      simp [erase, find, Ne.symm h, ih]
    · simp [erase, ha, find, ih]

omit [DecidableEq β] in
theorem find_insert_self : find d (insert l k x) k = x := by
  induction l with
  | nil => simp [insert, find]
  | cons e r ih =>
    obtain ⟨a, v⟩ := e
    unfold insert
    split
    · simp [find]
    · split
      · simp [find]
      · simp [find, *]

omit [DecidableEq β] in
theorem find_insert_ne (h : j ≠ k) : find d (insert l k x) j = find d l j := by
  induction l with
  | nil => simp [insert, find, Ne.symm h]
  | cons e r ih =>
    obtain ⟨a, v⟩ := e
    unfold insert
    split
    · simp [find, Ne.symm h]
    · split
      · rename_i e; subst e; simp [find, Ne.symm h]
      · simp [find, ih]

/-- A store leaves what every other key reads as (R11). -/
theorem find_store_ne {d' : β} (h : j ≠ k) : find d' (store d l k x) j = find d' l j := by
  unfold store; split
  · exact find_erase_ne h
  · exact find_insert_ne h

variable {f : Nat → β} {lo lo' : Nat}

theorem wfFrom_weaken (h : wfFrom f lo l = true) (hl : lo' ≤ lo) : wfFrom f lo' l = true := by
  cases l with
  | nil => rfl
  | cons e r =>
    simp only [wfFrom, Bool.and_eq_true, decide_eq_true_eq] at h ⊢
    exact ⟨⟨by omega, h.1.2⟩, h.2⟩

theorem find_of_wfFrom (h : wfFrom f lo l = true) (hk : k < lo) : find d l k = d := by
  induction l generalizing lo with
  | nil => rfl
  | cons e r ih =>
    obtain ⟨a, v⟩ := e
    simp only [wfFrom, Bool.and_eq_true, decide_eq_true_eq] at h
    have : a ≠ k := by omega
    simpa [find, this] using ih h.2 (by omega)

omit [DecidableEq β] in
theorem find_erase_self : find d (erase l k) k = d := by
  induction l with
  | nil => rfl
  | cons e r ih =>
    obtain ⟨a, v⟩ := e
    by_cases ha : a = k
    · simpa [erase, ha] using ih
    · simpa [erase, ha, find] using ih

/-- A key reads as what was stored under it. -/
theorem find_store_self : find d (store d l k x) k = x := by
  unfold store; split
  · rename_i e; rw [e]; exact find_erase_self
  · exact find_insert_self

/-- What every key reads as after a store. -/
theorem find_store {f : Nat → β} : find (f j) (store (f k) l k x) j = if j = k then x else find (f j) l j := by
  split
  · rename_i e; subst e; exact find_store_self
  · rename_i e; exact find_store_ne e

theorem wfFrom_erase (h : wfFrom f lo l = true) : wfFrom f lo (erase l k) = true := by
  induction l generalizing lo with
  | nil => rfl
  | cons e r ih =>
    obtain ⟨a, v⟩ := e
    simp only [wfFrom, Bool.and_eq_true, decide_eq_true_eq] at h
    unfold erase; split
    · exact wfFrom_weaken (ih h.2) (by omega)
    · simp [wfFrom, h.1, ih h.2]

theorem wfFrom_insert (h : wfFrom f lo l = true) (hk : lo ≤ k) (hx : x ≠ f k) : wfFrom f lo (insert l k x) = true := by
  induction l generalizing lo with
  | nil => simp [insert, wfFrom, hk, hx]
  | cons e r ih =>
    obtain ⟨a, v⟩ := e
    simp only [wfFrom, Bool.and_eq_true, decide_eq_true_eq] at h
    unfold insert; split
    · simp [wfFrom, h, hk, hx]; omega
    · split
      · rename_i e; subst e; simp [wfFrom, h, hx]
      · simp [wfFrom, h.1, ih h.2 (by omega)]

/-- A store keeps the canonical form. -/
theorem wf_store (h : wf f l = true) : wf f (store (f k) l k x) = true := by
  unfold store; split
  · exact wfFrom_erase h
  · rename_i hx; exact wfFrom_insert h (Nat.zero_le _) hx

theorem wfFrom_filter {p : Nat × β → Bool} (h : wfFrom f lo l = true) : wfFrom f lo (l.filter p) = true := by
  induction l generalizing lo with
  | nil => rfl
  | cons e r ih =>
    simp only [wfFrom, Bool.and_eq_true, decide_eq_true_eq] at h
    by_cases hp : p e
    · simp [List.filter, hp, wfFrom, h.1, ih h.2]
    · simpa [List.filter, hp] using ih (wfFrom_weaken h.2 (by omega))

/-- Removing entries keeps the canonical form. -/
theorem wf_filter {p : Nat × β → Bool} (h : wf f l = true) : wf f (l.filter p) = true := wfFrom_filter h

/-- Two canonical stores that read alike under every key are equal data. -/
theorem ext_of_wf {l' : List (Nat × β)} (h : wf f l = true) (h' : wf f l' = true)
    (e : ∀ k, find (f k) l k = find (f k) l' k) : l = l' := by
  suffices ∀ (l l' : List (Nat × β)) lo lo', wfFrom f lo l = true → wfFrom f lo' l' = true →
      (∀ k, find (f k) l k = find (f k) l' k) → l = l' from this l l' 0 0 h h' e
  intro l
  induction l with
  | nil =>
    intro l' lo lo' _ h' e
    cases l' with
    | nil => rfl
    | cons b r =>
      simp only [wfFrom, Bool.and_eq_true, decide_eq_true_eq] at h'
      have := e b.1
      simp [find] at this
      exact absurd this.symm h'.1.2
  | cons a q ih =>
    intro l' lo lo' h h' e
    have h0 := h
    simp only [wfFrom, Bool.and_eq_true, decide_eq_true_eq] at h
    cases l' with
    | nil =>
      have := e a.1
      simp [find] at this
      exact absurd this h.1.2
    | cons b r =>
      have h0' := h'
      simp only [wfFrom, Bool.and_eq_true, decide_eq_true_eq] at h'
      obtain ⟨ka, va⟩ := a
      obtain ⟨kb, vb⟩ := b
      simp only at h h'
      have hk : ka = kb := by
        rcases Nat.lt_trichotomy ka kb with c | c | c
        · have := e ka
          rw [find_of_wfFrom (f := f) (lo := kb) (l := (kb, vb) :: r) (by simp [wfFrom, h']) c] at this
          simp [find] at this; exact absurd this h.1.2
        · exact c
        · have := e kb
          rw [find_of_wfFrom (f := f) (lo := ka) (l := (ka, va) :: q) (by simp [wfFrom, h]) c] at this
          simp [find] at this; exact absurd this.symm h'.1.2
      subst hk
      have hv : va = vb := by simpa [find] using e ka
      subst hv
      congr 1
      refine ih r _ _ h.2 h'.2 fun k => ?_
      by_cases c : k < ka + 1
      · rw [find_of_wfFrom h.2 c, find_of_wfFrom h'.2 c]
      · have : ka ≠ k := by omega
        simpa [find, this] using e k

end Sys2Proof.Sparse
end

