-- ==== Sys2Proof/Laws/State.lean ====
section
/-! SUPPORT. What each field of the state reads as after each named update, and what registers, their fields, memory and
objects read as after a store: later proofs unfold no record update. -/

namespace Sys2Proof.Machine.State

variable {s : State}

/-! `setReg`. -/

@[simp] theorem setReg_mem {a w} : (s.setReg a w).mem = s.mem := rfl
@[simp] theorem setReg_latches {a w} : (s.setReg a w).latches = s.latches := rfl
@[simp] theorem setReg_pending {a w} : (s.setReg a w).pending = s.pending := rfl
@[simp] theorem setReg_freeCount {a w} : (s.setReg a w).freeCount = s.freeCount := rfl
@[simp] theorem setReg_events {a w} : (s.setReg a w).events = s.events := rfl
@[simp] theorem setReg_mesh {a w} : (s.setReg a w).mesh = s.mesh := rfl
@[simp] theorem setReg_once {a w} : (s.setReg a w).once = s.once := rfl
@[simp] theorem setReg_deliveryOpen {a w} : (s.setReg a w).deliveryOpen = s.deliveryOpen := rfl
@[simp] theorem setReg_launched {a w} : (s.setReg a w).launched = s.launched := rfl
@[simp] theorem setReg_scanRegs {a w} : (s.setReg a w).scanRegs = s.scanRegs := rfl
@[simp] theorem setReg_objs {a w} : (s.setReg a w).objs = s.objs := rfl
@[simp] theorem setReg_fault {a w} : (s.setReg a w).fault = s.fault := rfl
@[simp] theorem setReg_loadStep {a w} : (s.setReg a w).loadStep = s.loadStep := rfl
@[simp] theorem setReg_clearing {a w} : (s.setReg a w).clearing = s.clearing := rfl
@[simp] theorem setReg_creditDue {a w} : (s.setReg a w).creditDue = s.creditDue := rfl
@[simp] theorem setReg_oooSeen {a w} : (s.setReg a w).oooSeen = s.oooSeen := rfl
@[simp] theorem setReg_delivery {a w} : (s.setReg a w).delivery = s.delivery := rfl
@[simp] theorem setReg_streams {a w} : (s.setReg a w).streams = s.streams := rfl
@[simp] theorem setReg_memories {a w} : (s.setReg a w).memories = s.memories := rfl
@[simp] theorem setReg_progress {a w} : (s.setReg a w).progress = s.progress := rfl
@[simp] theorem setReg_hub {a w} : (s.setReg a w).hub = s.hub := rfl
@[simp] theorem setReg_sent {a w} : (s.setReg a w).sent = s.sent := rfl
@[simp] theorem setReg_answer {a w} : (s.setReg a w).answer = s.answer := rfl
@[simp] theorem setReg_wakes {a w} : (s.setReg a w).wakes = s.wakes := rfl
@[simp] theorem setReg_can {a w} : (s.setReg a w).can = s.can := rfl
@[simp] theorem setReg_canMode {a w} : (s.setReg a w).canMode = s.canMode := rfl
@[simp] theorem setReg_canStandby {a w} : (s.setReg a w).canStandby = s.canStandby := rfl
@[simp] theorem setReg_nmt {a w} : (s.setReg a w).nmt = s.nmt := rfl
@[simp] theorem setReg_guard {a w} : (s.setReg a w).guard = s.guard := rfl
@[simp] theorem setReg_sec {a w} : (s.setReg a w).sec = s.sec := rfl
@[simp] theorem setReg_selectors {a w} : (s.setReg a w).selectors = s.selectors := rfl
@[simp] theorem setReg_calendar {a w} : (s.setReg a w).calendar = s.calendar := rfl
@[simp] theorem setReg_emcy {a w} : (s.setReg a w).emcy = s.emcy := rfl
@[simp] theorem setReg_fw {a w} : (s.setReg a w).fw = s.fw := rfl
@[simp] theorem setReg_chkWait {a w} : (s.setReg a w).chkWait = s.chkWait := rfl
@[simp] theorem setReg_timers {a w} : (s.setReg a w).timers = s.timers := rfl
@[simp] theorem setReg_hang {a w} : (s.setReg a w).hang = s.hang := rfl
@[simp] theorem setReg_jtag {a w} : (s.setReg a w).jtag = s.jtag := rfl
@[simp] theorem setReg_accesses {a w} : (s.setReg a w).accesses = s.accesses := rfl
@[simp] theorem setReg_tlk {a w} : (s.setReg a w).tlk = s.tlk := rfl
@[simp] theorem setReg_tlkIn {a w} : (s.setReg a w).tlkIn = s.tlkIn := rfl
@[simp] theorem setReg_clock {a w} : (s.setReg a w).clock = s.clock := rfl
@[simp] theorem setReg_power {a w} : (s.setReg a w).power = s.power := rfl
@[simp] theorem setReg_start {a w} : (s.setReg a w).start = s.start := rfl
@[simp] theorem setReg_totals {a w} : (s.setReg a w).totals = s.totals := rfl
@[simp] theorem setReg_images {a w} : (s.setReg a w).images = s.images := rfl
@[simp] theorem setReg_staging {a w} : (s.setReg a w).staging = s.staging := rfl
@[simp] theorem setReg_unsaved {a w} : (s.setReg a w).unsaved = s.unsaved := rfl
@[simp] theorem setReg_node {a w} : (s.setReg a w).node = s.node := rfl
@[simp] theorem setReg_restoreDue {a w} : (s.setReg a w).restoreDue = s.restoreDue := rfl
@[simp] theorem setReg_field {a w} : (s.setReg a w).field = s.field := rfl
@[simp] theorem setReg_gates {a w} : (s.setReg a w).gates = s.gates := rfl
@[simp] theorem setReg_posted {a w} : (s.setReg a w).posted = s.posted := rfl
@[simp] theorem setReg_tbRate {a w} : (s.setReg a w).tbRate = s.tbRate := rfl
@[simp] theorem setReg_records {a w} : (s.setReg a w).records = s.records := rfl

/-! `put`. -/

@[simp] theorem put_mem {f v} : (s.put f v).mem = s.mem := rfl
@[simp] theorem put_latches {f v} : (s.put f v).latches = s.latches := rfl
@[simp] theorem put_pending {f v} : (s.put f v).pending = s.pending := rfl
@[simp] theorem put_freeCount {f v} : (s.put f v).freeCount = s.freeCount := rfl
@[simp] theorem put_events {f v} : (s.put f v).events = s.events := rfl
@[simp] theorem put_mesh {f v} : (s.put f v).mesh = s.mesh := rfl
@[simp] theorem put_once {f v} : (s.put f v).once = s.once := rfl
@[simp] theorem put_deliveryOpen {f v} : (s.put f v).deliveryOpen = s.deliveryOpen := rfl
@[simp] theorem put_launched {f v} : (s.put f v).launched = s.launched := rfl
@[simp] theorem put_scanRegs {f v} : (s.put f v).scanRegs = s.scanRegs := rfl
@[simp] theorem put_objs {f v} : (s.put f v).objs = s.objs := rfl
@[simp] theorem put_fault {f v} : (s.put f v).fault = s.fault := rfl
@[simp] theorem put_loadStep {f v} : (s.put f v).loadStep = s.loadStep := rfl
@[simp] theorem put_clearing {f v} : (s.put f v).clearing = s.clearing := rfl
@[simp] theorem put_creditDue {f v} : (s.put f v).creditDue = s.creditDue := rfl
@[simp] theorem put_oooSeen {f v} : (s.put f v).oooSeen = s.oooSeen := rfl
@[simp] theorem put_delivery {f v} : (s.put f v).delivery = s.delivery := rfl
@[simp] theorem put_streams {f v} : (s.put f v).streams = s.streams := rfl
@[simp] theorem put_memories {f v} : (s.put f v).memories = s.memories := rfl
@[simp] theorem put_progress {f v} : (s.put f v).progress = s.progress := rfl
@[simp] theorem put_hub {f v} : (s.put f v).hub = s.hub := rfl
@[simp] theorem put_sent {f v} : (s.put f v).sent = s.sent := rfl
@[simp] theorem put_answer {f v} : (s.put f v).answer = s.answer := rfl
@[simp] theorem put_wakes {f v} : (s.put f v).wakes = s.wakes := rfl
@[simp] theorem put_can {f v} : (s.put f v).can = s.can := rfl
@[simp] theorem put_canMode {f v} : (s.put f v).canMode = s.canMode := rfl
@[simp] theorem put_canStandby {f v} : (s.put f v).canStandby = s.canStandby := rfl
@[simp] theorem put_nmt {f v} : (s.put f v).nmt = s.nmt := rfl
@[simp] theorem put_guard {f v} : (s.put f v).guard = s.guard := rfl
@[simp] theorem put_sec {f v} : (s.put f v).sec = s.sec := rfl
@[simp] theorem put_selectors {f v} : (s.put f v).selectors = s.selectors := rfl
@[simp] theorem put_calendar {f v} : (s.put f v).calendar = s.calendar := rfl
@[simp] theorem put_emcy {f v} : (s.put f v).emcy = s.emcy := rfl
@[simp] theorem put_fw {f v} : (s.put f v).fw = s.fw := rfl
@[simp] theorem put_chkWait {f v} : (s.put f v).chkWait = s.chkWait := rfl
@[simp] theorem put_timers {f v} : (s.put f v).timers = s.timers := rfl
@[simp] theorem put_hang {f v} : (s.put f v).hang = s.hang := rfl
@[simp] theorem put_jtag {f v} : (s.put f v).jtag = s.jtag := rfl
@[simp] theorem put_accesses {f v} : (s.put f v).accesses = s.accesses := rfl
@[simp] theorem put_tlk {f v} : (s.put f v).tlk = s.tlk := rfl
@[simp] theorem put_tlkIn {f v} : (s.put f v).tlkIn = s.tlkIn := rfl
@[simp] theorem put_clock {f v} : (s.put f v).clock = s.clock := rfl
@[simp] theorem put_power {f v} : (s.put f v).power = s.power := rfl
@[simp] theorem put_start {f v} : (s.put f v).start = s.start := rfl
@[simp] theorem put_totals {f v} : (s.put f v).totals = s.totals := rfl
@[simp] theorem put_images {f v} : (s.put f v).images = s.images := rfl
@[simp] theorem put_staging {f v} : (s.put f v).staging = s.staging := rfl
@[simp] theorem put_unsaved {f v} : (s.put f v).unsaved = s.unsaved := rfl
@[simp] theorem put_node {f v} : (s.put f v).node = s.node := rfl
@[simp] theorem put_restoreDue {f v} : (s.put f v).restoreDue = s.restoreDue := rfl
@[simp] theorem put_field {f v} : (s.put f v).field = s.field := rfl
@[simp] theorem put_gates {f v} : (s.put f v).gates = s.gates := rfl
@[simp] theorem put_posted {f v} : (s.put f v).posted = s.posted := rfl
@[simp] theorem put_tbRate {f v} : (s.put f v).tbRate = s.tbRate := rfl
@[simp] theorem put_records {f v} : (s.put f v).records = s.records := rfl

/-! `put64`. -/

@[simp] theorem put64_mem {a v} : (s.put64 a v).mem = s.mem := rfl
@[simp] theorem put64_latches {a v} : (s.put64 a v).latches = s.latches := rfl
@[simp] theorem put64_pending {a v} : (s.put64 a v).pending = s.pending := rfl
@[simp] theorem put64_freeCount {a v} : (s.put64 a v).freeCount = s.freeCount := rfl
@[simp] theorem put64_events {a v} : (s.put64 a v).events = s.events := rfl
@[simp] theorem put64_mesh {a v} : (s.put64 a v).mesh = s.mesh := rfl
@[simp] theorem put64_once {a v} : (s.put64 a v).once = s.once := rfl
@[simp] theorem put64_deliveryOpen {a v} : (s.put64 a v).deliveryOpen = s.deliveryOpen := rfl
@[simp] theorem put64_launched {a v} : (s.put64 a v).launched = s.launched := rfl
@[simp] theorem put64_scanRegs {a v} : (s.put64 a v).scanRegs = s.scanRegs := rfl
@[simp] theorem put64_objs {a v} : (s.put64 a v).objs = s.objs := rfl
@[simp] theorem put64_fault {a v} : (s.put64 a v).fault = s.fault := rfl
@[simp] theorem put64_loadStep {a v} : (s.put64 a v).loadStep = s.loadStep := rfl
@[simp] theorem put64_clearing {a v} : (s.put64 a v).clearing = s.clearing := rfl
@[simp] theorem put64_creditDue {a v} : (s.put64 a v).creditDue = s.creditDue := rfl
@[simp] theorem put64_oooSeen {a v} : (s.put64 a v).oooSeen = s.oooSeen := rfl
@[simp] theorem put64_delivery {a v} : (s.put64 a v).delivery = s.delivery := rfl
@[simp] theorem put64_streams {a v} : (s.put64 a v).streams = s.streams := rfl
@[simp] theorem put64_memories {a v} : (s.put64 a v).memories = s.memories := rfl
@[simp] theorem put64_progress {a v} : (s.put64 a v).progress = s.progress := rfl
@[simp] theorem put64_hub {a v} : (s.put64 a v).hub = s.hub := rfl
@[simp] theorem put64_sent {a v} : (s.put64 a v).sent = s.sent := rfl
@[simp] theorem put64_answer {a v} : (s.put64 a v).answer = s.answer := rfl
@[simp] theorem put64_wakes {a v} : (s.put64 a v).wakes = s.wakes := rfl
@[simp] theorem put64_can {a v} : (s.put64 a v).can = s.can := rfl
@[simp] theorem put64_canMode {a v} : (s.put64 a v).canMode = s.canMode := rfl
@[simp] theorem put64_canStandby {a v} : (s.put64 a v).canStandby = s.canStandby := rfl
@[simp] theorem put64_nmt {a v} : (s.put64 a v).nmt = s.nmt := rfl
@[simp] theorem put64_guard {a v} : (s.put64 a v).guard = s.guard := rfl
@[simp] theorem put64_sec {a v} : (s.put64 a v).sec = s.sec := rfl
@[simp] theorem put64_selectors {a v} : (s.put64 a v).selectors = s.selectors := rfl
@[simp] theorem put64_calendar {a v} : (s.put64 a v).calendar = s.calendar := rfl
@[simp] theorem put64_emcy {a v} : (s.put64 a v).emcy = s.emcy := rfl
@[simp] theorem put64_fw {a v} : (s.put64 a v).fw = s.fw := rfl
@[simp] theorem put64_chkWait {a v} : (s.put64 a v).chkWait = s.chkWait := rfl
@[simp] theorem put64_timers {a v} : (s.put64 a v).timers = s.timers := rfl
@[simp] theorem put64_hang {a v} : (s.put64 a v).hang = s.hang := rfl
@[simp] theorem put64_jtag {a v} : (s.put64 a v).jtag = s.jtag := rfl
@[simp] theorem put64_accesses {a v} : (s.put64 a v).accesses = s.accesses := rfl
@[simp] theorem put64_tlk {a v} : (s.put64 a v).tlk = s.tlk := rfl
@[simp] theorem put64_tlkIn {a v} : (s.put64 a v).tlkIn = s.tlkIn := rfl
@[simp] theorem put64_clock {a v} : (s.put64 a v).clock = s.clock := rfl
@[simp] theorem put64_power {a v} : (s.put64 a v).power = s.power := rfl
@[simp] theorem put64_start {a v} : (s.put64 a v).start = s.start := rfl
@[simp] theorem put64_totals {a v} : (s.put64 a v).totals = s.totals := rfl
@[simp] theorem put64_images {a v} : (s.put64 a v).images = s.images := rfl
@[simp] theorem put64_staging {a v} : (s.put64 a v).staging = s.staging := rfl
@[simp] theorem put64_unsaved {a v} : (s.put64 a v).unsaved = s.unsaved := rfl
@[simp] theorem put64_node {a v} : (s.put64 a v).node = s.node := rfl
@[simp] theorem put64_restoreDue {a v} : (s.put64 a v).restoreDue = s.restoreDue := rfl
@[simp] theorem put64_field {a v} : (s.put64 a v).field = s.field := rfl
@[simp] theorem put64_gates {a v} : (s.put64 a v).gates = s.gates := rfl
@[simp] theorem put64_posted {a v} : (s.put64 a v).posted = s.posted := rfl
@[simp] theorem put64_tbRate {a v} : (s.put64 a v).tbRate = s.tbRate := rfl
@[simp] theorem put64_records {a v} : (s.put64 a v).records = s.records := rfl

/-! `add64`. -/

@[simp] theorem add64_mem {a n} : (s.add64 a n).mem = s.mem := rfl
@[simp] theorem add64_latches {a n} : (s.add64 a n).latches = s.latches := rfl
@[simp] theorem add64_pending {a n} : (s.add64 a n).pending = s.pending := rfl
@[simp] theorem add64_freeCount {a n} : (s.add64 a n).freeCount = s.freeCount := rfl
@[simp] theorem add64_events {a n} : (s.add64 a n).events = s.events := rfl
@[simp] theorem add64_mesh {a n} : (s.add64 a n).mesh = s.mesh := rfl
@[simp] theorem add64_once {a n} : (s.add64 a n).once = s.once := rfl
@[simp] theorem add64_deliveryOpen {a n} : (s.add64 a n).deliveryOpen = s.deliveryOpen := rfl
@[simp] theorem add64_launched {a n} : (s.add64 a n).launched = s.launched := rfl
@[simp] theorem add64_scanRegs {a n} : (s.add64 a n).scanRegs = s.scanRegs := rfl
@[simp] theorem add64_objs {a n} : (s.add64 a n).objs = s.objs := rfl
@[simp] theorem add64_fault {a n} : (s.add64 a n).fault = s.fault := rfl
@[simp] theorem add64_loadStep {a n} : (s.add64 a n).loadStep = s.loadStep := rfl
@[simp] theorem add64_clearing {a n} : (s.add64 a n).clearing = s.clearing := rfl
@[simp] theorem add64_creditDue {a n} : (s.add64 a n).creditDue = s.creditDue := rfl
@[simp] theorem add64_oooSeen {a n} : (s.add64 a n).oooSeen = s.oooSeen := rfl
@[simp] theorem add64_delivery {a n} : (s.add64 a n).delivery = s.delivery := rfl
@[simp] theorem add64_streams {a n} : (s.add64 a n).streams = s.streams := rfl
@[simp] theorem add64_memories {a n} : (s.add64 a n).memories = s.memories := rfl
@[simp] theorem add64_progress {a n} : (s.add64 a n).progress = s.progress := rfl
@[simp] theorem add64_hub {a n} : (s.add64 a n).hub = s.hub := rfl
@[simp] theorem add64_sent {a n} : (s.add64 a n).sent = s.sent := rfl
@[simp] theorem add64_answer {a n} : (s.add64 a n).answer = s.answer := rfl
@[simp] theorem add64_wakes {a n} : (s.add64 a n).wakes = s.wakes := rfl
@[simp] theorem add64_can {a n} : (s.add64 a n).can = s.can := rfl
@[simp] theorem add64_canMode {a n} : (s.add64 a n).canMode = s.canMode := rfl
@[simp] theorem add64_canStandby {a n} : (s.add64 a n).canStandby = s.canStandby := rfl
@[simp] theorem add64_nmt {a n} : (s.add64 a n).nmt = s.nmt := rfl
@[simp] theorem add64_guard {a n} : (s.add64 a n).guard = s.guard := rfl
@[simp] theorem add64_sec {a n} : (s.add64 a n).sec = s.sec := rfl
@[simp] theorem add64_selectors {a n} : (s.add64 a n).selectors = s.selectors := rfl
@[simp] theorem add64_calendar {a n} : (s.add64 a n).calendar = s.calendar := rfl
@[simp] theorem add64_emcy {a n} : (s.add64 a n).emcy = s.emcy := rfl
@[simp] theorem add64_fw {a n} : (s.add64 a n).fw = s.fw := rfl
@[simp] theorem add64_chkWait {a n} : (s.add64 a n).chkWait = s.chkWait := rfl
@[simp] theorem add64_timers {a n} : (s.add64 a n).timers = s.timers := rfl
@[simp] theorem add64_hang {a n} : (s.add64 a n).hang = s.hang := rfl
@[simp] theorem add64_jtag {a n} : (s.add64 a n).jtag = s.jtag := rfl
@[simp] theorem add64_accesses {a n} : (s.add64 a n).accesses = s.accesses := rfl
@[simp] theorem add64_tlk {a n} : (s.add64 a n).tlk = s.tlk := rfl
@[simp] theorem add64_tlkIn {a n} : (s.add64 a n).tlkIn = s.tlkIn := rfl
@[simp] theorem add64_clock {a n} : (s.add64 a n).clock = s.clock := rfl
@[simp] theorem add64_power {a n} : (s.add64 a n).power = s.power := rfl
@[simp] theorem add64_start {a n} : (s.add64 a n).start = s.start := rfl
@[simp] theorem add64_totals {a n} : (s.add64 a n).totals = s.totals := rfl
@[simp] theorem add64_images {a n} : (s.add64 a n).images = s.images := rfl
@[simp] theorem add64_staging {a n} : (s.add64 a n).staging = s.staging := rfl
@[simp] theorem add64_unsaved {a n} : (s.add64 a n).unsaved = s.unsaved := rfl
@[simp] theorem add64_node {a n} : (s.add64 a n).node = s.node := rfl
@[simp] theorem add64_restoreDue {a n} : (s.add64 a n).restoreDue = s.restoreDue := rfl
@[simp] theorem add64_field {a n} : (s.add64 a n).field = s.field := rfl
@[simp] theorem add64_gates {a n} : (s.add64 a n).gates = s.gates := rfl
@[simp] theorem add64_posted {a n} : (s.add64 a n).posted = s.posted := rfl
@[simp] theorem add64_tbRate {a n} : (s.add64 a n).tbRate = s.tbRate := rfl
@[simp] theorem add64_records {a n} : (s.add64 a n).records = s.records := rfl

/-! `count`. -/

@[simp] theorem count_mem {f n} : (s.count f n).mem = s.mem := rfl
@[simp] theorem count_latches {f n} : (s.count f n).latches = s.latches := rfl
@[simp] theorem count_pending {f n} : (s.count f n).pending = s.pending := rfl
@[simp] theorem count_freeCount {f n} : (s.count f n).freeCount = s.freeCount := rfl
@[simp] theorem count_events {f n} : (s.count f n).events = s.events := rfl
@[simp] theorem count_mesh {f n} : (s.count f n).mesh = s.mesh := rfl
@[simp] theorem count_once {f n} : (s.count f n).once = s.once := rfl
@[simp] theorem count_deliveryOpen {f n} : (s.count f n).deliveryOpen = s.deliveryOpen := rfl
@[simp] theorem count_launched {f n} : (s.count f n).launched = s.launched := rfl
@[simp] theorem count_scanRegs {f n} : (s.count f n).scanRegs = s.scanRegs := rfl
@[simp] theorem count_objs {f n} : (s.count f n).objs = s.objs := rfl
@[simp] theorem count_fault {f n} : (s.count f n).fault = s.fault := rfl
@[simp] theorem count_loadStep {f n} : (s.count f n).loadStep = s.loadStep := rfl
@[simp] theorem count_clearing {f n} : (s.count f n).clearing = s.clearing := rfl
@[simp] theorem count_creditDue {f n} : (s.count f n).creditDue = s.creditDue := rfl
@[simp] theorem count_oooSeen {f n} : (s.count f n).oooSeen = s.oooSeen := rfl
@[simp] theorem count_delivery {f n} : (s.count f n).delivery = s.delivery := rfl
@[simp] theorem count_streams {f n} : (s.count f n).streams = s.streams := rfl
@[simp] theorem count_memories {f n} : (s.count f n).memories = s.memories := rfl
@[simp] theorem count_progress {f n} : (s.count f n).progress = s.progress := rfl
@[simp] theorem count_hub {f n} : (s.count f n).hub = s.hub := rfl
@[simp] theorem count_sent {f n} : (s.count f n).sent = s.sent := rfl
@[simp] theorem count_answer {f n} : (s.count f n).answer = s.answer := rfl
@[simp] theorem count_wakes {f n} : (s.count f n).wakes = s.wakes := rfl
@[simp] theorem count_can {f n} : (s.count f n).can = s.can := rfl
@[simp] theorem count_canMode {f n} : (s.count f n).canMode = s.canMode := rfl
@[simp] theorem count_canStandby {f n} : (s.count f n).canStandby = s.canStandby := rfl
@[simp] theorem count_nmt {f n} : (s.count f n).nmt = s.nmt := rfl
@[simp] theorem count_guard {f n} : (s.count f n).guard = s.guard := rfl
@[simp] theorem count_sec {f n} : (s.count f n).sec = s.sec := rfl
@[simp] theorem count_selectors {f n} : (s.count f n).selectors = s.selectors := rfl
@[simp] theorem count_calendar {f n} : (s.count f n).calendar = s.calendar := rfl
@[simp] theorem count_emcy {f n} : (s.count f n).emcy = s.emcy := rfl
@[simp] theorem count_fw {f n} : (s.count f n).fw = s.fw := rfl
@[simp] theorem count_chkWait {f n} : (s.count f n).chkWait = s.chkWait := rfl
@[simp] theorem count_timers {f n} : (s.count f n).timers = s.timers := rfl
@[simp] theorem count_hang {f n} : (s.count f n).hang = s.hang := rfl
@[simp] theorem count_jtag {f n} : (s.count f n).jtag = s.jtag := rfl
@[simp] theorem count_accesses {f n} : (s.count f n).accesses = s.accesses := rfl
@[simp] theorem count_tlk {f n} : (s.count f n).tlk = s.tlk := rfl
@[simp] theorem count_tlkIn {f n} : (s.count f n).tlkIn = s.tlkIn := rfl
@[simp] theorem count_clock {f n} : (s.count f n).clock = s.clock := rfl
@[simp] theorem count_power {f n} : (s.count f n).power = s.power := rfl
@[simp] theorem count_start {f n} : (s.count f n).start = s.start := rfl
@[simp] theorem count_totals {f n} : (s.count f n).totals = s.totals := rfl
@[simp] theorem count_images {f n} : (s.count f n).images = s.images := rfl
@[simp] theorem count_staging {f n} : (s.count f n).staging = s.staging := rfl
@[simp] theorem count_unsaved {f n} : (s.count f n).unsaved = s.unsaved := rfl
@[simp] theorem count_node {f n} : (s.count f n).node = s.node := rfl
@[simp] theorem count_restoreDue {f n} : (s.count f n).restoreDue = s.restoreDue := rfl
@[simp] theorem count_field {f n} : (s.count f n).field = s.field := rfl
@[simp] theorem count_gates {f n} : (s.count f n).gates = s.gates := rfl
@[simp] theorem count_posted {f n} : (s.count f n).posted = s.posted := rfl
@[simp] theorem count_tbRate {f n} : (s.count f n).tbRate = s.tbRate := rfl
@[simp] theorem count_records {f n} : (s.count f n).records = s.records := rfl

/-! `raiseTo`. -/

@[simp] theorem raiseTo_mem {f v} : (s.raiseTo f v).mem = s.mem := rfl
@[simp] theorem raiseTo_latches {f v} : (s.raiseTo f v).latches = s.latches := rfl
@[simp] theorem raiseTo_pending {f v} : (s.raiseTo f v).pending = s.pending := rfl
@[simp] theorem raiseTo_freeCount {f v} : (s.raiseTo f v).freeCount = s.freeCount := rfl
@[simp] theorem raiseTo_events {f v} : (s.raiseTo f v).events = s.events := rfl
@[simp] theorem raiseTo_mesh {f v} : (s.raiseTo f v).mesh = s.mesh := rfl
@[simp] theorem raiseTo_once {f v} : (s.raiseTo f v).once = s.once := rfl
@[simp] theorem raiseTo_deliveryOpen {f v} : (s.raiseTo f v).deliveryOpen = s.deliveryOpen := rfl
@[simp] theorem raiseTo_launched {f v} : (s.raiseTo f v).launched = s.launched := rfl
@[simp] theorem raiseTo_scanRegs {f v} : (s.raiseTo f v).scanRegs = s.scanRegs := rfl
@[simp] theorem raiseTo_objs {f v} : (s.raiseTo f v).objs = s.objs := rfl
@[simp] theorem raiseTo_fault {f v} : (s.raiseTo f v).fault = s.fault := rfl
@[simp] theorem raiseTo_loadStep {f v} : (s.raiseTo f v).loadStep = s.loadStep := rfl
@[simp] theorem raiseTo_clearing {f v} : (s.raiseTo f v).clearing = s.clearing := rfl
@[simp] theorem raiseTo_creditDue {f v} : (s.raiseTo f v).creditDue = s.creditDue := rfl
@[simp] theorem raiseTo_oooSeen {f v} : (s.raiseTo f v).oooSeen = s.oooSeen := rfl
@[simp] theorem raiseTo_delivery {f v} : (s.raiseTo f v).delivery = s.delivery := rfl
@[simp] theorem raiseTo_streams {f v} : (s.raiseTo f v).streams = s.streams := rfl
@[simp] theorem raiseTo_memories {f v} : (s.raiseTo f v).memories = s.memories := rfl
@[simp] theorem raiseTo_progress {f v} : (s.raiseTo f v).progress = s.progress := rfl
@[simp] theorem raiseTo_hub {f v} : (s.raiseTo f v).hub = s.hub := rfl
@[simp] theorem raiseTo_sent {f v} : (s.raiseTo f v).sent = s.sent := rfl
@[simp] theorem raiseTo_answer {f v} : (s.raiseTo f v).answer = s.answer := rfl
@[simp] theorem raiseTo_wakes {f v} : (s.raiseTo f v).wakes = s.wakes := rfl
@[simp] theorem raiseTo_can {f v} : (s.raiseTo f v).can = s.can := rfl
@[simp] theorem raiseTo_canMode {f v} : (s.raiseTo f v).canMode = s.canMode := rfl
@[simp] theorem raiseTo_canStandby {f v} : (s.raiseTo f v).canStandby = s.canStandby := rfl
@[simp] theorem raiseTo_nmt {f v} : (s.raiseTo f v).nmt = s.nmt := rfl
@[simp] theorem raiseTo_guard {f v} : (s.raiseTo f v).guard = s.guard := rfl
@[simp] theorem raiseTo_sec {f v} : (s.raiseTo f v).sec = s.sec := rfl
@[simp] theorem raiseTo_selectors {f v} : (s.raiseTo f v).selectors = s.selectors := rfl
@[simp] theorem raiseTo_calendar {f v} : (s.raiseTo f v).calendar = s.calendar := rfl
@[simp] theorem raiseTo_emcy {f v} : (s.raiseTo f v).emcy = s.emcy := rfl
@[simp] theorem raiseTo_fw {f v} : (s.raiseTo f v).fw = s.fw := rfl
@[simp] theorem raiseTo_chkWait {f v} : (s.raiseTo f v).chkWait = s.chkWait := rfl
@[simp] theorem raiseTo_timers {f v} : (s.raiseTo f v).timers = s.timers := rfl
@[simp] theorem raiseTo_hang {f v} : (s.raiseTo f v).hang = s.hang := rfl
@[simp] theorem raiseTo_jtag {f v} : (s.raiseTo f v).jtag = s.jtag := rfl
@[simp] theorem raiseTo_accesses {f v} : (s.raiseTo f v).accesses = s.accesses := rfl
@[simp] theorem raiseTo_tlk {f v} : (s.raiseTo f v).tlk = s.tlk := rfl
@[simp] theorem raiseTo_tlkIn {f v} : (s.raiseTo f v).tlkIn = s.tlkIn := rfl
@[simp] theorem raiseTo_clock {f v} : (s.raiseTo f v).clock = s.clock := rfl
@[simp] theorem raiseTo_power {f v} : (s.raiseTo f v).power = s.power := rfl
@[simp] theorem raiseTo_start {f v} : (s.raiseTo f v).start = s.start := rfl
@[simp] theorem raiseTo_totals {f v} : (s.raiseTo f v).totals = s.totals := rfl
@[simp] theorem raiseTo_images {f v} : (s.raiseTo f v).images = s.images := rfl
@[simp] theorem raiseTo_staging {f v} : (s.raiseTo f v).staging = s.staging := rfl
@[simp] theorem raiseTo_unsaved {f v} : (s.raiseTo f v).unsaved = s.unsaved := rfl
@[simp] theorem raiseTo_node {f v} : (s.raiseTo f v).node = s.node := rfl
@[simp] theorem raiseTo_restoreDue {f v} : (s.raiseTo f v).restoreDue = s.restoreDue := rfl
@[simp] theorem raiseTo_field {f v} : (s.raiseTo f v).field = s.field := rfl
@[simp] theorem raiseTo_gates {f v} : (s.raiseTo f v).gates = s.gates := rfl
@[simp] theorem raiseTo_posted {f v} : (s.raiseTo f v).posted = s.posted := rfl
@[simp] theorem raiseTo_tbRate {f v} : (s.raiseTo f v).tbRate = s.tbRate := rfl
@[simp] theorem raiseTo_records {f v} : (s.raiseTo f v).records = s.records := rfl

/-! `raw8`. -/

@[simp] theorem raw8_regs {a b} : (s.raw8 a b).regs = s.regs := rfl
@[simp] theorem raw8_latches {a b} : (s.raw8 a b).latches = s.latches := rfl
@[simp] theorem raw8_pending {a b} : (s.raw8 a b).pending = s.pending := rfl
@[simp] theorem raw8_freeCount {a b} : (s.raw8 a b).freeCount = s.freeCount := rfl
@[simp] theorem raw8_events {a b} : (s.raw8 a b).events = s.events := rfl
@[simp] theorem raw8_mesh {a b} : (s.raw8 a b).mesh = s.mesh := rfl
@[simp] theorem raw8_once {a b} : (s.raw8 a b).once = s.once := rfl
@[simp] theorem raw8_deliveryOpen {a b} : (s.raw8 a b).deliveryOpen = s.deliveryOpen := rfl
@[simp] theorem raw8_launched {a b} : (s.raw8 a b).launched = s.launched := rfl
@[simp] theorem raw8_scanRegs {a b} : (s.raw8 a b).scanRegs = s.scanRegs := rfl
@[simp] theorem raw8_objs {a b} : (s.raw8 a b).objs = s.objs := rfl
@[simp] theorem raw8_fault {a b} : (s.raw8 a b).fault = s.fault := rfl
@[simp] theorem raw8_loadStep {a b} : (s.raw8 a b).loadStep = s.loadStep := rfl
@[simp] theorem raw8_clearing {a b} : (s.raw8 a b).clearing = s.clearing := rfl
@[simp] theorem raw8_creditDue {a b} : (s.raw8 a b).creditDue = s.creditDue := rfl
@[simp] theorem raw8_oooSeen {a b} : (s.raw8 a b).oooSeen = s.oooSeen := rfl
@[simp] theorem raw8_delivery {a b} : (s.raw8 a b).delivery = s.delivery := rfl
@[simp] theorem raw8_streams {a b} : (s.raw8 a b).streams = s.streams := rfl
@[simp] theorem raw8_memories {a b} : (s.raw8 a b).memories = s.memories := rfl
@[simp] theorem raw8_progress {a b} : (s.raw8 a b).progress = s.progress := rfl
@[simp] theorem raw8_hub {a b} : (s.raw8 a b).hub = s.hub := rfl
@[simp] theorem raw8_sent {a b} : (s.raw8 a b).sent = s.sent := rfl
@[simp] theorem raw8_answer {a b} : (s.raw8 a b).answer = s.answer := rfl
@[simp] theorem raw8_wakes {a b} : (s.raw8 a b).wakes = s.wakes := rfl
@[simp] theorem raw8_can {a b} : (s.raw8 a b).can = s.can := rfl
@[simp] theorem raw8_canMode {a b} : (s.raw8 a b).canMode = s.canMode := rfl
@[simp] theorem raw8_canStandby {a b} : (s.raw8 a b).canStandby = s.canStandby := rfl
@[simp] theorem raw8_nmt {a b} : (s.raw8 a b).nmt = s.nmt := rfl
@[simp] theorem raw8_guard {a b} : (s.raw8 a b).guard = s.guard := rfl
@[simp] theorem raw8_sec {a b} : (s.raw8 a b).sec = s.sec := rfl
@[simp] theorem raw8_selectors {a b} : (s.raw8 a b).selectors = s.selectors := rfl
@[simp] theorem raw8_calendar {a b} : (s.raw8 a b).calendar = s.calendar := rfl
@[simp] theorem raw8_emcy {a b} : (s.raw8 a b).emcy = s.emcy := rfl
@[simp] theorem raw8_fw {a b} : (s.raw8 a b).fw = s.fw := rfl
@[simp] theorem raw8_chkWait {a b} : (s.raw8 a b).chkWait = s.chkWait := rfl
@[simp] theorem raw8_timers {a b} : (s.raw8 a b).timers = s.timers := rfl
@[simp] theorem raw8_hang {a b} : (s.raw8 a b).hang = s.hang := rfl
@[simp] theorem raw8_jtag {a b} : (s.raw8 a b).jtag = s.jtag := rfl
@[simp] theorem raw8_accesses {a b} : (s.raw8 a b).accesses = s.accesses := rfl
@[simp] theorem raw8_tlk {a b} : (s.raw8 a b).tlk = s.tlk := rfl
@[simp] theorem raw8_tlkIn {a b} : (s.raw8 a b).tlkIn = s.tlkIn := rfl
@[simp] theorem raw8_clock {a b} : (s.raw8 a b).clock = s.clock := rfl
@[simp] theorem raw8_power {a b} : (s.raw8 a b).power = s.power := rfl
@[simp] theorem raw8_start {a b} : (s.raw8 a b).start = s.start := rfl
@[simp] theorem raw8_totals {a b} : (s.raw8 a b).totals = s.totals := rfl
@[simp] theorem raw8_images {a b} : (s.raw8 a b).images = s.images := rfl
@[simp] theorem raw8_staging {a b} : (s.raw8 a b).staging = s.staging := rfl
@[simp] theorem raw8_unsaved {a b} : (s.raw8 a b).unsaved = s.unsaved := rfl
@[simp] theorem raw8_node {a b} : (s.raw8 a b).node = s.node := rfl
@[simp] theorem raw8_restoreDue {a b} : (s.raw8 a b).restoreDue = s.restoreDue := rfl
@[simp] theorem raw8_field {a b} : (s.raw8 a b).field = s.field := rfl
@[simp] theorem raw8_gates {a b} : (s.raw8 a b).gates = s.gates := rfl
@[simp] theorem raw8_posted {a b} : (s.raw8 a b).posted = s.posted := rfl
@[simp] theorem raw8_tbRate {a b} : (s.raw8 a b).tbRate = s.tbRate := rfl
@[simp] theorem raw8_records {a b} : (s.raw8 a b).records = s.records := rfl

/-! `useFree`. -/

@[simp] theorem useFree_regs : (s.useFree).regs = s.regs := rfl
@[simp] theorem useFree_mem : (s.useFree).mem = s.mem := rfl
@[simp] theorem useFree_latches : (s.useFree).latches = s.latches := rfl
@[simp] theorem useFree_pending : (s.useFree).pending = s.pending := rfl
@[simp] theorem useFree_events : (s.useFree).events = s.events := rfl
@[simp] theorem useFree_mesh : (s.useFree).mesh = s.mesh := rfl
@[simp] theorem useFree_once : (s.useFree).once = s.once := rfl
@[simp] theorem useFree_deliveryOpen : (s.useFree).deliveryOpen = s.deliveryOpen := rfl
@[simp] theorem useFree_launched : (s.useFree).launched = s.launched := rfl
@[simp] theorem useFree_scanRegs : (s.useFree).scanRegs = s.scanRegs := rfl
@[simp] theorem useFree_objs : (s.useFree).objs = s.objs := rfl
@[simp] theorem useFree_fault : (s.useFree).fault = s.fault := rfl
@[simp] theorem useFree_loadStep : (s.useFree).loadStep = s.loadStep := rfl
@[simp] theorem useFree_clearing : (s.useFree).clearing = s.clearing := rfl
@[simp] theorem useFree_creditDue : (s.useFree).creditDue = s.creditDue := rfl
@[simp] theorem useFree_oooSeen : (s.useFree).oooSeen = s.oooSeen := rfl
@[simp] theorem useFree_delivery : (s.useFree).delivery = s.delivery := rfl
@[simp] theorem useFree_streams : (s.useFree).streams = s.streams := rfl
@[simp] theorem useFree_memories : (s.useFree).memories = s.memories := rfl
@[simp] theorem useFree_progress : (s.useFree).progress = s.progress := rfl
@[simp] theorem useFree_hub : (s.useFree).hub = s.hub := rfl
@[simp] theorem useFree_sent : (s.useFree).sent = s.sent := rfl
@[simp] theorem useFree_answer : (s.useFree).answer = s.answer := rfl
@[simp] theorem useFree_wakes : (s.useFree).wakes = s.wakes := rfl
@[simp] theorem useFree_can : (s.useFree).can = s.can := rfl
@[simp] theorem useFree_canMode : (s.useFree).canMode = s.canMode := rfl
@[simp] theorem useFree_canStandby : (s.useFree).canStandby = s.canStandby := rfl
@[simp] theorem useFree_nmt : (s.useFree).nmt = s.nmt := rfl
@[simp] theorem useFree_guard : (s.useFree).guard = s.guard := rfl
@[simp] theorem useFree_sec : (s.useFree).sec = s.sec := rfl
@[simp] theorem useFree_selectors : (s.useFree).selectors = s.selectors := rfl
@[simp] theorem useFree_calendar : (s.useFree).calendar = s.calendar := rfl
@[simp] theorem useFree_emcy : (s.useFree).emcy = s.emcy := rfl
@[simp] theorem useFree_fw : (s.useFree).fw = s.fw := rfl
@[simp] theorem useFree_chkWait : (s.useFree).chkWait = s.chkWait := rfl
@[simp] theorem useFree_timers : (s.useFree).timers = s.timers := rfl
@[simp] theorem useFree_hang : (s.useFree).hang = s.hang := rfl
@[simp] theorem useFree_jtag : (s.useFree).jtag = s.jtag := rfl
@[simp] theorem useFree_accesses : (s.useFree).accesses = s.accesses := rfl
@[simp] theorem useFree_tlk : (s.useFree).tlk = s.tlk := rfl
@[simp] theorem useFree_tlkIn : (s.useFree).tlkIn = s.tlkIn := rfl
@[simp] theorem useFree_clock : (s.useFree).clock = s.clock := rfl
@[simp] theorem useFree_power : (s.useFree).power = s.power := rfl
@[simp] theorem useFree_start : (s.useFree).start = s.start := rfl
@[simp] theorem useFree_totals : (s.useFree).totals = s.totals := rfl
@[simp] theorem useFree_images : (s.useFree).images = s.images := rfl
@[simp] theorem useFree_staging : (s.useFree).staging = s.staging := rfl
@[simp] theorem useFree_unsaved : (s.useFree).unsaved = s.unsaved := rfl
@[simp] theorem useFree_node : (s.useFree).node = s.node := rfl
@[simp] theorem useFree_restoreDue : (s.useFree).restoreDue = s.restoreDue := rfl
@[simp] theorem useFree_field : (s.useFree).field = s.field := rfl
@[simp] theorem useFree_gates : (s.useFree).gates = s.gates := rfl
@[simp] theorem useFree_posted : (s.useFree).posted = s.posted := rfl
@[simp] theorem useFree_tbRate : (s.useFree).tbRate = s.tbRate := rfl
@[simp] theorem useFree_records : (s.useFree).records = s.records := rfl

/-! `setObj`. -/

@[simp] theorem setObj_regs {i j v} : (s.setObj i j v).regs = s.regs := rfl
@[simp] theorem setObj_mem {i j v} : (s.setObj i j v).mem = s.mem := rfl
@[simp] theorem setObj_latches {i j v} : (s.setObj i j v).latches = s.latches := rfl
@[simp] theorem setObj_pending {i j v} : (s.setObj i j v).pending = s.pending := rfl
@[simp] theorem setObj_freeCount {i j v} : (s.setObj i j v).freeCount = s.freeCount := rfl
@[simp] theorem setObj_events {i j v} : (s.setObj i j v).events = s.events := rfl
@[simp] theorem setObj_mesh {i j v} : (s.setObj i j v).mesh = s.mesh := rfl
@[simp] theorem setObj_once {i j v} : (s.setObj i j v).once = s.once := rfl
@[simp] theorem setObj_deliveryOpen {i j v} : (s.setObj i j v).deliveryOpen = s.deliveryOpen := rfl
@[simp] theorem setObj_launched {i j v} : (s.setObj i j v).launched = s.launched := rfl
@[simp] theorem setObj_scanRegs {i j v} : (s.setObj i j v).scanRegs = s.scanRegs := rfl
@[simp] theorem setObj_fault {i j v} : (s.setObj i j v).fault = s.fault := rfl
@[simp] theorem setObj_loadStep {i j v} : (s.setObj i j v).loadStep = s.loadStep := rfl
@[simp] theorem setObj_clearing {i j v} : (s.setObj i j v).clearing = s.clearing := rfl
@[simp] theorem setObj_creditDue {i j v} : (s.setObj i j v).creditDue = s.creditDue := rfl
@[simp] theorem setObj_oooSeen {i j v} : (s.setObj i j v).oooSeen = s.oooSeen := rfl
@[simp] theorem setObj_delivery {i j v} : (s.setObj i j v).delivery = s.delivery := rfl
@[simp] theorem setObj_streams {i j v} : (s.setObj i j v).streams = s.streams := rfl
@[simp] theorem setObj_memories {i j v} : (s.setObj i j v).memories = s.memories := rfl
@[simp] theorem setObj_progress {i j v} : (s.setObj i j v).progress = s.progress := rfl
@[simp] theorem setObj_hub {i j v} : (s.setObj i j v).hub = s.hub := rfl
@[simp] theorem setObj_sent {i j v} : (s.setObj i j v).sent = s.sent := rfl
@[simp] theorem setObj_answer {i j v} : (s.setObj i j v).answer = s.answer := rfl
@[simp] theorem setObj_wakes {i j v} : (s.setObj i j v).wakes = s.wakes := rfl
@[simp] theorem setObj_can {i j v} : (s.setObj i j v).can = s.can := rfl
@[simp] theorem setObj_canMode {i j v} : (s.setObj i j v).canMode = s.canMode := rfl
@[simp] theorem setObj_canStandby {i j v} : (s.setObj i j v).canStandby = s.canStandby := rfl
@[simp] theorem setObj_nmt {i j v} : (s.setObj i j v).nmt = s.nmt := rfl
@[simp] theorem setObj_guard {i j v} : (s.setObj i j v).guard = s.guard := rfl
@[simp] theorem setObj_sec {i j v} : (s.setObj i j v).sec = s.sec := rfl
@[simp] theorem setObj_selectors {i j v} : (s.setObj i j v).selectors = s.selectors := rfl
@[simp] theorem setObj_calendar {i j v} : (s.setObj i j v).calendar = s.calendar := rfl
@[simp] theorem setObj_emcy {i j v} : (s.setObj i j v).emcy = s.emcy := rfl
@[simp] theorem setObj_fw {i j v} : (s.setObj i j v).fw = s.fw := rfl
@[simp] theorem setObj_chkWait {i j v} : (s.setObj i j v).chkWait = s.chkWait := rfl
@[simp] theorem setObj_timers {i j v} : (s.setObj i j v).timers = s.timers := rfl
@[simp] theorem setObj_hang {i j v} : (s.setObj i j v).hang = s.hang := rfl
@[simp] theorem setObj_jtag {i j v} : (s.setObj i j v).jtag = s.jtag := rfl
@[simp] theorem setObj_accesses {i j v} : (s.setObj i j v).accesses = s.accesses := rfl
@[simp] theorem setObj_tlk {i j v} : (s.setObj i j v).tlk = s.tlk := rfl
@[simp] theorem setObj_tlkIn {i j v} : (s.setObj i j v).tlkIn = s.tlkIn := rfl
@[simp] theorem setObj_clock {i j v} : (s.setObj i j v).clock = s.clock := rfl
@[simp] theorem setObj_power {i j v} : (s.setObj i j v).power = s.power := rfl
@[simp] theorem setObj_start {i j v} : (s.setObj i j v).start = s.start := rfl
@[simp] theorem setObj_totals {i j v} : (s.setObj i j v).totals = s.totals := rfl
@[simp] theorem setObj_images {i j v} : (s.setObj i j v).images = s.images := rfl
@[simp] theorem setObj_staging {i j v} : (s.setObj i j v).staging = s.staging := rfl
@[simp] theorem setObj_unsaved {i j v} : (s.setObj i j v).unsaved = s.unsaved := rfl
@[simp] theorem setObj_node {i j v} : (s.setObj i j v).node = s.node := rfl
@[simp] theorem setObj_restoreDue {i j v} : (s.setObj i j v).restoreDue = s.restoreDue := rfl
@[simp] theorem setObj_field {i j v} : (s.setObj i j v).field = s.field := rfl
@[simp] theorem setObj_gates {i j v} : (s.setObj i j v).gates = s.gates := rfl
@[simp] theorem setObj_posted {i j v} : (s.setObj i j v).posted = s.posted := rfl
@[simp] theorem setObj_tbRate {i j v} : (s.setObj i j v).tbRate = s.tbRate := rfl
@[simp] theorem setObj_records {i j v} : (s.setObj i j v).records = s.records := rfl

/-! `countObj`. -/

@[simp] theorem countObj_regs {w i j n} : (s.countObj w i j n).regs = s.regs := rfl
@[simp] theorem countObj_mem {w i j n} : (s.countObj w i j n).mem = s.mem := rfl
@[simp] theorem countObj_latches {w i j n} : (s.countObj w i j n).latches = s.latches := rfl
@[simp] theorem countObj_pending {w i j n} : (s.countObj w i j n).pending = s.pending := rfl
@[simp] theorem countObj_freeCount {w i j n} : (s.countObj w i j n).freeCount = s.freeCount := rfl
@[simp] theorem countObj_events {w i j n} : (s.countObj w i j n).events = s.events := rfl
@[simp] theorem countObj_mesh {w i j n} : (s.countObj w i j n).mesh = s.mesh := rfl
@[simp] theorem countObj_once {w i j n} : (s.countObj w i j n).once = s.once := rfl
@[simp] theorem countObj_deliveryOpen {w i j n} : (s.countObj w i j n).deliveryOpen = s.deliveryOpen := rfl
@[simp] theorem countObj_launched {w i j n} : (s.countObj w i j n).launched = s.launched := rfl
@[simp] theorem countObj_scanRegs {w i j n} : (s.countObj w i j n).scanRegs = s.scanRegs := rfl
@[simp] theorem countObj_fault {w i j n} : (s.countObj w i j n).fault = s.fault := rfl
@[simp] theorem countObj_loadStep {w i j n} : (s.countObj w i j n).loadStep = s.loadStep := rfl
@[simp] theorem countObj_clearing {w i j n} : (s.countObj w i j n).clearing = s.clearing := rfl
@[simp] theorem countObj_creditDue {w i j n} : (s.countObj w i j n).creditDue = s.creditDue := rfl
@[simp] theorem countObj_oooSeen {w i j n} : (s.countObj w i j n).oooSeen = s.oooSeen := rfl
@[simp] theorem countObj_delivery {w i j n} : (s.countObj w i j n).delivery = s.delivery := rfl
@[simp] theorem countObj_streams {w i j n} : (s.countObj w i j n).streams = s.streams := rfl
@[simp] theorem countObj_memories {w i j n} : (s.countObj w i j n).memories = s.memories := rfl
@[simp] theorem countObj_progress {w i j n} : (s.countObj w i j n).progress = s.progress := rfl
@[simp] theorem countObj_hub {w i j n} : (s.countObj w i j n).hub = s.hub := rfl
@[simp] theorem countObj_sent {w i j n} : (s.countObj w i j n).sent = s.sent := rfl
@[simp] theorem countObj_answer {w i j n} : (s.countObj w i j n).answer = s.answer := rfl
@[simp] theorem countObj_wakes {w i j n} : (s.countObj w i j n).wakes = s.wakes := rfl
@[simp] theorem countObj_can {w i j n} : (s.countObj w i j n).can = s.can := rfl
@[simp] theorem countObj_canMode {w i j n} : (s.countObj w i j n).canMode = s.canMode := rfl
@[simp] theorem countObj_canStandby {w i j n} : (s.countObj w i j n).canStandby = s.canStandby := rfl
@[simp] theorem countObj_nmt {w i j n} : (s.countObj w i j n).nmt = s.nmt := rfl
@[simp] theorem countObj_guard {w i j n} : (s.countObj w i j n).guard = s.guard := rfl
@[simp] theorem countObj_sec {w i j n} : (s.countObj w i j n).sec = s.sec := rfl
@[simp] theorem countObj_selectors {w i j n} : (s.countObj w i j n).selectors = s.selectors := rfl
@[simp] theorem countObj_calendar {w i j n} : (s.countObj w i j n).calendar = s.calendar := rfl
@[simp] theorem countObj_emcy {w i j n} : (s.countObj w i j n).emcy = s.emcy := rfl
@[simp] theorem countObj_fw {w i j n} : (s.countObj w i j n).fw = s.fw := rfl
@[simp] theorem countObj_chkWait {w i j n} : (s.countObj w i j n).chkWait = s.chkWait := rfl
@[simp] theorem countObj_timers {w i j n} : (s.countObj w i j n).timers = s.timers := rfl
@[simp] theorem countObj_hang {w i j n} : (s.countObj w i j n).hang = s.hang := rfl
@[simp] theorem countObj_jtag {w i j n} : (s.countObj w i j n).jtag = s.jtag := rfl
@[simp] theorem countObj_accesses {w i j n} : (s.countObj w i j n).accesses = s.accesses := rfl
@[simp] theorem countObj_tlk {w i j n} : (s.countObj w i j n).tlk = s.tlk := rfl
@[simp] theorem countObj_tlkIn {w i j n} : (s.countObj w i j n).tlkIn = s.tlkIn := rfl
@[simp] theorem countObj_clock {w i j n} : (s.countObj w i j n).clock = s.clock := rfl
@[simp] theorem countObj_power {w i j n} : (s.countObj w i j n).power = s.power := rfl
@[simp] theorem countObj_start {w i j n} : (s.countObj w i j n).start = s.start := rfl
@[simp] theorem countObj_totals {w i j n} : (s.countObj w i j n).totals = s.totals := rfl
@[simp] theorem countObj_images {w i j n} : (s.countObj w i j n).images = s.images := rfl
@[simp] theorem countObj_staging {w i j n} : (s.countObj w i j n).staging = s.staging := rfl
@[simp] theorem countObj_unsaved {w i j n} : (s.countObj w i j n).unsaved = s.unsaved := rfl
@[simp] theorem countObj_node {w i j n} : (s.countObj w i j n).node = s.node := rfl
@[simp] theorem countObj_restoreDue {w i j n} : (s.countObj w i j n).restoreDue = s.restoreDue := rfl
@[simp] theorem countObj_field {w i j n} : (s.countObj w i j n).field = s.field := rfl
@[simp] theorem countObj_gates {w i j n} : (s.countObj w i j n).gates = s.gates := rfl
@[simp] theorem countObj_posted {w i j n} : (s.countObj w i j n).posted = s.posted := rfl
@[simp] theorem countObj_tbRate {w i j n} : (s.countObj w i j n).tbRate = s.tbRate := rfl
@[simp] theorem countObj_records {w i j n} : (s.countObj w i j n).records = s.records := rfl

/-! `refusal`. -/

@[simp] theorem refusal_regs {r i j} : (s.refusal r i j).regs = s.regs := rfl
@[simp] theorem refusal_mem {r i j} : (s.refusal r i j).mem = s.mem := rfl
@[simp] theorem refusal_latches {r i j} : (s.refusal r i j).latches = s.latches := rfl
@[simp] theorem refusal_pending {r i j} : (s.refusal r i j).pending = s.pending := rfl
@[simp] theorem refusal_freeCount {r i j} : (s.refusal r i j).freeCount = s.freeCount := rfl
@[simp] theorem refusal_events {r i j} : (s.refusal r i j).events = s.events := rfl
@[simp] theorem refusal_mesh {r i j} : (s.refusal r i j).mesh = s.mesh := rfl
@[simp] theorem refusal_once {r i j} : (s.refusal r i j).once = s.once := rfl
@[simp] theorem refusal_deliveryOpen {r i j} : (s.refusal r i j).deliveryOpen = s.deliveryOpen := rfl
@[simp] theorem refusal_launched {r i j} : (s.refusal r i j).launched = s.launched := rfl
@[simp] theorem refusal_scanRegs {r i j} : (s.refusal r i j).scanRegs = s.scanRegs := rfl
@[simp] theorem refusal_fault {r i j} : (s.refusal r i j).fault = s.fault := rfl
@[simp] theorem refusal_loadStep {r i j} : (s.refusal r i j).loadStep = s.loadStep := rfl
@[simp] theorem refusal_clearing {r i j} : (s.refusal r i j).clearing = s.clearing := rfl
@[simp] theorem refusal_creditDue {r i j} : (s.refusal r i j).creditDue = s.creditDue := rfl
@[simp] theorem refusal_oooSeen {r i j} : (s.refusal r i j).oooSeen = s.oooSeen := rfl
@[simp] theorem refusal_delivery {r i j} : (s.refusal r i j).delivery = s.delivery := rfl
@[simp] theorem refusal_streams {r i j} : (s.refusal r i j).streams = s.streams := rfl
@[simp] theorem refusal_memories {r i j} : (s.refusal r i j).memories = s.memories := rfl
@[simp] theorem refusal_progress {r i j} : (s.refusal r i j).progress = s.progress := rfl
@[simp] theorem refusal_hub {r i j} : (s.refusal r i j).hub = s.hub := rfl
@[simp] theorem refusal_sent {r i j} : (s.refusal r i j).sent = s.sent := rfl
@[simp] theorem refusal_answer {r i j} : (s.refusal r i j).answer = s.answer := rfl
@[simp] theorem refusal_wakes {r i j} : (s.refusal r i j).wakes = s.wakes := rfl
@[simp] theorem refusal_can {r i j} : (s.refusal r i j).can = s.can := rfl
@[simp] theorem refusal_canMode {r i j} : (s.refusal r i j).canMode = s.canMode := rfl
@[simp] theorem refusal_canStandby {r i j} : (s.refusal r i j).canStandby = s.canStandby := rfl
@[simp] theorem refusal_nmt {r i j} : (s.refusal r i j).nmt = s.nmt := rfl
@[simp] theorem refusal_guard {r i j} : (s.refusal r i j).guard = s.guard := rfl
@[simp] theorem refusal_sec {r i j} : (s.refusal r i j).sec = s.sec := rfl
@[simp] theorem refusal_selectors {r i j} : (s.refusal r i j).selectors = s.selectors := rfl
@[simp] theorem refusal_calendar {r i j} : (s.refusal r i j).calendar = s.calendar := rfl
@[simp] theorem refusal_emcy {r i j} : (s.refusal r i j).emcy = s.emcy := rfl
@[simp] theorem refusal_fw {r i j} : (s.refusal r i j).fw = s.fw := rfl
@[simp] theorem refusal_chkWait {r i j} : (s.refusal r i j).chkWait = s.chkWait := rfl
@[simp] theorem refusal_timers {r i j} : (s.refusal r i j).timers = s.timers := rfl
@[simp] theorem refusal_hang {r i j} : (s.refusal r i j).hang = s.hang := rfl
@[simp] theorem refusal_jtag {r i j} : (s.refusal r i j).jtag = s.jtag := rfl
@[simp] theorem refusal_accesses {r i j} : (s.refusal r i j).accesses = s.accesses := rfl
@[simp] theorem refusal_tlk {r i j} : (s.refusal r i j).tlk = s.tlk := rfl
@[simp] theorem refusal_tlkIn {r i j} : (s.refusal r i j).tlkIn = s.tlkIn := rfl
@[simp] theorem refusal_clock {r i j} : (s.refusal r i j).clock = s.clock := rfl
@[simp] theorem refusal_power {r i j} : (s.refusal r i j).power = s.power := rfl
@[simp] theorem refusal_start {r i j} : (s.refusal r i j).start = s.start := rfl
@[simp] theorem refusal_totals {r i j} : (s.refusal r i j).totals = s.totals := rfl
@[simp] theorem refusal_images {r i j} : (s.refusal r i j).images = s.images := rfl
@[simp] theorem refusal_staging {r i j} : (s.refusal r i j).staging = s.staging := rfl
@[simp] theorem refusal_unsaved {r i j} : (s.refusal r i j).unsaved = s.unsaved := rfl
@[simp] theorem refusal_node {r i j} : (s.refusal r i j).node = s.node := rfl
@[simp] theorem refusal_restoreDue {r i j} : (s.refusal r i j).restoreDue = s.restoreDue := rfl
@[simp] theorem refusal_field {r i j} : (s.refusal r i j).field = s.field := rfl
@[simp] theorem refusal_gates {r i j} : (s.refusal r i j).gates = s.gates := rfl
@[simp] theorem refusal_posted {r i j} : (s.refusal r i j).posted = s.posted := rfl
@[simp] theorem refusal_tbRate {r i j} : (s.refusal r i j).tbRate = s.tbRate := rfl
@[simp] theorem refusal_records {r i j} : (s.refusal r i j).records = s.records := rfl

/-! `emitOut`. -/

@[simp] theorem emitOut_regs {x} : (s.emitOut x).regs = s.regs := by unfold emitOut; split <;> rfl
@[simp] theorem emitOut_mem {x} : (s.emitOut x).mem = s.mem := by unfold emitOut; split <;> rfl
@[simp] theorem emitOut_latches {x} : (s.emitOut x).latches = s.latches := by unfold emitOut; split <;> rfl
@[simp] theorem emitOut_pending {x} : (s.emitOut x).pending = s.pending := by unfold emitOut; split <;> rfl
@[simp] theorem emitOut_freeCount {x} : (s.emitOut x).freeCount = s.freeCount := by unfold emitOut; split <;> rfl
@[simp] theorem emitOut_events {x} : (s.emitOut x).events = s.events := by unfold emitOut; split <;> rfl
@[simp] theorem emitOut_mesh {x} : (s.emitOut x).mesh = s.mesh := by unfold emitOut; split <;> rfl
@[simp] theorem emitOut_once {x} : (s.emitOut x).once = s.once := by unfold emitOut; split <;> rfl
@[simp] theorem emitOut_deliveryOpen {x} : (s.emitOut x).deliveryOpen = s.deliveryOpen := by unfold emitOut; split <;> rfl
@[simp] theorem emitOut_launched {x} : (s.emitOut x).launched = s.launched := by unfold emitOut; split <;> rfl
@[simp] theorem emitOut_scanRegs {x} : (s.emitOut x).scanRegs = s.scanRegs := by unfold emitOut; split <;> rfl
@[simp] theorem emitOut_objs {x} : (s.emitOut x).objs = s.objs := by unfold emitOut; split <;> rfl
@[simp] theorem emitOut_fault {x} : (s.emitOut x).fault = s.fault := by unfold emitOut; split <;> rfl
@[simp] theorem emitOut_loadStep {x} : (s.emitOut x).loadStep = s.loadStep := by unfold emitOut; split <;> rfl
@[simp] theorem emitOut_clearing {x} : (s.emitOut x).clearing = s.clearing := by unfold emitOut; split <;> rfl
@[simp] theorem emitOut_creditDue {x} : (s.emitOut x).creditDue = s.creditDue := by unfold emitOut; split <;> rfl
@[simp] theorem emitOut_oooSeen {x} : (s.emitOut x).oooSeen = s.oooSeen := by unfold emitOut; split <;> rfl
@[simp] theorem emitOut_delivery {x} : (s.emitOut x).delivery = s.delivery := by unfold emitOut; split <;> rfl
@[simp] theorem emitOut_streams {x} : (s.emitOut x).streams = s.streams := by unfold emitOut; split <;> rfl
@[simp] theorem emitOut_memories {x} : (s.emitOut x).memories = s.memories := by unfold emitOut; split <;> rfl
@[simp] theorem emitOut_progress {x} : (s.emitOut x).progress = s.progress := by unfold emitOut; split <;> rfl
@[simp] theorem emitOut_hub {x} : (s.emitOut x).hub = s.hub := by unfold emitOut; split <;> rfl
@[simp] theorem emitOut_answer {x} : (s.emitOut x).answer = s.answer := by unfold emitOut; split <;> rfl
@[simp] theorem emitOut_wakes {x} : (s.emitOut x).wakes = s.wakes := by unfold emitOut; split <;> rfl
@[simp] theorem emitOut_can {x} : (s.emitOut x).can = s.can := by unfold emitOut; split <;> rfl
@[simp] theorem emitOut_canMode {x} : (s.emitOut x).canMode = s.canMode := by unfold emitOut; split <;> rfl
@[simp] theorem emitOut_canStandby {x} : (s.emitOut x).canStandby = s.canStandby := by unfold emitOut; split <;> rfl
@[simp] theorem emitOut_nmt {x} : (s.emitOut x).nmt = s.nmt := by unfold emitOut; split <;> rfl
@[simp] theorem emitOut_guard {x} : (s.emitOut x).guard = s.guard := by unfold emitOut; split <;> rfl
@[simp] theorem emitOut_sec {x} : (s.emitOut x).sec = s.sec := by unfold emitOut; split <;> rfl
@[simp] theorem emitOut_selectors {x} : (s.emitOut x).selectors = s.selectors := by unfold emitOut; split <;> rfl
@[simp] theorem emitOut_calendar {x} : (s.emitOut x).calendar = s.calendar := by unfold emitOut; split <;> rfl
@[simp] theorem emitOut_emcy {x} : (s.emitOut x).emcy = s.emcy := by unfold emitOut; split <;> rfl
@[simp] theorem emitOut_fw {x} : (s.emitOut x).fw = s.fw := by unfold emitOut; split <;> rfl
@[simp] theorem emitOut_chkWait {x} : (s.emitOut x).chkWait = s.chkWait := by unfold emitOut; split <;> rfl
@[simp] theorem emitOut_timers {x} : (s.emitOut x).timers = s.timers := by unfold emitOut; split <;> rfl
@[simp] theorem emitOut_hang {x} : (s.emitOut x).hang = s.hang := by unfold emitOut; split <;> rfl
@[simp] theorem emitOut_jtag {x} : (s.emitOut x).jtag = s.jtag := by unfold emitOut; split <;> rfl
@[simp] theorem emitOut_accesses {x} : (s.emitOut x).accesses = s.accesses := by unfold emitOut; split <;> rfl
@[simp] theorem emitOut_tlk {x} : (s.emitOut x).tlk = s.tlk := by unfold emitOut; split <;> rfl
@[simp] theorem emitOut_tlkIn {x} : (s.emitOut x).tlkIn = s.tlkIn := by unfold emitOut; split <;> rfl
@[simp] theorem emitOut_clock {x} : (s.emitOut x).clock = s.clock := by unfold emitOut; split <;> rfl
@[simp] theorem emitOut_power {x} : (s.emitOut x).power = s.power := by unfold emitOut; split <;> rfl
@[simp] theorem emitOut_start {x} : (s.emitOut x).start = s.start := by unfold emitOut; split <;> rfl
@[simp] theorem emitOut_totals {x} : (s.emitOut x).totals = s.totals := by unfold emitOut; split <;> rfl
@[simp] theorem emitOut_images {x} : (s.emitOut x).images = s.images := by unfold emitOut; split <;> rfl
@[simp] theorem emitOut_staging {x} : (s.emitOut x).staging = s.staging := by unfold emitOut; split <;> rfl
@[simp] theorem emitOut_unsaved {x} : (s.emitOut x).unsaved = s.unsaved := by unfold emitOut; split <;> rfl
@[simp] theorem emitOut_node {x} : (s.emitOut x).node = s.node := by unfold emitOut; split <;> rfl
@[simp] theorem emitOut_restoreDue {x} : (s.emitOut x).restoreDue = s.restoreDue := by unfold emitOut; split <;> rfl
@[simp] theorem emitOut_field {x} : (s.emitOut x).field = s.field := by unfold emitOut; split <;> rfl
@[simp] theorem emitOut_gates {x} : (s.emitOut x).gates = s.gates := by unfold emitOut; split <;> rfl
@[simp] theorem emitOut_posted {x} : (s.emitOut x).posted = s.posted := by unfold emitOut; split <;> rfl
@[simp] theorem emitOut_tbRate {x} : (s.emitOut x).tbRate = s.tbRate := by unfold emitOut; split <;> rfl
@[simp] theorem emitOut_records {x} : (s.emitOut x).records = s.records := by unfold emitOut; split <;> rfl

/-! `raise`. -/

@[simp] theorem raise_regs {e b} : (s.raise e b).regs = s.regs := by unfold raise; split <;> simp
@[simp] theorem raise_mem {e b} : (s.raise e b).mem = s.mem := by unfold raise; split <;> simp
@[simp] theorem raise_latches {e b} : (s.raise e b).latches = s.latches := by unfold raise; split <;> simp
@[simp] theorem raise_pending {e b} : (s.raise e b).pending = s.pending := by unfold raise; split <;> simp
@[simp] theorem raise_freeCount {e b} : (s.raise e b).freeCount = s.freeCount := by unfold raise; split <;> simp
@[simp] theorem raise_events {e b} : (s.raise e b).events = s.events := by unfold raise; split <;> simp
@[simp] theorem raise_mesh {e b} : (s.raise e b).mesh = s.mesh := by unfold raise; split <;> simp
@[simp] theorem raise_once {e b} : (s.raise e b).once = s.once := by unfold raise; split <;> simp
@[simp] theorem raise_deliveryOpen {e b} : (s.raise e b).deliveryOpen = s.deliveryOpen := by unfold raise; split <;> simp
@[simp] theorem raise_launched {e b} : (s.raise e b).launched = s.launched := by unfold raise; split <;> simp
@[simp] theorem raise_scanRegs {e b} : (s.raise e b).scanRegs = s.scanRegs := by unfold raise; split <;> simp
@[simp] theorem raise_objs {e b} : (s.raise e b).objs = s.objs := by unfold raise; split <;> simp
@[simp] theorem raise_fault {e b} : (s.raise e b).fault = s.fault := by unfold raise; split <;> simp
@[simp] theorem raise_loadStep {e b} : (s.raise e b).loadStep = s.loadStep := by unfold raise; split <;> simp
@[simp] theorem raise_clearing {e b} : (s.raise e b).clearing = s.clearing := by unfold raise; split <;> simp
@[simp] theorem raise_creditDue {e b} : (s.raise e b).creditDue = s.creditDue := by unfold raise; split <;> simp
@[simp] theorem raise_oooSeen {e b} : (s.raise e b).oooSeen = s.oooSeen := by unfold raise; split <;> simp
@[simp] theorem raise_delivery {e b} : (s.raise e b).delivery = s.delivery := by unfold raise; split <;> simp
@[simp] theorem raise_streams {e b} : (s.raise e b).streams = s.streams := by unfold raise; split <;> simp
@[simp] theorem raise_memories {e b} : (s.raise e b).memories = s.memories := by unfold raise; split <;> simp
@[simp] theorem raise_progress {e b} : (s.raise e b).progress = s.progress := by unfold raise; split <;> simp
@[simp] theorem raise_hub {e b} : (s.raise e b).hub = s.hub := by unfold raise; split <;> simp
@[simp] theorem raise_answer {e b} : (s.raise e b).answer = s.answer := by unfold raise; split <;> simp
@[simp] theorem raise_wakes {e b} : (s.raise e b).wakes = s.wakes := by unfold raise; split <;> simp
@[simp] theorem raise_can {e b} : (s.raise e b).can = s.can := by unfold raise; split <;> simp
@[simp] theorem raise_canMode {e b} : (s.raise e b).canMode = s.canMode := by unfold raise; split <;> simp
@[simp] theorem raise_canStandby {e b} : (s.raise e b).canStandby = s.canStandby := by unfold raise; split <;> simp
@[simp] theorem raise_nmt {e b} : (s.raise e b).nmt = s.nmt := by unfold raise; split <;> simp
@[simp] theorem raise_guard {e b} : (s.raise e b).guard = s.guard := by unfold raise; split <;> simp
@[simp] theorem raise_sec {e b} : (s.raise e b).sec = s.sec := by unfold raise; split <;> simp
@[simp] theorem raise_selectors {e b} : (s.raise e b).selectors = s.selectors := by unfold raise; split <;> simp
@[simp] theorem raise_calendar {e b} : (s.raise e b).calendar = s.calendar := by unfold raise; split <;> simp
@[simp] theorem raise_emcy {e b} : (s.raise e b).emcy = s.emcy := by unfold raise; split <;> simp
@[simp] theorem raise_fw {e b} : (s.raise e b).fw = s.fw := by unfold raise; split <;> simp
@[simp] theorem raise_chkWait {e b} : (s.raise e b).chkWait = s.chkWait := by unfold raise; split <;> simp
@[simp] theorem raise_timers {e b} : (s.raise e b).timers = s.timers := by unfold raise; split <;> simp
@[simp] theorem raise_hang {e b} : (s.raise e b).hang = s.hang := by unfold raise; split <;> simp
@[simp] theorem raise_jtag {e b} : (s.raise e b).jtag = s.jtag := by unfold raise; split <;> simp
@[simp] theorem raise_accesses {e b} : (s.raise e b).accesses = s.accesses := by unfold raise; split <;> simp
@[simp] theorem raise_tlk {e b} : (s.raise e b).tlk = s.tlk := by unfold raise; split <;> simp
@[simp] theorem raise_tlkIn {e b} : (s.raise e b).tlkIn = s.tlkIn := by unfold raise; split <;> simp
@[simp] theorem raise_clock {e b} : (s.raise e b).clock = s.clock := by unfold raise; split <;> simp
@[simp] theorem raise_power {e b} : (s.raise e b).power = s.power := by unfold raise; split <;> simp
@[simp] theorem raise_start {e b} : (s.raise e b).start = s.start := by unfold raise; split <;> simp
@[simp] theorem raise_totals {e b} : (s.raise e b).totals = s.totals := by unfold raise; split <;> simp
@[simp] theorem raise_images {e b} : (s.raise e b).images = s.images := by unfold raise; split <;> simp
@[simp] theorem raise_staging {e b} : (s.raise e b).staging = s.staging := by unfold raise; split <;> simp
@[simp] theorem raise_unsaved {e b} : (s.raise e b).unsaved = s.unsaved := by unfold raise; split <;> simp
@[simp] theorem raise_node {e b} : (s.raise e b).node = s.node := by unfold raise; split <;> simp
@[simp] theorem raise_restoreDue {e b} : (s.raise e b).restoreDue = s.restoreDue := by unfold raise; split <;> simp
@[simp] theorem raise_field {e b} : (s.raise e b).field = s.field := by unfold raise; split <;> simp
@[simp] theorem raise_gates {e b} : (s.raise e b).gates = s.gates := by unfold raise; split <;> simp
@[simp] theorem raise_posted {e b} : (s.raise e b).posted = s.posted := by unfold raise; split <;> simp
@[simp] theorem raise_tbRate {e b} : (s.raise e b).tbRate = s.tbRate := by unfold raise; split <;> simp
@[simp] theorem raise_records {e b} : (s.raise e b).records = s.records := by unfold raise; split <;> simp

/-! `reach`. -/

@[simp] theorem reach_mem {t} : (s.reach t).mem = s.mem := by unfold reach; split <;> rfl
@[simp] theorem reach_latches {t} : (s.reach t).latches = s.latches := by unfold reach; split <;> rfl
@[simp] theorem reach_pending {t} : (s.reach t).pending = s.pending := by unfold reach; split <;> rfl
@[simp] theorem reach_freeCount {t} : (s.reach t).freeCount = s.freeCount := by unfold reach; split <;> rfl
@[simp] theorem reach_events {t} : (s.reach t).events = s.events := by unfold reach; split <;> rfl
@[simp] theorem reach_mesh {t} : (s.reach t).mesh = s.mesh := by unfold reach; split <;> rfl
@[simp] theorem reach_once {t} : (s.reach t).once = s.once := by unfold reach; split <;> rfl
@[simp] theorem reach_deliveryOpen {t} : (s.reach t).deliveryOpen = s.deliveryOpen := by unfold reach; split <;> rfl
@[simp] theorem reach_launched {t} : (s.reach t).launched = s.launched := by unfold reach; split <;> rfl
@[simp] theorem reach_scanRegs {t} : (s.reach t).scanRegs = s.scanRegs := by unfold reach; split <;> rfl
@[simp] theorem reach_objs {t} : (s.reach t).objs = s.objs := by unfold reach; split <;> rfl
@[simp] theorem reach_fault {t} : (s.reach t).fault = s.fault := by unfold reach; split <;> rfl
@[simp] theorem reach_loadStep {t} : (s.reach t).loadStep = s.loadStep := by unfold reach; split <;> rfl
@[simp] theorem reach_clearing {t} : (s.reach t).clearing = s.clearing := by unfold reach; split <;> rfl
@[simp] theorem reach_creditDue {t} : (s.reach t).creditDue = s.creditDue := by unfold reach; split <;> rfl
@[simp] theorem reach_oooSeen {t} : (s.reach t).oooSeen = s.oooSeen := by unfold reach; split <;> rfl
@[simp] theorem reach_delivery {t} : (s.reach t).delivery = s.delivery := by unfold reach; split <;> rfl
@[simp] theorem reach_streams {t} : (s.reach t).streams = s.streams := by unfold reach; split <;> rfl
@[simp] theorem reach_memories {t} : (s.reach t).memories = s.memories := by unfold reach; split <;> rfl
@[simp] theorem reach_progress {t} : (s.reach t).progress = s.progress := by unfold reach; split <;> rfl
@[simp] theorem reach_hub {t} : (s.reach t).hub = s.hub := by unfold reach; split <;> rfl
@[simp] theorem reach_sent {t} : (s.reach t).sent = s.sent := by unfold reach; split <;> rfl
@[simp] theorem reach_answer {t} : (s.reach t).answer = s.answer := by unfold reach; split <;> rfl
@[simp] theorem reach_wakes {t} : (s.reach t).wakes = s.wakes := by unfold reach; split <;> rfl
@[simp] theorem reach_can {t} : (s.reach t).can = s.can := by unfold reach; split <;> rfl
@[simp] theorem reach_canMode {t} : (s.reach t).canMode = s.canMode := by unfold reach; split <;> rfl
@[simp] theorem reach_canStandby {t} : (s.reach t).canStandby = s.canStandby := by unfold reach; split <;> rfl
@[simp] theorem reach_nmt {t} : (s.reach t).nmt = s.nmt := by unfold reach; split <;> rfl
@[simp] theorem reach_guard {t} : (s.reach t).guard = s.guard := by unfold reach; split <;> rfl
@[simp] theorem reach_sec {t} : (s.reach t).sec = s.sec := by unfold reach; split <;> rfl
@[simp] theorem reach_selectors {t} : (s.reach t).selectors = s.selectors := by unfold reach; split <;> rfl
@[simp] theorem reach_calendar {t} : (s.reach t).calendar = s.calendar := by unfold reach; split <;> rfl
@[simp] theorem reach_emcy {t} : (s.reach t).emcy = s.emcy := by unfold reach; split <;> rfl
@[simp] theorem reach_fw {t} : (s.reach t).fw = s.fw := by unfold reach; split <;> rfl
@[simp] theorem reach_chkWait {t} : (s.reach t).chkWait = s.chkWait := by unfold reach; split <;> rfl
@[simp] theorem reach_timers {t} : (s.reach t).timers = s.timers := by unfold reach; split <;> rfl
@[simp] theorem reach_hang {t} : (s.reach t).hang = s.hang := by unfold reach; split <;> rfl
@[simp] theorem reach_jtag {t} : (s.reach t).jtag = s.jtag := by unfold reach; split <;> rfl
@[simp] theorem reach_accesses {t} : (s.reach t).accesses = s.accesses := by unfold reach; split <;> rfl
@[simp] theorem reach_tlk {t} : (s.reach t).tlk = s.tlk := by unfold reach; split <;> rfl
@[simp] theorem reach_tlkIn {t} : (s.reach t).tlkIn = s.tlkIn := by unfold reach; split <;> rfl
@[simp] theorem reach_clock {t} : (s.reach t).clock = s.clock := by unfold reach; split <;> rfl
@[simp] theorem reach_power {t} : (s.reach t).power = s.power := by unfold reach; split <;> rfl
@[simp] theorem reach_start {t} : (s.reach t).start = s.start := by unfold reach; split <;> rfl
@[simp] theorem reach_totals {t} : (s.reach t).totals = s.totals := by unfold reach; split <;> rfl
@[simp] theorem reach_images {t} : (s.reach t).images = s.images := by unfold reach; split <;> rfl
@[simp] theorem reach_staging {t} : (s.reach t).staging = s.staging := by unfold reach; split <;> rfl
@[simp] theorem reach_unsaved {t} : (s.reach t).unsaved = s.unsaved := by unfold reach; split <;> rfl
@[simp] theorem reach_node {t} : (s.reach t).node = s.node := by unfold reach; split <;> rfl
@[simp] theorem reach_restoreDue {t} : (s.reach t).restoreDue = s.restoreDue := by unfold reach; split <;> rfl
@[simp] theorem reach_field {t} : (s.reach t).field = s.field := by unfold reach; split <;> rfl
@[simp] theorem reach_gates {t} : (s.reach t).gates = s.gates := by unfold reach; split <;> rfl
@[simp] theorem reach_posted {t} : (s.reach t).posted = s.posted := by unfold reach; split <;> rfl
@[simp] theorem reach_tbRate {t} : (s.reach t).tbRate = s.tbRate := by unfold reach; split <;> rfl
@[simp] theorem reach_records {t} : (s.reach t).records = s.records := by unfold reach; split <;> rfl

/-! `log`. -/

@[simp] theorem log_mem {b i c r p q} : (s.log b i c r p q).mem = s.mem := by unfold log; split <;> rfl
@[simp] theorem log_latches {b i c r p q} : (s.log b i c r p q).latches = s.latches := by unfold log; split <;> rfl
@[simp] theorem log_pending {b i c r p q} : (s.log b i c r p q).pending = s.pending := by unfold log; split <;> rfl
@[simp] theorem log_freeCount {b i c r p q} : (s.log b i c r p q).freeCount = s.freeCount := by unfold log; split <;> rfl
@[simp] theorem log_mesh {b i c r p q} : (s.log b i c r p q).mesh = s.mesh := by unfold log; split <;> rfl
@[simp] theorem log_once {b i c r p q} : (s.log b i c r p q).once = s.once := by unfold log; split <;> rfl
@[simp] theorem log_deliveryOpen {b i c r p q} : (s.log b i c r p q).deliveryOpen = s.deliveryOpen := by unfold log; split <;> rfl
@[simp] theorem log_launched {b i c r p q} : (s.log b i c r p q).launched = s.launched := by unfold log; split <;> rfl
@[simp] theorem log_scanRegs {b i c r p q} : (s.log b i c r p q).scanRegs = s.scanRegs := by unfold log; split <;> rfl
@[simp] theorem log_objs {b i c r p q} : (s.log b i c r p q).objs = s.objs := by unfold log; split <;> rfl
@[simp] theorem log_fault {b i c r p q} : (s.log b i c r p q).fault = s.fault := by unfold log; split <;> rfl
@[simp] theorem log_loadStep {b i c r p q} : (s.log b i c r p q).loadStep = s.loadStep := by unfold log; split <;> rfl
@[simp] theorem log_clearing {b i c r p q} : (s.log b i c r p q).clearing = s.clearing := by unfold log; split <;> rfl
@[simp] theorem log_creditDue {b i c r p q} : (s.log b i c r p q).creditDue = s.creditDue := by unfold log; split <;> rfl
@[simp] theorem log_oooSeen {b i c r p q} : (s.log b i c r p q).oooSeen = s.oooSeen := by unfold log; split <;> rfl
@[simp] theorem log_delivery {b i c r p q} : (s.log b i c r p q).delivery = s.delivery := by unfold log; split <;> rfl
@[simp] theorem log_streams {b i c r p q} : (s.log b i c r p q).streams = s.streams := by unfold log; split <;> rfl
@[simp] theorem log_memories {b i c r p q} : (s.log b i c r p q).memories = s.memories := by unfold log; split <;> rfl
@[simp] theorem log_progress {b i c r p q} : (s.log b i c r p q).progress = s.progress := by unfold log; split <;> rfl
@[simp] theorem log_hub {b i c r p q} : (s.log b i c r p q).hub = s.hub := by unfold log; split <;> rfl
@[simp] theorem log_sent {b i c r p q} : (s.log b i c r p q).sent = s.sent := by unfold log; split <;> rfl
@[simp] theorem log_answer {b i c r p q} : (s.log b i c r p q).answer = s.answer := by unfold log; split <;> rfl
@[simp] theorem log_wakes {b i c r p q} : (s.log b i c r p q).wakes = s.wakes := by unfold log; split <;> rfl
@[simp] theorem log_can {b i c r p q} : (s.log b i c r p q).can = s.can := by unfold log; split <;> rfl
@[simp] theorem log_canMode {b i c r p q} : (s.log b i c r p q).canMode = s.canMode := by unfold log; split <;> rfl
@[simp] theorem log_canStandby {b i c r p q} : (s.log b i c r p q).canStandby = s.canStandby := by unfold log; split <;> rfl
@[simp] theorem log_nmt {b i c r p q} : (s.log b i c r p q).nmt = s.nmt := by unfold log; split <;> rfl
@[simp] theorem log_guard {b i c r p q} : (s.log b i c r p q).guard = s.guard := by unfold log; split <;> rfl
@[simp] theorem log_sec {b i c r p q} : (s.log b i c r p q).sec = s.sec := by unfold log; split <;> rfl
@[simp] theorem log_selectors {b i c r p q} : (s.log b i c r p q).selectors = s.selectors := by unfold log; split <;> rfl
@[simp] theorem log_calendar {b i c r p q} : (s.log b i c r p q).calendar = s.calendar := by unfold log; split <;> rfl
@[simp] theorem log_emcy {b i c r p q} : (s.log b i c r p q).emcy = s.emcy := by unfold log; split <;> rfl
@[simp] theorem log_fw {b i c r p q} : (s.log b i c r p q).fw = s.fw := by unfold log; split <;> rfl
@[simp] theorem log_chkWait {b i c r p q} : (s.log b i c r p q).chkWait = s.chkWait := by unfold log; split <;> rfl
@[simp] theorem log_timers {b i c r p q} : (s.log b i c r p q).timers = s.timers := by unfold log; split <;> rfl
@[simp] theorem log_hang {b i c r p q} : (s.log b i c r p q).hang = s.hang := by unfold log; split <;> rfl
@[simp] theorem log_jtag {b i c r p q} : (s.log b i c r p q).jtag = s.jtag := by unfold log; split <;> rfl
@[simp] theorem log_accesses {b i c r p q} : (s.log b i c r p q).accesses = s.accesses := by unfold log; split <;> rfl
@[simp] theorem log_tlk {b i c r p q} : (s.log b i c r p q).tlk = s.tlk := by unfold log; split <;> rfl
@[simp] theorem log_tlkIn {b i c r p q} : (s.log b i c r p q).tlkIn = s.tlkIn := by unfold log; split <;> rfl
@[simp] theorem log_clock {b i c r p q} : (s.log b i c r p q).clock = s.clock := by unfold log; split <;> rfl
@[simp] theorem log_power {b i c r p q} : (s.log b i c r p q).power = s.power := by unfold log; split <;> rfl
@[simp] theorem log_start {b i c r p q} : (s.log b i c r p q).start = s.start := by unfold log; split <;> rfl
@[simp] theorem log_totals {b i c r p q} : (s.log b i c r p q).totals = s.totals := by unfold log; split <;> rfl
@[simp] theorem log_images {b i c r p q} : (s.log b i c r p q).images = s.images := by unfold log; split <;> rfl
@[simp] theorem log_staging {b i c r p q} : (s.log b i c r p q).staging = s.staging := by unfold log; split <;> rfl
@[simp] theorem log_unsaved {b i c r p q} : (s.log b i c r p q).unsaved = s.unsaved := by unfold log; split <;> rfl
@[simp] theorem log_node {b i c r p q} : (s.log b i c r p q).node = s.node := by unfold log; split <;> rfl
@[simp] theorem log_restoreDue {b i c r p q} : (s.log b i c r p q).restoreDue = s.restoreDue := by unfold log; split <;> rfl
@[simp] theorem log_field {b i c r p q} : (s.log b i c r p q).field = s.field := by unfold log; split <;> rfl
@[simp] theorem log_gates {b i c r p q} : (s.log b i c r p q).gates = s.gates := by unfold log; split <;> rfl
@[simp] theorem log_posted {b i c r p q} : (s.log b i c r p q).posted = s.posted := by unfold log; split <;> rfl
@[simp] theorem log_tbRate {b i c r p q} : (s.log b i c r p q).tbRate = s.tbRate := by unfold log; split <;> rfl
@[simp] theorem log_records {b i c r p q} : (s.log b i c r p q).records = s.records := by unfold log; split <;> rfl

/-! `msix`. -/

@[simp] theorem msix_mem {n} : (s.msix n).mem = s.mem := by unfold msix; split <;> simp
@[simp] theorem msix_latches {n} : (s.msix n).latches = s.latches := by unfold msix; split <;> simp
@[simp] theorem msix_pending {n} : (s.msix n).pending = s.pending := by unfold msix; split <;> simp
@[simp] theorem msix_freeCount {n} : (s.msix n).freeCount = s.freeCount := by unfold msix; split <;> simp
@[simp] theorem msix_events {n} : (s.msix n).events = s.events := by unfold msix; split <;> simp
@[simp] theorem msix_mesh {n} : (s.msix n).mesh = s.mesh := by unfold msix; split <;> simp
@[simp] theorem msix_once {n} : (s.msix n).once = s.once := by unfold msix; split <;> simp
@[simp] theorem msix_deliveryOpen {n} : (s.msix n).deliveryOpen = s.deliveryOpen := by unfold msix; split <;> simp
@[simp] theorem msix_launched {n} : (s.msix n).launched = s.launched := by unfold msix; split <;> simp
@[simp] theorem msix_scanRegs {n} : (s.msix n).scanRegs = s.scanRegs := by unfold msix; split <;> simp
@[simp] theorem msix_objs {n} : (s.msix n).objs = s.objs := by unfold msix; split <;> simp
@[simp] theorem msix_fault {n} : (s.msix n).fault = s.fault := by unfold msix; split <;> simp
@[simp] theorem msix_loadStep {n} : (s.msix n).loadStep = s.loadStep := by unfold msix; split <;> simp
@[simp] theorem msix_clearing {n} : (s.msix n).clearing = s.clearing := by unfold msix; split <;> simp
@[simp] theorem msix_creditDue {n} : (s.msix n).creditDue = s.creditDue := by unfold msix; split <;> simp
@[simp] theorem msix_oooSeen {n} : (s.msix n).oooSeen = s.oooSeen := by unfold msix; split <;> simp
@[simp] theorem msix_delivery {n} : (s.msix n).delivery = s.delivery := by unfold msix; split <;> simp
@[simp] theorem msix_streams {n} : (s.msix n).streams = s.streams := by unfold msix; split <;> simp
@[simp] theorem msix_memories {n} : (s.msix n).memories = s.memories := by unfold msix; split <;> simp
@[simp] theorem msix_progress {n} : (s.msix n).progress = s.progress := by unfold msix; split <;> simp
@[simp] theorem msix_hub {n} : (s.msix n).hub = s.hub := by unfold msix; split <;> simp
@[simp] theorem msix_answer {n} : (s.msix n).answer = s.answer := by unfold msix; split <;> simp
@[simp] theorem msix_wakes {n} : (s.msix n).wakes = s.wakes := by unfold msix; split <;> simp
@[simp] theorem msix_can {n} : (s.msix n).can = s.can := by unfold msix; split <;> simp
@[simp] theorem msix_canMode {n} : (s.msix n).canMode = s.canMode := by unfold msix; split <;> simp
@[simp] theorem msix_canStandby {n} : (s.msix n).canStandby = s.canStandby := by unfold msix; split <;> simp
@[simp] theorem msix_nmt {n} : (s.msix n).nmt = s.nmt := by unfold msix; split <;> simp
@[simp] theorem msix_guard {n} : (s.msix n).guard = s.guard := by unfold msix; split <;> simp
@[simp] theorem msix_sec {n} : (s.msix n).sec = s.sec := by unfold msix; split <;> simp
@[simp] theorem msix_selectors {n} : (s.msix n).selectors = s.selectors := by unfold msix; split <;> simp
@[simp] theorem msix_calendar {n} : (s.msix n).calendar = s.calendar := by unfold msix; split <;> simp
@[simp] theorem msix_emcy {n} : (s.msix n).emcy = s.emcy := by unfold msix; split <;> simp
@[simp] theorem msix_fw {n} : (s.msix n).fw = s.fw := by unfold msix; split <;> simp
@[simp] theorem msix_chkWait {n} : (s.msix n).chkWait = s.chkWait := by unfold msix; split <;> simp
@[simp] theorem msix_timers {n} : (s.msix n).timers = s.timers := by unfold msix; split <;> simp
@[simp] theorem msix_hang {n} : (s.msix n).hang = s.hang := by unfold msix; split <;> simp
@[simp] theorem msix_jtag {n} : (s.msix n).jtag = s.jtag := by unfold msix; split <;> simp
@[simp] theorem msix_accesses {n} : (s.msix n).accesses = s.accesses := by unfold msix; split <;> simp
@[simp] theorem msix_tlk {n} : (s.msix n).tlk = s.tlk := by unfold msix; split <;> simp
@[simp] theorem msix_tlkIn {n} : (s.msix n).tlkIn = s.tlkIn := by unfold msix; split <;> simp
@[simp] theorem msix_clock {n} : (s.msix n).clock = s.clock := by unfold msix; split <;> simp
@[simp] theorem msix_power {n} : (s.msix n).power = s.power := by unfold msix; split <;> simp
@[simp] theorem msix_start {n} : (s.msix n).start = s.start := by unfold msix; split <;> simp
@[simp] theorem msix_totals {n} : (s.msix n).totals = s.totals := by unfold msix; split <;> simp
@[simp] theorem msix_images {n} : (s.msix n).images = s.images := by unfold msix; split <;> simp
@[simp] theorem msix_staging {n} : (s.msix n).staging = s.staging := by unfold msix; split <;> simp
@[simp] theorem msix_unsaved {n} : (s.msix n).unsaved = s.unsaved := by unfold msix; split <;> simp
@[simp] theorem msix_node {n} : (s.msix n).node = s.node := by unfold msix; split <;> simp
@[simp] theorem msix_restoreDue {n} : (s.msix n).restoreDue = s.restoreDue := by unfold msix; split <;> simp
@[simp] theorem msix_field {n} : (s.msix n).field = s.field := by unfold msix; split <;> simp
@[simp] theorem msix_gates {n} : (s.msix n).gates = s.gates := by unfold msix; split <;> simp
@[simp] theorem msix_posted {n} : (s.msix n).posted = s.posted := by unfold msix; split <;> simp
@[simp] theorem msix_tbRate {n} : (s.msix n).tbRate = s.tbRate := by unfold msix; split <;> simp
@[simp] theorem msix_records {n} : (s.msix n).records = s.records := by unfold msix; split <;> simp

/-! `withQueue`. -/

@[simp] theorem withQueue_regs {q} : (s.withQueue q).regs = s.regs := rfl
@[simp] theorem withQueue_mem {q} : (s.withQueue q).mem = s.mem := rfl
@[simp] theorem withQueue_latches {q} : (s.withQueue q).latches = s.latches := rfl
@[simp] theorem withQueue_freeCount {q} : (s.withQueue q).freeCount = s.freeCount := rfl
@[simp] theorem withQueue_events {q} : (s.withQueue q).events = s.events := rfl
@[simp] theorem withQueue_mesh {q} : (s.withQueue q).mesh = s.mesh := rfl
@[simp] theorem withQueue_once {q} : (s.withQueue q).once = s.once := rfl
@[simp] theorem withQueue_deliveryOpen {q} : (s.withQueue q).deliveryOpen = s.deliveryOpen := rfl
@[simp] theorem withQueue_launched {q} : (s.withQueue q).launched = s.launched := rfl
@[simp] theorem withQueue_scanRegs {q} : (s.withQueue q).scanRegs = s.scanRegs := rfl
@[simp] theorem withQueue_objs {q} : (s.withQueue q).objs = s.objs := rfl
@[simp] theorem withQueue_fault {q} : (s.withQueue q).fault = s.fault := rfl
@[simp] theorem withQueue_loadStep {q} : (s.withQueue q).loadStep = s.loadStep := rfl
@[simp] theorem withQueue_clearing {q} : (s.withQueue q).clearing = s.clearing := rfl
@[simp] theorem withQueue_creditDue {q} : (s.withQueue q).creditDue = s.creditDue := rfl
@[simp] theorem withQueue_oooSeen {q} : (s.withQueue q).oooSeen = s.oooSeen := rfl
@[simp] theorem withQueue_delivery {q} : (s.withQueue q).delivery = s.delivery := rfl
@[simp] theorem withQueue_streams {q} : (s.withQueue q).streams = s.streams := rfl
@[simp] theorem withQueue_memories {q} : (s.withQueue q).memories = s.memories := rfl
@[simp] theorem withQueue_progress {q} : (s.withQueue q).progress = s.progress := rfl
@[simp] theorem withQueue_hub {q} : (s.withQueue q).hub = s.hub := rfl
@[simp] theorem withQueue_sent {q} : (s.withQueue q).sent = s.sent := rfl
@[simp] theorem withQueue_answer {q} : (s.withQueue q).answer = s.answer := rfl
@[simp] theorem withQueue_wakes {q} : (s.withQueue q).wakes = s.wakes := rfl
@[simp] theorem withQueue_can {q} : (s.withQueue q).can = s.can := rfl
@[simp] theorem withQueue_canMode {q} : (s.withQueue q).canMode = s.canMode := rfl
@[simp] theorem withQueue_canStandby {q} : (s.withQueue q).canStandby = s.canStandby := rfl
@[simp] theorem withQueue_nmt {q} : (s.withQueue q).nmt = s.nmt := rfl
@[simp] theorem withQueue_guard {q} : (s.withQueue q).guard = s.guard := rfl
@[simp] theorem withQueue_sec {q} : (s.withQueue q).sec = s.sec := rfl
@[simp] theorem withQueue_selectors {q} : (s.withQueue q).selectors = s.selectors := rfl
@[simp] theorem withQueue_calendar {q} : (s.withQueue q).calendar = s.calendar := rfl
@[simp] theorem withQueue_emcy {q} : (s.withQueue q).emcy = s.emcy := rfl
@[simp] theorem withQueue_fw {q} : (s.withQueue q).fw = s.fw := rfl
@[simp] theorem withQueue_chkWait {q} : (s.withQueue q).chkWait = s.chkWait := rfl
@[simp] theorem withQueue_timers {q} : (s.withQueue q).timers = s.timers := rfl
@[simp] theorem withQueue_hang {q} : (s.withQueue q).hang = s.hang := rfl
@[simp] theorem withQueue_jtag {q} : (s.withQueue q).jtag = s.jtag := rfl
@[simp] theorem withQueue_accesses {q} : (s.withQueue q).accesses = s.accesses := rfl
@[simp] theorem withQueue_tlk {q} : (s.withQueue q).tlk = s.tlk := rfl
@[simp] theorem withQueue_tlkIn {q} : (s.withQueue q).tlkIn = s.tlkIn := rfl
@[simp] theorem withQueue_clock {q} : (s.withQueue q).clock = s.clock := rfl
@[simp] theorem withQueue_power {q} : (s.withQueue q).power = s.power := rfl
@[simp] theorem withQueue_start {q} : (s.withQueue q).start = s.start := rfl
@[simp] theorem withQueue_totals {q} : (s.withQueue q).totals = s.totals := rfl
@[simp] theorem withQueue_images {q} : (s.withQueue q).images = s.images := rfl
@[simp] theorem withQueue_staging {q} : (s.withQueue q).staging = s.staging := rfl
@[simp] theorem withQueue_unsaved {q} : (s.withQueue q).unsaved = s.unsaved := rfl
@[simp] theorem withQueue_node {q} : (s.withQueue q).node = s.node := rfl
@[simp] theorem withQueue_restoreDue {q} : (s.withQueue q).restoreDue = s.restoreDue := rfl
@[simp] theorem withQueue_field {q} : (s.withQueue q).field = s.field := rfl
@[simp] theorem withQueue_gates {q} : (s.withQueue q).gates = s.gates := rfl
@[simp] theorem withQueue_pending {q} : (s.withQueue q).pending = q := rfl
@[simp] theorem withQueue_posted {q} : (s.withQueue q).posted = s.posted := rfl
@[simp] theorem withQueue_tbRate {q} : (s.withQueue q).tbRate = s.tbRate := rfl
@[simp] theorem withQueue_records {q} : (s.withQueue q).records = s.records := rfl

/-! Registers. -/

theorem reg_congr {t : State} {a} (h : t.regs = s.regs) : t.reg a = s.reg a := by unfold reg; rw [h]

@[simp] theorem reg_setReg {a b w} : (s.setReg a w).reg b = if b = a then w else s.reg b := Sparse.find_store

@[simp] theorem reg_put {f v b} :
    (s.put f v).reg b = if b = f.addr then setF (s.reg f.addr) f.lo f.len v else s.reg b := reg_setReg

@[simp] theorem reg_count {f n b} :
    (s.count f n).reg b = if b = f.addr then setF (s.reg f.addr) f.lo f.len (satInc f.len (s.get f) n) else s.reg b :=
  reg_put

@[simp] theorem reg_raiseTo {f v b} :
    (s.raiseTo f v).reg b = if b = f.addr then setF (s.reg f.addr) f.lo f.len (max (s.get f) v) else s.reg b :=
  reg_put

@[simp] theorem reg_put64 {a v b} : (s.put64 a v).reg b =
    if b = a + 4 then BitVec.ofNat 32 (v / 2 ^ 32) else if b = a then BitVec.ofNat 32 v else s.reg b := by
  unfold put64; rw [reg_setReg, reg_setReg]

@[simp] theorem reg_add64 {a n b} : (s.add64 a n).reg b =
    if b = a + 4 then BitVec.ofNat 32 ((s.get64 a + n) / 2 ^ 32) else if b = a then BitVec.ofNat 32 (s.get64 a + n)
    else s.reg b := reg_put64

@[simp] theorem reg_raw8 {a x b} : (s.raw8 a x).reg b = s.reg b := (rfl)

@[simp] theorem reg_useFree {b} : s.useFree.reg b = s.reg b := (rfl)

@[simp] theorem reg_setObj {i j v b} : (s.setObj i j v).reg b = s.reg b := (rfl)

@[simp] theorem reg_countObj {w i j n b} : (s.countObj w i j n).reg b = s.reg b := (rfl)

@[simp] theorem reg_refusal {r i j b} : (s.refusal r i j).reg b = s.reg b := (rfl)

@[simp] theorem reg_emitOut {x b} : (s.emitOut x).reg b = s.reg b := reg_congr emitOut_regs

@[simp] theorem reg_raise {e i b} : (s.raise e i).reg b = s.reg b := reg_congr raise_regs

/-- An event changes no register but the count of lost events, which counts it where the block's queue is full (R709). -/
@[simp] theorem reg_log {b i c r p q a} : (s.log b i c r p q).reg a =
    if a = Reg.FLT_LOG_LOST ∧ 4 ≤ (s.events.filter fun e => e.rank = b.rank ∧ e.inst = i).length then
      setF (s.reg a) Reg.FLT_LOG_LOST_COUNT.lo Reg.FLT_LOG_LOST_COUNT.len
        (satInc Reg.FLT_LOG_LOST_COUNT.len (s.get Reg.FLT_LOG_LOST_COUNT) 1)
    else s.reg a := by
  unfold log
  split
  · rw [reg_count]
    by_cases h : a = Reg.FLT_LOG_LOST_COUNT.addr
    · simp_all
    · have : ¬a = Reg.FLT_LOG_LOST := h
      simp [h]
  · simp_all [reg]

/-! Fields of registers. -/

theorem get_congr {t : State} {f} (h : t.regs = s.regs) : t.get f = s.get f := by unfold get; rw [reg_congr h]

@[simp] theorem get_emitOut {x f} : (s.emitOut x).get f = s.get f := get_congr emitOut_regs
@[simp] theorem get_raise {e i f} : (s.raise e i).get f = s.get f := get_congr raise_regs
@[simp] theorem get_setObj {i j v f} : (s.setObj i j v).get f = s.get f := (rfl)
@[simp] theorem get_countObj {w i j n f} : (s.countObj w i j n).get f = s.get f := (rfl)
@[simp] theorem get_useFree {f} : s.useFree.get f = s.get f := (rfl)
@[simp] theorem get_raw8 {a x f} : (s.raw8 a x).get f = s.get f := (rfl)

theorem get_log {b i c r p q f} (h : f.addr ≠ Reg.FLT_LOG_LOST) : (s.log b i c r p q).get f = s.get f := by
  unfold get; rw [reg_log, if_neg (by simp [h])]

theorem get_put_self {f v} (h : f.lo + f.len ≤ 32) : (s.put f v).get f = v % 2 ^ f.len := by
  unfold get; rw [reg_put, if_pos rfl, getF_setF h]

theorem get_put_addr {f g v} (h : g.addr ≠ f.addr) : (s.put f v).get g = s.get g := by
  unfold get; rw [reg_put, if_neg h]

theorem get_put_clear {f g v} (h : g.lo + g.len ≤ f.lo ∨ f.lo + f.len ≤ g.lo) : (s.put f v).get g = s.get g := by
  unfold get; rw [reg_put]
  split
  · rename_i e; rw [getF_setF_ne h, e]
  · rfl

theorem get_lt {f} : s.get f < 2 ^ f.len := getF_lt

theorem get64_put64 {a v} : (s.put64 a v).get64 a = v % 2 ^ 64 := by
  unfold get64
  rw [reg_put64, reg_put64, if_neg (by omega), if_pos rfl, if_pos rfl, BitVec.toNat_ofNat, BitVec.toNat_ofNat]
  omega

theorem get64_put64_ne {a b v} (h : b + 4 < a ∨ a + 4 < b) : (s.put64 a v).get64 b = s.get64 b := by
  unfold get64
  rw [reg_put64, reg_put64, if_neg (by omega), if_neg (by omega), if_neg (by omega), if_neg (by omega)]

theorem get64_put_ne {f b v} (h : f.addr ≠ b) (h' : f.addr ≠ b + 4) : (s.put f v).get64 b = s.get64 b := by
  unfold get64
  rw [reg_put, reg_put, if_neg (Ne.symm h), if_neg (Ne.symm h')]

/-! Memory. -/

theorem rd8_congr {t : State} {a} (h : t.mem = s.mem) (h' : t.memories = s.memories) : t.rd8 a = s.rd8 a := by
  unfold rd8 veil; rw [h, h']

/-- A byte reads as what was stored at its address, and every other byte as before. -/
@[simp] theorem rd8_raw8 {a b x} : (s.raw8 a x).rd8 b = if b = a then x else s.rd8 b := by
  have hv : (s.raw8 a x).veil b = s.veil b := rfl
  unfold rd8
  rw [hv]
  have := Sparse.find_store (f := fun _ => (0 : Byte)) (l := s.mem) (k := a) (j := b) (x := x ^^^ s.veil a)
  simp only [raw8]
  rw [this]
  split
  · rename_i e; subst e; rw [BitVec.xor_assoc, BitVec.xor_self, BitVec.xor_zero]
  · rfl

@[simp] theorem rd8_setReg {a w b} : (s.setReg a w).rd8 b = s.rd8 b := (rfl)
@[simp] theorem rd8_put {f v b} : (s.put f v).rd8 b = s.rd8 b := (rfl)
@[simp] theorem rd8_put64 {a v b} : (s.put64 a v).rd8 b = s.rd8 b := (rfl)
@[simp] theorem rd8_add64 {a v b} : (s.add64 a v).rd8 b = s.rd8 b := (rfl)
@[simp] theorem rd8_count {f n b} : (s.count f n).rd8 b = s.rd8 b := (rfl)
@[simp] theorem rd8_raiseTo {f n b} : (s.raiseTo f n).rd8 b = s.rd8 b := (rfl)
@[simp] theorem rd8_setObj {i j v b} : (s.setObj i j v).rd8 b = s.rd8 b := (rfl)
@[simp] theorem rd8_useFree {b} : s.useFree.rd8 b = s.rd8 b := (rfl)
@[simp] theorem rd8_emitOut {x b} : (s.emitOut x).rd8 b = s.rd8 b := rd8_congr emitOut_mem emitOut_memories
@[simp] theorem rd8_raise {e i b} : (s.raise e i).rd8 b = s.rd8 b := rd8_congr raise_mem raise_memories
@[simp] theorem rd8_log {b i c r p q a} : (s.log b i c r p q).rd8 a = s.rd8 a := rd8_congr log_mem log_memories

/-- Bytes stored from an address on read back, and every other byte as before. -/
theorem rd8_rawBytes {a b} {l : List Byte} :
    (s.rawBytes a l).rd8 b = if a ≤ b ∧ b < a + l.length then l.getD (b - a) 0 else s.rd8 b := by
  induction l generalizing s a with
  | nil => simp [rawBytes]
  | cons x r ih =>
    rw [rawBytes, ih, rd8_raw8]
    by_cases h : b = a
    · subst h; simp
    · by_cases h1 : a + 1 ≤ b ∧ b < a + 1 + r.length
      · have : a ≤ b ∧ b < a + (x :: r).length := by simp; omega
        rw [if_pos h1, if_pos this]
        obtain ⟨k, hk⟩ : ∃ k, b - a = k + 1 := ⟨b - a - 1, by omega⟩
        have hk' : b - (a + 1) = k := by omega
        simp [hk, hk']
      · have : ¬(a ≤ b ∧ b < a + (x :: r).length) := by simp; omega
        rw [if_neg h1, if_neg this, if_neg h]

/-! Objects. -/

@[simp] theorem obj_setObj {i j v i' j'} : (s.setObj i j v).obj i' j' =
    if ObjMap.key i' j' = ObjMap.key i j then v else s.obj i' j' := Sparse.find_store

/-! The queue of commands. -/

theorem done_eq {t : State} : s.done t = .next (t.withQueue s.pending) := rfl

@[simp] theorem reg_withQueue {q a} : (s.withQueue q).reg a = s.reg a := (rfl)
@[simp] theorem get_withQueue {q f} : (s.withQueue q).get f = s.get f := (rfl)
@[simp] theorem flag_withQueue {q f} : (s.withQueue q).flag f = s.flag f := (rfl)
@[simp] theorem get64_withQueue {q a} : (s.withQueue q).get64 a = s.get64 a := (rfl)
@[simp] theorem rd8_withQueue {q a} : (s.withQueue q).rd8 a = s.rd8 a := (rfl)
@[simp] theorem obj_withQueue {q i j} : (s.withQueue q).obj i j = s.obj i j := (rfl)

/-- A command whose meaning is `s.done t` completes with whatever holds of `t` under the old queue. -/
theorem completes_done {c : Instr} {t : State} {P : State → Prop} (e : exec c s = s.done t)
    (h : P (t.withQueue s.pending)) : s.completes c P := ⟨_, e, rfl, h⟩

end Sys2Proof.Machine.State

namespace Sys2Proof.Machine

@[simp] theorem Lists.at_put {α : Type} [DecidableEq α] {m : Lists α} {k j : Nat} {l : List α} :
    (m.put k l).at j = if j = k then l else m.at j := Sparse.find_store (f := fun _ => [])

@[simp] theorem Nums.at_put {m : Nums} {k j v : Nat} : (m.put k v).at j = if j = k then v else m.at j :=
  Sparse.find_store (f := fun _ => 0)

end Sys2Proof.Machine
end

