-- ==== Sys2Proof/Laws/Clock.lean ====
section
/-! SUPPORT. What leaves the step clock's own state as it was: a fold of updates that each leave it, the queue commands, and the
last changes of a remap's switch. -/

namespace Sys2Proof.Machine.State

/-- A fold of updates that each leave the step clock alone leaves it alone. -/
theorem foldl_clock {α : Type} (f : State → α → State) (h : ∀ s x, (f s x).clock = s.clock) (l : List α) (s : State) :
    (l.foldl f s).clock = s.clock := by
  induction l generalizing s with
  | nil => rfl
  | cons x l ih => rw [List.foldl_cons, ih, h]

theorem qShape_clock (s : State) (u i) : (s.qShape u i).clock = s.clock := by
  unfold qShape
  dsimp only
  split
  · rfl
  · exact foldl_clock _ (fun s x => setReg_clock) _ _

theorem unitCtrl_clock (s : State) (u t y p) : (s.unitCtrl u t y p).clock = s.clock := by
  unfold unitCtrl
  split <;> rfl

theorem sendCredit_clock (s : State) (u i p e n) : (s.sendCredit u i p e n).clock = s.clock := by
  unfold sendCredit
  dsimp only
  split
  · rfl
  · split
    · exact unitCtrl_clock ..
    · split
      · exact unitCtrl_clock ..
      · exact count_clock

theorem qReady_clock (s : State) (u i) : (s.qReady u i).clock = s.clock := by
  unfold qReady
  dsimp only
  repeat' split
  all_goals simp

theorem qRestart_clock (s : State) (u i) : (s.qRestart u i).clock = s.clock :=
  (qReady_clock _ _ _).trans (qShape_clock _ _ _)

theorem resetRx_clock (s : State) (u i) : (s.resetRx u i).clock = s.clock := by
  unfold resetRx
  split
  · rfl
  · exact (sendCredit_clock ..).trans (qRestart_clock ..)

theorem openTx_clock (s : State) (u i) : (s.openTx u i).clock = s.clock := by
  unfold openTx
  dsimp only
  split
  · rfl
  · split
    · rfl
    · exact qShape_clock ..

theorem queuesMove_clock (s : State) (t : Nat) : (s.queuesMove t).clock = s.clock := by
  unfold queuesMove
  refine foldl_clock _ (fun s i => ?_) _ _
  dsimp only
  split
  · exact (openTx_clock ..).trans (resetRx_clock ..)
  · rfl

theorem rawBytes_clock (s : State) (a l) : (s.rawBytes a l).clock = s.clock := by
  induction l generalizing s a with
  | nil => rfl
  | cons b l ih => exact (ih ..).trans raw8_clock

theorem injectWrite_clock (s : State) (a n) : (s.injectWrite a n).clock = s.clock := by
  unfold injectWrite injected
  dsimp only
  repeat' split
  all_goals simp

theorem sigTouch_clock (s : State) (a n) : (s.sigTouch a n).clock = s.clock := by
  unfold sigTouch
  dsimp only
  split <;> rfl

theorem wrBytes_clock (s : State) (a l) : (s.wrBytes a l).clock = s.clock :=
  (sigTouch_clock ..).trans ((injectWrite_clock ..).trans (rawBytes_clock ..))

theorem accZero_clock (s : State) (t : Nat) : (s.accZero t).clock = s.clock := by
  unfold accZero
  refine foldl_clock _ (fun s c => ?_) _ _
  dsimp only
  split
  · exact wrBytes_clock ..
  · rfl

/-- What an update that leaves the step clock alone makes of an outcome has the clock of that outcome. -/
theorem map_clock (o : Option State) (f : State → State) (d : State) (h : ∀ s, (f s).clock = s.clock) :
    ((o.map f).getD d).clock = (o.getD d).clock := by
  cases o <;> simp [h]
/-- The same of its policy. -/
theorem map_policy {o : Option State} {f : State → State} {d : State} {p : Nat} (h : ∀ s, (f s).clock = s.clock)
    (k : (o.getD d).clock.policy = p) : ((o.map f).getD d).clock.policy = p := by
  rw [← k, map_clock o f d h]

end Sys2Proof.Machine.State
end

