-- ==== Sys2Proof/Laws/Parts.lean ====
section
/-! SUPPORT. What a change of one part of the state leaves: that part, changed, and every other as it was. -/

namespace Sys2Proof.Machine.State

variable {s : State}

/-! `onStart`. -/

@[simp] theorem onStart_start {g} : (s.onStart g).start = g s.start := rfl
@[simp] theorem onStart_regs {g} : (s.onStart g).regs = s.regs := rfl
@[simp] theorem onStart_mem {g} : (s.onStart g).mem = s.mem := rfl
@[simp] theorem onStart_latches {g} : (s.onStart g).latches = s.latches := rfl
@[simp] theorem onStart_pending {g} : (s.onStart g).pending = s.pending := rfl
@[simp] theorem onStart_freeCount {g} : (s.onStart g).freeCount = s.freeCount := rfl
@[simp] theorem onStart_events {g} : (s.onStart g).events = s.events := rfl
@[simp] theorem onStart_mesh {g} : (s.onStart g).mesh = s.mesh := rfl
@[simp] theorem onStart_once {g} : (s.onStart g).once = s.once := rfl
@[simp] theorem onStart_deliveryOpen {g} : (s.onStart g).deliveryOpen = s.deliveryOpen := rfl
@[simp] theorem onStart_launched {g} : (s.onStart g).launched = s.launched := rfl
@[simp] theorem onStart_scanRegs {g} : (s.onStart g).scanRegs = s.scanRegs := rfl
@[simp] theorem onStart_objs {g} : (s.onStart g).objs = s.objs := rfl
@[simp] theorem onStart_fault {g} : (s.onStart g).fault = s.fault := rfl
@[simp] theorem onStart_loadStep {g} : (s.onStart g).loadStep = s.loadStep := rfl
@[simp] theorem onStart_clearing {g} : (s.onStart g).clearing = s.clearing := rfl
@[simp] theorem onStart_creditDue {g} : (s.onStart g).creditDue = s.creditDue := rfl
@[simp] theorem onStart_oooSeen {g} : (s.onStart g).oooSeen = s.oooSeen := rfl
@[simp] theorem onStart_delivery {g} : (s.onStart g).delivery = s.delivery := rfl
@[simp] theorem onStart_streams {g} : (s.onStart g).streams = s.streams := rfl
@[simp] theorem onStart_memories {g} : (s.onStart g).memories = s.memories := rfl
@[simp] theorem onStart_progress {g} : (s.onStart g).progress = s.progress := rfl
@[simp] theorem onStart_hub {g} : (s.onStart g).hub = s.hub := rfl
@[simp] theorem onStart_sent {g} : (s.onStart g).sent = s.sent := rfl
@[simp] theorem onStart_answer {g} : (s.onStart g).answer = s.answer := rfl
@[simp] theorem onStart_wakes {g} : (s.onStart g).wakes = s.wakes := rfl
@[simp] theorem onStart_can {g} : (s.onStart g).can = s.can := rfl
@[simp] theorem onStart_canMode {g} : (s.onStart g).canMode = s.canMode := rfl
@[simp] theorem onStart_canStandby {g} : (s.onStart g).canStandby = s.canStandby := rfl
@[simp] theorem onStart_nmt {g} : (s.onStart g).nmt = s.nmt := rfl
@[simp] theorem onStart_guard {g} : (s.onStart g).guard = s.guard := rfl
@[simp] theorem onStart_sec {g} : (s.onStart g).sec = s.sec := rfl
@[simp] theorem onStart_selectors {g} : (s.onStart g).selectors = s.selectors := rfl
@[simp] theorem onStart_calendar {g} : (s.onStart g).calendar = s.calendar := rfl
@[simp] theorem onStart_emcy {g} : (s.onStart g).emcy = s.emcy := rfl
@[simp] theorem onStart_fw {g} : (s.onStart g).fw = s.fw := rfl
@[simp] theorem onStart_chkWait {g} : (s.onStart g).chkWait = s.chkWait := rfl
@[simp] theorem onStart_timers {g} : (s.onStart g).timers = s.timers := rfl
@[simp] theorem onStart_hang {g} : (s.onStart g).hang = s.hang := rfl
@[simp] theorem onStart_jtag {g} : (s.onStart g).jtag = s.jtag := rfl
@[simp] theorem onStart_accesses {g} : (s.onStart g).accesses = s.accesses := rfl
@[simp] theorem onStart_tlk {g} : (s.onStart g).tlk = s.tlk := rfl
@[simp] theorem onStart_tlkIn {g} : (s.onStart g).tlkIn = s.tlkIn := rfl
@[simp] theorem onStart_clock {g} : (s.onStart g).clock = s.clock := rfl
@[simp] theorem onStart_power {g} : (s.onStart g).power = s.power := rfl
@[simp] theorem onStart_totals {g} : (s.onStart g).totals = s.totals := rfl
@[simp] theorem onStart_images {g} : (s.onStart g).images = s.images := rfl
@[simp] theorem onStart_staging {g} : (s.onStart g).staging = s.staging := rfl
@[simp] theorem onStart_unsaved {g} : (s.onStart g).unsaved = s.unsaved := rfl
@[simp] theorem onStart_node {g} : (s.onStart g).node = s.node := rfl
@[simp] theorem onStart_restoreDue {g} : (s.onStart g).restoreDue = s.restoreDue := rfl
@[simp] theorem onStart_field {g} : (s.onStart g).field = s.field := rfl
@[simp] theorem onStart_gates {g} : (s.onStart g).gates = s.gates := rfl
@[simp] theorem onStart_posted {g} : (s.onStart g).posted = s.posted := rfl
@[simp] theorem onStart_tbRate {g} : (s.onStart g).tbRate = s.tbRate := rfl
@[simp] theorem onStart_records {g} : (s.onStart g).records = s.records := rfl
@[simp] theorem reg_onStart {g a} : (s.onStart g).reg a = s.reg a := (rfl)
@[simp] theorem get_onStart {g f} : (s.onStart g).get f = s.get f := (rfl)
@[simp] theorem flag_onStart {g f} : (s.onStart g).flag f = s.flag f := (rfl)
@[simp] theorem get64_onStart {g a} : (s.onStart g).get64 a = s.get64 a := (rfl)
@[simp] theorem obj_onStart {g i j} : (s.onStart g).obj i j = s.obj i j := (rfl)
@[simp] theorem rd8_onStart {g a} : (s.onStart g).rd8 a = s.rd8 a := (rfl)

/-! `onDelivery`. -/

@[simp] theorem onDelivery_delivery {g} : (s.onDelivery g).delivery = g s.delivery := rfl
@[simp] theorem onDelivery_regs {g} : (s.onDelivery g).regs = s.regs := rfl
@[simp] theorem onDelivery_mem {g} : (s.onDelivery g).mem = s.mem := rfl
@[simp] theorem onDelivery_latches {g} : (s.onDelivery g).latches = s.latches := rfl
@[simp] theorem onDelivery_pending {g} : (s.onDelivery g).pending = s.pending := rfl
@[simp] theorem onDelivery_freeCount {g} : (s.onDelivery g).freeCount = s.freeCount := rfl
@[simp] theorem onDelivery_events {g} : (s.onDelivery g).events = s.events := rfl
@[simp] theorem onDelivery_mesh {g} : (s.onDelivery g).mesh = s.mesh := rfl
@[simp] theorem onDelivery_once {g} : (s.onDelivery g).once = s.once := rfl
@[simp] theorem onDelivery_deliveryOpen {g} : (s.onDelivery g).deliveryOpen = s.deliveryOpen := rfl
@[simp] theorem onDelivery_launched {g} : (s.onDelivery g).launched = s.launched := rfl
@[simp] theorem onDelivery_scanRegs {g} : (s.onDelivery g).scanRegs = s.scanRegs := rfl
@[simp] theorem onDelivery_objs {g} : (s.onDelivery g).objs = s.objs := rfl
@[simp] theorem onDelivery_fault {g} : (s.onDelivery g).fault = s.fault := rfl
@[simp] theorem onDelivery_loadStep {g} : (s.onDelivery g).loadStep = s.loadStep := rfl
@[simp] theorem onDelivery_clearing {g} : (s.onDelivery g).clearing = s.clearing := rfl
@[simp] theorem onDelivery_creditDue {g} : (s.onDelivery g).creditDue = s.creditDue := rfl
@[simp] theorem onDelivery_oooSeen {g} : (s.onDelivery g).oooSeen = s.oooSeen := rfl
@[simp] theorem onDelivery_streams {g} : (s.onDelivery g).streams = s.streams := rfl
@[simp] theorem onDelivery_memories {g} : (s.onDelivery g).memories = s.memories := rfl
@[simp] theorem onDelivery_progress {g} : (s.onDelivery g).progress = s.progress := rfl
@[simp] theorem onDelivery_hub {g} : (s.onDelivery g).hub = s.hub := rfl
@[simp] theorem onDelivery_sent {g} : (s.onDelivery g).sent = s.sent := rfl
@[simp] theorem onDelivery_answer {g} : (s.onDelivery g).answer = s.answer := rfl
@[simp] theorem onDelivery_wakes {g} : (s.onDelivery g).wakes = s.wakes := rfl
@[simp] theorem onDelivery_can {g} : (s.onDelivery g).can = s.can := rfl
@[simp] theorem onDelivery_canMode {g} : (s.onDelivery g).canMode = s.canMode := rfl
@[simp] theorem onDelivery_canStandby {g} : (s.onDelivery g).canStandby = s.canStandby := rfl
@[simp] theorem onDelivery_nmt {g} : (s.onDelivery g).nmt = s.nmt := rfl
@[simp] theorem onDelivery_guard {g} : (s.onDelivery g).guard = s.guard := rfl
@[simp] theorem onDelivery_sec {g} : (s.onDelivery g).sec = s.sec := rfl
@[simp] theorem onDelivery_selectors {g} : (s.onDelivery g).selectors = s.selectors := rfl
@[simp] theorem onDelivery_calendar {g} : (s.onDelivery g).calendar = s.calendar := rfl
@[simp] theorem onDelivery_emcy {g} : (s.onDelivery g).emcy = s.emcy := rfl
@[simp] theorem onDelivery_fw {g} : (s.onDelivery g).fw = s.fw := rfl
@[simp] theorem onDelivery_chkWait {g} : (s.onDelivery g).chkWait = s.chkWait := rfl
@[simp] theorem onDelivery_timers {g} : (s.onDelivery g).timers = s.timers := rfl
@[simp] theorem onDelivery_hang {g} : (s.onDelivery g).hang = s.hang := rfl
@[simp] theorem onDelivery_jtag {g} : (s.onDelivery g).jtag = s.jtag := rfl
@[simp] theorem onDelivery_accesses {g} : (s.onDelivery g).accesses = s.accesses := rfl
@[simp] theorem onDelivery_tlk {g} : (s.onDelivery g).tlk = s.tlk := rfl
@[simp] theorem onDelivery_tlkIn {g} : (s.onDelivery g).tlkIn = s.tlkIn := rfl
@[simp] theorem onDelivery_clock {g} : (s.onDelivery g).clock = s.clock := rfl
@[simp] theorem onDelivery_power {g} : (s.onDelivery g).power = s.power := rfl
@[simp] theorem onDelivery_start {g} : (s.onDelivery g).start = s.start := rfl
@[simp] theorem onDelivery_totals {g} : (s.onDelivery g).totals = s.totals := rfl
@[simp] theorem onDelivery_images {g} : (s.onDelivery g).images = s.images := rfl
@[simp] theorem onDelivery_staging {g} : (s.onDelivery g).staging = s.staging := rfl
@[simp] theorem onDelivery_unsaved {g} : (s.onDelivery g).unsaved = s.unsaved := rfl
@[simp] theorem onDelivery_node {g} : (s.onDelivery g).node = s.node := rfl
@[simp] theorem onDelivery_restoreDue {g} : (s.onDelivery g).restoreDue = s.restoreDue := rfl
@[simp] theorem onDelivery_field {g} : (s.onDelivery g).field = s.field := rfl
@[simp] theorem onDelivery_gates {g} : (s.onDelivery g).gates = s.gates := rfl
@[simp] theorem onDelivery_posted {g} : (s.onDelivery g).posted = s.posted := rfl
@[simp] theorem onDelivery_tbRate {g} : (s.onDelivery g).tbRate = s.tbRate := rfl
@[simp] theorem onDelivery_records {g} : (s.onDelivery g).records = s.records := rfl
@[simp] theorem reg_onDelivery {g a} : (s.onDelivery g).reg a = s.reg a := (rfl)
@[simp] theorem get_onDelivery {g f} : (s.onDelivery g).get f = s.get f := (rfl)
@[simp] theorem flag_onDelivery {g f} : (s.onDelivery g).flag f = s.flag f := (rfl)
@[simp] theorem get64_onDelivery {g a} : (s.onDelivery g).get64 a = s.get64 a := (rfl)
@[simp] theorem obj_onDelivery {g i j} : (s.onDelivery g).obj i j = s.obj i j := (rfl)
@[simp] theorem rd8_onDelivery {g a} : (s.onDelivery g).rd8 a = s.rd8 a := (rfl)

/-! `onFault`. -/

@[simp] theorem onFault_fault {g} : (s.onFault g).fault = g s.fault := rfl
@[simp] theorem onFault_regs {g} : (s.onFault g).regs = s.regs := rfl
@[simp] theorem onFault_mem {g} : (s.onFault g).mem = s.mem := rfl
@[simp] theorem onFault_latches {g} : (s.onFault g).latches = s.latches := rfl
@[simp] theorem onFault_pending {g} : (s.onFault g).pending = s.pending := rfl
@[simp] theorem onFault_freeCount {g} : (s.onFault g).freeCount = s.freeCount := rfl
@[simp] theorem onFault_events {g} : (s.onFault g).events = s.events := rfl
@[simp] theorem onFault_mesh {g} : (s.onFault g).mesh = s.mesh := rfl
@[simp] theorem onFault_once {g} : (s.onFault g).once = s.once := rfl
@[simp] theorem onFault_deliveryOpen {g} : (s.onFault g).deliveryOpen = s.deliveryOpen := rfl
@[simp] theorem onFault_launched {g} : (s.onFault g).launched = s.launched := rfl
@[simp] theorem onFault_scanRegs {g} : (s.onFault g).scanRegs = s.scanRegs := rfl
@[simp] theorem onFault_objs {g} : (s.onFault g).objs = s.objs := rfl
@[simp] theorem onFault_loadStep {g} : (s.onFault g).loadStep = s.loadStep := rfl
@[simp] theorem onFault_clearing {g} : (s.onFault g).clearing = s.clearing := rfl
@[simp] theorem onFault_creditDue {g} : (s.onFault g).creditDue = s.creditDue := rfl
@[simp] theorem onFault_oooSeen {g} : (s.onFault g).oooSeen = s.oooSeen := rfl
@[simp] theorem onFault_delivery {g} : (s.onFault g).delivery = s.delivery := rfl
@[simp] theorem onFault_streams {g} : (s.onFault g).streams = s.streams := rfl
@[simp] theorem onFault_memories {g} : (s.onFault g).memories = s.memories := rfl
@[simp] theorem onFault_progress {g} : (s.onFault g).progress = s.progress := rfl
@[simp] theorem onFault_hub {g} : (s.onFault g).hub = s.hub := rfl
@[simp] theorem onFault_sent {g} : (s.onFault g).sent = s.sent := rfl
@[simp] theorem onFault_answer {g} : (s.onFault g).answer = s.answer := rfl
@[simp] theorem onFault_wakes {g} : (s.onFault g).wakes = s.wakes := rfl
@[simp] theorem onFault_can {g} : (s.onFault g).can = s.can := rfl
@[simp] theorem onFault_canMode {g} : (s.onFault g).canMode = s.canMode := rfl
@[simp] theorem onFault_canStandby {g} : (s.onFault g).canStandby = s.canStandby := rfl
@[simp] theorem onFault_nmt {g} : (s.onFault g).nmt = s.nmt := rfl
@[simp] theorem onFault_guard {g} : (s.onFault g).guard = s.guard := rfl
@[simp] theorem onFault_sec {g} : (s.onFault g).sec = s.sec := rfl
@[simp] theorem onFault_selectors {g} : (s.onFault g).selectors = s.selectors := rfl
@[simp] theorem onFault_calendar {g} : (s.onFault g).calendar = s.calendar := rfl
@[simp] theorem onFault_emcy {g} : (s.onFault g).emcy = s.emcy := rfl
@[simp] theorem onFault_fw {g} : (s.onFault g).fw = s.fw := rfl
@[simp] theorem onFault_chkWait {g} : (s.onFault g).chkWait = s.chkWait := rfl
@[simp] theorem onFault_timers {g} : (s.onFault g).timers = s.timers := rfl
@[simp] theorem onFault_hang {g} : (s.onFault g).hang = s.hang := rfl
@[simp] theorem onFault_jtag {g} : (s.onFault g).jtag = s.jtag := rfl
@[simp] theorem onFault_accesses {g} : (s.onFault g).accesses = s.accesses := rfl
@[simp] theorem onFault_tlk {g} : (s.onFault g).tlk = s.tlk := rfl
@[simp] theorem onFault_tlkIn {g} : (s.onFault g).tlkIn = s.tlkIn := rfl
@[simp] theorem onFault_clock {g} : (s.onFault g).clock = s.clock := rfl
@[simp] theorem onFault_power {g} : (s.onFault g).power = s.power := rfl
@[simp] theorem onFault_start {g} : (s.onFault g).start = s.start := rfl
@[simp] theorem onFault_totals {g} : (s.onFault g).totals = s.totals := rfl
@[simp] theorem onFault_images {g} : (s.onFault g).images = s.images := rfl
@[simp] theorem onFault_staging {g} : (s.onFault g).staging = s.staging := rfl
@[simp] theorem onFault_unsaved {g} : (s.onFault g).unsaved = s.unsaved := rfl
@[simp] theorem onFault_node {g} : (s.onFault g).node = s.node := rfl
@[simp] theorem onFault_restoreDue {g} : (s.onFault g).restoreDue = s.restoreDue := rfl
@[simp] theorem onFault_field {g} : (s.onFault g).field = s.field := rfl
@[simp] theorem onFault_gates {g} : (s.onFault g).gates = s.gates := rfl
@[simp] theorem onFault_posted {g} : (s.onFault g).posted = s.posted := rfl
@[simp] theorem onFault_tbRate {g} : (s.onFault g).tbRate = s.tbRate := rfl
@[simp] theorem onFault_records {g} : (s.onFault g).records = s.records := rfl
@[simp] theorem reg_onFault {g a} : (s.onFault g).reg a = s.reg a := (rfl)
@[simp] theorem get_onFault {g f} : (s.onFault g).get f = s.get f := (rfl)
@[simp] theorem flag_onFault {g f} : (s.onFault g).flag f = s.flag f := (rfl)
@[simp] theorem get64_onFault {g a} : (s.onFault g).get64 a = s.get64 a := (rfl)
@[simp] theorem obj_onFault {g i j} : (s.onFault g).obj i j = s.obj i j := (rfl)
@[simp] theorem rd8_onFault {g a} : (s.onFault g).rd8 a = s.rd8 a := (rfl)

/-! `onField`. -/

@[simp] theorem onField_field {g} : (s.onField g).field = g s.field := rfl
@[simp] theorem onField_regs {g} : (s.onField g).regs = s.regs := rfl
@[simp] theorem onField_mem {g} : (s.onField g).mem = s.mem := rfl
@[simp] theorem onField_latches {g} : (s.onField g).latches = s.latches := rfl
@[simp] theorem onField_pending {g} : (s.onField g).pending = s.pending := rfl
@[simp] theorem onField_freeCount {g} : (s.onField g).freeCount = s.freeCount := rfl
@[simp] theorem onField_events {g} : (s.onField g).events = s.events := rfl
@[simp] theorem onField_mesh {g} : (s.onField g).mesh = s.mesh := rfl
@[simp] theorem onField_once {g} : (s.onField g).once = s.once := rfl
@[simp] theorem onField_deliveryOpen {g} : (s.onField g).deliveryOpen = s.deliveryOpen := rfl
@[simp] theorem onField_launched {g} : (s.onField g).launched = s.launched := rfl
@[simp] theorem onField_scanRegs {g} : (s.onField g).scanRegs = s.scanRegs := rfl
@[simp] theorem onField_objs {g} : (s.onField g).objs = s.objs := rfl
@[simp] theorem onField_fault {g} : (s.onField g).fault = s.fault := rfl
@[simp] theorem onField_loadStep {g} : (s.onField g).loadStep = s.loadStep := rfl
@[simp] theorem onField_clearing {g} : (s.onField g).clearing = s.clearing := rfl
@[simp] theorem onField_creditDue {g} : (s.onField g).creditDue = s.creditDue := rfl
@[simp] theorem onField_oooSeen {g} : (s.onField g).oooSeen = s.oooSeen := rfl
@[simp] theorem onField_delivery {g} : (s.onField g).delivery = s.delivery := rfl
@[simp] theorem onField_streams {g} : (s.onField g).streams = s.streams := rfl
@[simp] theorem onField_memories {g} : (s.onField g).memories = s.memories := rfl
@[simp] theorem onField_progress {g} : (s.onField g).progress = s.progress := rfl
@[simp] theorem onField_hub {g} : (s.onField g).hub = s.hub := rfl
@[simp] theorem onField_sent {g} : (s.onField g).sent = s.sent := rfl
@[simp] theorem onField_answer {g} : (s.onField g).answer = s.answer := rfl
@[simp] theorem onField_wakes {g} : (s.onField g).wakes = s.wakes := rfl
@[simp] theorem onField_can {g} : (s.onField g).can = s.can := rfl
@[simp] theorem onField_canMode {g} : (s.onField g).canMode = s.canMode := rfl
@[simp] theorem onField_canStandby {g} : (s.onField g).canStandby = s.canStandby := rfl
@[simp] theorem onField_nmt {g} : (s.onField g).nmt = s.nmt := rfl
@[simp] theorem onField_guard {g} : (s.onField g).guard = s.guard := rfl
@[simp] theorem onField_sec {g} : (s.onField g).sec = s.sec := rfl
@[simp] theorem onField_selectors {g} : (s.onField g).selectors = s.selectors := rfl
@[simp] theorem onField_calendar {g} : (s.onField g).calendar = s.calendar := rfl
@[simp] theorem onField_emcy {g} : (s.onField g).emcy = s.emcy := rfl
@[simp] theorem onField_fw {g} : (s.onField g).fw = s.fw := rfl
@[simp] theorem onField_chkWait {g} : (s.onField g).chkWait = s.chkWait := rfl
@[simp] theorem onField_timers {g} : (s.onField g).timers = s.timers := rfl
@[simp] theorem onField_hang {g} : (s.onField g).hang = s.hang := rfl
@[simp] theorem onField_jtag {g} : (s.onField g).jtag = s.jtag := rfl
@[simp] theorem onField_accesses {g} : (s.onField g).accesses = s.accesses := rfl
@[simp] theorem onField_tlk {g} : (s.onField g).tlk = s.tlk := rfl
@[simp] theorem onField_tlkIn {g} : (s.onField g).tlkIn = s.tlkIn := rfl
@[simp] theorem onField_clock {g} : (s.onField g).clock = s.clock := rfl
@[simp] theorem onField_power {g} : (s.onField g).power = s.power := rfl
@[simp] theorem onField_start {g} : (s.onField g).start = s.start := rfl
@[simp] theorem onField_totals {g} : (s.onField g).totals = s.totals := rfl
@[simp] theorem onField_images {g} : (s.onField g).images = s.images := rfl
@[simp] theorem onField_staging {g} : (s.onField g).staging = s.staging := rfl
@[simp] theorem onField_unsaved {g} : (s.onField g).unsaved = s.unsaved := rfl
@[simp] theorem onField_node {g} : (s.onField g).node = s.node := rfl
@[simp] theorem onField_restoreDue {g} : (s.onField g).restoreDue = s.restoreDue := rfl
@[simp] theorem onField_gates {g} : (s.onField g).gates = s.gates := rfl
@[simp] theorem onField_posted {g} : (s.onField g).posted = s.posted := rfl
@[simp] theorem onField_tbRate {g} : (s.onField g).tbRate = s.tbRate := rfl
@[simp] theorem onField_records {g} : (s.onField g).records = s.records := rfl
@[simp] theorem reg_onField {g a} : (s.onField g).reg a = s.reg a := (rfl)
@[simp] theorem get_onField {g f} : (s.onField g).get f = s.get f := (rfl)
@[simp] theorem flag_onField {g f} : (s.onField g).flag f = s.flag f := (rfl)
@[simp] theorem get64_onField {g a} : (s.onField g).get64 a = s.get64 a := (rfl)
@[simp] theorem obj_onField {g i j} : (s.onField g).obj i j = s.obj i j := (rfl)
@[simp] theorem rd8_onField {g a} : (s.onField g).rd8 a = s.rd8 a := (rfl)

/-! `onFw`. -/

@[simp] theorem onFw_fw {g} : (s.onFw g).fw = g s.fw := rfl
@[simp] theorem onFw_regs {g} : (s.onFw g).regs = s.regs := rfl
@[simp] theorem onFw_mem {g} : (s.onFw g).mem = s.mem := rfl
@[simp] theorem onFw_latches {g} : (s.onFw g).latches = s.latches := rfl
@[simp] theorem onFw_pending {g} : (s.onFw g).pending = s.pending := rfl
@[simp] theorem onFw_freeCount {g} : (s.onFw g).freeCount = s.freeCount := rfl
@[simp] theorem onFw_events {g} : (s.onFw g).events = s.events := rfl
@[simp] theorem onFw_mesh {g} : (s.onFw g).mesh = s.mesh := rfl
@[simp] theorem onFw_once {g} : (s.onFw g).once = s.once := rfl
@[simp] theorem onFw_deliveryOpen {g} : (s.onFw g).deliveryOpen = s.deliveryOpen := rfl
@[simp] theorem onFw_launched {g} : (s.onFw g).launched = s.launched := rfl
@[simp] theorem onFw_scanRegs {g} : (s.onFw g).scanRegs = s.scanRegs := rfl
@[simp] theorem onFw_objs {g} : (s.onFw g).objs = s.objs := rfl
@[simp] theorem onFw_fault {g} : (s.onFw g).fault = s.fault := rfl
@[simp] theorem onFw_loadStep {g} : (s.onFw g).loadStep = s.loadStep := rfl
@[simp] theorem onFw_clearing {g} : (s.onFw g).clearing = s.clearing := rfl
@[simp] theorem onFw_creditDue {g} : (s.onFw g).creditDue = s.creditDue := rfl
@[simp] theorem onFw_oooSeen {g} : (s.onFw g).oooSeen = s.oooSeen := rfl
@[simp] theorem onFw_delivery {g} : (s.onFw g).delivery = s.delivery := rfl
@[simp] theorem onFw_streams {g} : (s.onFw g).streams = s.streams := rfl
@[simp] theorem onFw_memories {g} : (s.onFw g).memories = s.memories := rfl
@[simp] theorem onFw_progress {g} : (s.onFw g).progress = s.progress := rfl
@[simp] theorem onFw_hub {g} : (s.onFw g).hub = s.hub := rfl
@[simp] theorem onFw_sent {g} : (s.onFw g).sent = s.sent := rfl
@[simp] theorem onFw_answer {g} : (s.onFw g).answer = s.answer := rfl
@[simp] theorem onFw_wakes {g} : (s.onFw g).wakes = s.wakes := rfl
@[simp] theorem onFw_can {g} : (s.onFw g).can = s.can := rfl
@[simp] theorem onFw_canMode {g} : (s.onFw g).canMode = s.canMode := rfl
@[simp] theorem onFw_canStandby {g} : (s.onFw g).canStandby = s.canStandby := rfl
@[simp] theorem onFw_nmt {g} : (s.onFw g).nmt = s.nmt := rfl
@[simp] theorem onFw_guard {g} : (s.onFw g).guard = s.guard := rfl
@[simp] theorem onFw_sec {g} : (s.onFw g).sec = s.sec := rfl
@[simp] theorem onFw_selectors {g} : (s.onFw g).selectors = s.selectors := rfl
@[simp] theorem onFw_calendar {g} : (s.onFw g).calendar = s.calendar := rfl
@[simp] theorem onFw_emcy {g} : (s.onFw g).emcy = s.emcy := rfl
@[simp] theorem onFw_chkWait {g} : (s.onFw g).chkWait = s.chkWait := rfl
@[simp] theorem onFw_timers {g} : (s.onFw g).timers = s.timers := rfl
@[simp] theorem onFw_hang {g} : (s.onFw g).hang = s.hang := rfl
@[simp] theorem onFw_jtag {g} : (s.onFw g).jtag = s.jtag := rfl
@[simp] theorem onFw_accesses {g} : (s.onFw g).accesses = s.accesses := rfl
@[simp] theorem onFw_tlk {g} : (s.onFw g).tlk = s.tlk := rfl
@[simp] theorem onFw_tlkIn {g} : (s.onFw g).tlkIn = s.tlkIn := rfl
@[simp] theorem onFw_clock {g} : (s.onFw g).clock = s.clock := rfl
@[simp] theorem onFw_power {g} : (s.onFw g).power = s.power := rfl
@[simp] theorem onFw_start {g} : (s.onFw g).start = s.start := rfl
@[simp] theorem onFw_totals {g} : (s.onFw g).totals = s.totals := rfl
@[simp] theorem onFw_images {g} : (s.onFw g).images = s.images := rfl
@[simp] theorem onFw_staging {g} : (s.onFw g).staging = s.staging := rfl
@[simp] theorem onFw_unsaved {g} : (s.onFw g).unsaved = s.unsaved := rfl
@[simp] theorem onFw_node {g} : (s.onFw g).node = s.node := rfl
@[simp] theorem onFw_restoreDue {g} : (s.onFw g).restoreDue = s.restoreDue := rfl
@[simp] theorem onFw_field {g} : (s.onFw g).field = s.field := rfl
@[simp] theorem onFw_gates {g} : (s.onFw g).gates = s.gates := rfl
@[simp] theorem onFw_posted {g} : (s.onFw g).posted = s.posted := rfl
@[simp] theorem onFw_tbRate {g} : (s.onFw g).tbRate = s.tbRate := rfl
@[simp] theorem onFw_records {g} : (s.onFw g).records = s.records := rfl
@[simp] theorem reg_onFw {g a} : (s.onFw g).reg a = s.reg a := (rfl)
@[simp] theorem get_onFw {g f} : (s.onFw g).get f = s.get f := (rfl)
@[simp] theorem flag_onFw {g f} : (s.onFw g).flag f = s.flag f := (rfl)
@[simp] theorem get64_onFw {g a} : (s.onFw g).get64 a = s.get64 a := (rfl)
@[simp] theorem obj_onFw {g i j} : (s.onFw g).obj i j = s.obj i j := (rfl)
@[simp] theorem rd8_onFw {g a} : (s.onFw g).rd8 a = s.rd8 a := (rfl)

/-! `onGuard`. -/

@[simp] theorem onGuard_guard {g} : (s.onGuard g).guard = g s.guard := rfl
@[simp] theorem onGuard_regs {g} : (s.onGuard g).regs = s.regs := rfl
@[simp] theorem onGuard_mem {g} : (s.onGuard g).mem = s.mem := rfl
@[simp] theorem onGuard_latches {g} : (s.onGuard g).latches = s.latches := rfl
@[simp] theorem onGuard_pending {g} : (s.onGuard g).pending = s.pending := rfl
@[simp] theorem onGuard_freeCount {g} : (s.onGuard g).freeCount = s.freeCount := rfl
@[simp] theorem onGuard_events {g} : (s.onGuard g).events = s.events := rfl
@[simp] theorem onGuard_mesh {g} : (s.onGuard g).mesh = s.mesh := rfl
@[simp] theorem onGuard_once {g} : (s.onGuard g).once = s.once := rfl
@[simp] theorem onGuard_deliveryOpen {g} : (s.onGuard g).deliveryOpen = s.deliveryOpen := rfl
@[simp] theorem onGuard_launched {g} : (s.onGuard g).launched = s.launched := rfl
@[simp] theorem onGuard_scanRegs {g} : (s.onGuard g).scanRegs = s.scanRegs := rfl
@[simp] theorem onGuard_objs {g} : (s.onGuard g).objs = s.objs := rfl
@[simp] theorem onGuard_fault {g} : (s.onGuard g).fault = s.fault := rfl
@[simp] theorem onGuard_loadStep {g} : (s.onGuard g).loadStep = s.loadStep := rfl
@[simp] theorem onGuard_clearing {g} : (s.onGuard g).clearing = s.clearing := rfl
@[simp] theorem onGuard_creditDue {g} : (s.onGuard g).creditDue = s.creditDue := rfl
@[simp] theorem onGuard_oooSeen {g} : (s.onGuard g).oooSeen = s.oooSeen := rfl
@[simp] theorem onGuard_delivery {g} : (s.onGuard g).delivery = s.delivery := rfl
@[simp] theorem onGuard_streams {g} : (s.onGuard g).streams = s.streams := rfl
@[simp] theorem onGuard_memories {g} : (s.onGuard g).memories = s.memories := rfl
@[simp] theorem onGuard_progress {g} : (s.onGuard g).progress = s.progress := rfl
@[simp] theorem onGuard_hub {g} : (s.onGuard g).hub = s.hub := rfl
@[simp] theorem onGuard_sent {g} : (s.onGuard g).sent = s.sent := rfl
@[simp] theorem onGuard_answer {g} : (s.onGuard g).answer = s.answer := rfl
@[simp] theorem onGuard_wakes {g} : (s.onGuard g).wakes = s.wakes := rfl
@[simp] theorem onGuard_can {g} : (s.onGuard g).can = s.can := rfl
@[simp] theorem onGuard_canMode {g} : (s.onGuard g).canMode = s.canMode := rfl
@[simp] theorem onGuard_canStandby {g} : (s.onGuard g).canStandby = s.canStandby := rfl
@[simp] theorem onGuard_nmt {g} : (s.onGuard g).nmt = s.nmt := rfl
@[simp] theorem onGuard_sec {g} : (s.onGuard g).sec = s.sec := rfl
@[simp] theorem onGuard_selectors {g} : (s.onGuard g).selectors = s.selectors := rfl
@[simp] theorem onGuard_calendar {g} : (s.onGuard g).calendar = s.calendar := rfl
@[simp] theorem onGuard_emcy {g} : (s.onGuard g).emcy = s.emcy := rfl
@[simp] theorem onGuard_fw {g} : (s.onGuard g).fw = s.fw := rfl
@[simp] theorem onGuard_chkWait {g} : (s.onGuard g).chkWait = s.chkWait := rfl
@[simp] theorem onGuard_timers {g} : (s.onGuard g).timers = s.timers := rfl
@[simp] theorem onGuard_hang {g} : (s.onGuard g).hang = s.hang := rfl
@[simp] theorem onGuard_jtag {g} : (s.onGuard g).jtag = s.jtag := rfl
@[simp] theorem onGuard_accesses {g} : (s.onGuard g).accesses = s.accesses := rfl
@[simp] theorem onGuard_tlk {g} : (s.onGuard g).tlk = s.tlk := rfl
@[simp] theorem onGuard_tlkIn {g} : (s.onGuard g).tlkIn = s.tlkIn := rfl
@[simp] theorem onGuard_clock {g} : (s.onGuard g).clock = s.clock := rfl
@[simp] theorem onGuard_power {g} : (s.onGuard g).power = s.power := rfl
@[simp] theorem onGuard_start {g} : (s.onGuard g).start = s.start := rfl
@[simp] theorem onGuard_totals {g} : (s.onGuard g).totals = s.totals := rfl
@[simp] theorem onGuard_images {g} : (s.onGuard g).images = s.images := rfl
@[simp] theorem onGuard_staging {g} : (s.onGuard g).staging = s.staging := rfl
@[simp] theorem onGuard_unsaved {g} : (s.onGuard g).unsaved = s.unsaved := rfl
@[simp] theorem onGuard_node {g} : (s.onGuard g).node = s.node := rfl
@[simp] theorem onGuard_restoreDue {g} : (s.onGuard g).restoreDue = s.restoreDue := rfl
@[simp] theorem onGuard_field {g} : (s.onGuard g).field = s.field := rfl
@[simp] theorem onGuard_gates {g} : (s.onGuard g).gates = s.gates := rfl
@[simp] theorem onGuard_posted {g} : (s.onGuard g).posted = s.posted := rfl
@[simp] theorem onGuard_tbRate {g} : (s.onGuard g).tbRate = s.tbRate := rfl
@[simp] theorem onGuard_records {g} : (s.onGuard g).records = s.records := rfl
@[simp] theorem reg_onGuard {g a} : (s.onGuard g).reg a = s.reg a := (rfl)
@[simp] theorem get_onGuard {g f} : (s.onGuard g).get f = s.get f := (rfl)
@[simp] theorem flag_onGuard {g f} : (s.onGuard g).flag f = s.flag f := (rfl)
@[simp] theorem get64_onGuard {g a} : (s.onGuard g).get64 a = s.get64 a := (rfl)
@[simp] theorem obj_onGuard {g i j} : (s.onGuard g).obj i j = s.obj i j := (rfl)
@[simp] theorem rd8_onGuard {g a} : (s.onGuard g).rd8 a = s.rd8 a := (rfl)

/-! `onJtag`. -/

@[simp] theorem onJtag_jtag {g} : (s.onJtag g).jtag = g s.jtag := rfl
@[simp] theorem onJtag_regs {g} : (s.onJtag g).regs = s.regs := rfl
@[simp] theorem onJtag_mem {g} : (s.onJtag g).mem = s.mem := rfl
@[simp] theorem onJtag_latches {g} : (s.onJtag g).latches = s.latches := rfl
@[simp] theorem onJtag_pending {g} : (s.onJtag g).pending = s.pending := rfl
@[simp] theorem onJtag_freeCount {g} : (s.onJtag g).freeCount = s.freeCount := rfl
@[simp] theorem onJtag_events {g} : (s.onJtag g).events = s.events := rfl
@[simp] theorem onJtag_mesh {g} : (s.onJtag g).mesh = s.mesh := rfl
@[simp] theorem onJtag_once {g} : (s.onJtag g).once = s.once := rfl
@[simp] theorem onJtag_deliveryOpen {g} : (s.onJtag g).deliveryOpen = s.deliveryOpen := rfl
@[simp] theorem onJtag_launched {g} : (s.onJtag g).launched = s.launched := rfl
@[simp] theorem onJtag_scanRegs {g} : (s.onJtag g).scanRegs = s.scanRegs := rfl
@[simp] theorem onJtag_objs {g} : (s.onJtag g).objs = s.objs := rfl
@[simp] theorem onJtag_fault {g} : (s.onJtag g).fault = s.fault := rfl
@[simp] theorem onJtag_loadStep {g} : (s.onJtag g).loadStep = s.loadStep := rfl
@[simp] theorem onJtag_clearing {g} : (s.onJtag g).clearing = s.clearing := rfl
@[simp] theorem onJtag_creditDue {g} : (s.onJtag g).creditDue = s.creditDue := rfl
@[simp] theorem onJtag_oooSeen {g} : (s.onJtag g).oooSeen = s.oooSeen := rfl
@[simp] theorem onJtag_delivery {g} : (s.onJtag g).delivery = s.delivery := rfl
@[simp] theorem onJtag_streams {g} : (s.onJtag g).streams = s.streams := rfl
@[simp] theorem onJtag_memories {g} : (s.onJtag g).memories = s.memories := rfl
@[simp] theorem onJtag_progress {g} : (s.onJtag g).progress = s.progress := rfl
@[simp] theorem onJtag_hub {g} : (s.onJtag g).hub = s.hub := rfl
@[simp] theorem onJtag_sent {g} : (s.onJtag g).sent = s.sent := rfl
@[simp] theorem onJtag_answer {g} : (s.onJtag g).answer = s.answer := rfl
@[simp] theorem onJtag_wakes {g} : (s.onJtag g).wakes = s.wakes := rfl
@[simp] theorem onJtag_can {g} : (s.onJtag g).can = s.can := rfl
@[simp] theorem onJtag_canMode {g} : (s.onJtag g).canMode = s.canMode := rfl
@[simp] theorem onJtag_canStandby {g} : (s.onJtag g).canStandby = s.canStandby := rfl
@[simp] theorem onJtag_nmt {g} : (s.onJtag g).nmt = s.nmt := rfl
@[simp] theorem onJtag_guard {g} : (s.onJtag g).guard = s.guard := rfl
@[simp] theorem onJtag_sec {g} : (s.onJtag g).sec = s.sec := rfl
@[simp] theorem onJtag_selectors {g} : (s.onJtag g).selectors = s.selectors := rfl
@[simp] theorem onJtag_calendar {g} : (s.onJtag g).calendar = s.calendar := rfl
@[simp] theorem onJtag_emcy {g} : (s.onJtag g).emcy = s.emcy := rfl
@[simp] theorem onJtag_fw {g} : (s.onJtag g).fw = s.fw := rfl
@[simp] theorem onJtag_chkWait {g} : (s.onJtag g).chkWait = s.chkWait := rfl
@[simp] theorem onJtag_timers {g} : (s.onJtag g).timers = s.timers := rfl
@[simp] theorem onJtag_hang {g} : (s.onJtag g).hang = s.hang := rfl
@[simp] theorem onJtag_accesses {g} : (s.onJtag g).accesses = s.accesses := rfl
@[simp] theorem onJtag_tlk {g} : (s.onJtag g).tlk = s.tlk := rfl
@[simp] theorem onJtag_tlkIn {g} : (s.onJtag g).tlkIn = s.tlkIn := rfl
@[simp] theorem onJtag_clock {g} : (s.onJtag g).clock = s.clock := rfl
@[simp] theorem onJtag_power {g} : (s.onJtag g).power = s.power := rfl
@[simp] theorem onJtag_start {g} : (s.onJtag g).start = s.start := rfl
@[simp] theorem onJtag_totals {g} : (s.onJtag g).totals = s.totals := rfl
@[simp] theorem onJtag_images {g} : (s.onJtag g).images = s.images := rfl
@[simp] theorem onJtag_staging {g} : (s.onJtag g).staging = s.staging := rfl
@[simp] theorem onJtag_unsaved {g} : (s.onJtag g).unsaved = s.unsaved := rfl
@[simp] theorem onJtag_node {g} : (s.onJtag g).node = s.node := rfl
@[simp] theorem onJtag_restoreDue {g} : (s.onJtag g).restoreDue = s.restoreDue := rfl
@[simp] theorem onJtag_field {g} : (s.onJtag g).field = s.field := rfl
@[simp] theorem onJtag_gates {g} : (s.onJtag g).gates = s.gates := rfl
@[simp] theorem onJtag_posted {g} : (s.onJtag g).posted = s.posted := rfl
@[simp] theorem onJtag_tbRate {g} : (s.onJtag g).tbRate = s.tbRate := rfl
@[simp] theorem onJtag_records {g} : (s.onJtag g).records = s.records := rfl
@[simp] theorem reg_onJtag {g a} : (s.onJtag g).reg a = s.reg a := (rfl)
@[simp] theorem get_onJtag {g f} : (s.onJtag g).get f = s.get f := (rfl)
@[simp] theorem flag_onJtag {g f} : (s.onJtag g).flag f = s.flag f := (rfl)
@[simp] theorem get64_onJtag {g a} : (s.onJtag g).get64 a = s.get64 a := (rfl)
@[simp] theorem obj_onJtag {g i j} : (s.onJtag g).obj i j = s.obj i j := (rfl)
@[simp] theorem rd8_onJtag {g a} : (s.onJtag g).rd8 a = s.rd8 a := (rfl)

/-! `onMesh`. -/

@[simp] theorem onMesh_mesh {g} : (s.onMesh g).mesh = g s.mesh := rfl
@[simp] theorem onMesh_regs {g} : (s.onMesh g).regs = s.regs := rfl
@[simp] theorem onMesh_mem {g} : (s.onMesh g).mem = s.mem := rfl
@[simp] theorem onMesh_latches {g} : (s.onMesh g).latches = s.latches := rfl
@[simp] theorem onMesh_pending {g} : (s.onMesh g).pending = s.pending := rfl
@[simp] theorem onMesh_freeCount {g} : (s.onMesh g).freeCount = s.freeCount := rfl
@[simp] theorem onMesh_events {g} : (s.onMesh g).events = s.events := rfl
@[simp] theorem onMesh_once {g} : (s.onMesh g).once = s.once := rfl
@[simp] theorem onMesh_deliveryOpen {g} : (s.onMesh g).deliveryOpen = s.deliveryOpen := rfl
@[simp] theorem onMesh_launched {g} : (s.onMesh g).launched = s.launched := rfl
@[simp] theorem onMesh_scanRegs {g} : (s.onMesh g).scanRegs = s.scanRegs := rfl
@[simp] theorem onMesh_objs {g} : (s.onMesh g).objs = s.objs := rfl
@[simp] theorem onMesh_fault {g} : (s.onMesh g).fault = s.fault := rfl
@[simp] theorem onMesh_loadStep {g} : (s.onMesh g).loadStep = s.loadStep := rfl
@[simp] theorem onMesh_clearing {g} : (s.onMesh g).clearing = s.clearing := rfl
@[simp] theorem onMesh_creditDue {g} : (s.onMesh g).creditDue = s.creditDue := rfl
@[simp] theorem onMesh_oooSeen {g} : (s.onMesh g).oooSeen = s.oooSeen := rfl
@[simp] theorem onMesh_delivery {g} : (s.onMesh g).delivery = s.delivery := rfl
@[simp] theorem onMesh_streams {g} : (s.onMesh g).streams = s.streams := rfl
@[simp] theorem onMesh_memories {g} : (s.onMesh g).memories = s.memories := rfl
@[simp] theorem onMesh_progress {g} : (s.onMesh g).progress = s.progress := rfl
@[simp] theorem onMesh_hub {g} : (s.onMesh g).hub = s.hub := rfl
@[simp] theorem onMesh_sent {g} : (s.onMesh g).sent = s.sent := rfl
@[simp] theorem onMesh_answer {g} : (s.onMesh g).answer = s.answer := rfl
@[simp] theorem onMesh_wakes {g} : (s.onMesh g).wakes = s.wakes := rfl
@[simp] theorem onMesh_can {g} : (s.onMesh g).can = s.can := rfl
@[simp] theorem onMesh_canMode {g} : (s.onMesh g).canMode = s.canMode := rfl
@[simp] theorem onMesh_canStandby {g} : (s.onMesh g).canStandby = s.canStandby := rfl
@[simp] theorem onMesh_nmt {g} : (s.onMesh g).nmt = s.nmt := rfl
@[simp] theorem onMesh_guard {g} : (s.onMesh g).guard = s.guard := rfl
@[simp] theorem onMesh_sec {g} : (s.onMesh g).sec = s.sec := rfl
@[simp] theorem onMesh_selectors {g} : (s.onMesh g).selectors = s.selectors := rfl
@[simp] theorem onMesh_calendar {g} : (s.onMesh g).calendar = s.calendar := rfl
@[simp] theorem onMesh_emcy {g} : (s.onMesh g).emcy = s.emcy := rfl
@[simp] theorem onMesh_fw {g} : (s.onMesh g).fw = s.fw := rfl
@[simp] theorem onMesh_chkWait {g} : (s.onMesh g).chkWait = s.chkWait := rfl
@[simp] theorem onMesh_timers {g} : (s.onMesh g).timers = s.timers := rfl
@[simp] theorem onMesh_hang {g} : (s.onMesh g).hang = s.hang := rfl
@[simp] theorem onMesh_jtag {g} : (s.onMesh g).jtag = s.jtag := rfl
@[simp] theorem onMesh_accesses {g} : (s.onMesh g).accesses = s.accesses := rfl
@[simp] theorem onMesh_tlk {g} : (s.onMesh g).tlk = s.tlk := rfl
@[simp] theorem onMesh_tlkIn {g} : (s.onMesh g).tlkIn = s.tlkIn := rfl
@[simp] theorem onMesh_clock {g} : (s.onMesh g).clock = s.clock := rfl
@[simp] theorem onMesh_power {g} : (s.onMesh g).power = s.power := rfl
@[simp] theorem onMesh_start {g} : (s.onMesh g).start = s.start := rfl
@[simp] theorem onMesh_totals {g} : (s.onMesh g).totals = s.totals := rfl
@[simp] theorem onMesh_images {g} : (s.onMesh g).images = s.images := rfl
@[simp] theorem onMesh_staging {g} : (s.onMesh g).staging = s.staging := rfl
@[simp] theorem onMesh_unsaved {g} : (s.onMesh g).unsaved = s.unsaved := rfl
@[simp] theorem onMesh_node {g} : (s.onMesh g).node = s.node := rfl
@[simp] theorem onMesh_restoreDue {g} : (s.onMesh g).restoreDue = s.restoreDue := rfl
@[simp] theorem onMesh_field {g} : (s.onMesh g).field = s.field := rfl
@[simp] theorem onMesh_gates {g} : (s.onMesh g).gates = s.gates := rfl
@[simp] theorem onMesh_posted {g} : (s.onMesh g).posted = s.posted := rfl
@[simp] theorem onMesh_tbRate {g} : (s.onMesh g).tbRate = s.tbRate := rfl
@[simp] theorem onMesh_records {g} : (s.onMesh g).records = s.records := rfl
@[simp] theorem reg_onMesh {g a} : (s.onMesh g).reg a = s.reg a := (rfl)
@[simp] theorem get_onMesh {g f} : (s.onMesh g).get f = s.get f := (rfl)
@[simp] theorem flag_onMesh {g f} : (s.onMesh g).flag f = s.flag f := (rfl)
@[simp] theorem get64_onMesh {g a} : (s.onMesh g).get64 a = s.get64 a := (rfl)
@[simp] theorem obj_onMesh {g i j} : (s.onMesh g).obj i j = s.obj i j := (rfl)
@[simp] theorem rd8_onMesh {g a} : (s.onMesh g).rd8 a = s.rd8 a := (rfl)

/-! `onPower`. -/

@[simp] theorem onPower_power {g} : (s.onPower g).power = g s.power := rfl
@[simp] theorem onPower_regs {g} : (s.onPower g).regs = s.regs := rfl
@[simp] theorem onPower_mem {g} : (s.onPower g).mem = s.mem := rfl
@[simp] theorem onPower_latches {g} : (s.onPower g).latches = s.latches := rfl
@[simp] theorem onPower_pending {g} : (s.onPower g).pending = s.pending := rfl
@[simp] theorem onPower_freeCount {g} : (s.onPower g).freeCount = s.freeCount := rfl
@[simp] theorem onPower_events {g} : (s.onPower g).events = s.events := rfl
@[simp] theorem onPower_mesh {g} : (s.onPower g).mesh = s.mesh := rfl
@[simp] theorem onPower_once {g} : (s.onPower g).once = s.once := rfl
@[simp] theorem onPower_deliveryOpen {g} : (s.onPower g).deliveryOpen = s.deliveryOpen := rfl
@[simp] theorem onPower_launched {g} : (s.onPower g).launched = s.launched := rfl
@[simp] theorem onPower_scanRegs {g} : (s.onPower g).scanRegs = s.scanRegs := rfl
@[simp] theorem onPower_objs {g} : (s.onPower g).objs = s.objs := rfl
@[simp] theorem onPower_fault {g} : (s.onPower g).fault = s.fault := rfl
@[simp] theorem onPower_loadStep {g} : (s.onPower g).loadStep = s.loadStep := rfl
@[simp] theorem onPower_clearing {g} : (s.onPower g).clearing = s.clearing := rfl
@[simp] theorem onPower_creditDue {g} : (s.onPower g).creditDue = s.creditDue := rfl
@[simp] theorem onPower_oooSeen {g} : (s.onPower g).oooSeen = s.oooSeen := rfl
@[simp] theorem onPower_delivery {g} : (s.onPower g).delivery = s.delivery := rfl
@[simp] theorem onPower_streams {g} : (s.onPower g).streams = s.streams := rfl
@[simp] theorem onPower_memories {g} : (s.onPower g).memories = s.memories := rfl
@[simp] theorem onPower_progress {g} : (s.onPower g).progress = s.progress := rfl
@[simp] theorem onPower_hub {g} : (s.onPower g).hub = s.hub := rfl
@[simp] theorem onPower_sent {g} : (s.onPower g).sent = s.sent := rfl
@[simp] theorem onPower_answer {g} : (s.onPower g).answer = s.answer := rfl
@[simp] theorem onPower_wakes {g} : (s.onPower g).wakes = s.wakes := rfl
@[simp] theorem onPower_can {g} : (s.onPower g).can = s.can := rfl
@[simp] theorem onPower_canMode {g} : (s.onPower g).canMode = s.canMode := rfl
@[simp] theorem onPower_canStandby {g} : (s.onPower g).canStandby = s.canStandby := rfl
@[simp] theorem onPower_nmt {g} : (s.onPower g).nmt = s.nmt := rfl
@[simp] theorem onPower_guard {g} : (s.onPower g).guard = s.guard := rfl
@[simp] theorem onPower_sec {g} : (s.onPower g).sec = s.sec := rfl
@[simp] theorem onPower_selectors {g} : (s.onPower g).selectors = s.selectors := rfl
@[simp] theorem onPower_calendar {g} : (s.onPower g).calendar = s.calendar := rfl
@[simp] theorem onPower_emcy {g} : (s.onPower g).emcy = s.emcy := rfl
@[simp] theorem onPower_fw {g} : (s.onPower g).fw = s.fw := rfl
@[simp] theorem onPower_chkWait {g} : (s.onPower g).chkWait = s.chkWait := rfl
@[simp] theorem onPower_timers {g} : (s.onPower g).timers = s.timers := rfl
@[simp] theorem onPower_hang {g} : (s.onPower g).hang = s.hang := rfl
@[simp] theorem onPower_jtag {g} : (s.onPower g).jtag = s.jtag := rfl
@[simp] theorem onPower_accesses {g} : (s.onPower g).accesses = s.accesses := rfl
@[simp] theorem onPower_tlk {g} : (s.onPower g).tlk = s.tlk := rfl
@[simp] theorem onPower_tlkIn {g} : (s.onPower g).tlkIn = s.tlkIn := rfl
@[simp] theorem onPower_clock {g} : (s.onPower g).clock = s.clock := rfl
@[simp] theorem onPower_start {g} : (s.onPower g).start = s.start := rfl
@[simp] theorem onPower_totals {g} : (s.onPower g).totals = s.totals := rfl
@[simp] theorem onPower_images {g} : (s.onPower g).images = s.images := rfl
@[simp] theorem onPower_staging {g} : (s.onPower g).staging = s.staging := rfl
@[simp] theorem onPower_unsaved {g} : (s.onPower g).unsaved = s.unsaved := rfl
@[simp] theorem onPower_node {g} : (s.onPower g).node = s.node := rfl
@[simp] theorem onPower_restoreDue {g} : (s.onPower g).restoreDue = s.restoreDue := rfl
@[simp] theorem onPower_field {g} : (s.onPower g).field = s.field := rfl
@[simp] theorem onPower_gates {g} : (s.onPower g).gates = s.gates := rfl
@[simp] theorem onPower_posted {g} : (s.onPower g).posted = s.posted := rfl
@[simp] theorem onPower_tbRate {g} : (s.onPower g).tbRate = s.tbRate := rfl
@[simp] theorem onPower_records {g} : (s.onPower g).records = s.records := rfl
@[simp] theorem reg_onPower {g a} : (s.onPower g).reg a = s.reg a := (rfl)
@[simp] theorem get_onPower {g f} : (s.onPower g).get f = s.get f := (rfl)
@[simp] theorem flag_onPower {g f} : (s.onPower g).flag f = s.flag f := (rfl)
@[simp] theorem get64_onPower {g a} : (s.onPower g).get64 a = s.get64 a := (rfl)
@[simp] theorem obj_onPower {g i j} : (s.onPower g).obj i j = s.obj i j := (rfl)
@[simp] theorem rd8_onPower {g a} : (s.onPower g).rd8 a = s.rd8 a := (rfl)

/-! `onStreams`. -/

@[simp] theorem onStreams_streams {g} : (s.onStreams g).streams = g s.streams := rfl
@[simp] theorem onStreams_regs {g} : (s.onStreams g).regs = s.regs := rfl
@[simp] theorem onStreams_mem {g} : (s.onStreams g).mem = s.mem := rfl
@[simp] theorem onStreams_latches {g} : (s.onStreams g).latches = s.latches := rfl
@[simp] theorem onStreams_pending {g} : (s.onStreams g).pending = s.pending := rfl
@[simp] theorem onStreams_freeCount {g} : (s.onStreams g).freeCount = s.freeCount := rfl
@[simp] theorem onStreams_events {g} : (s.onStreams g).events = s.events := rfl
@[simp] theorem onStreams_mesh {g} : (s.onStreams g).mesh = s.mesh := rfl
@[simp] theorem onStreams_once {g} : (s.onStreams g).once = s.once := rfl
@[simp] theorem onStreams_deliveryOpen {g} : (s.onStreams g).deliveryOpen = s.deliveryOpen := rfl
@[simp] theorem onStreams_launched {g} : (s.onStreams g).launched = s.launched := rfl
@[simp] theorem onStreams_scanRegs {g} : (s.onStreams g).scanRegs = s.scanRegs := rfl
@[simp] theorem onStreams_objs {g} : (s.onStreams g).objs = s.objs := rfl
@[simp] theorem onStreams_fault {g} : (s.onStreams g).fault = s.fault := rfl
@[simp] theorem onStreams_loadStep {g} : (s.onStreams g).loadStep = s.loadStep := rfl
@[simp] theorem onStreams_clearing {g} : (s.onStreams g).clearing = s.clearing := rfl
@[simp] theorem onStreams_creditDue {g} : (s.onStreams g).creditDue = s.creditDue := rfl
@[simp] theorem onStreams_oooSeen {g} : (s.onStreams g).oooSeen = s.oooSeen := rfl
@[simp] theorem onStreams_delivery {g} : (s.onStreams g).delivery = s.delivery := rfl
@[simp] theorem onStreams_memories {g} : (s.onStreams g).memories = s.memories := rfl
@[simp] theorem onStreams_progress {g} : (s.onStreams g).progress = s.progress := rfl
@[simp] theorem onStreams_hub {g} : (s.onStreams g).hub = s.hub := rfl
@[simp] theorem onStreams_sent {g} : (s.onStreams g).sent = s.sent := rfl
@[simp] theorem onStreams_answer {g} : (s.onStreams g).answer = s.answer := rfl
@[simp] theorem onStreams_wakes {g} : (s.onStreams g).wakes = s.wakes := rfl
@[simp] theorem onStreams_can {g} : (s.onStreams g).can = s.can := rfl
@[simp] theorem onStreams_canMode {g} : (s.onStreams g).canMode = s.canMode := rfl
@[simp] theorem onStreams_canStandby {g} : (s.onStreams g).canStandby = s.canStandby := rfl
@[simp] theorem onStreams_nmt {g} : (s.onStreams g).nmt = s.nmt := rfl
@[simp] theorem onStreams_guard {g} : (s.onStreams g).guard = s.guard := rfl
@[simp] theorem onStreams_sec {g} : (s.onStreams g).sec = s.sec := rfl
@[simp] theorem onStreams_selectors {g} : (s.onStreams g).selectors = s.selectors := rfl
@[simp] theorem onStreams_calendar {g} : (s.onStreams g).calendar = s.calendar := rfl
@[simp] theorem onStreams_emcy {g} : (s.onStreams g).emcy = s.emcy := rfl
@[simp] theorem onStreams_fw {g} : (s.onStreams g).fw = s.fw := rfl
@[simp] theorem onStreams_chkWait {g} : (s.onStreams g).chkWait = s.chkWait := rfl
@[simp] theorem onStreams_timers {g} : (s.onStreams g).timers = s.timers := rfl
@[simp] theorem onStreams_hang {g} : (s.onStreams g).hang = s.hang := rfl
@[simp] theorem onStreams_jtag {g} : (s.onStreams g).jtag = s.jtag := rfl
@[simp] theorem onStreams_accesses {g} : (s.onStreams g).accesses = s.accesses := rfl
@[simp] theorem onStreams_tlk {g} : (s.onStreams g).tlk = s.tlk := rfl
@[simp] theorem onStreams_tlkIn {g} : (s.onStreams g).tlkIn = s.tlkIn := rfl
@[simp] theorem onStreams_clock {g} : (s.onStreams g).clock = s.clock := rfl
@[simp] theorem onStreams_power {g} : (s.onStreams g).power = s.power := rfl
@[simp] theorem onStreams_start {g} : (s.onStreams g).start = s.start := rfl
@[simp] theorem onStreams_totals {g} : (s.onStreams g).totals = s.totals := rfl
@[simp] theorem onStreams_images {g} : (s.onStreams g).images = s.images := rfl
@[simp] theorem onStreams_staging {g} : (s.onStreams g).staging = s.staging := rfl
@[simp] theorem onStreams_unsaved {g} : (s.onStreams g).unsaved = s.unsaved := rfl
@[simp] theorem onStreams_node {g} : (s.onStreams g).node = s.node := rfl
@[simp] theorem onStreams_restoreDue {g} : (s.onStreams g).restoreDue = s.restoreDue := rfl
@[simp] theorem onStreams_field {g} : (s.onStreams g).field = s.field := rfl
@[simp] theorem onStreams_gates {g} : (s.onStreams g).gates = s.gates := rfl
@[simp] theorem onStreams_posted {g} : (s.onStreams g).posted = s.posted := rfl
@[simp] theorem onStreams_tbRate {g} : (s.onStreams g).tbRate = s.tbRate := rfl
@[simp] theorem onStreams_records {g} : (s.onStreams g).records = s.records := rfl
@[simp] theorem reg_onStreams {g a} : (s.onStreams g).reg a = s.reg a := (rfl)
@[simp] theorem get_onStreams {g f} : (s.onStreams g).get f = s.get f := (rfl)
@[simp] theorem flag_onStreams {g f} : (s.onStreams g).flag f = s.flag f := (rfl)
@[simp] theorem get64_onStreams {g a} : (s.onStreams g).get64 a = s.get64 a := (rfl)
@[simp] theorem obj_onStreams {g i j} : (s.onStreams g).obj i j = s.obj i j := (rfl)
@[simp] theorem rd8_onStreams {g a} : (s.onStreams g).rd8 a = s.rd8 a := (rfl)

/-! `onMemories`. -/

@[simp] theorem onMemories_memories {g} : (s.onMemories g).memories = g s.memories := rfl
@[simp] theorem onMemories_regs {g} : (s.onMemories g).regs = s.regs := rfl
@[simp] theorem onMemories_mem {g} : (s.onMemories g).mem = s.mem := rfl
@[simp] theorem onMemories_latches {g} : (s.onMemories g).latches = s.latches := rfl
@[simp] theorem onMemories_pending {g} : (s.onMemories g).pending = s.pending := rfl
@[simp] theorem onMemories_freeCount {g} : (s.onMemories g).freeCount = s.freeCount := rfl
@[simp] theorem onMemories_events {g} : (s.onMemories g).events = s.events := rfl
@[simp] theorem onMemories_mesh {g} : (s.onMemories g).mesh = s.mesh := rfl
@[simp] theorem onMemories_once {g} : (s.onMemories g).once = s.once := rfl
@[simp] theorem onMemories_deliveryOpen {g} : (s.onMemories g).deliveryOpen = s.deliveryOpen := rfl
@[simp] theorem onMemories_launched {g} : (s.onMemories g).launched = s.launched := rfl
@[simp] theorem onMemories_scanRegs {g} : (s.onMemories g).scanRegs = s.scanRegs := rfl
@[simp] theorem onMemories_objs {g} : (s.onMemories g).objs = s.objs := rfl
@[simp] theorem onMemories_fault {g} : (s.onMemories g).fault = s.fault := rfl
@[simp] theorem onMemories_loadStep {g} : (s.onMemories g).loadStep = s.loadStep := rfl
@[simp] theorem onMemories_clearing {g} : (s.onMemories g).clearing = s.clearing := rfl
@[simp] theorem onMemories_creditDue {g} : (s.onMemories g).creditDue = s.creditDue := rfl
@[simp] theorem onMemories_oooSeen {g} : (s.onMemories g).oooSeen = s.oooSeen := rfl
@[simp] theorem onMemories_delivery {g} : (s.onMemories g).delivery = s.delivery := rfl
@[simp] theorem onMemories_streams {g} : (s.onMemories g).streams = s.streams := rfl
@[simp] theorem onMemories_progress {g} : (s.onMemories g).progress = s.progress := rfl
@[simp] theorem onMemories_hub {g} : (s.onMemories g).hub = s.hub := rfl
@[simp] theorem onMemories_sent {g} : (s.onMemories g).sent = s.sent := rfl
@[simp] theorem onMemories_answer {g} : (s.onMemories g).answer = s.answer := rfl
@[simp] theorem onMemories_wakes {g} : (s.onMemories g).wakes = s.wakes := rfl
@[simp] theorem onMemories_can {g} : (s.onMemories g).can = s.can := rfl
@[simp] theorem onMemories_canMode {g} : (s.onMemories g).canMode = s.canMode := rfl
@[simp] theorem onMemories_canStandby {g} : (s.onMemories g).canStandby = s.canStandby := rfl
@[simp] theorem onMemories_nmt {g} : (s.onMemories g).nmt = s.nmt := rfl
@[simp] theorem onMemories_guard {g} : (s.onMemories g).guard = s.guard := rfl
@[simp] theorem onMemories_sec {g} : (s.onMemories g).sec = s.sec := rfl
@[simp] theorem onMemories_selectors {g} : (s.onMemories g).selectors = s.selectors := rfl
@[simp] theorem onMemories_calendar {g} : (s.onMemories g).calendar = s.calendar := rfl
@[simp] theorem onMemories_emcy {g} : (s.onMemories g).emcy = s.emcy := rfl
@[simp] theorem onMemories_fw {g} : (s.onMemories g).fw = s.fw := rfl
@[simp] theorem onMemories_chkWait {g} : (s.onMemories g).chkWait = s.chkWait := rfl
@[simp] theorem onMemories_timers {g} : (s.onMemories g).timers = s.timers := rfl
@[simp] theorem onMemories_hang {g} : (s.onMemories g).hang = s.hang := rfl
@[simp] theorem onMemories_jtag {g} : (s.onMemories g).jtag = s.jtag := rfl
@[simp] theorem onMemories_accesses {g} : (s.onMemories g).accesses = s.accesses := rfl
@[simp] theorem onMemories_tlk {g} : (s.onMemories g).tlk = s.tlk := rfl
@[simp] theorem onMemories_tlkIn {g} : (s.onMemories g).tlkIn = s.tlkIn := rfl
@[simp] theorem onMemories_clock {g} : (s.onMemories g).clock = s.clock := rfl
@[simp] theorem onMemories_power {g} : (s.onMemories g).power = s.power := rfl
@[simp] theorem onMemories_start {g} : (s.onMemories g).start = s.start := rfl
@[simp] theorem onMemories_totals {g} : (s.onMemories g).totals = s.totals := rfl
@[simp] theorem onMemories_images {g} : (s.onMemories g).images = s.images := rfl
@[simp] theorem onMemories_staging {g} : (s.onMemories g).staging = s.staging := rfl
@[simp] theorem onMemories_unsaved {g} : (s.onMemories g).unsaved = s.unsaved := rfl
@[simp] theorem onMemories_node {g} : (s.onMemories g).node = s.node := rfl
@[simp] theorem onMemories_restoreDue {g} : (s.onMemories g).restoreDue = s.restoreDue := rfl
@[simp] theorem onMemories_field {g} : (s.onMemories g).field = s.field := rfl
@[simp] theorem onMemories_gates {g} : (s.onMemories g).gates = s.gates := rfl
@[simp] theorem onMemories_posted {g} : (s.onMemories g).posted = s.posted := rfl
@[simp] theorem onMemories_tbRate {g} : (s.onMemories g).tbRate = s.tbRate := rfl
@[simp] theorem onMemories_records {g} : (s.onMemories g).records = s.records := rfl
@[simp] theorem reg_onMemories {g a} : (s.onMemories g).reg a = s.reg a := (rfl)
@[simp] theorem get_onMemories {g f} : (s.onMemories g).get f = s.get f := (rfl)
@[simp] theorem flag_onMemories {g f} : (s.onMemories g).flag f = s.flag f := (rfl)
@[simp] theorem get64_onMemories {g a} : (s.onMemories g).get64 a = s.get64 a := (rfl)
@[simp] theorem obj_onMemories {g i j} : (s.onMemories g).obj i j = s.obj i j := (rfl)

/-! `onSec`. -/

@[simp] theorem onSec_sec {g} : (s.onSec g).sec = g s.sec := rfl
@[simp] theorem onSec_regs {g} : (s.onSec g).regs = s.regs := rfl
@[simp] theorem onSec_mem {g} : (s.onSec g).mem = s.mem := rfl
@[simp] theorem onSec_latches {g} : (s.onSec g).latches = s.latches := rfl
@[simp] theorem onSec_pending {g} : (s.onSec g).pending = s.pending := rfl
@[simp] theorem onSec_freeCount {g} : (s.onSec g).freeCount = s.freeCount := rfl
@[simp] theorem onSec_events {g} : (s.onSec g).events = s.events := rfl
@[simp] theorem onSec_mesh {g} : (s.onSec g).mesh = s.mesh := rfl
@[simp] theorem onSec_once {g} : (s.onSec g).once = s.once := rfl
@[simp] theorem onSec_deliveryOpen {g} : (s.onSec g).deliveryOpen = s.deliveryOpen := rfl
@[simp] theorem onSec_launched {g} : (s.onSec g).launched = s.launched := rfl
@[simp] theorem onSec_scanRegs {g} : (s.onSec g).scanRegs = s.scanRegs := rfl
@[simp] theorem onSec_objs {g} : (s.onSec g).objs = s.objs := rfl
@[simp] theorem onSec_fault {g} : (s.onSec g).fault = s.fault := rfl
@[simp] theorem onSec_loadStep {g} : (s.onSec g).loadStep = s.loadStep := rfl
@[simp] theorem onSec_clearing {g} : (s.onSec g).clearing = s.clearing := rfl
@[simp] theorem onSec_creditDue {g} : (s.onSec g).creditDue = s.creditDue := rfl
@[simp] theorem onSec_oooSeen {g} : (s.onSec g).oooSeen = s.oooSeen := rfl
@[simp] theorem onSec_delivery {g} : (s.onSec g).delivery = s.delivery := rfl
@[simp] theorem onSec_streams {g} : (s.onSec g).streams = s.streams := rfl
@[simp] theorem onSec_memories {g} : (s.onSec g).memories = s.memories := rfl
@[simp] theorem onSec_progress {g} : (s.onSec g).progress = s.progress := rfl
@[simp] theorem onSec_hub {g} : (s.onSec g).hub = s.hub := rfl
@[simp] theorem onSec_sent {g} : (s.onSec g).sent = s.sent := rfl
@[simp] theorem onSec_answer {g} : (s.onSec g).answer = s.answer := rfl
@[simp] theorem onSec_wakes {g} : (s.onSec g).wakes = s.wakes := rfl
@[simp] theorem onSec_can {g} : (s.onSec g).can = s.can := rfl
@[simp] theorem onSec_canMode {g} : (s.onSec g).canMode = s.canMode := rfl
@[simp] theorem onSec_canStandby {g} : (s.onSec g).canStandby = s.canStandby := rfl
@[simp] theorem onSec_nmt {g} : (s.onSec g).nmt = s.nmt := rfl
@[simp] theorem onSec_guard {g} : (s.onSec g).guard = s.guard := rfl
@[simp] theorem onSec_selectors {g} : (s.onSec g).selectors = s.selectors := rfl
@[simp] theorem onSec_calendar {g} : (s.onSec g).calendar = s.calendar := rfl
@[simp] theorem onSec_emcy {g} : (s.onSec g).emcy = s.emcy := rfl
@[simp] theorem onSec_fw {g} : (s.onSec g).fw = s.fw := rfl
@[simp] theorem onSec_chkWait {g} : (s.onSec g).chkWait = s.chkWait := rfl
@[simp] theorem onSec_timers {g} : (s.onSec g).timers = s.timers := rfl
@[simp] theorem onSec_hang {g} : (s.onSec g).hang = s.hang := rfl
@[simp] theorem onSec_jtag {g} : (s.onSec g).jtag = s.jtag := rfl
@[simp] theorem onSec_accesses {g} : (s.onSec g).accesses = s.accesses := rfl
@[simp] theorem onSec_tlk {g} : (s.onSec g).tlk = s.tlk := rfl
@[simp] theorem onSec_tlkIn {g} : (s.onSec g).tlkIn = s.tlkIn := rfl
@[simp] theorem onSec_clock {g} : (s.onSec g).clock = s.clock := rfl
@[simp] theorem onSec_power {g} : (s.onSec g).power = s.power := rfl
@[simp] theorem onSec_start {g} : (s.onSec g).start = s.start := rfl
@[simp] theorem onSec_totals {g} : (s.onSec g).totals = s.totals := rfl
@[simp] theorem onSec_images {g} : (s.onSec g).images = s.images := rfl
@[simp] theorem onSec_staging {g} : (s.onSec g).staging = s.staging := rfl
@[simp] theorem onSec_unsaved {g} : (s.onSec g).unsaved = s.unsaved := rfl
@[simp] theorem onSec_node {g} : (s.onSec g).node = s.node := rfl
@[simp] theorem onSec_restoreDue {g} : (s.onSec g).restoreDue = s.restoreDue := rfl
@[simp] theorem onSec_field {g} : (s.onSec g).field = s.field := rfl
@[simp] theorem onSec_gates {g} : (s.onSec g).gates = s.gates := rfl
@[simp] theorem onSec_posted {g} : (s.onSec g).posted = s.posted := rfl
@[simp] theorem onSec_tbRate {g} : (s.onSec g).tbRate = s.tbRate := rfl
@[simp] theorem onSec_records {g} : (s.onSec g).records = s.records := rfl
@[simp] theorem reg_onSec {g a} : (s.onSec g).reg a = s.reg a := (rfl)
@[simp] theorem get_onSec {g f} : (s.onSec g).get f = s.get f := (rfl)
@[simp] theorem flag_onSec {g f} : (s.onSec g).flag f = s.flag f := (rfl)
@[simp] theorem get64_onSec {g a} : (s.onSec g).get64 a = s.get64 a := (rfl)
@[simp] theorem obj_onSec {g i j} : (s.onSec g).obj i j = s.obj i j := (rfl)
@[simp] theorem rd8_onSec {g a} : (s.onSec g).rd8 a = s.rd8 a := (rfl)

/-! `onHub`. -/

@[simp] theorem onHub_hub {g} : (s.onHub g).hub = g s.hub := rfl
@[simp] theorem onHub_regs {g} : (s.onHub g).regs = s.regs := rfl
@[simp] theorem onHub_mem {g} : (s.onHub g).mem = s.mem := rfl
@[simp] theorem onHub_latches {g} : (s.onHub g).latches = s.latches := rfl
@[simp] theorem onHub_pending {g} : (s.onHub g).pending = s.pending := rfl
@[simp] theorem onHub_freeCount {g} : (s.onHub g).freeCount = s.freeCount := rfl
@[simp] theorem onHub_events {g} : (s.onHub g).events = s.events := rfl
@[simp] theorem onHub_mesh {g} : (s.onHub g).mesh = s.mesh := rfl
@[simp] theorem onHub_once {g} : (s.onHub g).once = s.once := rfl
@[simp] theorem onHub_deliveryOpen {g} : (s.onHub g).deliveryOpen = s.deliveryOpen := rfl
@[simp] theorem onHub_launched {g} : (s.onHub g).launched = s.launched := rfl
@[simp] theorem onHub_scanRegs {g} : (s.onHub g).scanRegs = s.scanRegs := rfl
@[simp] theorem onHub_objs {g} : (s.onHub g).objs = s.objs := rfl
@[simp] theorem onHub_fault {g} : (s.onHub g).fault = s.fault := rfl
@[simp] theorem onHub_loadStep {g} : (s.onHub g).loadStep = s.loadStep := rfl
@[simp] theorem onHub_clearing {g} : (s.onHub g).clearing = s.clearing := rfl
@[simp] theorem onHub_creditDue {g} : (s.onHub g).creditDue = s.creditDue := rfl
@[simp] theorem onHub_oooSeen {g} : (s.onHub g).oooSeen = s.oooSeen := rfl
@[simp] theorem onHub_delivery {g} : (s.onHub g).delivery = s.delivery := rfl
@[simp] theorem onHub_streams {g} : (s.onHub g).streams = s.streams := rfl
@[simp] theorem onHub_memories {g} : (s.onHub g).memories = s.memories := rfl
@[simp] theorem onHub_progress {g} : (s.onHub g).progress = s.progress := rfl
@[simp] theorem onHub_sent {g} : (s.onHub g).sent = s.sent := rfl
@[simp] theorem onHub_answer {g} : (s.onHub g).answer = s.answer := rfl
@[simp] theorem onHub_wakes {g} : (s.onHub g).wakes = s.wakes := rfl
@[simp] theorem onHub_can {g} : (s.onHub g).can = s.can := rfl
@[simp] theorem onHub_canMode {g} : (s.onHub g).canMode = s.canMode := rfl
@[simp] theorem onHub_canStandby {g} : (s.onHub g).canStandby = s.canStandby := rfl
@[simp] theorem onHub_nmt {g} : (s.onHub g).nmt = s.nmt := rfl
@[simp] theorem onHub_guard {g} : (s.onHub g).guard = s.guard := rfl
@[simp] theorem onHub_sec {g} : (s.onHub g).sec = s.sec := rfl
@[simp] theorem onHub_selectors {g} : (s.onHub g).selectors = s.selectors := rfl
@[simp] theorem onHub_calendar {g} : (s.onHub g).calendar = s.calendar := rfl
@[simp] theorem onHub_emcy {g} : (s.onHub g).emcy = s.emcy := rfl
@[simp] theorem onHub_fw {g} : (s.onHub g).fw = s.fw := rfl
@[simp] theorem onHub_chkWait {g} : (s.onHub g).chkWait = s.chkWait := rfl
@[simp] theorem onHub_timers {g} : (s.onHub g).timers = s.timers := rfl
@[simp] theorem onHub_hang {g} : (s.onHub g).hang = s.hang := rfl
@[simp] theorem onHub_jtag {g} : (s.onHub g).jtag = s.jtag := rfl
@[simp] theorem onHub_accesses {g} : (s.onHub g).accesses = s.accesses := rfl
@[simp] theorem onHub_tlk {g} : (s.onHub g).tlk = s.tlk := rfl
@[simp] theorem onHub_tlkIn {g} : (s.onHub g).tlkIn = s.tlkIn := rfl
@[simp] theorem onHub_clock {g} : (s.onHub g).clock = s.clock := rfl
@[simp] theorem onHub_power {g} : (s.onHub g).power = s.power := rfl
@[simp] theorem onHub_start {g} : (s.onHub g).start = s.start := rfl
@[simp] theorem onHub_totals {g} : (s.onHub g).totals = s.totals := rfl
@[simp] theorem onHub_images {g} : (s.onHub g).images = s.images := rfl
@[simp] theorem onHub_staging {g} : (s.onHub g).staging = s.staging := rfl
@[simp] theorem onHub_unsaved {g} : (s.onHub g).unsaved = s.unsaved := rfl
@[simp] theorem onHub_node {g} : (s.onHub g).node = s.node := rfl
@[simp] theorem onHub_restoreDue {g} : (s.onHub g).restoreDue = s.restoreDue := rfl
@[simp] theorem onHub_field {g} : (s.onHub g).field = s.field := rfl
@[simp] theorem onHub_gates {g} : (s.onHub g).gates = s.gates := rfl
@[simp] theorem onHub_posted {g} : (s.onHub g).posted = s.posted := rfl
@[simp] theorem onHub_tbRate {g} : (s.onHub g).tbRate = s.tbRate := rfl
@[simp] theorem onHub_records {g} : (s.onHub g).records = s.records := rfl
@[simp] theorem reg_onHub {g a} : (s.onHub g).reg a = s.reg a := (rfl)
@[simp] theorem get_onHub {g f} : (s.onHub g).get f = s.get f := (rfl)
@[simp] theorem flag_onHub {g f} : (s.onHub g).flag f = s.flag f := (rfl)
@[simp] theorem get64_onHub {g a} : (s.onHub g).get64 a = s.get64 a := (rfl)
@[simp] theorem obj_onHub {g i j} : (s.onHub g).obj i j = s.obj i j := (rfl)
@[simp] theorem rd8_onHub {g a} : (s.onHub g).rd8 a = s.rd8 a := (rfl)

/-! `onClock`. -/

@[simp] theorem onClock_clock {g} : (s.onClock g).clock = g s.clock := rfl
@[simp] theorem onClock_regs {g} : (s.onClock g).regs = s.regs := rfl
@[simp] theorem onClock_mem {g} : (s.onClock g).mem = s.mem := rfl
@[simp] theorem onClock_latches {g} : (s.onClock g).latches = s.latches := rfl
@[simp] theorem onClock_pending {g} : (s.onClock g).pending = s.pending := rfl
@[simp] theorem onClock_freeCount {g} : (s.onClock g).freeCount = s.freeCount := rfl
@[simp] theorem onClock_events {g} : (s.onClock g).events = s.events := rfl
@[simp] theorem onClock_mesh {g} : (s.onClock g).mesh = s.mesh := rfl
@[simp] theorem onClock_once {g} : (s.onClock g).once = s.once := rfl
@[simp] theorem onClock_deliveryOpen {g} : (s.onClock g).deliveryOpen = s.deliveryOpen := rfl
@[simp] theorem onClock_launched {g} : (s.onClock g).launched = s.launched := rfl
@[simp] theorem onClock_scanRegs {g} : (s.onClock g).scanRegs = s.scanRegs := rfl
@[simp] theorem onClock_objs {g} : (s.onClock g).objs = s.objs := rfl
@[simp] theorem onClock_fault {g} : (s.onClock g).fault = s.fault := rfl
@[simp] theorem onClock_loadStep {g} : (s.onClock g).loadStep = s.loadStep := rfl
@[simp] theorem onClock_clearing {g} : (s.onClock g).clearing = s.clearing := rfl
@[simp] theorem onClock_creditDue {g} : (s.onClock g).creditDue = s.creditDue := rfl
@[simp] theorem onClock_oooSeen {g} : (s.onClock g).oooSeen = s.oooSeen := rfl
@[simp] theorem onClock_delivery {g} : (s.onClock g).delivery = s.delivery := rfl
@[simp] theorem onClock_streams {g} : (s.onClock g).streams = s.streams := rfl
@[simp] theorem onClock_memories {g} : (s.onClock g).memories = s.memories := rfl
@[simp] theorem onClock_progress {g} : (s.onClock g).progress = s.progress := rfl
@[simp] theorem onClock_hub {g} : (s.onClock g).hub = s.hub := rfl
@[simp] theorem onClock_sent {g} : (s.onClock g).sent = s.sent := rfl
@[simp] theorem onClock_answer {g} : (s.onClock g).answer = s.answer := rfl
@[simp] theorem onClock_wakes {g} : (s.onClock g).wakes = s.wakes := rfl
@[simp] theorem onClock_can {g} : (s.onClock g).can = s.can := rfl
@[simp] theorem onClock_canMode {g} : (s.onClock g).canMode = s.canMode := rfl
@[simp] theorem onClock_canStandby {g} : (s.onClock g).canStandby = s.canStandby := rfl
@[simp] theorem onClock_nmt {g} : (s.onClock g).nmt = s.nmt := rfl
@[simp] theorem onClock_guard {g} : (s.onClock g).guard = s.guard := rfl
@[simp] theorem onClock_sec {g} : (s.onClock g).sec = s.sec := rfl
@[simp] theorem onClock_selectors {g} : (s.onClock g).selectors = s.selectors := rfl
@[simp] theorem onClock_calendar {g} : (s.onClock g).calendar = s.calendar := rfl
@[simp] theorem onClock_emcy {g} : (s.onClock g).emcy = s.emcy := rfl
@[simp] theorem onClock_fw {g} : (s.onClock g).fw = s.fw := rfl
@[simp] theorem onClock_chkWait {g} : (s.onClock g).chkWait = s.chkWait := rfl
@[simp] theorem onClock_timers {g} : (s.onClock g).timers = s.timers := rfl
@[simp] theorem onClock_hang {g} : (s.onClock g).hang = s.hang := rfl
@[simp] theorem onClock_jtag {g} : (s.onClock g).jtag = s.jtag := rfl
@[simp] theorem onClock_accesses {g} : (s.onClock g).accesses = s.accesses := rfl
@[simp] theorem onClock_tlk {g} : (s.onClock g).tlk = s.tlk := rfl
@[simp] theorem onClock_tlkIn {g} : (s.onClock g).tlkIn = s.tlkIn := rfl
@[simp] theorem onClock_power {g} : (s.onClock g).power = s.power := rfl
@[simp] theorem onClock_start {g} : (s.onClock g).start = s.start := rfl
@[simp] theorem onClock_totals {g} : (s.onClock g).totals = s.totals := rfl
@[simp] theorem onClock_images {g} : (s.onClock g).images = s.images := rfl
@[simp] theorem onClock_staging {g} : (s.onClock g).staging = s.staging := rfl
@[simp] theorem onClock_unsaved {g} : (s.onClock g).unsaved = s.unsaved := rfl
@[simp] theorem onClock_node {g} : (s.onClock g).node = s.node := rfl
@[simp] theorem onClock_restoreDue {g} : (s.onClock g).restoreDue = s.restoreDue := rfl
@[simp] theorem onClock_field {g} : (s.onClock g).field = s.field := rfl
@[simp] theorem onClock_gates {g} : (s.onClock g).gates = s.gates := rfl
@[simp] theorem onClock_posted {g} : (s.onClock g).posted = s.posted := rfl
@[simp] theorem onClock_tbRate {g} : (s.onClock g).tbRate = s.tbRate := rfl
@[simp] theorem onClock_records {g} : (s.onClock g).records = s.records := rfl
@[simp] theorem reg_onClock {g a} : (s.onClock g).reg a = s.reg a := (rfl)
@[simp] theorem get_onClock {g f} : (s.onClock g).get f = s.get f := (rfl)
@[simp] theorem flag_onClock {g f} : (s.onClock g).flag f = s.flag f := (rfl)
@[simp] theorem get64_onClock {g a} : (s.onClock g).get64 a = s.get64 a := (rfl)
@[simp] theorem obj_onClock {g i j} : (s.onClock g).obj i j = s.obj i j := (rfl)
@[simp] theorem rd8_onClock {g a} : (s.onClock g).rd8 a = s.rd8 a := (rfl)

/-! `onTimers`. -/

@[simp] theorem onTimers_timers {g} : (s.onTimers g).timers = g s.timers := rfl
@[simp] theorem onTimers_regs {g} : (s.onTimers g).regs = s.regs := rfl
@[simp] theorem onTimers_mem {g} : (s.onTimers g).mem = s.mem := rfl
@[simp] theorem onTimers_latches {g} : (s.onTimers g).latches = s.latches := rfl
@[simp] theorem onTimers_pending {g} : (s.onTimers g).pending = s.pending := rfl
@[simp] theorem onTimers_freeCount {g} : (s.onTimers g).freeCount = s.freeCount := rfl
@[simp] theorem onTimers_events {g} : (s.onTimers g).events = s.events := rfl
@[simp] theorem onTimers_mesh {g} : (s.onTimers g).mesh = s.mesh := rfl
@[simp] theorem onTimers_once {g} : (s.onTimers g).once = s.once := rfl
@[simp] theorem onTimers_deliveryOpen {g} : (s.onTimers g).deliveryOpen = s.deliveryOpen := rfl
@[simp] theorem onTimers_launched {g} : (s.onTimers g).launched = s.launched := rfl
@[simp] theorem onTimers_scanRegs {g} : (s.onTimers g).scanRegs = s.scanRegs := rfl
@[simp] theorem onTimers_objs {g} : (s.onTimers g).objs = s.objs := rfl
@[simp] theorem onTimers_fault {g} : (s.onTimers g).fault = s.fault := rfl
@[simp] theorem onTimers_loadStep {g} : (s.onTimers g).loadStep = s.loadStep := rfl
@[simp] theorem onTimers_clearing {g} : (s.onTimers g).clearing = s.clearing := rfl
@[simp] theorem onTimers_creditDue {g} : (s.onTimers g).creditDue = s.creditDue := rfl
@[simp] theorem onTimers_oooSeen {g} : (s.onTimers g).oooSeen = s.oooSeen := rfl
@[simp] theorem onTimers_delivery {g} : (s.onTimers g).delivery = s.delivery := rfl
@[simp] theorem onTimers_streams {g} : (s.onTimers g).streams = s.streams := rfl
@[simp] theorem onTimers_memories {g} : (s.onTimers g).memories = s.memories := rfl
@[simp] theorem onTimers_progress {g} : (s.onTimers g).progress = s.progress := rfl
@[simp] theorem onTimers_hub {g} : (s.onTimers g).hub = s.hub := rfl
@[simp] theorem onTimers_sent {g} : (s.onTimers g).sent = s.sent := rfl
@[simp] theorem onTimers_answer {g} : (s.onTimers g).answer = s.answer := rfl
@[simp] theorem onTimers_wakes {g} : (s.onTimers g).wakes = s.wakes := rfl
@[simp] theorem onTimers_can {g} : (s.onTimers g).can = s.can := rfl
@[simp] theorem onTimers_canMode {g} : (s.onTimers g).canMode = s.canMode := rfl
@[simp] theorem onTimers_canStandby {g} : (s.onTimers g).canStandby = s.canStandby := rfl
@[simp] theorem onTimers_nmt {g} : (s.onTimers g).nmt = s.nmt := rfl
@[simp] theorem onTimers_guard {g} : (s.onTimers g).guard = s.guard := rfl
@[simp] theorem onTimers_sec {g} : (s.onTimers g).sec = s.sec := rfl
@[simp] theorem onTimers_selectors {g} : (s.onTimers g).selectors = s.selectors := rfl
@[simp] theorem onTimers_calendar {g} : (s.onTimers g).calendar = s.calendar := rfl
@[simp] theorem onTimers_emcy {g} : (s.onTimers g).emcy = s.emcy := rfl
@[simp] theorem onTimers_fw {g} : (s.onTimers g).fw = s.fw := rfl
@[simp] theorem onTimers_chkWait {g} : (s.onTimers g).chkWait = s.chkWait := rfl
@[simp] theorem onTimers_hang {g} : (s.onTimers g).hang = s.hang := rfl
@[simp] theorem onTimers_jtag {g} : (s.onTimers g).jtag = s.jtag := rfl
@[simp] theorem onTimers_accesses {g} : (s.onTimers g).accesses = s.accesses := rfl
@[simp] theorem onTimers_tlk {g} : (s.onTimers g).tlk = s.tlk := rfl
@[simp] theorem onTimers_tlkIn {g} : (s.onTimers g).tlkIn = s.tlkIn := rfl
@[simp] theorem onTimers_clock {g} : (s.onTimers g).clock = s.clock := rfl
@[simp] theorem onTimers_power {g} : (s.onTimers g).power = s.power := rfl
@[simp] theorem onTimers_start {g} : (s.onTimers g).start = s.start := rfl
@[simp] theorem onTimers_totals {g} : (s.onTimers g).totals = s.totals := rfl
@[simp] theorem onTimers_images {g} : (s.onTimers g).images = s.images := rfl
@[simp] theorem onTimers_staging {g} : (s.onTimers g).staging = s.staging := rfl
@[simp] theorem onTimers_unsaved {g} : (s.onTimers g).unsaved = s.unsaved := rfl
@[simp] theorem onTimers_node {g} : (s.onTimers g).node = s.node := rfl
@[simp] theorem onTimers_restoreDue {g} : (s.onTimers g).restoreDue = s.restoreDue := rfl
@[simp] theorem onTimers_field {g} : (s.onTimers g).field = s.field := rfl
@[simp] theorem onTimers_gates {g} : (s.onTimers g).gates = s.gates := rfl
@[simp] theorem onTimers_posted {g} : (s.onTimers g).posted = s.posted := rfl
@[simp] theorem onTimers_tbRate {g} : (s.onTimers g).tbRate = s.tbRate := rfl
@[simp] theorem onTimers_records {g} : (s.onTimers g).records = s.records := rfl
@[simp] theorem reg_onTimers {g a} : (s.onTimers g).reg a = s.reg a := (rfl)
@[simp] theorem get_onTimers {g f} : (s.onTimers g).get f = s.get f := (rfl)
@[simp] theorem flag_onTimers {g f} : (s.onTimers g).flag f = s.flag f := (rfl)
@[simp] theorem get64_onTimers {g a} : (s.onTimers g).get64 a = s.get64 a := (rfl)
@[simp] theorem obj_onTimers {g i j} : (s.onTimers g).obj i j = s.obj i j := (rfl)
@[simp] theorem rd8_onTimers {g a} : (s.onTimers g).rd8 a = s.rd8 a := (rfl)

end Sys2Proof.Machine.State
end

