-- ==== Sys2Proof/Laws/Sound/Basic.lean ====
section
/-! SUPPORT. The rules by which soundness of a state passes through the forms that the meanings are written in: record
updates, `let`, `if`, folds, pairs and options. Each file beside this one holds one lemma for each operation of a file of
`Sys2Proof/Machine/`: on a sound state it gives a sound state. -/

namespace Sys2Proof.Machine

variable {α β : Type} {s t : State}

theorem State.Sound.congr (h : s.Sound) (h1 : t.regs = s.regs) (h2 : t.scanRegs = s.scanRegs) (h3 : t.mem = s.mem)
    (h4 : t.objs = s.objs) (h5 : t.latches = s.latches) (h6 : t.selectors = s.selectors) (h7 : t.nmt = s.nmt) :
    t.Sound := by
  obtain ⟨a, b, c, d, e, f, g⟩ := h
  exact ⟨h1 ▸ a, h2 ▸ b, h3 ▸ c, h4 ▸ d, h5 ▸ e, h6 ▸ f, by unfold State.nmtLegal at *; rwa [h7]⟩

/-- A `let` of a state is sound when its value is. -/
theorem let_self {v : State} (h : v.Sound) : (let x := v; x.Sound) := h

theorem sound_fst {p : State × α} {a : State} {b : α} (h : p.1.Sound) (e : p = (a, b)) : a.Sound := by
  subst e; exact h

theorem sound_foldl {f : State → α → State} (l : List α) (h : s.Sound) (hf : ∀ x, x.Sound → ∀ a, (f x a).Sound) :
    (l.foldl f s).Sound := by
  induction l generalizing s with
  | nil => exact h
  | cons a r ih => exact ih (hf s h a)

theorem sound_foldl_fst {f : State × β → α → State × β} {p : State × β} (l : List α) (h : p.1.Sound)
    (hf : ∀ x, x.1.Sound → ∀ a, (f x a).1.Sound) : (l.foldl f p).1.Sound := by
  induction l generalizing p with
  | nil => exact h
  | cons a r ih => exact ih (hf p h a)

theorem sound_foldl_snd {f : β × State → α → β × State} {p : β × State} (l : List α) (h : p.2.Sound)
    (hf : ∀ x, x.2.Sound → ∀ a, (f x a).2.Sound) : (l.foldl f p).2.Sound := by
  induction l generalizing p with
  | nil => exact h
  | cons a r ih => exact ih (hf p h a)

theorem sound_snd {p : β × State} {a : β} {b : State} (h : p.2.Sound) (e : p = (a, b)) : b.Sound := by
  subst e; exact h

theorem sound_ite_snd {c : Prop} [Decidable c] {p q : β × State} (hp : p.2.Sound) (hq : q.2.Sound) :
    State.Sound (if c then p else q).2 := by
  split <;> assumption

theorem sound_ite {c : Prop} [Decidable c] (hs : s.Sound) (ht : t.Sound) : State.Sound (if c then s else t) := by
  split <;> assumption

theorem sound_ite_fst {c : Prop} [Decidable c] {p q : State × α} (hp : p.1.Sound) (hq : q.1.Sound) :
    State.Sound (if c then p else q).1 := by
  split <;> assumption

theorem sound_dite {c : Prop} [Decidable c] {f : c → State} {g : ¬c → State} (hf : ∀ h, (f h).Sound)
    (hg : ∀ h, (g h).Sound) : State.Sound (if h : c then f h else g h) := by
  split
  · exact hf _
  · exact hg _

theorem sound_id (h : s.Sound) : (id s).Sound := h

theorem sound_none : ∀ t : State, none = some t → t.Sound := fun _ h => by cases h

theorem sound_some (h : s.Sound) : ∀ t, some s = some t → t.Sound := fun _ e => by cases e; exact h

theorem sound_some_fst {a : α} (h : s.Sound) : ∀ t b, some (s, a) = some (t, b) → t.Sound :=
  fun _ _ e => by cases e; exact h

theorem sound_some_snd {a : α} (h : s.Sound) : ∀ b t, some (a, s) = some (b, t) → t.Sound :=
  fun _ _ e => by cases e; exact h

theorem sound_none_fst : ∀ (t : State) (b : α), none = some (t, b) → t.Sound := fun _ _ h => by cases h

theorem sound_none_snd : ∀ (b : α) (t : State), none = some (b, t) → t.Sound := fun _ _ h => by cases h

theorem sound_or {a b : Option State} (ha : ∀ t, a = some t → t.Sound) (hb : ∀ t, b = some t → t.Sound) :
    ∀ t, a.or b = some t → t.Sound := by
  cases a with
  | none => exact hb
  | some x => exact ha

theorem sound_map {o : Option State} {f : State → State} (ho : ∀ t, o = some t → t.Sound)
    (hf : ∀ x, x.Sound → (f x).Sound) : ∀ t, o.map f = some t → t.Sound := by
  cases o with
  | none => intro t e; cases e
  | some x => intro t e; cases e; exact hf x (ho x rfl)

theorem sound_bind {o : Option State} {f : State → Option State} (ho : ∀ t, o = some t → t.Sound)
    (hf : ∀ x, x.Sound → ∀ t, f x = some t → t.Sound) : ∀ t, o.bind f = some t → t.Sound := by
  cases o with
  | none => intro t e; cases e
  | some x => exact hf x (ho x rfl)

theorem sound_foldl_opt {f : Option State → α → Option State} {o : Option State} (l : List α)
    (ho : ∀ t, o = some t → t.Sound)
    (hf : ∀ o : Option State, (∀ t, o = some t → t.Sound) → ∀ a t, f o a = some t → t.Sound) :
    ∀ t, l.foldl f o = some t → t.Sound := by
  induction l generalizing o with
  | nil => exact ho
  | cons a r ih => exact ih (hf o ho a)

theorem sound_getD {o : Option State} (ho : ∀ x, o = some x → x.Sound) (h : s.Sound) : (o.getD s).Sound := by
  cases o with
  | none => exact h
  | some x => exact ho x rfl

/-- A record update that leaves the sound fields alone. -/
theorem sound_mk_iff {x_pending x_freeCount x_events x_mesh x_once x_deliveryOpen x_launched x_fault x_loadStep x_clearing
    x_creditDue x_oooSeen x_delivery x_streams x_memories x_progress x_hub x_sent x_answer x_wakes x_can x_canMode
    x_canStandby x_guard x_sec x_calendar x_emcy x_fw x_chkWait x_timers x_hang x_jtag x_posted x_accesses x_tlk x_tlkIn
    x_clock x_tbRate x_power x_start x_totals x_records x_images x_staging x_unsaved x_node x_restoreDue x_field x_gates} :
    State.Sound (State.mk s.regs s.mem s.latches x_pending x_freeCount x_events x_mesh x_once x_deliveryOpen
    x_launched s.scanRegs s.objs x_fault x_loadStep x_clearing x_creditDue x_oooSeen x_delivery x_streams x_memories
    x_progress x_hub x_sent x_answer x_wakes x_can x_canMode x_canStandby s.nmt x_guard x_sec s.selectors x_calendar
    x_emcy x_fw x_chkWait x_timers x_hang x_jtag x_posted x_accesses x_tlk x_tlkIn x_clock x_tbRate x_power x_start x_totals x_records x_images
    x_staging x_unsaved x_node x_restoreDue x_field x_gates) ↔ s.Sound :=
  ⟨fun h => h.congr rfl rfl rfl rfl rfl rfl rfl, fun h => h.congr rfl rfl rfl rfl rfl rfl rfl⟩

/-! The updates that the sound fields meet. -/

theorem State.setReg_sound {a w} (h : s.Sound) : (State.setReg s a w).Sound :=
  ⟨Sparse.wf_store h.regs, h.2, h.3, h.4, h.5, h.6, h.7⟩

theorem State.raw8_sound {a b} (h : s.Sound) : (State.raw8 s a b).Sound :=
  ⟨h.1, h.2, Sparse.wf_store h.mem, h.4, h.5, h.6, h.7⟩

theorem State.setObj_sound {i j v} (h : s.Sound) : (State.setObj s i j v).Sound :=
  ⟨h.1, h.2, h.3, Sparse.wf_store h.objs, h.5, h.6, h.7⟩

theorem sound_latches {k v : Nat} (h : s.Sound) : State.Sound { s with latches := s.latches.put k v } :=
  ⟨h.1, h.2, h.3, h.4, Sparse.wf_store h.latches, h.6, h.7⟩

theorem sound_scanRegs (h : s.Sound) : State.Sound { s with scanRegs := s.regs } :=
  ⟨h.1, h.1, h.3, h.4, h.5, h.6, h.7⟩

theorem sound_regs_filter {p} (h : s.Sound) : State.Sound { s with regs := s.regs.filter p } :=
  ⟨Sparse.wf_filter h.regs, h.2, h.3, h.4, h.5, h.6, h.7⟩

theorem sound_both_filter {p q} (h : s.Sound) :
    State.Sound { s with regs := s.regs.filter p, mem := s.mem.filter q } :=
  ⟨Sparse.wf_filter h.regs, h.2, Sparse.wf_filter h.mem, h.4, h.5, h.6, h.7⟩

theorem sound_mem_filter {p} (h : s.Sound) : State.Sound { s with mem := s.mem.filter p } :=
  ⟨h.1, h.2, Sparse.wf_filter h.mem, h.4, h.5, h.6, h.7⟩

theorem sound_mem_store {a : Nat} {b : Byte} (h : s.Sound) : State.Sound { s with mem := Sparse.store 0 s.mem a b } :=
  ⟨h.1, h.2, Sparse.wf_store h.mem, h.4, h.5, h.6, h.7⟩

theorem sound_objs_filter {p} (h : s.Sound) : State.Sound { s with objs := s.objs.filter p } :=
  ⟨h.1, h.2, h.3, Sparse.wf_filter h.objs, h.5, h.6, h.7⟩

theorem sound_objs_store {k v : Nat} (h : s.Sound) :
    State.Sound { s with objs := Sparse.store (ObjMap.dflt k) s.objs k v } :=
  ⟨h.1, h.2, h.3, Sparse.wf_store h.objs, h.5, h.6, h.7⟩

theorem sound_selectors_filter {p} (h : s.Sound) : State.Sound { s with selectors := s.selectors.filter p } :=
  ⟨h.1, h.2, h.3, h.4, h.5, Sparse.wf_filter h.selectors, h.7⟩

theorem sound_selectors_put {k v : Nat} (h : s.Sound) : State.Sound { s with selectors := s.selectors.put k v } :=
  ⟨h.1, h.2, h.3, h.4, h.5, Sparse.wf_store h.selectors, h.7⟩

theorem sound_nmt {s t : State} (h : s.Sound) (h1 : t.regs = s.regs) (h2 : t.scanRegs = s.scanRegs) (h3 : t.mem = s.mem)
    (h4 : t.objs = s.objs) (h5 : t.latches = s.latches) (h6 : t.selectors = s.selectors) (h7 : t.nmtLegal) :
    t.Sound := by
  obtain ⟨a, b, c, d, e, f, g⟩ := h
  exact ⟨h1 ▸ a, h2 ▸ b, h3 ▸ c, h4 ▸ d, h5 ▸ e, h6 ▸ f, h7⟩

theorem State.reset_sound : State.reset.Sound := ⟨rfl, rfl, rfl, rfl, rfl, rfl, .inl rfl⟩

/-- A state whose sound fields are a reset's or parts of a sound state's. -/
theorem sound_cleared {p q} (h : s.Sound) (h1 : t.regs = s.regs.filter p) (h2 : t.scanRegs = [])
    (h3 : t.mem = s.mem.filter q) (h4 : t.objs = s.objs ∨ t.objs = []) (h5 : t.latches = s.latches ∨ t.latches = [])
    (h6 : t.selectors = s.selectors ∨ t.selectors = []) (h7 : t.nmt = s.nmt ∨ t.nmt = 127) : t.Sound := by
  refine ⟨h1 ▸ Sparse.wf_filter h.regs, h2 ▸ rfl, h3 ▸ Sparse.wf_filter h.mem, ?_, ?_, ?_, ?_⟩
  · rcases h4 with e | e <;> rw [e]
    · exact h.objs
    · rfl
  · rcases h5 with e | e <;> rw [e]
    · exact h.latches
    · rfl
  · rcases h6 with e | e <;> rw [e]
    · exact h.selectors
    · rfl
  · rcases h7 with e | e
    · have := h.nmt
      simp only [State.nmtLegal] at *
      rwa [e]
    · exact .inl e

/-- An outcome whose next state, where it has one, is sound. -/
def ResultSound : Result → Prop
  | .next t => t.Sound
  | _ => True

theorem State.done_sound (h : t.Sound) : ResultSound (s.done t) := ⟨h.1, h.2, h.3, h.4, h.5, h.6, h.7⟩

theorem sound_ite_result {c : Prop} [Decidable c] {p q : Result} (hp : ResultSound p) (hq : ResultSound q) :
    ResultSound (if c then p else q) := by
  split <;> assumption

end Sys2Proof.Machine
end

