-- ==== Sys2Proof/Laws/Sound/Ops.lean ====
section
/-! SUPPORT. Each operation of `Sys2Proof/Machine/Ops.lean` gives a sound state on a sound state. -/

namespace Sys2Proof.Machine.State

set_option linter.unusedTactic false
set_option linter.unreachableTactic false

theorem withQueue_sound {t : State} {q} (h0 : t.Sound) : (withQueue t q).Sound := by
  unfold withQueue
  with_reducible repeat' first | assumption | intro _ | simp only [sound_mk_iff]

theorem put_sound {s : State} {f v} (h0 : s.Sound) : (put s f v).Sound := by
  unfold put
  with_reducible repeat' first | assumption | intro _ | apply setReg_sound

theorem count_sound {s : State} {f n} (h0 : s.Sound) : (count s f n).Sound := by
  unfold count
  with_reducible repeat' first | assumption | intro _ | apply put_sound

theorem raiseTo_sound {s : State} {f v} (h0 : s.Sound) : (raiseTo s f v).Sound := by
  unfold raiseTo
  with_reducible repeat' first | assumption | intro _ | apply put_sound

theorem put64_sound {s : State} {a v} (h0 : s.Sound) : (put64 s a v).Sound := by
  unfold put64
  with_reducible repeat' first | assumption | intro _ | apply setReg_sound

theorem add64_sound {s : State} {a n} (h0 : s.Sound) : (add64 s a n).Sound := by
  unfold add64
  with_reducible repeat' first | assumption | intro _ | apply put64_sound

theorem rawBytes_sound {s : State} {a : Nat} {l : List Byte} (h : s.Sound) : (rawBytes s a l).Sound := by
  induction l generalizing s a with
  | nil => exact h
  | cons b bs ih => exact ih (raw8_sound h)

theorem useFree_sound {s : State} (h0 : s.Sound) : (useFree s).Sound := by
  unfold useFree
  with_reducible repeat' first | assumption | intro _ | simp only [sound_mk_iff]

theorem reach_sound {s : State} {t} (h0 : s.Sound) : (reach s t).Sound := by
  unfold reach
  with_reducible repeat' first | assumption | intro _ | apply sound_ite | apply put64_sound

theorem log_sound {s : State} {b inst2 code source p0 p1} (h0 : s.Sound) : (log s b inst2 code source p0 p1).Sound := by
  unfold log
  with_reducible repeat' first | assumption | intro _ | apply sound_ite | apply count_sound | simp only [sound_mk_iff]

theorem injected_sound {s : State} {n} (h0 : s.Sound) : (injected s n).Sound := by
  unfold injected
  with_reducible repeat' first | assumption | intro _ | apply sound_ite | apply put_sound | apply log_sound | dsimp only

theorem injectWrite_sound {s : State} {a n} (h0 : s.Sound) : (injectWrite s a n).Sound := by
  unfold injectWrite
  with_reducible repeat' first | assumption | intro _ | apply sound_ite | apply injected_sound | dsimp only

theorem sigTouch_sound {s : State} {a n} (h0 : s.Sound) : (sigTouch s a n).Sound := by
  unfold sigTouch
  with_reducible repeat' first
    | assumption | intro _ | apply sound_ite | apply put_sound | dsimp only | split | simp only [sound_mk_iff]

theorem wrBytes_sound {s : State} {a bs} (h0 : s.Sound) : (wrBytes s a bs).Sound := by
  unfold wrBytes
  with_reducible repeat' first
    | assumption | intro _ | apply sigTouch_sound | apply injectWrite_sound | apply rawBytes_sound

theorem wr8_sound {s : State} {a b} (h0 : s.Sound) : (wr8 s a b).Sound := by
  unfold wr8
  with_reducible repeat' first | assumption | intro _ | apply wrBytes_sound

theorem wrLe_sound {s : State} {a n v} (h0 : s.Sound) : (wrLe s a n v).Sound := by
  unfold wrLe
  with_reducible repeat' first | assumption | intro _ | apply wrBytes_sound

theorem emitOut_sound {s : State} {x1} (h0 : s.Sound) : (emitOut s x1).Sound := by
  unfold emitOut
  with_reducible repeat' first | assumption | intro _ | apply sound_ite | simp only [sound_mk_iff]

theorem raise_sound {s : State} {enable bit} (h0 : s.Sound) : (raise s enable bit).Sound := by
  unfold raise
  with_reducible repeat' first | assumption | intro _ | apply sound_ite | apply emitOut_sound

theorem msix_sound {s : State} {n} (h0 : s.Sound) : (msix s n).Sound := by
  unfold msix
  with_reducible repeat' first | assumption | intro _ | apply sound_ite | apply emitOut_sound | apply put_sound

theorem latchLow_sound {s : State} {a} (h : s.Sound) : (latchLow s a).Sound :=
  (sound_latches h).congr rfl rfl rfl rfl rfl rfl rfl

theorem logOnceBy_sound {s : State} {key b inst3 code source p0 p1} (h0 : s.Sound) :
    (logOnceBy s key b inst3 code source p0 p1).Sound := by
  unfold logOnceBy
  with_reducible repeat' first
    | assumption | intro _ | apply sound_ite | apply log_sound | dsimp only | simp only [sound_mk_iff]

theorem logOnce_sound {s : State} {b inst2 code source p0 p1} (h0 : s.Sound) :
    (logOnce s b inst2 code source p0 p1).Sound := by
  unfold logOnce
  with_reducible repeat' first | assumption | intro _ | apply logOnceBy_sound

theorem countOp_sound {s : State} {t n k} (h0 : s.Sound) : (countOp s t n k).Sound := by
  unfold countOp
  with_reducible repeat' first | assumption | intro _ | apply add64_sound

theorem countDrop_sound {s : State} {t n f k} (h0 : s.Sound) : (countDrop s t n f k).Sound := by
  unfold countDrop
  with_reducible repeat' first | assumption | intro _ | apply countOp_sound | apply count_sound

theorem writeOnly_sound {s : State} {a w only} (h0 : s.Sound) : (writeOnly s a w only).Sound := by
  unfold writeOnly
  with_reducible repeat' first | assumption | intro _ | apply setReg_sound | split | simp only [sound_mk_iff]

theorem writePlain_sound {s : State} {a w} (h0 : s.Sound) : (writePlain s a w).Sound := by
  unfold writePlain
  with_reducible repeat' first | assumption | intro _ | apply writeOnly_sound

theorem countObj_sound {s : State} {w index sub n} (h0 : s.Sound) : (countObj s w index sub n).Sound := by
  unfold countObj
  with_reducible repeat' first | assumption | intro _ | apply setObj_sound

theorem refusal_sound {s : State} {reason index sub} (h0 : s.Sound) : (refusal s reason index sub).Sound := by
  unfold refusal
  with_reducible repeat' first | assumption | intro _ | apply setObj_sound

theorem setProg_sound {s : State} {op p} (h0 : s.Sound) : (setProg s op p).Sound := by
  unfold setProg
  with_reducible repeat' first | assumption | intro _ | simp only [sound_mk_iff]

theorem progStart_sound {s : State} {op total} (h0 : s.Sound) : (progStart s op total).Sound := by
  unfold progStart
  with_reducible repeat' first | assumption | intro _ | apply setProg_sound

theorem progAdd_sound {s : State} {op n} (h0 : s.Sound) : (progAdd s op n).Sound := by
  unfold progAdd
  with_reducible repeat' first | assumption | intro _ | apply setProg_sound | simp only [sound_mk_iff]

theorem progEnd_sound {s : State} {op st} (h0 : s.Sound) : (progEnd s op st).Sound := by
  unfold progEnd
  with_reducible repeat' first | assumption | intro _ | apply setProg_sound | simp only [sound_mk_iff]

theorem fileReport_sound {s : State} {n suspect} (h0 : s.Sound) : (fileReport s n suspect).Sound := by
  unfold fileReport
  with_reducible repeat' first
    | assumption | intro _ | apply sound_ite | apply count_sound | apply countObj_sound | apply put_sound | dsimp only
    | simp only [sound_mk_iff]

theorem detect_sound {s : State} {n suspect d} (h0 : s.Sound) : (detect s n suspect d).Sound := by
  unfold detect
  with_reducible repeat' first
    | assumption | intro _ | apply sound_ite | apply fileReport_sound | dsimp only | simp only [sound_mk_iff]

theorem tileError_sound {s : State} {t bank row fatal} (h0 : s.Sound) : (tileError s t bank row fatal).Sound := by
  unfold tileError
  with_reducible repeat' first
    | assumption | intro _ | apply sound_ite | apply put_sound | apply logOnce_sound | apply count_sound
    | apply detect_sound | dsimp only

theorem podError_sound {s : State} {p bank row fatal} (h0 : s.Sound) : (podError s p bank row fatal).Sound := by
  unfold podError
  with_reducible repeat' first
    | assumption | intro _ | apply sound_ite | apply put_sound | apply logOnce_sound | apply count_sound
    | apply detect_sound | dsimp only

theorem managerError_sound {s : State} {bank row fatal} (h0 : s.Sound) : (managerError s bank row fatal).Sound := by
  unfold managerError
  with_reducible repeat' first
    | assumption | intro _ | apply sound_ite | apply put_sound | apply logOnce_sound | apply count_sound | dsimp only

theorem tileHit_sound {s : State} {t h2} (h0 : s.Sound) : (tileHit s t h2).Sound := by
  unfold tileHit
  with_reducible repeat' first | assumption | intro _ | apply tileError_sound

theorem podHit_sound {s : State} {p h2} (h0 : s.Sound) : (podHit s p h2).Sound := by
  unfold podHit
  with_reducible repeat' first | assumption | intro _ | apply podError_sound

theorem managerHit_sound {s : State} {h1} (h0 : s.Sound) : (managerHit s h1).Sound := by
  unfold managerHit
  with_reducible repeat' first | assumption | intro _ | apply managerError_sound

theorem tbMove_sound {s : State} {v} (h0 : s.Sound) : (tbMove s v).Sound := by
  unfold tbMove
  with_reducible repeat' first
    | assumption | intro _ | apply log_sound | apply put64_sound | dsimp only | simp only [sound_mk_iff]

end Sys2Proof.Machine.State
end

