-- ==== Sys2Proof/Laws/Sound/Mesh.lean ====
section
/-! SUPPORT. Each operation of `Sys2Proof/Machine/Mesh.lean` gives a sound state on a sound state. -/

namespace Sys2Proof.Machine.State

set_option linter.unusedTactic false
set_option linter.unreachableTactic false

theorem onMesh_sound {s : State} {f} (h0 : s.Sound) : (onMesh s f).Sound := by
  unfold onMesh
  with_reducible repeat' first | assumption | intro _ | simp only [sound_mk_iff]

theorem addE_sound {s : State} {n g k} (h0 : s.Sound) : (addE s n g k).Sound := by
  unfold addE
  with_reducible repeat' first | assumption | intro _ | apply sound_ite | apply onMesh_sound | simp only [sound_mk_iff]

theorem addR_sound {s : State} {n g k} (h0 : s.Sound) : (addR s n g k).Sound := by
  unfold addR
  with_reducible repeat' first | assumption | intro _ | apply sound_ite | apply onMesh_sound | simp only [sound_mk_iff]

theorem endSpike_sound {s : State} {n p k} (h0 : s.Sound) : (endSpike s n p k).Sound := by
  unfold endSpike
  with_reducible repeat' first | assumption | intro _ | apply sound_ite | apply addR_sound

theorem sendCtrl_sound {s : State} {n p} (h0 : s.Sound) : (sendCtrl s n p).Sound := by
  unfold sendCtrl
  with_reducible repeat' first | assumption | intro _ | apply onMesh_sound | simp only [sound_mk_iff]

theorem answerFenced_sound {s : State} {r p} (h0 : s.Sound) : (answerFenced s r p).Sound := by
  unfold answerFenced
  with_reducible repeat' first | assumption | intro _ | apply sound_ite | apply sendCtrl_sound

theorem echo_sound {s : State} {r p} (h0 : s.Sound) : (echo s r p).Sound := by
  unfold echo
  with_reducible repeat' first
    | assumption | intro _ | apply sound_ite | apply onMesh_sound | apply count_sound | apply sendCtrl_sound
    | dsimp only | split | simp only [sound_mk_iff]

theorem undeliverable_sound {s : State} {r code p} (h0 : s.Sound) : (undeliverable s r code p).Sound := by
  unfold undeliverable
  with_reducible repeat' first
    | assumption | intro _ | apply log_sound | apply raise_sound | apply put_sound | apply countDrop_sound

theorem dropIllegal_sound {s : State} {r p} (h0 : s.Sound) : (dropIllegal s r p).Sound := by
  unfold dropIllegal
  with_reducible repeat' first | assumption | intro _ | apply endSpike_sound | apply undeliverable_sound

theorem dropBlocked_sound {s : State} {r p} (h0 : s.Sound) : (dropBlocked s r p).Sound := by
  unfold dropBlocked
  with_reducible repeat' first
    | assumption | intro _ | apply answerFenced_sound | apply endSpike_sound | apply undeliverable_sound

theorem dsSpill_sound {s : State} {t e} (h0 : s.Sound) : (dsSpill s t e).Sound := by
  unfold dsSpill
  with_reducible repeat' first
    | assumption | intro _ | apply sound_ite | apply wrLe_sound | apply onMesh_sound | apply put_sound
    | apply countDrop_sound | apply logOnce_sound | apply raise_sound | dsimp only | simp only [sound_mk_iff]

theorem dsLevel_sound {s : State} {t} (h0 : s.Sound) : (dsLevel s t).Sound := by
  unfold dsLevel
  with_reducible repeat' first | assumption | intro _ | apply raiseTo_sound | apply put_sound | dsimp only

theorem dsWrite_sound {s : State} {t e} (h0 : s.Sound) : (dsWrite s t e).Sound := by
  unfold dsWrite
  with_reducible repeat' first
    | assumption | intro _ | apply sound_ite | apply dsLevel_sound | apply onMesh_sound | apply dsSpill_sound
    | simp only [sound_mk_iff]

theorem dropLate_sound {s : State} {t f k} (h0 : s.Sound) : (dropLate s t f k).Sound := by
  unfold dropLate
  with_reducible repeat' first
    | assumption | intro _ | apply onMesh_sound | apply countDrop_sound | simp only [sound_mk_iff]

theorem takeAtL_sound {s : State} {r p} (h0 : s.Sound) : (takeAtL s r p).Sound := by
  unfold takeAtL
  with_reducible repeat' first
    | assumption | intro _ | apply sound_foldl | apply sound_ite | apply sound_foldl_fst | apply add64_sound
    | apply echo_sound | apply answerFenced_sound | apply endSpike_sound | apply logOnce_sound | apply countDrop_sound
    | apply onMesh_sound | apply dropLate_sound | apply log_sound | apply dsWrite_sound | dsimp only | split
    | simp only [sound_mk_iff]

theorem tierlinkQueue_sound {s : State} {port p} (h0 : s.Sound) : (tierlinkQueue s port p).Sound := by
  unfold tierlinkQueue
  with_reducible repeat' first
    | assumption | intro _ | apply sound_ite | apply addE_sound | apply onMesh_sound | apply put_sound
    | apply endSpike_sound | apply logOnce_sound | apply raise_sound | apply count_sound | dsimp only
    | simp only [sound_mk_iff]

theorem forward_sound {s : State} {ingress p} (h0 : s.Sound) : (forward s ingress p).Sound := by
  unfold forward
  with_reducible repeat' first
    | assumption | intro _ | apply sound_foldl | apply sound_ite | apply sound_foldl_fst | apply count_sound
    | apply onMesh_sound | apply tierlinkQueue_sound | dsimp only | simp only [sound_mk_iff]

theorem edgeSpike_sound {s : State} {p} (h0 : s.Sound) : (edgeSpike s p).Sound := by
  unfold edgeSpike
  with_reducible repeat' first
    | assumption | intro _ | apply forward_sound | apply tierlinkQueue_sound | apply count_sound | split
    | simp only [sound_mk_iff]

theorem traceTake_sound {s : State} {p} (h0 : s.Sound) : (traceTake s p).Sound := by
  unfold traceTake
  with_reducible repeat' first
    | assumption | intro _ | apply sound_ite | apply onMesh_sound | apply count_sound | simp only [sound_mk_iff]

theorem edgeTake_sound {s : State} {y p} (h0 : s.Sound) : (edgeTake s y p).Sound := by
  unfold edgeTake
  with_reducible repeat' first
    | assumption | intro _ | apply sound_ite | apply onMesh_sound | apply addR_sound | apply traceTake_sound
    | apply edgeSpike_sound | split | simp only [sound_mk_iff]

theorem seamLevel_sound {s : State} {r} (h0 : s.Sound) : (seamLevel s r).Sound := by
  unfold seamLevel
  with_reducible repeat' first
    | assumption | intro _ | apply sound_ite | apply sound_getD | apply raiseTo_sound | apply put_sound | dsimp only

theorem discardPips_sound {s : State} {r p k} (h0 : s.Sound) : (discardPips s r p k).Sound := by
  unfold discardPips
  with_reducible repeat' first
    | assumption | intro _ | apply sound_ite | apply logOnce_sound | apply raise_sound | apply put_sound
    | apply count_sound

theorem nakPips_sound {s : State} {r p l} (h0 : s.Sound) : (nakPips s r p l).Sound := by
  unfold nakPips
  with_reducible repeat' first | assumption | intro _ | apply onMesh_sound | split | simp only [sound_mk_iff]

theorem damaged_sound {s : State} {r p pip} (h0 : s.Sound) : (damaged s r p pip).Sound := by
  unfold damaged
  with_reducible repeat' first
    | assumption | intro _ | apply nakPips_sound | apply detect_sound | apply discardPips_sound

theorem sendOn_sound {s : State} {r q p} (h0 : s.Sound) : (sendOn s r q p).Sound := by
  unfold sendOn
  with_reducible repeat' first
    | assumption | intro _ | apply sound_ite | apply onMesh_sound | apply damaged_sound | apply injected_sound
    | apply seamLevel_sound | apply edgeTake_sound | dsimp only | split | simp only [sound_mk_iff]

theorem storm_sound {s : State} {r port p} (h0 : s.Sound) : (storm s r port p).Sound := by
  unfold storm
  with_reducible repeat' first
    | assumption | intro _ | apply sound_ite | apply raise_sound | apply put_sound | apply count_sound
    | apply detect_sound | apply logOnce_sound | apply onMesh_sound | apply sendCtrl_sound | dsimp only
    | simp only [sound_mk_iff]

/-- Soundness of an award through a fold. -/
theorem sound_foldl_award {α : Type} {f : Award → α → Award} {x : Award} (l : List α) (h : x.st.Sound)
    (hf : ∀ x : Award, x.st.Sound → ∀ a, (f x a).st.Sound) : (l.foldl f x).st.Sound := by
  induction l generalizing x with
  | nil => exact h
  | cons a r ih => exact ih (hf x h a)

theorem Award.give_sound {a : State.Award} {r q p} (h0 : a.st.Sound) : (Award.give a r q p).st.Sound := by
  unfold Award.give
  with_reducible repeat' first
    | assumption | intro _ | apply sendOn_sound | dsimp only | split | simp only [sound_mk_iff]

theorem seamDeflect_sound {s : State} {r need} (h0 : s.Sound) : (seamDeflect s r need).Sound := by
  unfold seamDeflect
  with_reducible repeat' first | assumption | intro _ | apply sound_ite | apply count_sound

theorem Award.deflect_sound {a : State.Award} {r port p need} (h0 : a.st.Sound) :
    (Award.deflect a r port p need).st.Sound := by
  unfold Award.deflect
  with_reducible repeat' first
    | assumption | intro _ | apply sound_ite | apply seamDeflect_sound | apply countOp_sound | apply add64_sound
    | apply storm_sound | apply Award.give_sound | apply countDrop_sound | dsimp only | split | simp only [sound_mk_iff]

theorem dropMulticast_sound {s : State} {r p need} (h0 : s.Sound) : (dropMulticast s r p need).Sound := by
  unfold dropMulticast
  with_reducible repeat' first
    | assumption | intro _ | apply sound_ite | apply put_sound | apply endSpike_sound | apply undeliverable_sound
    | dsimp only

theorem Award.copy_sound {a : State.Award} {r p need} (h0 : a.st.Sound) : (Award.copy a r p need).st.Sound := by
  unfold Award.copy
  with_reducible repeat' first
    | assumption | intro _ | apply sound_foldl | apply sound_ite | apply sound_foldl_fst | apply takeAtL_sound
    | apply Award.give_sound | apply sound_foldl_award | dsimp only | split | simp only [sound_mk_iff]

theorem Award.place_sound {a : State.Award} {r port p later} (h0 : a.st.Sound) :
    (Award.place a r port p later).st.Sound := by
  unfold Award.place
  with_reducible repeat' first
    | assumption | intro _ | apply sound_ite | apply dropIllegal_sound | apply Award.copy_sound
    | apply Award.deflect_sound | apply dropMulticast_sound | apply dropBlocked_sound | apply takeAtL_sound
    | apply injected_sound | apply Award.give_sound | dsimp only | split | simp only [sound_mk_iff]

theorem Award.all_sound {a : State.Award} {r a2} (h0 : a.st.Sound) : (Award.all a r a2).st.Sound := by
  fun_induction Award.all a r a2 <;> with_reducible repeat' first | assumption | apply_assumption | intro _ | apply Award.place_sound | dsimp only | split

theorem takeLink_sound {s : State} {r p} (h0 : s.Sound) : (takeLink s r p).Sound := by
  unfold takeLink
  with_reducible repeat' first
    | assumption | intro _ | apply sound_ite | apply onMesh_sound | apply seamLevel_sound | dsimp only | split
    | simp only [sound_mk_iff]

theorem crcDiscard_sound {s : State} {r p pip} (h0 : s.Sound) : (crcDiscard s r p pip).Sound := by
  unfold crcDiscard
  with_reducible repeat' first | assumption | intro _ | apply damaged_sound | apply takeLink_sound

theorem routeCycle_sound {s : State} {r got} (h0 : s.Sound) : (routeCycle s r got).Sound := by
  unfold routeCycle
  with_reducible repeat' first
    | assumption | intro _ | apply sound_foldl | apply sound_ite | apply sound_foldl_fst | apply sound_foldl_snd
    | apply sound_ite_snd | apply crcDiscard_sound | apply takeLink_sound | apply Award.all_sound | apply onMesh_sound
    | apply sound_foldl_award | dsimp only | split | simp only [sound_mk_iff]

theorem putBucket_sound {s : State} {n spent} (h0 : s.Sound) : (putBucket s n spent).Sound := by
  unfold putBucket
  with_reducible repeat' first | assumption | intro _ | apply put_sound | apply onMesh_sound | simp only [sound_mk_iff]

theorem refill_sound {s : State} {n} (h0 : s.Sound) : (refill s n).Sound := by
  unfold refill
  with_reducible repeat' first | assumption | intro _ | apply putBucket_sound

theorem spend_sound {s : State} {n} (h0 : s.Sound) : (spend s n).Sound := by
  unfold spend
  with_reducible repeat' first | assumption | intro _ | apply putBucket_sound

theorem acceptEcho_sound {s : State} {n} (h0 : s.Sound) : (acceptEcho s n).Sound := by
  unfold acceptEcho
  with_reducible repeat' first
    | assumption | intro _ | apply sound_ite | apply count_sound | apply onMesh_sound | apply put_sound | dsimp only
    | simp only [sound_mk_iff]

theorem retryLevel_sound {s : State} {r} (h0 : s.Sound) : (retryLevel s r).Sound := by
  unfold retryLevel
  with_reducible repeat' first | assumption | intro _ | apply put_sound

theorem drainNaks_sound {s : State} {r p a : Nat} (h : s.Sound) : (drainNaks s r p a).Sound := by
  induction a generalizing s with
  | zero => exact h
  | succ n ih =>
    unfold drainNaks
    split
    · exact h
    · exact sound_ite h (ih (retryLevel_sound (onMesh_sound h)))

theorem refillRetry_sound {s : State} {r} (h0 : s.Sound) : (refillRetry s r).Sound := by
  unfold refillRetry
  with_reducible repeat' first
    | assumption | intro _ | apply sound_foldl | apply sound_ite | apply sound_foldl_fst | apply drainNaks_sound

theorem halfDown_sound {s : State} {r p} (h0 : s.Sound) : (halfDown s r p).Sound := by
  unfold halfDown
  with_reducible repeat' first
    | assumption | intro _ | apply sound_ite | apply put_sound | apply onMesh_sound | apply seamLevel_sound
    | apply nakPips_sound | apply discardPips_sound | dsimp only | split | simp only [sound_mk_iff]

theorem linkDown_sound {s : State} {r p} (h0 : s.Sound) : (linkDown s r p).Sound := by
  unfold linkDown
  with_reducible repeat' first
    | assumption | intro _ | apply halfDown_sound | apply refillRetry_sound | dsimp only | split
    | simp only [sound_mk_iff]

theorem linkRaise_sound {s : State} {r p} (h0 : s.Sound) : (linkRaise s r p).Sound := by
  unfold linkRaise
  with_reducible repeat' first
    | assumption | intro _ | apply sound_ite | apply put_sound | dsimp only | split | simp only [sound_mk_iff]

theorem thrCleared_sound {s : State} {r} (h0 : s.Sound) : (thrCleared s r).Sound := by
  unfold thrCleared
  with_reducible repeat' first | assumption | intro _ | apply sound_ite | apply put_sound

theorem takeCandidate_sound {s : State} {r src p} (h0 : s.Sound) : (takeCandidate s r src p).Sound := by
  unfold takeCandidate
  with_reducible repeat' first
    | assumption | intro _ | apply sound_ite | apply countOp_sound | apply add64_sound | apply onMesh_sound
    | apply refillRetry_sound | apply retryLevel_sound | apply count_sound | apply spend_sound | apply addE_sound
    | dsimp only | split | simp only [sound_mk_iff]

theorem injectWait_sound {s : State} {r} (h0 : s.Sound) : (injectWait s r).Sound := by
  unfold injectWait
  with_reducible repeat' first | assumption | intro _ | apply count_sound

theorem injectCycle_sound {s : State} {r} (h0 : s.Sound) : (injectCycle s r).Sound := by
  unfold injectCycle
  with_reducible repeat' first
    | assumption | intro _ | apply sound_ite | apply onMesh_sound | apply refill_sound | apply takeCandidate_sound
    | apply dropIllegal_sound | apply Award.copy_sound | apply injectWait_sound | apply dropMulticast_sound
    | apply dropBlocked_sound | apply takeAtL_sound | apply Award.give_sound | apply countOp_sound | apply add64_sound
    | apply seamDeflect_sound | dsimp only | split | simp only [sound_mk_iff]

theorem edgeSend_sound {s : State} {row p} (h0 : s.Sound) : (edgeSend s row p).Sound := by
  unfold edgeSend
  with_reducible repeat' first | assumption | intro _ | apply onMesh_sound | simp only [sound_mk_iff]

theorem execPipRoute_sound {router crc} {s : State} (h2 : s.Sound) : ResultSound (execPipRoute router crc s) := by
  unfold execPipRoute
  with_reducible repeat' first | assumption | apply done_sound | intro _ | apply routeCycle_sound

theorem execPipInject_sound {router} {s : State} (h1 : s.Sound) : ResultSound (execPipInject router s) := by
  unfold execPipInject
  with_reducible repeat' first | assumption | apply done_sound | intro _ | apply injectCycle_sound

theorem execEdgeReturnPip_sound {row} {s : State} (h1 : s.Sound) : ResultSound (execEdgeReturnPip row s) := by
  unfold execEdgeReturnPip
  with_reducible repeat' first
    | assumption | apply done_sound | intro _ | apply edgeSend_sound | apply onMesh_sound | split
    | simp only [sound_mk_iff]

theorem edgeCycle_sound {s : State} {row} (h0 : s.Sound) : (edgeCycle s row).Sound := by
  unfold edgeCycle
  with_reducible repeat' first
    | assumption | intro _ | apply sound_ite | apply refill_sound | apply edgeSend_sound | apply onMesh_sound
    | apply spend_sound | apply addE_sound | dsimp only | split | simp only [sound_mk_iff]

theorem execEdgeInject_sound {row} {s : State} (h1 : s.Sound) : ResultSound (execEdgeInject row s) := by
  unfold execEdgeInject
  with_reducible repeat' first | assumption | apply done_sound | intro _ | apply edgeCycle_sound

theorem execNakReceive_sound {router port} {s : State} (h2 : s.Sound) : ResultSound (execNakReceive router port s) := by
  unfold execNakReceive
  with_reducible repeat' first
    | assumption | apply done_sound | apply sound_ite_result | intro _ | apply sound_ite | apply drainNaks_sound
    | apply put_sound | apply log_sound | apply linkDown_sound | dsimp only

theorem execLinkDownSignal_sound {router port} {s : State} (h2 : s.Sound) :
    ResultSound (execLinkDownSignal router port s) := by
  unfold execLinkDownSignal
  with_reducible repeat' first | assumption | apply done_sound | intro _ | apply linkDown_sound

theorem throttleTake_sound {s : State} {n ptype} (h0 : s.Sound) : ∀ t, throttleTake s n ptype = some t → t.Sound := by
  unfold throttleTake
  with_reducible repeat' first
    | assumption | exact sound_none | refine sound_some ?_ | intro (_ : State) (_ : State.Sound _) _
    | apply onMesh_sound | split | intro (_ : State) (_ : State.Sound _) | simp only [sound_mk_iff]

theorem execEchoReceive_sound {node} {s : State} (h1 : s.Sound) : ResultSound (execEchoReceive node s) := by
  unfold execEchoReceive
  with_reducible repeat' first
    | assumption | apply done_sound | intro _ | apply acceptEcho_sound | split
    | refine throttleTake_sound ?_ _ (by assumption) | simp only [sound_mk_iff]

theorem execStormNoticeReceive_sound {node} {s : State} (h1 : s.Sound) :
    ResultSound (execStormNoticeReceive node s) := by
  unfold execStormNoticeReceive
  with_reducible repeat' first
    | assumption | apply done_sound | apply sound_ite_result | intro _ | apply sound_ite | apply put_sound | split
    | refine throttleTake_sound ?_ _ (by assumption) | simp only [sound_mk_iff]

theorem execThrottleIncrease_sound {node} {s : State} (h1 : s.Sound) : ResultSound (execThrottleIncrease node s) := by
  unfold execThrottleIncrease
  with_reducible repeat' first
    | assumption | apply done_sound | apply sound_ite_result | intro _ | apply sound_ite | apply reach_sound
    | apply onMesh_sound | apply put_sound | dsimp only | simp only [sound_mk_iff]

theorem delayDrain_sound {s : State} (h0 : s.Sound) : (delayDrain s).Sound := by
  unfold delayDrain
  with_reducible repeat' first
    | assumption | intro _ | apply sound_foldl | apply sound_foldl_fst | apply sound_foldl_snd | apply sound_ite_snd
    | apply dsWrite_sound | apply onMesh_sound | simp only [sound_mk_iff]

theorem execDelayStoreWrite_sound {router} {s : State} (h1 : s.Sound) : ResultSound (execDelayStoreWrite router s) := by
  unfold execDelayStoreWrite
  with_reducible repeat' first
    | assumption | apply done_sound | intro _ | apply dsWrite_sound | apply onMesh_sound | split
    | simp only [sound_mk_iff]

theorem mcStep_sound {s : State} {r} (h0 : s.Sound) : (mcStep s r).Sound := by
  unfold mcStep
  with_reducible repeat' first | assumption | intro _ | apply sound_ite | apply put_sound

theorem mcWrite_sound {s : State} {r value remap} (h0 : s.Sound) : (mcWrite s r value remap).Sound := by
  unfold mcWrite
  with_reducible repeat' first
    | assumption | intro _ | apply sound_ite | apply onMesh_sound | apply mcStep_sound | dsimp only
    | simp only [sound_mk_iff]

theorem execMcEntryWrite_sound {router value remap} {s : State} (h3 : s.Sound) :
    ResultSound (execMcEntryWrite router value remap s) := by
  unfold execMcEntryWrite
  with_reducible repeat' first | assumption | apply done_sound | intro _ | apply mcWrite_sound

theorem spillWrite_sound {s : State} {r isLen value} (h0 : s.Sound) : (spillWrite s r isLen value).Sound := by
  unfold spillWrite
  with_reducible repeat' first | assumption | intro _ | apply sound_ite | apply put_sound | dsimp only

theorem execSpillRegionWrite_sound {router isLen value} {s : State} (h3 : s.Sound) :
    ResultSound (execSpillRegionWrite router isLen value s) := by
  unfold execSpillRegionWrite
  with_reducible repeat' first | assumption | apply done_sound | intro _ | apply spillWrite_sound

end Sys2Proof.Machine.State
end

