-- ==== Sys2Proof/Laws/Sound/Trace.lean ====
section
/-! SUPPORT. Each operation of `Sys2Proof/Machine/Trace.lean` gives a sound state on a sound state. -/

namespace Sys2Proof.Machine.State

set_option linter.unusedTactic false
set_option linter.unreachableTactic false

theorem trace_sound {s : State} {t ptype pay} (h0 : s.Sound) : (trace s t ptype pay).Sound := by
  unfold trace
  with_reducible repeat' first
    | assumption | intro _ | apply sound_ite | apply count_sound | apply onMesh_sound | simp only [sound_mk_iff]

theorem setWait_sound {s : State} {t kind src obj peer} (h0 : s.Sound) : (setWait s t kind src obj peer).Sound := by
  unfold setWait
  with_reducible repeat' first
    | assumption | intro _ | apply sound_ite | apply put_sound | apply trace_sound | dsimp only

end Sys2Proof.Machine.State
end

