-- ==== Sys2Proof/Laws/Sound/Queue.lean ====
section
/-! SUPPORT. Each operation of `Sys2Proof/Machine/Queue.lean` gives a sound state on a sound state. -/

namespace Sys2Proof.Machine.State

set_option linter.unusedTactic false
set_option linter.unreachableTactic false

theorem qput_sound {s : State} {u i lo len v} (h0 : s.Sound) : (qput s u i lo len v).Sound := by
  unfold qput
  with_reducible repeat' first | assumption | intro _ | apply put_sound

theorem qShape_sound {s : State} {u i} (h0 : s.Sound) : (qShape s u i).Sound := by
  unfold qShape
  with_reducible repeat' first
    | assumption | intro _ | apply sound_foldl | apply sound_ite | apply sound_foldl_fst | apply setReg_sound
    | dsimp only

theorem unitCtrl_sound {s : State} {u dest ptype pay} (h0 : s.Sound) : (unitCtrl s u dest ptype pay).Sound := by
  unfold unitCtrl
  with_reducible repeat' first | assumption | intro _ | apply sound_ite | apply sendCtrl_sound | dsimp only

theorem sendCredit_sound {s : State} {u i ptype epoch n} (h0 : s.Sound) : (sendCredit s u i ptype epoch n).Sound := by
  unfold sendCredit
  with_reducible repeat' first
    | assumption | intro _ | apply sound_ite | apply onMesh_sound | apply unitCtrl_sound | apply count_sound
    | dsimp only | split | simp only [sound_mk_iff]

theorem qReady_sound {s : State} {u i} (h0 : s.Sound) : (qReady s u i).Sound := by
  unfold qReady
  with_reducible repeat' first
    | assumption | intro _ | apply sound_ite | apply put_sound | apply raise_sound | apply msix_sound | dsimp only
    | split

theorem qResult_sound {s : State} {u st} (h0 : s.Sound) : (qResult s u st).Sound := by
  unfold qResult
  with_reducible repeat' first | assumption | intro _ | apply put_sound

theorem qRestart_sound {s : State} {u i} (h0 : s.Sound) : (qRestart s u i).Sound := by
  unfold qRestart
  with_reducible repeat' first
    | assumption | intro _ | apply sound_ite | apply qput_sound | apply qShape_sound | apply qReady_sound | dsimp only
    | simp only [sound_mk_iff]

theorem openRx_sound {s : State} {u i} (h0 : s.Sound) : (openRx s u i).Sound := by
  unfold openRx
  with_reducible repeat' first | assumption | intro _ | apply sound_ite | apply qResult_sound | apply qRestart_sound

theorem resetRx_sound {s : State} {u i} (h0 : s.Sound) : (resetRx s u i).Sound := by
  unfold resetRx
  with_reducible repeat' first
    | assumption | intro _ | apply sound_ite | apply qResult_sound | apply qRestart_sound | apply sendCredit_sound
    | dsimp only

theorem fillCleared_sound {s : State} {u i} (h0 : s.Sound) : (fillCleared s u i).Sound := by
  unfold fillCleared
  with_reducible repeat' first
    | assumption | intro _ | apply sound_ite | apply wrBytes_sound | apply sendCredit_sound | apply qput_sound
    | dsimp only | split | simp only [sound_mk_iff]

theorem closeQueue_sound {s : State} {u i} (h0 : s.Sound) : (closeQueue s u i).Sound := by
  unfold closeQueue
  with_reducible repeat' first
    | assumption | intro _ | apply sound_ite | apply qput_sound | apply sendCredit_sound | apply qResult_sound
    | apply qReady_sound | dsimp only | split | simp only [sound_mk_iff]

theorem openTx_sound {s : State} {u i} (h0 : s.Sound) : (openTx s u i).Sound := by
  unfold openTx
  with_reducible repeat' first
    | assumption | intro _ | apply sound_ite | apply qResult_sound | apply qput_sound | apply qShape_sound | dsimp only

theorem ackEpoch_sound {s : State} {u i} (h0 : s.Sound) : (ackEpoch s u i).Sound := by
  unfold ackEpoch
  with_reducible repeat' first
    | assumption | intro _ | apply sound_ite | apply qResult_sound | apply qput_sound | dsimp only

theorem Sent.st_sound {self : State.Sent} (h0 : self.st.Sound) : (Sent.st self).Sound := by
  unfold Sent.st
  with_reducible repeat' first
    | assumption | intro _ | apply sound_ite | apply sound_getD | dsimp only | split | simp only [sound_mk_iff]

theorem offer_sound {s : State} {u i body} (h0 : s.Sound) : (offer s u i body).st.Sound := by
  unfold offer
  with_reducible repeat' first
    | assumption | intro _ | apply sound_ite | apply sound_getD | apply count_sound | apply qput_sound
    | apply add64_sound | apply onMesh_sound | dsimp only | split | simp only [sound_mk_iff]

theorem traceQueue_sound {s : State} {u i body dir seq peer st} (h0 : s.Sound) :
    (traceQueue s u i body dir seq peer st).Sound := by
  unfold traceQueue
  with_reducible repeat' first | assumption | intro _ | apply sound_ite | apply trace_sound

theorem queueSend_sound {s : State} {u i} (h0 : s.Sound) : (queueSend s u i).Sound := by
  unfold queueSend
  with_reducible repeat' first
    | assumption | intro _ | apply sound_ite | apply offer_sound | apply put_sound | apply setWait_sound
    | apply traceQueue_sound | dsimp only | split | simp only [sound_mk_iff]

theorem engineSend_sound {s : State} {u addr body} (h0 : s.Sound) : (engineSend s u addr body).st.Sound := by
  unfold engineSend
  with_reducible repeat' first
    | assumption | intro _ | apply offer_sound | apply count_sound | dsimp only | split | simp only [sound_mk_iff]

theorem applyCredit_sound {s : State} {u i revoke e n} (h0 : s.Sound) : (applyCredit s u i revoke e n).Sound := by
  unfold applyCredit
  with_reducible repeat' first
    | assumption | intro _ | apply sound_ite | apply qput_sound | apply count_sound | dsimp only | split

theorem creditPip_sound {s : State} {u revoke p} (h0 : s.Sound) : (creditPip s u revoke p).Sound := by
  unfold creditPip
  with_reducible repeat' first
    | assumption | intro _ | apply applyCredit_sound | apply count_sound | split | simp only [sound_mk_iff]

theorem setFill_sound {s : State} {ring n q v} (h0 : s.Sound) : (setFill s ring n q v).Sound := by
  unfold setFill
  with_reducible repeat' first | assumption | intro _ | apply sound_ite | apply wr8_sound | dsimp only | split

theorem passFilled_sound {s : State} {ring n q a : Nat} (h : s.Sound) : (passFilled s ring n q a).1.Sound := by
  induction a generalizing s q with
  | zero => exact h
  | succ k ih =>
    unfold passFilled
    split
    · exact ih (setFill_sound h)
    · exact h

theorem qDropped_sound {s : State} {u f} (h0 : s.Sound) : (qDropped s u f).Sound := by
  unfold qDropped
  with_reducible repeat' first | assumption | intro _ | apply raise_sound | apply count_sound

theorem accept_sound {s : State} {u i mine p} (h0 : s.Sound) : (accept s u i mine p).Sound := by
  unfold accept
  with_reducible repeat' first
    | assumption | intro _ | apply sound_ite | apply qDropped_sound | apply qput_sound | apply log_sound
    | apply add64_sound | apply wrLe_sound | apply passFilled_sound | apply qReady_sound | apply setFill_sound
    | dsimp only | split | refine sound_fst ?_ (by assumption) | simp only [sound_mk_iff]

theorem fillHit_sound {s : State} {u i h3} (h0 : s.Sound) : (fillHit s u i h3).Sound := by
  unfold fillHit
  with_reducible repeat' first
    | assumption | intro _ | apply tileHit_sound | apply podHit_sound | apply managerHit_sound | split
    | simp only [sound_mk_iff]

theorem receiveMsg_sound {s : State} {u ecc} (h0 : s.Sound) : (receiveMsg s u ecc).Sound := by
  unfold receiveMsg
  with_reducible repeat' first
    | assumption | intro _ | apply sound_ite | apply onMesh_sound | apply accept_sound | apply fillHit_sound
    | apply qDropped_sound | dsimp only | split | simp only [sound_mk_iff]

theorem queueTake_sound {s : State} {u i n} (h0 : s.Sound) : (queueTake s u i n).Sound := by
  unfold queueTake
  with_reducible repeat' first
    | assumption | intro _ | apply sound_foldl | apply sound_ite | apply sound_foldl_fst | apply traceQueue_sound
    | apply qput_sound | apply qReady_sound | dsimp only | split | simp only [sound_mk_iff]

theorem queuePop_sound {s : State} {u i n} (h0 : s.Sound) : (queuePop s u i n).Sound := by
  unfold queuePop
  with_reducible repeat' first
    | assumption | intro _ | apply sound_ite | apply put_sound | apply queueTake_sound | dsimp only | split

theorem returnOne_sound {s : State} {u i} (h0 : s.Sound) : (returnOne s u i).Sound := by
  unfold returnOne
  with_reducible repeat' first
    | assumption | intro _ | apply qput_sound | apply sendCredit_sound | dsimp only | simp only [sound_mk_iff]

theorem returnCredits_sound {s : State} {u i} (h0 : s.Sound) : (returnCredits s u i).Sound := by
  unfold returnCredits
  with_reducible repeat' first
    | assumption | intro _ | apply sound_foldl | apply sound_ite | apply sound_foldl_fst | apply sound_foldl_snd
    | apply sound_ite_snd | apply returnOne_sound | dsimp only

theorem gapScanOne_sound {s : State} {u i} (h0 : s.Sound) : (gapScanOne s u i).Sound := by
  unfold gapScanOne
  with_reducible repeat' first
    | assumption | intro _ | apply sound_ite | apply raise_sound | apply put_sound | apply qput_sound | apply log_sound
    | apply countObj_sound | apply count_sound | dsimp only | simp only [sound_mk_iff]

theorem gapScan_sound {s : State} {u} (h0 : s.Sound) : (gapScan s u).Sound := by
  unfold gapScan
  with_reducible repeat' first
    | assumption | intro _ | apply sound_foldl | apply sound_ite | apply sound_foldl_fst | apply gapScanOne_sound

theorem execOpenRx_sound {unit index} {s : State} (h2 : s.Sound) : ResultSound (execOpenRx unit index s) := by
  unfold execOpenRx
  with_reducible repeat' first | assumption | apply done_sound | intro _ | apply openRx_sound

theorem execFillMapCleared_sound {unit index} {s : State} (h2 : s.Sound) :
    ResultSound (execFillMapCleared unit index s) := by
  unfold execFillMapCleared
  with_reducible repeat' first | assumption | apply done_sound | intro _ | apply fillCleared_sound

theorem execResetRx_sound {unit index} {s : State} (h2 : s.Sound) : ResultSound (execResetRx unit index s) := by
  unfold execResetRx
  with_reducible repeat' first | assumption | apply done_sound | intro _ | apply resetRx_sound

theorem execCloseQueue_sound {unit index} {s : State} (h2 : s.Sound) : ResultSound (execCloseQueue unit index s) := by
  unfold execCloseQueue
  with_reducible repeat' first | assumption | apply done_sound | intro _ | apply closeQueue_sound

theorem execOpenTx_sound {unit index} {s : State} (h2 : s.Sound) : ResultSound (execOpenTx unit index s) := by
  unfold execOpenTx
  with_reducible repeat' first | assumption | apply done_sound | intro _ | apply openTx_sound

theorem execAckEpoch_sound {unit index} {s : State} (h2 : s.Sound) : ResultSound (execAckEpoch unit index s) := by
  unfold execAckEpoch
  with_reducible repeat' first | assumption | apply done_sound | intro _ | apply ackEpoch_sound

theorem execQueueSend_sound {unit index} {s : State} (h2 : s.Sound) : ResultSound (execQueueSend unit index s) := by
  unfold execQueueSend
  with_reducible repeat' first | assumption | apply done_sound | intro _ | apply queueSend_sound

theorem takeCtrl_sound {s : State} {u ptype : Nat} (h : s.Sound) :
    ∀ b t, takeCtrl s u ptype = some (b, t) → t.Sound := by
  intro b t e
  simp only [takeCtrl, Option.bind_eq_some_iff, Option.map_eq_some_iff, Prod.mk.injEq] at e
  obtain ⟨n, -, p, -, -, rfl⟩ := e
  exact onMesh_sound h

theorem execCreditReturnReceive_sound {unit} {s : State} (h1 : s.Sound) :
    ResultSound (execCreditReturnReceive unit s) := by
  unfold execCreditReturnReceive
  with_reducible repeat' first
    | assumption | apply done_sound | intro _ | apply creditPip_sound | split
    | refine takeCtrl_sound ?_ _ _ (by assumption) | simp only [sound_mk_iff]

theorem execCreditRevokeReceive_sound {unit} {s : State} (h1 : s.Sound) :
    ResultSound (execCreditRevokeReceive unit s) := by
  unfold execCreditRevokeReceive
  with_reducible repeat' first
    | assumption | apply done_sound | intro _ | apply creditPip_sound | split
    | refine takeCtrl_sound ?_ _ _ (by assumption) | simp only [sound_mk_iff]

theorem execQueuePop_sound {unit index count} {s : State} (h3 : s.Sound) :
    ResultSound (execQueuePop unit index count s) := by
  unfold execQueuePop
  with_reducible repeat' first | assumption | apply done_sound | intro _ | apply queuePop_sound

theorem execCreditReturnSend_sound {unit index} {s : State} (h2 : s.Sound) :
    ResultSound (execCreditReturnSend unit index s) := by
  unfold execCreditReturnSend
  with_reducible repeat' first | assumption | apply done_sound | intro _ | apply returnCredits_sound

theorem execGapScan_sound {unit} {s : State} (h1 : s.Sound) : ResultSound (execGapScan unit s) := by
  unfold execGapScan
  with_reducible repeat' first | assumption | apply done_sound | intro _ | apply gapScan_sound

end Sys2Proof.Machine.State
end

