-- ==== Sys2Proof/Laws/Sound/Neuron.lean ====
section
/-! SUPPORT. Each operation of `Sys2Proof/Machine/Neuron.lean` gives a sound state on a sound state. -/

namespace Sys2Proof.Machine.State

set_option linter.unusedTactic false
set_option linter.unreachableTactic false

theorem ctxError_sound {s : State} {t n code} (h0 : s.Sound) : (ctxError s t n code).Sound := by
  unfold ctxError
  with_reducible repeat' first | assumption | intro _ | apply put_sound | apply raise_sound | dsimp only

theorem ctxWrite_sound {s : State} {t n off w} (h0 : s.Sound) : (ctxWrite s t n off w).Sound := by
  unfold ctxWrite
  with_reducible repeat' first
    | assumption | intro _ | apply sound_foldl | apply sound_ite | apply sound_foldl_fst | apply writeOnly_sound
    | apply ctxError_sound | dsimp only | split | simp only [sound_mk_iff]

theorem ctrlWrite_sound {s : State} {t n w} (h0 : s.Sound) : (ctrlWrite s t n w).Sound := by
  unfold ctrlWrite
  with_reducible repeat' first
    | assumption | intro _ | apply sound_ite | apply ctxWrite_sound | apply put_sound | apply ctxError_sound
    | dsimp only

theorem windowWrite_sound {s : State} {t w} (h0 : s.Sound) : (windowWrite s t w).Sound := by
  unfold windowWrite
  with_reducible repeat' first
    | assumption | intro _ | apply sound_ite | apply raise_sound | apply put_sound | dsimp only

theorem execContextEnable_sound {tile ctx value} {s : State} (h3 : s.Sound) :
    ResultSound (execContextEnable tile ctx value s) := by
  unfold execContextEnable
  with_reducible repeat' first | assumption | apply done_sound | intro _ | apply ctrlWrite_sound | split

theorem execContextDisable_sound {tile ctx value} {s : State} (h3 : s.Sound) :
    ResultSound (execContextDisable tile ctx value s) := by
  unfold execContextDisable
  with_reducible repeat' first | assumption | apply done_sound | intro _ | apply ctrlWrite_sound

theorem execContextFieldWrite_sound {tile ctx reg value} {s : State} (h4 : s.Sound) :
    ResultSound (execContextFieldWrite tile ctx reg value s) := by
  unfold execContextFieldWrite
  with_reducible repeat' first | assumption | apply done_sound | intro _ | apply ctxWrite_sound

theorem execNeWindowWrite_sound {tile value} {s : State} (h2 : s.Sound) :
    ResultSound (execNeWindowWrite tile value s) := by
  unfold execNeWindowWrite
  with_reducible repeat' first | assumption | apply done_sound | intro _ | apply windowWrite_sound

end Sys2Proof.Machine.State
end

