-- ==== Sys2Proof/Laws/Sound/Delivery.lean ====
section
/-! SUPPORT. Each operation of `Sys2Proof/Machine/Delivery.lean` gives a sound state on a sound state. -/

namespace Sys2Proof.Machine.State

set_option linter.unusedTactic false
set_option linter.unreachableTactic false

theorem onDelivery_sound {s : State} {f} (h0 : s.Sound) : (onDelivery s f).Sound := by
  unfold onDelivery
  with_reducible repeat' first | assumption | intro _ | simp only [sound_mk_iff]

theorem areaWrite_sound {s : State} {p n d j i grade} (h0 : s.Sound) : (areaWrite s p n d j i grade).Sound := by
  unfold areaWrite
  with_reducible repeat' first | assumption | intro _ | apply wrLe_sound | dsimp only

theorem areaClear_sound {s : State} {p n d} (h0 : s.Sound) : (areaClear s p n d).Sound := by
  unfold areaClear
  with_reducible repeat' first | assumption | intro _ | apply wrBytes_sound

theorem dqLevel_sound {s : State} {t} (h0 : s.Sound) : (dqLevel s t).Sound := by
  unfold dqLevel
  with_reducible repeat' first | assumption | intro _ | apply raiseTo_sound | apply put_sound | dsimp only

theorem refillDeques_sound {s : State} {t} (h0 : s.Sound) : (refillDeques s t).Sound := by
  unfold refillDeques
  with_reducible repeat' first
    | assumption | intro _ | apply dqLevel_sound | apply onDelivery_sound | dsimp only | simp only [sound_mk_iff]

theorem dropDead_sound {s : State} {home k} (h0 : s.Sound) : (dropDead s home k).Sound := by
  unfold dropDead
  with_reducible repeat' first | assumption | intro _ | apply countDrop_sound

theorem pushStep_sound {s : State} {home j} (h0 : s.Sound) : (pushStep s home j).Sound := by
  unfold pushStep
  with_reducible repeat' first
    | assumption | intro _ | apply sound_ite | apply dropDead_sound | apply dqLevel_sound | apply onDelivery_sound
    | simp only [sound_mk_iff]

theorem pushWin_sound {s : State} {home js} (h0 : s.Sound) : (pushWin s home js).Sound := by
  unfold pushWin
  with_reducible repeat' first
    | assumption | intro _ | apply sound_ite | apply dropDead_sound | apply refillDeques_sound | apply onDelivery_sound
    | simp only [sound_mk_iff]

theorem pushParts_sound {s : State} {home js} (h0 : s.Sound) : (pushParts s home js).Sound := by
  unfold pushParts
  with_reducible repeat' first
    | assumption | intro _ | apply sound_ite | apply dropDead_sound | apply refillDeques_sound | apply onDelivery_sound
    | simp only [sound_mk_iff]

theorem sweepsSettle_sound {s : State} {p} (h0 : s.Sound) : (sweepsSettle s p).Sound := by
  unfold sweepsSettle
  with_reducible repeat' first
    | assumption | intro _ | apply sound_ite | apply onDelivery_sound | apply put_sound | dsimp only | split
    | simp only [sound_mk_iff]

theorem drainDead_sound {s : State} {p} (h0 : s.Sound) : (drainDead s p).Sound := by
  unfold drainDead
  with_reducible repeat' first
    | assumption | intro _ | apply sound_foldl | apply sound_ite | apply sound_foldl_fst | apply sweepsSettle_sound
    | apply dqLevel_sound | apply onDelivery_sound | apply dropDead_sound | dsimp only | split
    | simp only [sound_mk_iff]

theorem takeJob_sound {s : State} {v win j fromHead} (h0 : s.Sound) : (takeJob s v win j fromHead).Sound := by
  unfold takeJob
  with_reducible repeat' first
    | assumption | intro _ | apply sound_ite | apply refillDeques_sound | apply onDelivery_sound | dsimp only | split
    | simp only [sound_mk_iff]

theorem faultSlot_sound {s : State} {t p n d b src} (h0 : s.Sound) : (faultSlot s t p n d b src).Sound := by
  unfold faultSlot
  with_reducible repeat' first
    | assumption | intro _ | apply sound_ite | apply log_sound | apply raise_sound | apply put_sound
    | apply onDelivery_sound | dsimp only | simp only [sound_mk_iff]

theorem faultHomeless_sound {s : State} {t p n d} (h0 : s.Sound) : (faultHomeless s t p n d).Sound := by
  unfold faultHomeless
  with_reducible repeat' first
    | assumption | intro _ | apply sound_ite | apply onDelivery_sound | apply countDrop_sound | apply log_sound
    | apply put_sound | simp only [sound_mk_iff]

theorem sendAll_sound {s : State} {t p n win out} (h0 : s.Sound) : (sendAll s t p n win out).Sound := by
  unfold sendAll
  with_reducible repeat' first
    | assumption | intro _ | apply sound_foldl | apply sound_foldl_fst | apply onDelivery_sound | split
    | simp only [sound_mk_iff]

theorem finishWork_sound {s : State} {t p n d src w} (h0 : s.Sound) : (finishWork s t p n d src w).Sound := by
  unfold finishWork
  with_reducible repeat' first
    | assumption | intro _ | apply countOp_sound | apply add64_sound | apply sendAll_sound | apply logOnce_sound
    | apply faultSlot_sound | dsimp only | split | simp only [sound_mk_iff]

theorem deferRecord_sound {s : State} {home e} (h0 : s.Sound) : (deferRecord s home e).Sound := by
  unfold deferRecord
  with_reducible repeat' first
    | assumption | intro _ | apply sound_ite | apply dsWrite_sound | apply onMesh_sound | split
    | simp only [sound_mk_iff]

theorem expandList_sound {s : State} {t p d j cut} (h0 : s.Sound) : (expandList s t p d j cut).Sound := by
  unfold expandList
  with_reducible repeat' first
    | assumption | intro _ | apply sound_foldl | apply sound_ite | apply sound_getD | apply sound_foldl_fst
    | apply faultSlot_sound | apply finishWork_sound | apply deferRecord_sound | dsimp only | split
    | simp only [sound_mk_iff]

theorem expandBlock_sound {s : State} {t p d j cut} (h0 : s.Sound) : (expandBlock s t p d j cut).Sound := by
  unfold expandBlock
  with_reducible repeat' first
    | assumption | intro _ | apply sound_foldl | apply sound_ite | apply sound_foldl_fst | apply finishWork_sound
    | dsimp only | split | simp only [sound_mk_iff]

theorem runPart_sound {s : State} {t p d j cut} (h0 : s.Sound) : (runPart s t p d j cut).Sound := by
  unfold runPart
  with_reducible repeat' first
    | assumption | intro _ | apply sound_ite | apply finishWork_sound | dsimp only | split | simp only [sound_mk_iff]

theorem stageFree_sound {s : State} {d} (h0 : s.Sound) : (stageFree s d).Sound := by
  unfold stageFree
  with_reducible repeat' first | assumption | intro _ | apply wrBytes_sound

theorem releaseHalf_sound {s : State} {p n h3} (h0 : s.Sound) : (releaseHalf s p n h3).Sound := by
  unfold releaseHalf
  with_reducible repeat' first
    | assumption | intro _ | apply sound_ite | apply onDelivery_sound | apply stageFree_sound | apply wr8_sound
    | dsimp only | split | simp only [sound_mk_iff]

theorem settle_sound {s : State} {p n} (h0 : s.Sound) : (settle s p n).Sound := by
  unfold settle
  with_reducible repeat' first | assumption | intro _ | apply releaseHalf_sound | apply sweepsSettle_sound

theorem runJob_sound {s : State} {t j cut} (h0 : s.Sound) : (runJob s t j cut).Sound := by
  unfold runJob
  with_reducible repeat' first
    | assumption | intro _ | apply sound_ite | apply countDrop_sound | apply runPart_sound | apply expandBlock_sound
    | apply expandList_sound | apply count_sound | apply settle_sound | dsimp only

theorem engineTake_sound {s : State} {t ecc} (h0 : s.Sound) : (engineTake s t ecc).Sound := by
  unfold engineTake
  with_reducible repeat' first
    | assumption | intro _ | apply sound_ite | apply takeJob_sound | apply count_sound | apply runJob_sound
    | apply podHit_sound | apply useFree_sound | dsimp only | split | simp only [sound_mk_iff]

theorem sweepBegin_sound {s : State} {p n d} (h0 : s.Sound) : (sweepBegin s p n d).Sound := by
  unfold sweepBegin
  with_reducible repeat' first
    | assumption | intro _ | apply onDelivery_sound | apply put_sound | dsimp only | simp only [sound_mk_iff]

theorem sweepSlot_sound {s : State} {p n d t} (h0 : s.Sound) : (sweepSlot s p n d t).Sound := by
  unfold sweepSlot
  with_reducible repeat' first
    | assumption | intro _ | apply sound_ite | apply onDelivery_sound | apply put_sound | apply sweepBegin_sound
    | apply settle_sound | apply pushParts_sound | dsimp only | split | simp only [sound_mk_iff]

theorem sweepGenerate_sound {s : State} {t} (h0 : s.Sound) : (sweepGenerate s t).Sound := by
  unfold sweepGenerate
  with_reducible repeat' first
    | assumption | intro _ | apply sound_foldl | apply sound_foldl_fst | apply sound_foldl_snd | apply sound_ite_snd
    | apply sweepSlot_sound

theorem preCount_sound {s : State} {p n d axon t} (h0 : s.Sound) : (preCount s p n d axon t).Sound := by
  unfold preCount
  with_reducible repeat' first | assumption | intro _ | apply sound_ite | apply wrLe_sound | dsimp only

theorem winStore_sound {s : State} {tile step record} (h0 : s.Sound) : (winStore s tile step record).Sound := by
  unfold winStore
  with_reducible repeat' first
    | assumption | intro _ | apply sound_ite | apply put_sound | apply wrLe_sound | apply raise_sound
    | apply countDrop_sound | apply log_sound | apply onDelivery_sound | dsimp only | simp only [sound_mk_iff]

theorem matchApply_sound {s : State} {tile p x3 g record} (h0 : s.Sound) : (matchApply s tile p x3 g record).Sound := by
  unfold matchApply
  with_reducible repeat' first
    | assumption | intro _ | apply sound_ite | apply sound_getD | apply preCount_sound | apply countDrop_sound
    | apply faultHomeless_sound | apply pushStep_sound | apply count_sound | apply onDelivery_sound
    | apply areaWrite_sound | dsimp only | split | simp only [sound_mk_iff]

theorem matchHit_sound {s : State} {tile axon h3 n} (h0 : s.Sound) : (matchHit s tile axon h3 n).Sound := by
  unfold matchHit
  with_reducible repeat' first
    | assumption | intro _ | apply sound_ite | apply podHit_sound | apply faultSlot_sound | apply useFree_sound
    | dsimp only

theorem matchRecord_sound {s : State} {tile ecc} (h0 : s.Sound) : (matchRecord s tile ecc).Sound := by
  unfold matchRecord
  with_reducible repeat' first
    | assumption | intro _ | apply sound_foldl | apply sound_ite | apply sound_foldl_fst | apply sound_foldl_snd
    | apply sound_ite_snd | apply matchHit_sound | apply count_sound | apply onMesh_sound | apply matchApply_sound
    | apply winStore_sound | dsimp only | split | simp only [sound_mk_iff]

theorem accumulate_sound {s : State} {t c} (h0 : s.Sound) : (accumulate s t c).Sound := by
  unfold accumulate
  with_reducible repeat' first
    | assumption | intro _ | apply sound_ite | apply countDrop_sound | apply wrLe_sound | dsimp only

theorem accumulateNext_sound {s : State} {t ecc} (h0 : s.Sound) : (accumulateNext s t ecc).Sound := by
  unfold accumulateNext
  with_reducible repeat' first
    | assumption | intro _ | apply sound_ite | apply onDelivery_sound | apply accumulate_sound | apply tileHit_sound
    | dsimp only | split | simp only [sound_mk_iff]

theorem winMatch_sound {s : State} {tile p m x4 record} (h0 : s.Sound) : (winMatch s tile p m x4 record).Sound := by
  unfold winMatch
  with_reducible repeat' first
    | assumption | intro _ | apply sound_ite | apply sound_getD | apply countDrop_sound | apply faultHomeless_sound
    | apply areaWrite_sound | apply count_sound | apply pushWin_sound | dsimp only | split | simp only [sound_mk_iff]

theorem winSweep_sound {s : State} {p m x3} (h0 : s.Sound) : (winSweep s p m x3).Sound := by
  unfold winSweep
  with_reducible repeat' first
    | assumption | intro _ | apply sound_ite | apply sweepBegin_sound | apply pushWin_sound | dsimp only | split
    | simp only [sound_mk_iff]

theorem winBegin_sound {s : State} {p m} (h0 : s.Sound) : (winBegin s p m).Sound := by
  unfold winBegin
  with_reducible repeat' first
    | assumption | intro _ | apply sound_foldl | apply sound_ite | apply sound_foldl_fst | apply sound_foldl_snd
    | apply sound_ite_snd | apply onDelivery_sound | apply winMatch_sound | apply winSweep_sound | dsimp only
    | simp only [sound_mk_iff]

theorem chunkTake_sound {s : State} {p n h3} (h0 : s.Sound) : (chunkTake s p n h3).Sound := by
  unfold chunkTake
  with_reducible repeat' first
    | assumption | intro _ | apply sound_ite | apply sound_getD | apply onDelivery_sound | apply pushWin_sound
    | apply releaseHalf_sound | dsimp only | split | simp only [sound_mk_iff]

theorem winClear_sound {s : State} {t m} (h0 : s.Sound) : (winClear s t m).Sound := by
  unfold winClear
  with_reducible repeat' first
    | assumption | intro _ | apply sound_foldl | apply sound_ite | apply sound_foldl_fst | apply sound_foldl_snd
    | apply sound_ite_snd | apply areaClear_sound | apply onDelivery_sound | apply put_sound | dsimp only
    | simp only [sound_mk_iff]

theorem winDone_sound {s : State} {t} (h0 : s.Sound) : (winDone s t).Sound := by
  unfold winDone
  with_reducible repeat' first
    | assumption | intro _ | apply sound_ite | apply winClear_sound | split | simp only [sound_mk_iff]

theorem winCut_sound {s : State} {t} (h0 : s.Sound) : (winCut s t).Sound := by
  unfold winCut
  with_reducible repeat' first
    | assumption | intro _ | apply onDelivery_sound | apply countDrop_sound | apply dqLevel_sound | apply winClear_sound
    | dsimp only | split | simp only [sound_mk_iff]

theorem windowCut_sound {s : State} (h0 : s.Sound) : (windowCut s).Sound := by
  unfold windowCut
  with_reducible repeat' first
    | assumption | intro _ | apply sound_foldl | apply sound_ite | apply sound_foldl_fst | apply sound_foldl_snd
    | apply sound_ite_snd | apply log_sound | apply winCut_sound | dsimp only | split

theorem releaseBad_sound {s : State} {r} (h0 : s.Sound) : (releaseBad s r).Sound := by
  unfold releaseBad
  with_reducible repeat' first
    | assumption | intro _ | apply logOnce_sound | apply raise_sound | apply put_sound | apply countDrop_sound

theorem releaseEntry_sound {s : State} {r e} (h0 : s.Sound) : (releaseEntry s r e).Sound := by
  unfold releaseEntry
  with_reducible repeat' first
    | assumption | intro _ | apply sound_ite | apply logOnce_sound | apply countDrop_sound | apply onMesh_sound
    | apply pushStep_sound | apply releaseBad_sound | dsimp only | split | simp only [sound_mk_iff]

theorem spillStep_sound {s : State} {r} (h0 : s.Sound) : (spillStep s r).Sound := by
  unfold spillStep
  with_reducible repeat' first
    | assumption | intro _ | apply sound_ite | apply put_sound | apply onMesh_sound | dsimp only
    | simp only [sound_mk_iff]

theorem releaseNext_sound {s : State} {r poisoned} (h0 : s.Sound) : (releaseNext s r poisoned).Sound := by
  unfold releaseNext
  with_reducible repeat' first
    | assumption | intro _ | apply sound_ite | apply releaseEntry_sound | apply dsLevel_sound | apply onMesh_sound
    | apply releaseBad_sound | apply spillStep_sound | dsimp only | split | simp only [sound_mk_iff]

theorem cutTile_sound {s : State} {t} (h0 : s.Sound) : (cutTile s t).Sound := by
  unfold cutTile
  with_reducible repeat' first
    | assumption | intro _ | apply sound_foldl | apply sound_ite | apply sound_foldl_fst | apply onDelivery_sound
    | apply onMesh_sound | apply put_sound | apply dropLate_sound | apply dqLevel_sound | apply dsLevel_sound
    | apply raise_sound | dsimp only | simp only [sound_mk_iff]

theorem projCtrlWrite_sound {s : State} {p n v} (h0 : s.Sound) : (projCtrlWrite s p n v).Sound := by
  unfold projCtrlWrite
  with_reducible repeat' first
    | assumption | intro _ | apply sound_ite | apply writeOnly_sound | apply log_sound | apply put_sound | dsimp only

theorem execMatchRecord_sound {tile ecc} {s : State} (h2 : s.Sound) : ResultSound (execMatchRecord tile ecc s) := by
  unfold execMatchRecord
  with_reducible repeat' first | assumption | apply done_sound | intro _ | apply matchRecord_sound

theorem execEngineTakeJob_sound {tile ecc} {s : State} (h2 : s.Sound) : ResultSound (execEngineTakeJob tile ecc s) := by
  unfold execEngineTakeJob
  with_reducible repeat' first | assumption | apply done_sound | intro _ | apply engineTake_sound

theorem execAccumulateContribution_sound {tile ecc} {s : State} (h2 : s.Sound) :
    ResultSound (execAccumulateContribution tile ecc s) := by
  unfold execAccumulateContribution
  with_reducible repeat' first | assumption | apply done_sound | intro _ | apply accumulateNext_sound

theorem execAreaClearDone_sound {pod slot} {s : State} (h2 : s.Sound) : ResultSound (execAreaClearDone pod slot s) := by
  unfold execAreaClearDone
  with_reducible repeat' first
    | assumption | apply done_sound | apply sound_ite_result | intro _ | apply sound_ite | apply onDelivery_sound
    | apply areaClear_sound | dsimp only | simp only [sound_mk_iff]

theorem execWindowApplicationDone_sound {tile} {s : State} (h1 : s.Sound) :
    ResultSound (execWindowApplicationDone tile s) := by
  unfold execWindowApplicationDone
  with_reducible repeat' first | assumption | apply done_sound | intro _ | apply winDone_sound

theorem execProjCtrlWrite_sound {pod slot value} {s : State} (h3 : s.Sound) :
    ResultSound (execProjCtrlWrite pod slot value s) := by
  unfold execProjCtrlWrite
  with_reducible repeat' first | assumption | apply done_sound | intro _ | apply projCtrlWrite_sound

theorem execDelayStoreRelease_sound {router poisoned} {s : State} (h2 : s.Sound) :
    ResultSound (execDelayStoreRelease router poisoned s) := by
  unfold execDelayStoreRelease
  with_reducible repeat' first | assumption | apply done_sound | intro _ | apply releaseNext_sound

end Sys2Proof.Machine.State
end

