-- ==== Sys2Proof/Laws/Sound/Scheduled.lean ====
section
/-! SUPPORT. Each operation of `Sys2Proof/Machine/Scheduled.lean` gives a sound state on a sound state. -/

namespace Sys2Proof.Machine.State

set_option linter.unusedTactic false
set_option linter.unreachableTactic false

theorem onStreams_sound {s : State} {f} (h0 : s.Sound) : (onStreams s f).Sound := by
  unfold onStreams
  with_reducible repeat' first | assumption | intro _ | simp only [sound_mk_iff]

theorem onMemories_sound {s : State} {f} (h0 : s.Sound) : (onMemories s f).Sound := by
  unfold onMemories
  with_reducible repeat' first | assumption | intro _ | simp only [sound_mk_iff]

theorem checkStart_sound {s : State} (h0 : s.Sound) : (checkStart s).Sound := by
  unfold checkStart
  with_reducible repeat' first | assumption | intro _ | apply sound_ite | apply put_sound

theorem checkEnd_sound {s : State} (h0 : s.Sound) : (checkEnd s).Sound := by
  unfold checkEnd
  with_reducible repeat' first
    | assumption | intro _ | apply sound_ite | apply put_sound | apply log_sound | dsimp only | split
    | simp only [sound_mk_iff]

theorem standbyWritten_sound {s : State} (h0 : s.Sound) : (standbyWritten s).Sound := by
  unfold standbyWritten
  with_reducible repeat' first | assumption | intro _ | apply put_sound

theorem bankSwap_sound {s : State} (h0 : s.Sound) : (bankSwap s).Sound := by
  unfold bankSwap
  with_reducible repeat' first
    | assumption | intro _ | apply sound_foldl | apply sound_ite | apply sound_foldl_fst | apply sound_foldl_snd
    | apply sound_ite_snd | apply put_sound | apply onStreams_sound | dsimp only | simp only [sound_mk_iff]

theorem swapRequest_sound {s : State} (h0 : s.Sound) : (swapRequest s).Sound := by
  unfold swapRequest
  with_reducible repeat' first | assumption | intro _ | apply sound_ite | apply put_sound | apply bankSwap_sound

theorem copyPut_sound {s : State} {c} (h0 : s.Sound) : (copyPut s c).Sound := by
  unfold copyPut
  with_reducible repeat' first
    | assumption | intro _ | apply sound_ite | apply onStreams_sound | simp only [sound_mk_iff]

theorem strLevel_sound {s : State} {q} (h0 : s.Sound) : (strLevel s q).Sound := by
  unfold strLevel
  with_reducible repeat' first
    | assumption | intro _ | apply sound_foldl | apply sound_foldl_fst | apply put_sound | dsimp only

theorem copyEnd_sound {s : State} {q d} (h0 : s.Sound) : (copyEnd s q d).Sound := by
  unfold copyEnd
  with_reducible repeat' first
    | assumption | intro _ | apply strLevel_sound | apply onStreams_sound | simp only [sound_mk_iff]

theorem stageAbandon_sound {s : State} {p ch} (h0 : s.Sound) : (stageAbandon s p ch).Sound := by
  unfold stageAbandon
  with_reducible repeat' first
    | assumption | intro _ | apply sound_ite | apply sound_getD | apply wr8_sound | apply onDelivery_sound
    | apply onStreams_sound | dsimp only | simp only [sound_mk_iff]

theorem copyOutcome_sound {s : State} {q d} (h0 : s.Sound) : (copyOutcome s q d).Sound := by
  unfold copyOutcome
  with_reducible repeat' first
    | assumption | intro _ | apply sound_ite | apply log_sound | apply stageAbandon_sound | dsimp only | split
    | simp only [sound_mk_iff]

theorem copyStreak_sound {s : State} {q} (h0 : s.Sound) : (copyStreak s q).Sound := by
  unfold copyStreak
  with_reducible repeat' first
    | assumption | intro _ | apply sound_ite | apply fileReport_sound | dsimp only | simp only [sound_mk_iff]

theorem copyFail_sound {s : State} {q d} (h0 : s.Sound) : (copyFail s q d).Sound := by
  unfold copyFail
  with_reducible repeat' first
    | assumption | intro _ | apply sound_ite | apply raise_sound | apply put_sound | apply count_sound
    | apply onStreams_sound | apply copyStreak_sound | apply copyEnd_sound | apply copyOutcome_sound | dsimp only
    | split | simp only [sound_mk_iff]

theorem channelFail_sound {s : State} {p ch cause} (h0 : s.Sound) : (channelFail s p ch cause).Sound := by
  unfold channelFail
  with_reducible repeat' first
    | assumption | intro _ | apply sound_ite | apply put_sound | apply copyFail_sound | apply stageAbandon_sound
    | apply log_sound | dsimp only | split | simp only [sound_mk_iff]

theorem copyStart_sound {s : State} {q d t} (h0 : s.Sound) : (copyStart s q d t).Sound := by
  unfold copyStart
  with_reducible repeat' first
    | assumption | intro _ | apply sound_ite | apply count_sound | apply raise_sound | apply wr8_sound
    | apply strLevel_sound | apply onStreams_sound | apply copyFail_sound | apply channelFail_sound | dsimp only
    | simp only [sound_mk_iff]

theorem channelStart_sound {s : State} {p ch t ev} (h0 : s.Sound) : (channelStart s p ch t ev).Sound := by
  unfold channelStart
  with_reducible repeat' first
    | assumption | intro _ | apply sound_ite | apply onStreams_sound | apply put_sound | simp only [sound_mk_iff]

theorem startCopies_sound {s : State} {t ev} (h0 : s.Sound) : (startCopies s t ev).Sound := by
  unfold startCopies
  with_reducible repeat' first
    | assumption | intro _ | apply sound_foldl | apply sound_ite | apply sound_foldl_fst | apply copyStart_sound
    | apply channelStart_sound | dsimp only | split

theorem request_sound {s : State} {p ch data} (h0 : s.Sound) : (request s p ch data).Sound := by
  unfold request
  with_reducible repeat' first | assumption | intro _ | apply onStreams_sound | simp only [sound_mk_iff]

theorem requestEnd_sound {s : State} {p ch mLo} (h0 : s.Sound) : (requestEnd s p ch mLo).Sound := by
  unfold requestEnd
  with_reducible repeat' first | assumption | intro _ | apply request_sound

theorem stageBegin_sound {s : State} {p ch m} (h0 : s.Sound) : (stageBegin s p ch m).Sound := by
  unfold stageBegin
  with_reducible repeat' first
    | assumption | intro _ | apply sound_ite | apply stageFree_sound | apply wr8_sound | apply request_sound
    | apply requestEnd_sound | dsimp only | split | simp only [sound_mk_iff]

theorem stageLaunch_sound {s : State} {t} (h0 : s.Sound) : (stageLaunch s t).Sound := by
  unfold stageLaunch
  with_reducible repeat' first
    | assumption | intro _ | apply sound_foldl | apply sound_ite | apply sound_foldl_fst | apply stageBegin_sound
    | dsimp only

theorem unionBuild_sound {s : State} {p m} (h0 : s.Sound) : (unionBuild s p m).Sound := by
  unfold unionBuild
  with_reducible repeat' first
    | assumption | intro _ | apply sound_foldl | apply sound_ite | apply sound_foldl_fst | apply sound_foldl_snd
    | apply sound_ite_snd | apply wr8_sound | apply put_sound | dsimp only | split

theorem requestRuns_sound {s : State} {p ch mLo a a5} (h0 : s.Sound) : (requestRuns s p ch mLo a a5).Sound := by
  fun_induction requestRuns s p ch mLo a a5 <;> with_reducible repeat' first
    | assumption | apply_assumption | intro _ | apply sound_foldl | apply sound_foldl_fst | apply sound_foldl_snd
    | apply sound_ite_snd | apply request_sound | dsimp only

theorem unionReady_sound {s : State} {p} (h0 : s.Sound) : (unionReady s p).Sound := by
  unfold unionReady
  with_reducible repeat' first
    | assumption | intro _ | apply sound_foldl | apply sound_ite | apply sound_foldl_fst | apply sound_foldl_snd
    | apply sound_ite_snd | apply wrBytes_sound | apply requestEnd_sound | apply requestRuns_sound | apply put_sound
    | dsimp only | split

theorem stageRequest_sound {s : State} {q d b} (h0 : s.Sound) : (stageRequest s q d b).Sound := by
  unfold stageRequest
  with_reducible repeat' first
    | assumption | intro _ | apply sound_ite | apply onStreams_sound | dsimp only | split | simp only [sound_mk_iff]

theorem fetchDone_sound {s : State} {q d burst poisoned} (h0 : s.Sound) : (fetchDone s q d burst poisoned).Sound := by
  unfold fetchDone
  with_reducible repeat' first
    | assumption | intro _ | apply sound_ite | apply add64_sound | apply strLevel_sound | apply onStreams_sound
    | apply copyPut_sound | dsimp only | split | simp only [sound_mk_iff]

theorem engineBeat_sound {s : State} {q n} (h0 : s.Sound) : (engineBeat s q n).1.Sound := by
  unfold engineBeat
  with_reducible repeat' first
    | assumption | intro _ | apply sound_ite | apply sound_ite_fst | apply count_sound | apply strLevel_sound
    | apply onStreams_sound | apply copyPut_sound | apply copyEnd_sound | dsimp only | split | simp only [sound_mk_iff]

theorem readAhead_sound {s : State} {p ch} (h0 : s.Sound) : (readAhead s p ch).Sound := by
  unfold readAhead
  with_reducible repeat' first
    | assumption | intro _ | apply sound_ite | apply onStreams_sound | apply useFree_sound | dsimp only
    | simp only [sound_mk_iff]

theorem podBeat_sound {s : State} {p ch} (h0 : s.Sound) : (podBeat s p ch).1.Sound := by
  unfold podBeat
  with_reducible repeat' first
    | assumption | intro _ | apply sound_ite | apply sound_ite_fst | apply count_sound | apply readAhead_sound
    | apply put_sound | apply onStreams_sound | apply onDelivery_sound | dsimp only | split | simp only [sound_mk_iff]

theorem engineTakes_sound {s : State} {q n b} (h0 : s.Sound) : (engineTakes s q n b).Sound := by
  unfold engineTakes
  with_reducible repeat' first
    | assumption | intro _ | apply sound_ite | apply copyFail_sound | apply stageRequest_sound | apply log_sound
    | apply raise_sound | apply count_sound | apply strLevel_sound | apply onStreams_sound | apply copyPut_sound | split
    | simp only [sound_mk_iff]

theorem stageBeat_sound {s : State} {p ch b} (h0 : s.Sound) : (stageBeat s p ch b).Sound := by
  unfold stageBeat
  with_reducible repeat' first
    | assumption | intro _ | apply sound_ite | apply wr8_sound | apply put_sound | apply wrBytes_sound
    | apply chunkTake_sound | apply channelFail_sound | dsimp only

theorem podTakes_sound {s : State} {p ch b} (h0 : s.Sound) : (podTakes s p ch b).Sound := by
  unfold podTakes
  with_reducible repeat' first
    | assumption | intro _ | apply sound_ite | apply channelFail_sound | apply stageBeat_sound | apply put_sound
    | apply wrBytes_sound | dsimp only | split

theorem drainDone_sound {s : State} {q} (h0 : s.Sound) : (drainDone s q).Sound := by
  unfold drainDone
  with_reducible repeat' first
    | assumption | intro _ | apply sound_ite | apply onStreams_sound | apply strLevel_sound | apply add64_sound
    | apply wrBytes_sound | apply onMemories_sound | apply copyPut_sound | apply put_sound | apply wrLe_sound
    | apply copyEnd_sound | dsimp only | split | simp only [sound_mk_iff]

theorem beatSuspect_sound {s : State} {r p d} (h0 : s.Sound) : (beatSuspect s r p d).Sound := by
  unfold beatSuspect
  with_reducible repeat' first | assumption | intro _ | apply sound_ite | apply detect_sound

theorem beatEcc_sound {s : State} {r p b a} (h0 : s.Sound) : (beatEcc s r p b a).1.Sound := by
  unfold beatEcc
  with_reducible repeat' first
    | assumption | intro _ | apply sound_ite_fst | apply logOnce_sound | apply raise_sound | apply put_sound
    | apply count_sound | apply beatSuspect_sound | apply log_sound | dsimp only | split | simp only [sound_mk_iff]

theorem unrouted_sound {s : State} {r} (h0 : s.Sound) : (unrouted s r).Sound := by
  unfold unrouted
  with_reducible repeat' first
    | assumption | intro _ | apply logOnce_sound | apply raise_sound | apply put_sound | apply count_sound

theorem routeBeat_sound {s : State} {r c e input b} (h0 : s.Sound) : (routeBeat s r c e input b).Sound := by
  unfold routeBeat
  with_reducible repeat' first
    | assumption | intro _ | apply sound_ite | apply count_sound | apply unrouted_sound | apply add64_sound
    | apply podTakes_sound | apply beatEcc_sound | apply injected_sound | apply onStreams_sound
    | apply engineTakes_sound | dsimp only | split | refine sound_fst ?_ (by assumption) | simp only [sound_mk_iff]

theorem beatCycle_sound {s : State} {r ecc} (h0 : s.Sound) : (beatCycle s r ecc).Sound := by
  unfold beatCycle
  with_reducible repeat' first
    | assumption | intro _ | apply sound_foldl | apply sound_ite | apply sound_getD | apply sound_foldl_fst
    | apply sound_foldl_snd | apply sound_ite_snd | apply beatEcc_sound | apply routeBeat_sound | apply onStreams_sound
    | apply engineBeat_sound | apply podBeat_sound | apply put_sound | dsimp only | split
    | refine sound_fst ?_ (by assumption) | simp only [sound_mk_iff]

theorem streamsLaunch_sound {s : State} (h0 : s.Sound) : (streamsLaunch s).Sound := by
  unfold streamsLaunch
  with_reducible repeat' first
    | assumption | intro _ | apply sound_foldl | apply sound_ite | apply sound_foldl_fst | apply put_sound
    | apply onStreams_sound | apply bankSwap_sound | dsimp only | simp only [sound_mk_iff]

theorem scmDown_sound {s : State} {r port} (h0 : s.Sound) : (scmDown s r port).Sound := by
  unfold scmDown
  with_reducible repeat' first
    | assumption | intro _ | apply sound_foldl | apply sound_ite | apply sound_foldl_fst | apply sound_foldl_snd
    | apply sound_ite_snd | apply put_sound | apply onStreams_sound | apply log_sound | apply copyFail_sound
    | apply channelFail_sound | dsimp only | split | simp only [sound_mk_iff]

theorem scmLinkFail_sound {s : State} {r port} (h0 : s.Sound) : (scmLinkFail s r port).Sound := by
  unfold scmLinkFail
  with_reducible repeat' first
    | assumption | intro _ | apply scmDown_sound | dsimp only | split | simp only [sound_mk_iff]

theorem copiesCut_sound {s : State} {t} (h0 : s.Sound) : (copiesCut s t).Sound := by
  unfold copiesCut
  with_reducible repeat' first | assumption | intro _ | apply sound_foldl | apply sound_foldl_fst | apply copyFail_sound

theorem obsAbandon_sound {s : State} {t} (h0 : s.Sound) : (obsAbandon s t).Sound := by
  unfold obsAbandon
  with_reducible repeat' first
    | assumption | intro _ | apply sound_foldl | apply sound_foldl_fst | apply copyEnd_sound | apply log_sound
    | apply count_sound

theorem execScmBeatRoute_sound {router ecc} {s : State} (h2 : s.Sound) :
    ResultSound (execScmBeatRoute router ecc s) := by
  unfold execScmBeatRoute
  with_reducible repeat' first | assumption | apply done_sound | intro _ | apply beatCycle_sound

theorem execScmCheck_sound {s : State} (h0 : s.Sound) : ResultSound (execScmCheck s) := by
  unfold execScmCheck
  with_reducible repeat' first | assumption | apply done_sound | intro _ | apply checkStart_sound

theorem execScmCheckDone_sound {s : State} (h0 : s.Sound) : ResultSound (execScmCheckDone s) := by
  unfold execScmCheckDone
  with_reducible repeat' first | assumption | apply done_sound | intro _ | apply checkEnd_sound

theorem execScmSwap_sound {s : State} (h0 : s.Sound) : ResultSound (execScmSwap s) := by
  unfold execScmSwap
  with_reducible repeat' first | assumption | apply done_sound | intro _ | apply swapRequest_sound

theorem execScmLinkFail_sound {router port} {s : State} (h2 : s.Sound) :
    ResultSound (execScmLinkFail router port s) := by
  unfold execScmLinkFail
  with_reducible repeat' first | assumption | apply done_sound | intro _ | apply scmLinkFail_sound

theorem execWriteDrainComplete_sound {engine} {s : State} (h1 : s.Sound) :
    ResultSound (execWriteDrainComplete engine s) := by
  unfold execWriteDrainComplete
  with_reducible repeat' first | assumption | apply done_sound | intro _ | apply drainDone_sound

theorem execUnionRunsReady_sound {pod} {s : State} (h1 : s.Sound) : ResultSound (execUnionRunsReady pod s) := by
  unfold execUnionRunsReady
  with_reducible repeat' first | assumption | apply done_sound | intro _ | apply unionReady_sound

end Sys2Proof.Machine.State
end

