-- ==== Sys2Proof/Laws/Sound/Memory.lean ====
section
/-! SUPPORT. Each operation of `Sys2Proof/Machine/Memory.lean` gives a sound state on a sound state. -/

namespace Sys2Proof.Machine.State

set_option linter.unusedTactic false
set_option linter.unreachableTactic false

theorem scrubFound_sound {s : State} {site bank row fatal} (h0 : s.Sound) :
    (scrubFound s site bank row fatal).Sound := by
  unfold scrubFound
  with_reducible repeat' first
    | assumption | intro _ | apply tileError_sound | apply podError_sound | apply managerError_sound | split
    | simp only [sound_mk_iff]

theorem scrubRow_sound {s : State} {site bank ecc} (h0 : s.Sound) : (scrubRow s site bank ecc).Sound := by
  unfold scrubRow
  with_reducible repeat' first
    | assumption | intro _ | apply sound_ite | apply scrubFound_sound | apply onMemories_sound | apply count_sound
    | dsimp only | split | simp only [sound_mk_iff]

theorem subRetire_sound {s : State} {q} (h0 : s.Sound) : (subRetire s q).Sound := by
  unfold subRetire
  with_reducible repeat' first
    | assumption | intro _ | apply sound_foldl | apply sound_ite | apply sound_foldl_fst | apply put_sound
    | apply copyFail_sound | apply log_sound | dsimp only

theorem subReport_sound {s : State} {q} (h0 : s.Sound) : (subReport s q).Sound := by
  unfold subReport
  with_reducible repeat' first | assumption | intro _ | apply fileReport_sound

theorem pageRetire_sound {s : State} {q page} (h0 : s.Sound) : (pageRetire s q page).Sound := by
  unfold pageRetire
  with_reducible repeat' first
    | assumption | intro _ | apply sound_ite | apply put_sound | apply onMemories_sound | apply subRetire_sound
    | apply subReport_sound | apply log_sound | dsimp only | simp only [sound_mk_iff]

theorem dramLast_sound {s : State} {q off} (h0 : s.Sound) : (dramLast s q off).Sound := by
  unfold dramLast
  with_reducible repeat' first | assumption | intro _ | apply put64_sound

theorem burstFixed_sound {s : State} {q off dev} (h0 : s.Sound) : (burstFixed s q off dev).Sound := by
  unfold burstFixed
  with_reducible repeat' first
    | assumption | intro _ | apply logOnceBy_sound | apply dramLast_sound | apply count_sound | apply put_sound
    | dsimp only | split | simp only [sound_mk_iff]

theorem burstRetry_sound {s : State} {q off again} (h0 : s.Sound) : (burstRetry s q off again).1.Sound := by
  unfold burstRetry
  with_reducible repeat' first
    | assumption | intro _ | apply sound_ite_fst | apply dramLast_sound | apply log_sound | apply count_sound
    | apply pageRetire_sound | apply subReport_sound | dsimp only | split | simp only [sound_mk_iff]

theorem burstRead_sound {s : State} {a first again} (h0 : s.Sound) : (burstRead s a first again).1.Sound := by
  unfold burstRead
  with_reducible repeat' first
    | assumption | intro _ | apply sound_ite | apply sound_ite_fst | apply burstRetry_sound | apply burstFixed_sound
    | split | refine sound_fst ?_ (by assumption) | simp only [sound_mk_iff]

theorem pageCopied_sound {s : State} {q bad} (h0 : s.Sound) : (pageCopied s q bad).Sound := by
  unfold pageCopied
  with_reducible repeat' first
    | assumption | intro _ | apply log_sound | apply onMemories_sound | dsimp only | split | simp only [sound_mk_iff]

theorem mapReform_sound {s : State} (h : s.Sound) : (mapReform s).Sound := by
  unfold mapReform
  split
  · exact put_sound h
  · refine log_sound ?_
    split
    · exact put_sound (put_sound h)
    · exact (sound_mem_filter (put_sound (put_sound h))).congr rfl rfl rfl rfl rfl rfl rfl

theorem patrolRead_sound {s : State} {q first again} (h0 : s.Sound) : (patrolRead s q first again).Sound := by
  unfold patrolRead
  with_reducible repeat' first
    | assumption | intro _ | apply sound_ite | apply burstRead_sound | apply onMemories_sound | apply count_sound
    | dsimp only | split | refine sound_fst ?_ (by assumption) | simp only [sound_mk_iff]

theorem fullStart_sound {s : State} {quad} (h0 : s.Sound) : (fullStart s quad).Sound := by
  unfold fullStart
  with_reducible repeat' first
    | assumption | intro _ | apply sound_ite | apply refusal_sound | apply onMemories_sound | apply progStart_sound
    | dsimp only | split | simp only [sound_mk_iff]

theorem fullRead_sound {s : State} {q first again} (h0 : s.Sound) : (fullRead s q first again).Sound := by
  unfold fullRead
  with_reducible repeat' first
    | assumption | intro _ | apply sound_ite | apply burstRead_sound | apply progAdd_sound | apply onMemories_sound
    | apply progEnd_sound | dsimp only | refine sound_fst ?_ (by assumption) | simp only [sound_mk_iff]

theorem fillGranule_sound {s : State} (h0 : s.Sound) : (fillGranule s).Sound := by
  unfold fillGranule
  with_reducible repeat' first
    | assumption | intro _ | apply sound_foldl | apply sound_ite | apply sound_foldl_fst | apply onMemories_sound
    | apply log_sound | apply put_sound | dsimp only | simp only [sound_mk_iff]

theorem execScrubRow_sound {site bank ecc} {s : State} (h3 : s.Sound) : ResultSound (execScrubRow site bank ecc s) := by
  unfold execScrubRow
  with_reducible repeat' first | assumption | apply done_sound | intro _ | apply scrubRow_sound

theorem execDramReadRetry_sound {burst again} {s : State} (h2 : s.Sound) :
    ResultSound (execDramReadRetry burst again s) := by
  unfold execDramReadRetry
  with_reducible repeat' first
    | assumption | apply done_sound | intro _ | apply burstRead_sound | refine sound_fst ?_ (by assumption)

theorem execDramFetchComplete_sound {engine desc burst first again} {s : State} (h5 : s.Sound) :
    ResultSound (execDramFetchComplete engine desc burst first again s) := by
  unfold execDramFetchComplete
  with_reducible repeat' first
    | assumption | apply done_sound | intro _ | apply burstRead_sound | apply fetchDone_sound | dsimp only
    | refine sound_fst ?_ (by assumption)

theorem execPageCopyDone_sound {sub bad} {s : State} (h2 : s.Sound) : ResultSound (execPageCopyDone sub bad s) := by
  unfold execPageCopyDone
  with_reducible repeat' first | assumption | apply done_sound | intro _ | apply pageCopied_sound

theorem execSubchannelRetire_sound {sub} {s : State} (h1 : s.Sound) : ResultSound (execSubchannelRetire sub s) := by
  unfold execSubchannelRetire
  with_reducible repeat' first | assumption | apply done_sound | intro _ | apply subRetire_sound

theorem execMapReform_sound {s : State} (h0 : s.Sound) : ResultSound (execMapReform s) := by
  unfold execMapReform
  with_reducible repeat' first | assumption | apply done_sound | intro _ | apply mapReform_sound

theorem execPatrolRead_sound {sub first again} {s : State} (h3 : s.Sound) :
    ResultSound (execPatrolRead sub first again s) := by
  unfold execPatrolRead
  with_reducible repeat' first | assumption | apply done_sound | intro _ | apply patrolRead_sound

theorem execFullScrubStart_sound {quad} {s : State} (h1 : s.Sound) : ResultSound (execFullScrubStart quad s) := by
  unfold execFullScrubStart
  with_reducible repeat' first | assumption | apply done_sound | intro _ | apply fullStart_sound

theorem execFullScrubAbort_sound {s : State} (h0 : s.Sound) : ResultSound (execFullScrubAbort s) := by
  unfold execFullScrubAbort
  with_reducible repeat' first | assumption | apply done_sound | intro _ | apply sound_ite | apply progEnd_sound

theorem execFullScrubRead_sound {sub first again} {s : State} (h3 : s.Sound) :
    ResultSound (execFullScrubRead sub first again s) := by
  unfold execFullScrubRead
  with_reducible repeat' first | assumption | apply done_sound | intro _ | apply fullRead_sound

theorem execFillGranule_sound {s : State} (h0 : s.Sound) : ResultSound (execFillGranule s) := by
  unfold execFillGranule
  with_reducible repeat' first | assumption | apply done_sound | intro _ | apply fillGranule_sound

end Sys2Proof.Machine.State
end

