-- ==== Sys2Proof/Laws/Sound/Sensor.lean ====
section
/-! SUPPORT. Each operation of `Sys2Proof/Machine/Sensor.lean` gives a sound state on a sound state. -/

namespace Sys2Proof.Machine.State

set_option linter.unusedTactic false
set_option linter.unreachableTactic false

theorem onHub_sound {s : State} {f} (h0 : s.Sound) : (onHub s f).Sound := by
  unfold onHub
  with_reducible repeat' first | assumption | intro _ | simp only [sound_mk_iff]

theorem hubRecord_sound {s : State} {n step a g} (h0 : s.Sound) : (hubRecord s n step a g).Sound := by
  unfold hubRecord
  with_reducible repeat' first
    | assumption | intro _ | apply sound_ite | apply logOnceBy_sound | apply count_sound | apply onHub_sound
    | apply wrLe_sound | dsimp only | simp only [sound_mk_iff]

theorem ringDiscard_sound {s : State} {n} (h0 : s.Sound) : (ringDiscard s n).Sound := by
  unfold ringDiscard
  with_reducible repeat' first | assumption | intro _ | apply onHub_sound | apply count_sound | simp only [sound_mk_iff]

theorem contrast_sound {s : State} {n step e v} (h0 : s.Sound) : (contrast s n step e v).Sound := by
  unfold contrast
  with_reducible repeat' first
    | assumption | intro _ | apply sound_ite | apply hubRecord_sound | apply wrLe_sound | dsimp only

theorem crossing_sound {s : State} {n step lane value} (h0 : s.Sound) : (crossing s n step lane value).Sound := by
  unfold crossing
  with_reducible repeat' first
    | assumption | intro _ | apply sound_ite | apply onHub_sound | apply wrLe_sound | apply hubRecord_sound | dsimp only
    | simp only [sound_mk_iff]

theorem latest_sound {s : State} {n c e v} (h0 : s.Sound) : (latest s n c e v).Sound := by
  unfold latest
  with_reducible repeat' first | assumption | intro _ | apply sound_ite | apply wrLe_sound

theorem encode_sound {s : State} {n step item} (h0 : s.Sound) : (encode s n step item).Sound := by
  unfold encode
  with_reducible repeat' first
    | assumption | intro _ | apply sound_foldl | apply sound_ite | apply sound_foldl_fst | apply hubRecord_sound
    | apply crossing_sound | apply latest_sound | apply onHub_sound | apply wrLe_sound | apply contrast_sound
    | dsimp only | split | simp only [sound_mk_iff]

theorem emitLatest_sound {s : State} {n step} (h0 : s.Sound) : (emitLatest s n step).Sound := by
  unfold emitLatest
  with_reducible repeat' first
    | assumption | intro _ | apply sound_foldl | apply sound_ite | apply sound_foldl_fst | apply hubRecord_sound
    | apply wrLe_sound | dsimp only

theorem placeItem_sound {s : State} {n tau item} (h0 : s.Sound) : (placeItem s n tau item).Sound := by
  unfold placeItem
  with_reducible repeat' first
    | assumption | intro _ | apply sound_ite | apply count_sound | apply onHub_sound | apply encode_sound | dsimp only
    | simp only [sound_mk_iff]

theorem takeItem_sound {s : State} {n tau item} (h0 : s.Sound) : (takeItem s n tau item).Sound := by
  unfold takeItem
  with_reducible repeat' first
    | assumption | intro _ | apply sound_ite | apply count_sound | apply placeItem_sound | split

theorem placeHeld_sound {s : State} (h0 : s.Sound) : (placeHeld s).Sound := by
  unfold placeHeld
  with_reducible repeat' first
    | assumption | intro _ | apply sound_foldl | apply sound_foldl_fst | apply sound_foldl_snd | apply sound_ite_snd
    | apply takeItem_sound | apply onHub_sound | simp only [sound_mk_iff]

theorem hubItem_sound {s : State} {code tau item} (h0 : s.Sound) : (hubItem s code tau item).Sound := by
  unfold hubItem
  with_reducible repeat' first
    | assumption | intro _ | apply sound_ite | apply count_sound | apply takeItem_sound | split
    | simp only [sound_mk_iff]

theorem hubWords_sound {s : State} {codeOf bad tau a} (h0 : s.Sound) (h2 : ∀ (a : State), a.Sound → (bad a).Sound) :
    (hubWords s codeOf bad tau a).1.Sound := by
  fun_induction hubWords s codeOf bad tau a <;> with_reducible repeat' first
    | assumption | apply_assumption | intro _ | apply sound_ite_fst | apply hubItem_sound | apply h2 | split
    | simp only [sound_mk_iff]

theorem ctxEnable_sound {s : State} {n v} (h0 : s.Sound) : (ctxEnable s n v).Sound := by
  unfold ctxEnable
  with_reducible repeat' first
    | assumption | intro _ | apply sound_ite | apply writeOnly_sound | apply onHub_sound | apply put_sound | dsimp only
    | split | simp only [sound_mk_iff]

theorem ctxDisable_sound {s : State} {n v} (h0 : s.Sound) : (ctxDisable s n v).Sound := by
  unfold ctxDisable
  with_reducible repeat' first | assumption | intro _ | apply ringDiscard_sound | apply writePlain_sound

theorem hubWrite_sound {s : State} {v} (h0 : s.Sound) : (hubWrite s v).Sound := by
  unfold hubWrite
  with_reducible repeat' first
    | assumption | intro _ | apply sound_foldl | apply sound_ite | apply sound_foldl_fst | apply writePlain_sound
    | apply ringDiscard_sound | dsimp only

theorem hubSend_sound {s : State} {n t records} (h0 : s.Sound) : (hubSend s n t records).Sound := by
  unfold hubSend
  with_reducible repeat' first
    | assumption | intro _ | apply onMesh_sound | apply count_sound | dsimp only | simp only [sound_mk_iff]

theorem capture_sound {s : State} {t n r} (h0 : s.Sound) : (capture s t n r).Sound := by
  unfold capture
  with_reducible repeat' first
    | assumption | intro _ | apply sound_ite | apply wrLe_sound | apply put_sound | apply log_sound | dsimp only | split

theorem hubContext_sound {s : State} {n t} (h0 : s.Sound) : (hubContext s n t).Sound := by
  unfold hubContext
  with_reducible repeat' first
    | assumption | intro _ | apply sound_foldl | apply sound_ite | apply sound_foldl_fst | apply emitLatest_sound
    | apply onHub_sound | apply logOnceBy_sound | apply count_sound | apply hubSend_sound | apply capture_sound
    | dsimp only | simp only [sound_mk_iff]

theorem replayTake_sound {s : State} {base t fuel k : Nat} (h : s.Sound) : (replayTake s base t fuel k).1.Sound := by
  induction fuel generalizing s k with
  | zero => exact h
  | succ n ih =>
    unfold replayTake
    dsimp only
    split
    · exact h
    · exact ih (sound_ite (hubSend_sound h) (count_sound h))

theorem replayLaunch_sound {s : State} {t} (h0 : s.Sound) : (replayLaunch s t).Sound := by
  unfold replayLaunch
  with_reducible repeat' first
    | assumption | intro _ | apply sound_ite | apply sound_getD | apply replayTake_sound | apply onHub_sound
    | dsimp only | split | refine sound_fst ?_ (by assumption) | simp only [sound_mk_iff]

theorem hubLaunch_sound {s : State} {t} (h0 : s.Sound) : (hubLaunch s t).Sound := by
  unfold hubLaunch
  with_reducible repeat' first
    | assumption | intro _ | apply sound_foldl | apply sound_ite | apply sound_foldl_fst | apply replayLaunch_sound
    | apply hubContext_sound

theorem hubClose_sound {s : State} (h0 : s.Sound) : (hubClose s).Sound := by
  unfold hubClose
  with_reducible repeat' first
    | assumption | intro _ | apply sound_foldl | apply sound_foldl_fst | apply setObj_sound | apply onHub_sound
    | dsimp only | split | simp only [sound_mk_iff]

theorem csiDeliver_sound {s : State} {r vc f} (h0 : s.Sound) : (csiDeliver s r vc f).Sound := by
  unfold csiDeliver
  with_reducible repeat' first
    | assumption | intro _ | apply sound_ite | apply onHub_sound | apply count_sound | apply hubItem_sound | dsimp only
    | simp only [sound_mk_iff]

theorem lineDrop_sound {s : State} {r} (h0 : s.Sound) : (lineDrop s r).Sound := by
  unfold lineDrop
  with_reducible repeat' first | assumption | intro _ | apply logOnceBy_sound | apply count_sound

theorem csiHeader_sound {s : State} {r a} (h0 : s.Sound) : ∀ t, csiHeader s r a = some t → t.Sound := by
  unfold csiHeader
  with_reducible repeat' first
    | assumption | exact sound_none | refine sound_some ?_ | intro (_ : State) (_ : State.Sound _) _ | apply count_sound
    | split | intro (_ : State) (_ : State.Sound _)

theorem csiStart_sound {s : State} {r vc ecc} (h0 : s.Sound) : (csiStart s r vc ecc).Sound := by
  unfold csiStart
  with_reducible repeat' first
    | assumption | intro _ | apply sound_ite | apply lineDrop_sound | apply csiDeliver_sound | apply put_sound
    | apply onHub_sound | dsimp only | split | refine csiHeader_sound ?_ _ (by assumption) | simp only [sound_mk_iff]

theorem csiLine_sound {s : State} {r vc dt ecc crcOk payload} (h0 : s.Sound) :
    (csiLine s r vc dt ecc crcOk payload).Sound := by
  unfold csiLine
  with_reducible repeat' first
    | assumption | intro _ | apply sound_ite | apply lineDrop_sound | apply count_sound | apply onHub_sound
    | apply hubWords_sound | dsimp only | apply sound_id | split | refine csiHeader_sound ?_ _ (by assumption)
    | refine sound_fst ?_ (by assumption) | simp only [sound_mk_iff]

theorem csiEnd_sound {s : State} {r vc ecc} (h0 : s.Sound) : (csiEnd s r vc ecc).Sound := by
  unfold csiEnd
  with_reducible repeat' first
    | assumption | intro _ | apply sound_ite | apply lineDrop_sound | apply csiDeliver_sound | split
    | refine csiHeader_sound ?_ _ (by assumption) | simp only [sound_mk_iff]

theorem stampView_sound {s : State} {p tx} (h0 : s.Sound) : (stampView s p tx).Sound := by
  unfold stampView
  with_reducible repeat' first
    | assumption | intro _ | apply sound_ite | apply put_sound | apply setReg_sound | apply put64_sound | dsimp only
    | split | simp only [sound_mk_iff]

theorem stampPush_sound {s : State} {p tx x3} (h0 : s.Sound) : (stampPush s p tx x3).Sound := by
  unfold stampPush
  with_reducible repeat' first
    | assumption | intro _ | apply sound_ite | apply log_sound | apply count_sound | apply stampView_sound
    | apply onHub_sound | dsimp only | simp only [sound_mk_iff]

theorem ethDrop_sound {s : State} {p} (h0 : s.Sound) : (ethDrop s p).Sound := by
  unfold ethDrop
  with_reducible repeat' first | assumption | intro _ | apply logOnceBy_sound | apply count_sound

theorem flowData_sound {s : State} {p f d} (h0 : s.Sound) : (flowData s p f d).Sound := by
  unfold flowData
  with_reducible repeat' first
    | assumption | intro _ | apply sound_ite | apply ethDrop_sound | apply count_sound | apply onHub_sound
    | apply hubWords_sound | dsimp only | apply sound_id | split | refine sound_fst ?_ (by assumption)
    | simp only [sound_mk_iff]

theorem toFirmware_sound {s : State} {p frame} (h0 : s.Sound) : (toFirmware s p frame).Sound := by
  unfold toFirmware
  with_reducible repeat' first
    | assumption | intro _ | apply sound_ite | apply ethDrop_sound | apply put_sound | apply wrBytes_sound
    | apply wrLe_sound | dsimp only

theorem ethReceive_sound {s : State} {p frame fcsOk} (h0 : s.Sound) : (ethReceive s p frame fcsOk).Sound := by
  unfold ethReceive
  with_reducible repeat' first
    | assumption | intro _ | apply sound_ite | apply count_sound | apply ethDrop_sound | apply stampPush_sound
    | apply flowData_sound | apply toFirmware_sound | dsimp only | split | simp only [sound_mk_iff]

theorem ethTransmit_sound {s : State} {p tsReq} (h0 : s.Sound) : (ethTransmit s p tsReq).Sound := by
  unfold ethTransmit
  with_reducible repeat' first
    | assumption | intro _ | apply sound_ite | apply sound_getD | apply put_sound | apply emitOut_sound
    | apply stampPush_sound | dsimp only | split | simp only [sound_mk_iff]

theorem ethLink_sound {s : State} {p up} (h0 : s.Sound) : (ethLink s p up).Sound := by
  unfold ethLink
  with_reducible repeat' first
    | assumption | intro _ | apply sound_ite | apply put_sound | apply count_sound | dsimp only

theorem ptpRead_sound {s : State} {p tx} (h0 : s.Sound) : (ptpRead s p tx).Sound := by
  unfold ptpRead
  with_reducible repeat' first
    | assumption | intro _ | apply sound_ite | apply stampView_sound | apply onHub_sound | dsimp only
    | simp only [sound_mk_iff]

theorem setSel_sound {s : State} {k x2} (h0 : s.Sound) : (setSel s k x2).Sound := by
  unfold setSel
  with_reducible repeat' first | assumption | intro _ | apply onHub_sound | simp only [sound_mk_iff]

theorem selSend_sound {s : State} {x1} (h0 : s.Sound) : (selSend s x1).Sound := by
  unfold selSend
  with_reducible repeat' first | assumption | intro _ | apply emitOut_sound

theorem selFrames_sound {s : State} {k l} (h0 : s.Sound) : (selFrames s k l).Sound := by
  unfold selFrames
  with_reducible repeat' first | assumption | intro _ | apply sound_foldl | apply sound_foldl_fst | apply selSend_sound

theorem selAlign_sound {s : State} {k} (h0 : s.Sound) : (selAlign s k).Sound := by
  unfold selAlign
  with_reducible repeat' first | assumption | intro _ | apply setSel_sound | apply put_sound | simp only [sound_mk_iff]

theorem selRetrain_sound {s : State} {k} (h0 : s.Sound) : (selRetrain s k).Sound := by
  unfold selRetrain
  with_reducible repeat' first | assumption | intro _ | apply selAlign_sound | apply log_sound | apply count_sound

theorem selFail_sound {s : State} {k} (h0 : s.Sound) : (selFail s k).Sound := by
  unfold selFail
  with_reducible repeat' first
    | assumption | intro _ | apply sound_ite | apply selAlign_sound | apply setSel_sound | apply put_sound
    | apply fileReport_sound | apply log_sound | dsimp only | simp only [sound_mk_iff]

theorem selNakOut_sound {s : State} {k reason} (h0 : s.Sound) : (selNakOut s k reason).Sound := by
  unfold selNakOut
  with_reducible repeat' first | assumption | intro _ | apply selSend_sound | apply count_sound

theorem selAccept_sound {s : State} {k type subch sat fage words} (h0 : s.Sound) :
    (selAccept s k type subch sat fage words).Sound := by
  unfold selAccept
  with_reducible repeat' first
    | assumption | intro _ | apply sound_foldl | apply sound_ite | apply sound_foldl_fst | apply sound_foldl_snd
    | apply sound_ite_snd | apply hubWords_sound | apply count_sound | apply setReg_sound | apply put_sound | dsimp only
    | split | refine sound_fst ?_ (by assumption) | simp only [sound_mk_iff]

theorem selReceive_sound {s : State} {k ok type subch seq sat fage words room} (h0 : s.Sound) :
    (selReceive s k ok type subch seq sat fage words room).Sound := by
  unfold selReceive
  with_reducible repeat' first
    | assumption | intro _ | apply sound_ite | apply selNakOut_sound | apply count_sound | apply selSend_sound
    | apply put_sound | apply selAccept_sound | dsimp only

theorem selAcked_sound {s : State} {k seq inv} (h0 : s.Sound) : (selAcked s k seq inv).Sound := by
  unfold selAcked
  with_reducible repeat' first
    | assumption | intro _ | apply sound_ite | apply selFrames_sound | apply setSel_sound | apply put_sound | dsimp only
    | split | simp only [sound_mk_iff]

theorem selAgain_sound {s : State} {k seq counted} (h0 : s.Sound) : (selAgain s k seq counted).Sound := by
  unfold selAgain
  with_reducible repeat' first
    | assumption | intro _ | apply sound_ite | apply selRetrain_sound | apply setSel_sound | apply selFrames_sound
    | apply count_sound | dsimp only | simp only [sound_mk_iff]

theorem selNaked_sound {s : State} {k seq inv reason} (h0 : s.Sound) : (selNaked s k seq inv reason).Sound := by
  unfold selNaked
  with_reducible repeat' first
    | assumption | intro _ | apply sound_ite | apply setSel_sound | apply selAgain_sound | simp only [sound_mk_iff]

theorem selPost_sound {s : State} {k type words} (h0 : s.Sound) : (selPost s k type words).Sound := by
  unfold selPost
  with_reducible repeat' first
    | assumption | intro _ | apply sound_ite | apply setSel_sound | apply selFrames_sound | dsimp only
    | simp only [sound_mk_iff]

theorem selIdle_sound {s : State} {k valid} (h0 : s.Sound) : (selIdle s k valid).Sound := by
  unfold selIdle
  with_reducible repeat' first
    | assumption | intro _ | apply sound_ite | apply setSel_sound | apply put_sound | dsimp only
    | simp only [sound_mk_iff]

theorem selActive_sound {s : State} {k peer} (h0 : s.Sound) : (selActive s k peer).Sound := by
  unfold selActive
  with_reducible repeat' first
    | assumption | intro _ | apply sound_ite | apply setSel_sound | apply put_sound | apply selFrames_sound | dsimp only
    | simp only [sound_mk_iff]

theorem selTs_sound {s : State} {k d sent} (h0 : s.Sound) : (selTs s k d sent).Sound := by
  unfold selTs
  with_reducible repeat' first
    | assumption | intro _ | apply sound_ite | apply sound_getD | apply selActive_sound | apply setSel_sound
    | dsimp only | simp only [sound_mk_iff]

theorem selEnable_sound {s : State} {k} (h0 : s.Sound) : (selEnable s k).Sound := by
  unfold selEnable
  with_reducible repeat' first | assumption | intro _ | apply selAlign_sound | apply put_sound

theorem selCommand_sound {s : State} {k len} (h0 : s.Sound) : (selCommand s k len).Sound := by
  unfold selCommand
  with_reducible repeat' first | assumption | intro _ | apply put_sound | apply selPost_sound | dsimp only

theorem wakeSeen_sound {s : State} {src detail} (h0 : s.Sound) : (wakeSeen s src detail).Sound := by
  unfold wakeSeen
  with_reducible repeat' first | assumption | intro _ | simp only [sound_mk_iff]

theorem selWake_sound {s : State} {k} (h0 : s.Sound) : (selWake s k).Sound := by
  unfold selWake
  with_reducible repeat' first
    | assumption | intro _ | apply sound_ite | apply wakeSeen_sound | apply selAlign_sound | dsimp only

theorem ethIn_sound {s : State} {port frame ok} (h0 : s.Sound) : (ethIn s port frame ok).Sound := by
  unfold ethIn
  with_reducible repeat' first
    | assumption | intro _ | apply sound_ite | apply injected_sound | apply ethReceive_sound | apply onHub_sound
    | dsimp only | split | simp only [sound_mk_iff]

theorem selTake_sound {s : State} {port ok f words} (h0 : s.Sound) : (selTake s port ok f words).Sound := by
  unfold selTake
  with_reducible repeat' first | assumption | intro _ | apply sound_getD | apply selReceive_sound

theorem selIn_sound {s : State} {port ok f words} (h0 : s.Sound) : (selIn s port ok f words).Sound := by
  unfold selIn
  with_reducible repeat' first
    | assumption | intro _ | apply sound_ite | apply injected_sound | apply selTake_sound | apply onHub_sound
    | dsimp only | split | simp only [sound_mk_iff]

theorem execStreamContextEnable_sound {ctx value} {s : State} (h2 : s.Sound) :
    ResultSound (execStreamContextEnable ctx value s) := by
  unfold execStreamContextEnable
  with_reducible repeat' first | assumption | apply done_sound | intro _ | apply ctxEnable_sound

theorem execStreamContextDisable_sound {ctx value} {s : State} (h2 : s.Sound) :
    ResultSound (execStreamContextDisable ctx value s) := by
  unfold execStreamContextDisable
  with_reducible repeat' first | assumption | apply done_sound | intro _ | apply ctxDisable_sound

theorem execHubEnableWrite_sound {value} {s : State} (h1 : s.Sound) : ResultSound (execHubEnableWrite value s) := by
  unfold execHubEnableWrite
  with_reducible repeat' first | assumption | apply done_sound | intro _ | apply hubWrite_sound

theorem execCsiFrameStart_sound {receiver channel ecc} {s : State} (h3 : s.Sound) :
    ResultSound (execCsiFrameStart receiver channel ecc s) := by
  unfold execCsiFrameStart
  with_reducible repeat' first | assumption | apply done_sound | intro _ | apply csiStart_sound

theorem execCsiLongPacket_sound {receiver channel type ecc crcOk payload} {s : State} (h6 : s.Sound) :
    ResultSound (execCsiLongPacket receiver channel type ecc crcOk payload s) := by
  unfold execCsiLongPacket
  with_reducible repeat' first | assumption | apply done_sound | intro _ | apply csiLine_sound

theorem execCsiFrameEnd_sound {receiver channel ecc} {s : State} (h3 : s.Sound) :
    ResultSound (execCsiFrameEnd receiver channel ecc s) := by
  unfold execCsiFrameEnd
  with_reducible repeat' first | assumption | apply done_sound | intro _ | apply csiEnd_sound

theorem execEthFrameReceive_sound {port frame fcsOk} {s : State} (h3 : s.Sound) :
    ResultSound (execEthFrameReceive port frame fcsOk s) := by
  unfold execEthFrameReceive
  with_reducible repeat' first | assumption | apply done_sound | intro _ | apply ethIn_sound

theorem execEthFwTransmit_sound {port tsReq} {s : State} (h2 : s.Sound) :
    ResultSound (execEthFwTransmit port tsReq s) := by
  unfold execEthFwTransmit
  with_reducible repeat' first | assumption | apply done_sound | intro _ | apply ethTransmit_sound

theorem execEthLinkChange_sound {port up} {s : State} (h2 : s.Sound) : ResultSound (execEthLinkChange port up s) := by
  unfold execEthLinkChange
  with_reducible repeat' first | assumption | apply done_sound | intro _ | apply ethLink_sound

theorem execPtpInfoRead_sound {port tx} {s : State} (h2 : s.Sound) : ResultSound (execPtpInfoRead port tx s) := by
  unfold execPtpInfoRead
  with_reducible repeat' first | assumption | apply done_sound | intro _ | apply ptpRead_sound

theorem execSelFrameReceive_sound {port ok type subch seq sat fage words room} {s : State} (h9 : s.Sound) :
    ResultSound (execSelFrameReceive port ok type subch seq sat fage words room s) := by
  unfold execSelFrameReceive
  with_reducible repeat' first
    | assumption | apply done_sound | apply sound_ite_result | intro _ | apply sound_ite | apply selIn_sound

theorem execSelAckReceive_sound {port seq inverse} {s : State} (h3 : s.Sound) :
    ResultSound (execSelAckReceive port seq inverse s) := by
  unfold execSelAckReceive
  with_reducible repeat' first | assumption | apply done_sound | intro _ | apply selAcked_sound

theorem execSelNakReceive_sound {port seq inverse reason} {s : State} (h4 : s.Sound) :
    ResultSound (execSelNakReceive port seq inverse reason s) := by
  unfold execSelNakReceive
  with_reducible repeat' first | assumption | apply done_sound | intro _ | apply selNaked_sound

theorem execSelBusyWaitExpire_sound {port} {s : State} (h1 : s.Sound) : ResultSound (execSelBusyWaitExpire port s) := by
  unfold execSelBusyWaitExpire
  with_reducible repeat' first
    | assumption | apply done_sound | intro _ | apply selAgain_sound | split | simp only [sound_mk_iff]

theorem execSelAckTimeout_sound {port} {s : State} (h1 : s.Sound) : ResultSound (execSelAckTimeout port s) := by
  unfold execSelAckTimeout
  with_reducible repeat' first
    | assumption | apply done_sound | intro _ | apply sound_ite | apply selAgain_sound | split
    | simp only [sound_mk_iff]

theorem execSelIdleSetReceive_sound {port valid} {s : State} (h2 : s.Sound) :
    ResultSound (execSelIdleSetReceive port valid s) := by
  unfold execSelIdleSetReceive
  with_reducible repeat' first | assumption | apply done_sound | intro _ | apply selIdle_sound

theorem execSelTsReceive_sound {port data sent} {s : State} (h3 : s.Sound) :
    ResultSound (execSelTsReceive port data sent s) := by
  unfold execSelTsReceive
  with_reducible repeat' first | assumption | apply done_sound | intro _ | apply selTs_sound

theorem execSelAlignTimeout_sound {port} {s : State} (h1 : s.Sound) : ResultSound (execSelAlignTimeout port s) := by
  unfold execSelAlignTimeout
  with_reducible repeat' first | assumption | apply done_sound | intro _ | apply sound_ite | apply selFail_sound

theorem execSelTrainTimeout_sound {port} {s : State} (h1 : s.Sound) : ResultSound (execSelTrainTimeout port s) := by
  unfold execSelTrainTimeout
  with_reducible repeat' first | assumption | apply done_sound | intro _ | apply sound_ite | apply selFail_sound

theorem execSelCommaLoss_sound {port} {s : State} (h1 : s.Sound) : ResultSound (execSelCommaLoss port s) := by
  unfold execSelCommaLoss
  with_reducible repeat' first | assumption | apply done_sound | intro _ | apply sound_ite | apply selRetrain_sound

theorem execCodeGroupErrors_sound {port} {s : State} (h1 : s.Sound) : ResultSound (execCodeGroupErrors port s) := by
  unfold execCodeGroupErrors
  with_reducible repeat' first | assumption | apply done_sound | intro _ | apply sound_ite | apply selRetrain_sound

theorem execSelRetrain_sound {port} {s : State} (h1 : s.Sound) : ResultSound (execSelRetrain port s) := by
  unfold execSelRetrain
  with_reducible repeat' first
    | assumption | apply done_sound | apply sound_ite_result | intro _ | apply sound_ite | apply selAlign_sound
    | apply selRetrain_sound

theorem execSelEnable_sound {port} {s : State} (h1 : s.Sound) : ResultSound (execSelEnable port s) := by
  unfold execSelEnable
  with_reducible repeat' first | assumption | apply done_sound | intro _ | apply selEnable_sound

theorem execSelSleepReq_sound {port} {s : State} (h1 : s.Sound) : ResultSound (execSelSleepReq port s) := by
  unfold execSelSleepReq
  with_reducible repeat' first | assumption | apply done_sound | intro _ | apply selPost_sound

theorem execSelWakeDetect_sound {port} {s : State} (h1 : s.Sound) : ResultSound (execSelWakeDetect port s) := by
  unfold execSelWakeDetect
  with_reducible repeat' first | assumption | apply done_sound | intro _ | apply selWake_sound

theorem execSelCmdSend_sound {port len} {s : State} (h2 : s.Sound) : ResultSound (execSelCmdSend port len s) := by
  unfold execSelCmdSend
  with_reducible repeat' first | assumption | apply done_sound | intro _ | apply selCommand_sound

end Sys2Proof.Machine.State
end

