-- ==== Sys2Proof/Laws/Sound/Can.lean ====
section
/-! SUPPORT. Each operation of `Sys2Proof/Machine/Can.lean` gives a sound state on a sound state. -/

namespace Sys2Proof.Machine.State

set_option linter.unusedTactic false
set_option linter.unreachableTactic false

theorem setCan_sound {s : State} {c x2} (h0 : s.Sound) : (setCan s c x2).Sound := by
  unfold setCan
  with_reducible repeat' first | assumption | intro _ | simp only [sound_mk_iff]

theorem putByte_sound {s : State} {a b} (h0 : s.Sound) : (putByte s a b).Sound := by
  unfold putByte
  with_reducible repeat' first | assumption | intro _ | apply put_sound

theorem canRefill_sound {s : State} {c} (h0 : s.Sound) : (canRefill s c).Sound := by
  unfold canRefill
  with_reducible repeat' first
    | assumption | intro _ | apply sound_ite | apply put_sound | apply setCan_sound | dsimp only
    | simp only [sound_mk_iff]

theorem canPump_sound {s : State} {c} (h0 : s.Sound) : (canPump s c).Sound := by
  unfold canPump
  with_reducible repeat' first
    | assumption | intro _ | apply sound_ite | apply put_sound | apply canRefill_sound | apply raise_sound
    | apply log_sound | apply setCan_sound | dsimp only | split | simp only [sound_mk_iff]

theorem canResult_sound {s : State} {c t} (h0 : s.Sound) : (canResult s c t).Sound := by
  unfold canResult
  with_reducible repeat' first | assumption | intro _ | apply put_sound

theorem canQueue_sound {s : State} {c cls f} (h0 : s.Sound) : (canQueue s c cls f).Sound := by
  unfold canQueue
  with_reducible repeat' first
    | assumption | intro _ | apply sound_ite | apply canResult_sound | apply canPump_sound | apply setCan_sound
    | apply put_sound | dsimp only | apply sound_id | simp only [sound_mk_iff]

theorem canSend_sound {s : State} {cls f} (h0 : s.Sound) : (canSend s cls f).Sound := by
  unfold canSend
  with_reducible repeat' first | assumption | intro _ | apply sound_foldl | apply sound_foldl_fst | apply canQueue_sound

theorem canRaw_sound {s : State} {c cls} (h0 : s.Sound) : (canRaw s c cls).Sound := by
  unfold canRaw
  with_reducible repeat' first
    | assumption | intro _ | apply sound_ite | apply canResult_sound | apply canQueue_sound | apply canSend_sound
    | dsimp only | apply sound_id | split

theorem tpdoTrigger_sound {s : State} {c n} (h0 : s.Sound) : (tpdoTrigger s c n).Sound := by
  unfold tpdoTrigger
  with_reducible repeat' first
    | assumption | intro _ | apply sound_ite | apply count_sound | apply canPump_sound | apply setCan_sound | dsimp only
    | split | simp only [sound_mk_iff]

theorem tpdoFire_sound {s : State} {c n} (h0 : s.Sound) : (tpdoFire s c n).Sound := by
  unfold tpdoFire
  with_reducible repeat' first
    | assumption | intro _ | apply sound_foldl | apply sound_ite | apply sound_foldl_fst | apply tpdoTrigger_sound

theorem canDone_sound {s : State} {c} (h0 : s.Sound) : (canDone s c).Sound := by
  unfold canDone
  with_reducible repeat' first
    | assumption | intro _ | apply sound_ite | apply emitOut_sound | apply setCan_sound | apply canPump_sound
    | apply raise_sound | apply count_sound | apply canResult_sound | dsimp only | split | simp only [sound_mk_iff]

theorem canToken_sound {s : State} {c} (h0 : s.Sound) : (canToken s c).Sound := by
  unfold canToken
  with_reducible repeat' first
    | assumption | intro _ | apply sound_ite | apply reach_sound | apply canPump_sound | apply canRefill_sound
    | dsimp only

theorem canState_sound {s : State} {c st} (h0 : s.Sound) : (canState s c st).Sound := by
  unfold canState
  with_reducible repeat' first
    | assumption | intro _ | apply sound_ite | apply setCan_sound | apply put_sound | simp only [sound_mk_iff]

theorem canError_sound {s : State} {c tec rec} (h0 : s.Sound) : (canError s c tec rec).Sound := by
  unfold canError
  with_reducible repeat' first
    | assumption | intro _ | apply sound_ite | apply put_sound | apply raise_sound | apply log_sound | apply count_sound
    | apply canState_sound | dsimp only

theorem canRecover_sound {s : State} {c} (h0 : s.Sound) : (canRecover s c).Sound := by
  unfold canRecover
  with_reducible repeat' first
    | assumption | intro _ | apply sound_ite | apply canPump_sound | apply put_sound | apply canState_sound

theorem canMove_sound {s : State} {a b} (h0 : s.Sound) : (canMove s a b).Sound := by
  unfold canMove
  with_reducible repeat' first
    | assumption | intro _ | apply setCan_sound | apply canPump_sound | dsimp only | simp only [sound_mk_iff]

theorem canFailover_sound {s : State} (h0 : s.Sound) : (canFailover s).Sound := by
  unfold canFailover
  with_reducible repeat' first
    | assumption | intro _ | apply sound_ite | apply canMove_sound | apply reach_sound | simp only [sound_mk_iff]

theorem canReturn_sound {s : State} (h0 : s.Sound) : (canReturn s).Sound := by
  unfold canReturn
  with_reducible repeat' first
    | assumption | intro _ | apply sound_ite | apply canMove_sound | apply reach_sound | simp only [sound_mk_iff]

theorem rxView_sound {s : State} {c} (h0 : s.Sound) : (rxView s c).Sound := by
  unfold rxView
  with_reducible repeat' first
    | assumption | intro _ | apply sound_foldl | apply sound_ite | apply sound_foldl_fst | apply put_sound
    | apply setReg_sound | apply put64_sound | dsimp only | apply sound_id | split | simp only [sound_mk_iff]

theorem rxStore_sound {s : State} {c f} (h0 : s.Sound) : (rxStore s c f).Sound := by
  unfold rxStore
  with_reducible repeat' first
    | assumption | intro _ | apply sound_ite | apply count_sound | apply raise_sound | apply rxView_sound
    | apply setCan_sound | dsimp only | simp only [sound_mk_iff]

theorem canTake_sound {s : State} {c f remote} (h0 : s.Sound) : (canTake s c f remote).1.Sound := by
  unfold canTake
  with_reducible repeat' first
    | assumption | intro _ | apply sound_ite | apply sound_ite_fst | apply count_sound | apply setCan_sound | dsimp only
    | split | simp only [sound_mk_iff]

theorem canPop_sound {s : State} {c} (h0 : s.Sound) : (canPop s c).Sound := by
  unfold canPop
  with_reducible repeat' first
    | assumption | intro _ | apply rxView_sound | apply setCan_sound | dsimp only | simp only [sound_mk_iff]

theorem execCanRawTransmit_sound {bus cls} {s : State} (h2 : s.Sound) : ResultSound (execCanRawTransmit bus cls s) := by
  unfold execCanRawTransmit
  with_reducible repeat' first | assumption | apply done_sound | intro _ | apply canRaw_sound

theorem execCanTokenAvailable_sound {bus} {s : State} (h1 : s.Sound) : ResultSound (execCanTokenAvailable bus s) := by
  unfold execCanTokenAvailable
  with_reducible repeat' first | assumption | apply done_sound | intro _ | apply canToken_sound

theorem execCanFrameTransmitted_sound {bus} {s : State} (h1 : s.Sound) :
    ResultSound (execCanFrameTransmitted bus s) := by
  unfold execCanFrameTransmitted
  with_reducible repeat' first | assumption | apply done_sound | intro _ | apply canDone_sound

theorem execCanBusError_sound {bus tec rec} {s : State} (h3 : s.Sound) :
    ResultSound (execCanBusError bus tec rec s) := by
  unfold execCanBusError
  with_reducible repeat' first | assumption | apply done_sound | intro _ | apply canError_sound

theorem execCanBusoffRecovery_sound {bus} {s : State} (h1 : s.Sound) : ResultSound (execCanBusoffRecovery bus s) := by
  unfold execCanBusoffRecovery
  with_reducible repeat' first | assumption | apply done_sound | intro _ | apply canRecover_sound

theorem execCanStandbyFailover_sound {s : State} (h0 : s.Sound) : ResultSound (execCanStandbyFailover s) := by
  unfold execCanStandbyFailover
  with_reducible repeat' first | assumption | apply done_sound | intro _ | apply canFailover_sound

theorem execCanStandbyReturn_sound {s : State} (h0 : s.Sound) : ResultSound (execCanStandbyReturn s) := by
  unfold execCanStandbyReturn
  with_reducible repeat' first | assumption | apply done_sound | intro _ | apply canReturn_sound

theorem execCanRxPop_sound {bus} {s : State} (h1 : s.Sound) : ResultSound (execCanRxPop bus s) := by
  unfold execCanRxPop
  with_reducible repeat' first | assumption | apply done_sound | intro _ | apply canPop_sound

end Sys2Proof.Machine.State
end

