-- ==== Sys2Proof/Laws/Sound/Guard.lean ====
section
/-! SUPPORT. Each operation of `Sys2Proof/Machine/Guard.lean` gives a sound state on a sound state. -/

namespace Sys2Proof.Machine.State

set_option linter.unusedTactic false
set_option linter.unreachableTactic false

theorem onGuard_sound {s : State} {f} (h0 : s.Sound) : (onGuard s f).Sound := by
  unfold onGuard
  with_reducible repeat' first | assumption | intro _ | simp only [sound_mk_iff]

theorem pinDrive_sound {s : State} {i} (h0 : s.Sound) : (pinDrive s i).Sound := by
  unfold pinDrive
  with_reducible repeat' first
    | assumption | intro _ | apply sound_ite | apply put_sound | dsimp only | split | simp only [sound_mk_iff]

theorem canWrite_sound {s : State} {n v} (h0 : s.Sound) : (canWrite s n v).Sound := by
  unfold canWrite
  with_reducible repeat' first
    | assumption | intro _ | apply sound_foldl | apply sound_ite | apply sound_foldl_fst | apply putByte_sound
    | dsimp only | split

theorem ethWrite_sound {s : State} {n v} (h0 : s.Sound) : (ethWrite s n v).Sound := by
  unfold ethWrite
  with_reducible repeat' first
    | assumption | intro _ | apply sound_ite | apply emitOut_sound | apply onGuard_sound | dsimp only
    | simp only [sound_mk_iff]

theorem hostWrite_sound {s : State} {n v} (h0 : s.Sound) : (hostWrite s n v).Sound := by
  unfold hostWrite
  with_reducible repeat' first
    | assumption | intro _ | apply sound_ite | apply count_sound | apply put_sound | apply wrBytes_sound
    | apply msix_sound | dsimp only

theorem sink_sound {s : State} {n v} (h0 : s.Sound) : (sink s n v).Sound := by
  unfold sink
  with_reducible repeat' first
    | assumption | intro _ | apply sound_ite | apply setReg_sound | apply canWrite_sound | apply tpdoFire_sound
    | apply ethWrite_sound | apply pinDrive_sound | apply hostWrite_sound | dsimp only | split
    | simp only [sound_mk_iff]

theorem guardChannel_sound {s : State} {n} (h0 : s.Sound) : (guardChannel s n).Sound := by
  unfold guardChannel
  with_reducible repeat' first
    | assumption | intro _ | apply sound_ite | apply put_sound | apply onGuard_sound | apply sink_sound
    | apply msix_sound | apply log_sound | dsimp only | simp only [sound_mk_iff]

theorem guardScan_sound {s : State} (h0 : s.Sound) : (guardScan s).Sound := by
  unfold guardScan
  with_reducible repeat' first
    | assumption | intro _ | apply sound_foldl | apply sound_foldl_fst | apply guardChannel_sound | apply put_sound

theorem guardEmit_sound {s : State} {n x2} (h0 : s.Sound) : (guardEmit s n x2).Sound := by
  unfold guardEmit
  with_reducible repeat' first
    | assumption | intro _ | apply onGuard_sound | apply count_sound | apply sink_sound | simp only [sound_mk_iff]

theorem guardValue_sound {s : State} {n x2} (h0 : s.Sound) : (guardValue s n x2).Sound := by
  unfold guardValue
  with_reducible repeat' first
    | assumption | intro _ | apply sound_ite | apply onGuard_sound | apply guardChannel_sound | apply logOnceBy_sound
    | apply count_sound | apply put_sound | apply log_sound | apply guardEmit_sound | dsimp only
    | simp only [sound_mk_iff]

theorem tapMessage_sound {s : State} {n body} (h0 : s.Sound) : (tapMessage s n body).Sound := by
  unfold tapMessage
  with_reducible repeat' first
    | assumption | intro _ | apply sound_foldl | apply sound_ite | apply sound_getD | apply sound_foldl_fst
    | apply sound_foldl_snd | apply sound_ite_snd | apply count_sound | apply onGuard_sound | dsimp only
    | simp only [sound_mk_iff]

theorem guardPop_sound {s : State} {n} (h0 : s.Sound) : (guardPop s n).Sound := by
  unfold guardPop
  with_reducible repeat' first
    | assumption | intro _ | apply sound_ite | apply queueTake_sound | apply guardValue_sound | apply tapMessage_sound
    | dsimp only | split | simp only [sound_mk_iff]

theorem guardClose_sound {s : State} {t} (h0 : s.Sound) : (guardClose s t).Sound := by
  unfold guardClose
  with_reducible repeat' first
    | assumption | intro _ | apply sound_foldl | apply sound_ite | apply sound_getD | apply sound_foldl_fst
    | apply sound_foldl_snd | apply sound_ite_snd | apply onGuard_sound | apply guardValue_sound | dsimp only | split
    | simp only [sound_mk_iff]

theorem gapExpire_sound {s : State} {n} (h0 : s.Sound) : (gapExpire s n).Sound := by
  unfold gapExpire
  with_reducible repeat' first
    | assumption | intro _ | apply sound_ite | apply reach_sound | apply guardChannel_sound | apply guardEmit_sound
    | dsimp only | split | simp only [sound_mk_iff]

theorem silenceExpire_sound {s : State} {n} (h0 : s.Sound) : (silenceExpire s n).Sound := by
  unfold silenceExpire
  with_reducible repeat' first
    | assumption | intro _ | apply sound_ite | apply reach_sound | apply guardChannel_sound | apply onGuard_sound
    | dsimp only | simp only [sound_mk_iff]

theorem forceSafe_sound {s : State} {ch on} (h0 : s.Sound) : (forceSafe s ch on).Sound := by
  unfold forceSafe
  with_reducible repeat' first
    | assumption | intro _ | apply sound_ite | apply guardChannel_sound | apply put_sound | apply guardScan_sound
    | dsimp only | split | simp only [sound_mk_iff]

theorem gpiGate_sound {s : State} {i} (h0 : s.Sound) : (gpiGate s i).Sound := by
  unfold gpiGate
  with_reducible repeat' first | assumption | intro _ | apply sound_ite | apply put_sound | dsimp only | split

theorem gpiGuard_sound {s : State} {i} (h0 : s.Sound) : (gpiGuard s i).Sound := by
  unfold gpiGuard
  with_reducible repeat' first
    | assumption | intro _ | apply sound_foldl | apply sound_foldl_fst | apply guardChannel_sound

theorem gpioChange_sound {s : State} {i high samples} (h0 : s.Sound) : (gpioChange s i high samples).Sound := by
  unfold gpioChange
  with_reducible repeat' first
    | assumption | intro _ | apply sound_ite | apply put_sound | apply onHub_sound | apply log_sound
    | apply gpiGuard_sound | apply gpiGate_sound | dsimp only | simp only [sound_mk_iff]

theorem gpioStuck_sound {s : State} {i} (h0 : s.Sound) : (gpioStuck s i).Sound := by
  unfold gpioStuck
  with_reducible repeat' first
    | assumption | intro _ | apply sound_ite | apply onHub_sound | apply put_sound | apply reach_sound
    | apply gpiGuard_sound | apply gpiGate_sound | apply log_sound | dsimp only | split | simp only [sound_mk_iff]

theorem execGpioInputChange_sound {pin high samples} {s : State} (h3 : s.Sound) :
    ResultSound (execGpioInputChange pin high samples s) := by
  unfold execGpioInputChange
  with_reducible repeat' first | assumption | apply done_sound | intro _ | apply gpioChange_sound

theorem execGpioStuckExpire_sound {pin} {s : State} (h1 : s.Sound) : ResultSound (execGpioStuckExpire pin s) := by
  unfold execGpioStuckExpire
  with_reducible repeat' first | assumption | apply done_sound | intro _ | apply gpioStuck_sound

theorem execGuardQueueCandidate_sound {channel} {s : State} (h1 : s.Sound) :
    ResultSound (execGuardQueueCandidate channel s) := by
  unfold execGuardQueueCandidate
  with_reducible repeat' first | assumption | apply done_sound | intro _ | apply guardPop_sound

theorem execGuardWriteCandidate_sound {channel value} {s : State} (h2 : s.Sound) :
    ResultSound (execGuardWriteCandidate channel value s) := by
  unfold execGuardWriteCandidate
  with_reducible repeat' first | assumption | apply done_sound | intro _ | apply guardValue_sound

theorem execGuardGapExpire_sound {channel} {s : State} (h1 : s.Sound) : ResultSound (execGuardGapExpire channel s) := by
  unfold execGuardGapExpire
  with_reducible repeat' first | assumption | apply done_sound | intro _ | apply gapExpire_sound

theorem execGuardSilenceExpire_sound {channel} {s : State} (h1 : s.Sound) :
    ResultSound (execGuardSilenceExpire channel s) := by
  unfold execGuardSilenceExpire
  with_reducible repeat' first | assumption | apply done_sound | intro _ | apply silenceExpire_sound

theorem execGuardForceSafeWrite_sound {channel on} {s : State} (h2 : s.Sound) :
    ResultSound (execGuardForceSafeWrite channel on s) := by
  unfold execGuardForceSafeWrite
  with_reducible repeat' first | assumption | apply done_sound | intro _ | apply forceSafe_sound

end Sys2Proof.Machine.State
end

