-- ==== Sys2Proof/Laws/Sound/Plasticity.lean ====
section
/-! SUPPORT. Each operation of `Sys2Proof/Machine/Plasticity.lean` gives a sound state on a sound state. -/

namespace Sys2Proof.Machine.State

set_option linter.unusedTactic false
set_option linter.unreachableTactic false

/-- Soundness of a pass through a fold. -/
theorem sound_foldl_pass {α : Type} {f : Pass → α → Pass} {x : Pass} (l : List α) (h : x.st.Sound)
    (hf : ∀ x : Pass, x.st.Sound → ∀ a, (f x a).st.Sound) : (l.foldl f x).st.Sound := by
  induction l generalizing x with
  | nil => exact h
  | cons a r ih => exact ih (hf x h a)



theorem Learn.synapse_sound {l : Learn} {a : Pass} {i ord fmt raw ea : Nat} {store : State → Nat → State}
    (h : a.st.Sound) (hs : ∀ (s : State) (w : Nat), s.Sound → (store s w).Sound) :
    (Learn.synapse l a i ord fmt raw ea store).st.Sound := by
  have hw : ∀ e : Nat, (a.st.wrLe ea 1 e).Sound := fun e => wrLe_sound h
  unfold Learn.synapse
  dsimp only
  split
  · exact hw _
  · split
    · exact hw _
    · exact hs _ _ (hw _)

theorem Learn.preUpdate_sound {l} {a : Pass} {i} (h1 : a.st.Sound) : (Learn.preUpdate l a i).st.Sound := by
  unfold Learn.preUpdate
  with_reducible repeat' first | assumption | intro _ | apply wrLe_sound | dsimp only | split | simp only [sound_mk_iff]

theorem Learn.storeEntry_sound {fmt a x2} {s : State} {w} (h3 : s.Sound) : (Learn.storeEntry fmt a x2 s w).Sound := by
  unfold Learn.storeEntry
  with_reducible repeat' first | assumption | intro _ | apply sound_ite | apply wrLe_sound | dsimp only

theorem Learn.runGroups_sound {l : Learn} {g x exact' i left j p cursor} {a : Pass} (h : a.st.Sound) :
    (Learn.runGroups l g x exact' i left j p cursor a).st.Sound := by
  induction left generalizing j p cursor a with
  | zero => unfold Learn.runGroups; split <;> split <;> exact h
  | succ n ih =>
    unfold Learn.runGroups
    dsimp only
    split
    · exact h
    · split
      · exact h
      · split
        · exact h
        · have hf : ∀ (b : Pass) (z : List (Syn × Nat)) (e : Nat), b.st.Sound →
              (z.foldl (fun (a : Pass) y => Learn.synapse l a i y.1.ord e y.1.raw
                (podBase l.pod + l.d.eligBase + (g.scaleIdx + (x.first + j)) * l.d.g + y.2)
                (Learn.storeEntry e (p + 1) y.1.entry)) b).st.Sound := fun b z e hb =>
            sound_foldl_pass z hb fun y hy a => Learn.synapse_sound hy fun s w hs => Learn.storeEntry_sound hs
          split
          · exact hf _ _ _ h
          · exact ih (hf _ _ _ h)

theorem Learn.source_sound {l} {a : Pass} {i} (h1 : a.st.Sound) : (Learn.source l a i).st.Sound := by
  unfold Learn.source
  with_reducible repeat' first
    | assumption | intro _ | apply sound_foldl | apply sound_ite | apply sound_foldl_fst | apply Learn.runGroups_sound
    | apply Learn.preUpdate_sound | apply sound_foldl_pass | dsimp only | split | simp only [sound_mk_iff]

theorem Learn.blockPart_sound {l} {a : Pass} {b} (h1 : a.st.Sound) : (Learn.blockPart l a b).st.Sound := by
  unfold Learn.blockPart
  with_reducible repeat' first
    | assumption | intro _ | apply sound_foldl | apply sound_ite | apply sound_foldl_fst | apply Learn.synapse_sound
    | apply wrLe_sound | apply Learn.preUpdate_sound | apply sound_foldl_pass | dsimp only | split
    | simp only [sound_mk_iff]

theorem learnPart_sound {s : State} {l c after sources} {work : Pass → Pass} (h : s.Sound)
    (hw : ∀ a : Pass, a.st.Sound → (work a).st.Sound) : (learnPart s l c after sources work).1.Sound ∧
      (learnPart s l c after sources work).2.2.st.Sound := by
  unfold learnPart
  dsimp only
  split
  · split
    · exact ⟨dropDead_sound h, h⟩
    · exact ⟨h, h⟩
  · have hr := hw ⟨s, 0, 0, 0, 0, 0, 0, false, none⟩ h
    refine ⟨?_, hr⟩
    dsimp only
    split
    · exact faultSlot_sound (sound_ite (logOnce_sound (countOp_sound (countOp_sound hr))) (countOp_sound (countOp_sound hr)))
    · exact sound_ite (logOnce_sound (countOp_sound (countOp_sound hr))) (countOp_sound (countOp_sound hr))

theorem learnParts_sound {s : State} {l c drift count} {parts : List (Nat × Bool × (Pass → Pass))} (h : s.Sound)
    (hw : ∀ x ∈ parts, ∀ a : Pass, a.st.Sound → (x.2.2 a).st.Sound) :
    (learnParts s l c drift count parts).1.Sound := by
  induction parts generalizing s c drift count with
  | nil => exact h
  | cons x r ih =>
    have hp : ∀ after, (s.learnPart l c after x.1 x.2.2).1.Sound := fun after => (learnPart_sound h (hw x (by simp))).1
    obtain ⟨n, last, work⟩ := x
    unfold learnParts
    dsimp only at hp ⊢
    split <;> split
    · exact hp _
    · exact ih (hp _) fun y hy => hw y (by simp [hy])
    · exact hp _
    · exact ih (hp _) fun y hy => hw y (by simp [hy])

theorem driftClose_sound {s : State} {p n} (h0 : s.Sound) : (driftClose s p n).Sound := by
  unfold driftClose
  with_reducible repeat' first | assumption | intro _ | apply log_sound | apply put_sound

theorem learnSlot_sound {s : State} {p n c} (h : s.Sound) : (learnSlot s p n c).1.Sound := by
  have hp : ∀ (l : Learn) (c : Sched), (learnParts s l c 0 0
      (if l.d.block then (List.range l.d.nb).map fun b => (l.d.srcCount, decide (b + 1 = l.d.nb), fun a => l.blockPart a b)
      else (List.range (ceilDiv l.d.srcCount 256)).map fun k =>
        (min 256 (l.d.srcCount - 256 * k), false, fun a =>
          (List.range (min 256 (l.d.srcCount - 256 * k))).foldl (fun a i => l.source a (256 * k + i)) a))).1.Sound := by
    refine fun l c => learnParts_sound h fun x hx a ha => ?_
    split at hx
    · obtain ⟨b, -, rfl⟩ := List.mem_map.1 hx
      exact Learn.blockPart_sound ha
    · obtain ⟨k, -, rfl⟩ := List.mem_map.1 hx
      exact sound_foldl_pass _ ha fun y hy i => Learn.source_sound hy
  unfold learnSlot
  dsimp only
  exact sound_ite (driftClose_sound (onDelivery_sound (count_sound (put_sound (hp ⟨p, n, _, s, _, _, _, _⟩ _)))))
    (onDelivery_sound (count_sound (put_sound (hp ⟨p, n, _, s, _, _, _, _⟩ _))))

theorem passStalls_sound {s : State} {p ends} (h0 : s.Sound) : (passStalls s p ends).Sound := by
  unfold passStalls
  with_reducible repeat' first
    | assumption | intro _ | apply sound_ite | apply put_sound | apply useFree_sound | apply count_sound | dsimp only

theorem rewrittenClear_sound {s : State} {p} (h0 : s.Sound) : (rewrittenClear s p).Sound := by
  unfold rewrittenClear
  with_reducible repeat' first | assumption | intro _ | apply onDelivery_sound | simp only [sound_mk_iff]

theorem learningPass_sound {s : State} {p} (h0 : s.Sound) : (learningPass s p).Sound := by
  unfold learningPass
  with_reducible repeat' first
    | assumption | intro _ | apply sound_foldl | apply sound_ite | apply sound_foldl_fst | apply sound_foldl_snd
    | apply sound_ite_snd | apply drainDead_sound | apply learnSlot_sound | apply rewrittenClear_sound
    | apply onDelivery_sound | apply passStalls_sound | dsimp only | split | refine sound_fst ?_ (by assumption)
    | simp only [sound_mk_iff]

theorem podViolation_sound {s : State} {p n a} (h0 : s.Sound) : (podViolation s p n a).Sound := by
  unfold podViolation
  with_reducible repeat' first | assumption | intro _ | apply log_sound | apply put_sound

theorem learnSet_sound {s : State} {p n} (h0 : s.Sound) : (learnSet s p n).Sound := by
  unfold learnSet
  with_reducible repeat' first | assumption | intro _ | apply sound_ite | apply podViolation_sound | apply put_sound

theorem learnLoad_sound {s : State} (h0 : s.Sound) : (learnLoad s).Sound := by
  unfold learnLoad
  with_reducible repeat' first
    | assumption | intro _ | apply sound_foldl | apply sound_ite | apply sound_foldl_fst | apply sound_foldl_snd
    | apply sound_ite_snd | apply learnSet_sound | apply put_sound | dsimp only

theorem plCtrlWrite_sound {s : State} {p n v} (h0 : s.Sound) : (plCtrlWrite s p n v).Sound := by
  unfold plCtrlWrite
  with_reducible repeat' first
    | assumption | intro _ | apply sound_ite | apply writeOnly_sound | apply podViolation_sound | dsimp only

theorem modLevel_sound {s : State} (h0 : s.Sound) : (modLevel s).Sound := by
  unfold modLevel
  with_reducible repeat' first | assumption | intro _ | apply put_sound

theorem modLate_sound {s : State} {step ch} (h0 : s.Sound) : (modLate s step ch).Sound := by
  unfold modLate
  with_reducible repeat' first | assumption | intro _ | apply log_sound | apply countObj_sound | apply count_sound

theorem modPush_sound {s : State} {ahead step ch val} (h0 : s.Sound) : (modPush s ahead step ch val).1.Sound := by
  unfold modPush
  with_reducible repeat' first
    | assumption | intro _ | apply sound_ite | apply sound_ite_fst | apply modLate_sound | apply count_sound
    | apply modLevel_sound | apply onDelivery_sound | simp only [sound_mk_iff]

theorem modPush32_sound {s : State} {step ch val} (h0 : s.Sound) : (modPush32 s step ch val).1.Sound := by
  unfold modPush32
  with_reducible repeat' first
    | assumption | intro _ | apply sound_ite_fst | apply modPush_sound | refine sound_fst ?_ (by assumption)

theorem modSettle_sound {s : State} {step} (h0 : s.Sound) : (modSettle s step).Sound := by
  unfold modSettle
  with_reducible repeat' first
    | assumption | intro _ | apply sound_foldl | apply sound_foldl_fst | apply onDelivery_sound | apply modLevel_sound
    | apply modLate_sound | dsimp only | simp only [sound_mk_iff]

theorem modClose_sound {s : State} (h0 : s.Sound) : (modClose s).Sound := by
  unfold modClose
  with_reducible repeat' first
    | assumption | intro _ | apply sound_foldl | apply sound_foldl_fst | apply onDelivery_sound | apply put_sound
    | simp only [sound_mk_iff]

theorem execLearningPass_sound {pod} {s : State} (h1 : s.Sound) : ResultSound (execLearningPass pod s) := by
  unfold execLearningPass
  with_reducible repeat' first | assumption | apply done_sound | intro _ | apply learningPass_sound

theorem execPlEnableWrite_sound {pod slot value} {s : State} (h3 : s.Sound) :
    ResultSound (execPlEnableWrite pod slot value s) := by
  unfold execPlEnableWrite
  with_reducible repeat' first | assumption | apply done_sound | intro _ | apply plCtrlWrite_sound

theorem execModqPush_sound {value} {s : State} (h1 : s.Sound) : ResultSound (execModqPush value s) := by
  unfold execModqPush
  with_reducible repeat' first
    | assumption | apply done_sound | intro _ | apply modPush32_sound | refine sound_fst ?_ (by assumption)

end Sys2Proof.Machine.State
end

