-- ==== Sys2Proof/Laws/Sound/Security.lean ====
section
/-! SUPPORT. Each operation of `Sys2Proof/Machine/Security.lean` gives a sound state on a sound state. -/

namespace Sys2Proof.Machine.State

set_option linter.unusedTactic false
set_option linter.unreachableTactic false

theorem onSec_sound {s : State} {f} (h0 : s.Sound) : (onSec s f).Sound := by
  unfold onSec
  with_reducible repeat' first | assumption | intro _ | simp only [sound_mk_iff]

theorem clearMem_sound {s : State} {lo hi} (h : s.Sound) : (clearMem s lo hi).Sound := sound_mem_filter h

theorem sealDirty_sound {s : State} (h0 : s.Sound) : (sealDirty s).Sound := by
  unfold sealDirty
  with_reducible repeat' first | assumption | intro _ | apply put_sound

theorem audit_sound {s : State} {kind slot role obj status old new} (h0 : s.Sound) :
    (audit s kind slot role obj status old new).Sound := by
  unfold audit
  with_reducible repeat' first
    | assumption | intro _ | apply sound_ite | apply countObj_sound | apply count_sound | apply log_sound
    | apply onSec_sound | apply wrBytes_sound | apply sealDirty_sound | apply put_sound | dsimp only
    | simp only [sound_mk_iff]

theorem endSession_sound {s : State} {slot} (h0 : s.Sound) : (endSession s slot).Sound := by
  unfold endSession
  with_reducible repeat' first
    | assumption | intro _ | apply sound_ite | apply setReg_sound | apply audit_sound | apply log_sound | dsimp only

theorem endSessions_sound {s : State} (h0 : s.Sound) : (endSessions s).Sound := by
  unfold endSessions
  with_reducible repeat' first
    | assumption | intro _ | apply sound_foldl | apply sound_foldl_fst | apply endSession_sound

theorem startSession_sound {s : State} {slot role} (h : s.Sound) : (startSession s slot role).Sound :=
  by
  have he : (s.endSession slot).Sound := endSession_sound h
  unfold startSession
  dsimp only
  exact onSec_sound (put_sound (put_sound (sound_selectors_filter he)))

theorem touchSlot_sound {s : State} {slot} (h0 : s.Sound) : (touchSlot s slot).Sound := by
  unfold touchSlot
  with_reducible repeat' first | assumption | intro _ | apply onSec_sound | simp only [sound_mk_iff]

theorem idleTimeout_sound {s : State} {slot} (h0 : s.Sound) : (idleTimeout s slot).Sound := by
  unfold idleTimeout
  with_reducible repeat' first
    | assumption | intro _ | apply sound_ite | apply endSession_sound | apply reach_sound | split
    | simp only [sound_mk_iff]

theorem huskDefaults_sound {s : State} (h : s.Sound) : (huskDefaults s).Sound :=
  sound_objs_filter (sound_foldl _ h fun _ hx _ => sound_ite (setReg_sound hx) hx)

theorem debugClose_sound {s : State} (h0 : s.Sound) : (debugClose s).Sound := by
  unfold debugClose
  with_reducible repeat' first | assumption | intro _ | apply put_sound

theorem wipeStart_sound {s : State} {cause} (h0 : s.Sound) : (wipeStart s cause).Sound := by
  unfold wipeStart
  with_reducible repeat' first
    | assumption | intro _ | apply sound_foldl | apply sound_foldl_fst | apply sound_foldl_snd | apply sound_ite_snd
    | apply debugClose_sound | apply endSessions_sound | apply put_sound | apply log_sound | apply put64_sound
    | apply count_sound | apply clearMem_sound | apply driftClose_sound | apply huskDefaults_sound | apply setReg_sound
    | apply onSec_sound | apply guardScan_sound | dsimp only | simp only [sound_mk_iff]

theorem wipeDone_sound {s : State} (h0 : s.Sound) : (wipeDone s).Sound := by
  unfold wipeDone
  with_reducible repeat' first
    | assumption | intro _ | apply sound_ite | apply onSec_sound | apply log_sound | apply put_sound
    | apply guardScan_sound | apply audit_sound | dsimp only | simp only [sound_mk_iff]

theorem tamperAssert_sound {s : State} {i} (h0 : s.Sound) : (tamperAssert s i).Sound := by
  unfold tamperAssert
  with_reducible repeat' first
    | assumption | intro _ | apply sound_ite | apply onSec_sound | apply wipeStart_sound | dsimp only
    | simp only [sound_mk_iff]

theorem sealWrite_sound {s : State} (h0 : s.Sound) : (sealWrite s).Sound := by
  unfold sealWrite
  with_reducible repeat' first
    | assumption | intro _ | apply sound_objs_filter | apply sound_getD | apply put_sound | apply onSec_sound
    | dsimp only | simp only [sound_mk_iff]

theorem sealRequest_sound {s : State} (h0 : s.Sound) : (sealRequest s).Sound := by
  unfold sealRequest
  with_reducible repeat' first | assumption | intro _ | apply sound_ite | apply sealWrite_sound

theorem sealExpire_sound {s : State} (h0 : s.Sound) : (sealExpire s).Sound := by
  unfold sealExpire
  with_reducible repeat' first
    | assumption | intro _ | apply sound_ite | apply sealWrite_sound | apply reach_sound | split
    | simp only [sound_mk_iff]

theorem loginStat_sound {s : State} {t} (h0 : s.Sound) : (loginStat s t).Sound := by
  unfold loginStat
  with_reducible repeat' first | assumption | intro _ | apply put_sound

theorem loginChallenge_sound {s : State} {slot role} (h0 : s.Sound) : (loginChallenge s slot role).Sound := by
  unfold loginChallenge
  with_reducible repeat' first
    | assumption | intro _ | apply sound_ite | apply touchSlot_sound | apply loginStat_sound | apply put64_sound
    | apply useFree_sound | apply onSec_sound | dsimp only | simp only [sound_mk_iff]

theorem dropChallenge_sound {s : State} {slot} (h0 : s.Sound) : (dropChallenge s slot).Sound := by
  unfold dropChallenge
  with_reducible repeat' first | assumption | intro _ | apply onSec_sound | simp only [sound_mk_iff]

theorem challengeExpire_sound {s : State} {slot} (h0 : s.Sound) : (challengeExpire s slot).Sound := by
  unfold challengeExpire
  with_reducible repeat' first
    | assumption | intro _ | apply dropChallenge_sound | apply reach_sound | split | simp only [sound_mk_iff]

theorem lockout_sound {s : State} {slot role} (h0 : s.Sound) : (lockout s slot role).Sound := by
  unfold lockout
  with_reducible repeat' first
    | assumption | intro _ | apply sound_ite | apply onSec_sound | apply put_sound | apply log_sound | apply audit_sound
    | apply wipeStart_sound | dsimp only | split | simp only [sound_mk_iff]

theorem loginVerify_sound {s : State} {slot role} (h0 : s.Sound) : (loginVerify s slot role).Sound := by
  unfold loginVerify
  with_reducible repeat' first
    | assumption | intro _ | apply sound_ite | apply touchSlot_sound | apply loginStat_sound | apply dropChallenge_sound
    | apply put_sound | apply startSession_sound | apply log_sound | apply audit_sound | apply count_sound
    | apply lockout_sound | dsimp only | split | simp only [sound_mk_iff]

theorem lockoutExpire_sound {s : State} {role} (h0 : s.Sound) : (lockoutExpire s role).Sound := by
  unfold lockoutExpire
  with_reducible repeat' first
    | assumption | intro _ | apply put_sound | apply reach_sound | apply onSec_sound | dsimp only | split
    | simp only [sound_mk_iff]

theorem exportStart_sound {s : State} {slot} (h0 : s.Sound) : (exportStart s slot).Sound := by
  unfold exportStart
  with_reducible repeat' first
    | assumption | intro _ | apply sound_ite | apply onSec_sound | apply log_sound | apply audit_sound | dsimp only
    | simp only [sound_mk_iff]

theorem exportRead_sound {s : State} {slot len} (h0 : s.Sound) : (exportRead s slot len).Sound := by
  unfold exportRead
  with_reducible repeat' first
    | assumption | intro _ | apply sound_ite | apply touchSlot_sound | apply refusal_sound | apply exportStart_sound
    | apply onSec_sound | dsimp only | split | simp only [sound_mk_iff]

theorem execTamperAssert_sound {input} {s : State} (h1 : s.Sound) : ResultSound (execTamperAssert input s) := by
  unfold execTamperAssert
  with_reducible repeat' first | assumption | apply done_sound | intro _ | apply tamperAssert_sound

theorem execHuskWipeDone_sound {s : State} (h0 : s.Sound) : ResultSound (execHuskWipeDone s) := by
  unfold execHuskWipeDone
  with_reducible repeat' first | assumption | apply done_sound | intro _ | apply wipeDone_sound

theorem execSealRequest_sound {s : State} (h0 : s.Sound) : ResultSound (execSealRequest s) := by
  unfold execSealRequest
  with_reducible repeat' first | assumption | apply done_sound | intro _ | apply sealRequest_sound

theorem execSealGapExpire_sound {s : State} (h0 : s.Sound) : ResultSound (execSealGapExpire s) := by
  unfold execSealGapExpire
  with_reducible repeat' first | assumption | apply done_sound | intro _ | apply sealExpire_sound

theorem execLoginChallenge_sound {slot role} {s : State} (h2 : s.Sound) :
    ResultSound (execLoginChallenge slot role s) := by
  unfold execLoginChallenge
  with_reducible repeat' first | assumption | apply done_sound | intro _ | apply loginChallenge_sound

theorem execLoginVerify_sound {slot role} {s : State} (h2 : s.Sound) : ResultSound (execLoginVerify slot role s) := by
  unfold execLoginVerify
  with_reducible repeat' first | assumption | apply done_sound | intro _ | apply loginVerify_sound

theorem execChallengeExpire_sound {slot} {s : State} (h1 : s.Sound) : ResultSound (execChallengeExpire slot s) := by
  unfold execChallengeExpire
  with_reducible repeat' first | assumption | apply done_sound | intro _ | apply challengeExpire_sound

theorem execLogout_sound {slot} {s : State} (h1 : s.Sound) : ResultSound (execLogout slot s) := by
  unfold execLogout
  with_reducible repeat' first
    | assumption | apply done_sound | intro _ | apply loginStat_sound | apply endSession_sound

theorem execSessionIdleTimeout_sound {slot} {s : State} (h1 : s.Sound) :
    ResultSound (execSessionIdleTimeout slot s) := by
  unfold execSessionIdleTimeout
  with_reducible repeat' first | assumption | apply done_sound | intro _ | apply idleTimeout_sound

theorem execLockoutExpire_sound {role} {s : State} (h1 : s.Sound) : ResultSound (execLockoutExpire role s) := by
  unfold execLockoutExpire
  with_reducible repeat' first | assumption | apply done_sound | intro _ | apply lockoutExpire_sound

theorem auditAppend_sound {s : State} {value} (h0 : s.Sound) : (auditAppend s value).Sound := by
  unfold auditAppend
  with_reducible repeat' first | assumption | intro _ | apply writePlain_sound | apply audit_sound | dsimp only

theorem execAuditAppend_sound {value} {s : State} (h1 : s.Sound) : ResultSound (execAuditAppend value s) := by
  unfold execAuditAppend
  with_reducible repeat' first | assumption | apply done_sound | intro _ | apply auditAppend_sound

theorem execAuditExportRead_sound {slot len} {s : State} (h2 : s.Sound) :
    ResultSound (execAuditExportRead slot len s) := by
  unfold execAuditExportRead
  with_reducible repeat' first | assumption | apply done_sound | intro _ | apply exportRead_sound

end Sys2Proof.Machine.State
end

