-- ==== Sys2Proof/Laws/Sound/Tree.lean ====
section
/-! SUPPORT. Each operation of `Sys2Proof/Machine/Tree.lean` gives a sound state on a sound state. -/

namespace Sys2Proof.Machine.State

set_option linter.unusedTactic false
set_option linter.unreachableTactic false

theorem nodeCfgErr_sound {s : State} {n} (h0 : s.Sound) : (nodeCfgErr s n).Sound := by
  unfold nodeCfgErr
  with_reducible repeat' first | assumption | intro _ | apply raise_sound | apply put_sound

theorem arrive_sound {s : State} {n c} (h0 : s.Sound) : (arrive s n c).Sound := by
  unfold arrive
  with_reducible repeat' first
    | assumption | intro _ | apply sound_foldl | apply sound_ite | apply sound_foldl_fst | apply nodeCfgErr_sound
    | apply put_sound | apply setWait_sound | dsimp only | simp only [sound_mk_iff]

theorem releaseNode_sound {s : State} {c n} (h0 : s.Sound) : (releaseNode s c n).Sound := by
  unfold releaseNode
  with_reducible repeat' first
    | assumption | intro _ | apply sound_ite | apply put_sound | apply raise_sound | apply setWait_sound | dsimp only

theorem barRelease_sound {s : State} {c} (h0 : s.Sound) : (barRelease s c).Sound := by
  unfold barRelease
  with_reducible repeat' first
    | assumption | intro _ | apply sound_foldl | apply sound_ite | apply sound_foldl_fst | apply sound_foldl_snd
    | apply sound_ite_snd | apply setReg_sound | apply releaseNode_sound | apply setObj_sound | apply put_sound
    | apply useFree_sound | dsimp only

theorem memberWrite_sound {s : State} {n hi v} (h0 : s.Sound) : (memberWrite s n hi v).Sound := by
  unfold memberWrite
  with_reducible repeat' first
    | assumption | intro _ | apply sound_ite | apply setReg_sound | apply nodeCfgErr_sound | dsimp only | split

theorem redCfgWrite_sound {s : State} {l v} (h0 : s.Sound) : (redCfgWrite s l v).Sound := by
  unfold redCfgWrite
  with_reducible repeat' first
    | assumption | intro _ | apply sound_foldl | apply sound_ite | apply sound_getD | apply sound_foldl_fst
    | apply put_sound | apply setReg_sound | dsimp only | split

theorem fltShow_sound {s : State} (h0 : s.Sound) : (fltShow s).Sound := by
  unfold fltShow
  with_reducible repeat' first | assumption | intro _ | apply put_sound | dsimp only

theorem faultWave_sound {s : State} (h0 : s.Sound) : (faultWave s).Sound := by
  unfold faultWave
  with_reducible repeat' first
    | assumption | intro _ | apply sound_foldl | apply sound_ite | apply sound_foldl_fst | apply put_sound
    | apply fltShow_sound | apply countObj_sound | apply log_sound | dsimp only | split | simp only [sound_mk_iff]

theorem execBarrierArrive_sound {node ctx} {s : State} (h2 : s.Sound) : ResultSound (execBarrierArrive node ctx s) := by
  unfold execBarrierArrive
  with_reducible repeat' first | assumption | apply done_sound | intro _ | apply arrive_sound

theorem execBarrierRelease_sound {ctx} {s : State} (h1 : s.Sound) : ResultSound (execBarrierRelease ctx s) := by
  unfold execBarrierRelease
  with_reducible repeat' first | assumption | apply done_sound | intro _ | apply barRelease_sound

theorem execBarMemberWrite_sound {node hi value} {s : State} (h3 : s.Sound) :
    ResultSound (execBarMemberWrite node hi value s) := by
  unfold execBarMemberWrite
  with_reducible repeat' first | assumption | apply done_sound | intro _ | apply memberWrite_sound

theorem execRedCfgWrite_sound {lane value} {s : State} (h2 : s.Sound) : ResultSound (execRedCfgWrite lane value s) := by
  unfold execRedCfgWrite
  with_reducible repeat' first | assumption | apply done_sound | intro _ | apply redCfgWrite_sound

theorem execFaultReportFile_sound {node suspect} {s : State} (h2 : s.Sound) :
    ResultSound (execFaultReportFile node suspect s) := by
  unfold execFaultReportFile
  with_reducible repeat' first | assumption | apply done_sound | intro _ | apply sound_ite | apply fileReport_sound

theorem execFaultWave_sound {s : State} (h0 : s.Sound) : ResultSound (execFaultWave s) := by
  unfold execFaultWave
  with_reducible repeat' first | assumption | apply done_sound | intro _ | apply faultWave_sound

end Sys2Proof.Machine.State
end

