-- ==== Sys2Proof/Laws/Sound/Debug.lean ====
section
/-! SUPPORT. Each operation of `Sys2Proof/Machine/Debug.lean` gives a sound state on a sound state. -/

namespace Sys2Proof.Machine.State

set_option linter.unusedTactic false
set_option linter.unreachableTactic false

theorem opsLatch_sound {s : State} {t} (h : s.Sound) : (opsLatch s t).Sound := by
  unfold opsLatch
  simp only [sound_mk_iff]
  refine sound_foldl _ h fun x hx a => ?_
  exact sound_latches hx

theorem opsClear_sound {s : State} {t} (h0 : s.Sound) : (opsClear s t).Sound := by
  unfold opsClear
  with_reducible repeat' first | assumption | intro _ | apply sound_foldl | apply sound_foldl_fst | apply put64_sound

theorem traceEntry_sound {s : State} {p} (h0 : s.Sound) : (traceEntry s p).Sound := by
  unfold traceEntry
  with_reducible repeat' first
    | assumption | intro _ | apply sound_ite | apply logOnce_sound | apply count_sound | apply wrBytes_sound
    | apply put_sound | dsimp only | split

theorem traceWrite_sound {s : State} (h0 : s.Sound) : (traceWrite s).Sound := by
  unfold traceWrite
  with_reducible repeat' first
    | assumption | intro _ | apply traceEntry_sound | apply onMesh_sound | split | simp only [sound_mk_iff]

theorem traceMarker_sound {s : State} {step time} (h0 : s.Sound) : (traceMarker s step time).Sound := by
  unfold traceMarker
  with_reducible repeat' first | assumption | intro _ | apply sound_ite | apply traceEntry_sound

theorem waitDeclare_sound {s : State} {t v} (h0 : s.Sound) : (waitDeclare s t v).Sound := by
  unfold waitDeclare
  with_reducible repeat' first
    | assumption | intro _ | apply setWait_sound | dsimp only | split | simp only [sound_mk_iff]

theorem hangStart_sound {s : State} (h0 : s.Sound) : (hangStart s).Sound := by
  unfold hangStart
  with_reducible repeat' first
    | assumption | intro _ | apply sound_ite | apply refusal_sound | apply setObj_sound | dsimp only
    | simp only [sound_mk_iff]

theorem logFirmware_sound {s : State} {code p0 p1} (h0 : s.Sound) : (logFirmware s code p0 p1).Sound := by
  unfold logFirmware
  with_reducible repeat' first | assumption | intro _ | simp only [sound_mk_iff]

theorem hangFinish_sound {s : State} (h0 : s.Sound) : (hangFinish s).Sound := by
  unfold hangFinish
  with_reducible repeat' first
    | assumption | intro _ | apply sound_foldl | apply sound_ite | apply sound_foldl_fst | apply reach_sound
    | apply logFirmware_sound | apply setObj_sound | dsimp only | split | simp only [sound_mk_iff]

theorem injectAuth_sound {s : State} {slot value f} (h0 : s.Sound) (h3 : ∀ (a : State), a.Sound → (f a).Sound) :
    (injectAuth s slot value f).Sound := by
  unfold injectAuth
  with_reducible repeat' first
    | assumption | intro _ | apply sound_ite | apply touchSlot_sound | apply log_sound | apply audit_sound | dsimp only
    | apply h3

theorem injectArm_sound {s : State} (h0 : s.Sound) : (injectArm s).Sound := by
  unfold injectArm
  with_reducible repeat' first
    | assumption | intro _ | apply sound_ite | apply log_sound | apply put_sound | apply refusal_sound

theorem injectDisarm_sound {s : State} (h0 : s.Sound) : (injectDisarm s).Sound := by
  unfold injectDisarm
  with_reducible repeat' first | assumption | intro _ | apply put_sound

theorem execOpsLatchRead_sound {tile} {s : State} (h1 : s.Sound) : ResultSound (execOpsLatchRead tile s) := by
  unfold execOpsLatchRead
  with_reducible repeat' first | assumption | apply done_sound | intro _ | apply opsLatch_sound

theorem execCounterClear_sound {tile} {s : State} (h1 : s.Sound) : ResultSound (execCounterClear tile s) := by
  unfold execCounterClear
  with_reducible repeat' first | assumption | apply done_sound | intro _ | apply opsClear_sound

theorem execTraceWrite_sound {s : State} (h0 : s.Sound) : ResultSound (execTraceWrite s) := by
  unfold execTraceWrite
  with_reducible repeat' first | assumption | apply done_sound | intro _ | apply traceWrite_sound

theorem execWaitDeclare_sound {tile value} {s : State} (h2 : s.Sound) : ResultSound (execWaitDeclare tile value s) := by
  unfold execWaitDeclare
  with_reducible repeat' first | assumption | apply done_sound | intro _ | apply waitDeclare_sound

theorem execHangAnalysisStart_sound {s : State} (h0 : s.Sound) : ResultSound (execHangAnalysisStart s) := by
  unfold execHangAnalysisStart
  with_reducible repeat' first | assumption | apply done_sound | intro _ | apply hangStart_sound

theorem execHangAnalysisSecondRead_sound {s : State} (h0 : s.Sound) : ResultSound (execHangAnalysisSecondRead s) := by
  unfold execHangAnalysisSecondRead
  with_reducible repeat' first | assumption | apply done_sound | intro _ | apply hangFinish_sound

theorem execInjectionArm_sound {slot} {s : State} (h1 : s.Sound) : ResultSound (execInjectionArm slot s) := by
  unfold execInjectionArm
  with_reducible repeat' first
    | assumption | apply done_sound | intro _ | apply injectAuth_sound | apply injectArm_sound

theorem execInjectionDisarm_sound {slot} {s : State} (h1 : s.Sound) : ResultSound (execInjectionDisarm slot s) := by
  unfold execInjectionDisarm
  with_reducible repeat' first
    | assumption | apply done_sound | intro _ | apply injectAuth_sound | apply injectDisarm_sound

end Sys2Proof.Machine.State
end

