-- ==== Sys2Proof/Laws/Sound/Faults.lean ====
section
/-! SUPPORT. Each operation of `Sys2Proof/Machine/Faults.lean` gives a sound state on a sound state. -/

namespace Sys2Proof.Machine.State

set_option linter.unusedTactic false
set_option linter.unreachableTactic false

theorem onFault_sound {s : State} {f} (h0 : s.Sound) : (onFault s f).Sound := by
  unfold onFault
  with_reducible repeat' first | assumption | intro _ | simp only [sound_mk_iff]

theorem fence_sound {s : State} {t v} (h0 : s.Sound) : (fence s t v).Sound := by
  unfold fence
  with_reducible repeat' first | assumption | intro _ | apply put_sound

theorem spareUsed_sound {s : State} (h0 : s.Sound) : (spareUsed s).Sound := by
  unfold spareUsed
  with_reducible repeat' first | assumption | intro _ | apply setObj_sound

theorem tileRetire_sound {s : State} {t} (h0 : s.Sound) : (tileRetire s t).Sound := by
  unfold tileRetire
  with_reducible repeat' first
    | assumption | intro _ | apply sound_ite | apply put_sound | apply fence_sound | apply onFault_sound
    | apply spareUsed_sound | apply log_sound | dsimp only | simp only [sound_mk_iff]

theorem linkRetire_sound {s : State} {r p} (h0 : s.Sound) : (linkRetire s r p).Sound := by
  unfold linkRetire
  with_reducible repeat' first
    | assumption | intro _ | apply onFault_sound | apply log_sound | apply linkDown_sound | simp only [sound_mk_iff]

theorem linkRetrain_sound {s : State} {r p} (h0 : s.Sound) : (linkRetrain s r p).Sound := by
  unfold linkRetrain
  with_reducible repeat' first
    | assumption | intro _ | apply onFault_sound | apply linkDown_sound | simp only [sound_mk_iff]

theorem linkCrossed_sound {s : State} {r p} (h0 : s.Sound) : (linkCrossed s r p).1.Sound := by
  unfold linkCrossed
  with_reducible repeat' first
    | assumption | intro _ | apply sound_ite | apply sound_ite_fst | apply linkRetire_sound | apply linkRetrain_sound
    | dsimp only

theorem retrainStop_sound {s : State} {t} (h0 : s.Sound) : (retrainStop s t).Sound := by
  unfold retrainStop
  with_reducible repeat' first | assumption | intro _ | apply onFault_sound | dsimp only | simp only [sound_mk_iff]

theorem holeMake_sound {s : State} {t} (h0 : s.Sound) : (holeMake s t).Sound := by
  unfold holeMake
  with_reducible repeat' first
    | assumption | intro _ | apply sound_foldl | apply sound_foldl_fst | apply retrainStop_sound | apply linkDown_sound
    | apply onFault_sound | apply log_sound | apply tileRetire_sound | dsimp only | simp only [sound_mk_iff]

theorem podRetire_sound {s : State} {p} (h0 : s.Sound) : (podRetire s p).Sound := by
  unfold podRetire
  with_reducible repeat' first
    | assumption | intro _ | apply sound_foldl | apply sound_foldl_fst | apply log_sound | apply tileRetire_sound
    | dsimp only

theorem seamRetire_sound {s : State} {row} (h0 : s.Sound) : (seamRetire s row).Sound := by
  unfold seamRetire
  with_reducible repeat' first
    | assumption | intro _ | apply log_sound | apply scmLinkFail_sound | apply linkRetire_sound | dsimp only

theorem lanePairDrop_sound {s : State} {port lane} (h0 : s.Sound) : (lanePairDrop s port lane).Sound := by
  unfold lanePairDrop
  with_reducible repeat' first | assumption | intro _ | apply put_sound | dsimp only

theorem verdict_sound {s : State} {suspect count} (h0 : s.Sound) : (verdict s suspect count).1.Sound := by
  unfold verdict
  with_reducible repeat' first
    | assumption | intro _ | apply sound_ite | apply sound_ite_fst | apply holeMake_sound | apply tileRetire_sound
    | apply linkCrossed_sound | apply log_sound | apply scmLinkFail_sound | apply podRetire_sound
    | apply subRetire_sound | apply seamRetire_sound | apply lanePairDrop_sound | dsimp only | split
    | refine sound_fst ?_ (by assumption) | simp only [sound_mk_iff]

theorem reportTake_sound {s : State} (h0 : s.Sound) : (reportTake s).Sound := by
  unfold reportTake
  with_reducible repeat' first
    | assumption | intro _ | apply fltShow_sound | apply onFault_sound | apply verdict_sound | apply put_sound
    | dsimp only | split | refine sound_fst ?_ (by assumption) | simp only [sound_mk_iff]

theorem retrainDone_sound {s : State} {r p ok} (h0 : s.Sound) : (retrainDone s r p ok).Sound := by
  unfold retrainDone
  with_reducible repeat' first
    | assumption | intro _ | apply sound_ite | apply reach_sound | apply log_sound | apply linkRaise_sound
    | apply onFault_sound | apply linkRetire_sound | dsimp only | simp only [sound_mk_iff]

theorem heartbeatLost_sound {s : State} {t} (h0 : s.Sound) : (heartbeatLost s t).Sound := by
  unfold heartbeatLost
  with_reducible repeat' first | assumption | intro _ | apply fileReport_sound | apply put_sound

theorem engineTimeout_sound {s : State} {t engine} (h0 : s.Sound) : (engineTimeout s t engine).Sound := by
  unfold engineTimeout
  with_reducible repeat' first | assumption | intro _ | apply fileReport_sound | apply put_sound

theorem fenceWrite_sound {s : State} {w v} (h0 : s.Sound) : (fenceWrite s w v).Sound := by
  unfold fenceWrite
  with_reducible repeat' first
    | assumption | intro _ | apply sound_foldl | apply sound_ite | apply sound_foldl_fst | apply put_sound
    | apply log_sound | apply fence_sound | dsimp only

theorem execFaultReportTake_sound {s : State} (h0 : s.Sound) : ResultSound (execFaultReportTake s) := by
  unfold execFaultReportTake
  with_reducible repeat' first | assumption | apply done_sound | intro _ | apply reportTake_sound

theorem execLinkRetrainDone_sound {router port ok} {s : State} (h3 : s.Sound) :
    ResultSound (execLinkRetrainDone router port ok s) := by
  unfold execLinkRetrainDone
  with_reducible repeat' first | assumption | apply done_sound | intro _ | apply retrainDone_sound

theorem execHeartbeatTimeout_sound {tile} {s : State} (h1 : s.Sound) : ResultSound (execHeartbeatTimeout tile s) := by
  unfold execHeartbeatTimeout
  with_reducible repeat' first | assumption | apply done_sound | intro _ | apply heartbeatLost_sound

theorem execEngineTimeout_sound {tile engine} {s : State} (h2 : s.Sound) :
    ResultSound (execEngineTimeout tile engine s) := by
  unfold execEngineTimeout
  with_reducible repeat' first | assumption | apply done_sound | intro _ | apply engineTimeout_sound

theorem execFirmwareFenceWrite_sound {word value} {s : State} (h2 : s.Sound) :
    ResultSound (execFirmwareFenceWrite word value s) := by
  unfold execFirmwareFenceWrite
  with_reducible repeat' first | assumption | apply done_sound | intro _ | apply fenceWrite_sound

end Sys2Proof.Machine.State
end

