-- ==== Sys2Proof/Laws/Sound/EventLog.lean ====
section
/-! SUPPORT. Each operation of `Sys2Proof/Machine/EventLog.lean` gives a sound state on a sound state. -/

namespace Sys2Proof.Machine.State

set_option linter.unusedTactic false
set_option linter.unreachableTactic false

theorem emcyPump_sound {s : State} {n : Nat} (h : s.Sound) : (emcyPump s n).Sound := by
  induction n generalizing s with
  | zero => exact h
  | succ n ih =>
    unfold emcyPump
    split
    · exact h
    · split
      · exact h
      · exact ih (canSend_sound (h.congr rfl rfl rfl rfl rfl rfl rfl))

theorem emcyPut_sound {s : State} {code event p0} (h0 : s.Sound) : (emcyPut s code event p0).Sound := by
  unfold emcyPut
  with_reducible repeat' first | assumption | intro _ | apply emcyPump_sound | dsimp only | simp only [sound_mk_iff]

theorem historyPut_sound {s : State} {code event} (h0 : s.Sound) : (historyPut s code event).Sound := by
  unfold historyPut
  with_reducible repeat' first
    | assumption | intro _ | apply sound_foldl | apply sound_foldl_fst | apply setObj_sound | dsimp only

theorem errorBit_sound {s : State} {b} (h0 : s.Sound) : (errorBit s b).Sound := by
  unfold errorBit
  with_reducible repeat' first | assumption | intro _ | apply setObj_sound | dsimp only | simp only [sound_mk_iff]

theorem emcyEvent_sound {s : State} {e} (h0 : s.Sound) : (emcyEvent s e).Sound := by
  unfold emcyEvent
  with_reducible repeat' first
    | assumption | intro _ | apply sound_ite | apply emcyPut_sound | apply historyPut_sound | apply errorBit_sound
    | dsimp only

theorem emcyLost_sound {s : State} (h0 : s.Sound) : (emcyLost s).Sound := by
  unfold emcyLost
  with_reducible repeat' first
    | assumption | intro _ | apply sound_ite | apply emcyPut_sound | apply historyPut_sound | simp only [sound_mk_iff]

theorem errorClear_sound {s : State} {b} (h0 : s.Sound) : (errorClear s b).Sound := by
  unfold errorClear
  with_reducible repeat' first
    | assumption | intro _ | apply sound_ite | apply reach_sound | apply setObj_sound | apply emcyPump_sound
    | apply emcyPut_sound | dsimp only | simp only [sound_mk_iff]

theorem ringWrite_sound {s : State} {e} (h0 : s.Sound) : (ringWrite s e).Sound := by
  unfold ringWrite
  with_reducible repeat' first
    | assumption | intro _ | apply sound_ite | apply wrBytes_sound | apply put_sound | apply emcyLost_sound
    | apply count_sound | apply onFault_sound | apply emcyEvent_sound | apply msix_sound | dsimp only
    | simp only [sound_mk_iff]

theorem appendNext_sound {s : State} (h0 : s.Sound) : (appendNext s).Sound := by
  unfold appendNext
  with_reducible repeat' first | assumption | intro _ | apply ringWrite_sound | split | simp only [sound_mk_iff]

theorem firmwareAppend_sound {s : State} (h0 : s.Sound) : (firmwareAppend s).Sound := by
  unfold firmwareAppend
  with_reducible repeat' first | assumption | intro _ | apply sound_ite | apply log_sound | apply put_sound | dsimp only

theorem execEventLogAppend_sound {s : State} (h0 : s.Sound) : ResultSound (execEventLogAppend s) := by
  unfold execEventLogAppend
  with_reducible repeat' first | assumption | apply done_sound | intro _ | apply appendNext_sound

theorem execFirmwareLogAppend_sound {s : State} (h0 : s.Sound) : ResultSound (execFirmwareLogAppend s) := by
  unfold execFirmwareLogAppend
  with_reducible repeat' first | assumption | apply done_sound | intro _ | apply firmwareAppend_sound

end Sys2Proof.Machine.State
end

