-- ==== Sys2Proof/Laws/Sound/Check.lean ====
section
/-! SUPPORT. Each operation of `Sys2Proof/Machine/Check.lean` gives a sound state on a sound state. -/

namespace Sys2Proof.Machine.State

set_option linter.unusedTactic false
set_option linter.unreachableTactic false

theorem chkPut_sound {s : State} {a b} (h0 : s.Sound) : (chkPut s a b).Sound := by
  unfold chkPut
  with_reducible repeat' first | assumption | intro _ | apply sound_ite | apply writePlain_sound | apply wr8_sound

theorem chkIgnored_sound {s : State} {u} (h0 : s.Sound) : (chkIgnored s u).Sound := by
  unfold chkIgnored
  with_reducible repeat' first | assumption | intro _ | apply put_sound

theorem chkStart_sound {s : State} {u owner} (h0 : s.Sound) : (chkStart s u owner).Sound := by
  unfold chkStart
  with_reducible repeat' first | assumption | intro _ | apply sound_ite | apply put_sound

theorem chkClaim_sound {s : State} (h0 : s.Sound) : (chkClaim s).Sound := by
  unfold chkClaim
  with_reducible repeat' first | assumption | intro _ | apply sound_ite | apply put_sound | simp only [sound_mk_iff]

theorem chkEnd_sound {s : State} {u result hit miss} (h0 : s.Sound) : (chkEnd s u result hit miss).Sound := by
  unfold chkEnd
  with_reducible repeat' first
    | assumption | intro _ | apply sound_ite | apply put_sound | apply raise_sound | apply count_sound
    | apply chkClaim_sound | dsimp only

theorem chkCompare_sound {s : State} {u v} (h0 : s.Sound) : (chkCompare s u v).Sound := by
  unfold chkCompare
  with_reducible repeat' first
    | assumption | intro _ | apply sound_ite | apply put_sound | apply chkEnd_sound | dsimp only

theorem chkProtect_sound {s : State} {u p msg} (h0 : s.Sound) : (chkProtect s u p msg).Sound := by
  unfold chkProtect
  with_reducible repeat' first
    | assumption | intro _ | apply sound_foldl | apply sound_ite | apply sound_foldl_fst | apply chkPut_sound
    | apply chkCompare_sound | apply put_sound | dsimp only

theorem chkCheck_sound {s : State} {u p msg} (h0 : s.Sound) : (chkCheck s u p msg).Sound := by
  unfold chkCheck
  with_reducible repeat' first
    | assumption | intro _ | apply sound_ite | apply sound_getD | apply put_sound | apply chkEnd_sound
    | apply count_sound | dsimp only | split

theorem chkDone_sound {s : State} {u} (h0 : s.Sound) : (chkDone s u).Sound := by
  unfold chkDone
  with_reducible repeat' first
    | assumption | intro _ | apply sound_ite | apply put_sound | apply chkEnd_sound | apply chkCompare_sound
    | apply chkProtect_sound | apply chkCheck_sound | dsimp only | split

theorem chkAbort_sound {s : State} {u owner} (h0 : s.Sound) : (chkAbort s u owner).Sound := by
  unfold chkAbort
  with_reducible repeat' first | assumption | intro _ | apply sound_ite | apply chkEnd_sound

theorem execChkStart_sound {unit owner} {s : State} (h2 : s.Sound) : ResultSound (execChkStart unit owner s) := by
  unfold execChkStart
  with_reducible repeat' first | assumption | apply done_sound | intro _ | apply chkStart_sound

theorem execChkAbort_sound {unit owner} {s : State} (h2 : s.Sound) : ResultSound (execChkAbort unit owner s) := by
  unfold execChkAbort
  with_reducible repeat' first | assumption | apply done_sound | intro _ | apply chkAbort_sound

theorem execChkJobDone_sound {unit} {s : State} (h1 : s.Sound) : ResultSound (execChkJobDone unit s) := by
  unfold execChkJobDone
  with_reducible repeat' first | assumption | apply done_sound | intro _ | apply chkDone_sound

theorem execChkSecurityClaim_sound {s : State} (h0 : s.Sound) : ResultSound (execChkSecurityClaim s) := by
  unfold execChkSecurityClaim
  with_reducible repeat' first
    | assumption | apply done_sound | intro _ | apply sound_ite | apply chkClaim_sound | simp only [sound_mk_iff]

theorem execChkProfileReset_sound {unit prof} {s : State} (h2 : s.Sound) :
    ResultSound (execChkProfileReset unit prof s) := by
  unfold execChkProfileReset
  with_reducible repeat' first
    | assumption | apply done_sound | intro _ | apply sound_ite | apply chkIgnored_sound | apply put_sound

end Sys2Proof.Machine.State
end

