-- ==== Sys2Proof/Laws/Sound/Counts.lean ====
section
/-! SUPPORT. Each operation of `Sys2Proof/Machine/Counts.lean` gives a sound state on a sound state. -/

namespace Sys2Proof.Machine.State

set_option linter.unusedTactic false
set_option linter.unreachableTactic false

theorem gather_sound {s : State} (h0 : s.Sound) : (gather s).Sound := by
  unfold gather
  with_reducible repeat' first
    | assumption | intro _ | apply sound_foldl | apply sound_ite | apply sound_foldl_fst | apply sound_foldl_snd
    | apply sound_ite_snd | apply setObj_sound | dsimp only | simp only [sound_mk_iff]

theorem gatherRecords_sound {s : State} {t} (h0 : s.Sound) : (gatherRecords s t).Sound := by
  unfold gatherRecords
  with_reducible repeat' first
    | assumption | intro _ | apply sound_foldl | apply sound_ite | apply sound_getD | apply sound_foldl_fst
    | apply sound_foldl_snd | apply sound_ite_snd | apply setObj_sound | dsimp only | split | simp only [sound_mk_iff]

end Sys2Proof.Machine.State
end

