-- ==== Sys2Proof/Laws/Sound/Power.lean ====
section
/-! SUPPORT. Each operation of `Sys2Proof/Machine/Power.lean` gives a sound state on a sound state. -/

namespace Sys2Proof.Machine.State

set_option linter.unusedTactic false
set_option linter.unreachableTactic false

theorem onPower_sound {s : State} {f} (h0 : s.Sound) : (onPower s f).Sound := by
  unfold onPower
  with_reducible repeat' first | assumption | intro _ | simp only [sound_mk_iff]

theorem deny_sound {s : State} {reason index sub} (h0 : s.Sound) : (deny s reason index sub).Sound := by
  unfold deny
  with_reducible repeat' first | assumption | intro _ | apply log_sound | apply refusal_sound

theorem pmbSend_sound {s : State} {r} (h0 : s.Sound) : (pmbSend s r).Sound := by
  unfold pmbSend
  with_reducible repeat' first | assumption | intro _ | apply onPower_sound | split | simp only [sound_mk_iff]

theorem pmbRaw_sound {s : State} {w} (h0 : s.Sound) : (pmbRaw s w).Sound := by
  unfold pmbRaw
  with_reducible repeat' first
    | assumption | intro _ | apply sound_ite | apply log_sound | apply put_sound | apply pmbSend_sound | dsimp only

theorem rampStart_sound {s : State} {rail mv} (h0 : s.Sound) : (rampStart s rail mv).Sound := by
  unfold rampStart
  with_reducible repeat' first
    | assumption | intro _ | apply put_sound | apply onPower_sound | apply pmbSend_sound | dsimp only
    | simp only [sound_mk_iff]

theorem rampDrop_sound {s : State} {rail} (h0 : s.Sound) : (rampDrop s rail).Sound := by
  unfold rampDrop
  with_reducible repeat' first | assumption | intro _ | apply onPower_sound | apply put_sound | simp only [sound_mk_iff]

theorem halfShow_sound {s : State} (h0 : s.Sound) : (halfShow s).Sound := by
  unfold halfShow
  with_reducible repeat' first | assumption | intro _ | apply sound_ite | apply put_sound | dsimp only

theorem halfEnd_sound {s : State} {c} (h0 : s.Sound) : (halfEnd s c).Sound := by
  unfold halfEnd
  with_reducible repeat' first
    | assumption | intro _ | apply log_sound | apply halfShow_sound | apply onPower_sound | simp only [sound_mk_iff]

theorem halfFall_sound {s : State} {c} (h0 : s.Sound) : (halfFall s c).Sound := by
  unfold halfFall
  with_reducible repeat' first
    | assumption | intro _ | apply sound_foldl | apply sound_ite | apply sound_foldl_fst | apply onPower_sound
    | apply rampStart_sound | apply halfEnd_sound | dsimp only | simp only [sound_mk_iff]

theorem halfGate_sound {s : State} (h0 : s.Sound) : (halfGate s).Sound := by
  unfold halfGate
  with_reducible repeat' first
    | assumption | intro _ | apply sound_ite | apply halfFall_sound | apply onPower_sound | dsimp only | split
    | simp only [sound_mk_iff]

theorem halfWait_sound {s : State} {c} (h0 : s.Sound) : (halfWait s c).Sound := by
  unfold halfWait
  with_reducible repeat' first
    | assumption | intro _ | apply sound_ite | apply onPower_sound | apply halfGate_sound | dsimp only
    | simp only [sound_mk_iff]

theorem halfBegin_sound {s : State} {split} (h0 : s.Sound) : (halfBegin s split).Sound := by
  unfold halfBegin
  with_reducible repeat' first
    | assumption | intro _ | apply sound_foldl | apply sound_ite | apply sound_foldl_fst | apply halfShow_sound
    | apply onPower_sound | apply rampStart_sound | apply halfWait_sound | dsimp only | simp only [sound_mk_iff]

theorem rampDone_sound {s : State} {rail} (h0 : s.Sound) : (rampDone s rail).Sound := by
  unfold rampDone
  with_reducible repeat' first
    | assumption | intro _ | apply sound_ite | apply rampDrop_sound | apply halfWait_sound | apply halfEnd_sound
    | dsimp only | split | simp only [sound_mk_iff]

theorem rampFault_sound {s : State} {r} (h0 : s.Sound) : (rampFault s r).Sound := by
  unfold rampFault
  with_reducible repeat' first
    | assumption | intro _ | apply sound_ite | apply put_sound | apply rampDrop_sound | apply pmbSend_sound
    | apply log_sound | apply halfShow_sound | apply onPower_sound | dsimp only | split | simp only [sound_mk_iff]

theorem pllRelock_sound {s : State} {h1} (h0 : s.Sound) : (pllRelock s h1).Sound := by
  unfold pllRelock
  with_reducible repeat' first
    | assumption | intro _ | apply sound_ite | apply onPower_sound | apply halfFall_sound | dsimp only | split
    | simp only [sound_mk_iff]

theorem turnAway_sound {s : State} {direct reason index sub a} (h0 : s.Sound) :
    (turnAway s direct reason index sub a).Sound := by
  unfold turnAway
  with_reducible repeat' first
    | assumption | intro _ | apply sound_ite | apply deny_sound | apply log_sound | apply onPower_sound
    | simp only [sound_mk_iff]

theorem halfRequest_sound {s : State} {split direct} (h0 : s.Sound) : (halfRequest s split direct).Sound := by
  unfold halfRequest
  with_reducible repeat' first
    | assumption | intro _ | apply sound_ite | apply turnAway_sound | apply put_sound | apply halfBegin_sound
    | dsimp only

theorem clockWrite_sound {s : State} {h1 mhz direct} (h0 : s.Sound) : (clockWrite s h1 mhz direct).Sound := by
  unfold clockWrite
  with_reducible repeat' first
    | assumption | intro _ | apply sound_ite | apply turnAway_sound | apply put_sound | apply halfBegin_sound
    | dsimp only

theorem voutPoll_sound {s : State} {rail mv fault} (h0 : s.Sound) : (voutPoll s rail mv fault).Sound := by
  unfold voutPoll
  with_reducible repeat' first
    | assumption | intro _ | apply sound_ite | apply put_sound | apply rampDone_sound | dsimp only | split
    | simp only [sound_mk_iff]

theorem confirmTimeout_sound {s : State} {rail} (h0 : s.Sound) : (confirmTimeout s rail).Sound := by
  unfold confirmTimeout
  with_reducible repeat' first
    | assumption | intro _ | apply sound_getD | apply rampFault_sound | apply reach_sound | split
    | simp only [sound_mk_iff]

theorem fallNext_sound {s : State} (h0 : s.Sound) : (fallNext s).Sound := by
  unfold fallNext
  with_reducible repeat' first
    | assumption | intro _ | apply pmbSend_sound | apply onPower_sound | split | simp only [sound_mk_iff]

theorem powerLoss_sound {s : State} {aon} (h : s.Sound) : (powerLoss s aon).Sound :=
  sound_cleared h rfl rfl rfl (.inr rfl) (.inr rfl) (.inr rfl) (.inr rfl)

theorem coreLoss_sound {s : State} (h : s.Sound) : (coreLoss s).Sound :=
  sound_cleared h rfl rfl rfl (.inl rfl) (.inl rfl) (.inl rfl) (.inl rfl)

theorem offEntered_sound {s : State} (h0 : s.Sound) : (offEntered s).Sound := by
  unfold offEntered
  with_reducible repeat' first
    | assumption | intro _ | apply put_sound | apply put64_sound | apply powerLoss_sound | dsimp only

theorem stateEnter_sound {s : State} {old new} (h0 : s.Sound) : (stateEnter s old new).Sound := by
  unfold stateEnter
  with_reducible repeat' first
    | assumption | intro _ | apply sound_ite | apply log_sound | apply onPower_sound | apply put_sound
    | apply offEntered_sound | apply coreLoss_sound | dsimp only | simp only [sound_mk_iff]

theorem selfRefresh_sound {s : State} (h0 : s.Sound) : (selfRefresh s).Sound := by
  unfold selfRefresh
  with_reducible repeat' first
    | assumption | intro _ | apply sound_foldl | apply sound_foldl_fst | apply pageCopied_sound | apply put_sound
    | dsimp only

theorem fallBegin_sound {s : State} {dest rails} (h0 : s.Sound) : (fallBegin s dest rails).Sound := by
  unfold fallBegin
  with_reducible repeat' first
    | assumption | intro _ | apply sound_ite | apply put_sound | apply onPower_sound | apply stateEnter_sound
    | apply fallNext_sound | dsimp only | simp only [sound_mk_iff]

theorem egressHold_sound {s : State} (h0 : s.Sound) : (egressHold s).Sound := by
  unfold egressHold
  with_reducible repeat' first
    | assumption | intro _ | apply guardScan_sound | apply onPower_sound | simp only [sound_mk_iff]

theorem offBegin_sound {s : State} (h0 : s.Sound) : (offBegin s).Sound := by
  unfold offBegin
  with_reducible repeat' first
    | assumption | intro _ | apply sound_ite | apply egressHold_sound | apply sealWrite_sound | apply fallBegin_sound
    | apply selfRefresh_sound | dsimp only

theorem tripOff_sound {s : State} {cause rail} (h0 : s.Sound) : (tripOff s cause rail).Sound := by
  unfold tripOff
  with_reducible repeat' first
    | assumption | intro _ | apply put64_sound | apply put_sound | apply onPower_sound | apply offBegin_sound
    | dsimp only | split | simp only [sound_mk_iff]

theorem pgFall_sound {s : State} {rail} (h0 : s.Sound) : (pgFall s rail).Sound := by
  unfold pgFall
  with_reducible repeat' first
    | assumption | intro _ | apply sound_ite | apply onPower_sound | apply put_sound | apply stateEnter_sound
    | apply fallNext_sound | apply reach_sound | dsimp only | split | simp only [sound_mk_iff]

theorem pgLoss_sound {s : State} {rail} (h0 : s.Sound) : (pgLoss s rail).Sound := by
  unfold pgLoss
  with_reducible repeat' first | assumption | intro _ | apply sound_ite | apply tripOff_sound | apply put_sound

theorem stateFault_sound {s : State} (h0 : s.Sound) : (stateFault s).Sound := by
  unfold stateFault
  with_reducible repeat' first
    | assumption | intro _ | apply put_sound | apply onPower_sound | apply log_sound | dsimp only | split
    | simp only [sound_mk_iff]

theorem pmbDone_sound {s : State} {ok data} (h0 : s.Sound) : (pmbDone s ok data).Sound := by
  unfold pmbDone
  with_reducible repeat' first
    | assumption | intro _ | apply sound_ite | apply onPower_sound | apply put_sound | apply rampFault_sound
    | apply stateFault_sound | dsimp only | split | simp only [sound_mk_iff]

theorem governor_sound {s : State} {power withheld} (h0 : s.Sound) : (governor s power withheld).Sound := by
  unfold governor
  with_reducible repeat' first
    | assumption | intro _ | apply sound_ite | apply reach_sound | apply onPower_sound | apply put_sound
    | apply log_sound | dsimp only | simp only [sound_mk_iff]

theorem governorCorrect_sound {s : State} {reads} (h0 : s.Sound) : (governorCorrect s reads).Sound := by
  unfold governorCorrect
  with_reducible repeat' first
    | assumption | intro _ | apply sound_foldl | apply sound_foldl_fst | apply sound_foldl_snd | apply sound_ite_snd
    | apply put_sound | apply onPower_sound | dsimp only | simp only [sound_mk_iff]

theorem withheldClose_sound {s : State} (h0 : s.Sound) : (withheldClose s).Sound := by
  unfold withheldClose
  with_reducible repeat' first | assumption | intro _ | apply onPower_sound | apply put_sound | simp only [sound_mk_iff]

theorem thermalSample_sound {s : State} {west east} (h0 : s.Sound) : (thermalSample s west east).Sound := by
  unfold thermalSample
  with_reducible repeat' first
    | assumption | intro _ | apply sound_ite | apply put_sound | apply put64_sound | apply onPower_sound
    | apply countObj_sound | apply tripOff_sound | dsimp only | simp only [sound_mk_iff]

theorem throttleShow_sound {s : State} (h0 : s.Sound) : (throttleShow s).Sound := by
  unfold throttleShow
  with_reducible repeat' first
    | assumption | intro _ | apply sound_ite | apply halfShow_sound | apply put_sound | dsimp only

theorem throttleSet_sound {s : State} {h1 k} (h0 : s.Sound) : (throttleSet s h1 k).Sound := by
  unfold throttleSet
  with_reducible repeat' first
    | assumption | intro _ | apply sound_ite | apply throttleShow_sound | apply onPower_sound | apply log_sound
    | dsimp only | split | simp only [sound_mk_iff]

theorem throttleStep_sound {s : State} {h1} (h0 : s.Sound) : (throttleStep s h1).Sound := by
  unfold throttleStep
  with_reducible repeat' first
    | assumption | intro _ | apply sound_ite | apply throttleSet_sound | apply reach_sound | dsimp only | split
    | simp only [sound_mk_iff]

theorem execCoreClockWrite_sound {half mhz direct} {s : State} (h3 : s.Sound) :
    ResultSound (execCoreClockWrite half mhz direct s) := by
  unfold execCoreClockWrite
  with_reducible repeat' first | assumption | apply done_sound | intro _ | apply clockWrite_sound

theorem execHalfClockRequest_sound {split direct} {s : State} (h2 : s.Sound) :
    ResultSound (execHalfClockRequest split direct s) := by
  unfold execHalfClockRequest
  with_reducible repeat' first | assumption | apply done_sound | intro _ | apply halfRequest_sound

theorem execRailVoutPoll_sound {rail mv fault} {s : State} (h3 : s.Sound) :
    ResultSound (execRailVoutPoll rail mv fault s) := by
  unfold execRailVoutPoll
  with_reducible repeat' first | assumption | apply done_sound | intro _ | apply voutPoll_sound

theorem execRailConfirmTimeout_sound {rail} {s : State} (h1 : s.Sound) :
    ResultSound (execRailConfirmTimeout rail s) := by
  unfold execRailConfirmTimeout
  with_reducible repeat' first | assumption | apply done_sound | intro _ | apply confirmTimeout_sound

theorem execPmbRawTransaction_sound {value} {s : State} (h1 : s.Sound) :
    ResultSound (execPmbRawTransaction value s) := by
  unfold execPmbRawTransaction
  with_reducible repeat' first | assumption | apply done_sound | intro _ | apply pmbRaw_sound

theorem execPmbTransactionDone_sound {ok data} {s : State} (h2 : s.Sound) :
    ResultSound (execPmbTransactionDone ok data s) := by
  unfold execPmbTransactionDone
  with_reducible repeat' first | assumption | apply done_sound | intro _ | apply pmbDone_sound

theorem execRailPgLoss_sound {rail} {s : State} (h1 : s.Sound) : ResultSound (execRailPgLoss rail s) := by
  unfold execRailPgLoss
  with_reducible repeat' first | assumption | apply done_sound | intro _ | apply pgLoss_sound

theorem execRailPowerGoodFall_sound {rail} {s : State} (h1 : s.Sound) : ResultSound (execRailPowerGoodFall rail s) := by
  unfold execRailPowerGoodFall
  with_reducible repeat' first | assumption | apply done_sound | intro _ | apply pgFall_sound

theorem execGovernorInterval_sound {power withheld} {s : State} (h2 : s.Sound) :
    ResultSound (execGovernorInterval power withheld s) := by
  unfold execGovernorInterval
  with_reducible repeat' first | assumption | apply done_sound | intro _ | apply governor_sound

theorem execGovernorCorrection_sound {reads} {s : State} (h1 : s.Sound) :
    ResultSound (execGovernorCorrection reads s) := by
  unfold execGovernorCorrection
  with_reducible repeat' first | assumption | apply done_sound | intro _ | apply governorCorrect_sound

theorem execThermalSample_sound {west east} {s : State} (h2 : s.Sound) :
    ResultSound (execThermalSample west east s) := by
  unfold execThermalSample
  with_reducible repeat' first | assumption | apply done_sound | intro _ | apply thermalSample_sound

theorem execThrottleStep_sound {half} {s : State} (h1 : s.Sound) : ResultSound (execThrottleStep half s) := by
  unfold execThrottleStep
  with_reducible repeat' first | assumption | apply done_sound | intro _ | apply throttleStep_sound

end Sys2Proof.Machine.State
end

