-- ==== Sys2Proof/Laws/Sound/Objects.lean ====
section
/-! SUPPORT. Each operation of `Sys2Proof/Machine/Objects.lean` gives a sound state on a sound state. -/

namespace Sys2Proof.Machine.State

set_option linter.unusedTactic false
set_option linter.unreachableTactic false

theorem cdPut_sound {s : State} {q d lo len v} (h0 : s.Sound) : (cdPut s q d lo len v).Sound := by
  unfold cdPut
  with_reducible repeat' first | assumption | intro _ | apply put_sound

theorem reschedule_sound {s : State} {q d period phase} (h0 : s.Sound) : (reschedule s q d period phase).Sound := by
  unfold reschedule
  with_reducible repeat' first | assumption | intro _ | apply put_sound | apply cdPut_sound | dsimp only

theorem rescheduleCkpt_sound {s : State} {k} (h0 : s.Sound) : (rescheduleCkpt s k).Sound := by
  unfold rescheduleCkpt
  with_reducible repeat' first
    | assumption | intro _ | apply sound_foldl | apply sound_foldl_fst | apply sound_foldl_snd | apply sound_ite_snd
    | apply reschedule_sound

theorem rescheduleObs_sound {s : State} {k} (h0 : s.Sound) : (rescheduleObs s k).Sound := by
  unfold rescheduleObs
  with_reducible repeat' first
    | assumption | intro _ | apply sound_foldl | apply sound_foldl_fst | apply sound_foldl_snd | apply sound_ite_snd
    | apply cdPut_sound | apply reschedule_sound

theorem rescheduleWb_sound {s : State} {proj v} (h0 : s.Sound) : (rescheduleWb s proj v).Sound := by
  unfold rescheduleWb
  with_reducible repeat' first
    | assumption | intro _ | apply sound_foldl | apply sound_foldl_fst | apply sound_foldl_snd | apply sound_ite_snd
    | apply reschedule_sound

theorem objStore_sound {s : State} {index sub item v} (h0 : s.Sound) : (objStore s index sub item v).Sound := by
  unfold objStore
  with_reducible repeat' first
    | assumption | intro _ | apply sound_foldl | apply sound_foldl_fst | apply put64_sound | apply setObj_sound
    | apply put_sound | split | simp only [sound_mk_iff]

theorem objApply_sound {s : State} {index sub item v} (h0 : s.Sound) : (objApply s index sub item v).Sound := by
  unfold objApply
  with_reducible repeat' first
    | assumption | intro _ | apply sound_foldl | apply sound_ite | apply sound_foldl_fst | apply sound_foldl_snd
    | apply sound_ite_snd | apply setObj_sound | apply onStreams_sound | apply rescheduleCkpt_sound
    | apply rescheduleObs_sound | apply put_sound | apply rescheduleWb_sound | apply podViolation_sound
    | apply objStore_sound | apply ctxEnable_sound | apply ctxDisable_sound | dsimp only | split
    | simp only [sound_mk_iff]

theorem withStaged_sound {s : State} {l} (h0 : s.Sound) : (withStaged s l).Sound := by
  unfold withStaged
  with_reducible repeat' first | assumption | intro _ | apply sound_foldl | apply sound_foldl_fst | apply objApply_sound

theorem keepWrite_sound {s : State} {index sub item v} (h0 : s.Sound) : (keepWrite s index sub item v).Sound := by
  unfold keepWrite
  with_reducible repeat' first | assumption | intro _ | apply sound_ite | dsimp only | simp only [sound_mk_iff]

theorem stage_sound {s : State} {x1} (h0 : s.Sound) : ∀ t, stage s x1 = some t → t.Sound := by
  unfold stage
  with_reducible repeat' first
    | assumption | exact sound_none | refine sound_some ?_ | intro (_ : State) (_ : State.Sound _) _ | apply sound_ite
    | apply setObj_sound | dsimp only | intro (_ : State) (_ : State.Sound _) | split | simp only [sound_mk_iff]

theorem stageClear_sound {s : State} (h0 : s.Sound) : (stageClear s).Sound := by
  unfold stageClear
  with_reducible repeat' first | assumption | intro _ | apply setObj_sound | simp only [sound_mk_iff]

theorem commit_sound {s : State} (h0 : s.Sound) : (commit s).1.Sound := by
  unfold commit
  with_reducible repeat' first
    | assumption | intro _ | apply sound_foldl | apply sound_ite | apply sound_ite_fst | apply sound_foldl_fst
    | apply withStaged_sound | apply stageClear_sound | apply setObj_sound | apply keepWrite_sound
    | apply objApply_sound | dsimp only | split | simp only [sound_mk_iff]

theorem stagedLaunch_sound {s : State} {t} (h0 : s.Sound) : (stagedLaunch s t).Sound := by
  unfold stagedLaunch
  with_reducible repeat' first
    | assumption | intro _ | apply sound_foldl | apply sound_foldl_fst | apply keepWrite_sound | apply objApply_sound
    | dsimp only | simp only [sound_mk_iff]

theorem commitRun_sound {s : State} (h0 : s.Sound) : (commitRun s).Sound := by
  unfold commitRun
  with_reducible repeat' first
    | assumption | intro _ | apply commit_sound | apply deny_sound | split | refine sound_fst ?_ (by assumption)
    | simp only [sound_mk_iff]

theorem execCommitStaged_sound {s : State} (h0 : s.Sound) : ResultSound (execCommitStaged s) := by
  unfold execCommitStaged
  with_reducible repeat' first | assumption | apply done_sound | intro _ | apply commitRun_sound

theorem execDiscardStaged_sound {s : State} (h0 : s.Sound) : ResultSound (execDiscardStaged s) := by
  unfold execDiscardStaged
  with_reducible repeat' first | assumption | apply done_sound | intro _ | apply stageClear_sound

end Sys2Proof.Machine.State
end

