-- ==== Sys2Proof/Laws/Sound/Remap.lean ====
section
/-! SUPPORT. Each operation of `Sys2Proof/Machine/Remap.lean` gives a sound state on a sound state. -/

namespace Sys2Proof.Machine.State

set_option linter.unusedTactic false
set_option linter.unreachableTactic false

theorem mcSet_sound {s : State} {r g pri sec d} (h0 : s.Sound) : (mcSet s r g pri sec d).Sound := by
  unfold mcSet
  with_reducible repeat' first | assumption | intro _ | apply sound_ite | apply onMesh_sound | simp only [sound_mk_iff]

theorem mcPort_sound {s : State} {r g p on} (h0 : s.Sound) : (mcPort s r g p on).Sound := by
  unfold mcPort
  with_reducible repeat' first | assumption | intro _ | apply sound_ite | apply mcSet_sound | dsimp only | split

theorem mcRecount_sound {s : State} {g root} (h0 : s.Sound) : (mcRecount s g root).Sound := by
  unfold mcRecount
  with_reducible repeat' first | assumption | intro _ | apply sound_foldl | apply sound_foldl_fst | apply mcSet_sound

theorem graftVia_sound {s : State} {g root leaf xFirst} (h0 : s.Sound) :
    ∀ t, graftVia s g root leaf xFirst = some t → t.Sound := by
  unfold graftVia
  with_reducible repeat' first
    | assumption | exact sound_none | refine sound_some ?_ | refine sound_map ?_ ?_
    | intro (_ : State) (_ : State.Sound _) _ | apply sound_foldl | apply sound_ite | apply sound_foldl_fst
    | apply mcPort_sound | dsimp only | split | intro (_ : State) (_ : State.Sound _) | simp only [sound_mk_iff]

theorem graft_sound {s : State} {g root leaf} (h0 : s.Sound) : ∀ t, graft s g root leaf = some t → t.Sound := by
  unfold graft
  with_reducible repeat' first
    | assumption | exact sound_none | refine sound_some ?_ | refine graftVia_sound ?_ | refine sound_or ?_ ?_
    | intro (_ : State) (_ : State.Sound _) _ | intro (_ : State) (_ : State.Sound _) | split
    | refine graftVia_sound ?_ _ (by assumption)

theorem mcPrune_sound {s : State} {g fuel r : Nat} (h : s.Sound) : (mcPrune s g fuel r).Sound := by
  induction fuel generalizing s r with
  | zero => exact h
  | succ n ih =>
    unfold mcPrune
    split
    · exact h
    · split
      · exact ih (mcPort_sound h)
      · exact h

theorem leafMove_sound {s : State} {g r} (h0 : s.Sound) : ∀ t, leafMove s g r = some t → t.Sound := by
  unfold leafMove
  with_reducible repeat' first
    | assumption | exact sound_none | refine sound_some ?_ | refine graft_sound ?_ | refine sound_map ?_ ?_
    | intro (_ : State) (_ : State.Sound _) _ | apply sound_ite | apply mcPrune_sound | apply mcPort_sound
    | apply mcRecount_sound | dsimp only | split | intro (_ : State) (_ : State.Sound _)
    | refine graft_sound ?_ _ (by assumption) | simp only [sound_mk_iff]

theorem branchRebuild_sound {s : State} {g r} (h : s.Sound) : ∀ t, branchRebuild s g r = some t → t.Sound := by
  unfold branchRebuild
  refine sound_map (sound_foldl_opt _ (sound_some ?_) fun o ho a => ?_) fun x hx => mcRecount_sound hx
  · exact sound_foldl _ (sound_foldl _ h fun _ hx _ => mcPort_sound hx) fun _ hx _ => mcSet_sound hx
  · exact sound_bind ho fun x hx => graft_sound hx

theorem treesRebuild_sound {s : State} (h : s.Sound) : (treesRebuild s).Sound := by
  unfold treesRebuild
  split
  · exact h
  · exact onFault_sound (sound_foldl _ h fun x hx k => sound_ite (sound_getD (branchRebuild_sound hx) hx) hx)

theorem reRootVia_sound {s : State} {g old new xFirst} (h0 : s.Sound) :
    ∀ t, reRootVia s g old new xFirst = some t → t.Sound := by
  unfold reRootVia
  with_reducible repeat' first
    | assumption | exact sound_none | refine sound_some ?_ | intro (_ : State) (_ : State.Sound _) _ | apply sound_foldl
    | apply sound_ite | apply sound_foldl_fst | apply mcRecount_sound | apply mcPort_sound | dsimp only | split
    | intro (_ : State) (_ : State.Sound _) | simp only [sound_mk_iff]

theorem reRoot_sound {s : State} {g old new} (h0 : s.Sound) : ∀ t, reRoot s g old new = some t → t.Sound := by
  unfold reRoot
  with_reducible repeat' first
    | assumption | exact sound_none | refine sound_some ?_ | refine reRootVia_sound ?_ | refine sound_or ?_ ?_
    | intro (_ : State) (_ : State.Sound _) _ | intro (_ : State) (_ : State.Sound _) | split
    | refine reRootVia_sound ?_ _ (by assumption)

theorem remapFail_sound {s : State} {ltile tile} (h0 : s.Sound) : (remapFail s ltile tile).Sound := by
  unfold remapFail
  with_reducible repeat' first
    | assumption | intro _ | apply put_sound | apply log_sound | apply progEnd_sound | apply onFault_sound | dsimp only
    | simp only [sound_mk_iff]

theorem restoreArm_sound {s : State} {ltile spare area} (h0 : s.Sound) : (restoreArm s ltile spare area).Sound := by
  unfold restoreArm
  with_reducible repeat' first
    | assumption | intro _ | apply sound_foldl | apply sound_ite | apply sound_foldl_fst | apply sound_foldl_snd
    | apply sound_ite_snd | apply put_sound | dsimp only

theorem restoreIdle_sound {s : State} {spare} (h0 : s.Sound) : (restoreIdle s spare).Sound := by
  unfold restoreIdle
  with_reducible repeat' first
    | assumption | intro _ | apply sound_foldl | apply sound_foldl_fst | apply sound_foldl_snd | apply sound_ite_snd
    | apply put_sound | apply copyEnd_sound

theorem remapArm_sound {s : State} {ltile tile began fail} (h0 : s.Sound) :
    (remapArm s ltile tile began fail).Sound := by
  unfold remapArm
  with_reducible repeat' first
    | assumption | intro _ | apply sound_ite | apply put_sound | apply restoreArm_sound | apply progStart_sound
    | apply onFault_sound | apply remapFail_sound | apply log_sound | dsimp only | split | simp only [sound_mk_iff]

theorem remapStart_sound {s : State} {ltile} (h0 : s.Sound) : (remapStart s ltile).Sound := by
  unfold remapStart
  with_reducible repeat' first
    | assumption | intro _ | apply sound_ite | apply put_sound | apply onFault_sound | apply remapArm_sound
    | apply fence_sound | apply log_sound | dsimp only | split | simp only [sound_mk_iff]

theorem restore_sound {s : State} {m} (h0 : s.Sound) : (restore s m).Sound := by
  unfold restore
  with_reducible repeat' first
    | assumption | intro _ | apply sound_foldl | apply sound_getD | apply sound_foldl_fst | apply sound_foldl_snd
    | apply sound_ite_snd | apply wrBytes_sound | apply setReg_sound | dsimp only | split

theorem restoreDone_sound {s : State} (h0 : s.Sound) : (restoreDone s).Sound := by
  unfold restoreDone
  with_reducible repeat' first
    | assumption | intro _ | apply sound_ite | apply restoreIdle_sound | apply remapArm_sound | apply onFault_sound
    | apply progEnd_sound | apply put_sound | apply restore_sound | dsimp only | split | simp only [sound_mk_iff]

theorem lttPut_sound {s : State} {base c v} (h0 : s.Sound) : (lttPut s base c v).Sound := by
  unfold lttPut
  with_reducible repeat' first | assumption | intro _ | apply put_sound

theorem idMove_sound {s : State} {m} (h0 : s.Sound) : (idMove s m).Sound := by
  unfold idMove
  with_reducible repeat' first
    | assumption | intro _ | apply sound_foldl | apply sound_foldl_fst | apply lttPut_sound | dsimp only

theorem entriesDrop_sound {s : State} {p n pick} (h0 : s.Sound) : (entriesDrop s p n pick).Sound := by
  unfold entriesDrop
  with_reducible repeat' first
    | assumption | intro _ | apply sound_foldl | apply sound_ite | apply sound_foldl_fst | apply wrLe_sound
    | apply wr8_sound | dsimp only | split

theorem cloneWrite_sound {s : State} {m orig i slot} (h0 : s.Sound) : (cloneWrite s m orig i slot).Sound := by
  unfold cloneWrite
  with_reducible repeat' first
    | assumption | intro _ | apply entriesDrop_sound | apply wrBytes_sound | apply wrLe_sound | apply put_sound
    | dsimp only | split

theorem treesMove_sound {s : State} {m ranges} (h : s.Sound) : ∀ t, treesMove s m ranges = some t → t.Sound := by
  unfold treesMove
  refine sound_map (sound_foldl_opt _ (sound_foldl_opt _ (sound_foldl_opt _ (sound_some h) ?_) ?_) ?_)
    fun x hx => treesRebuild_sound hx
  · exact fun o ho g => sound_bind ho fun x hx => leafMove_sound hx
  · exact fun o ho g => sound_bind ho fun x hx => sound_map (graft_sound hx) fun y hy => mcRecount_sound hy
  · refine fun o ho g => sound_bind ho fun x hx => ?_
    split
    · exact sound_some hx
    · exact reRoot_sound hx

theorem accZero_sound {s : State} {t} (h0 : s.Sound) : (accZero s t).Sound := by
  unfold accZero
  with_reducible repeat' first
    | assumption | intro _ | apply sound_foldl | apply sound_ite | apply sound_foldl_fst | apply wrBytes_sound
    | dsimp only

theorem queuesMove_sound {s : State} {t} (h0 : s.Sound) : (queuesMove s t).Sound := by
  unfold queuesMove
  with_reducible repeat' first
    | assumption | intro _ | apply sound_foldl | apply sound_ite | apply sound_foldl_fst | apply qput_sound
    | apply openTx_sound | apply resetRx_sound | dsimp only

theorem switchOver_sound {s : State} {m} (h0 : s.Sound) : ∀ t, switchOver s m = some t → t.Sound := by
  unfold switchOver
  with_reducible repeat' first
    | assumption | exact sound_none | refine sound_some ?_ | refine treesMove_sound ?_ | refine sound_map ?_ ?_
    | intro (_ : State) (_ : State.Sound _) _ | apply sound_foldl | apply sound_foldl_fst | apply sound_foldl_snd
    | apply sound_ite_snd | apply entriesDrop_sound | apply idMove_sound | apply cloneWrite_sound
    | apply queuesMove_sound | apply accZero_sound | apply onFault_sound | dsimp only
    | intro (_ : State) (_ : State.Sound _) | split | refine treesMove_sound ?_ _ (by assumption)
    | simp only [sound_mk_iff]

theorem execRemapStart_sound {ltile} {s : State} (h1 : s.Sound) : ResultSound (execRemapStart ltile s) := by
  unfold execRemapStart
  with_reducible repeat' first | assumption | apply done_sound | intro _ | apply remapStart_sound

theorem execRemapRestoreDone_sound {s : State} (h0 : s.Sound) : ResultSound (execRemapRestoreDone s) := by
  unfold execRemapRestoreDone
  with_reducible repeat' first | assumption | apply done_sound | intro _ | apply restoreDone_sound

end Sys2Proof.Machine.State
end

