-- ==== Sys2Proof/Laws/Sound/Scan.lean ====
section
/-! SUPPORT. Each operation of `Sys2Proof/Machine/Scan.lean` gives a sound state on a sound state. -/

namespace Sys2Proof.Machine.State

set_option linter.unusedTactic false
set_option linter.unreachableTactic false

/-- Soundness of a scan through a fold. -/
theorem sound_foldl_scan {α : Type} {f : Scan → α → Scan} {x : Scan} (l : List α) (h : x.st.Sound)
    (hf : ∀ x : Scan, x.st.Sound → ∀ a, (f x a).st.Sound) : (l.foldl f x).st.Sound := by
  induction l generalizing x with
  | nil => exact h
  | cons a r ih => exact ih (hf x h a)

theorem scanNeuron_sound {t x1 bad j slot} {a : Scan} {k} (h5 : a.st.Sound) :
    (scanNeuron t x1 bad j slot a k).st.Sound := by
  unfold scanNeuron
  with_reducible repeat' first | assumption | intro _ | apply sound_ite | apply wrLe_sound | dsimp only | split

theorem emit_sound {s : State} {t records} (h0 : s.Sound) : (emit s t records).Sound := by
  unfold emit
  with_reducible repeat' first
    | assumption | intro _ | apply onMesh_sound | apply raiseTo_sound | dsimp only | simp only [sound_mk_iff]

theorem tap.one_sound {s : State} {t addr rs} (h : s.Sound) : (tap.one t addr s rs).Sound := by
  have he := engineSend_sound (u := t) (addr := addr) (body := s.launched % 2 ^ 32 + packRecords rs * 2 ^ 32) h
  unfold tap.one
  dsimp only
  split
  · exact raise_sound (count_sound he)
  · exact raise_sound (count_sound he)
  · exact he

theorem tap_sound {s : State} {t addr : Nat} {l : List Nat} (h : s.Sound) : (tap s t addr l).Sound := by
  fun_induction tap s t addr l with
  | case1 => exact h
  | case2 => exact tap.one_sound h
  | case3 s r q rest ih => exact ih (tap.one_sound h)



theorem modAdd_sound {s : State} {t n records} (h0 : s.Sound) : (modAdd s t n records).Sound := by
  unfold modAdd
  with_reducible repeat' first
    | assumption | intro _ | apply sound_foldl | apply sound_ite | apply sound_foldl_fst | apply onDelivery_sound
    | dsimp only | simp only [sound_mk_iff]

theorem traceSpikes_sound {s : State} {t n fuel : Nat} {l : List Nat} (h : s.Sound) :
    (traceSpikes s t n fuel l).Sound := by
  induction fuel generalizing s l with
  | zero => exact h
  | succ k ih =>
    cases l with
    | nil => exact h
    | cons r rs => exact ih (trace_sound h)

theorem traceMembrane_sound {s : State} {t n x3} (h0 : s.Sound) : (traceMembrane s t n x3).Sound := by
  unfold traceMembrane
  with_reducible repeat' first
    | assumption | intro _ | apply sound_foldl | apply sound_ite | apply sound_foldl_fst | apply trace_sound
    | dsimp only | split

theorem scanPass_sound {s : State} {t n x3 bad j slot} (h0 : s.Sound) : (scanPass s t n x3 bad j slot).1.Sound := by
  unfold scanPass
  with_reducible repeat' first
    | assumption | intro _ | apply sound_foldl | apply sound_ite | apply sound_ite_fst | apply sound_foldl_fst
    | apply scanNeuron_sound | apply emit_sound | apply tap_sound | apply modAdd_sound | apply traceSpikes_sound
    | apply sound_foldl_scan | dsimp only | split

theorem scanContext_sound {s : State} {t n x3 bad z} (h0 : s.Sound) : (scanContext s t n x3 bad z).1.Sound := by
  unfold scanContext
  with_reducible repeat' first
    | assumption | intro _ | apply sound_foldl | apply sound_ite | apply sound_ite_fst | apply sound_foldl_fst
    | apply scanPass_sound | apply put_sound | apply count_sound | apply onDelivery_sound | apply traceMembrane_sound
    | dsimp only | split | refine sound_fst ?_ (by assumption) | simp only [sound_mk_iff]

theorem scanTile_sound {s : State} {t ecc} (h0 : s.Sound) : (scanTile s t ecc).Sound := by
  unfold scanTile
  with_reducible repeat' first
    | assumption | intro _ | apply sound_foldl | apply sound_foldl_fst | apply sound_foldl_snd | apply sound_ite_snd
    | apply tileHit_sound | apply scanContext_sound | apply countOp_sound | apply add64_sound | apply put_sound
    | dsimp only | split | refine sound_fst ?_ (by assumption)

theorem remapResume_sound {s : State} {t} (h0 : s.Sound) : (remapResume s t).Sound := by
  unfold remapResume
  with_reducible repeat' first
    | assumption | intro _ | apply sound_ite | apply put_sound | apply log_sound | apply countObj_sound
    | apply setObj_sound | dsimp only | split | simp only [sound_mk_iff]

theorem neuronScan_sound {s : State} {t ecc} (h0 : s.Sound) : (neuronScan s t ecc).Sound := by
  unfold neuronScan
  with_reducible repeat' first
    | assumption | intro _ | apply sound_ite | apply drainDead_sound | apply raise_sound | apply scanTile_sound
    | apply onDelivery_sound | apply remapResume_sound | dsimp only | split | simp only [sound_mk_iff]

theorem execNeuronScan_sound {tile ecc} {s : State} (h2 : s.Sound) : ResultSound (execNeuronScan tile ecc s) := by
  unfold execNeuronScan
  with_reducible repeat' first | assumption | apply done_sound | intro _ | apply neuronScan_sound

end Sys2Proof.Machine.State
end

