-- ==== Sys2Proof/Laws/Sound/Tierlink.lean ====
section
/-! SUPPORT. Each operation of `Sys2Proof/Machine/Tierlink.lean` gives a sound state on a sound state. -/

namespace Sys2Proof.Machine.State

set_option linter.unusedTactic false
set_option linter.unreachableTactic false

theorem setTlk_sound {s : State} {n x2} (h0 : s.Sound) : (setTlk s n x2).Sound := by
  unfold setTlk
  with_reducible repeat' first | assumption | intro _ | simp only [sound_mk_iff]

theorem onTlk_sound {s : State} {n f} (h0 : s.Sound) : (onTlk s n f).Sound := by
  unfold onTlk
  with_reducible repeat' first | assumption | intro _ | apply setTlk_sound

theorem tlkEnter_sound {s : State} {n st} (h0 : s.Sound) : (tlkEnter s n st).Sound := by
  unfold tlkEnter
  with_reducible repeat' first
    | assumption | intro _ | apply sound_ite | apply raise_sound | apply put_sound | apply onTlk_sound | dsimp only
    | simp only [sound_mk_iff]

theorem tlkLock_sound {s : State} {n} (h0 : s.Sound) : (tlkLock s n).Sound := by
  unfold tlkLock
  with_reducible repeat' first
    | assumption | intro _ | apply onTlk_sound | apply tlkEnter_sound | simp only [sound_mk_iff]

theorem tlkRetrain_sound {s : State} {n} (h0 : s.Sound) : (tlkRetrain s n).Sound := by
  unfold tlkRetrain
  with_reducible repeat' first | assumption | intro _ | apply tlkLock_sound | apply log_sound | apply count_sound

theorem flitOut_sound {s : State} {n bs} (h0 : s.Sound) : (flitOut s n bs).Sound := by
  unfold flitOut
  with_reducible repeat' first | assumption | intro _ | apply emitOut_sound

theorem packetOut_sound {s : State} {n p} (h0 : s.Sound) : (packetOut s n p).Sound := by
  unfold packetOut
  with_reducible repeat' first | assumption | intro _ | apply emitOut_sound

theorem tlkSendNow_sound {s : State} {n cls flits} (h0 : s.Sound) : (tlkSendNow s n cls flits).Sound := by
  unfold tlkSendNow
  with_reducible repeat' first
    | assumption | intro _ | apply put_sound | apply packetOut_sound | apply onTlk_sound | dsimp only
    | simp only [sound_mk_iff]

theorem tlkPump_sound {s : State} {n} (h0 : s.Sound) : (tlkPump s n).Sound := by
  unfold tlkPump
  with_reducible repeat' first
    | assumption | intro _ | apply sound_foldl | apply sound_ite | apply sound_foldl_fst | apply tlkSendNow_sound
    | apply onTlk_sound | dsimp only | split | simp only [sound_mk_iff]

theorem tlkSend_sound {s : State} {n cls flits} (h0 : s.Sound) : (tlkSend s n cls flits).Sound := by
  unfold tlkSend
  with_reducible repeat' first
    | assumption | intro _ | apply tlkPump_sound | apply onTlk_sound | simp only [sound_mk_iff]

theorem tlkResend_sound {s : State} {n seq} (h0 : s.Sound) : (tlkResend s n seq).Sound := by
  unfold tlkResend
  with_reducible repeat' first
    | assumption | intro _ | apply sound_foldl | apply sound_ite | apply sound_foldl_fst | apply packetOut_sound
    | dsimp only

theorem tlkReplay_sound {s : State} {n seq} (h0 : s.Sound) : (tlkReplay s n seq).Sound := by
  unfold tlkReplay
  with_reducible repeat' first
    | assumption | intro _ | apply sound_ite | apply raise_sound | apply count_sound | apply onTlk_sound
    | apply tlkResend_sound | apply tlkRetrain_sound | dsimp only | simp only [sound_mk_iff]

theorem tlkAck_sound {s : State} {n seq} (h0 : s.Sound) : (tlkAck s n seq).Sound := by
  unfold tlkAck
  with_reducible repeat' first
    | assumption | intro _ | apply sound_ite | apply tlkPump_sound | apply onTlk_sound | dsimp only
    | simp only [sound_mk_iff]

theorem tlkNak_sound {s : State} {n seq} (h0 : s.Sound) : (tlkNak s n seq).Sound := by
  unfold tlkNak
  with_reducible repeat' first | assumption | intro _ | apply tlkReplay_sound | apply tlkAck_sound

theorem tlkCredited_sound {s : State} {n c} (h0 : s.Sound) : (tlkCredited s n c).Sound := by
  unfold tlkCredited
  with_reducible repeat' first
    | assumption | intro _ | apply sound_foldl | apply sound_getD | apply sound_foldl_fst | apply tlkPump_sound
    | apply onTlk_sound | simp only [sound_mk_iff]

theorem tlkHold_sound {s : State} {n} (h0 : s.Sound) : (tlkHold s n).Sound := by
  unfold tlkHold
  with_reducible repeat' first | assumption | intro _ | apply put_sound

theorem tlkPip_sound {s : State} {n} (h0 : s.Sound) : (tlkPip s n).Sound := by
  unfold tlkPip
  with_reducible repeat' first
    | assumption | intro _ | apply sound_ite | apply tlkSendNow_sound | apply onMesh_sound | apply tlkHold_sound
    | apply add64_sound | dsimp only | split | simp only [sound_mk_iff]

theorem pipIn_sound {s : State} {n p} (h0 : s.Sound) : (pipIn s n p).Sound := by
  unfold pipIn
  with_reducible repeat' first
    | assumption | intro _ | apply sound_ite | apply addR_sound | apply add64_sound | apply forward_sound
    | apply onMesh_sound | dsimp only | simp only [sound_mk_iff]

theorem msgIn_sound {s : State} {n p} (h0 : s.Sound) : (msgIn s n p).Sound := by
  unfold msgIn
  with_reducible repeat' first
    | assumption | intro _ | apply sound_ite | apply accept_sound | apply applyCredit_sound | apply count_sound
    | dsimp only

theorem ackOut_sound {s : State} {n kind seq reason} (h0 : s.Sound) : (ackOut s n kind seq reason).Sound := by
  unfold ackOut
  with_reducible repeat' first | assumption | intro _ | apply flitOut_sound

theorem creditOut_sound {s : State} {n} (h0 : s.Sound) : (creditOut s n).Sound := by
  unfold creditOut
  with_reducible repeat' first | assumption | intro _ | apply flitOut_sound

theorem packetUse_sound {s : State} {n cls flits} (h0 : s.Sound) : (packetUse s n cls flits).Sound := by
  unfold packetUse
  with_reducible repeat' first
    | assumption | intro _ | apply sound_foldl | apply sound_foldl_fst | apply creditOut_sound | apply onTlk_sound
    | apply pipIn_sound | apply msgIn_sound | dsimp only | split | simp only [sound_mk_iff]

theorem packetTake_sound {s : State} {n header flits codeError} (h0 : s.Sound) :
    (packetTake s n header flits codeError).Sound := by
  unfold packetTake
  with_reducible repeat' first
    | assumption | intro _ | apply sound_ite | apply ackOut_sound | apply count_sound | apply packetUse_sound
    | apply put_sound | dsimp only | split

theorem packetIn_sound {s : State} {n header flits codeError} (h0 : s.Sound) :
    (packetIn s n header flits codeError).Sound := by
  unfold packetIn
  with_reducible repeat' first
    | assumption | intro _ | apply sound_ite | apply sound_getD | apply injected_sound | apply packetTake_sound
    | apply onTlk_sound | dsimp only | split | simp only [sound_mk_iff]

theorem tsOut_sound {s : State} {n} (h0 : s.Sound) : (tsOut s n).Sound := by
  unfold tsOut
  with_reducible repeat' first
    | assumption | intro _ | apply sound_ite | apply sound_getD | apply flitOut_sound | dsimp only

theorem tlkTrain_sound {s : State} {n} (h0 : s.Sound) : (tlkTrain s n).Sound := by
  unfold tlkTrain
  with_reducible repeat' first
    | assumption | intro _ | apply sound_ite | apply sound_getD | apply tsOut_sound | apply onTlk_sound
    | apply tlkEnter_sound | simp only [sound_mk_iff]

theorem tlkActive_sound {s : State} {n} (h0 : s.Sound) : (tlkActive s n).Sound := by
  unfold tlkActive
  with_reducible repeat' first
    | assumption | intro _ | apply sound_foldl | apply sound_ite | apply sound_getD | apply sound_foldl_fst
    | apply onTlk_sound | apply tlkEnter_sound | apply put_sound | apply tlkPump_sound | apply tlkResend_sound
    | apply tlkAck_sound | apply count_sound | apply raise_sound | apply endSpike_sound | apply tlkHold_sound
    | apply onMesh_sound | apply setReg_sound | apply log_sound | apply endSession_sound | dsimp only
    | simp only [sound_mk_iff]

theorem tlkTs_sound {s : State} {n f} (h0 : s.Sound) : (tlkTs s n f).Sound := by
  unfold tlkTs
  with_reducible repeat' first
    | assumption | intro _ | apply sound_foldl | apply sound_ite | apply sound_foldl_fst | apply tlkRetrain_sound
    | apply onTlk_sound | apply tsOut_sound | apply put64_sound | apply put_sound | apply tlkActive_sound | dsimp only
    | split | simp only [sound_mk_iff]

theorem laneFail_sound {s : State} {n lane} (h0 : s.Sound) : (laneFail s n lane).Sound := by
  unfold laneFail
  with_reducible repeat' first
    | assumption | intro _ | apply sound_ite | apply fileReport_sound | dsimp only | simp only [sound_mk_iff]

theorem headerLock_sound {s : State} {n lanes} (h0 : s.Sound) : (headerLock s n lanes).Sound := by
  unfold headerLock
  with_reducible repeat' first
    | assumption | intro _ | apply sound_foldl | apply sound_ite | apply sound_foldl_fst | apply tlkEnter_sound
    | apply put_sound | apply laneFail_sound | apply log_sound | dsimp only

theorem tlkTimeout_sound {s : State} {n} (h0 : s.Sound) : (tlkTimeout s n).Sound := by
  unfold tlkTimeout
  with_reducible repeat' first
    | assumption | intro _ | apply sound_ite | apply log_sound | apply put_sound | apply tlkEnter_sound
    | apply onTlk_sound | apply tlkLock_sound | dsimp only | simp only [sound_mk_iff]

theorem tlkEnable_sound {s : State} {n} (h0 : s.Sound) : (tlkEnable s n).Sound := by
  unfold tlkEnable
  with_reducible repeat' first
    | assumption | intro _ | apply sound_ite | apply put_sound | apply onTlk_sound | apply tlkLock_sound | dsimp only
    | simp only [sound_mk_iff]

theorem sleepFlit_sound {s : State} {n} (h0 : s.Sound) : (sleepFlit s n).Sound := by
  unfold sleepFlit
  with_reducible repeat' first | assumption | intro _ | apply sound_ite | apply tlkEnter_sound | apply flitOut_sound

theorem sleepReq_sound {s : State} {n} (h0 : s.Sound) : (sleepReq s n).Sound := by
  unfold sleepReq
  with_reducible repeat' first
    | assumption | intro _ | apply sound_ite | apply onTlk_sound | apply flitOut_sound | simp only [sound_mk_iff]

theorem tlkWake_sound {s : State} {n} (h0 : s.Sound) : (tlkWake s n).Sound := by
  unfold tlkWake
  with_reducible repeat' first
    | assumption | intro _ | apply sound_ite | apply wakeSeen_sound | apply tlkLock_sound | dsimp only

theorem controlTake_sound {s : State} {n f} (h0 : s.Sound) : (controlTake s n f).Sound := by
  unfold controlTake
  with_reducible repeat' first
    | assumption | intro _ | apply sound_ite | apply count_sound | apply tlkAck_sound | apply tlkNak_sound
    | apply tlkCredited_sound | apply tlkTrain_sound | apply tlkTs_sound | apply sleepFlit_sound | split
    | simp only [sound_mk_iff]

theorem execTlkControlFlit_sound {port flit} {s : State} (h2 : s.Sound) :
    ResultSound (execTlkControlFlit port flit s) := by
  unfold execTlkControlFlit
  with_reducible repeat' first | assumption | apply done_sound | intro _ | apply controlTake_sound

theorem execTlkPacketReceive_sound {port header flits codeError} {s : State} (h4 : s.Sound) :
    ResultSound (execTlkPacketReceive port header flits codeError s) := by
  unfold execTlkPacketReceive
  with_reducible repeat' first | assumption | apply done_sound | intro _ | apply packetIn_sound

theorem execTlkAckReceive_sound {port seq} {s : State} (h2 : s.Sound) : ResultSound (execTlkAckReceive port seq s) := by
  unfold execTlkAckReceive
  with_reducible repeat' first | assumption | apply done_sound | intro _ | apply tlkAck_sound

theorem execTlkNakReceive_sound {port seq} {s : State} (h2 : s.Sound) : ResultSound (execTlkNakReceive port seq s) := by
  unfold execTlkNakReceive
  with_reducible repeat' first | assumption | apply done_sound | intro _ | apply tlkNak_sound

theorem execTlkReplayTimeout_sound {port} {s : State} (h1 : s.Sound) : ResultSound (execTlkReplayTimeout port s) := by
  unfold execTlkReplayTimeout
  with_reducible repeat' first | assumption | apply done_sound | intro _ | apply sound_getD | apply tlkReplay_sound

theorem execTlkCreditReceive_sound {port counters} {s : State} (h2 : s.Sound) :
    ResultSound (execTlkCreditReceive port counters s) := by
  unfold execTlkCreditReceive
  with_reducible repeat' first | assumption | apply done_sound | intro _ | apply tlkCredited_sound

theorem execTlkTransmitPip_sound {port} {s : State} (h1 : s.Sound) : ResultSound (execTlkTransmitPip port s) := by
  unfold execTlkTransmitPip
  with_reducible repeat' first | assumption | apply done_sound | intro _ | apply tlkPip_sound

theorem execTlkTsReceive_sound {port flit} {s : State} (h2 : s.Sound) : ResultSound (execTlkTsReceive port flit s) := by
  unfold execTlkTsReceive
  with_reducible repeat' first | assumption | apply done_sound | intro _ | apply tlkTs_sound

theorem execTlkStateTimeout_sound {port} {s : State} (h1 : s.Sound) : ResultSound (execTlkStateTimeout port s) := by
  unfold execTlkStateTimeout
  with_reducible repeat' first | assumption | apply done_sound | intro _ | apply tlkTimeout_sound

theorem execTlkMarkLoss_sound {port} {s : State} (h1 : s.Sound) : ResultSound (execTlkMarkLoss port s) := by
  unfold execTlkMarkLoss
  with_reducible repeat' first | assumption | apply done_sound | intro _ | apply sound_ite | apply tlkRetrain_sound

theorem execTlkRetrain_sound {port} {s : State} (h1 : s.Sound) : ResultSound (execTlkRetrain port s) := by
  unfold execTlkRetrain
  with_reducible repeat' first
    | assumption | apply done_sound | apply sound_ite_result | intro _ | apply sound_ite | apply tlkLock_sound
    | apply tlkRetrain_sound | split | simp only [sound_mk_iff]

theorem execTlkEnable_sound {port} {s : State} (h1 : s.Sound) : ResultSound (execTlkEnable port s) := by
  unfold execTlkEnable
  with_reducible repeat' first | assumption | apply done_sound | intro _ | apply tlkEnable_sound

theorem execTlkSleepReq_sound {port} {s : State} (h1 : s.Sound) : ResultSound (execTlkSleepReq port s) := by
  unfold execTlkSleepReq
  with_reducible repeat' first | assumption | apply done_sound | intro _ | apply sleepReq_sound

theorem execTlkWakeDetect_sound {port} {s : State} (h1 : s.Sound) : ResultSound (execTlkWakeDetect port s) := by
  unfold execTlkWakeDetect
  with_reducible repeat' first | assumption | apply done_sound | intro _ | apply tlkWake_sound

theorem execSyncHeaderLock_sound {port lanes} {s : State} (h2 : s.Sound) :
    ResultSound (execSyncHeaderLock port lanes s) := by
  unfold execSyncHeaderLock
  with_reducible repeat' first | assumption | apply done_sound | intro _ | apply headerLock_sound

theorem execSyncHeaderErrors_sound {port} {s : State} (h1 : s.Sound) : ResultSound (execSyncHeaderErrors port s) := by
  unfold execSyncHeaderErrors
  with_reducible repeat' first | assumption | apply done_sound | intro _ | apply sound_ite | apply tlkRetrain_sound

end Sys2Proof.Machine.State
end

