-- ==== Sys2Proof/Laws/Sound/StepClock.lean ====
section
/-! SUPPORT. Each operation of `Sys2Proof/Machine/StepClock.lean` gives a sound state on a sound state. -/

namespace Sys2Proof.Machine.State

set_option linter.unusedTactic false
set_option linter.unreachableTactic false

theorem onClock_sound {s : State} {f} (h0 : s.Sound) : (onClock s f).Sound := by
  unfold onClock
  with_reducible repeat' first | assumption | intro _ | simp only [sound_mk_iff]

theorem setPhase_sound {s : State} {p} (h0 : s.Sound) : (setPhase s p).Sound := by
  unfold setPhase
  with_reducible repeat' first | assumption | intro _ | apply put_sound

theorem syncSend_sound {s : State} {port flits} (h0 : s.Sound) : (syncSend s port flits).Sound := by
  unfold syncSend
  with_reducible repeat' first | assumption | intro _ | apply tlkSend_sound

theorem toWorkers_sound {s : State} {flit} (h0 : s.Sound) : (toWorkers s flit).Sound := by
  unfold toWorkers
  with_reducible repeat' first | assumption | intro _ | apply sound_foldl | apply sound_foldl_fst | apply syncSend_sound

theorem attach_sound {s : State} (h0 : s.Sound) : (attach s).Sound := by
  unfold attach
  with_reducible repeat' first
    | assumption | intro _ | apply sound_foldl | apply sound_foldl_fst | apply onClock_sound | apply msix_sound
    | apply put_sound | simp only [sound_mk_iff]

theorem switchSent_sound {s : State} (h0 : s.Sound) : (switchSent s).Sound := by
  unfold switchSent
  with_reducible repeat' first | assumption | intro _ | apply sound_ite | apply put_sound | simp only [sound_mk_iff]

theorem arm_sound {s : State} {l ls ph} (h0 : s.Sound) : (arm s l ls ph).Sound := by
  unfold arm
  with_reducible repeat' first
    | assumption | intro _ | apply onClock_sound | apply setPhase_sound | apply put64_sound | apply switchSent_sound
    | apply attach_sound | apply placeHeld_sound | apply toWorkers_sound | dsimp only | simp only [sound_mk_iff]

theorem haltNow_sound {s : State} (h0 : s.Sound) : (haltNow s).Sound := by
  unfold haltNow
  with_reducible repeat' first
    | assumption | intro _ | apply onClock_sound | apply put64_sound | apply setPhase_sound | apply put_sound
    | simp only [sound_mk_iff]

theorem winBase_sound {s : State} {base} (h0 : s.Sound) : (winBase s base).Sound := by
  unfold winBase
  with_reducible repeat' first
    | assumption | intro _ | apply sound_foldl | apply sound_ite | apply sound_foldl_fst | apply put64_sound
    | dsimp only

theorem freshBase_sound {s : State} (h0 : s.Sound) : (freshBase s).Sound := by
  unfold freshBase
  with_reducible repeat' first
    | assumption | intro _ | apply sound_ite | apply onClock_sound | apply winBase_sound | simp only [sound_mk_iff]

theorem stepRun_sound {s : State} (h0 : s.Sound) : (stepRun s).Sound := by
  unfold stepRun
  with_reducible repeat' first
    | assumption | intro _ | apply sound_ite | apply put_sound | apply onHub_sound | apply put64_sound
    | apply freshBase_sound | apply arm_sound | apply onClock_sound | dsimp only | split | simp only [sound_mk_iff]

theorem stepHalt_sound {s : State} (h0 : s.Sound) : (stepHalt s).Sound := by
  unfold stepHalt
  with_reducible repeat' first
    | assumption | intro _ | apply sound_ite | apply put_sound | apply haltNow_sound | apply setPhase_sound
    | apply onClock_sound | simp only [sound_mk_iff]

theorem countsStart_sound {s : State} {t} (h0 : s.Sound) : (countsStart s t).Sound := by
  unfold countsStart
  with_reducible repeat' first
    | assumption | intro _ | apply onMesh_sound | dsimp only | split | simp only [sound_mk_iff]

theorem launchCore_sound {s : State} (h0 : s.Sound) : (launchCore s).Sound := by
  unfold launchCore
  with_reducible repeat' first
    | assumption | intro _ | apply sound_foldl | apply sound_foldl_fst | apply delayDrain_sound | apply reach_sound
    | apply onClock_sound | apply put_sound | apply setPhase_sound | apply put64_sound | apply countsStart_sound
    | apply onDelivery_sound | apply setReg_sound | apply traceMarker_sound | apply hubLaunch_sound
    | apply stageLaunch_sound | apply startCopies_sound | apply streamsLaunch_sound | dsimp only
    | simp only [sound_mk_iff]

theorem updateBroadcast_sound {s : State} {forced} (h0 : s.Sound) : (updateBroadcast s forced).Sound := by
  unfold updateBroadcast
  with_reducible repeat' first
    | assumption | intro _ | apply sound_scanRegs | apply sound_foldl | apply sound_ite | apply sound_foldl_fst
    | apply setPhase_sound | apply unionBuild_sound | apply winBegin_sound | apply startCopies_sound
    | apply sweepGenerate_sound | apply toWorkers_sound | dsimp only | simp only [sound_mk_iff]

theorem declareQuiescence_sound {s : State} (h0 : s.Sound) : (declareQuiescence s).Sound := by
  unfold declareQuiescence
  with_reducible repeat' first
    | assumption | intro _ | apply sound_ite | apply put_sound | apply raise_sound | apply count_sound
    | apply updateBroadcast_sound | apply onClock_sound | dsimp only | simp only [sound_mk_iff]

theorem forceClose_sound {s : State} {stretch} (h0 : s.Sound) : (forceClose s stretch).Sound := by
  unfold forceClose
  with_reducible repeat' first
    | assumption | intro _ | apply sound_foldl | apply sound_ite | apply sound_foldl_fst | apply cutTile_sound
    | apply windowCut_sound | apply put_sound | apply count_sound | apply copiesCut_sound | apply raise_sound
    | apply updateBroadcast_sound | apply onClock_sound | dsimp only | simp only [sound_mk_iff]

theorem waveEnd_sound {s : State} {e r idle} (h0 : s.Sound) : (waveEnd s e r idle).Sound := by
  unfold waveEnd
  with_reducible repeat' first
    | assumption | intro _ | apply sound_ite | apply declareQuiescence_sound | apply onClock_sound | dsimp only | split
    | simp only [sound_mk_iff]

theorem quiescenceWave_sound {s : State} (h0 : s.Sound) : (quiescenceWave s).Sound := by
  unfold quiescenceWave
  with_reducible repeat' first
    | assumption | intro _ | apply sound_foldl | apply sound_ite | apply sound_foldl_fst | apply sound_foldl_snd
    | apply sound_ite_snd | apply drainDead_sound | apply onClock_sound | apply waveEnd_sound | apply toWorkers_sound
    | dsimp only | simp only [sound_mk_iff]

theorem deadlineClose_sound {s : State} (h0 : s.Sound) : (deadlineClose s).Sound := by
  unfold deadlineClose
  with_reducible repeat' first | assumption | intro _ | apply sound_ite | apply forceClose_sound | apply reach_sound

theorem stretchClose_sound {s : State} (h0 : s.Sound) : (stretchClose s).Sound := by
  unfold stretchClose
  with_reducible repeat' first | assumption | intro _ | apply sound_ite | apply forceClose_sound | apply reach_sound

theorem watchdogFire_sound {s : State} (h0 : s.Sound) : (watchdogFire s).Sound := by
  unfold watchdogFire
  with_reducible repeat' first
    | assumption | intro _ | apply sound_ite | apply reach_sound | apply onClock_sound | apply put_sound
    | apply setPhase_sound | apply haltNow_sound | apply halfGate_sound | apply raise_sound | apply log_sound
    | dsimp only | simp only [sound_mk_iff]

theorem snapshots_sound {s : State} {step} (h0 : s.Sound) : (snapshots s step).Sound := by
  unfold snapshots
  with_reducible repeat' first
    | assumption | intro _ | apply sound_foldl | apply sound_ite | apply sound_foldl_fst | apply wrBytes_sound
    | dsimp only

theorem phaseRecords_sound {s : State} {step} (h0 : s.Sound) : (phaseRecords s step).Sound := by
  unfold phaseRecords
  with_reducible repeat' first
    | assumption | intro _ | apply sound_foldl | apply sound_ite | apply sound_foldl_fst | apply useFree_sound
    | apply trace_sound

theorem standbyArm_sound {s : State} {step} (h0 : s.Sound) : (standbyArm s step).Sound := by
  unfold standbyArm
  with_reducible repeat' first | assumption | intro _ | apply sound_ite | apply setObj_sound | split

theorem switchBegin_sound {s : State} (h0 : s.Sound) : (switchBegin s).Sound := by
  unfold switchBegin
  with_reducible repeat' first
    | assumption | intro _ | apply onClock_sound | apply put_sound | apply setPhase_sound | simp only [sound_mk_iff]

theorem afterClose_sound {s : State} {ended} (h0 : s.Sound) : (afterClose s ended).Sound := by
  unfold afterClose
  with_reducible repeat' first
    | assumption | intro _ | apply sound_ite | apply haltNow_sound | apply switchBegin_sound | apply arm_sound
    | apply log_sound | apply put_sound | apply count_sound | apply raise_sound | apply put64_sound | dsimp only

theorem doneOut_sound {s : State} {sums} (h0 : s.Sound) : (doneOut s sums).Sound := by
  unfold doneOut
  with_reducible repeat' first | assumption | intro _ | apply syncSend_sound

theorem closeStep_sound {s : State} (h0 : s.Sound) : (closeStep s).Sound := by
  unfold closeStep
  with_reducible repeat' first
    | assumption | intro _ | apply sound_ite | apply put64_sound | apply onMesh_sound | apply put_sound
    | apply log_sound | apply modClose_sound | apply modSettle_sound | apply gatherRecords_sound | apply halfGate_sound
    | apply gather_sound | apply withheldClose_sound | apply guardClose_sound | apply hubClose_sound
    | apply obsAbandon_sound | apply standbyArm_sound | apply phaseRecords_sound | apply snapshots_sound
    | apply raise_sound | apply msix_sound | apply treesRebuild_sound | apply onClock_sound | apply doneOut_sound
    | apply switchBegin_sound | apply setPhase_sound | apply afterClose_sound | dsimp only | simp only [sound_mk_iff]

theorem stepClose_sound {s : State} (h0 : s.Sound) : (stepClose s).Sound := by
  unfold stepClose
  with_reducible repeat' first | assumption | intro _ | apply sound_ite | apply closeStep_sound

theorem remapSwitch_sound {s : State} (h0 : s.Sound) : (remapSwitch s).Sound := by
  unfold remapSwitch
  with_reducible repeat' first
    | assumption | intro _ | apply sound_ite | apply remapArm_sound | apply remapFail_sound | apply onFault_sound
    | apply put_sound | apply spareUsed_sound | apply log_sound | apply setObj_sound | apply forceClose_sound
    | dsimp only | split | refine switchOver_sound ?_ _ (by assumption) | simp only [sound_mk_iff]

theorem execStepHalt_sound {s : State} (h0 : s.Sound) : ResultSound (execStepHalt s) := by
  unfold execStepHalt
  with_reducible repeat' first | assumption | apply done_sound | intro _ | apply stepHalt_sound

theorem execQuiescenceWave_sound {s : State} (h0 : s.Sound) : ResultSound (execQuiescenceWave s) := by
  unfold execQuiescenceWave
  with_reducible repeat' first | assumption | apply done_sound | intro _ | apply quiescenceWave_sound

theorem execStepClose_sound {s : State} (h0 : s.Sound) : ResultSound (execStepClose s) := by
  unfold execStepClose
  with_reducible repeat' first | assumption | apply done_sound | intro _ | apply stepClose_sound

theorem execDeadlineForcedClose_sound {s : State} (h0 : s.Sound) : ResultSound (execDeadlineForcedClose s) := by
  unfold execDeadlineForcedClose
  with_reducible repeat' first | assumption | apply done_sound | intro _ | apply deadlineClose_sound

theorem execStretchLimitClose_sound {s : State} (h0 : s.Sound) : ResultSound (execStretchLimitClose s) := by
  unfold execStretchLimitClose
  with_reducible repeat' first | assumption | apply done_sound | intro _ | apply stretchClose_sound

theorem execFreeRunWatchdogFire_sound {s : State} (h0 : s.Sound) : ResultSound (execFreeRunWatchdogFire s) := by
  unfold execFreeRunWatchdogFire
  with_reducible repeat' first | assumption | apply done_sound | intro _ | apply watchdogFire_sound

theorem execRemapSwitch_sound {s : State} (h0 : s.Sound) : ResultSound (execRemapSwitch s) := by
  unfold execRemapSwitch
  with_reducible repeat' first | assumption | apply done_sound | intro _ | apply remapSwitch_sound

end Sys2Proof.Machine.State
end

