-- ==== Sys2Proof/Laws/Sound/Images.lean ====
section
/-! SUPPORT. Each operation of `Sys2Proof/Machine/Images.lean` gives a sound state on a sound state. -/

namespace Sys2Proof.Machine.State

set_option linter.unusedTactic false
set_option linter.unreachableTactic false

theorem reply_sound {s : State} {t abort data} (h0 : s.Sound) : (reply s t abort data).Sound := by
  unfold reply
  with_reducible repeat' first | assumption | intro _ | simp only [sound_mk_iff]

theorem conflict_sound {s : State} {reason index sub} (h0 : s.Sound) : (conflict s reason index sub).Sound := by
  unfold conflict
  with_reducible repeat' first | assumption | intro _ | apply reply_sound | apply deny_sound

theorem lowRole_sound {s : State} {index sub} (h0 : s.Sound) : (lowRole s index sub).Sound := by
  unfold lowRole
  with_reducible repeat' first | assumption | intro _ | apply reply_sound | apply refusal_sound

theorem auditWrite_sound {s : State} {slot index sub old new} (h0 : s.Sound) :
    (auditWrite s slot index sub old new).Sound := by
  unfold auditWrite
  with_reducible repeat' first | assumption | intro _ | apply audit_sound

theorem imagesShow_sound {s : State} (h0 : s.Sound) : (imagesShow s).Sound := by
  unfold imagesShow
  with_reducible repeat' first | assumption | intro _ | apply sound_getD | apply setObj_sound | dsimp only | split

theorem setImage_sound {s : State} {x1} (h0 : s.Sound) : (setImage s x1).Sound := by
  unfold setImage
  with_reducible repeat' first | assumption | intro _ | apply imagesShow_sound | split | simp only [sound_mk_iff]

theorem imageLoad_sound {s : State} {slot sub info source length crc} (h0 : s.Sound) :
    (imageLoad s slot sub info source length crc).Sound := by
  unfold imageLoad
  with_reducible repeat' first
    | assumption | intro _ | apply sound_ite | apply lowRole_sound | apply conflict_sound | apply setImage_sound
    | apply log_sound | apply reply_sound | dsimp only | simp only [sound_mk_iff]

theorem loadFlash_sound {s : State} {slot e info} (h0 : s.Sound) : (loadFlash s slot e info).Sound := by
  unfold loadFlash
  with_reducible repeat' first | assumption | intro _ | apply imageLoad_sound | dsimp only

theorem loadDram_sound {s : State} {slot a info} (h0 : s.Sound) : (loadDram s slot a info).Sound := by
  unfold loadDram
  with_reducible repeat' first | assumption | intro _ | apply imageLoad_sound

theorem imageUnload_sound {s : State} {slot} (h0 : s.Sound) : (imageUnload s slot).Sound := by
  unfold imageUnload
  with_reducible repeat' first
    | assumption | intro _ | apply sound_ite | apply lowRole_sound | apply conflict_sound | apply reply_sound
    | apply imagesShow_sound | dsimp only | split | simp only [sound_mk_iff]

theorem switchSave_sound {s : State} (h0 : s.Sound) : (switchSave s).Sound := by
  unfold switchSave
  with_reducible repeat' first
    | assumption | intro _ | apply setImage_sound | dsimp only | split | simp only [sound_mk_iff]

theorem delayLevels_sound {s : State} (h0 : s.Sound) : (delayLevels s).Sound := by
  unfold delayLevels
  with_reducible repeat' first
    | assumption | intro _ | apply sound_foldl | apply sound_foldl_fst | apply put_sound | apply dsLevel_sound

theorem switchClear_sound {s : State} (h : s.Sound) : (switchClear s).Sound := by
  unfold switchClear
  exact onStreams_sound (onDelivery_sound (onMesh_sound ((sound_both_filter h).congr rfl rfl rfl rfl rfl rfl rfl)))

theorem place_sound {s : State} {a} (h0 : s.Sound) : (place s a).Sound := by
  unfold place
  with_reducible repeat' first
    | assumption | intro _ | apply setReg_sound | apply wrBytes_sound | apply onMesh_sound | apply put_sound | split

theorem unretain_sound {s : State} {r} (h0 : s.Sound) : (unretain s r).Sound := by
  unfold unretain
  with_reducible repeat' first
    | assumption | intro _ | apply sound_mem_filter | apply sound_mem_store | apply sound_both_filter
    | apply sound_foldl | apply sound_foldl_fst | apply sound_foldl_snd | apply sound_ite_snd | apply setReg_sound
    | apply onMesh_sound | apply onDelivery_sound | dsimp only | simp only [sound_mk_iff]

theorem imageSettings_sound {s : State} {x1} (h0 : s.Sound) : (imageSettings s x1).Sound := by
  unfold imageSettings
  with_reducible repeat' first | assumption | intro _ | apply put_sound

theorem slotsSwap_sound {s : State} (h0 : s.Sound) : (slotsSwap s).Sound := by
  unfold slotsSwap
  with_reducible repeat' first
    | assumption | intro _ | apply swapRequest_sound | apply checkEnd_sound | apply checkStart_sound
    | apply standbyWritten_sound

theorem weightsBack_sound {s : State} (h0 : s.Sound) : (weightsBack s).Sound := by
  unfold weightsBack
  with_reducible repeat' first
    | assumption | intro _ | apply sound_foldl | apply sound_foldl_fst | apply sound_foldl_snd | apply sound_ite_snd
    | apply wrBytes_sound | dsimp only | split

theorem slotsReload_sound {s : State} {old : State} (h0 : s.Sound) (h1 : old.Sound) : (slotsReload s old).Sound := by
  unfold slotsReload
  with_reducible repeat' first | assumption | intro _ | apply sound_foldl | apply sound_foldl_fst | apply put_sound

theorem switchLoad_sound {s : State} {i} (h0 : s.Sound) : (switchLoad s i).Sound := by
  unfold switchLoad
  with_reducible repeat' first
    | assumption | intro _ | apply sound_foldl | apply sound_ite | apply sound_foldl_fst | apply switchClear_sound
    | apply setImage_sound | apply place_sound | apply unretain_sound | apply onClock_sound | apply winBase_sound
    | apply slotsReload_sound | apply weightsBack_sound | apply slotsSwap_sound | apply learnLoad_sound
    | apply put64_sound | apply imageSettings_sound | apply delayLevels_sound | apply objApply_sound | dsimp only
    | split | simp only [sound_mk_iff]

theorem switchEnd_sound {s : State} (h0 : s.Sound) : (switchEnd s).Sound := by
  unfold switchEnd
  with_reducible repeat' first
    | assumption | intro _ | apply onClock_sound | apply put_sound | apply raise_sound | apply log_sound | dsimp only
    | simp only [sound_mk_iff]

theorem switchRefuse_sound {s : State} {reason} (h0 : s.Sound) : (switchRefuse s reason).Sound := by
  unfold switchRefuse
  with_reducible repeat' first | assumption | intro _ | apply conflict_sound | apply put_sound

theorem switchAccept_sound {s : State} {w} (h0 : s.Sound) : (switchAccept s w).Sound := by
  unfold switchAccept
  with_reducible repeat' first
    | assumption | intro _ | apply sound_ite | apply onClock_sound | apply put_sound | apply switchBegin_sound
    | dsimp only | simp only [sound_mk_iff]

theorem switchWithdraw_sound {s : State} (h0 : s.Sound) : (switchWithdraw s).Sound := by
  unfold switchWithdraw
  with_reducible repeat' first
    | assumption | intro _ | apply sound_ite | apply onClock_sound | apply put_sound | apply setPhase_sound | dsimp only
    | simp only [sound_mk_iff]

theorem switchNow_sound {s : State} {w} (h0 : s.Sound) : (switchNow s w).Sound := by
  unfold switchNow
  with_reducible repeat' first
    | assumption | intro _ | apply sound_ite | apply switchSave_sound | apply switchEnd_sound | apply switchLoad_sound
    | dsimp only

theorem switchVote_sound {s : State} {w} (h0 : s.Sound) : (switchVote s w).Sound := by
  unfold switchVote
  with_reducible repeat' first
    | assumption | intro _ | apply onClock_sound | apply put_sound | apply toWorkers_sound | dsimp only
    | simp only [sound_mk_iff]

theorem switchRequest_sound {s : State} (h0 : s.Sound) : (switchRequest s).Sound := by
  unfold switchRequest
  with_reducible repeat' first
    | assumption | intro _ | apply sound_ite | apply put_sound | apply switchRefuse_sound | apply reply_sound
    | apply switchNow_sound | apply switchVote_sound | apply useFree_sound | apply switchAccept_sound | dsimp only
    | simp only [sound_mk_iff]

theorem voteFail_sound {s : State} {reason} (h0 : s.Sound) : (voteFail s reason).Sound := by
  unfold voteFail
  with_reducible repeat' first
    | assumption | intro _ | apply toWorkers_sound | apply onClock_sound | apply switchRefuse_sound | split
    | simp only [sound_mk_iff]

theorem voteTimeout_sound {s : State} {n} (h0 : s.Sound) : (voteTimeout s n).Sound := by
  unfold voteTimeout
  with_reducible repeat' first
    | assumption | intro _ | apply sound_ite | apply voteFail_sound | apply reach_sound | split
    | simp only [sound_mk_iff]

theorem voteTake_sound {s : State} {n reason} (h0 : s.Sound) : (voteTake s n reason).Sound := by
  unfold voteTake
  with_reducible repeat' first
    | assumption | intro _ | apply sound_ite | apply voteFail_sound | apply switchNow_sound | apply onClock_sound
    | apply useFree_sound | apply switchAccept_sound | dsimp only | split | simp only [sound_mk_iff]

theorem switchDone_sound {s : State} (h0 : s.Sound) : (switchDone s).Sound := by
  unfold switchDone
  with_reducible repeat' first
    | assumption | intro _ | apply sound_ite | apply switchSave_sound | apply switchEnd_sound | apply put_sound
    | apply switchLoad_sound | apply haltNow_sound | apply setPhase_sound | apply arm_sound | dsimp only | split
    | simp only [sound_mk_iff]

theorem execImageLoadFlash_sound {slot entry info} {s : State} (h3 : s.Sound) :
    ResultSound (execImageLoadFlash slot entry info s) := by
  unfold execImageLoadFlash
  with_reducible repeat' first
    | assumption | apply done_sound | intro _ | apply loadFlash_sound | apply touchSlot_sound | apply auditWrite_sound
    | dsimp only

theorem execImageLoadDram_sound {slot addr info} {s : State} (h3 : s.Sound) :
    ResultSound (execImageLoadDram slot addr info s) := by
  unfold execImageLoadDram
  with_reducible repeat' first
    | assumption | apply done_sound | intro _ | apply loadDram_sound | apply touchSlot_sound | apply auditWrite_sound
    | dsimp only

theorem execImageUnload_sound {slot} {s : State} (h1 : s.Sound) : ResultSound (execImageUnload slot s) := by
  unfold execImageUnload
  with_reducible repeat' first
    | assumption | apply done_sound | intro _ | apply auditWrite_sound | apply imageUnload_sound | apply touchSlot_sound

theorem execSwitchRequest_sound {s : State} (h0 : s.Sound) : ResultSound (execSwitchRequest s) := by
  unfold execSwitchRequest
  with_reducible repeat' first | assumption | apply done_sound | intro _ | apply switchRequest_sound

theorem execSwitchVoteTimeout_sound {worker} {s : State} (h1 : s.Sound) :
    ResultSound (execSwitchVoteTimeout worker s) := by
  unfold execSwitchVoteTimeout
  with_reducible repeat' first | assumption | apply done_sound | intro _ | apply voteTimeout_sound

theorem execImageSwitchLoadDone_sound {s : State} (h0 : s.Sound) : ResultSound (execImageSwitchLoadDone s) := by
  unfold execImageSwitchLoadDone
  with_reducible repeat' first | assumption | apply done_sound | intro _ | apply switchDone_sound

end Sys2Proof.Machine.State
end

