-- ==== Sys2Proof/Laws/Sound/Firmware.lean ====
section
/-! SUPPORT. Each operation of `Sys2Proof/Machine/Firmware.lean` gives a sound state on a sound state. -/

namespace Sys2Proof.Machine.State

set_option linter.unusedTactic false
set_option linter.unreachableTactic false

theorem onFw_sound {s : State} {f} (h0 : s.Sound) : (onFw s f).Sound := by
  unfold onFw
  with_reducible repeat' first | assumption | intro _ | simp only [sound_mk_iff]

theorem dirWrite_sound {s : State} {active trial prev} (h0 : s.Sound) : (dirWrite s active trial prev).Sound := by
  unfold dirWrite
  with_reducible repeat' first
    | assumption | intro _ | apply sound_ite | apply rawBytes_sound | apply setObj_sound | apply put_sound | dsimp only
    | split | simp only [sound_mk_iff]

theorem erase_sound {s : State} {a n} (h0 : s.Sound) : (erase s a n).Sound := by
  unfold erase
  with_reducible repeat' first | assumption | intro _ | apply rawBytes_sound

theorem flashCommand_sound {s : State} {off eraseLen data} (h0 : s.Sound) :
    (flashCommand s off eraseLen data).Sound := by
  unfold flashCommand
  with_reducible repeat' first
    | assumption | intro _ | apply sound_ite | apply sound_getD | apply log_sound | apply erase_sound
    | apply rawBytes_sound | dsimp only | split | simp only [sound_mk_iff]

theorem updateNo_sound {s : State} {reason} (h0 : s.Sound) : (updateNo s reason).Sound := by
  unfold updateNo
  with_reducible repeat' first | assumption | intro _ | apply conflict_sound

theorem updateFail_sound {s : State} {reason} (h0 : s.Sound) : (updateFail s reason).Sound := by
  unfold updateFail
  with_reducible repeat' first
    | assumption | intro _ | apply onFw_sound | apply progEnd_sound | apply log_sound | apply setObj_sound | dsimp only
    | simp only [sound_mk_iff]

theorem updateRole_sound {s : State} {slot sub} {go : State} (h0 : s.Sound) (h3 : go.Sound) :
    (updateRole s slot sub go).Sound := by
  unfold updateRole
  with_reducible repeat' first | assumption | intro _ | apply sound_ite | apply lowRole_sound

theorem updateBegin_sound {s : State} (h0 : s.Sound) : (updateBegin s).Sound := by
  unfold updateBegin
  with_reducible repeat' first
    | assumption | intro _ | apply sound_ite | apply updateNo_sound | apply onFw_sound | apply erase_sound
    | apply reply_sound | apply log_sound | dsimp only | simp only [sound_mk_iff]

theorem updateData_sound {s : State} {offset data} (h0 : s.Sound) : (updateData s offset data).Sound := by
  unfold updateData
  with_reducible repeat' first
    | assumption | intro _ | apply sound_ite | apply reply_sound | apply onFw_sound | apply rawBytes_sound | dsimp only
    | simp only [sound_mk_iff]

theorem fwAudit_sound {s : State} {cmd st} (h0 : s.Sound) : (fwAudit s cmd st).Sound := by
  unfold fwAudit
  with_reducible repeat' first | assumption | intro _ | apply put_sound | apply audit_sound

theorem openInactive_sound {s : State} (h0 : s.Sound) : (openInactive s).Sound := by
  unfold openInactive
  with_reducible repeat' first | assumption | intro _ | apply put_sound | apply dirWrite_sound

theorem updateVerify_sound {s : State} (h0 : s.Sound) : (updateVerify s).Sound := by
  unfold updateVerify
  with_reducible repeat' first
    | assumption | intro _ | apply sound_ite | apply updateNo_sound | apply progStart_sound | apply onFw_sound
    | apply reply_sound | apply updateFail_sound | apply fwAudit_sound | apply openInactive_sound | apply progAdd_sound
    | apply erase_sound | dsimp only | simp only [sound_mk_iff]

theorem updateDone_sound {s : State} (h0 : s.Sound) : (updateDone s).Sound := by
  unfold updateDone
  with_reducible repeat' first
    | assumption | intro _ | apply sound_ite | apply progAdd_sound | apply rawBytes_sound | apply updateFail_sound
    | apply log_sound | apply onFw_sound | apply progEnd_sound | dsimp only | simp only [sound_mk_iff]

theorem sigUnit_sound {s : State} (h0 : s.Sound) : (sigUnit s).Sound := by
  unfold sigUnit
  with_reducible repeat' first
    | assumption | intro _ | apply sound_ite | apply chkClaim_sound | simp only [sound_mk_iff]

theorem sigStart_sound {s : State} {r} (h0 : s.Sound) : (sigStart s r).Sound := by
  unfold sigStart
  with_reducible repeat' first
    | assumption | intro _ | apply sound_ite | apply put_sound | apply sigUnit_sound | apply onFw_sound | dsimp only
    | simp only [sound_mk_iff]

theorem sigDone_sound {s : State} (h0 : s.Sound) : (sigDone s).Sound := by
  unfold sigDone
  with_reducible repeat' first
    | assumption | intro _ | apply sound_ite | apply put_sound | apply onFw_sound | dsimp only | split
    | simp only [sound_mk_iff]

theorem fwRefuse_sound {s : State} {cmd} (h0 : s.Sound) : (fwRefuse s cmd).Sound := by
  unfold fwRefuse
  with_reducible repeat' first | assumption | intro _ | apply log_sound | apply fwAudit_sound

theorem fwCommand_sound {s : State} {hart cmd may go} (h0 : s.Sound) (h4 : ∀ (a : State), a.Sound → (go a).Sound) :
    (fwCommand s hart cmd may go).Sound := by
  unfold fwCommand
  with_reducible repeat' first
    | assumption | intro _ | apply sound_ite | apply fwAudit_sound | apply fwRefuse_sound | apply h4

theorem updateActivate_sound {s : State} (h0 : s.Sound) : (updateActivate s).Sound := by
  unfold updateActivate
  with_reducible repeat' first
    | assumption | intro _ | apply sound_ite | apply updateNo_sound | apply wrBytes_sound | apply reply_sound
    | apply onFw_sound | apply sigStart_sound | dsimp only | simp only [sound_mk_iff]

theorem activate_sound {s : State} (h0 : s.Sound) : (activate s).Sound := by
  unfold activate
  with_reducible repeat' first | assumption | intro _ | apply onFw_sound | apply put_sound | simp only [sound_mk_iff]

theorem watchdogLoad_sound {s : State} (h0 : s.Sound) : (watchdogLoad s).Sound := by
  unfold watchdogLoad
  with_reducible repeat' first | assumption | intro _ | apply onFw_sound | apply put_sound | simp only [sound_mk_iff]

theorem fallbackOff_sound {s : State} (h0 : s.Sound) : (fallbackOff s).Sound := by
  unfold fallbackOff
  with_reducible repeat' first | assumption | intro _ | apply put_sound

theorem swap_sound {s : State} (h0 : s.Sound) : (swap s).Sound := by
  unfold swap
  with_reducible repeat' first
    | assumption | intro _ | apply sound_ite | apply put_sound | apply watchdogLoad_sound | apply dirWrite_sound
    | apply onFw_sound | apply log_sound | apply setObj_sound | dsimp only | simp only [sound_mk_iff]

theorem confirm_sound {s : State} (h0 : s.Sound) : (confirm s).Sound := by
  unfold confirm
  with_reducible repeat' first
    | assumption | intro _ | apply sound_ite | apply log_sound | apply setObj_sound | apply dirWrite_sound
    | apply fallbackOff_sound

theorem fallback_sound {s : State} {cause} (h0 : s.Sound) : (fallback s cause).Sound := by
  unfold fallback
  with_reducible repeat' first
    | assumption | intro _ | apply fallbackOff_sound | apply dirWrite_sound | apply put_sound | apply wrBytes_sound
    | apply onFw_sound | apply log_sound | apply countObj_sound | apply setObj_sound | dsimp only
    | simp only [sound_mk_iff]

theorem updateAbort_sound {s : State} (h0 : s.Sound) : (updateAbort s).Sound := by
  unfold updateAbort
  with_reducible repeat' first
    | assumption | intro _ | apply sound_ite | apply reply_sound | apply fallback_sound | apply progEnd_sound
    | apply onFw_sound | apply updateNo_sound | dsimp only | simp only [sound_mk_iff]

theorem fallbackExpire_sound {s : State} (h0 : s.Sound) : (fallbackExpire s).Sound := by
  unfold fallbackExpire
  with_reducible repeat' first | assumption | intro _ | apply sound_ite | apply fallback_sound | apply reach_sound

theorem readyTimeout_sound {s : State} (h0 : s.Sound) : (readyTimeout s).Sound := by
  unfold readyTimeout
  with_reducible repeat' first
    | assumption | intro _ | apply onFw_sound | apply put_sound | apply reach_sound | apply log_sound | dsimp only
    | split | simp only [sound_mk_iff]

theorem badKick_sound {s : State} (h0 : s.Sound) : (badKick s).Sound := by
  unfold badKick
  with_reducible repeat' first | assumption | intro _ | apply put_sound | apply count_sound

theorem kicked_sound {s : State} (h0 : s.Sound) : (kicked s).Sound := by
  unfold kicked
  with_reducible repeat' first
    | assumption | intro _ | apply sound_ite | apply watchdogLoad_sound | apply put_sound | apply guardScan_sound
    | apply log_sound | dsimp only

theorem kick_sound {s : State} {hart v} (h0 : s.Sound) : (kick s hart v).Sound := by
  unfold kick
  with_reducible repeat' first
    | assumption | intro _ | apply sound_ite | apply kicked_sound | apply onFw_sound | apply put_sound
    | apply badKick_sound | simp only [sound_mk_iff]

theorem watchdogExpire_sound {s : State} (h0 : s.Sound) : (watchdogExpire s).Sound := by
  unfold watchdogExpire
  with_reducible repeat' first
    | assumption | intro _ | apply sound_ite | apply onFw_sound | apply reach_sound | apply put_sound
    | apply guardScan_sound | apply log_sound | apply countObj_sound | apply fallback_sound | dsimp only | split
    | simp only [sound_mk_iff]

theorem tileSwitched_sound {s : State} {t} (h0 : s.Sound) : (tileSwitched s t).Sound := by
  unfold tileSwitched
  with_reducible repeat' first
    | assumption | intro _ | apply sound_ite | apply put_sound | apply onFault_sound | dsimp only
    | simp only [sound_mk_iff]

theorem tilesSwitch_sound {s : State} (h0 : s.Sound) : (tilesSwitch s).Sound := by
  unfold tilesSwitch
  with_reducible repeat' first
    | assumption | intro _ | apply sound_foldl | apply sound_ite | apply sound_foldl_fst | apply sound_foldl_snd
    | apply sound_ite_snd | apply onFw_sound | apply tileSwitched_sound | apply log_sound | apply put_sound | dsimp only
    | split | simp only [sound_mk_iff]

theorem execUpdateBegin_sound {slot} {s : State} (h1 : s.Sound) : ResultSound (execUpdateBegin slot s) := by
  unfold execUpdateBegin
  with_reducible repeat' first
    | assumption | apply done_sound | intro _ | apply touchSlot_sound | apply auditWrite_sound | apply updateRole_sound
    | apply updateBegin_sound | dsimp only

theorem execUpdateData_sound {slot offset data} {s : State} (h3 : s.Sound) :
    ResultSound (execUpdateData slot offset data s) := by
  unfold execUpdateData
  with_reducible repeat' first
    | assumption | apply done_sound | intro _ | apply touchSlot_sound | apply auditWrite_sound | apply updateRole_sound
    | apply updateData_sound | dsimp only

theorem execUpdateVerifyWrite_sound {slot} {s : State} (h1 : s.Sound) : ResultSound (execUpdateVerifyWrite slot s) := by
  unfold execUpdateVerifyWrite
  with_reducible repeat' first
    | assumption | apply done_sound | intro _ | apply touchSlot_sound | apply auditWrite_sound | apply updateRole_sound
    | apply updateVerify_sound | dsimp only

theorem execUpdateApplyDone_sound {s : State} (h0 : s.Sound) : ResultSound (execUpdateApplyDone s) := by
  unfold execUpdateApplyDone
  with_reducible repeat' first | assumption | apply done_sound | intro _ | apply updateDone_sound

theorem execUpdateActivate_sound {slot} {s : State} (h1 : s.Sound) : ResultSound (execUpdateActivate slot s) := by
  unfold execUpdateActivate
  with_reducible repeat' first
    | assumption | apply done_sound | intro _ | apply touchSlot_sound | apply auditWrite_sound | apply updateRole_sound
    | apply updateActivate_sound | dsimp only

theorem execFwActivate_sound {hart} {s : State} (h1 : s.Sound) : ResultSound (execFwActivate hart s) := by
  unfold execFwActivate
  with_reducible repeat' first | assumption | apply done_sound | intro _ | apply fwCommand_sound | apply activate_sound

theorem execFwOpenInactive_sound {hart} {s : State} (h1 : s.Sound) : ResultSound (execFwOpenInactive hart s) := by
  unfold execFwOpenInactive
  with_reducible repeat' first
    | assumption | apply done_sound | intro _ | apply fwCommand_sound | apply openInactive_sound

theorem execSigCheckStart_sound {region} {s : State} (h1 : s.Sound) : ResultSound (execSigCheckStart region s) := by
  unfold execSigCheckStart
  with_reducible repeat' first | assumption | apply done_sound | intro _ | apply sigStart_sound

theorem execSigCheckDone_sound {s : State} (h0 : s.Sound) : ResultSound (execSigCheckDone s) := by
  unfold execSigCheckDone
  with_reducible repeat' first | assumption | apply done_sound | intro _ | apply sigDone_sound

theorem execHandoverReadyTimeout_sound {s : State} (h0 : s.Sound) : ResultSound (execHandoverReadyTimeout s) := by
  unfold execHandoverReadyTimeout
  with_reducible repeat' first | assumption | apply done_sound | intro _ | apply readyTimeout_sound

theorem execFlashProgramCommand_sound {offset eraseLen data} {s : State} (h3 : s.Sound) :
    ResultSound (execFlashProgramCommand offset eraseLen data s) := by
  unfold execFlashProgramCommand
  with_reducible repeat' first | assumption | apply done_sound | intro _ | apply flashCommand_sound

theorem execFwSwitchArm_sound {gen} {s : State} (h1 : s.Sound) : ResultSound (execFwSwitchArm gen s) := by
  unfold execFwSwitchArm
  with_reducible repeat' first | assumption | apply done_sound | intro _ | apply put_sound

end Sys2Proof.Machine.State
end

