-- ==== Sys2Proof/Laws/Sound/Launch.lean ====
section
/-! SUPPORT. Each operation of `Sys2Proof/Machine/Launch.lean` gives a sound state on a sound state. -/

namespace Sys2Proof.Machine.State

set_option linter.unusedTactic false
set_option linter.unreachableTactic false

theorem runWrite_sound {s : State} (h0 : s.Sound) : (runWrite s).Sound := by
  unfold runWrite
  with_reducible repeat' first
    | assumption | intro _ | apply sound_ite | apply refusal_sound | apply stepRun_sound | apply log_sound | dsimp only

theorem runObject_sound {s : State} {slot} (h0 : s.Sound) : (runObject s slot).Sound := by
  unfold runObject
  with_reducible repeat' first
    | assumption | intro _ | apply sound_ite | apply lowRole_sound | apply conflict_sound | apply runWrite_sound
    | apply reply_sound | dsimp only

theorem launch_sound {s : State} (h0 : s.Sound) : (launch s).Sound := by
  unfold launch
  with_reducible repeat' first
    | assumption | intro _ | apply sound_ite | apply reach_sound | apply launchCore_sound | apply tilesSwitch_sound
    | apply stagedLaunch_sound | dsimp only

theorem launchDelayed_sound {s : State} (h0 : s.Sound) : (launchDelayed s).Sound := by
  unfold launchDelayed
  with_reducible repeat' first
    | assumption | intro _ | apply sound_ite | apply put64_sound | apply log_sound | apply put_sound | apply count_sound
    | apply raise_sound | apply onClock_sound | dsimp only | simp only [sound_mk_iff]

theorem execPllRelockDone_sound {half} {s : State} (h1 : s.Sound) : ResultSound (execPllRelockDone half s) := by
  unfold execPllRelockDone
  with_reducible repeat' first
    | assumption | apply done_sound | intro _ | apply launchDelayed_sound | apply pllRelock_sound

theorem execStepRun_sound {slot} {s : State} (h1 : s.Sound) : ResultSound (execStepRun slot s) := by
  unfold execStepRun
  with_reducible repeat' first
    | assumption | apply done_sound | intro _ | apply runWrite_sound | apply auditWrite_sound | apply runObject_sound
    | apply touchSlot_sound | split | simp only [sound_mk_iff]

theorem execStepLaunch_sound {s : State} (h0 : s.Sound) : ResultSound (execStepLaunch s) := by
  unfold execStepLaunch
  with_reducible repeat' first | assumption | apply done_sound | intro _ | apply launch_sound

end Sys2Proof.Machine.State
end

