-- ==== Sys2Proof/Laws/Sound/Params.lean ====
section
/-! SUPPORT. Each operation of `Sys2Proof/Machine/Params.lean` gives a sound state on a sound state. -/

namespace Sys2Proof.Machine.State

set_option linter.unusedTactic false
set_option linter.unreachableTactic false

theorem tpdoConfig_sound {s : State} {p} (h0 : s.Sound) : (tpdoConfig s p).Sound := by
  unfold tpdoConfig
  with_reducible repeat' first
    | assumption | intro _ | apply sound_foldl | apply sound_ite | apply sound_foldl_fst | apply put_sound | dsimp only
    | apply sound_id

theorem portsEnable_sound {s : State} {mask} (h0 : s.Sound) : (portsEnable s mask).Sound := by
  unfold portsEnable
  with_reducible repeat' first
    | assumption | intro _ | apply sound_foldl | apply sound_ite | apply sound_foldl_fst | apply tlkEnable_sound
    | apply put_sound

theorem objTake_sound {s : State} {index sub item v} (h0 : s.Sound) : (objTake s index sub item v).Sound := by
  unfold objTake
  with_reducible repeat' first
    | assumption | intro _ | apply sound_ite | apply clockWrite_sound | apply objApply_sound | apply tpdoConfig_sound
    | apply portsEnable_sound | dsimp only

theorem recordSave_sound {s : State} (h0 : s.Sound) : (recordSave s).Sound := by
  unfold recordSave
  with_reducible repeat' first
    | assumption | intro _ | apply sound_ite | apply rawBytes_sound | dsimp only | split | simp only [sound_mk_iff]

theorem recordTake_sound {s : State} {only} (h0 : s.Sound) : (recordTake s only).Sound := by
  unfold recordTake
  with_reducible repeat' first
    | assumption | intro _ | apply sound_foldl | apply sound_ite | apply sound_foldl_fst | apply objTake_sound
    | dsimp only | split | simp only [sound_mk_iff]

theorem recordLoad_sound {s : State} (h0 : s.Sound) : (recordLoad s).Sound := by
  unfold recordLoad
  with_reducible repeat' first | assumption | intro _ | apply recordTake_sound

theorem recordReload_sound {s : State} (h0 : s.Sound) : (recordReload s).Sound := by
  unfold recordReload
  with_reducible repeat' first
    | assumption | intro _ | apply sound_foldl | apply sound_foldl_fst | apply sound_foldl_snd | apply sound_ite_snd
    | apply objTake_sound | apply recordTake_sound | dsimp only

theorem paramSave_sound {s : State} {ok} (h0 : s.Sound) : (paramSave s ok).Sound := by
  unfold paramSave
  with_reducible repeat' first
    | assumption | intro _ | apply sound_ite | apply recordSave_sound | split | simp only [sound_mk_iff]

theorem storeParams_sound {s : State} {slot v ok} (h0 : s.Sound) : (storeParams s slot v ok).Sound := by
  unfold storeParams
  with_reducible repeat' first
    | assumption | intro _ | apply sound_ite | apply lowRole_sound | apply reply_sound | apply refusal_sound
    | apply recordSave_sound

theorem restoreDefaults_sound {s : State} {slot v} (h0 : s.Sound) : (restoreDefaults s slot v).Sound := by
  unfold restoreDefaults
  with_reducible repeat' first
    | assumption | intro _ | apply sound_ite | apply lowRole_sound | apply reply_sound | apply refusal_sound
    | apply recordSave_sound | simp only [sound_mk_iff]

theorem execFlashParamSave_sound {ok} {s : State} (h1 : s.Sound) : ResultSound (execFlashParamSave ok s) := by
  unfold execFlashParamSave
  with_reducible repeat' first | assumption | apply done_sound | intro _ | apply paramSave_sound

theorem execStoreParameters_sound {slot value ok} {s : State} (h3 : s.Sound) :
    ResultSound (execStoreParameters slot value ok s) := by
  unfold execStoreParameters
  with_reducible repeat' first
    | assumption | apply done_sound | intro _ | apply auditWrite_sound | apply storeParams_sound | apply touchSlot_sound

theorem execRestoreDefaults_sound {slot value} {s : State} (h2 : s.Sound) :
    ResultSound (execRestoreDefaults slot value s) := by
  unfold execRestoreDefaults
  with_reducible repeat' first
    | assumption | apply done_sound | intro _ | apply auditWrite_sound | apply restoreDefaults_sound
    | apply touchSlot_sound

end Sys2Proof.Machine.State
end

