-- ==== Sys2Proof/Laws/Sound/Bringup.lean ====
section
/-! SUPPORT. Each operation of `Sys2Proof/Machine/Bringup.lean` gives a sound state on a sound state. -/

namespace Sys2Proof.Machine.State

set_option linter.unusedTactic false
set_option linter.unreachableTactic false

theorem onStart_sound {s : State} {f} (h0 : s.Sound) : (onStart s f).Sound := by
  unfold onStart
  with_reducible repeat' first | assumption | intro _ | simp only [sound_mk_iff]

theorem railRise_sound {s : State} {r} (h0 : s.Sound) : (railRise s r).Sound := by
  unfold railRise
  with_reducible repeat' first
    | assumption | intro _ | apply onStart_sound | apply onPower_sound | simp only [sound_mk_iff]

theorem railsBegin_sound {s : State} {rails} (h0 : s.Sound) : (railsBegin s rails).Sound := by
  unfold railsBegin
  with_reducible repeat' first
    | assumption | intro _ | apply onStart_sound | apply railRise_sound | split | simp only [sound_mk_iff]

theorem railGood_sound {s : State} {r} (h0 : s.Sound) : (railGood s r).Sound := by
  unfold railGood
  with_reducible repeat' first
    | assumption | intro _ | apply sound_ite | apply put_sound | apply railsBegin_sound | dsimp only

theorem railMissed_sound {s : State} {r} (h0 : s.Sound) : (railMissed s r).Sound := by
  unfold railMissed
  with_reducible repeat' first
    | assumption | intro _ | apply sound_ite | apply put_sound | apply onStart_sound | apply onPower_sound
    | apply fallNext_sound | dsimp only | simp only [sound_mk_iff]

theorem sequenceRetry_sound {s : State} (h0 : s.Sound) : (sequenceRetry s).Sound := by
  unfold sequenceRetry
  with_reducible repeat' first | assumption | intro _ | apply sound_ite | apply railsBegin_sound | apply reach_sound

theorem linkOff_sound {s : State} {r p} (h0 : s.Sound) : (linkOff s r p).Sound := by
  unfold linkOff
  with_reducible repeat' first | assumption | intro _ | apply put_sound | dsimp only | split | simp only [sound_mk_iff]

theorem holesClose_sound {s : State} (h0 : s.Sound) : (holesClose s).Sound := by
  unfold holesClose
  with_reducible repeat' first | assumption | intro _ | apply sound_foldl | apply sound_foldl_fst | apply linkOff_sound

theorem mapForm_sound {s : State} (h0 : s.Sound) : (mapForm s).Sound := by
  unfold mapForm
  with_reducible repeat' first
    | assumption | intro _ | apply sound_foldl | apply sound_ite | apply sound_foldl_fst | apply onStart_sound
    | apply log_sound | apply holesClose_sound | apply setObj_sound | dsimp only | split | simp only [sound_mk_iff]

theorem lttWrite_sound {s : State} {base n l} (h0 : s.Sound) : (lttWrite s base n l).Sound := by
  unfold lttWrite
  with_reducible repeat' first
    | assumption | intro _ | apply sound_foldl | apply sound_foldl_fst | apply setReg_sound | apply lttPut_sound
    | dsimp only

theorem tablesWrite_sound {s : State} {logical spares} (h0 : s.Sound) : (tablesWrite s logical spares).Sound := by
  unfold tablesWrite
  with_reducible repeat' first
    | assumption | intro _ | apply sound_foldl | apply sound_foldl_fst | apply sound_foldl_snd | apply sound_ite_snd
    | apply lttWrite_sound | dsimp only

theorem tilesName_sound {s : State} (h0 : s.Sound) : (tilesName s).Sound := by
  unfold tilesName
  with_reducible repeat' first
    | assumption | intro _ | apply sound_ite | apply tablesWrite_sound | apply setObj_sound | apply log_sound
    | dsimp only

theorem broadcastTree_sound {s : State} (h0 : s.Sound) : (broadcastTree s).Sound := by
  unfold broadcastTree
  with_reducible repeat' first
    | assumption | intro _ | apply sound_foldl | apply sound_foldl_fst | apply onMesh_sound | apply mcPort_sound
    | apply mcRecount_sound | dsimp only | split | simp only [sound_mk_iff]

theorem bootHalt_sound {s : State} (h0 : s.Sound) : (bootHalt s).Sound := by
  unfold bootHalt
  with_reducible repeat' first
    | assumption | intro _ | apply egressHold_sound | apply onStart_sound | simp only [sound_mk_iff]

theorem slotStart_sound {s : State} {slot} (h0 : s.Sound) : (slotStart s slot).Sound := by
  unfold slotStart
  with_reducible repeat' first
    | assumption | intro _ | apply wrBytes_sound | apply watchdogLoad_sound | apply fallbackOff_sound | apply put_sound
    | apply setObj_sound | dsimp only

theorem bootSlot_sound {s : State} (h0 : s.Sound) : (bootSlot s).Sound := by
  unfold bootSlot
  with_reducible repeat' first
    | assumption | intro _ | apply sound_ite | apply sound_getD | apply put_sound | apply log_sound
    | apply dirWrite_sound | apply slotStart_sound | apply bootHalt_sound | dsimp only

theorem huskBoot_sound {s : State} (h0 : s.Sound) : (huskBoot s).Sound := by
  unfold huskBoot
  with_reducible repeat' first
    | assumption | intro _ | apply sound_objs_store | apply sound_foldl | apply sound_ite | apply sound_foldl_fst
    | apply sound_foldl_snd | apply sound_ite_snd | apply wipeDone_sound | apply wipeStart_sound | apply log_sound
    | apply put_sound | apply setReg_sound | apply pinDrive_sound | apply raw8_sound | apply onSec_sound | dsimp only
    | split | simp only [sound_mk_iff]

theorem fusesRead_sound {s : State} (h0 : s.Sound) : (fusesRead s).Sound := by
  unfold fusesRead
  with_reducible repeat' first
    | assumption | intro _ | apply sound_foldl | apply sound_getD | apply sound_foldl_fst | apply put64_sound
    | apply setReg_sound | apply setObj_sound | apply put_sound | dsimp only

theorem clocksBoot_sound {s : State} (h0 : s.Sound) : (clocksBoot s).Sound := by
  unfold clocksBoot
  with_reducible repeat' first
    | assumption | intro _ | apply put_sound | apply halfShow_sound | apply onPower_sound | dsimp only
    | simp only [sound_mk_iff]

theorem bootEvents_sound {s : State} (h0 : s.Sound) : (bootEvents s).Sound := by
  unfold bootEvents
  with_reducible repeat' first
    | assumption | intro _ | apply sound_ite | apply log_sound | apply put_sound | apply countObj_sound
    | apply onStart_sound | dsimp only | simp only [sound_mk_iff]

theorem settingsBoot_sound {s : State} (h0 : s.Sound) : (settingsBoot s).Sound := by
  unfold settingsBoot
  with_reducible repeat' first
    | assumption | intro _ | apply sound_foldl | apply sound_ite | apply sound_foldl_fst | apply recordLoad_sound
    | apply put_sound | apply portsEnable_sound | apply setReg_sound | dsimp only | simp only [sound_mk_iff]

theorem trainCheck_sound {s : State} (h0 : s.Sound) : (trainCheck s).Sound := by
  unfold trainCheck
  with_reducible repeat' first
    | assumption | intro _ | apply sound_ite | apply put_sound | apply onStart_sound | apply log_sound | dsimp only
    | simp only [sound_mk_iff]

theorem trainLoad_sound {s : State} {q} (h0 : s.Sound) : (trainLoad s q).Sound := by
  unfold trainLoad
  with_reducible repeat' first
    | assumption | intro _ | apply sound_foldl | apply sound_foldl_fst | apply setReg_sound | dsimp only

theorem trainBegin_sound {s : State} (h0 : s.Sound) : (trainBegin s).Sound := by
  unfold trainBegin
  with_reducible repeat' first
    | assumption | intro _ | apply sound_foldl | apply sound_ite | apply sound_foldl_fst | apply trainCheck_sound
    | apply trainLoad_sound | apply put_sound | apply onStart_sound | dsimp only | simp only [sound_mk_iff]

theorem tablesBuild_sound {s : State} (h0 : s.Sound) : (tablesBuild s).Sound := by
  unfold tablesBuild
  with_reducible repeat' first
    | assumption | intro _ | apply trainBegin_sound | apply broadcastTree_sound | apply tilesName_sound
    | apply mapForm_sound

theorem bistStart_sound {s : State} (h0 : s.Sound) : (bistStart s).Sound := by
  unfold bistStart
  with_reducible repeat' first
    | assumption | intro _ | apply sound_foldl | apply sound_foldl_fst | apply onStart_sound | apply put_sound
    | apply setReg_sound | dsimp only | simp only [sound_mk_iff]

theorem bootRom_sound {s : State} (h0 : s.Sound) : (bootRom s).Sound := by
  unfold bootRom
  with_reducible repeat' first
    | assumption | intro _ | apply sound_ite | apply sound_getD | apply bootEvents_sound | apply clocksBoot_sound
    | apply fusesRead_sound | apply huskBoot_sound | apply bootHalt_sound | apply put_sound | apply bootSlot_sound
    | apply settingsBoot_sound | apply setObj_sound | apply onStart_sound | apply tablesBuild_sound
    | apply bistStart_sound | dsimp only | split | simp only [sound_mk_iff]

theorem bootDoze_sound {s : State} (h0 : s.Sound) : (bootDoze s).Sound := by
  unfold bootDoze
  with_reducible repeat' first
    | assumption | intro _ | apply sound_foldl | apply sound_ite | apply sound_foldl_fst | apply bootEvents_sound
    | apply debugClose_sound | apply broadcastTree_sound | apply tablesWrite_sound | apply holesClose_sound
    | apply trainCheck_sound | apply trainLoad_sound | apply setObj_sound | apply onStart_sound | dsimp only
    | simp only [sound_mk_iff]

theorem clearDone_sound {s : State} {us} (h0 : s.Sound) : (clearDone s us).Sound := by
  unfold clearDone
  with_reducible repeat' first
    | assumption | intro _ | apply sound_ite | apply reach_sound | apply log_sound | apply put_sound
    | apply bootDoze_sound | apply bootRom_sound | dsimp only

theorem coldStart_sound {s : State} {fuses xtal testen ddr} (h0 : s.Sound) :
    (coldStart s fuses xtal testen ddr).Sound := by
  unfold coldStart
  with_reducible repeat' first
    | assumption | intro _ | apply sound_ite | apply put_sound | apply onPower_sound | apply onStart_sound
    | apply railsBegin_sound | dsimp only | simp only [sound_mk_iff]

theorem bistDone_sound {s : State} {tiles pods} (h0 : s.Sound) : (bistDone s tiles pods).Sound := by
  unfold bistDone
  with_reducible repeat' first
    | assumption | intro _ | apply sound_mem_filter | apply sound_foldl | apply sound_ite | apply sound_foldl_fst
    | apply sound_foldl_snd | apply sound_ite_snd | apply onStart_sound | apply setReg_sound | apply put_sound
    | apply linkOff_sound | apply scmLinkFail_sound | apply tablesBuild_sound | dsimp only | split
    | simp only [sound_mk_iff]

theorem porst_sound {s : State} (h0 : s.Sound) : (porst s).Sound := by
  unfold porst
  with_reducible repeat' first
    | assumption | intro _ | apply fallNext_sound | apply onPower_sound | apply powerLoss_sound | dsimp only
    | simp only [sound_mk_iff]

theorem execColdStart_sound {fuses xtal testen ddr} {s : State} (h4 : s.Sound) :
    ResultSound (execColdStart fuses xtal testen ddr s) := by
  unfold execColdStart
  with_reducible repeat' first | assumption | apply done_sound | intro _ | apply coldStart_sound

theorem execSramClearDone_sound {us} {s : State} (h1 : s.Sound) : ResultSound (execSramClearDone us s) := by
  unfold execSramClearDone
  with_reducible repeat' first | assumption | apply done_sound | intro _ | apply clearDone_sound

theorem execRailPowerGood_sound {rail} {s : State} (h1 : s.Sound) : ResultSound (execRailPowerGood rail s) := by
  unfold execRailPowerGood
  with_reducible repeat' first | assumption | apply done_sound | intro _ | apply railGood_sound

theorem execRailPgTimeout_sound {rail} {s : State} (h1 : s.Sound) : ResultSound (execRailPgTimeout rail s) := by
  unfold execRailPgTimeout
  with_reducible repeat' first | assumption | apply done_sound | intro _ | apply railMissed_sound

theorem execSequenceRetry_sound {s : State} (h0 : s.Sound) : ResultSound (execSequenceRetry s) := by
  unfold execSequenceRetry
  with_reducible repeat' first | assumption | apply done_sound | intro _ | apply sequenceRetry_sound

theorem execBistStart_sound {s : State} (h0 : s.Sound) : ResultSound (execBistStart s) := by
  unfold execBistStart
  with_reducible repeat' first | assumption | apply done_sound | intro _ | apply bistStart_sound

theorem execBistDone_sound {tiles pods} {s : State} (h2 : s.Sound) : ResultSound (execBistDone tiles pods s) := by
  unfold execBistDone
  with_reducible repeat' first | assumption | apply done_sound | intro _ | apply bistDone_sound

theorem execPorstAssert_sound {s : State} (h0 : s.Sound) : ResultSound (execPorstAssert s) := by
  unfold execPorstAssert
  with_reducible repeat' first | assumption | apply done_sound | intro _ | apply porst_sound

theorem execVaonLoss_sound {s : State} (h0 : s.Sound) : ResultSound (execVaonLoss s) := by
  unfold execVaonLoss
  with_reducible repeat' first | assumption | apply done_sound | intro _ | apply powerLoss_sound

end Sys2Proof.Machine.State
end

