-- ==== Sys2Proof/Laws/Sound/TileFirmware.lean ====
section
/-! SUPPORT. Each operation of `Sys2Proof/Machine/TileFirmware.lean` gives a sound state on a sound state. -/

namespace Sys2Proof.Machine.State

set_option linter.unusedTactic false
set_option linter.unreachableTactic false

theorem chunksTo_sound {s : State} {t l} (h0 : s.Sound) : (chunksTo s t l).Sound := by
  unfold chunksTo
  with_reducible repeat' first
    | assumption | intro _ | apply sound_foldl | apply sound_foldl_fst | apply sendCtrl_sound | dsimp only

theorem fwBroadcast_sound {s : State} (h0 : s.Sound) : (fwBroadcast s).Sound := by
  unfold fwBroadcast
  with_reducible repeat' first
    | assumption | intro _ | apply sound_foldl | apply sound_ite | apply sound_getD | apply sound_foldl_fst
    | apply onStart_sound | apply put_sound | apply sendCtrl_sound | apply tlkSend_sound | dsimp only
    | simp only [sound_mk_iff]

theorem fwBegin_sound {s : State} (h0 : s.Sound) : (fwBegin s).Sound := by
  unfold fwBegin
  with_reducible repeat' first
    | assumption | intro _ | apply sound_ite | apply onStart_sound | apply fwBroadcast_sound | dsimp only
    | simp only [sound_mk_iff]

theorem fwDrop_sound {s : State} {t} (h0 : s.Sound) : (fwDrop s t).Sound := by
  unfold fwDrop
  with_reducible repeat' first | assumption | intro _ | apply count_sound

theorem fwClear_sound {s : State} {t} (h0 : s.Sound) : (fwClear s t).Sound := by
  unfold fwClear
  with_reducible repeat' first
    | assumption | intro _ | apply sound_foldl | apply sound_foldl_fst | apply setReg_sound | apply put_sound
    | dsimp only

theorem fwShow_sound {s : State} {t} (h0 : s.Sound) : (fwShow s t).Sound := by
  unfold fwShow
  with_reducible repeat' first
    | assumption | intro _ | apply sound_ite | apply put_sound | dsimp only | split | simp only [sound_mk_iff]

theorem fwChunk_sound {s : State} {t c} (h0 : s.Sound) : (fwChunk s t c).Sound := by
  unfold fwChunk
  with_reducible repeat' first
    | assumption | intro _ | apply sound_ite | apply sound_getD | apply fwDrop_sound | apply onFw_sound
    | apply put_sound | apply fwShow_sound | apply fwClear_sound | apply wrBytes_sound | dsimp only | split
    | simp only [sound_mk_iff]

theorem fwTake_sound {s : State} {t} (h0 : s.Sound) : (fwTake s t).Sound := by
  unfold fwTake
  with_reducible repeat' first
    | assumption | intro _ | apply fwChunk_sound | split | refine takeCtrl_sound ?_ _ _ (by assumption)
    | simp only [sound_mk_iff]

theorem fwReport_sound {s : State} {t} (h0 : s.Sound) : (fwReport s t).Sound := by
  unfold fwReport
  with_reducible repeat' first | assumption | intro _ | apply sound_foldl | apply sound_foldl_fst | apply offer_sound

theorem fwFailed_sound {s : State} {t} (h0 : s.Sound) : (fwFailed s t).Sound := by
  unfold fwFailed
  with_reducible repeat' first
    | assumption | intro _ | apply onFault_sound | apply onStart_sound | apply setObj_sound | apply log_sound
    | apply tilesName_sound | apply put_sound | dsimp only | simp only [sound_mk_iff]

theorem fwRepair_sound {s : State} {m} (h0 : s.Sound) : (fwRepair s m).Sound := by
  unfold fwRepair
  with_reducible repeat' first
    | assumption | intro _ | apply sound_ite | apply countObj_sound | apply chunksTo_sound | apply onStart_sound
    | apply fwFailed_sound | apply fwClear_sound | dsimp only | split | simp only [sound_mk_iff]

theorem messageTake_sound {s : State} {u ecc} (h0 : s.Sound) : (messageTake s u ecc).Sound := by
  unfold messageTake
  with_reducible repeat' first
    | assumption | intro _ | apply sound_ite | apply receiveMsg_sound | apply fwRepair_sound | dsimp only | split
    | simp only [sound_mk_iff]

theorem runReached_sound {s : State} (h0 : s.Sound) : (runReached s).Sound := by
  unfold runReached
  with_reducible repeat' first
    | assumption | intro _ | apply sound_ite | apply onStart_sound | apply guardScan_sound | apply onPower_sound
    | apply setObj_sound | apply log_sound | apply stateEnter_sound | apply put_sound | apply switchLoad_sound
    | dsimp only | split | simp only [sound_mk_iff]

theorem fwRelease_sound {s : State} {t} (h0 : s.Sound) : (fwRelease s t).Sound := by
  unfold fwRelease
  with_reducible repeat' first
    | assumption | intro _ | apply sound_ite | apply put_sound | apply onStart_sound | apply onFault_sound
    | apply runReached_sound | dsimp only | simp only [sound_mk_iff]

theorem shadowBroadcast_sound {s : State} {l} (h0 : s.Sound) : (shadowBroadcast s l).Sound := by
  unfold shadowBroadcast
  with_reducible repeat' first
    | assumption | intro _ | apply sound_foldl | apply sound_getD | apply sound_foldl_fst | apply onStart_sound
    | apply put_sound | apply sendCtrl_sound | dsimp only | simp only [sound_mk_iff]

theorem swapSend_sound {s : State} (h0 : s.Sound) : (swapSend s).Sound := by
  unfold swapSend
  with_reducible repeat' first | assumption | intro _ | apply sound_ite | apply shadowBroadcast_sound | apply swap_sound

theorem fellBack_sound {s : State} {old : State} (h0 : s.Sound) (h1 : old.Sound) : (fellBack s old).Sound := by
  unfold fellBack
  with_reducible repeat' first
    | assumption | intro _ | apply sound_ite | apply shadowBroadcast_sound | dsimp only | split

theorem fwConfirm_sound {s : State} {hart} (h0 : s.Sound) : (fwConfirm s hart).Sound := by
  unfold fwConfirm
  with_reducible repeat' first
    | assumption | intro _ | apply sound_ite | apply fwRefuse_sound | apply fellBack_sound | apply fallback_sound
    | apply fwCommand_sound | apply confirm_sound

theorem kickWrite_sound {s : State} {hart w} (h0 : s.Sound) : (kickWrite s hart w).Sound := by
  unfold kickWrite
  with_reducible repeat' first
    | assumption | intro _ | apply sound_ite | apply kicked_sound | apply fellBack_sound | apply watchdogExpire_sound
    | apply kick_sound

theorem fwPacket_sound {s : State} {n} (h0 : s.Sound) : (fwPacket s n).Sound := by
  unfold fwPacket
  with_reducible repeat' first
    | assumption | intro _ | apply sound_foldl | apply sound_ite | apply sound_foldl_fst | apply sound_foldl_snd
    | apply sound_ite_snd | apply onStart_sound | apply fwBroadcast_sound | dsimp only | split
    | simp only [sound_mk_iff]

theorem fwTimeout_sound {s : State} (h0 : s.Sound) : (fwTimeout s).Sound := by
  unfold fwTimeout
  with_reducible repeat' first
    | assumption | intro _ | apply sound_ite | apply onStart_sound | apply reach_sound | apply fwBroadcast_sound
    | apply log_sound | dsimp only | simp only [sound_mk_iff]

theorem execFwChunkReceive_sound {tile} {s : State} (h1 : s.Sound) : ResultSound (execFwChunkReceive tile s) := by
  unfold execFwChunkReceive
  with_reducible repeat' first | assumption | apply done_sound | intro _ | apply fwTake_sound

theorem execFwReport_sound {tile} {s : State} (h1 : s.Sound) : ResultSound (execFwReport tile s) := by
  unfold execFwReport
  with_reducible repeat' first | assumption | apply done_sound | intro _ | apply fwReport_sound

theorem execFwRelease_sound {tile} {s : State} (h1 : s.Sound) : ResultSound (execFwRelease tile s) := by
  unfold execFwRelease
  with_reducible repeat' first | assumption | apply done_sound | intro _ | apply fwRelease_sound

theorem execMessageReceive_sound {unit ecc} {s : State} (h2 : s.Sound) :
    ResultSound (execMessageReceive unit ecc s) := by
  unfold execMessageReceive
  with_reducible repeat' first | assumption | apply done_sound | intro _ | apply messageTake_sound

theorem execFwPacketReceive_sound {port} {s : State} (h1 : s.Sound) : ResultSound (execFwPacketReceive port s) := by
  unfold execFwPacketReceive
  with_reducible repeat' first | assumption | apply done_sound | intro _ | apply fwPacket_sound

theorem execWorkerFwTimeout_sound {s : State} (h0 : s.Sound) : ResultSound (execWorkerFwTimeout s) := by
  unfold execWorkerFwTimeout
  with_reducible repeat' first | assumption | apply done_sound | intro _ | apply fwTimeout_sound

theorem execUpdateAbort_sound {slot} {s : State} (h1 : s.Sound) : ResultSound (execUpdateAbort slot s) := by
  unfold execUpdateAbort
  with_reducible repeat' first
    | assumption | apply done_sound | intro _ | apply touchSlot_sound | apply fellBack_sound | apply auditWrite_sound
    | apply updateRole_sound | apply updateAbort_sound | dsimp only

theorem execFwConfirm_sound {hart} {s : State} (h1 : s.Sound) : ResultSound (execFwConfirm hart s) := by
  unfold execFwConfirm
  with_reducible repeat' first | assumption | apply done_sound | intro _ | apply fwConfirm_sound

theorem execFwFallbackCommand_sound {hart} {s : State} (h1 : s.Sound) : ResultSound (execFwFallbackCommand hart s) := by
  unfold execFwFallbackCommand
  with_reducible repeat' first
    | assumption | apply done_sound | intro _ | apply fellBack_sound | apply fwCommand_sound | apply fallback_sound

theorem execFwSwap_sound {hart} {s : State} (h1 : s.Sound) : ResultSound (execFwSwap hart s) := by
  unfold execFwSwap
  with_reducible repeat' first | assumption | apply done_sound | intro _ | apply fwCommand_sound | apply swapSend_sound

theorem execFallbackTimerExpire_sound {s : State} (h0 : s.Sound) : ResultSound (execFallbackTimerExpire s) := by
  unfold execFallbackTimerExpire
  with_reducible repeat' first
    | assumption | apply done_sound | intro _ | apply fellBack_sound | apply fallbackExpire_sound

theorem execWatchdogKick_sound {hart value} {s : State} (h2 : s.Sound) :
    ResultSound (execWatchdogKick hart value s) := by
  unfold execWatchdogKick
  with_reducible repeat' first | assumption | apply done_sound | intro _ | apply kickWrite_sound

theorem execWatchdogExpire_sound {s : State} (h0 : s.Sound) : ResultSound (execWatchdogExpire s) := by
  unfold execWatchdogExpire
  with_reducible repeat' first
    | assumption | apply done_sound | intro _ | apply fellBack_sound | apply watchdogExpire_sound

end Sys2Proof.Machine.State
end

