-- ==== Sys2Proof/Laws/Sound/Training.lean ====
section
/-! SUPPORT. Each operation of `Sys2Proof/Machine/Training.lean` gives a sound state on a sound state. -/

namespace Sys2Proof.Machine.State

set_option linter.unusedTactic false
set_option linter.unreachableTactic false

theorem mapStart_sound {s : State} (h0 : s.Sound) : (mapStart s).Sound := by
  unfold mapStart
  with_reducible repeat' first
    | assumption | intro _ | apply sound_foldl | apply sound_foldl_fst | apply put_sound | dsimp only

theorem fillStart_sound {s : State} (h0 : s.Sound) : (fillStart s).Sound := by
  unfold fillStart
  with_reducible repeat' first
    | assumption | intro _ | apply sound_foldl | apply sound_foldl_fst | apply put_sound | apply onMemories_sound
    | dsimp only | simp only [sound_mk_iff]

theorem trainNext_sound {s : State} (h0 : s.Sound) : (trainNext s).Sound := by
  unfold trainNext
  with_reducible repeat' first
    | assumption | intro _ | apply sound_foldl | apply sound_ite | apply sound_foldl_fst | apply fwBegin_sound
    | apply mapStart_sound | apply put_sound | apply fillStart_sound

theorem trainStep_sound {s : State} {q step rank} (h0 : s.Sound) : (trainStep s q step rank).Sound := by
  unfold trainStep
  with_reducible repeat' first | assumption | intro _ | apply sound_ite | apply put_sound | dsimp only

theorem trainDone_sound {s : State} {q pass lane found} (h0 : s.Sound) : (trainDone s q pass lane found).Sound := by
  unfold trainDone
  with_reducible repeat' first
    | assumption | intro _ | apply sound_foldl | apply sound_ite | apply sound_foldl_fst | apply sound_foldl_snd
    | apply sound_ite_snd | apply put_sound | apply writePlain_sound | apply onStart_sound | apply trainNext_sound
    | apply subRetire_sound | apply log_sound | dsimp only | simp only [sound_mk_iff]

theorem modeAccess_sound {s : State} {q w} (h0 : s.Sound) : (modeAccess s q w).Sound := by
  unfold modeAccess
  with_reducible repeat' first
    | assumption | intro _ | apply sound_ite | apply writePlain_sound | apply onStart_sound | apply useFree_sound
    | apply put_sound | dsimp only | split | simp only [sound_mk_iff]

theorem trainSeal_sound {s : State} {temp} (h0 : s.Sound) : (trainSeal s temp).Sound := by
  unfold trainSeal
  with_reducible repeat' first
    | assumption | intro _ | apply sound_ite | apply wrBytes_sound | apply sealDirty_sound | dsimp only

theorem testMoved_sound {s : State} {u n} (h0 : s.Sound) : (testMoved s u n).Sound := by
  unfold testMoved
  with_reducible repeat' first | assumption | intro _ | apply progAdd_sound | apply put64_sound

theorem testStart_sound {s : State} {u w} (h0 : s.Sound) : (testStart s u w).Sound := by
  unfold testStart
  with_reducible repeat' first
    | assumption | intro _ | apply sound_ite | apply writePlain_sound | apply setProg_sound | apply setObj_sound
    | apply progStart_sound | apply put_sound | apply put64_sound | apply onStart_sound | dsimp only
    | simp only [sound_mk_iff]

theorem testAbort_sound {s : State} {u} (h0 : s.Sound) : (testAbort s u).Sound := by
  unfold testAbort
  with_reducible repeat' first | assumption | intro _ | apply sound_ite | apply progEnd_sound | apply put_sound

theorem holdExpire_sound {s : State} {u} (h0 : s.Sound) : (holdExpire s u).Sound := by
  unfold holdExpire
  with_reducible repeat' first
    | assumption | intro _ | apply sound_ite | apply reach_sound | apply testMoved_sound | apply onStart_sound
    | apply put_sound | dsimp only | split | simp only [sound_mk_iff]

theorem testFail_sound {s : State} {q burst} (h0 : s.Sound) : (testFail s q burst).Sound := by
  unfold testFail
  with_reducible repeat' first
    | assumption | intro _ | apply count_sound | apply countObj_sound | apply log_sound | apply pageRetire_sound
    | dsimp only

theorem testLeaves_sound {s : State} {u} (h : s.Sound) : (testLeaves s u).Sound := by
  unfold testLeaves
  dsimp only
  split
  · exact h
  · split
    · exact sound_mem_filter h
    · exact State.Sound.congr (sound_mem_filter h) rfl rfl rfl rfl rfl rfl rfl

theorem testDone_sound {s : State} {u bad} (h0 : s.Sound) : (testDone s u bad).Sound := by
  unfold testDone
  with_reducible repeat' first
    | assumption | intro _ | apply sound_foldl | apply sound_ite | apply sound_foldl_fst | apply sound_foldl_snd
    | apply sound_ite_snd | apply testLeaves_sound | apply testMoved_sound | apply put_sound | apply testFail_sound
    | apply onStart_sound | apply progEnd_sound | apply trainNext_sound | dsimp only | split | simp only [sound_mk_iff]

theorem wakeRecord_sound {s : State} {src detail} (h0 : s.Sound) : (wakeRecord s src detail).Sound := by
  unfold wakeRecord
  with_reducible repeat' first | assumption | intro _ | apply put_sound | apply put64_sound | dsimp only

theorem wakeStart_sound {s : State} (h0 : s.Sound) : (wakeStart s).Sound := by
  unfold wakeStart
  with_reducible repeat' first
    | assumption | intro _ | apply sound_ite | apply onPower_sound | apply put_sound | apply onStart_sound
    | apply railsBegin_sound | dsimp only | simp only [sound_mk_iff]

theorem powerRequest_sound {s : State} {target slot} (h0 : s.Sound) : (powerRequest s target slot).Sound := by
  unfold powerRequest
  with_reducible repeat' first
    | assumption | intro _ | apply sound_ite | apply lowRole_sound | apply reply_sound | apply turnAway_sound
    | apply put_sound | apply stateEnter_sound | apply wakeStart_sound | apply wakeRecord_sound | apply fallBegin_sound
    | apply onStart_sound | apply selfRefresh_sound | apply switchSave_sound | apply offBegin_sound | dsimp only | split
    | simp only [sound_mk_iff]

theorem wakeEvent_sound {s : State} {cycles seen} (h0 : s.Sound) : (wakeEvent s cycles seen).Sound := by
  unfold wakeEvent
  with_reducible repeat' first
    | assumption | intro _ | apply sound_foldl | apply sound_ite | apply sound_getD | apply sound_foldl_fst
    | apply tbMove_sound | apply wakeRecord_sound | apply put_sound | apply wakeStart_sound | dsimp only
    | simp only [sound_mk_iff]

theorem execDdrTrainStep_sound {sub step rank} {s : State} (h3 : s.Sound) :
    ResultSound (execDdrTrainStep sub step rank s) := by
  unfold execDdrTrainStep
  with_reducible repeat' first | assumption | apply done_sound | intro _ | apply trainStep_sound

theorem execDdrTrainStepDone_sound {sub pass lane found} {s : State} (h4 : s.Sound) :
    ResultSound (execDdrTrainStepDone sub pass lane found s) := by
  unfold execDdrTrainStepDone
  with_reducible repeat' first | assumption | apply done_sound | intro _ | apply trainDone_sound

theorem execDdrModeRegisterAccess_sound {sub value} {s : State} (h2 : s.Sound) :
    ResultSound (execDdrModeRegisterAccess sub value s) := by
  unfold execDdrModeRegisterAccess
  with_reducible repeat' first | assumption | apply done_sound | intro _ | apply modeAccess_sound

theorem execTrainSetSeal_sound {temp} {s : State} (h1 : s.Sound) : ResultSound (execTrainSetSeal temp s) := by
  unfold execTrainSetSeal
  with_reducible repeat' first | assumption | apply done_sound | intro _ | apply trainSeal_sound

theorem execTrainSetCheck_sound {s : State} (h0 : s.Sound) : ResultSound (execTrainSetCheck s) := by
  unfold execTrainSetCheck
  with_reducible repeat' first | assumption | apply done_sound | intro _ | apply sound_ite | apply put_sound

theorem execMemoryTestStart_sound {quad value} {s : State} (h2 : s.Sound) :
    ResultSound (execMemoryTestStart quad value s) := by
  unfold execMemoryTestStart
  with_reducible repeat' first | assumption | apply done_sound | intro _ | apply testStart_sound

theorem execMemoryTestAbort_sound {quad} {s : State} (h1 : s.Sound) : ResultSound (execMemoryTestAbort quad s) := by
  unfold execMemoryTestAbort
  with_reducible repeat' first | assumption | apply done_sound | intro _ | apply testAbort_sound

theorem execRetentionHoldExpire_sound {quad} {s : State} (h1 : s.Sound) :
    ResultSound (execRetentionHoldExpire quad s) := by
  unfold execRetentionHoldExpire
  with_reducible repeat' first | assumption | apply done_sound | intro _ | apply holdExpire_sound

theorem execMemoryTestDone_sound {quad bad} {s : State} (h2 : s.Sound) :
    ResultSound (execMemoryTestDone quad bad s) := by
  unfold execMemoryTestDone
  with_reducible repeat' first | assumption | apply done_sound | intro _ | apply testDone_sound

theorem execPowerStateRequest_sound {target slot} {s : State} (h2 : s.Sound) :
    ResultSound (execPowerStateRequest target slot s) := by
  unfold execPowerStateRequest
  with_reducible repeat' first
    | assumption | apply done_sound | intro _ | apply powerRequest_sound | apply auditWrite_sound
    | apply touchSlot_sound | split | simp only [sound_mk_iff]

theorem execWakeEvent_sound {cycles seen} {s : State} (h2 : s.Sound) : ResultSound (execWakeEvent cycles seen s) := by
  unfold execWakeEvent
  with_reducible repeat' first | assumption | apply done_sound | intro _ | apply wakeEvent_sound

theorem execWakeTimerMatch_sound {s : State} (h0 : s.Sound) : ResultSound (execWakeTimerMatch s) := by
  unfold execWakeTimerMatch
  with_reducible repeat' first | assumption | apply done_sound | intro _ | simp only [sound_mk_iff]

end Sys2Proof.Machine.State
end

