-- ==== Sys2Proof/Laws/Sound/Authority.lean ====
section
/-! SUPPORT. Each operation of `Sys2Proof/Machine/Authority.lean` gives a sound state on a sound state. -/

namespace Sys2Proof.Machine.State

set_option linter.unusedTactic false
set_option linter.unreachableTactic false

theorem authAfter_sound {s : State} {old : State} {a} (h0 : s.Sound) (h1 : old.Sound) : (authAfter s old a).Sound := by
  unfold authAfter
  with_reducible repeat' first
    | assumption | intro _ | apply sound_foldl | apply sound_ite | apply sound_foldl_fst | apply sound_foldl_snd
    | apply sound_ite_snd | apply onGuard_sound | apply guardChannel_sound | apply pinDrive_sound
    | apply driftClose_sound | apply guardScan_sound | dsimp only | split | simp only [sound_mk_iff]

theorem authPut_sound {s : State} {slot a w} (h0 : s.Sound) : (authPut s slot a w).1.Sound := by
  unfold authPut
  with_reducible repeat' first
    | assumption | intro _ | apply sound_ite | apply sound_ite_fst | apply log_sound | apply setReg_sound
    | apply put_sound | apply refusal_sound | apply audit_sound | apply wipeStart_sound | apply injectArm_sound
    | apply injectDisarm_sound | apply authAfter_sound | dsimp only | split

theorem authGo_sound {s : State} {slot} (h0 : s.Sound) : (authGo s slot).Sound := by
  unfold authGo
  with_reducible repeat' first
    | assumption | intro _ | apply authPut_sound | apply touchSlot_sound | apply put_sound | dsimp only | split
    | refine sound_fst ?_ (by assumption)

theorem lifecycleRequest_sound {s : State} {slot v} (h0 : s.Sound) : (lifecycleRequest s slot v).Sound := by
  unfold lifecycleRequest
  with_reducible repeat' first
    | assumption | intro _ | apply sound_ite | apply lowRole_sound | apply reply_sound | apply refusal_sound
    | apply conflict_sound | apply onSec_sound | dsimp only | simp only [sound_mk_iff]

theorem returnDevice_sound {s : State} (h0 : s.Sound) : (returnDevice s).Sound := by
  unfold returnDevice
  with_reducible repeat' first
    | assumption | intro _ | apply imagesShow_sound | apply erase_sound | apply fillStart_sound | apply onMemories_sound
    | apply clearMem_sound | dsimp only | simp only [sound_mk_iff]

theorem flashDefaults_sound {s : State} (h0 : s.Sound) : (flashDefaults s).Sound := by
  unfold flashDefaults
  with_reducible repeat' first
    | assumption | intro _ | apply sound_foldl | apply sound_foldl_fst | apply sound_foldl_snd | apply sound_ite_snd
    | apply objTake_sound

theorem lifecycleConfirm_sound {s : State} {slot v} (h0 : s.Sound) : (lifecycleConfirm s slot v).Sound := by
  unfold lifecycleConfirm
  with_reducible repeat' first
    | assumption | intro _ | apply sound_ite | apply lowRole_sound | apply conflict_sound | apply log_sound
    | apply put_sound | apply audit_sound | apply returnDevice_sound | apply flashDefaults_sound | apply reply_sound
    | apply wipeStart_sound | apply onSec_sound | dsimp only | split | simp only [sound_mk_iff]

theorem lifecycleTimeout_sound {s : State} (h0 : s.Sound) : (lifecycleTimeout s).Sound := by
  unfold lifecycleTimeout
  with_reducible repeat' first
    | assumption | intro _ | apply onSec_sound | apply reach_sound | split | simp only [sound_mk_iff]

theorem execAuthWrite_sound {slot} {s : State} (h1 : s.Sound) : ResultSound (execAuthWrite slot s) := by
  unfold execAuthWrite
  with_reducible repeat' first | assumption | apply done_sound | intro _ | apply authGo_sound

theorem execLifecycleRequest_sound {slot target} {s : State} (h2 : s.Sound) :
    ResultSound (execLifecycleRequest slot target s) := by
  unfold execLifecycleRequest
  with_reducible repeat' first
    | assumption | apply done_sound | intro _ | apply auditWrite_sound | apply lifecycleRequest_sound
    | apply touchSlot_sound

theorem execLifecycleConfirm_sound {slot value} {s : State} (h2 : s.Sound) :
    ResultSound (execLifecycleConfirm slot value s) := by
  unfold execLifecycleConfirm
  with_reducible repeat' first
    | assumption | apply done_sound | intro _ | apply auditWrite_sound | apply lifecycleConfirm_sound
    | apply touchSlot_sound

theorem execLifecycleConfirmTimeout_sound {s : State} (h0 : s.Sound) : ResultSound (execLifecycleConfirmTimeout s) := by
  unfold execLifecycleConfirmTimeout
  with_reducible repeat' first | assumption | apply done_sound | intro _ | apply lifecycleTimeout_sound

end Sys2Proof.Machine.State
end

