-- ==== Sys2Proof/Laws/Sound/Dictionary.lean ====
section
/-! SUPPORT. Each operation of `Sys2Proof/Machine/Dictionary.lean` gives a sound state on a sound state. -/

namespace Sys2Proof.Machine.State

set_option linter.unusedTactic false
set_option linter.unreachableTactic false

theorem noObject_sound {s : State} {index} (h0 : s.Sound) : (noObject s index).Sound := by
  unfold noObject
  with_reducible repeat' first | assumption | intro _ | apply sound_ite | apply reply_sound

theorem outOfRange_sound {s : State} {index sub} (h0 : s.Sound) : (outOfRange s index sub).Sound := by
  unfold outOfRange
  with_reducible repeat' first | assumption | intro _ | apply reply_sound | apply refusal_sound

theorem turnDown_sound {s : State} {reason index sub} (h0 : s.Sound) : (turnDown s reason index sub).Sound := by
  unfold turnDown
  with_reducible repeat' first | assumption | intro _ | apply sound_ite | apply outOfRange_sound | apply conflict_sound

theorem dictRead_sound {s : State} {slot index sub len} (h0 : s.Sound) : (dictRead s slot index sub len).Sound := by
  unfold dictRead
  with_reducible repeat' first
    | assumption | intro _ | apply sound_ite | apply noObject_sound | apply auditWrite_sound | apply lowRole_sound
    | apply reply_sound | apply refusal_sound | apply exportRead_sound | apply useFree_sound | split
    | simp only [sound_mk_iff]

theorem gateEnd_sound {s : State} {n st abort} (h0 : s.Sound) : (gateEnd s n st abort).Sound := by
  unfold gateEnd
  with_reducible repeat' first | assumption | intro _ | apply setObj_sound

theorem gateExecute_sound {s : State} {slot n v} (h0 : s.Sound) : (gateExecute s slot n v).Sound := by
  unfold gateExecute
  with_reducible repeat' first
    | assumption | intro _ | apply sound_ite | apply lowRole_sound | apply outOfRange_sound | apply conflict_sound
    | apply reply_sound | apply gateEnd_sound | apply tlkSend_sound | dsimp only | simp only [sound_mk_iff]

theorem gateTimeout_sound {s : State} {n} (h0 : s.Sound) : (gateTimeout s n).Sound := by
  unfold gateTimeout
  with_reducible repeat' first
    | assumption | intro _ | apply reach_sound | apply log_sound | apply gateEnd_sound | dsimp only | split
    | simp only [sound_mk_iff]

theorem gateResponse_sound {s : State} {n flits} (h0 : s.Sound) : (gateResponse s n flits).Sound := by
  unfold gateResponse
  with_reducible repeat' first
    | assumption | intro _ | apply sound_ite | apply gateEnd_sound | dsimp only | apply sound_id | split
    | simp only [sound_mk_iff]

theorem authObject_sound {s : State} {slot index sub v} {l : List RF} (h : s.Sound) :
    (authObject s slot index sub v l).Sound := by
  induction l generalizing s with
  | nil => exact reply_sound h
  | cons f r ih =>
    have hp := authPut_sound (slot := slot) (a := f.addr) (w := setF (s.reg f.addr) f.lo f.len v) h
    unfold authObject
    split
    · exact ih (sound_fst hp ‹_›)
    · exact reply_sound (sound_fst hp ‹_›)
    · exact sound_ite (conflict_sound (sound_fst hp ‹_›)) (outOfRange_sound (sound_fst hp ‹_›))

theorem driftReset_sound {s : State} {slot proj} (h0 : s.Sound) : (driftReset s slot proj).Sound := by
  unfold driftReset
  with_reducible repeat' first | assumption | intro _ | apply authObject_sound

theorem authOwn_sound {s : State} {slot index sub old new f} (h0 : s.Sound) (h6 : ∀ (a : State), a.Sound → (f a).Sound) :
    (authOwn s slot index sub old new f).Sound := by
  unfold authOwn
  with_reducible repeat' first
    | assumption | intro _ | apply sound_ite | apply reply_sound | apply audit_sound | apply h6

theorem sinkFollow_sound {s : State} {old : State} {n} (h0 : s.Sound) (h1 : old.Sound) :
    (sinkFollow s old n).Sound := by
  unfold sinkFollow
  with_reducible repeat' first
    | assumption | intro _ | apply sound_foldl | apply sound_ite | apply sound_foldl_fst | apply tpdoConfig_sound
    | split

theorem huskWrite_sound {s : State} {slot index sub v old data} (h0 : s.Sound) :
    (huskWrite s slot index sub v old data).Sound := by
  unfold huskWrite
  with_reducible repeat' first
    | assumption | intro _ | apply sound_ite | apply authOwn_sound | apply onSec_sound | apply setObj_sound
    | apply authObject_sound | apply sinkFollow_sound | dsimp only | split | simp only [sound_mk_iff]

theorem loginWrite_sound {s : State} {slot sub v data} (h0 : s.Sound) : (loginWrite s slot sub v data).Sound := by
  unfold loginWrite
  with_reducible repeat' first
    | assumption | intro _ | apply sound_foldl | apply sound_ite | apply sound_getD | apply sound_foldl_fst
    | apply reply_sound | apply loginChallenge_sound | apply setReg_sound | apply loginVerify_sound
    | apply loginStat_sound | apply endSession_sound | dsimp only | split | simp only [sound_mk_iff]

theorem modAnswer_sound {s : State} {x : State × Status} (h : s.Sound) (hx : x.1.Sound) : (modAnswer s x).Sound := by
  unfold modAnswer
  split
  · exact reply_sound hx
  · exact outOfRange_sound h
  · exact reply_sound hx

theorem commandWrite_sound {s : State} {slot index sub v data offset image saved} (h0 : s.Sound) :
    ∀ t, commandWrite s slot index sub v data offset image saved = some t → t.Sound := by
  unfold commandWrite
  with_reducible repeat' first
    | assumption | exact sound_none | refine sound_some ?_ | intro (_ : State) (_ : State.Sound _) _ | apply sound_foldl
    | apply sound_ite | apply sound_foldl_fst | apply outOfRange_sound | apply reply_sound | apply setObj_sound
    | apply storeParams_sound | apply restoreDefaults_sound | apply lifecycleRequest_sound
    | apply lifecycleConfirm_sound | apply loginWrite_sound | apply powerRequest_sound | apply turnDown_sound
    | apply halfRequest_sound | apply conflict_sound | apply fullStart_sound | apply progEnd_sound
    | apply loadFlash_sound | apply imageUnload_sound | apply loadDram_sound | apply commit_sound
    | apply stageClear_sound | apply runObject_sound | apply stepHalt_sound | apply switchRequest_sound
    | apply driftReset_sound | apply modAnswer_sound | apply modPush_sound | apply hangStart_sound | apply authPut_sound
    | apply updateRole_sound | apply updateData_sound | apply updateBegin_sound | apply updateVerify_sound
    | apply updateActivate_sound | apply updateAbort_sound | apply gateExecute_sound | dsimp only | split
    | intro (_ : State) (_ : State.Sound _) | refine sound_fst ?_ (by assumption) | simp only [sound_mk_iff]

theorem pdoWrite_sound {s : State} {slot index sub v old data} (h0 : s.Sound) :
    (pdoWrite s slot index sub v old data).Sound := by
  unfold pdoWrite
  with_reducible repeat' first
    | assumption | intro _ | apply sound_ite | apply outOfRange_sound | apply reply_sound | apply audit_sound
    | apply keepWrite_sound | apply objTake_sound | dsimp only

theorem valueWrite_sound {s : State} {slot index sub v} (h0 : s.Sound) : (valueWrite s slot index sub v).Sound := by
  unfold valueWrite
  with_reducible repeat' first
    | assumption | intro _ | apply sound_selectors_put | apply sound_ite | apply turnDown_sound | apply reply_sound
    | apply withStaged_sound | apply conflict_sound | apply keepWrite_sound | apply objTake_sound | apply gpiGuard_sound
    | apply gpiGate_sound | dsimp only | split | refine stage_sound ?_ _ (by assumption) | simp only [sound_mk_iff]

theorem dictPut_sound {s : State} {slot index sub data offset image saved} (h0 : s.Sound) :
    (dictPut s slot index sub data offset image saved).Sound := by
  unfold dictPut
  with_reducible repeat' first
    | assumption | intro _ | apply sound_ite | apply noObject_sound | apply lowRole_sound | apply reply_sound
    | apply outOfRange_sound | apply refusal_sound | apply huskWrite_sound | apply pdoWrite_sound
    | apply valueWrite_sound | dsimp only | split | refine commandWrite_sound ?_ _ (by assumption)
    | simp only [sound_mk_iff]

theorem dictWrite_sound {s : State} {slot index sub data offset image saved} (h0 : s.Sound) :
    (dictWrite s slot index sub data offset image saved).Sound := by
  unfold dictWrite
  with_reducible repeat' first
    | assumption | intro _ | apply auditWrite_sound | apply dictPut_sound | apply touchSlot_sound | apply useFree_sound
    | dsimp only

theorem serveLogin_sound {s : State} {slot cmd data} (h0 : s.Sound) : (serveLogin s slot cmd data).Sound := by
  unfold serveLogin
  with_reducible repeat' first
    | assumption | intro _ | apply sound_ite | apply loginWrite_sound | apply reply_sound | dsimp only | split
    | simp only [sound_mk_iff]

theorem serve_sound {s : State} {slot cmd index sub len offset data image saved} (h0 : s.Sound) :
    (serve s slot cmd index sub len offset data image saved).1.Sound := by
  unfold serve
  with_reducible repeat' first
    | assumption | intro _ | apply sound_ite | apply sound_ite_fst | apply touchSlot_sound | apply dictRead_sound
    | apply dictWrite_sound | apply serveLogin_sound | apply useFree_sound | dsimp only | split
    | simp only [sound_mk_iff]

theorem proxyServe_sound {s : State} {flits image saved} (h0 : s.Sound) : (proxyServe s flits image saved).Sound := by
  unfold proxyServe
  with_reducible repeat' first
    | assumption | intro _ | apply sound_ite | apply setReg_sound | apply serve_sound | apply tlkSend_sound | dsimp only
    | split | refine sound_fst ?_ (by assumption)

theorem proxyTake_sound {s : State} {port image saved} (h0 : s.Sound) : (proxyTake s port image saved).Sound := by
  unfold proxyTake
  with_reducible repeat' first
    | assumption | intro _ | apply sound_ite | apply proxyServe_sound | apply gateResponse_sound | dsimp only | split
    | simp only [sound_mk_iff]

theorem execDictRead_sound {slot index sub len} {s : State} (h4 : s.Sound) :
    ResultSound (execDictRead slot index sub len s) := by
  unfold execDictRead
  with_reducible repeat' first | assumption | apply done_sound | intro _ | apply dictRead_sound | apply touchSlot_sound

theorem execDictWrite_sound {slot index sub data image saved} {s : State} (h6 : s.Sound) :
    ResultSound (execDictWrite slot index sub data image saved s) := by
  unfold execDictWrite
  with_reducible repeat' first | assumption | apply done_sound | intro _ | apply sound_getD | apply dictWrite_sound

theorem execDriftReset_sound {slot} {s : State} (h1 : s.Sound) : ResultSound (execDriftReset slot s) := by
  unfold execDriftReset
  with_reducible repeat' first | assumption | apply done_sound | intro _ | apply dictWrite_sound

theorem execGatewayExecute_sound {slot worker value} {s : State} (h3 : s.Sound) :
    ResultSound (execGatewayExecute slot worker value s) := by
  unfold execGatewayExecute
  with_reducible repeat' first
    | assumption | apply done_sound | intro _ | apply auditWrite_sound | apply gateExecute_sound | apply touchSlot_sound

theorem execGatewayTimeout_sound {worker} {s : State} (h1 : s.Sound) : ResultSound (execGatewayTimeout worker s) := by
  unfold execGatewayTimeout
  with_reducible repeat' first | assumption | apply done_sound | intro _ | apply gateTimeout_sound

theorem execDictProxyReceive_sound {port image saved} {s : State} (h3 : s.Sound) :
    ResultSound (execDictProxyReceive port image saved s) := by
  unfold execDictProxyReceive
  with_reducible repeat' first | assumption | apply done_sound | intro _ | apply sound_getD | apply proxyTake_sound

end Sys2Proof.Machine.State
end

