-- ==== Sys2Proof/Laws/Sound/Field.lean ====
section
/-! SUPPORT. Each operation of `Sys2Proof/Machine/Field.lean` gives a sound state on a sound state. -/

namespace Sys2Proof.Machine.State

set_option linter.unusedTactic false
set_option linter.unreachableTactic false

theorem onField_sound {s : State} {f} (h0 : s.Sound) : (onField s f).Sound := by
  unfold onField
  with_reducible repeat' first | assumption | intro _ | simp only [sound_mk_iff]

theorem communicationReset_sound {s : State} (h : s.Sound) : (communicationReset s).Sound := by
  have h' : State.Sound { s with nmt := 127, field := Field.empty } :=
    sound_nmt h rfl rfl rfl rfl rfl rfl (.inl rfl)
  unfold communicationReset
  simp only [sound_mk_iff]
  exact recordReload_sound h'

theorem nmtTake_sound {s : State} {cmd node} (h : s.Sound) : (nmtTake s cmd node).Sound := by
  unfold nmtTake
  split
  · exact h
  · split
    · exact sound_nmt h rfl rfl rfl rfl rfl rfl (.inr (.inl rfl))
    · exact sound_nmt h rfl rfl rfl rfl rfl rfl (.inr (.inr rfl))
    · exact sound_nmt h rfl rfl rfl rfl rfl rfl (.inl rfl)
    · exact communicationReset_sound h
    · exact communicationReset_sound h
    · exact h

theorem tpdoFill_sound {s : State} {p} (h0 : s.Sound) : (tpdoFill s p).Sound := by
  unfold tpdoFill
  with_reducible repeat' first
    | assumption | intro _ | apply sound_foldl | apply sound_ite | apply sound_foldl_fst | apply sound_foldl_snd
    | apply sound_ite_snd | apply putByte_sound | apply useFree_sound | dsimp only | split

theorem tpdoSend_sound {s : State} {c n} (h0 : s.Sound) : (tpdoSend s c n).Sound := by
  unfold tpdoSend
  with_reducible repeat' first | assumption | intro _ | apply tpdoFire_sound | apply tpdoFill_sound

theorem operatorWrite_sound {s : State} {index sub data} (h0 : s.Sound) : (operatorWrite s index sub data).Sound := by
  unfold operatorWrite
  with_reducible repeat' first | assumption | intro _ | apply setReg_sound | apply dictPut_sound | dsimp only

theorem rpdoObject_sound {s : State} {p index sub data} (h0 : s.Sound) : (rpdoObject s p index sub data).Sound := by
  unfold rpdoObject
  with_reducible repeat' first
    | assumption | intro _ | apply sound_ite | apply operatorWrite_sound | apply onField_sound | dsimp only
    | simp only [sound_mk_iff]

theorem rpdoApply_sound {s : State} {p data} (h0 : s.Sound) : (rpdoApply s p data).Sound := by
  unfold rpdoApply
  with_reducible repeat' first
    | assumption | intro _ | apply sound_foldl | apply sound_ite | apply sound_foldl_fst | apply rpdoObject_sound
    | dsimp only

theorem auditFlush_sound {s : State} (h0 : s.Sound) : (auditFlush s).Sound := by
  unfold auditFlush
  with_reducible repeat' first
    | assumption | intro _ | apply onField_sound | apply reach_sound | apply audit_sound | dsimp only | split
    | simp only [sound_mk_iff]

theorem rpdoTake_sound {s : State} {p data} (h0 : s.Sound) : (rpdoTake s p data).Sound := by
  unfold rpdoTake
  with_reducible repeat' first
    | assumption | intro _ | apply sound_ite | apply onField_sound | apply rpdoApply_sound | simp only [sound_mk_iff]

theorem syncTake_sound {s : State} (h0 : s.Sound) : (syncTake s).Sound := by
  unfold syncTake
  with_reducible repeat' first
    | assumption | intro _ | apply sound_foldl | apply sound_ite | apply sound_foldl_fst | apply sound_foldl_snd
    | apply sound_ite_snd | apply onField_sound | apply rpdoApply_sound | apply tpdoSend_sound | dsimp only
    | simp only [sound_mk_iff]

theorem layerTake_sound {s : State} {c f} (h0 : s.Sound) : ∀ t, layerTake s c f = some t → t.Sound := by
  unfold layerTake
  with_reducible repeat' first
    | assumption | exact sound_none | refine sound_some ?_ | intro (_ : State) (_ : State.Sound _) _ | apply sound_foldl
    | apply sound_ite | apply sound_getD | apply sound_foldl_fst | apply nmtTake_sound | apply syncTake_sound
    | apply onField_sound | apply rpdoTake_sound | dsimp only | apply sound_id | split
    | intro (_ : State) (_ : State.Sound _) | simp only [sound_mk_iff]

theorem frameReceive_sound {s : State} {c f remote} (h0 : s.Sound) : (frameReceive s c f remote).Sound := by
  unfold frameReceive
  with_reducible repeat' first
    | assumption | intro _ | apply sound_ite | apply sound_getD | apply canTake_sound | apply rxStore_sound | split
    | refine layerTake_sound ?_ _ (by assumption) | refine sound_fst ?_ (by assumption) | simp only [sound_mk_iff]

theorem heartbeat_sound {s : State} (h0 : s.Sound) : (heartbeat s).Sound := by
  unfold heartbeat
  with_reducible repeat' first | assumption | intro _ | apply sound_ite | apply canSend_sound

theorem nodeLost_sound {s : State} {entry slot} (h0 : s.Sound) : (nodeLost s entry slot).Sound := by
  unfold nodeLost
  with_reducible repeat' first
    | assumption | intro _ | apply sound_ite | apply onField_sound | apply reach_sound | apply log_sound
    | apply endSession_sound | dsimp only | split | simp only [sound_mk_iff]

theorem execCanFrameReceive_sound {bus frame remote} {s : State} (h3 : s.Sound) :
    ResultSound (execCanFrameReceive bus frame remote s) := by
  unfold execCanFrameReceive
  with_reducible repeat' first | assumption | apply done_sound | intro _ | apply frameReceive_sound

theorem execTpdoTrigger_sound {bus tpdo} {s : State} (h2 : s.Sound) : ResultSound (execTpdoTrigger bus tpdo s) := by
  unfold execTpdoTrigger
  with_reducible repeat' first | assumption | apply done_sound | intro _ | apply tpdoSend_sound

theorem execRpdoAuditFlush_sound {s : State} (h0 : s.Sound) : ResultSound (execRpdoAuditFlush s) := by
  unfold execRpdoAuditFlush
  with_reducible repeat' first | assumption | apply done_sound | intro _ | apply auditFlush_sound

theorem execHeartbeatProduce_sound {s : State} (h0 : s.Sound) : ResultSound (execHeartbeatProduce s) := by
  unfold execHeartbeatProduce
  with_reducible repeat' first | assumption | apply done_sound | intro _ | apply heartbeat_sound

theorem execHeartbeatConsumerTimeout_sound {entry slot} {s : State} (h2 : s.Sound) :
    ResultSound (execHeartbeatConsumerTimeout entry slot s) := by
  unfold execHeartbeatConsumerTimeout
  with_reducible repeat' first | assumption | apply done_sound | intro _ | apply nodeLost_sound

theorem execErrorRegisterClear_sound {bit} {s : State} (h1 : s.Sound) : ResultSound (execErrorRegisterClear bit s) := by
  unfold execErrorRegisterClear
  with_reducible repeat' first | assumption | apply done_sound | intro _ | apply errorClear_sound

end Sys2Proof.Machine.State
end

