-- ==== Sys2Proof/Laws/Sound/Timebase.lean ====
section
/-! SUPPORT. Each operation of `Sys2Proof/Machine/Timebase.lean` gives a sound state on a sound state. -/

namespace Sys2Proof.Machine.State

set_option linter.unusedTactic false
set_option linter.unreachableTactic false

theorem tbLoad_sound {s : State} (h0 : s.Sound) : (tbLoad s).Sound := by
  unfold tbLoad
  with_reducible repeat' first | assumption | intro _ | apply sound_ite | apply put_sound | apply tbMove_sound

theorem onRate_sound {s : State} {f} (h0 : s.Sound) : (onRate s f).Sound := by
  unfold onRate
  with_reducible repeat' first | assumption | intro _ | simp only [sound_mk_iff]

theorem reachTick_sound {s : State} {k} (h0 : s.Sound) : (reachTick s k).Sound := by
  unfold reachTick
  with_reducible repeat' first | assumption | intro _ | apply reach_sound

theorem tick_sound {s : State} {double} (h0 : s.Sound) : (tick s double).Sound := by
  unfold tick
  with_reducible repeat' first
    | assumption | intro _ | apply sound_ite | apply onRate_sound | apply put64_sound | dsimp only
    | simp only [sound_mk_iff]

theorem rateFold_sound {s : State} (h0 : s.Sound) : (rateFold s).Sound := by
  unfold rateFold
  with_reducible repeat' first | assumption | intro _ | apply onRate_sound | dsimp only | simp only [sound_mk_iff]

theorem slewCode_sound {s : State} (h0 : s.Sound) : (slewCode s).Sound := by
  unfold slewCode
  with_reducible repeat' first
    | assumption | intro _ | apply sound_ite | apply reachTick_sound | apply onRate_sound | apply put_sound
    | apply tick_sound | dsimp only | split | simp only [sound_mk_iff]

theorem rateCode_sound {s : State} (h0 : s.Sound) : (rateCode s).Sound := by
  unfold rateCode
  with_reducible repeat' first
    | assumption | intro _ | apply sound_ite | apply reachTick_sound | apply onRate_sound | apply rateFold_sound
    | apply tick_sound | dsimp only | simp only [sound_mk_iff]

theorem replicaCompare_sound {s : State} {differs} (h0 : s.Sound) : (replicaCompare s differs).Sound := by
  unfold replicaCompare
  with_reducible repeat' first
    | assumption | intro _ | apply sound_foldl | apply sound_foldl_fst | apply reach_sound | apply put_sound
    | apply count_sound | apply detect_sound | apply log_sound | dsimp only

theorem compareFire_sound {s : State} {t} (h0 : s.Sound) : (compareFire s t).Sound := by
  unfold compareFire
  with_reducible repeat' first
    | assumption | intro _ | apply sound_ite | apply raise_sound | apply put_sound | apply reach_sound

theorem execTbLoad_sound {s : State} (h0 : s.Sound) : ResultSound (execTbLoad s) := by
  unfold execTbLoad
  with_reducible repeat' first | assumption | apply done_sound | intro _ | apply tbLoad_sound

theorem execTbSlewCode_sound {s : State} (h0 : s.Sound) : ResultSound (execTbSlewCode s) := by
  unfold execTbSlewCode
  with_reducible repeat' first | assumption | apply done_sound | intro _ | apply slewCode_sound

theorem execTbRateCode_sound {s : State} (h0 : s.Sound) : ResultSound (execTbRateCode s) := by
  unfold execTbRateCode
  with_reducible repeat' first | assumption | apply done_sound | intro _ | apply rateCode_sound

theorem execReplicaCompare_sound {differs} {s : State} (h1 : s.Sound) : ResultSound (execReplicaCompare differs s) := by
  unfold execReplicaCompare
  with_reducible repeat' first | assumption | apply done_sound | intro _ | apply replicaCompare_sound

theorem execTbCompareFire_sound {tile} {s : State} (h1 : s.Sound) : ResultSound (execTbCompareFire tile s) := by
  unfold execTbCompareFire
  with_reducible repeat' first | assumption | apply done_sound | intro _ | apply compareFire_sound

end Sys2Proof.Machine.State
end

