-- ==== Sys2Proof/Laws/Sound/Hierarchy.lean ====
section
/-! SUPPORT. Each operation of `Sys2Proof/Machine/Hierarchy.lean` gives a sound state on a sound state. -/

namespace Sys2Proof.Machine.State

set_option linter.unusedTactic false
set_option linter.unreachableTactic false

theorem syncFirst_sound {s : State} {port stype}  (h0 : s.Sound) :
    ∀ b t, syncFirst s port stype = some (b, t) → t.Sound := by
  unfold syncFirst
  with_reducible repeat' first
    | assumption | exact sound_none_snd | refine sound_some_snd ?_ | apply sound_getD | dsimp only | split
    | simp only [sound_mk_iff]

theorem onSync_sound {s : State} {port stype act} (h0 : s.Sound) (h3 : ∀ (a : State) b c, a.Sound → (act a b c).Sound) :
    (onSync s port stype act).Sound := by
  unfold onSync
  with_reducible repeat' first
    | assumption | intro _ | apply sound_getD | apply h3 | split | refine syncFirst_sound ?_ _ _ (by assumption)
    | simp only [sound_mk_iff]

theorem hierState_sound {s : State} {v} (h0 : s.Sound) : (hierState s v).Sound := by
  unfold hierState
  with_reducible repeat' first | assumption | intro _ | apply msix_sound | apply put_sound

theorem armWrite_sound {s : State} {f} (h0 : s.Sound) : (armWrite s f).Sound := by
  unfold armWrite
  with_reducible repeat' first | assumption | intro _ | apply put_sound | apply put64_sound | dsimp only

theorem rejoined_sound {s : State} {step} (h0 : s.Sound) : (rejoined s step).Sound := by
  unfold rejoined
  with_reducible repeat' first
    | assumption | intro _ | apply sound_ite | apply log_sound | apply hierState_sound | apply put64_sound

theorem syncArm_sound {s : State} {port} (h0 : s.Sound) : (syncArm s port).Sound := by
  unfold syncArm
  with_reducible repeat' first
    | assumption | intro _ | apply sound_ite | apply onSync_sound | apply put_sound | apply rejoined_sound
    | apply freshBase_sound | apply armWrite_sound | apply switchSent_sound | apply placeHeld_sound
    | apply onClock_sound | apply setPhase_sound | apply launch_sound | apply put64_sound | apply log_sound
    | apply count_sound | dsimp only | simp only [sound_mk_iff]

theorem syncWave_sound {s : State} {port} (h0 : s.Sound) : (syncWave s port).Sound := by
  unfold syncWave
  with_reducible repeat' first
    | assumption | intro _ | apply sound_foldl | apply sound_ite | apply sound_foldl_fst | apply sound_foldl_snd
    | apply sound_ite_snd | apply onSync_sound | apply drainDead_sound | apply syncSend_sound | dsimp only

theorem syncUpdate_sound {s : State} {port} (h0 : s.Sound) : (syncUpdate s port).Sound := by
  unfold syncUpdate
  with_reducible repeat' first
    | assumption | intro _ | apply sound_ite | apply onSync_sound | apply forceClose_sound
    | apply declareQuiescence_sound

theorem voteOut_sound {s : State} {port reason} (h0 : s.Sound) : (voteOut s port reason).Sound := by
  unfold voteOut
  with_reducible repeat' first | assumption | intro _ | apply syncSend_sound

theorem syncSwitch_sound {s : State} {port} (h0 : s.Sound) : (syncSwitch s port).Sound := by
  unfold syncSwitch
  with_reducible repeat' first
    | assumption | intro _ | apply sound_ite | apply onSync_sound | apply switchWithdraw_sound | apply voteOut_sound
    | apply switchRefuse_sound | apply switchAccept_sound | dsimp only

theorem isolate_sound {s : State} {cause} (h0 : s.Sound) : (isolate s cause).Sound := by
  unfold isolate
  with_reducible repeat' first
    | assumption | intro _ | apply sound_ite | apply log_sound | apply hierState_sound | apply reach_sound
    | apply forceClose_sound | apply stepHalt_sound | apply afterClose_sound | dsimp only | split
    | simp only [sound_mk_iff]

theorem syncResult_sound {s : State} {port} (h0 : s.Sound) : (syncResult s port).Sound := by
  unfold syncResult
  with_reducible repeat' first
    | assumption | intro _ | apply sound_ite | apply onSync_sound | apply waveEnd_sound | apply onClock_sound
    | dsimp only | split | simp only [sound_mk_iff]

theorem syncDone_sound {s : State} {port} (h0 : s.Sound) : (syncDone s port).Sound := by
  unfold syncDone
  with_reducible repeat' first
    | assumption | intro _ | apply sound_foldl | apply sound_ite | apply sound_getD | apply sound_foldl_fst
    | apply onSync_sound | apply onClock_sound | apply onDelivery_sound | dsimp only | simp only [sound_mk_iff]

theorem syncVote_sound {s : State} {port} (h0 : s.Sound) : (syncVote s port).Sound := by
  unfold syncVote
  with_reducible repeat' first | assumption | intro _ | apply onSync_sound | apply voteTake_sound

theorem syncRejoin_sound {s : State} {port} (h0 : s.Sound) : (syncRejoin s port).Sound := by
  unfold syncRejoin
  with_reducible repeat' first
    | assumption | intro _ | apply sound_ite | apply onSync_sound | apply onClock_sound | simp only [sound_mk_iff]

theorem workerLost_sound {s : State} {n} (h0 : s.Sound) : (workerLost s n).Sound := by
  unfold workerLost
  with_reducible repeat' first
    | assumption | intro _ | apply sound_ite | apply reach_sound | apply log_sound | apply msix_sound | apply put_sound
    | apply voteTake_sound | apply forceClose_sound | dsimp only

theorem timeFlit_sound {s : State} {port kind a b} (h0 : s.Sound) : (timeFlit s port kind a b).Sound := by
  unfold timeFlit
  with_reducible repeat' first | assumption | intro _ | apply flitOut_sound

theorem timeStart_sound {s : State} {port} (h0 : s.Sound) : (timeStart s port).Sound := by
  unfold timeStart
  with_reducible repeat' first
    | assumption | intro _ | apply sound_ite | apply reach_sound | apply onTlk_sound | apply timeFlit_sound | dsimp only
    | split | simp only [sound_mk_iff]

theorem rejoin_sound {s : State} (h0 : s.Sound) : (rejoin s).Sound := by
  unfold rejoin
  with_reducible repeat' first
    | assumption | intro _ | apply sound_ite | apply syncSend_sound | apply onTlk_sound | apply stepHalt_sound
    | apply hierState_sound | dsimp only | simp only [sound_mk_iff]

theorem discipline_sound {s : State} {port t1 t2 t3 t4} (h0 : s.Sound) : (discipline s port t1 t2 t3 t4).Sound := by
  unfold discipline
  with_reducible repeat' first
    | assumption | intro _ | apply sound_ite | apply put_sound | apply tbMove_sound | apply setReg_sound
    | apply rateFold_sound | apply onTlk_sound | apply raise_sound | apply log_sound | apply rejoin_sound | dsimp only
    | simp only [sound_mk_iff]

theorem timeTake_sound {s : State} {port f} (h0 : s.Sound) : (timeTake s port f).Sound := by
  unfold timeTake
  with_reducible repeat' first
    | assumption | intro _ | apply sound_ite | apply count_sound | apply onTlk_sound | apply timeFlit_sound
    | apply discipline_sound | split | simp only [sound_mk_iff]

theorem execSyncArmReceive_sound {port} {s : State} (h1 : s.Sound) : ResultSound (execSyncArmReceive port s) := by
  unfold execSyncArmReceive
  with_reducible repeat' first | assumption | apply done_sound | intro _ | apply syncArm_sound

theorem execSyncWaveReceive_sound {port} {s : State} (h1 : s.Sound) : ResultSound (execSyncWaveReceive port s) := by
  unfold execSyncWaveReceive
  with_reducible repeat' first | assumption | apply done_sound | intro _ | apply syncWave_sound

theorem execSyncResultReceive_sound {port} {s : State} (h1 : s.Sound) : ResultSound (execSyncResultReceive port s) := by
  unfold execSyncResultReceive
  with_reducible repeat' first | assumption | apply done_sound | intro _ | apply syncResult_sound

theorem execSyncUpdateReceive_sound {port} {s : State} (h1 : s.Sound) : ResultSound (execSyncUpdateReceive port s) := by
  unfold execSyncUpdateReceive
  with_reducible repeat' first | assumption | apply done_sound | intro _ | apply syncUpdate_sound

theorem execSyncDoneReceive_sound {port} {s : State} (h1 : s.Sound) : ResultSound (execSyncDoneReceive port s) := by
  unfold execSyncDoneReceive
  with_reducible repeat' first | assumption | apply done_sound | intro _ | apply syncDone_sound

theorem execSyncSwitchReceive_sound {port} {s : State} (h1 : s.Sound) : ResultSound (execSyncSwitchReceive port s) := by
  unfold execSyncSwitchReceive
  with_reducible repeat' first | assumption | apply done_sound | intro _ | apply syncSwitch_sound

theorem execSyncVoteReceive_sound {port} {s : State} (h1 : s.Sound) : ResultSound (execSyncVoteReceive port s) := by
  unfold execSyncVoteReceive
  with_reducible repeat' first | assumption | apply done_sound | intro _ | apply syncVote_sound

theorem execSyncRejoinReceive_sound {port} {s : State} (h1 : s.Sound) : ResultSound (execSyncRejoinReceive port s) := by
  unfold execSyncRejoinReceive
  with_reducible repeat' first | assumption | apply done_sound | intro _ | apply syncRejoin_sound

theorem execWorkerIsolate_sound {cause} {s : State} (h1 : s.Sound) : ResultSound (execWorkerIsolate cause s) := by
  unfold execWorkerIsolate
  with_reducible repeat' first | assumption | apply done_sound | intro _ | apply isolate_sound

theorem execWorkerLost_sound {worker} {s : State} (h1 : s.Sound) : ResultSound (execWorkerLost worker s) := by
  unfold execWorkerLost
  with_reducible repeat' first | assumption | apply done_sound | intro _ | apply workerLost_sound

theorem execTimeExchangeStart_sound {port} {s : State} (h1 : s.Sound) : ResultSound (execTimeExchangeStart port s) := by
  unfold execTimeExchangeStart
  with_reducible repeat' first | assumption | apply done_sound | intro _ | apply timeStart_sound

theorem execTimeFlitReceive_sound {port flit} {s : State} (h2 : s.Sound) :
    ResultSound (execTimeFlitReceive port flit s) := by
  unfold execTimeFlitReceive
  with_reducible repeat' first | assumption | apply done_sound | intro _ | apply timeTake_sound

end Sys2Proof.Machine.State
end

