-- ==== Sys2Proof/Laws/Sound/Host.lean ====
section
/-! SUPPORT. Each operation of `Sys2Proof/Machine/Host.lean` gives a sound state on a sound state. -/

namespace Sys2Proof.Machine.State

set_option linter.unusedTactic false
set_option linter.unreachableTactic false

theorem mailReply_sound {s : State} {st abort total d} (h0 : s.Sound) : (mailReply s st abort total d).Sound := by
  unfold mailReply
  with_reducible repeat' first
    | assumption | intro _ | apply wrBytes_sound | apply msix_sound | apply put_sound | dsimp only

theorem mailOverrun_sound {s : State} (h0 : s.Sound) : (mailOverrun s).Sound := by
  unfold mailOverrun
  with_reducible repeat' first | assumption | intro _ | apply log_sound | apply put_sound

theorem doorbell_sound {s : State} {image saved} (h0 : s.Sound) : (doorbell s image saved).Sound := by
  unfold doorbell
  with_reducible repeat' first
    | assumption | intro _ | apply sound_ite | apply mailOverrun_sound | apply serve_sound | apply mailReply_sound
    | dsimp only | split | refine sound_fst ?_ (by assumption)

theorem dmaShow_sound {s : State} {c} (h0 : s.Sound) : (dmaShow s c).Sound := by
  unfold dmaShow
  with_reducible repeat' first | assumption | intro _ | apply sound_ite | apply put_sound

theorem dmaTail_sound {s : State} {c v} (h0 : s.Sound) : (dmaTail s c v).Sound := by
  unfold dmaTail
  with_reducible repeat' first
    | assumption | intro _ | apply sound_ite | apply dmaShow_sound | apply put_sound | dsimp only
    | simp only [sound_mk_iff]

theorem dmaTaken_sound {s : State} {c} (h0 : s.Sound) : (dmaTaken s c).Sound := by
  unfold dmaTaken
  with_reducible repeat' first | assumption | intro _ | apply sound_ite | dsimp only | split | simp only [sound_mk_iff]

theorem dmaResume_sound {s : State} {c} (h0 : s.Sound) : (dmaResume s c).Sound := by
  unfold dmaResume
  with_reducible repeat' first | assumption | intro _ | apply dmaShow_sound | apply put_sound

theorem dmaDone_sound {s : State} {c ctrl len host dev data bad} (h0 : s.Sound) :
    (dmaDone s c ctrl len host dev data bad).Sound := by
  unfold dmaDone
  with_reducible repeat' first
    | assumption | intro _ | apply sound_ite | apply dmaTaken_sound | apply emitOut_sound | apply wrBytes_sound
    | apply put_sound | apply count_sound | apply log_sound | apply msix_sound | apply dmaShow_sound | dsimp only
    | split

theorem hostWindow_sound {s : State} {v} (h0 : s.Sound) : (hostWindow s v).Sound := by
  unfold hostWindow
  with_reducible repeat' first | assumption | intro _ | apply sound_ite | apply put_sound

theorem oringRead_sound {s : State} {v} (h0 : s.Sound) : (oringRead s v).Sound := by
  unfold oringRead
  with_reducible repeat' first | assumption | intro _ | apply put_sound

theorem pcieReset_sound {s : State} {kind} (h0 : s.Sound) : (pcieReset s kind).Sound := by
  unfold pcieReset
  with_reducible repeat' first
    | assumption | intro _ | apply sound_foldl | apply sound_ite | apply sound_foldl_fst | apply setReg_sound
    | apply put_sound | apply clearMem_sound | apply log_sound | apply endSession_sound | dsimp only
    | simp only [sound_mk_iff]

theorem pcieUp_sound {s : State} {speed width bme} (h0 : s.Sound) : (pcieUp s speed width bme).Sound := by
  unfold pcieUp
  with_reducible repeat' first | assumption | intro _ | apply sound_ite | apply put_sound

theorem execMailboxDoorbell_sound {image saved} {s : State} (h2 : s.Sound) :
    ResultSound (execMailboxDoorbell image saved s) := by
  unfold execMailboxDoorbell
  with_reducible repeat' first | assumption | apply done_sound | intro _ | apply sound_getD | apply doorbell_sound

theorem execDmaTailWrite_sound {channel index} {s : State} (h2 : s.Sound) :
    ResultSound (execDmaTailWrite channel index s) := by
  unfold execDmaTailWrite
  with_reducible repeat' first | assumption | apply done_sound | intro _ | apply dmaTail_sound

theorem execDmaDescriptorDone_sound {channel ctrl length host dev data error} {s : State} (h7 : s.Sound) :
    ResultSound (execDmaDescriptorDone channel ctrl length host dev data error s) := by
  unfold execDmaDescriptorDone
  with_reducible repeat' first | assumption | apply done_sound | intro _ | apply dmaDone_sound

theorem execDmaResume_sound {channel} {s : State} (h1 : s.Sound) : ResultSound (execDmaResume channel s) := by
  unfold execDmaResume
  with_reducible repeat' first | assumption | apply done_sound | intro _ | apply dmaResume_sound

theorem execHostWinBaseWrite_sound {gib} {s : State} (h1 : s.Sound) : ResultSound (execHostWinBaseWrite gib s) := by
  unfold execHostWinBaseWrite
  with_reducible repeat' first | assumption | apply done_sound | intro _ | apply hostWindow_sound

theorem execHostOringReadWrite_sound {index} {s : State} (h1 : s.Sound) :
    ResultSound (execHostOringReadWrite index s) := by
  unfold execHostOringReadWrite
  with_reducible repeat' first | assumption | apply done_sound | intro _ | apply oringRead_sound

theorem execPcieReset_sound {kind} {s : State} (h1 : s.Sound) : ResultSound (execPcieReset kind s) := by
  unfold execPcieReset
  with_reducible repeat' first | assumption | apply done_sound | intro _ | apply pcieReset_sound

theorem execPcieLinkUp_sound {speed width bme} {s : State} (h3 : s.Sound) :
    ResultSound (execPcieLinkUp speed width bme s) := by
  unfold execPcieLinkUp
  with_reducible repeat' first | assumption | apply done_sound | intro _ | apply pcieUp_sound

end Sys2Proof.Machine.State
end

