-- ==== Sys2Proof/Laws/Sound/Timer.lean ====
section
/-! SUPPORT. Each operation of `Sys2Proof/Machine/Timer.lean` gives a sound state on a sound state. -/

namespace Sys2Proof.Machine.State

set_option linter.unusedTactic false
set_option linter.unreachableTactic false

theorem onTimers_sound {s : State} {f} (h0 : s.Sound) : (onTimers s f).Sound := by
  unfold onTimers
  with_reducible repeat' first | assumption | intro _ | simp only [sound_mk_iff]

theorem tmrCapture_sound {s : State} {t b} (h0 : s.Sound) : (tmrCapture s t b).Sound := by
  unfold tmrCapture
  with_reducible repeat' first
    | assumption | intro _ | apply sound_ite | apply raise_sound | apply put_sound | apply put64_sound | dsimp only

theorem tmrRaise_sound {s : State} {t ev} (h0 : s.Sound) : (tmrRaise s t ev).Sound := by
  unfold tmrRaise
  with_reducible repeat' first
    | assumption | intro _ | apply sound_ite | apply raise_sound | apply put_sound | apply onTimers_sound | dsimp only
    | simp only [sound_mk_iff]

theorem tmrCompare_sound {s : State} {t old} (h0 : s.Sound) : (tmrCompare s t old).Sound := by
  unfold tmrCompare
  with_reducible repeat' first | assumption | intro _ | apply sound_foldl | apply sound_foldl_fst | apply tmrRaise_sound

theorem tmrAdvance_sound {s : State} {t n} (h0 : s.Sound) : (tmrAdvance s t n).1.Sound := by
  unfold tmrAdvance
  with_reducible repeat' first
    | assumption | intro _ | apply sound_ite | apply sound_ite_fst | apply put64_sound | apply onTimers_sound
    | apply tmrRaise_sound | apply tmrCompare_sound | dsimp only | split | simp only [sound_mk_iff]

theorem tmrEvents_sound {s : State} {t n} (h0 : s.Sound) : (tmrEvents s t n).Sound := by
  unfold tmrEvents
  with_reducible repeat' first
    | assumption | intro _ | apply sound_foldl | apply sound_ite | apply sound_foldl_fst | apply sound_foldl_snd
    | apply sound_ite_snd | apply tmrAdvance_sound | apply put_sound | dsimp only | split
    | refine sound_fst ?_ (by assumption)

theorem tmrStart_sound {s : State} {t} (h0 : s.Sound) : (tmrStart s t).Sound := by
  unfold tmrStart
  with_reducible repeat' first
    | assumption | intro _ | apply sound_foldl | apply sound_foldl_fst | apply tmrRaise_sound | apply put_sound
    | apply tmrEvents_sound | dsimp only

theorem tmrStop_sound {s : State} {t} (h0 : s.Sound) : (tmrStop s t).Sound := by
  unfold tmrStop
  with_reducible repeat' first | assumption | intro _ | apply put_sound

theorem tmrSet_sound {s : State} {t v} (h0 : s.Sound) : (tmrSet s t v).Sound := by
  unfold tmrSet
  with_reducible repeat' first | assumption | intro _ | apply tmrCompare_sound | apply put64_sound

theorem slaveAct_sound {s : State} {t} (h0 : s.Sound) : (slaveAct s t).Sound := by
  unfold slaveAct
  with_reducible repeat' first
    | assumption | intro _ | apply sound_ite | apply onTimers_sound | apply tmrStart_sound | apply tmrStop_sound
    | apply tmrSet_sound | apply tmrCapture_sound | dsimp only | split | simp only [sound_mk_iff]

theorem capFrom_sound {s : State} {t b source} (h0 : s.Sound) : (capFrom s t b source).Sound := by
  unfold capFrom
  with_reducible repeat' first
    | assumption | intro _ | apply sound_ite | apply tmrCapture_sound | apply onTimers_sound | dsimp only
    | simp only [sound_mk_iff]

theorem headRead_sound {s : State} {t} (h0 : s.Sound) : (headRead s t).Sound := by
  unfold headRead
  with_reducible repeat' first
    | assumption | intro _ | apply sound_foldl | apply sound_ite | apply sound_foldl_fst | apply put64_sound
    | apply latchLow_sound | dsimp only

theorem capRead_sound {s : State} {t b} (h0 : s.Sound) : (capRead s t b).Sound := by
  unfold capRead
  with_reducible repeat' first | assumption | intro _ | apply sound_ite | apply put_sound | apply latchLow_sound

theorem tmrConfig_sound {s : State} {t which v} (h0 : s.Sound) : (tmrConfig s t which v).Sound := by
  unfold tmrConfig
  with_reducible repeat' first
    | assumption | intro _ | apply sound_ite | apply sound_getD | apply writePlain_sound | apply put_sound | dsimp only
    | split

theorem execTimerCountEvent_sound {timer events} {s : State} (h2 : s.Sound) :
    ResultSound (execTimerCountEvent timer events s) := by
  unfold execTimerCountEvent
  with_reducible repeat' first | assumption | apply done_sound | intro _ | apply sound_ite | apply tmrEvents_sound

theorem execTimerStart_sound {timer} {s : State} (h1 : s.Sound) : ResultSound (execTimerStart timer s) := by
  unfold execTimerStart
  with_reducible repeat' first | assumption | apply done_sound | intro _ | apply tmrStart_sound

theorem execTimerStop_sound {timer} {s : State} (h1 : s.Sound) : ResultSound (execTimerStop timer s) := by
  unfold execTimerStop
  with_reducible repeat' first | assumption | apply done_sound | intro _ | apply tmrStop_sound

theorem execTimerReset_sound {timer} {s : State} (h1 : s.Sound) : ResultSound (execTimerReset timer s) := by
  unfold execTimerReset
  with_reducible repeat' first | assumption | apply done_sound | intro _ | apply tmrSet_sound

theorem execTimerResetStart_sound {timer} {s : State} (h1 : s.Sound) : ResultSound (execTimerResetStart timer s) := by
  unfold execTimerResetStart
  with_reducible repeat' first | assumption | apply done_sound | intro _ | apply tmrStart_sound | apply tmrSet_sound

theorem execTimerLoad_sound {timer} {s : State} (h1 : s.Sound) : ResultSound (execTimerLoad timer s) := by
  unfold execTimerLoad
  with_reducible repeat' first | assumption | apply done_sound | intro _ | apply tmrSet_sound

theorem execTimerCapture_sound {timer intoB} {s : State} (h2 : s.Sound) :
    ResultSound (execTimerCapture timer intoB s) := by
  unfold execTimerCapture
  with_reducible repeat' first | assumption | apply done_sound | intro _ | apply sound_ite | apply tmrCapture_sound

theorem execTimerSlaveAction_sound {timer} {s : State} (h1 : s.Sound) : ResultSound (execTimerSlaveAction timer s) := by
  unfold execTimerSlaveAction
  with_reducible repeat' first | assumption | apply done_sound | intro _ | apply slaveAct_sound

theorem execTimerCaptureSource_sound {timer intoB source} {s : State} (h3 : s.Sound) :
    ResultSound (execTimerCaptureSource timer intoB source s) := by
  unfold execTimerCaptureSource
  with_reducible repeat' first | assumption | apply done_sound | intro _ | apply capFrom_sound

theorem execTimerHeadRead_sound {timer} {s : State} (h1 : s.Sound) : ResultSound (execTimerHeadRead timer s) := by
  unfold execTimerHeadRead
  with_reducible repeat' first | assumption | apply done_sound | intro _ | apply headRead_sound

theorem execTimerCaptureRead_sound {timer ofB} {s : State} (h2 : s.Sound) :
    ResultSound (execTimerCaptureRead timer ofB s) := by
  unfold execTimerCaptureRead
  with_reducible repeat' first | assumption | apply done_sound | intro _ | apply capRead_sound

theorem execTimerConfigWrite_sound {timer which value} {s : State} (h3 : s.Sound) :
    ResultSound (execTimerConfigWrite timer which value s) := by
  unfold execTimerConfigWrite
  with_reducible repeat' first | assumption | apply done_sound | intro _ | apply tmrConfig_sound

end Sys2Proof.Machine.State
end

