-- ==== Sys2Proof/Laws/Sound/Registers.lean ====
section
/-! SUPPORT. Each operation of `Sys2Proof/Machine/Registers.lean` gives a sound state on a sound state. -/

namespace Sys2Proof.Machine.State

set_option linter.unusedTactic false
set_option linter.unreachableTactic false

theorem writeOpen_sound {s : State} {a w} (h0 : s.Sound) : (writeOpen s a w).Sound := by
  unfold writeOpen
  with_reducible repeat' first
    | assumption | intro _ | apply sound_ite | apply setReg_sound | split | simp only [sound_mk_iff]

theorem stepSetting_sound {s : State} {a w} (h0 : s.Sound) : (stepSetting s a w).Sound := by
  unfold stepSetting
  with_reducible repeat' first
    | assumption | intro _ | apply sound_ite | apply writePlain_sound | apply put_sound | dsimp only

theorem stepCtrl_sound {s : State} {w} (h0 : s.Sound) : (stepCtrl s w).Sound := by
  unfold stepCtrl
  with_reducible repeat' first
    | assumption | intro _ | apply sound_ite | apply writeOnly_sound | apply put_sound | apply stepHalt_sound
    | apply runWrite_sound | dsimp only | split

theorem writeStep_sound {s : State} {a w} (h0 : s.Sound) : (writeStep s a w).Sound := by
  unfold writeStep
  with_reducible repeat' first
    | assumption | intro _ | apply sound_ite | apply writePlain_sound | apply put_sound | apply stepCtrl_sound
    | apply stepSetting_sound | apply switchRequest_sound | dsimp only

theorem writeTb_sound {s : State} {a w} (h0 : s.Sound) : (writeTb s a w).Sound := by
  unfold writeTb
  with_reducible repeat' first
    | assumption | intro _ | apply sound_ite | apply writePlain_sound | apply rateFold_sound | apply tbLoad_sound
    | dsimp only

theorem writeNode_sound {s : State} {n a o w} (h0 : s.Sound) : (writeNode s n a o w).Sound := by
  unfold writeNode
  with_reducible repeat' first
    | assumption | intro _ | apply sound_ite | apply memberWrite_sound | apply arrive_sound | apply fileReport_sound
    | apply writePlain_sound

theorem writeRoot_sound {s : State} {a w} (h0 : s.Sound) : (writeRoot s a w).Sound := by
  unfold writeRoot
  with_reducible repeat' first
    | assumption | intro _ | apply sound_ite | apply redCfgWrite_sound | apply writePlain_sound | apply put_sound
    | apply modPush32_sound | apply writeNode_sound | dsimp only | refine sound_fst ?_ (by assumption)

theorem writeLoader_sound {s : State} {a w} (h0 : s.Sound) : (writeLoader s a w).Sound := by
  unfold writeLoader
  with_reducible repeat' first
    | assumption | intro _ | apply sound_ite | apply writePlain_sound | apply checkStart_sound | apply swapRequest_sound
    | apply standbyWritten_sound | dsimp only

theorem writeStream_sound {s : State} {a w} (h0 : s.Sound) : (writeStream s a w).Sound := by
  unfold writeStream
  with_reducible repeat' first
    | assumption | intro _ | apply sound_ite | apply writePlain_sound | apply put_sound | dsimp only | split

theorem writeDdr_sound {s : State} {a w} (h0 : s.Sound) : (writeDdr s a w).Sound := by
  unfold writeDdr
  with_reducible repeat' first
    | assumption | intro _ | apply sound_ite | apply writeOnly_sound | apply writePlain_sound | apply fullStart_sound
    | apply mapReform_sound | apply subRetire_sound | apply trainStep_sound | apply modeAccess_sound
    | apply testAbort_sound | apply testStart_sound | dsimp only | split

theorem writeHub_sound {s : State} {a w} (h0 : s.Sound) : (writeHub s a w).Sound := by
  unfold writeHub
  with_reducible repeat' first
    | assumption | intro _ | apply sound_ite | apply hubWrite_sound | apply ctxEnable_sound | apply ctxDisable_sound
    | apply put_sound | apply writePlain_sound | apply selEnable_sound | apply selAlign_sound | apply selRetrain_sound
    | apply selPost_sound | apply selCommand_sound | apply gpiGuard_sound | apply gpiGate_sound | dsimp only

theorem writeGuard_sound {s : State} {a w} (h0 : s.Sound) : (writeGuard s a w).Sound := by
  unfold writeGuard
  with_reducible repeat' first
    | assumption | intro _ | apply sound_ite | apply forceSafe_sound | apply oringRead_sound | apply guardValue_sound
    | apply writePlain_sound | dsimp only

theorem writeHost_sound {s : State} {src a w} (h0 : s.Sound) : (writeHost s src a w).Sound := by
  unfold writeHost
  with_reducible repeat' first
    | assumption | intro _ | apply sound_ite | apply setReg_sound | apply hostWindow_sound | apply oringRead_sound
    | apply writePlain_sound | apply dmaResume_sound | apply dmaShow_sound | apply dmaTail_sound | apply doorbell_sound
    | dsimp only | split | simp only [sound_mk_iff]

theorem writeTlk_sound {s : State} {a w} (h0 : s.Sound) : (writeTlk s a w).Sound := by
  unfold writeTlk
  with_reducible repeat' first
    | assumption | intro _ | apply sound_ite | apply writeOnly_sound | apply tlkEnable_sound | apply put_sound
    | apply tlkLock_sound | apply tlkRetrain_sound | apply sleepReq_sound | apply writePlain_sound | dsimp only | split
    | simp only [sound_mk_iff]

theorem writeCan_sound {s : State} {a w} (h0 : s.Sound) : (writeCan s a w).Sound := by
  unfold writeCan
  with_reducible repeat' first
    | assumption | intro _ | apply sound_foldl | apply sound_ite | apply sound_foldl_fst | apply sound_foldl_snd
    | apply sound_ite_snd | apply writePlain_sound | apply canPump_sound | apply canState_sound | apply canRaw_sound
    | apply canPop_sound | apply tpdoSend_sound | apply writeOpen_sound | dsimp only | split

theorem writePower_sound {s : State} {a w} (h0 : s.Sound) : (writePower s a w).Sound := by
  unfold writePower
  with_reducible repeat' first
    | assumption | intro _ | apply sound_ite | apply powerRequest_sound | apply halfRequest_sound
    | apply clockWrite_sound | apply pmbRaw_sound | apply writePlain_sound

theorem writeChk_sound {s : State} {src a w} (h0 : s.Sound) : (writeChk s src a w).Sound := by
  unfold writeChk
  with_reducible repeat' first
    | assumption | intro _ | apply sound_ite | apply chkStart_sound | apply chkAbort_sound | apply chkIgnored_sound
    | apply writeOnly_sound | apply writePlain_sound | apply put_sound | dsimp only

theorem writeTimer_sound {s : State} {a w} (h0 : s.Sound) : (writeTimer s a w).Sound := by
  unfold writeTimer
  with_reducible repeat' first
    | assumption | intro _ | apply sound_ite | apply tmrConfig_sound | apply tmrStart_sound | apply tmrStop_sound
    | apply tmrSet_sound | apply tmrCapture_sound | apply writePlain_sound | dsimp only | split
    | simp only [sound_mk_iff]

theorem writeFault_sound {s : State} {src a w} (h0 : s.Sound) : (writeFault s src a w).Sound := by
  unfold writeFault
  with_reducible repeat' first
    | assumption | intro _ | apply sound_ite | apply fenceWrite_sound | apply remapStart_sound | apply writePlain_sound
    | apply bistStart_sound | apply kickWrite_sound | apply firmwareAppend_sound

theorem writeDebug_sound {s : State} {a w} (h0 : s.Sound) : (writeDebug s a w).Sound := by
  unfold writeDebug
  with_reducible repeat' first | assumption | intro _ | apply sound_ite | apply writePlain_sound

theorem writeSecurity_sound {s : State} {src a w} (h0 : s.Sound) : (writeSecurity s src a w).Sound := by
  unfold writeSecurity
  with_reducible repeat' first
    | assumption | intro _ | apply sound_ite | apply sealRequest_sound | apply useFree_sound | apply trainSeal_sound
    | apply put_sound | apply loginChallenge_sound | apply loginVerify_sound | apply loginStat_sound
    | apply endSession_sound | apply writePlain_sound | apply authGo_sound | apply auditAppend_sound
    | apply fwCommand_sound | apply activate_sound | apply fwConfirm_sound | apply fellBack_sound | apply fallback_sound
    | apply openInactive_sound | apply swapSend_sound | apply sigStart_sound | dsimp only | split
    | simp only [sound_mk_iff]

theorem queueCommand_sound {s : State} {u op i} (h0 : s.Sound) : (queueCommand s u op i).Sound := by
  unfold queueCommand
  with_reducible repeat' first
    | assumption | intro _ | apply openRx_sound | apply resetRx_sound | apply closeQueue_sound | apply openTx_sound
    | apply ackEpoch_sound | apply qResult_sound | split | simp only [sound_mk_iff]

theorem qDescWrite_sound {s : State} {u i a w} (h0 : s.Sound) : (qDescWrite s u i a w).Sound := by
  unfold qDescWrite
  with_reducible repeat' first
    | assumption | intro _ | apply sound_ite | apply put_sound | apply qReady_sound | apply qShape_sound
    | apply writePlain_sound

theorem writeQueue_sound {s : State} {u a o w} (h0 : s.Sound) : (writeQueue s u a o w).Sound := by
  unfold writeQueue
  with_reducible repeat' first
    | assumption | intro _ | apply sound_ite | apply queueCommand_sound | apply queueSend_sound | apply queuePop_sound
    | apply writeOnly_sound | apply fwReport_sound | apply fwRelease_sound | apply writePlain_sound | dsimp only

theorem writeTile_sound {s : State} {a w} (h0 : s.Sound) : (writeTile s a w).Sound := by
  unfold writeTile
  with_reducible repeat' first
    | assumption | intro _ | apply sound_foldl | apply sound_ite | apply sound_foldl_fst | apply windowWrite_sound
    | apply thrCleared_sound | apply writePlain_sound | apply ctrlWrite_sound | apply ctxWrite_sound
    | apply mcWrite_sound | apply spillWrite_sound | apply writeNode_sound | apply writeQueue_sound
    | apply qDescWrite_sound | apply opsClear_sound | apply waitDeclare_sound | apply setReg_sound
    | apply standbyWritten_sound | dsimp only

theorem writePod_sound {s : State} {a w} (h0 : s.Sound) : (writePod s a w).Sound := by
  unfold writePod
  with_reducible repeat' first
    | assumption | intro _ | apply sound_foldl | apply sound_ite | apply sound_foldl_fst | apply projCtrlWrite_sound
    | apply plCtrlWrite_sound | apply writePlain_sound | apply setReg_sound | apply writeOnly_sound | dsimp only

theorem blockWrite_sound {s : State} {src a w} (h0 : s.Sound) : (blockWrite s src a w).Sound := by
  unfold blockWrite
  with_reducible repeat' first
    | assumption | intro _ | apply sound_ite | apply writePod_sound | apply writeTile_sound | apply writeStep_sound
    | apply writeTb_sound | apply writeRoot_sound | apply writeLoader_sound | apply writeStream_sound
    | apply writeDdr_sound | apply writeQueue_sound | apply qDescWrite_sound | apply writeHub_sound
    | apply writeGuard_sound | apply writeHost_sound | apply writeTlk_sound | apply writeCan_sound
    | apply writePower_sound | apply writeChk_sound | apply writeTimer_sound | apply writeFault_sound
    | apply writeDebug_sound | apply writeSecurity_sound | split | simp only [sound_mk_iff]

theorem regWrite_sound {s : State} {src a w} (h0 : s.Sound) : (regWrite s src a w).Sound := by
  unfold regWrite
  with_reducible repeat' first
    | assumption | intro _ | apply sound_ite | apply log_sound | apply blockWrite_sound | dsimp only

end Sys2Proof.Machine.State
end

