-- ==== Sys2Proof/Laws/Sound/Access.lean ====
section
/-! SUPPORT. Each operation of `Sys2Proof/Machine/Access.lean` gives a sound state on a sound state. -/

namespace Sys2Proof.Machine.State

set_option linter.unusedTactic false
set_option linter.unreachableTactic false

theorem give_sound {s : State} {w} (h0 : s.Sound) : (give s w).Sound := by
  unfold give
  with_reducible repeat' first | assumption | intro _ | simp only [sound_mk_iff]

theorem markRead_sound {s : State} {a} (h0 : s.Sound) : (markRead s a).Sound := by
  unfold markRead
  with_reducible repeat' first
    | assumption | intro _ | apply sound_ite | apply give_sound | apply setReg_sound | dsimp only | split
    | simp only [sound_mk_iff]

theorem pairRead_sound {s : State} {a} (h0 : s.Sound) : (pairRead s a).Sound := by
  unfold pairRead
  with_reducible repeat' first
    | assumption | intro _ | apply sound_latches | apply sound_ite | apply give_sound | dsimp only | split
    | simp only [sound_mk_iff]

theorem wordRead_sound {s : State} {a} (h0 : s.Sound) : (wordRead s a).Sound := by
  unfold wordRead
  with_reducible repeat' first
    | assumption | intro _ | apply sound_ite | apply opsLatch_sound | apply give_sound | apply markRead_sound
    | apply mcStep_sound | apply pairRead_sound | apply useFree_sound | apply headRead_sound | apply capRead_sound
    | apply ptpRead_sound | dsimp only | split | simp only [sound_mk_iff]

theorem regAccess_sound {s : State} {src a wr be} (h0 : s.Sound) : (regAccess s src a wr be).1.Sound := by
  unfold regAccess
  with_reducible repeat' first
    | assumption | intro _ | apply sound_ite | apply sound_ite_fst | apply regWrite_sound | apply wordRead_sound
    | dsimp only | split | simp only [sound_mk_iff]

theorem memAccess_sound {s : State} {a wr be} (h0 : s.Sound) : (memAccess s a wr be).1.Sound := by
  unfold memAccess
  with_reducible repeat' first
    | assumption | intro _ | apply sound_ite | apply sound_ite_fst | apply wrLe_sound | split | simp only [sound_mk_iff]

theorem checkedAccess_sound {s : State} {ecc hit a wr be} (h0 : s.Sound) (h2 : ∀ (a : State) b, a.Sound → (hit a b).Sound) :
    (checkedAccess s ecc hit a wr be).1.Sound := by
  unfold checkedAccess
  with_reducible repeat' first
    | assumption | intro _ | apply sound_ite_fst | apply memAccess_sound | apply h2 | split
    | refine sound_fst ?_ (by assumption) | simp only [sound_mk_iff]

theorem nowhere_sound {s : State} {src a} (h0 : s.Sound) : (nowhere s src a).1.Sound := by
  unfold nowhere
  with_reducible repeat' first | assumption | intro _ | apply sound_ite_fst | apply useFree_sound | apply log_sound

theorem tileWindow_sound {s : State} {src t o wr be ecc} (h0 : s.Sound) : (tileWindow s src t o wr be ecc).1.Sound := by
  unfold tileWindow
  with_reducible repeat' first
    | assumption | intro _ | apply sound_ite | apply sound_ite_fst | apply checkedAccess_sound | apply tileHit_sound
    | apply tileError_sound | apply regAccess_sound | dsimp only | refine sound_fst ?_ (by assumption)

theorem tileAccess_sound {s : State} {src a wr be ecc} (h0 : s.Sound) : (tileAccess s src a wr be ecc).1.Sound := by
  unfold tileAccess
  with_reducible repeat' first
    | assumption | intro _ | apply sound_ite | apply sound_ite_fst | apply tileWindow_sound | dsimp only
    | refine sound_fst ?_ (by assumption)

theorem podAccess_sound {s : State} {src a wr be ecc} (h0 : s.Sound) : (podAccess s src a wr be ecc).1.Sound := by
  unfold podAccess
  with_reducible repeat' first
    | assumption | intro _ | apply sound_ite | apply sound_ite_fst | apply checkedAccess_sound | apply podHit_sound
    | apply regAccess_sound | dsimp only | refine sound_fst ?_ (by assumption)

theorem dramAccess_sound {s : State} {src a wr be} (h0 : s.Sound) : (dramAccess s src a wr be).1.Sound := by
  unfold dramAccess
  with_reducible repeat' first
    | assumption | intro _ | apply sound_ite | apply sound_ite_fst | apply nowhere_sound | apply memAccess_sound | split
    | refine sound_fst ?_ (by assumption)

theorem hostBlock_sound {s : State} {src a wr be} (h0 : s.Sound) : (hostBlock s src a wr be).1.Sound := by
  unfold hostBlock
  with_reducible repeat' first
    | assumption | intro _ | apply sound_ite | apply sound_ite_fst | apply regAccess_sound | apply memAccess_sound
    | apply mailOverrun_sound | dsimp only | refine sound_fst ?_ (by assumption)

theorem peripheral_sound {s : State} {src a wr be} (h0 : s.Sound) : (peripheral s src a wr be).1.Sound := by
  unfold peripheral
  with_reducible repeat' first
    | assumption | intro _ | apply sound_ite | apply sound_ite_fst | apply hostBlock_sound | apply useFree_sound
    | apply regAccess_sound | refine sound_fst ?_ (by assumption)

theorem sramAccess_sound {s : State} {a wr be ecc} (h0 : s.Sound) : (sramAccess s a wr be ecc).1.Sound := by
  unfold sramAccess
  with_reducible repeat' first
    | assumption | intro _ | apply sound_ite_fst | apply checkedAccess_sound | apply managerHit_sound
    | refine sound_fst ?_ (by assumption)

theorem huskAccess_sound {s : State} {src a wr be ecc} (h0 : s.Sound) : (huskAccess s src a wr be ecc).1.Sound := by
  unfold huskAccess
  with_reducible repeat' first
    | assumption | intro _ | apply sound_ite | apply sound_ite_fst | apply log_sound | apply checkedAccess_sound
    | apply managerError_sound | dsimp only | split | refine sound_fst ?_ (by assumption) | simp only [sound_mk_iff]

theorem localAccess_sound {s : State} {src a wr be ecc} (h0 : s.Sound) : (localAccess s src a wr be ecc).1.Sound := by
  unfold localAccess
  with_reducible repeat' first
    | assumption | intro _ | apply sound_ite | apply sound_ite_fst | apply sramAccess_sound | apply huskAccess_sound
    | apply peripheral_sound | apply memAccess_sound | apply nowhere_sound | refine sound_fst ?_ (by assumption)

theorem sendAccess_sound {s : State} {src t a wr be} (h0 : s.Sound) : (sendAccess s src t a wr be).Sound := by
  unfold sendAccess
  with_reducible repeat' first
    | assumption | intro _ | apply sound_ite | apply sound_getD | apply sendCtrl_sound | dsimp only | split
    | simp only [sound_mk_iff]

theorem serveAccess_sound {s : State} {t a src wr be ecc} (h0 : s.Sound) :
    (serveAccess s t a src wr be ecc).1.Sound := by
  unfold serveAccess
  with_reducible repeat' first
    | assumption | intro _ | apply sound_ite | apply sound_ite_fst | apply tileAccess_sound | apply podAccess_sound
    | dsimp only | refine sound_fst ?_ (by assumption)

theorem regRequest_sound {s : State} {t write ecc} (h0 : s.Sound) : (regRequest s t write ecc).Sound := by
  unfold regRequest
  with_reducible repeat' first
    | assumption | intro _ | apply sound_ite | apply serveAccess_sound | apply sendCtrl_sound | dsimp only | split
    | refine takeCtrl_sound ?_ _ _ (by assumption) | refine sound_fst ?_ (by assumption) | simp only [sound_mk_iff]

theorem coreEnded_sound {s : State} {st w} (h0 : s.Sound) : (coreEnded s st w).Sound := by
  unfold coreEnded
  with_reducible repeat' first | assumption | intro _ | apply sound_ite | simp only [sound_mk_iff]

theorem hostEnded_sound {s : State} {st w} (h0 : s.Sound) : (hostEnded s st w).Sound := by
  unfold hostEnded
  with_reducible repeat' first
    | assumption | intro _ | apply sound_ite | apply count_sound | dsimp only | simp only [sound_mk_iff]

theorem takeResponse_sound {s : State} {row : Nat} (h : s.Sound) : ∀ b t, takeResponse s row = some (b, t) → t.Sound := by
  intro b t e
  simp only [takeResponse, Option.map_eq_some_iff, Prod.mk.injEq] at e
  obtain ⟨p, -, -, rfl⟩ := e
  exact onMesh_sound h

theorem jtagReach_sound {s : State} {a wr ecc} (h0 : s.Sound) : (jtagReach s a wr ecc).1.Sound := by
  unfold jtagReach
  with_reducible repeat' first
    | assumption | intro _ | apply sound_ite | apply sound_ite_fst | apply localAccess_sound | apply dramAccess_sound
    | apply nowhere_sound | refine sound_fst ?_ (by assumption)

theorem jtagGo_sound {s : State} {a wr ecc} (h0 : s.Sound) : (jtagGo s a wr ecc).Sound := by
  unfold jtagGo
  with_reducible repeat' first
    | assumption | intro _ | apply sound_ite | apply sendAccess_sound | apply jtagReach_sound | dsimp only | split
    | refine sound_fst ?_ (by assumption) | simp only [sound_mk_iff]

theorem jtagEnded_sound {s : State} {st w} (h0 : s.Sound) : (jtagEnded s st w).Sound := by
  unfold jtagEnded
  with_reducible repeat' first
    | assumption | intro _ | apply sound_ite | apply jtagGo_sound | dsimp only | split | simp only [sound_mk_iff]

theorem regEnded_sound {s : State} {row} (h0 : s.Sound) : (regEnded s row).Sound := by
  unfold regEnded
  with_reducible repeat' first
    | assumption | intro _ | apply hostEnded_sound | apply jtagEnded_sound | apply coreEnded_sound | dsimp only | split
    | refine takeResponse_sound ?_ _ _ (by assumption) | simp only [sound_mk_iff]

theorem hostEnd_sound {r : Ended} (h0 : r.1.Sound) : (hostEnd r).Sound := by
  unfold hostEnd
  with_reducible repeat' first | assumption | intro _ | apply hostEnded_sound

theorem queueView_sound {s : State} {o wr be} (h0 : s.Sound) : (queueView s o wr be).1.Sound := by
  unfold queueView
  with_reducible repeat' first
    | assumption | intro _ | apply sound_ite | apply sound_ite_fst | apply regAccess_sound | apply qResult_sound
    | apply put_sound | dsimp only | split | refine sound_fst ?_ (by assumption) | simp only [sound_mk_iff]

theorem descView_sound {s : State} {o wr be} (h0 : s.Sound) : (descView s o wr be).1.Sound := by
  unfold descView
  with_reducible repeat' first
    | assumption | intro _ | apply sound_ite | apply sound_ite_fst | apply regAccess_sound | dsimp only
    | refine sound_fst ?_ (by assumption)

theorem bar0_sound {s : State} {x1 wr be} (h0 : s.Sound) : (bar0 s x1 wr be).Sound := by
  unfold bar0
  with_reducible repeat' first
    | assumption | intro _ | apply sound_ite | apply hostEnd_sound | apply hostBlock_sound | apply queueView_sound
    | apply descView_sound | apply hostEnded_sound | apply log_sound | apply peripheral_sound
    | refine sound_fst ?_ (by assumption)

theorem bar2_sound {s : State} {x1 wr be} (h0 : s.Sound) : (bar2 s x1 wr be).Sound := by
  unfold bar2
  with_reducible repeat' first
    | assumption | intro _ | apply hostEnd_sound | apply dramAccess_sound | refine sound_fst ?_ (by assumption)

theorem bar4_sound {s : State} {x1 wr be ecc} (h0 : s.Sound) : (bar4 s x1 wr be ecc).Sound := by
  unfold bar4
  with_reducible repeat' first
    | assumption | intro _ | apply sound_ite | apply sendAccess_sound | apply hostEnd_sound | apply sramAccess_sound
    | apply huskAccess_sound | apply hostEnded_sound | dsimp only | split | refine sound_fst ?_ (by assumption)
    | simp only [sound_mk_iff]

theorem hartAccess_sound {s : State} {n machine a wr ecc} (h0 : s.Sound) : (hartAccess s n machine a wr ecc).Sound := by
  unfold hartAccess
  with_reducible repeat' first
    | assumption | intro _ | apply sound_ite | apply sendAccess_sound | apply localAccess_sound | apply dramAccess_sound
    | apply nowhere_sound | apply coreEnded_sound | dsimp only | split | refine sound_fst ?_ (by assumption)
    | simp only [sound_mk_iff]

theorem tileCoreAccess_sound {s : State} {t a wr ecc} (h0 : s.Sound) : (tileCoreAccess s t a wr ecc).Sound := by
  unfold tileCoreAccess
  with_reducible repeat' first
    | assumption | intro _ | apply sound_ite | apply tileWindow_sound | apply podAccess_sound | apply coreEnded_sound
    | dsimp only | split | refine sound_fst ?_ (by assumption) | simp only [sound_mk_iff]

theorem coreAccess_sound {s : State} {core a wr} (h0 : s.Sound) : (coreAccess s core a wr).Sound := by
  unfold coreAccess
  with_reducible repeat' first
    | assumption | intro _ | apply hartAccess_sound | apply tileCoreAccess_sound | split | simp only [sound_mk_iff]

theorem execLowWordRead_sound {core addr} {s : State} (h2 : s.Sound) : ResultSound (execLowWordRead core addr s) := by
  unfold execLowWordRead
  with_reducible repeat' first | assumption | apply done_sound | intro _ | apply coreAccess_sound

theorem execHighWaterRead_sound {core addr} {s : State} (h2 : s.Sound) :
    ResultSound (execHighWaterRead core addr s) := by
  unfold execHighWaterRead
  with_reducible repeat' first | assumption | apply done_sound | intro _ | apply coreAccess_sound

theorem execRegisterWrite_sound {core addr value} {s : State} (h3 : s.Sound) :
    ResultSound (execRegisterWrite core addr value s) := by
  unfold execRegisterWrite
  with_reducible repeat' first | assumption | apply done_sound | intro _ | apply coreAccess_sound

theorem execRegReadRequest_sound {tile ecc} {s : State} (h2 : s.Sound) :
    ResultSound (execRegReadRequest tile ecc s) := by
  unfold execRegReadRequest
  with_reducible repeat' first | assumption | apply done_sound | intro _ | apply regRequest_sound

theorem execRegWriteRequest_sound {tile ecc} {s : State} (h2 : s.Sound) :
    ResultSound (execRegWriteRequest tile ecc s) := by
  unfold execRegWriteRequest
  with_reducible repeat' first | assumption | apply done_sound | intro _ | apply regRequest_sound

theorem execRegResponseReceive_sound {row} {s : State} (h1 : s.Sound) : ResultSound (execRegResponseReceive row s) := by
  unfold execRegResponseReceive
  with_reducible repeat' first | assumption | apply done_sound | intro _ | apply regEnded_sound

theorem execBar0Access_sound {offset value enables} {s : State} (h3 : s.Sound) :
    ResultSound (execBar0Access offset value enables s) := by
  unfold execBar0Access
  with_reducible repeat' first | assumption | apply done_sound | intro _ | apply bar0_sound

theorem execBar2Access_sound {offset value enables} {s : State} (h3 : s.Sound) :
    ResultSound (execBar2Access offset value enables s) := by
  unfold execBar2Access
  with_reducible repeat' first | assumption | apply done_sound | intro _ | apply bar2_sound

theorem execBar4Access_sound {offset value enables ecc} {s : State} (h4 : s.Sound) :
    ResultSound (execBar4Access offset value enables ecc s) := by
  unfold execBar4Access
  with_reducible repeat' first | assumption | apply done_sound | intro _ | apply bar4_sound

end Sys2Proof.Machine.State
end

