-- ==== Sys2Proof/Laws/Sound/Jtag.lean ====
section
/-! SUPPORT. Each operation of `Sys2Proof/Machine/Jtag.lean` gives a sound state on a sound state. -/

namespace Sys2Proof.Machine.State

set_option linter.unusedTactic false
set_option linter.unreachableTactic false

theorem onJtag_sound {s : State} {f} (h0 : s.Sound) : (onJtag s f).Sound := by
  unfold onJtag
  with_reducible repeat' first | assumption | intro _ | simp only [sound_mk_iff]

theorem jtagLock_sound {s : State} (h0 : s.Sound) : (jtagLock s).Sound := by
  unfold jtagLock
  with_reducible repeat' first | assumption | intro _ | apply put_sound

theorem restart_sound {s : State} (h0 : s.Sound) : (restart s).Sound := by
  unfold restart
  with_reducible repeat' first | assumption | intro _ | apply powerLoss_sound | apply coldStart_sound | dsimp only

theorem jtagSelect_sound {s : State} {code} (h0 : s.Sound) : (jtagSelect s code).Sound := by
  unfold jtagSelect
  with_reducible repeat' first
    | assumption | intro _ | apply sound_ite | apply restart_sound | apply onJtag_sound | dsimp only
    | simp only [sound_mk_iff]

theorem boundaryScan_sound {s : State} {pins shift} (h0 : s.Sound) : (boundaryScan s pins shift).Sound := by
  unfold boundaryScan
  with_reducible repeat' first | assumption | intro _ | apply onJtag_sound | simp only [sound_mk_iff]

theorem extest_sound {s : State} {pins shift} (h0 : s.Sound) : (extest s pins shift).Sound := by
  unfold extest
  with_reducible repeat' first
    | assumption | intro _ | apply sound_ite | apply jtagSelect_sound | apply put_sound | apply log_sound
    | apply boundaryScan_sound | dsimp only

theorem unlockChal_sound {s : State} {role} (h0 : s.Sound) : (unlockChal s role).Sound := by
  unfold unlockChal
  with_reducible repeat' first
    | assumption | intro _ | apply sound_ite | apply jtagSelect_sound | apply jtagLock_sound | apply onSec_sound
    | apply useFree_sound | dsimp only | simp only [sound_mk_iff]

theorem unlockRefused_sound {s : State} {role} (h0 : s.Sound) : (unlockRefused s role).Sound := by
  unfold unlockRefused
  with_reducible repeat' first | assumption | intro _ | apply log_sound

theorem unlockFailed_sound {s : State} {role} (h0 : s.Sound) : (unlockFailed s role).Sound := by
  unfold unlockFailed
  with_reducible repeat' first
    | assumption | intro _ | apply sound_ite | apply unlockRefused_sound | apply count_sound | apply lockout_sound
    | dsimp only

theorem unlockGranted_sound {s : State} {role} (h0 : s.Sound) : (unlockGranted s role).Sound := by
  unfold unlockGranted
  with_reducible repeat' first
    | assumption | intro _ | apply put_sound | apply audit_sound | apply log_sound | apply onJtag_sound | dsimp only
    | simp only [sound_mk_iff]

theorem unlockResp_sound {s : State} {resp} (h0 : s.Sound) : (unlockResp s resp).Sound := by
  unfold unlockResp
  with_reducible repeat' first
    | assumption | intro _ | apply sound_ite | apply jtagSelect_sound | apply dropChallenge_sound
    | apply unlockRefused_sound | apply unlockGranted_sound | apply unlockFailed_sound | dsimp only | split
    | simp only [sound_mk_iff]

theorem dbgStatus_sound {s : State} (h0 : s.Sound) : (dbgStatus s).Sound := by
  unfold dbgStatus
  with_reducible repeat' first | assumption | intro _ | apply jtagSelect_sound | dsimp only | simp only [sound_mk_iff]

theorem dbgAccess_sound {s : State} {a data write ecc} (h0 : s.Sound) : (dbgAccess s a data write ecc).Sound := by
  unfold dbgAccess
  with_reducible repeat' first
    | assumption | intro _ | apply sound_ite | apply jtagSelect_sound | apply onJtag_sound | apply jtagGo_sound
    | dsimp only | simp only [sound_mk_iff]

theorem trst_sound {s : State} (h0 : s.Sound) : (trst s).Sound := by
  unfold trst
  with_reducible repeat' first | assumption | intro _ | apply jtagSelect_sound | apply jtagLock_sound

theorem jtagIdle_sound {s : State} (h0 : s.Sound) : (jtagIdle s).Sound := by
  unfold jtagIdle
  with_reducible repeat' first | assumption | intro _ | apply sound_ite | apply jtagLock_sound | apply reach_sound

theorem execJtagExtest_sound {pins shift} {s : State} (h2 : s.Sound) : ResultSound (execJtagExtest pins shift s) := by
  unfold execJtagExtest
  with_reducible repeat' first | assumption | apply done_sound | intro _ | apply extest_sound

theorem execJtagSamplePreload_sound {pins shift} {s : State} (h2 : s.Sound) :
    ResultSound (execJtagSamplePreload pins shift s) := by
  unfold execJtagSamplePreload
  with_reducible repeat' first
    | assumption | apply done_sound | intro _ | apply boundaryScan_sound | apply jtagSelect_sound

theorem execJtagIdcode_sound {s : State} (h0 : s.Sound) : ResultSound (execJtagIdcode s) := by
  unfold execJtagIdcode
  with_reducible repeat' first
    | assumption | apply done_sound | intro _ | apply jtagSelect_sound | simp only [sound_mk_iff]

theorem execJtagUnlockChal_sound {role} {s : State} (h1 : s.Sound) : ResultSound (execJtagUnlockChal role s) := by
  unfold execJtagUnlockChal
  with_reducible repeat' first | assumption | apply done_sound | intro _ | apply unlockChal_sound

theorem execJtagUnlockResp_sound {response} {s : State} (h1 : s.Sound) :
    ResultSound (execJtagUnlockResp response s) := by
  unfold execJtagUnlockResp
  with_reducible repeat' first | assumption | apply done_sound | intro _ | apply unlockResp_sound

theorem execJtagDbgStatus_sound {s : State} (h0 : s.Sound) : ResultSound (execJtagDbgStatus s) := by
  unfold execJtagDbgStatus
  with_reducible repeat' first | assumption | apply done_sound | intro _ | apply dbgStatus_sound

theorem execJtagDbgAccess_sound {addr data write ecc} {s : State} (h4 : s.Sound) :
    ResultSound (execJtagDbgAccess addr data write ecc s) := by
  unfold execJtagDbgAccess
  with_reducible repeat' first | assumption | apply done_sound | intro _ | apply dbgAccess_sound

theorem execJtagBypass_sound {code} {s : State} (h1 : s.Sound) : ResultSound (execJtagBypass code s) := by
  unfold execJtagBypass
  with_reducible repeat' first | assumption | apply done_sound | intro _ | apply jtagSelect_sound

theorem execTrstAssert_sound {s : State} (h0 : s.Sound) : ResultSound (execTrstAssert s) := by
  unfold execTrstAssert
  with_reducible repeat' first | assumption | apply done_sound | intro _ | apply trst_sound

theorem execJtagIdleTimeout_sound {s : State} (h0 : s.Sound) : ResultSound (execJtagIdleTimeout s) := by
  unfold execJtagIdleTimeout
  with_reducible repeat' first | assumption | apply done_sound | intro _ | apply jtagIdle_sound

end Sys2Proof.Machine.State
end

