-- ==== Sys2Proof/Laws/Sound/Loader.lean ====
section
/-! SUPPORT. Each operation of `Sys2Proof/Machine/Loader.lean` gives a sound state on a sound state. -/

namespace Sys2Proof.Machine.State

set_option linter.unusedTactic false
set_option linter.unreachableTactic false

theorem imagined_sound {s : State} {x1 bytes} (h0 : s.Sound) : (imagined s x1 bytes).Sound := by
  unfold imagined
  with_reducible repeat' first
    | assumption | intro _ | apply sound_foldl | apply sound_foldl_fst | apply bankSwap_sound | apply place_sound
    | apply switchClear_sound | apply wrBytes_sound

theorem imageRefuse_sound {s : State} {x1} (h0 : s.Sound) : (imageRefuse s x1).Sound := by
  unfold imageRefuse
  with_reducible repeat' first | assumption | intro _ | apply setImage_sound | simp only [sound_mk_iff]

theorem flawLog_sound {s : State} {f} (h0 : s.Sound) : (flawLog s f).Sound := by
  unfold flawLog
  with_reducible repeat' first
    | assumption | intro _ | apply sound_ite | apply log_sound | split | simp only [sound_mk_iff]

theorem loadDone_sound {s : State} {i good} (h0 : s.Sound) : (loadDone s i good).Sound := by
  unfold loadDone
  with_reducible repeat' first
    | assumption | intro _ | apply sound_ite | apply imageRefuse_sound | apply flawLog_sound | apply setImage_sound
    | apply wrBytes_sound | dsimp only | split | simp only [sound_mk_iff]

theorem execImageLoadDone_sound {index good} {s : State} (h2 : s.Sound) :
    ResultSound (execImageLoadDone index good s) := by
  unfold execImageLoadDone
  with_reducible repeat' first | assumption | apply done_sound | intro _ | apply loadDone_sound

end Sys2Proof.Machine.State
end

