-- ==== Sys2Proof/WellFormed.lean ====
section
/-! DEFINITION. Which commands are well formed: what their operands must keep to beyond their types, so that a sender could
have sent them. Every meaning is total, on a command that is not well formed too. -/

namespace Sys2Proof

/-- A CAN or CAN FD data frame: an 11-bit or 29-bit identifier, and a data length that the standard encodes (R525). -/
def CanFrame.wf (f : CanFrame) : Bool :=
  decide (f.id < (if f.ide then 2 ^ 29 else 2 ^ 11)) &&
    (decide (f.data.length ≤ 8) || (f.fdf && [12, 16, 20, 24, 32, 48, 64].contains f.data.length)) && (f.fdf || !f.brs)

/-- What an image says of itself fits the record of R565, and its contexts lie in tiles. -/
def ImageInfo.wf (x : ImageInfo) : Bool :=
  decide (x.hier < 256) && decide (x.window < 256) && decide (x.kMin < 65536) && decide (x.flags < 8) &&
    decide (x.tiles < 65536) && decide (x.projections < 2 ^ 32) && decide (x.reserve < 2 ^ 32) && decide (x.dram < 2 ^ 64) &&
    decide (x.id < 2 ^ 32) && decide (x.name.length ≤ 28) &&
    x.populations.all fun p => p.all fun c => decide (c.1 < 1152) && decide (c.2 < 32)

/-- A command is well formed. -/
def Instr.wf (i : Instr) : Bool :=
  match i with
  | .registerWrite .. => true
  | .lowWordRead .. => true
  | .dictRead .. => true
  | .dictWrite _ _ _ _ image _ => image.all ImageInfo.wf
  | .commitStaged => true
  | .discardStaged => true
  | .flashParamSave .. => true
  | .storeParameters .. => true
  | .restoreDefaults .. => true
  | .tbLoad => true
  | .tbSlewCode => true
  | .replicaCompare .. => true
  | .tbCompareFire .. => true
  | .stepRun .. => true
  | .stepHalt => true
  | .stepLaunch => true
  | .quiescenceWave => true
  | .neuronScan .. => true
  | .stepClose => true
  | .deadlineForcedClose => true
  | .stretchLimitClose => true
  | .freeRunWatchdogFire => true
  | .switchRequest => true
  | .imageSwitchLoadDone => true
  | .switchVoteTimeout .. => true
  | .contextEnable .. => true
  | .contextDisable .. => true
  | .contextFieldWrite .. => true
  | .neWindowWrite .. => true
  | .matchRecord .. => true
  | .engineTakeJob .. => true
  | .accumulateContribution .. => true
  | .areaClearDone .. => true
  | .windowApplicationDone .. => true
  | .projCtrlWrite .. => true
  | .learningPass .. => true
  | .plEnableWrite .. => true
  | .modqPush .. => true
  | .driftReset .. => true
  | .pipRoute .. => true
  | .pipInject .. => true
  | .edgeReturnPip .. => true
  | .edgeInject .. => true
  | .nakReceive .. => true
  | .linkDownSignal .. => true
  | .echoReceive .. => true
  | .stormNoticeReceive .. => true
  | .throttleIncrease .. => true
  | .delayStoreWrite .. => true
  | .delayStoreRelease .. => true
  | .mcEntryWrite .. => true
  | .spillRegionWrite .. => true
  | .regReadRequest .. => true
  | .regWriteRequest .. => true
  | .regResponseReceive .. => true
  | .scmBeatRoute .. => true
  | .scmCheck => true
  | .scmCheckDone => true
  | .scmSwap => true
  | .scmLinkFail .. => true
  | .dramFetchComplete .. => true
  | .writeDrainComplete .. => true
  | .unionRunsReady .. => true
  | .openRx .. => true
  | .fillMapCleared .. => true
  | .resetRx .. => true
  | .closeQueue .. => true
  | .openTx .. => true
  | .ackEpoch .. => true
  | .queueSend .. => true
  | .creditReturnReceive .. => true
  | .creditRevokeReceive .. => true
  | .messageReceive .. => true
  | .queuePop .. => true
  | .creditReturnSend .. => true
  | .gapScan .. => true
  | .barrierArrive .. => true
  | .barrierRelease .. => true
  | .barMemberWrite .. => true
  | .redCfgWrite .. => true
  | .faultReportFile .. => true
  | .faultWave => true
  | .faultReportTake => true
  | .scrubRow .. => true
  | .tamperAssert .. => true
  | .huskWipeDone => true
  | .sealRequest => true
  | .sealGapExpire => true
  | .sramClearDone .. => true
  | .dramReadRetry .. => true
  | .pageCopyDone .. => true
  | .subchannelRetire .. => true
  | .mapReform => true
  | .patrolRead .. => true
  | .fullScrubStart .. => true
  | .fullScrubAbort => true
  | .fillGranule => true
  | .streamContextEnable .. => true
  | .streamContextDisable .. => true
  | .hubEnableWrite .. => true
  | .csiFrameStart .. => true
  | .csiLongPacket _ _ _ _ _ payload => decide (payload.length < 65536)
  | .csiFrameEnd .. => true
  | .ethFrameReceive _ frame _ => decide (frame.length ≤ 16384)
  | .ethFwTransmit .. => true
  | .selFrameReceive _ _ _ _ _ _ _ words _ => decide (words.length ≤ 64)
  | .selAckReceive .. => true
  | .selNakReceive .. => true
  | .selBusyWaitExpire .. => true
  | .selAckTimeout .. => true
  | .selIdleSetReceive .. => true
  | .selTsReceive _ data _ => decide (data.length = 6)
  | .selAlignTimeout .. => true
  | .selTrainTimeout .. => true
  | .selCommaLoss .. => true
  | .selRetrain .. => true
  | .selEnable .. => true
  | .selSleepReq .. => true
  | .selWakeDetect .. => true
  | .selCmdSend .. => true
  | .gpioInputChange .. => true
  | .gpioStuckExpire .. => true
  | .guardQueueCandidate .. => true
  | .guardWriteCandidate .. => true
  | .guardGapExpire .. => true
  | .guardSilenceExpire .. => true
  | .guardForceSafeWrite .. => true
  | .canFrameReceive _ frame _ => frame.wf
  | .rpdoAuditFlush => true
  | .canRawTransmit .. => true
  | .tpdoTrigger .. => true
  | .canTokenAvailable .. => true
  | .canBusoffRecovery .. => true
  | .canStandbyFailover => true
  | .canStandbyReturn => true
  | .canRxPop .. => true
  | .heartbeatProduce => true
  | .heartbeatConsumerTimeout .. => true
  | .errorRegisterClear .. => true
  | .mailboxDoorbell image _ => image.all ImageInfo.wf
  | .bar0Access .. => true
  | .bar2Access .. => true
  | .bar4Access .. => true
  | .hostWinBaseWrite .. => true
  | .pcieReset .. => true
  | .dmaTailWrite .. => true
  | .dmaDescriptorDone _ ctrl length _ _ data _ => ctrl.getLsbD 0 || decide (data.length = length.toNat)
  | .dmaResume .. => true
  | .hostOringReadWrite .. => true
  | .tlkControlFlit _ flit => decide (flit.length = 32)
  | .tlkPacketReceive _ header flits _ => decide (header.length = 32) && flits.all fun f => decide (f.length = 32)
  | .tlkAckReceive .. => true
  | .tlkNakReceive .. => true
  | .tlkReplayTimeout .. => true
  | .tlkCreditReceive _ counters => decide (counters.length = 5)
  | .tlkTransmitPip .. => true
  | .tlkTsReceive _ flit => decide (flit.length = 32)
  | .tlkStateTimeout .. => true
  | .tlkMarkLoss .. => true
  | .tlkRetrain .. => true
  | .tlkEnable .. => true
  | .tlkSleepReq .. => true
  | .tlkWakeDetect .. => true
  | .timeExchangeStart .. => true
  | .timeFlitReceive _ flit => decide (flit.length = 32)
  | .syncArmReceive .. => true
  | .syncWaveReceive .. => true
  | .syncResultReceive .. => true
  | .syncUpdateReceive .. => true
  | .syncDoneReceive .. => true
  | .syncSwitchReceive .. => true
  | .syncVoteReceive .. => true
  | .syncRejoinReceive .. => true
  | .workerIsolate .. => true
  | .workerLost .. => true
  | .dictProxyReceive _ image _ => image.all ImageInfo.wf
  | .gatewayExecute .. => true
  | .gatewayTimeout .. => true
  | .fwPacketReceive .. => true
  | .workerFwTimeout => true
  | .loginChallenge _ role => role != 0
  | .loginVerify _ role => role != 0
  | .challengeExpire .. => true
  | .logout .. => true
  | .sessionIdleTimeout .. => true
  | .lockoutExpire role => role != 0
  | .authWrite .. => true
  | .lifecycleRequest .. => true
  | .lifecycleConfirm .. => true
  | .lifecycleConfirmTimeout => true
  | .auditAppend .. => true
  | .auditExportRead .. => true
  | .imageLoadFlash _ _ info => info.wf
  | .imageLoadDram _ _ info => info.wf
  | .imageLoadDone .. => true
  | .imageUnload .. => true
  | .coldStart fuses _ _ _ => decide (fuses.defects.length ≤ 72)
  | .porstAssert => true
  | .bistStart => true
  | .bistDone .. => true
  | .ddrTrainStep .. => true
  | .ddrTrainStepDone .. => true
  | .ddrModeRegisterAccess .. => true
  | .memoryTestStart .. => true
  | .memoryTestAbort .. => true
  | .retentionHoldExpire .. => true
  | .memoryTestDone .. => true
  | .trainSetSeal .. => true
  | .trainSetCheck => true
  | .fwChunkReceive .. => true
  | .fwReport .. => true
  | .fwRelease .. => true
  | .powerStateRequest .. => true
  | .halfClockRequest .. => true
  | .coreClockWrite .. => true
  | .pllRelockDone .. => true
  | .railVoutPoll .. => true
  | .railConfirmTimeout .. => true
  | .pmbRawTransaction .. => true
  | .pmbTransactionDone .. => true
  | .railPowerGood .. => true
  | .railPgTimeout .. => true
  | .sequenceRetry => true
  | .railPgLoss .. => true
  | .wakeEvent _ seen => seen.all fun x => [1, 2, 5, 6].contains x.1.val
  | .wakeTimerMatch => true
  | .governorInterval .. => true
  | .governorCorrection .. => true
  | .thermalSample .. => true
  | .throttleStep .. => true
  | .updateBegin .. => true
  | .updateData .. => true
  | .updateVerifyWrite .. => true
  | .updateApplyDone => true
  | .updateActivate .. => true
  | .updateAbort .. => true
  | .fwActivate .. => true
  | .fwSwap .. => true
  | .fwConfirm .. => true
  | .fwFallbackCommand .. => true
  | .fwOpenInactive .. => true
  | .sigCheckStart .. => true
  | .sigCheckDone => true
  | .fallbackTimerExpire => true
  | .handoverReadyTimeout => true
  | .flashProgramCommand .. => true
  | .fwSwitchArm .. => true
  | .chkStart .. => true
  | .chkAbort .. => true
  | .chkJobDone .. => true
  | .chkSecurityClaim => true
  | .chkProfileReset .. => true
  | .timerCountEvent .. => true
  | .timerStart .. => true
  | .timerStop .. => true
  | .timerReset .. => true
  | .timerResetStart .. => true
  | .timerLoad .. => true
  | .timerCapture .. => true
  | .timerSlaveAction .. => true
  | .timerCaptureSource .. => true
  | .timerHeadRead .. => true
  | .timerCaptureRead .. => true
  | .timerConfigWrite .. => true
  | .watchdogKick .. => true
  | .watchdogExpire => true
  | .linkRetrainDone .. => true
  | .heartbeatTimeout .. => true
  | .engineTimeout .. => true
  | .firmwareFenceWrite .. => true
  | .remapStart .. => true
  | .remapRestoreDone => true
  | .remapSwitch => true
  | .eventLogAppend => true
  | .firmwareLogAppend => true
  | .opsLatchRead .. => true
  | .counterClear .. => true
  | .traceWrite => true
  | .waitDeclare .. => true
  | .hangAnalysisStart => true
  | .hangAnalysisSecondRead => true
  | .jtagExtest .. => true
  | .jtagSamplePreload .. => true
  | .jtagIdcode => true
  | .jtagUnlockChal .. => true
  | .jtagUnlockResp response => decide (response.length = 10)
  | .jtagDbgStatus => true
  | .jtagDbgAccess .. => true
  | .jtagBypass code => !([0x00, 0x01, 0x02, 0x10, 0x11, 0x12, 0x20].contains code.toNat)
  | .trstAssert => true
  | .jtagIdleTimeout => true
  | .injectionArm .. => true
  | .injectionDisarm .. => true
  | .tbRateCode => true
  | .vaonLoss => true
  | .railPowerGoodFall .. => true
  | .codeGroupErrors .. => true
  | .syncHeaderLock .. => true
  | .syncHeaderErrors .. => true
  | .canBusError .. => true
  | .canFrameTransmitted .. => true
  | .ethLinkChange .. => true
  | .pcieLinkUp speed width _ => speed != 0 && [1, 2, 4, 8].contains width.val
  | .highWaterRead .. => true
  | .ptpInfoRead .. => true
  | .fullScrubRead .. => true

end Sys2Proof
end

