-- ==== Sys2Proof/Tests/Slice0.lean ====
section
/-! SUPPORT. Tests: terms that the checks of WellFormed refuse, the spec's worked examples of arithmetic, small tests of single
commands, and for each obligation with hypotheses a state and operands that meet them. -/

namespace Sys2Proof.Tests
open Sys2Proof.Machine Sys2Proof.Machine.State
set_option Elab.async false

/-! Well-formedness: for each check a term that it refuses. -/

/-- R565: no field of the image record may be wider than its place, and no context may lie outside the tiles. -/
theorem test_wf_imageInfo :
    ({ ImageInfo.blank with hier := 256 }).wf = false ∧ ({ ImageInfo.blank with window := 256 }).wf = false ∧
    ({ ImageInfo.blank with kMin := 65536 }).wf = false ∧ ({ ImageInfo.blank with flags := 8 }).wf = false ∧
    ({ ImageInfo.blank with tiles := 65536 }).wf = false ∧ ({ ImageInfo.blank with projections := 2 ^ 32 }).wf = false ∧
    ({ ImageInfo.blank with reserve := 2 ^ 32 }).wf = false ∧ ({ ImageInfo.blank with dram := 2 ^ 64 }).wf = false ∧
    ({ ImageInfo.blank with id := 2 ^ 32 }).wf = false ∧
    ({ ImageInfo.blank with name := List.replicate 29 0 }).wf = false ∧
    ({ ImageInfo.blank with populations := [[(1152, 0)]] }).wf = false ∧
    ({ ImageInfo.blank with populations := [[(0, 32)]] }).wf = false ∧ ImageInfo.blank.wf = true := by decide

/-- The commands that carry an image record refuse an ill-formed one. -/
theorem test_wf_images :
    (Instr.dictWrite 0 0 0 [] (some { ImageInfo.blank with flags := 8 }) false).wf = false ∧
    (Instr.mailboxDoorbell (some { ImageInfo.blank with flags := 8 }) false).wf = false ∧
    (Instr.dictProxyReceive 0 (some { ImageInfo.blank with flags := 8 }) false).wf = false ∧
    (Instr.imageLoadFlash 0 0 { ImageInfo.blank with flags := 8 }).wf = false ∧
    (Instr.imageLoadDram 0 0 { ImageInfo.blank with flags := 8 }).wf = false := by decide

/-- R525: an identifier of the frame's kind, a length that the standard encodes, and no bit-rate switch in a classic frame. -/
theorem test_wf_canFrame :
    (Instr.canFrameReceive 0 ⟨2 ^ 11, false, true, true, []⟩ false).wf = false ∧
    (Instr.canFrameReceive 0 ⟨2 ^ 29, true, true, true, []⟩ false).wf = false ∧
    (Instr.canFrameReceive 0 ⟨0, false, true, true, List.replicate 9 0⟩ false).wf = false ∧
    (Instr.canFrameReceive 0 ⟨0, false, false, false, List.replicate 12 0⟩ false).wf = false ∧
    (Instr.canFrameReceive 0 ⟨0, false, false, true, []⟩ false).wf = false ∧
    (Instr.canFrameReceive 0 ⟨0, false, true, true, List.replicate 12 0⟩ false).wf = true := by decide

/-- The packets and frames of sensors. -/
theorem test_wf_sensors :
    (Instr.csiLongPacket 0 0 0 .clean true (List.replicate 65536 0)).wf = false ∧
    (Instr.ethFrameReceive 0 (List.replicate 16385 0) true).wf = false ∧
    (Instr.selFrameReceive 0 true 0 0 0 false 0 (List.replicate 65 0) 0).wf = false ∧
    (Instr.selTsReceive 0 [0, 0, 0, 0, 0] 0).wf = false := by decide +kernel

/-- The data of a DMA descriptor that reads the host. -/
theorem test_wf_dma : (Instr.dmaDescriptorDone 0 0 4 0 0 [1, 2, 3] false).wf = false := by decide

/-- The flits of a Tierlink port. -/
theorem test_wf_tierlink :
    (Instr.tlkControlFlit 0 []).wf = false ∧ (Instr.tlkPacketReceive 0 [] [] false).wf = false ∧
    (Instr.tlkPacketReceive 0 (List.replicate 32 0) [[]] false).wf = false ∧ (Instr.tlkCreditReceive 0 []).wf = false ∧
    (Instr.tlkTsReceive 0 []).wf = false ∧ (Instr.timeFlitReceive 0 []).wf = false := by decide

/-- R535, R542: role 0 is no role that logs in or is locked. -/
theorem test_wf_roles :
    (Instr.loginChallenge 0 0).wf = false ∧ (Instr.loginVerify 0 0).wf = false ∧ (Instr.lockoutExpire 0).wf = false := by
  decide

/-- The defect map of the fuses, the wake sources that a wake event carries, and the port's instructions. -/
theorem test_wf_start :
    (Instr.coldStart { Fuses.model with defects := List.replicate 73 0 } true false 0).wf = false ∧
    (Instr.wakeEvent 0 [(3, 0)]).wf = false ∧ (Instr.jtagUnlockResp []).wf = false ∧ (Instr.jtagBypass 0x20).wf = false := by
  decide +kernel

/-- R478: a link that is up has a speed and a width of the list. -/
theorem test_wf_pcie : (Instr.pcieLinkUp 0 8 true).wf = false ∧ (Instr.pcieLinkUp 1 3 true).wf = false := by decide

/-! The spec's worked examples. -/

/-- R223: the table of representative encodings. -/
theorem test_weights_decode :
    decodeWeight 2 0x01 = .fin 1 (-9) ∧ decodeWeight 2 0x08 = .fin 8 (-9) ∧ decodeWeight 2 0x38 = .fin 8 (-3) ∧
    decodeWeight 2 0x3A = .fin 10 (-3) ∧ decodeWeight 2 0xBA = .fin (-10) (-3) ∧ decodeWeight 2 0x7E = .fin 14 5 ∧
    decodeWeight 3 0x01 = .fin 1 (-16) ∧ decodeWeight 3 0x3C = .fin 4 (-2) ∧ decodeWeight 3 0xFB = .fin (-7) 13 := by decide

/-- R224: the table of scales. -/
theorem test_scales_decode :
    decodeScale 0x3F80 = .fin 128 (-7) ∧ decodeScale 0x3E40 = .fin 192 (-10) ∧ decodeScale 0x3580 = .fin 128 (-27) ∧
    decodeScale 0x7F7F = .fin 255 120 ∧ decodeScale 0x0001 = .fin 1 (-133) ∧ decodeScale 0x8000 = .fin 0 (-133) := by decide

/-- The table "ties, clamps and special operands" of chapter 07, finite rows; of the row 8,290,560 the decimal columns, which its
hexadecimal column 0x007E_8180 does not match. -/
theorem test_contributions :
    contribution (decodeWeight 1 0xFD) 51 (decodeScale 0x3C20) = -97920 ∧
    contribution (decodeWeight 1 55) 51 (decodeScale 0x3C20) = 1795200 ∧
    contribution (decodeWeight 2 0x3A) 3 (decodeScale 0x3D80) = 15360 ∧
    contribution (decodeWeight 1 3) 8 (decodeScale 0x3580) = 2 ∧ contribution (decodeWeight 1 3) 24 (decodeScale 0x3580) = 4 ∧
    contribution (decodeWeight 1 0xFD) 8 (decodeScale 0x3580) = -2 ∧
    contribution (decodeWeight 1 3) 9 (decodeScale 0x3580) = 2 ∧ contribution (decodeWeight 2 0x01) 1 (decodeScale 0x3580) = 0 ∧
    contribution (decodeWeight 1 100) 255 (decodeScale 0x0001) = 0 ∧
    contribution (decodeWeight 1 127) 255 (decodeScale 0x3B80) = 8290560 ∧
    contribution (decodeWeight 1 127) 255 (decodeScale 0x3C00) = 2 ^ 23 ∧
    contribution (decodeWeight 3 0xFB) 255 (decodeScale 0x3F80) = -(2 ^ 23) := by decide

/-- The same table, rows that are not finite (R231). -/
theorem test_contributions_special :
    contribution (decodeWeight 3 0x7C) 1 (decodeScale 0x3F80) = 2 ^ 23 ∧
    contribution (decodeWeight 2 0x7F) 200 (decodeScale 0x3E40) = 0 ∧
    contribution (decodeWeight 1 0) 255 (decodeScale 0x7F80) = 0 := by decide

/-- R238: the table of conversions; values in units of 2^-16 and, for the last, of 2^-20 (-0.0004 is nearer to 0 than to the
smallest subnormal; -419 is that value, truncated to the unit). -/
theorem test_conversions :
    convWeight 0 (5 * 2 ^ 15) 16 = 2 ∧ convWeight 0 (-563609) 16 = 8 ∧ convWeight 2 (21 * 2 ^ 12) 16 = 0x3A ∧
    convWeight 2 (460 * 2 ^ 16) 16 = 0x7E ∧ convWeight 3 (60000 * 2 ^ 16) 16 = 0x7B ∧ convWeight 2 (-419) 20 = 0 := by
  decide +kernel

/-- Chapter 07: 300 contributions at the clamp bound leave 0x96000000, which rounds to -6,946,816. -/
theorem test_accumulator_wraps :
    (List.replicate 300 (2 ^ 23 : Int)).foldl accAdd 0 = 0x96000000 ∧ rne8 (sext 32 0x96000000) = -6946816 := by
  decide +kernel

/-! States for the witnesses. -/

/-- The state after reset. -/
abbrev r0 : State := State.reset
/-- A state with fields of registers set. -/
def R (l : List (RF × Nat)) (s : State := State.reset) : State := l.foldl (fun s x => s.put x.1 x.2) s
/-- The egress channels are not held by the power state. -/
def onP (s : State) : State := { s with power := { s.power with safe := false } }
/-- Physical tile `t` bears logical ID `c`, its links are up, and its delivery engine is on. -/
def up (t c : Nat) (s : State) : State :=
  R [(⟨Reg.SEN_LTT 0 + 4 * (c / 2), 16 * (c % 2), 16⟩, 0x8000 + t),
    (⟨Reg.POD_LTT (podOf t) 0 + 4 * (c / 2), 16 * (c % 2), 16⟩, 0x8000 + t), (Reg.EVM_LINK_UP t, 15), (Reg.DE_CTRL_EN t, 1)] s
/-- Slot `n` of pod `p` holds a descriptor of one source whose flag byte is `b0`, with target code 0. -/
def slotAt (p n b0 : Nat) (s : State) : State :=
  ((s.rawBytes (podBase p + 256 * n) [BitVec.ofNat 8 b0]).rawBytes (podBase p + 256 * n + 8) [1]).rawBytes
    (podBase p + 256 * n + 0x40) [0, 0x80]
/-- The staging area holds a header and a first block with right check values. -/
def deltaState (s : State) : State :=
  let s := s.rawBytes (stagingBase + 4) [1]
  let s := s.rawBytes (stagingBase + 0x3C) (leBytes 4 (crc32c (s.rdBytes stagingBase 0x3C)))
  s.rawBytes (stagingBase + 64) (leBytes 4 (crc32c (s.rdBytes stagingBase 64)))
/-- A flit that begins with the bytes given. -/
def fl (l : List Nat) : List Byte := (l ++ List.replicate 32 0).take 32 |>.map (BitVec.ofNat 8)
/-- A SYNC packet waits at a port. -/
def sy (port : Nat) (l : List Nat) (s : State := State.reset) : State := { s with tlkIn := [(port, 5, [fl l])] }
/-- A joined worker in a phase. -/
def worker (ph : Nat) (s : State := State.reset) : State :=
  R [(Reg.TLK_HIER_CTRL_ROLE, 2), (Reg.TLK_HIER_STAT_STATE, 1), (Reg.STEP_STATUS_PHASE, ph)] s
/-- The manager of a hierarchy in a phase, with its attached workers. -/
def mgr (ph att : Nat) (s : State := State.reset) : State :=
  R [(Reg.TLK_HIER_CTRL_ROLE, 1), (Reg.TLK_HIER_STAT_ATTACHED, att), (Reg.STEP_STATUS_PHASE, ph)] s
/-- A change of the step clock's own state. -/
def clk (f : Clock → Clock) (s : State) : State := { s with clock := f s.clock }
/-- Image `i` in a state. -/
def img (i st : Nat) (s : State := State.reset) : State :=
  { s with images := [⟨i, st, ImageInfo.blank, 0x1000000000, 4, none, Progress.idle, none, []⟩] }
/-- A session of a role on slot 7. -/
def slot7 (r : Nat) (s : State := State.reset) : State := R [(Reg.SEC_SESS_VALID 7, 1), (Reg.SEC_SESS_ROLE 7, r)] s
/-- A change of the mesh. -/
def onM (f : Mesh → Mesh) (s : State := State.reset) : State := { s with mesh := f s.mesh }
/-- A link of a router is up. -/
def lup (r p : Nat) (s : State := State.reset) : State := R [(⟨Reg.EVM_LINK r, p, 1⟩, 1)] s
/-- The DRAM map is live. -/
def dram (s : State := State.reset) : State := R [(Reg.DDR_MAP_STAT_LIVE 0, 0xFFFF)] s
/-- A change of the power state. -/
def onPw (f : Power → Power) (s : State := State.reset) : State := { s with power := f s.power }
/-- Sensor Event Link port 15 in a state. -/
def sel (st : Nat) (x : SelPort) (s : State := State.reset) : State :=
  R [(Reg.SEN_SEL_STATUS_STATE 15, st)] { s with hub := { s.hub with sel := [(15, x)] } }
/-- Tierlink port 7 in a state. -/
def tl (st : Nat) (x : TlkPort) (s : State := State.reset) : State :=
  R [(Reg.TLK_STATUS_STATE 7, st)] { s with tlk := [(7, x)] }
/-- A change of the streams. -/
def onStr (f : Streams → Streams) (s : State := State.reset) : State := { s with streams := f s.streams }
/-- A change of the firmware. -/
def onF (f : Firmware → Firmware) (s : State := State.reset) : State := { s with fw := f s.fw }
/-- A chunk of a tile image with its check value. -/
def chunk (l : List Nat) : Pip :=
  let b := (l ++ List.replicate 20 0).take 20
  Pip.make 0 false 1151 5 0 0 0 8
    (ofLe (b.map (BitVec.ofNat 8) ++ leBytes 4 (crc 32 0x04C11DB7 0xFFFFFFFF 0xFFFFFFFF true b)))
/-- A pip for a place where none is looked for. -/
def noPip : Pip := Pip.make 0 false 0 0 0 0 0 0 0
/-- An object for a place where none is looked for. -/
def noRow : ObjRow := ⟨0, 1, 0, 1, 0, false, .rw, 0, 0, .flash, 0, 0⟩
/-- Every tile has reported its update done. -/
def updAll : State :=
  { R [(Reg.STEP_STATUS_PHASE, 3)] with
    launched := 2 ^ 64 - 1, delivery := { Delivery.empty with updated := List.range 1152 } }

/-- After reset no barrier is pending anywhere. -/
theorem pend0 : ∀ n, n < 1153 → ∀ c, c < 64 → State.reset.barPending n c = false := by
  have h : ∀ n, n < 1153 → RegMap.resetAt (nodeReg n 0x28) = 0 ∧ RegMap.resetAt (nodeReg n 0x2C) = 0 := by decide +kernel
  intro n hn c hc
  obtain ⟨h0, h1⟩ := h n hn
  have r (a : Nat) : State.reset.reg a = RegMap.resetAt a := (rfl)
  obtain k | k : c / 32 = 0 ∨ c / 32 = 1 := by omega
  · simp [State.barPending, State.flag, State.get, ctxBit, k, r, h0, getF]
  · simp [State.barPending, State.flag, State.get, ctxBit, k, r, h1, getF]

set_option maxRecDepth 4000 in
/-- Every update is done. -/
theorem updAll_done : updAll.updatesDone = true := by
  unfold updatesDone
  rw [Bool.and_eq_true, Bool.and_eq_true]
  refine ⟨⟨List.all_eq_true.2 fun t ht => ?_, by decide +kernel⟩, by decide +kernel⟩
  have h1 : updAll.delivery.updated.contains t = true := by
    show (List.range 1152).contains t = true
    exact List.contains_iff_mem.2 ht
  have h2 : (updAll.mesh.spikes.at t).length ≤ 64 := by
    show (0 : Nat) ≤ 64
    exact Nat.zero_le _
  rw [h1, decide_eq_true h2]
  simp

/-- What an operation that goes on leaves. -/
theorem some_getD (o : Option State) (d : State) (h : o.isSome = true) : o = some (o.getD d) := by
  cases o <;> simp_all

/-- A switch that waits, with tile 1150 as spare 0. -/
def swState : State :=
  R [(⟨Reg.SEN_LTT 0, 0, 16⟩, 0x8000 + 1150)] { r0 with
    fault := { Faults.none with remap := some ⟨5, 0, 1151, 1150, 5, 1, 0, 0⟩ },
    clock := { r0.clock with policy := 2 } }

/-- Its changes leave the step clock's policy. -/
theorem swState_policy : ((swState.switchOver ⟨5, 0, 1151, 1150, 5, 1, 0, 0⟩).getD swState).clock.policy = 2 := by
  unfold switchOver
  dsimp only
  refine map_policy (fun x => ?_) ?_
  · rw [onFault_clock, queuesMove_clock, accZero_clock]
  · decide +kernel

/-! Small tests of single commands. -/

/-- R673: a load sets all 64 bits of a timer's count. -/
theorem test_timer_load :
    ((r0.put64 (Reg.TMR_LOAD_LO 15) 0x1234567890).completes (.timerLoad 15) fun t =>
      t.get64 (Reg.TMR_CNT_LO 15) = 0x1234567890) := ⟨_, rfl, rfl, by decide +kernel⟩

/-- R79: a slew code wraps the 64-bit counter. -/
theorem test_slew_wraps :
    ((R [(⟨Reg.TB_SLEW, 0, 16⟩, 5)]).put64 Reg.TB_COUNT_LO 0xFFFFFFFFFFFFFFFF).completes .tbSlewCode fun t =>
      t.now = 1 ∧ t.get ⟨Reg.TB_SLEW, 0, 16⟩ = 4 := ⟨_, rfl, rfl, by decide +kernel⟩

/-- A register request or response waits in the control intake of a node. -/
def atCtrl (n : Nat) (p : Pip) (s : State) : State := onM (fun m => { m with ctrlIn := [(n, [p])] }) s
/-- The last tile is retired, and a write of the last register of its window is at its control port. -/
def shutWrite : State :=
  atCtrl 1151 (Pip.make 0 false 1151 1183 0 0 0 6 (0x111FFFFFC + 5 * 2 ^ 64 + 255 * 2 ^ 96 + 1183 * 2 ^ 104 + 15 * 2 ^ 120))
    { r0 with fault := { Faults.none with retired := [1151] } }

/-- R40: a write to a retired tile is discarded and answered FENCED. -/
theorem test_write_shut : shutWrite.completes (.regWriteRequest 1151 .clean) fun t => t.regs = [] ∧ t.mem = [] ∧
    t.mesh.ctrl = [(1151, [regResponse 1151 1183 255 0 Status.fenced.code])] := ⟨_, rfl, rfl, by decide +kernel⟩

/-- The front of the queue runs, and the rest waits. -/
theorem test_step_takes_front :
    ∃ t, step { r0 with pending := [.timerStart 0, .tbLoad] } = .next t ∧ t.pending = [.tbLoad] ∧
      t.get (Reg.TMR_STATUS_RUN 0) = 1 := ⟨_, rfl, rfl, by decide +kernel⟩

/-! Witnesses: for each obligation with hypotheses, states and operands that meet them. -/

theorem witness_EmptyQueueIdles : ∃ s : State, s.pending = [] := ⟨r0, rfl⟩

theorem witness_StepKeepsSound : ∃ s t : State, s.Sound ∧ step s = .next t :=
  ⟨{ r0 with pending := [.timerLoad 15] }, _,
    ⟨by decide +kernel, by decide +kernel, by decide +kernel, by decide +kernel, by decide +kernel, by decide +kernel,
      .inl rfl⟩, rfl⟩

theorem witness_NonStoringCommandsKeepMemory :
    ∃ (c : Instr) (s t : State), c.neverStores = true ∧ exec c s = .next t := ⟨.timerLoad 15, r0, _, rfl, rfl⟩

theorem witness_OtherCommandsKeepNmt :
    ∃ (c : Instr) (s t : State), c.mayChangeNmt = false ∧ exec c s = .next t := ⟨.timerLoad 15, r0, _, rfl, rfl⟩

/-- STEP_NUM, whose low word is 5 and whose high word becomes 9 between the reads. -/
theorem witness_PairsReadWhole : ∃ (s t u : State) (src : Requester) (a : BitVec 40) (r : Nat) (row : RegRow),
    s.reaches src a.toNat = some r ∧ s.reaches src (a.toNat + 4) = some (r + 4) ∧ a.toNat + 4 < 2 ^ 40 ∧
      RegMap.rowOf r = some row ∧ row.low = true ∧ plainRead r = true ∧ plainRead (r + 4) = true ∧
      s.latches.at r = 0 ∧ s.latches.at (r + 4) = 0 ∧ exec (.lowWordRead ⟨src, .clean⟩ a) s = .next t ∧
      u.latches = t.latches ∧ u.reaches src (a.toNat + 4) = some (r + 4) ∧ u.reg (r + 4) ≠ s.reg (r + 4) := by
  refine ⟨r0.setReg Reg.STEP_NUM_LO 5, _, { r0.setReg (Reg.STEP_NUM_LO + 4) 9 with latches := [(Reg.STEP_NUM_LO + 4, 1)] },
    .hart 3 false, BitVec.ofNat 40 Reg.STEP_NUM_LO, Reg.STEP_NUM_LO, (RegMap.rowOf Reg.STEP_NUM_LO).get (by decide +kernel),
    ?_, ?_, ?_, ?_, ?_, ?_, ?_, ?_, ?_, rfl, ?_, ?_, ?_⟩ <;> first | exact (Option.some_get _).symm | decide +kernel

theorem witness_FirmwareCannotForgeEvents :
    (∃ s : State, (s.reg Reg.FLT_LOG_APP0).toNat / 4096 % 16 = 9 ∧
      (s.events.filter fun e => e.rank = Block.app.rank ∧ e.inst = 0).length < 4) ∧
    (∃ s : State, (s.reg Reg.FLT_LOG_APP0).toNat / 4096 % 16 = 6) :=
  ⟨⟨r0.setReg Reg.FLT_LOG_APP0 0x9102, by decide +kernel⟩, ⟨r0.setReg Reg.FLT_LOG_APP0 0x6120, by decide +kernel⟩⟩

/-- The last tile retired: its address with one tag left, a write at its port, and the answer at the edge. -/
theorem witness_ClosedWindowDiscardsWrites :
    (∃ (s : State) (a : BitVec 40) (g : Nat), tileAtAddr a.toNat = some 1151 ∧
      ((List.range 256).find? fun g => s.accesses.all fun x => x.1 != g) = some g) ∧
    (∃ (s u : State) (p : Pip), s.takeCtrl 1151 6 = some (p, u) ∧ s.shut 1151 = true) ∧
    (∃ (s u : State) (p : Pip), s.takeResponse 31 = some (p, u) ∧ s.accessSender (p.b 96 8) = .hart 3 true ∧
      p.b 32 4 = Status.fenced.code) :=
  ⟨⟨{ r0 with accesses := (List.range 255).map fun i => (i, 5) }, 0x111FFFFFC, 255, by decide +kernel⟩,
    ⟨shutWrite, _, _, rfl, by decide +kernel⟩,
    ⟨atCtrl 1183 (regResponse 1151 1183 255 0 Status.fenced.code) { r0 with accesses := [(255, 3)] }, _, _, rfl,
      by decide +kernel⟩⟩

/-- A channel between -5 and 100 whose last output is 5, with 100 held. -/
def chan : State :=
  let s := onP (R [(Reg.SEC_LC_STATE, 2), (Reg.EGR_CH_CTRL_EN 63, 1), (Reg.EGR_CH_CTRL_SINK 63, 3), (Reg.EGR_CH_STATUS_SAFE 63, 0)])
  let s := ((s.setReg (Reg.EGR_CH_LO 63) (BitVec.ofInt 32 (-5))).setReg (Reg.EGR_CH_HI 63) 100).setReg (Reg.EGR_CH_DB 63) 3
  let s := (s.setReg (Reg.EGR_CH_LAST 63) 5).setReg (Reg.EGR_CH_GAP 63) 100
  { s with guard := { s.guard with held := [(63, 100)], emitted := [(63, 1)] } }

theorem witness_EgressStaysInBounds : ∃ (s t u : State) (n m : Fin 64) (v : Word), s.withinBounds m.val ∧
    s.egrInt (Reg.EGR_CH_LO m.val) ≤ s.egrInt (Reg.EGR_CH_HI m.val) ∧ exec (.guardWriteCandidate n v) s = .next t ∧
    (∀ x ∈ s.guard.held, x.1 = m.val → s.egrInt (Reg.EGR_CH_LO m.val) ≤ sext 32 x.2 ∧
      sext 32 x.2 ≤ s.egrInt (Reg.EGR_CH_HI m.val)) ∧ exec (.guardGapExpire n) s = .next u :=
  ⟨chan, _, _, 63, 63, 1000, .inr (by decide +kernel), by decide +kernel, rfl, by decide +kernel, rfl⟩

theorem witness_CandidateStages : ∃ (s : State) (n : Fin 64) (v w : Word), s.causes n.val = 0 ∧
    s.flag (Reg.EGR_CH_STATUS_SAFE n.val) = false ∧
    (sat v.toInt (s.egrInt (Reg.EGR_CH_LO n.val)) (s.egrInt (Reg.EGR_CH_HI n.val)) - s.egrInt (Reg.EGR_CH_LAST n.val)).natAbs <
      (s.reg (Reg.EGR_CH_DB n.val)).toNat ∧
    (s.reg (Reg.EGR_CH_DB n.val)).toNat ≤
      (sat w.toInt (s.egrInt (Reg.EGR_CH_LO n.val)) (s.egrInt (Reg.EGR_CH_HI n.val)) - s.egrInt (Reg.EGR_CH_LAST n.val)).natAbs ∧
    s.gapOver n.val = false := ⟨chan, 63, 7, 8, by decide +kernel⟩

theorem witness_NmtCommandsTouchOnlyTheLayer : ∃ (s t : State) (bus : Fin 2) (f : CanFrame), f.id = 0 ∧ f.ide = false ∧
    exec (.canFrameReceive bus f false) s = .next t :=
  ⟨R [(Reg.CAN_CTRL_EN 1, 1)], _, 1, ⟨0, false, false, false, [129, 0]⟩, rfl, rfl, rfl⟩

/-- A context of an ALIF neuron with graded output. -/
def ctxA : Ctx := { State.reset.ctx 0 0 with model := 2, outMode := 1, theta := 100, qMul := 1 }

theorem witness_MembraneStaysInRange : ∃ (c : Ctx) (n : Neuron), n.ref = 0 ∧ c.vMin ≤ 32767 :=
  ⟨ctxA, ⟨0, 0, 0, 0, 0⟩, by decide +kernel⟩

theorem witness_RefractoryNeuronHolds : ∃ n : Neuron, 0 < n.ref := ⟨⟨0, 0, 0, 0, 1⟩, by decide⟩

theorem witness_HighThresholdNeverFires : ∃ (c : Ctx) (n : Neuron), c.model = 2 ∧ c.vMin ≤ 32767 ∧
    32767 < c.theta + ((decay n.a c.aDecay * 2 ^ c.aShl : Nat) : Int) := ⟨ctxA, ⟨0, 0, 65535, 0, 0⟩, by decide +kernel⟩

theorem witness_SpikeGrade :
    (∃ (c : Ctx) (n : Neuron) (acc : Nat), c.model ≠ 4 ∧ c.outMode = 0 ∧ (c.update n acc).fire = true) ∧
    (∃ (c : Ctx) (n : Neuron) (acc : Nat), c.model < 3 ∧ c.outMode ≠ 0 ∧ (c.update n acc).fire = true) ∧
    (∃ (c : Ctx) (n : Neuron) (acc : Nat), c.model = 3 ∧ c.outMode ≠ 0 ∧ (c.update n acc).fire = true) ∧
    (∃ (c : Ctx) (n : Neuron), c.model = 4 ∧ n.ref = 0) :=
  ⟨⟨{ ctxA with outMode := 0 }, ⟨0, 0, 0, 0, 0⟩, 51200, by decide +kernel⟩, ⟨ctxA, ⟨0, 0, 0, 0, 0⟩, 51200, by decide +kernel⟩,
    ⟨{ ctxA with model := 3 }, ⟨0, 0, 0, 0, 0⟩, 51200, by decide +kernel⟩,
    ⟨{ ctxA with model := 4 }, ⟨0, 0, 0, 0, 0⟩, by decide +kernel⟩⟩

theorem witness_RoundsToNearestEven : ∃ (m : Int) (n : Nat), 2 * ((2 ^ n : Nat) * rne m n - m).natAbs = 2 ^ n :=
  ⟨-3, 1, by decide⟩

theorem witness_FarProducts :
    (∃ (raw scale : Nat) (wm we sm se : Int), raw < 256 ∧ scale < 65536 ∧ decodeWeight 3 raw = .fin wm we ∧
      decodeScale scale = .fin sm se ∧ we + se + 16 ≤ -24 ∧ wm * 255 * sm = 0) ∧
    (∃ (raw scale : Nat) (wm we sm se : Int), raw < 256 ∧ scale < 65536 ∧ decodeWeight 3 raw = .fin wm we ∧
      decodeScale scale = .fin sm se ∧ 24 ≤ we + se + 16 ∧ 0 < wm * 255 * sm) ∧
    (∃ (raw scale : Nat) (wm we sm se : Int), raw < 256 ∧ scale < 65536 ∧ decodeWeight 3 raw = .fin wm we ∧
      decodeScale scale = .fin sm se ∧ 24 ≤ we + se + 16 ∧ wm * 255 * sm < 0) :=
  ⟨⟨0x80, 0x8000, 0, -16, 0, -133, by decide⟩, ⟨0x7B, 0x7F7F, 7, 13, 255, 120, by decide⟩,
    ⟨0xFB, 0x7F7F, -7, 13, 255, 120, by decide⟩⟩

/-- Beyond either end, and a tie between two encodings. -/
theorem witness_ConversionIsNearest :
    (∃ x : Int, 57344 * (2 ^ 16 : Nat) < x) ∧ (∃ x : Int, x < -8 * (2 ^ 16 : Nat)) ∧
    (∃ (x : Int) (e : Nat), -8 * (2 ^ 16 : Nat) ≤ x ∧ x ≤ 7 * (2 ^ 16 : Nat) ∧ e < 16 ∧ (decodeWeight 0 e).finite = true ∧
      ((decodeWeight 0 (convWeight 0 x 16)).scaled 16 - x).natAbs = ((decodeWeight 0 e).scaled 16 - x).natAbs ∧
      (decodeWeight 0 e).scaled 16 ≠ (decodeWeight 0 (convWeight 0 x 16)).scaled 16) :=
  ⟨⟨57345 * 2 ^ 16, by decide⟩, ⟨-9 * 2 ^ 16, by decide⟩, ⟨5 * 2 ^ 15, 3, by decide +kernel⟩⟩

theorem witness_AccumulationIsOrderFree : ∃ (a : Nat) (l l' : List (Machine.Num × Nat × Machine.Num)), a < 2 ^ 32 ∧
    l.Perm l' ∧ ∃ g : List (List (Machine.Num × Nat × Machine.Num)), l = g.flatten :=
  ⟨2 ^ 32 - 1, [(.fin 1 0, 1, .fin 1 0), (.fin 2 0, 2, .fin 1 0)], [(.fin 2 0, 2, .fin 1 0), (.fin 1 0, 1, .fin 1 0)],
    by decide, .swap _ _ _, [[(.fin 1 0, 1, .fin 1 0)], [(.fin 2 0, 2, .fin 1 0)]], rfl⟩

theorem witness_TamperWipesAtOnce : ∃ s : State, s.get Reg.PWR_STATUS_STATE ≠ 3 := ⟨r0, by decide +kernel⟩

theorem witness_AccessCommandsComplete :
    (∃ (s : State) (src : Requester) (a : BitVec 40) (r : Nat), (s.reaches src a.toNat = some r) ∧ (plainRead r = true) ∧
                (s.latches.at r = 0) ∧ (((RegMap.rowOf r).any (·.low)) = true)) ∧
    (∃ (s : State) (src : Requester) (a : BitVec 40) (r : Nat) (n : Nat), (s.reaches src a.toNat = some r) ∧
                (plainRead r = true) ∧ (s.latches.at r = n + 1) ∧ (n < 2 ^ 32)) ∧
    (∃ (s : State) (src : Requester) (a : BitVec 40) (r : Nat), (s.reaches src a.toNat = some r) ∧
                (State.hasMark r = true) ∧ (tileAtAddr r = none)) ∧
    (∃ (s : State) (a : BitVec 40) (g : Nat), ((s.doorOf a.toNat).isSome = true) ∧
                (((List.range 256).find? fun g => s.accesses.all fun x => x.1 != g) = some g)) ∧
    (∃ (a : BitVec 40), (0x2000000 ≤ a.toNat) ∧ (a.toNat < 0x8000000)) := by
  refine ⟨?_, ?_, ?_, ?_, ?_⟩
  · exact (let s : State := r0; let src : Requester := .hart 3 false; let a : BitVec 40 := BitVec.ofNat 40 Reg.STEP_NUM_LO;
              let r : Nat := Reg.STEP_NUM_LO;  ⟨s, src, a, r, by (decide +kernel +zetaReduce)⟩)
  · exact (let s : State := {r0 with latches := [(Reg.STEP_NUM_LO+4, 2^32)]}; let src : Requester := .hart 3 true;
              let a : BitVec 40 := BitVec.ofNat 40 (Reg.STEP_NUM_LO+4); let r : Nat := Reg.STEP_NUM_LO+4;
              let n : Nat := 2^32-1;  ⟨s, src, a, r, n, by (decide +kernel +zetaReduce)⟩)
  · exact (let s : State := r0; let src : Requester := .tile 1151; let a : BitVec 40 := 0x18107C;
              let r : Nat := 0x18478107C;  ⟨s, src, a, r, by (decide +kernel +zetaReduce)⟩)
  · exact (let s : State := {r0 with accesses := (List.range 255).map fun i => (i, 5)}; let a : BitVec 40 := 0x1847FFFFC;
              let g : Nat := 255;  ⟨s, a, g, by (decide +kernel +zetaReduce)⟩)
  · exact (let a : BitVec 40 := 0x2000000;  ⟨a, by (decide +kernel +zetaReduce)⟩)

theorem witness_AccessCommandsComplete_at_windows :
    (∃ (s : State) (tile : Fin 1152) (a : BitVec 40), (s.isSpare tile.val = false) ∧ (s.coreGated tile.val = false) ∧
                ((0x40000 ≤ a.toNat ∧ a.toNat < 0x100000) ∨ 0x200000 ≤ a.toNat)) ∧
    (∃ (s : State) (tile : Fin 1152) (p : Pip) (u : State), (s.takeCtrl tile.val 5 = some (p, u)) ∧
                (s.shut tile.val = false) ∧ (tileAtAddr (reqAddr p / 4 * 4) = some tile.val) ∧
                ((reqAddr p / 4 * 4 - 0x100000000) % 0x40000 < 0x28000)) ∧
    (∃ (s : State) (tile : Fin 1152) (p : Pip) (u : State), (s.takeCtrl tile.val 6 = some (p, u)) ∧
                (s.shut tile.val = false) ∧ (tileAtAddr (reqAddr p / 4 * 4) = some tile.val) ∧
                ((reqAddr p / 4 * 4 - 0x100000000) % 0x40000 < 0x28000)) ∧
    (∃ (s : State) (row : Fin 32) (p : Pip) (u : State), (s.takeResponse row.val = some (p, u)) ∧
                (s.accessSender (p.b 96 8) = .host)) ∧
    (∃ (x : BitVec 24), (0x10800 ≤ x.toNat / 4 * 4) ∧ (x.toNat / 4 * 4 < 0x18000)) ∧
    (∃ (s : State) (x : BitVec 24), (x.toNat / 4 * 4 < 0x2000) ∧ (plainRead (hostBase + x.toNat / 4 * 4) = true) ∧
                (s.latches.at (hostBase + x.toNat / 4 * 4) = 0)) ∧
    (∃ (s : State) (x : BitVec 24) (be : Fin 16), (0x4000 ≤ x.toNat / 4 * 4) ∧ (x.toNat / 4 * 4 < 0x4100) ∧
                (s.flag Reg.HOST_MBX_STAT_BUSY = false) ∧ (be.val ≠ 0)) ∧
    (∃ (s : State) (x : BitVec 36) (a : Nat), (a = dramBase + s.get Reg.HOST_WIN_BASE_GIB * 2 ^ 30 + x.toNat / 4 * 4) ∧
                ((s.dramAt a).isSome = true) ∧ (s.dramOk a = true) ∧ (s.rangePoisoned a 4 = false)) ∧
    (∃ (s : State) (x : BitVec 29) (g : Nat), (x.toNat / 4 * 4 < 0x16800000) ∧
                (((List.range 256).find? fun g => s.accesses.all fun y => y.1 != g) = some g)) ∧
    (∃ (x : BitVec 29), (0x18000000 ≤ x.toNat / 4 * 4) ∧ (x.toNat / 4 * 4 < 0x183C0000)) := by
  refine ⟨?_, ?_, ?_, ?_, ?_, ?_, ?_, ?_, ?_, ?_⟩
  · exact (let s : State := r0; let tile : Fin 1152 := 1151; let a : BitVec 40 := 0x200000;
               ⟨s, tile, a, by (exact ⟨by decide +kernel, by decide +kernel, .inr (by decide)⟩)⟩)
  · exact (let s : State := {r0 with mesh := {Mesh.empty with ctrlIn := [(1151, [Pip.make 0 false 1151 1183 0 0 0 5 (0x100000000 + 1151*0x40000 + 0x27FFC + 255 * 2^96 + 1183 * 2^104 + 15 * 2^120)])]}};
              let tile : Fin 1152 := 1151; let y := (s.takeCtrl 1151 5).getD (noPip, s); let p : Pip := y.1;
              let u : State := y.2;
               ⟨s, tile, p, u, by (exact ⟨rfl, by decide +kernel, by decide +kernel, by decide +kernel⟩)⟩)
  · exact (let s : State := {r0 with mesh := {Mesh.empty with ctrlIn := [(1151, [Pip.make 0 false 1151 1183 0 0 0 6 (0x100000000 + 1151*0x40000 + 0x27FFC + 0xDEADBEEF * 2^64 + 255 * 2^96 + 1183 * 2^104 + 15 * 2^120)])]}};
              let tile : Fin 1152 := 1151; let y := (s.takeCtrl 1151 6).getD (noPip, s); let p : Pip := y.1;
              let u : State := y.2;
               ⟨s, tile, p, u, by (exact ⟨rfl, by decide +kernel, by decide +kernel, by decide +kernel⟩)⟩)
  · exact (let s : State := {r0 with accesses := [(255, 5)], mesh := {Mesh.empty with ctrlIn := [(1183, [regResponse 1151 1183 255 77 0])]}};
              let row : Fin 32 := 31; let y := (s.takeResponse 31).getD (noPip, s); let p : Pip := y.1;
              let u : State := y.2;  ⟨s, row, p, u, by (decide +kernel +zetaReduce)⟩)
  · exact (let x : BitVec 24 := 0x10800;  ⟨x, by (decide +kernel +zetaReduce)⟩)
  · exact (let s : State := r0; let x : BitVec 24 := 0x8;  ⟨s, x, by (decide +kernel +zetaReduce)⟩)
  · exact (let s : State := r0; let x : BitVec 24 := 0x40FC; let be : Fin 16 := 5;
               ⟨s, x, be, by (decide +kernel +zetaReduce)⟩)
  · exact (let s : State := R [(Reg.DDR_MAP_STAT_LIVE 0, 0xFFFF)]; let x : BitVec 36 := 0;
              let a : Nat := dramBase + s.get Reg.HOST_WIN_BASE_GIB * 2 ^ 30;  ⟨s, x, a, by (decide +kernel +zetaReduce)⟩)
  · exact (let s : State := r0; let x : BitVec 29 := 0x167FFFFC; let g : Nat := 0;
               ⟨s, x, g, by (decide +kernel +zetaReduce)⟩)
  · exact (let x : BitVec 29 := 0x183BFFFC;  ⟨x, by (decide +kernel +zetaReduce)⟩)

theorem witness_AuthorityCommandsComplete :
    (∃ (s : State) (slot : Fin 8) (a : Nat), (a = s.get64 Reg.SEC_AUTH_ADDR_LO % 2 ^ 40) ∧ (s.wiping = false) ∧
                ((authFields a).isEmpty = false) ∧ (s.authRole a (s.reg Reg.SEC_AUTH_DATA).toNat ≤ s.slotRole slot.val) ∧
                (channelOf a = none) ∧ (pinOf a = none) ∧ (driftOf a = none) ∧
                (a ∉ [Reg.EGR_CTRL, Reg.SEC_HUSK_WIPE, Reg.DBG_INJ_CTRL]) ∧
                ((s.setReg a (authWord a (s.reg a) (s.reg Reg.SEC_AUTH_DATA))).authOk a = true)) ∧
    (∃ (s : State) (slot : Fin 8) (v : Fin 256), (3 ≤ s.slotRole slot.val) ∧ (v.val ≤ 3) ∧ (s.lifecycleReason v.val = 0)) ∧
    (∃ (s : State) (slot : Fin 8) (v : Fin 256) (new : Nat) (time : Nat), (3 ≤ s.slotRole slot.val) ∧
                (s.sec.target = some (slot.val, new, time)) ∧ (v.val + new = 255) ∧ (s.now ≤ time + 2000000000) ∧
                (s.lifecycleReason new = 0)) ∧
    (∃ (s : State) (x : Nat × Nat × Nat), (s.sec.target = some x)) := by
  refine ⟨?_, ?_, ?_, ?_⟩
  · exact (let s : State := (R [(Reg.SEC_SESS_VALID 7, 1), (Reg.SEC_SESS_ROLE 7, 3)]).put64 Reg.SEC_AUTH_ADDR_LO Reg.FLT_WDOG_TMO |>.setReg Reg.SEC_AUTH_DATA 500;
              let slot : Fin 8 := 7; let a : Nat := Reg.FLT_WDOG_TMO;  ⟨s, slot, a, by (decide +kernel +zetaReduce)⟩)
  · exact (let s : State := R [(Reg.SEC_SESS_VALID 7, 1), (Reg.SEC_SESS_ROLE 7, 3), (Reg.SEC_LC_STATE, 2)];
              let slot : Fin 8 := 7; let v : Fin 256 := 3;  ⟨s, slot, v, by (decide +kernel +zetaReduce)⟩)
  · exact (let s : State := { R [(Reg.SEC_SESS_VALID 7, 1), (Reg.SEC_SESS_ROLE 7, 3), (Reg.SEC_LC_STATE, 0), (Reg.SEC_LC_USED, 15)] with sec := { Security.empty with target := some (7, 1, 5), keys := [(1, [1])] } };
              let slot : Fin 8 := 7; let v : Fin 256 := 254; let new : Nat := 1; let time : Nat := 5;
               ⟨s, slot, v, new, time, by (decide +kernel +zetaReduce)⟩)
  · exact (let s : State := { r0 with sec := { Security.empty with target := some (7, 1, 5) } };
              let x : Nat × Nat × Nat := (7, 1, 5);  ⟨s, x, by (decide +kernel +zetaReduce)⟩)

theorem witness_BringupCommandsComplete :
    (∃ (s : State), (s.start.stage = 0) ∧ (s.power.enabled = []) ∧ (s.power.off = []) ∧ (s.power.vaon = false)) ∧
    (∃ (s : State), (s.start.stage ≠ 2)) ∧
    (∃ (s : State), (s.start.stage = 2) ∧ (s.start.kind = 3)) ∧
    (∃ (s : State) (r : Fin 7) (q : Nat), (s.power.enabled.contains r.val = true) ∧ (s.start.rail = some r.val) ∧
                (((if s.start.kind = 3 then [0, 1] else riseOrder).find? fun q => q ∉ s.power.enabled) = some q)) ∧
    (∃ (s : State) (r : Fin 7), (s.power.enabled.contains r.val = true) ∧ (s.start.rail = some r.val) ∧
                (((if s.start.kind = 3 then [0, 1] else riseOrder).find? fun q => q ∉ s.power.enabled) = none)) ∧
    (∃ (s : State) (r : Fin 7), (s.start.rail = some r.val)) ∧
    (∃ (s : State) (q : Nat), (s.start.stage = 0) ∧ (0 < s.start.tries) ∧ (s.start.tries < 3) ∧ (s.power.off = []) ∧
                (((if s.start.kind = 3 then [0, 1] else riseOrder).find? fun q => q ∉ s.power.enabled) = some q)) ∧
    (∃ (s : State), (s.start.bist = true) ∧ (s.start.stage ≠ 3)) := by
  refine ⟨?_, ?_, ?_, ?_, ?_, ?_, ?_, ?_⟩
  · exact (let s : State := { r0 with power := { Power.start with enabled := [], off := [], vaon := false }, start := { Start.none with stage := 0 } };
               ⟨s, by (decide +kernel +zetaReduce)⟩)
  · exact (let s : State := { r0 with start := { Start.none with stage := 3 } };  ⟨s, by (decide +kernel +zetaReduce)⟩)
  · exact (let s : State := { r0 with start := { Start.none with stage := 2, kind := 3 } };
               ⟨s, by (decide +kernel +zetaReduce)⟩)
  · exact (let s : State := { r0 with power := { Power.start with enabled := [6] }, start := { Start.none with rail := some 6, kind := 0 } };
              let r : Fin 7 := 6;
              let q : Nat := ((if s.start.kind = 3 then [0, 1] else riseOrder).find? fun q => q ∉ s.power.enabled).getD 0;
               ⟨s, r, q, by (decide +kernel +zetaReduce)⟩)
  · exact (let s : State := { r0 with power := { Power.start with enabled := [0,1,2,3,4,5,6] }, start := { Start.none with rail := some 0, kind := 0 } };
              let r : Fin 7 := 0;  ⟨s, r, by (decide +kernel +zetaReduce)⟩)
  · exact (let s : State := { r0 with power := { Power.start with enabled := [0,1,2,3,4,5,6] }, start := { Start.none with rail := some 6, tries := 2, kind := 0 } };
              let r : Fin 7 := 6;  ⟨s, r, by (decide +kernel +zetaReduce)⟩)
  · exact (let s : State := { r0 with power := { Power.start with enabled := [], off := [] }, start := { Start.none with stage := 0, tries := 2, kind := 0 } };
              let q : Nat := ((if s.start.kind = 3 then [0, 1] else riseOrder).find? fun q => q ∉ s.power.enabled).getD 0;
               ⟨s, q, by (decide +kernel +zetaReduce)⟩)
  · exact (let s : State := { r0 with start := { Start.none with bist := true, stage := 4 } };
               ⟨s, by (decide +kernel +zetaReduce)⟩)

theorem witness_CanCommandsComplete :
    (∃ (s : State), (s.canMode = 0) ∧ ((s.txBuf 0).ide = false) ∧ (s.flag (Reg.CAN_CTRL_EN 0) = true) ∧
                (s.tpdoOwns 0 (s.txBuf 0).id = false) ∧ ((s.canCtl 0).raw.length < 32) ∧
                ((s.canCtl 0).loaded.isSome = true)) ∧
    (∃ (s : State) (c : Fin 2), ((s.canCtl c.val).loaded.isSome = true) ∧ (s.get (Reg.CAN_TXLIM_STAT_TOKENS c.val) = 0) ∧
                (0 < s.get (Reg.CAN_TXLIM_BURST c.val)) ∧
                ((s.canCtl c.val).since + ceilDiv 200000000 (max 1 (s.get (Reg.CAN_TXLIM_RATE c.val))) < 2 ^ 64)) ∧
    (∃ (s : State) (c : Fin 2) (f : CanFrame), ((s.canCtl c.val).loaded = some f) ∧
                (s.get (Reg.CAN_STATUS_STATE c.val) < 2) ∧ (s.flag Reg.DBG_JTAG_STAT_EXTEST = false)) ∧
    (∃ (s : State) (c : Fin 2) (tec : Fin 512) (rec1 : Fin 512), (s.get (Reg.CAN_STATUS_STATE c.val) < 2) ∧
                (tec.val < 128) ∧ (rec1.val < 128)) ∧
    (∃ (s : State) (c : Fin 2) (tec : Fin 512), (s.get (Reg.CAN_STATUS_STATE c.val) < 2) ∧ (256 ≤ tec.val)) ∧
    (∃ (s : State) (c : Fin 2), (s.get (Reg.CAN_STATUS_STATE c.val) = 2) ∧ (s.flag (Reg.CAN_CTRL_AUTO_REC c.val) = true)) ∧
    (∃ (s : State), (s.canMode = 2) ∧ (s.canStandby = false) ∧ (s.get (Reg.CAN_STATUS_STATE 0) = 2)) ∧
    (∃ (s : State), (s.canMode = 2) ∧ (s.canStandby = true) ∧ (s.get (Reg.CAN_STATUS_STATE 0) = 0)) := by
  refine ⟨?_, ?_, ?_, ?_, ?_, ?_, ?_, ?_⟩
  · exact (let s : State := { R [(Reg.CAN_CTRL_EN 0, 1)] with can := [(0, { CanCtl.idle with loaded := some ⟨5, false, true, true, []⟩ })] };
               ⟨s, by (decide +kernel +zetaReduce)⟩)
  · exact (let s : State := { R [(Reg.CAN_TXLIM_STAT_TOKENS 1, 0), (Reg.CAN_TXLIM_BURST 1, 1)] with can := [(1, { CanCtl.idle with loaded := some ⟨5, false, true, true, []⟩ })] };
              let c : Fin 2 := 1;  ⟨s, c, by (decide +kernel +zetaReduce)⟩)
  · exact (let s : State := { R [(Reg.CAN_STATUS_STATE 1, 1)] with can := [(1, { CanCtl.idle with loaded := some ⟨5, false, true, true, []⟩ })] };
              let c : Fin 2 := 1; let f : CanFrame := ⟨5, false, true, true, []⟩;
               ⟨s, c, f, by (decide +kernel +zetaReduce)⟩)
  · exact (let s : State := R [(Reg.CAN_STATUS_STATE 1, 1)]; let c : Fin 2 := 1; let tec : Fin 512 := 127;
              let rec1 : Fin 512 := 127;  ⟨s, c, tec, rec1, by (decide +kernel +zetaReduce)⟩)
  · exact (let s : State := R [(Reg.CAN_STATUS_STATE 1, 1)]; let c : Fin 2 := 1; let tec : Fin 512 := 256;
               ⟨s, c, tec, by (decide +kernel +zetaReduce)⟩)
  · exact (let s : State := R [(Reg.CAN_STATUS_STATE 1, 2), (Reg.CAN_CTRL_AUTO_REC 1, 1)]; let c : Fin 2 := 1;
               ⟨s, c, by (decide +kernel +zetaReduce)⟩)
  · exact (let s : State := { R [(Reg.CAN_STATUS_STATE 0, 2)] with canMode := 2 };  ⟨s, by (decide +kernel +zetaReduce)⟩)
  · exact (let s : State := { R [(Reg.CAN_STATUS_STATE 0, 0)] with canMode := 2, canStandby := true };
               ⟨s, by (decide +kernel +zetaReduce)⟩)

theorem witness_CheckUnitCommandsComplete :
    (∃ (s : State) (u : Fin 8), (s.get (Reg.CHK_STATUS_BUSY u.val) = 0) ∧ (s.reg (Reg.CHK_LEN u.val) ≠ 0)) ∧
    (∃ (s : State) (u : Fin 8) (owner : Fin 5), (s.get (Reg.CHK_STATUS_BUSY u.val) = 1) ∧
                (s.get (Reg.CHK_STATUS_OWNER u.val) = owner.val) ∧ (s.chkWait = false)) ∧
    (∃ (s : State) (u : Fin 8), (s.get (Reg.CHK_STATUS_BUSY u.val) = 1) ∧ (s.get (Reg.CHK_STATUS_OWNER u.val) ≠ 7) ∧
                (s.chkWait = false) ∧ (s.get (Reg.CHK_CTRL_MODE u.val) = 0) ∧ (s.get (Reg.CHK_CTRL_CMP_EN u.val) = 0) ∧
                ((∀ i, i < s.get (Reg.CHK_LEN_BYTES u.val) → s.chkReads (s.chkAddr u.val + i) = true))) ∧
    (∃ (s : State), (s.get (Reg.CHK_STATUS_BUSY 7) = 0)) ∧
    (∃ (s : State) (u : Fin 8), (s.get (Reg.CHK_STATUS_BUSY u.val) = 0)) := by
  refine ⟨?_, ?_, ?_, ?_, ?_⟩
  · exact (let s : State := R [(Reg.CHK_LEN_BYTES 7, 1)]; let u : Fin 8 := 7;  ⟨s, u, by (decide +kernel +zetaReduce)⟩)
  · exact (let s : State := R [(Reg.CHK_STATUS_BUSY 7, 1), (Reg.CHK_STATUS_OWNER 7, 3)]; let u : Fin 8 := 7;
              let owner : Fin 5 := 3;  ⟨s, u, owner, by (decide +kernel +zetaReduce)⟩)
  · exact (let s : State := (R [(Reg.CHK_STATUS_BUSY 7, 1), (Reg.CHK_STATUS_OWNER 7, 3), (Reg.CHK_LEN_BYTES 7, 2)]).put64 (Reg.CHK_ADDR_LO 7) 0x400000;
              let u : Fin 8 := 7;  ⟨s, u, by (decide +kernel +zetaReduce)⟩)
  · exact (let s : State := r0;  ⟨s, by (decide +kernel +zetaReduce)⟩)
  · exact (let s : State := R [(Reg.CHK_PROF_CNT_VALID 7 3, 1), (Reg.CHK_PROF_CNT_LAST 7 3, 9)]; let u : Fin 8 := 7;
               ⟨s, u, by (decide +kernel +zetaReduce)⟩)

theorem witness_DebugCommandsComplete :
    (∃ (s : State) (p : _) (rest : _), (s.mesh.traceWriter = p :: rest) ∧ (s.get Reg.DBG_TRC_LEN_N ≠ 0) ∧
                ((s.get Reg.DBG_TRC_WR_IDX + 1) % s.get Reg.DBG_TRC_LEN_N ≠ s.get Reg.DBG_TRC_RD_IDX)) ∧
    (∃ (v : Word), (bits v.toNat 29 3 = 1 ∨ bits v.toNat 29 3 = 4)) ∧
    (∃ (s : State), (s.hang = none)) ∧
    (∃ (s : State), (s.hang.isSome = true)) ∧
    (∃ (s : State) (slot : Fin 8), (s.debugRole ≤ s.slotRole slot.val) ∧
                ((injectKinds (s.get Reg.DBG_INJ_TARGET_ID)).contains (s.get Reg.DBG_INJ_KIND_KIND) = true)) ∧
    (∃ (s : State) (slot : Fin 8), (s.debugRole ≤ s.slotRole slot.val)) := by
  refine ⟨?_, ?_, ?_, ?_, ?_, ?_⟩
  · exact (let s : State := ({ R [(Reg.DBG_TRC_LEN_N, 4), (Reg.DBG_TRC_WR_IDX, 3), (Reg.DBG_TRC_RD_IDX, 1)] with mesh := { Mesh.empty with traceWriter := [Pip.make 3 false 1 2 0 0 0 3 7] } }).put64 Reg.DBG_TRC_BASE_LO 0x1000000000;
              let p := Pip.make 3 false 1 2 0 0 0 3 7; let rest := ([] : List Pip);
               ⟨s, p, rest, by (decide +kernel +zetaReduce)⟩)
  · exact (let v : Word := 0x87FF03FF;  ⟨v, by (decide +kernel +zetaReduce)⟩)
  · exact (let s : State := r0;  ⟨s, by (decide +kernel +zetaReduce)⟩)
  · exact (let s : State := { r0 with hang := some ⟨[], 0⟩ };  ⟨s, by (decide +kernel +zetaReduce)⟩)
  · exact (let s : State := R [(Reg.SEC_SESS_VALID 7, 1), (Reg.SEC_SESS_ROLE 7, 3), (Reg.DBG_INJ_TARGET_ID, 0x10000), (Reg.DBG_INJ_KIND_KIND, 2), (Reg.DBG_INJ_COUNT_N, 3)];
              let slot : Fin 8 := 7;  ⟨s, slot, by (decide +kernel +zetaReduce)⟩)
  · exact (let s : State := R [(Reg.SEC_SESS_VALID 7, 1), (Reg.SEC_SESS_ROLE 7, 3)]; let slot : Fin 8 := 7;
               ⟨s, slot, by (decide +kernel +zetaReduce)⟩)

theorem witness_DeliveryCommandsComplete :
    (∃ (s : State) (n : Fin 1152) (e : _) (rest : _), (s.mesh.eject.at n.val = e :: rest) ∧
                (s.flag (Reg.DE_ARB_CTRL_MATCH_EN (podOf n.val)) = true) ∧
                ((s.validSlots (podOf n.val)).filter (fun x => x.2.holds (recAxon (e.pip.record e.taken))) = [])) ∧
    (∃ (s : State) (n : Fin 1152) (e : _) (rest : _) (k : _) (d : _) (h : _), (s.mesh.eject.at n.val = e :: rest) ∧
                (s.flag (Reg.DE_ARB_CTRL_MATCH_EN (podOf n.val)) = true) ∧
                ((s.validSlots (podOf n.val)).filter (fun x => x.2.holds (recAxon (e.pip.record e.taken))) = [(k, d)]) ∧
                (s.matchRow (podOf n.val) k d (recAxon (e.pip.record e.taken)) = .job h false) ∧
                ((s.delivery.step.at h).length < 64) ∧ (s.podDead (podOf h) = false) ∧
                (s.areaHeld (podOf n.val) k d e.pip.tag = false) ∧ (s.flag (Reg.DE_PL_CTRL_EN (podOf n.val) k) = false)) ∧
    (∃ (s : State) (n : Fin 1152) (j : _), (s.engineOk n.val = true) ∧ (s.nextJob n.val = some (n.val, false, j)) ∧
                (s.delivery.stepWait.at n.val = []) ∧ (s.faulted (podOf n.val) j.dslot = false) ∧
                (j.dgen = s.get (Reg.DE_PROJ_CTRL_DGEN (podOf n.val) j.dslot))) ∧
    (∃ (s : State) (n : Fin 1152) (c : _) (rest : _), (s.delivery.contribs.at n.val = c :: rest) ∧ (s.shut n.val = false) ∧
                (c.k < (s.ctx n.val c.ctx).count) ∧ ((s.ctx n.val c.ctx).windowed = false)) ∧
    (∃ (s : State) (p : Fin 72) (n : Fin 64), (s.delivery.clearing.contains (64 * p.val + n.val) = true)) ∧
    (∃ (s : State) (n : Fin 1152) (m : _), (s.delivery.applying.at n.val = m + 1) ∧ (s.winFinished (podOf n.val) m = true)) ∧
    (∃ (s : State) (p : Fin 72) (n : Fin 64) (v : Word), (getF v 0 2 = 0 ∨ (s.desc p.val n.val).block = true) ∧
                (s.running = false)) ∧
    (∃ (s : State) (r : Fin 1152) (e : _), (s.deliveryOpen = true) ∧ (s.dueOnChip r.val = some e) ∧
                (s.releaseRoom r.val e = true)) := by
  refine ⟨?_, ?_, ?_, ?_, ?_, ?_, ?_, ?_⟩
  · exact (let s : State := { R [(Reg.DE_ARB_CTRL_MATCH_EN 71, 1)] with mesh := { Mesh.empty with eject := [(1151, [⟨Pip.make 1 false 1151 0 0 0 0 4 0, 3⟩])] } };
              let n : Fin 1152 := 1151; let e := (⟨Pip.make 1 false 1151 0 0 0 0 4 0, 3⟩ : Ejected);
              let rest := ([] : List Ejected);  ⟨s, n, e, rest, by (decide +kernel +zetaReduce)⟩)
  · exact (let s : State := slotAt 71 63 1 (up 1151 0 { R [(Reg.DE_ARB_CTRL_MATCH_EN 71, 1)] with mesh := { Mesh.empty with eject := [(1151, [⟨Pip.make 1 false 1151 0 0 0 0 4 0, 3⟩])] } });
              let n : Fin 1152 := 1151; let e := (⟨Pip.make 1 false 1151 0 0 0 0 4 0, 3⟩ : Ejected);
              let rest := ([] : List Ejected); let k := (63 : Nat); let d := s.desc 71 63; let h := (1151 : Nat);
               ⟨s, n, e, rest, k, d, h, by (decide +kernel +zetaReduce)⟩)
  · exact (let s : State := up 1151 0 { r0 with delivery := { Delivery.empty with step := [(1151, [⟨0, 63, 0, 1, 0, 0, 0, 0, 0, 0, 0, none⟩])] } };
              let n : Fin 1152 := 1151; let j := (⟨0, 63, 0, 1, 0, 0, 0, 0, 0, 0, 0, none⟩ : Job);
               ⟨s, n, j, by (decide +kernel +zetaReduce)⟩)
  · exact (let s : State := R [(Reg.EVM_LINK_UP 1151, 15), (Reg.POP_RANGE_COUNT 1151 31, 1), (Reg.POP_ACC_BASE_BASE 1151 31, 0x10)] { r0 with delivery := { Delivery.empty with contribs := [(1151, [⟨31, 0, 0, 0xFFFFFFFF, 1151, false⟩])] } };
              let n : Fin 1152 := 1151; let c := (⟨31, 0, 0, 0xFFFFFFFF, 1151, false⟩ : Contrib);
              let rest := ([] : List Contrib);  ⟨s, n, c, rest, by (decide +kernel +zetaReduce)⟩)
  · exact (let s : State := slotAt 71 63 3 { r0 with delivery := { Delivery.empty with clearing := [64 * 71 + 63] } };
              let p : Fin 72 := 71; let n : Fin 64 := 63;  ⟨s, p, n, by (decide +kernel +zetaReduce)⟩)
  · exact (let s : State := { r0 with delivery := { Delivery.empty with applying := [(1151, 2)] } };
              let n : Fin 1152 := 1151; let m := (1 : Nat);  ⟨s, n, m, by (decide +kernel +zetaReduce)⟩)
  · exact (let s : State := r0; let p : Fin 72 := 71; let n : Fin 64 := 63; let v : Word := 0xFFFFFFFC;
               ⟨s, p, n, v, by (decide +kernel +zetaReduce)⟩)
  · exact (let s : State := { r0 with deliveryOpen := true, mesh := { Mesh.empty with delay := [(1151, [BitVec.ofNat 128 (1 + 5 * 2^32)])] } };
              let r : Fin 1152 := 1151; let e := BitVec.ofNat 128 (1 + 5 * 2^32);
               ⟨s, r, e, by (decide +kernel +zetaReduce)⟩)

theorem witness_DictionaryCommandsComplete :
    (∃ (s : State) (slot : Fin 8) (index : Fin 65536) (sub : Fin 256) (r : ObjRow), (ObjMap.rowOf index.val sub.val = some r) ∧
                (s.objRole r ≤ s.slotRole slot.val) ∧ (r.acc ≠ .wo) ∧ (s.windowOk slot.val index.val sub.val = true) ∧
                (¬(index.val = 0x2010 ∧ sub.val = 3))) ∧
    (∃ (s : State) (slot : Fin 8) (index : Fin 65536) (sub : Fin 256) (data : List Byte) (r : ObjRow) (k : Nat), (ObjMap.rowOf index.val sub.val = some r) ∧
                (selectorObjs.idxOf? (index.val, sub.val) = some k) ∧ (r.role ≤ s.slotRole slot.val) ∧
                (data.length = r.size) ∧ (r.least ≤ ofLe data) ∧ (ofLe data ≤ r.most) ∧
                ((s.useFree.useFree.touchSlot slot.val).itemExists k (ofLe data) = true)) ∧
    (∃ (s : State) (slot : Fin 8) (a : Byte) (b : Byte), (2 ≤ s.slotRole slot.val) ∧ (10 ≤ ofLe [a, b]) ∧
                (ofLe [a, b] ≤ 3600)) ∧
    (∃ (s : State) (slot : Fin 8), (2 ≤ s.slotRole slot.val) ∧ (s.windowOk slot.val 0x2524 5 = true) ∧ (s.wiping = false)) ∧
    (∃ (s : State) (slot : Fin 8) (n : Fin 8) (v : Fin 256), (1 ≤ s.slotRole slot.val) ∧ (v.val = 1 ∨ v.val = 2) ∧
                (s.obj (gateOf n.val) 5 ≠ 1) ∧ (bits (s.get Reg.TLK_HIER_STAT_ATTACHED) n.val 1 = 1)) ∧
    (∃ (s : State) (n : Fin 8) (q : GateRequest), ((s.gates.waiting.find? fun q => q.worker = n.val) = some q)) ∧
    (∃ (s : State) (port : Fin 8) (x : _), (s.role ≠ 2) ∧ (s.tlkFirst port.val 3 = some x) ∧
                (flitByte (x.2.2.headD []) 4 = 0) ∧
                ((s.gates.waiting.any fun q => q.worker = port.val && q.id = flitLe (x.2.2.headD []) 0 4) = true)) := by
  refine ⟨?_, ?_, ?_, ?_, ?_, ?_, ?_⟩
  · exact (let s : State := R [(Reg.SEC_SESS_VALID 7, 1), (Reg.SEC_SESS_ROLE 7, 3)]; let slot : Fin 8 := 7;
              let index : Fin 65536 := 0x1001; let sub : Fin 256 := 0; let r : ObjRow := (ObjMap.rowOf 0x1001 0).getD noRow;
               ⟨s, slot, index, sub, r, by (decide +kernel +zetaReduce)⟩)
  · exact (let s : State := R [(Reg.SEC_SESS_VALID 7, 1), (Reg.SEC_SESS_ROLE 7, 3)]; let slot : Fin 8 := 7;
              let index : Fin 65536 := 0x2400; let sub : Fin 256 := 1; let data : List Byte := [63];
              let r : ObjRow := (ObjMap.rowOf 0x2400 1).getD noRow; let k : Nat := 2;
               ⟨s, slot, index, sub, data, r, k, by (decide +kernel +zetaReduce)⟩)
  · exact (let s : State := R [(Reg.SEC_SESS_VALID 7, 1), (Reg.SEC_SESS_ROLE 7, 2)]; let slot : Fin 8 := 7;
              let a : Byte := 0x10; let b : Byte := 0x0E;  ⟨s, slot, a, b, by (decide +kernel +zetaReduce)⟩)
  · exact (let s : State := slotAt 71 63 1 { R [(Reg.SEC_SESS_VALID 7, 1), (Reg.SEC_SESS_ROLE 7, 2), (Reg.DE_PL_DRIFT_USED_DRIFT 71 63, 5)] with images := [⟨0, 3, { ImageInfo.blank with projections := 1 }, 0, 0, none, Progress.idle, none, []⟩] };
              let slot : Fin 8 := 7;  ⟨s, slot, by (decide +kernel +zetaReduce)⟩)
  · exact (let s : State := R [(Reg.SEC_SESS_VALID 7, 1), (Reg.SEC_SESS_ROLE 7, 2), (Reg.TLK_HIER_STAT_ATTACHED, 0x80)];
              let slot : Fin 8 := 7; let n : Fin 8 := 7; let v : Fin 256 := 2;
               ⟨s, slot, n, v, by (decide +kernel +zetaReduce)⟩)
  · exact (let s : State := { r0 with gates := { Gates.idle with waiting := [⟨7, 5, 0⟩] } }; let n : Fin 8 := 7;
              let q : GateRequest := ⟨7, 5, 0⟩;  ⟨s, n, q, by (decide +kernel +zetaReduce)⟩)
  · exact (let s : State := { r0 with gates := { Gates.idle with waiting := [⟨7, 5, 0⟩] }, tlkIn := [(7, 3, [[5, 0, 0, 0, 0, 0, 0, 0, 1, 2, 3, 4, 0, 0, 0, 0, 0, 0, 0, 0, 0, 0, 0, 0, 0, 0, 0, 0, 0, 0, 0, 0]])] };
              let port : Fin 8 := 7;
              let x := (7, 3, [[5, 0, 0, 0, 0, 0, 0, 0, 1, 2, 3, 4, 0, 0, 0, 0, 0, 0, 0, 0, 0, 0, 0, 0, 0, 0, 0, 0, 0, 0, 0, 0]]);
               ⟨s, port, x, by (decide +kernel +zetaReduce)⟩)

theorem witness_TreeAndFaultCommandsComplete :
    (∃ (s : State) (n : Fin 1153) (c : Fin 64), (s.barMember n.val c.val = true) ∧ (s.barPending n.val c.val = false)) ∧
    (∃ (s : State) (c : Fin 64), (s.barComplete c.val = true)) ∧
    (∃ (s : State), ((∀ n, n < 1153 → ∀ c, c < 64 → s.barPending n c = false))) ∧
    (∃ (s : State) (n : Fin 1153) (x : Fin 1048576), (x.val ≠ 0xFFFFF) ∧ (s.fault.hist.at n.val = []) ∧
                ((s.fault.pend.at n.val).length < 4)) ∧
    (∃ (s : State) (x : _), ((s.fault.pend.flatMap fun e => e.2).min? = some x) ∧ (s.fault.queue = [])) ∧
    (∃ (s : State) (x : _) (n : _) (tm : _) (rest : _), (s.fault.queue = (x, n, tm) :: rest)) ∧
    (∃ (s : State) (r : Fin 1152) (p : Fin 4), (s.fault.retraining.contains (4 * r.val + p.val) = true)) ∧
    (∃ (s : State) (w : Fin 36) (v : Word), ((∀ i, i < 32 → (s.reg (Reg.FLT_FENCE w.val)).getLsbD i ≠ v.getLsbD i → if v.getLsbD i then s.isLogical (32 * w.val + i) = true else s.running = false ∧
                s.fault.retired.contains (32 * w.val + i) = false))) := by
  refine ⟨?_, ?_, ?_, ?_, ?_, ?_, ?_, ?_⟩
  · exact (let s : State := R [(ctxBit 1152 0x10 63, 1)]; let n : Fin 1153 := 1152; let c : Fin 64 := 63;
               ⟨s, n, c, by (decide +kernel +zetaReduce)⟩)
  · exact (let s : State := R [(ctxBit 1152 0x10 63, 1), (ctxBit 1152 0x28 63, 1)]; let c : Fin 64 := 63;
               ⟨s, c, by (decide +kernel +zetaReduce)⟩)
  · exact (let s : State := r0;  ⟨s, by (exact pend0)⟩)
  · exact (let s : State := r0; let n : Fin 1153 := 1152; let x : Fin 1048576 := 0xFFFFE;
               ⟨s, n, x, by (decide +kernel +zetaReduce)⟩)
  · exact (let s : State := { r0 with fault := { Faults.none with pend := [(3, [7, 2]), (1151, [2])] } }; let x := 2;
               ⟨s, x, by (decide +kernel +zetaReduce)⟩)
  · exact (let s : State := { r0 with fault := { Faults.none with queue := [(0xFFFFE, 65535, 5)] } }; let x := 0xFFFFE;
              let n := 65535; let tm := 5; let rest := ([] : List (Nat × Nat × Nat));
               ⟨s, x, n, tm, rest, by (decide +kernel +zetaReduce)⟩)
  · exact (let s : State := { r0 with fault := { Faults.none with retraining := [4607] } }; let r : Fin 1152 := 1151;
              let p : Fin 4 := 3;  ⟨s, r, p, by (decide +kernel +zetaReduce)⟩)
  · exact (let s : State := up 1151 0 r0; let w : Fin 36 := 35; let v : Word := 0x80000000;
               ⟨s, w, v, by (decide +kernel +zetaReduce)⟩)

theorem witness_FieldAndLogCommandsComplete :
    (∃ (s : State) (c : Fin 2) (f : CanFrame), (s.flag (Reg.CAN_CTRL_EN c.val) = true) ∧ (s.canUsed c.val = true) ∧
                (s.canMode = 0) ∧ (f.ide = true) ∧ ((s.canCtl c.val).rx.length < 64)) ∧
    (∃ (s : State) (c : Fin 2) (f : CanFrame) (node : Byte), (s.flag (Reg.CAN_CTRL_EN c.val) = true) ∧
                (s.canUsed c.val = true) ∧ (s.canMode = 0) ∧ (f.ide = false) ∧ (f.id = 0) ∧ (f.data = [1#8, node]) ∧
                (node = 0#8 ∨ node.toNat = s.nodeId)) ∧
    (∃ (s : State) (c : Fin 2) (n : Fin 16), (s.canMode = 0) ∧ (s.flag (Reg.CAN_TPDO_CFG_EN c.val n.val) = true) ∧
                (s.nmt = 5) ∧ ((s.canCtl c.val).tpdo = []) ∧ ((s.canCtl c.val).loaded.isSome = true)) ∧
    (∃ (s : State) (a : _) (rest : _), (s.field.audits = a :: rest)) ∧
    (∃ (s : State), (s.obj 0x1017 0 ≠ 0) ∧ (s.canMode = 0) ∧ ((s.canCtl 0).raw.length < 32) ∧
                ((s.canCtl 0).loaded.isSome = true)) ∧
    (∃ (s : State) (e : Fin 4), (s.field.heard.at (bits (s.obj 0x1016 (e.val + 1)) 16 8) ≠ 0) ∧
                (bits (s.obj 0x1016 (e.val + 1)) 0 16 ≠ 0) ∧ (bits (s.obj 0x1016 (e.val + 1)) 16 8 ≠ 0)) ∧
    (∃ (s : State) (b : Fin 8), (s.emcy.bits.at b.val ≠ 0)) ∧
    (∃ (s : State) (e : _), (s.firstEvent = some e)) ∧
    (∃ (s : State), (7 ≤ bits (s.reg Reg.FLT_LOG_APP0).toNat 12 4) ∧ (bits (s.reg Reg.FLT_LOG_APP0).toNat 12 4 ≤ 9) ∧
                ((s.events.filter fun e => e.rank = Block.app.rank ∧ e.inst = 0).length < 4)) := by
  refine ⟨?_, ?_, ?_, ?_, ?_, ?_, ?_, ?_, ?_⟩
  · exact (let s : State := R [(Reg.CAN_CTRL_EN 0, 1)]; let c : Fin 2 := 0;
              let f : CanFrame := ⟨0x1FFFFFFF, true, true, true, [1, 2]⟩;  ⟨s, c, f, by (decide +kernel +zetaReduce)⟩)
  · exact (let s : State := R [(Reg.CAN_CTRL_EN 0, 1)]; let c : Fin 2 := 0;
              let f : CanFrame := ⟨0, false, false, false, [1#8, 1#8]⟩; let node : Byte := 1;
               ⟨s, c, f, node, by (decide +kernel +zetaReduce)⟩)
  · exact (let s : State := { R [(Reg.CAN_TPDO_CFG_EN 1 15, 1)] with nmt := 5, can := [(1, { CanCtl.idle with loaded := some ⟨5, false, true, true, []⟩ })] };
              let c : Fin 2 := 1; let n : Fin 16 := 15;  ⟨s, c, n, by (decide +kernel +zetaReduce)⟩)
  · exact (let s : State := { r0 with field := { Field.empty with audits := [⟨0, 1, 2, 3, 0⟩] } };
              let a := (⟨0, 1, 2, 3, 0⟩ : RpdoAudit); let rest := ([] : List RpdoAudit);
               ⟨s, a, rest, by (decide +kernel +zetaReduce)⟩)
  · exact (let s : State := ({ r0 with can := [(0, { CanCtl.idle with loaded := some ⟨5, false, true, true, []⟩ })] }).setObj 0x1017 0 10;
               ⟨s, by (decide +kernel +zetaReduce)⟩)
  · exact (let s : State := ({ r0 with field := { Field.empty with heard := [(5, 1)] } }).setObj 0x1016 4 (5 * 65536 + 100);
              let e : Fin 4 := 3;  ⟨s, e, by (decide +kernel +zetaReduce)⟩)
  · exact (let s : State := { r0 with emcy := { Emcy.none with bits := [(7, 3)] } }.setObj 0x1001 0 0x81;
              let b : Fin 8 := 7;  ⟨s, b, by (decide +kernel +zetaReduce)⟩)
  · exact (let s : State := r0.log .egr 0 0x5501 srcManager 1 2;
              let e := (⟨Block.egr.rank, 0, 0x5501, srcManager, 1, 2, 0, 0⟩ : Event);
               ⟨s, e, by (decide +kernel +zetaReduce)⟩)
  · exact (let s : State := r0.setReg Reg.FLT_LOG_APP0 0x00019FFF;  ⟨s, by (decide +kernel +zetaReduce)⟩)

theorem witness_FirmwareCommandsComplete :
    (∃ (s : State) (slot : Fin 8), (2 ≤ s.slotRole slot.val) ∧ (s.trial = false) ∧ (s.fw.update ≠ 1) ∧ (s.fw.update ≠ 2) ∧
                (s.fw.handover = none)) ∧
    (∃ (s : State) (slot : Fin 8) (off : Option Nat) (data : List Byte), (2 ≤ s.slotRole slot.val) ∧ (s.fw.update = 1) ∧
                (off = none ∨ off = some s.fw.received) ∧ (s.fw.received + data.length ≤ 0x400000)) ∧
    (∃ (s : State) (slot : Fin 8), (2 ≤ s.slotRole slot.val) ∧ (s.fw.update = 1) ∧ (s.deltaOk = true)) ∧
    (∃ (s : State) (ops : List Byte) (out : List Byte) (u : State), (s.fw.update = 2) ∧
                (ops = s.rdBytes (stagingBase + 64) (s.deltaField 0x34)) ∧
                (applyOps s.sourceBytes (s.deltaField 0x0C) (s.deltaField 0x30) (ops.length + 1) ops [] = (out, true)) ∧
                (u = s.rawBytes (slotBase s.otherSlot) out)) ∧
    (∃ (s : State) (slot : Fin 8), (2 ≤ s.slotRole slot.val) ∧ (s.fw.update = 3) ∧ (s.fw.handover = none)) ∧
    (∃ (s : State) (h : Fin 4), (s.fromPair (some h) = true) ∧ (s.regionChecked = true)) ∧
    (∃ (s : State) (h : Fin 4), (s.fromPair (some h) = true) ∧ (s.trial = true) ∧
                (s.flag Reg.SEC_FB_TIMER_ARMED = false ∨ 0 < s.fallbackTicks)) ∧
    (∃ (s : State) (h : Fin 4), (s.fromPair (some h) = true) ∧ (s.trial = false)) ∧
    (∃ (s : State), (s.flag Reg.SEC_SIG_STAT_BUSY = false)) ∧
    (∃ (s : State), (s.get Reg.SEC_SIG_STAT_BUSY = 1) ∧ (s.chkWait = false)) ∧
    (∃ (s : State) (time : Nat), (s.fw.handover = some (some time))) ∧
    (∃ (s : State) (off : BitVec 27) (n : Fin 134217728), (s.flashBarred off.toNat n.val = false) ∧
                (off.toNat + n.val ≤ 0x8000000)) ∧
    (∃ (s : State) (off : BitVec 27) (data : List Byte), (s.flashBarred off.toNat data.length = false) ∧
                (off.toNat + data.length ≤ 0x8000000)) ∧
    (∃ (s : State) (h : Fin 4), (s.fromPair (some h) = true) ∧ (s.flag Reg.FLT_WDOG_STAT_HALF = false)) ∧
    (∃ (s : State) (h : Fin 4), (s.fromPair (some h) = true) ∧ (s.get Reg.FLT_WDOG_STAT_HALF = 1) ∧
                (s.now ≤ s.fw.kickAt + 200000) ∧ (s.flag Reg.FLT_WDOG_STAT_EXPIRED = false) ∧ (s.watchdogDue = false)) := by
  refine ⟨?_, ?_, ?_, ?_, ?_, ?_, ?_, ?_, ?_, ?_, ?_, ?_, ?_, ?_, ?_⟩
  · exact (let s : State := R [(Reg.SEC_SESS_VALID 7, 1), (Reg.SEC_SESS_ROLE 7, 2)]; let slot : Fin 8 := 7;
               ⟨s, slot, by (decide +kernel +zetaReduce)⟩)
  · exact (let s : State := { R [(Reg.SEC_SESS_VALID 7, 1), (Reg.SEC_SESS_ROLE 7, 2)] with fw := { Firmware.start with update := 1, received := 0x3FFFFF } };
              let slot : Fin 8 := 7; let off : Option Nat := some 0x3FFFFF; let data : List Byte := [5];
               ⟨s, slot, off, data, by (decide +kernel +zetaReduce)⟩)
  · exact (let s : State := deltaState (R [(Reg.SEC_SESS_VALID 7, 1), (Reg.SEC_SESS_ROLE 7, 2)] { r0 with fw := { Firmware.start with update := 1, received := 68 } });
              let slot : Fin 8 := 7;  ⟨s, slot, by (decide +kernel +zetaReduce)⟩)
  · exact (let s : State := ({ r0 with fw := { Firmware.start with update := 2 } }.rawBytes (stagingBase + 0x34) [1]).rawBytes (stagingBase + 64) [0xC0];
              let ops : List Byte := [0xC0]; let out : List Byte := [];
              let u : State := s.rawBytes (slotBase s.otherSlot) [];  ⟨s, ops, out, u, by (decide +kernel +zetaReduce)⟩)
  · exact (let s : State := { R [(Reg.SEC_SESS_VALID 7, 1), (Reg.SEC_SESS_ROLE 7, 2)] with fw := { Firmware.start with update := 3 } };
              let slot : Fin 8 := 7;  ⟨s, slot, by (decide +kernel +zetaReduce)⟩)
  · exact (let s : State := R [(Reg.SEC_SIG_STAT_VALID, 1), (Reg.SEC_SIG_CTRL_REGION, 1)]; let h : Fin 4 := 1;
               ⟨s, h, by (decide +kernel +zetaReduce)⟩)
  · exact (let s : State := R [(Reg.SEC_FW_STAT_TRIAL, 1)]; let h : Fin 4 := 1;  ⟨s, h, by (decide +kernel +zetaReduce)⟩)
  · exact (let s : State := r0; let h : Fin 4 := 1;  ⟨s, h, by (decide +kernel +zetaReduce)⟩)
  · exact (let s : State := r0;  ⟨s, by (decide +kernel +zetaReduce)⟩)
  · exact (let s : State := R [(Reg.SEC_SIG_STAT_BUSY, 1)];  ⟨s, by (decide +kernel +zetaReduce)⟩)
  · exact (let s : State := { r0 with fw := { Firmware.start with handover := some (some 5), update := 3 } };
              let time : Nat := 5;  ⟨s, time, by (decide +kernel +zetaReduce)⟩)
  · exact (let s : State := r0; let off : BitVec 27 := 0x7FFFFFE; let n : Fin 134217728 := 2;
               ⟨s, off, n, by (decide +kernel +zetaReduce)⟩)
  · exact (let s : State := r0; let off : BitVec 27 := 0x7FFFFFE; let data : List Byte := [0xFF, 5];
               ⟨s, off, data, by (decide +kernel +zetaReduce)⟩)
  · exact (let s : State := r0; let h : Fin 4 := 1;  ⟨s, h, by (decide +kernel +zetaReduce)⟩)
  · exact (let s : State := { R [(Reg.FLT_WDOG_STAT_HALF, 1)] with fw := { Firmware.start with kickAt := 5 } }.put64 Reg.TB_COUNT_LO 200005;
              let h : Fin 4 := 1;  ⟨s, h, by (decide +kernel +zetaReduce)⟩)

theorem witness_GuardCommandsComplete :
    (∃ (s : State) (i : Fin 32) (high : Bool) (k : Nat), ((if high then 1 else 0) ≠ s.get (Reg.SEN_GPI_STAT_LEVEL i.val)) ∧
                (s.get (Reg.SEN_GPI_CFG_FLT i.val) ≤ k)) ∧
    (∃ (s : State) (i : Fin 32), (s.hub.activeFrom.at i.val ≠ 0) ∧ (s.get (Reg.SEN_GPI_STUCK_MS i.val) ≠ 0)) ∧
    (∃ (s : State) (n : Fin 64), (s.flag (Reg.EGR_CH_CTRL_EN n.val) = true) ∧ (s.qMode 1152 (896 + n.val) = 1) ∧
                (0 < s.qAvail 1152 (896 + n.val)) ∧ ((s.qRing 1152 (896 + n.val)).isSome = true)) ∧
    (∃ (s : State) (n : Fin 64) (v : Word), (s.causes n.val = 0) ∧ (s.flag (Reg.EGR_CH_STATUS_SAFE n.val) = false) ∧
                (s.gapOver n.val = true) ∧
                ((s.reg (Reg.EGR_CH_DB n.val)).toNat ≤ (sat v.toInt (s.egrInt (Reg.EGR_CH_LO n.val)) (s.egrInt (Reg.EGR_CH_HI n.val)) - s.egrInt (Reg.EGR_CH_LAST n.val)).natAbs)) ∧
    (∃ (s : State) (n : Fin 64) (h : _), ((s.guard.held.find? fun x => x.1 = n.val) = some h) ∧ (s.causes n.val = 0)) ∧
    (∃ (s : State) (n : Fin 64), (s.get (Reg.EGR_CH_SILENCE_MS n.val) ≠ 0) ∧ (s.guard.silent.contains n.val = false)) := by
  refine ⟨?_, ?_, ?_, ?_, ?_, ?_⟩
  · exact (let s : State := R [(Reg.SEN_GPI_CFG_FLT 31, 9)]; let i : Fin 32 := 31; let high : Bool := true;
              let k : Nat := 9;  ⟨s, i, high, k, by (decide +kernel +zetaReduce)⟩)
  · exact (let s : State := R [(Reg.SEN_GPI_STUCK_MS 31, 9)] { r0 with hub := { Hub.empty with activeFrom := [(31, 5)] } };
              let i : Fin 32 := 31;  ⟨s, i, by (decide +kernel +zetaReduce)⟩)
  · exact (let s : State := R [(Reg.EGR_CH_CTRL_EN 63, 1), (qf 1152 959 0 2, 1), (qf 1152 959 2 4, 4), (qf 1152 959 6 2, 2), (qf 1152 959 96 12, 1), (qf 1152 959 108 12, 4095)];
              let n : Fin 64 := 63;  ⟨s, n, by (decide +kernel +zetaReduce)⟩)
  · exact (let s : State := onP (R [(Reg.EGR_CH_CTRL_EN 63, 1), (Reg.EGR_CH_STATUS_SAFE 63, 0), (Reg.SEC_LC_STATE, 2), (Reg.EGR_CTRL_SAFE_ALL, 0), (Reg.EGR_CH_GAP_US 63, 3)]);
              let n : Fin 64 := 63; let v : Word := 0x80000000;  ⟨s, n, v, by (decide +kernel +zetaReduce)⟩)
  · exact (let s : State := { onP (R [(Reg.EGR_CH_CTRL_EN 63, 1), (Reg.EGR_CH_STATUS_SAFE 63, 0), (Reg.SEC_LC_STATE, 2), (Reg.EGR_CTRL_SAFE_ALL, 0)]) with guard := { Guard.empty with held := [(63, 5)] } };
              let n : Fin 64 := 63; let h := (63, 5);  ⟨s, n, h, by (decide +kernel +zetaReduce)⟩)
  · exact (let s : State := R [(Reg.EGR_CH_SILENCE_MS 63, 4)]; let n : Fin 64 := 63;
               ⟨s, n, by (decide +kernel +zetaReduce)⟩)

theorem witness_HierarchyCommandsComplete :
    (∃ (s : State) (port : Fin 8) (fs : _) (u : _), (s.armable = true) ∧ (s.syncFirst port.val 1 = some (fs, u)) ∧
                (s.now ≤ flitLe (fs.getD 0 []) 16 8)) ∧
    (∃ (s : State) (port : Fin 8) (fs : _) (u : _), (s.armable = true) ∧ (s.syncFirst port.val 1 = some (fs, u)) ∧
                (flitLe (fs.getD 0 []) 16 8 < s.now)) ∧
    (∃ (s : State) (port : Fin 8) (fs : _) (u : _) (v : State), (s.syncFirst port.val 2 = some (fs, u)) ∧
                (s.joined = true) ∧ (s.phase = 2) ∧ (flitLe (fs.getD 0 []) 8 8 = s.launched) ∧
                (v = (List.range 72).foldl (fun x p => x.drainDead p) u)) ∧
    (∃ (s : State) (port : Fin 8) (fs : _) (u : _) (n : Nat) (e : Nat) (r : Nat) (idle : Bool) (l : List Nat), (s.syncFirst port.val 3 = some (fs, u)) ∧
                (s.phase = 2) ∧ (s.clock.wave = some (n, e, r, idle, l)) ∧ (flitByte (fs.getD 0 []) 1 = n) ∧
                (flitLe (fs.getD 0 []) 16 8 = s.launched) ∧ (port.val ∈ l) ∧ ((l.filter (· != port.val)).isEmpty = false)) ∧
    (∃ (s : State) (port : Fin 8) (fs : _) (u : _), (s.syncFirst port.val 4 = some (fs, u)) ∧ (s.joined = true) ∧
                (s.phase = 2) ∧ (flitLe (fs.getD 0 []) 8 8 = s.launched)) ∧
    (∃ (s : State) (port : Fin 8) (fs : _) (u : _), (s.syncFirst port.val 5 = some (fs, u)) ∧ (port.val ∈ s.workers) ∧
                (port.val ∉ s.clock.done) ∧ (flitLe (fs.getD 0 []) 8 8 = s.launched) ∧ (s.phase = 3)) ∧
    (∃ (s : State) (port : Fin 8) (fs : _) (u : _), (s.syncFirst port.val 6 = some (fs, u)) ∧
                (flitByte (fs.getD 0 []) 1 = 0xFF) ∧ (s.phase ≠ 5)) ∧
    (∃ (s : State) (port : Fin 8) (fs : _) (u : _), (s.syncFirst port.val 6 = some (fs, u)) ∧
                (flitByte (fs.getD 0 []) 1 ≠ 0xFF) ∧ (u.switchReason (flitByte (fs.getD 0 []) 1) = 0) ∧ (s.phase ≠ 1) ∧
                (s.phase ≠ 4)) ∧
    (∃ (s : State) (port : Fin 8) (fs : _) (u : _) (w : Switch) (l : List Nat) (time : Nat), (s.syncFirst port.val 7 = some (fs, u)) ∧
                (s.clock.votes = some (w, l, time)) ∧ (port.val ∈ l)) ∧
    (∃ (s : State) (port : Fin 8) (fs : _) (u : _), (s.syncFirst port.val 8 = some (fs, u)) ∧ (s.role = 1) ∧
                (port.val ∉ s.clock.rejoining)) ∧
    (∃ (s : State) (cause : Fin 3) (time : Nat), (s.isolateAt cause.val = some time) ∧ (s.phase ≠ 2) ∧
                (s.phase ≠ 4 ∨ s.clock.ready = true)) ∧
    (∃ (s : State) (n : Fin 8), (n.val ∈ s.workers) ∧ (s.clock.votes = none) ∧ (s.phase ≠ 2)) ∧
    (∃ (s : State) (port : Fin 8), (s.role = 1) ∧ (s.tlkState port.val = 4)) ∧
    (∃ (s : State) (port : Fin 8) (f : List Byte), (s.role = 2) ∧ (s.tlkState port.val = 4) ∧ (flitCrc f = flitLe f 30 2) ∧
                (flitByte f 0 = 6) ∧ (flitByte f 1 = 1)) ∧
    (∃ (s : State) (port : Fin 8) (fs : _) (u : _), (s.syncFirst port.val 6 = some (fs, u)) ∧
                (flitByte (fs.getD 0 []) 1 = 0xFF) ∧ (s.phase = 5)) := by
  refine ⟨?_, ?_, ?_, ?_, ?_, ?_, ?_, ?_, ?_, ?_, ?_, ?_, ?_, ?_, ?_⟩
  · exact (let s : State := sy 7 [1, 0, 0, 0, 0, 0, 0, 0, 5, 0, 0, 0, 0, 0, 0, 0, 0, 9] (worker 0); let port : Fin 8 := 7;
              let y := (s.syncFirst 7 1).getD ([], s); let fs := y.1; let u := y.2;
               ⟨s, port, fs, u, by (decide +kernel +zetaReduce)⟩)
  · exact (let s : State := (sy 7 [1, 0, 0, 0, 0, 0, 0, 0, 5, 0, 0, 0, 0, 0, 0, 0, 0, 9] (worker 4)).put64 Reg.TB_COUNT_LO 0x10000;
              let port : Fin 8 := 7; let y := (s.syncFirst 7 1).getD ([], s); let fs := y.1; let u := y.2;
               ⟨s, port, fs, u, by (decide +kernel +zetaReduce)⟩)
  · exact (let s : State := sy 7 [2, 255] (worker 2); let port : Fin 8 := 7; let y := (s.syncFirst 7 2).getD ([], s);
              let fs := y.1; let u := y.2; let v : State := (List.range 72).foldl (fun x p => x.drainDead p) u;
               ⟨s, port, fs, u, v, by (decide +kernel +zetaReduce)⟩)
  · exact (let s : State := clk (fun c => { c with wave := some (9, 3, 4, true, [6, 7]) }) (sy 7 [3, 9, 1] (mgr 2 0xC0));
              let port : Fin 8 := 7; let y := (s.syncFirst 7 3).getD ([], s); let fs := y.1; let u := y.2; let n : Nat := 9;
              let e : Nat := 3; let r : Nat := 4; let idle : Bool := true; let l : List Nat := [6, 7];
               ⟨s, port, fs, u, n, e, r, idle, l, by (decide +kernel +zetaReduce)⟩)
  · exact (let s : State := sy 7 [4, 1] (worker 2); let port : Fin 8 := 7; let y := (s.syncFirst 7 4).getD ([], s);
              let fs := y.1; let u := y.2;  ⟨s, port, fs, u, by (decide +kernel +zetaReduce)⟩)
  · exact (let s : State := sy 7 [5, 0, 0, 0, 0, 0, 0, 0, 0, 0, 0, 0, 0, 0, 0, 0, 9] (mgr 3 0x80); let port : Fin 8 := 7;
              let y := (s.syncFirst 7 5).getD ([], s); let fs := y.1; let u := y.2;
               ⟨s, port, fs, u, by (decide +kernel +zetaReduce)⟩)
  · exact (let s : State := clk (fun c => { c with switch := some ⟨3, true, 9⟩ }) (sy 7 [6, 0xFF] (worker 2));
              let port : Fin 8 := 7; let y := (s.syncFirst 7 6).getD ([], s); let fs := y.1; let u := y.2;
               ⟨s, port, fs, u, by (decide +kernel +zetaReduce)⟩)
  · exact (let s : State := { sy 7 [6, 63, 1, 0, 0, 0, 0, 0, 9] (R [(Reg.SEC_LC_STATE, 2)] (worker 2)) with images := [⟨63, 2, { ImageInfo.blank with hier := 1 }, 0x1000000000, 4, none, Progress.idle, none, []⟩] };
              let port : Fin 8 := 7; let y := (s.syncFirst 7 6).getD ([], s); let fs := y.1; let u := y.2;
               ⟨s, port, fs, u, by (decide +kernel +zetaReduce)⟩)
  · exact (let s : State := clk (fun c => { c with votes := some (⟨3, true, 9⟩, [6, 7], 5) }) (sy 7 [7, 0, 0] (mgr 2 0xC0));
              let port : Fin 8 := 7; let y := (s.syncFirst 7 7).getD ([], s); let fs := y.1; let u := y.2;
              let w : Switch := ⟨3, true, 9⟩; let l : List Nat := [6, 7]; let time : Nat := 5;
               ⟨s, port, fs, u, w, l, time, by (decide +kernel +zetaReduce)⟩)
  · exact (let s : State := sy 7 [8] (mgr 2 0xC0); let port : Fin 8 := 7; let y := (s.syncFirst 7 8).getD ([], s);
              let fs := y.1; let u := y.2;  ⟨s, port, fs, u, by (decide +kernel +zetaReduce)⟩)
  · exact (let s : State := worker 3; let cause : Fin 3 := 0; let time : Nat := (s.isolateAt 0).getD 0;
               ⟨s, cause, time, by (decide +kernel +zetaReduce)⟩)
  · exact (let s : State := mgr 3 0x80; let n : Fin 8 := 7;  ⟨s, n, by (decide +kernel +zetaReduce)⟩)
  · exact (let s : State := R [(Reg.TLK_STATUS_STATE 7, 4)] (mgr 0 0x80); let port : Fin 8 := 7;
               ⟨s, port, by (decide +kernel +zetaReduce)⟩)
  · exact (let s : State := R [(Reg.TLK_STATUS_STATE 7, 4)] (worker 0); let port : Fin 8 := 7;
              let f : List Byte := controlFlit [6, 1, 0, 0, 0, 0, 0, 0, 255];
               ⟨s, port, f, by (decide +kernel +zetaReduce)⟩)
  · exact (let s : State := clk (fun c => { c with switch := some ⟨3, true, 9⟩, lifted := true }) (sy 7 [6, 0xFF] (R [(Reg.STEP_STATUS_PHASE, 5), (Reg.STEP_CTRL_RUN, 1)] (worker 2)));
              let port : Fin 8 := 7; let y := (s.syncFirst 7 6).getD ([], s); let fs := y.1; let u := y.2;
               ⟨s, port, fs, u, by (decide +kernel +zetaReduce)⟩)

theorem witness_HostCommandsComplete :
    (∃ (s : State), (s.flag Reg.HOST_MBX_STAT_BUSY = false)) ∧
    (∃ (s : State) (c : Fin 8), (s.dmaActive c.val = true)) ∧
    (∃ (s : State) (c : Fin 8) (ctrl : Word) (len : Word) (host : BitVec 64) (dev : BitVec 64) (data : List Byte), (s.dmaActive c.val = true) ∧
                (bits ctrl.toNat 0 1 = 0) ∧ (4 ≤ len.toNat) ∧ (len.toNat ≤ 16777216) ∧ (len.toNat % 4 = 0) ∧
                (host.toNat % 4 = 0) ∧ (dev.toNat % 4 = 0) ∧ (s.dmaReach dev.toNat len.toNat = true) ∧
                (data.length = len.toNat)) ∧
    (∃ (v : Fin 512), (v.val ≤ 448)) := by
  refine ⟨?_, ?_, ?_, ?_⟩
  · exact (let s : State := r0;  ⟨s, by (decide +kernel +zetaReduce)⟩)
  · exact (let s : State := R [(Reg.HOST_DMA_CTRL_EN 7, 1), (Reg.HOST_DMA_STATUS_HALTED 7, 0), (Reg.HOST_DMA_TAIL_IDX 7, 1), (Reg.HOST_DMA_RING_LEN_N 7, 4)];
              let c : Fin 8 := 7;  ⟨s, c, by (decide +kernel +zetaReduce)⟩)
  · exact (let s : State := R [(Reg.HOST_DMA_CTRL_EN 7, 1), (Reg.HOST_DMA_STATUS_HALTED 7, 0), (Reg.HOST_DMA_TAIL_IDX 7, 1), (Reg.HOST_DMA_RING_LEN_N 7, 4)];
              let c : Fin 8 := 7; let ctrl : Word := 0; let len : Word := 4; let host : BitVec 64 := 8;
              let dev : BitVec 64 := 0x7BFFFC; let data : List Byte := [1, 2, 3, 4];
               ⟨s, c, ctrl, len, host, dev, data, by (decide +kernel +zetaReduce)⟩)
  · exact (let v : Fin 512 := 448;  ⟨v, by (decide +kernel +zetaReduce)⟩)

theorem witness_HubCommandsComplete :
    (∃ (s : State) (n : Fin 32) (v : Word), (s.flag (Reg.SEN_CTX_CTRL_EN n.val) = false) ∧
                ((s.writeOnly (Reg.SEN_CTX_CTRL n.val) v fun f => f.lo ≠ 0).streamCheck n.val = 0)) ∧
    (∃ (s : State) (r : Fin 4) (vc : Fin 4), (s.flag (Reg.SEN_CSI_CTRL_EN r.val) = true) ∧
                ((s.hub.frames.find? fun x => x.1 = 4 * r.val + vc.val) = none)) ∧
    (∃ (s : State) (r : Fin 4) (vc : Fin 4) (bs : List Byte) (f : _), (s.flag (Reg.SEN_CSI_CTRL_EN r.val) = true) ∧
                (bs.length ≤ 8192) ∧
                ((s.hub.frames.find? fun x => x.1 = 4 * r.val + vc.val) = some (4 * r.val + vc.val, f))) ∧
    (∃ (s : State) (r : Fin 4) (vc : Fin 4) (x : _), (s.flag (Reg.SEN_CSI_CTRL_EN r.val) = true) ∧
                ((s.hub.frames.find? fun y => y.1 = 4 * r.val + vc.val) = some x)) ∧
    (∃ (s : State) (p : Fin 2) (f : List Byte), (s.flag (Reg.SEN_ETH_CTRL_EN p.val) = true) ∧
                (s.flag Reg.DBG_INJ_STAT_ARMED = false) ∧ (s.hub.ethHeld = []) ∧ (60 ≤ f.length) ∧ (f.length ≤ 2046) ∧
                ((untag f).1 ≠ 0x8808) ∧ (ptpEvent (untag f).1 (untag f).2 = none) ∧
                ((udpOf (untag f).1 (untag f).2).isNone = true) ∧
                ((s.get (Reg.SEN_ETH_FWRX_PTR_WR p.val) + 1) % 32 ≠ s.get (Reg.SEN_ETH_FWRX_PTR_RD p.val)) ∧
                (s.get (Reg.SEN_ETH_FWRX_BASE_VALUE p.val) + 65536 ≤ sramBytes)) ∧
    (∃ (s : State) (p : Fin 2), (s.flag (Reg.SEN_ETH_CTRL_EN p.val) = true) ∧ (s.flag Reg.DBG_JTAG_STAT_EXTEST = false) ∧
                (s.get (Reg.SEN_ETH_FWTX_BASE_VALUE p.val) + 65536 ≤ sramBytes)) := by
  refine ⟨?_, ?_, ?_, ?_, ?_, ?_⟩
  · exact (let s : State := R [(Reg.SEN_CTX_BIND_CODE 31, 0x3010), (Reg.SEN_CTX_STATE_LEN_VALUE 31, 256)];
              let n : Fin 32 := 31; let v : Word := setF 1#32 (Reg.SEN_CTX_CTRL_ENC 31).lo (Reg.SEN_CTX_CTRL_ENC 31).len 2;
               ⟨s, n, v, by (decide +kernel +zetaReduce)⟩)
  · exact (let s : State := R [(Reg.SEN_CSI_CTRL_EN 3, 1)]; let r : Fin 4 := 3; let vc : Fin 4 := 3;
               ⟨s, r, vc, by (decide +kernel +zetaReduce)⟩)
  · exact (let s : State := R [(Reg.SEN_CSI_CTRL_EN 3, 1)] { r0 with hub := { Hub.empty with frames := [(15, ⟨5, 5, []⟩)] } };
              let r : Fin 4 := 3; let vc : Fin 4 := 3; let bs : List Byte := [1, 255]; let f := (⟨5, 5, []⟩ : CsiFrame);
               ⟨s, r, vc, bs, f, by (decide +kernel +zetaReduce)⟩)
  · exact (let s : State := R [(Reg.SEN_CSI_CTRL_EN 3, 1)] { r0 with hub := { Hub.empty with frames := [(15, ⟨5, 5, []⟩)] } };
              let r : Fin 4 := 3; let vc : Fin 4 := 3; let x := (15, (⟨5, 5, []⟩ : CsiFrame));
               ⟨s, r, vc, x, by (decide +kernel +zetaReduce)⟩)
  · exact (let s : State := R [(Reg.SEN_ETH_CTRL_EN 1, 1)]; let p : Fin 2 := 1;
              let f : List Byte := List.replicate 12 0xFF ++ [0x12, 0x34] ++ List.replicate 46 7;
               ⟨s, p, f, by (decide +kernel +zetaReduce)⟩)
  · exact (let s : State := R [(Reg.SEN_ETH_CTRL_EN 1, 1), (Reg.SEN_ETH_FWTX_PTR_WR 1, 31)]; let p : Fin 2 := 1;
               ⟨s, p, by (decide +kernel +zetaReduce)⟩)

theorem witness_ImageCommandsComplete :
    (∃ (s : State) (slot : Fin 8) (info : ImageInfo), (2 ≤ s.slotRole slot.val) ∧ (s.inRun = true) ∧
                ((s.imageAt (s.selOf slot.val 2)).all (fun x => decide (4 ≤ x.state) || decide (x.state = 0)) = true) ∧
                (info.tiles ≤ s.obj 0x2201 2)) ∧
    (∃ (s : State) (slot : Fin 8) (info : ImageInfo), (2 ≤ s.slotRole slot.val) ∧ (s.inRun = true) ∧
                ((s.imageAt (s.selOf slot.val 2)).all (fun x => decide (4 ≤ x.state) || decide (x.state = 0)) = true) ∧
                (info.tiles ≤ s.obj 0x2201 2)) ∧
    (∃ (s : State) (i : Fin 64) (x : Image), (s.imageAt i.val = some x) ∧ (x.state = 1) ∧
                ((x.crc.all fun c => decide (crc32c (s.rdBytes x.source x.length) = c)) = true) ∧
                (firstFlaw (s.imageFlaws x.info (s.rdBytes x.source x.length)) = none)) ∧
    (∃ (s : State) (i : Fin 64) (x : Image), (s.imageAt i.val = some x) ∧ (x.state = 1)) ∧
    (∃ (s : State) (slot : Fin 8), (2 ≤ s.slotRole slot.val) ∧
                ((s.imageAt (s.selOf slot.val 2)).all (fun x => x.state != 1 && x.state != 3) = true)) ∧
    (∃ (s : State), (s.joined = false) ∧ (s.switchReason (s.get Reg.STEP_SWITCH_CTRL_IMAGE) = 0) ∧ (s.running = false) ∧
                (s.workers = [])) ∧
    (∃ (s : State), (s.joined = false) ∧ (s.switchReason (s.get Reg.STEP_SWITCH_CTRL_IMAGE) = 0) ∧ (s.running = true) ∧
                (s.tooLate (s.get64 Reg.STEP_SWITCH_AT_LO) = false) ∧ (s.workers = []) ∧ (s.phase ≠ 1) ∧ (s.phase ≠ 4)) ∧
    (∃ (s : State) (n : Fin 8) (w : Switch) (l : List Nat) (time : Nat), (s.clock.votes = some (w, l, time)) ∧ (n.val ∈ l)) ∧
    (∃ (s : State) (w : Switch) (v : State), (s.clock.switch = some w) ∧ (s.phase = 5) ∧
                (v = (if w.retain then s.switchSave else s).switchLoad w.image)) ∧
    (∃ (s : State) (i : Fin 64) (x : Image) (f : Flaw), (s.imageAt i.val = some x) ∧ (x.state = 1) ∧
                ((x.crc.all fun c => decide (crc32c (s.rdBytes x.source x.length) = c)) = true) ∧
                (firstFlaw (s.imageFlaws x.info (s.rdBytes x.source x.length)) = some f)) ∧
    (∃ (s : State), (s.joined = false) ∧ (s.switchReason (s.get Reg.STEP_SWITCH_CTRL_IMAGE) = 0) ∧ (s.running = false) ∧
                (s.workers ≠ [])) := by
  refine ⟨?_, ?_, ?_, ?_, ?_, ?_, ?_, ?_, ?_, ?_, ?_⟩
  · exact (let s : State := ({ slot7 2 with start := { Start.none with stage := 5 } } : State).setObj 0x2201 2 5;
              let slot : Fin 8 := 7; let info : ImageInfo := { ImageInfo.blank with tiles := 5 };
               ⟨s, slot, info, by (decide +kernel +zetaReduce)⟩)
  · exact (let s : State := ({ slot7 2 with start := { Start.none with stage := 5 } } : State).setObj 0x2201 2 5;
              let slot : Fin 8 := 7; let info : ImageInfo := { ImageInfo.blank with tiles := 5 };
               ⟨s, slot, info, by (decide +kernel +zetaReduce)⟩)
  · exact (let s : State := { (r0.rawBytes 0x1000000000 [1, 2, 3, 4]) with images := [⟨63, 1, { ImageInfo.blank with base := 0x2000000000 }, 0x1000000000, 4, none, Progress.idle, none, []⟩] };
              let i : Fin 64 := 63;
              let x : Image := ⟨63, 1, { ImageInfo.blank with base := 0x2000000000 }, 0x1000000000, 4, none, Progress.idle, none, []⟩;
               ⟨s, i, x, by (decide +kernel +zetaReduce)⟩)
  · exact (let s : State := img 63 1; let i : Fin 64 := 63;
              let x : Image := ⟨63, 1, ImageInfo.blank, 0x1000000000, 4, none, Progress.idle, none, []⟩;
               ⟨s, i, x, by (decide +kernel +zetaReduce)⟩)
  · exact (let s : State := img 0 2 (slot7 2); let slot : Fin 8 := 7;  ⟨s, slot, by (decide +kernel +zetaReduce)⟩)
  · exact (let s : State := R [(Reg.SEC_LC_STATE, 2), (Reg.STEP_SWITCH_CTRL_IMAGE, 63)] (img 63 2);
               ⟨s, by (decide +kernel +zetaReduce)⟩)
  · exact (let s : State := R [(Reg.SEC_LC_STATE, 2), (Reg.STEP_SWITCH_CTRL_IMAGE, 63), (Reg.STEP_CTRL_RUN, 1), (Reg.STEP_STATUS_PHASE, 2), (Reg.STEP_CTRL_POLICY, 2)] ((img 63 2).put64 Reg.STEP_SWITCH_AT_LO 100);
               ⟨s, by (decide +kernel +zetaReduce)⟩)
  · exact (let s : State := clk (fun c => { c with votes := some (⟨3, true, 9⟩, [6, 7], 5) }) (mgr 2 0xC0);
              let n : Fin 8 := 7; let w : Switch := ⟨3, true, 9⟩; let l : List Nat := [6, 7]; let time : Nat := 5;
               ⟨s, n, w, l, time, by (decide +kernel +zetaReduce)⟩)
  · exact (let s : State := clk (fun c => { c with switch := some ⟨3, false, 9⟩, halting := true }) (img 3 2 (R [(Reg.STEP_STATUS_PHASE, 5)]));
              let w : Switch := ⟨3, false, 9⟩; let v : State := (if w.retain then s.switchSave else s).switchLoad w.image;
               ⟨s, w, v, by (exact ⟨rfl, by decide +kernel, rfl⟩)⟩)
  · exact (let s : State := { (r0.rawBytes 0x1000000000 [1, 2, 3, 4]) with images := [⟨63, 1, { ImageInfo.blank with base := 0x2000000000, initial := [.mcast 0 4095 0] }, 0x1000000000, 4, none, Progress.idle, none, []⟩] };
              let i : Fin 64 := 63;
              let x : Image := ⟨63, 1, { ImageInfo.blank with base := 0x2000000000, initial := [.mcast 0 4095 0] }, 0x1000000000, 4, none, Progress.idle, none, []⟩;
              let y := s.imageFlaws ({ ImageInfo.blank with base := 0x2000000000, initial := [.mcast 0 4095 0] } : ImageInfo) [1, 2, 3, 4];
              let f : Flaw := (firstFlaw y).getD ⟨none, 0, 0⟩;  ⟨s, i, x, f, by (decide +kernel +zetaReduce)⟩)
  · exact (let s : State := R [(Reg.SEC_LC_STATE, 2), (Reg.STEP_SWITCH_CTRL_IMAGE, 63), (Reg.STEP_CTRL_POLICY, 2)] { mgr 0 0xC0 with images := [⟨63, 2, { ImageInfo.blank with hier := 1 }, 0x1000000000, 4, none, Progress.idle, none, []⟩] };
               ⟨s, by (decide +kernel +zetaReduce)⟩)

theorem witness_JtagCommandsComplete :
    (∃ (s : State), (s.get Reg.DBG_JTAG_STAT_LEVEL = 2)) ∧
    (∃ (s : State), (s.flag Reg.DBG_JTAG_STAT_EXTEST = false)) ∧
    (∃ (s : State), (s.flag Reg.DBG_JTAG_STAT_EXTEST = false)) ∧
    (∃ (s : State), (s.flag Reg.DBG_JTAG_STAT_EXTEST = false)) ∧
    (∃ (s : State) (resp : List Byte) (c : List Byte) (key : List Byte) (slot : Nat) (role : Nat) (time : Nat), (s.flag Reg.DBG_JTAG_STAT_EXTEST = false) ∧
                ((s.sec.challenges.find? fun x => x.1 = 8) = some (slot, role, c, time)) ∧ (s.now ≤ time + 12000000000) ∧
                (s.debugRole ≤ role) ∧ (role ≤ 3) ∧ (s.flag (Reg.SEC_LOCK_LOCKED (role - 1)) = false) ∧
                (s.roleKey role = some key) ∧
                (takeHash (Config.hmac key (c ++ s.serial ++ [8#8, BitVec.ofNat 8 role])) 10 = resp)) ∧
    (∃ (s : State), (s.flag Reg.DBG_JTAG_STAT_EXTEST = false)) ∧
    (∃ (s : State) (a : BitVec 40), (s.flag Reg.DBG_JTAG_STAT_EXTEST = false) ∧ (s.get Reg.DBG_JTAG_STAT_LEVEL ≠ 0) ∧
                (s.jtagWaits = false) ∧ (dramBase ≤ a.toNat) ∧ (a.toNat < 0x9000000000) ∧
                ((s.dramAt (a.toNat / 4 * 4)).isSome = true) ∧ (s.dramOk (a.toNat / 4 * 4) = true) ∧
                (s.rangePoisoned (a.toNat / 4 * 4) 4 = false)) ∧
    (∃ (s : State) (a : BitVec 40) (g : Nat) (tile : Nat), (s.flag Reg.DBG_JTAG_STAT_EXTEST = false) ∧
                (s.get Reg.DBG_JTAG_STAT_LEVEL ≠ 0) ∧ (s.jtagWaits = false) ∧ (s.doorOf (a.toNat / 4 * 4) = some tile) ∧
                (((List.range 256).find? fun g => s.accesses.all fun y => y.1 != g) = some g)) ∧
    (∃ (s : State), (s.flag Reg.DBG_JTAG_STAT_EXTEST = false)) ∧
    (∃ (s : State) (code : Byte), (s.get Reg.DBG_JTAG_STAT_EXTEST = 1) ∧ (code ≠ 0)) ∧
    (∃ (s : State), (s.get Reg.DBG_JTAG_STAT_LEVEL ≠ 0)) := by
  refine ⟨?_, ?_, ?_, ?_, ?_, ?_, ?_, ?_, ?_, ?_, ?_⟩
  · exact (let s : State := R [(Reg.DBG_JTAG_STAT_LEVEL, 2)];  ⟨s, by (decide +kernel +zetaReduce)⟩)
  · exact (let s : State := r0;  ⟨s, by (decide +kernel +zetaReduce)⟩)
  · exact (let s : State := r0;  ⟨s, by (decide +kernel +zetaReduce)⟩)
  · exact (let s : State := r0;  ⟨s, by (decide +kernel +zetaReduce)⟩)
  · exact (let s : State := { r0 with sec := { Security.empty with challenges := [(8, 3, [1, 2], 5)] } };
              let slot : Nat := 8; let role : Nat := 3; let time : Nat := 5; let c : List Byte := [1, 2];
              let key : List Byte := Config.makerKey;
              let resp : List Byte := takeHash (Config.hmac key (c ++ s.serial ++ [8#8, BitVec.ofNat 8 role])) 10;
               ⟨s, resp, c, key, slot, role, time, by (refine ⟨?_, ?_, ?_, ?_, ?_, ?_, ?_, ?_⟩ <;> first | rfl | decide +kernel +zetaReduce)⟩)
  · exact (let s : State := r0;  ⟨s, by (decide +kernel +zetaReduce)⟩)
  · exact (let s : State := dram (R [(Reg.DBG_JTAG_STAT_LEVEL, 1)]); let a : BitVec 40 := 0x1000000004;
               ⟨s, a, by (decide +kernel +zetaReduce)⟩)
  · exact (let s : State := R [(Reg.DBG_JTAG_STAT_LEVEL, 1)]; let a : BitVec 40 := 0x111FFFFFC; let g : Nat := 0;
              let tile : Nat := 1151;  ⟨s, a, g, tile, by (decide +kernel +zetaReduce)⟩)
  · exact (let s : State := r0;  ⟨s, by (decide +kernel +zetaReduce)⟩)
  · exact (let s : State := R [(Reg.DBG_JTAG_STAT_EXTEST, 1)]; let code : Byte := 0xFF;
               ⟨s, code, by (decide +kernel +zetaReduce)⟩)
  · exact (let s : State := R [(Reg.DBG_JTAG_STAT_LEVEL, 2)];  ⟨s, by (decide +kernel +zetaReduce)⟩)

theorem witness_MemoryCommandsComplete :
    (∃ (s : State) (x : Site) (b : Fin 32), (b.val < banksOf x) ∧ (s.scrubOn x = true)) ∧
    (∃ (s : State) (a : _) (q : _) (off : _), (s.dramAt a = some (q, off)) ∧ (s.subRetired q = false) ∧
                (s.poisoned a = false)) ∧
    (∃ (s : State) (a : _) (q : _) (off : _), (s.dramAt a = some (q, off)) ∧ (s.subRetired q = false)) ∧
    (∃ (s : State) (q : Fin 16) (page : _) (e : _), ((s.memories.copies.find? fun c => c.1 = q.val) = some (q.val, page, e))) ∧
    (∃ (s : State) (q : Fin 16), (s.subRetired q.val = false)) ∧
    (∃ (s : State), (s.running = false) ∧ ((∀ q, q < 16 → s.flag (Reg.STR_CTRL_EN q) = false))) ∧
    (∃ (s : State) (q : Fin 16), (s.subReadable q.val = true) ∧ (s.flag (Reg.DDR_SCRUB_CFG_EN (q.val / 4)) = true) ∧
                (s.flag (Reg.DDR_MT_STAT_BUSY (q.val / 4)) = false) ∧ (s.memories.patrol.at q.val + 1 < s.subBursts)) ∧
    (∃ (s : State), (s.busy 5 = false)) ∧
    (∃ (s : State), (s.busy 5 = true)) ∧
    (∃ (s : State) (q : Fin 16), (s.busy 5 = true) ∧ (s.scrubSubs.contains q.val = true) ∧
                (s.memories.full.at q.val < s.subBursts)) ∧
    (∃ (s : State), (s.filling = true)) := by
  refine ⟨?_, ?_, ?_, ?_, ?_, ?_, ?_, ?_, ?_, ?_, ?_⟩
  · exact (let s : State := r0; let x : Site := .manager; let b : Fin 32 := 31;  ⟨s, x, b, by (decide +kernel +zetaReduce)⟩)
  · exact (let s : State := dram; let a := 0x1000000040; let y := (s.dramAt 0x1000000040).getD (99, 99); let q := y.1;
              let off := y.2;  ⟨s, a, q, off, by (decide +kernel +zetaReduce)⟩)
  · exact (let s : State := dram; let a := 0x1000000040; let y := (s.dramAt 0x1000000040).getD (99, 99); let q := y.1;
              let off := y.2;  ⟨s, a, q, off, by (decide +kernel +zetaReduce)⟩)
  · exact (let s : State := dram { r0 with memories := { Memories.empty with copies := [(15, 7, 3)] } };
              let q : Fin 16 := 15; let page := 7; let e := 3;  ⟨s, q, page, e, by (decide +kernel +zetaReduce)⟩)
  · exact (let s : State := dram; let q : Fin 16 := 15;  ⟨s, q, by (decide +kernel +zetaReduce)⟩)
  · exact (let s : State := dram;  ⟨s, by (decide +kernel +zetaReduce)⟩)
  · exact (let s : State := dram (R [(Reg.DDR_SCRUB_CFG_EN 3, 1)]); let q : Fin 16 := 15;
               ⟨s, q, by (decide +kernel +zetaReduce)⟩)
  · exact (let s : State := dram;  ⟨s, by (decide +kernel +zetaReduce)⟩)
  · exact (let s : State := { r0 with progress := [(5, ⟨1, 3, 9, 0⟩)] };  ⟨s, by (decide +kernel +zetaReduce)⟩)
  · exact (let s : State := dram { r0 with progress := [(5, ⟨1, 3, 9, 0⟩)], memories := { Memories.empty with scrubQuads := [3] } };
              let q : Fin 16 := 15;  ⟨s, q, by (decide +kernel +zetaReduce)⟩)
  · exact (let s : State := R [(Reg.DDR_STATUS_FILLING 0, 1)];  ⟨s, by (decide +kernel +zetaReduce)⟩)

theorem witness_MeshCommandsComplete :
    (∃ (s : State) (r : Fin 1152) (p : Fin 4) (x : Pip), (s.coreGated r.val = false) ∧ (s.linkUp r.val p.val = true) ∧
                (s.mesh.links.at (4 * r.val + p.val) = [x]) ∧
                ((∀ q, q < 4 → q ≠ p.val → s.mesh.links.at (4 * r.val + q) = [])) ∧ (x.legal = true) ∧ (x.mc = false) ∧
                (x.dest = r.val) ∧ (x.cls = 0) ∧ (x.ptype ≠ 1) ∧ (x.ptype ≠ 2) ∧ (s.fenced r.val = false) ∧
                ((s.mesh.ctrlIn.at r.val).length < 4)) ∧
    (∃ (s : State) (r : Fin 1152) (p : Fin 4) (x : Pip), (s.coreGated r.val = false) ∧ (s.linkUp r.val p.val = true) ∧
                (s.mesh.links.at (4 * r.val + p.val) = [x]) ∧
                ((∀ q, q < 4 → q ≠ p.val → s.mesh.links.at (4 * r.val + q) = [])) ∧ (x.legal = true) ∧ (x.mc = false) ∧
                (x.rejoin = false) ∧ (x.cls = 1) ∧ (s.linkUp r.val 1 = true) ∧ (colOf r.val < 35) ∧ (colOf r.val ≠ 17) ∧
                (x.dest < 1152) ∧ (x.dest ≠ r.val) ∧ (colOf r.val < colOf x.dest) ∧ (s.blockedAt r.val x = false) ∧
                (s.flag Reg.DBG_INJ_STAT_ARMED = false)) ∧
    (∃ (s : State) (r : Fin 1152) (p : Fin 4) (c : BitVec 16) (x : Pip), (s.coreGated r.val = false) ∧
                (s.linkUp r.val p.val = true) ∧ (s.mesh.links.at (4 * r.val + p.val) = [x]) ∧
                ((∀ q, q < 4 → q ≠ p.val → s.mesh.links.at (4 * r.val + q) = [])) ∧ (c.toNat ≠ pipCrc x)) ∧
    (∃ (s : State) (r : Fin 1152) (x : Pip) (rest : _), (s.coreGated r.val = false) ∧ (s.mesh.retry.at r.val = []) ∧
                (s.mesh.ctrl.at r.val = x :: rest) ∧ (x.legal = true) ∧ (x.mc = false) ∧ (x.dest = r.val) ∧ (x.cls = 0) ∧
                (x.ptype ≠ 1) ∧ (x.ptype ≠ 2) ∧ (s.fenced r.val = false) ∧ ((s.mesh.ctrlIn.at r.val).length < 4) ∧
                ((s.mesh.awarded.at r.val).contains 4 = false)) ∧
    (∃ (s : State) (y : Fin 32) (x : Pip) (rest : _), (s.mesh.edgeBack.at y.val = x :: rest)) ∧
    (∃ (s : State) (y : Fin 32) (x : Pip) (rest : _), (s.mesh.edgeBack.at y.val = []) ∧ (s.linkUp (36 * y.val) 3 = true) ∧
                (s.mesh.edgeRetry.at y.val = []) ∧ (s.mesh.ctrl.at (1152 + y.val) = x :: rest)) ∧
    (∃ (s : State) (r : Fin 1152) (p : Fin 4) (x : Pip) (rest : _), (s.mesh.naks.at (4 * r.val + p.val) = x :: rest) ∧
                ((s.mesh.retry.at r.val).length < 8)) ∧
    (∃ (s : State) (n : Fin 1184) (x : Pip), (((s.mesh.throttleIn.at n.val).find? fun p => p.ptype = 1) = some x) ∧
                (s.metered n.val = true) ∧ (s.mesh.lastEcho.at n.val = 0)) ∧
    (∃ (s : State) (n : Fin 1184) (x : Pip), (((s.mesh.throttleIn.at n.val).find? fun p => p.ptype = 2) = some x) ∧
                (s.metered n.val = true)) ∧
    (∃ (s : State) (n : Fin 1184), (s.metered n.val = true)) ∧
    (∃ (s : State) (r : Fin 1152) (e : BitVec 128) (rest : _), (s.mesh.delayWait.at r.val = e :: rest) ∧
                ((s.mesh.delay.at r.val).length < 1024)) ∧
    (∃ (s : State) (remap : Bool), (s.running = false ∨ remap = true)) ∧
    (∃ (s : State) (r : Fin 1152) (v : Word), (v.toNat % 2 ^ 19 % 16 = 0) ∧
                (v.toNat % 2 ^ 19 + 1024 * s.get (Reg.EVM_SPILL_LEN_LEN r.val) ≤ 0x80000)) ∧
    (∃ (s : State) (r : Fin 1152) (v : Word), (s.running = false) ∧
                (s.get (Reg.EVM_SPILL_BASE_BASE r.val) + 1024 * (v.toNat % 1024) ≤ 0x80000)) := by
  refine ⟨?_, ?_, ?_, ?_, ?_, ?_, ?_, ?_, ?_, ?_, ?_, ?_, ?_, ?_⟩
  · exact (let s : State := onM (fun m => { m with links := [(4607, [Pip.make 0 false 1151 5 0 0 0 5 77])] }) (lup 1151 3);
              let r : Fin 1152 := 1151; let p : Fin 4 := 3; let x : Pip := Pip.make 0 false 1151 5 0 0 0 5 77;
               ⟨s, r, p, x, by (decide +kernel +zetaReduce)⟩)
  · exact (let s : State := onM (fun m => { m with links := [(4607 - 4, [Pip.make 1 false 1151 5 0 0 0 1 77])] }) (lup 1150 3 (lup 1150 1));
              let r : Fin 1152 := 1150; let p : Fin 4 := 3; let x : Pip := Pip.make 1 false 1151 5 0 0 0 1 77;
               ⟨s, r, p, x, by (decide +kernel +zetaReduce)⟩)
  · exact (let s : State := onM (fun m => { m with links := [(4607, [Pip.make 0 false 1151 5 0 0 0 5 77])] }) (lup 1151 3);
              let r : Fin 1152 := 1151; let p : Fin 4 := 3;
              let c : BitVec 16 := BitVec.ofNat 16 (pipCrc (Pip.make 0 false 1151 5 0 0 0 5 77) + 1);
              let x : Pip := Pip.make 0 false 1151 5 0 0 0 5 77;  ⟨s, r, p, c, x, by (decide +kernel +zetaReduce)⟩)
  · exact (let s : State := onM (fun m => { m with ctrl := [(1151, [Pip.make 0 false 1151 1151 0 0 0 5 77])] });
              let r : Fin 1152 := 1151; let x : Pip := Pip.make 0 false 1151 1151 0 0 0 5 77; let rest := [];
               ⟨s, r, x, rest, by (decide +kernel +zetaReduce)⟩)
  · exact (let s : State := onM (fun m => { m with edgeBack := [(31, [Pip.make 0 false 1151 5 0 0 0 5 77])] });
              let y : Fin 32 := 31; let x : Pip := Pip.make 0 false 1151 5 0 0 0 5 77; let rest := [];
               ⟨s, y, x, rest, by (decide +kernel +zetaReduce)⟩)
  · exact (let s : State := onM (fun m => { m with ctrl := [(1183, [Pip.make 0 false 1151 1183 0 0 0 5 77])] }) (lup 1116 3);
              let y : Fin 32 := 31; let x : Pip := Pip.make 0 false 1151 1183 0 0 0 5 77; let rest := [];
               ⟨s, y, x, rest, by (decide +kernel +zetaReduce)⟩)
  · exact (let s : State := onM (fun m => { m with naks := [(4607, [Pip.make 0 false 1151 5 0 0 0 5 77])] });
              let r : Fin 1152 := 1151; let p : Fin 4 := 3; let x : Pip := Pip.make 0 false 1151 5 0 0 0 5 77;
              let rest := [];  ⟨s, r, p, x, rest, by (decide +kernel +zetaReduce)⟩)
  · exact (let s : State := onM (fun m => { m with throttleIn := [(1183, [Pip.make 0 false 1183 5 0 0 0 1 77])] });
              let n : Fin 1184 := 1183; let x : Pip := Pip.make 0 false 1183 5 0 0 0 1 77;
               ⟨s, n, x, by (decide +kernel +zetaReduce)⟩)
  · exact (let s : State := onM (fun m => { m with throttleIn := [(1183, [Pip.make 0 false 1183 5 0 0 0 2 77])] });
              let n : Fin 1184 := 1183; let x : Pip := Pip.make 0 false 1183 5 0 0 0 2 77;
               ⟨s, n, x, by (decide +kernel +zetaReduce)⟩)
  · exact (let s : State := R [(⟨thrRate 1183, 0, 9⟩, 250)]; let n : Fin 1184 := 1183;
               ⟨s, n, by (decide +kernel +zetaReduce)⟩)
  · exact (let s : State := onM (fun m => { m with delayWait := [(1151, [BitVec.ofNat 128 7])] }); let r : Fin 1152 := 1151;
              let e : BitVec 128 := BitVec.ofNat 128 7; let rest := [];  ⟨s, r, e, rest, by (decide +kernel +zetaReduce)⟩)
  · exact (let s : State := R [(Reg.EVM_MC_ADDR_GROUP 1151, 4095)]; let remap : Bool := false;
               ⟨s, remap, by (decide +kernel +zetaReduce)⟩)
  · exact (let s : State := R [(Reg.EVM_SPILL_LEN_LEN 1151, 1)]; let r : Fin 1152 := 1151; let v : Word := 0x7FC00;
               ⟨s, r, v, by (decide +kernel +zetaReduce)⟩)
  · exact (let s : State := r0; let r : Fin 1152 := 1151; let v : Word := 512;  ⟨s, r, v, by (decide +kernel +zetaReduce)⟩)

theorem witness_NeuronAndLearningCommandsComplete :
    (∃ (s : State) (n : Fin 1152), (s.scanReady n.val = true)) ∧
    (∃ (s : State) (n : Fin 1152) (c : Fin 32) (v : Word), (s.flag (Reg.POP_CTRL_EN n.val c.val) = false) ∧
                ((s.ctxWrite n.val c.val 0 (v ||| 1)).ctxCheck n.val c.val = 0)) ∧
    (∃ (s : State) (n : Fin 1152) (c : Fin 32), (s.flag (Reg.POP_CTRL_EN n.val c.val) = false)) ∧
    (∃ (s : State) (n : Fin 1152) (v : Word), ((∀ c, c < 32 → s.flag (Reg.POP_CTRL_EN n.val c) = true → s.flag (Reg.POP_CTRL_WINDOWED n.val c) = false)) ∧
                (getF v 0 7 ≠ 1) ∧ (getF v 0 7 ≤ 64)) ∧
    (∃ (s : State) (p : Fin 72), (s.get Reg.STEP_STATUS_PHASE = 3) ∧ (s.sweepsDone p.val = true) ∧
                (p.val ∉ s.delivery.passed)) ∧
    (∃ (s : State) (p : Fin 72) (n : Fin 64) (v : Word), (getF v 0 1 = 0 ∨ s.learnBarred p.val n.val = false)) ∧
    (∃ (s : State), ((s.get Reg.SYNC_MODQ_STEP_STEP + 2 ^ 32 - s.stepNum % 2 ^ 32) % 2 ^ 32 ≤ 255) ∧
                (s.delivery.modQueue.length < 64)) := by
  refine ⟨?_, ?_, ?_, ?_, ?_, ?_, ?_⟩
  · exact (let s : State := R [(Reg.STEP_STATUS_PHASE, 3), (Reg.POP_CTRL_EN 1151 31, 1), (Reg.POP_RANGE_COUNT 1151 31, 3)];
              let n : Fin 1152 := 1151;  ⟨s, n, by (decide +kernel +zetaReduce)⟩)
  · exact (let s : State := R [(Reg.POP_RANGE_COUNT 1151 31, 3), (Reg.POP_ACC_BASE_BASE 1151 31, 256), (Reg.NE_WINDOW_W 1151, 2)];
              let n : Fin 1152 := 1151; let c : Fin 32 := 31; let v : Word := 0x00000000;
               ⟨s, n, c, v, by (decide +kernel +zetaReduce)⟩)
  · exact (let s : State := r0; let n : Fin 1152 := 1151; let c : Fin 32 := 31;  ⟨s, n, c, by (decide +kernel +zetaReduce)⟩)
  · exact (let s : State := R [(Reg.POP_CTRL_EN 1151 31, 1)]; let n : Fin 1152 := 1151; let v : Word := 0xFFFFFFC0;
               ⟨s, n, v, by (decide +kernel +zetaReduce)⟩)
  · exact (let s : State := R [(Reg.STEP_STATUS_PHASE, 3)]; let p : Fin 72 := 71;  ⟨s, p, by (decide +kernel +zetaReduce)⟩)
  · exact (let s : State := r0; let p : Fin 72 := 71; let n : Fin 64 := 63; let v : Word := 0xFFFFFFFE;
               ⟨s, p, n, v, by (decide +kernel +zetaReduce)⟩)
  · exact (let s : State := R [(Reg.SYNC_MODQ_STEP_STEP, 255), (Reg.SYNC_MODQ_PUSH_LO_VALUE, 77)];
               ⟨s, by (decide +kernel +zetaReduce)⟩)

theorem witness_SettingsCommandsComplete :
    (∃ (s : State) (n : Fin 1152) (a : BitVec 40), (s.reaches (.tile n) a.toNat = some (Reg.EVM_CTRL n.val))) ∧
    (∃ (s : State) (src : Requester) (a : BitVec 40) (r : Nat), (s.reaches src a.toNat = some r) ∧ (RegMap.rowOf r = none)) ∧
    (∃ (s : State) (tile : Fin 1152) (p : Pip) (u : State), (s.takeCtrl tile.val 6 = some (p, u)) ∧
                (s.shut tile.val = true)) ∧
    (∃ (s : State), (s.running = true) ∧
                ((∀ x ∈ stagedSort s.staging.writes, s.modeReason (s.withStaged (stagedSort s.staging.writes)) (stagedSort s.staging.writes) x.index x.sub x.item x.value = 0))) ∧
    (∃ (s : State), (s.unsaved ≠ [])) ∧
    (∃ (s : State) (slot : Fin 8), (2 ≤ s.slotRole slot.val)) ∧
    (∃ (s : State) (slot : Fin 8), (2 ≤ s.slotRole slot.val)) := by
  refine ⟨?_, ?_, ?_, ?_, ?_, ?_, ?_⟩
  · exact (let s : State := lup 1151 3; let n : Fin 1152 := 1151;
              let a : BitVec 40 := BitVec.ofNat 40 (Reg.EVM_CTRL 1151 - tileBase 1151);
               ⟨s, n, a, by (decide +kernel +zetaReduce)⟩)
  · exact (let s : State := r0; let src : Requester := .hart 3 true; let a : BitVec 40 := 0x1000FF0;
              let r : Nat := 0x1000FF0;  ⟨s, src, a, r, by (decide +kernel +zetaReduce)⟩)
  · exact (let s : State := onM (fun m => { m with ctrlIn := [(1151, [Pip.make 0 false 1151 1152 0 0 0 6 77])] }) (R [(⟨Reg.FLT_FENCE 35, 31, 1⟩, 1)]);
              let tile : Fin 1152 := 1151; let y := (s.takeCtrl 1151 6).getD (noPip, s); let p : Pip := y.1;
              let u : State := y.2;  ⟨s, tile, p, u, by (decide +kernel +zetaReduce)⟩)
  · exact (let s : State := { R [(Reg.STEP_CTRL_RUN, 1)] with staging := ⟨[⟨0x2401, 1, 0, 1⟩], []⟩ };
               ⟨s, by (decide +kernel +zetaReduce)⟩)
  · exact (let s : State := { r0 with unsaved := [(0x1017, 0, 5)] };  ⟨s, by (decide +kernel +zetaReduce)⟩)
  · exact (let s : State := slot7 2; let slot : Fin 8 := 7;  ⟨s, slot, by (decide +kernel +zetaReduce)⟩)
  · exact (let s : State := slot7 2; let slot : Fin 8 := 7;  ⟨s, slot, by (decide +kernel +zetaReduce)⟩)

theorem witness_PowerCommandsComplete :
    (∃ (s : State) (h : Half) (mhz : Fin 1024), (s.clockReason h.ctorIdx mhz.val = 0)) ∧
    (∃ (s : State) (split : Bool), (s.halfReason split = 0)) ∧
    (∃ (s : State) (h : Half) (c : HalfChange), (s.power.half = some c) ∧ (c.stage = 2) ∧ (h.ctorIdx ∈ c.locks) ∧
                ((c.locks.filter (· != h.ctorIdx)).isEmpty = false)) ∧
    (∃ (s : State) (r : Fin 7), (s.rampOf r.val = none)) ∧
    (∃ (s : State) (r : Fin 7) (mv : Fin 65536) (x : Ramp) (w : Nat), (s.rampOf r.val = some x) ∧ (x.written = some w) ∧
                (s.flag (Reg.PWR_RAIL_STAT_PG r.val) = true) ∧ (mv.val ≤ x.target + 15) ∧ (x.target ≤ mv.val + 15) ∧
                (s.now ≤ w + 200 * s.get (Reg.PWR_RAIL_TMO_US r.val)) ∧ (s.power.half = none)) ∧
    (∃ (s : State) (r : Fin 7) (x : Ramp), (s.rampOf r.val = some x)) ∧
    (∃ (v : Word), (v.getLsbD 30 = false)) ∧
    (∃ (s : State) (q : PmbRequest) (rest : _), (s.power.pmb = q :: rest) ∧ (q.place = 4) ∧ (q.write = false)) ∧
    (∃ (s : State) (r : Fin 7), (r.val ∈ s.keptRails) ∧ (r.val ∉ s.power.off)) ∧
    (∃ (s : State) (r : Fin 7) (q : Nat) (l : List Nat), (s.power.off = r.val :: q :: l)) ∧
    (∃ (w : Fin 65536) (e : Fin 65536), (sext 16 w.val < 1150) ∧ (sext 16 e.val < 1150)) ∧
    (∃ (s : State) (w : Fin 65536) (e : Fin 65536), (1150 ≤ sext 16 w.val ∨ 1150 ≤ sext 16 e.val) ∧ (s.power.goal = none)) ∧
    (∃ (s : State), (1050 < s.junction .west)) ∧
    (∃ (s : State), (s.junction .east < 1000) ∧ (0 < s.power.kEast)) := by
  refine ⟨?_, ?_, ?_, ?_, ?_, ?_, ?_, ?_, ?_, ?_, ?_, ?_, ?_, ?_⟩
  · exact (let s : State := onPw (fun p => { p with ramps := [] }) ((R [(Reg.PWR_RAIL_WIN_HI 0, 65535), (Reg.PWR_RAIL_WIN_HI 1, 65535)]).setObj 0x2001 3 1000);
              let h : Half := .east; let mhz : Fin 1024 := 1000;  ⟨s, h, mhz, by (decide +kernel +zetaReduce)⟩)
  · exact (let s : State := R [(Reg.PWR_CLK_W_MHZ, 500), (Reg.PWR_CLK_E_MHZ, 600)]; let split : Bool := true;
               ⟨s, split, by (decide +kernel +zetaReduce)⟩)
  · exact (let s : State := onPw (fun p => { p with half := some ⟨true, 500, 600, 2, [0, 1]⟩ }); let h : Half := .east;
              let c : HalfChange := ⟨true, 500, 600, 2, [0, 1]⟩;  ⟨s, h, c, by (decide +kernel +zetaReduce)⟩)
  · exact (let s : State := r0; let r : Fin 7 := 6;  ⟨s, r, by (decide +kernel +zetaReduce)⟩)
  · exact (let s : State := onPw (fun p => { p with ramps := [⟨6, 900, 800, 0, some 0⟩] }) (R [(Reg.PWR_RAIL_STAT_PG 6, 1)]);
              let r : Fin 7 := 6; let mv : Fin 65536 := 915; let x : Ramp := ⟨6, 900, 800, 0, some 0⟩; let w : Nat := 0;
               ⟨s, r, mv, x, w, by (decide +kernel +zetaReduce)⟩)
  · exact (let s : State := onPw (fun p => { p with ramps := [⟨6, 900, 800, 0, some 0⟩] }); let r : Fin 7 := 6;
              let x : Ramp := ⟨6, 900, 800, 0, some 0⟩;  ⟨s, r, x, by (decide +kernel +zetaReduce)⟩)
  · exact (let v : Word := 0xBFFFFFFF;  ⟨v, by (decide +kernel +zetaReduce)⟩)
  · exact (let s : State := onPw (fun p => { p with pmb := [⟨4, 6, 0x8B, 5, false, 0⟩] });
              let q : PmbRequest := ⟨4, 6, 0x8B, 5, false, 0⟩; let rest := [];
               ⟨s, q, rest, by (decide +kernel +zetaReduce)⟩)
  · exact (let s : State := onPw (fun p => { p with off := [] }) (R [(Reg.PWR_STATUS_STATE, 0)]); let r : Fin 7 := 6;
               ⟨s, r, by (decide +kernel +zetaReduce)⟩)
  · exact (let s : State := onPw (fun p => { p with off := [6, 5, 0], enabled := [6, 5, 0] }); let r : Fin 7 := 6;
              let q : Nat := 5; let l : List Nat := [0];  ⟨s, r, q, l, by (decide +kernel +zetaReduce)⟩)
  · exact (let w : Fin 65536 := 1149; let e : Fin 65536 := 65535;  ⟨w, e, by (decide +kernel +zetaReduce)⟩)
  · exact (let s : State := onPw (fun p => { p with goal := none }); let w : Fin 65536 := 1150; let e : Fin 65536 := 0;
               ⟨s, w, e, by (decide +kernel +zetaReduce)⟩)
  · exact (let s : State := onPw (fun p => { p with kWest := 12 }) (R [(Reg.PWR_TEMP_W, 1051)]);
               ⟨s, by (decide +kernel +zetaReduce)⟩)
  · exact (let s : State := onPw (fun p => { p with kEast := 1 }) (R [(Reg.PWR_TEMP_E, 999)]);
               ⟨s, by (decide +kernel +zetaReduce)⟩)

theorem witness_QueueCommandsComplete :
    (∃ (s : State) (u : Fin 1153) (i : Fin 1024), (s.guardOwns u.val i.val = false) ∧ (s.qMode u.val i.val = 0) ∧
                ((s.qRing u.val i.val).isSome = true)) ∧
    (∃ (s : State) (u : Fin 1153) (i : Fin 1024), (s.qMode u.val i.val = 1) ∧ ((u.val, i.val) ∈ s.clearing)) ∧
    (∃ (s : State) (u : Fin 1153) (i : Fin 1024), (s.guardOwns u.val i.val = false) ∧ (s.qMode u.val i.val = 1)) ∧
    (∃ (s : State) (u : Fin 1153) (i : Fin 1024), (s.guardOwns u.val i.val = false) ∧ (s.qMode u.val i.val = 1)) ∧
    (∃ (s : State) (u : Fin 1153) (i : Fin 1024), (s.guardOwns u.val i.val = false) ∧ (s.qMode u.val i.val = 2)) ∧
    (∃ (s : State) (u : Fin 1153) (i : Fin 1024), (s.guardOwns u.val i.val = false) ∧ (s.qMode u.val i.val = 0) ∧
                ((∀ j, j < 1024 → ¬(s.qMode u.val j = 2 ∧ s.qget u.val j 32 20 = s.qget u.val i.val 32 20)))) ∧
    (∃ (s : State) (u : Fin 1153) (i : Fin 1024), (s.guardOwns u.val i.val = false) ∧ (s.qMode u.val i.val = 2) ∧
                (s.qget u.val i.val 96 1 = 1)) ∧
    (∃ (s : State) (u : Fin 1153) (i : Fin 1024), (s.guardOwns u.val i.val = false) ∧ (s.qMode u.val i.val = 2) ∧
                (s.bridged u.val i.val = none) ∧ (u.val ≠ 1152 ∨ s.qget u.val i.val 52 1 ≠ 1) ∧
                (s.qget u.val i.val 52 1 = 1 ∨ (s.qTile u.val (s.qget u.val i.val 42 10)).isSome = true) ∧
                (s.qget u.val i.val 96 1 = 0) ∧ (s.qget u.val i.val 97 1 = 1) ∧ (0 < s.qget u.val i.val 64 12) ∧
                ((s.mesh.msgs.at u.val).length < 16)) ∧
    (∃ (s : State) (u : Fin 1153) (p : _) (s₁ : _) (j : _), (s.takeCtrl u.val 0x03 = some (p, s₁)) ∧
                (s₁.endpointOf u.val (p.b 0 16) (p.b 16 16) = some j) ∧ (s₁.qget u.val j 97 1 = 1) ∧
                (s₁.qget u.val j 96 1 = 0) ∧ (p.b 32 8 = s₁.qEpoch u.val j)) ∧
    (∃ (s : State) (u : Fin 1153) (p : _) (s₁ : _) (j : _), (s.takeCtrl u.val 0x04 = some (p, s₁)) ∧
                (s₁.endpointOf u.val (p.b 0 16) (p.b 16 16) = some j) ∧ (s₁.qget u.val j 97 1 = 1) ∧
                (s₁.qget u.val j 96 1 = 0) ∧ (newer (p.b 32 8) (s₁.qEpoch u.val j) = true)) ∧
    (∃ (s : State) (u : Fin 1153) (i : Fin 1024) (n : Fin 4096), (s.qMode u.val i.val = 1) ∧
                (s.qget u.val i.val 120 1 = 1) ∧ (1 ≤ n.val) ∧ (n.val ≤ s.qAvail u.val i.val) ∧
                (s.guardOwns u.val i.val = false)) ∧
    (∃ (s : State) (u : Fin 1153) (i : Fin 1024), ((u.val, i.val) ∈ s.creditDue)) ∧
    (∃ (s : State) (u : Fin 1153) (i : Fin 1024), (s.get (qr u.val (Reg.Q_CTRL_GAP_SCAN u.val)) ≠ 0) ∧
                (s.qMode u.val i.val = 1) ∧ (s.qget u.val i.val 120 1 = 1) ∧ (s.qget u.val i.val 123 1 = 1) ∧
                (s.qget u.val i.val 121 1 = 0) ∧
                (s.oooSeen.at (1024 * u.val + i.val) = (s.qHead u.val i.val + s.qAvail u.val i.val) % 4096 + 1)) ∧
    (∃ (s : State) (u : Fin 1153) (i : Fin 1024), (s.guardOwns u.val i.val = false) ∧ (s.qMode u.val i.val = 2) ∧
                (s.bridged u.val i.val = none) ∧ (u.val = 1152) ∧ (s.qget u.val i.val 52 1 = 1) ∧
                (s.qget u.val i.val 96 1 = 0) ∧ (s.qget u.val i.val 97 1 = 1) ∧ (0 < s.qget u.val i.val 64 12) ∧
                ((s.mesh.msgs.at u.val).length < 16)) ∧
    (∃ (s : State) (u : Fin 1153) (i : Fin 1024) (p : _) (rest : _) (ring : _), (s.mesh.msgIn.at u.val = p :: rest) ∧
                (msgQueue p = i.val) ∧ ((u.val = 1152 → 576 ≤ i.val ∨ (s.start.stage ≠ 4 ∧ s.start.stage ≠ 5))) ∧
                (s.get (qr u.val (Reg.Q_CTRL_EN u.val)) = 1) ∧ (s.qMode u.val i.val = 1) ∧
                (s.qRing u.val i.val = some ring) ∧ (msgEpoch p = s.qEpoch u.val i.val) ∧
                (s.fromPeer u.val i.val p = true) ∧ (s.qAvail u.val i.val < s.qSlots u.val i.val) ∧
                (p.seq = (s.qHead u.val i.val + s.qAvail u.val i.val) % 4096) ∧
                (s.fillBit ring (s.qSlots u.val i.val) p.seq = false) ∧
                (s.qAvail u.val i.val + 1 = s.qSlots u.val i.val ∨ s.fillBit ring (s.qSlots u.val i.val) (p.seq + 1) = false)) ∧
    (∃ (s : State) (u : Fin 1153) (i : Fin 1024) (p : _) (rest : _) (ring : _), (s.mesh.msgIn.at u.val = p :: rest) ∧
                (msgQueue p = i.val) ∧ ((u.val = 1152 → 576 ≤ i.val ∨ (s.start.stage ≠ 4 ∧ s.start.stage ≠ 5))) ∧
                (s.get (qr u.val (Reg.Q_CTRL_EN u.val)) = 1) ∧ (s.qMode u.val i.val = 1) ∧
                (s.qRing u.val i.val = some ring) ∧ (msgEpoch p = s.qEpoch u.val i.val) ∧
                (s.fromPeer u.val i.val p = true) ∧
                (0 < (p.seq + 8192 - s.qHead u.val i.val - s.qAvail u.val i.val) % 4096) ∧
                ((p.seq + 8192 - s.qHead u.val i.val - s.qAvail u.val i.val) % 4096 + s.qAvail u.val i.val < s.qSlots u.val i.val) ∧
                (s.fillBit ring (s.qSlots u.val i.val) p.seq = false)) ∧
    (∃ (s : State) (u : Fin 1153) (i : Fin 1024) (p : _) (rest : _), (s.mesh.msgIn.at u.val = p :: rest) ∧
                (msgQueue p = i.val) ∧
                (s.get (qr u.val (Reg.Q_CTRL_EN u.val)) = 0 ∨ s.qMode u.val i.val ≠ 1 ∨ s.qRing u.val i.val = none)) ∧
    (∃ (s : State) (u : Fin 1153) (i : Fin 1024) (p : _) (rest : _) (ring : _), (s.mesh.msgIn.at u.val = p :: rest) ∧
                (msgQueue p = i.val) ∧ (s.get (qr u.val (Reg.Q_CTRL_EN u.val)) = 1) ∧ (s.qMode u.val i.val = 1) ∧
                (s.qRing u.val i.val = some ring) ∧ (msgEpoch p ≠ s.qEpoch u.val i.val)) := by
  refine ⟨?_, ?_, ?_, ?_, ?_, ?_, ?_, ?_, ?_, ?_, ?_, ?_, ?_, ?_, ?_, ?_, ?_, ?_⟩
  · exact (let s : State := R [(qf 1152 1023 2 4, 1), (qf 1152 1023 6 2, 2)]; let u : Fin 1153 := 1152;
              let i : Fin 1024 := 1023;  ⟨s, u, i, by (decide +kernel +zetaReduce)⟩)
  · exact (let s : State := R [(qf 1152 1023 0 2, 1), (qf 1152 1023 2 4, 1), (qf 1152 1023 6 2, 2)] { r0 with clearing := [(1152, 1023)] };
              let u : Fin 1153 := 1152; let i : Fin 1024 := 1023;  ⟨s, u, i, by (decide +kernel +zetaReduce)⟩)
  · exact (let s : State := R [(qf 1152 1023 0 2, 1)]; let u : Fin 1153 := 1152; let i : Fin 1024 := 1023;
               ⟨s, u, i, by (decide +kernel +zetaReduce)⟩)
  · exact (let s : State := R [(qf 1152 1023 0 2, 1)]; let u : Fin 1153 := 1152; let i : Fin 1024 := 1023;
               ⟨s, u, i, by (decide +kernel +zetaReduce)⟩)
  · exact (let s : State := R [(qf 1152 1023 0 2, 2)]; let u : Fin 1153 := 1152; let i : Fin 1024 := 1023;
               ⟨s, u, i, by (decide +kernel +zetaReduce)⟩)
  · exact (let s : State := r0; let u : Fin 1153 := 1152; let i : Fin 1024 := 1023;
               ⟨s, u, i, by (decide +kernel +zetaReduce)⟩)
  · exact (let s : State := R [(qf 1152 1023 0 2, 2), (qf 1152 1023 96 2, 1), (qf 1152 1023 88 8, 9), (qf 1152 1023 98 12, 5)];
              let u : Fin 1153 := 1152; let i : Fin 1024 := 1023;  ⟨s, u, i, by (decide +kernel +zetaReduce)⟩)
  · exact (let s : State := R [(qf 1151 1023 0 2, 2), (qf 1151 1023 52 1, 1), (qf 1151 1023 97 1, 1), (qf 1151 1023 64 12, 1)];
              let u : Fin 1153 := 1151; let i : Fin 1024 := 1023;  ⟨s, u, i, by (decide +kernel +zetaReduce)⟩)
  · exact (let s : State := R [(qf 1152 1023 0 2, 2), (qf 1152 1023 52 1, 1), (qf 1152 1023 97 1, 1), (qf 1152 1023 64 12, 2048)] (onM (fun m => { m with ctrlIn := [(1152, [Pip.make 0 false 1152 5 0 0 0 3 (0x400 + 0 * 2^16 + 9 * 2^40)])] }));
              let u : Fin 1153 := 1152; let y := (s.takeCtrl 1152 3).getD (noPip, s); let p := y.1; let s₁ := y.2;
              let j := (s₁.endpointOf 1152 (p.b 0 16) (p.b 16 16)).getD 9999;
               ⟨s, u, p, s₁, j, by (decide +kernel +zetaReduce)⟩)
  · exact (let s : State := R [(qf 1152 1023 0 2, 2), (qf 1152 1023 52 1, 1), (qf 1152 1023 97 1, 1), (qf 1152 1023 64 12, 2048)] (onM (fun m => { m with ctrlIn := [(1152, [Pip.make 0 false 1152 5 0 0 0 4 (0x400 + 0 * 2^16 + 127 * 2^32)])] }));
              let u : Fin 1153 := 1152; let y := (s.takeCtrl 1152 4).getD (noPip, s); let p := y.1; let s₁ := y.2;
              let j := (s₁.endpointOf 1152 (p.b 0 16) (p.b 16 16)).getD 9999;
               ⟨s, u, p, s₁, j, by (decide +kernel +zetaReduce)⟩)
  · exact (let s : State := R [(qf 1152 1023 0 2, 1), (qf 1152 1023 120 1, 1), (qf 1152 1023 96 12, 2048)];
              let u : Fin 1153 := 1152; let i : Fin 1024 := 1023; let n : Fin 4096 := 2048;
               ⟨s, u, i, n, by (decide +kernel +zetaReduce)⟩)
  · exact (let s : State := { r0 with creditDue := [(1152, 1023)] }; let u : Fin 1153 := 1152; let i : Fin 1024 := 1023;
               ⟨s, u, i, by (decide +kernel +zetaReduce)⟩)
  · exact (let s : State := R [(qr 1152 (Reg.Q_CTRL_GAP_SCAN 1152), 1), (qf 1152 1023 0 2, 1), (qf 1152 1023 120 1, 1), (qf 1152 1023 123 1, 1)] { r0 with oooSeen := [(1024 * 1152 + 1023, 1)] };
              let u : Fin 1153 := 1152; let i : Fin 1024 := 1023;  ⟨s, u, i, by (decide +kernel +zetaReduce)⟩)
  · exact (let s : State := R [(qf 1152 1023 0 2, 2), (qf 1152 1023 52 1, 1), (qf 1152 1023 97 1, 1), (qf 1152 1023 64 12, 1)];
              let u : Fin 1153 := 1152; let i : Fin 1024 := 1023;  ⟨s, u, i, by (decide +kernel +zetaReduce)⟩)
  · exact (let s : State := R [(qr 1151 (Reg.Q_CTRL_EN 1151), 1), (qf 1151 1023 0 2, 1), (qf 1151 1023 2 4, 11), (qf 1151 1023 24 8, 255), (qf 1151 1023 64 11, 0x400), (qf 1151 1023 96 12, 2047), (qf 1151 1023 108 12, 4095)] (onM (fun m => { m with msgIn := [(1151, [Pip.make 2 false 1151 1152 0 0 2046 1 (0xABCD + 1023 * 2^128 + 255 * 2^144)])] }));
              let u : Fin 1153 := 1151; let i : Fin 1024 := 1023;
              let p := Pip.make 2 false 1151 1152 0 0 2046 1 (0xABCD + 1023 * 2^128 + 255 * 2^144);
              let rest := ([] : List Pip); let ring := (s.qRing 1151 1023).getD 0;
               ⟨s, u, i, p, rest, ring, by (decide +kernel +zetaReduce)⟩)
  · exact (let s : State := R [(qr 1151 (Reg.Q_CTRL_EN 1151), 1), (qf 1151 1023 0 2, 1), (qf 1151 1023 2 4, 11), (qf 1151 1023 24 8, 255), (qf 1151 1023 64 11, 0x400), (qf 1151 1023 96 12, 0), (qf 1151 1023 108 12, 4095)] (onM (fun m => { m with msgIn := [(1151, [Pip.make 2 false 1151 1152 0 0 2046 1 (0xABCD + 1023 * 2^128 + 255 * 2^144)])] }));
              let u : Fin 1153 := 1151; let i : Fin 1024 := 1023;
              let p := Pip.make 2 false 1151 1152 0 0 2046 1 (0xABCD + 1023 * 2^128 + 255 * 2^144);
              let rest := ([] : List Pip); let ring := (s.qRing 1151 1023).getD 0;
               ⟨s, u, i, p, rest, ring, by (decide +kernel +zetaReduce)⟩)
  · exact (let s : State := R [(qr 1151 (Reg.Q_CTRL_EN 1151), 0), (qf 1151 1023 0 2, 1), (qf 1151 1023 2 4, 11), (qf 1151 1023 24 8, 255), (qf 1151 1023 64 11, 0x400), (qf 1151 1023 96 12, 0), (qf 1151 1023 108 12, 4095)] (onM (fun m => { m with msgIn := [(1151, [Pip.make 2 false 1151 1152 0 0 2046 1 (0xABCD + 1023 * 2^128 + 255 * 2^144)])] }));
              let u : Fin 1153 := 1151; let i : Fin 1024 := 1023;
              let p := Pip.make 2 false 1151 1152 0 0 2046 1 (0xABCD + 1023 * 2^128 + 255 * 2^144);
              let rest := ([] : List Pip);  ⟨s, u, i, p, rest, by (decide +kernel +zetaReduce)⟩)
  · exact (let s : State := R [(qr 1151 (Reg.Q_CTRL_EN 1151), 1), (qf 1151 1023 0 2, 1), (qf 1151 1023 2 4, 11), (qf 1151 1023 24 8, 255), (qf 1151 1023 64 11, 0x400), (qf 1151 1023 96 12, 0), (qf 1151 1023 108 12, 4095)] (onM (fun m => { m with msgIn := [(1151, [Pip.make 2 false 1151 1152 0 0 2046 1 (0xABCD + 1023 * 2^128 + 254 * 2^144)])] }));
              let u : Fin 1153 := 1151; let i : Fin 1024 := 1023;
              let p := Pip.make 2 false 1151 1152 0 0 2046 1 (0xABCD + 1023 * 2^128 + 254 * 2^144);
              let rest := ([] : List Pip); let ring := (s.qRing 1151 1023).getD 0;
               ⟨s, u, i, p, rest, ring, by (decide +kernel +zetaReduce)⟩)

theorem witness_RemapCommandsComplete :
    (∃ (s : State) (l : Fin 1024) (t : Nat) (sp : Nat) (x : Nat) (stamp : Nat), (s.fault.remap = none) ∧
                (s.mgrLtt l.val = some t) ∧ (s.switching = false) ∧
                (((s.put Reg.FLT_REMAP_CTRL_LTILE l.val).fence t 1).spareFor t = some sp) ∧
                (((s.put Reg.FLT_REMAP_CTRL_LTILE l.val).fence t 1).sliceFor l.val = some (x, stamp))) ∧
    (∃ (s : State) (t : Nat) (b : Nat) (k : Nat) (r : _), (s.fault.remap = none) ∧
                (s.fault.waiting = (t, b, k, false) :: r) ∧ (s.switching = false) ∧ (s.isLogical t = true) ∧
                (s.standby ≠ 2)) ∧
    (∃ (s : State) (m : Remap), (s.fault.remap = some m) ∧ (m.phase = 4) ∧ (s.fault.retired.contains m.spare = false)) ∧
    (∃ (s : State) (m : Remap) (u : State), (s.fault.remap = some m) ∧ (m.phase = 5) ∧ (s.phase ≠ 3) ∧
                (s.fault.retired.contains m.spare = false) ∧ (s.switchOver m = some u) ∧ (u.phase ≠ 2 ∨ u.clock.policy = 2)) := by
  refine ⟨?_, ?_, ?_, ?_⟩
  · exact (let s : State := ((up 0 0 (lup 0 1)).rawBytes (r0.ckptArea 0 1) [5, 0, 0, 0, 0, 0, 0, 0, 0, 0, 1]) |> R [(⟨Reg.SEN_LTT 0 + 4 * (0x401 / 2), 16, 16⟩, 0x8001), (Reg.EVM_LINK_UP 1, 15)];
              let l : Fin 1024 := 0; let t : Nat := 0; let sp : Nat := 1; let x : Nat := 0; let stamp : Nat := 5;
               ⟨s, l, t, sp, x, stamp, by (decide +kernel +zetaReduce)⟩)
  · exact (let s : State := up 1151 0 { r0 with fault := { Faults.none with waiting := [(1151, 5, 7, false)] } };
              let t : Nat := 1151; let b : Nat := 5; let k : Nat := 7; let r := [];
               ⟨s, t, b, k, r, by (decide +kernel +zetaReduce)⟩)
  · exact (let s : State := { r0 with fault := { Faults.none with remap := some ⟨4, 0, 1151, 1150, 5, 1, 0, 0⟩ } };
              let m : Remap := ⟨4, 0, 1151, 1150, 5, 1, 0, 0⟩;  ⟨s, m, by (decide +kernel +zetaReduce)⟩)
  · exact ⟨swState, ⟨5, 0, 1151, 1150, 5, 1, 0, 0⟩, (swState.switchOver ⟨5, 0, 1151, 1150, 5, 1, 0, 0⟩).getD swState, rfl, rfl,
      by decide +kernel, by decide +kernel, some_getD _ _ (by decide +kernel), .inr swState_policy⟩

theorem witness_SecurityCommandsComplete :
    (∃ (s : State), (s.securityOn = true)) ∧
    (∃ (s : State), (s.wiping = true)) ∧
    (∃ (s : State), (s.wiping = false)) ∧
    (∃ (s : State), (s.wiping = false) ∧ (s.get Reg.SEC_HUSK_STAT_SEAL_PEND = 1) ∧ (s.sec.sealedAt = 0)) ∧
    (∃ (s : State) (role : Fin 4), (role.val ≠ 0) ∧ (s.wiping = false)) ∧
    (∃ (s : State) (slot : Fin 8) (role : Fin 4) (x : Nat × Nat × List Byte × Nat) (key : List Byte), (role.val ≠ 0) ∧
                (s.wiping = false) ∧ (s.get (Reg.SEC_LOCK_LOCKED (role.val - 1)) = 0) ∧
                ((s.sec.challenges.find? fun y => y.1 = slot.val && y.2.1 = role.val) = some x) ∧
                (s.now ≤ x.2.2.2 + 12000000000) ∧ (s.roleKey role.val = some key)) ∧
    (∃ (s : State) (slot : Fin 9), ((s.sec.challenges.any fun y => y.1 = slot.val) = true)) ∧
    (∃ (s : State) (slot : Fin 8), (s.get (Reg.SEC_SESS_VALID slot.val) = 1)) ∧
    (∃ (s : State) (slot : Fin 8), (s.get (Reg.SEC_SESS_VALID slot.val) = 1) ∧ (s.sec.heard.at slot.val ≠ 0)) ∧
    (∃ (s : State) (role : Fin 4), (role.val ≠ 0) ∧ ((s.sec.locks.any fun x => x.1 = role.val) = true)) ∧
    (∃ (s : State), (s.wiping = false)) ∧
    (∃ (s : State) (slot : Fin 8) (e : Export), (2 ≤ s.slotRole slot.val) ∧
                ((s.sec.exports.find? fun x => x.slot = slot.val) = some e) ∧
                (s.sec.appended - s.get Reg.SEC_AUDIT_STAT_HELD ≤ e.first)) := by
  refine ⟨?_, ?_, ?_, ?_, ?_, ?_, ?_, ?_, ?_, ?_, ?_, ?_⟩
  · exact (let s : State := { r0 with sec := { Security.empty with mark := false, keys := [(1, [1])], challenges := [(0,1,[1],2)], appended := 5 } };
               ⟨s, by (decide +kernel +zetaReduce)⟩)
  · exact (let s : State := R [(Reg.SEC_HUSK_STAT_WIPING, 1)] { r0 with sec := { Security.empty with mark := true, tamper := [1] } };
               ⟨s, by (decide +kernel +zetaReduce)⟩)
  · exact (let s : State := R [(Reg.SEC_HUSK_STAT_SEAL_PEND, 1)];  ⟨s, by (decide +kernel +zetaReduce)⟩)
  · exact (let s : State := R [(Reg.SEC_HUSK_STAT_SEAL_PEND, 1)];  ⟨s, by (decide +kernel +zetaReduce)⟩)
  · exact (let s : State := r0; let role : Fin 4 := 3;  ⟨s, role, by (decide +kernel +zetaReduce)⟩)
  · exact (let s : State := { r0 with sec := { Security.empty with challenges := [(7, 3, [1, 2], 5)] } };
              let slot : Fin 8 := 7; let role : Fin 4 := 3; let x : Nat × Nat × List Byte × Nat := (7, 3, [1, 2], 5);
              let key : List Byte := Config.makerKey;
               ⟨s, slot, role, x, key, by (refine ⟨?_, ?_, ?_, ?_, ?_, ?_⟩ <;> first | rfl | decide +kernel +zetaReduce)⟩)
  · exact (let s : State := { r0 with sec := { Security.empty with challenges := [(8, 3, [1, 2], 5)] } };
              let slot : Fin 9 := 8;  ⟨s, slot, by (decide +kernel +zetaReduce)⟩)
  · exact (let s : State := slot7 2; let slot : Fin 8 := 7;  ⟨s, slot, by (decide +kernel +zetaReduce)⟩)
  · exact (let s : State := { (slot7 2) with sec := { Security.empty with heard := Nums.put [] 7 9 } };
              let slot : Fin 8 := 7;  ⟨s, slot, by (decide +kernel +zetaReduce)⟩)
  · exact (let s : State := { r0 with sec := { Security.empty with locks := [(3, 5, 6)] } }; let role : Fin 4 := 3;
               ⟨s, role, by (decide +kernel +zetaReduce)⟩)
  · exact (let s : State := r0;  ⟨s, by (decide +kernel +zetaReduce)⟩)
  · exact (let s : State := { (slot7 2) with sec := { Security.empty with exports := [⟨7, 0, 1, 0, List.replicate 16 0, List.replicate 32 1⟩], appended := 1 } } |> R [(Reg.SEC_AUDIT_STAT_HELD, 1)];
              let slot : Fin 8 := 7; let e : Export := s.sec.exports.head?.getD ⟨0,0,0,0,[],[]⟩;
               ⟨s, slot, e, by (decide +kernel +zetaReduce)⟩)

theorem witness_SensorLinkCommandsComplete :
    (∃ (s : State) (k : Fin 16) (seq : Fin 256) (words : List Word) (room : Fin 65), (s.selState k.val = 3) ∧
                (s.flag Reg.DBG_INJ_STAT_ARMED = false) ∧ (s.hub.selHeld = []) ∧
                (seq.val = s.get (Reg.SEN_SEL_STATUS_RXSEQ k.val)) ∧ (words.length ≤ room.val)) ∧
    (∃ (s : State) (k : Fin 16) (seq : Fin 256) (inv : Fin 256) (i : _), (s.selState k.val = 3) ∧
                (seq.val + inv.val = 255) ∧ ((s.selPort k.val).out.findIdx? (fun f => f.1 = seq.val) = some i) ∧ (i < 8)) ∧
    (∃ (s : State) (k : Fin 16) (seq : Fin 256) (inv : Fin 256), (s.selState k.val = 3) ∧ (seq.val + inv.val = 255)) ∧
    (∃ (s : State) (k : Fin 16) (seq : Fin 256) (inv : Fin 256) (reason : Fin 256), (s.selState k.val = 3) ∧
                (seq.val + inv.val = 255) ∧ (reason.val = 1 ∨ reason.val = 3) ∧ (selFrom (s.selPort k.val) seq.val ≠ []) ∧
                ((s.selPort k.val).tries < 16)) ∧
    (∃ (s : State) (k : Fin 16) (seq : _), ((s.selPort k.val).busy = some seq) ∧ (selFrom (s.selPort k.val) seq ≠ [])) ∧
    (∃ (s : State) (k : Fin 16), (s.selState k.val = 3) ∧ ((s.selPort k.val).out ≠ []) ∧ ((s.selPort k.val).tries < 16)) ∧
    (∃ (s : State) (k : Fin 16), (s.selState k.val = 1) ∧ ((s.selPort k.val).idles = 7)) ∧
    (∃ (s : State) (k : Fin 16) (a : Fin 256) (b : Fin 256) (c : Fin 256) (d : Fin 256) (e : Fin 256) (sent : _), (s.selState k.val = 2) ∧
                (128 ≤ a.val) ∧ (e.val = ((Nat.xor 1 a.val).xor b.val).xor (c.val.xor d.val)) ∧
                (3 ≤ (s.selPort k.val).sets) ∧ (3 ≤ (s.selPort k.val).acks) ∧ (16 ≤ sent)) ∧
    (∃ (s : State) (k : Fin 16), (s.selState k.val = 1) ∧ ((s.selPort k.val).fails < 7)) ∧
    (∃ (s : State) (k : Fin 16), (s.selState k.val = 2) ∧ ((s.selPort k.val).fails = 7)) ∧
    (∃ (s : State) (k : Fin 16), (s.selState k.val = 3)) ∧
    (∃ (s : State) (k : Fin 16), (s.selState k.val = 3)) ∧
    (∃ (s : State) (k : Fin 16), (s.selState k.val = 0 ∨ s.selState k.val = 3)) ∧
    (∃ (s : State) (k : Fin 16), (s.flag (Reg.SEN_SEL_CTRL_WAKE_EN k.val) = true) ∧
                (s.selState k.val = 0 ∨ s.selState k.val = 5)) := by
  refine ⟨?_, ?_, ?_, ?_, ?_, ?_, ?_, ?_, ?_, ?_, ?_, ?_, ?_, ?_⟩
  · exact (let s : State := sel 3 SelPort.down; let k : Fin 16 := 15; let seq : Fin 256 := 0; let words : List Word := [7];
              let room : Fin 65 := 1;  ⟨s, k, seq, words, room, by (decide +kernel +zetaReduce)⟩)
  · exact (let s : State := sel 3 { SelPort.down with out := [(5, 3, []), (6, 3, [])], next := 7 }; let k : Fin 16 := 15;
              let seq : Fin 256 := 6; let inv : Fin 256 := 249; let i := 1;
               ⟨s, k, seq, inv, i, by (decide +kernel +zetaReduce)⟩)
  · exact (let s : State := sel 3 SelPort.down; let k : Fin 16 := 15; let seq : Fin 256 := 255; let inv : Fin 256 := 0;
               ⟨s, k, seq, inv, by (decide +kernel +zetaReduce)⟩)
  · exact (let s : State := sel 3 { SelPort.down with out := [(5, 3, []), (6, 3, [])], next := 7, tries := 15 };
              let k : Fin 16 := 15; let seq : Fin 256 := 5; let inv : Fin 256 := 250; let reason : Fin 256 := 3;
               ⟨s, k, seq, inv, reason, by (decide +kernel +zetaReduce)⟩)
  · exact (let s : State := sel 3 { SelPort.down with out := [(5, 3, []), (6, 3, [])], next := 7, busy := some 6 };
              let k : Fin 16 := 15; let seq := 6;  ⟨s, k, seq, by (decide +kernel +zetaReduce)⟩)
  · exact (let s : State := sel 3 { SelPort.down with out := [(5, 3, []), (6, 3, [])], next := 7, tries := 15 };
              let k : Fin 16 := 15;  ⟨s, k, by (decide +kernel +zetaReduce)⟩)
  · exact (let s : State := sel 1 { SelPort.down with idles := 7 }; let k : Fin 16 := 15;
               ⟨s, k, by (decide +kernel +zetaReduce)⟩)
  · exact (let s : State := sel 2 { SelPort.down with sets := 3, acks := 3 }; let k : Fin 16 := 15; let a : Fin 256 := 255;
              let b : Fin 256 := 3; let c : Fin 256 := 4; let d : Fin 256 := 5; let e : Fin 256 := 252; let sent := 16;
               ⟨s, k, a, b, c, d, e, sent, by (decide +kernel +zetaReduce)⟩)
  · exact (let s : State := sel 1 { SelPort.down with fails := 6 }; let k : Fin 16 := 15;
               ⟨s, k, by (decide +kernel +zetaReduce)⟩)
  · exact (let s : State := sel 2 { SelPort.down with fails := 7 }; let k : Fin 16 := 15;
               ⟨s, k, by (decide +kernel +zetaReduce)⟩)
  · exact (let s : State := sel 3 SelPort.down; let k : Fin 16 := 15;  ⟨s, k, by (decide +kernel +zetaReduce)⟩)
  · exact (let s : State := sel 3 SelPort.down; let k : Fin 16 := 15;  ⟨s, k, by (decide +kernel +zetaReduce)⟩)
  · exact (let s : State := sel 3 SelPort.down; let k : Fin 16 := 15;  ⟨s, k, by (decide +kernel +zetaReduce)⟩)
  · exact (let s : State := R [(Reg.SEN_SEL_CTRL_WAKE_EN 15, 1)] (sel 5 SelPort.down); let k : Fin 16 := 15;
               ⟨s, k, by (decide +kernel +zetaReduce)⟩)

theorem witness_StepClockCommandsComplete :
    (∃ (s : State), (s.inRun = true) ∧ (s.joined = false) ∧ (s.running = false) ∧ (s.phase ≠ 5) ∧
                (s.now + 1000 ≤ s.get64 Reg.STEP_FIRST_LO) ∧ (s.reserveOk = true) ∧ (s.get Reg.SEC_LC_STATE ≠ 0) ∧
                (s.get Reg.SEC_LC_STATE ≠ 3)) ∧
    (∃ (s : State), (s.joined = false) ∧ (s.running = true) ∧ (s.phase = 1 ∨ s.phase = 4)) ∧
    (∃ (s : State), (s.joined = false) ∧ (s.running = true) ∧ (s.phase ≠ 1) ∧ (s.phase ≠ 4) ∧ (s.phase ≠ 5)) ∧
    (∃ (s : State), (s.phase = 1 ∨ s.phase = 4) ∧ (s.clock.ready = true)) ∧
    (∃ (s : State), (s.phase = 2) ∧ (s.joined = false)) ∧
    (∃ (s : State), (s.phase = 2) ∧ (s.clock.policy = 0) ∧ (s.joined = false)) ∧
    (∃ (s : State), (s.phase = 2) ∧ (s.clock.policy = 1) ∧ (s.joined = false)) ∧
    (∃ (s : State), (s.phase = 2 ∨ s.phase = 3) ∧ (s.clock.policy = 2) ∧ (s.flag Reg.STEP_CTRL_WD_EN = true)) ∧
    (∃ (s : State), (s.phase = 3) ∧ (s.updatesDone = true)) ∧
    (∃ (s : State), (s.joined = false) ∧ (s.running = true) ∧ (s.phase = 5)) := by
  refine ⟨?_, ?_, ?_, ?_, ?_, ?_, ?_, ?_, ?_, ?_⟩
  · exact (let s : State := (R [(Reg.SEC_LC_STATE, 2)] { r0 with start := { Start.none with stage := 5 } }).put64 Reg.STEP_FIRST_LO 1000;
               ⟨s, by (decide +kernel +zetaReduce)⟩)
  · exact (let s : State := R [(Reg.STEP_CTRL_RUN, 1), (Reg.STEP_STATUS_PHASE, 4)];  ⟨s, by (decide +kernel +zetaReduce)⟩)
  · exact (let s : State := R [(Reg.STEP_CTRL_RUN, 1), (Reg.STEP_STATUS_PHASE, 3)];  ⟨s, by (decide +kernel +zetaReduce)⟩)
  · exact (let s : State := clk (fun c => { c with ready := true }) (R [(Reg.STEP_STATUS_PHASE, 4)]);
               ⟨s, by (decide +kernel +zetaReduce)⟩)
  · exact (let s : State := clk (fun c => { c with waves := 255 }) (R [(Reg.STEP_STATUS_PHASE, 2)]);
               ⟨s, by (decide +kernel +zetaReduce)⟩)
  · exact (let s : State := R [(Reg.STEP_STATUS_PHASE, 2)];  ⟨s, by (decide +kernel +zetaReduce)⟩)
  · exact (let s : State := clk (fun c => { c with policy := 1 }) (R [(Reg.STEP_STATUS_PHASE, 2)]);
               ⟨s, by (decide +kernel +zetaReduce)⟩)
  · exact (let s : State := clk (fun c => { c with policy := 2 }) (R [(Reg.STEP_STATUS_PHASE, 3), (Reg.STEP_CTRL_WD_EN, 1)]);
               ⟨s, by (decide +kernel +zetaReduce)⟩)
  · exact (let s : State := { R [(Reg.STEP_STATUS_PHASE, 3)] with launched := 2 ^ 64 - 1, delivery := { Delivery.empty with updated := List.range 1152 } };
               ⟨s, by (exact ⟨by decide +kernel, updAll_done⟩)⟩)
  · exact (let s : State := R [(Reg.STEP_CTRL_RUN, 1), (Reg.STEP_STATUS_PHASE, 5)];  ⟨s, by (decide +kernel +zetaReduce)⟩)

theorem witness_StreamCommandsComplete :
    (∃ (s : State) (r : Fin 1152), (s.get Reg.STEP_STATUS_PHASE ≠ 0) ∧ (s.get Reg.STEP_STATUS_PHASE ≠ 7) ∧
                (s.coreGated r.val = false)) ∧
    (∃ (s : State) (r : Fin 1152) (p : Fin 4) (b : _) (o : _) (k : _), (s.get Reg.STEP_STATUS_PHASE ≠ 0) ∧
                (s.get Reg.STEP_STATUS_PHASE ≠ 7) ∧ (s.coreGated r.val = false) ∧
                (s.streams.links.at (4 * r.val + p.val) = [b]) ∧ (b.tag ≤ s.streams.cycle.at r.val) ∧
                ((∀ q, q < 4 → q ≠ p.val → s.streams.links.at (4 * r.val + q) = [])) ∧
                ((∀ q, q < 4 → engineAt r.val q = none)) ∧
                (routeOf (s.slotEntry r.val (s.streams.cycle.at r.val % 1024)) 4 = 0) ∧
                (routeOf (s.slotEntry r.val (s.streams.cycle.at r.val % 1024)) p.val = o + 1) ∧ (o < 4) ∧
                (linkOut r.val o = some k) ∧ (s.scmUp r.val o = true) ∧ (isSeam r.val o = false ∨ s.split = false) ∧
                (s.flag (Reg.SCM_CTRL_EN r.val) = true) ∧ (s.flag Reg.DBG_INJ_STAT_ARMED = false)) ∧
    (∃ (s : State), (s.flag Reg.SCM_LD_STAT_BUSY = false)) ∧
    (∃ (s : State), (s.flag Reg.SCM_LD_STAT_BUSY = true)) ∧
    (∃ (s : State), (s.swapBarred = false) ∧ (s.running = true)) ∧
    (∃ (s : State), (s.swapBarred = false) ∧ (s.running = false)) ∧
    (∃ (s : State) (q : Fin 16) (d : _) (i : _) (b : _) (rest : _) (c : _), (s.streams.wrBuf.at q.val = (d, i, b) :: rest) ∧
                (s.copyOf q.val d = some c) ∧ (b.last = false) ∧ (s.engineReach q.val (s.writeBase c + 64 * i) = true)) ∧
    (∃ (s : State) (p : Fin 72), (s.flag (Reg.SCM_PI_STATUS_UNION_BUSY p.val) = true)) ∧
    (∃ (s : State) (q : Fin 16) (d : Fin 64) (a : _) (x : _) (c : _), (s.dramAt a = some x) ∧ (s.subRetired x.1 = false) ∧
                (s.poisoned a = false) ∧ (s.copyOf q.val d.val = some c) ∧
                ((s.streams.rdBuf.at (64 * q.val + d.val)).length < s.cd q.val d.val 80 11) ∧
                (s.get (Reg.STR_BUF_LEVEL_READ q.val) < 1024) ∧ (s.cdKind q.val d.val = 1) ∧
                (c.taken < s.cdLen q.val d.val) ∧ (a = s.cdAddr q.val d.val + c.taken) ∧ (x.1 = q.val)) := by
  refine ⟨?_, ?_, ?_, ?_, ?_, ?_, ?_, ?_, ?_⟩
  · exact (let s : State := R [(Reg.STEP_STATUS_PHASE, 2)] (onStr (fun m => { m with cycle := Nums.put [] 1151 1023 }));
              let r : Fin 1152 := 1151;  ⟨s, r, by (decide +kernel +zetaReduce)⟩)
  · exact (let s : State := R [(Reg.STEP_STATUS_PHASE, 2), (Reg.SCM_STATUS_LINK_UP 1150, 15), (Reg.SCM_CTRL_EN 1150, 1)] (onStr (fun m => { m with cycle := [(1150, 1023)], active := [(1024 * 1150 + 1023, 2 * 8 ^ 3)], links := [(4 * 1150 + 3, [⟨77, false, true, false, false, 0, 1023⟩])] }));
              let r : Fin 1152 := 1150; let p : Fin 4 := 3; let b := (⟨77, false, true, false, false, 0, 1023⟩ : Beat);
              let o := 1; let k := 4 * 1151 + 3;  ⟨s, r, p, b, o, k, by (decide +kernel +zetaReduce)⟩)
  · exact (let s : State := r0;  ⟨s, by (decide +kernel +zetaReduce)⟩)
  · exact (let s : State := R [(Reg.SCM_LD_STAT_BUSY, 1)];  ⟨s, by (decide +kernel +zetaReduce)⟩)
  · exact (let s : State := R [(Reg.STEP_CTRL_RUN, 1)];  ⟨s, by (decide +kernel +zetaReduce)⟩)
  · exact (let s : State := r0;  ⟨s, by (decide +kernel +zetaReduce)⟩)
  · exact (let s : State := R [(⟨Reg.STR_DESC0 0 63 + 20, 0, 8⟩, 0x10)] (dram (onStr (fun m => { m with wrBuf := [(0, [(63, 2, ⟨77, false, true, false, false, 0, 0⟩)])], copies := [⟨0, 63, 5, 0, 0, 0⟩] })));
              let q : Fin 16 := 0; let d := 63; let i := 2; let b := (⟨77, false, true, false, false, 0, 0⟩ : Beat);
              let rest := []; let c := (⟨0, 63, 5, 0, 0, 0⟩ : Copy);
               ⟨s, q, d, i, b, rest, c, by (decide +kernel +zetaReduce)⟩)
  · exact (let s : State := R [(Reg.SCM_PI_STATUS_UNION_BUSY 71, 1)]; let p : Fin 72 := 71;
               ⟨s, p, by (decide +kernel +zetaReduce)⟩)
  · exact (let s : State := R [(⟨Reg.STR_DESC0 0 63, 1, 3⟩, 1), (⟨Reg.STR_DESC0 0 63 + 8, 16, 11⟩, 1), (⟨Reg.STR_DESC0 0 63 + 20, 0, 8⟩, 0x10), (⟨Reg.STR_DESC0 0 63 + 24, 0, 32⟩, 64)] (dram (onStr (fun m => { m with copies := [⟨0, 63, 5, 0, 0, 0⟩] })));
              let q : Fin 16 := 0; let d : Fin 64 := 63; let a := 0x1000000000;
              let x := (s.dramAt 0x1000000000).getD (99, 99); let c := (⟨0, 63, 5, 0, 0, 0⟩ : Copy);
               ⟨s, q, d, a, x, c, by (decide +kernel +zetaReduce)⟩)

theorem witness_TierlinkCommandsComplete :
    (∃ (s : State) (n : Fin 8) (f : List Byte), (flitCrc f = flitLe f 30 2) ∧ (flitByte f 0 = 4) ∧ (s.tlkState n.val = 2)) ∧
    (∃ (s : State) (n : Fin 8) (h : List Byte) (flits : List (List Byte)), (s.tlkState n.val = 4) ∧
                (s.get Reg.DBG_INJ_STAT_ARMED = 0) ∧ ((s.tlkPort n.val).heldBack = none) ∧
                (flitLe h 4 4 = packetCrc h flits) ∧ (flitCrc h = flitLe h 30 2) ∧ (flitByte h 1 / 16 = flits.length) ∧
                (flitByte h 1 % 16 ≠ 1) ∧ (flitByte h 1 % 16 ≠ 2) ∧
                (flitLe h 2 2 % 4096 = s.get ⟨Reg.TLK_SEQ n.val, 16, 12⟩)) ∧
    (∃ (s : State) (n : Fin 8), ((s.tlkPort n.val).waiting = [])) ∧
    (∃ (s : State) (n : Fin 8) (q : Fin 4096), ((s.tlkPort n.val).waiting = []) ∧ ((s.tlkPort n.val).resends < 7) ∧
                (((s.tlkPort n.val).replay.filter fun p => !(((q.val + 4095) % 4096 + 4096 - p.seq) % 4096 < 2048)) ≠ [])) ∧
    (∃ (s : State) (n : Fin 8), ((s.tlkPort n.val).replay ≠ []) ∧ ((s.tlkPort n.val).resends < 7)) ∧
    (∃ (s : State) (n : Fin 8), ((s.tlkPort n.val).waiting = [])) ∧
    (∃ (s : State) (n : Fin 8) (p : _) (r : _), (s.mesh.tlkMsg.at n.val = []) ∧ (s.mesh.tlkTx.at n.val = p :: r) ∧
                (s.tlkReady n.val 1 1 = true)) ∧
    (∃ (s : State) (n : Fin 8) (f : List Byte), (s.tlkState n.val = 3) ∧ (s.tsGood n.val f = true) ∧
                ((s.tlkPort n.val).ts + 1 < 8)) ∧
    (∃ (s : State) (n : Fin 8), (1 ≤ s.tlkState n.val) ∧ (s.tlkState n.val ≤ 3) ∧ ((s.tlkPort n.val).fails + 1 < 8)) ∧
    (∃ (s : State) (n : Fin 8), (1 ≤ s.tlkState n.val) ∧ (s.tlkState n.val ≤ 3) ∧ (8 ≤ (s.tlkPort n.val).fails + 1)) ∧
    (∃ (s : State) (n : Fin 8) (c : Instr), (c = .tlkMarkLoss n ∨ c = .tlkRetrain n ∨ c = .syncHeaderErrors n) ∧
                (s.tlkState n.val = 4)) ∧
    (∃ (s : State) (n : Fin 8), (s.role ≠ 0) ∧ (s.tlkState n.val = 0)) ∧
    (∃ (s : State) (n : Fin 8), (s.tlkState n.val = 4)) ∧
    (∃ (s : State) (n : Fin 8), (s.role ≠ 0) ∧ (s.get (Reg.TLK_CTRL_WAKE_EN n.val) = 1) ∧
                (s.tlkState n.val = 0 ∨ s.tlkState n.val = 6)) ∧
    (∃ (s : State) (n : Fin 8), (s.tlkState n.val = 1) ∧ (s.get (Reg.TLK_CTRL_LANE_MASK n.val) = 15)) ∧
    (∃ (s : State) (n : Fin 8), (s.tlkState n.val = 1) ∧ (s.get (Reg.TLK_CTRL_LANE_MASK n.val) = 15)) := by
  refine ⟨?_, ?_, ?_, ?_, ?_, ?_, ?_, ?_, ?_, ?_, ?_, ?_, ?_, ?_, ?_, ?_⟩
  · exact (let s : State := tl 2 TlkPort.down; let n : Fin 8 := 7; let f : List Byte := controlFlit [4];
               ⟨s, n, f, by (decide +kernel +zetaReduce)⟩)
  · exact (let s : State := tl 4 TlkPort.down; let n : Fin 8 := 7; let flits : List (List Byte) := [fl [1, 2], fl [3]];
              let h : List Byte := (let b : List Byte := [1, 0x23, 0, 0];
              let c := leBytes 4 (packetCrc (controlFlit b) [fl [1, 2], fl [3]]); controlFlit (b ++ c));
               ⟨s, n, h, flits, by (decide +kernel +zetaReduce)⟩)
  · exact (let s : State := tl 4 { TlkPort.down with replay := [⟨4095, 1, [fl [1]]⟩, ⟨0, 1, [fl [2]]⟩] };
              let n : Fin 8 := 7;  ⟨s, n, by (decide +kernel +zetaReduce)⟩)
  · exact (let s : State := tl 4 { TlkPort.down with replay := [⟨4095, 1, [fl [1]]⟩, ⟨0, 1, [fl [2]]⟩], resends := 6 };
              let n : Fin 8 := 7; let q : Fin 4096 := 0;  ⟨s, n, q, by (decide +kernel +zetaReduce)⟩)
  · exact (let s : State := tl 4 { TlkPort.down with replay := [⟨4095, 1, [fl [1]]⟩, ⟨0, 1, [fl [2]]⟩], resends := 6 };
              let n : Fin 8 := 7;  ⟨s, n, by (decide +kernel +zetaReduce)⟩)
  · exact (let s : State := tl 4 TlkPort.down; let n : Fin 8 := 7;  ⟨s, n, by (decide +kernel +zetaReduce)⟩)
  · exact (let s : State := onM (fun m => { m with tlkTx := [(7, [Pip.make 1 false 5 6 0 0 0 1 77])] }) (tl 4 { TlkPort.down with sizes := [(1, 1)] });
              let n : Fin 8 := 7; let p := Pip.make 1 false 5 6 0 0 0 1 77; let r := [];
               ⟨s, n, p, r, by (decide +kernel +zetaReduce)⟩)
  · exact (let s : State := R [(Reg.TLK_HIER_CTRL_ROLE, 1)] (tl 3 { TlkPort.down with ts := 6 }); let n : Fin 8 := 7;
              let f : List Byte := controlFlit [5, 1, 0, 0, 1, 2, 3];  ⟨s, n, f, by (decide +kernel +zetaReduce)⟩)
  · exact (let s : State := tl 3 { TlkPort.down with fails := 6 }; let n : Fin 8 := 7;
               ⟨s, n, by (decide +kernel +zetaReduce)⟩)
  · exact (let s : State := tl 3 { TlkPort.down with fails := 7 }; let n : Fin 8 := 7;
               ⟨s, n, by (decide +kernel +zetaReduce)⟩)
  · exact (let s : State := tl 4 TlkPort.down; let n : Fin 8 := 7; let c : Instr := .syncHeaderErrors 7;
               ⟨s, n, c, by (exact ⟨.inr (.inr rfl), by decide +kernel⟩)⟩)
  · exact (let s : State := R [(Reg.TLK_HIER_CTRL_ROLE, 1)]; let n : Fin 8 := 7;  ⟨s, n, by (decide +kernel +zetaReduce)⟩)
  · exact (let s : State := tl 4 TlkPort.down; let n : Fin 8 := 7;  ⟨s, n, by (decide +kernel +zetaReduce)⟩)
  · exact (let s : State := R [(Reg.TLK_CTRL_WAKE_EN 7, 1), (Reg.TLK_HIER_CTRL_ROLE, 2)] (tl 6 TlkPort.down);
              let n : Fin 8 := 7;  ⟨s, n, by (decide +kernel +zetaReduce)⟩)
  · exact (let s : State := R [(Reg.TLK_CTRL_LANE_MASK 7, 15)] (tl 1 TlkPort.down); let n : Fin 8 := 7;
               ⟨s, n, by (decide +kernel +zetaReduce)⟩)
  · exact (let s : State := R [(Reg.TLK_CTRL_LANE_MASK 7, 15)] (tl 1 TlkPort.down); let n : Fin 8 := 7;
               ⟨s, n, by (decide +kernel +zetaReduce)⟩)

theorem witness_TileFirmwareCommandsComplete :
    (∃ (s : State) (n : Fin 1152) (p : Pip) (u : State) (c : List Byte), (s.takeCtrl n.val 8 = some (p, u)) ∧
                (c = leBytes 24 p.pay.toNat) ∧ (s.get (Reg.Q_FW_CTRL_EN n.val) = 1) ∧
                (crc 32 0x04C11DB7 0xFFFFFFFF 0xFFFFFFFF true ((c.take 20).map (·.toNat)) = ofLe ((c.drop 20).take 4)) ∧
                (ofLe ((c.drop 16).take 2) / 4096 = 1)) ∧
    (∃ (s : State) (n : Fin 1152) (p : Pip) (u : State) (c : List Byte) (k : Nat) (h : Nat × Nat × Nat × Nat), (s.takeCtrl n.val 8 = some (p, u)) ∧
                (c = leBytes 24 p.pay.toNat) ∧ (k = ofLe ((c.drop 16).take 2) % 1024) ∧
                (s.get (Reg.Q_FW_CTRL_EN n.val) = 1) ∧
                (crc 32 0x04C11DB7 0xFFFFFFFF 0xFFFFFFFF true ((c.take 20).map (·.toNat)) = ofLe ((c.drop 20).take 4)) ∧
                (ofLe ((c.drop 16).take 2) / 4096 ≠ 1) ∧ (s.fwHeader n.val = some h) ∧
                (s.get (Reg.Q_FW_STAT_HDR n.val) = 1) ∧ (s.get (Reg.Q_FW_STAT_GEN n.val) = (c.getD 18 0).toNat) ∧
                (k < h.1) ∧ (s.get ⟨Reg.Q_FW_BITMAP n.val (k / 32), k % 32, 1⟩ = 0)) ∧
    (∃ (s : State) (n : Fin 1152) (m : Nat), (s.fwReports n.val = [m]) ∧ (s.qMode n.val 1023 = 2) ∧
                (s.bridged n.val 1023 = none) ∧ (s.qget n.val 1023 52 1 = 1) ∧ (s.qget n.val 1023 96 1 = 0) ∧
                (s.qget n.val 1023 97 1 = 1) ∧ (s.qget n.val 1023 64 12 ≠ 0) ∧ ((s.mesh.msgs.at n.val).length < 16)) ∧
    (∃ (s : State) (n : Fin 1152), (s.get (Reg.Q_FW_STAT_MATCH n.val) = 1) ∧ (s.start.stage ≠ 4)) ∧
    (∃ (s : State) (n : Fin 1153) (p : _) (rest : _), (s.mesh.msgIn.at n.val = p :: rest)) ∧
    (∃ (s : State) (port : Fin 8) (x : _) (f : List Byte), (s.tlkIn.find? (fun x => x.1 = port.val && x.2.1 = 4) = some x) ∧
                (x.2.2 = [f]) ∧ (s.start.stage ≠ 4) ∧ (ofLe ((f.drop 16).take 2) / 4096 ≠ 1)) ∧
    (∃ (s : State), (s.role = 2) ∧ (s.start.stage = 4) ∧ ((s.start.head.any fun h => s.start.chunks.length = h.1) = false)) ∧
    (∃ (s : State) (slot : Fin 8), (2 ≤ s.slotRole slot.val) ∧ (s.trial = false) ∧ (s.fw.update = 1 ∨ s.fw.update = 2)) ∧
    (∃ (s : State) (h : Fin 4), (s.fromPair (some h) = true) ∧ (s.get Reg.SEC_FW_STAT_PREV_VALID = 1)) ∧
    (∃ (s : State) (h : Fin 4), (s.fromPair (some h) = true) ∧ (s.get Reg.SEC_FW_STAT_STBY_RUN = 1)) ∧
    (∃ (s : State), (s.get Reg.SEC_FB_TIMER_ARMED = 1)) ∧
    (∃ (s : State) (time : Nat), (s.fw.loadedAt = some time)) := by
  refine ⟨?_, ?_, ?_, ?_, ?_, ?_, ?_, ?_, ?_, ?_, ?_, ?_⟩
  · exact (let s : State := R [(Reg.Q_FW_CTRL_EN 1151, 1)] (onM (fun m => { m with ctrlIn := [(1151, [chunk [3, 0, 0, 0, 1, 2, 3, 4, 5, 6, 7, 8, 9, 10, 11, 12, 0, 0x10, 200]])] }));
              let n : Fin 1152 := 1151; let y := (s.takeCtrl 1151 8).getD (noPip, s); let p : Pip := y.1;
              let u : State := y.2; let c : List Byte := leBytes 24 p.pay.toNat;
               ⟨s, n, p, u, c, by (decide +kernel +zetaReduce)⟩)
  · exact (let s : State := R [(Reg.Q_FW_CTRL_EN 1151, 1), (Reg.Q_FW_STAT_HDR 1151, 1), (Reg.Q_FW_STAT_GEN 1151, 200)] (onF (fun f => { f with headers := [(1151, 1024, 5, 6, 7)] }) (onM (fun m => { m with ctrlIn := [(1151, [chunk [3, 0, 0, 0, 1, 2, 3, 4, 5, 6, 7, 8, 9, 10, 11, 12, 0xFF, 3, 200]])] })));
              let n : Fin 1152 := 1151; let y := (s.takeCtrl 1151 8).getD (noPip, s); let p : Pip := y.1;
              let u : State := y.2; let c : List Byte := leBytes 24 p.pay.toNat; let k : Nat := 1023;
              let h : Nat × Nat × Nat × Nat := (1024, 5, 6, 7);  ⟨s, n, p, u, c, k, h, by (decide +kernel +zetaReduce)⟩)
  · exact (let s : State := R [(qf 1151 1023 0 2, 2), (qf 1151 1023 52 1, 1), (qf 1151 1023 97 1, 1), (qf 1151 1023 64 12, 1)];
              let n : Fin 1152 := 1151; let m : Nat := (s.fwReports 1151).headD 0;
               ⟨s, n, m, by (decide +kernel +zetaReduce)⟩)
  · exact (let s : State := R [(Reg.Q_FW_STAT_MATCH 1151, 1)]; let n : Fin 1152 := 1151;
               ⟨s, n, by (decide +kernel +zetaReduce)⟩)
  · exact (let s : State := onM (fun m => { m with msgIn := [(1152, [Pip.make 2 false 1152 5 0 0 0 0 77])] });
              let n : Fin 1153 := 1152; let p := Pip.make 2 false 1152 5 0 0 0 0 77; let rest := [];
               ⟨s, n, p, rest, by (decide +kernel +zetaReduce)⟩)
  · exact (let s : State := { r0 with tlkIn := [(7, 4, [fl [1, 2, 3]])] }; let port : Fin 8 := 7;
              let x := (7, 4, [fl [1, 2, 3]]); let f : List Byte := fl [1, 2, 3];
               ⟨s, port, x, f, by (decide +kernel +zetaReduce)⟩)
  · exact (let s : State := R [(Reg.TLK_HIER_CTRL_ROLE, 2)] { r0 with start := { Start.none with stage := 4, chunks := [(3, [])], gen := 255 } };
               ⟨s, by (decide +kernel +zetaReduce)⟩)
  · exact (let s : State := onF (fun f => { f with update := 2 }) (slot7 2); let slot : Fin 8 := 7;
               ⟨s, slot, by (decide +kernel +zetaReduce)⟩)
  · exact (let s : State := R [(Reg.SEC_FW_STAT_PREV_VALID, 1), (Reg.SEC_FW_STAT_PAIR, 1)]; let h : Fin 4 := 3;
               ⟨s, h, by (decide +kernel +zetaReduce)⟩)
  · exact (let s : State := R [(Reg.SEC_FW_STAT_STBY_RUN, 1)]; let h : Fin 4 := 1;  ⟨s, h, by (decide +kernel +zetaReduce)⟩)
  · exact (let s : State := R [(Reg.SEC_FB_TIMER_ARMED, 1)];  ⟨s, by (decide +kernel +zetaReduce)⟩)
  · exact (let s : State := onF (fun f => { f with loadedAt := some 5 }) (R [(Reg.SEC_FW_STAT_TRIAL, 1)]);
              let time : Nat := 5;  ⟨s, time, by (decide +kernel +zetaReduce)⟩)

theorem witness_TimebaseCommandsComplete :
    (∃ (s : State), (s.running = false)) ∧
    (∃ (s : State) (k : Int), (0 < s.signedReg Reg.TB_SLEW 16) ∧ (s.ticks ≤ k) ∧ (s.codeFree ≤ k) ∧
                ((∀ j, s.tbRate.slewAt = some j → j + 1024 ≤ k)) ∧
                (k = s.ticks ∨ s.codeFree = k ∨ s.tbRate.slewAt = some (k - 1024)) ∧ (0 ≤ k + s.tbRate.skew) ∧
                (k + s.tbRate.skew < 2 ^ 64)) ∧
    (∃ (s : State) (k : Int), (s.signedReg Reg.TB_SLEW 16 < 0) ∧ (s.ticks ≤ k) ∧ (s.codeFree ≤ k) ∧
                ((∀ j, s.tbRate.slewAt = some j → j + 1024 ≤ k)) ∧
                (k = s.ticks ∨ s.codeFree = k ∨ s.tbRate.slewAt = some (k - 1024)) ∧ (0 ≤ k + s.tbRate.skew) ∧
                (k + s.tbRate.skew < 2 ^ 64)) ∧
    (∃ (s : State) (k : Int), (0 < s.signedReg Reg.TB_RATE 32) ∧ (s.ticks ≤ k) ∧ (s.codeFree ≤ k) ∧
                (2 ^ 40 ≤ s.tbRate.acc + s.signedReg Reg.TB_RATE 32 * (k + 1 - s.tbRate.accAt)) ∧
                (k = s.ticks ∨ s.codeFree = k ∨ s.tbRate.acc + s.signedReg Reg.TB_RATE 32 * (k - s.tbRate.accAt) < 2 ^ 40) ∧
                (0 ≤ k + s.tbRate.skew) ∧ (k + s.tbRate.skew < 2 ^ 64)) ∧
    (∃ (s : State) (k : Int), (s.signedReg Reg.TB_RATE 32 < 0) ∧ (s.ticks ≤ k) ∧ (s.codeFree ≤ k) ∧
                (s.tbRate.acc + s.signedReg Reg.TB_RATE 32 * (k + 1 - s.tbRate.accAt) ≤ -(2 ^ 40)) ∧
                (k = s.ticks ∨ s.codeFree = k ∨ -(2 ^ 40) < s.tbRate.acc + s.signedReg Reg.TB_RATE 32 * (k - s.tbRate.accAt)) ∧
                (0 ≤ k + s.tbRate.skew) ∧ (k + s.tbRate.skew < 2 ^ 64)) ∧
    (∃ (s : State), (s.nextCompare < 2 ^ 64)) ∧
    (∃ (s : State) (n : Fin 1152), (s.flag (Reg.TB_CMP_CTRL_EN n.val) = true)) := by
  refine ⟨?_, ?_, ?_, ?_, ?_, ?_, ?_⟩
  · exact (let s : State := r0.put64 Reg.TB_SET_LO 0x123456789ABCDEF0;  ⟨s, by (decide +kernel +zetaReduce)⟩)
  · exact (let s : State := onRate (R [(⟨Reg.TB_SLEW,0,16⟩, 5)]) (fun r => { r with slewAt := some 3, codeAt := some 1010 });
              let k : Int := 1027;  ⟨s, k, by (decide +kernel +zetaReduce)⟩)
  · exact (let s : State := onRate (R [(⟨Reg.TB_SLEW,0,16⟩, 0xFFFE)]) (fun r => { r with slewAt := some 3, codeAt := some 1015 });
              let k : Int := 1031;  ⟨s, k, by (decide +kernel +zetaReduce)⟩)
  · exact (let s : State := onRate (R [(⟨Reg.TB_RATE,0,32⟩, 5)]) (fun r => { r with acc := 2 ^ 40 - 14 }); let k : Int := 2;
               ⟨s, k, by (decide +kernel +zetaReduce)⟩)
  · exact (let s : State := onRate (R [(⟨Reg.TB_RATE,0,32⟩, 0x80000000)]) (fun r => { r with acc := 2 ^ 31 - 2 ^ 40, codeAt := some 0 });
              let k : Int := 16;  ⟨s, k, by (decide +kernel +zetaReduce)⟩)
  · exact (let s : State := r0;  ⟨s, by (decide +kernel +zetaReduce)⟩)
  · exact (let s : State := (R [(Reg.TB_CMP_CTRL_EN 1151, 1)]).put64 (Reg.TB_CMP_LO 1151) 100; let n : Fin 1152 := 1151;
               ⟨s, n, by (decide +kernel +zetaReduce)⟩)

theorem witness_TimerCommandsComplete :
    (∃ (s : State) (n : Fin 16) (b : _), (s.capSource n.val b = 4)) ∧
    (∃ (s : State) (n : Fin 16) (b : _), (s.capSource n.val b ≠ 4)) ∧
    (∃ (s : State) (n : Fin 16) (b : Bool) (source : Fin 3), (s.capSource n.val b = source.val + 1) ∧
                ((source.val = 1 → 2 * n.val + (if b then 1 else 0) ∈ s.timers.caps))) ∧
    (∃ (s : State) (n : Fin 16) (b : Bool) (source : Fin 3), (s.capSource n.val b ≠ source.val + 1)) ∧
    (∃ (s : State) (n : Fin 16), (n.val ∈ s.timers.slaves) ∧ (s.get (Reg.TMR_TRIG_SLAVE n.val) = 1)) ∧
    (∃ (s : State) (n : Fin 16), (n.val ∈ s.timers.slaves) ∧ (s.get (Reg.TMR_TRIG_SLAVE n.val) = 2)) ∧
    (∃ (s : State) (n : Fin 16), (n.val ∈ s.timers.slaves) ∧ (s.get (Reg.TMR_TRIG_SLAVE n.val) = 3)) ∧
    (∃ (s : State) (n : Fin 16), (n.val ∈ s.timers.slaves) ∧ (s.get (Reg.TMR_TRIG_SLAVE n.val) = 4)) ∧
    (∃ (s : State) (n : Fin 16), (n.val ∈ s.timers.slaves) ∧ (s.get (Reg.TMR_TRIG_SLAVE n.val) = 5)) ∧
    (∃ (s : State) (n : Fin 16), (n.val ∉ s.timers.slaves)) ∧
    (∃ (s : State) (n : Fin 16), (s.get (Reg.TMR_CFG_SRC n.val) ≠ 3) ∧ (s.get (Reg.TMR_STATUS_RUN n.val) = 1) ∧
                (s.tmrGate n.val = true) ∧ (s.get (Reg.TMR_CFG_PRESCALE n.val) = 0) ∧ (s.timers.div.at n.val = 0) ∧
                (s.get (Reg.TMR_CFG_MODE n.val) = 0)) ∧
    (∃ (s : State) (n : Fin 16), (s.get (Reg.TMR_CFG_SRC n.val) ≠ 3) ∧ (s.get (Reg.TMR_STATUS_RUN n.val) = 1) ∧
                (s.tmrGate n.val = true) ∧ (s.get (Reg.TMR_CFG_MODE n.val) = 0) ∧
                (s.timers.div.at n.val + 1 = s.get (Reg.TMR_CFG_PRESCALE n.val) + 1)) ∧
    (∃ (s : State) (n : Fin 16), (s.get (Reg.TMR_CFG_SRC n.val) ≠ 3) ∧ (s.get (Reg.TMR_STATUS_RUN n.val) = 1) ∧
                (s.tmrGate n.val = true) ∧ (s.timers.div.at n.val + 1 < s.get (Reg.TMR_CFG_PRESCALE n.val) + 1)) ∧
    (∃ (s : State) (n : Fin 16), (s.get (Reg.TMR_CFG_SRC n.val) ≠ 3) ∧ (s.get (Reg.TMR_STATUS_RUN n.val) = 1) ∧
                (s.tmrGate n.val = true) ∧ (s.get (Reg.TMR_CFG_PRESCALE n.val) = 0) ∧ (s.timers.div.at n.val = 0) ∧
                (s.get (Reg.TMR_CFG_MODE n.val) = 1) ∧ (s.get64 (Reg.TMR_CNT_LO n.val) = s.get64 (Reg.TMR_CMP0_LO n.val))) ∧
    (∃ (s : State) (n : Fin 16), (s.get (Reg.TMR_CFG_SRC n.val) ≠ 3) ∧ (s.get (Reg.TMR_STATUS_RUN n.val) = 1) ∧
                (s.tmrGate n.val = true) ∧ (s.get (Reg.TMR_CFG_PRESCALE n.val) = 0) ∧ (s.timers.div.at n.val = 0) ∧
                (s.get (Reg.TMR_CFG_MODE n.val) = 2) ∧
                ((s.get64 (Reg.TMR_CNT_LO n.val) + 1) % 2 ^ 64 = s.get64 (Reg.TMR_CMP0_LO n.val))) ∧
    (∃ (s : State) (n : Fin 16), (s.get (Reg.TMR_CFG_SRC n.val) = 3 ∨ s.get (Reg.TMR_STATUS_RUN n.val) = 0 ∨ s.tmrGate n.val = false)) ∧
    (∃ (s : State) (n : Fin 16) (v : Word), (s.get (Reg.TMR_STATUS_RUN n.val) = 0) ∧ (getF v 0 3 < 6) ∧
                ((getF v 0 3 = 3 → s.get (Reg.TMR_TRIG_MASTER n.val) < n.val))) ∧
    (∃ (s : State) (n : Fin 16), (s.get (Reg.TMR_STATUS_RUN n.val) = 0)) ∧
    (∃ (s : State) (n : Fin 16) (v : Word), (s.get (Reg.TMR_CFG_SRC n.val) ≠ 3 ∨ getF v 0 4 < n.val)) ∧
    (∃ (s : State) (n : Fin 16) (which : Fin 3) (v : Word), (which.val ≠ 2 ∧
                s.get (Reg.TMR_STATUS_RUN n.val) = 1 ∨ which.val = 0 ∧ getF v 0 3 = 3 ∧
                n.val ≤ s.get (Reg.TMR_TRIG_MASTER n.val) ∨ which.val = 2 ∧ s.get (Reg.TMR_CFG_SRC n.val) = 3 ∧
                n.val ≤ getF v 0 4)) := by
  refine ⟨?_, ?_, ?_, ?_, ?_, ?_, ?_, ?_, ?_, ?_, ?_, ?_, ?_, ?_, ?_, ?_, ?_, ?_, ?_, ?_⟩
  · exact (let s : State := R [(Reg.TMR_CAP_CFG_SRCB 15, 4), (Reg.TMR_STATUS_FRESH_B 15, 1)] (r0.put64 (Reg.TMR_CNT_LO 15) 5);
              let n : Fin 16 := 15; let b := true;  ⟨s, n, b, by (decide +kernel +zetaReduce)⟩)
  · exact (let s : State := R [(Reg.TMR_CAP_CFG_SRCB 15, 3)] (r0.put64 (Reg.TMR_CNT_LO 15) 5); let n : Fin 16 := 15;
              let b := true;  ⟨s, n, b, by (decide +kernel +zetaReduce)⟩)
  · exact (let s : State := R [(Reg.TMR_CAP_CFG_SRCB 15, 2)] (r0.put64 (Reg.TMR_CNT_LO 15) 5 |> fun s => { s with timers := { s.timers with caps := [31] } });
              let n : Fin 16 := 15; let b : Bool := true; let source : Fin 3 := 1;
               ⟨s, n, b, source, by (decide +kernel +zetaReduce)⟩)
  · exact (let s : State := R [(Reg.TMR_CAP_CFG_SRCB 15, 2)]; let n : Fin 16 := 15; let b : Bool := true;
              let source : Fin 3 := 2;  ⟨s, n, b, source, by (decide +kernel +zetaReduce)⟩)
  · exact (let s : State := R [(Reg.TMR_TRIG_SLAVE 15, 1), (Reg.TMR_STATUS_RUN 15, 0)] ({ r0 with timers := { r0.timers with slaves := [15] } } |>.put64 (Reg.TMR_CNT_LO 15) 5);
              let n : Fin 16 := 15;  ⟨s, n, by (decide +kernel +zetaReduce)⟩)
  · exact (let s : State := R [(Reg.TMR_TRIG_SLAVE 15, 2), (Reg.TMR_STATUS_RUN 15, 1)] ({ r0 with timers := { r0.timers with slaves := [15] } } |>.put64 (Reg.TMR_CNT_LO 15) 5);
              let n : Fin 16 := 15;  ⟨s, n, by (decide +kernel +zetaReduce)⟩)
  · exact (let s : State := R [(Reg.TMR_TRIG_SLAVE 15, 3), (Reg.TMR_STATUS_RUN 15, 0)] ({ r0 with timers := { r0.timers with slaves := [15] } } |>.put64 (Reg.TMR_CNT_LO 15) 5);
              let n : Fin 16 := 15;  ⟨s, n, by (decide +kernel +zetaReduce)⟩)
  · exact (let s : State := R [(Reg.TMR_TRIG_SLAVE 15, 4), (Reg.TMR_STATUS_RUN 15, 0)] ({ r0 with timers := { r0.timers with slaves := [15] } } |>.put64 (Reg.TMR_CNT_LO 15) 5);
              let n : Fin 16 := 15;  ⟨s, n, by (decide +kernel +zetaReduce)⟩)
  · exact (let s : State := R [(Reg.TMR_TRIG_SLAVE 15, 5), (Reg.TMR_STATUS_RUN 15, 0)] ({ r0 with timers := { r0.timers with slaves := [15] } } |>.put64 (Reg.TMR_CNT_LO 15) 5);
              let n : Fin 16 := 15;  ⟨s, n, by (decide +kernel +zetaReduce)⟩)
  · exact (let s : State := R [(Reg.TMR_TRIG_SLAVE 15, 4)]; let n : Fin 16 := 15;  ⟨s, n, by (decide +kernel +zetaReduce)⟩)
  · exact (let s : State := R [(Reg.TMR_STATUS_RUN 15, 1)] (r0.put64 (Reg.TMR_CNT_LO 15) 0xFFFFFFFFFFFFFFFF);
              let n : Fin 16 := 15;  ⟨s, n, by (decide +kernel +zetaReduce)⟩)
  · exact (let s : State := R [(Reg.TMR_STATUS_RUN 15, 1), (Reg.TMR_CFG_PRESCALE 15, 255)] ({ r0 with timers := { r0.timers with div := [(15, 255)] } }.put64 (Reg.TMR_CNT_LO 15) 0xFFFFFFFFFFFFFFFF);
              let n : Fin 16 := 15;  ⟨s, n, by (decide +kernel +zetaReduce)⟩)
  · exact (let s : State := R [(Reg.TMR_STATUS_RUN 15, 1), (Reg.TMR_CFG_PRESCALE 15, 255)] ({ r0 with timers := { r0.timers with div := [(15, 254)] } }.put64 (Reg.TMR_CNT_LO 15) 0xFFFFFFFFFFFFFFFF);
              let n : Fin 16 := 15;  ⟨s, n, by (decide +kernel +zetaReduce)⟩)
  · exact (let s : State := (R [(Reg.TMR_STATUS_RUN 15, 1), (Reg.TMR_CFG_MODE 15, 1)] (r0.put64 (Reg.TMR_CNT_LO 15) 24999)).put64 (Reg.TMR_CMP0_LO 15) 24999;
              let n : Fin 16 := 15;  ⟨s, n, by (decide +kernel +zetaReduce)⟩)
  · exact (let s : State := (R [(Reg.TMR_STATUS_RUN 15, 1), (Reg.TMR_CFG_MODE 15, 2)] (r0.put64 (Reg.TMR_CNT_LO 15) 24999)).put64 (Reg.TMR_CMP0_LO 15) 25000;
              let n : Fin 16 := 15;  ⟨s, n, by (decide +kernel +zetaReduce)⟩)
  · exact (let s : State := R [(Reg.TMR_STATUS_RUN 15, 1), (Reg.TMR_CFG_SRC 15, 3)] (r0.put64 (Reg.TMR_CNT_LO 15) 5);
              let n : Fin 16 := 15;  ⟨s, n, by (decide +kernel +zetaReduce)⟩)
  · exact (let s : State := R [(Reg.TMR_CFG_SRC 15, 1)]; let n : Fin 16 := 15; let v : Word := 0xFFFFFFFB;
               ⟨s, n, v, by (decide +kernel +zetaReduce)⟩)
  · exact (let s : State := r0; let n : Fin 16 := 15;  ⟨s, n, by (decide +kernel +zetaReduce)⟩)
  · exact (let s : State := R [(Reg.TMR_CFG_SRC 15, 3)]; let n : Fin 16 := 15; let v : Word := 0xFFFFFFFE;
               ⟨s, n, v, by (decide +kernel +zetaReduce)⟩)
  · exact (let s : State := R [(Reg.TMR_CFG_SRC 15, 3)]; let n : Fin 16 := 15; let which : Fin 3 := 2;
              let v : Word := 0xFFFFFFFF;  ⟨s, n, which, v, by (decide +kernel +zetaReduce)⟩)

theorem witness_TrainingCommandsComplete :
    (∃ (s : State) (q : Fin 16) (step : Fin 16), (1 ≤ step.val) ∧ (step.val ≤ 9) ∧
                (s.flag (Reg.DDR_TRN_STAT_BUSY (q.val / 4) (q.val % 4)) = false)) ∧
    (∃ (s : State) (q : Fin 16), (s.get (Reg.DDR_TRN_STAT_BUSY (q.val / 4) (q.val % 4)) = 1) ∧
                (s.get (Reg.DDR_TRN_CTRL_STEP (q.val / 4) (q.val % 4)) ≠ 9)) ∧
    (∃ (w : Word), (w.getLsbD 30 = true)) ∧
    (∃ (s : State) (q : Fin 16) (w : Word) (v : Nat), (w.getLsbD 30 = false) ∧ (v < 256) ∧
                (s.start.modes.at (q.val * 4096 + getF w 16 1 * 2048 + getF w 17 3 * 256 + getF w 0 8) = v + 1)) ∧
    (∃ (s : State), (s.wiping = false)) ∧
    (∃ (s : State) (u : Fin 4), (s.flag (Reg.DDR_MT_STAT_BUSY u.val) = false)) ∧
    (∃ (s : State) (u : Fin 4), (s.get (Reg.DDR_MT_STAT_BUSY u.val) = 1)) ∧
    (∃ (s : State) (u : Fin 4), (s.get (Reg.DDR_MT_STAT_BUSY u.val) = 1) ∧
                (s.start.passes.at u.val < s.get (Reg.DDR_MT_CTRL_RET u.val))) ∧
    (∃ (s : State) (u : Fin 4), (s.get (Reg.DDR_MT_STAT_BUSY u.val) = 1) ∧
                (s.get (Reg.DDR_MT_CTRL_RET u.val) ≤ s.start.passes.at u.val) ∧ (s.start.stage ≠ 4)) ∧
    (∃ (s : State), (s.powerReason 1 = 0) ∧ (s.get Reg.PWR_STATUS_STATE = 0)) ∧
    (∃ (s : State), (s.powerReason 0 = 0) ∧ (s.get Reg.PWR_STATUS_STATE = 1)) ∧
    (∃ (s : State), (s.powerReason 2 = 0) ∧ (s.get Reg.PWR_STATUS_STATE ≤ 1) ∧ (1 ∈ s.power.enabled)) ∧
    (∃ (s : State), (s.powerReason 3 = 0) ∧ (s.get Reg.PWR_STATUS_STATE ≤ 2) ∧ (6 ∈ s.power.enabled)) ∧
    (∃ (s : State) (x : Nat × Nat), (s.start.stage = 0) ∧ (s.get Reg.PWR_STATUS_STATE = 2) ∧ (x ∈ s.wakes) ∧
                (bits (s.get Reg.PWR_WAKE_EN_BITS) (x.1 - 1) 1 = 1)) ∧
    (∃ (s : State) (x : Nat × Nat), (s.start.stage = 0) ∧ (s.get Reg.PWR_STATUS_STATE = 3) ∧ (x ∈ s.wakes) ∧
                (bits (s.get Reg.PWR_WAKE_EN_BITS) (x.1 - 1) 1 = 1)) := by
  refine ⟨?_, ?_, ?_, ?_, ?_, ?_, ?_, ?_, ?_, ?_, ?_, ?_, ?_, ?_, ?_⟩
  · exact (let s : State := r0; let q : Fin 16 := 15; let step : Fin 16 := 9;
               ⟨s, q, step, by (decide +kernel +zetaReduce)⟩)
  · exact (let s : State := R [(Reg.DDR_TRN_STAT_BUSY 3 3, 1), (Reg.DDR_TRN_CTRL_STEP 3 3, 8)]; let q : Fin 16 := 15;
               ⟨s, q, by (decide +kernel +zetaReduce)⟩)
  · exact (let w : Word := 0x7FFFFFFF;  ⟨w, by (decide +kernel +zetaReduce)⟩)
  · exact (let s : State := { r0 with start := { Start.none with modes := Nums.put [] (15 * 4096 + 2048 + 256*7 + 255) 256 } };
              let q : Fin 16 := 15; let w : Word := 0x3FFFFFFF; let v : Nat := 255;
               ⟨s, q, w, v, by (decide +kernel +zetaReduce)⟩)
  · exact (let s : State := r0;  ⟨s, by (decide +kernel +zetaReduce)⟩)
  · exact (let s : State := r0; let u : Fin 4 := 3;  ⟨s, u, by (decide +kernel +zetaReduce)⟩)
  · exact (let s : State := R [(Reg.DDR_MT_STAT_BUSY 3, 1)]; let u : Fin 4 := 3;  ⟨s, u, by (decide +kernel +zetaReduce)⟩)
  · exact (let s : State := R [(Reg.DDR_MT_STAT_BUSY 3, 1), (Reg.DDR_MT_CTRL_RET 3, 2)] { r0 with start := { Start.none with passes := Nums.put [] 3 1 } };
              let u : Fin 4 := 3;  ⟨s, u, by (decide +kernel +zetaReduce)⟩)
  · exact (let s : State := R [(Reg.DDR_MT_STAT_BUSY 3, 1), (Reg.DDR_MT_CTRL_RET 3, 0)] { r0 with start := { Start.none with stage := 5 } };
              let u : Fin 4 := 3;  ⟨s, u, by (decide +kernel +zetaReduce)⟩)
  · exact (let s : State := R [(Reg.PWR_STATUS_STATE, 0)];  ⟨s, by (decide +kernel +zetaReduce)⟩)
  · exact (let s : State := R [(Reg.PWR_STATUS_STATE, 1)];  ⟨s, by (decide +kernel +zetaReduce)⟩)
  · exact (let s : State := onPw (fun p => { p with enabled := [1, 6] }) (R [(Reg.PWR_STATUS_STATE, 1)]);
               ⟨s, by (decide +kernel +zetaReduce)⟩)
  · exact (let s : State := onPw (fun p => { p with enabled := [1, 6] }) (R [(Reg.PWR_STATUS_STATE, 2), (Reg.PWR_AON_STAT_XTAL_OK, 1)]);
               ⟨s, by (decide +kernel +zetaReduce)⟩)
  · exact (let s : State := R [(Reg.PWR_STATUS_STATE, 2), (Reg.PWR_WAKE_EN_BITS, 0x3FFF)] { r0 with wakes := [(8, 0)], start := { Start.none with stage := 0 } };
              let x : Nat × Nat := (8, 0);  ⟨s, x, by (decide +kernel +zetaReduce)⟩)
  · exact (let s : State := R [(Reg.PWR_STATUS_STATE, 3), (Reg.PWR_WAKE_EN_BITS, 0x3FFF)] { r0 with wakes := [(8, 0)], start := { Start.none with stage := 0 } };
              let x : Nat × Nat := (8, 0);  ⟨s, x, by (decide +kernel +zetaReduce)⟩)

end Sys2Proof.Tests
end

section
/-! PROOFS. The firing test and the graded value of one neuron's update (R136, R138, R140). -/

namespace Sys2Proof.Machine

/-- U of R136: what the saturation into the membrane range takes in. -/
def Ctx.drive (c : Ctx) (n : Neuron) (acc : Nat) : Int :=
  match c.model with
  | 0 => n.v + rne8 (sext 32 acc) + c.bias
  | 1 | 2 => c.leak n.v + rne8 (sext 32 acc) + c.bias
  | 3 => rot14 (c.rfC * n.v - c.rfS * n.y) + rne8 (sext 32 acc) + c.bias
  | _ => rne8 (sext 32 acc) + c.bias

/-- V1 of R136: the membrane before the firing test and the reset. -/
def Ctx.membrane (c : Ctx) (n : Neuron) (acc : Nat) : Int :=
  sat (c.drive n acc) (if c.model = 4 then 0 else c.vMin) 32767

/-- The adaptation after its decay (R136); other models than ALIF leave it. -/
def Ctx.adapted (c : Ctx) (n : Neuron) : Nat := if c.model = 2 then decay n.a c.aDecay else n.a

/-- The firing threshold of a spiking model (R136); an adaptive one is the sum itself (R138). -/
def Ctx.threshold (c : Ctx) (n : Neuron) : Int :=
  c.theta + if c.model = 2 then (c.adapted n * 2 ^ c.aShl : Nat) else 0

section
variable {c : Ctx} {n : Neuron} {acc : Nat}

/-! The membrane before the reset, by model. -/

theorem Ctx.drive_of_leaky (h : c.model = 1 ∨ c.model = 2) :
    c.drive n acc = c.leak n.v + rne8 (sext 32 acc) + c.bias := by
  obtain h | h := h <;> simp [Ctx.drive, h]

theorem Ctx.membrane_of_integrator (h : c.model < 3) : c.membrane n acc =
    sat ((if c.model = 0 then n.v else c.leak n.v) + rne8 (sext 32 acc) + c.bias) c.vMin 32767 := by
  have h4 : c.model ≠ 4 := by omega
  rw [Ctx.membrane, if_neg h4]
  by_cases h0 : c.model = 0
  · simp [Ctx.drive, h0]
  · rw [if_neg h0, Ctx.drive_of_leaky (by omega)]

theorem Ctx.membrane_of_resonator (h : c.model = 3) : c.membrane n acc =
    sat (rot14 (c.rfC * n.v - c.rfS * n.y) + rne8 (sext 32 acc) + c.bias) c.vMin 32767 := by
  simp [Ctx.membrane, Ctx.drive, h]

theorem Ctx.membrane_of_rectified (h : c.model = 4) :
    c.membrane n acc = sat (rne8 (sext 32 acc) + c.bias) 0 32767 := by
  simp [Ctx.membrane, Ctx.drive, h]

theorem sat_le_hi {x lo hi : Int} (h : lo ≤ hi) : sat x lo hi ≤ hi := by
  unfold sat
  split_ifs <;> omega

theorem Ctx.membrane_le (h : c.vMin ≤ 32767) : c.membrane n acc ≤ 32767 :=
  sat_le_hi (by split_ifs <;> omega)

theorem Ctx.quant_le (c : Ctx) (v : Int) : c.quant v ≤ 255 :=
  Int.toNat_le.2 (min_le_left _ _)

theorem Ctx.threshold_of_adaptive (h : c.model = 2) :
    c.threshold n = c.theta + ((decay n.a c.aDecay * 2 ^ c.aShl : Nat) : Int) := by
  rw [Ctx.threshold, Ctx.adapted, if_pos h, if_pos h]

/-! The four ways an update can go: refractory, rectified, and a spiking model below or at its threshold. -/

theorem Ctx.update_fire_of_refractory (hr : n.ref ≠ 0) : (c.update n acc).fire = false :=
  congrArg Updated.fire (if_pos (Nat.pos_of_ne_zero hr))

theorem Ctx.ref_of_fire (hf : (c.update n acc).fire = true) : n.ref = 0 := by
  by_contra hr
  simp [Ctx.update_fire_of_refractory hr] at hf

theorem Ctx.update_of_rectified (hr : n.ref = 0) (hm : c.model = 4) :
    (c.update n acc).g = c.quant (c.membrane n acc) ∧
      (c.update n acc).fire = decide (1 ≤ c.quant (c.membrane n acc)) :=
  have h := (if_neg hr.not_gt).trans (if_pos hm)
  ⟨congrArg Updated.g h, congrArg Updated.fire h⟩

theorem Ctx.update_fire_of_lt_threshold (hm : c.model ≠ 4) (h : c.membrane n acc < c.threshold n) :
    (c.update n acc).fire = false := by
  by_cases hr : n.ref = 0
  · exact congrArg Updated.fire ((if_neg hr.not_gt).trans ((if_neg hm).trans (if_neg (mt of_decide_eq_true h.not_ge))))
  · exact Ctx.update_fire_of_refractory hr

theorem Ctx.update_g_of_threshold_le (hr : n.ref = 0) (hm : c.model ≠ 4) (h : c.threshold n ≤ c.membrane n acc) :
    (c.update n acc).g = if c.outMode = 0 then 1 else max 1 (c.quant (c.membrane n acc)) :=
  have hu := (if_neg hr.not_gt).trans ((if_neg hm).trans (if_pos (decide_eq_true h)))
  congrArg Updated.g hu

/-- The grade of a spike of a spiking model (R140). -/
theorem Ctx.update_g_of_spike (hm : c.model ≠ 4) (hf : (c.update n acc).fire = true) :
    (c.update n acc).g = if c.outMode = 0 then 1 else max 1 (c.quant (c.membrane n acc)) := by
  have hth : c.threshold n ≤ c.membrane n acc := by
    by_contra hth
    simp [Ctx.update_fire_of_lt_threshold hm (not_le.1 hth)] at hf
  exact Ctx.update_g_of_threshold_le (Ctx.ref_of_fire hf) hm hth

/-- A spike's grade is a byte other than 0 (R140). -/
theorem Ctx.update_g_byte (hf : (c.update n acc).fire = true) :
    1 ≤ (c.update n acc).g ∧ (c.update n acc).g ≤ 255 := by
  have hq := c.quant_le (c.membrane n acc)
  by_cases hm : c.model = 4
  · obtain ⟨hg, hfire⟩ := Ctx.update_of_rectified (Ctx.ref_of_fire hf) hm
    rw [hg]
    exact ⟨of_decide_eq_true (hfire.symm.trans hf), hq⟩
  · rw [Ctx.update_g_of_spike hm hf]
    split_ifs <;> omega

end

end Sys2Proof.Machine

namespace Sys2Proof
open Machine

/-- Settles O20: V1 is at most 32,767 and the threshold lies beyond it. -/
theorem highThresholdNeverFires : Obligations.HighThresholdNeverFires := by
  unfold Obligations.HighThresholdNeverFires
  intro c n acc hm hv hth
  have hbelow : c.membrane n acc < c.threshold n := by
    rw [Ctx.threshold_of_adaptive hm]
    exact (Ctx.membrane_le hv).trans_lt hth
  exact Ctx.update_fire_of_lt_threshold (by omega) hbelow

/-- Settles O21, from the grade of a spike of a spiking model and the quantiser's byte of a rectified unit. -/
theorem spikeGrade : Obligations.SpikeGrade := by
  unfold Obligations.SpikeGrade
  intro c n acc
  refine ⟨Ctx.update_g_byte, fun hm ho hf => ?_, fun hm ho hf => ?_, fun hm ho hf => ?_, fun hm hr => ?_⟩
  · rw [Ctx.update_g_of_spike hm hf, if_pos ho]
  · rw [Ctx.update_g_of_spike (by omega) hf, if_neg ho, Ctx.membrane_of_integrator hm]
  · rw [Ctx.update_g_of_spike (by omega) hf, if_neg ho, Ctx.membrane_of_resonator hm]
  · obtain ⟨hg, hfire⟩ := Ctx.update_of_rectified (acc := acc) hr hm
    rw [hg, hfire, Ctx.membrane_of_rectified hm]
    exact ⟨rfl, decide_eq_true_iff⟩

end Sys2Proof
end

section
/-! PROOFS. The arithmetic of a contribution: the rounding of products, the products far from the unit and the
accumulator words (R228 to R234). -/

namespace Sys2Proof.Machine

/-! Rounding (R228). -/

section
variable {m : Int} {n : Nat}

/-- `rne m n` is at most half a unit from m / 2^n, and even where it is half a unit away. -/
theorem rne_nearest (m : Int) (n : Nat) : -(2 ^ n) ≤ 2 * (2 ^ n * rne m n - m) ∧ 2 * (2 ^ n * rne m n - m) ≤ 2 ^ n ∧
    ((2 * (2 ^ n * rne m n - m)).natAbs = 2 ^ n → rne m n % 2 = 0) := by
  have hd : (0 : Int) < 2 ^ n := by positivity
  have hcast : ((2 ^ n : Nat) : Int) = 2 ^ n := by push_cast; rfl
  have hlo := Int.emod_nonneg m hd.ne'
  have hhi := Int.emod_lt_of_pos m hd
  have hdiv := Int.emod_add_mul_ediv m (2 ^ n)
  have hup : (2 ^ n : Int) * (m / 2 ^ n + 1) = 2 ^ n * (m / 2 ^ n) + 2 ^ n := mul_add_one _ _
  unfold rne
  simp only [hcast, mul_comm (m / 2 ^ n)]
  split_ifs
  · rw [hup]; omega
  · omega

/-- A product below half a unit rounds to 0. -/
theorem rne_eq_zero (h : 2 * m.natAbs < 2 ^ n) : rne m n = 0 := by
  obtain ⟨hlo, hhi, -⟩ := rne_nearest m n
  have hd : (0 : Int) < 2 ^ n := by positivity
  have hm : |2 * m| < 2 ^ n := by rw [abs_mul, Int.abs_eq_natAbs m]; exact_mod_cast h
  obtain ⟨hm1, hm2⟩ := abs_lt.1 hm
  have hlt : rne m n < 1 := lt_of_mul_lt_mul_left (by linarith) hd.le
  have hgt : -1 < rne m n := lt_of_mul_lt_mul_left (by linarith) hd.le
  omega

end

/-- The signed reading of `len` bits lies in the range of two's complement. -/
theorem sext_bounds (len v : Nat) : -(2 ^ len) ≤ 2 * sext len v ∧ 2 * sext len v < 2 ^ len := by
  have hlt : v % 2 ^ len < 2 ^ len := Nat.mod_lt _ (by positivity)
  zify at hlt
  unfold sext
  dsimp only
  push_cast
  split_ifs <;> omega

theorem rne8_sext_bounds (acc : Nat) : -(2 ^ 23) ≤ rne8 (sext 32 acc) ∧ rne8 (sext 32 acc) ≤ 2 ^ 23 := by
  obtain ⟨hlo, hhi, -⟩ := rne_nearest (sext 32 acc) 8
  have := sext_bounds 32 acc
  unfold rne8
  omega

/-! Products far from the unit (R230). -/

section
variable {fmt raw scale g : Nat} {wm we sm se : Int}

theorem bits_lt (w lo len : Nat) : bits w lo len < 2 ^ len := Nat.mod_lt _ (by positivity)

theorem natAbs_signed (neg : Bool) (m : Nat) : (signed neg m).natAbs = m := by
  cases neg <;> simp [signed]

/-- The mantissa and the exponent of a finite weight lie in the ranges of R236. -/
theorem decodeWeight_bounds (h : decodeWeight fmt raw = .fin wm we) : wm.natAbs ≤ 128 ∧ -16 ≤ we := by
  unfold decodeWeight at h
  have h2 := bits_lt raw 0 2
  have h3 := bits_lt raw 0 3
  split at h
  · obtain ⟨rfl, rfl⟩ := Num.fin.inj h
    have := sext_bounds 4 raw
    omega
  · obtain ⟨rfl, rfl⟩ := Num.fin.inj h
    have := sext_bounds 8 raw
    omega
  · dsimp only at h
    split_ifs at h <;> cases h <;> rw [natAbs_signed] <;> omega
  · dsimp only at h
    split_ifs at h <;> cases h <;> rw [natAbs_signed] <;> omega

theorem decodeScale_natAbs_le (h : decodeScale scale = .fin sm se) : sm.natAbs ≤ 255 := by
  have h7 := bits_lt scale 0 7
  unfold decodeScale at h
  dsimp only at h
  split_ifs at h <;> cases h <;> rw [natAbs_signed] <;> omega

/-- The product of the mantissas lies below 2^23 (R230). -/
theorem natAbs_product_lt (hw : wm.natAbs ≤ 128) (hg : g < 256) (hs : sm.natAbs ≤ 255) :
    (wm * g * sm).natAbs < 2 ^ 23 := by
  rw [Int.natAbs_mul, Int.natAbs_mul, Int.natAbs_natCast]
  calc wm.natAbs * g * sm.natAbs ≤ 128 * 255 * 255 :=
        Nat.mul_le_mul (Nat.mul_le_mul hw (by omega)) hs
    _ < 2 ^ 23 := by norm_num

theorem clampC_zero : clampC 0 = 0 := rfl

theorem contribution_fin : contribution (.fin wm we) g (.fin sm se) = contribFinite wm we g sm se := rfl

theorem contribFinite_of_product_zero (h : wm * g * sm = 0) : contribFinite wm we g sm se = 0 := by
  have hr (n : Nat) : rne 0 n = 0 := rne_eq_zero (by simp)
  simp [contribFinite, h, hr, clampC_zero]

theorem contribFinite_of_small (hm : (wm * g * sm).natAbs < 2 ^ 23) (hk : we + se + 16 ≤ -24) :
    contribFinite wm we g sm se = 0 := by
  have hpow : 2 ^ 24 ≤ 2 ^ (-(we + se + 16)).toNat := Nat.pow_le_pow_right (by norm_num) (by omega)
  rw [contribFinite, if_neg (by omega), rne_eq_zero (by omega), clampC_zero]

theorem two_pow_23_le_shifted {m k : Int} (hk : 24 ≤ k) (hm : 0 < m) : 2 ^ 23 ≤ m * (2 ^ k.toNat : Nat) := by
  have hpow : 2 ^ 23 ≤ 2 ^ k.toNat := Nat.pow_le_pow_right (by norm_num) (by omega)
  calc (2 ^ 23 : Int) ≤ (2 ^ k.toNat : Nat) := by exact_mod_cast hpow
    _ ≤ m * (2 ^ k.toNat : Nat) := le_mul_of_one_le_left (by positivity) hm

theorem contribFinite_of_large_pos (hk : 24 ≤ we + se + 16) (hm : 0 < wm * g * sm) :
    contribFinite wm we g sm se = 2 ^ 23 := by
  have hbig := two_pow_23_le_shifted hk hm
  rw [contribFinite, if_pos (by omega), clampC]
  omega

theorem contribFinite_of_large_neg (hk : 24 ≤ we + se + 16) (hm : wm * g * sm < 0) :
    contribFinite wm we g sm se = -(2 ^ 23) := by
  have hbig := two_pow_23_le_shifted hk (neg_pos.2 hm)
  rw [neg_mul] at hbig
  rw [contribFinite, if_pos (by omega), clampC]
  omega

end

/-! Accumulation (R233, R234). -/

theorem cast_accAdd (a : Nat) (c : Int) : (accAdd a c : Int) = (a + c) % 2 ^ 32 :=
  Int.toNat_of_nonneg (Int.emod_nonneg _ (by norm_num))

/-- After any contributions the word is the initial value plus their sum, modulo 2^32. -/
theorem cast_foldl_accAdd (l : List Int) {a : Nat} (ha : a < 2 ^ 32) :
    ((l.foldl accAdd a : Nat) : Int) = (a + l.sum) % 2 ^ 32 := by
  induction l generalizing a with
  | nil => simp only [List.foldl_nil, List.sum_nil, add_zero]; omega
  | cons c l ih =>
    have hlt : accAdd a c < 2 ^ 32 := by have := cast_accAdd a c; omega
    rw [List.foldl_cons, ih hlt, cast_accAdd, Int.emod_add_emod, List.sum_cons, add_assoc]

/-- Contributions whose sums agree modulo 2^32 leave the same word. -/
theorem foldl_accAdd_congr {l l' : List Int} {a : Nat} (ha : a < 2 ^ 32) (h : l.sum ≡ l'.sum [ZMOD 2 ^ 32]) :
    l.foldl accAdd a = l'.foldl accAdd a := by
  have hmod : (a + l.sum) % 2 ^ 32 = (a + l'.sum) % 2 ^ 32 := h.add_left _
  rw [← cast_foldl_accAdd l ha, ← cast_foldl_accAdd l' ha] at hmod
  exact_mod_cast hmod

/-- Summing the groups modulo 2^32 first keeps the sum modulo 2^32. -/
theorem sum_grouped_modEq {α : Type} (c : α → Int) (g : List (List α)) :
    (g.map fun x => (x.map c).sum % 2 ^ 32).sum ≡ (g.flatten.map c).sum [ZMOD 2 ^ 32] := by
  induction g with
  | nil => rfl
  | cons x g ih =>
    rw [List.map_cons, List.sum_cons, List.flatten_cons, List.map_append, List.sum_append]
    exact (Int.mod_modEq _ _).add ih

end Sys2Proof.Machine

namespace Sys2Proof
open Machine

/-- Settles O22, from the distance of the rounding to the quotient. -/
theorem roundsToNearestEven : Obligations.RoundsToNearestEven := by
  unfold Obligations.RoundsToNearestEven
  refine ⟨fun m n => ?_, by decide, by decide, rne8_sext_bounds⟩
  obtain ⟨hlo, hhi, htie⟩ := rne_nearest m n
  rw [Int.natAbs_mul] at htie
  push_cast
  exact ⟨by zify; rw [← abs_two, ← abs_mul]; exact abs_le.2 ⟨hlo, hhi⟩, htie⟩

/-- Settles O23: the product of the mantissas lies below 2^23, so that k = -24 leaves less than half a unit of it. -/
theorem farProducts : Obligations.FarProducts := by
  unfold Obligations.FarProducts
  intro fmt raw scale g wm we sm se _ _ _ hg hw hs
  have hm := natAbs_product_lt (decodeWeight_bounds hw).1 hg (decodeScale_natAbs_le hs)
  rw [hw, hs, contribution_fin]
  exact ⟨contribFinite_of_small hm, contribFinite_of_product_zero, contribFinite_of_large_pos, contribFinite_of_large_neg⟩

/-- Settles O25: the word depends on the contributions by their sum modulo 2^32 alone. -/
theorem accumulationIsOrderFree : Obligations.AccumulationIsOrderFree := by
  unfold Obligations.AccumulationIsOrderFree
  intro a l l' ha hperm c
  refine ⟨cast_foldl_accAdd _ ha, foldl_accAdd_congr ha (congrArg (· % 2 ^ 32) (hperm.map c).sum_eq), ?_⟩
  rintro g rfl
  exact foldl_accAdd_congr ha (sum_grouped_modEq c g)

end Sys2Proof
end

section
/-! PROOFS. The conversion into weight formats (R238). -/

namespace Sys2Proof.Machine

/-! The finite weights of a format in the order of their values (R222, R223, R238). -/

/-- What the conversion chooses among: the encodings of the format that are finite and not negative zero. -/
abbrev IsCandidate (fmt raw : Nat) : Prop := raw < (if fmt = 0 then 16 else 256) ∧ convCandidate fmt raw = true

/-- The value of a weight in units of 2^-16, in which every finite weight is whole. -/
abbrev weightValue (fmt raw : Nat) : Int := (decodeWeight fmt raw).scaled 16

/-- The rank of the largest weight of each sign, zero having rank 0. -/
def weightTop (fmt : Nat) (neg : Bool) : Int :=
  match fmt with
  | 0 => if neg then -8 else 7
  | 1 => if neg then -128 else 127
  | 2 => if neg then -126 else 126
  | _ => if neg then -123 else 123

/-- The ranks of a format's candidates in the order of their values. -/
noncomputable def weightRanks (fmt : Nat) : Finset Int := Finset.Icc (weightTop fmt true) (weightTop fmt false)

/-- The encoding of the weight of rank `k`: two's complement, or sign and magnitude in the float formats. -/
def weightAt (fmt : Nat) (k : Int) : Nat :=
  match fmt with
  | 0 => toBits 4 k
  | 1 => toBits 8 k
  | _ => if 0 ≤ k then k.toNat else 128 + (-k).toNat

/-- The rank of an encoding, which `weightAt` inverts. -/
def weightRank (fmt raw : Nat) : Int :=
  match fmt with
  | 0 => sext 4 raw
  | 1 => sext 8 raw
  | _ => if raw < 128 then raw else 128 - raw

/-! The facts of the four tables, each over at most 256 encodings: the candidates are the encodings at the ranks, the parity
of an encoding is its rank's, and each step of rank raises the value. -/

theorem weightAt_weightRank : ∀ fmt < 4, ∀ raw < 256, IsCandidate fmt raw → weightTop fmt true ≤ weightRank fmt raw ∧
    weightRank fmt raw ≤ weightTop fmt false ∧ weightAt fmt (weightRank fmt raw) = raw := by decide +kernel

theorem isCandidate_weightAt : ∀ fmt < 4, ∀ k ∈ weightRanks fmt, IsCandidate fmt (weightAt fmt k) := by decide +kernel

theorem weightAt_mod_two : ∀ fmt < 4, ∀ k ∈ weightRanks fmt, ((weightAt fmt k : Nat) : Int) % 2 = k % 2 := by
  decide +kernel

theorem weightValue_lt_succ : ∀ fmt < 4, ∀ k ∈ weightRanks fmt, k < weightTop fmt false →
    weightValue fmt (weightAt fmt k) < weightValue fmt (weightAt fmt (k + 1)) := by decide +kernel

/-- The encoding of the largest weight of each sign (R238). -/
theorem decodeWeight_weightTop : ∀ fmt < 4, ∀ neg : Bool, weightTop fmt neg ∈ weightRanks fmt ∧
    decodeWeight fmt (weightAt fmt (weightTop fmt neg)) = fmtMax fmt neg := by decide +kernel

section
variable {fmt : Nat}

theorem exists_rank {raw : Nat} (hf : fmt < 4) (hc : IsCandidate fmt raw) : ∃ k ∈ weightRanks fmt, weightAt fmt k = raw :=
  have hlt : raw < 256 := hc.1.trans_le (by split_ifs <;> omega)
  have ⟨hlo, hhi, hat⟩ := weightAt_weightRank fmt hf raw hlt hc
  ⟨_, Finset.mem_Icc.2 ⟨hlo, hhi⟩, hat⟩

theorem weightValue_strictMonoOn (hf : fmt < 4) :
    StrictMonoOn (fun k => weightValue fmt (weightAt fmt k)) (weightRanks fmt) := by
  rw [weightRanks, Finset.coe_Icc]
  refine strictMonoOn_of_lt_succ Set.ordConnected_Icc fun k _ hk hk' => ?_
  exact weightValue_lt_succ fmt hf k (Finset.mem_Icc.2 hk) hk'.2

/-- Between the values of two odd encodings lies that of an even one: the rank after the lower. -/
theorem exists_candidate_between {r e : Nat} (hf : fmt < 4) (hr : IsCandidate fmt r) (he : IsCandidate fmt e)
    (hro : r % 2 = 1) (heo : e % 2 = 1) (hlt : weightValue fmt r < weightValue fmt e) :
    ∃ w, IsCandidate fmt w ∧ weightValue fmt r < weightValue fmt w ∧ weightValue fmt w < weightValue fmt e := by
  have hmono := weightValue_strictMonoOn hf
  obtain ⟨i, hi, rfl⟩ := exists_rank hf hr
  obtain ⟨j, hj, rfl⟩ := exists_rank hf he
  have hij : i < j := (hmono.lt_iff_lt hi hj).1 hlt
  have hi2 := weightAt_mod_two fmt hf i hi
  have hj2 := weightAt_mod_two fmt hf j hj
  have hs : i + 1 ∈ weightRanks fmt :=
    Finset.mem_Icc.2 ⟨(Finset.mem_Icc.1 hi).1.trans (by omega), hij.trans_le (Finset.mem_Icc.1 hj).2⟩
  exact ⟨_, isCandidate_weightAt fmt hf _ hs, hmono hi hs (by omega), hmono hs hj (by omega)⟩

theorem isCandidate_zero (hf : fmt < 4) : IsCandidate fmt 0 := by
  interval_cases fmt <;> decide

/-! Values in finer units. -/

theorem Num.scaled_zero (u : Nat) (e : Int) : (Num.fin 0 e).scaled u = 0 := by
  simp [Num.scaled]

theorem Num.scaled_add {m e : Int} (h : -16 ≤ e) (j : Nat) :
    (Num.fin m e).scaled (16 + j) = (Num.fin m e).scaled 16 * 2 ^ j := by
  obtain ⟨n, hn⟩ := Int.eq_ofNat_of_zero_le (show 0 ≤ e + (16 : Nat) by omega)
  have hj : e + (16 + j : Nat) = (n + j : Nat) := by push_cast at hn ⊢; omega
  simp only [Num.scaled, hj, hn, Int.natCast_nonneg, if_true, Int.toNat_natCast]
  push_cast
  ring

theorem scaled_decodeWeight {u : Nat} (hu : 16 ≤ u) (raw : Nat) :
    (decodeWeight fmt raw).scaled u = weightValue fmt raw * 2 ^ (u - 16) := by
  cases h : decodeWeight fmt raw with
  | fin m e =>
    obtain ⟨j, rfl⟩ := Nat.exists_eq_add_of_le hu
    rw [Num.scaled_add (decodeWeight_bounds h).2, Nat.add_sub_cancel_left, weightValue, h]
  | inf neg => simp [Num.scaled, weightValue, h]
  | nan => simp [Num.scaled, weightValue, h]

theorem scaled_lt_scaled {u r e : Nat} (hu : 16 ≤ u) : (decodeWeight fmt r).scaled u < (decodeWeight fmt e).scaled u ↔
    weightValue fmt r < weightValue fmt e := by
  rw [scaled_decodeWeight hu, scaled_decodeWeight hu]
  exact mul_lt_mul_iff_left₀ (by positivity)

theorem scaled_decodeWeight_zero (u : Nat) : (decodeWeight fmt 0).scaled u = 0 := by
  have h : ∃ e, decodeWeight fmt 0 = .fin 0 e := by
    unfold decodeWeight
    split <;> exact ⟨_, rfl⟩
  obtain ⟨e, he⟩ := h
  rw [he, Num.scaled_zero]

/-- The largest magnitudes of R238, in units of 2^-u. -/
theorem scaled_fmtMax {u : Nat} (hf : fmt < 4) :
    (fmtMax fmt false).scaled u =
      (if fmt = 0 then 7 else if fmt = 1 then 127 else if fmt = 2 then 448 else 57344) * (2 ^ u : Nat) ∧
    (fmtMax fmt true).scaled u =
      (if fmt = 0 then -8 else if fmt = 1 then -128 else if fmt = 2 then -448 else -57344) * (2 ^ u : Nat) := by
  have hscaled (m : Int) (k : Nat) : (Num.fin m k).scaled u = m * 2 ^ k * (2 ^ u : Nat) := by
    have hk : (k : Int) + u = (k + u : Nat) := by push_cast; rfl
    simp only [Num.scaled, hk, Int.natCast_nonneg, if_true, Int.toNat_natCast]
    push_cast
    ring
  interval_cases fmt
  · exact ⟨hscaled 7 0, hscaled (-8) 0⟩
  · exact ⟨hscaled 127 0, hscaled (-128) 0⟩
  · exact ⟨hscaled 14 5, hscaled (-14) 5⟩
  · exact ⟨hscaled 7 13, hscaled (-7) 13⟩

/-- Candidates are the finite encodings but that of negative zero. -/
theorem convCandidate_iff {raw : Nat} : convCandidate fmt raw = true ↔
    ∃ m e, decodeWeight fmt raw = .fin m e ∧ (m = 0 → raw = 0) := by
  unfold convCandidate
  split
  case h_1 h => simp [h]
  case h_2 m e hm h => simpa [h] using fun h0 : m = 0 => (hm h0).elim
  case h_3 hfin => simpa using fun m e h => (hfin m e h).elim

theorem finite_of_candidate {raw : Nat} (h : convCandidate fmt raw = true) : (decodeWeight fmt raw).finite = true := by
  obtain ⟨m, e, hdec, -⟩ := convCandidate_iff.1 h
  rw [hdec, Num.finite]

theorem eq_zero_of_candidate {raw u : Nat} (hu : 16 ≤ u) (h : convCandidate fmt raw = true)
    (hv : (decodeWeight fmt raw).scaled u = 0) : raw = 0 := by
  obtain ⟨m, e, hdec, hzero⟩ := convCandidate_iff.1 h
  have he := (decodeWeight_bounds hdec).2
  rw [hdec, Num.scaled, if_pos (by omega)] at hv
  exact hzero ((mul_eq_zero.1 hv).resolve_right (by positivity))

/-- Every finite weight has the value of a candidate. -/
theorem exists_candidate_scaled_eq {raw : Nat} (hf : fmt < 4) (hr : raw < if fmt = 0 then 16 else 256)
    (h : (decodeWeight fmt raw).finite = true) (u : Nat) :
    ∃ e, IsCandidate fmt e ∧ (decodeWeight fmt e).scaled u = (decodeWeight fmt raw).scaled u := by
  by_cases hc : convCandidate fmt raw = true
  · exact ⟨raw, ⟨hr, hc⟩, rfl⟩
  · cases hdec : decodeWeight fmt raw with
    | fin m e =>
      have hm : m = 0 := by
        by_contra hm
        exact hc (convCandidate_iff.2 ⟨m, e, hdec, fun h => absurd h hm⟩)
      exact ⟨0, isCandidate_zero hf, by rw [hm, Num.scaled_zero, scaled_decodeWeight_zero]⟩
    | inf neg => simp [hdec, Num.finite] at h
    | nan => simp [hdec, Num.finite] at h

/-! The choice of the conversion (R238): the least distance, and of equal distances the encoding with bit 0 clear. -/

/-- How far an encoding's value lies from `x`, in units of 2^-u. -/
def convDist (fmt : Nat) (x : Int) (u raw : Nat) : Nat := ((decodeWeight fmt raw).scaled u - x).natAbs

/-- What the conversion makes least: the distance doubled, with bit 0 of the encoding below it. -/
def convCost (fmt : Nat) (x : Int) (u raw : Nat) : Nat := 2 * convDist fmt x u raw + raw % 2

/-- One candidate met: the better of it and the best so far. -/
def convPick (fmt : Nat) (x : Int) (u best raw : Nat) : Nat :=
  if convCandidate fmt raw then
    let d := ((decodeWeight fmt raw).scaled u - x).natAbs
    let b := ((decodeWeight fmt best).scaled u - x).natAbs
    if d < b ∨ (d = b ∧ raw % 2 = 0 ∧ best % 2 = 1) then raw else best
  else best

/-- The value that is converted: x within the format's finite range. -/
def convClamp (fmt : Nat) (x : Int) (u : Nat) : Int :=
  if x > (fmtMax fmt false).scaled u then (fmtMax fmt false).scaled u
  else if x < (fmtMax fmt true).scaled u then (fmtMax fmt true).scaled u else x

theorem convWeight_eq (fmt : Nat) (x : Int) (u : Nat) : convWeight fmt x u =
    (List.range (if fmt = 0 then 16 else 256)).foldl (convPick fmt (convClamp fmt x u) u) 0 := rfl

variable {x : Int} {u : Nat}

theorem convPick_of_candidate {best raw : Nat} (h : convCandidate fmt raw = true) :
    convPick fmt x u best raw = if convCost fmt x u raw < convCost fmt x u best then raw else best := by
  simp only [convPick, h, if_true, convCost, convDist]
  congr 1
  simp only [eq_iff_iff]
  omega

theorem convPick_of_not_candidate {best raw : Nat} (h : ¬convCandidate fmt raw = true) :
    convPick fmt x u best raw = best := if_neg h

/-- The fold answers a candidate of least cost among those that it met. -/
theorem foldl_convPick_least (l : List Nat) {best : Nat} (hb : convCandidate fmt best = true) :
    let r := l.foldl (convPick fmt x u) best
    r ∈ best :: l ∧ convCandidate fmt r = true ∧
      ∀ e ∈ best :: l, convCandidate fmt e = true → convCost fmt x u r ≤ convCost fmt x u e := by
  induction l generalizing best with
  | nil => simp [hb]
  | cons raw l ih =>
    have mem_cons_cons {r : Nat} (h : r ∈ best :: l) : r ∈ best :: raw :: l :=
      List.cons_subset_cons best (List.subset_cons_self raw l) h
    rw [List.foldl_cons]
    by_cases hraw : convCandidate fmt raw = true
    · rw [convPick_of_candidate hraw]
      split_ifs with hlt
      · obtain ⟨hmem, hc, hle⟩ := ih hraw
        refine ⟨List.mem_cons_of_mem _ hmem, hc, List.forall_mem_cons.2 ⟨fun _ => ?_, hle⟩⟩
        exact (hle raw List.mem_cons_self hraw).trans hlt.le
      · obtain ⟨hmem, hc, hle⟩ := ih hb
        obtain ⟨hbest, hrest⟩ := List.forall_mem_cons.1 hle
        refine ⟨mem_cons_cons hmem, hc, List.forall_mem_cons.2 ⟨hbest, List.forall_mem_cons.2 ⟨fun _ => ?_, hrest⟩⟩⟩
        exact (hbest hb).trans (not_lt.1 hlt)
    · rw [convPick_of_not_candidate hraw]
      obtain ⟨hmem, hc, hle⟩ := ih hb
      obtain ⟨hbest, hrest⟩ := List.forall_mem_cons.1 hle
      exact ⟨mem_cons_cons hmem, hc, List.forall_mem_cons.2 ⟨hbest, List.forall_mem_cons.2 ⟨fun h => absurd h hraw, hrest⟩⟩⟩

/-- The conversion answers a candidate of least cost for the clamped value. -/
theorem convWeight_least (hf : fmt < 4) (x : Int) (u : Nat) : IsCandidate fmt (convWeight fmt x u) ∧ ∀ e, IsCandidate fmt e →
    convCost fmt (convClamp fmt x u) u (convWeight fmt x u) ≤ convCost fmt (convClamp fmt x u) u e := by
  rw [convWeight_eq]
  obtain ⟨hzero, hcand⟩ := isCandidate_zero hf
  obtain ⟨hmem, hc, hle⟩ := foldl_convPick_least (x := convClamp fmt x u) (u := u)
    (List.range (if fmt = 0 then 16 else 256)) hcand
  refine ⟨⟨?_, hc⟩, fun e he => hle e (List.mem_cons_of_mem _ (List.mem_range.2 he.1)) he.2⟩
  obtain h | h := List.mem_cons.1 hmem
  · rw [h]; exact hzero
  · exact List.mem_range.1 h

/-- Two odd encodings of different values at one distance from `x` have a nearer one between them. -/
theorem exists_nearer {r e : Nat} (hf : fmt < 4) (hu : 16 ≤ u) (hr : IsCandidate fmt r) (he : IsCandidate fmt e)
    (hro : r % 2 = 1) (heo : e % 2 = 1) (htie : convDist fmt x u r = convDist fmt x u e)
    (hlt : (decodeWeight fmt r).scaled u < (decodeWeight fmt e).scaled u) :
    ∃ w, IsCandidate fmt w ∧ convDist fmt x u w < convDist fmt x u r := by
  obtain ⟨w, hw, hrw, hwe⟩ := exists_candidate_between hf hr he hro heo ((scaled_lt_scaled hu).1 hlt)
  rw [← scaled_lt_scaled hu] at hrw hwe
  unfold convDist at htie ⊢
  exact ⟨w, hw, by omega⟩

/-- The conversion gives a nearest candidate, with bit 0 clear where another value is as near. -/
theorem convWeight_nearest {e : Nat} (hf : fmt < 4) (hu : 16 ≤ u) (he : IsCandidate fmt e) :
    convDist fmt (convClamp fmt x u) u (convWeight fmt x u) ≤ convDist fmt (convClamp fmt x u) u e ∧
      (convDist fmt (convClamp fmt x u) u (convWeight fmt x u) = convDist fmt (convClamp fmt x u) u e →
        (decodeWeight fmt e).scaled u ≠ (decodeWeight fmt (convWeight fmt x u)).scaled u → convWeight fmt x u % 2 = 0) := by
  obtain ⟨hr, hleast⟩ := convWeight_least hf x u
  generalize convWeight fmt x u = r at *
  unfold convCost at hleast
  have hle := hleast e he
  refine ⟨by omega, fun htie hne => ?_⟩
  by_contra hodd
  have hnearer : ∃ w, IsCandidate fmt w ∧ convDist fmt (convClamp fmt x u) u w < convDist fmt (convClamp fmt x u) u r := by
    obtain hlt | hlt := lt_or_gt_of_ne hne
    · rw [htie]
      exact exists_nearer hf hu he hr (by omega) (by omega) htie.symm hlt
    · exact exists_nearer hf hu hr he (by omega) (by omega) htie hlt
  obtain ⟨w, hw, hlt⟩ := hnearer
  have hle := hleast w hw
  omega

/-- A value that a candidate has is converted to itself. -/
theorem scaled_convWeight_of_attained {e : Nat} (hf : fmt < 4) (he : IsCandidate fmt e)
    (h : (decodeWeight fmt e).scaled u = convClamp fmt x u) :
    (decodeWeight fmt (convWeight fmt x u)).scaled u = convClamp fmt x u := by
  have hle := (convWeight_least hf x u).2 e he
  unfold convCost convDist at hle
  omega

theorem convClamp_of_gt (h : (fmtMax fmt false).scaled u < x) : convClamp fmt x u = (fmtMax fmt false).scaled u := if_pos h

theorem convClamp_of_lt (h : x < (fmtMax fmt true).scaled u) (hx : x ≤ (fmtMax fmt false).scaled u) :
    convClamp fmt x u = (fmtMax fmt true).scaled u := (if_neg hx.not_gt).trans (if_pos h)

theorem convClamp_of_mem (h : (fmtMax fmt true).scaled u ≤ x) (hx : x ≤ (fmtMax fmt false).scaled u) :
    convClamp fmt x u = x := (if_neg hx.not_gt).trans (if_neg h.not_gt)

theorem scaled_fmtMax_signs (hf : fmt < 4) : (fmtMax fmt true).scaled u < 0 ∧ 0 < (fmtMax fmt false).scaled u := by
  rw [scaled_fmtMax hf |>.1, scaled_fmtMax hf |>.2]
  split_ifs <;> constructor <;> simp

/-- Beyond the finite range the conversion answers the largest weight of the sign. -/
theorem scaled_convWeight_of_clamped (hf : fmt < 4) {neg : Bool} (h : convClamp fmt x u = (fmtMax fmt neg).scaled u) :
    (decodeWeight fmt (convWeight fmt x u)).scaled u = (fmtMax fmt neg).scaled u := by
  obtain ⟨hrank, hdec⟩ := decodeWeight_weightTop fmt hf neg
  rw [scaled_convWeight_of_attained hf (isCandidate_weightAt fmt hf _ hrank) (by rw [hdec, h]), h]

end

end Sys2Proof.Machine

namespace Sys2Proof
open Machine

/-- Settles O24: the fold keeps a candidate of least cost, and two odd encodings equally near have a nearer one between them. -/
theorem conversionIsNearest : Obligations.ConversionIsNearest := by
  unfold Obligations.ConversionIsNearest
  intro fmt u x hf hu r v top bot
  obtain ⟨htop, hbot⟩ := scaled_fmtMax (u := u) hf
  obtain ⟨hneg, hpos⟩ := scaled_fmtMax_signs (u := u) hf
  obtain ⟨hlt, hcand⟩ := (convWeight_least hf x u).1
  refine ⟨hlt, finite_of_candidate hcand, eq_zero_of_candidate hu hcand, fun hx => ?_, fun hx => ?_, fun hlo hhi e he hfin => ?_⟩
  · exact (scaled_convWeight_of_clamped hf (convClamp_of_gt (htop.trans_lt hx))).trans htop
  · have hx' := hx.trans_eq hbot.symm
    exact (scaled_convWeight_of_clamped hf (convClamp_of_lt hx' (hx'.trans (hneg.trans hpos)).le)).trans hbot
  · obtain ⟨e', hcand', hval⟩ := exists_candidate_scaled_eq hf he hfin u
    have hnear := convWeight_nearest (x := x) hf hu hcand'
    rw [convClamp_of_mem (hbot.trans_le hlo) (hhi.trans_eq htop.symm), convDist, convDist, hval] at hnear
    exact hnear

end Sys2Proof
end

section
/-! PROOFS. The entries that firmware appends to the event log (R710). -/

namespace Sys2Proof.Machine

theorem bits_eq_div_mod (w lo len : Nat) : bits w lo len = w / 2 ^ lo % 2 ^ len := by
  rw [bits, Nat.shiftRight_eq_div_pow]

end Sys2Proof.Machine

namespace Sys2Proof.Machine.State

variable {s : State}

theorem reg_put_of_ne {f : RF} {v a : Nat} (h : a ≠ f.addr) : (s.put f v).reg a = s.reg a :=
  reg_put.trans (if_neg h)

/-! An event offered to a queue that has room (R709). -/

theorem log_of_room {b : Block} {inst code source p0 p1 : Nat}
    (h : (s.events.filter fun e => e.rank = b.rank ∧ e.inst = inst).length < 4) :
    s.log b inst code source p0 p1 = { s with events := s.events ++
      [⟨b.rank, inst, code, source, p0 % 2 ^ 32, p1 % 2 ^ 32, s.now, s.stepNum⟩] } :=
  if_neg h.not_ge

theorem reg_log_of_room {b : Block} {inst code source p0 p1 a : Nat}
    (h : (s.events.filter fun e => e.rank = b.rank ∧ e.inst = inst).length < 4) :
    (s.log b inst code source p0 p1).reg a = s.reg a := by
  rw [log_of_room h]
  rfl

/-! The time and the step an event is stamped with (R564), after a write to another register. -/

theorem now_put {f : RF} {v : Nat} (hlo : f.addr ≠ Reg.TB_COUNT_LO) (hhi : f.addr ≠ Reg.TB_COUNT_LO + 4) :
    (s.put f v).now = s.now :=
  get64_put_ne hlo hhi

theorem stepNum_put {f : RF} {v : Nat} (hlo : f.addr ≠ Reg.STEP_NUM_LO) (hhi : f.addr ≠ Reg.STEP_NUM_LO + 4) :
    (s.put f v).stepNum = s.stepNum :=
  get64_put_ne hlo hhi

/-! The two ways an append can go. -/

theorem exec_firmwareLogAppend : exec .firmwareLogAppend s = s.done s.firmwareAppend := rfl

/-- An append of a class of firmware's own offers the entry that FLT_LOG_APP0 to APP2 hold (R710). -/
theorem firmwareAppend_of_allowed {w : Nat} (hw : (s.reg Reg.FLT_LOG_APP0).toNat = w)
    (h : w / 4096 % 16 = 4 ∨ w / 4096 % 16 = 7 ∨ w / 4096 % 16 = 8 ∨ w / 4096 % 16 = 9) :
    s.firmwareAppend = (s.put Reg.FLT_LOG_APP7_STATUS Status.ok.code).log .app 0 (w % 65536) (w / 65536)
      (s.reg Reg.FLT_LOG_APP1).toNat (s.reg Reg.FLT_LOG_APP2).toNat := by
  have hcls := bits_eq_div_mod w 12 4
  have hsource : bits w 16 16 = w / 65536 := by
    have hlt := (s.reg Reg.FLT_LOG_APP0).isLt
    rw [bits_eq_div_mod]
    omega
  subst hw
  rw [← hsource]
  exact if_pos (by omega)

/-- An append of any other class does no more than to answer REFUSED (R710). -/
theorem firmwareAppend_of_refused {w : Nat} (hw : (s.reg Reg.FLT_LOG_APP0).toNat = w)
    (h4 : w / 4096 % 16 ≠ 4) (h7 : w / 4096 % 16 ≠ 7) (h8 : w / 4096 % 16 ≠ 8) (h9 : w / 4096 % 16 ≠ 9) :
    s.firmwareAppend = s.put Reg.FLT_LOG_APP7_STATUS Status.refused.code := by
  have hcls := bits_eq_div_mod w 12 4
  subst hw
  exact if_neg (by omega)

end Sys2Proof.Machine.State

namespace Sys2Proof
open Machine State

/-- Settles O13: an append of an allowed class is a put of OK and an event that finds room, any other a put of REFUSED alone. -/
theorem firmwareCannotForgeEvents : Obligations.FirmwareCannotForgeEvents := by
  unfold Obligations.FirmwareCannotForgeEvents
  intro s w
  refine ⟨fun hcls hroom => ?_, fun h4 h7 h8 h9 => ?_⟩
  · have hroom' : ((s.put Reg.FLT_LOG_APP7_STATUS Status.ok.code).events.filter
        fun e => e.rank = Block.app.rank ∧ e.inst = 0).length < 4 := hroom
    refine completes_done (exec_firmwareLogAppend.trans (congrArg s.done (firmwareAppend_of_allowed rfl hcls)))
      ⟨?_, ?_, fun a ha => ?_, fun a => ?_⟩
    · exact (get_log (by decide)).trans (get_put_self (by decide))
    · rw [log_of_room hroom', now_put (by decide) (by decide), stepNum_put (by decide) (by decide),
        Nat.mod_eq_of_lt (BitVec.isLt _), Nat.mod_eq_of_lt (BitVec.isLt _)]
      rfl
    · exact (reg_log_of_room hroom').trans (reg_put_of_ne (List.ne_of_not_mem_cons ha))
    · exact rd8_log.trans rd8_put
  · refine completes_done (exec_firmwareLogAppend.trans (congrArg s.done (firmwareAppend_of_refused rfl h4 h7 h8 h9)))
      ⟨?_, rfl, fun a ha => ?_, fun _ => rfl⟩
    · exact get_put_self (by decide)
    · exact reg_put_of_ne (List.ne_of_not_mem_cons ha)

end Sys2Proof
end

section
set_option Elab.async false
/-! PROOFS. What holds of every command: the step's two cases, the queue that every arm leaves, the canonical forms and the legal
NMT state that every arm keeps, and the two stores' readings. -/

namespace Sys2Proof.Machine.State

/-- An arm that ends in `done` answers a next state with the waiting commands as they were. -/
theorem goesOn_done {s t : State} : ∃ u, s.done t = .next u ∧ u.pending = s.pending := ⟨_, rfl, rfl⟩

/-- A command that answers a next state answers a sound one from a sound state. -/
theorem exec_sound {c : Instr} {s : State} (h : s.Sound) : ResultSound (exec c s) := by
  cases c with
  | registerWrite => exact execRegisterWrite_sound h
  | lowWordRead => exact execLowWordRead_sound h
  | dictRead => exact execDictRead_sound h
  | dictWrite => exact execDictWrite_sound h
  | commitStaged => exact execCommitStaged_sound h
  | discardStaged => exact execDiscardStaged_sound h
  | flashParamSave => exact execFlashParamSave_sound h
  | storeParameters => exact execStoreParameters_sound h
  | restoreDefaults => exact execRestoreDefaults_sound h
  | tbLoad => exact execTbLoad_sound h
  | tbSlewCode => exact execTbSlewCode_sound h
  | replicaCompare => exact execReplicaCompare_sound h
  | tbCompareFire => exact execTbCompareFire_sound h
  | stepRun => exact execStepRun_sound h
  | stepHalt => exact execStepHalt_sound h
  | stepLaunch => exact execStepLaunch_sound h
  | quiescenceWave => exact execQuiescenceWave_sound h
  | neuronScan => exact execNeuronScan_sound h
  | stepClose => exact execStepClose_sound h
  | deadlineForcedClose => exact execDeadlineForcedClose_sound h
  | stretchLimitClose => exact execStretchLimitClose_sound h
  | freeRunWatchdogFire => exact execFreeRunWatchdogFire_sound h
  | switchRequest => exact execSwitchRequest_sound h
  | imageSwitchLoadDone => exact execImageSwitchLoadDone_sound h
  | switchVoteTimeout => exact execSwitchVoteTimeout_sound h
  | contextEnable => exact execContextEnable_sound h
  | contextDisable => exact execContextDisable_sound h
  | contextFieldWrite => exact execContextFieldWrite_sound h
  | neWindowWrite => exact execNeWindowWrite_sound h
  | matchRecord => exact execMatchRecord_sound h
  | engineTakeJob => exact execEngineTakeJob_sound h
  | accumulateContribution => exact execAccumulateContribution_sound h
  | areaClearDone => exact execAreaClearDone_sound h
  | windowApplicationDone => exact execWindowApplicationDone_sound h
  | projCtrlWrite => exact execProjCtrlWrite_sound h
  | learningPass => exact execLearningPass_sound h
  | plEnableWrite => exact execPlEnableWrite_sound h
  | modqPush => exact execModqPush_sound h
  | driftReset => exact execDriftReset_sound h
  | pipRoute => exact execPipRoute_sound h
  | pipInject => exact execPipInject_sound h
  | edgeReturnPip => exact execEdgeReturnPip_sound h
  | edgeInject => exact execEdgeInject_sound h
  | nakReceive => exact execNakReceive_sound h
  | linkDownSignal => exact execLinkDownSignal_sound h
  | echoReceive => exact execEchoReceive_sound h
  | stormNoticeReceive => exact execStormNoticeReceive_sound h
  | throttleIncrease => exact execThrottleIncrease_sound h
  | delayStoreWrite => exact execDelayStoreWrite_sound h
  | delayStoreRelease => exact execDelayStoreRelease_sound h
  | mcEntryWrite => exact execMcEntryWrite_sound h
  | spillRegionWrite => exact execSpillRegionWrite_sound h
  | regReadRequest => exact execRegReadRequest_sound h
  | regWriteRequest => exact execRegWriteRequest_sound h
  | regResponseReceive => exact execRegResponseReceive_sound h
  | scmBeatRoute => exact execScmBeatRoute_sound h
  | scmCheck => exact execScmCheck_sound h
  | scmCheckDone => exact execScmCheckDone_sound h
  | scmSwap => exact execScmSwap_sound h
  | scmLinkFail => exact execScmLinkFail_sound h
  | dramFetchComplete => exact execDramFetchComplete_sound h
  | writeDrainComplete => exact execWriteDrainComplete_sound h
  | unionRunsReady => exact execUnionRunsReady_sound h
  | openRx => exact execOpenRx_sound h
  | fillMapCleared => exact execFillMapCleared_sound h
  | resetRx => exact execResetRx_sound h
  | closeQueue => exact execCloseQueue_sound h
  | openTx => exact execOpenTx_sound h
  | ackEpoch => exact execAckEpoch_sound h
  | queueSend => exact execQueueSend_sound h
  | creditReturnReceive => exact execCreditReturnReceive_sound h
  | creditRevokeReceive => exact execCreditRevokeReceive_sound h
  | messageReceive => exact execMessageReceive_sound h
  | queuePop => exact execQueuePop_sound h
  | creditReturnSend => exact execCreditReturnSend_sound h
  | gapScan => exact execGapScan_sound h
  | barrierArrive => exact execBarrierArrive_sound h
  | barrierRelease => exact execBarrierRelease_sound h
  | barMemberWrite => exact execBarMemberWrite_sound h
  | redCfgWrite => exact execRedCfgWrite_sound h
  | faultReportFile => exact execFaultReportFile_sound h
  | faultWave => exact execFaultWave_sound h
  | faultReportTake => exact execFaultReportTake_sound h
  | scrubRow => exact execScrubRow_sound h
  | tamperAssert => exact execTamperAssert_sound h
  | huskWipeDone => exact execHuskWipeDone_sound h
  | sealRequest => exact execSealRequest_sound h
  | sealGapExpire => exact execSealGapExpire_sound h
  | sramClearDone => exact execSramClearDone_sound h
  | dramReadRetry => exact execDramReadRetry_sound h
  | pageCopyDone => exact execPageCopyDone_sound h
  | subchannelRetire => exact execSubchannelRetire_sound h
  | mapReform => exact execMapReform_sound h
  | patrolRead => exact execPatrolRead_sound h
  | fullScrubStart => exact execFullScrubStart_sound h
  | fullScrubAbort => exact execFullScrubAbort_sound h
  | fillGranule => exact execFillGranule_sound h
  | streamContextEnable => exact execStreamContextEnable_sound h
  | streamContextDisable => exact execStreamContextDisable_sound h
  | hubEnableWrite => exact execHubEnableWrite_sound h
  | csiFrameStart => exact execCsiFrameStart_sound h
  | csiLongPacket => exact execCsiLongPacket_sound h
  | csiFrameEnd => exact execCsiFrameEnd_sound h
  | ethFrameReceive => exact execEthFrameReceive_sound h
  | ethFwTransmit => exact execEthFwTransmit_sound h
  | selFrameReceive => exact execSelFrameReceive_sound h
  | selAckReceive => exact execSelAckReceive_sound h
  | selNakReceive => exact execSelNakReceive_sound h
  | selBusyWaitExpire => exact execSelBusyWaitExpire_sound h
  | selAckTimeout => exact execSelAckTimeout_sound h
  | selIdleSetReceive => exact execSelIdleSetReceive_sound h
  | selTsReceive => exact execSelTsReceive_sound h
  | selAlignTimeout => exact execSelAlignTimeout_sound h
  | selTrainTimeout => exact execSelTrainTimeout_sound h
  | selCommaLoss => exact execSelCommaLoss_sound h
  | selRetrain => exact execSelRetrain_sound h
  | selEnable => exact execSelEnable_sound h
  | selSleepReq => exact execSelSleepReq_sound h
  | selWakeDetect => exact execSelWakeDetect_sound h
  | selCmdSend => exact execSelCmdSend_sound h
  | gpioInputChange => exact execGpioInputChange_sound h
  | gpioStuckExpire => exact execGpioStuckExpire_sound h
  | guardQueueCandidate => exact execGuardQueueCandidate_sound h
  | guardWriteCandidate => exact execGuardWriteCandidate_sound h
  | guardGapExpire => exact execGuardGapExpire_sound h
  | guardSilenceExpire => exact execGuardSilenceExpire_sound h
  | guardForceSafeWrite => exact execGuardForceSafeWrite_sound h
  | canFrameReceive => exact execCanFrameReceive_sound h
  | rpdoAuditFlush => exact execRpdoAuditFlush_sound h
  | canRawTransmit => exact execCanRawTransmit_sound h
  | tpdoTrigger => exact execTpdoTrigger_sound h
  | canTokenAvailable => exact execCanTokenAvailable_sound h
  | canBusoffRecovery => exact execCanBusoffRecovery_sound h
  | canStandbyFailover => exact execCanStandbyFailover_sound h
  | canStandbyReturn => exact execCanStandbyReturn_sound h
  | canRxPop => exact execCanRxPop_sound h
  | heartbeatProduce => exact execHeartbeatProduce_sound h
  | heartbeatConsumerTimeout => exact execHeartbeatConsumerTimeout_sound h
  | errorRegisterClear => exact execErrorRegisterClear_sound h
  | mailboxDoorbell => exact execMailboxDoorbell_sound h
  | bar0Access => exact execBar0Access_sound h
  | bar2Access => exact execBar2Access_sound h
  | bar4Access => exact execBar4Access_sound h
  | hostWinBaseWrite => exact execHostWinBaseWrite_sound h
  | pcieReset => exact execPcieReset_sound h
  | dmaTailWrite => exact execDmaTailWrite_sound h
  | dmaDescriptorDone => exact execDmaDescriptorDone_sound h
  | dmaResume => exact execDmaResume_sound h
  | hostOringReadWrite => exact execHostOringReadWrite_sound h
  | tlkControlFlit => exact execTlkControlFlit_sound h
  | tlkPacketReceive => exact execTlkPacketReceive_sound h
  | tlkAckReceive => exact execTlkAckReceive_sound h
  | tlkNakReceive => exact execTlkNakReceive_sound h
  | tlkReplayTimeout => exact execTlkReplayTimeout_sound h
  | tlkCreditReceive => exact execTlkCreditReceive_sound h
  | tlkTransmitPip => exact execTlkTransmitPip_sound h
  | tlkTsReceive => exact execTlkTsReceive_sound h
  | tlkStateTimeout => exact execTlkStateTimeout_sound h
  | tlkMarkLoss => exact execTlkMarkLoss_sound h
  | tlkRetrain => exact execTlkRetrain_sound h
  | tlkEnable => exact execTlkEnable_sound h
  | tlkSleepReq => exact execTlkSleepReq_sound h
  | tlkWakeDetect => exact execTlkWakeDetect_sound h
  | timeExchangeStart => exact execTimeExchangeStart_sound h
  | timeFlitReceive => exact execTimeFlitReceive_sound h
  | syncArmReceive => exact execSyncArmReceive_sound h
  | syncWaveReceive => exact execSyncWaveReceive_sound h
  | syncResultReceive => exact execSyncResultReceive_sound h
  | syncUpdateReceive => exact execSyncUpdateReceive_sound h
  | syncDoneReceive => exact execSyncDoneReceive_sound h
  | syncSwitchReceive => exact execSyncSwitchReceive_sound h
  | syncVoteReceive => exact execSyncVoteReceive_sound h
  | syncRejoinReceive => exact execSyncRejoinReceive_sound h
  | workerIsolate => exact execWorkerIsolate_sound h
  | workerLost => exact execWorkerLost_sound h
  | dictProxyReceive => exact execDictProxyReceive_sound h
  | gatewayExecute => exact execGatewayExecute_sound h
  | gatewayTimeout => exact execGatewayTimeout_sound h
  | fwPacketReceive => exact execFwPacketReceive_sound h
  | workerFwTimeout => exact execWorkerFwTimeout_sound h
  | loginChallenge => exact execLoginChallenge_sound h
  | loginVerify => exact execLoginVerify_sound h
  | challengeExpire => exact execChallengeExpire_sound h
  | logout => exact execLogout_sound h
  | sessionIdleTimeout => exact execSessionIdleTimeout_sound h
  | lockoutExpire => exact execLockoutExpire_sound h
  | authWrite => exact execAuthWrite_sound h
  | lifecycleRequest => exact execLifecycleRequest_sound h
  | lifecycleConfirm => exact execLifecycleConfirm_sound h
  | lifecycleConfirmTimeout => exact execLifecycleConfirmTimeout_sound h
  | auditAppend => exact execAuditAppend_sound h
  | auditExportRead => exact execAuditExportRead_sound h
  | imageLoadFlash => exact execImageLoadFlash_sound h
  | imageLoadDram => exact execImageLoadDram_sound h
  | imageLoadDone => exact execImageLoadDone_sound h
  | imageUnload => exact execImageUnload_sound h
  | coldStart => exact execColdStart_sound h
  | porstAssert => exact execPorstAssert_sound h
  | bistStart => exact execBistStart_sound h
  | bistDone => exact execBistDone_sound h
  | ddrTrainStep => exact execDdrTrainStep_sound h
  | ddrTrainStepDone => exact execDdrTrainStepDone_sound h
  | ddrModeRegisterAccess => exact execDdrModeRegisterAccess_sound h
  | memoryTestStart => exact execMemoryTestStart_sound h
  | memoryTestAbort => exact execMemoryTestAbort_sound h
  | retentionHoldExpire => exact execRetentionHoldExpire_sound h
  | memoryTestDone => exact execMemoryTestDone_sound h
  | trainSetSeal => exact execTrainSetSeal_sound h
  | trainSetCheck => exact execTrainSetCheck_sound h
  | fwChunkReceive => exact execFwChunkReceive_sound h
  | fwReport => exact execFwReport_sound h
  | fwRelease => exact execFwRelease_sound h
  | powerStateRequest => exact execPowerStateRequest_sound h
  | halfClockRequest => exact execHalfClockRequest_sound h
  | coreClockWrite => exact execCoreClockWrite_sound h
  | pllRelockDone => exact execPllRelockDone_sound h
  | railVoutPoll => exact execRailVoutPoll_sound h
  | railConfirmTimeout => exact execRailConfirmTimeout_sound h
  | pmbRawTransaction => exact execPmbRawTransaction_sound h
  | pmbTransactionDone => exact execPmbTransactionDone_sound h
  | railPowerGood => exact execRailPowerGood_sound h
  | railPgTimeout => exact execRailPgTimeout_sound h
  | sequenceRetry => exact execSequenceRetry_sound h
  | railPgLoss => exact execRailPgLoss_sound h
  | wakeEvent => exact execWakeEvent_sound h
  | wakeTimerMatch => exact execWakeTimerMatch_sound h
  | governorInterval => exact execGovernorInterval_sound h
  | governorCorrection => exact execGovernorCorrection_sound h
  | thermalSample => exact execThermalSample_sound h
  | throttleStep => exact execThrottleStep_sound h
  | updateBegin => exact execUpdateBegin_sound h
  | updateData => exact execUpdateData_sound h
  | updateVerifyWrite => exact execUpdateVerifyWrite_sound h
  | updateApplyDone => exact execUpdateApplyDone_sound h
  | updateActivate => exact execUpdateActivate_sound h
  | updateAbort => exact execUpdateAbort_sound h
  | fwActivate => exact execFwActivate_sound h
  | fwSwap => exact execFwSwap_sound h
  | fwConfirm => exact execFwConfirm_sound h
  | fwFallbackCommand => exact execFwFallbackCommand_sound h
  | fwOpenInactive => exact execFwOpenInactive_sound h
  | sigCheckStart => exact execSigCheckStart_sound h
  | sigCheckDone => exact execSigCheckDone_sound h
  | fallbackTimerExpire => exact execFallbackTimerExpire_sound h
  | handoverReadyTimeout => exact execHandoverReadyTimeout_sound h
  | flashProgramCommand => exact execFlashProgramCommand_sound h
  | fwSwitchArm => exact execFwSwitchArm_sound h
  | chkStart => exact execChkStart_sound h
  | chkAbort => exact execChkAbort_sound h
  | chkJobDone => exact execChkJobDone_sound h
  | chkSecurityClaim => exact execChkSecurityClaim_sound h
  | chkProfileReset => exact execChkProfileReset_sound h
  | timerCountEvent => exact execTimerCountEvent_sound h
  | timerStart => exact execTimerStart_sound h
  | timerStop => exact execTimerStop_sound h
  | timerReset => exact execTimerReset_sound h
  | timerResetStart => exact execTimerResetStart_sound h
  | timerLoad => exact execTimerLoad_sound h
  | timerCapture => exact execTimerCapture_sound h
  | timerSlaveAction => exact execTimerSlaveAction_sound h
  | timerCaptureSource => exact execTimerCaptureSource_sound h
  | timerHeadRead => exact execTimerHeadRead_sound h
  | timerCaptureRead => exact execTimerCaptureRead_sound h
  | timerConfigWrite => exact execTimerConfigWrite_sound h
  | watchdogKick => exact execWatchdogKick_sound h
  | watchdogExpire => exact execWatchdogExpire_sound h
  | linkRetrainDone => exact execLinkRetrainDone_sound h
  | heartbeatTimeout => exact execHeartbeatTimeout_sound h
  | engineTimeout => exact execEngineTimeout_sound h
  | firmwareFenceWrite => exact execFirmwareFenceWrite_sound h
  | remapStart => exact execRemapStart_sound h
  | remapRestoreDone => exact execRemapRestoreDone_sound h
  | remapSwitch => exact execRemapSwitch_sound h
  | eventLogAppend => exact execEventLogAppend_sound h
  | firmwareLogAppend => exact execFirmwareLogAppend_sound h
  | opsLatchRead => exact execOpsLatchRead_sound h
  | counterClear => exact execCounterClear_sound h
  | traceWrite => exact execTraceWrite_sound h
  | waitDeclare => exact execWaitDeclare_sound h
  | hangAnalysisStart => exact execHangAnalysisStart_sound h
  | hangAnalysisSecondRead => exact execHangAnalysisSecondRead_sound h
  | jtagExtest => exact execJtagExtest_sound h
  | jtagSamplePreload => exact execJtagSamplePreload_sound h
  | jtagIdcode => exact execJtagIdcode_sound h
  | jtagUnlockChal => exact execJtagUnlockChal_sound h
  | jtagUnlockResp => exact execJtagUnlockResp_sound h
  | jtagDbgStatus => exact execJtagDbgStatus_sound h
  | jtagDbgAccess => exact execJtagDbgAccess_sound h
  | jtagBypass => exact execJtagBypass_sound h
  | trstAssert => exact execTrstAssert_sound h
  | jtagIdleTimeout => exact execJtagIdleTimeout_sound h
  | injectionArm => exact execInjectionArm_sound h
  | injectionDisarm => exact execInjectionDisarm_sound h
  | tbRateCode => exact execTbRateCode_sound h
  | vaonLoss => exact execVaonLoss_sound h
  | railPowerGoodFall => exact execRailPowerGoodFall_sound h
  | codeGroupErrors => exact execCodeGroupErrors_sound h
  | syncHeaderLock => exact execSyncHeaderLock_sound h
  | syncHeaderErrors => exact execSyncHeaderErrors_sound h
  | canBusError => exact execCanBusError_sound h
  | canFrameTransmitted => exact execCanFrameTransmitted_sound h
  | ethLinkChange => exact execEthLinkChange_sound h
  | pcieLinkUp => exact execPcieLinkUp_sound h
  | highWaterRead => exact execHighWaterRead_sound h
  | ptpInfoRead => exact execPtpInfoRead_sound h
  | fullScrubRead => exact execFullScrubRead_sound h

/-- Taking the front command off the queue leaves a sound state sound. -/
theorem pending_sound {q : List Instr} {s : State} (h : s.Sound) : State.Sound { s with pending := q } :=
  h.congr rfl rfl rfl rfl rfl rfl rfl

end Sys2Proof.Machine.State

namespace Sys2Proof
open Machine State

/-- Settles O5, by the step's two cases: an empty queue changes nothing, and every command's arm keeps soundness. -/
theorem stepKeepsSound : Obligations.StepKeepsSound := by
  unfold Obligations.StepKeepsSound
  intro s t hs hstep
  rw [step] at hstep
  split at hstep
  next =>
    cases hstep
    exact hs
  next c rest _ =>
    have h : ResultSound (exec c { s with pending := rest }) := exec_sound (pending_sound hs)
    rw [hstep] at h
    exact h

/-- Settles O3: every arm ends in `done`, some behind a case of the state. -/
theorem everyCommandGoesOn : Obligations.EveryCommandGoesOn := by
  unfold Obligations.EveryCommandGoesOn
  intro c s
  cases c with
  | stepRun slot => cases slot <;> exact goesOn_done
  | powerStateRequest target slot => cases slot <;> exact goesOn_done
  | areaClearDone | edgeReturnPip | nakReceive | echoReceive | stormNoticeReceive | throttleIncrease | delayStoreWrite
  | creditReturnReceive | creditRevokeReceive | selBusyWaitExpire | selAckTimeout =>
    simp only [exec, execEdgeReturnPip, execAreaClearDone, execNakReceive, execEchoReceive, execStormNoticeReceive,
      execThrottleIncrease, execDelayStoreWrite, execCreditReturnReceive, execCreditRevokeReceive,
      execSelBusyWaitExpire, execSelAckTimeout]
    repeat' split
    all_goals exact goesOn_done
  | _ => exact goesOn_done

/-- Settles O1: the step's match on a queue with a front. -/
theorem frontCommandRuns : Obligations.FrontCommandRuns := fun _ _ _ => rfl

/-- Settles O2: the step's match on an empty queue. -/
theorem emptyQueueIdles : Obligations.EmptyQueueIdles := by
  unfold Obligations.EmptyQueueIdles
  intro s h
  rw [step, h]

/-- Settles O4: every store of the reset state is empty, and its NMT state is pre-operational. -/
theorem resetIsSound : Obligations.ResetIsSound := State.reset_sound

/-- Settles O8, the law of the byte store. -/
theorem memoryReadsBack : Obligations.MemoryReadsBack := fun _ _ _ _ => rd8_raw8

/-- Settles O9, the law of the register store. -/
theorem registerReadsBack : Obligations.RegisterReadsBack := fun _ _ _ _ => reg_setReg

/-- Settles O7: each check value is the algorithm's run over nine bytes. -/
theorem checkColumn : Obligations.CheckColumn :=
  ⟨by decide +kernel, by decide +kernel, by decide +kernel, by decide +kernel⟩

end Sys2Proof
end

section
set_option Elab.async false
/-! PROOFS. The range of the membrane and the refractory hold of one neuron's update (R136, R137, R139). -/

namespace Sys2Proof.Machine

section
set_option Elab.async false
variable {c : Ctx} {n : Neuron} {acc : Nat}

theorem le_sat {x lo hi : Int} (h : lo ≤ hi) : lo ≤ sat x lo hi := by
  unfold sat
  split_ifs <;> omega

/-- The least membrane of a model (R137): V_MIN, and 0 for GRU. -/
def Ctx.floor (c : Ctx) : Int := if c.model = 4 then 0 else c.vMin

theorem Ctx.floor_le (h : c.vMin ≤ 32767) : c.floor ≤ 32767 := by
  unfold Ctx.floor
  split_ifs <;> omega

theorem Ctx.floor_le_membrane (h : c.vMin ≤ 32767) : c.floor ≤ c.membrane n acc := le_sat (Ctx.floor_le h)

/-- What an update of a neuron that is not refractory leaves in V: the membrane, or after a spike its reset (R136). -/
theorem Ctx.update_v (hr : n.ref = 0) : (c.update n acc).n.v = c.membrane n acc ∨
    (c.update n acc).fire = true ∧ c.model ≠ 4 ∧ (c.update n acc).n.v =
      if c.reset = 0 then 0 else sat (c.membrane n acc - c.threshold n) c.floor 32767 := by
  by_cases hm : c.model = 4
  · exact .inl (congrArg (fun u : Updated => u.n.v) ((if_neg hr.not_gt).trans (if_pos hm)))
  · by_cases hth : c.threshold n ≤ c.membrane n acc
    · exact .inr ⟨congrArg Updated.fire ((if_neg hr.not_gt).trans ((if_neg hm).trans (if_pos (decide_eq_true hth)))), hm,
        congrArg (fun u : Updated => u.n.v) ((if_neg hr.not_gt).trans ((if_neg hm).trans (if_pos (decide_eq_true hth))))⟩
    · exact .inl (congrArg (fun u : Updated => u.n.v) ((if_neg hr.not_gt).trans ((if_neg hm).trans (if_neg (mt of_decide_eq_true hth)))))

/-- The update of a refractory neuron (R139). -/
theorem Ctx.update_n_of_refractory (hr : 0 < n.ref) : ∃ trace, (c.update n acc).n =
    { n with a := if c.model = 2 then decay n.a c.aDecay else n.a, trace := trace, ref := n.ref - 1 } :=
  ⟨_, congrArg Updated.n (if_pos hr)⟩

end

end Sys2Proof.Machine

namespace Sys2Proof
open Machine

/-- Settles O18: V is the membrane, which is saturated into its range, or what a reset to zero or a saturated one leaves. -/
theorem membraneStaysInRange : Obligations.MembraneStaysInRange := by
  unfold Obligations.MembraneStaysInRange
  intro c n acc hr hv
  obtain h | ⟨hf, hm, h⟩ := Ctx.update_v (c := c) (acc := acc) hr
  · rw [h]
    exact ⟨Ctx.membrane_le hv, .inl (Ctx.floor_le_membrane hv)⟩
  · rw [h]
    by_cases h0 : c.reset = 0
    · rw [if_pos h0]
      exact ⟨by decide, .inr ⟨hf, hm, h0, rfl⟩⟩
    · rw [if_neg h0]
      exact ⟨sat_le_hi (Ctx.floor_le hv), .inl (le_sat (Ctx.floor_le hv))⟩

/-- Settles O19, from the branch of the update that a refractory neuron takes. -/
theorem refractoryNeuronHolds : Obligations.RefractoryNeuronHolds := by
  unfold Obligations.RefractoryNeuronHolds
  intro c n acc hr
  obtain ⟨trace, h⟩ := Ctx.update_n_of_refractory (c := c) (acc := acc) hr
  rw [h]
  exact ⟨Ctx.update_fire_of_refractory hr.ne', rfl, rfl, rfl, rfl⟩

end Sys2Proof
end

section
set_option Elab.async false
/-! PROOFS. Footprints: which parts of the state each operation may change. Each operation has one lemma, that it leaves every part
beyond its footprint as it was; what it keeps of any reading of the state that does not look at those parts follows. -/

namespace Sys2Proof.Machine

/-- The parts of a state, by field; `lost` is the list of re-forms beside the rest of `memories`, and decides with `mem` what a byte
of memory reads as (R426). -/
inductive Part where
| regs | mem | latches | freeCount | events | mesh | once | deliveryOpen | launched | scanRegs | objs | fault |
  loadStep | clearing | creditDue | oooSeen | delivery | streams | memories | progress | hub | sent | answer | wakes |
  can | canMode | canStandby | nmt | guard | sec | selectors | calendar | emcy | fw | chkWait | timers | hang | jtag |
  posted | accesses | tlk | tlkIn | clock | tbRate | power | start | totals | records | images | staging | unsaved |
  node | restoreDue | field | gates | lost
  deriving DecidableEq

/-- The memories' own state with the re-forms, the rest, or both blotted out. -/
def Memories.blot (m : Memories) (rest lost : Bool) : Memories :=
  { (if rest then Memories.empty else m) with lost := if lost then [] else m.lost }

/-- A state with the parts `F` blotted out. The choices are written with `Bool.rec` so that comparing two such states looks at a
part only after its choice. -/
noncomputable def State.outside (F : List Part) (s : State) : State where
  regs := Bool.rec s.regs State.reset.regs (F.contains .regs)
  mem := Bool.rec s.mem State.reset.mem (F.contains .mem)
  latches := Bool.rec s.latches State.reset.latches (F.contains .latches)
  pending := s.pending
  freeCount := Bool.rec s.freeCount State.reset.freeCount (F.contains .freeCount)
  events := Bool.rec s.events State.reset.events (F.contains .events)
  mesh := Bool.rec s.mesh State.reset.mesh (F.contains .mesh)
  once := Bool.rec s.once State.reset.once (F.contains .once)
  deliveryOpen := Bool.rec s.deliveryOpen State.reset.deliveryOpen (F.contains .deliveryOpen)
  launched := Bool.rec s.launched State.reset.launched (F.contains .launched)
  scanRegs := Bool.rec s.scanRegs State.reset.scanRegs (F.contains .scanRegs)
  objs := Bool.rec s.objs State.reset.objs (F.contains .objs)
  fault := Bool.rec s.fault State.reset.fault (F.contains .fault)
  loadStep := Bool.rec s.loadStep State.reset.loadStep (F.contains .loadStep)
  clearing := Bool.rec s.clearing State.reset.clearing (F.contains .clearing)
  creditDue := Bool.rec s.creditDue State.reset.creditDue (F.contains .creditDue)
  oooSeen := Bool.rec s.oooSeen State.reset.oooSeen (F.contains .oooSeen)
  delivery := Bool.rec s.delivery State.reset.delivery (F.contains .delivery)
  streams := Bool.rec s.streams State.reset.streams (F.contains .streams)
  memories := s.memories.blot (F.contains .memories) (F.contains .lost)
  progress := Bool.rec s.progress State.reset.progress (F.contains .progress)
  hub := Bool.rec s.hub State.reset.hub (F.contains .hub)
  sent := Bool.rec s.sent State.reset.sent (F.contains .sent)
  answer := Bool.rec s.answer State.reset.answer (F.contains .answer)
  wakes := Bool.rec s.wakes State.reset.wakes (F.contains .wakes)
  can := Bool.rec s.can State.reset.can (F.contains .can)
  canMode := Bool.rec s.canMode State.reset.canMode (F.contains .canMode)
  canStandby := Bool.rec s.canStandby State.reset.canStandby (F.contains .canStandby)
  nmt := Bool.rec s.nmt State.reset.nmt (F.contains .nmt)
  guard := Bool.rec s.guard State.reset.guard (F.contains .guard)
  sec := Bool.rec s.sec State.reset.sec (F.contains .sec)
  selectors := Bool.rec s.selectors State.reset.selectors (F.contains .selectors)
  calendar := Bool.rec s.calendar State.reset.calendar (F.contains .calendar)
  emcy := Bool.rec s.emcy State.reset.emcy (F.contains .emcy)
  fw := Bool.rec s.fw State.reset.fw (F.contains .fw)
  chkWait := Bool.rec s.chkWait State.reset.chkWait (F.contains .chkWait)
  timers := Bool.rec s.timers State.reset.timers (F.contains .timers)
  hang := Bool.rec s.hang State.reset.hang (F.contains .hang)
  jtag := Bool.rec s.jtag State.reset.jtag (F.contains .jtag)
  posted := Bool.rec s.posted State.reset.posted (F.contains .posted)
  accesses := Bool.rec s.accesses State.reset.accesses (F.contains .accesses)
  tlk := Bool.rec s.tlk State.reset.tlk (F.contains .tlk)
  tlkIn := Bool.rec s.tlkIn State.reset.tlkIn (F.contains .tlkIn)
  clock := Bool.rec s.clock State.reset.clock (F.contains .clock)
  tbRate := Bool.rec s.tbRate State.reset.tbRate (F.contains .tbRate)
  power := Bool.rec s.power State.reset.power (F.contains .power)
  start := Bool.rec s.start State.reset.start (F.contains .start)
  totals := Bool.rec s.totals State.reset.totals (F.contains .totals)
  records := Bool.rec s.records State.reset.records (F.contains .records)
  images := Bool.rec s.images State.reset.images (F.contains .images)
  staging := Bool.rec s.staging State.reset.staging (F.contains .staging)
  unsaved := Bool.rec s.unsaved State.reset.unsaved (F.contains .unsaved)
  node := Bool.rec s.node State.reset.node (F.contains .node)
  restoreDue := Bool.rec s.restoreDue State.reset.restoreDue (F.contains .restoreDue)
  field := Bool.rec s.field State.reset.field (F.contains .field)
  gates := Bool.rec s.gates State.reset.gates (F.contains .gates)

/-- State `t` is `s` outside the parts `F`. -/
def SameBut (F : List Part) (s t : State) : Prop := t.outside F = s.outside F

theorem SameBut.refl {F : List Part} {s : State} : SameBut F s s := rfl

/-- What does not look at the parts `F` reads alike in two states that are the same outside them. -/
theorem SameBut.eq {F : List Part} {s t : State} {α : Type} {f : State → α} (h : SameBut F s t)
    (hf : ∀ u, f (u.outside F) = f u) : f t = f s := by
  rw [← hf t, ← hf s, h]

theorem SameBut.sameBytes {F : List Part} {s t : State} (h : SameBut F s t) (hm : F.contains .mem = false)
    (hl : F.contains .lost = false) : s.sameBytes t := fun a => by
  refine h.eq (f := fun u => u.rd8 a) fun u => ?_
  simp only [State.rd8, State.veil, State.outside, hm, hl]
  rfl

theorem Memories.blot_blot {m : Memories} {a b a' b' : Bool} (h : a = true → a' = true) (h' : b = true → b' = true) :
    (m.blot a b).blot a' b' = m.blot a' b' := by
  cases a <;> cases b <;> cases a' <;> cases b' <;> simp_all [Memories.blot]

/-- Blotting out more parts forgets what blotting out fewer leaves. -/
theorem State.outside_outside {F G : List Part} (h : G ⊆ F) {s : State} : (s.outside G).outside F = s.outside F := by
  have hc : ∀ p : Part, G.contains p = true → F.contains p = true := fun p => by
    simpa only [List.contains_iff_mem] using @h p
  have hite : ∀ {α : Type} (p : Part) (a b : α),
      (Bool.rec (Bool.rec b a (G.contains p)) a (F.contains p) : α) = Bool.rec b a (F.contains p) := fun p a b => by
    have := hc p
    cases hG : G.contains p <;> cases hF : F.contains p <;> simp_all
  simp only [State.outside, hite, Memories.blot_blot (hc _) (hc _)]

theorem SameBut.mono {F G : List Part} {s t : State} (hG : G ⊆ F) (h : SameBut G s t) : SameBut F s t := by
  rw [SameBut, ← State.outside_outside hG (s := t), ← State.outside_outside hG (s := s), h]

/-- A record update of parts of `F` keeps what is the same outside `F`. -/
theorem sameBut_mk {F G : List Part} {s₀ s : State} {x_regs x_mem x_latches x_freeCount x_events x_mesh x_once
    x_deliveryOpen x_launched x_scanRegs x_objs x_fault x_loadStep x_clearing x_creditDue x_oooSeen x_delivery x_streams
    x_memories x_progress x_hub x_sent x_answer x_wakes x_can x_canMode x_canStandby x_nmt x_guard x_sec x_selectors
    x_calendar x_emcy x_fw x_chkWait x_timers x_hang x_jtag x_posted x_accesses x_tlk x_tlkIn x_clock x_tbRate x_power
    x_start x_totals x_records x_images x_staging x_unsaved x_node x_restoreDue x_field x_gates} (hG : G ⊆ F) (h :
    SameBut F s₀ s)
    (e : (State.mk x_regs x_mem x_latches s.pending x_freeCount x_events x_mesh x_once x_deliveryOpen x_launched x_scanRegs
    x_objs x_fault x_loadStep x_clearing x_creditDue x_oooSeen x_delivery x_streams x_memories x_progress x_hub x_sent
    x_answer x_wakes x_can x_canMode x_canStandby x_nmt x_guard x_sec x_selectors x_calendar x_emcy x_fw x_chkWait
    x_timers x_hang x_jtag x_posted x_accesses x_tlk x_tlkIn x_clock x_tbRate x_power x_start x_totals x_records
    x_images x_staging x_unsaved x_node x_restoreDue x_field x_gates).outside G = s.outside G := by
      unfold State.outside; with_unfolding_all exact rfl) :
    SameBut F s₀ (State.mk x_regs x_mem x_latches s.pending x_freeCount x_events x_mesh x_once x_deliveryOpen x_launched
    x_scanRegs x_objs x_fault x_loadStep x_clearing x_creditDue x_oooSeen x_delivery x_streams x_memories x_progress
    x_hub x_sent x_answer x_wakes x_can x_canMode x_canStandby x_nmt x_guard x_sec x_selectors x_calendar x_emcy x_fw
    x_chkWait x_timers x_hang x_jtag x_posted x_accesses x_tlk x_tlkIn x_clock x_tbRate x_power x_start x_totals
    x_records x_images x_staging x_unsaved x_node x_restoreDue x_field x_gates) :=
  (SameBut.mono hG e).trans h

/-! The forms that the meanings are written in: folds, choices, pairs and options. -/

variable {α β : Type} {P : State → Prop} {s t : State}

theorem keeps_fst {p : State × α} {a : State} {b : α} (h : P p.1) (e : p = (a, b)) : P a := by
  subst e; exact h

/-- A fold of updates that each keep a predicate of what `g` reads keeps it. -/
theorem keeps_foldl_of {σ : Type} (g : σ → State) {f : σ → α → σ} {x : σ} (l : List α) (h : P (g x))
    (hf : ∀ x, P (g x) → ∀ a, P (g (f x a))) : P (g (l.foldl f x)) := by
  induction l generalizing x with
  | nil => exact h
  | cons a r ih => exact ih (hf x h a)

theorem keeps_foldl {f : State → α → State} (l : List α) (h : P s) (hf : ∀ x, P x → ∀ a, P (f x a)) : P (l.foldl f s) :=
  keeps_foldl_of id l h hf

theorem keeps_foldl_fst {f : State × β → α → State × β} {p : State × β} (l : List α) (h : P p.1)
    (hf : ∀ x, P x.1 → ∀ a, P (f x a).1) : P (l.foldl f p).1 := keeps_foldl_of Prod.fst l h hf

theorem keeps_foldl_snd {f : β × State → α → β × State} {p : β × State} (l : List α) (h : P p.2)
    (hf : ∀ x, P x.2 → ∀ a, P (f x a).2) : P (l.foldl f p).2 := keeps_foldl_of Prod.snd l h hf

theorem keeps_foldl_award {f : State.Award → α → State.Award} {x : State.Award} (l : List α) (h : P x.st)
    (hf : ∀ x : State.Award, P x.st → ∀ a, P (f x a).st) : P (l.foldl f x).st := keeps_foldl_of _ l h hf

theorem keeps_foldl_pass {f : Pass → α → Pass} {x : Pass} (l : List α) (h : P x.st)
    (hf : ∀ x : Pass, P x.st → ∀ a, P (f x a).st) : P (l.foldl f x).st := keeps_foldl_of _ l h hf

theorem keeps_foldl_scan {f : Scan → α → Scan} {x : Scan} (l : List α) (h : P x.st)
    (hf : ∀ x : Scan, P x.st → ∀ a, P (f x a).st) : P (l.foldl f x).st := keeps_foldl_of _ l h hf

theorem keeps_ite {c : Prop} [Decidable c] (hs : P s) (ht : P t) : P (if c then s else t) := by
  split <;> assumption

theorem keeps_ite_fst {c : Prop} [Decidable c] {p q : State × α} (hp : P p.1) (hq : P q.1) :
    P (if c then p else q).1 := by
  split <;> assumption

theorem keeps_ite_snd {c : Prop} [Decidable c] {p q : β × State} (hp : P p.2) (hq : P q.2) :
    P (if c then p else q).2 := by
  split <;> assumption

theorem keeps_id (h : P s) : P (id s) := h

theorem keeps_none : ∀ t : State, none = some t → P t := fun _ h => by cases h

theorem keeps_some (h : P s) : ∀ t, some s = some t → P t := fun _ e => by cases e; exact h

theorem keeps_some_snd {a : α} (h : P s) : ∀ b t, some (a, s) = some (b, t) → P t :=
  fun _ _ e => by cases e; exact h

theorem keeps_none_snd : ∀ (b : α) (t : State), none = some (b, t) → P t := fun _ _ h => by cases h

theorem keeps_or {a b : Option State} (ha : ∀ t, a = some t → P t) (hb : ∀ t, b = some t → P t) :
    ∀ t, a.or b = some t → P t := by
  cases a with
  | none => exact hb
  | some x => exact ha

theorem keeps_map {o : Option State} {f : State → State} (ho : ∀ t, o = some t → P t) (hf : ∀ x, P x → P (f x)) :
    ∀ t, o.map f = some t → P t := by
  cases o with
  | none => intro t e; cases e
  | some x => intro t e; cases e; exact hf x (ho x rfl)

theorem keeps_bind {o : Option State} {f : State → Option State} (ho : ∀ t, o = some t → P t)
    (hf : ∀ x, P x → ∀ t, f x = some t → P t) : ∀ t, o.bind f = some t → P t := by
  cases o with
  | none => intro t e; cases e
  | some x => exact hf x (ho x rfl)

theorem keeps_foldl_opt {f : Option State → α → Option State} {o : Option State} (l : List α)
    (ho : ∀ t, o = some t → P t)
    (hf : ∀ o : Option State, (∀ t, o = some t → P t) → ∀ a t, f o a = some t → P t) :
    ∀ t, l.foldl f o = some t → P t := by
  induction l generalizing o with
  | nil => exact ho
  | cons a r ih => exact ih (hf o ho a)

theorem keeps_getD {o : Option State} (ho : ∀ x, o = some x → P x) (h : P s) : P (o.getD s) := by
  cases o with
  | none => exact h
  | some x => exact ho x rfl

/-! The updates that footprints are made of. -/

variable {F : List Part} {s₀ : State}

theorem subset_of {G H : List Part} (hF : H ⊆ F) (h : G ⊆ H) : G ⊆ F := List.Subset.trans h hF

/-- An outcome whose next state, where it has one, is the same outside `F`. -/
def ResultSameBut (F : List Part) (s : State) : Result → Prop
  | .next t => SameBut F s t
  | _ => True

/-- No part blots out the waiting commands. -/
theorem SameBut.pending (h : SameBut F s t) : t.pending = s.pending := h.eq (f := State.pending) fun _ => rfl

theorem State.done_sameBut (hs : SameBut F s₀ s) (h : SameBut F s₀ t) : ResultSameBut F s₀ (s.done t) := by
  have hq : t.withQueue s.pending = t := by rw [State.withQueue, hs.pending, ← h.pending]
  exact (congrArg (SameBut F s₀) hq).mpr h

theorem keeps_ite_result {c : Prop} [Decidable c] {p q : Result} (hp : ResultSameBut F s₀ p)
    (hq : ResultSameBut F s₀ q) : ResultSameBut F s₀ (if c then p else q) := by
  split <;> assumption

theorem State.setReg_sameBut (hF : [Part.regs] ⊆ F) {a w} (h : SameBut F s₀ s) : SameBut F s₀ (State.setReg s a w) :=
  (SameBut.mono (s := s) (t := State.setReg s a w) hF rfl).trans h

theorem State.setObj_sameBut (hF : [Part.objs] ⊆ F) {i j v} (h : SameBut F s₀ s) :
    SameBut F s₀ (State.setObj s i j v) :=
  (SameBut.mono (s := s) (t := State.setObj s i j v) hF rfl).trans h

theorem State.raw8_sameBut (hF : [Part.mem] ⊆ F) {a b} (h : SameBut F s₀ s) : SameBut F s₀ (State.raw8 s a b) :=
  (SameBut.mono (s := s) (t := State.raw8 s a b) hF rfl).trans h

theorem State.onFault_sameBut (hF : [Part.fault] ⊆ F) {f} (h : SameBut F s₀ s) : SameBut F s₀ (State.onFault s f) :=
  (SameBut.mono (s := s) (t := State.onFault s f) hF rfl).trans h

/-! The updates of one field. -/

theorem State.withMem_sameBut (hF : [Part.mem] ⊆ F) {x} (h : SameBut F s₀ s) : SameBut F s₀ { s with mem := x } :=
  sameBut_mk hF h

theorem State.withLatches_sameBut (hF : [Part.latches] ⊆ F) {x} (h : SameBut F s₀ s) : SameBut F s₀ { s with latches := x } :=
  sameBut_mk hF h

theorem State.withFreeCount_sameBut (hF : [Part.freeCount] ⊆ F) {x} (h : SameBut F s₀ s) : SameBut F s₀ { s with freeCount := x } :=
  sameBut_mk hF h

theorem State.withEvents_sameBut (hF : [Part.events] ⊆ F) {x} (h : SameBut F s₀ s) : SameBut F s₀ { s with events := x } :=
  sameBut_mk hF h

theorem State.withMesh_sameBut (hF : [Part.mesh] ⊆ F) {x} (h : SameBut F s₀ s) : SameBut F s₀ { s with mesh := x } :=
  sameBut_mk hF h

theorem State.withOnce_sameBut (hF : [Part.once] ⊆ F) {x} (h : SameBut F s₀ s) : SameBut F s₀ { s with once := x } :=
  sameBut_mk hF h

theorem State.withDeliveryOpen_sameBut (hF : [Part.deliveryOpen] ⊆ F) {x} (h : SameBut F s₀ s) : SameBut F s₀ { s with deliveryOpen := x } :=
  sameBut_mk hF h

theorem State.withScanRegs_sameBut (hF : [Part.scanRegs] ⊆ F) {x} (h : SameBut F s₀ s) : SameBut F s₀ { s with scanRegs := x } :=
  sameBut_mk hF h

theorem State.withObjs_sameBut (hF : [Part.objs] ⊆ F) {x} (h : SameBut F s₀ s) : SameBut F s₀ { s with objs := x } :=
  sameBut_mk hF h

theorem State.withFault_sameBut (hF : [Part.fault] ⊆ F) {x} (h : SameBut F s₀ s) : SameBut F s₀ { s with fault := x } :=
  sameBut_mk hF h

theorem State.withLoadStep_sameBut (hF : [Part.loadStep] ⊆ F) {x} (h : SameBut F s₀ s) : SameBut F s₀ { s with loadStep := x } :=
  sameBut_mk hF h

theorem State.withClearing_sameBut (hF : [Part.clearing] ⊆ F) {x} (h : SameBut F s₀ s) : SameBut F s₀ { s with clearing := x } :=
  sameBut_mk hF h

theorem State.withCreditDue_sameBut (hF : [Part.creditDue] ⊆ F) {x} (h : SameBut F s₀ s) : SameBut F s₀ { s with creditDue := x } :=
  sameBut_mk hF h

theorem State.withOooSeen_sameBut (hF : [Part.oooSeen] ⊆ F) {x} (h : SameBut F s₀ s) : SameBut F s₀ { s with oooSeen := x } :=
  sameBut_mk hF h

theorem State.withDelivery_sameBut (hF : [Part.delivery] ⊆ F) {x} (h : SameBut F s₀ s) : SameBut F s₀ { s with delivery := x } :=
  sameBut_mk hF h

theorem State.withStreams_sameBut (hF : [Part.streams] ⊆ F) {x} (h : SameBut F s₀ s) : SameBut F s₀ { s with streams := x } :=
  sameBut_mk hF h

theorem State.withProgress_sameBut (hF : [Part.progress] ⊆ F) {x} (h : SameBut F s₀ s) : SameBut F s₀ { s with progress := x } :=
  sameBut_mk hF h

theorem State.withHub_sameBut (hF : [Part.hub] ⊆ F) {x} (h : SameBut F s₀ s) : SameBut F s₀ { s with hub := x } :=
  sameBut_mk hF h

theorem State.withSent_sameBut (hF : [Part.sent] ⊆ F) {x} (h : SameBut F s₀ s) : SameBut F s₀ { s with sent := x } :=
  sameBut_mk hF h

theorem State.withAnswer_sameBut (hF : [Part.answer] ⊆ F) {x} (h : SameBut F s₀ s) : SameBut F s₀ { s with answer := x } :=
  sameBut_mk hF h

theorem State.withWakes_sameBut (hF : [Part.wakes] ⊆ F) {x} (h : SameBut F s₀ s) : SameBut F s₀ { s with wakes := x } :=
  sameBut_mk hF h

theorem State.withCan_sameBut (hF : [Part.can] ⊆ F) {x} (h : SameBut F s₀ s) : SameBut F s₀ { s with can := x } :=
  sameBut_mk hF h

theorem State.withCanStandby_sameBut (hF : [Part.canStandby] ⊆ F) {x} (h : SameBut F s₀ s) : SameBut F s₀ { s with canStandby := x } :=
  sameBut_mk hF h

theorem State.withNmt_sameBut (hF : [Part.nmt] ⊆ F) {x} (h : SameBut F s₀ s) : SameBut F s₀ { s with nmt := x } :=
  sameBut_mk hF h

theorem State.withGuard_sameBut (hF : [Part.guard] ⊆ F) {x} (h : SameBut F s₀ s) : SameBut F s₀ { s with guard := x } :=
  sameBut_mk hF h

theorem State.withSec_sameBut (hF : [Part.sec] ⊆ F) {x} (h : SameBut F s₀ s) : SameBut F s₀ { s with sec := x } :=
  sameBut_mk hF h

theorem State.withSelectors_sameBut (hF : [Part.selectors] ⊆ F) {x} (h : SameBut F s₀ s) : SameBut F s₀ { s with selectors := x } :=
  sameBut_mk hF h

theorem State.withEmcy_sameBut (hF : [Part.emcy] ⊆ F) {x} (h : SameBut F s₀ s) : SameBut F s₀ { s with emcy := x } :=
  sameBut_mk hF h

theorem State.withFw_sameBut (hF : [Part.fw] ⊆ F) {x} (h : SameBut F s₀ s) : SameBut F s₀ { s with fw := x } :=
  sameBut_mk hF h

theorem State.withChkWait_sameBut (hF : [Part.chkWait] ⊆ F) {x} (h : SameBut F s₀ s) : SameBut F s₀ { s with chkWait := x } :=
  sameBut_mk hF h

theorem State.withTimers_sameBut (hF : [Part.timers] ⊆ F) {x} (h : SameBut F s₀ s) : SameBut F s₀ { s with timers := x } :=
  sameBut_mk hF h

theorem State.withHang_sameBut (hF : [Part.hang] ⊆ F) {x} (h : SameBut F s₀ s) : SameBut F s₀ { s with hang := x } :=
  sameBut_mk hF h

theorem State.withPosted_sameBut (hF : [Part.posted] ⊆ F) {x} (h : SameBut F s₀ s) : SameBut F s₀ { s with posted := x } :=
  sameBut_mk hF h

theorem State.withTlk_sameBut (hF : [Part.tlk] ⊆ F) {x} (h : SameBut F s₀ s) : SameBut F s₀ { s with tlk := x } :=
  sameBut_mk hF h

theorem State.withTlkIn_sameBut (hF : [Part.tlkIn] ⊆ F) {x} (h : SameBut F s₀ s) : SameBut F s₀ { s with tlkIn := x } :=
  sameBut_mk hF h

theorem State.withClock_sameBut (hF : [Part.clock] ⊆ F) {x} (h : SameBut F s₀ s) : SameBut F s₀ { s with clock := x } :=
  sameBut_mk hF h

theorem State.withTbRate_sameBut (hF : [Part.tbRate] ⊆ F) {x} (h : SameBut F s₀ s) : SameBut F s₀ { s with tbRate := x } :=
  sameBut_mk hF h

theorem State.withPower_sameBut (hF : [Part.power] ⊆ F) {x} (h : SameBut F s₀ s) : SameBut F s₀ { s with power := x } :=
  sameBut_mk hF h

theorem State.withStart_sameBut (hF : [Part.start] ⊆ F) {x} (h : SameBut F s₀ s) : SameBut F s₀ { s with start := x } :=
  sameBut_mk hF h

theorem State.withTotals_sameBut (hF : [Part.totals] ⊆ F) {x} (h : SameBut F s₀ s) : SameBut F s₀ { s with totals := x } :=
  sameBut_mk hF h

theorem State.withRecords_sameBut (hF : [Part.records] ⊆ F) {x} (h : SameBut F s₀ s) : SameBut F s₀ { s with records := x } :=
  sameBut_mk hF h

theorem State.withImages_sameBut (hF : [Part.images] ⊆ F) {x} (h : SameBut F s₀ s) : SameBut F s₀ { s with images := x } :=
  sameBut_mk hF h

theorem State.withStaging_sameBut (hF : [Part.staging] ⊆ F) {x} (h : SameBut F s₀ s) : SameBut F s₀ { s with staging := x } :=
  sameBut_mk hF h

theorem State.withUnsaved_sameBut (hF : [Part.unsaved] ⊆ F) {x} (h : SameBut F s₀ s) : SameBut F s₀ { s with unsaved := x } :=
  sameBut_mk hF h

theorem State.withRestoreDue_sameBut (hF : [Part.restoreDue] ⊆ F) {x} (h : SameBut F s₀ s) : SameBut F s₀ { s with restoreDue := x } :=
  sameBut_mk hF h

theorem State.withField_sameBut (hF : [Part.field] ⊆ F) {x} (h : SameBut F s₀ s) : SameBut F s₀ { s with field := x } :=
  sameBut_mk hF h

theorem State.withGates_sameBut (hF : [Part.gates] ⊆ F) {x} (h : SameBut F s₀ s) : SameBut F s₀ { s with gates := x } :=
  sameBut_mk hF h

theorem State.withAnswerAccesses_sameBut (hF : [Part.answer, .accesses] ⊆ F) {x_answer x_accesses}
    (h : SameBut F s₀ s) :
    SameBut F s₀ { s with answer := x_answer, accesses := x_accesses } :=
  sameBut_mk hF h

theorem State.withCanModeCanStandbyNode_sameBut (hF : [Part.canMode, .canStandby, .node] ⊆ F) {x_canMode x_canStandby x_node}
    (h : SameBut F s₀ s) :
    SameBut F s₀ { s with canMode := x_canMode, canStandby := x_canStandby, node := x_node } :=
  sameBut_mk hF h

theorem State.withCanModeNode_sameBut (hF : [Part.canMode, .node] ⊆ F) {x_canMode x_node}
    (h : SameBut F s₀ s) :
    SameBut F s₀ { s with canMode := x_canMode, node := x_node } :=
  sameBut_mk hF h

theorem State.withClearingCreditDue_sameBut (hF : [Part.clearing, .creditDue] ⊆ F) {x_clearing x_creditDue}
    (h : SameBut F s₀ s) :
    SameBut F s₀ { s with clearing := x_clearing, creditDue := x_creditDue } :=
  sameBut_mk hF h

theorem State.withClearingCreditDueOooSeen_sameBut (hF : [Part.clearing, .creditDue, .oooSeen] ⊆ F) {x_clearing x_creditDue x_oooSeen}
    (h : SameBut F s₀ s) :
    SameBut F s₀ { s with clearing := x_clearing, creditDue := x_creditDue, oooSeen := x_oooSeen } :=
  sameBut_mk hF h

theorem State.withDeliveryOpenLaunched_sameBut (hF : [Part.deliveryOpen, .launched] ⊆ F) {x_deliveryOpen x_launched}
    (h : SameBut F s₀ s) :
    SameBut F s₀ { s with deliveryOpen := x_deliveryOpen, launched := x_launched } :=
  sameBut_mk hF h

theorem State.withImagesUnsaved_sameBut (hF : [Part.images, .unsaved] ⊆ F) {x_images x_unsaved}
    (h : SameBut F s₀ s) :
    SameBut F s₀ { s with images := x_images, unsaved := x_unsaved } :=
  sameBut_mk hF h

theorem State.withMemMemories_sameBut (hF : [Part.mem, .memories, .lost] ⊆ F) {x_mem x_memories}
    (h : SameBut F s₀ s) :
    SameBut F s₀ { s with mem := x_mem, memories := x_memories } :=
  sameBut_mk hF h

theorem State.withNmtField_sameBut (hF : [Part.nmt, .field] ⊆ F) {x_nmt x_field}
    (h : SameBut F s₀ s) :
    SameBut F s₀ { s with nmt := x_nmt, field := x_field } :=
  sameBut_mk hF h

theorem State.withRegsMem_sameBut (hF : [Part.regs, .mem] ⊆ F) {x_regs x_mem}
    (h : SameBut F s₀ s) :
    SameBut F s₀ { s with regs := x_regs, mem := x_mem } :=
  sameBut_mk hF h

theorem State.withRegsMemClearingCreditDueOooSeen_sameBut (hF : [Part.regs, .mem, .clearing, .creditDue, .oooSeen] ⊆ F)
    {x_regs x_mem x_clearing x_creditDue x_oooSeen}
    (h : SameBut F s₀ s) :
    SameBut F s₀ { s with regs := x_regs, mem := x_mem, clearing := x_clearing, creditDue := x_creditDue, oooSeen := x_oooSeen } :=
  sameBut_mk hF h

theorem State.onMemories_sameBut (hF : [Part.memories] ⊆ F) {f} (hf : ∀ m : Memories, (f m).lost = m.lost)
    (h : SameBut F s₀ s) : SameBut F s₀ (State.onMemories s f) := by
  refine (SameBut.mono (s := s) hF ?_).trans h
  have hl := hf s.memories
  simp only [SameBut, State.outside, State.onMemories, Memories.blot, hl]
  rfl

theorem State.onMemories_sameBut_lost (hF : [Part.memories, .lost] ⊆ F) {f} (h : SameBut F s₀ s) :
    SameBut F s₀ (State.onMemories s f) :=
  (SameBut.mono (s := s) (t := State.onMemories s f) hF rfl).trans h

end Sys2Proof.Machine
end

section
set_option Elab.async false
/-! PROOFS. The footprints of the operations of `Sys2Proof/Machine/Ops.lean`. -/

namespace Sys2Proof.Machine.State

set_option linter.unusedTactic false
set_option linter.unreachableTactic false

variable {F : List Part} {s₀ : State}

theorem put_sameBut (hF : [Part.regs] ⊆ F) {s : State} {f v} (h0 : SameBut F s₀ s) : SameBut F s₀ (put s f v) := by
  unfold put
  with_reducible repeat' first | assumption | exact subset_of hF (by decide) | intro _ | apply setReg_sameBut

theorem count_sameBut (hF : [Part.regs] ⊆ F) {s : State} {f n} (h0 : SameBut F s₀ s) : SameBut F s₀ (count s f n) := by
  unfold count
  with_reducible repeat' first | assumption | exact subset_of hF (by decide) | intro _ | apply put_sameBut

theorem raiseTo_sameBut (hF : [Part.regs] ⊆ F) {s : State} {f v} (h0 : SameBut F s₀ s) :
    SameBut F s₀ (raiseTo s f v) := by
  unfold raiseTo
  with_reducible repeat' first | assumption | exact subset_of hF (by decide) | intro _ | apply put_sameBut

theorem put64_sameBut (hF : [Part.regs] ⊆ F) {s : State} {a v} (h0 : SameBut F s₀ s) : SameBut F s₀ (put64 s a v) := by
  unfold put64
  with_reducible repeat' first | assumption | exact subset_of hF (by decide) | intro _ | apply setReg_sameBut

theorem add64_sameBut (hF : [Part.regs] ⊆ F) {s : State} {a n} (h0 : SameBut F s₀ s) : SameBut F s₀ (add64 s a n) := by
  unfold add64
  with_reducible repeat' first | assumption | exact subset_of hF (by decide) | intro _ | apply put64_sameBut

theorem rawBytes_sameBut (hF : [Part.mem] ⊆ F) {s : State} {a : Nat} {l : List Byte} (h : SameBut F s₀ s) :
    SameBut F s₀ (rawBytes s a l) := by
  induction l generalizing s a with
  | nil => exact h
  | cons b bs ih => exact ih (raw8_sameBut hF h)

theorem useFree_sameBut (hF : [Part.freeCount] ⊆ F) {s : State} (h0 : SameBut F s₀ s) : SameBut F s₀ (useFree s) := by
  unfold useFree
  with_reducible repeat' first | assumption | exact subset_of hF (by decide) | intro _ | apply withFreeCount_sameBut

theorem reach_sameBut (hF : [Part.regs] ⊆ F) {s : State} {t} (h0 : SameBut F s₀ s) : SameBut F s₀ (reach s t) := by
  unfold reach
  with_reducible repeat' first
    | assumption | exact subset_of hF (by decide) | intro _ | apply keeps_ite | apply put64_sameBut

theorem log_sameBut (hF : [Part.regs, .events] ⊆ F) {s : State} {b inst2 code source p0 p1}
    (h0 : SameBut F s₀ s) :
    SameBut F s₀ (log s b inst2 code source p0 p1) := by
  unfold log
  with_reducible repeat' first
    | assumption | exact subset_of hF (by decide) | intro _ | apply keeps_ite | apply count_sameBut
    | apply withEvents_sameBut

theorem injected_sameBut (hF : [Part.regs, .events] ⊆ F) {s : State} {n} (h0 : SameBut F s₀ s) :
    SameBut F s₀ (injected s n) := by
  unfold injected
  with_reducible repeat' first
    | assumption | exact subset_of hF (by decide) | intro _ | apply keeps_ite | apply put_sameBut | apply log_sameBut
    | dsimp only

theorem injectWrite_sameBut (hF : [Part.regs, .events] ⊆ F) {s : State} {a n} (h0 : SameBut F s₀ s) :
    SameBut F s₀ (injectWrite s a n) := by
  unfold injectWrite
  with_reducible repeat' first
    | assumption | exact subset_of hF (by decide) | intro _ | apply keeps_ite | apply injected_sameBut | dsimp only

theorem sigTouch_sameBut (hF : [Part.regs, .fw] ⊆ F) {s : State} {a n} (h0 : SameBut F s₀ s) :
    SameBut F s₀ (sigTouch s a n) := by
  unfold sigTouch
  with_reducible repeat' first
    | assumption | exact subset_of hF (by decide) | intro _ | apply keeps_ite | apply put_sameBut | dsimp only | split
    | apply withFw_sameBut

theorem wrBytes_sameBut (hF : [Part.regs, .mem, .events, .fw] ⊆ F) {s : State} {a bs} (h0 : SameBut F s₀ s) :
    SameBut F s₀ (wrBytes s a bs) := by
  unfold wrBytes
  with_reducible repeat' first
    | assumption | exact subset_of hF (by decide) | intro _ | apply sigTouch_sameBut | apply injectWrite_sameBut
    | apply rawBytes_sameBut

theorem wr8_sameBut (hF : [Part.regs, .mem, .events, .fw] ⊆ F) {s : State} {a b} (h0 : SameBut F s₀ s) :
    SameBut F s₀ (wr8 s a b) := by
  unfold wr8
  with_reducible repeat' first | assumption | exact subset_of hF (by decide) | intro _ | apply wrBytes_sameBut

theorem wrLe_sameBut (hF : [Part.regs, .mem, .events, .fw] ⊆ F) {s : State} {a n v} (h0 : SameBut F s₀ s) :
    SameBut F s₀ (wrLe s a n v) := by
  unfold wrLe
  with_reducible repeat' first | assumption | exact subset_of hF (by decide) | intro _ | apply wrBytes_sameBut

theorem emitOut_sameBut (hF : [Part.sent] ⊆ F) {s : State} {x1} (h0 : SameBut F s₀ s) :
    SameBut F s₀ (emitOut s x1) := by
  unfold emitOut
  with_reducible repeat' first
    | assumption | exact subset_of hF (by decide) | intro _ | apply keeps_ite | apply withSent_sameBut

theorem raise_sameBut (hF : [Part.sent] ⊆ F) {s : State} {enable bit} (h0 : SameBut F s₀ s) :
    SameBut F s₀ (raise s enable bit) := by
  unfold raise
  with_reducible repeat' first
    | assumption | exact subset_of hF (by decide) | intro _ | apply keeps_ite | apply emitOut_sameBut

theorem msix_sameBut (hF : [Part.regs, .sent] ⊆ F) {s : State} {n} (h0 : SameBut F s₀ s) :
    SameBut F s₀ (msix s n) := by
  unfold msix
  with_reducible repeat' first
    | assumption | exact subset_of hF (by decide) | intro _ | apply keeps_ite | apply emitOut_sameBut
    | apply put_sameBut

theorem latchLow_sameBut (hF : [Part.latches, .answer] ⊆ F)
    {s : State} {a} (h : SameBut F s₀ s) : SameBut F s₀ (latchLow s a) :=
  sameBut_mk hF h

theorem logOnceBy_sameBut (hF : [Part.regs, .events, .once] ⊆ F) {s : State} {key b inst3 code source p0 p1}
    (h0 : SameBut F s₀ s) :
    SameBut F s₀ (logOnceBy s key b inst3 code source p0 p1) := by
  unfold logOnceBy
  with_reducible repeat' first
    | assumption | exact subset_of hF (by decide) | intro _ | apply keeps_ite | apply log_sameBut | dsimp only
    | apply withOnce_sameBut

theorem logOnce_sameBut (hF : [Part.regs, .events, .once] ⊆ F) {s : State} {b inst2 code source p0 p1}
    (h0 : SameBut F s₀ s) :
    SameBut F s₀ (logOnce s b inst2 code source p0 p1) := by
  unfold logOnce
  with_reducible repeat' first | assumption | exact subset_of hF (by decide) | intro _ | apply logOnceBy_sameBut

theorem countOp_sameBut (hF : [Part.regs] ⊆ F) {s : State} {t n k} (h0 : SameBut F s₀ s) :
    SameBut F s₀ (countOp s t n k) := by
  unfold countOp
  with_reducible repeat' first | assumption | exact subset_of hF (by decide) | intro _ | apply add64_sameBut

theorem countDrop_sameBut (hF : [Part.regs] ⊆ F) {s : State} {t n f k} (h0 : SameBut F s₀ s) :
    SameBut F s₀ (countDrop s t n f k) := by
  unfold countDrop
  with_reducible repeat' first
    | assumption | exact subset_of hF (by decide) | intro _ | apply countOp_sameBut | apply count_sameBut

theorem writeOnly_sameBut (hF : [Part.regs] ⊆ F) {s : State} {a w only} (h0 : SameBut F s₀ s) :
    SameBut F s₀ (writeOnly s a w only) := by
  unfold writeOnly
  with_reducible repeat' first | assumption | exact subset_of hF (by decide) | intro _ | apply setReg_sameBut | split

theorem writePlain_sameBut (hF : [Part.regs] ⊆ F) {s : State} {a w} (h0 : SameBut F s₀ s) :
    SameBut F s₀ (writePlain s a w) := by
  unfold writePlain
  with_reducible repeat' first | assumption | exact subset_of hF (by decide) | intro _ | apply writeOnly_sameBut

theorem countObj_sameBut (hF : [Part.objs] ⊆ F) {s : State} {w index sub n} (h0 : SameBut F s₀ s) :
    SameBut F s₀ (countObj s w index sub n) := by
  unfold countObj
  with_reducible repeat' first | assumption | exact subset_of hF (by decide) | intro _ | apply setObj_sameBut

theorem refusal_sameBut (hF : [Part.objs] ⊆ F) {s : State} {reason index sub} (h0 : SameBut F s₀ s) :
    SameBut F s₀ (refusal s reason index sub) := by
  unfold refusal
  with_reducible repeat' first | assumption | exact subset_of hF (by decide) | intro _ | apply setObj_sameBut

theorem setProg_sameBut (hF : [Part.progress] ⊆ F) {s : State} {op p} (h0 : SameBut F s₀ s) :
    SameBut F s₀ (setProg s op p) := by
  unfold setProg
  with_reducible repeat' first | assumption | exact subset_of hF (by decide) | intro _ | apply withProgress_sameBut

theorem progStart_sameBut (hF : [Part.progress] ⊆ F) {s : State} {op total} (h0 : SameBut F s₀ s) :
    SameBut F s₀ (progStart s op total) := by
  unfold progStart
  with_reducible repeat' first | assumption | exact subset_of hF (by decide) | intro _ | apply setProg_sameBut

theorem progAdd_sameBut (hF : [Part.progress] ⊆ F) {s : State} {op n} (h0 : SameBut F s₀ s) :
    SameBut F s₀ (progAdd s op n) := by
  unfold progAdd
  with_reducible repeat' first | assumption | exact subset_of hF (by decide) | intro _ | apply setProg_sameBut

theorem progEnd_sameBut (hF : [Part.progress] ⊆ F) {s : State} {op st} (h0 : SameBut F s₀ s) :
    SameBut F s₀ (progEnd s op st) := by
  unfold progEnd
  with_reducible repeat' first | assumption | exact subset_of hF (by decide) | intro _ | apply setProg_sameBut

theorem fileReport_sameBut (hF : [Part.regs, .objs, .fault] ⊆ F) {s : State} {n suspect} (h0 : SameBut F s₀ s) :
    SameBut F s₀ (fileReport s n suspect) := by
  unfold fileReport
  with_reducible repeat' first
    | assumption | exact subset_of hF (by decide) | intro _ | apply keeps_ite | apply count_sameBut
    | apply countObj_sameBut | apply put_sameBut | dsimp only | apply withFault_sameBut

theorem detect_sameBut (hF : [Part.regs, .objs, .fault] ⊆ F) {s : State} {n suspect d} (h0 : SameBut F s₀ s) :
    SameBut F s₀ (detect s n suspect d) := by
  unfold detect
  with_reducible repeat' first
    | assumption | exact subset_of hF (by decide) | intro _ | apply keeps_ite | apply fileReport_sameBut | dsimp only
    | apply withFault_sameBut

theorem tileError_sameBut (hF : [Part.regs, .events, .once, .objs, .fault] ⊆ F) {s : State} {t bank row fatal}
    (h0 : SameBut F s₀ s) :
    SameBut F s₀ (tileError s t bank row fatal) := by
  unfold tileError
  with_reducible repeat' first
    | assumption | exact subset_of hF (by decide) | intro _ | apply keeps_ite | apply put_sameBut
    | apply logOnce_sameBut | apply count_sameBut | apply detect_sameBut | dsimp only

theorem podError_sameBut (hF : [Part.regs, .events, .once, .objs, .fault] ⊆ F) {s : State} {p bank row fatal}
    (h0 : SameBut F s₀ s) :
    SameBut F s₀ (podError s p bank row fatal) := by
  unfold podError
  with_reducible repeat' first
    | assumption | exact subset_of hF (by decide) | intro _ | apply keeps_ite | apply put_sameBut
    | apply logOnce_sameBut | apply count_sameBut | apply detect_sameBut | dsimp only

theorem managerError_sameBut (hF : [Part.regs, .events, .once] ⊆ F) {s : State} {bank row fatal}
    (h0 : SameBut F s₀ s) :
    SameBut F s₀ (managerError s bank row fatal) := by
  unfold managerError
  with_reducible repeat' first
    | assumption | exact subset_of hF (by decide) | intro _ | apply keeps_ite | apply put_sameBut
    | apply logOnce_sameBut | apply count_sameBut | dsimp only

theorem tileHit_sameBut (hF : [Part.regs, .events, .once, .objs, .fault] ⊆ F) {s : State} {t h2}
    (h0 : SameBut F s₀ s) :
    SameBut F s₀ (tileHit s t h2) := by
  unfold tileHit
  with_reducible repeat' first | assumption | exact subset_of hF (by decide) | intro _ | apply tileError_sameBut

theorem podHit_sameBut (hF : [Part.regs, .events, .once, .objs, .fault] ⊆ F) {s : State} {p h2}
    (h0 : SameBut F s₀ s) :
    SameBut F s₀ (podHit s p h2) := by
  unfold podHit
  with_reducible repeat' first | assumption | exact subset_of hF (by decide) | intro _ | apply podError_sameBut

theorem managerHit_sameBut (hF : [Part.regs, .events, .once] ⊆ F) {s : State} {h1} (h0 : SameBut F s₀ s) :
    SameBut F s₀ (managerHit s h1) := by
  unfold managerHit
  with_reducible repeat' first | assumption | exact subset_of hF (by decide) | intro _ | apply managerError_sameBut

theorem tbMove_sameBut (hF : [Part.regs, .events, .tbRate] ⊆ F) {s : State} {v} (h0 : SameBut F s₀ s) :
    SameBut F s₀ (tbMove s v) := by
  unfold tbMove
  with_reducible repeat' first
    | assumption | exact subset_of hF (by decide) | intro _ | apply log_sameBut | apply put64_sameBut | dsimp only
    | apply withTbRate_sameBut

end Sys2Proof.Machine.State
end

section
set_option Elab.async false
/-! PROOFS. The footprints of the operations of `Sys2Proof/Machine/Mesh.lean`. -/

namespace Sys2Proof.Machine.State

set_option linter.unusedTactic false
set_option linter.unreachableTactic false

variable {F : List Part} {s₀ : State}

theorem onMesh_sameBut (hF : [Part.mesh] ⊆ F) {s : State} {f} (h0 : SameBut F s₀ s) : SameBut F s₀ (onMesh s f) := by
  unfold onMesh
  with_reducible repeat' first | assumption | exact subset_of hF (by decide) | intro _ | apply withMesh_sameBut

theorem addE_sameBut (hF : [Part.mesh] ⊆ F) {s : State} {n g k} (h0 : SameBut F s₀ s) :
    SameBut F s₀ (addE s n g k) := by
  unfold addE
  with_reducible repeat' first
    | assumption | exact subset_of hF (by decide) | intro _ | apply keeps_ite | apply onMesh_sameBut

theorem addR_sameBut (hF : [Part.mesh] ⊆ F) {s : State} {n g k} (h0 : SameBut F s₀ s) :
    SameBut F s₀ (addR s n g k) := by
  unfold addR
  with_reducible repeat' first
    | assumption | exact subset_of hF (by decide) | intro _ | apply keeps_ite | apply onMesh_sameBut

theorem endSpike_sameBut (hF : [Part.mesh] ⊆ F) {s : State} {n p k} (h0 : SameBut F s₀ s) :
    SameBut F s₀ (endSpike s n p k) := by
  unfold endSpike
  with_reducible repeat' first
    | assumption | exact subset_of hF (by decide) | intro _ | apply keeps_ite | apply addR_sameBut

theorem sendCtrl_sameBut (hF : [Part.mesh] ⊆ F) {s : State} {n p} (h0 : SameBut F s₀ s) :
    SameBut F s₀ (sendCtrl s n p) := by
  unfold sendCtrl
  with_reducible repeat' first | assumption | exact subset_of hF (by decide) | intro _ | apply onMesh_sameBut

theorem answerFenced_sameBut (hF : [Part.mesh] ⊆ F) {s : State} {r p} (h0 : SameBut F s₀ s) :
    SameBut F s₀ (answerFenced s r p) := by
  unfold answerFenced
  with_reducible repeat' first
    | assumption | exact subset_of hF (by decide) | intro _ | apply keeps_ite | apply sendCtrl_sameBut

theorem echo_sameBut (hF : [Part.regs, .mesh] ⊆ F) {s : State} {r p} (h0 : SameBut F s₀ s) :
    SameBut F s₀ (echo s r p) := by
  unfold echo
  with_reducible repeat' first
    | assumption | exact subset_of hF (by decide) | intro _ | apply keeps_ite | apply onMesh_sameBut
    | apply count_sameBut | apply sendCtrl_sameBut | dsimp only | split

theorem undeliverable_sameBut (hF : [Part.regs, .events, .sent] ⊆ F) {s : State} {r code p}
    (h0 : SameBut F s₀ s) :
    SameBut F s₀ (undeliverable s r code p) := by
  unfold undeliverable
  with_reducible repeat' first
    | assumption | exact subset_of hF (by decide) | intro _ | apply log_sameBut | apply raise_sameBut
    | apply put_sameBut | apply countDrop_sameBut

theorem dropIllegal_sameBut (hF : [Part.regs, .events, .mesh, .sent] ⊆ F) {s : State} {r p}
    (h0 : SameBut F s₀ s) :
    SameBut F s₀ (dropIllegal s r p) := by
  unfold dropIllegal
  with_reducible repeat' first
    | assumption | exact subset_of hF (by decide) | intro _ | apply endSpike_sameBut | apply undeliverable_sameBut

theorem dropBlocked_sameBut (hF : [Part.regs, .events, .mesh, .sent] ⊆ F) {s : State} {r p}
    (h0 : SameBut F s₀ s) :
    SameBut F s₀ (dropBlocked s r p) := by
  unfold dropBlocked
  with_reducible repeat' first
    | assumption | exact subset_of hF (by decide) | intro _ | apply answerFenced_sameBut | apply endSpike_sameBut
    | apply undeliverable_sameBut

theorem dsSpill_sameBut (hF : [Part.regs, .mem, .events, .mesh, .once, .sent, .fw] ⊆ F) {s : State} {t e}
    (h0 : SameBut F s₀ s) :
    SameBut F s₀ (dsSpill s t e) := by
  unfold dsSpill
  with_reducible repeat' first
    | assumption | exact subset_of hF (by decide) | intro _ | apply keeps_ite | apply wrLe_sameBut
    | apply onMesh_sameBut | apply put_sameBut | apply countDrop_sameBut | apply logOnce_sameBut | apply raise_sameBut
    | dsimp only

theorem dsLevel_sameBut (hF : [Part.regs] ⊆ F) {s : State} {t} (h0 : SameBut F s₀ s) : SameBut F s₀ (dsLevel s t) := by
  unfold dsLevel
  with_reducible repeat' first
    | assumption | exact subset_of hF (by decide) | intro _ | apply raiseTo_sameBut | apply put_sameBut | dsimp only

theorem dsWrite_sameBut (hF : [Part.regs, .mem, .events, .mesh, .once, .sent, .fw] ⊆ F) {s : State} {t e}
    (h0 : SameBut F s₀ s) :
    SameBut F s₀ (dsWrite s t e) := by
  unfold dsWrite
  with_reducible repeat' first
    | assumption | exact subset_of hF (by decide) | intro _ | apply keeps_ite | apply dsLevel_sameBut
    | apply onMesh_sameBut | apply dsSpill_sameBut

theorem dropLate_sameBut (hF : [Part.regs, .mesh] ⊆ F) {s : State} {t f k} (h0 : SameBut F s₀ s) :
    SameBut F s₀ (dropLate s t f k) := by
  unfold dropLate
  with_reducible repeat' first
    | assumption | exact subset_of hF (by decide) | intro _ | apply onMesh_sameBut | apply countDrop_sameBut

theorem takeAtL_sameBut (hF : [Part.regs, .mem, .events, .mesh, .once, .sent, .fw] ⊆ F) {s : State} {r p}
    (h0 : SameBut F s₀ s) :
    SameBut F s₀ (takeAtL s r p) := by
  unfold takeAtL
  with_reducible repeat' first
    | assumption | exact subset_of hF (by decide) | intro _ | apply keeps_foldl | apply keeps_ite
    | apply keeps_foldl_fst | apply add64_sameBut | apply echo_sameBut | apply answerFenced_sameBut
    | apply endSpike_sameBut | apply logOnce_sameBut | apply countDrop_sameBut | apply onMesh_sameBut
    | apply dropLate_sameBut | apply log_sameBut | apply dsWrite_sameBut | dsimp only | split

theorem tierlinkQueue_sameBut (hF : [Part.regs, .events, .mesh, .once, .sent] ⊆ F) {s : State} {port p}
    (h0 : SameBut F s₀ s) :
    SameBut F s₀ (tierlinkQueue s port p) := by
  unfold tierlinkQueue
  with_reducible repeat' first
    | assumption | exact subset_of hF (by decide) | intro _ | apply keeps_ite | apply addE_sameBut
    | apply onMesh_sameBut | apply put_sameBut | apply endSpike_sameBut | apply logOnce_sameBut | apply raise_sameBut
    | apply count_sameBut | dsimp only

theorem forward_sameBut (hF : [Part.regs, .events, .mesh, .once, .sent] ⊆ F) {s : State} {ingress p}
    (h0 : SameBut F s₀ s) :
    SameBut F s₀ (forward s ingress p) := by
  unfold forward
  with_reducible repeat' first
    | assumption | exact subset_of hF (by decide) | intro _ | apply keeps_foldl | apply keeps_ite
    | apply keeps_foldl_fst | apply count_sameBut | apply onMesh_sameBut | apply tierlinkQueue_sameBut | dsimp only

theorem edgeSpike_sameBut (hF : [Part.regs, .events, .mesh, .once, .sent] ⊆ F) {s : State} {p}
    (h0 : SameBut F s₀ s) :
    SameBut F s₀ (edgeSpike s p) := by
  unfold edgeSpike
  with_reducible repeat' first
    | assumption | exact subset_of hF (by decide) | intro _ | apply forward_sameBut | apply tierlinkQueue_sameBut
    | apply count_sameBut | split

theorem traceTake_sameBut (hF : [Part.regs, .mesh] ⊆ F) {s : State} {p} (h0 : SameBut F s₀ s) :
    SameBut F s₀ (traceTake s p) := by
  unfold traceTake
  with_reducible repeat' first
    | assumption | exact subset_of hF (by decide) | intro _ | apply keeps_ite | apply onMesh_sameBut
    | apply count_sameBut

theorem edgeTake_sameBut (hF : [Part.regs, .events, .mesh, .once, .sent] ⊆ F) {s : State} {y p}
    (h0 : SameBut F s₀ s) :
    SameBut F s₀ (edgeTake s y p) := by
  unfold edgeTake
  with_reducible repeat' first
    | assumption | exact subset_of hF (by decide) | intro _ | apply keeps_ite | apply onMesh_sameBut
    | apply addR_sameBut | apply traceTake_sameBut | apply edgeSpike_sameBut | split

theorem seamLevel_sameBut (hF : [Part.regs] ⊆ F) {s : State} {r} (h0 : SameBut F s₀ s) :
    SameBut F s₀ (seamLevel s r) := by
  unfold seamLevel
  with_reducible repeat' first
    | assumption | exact subset_of hF (by decide) | intro _ | apply keeps_ite | apply keeps_getD
    | apply raiseTo_sameBut | apply put_sameBut | dsimp only

theorem discardPips_sameBut (hF : [Part.regs, .events, .once, .sent] ⊆ F) {s : State} {r p k}
    (h0 : SameBut F s₀ s) :
    SameBut F s₀ (discardPips s r p k) := by
  unfold discardPips
  with_reducible repeat' first
    | assumption | exact subset_of hF (by decide) | intro _ | apply keeps_ite | apply logOnce_sameBut
    | apply raise_sameBut | apply put_sameBut | apply count_sameBut

theorem nakPips_sameBut (hF : [Part.mesh] ⊆ F) {s : State} {r p l} (h0 : SameBut F s₀ s) :
    SameBut F s₀ (nakPips s r p l) := by
  unfold nakPips
  with_reducible repeat' first | assumption | exact subset_of hF (by decide) | intro _ | apply onMesh_sameBut | split

theorem damaged_sameBut (hF : [Part.regs, .events, .mesh, .once, .objs, .fault, .sent] ⊆ F) {s : State}
    {r p pip} (h0 : SameBut F s₀ s) :
    SameBut F s₀ (damaged s r p pip) := by
  unfold damaged
  with_reducible repeat' first
    | assumption | exact subset_of hF (by decide) | intro _ | apply nakPips_sameBut | apply detect_sameBut
    | apply discardPips_sameBut

theorem sendOn_sameBut (hF : [Part.regs, .events, .mesh, .once, .objs, .fault, .sent] ⊆ F) {s : State} {r q p}
    (h0 : SameBut F s₀ s) :
    SameBut F s₀ (sendOn s r q p) := by
  unfold sendOn
  with_reducible repeat' first
    | assumption | exact subset_of hF (by decide) | intro _ | apply keeps_ite | apply onMesh_sameBut
    | apply damaged_sameBut | apply injected_sameBut | apply seamLevel_sameBut | apply edgeTake_sameBut | dsimp only
    | split

theorem storm_sameBut (hF : [Part.regs, .events, .mesh, .once, .objs, .fault, .sent] ⊆ F) {s : State} {r port p}
    (h0 : SameBut F s₀ s) :
    SameBut F s₀ (storm s r port p) := by
  unfold storm
  with_reducible repeat' first
    | assumption | exact subset_of hF (by decide) | intro _ | apply keeps_ite | apply raise_sameBut
    | apply put_sameBut | apply count_sameBut | apply detect_sameBut | apply logOnce_sameBut | apply onMesh_sameBut
    | apply sendCtrl_sameBut | dsimp only

theorem Award.give_sameBut (hF : [Part.regs, .events, .mesh, .once, .objs, .fault, .sent] ⊆ F) {a : State.Award}
    {r q p} (h0 : SameBut F s₀ a.st) :
    SameBut F s₀ (Award.give a r q p).st := by
  unfold Award.give
  with_reducible repeat' first
    | assumption | exact subset_of hF (by decide) | intro _ | apply sendOn_sameBut | dsimp only | split

theorem seamDeflect_sameBut (hF : [Part.regs] ⊆ F) {s : State} {r need} (h0 : SameBut F s₀ s) :
    SameBut F s₀ (seamDeflect s r need) := by
  unfold seamDeflect
  with_reducible repeat' first
    | assumption | exact subset_of hF (by decide) | intro _ | apply keeps_ite | apply count_sameBut

theorem Award.deflect_sameBut (hF : [Part.regs, .events, .mesh, .once, .objs, .fault, .sent] ⊆ F)
    {a : State.Award} {r port p need} (h0 : SameBut F s₀ a.st) :
    SameBut F s₀ (Award.deflect a r port p need).st := by
  unfold Award.deflect
  with_reducible repeat' first
    | assumption | exact subset_of hF (by decide) | intro _ | apply keeps_ite | apply seamDeflect_sameBut
    | apply countOp_sameBut | apply add64_sameBut | apply storm_sameBut | apply Award.give_sameBut
    | apply countDrop_sameBut | dsimp only | split

theorem dropMulticast_sameBut (hF : [Part.regs, .events, .mesh, .sent] ⊆ F) {s : State} {r p need}
    (h0 : SameBut F s₀ s) :
    SameBut F s₀ (dropMulticast s r p need) := by
  unfold dropMulticast
  with_reducible repeat' first
    | assumption | exact subset_of hF (by decide) | intro _ | apply keeps_ite | apply put_sameBut
    | apply endSpike_sameBut | apply undeliverable_sameBut | dsimp only

theorem Award.copy_sameBut (hF : [Part.regs, .mem, .events, .mesh, .once, .objs, .fault, .sent, .fw] ⊆ F)
    {a : State.Award} {r p need} (h0 : SameBut F s₀ a.st) :
    SameBut F s₀ (Award.copy a r p need).st := by
  unfold Award.copy
  with_reducible repeat' first
    | assumption | exact subset_of hF (by decide) | intro _ | apply keeps_foldl | apply keeps_ite
    | apply keeps_foldl_fst | apply takeAtL_sameBut | apply Award.give_sameBut | apply keeps_foldl_award | dsimp only
    | split

theorem Award.place_sameBut (hF : [Part.regs, .mem, .events, .mesh, .once, .objs, .fault, .sent, .fw] ⊆ F)
    {a : State.Award} {r port p later} (h0 : SameBut F s₀ a.st) :
    SameBut F s₀ (Award.place a r port p later).st := by
  unfold Award.place
  with_reducible repeat' first
    | assumption | exact subset_of hF (by decide) | intro _ | apply keeps_ite | apply dropIllegal_sameBut
    | apply Award.copy_sameBut | apply Award.deflect_sameBut | apply dropMulticast_sameBut | apply dropBlocked_sameBut
    | apply takeAtL_sameBut | apply injected_sameBut | apply Award.give_sameBut | dsimp only | split

theorem Award.all_sameBut (hF : [Part.regs, .mem, .events, .mesh, .once, .objs, .fault, .sent, .fw] ⊆ F)
    {a : State.Award} {r l} (h : SameBut F s₀ a.st) :
    SameBut F s₀ (Award.all a r l).st := by
  induction l generalizing a with
  | nil => exact h
  | cons x rest ih => exact ih (Award.place_sameBut hF h)

theorem takeLink_sameBut (hF : [Part.regs, .mesh] ⊆ F) {s : State} {r p} (h0 : SameBut F s₀ s) :
    SameBut F s₀ (takeLink s r p) := by
  unfold takeLink
  with_reducible repeat' first
    | assumption | exact subset_of hF (by decide) | intro _ | apply keeps_ite | apply onMesh_sameBut
    | apply seamLevel_sameBut | dsimp only | split

theorem crcDiscard_sameBut (hF : [Part.regs, .events, .mesh, .once, .objs, .fault, .sent] ⊆ F) {s : State}
    {r p pip} (h0 : SameBut F s₀ s) :
    SameBut F s₀ (crcDiscard s r p pip) := by
  unfold crcDiscard
  with_reducible repeat' first
    | assumption | exact subset_of hF (by decide) | intro _ | apply damaged_sameBut | apply takeLink_sameBut

theorem routeCycle_sameBut (hF : [Part.regs, .mem, .events, .mesh, .once, .objs, .fault, .sent, .fw] ⊆ F)
    {s : State} {r got} (h0 : SameBut F s₀ s) :
    SameBut F s₀ (routeCycle s r got) := by
  unfold routeCycle
  with_reducible repeat' first
    | assumption | exact subset_of hF (by decide) | intro _ | apply keeps_foldl | apply keeps_ite
    | apply keeps_foldl_fst | apply keeps_foldl_snd | apply keeps_ite_snd | apply crcDiscard_sameBut
    | apply takeLink_sameBut | apply Award.all_sameBut | apply onMesh_sameBut | apply keeps_foldl_award | dsimp only
    | split

theorem putBucket_sameBut (hF : [Part.regs, .mesh] ⊆ F) {s : State} {n spent} (h0 : SameBut F s₀ s) :
    SameBut F s₀ (putBucket s n spent) := by
  unfold putBucket
  with_reducible repeat' first
    | assumption | exact subset_of hF (by decide) | intro _ | apply put_sameBut | apply onMesh_sameBut

theorem refill_sameBut (hF : [Part.regs, .mesh] ⊆ F) {s : State} {n} (h0 : SameBut F s₀ s) :
    SameBut F s₀ (refill s n) := by
  unfold refill
  with_reducible repeat' first | assumption | exact subset_of hF (by decide) | intro _ | apply putBucket_sameBut

theorem spend_sameBut (hF : [Part.regs, .mesh] ⊆ F) {s : State} {n} (h0 : SameBut F s₀ s) :
    SameBut F s₀ (spend s n) := by
  unfold spend
  with_reducible repeat' first | assumption | exact subset_of hF (by decide) | intro _ | apply putBucket_sameBut

theorem acceptEcho_sameBut (hF : [Part.regs, .mesh] ⊆ F) {s : State} {n} (h0 : SameBut F s₀ s) :
    SameBut F s₀ (acceptEcho s n) := by
  unfold acceptEcho
  with_reducible repeat' first
    | assumption | exact subset_of hF (by decide) | intro _ | apply keeps_ite | apply count_sameBut
    | apply onMesh_sameBut | apply put_sameBut | dsimp only

theorem retryLevel_sameBut (hF : [Part.regs] ⊆ F) {s : State} {r} (h0 : SameBut F s₀ s) :
    SameBut F s₀ (retryLevel s r) := by
  unfold retryLevel
  with_reducible repeat' first | assumption | exact subset_of hF (by decide) | intro _ | apply put_sameBut

theorem drainNaks_sameBut (hF : [Part.regs, .mesh] ⊆ F) {s : State} {r p a : Nat} (h : SameBut F s₀ s) :
    SameBut F s₀ (drainNaks s r p a) := by
  induction a generalizing s with
  | zero => exact h
  | succ n ih =>
    unfold drainNaks
    split
    · exact h
    · exact keeps_ite h (ih (retryLevel_sameBut (subset_of hF (by decide))
        (onMesh_sameBut (subset_of hF (by decide)) h)))

theorem refillRetry_sameBut (hF : [Part.regs, .mesh] ⊆ F) {s : State} {r} (h0 : SameBut F s₀ s) :
    SameBut F s₀ (refillRetry s r) := by
  unfold refillRetry
  with_reducible repeat' first
    | assumption | exact subset_of hF (by decide) | intro _ | apply keeps_foldl | apply keeps_ite
    | apply keeps_foldl_fst | apply drainNaks_sameBut

theorem halfDown_sameBut (hF : [Part.regs, .events, .mesh, .once, .sent] ⊆ F) {s : State} {r p}
    (h0 : SameBut F s₀ s) :
    SameBut F s₀ (halfDown s r p) := by
  unfold halfDown
  with_reducible repeat' first
    | assumption | exact subset_of hF (by decide) | intro _ | apply keeps_ite | apply put_sameBut
    | apply onMesh_sameBut | apply seamLevel_sameBut | apply nakPips_sameBut | apply discardPips_sameBut | dsimp only
    | split

theorem linkDown_sameBut (hF : [Part.regs, .events, .mesh, .once, .sent] ⊆ F) {s : State} {r p}
    (h0 : SameBut F s₀ s) :
    SameBut F s₀ (linkDown s r p) := by
  unfold linkDown
  with_reducible repeat' first
    | assumption | exact subset_of hF (by decide) | intro _ | apply halfDown_sameBut | apply refillRetry_sameBut
    | dsimp only | split

theorem linkRaise_sameBut (hF : [Part.regs] ⊆ F) {s : State} {r p} (h0 : SameBut F s₀ s) :
    SameBut F s₀ (linkRaise s r p) := by
  unfold linkRaise
  with_reducible repeat' first
    | assumption | exact subset_of hF (by decide) | intro _ | apply keeps_ite | apply put_sameBut | dsimp only | split

theorem takeCandidate_sameBut (hF : [Part.regs, .mesh] ⊆ F) {s : State} {r src p} (h0 : SameBut F s₀ s) :
    SameBut F s₀ (takeCandidate s r src p) := by
  unfold takeCandidate
  with_reducible repeat' first
    | assumption | exact subset_of hF (by decide) | intro _ | apply keeps_ite | apply countOp_sameBut
    | apply add64_sameBut | apply onMesh_sameBut | apply refillRetry_sameBut | apply retryLevel_sameBut
    | apply count_sameBut | apply spend_sameBut | apply addE_sameBut | dsimp only | split

theorem injectWait_sameBut (hF : [Part.regs] ⊆ F) {s : State} {r} (h0 : SameBut F s₀ s) :
    SameBut F s₀ (injectWait s r) := by
  unfold injectWait
  with_reducible repeat' first | assumption | exact subset_of hF (by decide) | intro _ | apply count_sameBut

theorem injectCycle_sameBut (hF : [Part.regs, .mem, .events, .mesh, .once, .objs, .fault, .sent, .fw] ⊆ F)
    {s : State} {r} (h0 : SameBut F s₀ s) :
    SameBut F s₀ (injectCycle s r) := by
  unfold injectCycle
  with_reducible repeat' first
    | assumption | exact subset_of hF (by decide) | intro _ | apply keeps_ite | apply onMesh_sameBut
    | apply refill_sameBut | apply takeCandidate_sameBut | apply dropIllegal_sameBut | apply Award.copy_sameBut
    | apply injectWait_sameBut | apply dropMulticast_sameBut | apply dropBlocked_sameBut | apply takeAtL_sameBut
    | apply Award.give_sameBut | apply countOp_sameBut | apply add64_sameBut | apply seamDeflect_sameBut | dsimp only
    | split

theorem edgeSend_sameBut (hF : [Part.mesh] ⊆ F) {s : State} {row p} (h0 : SameBut F s₀ s) :
    SameBut F s₀ (edgeSend s row p) := by
  unfold edgeSend
  with_reducible repeat' first | assumption | exact subset_of hF (by decide) | intro _ | apply onMesh_sameBut

theorem execPipRoute_sameBut (hF : [Part.regs, .mem, .events, .mesh, .once, .objs, .fault, .sent, .fw] ⊆ F)
    {router crc} {s : State} (h2 : SameBut F s₀ s) :
    ResultSameBut F s₀ (execPipRoute router crc s) := by
  unfold execPipRoute
  with_reducible repeat' first
    | assumption | exact subset_of hF (by decide) | apply done_sameBut | intro _ | apply routeCycle_sameBut

theorem execPipInject_sameBut (hF : [Part.regs, .mem, .events, .mesh, .once, .objs, .fault, .sent, .fw] ⊆ F)
    {router} {s : State} (h1 : SameBut F s₀ s) :
    ResultSameBut F s₀ (execPipInject router s) := by
  unfold execPipInject
  with_reducible repeat' first
    | assumption | exact subset_of hF (by decide) | apply done_sameBut | intro _ | apply injectCycle_sameBut

theorem execEdgeReturnPip_sameBut (hF : [Part.mesh] ⊆ F) {row} {s : State} (h1 : SameBut F s₀ s) :
    ResultSameBut F s₀ (execEdgeReturnPip row s) := by
  unfold execEdgeReturnPip
  with_reducible repeat' first
    | assumption | exact subset_of hF (by decide) | apply done_sameBut | intro _ | apply edgeSend_sameBut
    | apply onMesh_sameBut | split

theorem edgeCycle_sameBut (hF : [Part.regs, .mesh] ⊆ F) {s : State} {row} (h0 : SameBut F s₀ s) :
    SameBut F s₀ (edgeCycle s row) := by
  unfold edgeCycle
  with_reducible repeat' first
    | assumption | exact subset_of hF (by decide) | intro _ | apply keeps_ite | apply refill_sameBut
    | apply edgeSend_sameBut | apply onMesh_sameBut | apply spend_sameBut | apply addE_sameBut | dsimp only | split

theorem execEdgeInject_sameBut (hF : [Part.regs, .mesh] ⊆ F) {row} {s : State} (h1 : SameBut F s₀ s) :
    ResultSameBut F s₀ (execEdgeInject row s) := by
  unfold execEdgeInject
  with_reducible repeat' first
    | assumption | exact subset_of hF (by decide) | apply done_sameBut | intro _ | apply edgeCycle_sameBut

theorem execNakReceive_sameBut (hF : [Part.regs, .events, .mesh, .once, .sent] ⊆ F) {router port} {s : State}
    (h2 : SameBut F s₀ s) :
    ResultSameBut F s₀ (execNakReceive router port s) := by
  unfold execNakReceive
  with_reducible repeat' first
    | assumption | exact subset_of hF (by decide) | apply done_sameBut | apply keeps_ite_result | intro _
    | apply keeps_ite | apply drainNaks_sameBut | apply put_sameBut | apply log_sameBut | apply linkDown_sameBut
    | dsimp only

theorem execLinkDownSignal_sameBut (hF : [Part.regs, .events, .mesh, .once, .sent] ⊆ F) {router port}
    {s : State} (h2 : SameBut F s₀ s) :
    ResultSameBut F s₀ (execLinkDownSignal router port s) := by
  unfold execLinkDownSignal
  with_reducible repeat' first
    | assumption | exact subset_of hF (by decide) | apply done_sameBut | intro _ | apply linkDown_sameBut

theorem throttleTake_sameBut (hF : [Part.mesh] ⊆ F) {s : State} {n ptype} (h0 : SameBut F s₀ s) :
    ∀ t, throttleTake s n ptype = some t → SameBut F s₀ t := by
  unfold throttleTake
  with_reducible repeat' first
    | assumption | exact subset_of hF (by decide) | exact keeps_none | refine keeps_some ?_
    | intro (_ : State) (_ : SameBut F s₀ _) _ | apply onMesh_sameBut | split | intro (_ : State) (_ : SameBut F s₀ _)

theorem execEchoReceive_sameBut (hF : [Part.regs, .mesh] ⊆ F) {node} {s : State} (h1 : SameBut F s₀ s) :
    ResultSameBut F s₀ (execEchoReceive node s) := by
  unfold execEchoReceive
  with_reducible repeat' first
    | assumption | exact subset_of hF (by decide) | apply done_sameBut | intro _ | apply acceptEcho_sameBut | split
    | refine throttleTake_sameBut (subset_of hF (by decide)) ?_ _ (by assumption)

theorem execStormNoticeReceive_sameBut (hF : [Part.regs, .mesh] ⊆ F) {node} {s : State} (h1 : SameBut F s₀ s) :
    ResultSameBut F s₀ (execStormNoticeReceive node s) := by
  unfold execStormNoticeReceive
  with_reducible repeat' first
    | assumption | exact subset_of hF (by decide) | apply done_sameBut | apply keeps_ite_result | intro _
    | apply keeps_ite | apply put_sameBut | split
    | refine throttleTake_sameBut (subset_of hF (by decide)) ?_ _ (by assumption)

theorem execThrottleIncrease_sameBut (hF : [Part.regs, .mesh] ⊆ F) {node} {s : State} (h1 : SameBut F s₀ s) :
    ResultSameBut F s₀ (execThrottleIncrease node s) := by
  unfold execThrottleIncrease
  with_reducible repeat' first
    | assumption | exact subset_of hF (by decide) | apply done_sameBut | apply keeps_ite_result | intro _
    | apply keeps_ite | apply reach_sameBut | apply onMesh_sameBut | apply put_sameBut | dsimp only

theorem delayDrain_sameBut (hF : [Part.regs, .mem, .events, .mesh, .once, .sent, .fw] ⊆ F) {s : State}
    (h0 : SameBut F s₀ s) :
    SameBut F s₀ (delayDrain s) := by
  unfold delayDrain
  with_reducible repeat' first
    | assumption | exact subset_of hF (by decide) | intro _ | apply keeps_foldl | apply keeps_foldl_fst
    | apply keeps_foldl_snd | apply keeps_ite_snd | apply dsWrite_sameBut | apply onMesh_sameBut

theorem execDelayStoreWrite_sameBut (hF : [Part.regs, .mem, .events, .mesh, .once, .sent, .fw] ⊆ F) {router}
    {s : State} (h1 : SameBut F s₀ s) :
    ResultSameBut F s₀ (execDelayStoreWrite router s) := by
  unfold execDelayStoreWrite
  with_reducible repeat' first
    | assumption | exact subset_of hF (by decide) | apply done_sameBut | intro _ | apply dsWrite_sameBut
    | apply onMesh_sameBut | split

theorem mcStep_sameBut (hF : [Part.regs] ⊆ F) {s : State} {r} (h0 : SameBut F s₀ s) : SameBut F s₀ (mcStep s r) := by
  unfold mcStep
  with_reducible repeat' first
    | assumption | exact subset_of hF (by decide) | intro _ | apply keeps_ite | apply put_sameBut

theorem mcWrite_sameBut (hF : [Part.regs, .mesh] ⊆ F) {s : State} {r value remap} (h0 : SameBut F s₀ s) :
    SameBut F s₀ (mcWrite s r value remap) := by
  unfold mcWrite
  with_reducible repeat' first
    | assumption | exact subset_of hF (by decide) | intro _ | apply keeps_ite | apply onMesh_sameBut
    | apply mcStep_sameBut | dsimp only

theorem execMcEntryWrite_sameBut (hF : [Part.regs, .mesh] ⊆ F) {router value remap} {s : State}
    (h3 : SameBut F s₀ s) :
    ResultSameBut F s₀ (execMcEntryWrite router value remap s) := by
  unfold execMcEntryWrite
  with_reducible repeat' first
    | assumption | exact subset_of hF (by decide) | apply done_sameBut | intro _ | apply mcWrite_sameBut

theorem spillWrite_sameBut (hF : [Part.regs] ⊆ F) {s : State} {r isLen value} (h0 : SameBut F s₀ s) :
    SameBut F s₀ (spillWrite s r isLen value) := by
  unfold spillWrite
  with_reducible repeat' first
    | assumption | exact subset_of hF (by decide) | intro _ | apply keeps_ite | apply put_sameBut | dsimp only

theorem execSpillRegionWrite_sameBut (hF : [Part.regs] ⊆ F) {router isLen value} {s : State}
    (h3 : SameBut F s₀ s) :
    ResultSameBut F s₀ (execSpillRegionWrite router isLen value s) := by
  unfold execSpillRegionWrite
  with_reducible repeat' first
    | assumption | exact subset_of hF (by decide) | apply done_sameBut | intro _ | apply spillWrite_sameBut

end Sys2Proof.Machine.State
end

section
set_option Elab.async false
/-! PROOFS. The footprints of the operations of `Sys2Proof/Machine/Trace.lean`. -/

namespace Sys2Proof.Machine.State

set_option linter.unusedTactic false
set_option linter.unreachableTactic false

variable {F : List Part} {s₀ : State}

theorem trace_sameBut (hF : [Part.regs, .mesh] ⊆ F) {s : State} {t ptype pay} (h0 : SameBut F s₀ s) :
    SameBut F s₀ (trace s t ptype pay) := by
  unfold trace
  with_reducible repeat' first
    | assumption | exact subset_of hF (by decide) | intro _ | apply keeps_ite | apply count_sameBut
    | apply onMesh_sameBut

theorem setWait_sameBut (hF : [Part.regs, .mesh] ⊆ F) {s : State} {t kind src obj peer} (h0 : SameBut F s₀ s) :
    SameBut F s₀ (setWait s t kind src obj peer) := by
  unfold setWait
  with_reducible repeat' first
    | assumption | exact subset_of hF (by decide) | intro _ | apply keeps_ite | apply put_sameBut
    | apply trace_sameBut | dsimp only

end Sys2Proof.Machine.State
end

section
set_option Elab.async false
/-! PROOFS. The footprints of the operations of `Sys2Proof/Machine/Queue.lean`. -/

namespace Sys2Proof.Machine.State

set_option linter.unusedTactic false
set_option linter.unreachableTactic false

variable {F : List Part} {s₀ : State}

theorem qput_sameBut (hF : [Part.regs] ⊆ F) {s : State} {u i lo len v} (h0 : SameBut F s₀ s) :
    SameBut F s₀ (qput s u i lo len v) := by
  unfold qput
  with_reducible repeat' first | assumption | exact subset_of hF (by decide) | intro _ | apply put_sameBut

theorem qShape_sameBut (hF : [Part.regs] ⊆ F) {s : State} {u i} (h0 : SameBut F s₀ s) :
    SameBut F s₀ (qShape s u i) := by
  unfold qShape
  with_reducible repeat' first
    | assumption | exact subset_of hF (by decide) | intro _ | apply keeps_foldl | apply keeps_ite
    | apply keeps_foldl_fst | apply setReg_sameBut | dsimp only

theorem unitCtrl_sameBut (hF : [Part.mesh] ⊆ F) {s : State} {u dest ptype pay} (h0 : SameBut F s₀ s) :
    SameBut F s₀ (unitCtrl s u dest ptype pay) := by
  unfold unitCtrl
  with_reducible repeat' first
    | assumption | exact subset_of hF (by decide) | intro _ | apply keeps_ite | apply sendCtrl_sameBut | dsimp only

theorem sendCredit_sameBut (hF : [Part.regs, .mesh] ⊆ F) {s : State} {u i ptype epoch n} (h0 : SameBut F s₀ s) :
    SameBut F s₀ (sendCredit s u i ptype epoch n) := by
  unfold sendCredit
  with_reducible repeat' first
    | assumption | exact subset_of hF (by decide) | intro _ | apply keeps_ite | apply onMesh_sameBut
    | apply unitCtrl_sameBut | apply count_sameBut | dsimp only | split

theorem qReady_sameBut (hF : [Part.regs, .sent] ⊆ F) {s : State} {u i} (h0 : SameBut F s₀ s) :
    SameBut F s₀ (qReady s u i) := by
  unfold qReady
  with_reducible repeat' first
    | assumption | exact subset_of hF (by decide) | intro _ | apply keeps_ite | apply put_sameBut
    | apply raise_sameBut | apply msix_sameBut | dsimp only | split

theorem qResult_sameBut (hF : [Part.regs] ⊆ F) {s : State} {u st} (h0 : SameBut F s₀ s) :
    SameBut F s₀ (qResult s u st) := by
  unfold qResult
  with_reducible repeat' first | assumption | exact subset_of hF (by decide) | intro _ | apply put_sameBut

theorem qRestart_sameBut (hF : [Part.regs, .clearing, .creditDue, .oooSeen, .sent] ⊆ F) {s : State} {u i}
    (h0 : SameBut F s₀ s) :
    SameBut F s₀ (qRestart s u i) := by
  unfold qRestart
  with_reducible repeat' first
    | assumption | exact subset_of hF (by decide) | intro _ | apply keeps_ite | apply qput_sameBut
    | apply qShape_sameBut | apply qReady_sameBut | dsimp only | apply withClearingCreditDueOooSeen_sameBut

theorem openRx_sameBut (hF : [Part.regs, .clearing, .creditDue, .oooSeen, .sent] ⊆ F) {s : State} {u i}
    (h0 : SameBut F s₀ s) :
    SameBut F s₀ (openRx s u i) := by
  unfold openRx
  with_reducible repeat' first
    | assumption | exact subset_of hF (by decide) | intro _ | apply keeps_ite | apply qResult_sameBut
    | apply qRestart_sameBut

theorem resetRx_sameBut (hF : [Part.regs, .mesh, .clearing, .creditDue, .oooSeen, .sent] ⊆ F) {s : State} {u i}
    (h0 : SameBut F s₀ s) :
    SameBut F s₀ (resetRx s u i) := by
  unfold resetRx
  with_reducible repeat' first
    | assumption | exact subset_of hF (by decide) | intro _ | apply keeps_ite | apply qResult_sameBut
    | apply qRestart_sameBut | apply sendCredit_sameBut | dsimp only

theorem fillCleared_sameBut (hF : [Part.regs, .mem, .events, .mesh, .clearing, .fw] ⊆ F) {s : State} {u i}
    (h0 : SameBut F s₀ s) :
    SameBut F s₀ (fillCleared s u i) := by
  unfold fillCleared
  with_reducible repeat' first
    | assumption | exact subset_of hF (by decide) | intro _ | apply keeps_ite | apply wrBytes_sameBut
    | apply sendCredit_sameBut | apply qput_sameBut | dsimp only | split | apply withClearing_sameBut

theorem closeQueue_sameBut (hF : [Part.regs, .mesh, .clearing, .creditDue, .sent] ⊆ F) {s : State} {u i}
    (h0 : SameBut F s₀ s) :
    SameBut F s₀ (closeQueue s u i) := by
  unfold closeQueue
  with_reducible repeat' first
    | assumption | exact subset_of hF (by decide) | intro _ | apply keeps_ite | apply qput_sameBut
    | apply sendCredit_sameBut | apply qResult_sameBut | apply qReady_sameBut | dsimp only | split
    | apply withClearingCreditDue_sameBut

theorem openTx_sameBut (hF : [Part.regs] ⊆ F) {s : State} {u i} (h0 : SameBut F s₀ s) :
    SameBut F s₀ (openTx s u i) := by
  unfold openTx
  with_reducible repeat' first
    | assumption | exact subset_of hF (by decide) | intro _ | apply keeps_ite | apply qResult_sameBut
    | apply qput_sameBut | apply qShape_sameBut | dsimp only

theorem ackEpoch_sameBut (hF : [Part.regs] ⊆ F) {s : State} {u i} (h0 : SameBut F s₀ s) :
    SameBut F s₀ (ackEpoch s u i) := by
  unfold ackEpoch
  with_reducible repeat' first
    | assumption | exact subset_of hF (by decide) | intro _ | apply keeps_ite | apply qResult_sameBut
    | apply qput_sameBut | dsimp only

theorem offer_sameBut (hF : [Part.regs, .mesh] ⊆ F) {s : State} {u i body} (h0 : SameBut F s₀ s) :
    SameBut F s₀ (offer s u i body).st := by
  unfold offer
  with_reducible repeat' first
    | assumption | exact subset_of hF (by decide) | intro _ | apply keeps_ite | apply keeps_getD | apply count_sameBut
    | apply qput_sameBut | apply add64_sameBut | apply onMesh_sameBut | dsimp only | split

theorem traceQueue_sameBut (hF : [Part.regs, .mesh] ⊆ F) {s : State} {u i body dir seq peer st}
    (h0 : SameBut F s₀ s) :
    SameBut F s₀ (traceQueue s u i body dir seq peer st) := by
  unfold traceQueue
  with_reducible repeat' first
    | assumption | exact subset_of hF (by decide) | intro _ | apply keeps_ite | apply trace_sameBut

theorem queueSend_sameBut (hF : [Part.regs, .mesh] ⊆ F) {s : State} {u i} (h0 : SameBut F s₀ s) :
    SameBut F s₀ (queueSend s u i) := by
  unfold queueSend
  with_reducible repeat' first
    | assumption | exact subset_of hF (by decide) | intro _ | apply keeps_ite | apply offer_sameBut
    | apply put_sameBut | apply setWait_sameBut | apply traceQueue_sameBut | dsimp only | split

theorem engineSend_sameBut (hF : [Part.regs, .mesh] ⊆ F) {s : State} {u addr body} (h0 : SameBut F s₀ s) :
    SameBut F s₀ (engineSend s u addr body).st := by
  unfold engineSend
  with_reducible repeat' first
    | assumption | exact subset_of hF (by decide) | intro _ | apply offer_sameBut | apply count_sameBut | dsimp only
    | split

theorem applyCredit_sameBut (hF : [Part.regs] ⊆ F) {s : State} {u i revoke e n} (h0 : SameBut F s₀ s) :
    SameBut F s₀ (applyCredit s u i revoke e n) := by
  unfold applyCredit
  with_reducible repeat' first
    | assumption | exact subset_of hF (by decide) | intro _ | apply keeps_ite | apply qput_sameBut
    | apply count_sameBut | dsimp only | split

theorem creditPip_sameBut (hF : [Part.regs] ⊆ F) {s : State} {u revoke p} (h0 : SameBut F s₀ s) :
    SameBut F s₀ (creditPip s u revoke p) := by
  unfold creditPip
  with_reducible repeat' first
    | assumption | exact subset_of hF (by decide) | intro _ | apply applyCredit_sameBut | apply count_sameBut | split

theorem setFill_sameBut (hF : [Part.regs, .mem, .events, .fw] ⊆ F) {s : State} {ring n q v}
    (h0 : SameBut F s₀ s) :
    SameBut F s₀ (setFill s ring n q v) := by
  unfold setFill
  with_reducible repeat' first
    | assumption | exact subset_of hF (by decide) | intro _ | apply keeps_ite | apply wr8_sameBut | dsimp only | split

theorem passFilled_sameBut (hF : [Part.regs, .mem, .events, .fw] ⊆ F)
    {s : State} {ring n q a : Nat} (h : SameBut F s₀ s) :
    SameBut F s₀ (passFilled s ring n q a).1 := by
  induction a generalizing s q with
  | zero => exact h
  | succ k ih =>
    unfold passFilled
    split
    · exact ih (setFill_sameBut hF h)
    · exact h

theorem qDropped_sameBut (hF : [Part.regs, .sent] ⊆ F) {s : State} {u f} (h0 : SameBut F s₀ s) :
    SameBut F s₀ (qDropped s u f) := by
  unfold qDropped
  with_reducible repeat' first
    | assumption | exact subset_of hF (by decide) | intro _ | apply raise_sameBut | apply count_sameBut

theorem accept_sameBut (hF : [Part.regs, .mem, .events, .sent, .fw] ⊆ F) {s : State} {u i mine p}
    (h0 : SameBut F s₀ s) :
    SameBut F s₀ (accept s u i mine p) := by
  unfold accept
  with_reducible repeat' first
    | assumption | exact subset_of hF (by decide) | intro _ | apply keeps_ite | apply qDropped_sameBut
    | apply qput_sameBut | apply log_sameBut | apply add64_sameBut | apply wrLe_sameBut | apply passFilled_sameBut
    | apply qReady_sameBut | apply setFill_sameBut | dsimp only | split | refine keeps_fst ?_ (by assumption)

theorem fillHit_sameBut (hF : [Part.regs, .events, .once, .objs, .fault] ⊆ F) {s : State} {u i h3}
    (h0 : SameBut F s₀ s) :
    SameBut F s₀ (fillHit s u i h3) := by
  unfold fillHit
  with_reducible repeat' first
    | assumption | exact subset_of hF (by decide) | intro _ | apply tileHit_sameBut | apply podHit_sameBut
    | apply managerHit_sameBut | split

theorem receiveMsg_sameBut (hF : [Part.regs, .mem, .events, .mesh, .once, .objs, .fault, .sent, .fw] ⊆ F)
    {s : State} {u ecc} (h0 : SameBut F s₀ s) :
    SameBut F s₀ (receiveMsg s u ecc) := by
  unfold receiveMsg
  with_reducible repeat' first
    | assumption | exact subset_of hF (by decide) | intro _ | apply keeps_ite | apply onMesh_sameBut
    | apply accept_sameBut | apply fillHit_sameBut | apply qDropped_sameBut | dsimp only | split

theorem queueTake_sameBut (hF : [Part.regs, .mesh, .creditDue, .sent] ⊆ F) {s : State} {u i n}
    (h0 : SameBut F s₀ s) :
    SameBut F s₀ (queueTake s u i n) := by
  unfold queueTake
  with_reducible repeat' first
    | assumption | exact subset_of hF (by decide) | intro _ | apply keeps_foldl | apply keeps_ite
    | apply keeps_foldl_fst | apply traceQueue_sameBut | apply qput_sameBut | apply qReady_sameBut | dsimp only
    | split | apply withCreditDue_sameBut

theorem queuePop_sameBut (hF : [Part.regs, .mesh, .creditDue, .sent] ⊆ F) {s : State} {u i n}
    (h0 : SameBut F s₀ s) :
    SameBut F s₀ (queuePop s u i n) := by
  unfold queuePop
  with_reducible repeat' first
    | assumption | exact subset_of hF (by decide) | intro _ | apply keeps_ite | apply put_sameBut
    | apply queueTake_sameBut | dsimp only | split

theorem returnOne_sameBut (hF : [Part.regs, .mesh, .creditDue] ⊆ F) {s : State} {u i} (h0 : SameBut F s₀ s) :
    SameBut F s₀ (returnOne s u i) := by
  unfold returnOne
  with_reducible repeat' first
    | assumption | exact subset_of hF (by decide) | intro _ | apply qput_sameBut | apply sendCredit_sameBut
    | dsimp only | apply withCreditDue_sameBut

theorem returnCredits_sameBut (hF : [Part.regs, .mesh, .creditDue] ⊆ F) {s : State} {u i} (h0 : SameBut F s₀ s)
    :
    SameBut F s₀ (returnCredits s u i) := by
  unfold returnCredits
  with_reducible repeat' first
    | assumption | exact subset_of hF (by decide) | intro _ | apply keeps_foldl | apply keeps_ite
    | apply keeps_foldl_fst | apply keeps_foldl_snd | apply keeps_ite_snd | apply returnOne_sameBut | dsimp only

theorem gapScanOne_sameBut (hF : [Part.regs, .events, .objs, .oooSeen, .sent] ⊆ F) {s : State} {u i}
    (h0 : SameBut F s₀ s) :
    SameBut F s₀ (gapScanOne s u i) := by
  unfold gapScanOne
  with_reducible repeat' first
    | assumption | exact subset_of hF (by decide) | intro _ | apply keeps_ite | apply raise_sameBut
    | apply put_sameBut | apply qput_sameBut | apply log_sameBut | apply countObj_sameBut | apply count_sameBut
    | dsimp only | apply withOooSeen_sameBut

theorem gapScan_sameBut (hF : [Part.regs, .events, .objs, .oooSeen, .sent] ⊆ F) {s : State} {u}
    (h0 : SameBut F s₀ s) :
    SameBut F s₀ (gapScan s u) := by
  unfold gapScan
  with_reducible repeat' first
    | assumption | exact subset_of hF (by decide) | intro _ | apply keeps_foldl | apply keeps_ite
    | apply keeps_foldl_fst | apply gapScanOne_sameBut

theorem execOpenRx_sameBut (hF : [Part.regs, .clearing, .creditDue, .oooSeen, .sent] ⊆ F) {unit index}
    {s : State} (h2 : SameBut F s₀ s) :
    ResultSameBut F s₀ (execOpenRx unit index s) := by
  unfold execOpenRx
  with_reducible repeat' first
    | assumption | exact subset_of hF (by decide) | apply done_sameBut | intro _ | apply openRx_sameBut

theorem execFillMapCleared_sameBut (hF : [Part.regs, .mem, .events, .mesh, .clearing, .fw] ⊆ F) {unit index}
    {s : State} (h2 : SameBut F s₀ s) :
    ResultSameBut F s₀ (execFillMapCleared unit index s) := by
  unfold execFillMapCleared
  with_reducible repeat' first
    | assumption | exact subset_of hF (by decide) | apply done_sameBut | intro _ | apply fillCleared_sameBut

theorem execResetRx_sameBut (hF : [Part.regs, .mesh, .clearing, .creditDue, .oooSeen, .sent] ⊆ F) {unit index}
    {s : State} (h2 : SameBut F s₀ s) :
    ResultSameBut F s₀ (execResetRx unit index s) := by
  unfold execResetRx
  with_reducible repeat' first
    | assumption | exact subset_of hF (by decide) | apply done_sameBut | intro _ | apply resetRx_sameBut

theorem execCloseQueue_sameBut (hF : [Part.regs, .mesh, .clearing, .creditDue, .sent] ⊆ F) {unit index}
    {s : State} (h2 : SameBut F s₀ s) :
    ResultSameBut F s₀ (execCloseQueue unit index s) := by
  unfold execCloseQueue
  with_reducible repeat' first
    | assumption | exact subset_of hF (by decide) | apply done_sameBut | intro _ | apply closeQueue_sameBut

theorem execOpenTx_sameBut (hF : [Part.regs] ⊆ F) {unit index} {s : State} (h2 : SameBut F s₀ s) :
    ResultSameBut F s₀ (execOpenTx unit index s) := by
  unfold execOpenTx
  with_reducible repeat' first
    | assumption | exact subset_of hF (by decide) | apply done_sameBut | intro _ | apply openTx_sameBut

theorem execAckEpoch_sameBut (hF : [Part.regs] ⊆ F) {unit index} {s : State} (h2 : SameBut F s₀ s) :
    ResultSameBut F s₀ (execAckEpoch unit index s) := by
  unfold execAckEpoch
  with_reducible repeat' first
    | assumption | exact subset_of hF (by decide) | apply done_sameBut | intro _ | apply ackEpoch_sameBut

theorem execQueueSend_sameBut (hF : [Part.regs, .mesh] ⊆ F) {unit index} {s : State} (h2 : SameBut F s₀ s) :
    ResultSameBut F s₀ (execQueueSend unit index s) := by
  unfold execQueueSend
  with_reducible repeat' first
    | assumption | exact subset_of hF (by decide) | apply done_sameBut | intro _ | apply queueSend_sameBut

theorem takeCtrl_sameBut (hF : [Part.mesh] ⊆ F) {s : State} {u ptype : Nat} (h : SameBut F s₀ s) :
    ∀ b t, takeCtrl s u ptype = some (b, t) → SameBut F s₀ t := by
  intro b t e
  simp only [takeCtrl, Option.bind_eq_some_iff, Option.map_eq_some_iff, Prod.mk.injEq] at e
  obtain ⟨n, -, p, -, -, rfl⟩ := e
  exact onMesh_sameBut hF h

theorem execCreditReturnReceive_sameBut (hF : [Part.regs, .mesh] ⊆ F) {unit} {s : State} (h1 : SameBut F s₀ s) :
    ResultSameBut F s₀ (execCreditReturnReceive unit s) := by
  unfold execCreditReturnReceive
  with_reducible repeat' first
    | assumption | exact subset_of hF (by decide) | apply done_sameBut | intro _ | apply creditPip_sameBut | split
    | refine takeCtrl_sameBut (subset_of hF (by decide)) ?_ _ _ (by assumption)

theorem execCreditRevokeReceive_sameBut (hF : [Part.regs, .mesh] ⊆ F) {unit} {s : State} (h1 : SameBut F s₀ s) :
    ResultSameBut F s₀ (execCreditRevokeReceive unit s) := by
  unfold execCreditRevokeReceive
  with_reducible repeat' first
    | assumption | exact subset_of hF (by decide) | apply done_sameBut | intro _ | apply creditPip_sameBut | split
    | refine takeCtrl_sameBut (subset_of hF (by decide)) ?_ _ _ (by assumption)

theorem execQueuePop_sameBut (hF : [Part.regs, .mesh, .creditDue, .sent] ⊆ F) {unit index count} {s : State}
    (h3 : SameBut F s₀ s) :
    ResultSameBut F s₀ (execQueuePop unit index count s) := by
  unfold execQueuePop
  with_reducible repeat' first
    | assumption | exact subset_of hF (by decide) | apply done_sameBut | intro _ | apply queuePop_sameBut

theorem execCreditReturnSend_sameBut (hF : [Part.regs, .mesh, .creditDue] ⊆ F) {unit index} {s : State}
    (h2 : SameBut F s₀ s) :
    ResultSameBut F s₀ (execCreditReturnSend unit index s) := by
  unfold execCreditReturnSend
  with_reducible repeat' first
    | assumption | exact subset_of hF (by decide) | apply done_sameBut | intro _ | apply returnCredits_sameBut

theorem execGapScan_sameBut (hF : [Part.regs, .events, .objs, .oooSeen, .sent] ⊆ F) {unit} {s : State}
    (h1 : SameBut F s₀ s) :
    ResultSameBut F s₀ (execGapScan unit s) := by
  unfold execGapScan
  with_reducible repeat' first
    | assumption | exact subset_of hF (by decide) | apply done_sameBut | intro _ | apply gapScan_sameBut

end Sys2Proof.Machine.State
end

section
set_option Elab.async false
/-! PROOFS. The footprints of the operations of `Sys2Proof/Machine/Neuron.lean`. -/

namespace Sys2Proof.Machine.State

set_option linter.unusedTactic false
set_option linter.unreachableTactic false

variable {F : List Part} {s₀ : State}

theorem ctxError_sameBut (hF : [Part.regs, .sent] ⊆ F) {s : State} {t n code} (h0 : SameBut F s₀ s) :
    SameBut F s₀ (ctxError s t n code) := by
  unfold ctxError
  with_reducible repeat' first
    | assumption | exact subset_of hF (by decide) | intro _ | apply put_sameBut | apply raise_sameBut | dsimp only

theorem ctxWrite_sameBut (hF : [Part.regs, .sent] ⊆ F) {s : State} {t n off w} (h0 : SameBut F s₀ s) :
    SameBut F s₀ (ctxWrite s t n off w) := by
  unfold ctxWrite
  with_reducible repeat' first
    | assumption | exact subset_of hF (by decide) | intro _ | apply keeps_foldl | apply keeps_ite
    | apply keeps_foldl_fst | apply writeOnly_sameBut | apply ctxError_sameBut | dsimp only | split

theorem ctrlWrite_sameBut (hF : [Part.regs, .sent] ⊆ F) {s : State} {t n w} (h0 : SameBut F s₀ s) :
    SameBut F s₀ (ctrlWrite s t n w) := by
  unfold ctrlWrite
  with_reducible repeat' first
    | assumption | exact subset_of hF (by decide) | intro _ | apply keeps_ite | apply ctxWrite_sameBut
    | apply put_sameBut | apply ctxError_sameBut | dsimp only

theorem windowWrite_sameBut (hF : [Part.regs, .sent] ⊆ F) {s : State} {t w} (h0 : SameBut F s₀ s) :
    SameBut F s₀ (windowWrite s t w) := by
  unfold windowWrite
  with_reducible repeat' first
    | assumption | exact subset_of hF (by decide) | intro _ | apply keeps_ite | apply raise_sameBut
    | apply put_sameBut | dsimp only

theorem execContextEnable_sameBut (hF : [Part.regs, .sent] ⊆ F) {tile ctx value} {s : State}
    (h3 : SameBut F s₀ s) :
    ResultSameBut F s₀ (execContextEnable tile ctx value s) := by
  unfold execContextEnable
  with_reducible repeat' first
    | assumption | exact subset_of hF (by decide) | apply done_sameBut | intro _ | apply ctrlWrite_sameBut | split

theorem execContextDisable_sameBut (hF : [Part.regs, .sent] ⊆ F) {tile ctx value} {s : State}
    (h3 : SameBut F s₀ s) :
    ResultSameBut F s₀ (execContextDisable tile ctx value s) := by
  unfold execContextDisable
  with_reducible repeat' first
    | assumption | exact subset_of hF (by decide) | apply done_sameBut | intro _ | apply ctrlWrite_sameBut

theorem execContextFieldWrite_sameBut (hF : [Part.regs, .sent] ⊆ F) {tile ctx reg value} {s : State}
    (h4 : SameBut F s₀ s) :
    ResultSameBut F s₀ (execContextFieldWrite tile ctx reg value s) := by
  unfold execContextFieldWrite
  with_reducible repeat' first
    | assumption | exact subset_of hF (by decide) | apply done_sameBut | intro _ | apply ctxWrite_sameBut

theorem execNeWindowWrite_sameBut (hF : [Part.regs, .sent] ⊆ F) {tile value} {s : State} (h2 : SameBut F s₀ s) :
    ResultSameBut F s₀ (execNeWindowWrite tile value s) := by
  unfold execNeWindowWrite
  with_reducible repeat' first
    | assumption | exact subset_of hF (by decide) | apply done_sameBut | intro _ | apply windowWrite_sameBut

end Sys2Proof.Machine.State
end

section
set_option Elab.async false
/-! PROOFS. The footprints of the operations of `Sys2Proof/Machine/Delivery.lean`. -/

namespace Sys2Proof.Machine.State

set_option linter.unusedTactic false
set_option linter.unreachableTactic false

variable {F : List Part} {s₀ : State}

theorem onDelivery_sameBut (hF : [Part.delivery] ⊆ F) {s : State} {f} (h0 : SameBut F s₀ s) :
    SameBut F s₀ (onDelivery s f) := by
  unfold onDelivery
  with_reducible repeat' first | assumption | exact subset_of hF (by decide) | intro _ | apply withDelivery_sameBut

theorem areaWrite_sameBut (hF : [Part.regs, .mem, .events, .fw] ⊆ F) {s : State} {p n d j i grade}
    (h0 : SameBut F s₀ s) :
    SameBut F s₀ (areaWrite s p n d j i grade) := by
  unfold areaWrite
  with_reducible repeat' first
    | assumption | exact subset_of hF (by decide) | intro _ | apply wrLe_sameBut | dsimp only

theorem areaClear_sameBut (hF : [Part.regs, .mem, .events, .fw] ⊆ F) {s : State} {p n d} (h0 : SameBut F s₀ s) :
    SameBut F s₀ (areaClear s p n d) := by
  unfold areaClear
  with_reducible repeat' first | assumption | exact subset_of hF (by decide) | intro _ | apply wrBytes_sameBut

theorem dqLevel_sameBut (hF : [Part.regs] ⊆ F) {s : State} {t} (h0 : SameBut F s₀ s) : SameBut F s₀ (dqLevel s t) := by
  unfold dqLevel
  with_reducible repeat' first
    | assumption | exact subset_of hF (by decide) | intro _ | apply raiseTo_sameBut | apply put_sameBut | dsimp only

theorem refillDeques_sameBut (hF : [Part.regs, .delivery] ⊆ F) {s : State} {t} (h0 : SameBut F s₀ s) :
    SameBut F s₀ (refillDeques s t) := by
  unfold refillDeques
  with_reducible repeat' first
    | assumption | exact subset_of hF (by decide) | intro _ | apply dqLevel_sameBut | apply onDelivery_sameBut
    | dsimp only

theorem dropDead_sameBut (hF : [Part.regs] ⊆ F) {s : State} {home k} (h0 : SameBut F s₀ s) :
    SameBut F s₀ (dropDead s home k) := by
  unfold dropDead
  with_reducible repeat' first | assumption | exact subset_of hF (by decide) | intro _ | apply countDrop_sameBut

theorem pushStep_sameBut (hF : [Part.regs, .delivery] ⊆ F) {s : State} {home j} (h0 : SameBut F s₀ s) :
    SameBut F s₀ (pushStep s home j) := by
  unfold pushStep
  with_reducible repeat' first
    | assumption | exact subset_of hF (by decide) | intro _ | apply keeps_ite | apply dropDead_sameBut
    | apply dqLevel_sameBut | apply onDelivery_sameBut

theorem pushWin_sameBut (hF : [Part.regs, .delivery] ⊆ F) {s : State} {home js} (h0 : SameBut F s₀ s) :
    SameBut F s₀ (pushWin s home js) := by
  unfold pushWin
  with_reducible repeat' first
    | assumption | exact subset_of hF (by decide) | intro _ | apply keeps_ite | apply dropDead_sameBut
    | apply refillDeques_sameBut | apply onDelivery_sameBut

theorem pushParts_sameBut (hF : [Part.regs, .delivery] ⊆ F) {s : State} {home js} (h0 : SameBut F s₀ s) :
    SameBut F s₀ (pushParts s home js) := by
  unfold pushParts
  with_reducible repeat' first
    | assumption | exact subset_of hF (by decide) | intro _ | apply keeps_ite | apply dropDead_sameBut
    | apply refillDeques_sameBut | apply onDelivery_sameBut

theorem sweepsSettle_sameBut (hF : [Part.regs, .delivery] ⊆ F) {s : State} {p} (h0 : SameBut F s₀ s) :
    SameBut F s₀ (sweepsSettle s p) := by
  unfold sweepsSettle
  with_reducible repeat' first
    | assumption | exact subset_of hF (by decide) | intro _ | apply keeps_ite | apply onDelivery_sameBut
    | apply put_sameBut | dsimp only | split

theorem drainDead_sameBut (hF : [Part.regs, .delivery] ⊆ F) {s : State} {p} (h0 : SameBut F s₀ s) :
    SameBut F s₀ (drainDead s p) := by
  unfold drainDead
  with_reducible repeat' first
    | assumption | exact subset_of hF (by decide) | intro _ | apply keeps_foldl | apply keeps_ite
    | apply keeps_foldl_fst | apply sweepsSettle_sameBut | apply dqLevel_sameBut | apply onDelivery_sameBut
    | apply dropDead_sameBut | dsimp only | split

theorem takeJob_sameBut (hF : [Part.regs, .delivery] ⊆ F) {s : State} {v win j fromHead} (h0 : SameBut F s₀ s) :
    SameBut F s₀ (takeJob s v win j fromHead) := by
  unfold takeJob
  with_reducible repeat' first
    | assumption | exact subset_of hF (by decide) | intro _ | apply keeps_ite | apply refillDeques_sameBut
    | apply onDelivery_sameBut | dsimp only | split

theorem faultSlot_sameBut (hF : [Part.regs, .events, .delivery, .sent] ⊆ F) {s : State} {t p n d b src}
    (h0 : SameBut F s₀ s) :
    SameBut F s₀ (faultSlot s t p n d b src) := by
  unfold faultSlot
  with_reducible repeat' first
    | assumption | exact subset_of hF (by decide) | intro _ | apply keeps_ite | apply log_sameBut
    | apply raise_sameBut | apply put_sameBut | apply onDelivery_sameBut | dsimp only

theorem faultHomeless_sameBut (hF : [Part.regs, .events, .delivery] ⊆ F) {s : State} {t p n d}
    (h0 : SameBut F s₀ s) :
    SameBut F s₀ (faultHomeless s t p n d) := by
  unfold faultHomeless
  with_reducible repeat' first
    | assumption | exact subset_of hF (by decide) | intro _ | apply keeps_ite | apply onDelivery_sameBut
    | apply countDrop_sameBut | apply log_sameBut | apply put_sameBut

theorem sendAll_sameBut (hF : [Part.delivery] ⊆ F) {s : State} {t p n win out} (h0 : SameBut F s₀ s) :
    SameBut F s₀ (sendAll s t p n win out) := by
  unfold sendAll
  with_reducible repeat' first
    | assumption | exact subset_of hF (by decide) | intro _ | apply keeps_foldl | apply keeps_foldl_fst
    | apply onDelivery_sameBut | split

theorem finishWork_sameBut (hF : [Part.regs, .events, .once, .delivery, .sent] ⊆ F) {s : State} {t p n d src w}
    (h0 : SameBut F s₀ s) :
    SameBut F s₀ (finishWork s t p n d src w) := by
  unfold finishWork
  with_reducible repeat' first
    | assumption | exact subset_of hF (by decide) | intro _ | apply countOp_sameBut | apply add64_sameBut
    | apply sendAll_sameBut | apply logOnce_sameBut | apply faultSlot_sameBut | dsimp only | split

theorem deferRecord_sameBut (hF : [Part.regs, .mem, .events, .mesh, .once, .sent, .fw] ⊆ F) {s : State} {home e}
    (h0 : SameBut F s₀ s) :
    SameBut F s₀ (deferRecord s home e) := by
  unfold deferRecord
  with_reducible repeat' first
    | assumption | exact subset_of hF (by decide) | intro _ | apply keeps_ite | apply dsWrite_sameBut
    | apply onMesh_sameBut | split

theorem expandList_sameBut (hF : [Part.regs, .mem, .events, .mesh, .once, .delivery, .sent, .fw] ⊆ F)
    {s : State} {t p d j cut} (h0 : SameBut F s₀ s) :
    SameBut F s₀ (expandList s t p d j cut) := by
  unfold expandList
  with_reducible repeat' first
    | assumption | exact subset_of hF (by decide) | intro _ | apply keeps_foldl | apply keeps_ite | apply keeps_getD
    | apply keeps_foldl_fst | apply faultSlot_sameBut | apply finishWork_sameBut | apply deferRecord_sameBut
    | dsimp only | split

theorem expandBlock_sameBut (hF : [Part.regs, .events, .once, .delivery, .sent] ⊆ F) {s : State} {t p d j cut}
    (h0 : SameBut F s₀ s) :
    SameBut F s₀ (expandBlock s t p d j cut) := by
  unfold expandBlock
  with_reducible repeat' first
    | assumption | exact subset_of hF (by decide) | intro _ | apply keeps_foldl | apply keeps_ite
    | apply keeps_foldl_fst | apply finishWork_sameBut | dsimp only | split

theorem runPart_sameBut (hF : [Part.regs, .events, .once, .delivery, .sent] ⊆ F) {s : State} {t p d j cut}
    (h0 : SameBut F s₀ s) :
    SameBut F s₀ (runPart s t p d j cut) := by
  unfold runPart
  with_reducible repeat' first
    | assumption | exact subset_of hF (by decide) | intro _ | apply keeps_ite | apply finishWork_sameBut | dsimp only
    | split

theorem stageFree_sameBut (hF : [Part.regs, .mem, .events, .fw] ⊆ F) {s : State} {d} (h0 : SameBut F s₀ s) :
    SameBut F s₀ (stageFree s d) := by
  unfold stageFree
  with_reducible repeat' first | assumption | exact subset_of hF (by decide) | intro _ | apply wrBytes_sameBut

theorem releaseHalf_sameBut (hF : [Part.regs, .mem, .events, .delivery, .fw] ⊆ F) {s : State} {p n h3}
    (h0 : SameBut F s₀ s) :
    SameBut F s₀ (releaseHalf s p n h3) := by
  unfold releaseHalf
  with_reducible repeat' first
    | assumption | exact subset_of hF (by decide) | intro _ | apply keeps_ite | apply onDelivery_sameBut
    | apply stageFree_sameBut | apply wr8_sameBut | dsimp only | split

theorem settle_sameBut (hF : [Part.regs, .mem, .events, .delivery, .fw] ⊆ F) {s : State} {p n}
    (h0 : SameBut F s₀ s) :
    SameBut F s₀ (settle s p n) := by
  unfold settle
  with_reducible repeat' first
    | assumption | exact subset_of hF (by decide) | intro _ | apply releaseHalf_sameBut | apply sweepsSettle_sameBut

theorem runJob_sameBut (hF : [Part.regs, .mem, .events, .mesh, .once, .delivery, .sent, .fw] ⊆ F) {s : State}
    {t j cut} (h0 : SameBut F s₀ s) :
    SameBut F s₀ (runJob s t j cut) := by
  unfold runJob
  with_reducible repeat' first
    | assumption | exact subset_of hF (by decide) | intro _ | apply keeps_ite | apply countDrop_sameBut
    | apply runPart_sameBut | apply expandBlock_sameBut | apply expandList_sameBut | apply count_sameBut
    | apply settle_sameBut | dsimp only

theorem engineTake_sameBut
    (hF : [Part.regs, .mem, .freeCount, .events, .mesh, .once, .objs, .fault, .delivery, .sent, .fw] ⊆ F)
    {s : State} {t ecc} (h0 : SameBut F s₀ s) :
    SameBut F s₀ (engineTake s t ecc) := by
  unfold engineTake
  with_reducible repeat' first
    | assumption | exact subset_of hF (by decide) | intro _ | apply keeps_ite | apply takeJob_sameBut
    | apply count_sameBut | apply runJob_sameBut | apply podHit_sameBut | apply useFree_sameBut | dsimp only | split

theorem sweepBegin_sameBut (hF : [Part.regs, .delivery] ⊆ F) {s : State} {p n d} (h0 : SameBut F s₀ s) :
    SameBut F s₀ (sweepBegin s p n d) := by
  unfold sweepBegin
  with_reducible repeat' first
    | assumption | exact subset_of hF (by decide) | intro _ | apply onDelivery_sameBut | apply put_sameBut
    | dsimp only

theorem sweepSlot_sameBut (hF : [Part.regs, .mem, .events, .clearing, .delivery, .fw] ⊆ F) {s : State} {p n d t}
    (h0 : SameBut F s₀ s) :
    SameBut F s₀ (sweepSlot s p n d t) := by
  unfold sweepSlot
  with_reducible repeat' first
    | assumption | exact subset_of hF (by decide) | intro _ | apply keeps_ite | apply onDelivery_sameBut
    | apply put_sameBut | apply sweepBegin_sameBut | apply settle_sameBut | apply pushParts_sameBut | dsimp only
    | split | apply withClearing_sameBut

theorem sweepGenerate_sameBut (hF : [Part.regs, .mem, .events, .clearing, .delivery, .fw] ⊆ F) {s : State} {t}
    (h0 : SameBut F s₀ s) :
    SameBut F s₀ (sweepGenerate s t) := by
  unfold sweepGenerate
  with_reducible repeat' first
    | assumption | exact subset_of hF (by decide) | intro _ | apply keeps_foldl | apply keeps_foldl_fst
    | apply keeps_foldl_snd | apply keeps_ite_snd | apply sweepSlot_sameBut

theorem preCount_sameBut (hF : [Part.regs, .mem, .events, .fw] ⊆ F) {s : State} {p n d axon t}
    (h0 : SameBut F s₀ s) :
    SameBut F s₀ (preCount s p n d axon t) := by
  unfold preCount
  with_reducible repeat' first
    | assumption | exact subset_of hF (by decide) | intro _ | apply keeps_ite | apply wrLe_sameBut | dsimp only

theorem winStore_sameBut (hF : [Part.regs, .mem, .events, .delivery, .sent, .fw] ⊆ F) {s : State}
    {tile step record} (h0 : SameBut F s₀ s) :
    SameBut F s₀ (winStore s tile step record) := by
  unfold winStore
  with_reducible repeat' first
    | assumption | exact subset_of hF (by decide) | intro _ | apply keeps_ite | apply put_sameBut | apply wrLe_sameBut
    | apply raise_sameBut | apply countDrop_sameBut | apply log_sameBut | apply onDelivery_sameBut | dsimp only

theorem matchApply_sameBut (hF : [Part.regs, .mem, .events, .delivery, .fw] ⊆ F) {s : State}
    {tile p x3 g record} (h0 : SameBut F s₀ s) :
    SameBut F s₀ (matchApply s tile p x3 g record) := by
  unfold matchApply
  with_reducible repeat' first
    | assumption | exact subset_of hF (by decide) | intro _ | apply keeps_ite | apply keeps_getD
    | apply preCount_sameBut | apply countDrop_sameBut | apply faultHomeless_sameBut | apply pushStep_sameBut
    | apply count_sameBut | apply onDelivery_sameBut | apply areaWrite_sameBut | dsimp only | split

theorem matchHit_sameBut (hF : [Part.regs, .freeCount, .events, .once, .objs, .fault, .delivery, .sent] ⊆ F)
    {s : State} {tile axon h3 n} (h0 : SameBut F s₀ s) :
    SameBut F s₀ (matchHit s tile axon h3 n) := by
  unfold matchHit
  with_reducible repeat' first
    | assumption | exact subset_of hF (by decide) | intro _ | apply keeps_ite | apply podHit_sameBut
    | apply faultSlot_sameBut | apply useFree_sameBut | dsimp only

theorem matchRecord_sameBut
    (hF : [Part.regs, .mem, .freeCount, .events, .mesh, .once, .objs, .fault, .delivery, .sent, .fw] ⊆ F)
    {s : State} {tile ecc} (h0 : SameBut F s₀ s) :
    SameBut F s₀ (matchRecord s tile ecc) := by
  unfold matchRecord
  with_reducible repeat' first
    | assumption | exact subset_of hF (by decide) | intro _ | apply keeps_foldl | apply keeps_ite
    | apply keeps_foldl_fst | apply keeps_foldl_snd | apply keeps_ite_snd | apply matchHit_sameBut
    | apply count_sameBut | apply onMesh_sameBut | apply matchApply_sameBut | apply winStore_sameBut | dsimp only
    | split

theorem accumulate_sameBut (hF : [Part.regs, .mem, .events, .fw] ⊆ F) {s : State} {t c} (h0 : SameBut F s₀ s) :
    SameBut F s₀ (accumulate s t c) := by
  unfold accumulate
  with_reducible repeat' first
    | assumption | exact subset_of hF (by decide) | intro _ | apply keeps_ite | apply countDrop_sameBut
    | apply wrLe_sameBut | dsimp only

theorem accumulateNext_sameBut (hF : [Part.regs, .mem, .events, .once, .objs, .fault, .delivery, .fw] ⊆ F)
    {s : State} {t ecc} (h0 : SameBut F s₀ s) :
    SameBut F s₀ (accumulateNext s t ecc) := by
  unfold accumulateNext
  with_reducible repeat' first
    | assumption | exact subset_of hF (by decide) | intro _ | apply keeps_ite | apply onDelivery_sameBut
    | apply accumulate_sameBut | apply tileHit_sameBut | dsimp only | split

theorem winMatch_sameBut (hF : [Part.regs, .mem, .events, .delivery, .fw] ⊆ F) {s : State} {tile p m x4 record}
    (h0 : SameBut F s₀ s) :
    SameBut F s₀ (winMatch s tile p m x4 record) := by
  unfold winMatch
  with_reducible repeat' first
    | assumption | exact subset_of hF (by decide) | intro _ | apply keeps_ite | apply keeps_getD
    | apply countDrop_sameBut | apply faultHomeless_sameBut | apply areaWrite_sameBut | apply count_sameBut
    | apply pushWin_sameBut | dsimp only | split

theorem winSweep_sameBut (hF : [Part.regs, .delivery] ⊆ F) {s : State} {p m x3} (h0 : SameBut F s₀ s) :
    SameBut F s₀ (winSweep s p m x3) := by
  unfold winSweep
  with_reducible repeat' first
    | assumption | exact subset_of hF (by decide) | intro _ | apply keeps_ite | apply sweepBegin_sameBut
    | apply pushWin_sameBut | dsimp only | split

theorem winBegin_sameBut (hF : [Part.regs, .mem, .events, .delivery, .fw] ⊆ F) {s : State} {p m}
    (h0 : SameBut F s₀ s) :
    SameBut F s₀ (winBegin s p m) := by
  unfold winBegin
  with_reducible repeat' first
    | assumption | exact subset_of hF (by decide) | intro _ | apply keeps_foldl | apply keeps_ite
    | apply keeps_foldl_fst | apply keeps_foldl_snd | apply keeps_ite_snd | apply onDelivery_sameBut
    | apply winMatch_sameBut | apply winSweep_sameBut | dsimp only

theorem chunkTake_sameBut (hF : [Part.regs, .mem, .events, .delivery, .fw] ⊆ F) {s : State} {p n h3}
    (h0 : SameBut F s₀ s) :
    SameBut F s₀ (chunkTake s p n h3) := by
  unfold chunkTake
  with_reducible repeat' first
    | assumption | exact subset_of hF (by decide) | intro _ | apply keeps_ite | apply keeps_getD
    | apply onDelivery_sameBut | apply pushWin_sameBut | apply releaseHalf_sameBut | dsimp only | split

theorem winClear_sameBut (hF : [Part.regs, .mem, .events, .delivery, .fw] ⊆ F) {s : State} {t m}
    (h0 : SameBut F s₀ s) :
    SameBut F s₀ (winClear s t m) := by
  unfold winClear
  with_reducible repeat' first
    | assumption | exact subset_of hF (by decide) | intro _ | apply keeps_foldl | apply keeps_ite
    | apply keeps_foldl_fst | apply keeps_foldl_snd | apply keeps_ite_snd | apply areaClear_sameBut
    | apply onDelivery_sameBut | apply put_sameBut | dsimp only

theorem winDone_sameBut (hF : [Part.regs, .mem, .events, .delivery, .fw] ⊆ F) {s : State} {t}
    (h0 : SameBut F s₀ s) :
    SameBut F s₀ (winDone s t) := by
  unfold winDone
  with_reducible repeat' first
    | assumption | exact subset_of hF (by decide) | intro _ | apply keeps_ite | apply winClear_sameBut | split

theorem winCut_sameBut (hF : [Part.regs, .mem, .events, .delivery, .fw] ⊆ F) {s : State} {t}
    (h0 : SameBut F s₀ s) :
    SameBut F s₀ (winCut s t) := by
  unfold winCut
  with_reducible repeat' first
    | assumption | exact subset_of hF (by decide) | intro _ | apply onDelivery_sameBut | apply countDrop_sameBut
    | apply dqLevel_sameBut | apply winClear_sameBut | dsimp only | split

theorem windowCut_sameBut (hF : [Part.regs, .mem, .events, .delivery, .fw] ⊆ F) {s : State}
    (h0 : SameBut F s₀ s) :
    SameBut F s₀ (windowCut s) := by
  unfold windowCut
  with_reducible repeat' first
    | assumption | exact subset_of hF (by decide) | intro _ | apply keeps_foldl | apply keeps_ite
    | apply keeps_foldl_fst | apply keeps_foldl_snd | apply keeps_ite_snd | apply log_sameBut | apply winCut_sameBut
    | dsimp only | split

theorem releaseBad_sameBut (hF : [Part.regs, .events, .once, .sent] ⊆ F) {s : State} {r} (h0 : SameBut F s₀ s) :
    SameBut F s₀ (releaseBad s r) := by
  unfold releaseBad
  with_reducible repeat' first
    | assumption | exact subset_of hF (by decide) | intro _ | apply logOnce_sameBut | apply raise_sameBut
    | apply put_sameBut | apply countDrop_sameBut

theorem releaseEntry_sameBut (hF : [Part.regs, .events, .mesh, .once, .delivery, .sent] ⊆ F) {s : State} {r e}
    (h0 : SameBut F s₀ s) :
    SameBut F s₀ (releaseEntry s r e) := by
  unfold releaseEntry
  with_reducible repeat' first
    | assumption | exact subset_of hF (by decide) | intro _ | apply keeps_ite | apply logOnce_sameBut
    | apply countDrop_sameBut | apply onMesh_sameBut | apply pushStep_sameBut | apply releaseBad_sameBut | dsimp only
    | split

theorem spillStep_sameBut (hF : [Part.regs, .mesh] ⊆ F) {s : State} {r} (h0 : SameBut F s₀ s) :
    SameBut F s₀ (spillStep s r) := by
  unfold spillStep
  with_reducible repeat' first
    | assumption | exact subset_of hF (by decide) | intro _ | apply keeps_ite | apply put_sameBut
    | apply onMesh_sameBut | dsimp only

theorem releaseNext_sameBut (hF : [Part.regs, .events, .mesh, .once, .delivery, .sent] ⊆ F) {s : State}
    {r poisoned} (h0 : SameBut F s₀ s) :
    SameBut F s₀ (releaseNext s r poisoned) := by
  unfold releaseNext
  with_reducible repeat' first
    | assumption | exact subset_of hF (by decide) | intro _ | apply keeps_ite | apply releaseEntry_sameBut
    | apply dsLevel_sameBut | apply onMesh_sameBut | apply releaseBad_sameBut | apply spillStep_sameBut | dsimp only
    | split

theorem cutTile_sameBut (hF : [Part.regs, .mesh, .delivery, .sent] ⊆ F) {s : State} {t} (h0 : SameBut F s₀ s) :
    SameBut F s₀ (cutTile s t) := by
  unfold cutTile
  with_reducible repeat' first
    | assumption | exact subset_of hF (by decide) | intro _ | apply keeps_foldl | apply keeps_ite
    | apply keeps_foldl_fst | apply onDelivery_sameBut | apply onMesh_sameBut | apply put_sameBut
    | apply dropLate_sameBut | apply dqLevel_sameBut | apply dsLevel_sameBut | apply raise_sameBut | dsimp only

theorem projCtrlWrite_sameBut (hF : [Part.regs, .events] ⊆ F) {s : State} {p n v} (h0 : SameBut F s₀ s) :
    SameBut F s₀ (projCtrlWrite s p n v) := by
  unfold projCtrlWrite
  with_reducible repeat' first
    | assumption | exact subset_of hF (by decide) | intro _ | apply keeps_ite | apply writeOnly_sameBut
    | apply log_sameBut | apply put_sameBut | dsimp only

theorem execMatchRecord_sameBut
    (hF : [Part.regs, .mem, .freeCount, .events, .mesh, .once, .objs, .fault, .delivery, .sent, .fw] ⊆ F)
    {tile ecc} {s : State} (h2 : SameBut F s₀ s) :
    ResultSameBut F s₀ (execMatchRecord tile ecc s) := by
  unfold execMatchRecord
  with_reducible repeat' first
    | assumption | exact subset_of hF (by decide) | apply done_sameBut | intro _ | apply matchRecord_sameBut

theorem execEngineTakeJob_sameBut
    (hF : [Part.regs, .mem, .freeCount, .events, .mesh, .once, .objs, .fault, .delivery, .sent, .fw] ⊆ F)
    {tile ecc} {s : State} (h2 : SameBut F s₀ s) :
    ResultSameBut F s₀ (execEngineTakeJob tile ecc s) := by
  unfold execEngineTakeJob
  with_reducible repeat' first
    | assumption | exact subset_of hF (by decide) | apply done_sameBut | intro _ | apply engineTake_sameBut

theorem execAccumulateContribution_sameBut
    (hF : [Part.regs, .mem, .events, .once, .objs, .fault, .delivery, .fw] ⊆ F) {tile ecc} {s : State}
    (h2 : SameBut F s₀ s) :
    ResultSameBut F s₀ (execAccumulateContribution tile ecc s) := by
  unfold execAccumulateContribution
  with_reducible repeat' first
    | assumption | exact subset_of hF (by decide) | apply done_sameBut | intro _ | apply accumulateNext_sameBut

theorem execAreaClearDone_sameBut (hF : [Part.regs, .mem, .events, .clearing, .delivery, .fw] ⊆ F) {pod slot}
    {s : State} (h2 : SameBut F s₀ s) :
    ResultSameBut F s₀ (execAreaClearDone pod slot s) := by
  unfold execAreaClearDone
  with_reducible repeat' first
    | assumption | exact subset_of hF (by decide) | apply done_sameBut | apply keeps_ite_result | intro _
    | apply keeps_ite | apply onDelivery_sameBut | apply areaClear_sameBut | dsimp only | apply withClearing_sameBut

theorem execWindowApplicationDone_sameBut (hF : [Part.regs, .mem, .events, .delivery, .fw] ⊆ F) {tile}
    {s : State} (h1 : SameBut F s₀ s) :
    ResultSameBut F s₀ (execWindowApplicationDone tile s) := by
  unfold execWindowApplicationDone
  with_reducible repeat' first
    | assumption | exact subset_of hF (by decide) | apply done_sameBut | intro _ | apply winDone_sameBut

theorem execProjCtrlWrite_sameBut (hF : [Part.regs, .events] ⊆ F) {pod slot value} {s : State}
    (h3 : SameBut F s₀ s) :
    ResultSameBut F s₀ (execProjCtrlWrite pod slot value s) := by
  unfold execProjCtrlWrite
  with_reducible repeat' first
    | assumption | exact subset_of hF (by decide) | apply done_sameBut | intro _ | apply projCtrlWrite_sameBut

theorem execDelayStoreRelease_sameBut (hF : [Part.regs, .events, .mesh, .once, .delivery, .sent] ⊆ F)
    {router poisoned} {s : State} (h2 : SameBut F s₀ s) :
    ResultSameBut F s₀ (execDelayStoreRelease router poisoned s) := by
  unfold execDelayStoreRelease
  with_reducible repeat' first
    | assumption | exact subset_of hF (by decide) | apply done_sameBut | intro _ | apply releaseNext_sameBut

end Sys2Proof.Machine.State
end

section
set_option Elab.async false
/-! PROOFS. The footprints of the operations of `Sys2Proof/Machine/Scheduled.lean`. -/

namespace Sys2Proof.Machine.State

set_option linter.unusedTactic false
set_option linter.unreachableTactic false

variable {F : List Part} {s₀ : State}

theorem onStreams_sameBut (hF : [Part.streams] ⊆ F) {s : State} {f} (h0 : SameBut F s₀ s) :
    SameBut F s₀ (onStreams s f) := by
  unfold onStreams
  with_reducible repeat' first | assumption | exact subset_of hF (by decide) | intro _ | apply withStreams_sameBut

theorem checkStart_sameBut (hF : [Part.regs] ⊆ F) {s : State} (h0 : SameBut F s₀ s) : SameBut F s₀ (checkStart s) := by
  unfold checkStart
  with_reducible repeat' first
    | assumption | exact subset_of hF (by decide) | intro _ | apply keeps_ite | apply put_sameBut

theorem checkEnd_sameBut (hF : [Part.regs, .events] ⊆ F) {s : State} (h0 : SameBut F s₀ s) :
    SameBut F s₀ (checkEnd s) := by
  unfold checkEnd
  with_reducible repeat' first
    | assumption | exact subset_of hF (by decide) | intro _ | apply keeps_ite | apply put_sameBut | apply log_sameBut
    | dsimp only | split

theorem standbyWritten_sameBut (hF : [Part.regs] ⊆ F) {s : State} (h0 : SameBut F s₀ s) :
    SameBut F s₀ (standbyWritten s) := by
  unfold standbyWritten
  with_reducible repeat' first | assumption | exact subset_of hF (by decide) | intro _ | apply put_sameBut

theorem bankSwap_sameBut (hF : [Part.regs, .streams] ⊆ F) {s : State} (h0 : SameBut F s₀ s) :
    SameBut F s₀ (bankSwap s) := by
  unfold bankSwap
  with_reducible repeat' first
    | assumption | exact subset_of hF (by decide) | intro _ | apply keeps_foldl | apply keeps_ite
    | apply keeps_foldl_fst | apply keeps_foldl_snd | apply keeps_ite_snd | apply put_sameBut
    | apply onStreams_sameBut | dsimp only

theorem swapRequest_sameBut (hF : [Part.regs, .streams] ⊆ F) {s : State} (h0 : SameBut F s₀ s) :
    SameBut F s₀ (swapRequest s) := by
  unfold swapRequest
  with_reducible repeat' first
    | assumption | exact subset_of hF (by decide) | intro _ | apply keeps_ite | apply put_sameBut
    | apply bankSwap_sameBut

theorem copyPut_sameBut (hF : [Part.streams] ⊆ F) {s : State} {c} (h0 : SameBut F s₀ s) :
    SameBut F s₀ (copyPut s c) := by
  unfold copyPut
  with_reducible repeat' first
    | assumption | exact subset_of hF (by decide) | intro _ | apply keeps_ite | apply onStreams_sameBut

theorem strLevel_sameBut (hF : [Part.regs] ⊆ F) {s : State} {q} (h0 : SameBut F s₀ s) :
    SameBut F s₀ (strLevel s q) := by
  unfold strLevel
  with_reducible repeat' first
    | assumption | exact subset_of hF (by decide) | intro _ | apply keeps_foldl | apply keeps_foldl_fst
    | apply put_sameBut | dsimp only

theorem copyEnd_sameBut (hF : [Part.regs, .streams] ⊆ F) {s : State} {q d} (h0 : SameBut F s₀ s) :
    SameBut F s₀ (copyEnd s q d) := by
  unfold copyEnd
  with_reducible repeat' first
    | assumption | exact subset_of hF (by decide) | intro _ | apply strLevel_sameBut | apply onStreams_sameBut

theorem stageAbandon_sameBut (hF : [Part.regs, .mem, .events, .delivery, .streams, .fw] ⊆ F) {s : State} {p ch}
    (h0 : SameBut F s₀ s) :
    SameBut F s₀ (stageAbandon s p ch) := by
  unfold stageAbandon
  with_reducible repeat' first
    | assumption | exact subset_of hF (by decide) | intro _ | apply keeps_ite | apply keeps_getD | apply wr8_sameBut
    | apply onDelivery_sameBut | apply onStreams_sameBut | dsimp only

theorem copyOutcome_sameBut (hF : [Part.regs, .mem, .events, .delivery, .streams, .fw] ⊆ F) {s : State} {q d}
    (h0 : SameBut F s₀ s) :
    SameBut F s₀ (copyOutcome s q d) := by
  unfold copyOutcome
  with_reducible repeat' first
    | assumption | exact subset_of hF (by decide) | intro _ | apply keeps_ite | apply log_sameBut
    | apply stageAbandon_sameBut | dsimp only | split

theorem copyStreak_sameBut (hF : [Part.regs, .objs, .fault] ⊆ F) {s : State} {q} (h0 : SameBut F s₀ s) :
    SameBut F s₀ (copyStreak s q) := by
  unfold copyStreak
  with_reducible repeat' first
    | assumption | exact subset_of hF (by decide) | intro _ | apply keeps_ite | apply fileReport_sameBut | dsimp only
    | apply withFault_sameBut

theorem copyFail_sameBut (hF : [Part.regs, .mem, .events, .objs, .fault, .delivery, .streams, .sent, .fw] ⊆ F)
    {s : State} {q d} (h0 : SameBut F s₀ s) :
    SameBut F s₀ (copyFail s q d) := by
  unfold copyFail
  with_reducible repeat' first
    | assumption | exact subset_of hF (by decide) | intro _ | apply keeps_ite | apply raise_sameBut
    | apply put_sameBut | apply count_sameBut | apply onStreams_sameBut | apply copyStreak_sameBut
    | apply copyEnd_sameBut | apply copyOutcome_sameBut | dsimp only | split

theorem channelFail_sameBut
    (hF : [Part.regs, .mem, .events, .objs, .fault, .delivery, .streams, .sent, .fw] ⊆ F) {s : State}
    {p ch cause} (h0 : SameBut F s₀ s) :
    SameBut F s₀ (channelFail s p ch cause) := by
  unfold channelFail
  with_reducible repeat' first
    | assumption | exact subset_of hF (by decide) | intro _ | apply keeps_ite | apply put_sameBut
    | apply copyFail_sameBut | apply stageAbandon_sameBut | apply log_sameBut | dsimp only | split

theorem copyStart_sameBut (hF : [Part.regs, .mem, .events, .objs, .fault, .delivery, .streams, .sent, .fw] ⊆ F)
    {s : State} {q d t} (h0 : SameBut F s₀ s) :
    SameBut F s₀ (copyStart s q d t) := by
  unfold copyStart
  with_reducible repeat' first
    | assumption | exact subset_of hF (by decide) | intro _ | apply keeps_ite | apply count_sameBut
    | apply raise_sameBut | apply wr8_sameBut | apply strLevel_sameBut | apply onStreams_sameBut
    | apply copyFail_sameBut | apply channelFail_sameBut | dsimp only

theorem channelStart_sameBut (hF : [Part.regs, .streams] ⊆ F) {s : State} {p ch t ev} (h0 : SameBut F s₀ s) :
    SameBut F s₀ (channelStart s p ch t ev) := by
  unfold channelStart
  with_reducible repeat' first
    | assumption | exact subset_of hF (by decide) | intro _ | apply keeps_ite | apply onStreams_sameBut
    | apply put_sameBut

theorem startCopies_sameBut
    (hF : [Part.regs, .mem, .events, .objs, .fault, .delivery, .streams, .sent, .fw] ⊆ F) {s : State} {t ev}
    (h0 : SameBut F s₀ s) :
    SameBut F s₀ (startCopies s t ev) := by
  unfold startCopies
  with_reducible repeat' first
    | assumption | exact subset_of hF (by decide) | intro _ | apply keeps_foldl | apply keeps_ite
    | apply keeps_foldl_fst | apply copyStart_sameBut | apply channelStart_sameBut | dsimp only | split

theorem request_sameBut (hF : [Part.streams] ⊆ F) {s : State} {p ch data} (h0 : SameBut F s₀ s) :
    SameBut F s₀ (request s p ch data) := by
  unfold request
  with_reducible repeat' first | assumption | exact subset_of hF (by decide) | intro _ | apply onStreams_sameBut

theorem requestEnd_sameBut (hF : [Part.streams] ⊆ F) {s : State} {p ch mLo} (h0 : SameBut F s₀ s) :
    SameBut F s₀ (requestEnd s p ch mLo) := by
  unfold requestEnd
  with_reducible repeat' first | assumption | exact subset_of hF (by decide) | intro _ | apply request_sameBut

theorem stageBegin_sameBut (hF : [Part.regs, .mem, .events, .streams, .fw] ⊆ F) {s : State} {p ch m}
    (h0 : SameBut F s₀ s) :
    SameBut F s₀ (stageBegin s p ch m) := by
  unfold stageBegin
  with_reducible repeat' first
    | assumption | exact subset_of hF (by decide) | intro _ | apply keeps_ite | apply stageFree_sameBut
    | apply wr8_sameBut | apply request_sameBut | apply requestEnd_sameBut | dsimp only | split

theorem stageLaunch_sameBut (hF : [Part.regs, .mem, .events, .streams, .fw] ⊆ F) {s : State} {t}
    (h0 : SameBut F s₀ s) :
    SameBut F s₀ (stageLaunch s t) := by
  unfold stageLaunch
  with_reducible repeat' first
    | assumption | exact subset_of hF (by decide) | intro _ | apply keeps_foldl | apply keeps_ite
    | apply keeps_foldl_fst | apply stageBegin_sameBut | dsimp only

theorem unionBuild_sameBut (hF : [Part.regs, .mem, .events, .fw] ⊆ F) {s : State} {p m} (h0 : SameBut F s₀ s) :
    SameBut F s₀ (unionBuild s p m) := by
  unfold unionBuild
  with_reducible repeat' first
    | assumption | exact subset_of hF (by decide) | intro _ | apply keeps_foldl | apply keeps_ite
    | apply keeps_foldl_fst | apply keeps_foldl_snd | apply keeps_ite_snd | apply wr8_sameBut | apply put_sameBut
    | dsimp only | split

theorem requestRuns_sameBut (hF : [Part.streams] ⊆ F) {s : State} {p ch mLo a l} (h : SameBut F s₀ s) :
    SameBut F s₀ (requestRuns s p ch mLo a l) := by
  fun_induction requestRuns s p ch mLo a l with
  | case1 => exact h
  | case2 => exact h
  | case3 s k r rs _ _ ih => exact ih (request_sameBut hF h)

theorem unionReady_sameBut (hF : [Part.regs, .mem, .events, .streams, .fw] ⊆ F) {s : State} {p}
    (h0 : SameBut F s₀ s) :
    SameBut F s₀ (unionReady s p) := by
  unfold unionReady
  with_reducible repeat' first
    | assumption | exact subset_of hF (by decide) | intro _ | apply keeps_foldl | apply keeps_ite
    | apply keeps_foldl_fst | apply keeps_foldl_snd | apply keeps_ite_snd | apply wrBytes_sameBut
    | apply requestEnd_sameBut | apply requestRuns_sameBut | apply put_sameBut | dsimp only | split

theorem stageRequest_sameBut (hF : [Part.streams] ⊆ F) {s : State} {q d b} (h0 : SameBut F s₀ s) :
    SameBut F s₀ (stageRequest s q d b) := by
  unfold stageRequest
  with_reducible repeat' first
    | assumption | exact subset_of hF (by decide) | intro _ | apply keeps_ite | apply onStreams_sameBut | dsimp only
    | split

theorem fetchDone_sameBut (hF : [Part.regs, .streams] ⊆ F) {s : State} {q d burst poisoned}
    (h0 : SameBut F s₀ s) :
    SameBut F s₀ (fetchDone s q d burst poisoned) := by
  unfold fetchDone
  with_reducible repeat' first
    | assumption | exact subset_of hF (by decide) | intro _ | apply keeps_ite | apply add64_sameBut
    | apply strLevel_sameBut | apply onStreams_sameBut | apply copyPut_sameBut | dsimp only | split

theorem engineBeat_sameBut (hF : [Part.regs, .streams] ⊆ F) {s : State} {q n} (h0 : SameBut F s₀ s) :
    SameBut F s₀ (engineBeat s q n).1 := by
  unfold engineBeat
  with_reducible repeat' first
    | assumption | exact subset_of hF (by decide) | intro _ | apply keeps_ite | apply keeps_ite_fst
    | apply count_sameBut | apply strLevel_sameBut | apply onStreams_sameBut | apply copyPut_sameBut
    | apply copyEnd_sameBut | dsimp only | split

theorem readAhead_sameBut (hF : [Part.freeCount, .streams] ⊆ F) {s : State} {p ch} (h0 : SameBut F s₀ s) :
    SameBut F s₀ (readAhead s p ch) := by
  unfold readAhead
  with_reducible repeat' first
    | assumption | exact subset_of hF (by decide) | intro _ | apply keeps_ite | apply onStreams_sameBut
    | apply useFree_sameBut | dsimp only

theorem podBeat_sameBut (hF : [Part.regs, .freeCount, .delivery, .streams] ⊆ F) {s : State} {p ch}
    (h0 : SameBut F s₀ s) :
    SameBut F s₀ (podBeat s p ch).1 := by
  unfold podBeat
  with_reducible repeat' first
    | assumption | exact subset_of hF (by decide) | intro _ | apply keeps_ite | apply keeps_ite_fst
    | apply count_sameBut | apply readAhead_sameBut | apply put_sameBut | apply onStreams_sameBut
    | apply onDelivery_sameBut | dsimp only | split

theorem engineTakes_sameBut
    (hF : [Part.regs, .mem, .events, .objs, .fault, .delivery, .streams, .sent, .fw] ⊆ F) {s : State} {q n b}
    (h0 : SameBut F s₀ s) :
    SameBut F s₀ (engineTakes s q n b) := by
  unfold engineTakes
  with_reducible repeat' first
    | assumption | exact subset_of hF (by decide) | intro _ | apply keeps_ite | apply copyFail_sameBut
    | apply stageRequest_sameBut | apply log_sameBut | apply raise_sameBut | apply count_sameBut
    | apply strLevel_sameBut | apply onStreams_sameBut | apply copyPut_sameBut | split

theorem stageBeat_sameBut (hF : [Part.regs, .mem, .events, .objs, .fault, .delivery, .streams, .sent, .fw] ⊆ F)
    {s : State} {p ch b} (h0 : SameBut F s₀ s) :
    SameBut F s₀ (stageBeat s p ch b) := by
  unfold stageBeat
  with_reducible repeat' first
    | assumption | exact subset_of hF (by decide) | intro _ | apply keeps_ite | apply wr8_sameBut | apply put_sameBut
    | apply wrBytes_sameBut | apply chunkTake_sameBut | apply channelFail_sameBut | dsimp only

theorem podTakes_sameBut (hF : [Part.regs, .mem, .events, .objs, .fault, .delivery, .streams, .sent, .fw] ⊆ F)
    {s : State} {p ch b} (h0 : SameBut F s₀ s) :
    SameBut F s₀ (podTakes s p ch b) := by
  unfold podTakes
  with_reducible repeat' first
    | assumption | exact subset_of hF (by decide) | intro _ | apply keeps_ite | apply channelFail_sameBut
    | apply stageBeat_sameBut | apply put_sameBut | apply wrBytes_sameBut | dsimp only | split

theorem drainDone_sameBut (hF : [Part.regs, .mem, .events, .streams, .memories, .fw] ⊆ F) {s : State} {q}
    (h0 : SameBut F s₀ s) :
    SameBut F s₀ (drainDone s q) := by
  unfold drainDone
  with_reducible repeat' first
    | assumption | exact subset_of hF (by decide) | intro _ | apply keeps_ite | apply onStreams_sameBut
    | apply strLevel_sameBut | apply add64_sameBut | apply wrBytes_sameBut
    | refine onMemories_sameBut ?_ (fun _ => rfl) ?_ | apply copyPut_sameBut | apply put_sameBut | apply wrLe_sameBut
    | apply copyEnd_sameBut | dsimp only | split

theorem beatSuspect_sameBut (hF : [Part.regs, .objs, .fault] ⊆ F) {s : State} {r p d} (h0 : SameBut F s₀ s) :
    SameBut F s₀ (beatSuspect s r p d) := by
  unfold beatSuspect
  with_reducible repeat' first
    | assumption | exact subset_of hF (by decide) | intro _ | apply keeps_ite | apply detect_sameBut

theorem beatEcc_sameBut (hF : [Part.regs, .events, .once, .objs, .fault, .sent] ⊆ F) {s : State} {r p b a}
    (h0 : SameBut F s₀ s) :
    SameBut F s₀ (beatEcc s r p b a).1 := by
  unfold beatEcc
  with_reducible repeat' first
    | assumption | exact subset_of hF (by decide) | intro _ | apply keeps_ite_fst | apply logOnce_sameBut
    | apply raise_sameBut | apply put_sameBut | apply count_sameBut | apply beatSuspect_sameBut | apply log_sameBut
    | dsimp only | split

theorem unrouted_sameBut (hF : [Part.regs, .events, .once, .sent] ⊆ F) {s : State} {r} (h0 : SameBut F s₀ s) :
    SameBut F s₀ (unrouted s r) := by
  unfold unrouted
  with_reducible repeat' first
    | assumption | exact subset_of hF (by decide) | intro _ | apply logOnce_sameBut | apply raise_sameBut
    | apply put_sameBut | apply count_sameBut

theorem routeBeat_sameBut
    (hF : [Part.regs, .mem, .events, .once, .objs, .fault, .delivery, .streams, .sent, .fw] ⊆ F) {s : State}
    {r c e input b} (h0 : SameBut F s₀ s) :
    SameBut F s₀ (routeBeat s r c e input b) := by
  unfold routeBeat
  with_reducible repeat' first
    | assumption | exact subset_of hF (by decide) | intro _ | apply keeps_ite | apply count_sameBut
    | apply unrouted_sameBut | apply add64_sameBut | apply podTakes_sameBut | apply beatEcc_sameBut
    | apply injected_sameBut | apply onStreams_sameBut | apply engineTakes_sameBut | dsimp only | split
    | refine keeps_fst ?_ (by assumption)

theorem beatCycle_sameBut
    (hF : [Part.regs, .mem, .freeCount, .events, .once, .objs, .fault, .delivery, .streams, .sent, .fw] ⊆ F)
    {s : State} {r ecc} (h0 : SameBut F s₀ s) :
    SameBut F s₀ (beatCycle s r ecc) := by
  unfold beatCycle
  with_reducible repeat' first
    | assumption | exact subset_of hF (by decide) | intro _ | apply keeps_foldl | apply keeps_ite | apply keeps_getD
    | apply keeps_foldl_fst | apply keeps_foldl_snd | apply keeps_ite_snd | apply beatEcc_sameBut
    | apply routeBeat_sameBut | apply onStreams_sameBut | apply engineBeat_sameBut | apply podBeat_sameBut
    | apply put_sameBut | dsimp only | split | refine keeps_fst ?_ (by assumption)

theorem streamsLaunch_sameBut (hF : [Part.regs, .streams] ⊆ F) {s : State} (h0 : SameBut F s₀ s) :
    SameBut F s₀ (streamsLaunch s) := by
  unfold streamsLaunch
  with_reducible repeat' first
    | assumption | exact subset_of hF (by decide) | intro _ | apply keeps_foldl | apply keeps_ite
    | apply keeps_foldl_fst | apply put_sameBut | apply onStreams_sameBut | apply bankSwap_sameBut | dsimp only

theorem scmDown_sameBut (hF : [Part.regs, .mem, .events, .objs, .fault, .delivery, .streams, .sent, .fw] ⊆ F)
    {s : State} {r port} (h0 : SameBut F s₀ s) :
    SameBut F s₀ (scmDown s r port) := by
  unfold scmDown
  with_reducible repeat' first
    | assumption | exact subset_of hF (by decide) | intro _ | apply keeps_foldl | apply keeps_ite
    | apply keeps_foldl_fst | apply keeps_foldl_snd | apply keeps_ite_snd | apply put_sameBut
    | apply onStreams_sameBut | apply log_sameBut | apply copyFail_sameBut | apply channelFail_sameBut | dsimp only
    | split

theorem scmLinkFail_sameBut
    (hF : [Part.regs, .mem, .events, .objs, .fault, .delivery, .streams, .sent, .fw] ⊆ F) {s : State} {r port}
    (h0 : SameBut F s₀ s) :
    SameBut F s₀ (scmLinkFail s r port) := by
  unfold scmLinkFail
  with_reducible repeat' first
    | assumption | exact subset_of hF (by decide) | intro _ | apply scmDown_sameBut | dsimp only | split

theorem copiesCut_sameBut (hF : [Part.regs, .mem, .events, .objs, .fault, .delivery, .streams, .sent, .fw] ⊆ F)
    {s : State} {t} (h0 : SameBut F s₀ s) :
    SameBut F s₀ (copiesCut s t) := by
  unfold copiesCut
  with_reducible repeat' first
    | assumption | exact subset_of hF (by decide) | intro _ | apply keeps_foldl | apply keeps_foldl_fst
    | apply copyFail_sameBut

theorem obsAbandon_sameBut (hF : [Part.regs, .events, .streams] ⊆ F) {s : State} {t} (h0 : SameBut F s₀ s) :
    SameBut F s₀ (obsAbandon s t) := by
  unfold obsAbandon
  with_reducible repeat' first
    | assumption | exact subset_of hF (by decide) | intro _ | apply keeps_foldl | apply keeps_foldl_fst
    | apply copyEnd_sameBut | apply log_sameBut | apply count_sameBut

theorem execScmBeatRoute_sameBut
    (hF : [Part.regs, .mem, .freeCount, .events, .once, .objs, .fault, .delivery, .streams, .sent, .fw] ⊆ F)
    {router ecc} {s : State} (h2 : SameBut F s₀ s) :
    ResultSameBut F s₀ (execScmBeatRoute router ecc s) := by
  unfold execScmBeatRoute
  with_reducible repeat' first
    | assumption | exact subset_of hF (by decide) | apply done_sameBut | intro _ | apply beatCycle_sameBut

theorem execScmCheck_sameBut (hF : [Part.regs] ⊆ F) {s : State} (h0 : SameBut F s₀ s) :
    ResultSameBut F s₀ (execScmCheck s) := by
  unfold execScmCheck
  with_reducible repeat' first
    | assumption | exact subset_of hF (by decide) | apply done_sameBut | intro _ | apply checkStart_sameBut

theorem execScmCheckDone_sameBut (hF : [Part.regs, .events] ⊆ F) {s : State} (h0 : SameBut F s₀ s) :
    ResultSameBut F s₀ (execScmCheckDone s) := by
  unfold execScmCheckDone
  with_reducible repeat' first
    | assumption | exact subset_of hF (by decide) | apply done_sameBut | intro _ | apply checkEnd_sameBut

theorem execScmSwap_sameBut (hF : [Part.regs, .streams] ⊆ F) {s : State} (h0 : SameBut F s₀ s) :
    ResultSameBut F s₀ (execScmSwap s) := by
  unfold execScmSwap
  with_reducible repeat' first
    | assumption | exact subset_of hF (by decide) | apply done_sameBut | intro _ | apply swapRequest_sameBut

theorem execScmLinkFail_sameBut
    (hF : [Part.regs, .mem, .events, .objs, .fault, .delivery, .streams, .sent, .fw] ⊆ F) {router port}
    {s : State} (h2 : SameBut F s₀ s) :
    ResultSameBut F s₀ (execScmLinkFail router port s) := by
  unfold execScmLinkFail
  with_reducible repeat' first
    | assumption | exact subset_of hF (by decide) | apply done_sameBut | intro _ | apply scmLinkFail_sameBut

theorem execWriteDrainComplete_sameBut (hF : [Part.regs, .mem, .events, .streams, .memories, .fw] ⊆ F) {engine}
    {s : State} (h1 : SameBut F s₀ s) :
    ResultSameBut F s₀ (execWriteDrainComplete engine s) := by
  unfold execWriteDrainComplete
  with_reducible repeat' first
    | assumption | exact subset_of hF (by decide) | apply done_sameBut | intro _ | apply drainDone_sameBut

theorem execUnionRunsReady_sameBut (hF : [Part.regs, .mem, .events, .streams, .fw] ⊆ F) {pod} {s : State}
    (h1 : SameBut F s₀ s) :
    ResultSameBut F s₀ (execUnionRunsReady pod s) := by
  unfold execUnionRunsReady
  with_reducible repeat' first
    | assumption | exact subset_of hF (by decide) | apply done_sameBut | intro _ | apply unionReady_sameBut

end Sys2Proof.Machine.State
end

section
set_option Elab.async false
/-! PROOFS. The footprints of the operations of `Sys2Proof/Machine/Memory.lean`. -/

namespace Sys2Proof.Machine.State

set_option linter.unusedTactic false
set_option linter.unreachableTactic false

variable {F : List Part} {s₀ : State}

theorem scrubFound_sameBut (hF : [Part.regs, .events, .once, .objs, .fault] ⊆ F) {s : State}
    {site bank row fatal} (h0 : SameBut F s₀ s) :
    SameBut F s₀ (scrubFound s site bank row fatal) := by
  unfold scrubFound
  with_reducible repeat' first
    | assumption | exact subset_of hF (by decide) | intro _ | apply tileError_sameBut | apply podError_sameBut
    | apply managerError_sameBut | split

theorem scrubRow_sameBut (hF : [Part.regs, .events, .once, .objs, .fault, .memories] ⊆ F) {s : State}
    {site bank ecc} (h0 : SameBut F s₀ s) :
    SameBut F s₀ (scrubRow s site bank ecc) := by
  unfold scrubRow
  with_reducible repeat' first
    | assumption | exact subset_of hF (by decide) | intro _ | apply keeps_ite | apply scrubFound_sameBut
    | refine onMemories_sameBut ?_ (fun _ => rfl) ?_ | apply count_sameBut | dsimp only | split

theorem subRetire_sameBut (hF : [Part.regs, .mem, .events, .objs, .fault, .delivery, .streams, .sent, .fw] ⊆ F)
    {s : State} {q} (h0 : SameBut F s₀ s) :
    SameBut F s₀ (subRetire s q) := by
  unfold subRetire
  with_reducible repeat' first
    | assumption | exact subset_of hF (by decide) | intro _ | apply keeps_foldl | apply keeps_ite
    | apply keeps_foldl_fst | apply put_sameBut | apply copyFail_sameBut | apply log_sameBut | dsimp only

theorem subReport_sameBut (hF : [Part.regs, .objs, .fault] ⊆ F) {s : State} {q} (h0 : SameBut F s₀ s) :
    SameBut F s₀ (subReport s q) := by
  unfold subReport
  with_reducible repeat' first | assumption | exact subset_of hF (by decide) | intro _ | apply fileReport_sameBut

theorem pageRetire_sameBut
    (hF : [Part.regs, .mem, .events, .objs, .fault, .delivery, .streams, .memories, .sent, .fw] ⊆ F) {s : State}
    {q page} (h0 : SameBut F s₀ s) :
    SameBut F s₀ (pageRetire s q page) := by
  unfold pageRetire
  with_reducible repeat' first
    | assumption | exact subset_of hF (by decide) | intro _ | apply keeps_ite | apply put_sameBut
    | refine onMemories_sameBut ?_ (fun _ => rfl) ?_ | apply subRetire_sameBut | apply subReport_sameBut
    | apply log_sameBut | dsimp only

theorem dramLast_sameBut (hF : [Part.regs] ⊆ F) {s : State} {q off} (h0 : SameBut F s₀ s) :
    SameBut F s₀ (dramLast s q off) := by
  unfold dramLast
  with_reducible repeat' first | assumption | exact subset_of hF (by decide) | intro _ | apply put64_sameBut

theorem burstFixed_sameBut (hF : [Part.regs, .events, .once] ⊆ F) {s : State} {q off dev} (h0 : SameBut F s₀ s)
    :
    SameBut F s₀ (burstFixed s q off dev) := by
  unfold burstFixed
  with_reducible repeat' first
    | assumption | exact subset_of hF (by decide) | intro _ | apply logOnceBy_sameBut | apply dramLast_sameBut
    | apply count_sameBut | apply put_sameBut | dsimp only | split

theorem burstRetry_sameBut
    (hF : [Part.regs, .mem, .events, .objs, .fault, .delivery, .streams, .memories, .sent, .fw] ⊆ F) {s : State}
    {q off again} (h0 : SameBut F s₀ s) :
    SameBut F s₀ (burstRetry s q off again).1 := by
  unfold burstRetry
  with_reducible repeat' first
    | assumption | exact subset_of hF (by decide) | intro _ | apply keeps_ite_fst | apply dramLast_sameBut
    | apply log_sameBut | apply count_sameBut | apply pageRetire_sameBut | apply subReport_sameBut | dsimp only
    | split

theorem burstRead_sameBut
    (hF : [Part.regs, .mem, .events, .once, .objs, .fault, .delivery, .streams, .memories, .sent, .fw] ⊆ F)
    {s : State} {a first again} (h0 : SameBut F s₀ s) :
    SameBut F s₀ (burstRead s a first again).1 := by
  unfold burstRead
  with_reducible repeat' first
    | assumption | exact subset_of hF (by decide) | intro _ | apply keeps_ite | apply keeps_ite_fst
    | apply burstRetry_sameBut | apply burstFixed_sameBut | split | refine keeps_fst ?_ (by assumption)

theorem pageCopied_sameBut (hF : [Part.regs, .events, .memories] ⊆ F) {s : State} {q bad} (h0 : SameBut F s₀ s)
    :
    SameBut F s₀ (pageCopied s q bad) := by
  unfold pageCopied
  with_reducible repeat' first
    | assumption | exact subset_of hF (by decide) | intro _ | apply log_sameBut
    | refine onMemories_sameBut ?_ (fun _ => rfl) ?_ | dsimp only | split

theorem mapReform_sameBut (hF : [Part.regs, .mem, .freeCount, .events, .memories, .lost] ⊆ F)
    {s : State} (h : SameBut F s₀ s) : SameBut F s₀ (mapReform s) := by
  unfold mapReform
  with_reducible repeat' first
    | assumption | exact subset_of hF (by decide) | intro _ | apply put_sameBut | apply log_sameBut
    | apply useFree_sameBut | split | dsimp only | apply withMemMemories_sameBut

theorem patrolRead_sameBut
    (hF : [Part.regs, .mem, .events, .once, .objs, .fault, .delivery, .streams, .memories, .sent, .fw] ⊆ F)
    {s : State} {q first again} (h0 : SameBut F s₀ s) :
    SameBut F s₀ (patrolRead s q first again) := by
  unfold patrolRead
  with_reducible repeat' first
    | assumption | exact subset_of hF (by decide) | intro _ | apply keeps_ite | apply burstRead_sameBut
    | refine onMemories_sameBut ?_ (fun _ => rfl) ?_ | apply count_sameBut | dsimp only | split
    | refine keeps_fst ?_ (by assumption)

theorem fullStart_sameBut (hF : [Part.objs, .memories, .progress] ⊆ F) {s : State} {quad} (h0 : SameBut F s₀ s)
    :
    SameBut F s₀ (fullStart s quad) := by
  unfold fullStart
  with_reducible repeat' first
    | assumption | exact subset_of hF (by decide) | intro _ | apply keeps_ite | apply refusal_sameBut
    | refine onMemories_sameBut ?_ (fun _ => rfl) ?_ | apply progStart_sameBut | dsimp only | split

theorem fullRead_sameBut
    (hF : [Part.regs, .mem, .events, .once, .objs, .fault, .delivery, .streams, .memories, .progress, .sent, .fw] ⊆ F)
    {s : State} {q first again} (h0 : SameBut F s₀ s) :
    SameBut F s₀ (fullRead s q first again) := by
  unfold fullRead
  with_reducible repeat' first
    | assumption | exact subset_of hF (by decide) | intro _ | apply keeps_ite | apply burstRead_sameBut
    | apply progAdd_sameBut | refine onMemories_sameBut ?_ (fun _ => rfl) ?_ | apply progEnd_sameBut | dsimp only
    | refine keeps_fst ?_ (by assumption)

theorem fillGranule_sameBut (hF : [Part.regs, .events, .memories] ⊆ F) {s : State} (h0 : SameBut F s₀ s) :
    SameBut F s₀ (fillGranule s) := by
  unfold fillGranule
  with_reducible repeat' first
    | assumption | exact subset_of hF (by decide) | intro _ | apply keeps_foldl | apply keeps_ite
    | apply keeps_foldl_fst | refine onMemories_sameBut ?_ (fun _ => rfl) ?_ | apply log_sameBut | apply put_sameBut
    | dsimp only

theorem execScrubRow_sameBut (hF : [Part.regs, .events, .once, .objs, .fault, .memories] ⊆ F) {site bank ecc}
    {s : State} (h3 : SameBut F s₀ s) :
    ResultSameBut F s₀ (execScrubRow site bank ecc s) := by
  unfold execScrubRow
  with_reducible repeat' first
    | assumption | exact subset_of hF (by decide) | apply done_sameBut | intro _ | apply scrubRow_sameBut

theorem execDramReadRetry_sameBut
    (hF : [Part.regs, .mem, .events, .once, .objs, .fault, .delivery, .streams, .memories, .sent, .fw] ⊆ F)
    {burst again} {s : State} (h2 : SameBut F s₀ s) :
    ResultSameBut F s₀ (execDramReadRetry burst again s) := by
  unfold execDramReadRetry
  with_reducible repeat' first
    | assumption | exact subset_of hF (by decide) | apply done_sameBut | intro _ | apply burstRead_sameBut
    | refine keeps_fst ?_ (by assumption)

theorem execDramFetchComplete_sameBut
    (hF : [Part.regs, .mem, .events, .once, .objs, .fault, .delivery, .streams, .memories, .sent, .fw] ⊆ F)
    {engine desc burst first again} {s : State} (h5 : SameBut F s₀ s) :
    ResultSameBut F s₀ (execDramFetchComplete engine desc burst first again s) := by
  unfold execDramFetchComplete
  with_reducible repeat' first
    | assumption | exact subset_of hF (by decide) | apply done_sameBut | intro _ | apply burstRead_sameBut
    | apply fetchDone_sameBut | dsimp only | refine keeps_fst ?_ (by assumption)

theorem execPageCopyDone_sameBut (hF : [Part.regs, .events, .memories] ⊆ F) {sub bad} {s : State}
    (h2 : SameBut F s₀ s) :
    ResultSameBut F s₀ (execPageCopyDone sub bad s) := by
  unfold execPageCopyDone
  with_reducible repeat' first
    | assumption | exact subset_of hF (by decide) | apply done_sameBut | intro _ | apply pageCopied_sameBut

theorem execSubchannelRetire_sameBut
    (hF : [Part.regs, .mem, .events, .objs, .fault, .delivery, .streams, .sent, .fw] ⊆ F) {sub} {s : State}
    (h1 : SameBut F s₀ s) :
    ResultSameBut F s₀ (execSubchannelRetire sub s) := by
  unfold execSubchannelRetire
  with_reducible repeat' first
    | assumption | exact subset_of hF (by decide) | apply done_sameBut | intro _ | apply subRetire_sameBut

theorem execMapReform_sameBut (hF : [Part.regs, .mem, .freeCount, .events, .memories, .lost] ⊆ F) {s : State}
    (h0 : SameBut F s₀ s) :
    ResultSameBut F s₀ (execMapReform s) := by
  unfold execMapReform
  with_reducible repeat' first
    | assumption | exact subset_of hF (by decide) | apply done_sameBut | intro _ | apply mapReform_sameBut

theorem execPatrolRead_sameBut
    (hF : [Part.regs, .mem, .events, .once, .objs, .fault, .delivery, .streams, .memories, .sent, .fw] ⊆ F)
    {sub first again} {s : State} (h3 : SameBut F s₀ s) :
    ResultSameBut F s₀ (execPatrolRead sub first again s) := by
  unfold execPatrolRead
  with_reducible repeat' first
    | assumption | exact subset_of hF (by decide) | apply done_sameBut | intro _ | apply patrolRead_sameBut

theorem execFullScrubStart_sameBut (hF : [Part.objs, .memories, .progress] ⊆ F) {quad} {s : State}
    (h1 : SameBut F s₀ s) :
    ResultSameBut F s₀ (execFullScrubStart quad s) := by
  unfold execFullScrubStart
  with_reducible repeat' first
    | assumption | exact subset_of hF (by decide) | apply done_sameBut | intro _ | apply fullStart_sameBut

theorem execFullScrubAbort_sameBut (hF : [Part.progress] ⊆ F) {s : State} (h0 : SameBut F s₀ s) :
    ResultSameBut F s₀ (execFullScrubAbort s) := by
  unfold execFullScrubAbort
  with_reducible repeat' first
    | assumption | exact subset_of hF (by decide) | apply done_sameBut | intro _ | apply keeps_ite
    | apply progEnd_sameBut

theorem execFullScrubRead_sameBut
    (hF : [Part.regs, .mem, .events, .once, .objs, .fault, .delivery, .streams, .memories, .progress, .sent, .fw] ⊆ F)
    {sub first again} {s : State} (h3 : SameBut F s₀ s) :
    ResultSameBut F s₀ (execFullScrubRead sub first again s) := by
  unfold execFullScrubRead
  with_reducible repeat' first
    | assumption | exact subset_of hF (by decide) | apply done_sameBut | intro _ | apply fullRead_sameBut

theorem execFillGranule_sameBut (hF : [Part.regs, .events, .memories] ⊆ F) {s : State} (h0 : SameBut F s₀ s) :
    ResultSameBut F s₀ (execFillGranule s) := by
  unfold execFillGranule
  with_reducible repeat' first
    | assumption | exact subset_of hF (by decide) | apply done_sameBut | intro _ | apply fillGranule_sameBut

end Sys2Proof.Machine.State
end

section
set_option Elab.async false
/-! PROOFS. The footprints of the operations of `Sys2Proof/Machine/Sensor.lean`. -/

namespace Sys2Proof.Machine.State

set_option linter.unusedTactic false
set_option linter.unreachableTactic false

variable {F : List Part} {s₀ : State}

theorem onHub_sameBut (hF : [Part.hub] ⊆ F) {s : State} {f} (h0 : SameBut F s₀ s) : SameBut F s₀ (onHub s f) := by
  unfold onHub
  with_reducible repeat' first | assumption | exact subset_of hF (by decide) | intro _ | apply withHub_sameBut

theorem hubRecord_sameBut (hF : [Part.regs, .mem, .events, .once, .hub, .fw] ⊆ F) {s : State} {n step a g}
    (h0 : SameBut F s₀ s) :
    SameBut F s₀ (hubRecord s n step a g) := by
  unfold hubRecord
  with_reducible repeat' first
    | assumption | exact subset_of hF (by decide) | intro _ | apply keeps_ite | apply logOnceBy_sameBut
    | apply count_sameBut | apply onHub_sameBut | apply wrLe_sameBut | dsimp only

theorem ringDiscard_sameBut (hF : [Part.regs, .hub] ⊆ F) {s : State} {n} (h0 : SameBut F s₀ s) :
    SameBut F s₀ (ringDiscard s n) := by
  unfold ringDiscard
  with_reducible repeat' first
    | assumption | exact subset_of hF (by decide) | intro _ | apply onHub_sameBut | apply count_sameBut

theorem contrast_sameBut (hF : [Part.regs, .mem, .events, .once, .hub, .fw] ⊆ F) {s : State} {n step e v}
    (h0 : SameBut F s₀ s) :
    SameBut F s₀ (contrast s n step e v) := by
  unfold contrast
  with_reducible repeat' first
    | assumption | exact subset_of hF (by decide) | intro _ | apply keeps_ite | apply hubRecord_sameBut
    | apply wrLe_sameBut | dsimp only

theorem crossing_sameBut (hF : [Part.regs, .mem, .events, .once, .hub, .fw] ⊆ F) {s : State} {n step lane value}
    (h0 : SameBut F s₀ s) :
    SameBut F s₀ (crossing s n step lane value) := by
  unfold crossing
  with_reducible repeat' first
    | assumption | exact subset_of hF (by decide) | intro _ | apply keeps_ite | apply onHub_sameBut
    | apply wrLe_sameBut | apply hubRecord_sameBut | dsimp only

theorem latest_sameBut (hF : [Part.regs, .mem, .events, .fw] ⊆ F) {s : State} {n c e v} (h0 : SameBut F s₀ s) :
    SameBut F s₀ (latest s n c e v) := by
  unfold latest
  with_reducible repeat' first
    | assumption | exact subset_of hF (by decide) | intro _ | apply keeps_ite | apply wrLe_sameBut

theorem encode_sameBut (hF : [Part.regs, .mem, .events, .once, .hub, .fw] ⊆ F) {s : State} {n step item}
    (h0 : SameBut F s₀ s) :
    SameBut F s₀ (encode s n step item) := by
  unfold encode
  with_reducible repeat' first
    | assumption | exact subset_of hF (by decide) | intro _ | apply keeps_foldl | apply keeps_ite
    | apply keeps_foldl_fst | apply hubRecord_sameBut | apply crossing_sameBut | apply latest_sameBut
    | apply onHub_sameBut | apply wrLe_sameBut | apply contrast_sameBut | dsimp only | split

theorem emitLatest_sameBut (hF : [Part.regs, .mem, .events, .once, .hub, .fw] ⊆ F) {s : State} {n step}
    (h0 : SameBut F s₀ s) :
    SameBut F s₀ (emitLatest s n step) := by
  unfold emitLatest
  with_reducible repeat' first
    | assumption | exact subset_of hF (by decide) | intro _ | apply keeps_foldl | apply keeps_ite
    | apply keeps_foldl_fst | apply hubRecord_sameBut | apply wrLe_sameBut | dsimp only

theorem placeItem_sameBut (hF : [Part.regs, .mem, .events, .once, .hub, .fw] ⊆ F) {s : State} {n tau item}
    (h0 : SameBut F s₀ s) :
    SameBut F s₀ (placeItem s n tau item) := by
  unfold placeItem
  with_reducible repeat' first
    | assumption | exact subset_of hF (by decide) | intro _ | apply keeps_ite | apply count_sameBut
    | apply onHub_sameBut | apply encode_sameBut | dsimp only

theorem takeItem_sameBut (hF : [Part.regs, .mem, .events, .once, .hub, .fw] ⊆ F) {s : State} {n tau item}
    (h0 : SameBut F s₀ s) :
    SameBut F s₀ (takeItem s n tau item) := by
  unfold takeItem
  with_reducible repeat' first
    | assumption | exact subset_of hF (by decide) | intro _ | apply keeps_ite | apply count_sameBut
    | apply placeItem_sameBut | split

theorem placeHeld_sameBut (hF : [Part.regs, .mem, .events, .once, .hub, .fw] ⊆ F) {s : State}
    (h0 : SameBut F s₀ s) :
    SameBut F s₀ (placeHeld s) := by
  unfold placeHeld
  with_reducible repeat' first
    | assumption | exact subset_of hF (by decide) | intro _ | apply keeps_foldl | apply keeps_foldl_fst
    | apply keeps_foldl_snd | apply keeps_ite_snd | apply takeItem_sameBut | apply onHub_sameBut

theorem hubItem_sameBut (hF : [Part.regs, .mem, .events, .once, .hub, .fw] ⊆ F) {s : State} {code tau item}
    (h0 : SameBut F s₀ s) :
    SameBut F s₀ (hubItem s code tau item) := by
  unfold hubItem
  with_reducible repeat' first
    | assumption | exact subset_of hF (by decide) | intro _ | apply keeps_ite | apply count_sameBut
    | apply takeItem_sameBut | split

theorem hubWords_sameBut (hF : [Part.regs, .mem, .events, .once, .hub, .fw] ⊆ F)
    {s : State} {codeOf bad tau l} (h : SameBut F s₀ s)
    (hb : ∀ (a : State), SameBut F s₀ a → SameBut F s₀ (bad a)) :
    SameBut F s₀ (hubWords s codeOf bad tau l).1 := by
  induction l generalizing s tau with
  | nil => exact h
  | cons w ws ih =>
    unfold hubWords
    dsimp only
    split
    · exact ih (hubItem_sameBut hF h)
    · exact ih (hubItem_sameBut hF h)
    · exact ih h
    · exact ih (hb _ h)

theorem ctxEnable_sameBut (hF : [Part.regs, .hub] ⊆ F) {s : State} {n v} (h0 : SameBut F s₀ s) :
    SameBut F s₀ (ctxEnable s n v) := by
  unfold ctxEnable
  with_reducible repeat' first
    | assumption | exact subset_of hF (by decide) | intro _ | apply keeps_ite | apply writeOnly_sameBut
    | apply onHub_sameBut | apply put_sameBut | dsimp only | split

theorem ctxDisable_sameBut (hF : [Part.regs, .hub] ⊆ F) {s : State} {n v} (h0 : SameBut F s₀ s) :
    SameBut F s₀ (ctxDisable s n v) := by
  unfold ctxDisable
  with_reducible repeat' first
    | assumption | exact subset_of hF (by decide) | intro _ | apply ringDiscard_sameBut | apply writePlain_sameBut

theorem hubWrite_sameBut (hF : [Part.regs, .hub] ⊆ F) {s : State} {v} (h0 : SameBut F s₀ s) :
    SameBut F s₀ (hubWrite s v) := by
  unfold hubWrite
  with_reducible repeat' first
    | assumption | exact subset_of hF (by decide) | intro _ | apply keeps_foldl | apply keeps_ite
    | apply keeps_foldl_fst | apply writePlain_sameBut | apply ringDiscard_sameBut | dsimp only

theorem hubSend_sameBut (hF : [Part.regs, .mesh] ⊆ F) {s : State} {n t records} (h0 : SameBut F s₀ s) :
    SameBut F s₀ (hubSend s n t records) := by
  unfold hubSend
  with_reducible repeat' first
    | assumption | exact subset_of hF (by decide) | intro _ | apply onMesh_sameBut | apply count_sameBut | dsimp only

theorem capture_sameBut (hF : [Part.regs, .mem, .events, .fw] ⊆ F) {s : State} {t n r} (h0 : SameBut F s₀ s) :
    SameBut F s₀ (capture s t n r) := by
  unfold capture
  with_reducible repeat' first
    | assumption | exact subset_of hF (by decide) | intro _ | apply keeps_ite | apply wrLe_sameBut | apply put_sameBut
    | apply log_sameBut | dsimp only | split

theorem hubContext_sameBut (hF : [Part.regs, .mem, .events, .mesh, .once, .hub, .fw] ⊆ F) {s : State} {n t}
    (h0 : SameBut F s₀ s) :
    SameBut F s₀ (hubContext s n t) := by
  unfold hubContext
  with_reducible repeat' first
    | assumption | exact subset_of hF (by decide) | intro _ | apply keeps_foldl | apply keeps_ite
    | apply keeps_foldl_fst | apply emitLatest_sameBut | apply onHub_sameBut | apply logOnceBy_sameBut
    | apply count_sameBut | apply hubSend_sameBut | apply capture_sameBut | dsimp only

theorem replayTake_sameBut (hF : [Part.regs, .mesh] ⊆ F) {s : State} {base t fuel k : Nat} (h : SameBut F s₀ s) :
    SameBut F s₀ (replayTake s base t fuel k).1 := by
  induction fuel generalizing s k with
  | zero => exact h
  | succ n ih =>
    unfold replayTake
    with_reducible repeat' first
      | assumption | exact subset_of hF (by decide) | intro _ | apply ih | apply keeps_ite | apply hubSend_sameBut
      | apply count_sameBut | split | dsimp only

theorem replayLaunch_sameBut (hF : [Part.regs, .mesh, .hub] ⊆ F) {s : State} {t} (h0 : SameBut F s₀ s) :
    SameBut F s₀ (replayLaunch s t) := by
  unfold replayLaunch
  with_reducible repeat' first
    | assumption | exact subset_of hF (by decide) | intro _ | apply keeps_ite | apply keeps_getD
    | apply replayTake_sameBut | apply onHub_sameBut | dsimp only | split | refine keeps_fst ?_ (by assumption)

theorem hubLaunch_sameBut (hF : [Part.regs, .mem, .events, .mesh, .once, .hub, .fw] ⊆ F) {s : State} {t}
    (h0 : SameBut F s₀ s) :
    SameBut F s₀ (hubLaunch s t) := by
  unfold hubLaunch
  with_reducible repeat' first
    | assumption | exact subset_of hF (by decide) | intro _ | apply keeps_foldl | apply keeps_ite
    | apply keeps_foldl_fst | apply replayLaunch_sameBut | apply hubContext_sameBut

theorem hubClose_sameBut (hF : [Part.objs, .hub] ⊆ F) {s : State} (h0 : SameBut F s₀ s) :
    SameBut F s₀ (hubClose s) := by
  unfold hubClose
  with_reducible repeat' first
    | assumption | exact subset_of hF (by decide) | intro _ | apply keeps_foldl | apply keeps_foldl_fst
    | apply setObj_sameBut | apply onHub_sameBut | dsimp only | split

theorem csiDeliver_sameBut (hF : [Part.regs, .mem, .events, .once, .hub, .fw] ⊆ F) {s : State} {r vc f}
    (h0 : SameBut F s₀ s) :
    SameBut F s₀ (csiDeliver s r vc f) := by
  unfold csiDeliver
  with_reducible repeat' first
    | assumption | exact subset_of hF (by decide) | intro _ | apply keeps_ite | apply onHub_sameBut
    | apply count_sameBut | apply hubItem_sameBut | dsimp only

theorem lineDrop_sameBut (hF : [Part.regs, .events, .once] ⊆ F) {s : State} {r} (h0 : SameBut F s₀ s) :
    SameBut F s₀ (lineDrop s r) := by
  unfold lineDrop
  with_reducible repeat' first
    | assumption | exact subset_of hF (by decide) | intro _ | apply logOnceBy_sameBut | apply count_sameBut

theorem csiHeader_sameBut (hF : [Part.regs] ⊆ F) {s : State} {r a} (h0 : SameBut F s₀ s) :
    ∀ t, csiHeader s r a = some t → SameBut F s₀ t := by
  unfold csiHeader
  with_reducible repeat' first
    | assumption | exact subset_of hF (by decide) | exact keeps_none | refine keeps_some ?_
    | intro (_ : State) (_ : SameBut F s₀ _) _ | apply count_sameBut | split | intro (_ : State) (_ : SameBut F s₀ _)

theorem csiStart_sameBut (hF : [Part.regs, .mem, .events, .once, .hub, .fw] ⊆ F) {s : State} {r vc ecc}
    (h0 : SameBut F s₀ s) :
    SameBut F s₀ (csiStart s r vc ecc) := by
  unfold csiStart
  with_reducible repeat' first
    | assumption | exact subset_of hF (by decide) | intro _ | apply keeps_ite | apply lineDrop_sameBut
    | apply csiDeliver_sameBut | apply put_sameBut | apply onHub_sameBut | dsimp only | split
    | refine csiHeader_sameBut (subset_of hF (by decide)) ?_ _ (by assumption)

theorem csiLine_sameBut (hF : [Part.regs, .mem, .events, .once, .hub, .fw] ⊆ F) {s : State}
    {r vc dt ecc crcOk payload} (h0 : SameBut F s₀ s) :
    SameBut F s₀ (csiLine s r vc dt ecc crcOk payload) := by
  unfold csiLine
  with_reducible repeat' first
    | assumption | exact subset_of hF (by decide) | intro _ | apply keeps_ite | apply lineDrop_sameBut
    | apply count_sameBut | apply onHub_sameBut | apply hubWords_sameBut | dsimp only | apply keeps_id | split
    | refine csiHeader_sameBut (subset_of hF (by decide)) ?_ _ (by assumption) | refine keeps_fst ?_ (by assumption)

theorem csiEnd_sameBut (hF : [Part.regs, .mem, .events, .once, .hub, .fw] ⊆ F) {s : State} {r vc ecc}
    (h0 : SameBut F s₀ s) :
    SameBut F s₀ (csiEnd s r vc ecc) := by
  unfold csiEnd
  with_reducible repeat' first
    | assumption | exact subset_of hF (by decide) | intro _ | apply keeps_ite | apply lineDrop_sameBut
    | apply csiDeliver_sameBut | split | refine csiHeader_sameBut (subset_of hF (by decide)) ?_ _ (by assumption)

theorem stampView_sameBut (hF : [Part.regs] ⊆ F) {s : State} {p tx} (h0 : SameBut F s₀ s) :
    SameBut F s₀ (stampView s p tx) := by
  unfold stampView
  with_reducible repeat' first
    | assumption | exact subset_of hF (by decide) | intro _ | apply keeps_ite | apply put_sameBut
    | apply setReg_sameBut | apply put64_sameBut | dsimp only | split

theorem stampPush_sameBut (hF : [Part.regs, .events, .hub] ⊆ F) {s : State} {p tx x3} (h0 : SameBut F s₀ s) :
    SameBut F s₀ (stampPush s p tx x3) := by
  unfold stampPush
  with_reducible repeat' first
    | assumption | exact subset_of hF (by decide) | intro _ | apply keeps_ite | apply log_sameBut
    | apply count_sameBut | apply stampView_sameBut | apply onHub_sameBut | dsimp only

theorem ethDrop_sameBut (hF : [Part.regs, .events, .once] ⊆ F) {s : State} {p} (h0 : SameBut F s₀ s) :
    SameBut F s₀ (ethDrop s p) := by
  unfold ethDrop
  with_reducible repeat' first
    | assumption | exact subset_of hF (by decide) | intro _ | apply logOnceBy_sameBut | apply count_sameBut

theorem flowData_sameBut (hF : [Part.regs, .mem, .events, .once, .hub, .fw] ⊆ F) {s : State} {p f d}
    (h0 : SameBut F s₀ s) :
    SameBut F s₀ (flowData s p f d) := by
  unfold flowData
  with_reducible repeat' first
    | assumption | exact subset_of hF (by decide) | intro _ | apply keeps_ite | apply ethDrop_sameBut
    | apply count_sameBut | apply onHub_sameBut | apply hubWords_sameBut | dsimp only | apply keeps_id | split
    | refine keeps_fst ?_ (by assumption)

theorem toFirmware_sameBut (hF : [Part.regs, .mem, .events, .once, .fw] ⊆ F) {s : State} {p frame}
    (h0 : SameBut F s₀ s) :
    SameBut F s₀ (toFirmware s p frame) := by
  unfold toFirmware
  with_reducible repeat' first
    | assumption | exact subset_of hF (by decide) | intro _ | apply keeps_ite | apply ethDrop_sameBut
    | apply put_sameBut | apply wrBytes_sameBut | apply wrLe_sameBut | dsimp only

theorem ethReceive_sameBut (hF : [Part.regs, .mem, .events, .once, .hub, .fw] ⊆ F) {s : State} {p frame fcsOk}
    (h0 : SameBut F s₀ s) :
    SameBut F s₀ (ethReceive s p frame fcsOk) := by
  unfold ethReceive
  with_reducible repeat' first
    | assumption | exact subset_of hF (by decide) | intro _ | apply keeps_ite | apply count_sameBut
    | apply ethDrop_sameBut | apply stampPush_sameBut | apply flowData_sameBut | apply toFirmware_sameBut | dsimp only
    | split

theorem ethTransmit_sameBut (hF : [Part.regs, .events, .hub, .sent] ⊆ F) {s : State} {p tsReq}
    (h0 : SameBut F s₀ s) :
    SameBut F s₀ (ethTransmit s p tsReq) := by
  unfold ethTransmit
  with_reducible repeat' first
    | assumption | exact subset_of hF (by decide) | intro _ | apply keeps_ite | apply keeps_getD | apply put_sameBut
    | apply emitOut_sameBut | apply stampPush_sameBut | dsimp only | split

theorem ethLink_sameBut (hF : [Part.regs] ⊆ F) {s : State} {p up} (h0 : SameBut F s₀ s) :
    SameBut F s₀ (ethLink s p up) := by
  unfold ethLink
  with_reducible repeat' first
    | assumption | exact subset_of hF (by decide) | intro _ | apply keeps_ite | apply put_sameBut
    | apply count_sameBut | dsimp only

theorem ptpRead_sameBut (hF : [Part.regs, .hub, .answer] ⊆ F) {s : State} {p tx} (h0 : SameBut F s₀ s) :
    SameBut F s₀ (ptpRead s p tx) := by
  unfold ptpRead
  with_reducible repeat' first
    | assumption | exact subset_of hF (by decide) | intro _ | apply keeps_ite | apply stampView_sameBut
    | apply onHub_sameBut | dsimp only | apply withAnswer_sameBut

theorem setSel_sameBut (hF : [Part.hub] ⊆ F) {s : State} {k x2} (h0 : SameBut F s₀ s) :
    SameBut F s₀ (setSel s k x2) := by
  unfold setSel
  with_reducible repeat' first | assumption | exact subset_of hF (by decide) | intro _ | apply onHub_sameBut

theorem selSend_sameBut (hF : [Part.sent] ⊆ F) {s : State} {x1} (h0 : SameBut F s₀ s) :
    SameBut F s₀ (selSend s x1) := by
  unfold selSend
  with_reducible repeat' first | assumption | exact subset_of hF (by decide) | intro _ | apply emitOut_sameBut

theorem selFrames_sameBut (hF : [Part.sent] ⊆ F) {s : State} {k l} (h0 : SameBut F s₀ s) :
    SameBut F s₀ (selFrames s k l) := by
  unfold selFrames
  with_reducible repeat' first
    | assumption | exact subset_of hF (by decide) | intro _ | apply keeps_foldl | apply keeps_foldl_fst
    | apply selSend_sameBut

theorem selAlign_sameBut (hF : [Part.regs, .hub] ⊆ F) {s : State} {k} (h0 : SameBut F s₀ s) :
    SameBut F s₀ (selAlign s k) := by
  unfold selAlign
  with_reducible repeat' first
    | assumption | exact subset_of hF (by decide) | intro _ | apply setSel_sameBut | apply put_sameBut

theorem selRetrain_sameBut (hF : [Part.regs, .events, .hub] ⊆ F) {s : State} {k} (h0 : SameBut F s₀ s) :
    SameBut F s₀ (selRetrain s k) := by
  unfold selRetrain
  with_reducible repeat' first
    | assumption | exact subset_of hF (by decide) | intro _ | apply selAlign_sameBut | apply log_sameBut
    | apply count_sameBut

theorem selFail_sameBut (hF : [Part.regs, .events, .objs, .fault, .hub] ⊆ F) {s : State} {k}
    (h0 : SameBut F s₀ s) :
    SameBut F s₀ (selFail s k) := by
  unfold selFail
  with_reducible repeat' first
    | assumption | exact subset_of hF (by decide) | intro _ | apply keeps_ite | apply selAlign_sameBut
    | apply setSel_sameBut | apply put_sameBut | apply fileReport_sameBut | apply log_sameBut | dsimp only

theorem selNakOut_sameBut (hF : [Part.regs, .sent] ⊆ F) {s : State} {k reason} (h0 : SameBut F s₀ s) :
    SameBut F s₀ (selNakOut s k reason) := by
  unfold selNakOut
  with_reducible repeat' first
    | assumption | exact subset_of hF (by decide) | intro _ | apply selSend_sameBut | apply count_sameBut

theorem selAccept_sameBut (hF : [Part.regs, .mem, .events, .once, .hub, .fw] ⊆ F) {s : State}
    {k type subch sat fage words} (h0 : SameBut F s₀ s) :
    SameBut F s₀ (selAccept s k type subch sat fage words) := by
  unfold selAccept
  with_reducible repeat' first
    | assumption | exact subset_of hF (by decide) | intro _ | apply keeps_foldl | apply keeps_ite
    | apply keeps_foldl_fst | apply keeps_foldl_snd | apply keeps_ite_snd | apply hubWords_sameBut
    | apply count_sameBut | apply setReg_sameBut | apply put_sameBut | dsimp only | split
    | refine keeps_fst ?_ (by assumption)

theorem selReceive_sameBut (hF : [Part.regs, .mem, .events, .once, .hub, .sent, .fw] ⊆ F) {s : State}
    {k ok type subch seq sat fage words room} (h0 : SameBut F s₀ s) :
    SameBut F s₀ (selReceive s k ok type subch seq sat fage words room) := by
  unfold selReceive
  with_reducible repeat' first
    | assumption | exact subset_of hF (by decide) | intro _ | apply keeps_ite | apply selNakOut_sameBut
    | apply count_sameBut | apply selSend_sameBut | apply put_sameBut | apply selAccept_sameBut | dsimp only

theorem selAcked_sameBut (hF : [Part.regs, .hub, .sent] ⊆ F) {s : State} {k seq inv} (h0 : SameBut F s₀ s) :
    SameBut F s₀ (selAcked s k seq inv) := by
  unfold selAcked
  with_reducible repeat' first
    | assumption | exact subset_of hF (by decide) | intro _ | apply keeps_ite | apply selFrames_sameBut
    | apply setSel_sameBut | apply put_sameBut | dsimp only | split

theorem selAgain_sameBut (hF : [Part.regs, .events, .hub, .sent] ⊆ F) {s : State} {k seq counted}
    (h0 : SameBut F s₀ s) :
    SameBut F s₀ (selAgain s k seq counted) := by
  unfold selAgain
  with_reducible repeat' first
    | assumption | exact subset_of hF (by decide) | intro _ | apply keeps_ite | apply selRetrain_sameBut
    | apply setSel_sameBut | apply selFrames_sameBut | apply count_sameBut | dsimp only

theorem selNaked_sameBut (hF : [Part.regs, .events, .hub, .sent] ⊆ F) {s : State} {k seq inv reason}
    (h0 : SameBut F s₀ s) :
    SameBut F s₀ (selNaked s k seq inv reason) := by
  unfold selNaked
  with_reducible repeat' first
    | assumption | exact subset_of hF (by decide) | intro _ | apply keeps_ite | apply setSel_sameBut
    | apply selAgain_sameBut

theorem selPost_sameBut (hF : [Part.hub, .sent] ⊆ F) {s : State} {k type words} (h0 : SameBut F s₀ s) :
    SameBut F s₀ (selPost s k type words) := by
  unfold selPost
  with_reducible repeat' first
    | assumption | exact subset_of hF (by decide) | intro _ | apply keeps_ite | apply setSel_sameBut
    | apply selFrames_sameBut | dsimp only

theorem selIdle_sameBut (hF : [Part.regs, .hub] ⊆ F) {s : State} {k valid} (h0 : SameBut F s₀ s) :
    SameBut F s₀ (selIdle s k valid) := by
  unfold selIdle
  with_reducible repeat' first
    | assumption | exact subset_of hF (by decide) | intro _ | apply keeps_ite | apply setSel_sameBut
    | apply put_sameBut | dsimp only

theorem selActive_sameBut (hF : [Part.regs, .hub, .sent] ⊆ F) {s : State} {k peer} (h0 : SameBut F s₀ s) :
    SameBut F s₀ (selActive s k peer) := by
  unfold selActive
  with_reducible repeat' first
    | assumption | exact subset_of hF (by decide) | intro _ | apply keeps_ite | apply setSel_sameBut
    | apply put_sameBut | apply selFrames_sameBut | dsimp only

theorem selTs_sameBut (hF : [Part.regs, .hub, .sent] ⊆ F) {s : State} {k d sent} (h0 : SameBut F s₀ s) :
    SameBut F s₀ (selTs s k d sent) := by
  unfold selTs
  with_reducible repeat' first
    | assumption | exact subset_of hF (by decide) | intro _ | apply keeps_ite | apply keeps_getD
    | apply selActive_sameBut | apply setSel_sameBut | dsimp only

theorem selEnable_sameBut (hF : [Part.regs, .hub] ⊆ F) {s : State} {k} (h0 : SameBut F s₀ s) :
    SameBut F s₀ (selEnable s k) := by
  unfold selEnable
  with_reducible repeat' first
    | assumption | exact subset_of hF (by decide) | intro _ | apply selAlign_sameBut | apply put_sameBut

theorem selCommand_sameBut (hF : [Part.regs, .hub, .sent] ⊆ F) {s : State} {k len} (h0 : SameBut F s₀ s) :
    SameBut F s₀ (selCommand s k len) := by
  unfold selCommand
  with_reducible repeat' first
    | assumption | exact subset_of hF (by decide) | intro _ | apply put_sameBut | apply selPost_sameBut | dsimp only

theorem wakeSeen_sameBut (hF : [Part.wakes] ⊆ F) {s : State} {src detail} (h0 : SameBut F s₀ s) :
    SameBut F s₀ (wakeSeen s src detail) := by
  unfold wakeSeen
  with_reducible repeat' first | assumption | exact subset_of hF (by decide) | intro _ | apply withWakes_sameBut

theorem selWake_sameBut (hF : [Part.regs, .hub, .wakes] ⊆ F) {s : State} {k} (h0 : SameBut F s₀ s) :
    SameBut F s₀ (selWake s k) := by
  unfold selWake
  with_reducible repeat' first
    | assumption | exact subset_of hF (by decide) | intro _ | apply keeps_ite | apply wakeSeen_sameBut
    | apply selAlign_sameBut | dsimp only

theorem ethIn_sameBut (hF : [Part.regs, .mem, .events, .once, .hub, .fw] ⊆ F) {s : State} {port frame ok}
    (h0 : SameBut F s₀ s) :
    SameBut F s₀ (ethIn s port frame ok) := by
  unfold ethIn
  with_reducible repeat' first
    | assumption | exact subset_of hF (by decide) | intro _ | apply keeps_ite | apply injected_sameBut
    | apply ethReceive_sameBut | apply onHub_sameBut | dsimp only | split

theorem selTake_sameBut (hF : [Part.regs, .mem, .events, .once, .hub, .sent, .fw] ⊆ F) {s : State}
    {port ok f words} (h0 : SameBut F s₀ s) :
    SameBut F s₀ (selTake s port ok f words) := by
  unfold selTake
  with_reducible repeat' first
    | assumption | exact subset_of hF (by decide) | intro _ | apply keeps_getD | apply selReceive_sameBut

theorem selIn_sameBut (hF : [Part.regs, .mem, .events, .once, .hub, .sent, .fw] ⊆ F) {s : State}
    {port ok f words} (h0 : SameBut F s₀ s) :
    SameBut F s₀ (selIn s port ok f words) := by
  unfold selIn
  with_reducible repeat' first
    | assumption | exact subset_of hF (by decide) | intro _ | apply keeps_ite | apply injected_sameBut
    | apply selTake_sameBut | apply onHub_sameBut | dsimp only | split

theorem execStreamContextEnable_sameBut (hF : [Part.regs, .hub] ⊆ F) {ctx value} {s : State}
    (h2 : SameBut F s₀ s) :
    ResultSameBut F s₀ (execStreamContextEnable ctx value s) := by
  unfold execStreamContextEnable
  with_reducible repeat' first
    | assumption | exact subset_of hF (by decide) | apply done_sameBut | intro _ | apply ctxEnable_sameBut

theorem execStreamContextDisable_sameBut (hF : [Part.regs, .hub] ⊆ F) {ctx value} {s : State}
    (h2 : SameBut F s₀ s) :
    ResultSameBut F s₀ (execStreamContextDisable ctx value s) := by
  unfold execStreamContextDisable
  with_reducible repeat' first
    | assumption | exact subset_of hF (by decide) | apply done_sameBut | intro _ | apply ctxDisable_sameBut

theorem execHubEnableWrite_sameBut (hF : [Part.regs, .hub] ⊆ F) {value} {s : State} (h1 : SameBut F s₀ s) :
    ResultSameBut F s₀ (execHubEnableWrite value s) := by
  unfold execHubEnableWrite
  with_reducible repeat' first
    | assumption | exact subset_of hF (by decide) | apply done_sameBut | intro _ | apply hubWrite_sameBut

theorem execCsiFrameStart_sameBut (hF : [Part.regs, .mem, .events, .once, .hub, .fw] ⊆ F) {receiver channel ecc}
    {s : State} (h3 : SameBut F s₀ s) :
    ResultSameBut F s₀ (execCsiFrameStart receiver channel ecc s) := by
  unfold execCsiFrameStart
  with_reducible repeat' first
    | assumption | exact subset_of hF (by decide) | apply done_sameBut | intro _ | apply csiStart_sameBut

theorem execCsiLongPacket_sameBut (hF : [Part.regs, .mem, .events, .once, .hub, .fw] ⊆ F)
    {receiver channel type ecc crcOk payload} {s : State} (h6 : SameBut F s₀ s) :
    ResultSameBut F s₀ (execCsiLongPacket receiver channel type ecc crcOk payload s) := by
  unfold execCsiLongPacket
  with_reducible repeat' first
    | assumption | exact subset_of hF (by decide) | apply done_sameBut | intro _ | apply csiLine_sameBut

theorem execCsiFrameEnd_sameBut (hF : [Part.regs, .mem, .events, .once, .hub, .fw] ⊆ F) {receiver channel ecc}
    {s : State} (h3 : SameBut F s₀ s) :
    ResultSameBut F s₀ (execCsiFrameEnd receiver channel ecc s) := by
  unfold execCsiFrameEnd
  with_reducible repeat' first
    | assumption | exact subset_of hF (by decide) | apply done_sameBut | intro _ | apply csiEnd_sameBut

theorem execEthFrameReceive_sameBut (hF : [Part.regs, .mem, .events, .once, .hub, .fw] ⊆ F) {port frame fcsOk}
    {s : State} (h3 : SameBut F s₀ s) :
    ResultSameBut F s₀ (execEthFrameReceive port frame fcsOk s) := by
  unfold execEthFrameReceive
  with_reducible repeat' first
    | assumption | exact subset_of hF (by decide) | apply done_sameBut | intro _ | apply ethIn_sameBut

theorem execEthFwTransmit_sameBut (hF : [Part.regs, .events, .hub, .sent] ⊆ F) {port tsReq} {s : State}
    (h2 : SameBut F s₀ s) :
    ResultSameBut F s₀ (execEthFwTransmit port tsReq s) := by
  unfold execEthFwTransmit
  with_reducible repeat' first
    | assumption | exact subset_of hF (by decide) | apply done_sameBut | intro _ | apply ethTransmit_sameBut

theorem execEthLinkChange_sameBut (hF : [Part.regs] ⊆ F) {port up} {s : State} (h2 : SameBut F s₀ s) :
    ResultSameBut F s₀ (execEthLinkChange port up s) := by
  unfold execEthLinkChange
  with_reducible repeat' first
    | assumption | exact subset_of hF (by decide) | apply done_sameBut | intro _ | apply ethLink_sameBut

theorem execPtpInfoRead_sameBut (hF : [Part.regs, .hub, .answer] ⊆ F) {port tx} {s : State}
    (h2 : SameBut F s₀ s) :
    ResultSameBut F s₀ (execPtpInfoRead port tx s) := by
  unfold execPtpInfoRead
  with_reducible repeat' first
    | assumption | exact subset_of hF (by decide) | apply done_sameBut | intro _ | apply ptpRead_sameBut

theorem execSelFrameReceive_sameBut (hF : [Part.regs, .mem, .events, .once, .hub, .sent, .fw] ⊆ F)
    {port ok type subch seq sat fage words room} {s : State} (h9 : SameBut F s₀ s) :
    ResultSameBut F s₀ (execSelFrameReceive port ok type subch seq sat fage words room s) := by
  unfold execSelFrameReceive
  with_reducible repeat' first
    | assumption | exact subset_of hF (by decide) | apply done_sameBut | apply keeps_ite_result | intro _
    | apply keeps_ite | apply selIn_sameBut

theorem execSelAckReceive_sameBut (hF : [Part.regs, .hub, .sent] ⊆ F) {port seq inverse} {s : State}
    (h3 : SameBut F s₀ s) :
    ResultSameBut F s₀ (execSelAckReceive port seq inverse s) := by
  unfold execSelAckReceive
  with_reducible repeat' first
    | assumption | exact subset_of hF (by decide) | apply done_sameBut | intro _ | apply selAcked_sameBut

theorem execSelNakReceive_sameBut (hF : [Part.regs, .events, .hub, .sent] ⊆ F) {port seq inverse reason}
    {s : State} (h4 : SameBut F s₀ s) :
    ResultSameBut F s₀ (execSelNakReceive port seq inverse reason s) := by
  unfold execSelNakReceive
  with_reducible repeat' first
    | assumption | exact subset_of hF (by decide) | apply done_sameBut | intro _ | apply selNaked_sameBut

theorem execSelBusyWaitExpire_sameBut (hF : [Part.regs, .events, .hub, .sent] ⊆ F) {port} {s : State}
    (h1 : SameBut F s₀ s) :
    ResultSameBut F s₀ (execSelBusyWaitExpire port s) := by
  unfold execSelBusyWaitExpire
  with_reducible repeat' first
    | assumption | exact subset_of hF (by decide) | apply done_sameBut | intro _ | apply selAgain_sameBut | split

theorem execSelAckTimeout_sameBut (hF : [Part.regs, .events, .hub, .sent] ⊆ F) {port} {s : State}
    (h1 : SameBut F s₀ s) :
    ResultSameBut F s₀ (execSelAckTimeout port s) := by
  unfold execSelAckTimeout
  with_reducible repeat' first
    | assumption | exact subset_of hF (by decide) | apply done_sameBut | intro _ | apply keeps_ite
    | apply selAgain_sameBut | split

theorem execSelIdleSetReceive_sameBut (hF : [Part.regs, .hub] ⊆ F) {port valid} {s : State}
    (h2 : SameBut F s₀ s) :
    ResultSameBut F s₀ (execSelIdleSetReceive port valid s) := by
  unfold execSelIdleSetReceive
  with_reducible repeat' first
    | assumption | exact subset_of hF (by decide) | apply done_sameBut | intro _ | apply selIdle_sameBut

theorem execSelTsReceive_sameBut (hF : [Part.regs, .hub, .sent] ⊆ F) {port data sent} {s : State}
    (h3 : SameBut F s₀ s) :
    ResultSameBut F s₀ (execSelTsReceive port data sent s) := by
  unfold execSelTsReceive
  with_reducible repeat' first
    | assumption | exact subset_of hF (by decide) | apply done_sameBut | intro _ | apply selTs_sameBut

theorem execSelAlignTimeout_sameBut (hF : [Part.regs, .events, .objs, .fault, .hub] ⊆ F) {port} {s : State}
    (h1 : SameBut F s₀ s) :
    ResultSameBut F s₀ (execSelAlignTimeout port s) := by
  unfold execSelAlignTimeout
  with_reducible repeat' first
    | assumption | exact subset_of hF (by decide) | apply done_sameBut | intro _ | apply keeps_ite
    | apply selFail_sameBut

theorem execSelTrainTimeout_sameBut (hF : [Part.regs, .events, .objs, .fault, .hub] ⊆ F) {port} {s : State}
    (h1 : SameBut F s₀ s) :
    ResultSameBut F s₀ (execSelTrainTimeout port s) := by
  unfold execSelTrainTimeout
  with_reducible repeat' first
    | assumption | exact subset_of hF (by decide) | apply done_sameBut | intro _ | apply keeps_ite
    | apply selFail_sameBut

theorem execSelCommaLoss_sameBut (hF : [Part.regs, .events, .hub] ⊆ F) {port} {s : State} (h1 : SameBut F s₀ s)
    :
    ResultSameBut F s₀ (execSelCommaLoss port s) := by
  unfold execSelCommaLoss
  with_reducible repeat' first
    | assumption | exact subset_of hF (by decide) | apply done_sameBut | intro _ | apply keeps_ite
    | apply selRetrain_sameBut

theorem execCodeGroupErrors_sameBut (hF : [Part.regs, .events, .hub] ⊆ F) {port} {s : State}
    (h1 : SameBut F s₀ s) :
    ResultSameBut F s₀ (execCodeGroupErrors port s) := by
  unfold execCodeGroupErrors
  with_reducible repeat' first
    | assumption | exact subset_of hF (by decide) | apply done_sameBut | intro _ | apply keeps_ite
    | apply selRetrain_sameBut

theorem execSelRetrain_sameBut (hF : [Part.regs, .events, .hub] ⊆ F) {port} {s : State} (h1 : SameBut F s₀ s) :
    ResultSameBut F s₀ (execSelRetrain port s) := by
  unfold execSelRetrain
  with_reducible repeat' first
    | assumption | exact subset_of hF (by decide) | apply done_sameBut | apply keeps_ite_result | intro _
    | apply keeps_ite | apply selAlign_sameBut | apply selRetrain_sameBut

theorem execSelEnable_sameBut (hF : [Part.regs, .hub] ⊆ F) {port} {s : State} (h1 : SameBut F s₀ s) :
    ResultSameBut F s₀ (execSelEnable port s) := by
  unfold execSelEnable
  with_reducible repeat' first
    | assumption | exact subset_of hF (by decide) | apply done_sameBut | intro _ | apply selEnable_sameBut

theorem execSelSleepReq_sameBut (hF : [Part.hub, .sent] ⊆ F) {port} {s : State} (h1 : SameBut F s₀ s) :
    ResultSameBut F s₀ (execSelSleepReq port s) := by
  unfold execSelSleepReq
  with_reducible repeat' first
    | assumption | exact subset_of hF (by decide) | apply done_sameBut | intro _ | apply selPost_sameBut

theorem execSelWakeDetect_sameBut (hF : [Part.regs, .hub, .wakes] ⊆ F) {port} {s : State} (h1 : SameBut F s₀ s)
    :
    ResultSameBut F s₀ (execSelWakeDetect port s) := by
  unfold execSelWakeDetect
  with_reducible repeat' first
    | assumption | exact subset_of hF (by decide) | apply done_sameBut | intro _ | apply selWake_sameBut

theorem execSelCmdSend_sameBut (hF : [Part.regs, .hub, .sent] ⊆ F) {port len} {s : State} (h2 : SameBut F s₀ s)
    :
    ResultSameBut F s₀ (execSelCmdSend port len s) := by
  unfold execSelCmdSend
  with_reducible repeat' first
    | assumption | exact subset_of hF (by decide) | apply done_sameBut | intro _ | apply selCommand_sameBut

end Sys2Proof.Machine.State
end

section
set_option Elab.async false
/-! PROOFS. The footprints of the operations of `Sys2Proof/Machine/Can.lean`. -/

namespace Sys2Proof.Machine.State

set_option linter.unusedTactic false
set_option linter.unreachableTactic false

variable {F : List Part} {s₀ : State}

theorem setCan_sameBut (hF : [Part.can] ⊆ F) {s : State} {c x2} (h0 : SameBut F s₀ s) :
    SameBut F s₀ (setCan s c x2) := by
  unfold setCan
  with_reducible repeat' first | assumption | exact subset_of hF (by decide) | intro _ | apply withCan_sameBut

theorem putByte_sameBut (hF : [Part.regs] ⊆ F) {s : State} {a b} (h0 : SameBut F s₀ s) :
    SameBut F s₀ (putByte s a b) := by
  unfold putByte
  with_reducible repeat' first | assumption | exact subset_of hF (by decide) | intro _ | apply put_sameBut

theorem canRefill_sameBut (hF : [Part.regs, .can] ⊆ F) {s : State} {c} (h0 : SameBut F s₀ s) :
    SameBut F s₀ (canRefill s c) := by
  unfold canRefill
  with_reducible repeat' first
    | assumption | exact subset_of hF (by decide) | intro _ | apply keeps_ite | apply put_sameBut
    | apply setCan_sameBut | dsimp only

theorem canPump_sameBut (hF : [Part.regs, .events, .sent, .can] ⊆ F) {s : State} {c} (h0 : SameBut F s₀ s) :
    SameBut F s₀ (canPump s c) := by
  unfold canPump
  with_reducible repeat' first
    | assumption | exact subset_of hF (by decide) | intro _ | apply keeps_ite | apply put_sameBut
    | apply canRefill_sameBut | apply raise_sameBut | apply log_sameBut | apply setCan_sameBut | dsimp only | split

theorem canResult_sameBut (hF : [Part.regs] ⊆ F) {s : State} {c t} (h0 : SameBut F s₀ s) :
    SameBut F s₀ (canResult s c t) := by
  unfold canResult
  with_reducible repeat' first | assumption | exact subset_of hF (by decide) | intro _ | apply put_sameBut

theorem canQueue_sameBut (hF : [Part.regs, .events, .sent, .can] ⊆ F) {s : State} {c cls f}
    (h0 : SameBut F s₀ s) :
    SameBut F s₀ (canQueue s c cls f) := by
  unfold canQueue
  with_reducible repeat' first
    | assumption | exact subset_of hF (by decide) | intro _ | apply keeps_ite | apply canResult_sameBut
    | apply canPump_sameBut | apply setCan_sameBut | apply put_sameBut | dsimp only | apply keeps_id

theorem canSend_sameBut (hF : [Part.regs, .events, .sent, .can] ⊆ F) {s : State} {cls f} (h0 : SameBut F s₀ s) :
    SameBut F s₀ (canSend s cls f) := by
  unfold canSend
  with_reducible repeat' first
    | assumption | exact subset_of hF (by decide) | intro _ | apply keeps_foldl | apply keeps_foldl_fst
    | apply canQueue_sameBut

theorem canRaw_sameBut (hF : [Part.regs, .events, .sent, .can] ⊆ F) {s : State} {c cls} (h0 : SameBut F s₀ s) :
    SameBut F s₀ (canRaw s c cls) := by
  unfold canRaw
  with_reducible repeat' first
    | assumption | exact subset_of hF (by decide) | intro _ | apply keeps_ite | apply canResult_sameBut
    | apply canQueue_sameBut | apply canSend_sameBut | dsimp only | apply keeps_id | split

theorem tpdoTrigger_sameBut (hF : [Part.regs, .events, .sent, .can] ⊆ F) {s : State} {c n} (h0 : SameBut F s₀ s)
    :
    SameBut F s₀ (tpdoTrigger s c n) := by
  unfold tpdoTrigger
  with_reducible repeat' first
    | assumption | exact subset_of hF (by decide) | intro _ | apply keeps_ite | apply count_sameBut
    | apply canPump_sameBut | apply setCan_sameBut | dsimp only | split

theorem tpdoFire_sameBut (hF : [Part.regs, .events, .sent, .can] ⊆ F) {s : State} {c n} (h0 : SameBut F s₀ s) :
    SameBut F s₀ (tpdoFire s c n) := by
  unfold tpdoFire
  with_reducible repeat' first
    | assumption | exact subset_of hF (by decide) | intro _ | apply keeps_foldl | apply keeps_ite
    | apply keeps_foldl_fst | apply tpdoTrigger_sameBut

theorem canDone_sameBut (hF : [Part.regs, .events, .sent, .can] ⊆ F) {s : State} {c} (h0 : SameBut F s₀ s) :
    SameBut F s₀ (canDone s c) := by
  unfold canDone
  with_reducible repeat' first
    | assumption | exact subset_of hF (by decide) | intro _ | apply keeps_ite | apply emitOut_sameBut
    | apply setCan_sameBut | apply canPump_sameBut | apply raise_sameBut | apply count_sameBut
    | apply canResult_sameBut | dsimp only | split

theorem canToken_sameBut (hF : [Part.regs, .events, .sent, .can] ⊆ F) {s : State} {c} (h0 : SameBut F s₀ s) :
    SameBut F s₀ (canToken s c) := by
  unfold canToken
  with_reducible repeat' first
    | assumption | exact subset_of hF (by decide) | intro _ | apply keeps_ite | apply reach_sameBut
    | apply canPump_sameBut | apply canRefill_sameBut | dsimp only

theorem canState_sameBut (hF : [Part.regs, .can] ⊆ F) {s : State} {c st} (h0 : SameBut F s₀ s) :
    SameBut F s₀ (canState s c st) := by
  unfold canState
  with_reducible repeat' first
    | assumption | exact subset_of hF (by decide) | intro _ | apply keeps_ite | apply setCan_sameBut
    | apply put_sameBut

theorem canError_sameBut (hF : [Part.regs, .events, .sent, .can] ⊆ F) {s : State} {c tec rec}
    (h0 : SameBut F s₀ s) :
    SameBut F s₀ (canError s c tec rec) := by
  unfold canError
  with_reducible repeat' first
    | assumption | exact subset_of hF (by decide) | intro _ | apply keeps_ite | apply put_sameBut
    | apply raise_sameBut | apply log_sameBut | apply count_sameBut | apply canState_sameBut | dsimp only

theorem canRecover_sameBut (hF : [Part.regs, .events, .sent, .can] ⊆ F) {s : State} {c} (h0 : SameBut F s₀ s) :
    SameBut F s₀ (canRecover s c) := by
  unfold canRecover
  with_reducible repeat' first
    | assumption | exact subset_of hF (by decide) | intro _ | apply keeps_ite | apply canPump_sameBut
    | apply put_sameBut | apply canState_sameBut

theorem canMove_sameBut (hF : [Part.regs, .events, .sent, .can] ⊆ F) {s : State} {a b} (h0 : SameBut F s₀ s) :
    SameBut F s₀ (canMove s a b) := by
  unfold canMove
  with_reducible repeat' first
    | assumption | exact subset_of hF (by decide) | intro _ | apply setCan_sameBut | apply canPump_sameBut
    | dsimp only

theorem canFailover_sameBut (hF : [Part.regs, .events, .sent, .can, .canStandby] ⊆ F) {s : State}
    (h0 : SameBut F s₀ s) :
    SameBut F s₀ (canFailover s) := by
  unfold canFailover
  with_reducible repeat' first
    | assumption | exact subset_of hF (by decide) | intro _ | apply keeps_ite | apply canMove_sameBut
    | apply reach_sameBut | apply withCanStandby_sameBut

theorem canReturn_sameBut (hF : [Part.regs, .events, .sent, .can, .canStandby] ⊆ F) {s : State}
    (h0 : SameBut F s₀ s) :
    SameBut F s₀ (canReturn s) := by
  unfold canReturn
  with_reducible repeat' first
    | assumption | exact subset_of hF (by decide) | intro _ | apply keeps_ite | apply canMove_sameBut
    | apply reach_sameBut | apply withCanStandby_sameBut

theorem rxView_sameBut (hF : [Part.regs] ⊆ F) {s : State} {c} (h0 : SameBut F s₀ s) : SameBut F s₀ (rxView s c) := by
  unfold rxView
  with_reducible repeat' first
    | assumption | exact subset_of hF (by decide) | intro _ | apply keeps_foldl | apply keeps_ite
    | apply keeps_foldl_fst | apply put_sameBut | apply setReg_sameBut | apply put64_sameBut | dsimp only
    | apply keeps_id | split

theorem canTake_sameBut (hF : [Part.regs, .can] ⊆ F) {s : State} {c f remote} (h0 : SameBut F s₀ s) :
    SameBut F s₀ (canTake s c f remote).1 := by
  unfold canTake
  with_reducible repeat' first
    | assumption | exact subset_of hF (by decide) | intro _ | apply keeps_ite | apply keeps_ite_fst
    | apply count_sameBut | apply setCan_sameBut | dsimp only | split

theorem canPop_sameBut (hF : [Part.regs, .can] ⊆ F) {s : State} {c} (h0 : SameBut F s₀ s) :
    SameBut F s₀ (canPop s c) := by
  unfold canPop
  with_reducible repeat' first
    | assumption | exact subset_of hF (by decide) | intro _ | apply rxView_sameBut | apply setCan_sameBut | dsimp only

theorem execCanRawTransmit_sameBut (hF : [Part.regs, .events, .sent, .can] ⊆ F) {bus cls} {s : State}
    (h2 : SameBut F s₀ s) :
    ResultSameBut F s₀ (execCanRawTransmit bus cls s) := by
  unfold execCanRawTransmit
  with_reducible repeat' first
    | assumption | exact subset_of hF (by decide) | apply done_sameBut | intro _ | apply canRaw_sameBut

theorem execCanTokenAvailable_sameBut (hF : [Part.regs, .events, .sent, .can] ⊆ F) {bus} {s : State}
    (h1 : SameBut F s₀ s) :
    ResultSameBut F s₀ (execCanTokenAvailable bus s) := by
  unfold execCanTokenAvailable
  with_reducible repeat' first
    | assumption | exact subset_of hF (by decide) | apply done_sameBut | intro _ | apply canToken_sameBut

theorem execCanFrameTransmitted_sameBut (hF : [Part.regs, .events, .sent, .can] ⊆ F) {bus} {s : State}
    (h1 : SameBut F s₀ s) :
    ResultSameBut F s₀ (execCanFrameTransmitted bus s) := by
  unfold execCanFrameTransmitted
  with_reducible repeat' first
    | assumption | exact subset_of hF (by decide) | apply done_sameBut | intro _ | apply canDone_sameBut

theorem execCanBusError_sameBut (hF : [Part.regs, .events, .sent, .can] ⊆ F) {bus tec rec} {s : State}
    (h3 : SameBut F s₀ s) :
    ResultSameBut F s₀ (execCanBusError bus tec rec s) := by
  unfold execCanBusError
  with_reducible repeat' first
    | assumption | exact subset_of hF (by decide) | apply done_sameBut | intro _ | apply canError_sameBut

theorem execCanBusoffRecovery_sameBut (hF : [Part.regs, .events, .sent, .can] ⊆ F) {bus} {s : State}
    (h1 : SameBut F s₀ s) :
    ResultSameBut F s₀ (execCanBusoffRecovery bus s) := by
  unfold execCanBusoffRecovery
  with_reducible repeat' first
    | assumption | exact subset_of hF (by decide) | apply done_sameBut | intro _ | apply canRecover_sameBut

theorem execCanStandbyFailover_sameBut (hF : [Part.regs, .events, .sent, .can, .canStandby] ⊆ F) {s : State}
    (h0 : SameBut F s₀ s) :
    ResultSameBut F s₀ (execCanStandbyFailover s) := by
  unfold execCanStandbyFailover
  with_reducible repeat' first
    | assumption | exact subset_of hF (by decide) | apply done_sameBut | intro _ | apply canFailover_sameBut

theorem execCanStandbyReturn_sameBut (hF : [Part.regs, .events, .sent, .can, .canStandby] ⊆ F) {s : State}
    (h0 : SameBut F s₀ s) :
    ResultSameBut F s₀ (execCanStandbyReturn s) := by
  unfold execCanStandbyReturn
  with_reducible repeat' first
    | assumption | exact subset_of hF (by decide) | apply done_sameBut | intro _ | apply canReturn_sameBut

theorem execCanRxPop_sameBut (hF : [Part.regs, .can] ⊆ F) {bus} {s : State} (h1 : SameBut F s₀ s) :
    ResultSameBut F s₀ (execCanRxPop bus s) := by
  unfold execCanRxPop
  with_reducible repeat' first
    | assumption | exact subset_of hF (by decide) | apply done_sameBut | intro _ | apply canPop_sameBut

end Sys2Proof.Machine.State
end

section
set_option Elab.async false
/-! PROOFS. The footprints of the operations of `Sys2Proof/Machine/Guard.lean`. -/

namespace Sys2Proof.Machine.State

set_option linter.unusedTactic false
set_option linter.unreachableTactic false

variable {F : List Part} {s₀ : State}

theorem onGuard_sameBut (hF : [Part.guard] ⊆ F) {s : State} {f} (h0 : SameBut F s₀ s) :
    SameBut F s₀ (onGuard s f) := by
  unfold onGuard
  with_reducible repeat' first | assumption | exact subset_of hF (by decide) | intro _ | apply withGuard_sameBut

theorem pinDrive_sameBut (hF : [Part.regs] ⊆ F) {s : State} {i} (h0 : SameBut F s₀ s) :
    SameBut F s₀ (pinDrive s i) := by
  unfold pinDrive
  with_reducible repeat' first
    | assumption | exact subset_of hF (by decide) | intro _ | apply keeps_ite | apply put_sameBut | dsimp only | split

theorem canWrite_sameBut (hF : [Part.regs] ⊆ F) {s : State} {n v} (h0 : SameBut F s₀ s) :
    SameBut F s₀ (canWrite s n v) := by
  unfold canWrite
  with_reducible repeat' first
    | assumption | exact subset_of hF (by decide) | intro _ | apply keeps_foldl | apply keeps_ite
    | apply keeps_foldl_fst | apply putByte_sameBut | dsimp only | split

theorem ethWrite_sameBut (hF : [Part.sent, .guard] ⊆ F) {s : State} {n v} (h0 : SameBut F s₀ s) :
    SameBut F s₀ (ethWrite s n v) := by
  unfold ethWrite
  with_reducible repeat' first
    | assumption | exact subset_of hF (by decide) | intro _ | apply keeps_ite | apply emitOut_sameBut
    | apply onGuard_sameBut | dsimp only

theorem hostWrite_sameBut (hF : [Part.regs, .mem, .events, .sent, .fw] ⊆ F) {s : State} {n v}
    (h0 : SameBut F s₀ s) :
    SameBut F s₀ (hostWrite s n v) := by
  unfold hostWrite
  with_reducible repeat' first
    | assumption | exact subset_of hF (by decide) | intro _ | apply keeps_ite | apply count_sameBut
    | apply put_sameBut | apply wrBytes_sameBut | apply msix_sameBut | dsimp only

theorem sink_sameBut (hF : [Part.regs, .mem, .events, .sent, .can, .guard, .fw] ⊆ F) {s : State} {n v}
    (h0 : SameBut F s₀ s) :
    SameBut F s₀ (sink s n v) := by
  unfold sink
  with_reducible repeat' first
    | assumption | exact subset_of hF (by decide) | intro _ | apply keeps_ite | apply setReg_sameBut
    | apply canWrite_sameBut | apply tpdoFire_sameBut | apply ethWrite_sameBut | apply pinDrive_sameBut
    | apply hostWrite_sameBut | dsimp only | split

theorem guardChannel_sameBut (hF : [Part.regs, .mem, .events, .sent, .can, .guard, .fw] ⊆ F) {s : State} {n}
    (h0 : SameBut F s₀ s) :
    SameBut F s₀ (guardChannel s n) := by
  unfold guardChannel
  with_reducible repeat' first
    | assumption | exact subset_of hF (by decide) | intro _ | apply keeps_ite | apply put_sameBut
    | apply onGuard_sameBut | apply sink_sameBut | apply msix_sameBut | apply log_sameBut | dsimp only

theorem guardScan_sameBut (hF : [Part.regs, .mem, .events, .sent, .can, .guard, .fw] ⊆ F) {s : State}
    (h0 : SameBut F s₀ s) :
    SameBut F s₀ (guardScan s) := by
  unfold guardScan
  with_reducible repeat' first
    | assumption | exact subset_of hF (by decide) | intro _ | apply keeps_foldl | apply keeps_foldl_fst
    | apply guardChannel_sameBut | apply put_sameBut

theorem guardEmit_sameBut (hF : [Part.regs, .mem, .events, .sent, .can, .guard, .fw] ⊆ F) {s : State} {n x2}
    (h0 : SameBut F s₀ s) :
    SameBut F s₀ (guardEmit s n x2) := by
  unfold guardEmit
  with_reducible repeat' first
    | assumption | exact subset_of hF (by decide) | intro _ | apply onGuard_sameBut | apply count_sameBut
    | apply sink_sameBut

theorem guardValue_sameBut (hF : [Part.regs, .mem, .events, .once, .sent, .can, .guard, .fw] ⊆ F) {s : State}
    {n x2} (h0 : SameBut F s₀ s) :
    SameBut F s₀ (guardValue s n x2) := by
  unfold guardValue
  with_reducible repeat' first
    | assumption | exact subset_of hF (by decide) | intro _ | apply keeps_ite | apply onGuard_sameBut
    | apply guardChannel_sameBut | apply logOnceBy_sameBut | apply count_sameBut | apply put_sameBut
    | apply log_sameBut | apply guardEmit_sameBut | dsimp only

theorem tapMessage_sameBut (hF : [Part.regs, .guard] ⊆ F) {s : State} {n body} (h0 : SameBut F s₀ s) :
    SameBut F s₀ (tapMessage s n body) := by
  unfold tapMessage
  with_reducible repeat' first
    | assumption | exact subset_of hF (by decide) | intro _ | apply keeps_foldl | apply keeps_ite | apply keeps_getD
    | apply keeps_foldl_fst | apply keeps_foldl_snd | apply keeps_ite_snd | apply count_sameBut
    | apply onGuard_sameBut | dsimp only

theorem guardPop_sameBut
    (hF : [Part.regs, .mem, .events, .mesh, .once, .creditDue, .sent, .can, .guard, .fw] ⊆ F) {s : State} {n}
    (h0 : SameBut F s₀ s) :
    SameBut F s₀ (guardPop s n) := by
  unfold guardPop
  with_reducible repeat' first
    | assumption | exact subset_of hF (by decide) | intro _ | apply keeps_ite | apply queueTake_sameBut
    | apply guardValue_sameBut | apply tapMessage_sameBut | dsimp only | split

theorem guardClose_sameBut (hF : [Part.regs, .mem, .events, .once, .sent, .can, .guard, .fw] ⊆ F) {s : State}
    {t} (h0 : SameBut F s₀ s) :
    SameBut F s₀ (guardClose s t) := by
  unfold guardClose
  with_reducible repeat' first
    | assumption | exact subset_of hF (by decide) | intro _ | apply keeps_foldl | apply keeps_ite | apply keeps_getD
    | apply keeps_foldl_fst | apply keeps_foldl_snd | apply keeps_ite_snd | apply onGuard_sameBut
    | apply guardValue_sameBut | dsimp only | split

theorem gapExpire_sameBut (hF : [Part.regs, .mem, .events, .sent, .can, .guard, .fw] ⊆ F) {s : State} {n}
    (h0 : SameBut F s₀ s) :
    SameBut F s₀ (gapExpire s n) := by
  unfold gapExpire
  with_reducible repeat' first
    | assumption | exact subset_of hF (by decide) | intro _ | apply keeps_ite | apply reach_sameBut
    | apply guardChannel_sameBut | apply guardEmit_sameBut | dsimp only | split

theorem silenceExpire_sameBut (hF : [Part.regs, .mem, .events, .sent, .can, .guard, .fw] ⊆ F) {s : State} {n}
    (h0 : SameBut F s₀ s) :
    SameBut F s₀ (silenceExpire s n) := by
  unfold silenceExpire
  with_reducible repeat' first
    | assumption | exact subset_of hF (by decide) | intro _ | apply keeps_ite | apply reach_sameBut
    | apply guardChannel_sameBut | apply onGuard_sameBut | dsimp only

theorem forceSafe_sameBut (hF : [Part.regs, .mem, .events, .sent, .can, .guard, .fw] ⊆ F) {s : State} {ch on}
    (h0 : SameBut F s₀ s) :
    SameBut F s₀ (forceSafe s ch on) := by
  unfold forceSafe
  with_reducible repeat' first
    | assumption | exact subset_of hF (by decide) | intro _ | apply keeps_ite | apply guardChannel_sameBut
    | apply put_sameBut | apply guardScan_sameBut | dsimp only | split

theorem gpiGate_sameBut (hF : [Part.regs] ⊆ F) {s : State} {i} (h0 : SameBut F s₀ s) : SameBut F s₀ (gpiGate s i) := by
  unfold gpiGate
  with_reducible repeat' first
    | assumption | exact subset_of hF (by decide) | intro _ | apply keeps_ite | apply put_sameBut | dsimp only | split

theorem gpiGuard_sameBut (hF : [Part.regs, .mem, .events, .sent, .can, .guard, .fw] ⊆ F) {s : State} {i}
    (h0 : SameBut F s₀ s) :
    SameBut F s₀ (gpiGuard s i) := by
  unfold gpiGuard
  with_reducible repeat' first
    | assumption | exact subset_of hF (by decide) | intro _ | apply keeps_foldl | apply keeps_foldl_fst
    | apply guardChannel_sameBut

theorem gpioChange_sameBut (hF : [Part.regs, .mem, .events, .hub, .sent, .can, .guard, .fw] ⊆ F) {s : State}
    {i high samples} (h0 : SameBut F s₀ s) :
    SameBut F s₀ (gpioChange s i high samples) := by
  unfold gpioChange
  with_reducible repeat' first
    | assumption | exact subset_of hF (by decide) | intro _ | apply keeps_ite | apply put_sameBut
    | apply onHub_sameBut | apply log_sameBut | apply gpiGuard_sameBut | apply gpiGate_sameBut | dsimp only

theorem gpioStuck_sameBut (hF : [Part.regs, .mem, .events, .hub, .sent, .can, .guard, .fw] ⊆ F) {s : State} {i}
    (h0 : SameBut F s₀ s) :
    SameBut F s₀ (gpioStuck s i) := by
  unfold gpioStuck
  with_reducible repeat' first
    | assumption | exact subset_of hF (by decide) | intro _ | apply keeps_ite | apply onHub_sameBut
    | apply put_sameBut | apply reach_sameBut | apply gpiGuard_sameBut | apply gpiGate_sameBut | apply log_sameBut
    | dsimp only | split

theorem execGpioInputChange_sameBut (hF : [Part.regs, .mem, .events, .hub, .sent, .can, .guard, .fw] ⊆ F)
    {pin high samples} {s : State} (h3 : SameBut F s₀ s) :
    ResultSameBut F s₀ (execGpioInputChange pin high samples s) := by
  unfold execGpioInputChange
  with_reducible repeat' first
    | assumption | exact subset_of hF (by decide) | apply done_sameBut | intro _ | apply gpioChange_sameBut

theorem execGpioStuckExpire_sameBut (hF : [Part.regs, .mem, .events, .hub, .sent, .can, .guard, .fw] ⊆ F) {pin}
    {s : State} (h1 : SameBut F s₀ s) :
    ResultSameBut F s₀ (execGpioStuckExpire pin s) := by
  unfold execGpioStuckExpire
  with_reducible repeat' first
    | assumption | exact subset_of hF (by decide) | apply done_sameBut | intro _ | apply gpioStuck_sameBut

theorem execGuardQueueCandidate_sameBut
    (hF : [Part.regs, .mem, .events, .mesh, .once, .creditDue, .sent, .can, .guard, .fw] ⊆ F) {channel}
    {s : State} (h1 : SameBut F s₀ s) :
    ResultSameBut F s₀ (execGuardQueueCandidate channel s) := by
  unfold execGuardQueueCandidate
  with_reducible repeat' first
    | assumption | exact subset_of hF (by decide) | apply done_sameBut | intro _ | apply guardPop_sameBut

theorem execGuardWriteCandidate_sameBut (hF : [Part.regs, .mem, .events, .once, .sent, .can, .guard, .fw] ⊆ F)
    {channel value} {s : State} (h2 : SameBut F s₀ s) :
    ResultSameBut F s₀ (execGuardWriteCandidate channel value s) := by
  unfold execGuardWriteCandidate
  with_reducible repeat' first
    | assumption | exact subset_of hF (by decide) | apply done_sameBut | intro _ | apply guardValue_sameBut

theorem execGuardGapExpire_sameBut (hF : [Part.regs, .mem, .events, .sent, .can, .guard, .fw] ⊆ F) {channel}
    {s : State} (h1 : SameBut F s₀ s) :
    ResultSameBut F s₀ (execGuardGapExpire channel s) := by
  unfold execGuardGapExpire
  with_reducible repeat' first
    | assumption | exact subset_of hF (by decide) | apply done_sameBut | intro _ | apply gapExpire_sameBut

theorem execGuardSilenceExpire_sameBut (hF : [Part.regs, .mem, .events, .sent, .can, .guard, .fw] ⊆ F) {channel}
    {s : State} (h1 : SameBut F s₀ s) :
    ResultSameBut F s₀ (execGuardSilenceExpire channel s) := by
  unfold execGuardSilenceExpire
  with_reducible repeat' first
    | assumption | exact subset_of hF (by decide) | apply done_sameBut | intro _ | apply silenceExpire_sameBut

theorem execGuardForceSafeWrite_sameBut (hF : [Part.regs, .mem, .events, .sent, .can, .guard, .fw] ⊆ F)
    {channel on} {s : State} (h2 : SameBut F s₀ s) :
    ResultSameBut F s₀ (execGuardForceSafeWrite channel on s) := by
  unfold execGuardForceSafeWrite
  with_reducible repeat' first
    | assumption | exact subset_of hF (by decide) | apply done_sameBut | intro _ | apply forceSafe_sameBut

end Sys2Proof.Machine.State
end

section
set_option Elab.async false
/-! PROOFS. The footprints of the operations of `Sys2Proof/Machine/Plasticity.lean`. -/

namespace Sys2Proof.Machine.State

set_option linter.unusedTactic false
set_option linter.unreachableTactic false

variable {F : List Part} {s₀ : State}

theorem Learn.synapse_sameBut (hF : [Part.regs, .mem, .events, .fw] ⊆ F)
    {l : Learn} {a : Pass} {i ord fmt raw ea : Nat}
    {store : State → Nat → State} (h : SameBut F s₀ a.st)
    (hs : ∀ (s : State) (w : Nat), SameBut F s₀ s → SameBut F s₀ (store s w)) :
    SameBut F s₀ (Learn.synapse l a i ord fmt raw ea store).st := by
  have hw : ∀ e : Nat, SameBut F s₀ (a.st.wrLe ea 1 e) := fun e => wrLe_sameBut hF h
  unfold Learn.synapse
  dsimp only
  split
  · exact hw _
  · split
    · exact hw _
    · exact hs _ _ (hw _)

theorem Learn.preUpdate_sameBut (hF : [Part.regs, .mem, .events, .fw] ⊆ F) {l} {a : Pass} {i}
    (h1 : SameBut F s₀ a.st) :
    SameBut F s₀ (Learn.preUpdate l a i).st := by
  unfold Learn.preUpdate
  with_reducible repeat' first
    | assumption | exact subset_of hF (by decide) | intro _ | apply wrLe_sameBut | dsimp only | split

theorem Learn.storeEntry_sameBut (hF : [Part.regs, .mem, .events, .fw] ⊆ F) {fmt a x2} {s : State} {w}
    (h3 : SameBut F s₀ s) :
    SameBut F s₀ (Learn.storeEntry fmt a x2 s w) := by
  unfold Learn.storeEntry
  with_reducible repeat' first
    | assumption | exact subset_of hF (by decide) | intro _ | apply keeps_ite | apply wrLe_sameBut | dsimp only

theorem Learn.runGroups_sameBut (hF : [Part.regs, .mem, .events, .fw] ⊆ F)
    {l : Learn} {g x exact' i left j p cursor} {a : Pass}
    (h : SameBut F s₀ a.st) : SameBut F s₀ (Learn.runGroups l g x exact' i left j p cursor a).st := by
  induction left generalizing j p cursor a with
  | zero => unfold Learn.runGroups; split <;> split <;> exact h
  | succ n ih =>
    unfold Learn.runGroups
    dsimp only
    split
    · exact h
    · split
      · exact h
      · split
        · exact h
        · have hf : ∀ (b : Pass) (z : List (Syn × Nat)) (e : Nat), SameBut F s₀ b.st →
              SameBut F s₀ (z.foldl (fun (a : Pass) y => Learn.synapse l a i y.1.ord e y.1.raw
                (podBase l.pod + l.d.eligBase + (g.scaleIdx + (x.first + j)) * l.d.g + y.2)
                (Learn.storeEntry e (p + 1) y.1.entry)) b).st := fun b z e hb =>
            keeps_foldl_pass z hb fun y hy a => Learn.synapse_sameBut hF hy fun s w hs => Learn.storeEntry_sameBut hF hs
          split
          · exact hf _ _ _ h
          · exact ih (hf _ _ _ h)

theorem Learn.source_sameBut (hF : [Part.regs, .mem, .events, .fw] ⊆ F) {l} {a : Pass} {i}
    (h1 : SameBut F s₀ a.st) :
    SameBut F s₀ (Learn.source l a i).st := by
  unfold Learn.source
  with_reducible repeat' first
    | assumption | exact subset_of hF (by decide) | intro _ | apply keeps_foldl | apply keeps_ite
    | apply keeps_foldl_fst | apply Learn.runGroups_sameBut | apply Learn.preUpdate_sameBut | apply keeps_foldl_pass
    | dsimp only | split

theorem Learn.blockPart_sameBut (hF : [Part.regs, .mem, .events, .fw] ⊆ F) {l} {a : Pass} {b}
    (h1 : SameBut F s₀ a.st) :
    SameBut F s₀ (Learn.blockPart l a b).st := by
  unfold Learn.blockPart
  with_reducible repeat' first
    | assumption | exact subset_of hF (by decide) | intro _ | apply keeps_foldl | apply keeps_ite
    | apply keeps_foldl_fst | apply Learn.synapse_sameBut | apply wrLe_sameBut | apply Learn.preUpdate_sameBut
    | apply keeps_foldl_pass | dsimp only | split

theorem learnPart_sameBut (hF : [Part.regs, .events, .once, .delivery, .sent] ⊆ F)
    {s : State} {l c after sources} {work : Pass → Pass} (h : SameBut F s₀ s)
    (hw : ∀ a : Pass, SameBut F s₀ a.st → SameBut F s₀ (work a).st) :
    SameBut F s₀ (learnPart s l c after sources work).1 ∧
      SameBut F s₀ (learnPart s l c after sources work).2.2.st := by
  have hr := hw ⟨s, 0, 0, 0, 0, 0, 0, false, none⟩ h
  unfold learnPart
  refine ⟨?_, ?_⟩
  · with_reducible repeat' first
    | assumption | exact subset_of hF (by decide) | intro _ | apply keeps_ite | apply dropDead_sameBut
    | apply faultSlot_sameBut | apply logOnce_sameBut | apply countOp_sameBut | split | dsimp only
  · dsimp only
    split
    · split <;> exact h
    · exact hr

theorem learnParts_sameBut (hF : [Part.regs, .events, .once, .delivery, .sent] ⊆ F)
    {s : State} {l c drift count} {parts : List (Nat × Bool × (Pass → Pass))}
    (h : SameBut F s₀ s) (hw : ∀ x ∈ parts, ∀ a : Pass, SameBut F s₀ a.st → SameBut F s₀ (x.2.2 a).st) :
    SameBut F s₀ (learnParts s l c drift count parts).1 := by
  induction parts generalizing s c drift count with
  | nil => exact h
  | cons x r ih =>
    have hp : ∀ after, SameBut F s₀ (s.learnPart l c after x.1 x.2.2).1 := fun after =>
      (learnPart_sameBut hF h (hw x (by simp))).1
    obtain ⟨n, last, work⟩ := x
    unfold learnParts
    dsimp only at hp ⊢
    split <;> split
    · exact hp _
    · exact ih (hp _) fun y hy => hw y (by simp [hy])
    · exact hp _
    · exact ih (hp _) fun y hy => hw y (by simp [hy])

theorem driftClose_sameBut (hF : [Part.regs, .events] ⊆ F) {s : State} {p n} (h0 : SameBut F s₀ s) :
    SameBut F s₀ (driftClose s p n) := by
  unfold driftClose
  with_reducible repeat' first
    | assumption | exact subset_of hF (by decide) | intro _ | apply log_sameBut | apply put_sameBut

theorem learnSlot_sameBut (hF : [Part.regs, .mem, .events, .once, .delivery, .sent, .fw] ⊆ F)
    {s : State} {p n c} (h : SameBut F s₀ s) :
    SameBut F s₀ (learnSlot s p n c).1 := by
  have hp : ∀ (l : Learn) (c : Sched), SameBut F s₀ (learnParts s l c 0 0
      (if l.d.block then (List.range l.d.nb).map fun b => (l.d.srcCount, decide (b + 1 = l.d.nb), fun a => l.blockPart a b)
      else (List.range (ceilDiv l.d.srcCount 256)).map fun k =>
        (min 256 (l.d.srcCount - 256 * k), false, fun a =>
          (List.range (min 256 (l.d.srcCount - 256 * k))).foldl (fun a i => l.source a (256 * k + i)) a))).1 := by
    refine fun l c => learnParts_sameBut (subset_of hF (by decide)) h fun x hx a ha => ?_
    split at hx
    · obtain ⟨b, -, rfl⟩ := List.mem_map.1 hx
      exact Learn.blockPart_sameBut (subset_of hF (by decide)) ha
    · obtain ⟨k, -, rfl⟩ := List.mem_map.1 hx
      exact keeps_foldl_pass _ ha fun y hy i => Learn.source_sameBut (subset_of hF (by decide)) hy
  unfold learnSlot
  dsimp only
  with_reducible repeat' first
    | assumption | exact subset_of hF (by decide) | intro _ | apply keeps_ite | apply driftClose_sameBut
    | apply onDelivery_sameBut | apply count_sameBut | apply put_sameBut | exact hp ⟨p, n, _, s, _, _, _, _⟩ _

theorem passStalls_sameBut (hF : [Part.regs, .freeCount] ⊆ F) {s : State} {p ends} (h0 : SameBut F s₀ s) :
    SameBut F s₀ (passStalls s p ends) := by
  unfold passStalls
  with_reducible repeat' first
    | assumption | exact subset_of hF (by decide) | intro _ | apply keeps_ite | apply put_sameBut
    | apply useFree_sameBut | apply count_sameBut | dsimp only

theorem rewrittenClear_sameBut (hF : [Part.delivery] ⊆ F) {s : State} {p} (h0 : SameBut F s₀ s) :
    SameBut F s₀ (rewrittenClear s p) := by
  unfold rewrittenClear
  with_reducible repeat' first | assumption | exact subset_of hF (by decide) | intro _ | apply onDelivery_sameBut

theorem learningPass_sameBut (hF : [Part.regs, .mem, .freeCount, .events, .once, .delivery, .sent, .fw] ⊆ F)
    {s : State} {p} (h0 : SameBut F s₀ s) :
    SameBut F s₀ (learningPass s p) := by
  unfold learningPass
  with_reducible repeat' first
    | assumption | exact subset_of hF (by decide) | intro _ | apply keeps_foldl | apply keeps_ite
    | apply keeps_foldl_fst | apply keeps_foldl_snd | apply keeps_ite_snd | apply drainDead_sameBut
    | apply learnSlot_sameBut | apply rewrittenClear_sameBut | apply onDelivery_sameBut | apply passStalls_sameBut
    | dsimp only | split | refine keeps_fst ?_ (by assumption)

theorem podViolation_sameBut (hF : [Part.regs, .events] ⊆ F) {s : State} {p n a} (h0 : SameBut F s₀ s) :
    SameBut F s₀ (podViolation s p n a) := by
  unfold podViolation
  with_reducible repeat' first
    | assumption | exact subset_of hF (by decide) | intro _ | apply log_sameBut | apply put_sameBut

theorem learnSet_sameBut (hF : [Part.regs, .events] ⊆ F) {s : State} {p n} (h0 : SameBut F s₀ s) :
    SameBut F s₀ (learnSet s p n) := by
  unfold learnSet
  with_reducible repeat' first
    | assumption | exact subset_of hF (by decide) | intro _ | apply keeps_ite | apply podViolation_sameBut
    | apply put_sameBut

theorem learnLoad_sameBut (hF : [Part.regs, .events] ⊆ F) {s : State} (h0 : SameBut F s₀ s) :
    SameBut F s₀ (learnLoad s) := by
  unfold learnLoad
  with_reducible repeat' first
    | assumption | exact subset_of hF (by decide) | intro _ | apply keeps_foldl | apply keeps_ite
    | apply keeps_foldl_fst | apply keeps_foldl_snd | apply keeps_ite_snd | apply learnSet_sameBut | apply put_sameBut
    | dsimp only

theorem plCtrlWrite_sameBut (hF : [Part.regs, .events] ⊆ F) {s : State} {p n v} (h0 : SameBut F s₀ s) :
    SameBut F s₀ (plCtrlWrite s p n v) := by
  unfold plCtrlWrite
  with_reducible repeat' first
    | assumption | exact subset_of hF (by decide) | intro _ | apply keeps_ite | apply writeOnly_sameBut
    | apply podViolation_sameBut | dsimp only

theorem modLevel_sameBut (hF : [Part.regs] ⊆ F) {s : State} (h0 : SameBut F s₀ s) : SameBut F s₀ (modLevel s) := by
  unfold modLevel
  with_reducible repeat' first | assumption | exact subset_of hF (by decide) | intro _ | apply put_sameBut

theorem modLate_sameBut (hF : [Part.regs, .events, .objs] ⊆ F) {s : State} {step ch} (h0 : SameBut F s₀ s) :
    SameBut F s₀ (modLate s step ch) := by
  unfold modLate
  with_reducible repeat' first
    | assumption | exact subset_of hF (by decide) | intro _ | apply log_sameBut | apply countObj_sameBut
    | apply count_sameBut

theorem modPush_sameBut (hF : [Part.regs, .events, .objs, .delivery] ⊆ F) {s : State} {ahead step ch val}
    (h0 : SameBut F s₀ s) :
    SameBut F s₀ (modPush s ahead step ch val).1 := by
  unfold modPush
  with_reducible repeat' first
    | assumption | exact subset_of hF (by decide) | intro _ | apply keeps_ite | apply keeps_ite_fst
    | apply modLate_sameBut | apply count_sameBut | apply modLevel_sameBut | apply onDelivery_sameBut

theorem modPush32_sameBut (hF : [Part.regs, .events, .objs, .delivery] ⊆ F) {s : State} {step ch val}
    (h0 : SameBut F s₀ s) :
    SameBut F s₀ (modPush32 s step ch val).1 := by
  unfold modPush32
  with_reducible repeat' first
    | assumption | exact subset_of hF (by decide) | intro _ | apply keeps_ite_fst | apply modPush_sameBut
    | refine keeps_fst ?_ (by assumption)

theorem modSettle_sameBut (hF : [Part.regs, .events, .objs, .delivery] ⊆ F) {s : State} {step}
    (h0 : SameBut F s₀ s) :
    SameBut F s₀ (modSettle s step) := by
  unfold modSettle
  with_reducible repeat' first
    | assumption | exact subset_of hF (by decide) | intro _ | apply keeps_foldl | apply keeps_foldl_fst
    | apply onDelivery_sameBut | apply modLevel_sameBut | apply modLate_sameBut | dsimp only

theorem modClose_sameBut (hF : [Part.regs, .delivery] ⊆ F) {s : State} (h0 : SameBut F s₀ s) :
    SameBut F s₀ (modClose s) := by
  unfold modClose
  with_reducible repeat' first
    | assumption | exact subset_of hF (by decide) | intro _ | apply keeps_foldl | apply keeps_foldl_fst
    | apply onDelivery_sameBut | apply put_sameBut

theorem execLearningPass_sameBut (hF : [Part.regs, .mem, .freeCount, .events, .once, .delivery, .sent, .fw] ⊆ F)
    {pod} {s : State} (h1 : SameBut F s₀ s) :
    ResultSameBut F s₀ (execLearningPass pod s) := by
  unfold execLearningPass
  with_reducible repeat' first
    | assumption | exact subset_of hF (by decide) | apply done_sameBut | intro _ | apply learningPass_sameBut

theorem execPlEnableWrite_sameBut (hF : [Part.regs, .events] ⊆ F) {pod slot value} {s : State}
    (h3 : SameBut F s₀ s) :
    ResultSameBut F s₀ (execPlEnableWrite pod slot value s) := by
  unfold execPlEnableWrite
  with_reducible repeat' first
    | assumption | exact subset_of hF (by decide) | apply done_sameBut | intro _ | apply plCtrlWrite_sameBut

theorem execModqPush_sameBut (hF : [Part.regs, .events, .objs, .delivery] ⊆ F) {value} {s : State}
    (h1 : SameBut F s₀ s) :
    ResultSameBut F s₀ (execModqPush value s) := by
  unfold execModqPush
  with_reducible repeat' first
    | assumption | exact subset_of hF (by decide) | apply done_sameBut | intro _ | apply modPush32_sameBut
    | refine keeps_fst ?_ (by assumption)

end Sys2Proof.Machine.State
end

section
set_option Elab.async false
/-! PROOFS. The footprints of the operations of `Sys2Proof/Machine/Security.lean`. -/

namespace Sys2Proof.Machine.State

set_option linter.unusedTactic false
set_option linter.unreachableTactic false

variable {F : List Part} {s₀ : State}

theorem onSec_sameBut (hF : [Part.sec] ⊆ F) {s : State} {f} (h0 : SameBut F s₀ s) : SameBut F s₀ (onSec s f) := by
  unfold onSec
  with_reducible repeat' first | assumption | exact subset_of hF (by decide) | intro _ | apply withSec_sameBut

theorem clearMem_sameBut (hF : [Part.mem] ⊆ F)
    {s : State} {lo hi} (h : SameBut F s₀ s) : SameBut F s₀ (clearMem s lo hi) :=
  sameBut_mk hF h

theorem sealDirty_sameBut (hF : [Part.regs] ⊆ F) {s : State} (h0 : SameBut F s₀ s) : SameBut F s₀ (sealDirty s) := by
  unfold sealDirty
  with_reducible repeat' first | assumption | exact subset_of hF (by decide) | intro _ | apply put_sameBut

theorem audit_sameBut (hF : [Part.regs, .mem, .events, .objs, .sec, .fw] ⊆ F) {s : State}
    {kind slot role obj status old new} (h0 : SameBut F s₀ s) :
    SameBut F s₀ (audit s kind slot role obj status old new) := by
  unfold audit
  with_reducible repeat' first
    | assumption | exact subset_of hF (by decide) | intro _ | apply keeps_ite | apply countObj_sameBut
    | apply count_sameBut | apply log_sameBut | apply onSec_sameBut | apply wrBytes_sameBut | apply sealDirty_sameBut
    | apply put_sameBut | dsimp only

theorem endSession_sameBut (hF : [Part.regs, .mem, .events, .objs, .sec, .fw] ⊆ F) {s : State} {slot}
    (h0 : SameBut F s₀ s) :
    SameBut F s₀ (endSession s slot) := by
  unfold endSession
  with_reducible repeat' first
    | assumption | exact subset_of hF (by decide) | intro _ | apply keeps_ite | apply setReg_sameBut
    | apply audit_sameBut | apply log_sameBut | dsimp only

theorem endSessions_sameBut (hF : [Part.regs, .mem, .events, .objs, .sec, .fw] ⊆ F) {s : State}
    (h0 : SameBut F s₀ s) :
    SameBut F s₀ (endSessions s) := by
  unfold endSessions
  with_reducible repeat' first
    | assumption | exact subset_of hF (by decide) | intro _ | apply keeps_foldl | apply keeps_foldl_fst
    | apply endSession_sameBut

theorem startSession_sameBut (hF : [Part.regs, .mem, .events, .objs, .sec, .selectors, .fw] ⊆ F)
    {s : State} {slot role} (h : SameBut F s₀ s) :
    SameBut F s₀ (startSession s slot role) := by
  unfold startSession
  with_reducible repeat' first
    | assumption | exact subset_of hF (by decide) | intro _ | apply onSec_sameBut | apply put_sameBut
    | apply endSession_sameBut | dsimp only | apply withSelectors_sameBut

theorem touchSlot_sameBut (hF : [Part.sec] ⊆ F) {s : State} {slot} (h0 : SameBut F s₀ s) :
    SameBut F s₀ (touchSlot s slot) := by
  unfold touchSlot
  with_reducible repeat' first | assumption | exact subset_of hF (by decide) | intro _ | apply onSec_sameBut

theorem idleTimeout_sameBut (hF : [Part.regs, .mem, .events, .objs, .sec, .fw] ⊆ F) {s : State} {slot}
    (h0 : SameBut F s₀ s) :
    SameBut F s₀ (idleTimeout s slot) := by
  unfold idleTimeout
  with_reducible repeat' first
    | assumption | exact subset_of hF (by decide) | intro _ | apply keeps_ite | apply endSession_sameBut
    | apply reach_sameBut | split

theorem huskDefaults_sameBut (hF : [Part.regs, .objs] ⊆ F)
    {s : State} (h : SameBut F s₀ s) : SameBut F s₀ (huskDefaults s) := by
  unfold huskDefaults
  with_reducible repeat' first
    | assumption | exact subset_of hF (by decide) | intro _ | apply keeps_foldl | apply keeps_ite
    | apply setReg_sameBut | dsimp only | apply withObjs_sameBut

theorem debugClose_sameBut (hF : [Part.regs] ⊆ F) {s : State} (h0 : SameBut F s₀ s) : SameBut F s₀ (debugClose s) := by
  unfold debugClose
  with_reducible repeat' first | assumption | exact subset_of hF (by decide) | intro _ | apply put_sameBut

theorem wipeStart_sameBut (hF : [Part.regs, .mem, .events, .objs, .fault, .sent, .can, .guard, .sec, .fw] ⊆ F)
    {s : State} {cause} (h0 : SameBut F s₀ s) :
    SameBut F s₀ (wipeStart s cause) := by
  unfold wipeStart
  with_reducible repeat' first
    | assumption | exact subset_of hF (by decide) | intro _ | apply keeps_foldl | apply keeps_foldl_fst
    | apply keeps_foldl_snd | apply keeps_ite_snd | apply debugClose_sameBut | apply endSessions_sameBut
    | apply put_sameBut | apply log_sameBut | apply put64_sameBut | apply count_sameBut | apply clearMem_sameBut
    | apply driftClose_sameBut | apply huskDefaults_sameBut | apply setReg_sameBut | apply onSec_sameBut
    | apply guardScan_sameBut | dsimp only | apply withFault_sameBut

theorem wipeDone_sameBut (hF : [Part.regs, .mem, .events, .objs, .sent, .can, .guard, .sec, .fw] ⊆ F)
    {s : State} (h0 : SameBut F s₀ s) :
    SameBut F s₀ (wipeDone s) := by
  unfold wipeDone
  with_reducible repeat' first
    | assumption | exact subset_of hF (by decide) | intro _ | apply keeps_ite | apply onSec_sameBut
    | apply log_sameBut | apply put_sameBut | apply guardScan_sameBut | apply audit_sameBut | dsimp only

theorem tamperAssert_sameBut
    (hF : [Part.regs, .mem, .events, .objs, .fault, .sent, .wakes, .can, .guard, .sec, .fw] ⊆ F) {s : State} {i}
    (h0 : SameBut F s₀ s) :
    SameBut F s₀ (tamperAssert s i) := by
  unfold tamperAssert
  with_reducible repeat' first
    | assumption | exact subset_of hF (by decide) | intro _ | apply keeps_ite | apply onSec_sameBut
    | apply wipeStart_sameBut | dsimp only | apply withWakes_sameBut

theorem sealWrite_sameBut (hF : [Part.regs, .sec] ⊆ F) {s : State} (h0 : SameBut F s₀ s) :
    SameBut F s₀ (sealWrite s) := by
  unfold sealWrite
  with_reducible repeat' first
    | assumption | exact subset_of hF (by decide) | intro _ | apply keeps_getD | apply put_sameBut
    | apply onSec_sameBut | dsimp only

theorem sealRequest_sameBut (hF : [Part.regs, .sec] ⊆ F) {s : State} (h0 : SameBut F s₀ s) :
    SameBut F s₀ (sealRequest s) := by
  unfold sealRequest
  with_reducible repeat' first
    | assumption | exact subset_of hF (by decide) | intro _ | apply keeps_ite | apply sealWrite_sameBut

theorem sealExpire_sameBut (hF : [Part.regs, .sec] ⊆ F) {s : State} (h0 : SameBut F s₀ s) :
    SameBut F s₀ (sealExpire s) := by
  unfold sealExpire
  with_reducible repeat' first
    | assumption | exact subset_of hF (by decide) | intro _ | apply keeps_ite | apply sealWrite_sameBut
    | apply reach_sameBut | split

theorem loginStat_sameBut (hF : [Part.regs] ⊆ F) {s : State} {t} (h0 : SameBut F s₀ s) :
    SameBut F s₀ (loginStat s t) := by
  unfold loginStat
  with_reducible repeat' first | assumption | exact subset_of hF (by decide) | intro _ | apply put_sameBut

theorem loginChallenge_sameBut (hF : [Part.regs, .freeCount, .sec] ⊆ F) {s : State} {slot role}
    (h0 : SameBut F s₀ s) :
    SameBut F s₀ (loginChallenge s slot role) := by
  unfold loginChallenge
  with_reducible repeat' first
    | assumption | exact subset_of hF (by decide) | intro _ | apply keeps_ite | apply touchSlot_sameBut
    | apply loginStat_sameBut | apply put64_sameBut | apply useFree_sameBut | apply onSec_sameBut | dsimp only

theorem dropChallenge_sameBut (hF : [Part.sec] ⊆ F) {s : State} {slot} (h0 : SameBut F s₀ s) :
    SameBut F s₀ (dropChallenge s slot) := by
  unfold dropChallenge
  with_reducible repeat' first | assumption | exact subset_of hF (by decide) | intro _ | apply onSec_sameBut

theorem challengeExpire_sameBut (hF : [Part.regs, .sec] ⊆ F) {s : State} {slot} (h0 : SameBut F s₀ s) :
    SameBut F s₀ (challengeExpire s slot) := by
  unfold challengeExpire
  with_reducible repeat' first
    | assumption | exact subset_of hF (by decide) | intro _ | apply dropChallenge_sameBut | apply reach_sameBut
    | split

theorem lockout_sameBut (hF : [Part.regs, .mem, .events, .objs, .fault, .sent, .can, .guard, .sec, .fw] ⊆ F)
    {s : State} {slot role} (h0 : SameBut F s₀ s) :
    SameBut F s₀ (lockout s slot role) := by
  unfold lockout
  with_reducible repeat' first
    | assumption | exact subset_of hF (by decide) | intro _ | apply keeps_ite | apply onSec_sameBut
    | apply put_sameBut | apply log_sameBut | apply audit_sameBut | apply wipeStart_sameBut | dsimp only | split

theorem loginVerify_sameBut
    (hF : [Part.regs, .mem, .events, .objs, .fault, .sent, .can, .guard, .sec, .selectors, .fw] ⊆ F) {s : State}
    {slot role} (h0 : SameBut F s₀ s) :
    SameBut F s₀ (loginVerify s slot role) := by
  unfold loginVerify
  with_reducible repeat' first
    | assumption | exact subset_of hF (by decide) | intro _ | apply keeps_ite | apply touchSlot_sameBut
    | apply loginStat_sameBut | apply dropChallenge_sameBut | apply put_sameBut | apply startSession_sameBut
    | apply log_sameBut | apply audit_sameBut | apply count_sameBut | apply lockout_sameBut | dsimp only | split

theorem lockoutExpire_sameBut (hF : [Part.regs, .sec] ⊆ F) {s : State} {role} (h0 : SameBut F s₀ s) :
    SameBut F s₀ (lockoutExpire s role) := by
  unfold lockoutExpire
  with_reducible repeat' first
    | assumption | exact subset_of hF (by decide) | intro _ | apply put_sameBut | apply reach_sameBut
    | apply onSec_sameBut | dsimp only | split

theorem exportStart_sameBut (hF : [Part.regs, .mem, .events, .objs, .sec, .fw] ⊆ F) {s : State} {slot}
    (h0 : SameBut F s₀ s) :
    SameBut F s₀ (exportStart s slot) := by
  unfold exportStart
  with_reducible repeat' first
    | assumption | exact subset_of hF (by decide) | intro _ | apply keeps_ite | apply onSec_sameBut
    | apply log_sameBut | apply audit_sameBut | dsimp only

theorem exportRead_sameBut (hF : [Part.regs, .mem, .events, .objs, .answer, .sec, .fw] ⊆ F) {s : State}
    {slot len} (h0 : SameBut F s₀ s) :
    SameBut F s₀ (exportRead s slot len) := by
  unfold exportRead
  with_reducible repeat' first
    | assumption | exact subset_of hF (by decide) | intro _ | apply keeps_ite | apply touchSlot_sameBut
    | apply refusal_sameBut | apply exportStart_sameBut | apply onSec_sameBut | dsimp only | split
    | apply withAnswer_sameBut

theorem execTamperAssert_sameBut
    (hF : [Part.regs, .mem, .events, .objs, .fault, .sent, .wakes, .can, .guard, .sec, .fw] ⊆ F) {input}
    {s : State} (h1 : SameBut F s₀ s) :
    ResultSameBut F s₀ (execTamperAssert input s) := by
  unfold execTamperAssert
  with_reducible repeat' first
    | assumption | exact subset_of hF (by decide) | apply done_sameBut | intro _ | apply tamperAssert_sameBut

theorem execHuskWipeDone_sameBut (hF : [Part.regs, .mem, .events, .objs, .sent, .can, .guard, .sec, .fw] ⊆ F)
    {s : State} (h0 : SameBut F s₀ s) :
    ResultSameBut F s₀ (execHuskWipeDone s) := by
  unfold execHuskWipeDone
  with_reducible repeat' first
    | assumption | exact subset_of hF (by decide) | apply done_sameBut | intro _ | apply wipeDone_sameBut

theorem execSealRequest_sameBut (hF : [Part.regs, .sec] ⊆ F) {s : State} (h0 : SameBut F s₀ s) :
    ResultSameBut F s₀ (execSealRequest s) := by
  unfold execSealRequest
  with_reducible repeat' first
    | assumption | exact subset_of hF (by decide) | apply done_sameBut | intro _ | apply sealRequest_sameBut

theorem execSealGapExpire_sameBut (hF : [Part.regs, .sec] ⊆ F) {s : State} (h0 : SameBut F s₀ s) :
    ResultSameBut F s₀ (execSealGapExpire s) := by
  unfold execSealGapExpire
  with_reducible repeat' first
    | assumption | exact subset_of hF (by decide) | apply done_sameBut | intro _ | apply sealExpire_sameBut

theorem execLoginChallenge_sameBut (hF : [Part.regs, .freeCount, .sec] ⊆ F) {slot role} {s : State}
    (h2 : SameBut F s₀ s) :
    ResultSameBut F s₀ (execLoginChallenge slot role s) := by
  unfold execLoginChallenge
  with_reducible repeat' first
    | assumption | exact subset_of hF (by decide) | apply done_sameBut | intro _ | apply loginChallenge_sameBut

theorem execLoginVerify_sameBut
    (hF : [Part.regs, .mem, .events, .objs, .fault, .sent, .can, .guard, .sec, .selectors, .fw] ⊆ F) {slot role}
    {s : State} (h2 : SameBut F s₀ s) :
    ResultSameBut F s₀ (execLoginVerify slot role s) := by
  unfold execLoginVerify
  with_reducible repeat' first
    | assumption | exact subset_of hF (by decide) | apply done_sameBut | intro _ | apply loginVerify_sameBut

theorem execChallengeExpire_sameBut (hF : [Part.regs, .sec] ⊆ F) {slot} {s : State} (h1 : SameBut F s₀ s) :
    ResultSameBut F s₀ (execChallengeExpire slot s) := by
  unfold execChallengeExpire
  with_reducible repeat' first
    | assumption | exact subset_of hF (by decide) | apply done_sameBut | intro _ | apply challengeExpire_sameBut

theorem execLogout_sameBut (hF : [Part.regs, .mem, .events, .objs, .sec, .fw] ⊆ F) {slot} {s : State}
    (h1 : SameBut F s₀ s) :
    ResultSameBut F s₀ (execLogout slot s) := by
  unfold execLogout
  with_reducible repeat' first
    | assumption | exact subset_of hF (by decide) | apply done_sameBut | intro _ | apply loginStat_sameBut
    | apply endSession_sameBut

theorem execSessionIdleTimeout_sameBut (hF : [Part.regs, .mem, .events, .objs, .sec, .fw] ⊆ F) {slot}
    {s : State} (h1 : SameBut F s₀ s) :
    ResultSameBut F s₀ (execSessionIdleTimeout slot s) := by
  unfold execSessionIdleTimeout
  with_reducible repeat' first
    | assumption | exact subset_of hF (by decide) | apply done_sameBut | intro _ | apply idleTimeout_sameBut

theorem execLockoutExpire_sameBut (hF : [Part.regs, .sec] ⊆ F) {role} {s : State} (h1 : SameBut F s₀ s) :
    ResultSameBut F s₀ (execLockoutExpire role s) := by
  unfold execLockoutExpire
  with_reducible repeat' first
    | assumption | exact subset_of hF (by decide) | apply done_sameBut | intro _ | apply lockoutExpire_sameBut

theorem auditAppend_sameBut (hF : [Part.regs, .mem, .events, .objs, .sec, .fw] ⊆ F) {s : State} {value}
    (h0 : SameBut F s₀ s) :
    SameBut F s₀ (auditAppend s value) := by
  unfold auditAppend
  with_reducible repeat' first
    | assumption | exact subset_of hF (by decide) | intro _ | apply writePlain_sameBut | apply audit_sameBut
    | dsimp only

theorem execAuditAppend_sameBut (hF : [Part.regs, .mem, .events, .objs, .sec, .fw] ⊆ F) {value} {s : State}
    (h1 : SameBut F s₀ s) :
    ResultSameBut F s₀ (execAuditAppend value s) := by
  unfold execAuditAppend
  with_reducible repeat' first
    | assumption | exact subset_of hF (by decide) | apply done_sameBut | intro _ | apply auditAppend_sameBut

theorem execAuditExportRead_sameBut (hF : [Part.regs, .mem, .events, .objs, .answer, .sec, .fw] ⊆ F) {slot len}
    {s : State} (h2 : SameBut F s₀ s) :
    ResultSameBut F s₀ (execAuditExportRead slot len s) := by
  unfold execAuditExportRead
  with_reducible repeat' first
    | assumption | exact subset_of hF (by decide) | apply done_sameBut | intro _ | apply exportRead_sameBut

end Sys2Proof.Machine.State
end

section
set_option Elab.async false
/-! PROOFS. The footprints of the operations of `Sys2Proof/Machine/Tree.lean`. -/

namespace Sys2Proof.Machine.State

set_option linter.unusedTactic false
set_option linter.unreachableTactic false

variable {F : List Part} {s₀ : State}

theorem nodeCfgErr_sameBut (hF : [Part.regs, .sent] ⊆ F) {s : State} {n} (h0 : SameBut F s₀ s) :
    SameBut F s₀ (nodeCfgErr s n) := by
  unfold nodeCfgErr
  with_reducible repeat' first
    | assumption | exact subset_of hF (by decide) | intro _ | apply raise_sameBut | apply put_sameBut

theorem arrive_sameBut (hF : [Part.regs, .mesh, .fault, .sent] ⊆ F) {s : State} {n c} (h0 : SameBut F s₀ s) :
    SameBut F s₀ (arrive s n c) := by
  unfold arrive
  with_reducible repeat' first
    | assumption | exact subset_of hF (by decide) | intro _ | apply keeps_foldl | apply keeps_ite
    | apply keeps_foldl_fst | apply nodeCfgErr_sameBut | apply put_sameBut | apply setWait_sameBut | dsimp only
    | apply withFault_sameBut

theorem releaseNode_sameBut (hF : [Part.regs, .mesh, .sent] ⊆ F) {s : State} {c n} (h0 : SameBut F s₀ s) :
    SameBut F s₀ (releaseNode s c n) := by
  unfold releaseNode
  with_reducible repeat' first
    | assumption | exact subset_of hF (by decide) | intro _ | apply keeps_ite | apply put_sameBut
    | apply raise_sameBut | apply setWait_sameBut | dsimp only

theorem barRelease_sameBut (hF : [Part.regs, .freeCount, .mesh, .objs, .sent] ⊆ F) {s : State} {c}
    (h0 : SameBut F s₀ s) :
    SameBut F s₀ (barRelease s c) := by
  unfold barRelease
  with_reducible repeat' first
    | assumption | exact subset_of hF (by decide) | intro _ | apply keeps_foldl | apply keeps_ite
    | apply keeps_foldl_fst | apply keeps_foldl_snd | apply keeps_ite_snd | apply setReg_sameBut
    | apply releaseNode_sameBut | apply setObj_sameBut | apply put_sameBut | apply useFree_sameBut | dsimp only

theorem memberWrite_sameBut (hF : [Part.regs, .sent] ⊆ F) {s : State} {n hi v} (h0 : SameBut F s₀ s) :
    SameBut F s₀ (memberWrite s n hi v) := by
  unfold memberWrite
  with_reducible repeat' first
    | assumption | exact subset_of hF (by decide) | intro _ | apply keeps_ite | apply setReg_sameBut
    | apply nodeCfgErr_sameBut | dsimp only | split

theorem redCfgWrite_sameBut (hF : [Part.regs] ⊆ F) {s : State} {l v} (h0 : SameBut F s₀ s) :
    SameBut F s₀ (redCfgWrite s l v) := by
  unfold redCfgWrite
  with_reducible repeat' first
    | assumption | exact subset_of hF (by decide) | intro _ | apply keeps_foldl | apply keeps_ite | apply keeps_getD
    | apply keeps_foldl_fst | apply put_sameBut | apply setReg_sameBut | dsimp only | split

theorem fltShow_sameBut (hF : [Part.regs] ⊆ F) {s : State} (h0 : SameBut F s₀ s) : SameBut F s₀ (fltShow s) := by
  unfold fltShow
  with_reducible repeat' first
    | assumption | exact subset_of hF (by decide) | intro _ | apply put_sameBut | dsimp only

theorem faultWave_sameBut (hF : [Part.regs, .events, .objs, .fault] ⊆ F) {s : State} (h0 : SameBut F s₀ s) :
    SameBut F s₀ (faultWave s) := by
  unfold faultWave
  with_reducible repeat' first
    | assumption | exact subset_of hF (by decide) | intro _ | apply keeps_foldl | apply keeps_ite
    | apply keeps_foldl_fst | apply put_sameBut | apply fltShow_sameBut | apply countObj_sameBut | apply log_sameBut
    | dsimp only | split | apply withFault_sameBut

theorem execBarrierArrive_sameBut (hF : [Part.regs, .mesh, .fault, .sent] ⊆ F) {node ctx} {s : State}
    (h2 : SameBut F s₀ s) :
    ResultSameBut F s₀ (execBarrierArrive node ctx s) := by
  unfold execBarrierArrive
  with_reducible repeat' first
    | assumption | exact subset_of hF (by decide) | apply done_sameBut | intro _ | apply arrive_sameBut

theorem execBarrierRelease_sameBut (hF : [Part.regs, .freeCount, .mesh, .objs, .sent] ⊆ F) {ctx} {s : State}
    (h1 : SameBut F s₀ s) :
    ResultSameBut F s₀ (execBarrierRelease ctx s) := by
  unfold execBarrierRelease
  with_reducible repeat' first
    | assumption | exact subset_of hF (by decide) | apply done_sameBut | intro _ | apply barRelease_sameBut

theorem execBarMemberWrite_sameBut (hF : [Part.regs, .sent] ⊆ F) {node hi value} {s : State}
    (h3 : SameBut F s₀ s) :
    ResultSameBut F s₀ (execBarMemberWrite node hi value s) := by
  unfold execBarMemberWrite
  with_reducible repeat' first
    | assumption | exact subset_of hF (by decide) | apply done_sameBut | intro _ | apply memberWrite_sameBut

theorem execRedCfgWrite_sameBut (hF : [Part.regs] ⊆ F) {lane value} {s : State} (h2 : SameBut F s₀ s) :
    ResultSameBut F s₀ (execRedCfgWrite lane value s) := by
  unfold execRedCfgWrite
  with_reducible repeat' first
    | assumption | exact subset_of hF (by decide) | apply done_sameBut | intro _ | apply redCfgWrite_sameBut

theorem execFaultReportFile_sameBut (hF : [Part.regs, .objs, .fault] ⊆ F) {node suspect} {s : State}
    (h2 : SameBut F s₀ s) :
    ResultSameBut F s₀ (execFaultReportFile node suspect s) := by
  unfold execFaultReportFile
  with_reducible repeat' first
    | assumption | exact subset_of hF (by decide) | apply done_sameBut | intro _ | apply keeps_ite
    | apply fileReport_sameBut

theorem execFaultWave_sameBut (hF : [Part.regs, .events, .objs, .fault] ⊆ F) {s : State} (h0 : SameBut F s₀ s) :
    ResultSameBut F s₀ (execFaultWave s) := by
  unfold execFaultWave
  with_reducible repeat' first
    | assumption | exact subset_of hF (by decide) | apply done_sameBut | intro _ | apply faultWave_sameBut

end Sys2Proof.Machine.State
end

section
set_option Elab.async false
/-! PROOFS. The footprints of the operations of `Sys2Proof/Machine/Debug.lean`. -/

namespace Sys2Proof.Machine.State

set_option linter.unusedTactic false
set_option linter.unreachableTactic false

variable {F : List Part} {s₀ : State}

theorem opsLatch_sameBut (hF : [Part.latches, .answer] ⊆ F)
    {s : State} {t} (h : SameBut F s₀ s) : SameBut F s₀ (opsLatch s t) := by
  unfold opsLatch
  with_reducible repeat' first
    | assumption | exact subset_of hF (by decide) | intro _ | apply keeps_foldl | dsimp only
    | apply withAnswer_sameBut | apply withLatches_sameBut

theorem opsClear_sameBut (hF : [Part.regs] ⊆ F) {s : State} {t} (h0 : SameBut F s₀ s) :
    SameBut F s₀ (opsClear s t) := by
  unfold opsClear
  with_reducible repeat' first
    | assumption | exact subset_of hF (by decide) | intro _ | apply keeps_foldl | apply keeps_foldl_fst
    | apply put64_sameBut

theorem traceEntry_sameBut (hF : [Part.regs, .mem, .events, .once, .fw] ⊆ F) {s : State} {p}
    (h0 : SameBut F s₀ s) :
    SameBut F s₀ (traceEntry s p) := by
  unfold traceEntry
  with_reducible repeat' first
    | assumption | exact subset_of hF (by decide) | intro _ | apply keeps_ite | apply logOnce_sameBut
    | apply count_sameBut | apply wrBytes_sameBut | apply put_sameBut | dsimp only | split

theorem traceWrite_sameBut (hF : [Part.regs, .mem, .events, .mesh, .once, .fw] ⊆ F) {s : State}
    (h0 : SameBut F s₀ s) :
    SameBut F s₀ (traceWrite s) := by
  unfold traceWrite
  with_reducible repeat' first
    | assumption | exact subset_of hF (by decide) | intro _ | apply traceEntry_sameBut | apply onMesh_sameBut | split

theorem traceMarker_sameBut (hF : [Part.regs, .mem, .events, .once, .fw] ⊆ F) {s : State} {step time}
    (h0 : SameBut F s₀ s) :
    SameBut F s₀ (traceMarker s step time) := by
  unfold traceMarker
  with_reducible repeat' first
    | assumption | exact subset_of hF (by decide) | intro _ | apply keeps_ite | apply traceEntry_sameBut

theorem waitDeclare_sameBut (hF : [Part.regs, .mesh] ⊆ F) {s : State} {t v} (h0 : SameBut F s₀ s) :
    SameBut F s₀ (waitDeclare s t v) := by
  unfold waitDeclare
  with_reducible repeat' first
    | assumption | exact subset_of hF (by decide) | intro _ | apply setWait_sameBut | dsimp only | split

theorem hangStart_sameBut (hF : [Part.objs, .hang] ⊆ F) {s : State} (h0 : SameBut F s₀ s) :
    SameBut F s₀ (hangStart s) := by
  unfold hangStart
  with_reducible repeat' first
    | assumption | exact subset_of hF (by decide) | intro _ | apply keeps_ite | apply refusal_sameBut
    | apply setObj_sameBut | dsimp only | apply withHang_sameBut

theorem logFirmware_sameBut (hF : [Part.events] ⊆ F) {s : State} {code p0 p1} (h0 : SameBut F s₀ s) :
    SameBut F s₀ (logFirmware s code p0 p1) := by
  unfold logFirmware
  with_reducible repeat' first | assumption | exact subset_of hF (by decide) | intro _ | apply withEvents_sameBut

theorem hangFinish_sameBut (hF : [Part.regs, .events, .objs, .hang] ⊆ F) {s : State} (h0 : SameBut F s₀ s) :
    SameBut F s₀ (hangFinish s) := by
  unfold hangFinish
  with_reducible repeat' first
    | assumption | exact subset_of hF (by decide) | intro _ | apply keeps_foldl | apply keeps_ite
    | apply keeps_foldl_fst | apply reach_sameBut | apply logFirmware_sameBut | apply setObj_sameBut | dsimp only
    | split | apply withHang_sameBut

theorem injectAuth_sameBut (hF : [Part.regs, .mem, .events, .objs, .sec, .fw] ⊆ F) {s : State} {slot value f}
    (h0 : SameBut F s₀ s) (h3 : ∀ (a : State), SameBut F s₀ a → SameBut F s₀ (f a)) :
    SameBut F s₀ (injectAuth s slot value f) := by
  unfold injectAuth
  with_reducible repeat' first
    | assumption | exact subset_of hF (by decide) | intro _ | apply keeps_ite | apply touchSlot_sameBut
    | apply log_sameBut | apply audit_sameBut | dsimp only | apply h3

theorem injectArm_sameBut (hF : [Part.regs, .events, .objs] ⊆ F) {s : State} (h0 : SameBut F s₀ s) :
    SameBut F s₀ (injectArm s) := by
  unfold injectArm
  with_reducible repeat' first
    | assumption | exact subset_of hF (by decide) | intro _ | apply keeps_ite | apply log_sameBut | apply put_sameBut
    | apply refusal_sameBut

theorem injectDisarm_sameBut (hF : [Part.regs] ⊆ F) {s : State} (h0 : SameBut F s₀ s) :
    SameBut F s₀ (injectDisarm s) := by
  unfold injectDisarm
  with_reducible repeat' first | assumption | exact subset_of hF (by decide) | intro _ | apply put_sameBut

theorem execOpsLatchRead_sameBut (hF : [Part.latches, .answer] ⊆ F) {tile} {s : State} (h1 : SameBut F s₀ s) :
    ResultSameBut F s₀ (execOpsLatchRead tile s) := by
  unfold execOpsLatchRead
  with_reducible repeat' first
    | assumption | exact subset_of hF (by decide) | apply done_sameBut | intro _ | apply opsLatch_sameBut

theorem execCounterClear_sameBut (hF : [Part.regs] ⊆ F) {tile} {s : State} (h1 : SameBut F s₀ s) :
    ResultSameBut F s₀ (execCounterClear tile s) := by
  unfold execCounterClear
  with_reducible repeat' first
    | assumption | exact subset_of hF (by decide) | apply done_sameBut | intro _ | apply opsClear_sameBut

theorem execTraceWrite_sameBut (hF : [Part.regs, .mem, .events, .mesh, .once, .fw] ⊆ F) {s : State}
    (h0 : SameBut F s₀ s) :
    ResultSameBut F s₀ (execTraceWrite s) := by
  unfold execTraceWrite
  with_reducible repeat' first
    | assumption | exact subset_of hF (by decide) | apply done_sameBut | intro _ | apply traceWrite_sameBut

theorem execWaitDeclare_sameBut (hF : [Part.regs, .mesh] ⊆ F) {tile value} {s : State} (h2 : SameBut F s₀ s) :
    ResultSameBut F s₀ (execWaitDeclare tile value s) := by
  unfold execWaitDeclare
  with_reducible repeat' first
    | assumption | exact subset_of hF (by decide) | apply done_sameBut | intro _ | apply waitDeclare_sameBut

theorem execHangAnalysisStart_sameBut (hF : [Part.objs, .hang] ⊆ F) {s : State} (h0 : SameBut F s₀ s) :
    ResultSameBut F s₀ (execHangAnalysisStart s) := by
  unfold execHangAnalysisStart
  with_reducible repeat' first
    | assumption | exact subset_of hF (by decide) | apply done_sameBut | intro _ | apply hangStart_sameBut

theorem execHangAnalysisSecondRead_sameBut (hF : [Part.regs, .events, .objs, .hang] ⊆ F) {s : State}
    (h0 : SameBut F s₀ s) :
    ResultSameBut F s₀ (execHangAnalysisSecondRead s) := by
  unfold execHangAnalysisSecondRead
  with_reducible repeat' first
    | assumption | exact subset_of hF (by decide) | apply done_sameBut | intro _ | apply hangFinish_sameBut

theorem execInjectionArm_sameBut (hF : [Part.regs, .mem, .events, .objs, .sec, .fw] ⊆ F) {slot} {s : State}
    (h1 : SameBut F s₀ s) :
    ResultSameBut F s₀ (execInjectionArm slot s) := by
  unfold execInjectionArm
  with_reducible repeat' first
    | assumption | exact subset_of hF (by decide) | apply done_sameBut | intro _ | apply injectAuth_sameBut
    | apply injectArm_sameBut

theorem execInjectionDisarm_sameBut (hF : [Part.regs, .mem, .events, .objs, .sec, .fw] ⊆ F) {slot} {s : State}
    (h1 : SameBut F s₀ s) :
    ResultSameBut F s₀ (execInjectionDisarm slot s) := by
  unfold execInjectionDisarm
  with_reducible repeat' first
    | assumption | exact subset_of hF (by decide) | apply done_sameBut | intro _ | apply injectAuth_sameBut
    | apply injectDisarm_sameBut

end Sys2Proof.Machine.State
end

section
set_option Elab.async false
/-! PROOFS. The footprints of the operations of `Sys2Proof/Machine/Faults.lean`. -/

namespace Sys2Proof.Machine.State

set_option linter.unusedTactic false
set_option linter.unreachableTactic false

variable {F : List Part} {s₀ : State}

theorem fence_sameBut (hF : [Part.regs] ⊆ F) {s : State} {t v} (h0 : SameBut F s₀ s) : SameBut F s₀ (fence s t v) := by
  unfold fence
  with_reducible repeat' first | assumption | exact subset_of hF (by decide) | intro _ | apply put_sameBut

theorem spareUsed_sameBut (hF : [Part.objs] ⊆ F) {s : State} (h0 : SameBut F s₀ s) : SameBut F s₀ (spareUsed s) := by
  unfold spareUsed
  with_reducible repeat' first | assumption | exact subset_of hF (by decide) | intro _ | apply setObj_sameBut

theorem tileRetire_sameBut (hF : [Part.regs, .events, .objs, .fault] ⊆ F) {s : State} {t} (h0 : SameBut F s₀ s)
    :
    SameBut F s₀ (tileRetire s t) := by
  unfold tileRetire
  with_reducible repeat' first
    | assumption | exact subset_of hF (by decide) | intro _ | apply keeps_ite | apply put_sameBut
    | apply fence_sameBut | apply onFault_sameBut | apply spareUsed_sameBut | apply log_sameBut | dsimp only

theorem linkRetire_sameBut (hF : [Part.regs, .events, .mesh, .once, .fault, .sent] ⊆ F) {s : State} {r p}
    (h0 : SameBut F s₀ s) :
    SameBut F s₀ (linkRetire s r p) := by
  unfold linkRetire
  with_reducible repeat' first
    | assumption | exact subset_of hF (by decide) | intro _ | apply onFault_sameBut | apply log_sameBut
    | apply linkDown_sameBut

theorem linkRetrain_sameBut (hF : [Part.regs, .events, .mesh, .once, .fault, .sent] ⊆ F) {s : State} {r p}
    (h0 : SameBut F s₀ s) :
    SameBut F s₀ (linkRetrain s r p) := by
  unfold linkRetrain
  with_reducible repeat' first
    | assumption | exact subset_of hF (by decide) | intro _ | apply onFault_sameBut | apply linkDown_sameBut

theorem linkCrossed_sameBut (hF : [Part.regs, .events, .mesh, .once, .fault, .sent] ⊆ F) {s : State} {r p}
    (h0 : SameBut F s₀ s) :
    SameBut F s₀ (linkCrossed s r p).1 := by
  unfold linkCrossed
  with_reducible repeat' first
    | assumption | exact subset_of hF (by decide) | intro _ | apply keeps_ite | apply keeps_ite_fst
    | apply linkRetire_sameBut | apply linkRetrain_sameBut | dsimp only

theorem retrainStop_sameBut (hF : [Part.fault] ⊆ F) {s : State} {t} (h0 : SameBut F s₀ s) :
    SameBut F s₀ (retrainStop s t) := by
  unfold retrainStop
  with_reducible repeat' first
    | assumption | exact subset_of hF (by decide) | intro _ | apply onFault_sameBut | dsimp only

theorem holeMake_sameBut (hF : [Part.regs, .events, .mesh, .once, .objs, .fault, .sent] ⊆ F) {s : State} {t}
    (h0 : SameBut F s₀ s) :
    SameBut F s₀ (holeMake s t) := by
  unfold holeMake
  with_reducible repeat' first
    | assumption | exact subset_of hF (by decide) | intro _ | apply keeps_foldl | apply keeps_foldl_fst
    | apply retrainStop_sameBut | apply linkDown_sameBut | apply onFault_sameBut | apply log_sameBut
    | apply tileRetire_sameBut | dsimp only

theorem podRetire_sameBut (hF : [Part.regs, .events, .objs, .fault] ⊆ F) {s : State} {p} (h0 : SameBut F s₀ s) :
    SameBut F s₀ (podRetire s p) := by
  unfold podRetire
  with_reducible repeat' first
    | assumption | exact subset_of hF (by decide) | intro _ | apply keeps_foldl | apply keeps_foldl_fst
    | apply log_sameBut | apply tileRetire_sameBut | dsimp only

theorem seamRetire_sameBut
    (hF : [Part.regs, .mem, .events, .mesh, .once, .objs, .fault, .delivery, .streams, .sent, .fw] ⊆ F)
    {s : State} {row} (h0 : SameBut F s₀ s) :
    SameBut F s₀ (seamRetire s row) := by
  unfold seamRetire
  with_reducible repeat' first
    | assumption | exact subset_of hF (by decide) | intro _ | apply log_sameBut | apply scmLinkFail_sameBut
    | apply linkRetire_sameBut | dsimp only

theorem lanePairDrop_sameBut (hF : [Part.regs] ⊆ F) {s : State} {port lane} (h0 : SameBut F s₀ s) :
    SameBut F s₀ (lanePairDrop s port lane) := by
  unfold lanePairDrop
  with_reducible repeat' first
    | assumption | exact subset_of hF (by decide) | intro _ | apply put_sameBut | dsimp only

theorem verdict_sameBut
    (hF : [Part.regs, .mem, .events, .mesh, .once, .objs, .fault, .delivery, .streams, .sent, .fw] ⊆ F)
    {s : State} {suspect count} (h0 : SameBut F s₀ s) :
    SameBut F s₀ (verdict s suspect count).1 := by
  unfold verdict
  with_reducible repeat' first
    | assumption | exact subset_of hF (by decide) | intro _ | apply keeps_ite | apply keeps_ite_fst
    | apply holeMake_sameBut | apply tileRetire_sameBut | apply linkCrossed_sameBut | apply log_sameBut
    | apply scmLinkFail_sameBut | apply podRetire_sameBut | apply subRetire_sameBut | apply seamRetire_sameBut
    | apply lanePairDrop_sameBut | dsimp only | split | refine keeps_fst ?_ (by assumption)

theorem reportTake_sameBut
    (hF : [Part.regs, .mem, .events, .mesh, .once, .objs, .fault, .delivery, .streams, .sent, .fw] ⊆ F)
    {s : State} (h0 : SameBut F s₀ s) :
    SameBut F s₀ (reportTake s) := by
  unfold reportTake
  with_reducible repeat' first
    | assumption | exact subset_of hF (by decide) | intro _ | apply fltShow_sameBut | apply onFault_sameBut
    | apply verdict_sameBut | apply put_sameBut | dsimp only | split | refine keeps_fst ?_ (by assumption)

theorem retrainDone_sameBut (hF : [Part.regs, .events, .mesh, .once, .fault, .sent] ⊆ F) {s : State} {r p ok}
    (h0 : SameBut F s₀ s) :
    SameBut F s₀ (retrainDone s r p ok) := by
  unfold retrainDone
  with_reducible repeat' first
    | assumption | exact subset_of hF (by decide) | intro _ | apply keeps_ite | apply reach_sameBut
    | apply log_sameBut | apply linkRaise_sameBut | apply onFault_sameBut | apply linkRetire_sameBut | dsimp only

theorem heartbeatLost_sameBut (hF : [Part.regs, .objs, .fault] ⊆ F) {s : State} {t} (h0 : SameBut F s₀ s) :
    SameBut F s₀ (heartbeatLost s t) := by
  unfold heartbeatLost
  with_reducible repeat' first
    | assumption | exact subset_of hF (by decide) | intro _ | apply fileReport_sameBut | apply put_sameBut

theorem engineTimeout_sameBut (hF : [Part.regs, .objs, .fault] ⊆ F) {s : State} {t engine} (h0 : SameBut F s₀ s)
    :
    SameBut F s₀ (engineTimeout s t engine) := by
  unfold engineTimeout
  with_reducible repeat' first
    | assumption | exact subset_of hF (by decide) | intro _ | apply fileReport_sameBut | apply put_sameBut

theorem fenceWrite_sameBut (hF : [Part.regs, .events] ⊆ F) {s : State} {w v} (h0 : SameBut F s₀ s) :
    SameBut F s₀ (fenceWrite s w v) := by
  unfold fenceWrite
  with_reducible repeat' first
    | assumption | exact subset_of hF (by decide) | intro _ | apply keeps_foldl | apply keeps_ite
    | apply keeps_foldl_fst | apply put_sameBut | apply log_sameBut | apply fence_sameBut | dsimp only

theorem execFaultReportTake_sameBut
    (hF : [Part.regs, .mem, .events, .mesh, .once, .objs, .fault, .delivery, .streams, .sent, .fw] ⊆ F)
    {s : State} (h0 : SameBut F s₀ s) :
    ResultSameBut F s₀ (execFaultReportTake s) := by
  unfold execFaultReportTake
  with_reducible repeat' first
    | assumption | exact subset_of hF (by decide) | apply done_sameBut | intro _ | apply reportTake_sameBut

theorem execLinkRetrainDone_sameBut (hF : [Part.regs, .events, .mesh, .once, .fault, .sent] ⊆ F)
    {router port ok} {s : State} (h3 : SameBut F s₀ s) :
    ResultSameBut F s₀ (execLinkRetrainDone router port ok s) := by
  unfold execLinkRetrainDone
  with_reducible repeat' first
    | assumption | exact subset_of hF (by decide) | apply done_sameBut | intro _ | apply retrainDone_sameBut

theorem execHeartbeatTimeout_sameBut (hF : [Part.regs, .objs, .fault] ⊆ F) {tile} {s : State}
    (h1 : SameBut F s₀ s) :
    ResultSameBut F s₀ (execHeartbeatTimeout tile s) := by
  unfold execHeartbeatTimeout
  with_reducible repeat' first
    | assumption | exact subset_of hF (by decide) | apply done_sameBut | intro _ | apply heartbeatLost_sameBut

theorem execEngineTimeout_sameBut (hF : [Part.regs, .objs, .fault] ⊆ F) {tile engine} {s : State}
    (h2 : SameBut F s₀ s) :
    ResultSameBut F s₀ (execEngineTimeout tile engine s) := by
  unfold execEngineTimeout
  with_reducible repeat' first
    | assumption | exact subset_of hF (by decide) | apply done_sameBut | intro _ | apply engineTimeout_sameBut

theorem execFirmwareFenceWrite_sameBut (hF : [Part.regs, .events] ⊆ F) {word value} {s : State}
    (h2 : SameBut F s₀ s) :
    ResultSameBut F s₀ (execFirmwareFenceWrite word value s) := by
  unfold execFirmwareFenceWrite
  with_reducible repeat' first
    | assumption | exact subset_of hF (by decide) | apply done_sameBut | intro _ | apply fenceWrite_sameBut

end Sys2Proof.Machine.State
end

section
set_option Elab.async false
/-! PROOFS. The footprints of the operations of `Sys2Proof/Machine/EventLog.lean`. -/

namespace Sys2Proof.Machine.State

set_option linter.unusedTactic false
set_option linter.unreachableTactic false

variable {F : List Part} {s₀ : State}

theorem emcyPump_sameBut (hF : [Part.regs, .events, .sent, .can, .emcy] ⊆ F)
    {s : State} {n : Nat} (h : SameBut F s₀ s) : SameBut F s₀ (emcyPump s n) := by
  induction n generalizing s with
  | zero => exact h
  | succ n ih =>
    unfold emcyPump
    with_reducible repeat' first
      | assumption | exact subset_of hF (by decide) | intro _ | apply ih | apply keeps_ite | apply canSend_sameBut
      | split | dsimp only | apply withEmcy_sameBut

theorem emcyPut_sameBut (hF : [Part.regs, .events, .sent, .can, .emcy] ⊆ F) {s : State} {code event p0}
    (h0 : SameBut F s₀ s) :
    SameBut F s₀ (emcyPut s code event p0) := by
  unfold emcyPut
  with_reducible repeat' first
    | assumption | exact subset_of hF (by decide) | intro _ | apply emcyPump_sameBut | dsimp only
    | apply withEmcy_sameBut

theorem historyPut_sameBut (hF : [Part.objs] ⊆ F) {s : State} {code event} (h0 : SameBut F s₀ s) :
    SameBut F s₀ (historyPut s code event) := by
  unfold historyPut
  with_reducible repeat' first
    | assumption | exact subset_of hF (by decide) | intro _ | apply keeps_foldl | apply keeps_foldl_fst
    | apply setObj_sameBut | dsimp only

theorem errorBit_sameBut (hF : [Part.objs, .emcy] ⊆ F) {s : State} {b} (h0 : SameBut F s₀ s) :
    SameBut F s₀ (errorBit s b) := by
  unfold errorBit
  with_reducible repeat' first
    | assumption | exact subset_of hF (by decide) | intro _ | apply setObj_sameBut | dsimp only
    | apply withEmcy_sameBut

theorem emcyEvent_sameBut (hF : [Part.regs, .events, .objs, .sent, .can, .emcy] ⊆ F) {s : State} {e}
    (h0 : SameBut F s₀ s) :
    SameBut F s₀ (emcyEvent s e) := by
  unfold emcyEvent
  with_reducible repeat' first
    | assumption | exact subset_of hF (by decide) | intro _ | apply keeps_ite | apply emcyPut_sameBut
    | apply historyPut_sameBut | apply errorBit_sameBut | dsimp only

theorem emcyLost_sameBut (hF : [Part.regs, .events, .objs, .sent, .can, .emcy] ⊆ F) {s : State}
    (h0 : SameBut F s₀ s) :
    SameBut F s₀ (emcyLost s) := by
  unfold emcyLost
  with_reducible repeat' first
    | assumption | exact subset_of hF (by decide) | intro _ | apply keeps_ite | apply emcyPut_sameBut
    | apply historyPut_sameBut | apply withEmcy_sameBut

theorem errorClear_sameBut (hF : [Part.regs, .events, .objs, .sent, .can, .emcy] ⊆ F) {s : State} {b}
    (h0 : SameBut F s₀ s) :
    SameBut F s₀ (errorClear s b) := by
  unfold errorClear
  with_reducible repeat' first
    | assumption | exact subset_of hF (by decide) | intro _ | apply keeps_ite | apply reach_sameBut
    | apply setObj_sameBut | apply emcyPump_sameBut | apply emcyPut_sameBut | dsimp only | apply withEmcy_sameBut

theorem ringWrite_sameBut (hF : [Part.regs, .mem, .events, .objs, .fault, .sent, .can, .emcy, .fw] ⊆ F)
    {s : State} {e} (h0 : SameBut F s₀ s) :
    SameBut F s₀ (ringWrite s e) := by
  unfold ringWrite
  with_reducible repeat' first
    | assumption | exact subset_of hF (by decide) | intro _ | apply keeps_ite | apply wrBytes_sameBut
    | apply put_sameBut | apply emcyLost_sameBut | apply count_sameBut | apply onFault_sameBut
    | apply emcyEvent_sameBut | apply msix_sameBut | dsimp only

theorem appendNext_sameBut (hF : [Part.regs, .mem, .events, .objs, .fault, .sent, .can, .emcy, .fw] ⊆ F)
    {s : State} (h0 : SameBut F s₀ s) :
    SameBut F s₀ (appendNext s) := by
  unfold appendNext
  with_reducible repeat' first
    | assumption | exact subset_of hF (by decide) | intro _ | apply ringWrite_sameBut | split
    | apply withEvents_sameBut

theorem firmwareAppend_sameBut (hF : [Part.regs, .events] ⊆ F) {s : State} (h0 : SameBut F s₀ s) :
    SameBut F s₀ (firmwareAppend s) := by
  unfold firmwareAppend
  with_reducible repeat' first
    | assumption | exact subset_of hF (by decide) | intro _ | apply keeps_ite | apply log_sameBut | apply put_sameBut
    | dsimp only

theorem execEventLogAppend_sameBut (hF : [Part.regs, .mem, .events, .objs, .fault, .sent, .can, .emcy, .fw] ⊆ F)
    {s : State} (h0 : SameBut F s₀ s) :
    ResultSameBut F s₀ (execEventLogAppend s) := by
  unfold execEventLogAppend
  with_reducible repeat' first
    | assumption | exact subset_of hF (by decide) | apply done_sameBut | intro _ | apply appendNext_sameBut

theorem execFirmwareLogAppend_sameBut (hF : [Part.regs, .events] ⊆ F) {s : State} (h0 : SameBut F s₀ s) :
    ResultSameBut F s₀ (execFirmwareLogAppend s) := by
  unfold execFirmwareLogAppend
  with_reducible repeat' first
    | assumption | exact subset_of hF (by decide) | apply done_sameBut | intro _ | apply firmwareAppend_sameBut

end Sys2Proof.Machine.State
end

section
set_option Elab.async false
/-! PROOFS. The footprints of the operations of `Sys2Proof/Machine/Check.lean`. -/

namespace Sys2Proof.Machine.State

set_option linter.unusedTactic false
set_option linter.unreachableTactic false

variable {F : List Part} {s₀ : State}

theorem chkPut_sameBut (hF : [Part.regs, .mem, .events, .fw] ⊆ F) {s : State} {a b} (h0 : SameBut F s₀ s) :
    SameBut F s₀ (chkPut s a b) := by
  unfold chkPut
  with_reducible repeat' first
    | assumption | exact subset_of hF (by decide) | intro _ | apply keeps_ite | apply writePlain_sameBut
    | apply wr8_sameBut

theorem chkIgnored_sameBut (hF : [Part.regs] ⊆ F) {s : State} {u} (h0 : SameBut F s₀ s) :
    SameBut F s₀ (chkIgnored s u) := by
  unfold chkIgnored
  with_reducible repeat' first | assumption | exact subset_of hF (by decide) | intro _ | apply put_sameBut

theorem chkStart_sameBut (hF : [Part.regs] ⊆ F) {s : State} {u owner} (h0 : SameBut F s₀ s) :
    SameBut F s₀ (chkStart s u owner) := by
  unfold chkStart
  with_reducible repeat' first
    | assumption | exact subset_of hF (by decide) | intro _ | apply keeps_ite | apply put_sameBut

theorem chkClaim_sameBut (hF : [Part.regs, .chkWait] ⊆ F) {s : State} (h0 : SameBut F s₀ s) :
    SameBut F s₀ (chkClaim s) := by
  unfold chkClaim
  with_reducible repeat' first
    | assumption | exact subset_of hF (by decide) | intro _ | apply keeps_ite | apply put_sameBut
    | apply withChkWait_sameBut

theorem chkEnd_sameBut (hF : [Part.regs, .sent, .chkWait] ⊆ F) {s : State} {u result hit miss}
    (h0 : SameBut F s₀ s) :
    SameBut F s₀ (chkEnd s u result hit miss) := by
  unfold chkEnd
  with_reducible repeat' first
    | assumption | exact subset_of hF (by decide) | intro _ | apply keeps_ite | apply put_sameBut
    | apply raise_sameBut | apply count_sameBut | apply chkClaim_sameBut | dsimp only

theorem chkCompare_sameBut (hF : [Part.regs, .sent, .chkWait] ⊆ F) {s : State} {u v} (h0 : SameBut F s₀ s) :
    SameBut F s₀ (chkCompare s u v) := by
  unfold chkCompare
  with_reducible repeat' first
    | assumption | exact subset_of hF (by decide) | intro _ | apply keeps_ite | apply put_sameBut
    | apply chkEnd_sameBut | dsimp only

theorem chkProtect_sameBut (hF : [Part.regs, .mem, .events, .sent, .fw, .chkWait] ⊆ F) {s : State} {u p msg}
    (h0 : SameBut F s₀ s) :
    SameBut F s₀ (chkProtect s u p msg) := by
  unfold chkProtect
  with_reducible repeat' first
    | assumption | exact subset_of hF (by decide) | intro _ | apply keeps_foldl | apply keeps_ite
    | apply keeps_foldl_fst | apply chkPut_sameBut | apply chkCompare_sameBut | apply put_sameBut | dsimp only

theorem chkCheck_sameBut (hF : [Part.regs, .sent, .chkWait] ⊆ F) {s : State} {u p msg} (h0 : SameBut F s₀ s) :
    SameBut F s₀ (chkCheck s u p msg) := by
  unfold chkCheck
  with_reducible repeat' first
    | assumption | exact subset_of hF (by decide) | intro _ | apply keeps_ite | apply keeps_getD | apply put_sameBut
    | apply chkEnd_sameBut | apply count_sameBut | dsimp only | split

theorem chkDone_sameBut (hF : [Part.regs, .mem, .events, .sent, .fw, .chkWait] ⊆ F) {s : State} {u}
    (h0 : SameBut F s₀ s) :
    SameBut F s₀ (chkDone s u) := by
  unfold chkDone
  with_reducible repeat' first
    | assumption | exact subset_of hF (by decide) | intro _ | apply keeps_ite | apply put_sameBut
    | apply chkEnd_sameBut | apply chkCompare_sameBut | apply chkProtect_sameBut | apply chkCheck_sameBut | dsimp only
    | split

theorem chkAbort_sameBut (hF : [Part.regs, .sent, .chkWait] ⊆ F) {s : State} {u owner} (h0 : SameBut F s₀ s) :
    SameBut F s₀ (chkAbort s u owner) := by
  unfold chkAbort
  with_reducible repeat' first
    | assumption | exact subset_of hF (by decide) | intro _ | apply keeps_ite | apply chkEnd_sameBut

theorem execChkStart_sameBut (hF : [Part.regs] ⊆ F) {unit owner} {s : State} (h2 : SameBut F s₀ s) :
    ResultSameBut F s₀ (execChkStart unit owner s) := by
  unfold execChkStart
  with_reducible repeat' first
    | assumption | exact subset_of hF (by decide) | apply done_sameBut | intro _ | apply chkStart_sameBut

theorem execChkAbort_sameBut (hF : [Part.regs, .sent, .chkWait] ⊆ F) {unit owner} {s : State}
    (h2 : SameBut F s₀ s) :
    ResultSameBut F s₀ (execChkAbort unit owner s) := by
  unfold execChkAbort
  with_reducible repeat' first
    | assumption | exact subset_of hF (by decide) | apply done_sameBut | intro _ | apply chkAbort_sameBut

theorem execChkJobDone_sameBut (hF : [Part.regs, .mem, .events, .sent, .fw, .chkWait] ⊆ F) {unit} {s : State}
    (h1 : SameBut F s₀ s) :
    ResultSameBut F s₀ (execChkJobDone unit s) := by
  unfold execChkJobDone
  with_reducible repeat' first
    | assumption | exact subset_of hF (by decide) | apply done_sameBut | intro _ | apply chkDone_sameBut

theorem execChkSecurityClaim_sameBut (hF : [Part.regs, .chkWait] ⊆ F) {s : State} (h0 : SameBut F s₀ s) :
    ResultSameBut F s₀ (execChkSecurityClaim s) := by
  unfold execChkSecurityClaim
  with_reducible repeat' first
    | assumption | exact subset_of hF (by decide) | apply done_sameBut | intro _ | apply keeps_ite
    | apply chkClaim_sameBut | apply withChkWait_sameBut

theorem execChkProfileReset_sameBut (hF : [Part.regs] ⊆ F) {unit prof} {s : State} (h2 : SameBut F s₀ s) :
    ResultSameBut F s₀ (execChkProfileReset unit prof s) := by
  unfold execChkProfileReset
  with_reducible repeat' first
    | assumption | exact subset_of hF (by decide) | apply done_sameBut | intro _ | apply keeps_ite
    | apply chkIgnored_sameBut | apply put_sameBut

end Sys2Proof.Machine.State
end

section
set_option Elab.async false
/-! PROOFS. The footprints of the operations of `Sys2Proof/Machine/Counts.lean`. -/

namespace Sys2Proof.Machine.State

set_option linter.unusedTactic false
set_option linter.unreachableTactic false

variable {F : List Part} {s₀ : State}

theorem gather_sameBut (hF : [Part.objs, .totals] ⊆ F) {s : State} (h0 : SameBut F s₀ s) :
    SameBut F s₀ (gather s) := by
  unfold gather
  with_reducible repeat' first
    | assumption | exact subset_of hF (by decide) | intro _ | apply keeps_foldl | apply keeps_ite
    | apply keeps_foldl_fst | apply keeps_foldl_snd | apply keeps_ite_snd | apply setObj_sameBut | dsimp only
    | apply withTotals_sameBut

theorem gatherRecords_sameBut (hF : [Part.objs, .records] ⊆ F) {s : State} {t} (h0 : SameBut F s₀ s) :
    SameBut F s₀ (gatherRecords s t) := by
  unfold gatherRecords
  with_reducible repeat' first
    | assumption | exact subset_of hF (by decide) | intro _ | apply keeps_foldl | apply keeps_ite | apply keeps_getD
    | apply keeps_foldl_fst | apply keeps_foldl_snd | apply keeps_ite_snd | apply setObj_sameBut | dsimp only | split
    | apply withRecords_sameBut

end Sys2Proof.Machine.State
end

section
set_option Elab.async false
/-! PROOFS. The footprints of the operations of `Sys2Proof/Machine/Power.lean`. -/

namespace Sys2Proof.Machine.State

set_option linter.unusedTactic false
set_option linter.unreachableTactic false

variable {F : List Part} {s₀ : State}

theorem onPower_sameBut (hF : [Part.power] ⊆ F) {s : State} {f} (h0 : SameBut F s₀ s) :
    SameBut F s₀ (onPower s f) := by
  unfold onPower
  with_reducible repeat' first | assumption | exact subset_of hF (by decide) | intro _ | apply withPower_sameBut

theorem deny_sameBut (hF : [Part.regs, .events, .objs] ⊆ F) {s : State} {reason index sub} (h0 : SameBut F s₀ s)
    :
    SameBut F s₀ (deny s reason index sub) := by
  unfold deny
  with_reducible repeat' first
    | assumption | exact subset_of hF (by decide) | intro _ | apply log_sameBut | apply refusal_sameBut

theorem pmbSend_sameBut (hF : [Part.power] ⊆ F) {s : State} {r} (h0 : SameBut F s₀ s) :
    SameBut F s₀ (pmbSend s r) := by
  unfold pmbSend
  with_reducible repeat' first | assumption | exact subset_of hF (by decide) | intro _ | apply onPower_sameBut | split

theorem pmbRaw_sameBut (hF : [Part.regs, .events, .power] ⊆ F) {s : State} {w} (h0 : SameBut F s₀ s) :
    SameBut F s₀ (pmbRaw s w) := by
  unfold pmbRaw
  with_reducible repeat' first
    | assumption | exact subset_of hF (by decide) | intro _ | apply keeps_ite | apply log_sameBut | apply put_sameBut
    | apply pmbSend_sameBut | dsimp only

theorem rampStart_sameBut (hF : [Part.regs, .power] ⊆ F) {s : State} {rail mv} (h0 : SameBut F s₀ s) :
    SameBut F s₀ (rampStart s rail mv) := by
  unfold rampStart
  with_reducible repeat' first
    | assumption | exact subset_of hF (by decide) | intro _ | apply put_sameBut | apply onPower_sameBut
    | apply pmbSend_sameBut | dsimp only

theorem rampDrop_sameBut (hF : [Part.regs, .power] ⊆ F) {s : State} {rail} (h0 : SameBut F s₀ s) :
    SameBut F s₀ (rampDrop s rail) := by
  unfold rampDrop
  with_reducible repeat' first
    | assumption | exact subset_of hF (by decide) | intro _ | apply onPower_sameBut | apply put_sameBut

theorem halfShow_sameBut (hF : [Part.regs] ⊆ F) {s : State} (h0 : SameBut F s₀ s) : SameBut F s₀ (halfShow s) := by
  unfold halfShow
  with_reducible repeat' first
    | assumption | exact subset_of hF (by decide) | intro _ | apply keeps_ite | apply put_sameBut | dsimp only

theorem halfEnd_sameBut (hF : [Part.regs, .events, .power] ⊆ F) {s : State} {c} (h0 : SameBut F s₀ s) :
    SameBut F s₀ (halfEnd s c) := by
  unfold halfEnd
  with_reducible repeat' first
    | assumption | exact subset_of hF (by decide) | intro _ | apply log_sameBut | apply halfShow_sameBut
    | apply onPower_sameBut

theorem halfFall_sameBut (hF : [Part.regs, .events, .power] ⊆ F) {s : State} {c} (h0 : SameBut F s₀ s) :
    SameBut F s₀ (halfFall s c) := by
  unfold halfFall
  with_reducible repeat' first
    | assumption | exact subset_of hF (by decide) | intro _ | apply keeps_foldl | apply keeps_ite
    | apply keeps_foldl_fst | apply onPower_sameBut | apply rampStart_sameBut | apply halfEnd_sameBut | dsimp only

theorem halfGate_sameBut (hF : [Part.regs, .events, .power] ⊆ F) {s : State} (h0 : SameBut F s₀ s) :
    SameBut F s₀ (halfGate s) := by
  unfold halfGate
  with_reducible repeat' first
    | assumption | exact subset_of hF (by decide) | intro _ | apply keeps_ite | apply halfFall_sameBut
    | apply onPower_sameBut | dsimp only | split

theorem halfWait_sameBut (hF : [Part.regs, .events, .power] ⊆ F) {s : State} {c} (h0 : SameBut F s₀ s) :
    SameBut F s₀ (halfWait s c) := by
  unfold halfWait
  with_reducible repeat' first
    | assumption | exact subset_of hF (by decide) | intro _ | apply keeps_ite | apply onPower_sameBut
    | apply halfGate_sameBut | dsimp only

theorem halfBegin_sameBut (hF : [Part.regs, .events, .power] ⊆ F) {s : State} {split} (h0 : SameBut F s₀ s) :
    SameBut F s₀ (halfBegin s split) := by
  unfold halfBegin
  with_reducible repeat' first
    | assumption | exact subset_of hF (by decide) | intro _ | apply keeps_foldl | apply keeps_ite
    | apply keeps_foldl_fst | apply halfShow_sameBut | apply onPower_sameBut | apply rampStart_sameBut
    | apply halfWait_sameBut | dsimp only

theorem rampDone_sameBut (hF : [Part.regs, .events, .power] ⊆ F) {s : State} {rail} (h0 : SameBut F s₀ s) :
    SameBut F s₀ (rampDone s rail) := by
  unfold rampDone
  with_reducible repeat' first
    | assumption | exact subset_of hF (by decide) | intro _ | apply keeps_ite | apply rampDrop_sameBut
    | apply halfWait_sameBut | apply halfEnd_sameBut | dsimp only | split

theorem rampFault_sameBut (hF : [Part.regs, .events, .power] ⊆ F) {s : State} {r} (h0 : SameBut F s₀ s) :
    SameBut F s₀ (rampFault s r) := by
  unfold rampFault
  with_reducible repeat' first
    | assumption | exact subset_of hF (by decide) | intro _ | apply keeps_ite | apply put_sameBut
    | apply rampDrop_sameBut | apply pmbSend_sameBut | apply log_sameBut | apply halfShow_sameBut
    | apply onPower_sameBut | dsimp only | split

theorem pllRelock_sameBut (hF : [Part.regs, .events, .power] ⊆ F) {s : State} {h1} (h0 : SameBut F s₀ s) :
    SameBut F s₀ (pllRelock s h1) := by
  unfold pllRelock
  with_reducible repeat' first
    | assumption | exact subset_of hF (by decide) | intro _ | apply keeps_ite | apply onPower_sameBut
    | apply halfFall_sameBut | dsimp only | split

theorem turnAway_sameBut (hF : [Part.regs, .events, .objs, .power] ⊆ F) {s : State} {direct reason index sub a}
    (h0 : SameBut F s₀ s) :
    SameBut F s₀ (turnAway s direct reason index sub a) := by
  unfold turnAway
  with_reducible repeat' first
    | assumption | exact subset_of hF (by decide) | intro _ | apply keeps_ite | apply deny_sameBut | apply log_sameBut
    | apply onPower_sameBut

theorem halfRequest_sameBut (hF : [Part.regs, .events, .objs, .power] ⊆ F) {s : State} {split direct}
    (h0 : SameBut F s₀ s) :
    SameBut F s₀ (halfRequest s split direct) := by
  unfold halfRequest
  with_reducible repeat' first
    | assumption | exact subset_of hF (by decide) | intro _ | apply keeps_ite | apply turnAway_sameBut
    | apply put_sameBut | apply halfBegin_sameBut | dsimp only

theorem clockWrite_sameBut (hF : [Part.regs, .events, .objs, .power] ⊆ F) {s : State} {h1 mhz direct}
    (h0 : SameBut F s₀ s) :
    SameBut F s₀ (clockWrite s h1 mhz direct) := by
  unfold clockWrite
  with_reducible repeat' first
    | assumption | exact subset_of hF (by decide) | intro _ | apply keeps_ite | apply turnAway_sameBut
    | apply put_sameBut | apply halfBegin_sameBut | dsimp only

theorem voutPoll_sameBut (hF : [Part.regs, .events, .power] ⊆ F) {s : State} {rail mv fault}
    (h0 : SameBut F s₀ s) :
    SameBut F s₀ (voutPoll s rail mv fault) := by
  unfold voutPoll
  with_reducible repeat' first
    | assumption | exact subset_of hF (by decide) | intro _ | apply keeps_ite | apply put_sameBut
    | apply rampDone_sameBut | dsimp only | split

theorem confirmTimeout_sameBut (hF : [Part.regs, .events, .power] ⊆ F) {s : State} {rail} (h0 : SameBut F s₀ s)
    :
    SameBut F s₀ (confirmTimeout s rail) := by
  unfold confirmTimeout
  with_reducible repeat' first
    | assumption | exact subset_of hF (by decide) | intro _ | apply keeps_getD | apply rampFault_sameBut
    | apply reach_sameBut | split

theorem fallNext_sameBut (hF : [Part.power] ⊆ F) {s : State} (h0 : SameBut F s₀ s) : SameBut F s₀ (fallNext s) := by
  unfold fallNext
  with_reducible repeat' first
    | assumption | exact subset_of hF (by decide) | intro _ | apply pmbSend_sameBut | apply onPower_sameBut | split

theorem selfRefresh_sameBut (hF : [Part.regs, .events, .memories] ⊆ F) {s : State} (h0 : SameBut F s₀ s) :
    SameBut F s₀ (selfRefresh s) := by
  unfold selfRefresh
  with_reducible repeat' first
    | assumption | exact subset_of hF (by decide) | intro _ | apply keeps_foldl | apply keeps_foldl_fst
    | apply pageCopied_sameBut | apply put_sameBut | dsimp only

theorem egressHold_sameBut (hF : [Part.regs, .mem, .events, .sent, .can, .guard, .fw, .power] ⊆ F) {s : State}
    (h0 : SameBut F s₀ s) :
    SameBut F s₀ (egressHold s) := by
  unfold egressHold
  with_reducible repeat' first
    | assumption | exact subset_of hF (by decide) | intro _ | apply guardScan_sameBut | apply onPower_sameBut

theorem stateFault_sameBut (hF : [Part.regs, .events, .power] ⊆ F) {s : State} (h0 : SameBut F s₀ s) :
    SameBut F s₀ (stateFault s) := by
  unfold stateFault
  with_reducible repeat' first
    | assumption | exact subset_of hF (by decide) | intro _ | apply put_sameBut | apply onPower_sameBut
    | apply log_sameBut | dsimp only | split

theorem pmbDone_sameBut (hF : [Part.regs, .events, .power] ⊆ F) {s : State} {ok data} (h0 : SameBut F s₀ s) :
    SameBut F s₀ (pmbDone s ok data) := by
  unfold pmbDone
  with_reducible repeat' first
    | assumption | exact subset_of hF (by decide) | intro _ | apply keeps_ite | apply onPower_sameBut
    | apply put_sameBut | apply rampFault_sameBut | apply stateFault_sameBut | dsimp only | split

theorem governor_sameBut (hF : [Part.regs, .events, .power] ⊆ F) {s : State} {power withheld}
    (h0 : SameBut F s₀ s) :
    SameBut F s₀ (governor s power withheld) := by
  unfold governor
  with_reducible repeat' first
    | assumption | exact subset_of hF (by decide) | intro _ | apply keeps_ite | apply reach_sameBut
    | apply onPower_sameBut | apply put_sameBut | apply log_sameBut | dsimp only

theorem governorCorrect_sameBut (hF : [Part.regs, .power] ⊆ F) {s : State} {reads} (h0 : SameBut F s₀ s) :
    SameBut F s₀ (governorCorrect s reads) := by
  unfold governorCorrect
  with_reducible repeat' first
    | assumption | exact subset_of hF (by decide) | intro _ | apply keeps_foldl | apply keeps_foldl_fst
    | apply keeps_foldl_snd | apply keeps_ite_snd | apply put_sameBut | apply onPower_sameBut | dsimp only

theorem withheldClose_sameBut (hF : [Part.regs, .power] ⊆ F) {s : State} (h0 : SameBut F s₀ s) :
    SameBut F s₀ (withheldClose s) := by
  unfold withheldClose
  with_reducible repeat' first
    | assumption | exact subset_of hF (by decide) | intro _ | apply onPower_sameBut | apply put_sameBut

theorem throttleShow_sameBut (hF : [Part.regs] ⊆ F) {s : State} (h0 : SameBut F s₀ s) :
    SameBut F s₀ (throttleShow s) := by
  unfold throttleShow
  with_reducible repeat' first
    | assumption | exact subset_of hF (by decide) | intro _ | apply keeps_ite | apply halfShow_sameBut
    | apply put_sameBut | dsimp only

theorem throttleSet_sameBut (hF : [Part.regs, .events, .power] ⊆ F) {s : State} {h1 k} (h0 : SameBut F s₀ s) :
    SameBut F s₀ (throttleSet s h1 k) := by
  unfold throttleSet
  with_reducible repeat' first
    | assumption | exact subset_of hF (by decide) | intro _ | apply keeps_ite | apply throttleShow_sameBut
    | apply onPower_sameBut | apply log_sameBut | dsimp only | split

theorem throttleStep_sameBut (hF : [Part.regs, .events, .power] ⊆ F) {s : State} {h1} (h0 : SameBut F s₀ s) :
    SameBut F s₀ (throttleStep s h1) := by
  unfold throttleStep
  with_reducible repeat' first
    | assumption | exact subset_of hF (by decide) | intro _ | apply keeps_ite | apply throttleSet_sameBut
    | apply reach_sameBut | dsimp only | split

theorem execCoreClockWrite_sameBut (hF : [Part.regs, .events, .objs, .power] ⊆ F) {half mhz direct} {s : State}
    (h3 : SameBut F s₀ s) :
    ResultSameBut F s₀ (execCoreClockWrite half mhz direct s) := by
  unfold execCoreClockWrite
  with_reducible repeat' first
    | assumption | exact subset_of hF (by decide) | apply done_sameBut | intro _ | apply clockWrite_sameBut

theorem execHalfClockRequest_sameBut (hF : [Part.regs, .events, .objs, .power] ⊆ F) {split direct} {s : State}
    (h2 : SameBut F s₀ s) :
    ResultSameBut F s₀ (execHalfClockRequest split direct s) := by
  unfold execHalfClockRequest
  with_reducible repeat' first
    | assumption | exact subset_of hF (by decide) | apply done_sameBut | intro _ | apply halfRequest_sameBut

theorem execRailVoutPoll_sameBut (hF : [Part.regs, .events, .power] ⊆ F) {rail mv fault} {s : State}
    (h3 : SameBut F s₀ s) :
    ResultSameBut F s₀ (execRailVoutPoll rail mv fault s) := by
  unfold execRailVoutPoll
  with_reducible repeat' first
    | assumption | exact subset_of hF (by decide) | apply done_sameBut | intro _ | apply voutPoll_sameBut

theorem execRailConfirmTimeout_sameBut (hF : [Part.regs, .events, .power] ⊆ F) {rail} {s : State}
    (h1 : SameBut F s₀ s) :
    ResultSameBut F s₀ (execRailConfirmTimeout rail s) := by
  unfold execRailConfirmTimeout
  with_reducible repeat' first
    | assumption | exact subset_of hF (by decide) | apply done_sameBut | intro _ | apply confirmTimeout_sameBut

theorem execPmbRawTransaction_sameBut (hF : [Part.regs, .events, .power] ⊆ F) {value} {s : State}
    (h1 : SameBut F s₀ s) :
    ResultSameBut F s₀ (execPmbRawTransaction value s) := by
  unfold execPmbRawTransaction
  with_reducible repeat' first
    | assumption | exact subset_of hF (by decide) | apply done_sameBut | intro _ | apply pmbRaw_sameBut

theorem execPmbTransactionDone_sameBut (hF : [Part.regs, .events, .power] ⊆ F) {ok data} {s : State}
    (h2 : SameBut F s₀ s) :
    ResultSameBut F s₀ (execPmbTransactionDone ok data s) := by
  unfold execPmbTransactionDone
  with_reducible repeat' first
    | assumption | exact subset_of hF (by decide) | apply done_sameBut | intro _ | apply pmbDone_sameBut

theorem execGovernorInterval_sameBut (hF : [Part.regs, .events, .power] ⊆ F) {power withheld} {s : State}
    (h2 : SameBut F s₀ s) :
    ResultSameBut F s₀ (execGovernorInterval power withheld s) := by
  unfold execGovernorInterval
  with_reducible repeat' first
    | assumption | exact subset_of hF (by decide) | apply done_sameBut | intro _ | apply governor_sameBut

theorem execGovernorCorrection_sameBut (hF : [Part.regs, .power] ⊆ F) {reads} {s : State} (h1 : SameBut F s₀ s)
    :
    ResultSameBut F s₀ (execGovernorCorrection reads s) := by
  unfold execGovernorCorrection
  with_reducible repeat' first
    | assumption | exact subset_of hF (by decide) | apply done_sameBut | intro _ | apply governorCorrect_sameBut

theorem execThrottleStep_sameBut (hF : [Part.regs, .events, .power] ⊆ F) {half} {s : State}
    (h1 : SameBut F s₀ s) :
    ResultSameBut F s₀ (execThrottleStep half s) := by
  unfold execThrottleStep
  with_reducible repeat' first
    | assumption | exact subset_of hF (by decide) | apply done_sameBut | intro _ | apply throttleStep_sameBut

end Sys2Proof.Machine.State
end

section
set_option Elab.async false
/-! PROOFS. The footprints of the operations of `Sys2Proof/Machine/Objects.lean`. -/

namespace Sys2Proof.Machine.State

set_option linter.unusedTactic false
set_option linter.unreachableTactic false

variable {F : List Part} {s₀ : State}

theorem cdPut_sameBut (hF : [Part.regs] ⊆ F) {s : State} {q d lo len v} (h0 : SameBut F s₀ s) :
    SameBut F s₀ (cdPut s q d lo len v) := by
  unfold cdPut
  with_reducible repeat' first | assumption | exact subset_of hF (by decide) | intro _ | apply put_sameBut

theorem reschedule_sameBut (hF : [Part.regs] ⊆ F) {s : State} {q d period phase} (h0 : SameBut F s₀ s) :
    SameBut F s₀ (reschedule s q d period phase) := by
  unfold reschedule
  with_reducible repeat' first
    | assumption | exact subset_of hF (by decide) | intro _ | apply put_sameBut | apply cdPut_sameBut | dsimp only

theorem rescheduleCkpt_sameBut (hF : [Part.regs] ⊆ F) {s : State} {k} (h0 : SameBut F s₀ s) :
    SameBut F s₀ (rescheduleCkpt s k) := by
  unfold rescheduleCkpt
  with_reducible repeat' first
    | assumption | exact subset_of hF (by decide) | intro _ | apply keeps_foldl | apply keeps_foldl_fst
    | apply keeps_foldl_snd | apply keeps_ite_snd | apply reschedule_sameBut

theorem rescheduleObs_sameBut (hF : [Part.regs] ⊆ F) {s : State} {k} (h0 : SameBut F s₀ s) :
    SameBut F s₀ (rescheduleObs s k) := by
  unfold rescheduleObs
  with_reducible repeat' first
    | assumption | exact subset_of hF (by decide) | intro _ | apply keeps_foldl | apply keeps_foldl_fst
    | apply keeps_foldl_snd | apply keeps_ite_snd | apply cdPut_sameBut | apply reschedule_sameBut

theorem rescheduleWb_sameBut (hF : [Part.regs] ⊆ F) {s : State} {proj v} (h0 : SameBut F s₀ s) :
    SameBut F s₀ (rescheduleWb s proj v) := by
  unfold rescheduleWb
  with_reducible repeat' first
    | assumption | exact subset_of hF (by decide) | intro _ | apply keeps_foldl | apply keeps_foldl_fst
    | apply keeps_foldl_snd | apply keeps_ite_snd | apply reschedule_sameBut

theorem objStore_sameBut (hF : [Part.regs, .objs] ⊆ F) {s : State} {index sub item v} (h0 : SameBut F s₀ s) :
    SameBut F s₀ (objStore s index sub item v) := by
  unfold objStore
  with_reducible repeat' first
    | assumption | exact subset_of hF (by decide) | intro _ | apply keeps_foldl | apply keeps_foldl_fst
    | apply put64_sameBut | apply setObj_sameBut | apply put_sameBut | split

theorem objApply_sameBut (hF : [Part.regs, .events, .objs, .streams, .hub] ⊆ F) {s : State} {index sub item v}
    (h0 : SameBut F s₀ s) :
    SameBut F s₀ (objApply s index sub item v) := by
  unfold objApply
  with_reducible repeat' first
    | assumption | exact subset_of hF (by decide) | intro _ | apply keeps_foldl | apply keeps_ite
    | apply keeps_foldl_fst | apply keeps_foldl_snd | apply keeps_ite_snd | apply setObj_sameBut
    | apply onStreams_sameBut | apply rescheduleCkpt_sameBut | apply rescheduleObs_sameBut | apply put_sameBut
    | apply rescheduleWb_sameBut | apply podViolation_sameBut | apply objStore_sameBut | apply ctxEnable_sameBut
    | apply ctxDisable_sameBut | dsimp only | split

theorem withStaged_sameBut (hF : [Part.regs, .events, .objs, .streams, .hub] ⊆ F) {s : State} {l}
    (h0 : SameBut F s₀ s) :
    SameBut F s₀ (withStaged s l) := by
  unfold withStaged
  with_reducible repeat' first
    | assumption | exact subset_of hF (by decide) | intro _ | apply keeps_foldl | apply keeps_foldl_fst
    | apply objApply_sameBut

theorem keepWrite_sameBut (hF : [Part.images, .unsaved] ⊆ F) {s : State} {index sub item v}
    (h0 : SameBut F s₀ s) :
    SameBut F s₀ (keepWrite s index sub item v) := by
  unfold keepWrite
  with_reducible repeat' first
    | assumption | exact subset_of hF (by decide) | intro _ | apply keeps_ite | dsimp only | apply withImages_sameBut
    | apply withUnsaved_sameBut

theorem stageClear_sameBut (hF : [Part.objs, .staging] ⊆ F) {s : State} (h0 : SameBut F s₀ s) :
    SameBut F s₀ (stageClear s) := by
  unfold stageClear
  with_reducible repeat' first
    | assumption | exact subset_of hF (by decide) | intro _ | apply setObj_sameBut | apply withStaging_sameBut

theorem commit_sameBut (hF : [Part.regs, .events, .objs, .streams, .hub, .images, .staging, .unsaved] ⊆ F)
    {s : State} (h0 : SameBut F s₀ s) :
    SameBut F s₀ (commit s).1 := by
  unfold commit
  with_reducible repeat' first
    | assumption | exact subset_of hF (by decide) | intro _ | apply keeps_foldl | apply keeps_ite
    | apply keeps_ite_fst | apply keeps_foldl_fst | apply withStaged_sameBut | apply stageClear_sameBut
    | apply setObj_sameBut | apply keepWrite_sameBut | apply objApply_sameBut | dsimp only | split
    | apply withStaging_sameBut

theorem stagedLaunch_sameBut (hF : [Part.regs, .events, .objs, .streams, .hub, .images, .staging, .unsaved] ⊆ F)
    {s : State} {t} (h0 : SameBut F s₀ s) :
    SameBut F s₀ (stagedLaunch s t) := by
  unfold stagedLaunch
  with_reducible repeat' first
    | assumption | exact subset_of hF (by decide) | intro _ | apply keeps_foldl | apply keeps_foldl_fst
    | apply keepWrite_sameBut | apply objApply_sameBut | dsimp only | apply withStaging_sameBut

theorem commitRun_sameBut (hF : [Part.regs, .events, .objs, .streams, .hub, .images, .staging, .unsaved] ⊆ F)
    {s : State} (h0 : SameBut F s₀ s) :
    SameBut F s₀ (commitRun s) := by
  unfold commitRun
  with_reducible repeat' first
    | assumption | exact subset_of hF (by decide) | intro _ | apply commit_sameBut | apply deny_sameBut | split
    | refine keeps_fst ?_ (by assumption)

theorem execCommitStaged_sameBut
    (hF : [Part.regs, .events, .objs, .streams, .hub, .images, .staging, .unsaved] ⊆ F) {s : State}
    (h0 : SameBut F s₀ s) :
    ResultSameBut F s₀ (execCommitStaged s) := by
  unfold execCommitStaged
  with_reducible repeat' first
    | assumption | exact subset_of hF (by decide) | apply done_sameBut | intro _ | apply commitRun_sameBut

theorem execDiscardStaged_sameBut (hF : [Part.objs, .staging] ⊆ F) {s : State} (h0 : SameBut F s₀ s) :
    ResultSameBut F s₀ (execDiscardStaged s) := by
  unfold execDiscardStaged
  with_reducible repeat' first
    | assumption | exact subset_of hF (by decide) | apply done_sameBut | intro _ | apply stageClear_sameBut

end Sys2Proof.Machine.State
end

section
set_option Elab.async false
/-! PROOFS. The footprints of the operations of `Sys2Proof/Machine/Remap.lean`. -/

namespace Sys2Proof.Machine.State

set_option linter.unusedTactic false
set_option linter.unreachableTactic false

variable {F : List Part} {s₀ : State}

theorem mcSet_sameBut (hF : [Part.mesh] ⊆ F) {s : State} {r g pri sec d} (h0 : SameBut F s₀ s) :
    SameBut F s₀ (mcSet s r g pri sec d) := by
  unfold mcSet
  with_reducible repeat' first
    | assumption | exact subset_of hF (by decide) | intro _ | apply keeps_ite | apply onMesh_sameBut

theorem mcPort_sameBut (hF : [Part.mesh] ⊆ F) {s : State} {r g p on} (h0 : SameBut F s₀ s) :
    SameBut F s₀ (mcPort s r g p on) := by
  unfold mcPort
  with_reducible repeat' first
    | assumption | exact subset_of hF (by decide) | intro _ | apply keeps_ite | apply mcSet_sameBut | dsimp only
    | split

theorem mcRecount_sameBut (hF : [Part.mesh] ⊆ F) {s : State} {g root} (h0 : SameBut F s₀ s) :
    SameBut F s₀ (mcRecount s g root) := by
  unfold mcRecount
  with_reducible repeat' first
    | assumption | exact subset_of hF (by decide) | intro _ | apply keeps_foldl | apply keeps_foldl_fst
    | apply mcSet_sameBut

theorem graftVia_sameBut (hF : [Part.mesh] ⊆ F) {s : State} {g root leaf xFirst} (h0 : SameBut F s₀ s) :
    ∀ t, graftVia s g root leaf xFirst = some t → SameBut F s₀ t := by
  unfold graftVia
  with_reducible repeat' first
    | assumption | exact subset_of hF (by decide) | exact keeps_none | refine keeps_some ?_ | refine keeps_map ?_ ?_
    | intro (_ : State) (_ : SameBut F s₀ _) _ | apply keeps_foldl | apply keeps_ite | apply keeps_foldl_fst
    | apply mcPort_sameBut | dsimp only | split | intro (_ : State) (_ : SameBut F s₀ _)

theorem graft_sameBut (hF : [Part.mesh] ⊆ F) {s : State} {g root leaf} (h0 : SameBut F s₀ s) :
    ∀ t, graft s g root leaf = some t → SameBut F s₀ t := by
  unfold graft
  with_reducible repeat' first
    | assumption | exact subset_of hF (by decide) | exact keeps_none | refine keeps_some ?_
    | refine graftVia_sameBut (subset_of hF (by decide)) ?_ | refine keeps_or ?_ ?_
    | intro (_ : State) (_ : SameBut F s₀ _) _ | intro (_ : State) (_ : SameBut F s₀ _) | split
    | refine graftVia_sameBut (subset_of hF (by decide)) ?_ _ (by assumption)

theorem mcPrune_sameBut (hF : [Part.mesh] ⊆ F) {s : State} {g fuel r : Nat} (h : SameBut F s₀ s) :
    SameBut F s₀ (mcPrune s g fuel r) := by
  induction fuel generalizing s r with
  | zero => exact h
  | succ n ih =>
    unfold mcPrune
    split
    · exact h
    · split
      · exact ih (mcPort_sameBut hF h)
      · exact h

theorem leafMove_sameBut (hF : [Part.mesh] ⊆ F) {s : State} {g r} (h0 : SameBut F s₀ s) :
    ∀ t, leafMove s g r = some t → SameBut F s₀ t := by
  unfold leafMove
  with_reducible repeat' first
    | assumption | exact subset_of hF (by decide) | exact keeps_none | refine keeps_some ?_
    | refine graft_sameBut (subset_of hF (by decide)) ?_ | refine keeps_map ?_ ?_
    | intro (_ : State) (_ : SameBut F s₀ _) _ | apply keeps_ite | apply mcPrune_sameBut | apply mcPort_sameBut
    | apply mcRecount_sameBut | dsimp only | split | intro (_ : State) (_ : SameBut F s₀ _)
    | refine graft_sameBut (subset_of hF (by decide)) ?_ _ (by assumption)

theorem branchRebuild_sameBut (hF : [Part.mesh] ⊆ F) {s : State} {g r} (h : SameBut F s₀ s) :
    ∀ t, branchRebuild s g r = some t → SameBut F s₀ t := by
  unfold branchRebuild
  refine keeps_map (keeps_foldl_opt _ (keeps_some ?_) fun o ho a => ?_) fun x hx => mcRecount_sameBut (subset_of hF (by decide)) hx
  · exact keeps_foldl _ (keeps_foldl _ h fun _ hx _ => mcPort_sameBut (subset_of hF (by decide)) hx)
      fun _ hx _ => mcSet_sameBut (subset_of hF (by decide)) hx
  · exact keeps_bind ho fun x hx => graft_sameBut (subset_of hF (by decide)) hx

theorem treesRebuild_sameBut (hF : [Part.mesh, .fault] ⊆ F)
    {s : State} (h : SameBut F s₀ s) : SameBut F s₀ (treesRebuild s) := by
  unfold treesRebuild
  split
  · exact h
  · exact onFault_sameBut (subset_of hF (by decide)) (keeps_foldl _ h fun x hx k =>
      keeps_ite (keeps_getD (branchRebuild_sameBut (subset_of hF (by decide)) hx) hx) hx)

theorem reRootVia_sameBut (hF : [Part.mesh] ⊆ F) {s : State} {g old new xFirst} (h0 : SameBut F s₀ s) :
    ∀ t, reRootVia s g old new xFirst = some t → SameBut F s₀ t := by
  unfold reRootVia
  with_reducible repeat' first
    | assumption | exact subset_of hF (by decide) | exact keeps_none | refine keeps_some ?_
    | intro (_ : State) (_ : SameBut F s₀ _) _ | apply keeps_foldl | apply keeps_ite | apply keeps_foldl_fst
    | apply mcRecount_sameBut | apply mcPort_sameBut | dsimp only | split | intro (_ : State) (_ : SameBut F s₀ _)

theorem reRoot_sameBut (hF : [Part.mesh] ⊆ F) {s : State} {g old new} (h0 : SameBut F s₀ s) :
    ∀ t, reRoot s g old new = some t → SameBut F s₀ t := by
  unfold reRoot
  with_reducible repeat' first
    | assumption | exact subset_of hF (by decide) | exact keeps_none | refine keeps_some ?_
    | refine reRootVia_sameBut (subset_of hF (by decide)) ?_ | refine keeps_or ?_ ?_
    | intro (_ : State) (_ : SameBut F s₀ _) _ | intro (_ : State) (_ : SameBut F s₀ _) | split
    | refine reRootVia_sameBut (subset_of hF (by decide)) ?_ _ (by assumption)

theorem remapFail_sameBut (hF : [Part.regs, .events, .fault, .progress] ⊆ F) {s : State} {ltile tile}
    (h0 : SameBut F s₀ s) :
    SameBut F s₀ (remapFail s ltile tile) := by
  unfold remapFail
  with_reducible repeat' first
    | assumption | exact subset_of hF (by decide) | intro _ | apply put_sameBut | apply log_sameBut
    | apply progEnd_sameBut | apply onFault_sameBut | dsimp only

theorem restoreArm_sameBut (hF : [Part.regs] ⊆ F) {s : State} {ltile spare area} (h0 : SameBut F s₀ s) :
    SameBut F s₀ (restoreArm s ltile spare area) := by
  unfold restoreArm
  with_reducible repeat' first
    | assumption | exact subset_of hF (by decide) | intro _ | apply keeps_foldl | apply keeps_ite
    | apply keeps_foldl_fst | apply keeps_foldl_snd | apply keeps_ite_snd | apply put_sameBut | dsimp only

theorem restoreIdle_sameBut (hF : [Part.regs, .streams] ⊆ F) {s : State} {spare} (h0 : SameBut F s₀ s) :
    SameBut F s₀ (restoreIdle s spare) := by
  unfold restoreIdle
  with_reducible repeat' first
    | assumption | exact subset_of hF (by decide) | intro _ | apply keeps_foldl | apply keeps_foldl_fst
    | apply keeps_foldl_snd | apply keeps_ite_snd | apply put_sameBut | apply copyEnd_sameBut

theorem remapArm_sameBut (hF : [Part.regs, .events, .fault, .progress] ⊆ F) {s : State} {ltile tile began fail}
    (h0 : SameBut F s₀ s) :
    SameBut F s₀ (remapArm s ltile tile began fail) := by
  unfold remapArm
  with_reducible repeat' first
    | assumption | exact subset_of hF (by decide) | intro _ | apply keeps_ite | apply put_sameBut
    | apply restoreArm_sameBut | apply progStart_sameBut | apply onFault_sameBut | apply remapFail_sameBut
    | apply log_sameBut | dsimp only | split

theorem remapStart_sameBut (hF : [Part.regs, .events, .fault, .progress] ⊆ F) {s : State} {ltile}
    (h0 : SameBut F s₀ s) :
    SameBut F s₀ (remapStart s ltile) := by
  unfold remapStart
  with_reducible repeat' first
    | assumption | exact subset_of hF (by decide) | intro _ | apply keeps_ite | apply put_sameBut
    | apply onFault_sameBut | apply remapArm_sameBut | apply fence_sameBut | apply log_sameBut | dsimp only | split

theorem restore_sameBut (hF : [Part.regs, .mem, .events, .fw] ⊆ F) {s : State} {m} (h0 : SameBut F s₀ s) :
    SameBut F s₀ (restore s m) := by
  unfold restore
  with_reducible repeat' first
    | assumption | exact subset_of hF (by decide) | intro _ | apply keeps_foldl | apply keeps_getD
    | apply keeps_foldl_fst | apply keeps_foldl_snd | apply keeps_ite_snd | apply wrBytes_sameBut
    | apply setReg_sameBut | dsimp only | split

theorem restoreDone_sameBut (hF : [Part.regs, .mem, .events, .fault, .streams, .progress, .fw] ⊆ F) {s : State}
    (h0 : SameBut F s₀ s) :
    SameBut F s₀ (restoreDone s) := by
  unfold restoreDone
  with_reducible repeat' first
    | assumption | exact subset_of hF (by decide) | intro _ | apply keeps_ite | apply restoreIdle_sameBut
    | apply remapArm_sameBut | apply onFault_sameBut | apply progEnd_sameBut | apply put_sameBut
    | apply restore_sameBut | dsimp only | split

theorem lttPut_sameBut (hF : [Part.regs] ⊆ F) {s : State} {base c v} (h0 : SameBut F s₀ s) :
    SameBut F s₀ (lttPut s base c v) := by
  unfold lttPut
  with_reducible repeat' first | assumption | exact subset_of hF (by decide) | intro _ | apply put_sameBut

theorem idMove_sameBut (hF : [Part.regs] ⊆ F) {s : State} {m} (h0 : SameBut F s₀ s) : SameBut F s₀ (idMove s m) := by
  unfold idMove
  with_reducible repeat' first
    | assumption | exact subset_of hF (by decide) | intro _ | apply keeps_foldl | apply keeps_foldl_fst
    | apply lttPut_sameBut | dsimp only

theorem entriesDrop_sameBut (hF : [Part.regs, .mem, .events, .fw] ⊆ F) {s : State} {p n pick}
    (h0 : SameBut F s₀ s) :
    SameBut F s₀ (entriesDrop s p n pick) := by
  unfold entriesDrop
  with_reducible repeat' first
    | assumption | exact subset_of hF (by decide) | intro _ | apply keeps_foldl | apply keeps_ite
    | apply keeps_foldl_fst | apply wrLe_sameBut | apply wr8_sameBut | dsimp only | split

theorem cloneWrite_sameBut (hF : [Part.regs, .mem, .events, .fw] ⊆ F) {s : State} {m orig i slot}
    (h0 : SameBut F s₀ s) :
    SameBut F s₀ (cloneWrite s m orig i slot) := by
  unfold cloneWrite
  with_reducible repeat' first
    | assumption | exact subset_of hF (by decide) | intro _ | apply entriesDrop_sameBut | apply wrBytes_sameBut
    | apply wrLe_sameBut | apply put_sameBut | dsimp only | split

theorem treesMove_sameBut (hF : [Part.mesh, .fault] ⊆ F) {s : State} {m ranges} (h : SameBut F s₀ s) :
    ∀ t, treesMove s m ranges = some t → SameBut F s₀ t := by
  unfold treesMove
  refine keeps_map (keeps_foldl_opt _ (keeps_foldl_opt _ (keeps_foldl_opt _ (keeps_some h) ?_) ?_) ?_)
    fun x hx => treesRebuild_sameBut hF hx
  · exact fun o ho g => keeps_bind ho fun x hx => leafMove_sameBut (subset_of hF (by decide)) hx
  · exact fun o ho g => keeps_bind ho fun x hx => keeps_map (graft_sameBut (subset_of hF (by decide)) hx)
      fun y hy => mcRecount_sameBut (subset_of hF (by decide)) hy
  · refine fun o ho g => keeps_bind ho fun x hx => ?_
    split
    · exact keeps_some hx
    · exact reRoot_sameBut (subset_of hF (by decide)) hx

theorem accZero_sameBut (hF : [Part.regs, .mem, .events, .fw] ⊆ F) {s : State} {t} (h0 : SameBut F s₀ s) :
    SameBut F s₀ (accZero s t) := by
  unfold accZero
  with_reducible repeat' first
    | assumption | exact subset_of hF (by decide) | intro _ | apply keeps_foldl | apply keeps_ite
    | apply keeps_foldl_fst | apply wrBytes_sameBut | dsimp only

theorem queuesMove_sameBut (hF : [Part.regs, .mesh, .clearing, .creditDue, .oooSeen, .sent] ⊆ F) {s : State} {t}
    (h0 : SameBut F s₀ s) :
    SameBut F s₀ (queuesMove s t) := by
  unfold queuesMove
  with_reducible repeat' first
    | assumption | exact subset_of hF (by decide) | intro _ | apply keeps_foldl | apply keeps_ite
    | apply keeps_foldl_fst | apply qput_sameBut | apply openTx_sameBut | apply resetRx_sameBut | dsimp only

theorem switchOver_sameBut
    (hF : [Part.regs, .mem, .events, .mesh, .fault, .clearing, .creditDue, .oooSeen, .sent, .fw] ⊆ F)
    {s : State} {m} (h0 : SameBut F s₀ s) :
    ∀ t, switchOver s m = some t → SameBut F s₀ t := by
  unfold switchOver
  with_reducible repeat' first
    | assumption | exact subset_of hF (by decide) | exact keeps_none | refine keeps_some ?_
    | refine treesMove_sameBut (subset_of hF (by decide)) ?_ | refine keeps_map ?_ ?_
    | intro (_ : State) (_ : SameBut F s₀ _) _ | apply keeps_foldl | apply keeps_foldl_fst | apply keeps_foldl_snd
    | apply keeps_ite_snd | apply entriesDrop_sameBut | apply idMove_sameBut | apply cloneWrite_sameBut
    | apply queuesMove_sameBut | apply accZero_sameBut | apply onFault_sameBut | dsimp only
    | intro (_ : State) (_ : SameBut F s₀ _) | split
    | refine treesMove_sameBut (subset_of hF (by decide)) ?_ _ (by assumption)

theorem execRemapStart_sameBut (hF : [Part.regs, .events, .fault, .progress] ⊆ F) {ltile} {s : State}
    (h1 : SameBut F s₀ s) :
    ResultSameBut F s₀ (execRemapStart ltile s) := by
  unfold execRemapStart
  with_reducible repeat' first
    | assumption | exact subset_of hF (by decide) | apply done_sameBut | intro _ | apply remapStart_sameBut

theorem execRemapRestoreDone_sameBut (hF : [Part.regs, .mem, .events, .fault, .streams, .progress, .fw] ⊆ F)
    {s : State} (h0 : SameBut F s₀ s) :
    ResultSameBut F s₀ (execRemapRestoreDone s) := by
  unfold execRemapRestoreDone
  with_reducible repeat' first
    | assumption | exact subset_of hF (by decide) | apply done_sameBut | intro _ | apply restoreDone_sameBut

end Sys2Proof.Machine.State
end

section
set_option Elab.async false
/-! PROOFS. The footprints of the operations of `Sys2Proof/Machine/Scan.lean`. -/

namespace Sys2Proof.Machine.State

set_option linter.unusedTactic false
set_option linter.unreachableTactic false

variable {F : List Part} {s₀ : State}

theorem scanNeuron_sameBut (hF : [Part.regs, .mem, .events, .fw] ⊆ F) {t x1 bad j slot} {a : Scan} {k}
    (h5 : SameBut F s₀ a.st) :
    SameBut F s₀ (scanNeuron t x1 bad j slot a k).st := by
  unfold scanNeuron
  with_reducible repeat' first
    | assumption | exact subset_of hF (by decide) | intro _ | apply keeps_ite | apply wrLe_sameBut | dsimp only
    | split

theorem emit_sameBut (hF : [Part.regs, .mesh] ⊆ F) {s : State} {t records} (h0 : SameBut F s₀ s) :
    SameBut F s₀ (emit s t records) := by
  unfold emit
  with_reducible repeat' first
    | assumption | exact subset_of hF (by decide) | intro _ | apply onMesh_sameBut | apply raiseTo_sameBut
    | dsimp only

theorem tap.one_sameBut (hF : [Part.regs, .mesh, .sent] ⊆ F) {s : State} {t addr rs} (h : SameBut F s₀ s) :
    SameBut F s₀ (tap.one t addr s rs) := by
  unfold tap.one
  with_reducible repeat' first
    | assumption | exact subset_of hF (by decide) | intro _ | apply raise_sameBut | apply count_sameBut
    | apply engineSend_sameBut | split | dsimp only

theorem tap_sameBut (hF : [Part.regs, .mesh, .sent] ⊆ F)
    {s : State} {t addr : Nat} {l : List Nat} (h : SameBut F s₀ s) :
    SameBut F s₀ (tap s t addr l) := by
  fun_induction tap s t addr l with
  | case1 => exact h
  | case2 => exact tap.one_sameBut hF h
  | case3 s r q rest ih => exact ih (tap.one_sameBut hF h)

theorem modAdd_sameBut (hF : [Part.delivery] ⊆ F) {s : State} {t n records} (h0 : SameBut F s₀ s) :
    SameBut F s₀ (modAdd s t n records) := by
  unfold modAdd
  with_reducible repeat' first
    | assumption | exact subset_of hF (by decide) | intro _ | apply keeps_foldl | apply keeps_ite
    | apply keeps_foldl_fst | apply onDelivery_sameBut | dsimp only

theorem traceSpikes_sameBut (hF : [Part.regs, .mesh] ⊆ F)
    {s : State} {t n fuel : Nat} {l : List Nat} (h : SameBut F s₀ s) :
    SameBut F s₀ (traceSpikes s t n fuel l) := by
  induction fuel generalizing s l with
  | zero => exact h
  | succ k ih =>
    cases l with
    | nil => exact h
    | cons r rs => exact ih (trace_sameBut hF h)

theorem traceMembrane_sameBut (hF : [Part.regs, .mesh] ⊆ F) {s : State} {t n x3} (h0 : SameBut F s₀ s) :
    SameBut F s₀ (traceMembrane s t n x3) := by
  unfold traceMembrane
  with_reducible repeat' first
    | assumption | exact subset_of hF (by decide) | intro _ | apply keeps_foldl | apply keeps_ite
    | apply keeps_foldl_fst | apply trace_sameBut | dsimp only | split

theorem scanPass_sameBut (hF : [Part.regs, .mem, .events, .mesh, .delivery, .sent, .fw] ⊆ F) {s : State}
    {t n x3 bad j slot} (h0 : SameBut F s₀ s) :
    SameBut F s₀ (scanPass s t n x3 bad j slot).1 := by
  unfold scanPass
  with_reducible repeat' first
    | assumption | exact subset_of hF (by decide) | intro _ | apply keeps_foldl | apply keeps_ite
    | apply keeps_ite_fst | apply keeps_foldl_fst | apply scanNeuron_sameBut | apply emit_sameBut | apply tap_sameBut
    | apply modAdd_sameBut | apply traceSpikes_sameBut | apply keeps_foldl_scan | dsimp only | split

theorem scanContext_sameBut (hF : [Part.regs, .mem, .events, .mesh, .delivery, .sent, .fw] ⊆ F) {s : State}
    {t n x3 bad z} (h0 : SameBut F s₀ s) :
    SameBut F s₀ (scanContext s t n x3 bad z).1 := by
  unfold scanContext
  with_reducible repeat' first
    | assumption | exact subset_of hF (by decide) | intro _ | apply keeps_foldl | apply keeps_ite
    | apply keeps_ite_fst | apply keeps_foldl_fst | apply scanPass_sameBut | apply put_sameBut | apply count_sameBut
    | apply onDelivery_sameBut | apply traceMembrane_sameBut | dsimp only | split
    | refine keeps_fst ?_ (by assumption)

theorem scanTile_sameBut
    (hF : [Part.regs, .mem, .events, .mesh, .once, .objs, .fault, .delivery, .sent, .fw] ⊆ F) {s : State}
    {t ecc} (h0 : SameBut F s₀ s) :
    SameBut F s₀ (scanTile s t ecc) := by
  unfold scanTile
  with_reducible repeat' first
    | assumption | exact subset_of hF (by decide) | intro _ | apply keeps_foldl | apply keeps_foldl_fst
    | apply keeps_foldl_snd | apply keeps_ite_snd | apply tileHit_sameBut | apply scanContext_sameBut
    | apply countOp_sameBut | apply add64_sameBut | apply put_sameBut | dsimp only | split
    | refine keeps_fst ?_ (by assumption)

theorem remapResume_sameBut (hF : [Part.regs, .events, .objs, .fault] ⊆ F) {s : State} {t} (h0 : SameBut F s₀ s)
    :
    SameBut F s₀ (remapResume s t) := by
  unfold remapResume
  with_reducible repeat' first
    | assumption | exact subset_of hF (by decide) | intro _ | apply keeps_ite | apply put_sameBut | apply log_sameBut
    | apply countObj_sameBut | apply setObj_sameBut | dsimp only | split | apply withFault_sameBut

theorem neuronScan_sameBut
    (hF : [Part.regs, .mem, .events, .mesh, .once, .objs, .fault, .delivery, .sent, .fw] ⊆ F) {s : State}
    {t ecc} (h0 : SameBut F s₀ s) :
    SameBut F s₀ (neuronScan s t ecc) := by
  unfold neuronScan
  with_reducible repeat' first
    | assumption | exact subset_of hF (by decide) | intro _ | apply keeps_ite | apply drainDead_sameBut
    | apply raise_sameBut | apply scanTile_sameBut | apply onDelivery_sameBut | apply remapResume_sameBut | dsimp only
    | split

theorem execNeuronScan_sameBut
    (hF : [Part.regs, .mem, .events, .mesh, .once, .objs, .fault, .delivery, .sent, .fw] ⊆ F) {tile ecc}
    {s : State} (h2 : SameBut F s₀ s) :
    ResultSameBut F s₀ (execNeuronScan tile ecc s) := by
  unfold execNeuronScan
  with_reducible repeat' first
    | assumption | exact subset_of hF (by decide) | apply done_sameBut | intro _ | apply neuronScan_sameBut

end Sys2Proof.Machine.State
end

section
set_option Elab.async false
/-! PROOFS. The footprints of the operations of `Sys2Proof/Machine/Tierlink.lean`. -/

namespace Sys2Proof.Machine.State

set_option linter.unusedTactic false
set_option linter.unreachableTactic false

variable {F : List Part} {s₀ : State}

theorem setTlk_sameBut (hF : [Part.tlk] ⊆ F) {s : State} {n x2} (h0 : SameBut F s₀ s) :
    SameBut F s₀ (setTlk s n x2) := by
  unfold setTlk
  with_reducible repeat' first | assumption | exact subset_of hF (by decide) | intro _ | apply withTlk_sameBut

theorem onTlk_sameBut (hF : [Part.tlk] ⊆ F) {s : State} {n f} (h0 : SameBut F s₀ s) : SameBut F s₀ (onTlk s n f) := by
  unfold onTlk
  with_reducible repeat' first | assumption | exact subset_of hF (by decide) | intro _ | apply setTlk_sameBut

theorem tlkEnter_sameBut (hF : [Part.regs, .sent, .tlk] ⊆ F) {s : State} {n st} (h0 : SameBut F s₀ s) :
    SameBut F s₀ (tlkEnter s n st) := by
  unfold tlkEnter
  with_reducible repeat' first
    | assumption | exact subset_of hF (by decide) | intro _ | apply keeps_ite | apply raise_sameBut
    | apply put_sameBut | apply onTlk_sameBut | dsimp only

theorem tlkLock_sameBut (hF : [Part.regs, .sent, .tlk] ⊆ F) {s : State} {n} (h0 : SameBut F s₀ s) :
    SameBut F s₀ (tlkLock s n) := by
  unfold tlkLock
  with_reducible repeat' first
    | assumption | exact subset_of hF (by decide) | intro _ | apply onTlk_sameBut | apply tlkEnter_sameBut

theorem tlkRetrain_sameBut (hF : [Part.regs, .events, .sent, .tlk] ⊆ F) {s : State} {n} (h0 : SameBut F s₀ s) :
    SameBut F s₀ (tlkRetrain s n) := by
  unfold tlkRetrain
  with_reducible repeat' first
    | assumption | exact subset_of hF (by decide) | intro _ | apply tlkLock_sameBut | apply log_sameBut
    | apply count_sameBut

theorem flitOut_sameBut (hF : [Part.sent] ⊆ F) {s : State} {n bs} (h0 : SameBut F s₀ s) :
    SameBut F s₀ (flitOut s n bs) := by
  unfold flitOut
  with_reducible repeat' first | assumption | exact subset_of hF (by decide) | intro _ | apply emitOut_sameBut

theorem packetOut_sameBut (hF : [Part.sent] ⊆ F) {s : State} {n p} (h0 : SameBut F s₀ s) :
    SameBut F s₀ (packetOut s n p) := by
  unfold packetOut
  with_reducible repeat' first | assumption | exact subset_of hF (by decide) | intro _ | apply emitOut_sameBut

theorem tlkSendNow_sameBut (hF : [Part.regs, .sent, .tlk] ⊆ F) {s : State} {n cls flits} (h0 : SameBut F s₀ s) :
    SameBut F s₀ (tlkSendNow s n cls flits) := by
  unfold tlkSendNow
  with_reducible repeat' first
    | assumption | exact subset_of hF (by decide) | intro _ | apply put_sameBut | apply packetOut_sameBut
    | apply onTlk_sameBut | dsimp only

theorem tlkPump_sameBut (hF : [Part.regs, .sent, .tlk] ⊆ F) {s : State} {n} (h0 : SameBut F s₀ s) :
    SameBut F s₀ (tlkPump s n) := by
  unfold tlkPump
  with_reducible repeat' first
    | assumption | exact subset_of hF (by decide) | intro _ | apply keeps_foldl | apply keeps_ite
    | apply keeps_foldl_fst | apply tlkSendNow_sameBut | apply onTlk_sameBut | dsimp only | split

theorem tlkSend_sameBut (hF : [Part.regs, .sent, .tlk] ⊆ F) {s : State} {n cls flits} (h0 : SameBut F s₀ s) :
    SameBut F s₀ (tlkSend s n cls flits) := by
  unfold tlkSend
  with_reducible repeat' first
    | assumption | exact subset_of hF (by decide) | intro _ | apply tlkPump_sameBut | apply onTlk_sameBut

theorem tlkResend_sameBut (hF : [Part.sent] ⊆ F) {s : State} {n seq} (h0 : SameBut F s₀ s) :
    SameBut F s₀ (tlkResend s n seq) := by
  unfold tlkResend
  with_reducible repeat' first
    | assumption | exact subset_of hF (by decide) | intro _ | apply keeps_foldl | apply keeps_ite
    | apply keeps_foldl_fst | apply packetOut_sameBut | dsimp only

theorem tlkReplay_sameBut (hF : [Part.regs, .events, .sent, .tlk] ⊆ F) {s : State} {n seq} (h0 : SameBut F s₀ s)
    :
    SameBut F s₀ (tlkReplay s n seq) := by
  unfold tlkReplay
  with_reducible repeat' first
    | assumption | exact subset_of hF (by decide) | intro _ | apply keeps_ite | apply raise_sameBut
    | apply count_sameBut | apply onTlk_sameBut | apply tlkResend_sameBut | apply tlkRetrain_sameBut | dsimp only

theorem tlkAck_sameBut (hF : [Part.regs, .sent, .tlk] ⊆ F) {s : State} {n seq} (h0 : SameBut F s₀ s) :
    SameBut F s₀ (tlkAck s n seq) := by
  unfold tlkAck
  with_reducible repeat' first
    | assumption | exact subset_of hF (by decide) | intro _ | apply keeps_ite | apply tlkPump_sameBut
    | apply onTlk_sameBut | dsimp only

theorem tlkNak_sameBut (hF : [Part.regs, .events, .sent, .tlk] ⊆ F) {s : State} {n seq} (h0 : SameBut F s₀ s) :
    SameBut F s₀ (tlkNak s n seq) := by
  unfold tlkNak
  with_reducible repeat' first
    | assumption | exact subset_of hF (by decide) | intro _ | apply tlkReplay_sameBut | apply tlkAck_sameBut

theorem tlkCredited_sameBut (hF : [Part.regs, .sent, .tlk] ⊆ F) {s : State} {n c} (h0 : SameBut F s₀ s) :
    SameBut F s₀ (tlkCredited s n c) := by
  unfold tlkCredited
  with_reducible repeat' first
    | assumption | exact subset_of hF (by decide) | intro _ | apply keeps_foldl | apply keeps_getD
    | apply keeps_foldl_fst | apply tlkPump_sameBut | apply onTlk_sameBut

theorem tlkHold_sameBut (hF : [Part.regs] ⊆ F) {s : State} {n} (h0 : SameBut F s₀ s) : SameBut F s₀ (tlkHold s n) := by
  unfold tlkHold
  with_reducible repeat' first | assumption | exact subset_of hF (by decide) | intro _ | apply put_sameBut

theorem tlkPip_sameBut (hF : [Part.regs, .mesh, .sent, .tlk] ⊆ F) {s : State} {n} (h0 : SameBut F s₀ s) :
    SameBut F s₀ (tlkPip s n) := by
  unfold tlkPip
  with_reducible repeat' first
    | assumption | exact subset_of hF (by decide) | intro _ | apply keeps_ite | apply tlkSendNow_sameBut
    | apply onMesh_sameBut | apply tlkHold_sameBut | apply add64_sameBut | dsimp only | split

theorem pipIn_sameBut (hF : [Part.regs, .events, .mesh, .once, .sent] ⊆ F) {s : State} {n p}
    (h0 : SameBut F s₀ s) :
    SameBut F s₀ (pipIn s n p) := by
  unfold pipIn
  with_reducible repeat' first
    | assumption | exact subset_of hF (by decide) | intro _ | apply keeps_ite | apply addR_sameBut
    | apply add64_sameBut | apply forward_sameBut | apply onMesh_sameBut | dsimp only

theorem msgIn_sameBut (hF : [Part.regs, .mem, .events, .sent, .fw] ⊆ F) {s : State} {n p} (h0 : SameBut F s₀ s)
    :
    SameBut F s₀ (msgIn s n p) := by
  unfold msgIn
  with_reducible repeat' first
    | assumption | exact subset_of hF (by decide) | intro _ | apply keeps_ite | apply accept_sameBut
    | apply applyCredit_sameBut | apply count_sameBut | dsimp only

theorem ackOut_sameBut (hF : [Part.sent] ⊆ F) {s : State} {n kind seq reason} (h0 : SameBut F s₀ s) :
    SameBut F s₀ (ackOut s n kind seq reason) := by
  unfold ackOut
  with_reducible repeat' first | assumption | exact subset_of hF (by decide) | intro _ | apply flitOut_sameBut

theorem creditOut_sameBut (hF : [Part.sent] ⊆ F) {s : State} {n} (h0 : SameBut F s₀ s) :
    SameBut F s₀ (creditOut s n) := by
  unfold creditOut
  with_reducible repeat' first | assumption | exact subset_of hF (by decide) | intro _ | apply flitOut_sameBut

theorem packetUse_sameBut (hF : [Part.regs, .mem, .events, .mesh, .once, .sent, .fw, .tlk, .tlkIn] ⊆ F)
    {s : State} {n cls flits} (h0 : SameBut F s₀ s) :
    SameBut F s₀ (packetUse s n cls flits) := by
  unfold packetUse
  with_reducible repeat' first
    | assumption | exact subset_of hF (by decide) | intro _ | apply keeps_foldl | apply keeps_foldl_fst
    | apply creditOut_sameBut | apply onTlk_sameBut | apply pipIn_sameBut | apply msgIn_sameBut | dsimp only | split
    | apply withTlkIn_sameBut

theorem packetTake_sameBut (hF : [Part.regs, .mem, .events, .mesh, .once, .sent, .fw, .tlk, .tlkIn] ⊆ F)
    {s : State} {n header flits codeError} (h0 : SameBut F s₀ s) :
    SameBut F s₀ (packetTake s n header flits codeError) := by
  unfold packetTake
  with_reducible repeat' first
    | assumption | exact subset_of hF (by decide) | intro _ | apply keeps_ite | apply ackOut_sameBut
    | apply count_sameBut | apply packetUse_sameBut | apply put_sameBut | dsimp only | split

theorem packetIn_sameBut (hF : [Part.regs, .mem, .events, .mesh, .once, .sent, .fw, .tlk, .tlkIn] ⊆ F)
    {s : State} {n header flits codeError} (h0 : SameBut F s₀ s) :
    SameBut F s₀ (packetIn s n header flits codeError) := by
  unfold packetIn
  with_reducible repeat' first
    | assumption | exact subset_of hF (by decide) | intro _ | apply keeps_ite | apply keeps_getD
    | apply injected_sameBut | apply packetTake_sameBut | apply onTlk_sameBut | dsimp only | split

theorem tsOut_sameBut (hF : [Part.sent] ⊆ F) {s : State} {n} (h0 : SameBut F s₀ s) : SameBut F s₀ (tsOut s n) := by
  unfold tsOut
  with_reducible repeat' first
    | assumption | exact subset_of hF (by decide) | intro _ | apply keeps_ite | apply keeps_getD
    | apply flitOut_sameBut | dsimp only

theorem tlkTrain_sameBut (hF : [Part.regs, .sent, .tlk] ⊆ F) {s : State} {n} (h0 : SameBut F s₀ s) :
    SameBut F s₀ (tlkTrain s n) := by
  unfold tlkTrain
  with_reducible repeat' first
    | assumption | exact subset_of hF (by decide) | intro _ | apply keeps_ite | apply keeps_getD | apply tsOut_sameBut
    | apply onTlk_sameBut | apply tlkEnter_sameBut

theorem tlkActive_sameBut (hF : [Part.regs, .mem, .events, .mesh, .objs, .sent, .sec, .fw, .tlk, .tlkIn] ⊆ F)
    {s : State} {n} (h0 : SameBut F s₀ s) :
    SameBut F s₀ (tlkActive s n) := by
  unfold tlkActive
  with_reducible repeat' first
    | assumption | exact subset_of hF (by decide) | intro _ | apply keeps_foldl | apply keeps_ite | apply keeps_getD
    | apply keeps_foldl_fst | apply onTlk_sameBut | apply tlkEnter_sameBut | apply put_sameBut | apply tlkPump_sameBut
    | apply tlkResend_sameBut | apply tlkAck_sameBut | apply count_sameBut | apply raise_sameBut
    | apply endSpike_sameBut | apply tlkHold_sameBut | apply onMesh_sameBut | apply setReg_sameBut | apply log_sameBut
    | apply endSession_sameBut | dsimp only | apply withTlkIn_sameBut

theorem tlkTs_sameBut (hF : [Part.regs, .mem, .events, .mesh, .objs, .sent, .sec, .fw, .tlk, .tlkIn] ⊆ F)
    {s : State} {n f} (h0 : SameBut F s₀ s) :
    SameBut F s₀ (tlkTs s n f) := by
  unfold tlkTs
  with_reducible repeat' first
    | assumption | exact subset_of hF (by decide) | intro _ | apply keeps_foldl | apply keeps_ite
    | apply keeps_foldl_fst | apply tlkRetrain_sameBut | apply onTlk_sameBut | apply tsOut_sameBut
    | apply put64_sameBut | apply put_sameBut | apply tlkActive_sameBut | dsimp only | split

theorem laneFail_sameBut (hF : [Part.regs, .objs, .fault] ⊆ F) {s : State} {n lane} (h0 : SameBut F s₀ s) :
    SameBut F s₀ (laneFail s n lane) := by
  unfold laneFail
  with_reducible repeat' first
    | assumption | exact subset_of hF (by decide) | intro _ | apply keeps_ite | apply fileReport_sameBut | dsimp only
    | apply withFault_sameBut

theorem headerLock_sameBut (hF : [Part.regs, .events, .objs, .fault, .sent, .tlk] ⊆ F) {s : State} {n lanes}
    (h0 : SameBut F s₀ s) :
    SameBut F s₀ (headerLock s n lanes) := by
  unfold headerLock
  with_reducible repeat' first
    | assumption | exact subset_of hF (by decide) | intro _ | apply keeps_foldl | apply keeps_ite
    | apply keeps_foldl_fst | apply tlkEnter_sameBut | apply put_sameBut | apply laneFail_sameBut | apply log_sameBut
    | dsimp only

theorem tlkTimeout_sameBut (hF : [Part.regs, .events, .sent, .tlk] ⊆ F) {s : State} {n} (h0 : SameBut F s₀ s) :
    SameBut F s₀ (tlkTimeout s n) := by
  unfold tlkTimeout
  with_reducible repeat' first
    | assumption | exact subset_of hF (by decide) | intro _ | apply keeps_ite | apply log_sameBut | apply put_sameBut
    | apply tlkEnter_sameBut | apply onTlk_sameBut | apply tlkLock_sameBut | dsimp only

theorem tlkEnable_sameBut (hF : [Part.regs, .sent, .tlk] ⊆ F) {s : State} {n} (h0 : SameBut F s₀ s) :
    SameBut F s₀ (tlkEnable s n) := by
  unfold tlkEnable
  with_reducible repeat' first
    | assumption | exact subset_of hF (by decide) | intro _ | apply keeps_ite | apply put_sameBut
    | apply onTlk_sameBut | apply tlkLock_sameBut | dsimp only

theorem sleepFlit_sameBut (hF : [Part.regs, .sent, .tlk] ⊆ F) {s : State} {n} (h0 : SameBut F s₀ s) :
    SameBut F s₀ (sleepFlit s n) := by
  unfold sleepFlit
  with_reducible repeat' first
    | assumption | exact subset_of hF (by decide) | intro _ | apply keeps_ite | apply tlkEnter_sameBut
    | apply flitOut_sameBut

theorem sleepReq_sameBut (hF : [Part.sent, .tlk] ⊆ F) {s : State} {n} (h0 : SameBut F s₀ s) :
    SameBut F s₀ (sleepReq s n) := by
  unfold sleepReq
  with_reducible repeat' first
    | assumption | exact subset_of hF (by decide) | intro _ | apply keeps_ite | apply onTlk_sameBut
    | apply flitOut_sameBut

theorem tlkWake_sameBut (hF : [Part.regs, .sent, .wakes, .tlk] ⊆ F) {s : State} {n} (h0 : SameBut F s₀ s) :
    SameBut F s₀ (tlkWake s n) := by
  unfold tlkWake
  with_reducible repeat' first
    | assumption | exact subset_of hF (by decide) | intro _ | apply keeps_ite | apply wakeSeen_sameBut
    | apply tlkLock_sameBut | dsimp only

theorem controlTake_sameBut (hF : [Part.regs, .mem, .events, .mesh, .objs, .sent, .sec, .fw, .tlk, .tlkIn] ⊆ F)
    {s : State} {n f} (h0 : SameBut F s₀ s) :
    SameBut F s₀ (controlTake s n f) := by
  unfold controlTake
  with_reducible repeat' first
    | assumption | exact subset_of hF (by decide) | intro _ | apply keeps_ite | apply count_sameBut
    | apply tlkAck_sameBut | apply tlkNak_sameBut | apply tlkCredited_sameBut | apply tlkTrain_sameBut
    | apply tlkTs_sameBut | apply sleepFlit_sameBut | split

theorem execTlkControlFlit_sameBut
    (hF : [Part.regs, .mem, .events, .mesh, .objs, .sent, .sec, .fw, .tlk, .tlkIn] ⊆ F) {port flit} {s : State}
    (h2 : SameBut F s₀ s) :
    ResultSameBut F s₀ (execTlkControlFlit port flit s) := by
  unfold execTlkControlFlit
  with_reducible repeat' first
    | assumption | exact subset_of hF (by decide) | apply done_sameBut | intro _ | apply controlTake_sameBut

theorem execTlkPacketReceive_sameBut
    (hF : [Part.regs, .mem, .events, .mesh, .once, .sent, .fw, .tlk, .tlkIn] ⊆ F) {port header flits codeError}
    {s : State} (h4 : SameBut F s₀ s) :
    ResultSameBut F s₀ (execTlkPacketReceive port header flits codeError s) := by
  unfold execTlkPacketReceive
  with_reducible repeat' first
    | assumption | exact subset_of hF (by decide) | apply done_sameBut | intro _ | apply packetIn_sameBut

theorem execTlkAckReceive_sameBut (hF : [Part.regs, .sent, .tlk] ⊆ F) {port seq} {s : State}
    (h2 : SameBut F s₀ s) :
    ResultSameBut F s₀ (execTlkAckReceive port seq s) := by
  unfold execTlkAckReceive
  with_reducible repeat' first
    | assumption | exact subset_of hF (by decide) | apply done_sameBut | intro _ | apply tlkAck_sameBut

theorem execTlkNakReceive_sameBut (hF : [Part.regs, .events, .sent, .tlk] ⊆ F) {port seq} {s : State}
    (h2 : SameBut F s₀ s) :
    ResultSameBut F s₀ (execTlkNakReceive port seq s) := by
  unfold execTlkNakReceive
  with_reducible repeat' first
    | assumption | exact subset_of hF (by decide) | apply done_sameBut | intro _ | apply tlkNak_sameBut

theorem execTlkReplayTimeout_sameBut (hF : [Part.regs, .events, .sent, .tlk] ⊆ F) {port} {s : State}
    (h1 : SameBut F s₀ s) :
    ResultSameBut F s₀ (execTlkReplayTimeout port s) := by
  unfold execTlkReplayTimeout
  with_reducible repeat' first
    | assumption | exact subset_of hF (by decide) | apply done_sameBut | intro _ | apply keeps_getD
    | apply tlkReplay_sameBut

theorem execTlkCreditReceive_sameBut (hF : [Part.regs, .sent, .tlk] ⊆ F) {port counters} {s : State}
    (h2 : SameBut F s₀ s) :
    ResultSameBut F s₀ (execTlkCreditReceive port counters s) := by
  unfold execTlkCreditReceive
  with_reducible repeat' first
    | assumption | exact subset_of hF (by decide) | apply done_sameBut | intro _ | apply tlkCredited_sameBut

theorem execTlkTransmitPip_sameBut (hF : [Part.regs, .mesh, .sent, .tlk] ⊆ F) {port} {s : State}
    (h1 : SameBut F s₀ s) :
    ResultSameBut F s₀ (execTlkTransmitPip port s) := by
  unfold execTlkTransmitPip
  with_reducible repeat' first
    | assumption | exact subset_of hF (by decide) | apply done_sameBut | intro _ | apply tlkPip_sameBut

theorem execTlkTsReceive_sameBut
    (hF : [Part.regs, .mem, .events, .mesh, .objs, .sent, .sec, .fw, .tlk, .tlkIn] ⊆ F) {port flit} {s : State}
    (h2 : SameBut F s₀ s) :
    ResultSameBut F s₀ (execTlkTsReceive port flit s) := by
  unfold execTlkTsReceive
  with_reducible repeat' first
    | assumption | exact subset_of hF (by decide) | apply done_sameBut | intro _ | apply tlkTs_sameBut

theorem execTlkStateTimeout_sameBut (hF : [Part.regs, .events, .sent, .tlk] ⊆ F) {port} {s : State}
    (h1 : SameBut F s₀ s) :
    ResultSameBut F s₀ (execTlkStateTimeout port s) := by
  unfold execTlkStateTimeout
  with_reducible repeat' first
    | assumption | exact subset_of hF (by decide) | apply done_sameBut | intro _ | apply tlkTimeout_sameBut

theorem execTlkMarkLoss_sameBut (hF : [Part.regs, .events, .sent, .tlk] ⊆ F) {port} {s : State}
    (h1 : SameBut F s₀ s) :
    ResultSameBut F s₀ (execTlkMarkLoss port s) := by
  unfold execTlkMarkLoss
  with_reducible repeat' first
    | assumption | exact subset_of hF (by decide) | apply done_sameBut | intro _ | apply keeps_ite
    | apply tlkRetrain_sameBut

theorem execTlkRetrain_sameBut (hF : [Part.regs, .events, .sent, .tlk] ⊆ F) {port} {s : State}
    (h1 : SameBut F s₀ s) :
    ResultSameBut F s₀ (execTlkRetrain port s) := by
  unfold execTlkRetrain
  with_reducible repeat' first
    | assumption | exact subset_of hF (by decide) | apply done_sameBut | apply keeps_ite_result | intro _
    | apply keeps_ite | apply tlkLock_sameBut | apply tlkRetrain_sameBut | split

theorem execTlkEnable_sameBut (hF : [Part.regs, .sent, .tlk] ⊆ F) {port} {s : State} (h1 : SameBut F s₀ s) :
    ResultSameBut F s₀ (execTlkEnable port s) := by
  unfold execTlkEnable
  with_reducible repeat' first
    | assumption | exact subset_of hF (by decide) | apply done_sameBut | intro _ | apply tlkEnable_sameBut

theorem execTlkSleepReq_sameBut (hF : [Part.sent, .tlk] ⊆ F) {port} {s : State} (h1 : SameBut F s₀ s) :
    ResultSameBut F s₀ (execTlkSleepReq port s) := by
  unfold execTlkSleepReq
  with_reducible repeat' first
    | assumption | exact subset_of hF (by decide) | apply done_sameBut | intro _ | apply sleepReq_sameBut

theorem execTlkWakeDetect_sameBut (hF : [Part.regs, .sent, .wakes, .tlk] ⊆ F) {port} {s : State}
    (h1 : SameBut F s₀ s) :
    ResultSameBut F s₀ (execTlkWakeDetect port s) := by
  unfold execTlkWakeDetect
  with_reducible repeat' first
    | assumption | exact subset_of hF (by decide) | apply done_sameBut | intro _ | apply tlkWake_sameBut

theorem execSyncHeaderLock_sameBut (hF : [Part.regs, .events, .objs, .fault, .sent, .tlk] ⊆ F) {port lanes}
    {s : State} (h2 : SameBut F s₀ s) :
    ResultSameBut F s₀ (execSyncHeaderLock port lanes s) := by
  unfold execSyncHeaderLock
  with_reducible repeat' first
    | assumption | exact subset_of hF (by decide) | apply done_sameBut | intro _ | apply headerLock_sameBut

theorem execSyncHeaderErrors_sameBut (hF : [Part.regs, .events, .sent, .tlk] ⊆ F) {port} {s : State}
    (h1 : SameBut F s₀ s) :
    ResultSameBut F s₀ (execSyncHeaderErrors port s) := by
  unfold execSyncHeaderErrors
  with_reducible repeat' first
    | assumption | exact subset_of hF (by decide) | apply done_sameBut | intro _ | apply keeps_ite
    | apply tlkRetrain_sameBut

end Sys2Proof.Machine.State
end

section
set_option Elab.async false
/-! PROOFS. The footprints of the operations of `Sys2Proof/Machine/StepClock.lean`. -/

namespace Sys2Proof.Machine.State

set_option linter.unusedTactic false
set_option linter.unreachableTactic false

variable {F : List Part} {s₀ : State}

theorem onClock_sameBut (hF : [Part.clock] ⊆ F) {s : State} {f} (h0 : SameBut F s₀ s) :
    SameBut F s₀ (onClock s f) := by
  unfold onClock
  with_reducible repeat' first | assumption | exact subset_of hF (by decide) | intro _ | apply withClock_sameBut

theorem setPhase_sameBut (hF : [Part.regs] ⊆ F) {s : State} {p} (h0 : SameBut F s₀ s) :
    SameBut F s₀ (setPhase s p) := by
  unfold setPhase
  with_reducible repeat' first | assumption | exact subset_of hF (by decide) | intro _ | apply put_sameBut

theorem syncSend_sameBut (hF : [Part.regs, .sent, .tlk] ⊆ F) {s : State} {port flits} (h0 : SameBut F s₀ s) :
    SameBut F s₀ (syncSend s port flits) := by
  unfold syncSend
  with_reducible repeat' first | assumption | exact subset_of hF (by decide) | intro _ | apply tlkSend_sameBut

theorem toWorkers_sameBut (hF : [Part.regs, .sent, .tlk] ⊆ F) {s : State} {flit} (h0 : SameBut F s₀ s) :
    SameBut F s₀ (toWorkers s flit) := by
  unfold toWorkers
  with_reducible repeat' first
    | assumption | exact subset_of hF (by decide) | intro _ | apply keeps_foldl | apply keeps_foldl_fst
    | apply syncSend_sameBut

theorem attach_sameBut (hF : [Part.regs, .sent, .clock] ⊆ F) {s : State} (h0 : SameBut F s₀ s) :
    SameBut F s₀ (attach s) := by
  unfold attach
  with_reducible repeat' first
    | assumption | exact subset_of hF (by decide) | intro _ | apply keeps_foldl | apply keeps_foldl_fst
    | apply onClock_sameBut | apply msix_sameBut | apply put_sameBut

theorem switchSent_sameBut (hF : [Part.regs, .fw] ⊆ F) {s : State} (h0 : SameBut F s₀ s) :
    SameBut F s₀ (switchSent s) := by
  unfold switchSent
  with_reducible repeat' first
    | assumption | exact subset_of hF (by decide) | intro _ | apply keeps_ite | apply put_sameBut
    | apply withFw_sameBut

theorem arm_sameBut (hF : [Part.regs, .mem, .events, .once, .hub, .sent, .fw, .tlk, .clock] ⊆ F) {s : State}
    {l ls ph} (h0 : SameBut F s₀ s) :
    SameBut F s₀ (arm s l ls ph) := by
  unfold arm
  with_reducible repeat' first
    | assumption | exact subset_of hF (by decide) | intro _ | apply onClock_sameBut | apply setPhase_sameBut
    | apply put64_sameBut | apply switchSent_sameBut | apply attach_sameBut | apply placeHeld_sameBut
    | apply toWorkers_sameBut | dsimp only

theorem haltNow_sameBut (hF : [Part.regs, .clock] ⊆ F) {s : State} (h0 : SameBut F s₀ s) :
    SameBut F s₀ (haltNow s) := by
  unfold haltNow
  with_reducible repeat' first
    | assumption | exact subset_of hF (by decide) | intro _ | apply onClock_sameBut | apply put64_sameBut
    | apply setPhase_sameBut | apply put_sameBut

theorem winBase_sameBut (hF : [Part.regs] ⊆ F) {s : State} {base} (h0 : SameBut F s₀ s) :
    SameBut F s₀ (winBase s base) := by
  unfold winBase
  with_reducible repeat' first
    | assumption | exact subset_of hF (by decide) | intro _ | apply keeps_foldl | apply keeps_ite
    | apply keeps_foldl_fst | apply put64_sameBut | dsimp only

theorem freshBase_sameBut (hF : [Part.regs, .loadStep, .clock] ⊆ F) {s : State} (h0 : SameBut F s₀ s) :
    SameBut F s₀ (freshBase s) := by
  unfold freshBase
  with_reducible repeat' first
    | assumption | exact subset_of hF (by decide) | intro _ | apply keeps_ite | apply onClock_sameBut
    | apply winBase_sameBut | apply withLoadStep_sameBut

theorem stepRun_sameBut (hF : [Part.regs, .mem, .events, .once, .loadStep, .hub, .sent, .fw, .tlk, .clock] ⊆ F)
    {s : State} (h0 : SameBut F s₀ s) :
    SameBut F s₀ (stepRun s) := by
  unfold stepRun
  with_reducible repeat' first
    | assumption | exact subset_of hF (by decide) | intro _ | apply keeps_ite | apply put_sameBut
    | apply onHub_sameBut | apply put64_sameBut | apply freshBase_sameBut | apply arm_sameBut | apply onClock_sameBut
    | dsimp only | split

theorem stepHalt_sameBut (hF : [Part.regs, .clock] ⊆ F) {s : State} (h0 : SameBut F s₀ s) :
    SameBut F s₀ (stepHalt s) := by
  unfold stepHalt
  with_reducible repeat' first
    | assumption | exact subset_of hF (by decide) | intro _ | apply keeps_ite | apply put_sameBut
    | apply haltNow_sameBut | apply setPhase_sameBut | apply onClock_sameBut

theorem countsStart_sameBut (hF : [Part.mesh] ⊆ F) {s : State} {t} (h0 : SameBut F s₀ s) :
    SameBut F s₀ (countsStart s t) := by
  unfold countsStart
  with_reducible repeat' first
    | assumption | exact subset_of hF (by decide) | intro _ | apply onMesh_sameBut | dsimp only | split

theorem launchCore_sameBut
(hF : [Part.regs, .mem, .events, .mesh, .once, .deliveryOpen, .launched, .objs, .fault, .delivery, .streams, .hub,
    .sent, .fw, .clock] ⊆ F)
    {s : State} (h0 : SameBut F s₀ s) :
    SameBut F s₀ (launchCore s) := by
  unfold launchCore
  with_reducible repeat' first
    | assumption | exact subset_of hF (by decide) | intro _ | apply keeps_foldl | apply keeps_foldl_fst
    | apply delayDrain_sameBut | apply reach_sameBut | apply onClock_sameBut | apply put_sameBut
    | apply setPhase_sameBut | apply put64_sameBut | apply countsStart_sameBut | apply onDelivery_sameBut
    | apply setReg_sameBut | apply traceMarker_sameBut | apply hubLaunch_sameBut | apply stageLaunch_sameBut
    | apply startCopies_sameBut | apply streamsLaunch_sameBut | dsimp only | apply withDeliveryOpenLaunched_sameBut

theorem updateBroadcast_sameBut
(hF : [Part.regs, .mem, .events, .deliveryOpen, .scanRegs, .objs, .fault, .clearing, .delivery, .streams, .sent,
    .fw, .tlk] ⊆ F)
    {s : State} {forced} (h0 : SameBut F s₀ s) :
    SameBut F s₀ (updateBroadcast s forced) := by
  unfold updateBroadcast
  with_reducible repeat' first
    | assumption | exact subset_of hF (by decide) | intro _ | apply keeps_foldl | apply keeps_ite
    | apply keeps_foldl_fst | apply setPhase_sameBut | apply unionBuild_sameBut | apply winBegin_sameBut
    | apply startCopies_sameBut | apply sweepGenerate_sameBut | apply toWorkers_sameBut | dsimp only
    | apply withDeliveryOpen_sameBut | apply withScanRegs_sameBut

theorem declareQuiescence_sameBut
(hF : [Part.regs, .mem, .events, .deliveryOpen, .scanRegs, .objs, .fault, .clearing, .delivery, .streams, .sent,
    .fw, .tlk, .clock] ⊆ F)
    {s : State} (h0 : SameBut F s₀ s) :
    SameBut F s₀ (declareQuiescence s) := by
  unfold declareQuiescence
  with_reducible repeat' first
    | assumption | exact subset_of hF (by decide) | intro _ | apply keeps_ite | apply put_sameBut
    | apply raise_sameBut | apply count_sameBut | apply updateBroadcast_sameBut | apply onClock_sameBut | dsimp only

theorem forceClose_sameBut
(hF : [Part.regs, .mem, .events, .mesh, .deliveryOpen, .scanRegs, .objs, .fault, .clearing, .delivery, .streams,
    .sent, .fw, .tlk, .clock] ⊆ F)
    {s : State} {stretch} (h0 : SameBut F s₀ s) :
    SameBut F s₀ (forceClose s stretch) := by
  unfold forceClose
  with_reducible repeat' first
    | assumption | exact subset_of hF (by decide) | intro _ | apply keeps_foldl | apply keeps_ite
    | apply keeps_foldl_fst | apply cutTile_sameBut | apply windowCut_sameBut | apply put_sameBut
    | apply count_sameBut | apply copiesCut_sameBut | apply raise_sameBut | apply updateBroadcast_sameBut
    | apply onClock_sameBut | dsimp only

theorem waveEnd_sameBut
(hF : [Part.regs, .mem, .events, .deliveryOpen, .scanRegs, .objs, .fault, .clearing, .delivery, .streams, .sent,
    .fw, .tlk, .clock] ⊆ F)
    {s : State} {e r idle} (h0 : SameBut F s₀ s) :
    SameBut F s₀ (waveEnd s e r idle) := by
  unfold waveEnd
  with_reducible repeat' first
    | assumption | exact subset_of hF (by decide) | intro _ | apply keeps_ite | apply declareQuiescence_sameBut
    | apply onClock_sameBut | dsimp only | split

theorem quiescenceWave_sameBut
(hF : [Part.regs, .mem, .events, .deliveryOpen, .scanRegs, .objs, .fault, .clearing, .delivery, .streams, .sent,
    .fw, .tlk, .clock] ⊆ F)
    {s : State} (h0 : SameBut F s₀ s) :
    SameBut F s₀ (quiescenceWave s) := by
  unfold quiescenceWave
  with_reducible repeat' first
    | assumption | exact subset_of hF (by decide) | intro _ | apply keeps_foldl | apply keeps_ite
    | apply keeps_foldl_fst | apply keeps_foldl_snd | apply keeps_ite_snd | apply drainDead_sameBut
    | apply onClock_sameBut | apply waveEnd_sameBut | apply toWorkers_sameBut | dsimp only

theorem deadlineClose_sameBut
(hF : [Part.regs, .mem, .events, .mesh, .deliveryOpen, .scanRegs, .objs, .fault, .clearing, .delivery, .streams,
    .sent, .fw, .tlk, .clock] ⊆ F)
    {s : State} (h0 : SameBut F s₀ s) :
    SameBut F s₀ (deadlineClose s) := by
  unfold deadlineClose
  with_reducible repeat' first
    | assumption | exact subset_of hF (by decide) | intro _ | apply keeps_ite | apply forceClose_sameBut
    | apply reach_sameBut

theorem stretchClose_sameBut
(hF : [Part.regs, .mem, .events, .mesh, .deliveryOpen, .scanRegs, .objs, .fault, .clearing, .delivery, .streams,
    .sent, .fw, .tlk, .clock] ⊆ F)
    {s : State} (h0 : SameBut F s₀ s) :
    SameBut F s₀ (stretchClose s) := by
  unfold stretchClose
  with_reducible repeat' first
    | assumption | exact subset_of hF (by decide) | intro _ | apply keeps_ite | apply forceClose_sameBut
    | apply reach_sameBut

theorem watchdogFire_sameBut (hF : [Part.regs, .events, .sent, .clock, .power] ⊆ F) {s : State}
    (h0 : SameBut F s₀ s) :
    SameBut F s₀ (watchdogFire s) := by
  unfold watchdogFire
  with_reducible repeat' first
    | assumption | exact subset_of hF (by decide) | intro _ | apply keeps_ite | apply reach_sameBut
    | apply onClock_sameBut | apply put_sameBut | apply setPhase_sameBut | apply haltNow_sameBut
    | apply halfGate_sameBut | apply raise_sameBut | apply log_sameBut | dsimp only

theorem snapshots_sameBut (hF : [Part.regs, .mem, .events, .fw] ⊆ F) {s : State} {step} (h0 : SameBut F s₀ s) :
    SameBut F s₀ (snapshots s step) := by
  unfold snapshots
  with_reducible repeat' first
    | assumption | exact subset_of hF (by decide) | intro _ | apply keeps_foldl | apply keeps_ite
    | apply keeps_foldl_fst | apply wrBytes_sameBut | dsimp only

theorem phaseRecords_sameBut (hF : [Part.regs, .freeCount, .mesh] ⊆ F) {s : State} {step} (h0 : SameBut F s₀ s)
    :
    SameBut F s₀ (phaseRecords s step) := by
  unfold phaseRecords
  with_reducible repeat' first
    | assumption | exact subset_of hF (by decide) | intro _ | apply keeps_foldl | apply keeps_ite
    | apply keeps_foldl_fst | apply useFree_sameBut | apply trace_sameBut

theorem standbyArm_sameBut (hF : [Part.objs] ⊆ F) {s : State} {step} (h0 : SameBut F s₀ s) :
    SameBut F s₀ (standbyArm s step) := by
  unfold standbyArm
  with_reducible repeat' first
    | assumption | exact subset_of hF (by decide) | intro _ | apply keeps_ite | apply setObj_sameBut | split

theorem switchBegin_sameBut (hF : [Part.regs, .clock] ⊆ F) {s : State} (h0 : SameBut F s₀ s) :
    SameBut F s₀ (switchBegin s) := by
  unfold switchBegin
  with_reducible repeat' first
    | assumption | exact subset_of hF (by decide) | intro _ | apply onClock_sameBut | apply put_sameBut
    | apply setPhase_sameBut

theorem afterClose_sameBut (hF : [Part.regs, .mem, .events, .once, .hub, .sent, .fw, .tlk, .clock] ⊆ F)
    {s : State} {ended} (h0 : SameBut F s₀ s) :
    SameBut F s₀ (afterClose s ended) := by
  unfold afterClose
  with_reducible repeat' first
    | assumption | exact subset_of hF (by decide) | intro _ | apply keeps_ite | apply haltNow_sameBut
    | apply switchBegin_sameBut | apply arm_sameBut | apply log_sameBut | apply put_sameBut | apply count_sameBut
    | apply raise_sameBut | apply put64_sameBut | dsimp only

theorem doneOut_sameBut (hF : [Part.regs, .sent, .tlk] ⊆ F) {s : State} {sums} (h0 : SameBut F s₀ s) :
    SameBut F s₀ (doneOut s sums) := by
  unfold doneOut
  with_reducible repeat' first | assumption | exact subset_of hF (by decide) | intro _ | apply syncSend_sameBut

theorem closeStep_sameBut
(hF : [Part.regs, .mem, .freeCount, .events, .mesh, .once, .objs, .fault, .delivery, .streams, .hub, .sent, .can,
    .guard, .fw, .tlk, .clock, .power, .totals, .records] ⊆ F)
    {s : State} (h0 : SameBut F s₀ s) :
    SameBut F s₀ (closeStep s) := by
  unfold closeStep
  with_reducible repeat' first
    | assumption | exact subset_of hF (by decide) | intro _ | apply keeps_ite | apply put64_sameBut
    | apply onMesh_sameBut | apply put_sameBut | apply log_sameBut | apply modClose_sameBut | apply modSettle_sameBut
    | apply gatherRecords_sameBut | apply halfGate_sameBut | apply gather_sameBut | apply withheldClose_sameBut
    | apply guardClose_sameBut | apply hubClose_sameBut | apply obsAbandon_sameBut | apply standbyArm_sameBut
    | apply phaseRecords_sameBut | apply snapshots_sameBut | apply raise_sameBut | apply msix_sameBut
    | apply treesRebuild_sameBut | apply onClock_sameBut | apply doneOut_sameBut | apply switchBegin_sameBut
    | apply setPhase_sameBut | apply afterClose_sameBut | dsimp only | apply withOnce_sameBut

theorem stepClose_sameBut
(hF : [Part.regs, .mem, .freeCount, .events, .mesh, .once, .objs, .fault, .delivery, .streams, .hub, .sent, .can,
    .guard, .fw, .tlk, .clock, .power, .totals, .records] ⊆ F)
    {s : State} (h0 : SameBut F s₀ s) :
    SameBut F s₀ (stepClose s) := by
  unfold stepClose
  with_reducible repeat' first
    | assumption | exact subset_of hF (by decide) | intro _ | apply keeps_ite | apply closeStep_sameBut

theorem remapSwitch_sameBut
(hF : [Part.regs, .mem, .events, .mesh, .deliveryOpen, .scanRegs, .objs, .fault, .clearing, .creditDue, .oooSeen,
    .delivery, .streams, .progress, .sent, .fw, .tlk, .clock] ⊆ F)
    {s : State} (h0 : SameBut F s₀ s) :
    SameBut F s₀ (remapSwitch s) := by
  unfold remapSwitch
  with_reducible repeat' first
    | assumption | exact subset_of hF (by decide) | intro _ | apply keeps_ite | apply remapArm_sameBut
    | apply remapFail_sameBut | apply onFault_sameBut | apply put_sameBut | apply spareUsed_sameBut
    | apply log_sameBut | apply setObj_sameBut | apply forceClose_sameBut | dsimp only | split
    | refine switchOver_sameBut (subset_of hF (by decide)) ?_ _ (by assumption)

theorem execStepHalt_sameBut (hF : [Part.regs, .clock] ⊆ F) {s : State} (h0 : SameBut F s₀ s) :
    ResultSameBut F s₀ (execStepHalt s) := by
  unfold execStepHalt
  with_reducible repeat' first
    | assumption | exact subset_of hF (by decide) | apply done_sameBut | intro _ | apply stepHalt_sameBut

theorem execQuiescenceWave_sameBut
(hF : [Part.regs, .mem, .events, .deliveryOpen, .scanRegs, .objs, .fault, .clearing, .delivery, .streams, .sent,
    .fw, .tlk, .clock] ⊆ F)
    {s : State} (h0 : SameBut F s₀ s) :
    ResultSameBut F s₀ (execQuiescenceWave s) := by
  unfold execQuiescenceWave
  with_reducible repeat' first
    | assumption | exact subset_of hF (by decide) | apply done_sameBut | intro _ | apply quiescenceWave_sameBut

theorem execStepClose_sameBut
(hF : [Part.regs, .mem, .freeCount, .events, .mesh, .once, .objs, .fault, .delivery, .streams, .hub, .sent, .can,
    .guard, .fw, .tlk, .clock, .power, .totals, .records] ⊆ F)
    {s : State} (h0 : SameBut F s₀ s) :
    ResultSameBut F s₀ (execStepClose s) := by
  unfold execStepClose
  with_reducible repeat' first
    | assumption | exact subset_of hF (by decide) | apply done_sameBut | intro _ | apply stepClose_sameBut

theorem execDeadlineForcedClose_sameBut
(hF : [Part.regs, .mem, .events, .mesh, .deliveryOpen, .scanRegs, .objs, .fault, .clearing, .delivery, .streams,
    .sent, .fw, .tlk, .clock] ⊆ F)
    {s : State} (h0 : SameBut F s₀ s) :
    ResultSameBut F s₀ (execDeadlineForcedClose s) := by
  unfold execDeadlineForcedClose
  with_reducible repeat' first
    | assumption | exact subset_of hF (by decide) | apply done_sameBut | intro _ | apply deadlineClose_sameBut

theorem execStretchLimitClose_sameBut
(hF : [Part.regs, .mem, .events, .mesh, .deliveryOpen, .scanRegs, .objs, .fault, .clearing, .delivery, .streams,
    .sent, .fw, .tlk, .clock] ⊆ F)
    {s : State} (h0 : SameBut F s₀ s) :
    ResultSameBut F s₀ (execStretchLimitClose s) := by
  unfold execStretchLimitClose
  with_reducible repeat' first
    | assumption | exact subset_of hF (by decide) | apply done_sameBut | intro _ | apply stretchClose_sameBut

theorem execFreeRunWatchdogFire_sameBut (hF : [Part.regs, .events, .sent, .clock, .power] ⊆ F) {s : State}
    (h0 : SameBut F s₀ s) :
    ResultSameBut F s₀ (execFreeRunWatchdogFire s) := by
  unfold execFreeRunWatchdogFire
  with_reducible repeat' first
    | assumption | exact subset_of hF (by decide) | apply done_sameBut | intro _ | apply watchdogFire_sameBut

theorem execRemapSwitch_sameBut
(hF : [Part.regs, .mem, .events, .mesh, .deliveryOpen, .scanRegs, .objs, .fault, .clearing, .creditDue, .oooSeen,
    .delivery, .streams, .progress, .sent, .fw, .tlk, .clock] ⊆ F)
    {s : State} (h0 : SameBut F s₀ s) :
    ResultSameBut F s₀ (execRemapSwitch s) := by
  unfold execRemapSwitch
  with_reducible repeat' first
    | assumption | exact subset_of hF (by decide) | apply done_sameBut | intro _ | apply remapSwitch_sameBut

end Sys2Proof.Machine.State
end

section
set_option Elab.async false
/-! PROOFS. The footprints of the operations of `Sys2Proof/Machine/Images.lean`. -/

namespace Sys2Proof.Machine.State

set_option linter.unusedTactic false
set_option linter.unreachableTactic false

variable {F : List Part} {s₀ : State}

theorem reply_sameBut (hF : [Part.answer] ⊆ F) {s : State} {t abort data} (h0 : SameBut F s₀ s) :
    SameBut F s₀ (reply s t abort data) := by
  unfold reply
  with_reducible repeat' first | assumption | exact subset_of hF (by decide) | intro _ | apply withAnswer_sameBut

theorem conflict_sameBut (hF : [Part.regs, .events, .objs, .answer] ⊆ F) {s : State} {reason index sub}
    (h0 : SameBut F s₀ s) :
    SameBut F s₀ (conflict s reason index sub) := by
  unfold conflict
  with_reducible repeat' first
    | assumption | exact subset_of hF (by decide) | intro _ | apply reply_sameBut | apply deny_sameBut

theorem lowRole_sameBut (hF : [Part.objs, .answer] ⊆ F) {s : State} {index sub} (h0 : SameBut F s₀ s) :
    SameBut F s₀ (lowRole s index sub) := by
  unfold lowRole
  with_reducible repeat' first
    | assumption | exact subset_of hF (by decide) | intro _ | apply reply_sameBut | apply refusal_sameBut

theorem auditWrite_sameBut (hF : [Part.regs, .mem, .events, .objs, .sec, .fw] ⊆ F) {s : State}
    {slot index sub old new} (h0 : SameBut F s₀ s) :
    SameBut F s₀ (auditWrite s slot index sub old new) := by
  unfold auditWrite
  with_reducible repeat' first | assumption | exact subset_of hF (by decide) | intro _ | apply audit_sameBut

theorem imagesShow_sameBut (hF : [Part.objs] ⊆ F) {s : State} (h0 : SameBut F s₀ s) : SameBut F s₀ (imagesShow s) := by
  unfold imagesShow
  with_reducible repeat' first
    | assumption | exact subset_of hF (by decide) | intro _ | apply keeps_getD | apply setObj_sameBut | dsimp only
    | split

theorem setImage_sameBut (hF : [Part.objs, .images] ⊆ F) {s : State} {x1} (h0 : SameBut F s₀ s) :
    SameBut F s₀ (setImage s x1) := by
  unfold setImage
  with_reducible repeat' first
    | assumption | exact subset_of hF (by decide) | intro _ | apply imagesShow_sameBut | split
    | apply withImages_sameBut

theorem imageLoad_sameBut (hF : [Part.regs, .events, .objs, .answer, .images] ⊆ F) {s : State}
    {slot sub info source length crc} (h0 : SameBut F s₀ s) :
    SameBut F s₀ (imageLoad s slot sub info source length crc) := by
  unfold imageLoad
  with_reducible repeat' first
    | assumption | exact subset_of hF (by decide) | intro _ | apply keeps_ite | apply lowRole_sameBut
    | apply conflict_sameBut | apply setImage_sameBut | apply log_sameBut | apply reply_sameBut | dsimp only

theorem loadFlash_sameBut (hF : [Part.regs, .events, .objs, .answer, .images] ⊆ F) {s : State} {slot e info}
    (h0 : SameBut F s₀ s) :
    SameBut F s₀ (loadFlash s slot e info) := by
  unfold loadFlash
  with_reducible repeat' first
    | assumption | exact subset_of hF (by decide) | intro _ | apply imageLoad_sameBut | dsimp only

theorem loadDram_sameBut (hF : [Part.regs, .events, .objs, .answer, .images] ⊆ F) {s : State} {slot a info}
    (h0 : SameBut F s₀ s) :
    SameBut F s₀ (loadDram s slot a info) := by
  unfold loadDram
  with_reducible repeat' first | assumption | exact subset_of hF (by decide) | intro _ | apply imageLoad_sameBut

theorem imageUnload_sameBut (hF : [Part.regs, .events, .objs, .answer, .images] ⊆ F) {s : State} {slot}
    (h0 : SameBut F s₀ s) :
    SameBut F s₀ (imageUnload s slot) := by
  unfold imageUnload
  with_reducible repeat' first
    | assumption | exact subset_of hF (by decide) | intro _ | apply keeps_ite | apply lowRole_sameBut
    | apply conflict_sameBut | apply reply_sameBut | apply imagesShow_sameBut | dsimp only | split
    | apply withImages_sameBut

theorem switchSave_sameBut (hF : [Part.objs, .images] ⊆ F) {s : State} (h0 : SameBut F s₀ s) :
    SameBut F s₀ (switchSave s) := by
  unfold switchSave
  with_reducible repeat' first
    | assumption | exact subset_of hF (by decide) | intro _ | apply setImage_sameBut | dsimp only | split

theorem delayLevels_sameBut (hF : [Part.regs] ⊆ F) {s : State} (h0 : SameBut F s₀ s) :
    SameBut F s₀ (delayLevels s) := by
  unfold delayLevels
  with_reducible repeat' first
    | assumption | exact subset_of hF (by decide) | intro _ | apply keeps_foldl | apply keeps_foldl_fst
    | apply put_sameBut | apply dsLevel_sameBut

theorem switchClear_sameBut (hF : [Part.regs, .mem, .mesh, .clearing, .creditDue, .oooSeen, .delivery, .streams] ⊆ F)
    {s : State} (h : SameBut F s₀ s) : SameBut F s₀ (switchClear s) := by
  unfold switchClear
  with_reducible repeat' first
    | assumption | exact subset_of hF (by decide) | intro _ | apply onStreams_sameBut | apply onDelivery_sameBut
    | apply onMesh_sameBut | dsimp only | apply withRegsMemClearingCreditDueOooSeen_sameBut

theorem place_sameBut (hF : [Part.regs, .mem, .events, .mesh, .fw] ⊆ F) {s : State} {a} (h0 : SameBut F s₀ s) :
    SameBut F s₀ (place s a) := by
  unfold place
  with_reducible repeat' first
    | assumption | exact subset_of hF (by decide) | intro _ | apply setReg_sameBut | apply wrBytes_sameBut
    | apply onMesh_sameBut | apply put_sameBut | split

theorem unretain_sameBut (hF : [Part.regs, .mem, .mesh, .delivery] ⊆ F) {s : State} {r} (h0 : SameBut F s₀ s) :
    SameBut F s₀ (unretain s r) := by
  unfold unretain
  with_reducible repeat' first
    | assumption | exact subset_of hF (by decide) | intro _ | apply keeps_foldl | apply keeps_foldl_fst
    | apply keeps_foldl_snd | apply keeps_ite_snd | apply setReg_sameBut | apply onMesh_sameBut
    | apply onDelivery_sameBut | dsimp only | apply withMem_sameBut | apply withRegsMem_sameBut

theorem imageSettings_sameBut (hF : [Part.regs] ⊆ F) {s : State} {x1} (h0 : SameBut F s₀ s) :
    SameBut F s₀ (imageSettings s x1) := by
  unfold imageSettings
  with_reducible repeat' first | assumption | exact subset_of hF (by decide) | intro _ | apply put_sameBut

theorem slotsSwap_sameBut (hF : [Part.regs, .events, .streams] ⊆ F) {s : State} (h0 : SameBut F s₀ s) :
    SameBut F s₀ (slotsSwap s) := by
  unfold slotsSwap
  with_reducible repeat' first
    | assumption | exact subset_of hF (by decide) | intro _ | apply swapRequest_sameBut | apply checkEnd_sameBut
    | apply checkStart_sameBut | apply standbyWritten_sameBut

theorem weightsBack_sameBut (hF : [Part.regs, .mem, .events, .fw] ⊆ F) {s : State} (h0 : SameBut F s₀ s) :
    SameBut F s₀ (weightsBack s) := by
  unfold weightsBack
  with_reducible repeat' first
    | assumption | exact subset_of hF (by decide) | intro _ | apply keeps_foldl | apply keeps_foldl_fst
    | apply keeps_foldl_snd | apply keeps_ite_snd | apply wrBytes_sameBut | dsimp only | split

theorem slotsReload_sameBut (hF : [Part.regs] ⊆ F) {s : State} {old : State} (h0 : SameBut F s₀ s)
    (_ : SameBut F s₀ old) :
    SameBut F s₀ (slotsReload s old) := by
  unfold slotsReload
  with_reducible repeat' first
    | assumption | exact subset_of hF (by decide) | intro _ | apply keeps_foldl | apply keeps_foldl_fst
    | apply put_sameBut

theorem switchLoad_sameBut
(hF : [Part.regs, .mem, .events, .mesh, .objs, .loadStep, .clearing, .creditDue, .oooSeen, .delivery, .streams,
    .hub, .fw, .clock, .images] ⊆ F)
    {s : State} {i} (h0 : SameBut F s₀ s) :
    SameBut F s₀ (switchLoad s i) := by
  unfold switchLoad
  with_reducible repeat' first
    | assumption | exact subset_of hF (by decide) | intro _ | apply keeps_foldl | apply keeps_ite
    | apply keeps_foldl_fst | apply switchClear_sameBut | apply setImage_sameBut | apply place_sameBut
    | apply unretain_sameBut | apply onClock_sameBut | apply winBase_sameBut | apply slotsReload_sameBut
    | apply weightsBack_sameBut | apply slotsSwap_sameBut | apply learnLoad_sameBut | apply put64_sameBut
    | apply imageSettings_sameBut | apply delayLevels_sameBut | apply objApply_sameBut | dsimp only | split
    | apply withImages_sameBut | apply withLoadStep_sameBut

theorem switchEnd_sameBut (hF : [Part.regs, .events, .sent, .clock] ⊆ F) {s : State} (h0 : SameBut F s₀ s) :
    SameBut F s₀ (switchEnd s) := by
  unfold switchEnd
  with_reducible repeat' first
    | assumption | exact subset_of hF (by decide) | intro _ | apply onClock_sameBut | apply put_sameBut
    | apply raise_sameBut | apply log_sameBut | dsimp only

theorem switchRefuse_sameBut (hF : [Part.regs, .events, .objs, .answer] ⊆ F) {s : State} {reason}
    (h0 : SameBut F s₀ s) :
    SameBut F s₀ (switchRefuse s reason) := by
  unfold switchRefuse
  with_reducible repeat' first
    | assumption | exact subset_of hF (by decide) | intro _ | apply conflict_sameBut | apply put_sameBut

theorem switchAccept_sameBut (hF : [Part.regs, .clock] ⊆ F) {s : State} {w} (h0 : SameBut F s₀ s) :
    SameBut F s₀ (switchAccept s w) := by
  unfold switchAccept
  with_reducible repeat' first
    | assumption | exact subset_of hF (by decide) | intro _ | apply keeps_ite | apply onClock_sameBut
    | apply put_sameBut | apply switchBegin_sameBut | dsimp only

theorem switchWithdraw_sameBut (hF : [Part.regs, .clock] ⊆ F) {s : State} (h0 : SameBut F s₀ s) :
    SameBut F s₀ (switchWithdraw s) := by
  unfold switchWithdraw
  with_reducible repeat' first
    | assumption | exact subset_of hF (by decide) | intro _ | apply keeps_ite | apply onClock_sameBut
    | apply put_sameBut | apply setPhase_sameBut | dsimp only

theorem switchNow_sameBut
(hF : [Part.regs, .mem, .events, .mesh, .objs, .loadStep, .clearing, .creditDue, .oooSeen, .delivery, .streams,
    .hub, .sent, .fw, .clock, .images] ⊆ F)
    {s : State} {w} (h0 : SameBut F s₀ s) :
    SameBut F s₀ (switchNow s w) := by
  unfold switchNow
  with_reducible repeat' first
    | assumption | exact subset_of hF (by decide) | intro _ | apply keeps_ite | apply switchSave_sameBut
    | apply switchEnd_sameBut | apply switchLoad_sameBut | dsimp only

theorem switchVote_sameBut (hF : [Part.regs, .sent, .tlk, .clock] ⊆ F) {s : State} {w} (h0 : SameBut F s₀ s) :
    SameBut F s₀ (switchVote s w) := by
  unfold switchVote
  with_reducible repeat' first
    | assumption | exact subset_of hF (by decide) | intro _ | apply onClock_sameBut | apply put_sameBut
    | apply toWorkers_sameBut | dsimp only

theorem switchRequest_sameBut
(hF : [Part.regs, .mem, .freeCount, .events, .mesh, .objs, .loadStep, .clearing, .creditDue, .oooSeen, .delivery,
    .streams, .hub, .sent, .answer, .fw, .tlk, .clock, .images] ⊆ F)
    {s : State} (h0 : SameBut F s₀ s) :
    SameBut F s₀ (switchRequest s) := by
  unfold switchRequest
  with_reducible repeat' first
    | assumption | exact subset_of hF (by decide) | intro _ | apply keeps_ite | apply put_sameBut
    | apply switchRefuse_sameBut | apply reply_sameBut | apply switchNow_sameBut | apply switchVote_sameBut
    | apply useFree_sameBut | apply switchAccept_sameBut | dsimp only

theorem voteFail_sameBut (hF : [Part.regs, .events, .objs, .sent, .answer, .tlk, .clock] ⊆ F) {s : State}
    {reason} (h0 : SameBut F s₀ s) :
    SameBut F s₀ (voteFail s reason) := by
  unfold voteFail
  with_reducible repeat' first
    | assumption | exact subset_of hF (by decide) | intro _ | apply toWorkers_sameBut | apply onClock_sameBut
    | apply switchRefuse_sameBut | split

theorem voteTimeout_sameBut (hF : [Part.regs, .events, .objs, .sent, .answer, .tlk, .clock] ⊆ F) {s : State} {n}
    (h0 : SameBut F s₀ s) :
    SameBut F s₀ (voteTimeout s n) := by
  unfold voteTimeout
  with_reducible repeat' first
    | assumption | exact subset_of hF (by decide) | intro _ | apply keeps_ite | apply voteFail_sameBut
    | apply reach_sameBut | split

theorem voteTake_sameBut
(hF : [Part.regs, .mem, .freeCount, .events, .mesh, .objs, .loadStep, .clearing, .creditDue, .oooSeen, .delivery,
    .streams, .hub, .sent, .answer, .fw, .tlk, .clock, .images] ⊆ F)
    {s : State} {n reason} (h0 : SameBut F s₀ s) :
    SameBut F s₀ (voteTake s n reason) := by
  unfold voteTake
  with_reducible repeat' first
    | assumption | exact subset_of hF (by decide) | intro _ | apply keeps_ite | apply voteFail_sameBut
    | apply switchNow_sameBut | apply onClock_sameBut | apply useFree_sameBut | apply switchAccept_sameBut
    | dsimp only | split

theorem switchDone_sameBut
(hF : [Part.regs, .mem, .events, .mesh, .once, .objs, .loadStep, .clearing, .creditDue, .oooSeen, .delivery,
    .streams, .hub, .sent, .fw, .tlk, .clock, .images] ⊆ F)
    {s : State} (h0 : SameBut F s₀ s) :
    SameBut F s₀ (switchDone s) := by
  unfold switchDone
  with_reducible repeat' first
    | assumption | exact subset_of hF (by decide) | intro _ | apply keeps_ite | apply switchSave_sameBut
    | apply switchEnd_sameBut | apply put_sameBut | apply switchLoad_sameBut | apply haltNow_sameBut
    | apply setPhase_sameBut | apply arm_sameBut | dsimp only | split

theorem execImageLoadFlash_sameBut (hF : [Part.regs, .mem, .events, .objs, .answer, .sec, .fw, .images] ⊆ F)
    {slot entry info} {s : State} (h3 : SameBut F s₀ s) :
    ResultSameBut F s₀ (execImageLoadFlash slot entry info s) := by
  unfold execImageLoadFlash
  with_reducible repeat' first
    | assumption | exact subset_of hF (by decide) | apply done_sameBut | intro _ | apply loadFlash_sameBut
    | apply touchSlot_sameBut | apply auditWrite_sameBut | dsimp only

theorem execImageLoadDram_sameBut (hF : [Part.regs, .mem, .events, .objs, .answer, .sec, .fw, .images] ⊆ F)
    {slot addr info} {s : State} (h3 : SameBut F s₀ s) :
    ResultSameBut F s₀ (execImageLoadDram slot addr info s) := by
  unfold execImageLoadDram
  with_reducible repeat' first
    | assumption | exact subset_of hF (by decide) | apply done_sameBut | intro _ | apply loadDram_sameBut
    | apply touchSlot_sameBut | apply auditWrite_sameBut | dsimp only

theorem execImageUnload_sameBut (hF : [Part.regs, .mem, .events, .objs, .answer, .sec, .fw, .images] ⊆ F) {slot}
    {s : State} (h1 : SameBut F s₀ s) :
    ResultSameBut F s₀ (execImageUnload slot s) := by
  unfold execImageUnload
  with_reducible repeat' first
    | assumption | exact subset_of hF (by decide) | apply done_sameBut | intro _ | apply auditWrite_sameBut
    | apply imageUnload_sameBut | apply touchSlot_sameBut

theorem execSwitchRequest_sameBut
(hF : [Part.regs, .mem, .freeCount, .events, .mesh, .objs, .loadStep, .clearing, .creditDue, .oooSeen, .delivery,
    .streams, .hub, .sent, .answer, .fw, .tlk, .clock, .images] ⊆ F)
    {s : State} (h0 : SameBut F s₀ s) :
    ResultSameBut F s₀ (execSwitchRequest s) := by
  unfold execSwitchRequest
  with_reducible repeat' first
    | assumption | exact subset_of hF (by decide) | apply done_sameBut | intro _ | apply switchRequest_sameBut

theorem execSwitchVoteTimeout_sameBut (hF : [Part.regs, .events, .objs, .sent, .answer, .tlk, .clock] ⊆ F)
    {worker} {s : State} (h1 : SameBut F s₀ s) :
    ResultSameBut F s₀ (execSwitchVoteTimeout worker s) := by
  unfold execSwitchVoteTimeout
  with_reducible repeat' first
    | assumption | exact subset_of hF (by decide) | apply done_sameBut | intro _ | apply voteTimeout_sameBut

theorem execImageSwitchLoadDone_sameBut
(hF : [Part.regs, .mem, .events, .mesh, .once, .objs, .loadStep, .clearing, .creditDue, .oooSeen, .delivery,
    .streams, .hub, .sent, .fw, .tlk, .clock, .images] ⊆ F)
    {s : State} (h0 : SameBut F s₀ s) :
    ResultSameBut F s₀ (execImageSwitchLoadDone s) := by
  unfold execImageSwitchLoadDone
  with_reducible repeat' first
    | assumption | exact subset_of hF (by decide) | apply done_sameBut | intro _ | apply switchDone_sameBut

end Sys2Proof.Machine.State
end

section
set_option Elab.async false
/-! PROOFS. The footprints of the operations of `Sys2Proof/Machine/Firmware.lean`. -/

namespace Sys2Proof.Machine.State

set_option linter.unusedTactic false
set_option linter.unreachableTactic false

variable {F : List Part} {s₀ : State}

theorem onFw_sameBut (hF : [Part.fw] ⊆ F) {s : State} {f} (h0 : SameBut F s₀ s) : SameBut F s₀ (onFw s f) := by
  unfold onFw
  with_reducible repeat' first | assumption | exact subset_of hF (by decide) | intro _ | apply withFw_sameBut

theorem dirWrite_sameBut (hF : [Part.regs, .mem, .objs] ⊆ F) {s : State} {active trial prev}
    (h0 : SameBut F s₀ s) :
    SameBut F s₀ (dirWrite s active trial prev) := by
  unfold dirWrite
  with_reducible repeat' first
    | assumption | exact subset_of hF (by decide) | intro _ | apply keeps_ite | apply rawBytes_sameBut
    | apply setObj_sameBut | apply put_sameBut | dsimp only | split

theorem erase_sameBut (hF : [Part.mem] ⊆ F) {s : State} {a n} (h0 : SameBut F s₀ s) : SameBut F s₀ (erase s a n) := by
  unfold erase
  with_reducible repeat' first | assumption | exact subset_of hF (by decide) | intro _ | apply rawBytes_sameBut

theorem flashCommand_sameBut (hF : [Part.regs, .mem, .events, .answer] ⊆ F) {s : State} {off eraseLen data}
    (h0 : SameBut F s₀ s) :
    SameBut F s₀ (flashCommand s off eraseLen data) := by
  unfold flashCommand
  with_reducible repeat' first
    | assumption | exact subset_of hF (by decide) | intro _ | apply keeps_ite | apply keeps_getD | apply log_sameBut
    | apply erase_sameBut | apply rawBytes_sameBut | dsimp only | split | apply withAnswer_sameBut

theorem updateNo_sameBut (hF : [Part.regs, .events, .objs, .answer] ⊆ F) {s : State} {reason}
    (h0 : SameBut F s₀ s) :
    SameBut F s₀ (updateNo s reason) := by
  unfold updateNo
  with_reducible repeat' first | assumption | exact subset_of hF (by decide) | intro _ | apply conflict_sameBut

theorem updateFail_sameBut (hF : [Part.regs, .events, .objs, .progress, .fw] ⊆ F) {s : State} {reason}
    (h0 : SameBut F s₀ s) :
    SameBut F s₀ (updateFail s reason) := by
  unfold updateFail
  with_reducible repeat' first
    | assumption | exact subset_of hF (by decide) | intro _ | apply onFw_sameBut | apply progEnd_sameBut
    | apply log_sameBut | apply setObj_sameBut | dsimp only

theorem updateRole_sameBut (hF : [Part.objs, .answer] ⊆ F) {s : State} {slot sub} {go : State}
    (h0 : SameBut F s₀ s) (h3 : SameBut F s₀ go) :
    SameBut F s₀ (updateRole s slot sub go) := by
  unfold updateRole
  with_reducible repeat' first
    | assumption | exact subset_of hF (by decide) | intro _ | apply keeps_ite | apply lowRole_sameBut

theorem updateBegin_sameBut (hF : [Part.regs, .mem, .events, .objs, .answer, .fw] ⊆ F) {s : State}
    (h0 : SameBut F s₀ s) :
    SameBut F s₀ (updateBegin s) := by
  unfold updateBegin
  with_reducible repeat' first
    | assumption | exact subset_of hF (by decide) | intro _ | apply keeps_ite | apply updateNo_sameBut
    | apply onFw_sameBut | apply erase_sameBut | apply reply_sameBut | apply log_sameBut | dsimp only

theorem updateData_sameBut (hF : [Part.mem, .answer, .fw] ⊆ F) {s : State} {offset data} (h0 : SameBut F s₀ s) :
    SameBut F s₀ (updateData s offset data) := by
  unfold updateData
  with_reducible repeat' first
    | assumption | exact subset_of hF (by decide) | intro _ | apply keeps_ite | apply reply_sameBut
    | apply onFw_sameBut | apply rawBytes_sameBut | dsimp only

theorem fwAudit_sameBut (hF : [Part.regs, .mem, .events, .objs, .sec, .fw] ⊆ F) {s : State} {cmd st}
    (h0 : SameBut F s₀ s) :
    SameBut F s₀ (fwAudit s cmd st) := by
  unfold fwAudit
  with_reducible repeat' first
    | assumption | exact subset_of hF (by decide) | intro _ | apply put_sameBut | apply audit_sameBut

theorem openInactive_sameBut (hF : [Part.regs, .mem, .objs] ⊆ F) {s : State} (h0 : SameBut F s₀ s) :
    SameBut F s₀ (openInactive s) := by
  unfold openInactive
  with_reducible repeat' first
    | assumption | exact subset_of hF (by decide) | intro _ | apply put_sameBut | apply dirWrite_sameBut

theorem updateVerify_sameBut (hF : [Part.regs, .mem, .events, .objs, .progress, .answer, .sec, .fw] ⊆ F)
    {s : State} (h0 : SameBut F s₀ s) :
    SameBut F s₀ (updateVerify s) := by
  unfold updateVerify
  with_reducible repeat' first
    | assumption | exact subset_of hF (by decide) | intro _ | apply keeps_ite | apply updateNo_sameBut
    | apply progStart_sameBut | apply onFw_sameBut | apply reply_sameBut | apply updateFail_sameBut
    | apply fwAudit_sameBut | apply openInactive_sameBut | apply progAdd_sameBut | apply erase_sameBut | dsimp only

theorem updateDone_sameBut (hF : [Part.regs, .mem, .events, .objs, .progress, .fw] ⊆ F) {s : State}
    (h0 : SameBut F s₀ s) :
    SameBut F s₀ (updateDone s) := by
  unfold updateDone
  with_reducible repeat' first
    | assumption | exact subset_of hF (by decide) | intro _ | apply keeps_ite | apply progAdd_sameBut
    | apply rawBytes_sameBut | apply updateFail_sameBut | apply log_sameBut | apply onFw_sameBut
    | apply progEnd_sameBut | dsimp only

theorem sigUnit_sameBut (hF : [Part.regs, .chkWait] ⊆ F) {s : State} (h0 : SameBut F s₀ s) :
    SameBut F s₀ (sigUnit s) := by
  unfold sigUnit
  with_reducible repeat' first
    | assumption | exact subset_of hF (by decide) | intro _ | apply keeps_ite | apply chkClaim_sameBut
    | apply withChkWait_sameBut

theorem sigStart_sameBut (hF : [Part.regs, .fw, .chkWait] ⊆ F) {s : State} {r} (h0 : SameBut F s₀ s) :
    SameBut F s₀ (sigStart s r) := by
  unfold sigStart
  with_reducible repeat' first
    | assumption | exact subset_of hF (by decide) | intro _ | apply keeps_ite | apply put_sameBut
    | apply sigUnit_sameBut | apply onFw_sameBut | dsimp only

theorem sigDone_sameBut (hF : [Part.regs, .fw] ⊆ F) {s : State} (h0 : SameBut F s₀ s) : SameBut F s₀ (sigDone s) := by
  unfold sigDone
  with_reducible repeat' first
    | assumption | exact subset_of hF (by decide) | intro _ | apply keeps_ite | apply put_sameBut | apply onFw_sameBut
    | dsimp only | split

theorem fwRefuse_sameBut (hF : [Part.regs, .mem, .events, .objs, .sec, .fw] ⊆ F) {s : State} {cmd}
    (h0 : SameBut F s₀ s) :
    SameBut F s₀ (fwRefuse s cmd) := by
  unfold fwRefuse
  with_reducible repeat' first
    | assumption | exact subset_of hF (by decide) | intro _ | apply log_sameBut | apply fwAudit_sameBut

theorem fwCommand_sameBut (hF : [Part.regs, .mem, .events, .objs, .sec, .fw] ⊆ F) {s : State} {hart cmd may go}
    (h0 : SameBut F s₀ s) (h4 : ∀ (a : State), SameBut F s₀ a → SameBut F s₀ (go a)) :
    SameBut F s₀ (fwCommand s hart cmd may go) := by
  unfold fwCommand
  with_reducible repeat' first
    | assumption | exact subset_of hF (by decide) | intro _ | apply keeps_ite | apply fwAudit_sameBut
    | apply fwRefuse_sameBut | apply h4

theorem updateActivate_sameBut (hF : [Part.regs, .mem, .events, .objs, .answer, .fw, .chkWait] ⊆ F) {s : State}
    (h0 : SameBut F s₀ s) :
    SameBut F s₀ (updateActivate s) := by
  unfold updateActivate
  with_reducible repeat' first
    | assumption | exact subset_of hF (by decide) | intro _ | apply keeps_ite | apply updateNo_sameBut
    | apply wrBytes_sameBut | apply reply_sameBut | apply onFw_sameBut | apply sigStart_sameBut | dsimp only

theorem activate_sameBut (hF : [Part.regs, .fw] ⊆ F) {s : State} (h0 : SameBut F s₀ s) :
    SameBut F s₀ (activate s) := by
  unfold activate
  with_reducible repeat' first
    | assumption | exact subset_of hF (by decide) | intro _ | apply onFw_sameBut | apply put_sameBut

theorem watchdogLoad_sameBut (hF : [Part.regs, .fw] ⊆ F) {s : State} (h0 : SameBut F s₀ s) :
    SameBut F s₀ (watchdogLoad s) := by
  unfold watchdogLoad
  with_reducible repeat' first
    | assumption | exact subset_of hF (by decide) | intro _ | apply onFw_sameBut | apply put_sameBut

theorem fallbackOff_sameBut (hF : [Part.regs] ⊆ F) {s : State} (h0 : SameBut F s₀ s) :
    SameBut F s₀ (fallbackOff s) := by
  unfold fallbackOff
  with_reducible repeat' first | assumption | exact subset_of hF (by decide) | intro _ | apply put_sameBut

theorem swap_sameBut (hF : [Part.regs, .mem, .events, .objs, .fw] ⊆ F) {s : State} (h0 : SameBut F s₀ s) :
    SameBut F s₀ (swap s) := by
  unfold swap
  with_reducible repeat' first
    | assumption | exact subset_of hF (by decide) | intro _ | apply keeps_ite | apply put_sameBut
    | apply watchdogLoad_sameBut | apply dirWrite_sameBut | apply onFw_sameBut | apply log_sameBut
    | apply setObj_sameBut | dsimp only

theorem confirm_sameBut (hF : [Part.regs, .mem, .events, .objs] ⊆ F) {s : State} (h0 : SameBut F s₀ s) :
    SameBut F s₀ (confirm s) := by
  unfold confirm
  with_reducible repeat' first
    | assumption | exact subset_of hF (by decide) | intro _ | apply keeps_ite | apply log_sameBut
    | apply setObj_sameBut | apply dirWrite_sameBut | apply fallbackOff_sameBut

theorem fallback_sameBut (hF : [Part.regs, .mem, .events, .objs, .fw] ⊆ F) {s : State} {cause}
    (h0 : SameBut F s₀ s) :
    SameBut F s₀ (fallback s cause) := by
  unfold fallback
  with_reducible repeat' first
    | assumption | exact subset_of hF (by decide) | intro _ | apply fallbackOff_sameBut | apply dirWrite_sameBut
    | apply put_sameBut | apply wrBytes_sameBut | apply onFw_sameBut | apply log_sameBut | apply countObj_sameBut
    | apply setObj_sameBut | dsimp only

theorem updateAbort_sameBut (hF : [Part.regs, .mem, .events, .objs, .progress, .answer, .fw] ⊆ F) {s : State}
    (h0 : SameBut F s₀ s) :
    SameBut F s₀ (updateAbort s) := by
  unfold updateAbort
  with_reducible repeat' first
    | assumption | exact subset_of hF (by decide) | intro _ | apply keeps_ite | apply reply_sameBut
    | apply fallback_sameBut | apply progEnd_sameBut | apply onFw_sameBut | apply updateNo_sameBut | dsimp only

theorem fallbackExpire_sameBut (hF : [Part.regs, .mem, .events, .objs, .fw] ⊆ F) {s : State}
    (h0 : SameBut F s₀ s) :
    SameBut F s₀ (fallbackExpire s) := by
  unfold fallbackExpire
  with_reducible repeat' first
    | assumption | exact subset_of hF (by decide) | intro _ | apply keeps_ite | apply fallback_sameBut
    | apply reach_sameBut

theorem readyTimeout_sameBut (hF : [Part.regs, .events, .fw] ⊆ F) {s : State} (h0 : SameBut F s₀ s) :
    SameBut F s₀ (readyTimeout s) := by
  unfold readyTimeout
  with_reducible repeat' first
    | assumption | exact subset_of hF (by decide) | intro _ | apply onFw_sameBut | apply put_sameBut
    | apply reach_sameBut | apply log_sameBut | dsimp only | split

theorem badKick_sameBut (hF : [Part.regs] ⊆ F) {s : State} (h0 : SameBut F s₀ s) : SameBut F s₀ (badKick s) := by
  unfold badKick
  with_reducible repeat' first
    | assumption | exact subset_of hF (by decide) | intro _ | apply put_sameBut | apply count_sameBut

theorem kicked_sameBut (hF : [Part.regs, .mem, .events, .sent, .can, .guard, .fw] ⊆ F) {s : State}
    (h0 : SameBut F s₀ s) :
    SameBut F s₀ (kicked s) := by
  unfold kicked
  with_reducible repeat' first
    | assumption | exact subset_of hF (by decide) | intro _ | apply keeps_ite | apply watchdogLoad_sameBut
    | apply put_sameBut | apply guardScan_sameBut | apply log_sameBut | dsimp only

theorem kick_sameBut (hF : [Part.regs, .mem, .events, .sent, .can, .guard, .fw] ⊆ F) {s : State} {hart v}
    (h0 : SameBut F s₀ s) :
    SameBut F s₀ (kick s hart v) := by
  unfold kick
  with_reducible repeat' first
    | assumption | exact subset_of hF (by decide) | intro _ | apply keeps_ite | apply kicked_sameBut
    | apply onFw_sameBut | apply put_sameBut | apply badKick_sameBut

theorem watchdogExpire_sameBut (hF : [Part.regs, .mem, .events, .objs, .sent, .can, .guard, .fw] ⊆ F)
    {s : State} (h0 : SameBut F s₀ s) :
    SameBut F s₀ (watchdogExpire s) := by
  unfold watchdogExpire
  with_reducible repeat' first
    | assumption | exact subset_of hF (by decide) | intro _ | apply keeps_ite | apply onFw_sameBut
    | apply reach_sameBut | apply put_sameBut | apply guardScan_sameBut | apply log_sameBut | apply countObj_sameBut
    | apply fallback_sameBut | dsimp only | split

theorem tileSwitched_sameBut (hF : [Part.regs, .fault] ⊆ F) {s : State} {t} (h0 : SameBut F s₀ s) :
    SameBut F s₀ (tileSwitched s t) := by
  unfold tileSwitched
  with_reducible repeat' first
    | assumption | exact subset_of hF (by decide) | intro _ | apply keeps_ite | apply put_sameBut
    | apply onFault_sameBut | dsimp only

theorem tilesSwitch_sameBut (hF : [Part.regs, .events, .fault, .fw] ⊆ F) {s : State} (h0 : SameBut F s₀ s) :
    SameBut F s₀ (tilesSwitch s) := by
  unfold tilesSwitch
  with_reducible repeat' first
    | assumption | exact subset_of hF (by decide) | intro _ | apply keeps_foldl | apply keeps_ite
    | apply keeps_foldl_fst | apply keeps_foldl_snd | apply keeps_ite_snd | apply onFw_sameBut
    | apply tileSwitched_sameBut | apply log_sameBut | apply put_sameBut | dsimp only | split

theorem execUpdateBegin_sameBut (hF : [Part.regs, .mem, .events, .objs, .answer, .sec, .fw] ⊆ F) {slot}
    {s : State} (h1 : SameBut F s₀ s) :
    ResultSameBut F s₀ (execUpdateBegin slot s) := by
  unfold execUpdateBegin
  with_reducible repeat' first
    | assumption | exact subset_of hF (by decide) | apply done_sameBut | intro _ | apply touchSlot_sameBut
    | apply auditWrite_sameBut | apply updateRole_sameBut | apply updateBegin_sameBut | dsimp only

theorem execUpdateData_sameBut (hF : [Part.regs, .mem, .events, .objs, .answer, .sec, .fw] ⊆ F)
    {slot offset data} {s : State} (h3 : SameBut F s₀ s) :
    ResultSameBut F s₀ (execUpdateData slot offset data s) := by
  unfold execUpdateData
  with_reducible repeat' first
    | assumption | exact subset_of hF (by decide) | apply done_sameBut | intro _ | apply touchSlot_sameBut
    | apply auditWrite_sameBut | apply updateRole_sameBut | apply updateData_sameBut | dsimp only

theorem execUpdateVerifyWrite_sameBut
    (hF : [Part.regs, .mem, .events, .objs, .progress, .answer, .sec, .fw] ⊆ F) {slot} {s : State}
    (h1 : SameBut F s₀ s) :
    ResultSameBut F s₀ (execUpdateVerifyWrite slot s) := by
  unfold execUpdateVerifyWrite
  with_reducible repeat' first
    | assumption | exact subset_of hF (by decide) | apply done_sameBut | intro _ | apply touchSlot_sameBut
    | apply auditWrite_sameBut | apply updateRole_sameBut | apply updateVerify_sameBut | dsimp only

theorem execUpdateApplyDone_sameBut (hF : [Part.regs, .mem, .events, .objs, .progress, .fw] ⊆ F) {s : State}
    (h0 : SameBut F s₀ s) :
    ResultSameBut F s₀ (execUpdateApplyDone s) := by
  unfold execUpdateApplyDone
  with_reducible repeat' first
    | assumption | exact subset_of hF (by decide) | apply done_sameBut | intro _ | apply updateDone_sameBut

theorem execUpdateActivate_sameBut (hF : [Part.regs, .mem, .events, .objs, .answer, .sec, .fw, .chkWait] ⊆ F)
    {slot} {s : State} (h1 : SameBut F s₀ s) :
    ResultSameBut F s₀ (execUpdateActivate slot s) := by
  unfold execUpdateActivate
  with_reducible repeat' first
    | assumption | exact subset_of hF (by decide) | apply done_sameBut | intro _ | apply touchSlot_sameBut
    | apply auditWrite_sameBut | apply updateRole_sameBut | apply updateActivate_sameBut | dsimp only

theorem execFwActivate_sameBut (hF : [Part.regs, .mem, .events, .objs, .sec, .fw] ⊆ F) {hart} {s : State}
    (h1 : SameBut F s₀ s) :
    ResultSameBut F s₀ (execFwActivate hart s) := by
  unfold execFwActivate
  with_reducible repeat' first
    | assumption | exact subset_of hF (by decide) | apply done_sameBut | intro _ | apply fwCommand_sameBut
    | apply activate_sameBut

theorem execFwOpenInactive_sameBut (hF : [Part.regs, .mem, .events, .objs, .sec, .fw] ⊆ F) {hart} {s : State}
    (h1 : SameBut F s₀ s) :
    ResultSameBut F s₀ (execFwOpenInactive hart s) := by
  unfold execFwOpenInactive
  with_reducible repeat' first
    | assumption | exact subset_of hF (by decide) | apply done_sameBut | intro _ | apply fwCommand_sameBut
    | apply openInactive_sameBut

theorem execSigCheckStart_sameBut (hF : [Part.regs, .fw, .chkWait] ⊆ F) {region} {s : State}
    (h1 : SameBut F s₀ s) :
    ResultSameBut F s₀ (execSigCheckStart region s) := by
  unfold execSigCheckStart
  with_reducible repeat' first
    | assumption | exact subset_of hF (by decide) | apply done_sameBut | intro _ | apply sigStart_sameBut

theorem execSigCheckDone_sameBut (hF : [Part.regs, .fw] ⊆ F) {s : State} (h0 : SameBut F s₀ s) :
    ResultSameBut F s₀ (execSigCheckDone s) := by
  unfold execSigCheckDone
  with_reducible repeat' first
    | assumption | exact subset_of hF (by decide) | apply done_sameBut | intro _ | apply sigDone_sameBut

theorem execHandoverReadyTimeout_sameBut (hF : [Part.regs, .events, .fw] ⊆ F) {s : State} (h0 : SameBut F s₀ s)
    :
    ResultSameBut F s₀ (execHandoverReadyTimeout s) := by
  unfold execHandoverReadyTimeout
  with_reducible repeat' first
    | assumption | exact subset_of hF (by decide) | apply done_sameBut | intro _ | apply readyTimeout_sameBut

theorem execFlashProgramCommand_sameBut (hF : [Part.regs, .mem, .events, .answer] ⊆ F) {offset eraseLen data}
    {s : State} (h3 : SameBut F s₀ s) :
    ResultSameBut F s₀ (execFlashProgramCommand offset eraseLen data s) := by
  unfold execFlashProgramCommand
  with_reducible repeat' first
    | assumption | exact subset_of hF (by decide) | apply done_sameBut | intro _ | apply flashCommand_sameBut

theorem execFwSwitchArm_sameBut (hF : [Part.regs] ⊆ F) {gen} {s : State} (h1 : SameBut F s₀ s) :
    ResultSameBut F s₀ (execFwSwitchArm gen s) := by
  unfold execFwSwitchArm
  with_reducible repeat' first
    | assumption | exact subset_of hF (by decide) | apply done_sameBut | intro _ | apply put_sameBut

end Sys2Proof.Machine.State
end

section
set_option Elab.async false
/-! PROOFS. The footprints of the operations of `Sys2Proof/Machine/Launch.lean`. -/

namespace Sys2Proof.Machine.State

set_option linter.unusedTactic false
set_option linter.unreachableTactic false

variable {F : List Part} {s₀ : State}

theorem runWrite_sameBut
    (hF : [Part.regs, .mem, .events, .once, .objs, .loadStep, .hub, .sent, .fw, .tlk, .clock] ⊆ F) {s : State}
    (h0 : SameBut F s₀ s) :
    SameBut F s₀ (runWrite s) := by
  unfold runWrite
  with_reducible repeat' first
    | assumption | exact subset_of hF (by decide) | intro _ | apply keeps_ite | apply refusal_sameBut
    | apply stepRun_sameBut | apply log_sameBut | dsimp only

theorem runObject_sameBut
    (hF : [Part.regs, .mem, .events, .once, .objs, .loadStep, .hub, .sent, .answer, .fw, .tlk, .clock] ⊆ F)
    {s : State} {slot} (h0 : SameBut F s₀ s) :
    SameBut F s₀ (runObject s slot) := by
  unfold runObject
  with_reducible repeat' first
    | assumption | exact subset_of hF (by decide) | intro _ | apply keeps_ite | apply lowRole_sameBut
    | apply conflict_sameBut | apply runWrite_sameBut | apply reply_sameBut | dsimp only

theorem launch_sameBut
(hF : [Part.regs, .mem, .events, .mesh, .once, .deliveryOpen, .launched, .objs, .fault, .delivery, .streams, .hub,
    .sent, .fw, .clock, .images, .staging, .unsaved] ⊆ F)
    {s : State} (h0 : SameBut F s₀ s) :
    SameBut F s₀ (launch s) := by
  unfold launch
  with_reducible repeat' first
    | assumption | exact subset_of hF (by decide) | intro _ | apply keeps_ite | apply reach_sameBut
    | apply launchCore_sameBut | apply tilesSwitch_sameBut | apply stagedLaunch_sameBut | dsimp only

theorem launchDelayed_sameBut (hF : [Part.regs, .events, .sent, .clock] ⊆ F) {s : State} (h0 : SameBut F s₀ s) :
    SameBut F s₀ (launchDelayed s) := by
  unfold launchDelayed
  with_reducible repeat' first
    | assumption | exact subset_of hF (by decide) | intro _ | apply keeps_ite | apply put64_sameBut
    | apply log_sameBut | apply put_sameBut | apply count_sameBut | apply raise_sameBut | apply onClock_sameBut
    | dsimp only

theorem execPllRelockDone_sameBut (hF : [Part.regs, .events, .sent, .clock, .power] ⊆ F) {half} {s : State}
    (h1 : SameBut F s₀ s) :
    ResultSameBut F s₀ (execPllRelockDone half s) := by
  unfold execPllRelockDone
  with_reducible repeat' first
    | assumption | exact subset_of hF (by decide) | apply done_sameBut | intro _ | apply launchDelayed_sameBut
    | apply pllRelock_sameBut

theorem execStepRun_sameBut
    (hF : [Part.regs, .mem, .events, .once, .objs, .loadStep, .hub, .sent, .answer, .sec, .fw, .tlk, .clock] ⊆ F)
    {slot} {s : State} (h1 : SameBut F s₀ s) :
    ResultSameBut F s₀ (execStepRun slot s) := by
  unfold execStepRun
  with_reducible repeat' first
    | assumption | exact subset_of hF (by decide) | apply done_sameBut | intro _ | apply runWrite_sameBut
    | apply auditWrite_sameBut | apply runObject_sameBut | apply touchSlot_sameBut | split

theorem execStepLaunch_sameBut
(hF : [Part.regs, .mem, .events, .mesh, .once, .deliveryOpen, .launched, .objs, .fault, .delivery, .streams, .hub,
    .sent, .fw, .clock, .images, .staging, .unsaved] ⊆ F)
    {s : State} (h0 : SameBut F s₀ s) :
    ResultSameBut F s₀ (execStepLaunch s) := by
  unfold execStepLaunch
  with_reducible repeat' first
    | assumption | exact subset_of hF (by decide) | apply done_sameBut | intro _ | apply launch_sameBut

end Sys2Proof.Machine.State
end

section
set_option Elab.async false
/-! PROOFS. The footprints of the operations of `Sys2Proof/Machine/Params.lean`. -/

namespace Sys2Proof.Machine.State

set_option linter.unusedTactic false
set_option linter.unreachableTactic false

variable {F : List Part} {s₀ : State}

theorem tpdoConfig_sameBut (hF : [Part.regs] ⊆ F) {s : State} {p} (h0 : SameBut F s₀ s) :
    SameBut F s₀ (tpdoConfig s p) := by
  unfold tpdoConfig
  with_reducible repeat' first
    | assumption | exact subset_of hF (by decide) | intro _ | apply keeps_foldl | apply keeps_ite
    | apply keeps_foldl_fst | apply put_sameBut | dsimp only | apply keeps_id

theorem portsEnable_sameBut (hF : [Part.regs, .sent, .tlk] ⊆ F) {s : State} {mask} (h0 : SameBut F s₀ s) :
    SameBut F s₀ (portsEnable s mask) := by
  unfold portsEnable
  with_reducible repeat' first
    | assumption | exact subset_of hF (by decide) | intro _ | apply keeps_foldl | apply keeps_ite
    | apply keeps_foldl_fst | apply tlkEnable_sameBut | apply put_sameBut

theorem objTake_sameBut (hF : [Part.regs, .events, .objs, .streams, .hub, .sent, .tlk, .power] ⊆ F) {s : State}
    {index sub item v} (h0 : SameBut F s₀ s) :
    SameBut F s₀ (objTake s index sub item v) := by
  unfold objTake
  with_reducible repeat' first
    | assumption | exact subset_of hF (by decide) | intro _ | apply keeps_ite | apply clockWrite_sameBut
    | apply objApply_sameBut | apply tpdoConfig_sameBut | apply portsEnable_sameBut | dsimp only

theorem recordSave_sameBut (hF : [Part.mem, .unsaved] ⊆ F) {s : State} (h0 : SameBut F s₀ s) :
    SameBut F s₀ (recordSave s) := by
  unfold recordSave
  with_reducible repeat' first
    | assumption | exact subset_of hF (by decide) | intro _ | apply keeps_ite | apply rawBytes_sameBut | dsimp only
    | split | apply withUnsaved_sameBut

theorem recordTake_sameBut (hF : [Part.regs, .events, .objs, .streams, .hub, .sent, .tlk, .power] ⊆ F)
    {s : State} {only} (h0 : SameBut F s₀ s) :
    SameBut F s₀ (recordTake s only) := by
  unfold recordTake
  with_reducible repeat' first
    | assumption | exact subset_of hF (by decide) | intro _ | apply keeps_foldl | apply keeps_ite
    | apply keeps_foldl_fst | apply objTake_sameBut | dsimp only | split

theorem recordLoad_sameBut (hF : [Part.regs, .events, .objs, .streams, .hub, .sent, .tlk, .power] ⊆ F)
    {s : State} (h0 : SameBut F s₀ s) :
    SameBut F s₀ (recordLoad s) := by
  unfold recordLoad
  with_reducible repeat' first | assumption | exact subset_of hF (by decide) | intro _ | apply recordTake_sameBut

theorem recordReload_sameBut (hF : [Part.regs, .events, .objs, .streams, .hub, .sent, .tlk, .power] ⊆ F)
    {s : State} (h0 : SameBut F s₀ s) :
    SameBut F s₀ (recordReload s) := by
  unfold recordReload
  with_reducible repeat' first
    | assumption | exact subset_of hF (by decide) | intro _ | apply keeps_foldl | apply keeps_foldl_fst
    | apply keeps_foldl_snd | apply keeps_ite_snd | apply objTake_sameBut | apply recordTake_sameBut | dsimp only

theorem paramSave_sameBut (hF : [Part.mem, .unsaved] ⊆ F) {s : State} {ok} (h0 : SameBut F s₀ s) :
    SameBut F s₀ (paramSave s ok) := by
  unfold paramSave
  with_reducible repeat' first
    | assumption | exact subset_of hF (by decide) | intro _ | apply keeps_ite | apply recordSave_sameBut | split

theorem storeParams_sameBut (hF : [Part.mem, .objs, .answer, .unsaved] ⊆ F) {s : State} {slot v ok}
    (h0 : SameBut F s₀ s) :
    SameBut F s₀ (storeParams s slot v ok) := by
  unfold storeParams
  with_reducible repeat' first
    | assumption | exact subset_of hF (by decide) | intro _ | apply keeps_ite | apply lowRole_sameBut
    | apply reply_sameBut | apply refusal_sameBut | apply recordSave_sameBut

theorem restoreDefaults_sameBut (hF : [Part.mem, .objs, .answer, .unsaved, .restoreDue] ⊆ F) {s : State}
    {slot v} (h0 : SameBut F s₀ s) :
    SameBut F s₀ (restoreDefaults s slot v) := by
  unfold restoreDefaults
  with_reducible repeat' first
    | assumption | exact subset_of hF (by decide) | intro _ | apply keeps_ite | apply lowRole_sameBut
    | apply reply_sameBut | apply refusal_sameBut | apply recordSave_sameBut | apply withRestoreDue_sameBut

theorem execFlashParamSave_sameBut (hF : [Part.mem, .unsaved] ⊆ F) {ok} {s : State} (h1 : SameBut F s₀ s) :
    ResultSameBut F s₀ (execFlashParamSave ok s) := by
  unfold execFlashParamSave
  with_reducible repeat' first
    | assumption | exact subset_of hF (by decide) | apply done_sameBut | intro _ | apply paramSave_sameBut

theorem execStoreParameters_sameBut (hF : [Part.regs, .mem, .events, .objs, .answer, .sec, .fw, .unsaved] ⊆ F)
    {slot value ok} {s : State} (h3 : SameBut F s₀ s) :
    ResultSameBut F s₀ (execStoreParameters slot value ok s) := by
  unfold execStoreParameters
  with_reducible repeat' first
    | assumption | exact subset_of hF (by decide) | apply done_sameBut | intro _ | apply auditWrite_sameBut
    | apply storeParams_sameBut | apply touchSlot_sameBut

theorem execRestoreDefaults_sameBut
    (hF : [Part.regs, .mem, .events, .objs, .answer, .sec, .fw, .unsaved, .restoreDue] ⊆ F) {slot value}
    {s : State} (h2 : SameBut F s₀ s) :
    ResultSameBut F s₀ (execRestoreDefaults slot value s) := by
  unfold execRestoreDefaults
  with_reducible repeat' first
    | assumption | exact subset_of hF (by decide) | apply done_sameBut | intro _ | apply auditWrite_sameBut
    | apply restoreDefaults_sameBut | apply touchSlot_sameBut

end Sys2Proof.Machine.State
end

section
set_option Elab.async false
/-! PROOFS. The footprints of the operations of `Sys2Proof/Machine/Bringup.lean`. -/

namespace Sys2Proof.Machine.State

set_option linter.unusedTactic false
set_option linter.unreachableTactic false

variable {F : List Part} {s₀ : State}

theorem onStart_sameBut (hF : [Part.start] ⊆ F) {s : State} {f} (h0 : SameBut F s₀ s) :
    SameBut F s₀ (onStart s f) := by
  unfold onStart
  with_reducible repeat' first | assumption | exact subset_of hF (by decide) | intro _ | apply withStart_sameBut

theorem railRise_sameBut (hF : [Part.power, .start] ⊆ F) {s : State} {r} (h0 : SameBut F s₀ s) :
    SameBut F s₀ (railRise s r) := by
  unfold railRise
  with_reducible repeat' first
    | assumption | exact subset_of hF (by decide) | intro _ | apply onStart_sameBut | apply onPower_sameBut

theorem railsBegin_sameBut (hF : [Part.power, .start] ⊆ F) {s : State} {rails} (h0 : SameBut F s₀ s) :
    SameBut F s₀ (railsBegin s rails) := by
  unfold railsBegin
  with_reducible repeat' first
    | assumption | exact subset_of hF (by decide) | intro _ | apply onStart_sameBut | apply railRise_sameBut | split

theorem railGood_sameBut (hF : [Part.regs, .power, .start] ⊆ F) {s : State} {r} (h0 : SameBut F s₀ s) :
    SameBut F s₀ (railGood s r) := by
  unfold railGood
  with_reducible repeat' first
    | assumption | exact subset_of hF (by decide) | intro _ | apply keeps_ite | apply put_sameBut
    | apply railsBegin_sameBut | dsimp only

theorem railMissed_sameBut (hF : [Part.regs, .power, .start] ⊆ F) {s : State} {r} (h0 : SameBut F s₀ s) :
    SameBut F s₀ (railMissed s r) := by
  unfold railMissed
  with_reducible repeat' first
    | assumption | exact subset_of hF (by decide) | intro _ | apply keeps_ite | apply put_sameBut
    | apply onStart_sameBut | apply onPower_sameBut | apply fallNext_sameBut | dsimp only

theorem sequenceRetry_sameBut (hF : [Part.regs, .power, .start] ⊆ F) {s : State} (h0 : SameBut F s₀ s) :
    SameBut F s₀ (sequenceRetry s) := by
  unfold sequenceRetry
  with_reducible repeat' first
    | assumption | exact subset_of hF (by decide) | intro _ | apply keeps_ite | apply railsBegin_sameBut
    | apply reach_sameBut

theorem linkOff_sameBut (hF : [Part.regs] ⊆ F) {s : State} {r p} (h0 : SameBut F s₀ s) :
    SameBut F s₀ (linkOff s r p) := by
  unfold linkOff
  with_reducible repeat' first
    | assumption | exact subset_of hF (by decide) | intro _ | apply put_sameBut | dsimp only | split

theorem holesClose_sameBut (hF : [Part.regs] ⊆ F) {s : State} (h0 : SameBut F s₀ s) : SameBut F s₀ (holesClose s) := by
  unfold holesClose
  with_reducible repeat' first
    | assumption | exact subset_of hF (by decide) | intro _ | apply keeps_foldl | apply keeps_foldl_fst
    | apply linkOff_sameBut

theorem mapForm_sameBut (hF : [Part.regs, .events, .objs, .fault, .start] ⊆ F) {s : State} (h0 : SameBut F s₀ s)
    :
    SameBut F s₀ (mapForm s) := by
  unfold mapForm
  with_reducible repeat' first
    | assumption | exact subset_of hF (by decide) | intro _ | apply keeps_foldl | apply keeps_ite
    | apply keeps_foldl_fst | apply onStart_sameBut | apply log_sameBut | apply holesClose_sameBut
    | apply setObj_sameBut | dsimp only | split | apply withFault_sameBut

theorem lttWrite_sameBut (hF : [Part.regs] ⊆ F) {s : State} {base n l} (h0 : SameBut F s₀ s) :
    SameBut F s₀ (lttWrite s base n l) := by
  unfold lttWrite
  with_reducible repeat' first
    | assumption | exact subset_of hF (by decide) | intro _ | apply keeps_foldl | apply keeps_foldl_fst
    | apply setReg_sameBut | apply lttPut_sameBut | dsimp only

theorem tablesWrite_sameBut (hF : [Part.regs] ⊆ F) {s : State} {logical spares} (h0 : SameBut F s₀ s) :
    SameBut F s₀ (tablesWrite s logical spares) := by
  unfold tablesWrite
  with_reducible repeat' first
    | assumption | exact subset_of hF (by decide) | intro _ | apply keeps_foldl | apply keeps_foldl_fst
    | apply keeps_foldl_snd | apply keeps_ite_snd | apply lttWrite_sameBut | dsimp only

theorem tilesName_sameBut (hF : [Part.regs, .events, .objs] ⊆ F) {s : State} (h0 : SameBut F s₀ s) :
    SameBut F s₀ (tilesName s) := by
  unfold tilesName
  with_reducible repeat' first
    | assumption | exact subset_of hF (by decide) | intro _ | apply keeps_ite | apply tablesWrite_sameBut
    | apply setObj_sameBut | apply log_sameBut | dsimp only

theorem broadcastTree_sameBut (hF : [Part.mesh] ⊆ F) {s : State} (h0 : SameBut F s₀ s) :
    SameBut F s₀ (broadcastTree s) := by
  unfold broadcastTree
  with_reducible repeat' first
    | assumption | exact subset_of hF (by decide) | intro _ | apply keeps_foldl | apply keeps_foldl_fst
    | apply onMesh_sameBut | apply mcPort_sameBut | apply mcRecount_sameBut | dsimp only | split

theorem bootHalt_sameBut (hF : [Part.regs, .mem, .events, .sent, .can, .guard, .fw, .power, .start] ⊆ F)
    {s : State} (h0 : SameBut F s₀ s) :
    SameBut F s₀ (bootHalt s) := by
  unfold bootHalt
  with_reducible repeat' first
    | assumption | exact subset_of hF (by decide) | intro _ | apply egressHold_sameBut | apply onStart_sameBut

theorem slotStart_sameBut (hF : [Part.regs, .mem, .events, .objs, .fw] ⊆ F) {s : State} {slot}
    (h0 : SameBut F s₀ s) :
    SameBut F s₀ (slotStart s slot) := by
  unfold slotStart
  with_reducible repeat' first
    | assumption | exact subset_of hF (by decide) | intro _ | apply wrBytes_sameBut | apply watchdogLoad_sameBut
    | apply fallbackOff_sameBut | apply put_sameBut | apply setObj_sameBut | dsimp only

theorem bootSlot_sameBut (hF : [Part.regs, .mem, .events, .objs, .sent, .can, .guard, .fw, .power, .start] ⊆ F)
    {s : State} (h0 : SameBut F s₀ s) :
    SameBut F s₀ (bootSlot s) := by
  unfold bootSlot
  with_reducible repeat' first
    | assumption | exact subset_of hF (by decide) | intro _ | apply keeps_ite | apply keeps_getD | apply put_sameBut
    | apply log_sameBut | apply dirWrite_sameBut | apply slotStart_sameBut | apply bootHalt_sameBut | dsimp only

theorem huskBoot_sameBut (hF : [Part.regs, .mem, .events, .objs, .fault, .sent, .can, .guard, .sec, .fw] ⊆ F)
    {s : State} (h0 : SameBut F s₀ s) :
    SameBut F s₀ (huskBoot s) := by
  unfold huskBoot
  with_reducible repeat' first
    | assumption | exact subset_of hF (by decide) | intro _ | apply keeps_foldl | apply keeps_ite
    | apply keeps_foldl_fst | apply keeps_foldl_snd | apply keeps_ite_snd | apply wipeDone_sameBut
    | apply wipeStart_sameBut | apply log_sameBut | apply put_sameBut | apply setReg_sameBut | apply pinDrive_sameBut
    | apply raw8_sameBut | apply onSec_sameBut | dsimp only | split | apply withFault_sameBut | apply withObjs_sameBut

theorem fusesRead_sameBut (hF : [Part.regs, .objs] ⊆ F) {s : State} (h0 : SameBut F s₀ s) :
    SameBut F s₀ (fusesRead s) := by
  unfold fusesRead
  with_reducible repeat' first
    | assumption | exact subset_of hF (by decide) | intro _ | apply keeps_foldl | apply keeps_getD
    | apply keeps_foldl_fst | apply put64_sameBut | apply setReg_sameBut | apply setObj_sameBut | apply put_sameBut
    | dsimp only

theorem clocksBoot_sameBut (hF : [Part.regs, .power] ⊆ F) {s : State} (h0 : SameBut F s₀ s) :
    SameBut F s₀ (clocksBoot s) := by
  unfold clocksBoot
  with_reducible repeat' first
    | assumption | exact subset_of hF (by decide) | intro _ | apply put_sameBut | apply halfShow_sameBut
    | apply onPower_sameBut | dsimp only

theorem bootEvents_sameBut (hF : [Part.regs, .events, .objs, .start] ⊆ F) {s : State} (h0 : SameBut F s₀ s) :
    SameBut F s₀ (bootEvents s) := by
  unfold bootEvents
  with_reducible repeat' first
    | assumption | exact subset_of hF (by decide) | intro _ | apply keeps_ite | apply log_sameBut | apply put_sameBut
    | apply countObj_sameBut | apply onStart_sameBut | dsimp only

theorem settingsBoot_sameBut
    (hF : [Part.regs, .events, .objs, .streams, .hub, .sent, .canMode, .tlk, .power, .node] ⊆ F) {s : State}
    (h0 : SameBut F s₀ s) :
    SameBut F s₀ (settingsBoot s) := by
  unfold settingsBoot
  with_reducible repeat' first
    | assumption | exact subset_of hF (by decide) | intro _ | apply keeps_foldl | apply keeps_ite
    | apply keeps_foldl_fst | apply recordLoad_sameBut | apply put_sameBut | apply portsEnable_sameBut
    | apply setReg_sameBut | dsimp only | apply withCanModeNode_sameBut

theorem trainCheck_sameBut (hF : [Part.regs, .events, .start] ⊆ F) {s : State} (h0 : SameBut F s₀ s) :
    SameBut F s₀ (trainCheck s) := by
  unfold trainCheck
  with_reducible repeat' first
    | assumption | exact subset_of hF (by decide) | intro _ | apply keeps_ite | apply put_sameBut
    | apply onStart_sameBut | apply log_sameBut | dsimp only

theorem trainLoad_sameBut (hF : [Part.regs] ⊆ F) {s : State} {q} (h0 : SameBut F s₀ s) :
    SameBut F s₀ (trainLoad s q) := by
  unfold trainLoad
  with_reducible repeat' first
    | assumption | exact subset_of hF (by decide) | intro _ | apply keeps_foldl | apply keeps_foldl_fst
    | apply setReg_sameBut | dsimp only

theorem trainBegin_sameBut (hF : [Part.regs, .events, .start] ⊆ F) {s : State} (h0 : SameBut F s₀ s) :
    SameBut F s₀ (trainBegin s) := by
  unfold trainBegin
  with_reducible repeat' first
    | assumption | exact subset_of hF (by decide) | intro _ | apply keeps_foldl | apply keeps_ite
    | apply keeps_foldl_fst | apply trainCheck_sameBut | apply trainLoad_sameBut | apply put_sameBut
    | apply onStart_sameBut | dsimp only

theorem tablesBuild_sameBut (hF : [Part.regs, .events, .mesh, .objs, .fault, .start] ⊆ F) {s : State}
    (h0 : SameBut F s₀ s) :
    SameBut F s₀ (tablesBuild s) := by
  unfold tablesBuild
  with_reducible repeat' first
    | assumption | exact subset_of hF (by decide) | intro _ | apply trainBegin_sameBut | apply broadcastTree_sameBut
    | apply tilesName_sameBut | apply mapForm_sameBut

theorem bistStart_sameBut (hF : [Part.regs, .start] ⊆ F) {s : State} (h0 : SameBut F s₀ s) :
    SameBut F s₀ (bistStart s) := by
  unfold bistStart
  with_reducible repeat' first
    | assumption | exact subset_of hF (by decide) | intro _ | apply keeps_foldl | apply keeps_foldl_fst
    | apply onStart_sameBut | apply put_sameBut | apply setReg_sameBut | dsimp only

theorem bootRom_sameBut
(hF : [Part.regs, .mem, .events, .mesh, .objs, .fault, .streams, .hub, .sent, .can, .canMode, .guard, .sec, .fw,
    .tlk, .power, .start, .node] ⊆ F)
    {s : State} (h0 : SameBut F s₀ s) :
    SameBut F s₀ (bootRom s) := by
  unfold bootRom
  with_reducible repeat' first
    | assumption | exact subset_of hF (by decide) | intro _ | apply keeps_ite | apply keeps_getD
    | apply bootEvents_sameBut | apply clocksBoot_sameBut | apply fusesRead_sameBut | apply huskBoot_sameBut
    | apply bootHalt_sameBut | apply put_sameBut | apply bootSlot_sameBut | apply settingsBoot_sameBut
    | apply setObj_sameBut | apply onStart_sameBut | apply tablesBuild_sameBut | apply bistStart_sameBut | dsimp only
    | split

theorem bootDoze_sameBut (hF : [Part.regs, .events, .mesh, .objs, .start] ⊆ F) {s : State} (h0 : SameBut F s₀ s)
    :
    SameBut F s₀ (bootDoze s) := by
  unfold bootDoze
  with_reducible repeat' first
    | assumption | exact subset_of hF (by decide) | intro _ | apply keeps_foldl | apply keeps_ite
    | apply keeps_foldl_fst | apply bootEvents_sameBut | apply debugClose_sameBut | apply broadcastTree_sameBut
    | apply tablesWrite_sameBut | apply holesClose_sameBut | apply trainCheck_sameBut | apply trainLoad_sameBut
    | apply setObj_sameBut | apply onStart_sameBut | dsimp only

theorem clearDone_sameBut
(hF : [Part.regs, .mem, .events, .mesh, .objs, .fault, .streams, .hub, .sent, .can, .canMode, .guard, .sec, .fw,
    .tlk, .power, .start, .node] ⊆ F)
    {s : State} {us} (h0 : SameBut F s₀ s) :
    SameBut F s₀ (clearDone s us) := by
  unfold clearDone
  with_reducible repeat' first
    | assumption | exact subset_of hF (by decide) | intro _ | apply keeps_ite | apply reach_sameBut
    | apply log_sameBut | apply put_sameBut | apply bootDoze_sameBut | apply bootRom_sameBut | dsimp only

theorem coldStart_sameBut (hF : [Part.regs, .power, .start] ⊆ F) {s : State} {fuses xtal testen ddr}
    (h0 : SameBut F s₀ s) :
    SameBut F s₀ (coldStart s fuses xtal testen ddr) := by
  unfold coldStart
  with_reducible repeat' first
    | assumption | exact subset_of hF (by decide) | intro _ | apply keeps_ite | apply put_sameBut
    | apply onPower_sameBut | apply onStart_sameBut | apply railsBegin_sameBut | dsimp only

theorem bistDone_sameBut
    (hF : [Part.regs, .mem, .events, .mesh, .objs, .fault, .delivery, .streams, .sent, .fw, .start] ⊆ F)
    {s : State} {tiles pods} (h0 : SameBut F s₀ s) :
    SameBut F s₀ (bistDone s tiles pods) := by
  unfold bistDone
  with_reducible repeat' first
    | assumption | exact subset_of hF (by decide) | intro _ | apply keeps_foldl | apply keeps_ite
    | apply keeps_foldl_fst | apply keeps_foldl_snd | apply keeps_ite_snd | apply onStart_sameBut
    | apply setReg_sameBut | apply put_sameBut | apply linkOff_sameBut | apply scmLinkFail_sameBut
    | apply tablesBuild_sameBut | dsimp only | split | apply withMem_sameBut

theorem execColdStart_sameBut (hF : [Part.regs, .power, .start] ⊆ F) {fuses xtal testen ddr} {s : State}
    (h4 : SameBut F s₀ s) :
    ResultSameBut F s₀ (execColdStart fuses xtal testen ddr s) := by
  unfold execColdStart
  with_reducible repeat' first
    | assumption | exact subset_of hF (by decide) | apply done_sameBut | intro _ | apply coldStart_sameBut

theorem execSramClearDone_sameBut
(hF : [Part.regs, .mem, .events, .mesh, .objs, .fault, .streams, .hub, .sent, .can, .canMode, .guard, .sec, .fw,
    .tlk, .power, .start, .node] ⊆ F)
    {us} {s : State} (h1 : SameBut F s₀ s) :
    ResultSameBut F s₀ (execSramClearDone us s) := by
  unfold execSramClearDone
  with_reducible repeat' first
    | assumption | exact subset_of hF (by decide) | apply done_sameBut | intro _ | apply clearDone_sameBut

theorem execRailPowerGood_sameBut (hF : [Part.regs, .power, .start] ⊆ F) {rail} {s : State}
    (h1 : SameBut F s₀ s) :
    ResultSameBut F s₀ (execRailPowerGood rail s) := by
  unfold execRailPowerGood
  with_reducible repeat' first
    | assumption | exact subset_of hF (by decide) | apply done_sameBut | intro _ | apply railGood_sameBut

theorem execRailPgTimeout_sameBut (hF : [Part.regs, .power, .start] ⊆ F) {rail} {s : State}
    (h1 : SameBut F s₀ s) :
    ResultSameBut F s₀ (execRailPgTimeout rail s) := by
  unfold execRailPgTimeout
  with_reducible repeat' first
    | assumption | exact subset_of hF (by decide) | apply done_sameBut | intro _ | apply railMissed_sameBut

theorem execSequenceRetry_sameBut (hF : [Part.regs, .power, .start] ⊆ F) {s : State} (h0 : SameBut F s₀ s) :
    ResultSameBut F s₀ (execSequenceRetry s) := by
  unfold execSequenceRetry
  with_reducible repeat' first
    | assumption | exact subset_of hF (by decide) | apply done_sameBut | intro _ | apply sequenceRetry_sameBut

theorem execBistStart_sameBut (hF : [Part.regs, .start] ⊆ F) {s : State} (h0 : SameBut F s₀ s) :
    ResultSameBut F s₀ (execBistStart s) := by
  unfold execBistStart
  with_reducible repeat' first
    | assumption | exact subset_of hF (by decide) | apply done_sameBut | intro _ | apply bistStart_sameBut

theorem execBistDone_sameBut
    (hF : [Part.regs, .mem, .events, .mesh, .objs, .fault, .delivery, .streams, .sent, .fw, .start] ⊆ F)
    {tiles pods} {s : State} (h2 : SameBut F s₀ s) :
    ResultSameBut F s₀ (execBistDone tiles pods s) := by
  unfold execBistDone
  with_reducible repeat' first
    | assumption | exact subset_of hF (by decide) | apply done_sameBut | intro _ | apply bistDone_sameBut

end Sys2Proof.Machine.State
end

section
set_option Elab.async false
/-! PROOFS. The footprints of the operations of `Sys2Proof/Machine/TileFirmware.lean`. -/

namespace Sys2Proof.Machine.State

set_option linter.unusedTactic false
set_option linter.unreachableTactic false

variable {F : List Part} {s₀ : State}

theorem chunksTo_sameBut (hF : [Part.mesh] ⊆ F) {s : State} {t l} (h0 : SameBut F s₀ s) :
    SameBut F s₀ (chunksTo s t l) := by
  unfold chunksTo
  with_reducible repeat' first
    | assumption | exact subset_of hF (by decide) | intro _ | apply keeps_foldl | apply keeps_foldl_fst
    | apply sendCtrl_sameBut | dsimp only

theorem fwBroadcast_sameBut (hF : [Part.regs, .mesh, .sent, .tlk, .start] ⊆ F) {s : State} (h0 : SameBut F s₀ s)
    :
    SameBut F s₀ (fwBroadcast s) := by
  unfold fwBroadcast
  with_reducible repeat' first
    | assumption | exact subset_of hF (by decide) | intro _ | apply keeps_foldl | apply keeps_ite | apply keeps_getD
    | apply keeps_foldl_fst | apply onStart_sameBut | apply put_sameBut | apply sendCtrl_sameBut
    | apply tlkSend_sameBut | dsimp only

theorem fwBegin_sameBut (hF : [Part.regs, .mesh, .sent, .tlk, .start] ⊆ F) {s : State} (h0 : SameBut F s₀ s) :
    SameBut F s₀ (fwBegin s) := by
  unfold fwBegin
  with_reducible repeat' first
    | assumption | exact subset_of hF (by decide) | intro _ | apply keeps_ite | apply onStart_sameBut
    | apply fwBroadcast_sameBut | dsimp only

theorem fwDrop_sameBut (hF : [Part.regs] ⊆ F) {s : State} {t} (h0 : SameBut F s₀ s) : SameBut F s₀ (fwDrop s t) := by
  unfold fwDrop
  with_reducible repeat' first | assumption | exact subset_of hF (by decide) | intro _ | apply count_sameBut

theorem fwClear_sameBut (hF : [Part.regs] ⊆ F) {s : State} {t} (h0 : SameBut F s₀ s) : SameBut F s₀ (fwClear s t) := by
  unfold fwClear
  with_reducible repeat' first
    | assumption | exact subset_of hF (by decide) | intro _ | apply keeps_foldl | apply keeps_foldl_fst
    | apply setReg_sameBut | apply put_sameBut | dsimp only

theorem fwShow_sameBut (hF : [Part.regs] ⊆ F) {s : State} {t} (h0 : SameBut F s₀ s) : SameBut F s₀ (fwShow s t) := by
  unfold fwShow
  with_reducible repeat' first
    | assumption | exact subset_of hF (by decide) | intro _ | apply keeps_ite | apply put_sameBut | dsimp only | split

theorem fwChunk_sameBut (hF : [Part.regs, .mem, .events, .fw] ⊆ F) {s : State} {t c} (h0 : SameBut F s₀ s) :
    SameBut F s₀ (fwChunk s t c) := by
  unfold fwChunk
  with_reducible repeat' first
    | assumption | exact subset_of hF (by decide) | intro _ | apply keeps_ite | apply keeps_getD
    | apply fwDrop_sameBut | apply onFw_sameBut | apply put_sameBut | apply fwShow_sameBut | apply fwClear_sameBut
    | apply wrBytes_sameBut | dsimp only | split

theorem fwTake_sameBut (hF : [Part.regs, .mem, .events, .mesh, .fw] ⊆ F) {s : State} {t} (h0 : SameBut F s₀ s) :
    SameBut F s₀ (fwTake s t) := by
  unfold fwTake
  with_reducible repeat' first
    | assumption | exact subset_of hF (by decide) | intro _ | apply fwChunk_sameBut | split
    | refine takeCtrl_sameBut (subset_of hF (by decide)) ?_ _ _ (by assumption)

theorem fwReport_sameBut (hF : [Part.regs, .mesh] ⊆ F) {s : State} {t} (h0 : SameBut F s₀ s) :
    SameBut F s₀ (fwReport s t) := by
  unfold fwReport
  with_reducible repeat' first
    | assumption | exact subset_of hF (by decide) | intro _ | apply keeps_foldl | apply keeps_foldl_fst
    | apply offer_sameBut

theorem fwFailed_sameBut (hF : [Part.regs, .events, .objs, .fault, .start] ⊆ F) {s : State} {t}
    (h0 : SameBut F s₀ s) :
    SameBut F s₀ (fwFailed s t) := by
  unfold fwFailed
  with_reducible repeat' first
    | assumption | exact subset_of hF (by decide) | intro _ | apply onFault_sameBut | apply onStart_sameBut
    | apply setObj_sameBut | apply log_sameBut | apply tilesName_sameBut | apply put_sameBut | dsimp only

theorem fwRepair_sameBut (hF : [Part.regs, .events, .mesh, .objs, .fault, .start] ⊆ F) {s : State} {m}
    (h0 : SameBut F s₀ s) :
    SameBut F s₀ (fwRepair s m) := by
  unfold fwRepair
  with_reducible repeat' first
    | assumption | exact subset_of hF (by decide) | intro _ | apply keeps_ite | apply countObj_sameBut
    | apply chunksTo_sameBut | apply onStart_sameBut | apply fwFailed_sameBut | apply fwClear_sameBut | dsimp only
    | split

theorem messageTake_sameBut
    (hF : [Part.regs, .mem, .events, .mesh, .once, .objs, .fault, .sent, .fw, .start] ⊆ F) {s : State} {u ecc}
    (h0 : SameBut F s₀ s) :
    SameBut F s₀ (messageTake s u ecc) := by
  unfold messageTake
  with_reducible repeat' first
    | assumption | exact subset_of hF (by decide) | intro _ | apply keeps_ite | apply receiveMsg_sameBut
    | apply fwRepair_sameBut | dsimp only | split

theorem shadowBroadcast_sameBut (hF : [Part.regs, .mesh, .start] ⊆ F) {s : State} {l} (h0 : SameBut F s₀ s) :
    SameBut F s₀ (shadowBroadcast s l) := by
  unfold shadowBroadcast
  with_reducible repeat' first
    | assumption | exact subset_of hF (by decide) | intro _ | apply keeps_foldl | apply keeps_getD
    | apply keeps_foldl_fst | apply onStart_sameBut | apply put_sameBut | apply sendCtrl_sameBut | dsimp only

theorem swapSend_sameBut (hF : [Part.regs, .mem, .events, .mesh, .objs, .fw, .start] ⊆ F) {s : State}
    (h0 : SameBut F s₀ s) :
    SameBut F s₀ (swapSend s) := by
  unfold swapSend
  with_reducible repeat' first
    | assumption | exact subset_of hF (by decide) | intro _ | apply keeps_ite | apply shadowBroadcast_sameBut
    | apply swap_sameBut

theorem fellBack_sameBut (hF : [Part.regs, .mesh, .start] ⊆ F) {s : State} {old : State} (h0 : SameBut F s₀ s)
    (_ : SameBut F s₀ old) :
    SameBut F s₀ (fellBack s old) := by
  unfold fellBack
  with_reducible repeat' first
    | assumption | exact subset_of hF (by decide) | intro _ | apply keeps_ite | apply shadowBroadcast_sameBut
    | dsimp only | split

theorem fwConfirm_sameBut (hF : [Part.regs, .mem, .events, .mesh, .objs, .sec, .fw, .start] ⊆ F) {s : State}
    {hart} (h0 : SameBut F s₀ s) :
    SameBut F s₀ (fwConfirm s hart) := by
  unfold fwConfirm
  with_reducible repeat' first
    | assumption | exact subset_of hF (by decide) | intro _ | apply keeps_ite | apply fwRefuse_sameBut
    | apply fellBack_sameBut | apply fallback_sameBut | apply fwCommand_sameBut | apply confirm_sameBut

theorem kickWrite_sameBut (hF : [Part.regs, .mem, .events, .mesh, .objs, .sent, .can, .guard, .fw, .start] ⊆ F)
    {s : State} {hart w} (h0 : SameBut F s₀ s) :
    SameBut F s₀ (kickWrite s hart w) := by
  unfold kickWrite
  with_reducible repeat' first
    | assumption | exact subset_of hF (by decide) | intro _ | apply keeps_ite | apply kicked_sameBut
    | apply fellBack_sameBut | apply watchdogExpire_sameBut | apply kick_sameBut

theorem fwPacket_sameBut (hF : [Part.regs, .mesh, .sent, .tlk, .tlkIn, .start] ⊆ F) {s : State} {n}
    (h0 : SameBut F s₀ s) :
    SameBut F s₀ (fwPacket s n) := by
  unfold fwPacket
  with_reducible repeat' first
    | assumption | exact subset_of hF (by decide) | intro _ | apply keeps_foldl | apply keeps_ite
    | apply keeps_foldl_fst | apply keeps_foldl_snd | apply keeps_ite_snd | apply onStart_sameBut
    | apply fwBroadcast_sameBut | dsimp only | split | apply withTlkIn_sameBut

theorem fwTimeout_sameBut (hF : [Part.regs, .events, .mesh, .sent, .tlk, .start] ⊆ F) {s : State}
    (h0 : SameBut F s₀ s) :
    SameBut F s₀ (fwTimeout s) := by
  unfold fwTimeout
  with_reducible repeat' first
    | assumption | exact subset_of hF (by decide) | intro _ | apply keeps_ite | apply onStart_sameBut
    | apply reach_sameBut | apply fwBroadcast_sameBut | apply log_sameBut | dsimp only

theorem execFwChunkReceive_sameBut (hF : [Part.regs, .mem, .events, .mesh, .fw] ⊆ F) {tile} {s : State}
    (h1 : SameBut F s₀ s) :
    ResultSameBut F s₀ (execFwChunkReceive tile s) := by
  unfold execFwChunkReceive
  with_reducible repeat' first
    | assumption | exact subset_of hF (by decide) | apply done_sameBut | intro _ | apply fwTake_sameBut

theorem execFwReport_sameBut (hF : [Part.regs, .mesh] ⊆ F) {tile} {s : State} (h1 : SameBut F s₀ s) :
    ResultSameBut F s₀ (execFwReport tile s) := by
  unfold execFwReport
  with_reducible repeat' first
    | assumption | exact subset_of hF (by decide) | apply done_sameBut | intro _ | apply fwReport_sameBut

theorem execMessageReceive_sameBut
    (hF : [Part.regs, .mem, .events, .mesh, .once, .objs, .fault, .sent, .fw, .start] ⊆ F) {unit ecc}
    {s : State} (h2 : SameBut F s₀ s) :
    ResultSameBut F s₀ (execMessageReceive unit ecc s) := by
  unfold execMessageReceive
  with_reducible repeat' first
    | assumption | exact subset_of hF (by decide) | apply done_sameBut | intro _ | apply messageTake_sameBut

theorem execFwPacketReceive_sameBut (hF : [Part.regs, .mesh, .sent, .tlk, .tlkIn, .start] ⊆ F) {port}
    {s : State} (h1 : SameBut F s₀ s) :
    ResultSameBut F s₀ (execFwPacketReceive port s) := by
  unfold execFwPacketReceive
  with_reducible repeat' first
    | assumption | exact subset_of hF (by decide) | apply done_sameBut | intro _ | apply fwPacket_sameBut

theorem execWorkerFwTimeout_sameBut (hF : [Part.regs, .events, .mesh, .sent, .tlk, .start] ⊆ F) {s : State}
    (h0 : SameBut F s₀ s) :
    ResultSameBut F s₀ (execWorkerFwTimeout s) := by
  unfold execWorkerFwTimeout
  with_reducible repeat' first
    | assumption | exact subset_of hF (by decide) | apply done_sameBut | intro _ | apply fwTimeout_sameBut

theorem execUpdateAbort_sameBut
    (hF : [Part.regs, .mem, .events, .mesh, .objs, .progress, .answer, .sec, .fw, .start] ⊆ F) {slot}
    {s : State} (h1 : SameBut F s₀ s) :
    ResultSameBut F s₀ (execUpdateAbort slot s) := by
  unfold execUpdateAbort
  with_reducible repeat' first
    | assumption | exact subset_of hF (by decide) | apply done_sameBut | intro _ | apply touchSlot_sameBut
    | apply fellBack_sameBut | apply auditWrite_sameBut | apply updateRole_sameBut | apply updateAbort_sameBut
    | dsimp only

theorem execFwConfirm_sameBut (hF : [Part.regs, .mem, .events, .mesh, .objs, .sec, .fw, .start] ⊆ F) {hart}
    {s : State} (h1 : SameBut F s₀ s) :
    ResultSameBut F s₀ (execFwConfirm hart s) := by
  unfold execFwConfirm
  with_reducible repeat' first
    | assumption | exact subset_of hF (by decide) | apply done_sameBut | intro _ | apply fwConfirm_sameBut

theorem execFwFallbackCommand_sameBut (hF : [Part.regs, .mem, .events, .mesh, .objs, .sec, .fw, .start] ⊆ F)
    {hart} {s : State} (h1 : SameBut F s₀ s) :
    ResultSameBut F s₀ (execFwFallbackCommand hart s) := by
  unfold execFwFallbackCommand
  with_reducible repeat' first
    | assumption | exact subset_of hF (by decide) | apply done_sameBut | intro _ | apply fellBack_sameBut
    | apply fwCommand_sameBut | apply fallback_sameBut

theorem execFwSwap_sameBut (hF : [Part.regs, .mem, .events, .mesh, .objs, .sec, .fw, .start] ⊆ F) {hart}
    {s : State} (h1 : SameBut F s₀ s) :
    ResultSameBut F s₀ (execFwSwap hart s) := by
  unfold execFwSwap
  with_reducible repeat' first
    | assumption | exact subset_of hF (by decide) | apply done_sameBut | intro _ | apply fwCommand_sameBut
    | apply swapSend_sameBut

theorem execFallbackTimerExpire_sameBut (hF : [Part.regs, .mem, .events, .mesh, .objs, .fw, .start] ⊆ F)
    {s : State} (h0 : SameBut F s₀ s) :
    ResultSameBut F s₀ (execFallbackTimerExpire s) := by
  unfold execFallbackTimerExpire
  with_reducible repeat' first
    | assumption | exact subset_of hF (by decide) | apply done_sameBut | intro _ | apply fellBack_sameBut
    | apply fallbackExpire_sameBut

theorem execWatchdogKick_sameBut
    (hF : [Part.regs, .mem, .events, .mesh, .objs, .sent, .can, .guard, .fw, .start] ⊆ F) {hart value}
    {s : State} (h2 : SameBut F s₀ s) :
    ResultSameBut F s₀ (execWatchdogKick hart value s) := by
  unfold execWatchdogKick
  with_reducible repeat' first
    | assumption | exact subset_of hF (by decide) | apply done_sameBut | intro _ | apply kickWrite_sameBut

theorem execWatchdogExpire_sameBut
    (hF : [Part.regs, .mem, .events, .mesh, .objs, .sent, .can, .guard, .fw, .start] ⊆ F) {s : State}
    (h0 : SameBut F s₀ s) :
    ResultSameBut F s₀ (execWatchdogExpire s) := by
  unfold execWatchdogExpire
  with_reducible repeat' first
    | assumption | exact subset_of hF (by decide) | apply done_sameBut | intro _ | apply fellBack_sameBut
    | apply watchdogExpire_sameBut

end Sys2Proof.Machine.State
end

section
set_option Elab.async false
/-! PROOFS. The footprints of the operations of `Sys2Proof/Machine/Training.lean`. -/

namespace Sys2Proof.Machine.State

set_option linter.unusedTactic false
set_option linter.unreachableTactic false

variable {F : List Part} {s₀ : State}

theorem mapStart_sameBut (hF : [Part.regs] ⊆ F) {s : State} (h0 : SameBut F s₀ s) : SameBut F s₀ (mapStart s) := by
  unfold mapStart
  with_reducible repeat' first
    | assumption | exact subset_of hF (by decide) | intro _ | apply keeps_foldl | apply keeps_foldl_fst
    | apply put_sameBut | dsimp only

theorem fillStart_sameBut (hF : [Part.regs, .memories] ⊆ F) {s : State} (h0 : SameBut F s₀ s) :
    SameBut F s₀ (fillStart s) := by
  unfold fillStart
  with_reducible repeat' first
    | assumption | exact subset_of hF (by decide) | intro _ | apply keeps_foldl | apply keeps_foldl_fst
    | apply put_sameBut | refine onMemories_sameBut ?_ (fun _ => rfl) ?_ | dsimp only

theorem trainNext_sameBut (hF : [Part.regs, .mesh, .memories, .sent, .tlk, .start] ⊆ F) {s : State}
    (h0 : SameBut F s₀ s) :
    SameBut F s₀ (trainNext s) := by
  unfold trainNext
  with_reducible repeat' first
    | assumption | exact subset_of hF (by decide) | intro _ | apply keeps_foldl | apply keeps_ite
    | apply keeps_foldl_fst | apply fwBegin_sameBut | apply mapStart_sameBut | apply put_sameBut
    | apply fillStart_sameBut

theorem trainStep_sameBut (hF : [Part.regs] ⊆ F) {s : State} {q step rank} (h0 : SameBut F s₀ s) :
    SameBut F s₀ (trainStep s q step rank) := by
  unfold trainStep
  with_reducible repeat' first
    | assumption | exact subset_of hF (by decide) | intro _ | apply keeps_ite | apply put_sameBut | dsimp only

theorem trainDone_sameBut
(hF : [Part.regs, .mem, .events, .mesh, .objs, .fault, .delivery, .streams, .memories, .sent, .fw, .tlk, .start] ⊆
    F)
    {s : State} {q pass lane found} (h0 : SameBut F s₀ s) :
    SameBut F s₀ (trainDone s q pass lane found) := by
  unfold trainDone
  with_reducible repeat' first
    | assumption | exact subset_of hF (by decide) | intro _ | apply keeps_foldl | apply keeps_ite
    | apply keeps_foldl_fst | apply keeps_foldl_snd | apply keeps_ite_snd | apply put_sameBut
    | apply writePlain_sameBut | apply onStart_sameBut | apply trainNext_sameBut | apply subRetire_sameBut
    | apply log_sameBut | dsimp only

theorem modeAccess_sameBut (hF : [Part.regs, .freeCount, .start] ⊆ F) {s : State} {q w} (h0 : SameBut F s₀ s) :
    SameBut F s₀ (modeAccess s q w) := by
  unfold modeAccess
  with_reducible repeat' first
    | assumption | exact subset_of hF (by decide) | intro _ | apply keeps_ite | apply writePlain_sameBut
    | apply onStart_sameBut | apply useFree_sameBut | apply put_sameBut | dsimp only | split

theorem trainSeal_sameBut (hF : [Part.regs, .mem, .events, .fw] ⊆ F) {s : State} {temp} (h0 : SameBut F s₀ s) :
    SameBut F s₀ (trainSeal s temp) := by
  unfold trainSeal
  with_reducible repeat' first
    | assumption | exact subset_of hF (by decide) | intro _ | apply keeps_ite | apply wrBytes_sameBut
    | apply sealDirty_sameBut | dsimp only

theorem testMoved_sameBut (hF : [Part.regs, .progress] ⊆ F) {s : State} {u n} (h0 : SameBut F s₀ s) :
    SameBut F s₀ (testMoved s u n) := by
  unfold testMoved
  with_reducible repeat' first
    | assumption | exact subset_of hF (by decide) | intro _ | apply progAdd_sameBut | apply put64_sameBut

theorem testStart_sameBut (hF : [Part.regs, .objs, .progress, .start] ⊆ F) {s : State} {u w}
    (h0 : SameBut F s₀ s) :
    SameBut F s₀ (testStart s u w) := by
  unfold testStart
  with_reducible repeat' first
    | assumption | exact subset_of hF (by decide) | intro _ | apply keeps_ite | apply writePlain_sameBut
    | apply setProg_sameBut | apply setObj_sameBut | apply progStart_sameBut | apply put_sameBut | apply put64_sameBut
    | apply onStart_sameBut | dsimp only

theorem testAbort_sameBut (hF : [Part.regs, .progress] ⊆ F) {s : State} {u} (h0 : SameBut F s₀ s) :
    SameBut F s₀ (testAbort s u) := by
  unfold testAbort
  with_reducible repeat' first
    | assumption | exact subset_of hF (by decide) | intro _ | apply keeps_ite | apply progEnd_sameBut
    | apply put_sameBut

theorem holdExpire_sameBut (hF : [Part.regs, .progress, .start] ⊆ F) {s : State} {u} (h0 : SameBut F s₀ s) :
    SameBut F s₀ (holdExpire s u) := by
  unfold holdExpire
  with_reducible repeat' first
    | assumption | exact subset_of hF (by decide) | intro _ | apply keeps_ite | apply reach_sameBut
    | apply testMoved_sameBut | apply onStart_sameBut | apply put_sameBut | dsimp only | split

theorem testFail_sameBut
    (hF : [Part.regs, .mem, .events, .objs, .fault, .delivery, .streams, .memories, .sent, .fw] ⊆ F) {s : State}
    {q burst} (h0 : SameBut F s₀ s) :
    SameBut F s₀ (testFail s q burst) := by
  unfold testFail
  with_reducible repeat' first
    | assumption | exact subset_of hF (by decide) | intro _ | apply count_sameBut | apply countObj_sameBut
    | apply log_sameBut | apply pageRetire_sameBut | dsimp only

theorem testLeaves_sameBut (hF : [Part.mem, .freeCount, .memories, .lost] ⊆ F)
    {s : State} {u} (h : SameBut F s₀ s) : SameBut F s₀ (testLeaves s u) := by
  unfold testLeaves
  with_reducible repeat' first
    | assumption | exact subset_of hF (by decide) | intro _ | apply useFree_sameBut | split | dsimp only
    | apply withMem_sameBut | apply withMemMemories_sameBut

theorem testDone_sameBut
(hF : [Part.regs, .mem, .freeCount, .events, .mesh, .objs, .fault, .delivery, .streams, .memories, .progress, .sent,
    .fw, .tlk, .start, .lost] ⊆ F)
    {s : State} {u bad} (h0 : SameBut F s₀ s) :
    SameBut F s₀ (testDone s u bad) := by
  unfold testDone
  with_reducible repeat' first
    | assumption | exact subset_of hF (by decide) | intro _ | apply keeps_foldl | apply keeps_ite
    | apply keeps_foldl_fst | apply keeps_foldl_snd | apply keeps_ite_snd | apply testLeaves_sameBut
    | apply testMoved_sameBut | apply put_sameBut | apply testFail_sameBut | apply onStart_sameBut
    | apply progEnd_sameBut | apply trainNext_sameBut | dsimp only | split

theorem wakeRecord_sameBut (hF : [Part.regs] ⊆ F) {s : State} {src detail} (h0 : SameBut F s₀ s) :
    SameBut F s₀ (wakeRecord s src detail) := by
  unfold wakeRecord
  with_reducible repeat' first
    | assumption | exact subset_of hF (by decide) | intro _ | apply put_sameBut | apply put64_sameBut | dsimp only

theorem wakeStart_sameBut (hF : [Part.regs, .power, .start] ⊆ F) {s : State} (h0 : SameBut F s₀ s) :
    SameBut F s₀ (wakeStart s) := by
  unfold wakeStart
  with_reducible repeat' first
    | assumption | exact subset_of hF (by decide) | intro _ | apply keeps_ite | apply onPower_sameBut
    | apply put_sameBut | apply onStart_sameBut | apply railsBegin_sameBut | dsimp only

theorem wakeEvent_sameBut (hF : [Part.regs, .events, .wakes, .tbRate, .power, .start] ⊆ F) {s : State}
    {cycles seen} (h0 : SameBut F s₀ s) :
    SameBut F s₀ (wakeEvent s cycles seen) := by
  unfold wakeEvent
  with_reducible repeat' first
    | assumption | exact subset_of hF (by decide) | intro _ | apply keeps_foldl | apply keeps_ite | apply keeps_getD
    | apply keeps_foldl_fst | apply tbMove_sameBut | apply wakeRecord_sameBut | apply put_sameBut
    | apply wakeStart_sameBut | dsimp only | apply withWakes_sameBut

theorem execDdrTrainStep_sameBut (hF : [Part.regs] ⊆ F) {sub step rank} {s : State} (h3 : SameBut F s₀ s) :
    ResultSameBut F s₀ (execDdrTrainStep sub step rank s) := by
  unfold execDdrTrainStep
  with_reducible repeat' first
    | assumption | exact subset_of hF (by decide) | apply done_sameBut | intro _ | apply trainStep_sameBut

theorem execDdrTrainStepDone_sameBut
(hF : [Part.regs, .mem, .events, .mesh, .objs, .fault, .delivery, .streams, .memories, .sent, .fw, .tlk, .start] ⊆
    F)
    {sub pass lane found} {s : State} (h4 : SameBut F s₀ s) :
    ResultSameBut F s₀ (execDdrTrainStepDone sub pass lane found s) := by
  unfold execDdrTrainStepDone
  with_reducible repeat' first
    | assumption | exact subset_of hF (by decide) | apply done_sameBut | intro _ | apply trainDone_sameBut

theorem execDdrModeRegisterAccess_sameBut (hF : [Part.regs, .freeCount, .start] ⊆ F) {sub value} {s : State}
    (h2 : SameBut F s₀ s) :
    ResultSameBut F s₀ (execDdrModeRegisterAccess sub value s) := by
  unfold execDdrModeRegisterAccess
  with_reducible repeat' first
    | assumption | exact subset_of hF (by decide) | apply done_sameBut | intro _ | apply modeAccess_sameBut

theorem execTrainSetSeal_sameBut (hF : [Part.regs, .mem, .events, .fw] ⊆ F) {temp} {s : State}
    (h1 : SameBut F s₀ s) :
    ResultSameBut F s₀ (execTrainSetSeal temp s) := by
  unfold execTrainSetSeal
  with_reducible repeat' first
    | assumption | exact subset_of hF (by decide) | apply done_sameBut | intro _ | apply trainSeal_sameBut

theorem execTrainSetCheck_sameBut (hF : [Part.regs] ⊆ F) {s : State} (h0 : SameBut F s₀ s) :
    ResultSameBut F s₀ (execTrainSetCheck s) := by
  unfold execTrainSetCheck
  with_reducible repeat' first
    | assumption | exact subset_of hF (by decide) | apply done_sameBut | intro _ | apply keeps_ite | apply put_sameBut

theorem execMemoryTestStart_sameBut (hF : [Part.regs, .objs, .progress, .start] ⊆ F) {quad value} {s : State}
    (h2 : SameBut F s₀ s) :
    ResultSameBut F s₀ (execMemoryTestStart quad value s) := by
  unfold execMemoryTestStart
  with_reducible repeat' first
    | assumption | exact subset_of hF (by decide) | apply done_sameBut | intro _ | apply testStart_sameBut

theorem execMemoryTestAbort_sameBut (hF : [Part.regs, .progress] ⊆ F) {quad} {s : State} (h1 : SameBut F s₀ s) :
    ResultSameBut F s₀ (execMemoryTestAbort quad s) := by
  unfold execMemoryTestAbort
  with_reducible repeat' first
    | assumption | exact subset_of hF (by decide) | apply done_sameBut | intro _ | apply testAbort_sameBut

theorem execRetentionHoldExpire_sameBut (hF : [Part.regs, .progress, .start] ⊆ F) {quad} {s : State}
    (h1 : SameBut F s₀ s) :
    ResultSameBut F s₀ (execRetentionHoldExpire quad s) := by
  unfold execRetentionHoldExpire
  with_reducible repeat' first
    | assumption | exact subset_of hF (by decide) | apply done_sameBut | intro _ | apply holdExpire_sameBut

theorem execMemoryTestDone_sameBut
(hF : [Part.regs, .mem, .freeCount, .events, .mesh, .objs, .fault, .delivery, .streams, .memories, .progress, .sent,
    .fw, .tlk, .start, .lost] ⊆ F)
    {quad bad} {s : State} (h2 : SameBut F s₀ s) :
    ResultSameBut F s₀ (execMemoryTestDone quad bad s) := by
  unfold execMemoryTestDone
  with_reducible repeat' first
    | assumption | exact subset_of hF (by decide) | apply done_sameBut | intro _ | apply testDone_sameBut

theorem execWakeEvent_sameBut (hF : [Part.regs, .events, .wakes, .tbRate, .power, .start] ⊆ F) {cycles seen}
    {s : State} (h2 : SameBut F s₀ s) :
    ResultSameBut F s₀ (execWakeEvent cycles seen s) := by
  unfold execWakeEvent
  with_reducible repeat' first
    | assumption | exact subset_of hF (by decide) | apply done_sameBut | intro _ | apply wakeEvent_sameBut

theorem execWakeTimerMatch_sameBut (hF : [Part.wakes] ⊆ F) {s : State} (h0 : SameBut F s₀ s) :
    ResultSameBut F s₀ (execWakeTimerMatch s) := by
  unfold execWakeTimerMatch
  with_reducible repeat' first
    | assumption | exact subset_of hF (by decide) | apply done_sameBut | intro _ | apply withWakes_sameBut

end Sys2Proof.Machine.State
end

section
set_option Elab.async false
/-! PROOFS. The footprints of the operations of `Sys2Proof/Machine/Authority.lean`. -/

namespace Sys2Proof.Machine.State

set_option linter.unusedTactic false
set_option linter.unreachableTactic false

variable {F : List Part} {s₀ : State}

theorem authAfter_sameBut (hF : [Part.regs, .mem, .events, .sent, .can, .guard, .fw] ⊆ F) {s : State}
    {old : State} {a} (h0 : SameBut F s₀ s) (_ : SameBut F s₀ old) :
    SameBut F s₀ (authAfter s old a) := by
  unfold authAfter
  with_reducible repeat' first
    | assumption | exact subset_of hF (by decide) | intro _ | apply keeps_foldl | apply keeps_ite
    | apply keeps_foldl_fst | apply keeps_foldl_snd | apply keeps_ite_snd | apply onGuard_sameBut
    | apply guardChannel_sameBut | apply pinDrive_sameBut | apply driftClose_sameBut | apply guardScan_sameBut
    | dsimp only | split

theorem authPut_sameBut (hF : [Part.regs, .mem, .events, .objs, .fault, .sent, .can, .guard, .sec, .fw] ⊆ F)
    {s : State} {slot a w} (h0 : SameBut F s₀ s) :
    SameBut F s₀ (authPut s slot a w).1 := by
  unfold authPut
  with_reducible repeat' first
    | assumption | exact subset_of hF (by decide) | intro _ | apply keeps_ite | apply keeps_ite_fst
    | apply log_sameBut | apply setReg_sameBut | apply put_sameBut | apply refusal_sameBut | apply audit_sameBut
    | apply wipeStart_sameBut | apply injectArm_sameBut | apply injectDisarm_sameBut | apply authAfter_sameBut
    | dsimp only | split

theorem authGo_sameBut (hF : [Part.regs, .mem, .events, .objs, .fault, .sent, .can, .guard, .sec, .fw] ⊆ F)
    {s : State} {slot} (h0 : SameBut F s₀ s) :
    SameBut F s₀ (authGo s slot) := by
  unfold authGo
  with_reducible repeat' first
    | assumption | exact subset_of hF (by decide) | intro _ | apply authPut_sameBut | apply touchSlot_sameBut
    | apply put_sameBut | dsimp only | split | refine keeps_fst ?_ (by assumption)

theorem lifecycleRequest_sameBut (hF : [Part.regs, .events, .objs, .answer, .sec] ⊆ F) {s : State} {slot v}
    (h0 : SameBut F s₀ s) :
    SameBut F s₀ (lifecycleRequest s slot v) := by
  unfold lifecycleRequest
  with_reducible repeat' first
    | assumption | exact subset_of hF (by decide) | intro _ | apply keeps_ite | apply lowRole_sameBut
    | apply reply_sameBut | apply refusal_sameBut | apply conflict_sameBut | apply onSec_sameBut | dsimp only

theorem returnDevice_sameBut (hF : [Part.regs, .mem, .objs, .memories, .images, .unsaved, .lost] ⊆ F)
    {s : State} (h0 : SameBut F s₀ s) :
    SameBut F s₀ (returnDevice s) := by
  unfold returnDevice
  with_reducible repeat' first
    | assumption | exact subset_of hF (by decide) | intro _ | apply imagesShow_sameBut | apply erase_sameBut
    | apply fillStart_sameBut | refine onMemories_sameBut_lost ?_ ?_ | apply clearMem_sameBut | dsimp only
    | apply withImagesUnsaved_sameBut

theorem flashDefaults_sameBut (hF : [Part.regs, .events, .objs, .streams, .hub, .sent, .tlk, .power] ⊆ F)
    {s : State} (h0 : SameBut F s₀ s) :
    SameBut F s₀ (flashDefaults s) := by
  unfold flashDefaults
  with_reducible repeat' first
    | assumption | exact subset_of hF (by decide) | intro _ | apply keeps_foldl | apply keeps_foldl_fst
    | apply keeps_foldl_snd | apply keeps_ite_snd | apply objTake_sameBut

theorem lifecycleConfirm_sameBut
(hF : [Part.regs, .mem, .events, .objs, .fault, .streams, .memories, .hub, .sent, .answer, .can, .guard, .sec, .fw,
    .tlk, .power, .images, .unsaved, .lost] ⊆ F)
    {s : State} {slot v} (h0 : SameBut F s₀ s) :
    SameBut F s₀ (lifecycleConfirm s slot v) := by
  unfold lifecycleConfirm
  with_reducible repeat' first
    | assumption | exact subset_of hF (by decide) | intro _ | apply keeps_ite | apply lowRole_sameBut
    | apply conflict_sameBut | apply log_sameBut | apply put_sameBut | apply audit_sameBut
    | apply returnDevice_sameBut | apply flashDefaults_sameBut | apply reply_sameBut | apply wipeStart_sameBut
    | apply onSec_sameBut | dsimp only | split

theorem lifecycleTimeout_sameBut (hF : [Part.regs, .sec] ⊆ F) {s : State} (h0 : SameBut F s₀ s) :
    SameBut F s₀ (lifecycleTimeout s) := by
  unfold lifecycleTimeout
  with_reducible repeat' first
    | assumption | exact subset_of hF (by decide) | intro _ | apply onSec_sameBut | apply reach_sameBut | split

theorem execAuthWrite_sameBut
    (hF : [Part.regs, .mem, .events, .objs, .fault, .sent, .can, .guard, .sec, .fw] ⊆ F) {slot} {s : State}
    (h1 : SameBut F s₀ s) :
    ResultSameBut F s₀ (execAuthWrite slot s) := by
  unfold execAuthWrite
  with_reducible repeat' first
    | assumption | exact subset_of hF (by decide) | apply done_sameBut | intro _ | apply authGo_sameBut

theorem execLifecycleRequest_sameBut (hF : [Part.regs, .mem, .events, .objs, .answer, .sec, .fw] ⊆ F)
    {slot target} {s : State} (h2 : SameBut F s₀ s) :
    ResultSameBut F s₀ (execLifecycleRequest slot target s) := by
  unfold execLifecycleRequest
  with_reducible repeat' first
    | assumption | exact subset_of hF (by decide) | apply done_sameBut | intro _ | apply auditWrite_sameBut
    | apply lifecycleRequest_sameBut | apply touchSlot_sameBut

theorem execLifecycleConfirm_sameBut
(hF : [Part.regs, .mem, .events, .objs, .fault, .streams, .memories, .hub, .sent, .answer, .can, .guard, .sec, .fw,
    .tlk, .power, .images, .unsaved, .lost] ⊆ F)
    {slot value} {s : State} (h2 : SameBut F s₀ s) :
    ResultSameBut F s₀ (execLifecycleConfirm slot value s) := by
  unfold execLifecycleConfirm
  with_reducible repeat' first
    | assumption | exact subset_of hF (by decide) | apply done_sameBut | intro _ | apply auditWrite_sameBut
    | apply lifecycleConfirm_sameBut | apply touchSlot_sameBut

theorem execLifecycleConfirmTimeout_sameBut (hF : [Part.regs, .sec] ⊆ F) {s : State} (h0 : SameBut F s₀ s) :
    ResultSameBut F s₀ (execLifecycleConfirmTimeout s) := by
  unfold execLifecycleConfirmTimeout
  with_reducible repeat' first
    | assumption | exact subset_of hF (by decide) | apply done_sameBut | intro _ | apply lifecycleTimeout_sameBut

end Sys2Proof.Machine.State
end

section
set_option Elab.async false
/-! PROOFS. The footprints of the operations of `Sys2Proof/Machine/Dictionary.lean`. -/

namespace Sys2Proof.Machine.State

set_option linter.unusedTactic false
set_option linter.unreachableTactic false

variable {F : List Part} {s₀ : State}

theorem noObject_sameBut (hF : [Part.answer] ⊆ F) {s : State} {index} (h0 : SameBut F s₀ s) :
    SameBut F s₀ (noObject s index) := by
  unfold noObject
  with_reducible repeat' first
    | assumption | exact subset_of hF (by decide) | intro _ | apply keeps_ite | apply reply_sameBut

theorem outOfRange_sameBut (hF : [Part.objs, .answer] ⊆ F) {s : State} {index sub} (h0 : SameBut F s₀ s) :
    SameBut F s₀ (outOfRange s index sub) := by
  unfold outOfRange
  with_reducible repeat' first
    | assumption | exact subset_of hF (by decide) | intro _ | apply reply_sameBut | apply refusal_sameBut

theorem dictRead_sameBut (hF : [Part.regs, .mem, .freeCount, .events, .objs, .answer, .sec, .fw] ⊆ F)
    {s : State} {slot index sub len} (h0 : SameBut F s₀ s) :
    SameBut F s₀ (dictRead s slot index sub len) := by
  unfold dictRead
  with_reducible repeat' first
    | assumption | exact subset_of hF (by decide) | intro _ | apply keeps_ite | apply noObject_sameBut
    | apply auditWrite_sameBut | apply lowRole_sameBut | apply reply_sameBut | apply refusal_sameBut
    | apply exportRead_sameBut | apply useFree_sameBut | split

theorem gateEnd_sameBut (hF : [Part.objs] ⊆ F) {s : State} {n st abort} (h0 : SameBut F s₀ s) :
    SameBut F s₀ (gateEnd s n st abort) := by
  unfold gateEnd
  with_reducible repeat' first | assumption | exact subset_of hF (by decide) | intro _ | apply setObj_sameBut

theorem gateExecute_sameBut (hF : [Part.regs, .events, .objs, .sent, .answer, .tlk, .gates] ⊆ F) {s : State}
    {slot n v} (h0 : SameBut F s₀ s) :
    SameBut F s₀ (gateExecute s slot n v) := by
  unfold gateExecute
  with_reducible repeat' first
    | assumption | exact subset_of hF (by decide) | intro _ | apply keeps_ite | apply lowRole_sameBut
    | apply outOfRange_sameBut | apply conflict_sameBut | apply reply_sameBut | apply gateEnd_sameBut
    | apply tlkSend_sameBut | dsimp only | apply withGates_sameBut

theorem gateTimeout_sameBut (hF : [Part.regs, .events, .objs, .gates] ⊆ F) {s : State} {n} (h0 : SameBut F s₀ s)
    :
    SameBut F s₀ (gateTimeout s n) := by
  unfold gateTimeout
  with_reducible repeat' first
    | assumption | exact subset_of hF (by decide) | intro _ | apply reach_sameBut | apply log_sameBut
    | apply gateEnd_sameBut | dsimp only | split | apply withGates_sameBut

theorem execDictRead_sameBut (hF : [Part.regs, .mem, .freeCount, .events, .objs, .answer, .sec, .fw] ⊆ F)
    {slot index sub len} {s : State} (h4 : SameBut F s₀ s) :
    ResultSameBut F s₀ (execDictRead slot index sub len s) := by
  unfold execDictRead
  with_reducible repeat' first
    | assumption | exact subset_of hF (by decide) | apply done_sameBut | intro _ | apply dictRead_sameBut
    | apply touchSlot_sameBut

theorem execGatewayExecute_sameBut
    (hF : [Part.regs, .mem, .events, .objs, .sent, .answer, .sec, .fw, .tlk, .gates] ⊆ F) {slot worker value}
    {s : State} (h3 : SameBut F s₀ s) :
    ResultSameBut F s₀ (execGatewayExecute slot worker value s) := by
  unfold execGatewayExecute
  with_reducible repeat' first
    | assumption | exact subset_of hF (by decide) | apply done_sameBut | intro _ | apply auditWrite_sameBut
    | apply gateExecute_sameBut | apply touchSlot_sameBut

theorem execGatewayTimeout_sameBut (hF : [Part.regs, .events, .objs, .gates] ⊆ F) {worker} {s : State}
    (h1 : SameBut F s₀ s) :
    ResultSameBut F s₀ (execGatewayTimeout worker s) := by
  unfold execGatewayTimeout
  with_reducible repeat' first
    | assumption | exact subset_of hF (by decide) | apply done_sameBut | intro _ | apply gateTimeout_sameBut

end Sys2Proof.Machine.State
end

section
set_option Elab.async false
/-! PROOFS. The footprints of the operations of `Sys2Proof/Machine/Field.lean`. -/

namespace Sys2Proof.Machine.State

set_option linter.unusedTactic false
set_option linter.unreachableTactic false

variable {F : List Part} {s₀ : State}

theorem onField_sameBut (hF : [Part.field] ⊆ F) {s : State} {f} (h0 : SameBut F s₀ s) :
    SameBut F s₀ (onField s f) := by
  unfold onField
  with_reducible repeat' first | assumption | exact subset_of hF (by decide) | intro _ | apply withField_sameBut

theorem communicationReset_sameBut (hF : [Part.regs, .events, .objs, .streams, .hub, .sent, .canMode, .canStandby,
    .nmt, .tlk, .power, .node, .field] ⊆ F)
    {s : State} (h : SameBut F s₀ s) :
    SameBut F s₀ (communicationReset s) := by
  unfold communicationReset
  with_reducible repeat' first
    | assumption | exact subset_of hF (by decide) | intro _ | apply recordReload_sameBut | dsimp only
    | apply withCanModeCanStandbyNode_sameBut | apply withNmtField_sameBut

theorem nmtTake_sameBut (hF : [Part.regs, .events, .objs, .streams, .hub, .sent, .canMode, .canStandby, .nmt, .tlk,
    .power, .node, .field] ⊆ F)
    {s : State} {cmd node} (h : SameBut F s₀ s) :
    SameBut F s₀ (nmtTake s cmd node) := by
  unfold nmtTake
  with_reducible repeat' first
    | assumption | exact subset_of hF (by decide) | intro _ | apply communicationReset_sameBut | split
    | apply withNmt_sameBut

theorem tpdoFill_sameBut (hF : [Part.regs, .freeCount] ⊆ F) {s : State} {p} (h0 : SameBut F s₀ s) :
    SameBut F s₀ (tpdoFill s p) := by
  unfold tpdoFill
  with_reducible repeat' first
    | assumption | exact subset_of hF (by decide) | intro _ | apply keeps_foldl | apply keeps_ite
    | apply keeps_foldl_fst | apply keeps_foldl_snd | apply keeps_ite_snd | apply putByte_sameBut
    | apply useFree_sameBut | dsimp only | split

theorem tpdoSend_sameBut (hF : [Part.regs, .freeCount, .events, .sent, .can] ⊆ F) {s : State} {c n}
    (h0 : SameBut F s₀ s) :
    SameBut F s₀ (tpdoSend s c n) := by
  unfold tpdoSend
  with_reducible repeat' first
    | assumption | exact subset_of hF (by decide) | intro _ | apply tpdoFire_sameBut | apply tpdoFill_sameBut

theorem auditFlush_sameBut (hF : [Part.regs, .mem, .events, .objs, .sec, .fw, .field] ⊆ F) {s : State}
    (h0 : SameBut F s₀ s) :
    SameBut F s₀ (auditFlush s) := by
  unfold auditFlush
  with_reducible repeat' first
    | assumption | exact subset_of hF (by decide) | intro _ | apply onField_sameBut | apply reach_sameBut
    | apply audit_sameBut | dsimp only | split

theorem heartbeat_sameBut (hF : [Part.regs, .events, .sent, .can] ⊆ F) {s : State} (h0 : SameBut F s₀ s) :
    SameBut F s₀ (heartbeat s) := by
  unfold heartbeat
  with_reducible repeat' first
    | assumption | exact subset_of hF (by decide) | intro _ | apply keeps_ite | apply canSend_sameBut

theorem nodeLost_sameBut (hF : [Part.regs, .mem, .events, .objs, .sec, .fw, .field] ⊆ F) {s : State}
    {entry slot} (h0 : SameBut F s₀ s) :
    SameBut F s₀ (nodeLost s entry slot) := by
  unfold nodeLost
  with_reducible repeat' first
    | assumption | exact subset_of hF (by decide) | intro _ | apply keeps_ite | apply onField_sameBut
    | apply reach_sameBut | apply log_sameBut | apply endSession_sameBut | dsimp only | split

theorem execTpdoTrigger_sameBut (hF : [Part.regs, .freeCount, .events, .sent, .can] ⊆ F) {bus tpdo} {s : State}
    (h2 : SameBut F s₀ s) :
    ResultSameBut F s₀ (execTpdoTrigger bus tpdo s) := by
  unfold execTpdoTrigger
  with_reducible repeat' first
    | assumption | exact subset_of hF (by decide) | apply done_sameBut | intro _ | apply tpdoSend_sameBut

theorem execRpdoAuditFlush_sameBut (hF : [Part.regs, .mem, .events, .objs, .sec, .fw, .field] ⊆ F) {s : State}
    (h0 : SameBut F s₀ s) :
    ResultSameBut F s₀ (execRpdoAuditFlush s) := by
  unfold execRpdoAuditFlush
  with_reducible repeat' first
    | assumption | exact subset_of hF (by decide) | apply done_sameBut | intro _ | apply auditFlush_sameBut

theorem execHeartbeatProduce_sameBut (hF : [Part.regs, .events, .sent, .can] ⊆ F) {s : State}
    (h0 : SameBut F s₀ s) :
    ResultSameBut F s₀ (execHeartbeatProduce s) := by
  unfold execHeartbeatProduce
  with_reducible repeat' first
    | assumption | exact subset_of hF (by decide) | apply done_sameBut | intro _ | apply heartbeat_sameBut

theorem execHeartbeatConsumerTimeout_sameBut (hF : [Part.regs, .mem, .events, .objs, .sec, .fw, .field] ⊆ F)
    {entry slot} {s : State} (h2 : SameBut F s₀ s) :
    ResultSameBut F s₀ (execHeartbeatConsumerTimeout entry slot s) := by
  unfold execHeartbeatConsumerTimeout
  with_reducible repeat' first
    | assumption | exact subset_of hF (by decide) | apply done_sameBut | intro _ | apply nodeLost_sameBut

theorem execErrorRegisterClear_sameBut (hF : [Part.regs, .events, .objs, .sent, .can, .emcy] ⊆ F) {bit}
    {s : State} (h1 : SameBut F s₀ s) :
    ResultSameBut F s₀ (execErrorRegisterClear bit s) := by
  unfold execErrorRegisterClear
  with_reducible repeat' first
    | assumption | exact subset_of hF (by decide) | apply done_sameBut | intro _ | apply errorClear_sameBut

end Sys2Proof.Machine.State
end

section
set_option Elab.async false
/-! PROOFS. The footprints of the operations of `Sys2Proof/Machine/Timebase.lean`. -/

namespace Sys2Proof.Machine.State

set_option linter.unusedTactic false
set_option linter.unreachableTactic false

variable {F : List Part} {s₀ : State}

theorem tbLoad_sameBut (hF : [Part.regs, .events, .tbRate] ⊆ F) {s : State} (h0 : SameBut F s₀ s) :
    SameBut F s₀ (tbLoad s) := by
  unfold tbLoad
  with_reducible repeat' first
    | assumption | exact subset_of hF (by decide) | intro _ | apply keeps_ite | apply put_sameBut
    | apply tbMove_sameBut

theorem onRate_sameBut (hF : [Part.tbRate] ⊆ F) {s : State} {f} (h0 : SameBut F s₀ s) : SameBut F s₀ (onRate s f) := by
  unfold onRate
  with_reducible repeat' first | assumption | exact subset_of hF (by decide) | intro _ | apply withTbRate_sameBut

theorem reachTick_sameBut (hF : [Part.regs] ⊆ F) {s : State} {k} (h0 : SameBut F s₀ s) :
    SameBut F s₀ (reachTick s k) := by
  unfold reachTick
  with_reducible repeat' first | assumption | exact subset_of hF (by decide) | intro _ | apply reach_sameBut

theorem tick_sameBut (hF : [Part.regs, .tbRate] ⊆ F) {s : State} {double} (h0 : SameBut F s₀ s) :
    SameBut F s₀ (tick s double) := by
  unfold tick
  with_reducible repeat' first
    | assumption | exact subset_of hF (by decide) | intro _ | apply keeps_ite | apply onRate_sameBut
    | apply put64_sameBut | dsimp only

theorem rateFold_sameBut (hF : [Part.tbRate] ⊆ F) {s : State} (h0 : SameBut F s₀ s) : SameBut F s₀ (rateFold s) := by
  unfold rateFold
  with_reducible repeat' first
    | assumption | exact subset_of hF (by decide) | intro _ | apply onRate_sameBut | dsimp only

theorem slewCode_sameBut (hF : [Part.regs, .tbRate] ⊆ F) {s : State} (h0 : SameBut F s₀ s) :
    SameBut F s₀ (slewCode s) := by
  unfold slewCode
  with_reducible repeat' first
    | assumption | exact subset_of hF (by decide) | intro _ | apply keeps_ite | apply reachTick_sameBut
    | apply onRate_sameBut | apply put_sameBut | apply tick_sameBut | dsimp only | split

theorem rateCode_sameBut (hF : [Part.regs, .tbRate] ⊆ F) {s : State} (h0 : SameBut F s₀ s) :
    SameBut F s₀ (rateCode s) := by
  unfold rateCode
  with_reducible repeat' first
    | assumption | exact subset_of hF (by decide) | intro _ | apply keeps_ite | apply reachTick_sameBut
    | apply onRate_sameBut | apply rateFold_sameBut | apply tick_sameBut | dsimp only

theorem replicaCompare_sameBut (hF : [Part.regs, .events, .objs, .fault] ⊆ F) {s : State} {differs}
    (h0 : SameBut F s₀ s) :
    SameBut F s₀ (replicaCompare s differs) := by
  unfold replicaCompare
  with_reducible repeat' first
    | assumption | exact subset_of hF (by decide) | intro _ | apply keeps_foldl | apply keeps_foldl_fst
    | apply reach_sameBut | apply put_sameBut | apply count_sameBut | apply detect_sameBut | apply log_sameBut
    | dsimp only

theorem compareFire_sameBut (hF : [Part.regs, .sent] ⊆ F) {s : State} {t} (h0 : SameBut F s₀ s) :
    SameBut F s₀ (compareFire s t) := by
  unfold compareFire
  with_reducible repeat' first
    | assumption | exact subset_of hF (by decide) | intro _ | apply keeps_ite | apply raise_sameBut
    | apply put_sameBut | apply reach_sameBut

theorem execTbLoad_sameBut (hF : [Part.regs, .events, .tbRate] ⊆ F) {s : State} (h0 : SameBut F s₀ s) :
    ResultSameBut F s₀ (execTbLoad s) := by
  unfold execTbLoad
  with_reducible repeat' first
    | assumption | exact subset_of hF (by decide) | apply done_sameBut | intro _ | apply tbLoad_sameBut

theorem execTbSlewCode_sameBut (hF : [Part.regs, .tbRate] ⊆ F) {s : State} (h0 : SameBut F s₀ s) :
    ResultSameBut F s₀ (execTbSlewCode s) := by
  unfold execTbSlewCode
  with_reducible repeat' first
    | assumption | exact subset_of hF (by decide) | apply done_sameBut | intro _ | apply slewCode_sameBut

theorem execTbRateCode_sameBut (hF : [Part.regs, .tbRate] ⊆ F) {s : State} (h0 : SameBut F s₀ s) :
    ResultSameBut F s₀ (execTbRateCode s) := by
  unfold execTbRateCode
  with_reducible repeat' first
    | assumption | exact subset_of hF (by decide) | apply done_sameBut | intro _ | apply rateCode_sameBut

theorem execReplicaCompare_sameBut (hF : [Part.regs, .events, .objs, .fault] ⊆ F) {differs} {s : State}
    (h1 : SameBut F s₀ s) :
    ResultSameBut F s₀ (execReplicaCompare differs s) := by
  unfold execReplicaCompare
  with_reducible repeat' first
    | assumption | exact subset_of hF (by decide) | apply done_sameBut | intro _ | apply replicaCompare_sameBut

theorem execTbCompareFire_sameBut (hF : [Part.regs, .sent] ⊆ F) {tile} {s : State} (h1 : SameBut F s₀ s) :
    ResultSameBut F s₀ (execTbCompareFire tile s) := by
  unfold execTbCompareFire
  with_reducible repeat' first
    | assumption | exact subset_of hF (by decide) | apply done_sameBut | intro _ | apply compareFire_sameBut

end Sys2Proof.Machine.State
end

section
set_option Elab.async false
/-! PROOFS. The footprints of the operations of `Sys2Proof/Machine/Hierarchy.lean`. -/

namespace Sys2Proof.Machine.State

set_option linter.unusedTactic false
set_option linter.unreachableTactic false

variable {F : List Part} {s₀ : State}

theorem syncFirst_sameBut (hF : [Part.tlkIn] ⊆ F) {s : State} {port stype} (h0 : SameBut F s₀ s) :
    ∀ b t, syncFirst s port stype = some (b, t) → SameBut F s₀ t := by
  unfold syncFirst
  with_reducible repeat' first
    | assumption | exact subset_of hF (by decide) | exact keeps_none_snd | refine keeps_some_snd ?_ | apply keeps_getD
    | dsimp only | split | apply withTlkIn_sameBut

theorem onSync_sameBut (hF : [Part.tlkIn] ⊆ F) {s : State} {port stype act} (h0 : SameBut F s₀ s)
    (h3 : ∀ (a : State) b c, SameBut F s₀ a → SameBut F s₀ (act a b c)) :
    SameBut F s₀ (onSync s port stype act) := by
  unfold onSync
  with_reducible repeat' first
    | assumption | exact subset_of hF (by decide) | intro _ | apply keeps_getD | apply h3 | split
    | refine syncFirst_sameBut (subset_of hF (by decide)) ?_ _ _ (by assumption)

theorem hierState_sameBut (hF : [Part.regs, .sent] ⊆ F) {s : State} {v} (h0 : SameBut F s₀ s) :
    SameBut F s₀ (hierState s v) := by
  unfold hierState
  with_reducible repeat' first
    | assumption | exact subset_of hF (by decide) | intro _ | apply msix_sameBut | apply put_sameBut

theorem armWrite_sameBut (hF : [Part.regs] ⊆ F) {s : State} {f} (h0 : SameBut F s₀ s) :
    SameBut F s₀ (armWrite s f) := by
  unfold armWrite
  with_reducible repeat' first
    | assumption | exact subset_of hF (by decide) | intro _ | apply put_sameBut | apply put64_sameBut | dsimp only

theorem rejoined_sameBut (hF : [Part.regs, .events, .sent] ⊆ F) {s : State} {step} (h0 : SameBut F s₀ s) :
    SameBut F s₀ (rejoined s step) := by
  unfold rejoined
  with_reducible repeat' first
    | assumption | exact subset_of hF (by decide) | intro _ | apply keeps_ite | apply log_sameBut
    | apply hierState_sameBut | apply put64_sameBut

theorem syncArm_sameBut
(hF : [Part.regs, .mem, .events, .mesh, .once, .deliveryOpen, .launched, .objs, .fault, .loadStep, .delivery,
    .streams, .hub, .sent, .fw, .tlkIn, .clock, .images, .staging, .unsaved] ⊆ F)
    {s : State} {port} (h0 : SameBut F s₀ s) :
    SameBut F s₀ (syncArm s port) := by
  unfold syncArm
  with_reducible repeat' first
    | assumption | exact subset_of hF (by decide) | intro _ | apply keeps_ite | apply onSync_sameBut
    | apply put_sameBut | apply rejoined_sameBut | apply freshBase_sameBut | apply armWrite_sameBut
    | apply switchSent_sameBut | apply placeHeld_sameBut | apply onClock_sameBut | apply setPhase_sameBut
    | apply launch_sameBut | apply put64_sameBut | apply log_sameBut | apply count_sameBut | dsimp only

theorem syncWave_sameBut (hF : [Part.regs, .delivery, .sent, .tlk, .tlkIn] ⊆ F) {s : State} {port}
    (h0 : SameBut F s₀ s) :
    SameBut F s₀ (syncWave s port) := by
  unfold syncWave
  with_reducible repeat' first
    | assumption | exact subset_of hF (by decide) | intro _ | apply keeps_foldl | apply keeps_ite
    | apply keeps_foldl_fst | apply keeps_foldl_snd | apply keeps_ite_snd | apply onSync_sameBut
    | apply drainDead_sameBut | apply syncSend_sameBut | dsimp only

theorem syncUpdate_sameBut
(hF : [Part.regs, .mem, .events, .mesh, .deliveryOpen, .scanRegs, .objs, .fault, .clearing, .delivery, .streams,
    .sent, .fw, .tlk, .tlkIn, .clock] ⊆ F)
    {s : State} {port} (h0 : SameBut F s₀ s) :
    SameBut F s₀ (syncUpdate s port) := by
  unfold syncUpdate
  with_reducible repeat' first
    | assumption | exact subset_of hF (by decide) | intro _ | apply keeps_ite | apply onSync_sameBut
    | apply forceClose_sameBut | apply declareQuiescence_sameBut

theorem voteOut_sameBut (hF : [Part.regs, .sent, .tlk] ⊆ F) {s : State} {port reason} (h0 : SameBut F s₀ s) :
    SameBut F s₀ (voteOut s port reason) := by
  unfold voteOut
  with_reducible repeat' first | assumption | exact subset_of hF (by decide) | intro _ | apply syncSend_sameBut

theorem syncSwitch_sameBut (hF : [Part.regs, .events, .objs, .sent, .answer, .tlk, .tlkIn, .clock] ⊆ F)
    {s : State} {port} (h0 : SameBut F s₀ s) :
    SameBut F s₀ (syncSwitch s port) := by
  unfold syncSwitch
  with_reducible repeat' first
    | assumption | exact subset_of hF (by decide) | intro _ | apply keeps_ite | apply onSync_sameBut
    | apply switchWithdraw_sameBut | apply voteOut_sameBut | apply switchRefuse_sameBut | apply switchAccept_sameBut
    | dsimp only

theorem isolate_sameBut
(hF : [Part.regs, .mem, .events, .mesh, .once, .deliveryOpen, .scanRegs, .objs, .fault, .clearing, .delivery,
    .streams, .hub, .sent, .fw, .tlk, .clock] ⊆ F)
    {s : State} {cause} (h0 : SameBut F s₀ s) :
    SameBut F s₀ (isolate s cause) := by
  unfold isolate
  with_reducible repeat' first
    | assumption | exact subset_of hF (by decide) | intro _ | apply keeps_ite | apply log_sameBut
    | apply hierState_sameBut | apply reach_sameBut | apply forceClose_sameBut | apply stepHalt_sameBut
    | apply afterClose_sameBut | dsimp only | split

theorem syncResult_sameBut
(hF : [Part.regs, .mem, .events, .deliveryOpen, .scanRegs, .objs, .fault, .clearing, .delivery, .streams, .sent,
    .fw, .tlk, .tlkIn, .clock] ⊆ F)
    {s : State} {port} (h0 : SameBut F s₀ s) :
    SameBut F s₀ (syncResult s port) := by
  unfold syncResult
  with_reducible repeat' first
    | assumption | exact subset_of hF (by decide) | intro _ | apply keeps_ite | apply onSync_sameBut
    | apply waveEnd_sameBut | apply onClock_sameBut | dsimp only | split

theorem syncDone_sameBut (hF : [Part.delivery, .tlkIn, .clock] ⊆ F) {s : State} {port} (h0 : SameBut F s₀ s) :
    SameBut F s₀ (syncDone s port) := by
  unfold syncDone
  with_reducible repeat' first
    | assumption | exact subset_of hF (by decide) | intro _ | apply keeps_foldl | apply keeps_ite | apply keeps_getD
    | apply keeps_foldl_fst | apply onSync_sameBut | apply onClock_sameBut | apply onDelivery_sameBut | dsimp only

theorem syncVote_sameBut
(hF : [Part.regs, .mem, .freeCount, .events, .mesh, .objs, .loadStep, .clearing, .creditDue, .oooSeen, .delivery,
    .streams, .hub, .sent, .answer, .fw, .tlk, .tlkIn, .clock, .images] ⊆ F)
    {s : State} {port} (h0 : SameBut F s₀ s) :
    SameBut F s₀ (syncVote s port) := by
  unfold syncVote
  with_reducible repeat' first
    | assumption | exact subset_of hF (by decide) | intro _ | apply onSync_sameBut | apply voteTake_sameBut

theorem syncRejoin_sameBut (hF : [Part.tlkIn, .clock] ⊆ F) {s : State} {port} (h0 : SameBut F s₀ s) :
    SameBut F s₀ (syncRejoin s port) := by
  unfold syncRejoin
  with_reducible repeat' first
    | assumption | exact subset_of hF (by decide) | intro _ | apply keeps_ite | apply onSync_sameBut
    | apply onClock_sameBut

theorem workerLost_sameBut
(hF : [Part.regs, .mem, .freeCount, .events, .mesh, .deliveryOpen, .scanRegs, .objs, .fault, .loadStep, .clearing,
    .creditDue, .oooSeen, .delivery, .streams, .hub, .sent, .answer, .fw, .tlk, .clock, .images] ⊆ F)
    {s : State} {n} (h0 : SameBut F s₀ s) :
    SameBut F s₀ (workerLost s n) := by
  unfold workerLost
  with_reducible repeat' first
    | assumption | exact subset_of hF (by decide) | intro _ | apply keeps_ite | apply reach_sameBut
    | apply log_sameBut | apply msix_sameBut | apply put_sameBut | apply voteTake_sameBut | apply forceClose_sameBut
    | dsimp only

theorem timeFlit_sameBut (hF : [Part.sent] ⊆ F) {s : State} {port kind a b} (h0 : SameBut F s₀ s) :
    SameBut F s₀ (timeFlit s port kind a b) := by
  unfold timeFlit
  with_reducible repeat' first | assumption | exact subset_of hF (by decide) | intro _ | apply flitOut_sameBut

theorem timeStart_sameBut (hF : [Part.regs, .sent, .tlk] ⊆ F) {s : State} {port} (h0 : SameBut F s₀ s) :
    SameBut F s₀ (timeStart s port) := by
  unfold timeStart
  with_reducible repeat' first
    | assumption | exact subset_of hF (by decide) | intro _ | apply keeps_ite | apply reach_sameBut
    | apply onTlk_sameBut | apply timeFlit_sameBut | dsimp only | split

theorem rejoin_sameBut (hF : [Part.regs, .sent, .tlk, .clock] ⊆ F) {s : State} (h0 : SameBut F s₀ s) :
    SameBut F s₀ (rejoin s) := by
  unfold rejoin
  with_reducible repeat' first
    | assumption | exact subset_of hF (by decide) | intro _ | apply keeps_ite | apply syncSend_sameBut
    | apply onTlk_sameBut | apply stepHalt_sameBut | apply hierState_sameBut | dsimp only

theorem discipline_sameBut (hF : [Part.regs, .events, .sent, .tlk, .clock, .tbRate] ⊆ F) {s : State}
    {port t1 t2 t3 t4} (h0 : SameBut F s₀ s) :
    SameBut F s₀ (discipline s port t1 t2 t3 t4) := by
  unfold discipline
  with_reducible repeat' first
    | assumption | exact subset_of hF (by decide) | intro _ | apply keeps_ite | apply put_sameBut
    | apply tbMove_sameBut | apply setReg_sameBut | apply rateFold_sameBut | apply onTlk_sameBut | apply raise_sameBut
    | apply log_sameBut | apply rejoin_sameBut | dsimp only

theorem timeTake_sameBut (hF : [Part.regs, .events, .sent, .tlk, .clock, .tbRate] ⊆ F) {s : State} {port f}
    (h0 : SameBut F s₀ s) :
    SameBut F s₀ (timeTake s port f) := by
  unfold timeTake
  with_reducible repeat' first
    | assumption | exact subset_of hF (by decide) | intro _ | apply keeps_ite | apply count_sameBut
    | apply onTlk_sameBut | apply timeFlit_sameBut | apply discipline_sameBut | split

theorem execSyncArmReceive_sameBut
(hF : [Part.regs, .mem, .events, .mesh, .once, .deliveryOpen, .launched, .objs, .fault, .loadStep, .delivery,
    .streams, .hub, .sent, .fw, .tlkIn, .clock, .images, .staging, .unsaved] ⊆ F)
    {port} {s : State} (h1 : SameBut F s₀ s) :
    ResultSameBut F s₀ (execSyncArmReceive port s) := by
  unfold execSyncArmReceive
  with_reducible repeat' first
    | assumption | exact subset_of hF (by decide) | apply done_sameBut | intro _ | apply syncArm_sameBut

theorem execSyncWaveReceive_sameBut (hF : [Part.regs, .delivery, .sent, .tlk, .tlkIn] ⊆ F) {port} {s : State}
    (h1 : SameBut F s₀ s) :
    ResultSameBut F s₀ (execSyncWaveReceive port s) := by
  unfold execSyncWaveReceive
  with_reducible repeat' first
    | assumption | exact subset_of hF (by decide) | apply done_sameBut | intro _ | apply syncWave_sameBut

theorem execSyncResultReceive_sameBut
(hF : [Part.regs, .mem, .events, .deliveryOpen, .scanRegs, .objs, .fault, .clearing, .delivery, .streams, .sent,
    .fw, .tlk, .tlkIn, .clock] ⊆ F)
    {port} {s : State} (h1 : SameBut F s₀ s) :
    ResultSameBut F s₀ (execSyncResultReceive port s) := by
  unfold execSyncResultReceive
  with_reducible repeat' first
    | assumption | exact subset_of hF (by decide) | apply done_sameBut | intro _ | apply syncResult_sameBut

theorem execSyncUpdateReceive_sameBut
(hF : [Part.regs, .mem, .events, .mesh, .deliveryOpen, .scanRegs, .objs, .fault, .clearing, .delivery, .streams,
    .sent, .fw, .tlk, .tlkIn, .clock] ⊆ F)
    {port} {s : State} (h1 : SameBut F s₀ s) :
    ResultSameBut F s₀ (execSyncUpdateReceive port s) := by
  unfold execSyncUpdateReceive
  with_reducible repeat' first
    | assumption | exact subset_of hF (by decide) | apply done_sameBut | intro _ | apply syncUpdate_sameBut

theorem execSyncDoneReceive_sameBut (hF : [Part.delivery, .tlkIn, .clock] ⊆ F) {port} {s : State}
    (h1 : SameBut F s₀ s) :
    ResultSameBut F s₀ (execSyncDoneReceive port s) := by
  unfold execSyncDoneReceive
  with_reducible repeat' first
    | assumption | exact subset_of hF (by decide) | apply done_sameBut | intro _ | apply syncDone_sameBut

theorem execSyncSwitchReceive_sameBut
    (hF : [Part.regs, .events, .objs, .sent, .answer, .tlk, .tlkIn, .clock] ⊆ F) {port} {s : State}
    (h1 : SameBut F s₀ s) :
    ResultSameBut F s₀ (execSyncSwitchReceive port s) := by
  unfold execSyncSwitchReceive
  with_reducible repeat' first
    | assumption | exact subset_of hF (by decide) | apply done_sameBut | intro _ | apply syncSwitch_sameBut

theorem execSyncVoteReceive_sameBut
(hF : [Part.regs, .mem, .freeCount, .events, .mesh, .objs, .loadStep, .clearing, .creditDue, .oooSeen, .delivery,
    .streams, .hub, .sent, .answer, .fw, .tlk, .tlkIn, .clock, .images] ⊆ F)
    {port} {s : State} (h1 : SameBut F s₀ s) :
    ResultSameBut F s₀ (execSyncVoteReceive port s) := by
  unfold execSyncVoteReceive
  with_reducible repeat' first
    | assumption | exact subset_of hF (by decide) | apply done_sameBut | intro _ | apply syncVote_sameBut

theorem execSyncRejoinReceive_sameBut (hF : [Part.tlkIn, .clock] ⊆ F) {port} {s : State} (h1 : SameBut F s₀ s) :
    ResultSameBut F s₀ (execSyncRejoinReceive port s) := by
  unfold execSyncRejoinReceive
  with_reducible repeat' first
    | assumption | exact subset_of hF (by decide) | apply done_sameBut | intro _ | apply syncRejoin_sameBut

theorem execWorkerIsolate_sameBut
(hF : [Part.regs, .mem, .events, .mesh, .once, .deliveryOpen, .scanRegs, .objs, .fault, .clearing, .delivery,
    .streams, .hub, .sent, .fw, .tlk, .clock] ⊆ F)
    {cause} {s : State} (h1 : SameBut F s₀ s) :
    ResultSameBut F s₀ (execWorkerIsolate cause s) := by
  unfold execWorkerIsolate
  with_reducible repeat' first
    | assumption | exact subset_of hF (by decide) | apply done_sameBut | intro _ | apply isolate_sameBut

theorem execWorkerLost_sameBut
(hF : [Part.regs, .mem, .freeCount, .events, .mesh, .deliveryOpen, .scanRegs, .objs, .fault, .loadStep, .clearing,
    .creditDue, .oooSeen, .delivery, .streams, .hub, .sent, .answer, .fw, .tlk, .clock, .images] ⊆ F)
    {worker} {s : State} (h1 : SameBut F s₀ s) :
    ResultSameBut F s₀ (execWorkerLost worker s) := by
  unfold execWorkerLost
  with_reducible repeat' first
    | assumption | exact subset_of hF (by decide) | apply done_sameBut | intro _ | apply workerLost_sameBut

theorem execTimeExchangeStart_sameBut (hF : [Part.regs, .sent, .tlk] ⊆ F) {port} {s : State}
    (h1 : SameBut F s₀ s) :
    ResultSameBut F s₀ (execTimeExchangeStart port s) := by
  unfold execTimeExchangeStart
  with_reducible repeat' first
    | assumption | exact subset_of hF (by decide) | apply done_sameBut | intro _ | apply timeStart_sameBut

theorem execTimeFlitReceive_sameBut (hF : [Part.regs, .events, .sent, .tlk, .clock, .tbRate] ⊆ F) {port flit}
    {s : State} (h2 : SameBut F s₀ s) :
    ResultSameBut F s₀ (execTimeFlitReceive port flit s) := by
  unfold execTimeFlitReceive
  with_reducible repeat' first
    | assumption | exact subset_of hF (by decide) | apply done_sameBut | intro _ | apply timeTake_sameBut

end Sys2Proof.Machine.State
end

section
set_option Elab.async false
/-! PROOFS. The footprints of the operations of `Sys2Proof/Machine/Host.lean`. -/

namespace Sys2Proof.Machine.State

set_option linter.unusedTactic false
set_option linter.unreachableTactic false

variable {F : List Part} {s₀ : State}

theorem dmaShow_sameBut (hF : [Part.regs] ⊆ F) {s : State} {c} (h0 : SameBut F s₀ s) : SameBut F s₀ (dmaShow s c) := by
  unfold dmaShow
  with_reducible repeat' first
    | assumption | exact subset_of hF (by decide) | intro _ | apply keeps_ite | apply put_sameBut

theorem dmaTail_sameBut (hF : [Part.regs, .posted] ⊆ F) {s : State} {c v} (h0 : SameBut F s₀ s) :
    SameBut F s₀ (dmaTail s c v) := by
  unfold dmaTail
  with_reducible repeat' first
    | assumption | exact subset_of hF (by decide) | intro _ | apply keeps_ite | apply dmaShow_sameBut
    | apply put_sameBut | dsimp only | apply withPosted_sameBut

theorem dmaTaken_sameBut (hF : [Part.posted] ⊆ F) {s : State} {c} (h0 : SameBut F s₀ s) :
    SameBut F s₀ (dmaTaken s c) := by
  unfold dmaTaken
  with_reducible repeat' first
    | assumption | exact subset_of hF (by decide) | intro _ | apply keeps_ite | dsimp only | split
    | apply withPosted_sameBut

theorem dmaResume_sameBut (hF : [Part.regs] ⊆ F) {s : State} {c} (h0 : SameBut F s₀ s) :
    SameBut F s₀ (dmaResume s c) := by
  unfold dmaResume
  with_reducible repeat' first
    | assumption | exact subset_of hF (by decide) | intro _ | apply dmaShow_sameBut | apply put_sameBut

theorem dmaDone_sameBut (hF : [Part.regs, .mem, .events, .sent, .fw, .posted] ⊆ F) {s : State}
    {c ctrl len host dev data bad} (h0 : SameBut F s₀ s) :
    SameBut F s₀ (dmaDone s c ctrl len host dev data bad) := by
  unfold dmaDone
  with_reducible repeat' first
    | assumption | exact subset_of hF (by decide) | intro _ | apply keeps_ite | apply dmaTaken_sameBut
    | apply emitOut_sameBut | apply wrBytes_sameBut | apply put_sameBut | apply count_sameBut | apply log_sameBut
    | apply msix_sameBut | apply dmaShow_sameBut | dsimp only | split

theorem hostWindow_sameBut (hF : [Part.regs] ⊆ F) {s : State} {v} (h0 : SameBut F s₀ s) :
    SameBut F s₀ (hostWindow s v) := by
  unfold hostWindow
  with_reducible repeat' first
    | assumption | exact subset_of hF (by decide) | intro _ | apply keeps_ite | apply put_sameBut

theorem oringRead_sameBut (hF : [Part.regs] ⊆ F) {s : State} {v} (h0 : SameBut F s₀ s) :
    SameBut F s₀ (oringRead s v) := by
  unfold oringRead
  with_reducible repeat' first | assumption | exact subset_of hF (by decide) | intro _ | apply put_sameBut

theorem pcieReset_sameBut (hF : [Part.regs, .mem, .events, .objs, .sec, .fw, .posted] ⊆ F) {s : State} {kind}
    (h0 : SameBut F s₀ s) :
    SameBut F s₀ (pcieReset s kind) := by
  unfold pcieReset
  with_reducible repeat' first
    | assumption | exact subset_of hF (by decide) | intro _ | apply keeps_foldl | apply keeps_ite
    | apply keeps_foldl_fst | apply setReg_sameBut | apply put_sameBut | apply clearMem_sameBut | apply log_sameBut
    | apply endSession_sameBut | dsimp only | apply withPosted_sameBut

theorem pcieUp_sameBut (hF : [Part.regs] ⊆ F) {s : State} {speed width bme} (h0 : SameBut F s₀ s) :
    SameBut F s₀ (pcieUp s speed width bme) := by
  unfold pcieUp
  with_reducible repeat' first
    | assumption | exact subset_of hF (by decide) | intro _ | apply keeps_ite | apply put_sameBut

theorem execDmaTailWrite_sameBut (hF : [Part.regs, .posted] ⊆ F) {channel index} {s : State}
    (h2 : SameBut F s₀ s) :
    ResultSameBut F s₀ (execDmaTailWrite channel index s) := by
  unfold execDmaTailWrite
  with_reducible repeat' first
    | assumption | exact subset_of hF (by decide) | apply done_sameBut | intro _ | apply dmaTail_sameBut

theorem execDmaDescriptorDone_sameBut (hF : [Part.regs, .mem, .events, .sent, .fw, .posted] ⊆ F)
    {channel ctrl length host dev data error} {s : State} (h7 : SameBut F s₀ s) :
    ResultSameBut F s₀ (execDmaDescriptorDone channel ctrl length host dev data error s) := by
  unfold execDmaDescriptorDone
  with_reducible repeat' first
    | assumption | exact subset_of hF (by decide) | apply done_sameBut | intro _ | apply dmaDone_sameBut

theorem execDmaResume_sameBut (hF : [Part.regs] ⊆ F) {channel} {s : State} (h1 : SameBut F s₀ s) :
    ResultSameBut F s₀ (execDmaResume channel s) := by
  unfold execDmaResume
  with_reducible repeat' first
    | assumption | exact subset_of hF (by decide) | apply done_sameBut | intro _ | apply dmaResume_sameBut

theorem execHostWinBaseWrite_sameBut (hF : [Part.regs] ⊆ F) {gib} {s : State} (h1 : SameBut F s₀ s) :
    ResultSameBut F s₀ (execHostWinBaseWrite gib s) := by
  unfold execHostWinBaseWrite
  with_reducible repeat' first
    | assumption | exact subset_of hF (by decide) | apply done_sameBut | intro _ | apply hostWindow_sameBut

theorem execHostOringReadWrite_sameBut (hF : [Part.regs] ⊆ F) {index} {s : State} (h1 : SameBut F s₀ s) :
    ResultSameBut F s₀ (execHostOringReadWrite index s) := by
  unfold execHostOringReadWrite
  with_reducible repeat' first
    | assumption | exact subset_of hF (by decide) | apply done_sameBut | intro _ | apply oringRead_sameBut

theorem execPcieReset_sameBut (hF : [Part.regs, .mem, .events, .objs, .sec, .fw, .posted] ⊆ F) {kind}
    {s : State} (h1 : SameBut F s₀ s) :
    ResultSameBut F s₀ (execPcieReset kind s) := by
  unfold execPcieReset
  with_reducible repeat' first
    | assumption | exact subset_of hF (by decide) | apply done_sameBut | intro _ | apply pcieReset_sameBut

theorem execPcieLinkUp_sameBut (hF : [Part.regs] ⊆ F) {speed width bme} {s : State} (h3 : SameBut F s₀ s) :
    ResultSameBut F s₀ (execPcieLinkUp speed width bme s) := by
  unfold execPcieLinkUp
  with_reducible repeat' first
    | assumption | exact subset_of hF (by decide) | apply done_sameBut | intro _ | apply pcieUp_sameBut

end Sys2Proof.Machine.State
end

section
set_option Elab.async false
/-! PROOFS. The footprints of the operations of `Sys2Proof/Machine/Timer.lean`. -/

namespace Sys2Proof.Machine.State

set_option linter.unusedTactic false
set_option linter.unreachableTactic false

variable {F : List Part} {s₀ : State}

theorem onTimers_sameBut (hF : [Part.timers] ⊆ F) {s : State} {f} (h0 : SameBut F s₀ s) :
    SameBut F s₀ (onTimers s f) := by
  unfold onTimers
  with_reducible repeat' first | assumption | exact subset_of hF (by decide) | intro _ | apply withTimers_sameBut

theorem tmrCapture_sameBut (hF : [Part.regs, .sent] ⊆ F) {s : State} {t b} (h0 : SameBut F s₀ s) :
    SameBut F s₀ (tmrCapture s t b) := by
  unfold tmrCapture
  with_reducible repeat' first
    | assumption | exact subset_of hF (by decide) | intro _ | apply keeps_ite | apply raise_sameBut
    | apply put_sameBut | apply put64_sameBut | dsimp only

theorem tmrRaise_sameBut (hF : [Part.regs, .sent, .timers] ⊆ F) {s : State} {t ev} (h0 : SameBut F s₀ s) :
    SameBut F s₀ (tmrRaise s t ev) := by
  unfold tmrRaise
  with_reducible repeat' first
    | assumption | exact subset_of hF (by decide) | intro _ | apply keeps_ite | apply raise_sameBut
    | apply put_sameBut | apply onTimers_sameBut | dsimp only

theorem tmrCompare_sameBut (hF : [Part.regs, .sent, .timers] ⊆ F) {s : State} {t old} (h0 : SameBut F s₀ s) :
    SameBut F s₀ (tmrCompare s t old) := by
  unfold tmrCompare
  with_reducible repeat' first
    | assumption | exact subset_of hF (by decide) | intro _ | apply keeps_foldl | apply keeps_foldl_fst
    | apply tmrRaise_sameBut

theorem tmrAdvance_sameBut (hF : [Part.regs, .sent, .timers] ⊆ F) {s : State} {t n} (h0 : SameBut F s₀ s) :
    SameBut F s₀ (tmrAdvance s t n).1 := by
  unfold tmrAdvance
  with_reducible repeat' first
    | assumption | exact subset_of hF (by decide) | intro _ | apply keeps_ite | apply keeps_ite_fst
    | apply put64_sameBut | apply onTimers_sameBut | apply tmrRaise_sameBut | apply tmrCompare_sameBut | dsimp only
    | split

theorem tmrEvents_sameBut (hF : [Part.regs, .sent, .timers] ⊆ F) {s : State} {t n} (h0 : SameBut F s₀ s) :
    SameBut F s₀ (tmrEvents s t n) := by
  unfold tmrEvents
  with_reducible repeat' first
    | assumption | exact subset_of hF (by decide) | intro _ | apply keeps_foldl | apply keeps_ite
    | apply keeps_foldl_fst | apply keeps_foldl_snd | apply keeps_ite_snd | apply tmrAdvance_sameBut
    | apply put_sameBut | dsimp only | split | refine keeps_fst ?_ (by assumption)

theorem tmrStart_sameBut (hF : [Part.regs, .sent, .timers] ⊆ F) {s : State} {t} (h0 : SameBut F s₀ s) :
    SameBut F s₀ (tmrStart s t) := by
  unfold tmrStart
  with_reducible repeat' first
    | assumption | exact subset_of hF (by decide) | intro _ | apply keeps_foldl | apply keeps_foldl_fst
    | apply tmrRaise_sameBut | apply put_sameBut | apply tmrEvents_sameBut | dsimp only

theorem tmrStop_sameBut (hF : [Part.regs] ⊆ F) {s : State} {t} (h0 : SameBut F s₀ s) : SameBut F s₀ (tmrStop s t) := by
  unfold tmrStop
  with_reducible repeat' first | assumption | exact subset_of hF (by decide) | intro _ | apply put_sameBut

theorem tmrSet_sameBut (hF : [Part.regs, .sent, .timers] ⊆ F) {s : State} {t v} (h0 : SameBut F s₀ s) :
    SameBut F s₀ (tmrSet s t v) := by
  unfold tmrSet
  with_reducible repeat' first
    | assumption | exact subset_of hF (by decide) | intro _ | apply tmrCompare_sameBut | apply put64_sameBut

theorem slaveAct_sameBut (hF : [Part.regs, .sent, .timers] ⊆ F) {s : State} {t} (h0 : SameBut F s₀ s) :
    SameBut F s₀ (slaveAct s t) := by
  unfold slaveAct
  with_reducible repeat' first
    | assumption | exact subset_of hF (by decide) | intro _ | apply keeps_ite | apply onTimers_sameBut
    | apply tmrStart_sameBut | apply tmrStop_sameBut | apply tmrSet_sameBut | apply tmrCapture_sameBut | dsimp only
    | split

theorem capFrom_sameBut (hF : [Part.regs, .sent, .timers] ⊆ F) {s : State} {t b source} (h0 : SameBut F s₀ s) :
    SameBut F s₀ (capFrom s t b source) := by
  unfold capFrom
  with_reducible repeat' first
    | assumption | exact subset_of hF (by decide) | intro _ | apply keeps_ite | apply tmrCapture_sameBut
    | apply onTimers_sameBut | dsimp only

theorem headRead_sameBut (hF : [Part.regs, .latches, .answer] ⊆ F) {s : State} {t} (h0 : SameBut F s₀ s) :
    SameBut F s₀ (headRead s t) := by
  unfold headRead
  with_reducible repeat' first
    | assumption | exact subset_of hF (by decide) | intro _ | apply keeps_foldl | apply keeps_ite
    | apply keeps_foldl_fst | apply put64_sameBut | apply latchLow_sameBut | dsimp only

theorem capRead_sameBut (hF : [Part.regs, .latches, .answer] ⊆ F) {s : State} {t b} (h0 : SameBut F s₀ s) :
    SameBut F s₀ (capRead s t b) := by
  unfold capRead
  with_reducible repeat' first
    | assumption | exact subset_of hF (by decide) | intro _ | apply keeps_ite | apply put_sameBut
    | apply latchLow_sameBut

theorem tmrConfig_sameBut (hF : [Part.regs] ⊆ F) {s : State} {t which v} (h0 : SameBut F s₀ s) :
    SameBut F s₀ (tmrConfig s t which v) := by
  unfold tmrConfig
  with_reducible repeat' first
    | assumption | exact subset_of hF (by decide) | intro _ | apply keeps_ite | apply keeps_getD
    | apply writePlain_sameBut | apply put_sameBut | dsimp only | split

theorem execTimerCountEvent_sameBut (hF : [Part.regs, .sent, .timers] ⊆ F) {timer events} {s : State}
    (h2 : SameBut F s₀ s) :
    ResultSameBut F s₀ (execTimerCountEvent timer events s) := by
  unfold execTimerCountEvent
  with_reducible repeat' first
    | assumption | exact subset_of hF (by decide) | apply done_sameBut | intro _ | apply keeps_ite
    | apply tmrEvents_sameBut

theorem execTimerStart_sameBut (hF : [Part.regs, .sent, .timers] ⊆ F) {timer} {s : State} (h1 : SameBut F s₀ s)
    :
    ResultSameBut F s₀ (execTimerStart timer s) := by
  unfold execTimerStart
  with_reducible repeat' first
    | assumption | exact subset_of hF (by decide) | apply done_sameBut | intro _ | apply tmrStart_sameBut

theorem execTimerStop_sameBut (hF : [Part.regs] ⊆ F) {timer} {s : State} (h1 : SameBut F s₀ s) :
    ResultSameBut F s₀ (execTimerStop timer s) := by
  unfold execTimerStop
  with_reducible repeat' first
    | assumption | exact subset_of hF (by decide) | apply done_sameBut | intro _ | apply tmrStop_sameBut

theorem execTimerReset_sameBut (hF : [Part.regs, .sent, .timers] ⊆ F) {timer} {s : State} (h1 : SameBut F s₀ s)
    :
    ResultSameBut F s₀ (execTimerReset timer s) := by
  unfold execTimerReset
  with_reducible repeat' first
    | assumption | exact subset_of hF (by decide) | apply done_sameBut | intro _ | apply tmrSet_sameBut

theorem execTimerResetStart_sameBut (hF : [Part.regs, .sent, .timers] ⊆ F) {timer} {s : State}
    (h1 : SameBut F s₀ s) :
    ResultSameBut F s₀ (execTimerResetStart timer s) := by
  unfold execTimerResetStart
  with_reducible repeat' first
    | assumption | exact subset_of hF (by decide) | apply done_sameBut | intro _ | apply tmrStart_sameBut
    | apply tmrSet_sameBut

theorem execTimerLoad_sameBut (hF : [Part.regs, .sent, .timers] ⊆ F) {timer} {s : State} (h1 : SameBut F s₀ s) :
    ResultSameBut F s₀ (execTimerLoad timer s) := by
  unfold execTimerLoad
  with_reducible repeat' first
    | assumption | exact subset_of hF (by decide) | apply done_sameBut | intro _ | apply tmrSet_sameBut

theorem execTimerCapture_sameBut (hF : [Part.regs, .sent] ⊆ F) {timer intoB} {s : State} (h2 : SameBut F s₀ s) :
    ResultSameBut F s₀ (execTimerCapture timer intoB s) := by
  unfold execTimerCapture
  with_reducible repeat' first
    | assumption | exact subset_of hF (by decide) | apply done_sameBut | intro _ | apply keeps_ite
    | apply tmrCapture_sameBut

theorem execTimerSlaveAction_sameBut (hF : [Part.regs, .sent, .timers] ⊆ F) {timer} {s : State}
    (h1 : SameBut F s₀ s) :
    ResultSameBut F s₀ (execTimerSlaveAction timer s) := by
  unfold execTimerSlaveAction
  with_reducible repeat' first
    | assumption | exact subset_of hF (by decide) | apply done_sameBut | intro _ | apply slaveAct_sameBut

theorem execTimerCaptureSource_sameBut (hF : [Part.regs, .sent, .timers] ⊆ F) {timer intoB source} {s : State}
    (h3 : SameBut F s₀ s) :
    ResultSameBut F s₀ (execTimerCaptureSource timer intoB source s) := by
  unfold execTimerCaptureSource
  with_reducible repeat' first
    | assumption | exact subset_of hF (by decide) | apply done_sameBut | intro _ | apply capFrom_sameBut

theorem execTimerHeadRead_sameBut (hF : [Part.regs, .latches, .answer] ⊆ F) {timer} {s : State}
    (h1 : SameBut F s₀ s) :
    ResultSameBut F s₀ (execTimerHeadRead timer s) := by
  unfold execTimerHeadRead
  with_reducible repeat' first
    | assumption | exact subset_of hF (by decide) | apply done_sameBut | intro _ | apply headRead_sameBut

theorem execTimerCaptureRead_sameBut (hF : [Part.regs, .latches, .answer] ⊆ F) {timer ofB} {s : State}
    (h2 : SameBut F s₀ s) :
    ResultSameBut F s₀ (execTimerCaptureRead timer ofB s) := by
  unfold execTimerCaptureRead
  with_reducible repeat' first
    | assumption | exact subset_of hF (by decide) | apply done_sameBut | intro _ | apply capRead_sameBut

theorem execTimerConfigWrite_sameBut (hF : [Part.regs] ⊆ F) {timer which value} {s : State}
    (h3 : SameBut F s₀ s) :
    ResultSameBut F s₀ (execTimerConfigWrite timer which value s) := by
  unfold execTimerConfigWrite
  with_reducible repeat' first
    | assumption | exact subset_of hF (by decide) | apply done_sameBut | intro _ | apply tmrConfig_sameBut

end Sys2Proof.Machine.State
end

section
set_option Elab.async false
/-! PROOFS. The footprints of the operations of `Sys2Proof/Machine/Registers.lean`. -/

namespace Sys2Proof.Machine.State

set_option linter.unusedTactic false
set_option linter.unreachableTactic false

variable {F : List Part} {s₀ : State}

end Sys2Proof.Machine.State
end

section
set_option Elab.async false
/-! PROOFS. The footprints of the operations of `Sys2Proof/Machine/Access.lean`. -/

namespace Sys2Proof.Machine.State

set_option linter.unusedTactic false
set_option linter.unreachableTactic false

variable {F : List Part} {s₀ : State}

theorem give_sameBut (hF : [Part.answer] ⊆ F) {s : State} {w} (h0 : SameBut F s₀ s) : SameBut F s₀ (give s w) := by
  unfold give
  with_reducible repeat' first | assumption | exact subset_of hF (by decide) | intro _ | apply withAnswer_sameBut

theorem markRead_sameBut (hF : [Part.regs, .answer] ⊆ F) {s : State} {a} (h0 : SameBut F s₀ s) :
    SameBut F s₀ (markRead s a) := by
  unfold markRead
  with_reducible repeat' first
    | assumption | exact subset_of hF (by decide) | intro _ | apply keeps_ite | apply give_sameBut
    | apply setReg_sameBut | dsimp only | split

theorem pairRead_sameBut (hF : [Part.latches, .answer] ⊆ F) {s : State} {a} (h0 : SameBut F s₀ s) :
    SameBut F s₀ (pairRead s a) := by
  unfold pairRead
  with_reducible repeat' first
    | assumption | exact subset_of hF (by decide) | intro _ | apply keeps_ite | apply give_sameBut | dsimp only
    | split | apply withLatches_sameBut

theorem wordRead_sameBut (hF : [Part.regs, .latches, .freeCount, .hub, .answer] ⊆ F) {s : State} {a}
    (h0 : SameBut F s₀ s) :
    SameBut F s₀ (wordRead s a) := by
  unfold wordRead
  with_reducible repeat' first
    | assumption | exact subset_of hF (by decide) | intro _ | apply keeps_ite | apply opsLatch_sameBut
    | apply give_sameBut | apply markRead_sameBut | apply mcStep_sameBut | apply pairRead_sameBut
    | apply useFree_sameBut | apply headRead_sameBut | apply capRead_sameBut | apply ptpRead_sameBut | dsimp only
    | split

theorem memAccess_sameBut (hF : [Part.regs, .mem, .events, .fw] ⊆ F) {s : State} {a wr be} (h0 : SameBut F s₀ s)
    :
    SameBut F s₀ (memAccess s a wr be).1 := by
  unfold memAccess
  with_reducible repeat' first
    | assumption | exact subset_of hF (by decide) | intro _ | apply keeps_ite | apply keeps_ite_fst
    | apply wrLe_sameBut | split

theorem checkedAccess_sameBut (hF : [Part.regs, .mem, .events, .fw] ⊆ F) {s : State} {ecc hit a wr be}
    (h0 : SameBut F s₀ s) (h2 : ∀ (a : State) b, SameBut F s₀ a → SameBut F s₀ (hit a b)) :
    SameBut F s₀ (checkedAccess s ecc hit a wr be).1 := by
  unfold checkedAccess
  with_reducible repeat' first
    | assumption | exact subset_of hF (by decide) | intro _ | apply keeps_ite_fst | apply memAccess_sameBut | apply h2
    | split | refine keeps_fst ?_ (by assumption)

theorem nowhere_sameBut (hF : [Part.regs, .freeCount, .events] ⊆ F) {s : State} {src a} (h0 : SameBut F s₀ s) :
    SameBut F s₀ (nowhere s src a).1 := by
  unfold nowhere
  with_reducible repeat' first
    | assumption | exact subset_of hF (by decide) | intro _ | apply keeps_ite_fst | apply useFree_sameBut
    | apply log_sameBut

theorem dramAccess_sameBut (hF : [Part.regs, .mem, .freeCount, .events, .fw] ⊆ F) {s : State} {src a wr be}
    (h0 : SameBut F s₀ s) :
    SameBut F s₀ (dramAccess s src a wr be).1 := by
  unfold dramAccess
  with_reducible repeat' first
    | assumption | exact subset_of hF (by decide) | intro _ | apply keeps_ite | apply keeps_ite_fst
    | apply nowhere_sameBut | apply memAccess_sameBut | split | refine keeps_fst ?_ (by assumption)

theorem sramAccess_sameBut (hF : [Part.regs, .mem, .events, .once, .fw] ⊆ F) {s : State} {a wr be ecc}
    (h0 : SameBut F s₀ s) :
    SameBut F s₀ (sramAccess s a wr be ecc).1 := by
  unfold sramAccess
  with_reducible repeat' first
    | assumption | exact subset_of hF (by decide) | intro _ | apply keeps_ite_fst | apply checkedAccess_sameBut
    | apply managerHit_sameBut | refine keeps_fst ?_ (by assumption)

theorem huskAccess_sameBut (hF : [Part.regs, .mem, .events, .once, .fw] ⊆ F) {s : State} {src a wr be ecc}
    (h0 : SameBut F s₀ s) :
    SameBut F s₀ (huskAccess s src a wr be ecc).1 := by
  unfold huskAccess
  with_reducible repeat' first
    | assumption | exact subset_of hF (by decide) | intro _ | apply keeps_ite | apply keeps_ite_fst
    | apply log_sameBut | apply checkedAccess_sameBut | apply managerError_sameBut | dsimp only | split
    | refine keeps_fst ?_ (by assumption)

theorem sendAccess_sameBut (hF : [Part.mesh, .answer, .accesses] ⊆ F) {s : State} {src t a wr be}
    (h0 : SameBut F s₀ s) :
    SameBut F s₀ (sendAccess s src t a wr be) := by
  unfold sendAccess
  with_reducible repeat' first
    | assumption | exact subset_of hF (by decide) | intro _ | apply keeps_ite | apply keeps_getD
    | apply sendCtrl_sameBut | dsimp only | split | apply withAnswer_sameBut | apply withAnswerAccesses_sameBut

theorem coreEnded_sameBut (hF : [Part.answer] ⊆ F) {s : State} {st w} (h0 : SameBut F s₀ s) :
    SameBut F s₀ (coreEnded s st w) := by
  unfold coreEnded
  with_reducible repeat' first
    | assumption | exact subset_of hF (by decide) | intro _ | apply keeps_ite | apply withAnswer_sameBut

theorem hostEnded_sameBut (hF : [Part.regs, .answer] ⊆ F) {s : State} {st w} (h0 : SameBut F s₀ s) :
    SameBut F s₀ (hostEnded s st w) := by
  unfold hostEnded
  with_reducible repeat' first
    | assumption | exact subset_of hF (by decide) | intro _ | apply keeps_ite | apply count_sameBut | dsimp only
    | apply withAnswer_sameBut

theorem hostEnd_sameBut (hF : [Part.regs, .answer] ⊆ F) {r : Ended} (h0 : SameBut F s₀ r.1) :
    SameBut F s₀ (hostEnd r) := by
  unfold hostEnd
  with_reducible repeat' first | assumption | exact subset_of hF (by decide) | intro _ | apply hostEnded_sameBut

theorem bar2_sameBut (hF : [Part.regs, .mem, .freeCount, .events, .answer, .fw] ⊆ F) {s : State} {x1 wr be}
    (h0 : SameBut F s₀ s) :
    SameBut F s₀ (bar2 s x1 wr be) := by
  unfold bar2
  with_reducible repeat' first
    | assumption | exact subset_of hF (by decide) | intro _ | apply hostEnd_sameBut | apply dramAccess_sameBut
    | refine keeps_fst ?_ (by assumption)

theorem bar4_sameBut (hF : [Part.regs, .mem, .events, .mesh, .once, .answer, .fw, .accesses] ⊆ F) {s : State}
    {x1 wr be ecc} (h0 : SameBut F s₀ s) :
    SameBut F s₀ (bar4 s x1 wr be ecc) := by
  unfold bar4
  with_reducible repeat' first
    | assumption | exact subset_of hF (by decide) | intro _ | apply keeps_ite | apply sendAccess_sameBut
    | apply hostEnd_sameBut | apply sramAccess_sameBut | apply huskAccess_sameBut | apply hostEnded_sameBut
    | dsimp only | split | refine keeps_fst ?_ (by assumption)

theorem execBar2Access_sameBut (hF : [Part.regs, .mem, .freeCount, .events, .answer, .fw] ⊆ F)
    {offset value enables} {s : State} (h3 : SameBut F s₀ s) :
    ResultSameBut F s₀ (execBar2Access offset value enables s) := by
  unfold execBar2Access
  with_reducible repeat' first
    | assumption | exact subset_of hF (by decide) | apply done_sameBut | intro _ | apply bar2_sameBut

theorem execBar4Access_sameBut (hF : [Part.regs, .mem, .events, .mesh, .once, .answer, .fw, .accesses] ⊆ F)
    {offset value enables ecc} {s : State} (h4 : SameBut F s₀ s) :
    ResultSameBut F s₀ (execBar4Access offset value enables ecc s) := by
  unfold execBar4Access
  with_reducible repeat' first
    | assumption | exact subset_of hF (by decide) | apply done_sameBut | intro _ | apply bar4_sameBut

end Sys2Proof.Machine.State
end

section
set_option Elab.async false
/-! PROOFS. The footprints of the operations of `Sys2Proof/Machine/Jtag.lean`. -/

namespace Sys2Proof.Machine.State

set_option linter.unusedTactic false
set_option linter.unreachableTactic false

variable {F : List Part} {s₀ : State}

theorem jtagLock_sameBut (hF : [Part.regs] ⊆ F) {s : State} (h0 : SameBut F s₀ s) : SameBut F s₀ (jtagLock s) := by
  unfold jtagLock
  with_reducible repeat' first | assumption | exact subset_of hF (by decide) | intro _ | apply put_sameBut

theorem jtagIdle_sameBut (hF : [Part.regs] ⊆ F) {s : State} (h0 : SameBut F s₀ s) : SameBut F s₀ (jtagIdle s) := by
  unfold jtagIdle
  with_reducible repeat' first
    | assumption | exact subset_of hF (by decide) | intro _ | apply keeps_ite | apply jtagLock_sameBut
    | apply reach_sameBut

theorem execJtagIdleTimeout_sameBut (hF : [Part.regs] ⊆ F) {s : State} (h0 : SameBut F s₀ s) :
    ResultSameBut F s₀ (execJtagIdleTimeout s) := by
  unfold execJtagIdleTimeout
  with_reducible repeat' first
    | assumption | exact subset_of hF (by decide) | apply done_sameBut | intro _ | apply jtagIdle_sameBut

end Sys2Proof.Machine.State
end

section
set_option Elab.async false
/-! PROOFS. The footprints of the operations of `Sys2Proof/Machine/Loader.lean`. -/

namespace Sys2Proof.Machine.State

set_option linter.unusedTactic false
set_option linter.unreachableTactic false

variable {F : List Part} {s₀ : State}

theorem imageRefuse_sameBut (hF : [Part.objs, .images] ⊆ F) {s : State} {x1} (h0 : SameBut F s₀ s) :
    SameBut F s₀ (imageRefuse s x1) := by
  unfold imageRefuse
  with_reducible repeat' first | assumption | exact subset_of hF (by decide) | intro _ | apply setImage_sameBut

theorem flawLog_sameBut (hF : [Part.regs, .events] ⊆ F) {s : State} {f} (h0 : SameBut F s₀ s) :
    SameBut F s₀ (flawLog s f) := by
  unfold flawLog
  with_reducible repeat' first
    | assumption | exact subset_of hF (by decide) | intro _ | apply keeps_ite | apply log_sameBut | split

theorem loadDone_sameBut (hF : [Part.regs, .mem, .events, .objs, .fw, .images] ⊆ F) {s : State} {i good}
    (h0 : SameBut F s₀ s) :
    SameBut F s₀ (loadDone s i good) := by
  unfold loadDone
  with_reducible repeat' first
    | assumption | exact subset_of hF (by decide) | intro _ | apply keeps_ite | apply imageRefuse_sameBut
    | apply flawLog_sameBut | apply setImage_sameBut | apply wrBytes_sameBut | dsimp only | split

theorem execImageLoadDone_sameBut (hF : [Part.regs, .mem, .events, .objs, .fw, .images] ⊆ F) {index good}
    {s : State} (h2 : SameBut F s₀ s) :
    ResultSameBut F s₀ (execImageLoadDone index good s) := by
  unfold execImageLoadDone
  with_reducible repeat' first
    | assumption | exact subset_of hF (by decide) | apply done_sameBut | intro _ | apply loadDone_sameBut

end Sys2Proof.Machine.State
end

section
set_option Elab.async false
/-! PROOFS. A read of a core: it stores no byte and leaves the NMT state alone. -/

namespace Sys2Proof.Machine.State

variable {F : List Part} {s₀ s : State}

/-- The parts that a read of a core may change: latches, marks and selectors that reading moves, counters and logs of ECC errors,
the access that leaves for a tile, and the answer. -/
def readParts : List Part :=
  [Part.regs, .latches, .freeCount, .events, .mesh, .once, .objs, .fault, .hub, .answer, .accesses]

theorem regRead_sameBut (hF : readParts ⊆ F) {src a be} (h : SameBut F s₀ s) :
    SameBut F s₀ (regAccess s src a none be).1 :=
  withAnswer_sameBut (subset_of hF (by decide)) (wordRead_sameBut (subset_of hF (by decide)) h)

theorem checkedRead_sameBut {ecc hit a be} (h : SameBut F s₀ s) (hh : ∀ f, SameBut F s₀ (hit s f)) :
    SameBut F s₀ (checkedAccess s ecc hit a none be).1 := by
  cases ecc with
  | clean => exact h
  | corrected => exact hh false
  | uncorrectable => exact hh true

theorem tileRead_sameBut (hF : readParts ⊆ F) {src t o be ecc} (h : SameBut F s₀ s) :
    SameBut F s₀ (tileWindow s src t o none be ecc).1 := by
  unfold tileWindow
  exact keeps_ite_fst (checkedRead_sameBut h fun f => tileHit_sameBut (subset_of hF (by decide)) h)
    (keeps_ite_fst (checkedRead_sameBut h fun f => tileError_sameBut (subset_of hF (by decide)) h)
      (regRead_sameBut hF h))

theorem podRead_sameBut (hF : readParts ⊆ F) {src a be ecc} (h : SameBut F s₀ s) :
    SameBut F s₀ (podAccess s src a none be ecc).1 := by
  unfold podAccess
  exact keeps_ite_fst (checkedRead_sameBut h fun f => podHit_sameBut (subset_of hF (by decide)) h) (regRead_sameBut hF h)

theorem hostRead_sameBut (hF : readParts ⊆ F) {src a be} (h : SameBut F s₀ s) :
    SameBut F s₀ (hostBlock s src a none be).1 := by
  unfold hostBlock
  exact keeps_ite_fst (regRead_sameBut hF h) h

theorem peripheralRead_sameBut (hF : readParts ⊆ F) {src a be} (h : SameBut F s₀ s) :
    SameBut F s₀ (peripheral s src a none be).1 := by
  unfold peripheral
  exact keeps_ite_fst (hostRead_sameBut hF h)
    (keeps_ite_fst (useFree_sameBut (subset_of hF (by decide)) h) (regRead_sameBut hF h))

theorem huskRead_sameBut (hF : readParts ⊆ F) {src a be ecc} (h : SameBut F s₀ s) :
    SameBut F s₀ (huskAccess s src a none be ecc).1 := by
  have hc : SameBut F s₀ (s.log .sec 0 0x6112 srcManager src.code a) := log_sameBut (subset_of hF (by decide)) h
  unfold huskAccess
  split
  · exact keeps_ite_fst hc (keeps_ite_fst h (checkedRead_sameBut h fun f =>
      managerError_sameBut (subset_of hF (by decide)) h))
  · exact hc

theorem nowhereRead_sameBut (hF : readParts ⊆ F) {src a} (h : SameBut F s₀ s) : SameBut F s₀ (nowhere s src a).1 :=
  nowhere_sameBut (subset_of hF (by decide)) h

theorem localRead_sameBut (hF : readParts ⊆ F) {src a be ecc} (h : SameBut F s₀ s) :
    SameBut F s₀ (localAccess s src a none be ecc).1 := by
  have hs : SameBut F s₀ (s.sramAccess a none be ecc).1 :=
    checkedRead_sameBut h fun f => managerHit_sameBut (subset_of hF (by decide)) h
  unfold localAccess
  exact keeps_ite_fst h (keeps_ite_fst hs (keeps_ite_fst (huskRead_sameBut hF h)
    (keeps_ite_fst (peripheralRead_sameBut hF h) (keeps_ite_fst h (nowhereRead_sameBut hF h)))))

theorem dramRead_sameBut (hF : readParts ⊆ F) {src a be} (h : SameBut F s₀ s) :
    SameBut F s₀ (dramAccess s src a none be).1 := by
  unfold dramAccess
  exact keeps_ite_fst (nowhereRead_sameBut hF h) (keeps_ite_fst h h)

theorem coreRead_sameBut (hF : readParts ⊆ F) {core a} (h : SameBut F s₀ s) :
    SameBut F s₀ (coreAccess s core a none) := by
  unfold coreAccess
  split
  · unfold hartAccess
    split
    · exact sendAccess_sameBut (subset_of hF (by decide)) h
    · exact coreEnded_sameBut (subset_of hF (by decide)) (keeps_ite_fst (localRead_sameBut hF h)
        (keeps_ite_fst (dramRead_sameBut hF h) (nowhereRead_sameBut hF h)))
  · unfold tileCoreAccess
    exact keeps_ite (withAnswer_sameBut (subset_of hF (by decide)) h) (coreEnded_sameBut (subset_of hF (by decide))
      (keeps_ite_fst (tileRead_sameBut hF h) (keeps_ite_fst (podRead_sameBut hF h) h)))

end Sys2Proof.Machine.State
end

section
set_option Elab.async false
/-! PROOFS. The commands that store nothing, and those that leave the NMT state alone. -/

namespace Sys2Proof.Machine

open State

/-- Every part but what the bytes of memory read as. -/
def allButBytes : List Part :=
[Part.regs, .latches, .freeCount, .events, .mesh, .once, .deliveryOpen, .launched, .scanRegs, .objs, .fault,
    .loadStep, .clearing, .creditDue, .oooSeen, .delivery, .streams, .memories, .progress, .hub, .sent, .answer,
    .wakes, .can, .canMode, .canStandby, .nmt, .guard, .sec, .selectors, .calendar, .emcy, .fw, .chkWait, .timers,
    .hang, .jtag, .posted, .accesses, .tlk, .tlkIn, .clock, .tbRate, .power, .start, .totals, .records, .images,
    .staging, .unsaved, .node, .restoreDue, .field, .gates]

/-- Every part but the NMT state. -/
def allButNmt : List Part :=
[Part.regs, .mem, .latches, .freeCount, .events, .mesh, .once, .deliveryOpen, .launched, .scanRegs, .objs, .fault,
    .loadStep, .clearing, .creditDue, .oooSeen, .delivery, .streams, .memories, .progress, .hub, .sent, .answer,
    .wakes, .can, .canMode, .canStandby, .guard, .sec, .selectors, .calendar, .emcy, .fw, .chkWait, .timers, .hang,
    .jtag, .posted, .accesses, .tlk, .tlkIn, .clock, .tbRate, .power, .start, .totals, .records, .images, .staging,
    .unsaved, .node, .restoreDue, .field, .gates, .lost]

theorem exec_keeps_bytes {c : Instr} {s : State} (h : c.neverStores = true) : ResultSameBut allButBytes s (exec c s) := by
  cases c with
  | lowWordRead => exact done_sameBut .refl (coreRead_sameBut (by decide) .refl)
  | commitStaged => exact execCommitStaged_sameBut (by decide) .refl
  | discardStaged => exact execDiscardStaged_sameBut (by decide) .refl
  | tbLoad => exact execTbLoad_sameBut (by decide) .refl
  | tbSlewCode => exact execTbSlewCode_sameBut (by decide) .refl
  | replicaCompare => exact execReplicaCompare_sameBut (by decide) .refl
  | tbCompareFire => exact execTbCompareFire_sameBut (by decide) .refl
  | stepHalt => exact execStepHalt_sameBut (by decide) .refl
  | freeRunWatchdogFire => exact execFreeRunWatchdogFire_sameBut (by decide) .refl
  | switchVoteTimeout => exact execSwitchVoteTimeout_sameBut (by decide) .refl
  | contextEnable => exact execContextEnable_sameBut (by decide) .refl
  | contextDisable => exact execContextDisable_sameBut (by decide) .refl
  | contextFieldWrite => exact execContextFieldWrite_sameBut (by decide) .refl
  | neWindowWrite => exact execNeWindowWrite_sameBut (by decide) .refl
  | projCtrlWrite => exact execProjCtrlWrite_sameBut (by decide) .refl
  | plEnableWrite => exact execPlEnableWrite_sameBut (by decide) .refl
  | modqPush => exact execModqPush_sameBut (by decide) .refl
  | edgeReturnPip => exact execEdgeReturnPip_sameBut (by decide) .refl
  | edgeInject => exact execEdgeInject_sameBut (by decide) .refl
  | nakReceive => exact execNakReceive_sameBut (by decide) .refl
  | linkDownSignal => exact execLinkDownSignal_sameBut (by decide) .refl
  | echoReceive => exact execEchoReceive_sameBut (by decide) .refl
  | stormNoticeReceive => exact execStormNoticeReceive_sameBut (by decide) .refl
  | throttleIncrease => exact execThrottleIncrease_sameBut (by decide) .refl
  | delayStoreRelease => exact execDelayStoreRelease_sameBut (by decide) .refl
  | mcEntryWrite => exact execMcEntryWrite_sameBut (by decide) .refl
  | spillRegionWrite => exact execSpillRegionWrite_sameBut (by decide) .refl
  | scmCheck => exact execScmCheck_sameBut (by decide) .refl
  | scmCheckDone => exact execScmCheckDone_sameBut (by decide) .refl
  | scmSwap => exact execScmSwap_sameBut (by decide) .refl
  | openRx => exact execOpenRx_sameBut (by decide) .refl
  | resetRx => exact execResetRx_sameBut (by decide) .refl
  | closeQueue => exact execCloseQueue_sameBut (by decide) .refl
  | openTx => exact execOpenTx_sameBut (by decide) .refl
  | ackEpoch => exact execAckEpoch_sameBut (by decide) .refl
  | queueSend => exact execQueueSend_sameBut (by decide) .refl
  | creditReturnReceive => exact execCreditReturnReceive_sameBut (by decide) .refl
  | creditRevokeReceive => exact execCreditRevokeReceive_sameBut (by decide) .refl
  | queuePop => exact execQueuePop_sameBut (by decide) .refl
  | creditReturnSend => exact execCreditReturnSend_sameBut (by decide) .refl
  | gapScan => exact execGapScan_sameBut (by decide) .refl
  | barrierArrive => exact execBarrierArrive_sameBut (by decide) .refl
  | barrierRelease => exact execBarrierRelease_sameBut (by decide) .refl
  | barMemberWrite => exact execBarMemberWrite_sameBut (by decide) .refl
  | redCfgWrite => exact execRedCfgWrite_sameBut (by decide) .refl
  | faultReportFile => exact execFaultReportFile_sameBut (by decide) .refl
  | faultWave => exact execFaultWave_sameBut (by decide) .refl
  | sealRequest => exact execSealRequest_sameBut (by decide) .refl
  | sealGapExpire => exact execSealGapExpire_sameBut (by decide) .refl
  | fullScrubAbort => exact execFullScrubAbort_sameBut (by decide) .refl
  | streamContextEnable => exact execStreamContextEnable_sameBut (by decide) .refl
  | streamContextDisable => exact execStreamContextDisable_sameBut (by decide) .refl
  | hubEnableWrite => exact execHubEnableWrite_sameBut (by decide) .refl
  | ethFwTransmit => exact execEthFwTransmit_sameBut (by decide) .refl
  | selAckReceive => exact execSelAckReceive_sameBut (by decide) .refl
  | selNakReceive => exact execSelNakReceive_sameBut (by decide) .refl
  | selBusyWaitExpire => exact execSelBusyWaitExpire_sameBut (by decide) .refl
  | selAckTimeout => exact execSelAckTimeout_sameBut (by decide) .refl
  | selIdleSetReceive => exact execSelIdleSetReceive_sameBut (by decide) .refl
  | selTsReceive => exact execSelTsReceive_sameBut (by decide) .refl
  | selAlignTimeout => exact execSelAlignTimeout_sameBut (by decide) .refl
  | selTrainTimeout => exact execSelTrainTimeout_sameBut (by decide) .refl
  | selCommaLoss => exact execSelCommaLoss_sameBut (by decide) .refl
  | selRetrain => exact execSelRetrain_sameBut (by decide) .refl
  | selEnable => exact execSelEnable_sameBut (by decide) .refl
  | selSleepReq => exact execSelSleepReq_sameBut (by decide) .refl
  | selWakeDetect => exact execSelWakeDetect_sameBut (by decide) .refl
  | selCmdSend => exact execSelCmdSend_sameBut (by decide) .refl
  | canRawTransmit => exact execCanRawTransmit_sameBut (by decide) .refl
  | tpdoTrigger => exact execTpdoTrigger_sameBut (by decide) .refl
  | canTokenAvailable => exact execCanTokenAvailable_sameBut (by decide) .refl
  | canBusoffRecovery => exact execCanBusoffRecovery_sameBut (by decide) .refl
  | canStandbyFailover => exact execCanStandbyFailover_sameBut (by decide) .refl
  | canStandbyReturn => exact execCanStandbyReturn_sameBut (by decide) .refl
  | canRxPop => exact execCanRxPop_sameBut (by decide) .refl
  | heartbeatProduce => exact execHeartbeatProduce_sameBut (by decide) .refl
  | errorRegisterClear => exact execErrorRegisterClear_sameBut (by decide) .refl
  | hostWinBaseWrite => exact execHostWinBaseWrite_sameBut (by decide) .refl
  | dmaTailWrite => exact execDmaTailWrite_sameBut (by decide) .refl
  | dmaResume => exact execDmaResume_sameBut (by decide) .refl
  | hostOringReadWrite => exact execHostOringReadWrite_sameBut (by decide) .refl
  | tlkAckReceive => exact execTlkAckReceive_sameBut (by decide) .refl
  | tlkNakReceive => exact execTlkNakReceive_sameBut (by decide) .refl
  | tlkReplayTimeout => exact execTlkReplayTimeout_sameBut (by decide) .refl
  | tlkCreditReceive => exact execTlkCreditReceive_sameBut (by decide) .refl
  | tlkTransmitPip => exact execTlkTransmitPip_sameBut (by decide) .refl
  | tlkStateTimeout => exact execTlkStateTimeout_sameBut (by decide) .refl
  | tlkMarkLoss => exact execTlkMarkLoss_sameBut (by decide) .refl
  | tlkRetrain => exact execTlkRetrain_sameBut (by decide) .refl
  | tlkEnable => exact execTlkEnable_sameBut (by decide) .refl
  | tlkSleepReq => exact execTlkSleepReq_sameBut (by decide) .refl
  | tlkWakeDetect => exact execTlkWakeDetect_sameBut (by decide) .refl
  | timeExchangeStart => exact execTimeExchangeStart_sameBut (by decide) .refl
  | timeFlitReceive => exact execTimeFlitReceive_sameBut (by decide) .refl
  | syncWaveReceive => exact execSyncWaveReceive_sameBut (by decide) .refl
  | syncDoneReceive => exact execSyncDoneReceive_sameBut (by decide) .refl
  | syncSwitchReceive => exact execSyncSwitchReceive_sameBut (by decide) .refl
  | syncRejoinReceive => exact execSyncRejoinReceive_sameBut (by decide) .refl
  | gatewayTimeout => exact execGatewayTimeout_sameBut (by decide) .refl
  | fwPacketReceive => exact execFwPacketReceive_sameBut (by decide) .refl
  | workerFwTimeout => exact execWorkerFwTimeout_sameBut (by decide) .refl
  | loginChallenge => exact execLoginChallenge_sameBut (by decide) .refl
  | challengeExpire => exact execChallengeExpire_sameBut (by decide) .refl
  | lockoutExpire => exact execLockoutExpire_sameBut (by decide) .refl
  | lifecycleConfirmTimeout => exact execLifecycleConfirmTimeout_sameBut (by decide) .refl
  | coldStart => exact execColdStart_sameBut (by decide) .refl
  | bistStart => exact execBistStart_sameBut (by decide) .refl
  | ddrTrainStep => exact execDdrTrainStep_sameBut (by decide) .refl
  | ddrModeRegisterAccess => exact execDdrModeRegisterAccess_sameBut (by decide) .refl
  | memoryTestStart => exact execMemoryTestStart_sameBut (by decide) .refl
  | memoryTestAbort => exact execMemoryTestAbort_sameBut (by decide) .refl
  | retentionHoldExpire => exact execRetentionHoldExpire_sameBut (by decide) .refl
  | trainSetCheck => exact execTrainSetCheck_sameBut (by decide) .refl
  | fwReport => exact execFwReport_sameBut (by decide) .refl
  | halfClockRequest => exact execHalfClockRequest_sameBut (by decide) .refl
  | coreClockWrite => exact execCoreClockWrite_sameBut (by decide) .refl
  | pllRelockDone => exact execPllRelockDone_sameBut (by decide) .refl
  | railVoutPoll => exact execRailVoutPoll_sameBut (by decide) .refl
  | railConfirmTimeout => exact execRailConfirmTimeout_sameBut (by decide) .refl
  | pmbRawTransaction => exact execPmbRawTransaction_sameBut (by decide) .refl
  | pmbTransactionDone => exact execPmbTransactionDone_sameBut (by decide) .refl
  | railPowerGood => exact execRailPowerGood_sameBut (by decide) .refl
  | railPgTimeout => exact execRailPgTimeout_sameBut (by decide) .refl
  | sequenceRetry => exact execSequenceRetry_sameBut (by decide) .refl
  | wakeEvent => exact execWakeEvent_sameBut (by decide) .refl
  | wakeTimerMatch => exact execWakeTimerMatch_sameBut (by decide) .refl
  | governorInterval => exact execGovernorInterval_sameBut (by decide) .refl
  | governorCorrection => exact execGovernorCorrection_sameBut (by decide) .refl
  | throttleStep => exact execThrottleStep_sameBut (by decide) .refl
  | sigCheckStart => exact execSigCheckStart_sameBut (by decide) .refl
  | sigCheckDone => exact execSigCheckDone_sameBut (by decide) .refl
  | handoverReadyTimeout => exact execHandoverReadyTimeout_sameBut (by decide) .refl
  | fwSwitchArm => exact execFwSwitchArm_sameBut (by decide) .refl
  | chkStart => exact execChkStart_sameBut (by decide) .refl
  | chkAbort => exact execChkAbort_sameBut (by decide) .refl
  | chkSecurityClaim => exact execChkSecurityClaim_sameBut (by decide) .refl
  | chkProfileReset => exact execChkProfileReset_sameBut (by decide) .refl
  | timerCountEvent => exact execTimerCountEvent_sameBut (by decide) .refl
  | timerStart => exact execTimerStart_sameBut (by decide) .refl
  | timerStop => exact execTimerStop_sameBut (by decide) .refl
  | timerReset => exact execTimerReset_sameBut (by decide) .refl
  | timerResetStart => exact execTimerResetStart_sameBut (by decide) .refl
  | timerLoad => exact execTimerLoad_sameBut (by decide) .refl
  | timerCapture => exact execTimerCapture_sameBut (by decide) .refl
  | timerSlaveAction => exact execTimerSlaveAction_sameBut (by decide) .refl
  | timerCaptureSource => exact execTimerCaptureSource_sameBut (by decide) .refl
  | timerHeadRead => exact execTimerHeadRead_sameBut (by decide) .refl
  | timerCaptureRead => exact execTimerCaptureRead_sameBut (by decide) .refl
  | timerConfigWrite => exact execTimerConfigWrite_sameBut (by decide) .refl
  | linkRetrainDone => exact execLinkRetrainDone_sameBut (by decide) .refl
  | heartbeatTimeout => exact execHeartbeatTimeout_sameBut (by decide) .refl
  | engineTimeout => exact execEngineTimeout_sameBut (by decide) .refl
  | firmwareFenceWrite => exact execFirmwareFenceWrite_sameBut (by decide) .refl
  | remapStart => exact execRemapStart_sameBut (by decide) .refl
  | firmwareLogAppend => exact execFirmwareLogAppend_sameBut (by decide) .refl
  | opsLatchRead => exact execOpsLatchRead_sameBut (by decide) .refl
  | counterClear => exact execCounterClear_sameBut (by decide) .refl
  | waitDeclare => exact execWaitDeclare_sameBut (by decide) .refl
  | hangAnalysisStart => exact execHangAnalysisStart_sameBut (by decide) .refl
  | hangAnalysisSecondRead => exact execHangAnalysisSecondRead_sameBut (by decide) .refl
  | jtagIdleTimeout => exact execJtagIdleTimeout_sameBut (by decide) .refl
  | tbRateCode => exact execTbRateCode_sameBut (by decide) .refl
  | codeGroupErrors => exact execCodeGroupErrors_sameBut (by decide) .refl
  | syncHeaderLock => exact execSyncHeaderLock_sameBut (by decide) .refl
  | syncHeaderErrors => exact execSyncHeaderErrors_sameBut (by decide) .refl
  | canBusError => exact execCanBusError_sameBut (by decide) .refl
  | canFrameTransmitted => exact execCanFrameTransmitted_sameBut (by decide) .refl
  | ethLinkChange => exact execEthLinkChange_sameBut (by decide) .refl
  | pcieLinkUp => exact execPcieLinkUp_sameBut (by decide) .refl
  | highWaterRead => exact done_sameBut .refl (coreRead_sameBut (by decide) .refl)
  | ptpInfoRead => exact execPtpInfoRead_sameBut (by decide) .refl
  | _ => cases h

theorem exec_keeps_nmt {c : Instr} {s : State} (h : c.mayChangeNmt = false) : ResultSameBut allButNmt s (exec c s) := by
  cases c with
  | lowWordRead => exact done_sameBut .refl (coreRead_sameBut (by decide) .refl)
  | dictRead => exact execDictRead_sameBut (by decide) .refl
  | commitStaged => exact execCommitStaged_sameBut (by decide) .refl
  | discardStaged => exact execDiscardStaged_sameBut (by decide) .refl
  | flashParamSave => exact execFlashParamSave_sameBut (by decide) .refl
  | storeParameters => exact execStoreParameters_sameBut (by decide) .refl
  | restoreDefaults => exact execRestoreDefaults_sameBut (by decide) .refl
  | tbLoad => exact execTbLoad_sameBut (by decide) .refl
  | tbSlewCode => exact execTbSlewCode_sameBut (by decide) .refl
  | replicaCompare => exact execReplicaCompare_sameBut (by decide) .refl
  | tbCompareFire => exact execTbCompareFire_sameBut (by decide) .refl
  | stepRun => exact execStepRun_sameBut (by decide) .refl
  | stepHalt => exact execStepHalt_sameBut (by decide) .refl
  | stepLaunch => exact execStepLaunch_sameBut (by decide) .refl
  | quiescenceWave => exact execQuiescenceWave_sameBut (by decide) .refl
  | neuronScan => exact execNeuronScan_sameBut (by decide) .refl
  | stepClose => exact execStepClose_sameBut (by decide) .refl
  | deadlineForcedClose => exact execDeadlineForcedClose_sameBut (by decide) .refl
  | stretchLimitClose => exact execStretchLimitClose_sameBut (by decide) .refl
  | freeRunWatchdogFire => exact execFreeRunWatchdogFire_sameBut (by decide) .refl
  | switchRequest => exact execSwitchRequest_sameBut (by decide) .refl
  | imageSwitchLoadDone => exact execImageSwitchLoadDone_sameBut (by decide) .refl
  | switchVoteTimeout => exact execSwitchVoteTimeout_sameBut (by decide) .refl
  | contextEnable => exact execContextEnable_sameBut (by decide) .refl
  | contextDisable => exact execContextDisable_sameBut (by decide) .refl
  | contextFieldWrite => exact execContextFieldWrite_sameBut (by decide) .refl
  | neWindowWrite => exact execNeWindowWrite_sameBut (by decide) .refl
  | matchRecord => exact execMatchRecord_sameBut (by decide) .refl
  | engineTakeJob => exact execEngineTakeJob_sameBut (by decide) .refl
  | accumulateContribution => exact execAccumulateContribution_sameBut (by decide) .refl
  | areaClearDone => exact execAreaClearDone_sameBut (by decide) .refl
  | windowApplicationDone => exact execWindowApplicationDone_sameBut (by decide) .refl
  | projCtrlWrite => exact execProjCtrlWrite_sameBut (by decide) .refl
  | learningPass => exact execLearningPass_sameBut (by decide) .refl
  | plEnableWrite => exact execPlEnableWrite_sameBut (by decide) .refl
  | modqPush => exact execModqPush_sameBut (by decide) .refl
  | pipRoute => exact execPipRoute_sameBut (by decide) .refl
  | pipInject => exact execPipInject_sameBut (by decide) .refl
  | edgeReturnPip => exact execEdgeReturnPip_sameBut (by decide) .refl
  | edgeInject => exact execEdgeInject_sameBut (by decide) .refl
  | nakReceive => exact execNakReceive_sameBut (by decide) .refl
  | linkDownSignal => exact execLinkDownSignal_sameBut (by decide) .refl
  | echoReceive => exact execEchoReceive_sameBut (by decide) .refl
  | stormNoticeReceive => exact execStormNoticeReceive_sameBut (by decide) .refl
  | throttleIncrease => exact execThrottleIncrease_sameBut (by decide) .refl
  | delayStoreWrite => exact execDelayStoreWrite_sameBut (by decide) .refl
  | delayStoreRelease => exact execDelayStoreRelease_sameBut (by decide) .refl
  | mcEntryWrite => exact execMcEntryWrite_sameBut (by decide) .refl
  | spillRegionWrite => exact execSpillRegionWrite_sameBut (by decide) .refl
  | scmBeatRoute => exact execScmBeatRoute_sameBut (by decide) .refl
  | scmCheck => exact execScmCheck_sameBut (by decide) .refl
  | scmCheckDone => exact execScmCheckDone_sameBut (by decide) .refl
  | scmSwap => exact execScmSwap_sameBut (by decide) .refl
  | scmLinkFail => exact execScmLinkFail_sameBut (by decide) .refl
  | dramFetchComplete => exact execDramFetchComplete_sameBut (by decide) .refl
  | writeDrainComplete => exact execWriteDrainComplete_sameBut (by decide) .refl
  | unionRunsReady => exact execUnionRunsReady_sameBut (by decide) .refl
  | openRx => exact execOpenRx_sameBut (by decide) .refl
  | fillMapCleared => exact execFillMapCleared_sameBut (by decide) .refl
  | resetRx => exact execResetRx_sameBut (by decide) .refl
  | closeQueue => exact execCloseQueue_sameBut (by decide) .refl
  | openTx => exact execOpenTx_sameBut (by decide) .refl
  | ackEpoch => exact execAckEpoch_sameBut (by decide) .refl
  | queueSend => exact execQueueSend_sameBut (by decide) .refl
  | creditReturnReceive => exact execCreditReturnReceive_sameBut (by decide) .refl
  | creditRevokeReceive => exact execCreditRevokeReceive_sameBut (by decide) .refl
  | messageReceive => exact execMessageReceive_sameBut (by decide) .refl
  | queuePop => exact execQueuePop_sameBut (by decide) .refl
  | creditReturnSend => exact execCreditReturnSend_sameBut (by decide) .refl
  | gapScan => exact execGapScan_sameBut (by decide) .refl
  | barrierArrive => exact execBarrierArrive_sameBut (by decide) .refl
  | barrierRelease => exact execBarrierRelease_sameBut (by decide) .refl
  | barMemberWrite => exact execBarMemberWrite_sameBut (by decide) .refl
  | redCfgWrite => exact execRedCfgWrite_sameBut (by decide) .refl
  | faultReportFile => exact execFaultReportFile_sameBut (by decide) .refl
  | faultWave => exact execFaultWave_sameBut (by decide) .refl
  | faultReportTake => exact execFaultReportTake_sameBut (by decide) .refl
  | scrubRow => exact execScrubRow_sameBut (by decide) .refl
  | tamperAssert => exact execTamperAssert_sameBut (by decide) .refl
  | huskWipeDone => exact execHuskWipeDone_sameBut (by decide) .refl
  | sealRequest => exact execSealRequest_sameBut (by decide) .refl
  | sealGapExpire => exact execSealGapExpire_sameBut (by decide) .refl
  | sramClearDone => exact execSramClearDone_sameBut (by decide) .refl
  | dramReadRetry => exact execDramReadRetry_sameBut (by decide) .refl
  | pageCopyDone => exact execPageCopyDone_sameBut (by decide) .refl
  | subchannelRetire => exact execSubchannelRetire_sameBut (by decide) .refl
  | mapReform => exact execMapReform_sameBut (by decide) .refl
  | patrolRead => exact execPatrolRead_sameBut (by decide) .refl
  | fullScrubStart => exact execFullScrubStart_sameBut (by decide) .refl
  | fullScrubAbort => exact execFullScrubAbort_sameBut (by decide) .refl
  | fillGranule => exact execFillGranule_sameBut (by decide) .refl
  | streamContextEnable => exact execStreamContextEnable_sameBut (by decide) .refl
  | streamContextDisable => exact execStreamContextDisable_sameBut (by decide) .refl
  | hubEnableWrite => exact execHubEnableWrite_sameBut (by decide) .refl
  | csiFrameStart => exact execCsiFrameStart_sameBut (by decide) .refl
  | csiLongPacket => exact execCsiLongPacket_sameBut (by decide) .refl
  | csiFrameEnd => exact execCsiFrameEnd_sameBut (by decide) .refl
  | ethFrameReceive => exact execEthFrameReceive_sameBut (by decide) .refl
  | ethFwTransmit => exact execEthFwTransmit_sameBut (by decide) .refl
  | selFrameReceive => exact execSelFrameReceive_sameBut (by decide) .refl
  | selAckReceive => exact execSelAckReceive_sameBut (by decide) .refl
  | selNakReceive => exact execSelNakReceive_sameBut (by decide) .refl
  | selBusyWaitExpire => exact execSelBusyWaitExpire_sameBut (by decide) .refl
  | selAckTimeout => exact execSelAckTimeout_sameBut (by decide) .refl
  | selIdleSetReceive => exact execSelIdleSetReceive_sameBut (by decide) .refl
  | selTsReceive => exact execSelTsReceive_sameBut (by decide) .refl
  | selAlignTimeout => exact execSelAlignTimeout_sameBut (by decide) .refl
  | selTrainTimeout => exact execSelTrainTimeout_sameBut (by decide) .refl
  | selCommaLoss => exact execSelCommaLoss_sameBut (by decide) .refl
  | selRetrain => exact execSelRetrain_sameBut (by decide) .refl
  | selEnable => exact execSelEnable_sameBut (by decide) .refl
  | selSleepReq => exact execSelSleepReq_sameBut (by decide) .refl
  | selWakeDetect => exact execSelWakeDetect_sameBut (by decide) .refl
  | selCmdSend => exact execSelCmdSend_sameBut (by decide) .refl
  | gpioInputChange => exact execGpioInputChange_sameBut (by decide) .refl
  | gpioStuckExpire => exact execGpioStuckExpire_sameBut (by decide) .refl
  | guardQueueCandidate => exact execGuardQueueCandidate_sameBut (by decide) .refl
  | guardWriteCandidate => exact execGuardWriteCandidate_sameBut (by decide) .refl
  | guardGapExpire => exact execGuardGapExpire_sameBut (by decide) .refl
  | guardSilenceExpire => exact execGuardSilenceExpire_sameBut (by decide) .refl
  | guardForceSafeWrite => exact execGuardForceSafeWrite_sameBut (by decide) .refl
  | rpdoAuditFlush => exact execRpdoAuditFlush_sameBut (by decide) .refl
  | canRawTransmit => exact execCanRawTransmit_sameBut (by decide) .refl
  | tpdoTrigger => exact execTpdoTrigger_sameBut (by decide) .refl
  | canTokenAvailable => exact execCanTokenAvailable_sameBut (by decide) .refl
  | canBusoffRecovery => exact execCanBusoffRecovery_sameBut (by decide) .refl
  | canStandbyFailover => exact execCanStandbyFailover_sameBut (by decide) .refl
  | canStandbyReturn => exact execCanStandbyReturn_sameBut (by decide) .refl
  | canRxPop => exact execCanRxPop_sameBut (by decide) .refl
  | heartbeatProduce => exact execHeartbeatProduce_sameBut (by decide) .refl
  | heartbeatConsumerTimeout => exact execHeartbeatConsumerTimeout_sameBut (by decide) .refl
  | errorRegisterClear => exact execErrorRegisterClear_sameBut (by decide) .refl
  | bar2Access => exact execBar2Access_sameBut (by decide) .refl
  | bar4Access => exact execBar4Access_sameBut (by decide) .refl
  | hostWinBaseWrite => exact execHostWinBaseWrite_sameBut (by decide) .refl
  | pcieReset => exact execPcieReset_sameBut (by decide) .refl
  | dmaTailWrite => exact execDmaTailWrite_sameBut (by decide) .refl
  | dmaDescriptorDone => exact execDmaDescriptorDone_sameBut (by decide) .refl
  | dmaResume => exact execDmaResume_sameBut (by decide) .refl
  | hostOringReadWrite => exact execHostOringReadWrite_sameBut (by decide) .refl
  | tlkControlFlit => exact execTlkControlFlit_sameBut (by decide) .refl
  | tlkPacketReceive => exact execTlkPacketReceive_sameBut (by decide) .refl
  | tlkAckReceive => exact execTlkAckReceive_sameBut (by decide) .refl
  | tlkNakReceive => exact execTlkNakReceive_sameBut (by decide) .refl
  | tlkReplayTimeout => exact execTlkReplayTimeout_sameBut (by decide) .refl
  | tlkCreditReceive => exact execTlkCreditReceive_sameBut (by decide) .refl
  | tlkTransmitPip => exact execTlkTransmitPip_sameBut (by decide) .refl
  | tlkTsReceive => exact execTlkTsReceive_sameBut (by decide) .refl
  | tlkStateTimeout => exact execTlkStateTimeout_sameBut (by decide) .refl
  | tlkMarkLoss => exact execTlkMarkLoss_sameBut (by decide) .refl
  | tlkRetrain => exact execTlkRetrain_sameBut (by decide) .refl
  | tlkEnable => exact execTlkEnable_sameBut (by decide) .refl
  | tlkSleepReq => exact execTlkSleepReq_sameBut (by decide) .refl
  | tlkWakeDetect => exact execTlkWakeDetect_sameBut (by decide) .refl
  | timeExchangeStart => exact execTimeExchangeStart_sameBut (by decide) .refl
  | timeFlitReceive => exact execTimeFlitReceive_sameBut (by decide) .refl
  | syncArmReceive => exact execSyncArmReceive_sameBut (by decide) .refl
  | syncWaveReceive => exact execSyncWaveReceive_sameBut (by decide) .refl
  | syncResultReceive => exact execSyncResultReceive_sameBut (by decide) .refl
  | syncUpdateReceive => exact execSyncUpdateReceive_sameBut (by decide) .refl
  | syncDoneReceive => exact execSyncDoneReceive_sameBut (by decide) .refl
  | syncSwitchReceive => exact execSyncSwitchReceive_sameBut (by decide) .refl
  | syncVoteReceive => exact execSyncVoteReceive_sameBut (by decide) .refl
  | syncRejoinReceive => exact execSyncRejoinReceive_sameBut (by decide) .refl
  | workerIsolate => exact execWorkerIsolate_sameBut (by decide) .refl
  | workerLost => exact execWorkerLost_sameBut (by decide) .refl
  | gatewayExecute => exact execGatewayExecute_sameBut (by decide) .refl
  | gatewayTimeout => exact execGatewayTimeout_sameBut (by decide) .refl
  | fwPacketReceive => exact execFwPacketReceive_sameBut (by decide) .refl
  | workerFwTimeout => exact execWorkerFwTimeout_sameBut (by decide) .refl
  | loginChallenge => exact execLoginChallenge_sameBut (by decide) .refl
  | loginVerify => exact execLoginVerify_sameBut (by decide) .refl
  | challengeExpire => exact execChallengeExpire_sameBut (by decide) .refl
  | logout => exact execLogout_sameBut (by decide) .refl
  | sessionIdleTimeout => exact execSessionIdleTimeout_sameBut (by decide) .refl
  | lockoutExpire => exact execLockoutExpire_sameBut (by decide) .refl
  | authWrite => exact execAuthWrite_sameBut (by decide) .refl
  | lifecycleRequest => exact execLifecycleRequest_sameBut (by decide) .refl
  | lifecycleConfirm => exact execLifecycleConfirm_sameBut (by decide) .refl
  | lifecycleConfirmTimeout => exact execLifecycleConfirmTimeout_sameBut (by decide) .refl
  | auditAppend => exact execAuditAppend_sameBut (by decide) .refl
  | auditExportRead => exact execAuditExportRead_sameBut (by decide) .refl
  | imageLoadFlash => exact execImageLoadFlash_sameBut (by decide) .refl
  | imageLoadDram => exact execImageLoadDram_sameBut (by decide) .refl
  | imageLoadDone => exact execImageLoadDone_sameBut (by decide) .refl
  | imageUnload => exact execImageUnload_sameBut (by decide) .refl
  | coldStart => exact execColdStart_sameBut (by decide) .refl
  | bistStart => exact execBistStart_sameBut (by decide) .refl
  | bistDone => exact execBistDone_sameBut (by decide) .refl
  | ddrTrainStep => exact execDdrTrainStep_sameBut (by decide) .refl
  | ddrTrainStepDone => exact execDdrTrainStepDone_sameBut (by decide) .refl
  | ddrModeRegisterAccess => exact execDdrModeRegisterAccess_sameBut (by decide) .refl
  | memoryTestStart => exact execMemoryTestStart_sameBut (by decide) .refl
  | memoryTestAbort => exact execMemoryTestAbort_sameBut (by decide) .refl
  | retentionHoldExpire => exact execRetentionHoldExpire_sameBut (by decide) .refl
  | memoryTestDone => exact execMemoryTestDone_sameBut (by decide) .refl
  | trainSetSeal => exact execTrainSetSeal_sameBut (by decide) .refl
  | trainSetCheck => exact execTrainSetCheck_sameBut (by decide) .refl
  | fwChunkReceive => exact execFwChunkReceive_sameBut (by decide) .refl
  | fwReport => exact execFwReport_sameBut (by decide) .refl
  | halfClockRequest => exact execHalfClockRequest_sameBut (by decide) .refl
  | coreClockWrite => exact execCoreClockWrite_sameBut (by decide) .refl
  | pllRelockDone => exact execPllRelockDone_sameBut (by decide) .refl
  | railVoutPoll => exact execRailVoutPoll_sameBut (by decide) .refl
  | railConfirmTimeout => exact execRailConfirmTimeout_sameBut (by decide) .refl
  | pmbRawTransaction => exact execPmbRawTransaction_sameBut (by decide) .refl
  | pmbTransactionDone => exact execPmbTransactionDone_sameBut (by decide) .refl
  | railPowerGood => exact execRailPowerGood_sameBut (by decide) .refl
  | railPgTimeout => exact execRailPgTimeout_sameBut (by decide) .refl
  | sequenceRetry => exact execSequenceRetry_sameBut (by decide) .refl
  | wakeEvent => exact execWakeEvent_sameBut (by decide) .refl
  | wakeTimerMatch => exact execWakeTimerMatch_sameBut (by decide) .refl
  | governorInterval => exact execGovernorInterval_sameBut (by decide) .refl
  | governorCorrection => exact execGovernorCorrection_sameBut (by decide) .refl
  | throttleStep => exact execThrottleStep_sameBut (by decide) .refl
  | updateBegin => exact execUpdateBegin_sameBut (by decide) .refl
  | updateData => exact execUpdateData_sameBut (by decide) .refl
  | updateVerifyWrite => exact execUpdateVerifyWrite_sameBut (by decide) .refl
  | updateApplyDone => exact execUpdateApplyDone_sameBut (by decide) .refl
  | updateActivate => exact execUpdateActivate_sameBut (by decide) .refl
  | updateAbort => exact execUpdateAbort_sameBut (by decide) .refl
  | fwActivate => exact execFwActivate_sameBut (by decide) .refl
  | fwSwap => exact execFwSwap_sameBut (by decide) .refl
  | fwConfirm => exact execFwConfirm_sameBut (by decide) .refl
  | fwFallbackCommand => exact execFwFallbackCommand_sameBut (by decide) .refl
  | fwOpenInactive => exact execFwOpenInactive_sameBut (by decide) .refl
  | sigCheckStart => exact execSigCheckStart_sameBut (by decide) .refl
  | sigCheckDone => exact execSigCheckDone_sameBut (by decide) .refl
  | fallbackTimerExpire => exact execFallbackTimerExpire_sameBut (by decide) .refl
  | handoverReadyTimeout => exact execHandoverReadyTimeout_sameBut (by decide) .refl
  | flashProgramCommand => exact execFlashProgramCommand_sameBut (by decide) .refl
  | fwSwitchArm => exact execFwSwitchArm_sameBut (by decide) .refl
  | chkStart => exact execChkStart_sameBut (by decide) .refl
  | chkAbort => exact execChkAbort_sameBut (by decide) .refl
  | chkJobDone => exact execChkJobDone_sameBut (by decide) .refl
  | chkSecurityClaim => exact execChkSecurityClaim_sameBut (by decide) .refl
  | chkProfileReset => exact execChkProfileReset_sameBut (by decide) .refl
  | timerCountEvent => exact execTimerCountEvent_sameBut (by decide) .refl
  | timerStart => exact execTimerStart_sameBut (by decide) .refl
  | timerStop => exact execTimerStop_sameBut (by decide) .refl
  | timerReset => exact execTimerReset_sameBut (by decide) .refl
  | timerResetStart => exact execTimerResetStart_sameBut (by decide) .refl
  | timerLoad => exact execTimerLoad_sameBut (by decide) .refl
  | timerCapture => exact execTimerCapture_sameBut (by decide) .refl
  | timerSlaveAction => exact execTimerSlaveAction_sameBut (by decide) .refl
  | timerCaptureSource => exact execTimerCaptureSource_sameBut (by decide) .refl
  | timerHeadRead => exact execTimerHeadRead_sameBut (by decide) .refl
  | timerCaptureRead => exact execTimerCaptureRead_sameBut (by decide) .refl
  | timerConfigWrite => exact execTimerConfigWrite_sameBut (by decide) .refl
  | watchdogKick => exact execWatchdogKick_sameBut (by decide) .refl
  | watchdogExpire => exact execWatchdogExpire_sameBut (by decide) .refl
  | linkRetrainDone => exact execLinkRetrainDone_sameBut (by decide) .refl
  | heartbeatTimeout => exact execHeartbeatTimeout_sameBut (by decide) .refl
  | engineTimeout => exact execEngineTimeout_sameBut (by decide) .refl
  | firmwareFenceWrite => exact execFirmwareFenceWrite_sameBut (by decide) .refl
  | remapStart => exact execRemapStart_sameBut (by decide) .refl
  | remapRestoreDone => exact execRemapRestoreDone_sameBut (by decide) .refl
  | remapSwitch => exact execRemapSwitch_sameBut (by decide) .refl
  | eventLogAppend => exact execEventLogAppend_sameBut (by decide) .refl
  | firmwareLogAppend => exact execFirmwareLogAppend_sameBut (by decide) .refl
  | opsLatchRead => exact execOpsLatchRead_sameBut (by decide) .refl
  | counterClear => exact execCounterClear_sameBut (by decide) .refl
  | traceWrite => exact execTraceWrite_sameBut (by decide) .refl
  | waitDeclare => exact execWaitDeclare_sameBut (by decide) .refl
  | hangAnalysisStart => exact execHangAnalysisStart_sameBut (by decide) .refl
  | hangAnalysisSecondRead => exact execHangAnalysisSecondRead_sameBut (by decide) .refl
  | jtagIdleTimeout => exact execJtagIdleTimeout_sameBut (by decide) .refl
  | injectionArm => exact execInjectionArm_sameBut (by decide) .refl
  | injectionDisarm => exact execInjectionDisarm_sameBut (by decide) .refl
  | tbRateCode => exact execTbRateCode_sameBut (by decide) .refl
  | codeGroupErrors => exact execCodeGroupErrors_sameBut (by decide) .refl
  | syncHeaderLock => exact execSyncHeaderLock_sameBut (by decide) .refl
  | syncHeaderErrors => exact execSyncHeaderErrors_sameBut (by decide) .refl
  | canBusError => exact execCanBusError_sameBut (by decide) .refl
  | canFrameTransmitted => exact execCanFrameTransmitted_sameBut (by decide) .refl
  | ethLinkChange => exact execEthLinkChange_sameBut (by decide) .refl
  | pcieLinkUp => exact execPcieLinkUp_sameBut (by decide) .refl
  | highWaterRead => exact done_sameBut .refl (coreRead_sameBut (by decide) .refl)
  | ptpInfoRead => exact execPtpInfoRead_sameBut (by decide) .refl
  | fullScrubRead => exact execFullScrubRead_sameBut (by decide) .refl
  | _ => cases h

/-- Settles O10: the footprints of the commands that store nothing leave out memory and the re-forms, and a byte reads the same
where both stand. -/
theorem nonStoringCommandsKeepMemory : Obligations.NonStoringCommandsKeepMemory := by
  unfold Obligations.NonStoringCommandsKeepMemory
  intro c s t hc ht
  have h : ResultSameBut allButBytes s (exec c s) := exec_keeps_bytes hc
  rw [ht] at h
  exact SameBut.sameBytes h rfl rfl

/-- Settles O11: the footprints of the other commands leave out the NMT state. -/
theorem otherCommandsKeepNmt : Obligations.OtherCommandsKeepNmt := by
  unfold Obligations.OtherCommandsKeepNmt
  intro c s t hc ht
  have h : ResultSameBut allButNmt s (exec c s) := exec_keeps_nmt hc
  rw [ht] at h
  exact SameBut.eq (f := State.nmt) h fun _ => rfl

end Sys2Proof.Machine
end

section
set_option Elab.async false
/-! PROOFS. The registers that an operation may change. -/

namespace Sys2Proof.Machine

/-- Registers at addresses outside `B` hold in `t` what they hold in `s`; of a list of addresses it is `State.sameRegs`. -/
def RegsBut (B : Nat → Prop) (s t : State) : Prop := ∀ a, ¬B a → t.reg a = s.reg a

variable {B : Nat → Prop} {s₀ s t u : State}

theorem RegsBut.refl : RegsBut B s s := fun _ _ => rfl

theorem RegsBut.trans (h : RegsBut B s t) (h' : RegsBut B t u) : RegsBut B s u := fun a ha => (h' a ha).trans (h a ha)

theorem RegsBut.mono {C : Nat → Prop} (hC : ∀ a, B a → C a) (h : RegsBut B s t) : RegsBut C s t :=
  fun a ha => h a fun hb => ha (hC a hb)

theorem RegsBut.congr (h : RegsBut B s₀ s) (e : t.regs = s.regs) : RegsBut B s₀ t := fun a ha =>
  (State.reg_congr e).trans (h a ha)

/-- What is the same outside parts without the registers holds the same registers. -/
theorem SameBut.regs {F : List Part} (h : SameBut F s t) (hF : F.contains .regs = false) : t.regs = s.regs :=
  h.eq (f := State.regs) fun u => by simp only [State.outside, hF]

theorem RegsBut.of_sameBut {F : List Part} (h : RegsBut B s₀ s) (e : SameBut F s t) (hF : F.contains .regs = false) :
    RegsBut B s₀ t :=
  h.congr (e.regs hF)

theorem RegsBut.get (h : RegsBut B s t) {f : RF} (hf : ¬B f.addr) : t.get f = s.get f := by
  rw [State.get, h _ hf, State.get]

theorem RegsBut.flag (h : RegsBut B s t) {f : RF} (hf : ¬B f.addr) : t.flag f = s.flag f := by
  rw [State.flag, h.get hf, State.flag]

theorem RegsBut.get64 (h : RegsBut B s t) {a : Nat} (hlo : ¬B a) (hhi : ¬B (a + 4)) : t.get64 a = s.get64 a := by
  simp only [State.get64, h _ hlo, h _ hhi]

namespace State

theorem keeps_foldl_mem {α : Type} {P : State → Prop} {f : State → α → State} (l : List α) (h : P s)
    (hf : ∀ x, P x → ∀ a ∈ l, P (f x a)) : P (l.foldl f s) := by
  induction l generalizing s with
  | nil => exact h
  | cons a r ih => exact ih (hf s h a List.mem_cons_self) fun x hx b hb => hf x hx b (List.mem_cons_of_mem a hb)

theorem setReg_regsBut {a w} (ha : B a) (h : RegsBut B s₀ s) : RegsBut B s₀ (s.setReg a w) := fun b hb => by
  rw [reg_setReg, if_neg fun e : b = a => hb (e ▸ ha)]
  exact h b hb

theorem put_regsBut {f : RF} {v} (hf : B f.addr) (h : RegsBut B s₀ s) : RegsBut B s₀ (s.put f v) := setReg_regsBut hf h

theorem count_regsBut {f : RF} {n} (hf : B f.addr) (h : RegsBut B s₀ s) : RegsBut B s₀ (s.count f n) := put_regsBut hf h

theorem raiseTo_regsBut {f : RF} {n} (hf : B f.addr) (h : RegsBut B s₀ s) : RegsBut B s₀ (s.raiseTo f n) :=
  put_regsBut hf h

theorem put64_regsBut {a v} (ha : B a) (ha' : B (a + 4)) (h : RegsBut B s₀ s) : RegsBut B s₀ (s.put64 a v) :=
  setReg_regsBut ha' (setReg_regsBut ha h)

theorem add64_regsBut {a v} (ha : B a) (ha' : B (a + 4)) (h : RegsBut B s₀ s) : RegsBut B s₀ (s.add64 a v) :=
  put64_regsBut ha ha' h

theorem reach_regsBut {x} (hl : B Reg.TB_COUNT_LO) (hh : B (Reg.TB_COUNT_LO + 4)) (h : RegsBut B s₀ s) :
    RegsBut B s₀ (reach s x) := by
  unfold reach
  exact keeps_ite (put64_regsBut hl hh h) h

theorem emitOut_regsBut {x} (h : RegsBut B s₀ s) : RegsBut B s₀ (emitOut s x) := h.congr emitOut_regs

theorem raise_regsBut {e i} (h : RegsBut B s₀ s) : RegsBut B s₀ (raise s e i) := h.congr raise_regs

theorem onGuard_regsBut {f} (h : RegsBut B s₀ s) : RegsBut B s₀ (onGuard s f) := h.congr rfl

theorem onSec_regsBut {f} (h : RegsBut B s₀ s) : RegsBut B s₀ (onSec s f) := h.congr rfl

theorem onMesh_regsBut {f} (h : RegsBut B s₀ s) : RegsBut B s₀ (onMesh s f) := h.congr rfl

theorem countObj_regsBut {w i j n} (h : RegsBut B s₀ s) : RegsBut B s₀ (countObj s w i j n) := h.congr rfl

theorem log_regsBut {b i c r p q} (hl : B Reg.FLT_LOG_LOST) (h : RegsBut B s₀ s) : RegsBut B s₀ (log s b i c r p q) := by
  intro a ha
  rw [reg_log, if_neg fun ⟨e, _⟩ => ha (e ▸ hl)]
  exact h a ha

theorem logOnceBy_regsBut {k b i c r p q} (hl : B Reg.FLT_LOG_LOST) (h : RegsBut B s₀ s) :
    RegsBut B s₀ (logOnceBy s k b i c r p q) := by
  unfold logOnceBy
  exact keeps_ite h (log_regsBut hl (h.congr rfl))

theorem logOnce_regsBut {b i c r p q} (hl : B Reg.FLT_LOG_LOST) (h : RegsBut B s₀ s) :
    RegsBut B s₀ (logOnce s b i c r p q) := logOnceBy_regsBut hl h

theorem msix_regsBut {n} (hi : B Reg.HOST_IRQ_STAT) (h : RegsBut B s₀ s) : RegsBut B s₀ (msix s n) := by
  unfold msix
  exact keeps_ite (emitOut_regsBut h) (put_regsBut hi h)

/-! A write of memory touches the registers of fault injection and of the signature check (R727, R611). -/

/-- The registers of an injection that a write of memory may count down, and its log entry. -/
def injectRegs (a : Nat) : Prop := a = Reg.DBG_INJ_STAT ∨ a = Reg.DBG_INJ_DONE ∨ a = Reg.FLT_LOG_LOST

theorem injected_regsBut {n} (hB : ∀ a, injectRegs a → B a) (h : RegsBut B s₀ s) : RegsBut B s₀ (injected s n) := by
  have hs : B Reg.DBG_INJ_STAT := hB _ (.inl rfl)
  have hp : ∀ x y, RegsBut B s₀ ((s.put Reg.DBG_INJ_STAT_LEFT x).put Reg.DBG_INJ_DONE_COUNT y) := fun x y =>
    put_regsBut (hB _ (.inr (.inl rfl))) (put_regsBut hs h)
  unfold injected
  exact keeps_ite (log_regsBut (hB _ (.inr (.inr rfl))) (put_regsBut hs (hp _ _))) (hp _ _)

theorem injectWrite_regsBut {a n} (hB : ∀ a, injectRegs a → B a) (h : RegsBut B s₀ s) :
    RegsBut B s₀ (injectWrite s a n) := by
  unfold injectWrite
  exact keeps_ite (keeps_ite h (injected_regsBut hB h)) h

theorem sigTouch_regsBut {a n} (hv : B Reg.SEC_SIG_STAT) (h : RegsBut B s₀ s) : RegsBut B s₀ (sigTouch s a n) := by
  unfold sigTouch
  exact keeps_ite (put_regsBut hv (h.congr rfl)) h

theorem rawBytes_regs {a : Nat} {l : List Byte} : (s.rawBytes a l).regs = s.regs :=
  (rawBytes_sameBut (F := [Part.mem]) (by decide) .refl).regs rfl

/-- The registers that a write of memory may change. -/
def writeRegs (a : Nat) : Prop := injectRegs a ∨ a = Reg.SEC_SIG_STAT

theorem wrBytes_regsBut {a l} (hB : ∀ a, writeRegs a → B a) (h : RegsBut B s₀ s) : RegsBut B s₀ (wrBytes s a l) :=
  sigTouch_regsBut (hB _ (.inr rfl)) (injectWrite_regsBut (fun a ha => hB a (.inl ha)) (h.congr rawBytes_regs))

theorem wrLe_regsBut {a n v} (hB : ∀ a, writeRegs a → B a) (h : RegsBut B s₀ s) : RegsBut B s₀ (wrLe s a n v) :=
  wrBytes_regsBut hB h

/-! The CAN controllers' own work. -/

/-- The registers of the two CAN controllers. -/
def inCan (a : Nat) : Prop := 0x10A0000 ≤ a ∧ a < 0x10B0000

theorem inCan_registers {c : Nat} (hc : c < 2) : inCan (Reg.CAN_TXLIM_STAT c) ∧ inCan (Reg.CAN_TX_MERGED c) ∧
    inCan (Reg.CAN_RX_FRAMES c) ∧ inCan (Reg.CAN_RX_DROP c) ∧ inCan (Reg.CAN_DUP_DISCARD c) ∧
    inCan (Reg.CAN_TX_RESULT c) := by
  simp only [inCan, Reg.CAN_TXLIM_STAT, Reg.CAN_TX_MERGED, Reg.CAN_RX_FRAMES, Reg.CAN_RX_DROP, Reg.CAN_DUP_DISCARD,
    Reg.CAN_TX_RESULT]
  omega

theorem setCan_regsBut {c x} (h : RegsBut B s₀ s) : RegsBut B s₀ (setCan s c x) := h.congr rfl

theorem canRefill_regsBut {c} (hc : c < 2) (hB : ∀ a, inCan a → B a) (h : RegsBut B s₀ s) :
    RegsBut B s₀ (canRefill s c) := by
  have hl := hB _ (inCan_registers hc).1
  unfold canRefill
  exact keeps_ite (put_regsBut hl (setCan_regsBut h)) (put_regsBut hl (setCan_regsBut h))

theorem canPump_regsBut {c} (hc : c < 2) (hB : ∀ a, inCan a → B a) (hf : B Reg.FLT_LOG_LOST) (h : RegsBut B s₀ s) :
    RegsBut B s₀ (canPump s c) := by
  have hl := hB _ (inCan_registers hc).1
  have hr := canRefill_regsBut hc hB h
  have hw := raise_regsBut (e := Reg.CAN_INT_EN c) (i := 2) (put_regsBut (f := Reg.CAN_TXLIM_STAT_WAITING c) (v := 1) hl hr)
  unfold canPump
  refine keeps_ite h ?_
  split
  · exact put_regsBut hl h
  · refine keeps_ite (keeps_ite hw (log_regsBut hf (setCan_regsBut hw))) ?_
    have hp := put_regsBut (f := Reg.CAN_TXLIM_STAT_WAITING c) (v := 0) hl (put_regsBut (f := Reg.CAN_TXLIM_STAT_TOKENS c)
      (v := (s.canRefill c).get (Reg.CAN_TXLIM_STAT_TOKENS c) - 1) hl hr)
    split
    · exact setCan_regsBut hp
    · exact setCan_regsBut hp

theorem tpdoTrigger_regsBut {c n} (hc : c < 2) (hB : ∀ a, inCan a → B a) (hf : B Reg.FLT_LOG_LOST)
    (h : RegsBut B s₀ s) : RegsBut B s₀ (tpdoTrigger s c n) := by
  obtain ⟨-, hm, -⟩ := inCan_registers hc
  unfold tpdoTrigger
  exact keeps_ite h (keeps_ite (count_regsBut (hB _ hm) h) (canPump_regsBut hc hB hf (setCan_regsBut h)))

theorem lt_two_of_mem_canTargets {c : Nat} (h : c ∈ s.canTargets) : c < 2 := by
  have := (List.mem_filter.1 h).1
  simp only [List.mem_cons, List.not_mem_nil, or_false] at this
  omega

theorem tpdoFire_regsBut {c n} (hc : c < 2) (hB : ∀ a, inCan a → B a) (hf : B Reg.FLT_LOG_LOST) (h : RegsBut B s₀ s) :
    RegsBut B s₀ (tpdoFire s c n) := by
  unfold tpdoFire
  refine keeps_foldl_mem _ h fun x hx a ha => tpdoTrigger_regsBut ?_ hB hf hx
  split at ha
  · rw [List.mem_singleton] at ha
    omega
  · exact lt_two_of_mem_canTargets ha

end State

end Sys2Proof.Machine
end

section
set_option Elab.async false
/-! PROOFS. An NMT command takes the parameters of the communication objects, which are held in no register but those of the
CAN controllers (R528, R529). -/

namespace Sys2Proof.Machine.State

variable {s₀ s : State}

/-- The parts that an NMT command may change. -/
def nmtParts : List Part :=
  [Part.regs, .events, .objs, .streams, .hub, .sent, .can, .canMode, .canStandby, .nmt, .tlk, .power, .node, .field]

/-- The registers of the CAN controllers, and what lies above them. -/
def fromCan (a : Nat) : Prop := 0x10A0000 ≤ a

theorem plainFields_index : ∀ x ∈ plainFields, 0x2000 ≤ x.1 := by decide

theorem fieldsOf_of_communication {index sub item : Nat} (h : index < 0x2000) : s.fieldsOf index sub item = [] := by
  have hp : plainFields.find? (fun x => x.1 = index && x.2.1 = sub) = none := by
    refine List.find?_eq_none.2 fun x hx => ?_
    have := plainFields_index x hx
    simp only [Bool.and_eq_true, decide_eq_true_eq, not_and]
    omega
  unfold fieldsOf
  rw [hp]
  split_ifs <;> first | omega | rfl

theorem pairOf_of_communication {index sub : Nat} (h : index < 0x2000) : pairOf index sub = none := by
  unfold pairOf
  split <;> first | omega | rfl

theorem objApply_of_communication {index sub item v : Nat} (h : index < 0x2000) :
    s.objApply index sub item v = s.setObj index sub v := by
  have hs : s.objStore index sub item v = s.setObj index sub v := by
    rw [objStore, pairOf_of_communication h]
    dsimp only
    rw [fieldsOf_of_communication h]
  unfold objApply
  split
  case h_8 => rw [if_neg (by omega), hs]
  all_goals omega

theorem tpdoConfig_regsBut {p} (h : RegsBut fromCan s₀ s) : RegsBut fromCan s₀ (tpdoConfig s p) := by
  have hc : ∀ c n, fromCan (Reg.CAN_TPDO_CFG c n) := fun c n => by simp only [fromCan, Reg.CAN_TPDO_CFG]; omega
  unfold tpdoConfig
  exact keeps_foldl _ h fun x hx c => put_regsBut (hc _ _) (put_regsBut (hc _ _) (put_regsBut (hc _ _)
    (put_regsBut (hc _ _) hx)))

theorem objTake_regsBut {index sub item v} (hi : index < 0x2000) (h : RegsBut fromCan s₀ s) :
    RegsBut fromCan s₀ (objTake s index sub item v) := by
  unfold objTake
  rw [if_neg (by omega : ¬index = 0x2110), objApply_of_communication hi]
  dsimp only
  rw [if_neg (by omega : ¬(index = 0x2E00 ∧ sub = 8))]
  have hs : RegsBut fromCan s₀ (s.setObj index sub v) := h.congr rfl
  exact keeps_ite (tpdoConfig_regsBut hs) (keeps_ite (tpdoConfig_regsBut hs) hs)

theorem recordTake_regsBut (h : RegsBut fromCan s₀ s) :
    RegsBut fromCan s₀ (recordTake s fun index => decide (index < 0x2000)) := by
  unfold recordTake
  split
  · exact h
  · refine keeps_foldl _ h fun x hx e => ?_
    split
    · exact hx
    · split
      · exact hx
      · next hn =>
        have hi : e.1 < 0x2000 := by
          by_contra hc
          exact hn (.inr (by simpa using hc))
        exact keeps_foldl _ hx fun y hy _ => objTake_regsBut hi hy

theorem recordReload_regsBut (h : RegsBut fromCan s₀ s) : RegsBut fromCan s₀ (recordReload s) := by
  unfold recordReload
  refine recordTake_regsBut (keeps_foldl_mem _ h fun x hx e he => objTake_regsBut ?_ hx)
  simpa using (List.mem_filter.1 he).2

theorem nmtTake_regsBut {cmd node} (h : RegsBut fromCan s₀ s) : RegsBut fromCan s₀ (nmtTake s cmd node) := by
  have hn : RegsBut fromCan s₀ { s with nmt := 127, field := Field.empty } := h.congr rfl
  have hr : RegsBut fromCan s₀ (communicationReset s) := by
    unfold communicationReset
    have he : ∀ (u : State) n c, { u with node := n, canMode := c, canStandby := false }.regs = u.regs := fun _ _ _ => rfl
    exact (recordReload_regsBut hn).congr (he _ _ _)
  unfold nmtTake
  split
  · exact h
  · split
    · exact h.congr rfl
    · exact h.congr rfl
    · exact h.congr rfl
    · exact hr
    · exact hr
    · exact h

theorem canTake_regsBut {c f remote} (h : RegsBut fromCan s₀ s) : RegsBut fromCan s₀ (canTake s c f remote).1 := by
  have hc : fromCan (Reg.CAN_RX_FRAMES c) ∧ fromCan (Reg.CAN_RX_DROP c) ∧ fromCan (Reg.CAN_DUP_DISCARD c) := by
    simp only [fromCan, Reg.CAN_RX_FRAMES, Reg.CAN_RX_DROP, Reg.CAN_DUP_DISCARD]
    omega
  obtain ⟨hf, hd, hw⟩ := hc
  have hx : RegsBut fromCan s₀ (s.count (Reg.CAN_RX_FRAMES_COUNT c)) := count_regsBut hf h
  unfold canTake
  refine keeps_ite_fst h (keeps_ite_fst (count_regsBut hd h) ?_)
  exact keeps_ite_fst (count_regsBut hw hx) (keeps_ite (hx.congr rfl) hx)

/-- An NMT command on the bus goes to the layer alone. -/
theorem frameReceive_of_nmt {c : Nat} {f : CanFrame} (hid : f.id = 0) (hide : f.ide = false) :
    s.frameReceive c f false = (s.canTake c f false).1 ∨
      ∃ cmd node, s.frameReceive c f false = nmtTake (s.canTake c f false).1 cmd node := by
  unfold frameReceive
  split
  next u hu => exact .inl (congrArg Prod.fst hu).symm
  next u hu =>
    have e : u = (s.canTake c f false).1 := (congrArg Prod.fst hu).symm
    refine .inr ⟨(f.data.getD 0 0).toNat, (f.data.getD 1 0).toNat, ?_⟩
    rw [← e, layerTake, if_neg (by simp [hide]), if_pos hid, Option.getD_some]

/-- Settles O17: the controller's and the layer's part of an NMT frame change neither memory nor the step clock's, the images',
the mesh's, the delivery's and the guard's parts, and of the registers those from the CAN controllers on. -/
theorem nmtCommandsTouchOnlyTheLayer : Obligations.NmtCommandsTouchOnlyTheLayer := by
  unfold Obligations.NmtCommandsTouchOnlyTheLayer
  intro s t bus f hid hide ht
  have hF : SameBut nmtParts s t ∧ RegsBut fromCan s t := by
    have hs : t = (s.frameReceive bus.val f false).withQueue s.pending := by
      simpa [exec, execCanFrameReceive, done_eq] using ht.symm
    have hp : SameBut nmtParts s (s.canTake bus.val f false).1 := canTake_sameBut (by decide) .refl
    have hr : RegsBut fromCan s (s.canTake bus.val f false).1 := canTake_regsBut .refl
    have hu : SameBut nmtParts s (s.frameReceive bus.val f false) ∧ RegsBut fromCan s (s.frameReceive bus.val f false) := by
      obtain e | ⟨cmd, node, e⟩ := frameReceive_of_nmt (s := s) (c := bus.val) hid hide
      · rw [e]
        exact ⟨hp, hr⟩
      · rw [e]
        exact ⟨nmtTake_sameBut (by decide) hp, nmtTake_regsBut hr⟩
    obtain ⟨hp, hr⟩ := hu
    rw [hs, withQueue, ← hp.pending]
    exact ⟨hp, hr⟩
  obtain ⟨hp, hr⟩ := hF
  have hl : ∀ a, a < 0x10A0000 → ¬fromCan a := fun a ha h => by simp only [fromCan] at h; omega
  refine ⟨?_, hr.get64 (hl _ (by decide)) (hl _ (by decide)), hr.get (hl _ (by decide)), hp.eq (f := State.clock) fun _ => rfl,
    hp.eq (f := State.images) fun _ => rfl, hp.eq (f := State.guard) fun _ => rfl, hp.eq (f := State.mesh) fun _ => rfl,
    hp.eq (f := State.delivery) fun _ => rfl, hp.sameBytes rfl rfl⟩
  rw [running, flag, hr.get (hl _ (by decide)), running, flag]

end Sys2Proof.Machine.State
end

section
set_option Elab.async false
/-! PROOFS. The registers of one egress channel, which only the guard's own work on that channel writes (R467, R468). -/

namespace Sys2Proof.Machine.State

variable {B : Nat → Prop} {s₀ s : State}

/-- Addresses outside the registers of egress channel `m`. -/
def offChannel (m a : Nat) : Prop := a < 0x1071000 + 0x40 * m ∨ 0x1071040 + 0x40 * m ≤ a

theorem offChannel_high {m a : Nat} (hm : m < 64) (h : 0x1072000 ≤ a) : offChannel m a := by
  unfold offChannel
  omega

theorem offChannel_time {m : Nat} : offChannel m Reg.TB_COUNT_LO ∧ offChannel m (Reg.TB_COUNT_LO + 4) := by
  simp only [offChannel, Reg.TB_COUNT_LO]
  omega

/-! What the sinks of a channel write: TPDO buffers and the CAN controllers, pins, and the host ring. -/

theorem canWrite_regsBut {n v} (hB : ∀ a, inCan a → B a) (h : RegsBut B s₀ s) : RegsBut B s₀ (canWrite s n v) := by
  have hc := bits_lt (s.reg (Reg.EGR_CH_SINK n)).toNat 0 1
  have ht := bits_lt (s.reg (Reg.EGR_CH_SINK n)).toNat 1 4
  unfold canWrite
  refine keeps_foldl_mem _ h fun x hx c hm => keeps_foldl _ hx fun y hy i => ?_
  have h2 : c < 2 := by
    split at hm
    · rw [List.mem_singleton] at hm
      omega
    · simp only [List.mem_cons, List.not_mem_nil, or_false] at hm
      omega
  split
  · refine put_regsBut (hB _ ?_) hy
    simp only [inCan, Reg.CAN_TPDO_BUF]
    omega
  · exact hy

theorem ethWrite_regsBut {n v} (h : RegsBut B s₀ s) : RegsBut B s₀ (ethWrite s n v) := emitOut_regsBut (h.congr rfl)

theorem pinDrive_regsBut {i} (hB : B (Reg.EGR_GPO_STAT i)) (h : RegsBut B s₀ s) : RegsBut B s₀ (pinDrive s i) := by
  have hp : ∀ x y, RegsBut B s₀ ((s.put (Reg.EGR_GPO_STAT_LEVEL i) x).put (Reg.EGR_GPO_STAT_SAFE i) y) := fun x y =>
    put_regsBut hB (put_regsBut hB h)
  unfold pinDrive
  refine keeps_ite (hp _ _) ?_
  split
  · exact hp _ _
  · exact keeps_ite (hp _ _) (hp _ _)

theorem hostWrite_regsBut {n v} (hp : B Reg.EGR_HOST_PTR) (hd : B Reg.EGR_HOST_DROP) (hi : B Reg.HOST_IRQ_STAT)
    (hw : ∀ a, writeRegs a → B a) (h : RegsBut B s₀ s) : RegsBut B s₀ (hostWrite s n v) := by
  have hx := put_regsBut (f := Reg.EGR_HOST_PTR_WR)
    (v := (s.get Reg.EGR_HOST_PTR_WR + 1) % max 1 (s.get Reg.EGR_HOST_LEN_ENTRIES)) hp
    (wrBytes_regsBut (a := s.get64 Reg.EGR_HOST_BASE_LO + 16 * s.get Reg.EGR_HOST_PTR_WR)
      (l := leBytes 8 s.stepNum ++ leBytes 2 n ++ [0, 0] ++ leBytes 4 v) hw h)
  unfold hostWrite
  exact keeps_ite (count_regsBut hd h) (keeps_ite (msix_regsBut hi hx) hx)

/-- The registers that the sinks of the channels write, besides LAST. -/
def sinkRegs (a : Nat) : Prop :=
  inCan a ∨ (∃ i < 32, a = Reg.EGR_GPO_STAT i) ∨ a = Reg.EGR_HOST_PTR ∨ a = Reg.EGR_HOST_DROP ∨ a = Reg.HOST_IRQ_STAT ∨
    writeRegs a

theorem sink_regsBut {n v} (hB : ∀ a, sinkRegs a → B a)
    (h : RegsBut B s₀ (s.setReg (Reg.EGR_CH_LAST n) (BitVec.ofNat 32 (toBits 32 v)))) : RegsBut B s₀ (sink s n v) := by
  have hC : ∀ a, inCan a → B a := fun a ha => hB a (.inl ha)
  have hw : ∀ a, writeRegs a → B a := fun a ha => hB a (.inr (.inr (.inr (.inr (.inr ha)))))
  have hl : B Reg.FLT_LOG_LOST := hw _ (.inl (.inr (.inr rfl)))
  unfold sink
  dsimp only
  split
  · exact keeps_ite (tpdoFire_regsBut (bits_lt _ 0 1) hC hl (canWrite_regsBut hC h)) (canWrite_regsBut hC h)
  · exact ethWrite_regsBut h
  · exact pinDrive_regsBut (hB _ (.inr (.inl ⟨_, get_lt, rfl⟩))) h
  · exact hostWrite_regsBut (hB _ (.inr (.inr (.inl rfl)))) (hB _ (.inr (.inr (.inr (.inl rfl)))))
      (hB _ (.inr (.inr (.inr (.inr (.inl rfl)))))) hw h
  · exact h

/-- What a channel sends besides its LAST register changes no register of a channel. -/
theorem offChannel_of_sinkRegs {m a : Nat} (hm : m < 64) (h : sinkRegs a) : offChannel m a := by
  simp only [sinkRegs, inCan, writeRegs, injectRegs, Reg.EGR_GPO_STAT, Reg.EGR_HOST_PTR, Reg.EGR_HOST_DROP,
    Reg.HOST_IRQ_STAT, Reg.DBG_INJ_STAT, Reg.DBG_INJ_DONE, Reg.FLT_LOG_LOST, Reg.SEC_SIG_STAT] at h
  simp only [offChannel]
  omega

end Sys2Proof.Machine.State
end
section
set_option Elab.async false
/-! PROOFS. The egress guard's bounds (R467, R468). -/

namespace Sys2Proof.Machine.State

variable {s₀ s t : State} {n m : Nat}

theorem channel_addresses (n : Nat) : Reg.EGR_CH_LO n = 0x1071008 + 0x40 * n ∧ Reg.EGR_CH_HI n = 0x107100C + 0x40 * n ∧
    Reg.EGR_CH_LAST n = 0x1071024 + 0x40 * n ∧ Reg.EGR_CH_CLAMP n = 0x1071028 + 0x40 * n ∧
    Reg.EGR_CH_HELD n = 0x107102C + 0x40 * n ∧ Reg.EGR_CH_STATUS n = 0x1071034 + 0x40 * n ∧
    Reg.EGR_CH_EMIT n = 0x1071038 + 0x40 * n := ⟨rfl, rfl, rfl, rfl, rfl, rfl, rfl⟩

/-- The registers of a channel lie outside every other channel. -/
theorem offChannel_registers (h : n ≠ m) : offChannel m (Reg.EGR_CH_LAST n) ∧ offChannel m (Reg.EGR_CH_CLAMP n) ∧
    offChannel m (Reg.EGR_CH_HELD n) ∧ offChannel m (Reg.EGR_CH_STATUS n) ∧ offChannel m (Reg.EGR_CH_EMIT n) := by
  obtain ⟨-, -, hl, hc, hh, hs, he⟩ := channel_addresses n
  unfold offChannel
  omega

theorem withinBounds_congr (hl : t.reg (Reg.EGR_CH_LO m) = s.reg (Reg.EGR_CH_LO m))
    (hh : t.reg (Reg.EGR_CH_HI m) = s.reg (Reg.EGR_CH_HI m)) (ha : t.reg (Reg.EGR_CH_LAST m) = s.reg (Reg.EGR_CH_LAST m))
    (hs : t.reg (Reg.EGR_CH_STATUS m) = s.reg (Reg.EGR_CH_STATUS m)) (h : s.withinBounds m) : t.withinBounds m := by
  rw [withinBounds, flag, State.get, hs, egrInt, egrInt, egrInt, hl, hh, ha]
  exact h

theorem withinBounds_of_sameChannel (h : RegsBut (offChannel m) s t) (hs : s.withinBounds m) : t.withinBounds m := by
  obtain ⟨hL, hH, hA, -, -, hS, -⟩ := channel_addresses m
  have hc : ∀ a, 0x1071000 + 0x40 * m ≤ a → a < 0x1071040 + 0x40 * m → t.reg a = s.reg a := fun a hlo hhi =>
    h a (by unfold offChannel; omega)
  exact withinBounds_congr (hc _ (by omega) (by omega)) (hc _ (by omega) (by omega)) (hc _ (by omega) (by omega))
    (hc _ (by omega) (by omega)) hs

theorem sext_toBits {x : Int} (hlo : -(2 ^ 31) ≤ x) (hhi : x < 2 ^ 31) :
    sext 32 (BitVec.ofNat 32 (toBits 32 x)).toNat = x := by
  rw [BitVec.toNat_ofNat, sext, toBits]
  split <;> omega

theorem egrInt_bounds {a : Nat} : -(2 ^ 31) ≤ s.egrInt a ∧ s.egrInt a < 2 ^ 31 := by
  have := sext_bounds 32 (s.reg a).toNat
  unfold egrInt
  omega

/-! A channel's own work leaves every other channel alone. -/

theorem guardEmit_regsBut {x} (hm : m < 64) (hn : n ≠ m) (h : RegsBut (offChannel m) s₀ s) :
    RegsBut (offChannel m) s₀ (guardEmit s n x) := by
  obtain ⟨hl, hcl, hh, hs, he⟩ := offChannel_registers hn
  exact (count_regsBut he (sink_regsBut (fun _ => offChannel_of_sinkRegs hm) (setReg_regsBut hl h))).congr rfl

theorem guardChannel_regsBut (hm : m < 64) (hn : n ≠ m) (h : RegsBut (offChannel m) s₀ s) :
    RegsBut (offChannel m) s₀ (guardChannel s n) := by
  obtain ⟨hl, hcl, hh, hs, he⟩ := offChannel_registers hn
  have ho : ∀ a, 0x1072000 ≤ a → offChannel m a := fun _ => offChannel_high hm
  unfold guardChannel
  refine keeps_ite (keeps_ite (put_regsBut hs h) (put_regsBut hs h)) (keeps_ite h ?_)
  refine msix_regsBut (ho _ (by decide)) (log_regsBut (ho _ (by decide)) (sink_regsBut (fun _ => offChannel_of_sinkRegs hm)
    (setReg_regsBut hl ?_)))
  exact (put_regsBut hs (put_regsBut hs h)).congr rfl

theorem guardValue_regsBut {x} (hm : m < 64) (hn : n ≠ m) (h : RegsBut (offChannel m) s₀ s) :
    RegsBut (offChannel m) s₀ (guardValue s n x) := by
  obtain ⟨hl, hcl, hh, hs, he⟩ := offChannel_registers hn
  have ho : offChannel m Reg.FLT_LOG_LOST := offChannel_high hm (by decide)
  unfold guardValue
  extract_lets u lo hi y c v
  have hu : RegsBut (offChannel m) s₀ u := h.congr rfl
  have hv : RegsBut (offChannel m) s₀ v := keeps_ite hu
    (logOnceBy_regsBut ho (count_regsBut hcl hu))
  refine keeps_ite (guardChannel_regsBut hm hn hu) (keeps_ite ?_ (keeps_ite hv (keeps_ite (guardEmit_regsBut hm hn hv) ?_)))
  · exact log_regsBut ho (guardEmit_regsBut hm hn (put_regsBut hs (put_regsBut hs hv)))
  · exact onGuard_regsBut (keeps_ite (count_regsBut (f := Reg.EGR_CH_HELD_COUNT n) hh hv) hv)

theorem gapExpire_regsBut (hm : m < 64) (hn : n ≠ m) (h : RegsBut (offChannel m) s₀ s) :
    RegsBut (offChannel m) s₀ (gapExpire s n) := by
  unfold gapExpire
  split
  · exact h
  · exact keeps_ite (guardChannel_regsBut hm hn (reach_regsBut offChannel_time.1 offChannel_time.2 h))
      (guardEmit_regsBut hm hn (reach_regsBut offChannel_time.1 offChannel_time.2 h))

/-! A channel's own work puts it into its safe state or sends what lies in its bounds. -/

theorem guardEmit_withinBounds {x : Int} (hn : n < 64) (hlo : s.egrInt (Reg.EGR_CH_LO n) ≤ x)
    (hhi : x ≤ s.egrInt (Reg.EGR_CH_HI n)) : (s.guardEmit n x).withinBounds n := by
  have hr : RegsBut (fun a => offChannel n a ∨ a = Reg.EGR_CH_EMIT n) (s.setReg (Reg.EGR_CH_LAST n)
      (BitVec.ofNat 32 (toBits 32 x))) (s.guardEmit n x) := by
    have hk := sink_regsBut (s := s) (n := n) (v := x) (fun _ => offChannel_of_sinkRegs hn) .refl
    exact (count_regsBut (.inr rfl) (fun a ha => hk a fun h => ha (.inl h))).congr rfl
  have hc : ∀ a, 0x1071000 + 0x40 * n ≤ a → a < 0x1071040 + 0x40 * n → a ≠ Reg.EGR_CH_EMIT n →
      (s.guardEmit n x).reg a = if a = Reg.EGR_CH_LAST n then BitVec.ofNat 32 (toBits 32 x) else s.reg a :=
    fun a hl hh he => (hr a (by unfold offChannel; omega)).trans reg_setReg
  obtain ⟨hL, hH, hA, -, -, -, hE⟩ := channel_addresses n
  have hx := s.egrInt_bounds (a := Reg.EGR_CH_LO n)
  have hy := s.egrInt_bounds (a := Reg.EGR_CH_HI n)
  refine .inr ?_
  rw [egrInt, egrInt, egrInt, hc (Reg.EGR_CH_LO n) (by omega) (by omega) (by omega),
    hc (Reg.EGR_CH_LAST n) (by omega) (by omega) (by omega), hc (Reg.EGR_CH_HI n) (by omega) (by omega) (by omega),
    if_neg (by omega), if_pos rfl, if_neg (by omega), sext_toBits (by omega) (by omega)]
  exact ⟨hlo, hhi⟩

theorem guardChannel_withinBounds (hn : n < 64) (hc : s.causes n ≠ 0) : (s.guardChannel n).withinBounds n := by
  obtain ⟨-, -, hA, -, -, hS, -⟩ := channel_addresses n
  have ho : ∀ a, 0x1072000 ≤ a → offChannel n a ∨ a = Reg.EGR_CH_LAST n := fun a h => .inl (offChannel_high hn h)
  refine .inl ?_
  unfold guardChannel
  extract_lets c u w
  split
  next hs =>
    rw [flag, get_put_clear (.inl (by simp))]
    exact hs
  · have hk := sink_regsBut (s := w) (n := n) (v := w.egrInt (Reg.EGR_CH_SAFE n)) (fun _ => offChannel_of_sinkRegs hn) .refl
    have hw : RegsBut (fun a => offChannel n a ∨ a = Reg.EGR_CH_LAST n) w (w.sink n (w.egrInt (Reg.EGR_CH_SAFE n))) :=
      fun a ha => (hk a fun h => ha (.inl h)).trans (reg_setReg.trans (if_neg fun h => ha (.inr h)))
    have hr := msix_regsBut (n := 14) (ho _ (by decide)) (log_regsBut (b := .egr) (i := 0) (c := 0x5502) (r := srcManager)
      (p := c) (q := 0) (ho _ (by decide)) hw)
    have hu : w.get (Reg.EGR_CH_STATUS_SAFE n) = 1 := get_onGuard.trans <|
      (get_put_clear (s := s.put (Reg.EGR_CH_STATUS_SAFE n) 1) (f := Reg.EGR_CH_STATUS_CAUSE n) (v := c)
        (.inl (by simp))).trans (get_put_self (by simp))
    rw [flag, hr.get (f := Reg.EGR_CH_STATUS_SAFE n) (by simp only [offChannel]; omega), hu]
    rfl

theorem guardValue_withinBounds {x : Int} (hn : n < 64) (hs : s.withinBounds n)
    (hle : s.egrInt (Reg.EGR_CH_LO n) ≤ s.egrInt (Reg.EGR_CH_HI n)) : (s.guardValue n x).withinBounds n := by
  obtain ⟨hL, hH, hA, hC, hD, hS, -⟩ := channel_addresses n
  have ho : ∀ a, 0x1072000 ≤ a → offChannel n a := fun _ => offChannel_high hn
  unfold guardValue
  extract_lets u lo hi y c v w k
  have hu : u.withinBounds n := hs
  have hv : RegsBut (fun a => offChannel n a ∨ a = Reg.EGR_CH_CLAMP n) u v :=
    keeps_ite .refl (logOnceBy_regsBut (.inl (ho _ (by decide))) (count_regsBut (.inr rfl) .refl))
  have hr : ∀ a, 0x1071000 + 0x40 * n ≤ a → a < 0x1071040 + 0x40 * n → a ≠ Reg.EGR_CH_CLAMP n → v.reg a = u.reg a :=
    fun a hl hh hc => hv a (by unfold offChannel; omega)
  have hrl := hr (Reg.EGR_CH_LO n) (by omega) (by omega) (by omega)
  have hrh := hr (Reg.EGR_CH_HI n) (by omega) (by omega) (by omega)
  have hvw : v.withinBounds n := withinBounds_congr hrl hrh (hr _ (by omega) (by omega) (by omega))
    (hr _ (by omega) (by omega) (by omega)) hu
  have hc : lo ≤ c ∧ c ≤ hi := ⟨le_sat hle, sat_le_hi hle⟩
  have hce : v.egrInt (Reg.EGR_CH_LO n) ≤ c ∧ c ≤ v.egrInt (Reg.EGR_CH_HI n) := by
    rw [egrInt, egrInt, hrl, hrh]
    exact hc
  split
  next h => exact guardChannel_withinBounds hn h
  split
  · have hp : ∀ a, a ≠ Reg.EGR_CH_STATUS n →
        ((v.put (Reg.EGR_CH_STATUS_SAFE n) 0).put (Reg.EGR_CH_STATUS_CAUSE n) 0).reg a = v.reg a := fun a ha => by
      rw [reg_put_of_ne ha, reg_put_of_ne ha]
    refine withinBounds_of_sameChannel (log_regsBut (ho _ (by decide)) .refl) (guardEmit_withinBounds hn ?_ ?_)
    · rw [egrInt, hp _ (by omega)]
      exact hce.1
    · rw [egrInt, hp _ (by omega)]
      exact hce.2
  split
  · exact hvw
  split
  · exact guardEmit_withinBounds hn hce.1 hce.2
  · have hk : ∀ a, a ≠ Reg.EGR_CH_HELD n → k.reg a = v.reg a := fun a ha => by
      simp only [k]
      split
      · exact reg_put_of_ne ha
      · rfl
    have hkw : k.withinBounds n := withinBounds_congr (hk _ (by omega)) (hk _ (by omega)) (hk _ (by omega))
      (hk _ (by omega)) hvw
    exact withinBounds_of_sameChannel (onGuard_regsBut .refl) hkw

theorem gapExpire_withinBounds (hn : n < 64) (hs : s.withinBounds n) (hh : ∀ x ∈ s.guard.held, x.1 = n →
    s.egrInt (Reg.EGR_CH_LO n) ≤ sext 32 x.2 ∧ sext 32 x.2 ≤ s.egrInt (Reg.EGR_CH_HI n)) :
    (s.gapExpire n).withinBounds n := by
  unfold gapExpire
  split
  · exact hs
  next x hx =>
    extract_lets due u
    obtain ⟨hlo, hhi⟩ := hh x (List.mem_of_find?_eq_some hx) (by simpa using List.find?_some hx)
    have hr : RegsBut (offChannel n) s u := reach_regsBut offChannel_time.1 offChannel_time.2 .refl
    obtain ⟨hL, hH, -, -, -, -, -⟩ := channel_addresses n
    split
    next hc => exact guardChannel_withinBounds hn hc
    · refine guardEmit_withinBounds hn ?_ ?_
      · rw [egrInt, hr _ (by unfold offChannel; omega)]
        exact hlo
      · rw [egrInt, hr _ (by unfold offChannel; omega)]
        exact hhi

/-- Settles O15: a channel's own work puts it into its safe state or sends what lies in its bounds, and leaves the others
alone. -/
theorem egressStaysInBounds : Obligations.EgressStaysInBounds := by
  unfold Obligations.EgressStaysInBounds
  intro s t n m hs hle
  refine ⟨fun ⟨v, ht⟩ => ?_, fun hh ht => ?_⟩
  · obtain rfl : (s.guardValue n.val v.toInt).withQueue s.pending = t := by
      simpa [exec, execGuardWriteCandidate, done_eq] using ht
    by_cases hn : n.val = m.val
    · rw [hn]
      exact guardValue_withinBounds m.isLt hs hle
    · exact withinBounds_of_sameChannel (guardValue_regsBut m.isLt hn .refl) hs
  · obtain rfl : (s.gapExpire n.val).withQueue s.pending = t := by
      simpa [exec, execGuardGapExpire, done_eq] using ht
    by_cases hn : n.val = m.val
    · rw [hn]
      exact gapExpire_withinBounds m.isLt hs hh
    · exact withinBounds_of_sameChannel (gapExpire_regsBut m.isLt hn .refl) hs

end Sys2Proof.Machine.State
end

section
set_option Elab.async false
/-! PROOFS. Requests of registers and their responses: the pips that carry them, and a shut tile's answer (R40, R41, R276). -/

namespace Sys2Proof.Machine.State

variable {s u : State}

/-! Taking a control pip changes the mesh alone. -/

theorem takeCtrl_onMesh {n ptype : Nat} {p : Pip} (h : s.takeCtrl n ptype = some (p, u)) : ∃ f, u = s.onMesh f := by
  simp only [takeCtrl, Option.bind_eq_some_iff, Option.map_eq_some_iff, Prod.mk.injEq] at h
  obtain ⟨_, -, _, -, -, rfl⟩ := h
  exact ⟨_, rfl⟩

theorem takeResponse_onMesh {row : Nat} {p : Pip} (h : s.takeResponse row = some (p, u)) : ∃ f, u = s.onMesh f := by
  simp only [takeResponse, Option.map_eq_some_iff, Prod.mk.injEq] at h
  obtain ⟨_, -, -, rfl⟩ := h
  exact ⟨_, rfl⟩

theorem shut_onMesh {f t} : (s.onMesh f).shut t = s.shut t := rfl

/-- A shut tile answers FENCED at every address of its own and of its pod's window. -/
theorem serveAccess_of_shut {t a : Nat} {src : Sender} {wr : Option Word} {be : Nat} {ecc : Ecc} (h : s.shut t = true) :
    s.serveAccess t a src wr be ecc = (s, .fenced, 0) := by
  unfold serveAccess
  dsimp only
  split
  next ht =>
    have : (a / 4 * 4 - 0x100000000) / 0x40000 = t := by
      unfold tileAtAddr at ht
      split at ht
      · exact Option.some.inj ht
      · cases ht
    rw [tileAccess, this, if_pos h]
  · rfl

/-- A request that a shut tile takes is answered FENCED. -/
theorem regRequest_of_shut {t : Nat} {write : Bool} {ecc : Ecc} {p : Pip}
    (hp : s.takeCtrl t (if write then 6 else 5) = some (p, u)) (h : s.shut t = true) :
    s.regRequest t write ecc = u.sendCtrl t (regResponse t (reqFrom p) (reqTag p) 0 Status.fenced.code) := by
  obtain ⟨f, rfl⟩ := takeCtrl_onMesh hp
  rw [regRequest, hp]
  dsimp only
  rw [serveAccess_of_shut (shut_onMesh.trans h)]
  rfl

/-- A hart's access of a tile window leaves under the first free tag. -/
theorem hartAccess_of_tile {n : Fin 4} {m : Bool} {a t g : Nat} {wr : Option Word} {ecc : Ecc} (ht : tileAtAddr a = some t)
    (hg : ((List.range 256).find? fun g => s.accesses.all fun x => x.1 != g) = some g) :
    ∃ p, s.hartAccess n m a wr ecc = { s.sendCtrl (1152 + rowOf t) p with
      accesses := s.accesses ++ [(g, n.val)], answer := [] } := by
  have hd : s.doorOf a = some t := by rw [doorOf, ht]
  rw [hartAccess, hd]
  dsimp only
  rw [sendAccess, hg]
  exact ⟨_, rfl⟩

/-- A response that a hart waits for ends its access. -/
theorem regEnded_of_hart {row : Nat} {p : Pip} {n : Fin 4} {m : Bool} (hp : s.takeResponse row = some (p, u))
    (hs : u.accessSender (p.b 96 8) = .hart n m) :
    s.regEnded row = { u with accesses := u.accesses.filter fun x => x.1 != p.b 96 8 }.coreEnded (p.b 32 4) (p.b 0 32) := by
  rw [regEnded, hp]
  dsimp only
  rw [hs]

/-- Settles O14: the write leaves as a pip, the shut tile answers FENCED whatever the address, and the hart gets that answer. -/
theorem closedWindowDiscardsWrites : Obligations.ClosedWindowDiscardsWrites := by
  unfold Obligations.ClosedWindowDiscardsWrites
  intro s tile
  refine ⟨fun hart m a w e g ht hg => ?_, fun p u e hp hs => ?_, fun row p u hart m hp hs hst => ?_⟩
  · obtain ⟨q, hq⟩ := hartAccess_of_tile (s := s) (n := hart) (m := m) (wr := some w) (ecc := e) ht hg
    refine completes_done (t := s.hartAccess hart m a.toNat (some w) e) rfl ?_
    rw [hq]
    exact ⟨rfl, rfl, rfl, rfl, rfl⟩
  · refine completes_done rfl ?_
    rw [regRequest_of_shut hp hs]
    obtain ⟨f, rfl⟩ := takeCtrl_onMesh hp
    exact ⟨rfl, rfl, rfl, rfl⟩
  · refine completes_done rfl ?_
    obtain ⟨f, rfl⟩ := takeResponse_onMesh hp
    rw [regEnded_of_hart hp hs, hst]
    exact ⟨rfl, rfl, rfl⟩

end Sys2Proof.Machine.State
end

section
set_option Elab.async false
/-! PROOFS. A core's read of a register that it reaches at once, and the latch between the two words of a pair (R12). -/

namespace Sys2Proof.Machine.State

variable {s u : State}

/-- A plain register word is read through the latch alone. -/
theorem wordRead_of_plain {a : Nat} (h : plainRead a = true) : s.wordRead a = s.pairRead a := by
  unfold plainRead at h
  unfold wordRead
  cases ht : tileAtAddr a with
  | some t =>
    simp only [ht, Bool.and_eq_true, Bool.not_eq_true', Bool.and_eq_false_iff, decide_eq_false_iff_not, bne_iff_ne] at h
    obtain ⟨hm, hops, hmc⟩ := h
    dsimp only
    rw [if_neg (by omega), if_neg (by omega), hm, if_neg (by decide), if_neg hmc]
  | none =>
    simp only [ht, Bool.and_eq_true, Bool.not_eq_true', Bool.and_eq_false_iff, decide_eq_false_iff_not, List.all_cons,
      List.all_nil, bne_iff_ne, Bool.and_true] at h
    obtain ⟨hm, ⟨hl, ht⟩, ⟨hr0, ht0⟩, hr1, ht1⟩ := h
    dsimp only
    rw [hm, if_neg (by decide), hl, if_neg (by decide), if_neg (by omega), if_neg hr0, if_neg hr1, if_neg ht0, if_neg ht1]

theorem pairRead_of_latched {a n : Nat} (h : s.latches.at a = n + 1) :
    s.pairRead a = { s with latches := s.latches.put a 0, answer := [(BitVec.ofNat 32 n).toNat] } := by
  rw [pairRead, h]
  rfl

theorem pairRead_of_low {a : Nat} {row : RegRow} (h : s.latches.at a = 0) (hr : RegMap.rowOf a = some row)
    (hl : row.low = true) : s.pairRead a =
      { s with latches := s.latches.put (a + 4) ((s.view (a + 4)).toNat + 1), answer := [(s.view a).toNat] } := by
  rw [pairRead, h, hr]
  simp only [Option.any_some, hl, if_true]
  rfl

/-- A word that nothing latched is read live; its own low word may latch another. -/
theorem pairRead_of_unlatched {a : Nat} (h : s.latches.at a = 0) :
    ∃ l, s.pairRead a = { s with latches := l, answer := [(s.view a).toNat] } := by
  rw [pairRead, h]
  dsimp only
  split
  · exact ⟨_, rfl⟩
  · exact ⟨s.latches, rfl⟩

theorem pairRead_answer {a : Nat} : ∃ w : Word, (s.pairRead a).answer = [w.toNat] := by
  unfold pairRead
  split
  · exact ⟨_, rfl⟩
  · exact ⟨_, rfl⟩

/-- What a plain read answers to the block that asked is what its core gets. -/
theorem coreEnded_regAccess_of_plain {src : Sender} {a be : Nat} (h : plainRead a = true) :
    (s.regAccess src a none be).1.coreEnded (s.regAccess src a none be).2.1.code (s.regAccess src a none be).2.2.toNat =
      s.pairRead a := by
  obtain ⟨w, hw⟩ := pairRead_answer (s := s) (a := a)
  have e : (BitVec.ofNat 32 ((s.pairRead a).answer.headD 0)).toNat = w.toNat := by
    rw [hw, List.headD_cons, BitVec.toNat_ofNat, Nat.mod_eq_of_lt w.isLt]
  have he : ∀ x : State, ∀ l, { { x with answer := s.answer } with answer := l }.answer = l := fun _ _ => rfl
  rw [regAccess, wordRead_of_plain h]
  dsimp only
  rw [e]
  have hs : ∀ x : State, x.answer = [w.toNat] → coreEnded { x with answer := s.answer } Status.ok.code w.toNat = x :=
    fun x hx => by cases x; subst hx; rfl
  exact hs _ hw

/-- A manager hart's read in the peripheral blocks, and a tile core's in its own windows, take effect at once. -/
theorem coreRead_of_reaches {src : Requester} {e : Ecc} {a r : Nat} (hr : s.reaches src a = some r)
    (hp : plainRead r = true) : s.coreAccess ⟨src, e⟩ a none = s.pairRead r := by
  unfold reaches at hr
  cases src with
  | hart n m =>
    dsimp only at hr
    split at hr
    case isTrue h =>
      obtain rfl := Option.some.inj hr
      simp only [Bool.not_eq_true', decide_eq_false_iff_not] at h
      obtain ⟨hlo, hhi, hhost, hfree⟩ := h
      have hd : s.doorOf a = none := by
        rw [doorOf, tileAtAddr, if_neg (by omega)]
        dsimp only
        rw [if_neg (by omega)]
      have hl : s.localAccess (.hart n m) a none 15 e = s.regAccess (.hart n m) a none 15 := by
        simp only [hostBase] at hhost
        rw [localAccess, if_neg (by omega), if_neg (by simp only [huskBase]; omega), if_neg (by simp only [huskEnd]; omega),
          if_pos (by omega), peripheral]
        split
        · rw [hostBlock, if_pos (by simp only [hostBase] at *; omega)]
        · rfl
      rw [coreAccess]
      dsimp only
      rw [hartAccess, hd]
      dsimp only
      rw [if_pos (by omega), hl]
      exact coreEnded_regAccess_of_plain hp
    case isFalse => cases hr
  | tile t =>
    dsimp only at hr
    split at hr
    · cases hr
    next hg =>
    rw [coreAccess]
    dsimp only
    rw [tileCoreAccess, if_neg hg]
    split at hr
    case isTrue h =>
      obtain rfl := Option.some.inj hr
      have hw : s.tileWindow .tile t.val a none 15 e = s.regAccess .tile (tileBase t.val + a) none 15 := by
        rw [tileWindow]
        dsimp only
        rw [if_neg (by omega), if_neg (by omega)]
      rw [if_pos (by omega), hw]
      exact coreEnded_regAccess_of_plain (src := .tile) (be := 15) hp
    case isFalse h =>
      split at hr
      case isTrue h' =>
        obtain rfl := Option.some.inj hr
        have hw : s.podAccess .tile (podBase (podOf t.val) + (a - 0x100000)) none 15 e =
            s.regAccess .tile (podBase (podOf t.val) + (a - 0x100000)) none 15 := by
          rw [podAccess, if_neg (by simp only [podBase]; omega)]
        rw [if_neg (by omega), if_pos (by omega), hw]
        exact coreEnded_regAccess_of_plain (src := .tile) (be := 15) hp
      case isFalse => cases hr

/-- Settles O12: the low word's read latches the high word, which the next read of it answers and lets go. -/
theorem pairsReadWhole : Obligations.PairsReadWhole := by
  unfold Obligations.PairsReadWhole
  intro s u src a e r row hlo hhi ha hrow hlow hpl hph
  have ha4 : (a + 4).toNat = a.toNat + 4 := by
    bv_omega
  refine ⟨fun hl => ?_, fun hl => ?_⟩
  · have hr := (coreRead_of_reaches (e := e) hlo hpl).trans (pairRead_of_low hl hrow hlow)
    refine completes_done (t := s.coreAccess ⟨src, e⟩ a.toNat none) rfl ?_
    rw [hr]
    refine ⟨rfl, by simp, fun _ _ => rfl, fun _ => rfl, fun hu hur => ?_⟩
    have hat : u.latches.at (r + 4) = (s.view (r + 4)).toNat + 1 := by
      rw [hu]
      simp
    have hv := (coreRead_of_reaches (e := e) hur hph).trans (pairRead_of_latched hat)
    rw [← ha4] at hv
    refine completes_done (t := u.coreAccess ⟨src, e⟩ (a + 4).toNat none) rfl ?_
    rw [hv]
    refine ⟨?_, by simp, fun _ _ => rfl, fun _ => rfl⟩
    rw [withQueue_answer]
    simp
  · obtain ⟨l, hp⟩ := pairRead_of_unlatched hl
    have hr := (coreRead_of_reaches (e := e) hhi hph).trans hp
    rw [← ha4] at hr
    refine completes_done (t := s.coreAccess ⟨src, e⟩ (a + 4).toNat none) rfl ?_
    rw [hr]
    exact ⟨rfl, fun _ _ => rfl, fun _ => rfl⟩

end Sys2Proof.Machine.State
end

section
set_option Elab.async false
/-! PROOFS. A wipe (R413 to R415, R537): what ends the sessions, and what leaves the wipe's own marks alone. -/

namespace Sys2Proof.Machine.State

variable {B : Nat → Prop} {s₀ s t : State}

/-- The registers that an audit entry changes (R547). -/
def auditRegs (a : Nat) : Prop :=
  a = Reg.SEC_AUDIT_STAT ∨ a = Reg.SEC_AUDIT_HEAD ∨ a = Reg.SEC_HUSK_STAT ∨ writeRegs a

theorem audit_regsBut {kind slot role obj status old new} (hB : ∀ a, auditRegs a → B a) (h : RegsBut B s₀ s) :
    RegsBut B s₀ (audit s kind slot role obj status old new) := by
  have hs : B Reg.SEC_AUDIT_STAT := hB _ (.inl rfl)
  have hw : ∀ a, writeRegs a → B a := fun a ha => hB a (.inr (.inr (.inr ha)))
  unfold audit
  split
  · exact h
  extract_lets held seq prev body u v w
  have hv : RegsBut B s₀ v := by
    have hu : RegsBut B s₀ u := (count_regsBut (f := Reg.SEC_AUDIT_STAT_LOST) hs h).congr rfl
    exact keeps_ite (keeps_ite (log_regsBut (hw _ (.inl (.inr (.inr rfl)))) (onSec_regsBut hu)) hu) h
  have hx : RegsBut B s₀ (v.wrBytes (auditAt seq) (body ++ takeHash (Config.sha256 (prev ++ body)) 8)) :=
    wrBytes_regsBut hw hv
  exact put_regsBut (hB _ (.inr (.inr (.inl rfl)))) (put_regsBut hs (put_regsBut (hB _ (.inr (.inl rfl)))
    (onSec_regsBut hx)))

theorem audit_tamper {kind slot role obj status old new} :
    (audit s kind slot role obj status old new).sec.tamper = s.sec.tamper := by
  unfold audit
  split
  · rfl
  extract_lets held seq prev body u v w x
  have hu : u.sec = s.sec := by simp only [u, countObj_sec, count_sec]
  have hv : v.sec.tamper = s.sec.tamper := by
    simp only [v]
    split_ifs <;> simp only [log_sec, onSec_sec, hu]
  have hw : (v.wrBytes (auditAt seq) (body ++ takeHash (Config.sha256 (prev ++ body)) 8)).sec = v.sec :=
    (wrBytes_sameBut (F := [Part.regs, .mem, .events, .fw]) (by decide) .refl).eq (f := State.sec) fun _ => rfl
  simp only [sealDirty, put_sec, x, onSec_sec, w, hw, hv]

theorem endSession_regsBut {n} (hB : ∀ a, auditRegs a → B a) (hn : B (Reg.SEC_SESS n)) (h : RegsBut B s₀ s) :
    RegsBut B s₀ (endSession s n) := by
  unfold endSession
  exact keeps_ite h (log_regsBut (hB _ (.inr (.inr (.inr (.inl (.inr (.inr rfl))))))) (setReg_regsBut hn
    (audit_regsBut hB h)))

theorem endSession_tamper {n} : (endSession s n).sec.tamper = s.sec.tamper := by
  unfold endSession
  split
  · rfl
  · rw [log_sec]
    exact audit_tamper

theorem endSessions_tamper : s.endSessions.sec.tamper = s.sec.tamper := by
  unfold endSessions
  exact keeps_foldl (P := fun x => x.sec.tamper = s.sec.tamper) _ rfl fun x hx n => endSession_tamper.trans hx

/-- What holds before the turn of `n` in a fold, becomes `Q` at its turn, and stays so. -/
theorem foldl_reaches {P Q : State → Prop} {f : State → Nat → State} {l : List Nat} {n : Nat} (hn : n ∈ l) (h : P s)
    (hk : ∀ x m, m ≠ n → P x → P (f x m)) (ht : ∀ x, P x → Q (f x n)) (hq : ∀ x m, Q x → Q (f x m)) :
    Q (l.foldl f s) := by
  induction l generalizing s with
  | nil => cases hn
  | cons m r ih =>
    by_cases e : m = n
    · rw [e]
      exact keeps_foldl r (ht s h) fun x hx m => hq x m hx
    · exact ih ((List.mem_cons.1 hn).resolve_left (Ne.symm e)) (hk s m e h)

theorem sess_ne_auditRegs {n a : Nat} (hn : n < 8) (h : auditRegs a) : a ≠ Reg.SEC_SESS n := by
  simp only [auditRegs, writeRegs, injectRegs, Reg.SEC_AUDIT_STAT, Reg.SEC_AUDIT_HEAD, Reg.SEC_HUSK_STAT,
    Reg.DBG_INJ_STAT, Reg.DBG_INJ_DONE, Reg.FLT_LOG_LOST, Reg.SEC_SIG_STAT] at h
  simp only [Reg.SEC_SESS]
  omega

/-- The end of all sessions clears the register of each that stood. -/
theorem endSessions_reg {n : Nat} (hn : n < 8) :
    s.endSessions.reg (Reg.SEC_SESS n) = 0 ∨ s.get (Reg.SEC_SESS_VALID n) = 0 := by
  unfold endSessions
  refine foldl_reaches (P := fun x => x.reg (Reg.SEC_SESS n) = s.reg (Reg.SEC_SESS n))
    (Q := fun x => x.reg (Reg.SEC_SESS n) = 0 ∨ s.get (Reg.SEC_SESS_VALID n) = 0) (List.mem_range.2 hn) rfl ?_ ?_ ?_
  · intro x m hm hx
    have hk : RegsBut (· ≠ Reg.SEC_SESS n) x (x.endSession m) :=
      endSession_regsBut (fun a => sess_ne_auditRegs hn) (by simp only [Reg.SEC_SESS]; omega) .refl
    exact (hk _ (not_not.2 rfl)).trans hx
  · intro x hx
    unfold endSession
    split
    next hv =>
      refine .inr ?_
      rw [flag, State.get, hx] at hv
      simpa [State.get] using hv
    · refine .inl ?_
      rw [reg_log, if_neg (by simp only [Reg.SEC_SESS, Reg.FLT_LOG_LOST]; omega), reg_setReg, if_pos rfl]
  · rintro x m (hx | hx)
    · refine .inl ?_
      by_cases hm : m = n
      · have hv : x.flag (Reg.SEC_SESS_VALID n) = false := by
          rw [flag, State.get, hx]
          rfl
        rw [hm, endSession, hv]
        exact hx
      · have hk : RegsBut (· ≠ Reg.SEC_SESS n) x (x.endSession m) :=
          endSession_regsBut (fun a => sess_ne_auditRegs hn) (by simp only [Reg.SEC_SESS]; omega) .refl
        exact (hk _ (not_not.2 rfl)).trans hx
    · exact .inr hx

/-! The defaults of the husk's registers (R415) leave a register without an authorised field as it is. -/

theorem huskDefault_of_plain {a : Nat} (h : ((RegMap.rowOf a).all fun r => r.fields.all fun f =>
    decide (f.acc ≠ .auth ∧ f.acc ≠ .bound)) = true) (w : Word) : huskDefault a w = w := by
  unfold huskDefault
  split
  · rfl
  next r hr =>
    rw [hr] at h
    simp only [Option.all_some, List.all_eq_true, decide_eq_true_eq] at h
    have hf : ∀ (l : List FieldRow) (w : Word), (∀ f ∈ l, f.acc ≠ .auth ∧ f.acc ≠ .bound) →
        l.foldl (fun w f => if f.acc = .auth ∨ f.acc = .bound then
          setF w f.lo f.len (getF (RegMap.resetAt a) f.lo f.len) else w) w = w := by
      intro l
      induction l with
      | nil => exact fun _ _ => rfl
      | cons f r ih =>
        intro w hl
        obtain ⟨ha, hb⟩ := hl f List.mem_cons_self
        rw [List.foldl_cons, if_neg (by rintro (h | h); exacts [ha h, hb h])]
        exact ih w fun g hg => hl g (List.mem_cons_of_mem f hg)
    exact hf _ _ h

theorem huskDefaults_regsBut (hB : ∀ a, ¬B a → ∀ w, huskDefault a w = w) (h : RegsBut B s₀ s) :
    RegsBut B s₀ (huskDefaults s) := by
  unfold huskDefaults
  refine RegsBut.congr (s := (s.regs.map (·.1)).foldl (fun s a => if huskReg a then
    s.setReg a (huskDefault a (s.reg a)) else s) s) (keeps_foldl _ h fun x hx a => keeps_ite (fun b hb => ?_) hx) rfl
  rw [reg_setReg]
  split
  next e =>
    rw [← e, hB b hb]
    exact hx b hb
  · exact hx b hb

/-! What a change of the causes writes (R464): the registers of the channels, of their sinks, and of the guard. -/

/-- The registers that a look at every channel may change. -/
def guardRegs (a : Nat) : Prop := (0x1070000 ≤ a ∧ a < 0x1072400) ∨ sinkRegs a

theorem guardChannel_regs {n : Nat} (hn : n < 64) (hB : ∀ a, guardRegs a → B a) (h : RegsBut B s₀ s) :
    RegsBut B s₀ (guardChannel s n) := by
  obtain ⟨-, -, hA, -, -, hS, -⟩ := channel_addresses n
  have hs : B (Reg.EGR_CH_STATUS n) := hB _ (.inl (by omega))
  have hl : B (Reg.EGR_CH_LAST n) := hB _ (.inl (by omega))
  have hk : ∀ a, sinkRegs a → B a := fun a ha => hB a (.inr ha)
  unfold guardChannel
  refine keeps_ite (keeps_ite (put_regsBut hs h) (put_regsBut hs h)) (keeps_ite h ?_)
  refine msix_regsBut (hk _ ?_) (log_regsBut (hk _ ?_) (sink_regsBut hk (setReg_regsBut hl (onGuard_regsBut
    (put_regsBut hs (put_regsBut hs h))))))
  · exact .inr (.inr (.inr (.inr (.inl rfl))))
  · exact .inr (.inr (.inr (.inr (.inr (.inl (.inr (.inr rfl)))))))

theorem guardScan_regsBut (hB : ∀ a, guardRegs a → B a) (h : RegsBut B s₀ s) : RegsBut B s₀ (guardScan s) := by
  unfold guardScan
  exact keeps_foldl_mem _ (put_regsBut (hB _ (.inl (by decide))) h) fun x hx n hn =>
    guardChannel_regs (List.mem_range.1 hn) hB hx

/-- Everything a wipe does but to the husk's status and the sessions leaves a register alone. -/
def wipeKept (a : Nat) : Prop := a = Reg.SEC_HUSK_STAT ∨ ∃ n < 8, a = Reg.SEC_SESS n

theorem huskDefault_of_wipeKept {a : Nat} (h : wipeKept a) (w : Word) : huskDefault a w = w := by
  have hs : ∀ n < 8, ((RegMap.rowOf (Reg.SEC_SESS n)).all fun r => r.fields.all fun f =>
      decide (f.acc ≠ .auth ∧ f.acc ≠ .bound)) = true := by decide +kernel
  obtain rfl | ⟨n, hn, rfl⟩ := h
  · exact huskDefault_of_plain (by decide +kernel) w
  · exact huskDefault_of_plain (hs n hn) w

theorem not_wipeKept_of_guardRegs {a : Nat} (h : guardRegs a) : ¬wipeKept a := by
  simp only [guardRegs, sinkRegs, inCan, writeRegs, injectRegs, Reg.EGR_GPO_STAT, Reg.EGR_HOST_PTR, Reg.EGR_HOST_DROP,
    Reg.HOST_IRQ_STAT, Reg.DBG_INJ_STAT, Reg.DBG_INJ_DONE, Reg.FLT_LOG_LOST, Reg.SEC_SIG_STAT] at h
  rintro (e | ⟨n, hn, e⟩)
  · simp only [Reg.SEC_HUSK_STAT] at e
    omega
  · simp only [Reg.SEC_SESS] at e
    omega

theorem driftClose_regsBut {p n} (hp : B (Reg.DE_PL_STATUS p)) (hl : B Reg.FLT_LOG_LOST) (h : RegsBut B s₀ s) :
    RegsBut B s₀ (driftClose s p n) :=
  log_regsBut hl (put_regsBut hp (put_regsBut hp h))

/-- The state of a wipe before the marks of its start. -/
def wipeBegun (s : State) (cause : Nat) : State :=
  (s.endSessions.debugClose.put Reg.SEC_HUSK_STAT_WIPING 1).put Reg.SEC_HUSK_STAT_LAST_CAUSE cause

/-- What a wipe erases after its marks: the husk's memory and registers, and the audit log. -/
def wipeErased (s : State) (cause : Nat) : State :=
  let s := ((s.count Reg.SEC_HUSK_WIPE_CNT_COUNT).put64 Reg.SEC_HUSK_WIPE_TB_LO s.now).log .sec 0 0x6110 srcManager cause
  let s := s.clearMem huskBase huskEnd
  let s := s.openSlots.foldl (fun s x => s.driftClose x.1 x.2) s.huskDefaults
  (s.setReg Reg.SEC_AUDIT_HEAD 0).setReg Reg.SEC_AUDIT_STAT 0

/-- What a wipe leaves of the security block's own state. -/
def wiped (x : Security) : Security :=
  { x with mark := true, keys := [], exports := [], appended := 0, covered := 0, challenges := [], target := none }

/-- A wipe's own marks and erasures, before the channels follow. -/
def wipeCleared (s : State) (cause : Nat) : State :=
  ((((s.wipeBegun cause).wipeErased cause).put Reg.SEC_HUSK_STAT_SEAL_PEND 0).put Reg.SEC_HUSK_STAT_VALID 0).onSec wiped

theorem wipeStart_eq {cause : Nat} : s.wipeStart cause =
    ((s.wipeCleared cause).onFault fun f => { f with retired := [] }).guardScan := rfl

theorem wipeErased_regsBut {cause : Nat} : RegsBut (fun a => ¬wipeKept a) s (s.wipeErased cause) := by
  have hk : ∀ a, (a < 0x1100100 ∨ 0x1100260 ≤ a ∨ 0x1100104 ≤ a ∧ a < 0x1100240) → ¬wipeKept a := fun a ha => by
    rintro (e | ⟨n, hn, e⟩)
    · simp only [Reg.SEC_HUSK_STAT] at e
      omega
    · simp only [Reg.SEC_SESS] at e
      omega
  have hl : ¬wipeKept Reg.FLT_LOG_LOST := hk _ (.inl (by decide))
  unfold wipeErased
  refine setReg_regsBut (hk _ (by decide)) (setReg_regsBut (hk _ (by decide)) (keeps_foldl _ ?_ fun x hx d =>
    driftClose_regsBut (hk _ ?_) hl hx))
  · refine huskDefaults_regsBut (fun a ha w => huskDefault_of_wipeKept (not_not.1 ha) w) ?_
    exact RegsBut.congr (log_regsBut hl (put64_regsBut (hk _ (by decide)) (hk _ (by decide)) (count_regsBut (hk _ (by decide))
      .refl))) rfl
  · simp only [Reg.DE_PL_STATUS, podBase]
    omega

theorem wipeBegun_tamper {cause : Nat} : (s.wipeBegun cause).sec.tamper = s.sec.tamper := by
  simp only [wipeBegun, debugClose, put_sec, endSessions_tamper]

theorem wipeErased_sec {cause : Nat} : (s.wipeErased cause).sec = s.sec := by
  have h : SameBut [Part.regs, .mem, .events, .objs] s (s.wipeErased cause) := by
    unfold wipeErased
    refine setReg_sameBut (by decide) (setReg_sameBut (by decide) (keeps_foldl _ ?_ fun x hx d =>
      driftClose_sameBut (by decide) hx))
    exact huskDefaults_sameBut (by decide) (clearMem_sameBut (by decide) (log_sameBut (by decide)
      (put64_sameBut (by decide) (count_sameBut (by decide) .refl))))
  exact h.eq (f := State.sec) fun _ => rfl

theorem guardScan_sec : s.guardScan.sec = s.sec :=
  (guardScan_sameBut (F := [Part.regs, .mem, .events, .sent, .can, .guard, .fw]) (by decide) .refl).eq (f := State.sec)
    fun _ => rfl

theorem wipeStart_sec {cause : Nat} : (s.wipeStart cause).sec = wiped (s.wipeBegun cause).sec := by
  rw [wipeStart_eq, guardScan_sec, onFault_sec, wipeCleared, onSec_sec, put_sec, put_sec, wipeErased_sec]

/-- From its last marks on, a wipe leaves the husk's status and the sessions alone. -/
theorem wipeStart_regsBut {cause : Nat} :
    RegsBut (fun a => ¬wipeKept a) (s.wipeCleared cause) (s.wipeStart cause) := by
  rw [wipeStart_eq]
  exact guardScan_regsBut (fun a => not_wipeKept_of_guardRegs) (RegsBut.congr .refl rfl)

theorem wipeStart_sess_eq {cause n : Nat} (hn : n < 8) :
    (s.wipeStart cause).reg (Reg.SEC_SESS n) = s.endSessions.reg (Reg.SEC_SESS n) := by
  have hk : ¬¬wipeKept (Reg.SEC_SESS n) := not_not.2 (.inr ⟨n, hn, rfl⟩)
  have he := wipeErased_regsBut (s := s.wipeBegun cause) (cause := cause) _ hk
  have hh : Reg.SEC_SESS n ≠ Reg.SEC_HUSK_STAT ∧ Reg.SEC_SESS n ≠ Reg.DBG_JTAG_STAT ∧ Reg.SEC_SESS n ≠ Reg.DBG_INJ_STAT := by
    simp only [Reg.SEC_SESS, Reg.SEC_HUSK_STAT, Reg.DBG_JTAG_STAT, Reg.DBG_INJ_STAT]
    omega
  obtain ⟨hh, hj, hi⟩ := hh
  have hb : (s.wipeBegun cause).reg (Reg.SEC_SESS n) = s.endSessions.reg (Reg.SEC_SESS n) := by
    simp only [wipeBegun, debugClose]
    rw [reg_put_of_ne hh, reg_put_of_ne hh, reg_put_of_ne hi, reg_put_of_ne hi, reg_put_of_ne hj]
  have hc : (s.wipeCleared cause).reg (Reg.SEC_SESS n) = s.endSessions.reg (Reg.SEC_SESS n) := by
    rw [wipeCleared, reg_onSec, reg_put_of_ne hh, reg_put_of_ne hh, he, hb]
  rw [wipeStart_regsBut _ hk, hc]

theorem wipeStart_sess {cause n : Nat} (hn : n < 8) :
    (s.wipeStart cause).reg (Reg.SEC_SESS n) = 0 ∨ s.get (Reg.SEC_SESS_VALID n) = 0 := by
  rw [wipeStart_sess_eq hn]
  exact endSessions_reg hn

theorem wipeStart_husk {cause : Nat} : (s.wipeStart cause).get Reg.SEC_HUSK_STAT_WIPING = 1 ∧
    (s.wipeStart cause).get Reg.SEC_HUSK_STAT_LAST_CAUSE = cause % 8 := by
  have hk : ¬¬wipeKept Reg.SEC_HUSK_STAT := not_not.2 (.inl rfl)
  have he := wipeErased_regsBut (s := s.wipeBegun cause) (cause := cause)
  have hs : ∀ f : RF, f.addr = Reg.SEC_HUSK_STAT → 1 ≤ f.lo → f.lo + f.len ≤ 8 →
      (s.wipeStart cause).get f = (s.wipeBegun cause).get f := fun f ha hl hh => by
    rw [wipeStart_regsBut.get (ha ▸ hk), wipeCleared, get_onSec, get_put_clear (f := Reg.SEC_HUSK_STAT_VALID) (.inr hl),
      get_put_clear (f := Reg.SEC_HUSK_STAT_SEAL_PEND) (.inl hh),
      he.get (ha ▸ hk)]
  constructor
  · rw [hs _ rfl (by decide) (by decide), wipeBegun, get_put_clear (.inl (by decide)), get_put_self (by decide)]
    rfl
  · rw [hs _ rfl (by decide) (by decide), wipeBegun, get_put_self (by decide)]
    rfl

/-- Settles O26: the wipe ends the sessions first, and nothing that follows touches their registers or its own marks. -/
theorem tamperWipesAtOnce : Obligations.TamperWipesAtOnce := by
  unfold Obligations.TamperWipesAtOnce
  intro s i hp
  let u : State := { s with wakes := s.wakes ++ [(7, i.val)] }.onSec fun x =>
    { x with tamper := if i.val ∈ x.tamper then x.tamper else x.tamper ++ [i.val] }
  have hu : s.tamperAssert i.val = u.wipeStart (1 + i.val) := by
    have hon : u.securityOn = true := decide_eq_true (show s.get Reg.PWR_STATUS_STATE ≠ 3 from hp)
    rw [tamperAssert]
    exact if_pos hon
  have hi : i.val ∈ u.sec.tamper := by
    simp only [u, onSec_sec]
    split
    next h => exact h
    · exact List.mem_append_right _ List.mem_cons_self
  obtain ⟨hw, hc⟩ := wipeStart_husk (s := u) (cause := 1 + i.val)
  refine completes_done rfl ?_
  rw [hu]
  simp only [reg_withQueue, get_withQueue, withQueue_sec]
  refine ⟨fun n hn => wipeStart_sess hn, hw, ?_, ?_⟩
  · rw [hc]
    omega
  · rw [wipeStart_sec]
    refine ⟨rfl, rfl, rfl, rfl, ?_⟩
    exact (congrArg (i.val ∈ ·) wipeBegun_tamper).mpr hi

end Sys2Proof.Machine.State
end

section
set_option Elab.async false
/-! PROOFS. Statements that fail at an edge of their operands: the wrap of the timebase, a descriptor that a fence holds. -/

namespace Sys2Proof.Machine.State

/-- What a command that completes leaves satisfies what is stated of it. -/
theorem of_completes {s t : State} {c : Instr} {P : State → Prop} (h : s.completes c P) (he : exec c s = s.done t) :
    P (t.withQueue s.pending) := by
  obtain ⟨u, hu, -, hP⟩ := h
  rw [he] at hu
  cases hu
  exact hP

/-- A device whose timebase stands at its last count, with a rate adjustment of the least share. -/
def lastCount : State := (State.reset.put64 Reg.TB_COUNT_LO (2 ^ 64 - 1)).put ⟨Reg.TB_RATE, 0, 32⟩ 1

/-- Refutes O57: a double code at the last count of the timebase wraps the counter, and the accumulator of TB_RATE is then taken
for a tick 2^64 before the one the statement names (log entry 139). -/
theorem not_timebaseCommandsComplete : ¬ Obligations.TimebaseCommandsComplete := by
  unfold Obligations.TimebaseCommandsComplete
  intro h
  obtain ⟨-, -, -, hrate, -⟩ := h lastCount
  obtain ⟨-, -, hacc, -⟩ := of_completes (hrate (2 ^ 64 - 1) (by decide +kernel) (by decide +kernel) (by decide +kernel)
    (by decide +kernel) (by decide +kernel) (by decide +kernel) (by decide +kernel)) rfl
  exact absurd hacc (by decide +kernel)

/-- A device whose DMA channel 0 has a descriptor posted after one of channel 1. -/
def postedLater : State :=
  { (((State.reset.put (Reg.HOST_DMA_CTRL_EN 0) 1).put (Reg.HOST_DMA_STATUS_HALTED 0) 0).put (Reg.HOST_DMA_TAIL_IDX 0) 1).put
      (Reg.HOST_DMA_RING_LEN_N 0) 4 with posted := [(1, 1), (0, 1)] }

/-- Refutes O40: a descriptor with FENCE that was posted after another channel's does not complete, and HEAD stays (R488). -/
theorem not_hostCommandsComplete : ¬ Obligations.HostCommandsComplete := by
  unfold Obligations.HostCommandsComplete
  intro h
  obtain ⟨-, -, hdma, -⟩ := h postedLater
  have hhead := (of_completes (hdma 0 4 4 0 0x400000 [] false (by decide +kernel)) rfl).1
  exact absurd hhead (by decide +kernel)

end Sys2Proof.Machine.State
end

section
set_option Elab.async false
/-! PROOFS. Statements that leave out a condition of the command they are about. -/

namespace Sys2Proof.Machine.State

/-- A device between its steps, with a launch that is ready, while a half relocks its clock (R629). -/
def relocks (s : State) : State :=
  { s with power := { s.power with half := some ⟨false, 0, 0, 2, [0]⟩ }, clock := { s.clock with ready := true } }

/-- Refutes O53: a launch waits while a half of the device relocks its clock, and delivery does not open (R629). -/
theorem not_stepClockCommandsComplete : ¬ Obligations.StepClockCommandsComplete := by
  unfold Obligations.StepClockCommandsComplete
  intro h
  obtain ⟨-, -, -, hlaunch, -⟩ := h (State.reset.put Reg.STEP_STATUS_PHASE 1).relocks
  have hopen := (of_completes (hlaunch (Or.inl (by decide +kernel)) (by decide +kernel)) rfl).1
  exact absurd hopen (by decide +kernel)

/-- The data flit of an ARM whose launch lies in the past. -/
def lateArm : List Byte := 1#8 :: List.replicate 31 0#8

/-- A worker between two steps whose upstream port holds a late ARM, while a half relocks its clock. -/
def armedLate : State :=
  { (((((State.reset.put Reg.TLK_HIER_CTRL_ROLE 2).put Reg.STEP_STATUS_PHASE 4).put Reg.TLK_HIER_STAT_STATE 1).put64
      Reg.TB_COUNT_LO 9).relocks) with tlkIn := [(0, 5, [lateArm])] }

/-- Refutes O39: an ARM that comes late launches at once only where no half relocks its clock (R629). -/
theorem not_hierarchyCommandsComplete : ¬ Obligations.HierarchyCommandsComplete := by
  unfold Obligations.HierarchyCommandsComplete
  intro h
  obtain ⟨-, harm, -⟩ := h armedLate
  have hopen := (of_completes (harm 0 [lateArm] { armedLate with tlkIn := [] } (by decide +kernel) rfl
    (by decide +kernel)) rfl).2
  exact absurd hopen (by decide +kernel)

/-- A chunk of a kind that no rule names, for tile 0 (R609). -/
def oddChunk : Pip := chunkPip false 0 0 (chunkBytes [] 0 2 0)

/-- A tile that takes a broadcast and whose router holds that chunk. -/
def oddChunkHeld : State :=
  { ((State.reset.put (Reg.Q_FW_CTRL_EN 0) 1).put (Reg.Q_FW_STAT_HDR 0) 1) with
    fw := { State.reset.fw with headers := [(0, 1, 0, 0, 0)] }
    mesh := { State.reset.mesh with ctrlIn := [(0, [oddChunk])] } }

/-- The first pip of a type that waits at a tile's own node is the one the tile takes. -/
theorem takeCtrl_of_find {s : State} {n ptype : Nat} {p : Pip} (hn : n < 1152)
    (hp : (s.mesh.ctrlIn.at n).find? (fun p => p.ptype = ptype) = some p) : ∃ u, s.takeCtrl n ptype = some (p, u) := by
  have hany : (s.mesh.ctrlIn.at n).any (fun p => p.ptype = ptype) = true :=
    List.any_eq_true.mpr ⟨p, List.mem_of_find?_eq_some hp, by have := List.find?_some hp; exact this⟩
  simp only [takeCtrl, if_pos hn, List.find?_singleton, hany, if_true, Option.bind_some, hp, Option.map_some]
  exact ⟨_, rfl⟩

/-- Refutes O56: a chunk that is no header counts as data only where its kind is 0; one of kind 2 is discarded (R609, R610). -/
theorem not_tileFirmwareCommandsComplete : ¬ Obligations.TileFirmwareCommandsComplete := by
  unfold Obligations.TileFirmwareCommandsComplete
  intro h
  obtain ⟨-, hdata, -⟩ := h oddChunkHeld
  obtain ⟨u, htake⟩ := takeCtrl_of_find (s := oddChunkHeld) (n := 0) (ptype := 8) (p := oddChunk) (by decide)
    (by decide +kernel)
  have hmap := (of_completes (hdata 0 oddChunk u (leBytes 24 oddChunk.pay.toNat) 0 (1, 0, 0, 0) htake rfl
    (by decide +kernel) (by decide +kernel) (by decide +kernel) (by decide +kernel) (by decide +kernel) (by decide +kernel)
    (by decide +kernel) (by decide +kernel) (by decide +kernel)) rfl).1
  exact absurd hmap (by decide +kernel)

/-- A frame of 60 bytes with an IEEE 802.1Q tag (R451). -/
def taggedFrame : List Byte := List.replicate 12 0#8 ++ [0x81#8] ++ List.replicate 47 0#8

/-- Refutes O41: the tag of a frame does not go to firmware, so the slot does not hold the frame as it came (R451). -/
theorem not_hubCommandsComplete : ¬ Obligations.HubCommandsComplete := by
  unfold Obligations.HubCommandsComplete
  intro h
  obtain ⟨-, -, -, -, -, -, heth, -⟩ := h (State.reset.put (Reg.SEN_ETH_CTRL_EN 0) 1)
  have hbytes := (of_completes (heth 0 taggedFrame (by decide +kernel) (by decide +kernel) (by decide +kernel)
    (by decide +kernel) (by decide +kernel) (by decide +kernel) (by decide +kernel) (by decide +kernel) (by decide +kernel)
    (by decide +kernel)) rfl).2.1
  exact absurd hbytes (by decide +kernel)

end Sys2Proof.Machine.State
end

section
set_option Elab.async false
/-! PROOFS. A statement that leaves out the identifiers that a controller refuses. -/

namespace Sys2Proof.Machine.State

/-- A device whose heartbeat has the identifier of an enabled TPDO, with a frame loaded. -/
def heartbeatOwned : State :=
  (((State.reset.put (Reg.CAN_TPDO_CFG_EN 0 0) 1).put (Reg.CAN_TPDO_CFG_COBID 0 0) (0x700 + State.reset.nodeId)).setObj
    0x1017 0 1).setCan 0 { CanCtl.idle with loaded := some ⟨0, false, false, false, []⟩ }

/-- Refutes O36: a controller refuses a heartbeat whose identifier an enabled TPDO carries, and queues none (R531). -/
theorem not_fieldAndLogCommandsComplete : ¬ Obligations.FieldAndLogCommandsComplete := by
  unfold Obligations.FieldAndLogCommandsComplete
  intro h
  obtain ⟨-, -, -, -, hbeat, -⟩ := h heartbeatOwned
  have hraw := (of_completes (hbeat (by decide +kernel) (by decide +kernel) (by decide +kernel) (by decide +kernel)) rfl).1
  exact absurd hraw (by decide +kernel)

end Sys2Proof.Machine.State
end

section
set_option Elab.async false
/-! PROOFS. A statement that takes every lock of a half-clock change for a half of the device. -/

namespace Sys2Proof.Machine.State

/-- A device whose launch is late and whose half-clock change waits for the west half and for a lock that no half has. -/
def oddLock : State :=
  let s := (State.reset.put Reg.STEP_STATUS_PHASE 1).put64 Reg.TB_COUNT_LO 9
  { s with power := { s.power with half := some ⟨false, 0, 0, 2, [0, 5]⟩ }, clock := { s.clock with ready := true } }

/-- Refutes O48: once no half relocks, the launch that waited comes at once, whatever other locks are left (R629). -/
theorem not_powerCommandsComplete : ¬ Obligations.PowerCommandsComplete := by
  unfold Obligations.PowerCommandsComplete
  intro h
  obtain ⟨-, -, hlock, -⟩ := h oddLock
  have hregs := (of_completes (hlock .west ⟨false, 0, 0, 2, [0, 5]⟩ (by decide +kernel) (by decide +kernel)
    (by decide +kernel) (by decide +kernel)) rfl).2.2.1
  exact absurd (hregs Reg.STEP_NEXT_LAUNCH_LO (by decide +kernel)) (by decide +kernel)

end Sys2Proof.Machine.State
end

section
set_option Elab.async false
/-! PROOFS. A statement that leaves out that a port must be ACTIVE. -/

namespace Sys2Proof.Machine.State

/-- A device whose port 0 is DOWN and still holds a packet that the peer has not acknowledged. -/
def heldReplay : State := State.reset.setTlk 0 { TlkPort.down with replay := [⟨0, 1, []⟩] }

/-- Refutes O55: the replay timer of a port that is not ACTIVE resends nothing and counts nothing (R499). -/
theorem not_tierlinkCommandsComplete : ¬ Obligations.TierlinkCommandsComplete := by
  unfold Obligations.TierlinkCommandsComplete
  intro h
  obtain ⟨-, -, -, -, hreplay, -⟩ := h heldReplay 0
  have hresends := (of_completes (hreplay (by decide +kernel) (by decide +kernel)) rfl).2.1
  exact absurd hresends (by decide +kernel)

end Sys2Proof.Machine.State
end

section
set_option Elab.async false
/-! PROOFS. Fields of registers after the operations on the state that change one register, and after those that change none. -/

namespace Sys2Proof.Machine.State

variable {s t : State} {f g : RF} {n v a : Nat}

@[simp] theorem code_ok : Status.ok.code = 0 := rfl

theorem flag_eq_true : s.flag f = true ↔ s.get f ≠ 0 := by simp [flag]

theorem flag_eq_false : s.flag f = false ↔ s.get f = 0 := by simp [flag]

theorem flag_congr (h : t.get f = s.get f) : t.flag f = s.flag f := by rw [flag, h, flag]

theorem get_count_self (h : f.lo + f.len ≤ 32) : (s.count f n).get f = satInc f.len (s.get f) n :=
  (get_put_self h).trans (Nat.mod_eq_of_lt (by simp only [satInc]; have := Nat.two_pow_pos f.len; omega))

theorem get_count_addr (h : g.addr ≠ f.addr) : (s.count f n).get g = s.get g := get_put_addr h

theorem get_setReg_addr {w : Word} (h : f.addr ≠ a) : (s.setReg a w).get f = s.get f := by
  rw [get, reg_setReg, if_neg h, get]

theorem get_put64_addr (h : f.addr ≠ a) (h' : f.addr ≠ a + 4) : (s.put64 a v).get f = s.get f := by
  rw [get, reg_put64, if_neg h', if_neg h, get]

theorem get_reach_addr (h : f.addr ≠ Reg.TB_COUNT_LO) (h' : f.addr ≠ Reg.TB_COUNT_LO + 4) : (s.reach v).get f = s.get f := by
  rw [reach]
  split
  · exact get_put64_addr h h'
  · rfl

theorem reg_reach_addr (h : a ≠ Reg.TB_COUNT_LO) (h' : a ≠ Reg.TB_COUNT_LO + 4) : (s.reach v).reg a = s.reg a := by
  rw [reach]
  split
  · rw [reg_put64, if_neg h', if_neg h]
  · rfl

theorem rd8_reach : (s.reach v).rd8 a = s.rd8 a := rd8_congr (by simp) (by simp)

end Sys2Proof.Machine.State
end

section
set_option Elab.async false
/-! PROOFS. Bytes of memory: words as bytes, and what a write of memory leaves to be read. -/

namespace Sys2Proof

/-! Words as bytes. -/

@[simp] theorem length_leBytes {n v : Nat} : (leBytes n v).length = n := by
  induction n generalizing v with
  | zero => rfl
  | succ n ih => rw [leBytes, List.length_cons, ih]

theorem ofLe_leBytes {n v : Nat} : ofLe (leBytes n v) = v % 256 ^ n := by
  induction n generalizing v with
  | zero => simp [leBytes, ofLe, Nat.mod_one]
  | succ n ih =>
    rw [leBytes, ofLe, ih, BitVec.toNat_ofNat, Nat.pow_succ 256 n, Nat.mul_comm (256 ^ n) 256, Nat.mod_mul]

theorem ofLe_lt {l : List Byte} : ofLe l < 256 ^ l.length := by
  induction l with
  | nil => simp [ofLe]
  | cons b r ih =>
    have hb := b.isLt
    rw [ofLe, List.length_cons, pow_succ]
    omega

namespace Machine

/-- What a merge of byte enables does to one byte of a word. -/
theorem mergeBytes_eq {old new be : Nat} : mergeBytes old new be =
    (((if bits be 0 1 = 1 then bits new 0 8 else bits old 0 8) + (if bits be 1 1 = 1 then bits new 8 8 else bits old 8 8) * 2 ^ 8) +
      (if bits be 2 1 = 1 then bits new 16 8 else bits old 16 8) * 2 ^ 16) +
      (if bits be 3 1 = 1 then bits new 24 8 else bits old 24 8) * 2 ^ 24 := by
  simp [mergeBytes, List.range_succ]

/-- A merge of byte enables is a word again. -/
theorem mergeBytes_lt {old new be : Nat} : mergeBytes old new be < 256 ^ 4 := by
  have hbyte : ∀ (c : Prop) [Decidable c] (i : Nat), (if c then bits new i 8 else bits old i 8) < 256 := fun c _ i => by
    split <;> exact Nat.mod_lt _ (by decide)
  rw [mergeBytes_eq]
  have h₀ := hbyte (bits be 0 1 = 1) 0
  have h₁ := hbyte (bits be 1 1 = 1) 8
  have h₂ := hbyte (bits be 2 1 = 1) 16
  have h₃ := hbyte (bits be 3 1 = 1) 24
  generalize (if bits be 0 1 = 1 then bits new 0 8 else bits old 0 8) = x₀ at h₀ ⊢
  generalize (if bits be 1 1 = 1 then bits new 8 8 else bits old 8 8) = x₁ at h₁ ⊢
  generalize (if bits be 2 1 = 1 then bits new 16 8 else bits old 16 8) = x₂ at h₂ ⊢
  generalize (if bits be 3 1 = 1 then bits new 24 8 else bits old 24 8) = x₃ at h₃ ⊢
  omega

/-- Byte enables of all four bytes take the new word. -/
theorem mergeBytes_all {old new : Nat} (h : new < 2 ^ 32) : mergeBytes old new 15 = new := by
  have hb : ∀ i, i < 4 → bits 15 i 1 = 1 := by decide
  rw [mergeBytes_eq, if_pos (hb 0 (by decide)), if_pos (hb 1 (by decide)), if_pos (hb 2 (by decide)), if_pos (hb 3 (by decide))]
  simp only [bits_eq_div_mod]
  omega

/-- Without a byte enable the old word stays. -/
theorem mergeBytes_none {old new : Nat} (h : old < 2 ^ 32) : mergeBytes old new 0 = old := by
  have hb : ∀ i, i < 4 → bits 0 i 1 ≠ 1 := by decide
  rw [mergeBytes_eq, if_neg (hb 0 (by decide)), if_neg (hb 1 (by decide)), if_neg (hb 2 (by decide)), if_neg (hb 3 (by decide))]
  simp only [bits_eq_div_mod]
  omega

namespace State

variable {s t : State} {a b n v : Nat} {l : List Byte}

@[simp] theorem length_rdBytes : (s.rdBytes a n).length = n := by
  induction n generalizing a with
  | zero => rfl
  | succ n ih => rw [rdBytes, List.length_cons, ih]

theorem rdBytes_congr (h : ∀ b, a ≤ b → b < a + n → t.rd8 b = s.rd8 b) : t.rdBytes a n = s.rdBytes a n := by
  induction n generalizing a with
  | zero => rfl
  | succ n ih => rw [rdBytes, rdBytes, h a le_rfl (by omega), ih fun b h₁ h₂ => h b (by omega) (by omega)]

theorem rdBytes_sameBytes (h : s.sameBytes t) : t.rdBytes a n = s.rdBytes a n := rdBytes_congr fun b _ _ => h b

theorem rdLe_sameBytes (h : s.sameBytes t) : t.rdLe a n = s.rdLe a n := by rw [rdLe, rdBytes_sameBytes h, rdLe]

theorem rdBytes_add {m : Nat} : s.rdBytes a (n + m) = s.rdBytes a n ++ s.rdBytes (a + n) m := by
  induction n generalizing a with
  | zero => simp [rdBytes]
  | succ n ih => rw [Nat.succ_add, rdBytes, ih, rdBytes, List.cons_append, Nat.add_right_comm, Nat.add_assoc]

theorem rdLe_lt : s.rdLe a n < 256 ^ n := by
  have h := ofLe_lt (l := s.rdBytes a n)
  rwa [length_rdBytes] at h

/-- Bytes that memory holds from an address on are read from there. -/
theorem rdBytes_eq_of_getD (h : ∀ i, i < l.length → s.rd8 (a + i) = l.getD i 0) : s.rdBytes a l.length = l := by
  induction l generalizing a with
  | nil => rfl
  | cons x r ih =>
    rw [List.length_cons, rdBytes, ih fun i hi => ?_]
    · rw [show s.rd8 a = x from h 0 (by simp)]
    · rw [Nat.add_assoc, Nat.add_comm 1 i, h (i + 1) (by simpa using hi), List.getD_cons_succ]

/-! A write of memory. -/

theorem injectWrite_sameBytes : s.sameBytes (s.injectWrite a n) :=
  (injectWrite_sameBut (F := [Part.regs, .events]) (by decide) .refl).sameBytes rfl rfl

theorem sigTouch_sameBytes : s.sameBytes (s.sigTouch a n) :=
  (sigTouch_sameBut (F := [Part.regs, .fw]) (by decide) .refl).sameBytes rfl rfl

theorem rd8_wrBytes : (s.wrBytes a l).rd8 b = if a ≤ b ∧ b < a + l.length then l.getD (b - a) 0 else s.rd8 b := by
  rw [wrBytes, sigTouch_sameBytes, injectWrite_sameBytes, rd8_rawBytes]

theorem wrBytes_sameBytesBut : s.sameBytesBut (s.wrBytes a l) a l.length := fun b hb => by
  rw [rd8_wrBytes, if_neg (by omega)]

theorem rdBytes_wrBytes_self : (s.wrBytes a l).rdBytes a l.length = l :=
  rdBytes_eq_of_getD fun i hi => by rw [rd8_wrBytes, if_pos (by omega), Nat.add_sub_cancel_left]

theorem rdBytes_wrBytes_of_disjoint (h : b + n ≤ a ∨ a + l.length ≤ b) : (s.wrBytes a l).rdBytes b n = s.rdBytes b n :=
  rdBytes_congr fun c h₁ h₂ => wrBytes_sameBytesBut c (by omega)

theorem wrLe_sameBytesBut : s.sameBytesBut (s.wrLe a n v) a n := by
  simpa only [wrLe, length_leBytes] using wrBytes_sameBytesBut (s := s) (a := a) (l := leBytes n v)

theorem rdBytes_wrLe_self : (s.wrLe a n v).rdBytes a n = leBytes n v := by
  simpa only [wrLe, length_leBytes] using rdBytes_wrBytes_self (s := s) (a := a) (l := leBytes n v)

theorem rdLe_wrLe_self : (s.wrLe a n v).rdLe a n = v % 256 ^ n := by rw [rdLe, rdBytes_wrLe_self, ofLe_leBytes]

theorem rdBytes_rawBytes_self : (s.rawBytes a l).rdBytes a l.length = l :=
  rdBytes_eq_of_getD fun i hi => by rw [rd8_rawBytes, if_pos (by omega), Nat.add_sub_cancel_left]

end State

end Machine

end Sys2Proof
end

section
set_option Elab.async false
/-! PROOFS. What the audit log leaves of the security block's own state. -/

namespace Sys2Proof.Machine.State

variable {s : State}

/-- An audit entry changes of the security block's state the count of entries and the time of the last loss event alone. -/
theorem audit_sec {α : Type} {g : Security → α} (hg : ∀ (x : Security) (n t : Nat), g { x with appended := n, lostAt := t } = g x)
    {kind slot role obj status old new} : g (audit s kind slot role obj status old new).sec = g s.sec := by
  have hn : ∀ (x : Security) (n : Nat), g { x with appended := n } = g x := fun x n => hg x n x.lostAt
  have ht : ∀ (x : Security) (t : Nat), g { x with lostAt := t } = g x := fun x t => hg x x.appended t
  unfold audit
  split
  · rfl
  extract_lets held seq prev body u v w x
  have hu : u.sec = s.sec := by simp only [u, countObj_sec, count_sec]
  have hv : g v.sec = g s.sec := by
    simp only [v]
    split_ifs <;> simp only [log_sec, onSec_sec, hu, ht]
  have hw : w.sec = v.sec := (wrBytes_sameBut (F := [Part.regs, .mem, .events, .fw]) (by decide) .refl).eq (f := State.sec)
    fun _ => rfl
  simp only [sealDirty, put_sec, x, onSec_sec, hn, hw, hv]

end Sys2Proof.Machine.State
end

section
set_option Elab.async false
/-! PROOFS. What a loss of power leaves of registers and memory. -/

namespace Sys2Proof

/-- An entry of a filtered list is the list's own where its key passes. -/
theorem Sparse.find_filter {β : Type} {d : β} {p : Nat → Bool} {l : List (Nat × β)} {k : Nat} :
    Sparse.find d (l.filter fun x => p x.1) k = if p k then Sparse.find d l k else d := by
  induction l with
  | nil => simp [Sparse.find]
  | cons x r ih =>
    obtain ⟨a, v⟩ := x
    rw [List.filter_cons]
    by_cases ha : a = k
    · subst ha
      cases hp : p a <;> simp [hp, Sparse.find, ih]
    · cases hp : p a <;> simp [Sparse.find, ih, ha]

namespace Machine.State

variable {s : State} {a : Nat} {aon : Bool}

theorem reg_powerLoss : (s.powerLoss aon).reg a = if keptReg aon a then s.reg a else RegMap.resetAt a := Sparse.find_filter

theorem rd8_powerLoss : (s.powerLoss aon).rd8 a =
    if 0x8000000 ≤ a ∧ a < 0x10000000 then Sparse.find 0 s.mem a else 0 := by
  have h : (s.powerLoss aon).rd8 a = Sparse.find 0 (s.mem.filter fun x => 0x8000000 ≤ x.1 && x.1 < 0x10000000) a := by
    have hv : (s.powerLoss aon).veil a = 0 := rfl
    rw [rd8, hv]
    exact BitVec.xor_zero
  rw [h, Sparse.find_filter (p := fun a => decide (0x8000000 ≤ a) && decide (a < 0x10000000))]
  simp

end Machine.State

end Sys2Proof
end

section
set_option Elab.async false
/-! PROOFS. The check-value units (R669 to R672): the start, the abort and the end of a job, the security block's claim, and the
reset of a profile. -/

namespace Sys2Proof.Machine.State

variable {s : State} {u : Nat}

/-! What the operations of a unit do in the cases that the statement is about. -/

theorem chkStart_of_free {o : Nat} (hb : s.get (Reg.CHK_STATUS_BUSY u) = 0) (hl : s.reg (Reg.CHK_LEN u) ≠ 0) :
    s.chkStart u o = (((s.put (Reg.CHK_STATUS_STATUS u) Status.ok.code).put (Reg.CHK_STATUS_BUSY u) 1).put
      (Reg.CHK_STATUS_OWNER u) o).put (Reg.CHK_POS_BYTES u) 0 :=
  if_neg (by simpa [flag, hb] using hl)

/-- The end of a job while the security block does not wait, without a mismatch to count. -/
theorem chkEnd_of_match {r : Nat} {hit : Bool} (hw : s.chkWait = false) : s.chkEnd u r hit false =
    (((((s.put (Reg.CHK_STATUS_BUSY u) 0).put (Reg.CHK_STATUS_DONE u) 1).put (Reg.CHK_STATUS_RESULT u) r).put
      (Reg.CHK_STATUS_MATCH u) (if hit then 1 else 0)).count (Reg.CHK_JOBS_COUNT u)).raise (Reg.CHK_INT_EN u) 0 := by
  simp [chkEnd, chkClaim, hw]

/-- What such an end leaves in the registers of the unit and in memory. -/
theorem chkEnd_result {r : Nat} {hit : Bool} (hw : s.chkWait = false) (hr : r < 8) :
    let t := s.chkEnd u r hit false
    t.get (Reg.CHK_STATUS_BUSY u) = 0 ∧ t.get (Reg.CHK_STATUS_DONE u) = 1 ∧ t.get (Reg.CHK_STATUS_RESULT u) = r ∧
      t.get (Reg.CHK_JOBS_COUNT u) = min (2 ^ 32 - 1) (s.get (Reg.CHK_JOBS_COUNT u) + 1) ∧
      (∀ a, a ≠ Reg.CHK_STATUS u → a ≠ Reg.CHK_JOBS u → t.reg a = s.reg a) ∧ s.sameBytes t := by
  simp only [chkEnd_of_match hw]
  refine ⟨?_, ?_, ?_, ?_, fun a ha hj => by simp [ha, hj], fun a => by simp⟩ <;>
    simp [get_put_self, get_put_clear, get_put_addr, get_count_self, get_count_addr, satInc, Reg.CHK_STATUS, Reg.CHK_JOBS]
  omega

theorem chkAbort_of_owner {o : Nat} (hb : s.get (Reg.CHK_STATUS_BUSY u) = 1) (ho : s.get (Reg.CHK_STATUS_OWNER u) = o) :
    s.chkAbort u o = s.chkEnd u 7 false false := by simp [chkAbort, flag, hb, ho]

theorem chkCompare_of_plain {v : Nat} (hc : s.get (Reg.CHK_CTRL_CMP_EN u) = 0) :
    s.chkCompare u v = (s.put (Reg.CHK_RESULT_VALUE u) v).chkEnd u 0 false false := by
  have hc' : (s.put (Reg.CHK_RESULT_VALUE u) v).get (Reg.CHK_CTRL_CMP_EN u) = 0 := by
    rw [get_put_addr (by simp [Reg.CHK_CTRL, Reg.CHK_RESULT]), hc]
  simp [chkCompare, flag, hc']

/-! The position of a unit is in none of the registers that its value is formed from. -/

theorem chkByte_put_pos {k a : Nat} : (s.put (Reg.CHK_POS_BYTES u) k).chkByte a = s.chkByte a := by
  unfold chkByte
  split
  · have : a - a % 4 ≠ Reg.CHK_POS u := by simp only [Reg.CHK_POS]; omega
    simp [shown, this]
  · rfl

theorem chkValue_put_pos {k : Nat} {l : List Nat} : (s.put (Reg.CHK_POS_BYTES u) k).chkValue u l = s.chkValue u l := by
  simp [chkValue, chkAlg, flag, get_put_addr, Reg.CHK_POS, Reg.CHK_CTRL, Reg.CHK_POLY, Reg.CHK_INIT, Reg.CHK_XOROUT]

/-- A COMPUTE job over bytes that the unit may read ends with their check value (R669). -/
theorem chkDone_of_compute (hb : s.get (Reg.CHK_STATUS_BUSY u) = 1) (ho : s.get (Reg.CHK_STATUS_OWNER u) ≠ 7)
    (hm : s.get (Reg.CHK_CTRL_MODE u) = 0)
    (hr : ∀ i, i < s.get (Reg.CHK_LEN_BYTES u) → s.chkReads (s.chkAddr u + i) = true) :
    s.chkDone u = (s.put (Reg.CHK_POS_BYTES u) (s.get (Reg.CHK_LEN_BYTES u))).chkCompare u (s.chkValue u
      ((List.range (s.get (Reg.CHK_LEN_BYTES u))).map fun i => s.chkByte (s.chkAddr u + i))) := by
  have hread : (List.range (s.get (Reg.CHK_LEN_BYTES u))).takeWhile (fun i => s.chkReads (s.chkAddr u + i)) =
      List.range (s.get (Reg.CHK_LEN_BYTES u)) :=
    List.takeWhile_eq_self_iff.2 fun i hi => hr i (List.mem_range.1 hi)
  have hmode : ∀ k, (s.put (Reg.CHK_POS_BYTES u) k).get (Reg.CHK_CTRL_MODE u) = 0 := fun k => by
    rw [get_put_addr (by simp [Reg.CHK_CTRL, Reg.CHK_POS]), hm]
  simp [chkDone, flag, hb, ho, hread, hmode, chkByte_put_pos, chkValue_put_pos]

theorem chkClaim_of_free (hb : s.get (Reg.CHK_STATUS_BUSY 7) = 0) : { s with chkWait := true }.chkClaim =
    ({ s with chkWait := false }.put (Reg.CHK_STATUS_BUSY 7) 1).put (Reg.CHK_STATUS_OWNER 7) 7 :=
  if_pos (by
    have hf : { s with chkWait := true }.flag (Reg.CHK_STATUS_BUSY 7) = false := flag_eq_false.2 hb
    simp [hf])

/-- Settles O31, by the cases of the unit's operations that its hypotheses single out. -/
theorem checkUnitCommandsComplete : Obligations.CheckUnitCommandsComplete := by
  unfold Obligations.CheckUnitCommandsComplete
  intro s u
  refine ⟨fun o hb hl => completes_done rfl ?_, fun o hb ho hw => completes_done rfl ?_,
    fun hb ho hw hm hc hr => completes_done rfl ?_, fun hb => completes_done rfl ?_, fun p hb => completes_done rfl ?_⟩
  · rw [chkStart_of_free hb hl]
    have ho : o.val < 8 := by omega
    refine ⟨?_, ?_, ?_, ?_, fun a ha => ?_, fun a => by simp⟩
    · simp [get_put_self, get_put_clear, get_put_addr, Reg.CHK_STATUS, Reg.CHK_POS]
    · simpa [get_put_self, get_put_addr, Reg.CHK_STATUS, Reg.CHK_POS] using ho
    · simp [get_put_self, get_put_clear, get_put_addr, Reg.CHK_STATUS, Reg.CHK_POS]
    · simp [get_put_self]
    · simp at ha
      simp [ha]
  · rw [chkAbort_of_owner hb ho]
    obtain ⟨h₁, h₂, h₃, h₄, -, h₆⟩ := chkEnd_result (u := u.val) (hit := false) hw (show 7 < 8 by decide)
    exact ⟨h₁, h₂, h₃, h₄, h₆⟩
  · rw [chkDone_of_compute hb ho hm hr, chkCompare_of_plain (by
      rw [get_put_addr (by simp [Reg.CHK_CTRL, Reg.CHK_POS]), hc])]
    obtain ⟨h₁, h₂, h₃, h₄, h₅, h₆⟩ := chkEnd_result (u := u.val) (hit := false)
      (s := (s.put (Reg.CHK_POS_BYTES u.val) (s.get (Reg.CHK_LEN_BYTES u.val))).put (Reg.CHK_RESULT_VALUE u.val) _) hw
      (show 0 < 8 by decide)
    refine ⟨?_, h₁, h₂, h₃, h₄.trans ?_, h₆⟩
    · rw [get_withQueue, get, h₅ _ (by simp [Reg.CHK_RESULT, Reg.CHK_STATUS]) (by simp [Reg.CHK_RESULT, Reg.CHK_JOBS])]
      exact get_put_self (by simp)
    · rw [get_put_addr (by simp [Reg.CHK_RESULT, Reg.CHK_JOBS]), get_put_addr (by simp [Reg.CHK_POS, Reg.CHK_JOBS])]
  · rw [if_neg (by simp [flag, hb]), chkClaim_of_free hb]
    refine ⟨?_, ?_, rfl, fun a ha => ?_, fun a => rfl⟩
    · simp [get_put_self, get_put_clear]
    · simp [get_put_self]
    · simp at ha
      simp [ha]
      rfl
  · rw [if_neg (by simp [flag, hb])]
    refine ⟨by simp [get_put_self], by simp [get_put_clear], fun a ha => ?_, fun a => by simp⟩
    simp at ha
    simp [ha]

end Sys2Proof.Machine.State
end

section
set_option Elab.async false
/-! PROOFS. Plain register writes, records of progress, and the time, as other operations see them. -/

namespace Sys2Proof.Machine.State

variable {s t : State} {f g : RF} {n v a b : Nat} {w : Word}

/-! A plain write of a register (R10). -/

theorem writeOnly_of_row {r : RegRow} {only : FieldRow → Bool} (h : RegMap.rowOf a = some r) :
    s.writeOnly a w only = s.setReg a (writeFields r.fields only (s.reg a) w) := by rw [writeOnly, h]

theorem writeOnly_of_none {only : FieldRow → Bool} (h : RegMap.rowOf a = none) : s.writeOnly a w only = s := by rw [writeOnly, h]

theorem reg_writeOnly_ne {only : FieldRow → Bool} (h : b ≠ a) : (s.writeOnly a w only).reg b = s.reg b := by
  unfold writeOnly
  split
  · rfl
  · rw [reg_setReg, if_neg h]

theorem reg_writePlain_ne (h : b ≠ a) : (s.writePlain a w).reg b = s.reg b := reg_writeOnly_ne h

theorem get_writePlain_addr (h : f.addr ≠ a) : (s.writePlain a w).get f = s.get f := by rw [get, reg_writePlain_ne h, get]

theorem writePlain_sameBut' : SameBut [Part.regs] s (s.writePlain a w) := writePlain_sameBut (by decide) .refl

@[simp] theorem rd8_writePlain : (s.writePlain a w).rd8 b = s.rd8 b := writePlain_sameBut'.sameBytes rfl rfl b
@[simp] theorem writePlain_start : (s.writePlain a w).start = s.start := writePlain_sameBut'.eq (f := State.start) fun _ => rfl
@[simp] theorem writePlain_progress : (s.writePlain a w).progress = s.progress :=
  writePlain_sameBut'.eq (f := State.progress) fun _ => rfl
@[simp] theorem writePlain_events : (s.writePlain a w).events = s.events :=
  writePlain_sameBut'.eq (f := State.events) fun _ => rfl

/-! Records of progress are no registers and no bytes. -/

@[simp] theorem reg_setProg {p : Progress} : (s.setProg n p).reg a = s.reg a := reg_congr rfl
@[simp] theorem get_setProg {p : Progress} : (s.setProg n p).get f = s.get f := get_congr rfl
@[simp] theorem get64_setProg {p : Progress} : (s.setProg n p).get64 a = s.get64 a := rfl
@[simp] theorem rd8_setProg {p : Progress} : (s.setProg n p).rd8 a = s.rd8 a := rd8_congr rfl rfl
@[simp] theorem setProg_start {p : Progress} : (s.setProg n p).start = s.start := rfl

/-! The time after other registers change. -/

theorem now_put64 (h : a + 4 < Reg.TB_COUNT_LO ∨ Reg.TB_COUNT_LO + 4 < a) : (s.put64 a v).now = s.now :=
  get64_put64_ne (by omega)

theorem now_congr (h : t.regs = s.regs) : t.now = s.now := by rw [now, get64, reg_congr h, reg_congr h]; rfl

/-! The first bytes of what is written. -/

theorem rdBytes_wrBytes_prefix {l r : List Byte} : (s.wrBytes a (l ++ r)).rdBytes a l.length = l := by
  have h := rdBytes_wrBytes_self (s := s) (a := a) (l := l ++ r)
  rw [List.length_append, rdBytes_add] at h
  exact (List.append_inj h (by simp)).1

end Sys2Proof.Machine.State
end

section
set_option Elab.async false
/-! PROOFS. The instructions of the test access port (R729 to R733). -/

namespace Sys2Proof.Machine.State

variable {s : State}

/-! What the operations of the port do in the cases that the statement is about. -/

/-- A code other than EXTEST's leaves EXTEST where it was not in it: the instruction register alone takes it. -/
theorem jtagSelect_of_closed {code : Nat} (h : s.flag Reg.DBG_JTAG_STAT_EXTEST = false) :
    s.jtagSelect code = s.onJtag fun j => { j with code := code } := by simp [jtagSelect, h]

theorem jtagSelect_zero : s.jtagSelect 0 = s.onJtag fun j => { j with code := 0 } := by simp [jtagSelect]

theorem jtagSelect_of_open {code : Nat} (h : s.get Reg.DBG_JTAG_STAT_EXTEST = 1) (hc : code ≠ 0) :
    s.jtagSelect code = s.restart.onJtag fun j => { j with code := code } := by simp [jtagSelect, flag, h, hc]

/-- A restart switches the first rail on, and no debug register outlives it (R733). -/
theorem restart_start : s.restart.start.stage = 1 ∧ s.restart.start.rail = some 6 := by
  simp [restart, coldStart, powerLoss, railsBegin, railRise, onPower, onStart, Power.start, Start.none]

theorem restart_reg : s.restart.reg Reg.DBG_JTAG_STAT = 0 := by
  have h : s.restart.reg Reg.DBG_JTAG_STAT = (s.powerLoss false).reg Reg.DBG_JTAG_STAT := by
    rw [restart, coldStart]
    split
    · rfl
    · rw [reg_congr ((railsBegin_sameBut (F := [Part.power, .start]) (by decide) .refl).regs rfl)]
      exact reg_put.trans (if_neg (by decide))
  rw [h, reg_powerLoss, if_neg (by simp [keptReg, Reg.DBG_JTAG_STAT, Reg.SEC_LC])]
  decide

theorem restart_get : s.restart.get Reg.DBG_JTAG_STAT_EXTEST = 0 ∧ s.restart.get Reg.DBG_JTAG_STAT_LEVEL = 0 := by
  constructor <;> rw [get, restart_reg] <;> decide

/-- The end of an unlock outlives whatever the next code does (R732). -/
theorem trst_get : s.trst.get Reg.DBG_JTAG_STAT_LEVEL = 0 := by
  rw [trst, jtagSelect, get_onJtag]
  split
  · exact restart_get.2
  · exact get_put_self (by decide)

/-- The state with an answer. -/
def answering (s : State) (l : List Nat) : State := { s with answer := l }

theorem answering_answer {l : List Nat} : (s.answering l).answer = l := rfl
theorem answering_jtag {l : List Nat} : (s.answering l).jtag = s.jtag := rfl
theorem answering_sameBytes {l : List Nat} : s.sameBytes (s.answering l) := fun _ => rfl
theorem onJtag_sameBytes {f : Jtag → Jtag} : s.sameBytes (s.onJtag f) := fun _ => rfl
@[simp] theorem reg_answering {l : List Nat} {a : Nat} : (s.answering l).reg a = s.reg a := reg_congr rfl
@[simp] theorem rd8_answering {l : List Nat} {a : Nat} : (s.answering l).rd8 a = s.rd8 a := rd8_congr rfl rfl
@[simp] theorem get_answering {l : List Nat} {f : RF} : (s.answering l).get f = s.get f := get_congr rfl

/-- UNLOCK_CHAL of role 0 locks (R732). -/
theorem unlockChal_of_lock {role : Nat} (h : s.flag Reg.DBG_JTAG_STAT_EXTEST = false) (hr : role = 0) :
    s.unlockChal role = ((s.onJtag fun j => { j with code := 0x10 }).jtagLock).answering [] := by
  rw [unlockChal, jtagSelect_of_closed h]
  exact if_pos hr

/-- UNLOCK_CHAL of a role replaces what JTAG's slot held by the new challenge (R730). -/
theorem unlockChal_of_role {role : Nat} (h : s.flag Reg.DBG_JTAG_STAT_EXTEST = false) (hr : role ≠ 0) :
    s.unlockChal role = (((s.onJtag fun j => { j with code := 0x10 }).useFree.onSec fun x => { x with
      challenges := (x.challenges.filter fun y => y.1 ≠ jtagSlot) ++
        [(jtagSlot, role, leBytes 8 (Config.random s.freeCount).toNat, s.now)] }).answering
      ((leBytes 8 (Config.random s.freeCount).toNat).map (·.toNat))) := by
  rw [unlockChal, jtagSelect_of_closed h]
  exact if_neg hr

/-- UNLOCK_RESP with the response that the challenge asks for is granted (R730). -/
theorem unlockResp_of_match {resp c key : List Byte} {slot role time : Nat} (h : s.flag Reg.DBG_JTAG_STAT_EXTEST = false)
    (hc : (s.sec.challenges.find? fun x => x.1 = 8) = some (slot, role, c, time)) (ht : s.now ≤ time + 12000000000)
    (hr : s.debugRole ≤ role) (hl : s.flag (Reg.SEC_LOCK_LOCKED (role - 1)) = false) (hk : s.roleKey role = some key)
    (hm : takeHash (Config.hmac key (c ++ s.serial ++ [8#8, BitVec.ofNat 8 role])) 10 = resp) :
    s.unlockResp resp = ((s.onJtag fun j => { j with code := 0x11 }).dropChallenge jtagSlot).unlockGranted role := by
  have hgo : ¬(time + 12000000000 < s.now ∨ role < s.debugRole ∨ s.flag (Reg.SEC_LOCK_LOCKED (lockOf role)) = true) := by
    simp only [lockOf, hl]
    simp
    omega
  rw [unlockResp, jtagSelect_of_closed h]
  split
  · next hn => exact absurd (hc.symm.trans hn) (by simp)
  · next hn =>
    cases hc.symm.trans hn
    refine (if_neg hgo).trans ?_
    split
    · next hk' => exact absurd (hk.symm.trans hk') (by simp)
    · next hk' =>
      cases hk.symm.trans hk'
      exact if_pos hm

/-- A granted unlock before its audit entry. -/
def unlockLogged (s : State) (role : Nat) : State :=
  let s := (s.put (Reg.SEC_LOCK_FAILS (lockOf role)) 0).put Reg.DBG_JTAG_STAT_LEVEL (role - 1)
  (s.onJtag fun j => { j with heard := s.now }).log .dbg 0 0x9101 srcManager role

theorem not_auditRegs_of_unlock {role : Nat} (hr : role ≤ 3) :
    ¬auditRegs Reg.DBG_JTAG_STAT ∧ ¬auditRegs (Reg.SEC_LOCK (role - 1)) := by
  constructor <;> simp only [auditRegs, writeRegs, injectRegs, Reg.DBG_JTAG_STAT, Reg.SEC_LOCK, Reg.SEC_AUDIT_STAT, Reg.SEC_AUDIT_HEAD,
    Reg.SEC_HUSK_STAT, Reg.SEC_SIG_STAT, Reg.FLT_LOG_LOST, Reg.DBG_INJ_STAT, Reg.DBG_INJ_DONE] <;> omega

/-- A granted unlock is at its level from now on, and its role has no failed response left (R730). -/
theorem unlockGranted_result {role : Nat} (hr : role ≤ 3) :
    let t := s.unlockGranted role
    t.get Reg.DBG_JTAG_STAT_LEVEL = role - 1 ∧ t.jtag.heard = s.now ∧ t.get (Reg.SEC_LOCK_FAILS (role - 1)) = 0 ∧
      t.sec.challenges = s.sec.challenges := by
  intro t
  obtain ⟨hl, hr'⟩ := not_auditRegs_of_unlock hr
  have hregs : RegsBut auditRegs (s.unlockLogged role) t := audit_regsBut (fun _ h => h) .refl
  have hheard : t.jtag = (s.unlockLogged role).jtag :=
    (audit_sameBut (F := [Part.regs, .mem, .events, .objs, .sec, .fw]) (by decide) .refl).eq (f := State.jtag) fun _ => rfl
  have hne : Reg.DBG_JTAG_STAT ≠ Reg.SEC_LOCK (role - 1) := by simp only [Reg.DBG_JTAG_STAT, Reg.SEC_LOCK]; omega
  have hlost : Reg.SEC_LOCK (role - 1) ≠ Reg.FLT_LOG_LOST := by simp only [Reg.FLT_LOG_LOST, Reg.SEC_LOCK]; omega
  have htb : Reg.SEC_LOCK (role - 1) ≠ Reg.TB_COUNT_LO := by simp only [Reg.TB_COUNT_LO, Reg.SEC_LOCK]; omega
  have htb' : Reg.SEC_LOCK (role - 1) ≠ Reg.TB_COUNT_LO + 4 := by simp only [Reg.TB_COUNT_LO, Reg.SEC_LOCK]; omega
  refine ⟨?_, ?_, ?_, ?_⟩
  · rw [hregs.get hl, unlockLogged, get_log (by decide), get_onJtag, get_put_self (by decide)]
    exact Nat.mod_eq_of_lt (show role - 1 < 4 by omega)
  · rw [hheard, unlockLogged, log_jtag, onJtag_jtag]
    exact (now_put (by decide) (by decide)).trans (now_put htb htb')
  · rw [hregs.get hr', unlockLogged, get_log hlost, get_onJtag, get_put_addr hne.symm, get_put_self (by simp), Nat.zero_mod]
  · have h : t.sec.challenges = (s.unlockLogged role).sec.challenges :=
      audit_sec (g := Security.challenges) (by intro x _ _; rfl)
    rw [h, unlockLogged, log_sec]
    rfl

theorem boundaryScan_eq {pins shift : Nat} :
    s.boundaryScan pins shift = (s.onJtag fun j => { j with boundary := shift }).answering [pins] := rfl

theorem get_boundaryScan {pins shift : Nat} {f : RF} : (s.boundaryScan pins shift).get f = s.get f := get_congr rfl

theorem boundaryScan_sameBytes {pins shift : Nat} : s.sameBytes (s.boundaryScan pins shift) := fun _ => rd8_congr rfl rfl

/-! A debug access (R731). -/

theorem doorOf_of_dram {a : Nat} (h : dramBase ≤ a) : s.doorOf a = none := by
  have ht : tileAtAddr a = none := by
    simp only [dramBase] at h
    rw [tileAtAddr, if_neg (by omega)]
  simp only [dramBase] at h
  rw [doorOf, ht]
  exact if_neg (by omega)

/-- An access of a word of DRAM that answers, before its answer is captured. -/
theorem jtagGo_of_dram {a : Nat} {wr : Option Word} {e : Ecc} (hlo : dramBase ≤ a) (hhi : a < 0x9000000000)
    (hd : (s.dramAt a).isSome = true) (hok : s.dramOk a = true) (hp : s.rangePoisoned a 4 = false) :
    s.jtagGo a wr e = (s.memAccess a wr 15).1.onJtag fun j => { j with status := 0, data := (s.memAccess a wr 15).2.2.toNat } := by
  have hok' : (s.memAccess a wr 15).2.1 = .ok := by cases wr <;> rfl
  have hreach : s.jtagReach a wr e = s.memAccess a wr 15 := by
    have h₁ : ¬(0x1100000 ≤ a ∧ a < 0x1110000) := by simp only [dramBase] at hlo; omega
    have h₂ : ¬a < 0x10000000 := by simp only [dramBase] at hlo; omega
    rw [jtagReach, if_neg h₁, if_neg h₂, if_pos ⟨hlo, hhi⟩, dramAccess, if_neg (by simp [Option.isSome_iff_ne_none.1 hd]),
      if_neg (by simp [hok, hp])]
  rw [jtagGo, doorOf_of_dram hlo]
  simp only [hreach, hok', if_true]
  rfl

theorem dbgAccess_of_free {a : Nat} {v : Word} {wr : Bool} {e : Ecc} (h : s.flag Reg.DBG_JTAG_STAT_EXTEST = false)
    (hl : s.get Reg.DBG_JTAG_STAT_LEVEL ≠ 0) (hw : s.jtagWaits = false) :
    s.dbgAccess a v wr e = ((s.onJtag fun j => { j with code := 0x20, heard := s.now }).jtagGo (a / 4 * 4)
      (if wr then some v else none) e).answering [s.jtag.status, s.jtag.data] := by
  rw [dbgAccess, jtagSelect_of_closed h]
  refine (if_neg hl).trans ((if_neg ?_).trans rfl)
  exact fun h => Bool.false_ne_true (hw.symm.trans h)

/-- What an access of DRAM by JTAG leaves: the word that is written there, or the word that is read (R731). -/
theorem dbgAccess_dram_result {a : Nat} {v : Word} {wr : Bool} {e : Ecc} (h : s.flag Reg.DBG_JTAG_STAT_EXTEST = false)
    (hl : s.get Reg.DBG_JTAG_STAT_LEVEL ≠ 0) (hw : s.jtagWaits = false) (hlo : dramBase ≤ a) (hhi : a < 0x9000000000)
    (hd : (s.dramAt (a / 4 * 4)).isSome = true) (hok : s.dramOk (a / 4 * 4) = true)
    (hp : s.rangePoisoned (a / 4 * 4) 4 = false) :
    let t := s.dbgAccess a v wr e
    t.answer = [s.jtag.status, s.jtag.data] ∧ t.jtag.status = 0 ∧ t.jtag.heard = s.now ∧
      (wr = true → t.rdLe (a / 4 * 4) 4 = v.toNat ∧ s.sameBytesBut t (a / 4 * 4) 4) ∧
      (wr = false → t.jtag.data = s.rdLe (a / 4 * 4) 4 ∧ s.sameBytes t ∧ s.sameRegs t []) := by
  have hlo' : dramBase ≤ a / 4 * 4 := by simp only [dramBase] at hlo ⊢; omega
  rw [dbgAccess_of_free h hl hw, jtagGo_of_dram (s := s.onJtag _) hlo' (by omega) hd hok hp]
  cases wr with
  | false =>
    refine ⟨rfl, rfl, rfl, by simp, fun _ => ⟨?_, fun _ => rfl, fun _ _ => rfl⟩⟩
    show (BitVec.ofNat 32 (s.rdLe (a / 4 * 4) 4)).toNat = _
    rw [BitVec.toNat_ofNat]
    exact Nat.mod_eq_of_lt rdLe_lt
  | true =>
    have hm : ∀ x : State, (x.memAccess (a / 4 * 4) (some v) 15).1 = x.wrLe (a / 4 * 4) 4 v.toNat := fun x => by
      show x.wrLe _ 4 (mergeBytes _ v.toNat 15) = _
      rw [mergeBytes_all v.isLt]
    have hj : ∀ x : State, (x.wrLe (a / 4 * 4) 4 v.toNat).jtag = x.jtag := fun x =>
      (wrLe_sameBut (F := [Part.regs, .mem, .events, .fw]) (by decide) .refl).eq (f := State.jtag) fun _ => rfl
    simp only [if_true, hm, answering_jtag, onJtag_jtag, hj]
    refine ⟨answering_answer, True.intro, True.intro, fun _ => ⟨?_, fun b hb => ?_⟩, by simp⟩
    · rw [rdLe_sameBytes answering_sameBytes, rdLe_sameBytes onJtag_sameBytes, rdLe_wrLe_self]
      exact Nat.mod_eq_of_lt v.isLt
    · rw [answering_sameBytes, onJtag_sameBytes, wrLe_sameBytesBut b hb, onJtag_sameBytes]

/-- An access of a window leaves for its tile under the first free tag (R41, R731). -/
theorem dbgAccess_of_window {a g tile : Nat} {v : Word} {wr : Bool} {e : Ecc} (h : s.flag Reg.DBG_JTAG_STAT_EXTEST = false)
    (hl : s.get Reg.DBG_JTAG_STAT_LEVEL ≠ 0) (hw : s.jtagWaits = false) (hd : s.doorOf (a / 4 * 4) = some tile)
    (hg : ((List.range 256).find? fun g => s.accesses.all fun y => y.1 != g) = some g) :
    let t := s.dbgAccess a v wr e
    t.answer = [s.jtag.status, s.jtag.data] ∧ t.jtag.status = 1 ∧ t.accesses = s.accesses ++ [(g, 6)] ∧ s.sameRegs t [] ∧
      s.sameBytes t := by
  rw [dbgAccess_of_free h hl hw, jtagGo]
  have hd' : ∀ f, (s.onJtag f).doorOf (a / 4 * 4) = some tile := fun _ => hd
  rw [hd']
  dsimp only
  unfold sendAccess
  have hg' : ∀ f, ((List.range 256).find? fun g => (s.onJtag f).accesses.all fun y => y.1 != g) = some g := fun _ => hg
  rw [hg']
  exact ⟨rfl, rfl, rfl, fun _ _ => rfl, fun _ => rfl⟩

/-- Settles O43, by the cases of the port's operations that its hypotheses single out. -/
theorem jtagCommandsComplete : Obligations.JtagCommandsComplete := by
  unfold Obligations.JtagCommandsComplete
  intro s
  refine ⟨fun pins shift h => completes_done rfl ?_, fun pins shift h => completes_done rfl ?_, fun h => completes_done rfl ?_,
    fun role h => completes_done rfl ?_, fun resp c key slot role time h hc ht hr hr3 hl hk hm => completes_done rfl ?_,
    fun h => completes_done rfl ?_, fun a v wr e h hl hw hlo hhi hd hok hp => completes_done rfl ?_,
    fun a v wr e g tile h hl hw hd hg => completes_done rfl ?_, fun code h => completes_done rfl ?_,
    fun code h hc => completes_done rfl ?_, completes_done rfl ?_, fun h => completes_done rfl ?_⟩
  · rw [extest, if_neg (by simp [h]), jtagSelect_zero]
    refine ⟨?_, rfl, ?_, rfl, fun a => ?_⟩
    · simp only [get_withQueue, get_boundaryScan]
      split
      · rw [get_log (by decide), get_put_self (by decide)]
        decide
      · rw [get_put_self (by decide)]
        decide
    · simp only [withQueue_jtag, boundaryScan]
      split <;> simp
    · simp only [rd8_withQueue, boundaryScan_sameBytes a]
      split <;> simp
  · rw [jtagSelect_of_closed h, boundaryScan_eq]
    exact ⟨rfl, rfl, rfl, fun a _ => by simp, fun a => by simp⟩
  · rw [jtagSelect_of_closed h]
    exact ⟨rfl, rfl, fun _ _ => reg_congr rfl, fun _ => rd8_congr rfl rfl⟩
  · by_cases hr : role.val = 0
    · rw [unlockChal_of_lock h hr]
      refine ⟨fun a => ?_, rfl, fun _ => ⟨?_, rfl⟩, fun hn => absurd hr hn⟩
      · rw [rd8_withQueue, answering_sameBytes a]
        rfl
      · rw [get_withQueue, get_answering]
        exact get_put_self (by decide)
    · rw [unlockChal_of_role h hr]
      refine ⟨fun a => ?_, rfl, fun he => absurd he hr, fun _ => ⟨?_, rfl, fun a _ => reg_congr rfl⟩⟩
      · exact rd8_congr rfl rfl
      · rw [withQueue_sec, answering, onSec_sec, List.find?_append, List.find?_eq_none.2 (by simp)]
        rfl
  · rw [unlockResp_of_match h hc ht hr hl hk hm]
    obtain ⟨h₁, h₂, h₃, h₄⟩ := unlockGranted_result (s := (s.onJtag _).dropChallenge jtagSlot) hr3
    refine ⟨h₁, h₂, h₃, ?_⟩
    rw [withQueue_sec, h₄]
    simp [dropChallenge]
  · rw [dbgStatus, jtagSelect_of_closed h]
    refine ⟨fun _ _ => reg_congr rfl, fun _ => rd8_congr rfl rfl, ?_⟩
    have hx : s.get Reg.DBG_JTAG_STAT_EXTEST = 0 := flag_eq_false.1 h
    simp [List.range_succ, hx, Nat.mul_comm, Nat.add_assoc]
  · exact dbgAccess_dram_result h hl hw hlo hhi hd hok hp
  · exact dbgAccess_of_window h hl hw hd hg
  · rw [jtagSelect_of_closed h]
    exact ⟨rfl, fun _ _ => reg_congr rfl, fun _ => rd8_congr rfl rfl⟩
  · rw [jtagSelect_of_open h (fun e => hc (BitVec.eq_of_toNat_eq e))]
    exact ⟨rfl, restart_start.1, restart_start.2, restart_get.1⟩
  · exact ⟨trst_get, rfl⟩
  · rw [jtagIdle, if_neg h]
    refine ⟨get_put_self (by decide), fun a ha => ?_, fun a => ?_⟩
    · simp at ha
      simp [jtagLock, ha, reg_reach_addr]
    · simp [jtagLock, rd8_reach]

end Sys2Proof.Machine.State
end

section
set_option Elab.async false
/-! PROOFS. DRAM training, the saved set, the memory test and the power states (R600 to R605, R621, R626, R636, R638). -/

namespace Sys2Proof.Machine.State

variable {s : State}

/-! Training (R601, R621). -/

theorem trainStep_result {q step rank : Nat} (h₁ : 1 ≤ step) (h₉ : step ≤ 9) (hr : rank < 2)
    (hb : s.flag (Reg.DDR_TRN_STAT_BUSY (q / 4) (q % 4)) = false) :
    let t := s.trainStep q step rank
    t.get (Reg.DDR_TRN_CTRL_STEP (q / 4) (q % 4)) = step ∧ t.get (Reg.DDR_TRN_CTRL_RANK (q / 4) (q % 4)) = rank ∧
      t.get (Reg.DDR_TRN_STAT_BUSY (q / 4) (q % 4)) = 1 ∧ s.sameBytes t ∧
      s.sameRegs t [Reg.DDR_TRN_CTRL (q / 4) (q % 4), Reg.DDR_TRN_STAT (q / 4) (q % 4)] := by
  have hgo : ¬(step = 0 ∨ 9 < step ∨ s.flag (Reg.DDR_TRN_STAT_BUSY (q / 4) (q % 4)) = true) := by simp [hb]; omega
  rw [trainStep, if_neg hgo]
  refine ⟨?_, ?_, ?_, fun a => by simp, fun a ha => ?_⟩
  · simp [get_put_self, get_put_clear, get_put_addr, Reg.DDR_TRN_CTRL, Reg.DDR_TRN_STAT]
    omega
  · simp [get_put_self, get_put_addr, Reg.DDR_TRN_CTRL, Reg.DDR_TRN_STAT]
    omega
  · simp [get_put_self]
  · simp at ha
    simp [ha]

theorem trainDone_of_pass {q lane : Nat} (hb : s.get (Reg.DDR_TRN_STAT_BUSY (q / 4) (q % 4)) = 1)
    (h₉ : s.get (Reg.DDR_TRN_CTRL_STEP (q / 4) (q % 4)) ≠ 9) : s.trainDone q true lane [] =
    ((s.put (Reg.DDR_TRN_STAT_BUSY (q / 4) (q % 4)) 0).put (Reg.DDR_TRN_STAT_PASS (q / 4) (q % 4)) 1).put
      (Reg.DDR_TRN_STAT_LAST_STEP (q / 4) (q % 4)) (s.get (Reg.DDR_TRN_CTRL_STEP (q / 4) (q % 4))) := by
  simp [trainDone, flag, hb, h₉]

theorem getF_bit {w : Word} {i : Nat} : getF w i 1 = (w.getLsbD i).toNat := by
  rw [getF, BitVec.extractLsb'_toNat, BitVec.getLsbD, Nat.testBit, Nat.and_comm, Nat.and_one_is_mod]
  rcases Nat.mod_two_eq_zero_or_one (w.toNat >>> i) with h | h <;> simp [h]

theorem modeAccess_of_write {q : Nat} {w : Word} (h : w.getLsbD 30 = true) : s.modeAccess q w =
    (s.writePlain (Reg.DDR_TRN_MR (q / 4) (q % 4)) w).onStart fun x => { x with
      modes := x.modes.put (q * 4096 + getF w 16 1 * 2048 + getF w 17 3 * 256 + getF w 0 8) (1 + getF w 8 8) } := by
  have hw : getF w 30 1 = 1 := by rw [getF_bit, h]; rfl
  rw [modeAccess]
  exact if_pos hw

theorem modeAccess_of_read {q v : Nat} {w : Word} (h : w.getLsbD 30 = false)
    (hv : s.start.modes.at (q * 4096 + getF w 16 1 * 2048 + getF w 17 3 * 256 + getF w 0 8) = v + 1) :
    s.modeAccess q w = (s.writePlain (Reg.DDR_TRN_MR (q / 4) (q % 4)) w).put (Reg.DDR_TRN_MR_DATA (q / 4) (q % 4)) v := by
  have hw : ¬getF w 30 1 = 1 := by rw [getF_bit, h]; decide
  rw [modeAccess]
  refine (if_neg hw).trans ?_
  rw [writePlain_start, hv]

/-! The saved set (R600). -/

theorem rdBytes_withQueue {q : List Instr} {a n : Nat} : (s.withQueue q).rdBytes a n = s.rdBytes a n :=
  rdBytes_sameBytes fun _ => rd8_withQueue

theorem trainTagOk_withQueue {q : List Instr} : (s.withQueue q).trainTagOk = s.trainTagOk := by
  rw [trainTagOk, trainTag, rdBytes_withQueue, rdBytes_withQueue]
  rfl

theorem length_trainTag : s.trainTag.length = 32 := by simp [trainTag, takeHash]

/-- The set that TRAIN_SET_SEAL writes, without its tag. -/
def trainSet (s : State) (temp : Nat) : List Byte :=
  s.trainHeader ++ leBytes 4 temp ++ List.replicate 40 0 ++ (List.range 16).flatMap s.settingsBytes ++
    (List.range 1152).map s.runtimeByte

theorem length_trainSet {temp : Nat} : (s.trainSet temp).length = 9408 := by
  simp [trainSet, trainHeader, settingsBytes, List.length_flatMap]

theorem trainSeal_of_idle {temp : Nat} (h : s.wiping = false) : s.trainSeal temp =
    ((s.wrBytes trainBase (s.trainSet temp)).wrBytes (trainBase + trainBytes) (s.wrBytes trainBase (s.trainSet temp)).trainTag).sealDirty := by
  rw [trainSeal, if_neg (by simp [h])]
  simp only [trainSet]

theorem trainSeal_result {temp : Nat} (h : s.wiping = false) :
    let t := s.trainSeal temp
    t.trainTagOk = true ∧ t.get Reg.SEC_HUSK_STAT_SEAL_PEND = 1 ∧ t.rdBytes trainBase 20 = s.trainHeader ∧
      s.sameBytesBut t trainBase 0x8000 := by
  intro t
  have hd : ∀ x : State, x.sameBytes x.sealDirty := fun x a => by simp [sealDirty]
  have ht : t = ((s.wrBytes trainBase (s.trainSet temp)).wrBytes (trainBase + trainBytes)
      (s.wrBytes trainBase (s.trainSet temp)).trainTag).sealDirty := trainSeal_of_idle h
  generalize hx : s.wrBytes trainBase (s.trainSet temp) = x at ht
  have hset : t.rdBytes trainBase trainBytes = x.rdBytes trainBase trainBytes := by
    rw [ht, rdBytes_sameBytes (hd _), rdBytes_wrBytes_of_disjoint (.inl le_rfl)]
  have htag : t.rdBytes (trainBase + trainBytes) 32 = x.trainTag := by
    rw [ht, rdBytes_sameBytes (hd _), ← length_trainTag (s := x), rdBytes_wrBytes_self]
  refine ⟨?_, ?_, ?_, fun a ha => ?_⟩
  · rw [trainTagOk, htag, trainTag, hset, ← trainTag, decide_eq_true rfl]
  · rw [ht, sealDirty, get_put_self (by decide)]
    decide
  · have hlen : s.trainHeader.length = 20 := by simp [trainHeader]
    rw [ht, rdBytes_sameBytes (hd _), rdBytes_wrBytes_of_disjoint (.inl (by simp [trainBase, trainBytes])), ← hx, ← hlen, trainSet]
    simp only [List.append_assoc]
    exact rdBytes_wrBytes_prefix
  · rw [ht, hd, wrBytes_sameBytesBut a (by rw [length_trainTag]; simp only [trainBase, trainBytes] at ha ⊢; omega), ← hx,
      wrBytes_sameBytesBut a (by rw [length_trainSet]; omega)]

/-! The memory test (R602 to R605). -/

theorem testAbort_of_busy {u : Nat} (h : s.get (Reg.DDR_MT_STAT_BUSY u) = 1) :
    s.testAbort u = ((s.put (Reg.DDR_MT_STAT_BUSY u) 0).put (Reg.DDR_MT_STAT_PHASE u) 6).progEnd 1 4 := by
  simp [testAbort, flag, h]

theorem holdExpire_result {u : Nat} (h : s.get (Reg.DDR_MT_STAT_BUSY u) = 1)
    (hr : s.start.passes.at u < s.get (Reg.DDR_MT_CTRL_RET u)) :
    let t := s.holdExpire u
    t.get (Reg.DDR_MT_STAT_PHASE u) = 4 ∧ t.start.passes.at u = s.start.passes.at u + 1 ∧ s.sameBytes t := by
  have hgo : ¬(!s.flag (Reg.DDR_MT_STAT_BUSY u) || decide (s.get (Reg.DDR_MT_CTRL_RET u) ≤ s.start.passes.at u)) = true := by
    simp [flag, h]
    omega
  rw [holdExpire]
  simp only [if_neg hgo]
  refine ⟨?_, ?_, fun a => ?_⟩
  · simp [get_put_self]
  · simp
  · simp [testMoved, progAdd, rd8_reach]

/-- The record of progress of a test that begins beside others, or as the first (R604). -/
def testOpened (s : State) (u : Nat) : State :=
  let n := s.testBytes u
  if s.busy 1 then s.setProg 1 { s.prog 1 with total := (s.prog 1).total + n } else (s.progStart 1 n).setObj 0x2203 2 0

theorem testOpened_sameBut {u : Nat} : SameBut [Part.progress, .objs] s (s.testOpened u) := by
  unfold testOpened
  exact keeps_ite (setProg_sameBut (by decide) .refl) (setObj_sameBut (by decide) (progStart_sameBut (by decide) .refl))

theorem testStart_of_free {u : Nat} {w : Word} (h : s.flag (Reg.DDR_MT_STAT_BUSY u) = false) : s.testStart u w =
    let x := (s.writePlain (Reg.DDR_MT_CTRL u) w).testOpened u
    let y := (x.put (Reg.DDR_MT_STAT_BUSY u) 1).put (Reg.DDR_MT_STAT_PHASE u) 
      (if x.flag (Reg.DDR_MT_CTRL_MARCH u) then 1 else 2)
    let z := (y.put (Reg.DDR_MT_ERR_COUNT u) 0).put64 (Reg.DDR_MT_POS_LO u) 0
    z.onStart fun x => { x with
      testAt := x.testAt.put u z.now, passes := x.passes.put u 0, tested := x.tested.filter (· != u) } := by
  have hw : ¬(s.writePlain (Reg.DDR_MT_CTRL u) w).flag (Reg.DDR_MT_STAT_BUSY u) = true := by
    rw [flag_congr (get_writePlain_addr (by simp [Reg.DDR_MT_CTRL, Reg.DDR_MT_STAT])), h]
    decide
  rw [testStart]
  exact if_neg hw

theorem testStart_result {u : Nat} {w : Word} (hu : u < 4) (h : s.flag (Reg.DDR_MT_STAT_BUSY u) = false) :
    let t := s.testStart u w
    t.get (Reg.DDR_MT_STAT_BUSY u) = 1 ∧ t.get (Reg.DDR_MT_ERR_COUNT u) = 0 ∧ t.get64 (Reg.DDR_MT_POS_LO u) = 0 ∧
      t.start.testAt.at u = s.now ∧ t.start.passes.at u = 0 ∧ u ∉ t.start.tested ∧ s.sameBytes t := by
  rw [testStart_of_free h]
  have hx := testOpened_sameBut (s := s.writePlain (Reg.DDR_MT_CTRL u) w) (u := u)
  generalize (s.writePlain (Reg.DDR_MT_CTRL u) w).testOpened u = x at hx ⊢
  have hnow : x.now = s.now := by
    rw [now_congr (hx.regs rfl), now, get64, reg_writePlain_ne (by simp only [Reg.DDR_MT_CTRL, Reg.TB_COUNT_LO]; omega),
      reg_writePlain_ne (by simp only [Reg.DDR_MT_CTRL, Reg.TB_COUNT_LO]; omega)]
    rfl
  refine ⟨?_, ?_, ?_, ?_, ?_, ?_, fun a => ?_⟩
  · rw [get_onStart, get_put64_addr (by simp only [Reg.DDR_MT_STAT, Reg.DDR_MT_POS_LO]; omega)
      (by simp only [Reg.DDR_MT_STAT, Reg.DDR_MT_POS_LO]; omega)]
    simp [get_put_self, get_put_clear, get_put_addr, Reg.DDR_MT_STAT, Reg.DDR_MT_ERR]
  · rw [get_onStart, get_put64_addr (by simp only [Reg.DDR_MT_ERR, Reg.DDR_MT_POS_LO]; omega)
      (by simp only [Reg.DDR_MT_ERR, Reg.DDR_MT_POS_LO]; omega)]
    simp [get_put_self]
  · simp [get64_put64]
  · simp
    rw [now_put64 (by simp only [Reg.DDR_MT_POS_LO, Reg.TB_COUNT_LO]; omega)]
    rw [now_put, now_put, now_put, hnow] <;> simp only [Reg.DDR_MT_STAT, Reg.DDR_MT_ERR, Reg.TB_COUNT_LO] <;> omega
  · simp
  · simp
  · simpa using (hx.sameBytes rfl rfl a).trans rd8_writePlain

/-- A test that ends without a burst that read back wrong, before what follows the training. -/
def testOver (s : State) (u : Nat) : State :=
  let s := s.testLeaves u
  let s := s.testMoved u (s.testBytes u - s.get64 (Reg.DDR_MT_POS_LO u))
  let s := (s.put (Reg.DDR_MT_STAT_BUSY u) 0).put (Reg.DDR_MT_STAT_PHASE u) 5
  let s := s.onStart fun x => { x with tested := u :: x.tested }
  if (List.range 4).any fun v => s.flag (Reg.DDR_MT_STAT_BUSY v) then s else if s.busy 1 then s.progEnd 1 2 else s

theorem testDone_of_clean {u : Nat} (h : s.get (Reg.DDR_MT_STAT_BUSY u) = 1)
    (hr : s.get (Reg.DDR_MT_CTRL_RET u) ≤ s.start.passes.at u) : s.testDone u [] = (s.testOver u).trainNext := by
  have hgo : ¬(!s.flag (Reg.DDR_MT_STAT_BUSY u) || decide (s.start.passes.at u < s.get (Reg.DDR_MT_CTRL_RET u))) = true := by
    simp [flag, h]
    omega
  simp only [testDone, testOver, if_neg hgo, List.foldl_nil]
  congr 1

theorem testMoved_start {u n : Nat} : (s.testMoved u n).start = s.start := by simp [testMoved, progAdd]

theorem testOver_result {u : Nat} : (s.testOver u).get (Reg.DDR_MT_STAT_BUSY u) = 0 ∧
    (s.testOver u).get (Reg.DDR_MT_STAT_PHASE u) = 5 ∧
    (s.testOver u).start = { s.start with tested := u :: s.start.tested } := by
  have hl := testLeaves_sameBut (F := [Part.mem, .freeCount, .memories, .lost]) (by decide) (SameBut.refl (s := s)) (u := u)
  have hs : (s.testLeaves u).start = s.start := hl.eq (f := State.start) fun _ => rfl
  generalize hx : s.testLeaves u = x at hs
  have hy : ∀ y : State, y.start = s.start →
      let z := ((y.put (Reg.DDR_MT_STAT_BUSY u) 0).put (Reg.DDR_MT_STAT_PHASE u) 5).onStart fun x => { x with tested := u :: x.tested }
      z.get (Reg.DDR_MT_STAT_BUSY u) = 0 ∧ z.get (Reg.DDR_MT_STAT_PHASE u) = 5 ∧ z.start = { s.start with tested := u :: s.start.tested } :=
    fun y h => ⟨by simp [get_put_self, get_put_clear], by simp [get_put_self], by simp [h]⟩
  have hz := hy (x.testMoved u (x.testBytes u - x.get64 (Reg.DDR_MT_POS_LO u))) (testMoved_start.trans hs)
  rw [testOver, hx]
  dsimp only at hz ⊢
  generalize State.onStart _ _ = z at hz ⊢
  split_ifs
  · exact hz
  · rw [progEnd, get_setProg, get_setProg, setProg_start]
    exact hz
  · exact hz

theorem testDone_result {u : Nat} (h : s.get (Reg.DDR_MT_STAT_BUSY u) = 1)
    (hr : s.get (Reg.DDR_MT_CTRL_RET u) ≤ s.start.passes.at u) (hs : s.start.stage ≠ 4) :
    let t := s.testDone u []
    t.get (Reg.DDR_MT_STAT_BUSY u) = 0 ∧ t.get (Reg.DDR_MT_STAT_PHASE u) = 5 ∧ u ∈ t.start.tested := by
  obtain ⟨h₁, h₂, h₃⟩ := testOver_result (s := s) (u := u)
  have hn : (s.testOver u).trainNext = s.testOver u := if_pos (.inl (by rw [h₃]; exact hs))
  rw [testDone_of_clean h hr, hn]
  exact ⟨h₁, h₂, by rw [h₃]; exact List.mem_cons_self⟩

/-! The power states (R626, R627, R636, R638). -/

/-- A request by the register that nothing turns away, as it is carried out (R626). -/
def powerTaken (s : State) (n : Nat) : State := (s.put Reg.PWR_CTRL_REQ n).reply .ok 0

theorem powerTaken_sameBut {n : Nat} : SameBut [Part.regs, .answer] s (s.powerTaken n) :=
  withAnswer_sameBut (by decide) (put_sameBut (by decide) .refl)

theorem powerTaken_req {n : Nat} : (s.powerTaken n).get Reg.PWR_CTRL_REQ = n % 4 :=
  (get_congr rfl).trans (get_put_self (by decide))

theorem powerTaken_state {n : Nat} : (s.powerTaken n).get Reg.PWR_STATUS_STATE = s.get Reg.PWR_STATUS_STATE :=
  (get_congr rfl).trans (get_put_addr (f := Reg.PWR_CTRL_REQ) (by decide))

section
set_option Elab.async false
variable {n : Nat} (h : s.powerReason n = 0)
include h

theorem powerRequest_active (hn : n = 0) (hs : s.get Reg.PWR_STATUS_STATE = 1) :
    s.powerRequest n none = (s.powerTaken n).stateEnter 1 0 := by
  subst hn
  have hslot : ¬((none : Option Nat).any fun n => decide (s.slotRole n < 2)) = true := by simp
  unfold powerRequest
  exact (if_neg hslot).trans ((if_neg (not_not.2 h)).trans (if_pos hs))

theorem powerRequest_idle (hn : n = 1) (hs : s.get Reg.PWR_STATUS_STATE = 0) :
    s.powerRequest n none = (s.powerTaken n).stateEnter 0 1 := by
  subst hn
  have hslot : ¬((none : Option Nat).any fun n => decide (s.slotRole n < 2)) = true := by simp
  unfold powerRequest
  exact (if_neg hslot).trans ((if_neg (not_not.2 h)).trans (if_pos hs))

theorem powerRequest_doze (hn : n = 2) (hs : s.get Reg.PWR_STATUS_STATE ≤ 1) : s.powerRequest n none =
    ((s.powerTaken n).switchSave.selfRefresh.onStart fun x => { x with stage := 0 }).fallBegin 2 [1, 0] := by
  subst hn
  have hslot : ¬((none : Option Nat).any fun n => decide (s.slotRole n < 2)) = true := by simp
  have hgo : ¬(s.get Reg.PWR_STATUS_STATE = 2 ∨ s.get Reg.PWR_STATUS_STATE = 3) := by omega
  unfold powerRequest
  exact (if_neg hslot).trans ((if_neg (not_not.2 h)).trans (if_neg hgo))

theorem powerRequest_off (hn : n = 3) (hs : s.get Reg.PWR_STATUS_STATE ≤ 2) :
    s.powerRequest n none = (s.powerTaken n).offBegin := by
  subst hn
  have hslot : ¬((none : Option Nat).any fun n => decide (s.slotRole n < 2)) = true := by simp
  have hgo : ¬s.get Reg.PWR_STATUS_STATE = 3 := by omega
  unfold powerRequest
  exact (if_neg hslot).trans ((if_neg (not_not.2 h)).trans (if_neg hgo))

end

theorem stateEnter_result {old new : Nat} (hn : new < 2) :
    let t := s.stateEnter old new
    t.get Reg.PWR_STATUS_STATE = new ∧ t.get Reg.PWR_CTRL_REQ = s.get Reg.PWR_CTRL_REQ ∧ t.power.goal = none ∧
      t.answer = s.answer ∧ s.sameBytes t := by
  have h₃ : ¬new = 3 := by omega
  have h₂ : ¬new = 2 := by omega
  simp only [stateEnter, h₃, h₂, if_false]
  refine ⟨?_, ?_, ?_, ?_, fun a => by simp⟩
  · rw [get_log (by decide), get_onPower, get_put_self (by decide)]
    exact Nat.mod_eq_of_lt (show new < 8 by omega)
  · rw [get_log (by decide), get_onPower, get_put_addr (by decide)]
  · simp
  · simp

theorem fallNext_of_cons {q : Nat} {l : List Nat} (h : s.power.off = q :: l) : s.fallNext =
    (s.onPower fun p => { p with enabled := p.enabled.filter (· != q) }).pmbSend ⟨1, q, pmbOperation, 0, true, 0⟩ := by
  rw [fallNext, h]

/-- A fall that switches a rail off: the state is in between, on its way to its goal (R626). -/
theorem fallBegin_of_cons {dest q : Nat} {rails l : List Nat} (hl : (rails.filter fun r => r ∈ s.power.enabled) = q :: l) :
    let t := s.fallBegin dest rails
    t.get Reg.PWR_STATUS_STATE = 4 ∧ t.power.goal = some (s.get Reg.PWR_STATUS_STATE, dest) ∧ t.power.safe = s.power.safe ∧
      t.start = s.start ∧ t.answer = s.answer ∧ q ∉ t.power.enabled := by
  rw [fallBegin]
  generalize hx : ((s.put Reg.PWR_STATUS_STATE 4).onPower fun p => _) = x
  have ho : x.power.off = q :: l := hx ▸ hl
  simp only [ho, List.isEmpty_cons, Bool.false_eq_true, if_false, fallNext_of_cons ho]
  subst hx
  refine ⟨?_, ?_, ?_, ?_, ?_, ?_⟩ <;> simp [pmbSend, get_put_self]

/-! What precedes a fall keeps the state of the power. -/

theorem pageCopied_regsBut {B : Nat → Prop} {s₀ : State} {q bad} (hl : B Reg.FLT_LOG_LOST) (h : RegsBut B s₀ s) :
    RegsBut B s₀ (s.pageCopied q bad) := by
  unfold pageCopied
  split
  · exact h
  · exact log_regsBut hl (h.congr rfl)

/-- The registers that the entry of self-refresh may change. -/
def refreshRegs (a : Nat) : Prop := a = Reg.FLT_LOG_LOST ∨ ∃ u < 4, a = Reg.DDR_STATUS u

theorem selfRefresh_regsBut {B : Nat → Prop} {s₀ : State} (hB : ∀ a, refreshRegs a → B a) (h : RegsBut B s₀ s) :
    RegsBut B s₀ s.selfRefresh := by
  unfold selfRefresh
  exact keeps_foldl_mem _ (keeps_foldl _ h fun x hx c => pageCopied_regsBut (hB _ (.inl rfl)) hx) fun x hx u hu =>
    put_regsBut (hB _ (.inr ⟨u, List.mem_range.1 hu, rfl⟩)) hx

theorem selfRefresh_sameBut' : SameBut [Part.regs, .events, .memories] s s.selfRefresh := selfRefresh_sameBut (by decide) .refl

theorem not_refreshRegs {a : Nat} (h : a < 0x1050000 ∨ 0x1060000 ≤ a) (hl : a ≠ Reg.FLT_LOG_LOST) : ¬refreshRegs a := by
  rintro (e | ⟨u, hu, e⟩)
  · exact hl e
  · simp only [Reg.DDR_STATUS] at e
    omega

/-- A fall to DOZE from a state with a rail of the core on (R627). -/
theorem dozeRequest_result (h : s.powerReason 2 = 0) (hs : s.get Reg.PWR_STATUS_STATE ≤ 1) (he : 1 ∈ s.power.enabled) :
    let t := s.powerRequest 2 none
    t.get Reg.PWR_STATUS_STATE = 4 ∧ t.power.goal = some (s.get Reg.PWR_STATUS_STATE, 2) ∧ 1 ∉ t.power.enabled ∧
      t.start.stage = 0 ∧ t.answer = [0, 0] := by
  rw [powerRequest_doze h rfl hs]
  have hw := switchSave_sameBut (F := [Part.objs, .images]) (by decide) (SameBut.refl (s := s.powerTaken 2))
  generalize hx : (s.powerTaken 2).switchSave = x at hw
  have hpow : x.selfRefresh.power = s.power :=
    (selfRefresh_sameBut'.eq (f := State.power) fun _ => rfl).trans ((hw.eq (f := State.power) fun _ => rfl).trans
      (powerTaken_sameBut.eq (f := State.power) fun _ => rfl))
  have hans : x.selfRefresh.answer = [0, 0] :=
    (selfRefresh_sameBut'.eq (f := State.answer) fun _ => rfl).trans (hw.eq (f := State.answer) fun _ => rfl)
  have hst : x.selfRefresh.get Reg.PWR_STATUS_STATE = s.get Reg.PWR_STATUS_STATE := by
    rw [(selfRefresh_regsBut (fun _ h => h) RegsBut.refl).get (not_refreshRegs (.inr (by decide)) (by decide)),
      get_congr (hw.regs rfl), powerTaken_state]
  have hl : ([1, 0].filter fun r => r ∈ s.power.enabled) = 1 :: [0].filter fun r => r ∈ s.power.enabled :=
    List.filter_cons_of_pos (by simpa using he)
  obtain ⟨h₁, h₂, -, h₄, h₅, h₆⟩ := fallBegin_of_cons (s := x.selfRefresh.onStart fun x => { x with stage := 0 }) (dest := 2)
    (by rw [onStart_power, hpow]; exact hl)
  exact ⟨h₁, h₂.trans (by rw [get_onStart, hst]), h₆, by rw [h₄, onStart_start], h₅.trans (onStart_answer.trans hans)⟩

theorem egressHold_power : s.egressHold.power = { s.power with safe := true } :=
  (guardScan_sameBut (F := [Part.regs, .mem, .events, .sent, .can, .guard, .fw]) (by decide) .refl).eq (f := State.power) fun _ => rfl

theorem egressHold_answer : s.egressHold.answer = s.answer :=
  (egressHold_sameBut (F := [Part.regs, .mem, .events, .sent, .can, .guard, .fw, .power]) (by decide) .refl).eq (f := State.answer)
    fun _ => rfl

theorem not_guardRegs_of_power {a : Nat} (h : 0x10B0000 ≤ a) (h' : a < 0x10B1000) : ¬guardRegs a := by
  simp only [guardRegs, sinkRegs, inCan, writeRegs, injectRegs, Reg.EGR_GPO_STAT, Reg.EGR_HOST_PTR, Reg.EGR_HOST_DROP,
    Reg.HOST_IRQ_STAT, Reg.DBG_INJ_STAT, Reg.DBG_INJ_DONE, Reg.FLT_LOG_LOST, Reg.SEC_SIG_STAT]
  omega

theorem egressHold_get {f : RF} (h : 0x10B0000 ≤ f.addr) (h' : f.addr < 0x10B1000) : s.egressHold.get f = s.get f :=
  (guardScan_regsBut (B := guardRegs) (fun _ h => h) (RegsBut.refl (s := s.onPower fun p => { p with safe := true }))).get
    (not_guardRegs_of_power h h')

/-- What the seal of a device that is switched off leaves. -/
theorem sealed_result : let t := if s.wiping then s else s.sealWrite
    t.power = s.power ∧ t.answer = s.answer ∧ t.get Reg.PWR_STATUS_STATE = s.get Reg.PWR_STATUS_STATE := by
  dsimp only
  split
  · exact ⟨rfl, rfl, rfl⟩
  · have h := sealWrite_sameBut (F := [Part.regs, .sec]) (by decide) (SameBut.refl (s := s))
    refine ⟨h.eq (f := State.power) fun _ => rfl, h.eq (f := State.answer) fun _ => rfl, ?_⟩
    exact (get_put_addr (f := Reg.SEC_HUSK_STAT_SEAL_PEND) (by decide)).trans (get_congr rfl)

/-- A fall to OFF-WAKEABLE with the first of its rails on (R627). -/
theorem offRequest_result (h : s.powerReason 3 = 0) (hs : s.get Reg.PWR_STATUS_STATE ≤ 2) (he : 6 ∈ s.power.enabled) :
    let t := s.powerRequest 3 none
    t.get Reg.PWR_STATUS_STATE = 4 ∧ t.power.goal = some (s.get Reg.PWR_STATUS_STATE, 3) ∧ t.power.safe = true ∧
      t.answer = [0, 0] := by
  rw [powerRequest_off h rfl hs, offBegin]
  obtain ⟨hp, ha, hg⟩ := sealed_result (s := (s.powerTaken 3).egressHold)
  dsimp only at hp ha hg ⊢
  generalize (if (s.powerTaken 3).egressHold.wiping then _ else _) = x at hp ha hg ⊢
  have hpow : x.selfRefresh.power = { s.power with safe := true } := by
    rw [selfRefresh_sameBut'.eq (f := State.power) fun _ => rfl, hp, egressHold_power,
      powerTaken_sameBut.eq (f := State.power) fun _ => rfl]
  have hans : x.selfRefresh.answer = [0, 0] := by
    rw [selfRefresh_sameBut'.eq (f := State.answer) fun _ => rfl, ha, egressHold_answer]
    rfl
  have hst : x.selfRefresh.get Reg.PWR_STATUS_STATE = s.get Reg.PWR_STATUS_STATE := by
    rw [(selfRefresh_regsBut (fun _ h => h) RegsBut.refl).get (not_refreshRegs (.inr (by decide)) (by decide)), hg,
      egressHold_get (by decide) (by decide), powerTaken_state]
  have hmem : 6 ∈ fallOrder.filter fun r => r ∈ x.selfRefresh.power.enabled :=
    List.mem_filter.2 ⟨by decide, by rw [hpow]; simpa using he⟩
  obtain ⟨q, l, hl⟩ := List.exists_cons_of_ne_nil (List.ne_nil_of_mem hmem)
  obtain ⟨h₁, h₂, h₃, -, h₅, -⟩ := fallBegin_of_cons (dest := 3) hl
  exact ⟨h₁, h₂.trans (by rw [hst]), h₃.trans (by rw [hpow]), h₅.trans hans⟩

/-! A wake (R636, R638). -/

theorem railsBegin_goal {l : List Nat} : (s.railsBegin l).power.goal = s.power.goal := by
  unfold railsBegin
  split <;> rfl

theorem railsBegin_kind {l : List Nat} : (s.railsBegin l).start.kind = s.start.kind := by
  unfold railsBegin
  split <;> rfl

theorem wakeStart_result :
    let t := s.wakeStart
    t.get Reg.PWR_STATUS_STATE = 4 ∧ t.power.goal = some (s.get Reg.PWR_STATUS_STATE, 0) ∧
      t.start.kind = (if s.get Reg.PWR_STATUS_STATE = 2 then 3 else 0) ∧ t.wakes = s.wakes ∧ s.sameBytes t := by
  have hb : ∀ (x : State) (l : List Nat), SameBut [Part.power, .start] x (x.railsBegin l) := fun x l =>
    railsBegin_sameBut (by decide) .refl
  rw [wakeStart]
  refine ⟨?_, ?_, ?_, ?_, fun a => ?_⟩
  · rw [get_congr ((hb _ _).regs rfl)]
    simp [get_put_self]
  · rw [railsBegin_goal]
    simp
  · rw [railsBegin_kind]
    simp
  · rw [(hb _ _).eq (f := State.wakes) fun _ => rfl]
    simp
  · rw [(hb _ _).sameBytes rfl rfl]
    simp

/-- The registers that the record of a wake changes. -/
def wakeRegs (a : Nat) : Prop := a = Reg.PWR_WAKE_REC ∨ a = Reg.PWR_WAKE_TB_LO ∨ a = Reg.PWR_WAKE_TB_LO + 4

theorem wakeRecord_regsBut {B : Nat → Prop} {s₀ : State} {src detail} (hB : ∀ a, wakeRegs a → B a) (h : RegsBut B s₀ s) :
    RegsBut B s₀ (s.wakeRecord src detail) := by
  have hr : B Reg.PWR_WAKE_REC := hB _ (.inl rfl)
  unfold wakeRecord
  exact put_regsBut hr (put64_regsBut (hB _ (.inr (.inl rfl))) (hB _ (.inr (.inr rfl))) (put_regsBut hr (put_regsBut hr
    (put_regsBut hr h))))

/-- The patterns of a cycle whose source is enabled. -/
def wakesOn (s : State) : List (Nat × Nat) := s.wakes.filter fun x => bits (s.get Reg.PWR_WAKE_EN_BITS) (x.1 - 1) 1 = 1

/-- A wake taken, before the start that it brings. -/
def wakeTaken (s : State) (cycles : Nat) : State :=
  let on := s.wakesOn
  let old := s.get Reg.PWR_STATUS_STATE
  let s := { s with wakes := [] }
  let s := if old = 3 then s.tbMove (s.now + 8 * cycles) else s
  let src := if on.any fun x => x.1 = 7 then 7 else on.foldl (fun m x => min m x.1) 8
  let detail := ((on.find? fun x => x.1 = src).map (·.2)).getD 0
  let s := s.wakeRecord src detail
  on.foldl (fun s x => s.put Reg.PWR_WAKE_REC_PEND ((s.get Reg.PWR_WAKE_REC_PEND).lor (2 ^ x.1))) s

theorem wakeEvent_of_enabled {cycles : Nat} {x : Nat × Nat} (h₀ : s.start.stage = 0)
    (hs : s.get Reg.PWR_STATUS_STATE = 2 ∨ s.get Reg.PWR_STATUS_STATE = 3) (hx : x ∈ s.wakes)
    (he : bits (s.get Reg.PWR_WAKE_EN_BITS) (x.1 - 1) 1 = 1) : s.wakeEvent cycles [] = (s.wakeTaken cycles).wakeStart := by
  have hon : x ∈ s.wakesOn := List.mem_filter.2 ⟨hx, by simpa using he⟩
  have hgo : ¬(s.wakesOn.isEmpty = true ∨ (s.get Reg.PWR_STATUS_STATE ≠ 2 ∧ s.get Reg.PWR_STATUS_STATE ≠ 3) ∨
      s.start.stage ≠ 0) := by
    simp [h₀, List.ne_nil_of_mem hon]
    omega
  rw [wakeEvent, List.filter_nil, List.append_nil]
  exact if_neg hgo

theorem wakeTaken_result {cycles : Nat} :
    let t := s.wakeTaken cycles
    t.wakes = [] ∧ t.get Reg.PWR_STATUS_STATE = s.get Reg.PWR_STATUS_STATE ∧ s.sameBytes t := by
  have hmoved : ∀ x : State, (if s.get Reg.PWR_STATUS_STATE = 3 then { s with wakes := [] }.tbMove ({ s with wakes := [] }.now + 8 * cycles)
      else { s with wakes := [] }) = x → x.wakes = [] ∧ x.get Reg.PWR_STATUS_STATE = s.get Reg.PWR_STATUS_STATE ∧ s.sameBytes x := by
    rintro _ rfl
    split
    · have h : SameBut [Part.regs, .events, .tbRate, .wakes] s
          ({ s with wakes := [] }.tbMove ({ s with wakes := [] }.now + 8 * cycles)) :=
        tbMove_sameBut (by decide) (withWakes_sameBut (by decide) .refl)
      refine ⟨?_, ?_, h.sameBytes rfl rfl⟩
      · simp [tbMove]
      · rw [tbMove, get_log (by decide), get_put64_addr (by decide) (by decide)]
        exact get_congr rfl
    · exact ⟨rfl, get_congr rfl, fun _ => rd8_congr rfl rfl⟩
  rw [wakeTaken]
  generalize hx : (if s.get Reg.PWR_STATUS_STATE = 3 then _ else _) = x
  obtain ⟨h₁, h₂, h₃⟩ := hmoved x hx
  have hregs := fun src detail => keeps_foldl (P := RegsBut wakeRegs x) (f := fun s (x : Nat × Nat) =>
    s.put Reg.PWR_WAKE_REC_PEND ((s.get Reg.PWR_WAKE_REC_PEND).lor (2 ^ x.1))) s.wakesOn
      (wakeRecord_regsBut (fun _ h => h) RegsBut.refl (src := src) (detail := detail)) fun y hy z => put_regsBut (.inl rfl) hy
  have hsame := fun src detail => keeps_foldl (P := SameBut [Part.regs] x) (f := fun s (x : Nat × Nat) =>
    s.put Reg.PWR_WAKE_REC_PEND ((s.get Reg.PWR_WAKE_REC_PEND).lor (2 ^ x.1))) s.wakesOn
      (wakeRecord_sameBut (by decide) .refl (src := src) (detail := detail)) fun y hy z => put_sameBut (by decide) hy
  refine ⟨((hsame _ _).eq (f := State.wakes) fun _ => rfl).trans h₁, ((hregs _ _).get ?_).trans h₂,
    fun a => ((hsame _ _).sameBytes rfl rfl a).trans (h₃ a)⟩
  simp [wakeRegs, Reg.PWR_STATUS, Reg.PWR_WAKE_REC, Reg.PWR_WAKE_TB_LO]

/-- Settles O59, by the cases of the operations that its hypotheses single out. -/
theorem trainingCommandsComplete : Obligations.TrainingCommandsComplete := by
  unfold Obligations.TrainingCommandsComplete
  intro s
  refine ⟨fun q step rank h₁ h₉ hb => completes_done rfl ?_, fun q lane hb h₉ => completes_done rfl ?_,
    fun q w h => completes_done rfl ?_, fun q w v h hv hm => completes_done rfl ?_, fun temp h => completes_done rfl ?_,
    completes_done rfl ?_, fun u w h => completes_done rfl ?_, fun u h => completes_done rfl ?_,
    fun u h hr => completes_done rfl ?_, fun u h hr hs => completes_done rfl ?_, fun h hs => completes_done rfl ?_,
    fun h hs => completes_done rfl ?_, fun h hs he => completes_done rfl ?_, fun h hs he => completes_done rfl ?_,
    fun c x h₀ hs hx he => completes_done rfl ?_, fun c x h₀ hs hx he => completes_done rfl ?_, completes_done rfl ?_⟩
  · exact trainStep_result h₁ h₉ rank.isLt hb
  · rw [List.map_nil, trainDone_of_pass hb h₉]
    refine ⟨?_, ?_, ?_, fun a ha => ?_, fun a => by simp⟩
    · simp [get_put_self, get_put_clear]
    · simp [get_put_self, get_put_clear]
    · have hl := get_lt (s := s) (f := Reg.DDR_TRN_CTRL_STEP (q.val / 4) (q.val % 4))
      simpa [get_put_self] using hl
    · simp at ha
      simp [ha]
  · rw [modeAccess_of_write h]
    refine ⟨by simp, fun a ha => ?_, fun a => by simp⟩
    simp at ha
    simp [reg_writePlain_ne ha]
  · rw [modeAccess_of_read h hm]
    refine ⟨?_, fun a ha => ?_, fun a => by simp⟩
    · simpa [get_put_self] using hv
    · simp at ha
      simp [ha, reg_writePlain_ne ha]
  · obtain ⟨h₁, h₂, h₃, h₄⟩ := trainSeal_result (temp := temp.val) h
    exact ⟨trainTagOk_withQueue.trans h₁, h₂, rdBytes_withQueue.trans h₃, h₄⟩
  · refine ⟨?_, fun a ha => ?_, fun a => by simp⟩
    · simp only [get_withQueue]
      split <;> simp [get_put_self]
    · simp at ha
      simp [ha]
  · exact testStart_result u.isLt h
  · rw [testAbort_of_busy h, progEnd]
    refine ⟨?_, ?_, fun a ha => ?_, fun a => by simp⟩
    · simp [get_put_self, get_put_clear]
    · simp [get_put_self]
    · simp at ha
      simp [ha]
  · exact holdExpire_result h hr
  · exact testDone_result h hr hs
  · obtain ⟨h₁, h₂, h₃, h₄, h₅⟩ := stateEnter_result (s := s.powerTaken 1) (old := 0) (show 1 < 2 by decide)
    rw [show (1 : Fin 4).val = 1 from rfl, powerRequest_idle h rfl hs]
    exact ⟨h₁, h₂.trans powerTaken_req, h₃, h₄, fun a => (h₅ a).trans (powerTaken_sameBut.sameBytes rfl rfl a)⟩
  · obtain ⟨h₁, h₂, h₃, h₄, h₅⟩ := stateEnter_result (s := s.powerTaken 0) (old := 1) (show 0 < 2 by decide)
    rw [show (0 : Fin 4).val = 0 from rfl, powerRequest_active h rfl hs]
    exact ⟨h₁, h₂.trans powerTaken_req, h₃, h₄, fun a => (h₅ a).trans (powerTaken_sameBut.sameBytes rfl rfl a)⟩
  · exact dozeRequest_result h hs he
  · exact offRequest_result h hs he
  · obtain ⟨h₁, h₂, h₃⟩ := wakeTaken_result (s := s) (cycles := c)
    obtain ⟨g₁, g₂, g₃, g₄, g₅⟩ := wakeStart_result (s := s.wakeTaken c)
    rw [List.map_nil, wakeEvent_of_enabled h₀ (.inl hs) hx he]
    exact ⟨g₄.trans h₁, g₁, g₂.trans (by rw [h₂, hs]), g₃.trans (by rw [h₂, hs]; rfl), fun a => (g₅ a).trans (h₃ a)⟩
  · obtain ⟨h₁, h₂, h₃⟩ := wakeTaken_result (s := s) (cycles := c)
    obtain ⟨g₁, g₂, g₃, g₄, g₅⟩ := wakeStart_result (s := s.wakeTaken c)
    rw [List.map_nil, wakeEvent_of_enabled h₀ (.inr hs) hx he]
    exact ⟨g₄.trans h₁, g₁, g₂.trans (by rw [h₂, hs]), g₃.trans (by rw [h₂, hs]; rfl), fun a => (g₅ a).trans (h₃ a)⟩
  · exact ⟨rfl, fun _ _ => reg_congr rfl, fun _ => rd8_congr rfl rfl⟩

end Sys2Proof.Machine.State
end

section
set_option Elab.async false
/-! PROOFS. The commands of a start (R417, R591 to R594, R634, R635, R764, R765). -/

namespace Sys2Proof.Machine.State

variable {s : State}

/-! The rails (R634, R635). -/

theorem railsBegin_of_some {l : List Nat} {q : Nat} (h : (l.find? fun r => r ∉ s.power.enabled) = some q) :
    s.railsBegin l = (s.railRise q).onStart fun x => { x with stage := 1 } := by rw [railsBegin, h]

theorem railsBegin_of_none {l : List Nat} (h : (l.find? fun r => r ∉ s.power.enabled) = none) :
    s.railsBegin l = s.onStart fun x => { x with stage := 2, pgAt := s.now, rail := none } := by rw [railsBegin, h]

/-- The rail that a start begins with. -/
theorem riseOrder_first (h : s.power.enabled = []) : (riseOrder.find? fun r => r ∉ s.power.enabled) = some 6 := by
  simp [h]

theorem coldStart_of_off {f : Fuses} {xtal testen : Bool} {ddr : Word} (h₀ : s.start.stage = 0) (he : s.power.enabled = [])
    (ho : s.power.off = []) (hv : s.power.vaon = false) : s.coldStart f xtal testen ddr =
    ((((s.onPower fun p => { p with vaon := true, goal := none }).put Reg.PWR_AON_STAT_XTAL_OK (if xtal then 1 else 0)).onStart
      fun x => { x with kind := 0, tries := 0, fuses := f, ddr := ddr, xtal := xtal, testen := testen }).railRise 6).onStart
      fun x => { x with stage := 1 } := by
  have hgo : ¬(s.start.stage ≠ 0 ∨ (!s.power.enabled.isEmpty) = true ∨ (!s.power.off.isEmpty) = true ∨
      (s.power.vaon = true ∧ s.get Reg.PWR_STATUS_STATE = 3)) := by simp [h₀, he, ho, hv]
  rw [coldStart, if_neg hgo]
  exact railsBegin_of_some (riseOrder_first he)

theorem railGood_of_awaited {r : Nat} (he : s.power.enabled.contains r = true) (hr : s.start.rail = some r) :
    s.railGood r = (s.put (Reg.PWR_RAIL_STAT_PG r) 1).railsBegin (if s.start.kind = 3 then [0, 1] else riseOrder) := by
  have hmem : ¬r ∉ s.power.enabled := not_not.2 (List.contains_iff_mem.1 he)
  rw [railGood, if_neg hmem]
  exact if_neg (not_not.2 hr)

theorem sequenceRetry_of_due (h₀ : s.start.stage = 0) (ht : 0 < s.start.tries) (ht' : s.start.tries < 3)
    (ho : s.power.off = []) : s.sequenceRetry =
      (s.reach (s.now + 200000000)).railsBegin (if s.start.kind = 3 then [0, 1] else riseOrder) :=
  if_pos ⟨h₀, ht, ht', by rw [ho]; rfl⟩

/-- What the next rail of a sequence leaves. -/
theorem railsBegin_next {l : List Nat} {q : Nat} (h : (l.find? fun r => r ∉ s.power.enabled) = some q) :
    let t := s.railsBegin l
    t.start.rail = some q ∧ t.start.stage = 1 ∧ t.power.enabled = s.power.enabled ++ [q] ∧ t.regs = s.regs ∧ s.sameBytes t := by
  rw [railsBegin_of_some h]
  exact ⟨rfl, rfl, rfl, rfl, fun _ => rd8_congr rfl rfl⟩

/-- A rail that misses its time, before the rails that are on fall (R635). -/
def railFailed (s : State) (r : Nat) : State :=
  let s := s.put Reg.PWR_SEQ_STAT_RAIL r
  let tries := s.start.tries + 1
  let s := s.onStart fun x => { x with rail := none, stage := 0, tries := tries }
  let s := s.onPower fun p => { p with enabled := p.enabled.filter (· != r) }
  let s := s.onPower fun p => { p with off := fallOrder.filter fun q => q ∈ p.enabled }
  if 3 ≤ tries then ((s.put Reg.PWR_SEQ_STAT_FAIL 1).put Reg.PWR_STATUS_STATE 3).onPower fun p => { p with goal := none } else s

theorem railMissed_of_awaited {r : Nat} (hr : s.start.rail = some r) : s.railMissed r = (s.railFailed r).fallNext :=
  if_neg (not_not.2 hr)

theorem railFailed_result {r : Nat} (hr : r < 8) :
    let t := s.railFailed r
    t.get Reg.PWR_SEQ_STAT_RAIL = r ∧ t.start.tries = s.start.tries + 1 ∧ t.start.stage = 0 ∧ t.start.rail = none ∧
      r ∉ t.power.enabled ∧ (2 ≤ s.start.tries → t.get Reg.PWR_SEQ_STAT_FAIL = 1 ∧ t.get Reg.PWR_STATUS_STATE = 3) ∧
      s.sameBytes t := by
  rw [railFailed]
  split
  · refine ⟨?_, ?_, ?_, ?_, ?_, fun _ => ⟨?_, ?_⟩, fun a => ?_⟩ <;>
      simp [get_put_self, get_put_clear, get_put_addr, Reg.PWR_SEQ_STAT, Reg.PWR_STATUS]
    exact hr
  · refine ⟨?_, ?_, ?_, ?_, ?_, fun h => ?_, fun a => ?_⟩
    · simpa [get_put_self] using hr
    · simp
    · simp
    · simp
    · simp
    · next hn => exact absurd (show 3 ≤ s.start.tries + 1 by omega) hn
    · simp

theorem fallNext_enabled {r : Nat} (h : r ∉ s.power.enabled) : r ∉ s.fallNext.power.enabled := by
  unfold fallNext
  split
  · exact h
  · intro hm
    exact h (List.mem_of_mem_filter hm)

theorem fallNext_sameBut' : SameBut [Part.power] s s.fallNext := fallNext_sameBut (by decide) .refl

/-! The end of the clear (R417). -/

/-- The clear is recorded. -/
def clearTold (s : State) (us : Nat) : State :=
  let s := if s.start.stage = 2 then s.reach (s.start.pgAt + 200 * us) else s
  ((s.put Reg.SEC_CLEAR_STAT_DONE 1).put Reg.SEC_CLEAR_STAT_US us).log .sec 0 0x2301 srcDevice

theorem clearTold_start {us : Nat} : (s.clearTold us).start = s.start := by
  rw [clearTold]
  split <;> simp

theorem clearDone_of_other {us : Nat} (h : s.start.stage ≠ 2) : s.clearDone us = s.clearTold us :=
  if_pos (by rw [← clearTold, clearTold_start]; exact h)

theorem clearDone_of_doze {us : Nat} (h : s.start.stage = 2) (hk : s.start.kind = 3) :
    s.clearDone us = (s.clearTold us).bootDoze := by
  have h' : ¬(s.clearTold us).start.stage ≠ 2 := by rw [clearTold_start]; exact not_not.2 h
  have hk' : (s.clearTold us).start.kind = 3 := by rw [clearTold_start]; exact hk
  exact (if_neg h').trans (if_pos hk')

theorem bootDoze_result : s.bootDoze.start.stage = 4 ∧ s.bootDoze.obj 0x2200 1 = 3 := by
  rw [bootDoze]
  exact ⟨rfl, by simp⟩

/-! The self-test (R594). -/

/-- A cleared register stays clear where a register is cleared, and so does a clear field. -/
theorem reg_setReg_zero {a b : Nat} (h : s.reg b = 0) : (s.setReg a 0).reg b = 0 := by
  rw [reg_setReg]
  split
  · rfl
  · exact h

theorem get_setReg_zero {f : RF} {a : Nat} (h : s.get f = 0) : (s.setReg a 0).get f = 0 := by
  rw [get, reg_setReg]
  split
  · simp [getF]
  · exact h

/-- The loops that clear the results of the self-test. -/
def testsClear (s : State) : State :=
  let s := (List.range 1152).foldl (fun s t => s.setReg (Reg.FLT_BIST_STAT t) 0) s
  (List.range 72).foldl (fun s p => (s.setReg (Reg.POD_BIST_STAT p) 0).setReg (Reg.POD_BIST_BANKS p) 0) s

theorem testsClear_keeps {P : State → Prop} (hP : ∀ x a, P x → P (x.setReg a 0)) (h : P s) : P s.testsClear := by
  unfold testsClear
  extract_lets x
  have hx : P x := keeps_foldl _ h fun y hy n => hP y (Reg.FLT_BIST_STAT n) hy
  exact keeps_foldl _ hx fun y hy n => hP _ (Reg.POD_BIST_BANKS n) (hP y (Reg.POD_BIST_STAT n) hy)

theorem testsClear_tile {n : Nat} (hn : n < 1152) : s.testsClear.reg (Reg.FLT_BIST_STAT n) = 0 := by
  unfold testsClear
  extract_lets x
  have hx : x.reg (Reg.FLT_BIST_STAT n) = 0 :=
    foldl_reaches (P := fun _ => True) (Q := fun x => x.reg (Reg.FLT_BIST_STAT n) = 0) (List.mem_range.2 hn) trivial
      (fun _ _ _ _ => trivial) (fun x _ => by rw [reg_setReg, if_pos rfl]) fun x m hx => reg_setReg_zero hx
  exact keeps_foldl (P := fun x => x.reg (Reg.FLT_BIST_STAT n) = 0) _ hx fun x hx p => reg_setReg_zero (reg_setReg_zero hx)

theorem testsClear_pod {n a : Nat} (hn : n < 72) (ha : a = Reg.POD_BIST_STAT n ∨ a = Reg.POD_BIST_BANKS n) :
    s.testsClear.reg a = 0 := by
  refine foldl_reaches (P := fun _ => True) (Q := fun x => x.reg a = 0) (List.mem_range.2 hn) trivial (fun _ _ _ _ => trivial)
    (fun x _ => ?_) fun x m hx => reg_setReg_zero (reg_setReg_zero hx)
  rcases ha with rfl | rfl
  · exact reg_setReg_zero (by rw [reg_setReg, if_pos rfl])
  · rw [reg_setReg, if_pos rfl]

theorem bistStart_eq : s.bistStart = (((s.onStart fun x => { x with bist := true }).put Reg.FLT_BIST_CTRL_DONE 0).put
    Reg.FLT_BIST_CTRL_FAILED 0).testsClear := rfl

theorem bistStart_result : s.bistStart.start.bist = true ∧ s.bistStart.get Reg.FLT_BIST_CTRL_DONE = 0 ∧
    s.bistStart.get Reg.FLT_BIST_CTRL_FAILED = 0 ∧ s.sameBytes s.bistStart := by
  rw [bistStart_eq]
  refine ⟨testsClear_keeps (P := fun x => x.start.bist = true) (fun x a h => h) ?_,
    testsClear_keeps (P := fun x => x.get Reg.FLT_BIST_CTRL_DONE = 0) (fun x a h => get_setReg_zero h) ?_,
    testsClear_keeps (P := fun x => x.get Reg.FLT_BIST_CTRL_FAILED = 0) (fun x a h => get_setReg_zero h) ?_,
    fun a => testsClear_keeps (P := fun x => x.rd8 a = s.rd8 a) (fun x b h => h) ?_⟩ <;>
    simp [get_put_self, get_put_clear]

theorem bistStart_tile {n : Nat} (hn : n < 1152) : s.bistStart.reg (Reg.FLT_BIST_STAT n) = 0 := by
  rw [bistStart_eq, testsClear_tile hn]

theorem bistStart_pod {n a : Nat} (hn : n < 72) (ha : a = Reg.POD_BIST_STAT n ∨ a = Reg.POD_BIST_BANKS n) :
    s.bistStart.reg a = 0 := by
  rw [bistStart_eq, testsClear_pod hn ha]

/-! A failed link of the scheduled mesh, while no copy runs (R322). -/

/-- What a failed link keeps: there is no copy, and memory is as it was. -/
def linksOnly (s₀ s : State) : Prop := SameBut [Part.regs, .events, .streams] s₀ s ∧ s.streams.copies = []

theorem scmDown_linksOnly {s₀ : State} {r p : Nat} (h : linksOnly s₀ s) : linksOnly s₀ (s.scmDown r p) := by
  obtain ⟨hs, hc⟩ := h
  have hput : ∀ v, linksOnly s₀ (s.put (Reg.SCM_STATUS_LINK_UP r) v) := fun v =>
    ⟨put_sameBut (by decide) hs, by rw [put_streams, hc]⟩
  have hlog : ∀ x, linksOnly s₀ x → linksOnly s₀ (x.log .scm r 0x3206 r r p) := fun x hx =>
    ⟨log_sameBut (by decide) hx.1, by rw [log_streams, hx.2]⟩
  rw [scmDown, hc, List.filter_nil, List.foldl_nil]
  generalize s.get (Reg.SCM_STATUS_LINK_UP r) - _ = v
  have hdown : linksOnly s₀ (match linkOut r p with
      | some k => (s.put (Reg.SCM_STATUS_LINK_UP r) v).onStreams fun m => { m with links := m.links.put k [] }
      | none => s.put (Reg.SCM_STATUS_LINK_UP r) v) := by
    split
    · exact ⟨onStreams_sameBut (by decide) (hput v).1, (hput v).2⟩
    · exact hput v
  exact keeps_ite (P := linksOnly s₀) (hlog _ hdown) hdown

theorem scmLinkFail_linksOnly {s₀ : State} {r p : Nat} (h : linksOnly s₀ s) : linksOnly s₀ (s.scmLinkFail r p) := by
  unfold scmLinkFail
  dsimp only
  split
  · exact scmDown_linksOnly (scmDown_linksOnly h)
  · exact scmDown_linksOnly h

theorem linkOff_linksOnly {s₀ : State} {r p : Nat} (h : linksOnly s₀ s) : linksOnly s₀ (s.linkOff r p) := by
  have hs : (s.linkOff r p).streams = s.streams :=
    (linkOff_sameBut (F := [Part.regs]) (by decide) .refl).eq (f := State.streams) fun _ => rfl
  exact ⟨linkOff_sameBut (by decide) h.1, by rw [hs, h.2]⟩

/-- The results of one tile (R594). -/
def tileMarked (s : State) (x : Nat × Nat × Nat) : State :=
  let s := (s.put (Reg.FLT_BIST_STAT_ITEMS x.1) x.2.1).put (Reg.FLT_BIST_STAT_LINKS x.1) x.2.2
  let s := if x.2.1 = 0 then s else s.put (Reg.FLT_BIST_STAT_PASS x.1) 0
  let failed := fun p => bits x.2.2 p 1 = 1
  let port := bits x.2.1 3 1 = 1
  let s := ((List.range 4).filter fun p => 16 ≤ x.2.1 || (failed p && !port)).foldl (fun s p => s.linkOff x.1 p) s
  if port then ((List.range 4).filter fun p => failed p).foldl (fun s p => s.scmLinkFail x.1 p) s else s

/-- The results of every tile and pod (R594). -/
def testsMarked (s : State) (tiles : List (Nat × Nat × Nat)) (pods : List (Nat × Nat)) : State :=
  let s := (List.range 1152).foldl (fun s t => s.setReg (Reg.FLT_BIST_STAT t) 3) s
  let s := (List.range 72).foldl (fun s p => s.setReg (Reg.POD_BIST_STAT p) 3) s
  let s := tiles.foldl tileMarked s
  pods.foldl (fun (s : State) x => if x.2 = 0 then s else
    (s.put (Reg.POD_BIST_BANKS_FAIL x.1) x.2).put (Reg.POD_BIST_STAT_PASS x.1) 0) s

/-- The self-test is over, and the SRAMs that it covers are zero (log entry 45). -/
def testsEmptied (s : State) : State :=
  { s.onStart fun x => { x with bist := false } with mem := s.mem.filter fun x => !(0x100000000 ≤ x.1 && x.1 < 0x184800000) }

theorem tileMarked_linksOnly {s₀ : State} {x : Nat × Nat × Nat} (h : linksOnly s₀ s) : linksOnly s₀ (s.tileMarked x) := by
  have hput : ∀ y f v, linksOnly s₀ y → linksOnly s₀ (y.put f v) := fun y f v hy => ⟨put_sameBut (by decide) hy.1, hy.2⟩
  unfold tileMarked
  refine keeps_ite (P := linksOnly s₀) (keeps_foldl _ ?_ fun y hy p => scmLinkFail_linksOnly hy) ?_ <;>
    exact keeps_foldl _ (keeps_ite (hput _ _ _ (hput _ _ _ h)) (hput _ _ _ (hput _ _ _ (hput _ _ _ h))))
      fun y hy p => linkOff_linksOnly hy

/-- The marks of the results change the registers, what hangs on failed links, and never the start. -/
theorem testsMarked_keeps {P : State → Prop} {tiles : List (Nat × Nat × Nat)} {pods : List (Nat × Nat)}
    (hr : ∀ x a w, P x → P (x.setReg a w)) (ht : ∀ x y, P x → P (x.tileMarked y)) (h : P s) : P (s.testsMarked tiles pods) := by
  unfold testsMarked
  extract_lets x y z
  have hx : P x := keeps_foldl _ h fun u hu n => hr _ _ _ hu
  have hy : P y := keeps_foldl _ hx fun u hu n => hr _ _ _ hu
  have hz : P z := keeps_foldl _ hy fun u hu n => ht _ _ hu
  exact keeps_foldl _ hz fun u hu n => keeps_ite hu (hr _ _ _ (hr _ _ _ hu))

theorem tileMarked_start {x : Nat × Nat × Nat} : (s.tileMarked x).start = s.start := by
  have hput : ∀ (y : State) f v, y.start = s.start → (y.put f v).start = s.start := fun y f v hy => by rw [put_start, hy]
  have hoff : ∀ y : State, y.start = s.start → ∀ l : List Nat, (l.foldl (fun s p => s.linkOff x.1 p) y).start = s.start :=
    fun y hy l => keeps_foldl (P := fun y => y.start = s.start) l hy fun z hz p =>
      ((linkOff_sameBut (F := [Part.regs]) (by decide) .refl).eq (f := State.start) fun _ => rfl).trans hz
  have hfail : ∀ y : State, y.start = s.start → ∀ l : List Nat, (l.foldl (fun s p => s.scmLinkFail x.1 p) y).start = s.start :=
    fun y hy l => keeps_foldl (P := fun y => y.start = s.start) l hy fun z hz p =>
      ((scmLinkFail_sameBut (F := [Part.regs, .mem, .events, .objs, .fault, .delivery, .streams, .sent, .fw]) (by decide)
        .refl).eq (f := State.start) fun _ => rfl).trans hz
  have hpass : (if x.2.1 = 0 then (s.put (Reg.FLT_BIST_STAT_ITEMS x.1) x.2.1).put (Reg.FLT_BIST_STAT_LINKS x.1) x.2.2
      else ((s.put (Reg.FLT_BIST_STAT_ITEMS x.1) x.2.1).put (Reg.FLT_BIST_STAT_LINKS x.1) x.2.2).put
        (Reg.FLT_BIST_STAT_PASS x.1) 0).start = s.start :=
    keeps_ite (P := fun y : State => y.start = s.start) (put_start.trans put_start) (put_start.trans (put_start.trans put_start))
  unfold tileMarked
  dsimp only
  split
  · exact hfail _ (hoff _ hpass _) _
  · exact hoff _ hpass _

/-- The end of the self-test, before what follows it. -/
def testsTold (s : State) (tiles : List (Nat × Nat × Nat)) (pods : List (Nat × Nat)) : State :=
  let x := s.testsEmptied.testsMarked tiles pods
  let failed := ((List.range 1152).filter fun t => x.get (Reg.FLT_BIST_STAT_ITEMS t) ≠ 0).length
  (x.put Reg.FLT_BIST_CTRL_DONE 1).put Reg.FLT_BIST_CTRL_FAILED failed

theorem testsTold_start {tiles : List (Nat × Nat × Nat)} {pods : List (Nat × Nat)} :
    (s.testsTold tiles pods).start = { s.start with bist := false } := by
  rw [testsTold, put_start, put_start]
  exact testsMarked_keeps (P := fun x => x.start = { s.start with bist := false }) (fun x a w h => h)
    (fun x y h => tileMarked_start.trans h) rfl

theorem bistDone_of_running {tiles : List (Nat × Nat × Nat)} {pods : List (Nat × Nat)} (h : s.start.bist = true)
    (h₃ : s.start.stage ≠ 3) : s.bistDone tiles pods = s.testsTold tiles pods := by
  have hgo : ¬(!s.start.bist) = true := by simp [h]
  have hend : ¬(s.testsTold tiles pods).start.stage = 3 := by rw [testsTold_start]; exact h₃
  exact (if_neg hgo).trans (if_neg hend)

/-- What the self-test leaves in memory, where no copy is cut by a failed link (log entry 45). -/
theorem testsTold_rd8 {tiles : List (Nat × Nat × Nat)} {pods : List (Nat × Nat)} (hc : s.streams.copies = []) {a : Nat} :
    (s.testsTold tiles pods).rd8 a = s.testsEmptied.rd8 a := by
  have h : linksOnly s.testsEmptied (s.testsEmptied.testsMarked tiles pods) :=
    testsMarked_keeps (fun x a w h => ⟨setReg_sameBut (by decide) h.1, h.2⟩) (fun x y h => tileMarked_linksOnly h) ⟨.refl, hc⟩
  rw [testsTold, rd8_put, rd8_put]
  exact h.1.sameBytes rfl rfl a

theorem testsEmptied_rd8 {a : Nat} : s.testsEmptied.rd8 a =
    (if 0x100000000 ≤ a ∧ a < 0x184800000 then 0 else Sparse.find 0 s.mem a) ^^^ s.veil a := by
  have hv : s.testsEmptied.veil a = s.veil a := rfl
  have hm : s.testsEmptied.mem = s.mem.filter fun x => !(decide (0x100000000 ≤ x.1) && decide (x.1 < 0x184800000)) := rfl
  rw [rd8, hv, hm, Sparse.find_filter (p := fun a => !(decide (0x100000000 ≤ a) && decide (a < 0x184800000)))]
  by_cases h : 0x100000000 ≤ a ∧ a < 0x184800000 <;> simp [h]

theorem veil_eq_zero {a : Nat} (h : ∀ x ∈ s.memories.lost, 0x184800000 ≤ x.1) (ha : a < 0x184800000) : s.veil a = 0 := by
  have hn : s.memories.lost.find? (fun l => decide (l.1 ≤ a) && decide (a < 0x9000000000)) = none :=
    List.find?_eq_none.2 fun x hx => by
      have := h x hx
      simp
      omega
  rw [veil, hn]

/-- PORST_N: all that is left is the order in which the rails fall, and what outlives a loss of VAON (R764). -/
theorem porst_result : s.porst.power.vaon = false ∧ s.porst.start.stage = 0 ∧ s.porst.start.rail = none ∧
    s.porst.sec.keys = [] ∧ s.porst.sec.sealed = s.sec.sealed ∧ s.porst.sec.mark = s.sec.mark ∧ s.porst.events = [] ∧
    s.porst.nmt = State.reset.nmt := by
  have hv : ∀ x : State, x.fallNext.power.vaon = x.power.vaon := fun x => by
    unfold fallNext
    split <;> rfl
  have hf : ∀ {α : Type} (g : State → α) (x : State), (∀ y, g (y.outside [Part.power]) = g y) → g x.fallNext = g x :=
    fun g x hg => fallNext_sameBut'.eq (f := g) hg
  unfold porst
  extract_lets on
  rw [hv, hf State.start _ fun _ => rfl, hf State.sec _ fun _ => rfl, hf State.events _ fun _ => rfl,
    hf State.nmt _ fun _ => rfl]
  exact ⟨rfl, rfl, rfl, rfl, rfl, rfl, rfl, rfl⟩

/-- Settles O29, by the cases of the start's operations that its hypotheses single out. -/
theorem bringupCommandsComplete : Obligations.BringupCommandsComplete := by
  unfold Obligations.BringupCommandsComplete
  intro s
  refine ⟨fun f xtal testen ddr h₀ he ho hv => completes_done rfl ?_, fun us h => completes_done rfl ?_,
    fun us h hk => completes_done rfl ?_, fun r q he hr hq => completes_done rfl ?_, fun r he hr hq => completes_done rfl ?_,
    fun r hr => completes_done rfl ?_, fun q h₀ ht ht' ho hq => completes_done rfl ?_, completes_done rfl ?_,
    fun tiles pods hb h₃ => completes_done rfl ?_, completes_done rfl ?_, completes_done rfl ?_⟩
  · rw [coldStart_of_off h₀ he ho hv]
    refine ⟨rfl, rfl, rfl, ?_, rfl, rfl, ?_, fun a ha => ?_, fun a => ?_⟩
    · simp [railRise, he]
    · simp only [get_withQueue, get_onStart, railRise, get_onPower]
      rw [get_put_self (by decide)]
      split <;> rfl
    · simp at ha
      simp [railRise, ha]
    · simp [railRise]
  · rw [clearDone_of_other h]
    have hus : us.val < 512 := by omega
    simp only [clearTold, if_neg h]
    refine ⟨?_, ?_, fun a => by simp⟩
    · rw [get_withQueue, get_log (by decide), get_put_clear (by decide), get_put_self (by decide)]
      decide
    · rw [get_withQueue, get_log (by decide), get_put_self (by decide)]
      exact Nat.mod_eq_of_lt hus
  · rw [clearDone_of_doze h hk]
    exact bootDoze_result
  · rw [railGood_of_awaited he hr]
    obtain ⟨h₁, h₂, h₃, h₄, h₅⟩ := railsBegin_next (s := s.put (Reg.PWR_RAIL_STAT_PG r.val) 1) hq
    refine ⟨?_, h₁, h₂, h₃, fun a ha => ?_, fun a => (h₅ a).trans (by simp)⟩
    · rw [get_withQueue, get_congr h₄]
      simp [get_put_self]
    · simp at ha
      rw [reg_withQueue, reg_congr h₄]
      simp [ha]
  · rw [railGood_of_awaited he hr, railsBegin_of_none (s := s.put (Reg.PWR_RAIL_STAT_PG r.val) 1) hq]
    refine ⟨?_, rfl, rfl, ?_, fun a ha => ?_, fun a => by simp⟩
    · simp [get_put_self]
    · have htb : Reg.PWR_RAIL_STAT r.val ≠ Reg.TB_COUNT_LO := by simp only [Reg.PWR_RAIL_STAT, Reg.TB_COUNT_LO]; omega
      have htb' : Reg.PWR_RAIL_STAT r.val ≠ Reg.TB_COUNT_LO + 4 := by simp only [Reg.PWR_RAIL_STAT, Reg.TB_COUNT_LO]; omega
      exact now_put (f := Reg.PWR_RAIL_STAT_PG r.val) htb htb'
    · simp at ha
      simp [ha]
  · rw [railMissed_of_awaited hr]
    obtain ⟨h₁, h₂, h₃, h₄, h₅, h₆, h₇⟩ := railFailed_result (s := s) (r := r.val) (by omega)
    have hn := fallNext_sameBut' (s := s.railFailed r.val)
    have hs : (s.railFailed r.val).fallNext.start = (s.railFailed r.val).start := hn.eq (f := State.start) fun _ => rfl
    have hg : ∀ f, (s.railFailed r.val).fallNext.get f = (s.railFailed r.val).get f := fun f => get_congr (hn.regs rfl)
    simp only [get_withQueue, withQueue_start, withQueue_power, hs, hg]
    exact ⟨h₁, h₂, h₃, h₄, fallNext_enabled h₅, h₆, fun a => (hn.sameBytes rfl rfl a).trans (h₇ a)⟩
  · rw [sequenceRetry_of_due h₀ ht ht' ho]
    obtain ⟨h₁, h₂, h₃, h₄, h₅⟩ := railsBegin_next (s := s.reach (s.now + 200000000)) (by rw [reach_power]; exact hq)
    refine ⟨h₁, h₂, h₃.trans (by rw [reach_power]), fun a ha => ?_, fun a => (h₅ a).trans rd8_reach⟩
    simp at ha
    rw [reg_withQueue, reg_congr h₄, reg_reach_addr ha.1 ha.2]
  · obtain ⟨h₁, h₂, h₃, h₄⟩ := bistStart_result (s := s)
    refine ⟨?_, ?_, ?_, fun n hn => ?_, fun n hn => ⟨?_, ?_⟩, fun a => ?_⟩
    · rw [withQueue_start, h₁]
    · rw [get_withQueue, h₂]
    · rw [get_withQueue, h₃]
    · rw [reg_withQueue, bistStart_tile hn]
    · rw [reg_withQueue, bistStart_pod hn (.inl rfl)]
    · rw [reg_withQueue, bistStart_pod hn (.inr rfl)]
    · rw [rd8_withQueue, h₄]
  · rw [bistDone_of_running hb h₃]
    refine ⟨?_, ?_, fun hc => ⟨fun hl a ha ha' => ?_, fun a ha => ?_⟩⟩
    · rw [withQueue_start, testsTold_start]
    · rw [get_withQueue, testsTold, get_put_clear (by decide), get_put_self (by decide)]
      decide
    · rw [rd8_withQueue, testsTold_rd8 hc, testsEmptied_rd8, if_pos ⟨ha, ha'⟩, veil_eq_zero hl ha']
      rfl
    · rw [rd8_withQueue, testsTold_rd8 hc, testsEmptied_rd8, if_neg (by omega), rd8]
  · obtain ⟨h₁, h₂, h₃, h₄, h₅, h₆, h₇, h₈⟩ := porst_result (s := s)
    exact ⟨h₁, h₂, h₃, h₄, h₅, h₆, h₇, h₈⟩
  · refine ⟨fun a ha => ?_, ?_, rfl, rfl, rfl, rfl, fun a ha => ?_⟩
    · rw [reg_withQueue, reg_powerLoss, if_neg (by simpa [keptReg] using ha)]
    · rw [reg_withQueue, reg_powerLoss, if_pos (by simp [keptReg])]
    · rw [rd8_withQueue, rd8_powerLoss, if_neg (by omega)]

end Sys2Proof.Machine.State
end

section
set_option Elab.async false
/-! PROOFS. The authorised-write path and the lifecycle (R543 to R546). -/

namespace Sys2Proof.Machine.State

variable {s : State}

/-! An audit entry, as its callers see it. -/

theorem audit_sameBut' {kind slot role obj status old new : Nat} :
    SameBut [Part.regs, .mem, .events, .objs, .sec, .fw] s (s.audit kind slot role obj status old new) :=
  audit_sameBut (by decide) .refl

theorem audit_regsBut' {kind slot role obj status old new : Nat} : RegsBut auditRegs s (s.audit kind slot role obj status old new) :=
  audit_regsBut (fun _ h => h) .refl

theorem audit_of_wiping {kind slot role obj status old new : Nat} (h : s.wiping = true) :
    s.audit kind slot role obj status old new = s := if_pos h

/-- An entry that is written is counted (R547). -/
theorem audit_appended {kind slot role obj status old new : Nat} (h : s.wiping = false) :
    (s.audit kind slot role obj status old new).sec.appended = s.sec.appended + 1 := by
  unfold audit
  rw [if_neg (by simp [h])]
  rfl

/-! The authorised write (R543). -/

/-- The registers that are written when an authorised write is answered have no field that it writes. -/
theorem authFields_of_kept {a : Nat} (h : auditRegs a ∨ a = Reg.SEC_AUTH_GO) : authFields a = [] := by
  rcases h with (h | h | h | (h | h | h) | h) | h <;> rw [h] <;> decide +kernel

theorem authOk_touchSlot {n a b : Nat} {w : Word} : ((s.touchSlot n).setReg a w).authOk b = (s.setReg a w).authOk b := rfl

theorem authAfter_of_plain {old : State} {a : Nat} (hc : channelOf a = none) (hp : pinOf a = none) (hd : driftOf a = none)
    (hg : a ≠ Reg.EGR_CTRL) : s.authAfter old a = s := by
  rw [authAfter, hc, hp, hd]
  exact if_neg hg

/-- A write through the path that stands, of a register that nothing else hangs on (R543, R544). -/
theorem authPut_of_plain {slot a : Nat} {w : Word} (hw : s.wiping = false) (hf : (authFields a).isEmpty = false)
    (hr : s.authRole a w.toNat ≤ s.slotRole slot) (hc : channelOf a = none) (hp : pinOf a = none) (hd : driftOf a = none)
    (ha : a ∉ [Reg.EGR_CTRL, Reg.SEC_HUSK_WIPE, Reg.DBG_INJ_CTRL]) (hok : (s.setReg a (authWord a (s.reg a) w)).authOk a = true) :
    ∃ kind role obj status old new, s.authPut slot a w =
      ((s.setReg a (authWord a (s.reg a) w)).audit kind slot role obj status old new, .ok) := by
  simp only [List.mem_cons, List.not_mem_nil, or_false, not_or] at ha
  obtain ⟨hg, hh, hi⟩ := ha
  have hgo : ¬((authFields a).isEmpty || decide (s.slotRole slot < s.authRole a w.toNat)) = true := by simp [hf]; omega
  rw [authPut, if_neg (by simp [hw]), if_neg hgo]
  simp only [hok, Bool.not_true, Bool.false_eq_true, if_false, hh, hi, authAfter_of_plain hc hp hd hg]
  exact ⟨_, _, _, _, _, _, rfl⟩

/-- What the path leaves once the write and its entry stand (R543). -/
theorem authGo_result {slot a : Nat} (ha : a = s.get64 Reg.SEC_AUTH_ADDR_LO % 2 ^ 40) (hs : slot < 8) (hw : s.wiping = false)
    (hf : (authFields a).isEmpty = false) (hr : s.authRole a (s.reg Reg.SEC_AUTH_DATA).toNat ≤ s.slotRole slot)
    (hc : channelOf a = none) (hp : pinOf a = none) (hd : driftOf a = none)
    (hn : a ∉ [Reg.EGR_CTRL, Reg.SEC_HUSK_WIPE, Reg.DBG_INJ_CTRL])
    (hok : (s.setReg a (authWord a (s.reg a) (s.reg Reg.SEC_AUTH_DATA))).authOk a = true) :
    let t := s.authGo slot
    t.reg a = authWord a (s.reg a) (s.reg Reg.SEC_AUTH_DATA) ∧ t.get Reg.SEC_AUTH_GO_STATUS = 0 ∧
      t.get Reg.SEC_AUTH_GO_SLOT = slot ∧ t.sec.appended = s.sec.appended + 1 := by
  have hk : ¬(auditRegs a ∨ a = Reg.SEC_AUTH_GO) := fun h => by rw [authFields_of_kept h] at hf; cases hf
  obtain ⟨hk, hg⟩ := not_or.1 hk
  have hh : Reg.SEC_HUSK_STAT ≠ a := fun e => hk (.inr (.inr (.inl e.symm)))
  obtain ⟨kind, role, obj, status, old, new, hput⟩ := authPut_of_plain (s := s.touchSlot slot) hw hf hr hc hp hd hn
    (authOk_touchSlot.trans hok)
  have hw' : ((s.touchSlot slot).setReg a (authWord a (s.reg a) (s.reg Reg.SEC_AUTH_DATA))).wiping = false :=
    (flag_congr (get_setReg_addr (f := Reg.SEC_HUSK_STAT_WIPING) hh)).trans hw
  rw [authGo, ← ha, hput]
  refine ⟨?_, ?_, ?_, ?_⟩
  · rw [reg_put_of_ne hg, reg_put_of_ne hg, audit_regsBut' a hk, reg_setReg, if_pos rfl]
    rfl
  · rw [get_put_self (by decide)]
    rfl
  · rw [get_put_clear (by decide), get_put_self (by decide)]
    exact Nat.mod_eq_of_lt hs
  · rw [put_sec, put_sec]
    exact audit_appended hw'

/-! A wipe leaves the lifecycle record, and nothing that waits (R414, R546). -/

theorem wipeErased_lifecycle {cause : Nat} : RegsBut (· ≠ Reg.SEC_LC) s (s.wipeErased cause) := by
  have hd : ∀ w, huskDefault Reg.SEC_LC w = w := huskDefault_of_plain (by decide +kernel)
  unfold wipeErased
  refine setReg_regsBut (by decide) (setReg_regsBut (by decide) (keeps_foldl _ ?_ fun x hx d =>
    driftClose_regsBut ?_ (by decide) hx))
  · refine huskDefaults_regsBut (fun a ha w => not_not.1 ha ▸ hd w) ?_
    exact RegsBut.congr (log_regsBut (by decide) (put64_regsBut (by decide) (by decide) (count_regsBut (by decide) .refl))) rfl
  · simp only [Reg.DE_PL_STATUS, podBase, Reg.SEC_LC]
    omega

theorem wipeBegun_lifecycle {cause : Nat} : RegsBut (· ≠ Reg.SEC_LC) s (s.wipeBegun cause) := by
  have hs : RegsBut (· ≠ Reg.SEC_LC) s s.endSessions := by
    unfold endSessions
    refine keeps_foldl_mem _ .refl fun x hx n hn => endSession_regsBut (fun a ha => ?_) ?_ hx
    · rintro rfl
      simp [auditRegs, writeRegs, injectRegs, Reg.SEC_LC, Reg.SEC_AUDIT_STAT, Reg.SEC_AUDIT_HEAD, Reg.SEC_HUSK_STAT,
        Reg.SEC_SIG_STAT, Reg.FLT_LOG_LOST, Reg.DBG_INJ_STAT, Reg.DBG_INJ_DONE] at ha
    · have := List.mem_range.1 hn
      simp only [Reg.SEC_SESS, Reg.SEC_LC]
      omega
  exact put_regsBut (by decide) (put_regsBut (by decide) (put_regsBut (by decide) (put_regsBut (by decide)
    (put_regsBut (by decide) hs))))

theorem wipeStart_lifecycle {cause : Nat} : (s.wipeStart cause).reg Reg.SEC_LC = s.reg Reg.SEC_LC := by
  have hg : ∀ a, guardRegs a → a ≠ Reg.SEC_LC := by
    rintro a ha rfl
    simp [guardRegs, sinkRegs, inCan, writeRegs, injectRegs, Reg.EGR_GPO_STAT, Reg.EGR_HOST_PTR, Reg.EGR_HOST_DROP,
      Reg.HOST_IRQ_STAT, Reg.DBG_INJ_STAT, Reg.DBG_INJ_DONE, Reg.FLT_LOG_LOST, Reg.SEC_SIG_STAT, Reg.SEC_LC] at ha
    omega
  have hc : RegsBut (· ≠ Reg.SEC_LC) s ((((s.wipeBegun cause).wipeErased cause).put Reg.SEC_HUSK_STAT_SEAL_PEND 0).put
      Reg.SEC_HUSK_STAT_VALID 0) :=
    put_regsBut (by decide) (put_regsBut (by decide) (wipeBegun_lifecycle.trans wipeErased_lifecycle))
  have h : RegsBut (· ≠ Reg.SEC_LC) s (s.wipeStart cause) := by
    rw [wipeStart_eq]
    exact guardScan_regsBut hg (hc.congr rfl)
  exact h _ (not_not.2 rfl)

/-! The lifecycle (R545, R546). -/

@[simp] theorem get_touchSlot {n : Nat} {f : RF} : (s.touchSlot n).get f = s.get f := get_congr rfl

/-- What a transition that nothing stands against says of the record (R545). -/
theorem lifecycleReason_zero {new : Nat} (h : s.lifecycleReason new = 0) :
    new < 4 ∧ s.get Reg.SEC_LC_USED < 16 := by
  unfold lifecycleReason at h
  split_ifs at h with h₁ h₂ h₃
  refine ⟨?_, by omega⟩
  simp [lifecycleStep] at h₁
  omega

theorem lifecycleRequest_of_legal {slot v : Nat} (hr : 3 ≤ s.slotRole slot) (hv : v ≤ 3) (h : s.lifecycleReason v = 0) :
    s.lifecycleRequest slot v = (s.onSec fun x => { x with target := some (slot, v, s.now) }).reply .ok 0 := by
  rw [lifecycleRequest, if_neg (by omega), if_neg (by omega)]
  exact if_neg (not_not.2 h)

/-- The confirmed state of the lifecycle, with its event and entry, before what the new state asks for. -/
def lifecycleBurnt (s : State) (slot new : Nat) : State :=
  let s := ((s.put Reg.SEC_LC_USED (s.get Reg.SEC_LC_USED + 1)).put Reg.SEC_LC_STATE new).log .sec 0 0x6105 srcManager
  s.audit 5 slot (s.slotRole slot) new 0 0 0

theorem lifecycleConfirm_of_legal {slot v new time : Nat} (hr : 3 ≤ s.slotRole slot)
    (ht : s.sec.target = some (slot, new, time)) (hv : v + new = 255) (hn : s.now ≤ time + 2000000000)
    (h : s.lifecycleReason new = 0) : s.lifecycleConfirm slot v =
      (((if s.get Reg.SEC_LC_STATE = 2 then (s.lifecycleBurnt slot new).returnDevice
        else if s.get Reg.SEC_LC_STATE = 3 then (s.lifecycleBurnt slot new).flashDefaults
        else s.lifecycleBurnt slot new).onSec fun x => { x with target := none }).wipeStart 3).reply .ok 0 := by
  have hgo : ¬(slot ≠ slot ∨ v ≠ 255 - new ∨ time + 2000000000 < s.now) := by omega
  rw [lifecycleConfirm, if_neg (by omega), ht]
  exact (if_neg hgo).trans (if_neg (not_not.2 h))

theorem lifecycleBurnt_reg {slot new : Nat} (hn : new < 4) (hu : s.get Reg.SEC_LC_USED < 16) :
    (s.lifecycleBurnt slot new).get Reg.SEC_LC_STATE = new ∧
      (s.lifecycleBurnt slot new).get Reg.SEC_LC_USED = s.get Reg.SEC_LC_USED + 1 := by
  have hk : ¬auditRegs Reg.SEC_LC := by
    simp [auditRegs, writeRegs, injectRegs, Reg.SEC_LC, Reg.SEC_AUDIT_STAT, Reg.SEC_AUDIT_HEAD, Reg.SEC_HUSK_STAT,
      Reg.SEC_SIG_STAT, Reg.FLT_LOG_LOST, Reg.DBG_INJ_STAT, Reg.DBG_INJ_DONE]
  rw [lifecycleBurnt]
  constructor
  · rw [audit_regsBut'.get hk, get_log (by decide), get_put_self (by decide)]
    exact Nat.mod_eq_of_lt hn
  · rw [audit_regsBut'.get hk, get_log (by decide), get_put_clear (by decide), get_put_self (by decide)]
    exact Nat.mod_eq_of_lt (show s.get Reg.SEC_LC_USED + 1 < 32 by omega)

/-! A reply is in the answer alone. -/

section
set_option Elab.async false
variable {st : Status} {c : Nat} {l : List Nat}

theorem reply_answer : (s.reply st c l).answer = [st.code, c] ++ l := rfl
@[simp] theorem reply_sec : (s.reply st c l).sec = s.sec := rfl
@[simp] theorem reply_reg {a : Nat} : (s.reply st c l).reg a = s.reg a := reg_congr rfl
@[simp] theorem reply_get {f : RF} : (s.reply st c l).get f = s.get f := get_congr rfl
@[simp] theorem reply_wiping : (s.reply st c l).wiping = s.wiping := flag_congr (get_congr rfl)
@[simp] theorem reply_rd8 {a : Nat} : (s.reply st c l).rd8 a = s.rd8 a := rd8_congr rfl rfl

end

theorem wipeStart_wiping {cause : Nat} : (s.wipeStart cause).wiping = true := by
  rw [wiping, flag_eq_true, wipeStart_husk.1]
  decide

/-- The audit entry of a request that began a wipe is not written (R414, R551). -/
theorem wipeReplied_audit {cause slot index sub : Nat} {old new : List Byte} :
    ((s.wipeStart cause).reply .ok 0).auditWrite slot index sub old new = (s.wipeStart cause).reply .ok 0 :=
  audit_of_wiping (reply_wiping.trans wipeStart_wiping)

/-- Settles O28, by the cases of the operations that its hypotheses single out. -/
theorem authorityCommandsComplete : Obligations.AuthorityCommandsComplete := by
  unfold Obligations.AuthorityCommandsComplete
  intro s
  refine ⟨fun slot a ha hw hf hr hc hp hd hn hok => completes_done rfl ?_, fun slot v hr hv h => completes_done rfl ?_,
    fun slot v new time hr ht hv hn h => completes_done rfl ?_, fun x hx => completes_done rfl ?_⟩
  · exact authGo_result ha slot.isLt hw hf hr hc hp hd hn hok
  · rw [lifecycleRequest_of_legal (s := s.touchSlot slot.val) hr hv h]
    refine ⟨?_, audit_sameBut'.eq (f := State.answer) fun _ => rfl⟩
    exact audit_sec (g := Security.target) (by intros; rfl)
  · rw [lifecycleConfirm_of_legal (s := s.touchSlot slot.val) hr ht hv hn h]
    rw [wipeReplied_audit]
    generalize hx : State.onSec _ _ = x
    simp only [withQueue_sec, withQueue_answer, reply_sec, reply_answer, get_withQueue, reply_get, wipeStart_sec]
    refine ⟨rfl, rfl, rfl, rfl, fun ho => ?_⟩
    obtain ⟨hst, hus⟩ := lifecycleReason_zero h
    have h₂ : ¬(s.touchSlot slot.val).get Reg.SEC_LC_STATE = 2 := fun e => by
      rw [get_touchSlot] at e
      omega
    have h₃ : ¬(s.touchSlot slot.val).get Reg.SEC_LC_STATE = 3 := fun e => by
      rw [get_touchSlot] at e
      omega
    obtain ⟨g₁, g₂⟩ := lifecycleBurnt_reg (s := s.touchSlot slot.val) (slot := slot.val) hst (by rw [get_touchSlot]; exact hus)
    rw [if_neg h₂, if_neg h₃] at hx
    rw [get_touchSlot] at g₂
    have hlc : ∀ f : RF, f.addr = Reg.SEC_LC → (x.wipeStart 3).get f = ((s.touchSlot slot.val).lifecycleBurnt slot.val new).get f :=
      fun f hf => by rw [get, hf, wipeStart_lifecycle, ← hx, reg_onSec, ← hf, get]
    rw [hlc _ rfl, hlc _ rfl]
    exact ⟨g₁, g₂⟩
  · have ht : s.lifecycleTimeout = (s.reach (x.2.2 + 2000000000)).onSec fun x => { x with target := none } := by
      rw [lifecycleTimeout, hx]
    rw [ht]
    refine ⟨rfl, fun a ha => ?_, fun a => ?_⟩
    · simp at ha
      rw [reg_withQueue, reg_onSec, reg_reach_addr ha.1 ha.2]
    · rw [rd8_withQueue, rd8_onSec, rd8_reach]

end Sys2Proof.Machine.State
end

section
set_option Elab.async false
/-! PROOFS. Accesses of registers: where a core's access goes, what a write carries, and the rows of a tile's registers. -/

namespace Sys2Proof.Machine

/-- The row of a register in a tile's window is that of its offset (R42). -/
theorem rowOf_tile {t o : Nat} (ht : t < 1152) (ho : o < 0x40000) :
    RegMap.rowOf (tileBase t + o) = (RegMap.tileBlock o).bind fun x => RegMap.rowAt x.1 x.2 := by
  have ha : 0x100000000 ≤ tileBase t + o ∧ tileBase t + o < 0x112000000 := by simp only [tileBase]; omega
  have hm : (tileBase t + o - 0x100000000) % 0x40000 = o := by simp only [tileBase]; omega
  have hb : RegMap.blockOf (tileBase t + o) = RegMap.tileBlock o := by
    rw [RegMap.blockOf, if_neg (by omega), if_pos (by simpa using ha), hm]
  rw [RegMap.rowOf, hb]
  rfl

namespace State

variable {s : State}

/-- Who a core's access is sent by. -/
def senderOf : Requester → Sender
  | .hart n m => .hart n m
  | .tile _ => .tile

/-- A manager hart's access in the peripheral blocks, and a tile core's in its own windows, take effect at once. -/
theorem coreAccess_of_reaches {src : Requester} {e : Ecc} {a r : Nat} {wr : Option Word} (hr : s.reaches src a = some r) :
    s.coreAccess ⟨src, e⟩ a wr = (s.regAccess (senderOf src) r wr 15).1.coreEnded (s.regAccess (senderOf src) r wr 15).2.1.code
      (s.regAccess (senderOf src) r wr 15).2.2.toNat := by
  unfold reaches at hr
  cases src with
  | hart n m =>
    dsimp only at hr
    split at hr
    case isTrue h =>
      obtain rfl := Option.some.inj hr
      simp only [Bool.not_eq_true', decide_eq_false_iff_not] at h
      obtain ⟨hlo, hhi, hhost, hfree⟩ := h
      have hd : s.doorOf a = none := by
        rw [doorOf, tileAtAddr, if_neg (by omega)]
        dsimp only
        rw [if_neg (by omega)]
      have hl : s.localAccess (.hart n m) a wr 15 e = s.regAccess (.hart n m) a wr 15 := by
        simp only [hostBase] at hhost
        rw [localAccess, if_neg (by omega), if_neg (by simp only [huskBase]; omega), if_neg (by simp only [huskEnd]; omega),
          if_pos (by omega), peripheral]
        split
        · rw [hostBlock, if_pos (by simp only [hostBase] at *; omega)]
        · rfl
      rw [coreAccess]
      dsimp only
      rw [hartAccess, hd]
      dsimp only
      rw [if_pos (by omega), hl]
      rfl
    case isFalse => cases hr
  | tile t =>
    dsimp only at hr
    split at hr
    · cases hr
    next hg =>
    rw [coreAccess]
    dsimp only
    rw [tileCoreAccess, if_neg hg]
    split at hr
    case isTrue h =>
      obtain rfl := Option.some.inj hr
      have hw : s.tileWindow .tile t.val a wr 15 e = s.regAccess .tile (tileBase t.val + a) wr 15 := by
        rw [tileWindow]
        dsimp only
        rw [if_neg (by omega), if_neg (by omega)]
      rw [if_pos (by omega), hw]
      rfl
    case isFalse h =>
      split at hr
      case isTrue h' =>
        obtain rfl := Option.some.inj hr
        have hw : s.podAccess .tile (podBase (podOf t.val) + (a - 0x100000)) wr 15 e =
            s.regAccess .tile (podBase (podOf t.val) + (a - 0x100000)) wr 15 := by
          rw [podAccess, if_neg (by simp only [podBase]; omega)]
        rw [if_neg (by omega), if_pos (by omega), hw]
        rfl
      case isFalse => cases hr

theorem enableMask_all : enableMask 15 = BitVec.allOnes 32 := by decide

/-- A write of a whole word carries the word as it is. -/
theorem regAccess_write {src : Sender} {a : Nat} {w : Word} :
    s.regAccess src a (some w) 15 = (s.regWrite src a w, s.writeStatus a w, 0) := by
  have hw : (w &&& enableMask 15) ||| (s.keepWord a &&& ~~~ enableMask 15) = w := by
    rw [enableMask_all, BitVec.and_allOnes, BitVec.not_allOnes, BitVec.and_zero, BitVec.or_zero]
  rw [regAccess]
  simp only [hw]
  rfl

theorem regWrite_of_none {src : Sender} {a : Nat} {w : Word} (h : RegMap.rowOf a = none) : s.regWrite src a w = s :=
  if_pos (.inl (by rw [h]; rfl))

end State

end Sys2Proof.Machine
end

section
set_option Elab.async false
/-! PROOFS. Register writes, the staging set and the stored parameters (R14, R16, R40, R65 to R69, R571). -/

namespace Sys2Proof.Machine.State

variable {s : State}

/-! A write of a router's control register (R16, R296). -/

/-- The row of EVM_CTRL: two plain bits. -/
def evmCtrlRow : RegRow := ⟨0x0, 1, 0, false, [⟨0, 1, .rw, 1, 0, 1⟩, ⟨1, 1, .rw, 1, 0, 1⟩]⟩

theorem rowOf_evmCtrl {n : Nat} (hn : n < 1152) : RegMap.rowOf (Reg.EVM_CTRL n) = some evmCtrlRow := by
  rw [rowOf_tile hn (by decide)]
  decide +kernel

theorem crosses_evmCtrl {n : Nat} {w : Word} (hn : n < 1152) : s.crosses (Reg.EVM_CTRL n) w = false := by
  have ht : tpdoOf (Reg.EVM_CTRL n) = none := by
    have h : ¬Reg.EVM_CTRL n < 0x10B0000 := by simp only [Reg.EVM_CTRL, tileBase]; omega
    simp [tpdoOf, h]
  have hl : s.lockedFields (Reg.EVM_CTRL n) = [] := by
    rw [lockedFields, ht]
    change authFields (Reg.EVM_CTRL n) = []
    rw [authFields, rowOf_evmCtrl hn]
    rfl
  rw [crosses, rowOf_evmCtrl hn]
  simp only [hl, List.isEmpty_nil, Bool.not_true, Bool.false_and]

theorem writeUnit_evmCtrl {n : Nat} (hn : n < 1152) : s.writeUnit (Reg.EVM_CTRL n) = 1 := by
  rw [writeUnit, if_neg (by simp only [Reg.EVM_CTRL, tileBase]; omega), if_pos (by simp only [Reg.EVM_CTRL, tileBase]; omega)]
  exact if_neg (by simp only [Reg.EVM_CTRL, tileBase]; omega)

theorem writeTile_evmCtrl {n : Nat} {w : Word} (hn : n < 1152) :
    s.writeTile (Reg.EVM_CTRL n) w = (s.writePlain (Reg.EVM_CTRL n) w).thrCleared n := by
  have ho : (Reg.EVM_CTRL n - 0x100000000) % 0x40000 = 0x31800 := by simp only [Reg.EVM_CTRL, tileBase]; omega
  have ht : (Reg.EVM_CTRL n - 0x100000000) / 0x40000 = n := by simp only [Reg.EVM_CTRL, tileBase]; omega
  unfold writeTile
  simp only [ho, ht]
  rw [if_neg (by decide), if_pos trivial]

theorem regWrite_evmCtrl {n : Nat} {src : Sender} {w : Word} (hn : n < 1152) :
    s.regWrite src (Reg.EVM_CTRL n) w = (s.writePlain (Reg.EVM_CTRL n) w).thrCleared n := by
  have hgo : ¬((RegMap.rowOf (Reg.EVM_CTRL n)).isNone = true ∨ w.toNat % s.writeUnit (Reg.EVM_CTRL n) ≠ 0) := by
    rw [rowOf_evmCtrl hn, writeUnit_evmCtrl hn, Nat.mod_one]
    simp
  rw [regWrite, if_neg hgo]
  simp only [crosses_evmCtrl hn, Bool.false_eq_true, if_false]
  rw [blockWrite, if_neg (by simp only [Reg.EVM_CTRL, tileBase]; omega), if_pos (by simp only [Reg.EVM_CTRL, tileBase]; omega),
    writeTile_evmCtrl hn]

/-- Both bits of EVM_CTRL take what is written (R16). -/
theorem writePlain_evmCtrl {n : Nat} {w : Word} (hn : n < 1152) :
    (s.writePlain (Reg.EVM_CTRL n) w).get (Reg.EVM_CTRL_ECHO_EN n) = getF w 0 1 ∧
      (s.writePlain (Reg.EVM_CTRL n) w).get (Reg.EVM_CTRL_THR_EN n) = getF w 1 1 := by
  have h : ∀ i, getF w i 1 ≤ 1 := fun i => Nat.lt_succ_iff.1 (getF_lt (w := w) (lo := i) (len := 1))
  have hw : ∀ x : Word, writeFields evmCtrlRow.fields (fun _ => true) x w = setF (setF x 0 1 (getF w 0 1)) 1 1 (getF w 1 1) := fun x => by
    simp [writeFields, evmCtrlRow, takes, h]
  rw [writePlain, writeOnly_of_row (rowOf_evmCtrl hn), hw]
  constructor
  · rw [get, reg_setReg, if_pos rfl, getF_setF_ne (.inl (show 0 + 1 ≤ 1 by decide)), getF_setF (by decide)]
    exact Nat.mod_eq_of_lt getF_lt
  · rw [get, reg_setReg, if_pos rfl, getF_setF (by decide)]
    exact Nat.mod_eq_of_lt getF_lt

theorem thrCleared_result {n : Nat} :
    let t := s.thrCleared n
    t.get (Reg.EVM_CTRL_ECHO_EN n) = s.get (Reg.EVM_CTRL_ECHO_EN n) ∧ t.get (Reg.EVM_CTRL_THR_EN n) = s.get (Reg.EVM_CTRL_THR_EN n) ∧
      (s.get (Reg.EVM_CTRL_THR_EN n) = 0 → t.get (Reg.EVM_THR_RATE_RATE n) = 256) ∧ s.sameRegs t [Reg.EVM_THR_RATE n] ∧
      s.sameBytes t := by
  have ha : Reg.EVM_CTRL n ≠ Reg.EVM_THR_RATE n := by simp [Reg.EVM_CTRL, Reg.EVM_THR_RATE]
  unfold thrCleared
  split
  · next h => exact ⟨rfl, rfl, fun h0 => absurd h0 (flag_eq_true.1 h), fun _ _ => rfl, fun _ => rfl⟩
  · refine ⟨get_put_addr ha, get_put_addr ha, fun _ => ?_, fun b hb => ?_, fun b => rd8_put⟩
    · simp [get_put_self]
    · simp at hb
      simp [hb]

theorem obj_congr {t : State} {i j : Nat} (h : t.objs = s.objs) : t.obj i j = s.obj i j := by rw [obj, obj, h]

@[simp] theorem reg_coreEnded {c d a : Nat} : (s.coreEnded c d).reg a = s.reg a := (reg_congr rfl)
@[simp] theorem get_coreEnded {c d : Nat} {f : RF} : (s.coreEnded c d).get f = s.get f := (get_congr rfl)
@[simp] theorem rd8_coreEnded {c d a : Nat} : (s.coreEnded c d).rd8 a = s.rd8 a := (rd8_congr rfl rfl)

/-! The staging set (R65 to R69). -/

theorem stageClear_result : s.stageClear.staging.writes = [] ∧ s.stageClear.staging.accepted = s.staging.accepted ∧
    s.stageClear.obj 0x2402 2 = 0 ∧ s.sameRegs s.stageClear [] ∧ s.sameBytes s.stageClear :=
  ⟨rfl, rfl, by simp [stageClear], fun _ _ => reg_congr rfl, fun _ => rd8_congr rfl rfl⟩

/-- A set that passes its check in a running device is accepted (R68). -/
theorem commitRun_of_legal (hr : s.running = true) (h : ∀ x ∈ stagedSort s.staging.writes,
    s.modeReason (s.withStaged (stagedSort s.staging.writes)) (stagedSort s.staging.writes) x.index x.sub x.item x.value = 0) :
    s.commitRun = { s.stageClear.setObj 0x2402 4 s.effectiveStep with
      staging := { s.stageClear.staging with
        accepted := s.staging.accepted ++ [(s.effectiveStep, stagedSort s.staging.writes)] } } := by
  have hf : (stagedSort s.staging.writes).find? (fun x => s.modeReason (s.withStaged (stagedSort s.staging.writes))
      (stagedSort s.staging.writes) x.index x.sub x.item x.value != 0) = none :=
    List.find?_eq_none.2 fun x hx => by simp [h x hx]
  have hr' : (s.stageClear.setObj 0x2402 4 s.effectiveStep).running = true := hr
  rw [commitRun, commit]
  simp only [hf, hr, if_true, hr']
  rfl

/-! The stored parameters (R571). -/

theorem rdBytes_rawBytes_prefix {a : Nat} {l r : List Byte} : (s.rawBytes a (l ++ r)).rdBytes a l.length = l := by
  have h := rdBytes_rawBytes_self (s := s) (a := a) (l := l ++ r)
  rw [List.length_append, rdBytes_add] at h
  exact (List.append_inj h (by simp)).1

/-- The record that a save writes, and the mark that it begins with (R645). -/
theorem recordSave_eq : ∃ rest, s.recordSave =
    { s.rawBytes (recordBase ((s.recordNewest.map (1 - ·)).getD 0)) (leBytes 4 0x4D524150 ++ rest) with unsaved := [] } := by
  unfold recordSave
  cases s.recordNewest with
  | none => exact ⟨_, by simp only [List.append_assoc]; rfl⟩
  | some r => exact ⟨_, by simp only [List.append_assoc]; rfl⟩

theorem storeParams_of_right {slot : Nat} (hr : 2 ≤ s.slotRole slot) :
    s.storeParams slot 0x65766173#32 true = s.recordSave.reply .ok 0 := by
  rw [storeParams, if_neg (by omega), if_neg (by simp)]
  rfl

theorem restoreDefaults_of_right {slot : Nat} (hr : 2 ≤ s.slotRole slot) :
    s.restoreDefaults slot 0x64616F6C#32 = ({ s with restoreDue := true }.recordSave).reply .ok 0 := by
  rw [restoreDefaults, if_neg (by omega), if_neg (by simp)]

theorem reply_unsaved {st : Status} {c : Nat} {l : List Nat} : (s.reply st c l).unsaved = s.unsaved := rfl
theorem reply_restoreDue {st : Status} {c : Nat} {l : List Nat} : (s.reply st c l).restoreDue = s.restoreDue := rfl

theorem recordSave_restoreDue : s.recordSave.restoreDue = s.restoreDue := by
  obtain ⟨rest, h⟩ := recordSave_eq (s := s)
  rw [h]
  exact (rawBytes_sameBut (F := [Part.mem]) (by decide) .refl).eq (f := State.restoreDue) fun _ => rfl

/-- The audit entry of a request leaves its answer, and what waits to be saved. -/
theorem auditWrite_keeps {slot index sub : Nat} {old new : List Byte} :
    let t := s.auditWrite slot index sub old new
    t.answer = s.answer ∧ t.unsaved = s.unsaved ∧ t.restoreDue = s.restoreDue :=
  ⟨audit_sameBut'.eq (f := State.answer) fun _ => rfl, audit_sameBut'.eq (f := State.unsaved) fun _ => rfl,
    audit_sameBut'.eq (f := State.restoreDue) fun _ => rfl⟩

theorem recordSave_unsaved : s.recordSave.unsaved = [] := by
  obtain ⟨rest, h⟩ := recordSave_eq (s := s)
  rw [h]

theorem recordSave_result : s.recordSave.unsaved = [] ∧ s.sameRegs s.recordSave [] ∧
    s.recordSave.rdLe (recordBase ((s.recordNewest.map (1 - ·)).getD 0)) 4 = 0x4D524150 := by
  refine ⟨recordSave_unsaved, ?_, ?_⟩
  · obtain ⟨rest, h⟩ := recordSave_eq (s := s)
    exact fun a _ => reg_congr (by rw [h]; exact rawBytes_regs)
  · obtain ⟨rest, h⟩ := recordSave_eq (s := s)
    generalize recordBase ((s.recordNewest.map (1 - ·)).getD 0) = a at h ⊢
    have hs : (s.rawBytes a (leBytes 4 0x4D524150 ++ rest)).sameBytes s.recordSave := fun b => by
      rw [h]
      exact rd8_congr rfl rfl
    have hp := rdBytes_rawBytes_prefix (s := s) (a := a) (l := leBytes 4 0x4D524150) (r := rest)
    rw [length_leBytes] at hp
    rw [rdLe_sameBytes hs, rdLe, hp, ofLe_leBytes]
    decide

/-- Settles O47, by the cases of the operations that its hypotheses single out. -/
theorem settingsCommandsComplete : Obligations.SettingsCommandsComplete := by
  unfold Obligations.SettingsCommandsComplete
  intro s
  refine ⟨fun n a v e hr => completes_done rfl ?_, fun src a v e r hr hn => completes_done rfl ?_,
    fun tile p u e ht hs => completes_done rfl ?_, fun hr h => completes_done rfl ?_, completes_done rfl ?_,
    fun h => completes_done rfl ?_, fun slot hr => completes_done rfl ?_, fun slot hr => completes_done rfl ?_⟩
  · rw [coreAccess_of_reaches hr, regAccess_write, regWrite_evmCtrl n.isLt]
    have hw : s.writeStatus (Reg.EVM_CTRL n.val) v = .ok := by
      have h₁ : ¬(Reg.EVM_CTRL n.val = Reg.PWR_CLK_W ∨ Reg.EVM_CTRL n.val = Reg.PWR_CLK_E) := by
        simp only [Reg.EVM_CTRL, tileBase, Reg.PWR_CLK_W, Reg.PWR_CLK_E]; omega
      have h₂ : Reg.EVM_CTRL n.val ≠ Reg.SCM_LD_CTRL := by simp only [Reg.EVM_CTRL, tileBase, Reg.SCM_LD_CTRL]; omega
      have h₃ : Reg.EVM_CTRL n.val ≠ Reg.SYNC_MODQ_PUSH_HI := by
        simp only [Reg.EVM_CTRL, tileBase, Reg.SYNC_MODQ_PUSH_HI]; omega
      rw [writeStatus, if_neg (fun h => h₁ h.1), if_neg (fun h => h₂ h.1), if_neg h₃]
    obtain ⟨h₁, h₂, h₃, h₄, h₅⟩ := thrCleared_result (s := s.writePlain (Reg.EVM_CTRL n.val) v) (n := n.val)
    obtain ⟨g₁, g₂⟩ := writePlain_evmCtrl (s := s) (w := v) n.isLt
    rw [hw]
    generalize (s.writePlain (Reg.EVM_CTRL n.val) v).thrCleared n.val = t at h₁ h₂ h₃ h₄ h₅ ⊢
    refine ⟨?_, ?_, fun h0 => ?_, rfl, fun a ha => ?_, fun a => ?_⟩
    · rw [get_withQueue, get_coreEnded, h₁, g₁]
    · rw [get_withQueue, get_coreEnded, h₂, g₂]
    · rw [get_withQueue, get_coreEnded, h₃ (g₂.trans h0)]
    · simp only [List.mem_cons, List.not_mem_nil, or_false, not_or] at ha
      rw [reg_withQueue, reg_coreEnded, h₄ a (by simpa using ha.2), reg_writePlain_ne ha.1]
    · rw [rd8_withQueue, rd8_coreEnded, h₅ a, rd8_writePlain]
  · rw [coreAccess_of_reaches hr, regAccess_write, regWrite_of_none hn]
    exact ⟨rfl, rfl, rfl⟩
  · rw [regRequest_of_shut ht (by
      obtain ⟨f, rfl⟩ := takeCtrl_onMesh ht
      exact hs)]
    obtain ⟨f, rfl⟩ := takeCtrl_onMesh ht
    exact ⟨rfl, fun a _ => reg_congr rfl, fun a => rd8_congr rfl rfl⟩
  · rw [commitRun_of_legal hr h]
    refine ⟨rfl, rfl, ?_, ?_, fun a _ => reg_congr rfl, fun a => rd8_congr rfl rfl⟩
    · refine (obj_congr (s := s.stageClear.setObj 0x2402 4 s.effectiveStep) rfl).trans ?_
      simp
    · refine (obj_congr (s := s.stageClear.setObj 0x2402 4 s.effectiveStep) rfl).trans ?_
      rw [obj_setObj, if_neg (by decide)]
      exact stageClear_result.2.2.1
  · obtain ⟨h₁, h₂, h₃, h₄, h₅⟩ := stageClear_result (s := s)
    exact ⟨h₁, h₂, h₃, h₄, h₅⟩
  · have hp : s.paramSave true = s.recordSave := by
      unfold paramSave
      split
      · next he => exact absurd he h
      · rfl
    obtain ⟨h₁, h₂, h₃⟩ := recordSave_result (s := s)
    rw [hp]
    refine ⟨?_, fun a ha => ?_, ?_⟩
    · rw [withQueue_unsaved, h₁]
    · rw [reg_withQueue, h₂ a ha]
    · rw [rdLe_sameBytes (s := s.recordSave) fun _ => rd8_withQueue, h₃]
  · rw [storeParams_of_right (s := s.touchSlot slot.val) hr]
    obtain ⟨h₁, h₂, -⟩ := auditWrite_keeps (s := (s.touchSlot slot.val).recordSave.reply .ok 0) (slot := slot.val)
      (index := 0x1010) (sub := 1) (old := leBytes 4 3) (new := leBytes 4 (0x65766173#32).toNat)
    rw [withQueue_answer, withQueue_unsaved, h₁, h₂, reply_answer, reply_unsaved, recordSave_unsaved]
    exact ⟨rfl, rfl⟩
  · rw [restoreDefaults_of_right (s := s.touchSlot slot.val) hr]
    obtain ⟨h₁, h₂, h₃⟩ := auditWrite_keeps (s := ({ s.touchSlot slot.val with restoreDue := true }.recordSave).reply .ok 0)
      (slot := slot.val) (index := 0x1011) (sub := 1) (old := leBytes 4 1) (new := leBytes 4 (0x64616F6C#32).toNat)
    rw [withQueue_answer, withQueue_unsaved, withQueue_restoreDue, h₁, h₂, h₃, reply_answer, reply_unsaved, reply_restoreDue,
      recordSave_unsaved, recordSave_restoreDue]
    exact ⟨rfl, rfl, rfl⟩

end Sys2Proof.Machine.State
end

section
set_option Elab.async false
/-! PROOFS. Queue units: where their registers stand, and what a write of a descriptor's field leaves (R358, R360). -/

namespace Sys2Proof.Machine.State

variable {s t s₀ : State} {u i j lo len lo' len' v : Nat} {B : Nat → Prop}

/-- Where the register of a tile at an offset of the queue block stands for a unit (R393). -/
def qPlace (u o : Nat) : Nat :=
  if u < 1152 then tileBase u + o else if o < 0x38000 then 0x1068000 + (o - 0x33000) else 0x106C000 + (o - 0x38000)

theorem qr_lo {f : RF} : (qr u f).lo = f.lo := by unfold qr; split <;> rfl

theorem qr_len {f : RF} : (qr u f).len = f.len := by unfold qr; split <;> rfl

theorem qr_addr {o : Nat} : (qr u ⟨tileBase u + o, lo, len⟩).addr = qPlace u o := by
  unfold qr qPlace
  split
  · rfl
  · dsimp only
    rw [Nat.add_sub_cancel_left]

theorem qf_addr : (qf u i lo len).addr = qPlace u (0x38000 + 0x10 * i) + 4 * (lo / 32) := by
  have h : Reg.Q_DESC0 u i + 4 * (lo / 32) = tileBase u + (0x38000 + 0x10 * i + 4 * (lo / 32)) := by
    simp only [Reg.Q_DESC0]
    omega
  rw [qf, h, qr_addr]
  unfold qPlace
  split
  · omega
  · rw [if_neg (by omega), if_neg (by omega)]
    omega

theorem qf_lo : (qf u i lo len).lo = lo % 32 := qr_lo

theorem qf_len : (qf u i lo len).len = len := qr_len

/-- The registers of a queue unit beside its descriptors. -/
def queueControl (u a : Nat) : Prop := ∃ o, 0x33000 ≤ o ∧ o < 0x37000 ∧ a = qPlace u o

/-- Addresses away from descriptor `i` of unit `u`. -/
def offDescriptor (u i a : Nat) : Prop :=
  a < qPlace u (0x38000 + 0x10 * i) ∨ qPlace u (0x38000 + 0x10 * i) + 16 ≤ a

theorem offDescriptor_control {a : Nat} (h : queueControl u a) : offDescriptor u i a := by
  obtain ⟨o, hlo, hhi, rfl⟩ := h
  unfold offDescriptor qPlace
  split
  · omega
  · rw [if_pos (by omega : o < 0x38000), if_neg (by omega)]
    omega

theorem offDescriptor_low {a : Nat} (h : a < 0x106C000) : offDescriptor u i a := by
  unfold offDescriptor qPlace
  split
  · simp only [tileBase]
    omega
  · rw [if_neg (by omega)]
    omega

theorem offDescriptor_mid {a : Nat} (hi : i < 1024) (h : 0x1070000 ≤ a) (h' : a < 0x100000000) : offDescriptor u i a := by
  unfold offDescriptor qPlace
  split
  · simp only [tileBase]
    omega
  · rw [if_neg (by omega)]
    omega

theorem offDescriptor_ne {a : Nat} (h : j ≠ i) (hlo : qPlace u (0x38000 + 0x10 * j) ≤ a)
    (hhi : a < qPlace u (0x38000 + 0x10 * j) + 16) : offDescriptor u i a := by
  unfold offDescriptor qPlace at *
  split at hlo
  · rw [if_pos ‹_›] at hhi ⊢
    simp only [tileBase] at *
    omega
  · simp only [if_neg ‹¬u < 1152›] at *
    rw [if_neg (by omega)] at hlo hhi
    rw [if_neg (by omega)]
    omega

theorem not_offDescriptor_qf (h : lo < 128) : ¬offDescriptor u i (qf u i lo len).addr := by
  rw [qf_addr]
  unfold offDescriptor
  omega

/-- A command that stays away from a descriptor leaves its fields. -/
theorem RegsBut.qget (h : RegsBut (offDescriptor u i) s t) (hl : lo < 128) : t.qget u i lo len = s.qget u i lo len :=
  h.get (not_offDescriptor_qf hl)

theorem qget_congr (h : t.regs = s.regs) : t.qget u i lo len = s.qget u i lo len := get_congr h

theorem qget_lt : s.qget u i lo len < 2 ^ len := by
  have h := s.get_lt (f := qf u i lo len)
  rwa [qf_len] at h

theorem qget_qput_self (h : lo % 32 + len ≤ 32) : (s.qput u i lo len v).qget u i lo len = v % 2 ^ len := by
  rw [State.qget, qput, get_put_self (by rwa [qf_lo, qf_len]), qf_len]

theorem qget_qput_off (h : lo' + len' ≤ lo ∨ lo + len ≤ lo') : (s.qput u i lo len v).qget u i lo' len' = s.qget u i lo' len' := by
  by_cases hw : lo' / 32 = lo / 32
  · exact get_put_clear (by rw [qf_lo, qf_lo, qf_len, qf_len]; omega)
  · exact get_put_addr (by rw [qf_addr, qf_addr]; omega)

theorem get_qput_control {f : RF} (h : queueControl u f.addr) : (s.qput u i lo len v).get f = s.get f := by
  refine get_put_addr ?_
  have h' := offDescriptor_control (i := i) (u := u) h
  obtain ⟨o, hlo, hhi, ha⟩ := h
  rw [ha, qf_addr]
  unfold qPlace
  split
  · omega
  · rw [if_pos (by omega : o < 0x38000), if_neg (by omega)]
    omega

theorem qput_regsBut (hB : B (qf u i lo len).addr) (h : RegsBut B s₀ s) : RegsBut B s₀ (s.qput u i lo len v) :=
  put_regsBut hB h

theorem offDescriptor_qf_ne (h : j ≠ i) (hl : lo < 128) : offDescriptor u i (qf u j lo len).addr :=
  offDescriptor_ne h (by rw [qf_addr]; omega) (by rw [qf_addr]; omega)

theorem queueControl_qr {o : Nat} (hlo : 0x33000 ≤ o) (hhi : o < 0x37000) :
    queueControl u (qr u ⟨tileBase u + o, lo, len⟩).addr := ⟨o, hlo, hhi, qr_addr⟩

/-- The word of a descriptor. -/
def qWord (u i w : Nat) : Nat := (qr u ⟨Reg.Q_DESC0 u i + 4 * w, 0, 32⟩).addr

theorem qWord_eq {w : Nat} : qWord u i w = qPlace u (0x38000 + 0x10 * i) + 4 * w := by
  have h := qf_addr (u := u) (i := i) (lo := 32 * w) (len := 32)
  rw [Nat.mul_div_cancel_left _ (by decide)] at h
  rw [← h, qf, Nat.mul_div_cancel_left _ (by decide), qWord]
  unfold qr
  split <;> rfl

theorem getF_and {x m : Word} (h : getF m lo len = 2 ^ len - 1) : getF (x &&& m) lo len = getF x lo len := by
  unfold getF at *
  rw [BitVec.extractLsb'_and]
  have : m.extractLsb' lo len = BitVec.allOnes len := BitVec.eq_of_toNat_eq (by simpa using h)
  rw [this, BitVec.and_allOnes]

/-- The words of a descriptor after its reserved bits are cleared (R14, R360). -/
theorem reg_qShape {w : Nat} (hw : w < 4) (hm : s.qMode u i ≠ 0) :
    (s.qShape u i).reg (qWord u i w) = s.reg (qWord u i w) &&& qBits (s.qMode u i) w := by
  unfold qShape
  extract_lets m
  rw [if_neg hm]
  change ((List.range 4).foldl (fun (x : State) k => x.setReg (qWord u i k) (x.reg (qWord u i k) &&& qBits m k)) s).reg _ = _
  have h : ∀ k l, k ≠ l → qWord u i k ≠ qWord u i l := fun k l hne => by
    rw [qWord_eq, qWord_eq]
    omega
  have h4 : w = 0 ∨ w = 1 ∨ w = 2 ∨ w = 3 := by omega
  obtain rfl | rfl | rfl | rfl := h4 <;>
    simp [List.range_succ, reg_setReg, h]
  all_goals rfl

theorem qget_qShape (hl : lo < 128) (h : s.qMode u i ≠ 0 → getF (qBits (s.qMode u i) (lo / 32)) (lo % 32) len = 2 ^ len - 1) :
    (s.qShape u i).qget u i lo len = s.qget u i lo len := by
  by_cases hm : s.qMode u i = 0
  · rw [qShape, if_pos hm]
  · have ha : (qf u i lo len).addr = qWord u i (lo / 32) := by rw [qf_addr, qWord_eq]
    rw [State.qget, State.qget, get, get, ha, qf_lo, qf_len, reg_qShape (by omega) hm, getF_and (h hm)]

end Sys2Proof.Machine.State
end
section
set_option Elab.async false
/-! PROOFS. What the parts of the queue commands change of a unit's registers (R362 to R370). -/

namespace Sys2Proof.Machine.State

variable {s t s₀ : State} {u i j lo len v : Nat} {B : Nat → Prop}

theorem sendCredit_regsBut {ptype e n : Nat} (hB : B (qr u (Reg.Q_CR_DISCARD_COUNT u)).addr) (h : RegsBut B s₀ s) :
    RegsBut B s₀ (s.sendCredit u i ptype e n) := by
  have hu : ∀ d p, RegsBut B s₀ (s.unitCtrl u d ptype p) := fun d p => by
    unfold unitCtrl
    exact keeps_ite (h.congr rfl) (h.congr rfl)
  unfold sendCredit
  dsimp only
  split
  · exact h.congr rfl
  · refine keeps_ite (hu _ _) ?_
    split
    · exact hu _ _
    · exact count_regsBut hB h

/-- Q_READY of a queue. -/
def readyBit (u i : Nat) : RF := qr u ⟨Reg.Q_READY u (i / 32), i % 32, 1⟩

theorem qReady_regsBut (hB : B (readyBit u i).addr) (hi : B Reg.HOST_IRQ_STAT) (h : RegsBut B s₀ s) :
    RegsBut B s₀ (s.qReady u i) := by
  unfold qReady
  extract_lets was now x y
  have hx : RegsBut B s₀ x := put_regsBut hB h
  have hy : RegsBut B s₀ y := keeps_ite (raise_regsBut hx) hx
  exact keeps_ite hx (keeps_ite (msix_regsBut hi hy) hy)

theorem qResult_regsBut {st : Status} (hB : B (qr u (Reg.Q_CMD_RESULT_STATUS u)).addr)
    (hB' : B (qr u (Reg.Q_CMD_RESULT_VALID u)).addr) (h : RegsBut B s₀ s) : RegsBut B s₀ (s.qResult u st) :=
  put_regsBut hB' (put_regsBut hB h)

theorem get_qResult {st : Status} : (s.qResult u st).get (qr u (Reg.Q_CMD_RESULT_STATUS u)) = st.code % 16 := by
  rw [qResult, get_put_clear (by simp [qr_lo, qr_len]), get_put_self (by simp [qr_lo, qr_len]), qr_len]
  rfl

theorem queueControl_result : queueControl u (qr u (Reg.Q_CMD_RESULT_STATUS u)).addr := queueControl_qr (by decide) (by decide)

theorem queueControl_ready (hi : i < 1024) : queueControl u (readyBit u i).addr := by
  have h : Reg.Q_READY u (i / 32) = tileBase u + (0x33400 + 4 * (i / 32)) := by
    simp only [Reg.Q_READY]
    omega
  rw [readyBit, h]
  exact queueControl_qr (by omega) (by omega)

/-- The registers beside the descriptors that the queue commands may write. -/
def queueSide (u a : Nat) : Prop := queueControl u a ∨ a < 0x1068000 ∨ (0x1070000 ≤ a ∧ a < 0x100000000)

theorem offDescriptor_side {a : Nat} (hi : i < 1024) (h : queueSide u a) : offDescriptor u i a := by
  obtain h | h | ⟨h, h'⟩ := h
  · exact offDescriptor_control h
  · exact offDescriptor_low (by omega)
  · exact offDescriptor_mid hi h h'

theorem qReady_side (hi : i < 1024) (h : RegsBut (queueSide u) s₀ s) : RegsBut (queueSide u) s₀ (s.qReady u i) :=
  qReady_regsBut (.inl (queueControl_ready hi)) (.inr (.inr (by decide))) h

theorem sendCredit_side {ptype e n : Nat} (h : RegsBut (queueSide u) s₀ s) :
    RegsBut (queueSide u) s₀ (s.sendCredit u i ptype e n) :=
  sendCredit_regsBut (.inl (queueControl_qr (by decide) (by decide))) h

theorem qResult_side {st : Status} (h : RegsBut (queueSide u) s₀ s) : RegsBut (queueSide u) s₀ (s.qResult u st) :=
  qResult_regsBut (.inl queueControl_result) (.inl (queueControl_qr (by decide) (by decide))) h

theorem qget_of_side (hi : i < 1024) (hl : lo < 128) (h : RegsBut (queueSide u) s t) :
    t.qget u i lo len = s.qget u i lo len :=
  RegsBut.qget (h.mono fun _ => offDescriptor_side hi) hl

/-- The registers of a tile's wait state and of its trace. -/
def waitRegs (u a : Nat) : Prop := tileBase u + 0x33900 ≤ a ∧ a < tileBase u + 0x33A10

theorem queueSide_wait {a : Nat} (hu : u < 1152) (h : waitRegs u a) : queueSide u a := by
  obtain ⟨hlo, hhi⟩ := h
  exact .inl ⟨a - tileBase u, by omega, by omega, by rw [qPlace, if_pos hu]; omega⟩

theorem trace_regsBut {n ptype pay : Nat} (hB : ∀ a, waitRegs n a → B a) (h : RegsBut B s₀ s) :
    RegsBut B s₀ (s.trace n ptype pay) := by
  unfold trace
  exact keeps_ite h (keeps_ite (count_regsBut (hB _ ⟨by simp, by simp⟩) h) (h.congr rfl))

theorem setWait_regsBut {n kind src obj peer : Nat} (hB : ∀ a, waitRegs n a → B a) (h : RegsBut B s₀ s) :
    RegsBut B s₀ (s.setWait n kind src obj peer) := by
  have hw : B (Reg.DBG_WAIT n) := hB _ ⟨by simp, by simp⟩
  have ho : B (Reg.DBG_WAIT_OBJ n) := hB _ ⟨by simp, by simp⟩
  have hs : B (Reg.DBG_WAIT_SINCE n) := hB _ ⟨by simp, by simp⟩
  unfold setWait
  extract_lets old was x y
  have hx : RegsBut B s₀ x := put_regsBut hw (put_regsBut hw h)
  have hy : RegsBut B s₀ y := keeps_ite hx (put_regsBut hs (put_regsBut ho (put_regsBut ho (put_regsBut hw hx))))
  exact keeps_ite hy (trace_regsBut hB hy)

theorem traceQueue_side {body dir seq peer : Nat} {st : Status} (h : RegsBut (queueSide u) s₀ s) :
    RegsBut (queueSide u) s₀ (s.traceQueue u i body dir seq peer st) := by
  unfold traceQueue
  split
  · exact trace_regsBut (fun _ => queueSide_wait ‹_›) h
  · exact h

theorem queueSide_write {a : Nat} (h : writeRegs a) : queueSide u a := by
  simp only [writeRegs, injectRegs, Reg.DBG_INJ_STAT, Reg.DBG_INJ_DONE, Reg.FLT_LOG_LOST, Reg.SEC_SIG_STAT] at h
  unfold queueSide
  omega

@[simp] theorem qget_withQueue {q : List Instr} : (s.withQueue q).qget u i lo len = s.qget u i lo len := get_withQueue

end Sys2Proof.Machine.State
end

section
set_option Elab.async false
/-! PROOFS. The commands of the queue units (R361 to R372). -/

namespace Sys2Proof.Machine.State

variable {s t s₀ : State} {u i j lo len v : Nat}

/-! Opening, emptying and closing a queue (R362). -/

/-- The receive descriptor that a restart leaves, before its Q_READY bit follows. -/
def restarted (s : State) (u i : Nat) : State :=
  let s := s.qput u i 24 8 (s.qEpoch u i + 1)
  let s := ((s.qput u i 96 12 0).qput u i 108 12 0).qput u i 75 12 0
  let s := ((((s.qput u i 120 1 0).qput u i 121 1 0).qput u i 122 1 0).qput u i 123 1 0).qput u i 0 2 1
  let s := s.qShape u i
  { s with
    clearing := if (u, i) ∈ s.clearing then s.clearing else s.clearing ++ [(u, i)]
    creditDue := s.creditDue.filter fun x => x ≠ (u, i)
    oooSeen := s.oooSeen.put (1024 * u + i) 0 }

theorem qRestart_eq : s.qRestart u i = (s.restarted u i).qReady u i := rfl

/-- Where every bit of a field stands in an open receive descriptor, the clear of its reserved bits keeps it. -/
theorem qget_qShape_rx (hl : lo < 128) (hm : s.qMode u i = 1) (h : getF (qBits 1 (lo / 32)) (lo % 32) len = 2 ^ len - 1) :
    (s.qShape u i).qget u i lo len = s.qget u i lo len := qget_qShape hl fun _ => by rwa [hm]

theorem restarted_fields : (s.restarted u i).qMode u i = 1 ∧ (s.restarted u i).qEpoch u i = (s.qEpoch u i + 1) % 256 ∧
    (s.restarted u i).qAvail u i = 0 := by
  unfold restarted
  extract_lets a b c d
  have hm : c.qMode u i = 1 := qget_qput_self (by decide)
  refine ⟨(qget_congr (s := d) rfl).trans ?_, (qget_congr (s := d) rfl).trans ?_, (qget_congr (s := d) rfl).trans ?_⟩
  · exact (qget_qShape_rx (by decide) hm (by decide)).trans hm
  · rw [qget_qShape_rx (by decide) hm (by decide)]
    simp [c, b, a, qget_qput_self, qget_qput_off]
  · rw [qget_qShape_rx (by decide) hm (by decide)]
    simp [c, b, a, qget_qput_self, qget_qput_off]

theorem mem_clearing_restarted : (u, i) ∈ (s.restarted u i).clearing := by
  unfold restarted
  dsimp only
  split
  · assumption
  · exact List.mem_append_right _ (List.mem_singleton.2 rfl)

theorem qRestart_fields (hi : i < 1024) : (s.qRestart u i).qMode u i = 1 ∧
    (s.qRestart u i).qEpoch u i = (s.qEpoch u i + 1) % 256 ∧ (s.qRestart u i).qAvail u i = 0 ∧
    (u, i) ∈ (s.qRestart u i).clearing := by
  have hs : RegsBut (queueSide u) (s.restarted u i) (s.qRestart u i) := qReady_side hi .refl
  obtain ⟨hm, he, ha⟩ := s.restarted_fields (u := u) (i := i)
  refine ⟨(qget_of_side hi (by decide) hs).trans hm, (qget_of_side hi (by decide) hs).trans he,
    (qget_of_side hi (by decide) hs).trans ha, ?_⟩
  rw [qRestart_eq, (qReady_sameBut (F := [.regs, .sent]) (by decide) (.refl (s := s.restarted u i))).eq (f := State.clearing) fun _ => rfl]
  exact mem_clearing_restarted

/-- The fill map of an open queue is clear: the queue takes messages (R362). -/
theorem fillCleared_result (hi : i < 1024) (hm : s.qMode u i = 1) (hc : (u, i) ∈ s.clearing) :
    (s.fillCleared u i).qget u i 120 1 = 1 ∧ (u, i) ∉ (s.fillCleared u i).clearing ∧ (s.fillCleared u i).qMode u i = 1 := by
  unfold fillCleared
  rw [if_neg (not_not.2 hc)]
  extract_lets x n y
  have hx : x.qMode u i = 1 := (qget_congr rfl).trans hm
  rw [if_neg (not_not.2 hx)]
  have hy : RegsBut (queueSide u) x y := by
    simp only [y]
    split
    · exact wrBytes_regsBut (fun _ => queueSide_write) .refl
    · exact .refl
  have hyc : y.clearing = x.clearing := by
    simp only [y]
    split
    · exact (wrBytes_sameBut (F := [.regs, .mem, .events, .fw]) (by decide) .refl).eq (f := State.clearing) fun _ => rfl
    · rfl
  have hs : RegsBut (queueSide u) (y.qput u i 120 1 1) ((y.qput u i 120 1 1).sendCredit u i 3 (y.qEpoch u i) n) :=
    sendCredit_side .refl
  refine ⟨?_, ?_, ?_⟩
  · exact (qget_of_side hi (by decide) hs).trans (qget_qput_self (by decide))
  · rw [(sendCredit_sameBut (F := [.regs, .mesh]) (by decide) .refl).eq (f := State.clearing) fun _ => rfl]
    change (u, i) ∉ y.clearing
    rw [hyc]
    simp [x]
  · refine (qget_of_side hi (by decide) hs).trans ((qget_qput_off (.inl (by decide))).trans ?_)
    exact (qget_of_side hi (by decide) hy).trans hx

theorem openRx_result (hi : i < 1024) (hg : s.guardOwns u i = false) (hm : s.qMode u i = 0) (hr : (s.qRing u i).isSome = true) :
    (s.openRx u i).qMode u i = 1 ∧ (s.openRx u i).qEpoch u i = (s.qEpoch u i + 1) % 256 ∧ (s.openRx u i).qAvail u i = 0 ∧
      (u, i) ∈ (s.openRx u i).clearing ∧ (s.openRx u i).get (qr u (Reg.Q_CMD_RESULT_STATUS u)) = 0 := by
  have hgo : ¬(s.guardOwns u i = true ∨ s.qMode u i ≠ 0 ∨ (s.qRing u i).isNone = true) := by
    simp [hg, hm, Option.isSome_iff_ne_none.1 hr]
  obtain ⟨h1, h2, h3, h4⟩ := s.qRestart_fields (u := u) hi
  have hs : RegsBut (queueSide u) (s.qRestart u i) ((s.qRestart u i).qResult u .ok) := qResult_side .refl
  rw [openRx, if_neg hgo]
  exact ⟨(qget_of_side hi (by decide) hs).trans h1, (qget_of_side hi (by decide) hs).trans h2,
    (qget_of_side hi (by decide) hs).trans h3, h4, get_qResult⟩

theorem resetRx_result (hi : i < 1024) (hg : s.guardOwns u i = false) (hm : s.qMode u i = 1) :
    (s.resetRx u i).qMode u i = 1 ∧ (s.resetRx u i).qEpoch u i = (s.qEpoch u i + 1) % 256 ∧ (s.resetRx u i).qAvail u i = 0 ∧
      (u, i) ∈ (s.resetRx u i).clearing ∧ (s.resetRx u i).get (qr u (Reg.Q_CMD_RESULT_STATUS u)) = 0 := by
  have hgo : ¬(s.guardOwns u i = true ∨ s.qMode u i ≠ 1) := by simp [hg, hm]
  obtain ⟨h1, h2, h3, h4⟩ := s.qRestart_fields (u := u) hi
  rw [resetRx, if_neg hgo]
  generalize s.qRestart u i = x at h1 h2 h3 h4
  have hs : RegsBut (queueSide u) x ((x.sendCredit u i 4 (x.qEpoch u i) 0).qResult u .ok) :=
    qResult_side (sendCredit_side .refl)
  refine ⟨(qget_of_side hi (by decide) hs).trans h1, (qget_of_side hi (by decide) hs).trans h2,
    (qget_of_side hi (by decide) hs).trans h3, ?_, get_qResult⟩
  change (u, i) ∈ (x.sendCredit u i 4 (x.qEpoch u i) 0).clearing
  rwa [(sendCredit_sameBut (F := [.regs, .mesh]) (by decide) (.refl (s := x))).eq (f := State.clearing) fun _ => rfl]

theorem closeQueue_of_rx (hg : s.guardOwns u i = false) (hm : s.qMode u i = 1) : s.closeQueue u i =
    let a := s.qput u i 24 8 (s.qEpoch u i + 1)
    let b := (a.sendCredit u i 0x04 (a.qEpoch u i) 0).qput u i 0 2 0
    let c : State := { b with
      clearing := b.clearing.filter fun x => x ≠ (u, i), creditDue := b.creditDue.filter fun x => x ≠ (u, i) }
    ((c.qput u i 120 1 0).qReady u i).qResult u .ok := by
  unfold closeQueue
  simp only [hg, hm, Bool.false_eq_true, if_false]

theorem closeQueue_rx_result (hi : i < 1024) (hg : s.guardOwns u i = false) (hm : s.qMode u i = 1) :
    (s.closeQueue u i).qMode u i = 0 ∧ (s.closeQueue u i).qEpoch u i = (s.qEpoch u i + 1) % 256 ∧
      (u, i) ∉ (s.closeQueue u i).clearing ∧ (s.closeQueue u i).get (qr u (Reg.Q_CMD_RESULT_STATUS u)) = 0 := by
  rw [closeQueue_of_rx hg hm]
  extract_lets a b c
  have hs : RegsBut (queueSide u) (c.qput u i 120 1 0) (((c.qput u i 120 1 0).qReady u i).qResult u .ok) :=
    qResult_side (qReady_side hi .refl)
  have ha : RegsBut (queueSide u) a (a.sendCredit u i 4 (a.qEpoch u i) 0) := sendCredit_side .refl
  refine ⟨?_, ?_, ?_, get_qResult⟩
  · refine (qget_of_side hi (by decide) hs).trans ((qget_qput_off (by decide)).trans ?_)
    exact (qget_congr (s := b) rfl).trans (qget_qput_self (by decide))
  · refine (qget_of_side hi (by decide) hs).trans ((qget_qput_off (by decide)).trans ?_)
    refine (qget_congr (s := b) rfl).trans ((qget_qput_off (by decide)).trans ?_)
    exact (qget_of_side hi (by decide) ha).trans (qget_qput_self (by decide))
  · change (u, i) ∉ ((c.qput u i 120 1 0).qReady u i).clearing
    rw [(qReady_sameBut (F := [.regs, .sent]) (by decide) (.refl (s := c.qput u i 120 1 0))).eq (f := State.clearing) fun _ => rfl]
    change (u, i) ∉ c.clearing
    simp [c]

theorem closeQueue_of_tx (hg : s.guardOwns u i = false) (hm : s.qMode u i = 2) :
    s.closeQueue u i = (s.qput u i 0 2 0).qResult u .ok := by
  unfold closeQueue
  simp only [hg, hm, Bool.false_eq_true, if_false]

/-- A field of two bits that are clear is 0. -/
theorem qget_two (h : s.qget u i 96 1 = 0) (h' : s.qget u i 97 1 = 0) : s.qget u i 96 2 = 0 := by
  have ha : ∀ lo len, lo / 32 = 3 → s.qget u i lo len = getF (s.reg (qWord u i 3)) (lo % 32) len := fun lo len hl => by
    rw [State.qget, get, qf_addr, qf_lo, qf_len, hl, qWord_eq]
  rw [ha _ _ (by decide)] at h h' ⊢
  generalize s.reg (qWord u i 3) = w at h h' ⊢
  simp [getF, BitVec.extractLsb'_toNat, Nat.shiftRight_eq_div_pow] at h h' ⊢
  omega

theorem openTx_of_free (hg : s.guardOwns u i = false) (hm : s.qMode u i = 0)
    (hj : ∀ j, j < 1024 → ¬(s.qMode u j = 2 ∧ s.qget u j 32 20 = s.qget u i 32 20)) : s.openTx u i =
    ((((((((s.qput u i 64 12 0).qput u i 76 12 0).qput u i 98 12 0).qput u i 96 1 0).qput u i 97 1 0).qput u i 0 2 2).qShape
      u i).qResult u .ok) := by
  have hgo : ¬(s.guardOwns u i = true ∨ s.qMode u i ≠ 0) := by simp [hg, hm]
  have hn : ¬(((List.range 1024).any fun j => s.qMode u j = 2 && s.qget u j 32 20 = s.qget u i 32 20) = true) := by
    simpa using hj
  rw [openTx]
  exact (if_neg hgo).trans (if_neg hn)

theorem openTx_result (hi : i < 1024) (hg : s.guardOwns u i = false) (hm : s.qMode u i = 0)
    (hj : ∀ j, j < 1024 → ¬(s.qMode u j = 2 ∧ s.qget u j 32 20 = s.qget u i 32 20)) :
    (s.openTx u i).qMode u i = 2 ∧ (s.openTx u i).qget u i 64 12 = 0 ∧ (s.openTx u i).qget u i 76 12 = 0 ∧
      (s.openTx u i).qget u i 96 2 = 0 ∧ (s.openTx u i).get (qr u (Reg.Q_CMD_RESULT_STATUS u)) = 0 := by
  rw [openTx_of_free hg hm hj]
  generalize hx : (((((s.qput u i 64 12 0).qput u i 76 12 0).qput u i 98 12 0).qput u i 96 1 0).qput u i 97 1 0).qput u i 0 2 2 = x
  have hm : x.qMode u i = 2 := by
    rw [← hx]
    exact qget_qput_self (by decide)
  have hs : RegsBut (queueSide u) (x.qShape u i) ((x.qShape u i).qResult u .ok) := qResult_side .refl
  have hk : ∀ lo len, lo < 128 → getF (qBits 2 (lo / 32)) (lo % 32) len = 2 ^ len - 1 →
      ((x.qShape u i).qResult u .ok).qget u i lo len = x.qget u i lo len := fun lo len hl hb =>
    (qget_of_side hi hl hs).trans (qget_qShape hl fun _ => by rwa [hm])
  refine ⟨(hk 0 2 (by decide) (by decide)).trans hm, (hk 64 12 (by decide) (by decide)).trans ?_,
    (hk 76 12 (by decide) (by decide)).trans ?_, (hk 96 2 (by decide) (by decide)).trans ?_, get_qResult⟩
  · simp [← hx, qget_qput_off, qget_qput_self]
  · simp [← hx, qget_qput_off, qget_qput_self]
  · have h1 : x.qget u i 96 1 = 0 := by simp [← hx, qget_qput_off, qget_qput_self]
    have h2 : x.qget u i 97 1 = 0 := by simp [← hx, qget_qput_off, qget_qput_self]
    exact qget_two h1 h2

theorem ackEpoch_of_pending (hg : s.guardOwns u i = false) (hm : s.qMode u i = 2) (hp : s.qget u i 96 1 = 1) :
    s.ackEpoch u i =
    let x := (s.qput u i 24 8 (s.qget u i 88 8)).qput u i 64 12 (s.qget u i 98 12)
    ((((x.qput u i 98 12 0).qput u i 76 12 0).qput u i 96 1 0).qput u i 97 1 1).qResult u .ok := by
  have hgo : ¬(s.guardOwns u i = true ∨ s.qMode u i ≠ 2 ∨ s.qget u i 96 1 = 0) := by simp [hg, hm, hp]
  exact if_neg hgo

theorem ackEpoch_result (hi : i < 1024) (hg : s.guardOwns u i = false) (hm : s.qMode u i = 2) (hp : s.qget u i 96 1 = 1) :
    (s.ackEpoch u i).qEpoch u i = s.qget u i 88 8 ∧ (s.ackEpoch u i).qget u i 64 12 = s.qget u i 98 12 ∧
      (s.ackEpoch u i).qget u i 96 1 = 0 ∧ (s.ackEpoch u i).qget u i 97 1 = 1 ∧
      (s.ackEpoch u i).get (qr u (Reg.Q_CMD_RESULT_STATUS u)) = 0 := by
  have he : s.qget u i 88 8 % 256 = s.qget u i 88 8 := Nat.mod_eq_of_lt qget_lt
  have hc : s.qget u i 98 12 % 4096 = s.qget u i 98 12 := Nat.mod_eq_of_lt qget_lt
  rw [ackEpoch_of_pending hg hm hp]
  extract_lets x
  generalize hy : (((x.qput u i 98 12 0).qput u i 76 12 0).qput u i 96 1 0).qput u i 97 1 1 = y
  have hs : RegsBut (queueSide u) y (y.qResult u .ok) := qResult_side .refl
  refine ⟨(qget_of_side hi (by decide) hs).trans ?_, (qget_of_side hi (by decide) hs).trans ?_,
    (qget_of_side hi (by decide) hs).trans ?_, (qget_of_side hi (by decide) hs).trans ?_, get_qResult⟩
  · simpa [← hy, x, qget_qput_off, qget_qput_self] using he
  · simpa [← hy, x, qget_qput_off, qget_qput_self] using hc
  · simp [← hy, qget_qput_off, qget_qput_self]
  · simp [← hy, qget_qput_self]

end Sys2Proof.Machine.State
end

section
set_option Elab.async false
/-! PROOFS. A message that leaves a queue unit, and the credits that come back (R364, R366). -/

namespace Sys2Proof.Machine.State

variable {s t s₀ : State} {u i j lo len v body : Nat} {B : Nat → Prop}

/-- An endpoint that has spent a credit and counted a message (R364). -/
def charged (s : State) (u i : Nat) : State :=
  ((s.qput u i 64 12 (s.qget u i 64 12 - 1)).qput u i 76 12 (s.qget u i 76 12 + 1)).add64
    (qr u ⟨Reg.Q_TX_LO u, 0, 32⟩).addr 1

theorem offer_of_credit (hm : s.qMode u i = 2) (hb : s.bridged u i = none)
    (ht : s.qget u i 52 1 = 1 ∨ (s.qTile u (s.qget u i 42 10)).isSome = true) (hs : s.qget u i 96 1 = 0)
    (he : s.qget u i 97 1 = 1) (hc : 0 < s.qget u i 64 12) (hl : (s.mesh.msgs.at u).length < 16) :
    ∃ p q, s.offer u i body =
      if s.qget u i 52 1 = 1 ∧ u = edgeNode then
        ⟨(s.charged u i).onMesh fun m => { m with msgIn := m.msgIn.push u p }, .ok, false, s.qget u i 76 12⟩
      else ⟨(s.charged u i).onMesh fun m => { m with msgs := m.msgs.push u q }, .ok, false, s.qget u i 76 12⟩ := by
  have h1 : ¬(s.qMode u i ≠ 2) := not_not.2 hm
  have h2 : ¬((s.bridged u i).isNone && !decide (s.qget u i 52 1 = 1) && (s.qTile u (s.qget u i 42 10)).isNone) = true := by
    obtain h | h := ht
    · simp [h]
    · simp [Option.isSome_iff_ne_none.1 h]
  have h3 : ¬(s.qget u i 96 1 = 1) := by omega
  have h4 : ¬(s.qget u i 97 1 = 0 ∨ s.qget u i 64 12 = 0) := by omega
  have h5 : ¬(16 ≤ (s.mesh.msgs.at u).length) := by omega
  unfold offer
  extract_lets mgr tile far seq x queue pay y
  have hf : far = none := hb
  rw [if_neg h1, if_neg h2, if_neg h3, if_neg h4, if_neg h5]
  simp only [hf, mgr]
  exact ⟨_, _, rfl⟩

/-- A field of a descriptor outlives the count of a message. -/
theorem qget_add64_control {o n : Nat} (hlo : 0x33000 ≤ o) (hhi : o < 0x36FFC) (hl : lo < 128) :
    (s.add64 (qPlace u o) n).qget u i lo len = s.qget u i lo len := by
  have h4 : qPlace u o + 4 = qPlace u (o + 4) := by
    unfold qPlace
    split
    · omega
    · rw [if_pos (by omega), if_pos (by omega)]
      omega
  refine RegsBut.qget (add64_regsBut (offDescriptor_control ⟨o, hlo, by omega, rfl⟩) ?_ .refl) hl
  rw [h4]
  exact offDescriptor_control ⟨o + 4, by omega, by omega, rfl⟩

theorem charged_fields (hc : 0 < s.qget u i 64 12) : (s.charged u i).qget u i 64 12 = s.qget u i 64 12 - 1 ∧
    (s.charged u i).qget u i 76 12 = (s.qget u i 76 12 + 1) % 4096 := by
  have hl : s.qget u i 64 12 < 4096 := qget_lt
  unfold charged
  rw [qr_addr, qget_add64_control (by decide) (by decide) (by decide), qget_add64_control (by decide) (by decide) (by decide)]
  refine ⟨(qget_qput_off (by decide)).trans ((qget_qput_self (by decide)).trans ?_), qget_qput_self (by decide)⟩
  exact Nat.mod_eq_of_lt (by omega)

/-! The send's result, and its trace. -/

/-- A tile's trace adds to the trace queue alone. -/
theorem trace_msgs {n ptype pay : Nat} : (s.trace n ptype pay).mesh.msgs = s.mesh.msgs ∧
    (s.trace n ptype pay).mesh.msgIn = s.mesh.msgIn := by
  unfold trace
  split
  · exact ⟨rfl, rfl⟩
  · split
    · rw [count_mesh]
      exact ⟨rfl, rfl⟩
    · rw [onMesh_mesh]
      exact ⟨rfl, rfl⟩

theorem setWait_msgs {n kind src obj peer : Nat} : (s.setWait n kind src obj peer).mesh.msgs = s.mesh.msgs ∧
    (s.setWait n kind src obj peer).mesh.msgIn = s.mesh.msgIn := by
  unfold setWait
  extract_lets old was x y
  have hx : x.mesh = s.mesh := put_mesh.trans put_mesh
  have hy : y.mesh = s.mesh := keeps_ite (P := fun z : State => z.mesh = s.mesh) hx
    (put_mesh.trans (put_mesh.trans (put_mesh.trans (put_mesh.trans hx))))
  clear_value y
  rw [← hy]
  exact keeps_ite (P := fun z : State => z.mesh.msgs = y.mesh.msgs ∧ z.mesh.msgIn = y.mesh.msgIn) ⟨rfl, rfl⟩ trace_msgs

/-- The result of a send that went out (R364). -/
def sendShown (s : State) (u i seq : Nat) : State :=
  ((((s.put (qr u (Reg.Q_SEND_RESULT_STATUS u)) 0).put (qr u (Reg.Q_SEND_RESULT_FIFO_FULL u)) 0).put
    (qr u (Reg.Q_SEND_RESULT_IDX u)) i).put (qr u (Reg.Q_SEND_RESULT_VALID u)) 1).put (qr u (Reg.Q_SEND_RESULT_SEQ u)) seq

theorem queueSend_of_sent {x : State} {seq : Nat} (hg : s.guardOwns u i = false)
    (ho : s.offer u i (s.txBody u) = ⟨x, .ok, false, seq⟩) : s.queueSend u i =
    if u < 1152 then
      (if (x.sendShown u i seq).get (Reg.DBG_WAIT_KIND u) = 2 then (x.sendShown u i seq).setWait u 0 0 0 0
        else x.sendShown u i seq).traceQueue u i (s.txBody u) 0 seq
        ((if (x.sendShown u i seq).get (Reg.DBG_WAIT_KIND u) = 2 then (x.sendShown u i seq).setWait u 0 0 0 0
        else x.sendShown u i seq).targetCode u i) .ok
    else x.sendShown u i seq := by
  unfold queueSend
  simp only [hg, Bool.false_eq_true, if_false, ho, if_true]
  rfl

/-- What a send that went out leaves besides the offer's own work. -/
theorem queueSend_side {x : State} {seq : Nat} (hg : s.guardOwns u i = false)
    (ho : s.offer u i (s.txBody u) = ⟨x, .ok, false, seq⟩) :
    RegsBut (fun a => u < 1152 ∧ waitRegs u a) (x.sendShown u i seq) (s.queueSend u i) ∧
      (s.queueSend u i).mesh.msgs = x.mesh.msgs ∧ (s.queueSend u i).mesh.msgIn = x.mesh.msgIn := by
  rw [queueSend_of_sent hg ho]
  by_cases hu : u < 1152
  · rw [if_pos hu, traceQueue, if_pos hu]
    have hw : ∀ a, waitRegs u a → u < 1152 ∧ waitRegs u a := fun _ h => ⟨hu, h⟩
    refine ⟨trace_regsBut hw (keeps_ite (setWait_regsBut hw .refl) .refl), trace_msgs.1.trans ?_, trace_msgs.2.trans ?_⟩
    · split
      · exact setWait_msgs.1
      · rfl
    · split
      · exact setWait_msgs.2
      · rfl
  · rw [if_neg hu]
    exact ⟨.refl, rfl, rfl⟩

theorem sendShown_side {seq : Nat} (h : RegsBut (queueSide u) s₀ s) : RegsBut (queueSide u) s₀ (s.sendShown u i seq) := by
  have hc : ∀ lo len, queueSide u (qr u ⟨Reg.Q_SEND_RESULT u, lo, len⟩).addr := fun lo len =>
    .inl (queueControl_qr (by decide) (by decide))
  exact put_regsBut (hc _ _) (put_regsBut (hc _ _) (put_regsBut (hc _ _) (put_regsBut (hc _ _) (put_regsBut (hc _ _) h))))

theorem get_sendShown {seq : Nat} : (s.sendShown u i seq).get (qr u (Reg.Q_SEND_RESULT_STATUS u)) = 0 := by
  simp [sendShown, get_put_clear, get_put_self, qr_lo, qr_len]

/-- A send that went out spends a credit, counts its sequence number and reports success (R364). -/
theorem queueSend_result {f : Mesh → Mesh} {seq : Nat} (hi : i < 1024) (hg : s.guardOwns u i = false)
    (hc : 0 < s.qget u i 64 12)
    (ho : s.offer u i (s.txBody u) = ⟨(s.charged u i).onMesh f, .ok, false, seq⟩) :
    (s.queueSend u i).qget u i 64 12 = s.qget u i 64 12 - 1 ∧
      (s.queueSend u i).qget u i 76 12 = (s.qget u i 76 12 + 1) % 4096 ∧
      (s.queueSend u i).get (qr u (Reg.Q_SEND_RESULT_STATUS u)) = 0 := by
  obtain ⟨hr, -, -⟩ := queueSend_side hg ho
  have hx : RegsBut (queueSide u) (s.charged u i) (s.queueSend u i) :=
    (sendShown_side (onMesh_regsBut .refl)).trans (hr.mono fun _ h => queueSide_wait h.1 h.2)
  obtain ⟨h1, h2⟩ := charged_fields hc
  refine ⟨(qget_of_side hi (by decide) hx).trans h1, (qget_of_side hi (by decide) hx).trans h2, ?_⟩
  refine (hr.get fun h => ?_).trans get_sendShown
  obtain ⟨hu, hlo, -⟩ := h
  rw [qr_addr, qPlace, if_pos hu] at hlo
  omega

end Sys2Proof.Machine.State
end

section
set_option Elab.async false
/-! PROOFS. Credits at the sender, pops, returns and the scan for gaps (R366, R368, R369, R372). -/

namespace Sys2Proof.Machine.State

variable {s t s₀ : State} {u i j lo len v n : Nat} {B : Nat → Prop}

/-- Credits of the epoch in force are added, to 2,048 at most (R366). -/
theorem applyCredit_of_return {e n : Nat} (hv : s.qget u i 97 1 = 1) (hs : s.qget u i 96 1 = 0) (he : e = s.qEpoch u i) :
    s.applyCredit u i false e n = s.qput u i 64 12 (min 2048 (s.qget u i 64 12 + n)) := by
  simp [applyCredit, hv, hs, he]

/-- A revoke of a newer epoch makes the endpoint stale (R366). -/
theorem applyCredit_of_revoke {e n : Nat} (hv : s.qget u i 97 1 = 1) (hs : s.qget u i 96 1 = 0)
    (he : newer e (s.qEpoch u i) = true) :
    s.applyCredit u i true e n = (((s.qput u i 64 12 0).qput u i 96 1 1).qput u i 88 8 e).qput u i 98 12 0 := by
  simp [applyCredit, hv, hs, he]

theorem creditReturn_done {u : Fin 1153} {p : Pip} {s₁ : State} (ht : s.takeCtrl u.val 0x03 = some (p, s₁))
    (he : s₁.endpointOf u.val (p.b 0 16) (p.b 16 16) = some j) :
    exec (.creditReturnReceive u) s = s.done (s₁.applyCredit u.val j false (p.b 32 8) (p.b 40 16)) := by
  have hp : s₁.creditPip u.val false p = s₁.applyCredit u.val j false (p.b 32 8) (p.b 40 16) := by
    unfold creditPip
    simp only [he]
  rw [← hp]
  change execCreditReturnReceive u s = _
  rw [execCreditReturnReceive, ht]

theorem creditRevoke_done {u : Fin 1153} {p : Pip} {s₁ : State} (ht : s.takeCtrl u.val 0x04 = some (p, s₁))
    (he : s₁.endpointOf u.val (p.b 0 16) (p.b 16 16) = some j) :
    exec (.creditRevokeReceive u) s = s.done (s₁.applyCredit u.val j true (p.b 32 8) (p.b 40 16)) := by
  have hp : s₁.creditPip u.val true p = s₁.applyCredit u.val j true (p.b 32 8) (p.b 40 16) := by
    unfold creditPip
    simp only [he]
  rw [← hp]
  change execCreditRevokeReceive u s = _
  rw [execCreditRevokeReceive, ht]

/-! Popping (R368). -/

/-- The trace of the messages that a pop frees. -/
def popTraced (s : State) (u i n : Nat) : State :=
  match s.qRing u i with
  | some ring => (List.range n).foldl (fun (x : State) k => x.traceQueue u i
      (x.rdLe (slotAddr ring (x.qSlots u i) (s.qHead u i + k)) 16) 1 ((s.qHead u i + k) % 4096) (x.qPeer u i) .ok) s
  | none => s

/-- The counters of a queue after a pop of `n` slots. -/
def popCounted (s : State) (u i head n : Nat) : State :=
  ((s.qput u i 108 12 (head + n)).qput u i 96 12 (s.qAvail u i - n)).qput u i 75 12 (s.qFreed u i + n)

theorem queueTake_eq : s.queueTake u i n =
    let x := (s.popTraced u i n).popCounted u i (s.qHead u i) n
    (if x.creditReady u i && !(x.creditDue.contains (u, i)) then { x with creditDue := x.creditDue ++ [(u, i)] }
      else x).qReady u i := by
  unfold queueTake popTraced popCounted
  rfl

theorem popTraced_side : RegsBut (queueSide u) s (s.popTraced u i n) := by
  unfold popTraced
  split
  · exact keeps_foldl (P := RegsBut (queueSide u) s) _ .refl fun x hx k => traceQueue_side hx
  · exact .refl

theorem popCounted_fields {head : Nat} : (s.popCounted u i head n).qAvail u i = s.qAvail u i - n ∧
    (s.popCounted u i head n).qHead u i = (head + n) % 4096 ∧
    (s.popCounted u i head n).qFreed u i = (s.qFreed u i + n) % 4096 := by
  have hl : s.qget u i 96 12 < 4096 := qget_lt
  have hm : (s.qget u i 96 12 - n) % 4096 = s.qget u i 96 12 - n := Nat.mod_eq_of_lt (by omega)
  simp [popCounted, qAvail, qHead, qFreed, qget_qput_self, qget_qput_off, hm]

theorem queueTake_fields (hi : i < 1024) : (s.queueTake u i n).qAvail u i = s.qAvail u i - n ∧
    (s.queueTake u i n).qHead u i = (s.qHead u i + n) % 4096 ∧
    (s.queueTake u i n).qFreed u i = (s.qFreed u i + n) % 4096 := by
  rw [queueTake_eq]
  extract_lets x
  have hx : ∀ y : State, y.regs = x.regs → RegsBut (queueSide u) x (y.qReady u i) := fun y hy =>
    qReady_side hi (.congr .refl hy)
  have hr : RegsBut (queueSide u) x ((if (x.creditReady u i && !(x.creditDue.contains (u, i))) = true then
      { x with creditDue := x.creditDue ++ [(u, i)] } else x).qReady u i) := by
    refine hx _ ?_
    split <;> rfl
  obtain ⟨ha, hh, hf⟩ := (s.popTraced u i n).popCounted_fields (u := u) (i := i) (n := n) (head := s.qHead u i)
  have hp := s.popTraced_side (u := u) (i := i) (n := n)
  refine ⟨(qget_of_side hi (by decide) hr).trans (ha.trans ?_), (qget_of_side hi (by decide) hr).trans hh,
    (qget_of_side hi (by decide) hr).trans (hf.trans ?_)⟩
  · rw [qAvail, qget_of_side hi (by decide) hp, qAvail]
  · rw [qFreed, qget_of_side hi (by decide) hp, qFreed]

theorem queuePop_of_ready (hm : s.qMode u i = 1) (hr : s.qget u i 120 1 = 1) (h1 : 1 ≤ n) (hn : n ≤ s.qAvail u i)
    (hg : s.guardOwns u i = false) : s.queuePop u i n =
    ((s.queueTake u i n).put (qr u (Reg.Q_POP_RESULT_STATUS u)) 0).put (qr u (Reg.Q_POP_RESULT_VALID u)) 1 := by
  have hgo : s.qMode u i = 1 ∧ s.qget u i 120 1 = 1 ∧ 1 ≤ n ∧ n ≤ s.qAvail u i ∧ (!s.guardOwns u i) = true :=
    ⟨hm, hr, h1, hn, by simp [hg]⟩
  exact if_pos hgo

theorem queuePop_result (hi : i < 1024) (hm : s.qMode u i = 1) (hr : s.qget u i 120 1 = 1) (h1 : 1 ≤ n)
    (hn : n ≤ s.qAvail u i) (hg : s.guardOwns u i = false) : (s.queuePop u i n).qAvail u i = s.qAvail u i - n ∧
    (s.queuePop u i n).qHead u i = (s.qHead u i + n) % 4096 ∧ (s.queuePop u i n).qFreed u i = (s.qFreed u i + n) % 4096 ∧
    (s.queuePop u i n).get (qr u (Reg.Q_POP_RESULT_STATUS u)) = 0 := by
  obtain ⟨ha, hh, hf⟩ := s.queueTake_fields (u := u) (n := n) hi
  rw [queuePop_of_ready hm hr h1 hn hg]
  generalize s.queueTake u i n = x at ha hh hf
  have hc : ∀ lo len, queueSide u (qr u ⟨Reg.Q_POP_RESULT u, lo, len⟩).addr := fun lo len =>
    .inl (queueControl_qr (by decide) (by decide))
  have hx : RegsBut (queueSide u) x ((x.put (qr u (Reg.Q_POP_RESULT_STATUS u)) 0).put (qr u (Reg.Q_POP_RESULT_VALID u)) 1) :=
    put_regsBut (hc _ _) (put_regsBut (hc _ _) .refl)
  refine ⟨(qget_of_side hi (by decide) hx).trans ha, (qget_of_side hi (by decide) hx).trans hh,
    (qget_of_side hi (by decide) hx).trans hf, ?_⟩
  simp [get_put_clear, get_put_self, qr_lo, qr_len]

/-! Credits that go back (R369). -/

theorem returnCredits_of_due (h : (u, i) ∈ s.creditDue) : ∃ x : State, s.returnCredits u i = x.returnOne u i :=
  ⟨_, if_neg (not_not.2 h)⟩

theorem returnOne_result : (s.returnOne u i).qFreed u i = 0 ∧ (u, i) ∉ (s.returnOne u i).creditDue := by
  unfold returnOne
  extract_lets x
  refine ⟨qget_qput_self (by decide), ?_⟩
  change (u, i) ∉ (x.sendCredit u i 3 (x.qEpoch u i) (x.qFreed u i)).creditDue
  rw [(sendCredit_sameBut (F := [.regs, .mesh]) (by decide) (.refl (s := x))).eq (f := State.creditDue) fun _ => rfl]
  simp [x]

/-! The scan for gaps (R372). -/

/-- The registers that a flagged gap changes beside the descriptor. -/
theorem gapScanOne_regsBut (hd : B (qf u i 121 1).addr) (hs : B (qr u (Reg.Q_STATUS_GAP u)).addr)
    (hg : B (qr u (Reg.Q_GAP_CNT_COUNT u)).addr) (hl : B Reg.FLT_LOG_LOST) (h : RegsBut B s₀ s) :
    RegsBut B s₀ (s.gapScanOne u i) := by
  have hs' : B (qr u (Reg.Q_STATUS_LAST_GAP u)).addr := by
    rw [qr_addr] at hs ⊢
    exact hs
  unfold gapScanOne
  extract_lets key tail x y
  have hx : RegsBut B s₀ x := h.congr rfl
  have hy : RegsBut B s₀ y := raise_regsBut (put_regsBut hs (put_regsBut hd hx))
  refine keeps_ite (keeps_ite ?_ hx) (h.congr rfl)
  exact log_regsBut hl (countObj_regsBut (count_regsBut hg (put_regsBut hs' hy)))

theorem gapScanOne_off (hi : i < 1024) (h : j ≠ i) : RegsBut (offDescriptor u i) s (s.gapScanOne u j) :=
  gapScanOne_regsBut (offDescriptor_qf_ne h (by decide)) (offDescriptor_control (queueControl_qr (by decide) (by decide)))
    (offDescriptor_control (queueControl_qr (by decide) (by decide))) (offDescriptor_mid hi (by decide) (by decide)) .refl

theorem gapScanOne_seen (h : j ≠ i) :
    (s.gapScanOne u j).oooSeen.at (1024 * u + i) = s.oooSeen.at (1024 * u + i) := by
  have hk : 1024 * u + i ≠ 1024 * u + j := by omega
  unfold gapScanOne
  extract_lets key tail x y
  have hx : x.oooSeen.at (1024 * u + i) = s.oooSeen.at (1024 * u + i) := by
    simp only [x, key, Nums.at_put, if_neg hk]
  split
  · split
    · rw [← hx, (log_sameBut (F := [.regs, .events]) (by decide) .refl).eq (f := State.oooSeen) fun _ => rfl]
      change y.oooSeen.at (1024 * u + i) = x.oooSeen.at (1024 * u + i)
      simp only [y]
      rw [(raise_sameBut (F := [.sent]) (by decide) .refl).eq (f := State.oooSeen) fun _ => rfl]
      rfl
    · exact hx
  · simp only [key, Nums.at_put, if_neg hk]

/-- The descriptor of a queue whose tail has not moved since the last scan (R372). -/
def gapReady (s : State) (u i : Nat) : Prop :=
  s.qMode u i = 1 ∧ s.qget u i 120 1 = 1 ∧ s.qget u i 123 1 = 1 ∧ s.qget u i 121 1 = 0 ∧
    s.oooSeen.at (1024 * u + i) = (s.qHead u i + s.qAvail u i) % 4096 + 1

theorem gapReady_off (hi : i < 1024) (h : j ≠ i) (hr : s.gapReady u i) : (s.gapScanOne u j).gapReady u i := by
  have hk : RegsBut (offDescriptor u i) s (s.gapScanOne u j) := gapScanOne_off hi h
  unfold gapReady qMode qHead qAvail at hr ⊢
  rw [RegsBut.qget hk (by decide), RegsBut.qget hk (by decide), RegsBut.qget hk (by decide), RegsBut.qget hk (by decide),
    RegsBut.qget hk (by decide),
    RegsBut.qget hk (by decide), gapScanOne_seen h]
  exact hr

/-- A field of the queue's descriptor but GAP outlives its scan. -/
theorem gapScanOne_flags (hi : i < 1024) (hr : s.gapReady u i) : (s.gapScanOne u i).qget u i 121 1 = 1 := by
  obtain ⟨hm, h120, h123, h121, hs⟩ := hr
  unfold gapScanOne
  extract_lets key tail x y
  rw [if_pos ⟨hm, h120, h123⟩, if_pos ⟨hs, h121⟩]
  have hy : y.qget u i 121 1 = 1 := by
    have hp : RegsBut (queueSide u) (x.qput u i 121 1 1) y :=
      raise_regsBut (put_regsBut (.inl (queueControl_qr (by decide) (by decide))) .refl)
    exact (qget_of_side hi (by decide) hp).trans (qget_qput_self (by decide))
  have hc : ∀ o lo len, 0x33000 ≤ o → o < 0x37000 → queueSide u (qr u ⟨tileBase u + o, lo, len⟩).addr :=
    fun _ _ _ hlo hhi => .inl (queueControl_qr hlo hhi)
  refine (qget_of_side hi (by decide) ?_).trans hy
  exact log_regsBut (.inr (.inr (by decide))) (countObj_regsBut (count_regsBut (hc _ _ _ (by decide) (by decide))
    (put_regsBut (hc _ _ _ (by decide) (by decide)) .refl)))

theorem gapScanOne_keeps_flag (hi : i < 1024) (h : s.qget u i 121 1 = 1) : (s.gapScanOne u j).qget u i 121 1 = 1 := by
  by_cases hj : j = i
  · subst hj
    have h0 : ¬(s.qget u j 121 1 = 0) := by omega
    unfold gapScanOne
    extract_lets key tail x y
    split
    · rw [if_neg fun hc => h0 hc.2]
      exact h
    · exact h
  · exact (RegsBut.qget (gapScanOne_off hi hj) (by decide)).trans h

theorem gapScan_flags (hi : i < 1024) (hg : s.get (qr u (Reg.Q_CTRL_GAP_SCAN u)) ≠ 0) (hr : s.gapReady u i) :
    (s.gapScan u).qget u i 121 1 = 1 := by
  rw [gapScan, if_neg hg]
  exact foldl_reaches (P := fun x : State => x.gapReady u i) (Q := fun x : State => x.qget u i 121 1 = 1) (List.mem_range.2 hi) hr
    (fun x m hm hx => gapReady_off hi hm hx) (fun x hx => gapScanOne_flags hi hx) fun x m hx => gapScanOne_keeps_flag hi hx

end Sys2Proof.Machine.State
end

section
set_option Elab.async false
/-! PROOFS. A message at its queue (R367). -/

namespace Sys2Proof.Machine.State

variable {s t s₀ x : State} {u i n q ring : Nat} {p : Pip} {rest : List Pip}

theorem qDropped_side {o lo len : Nat} :
    RegsBut (fun a => a = qPlace u o) s (s.qDropped u ⟨tileBase u + o, lo, len⟩) :=
  raise_regsBut (count_regsBut qr_addr .refl)

theorem get_qDropped {f : RF} (h : f.lo + f.len ≤ 32) : (s.qDropped u f).get (qr u f) =
    satInc (qr u f).len (s.get (qr u f)) 1 := by
  rw [qDropped, get_raise, get_count_self (by rwa [qr_lo, qr_len])]

/-- No message stands after the tail: the tail passes none (R367). -/
theorem passFilled_of_clear {fuel : Nat} (h : fuel = 0 ∨ s.fillBit ring n q = false) :
    s.passFilled ring n q fuel = (s, 0) := by
  cases fuel with
  | zero => rfl
  | succ f =>
    have hf : s.fillBit ring n q = false := h.resolve_left (Nat.succ_ne_zero f)
    simp [passFilled, hf]

/-- A ring has 2,048 slots at most (R359). -/
theorem qSlots_le (h : s.qRing u i = some ring) : s.qSlots u i ≤ 2048 := by
  simp only [qRing] at h
  split at h
  · cases h
  · split at h
    · cases h
    · have hk : s.qget u i 2 4 ≤ 11 := by omega
      exact (Nat.pow_le_pow_right (by decide) hk).trans_eq (by decide)

/-! What becomes of a message (R367). -/

theorem accept_closed {mine : Bool} (h : s.get (qr u (Reg.Q_CTRL_EN u)) = 0 ∨ s.qMode u i ≠ 1 ∨ s.qRing u i = none) :
    s.accept u i mine p = s.qDropped u (Reg.Q_DROP_CLOSED_COUNT u) := by
  unfold accept
  extract_lets closed
  by_cases hc : s.get (qr u (Reg.Q_CTRL_EN u)) = 0 ∨ s.qMode u i ≠ 1
  · rw [if_pos hc]
  · have hr : s.qRing u i = none := by
      obtain h | h | h := h
      · exact absurd (.inl h) hc
      · exact absurd (.inr h) hc
      · exact h
    rw [if_neg hc, hr]

theorem accept_stale {mine : Bool} (hen : s.get (qr u (Reg.Q_CTRL_EN u)) = 1) (hm : s.qMode u i = 1)
    (hr : s.qRing u i = some ring) (he : msgEpoch p ≠ s.qEpoch u i) :
    s.accept u i mine p = (s.qDropped u (Reg.Q_DROP_STALE_COUNT u)).qput u i 122 1 1 := by
  have hc : ¬(s.get (qr u (Reg.Q_CTRL_EN u)) = 0 ∨ s.qMode u i ≠ 1) := by omega
  unfold accept
  rw [if_neg hc, hr]
  exact if_pos he

/-- A message that is stored in its slot, and counted (R367). -/
def slotted (s : State) (u i ring : Nat) (p : Pip) : State :=
  (s.wrLe (slotAddr ring (s.qSlots u i) p.seq) 16 (msgBody p)).add64 (qr u ⟨Reg.Q_RX_LO u, 0, 32⟩).addr 1

/-- How far a message stands from the tail. -/
def aheadOf (s : State) (u i : Nat) (p : Pip) : Nat := (p.seq + 8192 - s.qHead u i - s.qAvail u i) % 4096

theorem accept_slotted (hen : s.get (qr u (Reg.Q_CTRL_EN u)) = 1) (hm : s.qMode u i = 1)
    (hr : s.qRing u i = some ring) (he : msgEpoch p = s.qEpoch u i) (hl : s.aheadOf u i p + s.qAvail u i < s.qSlots u i)
    (hf : s.fillBit ring (s.qSlots u i) p.seq = false) : s.accept u i true p =
    if s.aheadOf u i p = 0 then
      let y := ((s.slotted u i ring p).passFilled ring (s.qSlots u i) (p.seq + 1) (s.qSlots u i - s.qAvail u i - 1)).1
      let k := ((s.slotted u i ring p).passFilled ring (s.qSlots u i) (p.seq + 1) (s.qSlots u i - s.qAvail u i - 1)).2
      let z := y.qput u i 96 12 (s.qAvail u i + k + 1)
      (z.qput u i 123 1 (if z.anyFill ring (s.qSlots u i) then 1 else 0)).qReady u i
    else ((s.slotted u i ring p).setFill ring (s.qSlots u i) p.seq true).qput u i 123 1 1 := by
  have hc : ¬(s.get (qr u (Reg.Q_CTRL_EN u)) = 0 ∨ s.qMode u i ≠ 1) := by omega
  have hs : ¬(s.qSlots u i - s.qAvail u i ≤ s.aheadOf u i p ∨ s.fillBit ring (s.qSlots u i) p.seq = true) := by
    rw [hf]
    simp
    omega
  unfold accept
  rw [if_neg hc, hr]
  refine (if_neg (not_not.2 he)).trans ((if_neg (by simp)).trans ((if_neg hs).trans ?_))
  rfl

/-! The bytes and fields that a stored message leaves. -/

theorem slotted_bytes : s.sameBytesBut (s.slotted u i ring p) (slotAddr ring (s.qSlots u i) p.seq) 16 := fun b hb => by
  rw [slotted, rd8_add64]
  exact wrLe_sameBytesBut b hb

theorem rdLe_slotted : (s.slotted u i ring p).rdLe (slotAddr ring (s.qSlots u i) p.seq) 16 = msgBody p := by
  have hb : (s.wrLe (slotAddr ring (s.qSlots u i) p.seq) 16 (msgBody p)).sameBytes (s.slotted u i ring p) := fun b =>
    rd8_add64
  rw [rdLe_sameBytes hb, rdLe_wrLe_self]
  exact Nat.mod_eq_of_lt (bits_lt _ 0 128)

theorem slotted_side : RegsBut (queueSide u) s (s.slotted u i ring p) := by
  unfold slotted
  rw [qr_addr]
  have h4 : qPlace u 0x33038 + 4 = qPlace u 0x3303C := by
    unfold qPlace
    split <;> rfl
  refine add64_regsBut (.inl ⟨_, by decide, by decide, rfl⟩) ?_ (wrLe_regsBut (fun _ => queueSide_write) .refl)
  rw [h4]
  exact .inl ⟨_, by decide, by decide, rfl⟩

/-- The fill map stands after the slots. -/
theorem fillBit_slotted (hn : 0 < s.qSlots u i) : (s.slotted u i ring p).fillBit ring (s.qSlots u i) q =
    s.fillBit ring (s.qSlots u i) q := by
  have hm := Nat.mod_lt p.seq hn
  rw [fillBit, slotted_bytes _ (by simp only [slotAddr]; omega), fillBit]

theorem setFill_bytes {v : Bool} : s.sameBytesBut (s.setFill ring n q v) (ring + 16 * n + q % n / 8) 1 :=
  wrBytes_sameBytesBut

theorem getLsbD_or_one_shiftLeft {x : Byte} {k : Nat} (hk : k < 8) : (x ||| 1 <<< k).getLsbD k = true := by
  have hs : (1 <<< k : Byte).getLsbD k = true := by
    rw [BitVec.natCast_eq_ofNat, BitVec.getLsbD_ofNat, Nat.one_shiftLeft, Nat.testBit_two_pow_self]
    simpa using hk
  rw [BitVec.getLsbD_or, hs, Bool.or_true]

theorem fillBit_setFill : (s.setFill ring n q true).fillBit ring n q = true := by
  have hk : q % n % 8 < 8 := Nat.mod_lt _ (by decide)
  rw [fillBit, setFill, if_pos rfl, wr8, rd8_wrBytes, if_pos ⟨le_rfl, by simp⟩]
  rw [Nat.sub_self, List.getD_cons_zero]
  exact getLsbD_or_one_shiftLeft hk

theorem setFill_side {v : Bool} (h : RegsBut (queueSide u) s₀ s) : RegsBut (queueSide u) s₀ (s.setFill ring n q v) :=
  wrBytes_regsBut (fun _ => queueSide_write) h

/-- A message at the tail of a queue, with none behind it, is visible (R367). -/
theorem accept_tail (hi : i < 1024) (hen : s.get (qr u (Reg.Q_CTRL_EN u)) = 1) (hm : s.qMode u i = 1)
    (hr : s.qRing u i = some ring) (he : msgEpoch p = s.qEpoch u i) (hv : s.qAvail u i < s.qSlots u i)
    (hq : p.seq = (s.qHead u i + s.qAvail u i) % 4096) (hf : s.fillBit ring (s.qSlots u i) p.seq = false)
    (hn : s.qAvail u i + 1 = s.qSlots u i ∨ s.fillBit ring (s.qSlots u i) (p.seq + 1) = false) :
    (s.accept u i true p).rdLe (slotAddr ring (s.qSlots u i) p.seq) 16 = msgBody p ∧
      (s.accept u i true p).qAvail u i = s.qAvail u i + 1 ∧
      s.sameBytesBut (s.accept u i true p) (slotAddr ring (s.qSlots u i) p.seq) 16 := by
  have hh : s.qHead u i < 4096 := qget_lt
  have ha : s.qAvail u i < 4096 := qget_lt
  have h0 : s.aheadOf u i p = 0 := by
    rw [aheadOf, hq]
    omega
  have hk : s.qSlots u i ≤ 2048 := qSlots_le hr
  have hp : (s.slotted u i ring p).passFilled ring (s.qSlots u i) (p.seq + 1) (s.qSlots u i - s.qAvail u i - 1) =
      (s.slotted u i ring p, 0) := by
    refine passFilled_of_clear ?_
    rw [fillBit_slotted (by omega)]
    exact hn.imp_left fun h => by omega
  rw [accept_slotted hen hm hr he (by omega) hf, if_pos h0, hp]
  generalize hx : s.slotted u i ring p = x
  extract_lets y k z
  generalize (if z.anyFill ring (s.qSlots u i) then 1 else 0) = w
  have hs : RegsBut (queueSide u) (z.qput u i 123 1 w) ((z.qput u i 123 1 w).qReady u i) := qReady_side hi .refl
  have hb : x.sameBytes ((z.qput u i 123 1 w).qReady u i) :=
    (qReady_sameBut (F := [.regs, .sent]) (by decide) (qput_sameBut (by decide) (qput_sameBut (s := x) (by decide) .refl))).sameBytes
      rfl rfl
  subst hx
  refine ⟨(rdLe_sameBytes hb).trans rdLe_slotted, ?_, fun b hne => (hb b).trans (slotted_bytes b hne)⟩
  refine (qget_of_side hi (by decide) hs).trans ((qget_qput_off (by decide)).trans ((qget_qput_self (by decide)).trans ?_))
  exact Nat.mod_eq_of_lt (by omega)

/-- A message ahead of the tail waits in its slot (R367). -/
theorem accept_ahead (hi : i < 1024) (hen : s.get (qr u (Reg.Q_CTRL_EN u)) = 1) (hm : s.qMode u i = 1)
    (hr : s.qRing u i = some ring) (he : msgEpoch p = s.qEpoch u i) (h0 : 0 < s.aheadOf u i p)
    (hv : s.aheadOf u i p + s.qAvail u i < s.qSlots u i) (hf : s.fillBit ring (s.qSlots u i) p.seq = false) :
    (s.accept u i true p).rdLe (slotAddr ring (s.qSlots u i) p.seq) 16 = msgBody p ∧
      (s.accept u i true p).fillBit ring (s.qSlots u i) p.seq = true ∧
      (s.accept u i true p).qget u i 123 1 = 1 ∧ (s.accept u i true p).qAvail u i = s.qAvail u i := by
  have hm := Nat.mod_lt p.seq (show 0 < s.qSlots u i by omega)
  rw [accept_slotted hen ‹_› hr he hv hf, if_neg (by omega)]
  generalize hx : (s.slotted u i ring p).setFill ring (s.qSlots u i) p.seq true = x
  have hb : x.sameBytes (x.qput u i 123 1 1) := fun b => rd8_congr rfl rfl
  have hs : RegsBut (queueSide u) s x := by
    rw [← hx]
    exact setFill_side slotted_side
  refine ⟨(rdLe_sameBytes hb).trans ?_, ?_, qget_qput_self (by decide), ?_⟩
  · rw [← hx, ← rdLe_slotted (s := s) (u := u) (i := i) (ring := ring), rdLe, rdLe]
    exact congrArg ofLe (rdBytes_congr fun b hlo hhi => setFill_bytes b (by simp only [slotAddr] at hlo hhi; omega))
  · rw [fillBit, hb, ← hx]
    exact fillBit_setFill
  · exact (qget_qput_off (by decide)).trans (qget_of_side hi (by decide) hs)

/-! The message that the unit takes from its router. -/

/-- A unit whose first message has left its intake. -/
def taken (s : State) (u : Nat) : State := s.onMesh fun m => { m with msgIn := m.msgIn.drop1 u }

theorem receiveMsg_of_cons (h : s.mesh.msgIn.at u = p :: rest) : s.receiveMsg u none =
    (s.taken u).accept u (msgQueue p) (s.fromPeer u (msgQueue p) p) p := by
  unfold receiveMsg
  rw [h]
  rfl

theorem fwRepair_of_stage {m : Nat} (h : s.start.stage ≠ 4 ∧ s.start.stage ≠ 5) : s.fwRepair m = s := if_pos (.inl h)

/-- A message that is not tile firmware's, or comes outside the firmware's stages, does no more than reach its queue. -/
theorem messageTake_of_plain (h : s.mesh.msgIn.at u = p :: rest)
    (hw : u = 1152 → 576 ≤ msgQueue p ∨ (s.start.stage ≠ 4 ∧ s.start.stage ≠ 5)) :
    s.messageTake u none = s.receiveMsg u none := by
  have hs : (s.receiveMsg u none).start = s.start :=
    (receiveMsg_sameBut (F := [.regs, .mem, .events, .mesh, .once, .objs, .fault, .sent, .fw]) (by decide) .refl).eq
      (f := State.start) fun _ => rfl
  unfold messageTake
  rw [h]
  dsimp only
  split
  next hc =>
    refine fwRepair_of_stage ?_
    rw [hs]
    exact (hw hc.1).resolve_left (by omega)
  · rfl

/-- A message that no queue stores does no more than that. -/
theorem messageTake_of_dropped (h : s.mesh.msgIn.at u = p :: rest)
    (hk : (s.receiveMsg u none).get64 (qPlace u 0x33038) = s.get64 (qPlace u 0x33038)) :
    s.messageTake u none = s.receiveMsg u none := by
  unfold messageTake
  rw [h, qr_addr]
  exact if_neg fun hc => hc.2.2 hk

theorem accept_intake {mine : Bool} : ((s.taken u).accept u i mine p).mesh.msgIn.at u = (s.mesh.msgIn.at u).tail := by
  rw [(accept_sameBut (F := [.regs, .mem, .events, .sent, .fw]) (by decide) (.refl (s := s.taken u))).eq (f := State.mesh)
    fun _ => rfl]
  exact Lists.at_put.trans (if_pos rfl)

end Sys2Proof.Machine.State
end

section
set_option Elab.async false
/-! PROOFS. What the queue units' commands do, put together (R361 to R372). -/

namespace Sys2Proof.Machine.State

variable {s t s₀ x : State} {u i n q ring : Nat} {p : Pip} {rest : List Pip}

theorem taken_bytes : s.sameBytes (s.taken u) := fun _ => rd8_congr rfl rfl

theorem taken_fillBit : (s.taken u).fillBit ring n q = s.fillBit ring n q := by
  rw [fillBit, taken_bytes, fillBit]

theorem receive_tail (hi : i < 1024) (h : s.mesh.msgIn.at u = p :: rest) (hk : msgQueue p = i)
    (hen : s.get (qr u (Reg.Q_CTRL_EN u)) = 1) (hm : s.qMode u i = 1)
    (hr : s.qRing u i = some ring) (he : msgEpoch p = s.qEpoch u i) (hp : s.fromPeer u i p = true)
    (hv : s.qAvail u i < s.qSlots u i)
    (hq : p.seq = (s.qHead u i + s.qAvail u i) % 4096) (hf : s.fillBit ring (s.qSlots u i) p.seq = false)
    (hn : s.qAvail u i + 1 = s.qSlots u i ∨ s.fillBit ring (s.qSlots u i) (p.seq + 1) = false) :
    (s.receiveMsg u none).mesh.msgIn.at u = rest ∧
      (s.receiveMsg u none).rdLe (slotAddr ring (s.qSlots u i) p.seq) 16 = msgBody p ∧
      (s.receiveMsg u none).qAvail u i = s.qAvail u i + 1 ∧
      s.sameBytesBut (s.receiveMsg u none) (slotAddr ring (s.qSlots u i) p.seq) 16 := by
  rw [receiveMsg_of_cons h, hk, hp]
  obtain ⟨h1, h2, h3⟩ := accept_tail (s := s.taken u) hi hen hm hr he hv hq (taken_fillBit.trans hf)
    (hn.imp_right taken_fillBit.trans)
  refine ⟨accept_intake.trans (by rw [h]; rfl), h1, h2, fun b hb => (h3 b hb).trans (taken_bytes b)⟩

theorem receive_ahead (hi : i < 1024) (h : s.mesh.msgIn.at u = p :: rest) (hk : msgQueue p = i)
    (hen : s.get (qr u (Reg.Q_CTRL_EN u)) = 1) (hm : s.qMode u i = 1)
    (hr : s.qRing u i = some ring) (he : msgEpoch p = s.qEpoch u i) (hp : s.fromPeer u i p = true)
    (h0 : 0 < s.aheadOf u i p) (hv : s.aheadOf u i p + s.qAvail u i < s.qSlots u i)
    (hf : s.fillBit ring (s.qSlots u i) p.seq = false) :
    (s.receiveMsg u none).mesh.msgIn.at u = rest ∧
      (s.receiveMsg u none).rdLe (slotAddr ring (s.qSlots u i) p.seq) 16 = msgBody p ∧
      (s.receiveMsg u none).fillBit ring (s.qSlots u i) p.seq = true ∧
      (s.receiveMsg u none).qget u i 123 1 = 1 ∧ (s.receiveMsg u none).qAvail u i = s.qAvail u i := by
  rw [receiveMsg_of_cons h, hk, hp]
  obtain ⟨h1, h2, h3, h4⟩ := accept_ahead (s := s.taken u) hi hen hm hr he h0 hv (taken_fillBit.trans hf)
  exact ⟨accept_intake.trans (by rw [h]; rfl), h1, h2, h3, h4⟩

/-- Q_RX outlives what a unit drops. -/
theorem get64_qDropped {o lo len : Nat} (h : o < 0x36000) (h4 : o ≠ 0x33038) (h5 : o ≠ 0x3303C) :
    (s.qDropped u ⟨tileBase u + o, lo, len⟩).get64 (qPlace u 0x33038) = s.get64 (qPlace u 0x33038) := by
  refine RegsBut.get64 qDropped_side ?_ ?_
  · unfold qPlace
    split
    · omega
    · rw [if_pos (by decide), if_pos (by omega)]
      omega
  · unfold qPlace
    split
    · omega
    · rw [if_pos (by decide), if_pos (by omega)]
      omega

theorem receive_closed (h : s.mesh.msgIn.at u = p :: rest) (hk : msgQueue p = i)
    (hc : s.get (qr u (Reg.Q_CTRL_EN u)) = 0 ∨ s.qMode u i ≠ 1 ∨ s.qRing u i = none) :
    s.messageTake u none = (s.taken u).qDropped u (Reg.Q_DROP_CLOSED_COUNT u) ∧
      (s.messageTake u none).mesh.msgIn.at u = rest := by
  have hr : s.receiveMsg u none = (s.taken u).qDropped u (Reg.Q_DROP_CLOSED_COUNT u) := by
    rw [receiveMsg_of_cons h, hk]
    exact accept_closed hc
  have ht : s.messageTake u none = s.receiveMsg u none := by
    refine messageTake_of_dropped h ?_
    rw [hr]
    exact get64_qDropped (by decide) (by decide) (by decide)
  refine ⟨ht.trans hr, ?_⟩
  rw [ht, receiveMsg_of_cons h, accept_intake, h]
  rfl

theorem receive_stale (h : s.mesh.msgIn.at u = p :: rest) (hk : msgQueue p = i)
    (hen : s.get (qr u (Reg.Q_CTRL_EN u)) = 1) (hm : s.qMode u i = 1) (hr : s.qRing u i = some ring)
    (he : msgEpoch p ≠ s.qEpoch u i) :
    s.messageTake u none = ((s.taken u).qDropped u (Reg.Q_DROP_STALE_COUNT u)).qput u i 122 1 1 ∧
      (s.messageTake u none).mesh.msgIn.at u = rest := by
  have hx : s.receiveMsg u none = ((s.taken u).qDropped u (Reg.Q_DROP_STALE_COUNT u)).qput u i 122 1 1 := by
    rw [receiveMsg_of_cons h, hk]
    exact accept_stale hen hm hr he
  have ht : s.messageTake u none = s.receiveMsg u none := by
    refine messageTake_of_dropped h ?_
    rw [hx]
    refine Eq.trans ?_ (get64_qDropped (s := s.taken u) (u := u) (o := 0x33044) (lo := 0) (len := 32) (by decide) (by decide)
      (by decide))
    have hq : ∀ o, 0x33000 ≤ o → o < 0x37000 → qPlace u o ≠ (qf u i 122 1).addr := fun o hlo hhi hf => by
      have hd := offDescriptor_control (i := i) (u := u) (a := qPlace u o) ⟨o, hlo, hhi, rfl⟩
      rw [hf] at hd
      exact not_offDescriptor_qf (by decide) hd
    have h4 : qPlace u 0x33038 + 4 = qPlace u 0x3303C := by
      unfold qPlace
      split <;> rfl
    refine RegsBut.get64 (B := fun a => a = (qf u i 122 1).addr) (qput_regsBut rfl .refl) (hq _ (by decide) (by decide)) ?_
    rw [h4]
    exact hq _ (by decide) (by decide)
  refine ⟨ht.trans hx, ?_⟩
  rw [ht, receiveMsg_of_cons h, accept_intake, h]
  rfl

theorem sameBytes_withQueue {l : List Instr} (h : s.sameBytes t) : s.sameBytes (t.withQueue l) := fun a => h a

/-- CLOSE of an endpoint clears its mode (R362). -/
theorem closeTx_result (hi : i < 1024) (hg : s.guardOwns u i = false) (hm : s.qMode u i = 2) :
    (s.closeQueue u i).qMode u i = 0 ∧ (s.closeQueue u i).get (qr u (Reg.Q_CMD_RESULT_STATUS u)) = 0 ∧
      s.sameRegs (s.closeQueue u i) [(qf u i 0 2).addr, (qr u (Reg.Q_CMD_RESULT_STATUS u)).addr] := by
  rw [closeQueue_of_tx hg hm]
  have ha : (qr u (Reg.Q_CMD_RESULT_VALID u)).addr = (qr u (Reg.Q_CMD_RESULT_STATUS u)).addr := by rw [qr_addr, qr_addr]
  have hs : RegsBut (queueSide u) (s.qput u i 0 2 0) ((s.qput u i 0 2 0).qResult u .ok) := qResult_side .refl
  refine ⟨(qget_of_side hi (by decide) hs).trans (qget_qput_self (by decide)), get_qResult, fun a h => ?_⟩
  simp only [List.mem_cons, List.not_mem_nil, or_false, not_or] at h
  rw [qResult, reg_put_of_ne (by rw [ha]; exact h.2), reg_put_of_ne h.2, qput, reg_put_of_ne h.1]

/-- A send whose message left goes with the credit and the number that it took. -/
theorem queueSend_completes {u : Fin 1153} {i : Fin 1024} {f : Mesh → Mesh} {P : State → Prop} (hg : s.guardOwns u.val i.val = false)
    (hc : 0 < s.qget u.val i.val 64 12) (ho : s.offer u.val i.val (s.txBody u.val) =
      ⟨(s.charged u.val i.val).onMesh f, .ok, false, s.qget u.val i.val 76 12⟩)
    (hP : ∀ t : State, t.mesh.msgs = (f s.mesh).msgs → t.mesh.msgIn = (f s.mesh).msgIn →
      t.qget u.val i.val 64 12 = s.qget u.val i.val 64 12 - 1 → t.qget u.val i.val 76 12 = (s.qget u.val i.val 76 12 + 1) % 4096 →
      t.get (qr u.val (Reg.Q_SEND_RESULT_STATUS u.val)) = 0 → s.sameBytes t → P t) : s.completes (.queueSend u i) P := by
  obtain ⟨h1, h2, h3⟩ := queueSend_result i.isLt hg hc ho
  obtain ⟨-, hm, hn⟩ := queueSend_side hg ho
  exact completes_done rfl (hP _ hm hn h1 h2 h3 (sameBytes_withQueue
    ((queueSend_sameBut (F := [.regs, .mesh]) (by decide) .refl).sameBytes rfl rfl)))

theorem creditReturn_completes {u : Fin 1153} {j : Nat} {s₁ : State} (ht : s.takeCtrl u.val 0x03 = some (p, s₁))
    (he : s₁.endpointOf u.val (p.b 0 16) (p.b 16 16) = some j) (h97 : s₁.qget u.val j 97 1 = 1)
    (h96 : s₁.qget u.val j 96 1 = 0) (hep : p.b 32 8 = s₁.qEpoch u.val j) :
    s.completes (.creditReturnReceive u) fun t => t.qget u.val j 64 12 = min 2048 (s.qget u.val j 64 12 + p.b 40 16) ∧
      s.sameRegs t [(qf u.val j 64 12).addr] ∧ s.sameBytes t := by
  obtain ⟨f, rfl⟩ := takeCtrl_onMesh ht
  have hr : RegsBut (fun a => a ∈ [(qf u.val j 64 12).addr]) s
      ((s.onMesh f).qput u.val j 64 12 (min 2048 ((s.onMesh f).qget u.val j 64 12 + p.b 40 16))) :=
    qput_regsBut List.mem_cons_self (onMesh_regsBut .refl)
  refine completes_done ((creditReturn_done ht he).trans (congrArg s.done (applyCredit_of_return h97 h96 hep)))
    ⟨?_, fun a ha => reg_withQueue.trans (hr a ha), sameBytes_withQueue fun a => rd8_congr rfl rfl⟩
  refine (qget_qput_self (by decide)).trans (Nat.mod_eq_of_lt ?_)
  exact (Nat.min_le_left _ _).trans_lt (by decide)

theorem creditRevoke_completes {u : Fin 1153} {j : Nat} {s₁ : State} (ht : s.takeCtrl u.val 0x04 = some (p, s₁))
    (he : s₁.endpointOf u.val (p.b 0 16) (p.b 16 16) = some j) (h97 : s₁.qget u.val j 97 1 = 1)
    (h96 : s₁.qget u.val j 96 1 = 0) (hep : newer (p.b 32 8) (s₁.qEpoch u.val j) = true) :
    s.completes (.creditRevokeReceive u) fun t => t.qget u.val j 64 12 = 0 ∧ t.qget u.val j 96 1 = 1 ∧
      t.qget u.val j 88 8 = p.b 32 8 ∧ t.qget u.val j 98 12 = 0 ∧ s.sameBytes t := by
  obtain ⟨f, rfl⟩ := takeCtrl_onMesh ht
  have hb : p.b 32 8 % 256 = p.b 32 8 := Nat.mod_eq_of_lt (bits_lt _ 32 8)
  refine completes_done ((creditRevoke_done ht he).trans (congrArg s.done (applyCredit_of_revoke h97 h96 hep)))
    ⟨?_, ?_, ?_, ?_, sameBytes_withQueue fun a => rd8_congr rfl rfl⟩ <;> rw [qget_withQueue]
  · simp [qget_qput_off, qget_qput_self]
  · simp [qget_qput_off, qget_qput_self]
  · simpa [qget_qput_off, qget_qput_self] using hb
  · simp [qget_qput_self]

theorem receiveClosed_completes {u : Fin 1153} (h : s.mesh.msgIn.at u.val = p :: rest) (hk : msgQueue p = i)
    (hc : s.get (qr u.val (Reg.Q_CTRL_EN u.val)) = 0 ∨ s.qMode u.val i ≠ 1 ∨ s.qRing u.val i = none) :
    s.completes (.messageReceive u none) fun t => t.mesh.msgIn.at u.val = rest ∧
      t.get (qr u.val (Reg.Q_DROP_CLOSED_COUNT u.val)) = satInc (qr u.val (Reg.Q_DROP_CLOSED_COUNT u.val)).len
        (s.get (qr u.val (Reg.Q_DROP_CLOSED_COUNT u.val))) 1 ∧ s.sameBytes t := by
  obtain ⟨h1, h2⟩ := receive_closed h hk hc
  refine completes_done rfl ⟨h2, ?_, sameBytes_withQueue ?_⟩
  · rw [get_withQueue, h1]
    exact get_qDropped (by simp)
  · rw [h1]
    exact (qDropped_sameBut (F := [.regs, .sent, .mesh]) (by decide) (onMesh_sameBut (by decide) .refl)).sameBytes rfl rfl

theorem receiveStale_completes {u : Fin 1153} (h : s.mesh.msgIn.at u.val = p :: rest) (hk : msgQueue p = i)
    (hen : s.get (qr u.val (Reg.Q_CTRL_EN u.val)) = 1) (hm : s.qMode u.val i = 1) (hr : s.qRing u.val i = some ring)
    (he : msgEpoch p ≠ s.qEpoch u.val i) :
    s.completes (.messageReceive u none) fun t => t.mesh.msgIn.at u.val = rest ∧ t.qget u.val i 122 1 = 1 ∧
      t.get (qr u.val (Reg.Q_DROP_STALE_COUNT u.val)) = satInc (qr u.val (Reg.Q_DROP_STALE_COUNT u.val)).len
        (s.get (qr u.val (Reg.Q_DROP_STALE_COUNT u.val))) 1 ∧ s.sameBytes t := by
  obtain ⟨h1, h2⟩ := receive_stale h hk hen hm hr he
  refine completes_done rfl ⟨h2, ?_, ?_, sameBytes_withQueue ?_⟩
  · rw [qget_withQueue, h1]
    exact qget_qput_self (by decide)
  · rw [get_withQueue, h1, get_qput_control (queueControl_qr (by decide) (by decide))]
    exact get_qDropped (by simp)
  · rw [h1]
    exact (qput_sameBut (F := [.regs, .sent, .mesh]) (by decide)
      (qDropped_sameBut (by decide) (onMesh_sameBut (by decide) .refl))).sameBytes rfl rfl

/-- Settles O49: each command by what it leaves of the descriptor, for no two fields of a unit's descriptors share a bit. -/
theorem queueCommandsComplete : Obligations.QueueCommandsComplete := by
  unfold Obligations.QueueCommandsComplete
  intro s u i
  have hi := i.isLt
  refine ⟨fun hg hm hr => ?_, fun hm hc => ?_, fun hg hm => ?_, fun hg hm => ?_, fun hg hm => ?_,
    fun hg hm hj => ?_, fun hg hm hp => ?_, fun hg hm hb hself ht h96 h97 hc hl => ?_,
    fun p s₁ j ht he h97 h96 hep => creditReturn_completes ht he h97 h96 hep,
    fun p s₁ j ht he h97 h96 hep => creditRevoke_completes ht he h97 h96 hep,
    fun n hm h120 h1 hn hg => ?_, fun hd => ?_, fun hg hm h120 h123 h121 ho => ?_,
    fun hg hm hb hu h52 h96 h97 hc hl => ?_, fun p rest ring h hk hw hen hm hr he hp hv hq hf hn => ?_,
    fun p rest ring h hk hw hen hm hr he hp h0 hv hf => ?_, fun p rest h hk hc => receiveClosed_completes h hk hc,
    fun p rest ring h hk hen hm hr he => receiveStale_completes h hk hen hm hr he⟩
  · obtain ⟨h1, h2, h3, h4, h5⟩ := openRx_result hi hg hm hr
    exact completes_done rfl ⟨h1, h2, h3, h4, h5, sameBytes_withQueue
      ((openRx_sameBut (F := [.regs, .clearing, .creditDue, .oooSeen, .sent]) (by decide) .refl).sameBytes rfl rfl)⟩
  · obtain ⟨h1, h2, h3⟩ := fillCleared_result hi hm hc
    exact completes_done rfl ⟨h1, h2, h3⟩
  · obtain ⟨h1, h2, h3, h4, h5⟩ := resetRx_result hi hg hm
    exact completes_done rfl ⟨h1, h2, h3, h4, h5, sameBytes_withQueue
      ((resetRx_sameBut (F := [.regs, .mesh, .clearing, .creditDue, .oooSeen, .sent]) (by decide) .refl).sameBytes rfl rfl)⟩
  · obtain ⟨h1, h2, h3, h4⟩ := closeQueue_rx_result hi hg hm
    exact completes_done rfl ⟨h1, h2, h3, h4, sameBytes_withQueue
      ((closeQueue_sameBut (F := [.regs, .mesh, .clearing, .creditDue, .sent]) (by decide) .refl).sameBytes rfl rfl)⟩
  · obtain ⟨h1, h2, h3⟩ := closeTx_result hi hg hm
    exact completes_done rfl ⟨h1, h2, h3, sameBytes_withQueue
      ((closeQueue_sameBut (F := [.regs, .mesh, .clearing, .creditDue, .sent]) (by decide) .refl).sameBytes rfl rfl)⟩
  · obtain ⟨h1, h2, h3, h4, h5⟩ := openTx_result hi hg hm hj
    exact completes_done rfl ⟨h1, h2, h3, h4, h5, sameBytes_withQueue
      ((openTx_sameBut (F := [.regs]) (by decide) .refl).sameBytes rfl rfl)⟩
  · obtain ⟨h1, h2, h3, h4, h5⟩ := ackEpoch_result hi hg hm hp
    exact completes_done rfl ⟨h1, h2, h3, h4, h5, sameBytes_withQueue
      ((ackEpoch_sameBut (F := [.regs]) (by decide) .refl).sameBytes rfl rfl)⟩
  · obtain ⟨p, q, ho⟩ := offer_of_credit (body := s.txBody u.val) hm hb ht h96 h97 hc hl
    rw [if_neg fun h => hself.elim (fun hu => hu h.2) (fun hx => hx h.1)] at ho
    refine queueSend_completes hg hc ho fun t hms _ h1 h2 h3 h4 => ⟨?_, h1, h2, h3, h4⟩
    rw [hms, Lists.push, Lists.at_put, if_pos rfl, List.length_append]
    rfl
  · obtain ⟨h1, h2, h3, h4⟩ := queuePop_result hi hm h120 h1 hn hg
    exact completes_done rfl ⟨h1, h2, h3, h4, sameBytes_withQueue
      ((queuePop_sameBut (F := [.regs, .mesh, .creditDue, .sent]) (by decide) .refl).sameBytes rfl rfl)⟩
  · obtain ⟨x, hx⟩ := returnCredits_of_due hd
    have h1 := x.returnOne_result (u := u.val) (i := i.val)
    rw [← hx] at h1
    exact completes_done rfl ⟨h1.1, h1.2, sameBytes_withQueue
      ((returnCredits_sameBut (F := [.regs, .mesh, .creditDue]) (by decide) .refl).sameBytes rfl rfl)⟩
  · exact completes_done rfl ⟨gapScan_flags hi hg ⟨hm, h120, h123, h121, ho⟩, sameBytes_withQueue
      ((gapScan_sameBut (F := [.regs, .events, .objs, .oooSeen, .sent]) (by decide) .refl).sameBytes rfl rfl)⟩
  · obtain ⟨p, q, ho⟩ := offer_of_credit (body := s.txBody u.val) hm hb (.inl h52) h96 h97 hc hl
    rw [if_pos ⟨h52, hu⟩] at ho
    refine queueSend_completes hg hc ho fun t _ hms h1 h2 h3 h4 => ⟨?_, h1, h2, h3, h4⟩
    rw [hms, Lists.push, Lists.at_put, if_pos rfl, List.length_append]
    rfl
  · obtain ⟨h1, h2, h3, h4⟩ := receive_tail hi h hk hen hm hr he hp hv hq hf hn
    exact completes_done (congrArg s.done (messageTake_of_plain h (hk ▸ hw)))
      ⟨h1, (rdLe_sameBytes fun _ => rfl).trans h2, h3, h4⟩
  · obtain ⟨h1, h2, h3, h4, h5⟩ := receive_ahead hi h hk hen hm hr he hp h0 hv hf
    exact completes_done (congrArg s.done (messageTake_of_plain h (hk ▸ hw)))
      ⟨h1, (rdLe_sameBytes fun _ => rfl).trans h2, h3, h4, h5⟩

end Sys2Proof.Machine.State
end

section
set_option Elab.async false
/-! PROOFS. The egress guard and the GPIO inputs (R464 to R468). -/

namespace Sys2Proof.Machine.State

variable {s t s₀ : State} {B : Nat → Prop} {n m i : Nat} {x : Int}

/-! What a channel's own work writes. -/

/-- The registers that a look at channel `n` may change. -/
def lookRegs (n a : Nat) : Prop := a = Reg.EGR_CH_STATUS n ∨ a = Reg.EGR_CH_LAST n ∨ sinkRegs a

theorem guardChannel_look (h : RegsBut (lookRegs n) s₀ s) : RegsBut (lookRegs n) s₀ (s.guardChannel n) := by
  have hs : lookRegs n (Reg.EGR_CH_STATUS n) := .inl rfl
  have hk : ∀ a, sinkRegs a → lookRegs n a := fun a ha => .inr (.inr ha)
  unfold guardChannel
  refine keeps_ite (keeps_ite (put_regsBut hs h) (put_regsBut hs h)) (keeps_ite h ?_)
  refine msix_regsBut (hk _ ?_) (log_regsBut (hk _ ?_) (sink_regsBut hk (setReg_regsBut (.inr (.inl rfl)) (onGuard_regsBut
    (put_regsBut hs (put_regsBut hs h))))))
  · exact .inr (.inr (.inr (.inr (.inl rfl))))
  · exact .inr (.inr (.inr (.inr (.inr (.inl (.inr (.inr rfl)))))))

theorem not_sinkRegs {a : Nat} (hlo : a < 0x107001C ∨ 0x1070024 ≤ a) (hhi : a < 0x1072000) : ¬sinkRegs a := by
  simp only [sinkRegs, inCan, writeRegs, injectRegs, Reg.EGR_GPO_STAT, Reg.EGR_HOST_PTR, Reg.EGR_HOST_DROP,
    Reg.HOST_IRQ_STAT, Reg.DBG_INJ_STAT, Reg.DBG_INJ_DONE, Reg.FLT_LOG_LOST, Reg.SEC_SIG_STAT]
  intro h
  omega

/-- A channel with a cause is safe after the guard has looked at it (R467). -/
theorem guardChannel_safe (hn : n < 64) (hc : s.causes n ≠ 0) : (s.guardChannel n).get (Reg.EGR_CH_STATUS_SAFE n) = 1 := by
  have hA := not_sinkRegs (a := Reg.EGR_CH_STATUS n) (by simp only [Reg.EGR_CH_STATUS]; omega)
    (by simp only [Reg.EGR_CH_STATUS]; omega)
  unfold guardChannel
  extract_lets c u w
  split
  next hs =>
    have h1 := s.get_lt (f := Reg.EGR_CH_STATUS_SAFE n)
    have h0 := flag_eq_true.1 hs
    rw [get_put_clear (.inl (by simp))]
    simp only at h1
    omega
  · have hk := sink_regsBut (s := w) (n := n) (v := w.egrInt (Reg.EGR_CH_SAFE n)) (fun _ => id) fun a _ => rfl
    have hw : (w.sink n (w.egrInt (Reg.EGR_CH_SAFE n))).reg (Reg.EGR_CH_STATUS n) = w.reg (Reg.EGR_CH_STATUS n) :=
      (hk _ hA).trans (reg_setReg.trans (if_neg (by simp)))
    have hr : RegsBut sinkRegs (w.sink n (w.egrInt (Reg.EGR_CH_SAFE n)))
        (((w.sink n (w.egrInt (Reg.EGR_CH_SAFE n))).log .egr 0 0x5502 srcManager c).msix 14) :=
      msix_regsBut (.inr (.inr (.inr (.inr (.inl rfl))))) (log_regsBut (.inr (.inr (.inr (.inr (.inr (.inl (.inr (.inr rfl)))))))) .refl)
    rw [get, hr _ hA, hw]
    change w.get (Reg.EGR_CH_STATUS_SAFE n) = 1
    simp [w, u, get_put_clear, get_put_self]

/-! Causes (R467). -/

theorem causes_of_force (h : (s.flag (Reg.EGR_CH_CTRL_FORCE_SAFE n) || s.flag Reg.EGR_FORCE_ALL) = true) : s.causes n ≠ 0 := by
  simp [causes, h]

theorem silent_of_no_cause (h : s.causes n = 0) : s.guard.silent.contains n = false := by
  by_contra hc
  have hm : n ∈ s.guard.silent := by simpa using hc
  simp [causes, hm] at h

/-- A look at what a channel's value comes with leaves its causes. -/
theorem causes_congr (hr : ∀ f : RF, f.addr ≠ Reg.TB_COUNT_LO → f.addr ≠ Reg.TB_COUNT_LO + 4 → t.get f = s.get f)
    (hs : t.guard.silent.contains n = s.guard.silent.contains n) (hp : t.power.safe = s.power.safe) :
    t.causes n = s.causes n := by
  have hf : ∀ f : RF, f.addr ≠ Reg.TB_COUNT_LO → f.addr ≠ Reg.TB_COUNT_LO + 4 → t.flag f = s.flag f := fun f h h' =>
    flag_congr (hr f h h')
  have hg : t.gateShut n = s.gateShut n := by
    have hpin : t.get (Reg.EGR_CH_CTRL_GATE_PIN n) = s.get (Reg.EGR_CH_CTRL_GATE_PIN n) :=
      hr _ (by simp only [Reg.EGR_CH_CTRL, Reg.TB_COUNT_LO]; omega) (by simp only [Reg.EGR_CH_CTRL, Reg.TB_COUNT_LO]; omega)
    simp only [gateShut, gpiForced, hpin]
    generalize s.get (Reg.EGR_CH_CTRL_GATE_PIN n) = i
    have hi : ∀ o, (0x1065000 + o + 0x10 * i) ≠ Reg.TB_COUNT_LO ∧ (0x1065000 + o + 0x10 * i) ≠ Reg.TB_COUNT_LO + 4 := fun o => by
      simp only [Reg.TB_COUNT_LO]
      omega
    rw [hf (Reg.EGR_CH_CTRL_GATE_EN n) (by simp only [Reg.EGR_CH_CTRL, Reg.TB_COUNT_LO]; omega)
      (by simp only [Reg.EGR_CH_CTRL, Reg.TB_COUNT_LO]; omega), hr (Reg.SEN_GPI_CFG_POLICY i) (hi 0).1 (hi 0).2,
      hf (Reg.SEN_GPI_STAT_OVERRUN i) (hi 8).1 (hi 8).2, hf (Reg.SEN_GPI_STAT_STUCK i) (hi 8).1 (hi 8).2,
      hr (Reg.SEN_GPI_STAT_GATE i) (hi 8).1 (hi 8).2, hr (Reg.SEN_GPI_CFG_ACTIVE_LOW i) (hi 0).1 (hi 0).2]
  have hl : t.lifecycleSafe = s.lifecycleSafe := by
    unfold lifecycleSafe
    rw [hr _ (by decide) (by decide)]
  unfold causes
  rw [hf (Reg.EGR_CH_CTRL_EN n) (by simp only [Reg.EGR_CH_CTRL, Reg.TB_COUNT_LO]; omega)
    (by simp only [Reg.EGR_CH_CTRL, Reg.TB_COUNT_LO]; omega), hf (Reg.EGR_CH_CTRL_FORCE_SAFE n)
    (by simp only [Reg.EGR_CH_CTRL, Reg.TB_COUNT_LO]; omega) (by simp only [Reg.EGR_CH_CTRL, Reg.TB_COUNT_LO]; omega),
    hf Reg.EGR_FORCE_ALL (by decide) (by decide), hf Reg.FLT_WDOG_STAT_EXPIRED (by decide) (by decide), hl,
    hf Reg.SEC_HUSK_STAT_WIPING (by decide) (by decide), hf Reg.EGR_CTRL_SAFE_ALL (by decide) (by decide), hs, hg, hp]

theorem causes_reach {d : Nat} : (s.reach d).causes n = s.causes n := by
  have hr : SameBut [.regs] s (s.reach d) := reach_sameBut (by decide) .refl
  exact causes_congr (fun f h h' => get_reach_addr h h') (by rw [hr.eq (f := State.guard) fun _ => rfl])
    (by rw [hr.eq (f := State.power) fun _ => rfl])

theorem heard_causes (h : s.causes n = 0) {f : Guard → Guard} (hf : (f s.guard).silent = s.guard.silent.filter fun m => m ≠ n) :
    (s.onGuard f).causes n = 0 := by
  have hc := silent_of_no_cause h
  rw [← h]
  refine causes_congr (fun _ _ _ => rfl) ?_ rfl
  change (f s.guard).silent.contains n = _
  rw [hf, hc]
  simp

/-! A value that goes out (R468). -/

theorem guardEmit_own (hn : n < 64) (hx : -(2 ^ 31) ≤ x) (hx' : x < 2 ^ 31) :
    (s.guardEmit n x).egrInt (Reg.EGR_CH_LAST n) = x ∧
      (s.guardEmit n x).get (Reg.EGR_CH_EMIT_COUNT n) =
        satInc (Reg.EGR_CH_EMIT_COUNT n).len (s.get (Reg.EGR_CH_EMIT_COUNT n)) 1 := by
  have hk : RegsBut sinkRegs (s.setReg (Reg.EGR_CH_LAST n) (BitVec.ofNat 32 (toBits 32 x))) (s.sink n x) :=
    sink_regsBut (fun _ => id) .refl
  have hl : ¬sinkRegs (Reg.EGR_CH_LAST n) := not_sinkRegs (by simp only [Reg.EGR_CH_LAST]; omega) (by simp only [Reg.EGR_CH_LAST]; omega)
  have he : ¬sinkRegs (Reg.EGR_CH_EMIT n) := not_sinkRegs (by simp only [Reg.EGR_CH_EMIT]; omega) (by simp only [Reg.EGR_CH_EMIT]; omega)
  have hL : (s.guardEmit n x).reg (Reg.EGR_CH_LAST n) = BitVec.ofNat 32 (toBits 32 x) := by
    refine (reg_congr (s := (s.sink n x).count (Reg.EGR_CH_EMIT_COUNT n)) rfl).trans ?_
    rw [count, reg_put_of_ne (by simp), hk _ hl, reg_setReg, if_pos rfl]
  have hE : (s.sink n x).get (Reg.EGR_CH_EMIT_COUNT n) = s.get (Reg.EGR_CH_EMIT_COUNT n) :=
    (hk.get he).trans (get_setReg_addr (by simp))
  refine ⟨?_, ?_⟩
  · rw [egrInt, hL, sext_toBits hx hx']
  · refine (get_congr (s := (s.sink n x).count (Reg.EGR_CH_EMIT_COUNT n)) rfl).trans ?_
    rw [get_count_self (by simp), hE]

theorem sat_bounds {y lo hi a b : Int} (hy : a ≤ y ∧ y < b) (hl : a ≤ lo ∧ lo < b) (hh : a ≤ hi ∧ hi < b) :
    a ≤ sat y lo hi ∧ sat y lo hi < b := by
  unfold sat
  split_ifs <;> assumption

theorem guardEmit_held : ((s.guardEmit n x).guard.held.find? fun h => h.1 = n) = none := by
  change (((s.sink n x).guard.held.filter fun h => h.1 ≠ n).find? fun h => h.1 = n) = none
  simp

/-- A candidate's value, clamped to the channel's bounds (R468). -/
def clamped (s : State) (n : Nat) (x : Int) : Int := sat x (s.egrInt (Reg.EGR_CH_LO n)) (s.egrInt (Reg.EGR_CH_HI n))

/-- The mark that a channel has heard. -/
def heardOf (s : State) (n : Nat) : State :=
  s.onGuard fun g => { g with heard := g.heard.put n s.now, silent := g.silent.filter fun m => m ≠ n }

/-- The mark of a value that its bounds clamp. -/
def clampCounted (s : State) (n : Nat) (x : Int) : State :=
  if (s.heardOf n).clamped n x = x then s.heardOf n
  else ((s.heardOf n).count (Reg.EGR_CH_CLAMP_COUNT n)).logOnceBy n .egr 0 0x5501 srcManager

theorem clampCounted_regsBut : RegsBut (fun a => a = Reg.EGR_CH_CLAMP n ∨ a = Reg.FLT_LOG_LOST) s (s.clampCounted n x) :=
  keeps_ite (onGuard_regsBut .refl) (logOnceBy_regsBut (.inr rfl) (count_regsBut (.inl rfl) (onGuard_regsBut .refl)))

theorem clampCounted_emitted : (s.clampCounted n x).guard.emitted = s.guard.emitted := by
  unfold clampCounted
  split
  · rfl
  · rw [(logOnceBy_sameBut (F := [.regs, .events, .once]) (by decide)
      (count_sameBut (s := s.heardOf n) (by decide) .refl)).eq (f := State.guard) fun _ => rfl]
    rfl

theorem gapOver_congr (he : t.guard.emitted = s.guard.emitted) (hn : t.now = s.now)
    (hg : t.get (Reg.EGR_CH_GAP_US n) = s.get (Reg.EGR_CH_GAP_US n)) : t.gapOver n = s.gapOver n := by
  unfold gapOver
  rw [he, hn, hg]

/-- A candidate over the dead band of a channel whose gap is over goes out (R468). -/
theorem guardValue_of_due (hn : n < 64) (hc : s.causes n = 0) (hs : s.flag (Reg.EGR_CH_STATUS_SAFE n) = false)
    (hg : s.gapOver n = true)
    (hd : (s.reg (Reg.EGR_CH_DB n)).toNat ≤ (s.clamped n x - s.egrInt (Reg.EGR_CH_LAST n)).natAbs) :
    s.guardValue n x = (s.clampCounted n x).guardEmit n (s.clamped n x) := by
  have hr : RegsBut (fun a => a = Reg.EGR_CH_CLAMP n ∨ a = Reg.FLT_LOG_LOST) s (s.clampCounted n x) := clampCounted_regsBut
  have ho : ∀ a, 0x1071000 ≤ a → a < 0x1072000 → a ≠ Reg.EGR_CH_CLAMP n → ¬(a = Reg.EGR_CH_CLAMP n ∨ a = Reg.FLT_LOG_LOST) :=
    fun a hlo hhi hc h => by
      simp only [Reg.FLT_LOG_LOST] at h
      omega
  have h1 : ¬((s.heardOf n).causes n ≠ 0) := not_not.2 (heard_causes hc rfl)
  have h2 : ¬((s.clampCounted n x).flag (Reg.EGR_CH_STATUS_SAFE n) = true) := by
    rw [hr.flag (ho _ (by simp only [Reg.EGR_CH_STATUS]; omega) (by simp only [Reg.EGR_CH_STATUS]; omega) (by simp)), hs]
    decide
  have h3 : ¬((s.clamped n x - s.egrInt (Reg.EGR_CH_LAST n)).natAbs <
      ((s.clampCounted n x).reg (Reg.EGR_CH_DB n)).toNat) := by
    rw [hr _ (ho _ (by simp only [Reg.EGR_CH_DB]; omega) (by simp only [Reg.EGR_CH_DB]; omega) (by simp))]
    exact not_lt.2 hd
  have h4 : (s.clampCounted n x).gapOver n = true := by
    rw [gapOver_congr clampCounted_emitted, hg]
    · exact hr.get64 (by simp only [Reg.TB_COUNT_LO, Reg.FLT_LOG_LOST, Reg.EGR_CH_CLAMP]; omega)
        (by simp only [Reg.TB_COUNT_LO, Reg.FLT_LOG_LOST, Reg.EGR_CH_CLAMP]; omega)
    · exact hr.get (ho _ (by simp only [Reg.EGR_CH_GAP]; omega) (by simp only [Reg.EGR_CH_GAP]; omega) (by simp))
  exact (if_neg h1).trans ((if_neg h2).trans ((if_neg h3).trans (if_pos h4)))

theorem guardValue_emits (hn : n < 64) (hx : -(2 ^ 31) ≤ x ∧ x < 2 ^ 31) (hc : s.causes n = 0)
    (hs : s.flag (Reg.EGR_CH_STATUS_SAFE n) = false) (hg : s.gapOver n = true)
    (hd : (s.reg (Reg.EGR_CH_DB n)).toNat ≤ (s.clamped n x - s.egrInt (Reg.EGR_CH_LAST n)).natAbs) :
    (s.guardValue n x).egrInt (Reg.EGR_CH_LAST n) = s.clamped n x ∧ (s.guardValue n x).get (Reg.EGR_CH_EMIT_COUNT n) =
      satInc (Reg.EGR_CH_EMIT_COUNT n).len (s.get (Reg.EGR_CH_EMIT_COUNT n)) 1 := by
  have hb := sat_bounds hx (s.egrInt_bounds (a := Reg.EGR_CH_LO n)) (s.egrInt_bounds (a := Reg.EGR_CH_HI n))
  obtain ⟨h1, h2⟩ := guardEmit_own (s := s.clampCounted n x) hn hb.1 hb.2
  rw [guardValue_of_due hn hc hs hg hd]
  refine ⟨h1, h2.trans ?_⟩
  rw [clampCounted_regsBut.get (by simp only [Reg.FLT_LOG_LOST, Reg.EGR_CH_EMIT, Reg.EGR_CH_CLAMP]; omega)]

/-! What the guard leaves. -/

theorem guardValue_regs (hn : n < 64) (hB : ∀ a, guardRegs a → B a) (h : RegsBut B s₀ s) : RegsBut B s₀ (s.guardValue n x) := by
  have hc : ∀ a, 0x1071000 ≤ a → a < 0x1072000 → B a := fun a hlo hhi => hB a (.inl ⟨by omega, by omega⟩)
  have hk : ∀ a, sinkRegs a → B a := fun a ha => hB a (.inr ha)
  have hl : B Reg.FLT_LOG_LOST := hk _ (.inr (.inr (.inr (.inr (.inr (.inl (.inr (.inr rfl))))))))
  have hst : B (Reg.EGR_CH_STATUS n) := hc _ (by simp only [Reg.EGR_CH_STATUS]; omega) (by simp only [Reg.EGR_CH_STATUS]; omega)
  have hem : ∀ y (z : State), RegsBut B s₀ z → RegsBut B s₀ (z.guardEmit n y) := fun y z hz =>
    onGuard_regsBut (count_regsBut (hc _ (by simp only [Reg.EGR_CH_EMIT]; omega) (by simp only [Reg.EGR_CH_EMIT]; omega))
      (sink_regsBut hk (setReg_regsBut (hc _ (by simp only [Reg.EGR_CH_LAST]; omega) (by simp only [Reg.EGR_CH_LAST]; omega)) hz)))
  unfold guardValue
  extract_lets u lo hi y c v w k
  have hu : RegsBut B s₀ u := h.congr rfl
  have hv : RegsBut B s₀ v := keeps_ite hu (logOnceBy_regsBut hl (count_regsBut (hc _ (by simp only [Reg.EGR_CH_CLAMP]; omega)
    (by simp only [Reg.EGR_CH_CLAMP]; omega)) hu))
  refine keeps_ite (guardChannel_regs hn hB hu) (keeps_ite (log_regsBut hl (hem _ _ (put_regsBut hst (put_regsBut hst hv))))
    (keeps_ite hv (keeps_ite (hem _ _ hv) (onGuard_regsBut (keeps_ite (count_regsBut ?_ hv) hv)))))
  exact hc _ (by simp only [Reg.EGR_CH_HELD]; omega) (by simp only [Reg.EGR_CH_HELD]; omega)

theorem gpiGuard_regs (hB : ∀ a, guardRegs a → B a) (h : RegsBut B s₀ s) : RegsBut B s₀ (s.gpiGuard i) := by
  unfold gpiGuard
  exact keeps_foldl_mem _ h fun x hx n hn => guardChannel_regs (List.mem_range.1 (List.mem_of_mem_filter hn)) hB hx

theorem not_guardRegs {a : Nat} (h : a < 0x1070000) : ¬guardRegs a := by
  rintro (hg | hg)
  · omega
  · exact not_sinkRegs (by omega) (by omega) hg

theorem ethWrite_silent {w : Nat} : (s.ethWrite n w).guard.silent = s.guard.silent := by
  unfold ethWrite
  extract_lets p seq t0 data mac
  rw [(emitOut_sameBut (F := [.sent]) (by decide) .refl).eq (f := State.guard) fun _ => rfl]
  rfl

theorem canSink_silent {w c k : Nat} :
    (if (s.canWrite n w).flag (Reg.CAN_TPDO_CFG_AUTO c k) = true then (s.canWrite n w).tpdoFire c k else s.canWrite n w).guard.silent =
      s.guard.silent := by
  have hc : SameBut [.regs, .events, .sent, .can] s (s.canWrite n w) := canWrite_sameBut (by decide) .refl
  split
  · rw [(tpdoFire_sameBut (by decide) hc).eq (f := State.guard) fun _ => rfl]
  · rw [hc.eq (f := State.guard) fun _ => rfl]

theorem pinDrive_silent : (s.pinDrive i).guard.silent = s.guard.silent := by
  rw [(pinDrive_sameBut (F := [.regs]) (by decide) .refl).eq (f := State.guard) fun _ => rfl]

theorem hostWrite_silent {w : Nat} : (s.hostWrite n w).guard.silent = s.guard.silent := by
  rw [(hostWrite_sameBut (F := [.regs, .mem, .events, .sent, .fw]) (by decide) .refl).eq (f := State.guard) fun _ => rfl]

/-- What goes out of a channel leaves the channels that are silent. -/
theorem sink_silent : (s.sink n x).guard.silent = s.guard.silent := by
  unfold sink
  extract_lets w u
  have hu : u.guard = s.guard := setReg_guard
  rw [← hu]
  split
  · exact canSink_silent
  · exact ethWrite_silent
  · exact pinDrive_silent
  · exact hostWrite_silent
  · rfl

theorem onGuard_silent {f : Guard → Guard} (hf : ∀ g, (f g).silent = g.silent) :
    (s.onGuard f).guard.silent = s.guard.silent := hf s.guard

theorem logged_silent {b : Block} {k c r p v : Nat} : ((s.log b k c r p).msix v).guard.silent = s.guard.silent := by
  rw [(msix_sameBut (F := [.regs, .events, .sent]) (by decide) (log_sameBut (s := s) (by decide) .refl)).eq
    (f := State.guard) fun _ => rfl]

theorem put_silent {f : RF} {v : Nat} : (s.put f v).guard.silent = s.guard.silent := congrArg Guard.silent put_guard

/-- A channel's marks as it becomes safe. -/
def safeMarked (s : State) (n c : Nat) : State :=
  ((s.put (Reg.EGR_CH_STATUS_SAFE n) 1).put (Reg.EGR_CH_STATUS_CAUSE n) c).onGuard fun g =>
    { g with held := g.held.filter fun h => h.1 ≠ n }

theorem guardChannel_eq : s.guardChannel n =
    if s.flag (Reg.EGR_CH_STATUS_SAFE n) = true then
      if s.causes n = 0 then s.put (Reg.EGR_CH_STATUS_CAUSE n) 0 else s.put (Reg.EGR_CH_STATUS_CAUSE n) (s.causes n)
    else if s.causes n = 0 then s
    else ((((s.safeMarked n (s.causes n)).sink n ((s.safeMarked n (s.causes n)).egrInt (Reg.EGR_CH_SAFE n))).log .egr 0 0x5502
      srcManager (s.causes n)).msix 14) := rfl

theorem safeMarked_silent {c : Nat} : (s.safeMarked n c).guard.silent = s.guard.silent := by
  rw [safeMarked, onGuard_silent, put_silent, put_silent]
  exact fun _ => rfl

theorem guardChannel_silent : (s.guardChannel n).guard.silent = s.guard.silent := by
  rw [guardChannel_eq]
  split
  · split
    · exact put_silent
    · exact put_silent
  · split
    · rfl
    · rw [logged_silent, sink_silent, safeMarked_silent]

/-! The pins (R464, R465). -/

/-- What a pin's gate and the channels that it gates leave of its other bits. -/
theorem pin_keeps {f : RF} (ha : f.addr = Reg.SEN_GPI_STAT i) (hf : f.lo + f.len ≤ 4) (hi : i < 32) :
    ((s.gpiGate i).gpiGuard i).get f = s.get f := by
  rw [(gpiGuard_regs (fun _ => id) .refl).get (not_guardRegs (by rw [ha]; simp only [Reg.SEN_GPI_STAT]; omega))]
  unfold gpiGate
  dsimp only
  rw [get_put_addr (by rw [ha]; simp only [Reg.SEN_GPI_STAT, Reg.SEN_GPI_LEVELS]; omega), get_put_clear (.inl hf)]

theorem gpioChange_of_filtered {high : Bool} {k : Nat} (hv : (if high then 1 else 0) ≠ s.get (Reg.SEN_GPI_STAT_LEVEL i))
    (hk : s.get (Reg.SEN_GPI_CFG_FLT i) ≤ k) : ∃ f, s.gpioChange i high k =
      (((((s.put (Reg.SEN_GPI_STAT_RAW i) (if high then 1 else 0)).put (Reg.SEN_GPI_STAT_LEVEL i) (if high then 1 else 0)).onHub
        f).gpiGate i).gpiGuard i) := by
  have h1 : ¬((if high then 1 else 0) = (s.put (Reg.SEN_GPI_STAT_RAW i) (if high then 1 else 0)).get (Reg.SEN_GPI_STAT_LEVEL i)) := by
    rw [get_put_clear (.inl (by simp))]
    exact hv
  have h2 : (s.put (Reg.SEN_GPI_STAT_RAW i) (if high then 1 else 0)).get (Reg.SEN_GPI_CFG_FLT i) ≤ k := by
    rw [get_put_addr (by simp)]
    exact hk
  unfold gpioChange
  extract_lets level x y j z
  exact ⟨_, (if_neg h1).trans (congrArg (fun w : State => (w.gpiGate i).gpiGuard i) (if_pos h2))⟩

theorem gpioStuck_of_active {d : Nat} (ha : s.hub.activeFrom.at i = d + 1) (hm : s.get (Reg.SEN_GPI_STUCK_MS i) ≠ 0) :
    ∃ f, s.gpioStuck i = ((((((s.reach (d + 200000 * s.get (Reg.SEN_GPI_STUCK_MS i))).put (Reg.SEN_GPI_STAT_STUCK i) 1).onHub
      f).log .sen 0 0x5602 srcManager).gpiGate i).gpiGuard i) := by
  unfold gpioStuck
  extract_lets ms
  rw [ha]
  exact ⟨_, if_neg hm⟩

/-! Queued candidates (R466). -/

theorem offDescriptor_guardRegs {a k : Nat} (hk : k < 1024) (h : guardRegs a) : offDescriptor 1152 k a := by
  by_cases hl : a < 0x1070000
  · exact absurd h (not_guardRegs hl)
  · refine offDescriptor_mid hk (by omega) ?_
    simp only [guardRegs, sinkRegs, inCan, writeRegs, injectRegs, Reg.EGR_GPO_STAT, Reg.EGR_HOST_PTR, Reg.EGR_HOST_DROP,
      Reg.HOST_IRQ_STAT, Reg.DBG_INJ_STAT, Reg.DBG_INJ_DONE, Reg.FLT_LOG_LOST, Reg.SEC_SIG_STAT] at h
    omega

theorem guardPop_of_ready {ring : Nat} (he : s.flag (Reg.EGR_CH_CTRL_EN n) = true) (hm : s.qMode 1152 (896 + n) = 1)
    (ha : 0 < s.qAvail 1152 (896 + n)) (hr : s.qRing 1152 (896 + n) = some ring) : s.guardPop n =
    let body := s.rdLe (slotAddr ring (s.qSlots 1152 (896 + n)) (s.qHead 1152 (896 + n))) 16
    if (s.queueTake 1152 (896 + n) 1).get (Reg.EGR_CH_CTRL_SRC_MODE n) = 0 then
      (s.queueTake 1152 (896 + n) 1).guardValue n (sext 32 (bits body 32 32))
    else (s.queueTake 1152 (896 + n) 1).tapMessage n body := by
  have hgo : ¬((!s.flag (Reg.EGR_CH_CTRL_EN n) || decide (s.qMode 1152 (896 + n) ≠ 1) || decide (s.qAvail 1152 (896 + n) = 0)) = true) := by
    simp [he, hm]
    omega
  unfold guardPop
  extract_lets k
  rw [if_neg hgo, hr]

theorem tapMessage_regsBut {body : Nat} : RegsBut (fun a => a = Reg.EGR_CH_LATE n) s (s.tapMessage n body) := by
  unfold tapMessage
  exact keeps_ite (count_regsBut rfl .refl) (onGuard_regsBut .refl)

theorem guardPop_result {ring : Nat} (hn : n < 64) (he : s.flag (Reg.EGR_CH_CTRL_EN n) = true) (hm : s.qMode 1152 (896 + n) = 1)
    (ha : 0 < s.qAvail 1152 (896 + n)) (hr : s.qRing 1152 (896 + n) = some ring) :
    (s.guardPop n).qAvail 1152 (896 + n) = s.qAvail 1152 (896 + n) - 1 ∧
      (s.guardPop n).qHead 1152 (896 + n) = (s.qHead 1152 (896 + n) + 1) % 4096 := by
  have hi : 896 + n < 1024 := by omega
  obtain ⟨h1, h2, -⟩ := s.queueTake_fields (u := 1152) (n := 1) hi
  rw [guardPop_of_ready he hm ha hr]
  extract_lets body
  generalize s.queueTake 1152 (896 + n) 1 = x at h1 h2
  have hk : RegsBut (offDescriptor 1152 (896 + n)) x (if x.get (Reg.EGR_CH_CTRL_SRC_MODE n) = 0 then
      x.guardValue n (sext 32 (bits body 32 32)) else x.tapMessage n body) := by
    refine keeps_ite (guardValue_regs hn (fun _ => offDescriptor_guardRegs hi) .refl) (tapMessage_regsBut.mono fun a h => ?_)
    subst h
    exact offDescriptor_mid hi (by simp only [Reg.EGR_CH_LATE]; omega) (by simp only [Reg.EGR_CH_LATE]; omega)
  exact ⟨(RegsBut.qget hk (by decide)).trans h1, (RegsBut.qget hk (by decide)).trans h2⟩

/-! Gaps, silence and force (R467, R468). -/

theorem gapExpire_of_held {h : Nat × Nat} (hh : (s.guard.held.find? fun x => x.1 = n) = some h) (hc : s.causes n = 0) :
    ∃ d, s.gapExpire n = (s.reach d).guardEmit n (sext 32 h.2) := by
  unfold gapExpire
  rw [hh]
  exact ⟨_, if_neg (not_not.2 (causes_reach.trans hc))⟩

theorem forceSafe_one (hn : n < 64) : (s.forceSafe (some n) true).get (Reg.EGR_CH_CTRL_FORCE_SAFE n) = 1 ∧
    (s.forceSafe (some n) true).get (Reg.EGR_CH_STATUS_SAFE n) = 1 := by
  have hp : (s.put (Reg.EGR_CH_CTRL_FORCE_SAFE n) 1).get (Reg.EGR_CH_CTRL_FORCE_SAFE n) = 1 := get_put_self (by simp)
  have hf : (s.put (Reg.EGR_CH_CTRL_FORCE_SAFE n) 1).flag (Reg.EGR_CH_CTRL_FORCE_SAFE n) = true :=
    flag_eq_true.2 (by rw [hp]; decide)
  change ((s.put (Reg.EGR_CH_CTRL_FORCE_SAFE n) 1).guardChannel n).get _ = 1 ∧
    ((s.put (Reg.EGR_CH_CTRL_FORCE_SAFE n) 1).guardChannel n).get _ = 1
  refine ⟨?_, guardChannel_safe hn (causes_of_force (by rw [hf, Bool.true_or]))⟩
  rw [(guardChannel_look .refl).get, hp]
  rintro (h | h | h)
  · exact absurd h (by simp)
  · exact absurd h (by simp)
  · exact not_sinkRegs (by simp only [Reg.EGR_CH_CTRL]; omega) (by simp only [Reg.EGR_CH_CTRL]; omega) h

/-- A look at a channel keeps the force of all. -/
theorem guardChannel_forceAll : (s.guardChannel n).get Reg.EGR_FORCE_ALL = s.get Reg.EGR_FORCE_ALL := by
  refine (guardChannel_look .refl).get ?_
  rintro (h | h | h)
  · simp only [Reg.EGR_CH_STATUS, Reg.EGR_FORCE] at h
    omega
  · simp only [Reg.EGR_CH_LAST, Reg.EGR_FORCE] at h
    omega
  · exact not_sinkRegs (by decide) (by decide) h

theorem forceSafe_all : (s.forceSafe none true).get Reg.EGR_FORCE_ALL = 1 ∧
    ∀ n, n < 64 → (s.forceSafe none true).get (Reg.EGR_CH_STATUS_SAFE n) = 1 := by
  change (s.put Reg.EGR_FORCE_ALL 1).guardScan.get _ = 1 ∧ ∀ n, n < 64 → (s.put Reg.EGR_FORCE_ALL 1).guardScan.get _ = 1
  unfold guardScan
  have h0 : ((s.put Reg.EGR_FORCE_ALL 1).put Reg.EGR_STATUS_CAUSE (s.put Reg.EGR_FORCE_ALL 1).globalCauses).get
      Reg.EGR_FORCE_ALL = 1 := (get_put_addr (by decide)).trans (get_put_self (by decide))
  have hk : ∀ (x : State) m, x.get Reg.EGR_FORCE_ALL = 1 → (x.guardChannel m).get Reg.EGR_FORCE_ALL = 1 := fun x m hx =>
    guardChannel_forceAll.trans hx
  have hs : ∀ (x : State) m, m < 64 → x.get Reg.EGR_FORCE_ALL = 1 → (x.guardChannel m).get (Reg.EGR_CH_STATUS_SAFE m) = 1 :=
    fun x m hm hx => guardChannel_safe hm (causes_of_force (by
      rw [flag_eq_true.2 (by rw [hx]; decide : x.get Reg.EGR_FORCE_ALL ≠ 0), Bool.or_true]))
  refine ⟨keeps_foldl (P := fun x : State => x.get Reg.EGR_FORCE_ALL = 1) _ h0 fun x hx m => hk x m hx, fun n hn => ?_⟩
  refine (foldl_reaches (P := fun x : State => x.get Reg.EGR_FORCE_ALL = 1)
    (Q := fun x : State => x.get Reg.EGR_FORCE_ALL = 1 ∧ x.get (Reg.EGR_CH_STATUS_SAFE n) = 1) (List.mem_range.2 hn) h0
    (fun x m _ hx => hk x m hx) (fun x hx => ⟨hk x n hx, hs x n hn hx⟩) fun x m hx => ⟨hk x m hx.1, ?_⟩).2
  by_cases hm : m = n
  · rw [hm]
    exact hs x n hn hx.1
  · rw [(guardChannel_regsBut hn hm .refl).get, hx.2]
    simp only [offChannel, Reg.EGR_CH_STATUS]
    omega

theorem gpioChange_completes {i : Fin 32} {high : Bool} {k : Nat}
    (hv : (if high then 1 else 0) ≠ s.get (Reg.SEN_GPI_STAT_LEVEL i.val)) (hk : s.get (Reg.SEN_GPI_CFG_FLT i.val) ≤ k) :
    s.completes (.gpioInputChange i high k) fun t => t.get (Reg.SEN_GPI_STAT_LEVEL i.val) = (if high then 1 else 0) ∧
      t.get (Reg.SEN_GPI_STAT_RAW i.val) = (if high then 1 else 0) := by
  obtain ⟨f, hf⟩ := gpioChange_of_filtered hv hk
  have hb : (if high then 1 else 0) % 2 = if high then 1 else 0 := by cases high <;> rfl
  refine completes_done (congrArg s.done hf) ⟨?_, ?_⟩ <;> rw [get_withQueue]
  · rw [pin_keeps rfl (by simp) i.isLt, get_onHub, get_put_self (by simp)]
    exact hb
  · rw [pin_keeps rfl (by simp) i.isLt, get_onHub, get_put_clear (.inr (by simp)), get_put_self (by simp)]
    exact hb

theorem gpioStuck_completes {i : Fin 32} (ha : s.hub.activeFrom.at i.val ≠ 0) (hm : s.get (Reg.SEN_GPI_STUCK_MS i.val) ≠ 0) :
    s.completes (.gpioStuckExpire i) fun t => t.get (Reg.SEN_GPI_STAT_STUCK i.val) = 1 := by
  obtain ⟨d, hd⟩ := Nat.exists_eq_succ_of_ne_zero ha
  obtain ⟨f, hf⟩ := gpioStuck_of_active hd hm
  refine completes_done (congrArg s.done hf) ?_
  rw [get_withQueue, pin_keeps rfl (by simp) i.isLt, (log_regsBut (B := fun a => a = Reg.FLT_LOG_LOST) rfl .refl).get
    (by simp only [Reg.SEN_GPI_STAT, Reg.FLT_LOG_LOST]; omega), get_onHub, get_put_self (by simp)]
  rfl

theorem silenceExpire_of_due (hm : s.get (Reg.EGR_CH_SILENCE_MS n) ≠ 0) (hs : s.guard.silent.contains n = false) :
    ∃ d, s.silenceExpire n = ((s.reach d).onGuard fun g => { g with silent := g.silent ++ [n] }).guardChannel n := by
  have hgo : ¬(s.get (Reg.EGR_CH_SILENCE_MS n) = 0 ∨ s.guard.silent.contains n = true) := by
    rw [hs]
    simp [hm]
  unfold silenceExpire
  extract_lets ms
  exact ⟨_, if_neg hgo⟩

theorem silenceExpire_silent (hm : s.get (Reg.EGR_CH_SILENCE_MS n) ≠ 0) (hs : s.guard.silent.contains n = false) :
    (s.silenceExpire n).guard.silent = s.guard.silent ++ [n] := by
  obtain ⟨d, hd⟩ := silenceExpire_of_due hm hs
  have hr : (s.reach d).guard = s.guard := (reach_sameBut (F := [.regs]) (by decide) .refl).eq (f := State.guard) fun _ => rfl
  rw [hd, guardChannel_silent, ← hr]
  rfl

theorem egrInt_withQueue {l : List Instr} {a : Nat} : (s.withQueue l).egrInt a = s.egrInt a := rfl

/-- Settles O38: the guard's look at a channel and what goes out of it leave the pins, the queues and the other channels. -/
theorem guardCommandsComplete : Obligations.GuardCommandsComplete := by
  unfold Obligations.GuardCommandsComplete
  intro s
  refine ⟨fun i high k hv hk => gpioChange_completes hv hk, fun i ha hm => gpioStuck_completes ha hm,
    fun n he hm ha hr => ?_, fun n v hc hs hg hd => ?_, fun n h hh hc => ?_, fun n hm hs => ?_, fun n => ?_, ?_⟩
  · obtain ⟨ring, hring⟩ := Option.isSome_iff_exists.1 hr
    refine completes_done rfl ?_
    simpa only [qAvail, qHead, qget_withQueue] using guardPop_result n.isLt he hm ha hring
  · have hx : -(2 ^ 31) ≤ v.toInt ∧ v.toInt < 2 ^ 31 := ⟨v.le_toInt, v.toInt_lt⟩
    refine completes_done rfl ?_
    simpa only [egrInt_withQueue, get_withQueue, clamped] using guardValue_emits n.isLt hx hc hs hg hd
  · obtain ⟨d, hd⟩ := gapExpire_of_held hh hc
    have hb := sext_bounds 32 h.2
    obtain ⟨h1, -⟩ := guardEmit_own (s := s.reach d) (x := sext 32 h.2) n.isLt (by omega) (by omega)
    refine completes_done (congrArg s.done hd) ⟨egrInt_withQueue.trans h1, ?_⟩
    rw [withQueue_guard]
    exact guardEmit_held
  · refine completes_done rfl ?_
    rw [withQueue_guard]
    exact silenceExpire_silent hm hs
  · have h : exec (.guardForceSafeWrite (some n) true) s = s.done (s.forceSafe (some n.val) true) := rfl
    refine completes_done h ?_
    simpa only [get_withQueue] using s.forceSafe_one n.isLt
  · have h : exec (.guardForceSafeWrite none true) s = s.done (s.forceSafe none true) := rfl
    refine completes_done h ?_
    simpa only [get_withQueue] using s.forceSafe_all

end Sys2Proof.Machine.State
end

section
set_option Elab.async false
/-! PROOFS. The debug unit: operation counters, the trace ring, waits, hang analysis and fault injection (R714 to R735). -/

namespace Sys2Proof.Machine.State

variable {s t s₀ : State} {n i : Nat} {p : Pip} {rest : List Pip}

/-! Operation counters (R716). -/

/-- The latches of a tile's counters after the first `k` of them are taken. -/
def opsLatched (s : State) (a k : Nat) : State :=
  (List.range k).foldl (fun s i => { s with
    latches := s.latches.put (a + 4 + 4 * i) ((s.reg (a + 4 + 4 * i)).toNat + 1) }) s

theorem opsLatched_sameBut {a k : Nat} : SameBut [.latches] s (s.opsLatched a k) :=
  keeps_foldl (P := SameBut [.latches] s) _ .refl fun _ hx _ => hx

theorem opsLatched_at {a k : Nat} (hi : i < k) : (s.opsLatched a k).latches.at (a + 4 + 4 * i) =
    (s.reg (a + 4 + 4 * i)).toNat + 1 := by
  induction k with
  | zero => omega
  | succ k ih =>
    have hr : (s.opsLatched a k).regs = s.regs := opsLatched_sameBut.regs rfl
    have e : (s.opsLatched a (k + 1)).latches = (s.opsLatched a k).latches.put (a + 4 + 4 * k)
        (((s.opsLatched a k).reg (a + 4 + 4 * k)).toNat + 1) := by
      rw [opsLatched, List.range_succ, List.foldl_append]
      rfl
    rw [e]
    rw [Nums.at_put]
    by_cases hk : i = k
    · rw [hk, if_pos rfl, reg_congr hr]
    · rw [if_neg (by omega), ih (by omega)]

theorem opsLatch_latches : (s.opsLatch n).latches = (s.opsLatched (Reg.DBG_OPS0_LO n) 27).latches := by
  simp only [opsLatch, opsLatched]

theorem opsLatch_answer : (s.opsLatch n).answer = [(s.reg (Reg.DBG_OPS0_LO n)).toNat] := by
  have h : (s.opsLatch n).answer = [((s.opsLatched (Reg.DBG_OPS0_LO n) 27).reg (Reg.DBG_OPS0_LO n)).toNat] := by
    simp only [opsLatch, opsLatched]
  rw [h, reg_congr (opsLatched_sameBut.regs rfl)]

/-- The state after the first `k` counters are cleared. -/
def opsCleared (s : State) (a k : Nat) : State := (List.range k).foldl (fun s n => s.put64 (a + 8 * n) 0) s

theorem opsCleared_succ {a k : Nat} : s.opsCleared a (k + 1) = (s.opsCleared a k).put64 (a + 8 * k) 0 := by
  rw [opsCleared, List.range_succ, List.foldl_append]
  rfl

theorem opsCleared_reg {a k b : Nat} : (s.opsCleared a k).reg b =
    if a ≤ b ∧ b < a + 8 * k ∧ 4 ∣ b - a then 0 else s.reg b := by
  induction k with
  | zero =>
    rw [if_neg (by omega)]
    rfl
  | succ k ih =>
    rw [opsCleared_succ, reg_put64, ih]
    by_cases h4 : b = a + 8 * k + 4
    · rw [if_pos h4, if_pos (by omega)]
      rfl
    · by_cases h0 : b = a + 8 * k
      · rw [if_neg h4, if_pos h0, if_pos (by omega)]
        rfl
      · rw [if_neg h4, if_neg h0]
        congr 1
        exact propext ⟨fun h => by omega, fun h => by omega⟩

theorem opsCleared_get64 {a k : Nat} (hi : i < k) : (s.opsCleared a k).get64 (a + 8 * i) = 0 := by
  rw [get64, opsCleared_reg, opsCleared_reg, if_pos (by omega), if_pos (by omega)]
  rfl

/-! The trace ring (R724). -/

theorem traceEntry_of_room (hl : s.get Reg.DBG_TRC_LEN_N ≠ 0)
    (hr : (s.get Reg.DBG_TRC_WR_IDX + 1) % s.get Reg.DBG_TRC_LEN_N ≠ s.get Reg.DBG_TRC_RD_IDX) : s.traceEntry p =
    (if s.dramMapped (s.get64 Reg.DBG_TRC_BASE_LO % 2 ^ 40 + 32 * s.get Reg.DBG_TRC_WR_IDX) 32 = true then
      s.wrBytes (s.get64 Reg.DBG_TRC_BASE_LO % 2 ^ 40 + 32 * s.get Reg.DBG_TRC_WR_IDX)
        (leBytes 8 p.hdr.toNat ++ leBytes 24 p.pay.toNat) else s).put Reg.DBG_TRC_WR_IDX
      ((s.get Reg.DBG_TRC_WR_IDX + 1) % s.get Reg.DBG_TRC_LEN_N) := by
  have hf : (decide (s.get Reg.DBG_TRC_LEN_N = 0) ||
      decide ((s.get Reg.DBG_TRC_WR_IDX + 1) % s.get Reg.DBG_TRC_LEN_N = s.get Reg.DBG_TRC_RD_IDX)) = false := by simp [hl, hr]
  unfold traceEntry
  simp only [hf, Bool.false_and, Bool.false_eq_true, if_false]

/-- A trace entry's bytes, where the ring is mapped. -/
theorem traceStored_sameBytesBut {a : Nat} : s.sameBytesBut (if s.dramMapped a 32 = true then
    s.wrBytes a (leBytes 8 p.hdr.toNat ++ leBytes 24 p.pay.toNat) else s) a 32 := by
  split
  · intro b hb
    exact wrBytes_sameBytesBut b (by simpa [length_leBytes] using hb)
  · exact fun _ _ => rfl

theorem traceEntry_result (hl : s.get Reg.DBG_TRC_LEN_N ≠ 0)
    (hr : (s.get Reg.DBG_TRC_WR_IDX + 1) % s.get Reg.DBG_TRC_LEN_N ≠ s.get Reg.DBG_TRC_RD_IDX) :
    (s.traceEntry p).get Reg.DBG_TRC_WR_IDX = (s.get Reg.DBG_TRC_WR_IDX + 1) % s.get Reg.DBG_TRC_LEN_N ∧
      (s.traceEntry p).get Reg.DBG_TRC_RD_IDX = s.get Reg.DBG_TRC_RD_IDX ∧
      s.sameBytesBut (s.traceEntry p) (s.get64 Reg.DBG_TRC_BASE_LO % 2 ^ 40 + 32 * s.get Reg.DBG_TRC_WR_IDX) 32 := by
  have hn : s.get Reg.DBG_TRC_LEN_N < 2 ^ 24 := s.get_lt
  have hw : (s.get Reg.DBG_TRC_WR_IDX + 1) % s.get Reg.DBG_TRC_LEN_N < 2 ^ 24 :=
    (Nat.mod_lt _ (Nat.pos_of_ne_zero hl)).trans hn
  rw [traceEntry_of_room hl hr]
  refine ⟨(get_put_self (by decide)).trans (Nat.mod_eq_of_lt hw), (get_put_addr (by decide)).trans ?_, fun b hb => ?_⟩
  · split
    · exact (wrBytes_regsBut (B := writeRegs) (fun _ => id) .refl).get (by simp [writeRegs, injectRegs, Reg.DBG_TRC_RD,
        Reg.DBG_INJ_STAT, Reg.DBG_INJ_DONE, Reg.FLT_LOG_LOST, Reg.SEC_SIG_STAT])
    · rfl
  · exact (rd8_congr put_mem put_memories).trans (traceStored_sameBytesBut b hb)

theorem traceWrite_of_cons (h : s.mesh.traceWriter = p :: rest) :
    s.traceWrite = (s.onMesh fun m => { m with traceWriter := rest }).traceEntry p := by
  unfold traceWrite
  rw [h]

/-! Waits (R726). -/

theorem get_trace {ptype pay : Nat} {f : RF} (h : f.addr ≠ Reg.DBG_TRC_LOST n) : (s.trace n ptype pay).get f = s.get f := by
  unfold trace
  split
  · rfl
  · split
    · exact get_count_addr h
    · rfl

/-- A wait's registers, before a change of them is traced. -/
def waitSet (s : State) (n kind src obj peer : Nat) : State :=
  let x := (s.put (Reg.DBG_WAIT_KIND n) kind).put (Reg.DBG_WAIT_SRC n) src
  if kind = 0 then x else
    ((((x.put (Reg.DBG_WAIT_WSEQ n) ((s.get (Reg.DBG_WAIT_WSEQ n) + 1) % 256)).put (Reg.DBG_WAIT_OBJ_OBJ n) obj).put
      (Reg.DBG_WAIT_OBJ_PEER n) peer).put (Reg.DBG_WAIT_SINCE_STEP n) (x.stepNum % 2 ^ 32))

theorem get_setWait {kind src obj peer : Nat} {f : RF} (h : f.addr ≠ Reg.DBG_TRC_LOST n) :
    (s.setWait n kind src obj peer).get f = (s.waitSet n kind src obj peer).get f := by
  unfold setWait
  extract_lets old was x y
  split
  · rfl
  · exact get_trace h

theorem stepNum_put_tile {f : RF} {v : Nat} (h : 0x100000000 ≤ f.addr) : (s.put f v).stepNum = s.stepNum :=
  stepNum_put (by simp only [Reg.STEP_NUM_LO]; omega) (by simp only [Reg.STEP_NUM_LO]; omega)

theorem waitSet_fields {kind src obj peer : Nat} (hk : 0 < kind) (hk' : kind < 8) (ho : obj < 1024) (hp : peer < 2048) :
    (s.waitSet n kind src obj peer).get (Reg.DBG_WAIT_KIND n) = kind ∧
      (s.waitSet n kind src obj peer).get (Reg.DBG_WAIT_OBJ_OBJ n) = obj ∧
      (s.waitSet n kind src obj peer).get (Reg.DBG_WAIT_OBJ_PEER n) = peer ∧
      (s.waitSet n kind src obj peer).get (Reg.DBG_WAIT_SINCE_STEP n) = s.stepNum % 2 ^ 32 := by
  have hs : ((s.put (Reg.DBG_WAIT_KIND n) kind).put (Reg.DBG_WAIT_SRC n) src).stepNum = s.stepNum :=
    (stepNum_put_tile (by simp only [Reg.DBG_WAIT, tileBase]; omega)).trans
      (stepNum_put_tile (by simp only [Reg.DBG_WAIT, tileBase]; omega))
  have h8 : kind % 2 ^ 3 = kind := Nat.mod_eq_of_lt hk'
  have h10 : obj % 2 ^ 10 = obj := Nat.mod_eq_of_lt ho
  have h11 : peer % 2 ^ 11 = peer := Nat.mod_eq_of_lt hp
  unfold waitSet
  dsimp only
  rw [if_neg (by omega), hs]
  refine ⟨?_, ?_, ?_, ?_⟩
  · simpa [get_put_addr, get_put_clear, get_put_self] using h8
  · simpa [get_put_addr, get_put_clear, get_put_self] using h10
  · simpa [get_put_addr, get_put_clear, get_put_self] using h11
  · simp [get_put_self]

theorem waitDeclare_of_kind {v : Word} (h : bits v.toNat 29 3 = 1 ∨ bits v.toNat 29 3 = 4) :
    s.waitDeclare n v = s.setWait n (bits v.toNat 29 3) 1 (bits v.toNat 0 10) (bits v.toNat 16 11) := by
  unfold waitDeclare
  obtain h | h := h <;> simp only [h]

theorem waitDeclare_result {v : Word} (h : bits v.toNat 29 3 = 1 ∨ bits v.toNat 29 3 = 4) :
    (s.waitDeclare n v).get (Reg.DBG_WAIT_KIND n) = bits v.toNat 29 3 ∧
      (s.waitDeclare n v).get (Reg.DBG_WAIT_OBJ_OBJ n) = bits v.toNat 0 10 ∧
      (s.waitDeclare n v).get (Reg.DBG_WAIT_OBJ_PEER n) = bits v.toNat 16 11 ∧
      (s.waitDeclare n v).get (Reg.DBG_WAIT_SINCE_STEP n) = s.stepNum % 2 ^ 32 := by
  rw [waitDeclare_of_kind h, get_setWait (by simp), get_setWait (by simp), get_setWait (by simp), get_setWait (by simp)]
  exact waitSet_fields (by omega) (bits_lt _ 29 3) (bits_lt _ 0 10) (bits_lt _ 16 11)

/-! Hang analysis (R727). -/

theorem hangStart_of_idle (h : s.hang = none) : s.hangStart =
    ({ s with hang := some ⟨s.waitNodes.map fun n => (n, (s.waitOf n).1, (s.waitOf n).2), s.now⟩ } : State).setObj 0x2B02 2 1 := by
  have hn : ¬(s.hang.isSome = true) := by simp [h]
  exact if_neg hn

/-- The second read ends the analysis with a cycle that it found, or without one (R727). -/
theorem hangFinish_result (hh : s.hang.isSome = true) : s.hangFinish.hang = none ∧
    (s.hangFinish.obj 0x2B02 2 = 2 ∨ s.hangFinish.obj 0x2B02 2 = 3) ∧
    RegsBut (fun a => a ∈ [Reg.TB_COUNT_LO, Reg.TB_COUNT_HI]) s s.hangFinish := by
  unfold hangFinish
  split
  next hn =>
    rw [hn] at hh
    cases hh
  next h _ =>
    extract_lets x r y kind
    have hx : RegsBut (fun a => a ∈ [Reg.TB_COUNT_LO, Reg.TB_COUNT_HI]) s y :=
      RegsBut.congr (reach_regsBut (by simp) (by simp) .refl : RegsBut _ s x) rfl
    have hy : y.hang = none := rfl
    clear_value y
    split
    next =>
      have hl : SameBut [.events] (y.setObj 0x2B02 2 2) ((y.setObj 0x2B02 2 2).logFirmware 0x9302 2 0) :=
        logFirmware_sameBut (by decide) .refl
      refine ⟨(hl.eq (f := State.hang) fun _ => rfl).trans (setObj_hang.trans hy), .inl ?_, (hx.congr rfl).congr (hl.regs rfl)⟩
      rw [obj_congr (hl.eq (f := State.objs) fun _ => rfl), obj_setObj, if_pos rfl]
    next c _ =>
      extract_lets low u v
      have hl : SameBut [.events] v (((c.take 64).foldl (fun s n => s.logFirmware 0x9301 n (kind n)) v).logFirmware 0x9302 3 0) :=
        logFirmware_sameBut (by decide) (keeps_foldl (P := SameBut [.events] v) _ .refl fun _ hz _ =>
          logFirmware_sameBut (by decide) hz)
      have hv : v.hang = none := setObj_hang.trans (setObj_hang.trans (setObj_hang.trans (setObj_hang.trans hy)))
      refine ⟨(hl.eq (f := State.hang) fun _ => rfl).trans hv, .inr ?_, (hx.congr rfl).congr (hl.regs rfl)⟩
      rw [obj_congr (hl.eq (f := State.objs) fun _ => rfl)]
      simp only [v, u, obj_setObj]
      rw [if_neg (by decide), if_neg (by decide), if_neg (by decide), if_pos trivial]

/-! Fault injection (R734, R735). -/

/-- A session of the role goes on with the write, after the audit entry of it (R734). -/
theorem injectAuth_of_role {slot value : Nat} {f : State → State} (h : s.debugRole ≤ s.slotRole slot) :
    ∃ x, RegsBut auditRegs s x ∧ s.injectAuth slot value f = f x := by
  have hgo : ¬((s.touchSlot slot).slotRole slot < (s.touchSlot slot).debugRole) := not_lt.2 h
  refine ⟨_, ?_, if_neg hgo⟩
  exact audit_regsBut (fun _ => id) (RegsBut.congr .refl rfl)

theorem not_auditRegs_inject {a : Nat} (h : a = Reg.DBG_INJ_TARGET ∨ a = Reg.DBG_INJ_KIND ∨ a = Reg.DBG_INJ_COUNT) :
    ¬auditRegs a := by
  obtain rfl | rfl | rfl := h <;> simp [auditRegs, writeRegs, injectRegs, Reg.DBG_INJ_TARGET, Reg.DBG_INJ_KIND,
    Reg.DBG_INJ_COUNT, Reg.SEC_AUDIT_STAT, Reg.SEC_AUDIT_HEAD, Reg.SEC_HUSK_STAT, Reg.DBG_INJ_STAT, Reg.DBG_INJ_DONE,
    Reg.FLT_LOG_LOST, Reg.SEC_SIG_STAT]

theorem injectArm_of_kind (h : (injectKinds (s.get Reg.DBG_INJ_TARGET_ID)).contains (s.get Reg.DBG_INJ_KIND_KIND) = true) :
    s.injectArm.get Reg.DBG_INJ_STAT_ARMED = 1 ∧ s.injectArm.get Reg.DBG_INJ_STAT_LEFT = s.get Reg.DBG_INJ_COUNT_N := by
  have hc : s.get Reg.DBG_INJ_COUNT_N % 2 ^ 16 = s.get Reg.DBG_INJ_COUNT_N := Nat.mod_eq_of_lt s.get_lt
  have e : s.injectArm = ((s.put Reg.DBG_INJ_STAT_ARMED 1).put Reg.DBG_INJ_STAT_LEFT (s.get Reg.DBG_INJ_COUNT_N)).log .dbg 0
      0x9401 srcManager := by
    exact if_pos h
  have hl : RegsBut (fun a => a = Reg.FLT_LOG_LOST) ((s.put Reg.DBG_INJ_STAT_ARMED 1).put Reg.DBG_INJ_STAT_LEFT
      (s.get Reg.DBG_INJ_COUNT_N)) s.injectArm := by
    rw [e]
    exact log_regsBut rfl .refl
  rw [hl.get (by decide), hl.get (by decide)]
  exact ⟨(get_put_clear (by decide)).trans (get_put_self (by decide)), (get_put_self (by decide)).trans hc⟩

theorem injectAuth_arms {slot : Nat} (h : s.debugRole ≤ s.slotRole slot)
    (hk : (injectKinds (s.get Reg.DBG_INJ_TARGET_ID)).contains (s.get Reg.DBG_INJ_KIND_KIND) = true) :
    (s.injectAuth slot 1 State.injectArm).get Reg.DBG_INJ_STAT_ARMED = 1 ∧
      (s.injectAuth slot 1 State.injectArm).get Reg.DBG_INJ_STAT_LEFT = s.get Reg.DBG_INJ_COUNT_N := by
  obtain ⟨x, hx, e⟩ := injectAuth_of_role (value := 1) (f := State.injectArm) h
  have ht := hx.get (f := Reg.DBG_INJ_TARGET_ID) (not_auditRegs_inject (.inl rfl))
  have hkk := hx.get (f := Reg.DBG_INJ_KIND_KIND) (not_auditRegs_inject (.inr (.inl rfl)))
  have hn := hx.get (f := Reg.DBG_INJ_COUNT_N) (not_auditRegs_inject (.inr (.inr rfl)))
  rw [e, ← hn]
  exact injectArm_of_kind (by rw [ht, hkk]; exact hk)

theorem injectAuth_disarms {slot : Nat} (h : s.debugRole ≤ s.slotRole slot) :
    (s.injectAuth slot 2 State.injectDisarm).get Reg.DBG_INJ_STAT_ARMED = 0 ∧
      (s.injectAuth slot 2 State.injectDisarm).get Reg.DBG_INJ_STAT_LEFT = 0 := by
  obtain ⟨x, -, e⟩ := injectAuth_of_role (value := 2) (f := State.injectDisarm) h
  rw [e, injectDisarm]
  exact ⟨(get_put_clear (by decide)).trans (get_put_self (by decide)), get_put_self (by decide)⟩

/-- Settles O32: the registers of the counters, of the ring, of the waits and of the injection are told apart by their addresses. -/
theorem debugCommandsComplete : Obligations.DebugCommandsComplete := by
  unfold Obligations.DebugCommandsComplete
  intro s
  refine ⟨fun n => ?_, fun n => ?_, fun p rest h hl hr => ?_, fun n v h => ?_, fun h => ?_, fun h => ?_, fun slot h hk => ?_,
    fun slot h => ?_⟩
  · have hs : SameBut [.latches, .answer] s (s.opsLatch n.val) := opsLatch_sameBut (by decide) .refl
    refine completes_done rfl ⟨?_, fun i hi => ?_, fun a _ => ?_, sameBytes_withQueue (hs.sameBytes rfl rfl)⟩
    · rw [withQueue_answer, opsLatch_answer]
    · rw [withQueue_latches, opsLatch_latches, opsLatched_at hi]
    · rw [reg_withQueue, reg_congr (hs.regs rfl)]
  · have e : s.opsClear n.val = s.opsCleared (Reg.DBG_OPS0_LO n.val) 14 := by rw [opsClear, opsCleared]
    refine completes_done (congrArg s.done e) ⟨fun i hi => get64_withQueue.trans (opsCleared_get64 hi), fun a ha => ?_, sameBytes_withQueue ?_⟩
    · rw [reg_withQueue, opsCleared_reg, if_neg]
      rintro ⟨hlo, hhi, k, hk⟩
      refine ha (List.mem_map.2 ⟨k, List.mem_range.2 (by omega), by omega⟩)
    · rw [← e]
      exact (opsClear_sameBut (F := [.regs]) (by decide) .refl).sameBytes rfl rfl
  · obtain ⟨h1, h2, h3⟩ := traceEntry_result (s := s.onMesh fun m => { m with traceWriter := rest }) (p := p) hl hr
    refine completes_done (congrArg s.done (traceWrite_of_cons h)) ⟨?_, h1, h2, fun b hb => (h3 b hb).trans (rd8_congr rfl rfl)⟩
    rw [withQueue_mesh, traceEntry_of_room (s := s.onMesh fun m => { m with traceWriter := rest }) hl hr, put_mesh]
    split
    · rw [(wrBytes_sameBut (F := [.regs, .mem, .events, .fw]) (by decide) .refl).eq (f := State.mesh) fun _ => rfl]
      rfl
    · rfl
  · obtain ⟨h1, h2, h3, h4⟩ := waitDeclare_result (s := s) (n := n.val) h
    exact completes_done rfl ⟨h1, h2, h3, h4, sameBytes_withQueue
      ((waitDeclare_sameBut (F := [.regs, .mesh]) (by decide) .refl).sameBytes rfl rfl)⟩
  · refine completes_done (congrArg s.done (hangStart_of_idle h)) ⟨rfl, ?_, fun a _ => rfl, fun a => rfl⟩
    rw [obj_withQueue, obj_setObj, if_pos rfl]
  · obtain ⟨h1, h2, h3⟩ := hangFinish_result h
    exact completes_done rfl ⟨h1, h2, fun a ha => reg_withQueue.trans (h3 a ha), sameBytes_withQueue
      ((hangFinish_sameBut (F := [.regs, .events, .objs, .hang]) (by decide) .refl).sameBytes rfl rfl)⟩
  · exact completes_done rfl (injectAuth_arms h hk)
  · exact completes_done rfl (injectAuth_disarms h)

end Sys2Proof.Machine.State
end

section
set_option Elab.async false
/-! PROOFS. The remap of a retired tile (R702, R703, R707). -/

namespace Sys2Proof.Machine.State

variable {s t u s₀ : State} {m : Remap}

/-! The descriptors that a restore arms lie in the stream engines' blocks. -/

/-- The registers of the stream engines' descriptors. -/
def descRegs (a : Nat) : Prop := 0x1040800 ≤ a ∧ a < 0x1051000

theorem restoreDescs_bounds {spare v : Nat} {x : Nat × Nat × Bool × Nat} (h : x ∈ s.restoreDescs spare v) :
    x.1 < 16 ∧ x.2.1 < 64 := by
  simp only [restoreDescs, List.mem_filterMap, List.mem_range] at h
  obtain ⟨k, hk, h⟩ := h
  split at h
  · cases h
  · split at h
    · split at h
      · obtain rfl := Option.some.inj h
        dsimp only
        omega
      · cases h
    · split at h
      · obtain rfl := Option.some.inj h
        dsimp only
        omega
      · cases h

theorem descRegs_word {q d o : Nat} (hq : q < 16) (hd : d < 64) (ho : o < 0x20) : descRegs (Reg.STR_DESC0 q d + o) := by
  simp only [descRegs, Reg.STR_DESC0]
  omega

theorem restoreArm_regsBut {l spare area : Nat} : RegsBut descRegs s (s.restoreArm l spare area) := by
  unfold restoreArm
  refine keeps_foldl_mem (P := RegsBut descRegs s) _ .refl fun y hy x hx => ?_
  obtain ⟨hq, hd⟩ := restoreDescs_bounds hx
  exact put_regsBut (descRegs_word (o := 0) hq hd (by decide)) (put_regsBut (descRegs_word (o := 20) hq hd (by decide))
    (put_regsBut (descRegs_word (o := 16) hq hd (by decide)) hy))

/-! A start by firmware (R702). -/

/-- The marks of a restore that is armed. -/
def armMarked (s : State) (l tile began fail spare stamp : Nat) : State :=
  (((((s.put Reg.FLT_REMAP_STAT_PHASE 4).put Reg.FLT_REMAP_STAT_LTILE l).put Reg.FLT_STATUS_REMAP 1).put
    Reg.FLT_REMAP_SPARE_PHYS spare).onFault fun f =>
      { f with remap := some ⟨4, l, tile, spare, fail, fail - stamp - 1, began, 0⟩ }).progStart 3
        (0x2CA40 + s.get Reg.FLT_SB_LEN_BYTES)

theorem remapArm_of_some {l tile began fail sp x stamp : Nat} (hs : s.spareFor tile = some sp)
    (hx : s.sliceFor l = some (x, stamp)) :
    s.remapArm l tile began fail = (s.armMarked l tile began fail sp stamp).restoreArm l sp x := by
  unfold remapArm
  rw [hs, hx]
  simp only [armMarked, get_put_addr (f := Reg.FLT_STATUS_REMAP) (g := Reg.FLT_SB_LEN_BYTES) (by decide),
    get_put_addr (f := Reg.FLT_REMAP_STAT_LTILE) (g := Reg.FLT_SB_LEN_BYTES) (by decide),
    get_put_addr (f := Reg.FLT_REMAP_STAT_PHASE) (g := Reg.FLT_SB_LEN_BYTES) (by decide)]

theorem armMarked_fields {l tile began fail sp stamp : Nat} (hl : l < 1024) :
    (s.armMarked l tile began fail sp stamp).get Reg.FLT_REMAP_STAT_PHASE = 4 ∧
      (s.armMarked l tile began fail sp stamp).get Reg.FLT_REMAP_STAT_LTILE = l ∧
      (s.armMarked l tile began fail sp stamp).get Reg.FLT_STATUS_REMAP = 1 := by
  have hm : l % 2 ^ 10 = l := Nat.mod_eq_of_lt hl
  have hr : ∀ f : RF, (s.armMarked l tile began fail sp stamp).get f = ((((s.put Reg.FLT_REMAP_STAT_PHASE 4).put
      Reg.FLT_REMAP_STAT_LTILE l).put Reg.FLT_STATUS_REMAP 1).put Reg.FLT_REMAP_SPARE_PHYS sp).get f := fun f => get_congr rfl
  rw [hr, hr, hr]
  refine ⟨?_, ?_, ?_⟩
  · simp [get_put_addr, get_put_clear, get_put_self]
  · simpa [get_put_addr, get_put_self] using hm
  · simp [get_put_addr, get_put_self]

theorem remapArm_result {l tile began fail sp x stamp : Nat} (hl : l < 1024) (hs : s.spareFor tile = some sp)
    (hx : s.sliceFor l = some (x, stamp)) :
    (s.remapArm l tile began fail).fault.remap.map (·.spare) = some sp ∧
      (s.remapArm l tile began fail).get Reg.FLT_REMAP_STAT_PHASE = 4 ∧
      (s.remapArm l tile began fail).get Reg.FLT_REMAP_STAT_LTILE = l ∧
      (s.remapArm l tile began fail).get Reg.FLT_STATUS_REMAP = 1 := by
  obtain ⟨h1, h2, h3⟩ := s.armMarked_fields (tile := tile) (began := began) (fail := fail) (sp := sp) (stamp := stamp) hl
  have hr : RegsBut descRegs (s.armMarked l tile began fail sp stamp) (s.remapArm l tile began fail) := by
    rw [remapArm_of_some hs hx]
    exact restoreArm_regsBut
  have hf : (s.remapArm l tile began fail).fault = (s.armMarked l tile began fail sp stamp).fault := by
    rw [remapArm_of_some hs hx, (restoreArm_sameBut (F := [.regs]) (by decide) .refl).eq (f := State.fault) fun _ => rfl]
  refine ⟨?_, (hr.get (by simp [descRegs, Reg.FLT_REMAP_STAT])).trans h1, (hr.get (by simp [descRegs, Reg.FLT_REMAP_STAT])).trans h2,
    (hr.get (by simp [descRegs, Reg.FLT_STATUS])).trans h3⟩
  rw [hf]
  rfl

theorem mgrLtt_put {f : RF} {v l : Nat} (h : 0x10E0000 ≤ f.addr) : (s.put f v).mgrLtt l = s.mgrLtt l := by
  unfold mgrLtt lttAt
  split
  · rfl
  · rw [reg_put_of_ne]
    simp only [Reg.SEN_LTT]
    omega

theorem remapStart_of_asked {l t : Nat} (hn : s.fault.remap = none) (hl : s.mgrLtt l = some t) (hs : s.switching = false) :
    ∃ b f, s.remapStart (some l) = ((s.put Reg.FLT_REMAP_CTRL_LTILE l).fence t 1).remapArm l t b f := by
  have h1 : ¬(s.fault.remap.isSome = true) := by simp [hn]
  have h2 : ¬((s.put Reg.FLT_REMAP_CTRL_LTILE l).switching = true) := by
    change ¬(s.switching = true)
    simp [hs]
  unfold remapStart
  rw [if_neg h1]
  simp only [mgrLtt_put (s := s) (f := Reg.FLT_REMAP_CTRL_LTILE) (by decide), hl]
  exact ⟨_, _, if_neg h2⟩

theorem remapStart_of_waiting {t b k : Nat} {r : List (Nat × Nat × Nat × Bool)} (hn : s.fault.remap = none)
    (hw : s.fault.waiting = (t, b, k, false) :: r) (hs : s.switching = false) (hl : s.isLogical t = true) (hb : s.standby ≠ 2) :
    s.remapStart none = (s.onFault fun f => { f with waiting := r }).log .flt 0 0x4232 t := by
  have h1 : ¬(s.fault.remap.isSome = true) := by simp [hn]
  have h2 : ¬(s.switching = true) := by simp [hs]
  have h3 : ¬((!(s.onFault fun f => { f with waiting := r }).isLogical t) = true) := by
    change ¬((!s.isLogical t) = true)
    simp [hl]
  have h4 : ¬((s.onFault fun f => { f with waiting := r }).standby = 2) := hb
  unfold remapStart
  rw [if_neg h1]
  dsimp only
  rw [if_neg h2, hw]
  exact (if_neg h3).trans ((if_neg (by decide)).trans (if_neg h4))

/-! The end of a restore and the switch (R702, R703). -/

theorem restoreDone_of_armed (hm : s.fault.remap = some m) (hp : m.phase = 4) (hr : s.fault.retired.contains m.spare = false) :
    s.restoreDone = ((((s.restoreIdle m.spare).restore m).put Reg.FLT_REMAP_STAT_PHASE 5).progEnd 3 2).onFault fun f =>
      { f with remap := some { m with phase := 5 } } := by
  have hf : (s.restoreIdle m.spare).fault = s.fault :=
    (restoreIdle_sameBut (F := [.regs, .streams]) (by decide) .refl).eq (f := State.fault) fun _ => rfl
  have h1 : ¬(m.phase ≠ 4) := not_not.2 hp
  have h2 : ¬((s.restoreIdle m.spare).fault.retired.contains m.spare = true) := by
    rw [hf, hr]
    decide
  unfold restoreDone
  rw [hm]
  exact (if_neg h1).trans (if_neg h2)

/-- The marks of a switch that is done (R703). -/
def switchMarked (u : State) (m : Remap) : State :=
  (u.put Reg.FLT_REMAP_STAT_PHASE 8).onFault fun f => { f with remap := some { m with phase := 8, missed := u.stepNum - m.fail } }

/-- A switch uses up a spare, and says so where it was the last (R703). -/
def spareTaken (s : State) : State :=
  if s.spareUsed.obj 0x2A10 4 = 0 then
    (if s.spareUsed.obj 0x2A10 1 = 1 then s.spareUsed.setObj 0x2A10 3 3 else s.spareUsed).log .flt 0 0x4234 srcManager
  else s.spareUsed

theorem spareTaken_sameBut : SameBut [.regs, .events, .objs] s s.spareTaken := by
  have hu : SameBut [.regs, .events, .objs] s s.spareUsed := spareUsed_sameBut (by decide) .refl
  exact keeps_ite (log_sameBut (by decide) (keeps_ite (setObj_sameBut (by decide) hu) hu)) hu

theorem spareTaken_regsBut : RegsBut (fun a => a = Reg.FLT_LOG_LOST) s s.spareTaken := by
  have hu : RegsBut (fun a => a = Reg.FLT_LOG_LOST) s s.spareUsed := .congr .refl rfl
  exact keeps_ite (log_regsBut rfl (keeps_ite (hu.congr rfl) hu)) hu

theorem remapSwitch_of_over (hm : s.fault.remap = some m) (hp : m.phase = 5) (h3 : s.phase ≠ 3)
    (hr : s.fault.retired.contains m.spare = false) (hu : s.switchOver m = some u) (hc : u.phase ≠ 2 ∨ u.clock.policy = 2) :
    s.remapSwitch = (u.switchMarked m).spareTaken := by
  have h1 : ¬(m.phase ≠ 5 ∨ s.phase = 3) := by omega
  have h2 : ¬(s.fault.retired.contains m.spare = true) := by simp only [hr, Bool.false_eq_true, not_false_eq_true]
  have hph : (u.switchMarked m).spareTaken.phase = u.phase := by
    unfold phase
    rw [spareTaken_regsBut.get (by decide)]
    exact get_put_addr (by decide)
  have hcl : (u.switchMarked m).spareTaken.clock = u.clock := spareTaken_sameBut.eq (f := State.clock) fun _ => rfl
  have h4 : ¬((u.switchMarked m).spareTaken.phase = 2 ∧ (u.switchMarked m).spareTaken.clock.policy ≠ 2) := by
    rw [hph, hcl]
    omega
  unfold remapSwitch
  rw [hm]
  dsimp only
  rw [if_neg h1, if_neg h2, hu]
  exact if_neg h4

/-- Settles O50: the restore's descriptors and the marks of the remap stand in registers of their own. -/
theorem remapCommandsComplete : Obligations.RemapCommandsComplete := by
  unfold Obligations.RemapCommandsComplete
  intro s
  refine ⟨fun l t sp x stamp hn hl hs hsp hx => ?_, fun t b k r hn hw hs hl hb => ?_, fun m hm hp hr => ?_,
    fun m u hm hp h3 hr hu hc => ?_⟩
  · obtain ⟨b, f, e⟩ := remapStart_of_asked hn hl hs
    have hb : s.sameBytes (s.remapStart (some l.val)) :=
      (remapStart_sameBut (F := [.regs, .events, .fault, .progress]) (by decide) .refl).sameBytes rfl rfl
    obtain ⟨h1, h2, h3, h4⟩ := remapArm_result (began := b) (fail := f) l.isLt hsp hx
    rw [e] at hb
    exact completes_done (congrArg s.done e) ⟨by rw [withQueue_fault, h1], get_withQueue.trans h2, get_withQueue.trans h3,
      get_withQueue.trans h4, sameBytes_withQueue hb⟩
  · have e := remapStart_of_waiting hn hw hs hl hb
    have hl := log_sameBut (F := [.regs, .events]) (by decide) (.refl (s := s.onFault fun f => { f with waiting := r }))
      (b := .flt) (inst2 := 0) (code := 0x4232) (source := t) (p0 := 0) (p1 := 0)
    refine completes_done (congrArg s.done e) ⟨?_, sameBytes_withQueue (hl.sameBytes rfl rfl)⟩
    rw [withQueue_fault, hl.eq (f := State.fault) fun _ => rfl]
    rfl
  · refine completes_done (congrArg s.done (restoreDone_of_armed hm hp hr)) ⟨by rw [withQueue_fault, onFault_fault], ?_⟩
    rw [get_withQueue, get_onFault, progEnd, get_setProg, get_put_self (by decide)]
    rfl
  · have hs := spareTaken_sameBut (s := u.switchMarked m)
    refine completes_done (congrArg s.done (remapSwitch_of_over hm hp h3 hr hu hc)) ⟨?_, ?_, sameBytes_withQueue (hs.sameBytes rfl rfl)⟩
    · rw [get_withQueue, spareTaken_regsBut.get (by decide)]
      exact get_put_self (by decide)
    · rw [withQueue_fault, hs.eq (f := State.fault) fun _ => rfl]
      rfl

end Sys2Proof.Machine.State
end

section
set_option Elab.async false
/-! PROOFS. What the parts of a timer's cycle change (R673 to R679). -/

namespace Sys2Proof.Machine.State

variable {s t s₀ : State} {B : Nat → Prop} {n u k ev old v : Nat} {f : RF}

/-- The registers that a timer's events change. -/
def timerRegs (u a : Nat) : Prop := a = Reg.TMR_STATUS u ∨ a = Reg.TMR_CNT_LO u ∨ a = Reg.TMR_CNT_HI u

/-- The registers that the events of the timers after `n` change. -/
def laterTimers (n a : Nat) : Prop := ∃ u, n < u ∧ u < 16 ∧ timerRegs u a

theorem not_laterTimers {a : Nat} (hlo : 0x10D0000 + 0x1000 * n ≤ a) (hhi : a < 0x10D1000 + 0x1000 * n) : ¬laterTimers n a := by
  rintro ⟨u, hnu, -, h⟩
  simp only [timerRegs, Reg.TMR_STATUS, Reg.TMR_CNT_LO, Reg.TMR_CNT_HI] at h
  omega

/-! Events (R674). -/

theorem tmrRaise_regsBut (hB : B (Reg.TMR_STATUS u)) (h : RegsBut B s₀ s) : RegsBut B s₀ (s.tmrRaise u ev) := by
  unfold tmrRaise
  extract_lets x fed
  have hx : RegsBut B s₀ x := keeps_ite (raise_regsBut (put_regsBut hB h)) h
  exact hx.congr rfl

theorem get_tmrRaise : (s.tmrRaise u ev).get f = (if 2 ≤ ev then s.put ⟨Reg.TMR_STATUS u, ev, 1⟩ 1 else s).get f := by
  unfold tmrRaise
  extract_lets x fed
  rw [show (x.onTimers _).get f = x.get f from get_congr rfl]
  simp only [x]
  split
  · exact get_raise
  · rfl

theorem get_tmrRaise_off (h : f.addr ≠ Reg.TMR_STATUS u ∨ f.lo + f.len ≤ ev ∨ ev + 1 ≤ f.lo) :
    (s.tmrRaise u ev).get f = s.get f := by
  rw [get_tmrRaise]
  split
  · obtain h | h := h
    · exact get_put_addr h
    · exact get_put_clear h
  · rfl

theorem get_tmrRaise_self (h2 : 2 ≤ ev) (h : ev < 32) : (s.tmrRaise u ev).get ⟨Reg.TMR_STATUS u, ev, 1⟩ = 1 := by
  rw [get_tmrRaise, if_pos h2, get_put_self (by simpa using h)]
  rfl

/-- A flag that an event has set stays set through the next. -/
theorem get_tmrRaise_keeps {b : Nat} (hb : b < 32) (h : s.get ⟨Reg.TMR_STATUS u, b, 1⟩ = 1) :
    (s.tmrRaise u ev).get ⟨Reg.TMR_STATUS u, b, 1⟩ = 1 := by
  by_cases e : ev = b
  · subst e
    rw [get_tmrRaise]
    split
    · exact get_put_self hb
    · exact h
  · rw [get_tmrRaise_off (.inr (by dsimp only; omega)), h]

theorem tmrRaise_div : (s.tmrRaise u ev).timers.div = s.timers.div := by
  unfold tmrRaise
  extract_lets x fed
  have hx : x.timers = s.timers := by
    simp only [x]
    split
    · rw [(raise_sameBut (F := [.regs, .sent]) (by decide) (put_sameBut (by decide) .refl)).eq (f := State.timers) fun _ => rfl]
    · rfl
  change x.timers.div = _
  rw [hx]

theorem tmrRaise_slaves (h : n ∈ s.timers.slaves) : n ∈ (s.tmrRaise u ev).timers.slaves := by
  unfold tmrRaise
  extract_lets x fed
  have hx : x.timers = s.timers := by
    simp only [x]
    split
    · rw [(raise_sameBut (F := [.regs, .sent]) (by decide) (put_sameBut (by decide) .refl)).eq (f := State.timers) fun _ => rfl]
    · rfl
  refine List.mem_append_left _ ?_
  rw [hx]
  exact h

theorem mem_tmrHits {e : Nat} (h : e ∈ s.tmrHits u old) : e = 2 ∨ e = 3 := by
  unfold tmrHits at h
  dsimp only at h
  split at h
  · cases h
  · simp only [List.mem_append] at h
    obtain h | h := h <;> split at h <;> simp_all

theorem tmrCompare_regsBut (hB : B (Reg.TMR_STATUS u)) (h : RegsBut B s₀ s) : RegsBut B s₀ (s.tmrCompare u old) :=
  keeps_foldl (P := RegsBut B s₀) _ h fun _ hx _ => tmrRaise_regsBut hB hx

theorem get_tmrCompare_off (h : f.addr ≠ Reg.TMR_STATUS u ∨ f.lo + f.len ≤ 2 ∨ 4 ≤ f.lo) :
    (s.tmrCompare u old).get f = s.get f := by
  unfold tmrCompare
  refine keeps_foldl_mem (P := fun x : State => x.get f = s.get f) _ rfl fun x hx e he => (get_tmrRaise_off ?_).trans hx
  have := mem_tmrHits he
  omega

theorem get_tmrCompare_flag (h : 2 ∈ s.tmrHits u old) : (s.tmrCompare u old).get (Reg.TMR_STATUS_CMP0 u) = 1 := by
  exact foldl_reaches (P := fun _ => True) (Q := fun x : State => x.get (Reg.TMR_STATUS_CMP0 u) = 1) h trivial
    (fun _ _ _ _ => trivial) (fun x _ => get_tmrRaise_self le_rfl (by decide)) fun x m hx => get_tmrRaise_keeps (by decide) hx

theorem tmrCompare_div : (s.tmrCompare u old).timers.div = s.timers.div :=
  keeps_foldl (P := fun x : State => x.timers.div = s.timers.div) _ rfl fun _ hx _ => tmrRaise_div.trans hx

theorem tmrCompare_slaves (h : n ∈ s.timers.slaves) : n ∈ (s.tmrCompare u old).timers.slaves :=
  keeps_foldl (P := fun x : State => n ∈ x.timers.slaves) _ h fun _ hx _ => tmrRaise_slaves hx

/-! The timers after one (R676). -/

/-- What the events of the timers after `n` leave: its own registers, its prescaler's count and the actions that are due. -/
def LaterOnly (n : Nat) (s t : State) : Prop :=
  RegsBut (laterTimers n) s t ∧ t.timers.div.at n = s.timers.div.at n ∧ ∀ v ∈ s.timers.slaves, v ∈ t.timers.slaves

theorem LaterOnly.refl : LaterOnly n s s := ⟨.refl, rfl, fun _ h => h⟩

theorem LaterOnly.trans {w : State} (h : LaterOnly n s t) (h' : LaterOnly n t w) : LaterOnly n s w :=
  ⟨h.1.trans h'.1, h'.2.1.trans h.2.1, fun v hv => h'.2.2 v (h.2.2 v hv)⟩

/-- Stage 1 of a running timer, before its wrap and compare events (R673). -/
def tmrCounted (s : State) (u k c : Nat) : State :=
  (s.onTimers fun m => { m with
    div := m.div.put u ((s.timers.div.at u + k) % (s.get (Reg.TMR_CFG_PRESCALE u) + 1)) }).put64 (Reg.TMR_CNT_LO u) c

/-- What the events of a timer make of its count (R674). -/
def tmrSteppedOf (s : State) (u k : Nat) : Nat × Nat × Bool :=
  tmrSteps (s.get (Reg.TMR_CFG_MODE u)) (s.get64 (Reg.TMR_CMP0_LO u))
    ((s.timers.div.at u + k) / (s.get (Reg.TMR_CFG_PRESCALE u) + 1)) (s.tmrCount u) 0 false

/-- Stage 1 with the wrap event. -/
def tmrWrapped (s : State) (u k : Nat) : State :=
  if 0 < (s.tmrSteppedOf u k).2.1 then (s.tmrCounted u k (s.tmrSteppedOf u k).1).tmrRaise u 4
  else s.tmrCounted u k (s.tmrSteppedOf u k).1

theorem tmrAdvance_of_shut (h : s.get (Reg.TMR_STATUS_RUN u) = 0 ∨ s.tmrGate u = false) : s.tmrAdvance u k = (s, [], []) := by
  have hc : (!s.flag (Reg.TMR_STATUS_RUN u) || !s.tmrGate u) = true := by
    obtain h | h := h
    · rw [flag_eq_false.2 h]
      rfl
    · rw [h]
      simp
  exact if_pos hc

theorem tmrAdvance_of_run (h : s.get (Reg.TMR_STATUS_RUN u) = 1) (hg : s.tmrGate u = true) : s.tmrAdvance u k =
    ((s.tmrWrapped u k).tmrCompare u (s.tmrCount u), (s.tmrWrapped u k).tmrHits u (s.tmrCount u) ++
      List.replicate (s.tmrSteppedOf u k).2.1 4, if (s.tmrSteppedOf u k).2.2 = true then [u] else []) := by
  have hc : ¬((!s.flag (Reg.TMR_STATUS_RUN u) || !s.tmrGate u) = true) := by
    rw [flag_eq_true.2 (by omega : s.get (Reg.TMR_STATUS_RUN u) ≠ 0), hg]
    decide
  exact if_neg hc

theorem tmrCounted_regsBut {c : Nat} (hB : ∀ a, timerRegs u a → B a) (h : RegsBut B s₀ s) : RegsBut B s₀ (s.tmrCounted u k c) :=
  put64_regsBut (hB _ (.inr (.inl rfl))) (hB _ (.inr (.inr (by simp only [Reg.TMR_CNT_LO, Reg.TMR_CNT_HI]; omega)))) (h.congr rfl)

theorem tmrWrapped_regsBut (hB : ∀ a, timerRegs u a → B a) (h : RegsBut B s₀ s) : RegsBut B s₀ (s.tmrWrapped u k) :=
  keeps_ite (tmrRaise_regsBut (hB _ (.inl rfl)) (tmrCounted_regsBut hB h)) (tmrCounted_regsBut hB h)

theorem tmrAdvance_later (hn : n < u) (hu : u < 16) : LaterOnly n s (s.tmrAdvance u k).1 := by
  by_cases hr : s.get (Reg.TMR_STATUS_RUN u) = 0 ∨ s.tmrGate u = false
  · rw [tmrAdvance_of_shut hr]
    exact .refl
  · have h1 : s.get (Reg.TMR_STATUS_RUN u) = 1 := by
      have := s.get_lt (f := Reg.TMR_STATUS_RUN u)
      simp only at this
      omega
    have hg : s.tmrGate u = true := by
      rw [← Bool.not_eq_false]
      exact fun h => hr (.inr h)
    have hB : ∀ a, timerRegs u a → laterTimers n a := fun a ha => ⟨u, hn, hu, ha⟩
    rw [tmrAdvance_of_run h1 hg]
    refine ⟨tmrCompare_regsBut (hB _ (.inl rfl)) (tmrWrapped_regsBut hB .refl), ?_, fun v hv => tmrCompare_slaves ?_⟩
    · rw [tmrCompare_div]
      have hc : (s.tmrCounted u k (s.tmrSteppedOf u k).1).timers.div.at n = s.timers.div.at n :=
        Nums.at_put.trans (if_neg (by omega))
      unfold tmrWrapped
      split
      · rw [tmrRaise_div, hc]
      · exact hc
    · have hc : v ∈ (s.tmrCounted u k (s.tmrSteppedOf u k).1).timers.slaves := hv
      unfold tmrWrapped
      split
      · exact tmrRaise_slaves hc
      · exact hc

theorem mem_tmrAdvance_stops {e : Nat} (h : e ∈ (s.tmrAdvance u k).2.2) : e = u := by
  unfold tmrAdvance at h
  split at h
  · cases h
  · dsimp only at h
    split at h
    · exact List.mem_singleton.1 h
    · cases h

/-! A cycle and its cascades (R676). -/

/-- A timer's part of a cycle: it counts where it cascades from an event that was raised. -/
def cascadeOne (x : State × List (Nat × Nat) × List Nat) (u : Nat) : State × List (Nat × Nat) × List Nat :=
  let k := (x.2.1.filter fun e => e.1 = x.1.get (Reg.TMR_TRIG_MASTER u) && e.2 = x.1.get (Reg.TMR_TRIG_MEVENT u)).length
  if x.1.get (Reg.TMR_CFG_SRC u) = 3 ∧ 0 < k then
    let r := x.1.tmrAdvance u k
    (r.1, x.2.1 ++ r.2.1.map (u, ·), x.2.2 ++ r.2.2)
  else x

/-- The cascades of a cycle over a list of timers. -/
def cascades (x : State × List (Nat × Nat) × List Nat) (l : List Nat) : State × List (Nat × Nat) × List Nat :=
  l.foldl cascadeOne x

/-- The first timer's part of a cycle, with the timers after it. -/
def tmrCycle (s : State) (u k : Nat) : State × List (Nat × Nat) × List Nat :=
  cascades ((s.tmrAdvance u k).1, (s.tmrAdvance u k).2.1.map (u, ·), (s.tmrAdvance u k).2.2) ((List.range 16).filter (u < ·))

theorem tmrEvents_eq : s.tmrEvents u k = (s.tmrCycle u k).2.2.foldl (fun s v => s.put (Reg.TMR_STATUS_RUN v) 0) (s.tmrCycle u k).1 := by
  rw [tmrEvents, tmrCycle, cascades]
  rfl

theorem cascades_later {x : State × List (Nat × Nat) × List Nat} {l : List Nat} (hl : ∀ u ∈ l, n < u ∧ u < 16) :
    LaterOnly n x.1 (cascades x l).1 ∧ ∃ r : List Nat, (cascades x l).2.2 = x.2.2 ++ r ∧ ∀ e ∈ r, n < e ∧ e < 16 := by
  induction l generalizing x with
  | nil => exact ⟨.refl, [], (List.append_nil _).symm, fun e he => by cases he⟩
  | cons u l ih =>
    have hu := hl u List.mem_cons_self
    obtain ⟨h1, r, h2, h3⟩ := ih (x := cascadeOne x u) fun v hv => hl v (List.mem_cons_of_mem _ hv)
    have hx : LaterOnly n x.1 (cascadeOne x u).1 ∧ ∃ q : List Nat, (cascadeOne x u).2.2 = x.2.2 ++ q ∧ ∀ e ∈ q, e = u := by
      unfold cascadeOne
      dsimp only
      split
      · exact ⟨tmrAdvance_later hu.1 hu.2, _, rfl, fun e he => mem_tmrAdvance_stops he⟩
      · exact ⟨.refl, [], (List.append_nil _).symm, fun e he => by cases he⟩
    obtain ⟨h4, q, h5, h6⟩ := hx
    refine ⟨h4.trans h1, q ++ r, ?_, fun e he => ?_⟩
    · change (cascades (cascadeOne x u) l).2.2 = _
      rw [h2, h5, List.append_assoc]
    · obtain he | he := List.mem_append.1 he
      · rw [h6 e he]
        exact hu
      · exact h3 e he

theorem cascades_of_quiet {x : State × List (Nat × Nat) × List Nat} {l : List Nat} (h : x.2.1 = []) : cascades x l = x := by
  induction l with
  | nil => rfl
  | cons u l ih =>
    have hx : cascadeOne x u = x := by
      unfold cascadeOne
      simp [h]
    rw [cascades, List.foldl_cons, hx]
    exact ih

/-- The stops at the end of a cycle (R674). -/
def tmrStops (s : State) (l : List Nat) : State := l.foldl (fun s v => s.put (Reg.TMR_STATUS_RUN v) 0) s

theorem tmrStops_later {l : List Nat} (hl : ∀ u ∈ l, n < u ∧ u < 16) : LaterOnly n s (s.tmrStops l) :=
  keeps_foldl_mem (P := LaterOnly n s) _ .refl fun _ hx v hv =>
    hx.trans ⟨put_regsBut ⟨v, (hl v hv).1, (hl v hv).2, .inl rfl⟩ .refl, rfl, fun _ h => h⟩

theorem mem_timers_after {u v : Nat} (h : v ∈ (List.range 16).filter (u < ·)) : u < v ∧ v < 16 := by
  simpa [and_comm] using h

/-- A cycle of a timer leaves, after its own part, the timers before the next, and stops it where a one-shot is over. -/
theorem tmrEvents_own : ∃ y : State, ∃ r : List Nat, (∀ n ≤ u, LaterOnly n (s.tmrAdvance u k).1 y) ∧ (∀ e ∈ r, u < e ∧ e < 16) ∧
    s.tmrEvents u k = (y.tmrStops (s.tmrAdvance u k).2.2).tmrStops r := by
  have hc := fun n (hn : n ≤ u) => cascades_later (n := n)
    (x := ((s.tmrAdvance u k).1, (s.tmrAdvance u k).2.1.map (u, ·), (s.tmrAdvance u k).2.2))
    (l := (List.range 16).filter (u < ·)) fun v hv => by
      have := mem_timers_after hv
      omega
  obtain ⟨-, r, h2, h3⟩ := hc u le_rfl
  refine ⟨_, r, fun n hn => (hc n hn).1, h3, ?_⟩
  rw [tmrEvents_eq, tmrCycle, h2, List.foldl_append]
  rfl

theorem tmrEvents_later (hn : n < u) (hu : u < 16) : LaterOnly n s (s.tmrEvents u k) := by
  obtain ⟨y, r, h1, h2, h3⟩ := s.tmrEvents_own (u := u) (k := k)
  rw [h3]
  refine (((tmrAdvance_later hn hu).trans (h1 n hn.le)).trans (tmrStops_later fun e he => ?_)).trans (tmrStops_later fun e he => ?_)
  · rw [mem_tmrAdvance_stops he]
    exact ⟨hn, hu⟩
  · have := h2 e he
    omega

/-! Starts, and a count that is set (R679). -/

/-- A start leaves RUN, its event's slaves, and the timers that count on from it (R677, R679). -/
theorem tmrStart_later :
    LaterOnly n ((s.put (Reg.TMR_STATUS_RUN n) 1).tmrRaise n 1) (s.tmrStart n) := by
  refine keeps_foldl_mem (P := LaterOnly n ((s.put (Reg.TMR_STATUS_RUN n) 1).tmrRaise n 1)) _ .refl fun x hx u hu => hx.trans ?_
  simp only [List.mem_filter, List.mem_range, Bool.and_eq_true, decide_eq_true_eq] at hu
  exact tmrEvents_later hu.2.1.1.1 hu.1

end Sys2Proof.Machine.State
end

section
set_option Elab.async false
/-! PROOFS. The timers' commands (R673 to R679). -/

namespace Sys2Proof.Machine.State

variable {s t : State} {n u k v : Nat} {b : Bool} {f : RF}

/-! Starts, stops and counts that are set (R679). -/

theorem get_later (h : LaterOnly n s t) (hlo : 0x10D0000 + 0x1000 * n ≤ f.addr) (hhi : f.addr < 0x10D1000 + 0x1000 * n) :
    t.get f = s.get f := h.1.get (not_laterTimers hlo hhi)

theorem count_later (h : LaterOnly n s t) : t.get64 (Reg.TMR_CNT_LO n) = s.get64 (Reg.TMR_CNT_LO n) :=
  h.1.get64 (not_laterTimers (by simp only [Reg.TMR_CNT_LO]; omega) (by simp only [Reg.TMR_CNT_LO]; omega))
    (not_laterTimers (by simp only [Reg.TMR_CNT_LO]; omega) (by simp only [Reg.TMR_CNT_LO]; omega))

/-- A change of TMR_STATUS alone leaves the 64-bit registers of the timers. -/
theorem get64_status {a : Nat} (h : RegsBut (fun a => a = Reg.TMR_STATUS n) s t) (ha : a ≠ Reg.TMR_STATUS n)
    (ha' : a + 4 ≠ Reg.TMR_STATUS n) : t.get64 a = s.get64 a := h.get64 ha ha'

theorem tmrStart_result : (s.tmrStart n).get (Reg.TMR_STATUS_RUN n) = 1 ∧
    (s.tmrStart n).get64 (Reg.TMR_CNT_LO n) = s.get64 (Reg.TMR_CNT_LO n) := by
  have hl := s.tmrStart_later (n := n)
  have hr : RegsBut (fun a => a = Reg.TMR_STATUS n) s ((s.put (Reg.TMR_STATUS_RUN n) 1).tmrRaise n 1) :=
    tmrRaise_regsBut rfl (put_regsBut rfl .refl)
  refine ⟨?_, ?_⟩
  · rw [get_later hl (by simp only [Reg.TMR_STATUS]; omega) (by simp only [Reg.TMR_STATUS]; omega),
      get_tmrRaise_off (.inr (.inl (by simp))), get_put_self (by simp)]
    rfl
  · rw [count_later hl, get64_status hr (by simp only [Reg.TMR_CNT_LO, Reg.TMR_STATUS]; omega)
      (by simp only [Reg.TMR_CNT_LO, Reg.TMR_STATUS]; omega)]

theorem tmrStart_slaves (hu : u < 16) (hm : s.get (Reg.TMR_TRIG_MASTER u) = n) (he : s.get (Reg.TMR_TRIG_MEVENT u) = 1)
    (hs : s.get (Reg.TMR_TRIG_SLAVE u) ≠ 0) : u ∈ (s.tmrStart n).timers.slaves := by
  refine s.tmrStart_later.2.2 u ?_
  have hp : ∀ f : RF, f.addr = Reg.TMR_TRIG u → (s.put (Reg.TMR_STATUS_RUN n) 1).get f = s.get f := fun f hf =>
    get_put_addr (by rw [hf]; simp only [Reg.TMR_TRIG, Reg.TMR_STATUS]; omega)
  unfold tmrRaise
  rw [if_neg (by decide)]
  dsimp only
  by_cases hc : u ∈ (s.put (Reg.TMR_STATUS_RUN n) 1).timers.slaves
  · exact List.mem_append_left _ hc
  · refine List.mem_append_right _ (List.mem_filter.2 ⟨List.mem_filter.2 ⟨List.mem_range.2 hu, ?_⟩, ?_⟩)
    · rw [hp _ rfl, hp _ rfl, hm, he]
      simp
    · rw [hp _ rfl]
      simpa [hs] using hc

theorem tmrSet_regsBut : RegsBut (timerRegs n) s (s.tmrSet n v) :=
  tmrCompare_regsBut (.inl rfl) (put64_regsBut (.inr (.inl rfl)) (.inr (.inr (by simp only [Reg.TMR_CNT_LO, Reg.TMR_CNT_HI]; omega)))
    .refl)

theorem tmrSet_result : (s.tmrSet n v).get64 (Reg.TMR_CNT_LO n) = v % 2 ^ 64 ∧
    (s.tmrSet n v).get (Reg.TMR_STATUS_RUN n) = s.get (Reg.TMR_STATUS_RUN n) := by
  refine ⟨?_, ?_⟩
  · rw [tmrSet, get64_status (tmrCompare_regsBut rfl .refl) (by simp only [Reg.TMR_CNT_LO, Reg.TMR_STATUS]; omega)
      (by simp only [Reg.TMR_CNT_LO, Reg.TMR_STATUS]; omega), get64_put64]
  · rw [tmrSet, get_tmrCompare_off (.inr (.inl (by simp))),
      get_put64_addr (by simp only [Reg.TMR_CNT_LO, Reg.TMR_STATUS]; omega) (by simp only [Reg.TMR_CNT_LO, Reg.TMR_STATUS]; omega)]

theorem tmrSet_flag (h : s.get64 (Reg.TMR_CNT_LO n) ≠ v) (hv : v < 2 ^ 64) (hc : s.get64 (Reg.TMR_CMP0_LO n) = v) :
    (s.tmrSet n v).get (Reg.TMR_STATUS_CMP0 n) = 1 := by
  refine get_tmrCompare_flag ?_
  have h1 : (s.put64 (Reg.TMR_CNT_LO n) v).tmrCount n = v := get64_put64.trans (Nat.mod_eq_of_lt hv)
  have h2 : (s.put64 (Reg.TMR_CNT_LO n) v).get64 (Reg.TMR_CMP0_LO n) = v :=
    (get64_put64_ne (.inr (by simp only [Reg.TMR_CNT_LO, Reg.TMR_CMP0_LO]; omega))).trans hc
  unfold tmrHits
  dsimp only
  rw [h1, h2, if_neg (by rw [tmrCount]; exact fun e => h e.symm), if_pos rfl]
  exact List.mem_append_left _ List.mem_cons_self

theorem get64_lt {a : Nat} : s.get64 a < 2 ^ 64 := by
  have h := (s.reg a).isLt
  have h' := (s.reg (a + 4)).isLt
  unfold get64
  omega

/-! Captures (R678). -/

/-- FRESH of a capture register. -/
def freshOf (n : Nat) (b : Bool) : RF := if b then Reg.TMR_STATUS_FRESH_B n else Reg.TMR_STATUS_FRESH_A n

/-- OVERCAP of a capture register. -/
def overOf (n : Nat) (b : Bool) : RF := if b then Reg.TMR_STATUS_OVERCAP_B n else Reg.TMR_STATUS_OVERCAP_A n

theorem capture_fields : (freshOf n b).addr = Reg.TMR_STATUS n ∧ (overOf n b).addr = Reg.TMR_STATUS n ∧
    (freshOf n b).len = 1 ∧ (overOf n b).len = 1 ∧ (freshOf n b).lo + 1 ≤ (overOf n b).lo ∧ (overOf n b).lo ≤ 8 := by
  cases b <;> exact ⟨rfl, rfl, rfl, rfl, by simp [freshOf, overOf], by simp [overOf]⟩

theorem capAddr_bounds : 0x10D0040 + 0x1000 * n ≤ capAddr n b ∧ capAddr n b ≤ 0x10D0048 + 0x1000 * n := by
  unfold capAddr
  cases b
  · simp only [Bool.false_eq_true, if_false, Reg.TMR_CAPA_LO]
    omega
  · simp only [if_true, Reg.TMR_CAPB_LO]
    omega

/-- The mark of a capture that no read has taken yet. -/
def overMarked (s : State) (n : Nat) (b : Bool) : State :=
  if s.flag (freshOf n b) = true then (s.put (overOf n b) 1).raise (Reg.TMR_INT_EN n) 5 else s

theorem tmrCapture_eq : s.tmrCapture n b = (((s.overMarked n b).put64 (capAddr n b) ((s.overMarked n b).tmrCount n)).put
    (freshOf n b) 1).raise (Reg.TMR_INT_EN n) (if b then 4 else 3) := rfl

theorem overMarked_regsBut : RegsBut (fun a => a = Reg.TMR_STATUS n) s (s.overMarked n b) :=
  keeps_ite (raise_regsBut (put_regsBut capture_fields.2.1 .refl)) .refl

theorem tmrCapture_regsBut : RegsBut (fun a => a ∈ [capAddr n b, capAddr n b + 4, Reg.TMR_STATUS n]) s (s.tmrCapture n b) := by
  rw [tmrCapture_eq]
  have ho : RegsBut (fun a => a ∈ [capAddr n b, capAddr n b + 4, Reg.TMR_STATUS n]) s (s.overMarked n b) :=
    overMarked_regsBut.mono fun a h => by simp [h]
  exact raise_regsBut (put_regsBut (by rw [capture_fields.1]; simp) (put64_regsBut (by simp) (by simp) ho))

theorem tmrCapture_result : (s.tmrCapture n b).get64 (capAddr n b) = s.get64 (Reg.TMR_CNT_LO n) ∧
    (s.tmrCapture n b).get (freshOf n b) = 1 ∧ (s.get (freshOf n b) = 1 → (s.tmrCapture n b).get (overOf n b) = 1) := by
  obtain ⟨hf, ho, hfl, hol, hlt, hle⟩ := capture_fields (n := n) (b := b)
  obtain ⟨hlo, hhi⟩ := capAddr_bounds (n := n) (b := b)
  have hc : (s.overMarked n b).tmrCount n = s.get64 (Reg.TMR_CNT_LO n) :=
    get64_status overMarked_regsBut (by simp only [Reg.TMR_CNT_LO, Reg.TMR_STATUS]; omega)
      (by simp only [Reg.TMR_CNT_LO, Reg.TMR_STATUS]; omega)
  rw [tmrCapture_eq, hc]
  refine ⟨?_, ?_, fun h => ?_⟩
  · have hr : ∀ (x : State) e i, (x.raise e i).get64 (capAddr n b) = x.get64 (capAddr n b) := fun x e i => by
      rw [get64, get64, reg_raise, reg_raise]
    rw [hr, get64_put_ne (by rw [hf]; simp only [Reg.TMR_STATUS]; omega) (by rw [hf]; simp only [Reg.TMR_STATUS]; omega),
      get64_put64]
    exact Nat.mod_eq_of_lt get64_lt
  · rw [get_raise, get_put_self (by omega), hfl]
    rfl
  · rw [get_raise, get_put_clear (.inr (by omega)), get_put64_addr (by rw [ho]; simp only [Reg.TMR_STATUS]; omega)
      (by rw [ho]; simp only [Reg.TMR_STATUS]; omega), overMarked, if_pos (flag_eq_true.2 (by omega)), get_raise,
      get_put_self (by omega), hol]
    rfl

end Sys2Proof.Machine.State
end

section
set_option Elab.async false
/-! PROOFS. Slaves, chains, events and settings of the timers (R674 to R679). -/

namespace Sys2Proof.Machine.State

variable {s t : State} {n u k v : Nat} {b : Bool} {f : RF}

/-! Slaves (R677). -/

/-- A timer whose due action is taken. -/
def slaveTaken (s : State) (n : Nat) : State := s.onTimers fun m => { m with slaves := m.slaves.filter (· != n) }

theorem slaveTaken_not_due : n ∉ (s.slaveTaken n).timers.slaves := by
  change n ∉ s.timers.slaves.filter (· != n)
  simp

theorem slaveAct_of_due (h : n ∈ s.timers.slaves) : s.slaveAct n = match s.get (Reg.TMR_TRIG_SLAVE n) with
    | 1 => (s.slaveTaken n).tmrStart n
    | 2 => (s.slaveTaken n).tmrStop n
    | 3 => (s.slaveTaken n).tmrSet n 0
    | 4 => ((s.slaveTaken n).tmrSet n 0).tmrStart n
    | 5 => (s.slaveTaken n).tmrCapture n false
    | _ => s.slaveTaken n := by
  have hc : ¬((!s.timers.slaves.contains n) = true) := by simpa using h
  exact if_neg hc

theorem slaveAct_of_idle (h : n ∉ s.timers.slaves) : s.slaveAct n = s := by
  have hc : (!s.timers.slaves.contains n) = true := by simpa using h
  exact if_pos hc

/-! Captures from a source (R678). -/

/-- A capture's master event is taken. -/
def capTaken (s : State) (n : Nat) (b : Bool) : State :=
  s.onTimers fun m => { m with caps := m.caps.filter (· != 2 * n + if b then 1 else 0) }

theorem capFrom_of_source {k : Nat} (h : s.capSource n b = k) (hk : k = 2 → 2 * n + (if b then 1 else 0) ∈ s.timers.caps) :
    s.capFrom n b k = (if k = 2 then s.capTaken n b else s).tmrCapture n b := by
  have h1 : ¬(s.capSource n b ≠ k) := not_not.2 h
  unfold capFrom
  rw [if_neg h1]
  by_cases h2 : k = 2
  · have h3 : s.timers.caps.contains (2 * n + if b then 1 else 0) = true := by simpa using hk h2
    rw [if_pos h2, if_pos h2]
    exact if_pos h3
  · rw [if_neg h2, if_neg h2]

theorem capFrom_of_other {k : Nat} (h : s.capSource n b ≠ k) : s.capFrom n b k = s := if_pos h

/-! Chains (R676). -/

/-- The members of a chain, copied into their TMR_SNAP. -/
def snapped (s : State) (l : List Nat) : State := l.foldl (fun s u => s.put64 (Reg.TMR_SNAP_LO u) (s.tmrCount u)) s

theorem snapped_count {l : List Nat} : (s.snapped l).get64 (Reg.TMR_CNT_LO u) = s.get64 (Reg.TMR_CNT_LO u) := by
  refine keeps_foldl (P := fun x : State => x.get64 (Reg.TMR_CNT_LO u) = s.get64 (Reg.TMR_CNT_LO u)) l rfl fun x hx w => ?_
  rw [get64_put64_ne (by simp only [Reg.TMR_CNT_LO, Reg.TMR_SNAP_LO]; omega), hx]

theorem snapped_copy {l : List Nat} (h : u ∈ l) : (s.snapped l).get64 (Reg.TMR_SNAP_LO u) = s.get64 (Reg.TMR_CNT_LO u) := by
  have hs : ∀ x : State, x.get64 (Reg.TMR_CNT_LO u) = s.get64 (Reg.TMR_CNT_LO u) →
      (x.put64 (Reg.TMR_SNAP_LO u) (x.tmrCount u)).get64 (Reg.TMR_SNAP_LO u) = s.get64 (Reg.TMR_CNT_LO u) := fun x hx => by
    rw [get64_put64, tmrCount, hx]
    exact Nat.mod_eq_of_lt get64_lt
  have hc : ∀ (x : State) m, x.get64 (Reg.TMR_CNT_LO u) = s.get64 (Reg.TMR_CNT_LO u) →
      (x.put64 (Reg.TMR_SNAP_LO m) (x.tmrCount m)).get64 (Reg.TMR_CNT_LO u) = s.get64 (Reg.TMR_CNT_LO u) := fun x m hx => by
    rw [get64_put64_ne (by simp only [Reg.TMR_CNT_LO, Reg.TMR_SNAP_LO]; omega), hx]
  refine (foldl_reaches (P := fun x : State => x.get64 (Reg.TMR_CNT_LO u) = s.get64 (Reg.TMR_CNT_LO u))
    (Q := fun x : State => x.get64 (Reg.TMR_CNT_LO u) = s.get64 (Reg.TMR_CNT_LO u) ∧
      x.get64 (Reg.TMR_SNAP_LO u) = s.get64 (Reg.TMR_CNT_LO u)) h rfl (fun x m _ hx => hc x m hx)
    (fun x hx => ⟨hc x u hx, hs x hx⟩) fun x m hx => ⟨hc x m hx.1, ?_⟩).2
  by_cases e : m = u
  · rw [e]
    exact hs x hx.1
  · rw [get64_put64_ne (by simp only [Reg.TMR_SNAP_LO]; omega), hx.2]

/-- The members of a head's chain. -/
def chainOf (s : State) (n : Nat) : List Nat :=
  if s.get (Reg.TMR_CFG_SRC n) = 3 then [] else (List.range 16).filter fun u => u != n && s.chainHead 16 u = n

theorem headRead_eq : s.headRead n = (s.snapped (s.chainOf n)).latchLow (Reg.TMR_CNT_LO n) := by
  unfold headRead chainOf
  dsimp only
  split <;> rfl

theorem mem_chainOf (hu : u < 16) (hn : u ≠ n) (hs : s.get (Reg.TMR_CFG_SRC n) ≠ 3) (hc : s.get (Reg.TMR_CFG_SRC u) = 3)
    (hm : s.get (Reg.TMR_TRIG_MASTER u) = n) : u ∈ s.chainOf n := by
  have h : s.chainHead 16 u = n := by
    rw [chainHead, if_pos hc, hm, chainHead, if_neg hs]
  rw [chainOf, if_neg hs]
  exact List.mem_filter.2 ⟨List.mem_range.2 hu, by simp [h, hn]⟩

/-- The words of a 64-bit register are its quotient and remainder. -/
theorem get64_words {a : Nat} : (s.reg a).toNat = s.get64 a % 2 ^ 32 ∧ (s.reg (a + 4)).toNat = s.get64 a / 2 ^ 32 := by
  have h := (s.reg a).isLt
  have h' := (s.reg (a + 4)).isLt
  unfold get64
  omega

theorem latchLow_result {a : Nat} : (s.latchLow a).answer = [s.get64 a % 2 ^ 32] ∧
    (s.latchLow a).latches.at (a + 4) = s.get64 a / 2 ^ 32 + 1 := by
  obtain ⟨h, h'⟩ := s.get64_words (a := a)
  rw [← h, ← h']
  refine ⟨rfl, ?_⟩
  change (s.latches.put (a + 4) ((s.reg (a + 4)).toNat + 1)).at (a + 4) = _
  rw [Nums.at_put, if_pos rfl]

/-! Counted events (R674). -/

theorem tmrSteps_free {cmp k c w : Nat} {hit : Bool} (hc : c < 2 ^ 64) : (tmrSteps 0 cmp k c w hit).1 = (c + k) % 2 ^ 64 := by
  induction k generalizing c w hit with
  | zero => exact (Nat.mod_eq_of_lt hc).symm
  | succ k ih =>
    rw [tmrSteps]
    by_cases ht : c + 1 = 2 ^ 64
    · rw [if_pos (by simp [ht]), ih (by decide)]
      omega
    · rw [if_neg (by simpa using ht), ih (Nat.mod_lt _ (by decide))]
      omega

theorem tmrStops_regsBut {l : List Nat} : RegsBut (fun a => ∃ v, a = Reg.TMR_STATUS v) s (s.tmrStops l) :=
  keeps_foldl (P := RegsBut (fun a => ∃ v, a = Reg.TMR_STATUS v) s) _ .refl fun _ hx v => put_regsBut ⟨v, rfl⟩ hx

theorem tmrStops_timers {l : List Nat} : (s.tmrStops l).timers = s.timers :=
  keeps_foldl (P := fun x : State => x.timers = s.timers) _ rfl fun _ hx _ => put_timers.trans hx

theorem get_tmrStops_flag {l : List Nat} (hb : 1 ≤ f.lo) : (s.tmrStops l).get f = s.get f :=
  keeps_foldl (P := fun x : State => x.get f = s.get f) _ rfl fun _ hx _ => (get_put_clear (.inr (by simpa using hb))).trans hx

theorem count_not_status {a : Nat} (h : a = Reg.TMR_CNT_LO n ∨ a = Reg.TMR_CNT_LO n + 4) : ¬∃ v, a = Reg.TMR_STATUS v := by
  rintro ⟨v, hv⟩
  simp only [Reg.TMR_CNT_LO, Reg.TMR_STATUS] at h hv
  omega

theorem tmrWrapped_count : ((s.tmrWrapped n k).tmrCompare n v).get64 (Reg.TMR_CNT_LO n) = (s.tmrSteppedOf n k).1 % 2 ^ 64 := by
  have hw : RegsBut (fun a => a = Reg.TMR_STATUS n) (s.tmrCounted n k (s.tmrSteppedOf n k).1) (s.tmrWrapped n k) :=
    keeps_ite (tmrRaise_regsBut rfl .refl) .refl
  rw [get64_status (tmrCompare_regsBut rfl hw) (by simp only [Reg.TMR_CNT_LO, Reg.TMR_STATUS]; omega)
    (by simp only [Reg.TMR_CNT_LO, Reg.TMR_STATUS]; omega)]
  exact get64_put64

theorem tmrWrapped_div : (s.tmrWrapped n k).timers.div.at n =
    (s.timers.div.at n + k) % (s.get (Reg.TMR_CFG_PRESCALE n) + 1) := by
  have hc : (s.tmrCounted n k (s.tmrSteppedOf n k).1).timers.div.at n =
      (s.timers.div.at n + k) % (s.get (Reg.TMR_CFG_PRESCALE n) + 1) := Nums.at_put.trans (if_pos rfl)
  unfold tmrWrapped
  split
  · rw [tmrRaise_div, hc]
  · exact hc

/-- What a cycle of a running timer leaves of its count, its prescaler and its flags (R673, R674). -/
theorem tmrEvents_result (hr : s.get (Reg.TMR_STATUS_RUN n) = 1) (hg : s.tmrGate n = true) :
    (s.tmrEvents n k).get64 (Reg.TMR_CNT_LO n) = (s.tmrSteppedOf n k).1 % 2 ^ 64 ∧
      (s.tmrEvents n k).timers.div.at n = (s.timers.div.at n + k) % (s.get (Reg.TMR_CFG_PRESCALE n) + 1) ∧
      (∀ f : RF, f.addr = Reg.TMR_STATUS n → 1 ≤ f.lo →
        (s.tmrEvents n k).get f = ((s.tmrWrapped n k).tmrCompare n (s.tmrCount n)).get f) ∧
      ((s.tmrSteppedOf n k).2.2 = true → (s.tmrEvents n k).get (Reg.TMR_STATUS_RUN n) = 0) := by
  obtain ⟨y, r, hy, hr', e⟩ := s.tmrEvents_own (u := n) (k := k)
  have ha := s.tmrAdvance_of_run (u := n) (k := k) hr hg
  have hl := hy n le_rfl
  rw [ha] at hl e
  dsimp only at hl e
  have hc := (tmrStops_regsBut (s := y) (l := if (s.tmrSteppedOf n k).2.2 = true then [n] else [])).trans
    (tmrStops_regsBut (l := r))
  rw [e]
  refine ⟨?_, ?_, fun f hf hb => ?_, fun hs => ?_⟩
  · rw [hc.get64 (count_not_status (n := n) (.inl rfl)) (count_not_status (n := n) (.inr rfl)), count_later hl, tmrWrapped_count]
  · rw [tmrStops_timers, tmrStops_timers, hl.2.1, tmrCompare_div, tmrWrapped_div]
  · rw [get_tmrStops_flag hb, get_tmrStops_flag hb, get_later hl (by rw [hf]; simp only [Reg.TMR_STATUS]; omega)
      (by rw [hf]; simp only [Reg.TMR_STATUS]; omega)]
  · rw [get_later (tmrStops_later hr') (by simp only [Reg.TMR_STATUS]; omega) (by simp only [Reg.TMR_STATUS]; omega), if_pos hs]
    exact get_put_self (by simp)

end Sys2Proof.Machine.State
end

section
set_option Elab.async false
/-! PROOFS. O58: the commands of a timer (R673 to R679). -/

namespace Sys2Proof.Machine.State

variable {s t : State} {n u k v : Nat} {b : Bool} {w : Word}

/-! Counted events by mode (R674). -/

theorem timer_words : Reg.TMR_CMP0_LO n ≠ Reg.TMR_STATUS n ∧ Reg.TMR_CMP0_LO n + 4 ≠ Reg.TMR_STATUS n ∧
    Reg.TMR_CNT_LO n ≠ Reg.TMR_STATUS n ∧ Reg.TMR_CNT_LO n + 4 ≠ Reg.TMR_STATUS n ∧ Reg.TMR_CNT_HI n = Reg.TMR_CNT_LO n + 4 := by
  simp only [Reg.TMR_CMP0_LO, Reg.TMR_CNT_LO, Reg.TMR_CNT_HI, Reg.TMR_STATUS]
  omega

/-- A register pair that takes its own value keeps it. -/
theorem reg_put64_keeps {a c : Nat} : (s.put64 a (s.get64 a)).reg c = s.reg c := by
  obtain ⟨h, h'⟩ := s.get64_words (a := a)
  rw [reg_put64]
  split
  · next e => rw [e, ← h', BitVec.ofNat_toNat, BitVec.setWidth_eq]
  · split
    · next e =>
      rw [e]
      refine BitVec.eq_of_toNat_eq ?_
      rw [BitVec.toNat_ofNat, ← h]
    · rfl

/-- Events that do not fill the prescaler leave the count and raise nothing (R673). -/
theorem tmrEvents_of_below (hr : s.get (Reg.TMR_STATUS_RUN n) = 1) (hg : s.tmrGate n = true)
    (h : s.timers.div.at n + k < s.get (Reg.TMR_CFG_PRESCALE n) + 1) :
    s.tmrEvents n k = s.tmrCounted n k (s.get64 (Reg.TMR_CNT_LO n)) := by
  have hs : s.tmrSteppedOf n k = (s.get64 (Reg.TMR_CNT_LO n), 0, false) := by
    rw [tmrSteppedOf, Nat.div_eq_of_lt h]
    rfl
  have hw : s.tmrWrapped n k = s.tmrCounted n k (s.get64 (Reg.TMR_CNT_LO n)) := by
    rw [tmrWrapped, hs]
    exact if_neg (lt_irrefl 0)
  have hh : (s.tmrCounted n k (s.get64 (Reg.TMR_CNT_LO n))).tmrHits n (s.tmrCount n) = [] :=
    if_pos (get64_put64.trans (Nat.mod_eq_of_lt get64_lt))
  have ha : s.tmrAdvance n k = (s.tmrCounted n k (s.get64 (Reg.TMR_CNT_LO n)), [], []) := by
    rw [tmrAdvance_of_run hr hg, hw, hs, tmrCompare, hh]
    rfl
  rw [tmrEvents_eq, tmrCycle, ha, cascades_of_quiet (by rfl)]
  rfl

theorem tmrEvents_of_shut (h : s.get (Reg.TMR_STATUS_RUN n) = 0 ∨ s.tmrGate n = false) : s.tmrEvents n k = s := by
  rw [tmrEvents_eq, tmrCycle, tmrAdvance_of_shut h, cascades_of_quiet (by rfl)]
  rfl

theorem tmrSteppedOf_unscaled (hp : s.get (Reg.TMR_CFG_PRESCALE n) = 0) (hd : s.timers.div.at n = 0) : s.tmrSteppedOf n k =
    tmrSteps (s.get (Reg.TMR_CFG_MODE n)) (s.get64 (Reg.TMR_CMP0_LO n)) k (s.get64 (Reg.TMR_CNT_LO n)) 0 false := by
  rw [tmrSteppedOf, hp, hd, Nat.zero_add, Nat.zero_add, Nat.div_one]
  rfl

/-- A free-running timer counts on modulo 2^64. -/
theorem tmrEvents_free (hr : s.get (Reg.TMR_STATUS_RUN n) = 1) (hg : s.tmrGate n = true)
    (hm : s.get (Reg.TMR_CFG_MODE n) = 0) : (s.tmrEvents n k).get64 (Reg.TMR_CNT_LO n) =
      (s.get64 (Reg.TMR_CNT_LO n) + (s.timers.div.at n + k) / (s.get (Reg.TMR_CFG_PRESCALE n) + 1)) % 2 ^ 64 := by
  rw [(tmrEvents_result hr hg).1, tmrSteppedOf, hm, tmrSteps_free (show s.tmrCount n < 2 ^ 64 from get64_lt), Nat.mod_mod, tmrCount]

/-- A periodic timer at its compare value starts anew and marks the wrap. -/
theorem tmrEvents_periodic (hr : s.get (Reg.TMR_STATUS_RUN n) = 1) (hg : s.tmrGate n = true)
    (hp : s.get (Reg.TMR_CFG_PRESCALE n) = 0) (hd : s.timers.div.at n = 0) (hm : s.get (Reg.TMR_CFG_MODE n) = 1)
    (hc : s.get64 (Reg.TMR_CNT_LO n) = s.get64 (Reg.TMR_CMP0_LO n)) :
    (s.tmrEvents n 1).get64 (Reg.TMR_CNT_LO n) = 0 ∧ (s.tmrEvents n 1).get (Reg.TMR_STATUS_WRAP n) = 1 := by
  have hs : s.tmrSteppedOf n 1 = (0, 1, false) := by
    rw [tmrSteppedOf_unscaled hp hd, hm, hc]
    simp [tmrSteps]
  obtain ⟨h1, -, h3, -⟩ := tmrEvents_result (k := 1) hr hg
  have hw : s.tmrWrapped n 1 = (s.tmrCounted n 1 0).tmrRaise n 4 := by
    rw [tmrWrapped, hs]
    exact if_pos Nat.one_pos
  refine ⟨by rw [h1, hs]; rfl, ?_⟩
  rw [h3 _ rfl (by simp), get_tmrCompare_off (.inr (.inr (by simp))), hw]
  exact get_tmrRaise_self (by decide) (by decide)

/-- A one-shot timer that comes to its compare value marks it and stops. -/
theorem tmrEvents_oneShot (hr : s.get (Reg.TMR_STATUS_RUN n) = 1) (hg : s.tmrGate n = true)
    (hp : s.get (Reg.TMR_CFG_PRESCALE n) = 0) (hd : s.timers.div.at n = 0) (hm : s.get (Reg.TMR_CFG_MODE n) = 2)
    (hc : (s.get64 (Reg.TMR_CNT_LO n) + 1) % 2 ^ 64 = s.get64 (Reg.TMR_CMP0_LO n)) :
    (s.tmrEvents n 1).get64 (Reg.TMR_CNT_LO n) = s.get64 (Reg.TMR_CMP0_LO n) ∧ (s.tmrEvents n 1).get (Reg.TMR_STATUS_RUN n) = 0 ∧
      (s.tmrEvents n 1).get (Reg.TMR_STATUS_CMP0 n) = 1 := by
  have hs : s.tmrSteppedOf n 1 = (s.get64 (Reg.TMR_CMP0_LO n), 0, true) := by
    rw [tmrSteppedOf_unscaled hp hd, hm, ← hc]
    simp [tmrSteps]
  obtain ⟨h1, -, h3, h4⟩ := tmrEvents_result (k := 1) hr hg
  have hw : s.tmrWrapped n 1 = s.tmrCounted n 1 (s.get64 (Reg.TMR_CMP0_LO n)) := by
    rw [tmrWrapped, hs]
    exact if_neg (lt_irrefl 0)
  refine ⟨by rw [h1, hs]; exact Nat.mod_eq_of_lt get64_lt, h4 (by rw [hs]), ?_⟩
  rw [h3 _ rfl (by simp), hw]
  refine get_tmrCompare_flag ?_
  have hn : (s.tmrCounted n 1 (s.get64 (Reg.TMR_CMP0_LO n))).tmrCount n = s.get64 (Reg.TMR_CMP0_LO n) :=
    get64_put64.trans (Nat.mod_eq_of_lt get64_lt)
  have hk : (s.tmrCounted n 1 (s.get64 (Reg.TMR_CMP0_LO n))).get64 (Reg.TMR_CMP0_LO n) = s.get64 (Reg.TMR_CMP0_LO n) :=
    (get64_put64_ne (.inr (by simp only [Reg.TMR_CNT_LO, Reg.TMR_CMP0_LO]; omega))).trans rfl
  have hl := s.get64_lt (a := Reg.TMR_CNT_LO n)
  unfold tmrHits
  dsimp only
  rw [hn, hk, if_neg (by rw [tmrCount]; omega), if_pos rfl]
  exact List.mem_append_left _ List.mem_cons_self

/-! Settings (R675, R677). -/

/-- A write of a register gives a read-write field an assigned value. -/
theorem getF_writeFields {l : List FieldRow} {f : FieldRow} {old : Word} (hf : f ∈ l) (hw : f.lo + f.len ≤ 32) (ha : f.acc = .rw)
    (ht : takes f (getF w f.lo f.len) = true) (hd : ∀ g ∈ l, g = f ∨ f.lo + f.len ≤ g.lo ∨ g.lo + g.len ≤ f.lo) :
    getF (writeFields l (fun _ => true) old w) f.lo f.len = getF w f.lo f.len := by
  have key : ∀ (r : List FieldRow) (old : Word), (∀ g ∈ r, g ∈ l) → (f ∈ r ∨ getF old f.lo f.len = getF w f.lo f.len) →
      getF (writeFields r (fun _ => true) old w) f.lo f.len = getF w f.lo f.len := by
    intro r
    induction r with
    | nil => exact fun old _ h => h.resolve_left (by simp)
    | cons g r ih =>
      intro old hr h
      refine ih _ (fun x hx => hr x (List.mem_cons_of_mem _ hx)) ?_
      by_cases e : g = f
      · subst e
        refine .inr ?_
        simp only [Bool.not_true, Bool.false_eq_true, if_false, ha, ht, if_true]
        rw [getF_setF hw]
        exact Nat.mod_eq_of_lt getF_lt
      · obtain h | h := h
        · exact .inl ((List.mem_cons.1 h).resolve_left (Ne.symm e))
        · refine .inr (Eq.trans ?_ h)
          have hg := (hd g (hr g List.mem_cons_self)).resolve_left e
          simp only [Bool.not_true, Bool.false_eq_true, if_false]
          split
          · exact getF_setF_ne (by omega)
          · split
            · exact getF_setF_ne (by omega)
            · rfl
  exact key l old (fun _ h => h) (.inl hf)

/-- The same, in the register that a row describes. -/
theorem get_writePlain_row {a : Nat} {l : List FieldRow} {f : FieldRow} (hr : (RegMap.rowOf a).map (·.fields) = some l)
    (hf : f ∈ l) (hw : f.lo + f.len ≤ 32) (ha : f.acc = .rw) (ht : takes f (getF w f.lo f.len) = true)
    (hd : ∀ g ∈ l, g = f ∨ f.lo + f.len ≤ g.lo ∨ g.lo + g.len ≤ f.lo) :
    (s.writePlain a w).get ⟨a, f.lo, f.len⟩ = getF w f.lo f.len := by
  obtain ⟨r, hrow, rfl⟩ := Option.map_eq_some_iff.1 hr
  rw [writePlain, writeOnly_of_row hrow, get, reg_setReg, if_pos rfl]
  exact getF_writeFields hf hw ha ht hd

def tmrCfgFields : List FieldRow := [⟨0, 3, .rw, 0, 0, 5⟩, ⟨8, 8, .rw, 0, 0, 255⟩, ⟨16, 2, .rw, 0, 0, 3⟩, ⟨20, 2, .rw, 0, 0, 2⟩]

def tmrPinFields : List FieldRow := [⟨0, 5, .rw, 0, 0, 31⟩, ⟨8, 2, .rw, 0, 0, 3⟩]

def tmrTrigFields : List FieldRow := [⟨0, 4, .rw, 0, 0, 15⟩, ⟨4, 3, .rw, 0, 0, 4⟩, ⟨8, 3, .rw, 0, 0, 5⟩]

theorem rows_of_timer (hn : n < 16) : (RegMap.rowOf (Reg.TMR_CFG n)).map (·.fields) = some tmrCfgFields ∧
    (RegMap.rowOf (Reg.TMR_PIN n)).map (·.fields) = some tmrPinFields ∧
    (RegMap.rowOf (Reg.TMR_TRIG n)).map (·.fields) = some tmrTrigFields := by
  revert n
  decide +kernel

theorem takes_of_width {f : FieldRow} (ha : f.acc = .rw) (hl : f.least = 0) (hm : 2 ^ f.len ≤ f.most + 1) :
    takes f (getF w f.lo f.len) = true := by
  have h := getF_lt (w := w) (lo := f.lo) (len := f.len)
  rw [takes, ha]
  simp only [hl, Nat.zero_le, decide_true, Bool.true_and, decide_eq_true_eq]
  omega

theorem writePlain_tmrCfg (hn : n < 16) (hv : getF w 0 3 < 6) :
    (s.writePlain (Reg.TMR_CFG n) w).get (Reg.TMR_CFG_SRC n) = getF w 0 3 ∧
      (s.writePlain (Reg.TMR_CFG n) w).get (Reg.TMR_CFG_PRESCALE n) = getF w 8 8 ∧
      (s.writePlain (Reg.TMR_CFG n) w).get (Reg.TMR_CFG_GATE n) = getF w 16 2 := by
  have hr := (rows_of_timer hn).1
  exact ⟨get_writePlain_row (f := ⟨0, 3, .rw, 0, 0, 5⟩) hr (by simp [tmrCfgFields]) (by decide) rfl
      (by simp [takes]; omega) (by decide),
    get_writePlain_row (f := ⟨8, 8, .rw, 0, 0, 255⟩) hr (by simp [tmrCfgFields]) (by decide) rfl
      (takes_of_width rfl rfl (by decide)) (by decide),
    get_writePlain_row (f := ⟨16, 2, .rw, 0, 0, 3⟩) hr (by simp [tmrCfgFields]) (by decide) rfl
      (takes_of_width rfl rfl (by decide)) (by decide)⟩

theorem writePlain_tmrPin (hn : n < 16) : (s.writePlain (Reg.TMR_PIN n) w).get (Reg.TMR_PIN_PIN n) = getF w 0 5 :=
  get_writePlain_row (f := ⟨0, 5, .rw, 0, 0, 31⟩) (rows_of_timer hn).2.1 (by simp [tmrPinFields]) (by decide) rfl
    (takes_of_width rfl rfl (by decide)) (by decide)

theorem writePlain_tmrTrig (hn : n < 16) : (s.writePlain (Reg.TMR_TRIG n) w).get (Reg.TMR_TRIG_MASTER n) = getF w 0 4 :=
  get_writePlain_row (f := ⟨0, 4, .rw, 0, 0, 15⟩) (rows_of_timer hn).2.2 (by simp [tmrTrigFields]) (by decide) rfl
    (takes_of_width rfl rfl (by decide)) (by decide)

theorem timer_settings_apart : Reg.TMR_TRIG n ≠ Reg.TMR_CFG n ∧ Reg.TMR_TRIG n ≠ Reg.TMR_PIN n ∧ Reg.TMR_CFG n ≠ Reg.TMR_PIN n := by
  simp only [Reg.TMR_CFG, Reg.TMR_PIN, Reg.TMR_TRIG]
  omega

/-! A setting is taken, or refused with CFG_ERR (R675, R676). -/

theorem tmrConfig_cfg_taken (hn : n < 16) (hr : s.get (Reg.TMR_STATUS_RUN n) = 0) (hv : getF w 0 3 < 6)
    (hm : getF w 0 3 = 3 → s.get (Reg.TMR_TRIG_MASTER n) < n) : s.tmrConfig n 0 w = s.writePlain (Reg.TMR_CFG n) w := by
  have h1 := (writePlain_tmrCfg (s := s) hn hv).1
  have h2 : (s.writePlain (Reg.TMR_CFG n) w).get (Reg.TMR_TRIG_MASTER n) = s.get (Reg.TMR_TRIG_MASTER n) :=
    get_writePlain_addr timer_settings_apart.1
  refine if_neg ?_
  change ¬(((s.flag (Reg.TMR_STATUS_RUN n) && true) || (true && decide ((s.writePlain (Reg.TMR_CFG n) w).get _ = 3) &&
    decide (n ≤ (s.writePlain (Reg.TMR_CFG n) w).get _))) = true)
  rw [flag_eq_false.2 hr, h1, h2]
  simpa using hm

theorem tmrConfig_pin_taken (hr : s.get (Reg.TMR_STATUS_RUN n) = 0) : s.tmrConfig n 1 w = s.writePlain (Reg.TMR_PIN n) w := by
  refine if_neg ?_
  change ¬(((s.flag (Reg.TMR_STATUS_RUN n) && true) || (false && _ && _)) = true)
  rw [flag_eq_false.2 hr]
  simp

theorem tmrConfig_trig_taken (hn : n < 16) (h : s.get (Reg.TMR_CFG_SRC n) ≠ 3 ∨ getF w 0 4 < n) :
    s.tmrConfig n 2 w = s.writePlain (Reg.TMR_TRIG n) w := by
  have h1 := writePlain_tmrTrig (s := s) (w := w) hn
  have h2 : (s.writePlain (Reg.TMR_TRIG n) w).get (Reg.TMR_CFG_SRC n) = s.get (Reg.TMR_CFG_SRC n) :=
    get_writePlain_addr timer_settings_apart.1.symm
  refine if_neg ?_
  change ¬(((s.flag (Reg.TMR_STATUS_RUN n) && false) || (true && decide ((s.writePlain (Reg.TMR_TRIG n) w).get _ = 3) &&
    decide (n ≤ (s.writePlain (Reg.TMR_TRIG n) w).get _))) = true)
  rw [h1, h2]
  simpa [imp_iff_not_or] using h

theorem tmrConfig_refused (hn : n < 16) (hk : k < 3) (h : k ≠ 2 ∧ s.get (Reg.TMR_STATUS_RUN n) = 1 ∨
    k = 0 ∧ getF w 0 3 = 3 ∧ n ≤ s.get (Reg.TMR_TRIG_MASTER n) ∨ k = 2 ∧ s.get (Reg.TMR_CFG_SRC n) = 3 ∧ n ≤ getF w 0 4) :
    s.tmrConfig n k w = s.put (Reg.TMR_STATUS_CFG_ERR n) 1 := by
  refine if_pos ?_
  obtain ⟨h2, hr⟩ | ⟨rfl, hv, hm⟩ | ⟨rfl, hs, hm⟩ := h
  · rw [flag_eq_true.2 (by omega : s.get (Reg.TMR_STATUS_RUN n) ≠ 0), Bool.true_and, bne_iff_ne.2 h2]
    rfl
  · have h1 := (writePlain_tmrCfg (s := s) (w := w) hn (by omega)).1
    have h2 : (s.writePlain (Reg.TMR_CFG n) w).get (Reg.TMR_TRIG_MASTER n) = s.get (Reg.TMR_TRIG_MASTER n) :=
      get_writePlain_addr timer_settings_apart.1
    change (_ || (true && decide ((s.writePlain (Reg.TMR_CFG n) w).get _ = 3) &&
      decide (n ≤ (s.writePlain (Reg.TMR_CFG n) w).get _))) = true
    rw [h1, h2]
    simp [hv, hm]
  · have h1 := writePlain_tmrTrig (s := s) (w := w) hn
    have h2 : (s.writePlain (Reg.TMR_TRIG n) w).get (Reg.TMR_CFG_SRC n) = s.get (Reg.TMR_CFG_SRC n) :=
      get_writePlain_addr timer_settings_apart.1.symm
    change (_ || (true && decide ((s.writePlain (Reg.TMR_TRIG n) w).get _ = 3) &&
      decide (n ≤ (s.writePlain (Reg.TMR_TRIG n) w).get _))) = true
    rw [h1, h2]
    simp [hs, hm]

end Sys2Proof.Machine.State
end

section
set_option Elab.async false
/-! PROOFS. O58: the commands of a timer complete (R673 to R679). -/

namespace Sys2Proof.Machine.State

variable {s t : State} {n u k v : Nat} {b : Bool} {w : Word} {l : List Nat}

/-! What every timer command leaves. -/

/-- The parts of the state that the timers change. -/
def timerParts : List Part := [.regs, .sent, .timers, .latches, .answer]

theorem SameBut.timer_bytes (h : SameBut timerParts s t) : s.sameBytes t := h.sameBytes rfl rfl

theorem tmrSet_bytes : s.sameBytes (s.tmrSet n v) := SameBut.timer_bytes (tmrSet_sameBut (by decide) .refl)

theorem tmrStart_bytes : s.sameBytes (s.tmrStart n) := SameBut.timer_bytes (tmrStart_sameBut (by decide) .refl)

theorem tmrCapture_bytes : s.sameBytes (s.tmrCapture n b) := SameBut.timer_bytes (tmrCapture_sameBut (by decide) .refl)

theorem tmrEvents_bytes : s.sameBytes (s.tmrEvents n k) := SameBut.timer_bytes (tmrEvents_sameBut (by decide) .refl)

theorem tmrCapture_timers : (s.tmrCapture n b).timers = s.timers :=
  (tmrCapture_sameBut (F := [.regs, .sent]) (by decide) .refl).eq (f := State.timers) fun _ => rfl

theorem timerRegs_mem {a : Nat} (h : a ∉ [Reg.TMR_CNT_LO n, Reg.TMR_CNT_HI n, Reg.TMR_STATUS n]) : ¬timerRegs n a := by
  simp only [List.mem_cons, List.not_mem_nil, or_false, not_or] at h
  simp only [timerRegs, not_or]
  exact ⟨h.2.2, h.1, h.2.1⟩

theorem tmrSet_regs : s.sameRegs (s.tmrSet n v) [Reg.TMR_CNT_LO n, Reg.TMR_CNT_HI n, Reg.TMR_STATUS n] :=
  fun a ha => tmrSet_regsBut a (timerRegs_mem ha)

theorem put_status_regs {i : Nat} : s.sameRegs (s.put ⟨Reg.TMR_STATUS n, i, 1⟩ v) [Reg.TMR_STATUS n] := fun a ha => by
  rw [reg_put, if_neg (by simpa using ha)]

theorem withQueue_regs_but {q : List Instr} (h : s.sameRegs t l) : s.sameRegs (t.withQueue q) l := fun a ha => h a ha

/-- Reset and start (R679). -/
theorem tmrSet_start : ((s.tmrSet n 0).tmrStart n).get64 (Reg.TMR_CNT_LO n) = 0 ∧
    ((s.tmrSet n 0).tmrStart n).get (Reg.TMR_STATUS_RUN n) = 1 ∧ s.sameBytes ((s.tmrSet n 0).tmrStart n) :=
  ⟨tmrStart_result.2.trans (tmrSet_result.1.trans rfl), tmrStart_result.1, fun a => (tmrStart_bytes a).trans (tmrSet_bytes a)⟩

/-- What a taken capture leaves, seen from the state before its event was taken (R678). -/
theorem tmrCapture_of_same (h : t.regs = s.regs) (hb : s.sameBytes t) :
    (t.tmrCapture n b).get64 (capAddr n b) = s.get64 (Reg.TMR_CNT_LO n) ∧ (t.tmrCapture n b).get (freshOf n b) = 1 ∧
      s.sameRegs (t.tmrCapture n b) [capAddr n b, capAddr n b + 4, Reg.TMR_STATUS n] ∧ s.sameBytes (t.tmrCapture n b) := by
  obtain ⟨h1, h2, -⟩ := tmrCapture_result (s := t) (n := n) (b := b)
  refine ⟨h1.trans ?_, h2, fun a ha => (tmrCapture_regsBut a ha).trans (reg_congr h), fun a => (tmrCapture_bytes a).trans (hb a)⟩
  rw [get64, get64, reg_congr h, reg_congr h]

theorem capRead_result : (s.capRead n b).answer = [s.get64 (capAddr n b) % 2 ^ 32] ∧
    (s.capRead n b).latches.at (capAddr n b + 4) = s.get64 (capAddr n b) / 2 ^ 32 + 1 ∧ (s.capRead n b).get (freshOf n b) = 0 ∧
    s.sameRegs (s.capRead n b) [Reg.TMR_STATUS n] ∧ s.sameBytes (s.capRead n b) := by
  obtain ⟨h1, h2⟩ := s.latchLow_result (a := capAddr n b)
  obtain ⟨hf, -, hl, -, hlt, hle⟩ := capture_fields (n := n) (b := b)
  refine ⟨h1, h2, ?_, fun a ha => ?_, SameBut.timer_bytes (capRead_sameBut (by decide) .refl)⟩
  · exact (get_put_self (f := freshOf n b) (by omega)).trans (Nat.zero_mod _)
  · refine (reg_put.trans (if_neg ?_)).trans (reg_congr rfl)
    change a ≠ (freshOf n b).addr
    rw [hf]
    simpa using ha

theorem headRead_result : (s.headRead n).answer = [s.get64 (Reg.TMR_CNT_LO n) % 2 ^ 32] ∧
    (s.headRead n).latches.at (Reg.TMR_CNT_HI n) = s.get64 (Reg.TMR_CNT_LO n) / 2 ^ 32 + 1 ∧
    (∀ u, u < 16 → u ≠ n → s.get (Reg.TMR_CFG_SRC n) ≠ 3 → s.get (Reg.TMR_CFG_SRC u) = 3 →
      s.get (Reg.TMR_TRIG_MASTER u) = n → (s.headRead n).get64 (Reg.TMR_SNAP_LO u) = s.get64 (Reg.TMR_CNT_LO u)) ∧
    s.sameBytes (s.headRead n) := by
  obtain ⟨h1, h2⟩ := (s.snapped (s.chainOf n)).latchLow_result (a := Reg.TMR_CNT_LO n)
  rw [snapped_count] at h1 h2
  refine ⟨headRead_eq ▸ h1, ?_, fun u hu hn hs hc hm => ?_, SameBut.timer_bytes (headRead_sameBut (by decide) .refl)⟩
  · rw [headRead_eq, timer_words.2.2.2.2]
    exact h2
  · rw [headRead_eq]
    exact snapped_copy (mem_chainOf hu hn hs hc hm)

/-! Starts, stops and counts that are set (R679). -/

theorem timer_starts_complete (n : Fin 16) :
    (s.completes (.timerStart n) fun t => t.get (Reg.TMR_STATUS_RUN n.val) = 1 ∧
      t.get64 (Reg.TMR_CNT_LO n.val) = s.get64 (Reg.TMR_CNT_LO n.val) ∧
      (∀ u, u < 16 → s.get (Reg.TMR_TRIG_MASTER u) = n.val → s.get (Reg.TMR_TRIG_MEVENT u) = 1 →
        s.get (Reg.TMR_TRIG_SLAVE u) ≠ 0 → u ∈ t.timers.slaves) ∧ s.sameBytes t) ∧
    (s.completes (.timerStop n) fun t => t.get (Reg.TMR_STATUS_RUN n.val) = 0 ∧ t.timers = s.timers ∧
      s.sameRegs t [Reg.TMR_STATUS n.val] ∧ s.sameBytes t) ∧
    (s.completes (.timerReset n) fun t => t.get64 (Reg.TMR_CNT_LO n.val) = 0 ∧
      t.get (Reg.TMR_STATUS_RUN n.val) = s.get (Reg.TMR_STATUS_RUN n.val) ∧
      (s.get64 (Reg.TMR_CNT_LO n.val) ≠ 0 → s.get64 (Reg.TMR_CMP0_LO n.val) = 0 →
        t.get (Reg.TMR_STATUS_CMP0 n.val) = 1) ∧
      s.sameRegs t [Reg.TMR_CNT_LO n.val, Reg.TMR_CNT_HI n.val, Reg.TMR_STATUS n.val] ∧ s.sameBytes t) ∧
    (s.completes (.timerResetStart n) fun t => t.get64 (Reg.TMR_CNT_LO n.val) = 0 ∧
      t.get (Reg.TMR_STATUS_RUN n.val) = 1 ∧ s.sameBytes t) ∧
    (s.completes (.timerLoad n) fun t => t.get64 (Reg.TMR_CNT_LO n.val) = s.get64 (Reg.TMR_LOAD_LO n.val) ∧
      t.get (Reg.TMR_STATUS_RUN n.val) = s.get (Reg.TMR_STATUS_RUN n.val) ∧
      s.sameRegs t [Reg.TMR_CNT_LO n.val, Reg.TMR_CNT_HI n.val, Reg.TMR_STATUS n.val] ∧ s.sameBytes t) := by
  refine ⟨completes_done rfl ⟨?_, ?_, fun u hu hm he hs => ?_, sameBytes_withQueue tmrStart_bytes⟩,
    completes_done rfl ⟨?_, ?_, withQueue_regs_but put_status_regs, fun _ => rd8_withQueue.trans rd8_put⟩,
    completes_done rfl ⟨?_, ?_, fun h hc => ?_, withQueue_regs_but tmrSet_regs, sameBytes_withQueue tmrSet_bytes⟩,
    completes_done rfl ⟨?_, ?_, sameBytes_withQueue tmrSet_start.2.2⟩,
    completes_done rfl ⟨?_, ?_, withQueue_regs_but tmrSet_regs, sameBytes_withQueue tmrSet_bytes⟩⟩
  · rw [get_withQueue, tmrStart_result.1]
  · rw [get64_withQueue, tmrStart_result.2]
  · rw [withQueue_timers]
    exact tmrStart_slaves hu hm he hs
  · rw [get_withQueue]
    exact (get_put_self (by simp)).trans (Nat.zero_mod _)
  · exact put_timers
  · rw [get64_withQueue, tmrSet_result.1]
    rfl
  · rw [get_withQueue, tmrSet_result.2]
  · rw [get_withQueue, tmrSet_flag h (by decide) hc]
  · rw [get64_withQueue, tmrSet_start.1]
  · rw [get_withQueue, tmrSet_start.2.1]
  · rw [get64_withQueue, tmrSet_result.1]
    exact Nat.mod_eq_of_lt get64_lt
  · rw [get_withQueue, tmrSet_result.2]

/-! Captures, slaves and chains (R676 to R678). -/

theorem timer_captures_complete (n : Fin 16) :
    (∀ b, s.capSource n.val b = 4 → s.completes (.timerCapture n b) fun t =>
      t.get64 (capAddr n.val b) = s.get64 (Reg.TMR_CNT_LO n.val) ∧ t.get (freshOf n.val b) = 1 ∧
        (s.get (freshOf n.val b) = 1 → t.get (overOf n.val b) = 1) ∧
        s.sameRegs t [capAddr n.val b, capAddr n.val b + 4, Reg.TMR_STATUS n.val] ∧ s.sameBytes t) ∧
    (∀ b, s.capSource n.val b ≠ 4 → s.completes (.timerCapture n b) fun t => t = s) ∧
    (∀ (b : Bool) (source : Fin 3), s.capSource n.val b = source.val + 1 →
      (source.val = 1 → 2 * n.val + (if b then 1 else 0) ∈ s.timers.caps) →
      s.completes (.timerCaptureSource n b source) fun t =>
        t.get64 (capAddr n.val b) = s.get64 (Reg.TMR_CNT_LO n.val) ∧ t.get (freshOf n.val b) = 1 ∧
        s.sameRegs t [capAddr n.val b, capAddr n.val b + 4, Reg.TMR_STATUS n.val] ∧ s.sameBytes t) ∧
    (∀ (b : Bool) (source : Fin 3), s.capSource n.val b ≠ source.val + 1 →
      s.completes (.timerCaptureSource n b source) fun t => t = s) := by
  refine ⟨fun b h => completes_done (congrArg s.done (if_pos h)) ?_, fun b h => ⟨s, congrArg s.done (if_neg h), rfl, rfl⟩,
    fun b source h hc => completes_done (congrArg s.done (capFrom_of_source h fun e => hc (by omega))) ?_,
    fun b source h => ⟨s, congrArg s.done (capFrom_of_other h), rfl, rfl⟩⟩
  · obtain ⟨h1, h2, h3⟩ := tmrCapture_result (s := s) (n := n.val) (b := b)
    rw [get64_withQueue, get_withQueue, get_withQueue]
    exact ⟨h1, h2, h3, withQueue_regs_but tmrCapture_regsBut, sameBytes_withQueue tmrCapture_bytes⟩
  · have key : ∀ x : State, x.regs = s.regs → s.sameBytes x → _ := fun x hx hb => tmrCapture_of_same (n := n.val) (b := b) hx hb
    rw [get64_withQueue, get_withQueue]
    split
    · obtain ⟨h1, h2, h3, h4⟩ := key (s.capTaken n.val b) rfl fun _ => rd8_congr rfl rfl
      exact ⟨h1, h2, withQueue_regs_but h3, sameBytes_withQueue h4⟩
    · obtain ⟨h1, h2, h3, h4⟩ := key s rfl fun _ => rfl
      exact ⟨h1, h2, withQueue_regs_but h3, sameBytes_withQueue h4⟩

theorem timer_slaves_complete (n : Fin 16) :
    (n.val ∈ s.timers.slaves → s.get (Reg.TMR_TRIG_SLAVE n.val) = 1 → s.completes (.timerSlaveAction n) fun t =>
      t.get (Reg.TMR_STATUS_RUN n.val) = 1 ∧ t.get64 (Reg.TMR_CNT_LO n.val) = s.get64 (Reg.TMR_CNT_LO n.val) ∧
        s.sameBytes t) ∧
    (n.val ∈ s.timers.slaves → s.get (Reg.TMR_TRIG_SLAVE n.val) = 2 → s.completes (.timerSlaveAction n) fun t =>
      t.get (Reg.TMR_STATUS_RUN n.val) = 0 ∧ n.val ∉ t.timers.slaves ∧ s.sameRegs t [Reg.TMR_STATUS n.val] ∧
        s.sameBytes t) ∧
    (n.val ∈ s.timers.slaves → s.get (Reg.TMR_TRIG_SLAVE n.val) = 3 → s.completes (.timerSlaveAction n) fun t =>
      t.get64 (Reg.TMR_CNT_LO n.val) = 0 ∧ t.get (Reg.TMR_STATUS_RUN n.val) = s.get (Reg.TMR_STATUS_RUN n.val) ∧
        s.sameRegs t [Reg.TMR_CNT_LO n.val, Reg.TMR_CNT_HI n.val, Reg.TMR_STATUS n.val] ∧ s.sameBytes t) ∧
    (n.val ∈ s.timers.slaves → s.get (Reg.TMR_TRIG_SLAVE n.val) = 4 → s.completes (.timerSlaveAction n) fun t =>
      t.get64 (Reg.TMR_CNT_LO n.val) = 0 ∧ t.get (Reg.TMR_STATUS_RUN n.val) = 1 ∧ s.sameBytes t) ∧
    (n.val ∈ s.timers.slaves → s.get (Reg.TMR_TRIG_SLAVE n.val) = 5 → s.completes (.timerSlaveAction n) fun t =>
      t.get64 (Reg.TMR_CAPA_LO n.val) = s.get64 (Reg.TMR_CNT_LO n.val) ∧ t.get (Reg.TMR_STATUS_FRESH_A n.val) = 1 ∧
        n.val ∉ t.timers.slaves ∧
        s.sameRegs t [Reg.TMR_CAPA_LO n.val, Reg.TMR_CAPA_HI n.val, Reg.TMR_STATUS n.val] ∧ s.sameBytes t) ∧
    (n.val ∉ s.timers.slaves → s.completes (.timerSlaveAction n) fun t => t = s) := by
  have hb : s.sameBytes (s.slaveTaken n.val) := fun _ => rd8_congr rfl rfl
  have due : ∀ {k : Nat}, n.val ∈ s.timers.slaves → s.get (Reg.TMR_TRIG_SLAVE n.val) = k → s.slaveAct n.val = _ :=
    fun h hk => (slaveAct_of_due h).trans (by rw [hk])
  refine ⟨fun h hk => completes_done (t := (s.slaveTaken n.val).tmrStart n.val) (congrArg s.done (due h hk))
      ⟨?_, ?_, sameBytes_withQueue fun a => (tmrStart_bytes a).trans (hb a)⟩,
    fun h hk => completes_done (t := (s.slaveTaken n.val).tmrStop n.val) (congrArg s.done (due h hk))
      ⟨?_, ?_, withQueue_regs_but fun a ha => (put_status_regs a ha).trans
      (reg_congr rfl), fun _ => (rd8_withQueue.trans rd8_put).trans (rd8_congr rfl rfl)⟩,
    fun h hk => completes_done (t := (s.slaveTaken n.val).tmrSet n.val 0) (congrArg s.done (due h hk))
      ⟨?_, ?_, withQueue_regs_but fun a ha => (tmrSet_regs a ha).trans
      (reg_congr rfl), sameBytes_withQueue fun a => (tmrSet_bytes a).trans (hb a)⟩,
    fun h hk => completes_done (t := ((s.slaveTaken n.val).tmrSet n.val 0).tmrStart n.val) (congrArg s.done (due h hk))
      ⟨?_, ?_, sameBytes_withQueue fun a => (tmrSet_start.2.2 a).trans (hb a)⟩,
    fun h hk => completes_done (t := (s.slaveTaken n.val).tmrCapture n.val false) (congrArg s.done (due h hk)) ?_,
    fun h => ⟨s, congrArg s.done (slaveAct_of_idle h), rfl, rfl⟩⟩
  · rw [get_withQueue, tmrStart_result.1]
  · rw [get64_withQueue, tmrStart_result.2]
    rfl
  · rw [get_withQueue]
    exact (get_put_self (by simp)).trans (Nat.zero_mod _)
  · rw [withQueue_timers, tmrStop, put_timers]
    exact slaveTaken_not_due
  · rw [get64_withQueue, tmrSet_result.1]
    rfl
  · rw [get_withQueue, tmrSet_result.2]
    exact get_congr rfl
  · rw [get64_withQueue, tmrSet_start.1]
  · rw [get_withQueue, tmrSet_start.2.1]
  · obtain ⟨h1, h2, h3, h4⟩ := tmrCapture_of_same (s := s) (t := s.slaveTaken n.val) (n := n.val) (b := false) rfl hb
    have hhi : Reg.TMR_CAPA_HI n.val = capAddr n.val false + 4 := by
      simp only [Reg.TMR_CAPA_HI, capAddr, Bool.false_eq_true, if_false, Reg.TMR_CAPA_LO]
      omega
    rw [get64_withQueue, get_withQueue, withQueue_timers, tmrCapture_timers, hhi]
    exact ⟨h1, h2, slaveTaken_not_due, withQueue_regs_but h3, sameBytes_withQueue h4⟩

/-! Counted events (R673, R674). -/

theorem timer_events_complete (n : Fin 16) :
    (∀ k : Fin 3, s.get (Reg.TMR_CFG_SRC n.val) ≠ 3 → s.get (Reg.TMR_STATUS_RUN n.val) = 1 → s.tmrGate n.val = true →
      s.get (Reg.TMR_CFG_PRESCALE n.val) = 0 → s.timers.div.at n.val = 0 → s.get (Reg.TMR_CFG_MODE n.val) = 0 →
      s.completes (.timerCountEvent n k) fun t =>
        t.get64 (Reg.TMR_CNT_LO n.val) = (s.get64 (Reg.TMR_CNT_LO n.val) + k.val) % 2 ^ 64 ∧ s.sameBytes t) ∧
    (s.get (Reg.TMR_CFG_SRC n.val) ≠ 3 → s.get (Reg.TMR_STATUS_RUN n.val) = 1 → s.tmrGate n.val = true →
      s.get (Reg.TMR_CFG_MODE n.val) = 0 → s.timers.div.at n.val + 1 = s.get (Reg.TMR_CFG_PRESCALE n.val) + 1 →
      s.completes (.timerCountEvent n 1) fun t =>
        t.get64 (Reg.TMR_CNT_LO n.val) = (s.get64 (Reg.TMR_CNT_LO n.val) + 1) % 2 ^ 64 ∧ t.timers.div.at n.val = 0 ∧
          s.sameBytes t) ∧
    (s.get (Reg.TMR_CFG_SRC n.val) ≠ 3 → s.get (Reg.TMR_STATUS_RUN n.val) = 1 → s.tmrGate n.val = true →
      s.timers.div.at n.val + 1 < s.get (Reg.TMR_CFG_PRESCALE n.val) + 1 →
      s.completes (.timerCountEvent n 1) fun t => t.timers.div.at n.val = s.timers.div.at n.val + 1 ∧
        s.sameRegs t [] ∧ s.sameBytes t) ∧
    (s.get (Reg.TMR_CFG_SRC n.val) ≠ 3 → s.get (Reg.TMR_STATUS_RUN n.val) = 1 → s.tmrGate n.val = true →
      s.get (Reg.TMR_CFG_PRESCALE n.val) = 0 → s.timers.div.at n.val = 0 → s.get (Reg.TMR_CFG_MODE n.val) = 1 →
      s.get64 (Reg.TMR_CNT_LO n.val) = s.get64 (Reg.TMR_CMP0_LO n.val) → s.completes (.timerCountEvent n 1) fun t =>
        t.get64 (Reg.TMR_CNT_LO n.val) = 0 ∧ t.get (Reg.TMR_STATUS_WRAP n.val) = 1 ∧ s.sameBytes t) ∧
    (s.get (Reg.TMR_CFG_SRC n.val) ≠ 3 → s.get (Reg.TMR_STATUS_RUN n.val) = 1 → s.tmrGate n.val = true →
      s.get (Reg.TMR_CFG_PRESCALE n.val) = 0 → s.timers.div.at n.val = 0 → s.get (Reg.TMR_CFG_MODE n.val) = 2 →
      (s.get64 (Reg.TMR_CNT_LO n.val) + 1) % 2 ^ 64 = s.get64 (Reg.TMR_CMP0_LO n.val) →
      s.completes (.timerCountEvent n 1) fun t => t.get64 (Reg.TMR_CNT_LO n.val) = s.get64 (Reg.TMR_CMP0_LO n.val) ∧
        t.get (Reg.TMR_STATUS_RUN n.val) = 0 ∧ t.get (Reg.TMR_STATUS_CMP0 n.val) = 1 ∧ s.sameBytes t) ∧
    (∀ k : Fin 3, s.get (Reg.TMR_CFG_SRC n.val) = 3 ∨ s.get (Reg.TMR_STATUS_RUN n.val) = 0 ∨ s.tmrGate n.val = false →
      s.completes (.timerCountEvent n k) fun t => s.sameRegs t [] ∧ s.sameBytes t) := by
  have run : ∀ {k : Fin 3}, s.get (Reg.TMR_CFG_SRC n.val) ≠ 3 →
      exec (.timerCountEvent n k) s = s.done (s.tmrEvents n.val k.val) := fun h => congrArg s.done (if_neg h)
  refine ⟨fun k h hr hg hp hd hm => completes_done (run h) ⟨?_, sameBytes_withQueue tmrEvents_bytes⟩,
    fun h hr hg hm hd => completes_done (run h) ⟨?_, ?_, sameBytes_withQueue tmrEvents_bytes⟩,
    fun h hr hg hd => completes_done ((run h).trans (congrArg s.done (tmrEvents_of_below hr hg hd))) ⟨?_, ?_, ?_⟩,
    fun h hr hg hp hd hm hc => completes_done (run h) ?_, fun h hr hg hp hd hm hc => completes_done (run h) ?_,
    fun k h => completes_done (t := s) ?_ ⟨fun a _ => reg_withQueue, fun a => rd8_withQueue⟩⟩
  · rw [get64_withQueue, tmrEvents_free hr hg hm, hp, hd, Nat.zero_add, Nat.zero_add, Nat.div_one]
  · rw [get64_withQueue, tmrEvents_free hr hg hm]
    change (_ + (_ + 1) / _) % _ = _
    rw [hd, Nat.div_self (Nat.succ_pos _)]
  · rw [withQueue_timers, (tmrEvents_result hr hg).2.1]
    change (_ + 1) % _ = _
    rw [hd, Nat.mod_self]
  · rw [withQueue_timers]
    exact (Nums.at_put.trans (if_pos rfl)).trans (Nat.mod_eq_of_lt hd)
  · exact fun a _ => reg_withQueue.trans (reg_put64_keeps.trans (reg_congr rfl))
  · exact fun a => rd8_withQueue.trans (rd8_put64.trans (rd8_congr rfl rfl))
  · obtain ⟨h1, h2⟩ := tmrEvents_periodic hr hg hp hd hm hc
    exact ⟨by rw [get64_withQueue]; exact h1, by rw [get_withQueue]; exact h2, sameBytes_withQueue tmrEvents_bytes⟩
  · obtain ⟨h1, h2, h3⟩ := tmrEvents_oneShot hr hg hp hd hm hc
    exact ⟨by rw [get64_withQueue]; exact h1, by rw [get_withQueue]; exact h2, by rw [get_withQueue]; exact h3,
      sameBytes_withQueue tmrEvents_bytes⟩
  · by_cases hs : s.get (Reg.TMR_CFG_SRC n.val) = 3
    · exact congrArg s.done (if_pos hs)
    · exact (run hs).trans (congrArg s.done (tmrEvents_of_shut (h.resolve_left hs)))

theorem timer_settings_complete (n : Fin 16) :
    (∀ v : Word, s.get (Reg.TMR_STATUS_RUN n.val) = 0 → getF v 0 3 < 6 →
      (getF v 0 3 = 3 → s.get (Reg.TMR_TRIG_MASTER n.val) < n.val) → s.completes (.timerConfigWrite n 0 v) fun t =>
        t.get (Reg.TMR_CFG_SRC n.val) = getF v 0 3 ∧ t.get (Reg.TMR_CFG_PRESCALE n.val) = getF v 8 8 ∧
        t.get (Reg.TMR_CFG_GATE n.val) = getF v 16 2 ∧ s.sameRegs t [Reg.TMR_CFG n.val] ∧ s.sameBytes t) ∧
    (∀ v : Word, s.get (Reg.TMR_STATUS_RUN n.val) = 0 → s.completes (.timerConfigWrite n 1 v) fun t =>
      t.get (Reg.TMR_PIN_PIN n.val) = getF v 0 5 ∧ s.sameRegs t [Reg.TMR_PIN n.val] ∧ s.sameBytes t) ∧
    (∀ v : Word, s.get (Reg.TMR_CFG_SRC n.val) ≠ 3 ∨ getF v 0 4 < n.val → s.completes (.timerConfigWrite n 2 v) fun t =>
      t.get (Reg.TMR_TRIG_MASTER n.val) = getF v 0 4 ∧ s.sameRegs t [Reg.TMR_TRIG n.val] ∧ s.sameBytes t) ∧
    (∀ (which : Fin 3) (v : Word), which.val ≠ 2 ∧ s.get (Reg.TMR_STATUS_RUN n.val) = 1 ∨
        which.val = 0 ∧ getF v 0 3 = 3 ∧ n.val ≤ s.get (Reg.TMR_TRIG_MASTER n.val) ∨
        which.val = 2 ∧ s.get (Reg.TMR_CFG_SRC n.val) = 3 ∧ n.val ≤ getF v 0 4 →
      s.completes (.timerConfigWrite n which v) fun t => t.get (Reg.TMR_STATUS_CFG_ERR n.val) = 1 ∧
        s.sameRegs t [Reg.TMR_STATUS n.val] ∧ s.sameBytes t) := by
  have others : ∀ {a : Nat} {w : Word}, s.sameRegs (s.writePlain a w) [a] := fun b hb =>
    reg_writePlain_ne (by simpa using hb)
  have bytes : ∀ {a : Nat} {w : Word}, s.sameBytes (s.writePlain a w) := fun b => rd8_writePlain
  refine ⟨fun v hr hv hm => completes_done (congrArg s.done (tmrConfig_cfg_taken n.isLt hr hv hm)) ?_,
    fun v hr => completes_done (congrArg s.done (tmrConfig_pin_taken hr)) ⟨?_, withQueue_regs_but others, sameBytes_withQueue bytes⟩,
    fun v h => completes_done (congrArg s.done (tmrConfig_trig_taken n.isLt h))
      ⟨?_, withQueue_regs_but others, sameBytes_withQueue bytes⟩,
    fun which v h => completes_done (congrArg s.done (tmrConfig_refused n.isLt which.isLt h))
      ⟨?_, withQueue_regs_but put_status_regs, fun a => rd8_withQueue.trans rd8_put⟩⟩
  · obtain ⟨h1, h2, h3⟩ := writePlain_tmrCfg (s := s) n.isLt hv
    exact ⟨get_withQueue.trans h1, get_withQueue.trans h2, get_withQueue.trans h3, withQueue_regs_but others, sameBytes_withQueue bytes⟩
  · exact get_withQueue.trans (writePlain_tmrPin n.isLt)
  · exact get_withQueue.trans (writePlain_tmrTrig n.isLt)
  · exact get_withQueue.trans (get_put_self (by simp))

/-- Settles O58: the parts are the starts, the captures, the slaves, the reads, the counted events and the settings. -/
theorem timerCommandsComplete : Obligations.TimerCommandsComplete := by
  unfold Obligations.TimerCommandsComplete
  intro s n
  obtain ⟨a1, a2, a3, a4, a5⟩ := timer_starts_complete (s := s) n
  obtain ⟨b1, b2, b3, b4⟩ := timer_captures_complete (s := s) n
  obtain ⟨c1, c2, c3, c4, c5, c6⟩ := timer_slaves_complete (s := s) n
  obtain ⟨d1, d2, d3, d4, d5, d6⟩ := timer_events_complete (s := s) n
  obtain ⟨h1, h2, h3, h4⟩ := headRead_result (s := s) (n := n.val)
  refine ⟨a1, a2, a3, a4, a5, b1, b2, b3, b4, c1, c2, c3, c4, c5, c6, completes_done rfl ⟨h1, h2, ?_, sameBytes_withQueue h4⟩,
    fun b => ?_, d1, d2, d3, d4, d5, d6, timer_settings_complete n⟩
  · exact fun u hu hn hs hc hm => get64_withQueue.trans (h3 u hu hn hs hc hm)
  · obtain ⟨h1, h2, h3, h4, h5⟩ := capRead_result (s := s) (n := n.val) (b := b)
    exact completes_done rfl ⟨h1, h2, get_withQueue.trans h3, withQueue_regs_but h4, sameBytes_withQueue h5⟩

end Sys2Proof.Machine.State
end

section
set_option Elab.async false
/-! PROOFS. The registers that the hub's items and the Sensor Event Link change (R440 to R463). -/

namespace Sys2Proof.Machine.State

variable {B : Nat → Prop} {s s₀ t : State} {n k : Nat}

/-- The registers of the hub's contexts, and those that a write of memory or a log entry may change. -/
def hubRegs (a : Nat) : Prop := (0x1061000 ≤ a ∧ a < 0x1062000) ∨ writeRegs a

theorem ctx_hubRegs {o : Nat} (hn : n < 32) (ho : o < 0x80) : hubRegs (0x1061000 + o + 0x80 * n) := .inl (by omega)

theorem log_hubRegs : hubRegs Reg.FLT_LOG_LOST := .inr (.inl (.inr (.inr rfl)))

/-- What an item of the hub leaves: the registers outside `B`, and the frames that fault injection holds. -/
def ItemKeeps (B : Nat → Prop) (s t : State) : Prop := RegsBut B s t ∧ t.hub.selHeld = s.hub.selHeld

theorem ItemKeeps.refl : ItemKeeps B s s := ⟨.refl, rfl⟩

theorem count_item {f : RF} {m : Nat} (hf : B f.addr) (h : ItemKeeps B s₀ s) : ItemKeeps B s₀ (s.count f m) :=
  ⟨count_regsBut hf h.1, h.2⟩

theorem onHub_item {f : Hub → Hub} (hf : (f s.hub).selHeld = s.hub.selHeld) (h : ItemKeeps B s₀ s) :
    ItemKeeps B s₀ (s.onHub f) := ⟨h.1.congr rfl, hf.trans h.2⟩

theorem wrLe_item {a m v : Nat} (hB : ∀ a, hubRegs a → B a) (h : ItemKeeps B s₀ s) : ItemKeeps B s₀ (s.wrLe a m v) := by
  refine ⟨wrLe_regsBut (fun a ha => hB a (.inr ha)) h.1, Eq.trans ?_ h.2⟩
  have e : (s.wrLe a m v).hub = s.hub :=
    (wrLe_sameBut (F := [.regs, .mem, .events, .fw]) (by decide) .refl).eq (f := State.hub) fun _ => rfl
  rw [e]

theorem logOnceBy_item {key : Nat} {b : Block} {i c r : Nat} (hB : ∀ a, hubRegs a → B a) (h : ItemKeeps B s₀ s) :
    ItemKeeps B s₀ (s.logOnceBy key b i c r) := by
  refine ⟨logOnceBy_regsBut (hB _ log_hubRegs) h.1, Eq.trans ?_ h.2⟩
  unfold logOnceBy
  dsimp only
  split
  · rfl
  · rw [log_hub]

theorem latest_item {c e v} (hB : ∀ a, hubRegs a → B a) (h : ItemKeeps B s₀ s) : ItemKeeps B s₀ (s.latest n c e v) :=
  keeps_ite (wrLe_item hB h) (wrLe_item hB h)

section
set_option Elab.async false
variable (hB : ∀ a, hubRegs a → B a) (hn : ∀ o < 0x80, B (0x1061000 + o + 0x80 * n))
include hB hn

theorem hubRecord_item {step a g} (h : ItemKeeps B s₀ s) : ItemKeeps B s₀ (s.hubRecord n step a g) := by
  have hc : B (Reg.SEN_CTX_DROP_RING n) := hn 0x3C (by decide)
  unfold hubRecord
  dsimp only
  refine keeps_ite (logOnceBy_item hB (count_item hc h)) ?_
  exact onHub_item rfl (wrLe_item hB h)

theorem contrast_item {step e v} (h : ItemKeeps B s₀ s) : ItemKeeps B s₀ (s.contrast n step e v) := by
  have hw : ∀ {a m x}, ItemKeeps B s₀ (s.wrLe a m x) := wrLe_item hB h
  exact keeps_ite (hubRecord_item hB hn hw) (keeps_ite (hubRecord_item hB hn hw) h)

theorem crossing_item {step lane v} (h : ItemKeeps B s₀ s) : ItemKeeps B s₀ (s.crossing n step lane v) := by
  have hw : ∀ {a m x}, ItemKeeps B s₀ (s.wrLe a m x) := wrLe_item hB h
  unfold crossing
  dsimp only
  exact keeps_ite (onHub_item rfl hw) (keeps_ite h (keeps_ite (hubRecord_item hB hn hw) (keeps_ite (hubRecord_item hB hn hw) h)))

theorem encode_item {step item} (h : ItemKeeps B s₀ s) : ItemKeeps B s₀ (s.encode n step item) := by
  unfold encode
  cases item with
  | event addr pol => exact hubRecord_item hB hn h
  | sample lane value => exact keeps_ite (crossing_item hB hn h) (latest_item hB h)
  | frame lines =>
    refine keeps_ite (keeps_foldl _ h fun x hx e => latest_item hB hx) (keeps_ite ?_ ?_)
    · exact onHub_item rfl (keeps_foldl (P := ItemKeeps B s₀) _ h fun x hx e => wrLe_item hB hx)
    · exact keeps_foldl _ h fun x hx e => contrast_item hB hn hx

theorem placeItem_item {tau item} (h : ItemKeeps B s₀ s) : ItemKeeps B s₀ (s.placeItem n tau item) := by
  have hr : B (Reg.SEN_CTX_RANGE n) := hn 0x48 (by decide)
  have hl : B (Reg.SEN_CTX_LATE n) := hn 0x44 (by decide)
  unfold placeItem
  extract_lets last x
  have hx : ItemKeeps B s₀ x := keeps_ite (count_item hl h) h
  exact keeps_ite (count_item hr h) (keeps_ite (onHub_item rfl h) (encode_item hB hn hx))

theorem takeItem_item {tau item} (h : ItemKeeps B s₀ s) : ItemKeeps B s₀ (s.takeItem n tau item) := by
  have ho : B (Reg.SEN_CTX_DROP_OFF n) := hn 0x40 (by decide)
  exact keeps_ite h (keeps_ite (count_item ho h) (placeItem_item hB hn h))

end

theorem boundTo_lt {code : Nat} (h : s.boundTo code = some n) : n < 32 := by
  unfold boundTo at h
  dsimp only at h
  have hm : n ∈ (List.range 32).filter fun n => s.get (Reg.SEN_CTX_BIND_CODE n) = code := by
    obtain h | ⟨-, h⟩ := Option.or_eq_some_iff.1 h
    · exact List.mem_of_find?_eq_some h
    · exact List.mem_of_mem_head? h
  exact List.mem_range.1 (List.mem_filter.1 hm).1

theorem hubItem_item {code tau item} (hB : ∀ a, hubRegs a → B a) (h : ItemKeeps B s₀ s) :
    ItemKeeps B s₀ (s.hubItem code tau item) := by
  unfold hubItem
  refine keeps_ite h ?_
  split
  · exact h
  · next n e =>
    have hn : ∀ o < 0x80, B (0x1061000 + o + 0x80 * n) := fun o ho => hB _ (ctx_hubRegs (boundTo_lt e) ho)
    have hk : B (Reg.SEN_CTX_DROP_KIND n) := hn 0x4C (by decide)
    exact keeps_ite (count_item hk h) (takeItem_item hB hn h)

theorem hubWords_item {codeOf bad l tau} (hB : ∀ a, hubRegs a → B a) (hbad : ∀ x, ItemKeeps B s₀ x → ItemKeeps B s₀ (bad x))
    (h : ItemKeeps B s₀ s) : ItemKeeps B s₀ (s.hubWords codeOf bad tau l).1 := by
  induction l generalizing s tau with
  | nil => exact h
  | cons w l ih =>
    rw [hubWords]
    split
    · exact ih (hubItem_item hB h)
    · exact ih (hubItem_item hB h)
    · exact ih h
    · exact ih (hbad _ h)

/-! The Sensor Event Link (R459). -/

theorem selPort_setSel {x : SelPort} : (s.setSel k x).selPort k = x := Sparse.find_store_self

theorem selPort_congr (h : t.hub.sel = s.hub.sel) : t.selPort k = s.selPort k := by rw [selPort, selPort, h]

theorem selFrames_eq {l} : SameBut [.sent] s (s.selFrames k l) := selFrames_sameBut (by decide) .refl

theorem selFrames_regs {l} : (s.selFrames k l).regs = s.regs := selFrames_eq.regs rfl

theorem selFrames_hub {l} : (s.selFrames k l).hub = s.hub := selFrames_eq.eq (f := State.hub) fun _ => rfl

theorem selFrames_bytes {l} : s.sameBytes (s.selFrames k l) := selFrames_eq.sameBytes rfl rfl

/-- What an accepted frame changes, but the port's own registers of command answers (R458, R459). -/
theorem selAccept_item {type subch sat fage words} (hB : ∀ a, hubRegs a → B a) (he : B (Reg.SEN_SEL_CODE_ERR k))
    (hr : ∀ i < 8, B (Reg.SEN_SEL_RSP0 k + 4 * i)) (hs : B (Reg.SEN_SEL_RSP_STAT k)) (h : ItemKeeps B s₀ s) :
    ItemKeeps B s₀ (s.selAccept k type subch sat fage words) := by
  unfold selAccept
  split
  · exact hubWords_item hB (fun x hx => count_item he hx) h
  · refine keeps_ite (count_item hs h) ?_
    refine ⟨put_regsBut hs (put_regsBut hs ?_), ?_⟩
    · refine keeps_foldl_mem _ h.1 fun x hx a ha => setReg_regsBut (hr _ ?_) hx
      have := List.mem_zipIdx ha
      simp only [List.length_take] at this
      omega
    · exact keeps_foldl (P := fun x : State => x.hub.selHeld = s₀.hub.selHeld) _ h.2 fun x hx a => hx
  · exact h

end Sys2Proof.Machine.State
end

section
set_option Elab.async false
/-! PROOFS. O52: the commands of the Sensor Event Link (R459 to R463, R474). -/

namespace Sys2Proof.Machine.State

variable {s t : State} {n k : Nat} {l : List (Nat × Nat × List Nat)}

/-- What a state of the port leaves of the other registers (R461). -/
theorem put_selState_regs {v : Nat} : s.sameRegs (s.put (Reg.SEN_SEL_STATUS_STATE k) v) [Reg.SEN_SEL_STATUS k] := fun a ha => by
  rw [reg_put, if_neg (by simpa using ha)]

theorem get_put_selState {v : Nat} : (s.put (Reg.SEN_SEL_STATUS_STATE k) v).get (Reg.SEN_SEL_STATUS_STATE k) = v % 8 :=
  get_put_self (by simp)

theorem selFrames_get {f : RF} : (s.selFrames k l).get f = s.get f := get_congr selFrames_regs

theorem selFrames_reg {a : Nat} : (s.selFrames k l).reg a = s.reg a := reg_congr selFrames_regs

theorem selFrames_port : (s.selFrames n l).selPort k = s.selPort k := selPort_congr (by rw [selFrames_hub])

theorem reg_setSel {x : SelPort} {a : Nat} : (s.setSel k x).reg a = s.reg a := reg_congr rfl

theorem get_setSel {x : SelPort} {f : RF} : (s.setSel k x).get f = s.get f := get_congr rfl

theorem rd8_setSel {x : SelPort} {a : Nat} : (s.setSel k x).rd8 a = s.rd8 a := rd8_congr rfl rfl

/-! A frame is received (R459). -/

theorem injecting_of_disarmed {suspect kind : Nat} (h : s.flag Reg.DBG_INJ_STAT_ARMED = false) : s.injecting suspect kind = false := by
  rw [injecting, h]
  rfl

theorem selIn_of_disarmed {ok : Bool} {f words : List Nat} (h : s.flag Reg.DBG_INJ_STAT_ARMED = false)
    (hh : (s.selTake k ok f words).hub.selHeld.find? (·.1 = k) = none) : s.selIn k ok f words = s.selTake k ok f words := by
  unfold selIn
  simp only [injecting_of_disarmed h, Bool.false_eq_true, if_false, Bool.false_and, hh]

/-- The content of a frame in sequence, after its sequence number and its ACK (R459). -/
def selHeard (s : State) (k seq : Nat) : State :=
  ((s.put (Reg.SEN_SEL_STATUS_RXSEQ k) ((seq + 1) % 256)).selSend (.selAck k seq)).count (Reg.SEN_SEL_FRAMES_COUNT k)

theorem selReceive_of_expected {type subch seq fage room : Nat} {sat : Bool} {words : List Nat} (h : s.selState k = 3)
    (hs : seq = s.get (Reg.SEN_SEL_STATUS_RXSEQ k)) (hw : words.length ≤ room) :
    s.selReceive k true type subch seq sat fage words room =
      if type = 4 then ((s.selHeard k seq).selAccept k type subch sat fage words).put (Reg.SEN_SEL_STATUS_STATE k) 5
      else (s.selHeard k seq).selAccept k type subch sat fage words := by
  unfold selReceive
  rw [if_neg (by simpa using h)]
  dsimp only
  rw [if_neg (by simp), if_pos hs, if_neg (by omega), ← hs]
  rfl

/-- The registers that the content of a frame may change. -/
def heardRegs (k a : Nat) : Prop := hubRegs a ∨ a = Reg.SEN_SEL_CODE_ERR k ∨ a = Reg.SEN_SEL_RSP_STAT k ∨
  ∃ i < 8, a = Reg.SEN_SEL_RSP0 k + 4 * i

theorem selAccept_keeps {type subch fage : Nat} {sat : Bool} {words : List Nat} :
    ItemKeeps (heardRegs k) s (s.selAccept k type subch sat fage words) :=
  selAccept_item (fun _ h => .inl h) (.inr (.inl rfl)) (fun i hi => .inr (.inr (.inr ⟨i, hi, rfl⟩))) (.inr (.inr (.inl rfl))) .refl

theorem not_heardRegs (hk : k < 16) : ¬heardRegs k (Reg.SEN_SEL_STATUS k) ∧ ¬heardRegs k (Reg.SEN_SEL_FRAMES k) := by
  simp only [heardRegs, hubRegs, writeRegs, injectRegs, Reg.SEN_SEL_STATUS, Reg.SEN_SEL_FRAMES, Reg.SEN_SEL_CODE_ERR,
    Reg.SEN_SEL_RSP_STAT, Reg.SEN_SEL_RSP0, Reg.DBG_INJ_STAT, Reg.DBG_INJ_DONE, Reg.FLT_LOG_LOST, Reg.SEC_SIG_STAT]
  constructor <;> (rintro h; omega)

theorem selHeard_result {seq : Nat} : (s.selHeard k seq).get (Reg.SEN_SEL_STATUS_RXSEQ k) = (seq + 1) % 256 ∧
    (s.selHeard k seq).get (Reg.SEN_SEL_FRAMES_COUNT k) =
      satInc (Reg.SEN_SEL_FRAMES_COUNT k).len (s.get (Reg.SEN_SEL_FRAMES_COUNT k)) 1 ∧
    (s.selHeard k seq).hub = s.hub := by
  have hne : Reg.SEN_SEL_STATUS k ≠ Reg.SEN_SEL_FRAMES k := by
    simp only [Reg.SEN_SEL_STATUS, Reg.SEN_SEL_FRAMES]
    omega
  have hs : ∀ x : State, ∀ o f, (x.selSend o).get f = x.get f := fun x o f => get_congr emitOut_regs
  refine ⟨?_, ?_, ?_⟩
  · rw [selHeard, get_count_addr hne, hs, get_put_self (by simp)]
    exact Nat.mod_mod _ _
  · rw [selHeard, get_count_self (by simp), hs, get_put_addr hne.symm]
  · exact emitOut_hub

/-- A frame in sequence takes the next number and is counted (R459). -/
theorem selReceive_expected {type subch seq fage room : Nat} {sat : Bool} {words : List Nat} (hk : k < 16)
    (h : s.selState k = 3) (hs : seq = s.get (Reg.SEN_SEL_STATUS_RXSEQ k)) (hw : words.length ≤ room) :
    (s.selReceive k true type subch seq sat fage words room).get (Reg.SEN_SEL_STATUS_RXSEQ k) = (seq + 1) % 256 ∧
      (s.selReceive k true type subch seq sat fage words room).get (Reg.SEN_SEL_FRAMES_COUNT k) =
        satInc (Reg.SEN_SEL_FRAMES_COUNT k).len (s.get (Reg.SEN_SEL_FRAMES_COUNT k)) 1 ∧
      (s.selReceive k true type subch seq sat fage words room).hub.selHeld = s.hub.selHeld := by
  obtain ⟨h1, h2, h3⟩ := selHeard_result (s := s) (k := k) (seq := seq)
  obtain ⟨ha, hh⟩ := selAccept_keeps (s := s.selHeard k seq) (k := k) (type := type) (subch := subch) (fage := fage) (sat := sat)
    (words := words)
  obtain ⟨n1, n2⟩ := not_heardRegs hk
  rw [selReceive_of_expected h hs hw]
  generalize (s.selHeard k seq).selAccept k type subch sat fage words = t at ha hh ⊢
  have r1 : t.get (Reg.SEN_SEL_STATUS_RXSEQ k) = (seq + 1) % 256 := (ha.get n1).trans h1
  have r2 := (ha.get (f := Reg.SEN_SEL_FRAMES_COUNT k) n2).trans h2
  rw [h3] at hh
  split
  · refine ⟨(get_put_clear (.inr (by simp))).trans r1, (get_put_addr ?_).trans r2, hh⟩
    simp only [Reg.SEN_SEL_STATUS, Reg.SEN_SEL_FRAMES]
    omega
  · exact ⟨r1, r2, hh⟩

/-! Acknowledgement and retransmission (R460). -/

/-- The sender after an ACK of its first `i + 1` frames. -/
def selLetGo (s : State) (k i : Nat) : State :=
  (s.setSel k { s.selPort k with out := (s.selPort k).out.drop (i + 1), tries := 0, busy := none }).selFrames k
    ((((s.selPort k).out.drop (i + 1)).drop (7 - i)).take (i + 1))

theorem selAcked_of_known {seq inv i : Nat} (h : s.selState k = 3) (hs : seq + inv = 255)
    (hi : (s.selPort k).out.findIdx? (fun f => f.1 = seq) = some i) (hl : i < 8) : ∃ x : State,
      (x = s.selLetGo k i ∨ x = (s.selLetGo k i).put (Reg.SEN_SEL_CMD_CTRL_DONE k) 1) ∧
      (s.selAcked k seq inv = x ∨ s.selAcked k seq inv = x.put (Reg.SEN_SEL_STATUS_STATE k) 5) := by
  have hgo : ¬(s.selState k ≠ 3 ∨ seq + inv ≠ 255 ∨ 8 ≤ i) := by omega
  unfold selAcked
  simp only [hi]
  rw [if_neg hgo]
  refine ⟨_, ?_, (ite_eq_or_eq _ _ _).symm⟩
  exact (ite_eq_or_eq _ _ _).symm

theorem selAcked_result {seq inv i : Nat} (h : s.selState k = 3) (hs : seq + inv = 255)
    (hi : (s.selPort k).out.findIdx? (fun f => f.1 = seq) = some i) (hl : i < 8) :
    ((s.selAcked k seq inv).selPort k).out = (s.selPort k).out.drop (i + 1) ∧
      s.sameRegs (s.selAcked k seq inv) [Reg.SEN_SEL_CMD_CTRL k, Reg.SEN_SEL_STATUS k] ∧ s.sameBytes (s.selAcked k seq inv) := by
  have key : ∀ x : State, x.hub = (s.selLetGo k i).hub → (x.selPort k).out = (s.selPort k).out.drop (i + 1) := fun x hx => by
    rw [selPort_congr (s := s.selLetGo k i) (by rw [hx]), selLetGo, selFrames_port, selPort_setSel]
  have hr : ∀ a, (s.selLetGo k i).reg a = s.reg a := fun a => selFrames_reg.trans (reg_congr rfl)
  have hb : ∀ a, (s.selLetGo k i).rd8 a = s.rd8 a := fun a => (selFrames_bytes a).trans (rd8_congr rfl rfl)
  obtain ⟨x, rfl | rfl, e | e⟩ := selAcked_of_known h hs hi hl
  · rw [e]
    exact ⟨key _ rfl, fun a _ => hr a, hb⟩
  · rw [e]
    refine ⟨key _ rfl, fun a ha => (put_selState_regs a ?_).trans (hr a), fun a => rd8_put.trans (hb a)⟩
    exact fun h => ha (by simp_all)
  · rw [e]
    refine ⟨key _ rfl, fun a ha => (reg_put.trans (if_neg ?_)).trans (hr a), fun a => rd8_put.trans (hb a)⟩
    exact fun h => ha (by simp_all)
  · rw [e]
    refine ⟨key _ rfl, fun a ha => (put_selState_regs a ?_).trans ((reg_put.trans (if_neg ?_)).trans (hr a)),
      fun a => (rd8_put.trans rd8_put).trans (hb a)⟩
    · exact fun h => ha (by simp_all)
    · exact fun h => ha (by simp_all)

/-- Frames that go out again (R460). -/
def selResent (s : State) (k seq : Nat) (counted : Bool) : State :=
  ((s.setSel k { s.selPort k with
    tries := if counted then (s.selPort k).tries + 1 else (s.selPort k).tries
    busy := none }).count (Reg.SEN_SEL_RETX_COUNT k) (selFrom (s.selPort k) seq).length).selFrames k (selFrom (s.selPort k) seq)

theorem selAgain_of_some {seq : Nat} {counted : Bool} (h : selFrom (s.selPort k) seq ≠ [])
    (ht : counted = true → (s.selPort k).tries < 16) : s.selAgain k seq counted = s.selResent k seq counted := by
  have h1 : ¬((selFrom (s.selPort k) seq).isEmpty = true) := by simpa using h
  have h2 : ¬((counted && decide (16 ≤ (s.selPort k).tries)) = true) := by
    cases counted
    · simp
    · simpa using ht rfl
  unfold selAgain
  dsimp only
  rw [if_neg h1, if_neg h2]
  rfl

theorem selResent_result {seq : Nat} {counted : Bool} :
    ((s.selResent k seq counted).selPort k).tries = (if counted then (s.selPort k).tries + 1 else (s.selPort k).tries) ∧
      ((s.selResent k seq counted).selPort k).busy = none ∧
      (s.selResent k seq counted).get (Reg.SEN_SEL_RETX_COUNT k) = satInc (Reg.SEN_SEL_RETX_COUNT k).len
        (s.get (Reg.SEN_SEL_RETX_COUNT k)) (selFrom (s.selPort k) seq).length ∧
      s.sameRegs (s.selResent k seq counted) [Reg.SEN_SEL_RETX k] ∧ s.sameBytes (s.selResent k seq counted) := by
  have hp : (s.selResent k seq counted).selPort k = { s.selPort k with
      tries := (if counted then (s.selPort k).tries + 1 else (s.selPort k).tries), busy := none } := by
    rw [selResent, selFrames_port]
    exact selPort_setSel
  refine ⟨by rw [hp], by rw [hp], ?_, fun a ha => ?_, fun a => ?_⟩
  · rw [selResent, selFrames_get, get_count_self (by simp)]
    rfl
  · rw [selResent, selFrames_reg]
    refine (reg_put.trans (if_neg ?_)).trans (reg_congr rfl)
    simpa using ha
  · rw [selResent]
    exact (selFrames_bytes a).trans (rd8_count.trans (rd8_congr rfl rfl))

theorem selNaked_of_live {seq inv reason : Nat} (h : s.selState k = 3) (hs : seq + inv = 255) : s.selNaked k seq inv reason =
    if reason = 2 then s.setSel k { s.selPort k with busy := some seq }
    else if reason = 1 ∨ reason = 3 then s.selAgain k seq true else s := by
  have hgo : ¬(s.selState k ≠ 3 ∨ seq + inv ≠ 255) := by omega
  exact if_neg hgo

/-- The first of the frames is in flight. -/
theorem selFrom_head {f : Nat × Nat × List Nat} {r : List (Nat × Nat × List Nat)} (h : (s.selPort k).out = f :: r) :
    selFrom (s.selPort k) f.1 ≠ [] := by
  unfold selFrom
  rw [h, List.take_succ_cons, List.dropWhile_cons_of_neg (by simp)]
  exact List.cons_ne_nil _ _

/-! Training (R461, R462). -/

/-- What ALIGN leaves of a port. -/
theorem selAlign_result : (s.selAlign k).selState k = 1 ∧ (s.selAlign k).selPort k =
      { s.selPort k with idles := 0, sets := 0, acks := 0, tries := 0, busy := none } ∧
    s.sameRegs (s.selAlign k) [Reg.SEN_SEL_STATUS k] ∧ s.sameBytes (s.selAlign k) := by
  unfold selAlign
  refine ⟨?_, selPort_setSel, fun a ha => reg_setSel.trans (put_selState_regs a ha), fun a => rd8_setSel.trans rd8_put⟩
  rw [selState, get_setSel]
  exact get_put_selState

theorem selRetrain_result : (s.selRetrain k).selState k = 1 ∧
    (s.selRetrain k).get (Reg.SEN_SEL_RETRAIN_COUNT k) = satInc (Reg.SEN_SEL_RETRAIN_COUNT k).len
      (s.get (Reg.SEN_SEL_RETRAIN_COUNT k)) 1 ∧ s.sameBytes (s.selRetrain k) := by
  obtain ⟨h1, -, h3, h4⟩ := selAlign_result (s := (s.count (Reg.SEN_SEL_RETRAIN_COUNT k)).log .sen 0 0x5301 srcManager) (k := k)
  have hne : Reg.SEN_SEL_RETRAIN k ∉ [Reg.SEN_SEL_STATUS k] := by
    simp only [Reg.SEN_SEL_RETRAIN, Reg.SEN_SEL_STATUS, List.mem_singleton]
    omega
  have hl : Reg.SEN_SEL_RETRAIN k ≠ Reg.FLT_LOG_LOST := by
    simp only [Reg.SEN_SEL_RETRAIN, Reg.FLT_LOG_LOST]
    omega
  refine ⟨h1, ?_, fun a => (h4 a).trans (rd8_log.trans rd8_count)⟩
  have e : (s.selRetrain k).get (Reg.SEN_SEL_RETRAIN_COUNT k) =
      ((s.count (Reg.SEN_SEL_RETRAIN_COUNT k)).log .sen 0 0x5301 srcManager).get (Reg.SEN_SEL_RETRAIN_COUNT k) := by
    rw [get, get, ← h3 _ hne]
    rfl
  rw [e, get_log hl, get_count_self (by simp)]

theorem selFail_early (h : (s.selPort k).fails < 7) : (s.selFail k).selState k = 1 ∧
    ((s.selFail k).selPort k).fails = (s.selPort k).fails + 1 ∧ s.sameBytes (s.selFail k) := by
  have hgo : (s.selPort k).fails + 1 < 8 := by omega
  have e : s.selFail k = (s.setSel k { s.selPort k with fails := (s.selPort k).fails + 1 }).selAlign k := if_pos hgo
  obtain ⟨h1, h2, -, h4⟩ := selAlign_result (s := s.setSel k { s.selPort k with fails := (s.selPort k).fails + 1 }) (k := k)
  rw [selPort_setSel] at h2
  rw [e]
  exact ⟨h1, by rw [h2], fun a => (h4 a).trans (rd8_congr rfl rfl)⟩

theorem fileReport_regsBut {suspect : Nat} : RegsBut (fun a => a = fltStat n) s (s.fileReport n suspect) := by
  unfold fileReport
  extract_lets hist f
  refine keeps_ite (count_regsBut rfl .refl) (keeps_ite ?_ (put_regsBut rfl (RegsBut.refl.congr rfl)))
  have h : RegsBut (fun a => a = fltStat n) s (s.put ⟨fltStat n, 8, 1⟩ 1) := put_regsBut rfl .refl
  exact h.congr rfl

theorem rd8_fileReport {suspect a : Nat} : (s.fileReport n suspect).rd8 a = s.rd8 a :=
  SameBut.sameBytes (fileReport_sameBut (F := [.regs, .objs, .fault]) (by decide) .refl) rfl rfl a

/-- The port of a last failed attempt is down. -/
def selDowned (s : State) (k : Nat) : State :=
  ((s.setSel k { s.selPort k with fails := 0, idles := 0, sets := 0, acks := 0 }).put (Reg.SEN_SEL_STATUS_STATE k) 0).put
    (Reg.SEN_SEL_STATUS_TRAIN_FAIL k) 1

theorem selFail_last (h : (s.selPort k).fails = 7) : (s.selFail k).selState k = 0 ∧
    (s.selFail k).get (Reg.SEN_SEL_STATUS_TRAIN_FAIL k) = 1 ∧ s.sameBytes (s.selFail k) := by
  have hgo : ¬(s.selPort k).fails + 1 < 8 := by omega
  have e : s.selFail k = ((s.selDowned k).log .sen 0 0x5302 srcManager).fileReport edgeNode (suspectId 8 k) := if_neg hgo
  have hg : ∀ f : RF, f.addr = Reg.SEN_SEL_STATUS k → (s.selFail k).get f = (s.selDowned k).get f := fun f hf => by
    rw [e, fileReport_regsBut.get, get_log]
    · rw [hf]
      simp only [Reg.SEN_SEL_STATUS, Reg.FLT_LOG_LOST]
      omega
    · rw [hf]
      simp only [Reg.SEN_SEL_STATUS, fltStat, edgeNode, lt_irrefl, if_false, Reg.ROOT_SYNC_FLT_STAT]
      omega
  refine ⟨?_, ?_, fun a => ?_⟩
  · rw [selState, hg _ rfl]
    exact (get_put_clear (.inl (by simp))).trans ((get_put_self (by simp)).trans (Nat.zero_mod _))
  · rw [hg _ rfl]
    exact get_put_self (by simp)
  · rw [e, rd8_fileReport, rd8_log]
    exact rd8_put.trans (rd8_put.trans (rd8_congr rfl rfl))

/-- The frames that a peer knows at the entry of ACTIVE (R461). -/
def selKnown (s : State) (k peer : Nat) : List (Nat × Nat × List Nat) :=
  (s.selPort k).out.filter fun f => (peer + 256 - f.1) % 256 ∈ List.range 128 ∧ f.1 ≠ peer

theorem selActive_eq {peer : Nat} : ∃ (x : SelPort) (l : List (Nat × Nat × List Nat)), s.selActive k peer =
    ((if ((s.selKnown k peer).any fun f => f.2.1 = 3) = true then (s.setSel k x).put (Reg.SEN_SEL_CMD_CTRL_DONE k) 1
      else s.setSel k x).put (Reg.SEN_SEL_STATUS_STATE k) 3).selFrames k l := ⟨_, _, rfl⟩

theorem selActive_result {peer : Nat} : (s.selActive k peer).selState k = 3 ∧
    s.sameRegs (s.selActive k peer) [Reg.SEN_SEL_STATUS k, Reg.SEN_SEL_CMD_CTRL k] ∧ s.sameBytes (s.selActive k peer) := by
  obtain ⟨x, l, e⟩ := selActive_eq (s := s) (k := k) (peer := peer)
  have hx : RegsBut (fun a => a = Reg.SEN_SEL_CMD_CTRL k) s
      (if ((s.selKnown k peer).any fun f => f.2.1 = 3) = true then (s.setSel k x).put (Reg.SEN_SEL_CMD_CTRL_DONE k) 1
        else s.setSel k x) := keeps_ite (put_regsBut rfl (RegsBut.refl.congr rfl)) (RegsBut.refl.congr rfl)
  have hb : ∀ a, (if ((s.selKnown k peer).any fun f => f.2.1 = 3) = true then
      (s.setSel k x).put (Reg.SEN_SEL_CMD_CTRL_DONE k) 1 else s.setSel k x).rd8 a = s.rd8 a := fun a => by
    split
    · exact rd8_put.trans (rd8_congr rfl rfl)
    · exact rd8_congr rfl rfl
  rw [e]
  refine ⟨?_, fun a ha => ?_, fun a => ?_⟩
  · rw [selState, selFrames_get]
    exact get_put_selState
  · simp only [List.mem_cons, List.not_mem_nil, or_false, not_or] at ha
    rw [selFrames_reg, put_selState_regs a (by simpa using ha.1), hx a ha.2]
  · rw [selFrames_bytes, rd8_put, hb]

theorem selTs_of_trained {d : List Nat} {sent : Nat} (h : s.selState k = 2) (h0 : d.getD 0 0 = 1) (h1 : 128 ≤ d.getD 1 0)
    (h5 : d.getD 5 0 = (((d.getD 0 0).xor (d.getD 1 0)).xor (d.getD 2 0)).xor ((d.getD 3 0).xor (d.getD 4 0)))
    (hs : 3 ≤ (s.selPort k).sets) (ha : 3 ≤ (s.selPort k).acks) (hn : 16 ≤ sent) : s.selTs k d sent = s.selActive k (d.getD 2 0) := by
  unfold selTs
  dsimp only
  rw [if_neg (by simpa using h), if_neg (by rw [not_or, not_not, not_not]; exact ⟨h0, h5⟩), if_pos h1, if_pos (by omega)]

/-! Frames of the device (R460, R463, R474). -/

theorem selPost_result {type : Nat} {words : List Nat} :
    ((s.selPost k type words).selPort k).out = (s.selPort k).out ++ [((s.selPort k).next, type, words)] ∧
      ((s.selPost k type words).selPort k).next = ((s.selPort k).next + 1) % 256 ∧
      (∀ a, (s.selPost k type words).reg a = s.reg a) ∧ s.sameBytes (s.selPost k type words) := by
  have hp : (s.selPost k type words).selPort k = { s.selPort k with
      out := (s.selPort k).out ++ [((s.selPort k).next, type, words)], next := ((s.selPort k).next + 1) % 256 } := by
    unfold selPost
    extract_lets x f y
    split
    · rw [selFrames_port]
      exact selPort_setSel
    · exact selPort_setSel
  refine ⟨by rw [hp], by rw [hp], fun a => ?_, fun a => ?_⟩
  · unfold selPost
    extract_lets x f y
    split
    · exact selFrames_reg.trans (reg_congr rfl)
    · exact reg_congr rfl
  · unfold selPost
    extract_lets x f y
    split
    · exact (selFrames_bytes a).trans (rd8_congr rfl rfl)
    · exact rd8_congr rfl rfl

end Sys2Proof.Machine.State
end

section
set_option Elab.async false
/-! PROOFS. O52: the commands of the Sensor Event Link complete (R459 to R463, R474). -/

namespace Sys2Proof.Machine.State

variable {s t : State} {k : Nat}

theorem selPort_withQueue {q : List Instr} : (s.withQueue q).selPort k = s.selPort k := (rfl)

theorem selState_withQueue {q : List Instr} : (s.withQueue q).selState k = s.selState k := get_withQueue

theorem selIdle_last (h : s.selState k = 1) (hi : (s.selPort k).idles = 7) : s.selIdle k true =
    (s.setSel k { s.selPort k with idles := 0, sets := 0, acks := 0 }).put (Reg.SEN_SEL_STATUS_STATE k) 2 := by
  unfold selIdle
  dsimp only
  rw [if_neg (by simpa using h), if_neg (by simp), if_neg (by omega)]

theorem selWake_of_armed (hw : s.flag (Reg.SEN_SEL_CTRL_WAKE_EN k) = true) (h : s.selState k = 0 ∨ s.selState k = 5) :
    s.selWake k = (s.wakeSeen 3 k).selAlign k := by
  have h1 : ¬((!s.flag (Reg.SEN_SEL_CTRL_WAKE_EN k)) = true) := by simpa using hw
  exact (if_neg h1).trans (if_pos h)

theorem selEnable_result : (s.selEnable k).get (Reg.SEN_SEL_CTRL_EN k) = 1 ∧
    (s.selEnable k).get (Reg.SEN_SEL_STATUS_RXSEQ k) = 0 ∧ (s.selEnable k).selState k = 1 ∧
    s.sameRegs (s.selEnable k) [Reg.SEN_SEL_CTRL k, Reg.SEN_SEL_STATUS k] ∧ s.sameBytes (s.selEnable k) := by
  have hne : Reg.SEN_SEL_CTRL k ≠ Reg.SEN_SEL_STATUS k := by
    simp only [Reg.SEN_SEL_CTRL, Reg.SEN_SEL_STATUS]
    omega
  obtain ⟨h1, -, h3, h4⟩ := selAlign_result (s := (s.put (Reg.SEN_SEL_CTRL_EN k) 1).put (Reg.SEN_SEL_STATUS_RXSEQ k) 0) (k := k)
  have hg : ∀ f : RF, f.addr = Reg.SEN_SEL_CTRL k → (s.selEnable k).get f =
      ((s.put (Reg.SEN_SEL_CTRL_EN k) 1).put (Reg.SEN_SEL_STATUS_RXSEQ k) 0).get f := fun f hf => by
    rw [get, get, ← h3 f.addr (by rw [hf]; simp)]
    rfl
  refine ⟨?_, ?_, h1, fun a ha => ?_, fun a => (h4 a).trans (rd8_put.trans rd8_put)⟩
  · rw [hg _ rfl, get_put_addr hne]
    exact get_put_self (by simp)
  · unfold selEnable selAlign
    rw [get_setSel, get_put_clear (.inr (by simp))]
    exact get_put_self (by simp)
  · simp only [List.mem_cons, List.not_mem_nil, or_false, not_or] at ha
    refine (h3 a (by simpa using ha.2)).trans ((reg_put.trans (if_neg ha.2)).trans (reg_put.trans (if_neg ha.1)))

/-- The port of a command that is sent. -/
def selAsked (s : State) (k n : Nat) : State := (s.put (Reg.SEN_SEL_CMD_CTRL_LEN k) n).put (Reg.SEN_SEL_CMD_CTRL_DONE k) 0

/-- The words of a command. -/
def selWords (s : State) (k n : Nat) : List Nat :=
  (List.range (min 8 n)).map fun i => (s.reg (Reg.SEN_SEL_CMD0 k + 4 * i)).toNat

theorem selAsked_regs {n : Nat} : s.sameRegs (s.selAsked k n) [Reg.SEN_SEL_CMD_CTRL k] := fun a ha => by
  have h : a ≠ Reg.SEN_SEL_CMD_CTRL k := by simpa using ha
  exact (reg_put.trans (if_neg h)).trans (reg_put.trans (if_neg h))

theorem selAsked_words {n : Nat} : (s.selAsked k n).selWords k n = s.selWords k n := by
  refine List.map_congr_left fun i hi => ?_
  have := List.mem_range.1 hi
  rw [selAsked_regs]
  simp only [Reg.SEN_SEL_CMD0, Reg.SEN_SEL_CMD_CTRL, List.mem_singleton]
  omega

theorem selCommand_eq {n : Nat} : s.selCommand k n = (s.selAsked k n).selPost k 3 (s.selWords k n) := by
  rw [← selAsked_words]
  rfl

theorem selAsked_port {n : Nat} : (s.selAsked k n).selPort k = s.selPort k :=
  selPort_congr (by rw [selAsked, put_hub, put_hub])

theorem selAlign_wakes : (s.selAlign k).wakes = s.wakes := by
  rw [selAlign, setSel, onHub_wakes, put_wakes]

/-- Settles O52: a frame in sequence, the ACK and the retransmission, training, and the frames of the device. -/
theorem sensorLinkCommandsComplete : Obligations.SensorLinkCommandsComplete := by
  unfold Obligations.SensorLinkCommandsComplete
  intro s k
  refine ⟨fun type subch seq sat fage words room h hd hh hs hw => ?_, fun seq inv i h hs hi hl => ?_, fun seq inv h hs => ?_,
    fun seq inv reason h hs hr hf ht => ?_, fun seq hb hf => ?_, fun h ho ht => ?_, fun h hi => ?_,
    fun a b c d e sent h h1 h5 hs ha hn => ?_, fun h hf => ?_, fun h hf => ?_, fun h => ?_, fun h => ?_, fun h => ?_, ?_, ?_,
    fun hw h => ?_, fun n => ?_⟩
  · have he : s.selTake k.val true [type.val, subch.val, seq.val, if sat then 1 else 0, fage.val, room.val]
        (words.map (·.toNat)) = s.selReceive k.val true type.val subch.val seq.val ((if sat then 1 else 0) != 0) fage.val
        (words.map (·.toNat)) room.val := rfl
    obtain ⟨h1, h2, h3⟩ := selReceive_expected (type := type.val) (subch := subch.val) (fage := fage.val)
      (sat := (if sat then 1 else 0) != 0) k.isLt h hs (words := words.map (·.toNat)) (room := room.val) (by simpa using hw)
    rw [← he] at h1 h2 h3
    refine completes_done (congrArg s.done (selIn_of_disarmed hd ?_)) ⟨get_withQueue.trans h1, get_withQueue.trans h2⟩
    rw [h3, hh]
    rfl
  · obtain ⟨h1, h2, h3⟩ := selAcked_result h hs hi hl
    exact completes_done rfl ⟨by rw [selPort_withQueue, h1], withQueue_regs_but h2, sameBytes_withQueue h3⟩
  · refine completes_done (congrArg s.done ((selNaked_of_live h hs).trans (if_pos rfl))) ⟨?_,
      fun a _ => reg_withQueue.trans reg_setSel, fun a => rd8_withQueue.trans rd8_setSel⟩
    rw [selPort_withQueue, selPort_setSel]
  · have h2 : ¬reason.val = 2 := by omega
    obtain ⟨r1, r2, -, r4, r5⟩ := selResent_result (s := s) (k := k.val) (seq := seq.val) (counted := true)
    have e := (selNaked_of_live h hs).trans ((if_neg h2).trans ((if_pos hr).trans (selAgain_of_some hf fun _ => ht)))
    exact completes_done (congrArg s.done e) ⟨by rw [selPort_withQueue, r1]; rfl, by rw [selPort_withQueue, r2],
      withQueue_regs_but r4, sameBytes_withQueue r5⟩
  · obtain ⟨-, r2, r3, -, r5⟩ := selResent_result (s := s) (k := k.val) (seq := seq) (counted := false)
    have e : exec (.selBusyWaitExpire k) s = s.done (s.selResent k.val seq false) := by
      change execSelBusyWaitExpire k s = _
      unfold execSelBusyWaitExpire
      simp only [hb]
      rw [selAgain_of_some hf (by simp)]
    exact completes_done e ⟨by rw [selPort_withQueue, r2], get_withQueue.trans r3, sameBytes_withQueue r5⟩
  · obtain ⟨f, r, hfr⟩ := List.exists_cons_of_ne_nil ho
    obtain ⟨r1, -, -, r4, r5⟩ := selResent_result (s := s) (k := k.val) (seq := f.1) (counted := true)
    have e : exec (.selAckTimeout k) s = s.done (s.selResent k.val f.1 true) := by
      change execSelAckTimeout k s = _
      unfold execSelAckTimeout
      simp only [hfr]
      rw [if_pos h, selAgain_of_some (selFrom_head hfr) fun _ => ht]
    exact completes_done e ⟨by rw [selPort_withQueue, r1]; rfl, withQueue_regs_but r4, sameBytes_withQueue r5⟩
  · refine completes_done (congrArg s.done (selIdle_last h hi)) ⟨?_, fun a ha => ?_, fun a => ?_⟩
    · rw [selState_withQueue]
      exact get_put_selState
    · exact (reg_withQueue.trans (put_selState_regs a ha)).trans reg_setSel
    · exact (rd8_withQueue.trans rd8_put).trans rd8_setSel
  · obtain ⟨r1, r2, r3⟩ := selActive_result (s := s) (k := k.val) (peer := b.val)
    have e : s.selTs k.val [1, a.val, b.val, c.val, d.val, e.val] sent = s.selActive k.val b.val :=
      selTs_of_trained h rfl h1 h5 hs ha hn
    exact completes_done (congrArg s.done e) ⟨selState_withQueue.trans r1, withQueue_regs_but r2, sameBytes_withQueue r3⟩
  · obtain ⟨r1, r2, r3⟩ := selFail_early hf
    exact completes_done (congrArg s.done (if_pos h)) ⟨selState_withQueue.trans r1, by rw [selPort_withQueue, r2],
      sameBytes_withQueue r3⟩
  · obtain ⟨r1, r2, r3⟩ := selFail_last hf
    exact completes_done (congrArg s.done (if_pos h)) ⟨selState_withQueue.trans r1, get_withQueue.trans r2, sameBytes_withQueue r3⟩
  · obtain ⟨r1, r2, r3⟩ := selRetrain_result (s := s) (k := k.val)
    exact completes_done (congrArg s.done (if_pos h)) ⟨selState_withQueue.trans r1, get_withQueue.trans r2, sameBytes_withQueue r3⟩
  · obtain ⟨r1, r2, r3⟩ := selRetrain_result (s := s) (k := k.val)
    exact completes_done (congrArg s.done (if_pos h)) ⟨selState_withQueue.trans r1, get_withQueue.trans r2, sameBytes_withQueue r3⟩
  · by_cases h0 : s.selState k.val = 0
    · obtain ⟨r1, -, -, r4⟩ := selAlign_result (s := s) (k := k.val)
      exact completes_done (congrArg s.done (if_pos h0)) ⟨selState_withQueue.trans r1, sameBytes_withQueue r4⟩
    · obtain ⟨r1, -, r3⟩ := selRetrain_result (s := s) (k := k.val)
      exact completes_done (congrArg s.done ((if_neg h0).trans (if_pos (h.resolve_left h0))))
        ⟨selState_withQueue.trans r1, sameBytes_withQueue r3⟩
  · obtain ⟨r1, r2, r3, r4, r5⟩ := selEnable_result (s := s) (k := k.val)
    exact completes_done rfl ⟨get_withQueue.trans r1, get_withQueue.trans r2, selState_withQueue.trans r3,
      withQueue_regs_but r4, sameBytes_withQueue r5⟩
  · obtain ⟨r1, r2, r3, r4⟩ := selPost_result (s := s) (k := k.val) (type := 4) (words := [])
    exact completes_done rfl ⟨by rw [selPort_withQueue, r1], by rw [selPort_withQueue, r2], fun a _ => reg_withQueue.trans (r3 a),
      sameBytes_withQueue r4⟩
  · obtain ⟨r1, -, r3, r4⟩ := selAlign_result (s := s.wakeSeen 3 k.val) (k := k.val)
    refine completes_done (congrArg s.done (selWake_of_armed hw h)) ⟨?_, selState_withQueue.trans r1,
      withQueue_regs_but fun a ha => (r3 a ha).trans (reg_congr rfl), sameBytes_withQueue fun a => (r4 a).trans (rd8_congr rfl rfl)⟩
    rw [withQueue_wakes, selAlign_wakes]
    rfl
  · obtain ⟨r1, -, r3, r4⟩ := selPost_result (s := s.selAsked k.val n.val) (k := k.val) (type := 3) (words := s.selWords k.val n.val)
    refine completes_done (congrArg s.done selCommand_eq) ⟨?_, ?_, fun a ha => (reg_withQueue.trans (r3 a)).trans
      (selAsked_regs a ha), fun a => ?_⟩
    · rw [selPort_withQueue, r1]
      exact congrArg (fun x : SelPort => x.out ++ [(x.next, 3, s.selWords k.val n.val)]) selAsked_port
    · rw [get_withQueue, get, r3]
      exact (get_put_self (by simp)).trans (Nat.zero_mod _)
    · exact (rd8_withQueue.trans (r4 a)).trans (rd8_put.trans rd8_put)

end Sys2Proof.Machine.State
end

section
set_option Elab.async false
/-! PROOFS. The registers that a failed copy, a bad burst and a retired page change (R422 to R425). -/

namespace Sys2Proof.Machine.State

variable {B : Nat → Prop} {s s₀ t : State} {q d off a : Nat}

/-- The registers outside the DRAM controllers. -/
def notDdr (a : Nat) : Prop := a < 0x1050000 ∨ 0x1060000 ≤ a

theorem notDdr_of_write (h : writeRegs a) : notDdr a := by
  simp only [writeRegs, injectRegs, Reg.DBG_INJ_STAT, Reg.DBG_INJ_DONE, Reg.FLT_LOG_LOST, Reg.SEC_SIG_STAT] at h
  simp only [notDdr]
  omega

theorem notDdr_log : notDdr Reg.FLT_LOG_LOST := .inr (by decide)

section
set_option Elab.async false
variable (hB : ∀ a, notDdr a → B a)
include hB

theorem ne_ddr_log : B Reg.FLT_LOG_LOST := hB _ notDdr_log

theorem stageAbandon_ddr {p ch : Nat} (h : RegsBut B s₀ s) : RegsBut B s₀ (s.stageAbandon p ch) := by
  unfold stageAbandon
  extract_lets n key v d half x
  have hx : RegsBut B s₀ x := wrBytes_regsBut (fun a ha => hB a (notDdr_of_write ha)) h
  clear_value x v
  exact hx.congr (onDelivery_regs.trans onStreams_regs)

theorem copyOutcome_ddr (h : RegsBut B s₀ s) : RegsBut B s₀ (s.copyOutcome q d) := by
  have hl := ne_ddr_log hB
  unfold copyOutcome
  split
  · exact keeps_ite (log_regsBut hl h) h
  · exact log_regsBut hl h
  · exact h
  · exact keeps_ite (stageAbandon_ddr hB (log_regsBut hl h)) (log_regsBut hl h)

theorem str_notDdr {o : Nat} (hq : q < 16) (ho : o < 0x1000) : B (0x1040000 + o + 0x1000 * q) := hB _ (.inl (by omega))

theorem strLevel_ddr (hq : q < 16) (h : RegsBut B s₀ s) : RegsBut B s₀ (s.strLevel q) := by
  have h1 : B (Reg.STR_BUF_LEVEL q) := str_notDdr hB (o := 0x8) hq (by decide)
  have h2 : B (Reg.STR_STATUS q) := str_notDdr hB (o := 0x4) hq (by decide)
  unfold strLevel
  exact put_regsBut h2 (put_regsBut h1 (put_regsBut h1 h))

theorem copyEnd_ddr (hq : q < 16) (h : RegsBut B s₀ s) : RegsBut B s₀ (s.copyEnd q d) := strLevel_ddr hB hq (h.congr rfl)

theorem edgeReport_ddr {suspect : Nat} (h : RegsBut B s₀ s) : RegsBut B s₀ (s.fileReport edgeNode suspect) :=
  h.trans (fileReport_regsBut.mono fun a ha => hB a (by rw [ha]; exact .inl (by decide)))

theorem copyStreak_ddr (h : RegsBut B s₀ s) : RegsBut B s₀ (s.copyStreak q) := by
  unfold copyStreak
  extract_lets v t n f x
  have hx : RegsBut B s₀ x := h.congr rfl
  exact keeps_ite (edgeReport_ddr hB hx) hx

theorem copyFail_ddr (hq : q < 16) (h : RegsBut B s₀ s) : RegsBut B s₀ (s.copyFail q d) := by
  have h1 : B (Reg.STR_FAILED q) := str_notDdr hB (o := 0x18) hq (by decide)
  have h2 : B (Reg.STR_STATUS q) := str_notDdr hB (o := 0x4) hq (by decide)
  have h3 : ∀ p n, B (Reg.SCM_CH_STAT p n) := fun p n => hB _ (.inr (by simp only [Reg.SCM_CH_STAT, podBase]; omega))
  unfold copyFail
  refine keeps_ite h ?_
  extract_lets x
  have hx : RegsBut B s₀ x := raise_regsBut (put_regsBut h2 (count_regsBut h1 h))
  refine copyStreak_ddr hB (copyEnd_ddr hB hq (copyOutcome_ddr hB ?_))
  have hy : ∀ p n, RegsBut B s₀ ((x.put (Reg.SCM_CH_STAT_PENDING p n) 0).put (Reg.SCM_CH_STAT_FAILED p n) 1) := fun p n =>
    put_regsBut (h3 p n) (put_regsBut (h3 p n) hx)
  exact (hy _ _).congr rfl

end

/-! A subchannel is retired (R425). -/

/-- What the retirement of a subchannel leaves of the controllers. -/
theorem subRetire_regsBut (hq : q < 16) (hB : ∀ a, notDdr a → B a) (hs : B (Reg.DDR_SUB_STAT (q / 4) (q % 4)))
    (h : RegsBut B s₀ s) : RegsBut B s₀ (s.subRetire q) := by
  unfold subRetire
  refine keeps_ite h ?_
  extract_lets x mine y
  have hx : RegsBut B s₀ x := put_regsBut hs h
  have hy : RegsBut B s₀ y := keeps_foldl_mem _ hx fun z hz c hc => copyFail_ddr hB (by
    have := (List.mem_filter.1 hc).2
    simp only [decide_eq_true_eq] at this
    omega) hz
  exact log_regsBut (ne_ddr_log hB) (put_regsBut (str_notDdr hB (o := 0) hq (by decide)) hy)

/-- A subchannel that is not retired yet, with its copies failed. -/
def subStopped (s : State) (q : Nat) : State :=
  (s.streams.copies.filter fun c => c.engine = q).foldl (fun s c => s.copyFail c.engine c.desc)
    (s.put (Reg.DDR_SUB_STAT_RETIRED (q / 4) (q % 4)) 1)

theorem subRetire_of_live (h : s.subRetired q = false) :
    s.subRetire q = ((s.subStopped q).put (Reg.STR_CTRL_EN q) 0).log .ddr (q / 4) 0x2206 srcManager :=
  if_neg (by rw [h]; decide)

theorem subStopped_regsBut (hq : q < 16) :
    RegsBut notDdr (s.put (Reg.DDR_SUB_STAT_RETIRED (q / 4) (q % 4)) 1) (s.subStopped q) :=
  keeps_foldl_mem (P := RegsBut notDdr _) _ .refl fun z hz c hc => copyFail_ddr (fun _ h => h) (by
    have := (List.mem_filter.1 hc).2
    simp only [decide_eq_true_eq] at this
    omega) hz

theorem ddr_sub_bounds {u i : Nat} (hu : u < 4) (hi : i < 4) : ¬notDdr (Reg.DDR_SUB_STAT u i) := by
  simp only [notDdr, Reg.DDR_SUB_STAT]
  omega

theorem subRetire_result (hq : q < 16) (h : s.subRetired q = false) :
    (s.subRetire q).subRetired q = true ∧ (s.subRetire q).get (Reg.STR_CTRL_EN q) = 0 := by
  have hu : q / 4 < 4 := by omega
  have hi : q % 4 < 4 := Nat.mod_lt _ (by decide)
  have hn := ddr_sub_bounds hu hi
  rw [subRetire_of_live h]
  constructor
  · refine flag_eq_true.2 ?_
    rw [get_log, get_put_addr, (subStopped_regsBut hq).get hn, get_put_self (by simp)]
    · exact one_ne_zero
    · simp only [Reg.DDR_SUB_STAT, Reg.STR_CTRL]
      omega
    · simp only [Reg.DDR_SUB_STAT, Reg.FLT_LOG_LOST]
      omega
  · rw [get_log, get_put_self (by simp)]
    · exact Nat.zero_mod _
    · simp only [Reg.STR_CTRL, Reg.FLT_LOG_LOST]
      omega

/-! A page is retired (R424). -/

/-- The registers of DRAM that a bad burst may change besides its count: the spare table and the state of its subchannel. -/
def pageRegs (q a : Nat) : Prop := notDdr a ∨ a = Reg.DDR_SUB_STAT (q / 4) (q % 4) ∨
  (0x1051000 ≤ a - 0x4000 * (q / 4) ∧ a - 0x4000 * (q / 4) < 0x1052000)

theorem pageRetire_regsBut {page : Nat} (hq : q < 16) (hB : ∀ a, pageRegs q a → B a) (h : RegsBut B s₀ s) :
    RegsBut B s₀ (s.pageRetire q page) := by
  have hn : ∀ a, notDdr a → B a := fun a ha => hB a (.inl ha)
  have hs : B (Reg.DDR_SUB_STAT (q / 4) (q % 4)) := hB _ (.inr (.inl rfl))
  unfold pageRetire
  extract_lets u i e x
  refine keeps_ite h ?_
  by_cases he : e < 256
  · rw [if_pos he]
    have hp : B (Reg.DDR_SPARE u (256 * i + e)) := hB _ (.inr (.inr (by
      have hi : i < 4 := Nat.mod_lt _ (by decide)
      simp only [Reg.DDR_SPARE, u]
      omega)))
    exact (put_regsBut hs (put_regsBut (f := ⟨Reg.DDR_SPARE u (256 * i + e), 31, 1⟩) hp
      (put_regsBut (f := ⟨Reg.DDR_SPARE u (256 * i + e), 0, 22⟩) hp h))).congr rfl
  · rw [if_neg he]
    exact subRetire_regsBut hq hn hs (edgeReport_ddr hn (log_regsBut (ne_ddr_log hn) h))

/-! A burst is read again (R422, R423). -/

theorem dramAt_lt (h : s.dramAt a = some (q, off)) : q < 16 := by
  unfold dramAt at h
  split at h
  · cases h
  · dsimp only at h
    split at h
    · cases h
    · next hn =>
      split at h
      · cases h
      · split at h
        · cases h
        · have e := congrArg Prod.fst (Option.some.inj h)
          simp only at e
          have hl : (a - dramBase) / 2 ^ 30 % s.liveSubs.length < s.liveSubs.length := Nat.mod_lt _ (Nat.pos_of_ne_zero hn)
          rw [List.getD_eq_getElem _ _ hl] at e
          have hm : q ∈ s.liveSubs := e ▸ List.getElem_mem _
          exact List.mem_range.1 (List.mem_filter.1 hm).1

/-- The registers of the DRAM controllers that a burst may change. -/
def burstRegs (a : Nat) : Prop := notDdr a ∨ 0x100 ≤ (a - 0x1050000) % 0x4000

theorem pageRegs_burstRegs (h : pageRegs q a) : burstRegs a := by
  simp only [pageRegs, burstRegs, notDdr, Reg.DDR_SUB_STAT] at h ⊢
  omega

end Sys2Proof.Machine.State
end

section
set_option Elab.async false
/-! PROOFS. O44: the commands of the memories (R407 to R409, R422 to R428). -/

namespace Sys2Proof.Machine.State

variable {B : Nat → Prop} {s s₀ t : State} {q d off a : Nat}

/-! A burst is read (R422, R423). -/

theorem dramLast_regsBut (hq : q < 16) : RegsBut burstRegs s (s.dramLast q off) :=
  put64_regsBut (.inr (by simp only [Reg.DDR_SUB_LAST_LO]; omega)) (.inr (by simp only [Reg.DDR_SUB_LAST_LO]; omega)) .refl

theorem burstRetry_regsBut {again : Burst} (hq : q < 16) : RegsBut burstRegs s (s.burstRetry q off again).1 := by
  have hl : burstRegs Reg.FLT_LOG_LOST := .inl notDdr_log
  have h1 : burstRegs (Reg.DDR_SUB_UE (q / 4) (q % 4)) := .inr (by simp only [Reg.DDR_SUB_UE]; omega)
  have h2 : burstRegs (Reg.DDR_SUB_RETRY (q / 4) (q % 4)) := .inr (by simp only [Reg.DDR_SUB_RETRY]; omega)
  have hd : RegsBut burstRegs s (s.dramLast q off) := dramLast_regsBut hq
  unfold burstRetry
  split
  · exact pageRetire_regsBut hq (fun _ => pageRegs_burstRegs) (edgeReport_ddr (fun _ h => .inl h) (log_regsBut hl (count_regsBut h1 hd)))
  · exact log_regsBut hl (count_regsBut h2 hd)

theorem burstFixed_regsBut {dev : Option (Fin 5)} (hq : q < 16) : RegsBut burstRegs s (s.burstFixed q off dev) := by
  have hl : burstRegs Reg.FLT_LOG_LOST := .inl notDdr_log
  have h1 : burstRegs (Reg.DDR_SUB_CE (q / 4) (q % 4)) := .inr (by simp only [Reg.DDR_SUB_CE]; omega)
  have h2 : burstRegs (Reg.DDR_SUB_DEVCORR (q / 4) (q % 4)) := .inr (by simp only [Reg.DDR_SUB_DEVCORR]; omega)
  have h3 : burstRegs (Reg.DDR_SUB_STAT (q / 4) (q % 4)) := .inr (by simp only [Reg.DDR_SUB_STAT]; omega)
  unfold burstFixed
  extract_lets u i x
  have hx : RegsBut burstRegs s x := logOnceBy_regsBut hl ((count_regsBut h1 .refl).trans (dramLast_regsBut hq))
  split
  · exact put_regsBut h3 (count_regsBut h2 hx)
  · exact hx

theorem burstRead_regsBut {first again : Burst} : RegsBut burstRegs s (s.burstRead a first again).1 := by
  unfold burstRead
  split
  · exact .refl
  · next q off h =>
    have hq := dramAt_lt h
    split
    · exact .refl
    · split
      · exact burstRetry_regsBut hq
      · split
        · exact .refl
        · exact burstFixed_regsBut hq
        · exact burstRetry_regsBut hq

theorem slices_burstRead {first again : Burst} : (s.burstRead a first again).1.slices = s.slices := by
  have h := burstRead_regsBut (s := s) (a := a) (first := first) (again := again)
  have hn : ¬burstRegs (Reg.DDR_CTRL 0) := by
    simp only [burstRegs, notDdr, Reg.DDR_CTRL]
    omega
  rw [slices, slices, h.get hn, h.get hn]

/-- An uncorrectable burst, before what it does to its page (R423). -/
def burstLost (s : State) (q off : Nat) : State :=
  (((s.dramLast q off).count (Reg.DDR_SUB_UE_COUNT (q / 4) (q % 4))).log .ddr (q / 4) 0x2203 srcManager).subReport q

theorem burstRetry_lost : s.burstRetry q off .uncorrectable = ((s.burstLost q off).pageRetire q (off / 8192), true) := rfl

theorem ddr_sub_apart {u i : Nat} : Reg.DDR_SUB_UE u i ≠ Reg.DDR_SUB_LAST_LO u i ∧
    Reg.DDR_SUB_UE u i ≠ Reg.DDR_SUB_LAST_LO u i + 4 ∧ Reg.DDR_SUB_RETRY u i ≠ Reg.DDR_SUB_LAST_LO u i ∧
    Reg.DDR_SUB_RETRY u i ≠ Reg.DDR_SUB_LAST_LO u i + 4 := by
  simp only [Reg.DDR_SUB_UE, Reg.DDR_SUB_LAST_LO, Reg.DDR_SUB_RETRY]
  omega

theorem burstRetry_ue (hq : q < 16) : (s.burstRetry q off .uncorrectable).1.get (Reg.DDR_SUB_UE_COUNT (q / 4) (q % 4)) =
    satInc (Reg.DDR_SUB_UE_COUNT (q / 4) (q % 4)).len (s.get (Reg.DDR_SUB_UE_COUNT (q / 4) (q % 4))) 1 := by
  have hl : Reg.DDR_SUB_UE (q / 4) (q % 4) ≠ Reg.FLT_LOG_LOST := by
    simp only [Reg.DDR_SUB_UE, Reg.FLT_LOG_LOST]
    omega
  have hp : ¬pageRegs q (Reg.DDR_SUB_UE (q / 4) (q % 4)) := by
    simp only [pageRegs, notDdr, Reg.DDR_SUB_UE, Reg.DDR_SUB_STAT]
    omega
  have he : Reg.DDR_SUB_UE (q / 4) (q % 4) ≠ fltStat edgeNode := by
    simp only [Reg.DDR_SUB_UE, fltStat, edgeNode, lt_irrefl, if_false, Reg.ROOT_SYNC_FLT_STAT]
    omega
  obtain ⟨h1, h2, -, -⟩ := ddr_sub_apart (u := q / 4) (i := q % 4)
  rw [burstRetry_lost, (pageRetire_regsBut (B := pageRegs q) hq (fun _ h => h) .refl).get hp, burstLost, subReport,
    fileReport_regsBut.get he, get_log hl, get_count_self (by simp), dramLast, get_put64_addr h1 h2]

theorem burstRead_ue (h : s.dramAt a = some (q, off)) (hr : s.subRetired q = false) :
    (s.burstRead a .uncorrectable .uncorrectable).1.get (Reg.DDR_SUB_UE_COUNT (q / 4) (q % 4)) =
      satInc (Reg.DDR_SUB_UE_COUNT (q / 4) (q % 4)).len (s.get (Reg.DDR_SUB_UE_COUNT (q / 4) (q % 4))) 1 := by
  have e : s.burstRead a .uncorrectable .uncorrectable = s.burstRetry q off .uncorrectable := by
    unfold burstRead
    simp only [h, hr, Bool.false_eq_true, if_false, ite_self]
  rw [e, burstRetry_ue (dramAt_lt h)]

theorem burstRead_cleared (h : s.dramAt a = some (q, off)) (hr : s.subRetired q = false) (hp : s.poisoned a = false) :
    (s.burstRead a .uncorrectable .clean).1 =
      ((s.dramLast q off).count (Reg.DDR_SUB_RETRY_COUNT (q / 4) (q % 4))).log .ddr (q / 4) 0x2202 srcManager := by
  unfold burstRead
  simp only [h, hr, hp, Bool.false_eq_true, if_false]
  rfl

theorem burst_cleared_result :
    let t := ((s.dramLast q off).count (Reg.DDR_SUB_RETRY_COUNT (q / 4) (q % 4))).log .ddr (q / 4) 0x2202 srcManager
    t.get (Reg.DDR_SUB_RETRY_COUNT (q / 4) (q % 4)) =
        satInc (Reg.DDR_SUB_RETRY_COUNT (q / 4) (q % 4)).len (s.get (Reg.DDR_SUB_RETRY_COUNT (q / 4) (q % 4))) 1 ∧
      t.get64 (Reg.DDR_SUB_LAST_LO (q / 4) (q % 4)) = off % 2 ^ 64 ∧ s.sameBytes t := by
  have hl : Reg.DDR_SUB_RETRY (q / 4) (q % 4) ≠ Reg.FLT_LOG_LOST := by
    simp only [Reg.DDR_SUB_RETRY, Reg.FLT_LOG_LOST]
    omega
  have hr : RegsBut (fun a => a = Reg.DDR_SUB_RETRY (q / 4) (q % 4) ∨ a = Reg.FLT_LOG_LOST) (s.dramLast q off)
      (((s.dramLast q off).count (Reg.DDR_SUB_RETRY_COUNT (q / 4) (q % 4))).log .ddr (q / 4) 0x2202 srcManager) :=
    log_regsBut (.inr rfl) (count_regsBut (.inl rfl) .refl)
  obtain ⟨-, -, h1, h2⟩ := ddr_sub_apart (u := q / 4) (i := q % 4)
  refine ⟨?_, ?_, fun b => rd8_log.trans (rd8_count.trans rd8_put64)⟩
  · rw [get_log hl, get_count_self (by simp), dramLast, get_put64_addr h1 h2]
  · rw [hr.get64, dramLast, get64_put64]
    · rintro (e | e)
      · exact h1 e.symm
      · simp only [Reg.DDR_SUB_LAST_LO, Reg.FLT_LOG_LOST] at e
        omega
    · rintro (e | e)
      · exact h2 e.symm
      · simp only [Reg.DDR_SUB_LAST_LO, Reg.FLT_LOG_LOST] at e
        omega

/-! Scrubbing of SRAM (R409). -/

theorem scrubRow_result {x : Site} {b : Nat} {e : Ecc} (hb : b < banksOf x) (h : s.scrubOn x = true) :
    (s.scrubRow x b e).scrubRead x b = s.scrubRead x b + 1 ∧ s.sameBytes (s.scrubRow x b e) := by
  refine ⟨?_, SameBut.sameBytes (scrubRow_sameBut (F := [.regs, .events, .once, .objs, .fault, .memories]) (by decide) .refl) rfl rfl⟩
  have hgo : ¬((decide (banksOf x ≤ b) || !s.scrubOn x) = true) := by
    rw [h]
    simpa using hb
  unfold scrubRow
  rw [if_neg hgo]
  extract_lets n before y z
  have hz : z.scrubRead x b = n + 1 := by
    change (y.memories.scrubRows.put (64 * siteKey x + b) (n + 1)).at (64 * siteKey x + b) = n + 1
    rw [Nums.at_put, if_pos rfl]
  clear_value z
  have hc : ∀ f, (z.count f).scrubRead x b = z.scrubRead x b := fun f => by rw [scrubRead, scrubRead, count_memories]
  split
  · exact hz
  · split
    · rw [hc, hz]
    · rw [hc, hz]
    · exact hz

/-! The copy of a page (R424). -/

theorem pageCopied_of_found {bad : List (Fin 128)} {page e : Nat}
    (h : (s.memories.copies.find? fun c => c.1 = q) = some (q, page, e)) : s.pageCopied q bad =
      (s.onMemories fun m => { m with
        copies := m.copies.filter fun c => c ≠ (q, page, e)
        poison := m.poison ++ (bad.map fun b => s.dramAddr q (8192 * page + 64 * b.val)).filter fun a => !s.poisoned a }).log .ddr
          (q / 4) 0x2204 srcManager := by
  unfold pageCopied
  rw [h]

theorem dramAddr_burst {page : Nat} {b : Fin 128} :
    s.dramAddr q (8192 * page + 64 * b.val) / 64 * 64 = s.dramAddr q (8192 * page + 64 * b.val) := by
  unfold dramAddr
  generalize (8192 * page + 64 * b.val) / 2 ^ 30 * s.liveSubs.length + s.liveSubs.idxOf q = x
  simp only [dramBase]
  omega

theorem pageCopied_poisons {bad : List (Fin 128)} {page e : Nat} {b : Fin 128}
    (h : (s.memories.copies.find? fun c => c.1 = q) = some (q, page, e)) (hb : b ∈ bad) :
    (s.pageCopied q bad).poisoned (s.dramAddr q (8192 * page + 64 * b.val)) = true := by
  rw [pageCopied_of_found h, poisoned, log_memories, onMemories_memories, List.contains_iff_mem, dramAddr_burst]
  by_cases hp : s.poisoned (s.dramAddr q (8192 * page + 64 * b.val)) = true
  · rw [poisoned, List.contains_iff_mem, dramAddr_burst] at hp
    exact List.mem_append_left _ hp
  · exact List.mem_append_right _ (List.mem_filter.2 ⟨List.mem_map.2 ⟨b, hb, rfl⟩, by simpa using hp⟩)

/-! The map (R426). -/

/-- A sum of distinct powers of 2, and its bits. -/
theorem mask_bits {p : Nat → Bool} (n : Nat) :
    (((List.range n).filter p).foldl (fun m q => m + 2 ^ q) 0) < 2 ^ n ∧
      ∀ q < n, (((List.range n).filter p).foldl (fun m q => m + 2 ^ q) 0).testBit q = p q := by
  induction n with
  | zero => exact ⟨Nat.one_pos, fun q hq => absurd hq (Nat.not_lt_zero q)⟩
  | succ n ih =>
    obtain ⟨hlt, hbit⟩ := ih
    rw [List.range_succ, List.filter_append, List.foldl_append]
    generalize ((List.range n).filter p).foldl (fun m q => m + 2 ^ q) 0 = m at hlt hbit ⊢
    by_cases hp : p n = true
    · rw [List.filter_cons_of_pos hp]
      change m + 2 ^ n < _ ∧ ∀ q < n + 1, (m + 2 ^ n).testBit q = p q
      refine ⟨by rw [pow_succ]; omega, fun q hq => ?_⟩
      rw [Nat.add_comm]
      by_cases e : q = n
      · rw [e, Nat.testBit_two_pow_add_eq, Nat.testBit_lt_two_pow hlt, hp]
        rfl
      · rw [Nat.testBit_two_pow_add_gt (by omega), hbit q (by omega)]
    · rw [List.filter_cons_of_neg hp]
      change m < _ ∧ ∀ q < n + 1, m.testBit q = p q
      refine ⟨by rw [pow_succ]; omega, fun q hq => ?_⟩
      by_cases e : q = n
      · rw [e, Nat.testBit_lt_two_pow hlt]
        simpa using hp
      · exact hbit q (by omega)

/-- The subchannels of a map that is formed anew. -/
def newSubs (s : State) : List Nat := s.liveSubs.filter fun q => !s.subRetired q

/-- The registers of a map that is formed anew. -/
def remapped (s : State) : State :=
  (s.put (Reg.DDR_MAP_STAT_LIVE 0) (s.newSubs.foldl (fun m q => m + 2 ^ q) 0)).put (Reg.DDR_MAP_STAT_SLICES 0)
    (s.newSubs.length * s.slices)

theorem mapReform_eq (hr : s.running = false) (hq : ∀ q, q < 16 → s.flag (Reg.STR_CTRL_EN q) = false) :
    ∃ x : State, x.regs = s.remapped.regs ∧ s.mapReform = x.log .ddr 0 0x2207 srcManager := by
  have hgo : ¬((s.running || (List.range 16).any fun q => s.flag (Reg.STR_CTRL_EN q)) = true) := by
    rw [hr]
    simpa using hq
  unfold mapReform
  rw [if_neg hgo]
  extract_lets old new mask x u m y
  refine ⟨y, ?_, rfl⟩
  have hx : x = s.remapped := rfl
  clear_value x
  subst hx
  simp only [y]
  split <;> rfl

theorem newSubs_bits {n : Nat} (hn : n < 16) : bits (s.newSubs.foldl (fun m q => m + 2 ^ q) 0) n 1 =
    if n ∈ s.newSubs then 1 else 0 := by
  have h := (mask_bits (p := fun q => decide (bits (s.get (Reg.DDR_MAP_STAT_LIVE 0)) q 1 = 1) && !s.subRetired q) 16).2 n hn
  have e : s.newSubs = (List.range 16).filter fun q => decide (bits (s.get (Reg.DDR_MAP_STAT_LIVE 0)) q 1 = 1) && !s.subRetired q := by
    rw [newSubs, liveSubs, List.filter_filter]
    exact List.filter_congr fun q _ => Bool.and_comm _ _
  have hm : (n ∈ s.newSubs) ↔ (decide (bits (s.get (Reg.DDR_MAP_STAT_LIVE 0)) n 1 = 1) && !s.subRetired n) = true := by
    rw [e, List.mem_filter, List.mem_range]
    exact and_iff_right hn
  rw [← e] at h
  generalize s.newSubs.foldl (fun m q => m + 2 ^ q) 0 = m at h ⊢
  have hb : bits m n 1 = (m.testBit n).toNat := by
    rw [bits, Nat.testBit_eq_decide_div_mod_eq, Nat.shiftRight_eq_div_pow]
    generalize m / 2 ^ n = w
    rcases Nat.mod_two_eq_zero_or_one w with hw | hw <;> simp [hw]
  rw [hb, h]
  by_cases hp : n ∈ s.newSubs
  · rw [if_pos hp, hm.1 hp]
    rfl
  · rw [if_neg hp, Bool.eq_false_iff.2 (fun e => hp (hm.2 e))]
    rfl

theorem newSubs_mask_lt : s.newSubs.foldl (fun m q => m + 2 ^ q) 0 < 2 ^ 16 := by
  have e : s.newSubs = (List.range 16).filter fun q => decide (bits (s.get (Reg.DDR_MAP_STAT_LIVE 0)) q 1 = 1) && !s.subRetired q := by
    rw [newSubs, liveSubs, List.filter_filter]
    exact List.filter_congr fun q _ => Bool.and_comm _ _
  rw [e]
  exact (mask_bits 16).1

theorem remapped_liveSubs : s.remapped.liveSubs = s.newSubs := by
  have hg : s.remapped.get (Reg.DDR_MAP_STAT_LIVE 0) = s.newSubs.foldl (fun m q => m + 2 ^ q) 0 := by
    rw [remapped, get_put_clear (.inl (by decide)), get_put_self (by decide)]
    exact Nat.mod_eq_of_lt newSubs_mask_lt
  have hsub : s.newSubs = (List.range 16).filter fun q => q ∈ s.newSubs := by
    rw [newSubs, liveSubs, List.filter_filter]
    refine List.filter_congr fun q hq => ?_
    simp only [List.mem_filter, hq, true_and]
    rw [Bool.eq_iff_iff]
    simp
  rw [liveSubs, hg]
  refine Eq.trans (List.filter_congr fun q hq => ?_) hsub.symm
  rw [newSubs_bits (List.mem_range.1 hq)]
  by_cases h : q ∈ s.newSubs <;> simp [h]

theorem remapped_regs : RegsBut (fun a => a = Reg.DDR_MAP_STAT 0) s s.remapped := put_regsBut rfl (put_regsBut rfl .refl)

theorem mapReform_result (hr : s.running = false) (hq : ∀ q, q < 16 → s.flag (Reg.STR_CTRL_EN q) = false) :
    s.mapReform.liveSubs = s.liveSubs.filter (fun q => !s.subRetired q) ∧
      s.sameRegs s.mapReform [Reg.DDR_MAP_STAT 0, Reg.FLT_LOG_LOST] := by
  obtain ⟨x, hx, e⟩ := mapReform_eq hr hq
  rw [e]
  refine ⟨?_, fun a ha => ?_⟩
  · change _ = s.newSubs
    rw [← remapped_liveSubs, liveSubs, liveSubs, get_log (by decide), get_congr hx]
  · simp only [List.mem_cons, List.not_mem_nil, or_false, not_or] at ha
    rw [reg_log, if_neg fun h => ha.2 h.1, reg_congr hx, remapped_regs a ha.1]

/-! Patrol, full scrub and fill (R427, R428). -/

/-- The patrol's read of its next burst, which it leaves to the copy of a page that is being retired. -/
def patrolled (s : State) (q : Nat) (x y : Burst) : State :=
  if (s.memories.copies.any fun c => c.1 = q && c.2.1 = s.memories.patrol.at q / 128) = true then s
  else (s.burstRead (s.dramAddr q (64 * s.memories.patrol.at q)) x y).1

theorem patrolled_subBursts {x y : Burst} : (s.patrolled q x y).subBursts = s.subBursts := by
  unfold patrolled
  split
  · rfl
  · rw [subBursts, subBursts, slices_burstRead]

theorem patrolRead_of_live {x y : Burst} (h : s.subReadable q = true) (he : s.flag (Reg.DDR_SCRUB_CFG_EN (q / 4)) = true)
    (hb : s.flag (Reg.DDR_MT_STAT_BUSY (q / 4)) = false) (hn : s.memories.patrol.at q + 1 < s.subBursts) :
    s.patrolRead q x y = (s.patrolled q x y).onMemories fun m =>
      { m with patrol := m.patrol.put q (s.memories.patrol.at q + 1) } := by
  have hgo : ¬((!(s.subReadable q && s.flag (Reg.DDR_SCRUB_CFG_EN (q / 4))) || s.flag (Reg.DDR_MT_STAT_BUSY (q / 4))) = true) := by
    rw [h, he, hb]
    decide
  rw [← patrolled_subBursts (x := x) (y := y)] at hn
  exact (if_neg hgo).trans (if_pos hn)

theorem patrolRead_result {x y : Burst} (h : s.subReadable q = true) (he : s.flag (Reg.DDR_SCRUB_CFG_EN (q / 4)) = true)
    (hb : s.flag (Reg.DDR_MT_STAT_BUSY (q / 4)) = false) (hn : s.memories.patrol.at q + 1 < s.subBursts) :
    (s.patrolRead q x y).memories.patrol.at q = s.memories.patrol.at q + 1 := by
  rw [patrolRead_of_live h he hb hn, onMemories_memories]
  generalize s.patrolled q x y = z
  change (z.memories.patrol.put q (s.memories.patrol.at q + 1)).at q = _
  rw [Nums.at_put, if_pos rfl]

theorem fullRead_result {x y : Burst} (hb : s.busy 5 = true) (h : s.scrubSubs.contains q = true)
    (hn : s.memories.full.at q < s.subBursts) : (s.fullRead q x y).memories.full.at q = s.memories.full.at q + 1 := by
  have hgo : ¬((!(s.busy 5 && s.scrubSubs.contains q && decide (s.memories.full.at q < s.subBursts))) = true) := by
    rw [hb, h]
    simpa using hn
  unfold fullRead
  rw [if_neg hgo]
  extract_lets moving z w
  have hw : w.memories.full.at q = s.memories.full.at q + 1 := by
    change (z.memories.full.put q (s.memories.full.at q + 1)).at q = _
    rw [Nums.at_put, if_pos rfl]
  clear_value w
  split
  · rw [progEnd]
    exact hw
  · exact hw

theorem fillGranule_result (h : s.filling = true) : s.fillGranule.memories.fillNext = s.memories.fillNext + 1 ∧
    s.sameBytes s.fillGranule := by
  refine ⟨?_, SameBut.sameBytes (fillGranule_sameBut (F := [.regs, .events, .memories]) (by decide) .refl) rfl rfl⟩
  have hgo : ¬((!s.filling) = true) := by simpa using h
  unfold fillGranule
  rw [if_neg hgo]
  extract_lets n z
  have hz : z.memories.fillNext = n := rfl
  clear_value z
  split
  · exact hz
  · rw [log_memories]
    exact keeps_foldl (P := fun x : State => x.memories.fillNext = n) _ hz fun x hx u => by rw [put_memories, hx]

/-- A full scrub that begins (R427). -/
theorem fullStart_of_free {quad : Option (Fin 4)} (h : s.busy 5 = false) : ∃ f n, s.fullStart quad = (s.onMemories f).progStart 5 n ∧
    (f s.memories).lost = s.memories.lost := by
  unfold fullStart
  rw [if_neg (by rw [h]; decide)]
  exact ⟨_, _, rfl, rfl⟩

theorem prog_setProg {n : Nat} {p : Progress} : (s.setProg n p).prog n = p := Sparse.find_store_self

theorem rd8_onMemories {f : Memories → Memories} (h : (f s.memories).lost = s.memories.lost) :
    (s.onMemories f).rd8 a = s.rd8 a := by
  have hv : (s.onMemories f).veil a = s.veil a := by
    unfold veil
    rw [onMemories_memories, h]
  exact congrArg (Sparse.find 0 s.mem a ^^^ ·) hv

theorem prog_withQueue {l : List Instr} {n : Nat} : (s.withQueue l).prog n = s.prog n := (rfl)

/-- Settles O44: no scrub changes a byte, an error has its count, and the map keeps the subchannels that are not retired. -/
theorem memoryCommandsComplete : Obligations.MemoryCommandsComplete := by
  unfold Obligations.MemoryCommandsComplete
  intro s
  refine ⟨fun x b e hb h => ?_, fun a q off h hr hp => ?_, fun a q off h hr => ?_, fun q bad page e h => ?_, fun q h => ?_,
    fun hr hq => ?_, fun q a b h he hb hn => ?_, fun quad h => ?_, fun h => ?_, fun q a b hb h hn => ?_, fun h => ?_⟩
  · obtain ⟨h1, h2⟩ := scrubRow_result (e := e) hb h
    exact completes_done rfl ⟨(congrArg (fun m : Memories => m.scrubRows.at _) withQueue_memories).trans h1, sameBytes_withQueue h2⟩
  · obtain ⟨h1, h2, h3⟩ := burst_cleared_result (s := s) (q := q) (off := off)
    refine completes_done (congrArg s.done (burstRead_cleared h hr hp)) ⟨get_withQueue.trans h1, ?_, sameBytes_withQueue h3⟩
    rw [get64_withQueue, h2]
  · exact completes_done rfl (get_withQueue.trans (burstRead_ue h hr))
  · refine completes_done rfl ⟨?_, fun b hb => ?_, fun a ha => ?_, sameBytes_withQueue ?_⟩
    · rw [withQueue_memories, pageCopied_of_found h, log_memories, onMemories_memories]
      simp
    · rw [← pageCopied_poisons h hb, poisoned, poisoned, withQueue_memories]
    · rw [reg_withQueue, pageCopied_regsBut (B := fun a => a ∈ [Reg.FLT_LOG_LOST]) (by simp) .refl a ha]
    · exact SameBut.sameBytes (pageCopied_sameBut (F := [.regs, .events, .memories]) (by decide) .refl) rfl rfl
  · obtain ⟨h1, h2⟩ := subRetire_result q.isLt h
    exact completes_done rfl ⟨flag_withQueue.trans h1, get_withQueue.trans h2⟩
  · obtain ⟨h1, h2⟩ := mapReform_result hr hq
    refine completes_done rfl ⟨?_, withQueue_regs_but h2⟩
    rw [← h1, liveSubs, liveSubs, get_withQueue]
  · refine completes_done rfl ?_
    rw [withQueue_memories, patrolRead_result h he hb hn]
  · obtain ⟨f, n, e, hf⟩ := fullStart_of_free (quad := quad) h
    refine completes_done (congrArg s.done e) ⟨?_, ?_, fun a _ => ?_, fun a => ?_⟩
    · rw [busy, prog_withQueue, progStart, prog_setProg]
      rfl
    · rw [prog_withQueue, progStart, prog_setProg]
    · rw [reg_withQueue, progStart, reg_setProg]
      exact reg_congr rfl
    · rw [rd8_withQueue, progStart, rd8_setProg, rd8_onMemories hf]
  · refine completes_done (congrArg s.done (if_pos h)) ⟨?_, ?_, fun a _ => ?_, fun a => ?_⟩
    · rw [prog_withQueue, progEnd, prog_setProg]
    · rw [prog_withQueue, progEnd, prog_setProg]
    · rw [reg_withQueue, progEnd, reg_setProg]
    · rw [rd8_withQueue, progEnd, rd8_setProg]
  · refine completes_done rfl ?_
    rw [withQueue_memories, fullRead_result hb h hn]
  · obtain ⟨h1, h2⟩ := fillGranule_result h
    refine completes_done rfl ⟨?_, sameBytes_withQueue h2⟩
    rw [withQueue_memories, h1]

end Sys2Proof.Machine.State
end

section
set_option Elab.async false
/-! PROOFS. The sync tree: arrivals, releases and memberships (R381 to R384). -/

namespace Sys2Proof.Machine.State

variable {s t : State} {n m c k off : Nat}

/-! The registers of a node (R394, R395). -/

theorem nodeReg_inj {off' : Nat} (ho : off < 0x400) (ho' : off' < 0x400) (h : nodeReg n off = nodeReg m off')
    (hn : n < 1153) (hm : m < 1153) : n = m ∧ off = off' := by
  simp only [nodeReg, tileBase] at h
  split at h <;> split at h <;> omega

theorem nodeReg_wait {a : Nat} (ho : off < 0x400) (h : waitRegs m a) : a ≠ nodeReg n off := by
  obtain ⟨hlo, hhi⟩ := h
  simp only [nodeReg, tileBase] at hlo hhi ⊢
  split <;> omega

theorem ctxBit_addr : (ctxBit n off c).addr = nodeReg n (off + 4 * (c / 32)) := rfl

theorem ctxBit_width : (ctxBit n off c).lo + (ctxBit n off c).len ≤ 32 := by
  simp only [ctxBit]
  omega

/-- A bit of a context that is written. -/
theorem flag_put_ctxBit {v : Nat} (hv : v < 2) : (s.put (ctxBit n off c) v).flag (ctxBit n off c) = decide (v = 1) := by
  rw [flag, get_put_self ctxBit_width]
  have h : v % 2 ^ (ctxBit n off c).len = v := Nat.mod_eq_of_lt hv
  rw [h]
  obtain rfl | rfl : v = 0 ∨ v = 1 := by omega
  · rfl
  · rfl

theorem nodeCfgErr_regs : RegsBut (fun a => a = nodeReg n 4) s (s.nodeCfgErr n) :=
  raise_regsBut (put_regsBut (f := ⟨nodeReg n 4, 0, 1⟩) rfl .refl)

/-! Arrivals (R381). -/

/-- A node that arrives, before its wait is declared. -/
def arrived (s : State) (n c : Nat) : State :=
  (s.redLanes c).foldl (fun s l => { s with fault := { s.fault with
    latched := s.fault.latched.put (16 * n + l) (s.reg (nodeReg n (0x40 + 4 * l))).toNat } }) s

theorem arrived_regs : (s.arrived n c).regs = s.regs :=
  keeps_foldl (P := fun x : State => x.regs = s.regs) _ rfl fun _ hx _ => hx

theorem arrive_of_member (hm : s.barMember n c = true) (hp : s.barPending n c = false) : s.arrive n c =
    if n < 1152 then ((s.put (ctxBit n 0x28 c) 1).arrived n c).setWait n 3 0 c 0 else (s.put (ctxBit n 0x28 c) 1).arrived n c := by
  have h1 : ¬((!s.barMember n c) = true) := by rw [hm]; decide
  have h2 : ¬(s.barPending n c = true) := by rw [hp]; decide
  exact (if_neg h1).trans (if_neg h2)

theorem arrive_result (hc : c < 64) (hm : s.barMember n c = true) (hp : s.barPending n c = false) :
    (s.arrive n c).barPending n c = true ∧ s.sameBytes (s.arrive n c) := by
  refine ⟨?_, SameBut.sameBytes (arrive_sameBut (F := [.regs, .mesh, .fault, .sent]) (by decide) .refl) rfl rfl⟩
  have ha : ((s.put (ctxBit n 0x28 c) 1).arrived n c).flag (ctxBit n 0x28 c) = true := by
    rw [flag_congr (get_congr arrived_regs), flag_put_ctxBit (by decide)]
    rfl
  rw [arrive_of_member hm hp, barPending]
  split
  · next h =>
    rw [(setWait_regsBut (B := waitRegs n) (fun _ h => h) .refl).flag fun hw => nodeReg_wait (by omega) hw rfl, ha]
  · exact ha

/-! Releases (R381). -/

/-- A fold reaches what its step for one element brings about, where the others keep what that step needs and brings. -/
theorem foldl_reaches_mem {P Q : State → Prop} {f : State → Nat → State} {l : List Nat} (hn : n ∈ l) (h : P s)
    (hk : ∀ x m, m ∈ l → m ≠ n → P x → P (f x m)) (ht : ∀ x, P x → Q (f x n)) (hq : ∀ x m, m ∈ l → Q x → Q (f x m)) :
    Q (l.foldl f s) := by
  induction l generalizing s with
  | nil => cases hn
  | cons m r ih =>
    by_cases e : m = n
    · rw [e]
      exact keeps_foldl_mem r (ht s h) fun x hx a ha => hq x a (List.mem_cons_of_mem _ ha) hx
    · exact ih ((List.mem_cons.1 hn).resolve_left (Ne.symm e)) (hk s m List.mem_cons_self e h)
        (fun x a ha => hk x a (List.mem_cons_of_mem _ ha)) fun x a ha => hq x a (List.mem_cons_of_mem _ ha)

/-- The registers of a node's context bits and of its wait. -/
def nodeSide (m c a : Nat) : Prop :=
  a = nodeReg m (0x20 + 4 * (c / 32)) ∨ a = nodeReg m (0x28 + 4 * (c / 32)) ∨ (m < 1152 ∧ waitRegs m a)

/-- A member's release, before its wait ends. -/
def freed (s : State) (c m : Nat) : State :=
  (s.put (ctxBit m 0x20 c) (1 - s.get (ctxBit m 0x20 c))).put (ctxBit m 0x28 c) 0

theorem releaseNode_after : RegsBut (fun a => m < 1152 ∧ waitRegs m a) (if s.barMember m c = true then s.freed c m else s)
    (s.releaseNode c m) := by
  unfold releaseNode
  by_cases h : s.barMember m c = true
  · have h1 : ¬((!s.barMember m c) = true) := by rw [h]; decide
    rw [if_neg h1, if_pos h]
    extract_lets pend x y
    have hy : RegsBut (fun a => m < 1152 ∧ waitRegs m a) (s.freed c m) y := keeps_ite (raise_regsBut .refl) .refl
    by_cases hp : (pend && decide (m < 1152)) = true
    · have hm : m < 1152 := by
        rw [Bool.and_eq_true, decide_eq_true_eq] at hp
        exact hp.2
      rw [if_pos hp]
      exact keeps_ite (setWait_regsBut (fun a ha => ⟨hm, ha⟩) hy) hy
    · rw [if_neg hp]
      exact hy
  · have h1 : (!s.barMember m c) = true := by simpa using h
    rw [if_pos h1, if_neg h]
    exact .refl

theorem releaseNode_regs : RegsBut (nodeSide m c) s (s.releaseNode c m) := by
  refine RegsBut.trans ?_ (releaseNode_after.mono fun a h => .inr (.inr h))
  exact keeps_ite (put_regsBut (.inr (.inl rfl)) (put_regsBut (.inl rfl) .refl)) .refl

/-- A release leaves the membership of every node, and no new arrival. -/
theorem releaseNode_keeps (hn : n < 1153) (hm : m < 1153) (hc : c < 64) :
    (s.releaseNode c m).barMember n c = s.barMember n c ∧
      (s.barPending n c = false → (s.releaseNode c m).barPending n c = false) ∧
      (m = n → s.barMember n c = true → (s.releaseNode c m).barPending n c = false) := by
  have hfree : ∀ x : State, (x.freed c n).barPending n c = false := fun x => by
    rw [barPending, freed, flag_put_ctxBit (by decide)]
    rfl
  have hw : ¬(n < 1152 ∧ waitRegs n (ctxBit n 0x28 c).addr) := fun ⟨h, h'⟩ => nodeReg_wait (by omega) h' rfl
  refine ⟨releaseNode_regs.flag ?_, fun h => ?_, ?_⟩
  · rintro (e | e | ⟨e, e'⟩)
    · have := (nodeReg_inj (by omega) (by omega) e hn hm).2
      omega
    · have := (nodeReg_inj (by omega) (by omega) e hn hm).2
      omega
    · exact nodeReg_wait (by omega) e' rfl
  · by_cases e : m = n
    · subst e
      rw [barPending, releaseNode_after.flag hw]
      split
      · exact hfree s
      · exact h
    · rw [barPending, releaseNode_regs.flag]
      · exact h
      · rintro (e' | e' | ⟨h', e'⟩)
        · exact e (nodeReg_inj (by omega) (by omega) e' hn hm).1.symm
        · exact e (nodeReg_inj (by omega) (by omega) e' hn hm).1.symm
        · exact nodeReg_wait (by omega) e' rfl
  · rintro rfl hb
    rw [barPending, releaseNode_after.flag hw, if_pos hb]
    exact hfree s

theorem barRelease_of_complete (h : s.barComplete c = true) : ∃ (r : List (Nat × Nat)) (x : State) (cyc : Nat),
    (∀ e ∈ r, e.1 < 16) ∧ cyc ≤ 24 ∧
    x = nodes.foldl (fun s n => s.releaseNode c n) (nodes.foldl (fun s n => r.foldl (fun s x =>
      s.setReg (nodeReg n (0x80 + 4 * x.1)) (BitVec.ofNat 32 x.2)) s) s) ∧
    s.barRelease c = ((x.useFree).put Reg.SYNC_BAR_LAST_CYC_CYCLES cyc).setObj 0x2901 4 cyc := by
  have h1 : ¬((!s.barComplete c) = true) := by rw [h]; decide
  refine ⟨(s.redLanes c).map fun l => (l, s.redResult c l), _, _, fun e he => ?_, Nat.min_le_left _ _, rfl, if_neg h1⟩
  obtain ⟨l, hl, rfl⟩ := List.mem_map.1 he
  exact List.mem_range.1 (List.mem_filter.1 hl).1

/-- The results of the lanes stand apart from the members and the arrivals. -/
theorem results_regs {r : List (Nat × Nat)} (hr : ∀ e ∈ r, e.1 < 16) :
    RegsBut (fun a => ∃ m < 1153, ∃ o, 0x80 ≤ o ∧ o < 0xC0 ∧ a = nodeReg m o) s (nodes.foldl (fun s n => r.foldl (fun s x =>
      s.setReg (nodeReg n (0x80 + 4 * x.1)) (BitVec.ofNat 32 x.2)) s) s) :=
  keeps_foldl_mem _ .refl fun y hy m hm => keeps_foldl_mem _ hy fun z hz e he =>
    setReg_regsBut ⟨m, List.mem_range.1 hm, 0x80 + 4 * e.1, by omega, by have := hr e he; omega, rfl⟩ hz

theorem barRelease_result (hc : c < 64) (h : s.barComplete c = true) :
    (∀ n < 1153, s.barMember n c = true → (s.barRelease c).barPending n c = false) ∧
      (s.barRelease c).get Reg.SYNC_BAR_LAST_CYC_CYCLES ≤ 24 ∧ s.sameBytes (s.barRelease c) := by
  obtain ⟨r, x, cyc, hr, hcyc, hx, e⟩ := barRelease_of_complete h
  refine ⟨fun n hn hm => ?_, ?_,
    SameBut.sameBytes (barRelease_sameBut (F := [.regs, .freeCount, .mesh, .objs, .sent]) (by decide) .refl) rfl rfl⟩
  · have hs := (results_regs (s := s) hr).flag (f := ctxBit n 0x10 c) (by
      rintro ⟨m, hm, o, h1, h2, h3⟩
      have := (nodeReg_inj (by omega) (by omega) h3 hn hm).2
      omega)
    have hp : x.barPending n c = false := by
      rw [hx]
      refine foldl_reaches_mem (P := fun y : State => y.barMember n c = true) (Q := fun y : State => y.barPending n c = false)
        (List.mem_range.2 hn) (hs.trans hm) (fun y m hmem _ hy => ?_) (fun y hy => (releaseNode_keeps hn hn hc).2.2 rfl hy)
        fun y m hmem => (releaseNode_keeps hn (List.mem_range.1 hmem) hc).2.1
      exact (releaseNode_keeps hn (List.mem_range.1 hmem) hc).1.trans hy
    have ha : (ctxBit n 0x28 c).addr ≠ Reg.SYNC_BAR_LAST_CYC := by
      rw [ctxBit_addr, nodeReg]
      simp only [tileBase, Reg.SYNC_BAR_LAST_CYC]
      split <;> omega
    rw [e, barPending, flag, get_congr (t := ((x.useFree).put Reg.SYNC_BAR_LAST_CYC_CYCLES cyc).setObj 0x2901 4 cyc)
      (s := (x.useFree).put Reg.SYNC_BAR_LAST_CYC_CYCLES cyc) rfl, get_put_addr ha]
    exact hp
  · rw [e, get_congr (t := ((x.useFree).put Reg.SYNC_BAR_LAST_CYC_CYCLES cyc).setObj 0x2901 4 cyc)
      (s := (x.useFree).put Reg.SYNC_BAR_LAST_CYC_CYCLES cyc) rfl, get_put_self (by decide)]
    exact (Nat.mod_le _ _).trans hcyc

/-! Memberships and reductions (R382, R384). -/

/-- A write of a membership register, where a bit whose context waits keeps its value (R382). -/
theorem memberWrite_result {hi : Bool} {v : Word} :
    (s.memberWrite n hi v).reg (nodeReg n (0x10 + if hi then 4 else 0)) =
        (v &&& ~~~ s.reg (nodeReg n (0x28 + if hi then 4 else 0))) |||
        (s.reg (nodeReg n (0x10 + if hi then 4 else 0)) &&& s.reg (nodeReg n (0x28 + if hi then 4 else 0))) ∧
      s.sameRegs (s.memberWrite n hi v) [nodeReg n (0x10 + if hi then 4 else 0), nodeReg n 4] ∧
      s.sameBytes (s.memberWrite n hi v) := by
  unfold memberWrite
  extract_lets k old pend x
  have hne : nodeReg n (0x10 + k) ≠ nodeReg n 4 := by
    simp only [nodeReg]
    split <;> omega
  have hx : x.reg (nodeReg n (0x10 + k)) = (v &&& ~~~ pend) ||| (old &&& pend) := by
    rw [show x = s.setReg (nodeReg n (0x10 + k)) ((v &&& ~~~ pend) ||| (old &&& pend)) from rfl, reg_setReg, if_pos rfl]
  have hr : RegsBut (fun a => a = nodeReg n (0x10 + k)) s x := setReg_regsBut rfl .refl
  have hb : s.sameBytes x := fun _ => rd8_congr rfl rfl
  clear_value x
  split
  · refine ⟨(nodeCfgErr_regs _ hne).trans hx, fun a ha => ?_, fun a => ?_⟩
    · simp only [List.mem_cons, List.not_mem_nil, or_false, not_or] at ha
      exact (nodeCfgErr_regs a ha.2).trans (hr a ha.1)
    · rw [nodeCfgErr, SameBut.sameBytes (raise_sameBut (F := [.sent]) (by decide) .refl) rfl rfl, rd8_put, hb]
  · refine ⟨hx, fun a ha => hr a ?_, hb⟩
    simp only [List.mem_cons, List.not_mem_nil, or_false, not_or] at ha
    exact ha.1

/-- A write of a lane's configuration, which reaches every node (R384). -/
theorem redCfgWrite_result {l : Nat} {v : Word} (h : ∀ n, n < 1153 → ∀ c, c < 64 → s.barPending n c = false) :
    (s.redCfgWrite l v).reg (Reg.SYNC_ROOT_RED_CFG l) =
      writeFields ((RegMap.rowOf (Reg.SYNC_ROOT_RED_CFG l)).map (·.fields) |>.getD []) (fun _ => true)
        (s.reg (Reg.SYNC_ROOT_RED_CFG l)) v := by
  unfold redCfgWrite
  extract_lets a w
  have hgo : ¬((nodes.any fun n => s.barPending n (getF (s.reg a) 8 6) || s.barPending n (getF w 8 6)) = true) := by
    simp only [List.any_eq_true, not_exists, not_and, List.mem_range]
    intro n hn
    rw [h n hn _ getF_lt, h n hn _ getF_lt]
    decide
  rw [if_neg hgo]
  refine keeps_foldl (P := fun x : State => x.reg a = w) _ ?_ fun x hx n => ?_
  · rw [reg_setReg, if_pos rfl]
  · rw [reg_setReg]
    split
    · rfl
    · exact hx

end Sys2Proof.Machine.State
end

section
set_option Elab.async false
/-! PROOFS. O35: the sync tree and the fault block (R381 to R388, R689 to R695). -/

namespace Sys2Proof.Machine.State

variable {s t : State} {n m x c k : Nat}

/-! Reports (R386, R388). -/

theorem fileReport_of_room (hh : s.fault.hist.at n = []) (hp : (s.fault.pend.at n).length < 4) : ∃ h v, s.fileReport n x =
    ({ s with fault := { s.fault with pend := s.fault.pend.push n x, hist := h } } : State).put ⟨fltStat n, 0, 3⟩ v := by
  have h1 : ¬(([] : List (Nat × Nat)).any (fun e => e.1 = x && s.stepNum < e.2 + 1024) = true) := by simp
  unfold fileReport
  rw [hh]
  dsimp only
  rw [if_neg h1, if_neg (by omega)]
  exact ⟨_, _, rfl⟩

theorem fileReport_pend (hh : s.fault.hist.at n = []) (hp : (s.fault.pend.at n).length < 4) :
    (s.fileReport n x).fault.pend.at n = s.fault.pend.at n ++ [x] := by
  obtain ⟨h, v, e⟩ := fileReport_of_room (x := x) hh hp
  rw [e, put_fault]
  change (s.fault.pend.put n (s.fault.pend.at n ++ [x])).at n = _
  rw [Lists.at_put, if_pos rfl]

/-- The reporters of a wave's suspect let it go (R388). -/
def waved (s : State) (x : Nat) : State :=
  ((s.fault.pend.filter fun e => e.2.contains x).map (·.1)).foldl (fun s h =>
    ({ s with fault := { s.fault with pend := s.fault.pend.put h ((s.fault.pend.at h).filter (· != x)) } } : State).put
      ⟨fltStat h, 0, 3⟩ ((s.fault.pend.at h).filter (· != x)).length) s

theorem waved_keeps : (s.waved x).fault.queue = s.fault.queue ∧ (s.waved x).stepNum = s.stepNum := by
  refine keeps_foldl (P := fun y : State => y.fault.queue = s.fault.queue ∧ y.stepNum = s.stepNum) _ ⟨rfl, rfl⟩ fun y hy h => ?_
  refine ⟨(congrArg Faults.queue put_fault).trans hy.1, (stepNum_put ?_ ?_).trans hy.2⟩
  · simp only [fltStat, Reg.STEP_NUM_LO, Reg.SYNC_FLT_STAT, Reg.ROOT_SYNC_FLT_STAT, tileBase]
    split <;> omega
  · simp only [fltStat, Reg.STEP_NUM_LO, Reg.SYNC_FLT_STAT, Reg.ROOT_SYNC_FLT_STAT, tileBase]
    split <;> omega

theorem fltShow_fault : s.fltShow.fault = s.fault := (fltShow_sameBut (F := [.regs]) (by decide) .refl).eq (f := State.fault) fun _ => rfl

theorem faultWave_first (h : (s.fault.pend.flatMap fun e => e.2).min? = some x) (hq : s.fault.queue = []) :
    s.faultWave.fault.queue = [(x, (s.fault.pend.filter fun e => e.2.contains x).length, s.stepNum)] := by
  have e : s.faultWave = (let y := s.waved x
      let q := y.fault.queue
      let n := ((s.fault.pend.filter fun e => e.2.contains x).map (·.1)).length
      if q.any fun (e : Nat × Nat × Nat) => e.1 = x && e.2.2 = y.stepNum then
        ({ y with fault := { y.fault with queue := q.map fun (e : Nat × Nat × Nat) =>
          if e.1 = x ∧ e.2.2 = y.stepNum then (e.1, e.2.1 + n, e.2.2) else e } } : State).fltShow
      else if 16 ≤ q.length then
        ((y.put Reg.SYNC_FLT_QLEVEL_OVF 1).log .sync 0 0x3402 srcManager x n).countObj 32 0x2901 3
      else ({ y with fault := { y.fault with queue := q ++ [(x, n, y.stepNum)], reports := y.fault.reports + 1 } } : State).fltShow) := by
    unfold faultWave
    rw [h]
    rfl
  obtain ⟨h1, h2⟩ := waved_keeps (s := s) (x := x)
  rw [e]
  dsimp only
  rw [h1, hq, h2, if_neg (by simp), if_neg (by simp), fltShow_fault, List.length_map]
  rfl

theorem reportTake_of_cons {tm : Nat} {rest : List (Nat × Nat × Nat)} (h : s.fault.queue = (x, n, tm) :: rest) :
    ∃ (y : State) (v : Nat), s.reportTake = (((y.put Reg.FLT_RPT_SUSPECT_ID x).put Reg.FLT_RPT_COUNT_COUNT n).put
      Reg.FLT_RPT_STEP_STEP (tm % 2 ^ 32)).put Reg.FLT_RPT_VERDICT_V v := by
  unfold reportTake
  rw [h]
  exact ⟨_, _, rfl⟩

/-! Links and tiles (R689, R693). -/

theorem not_mem_filter_ne {l : List Nat} : (l.filter (· != k)).contains k = false := by
  simp

theorem retrainDone_result {r p : Nat} {ok : Bool} (h : s.fault.retraining.contains (4 * r + p) = true) :
    (s.retrainDone r p ok).fault.retraining.contains (4 * r + p) = false := by
  have h1 : ¬((!s.fault.retraining.contains (4 * r + p)) = true) := by rw [h]; decide
  unfold retrainDone
  rw [if_neg h1]
  generalize s.reach _ = y
  dsimp only
  split
  · rw [log_fault, (linkRaise_sameBut (F := [.regs]) (by decide) .refl).eq (f := State.fault) fun _ => rfl, onFault_fault]
    exact not_mem_filter_ne
  · rw [linkRetire, onFault_fault]
    exact not_mem_filter_ne

theorem tile_stat_apart : Reg.FLT_TILE_STAT n ≠ fltStat n := by
  simp only [Reg.FLT_TILE_STAT, fltStat, Reg.SYNC_FLT_STAT, Reg.ROOT_SYNC_FLT_STAT, tileBase]
  split <;> omega

/-- A tile that is reported lost. -/
theorem lost_regs {s₀ : State} (h : RegsBut (fun a => a = Reg.FLT_TILE_STAT n) s₀ s) :
    s₀.sameRegs (s.fileReport n x) [Reg.FLT_TILE_STAT n, fltStat n] := fun a ha => by
  simp only [List.mem_cons, List.not_mem_nil, or_false, not_or] at ha
  rw [fileReport_regsBut a ha.2, h a ha.1]

theorem get_lost {f : RF} (h : f.addr = Reg.FLT_TILE_STAT n) : (s.fileReport n x).get f = s.get f :=
  fileReport_regsBut.get (by rw [h]; exact tile_stat_apart)

/-! Fences (R695). -/

theorem fence_word_apart {w t : Nat} (hw : w < 36) : Reg.FLT_FENCE w ≠ Reg.EVM_STATUS t ∧ Reg.FLT_FENCE w ≠ Reg.FLT_TILE_STAT t := by
  simp only [Reg.FLT_FENCE, Reg.EVM_STATUS, Reg.FLT_TILE_STAT, tileBase]
  omega

theorem get_fence_word {w i v : Nat} (hw : w < 36) (hi : i < 32) (hv : v < 2) (hk : k < 32) :
    (s.fence (32 * w + i) v).get ⟨Reg.FLT_FENCE w, k, 1⟩ = if k = i then v else s.get ⟨Reg.FLT_FENCE w, k, 1⟩ := by
  have h1 : (32 * w + i) / 32 = w := by omega
  have h2 : (32 * w + i) % 32 = i := by omega
  rw [fence, get_put_addr (fence_word_apart hw).1, get_put_addr (fence_word_apart hw).2, h1, h2]
  split
  · next e =>
    subst e
    rw [get_put_self (by simp only; omega)]
    exact Nat.mod_eq_of_lt hv
  · exact get_put_clear (by simp only; omega)

theorem toNat_injective {a b : Bool} (h : a.toNat = b.toNat) : a = b := by
  cases a <;> cases b
  · rfl
  · cases h
  · cases h
  · rfl

/-- A step of the write of a fence word: the bit of a tile, and the event of a fence by firmware. -/
def fenceOne (w : Nat) (v : Word) (s : State) (i : Nat) : State :=
  if v.getLsbD i then (s.fence (32 * w + i) 1).log .flt 0 0x4236 (32 * w + i) else s.fence (32 * w + i) 0

theorem fenceWrite_of_allowed {w : Nat} {v : Word} (h : ∀ i, i < 32 → (s.reg (Reg.FLT_FENCE w)).getLsbD i ≠ v.getLsbD i →
      if v.getLsbD i then s.isLogical (32 * w + i) = true
      else s.running = false ∧ s.fault.retired.contains (32 * w + i) = false) :
    s.fenceWrite w v = ((List.range 32).filter fun i => (s.reg (Reg.FLT_FENCE w)).getLsbD i != v.getLsbD i).foldl
      (fenceOne w v) s := by
  unfold fenceWrite
  extract_lets old changed allowed
  have ha : allowed = true := by
    refine List.all_eq_true.2 fun i hi => ?_
    obtain ⟨hi, hc⟩ := List.mem_filter.1 hi
    have hc : (s.reg (Reg.FLT_FENCE w)).getLsbD i ≠ v.getLsbD i := by simpa using hc
    have hx := h i (List.mem_range.1 hi) hc
    by_cases hv : v.getLsbD i = true
    · rw [if_pos hv] at hx ⊢
      exact hx
    · rw [if_neg hv] at hx ⊢
      rw [hx.1, hx.2]
      rfl
  have hgo : ¬((!allowed) = true) := by rw [ha]; decide
  exact if_neg hgo

theorem bit_fenceOne {w i : Nat} {v : Word} (hw : w < 36) (hi : i < 32) (hk : k < 32) :
    (fenceOne w v s i).get ⟨Reg.FLT_FENCE w, k, 1⟩ =
      if k = i then (v.getLsbD i).toNat else s.get ⟨Reg.FLT_FENCE w, k, 1⟩ := by
  have hl : Reg.FLT_FENCE w ≠ Reg.FLT_LOG_LOST := by
    simp only [Reg.FLT_FENCE, Reg.FLT_LOG_LOST]
    omega
  unfold fenceOne
  cases hv : v.getLsbD i
  · rw [if_neg (by decide), get_fence_word hw hi (by decide) hk]
    rfl
  · rw [if_pos rfl, get_log hl, get_fence_word hw hi (by decide) hk]
    rfl

theorem fenceWrite_word {w : Nat} {v : Word} (hw : w < 36) (h : ∀ i, i < 32 →
      (s.reg (Reg.FLT_FENCE w)).getLsbD i ≠ v.getLsbD i → if v.getLsbD i then s.isLogical (32 * w + i) = true
      else s.running = false ∧ s.fault.retired.contains (32 * w + i) = false) :
    (s.fenceWrite w v).reg (Reg.FLT_FENCE w) = v := by
  rw [fenceWrite_of_allowed h]
  generalize hl : ((List.range 32).filter fun i => (s.reg (Reg.FLT_FENCE w)).getLsbD i != v.getLsbD i) = l
  have hm : ∀ i, i ∈ l ↔ i < 32 ∧ (s.reg (Reg.FLT_FENCE w)).getLsbD i ≠ v.getLsbD i := fun i => by
    rw [← hl, List.mem_filter, List.mem_range]
    simp
  refine BitVec.eq_of_getLsbD_eq fun k hk => ?_
  have key : (l.foldl (fenceOne w v) s).get ⟨Reg.FLT_FENCE w, k, 1⟩ = (v.getLsbD k).toNat := by
    have hq : ∀ (y : State) i, i ∈ l → y.get ⟨Reg.FLT_FENCE w, k, 1⟩ = (v.getLsbD k).toNat →
        (fenceOne w v y i).get ⟨Reg.FLT_FENCE w, k, 1⟩ = (v.getLsbD k).toNat := fun y i hi hy => by
      rw [bit_fenceOne hw ((hm i).1 hi).1 hk]
      split
      · next e => rw [e]
      · exact hy
    by_cases hc : k ∈ l
    · refine foldl_reaches_mem (P := fun _ => True) (Q := fun y : State => y.get ⟨Reg.FLT_FENCE w, k, 1⟩ = (v.getLsbD k).toNat)
        hc trivial (fun _ _ _ _ _ => trivial) (fun y _ => ?_) hq
      rw [bit_fenceOne hw hk hk, if_pos rfl]
    · refine keeps_foldl_mem (P := fun y : State => y.get ⟨Reg.FLT_FENCE w, k, 1⟩ = (v.getLsbD k).toNat) _ ?_ fun y hy i hi => hq y i hi hy
      rw [get, getF_bit]
      congr 1
      by_contra hne
      exact hc ((hm k).2 ⟨hk, hne⟩)
  rw [get, getF_bit] at key
  exact toNat_injective key

theorem fenceWrite_sameBut' {w : Nat} {v : Word} : SameBut [.regs, .events] s (s.fenceWrite w v) :=
  fenceWrite_sameBut (by decide) .refl

/-- Settles O35: the tree's bits stand apart from its results, and a report, a wave and a fence change what they name. -/
theorem treeAndFaultCommandsComplete : Obligations.TreeAndFaultCommandsComplete := by
  unfold Obligations.TreeAndFaultCommandsComplete
  intro s
  refine ⟨fun n c hm hp => ?_, fun c h => ?_, fun n hi v => ?_, fun l v h => ?_, fun n x hx hh hp => ?_, fun x h hq => ?_,
    fun x n tm rest h => ?_, fun r p ok h => ?_, fun n => ?_, fun n e => ?_, fun w v h => ?_⟩
  · obtain ⟨h1, h2⟩ := arrive_result c.isLt hm hp
    exact completes_done rfl ⟨flag_withQueue.trans h1, sameBytes_withQueue h2⟩
  · obtain ⟨h1, h2, h3⟩ := barRelease_result c.isLt h
    exact completes_done rfl ⟨fun n hn => flag_withQueue.trans (h1 n n.isLt hn), by rw [get_withQueue]; exact h2,
      sameBytes_withQueue h3⟩
  · obtain ⟨h1, h2, h3⟩ := memberWrite_result (s := s) (n := n.val) (hi := hi) (v := v)
    exact completes_done rfl ⟨reg_withQueue.trans h1, withQueue_regs_but h2, sameBytes_withQueue h3⟩
  · exact completes_done rfl ⟨reg_withQueue.trans (redCfgWrite_result h),
      sameBytes_withQueue (SameBut.sameBytes (redCfgWrite_sameBut (F := [.regs]) (by decide) .refl) rfl rfl)⟩
  · refine completes_done (congrArg s.done (if_neg hx)) ⟨?_, fun a ha => ?_, fun a => rd8_withQueue.trans rd8_fileReport⟩
    · rw [withQueue_fault, fileReport_pend hh hp]
    · rw [reg_withQueue, fileReport_regsBut a (by simpa using ha)]
  · refine completes_done rfl ⟨?_, sameBytes_withQueue
      (SameBut.sameBytes (faultWave_sameBut (F := [.regs, .events, .objs, .fault]) (by decide) .refl) rfl rfl)⟩
    rw [withQueue_fault, faultWave_first h hq]
  · obtain ⟨y, v, e⟩ := reportTake_of_cons h
    refine completes_done (congrArg s.done e) ⟨?_, ?_, ?_⟩
    · rw [get_withQueue, get_put_addr (by decide), get_put_addr (by decide), get_put_addr (by decide), get_put_self (by decide)]
    · rw [get_withQueue, get_put_addr (by decide), get_put_addr (by decide), get_put_self (by decide)]
    · rw [get_withQueue, get_put_addr (by decide), get_put_self (by decide)]
      exact Nat.mod_mod _ _
  · refine completes_done rfl ?_
    rw [withQueue_fault, retrainDone_result h]
  · refine completes_done rfl ⟨?_, withQueue_regs_but (lost_regs (put_regsBut rfl .refl)), fun a => ?_⟩
    · rw [get_withQueue, heartbeatLost, get_lost rfl, get_put_self (by simp)]
      rfl
    · rw [rd8_withQueue, heartbeatLost, rd8_fileReport, rd8_put]
  · have he : e.val + 1 < 8 := by omega
    refine completes_done rfl ⟨?_, ?_, withQueue_regs_but (lost_regs (put_regsBut rfl (put_regsBut rfl .refl))), fun a => ?_⟩
    · rw [get_withQueue, engineTimeout, get_lost rfl, get_put_clear (.inl (by simp)), get_put_self (by simp)]
      rfl
    · rw [get_withQueue, engineTimeout, get_lost rfl, get_put_self (by simp)]
      exact Nat.mod_eq_of_lt he
    · rw [rd8_withQueue, engineTimeout, rd8_fileReport, rd8_put, rd8_put]
  · exact completes_done rfl ⟨reg_withQueue.trans (fenceWrite_word w.isLt h),
      sameBytes_withQueue (fenceWrite_sameBut'.sameBytes rfl rfl)⟩

end Sys2Proof.Machine.State
end

section
set_option Elab.async false
/-! PROOFS. The audit log, sessions and login (R535 to R551). -/

namespace Sys2Proof.Machine.State

variable {s : State}

/-! An audit entry that is written (R547). -/

/-- An entry: what its loss event may have changed, then its 32 bytes, the count, and the three marks of the log. -/
theorem audit_shape {kind slot role obj status old new : Nat} (h : s.wiping = false) :
    ∃ (u : State) (l : List Byte), l.length = 32 ∧ s.sameBytes u ∧ u.get Reg.SEC_AUDIT_STAT_HELD = s.get Reg.SEC_AUDIT_STAT_HELD ∧
      RegsBut (· ∈ [Reg.SEC_AUDIT_STAT, Reg.FLT_LOG_LOST]) s u ∧
      s.audit kind slot role obj status old new =
        ((((u.wrBytes (auditAt s.sec.appended) l).onSec fun x => { x with appended := s.sec.appended + 1 }).put
          Reg.SEC_AUDIT_HEAD_SEQ s.sec.appended).put Reg.SEC_AUDIT_STAT_HELD
          (min 4096 (s.get Reg.SEC_AUDIT_STAT_HELD + 1))).put Reg.SEC_HUSK_STAT_SEAL_PEND 1 := by
  unfold audit
  rw [if_neg (by simp [h])]
  extract_lets held seq prev body u v w
  have hl : (body ++ takeHash (Config.sha256 (prev ++ body)) 8).length = 32 := by
    simp [body, length_leBytes, takeHash]
  have hc : Reg.SEC_AUDIT_STAT_HELD.addr ≠ Reg.FLT_LOG_LOST := by decide
  have hr : (s.count Reg.SEC_AUDIT_STAT_LOST).get Reg.SEC_AUDIT_STAT_HELD = s.get Reg.SEC_AUDIT_STAT_HELD :=
    get_put_clear (f := Reg.SEC_AUDIT_STAT_LOST) (.inl (by decide))
  have hu1 : s.sameBytes u :=
    SameBut.sameBytes (countObj_sameBut (F := [.regs, .objs]) (by decide) (count_sameBut (by decide) .refl)) rfl rfl
  have hu2 : u.get Reg.SEC_AUDIT_STAT_HELD = s.get Reg.SEC_AUDIT_STAT_HELD := (get_congr rfl).trans hr
  have hu3 : RegsBut (· ∈ [Reg.SEC_AUDIT_STAT, Reg.FLT_LOG_LOST]) s u := RegsBut.congr (count_regsBut (by simp) .refl) rfl
  have hv1 : s.sameBytes v := by
    refine keeps_ite (P := fun v : State => s.sameBytes v) (keeps_ite (P := fun v : State => s.sameBytes v) (fun a => ?_) hu1) fun _ => rfl
    rw [rd8_log, rd8_onSec, hu1 a]
  have hv2 : v.get Reg.SEC_AUDIT_STAT_HELD = s.get Reg.SEC_AUDIT_STAT_HELD := by
    refine keeps_ite (P := fun v : State => v.get Reg.SEC_AUDIT_STAT_HELD = s.get Reg.SEC_AUDIT_STAT_HELD)
      (keeps_ite (P := fun v : State => v.get Reg.SEC_AUDIT_STAT_HELD = s.get Reg.SEC_AUDIT_STAT_HELD) ?_ hu2) rfl
    rw [get_log hc, get_onSec, hu2]
  have hv3 : RegsBut (· ∈ [Reg.SEC_AUDIT_STAT, Reg.FLT_LOG_LOST]) s v :=
    keeps_ite (keeps_ite (log_regsBut (by simp) (onSec_regsBut hu3)) hu3) .refl
  exact ⟨v, _, hl, hv1, hv2, hv3, rfl⟩

/-- What a written entry leaves of the log's marks and of memory (R547). -/
theorem audit_result {kind slot role obj status old new : Nat} (h : s.wiping = false) :
    let t := s.audit kind slot role obj status old new
    t.sec.appended = s.sec.appended + 1 ∧
      t.get Reg.SEC_AUDIT_STAT_HELD = min 4096 (s.get Reg.SEC_AUDIT_STAT_HELD + 1) ∧
      t.get Reg.SEC_HUSK_STAT_SEAL_PEND = 1 ∧ t.get Reg.SEC_HUSK_STAT_WIPING = s.get Reg.SEC_HUSK_STAT_WIPING ∧
      s.sameBytesBut t (auditAt s.sec.appended) 32 := by
  refine ⟨audit_appended h, ?_⟩
  obtain ⟨u, l, hl, hm, -, hr, e⟩ := audit_shape (kind := kind) (slot := slot) (role := role) (obj := obj) (status := status)
    (old := old) (new := new) h
  have hw : RegsBut (fun a => writeRegs a ∨ a ∈ [Reg.SEC_AUDIT_STAT, Reg.FLT_LOG_LOST]) s
      (u.wrBytes (auditAt s.sec.appended) l) :=
    wrBytes_regsBut (fun _ => .inl) (hr.mono fun _ => .inr)
  rw [e]
  refine ⟨?_, get_put_self (by decide), ?_, fun a ha => ?_⟩
  · rw [get_put_addr (by decide), get_put_self (by decide)]
    exact Nat.mod_eq_of_lt (lt_of_le_of_lt (min_le_left _ _) (by decide))
  · rw [get_put_clear (.inl (by decide)), get_put_addr (by decide), get_put_addr (by decide), get_onSec, hw.get]
    simp [writeRegs, injectRegs]
  · rw [rd8_put, rd8_put, rd8_put, rd8_onSec,
      wrBytes_sameBytesBut a (by rwa [hl]), hm a]

theorem audit_wiping {kind slot role obj status old new : Nat} :
    (s.audit kind slot role obj status old new).get Reg.SEC_HUSK_STAT_WIPING = s.get Reg.SEC_HUSK_STAT_WIPING := by
  cases h : s.wiping
  · obtain ⟨-, -, -, hw, -⟩ := audit_result (kind := kind) (slot := slot) (role := role) (obj := obj) (status := status)
      (old := old) (new := new) h
    exact hw
  · rw [audit_of_wiping h]

theorem audit_challenges {kind slot role obj status old new : Nat} :
    (s.audit kind slot role obj status old new).sec.challenges = s.sec.challenges :=
  audit_sec (g := Security.challenges) fun _ _ _ => rfl

/-- What is filtered out by its key is not found by it. -/
theorem find_filter_ne {α : Type} {l : List α} {k : α → Nat} {n : Nat} :
    ((l.filter fun x => k x ≠ n).find? fun x => k x = n) = none := by
  rw [List.find?_eq_none]
  intro x hx
  simpa using (List.mem_filter.1 hx).2

/-! A session (R535, R537). -/

theorem endSession_reg {n : Nat} (hn : n < 8) (h : s.get (Reg.SEC_SESS_VALID n) = 1) :
    (s.endSession n).reg (Reg.SEC_SESS n) = 0 := by
  unfold endSession
  rw [if_neg (by rw [flag, h]; simp), reg_log, if_neg (by simp only [Reg.SEC_SESS, Reg.FLT_LOG_LOST]; omega), reg_setReg,
    if_pos rfl]

theorem endSession_challenges {n : Nat} : (s.endSession n).sec.challenges = s.sec.challenges := by
  unfold endSession
  refine keeps_ite (P := fun z : State => z.sec.challenges = s.sec.challenges) rfl ?_
  rw [log_sec, setReg_sec]
  exact audit_challenges

theorem idleTimeout_reg {n : Nat} (hn : n < 8) (h : s.get (Reg.SEC_SESS_VALID n) = 1) (hh : s.sec.heard.at n ≠ 0) :
    (s.idleTimeout n).reg (Reg.SEC_SESS n) = 0 := by
  obtain ⟨t, ht⟩ := Nat.exists_eq_succ_of_ne_zero hh
  have e : s.idleTimeout n = (s.reach (t + 200000000 * s.get Reg.SEC_IDLE_SECONDS)).endSession n := by
    unfold idleTimeout
    simp only [ht]
    rw [if_pos (by rw [flag, h]; rfl)]
  rw [e]
  refine endSession_reg hn ?_
  rw [get_reach_addr (by simp only [Reg.SEC_SESS, Reg.TB_COUNT_LO]; omega)
    (by simp only [Reg.SEC_SESS, Reg.TB_COUNT_LO]; omega), h]

theorem get_loginStat {t : Status} : (s.loginStat t).get Reg.SEC_LOGIN_STAT_STATUS = t.code % 16 ∧
    (s.loginStat t).get Reg.SEC_LOGIN_STAT_VALID = 1 := by
  unfold loginStat
  exact ⟨by rw [get_put_clear (.inl (by decide)), get_put_self (by decide)]; rfl, get_put_self (by decide)⟩

theorem loginStat_regsBut {t : Status} : RegsBut (· = Reg.SEC_LOGIN_STAT) s (s.loginStat t) :=
  put_regsBut rfl (put_regsBut rfl .refl)

/-- The slot's new session stands (R535). -/
theorem startSession_session {slot role : Nat} (hr : role < 4) :
    (s.startSession slot role).get (Reg.SEC_SESS_ROLE slot) = role ∧
      (s.startSession slot role).get (Reg.SEC_SESS_VALID slot) = 1 := by
  unfold startSession
  refine ⟨?_, ?_⟩
  · rw [get_onSec, get_put_clear (.inl (by simp)), get_put_self (by simp)]
    exact Nat.mod_eq_of_lt hr
  · rw [get_onSec, get_put_self (by simp)]
    rfl

theorem startSession_challenges {slot role : Nat} : (s.startSession slot role).sec.challenges = s.sec.challenges := by
  unfold startSession
  rw [onSec_sec, put_sec, put_sec]
  exact endSession_challenges

end Sys2Proof.Machine.State
end

section
set_option Elab.async false
/-! PROOFS. The security block's commands (R411 to R416, R535 to R551). -/

namespace Sys2Proof.Machine.State

variable {s : State}

/-! A wipe leaves the answer of a login (R415, R540). -/

theorem wipeStart_loginStat {cause : Nat} : (s.wipeStart cause).reg Reg.SEC_LOGIN_STAT = s.reg Reg.SEC_LOGIN_STAT := by
  have hd : ∀ w, huskDefault Reg.SEC_LOGIN_STAT w = w := huskDefault_of_plain (by decide +kernel)
  have ha : ∀ a, auditRegs a → a ≠ Reg.SEC_LOGIN_STAT := by
    rintro a ha rfl
    simp [auditRegs, writeRegs, injectRegs] at ha
  have hg : ∀ a, guardRegs a → a ≠ Reg.SEC_LOGIN_STAT := by
    intro a ha e
    simp only [guardRegs, sinkRegs, inCan, writeRegs, injectRegs, Reg.EGR_GPO_STAT, Reg.EGR_HOST_PTR, Reg.EGR_HOST_DROP,
      Reg.HOST_IRQ_STAT, Reg.DBG_INJ_STAT, Reg.DBG_INJ_DONE, Reg.FLT_LOG_LOST, Reg.SEC_SIG_STAT] at ha
    simp only [Reg.SEC_LOGIN_STAT] at e
    omega
  have hs : RegsBut (· ≠ Reg.SEC_LOGIN_STAT) s s.endSessions := by
    unfold endSessions
    refine keeps_foldl_mem _ .refl fun x hx n hn => endSession_regsBut ha ?_ hx
    have := List.mem_range.1 hn
    simp only [Reg.SEC_SESS, Reg.SEC_LOGIN_STAT]
    omega
  have hb : RegsBut (· ≠ Reg.SEC_LOGIN_STAT) s (s.wipeBegun cause) :=
    put_regsBut (by decide) (put_regsBut (by decide) (put_regsBut (by decide) (put_regsBut (by decide)
      (put_regsBut (by decide) hs))))
  have he : ∀ u : State, RegsBut (· ≠ Reg.SEC_LOGIN_STAT) u (u.wipeErased cause) := fun u => by
    unfold wipeErased
    refine setReg_regsBut (by decide) (setReg_regsBut (by decide) (keeps_foldl _ ?_ fun x hx d =>
      driftClose_regsBut ?_ (by decide) hx))
    · refine huskDefaults_regsBut (fun a h w => not_not.1 h ▸ hd w) ?_
      exact RegsBut.congr (log_regsBut (by decide) (put64_regsBut (by decide) (by decide) (count_regsBut (by decide) .refl))) rfl
    · simp only [Reg.DE_PL_STATUS, podBase, Reg.SEC_LOGIN_STAT]
      omega
  have hc : RegsBut (· ≠ Reg.SEC_LOGIN_STAT) s ((((s.wipeBegun cause).wipeErased cause).put Reg.SEC_HUSK_STAT_SEAL_PEND 0).put
      Reg.SEC_HUSK_STAT_VALID 0) :=
    put_regsBut (by decide) (put_regsBut (by decide) (hb.trans (he _)))
  have h : RegsBut (· ≠ Reg.SEC_LOGIN_STAT) s (s.wipeStart cause) := by
    rw [wipeStart_eq]
    exact guardScan_regsBut hg (hc.congr rfl)
  exact h _ (not_not.2 rfl)

/-- The end of all sessions leaves the register of a slot that held none. -/
theorem endSessions_reg_of_none {n : Nat} (hn : n < 8) (h : s.get (Reg.SEC_SESS_VALID n) = 0) :
    s.endSessions.reg (Reg.SEC_SESS n) = s.reg (Reg.SEC_SESS n) := by
  unfold endSessions
  refine keeps_foldl (P := fun x : State => x.reg (Reg.SEC_SESS n) = s.reg (Reg.SEC_SESS n)) _ rfl fun x hx m => ?_
  by_cases hm : m = n
  · have hv : x.flag (Reg.SEC_SESS_VALID n) = false := by
      have hg : x.get (Reg.SEC_SESS_VALID n) = s.get (Reg.SEC_SESS_VALID n) := by rw [State.get, hx, State.get]
      rw [flag, hg, h]
      rfl
    rw [hm, endSession, hv]
    exact hx
  · have hk : RegsBut (· ≠ Reg.SEC_SESS n) x (x.endSession m) :=
      endSession_regsBut (fun a => sess_ne_auditRegs hn) (by simp only [Reg.SEC_SESS]; omega) .refl
    exact (hk _ (not_not.2 rfl)).trans hx

/-- What the lock and the wipe that may follow a failed response keep of the answer: the slot's session, unless it ended. -/
def LoginKept (slot : Nat) (s t : State) : Prop :=
  t.reg Reg.SEC_LOGIN_STAT = s.reg Reg.SEC_LOGIN_STAT ∧
    (t.get (Reg.SEC_SESS_VALID slot) = 1 → t.reg (Reg.SEC_SESS slot) = s.reg (Reg.SEC_SESS slot)) ∧
    (t.sec.challenges = s.sec.challenges ∨ t.sec.challenges = [])

theorem wipeStart_loginKept {slot cause : Nat} (hs : slot < 8) : LoginKept slot s (s.wipeStart cause) := by
  refine ⟨wipeStart_loginStat, fun h => ?_, .inr (by rw [wipeStart_sec]; rfl)⟩
  rcases wipeStart_sess (s := s) (cause := cause) hs with e | e
  · rw [State.get, e] at h
    cases h
  · rw [wipeStart_sess_eq hs, endSessions_reg_of_none hs e]

/-- The lock of a role, with its entry and event, before the wipe that a setting may ask for (R542). -/
theorem lockout_loginKept {slot role : Nat} (hs : slot < 8) : LoginKept slot s (s.lockout slot role) := by
  unfold lockout
  extract_lets base secs u v w
  have hB : ∀ a, auditRegs a ∨ a = Reg.SEC_LOCK (lockOf role) ∨ a = Reg.FLT_LOG_LOST →
      a ≠ Reg.SEC_LOGIN_STAT ∧ a ≠ Reg.SEC_SESS slot := by
    rintro a (ha | rfl | rfl)
    · refine ⟨?_, sess_ne_auditRegs hs ha⟩
      rintro rfl
      simp [auditRegs, writeRegs, injectRegs] at ha
    · simp only [Reg.SEC_LOCK, Reg.SEC_LOGIN_STAT, Reg.SEC_SESS, lockOf]
      omega
    · simp only [Reg.FLT_LOG_LOST, Reg.SEC_LOGIN_STAT, Reg.SEC_SESS]
      omega
  have hw : RegsBut (fun a => auditRegs a ∨ a = Reg.SEC_LOCK (lockOf role) ∨ a = Reg.FLT_LOG_LOST) s w :=
    log_regsBut (.inr (.inr rfl)) (audit_regsBut (fun _ => .inl) (put_regsBut (.inr (.inl rfl)) (put_regsBut (.inr (.inl rfl))
      (onSec_regsBut .refl))))
  have hc : w.sec.challenges = s.sec.challenges := by
    simp only [w]
    rw [log_sec, audit_challenges]
    simp only [v]
    rw [put_sec, put_sec]
    rfl
  have h1 : w.reg Reg.SEC_LOGIN_STAT = s.reg Reg.SEC_LOGIN_STAT := hw _ fun h => (hB _ h).1 rfl
  have h2 : w.reg (Reg.SEC_SESS slot) = s.reg (Reg.SEC_SESS slot) := hw _ fun h => (hB _ h).2 rfl
  split
  · obtain ⟨k1, k2, k3⟩ := wipeStart_loginKept (s := w) (cause := 4) hs
    exact ⟨k1.trans h1, fun h => (k2 h).trans h2, k3.imp_left fun h => h.trans hc⟩
  · exact ⟨h1, fun _ => h2, .inl hc⟩

/-! A login (R540 to R542). -/

/-- The response that the challenge `c` asks for (R540). -/
def loginExpect (s : State) (slot role : Nat) (c key : List Byte) : List Byte :=
  takeHash (Config.hmac key (c ++ s.serial ++ [BitVec.ofNat 8 slot, BitVec.ofNat 8 role])) 10

/-- The state of a login that found the response right. -/
def loginPassed (s : State) (slot role : Nat) : State :=
  (((((s.startSession slot role).put (Reg.SEC_LOCK_FAILS (lockOf role)) 0).audit 2 slot role role 0 0 0).loginStat .ok).log
    .sec 0 0x6101 srcManager role)

/-- The state of a login that found it wrong, before a lock. -/
def loginFailed (s : State) (slot role : Nat) : State :=
  let s := s.count (Reg.SEC_LOCK_FAILS (lockOf role))
  ((s.audit 2 slot (s.slotRole slot) role 6 0 0).loginStat .refused).log .sec 0 0x6102 srcManager role

/-- A challenge that stands is compared, and is used up (R540). -/
theorem loginVerify_of_challenge {slot role : Nat} {x : Nat × Nat × List Byte × Nat} {key : List Byte} (hr : role ≠ 0)
    (hw : s.wiping = false) (hl : s.get (Reg.SEC_LOCK_LOCKED (role - 1)) = 0)
    (hx : (s.sec.challenges.find? fun y => y.1 = slot && y.2.1 = role) = some x) (ht : s.now ≤ x.2.2.2 + 12000000000)
    (hk : s.roleKey role = some key) :
    let u := (s.touchSlot slot).dropChallenge slot
    s.loginVerify slot role =
      if s.loginExpect slot role x.2.2.1 key = s.regBytes Reg.SEC_LOGIN_RESP0 10 then u.loginPassed slot role
      else if (u.loginFailed slot role).obj 0x2003 4 ≤ (u.loginFailed slot role).get (Reg.SEC_LOCK_FAILS (lockOf role)) then
        (u.loginFailed slot role).lockout slot role
      else u.loginFailed slot role := by
  intro u
  have hgo : ¬((decide (role = 0) || (s.touchSlot slot).wiping || (s.touchSlot slot).flag (Reg.SEC_LOCK_LOCKED (lockOf role))) = true) := by
    have h1 : (s.touchSlot slot).wiping = false := (flag_congr get_touchSlot).trans hw
    have h2 : (s.touchSlot slot).flag (Reg.SEC_LOCK_LOCKED (lockOf role)) = false := by
      rw [flag, get_touchSlot, hl]
      rfl
    rw [h1, h2]
    simp [hr]
  have hf : ((s.touchSlot slot).sec.challenges.find? fun y => y.1 = slot && y.2.1 = role &&
      decide ((s.touchSlot slot).now ≤ y.2.2.2 + 12000000000)) = some x := by
    have hn : (s.touchSlot slot).now = s.now := now_congr rfl
    rw [hn]
    obtain ⟨h1, l, r, e, h2⟩ := List.find?_eq_some_iff_append.1 hx
    refine List.find?_eq_some_iff_append.2 ⟨by simp [h1, ht], l, r, e, fun a ha => ?_⟩
    have := h2 a ha
    simp only [Bool.not_eq_eq_eq_not, Bool.not_true] at this ⊢
    rw [this]
    rfl
  have hk' : (s.touchSlot slot).roleKey role = some key := hk
  obtain ⟨x1, x2, c, tm⟩ := x
  unfold loginVerify
  rw [if_neg hgo, hf, hk']
  rfl

end Sys2Proof.Machine.State
end

section
set_option Elab.async false
/-! PROOFS. The security block's commands, as the rules say (R411 to R416, R535 to R551). -/

namespace Sys2Proof.Machine.State

variable {s : State}

/-! What a login leaves (R540 to R542). -/

theorem auditRegs_apart {a : Nat} (h : auditRegs a) : a ≠ Reg.SEC_LOGIN_STAT ∧ ∀ n, n < 3 → a ≠ Reg.SEC_LOCK n := by
  refine ⟨?_, fun n hn e => ?_⟩
  · rintro rfl
    simp [auditRegs, writeRegs, injectRegs] at h
  · simp only [auditRegs, writeRegs, injectRegs, Reg.SEC_AUDIT_STAT, Reg.SEC_AUDIT_HEAD, Reg.SEC_HUSK_STAT,
      Reg.DBG_INJ_STAT, Reg.DBG_INJ_DONE, Reg.FLT_LOG_LOST, Reg.SEC_SIG_STAT] at h
    simp only [Reg.SEC_LOCK] at e
    omega

/-- The entry, the answer and the event of a login leave the registers of sessions and locks. -/
theorem loginAnswered_regsBut {kind slot r role obj status : Nat} {t : Status} {c : Nat} {p : Nat} :
    RegsBut (fun a => auditRegs a ∨ a = Reg.SEC_LOGIN_STAT ∨ a = Reg.FLT_LOG_LOST) s
      (((s.audit kind slot r obj status 0 0).loginStat t).log .sec 0 c srcManager p role) :=
  log_regsBut (.inr (.inr rfl)) ((audit_regsBut (fun _ => .inl) .refl).trans
    (loginStat_regsBut.mono fun _ h => .inr (.inl h)))

theorem loginPassed_result {slot role : Nat} (hs : slot < 8) (hr : role < 4) :
    let t := s.loginPassed slot role
    t.get Reg.SEC_LOGIN_STAT_VALID = 1 ∧ t.sec.challenges = s.sec.challenges ∧ t.get (Reg.SEC_SESS_ROLE slot) = role ∧
      t.get (Reg.SEC_SESS_VALID slot) = 1 ∧ t.get (Reg.SEC_LOCK_FAILS (role - 1)) = 0 ∧
      t.get Reg.SEC_LOGIN_STAT_STATUS = 0 := by
  intro t
  obtain ⟨h1, h2⟩ := startSession_session (s := s) (slot := slot) hr
  have hl : Reg.SEC_LOCK (lockOf role) ≠ Reg.SEC_SESS slot := by simp only [Reg.SEC_LOCK, Reg.SEC_SESS]; omega
  have hk : ∀ f : RF, f.addr = Reg.SEC_SESS slot ∨ f.addr = Reg.SEC_LOCK (lockOf role) →
      t.get f = ((s.startSession slot role).put (Reg.SEC_LOCK_FAILS (lockOf role)) 0).get f := fun f hf => by
    refine loginAnswered_regsBut.get ?_
    have hd : Reg.SEC_SESS slot ≠ Reg.FLT_LOG_LOST ∧ Reg.SEC_SESS slot ≠ Reg.SEC_LOGIN_STAT ∧
        Reg.SEC_LOCK (lockOf role) ≠ Reg.FLT_LOG_LOST ∧ Reg.SEC_LOCK (lockOf role) ≠ Reg.SEC_LOGIN_STAT := by
      simp only [Reg.SEC_LOCK, Reg.SEC_SESS, Reg.FLT_LOG_LOST, Reg.SEC_LOGIN_STAT, lockOf]
      omega
    obtain ⟨d1, d2, d3, d4⟩ := hd
    rintro (h | h | h) <;> rcases hf with e | e <;> rw [e] at h
    · exact sess_ne_auditRegs hs h rfl
    · exact (auditRegs_apart h).2 _ (by simp only [lockOf]; omega) rfl
    · exact d2 h
    · exact d4 h
    · exact d1 h
    · exact d3 h
  refine ⟨?_, ?_, ?_, ?_, ?_, ?_⟩
  · exact (get_log (by decide)).trans get_loginStat.2
  · simp only [t, loginPassed]
    rw [log_sec, loginStat, put_sec, put_sec, audit_challenges, put_sec]
    exact startSession_challenges
  · rw [hk _ (.inl rfl), get_put_addr (Ne.symm hl), h1]
  · rw [hk _ (.inl rfl), get_put_addr (Ne.symm hl), h2]
  · exact (hk (Reg.SEC_LOCK_FAILS (lockOf role)) (.inr rfl)).trans (get_put_self (by simp))
  · exact (get_log (by decide)).trans get_loginStat.1

theorem loginFailed_result {slot role : Nat} (hs : slot < 8) :
    let t := s.loginFailed slot role
    t.get Reg.SEC_LOGIN_STAT_VALID = 1 ∧ t.sec.challenges = s.sec.challenges ∧
      t.reg (Reg.SEC_SESS slot) = s.reg (Reg.SEC_SESS slot) ∧ t.get Reg.SEC_LOGIN_STAT_STATUS = Status.refused.code := by
  intro t
  refine ⟨?_, ?_, ?_, ?_⟩
  · exact (get_log (by decide)).trans get_loginStat.2
  · simp only [t, loginFailed]
    rw [log_sec, loginStat, put_sec, put_sec, audit_challenges, count_sec]
  · have hr : RegsBut (fun a => auditRegs a ∨ a = Reg.SEC_LOGIN_STAT ∨ a = Reg.FLT_LOG_LOST)
        (s.count (Reg.SEC_LOCK_FAILS (lockOf role))) t := loginAnswered_regsBut
    have hl : RegsBut (· = Reg.SEC_LOCK (lockOf role)) s (s.count (Reg.SEC_LOCK_FAILS (lockOf role))) :=
      count_regsBut rfl .refl
    refine (hr _ ?_).trans (hl _ ?_)
    · rintro (h | h | h)
      · exact sess_ne_auditRegs hs h rfl
      · simp only [Reg.SEC_SESS, Reg.SEC_LOGIN_STAT] at h
        omega
      · simp only [Reg.SEC_SESS, Reg.FLT_LOG_LOST] at h
        omega
    · simp only [Reg.SEC_LOCK, Reg.SEC_SESS]
      omega
  · exact (get_log (by decide)).trans get_loginStat.1

theorem find_dropped {n : Nat} : (((s.touchSlot n).dropChallenge n).sec.challenges.find? fun y => y.1 = n) = none := by
  rw [dropChallenge, onSec_sec]
  exact find_filter_ne (k := fun y : Nat × Nat × List Byte × Nat => y.1)

/-- A right response starts the session, and a wrong one leaves the slot's as it stood or ended (R540 to R542). -/
theorem loginVerify_result {slot role : Nat} {x : Nat × Nat × List Byte × Nat} {key : List Byte} (hs : slot < 8) (h4 : role < 4)
    (hr : role ≠ 0) (hw : s.wiping = false) (hl : s.get (Reg.SEC_LOCK_LOCKED (role - 1)) = 0)
    (hx : (s.sec.challenges.find? fun y => y.1 = slot && y.2.1 = role) = some x) (ht : s.now ≤ x.2.2.2 + 12000000000)
    (hk : s.roleKey role = some key) :
    let t := s.loginVerify slot role
    t.get Reg.SEC_LOGIN_STAT_VALID = 1 ∧ (t.sec.challenges.find? fun y => y.1 = slot) = none ∧
      (s.loginExpect slot role x.2.2.1 key = s.regBytes Reg.SEC_LOGIN_RESP0 10 → t.get (Reg.SEC_SESS_ROLE slot) = role ∧
        t.get (Reg.SEC_SESS_VALID slot) = 1 ∧ t.get (Reg.SEC_LOCK_FAILS (role - 1)) = 0 ∧
        t.get Reg.SEC_LOGIN_STAT_STATUS = 0) ∧
      (s.loginExpect slot role x.2.2.1 key ≠ s.regBytes Reg.SEC_LOGIN_RESP0 10 →
        (t.get (Reg.SEC_SESS_VALID slot) = 1 → t.reg (Reg.SEC_SESS slot) = s.reg (Reg.SEC_SESS slot)) ∧
        t.get Reg.SEC_LOGIN_STAT_STATUS = Status.refused.code) := by
  intro t
  have e : t = _ := loginVerify_of_challenge hr hw hl hx ht hk
  have hd := find_dropped (s := s) (n := slot)
  have hsess : ((s.touchSlot slot).dropChallenge slot).reg (Reg.SEC_SESS slot) = s.reg (Reg.SEC_SESS slot) := reg_congr rfl
  clear_value t
  generalize (s.touchSlot slot).dropChallenge slot = u at e hd hsess
  by_cases hc : s.loginExpect slot role x.2.2.1 key = s.regBytes Reg.SEC_LOGIN_RESP0 10
  · rw [if_pos hc] at e
    obtain ⟨h1, h2, h3, h4, h5, h6⟩ := loginPassed_result (s := u) hs h4
    rw [e]
    exact ⟨h1, h2 ▸ hd, fun _ => ⟨h3, h4, h5, h6⟩, fun h => (h hc).elim⟩
  · rw [if_neg hc] at e
    obtain ⟨h1, h2, h3, h4⟩ := loginFailed_result (s := u) (role := role) hs
    have hk : LoginKept slot (u.loginFailed slot role) t := by
      rw [e]
      split
      · exact lockout_loginKept hs
      · exact ⟨rfl, fun _ => rfl, .inl rfl⟩
    generalize u.loginFailed slot role = w at e h1 h2 h3 h4 hk
    obtain ⟨k1, k2, k3⟩ := hk
    have hg : ∀ lo len, t.get ⟨Reg.SEC_LOGIN_STAT, lo, len⟩ = w.get ⟨Reg.SEC_LOGIN_STAT, lo, len⟩ := fun lo len => by
      rw [State.get, k1, State.get]
    refine ⟨(hg _ _).trans h1, ?_, fun h => (hc h).elim, fun _ => ⟨fun h => (k2 h).trans (h3.trans hsess), (hg _ _).trans h4⟩⟩
    rcases k3 with k | k
    · rw [k, h2]
      exact hd
    · rw [k]
      rfl

/-- A challenge of 8 random bytes stands in the registers and for the slot (R540). -/
theorem loginChallenge_result {slot role : Nat} (hr : role ≠ 0) (hw : s.wiping = false) :
    let t := s.loginChallenge slot role
    t.get Reg.SEC_LOGIN_STAT_STATUS = 0 ∧ t.get Reg.SEC_LOGIN_STAT_VALID = 1 ∧
      t.get64 Reg.SEC_LOGIN_CHAL_LO = (Config.random s.freeCount).toNat ∧
      (t.sec.challenges.find? fun x => x.1 = slot).map (·.2.1) = some role := by
  have hgo : ¬(role = 0 ∨ (s.touchSlot slot).wiping = true) := by
    have h1 : (s.touchSlot slot).wiping = false := (flag_congr get_touchSlot).trans hw
    simp [hr, h1]
  let c := leBytes 8 (Config.random s.freeCount).toNat
  let v := ((s.touchSlot slot).useFree.put64 Reg.SEC_LOGIN_CHAL_LO (ofLe c)).loginStat .ok
  have e : s.loginChallenge slot role = v.onSec fun x =>
      { x with challenges := (x.challenges.filter fun y => y.1 ≠ slot) ++ [(slot, role, c, v.now)] } := if_neg hgo
  rw [e]
  have hc : ofLe c = (Config.random s.freeCount).toNat := by
    simp only [c]
    rw [ofLe_leBytes]
    exact Nat.mod_eq_of_lt (Config.random s.freeCount).isLt
  refine ⟨?_, ?_, ?_, ?_⟩
  · rw [get_onSec]
    exact get_loginStat.1
  · rw [get_onSec]
    exact get_loginStat.2
  · have hl : RegsBut (· = Reg.SEC_LOGIN_STAT) ((s.touchSlot slot).useFree.put64 Reg.SEC_LOGIN_CHAL_LO (ofLe c)) v := loginStat_regsBut
    rw [get64_onSec, hl.get64 (by decide) (by decide), get64_put64, hc]
    exact Nat.mod_eq_of_lt (Config.random s.freeCount).isLt
  · rw [onSec_sec]
    simp only [List.find?_append]
    rw [find_filter_ne (k := fun y : Nat × Nat × List Byte × Nat => y.1)]
    simp

/-! Sealed copies and expiries (R416, R540, R542). -/

theorem sealWrite_result : let t := s.sealWrite
    t.get Reg.SEC_HUSK_STAT_SEAL_PEND = 0 ∧ t.sec.sealedAt = s.now + 1 ∧ t.sec.sealed.tail = s.sec.sealed.take 1 ∧
      s.sameRegs t [Reg.SEC_HUSK_STAT] ∧ s.sameBytes t := by
  unfold sealWrite
  extract_lets c
  refine ⟨get_put_self (by decide), by rw [put_sec, onSec_sec], by rw [put_sec, onSec_sec]; rfl, fun a ha => ?_, fun a => ?_⟩
  · rw [reg_put_of_ne (by simpa using ha), reg_onSec]
  · rw [rd8_put, rd8_onSec]

theorem sealRequest_of_on (h : s.wiping = false) : s.sealRequest = s.sealWrite := if_neg (by simp [h])

theorem sealExpire_of_first (h : s.wiping = false) (hp : s.get Reg.SEC_HUSK_STAT_SEAL_PEND = 1) (h0 : s.sec.sealedAt = 0) :
    s.sealExpire = s.sealWrite := by
  have hf : s.flag Reg.SEC_HUSK_STAT_SEAL_PEND = true := by rw [flag, hp]; rfl
  unfold sealExpire
  rw [if_neg (by simp [h, hf])]
  simp only [h0]

theorem challengeExpire_of_any {n : Nat} (h : (s.sec.challenges.any fun y => y.1 = n) = true) :
    ∃ x : Nat, s.challengeExpire n = (s.reach x).dropChallenge n := by
  obtain ⟨y, hy, hn⟩ := List.any_eq_true.1 h
  have hs : (s.sec.challenges.find? fun y => y.1 = n).isSome = true := List.find?_isSome.2 ⟨y, hy, hn⟩
  obtain ⟨⟨a, b, c, t⟩, hf⟩ := Option.isSome_iff_exists.1 hs
  refine ⟨t + 12000000000, ?_⟩
  unfold challengeExpire
  simp only [hf]

theorem lockoutExpire_of_any {r : Nat} (h : (s.sec.locks.any fun x => x.1 = r) = true) :
    ∃ x : Nat, s.lockoutExpire r =
      (((s.reach x).put (Reg.SEC_LOCK_LOCKED (lockOf r)) 0).put (Reg.SEC_LOCK_REMAIN (lockOf r)) 0).onSec fun x =>
        { x with locks := x.locks.filter fun y => y.1 ≠ r } := by
  obtain ⟨y, hy, hn⟩ := List.any_eq_true.1 h
  have hs : (s.sec.locks.find? fun x => x.1 = r).isSome = true := List.find?_isSome.2 ⟨y, hy, hn⟩
  obtain ⟨⟨a, t, d⟩, hf⟩ := Option.isSome_iff_exists.1 hs
  refine ⟨t + 200000000 * d, ?_⟩
  unfold lockoutExpire
  simp only [hf]

/-! The log's own commands (R549, R550). -/

theorem auditAppend_result {v : Word} (hw : s.wiping = false) : let t := s.auditAppend v
    t.sec.appended = s.sec.appended + 1 ∧ t.get Reg.SEC_AUDIT_STAT_HELD = min 4096 (s.get Reg.SEC_AUDIT_STAT_HELD + 1) ∧
      t.get Reg.SEC_HUSK_STAT_SEAL_PEND = 1 ∧ s.sameBytesBut t (auditAt s.sec.appended) 32 := by
  have hs : (s.writePlain Reg.SEC_AUDIT_APP3 v).sec = s.sec :=
    (writePlain_sameBut (F := [.regs]) (by decide) .refl).eq (f := State.sec) fun _ => rfl
  have hh : (s.writePlain Reg.SEC_AUDIT_APP3 v).get Reg.SEC_AUDIT_STAT_HELD = s.get Reg.SEC_AUDIT_STAT_HELD :=
    get_writePlain_addr (by decide)
  have hw' : (s.writePlain Reg.SEC_AUDIT_APP3 v).wiping = false := (flag_congr (get_writePlain_addr (by decide))).trans hw
  have hb : ∀ a, (s.writePlain Reg.SEC_AUDIT_APP3 v).rd8 a = s.rd8 a := fun a => rd8_writePlain
  unfold auditAppend
  generalize s.writePlain Reg.SEC_AUDIT_APP3 v = u at hs hh hw' hb
  obtain ⟨h1, h2, h3, -, h4⟩ := audit_result (kind := 0) (slot := u.get Reg.SEC_AUDIT_APP1_SLOT)
    (role := u.slotRole (u.get Reg.SEC_AUDIT_APP1_SLOT)) (obj := u.get Reg.SEC_AUDIT_APP0_OBJ)
    (status := u.get Reg.SEC_AUDIT_APP1_STATUS) (old := u.get Reg.SEC_AUDIT_APP2_OLD) (new := u.get Reg.SEC_AUDIT_APP3_NEW) hw'
  rw [hs] at h1 h4
  rw [hh] at h2
  exact ⟨h1, h2, h3, fun a ha => (h4 a ha).trans (hb a)⟩

theorem length_exportBytes {e : Export} {pos len : Nat} : (s.exportBytes e pos len).length = min len (48 + 32 * e.count - pos) := by
  simp [exportBytes]

/-- A read of a drawn copy of the log, whose entries are held, answers its next bytes (R550). -/
theorem exportRead_of_export {slot len : Nat} {e : Export} (hr : 2 ≤ s.slotRole slot)
    (he : (s.sec.exports.find? fun x => x.slot = slot) = some e)
    (hh : s.sec.appended - s.get Reg.SEC_AUDIT_STAT_HELD ≤ e.first) :
    ∃ f, s.exportRead slot len = { (s.touchSlot slot).onSec f with
      answer := [Status.ok.code, 0] ++ ((s.touchSlot slot).exportBytes e e.pos len).map (·.toNat) } := by
  have hr' : ¬(s.touchSlot slot).slotRole slot < 2 := not_lt.2 hr
  have he' : ((s.touchSlot slot).sec.exports.find? fun x => x.slot = slot) = some e := he
  have ha : ((s.touchSlot slot).sec.exports.any fun x => x.slot = slot) = true :=
    List.any_eq_true.2 ⟨e, List.mem_of_find?_eq_some he, by simpa using List.find?_some he⟩
  have hh' : (s.touchSlot slot).sec.appended - (s.touchSlot slot).get Reg.SEC_AUDIT_STAT_HELD ≤ e.first := by
    rw [get_touchSlot]
    exact hh
  have hk : ¬((e.pos - 32) / 32 < e.count ∧ e.first + (e.pos - 32) / 32 <
      (s.touchSlot slot).sec.appended - (s.touchSlot slot).get Reg.SEC_AUDIT_STAT_HELD) := fun h =>
    absurd h.2 (not_lt.2 (hh'.trans (Nat.le_add_right _ _)))
  unfold exportRead
  generalize s.touchSlot slot = u at hr' he' ha hh' hk
  simp only [if_neg hr', if_pos ha, he', if_neg hk]
  exact ⟨_, rfl⟩

/-! The husk's wipe (R413, R414). -/

theorem tamperAssert_result {i : Fin 2} (hon : s.securityOn = true) : let t := s.tamperAssert i.val
    i.val ∈ t.sec.tamper ∧ t.sec.mark = true ∧ t.sec.keys = [] ∧ t.sec.challenges = [] ∧ t.sec.exports = [] ∧
      t.sec.appended = 0 ∧ t.fault.retired = [] := by
  let u : State := { s with wakes := s.wakes ++ [(7, i.val)] }.onSec fun x =>
    { x with tamper := if i.val ∈ x.tamper then x.tamper else x.tamper ++ [i.val] }
  have hu : s.tamperAssert i.val = u.wipeStart (1 + i.val) := if_pos (c := u.securityOn = true) hon
  have hi : i.val ∈ u.sec.tamper := by
    simp only [u, onSec_sec]
    split
    next h => exact h
    · exact List.mem_append_right _ List.mem_cons_self
  rw [hu]
  clear_value u
  have hf : (u.wipeStart (1 + i.val)).fault.retired = [] := by
    rw [wipeStart_eq]
    generalize u.wipeCleared (1 + i.val) = v
    rw [(guardScan_sameBut (F := [Part.regs, .mem, .events, .sent, .can, .guard, .fw]) (by decide) .refl).eq (f := State.fault)
      fun _ => rfl, onFault_fault]
  refine ⟨?_, ?_, ?_, ?_, ?_, ?_, hf⟩ <;> rw [wipeStart_sec]
  · exact (congrArg (i.val ∈ ·) wipeBegun_tamper).mpr hi
  all_goals rfl

theorem wipeDone_result (h : s.wiping = true) : let t := s.wipeDone
    t.sec.mark = false ∧ t.sec.sealed = [] ∧ t.sec.tamper = [] ∧ t.wiping = false := by
  let u := ((s.onSec fun x => { x with mark := false, sealed := [], tamper := [] }).put Reg.SEC_HUSK_STAT_WIPING 0).log .sec 0 0x6111
    srcManager
  have e : s.wipeDone = (u.audit 7 0 0 0 0 0 0).guardScan := if_neg (by simp [h])
  have hu : u.sec.mark = false ∧ u.sec.sealed = [] ∧ u.sec.tamper = [] := by
    simp only [u]
    rw [log_sec, put_sec, onSec_sec]
    exact ⟨rfl, rfl, rfl⟩
  have hw : u.get Reg.SEC_HUSK_STAT_WIPING = 0 := (get_log (by decide)).trans (get_put_self (by decide))
  obtain ⟨h1, h2, h3⟩ := hu
  rw [e]
  clear_value u
  have hg : ((u.audit 7 0 0 0 0 0 0).guardScan).get Reg.SEC_HUSK_STAT_WIPING = u.get Reg.SEC_HUSK_STAT_WIPING := by
    refine ((guardScan_regsBut (s₀ := u.audit 7 0 0 0 0 0 0) (fun _ ha => ha) .refl).get (B := guardRegs) fun ha => ?_).trans audit_wiping
    exact not_wipeKept_of_guardRegs ha (.inl rfl)
  refine ⟨?_, ?_, ?_, ?_⟩
  · rw [guardScan_sec, audit_sec (g := Security.mark) fun _ _ _ => rfl, h1]
  · rw [guardScan_sec, audit_sec (g := Security.sealed) fun _ _ _ => rfl, h2]
  · rw [guardScan_sec, audit_sec (g := Security.tamper) fun _ _ _ => rfl, h3]
  · rw [wiping, flag, hg, hw]
    rfl

/-- Settles O51: each command's marks stand apart from what its entry, its event and a wipe write. -/
theorem securityCommandsComplete : Obligations.SecurityCommandsComplete := by
  unfold Obligations.SecurityCommandsComplete
  intro s
  refine ⟨fun i h => ?_, fun h => ?_, fun h => ?_, fun h hp h0 => ?_, fun slot role hr hw => ?_,
    fun slot role x key hr hw hl hx ht hk => ?_, fun slot h => ?_, fun slot h => ?_, fun slot h hh => ?_, fun role hr h => ?_,
    fun v hw => ?_, fun slot len e hr he hh => ?_⟩
  · refine completes_done rfl ?_
    rw [withQueue_sec, withQueue_fault]
    exact tamperAssert_result h
  · refine completes_done rfl ?_
    obtain ⟨h1, h2, h3, h4⟩ := wipeDone_result h
    rw [withQueue_sec]
    exact ⟨h1, h2, h3, flag_withQueue.trans h4⟩
  · obtain ⟨h1, h2, h3, h4, h5⟩ := sealWrite_result (s := s)
    refine completes_done (congrArg s.done (sealRequest_of_on h)) ?_
    rw [get_withQueue, withQueue_sec]
    exact ⟨h1, h2, h3, withQueue_regs_but h4, sameBytes_withQueue h5⟩
  · obtain ⟨h1, h2, -, -, h5⟩ := sealWrite_result (s := s)
    refine completes_done (congrArg s.done (sealExpire_of_first h hp h0)) ?_
    rw [get_withQueue, withQueue_sec]
    exact ⟨h1, h2, sameBytes_withQueue h5⟩
  · obtain ⟨h1, h2, h3, h4⟩ := loginChallenge_result (slot := slot.val) hr hw
    refine completes_done rfl ⟨get_withQueue.trans h1, get_withQueue.trans h2, get64_withQueue.trans h3, ?_, sameBytes_withQueue
      (SameBut.sameBytes (loginChallenge_sameBut (F := [.regs, .freeCount, .sec]) (by decide) .refl) rfl rfl)⟩
    rw [withQueue_sec, h4]
  · obtain ⟨h1, h2, h3, h4⟩ := loginVerify_result slot.isLt role.isLt hr hw hl hx ht hk
    refine completes_done rfl ?_
    simp only [get_withQueue, reg_withQueue]
    rw [withQueue_sec]
    exact ⟨h1, h2, h3, h4⟩
  · obtain ⟨x, e⟩ := challengeExpire_of_any h
    refine completes_done (congrArg s.done e) ⟨?_, withQueue_regs_but fun a ha => ?_, fun a => ?_⟩
    · rw [withQueue_sec, dropChallenge, onSec_sec]
      exact find_filter_ne (k := fun y : Nat × Nat × List Byte × Nat => y.1)
    · rw [dropChallenge, reg_onSec]
      exact reg_reach_addr (fun e => ha (by rw [e]; simp)) fun e => ha (by rw [e]; simp)
    · rw [rd8_withQueue, dropChallenge, rd8_onSec, rd8_reach]
  · refine completes_done rfl ⟨?_, get_withQueue.trans get_loginStat.1, get_withQueue.trans get_loginStat.2⟩
    rw [reg_withQueue, loginStat_regsBut _ (by simp only [Reg.SEC_SESS, Reg.SEC_LOGIN_STAT]; omega)]
    exact endSession_reg slot.isLt h
  · exact completes_done rfl (reg_withQueue.trans (idleTimeout_reg slot.isLt h hh))
  · obtain ⟨x, e⟩ := lockoutExpire_of_any h
    refine completes_done (congrArg s.done e) ⟨?_, ?_, ?_, fun a => ?_⟩
    · rw [get_withQueue, get_onSec, get_put_clear (.inl (by simp)), get_put_self (by simp)]
      rfl
    · rw [get_withQueue, get_onSec, get_put_self (by simp)]
      rfl
    · rw [withQueue_sec, onSec_sec]
      exact find_filter_ne (k := fun y : Nat × Nat × Nat => y.1)
    · rw [rd8_withQueue, rd8_onSec, rd8_put, rd8_put, rd8_reach]
  · obtain ⟨h1, h2, h3, h4⟩ := auditAppend_result (v := v) hw
    refine completes_done rfl ⟨?_, get_withQueue.trans h2, get_withQueue.trans h3, fun a ha => rd8_withQueue.trans (h4 a ha)⟩
    rw [withQueue_sec, h1]
  · obtain ⟨f, e⟩ := exportRead_of_export (len := len) hr he hh
    refine completes_done (congrArg s.done e) ⟨rfl, ?_, fun a _ => rfl, fun a => rfl⟩
    rw [withQueue_answer]
    simp only [List.length_append, List.length_map, length_exportBytes]
    rfl

end Sys2Proof.Machine.State
end

section
set_option Elab.async false
/-! PROOFS. Loading and unloading an image (R584). -/

namespace Sys2Proof.Machine.State

variable {s t : State}

/-! Images at their indices (R565). -/

theorem imageAt_congr {i : Nat} (h : t.images = s.images) : t.imageAt i = s.imageAt i := by rw [imageAt, h, imageAt]

theorem setImage_images {x : Image} : (s.setImage x).images = (s.images.filter fun (y : Image) => y.index ≠ x.index) ++ [x] := by
  unfold setImage imagesShow
  rfl

theorem imageAt_setImage {x : Image} : (s.setImage x).imageAt x.index = some x := by
  rw [imageAt, setImage_images, List.find?_append, find_filter_ne (k := Image.index)]
  simp

theorem index_of_imageAt {i : Nat} {x : Image} (h : s.imageAt i = some x) : x.index = i := by
  simpa using List.find?_some h

theorem imageAt_auditWrite {slot index sub i : Nat} {old new : List Byte} :
    (s.auditWrite slot index sub old new).imageAt i = s.imageAt i :=
  imageAt_congr (audit_sameBut'.eq (f := State.images) fun _ => rfl)

theorem answer_auditWrite {slot index sub : Nat} {old new : List Byte} :
    (s.auditWrite slot index sub old new).answer = s.answer := audit_sameBut'.eq (f := State.answer) fun _ => rfl

/-- The image that a load puts at its index until it ends. -/
def loading (s : State) (slot : Nat) (info : ImageInfo) (source length : Nat) (crc : Option Nat) : Image :=
  ⟨s.selOf slot 2, 1, info, source, length, crc, ⟨1, 0, length, s.now⟩, none, []⟩

/-- A load into an index that is free, or holds an image in a failed state, is taken up (R584). -/
theorem imageLoad_of_free {slot sub source length : Nat} {info : ImageInfo} {crc : Option Nat} (hr : 2 ≤ s.slotRole slot)
    (hi : s.inRun = true)
    (hf : (s.imageAt (s.selOf slot 2)).all (fun x => decide (4 ≤ x.state) || decide (x.state = 0)) = true)
    (ht : info.tiles ≤ s.obj 0x2201 2) :
    s.imageLoad slot sub info source length crc = (s.setImage (s.loading slot info source length crc)).reply .ok 0 := by
  have hh : ∀ n, 1 ≤ n → n ≤ 3 → (s.imageAt (s.selOf slot 2)).map (·.state) ≠ some n := fun n h1 h3 h => by
    obtain ⟨x, hx, hn⟩ := Option.map_eq_some_iff.1 h
    rw [hx] at hf
    simp at hf
    omega
  have h1 := hh 1 le_rfl (by decide)
  have h23 : ¬((s.imageAt (s.selOf slot 2)).map (·.state) = some 2 ∨ (s.imageAt (s.selOf slot 2)).map (·.state) = some 3) :=
    not_or.2 ⟨hh 2 (by decide) (by decide), hh 3 (by decide) le_rfl⟩
  unfold imageLoad
  dsimp only
  rw [if_neg (not_lt.2 hr), if_neg (by simp [hi]), if_neg h1, if_neg h23, if_neg (not_lt.2 ht)]
  rfl

/-- What a request for a load that is taken up leaves, with its entry (R549, R584). -/
theorem loadAnswered_result {slot a b i : Nat} {x : Image} {old new : List Byte} (hi : x.index = i) :
    let t := ((s.setImage x).reply .ok 0).auditWrite slot a b old new
    t.answer = [0, 0] ∧ t.imageAt i = some x := by
  intro t
  refine ⟨answer_auditWrite.trans rfl, imageAt_auditWrite.trans ?_⟩
  rw [imageAt_congr (t := (s.setImage x).reply .ok 0) (s := s.setImage x) rfl, ← hi]
  exact imageAt_setImage

/-! The end of a load (R584). -/

theorem imageRefuse_result {i : Nat} {x : Image} (hx : x.index = i) :
    let t := s.imageRefuse x
    (t.imageAt i).map (·.state) = some 4 ∧ t.regs = s.regs ∧ s.sameBytes t := by
  have h : SameBut [.objs, .images] s (s.imageRefuse x) := imageRefuse_sameBut (by decide) .refl
  refine ⟨?_, h.regs rfl, h.sameBytes rfl rfl⟩
  rw [imageRefuse, ← hx]
  exact congrArg _ imageAt_setImage

/-- The end of a load at an index that holds `x` (R584). -/
def loadEnded (s : State) (x : Image) (good : Bool) : State :=
  if x.state ≠ 1 then s
  else
    let bytes := s.rdBytes x.source x.length
    let fits := match x.crc with
      | some c => decide (crc32c bytes = c)
      | none => true
    if !(good && fits) then s.imageRefuse x
    else match firstFlaw (s.imageFlaws x.info bytes) with
      | some f => (s.flawLog f).imageRefuse x
      | none => (s.wrBytes x.info.base bytes).setImage { x with
          state := 2, progress := { x.progress with state := 2, position := x.length } }

theorem loadDone_of_imageAt {i : Nat} {x : Image} {good : Bool} (h : s.imageAt i = some x) :
    s.loadDone i good = s.loadEnded x good := by
  unfold loadDone
  rw [h]
  rfl

/-- Bytes that fit their directory entry, where there is one, go on to the checks (R584). -/
theorem ite_fits {α : Type} {x : Image} {k : Nat} {u v : α} (hc : (x.crc.all fun c => decide (k = c)) = true) :
    (if !(true && (match x.crc with
      | some c => decide (k = c)
      | none => true)) then u else v) = v := by
  refine if_neg ?_
  cases hx : x.crc with
  | none => simp
  | some c =>
    rw [hx] at hc
    simp at hc
    simp [hc]

theorem loadDone_of_bad {i : Nat} {x : Image} (h : s.imageAt i = some x) (h1 : x.state = 1) :
    s.loadDone i false = s.imageRefuse x := by
  rw [loadDone_of_imageAt h, loadEnded, if_neg (not_not.2 h1)]
  rfl

section
set_option Elab.async false
variable {i : Nat} {x : Image} (h : s.imageAt i = some x) (h1 : x.state = 1)
  (hc : (x.crc.all fun c => decide (crc32c (s.rdBytes x.source x.length) = c)) = true)
include h h1 hc

theorem loadDone_of_right (hn : firstFlaw (s.imageFlaws x.info (s.rdBytes x.source x.length)) = none) :
    s.loadDone i true = (s.wrBytes x.info.base (s.rdBytes x.source x.length)).setImage { x with
      state := 2, progress := { x.progress with state := 2, position := x.length } } := by
  rw [loadDone_of_imageAt h, loadEnded, if_neg (not_not.2 h1)]
  dsimp only
  rw [ite_fits hc, hn]

theorem loadDone_of_flaw {f : Flaw} (hn : firstFlaw (s.imageFlaws x.info (s.rdBytes x.source x.length)) = some f) :
    s.loadDone i true = (s.flawLog f).imageRefuse x := by
  rw [loadDone_of_imageAt h, loadEnded, if_neg (not_not.2 h1)]
  dsimp only
  rw [ite_fits hc, hn]

end

theorem flawLog_regsBut {f : Flaw} : RegsBut (· = Reg.FLT_LOG_LOST) s (s.flawLog f) := by
  unfold flawLog
  split
  · exact .refl
  · exact log_regsBut rfl .refl

theorem setImage_sameBytes {x : Image} : s.sameBytes (s.setImage x) :=
  SameBut.sameBytes (setImage_sameBut (F := [.objs, .images]) (by decide) .refl) rfl rfl

/-! The unload (R584). -/

theorem imageUnload_of_idle {slot : Nat} (hr : 2 ≤ s.slotRole slot)
    (hf : (s.imageAt (s.selOf slot 2)).all (fun x => x.state != 1 && x.state != 3) = true) :
    s.imageUnload slot =
      { s with images := s.images.filter fun (y : Image) => y.index ≠ s.selOf slot 2 }.imagesShow.reply .ok 0 := by
  have hh : ∀ n, n = 1 ∨ n = 3 → (s.imageAt (s.selOf slot 2)).map (·.state) ≠ some n := fun n hn h => by
    obtain ⟨x, hx, e⟩ := Option.map_eq_some_iff.1 h
    rw [hx] at hf
    simp at hf
    omega
  unfold imageUnload
  dsimp only
  rw [if_neg (not_lt.2 hr), if_neg (hh 3 (.inr rfl)), if_neg (hh 1 (.inl rfl))]

theorem imageAt_unloaded {i : Nat} {st : Status} :
    ({ s with images := s.images.filter fun (y : Image) => y.index ≠ i }.imagesShow.reply st 0).imageAt i = none := by
  rw [imageAt]
  exact find_filter_ne (k := Image.index)

end Sys2Proof.Machine.State
end

section
set_option Elab.async false
/-! PROOFS. The image switch (R73, R117 to R120, R584, R775). -/

namespace Sys2Proof.Machine.State

variable {B : Nat → Prop} {s s₀ t : State}

/-! What crosses Tierlink and the hub at an arming leaves the switch's status (R104, R511). -/

theorem onTlk_regsBut {n : Nat} {f : TlkPort → TlkPort} (h : RegsBut B s₀ s) : RegsBut B s₀ (s.onTlk n f) := h.congr rfl

theorem packetOut_regsBut {n : Nat} {p : TlkPacket} (h : RegsBut B s₀ s) : RegsBut B s₀ (s.packetOut n p) := emitOut_regsBut h

theorem tlkSendNow_regsBut {n cls : Nat} {l : List (List Byte)} (hn : B (Reg.TLK_SEQ n)) (h : RegsBut B s₀ s) :
    RegsBut B s₀ (s.tlkSendNow n cls l) :=
  packetOut_regsBut (onTlk_regsBut (put_regsBut hn h))

theorem tlkPump_regsBut {n : Nat} (hn : B (Reg.TLK_SEQ n)) (h : RegsBut B s₀ s) : RegsBut B s₀ (s.tlkPump n) := by
  unfold tlkPump
  refine onTlk_regsBut (keeps_foldl_fst (P := RegsBut B s₀) _ h fun x hx w => ?_)
  split
  · exact tlkSendNow_regsBut hn hx
  · exact hx

theorem toWorkers_regsBut {l : List Byte} (hB : ∀ n, B (Reg.TLK_SEQ n)) (h : RegsBut B s₀ s) : RegsBut B s₀ (s.toWorkers l) :=
  keeps_foldl _ h fun _ hx n => tlkPump_regsBut (hB n) (onTlk_regsBut hx)

theorem tlkSeq_ne_switch (n : Nat) : Reg.TLK_SEQ n ≠ Reg.STEP_SWITCH_STAT := by
  simp only [Reg.TLK_SEQ, Reg.STEP_SWITCH_STAT]
  omega

theorem toWorkers_switchStat {l : List Byte} : RegsBut (· ≠ Reg.STEP_SWITCH_STAT) s (s.toWorkers l) :=
  toWorkers_regsBut tlkSeq_ne_switch .refl

theorem toWorkers_clock {l : List Byte} : (s.toWorkers l).clock = s.clock :=
  (toWorkers_sameBut (F := [.regs, .sent, .tlk]) (by decide) .refl).eq (f := State.clock) fun _ => rfl

theorem placeHeld_switchStat : RegsBut (· ≠ Reg.STEP_SWITCH_STAT) s s.placeHeld := by
  have hB : ∀ a, hubRegs a → a ≠ Reg.STEP_SWITCH_STAT := by
    rintro a (h | h) rfl
    · exact absurd h.1 (by decide)
    · simp [writeRegs, injectRegs] at h
  have hk : ItemKeeps (· ≠ Reg.STEP_SWITCH_STAT) (s.onHub fun h => { h with held := [] }) s.placeHeld :=
    keeps_foldl _ .refl fun x hx y => takeItem_item hB (fun o _ => by simp only [Reg.STEP_SWITCH_STAT]; omega) hx
  exact fun a ha => hk.1 a ha

theorem attach_switchStat : RegsBut (· ≠ Reg.STEP_SWITCH_STAT) s s.attach :=
  RegsBut.congr (keeps_foldl (P := RegsBut (· ≠ Reg.STEP_SWITCH_STAT) s) _ .refl fun x hx n =>
    msix_regsBut (by decide) (put_regsBut (f := ⟨Reg.TLK_HIER_STAT, 8 + n, 1⟩) (by decide : Reg.TLK_HIER_STAT ≠ Reg.STEP_SWITCH_STAT) hx)) rfl

theorem attach_switch : s.attach.clock.switch = s.clock.switch := by
  have h : (s.clock.rejoining.foldl (fun s n => (s.put ⟨Reg.TLK_HIER_STAT, 8 + n, 1⟩ 1).msix 13) s).clock = s.clock := by
    refine keeps_foldl (P := fun x : State => x.clock = s.clock) _ rfl fun x hx n => ?_
    have e : SameBut [.regs, .sent] x ((x.put ⟨Reg.TLK_HIER_STAT, 8 + n, 1⟩ 1).msix 13) :=
      msix_sameBut (by decide) (put_sameBut (by decide) .refl)
    exact (e.eq (f := State.clock) fun _ => rfl).trans hx
  unfold attach
  rw [onClock_clock, h]

theorem switchSent_switchStat : RegsBut (· ≠ Reg.STEP_SWITCH_STAT) s s.switchSent :=
  keeps_ite (put_regsBut (by decide) (RegsBut.congr .refl rfl)) .refl

theorem switchSent_clock : s.switchSent.clock = s.clock :=
  (switchSent_sameBut (F := [.regs, .fw]) (by decide) .refl).eq (f := State.clock) fun _ => rfl

theorem placeHeld_clock : s.placeHeld.clock = s.clock :=
  (placeHeld_sameBut (F := [.regs, .mem, .events, .once, .hub, .fw]) (by decide) .refl).eq (f := State.clock) fun _ => rfl

/-- An arming leaves the switch's status, and the switch that waits (R82, R117). -/
theorem arm_switch {l ls ph : Nat} :
    RegsBut (· ≠ Reg.STEP_SWITCH_STAT) s (s.arm l ls ph) ∧ (s.arm l ls ph).clock.switch = s.clock.switch := by
  unfold arm
  extract_lets u v
  have hu : RegsBut (· ≠ Reg.STEP_SWITCH_STAT) s u :=
    RegsBut.congr (put_regsBut (by decide) (put64_regsBut (by decide) (by decide) .refl)) rfl
  refine ⟨hu.trans ((placeHeld_switchStat.trans (attach_switchStat.trans switchSent_switchStat)).trans toWorkers_switchStat), ?_⟩
  have hc : u.clock.switch = s.clock.switch := by
    simp only [u]
    rw [onClock_clock, setPhase, put_clock, put64_clock]
  rw [toWorkers_clock]
  simp only [v]
  rw [switchSent_clock, attach_switch, placeHeld_clock, hc]

/-! The end of a switch (R118). -/

theorem switchEnd_result : s.switchEnd.get Reg.STEP_SWITCH_STAT_STATE = 0 ∧ s.switchEnd.clock = { s.clock with switch := none } ∧
    RegsBut (fun a => a = Reg.STEP_SWITCH_STAT ∨ a = Reg.FLT_LOG_LOST) s s.switchEnd := by
  unfold switchEnd
  refine ⟨?_, ?_, raise_regsBut (log_regsBut (.inr rfl) (RegsBut.congr (put_regsBut (.inl rfl) .refl) rfl))⟩
  · rw [get_raise, get_log (by decide), get_onClock, get_put_self (by decide)]
    rfl
  · rw [raise_clock, log_clock, onClock_clock, put_clock]

/-- What follows the end of a switch: the halt, a worker's wait for its ARM, or the first step's arming (R118). -/
def switchNext (s : State) : State :=
  if !s.running ∨ s.clock.halting then s.haltNow else if s.joined then s.setPhase 4 else s.arm (s.now + s.lead) (s.now + s.lead) 4

theorem switchDone_of_due {w : Switch} (hs : s.clock.switch = some w) (h5 : s.phase = 5) :
    ∃ gap, s.switchDone =
      ((((if w.retain then s.switchSave else s).switchLoad w.image).put Reg.STEP_SWITCH_GAP_T gap).switchEnd).switchNext := by
  unfold switchDone
  rw [hs]
  exact ⟨_, if_neg (not_not.2 h5)⟩

theorem haltNow_result : s.haltNow.phase = 0 ∧ s.haltNow.get Reg.STEP_CTRL_RUN = 0 ∧
    RegsBut (· ≠ Reg.STEP_SWITCH_STAT) s s.haltNow ∧ s.haltNow.clock.switch = s.clock.switch := by
  unfold haltNow setPhase
  have hr : RegsBut (· ≠ Reg.STEP_SWITCH_STAT) s
      (((s.put Reg.STEP_CTRL_RUN 0).put Reg.STEP_STATUS_PHASE 0).put64 Reg.STEP_SLIP_LO 0) :=
    put64_regsBut (by decide) (by decide) (put_regsBut (by decide) (put_regsBut (by decide) .refl))
  refine ⟨?_, ?_, hr.congr rfl, ?_⟩
  · rw [phase, get_onClock, get_put64_addr (by decide) (by decide), get_put_self (by decide)]
    rfl
  · rw [get_onClock, get_put64_addr (by decide) (by decide), get_put_addr (by decide), get_put_self (by decide)]
    rfl
  · rw [onClock_clock, put64_clock, put_clock, put_clock]

theorem switchNext_result : RegsBut (· ≠ Reg.STEP_SWITCH_STAT) s s.switchNext ∧ s.switchNext.clock.switch = s.clock.switch := by
  obtain ⟨-, -, h1, h2⟩ := haltNow_result (s := s)
  unfold switchNext
  split_ifs
  · exact ⟨h1, h2⟩
  · refine ⟨put_regsBut (by decide) .refl, ?_⟩
    rw [setPhase, put_clock]
  · exact arm_switch

/-- A switch whose image stands on chip is over, and the clock goes on as it was (R118). -/
theorem switchDone_result {w : Switch} {v : State} (hs : s.clock.switch = some w) (h5 : s.phase = 5)
    (hv : v = (if w.retain then s.switchSave else s).switchLoad w.image) :
    let t := s.switchDone
    t.get Reg.STEP_SWITCH_STAT_STATE = 0 ∧ t.clock.switch = none ∧
      (v.running = false ∨ v.clock.halting = true → t.phase = 0 ∧ t.get Reg.STEP_CTRL_RUN = 0) ∧
      (v.running = true → v.clock.halting = false → v.joined = true → t.phase = 4) := by
  obtain ⟨gap, e⟩ := switchDone_of_due hs h5
  rw [e, ← hv]
  clear e hv
  obtain ⟨h1, h2, h3⟩ := switchEnd_result (s := v.put Reg.STEP_SWITCH_GAP_T gap)
  have hr : RegsBut (fun a => a ∈ [Reg.STEP_SWITCH_GAP, Reg.STEP_SWITCH_STAT, Reg.FLT_LOG_LOST]) v
      (v.put Reg.STEP_SWITCH_GAP_T gap).switchEnd :=
    (put_regsBut (B := fun a => a ∈ [Reg.STEP_SWITCH_GAP, Reg.STEP_SWITCH_STAT, Reg.FLT_LOG_LOST]) (by simp) .refl).trans
      (h3.mono fun a ha => by rcases ha with rfl | rfl <;> simp)
  rw [put_clock] at h2
  generalize (v.put Reg.STEP_SWITCH_GAP_T gap).switchEnd = u at h1 h2 hr
  have hrun : u.running = v.running := hr.flag (by decide)
  have hhalt : u.clock.halting = v.clock.halting := by rw [h2]
  have hjoin : u.joined = v.joined := by
    rw [joined, joined, role, role, hr.get (by decide), hr.get (by decide)]
  obtain ⟨k1, k2⟩ := switchNext_result (s := u)
  obtain ⟨k3, k4, -, -⟩ := haltNow_result (s := u)
  refine ⟨?_, ?_, fun h => ?_, fun hr hh hj => ?_⟩
  · rw [k1.get (by simp), h1]
  · rw [k2, h2]
  · have hc : (!u.running) = true ∨ u.clock.halting = true := by
      rw [hrun, hhalt]
      simpa using h
    unfold switchNext
    rw [if_pos hc]
    exact ⟨k3, k4⟩
  · have hc : ¬((!u.running) = true ∨ u.clock.halting = true) := by simp [hrun, hhalt, hr, hh]
    unfold switchNext
    rw [if_neg hc, if_pos (hjoin.trans hj), phase, setPhase, get_put_self (by decide)]
    rfl

end Sys2Proof.Machine.State
end

section
set_option Elab.async false
/-! PROOFS. The request of a switch, its votes, and the image commands as the rules say (R117, R120, R584). -/

namespace Sys2Proof.Machine.State

variable {s t : State}

theorem reply_clock {st : Status} {c : Nat} {l : List Nat} : (s.reply st c l).clock = s.clock := rfl

/-- The switch that a request asks for (R117). -/
def switchAsked (s : State) : Switch :=
  ⟨s.get Reg.STEP_SWITCH_CTRL_IMAGE, s.flag Reg.STEP_SWITCH_CTRL_RETAIN, s.get64 Reg.STEP_SWITCH_AT_LO⟩

section
set_option Elab.async false
variable (hj : s.joined = false) (hr : s.switchReason (s.get Reg.STEP_SWITCH_CTRL_IMAGE) = 0)
include hj hr

theorem switchRequest_of_halted (h : s.running = false) : s.switchRequest =
    (if s.workers.isEmpty then s.switchNow s.switchAsked
      else s.switchVote { s.switchAsked with step := s.stepNum }).reply .ok 0 := by
  unfold switchRequest
  rw [if_neg (by simp [hj])]
  exact (if_neg (not_not.2 hr)).trans (if_pos (by simp [h]))

theorem switchRequest_of_running (h : s.running = true) (ht : s.tooLate (s.get64 Reg.STEP_SWITCH_AT_LO) = false)
    (hw : s.workers = []) : s.switchRequest = (s.switchAccept s.switchAsked).reply .ok 0 := by
  unfold switchRequest
  rw [if_neg (by simp [hj])]
  refine (if_neg (not_not.2 hr)).trans ((if_neg (by simp [h])).trans ((if_neg (by simp [ht])).trans ?_))
  rw [hw]
  rfl

end

theorem switchNow_result {w : Switch} : (s.switchNow w).get Reg.STEP_SWITCH_STAT_STATE = 0 ∧ (s.switchNow w).clock.switch = none := by
  unfold switchNow
  dsimp only
  generalize (if w.retain then s.switchSave else s).switchLoad w.image = u
  obtain ⟨h1, h2, -⟩ := switchEnd_result (s := u)
  exact ⟨h1, by rw [h2]⟩

theorem switchVote_result {w : Switch} : (s.switchVote w).get Reg.STEP_SWITCH_STAT_STATE = 1 ∧
    (s.switchVote w).clock.votes = some (w, s.workers, s.now) := by
  unfold switchVote
  dsimp only
  constructor
  · rw [toWorkers_switchStat.get (by simp), get_onClock, get_put_self (by decide)]
    rfl
  · rw [toWorkers_clock, onClock_clock]

/-- The mark of a switch that is accepted, before it may begin (R117). -/
def switchTaken (s : State) (w : Switch) : State :=
  (s.put Reg.STEP_SWITCH_STAT_STATE 1).onClock fun c => { c with switch := some w, votes := none }

theorem switchAccept_of_waiting {w : Switch} (hj : s.joined = false) (h1 : s.phase ≠ 1) (h4 : s.phase ≠ 4) :
    s.switchAccept w = s.switchTaken w := by
  have hr : RegsBut (· = Reg.STEP_SWITCH_STAT) s (s.switchTaken w) := RegsBut.congr (put_regsBut rfl .refl) rfl
  have hp : (s.switchTaken w).phase = s.phase := hr.get (by decide)
  have hj' : (s.switchTaken w).joined = false := by
    rw [← hj, joined, joined, role, role, hr.get (by decide), hr.get (by decide)]
  have hgo : ¬(((s.switchTaken w).phase = 1 ∨ (s.switchTaken w).phase = 4 ∨ ((s.switchTaken w).joined ∧ (s.switchTaken w).phase = 0)) ∧
      (s.switchTaken w).switchDue) := by
    rw [hp, hj']
    simp [h1, h4]
  exact if_neg hgo

theorem switchRefuse_result {reason : Nat} (hr : reason < 256) : let t := s.switchRefuse reason
    t.get Reg.STEP_SWITCH_STAT_STATE = 3 ∧ t.get Reg.STEP_SWITCH_STAT_REASON = reason ∧ s.sameBytes t := by
  have hb : SameBut [.regs, .events, .objs, .answer] s (s.switchRefuse reason) := switchRefuse_sameBut (by decide) .refl
  refine ⟨?_, ?_, hb.sameBytes rfl rfl⟩
  · rw [switchRefuse, conflict, reply_get, deny, get_log (by decide), refusal, get_setObj, get_setObj,
      get_put_clear (.inl (by decide)), get_put_self (by decide)]
    rfl
  · rw [switchRefuse, conflict, reply_get, deny, get_log (by decide), refusal, get_setObj, get_setObj, get_put_self (by decide),
      Nat.mod_eq_of_lt hr]
    exact Nat.mod_eq_of_lt hr

/-- A vote that does not come refuses the whole switch (R120, R519). -/
theorem voteTimeout_result {n : Nat} {w : Switch} {l : List Nat} {time : Nat} (h : s.clock.votes = some (w, l, time)) (hn : n ∈ l) :
    let t := s.voteTimeout n
    t.clock.votes = none ∧ t.get Reg.STEP_SWITCH_STAT_STATE = 3 ∧ t.get Reg.STEP_SWITCH_STAT_REASON = 0x16 ∧ s.sameBytes t := by
  have h' : (s.reach (time + 20000)).clock.votes = some (w, l, time) := by rw [reach_clock, h]
  have e : s.voteTimeout n = (((s.reach (time + 20000)).switchRefuse 0x16).onClock fun c => { c with votes := none }).toWorkers
      (switchFlit { w with image := 0xFF }) := by
    unfold voteTimeout
    simp only [h]
    rw [if_pos hn, voteFail]
    simp only [h']
  have hb : ∀ a, (s.reach (time + 20000)).rd8 a = s.rd8 a := fun a => rd8_reach
  rw [e]
  obtain ⟨h1, h2, h3⟩ := switchRefuse_result (s := s.reach (time + 20000)) (reason := 0x16) (by decide)
  generalize s.reach (time + 20000) = u at h1 h2 h3 hb
  generalize u.switchRefuse 0x16 = v at h1 h2 h3
  refine ⟨by rw [toWorkers_clock, onClock_clock], ?_, ?_, fun a => ?_⟩
  · rw [toWorkers_switchStat.get (by simp), get_onClock, h1]
  · rw [toWorkers_switchStat.get (by simp), get_onClock, h2]
  · rw [SameBut.sameBytes (toWorkers_sameBut (F := [.regs, .sent, .tlk]) (by decide) .refl) rfl rfl a, rd8_onClock, h3, hb]

/-- Settles O42: a load, a request and a vote each leave the image or the switch that the rules name. -/
theorem imageCommandsComplete : Obligations.ImageCommandsComplete := by
  unfold Obligations.ImageCommandsComplete
  intro s
  refine ⟨fun slot e info hr hi hf ht => ?_, fun slot a info hr hi hf ht => ?_, fun i x h h1 hc hn => ?_, fun i x h h1 => ?_,
    fun slot hr hf => ?_, fun hj hr h hw => ?_, fun hj hr h ht hw h1 h4 => ?_, fun n w l time h hn => ?_,
    fun w v hs h5 hv => ?_, fun i x f h h1 hc hn => ?_, fun hj hr h hw => ?_⟩
  · have hl := imageLoad_of_free (s := s.touchSlot slot.val) (sub := 3) (source := flashBase + (s.touchSlot slot.val).rdLe
      (flashBase + imageArea + 16 * e.val) 4) (length := (s.touchSlot slot.val).rdLe (flashBase + imageArea + 16 * e.val + 4) 4)
      (crc := some ((s.touchSlot slot.val).rdLe (flashBase + imageArea + 16 * e.val + 12) 4)) hr hi hf ht
    refine completes_done (congrArg (fun x : State => s.done (x.auditWrite slot.val 0x2400 3 [] [BitVec.ofNat 8 e.val])) hl) ?_
    obtain ⟨k1, k2⟩ := loadAnswered_result (s := s.touchSlot slot.val) (slot := slot.val) (a := 0x2400) (b := 3)
      (i := s.selOf slot.val 2) (x := (s.touchSlot slot.val).loading slot.val info _ _ _) (old := [])
      (new := [BitVec.ofNat 8 e.val]) rfl
    rw [withQueue_answer, imageAt_congr withQueue_images, k1, k2]
    exact ⟨rfl, rfl⟩
  · have hl := imageLoad_of_free (s := s.touchSlot slot.val) (sub := 8) (source := a.toNat) (length := info.dram) (crc := none)
      hr hi hf ht
    refine completes_done (congrArg (fun x : State => s.done (x.auditWrite slot.val 0x2400 8 [] (leBytes 8 a.toNat))) hl) ?_
    obtain ⟨k1, k2⟩ := loadAnswered_result (s := s.touchSlot slot.val) (slot := slot.val) (a := 0x2400) (b := 8)
      (i := s.selOf slot.val 2) (x := (s.touchSlot slot.val).loading slot.val info a.toNat info.dram none) (old := [])
      (new := leBytes 8 a.toNat) rfl
    rw [withQueue_answer, imageAt_congr withQueue_images, k1, k2]
    exact ⟨rfl, rfl⟩
  · have hl := loadDone_of_right h h1 hc hn
    refine completes_done (congrArg s.done hl) ⟨?_, ?_, fun a ha => ?_⟩
    · rw [imageAt_congr withQueue_images, ← index_of_imageAt h]
      exact congrArg _ imageAt_setImage
    · rw [rdBytes_sameBytes fun _ => rd8_withQueue, rdBytes_sameBytes setImage_sameBytes]
      have hb := rdBytes_wrBytes_self (s := s) (a := x.info.base) (l := s.rdBytes x.source x.length)
      rwa [length_rdBytes] at hb
    · rw [rd8_withQueue, setImage_sameBytes, wrBytes_sameBytesBut a (by rwa [length_rdBytes])]
  · obtain ⟨k1, k2, k3⟩ := imageRefuse_result (s := s) (index_of_imageAt h)
    refine completes_done (congrArg s.done (loadDone_of_bad h h1)) ⟨?_, withQueue_regs_but fun a _ => reg_congr k2,
      sameBytes_withQueue k3⟩
    rw [imageAt_congr withQueue_images, k1]
  · have hu := imageUnload_of_idle (s := s.touchSlot slot.val) hr hf
    refine completes_done (congrArg (fun x : State => s.done (x.auditWrite slot.val 0x2400 4 [] [1#8])) hu) ⟨?_, ?_⟩
    · rw [imageAt_congr withQueue_images, imageAt_auditWrite]
      exact imageAt_unloaded
    · rw [withQueue_answer, answer_auditWrite]
      rfl
  · have e := switchRequest_of_halted hj hr h
    rw [hw] at e
    obtain ⟨k1, k2⟩ := switchNow_result (s := s) (w := s.switchAsked)
    refine completes_done (congrArg s.done e) ⟨?_, ?_, ?_⟩
    · rw [withQueue_answer]
      rfl
    · rw [get_withQueue, reply_get]
      exact k1
    · rw [withQueue_clock, reply_clock]
      exact k2
  · have e := (switchRequest_of_running hj hr h ht hw).trans (congrArg (·.reply .ok 0) (switchAccept_of_waiting hj h1 h4))
    have hb : s.sameBytes (s.switchTaken s.switchAsked) := fun a => (rd8_onClock).trans rd8_put
    have hr : s.sameRegs (s.switchTaken s.switchAsked) [Reg.STEP_SWITCH_STAT] := fun a ha =>
      reg_onClock.trans (reg_put_of_ne (by simpa using ha))
    refine completes_done (congrArg s.done e) ⟨?_, ?_, ?_, fun a ha => ?_, fun a => ?_⟩
    · rw [withQueue_answer]
      rfl
    · rw [get_withQueue, reply_get, switchTaken, get_onClock, get_put_self (by decide)]
      rfl
    · rw [withQueue_clock, reply_clock, switchTaken, onClock_clock]
      rfl
    · rw [reg_withQueue, reply_reg, hr a ha]
    · rw [rd8_withQueue, reply_rd8, hb a]
  · obtain ⟨k1, k2, k3, k4⟩ := voteTimeout_result h hn
    refine completes_done rfl ⟨?_, get_withQueue.trans k2, get_withQueue.trans k3, sameBytes_withQueue k4⟩
    rw [withQueue_clock, k1]
  · obtain ⟨k1, k2, k3, k4⟩ := switchDone_result hs h5 hv
    refine completes_done rfl ⟨get_withQueue.trans k1, ?_, fun h => ?_, fun a b c => ?_⟩
    · rw [withQueue_clock, k2]
    · exact ⟨get_withQueue.trans (k3 h).1, get_withQueue.trans (k3 h).2⟩
    · exact get_withQueue.trans (k4 a b c)
  · have hl := loadDone_of_flaw h h1 hc hn
    obtain ⟨k1, k2, k3⟩ := imageRefuse_result (s := s.flawLog f) (index_of_imageAt h)
    have hb : s.sameBytes (s.flawLog f) := SameBut.sameBytes (flawLog_sameBut (F := [.regs, .events]) (by decide) .refl) rfl rfl
    refine completes_done (congrArg s.done hl) ⟨?_, fun a ha => ?_, fun a => ?_⟩
    · rw [imageAt_congr withQueue_images, k1]
    · rw [reg_withQueue, reg_congr k2, flawLog_regsBut a (by simpa using ha)]
    · rw [rd8_withQueue, k3 a, hb a]
  · have e := switchRequest_of_halted hj hr h
    rw [if_neg (by simpa using hw)] at e
    obtain ⟨k1, k2⟩ := switchVote_result (s := s) (w := { s.switchAsked with step := s.stepNum })
    refine completes_done (congrArg s.done e) ⟨?_, ?_, ?_⟩
    · rw [withQueue_answer]
      rfl
    · rw [get_withQueue, reply_get]
      exact k1
    · rw [withQueue_clock, reply_clock, k2]
      rfl

end Sys2Proof.Machine.State
end

section
set_option Elab.async false
/-! PROOFS. What a tile's update and a pod's pass leave of the reports of the step (R133, R204, R247, R772). -/

namespace Sys2Proof.Machine.State

variable {s s₀ t : State}

/-- The tiles that have reported their update and the pods that have reported their pass stay. -/
def SameReports (s t : State) : Prop := t.delivery.updated = s.delivery.updated ∧ t.delivery.passed = s.delivery.passed

theorem SameReports.refl : SameReports s s := ⟨rfl, rfl⟩

theorem SameReports.trans (h : SameReports s₀ s) (k : SameReports s t) : SameReports s₀ t :=
  ⟨k.1.trans h.1, k.2.trans h.2⟩

theorem SameReports.of_delivery (h : t.delivery = s.delivery) : SameReports s t := by rw [SameReports, h]; simp

theorem SameReports.of_sameBut {F : List Part} (h : SameBut F s t) (hF : F.contains .delivery = false) : SameReports s t := by
  refine .of_delivery (h.eq (f := State.delivery) fun u => ?_)
  simp only [State.outside, hF]

theorem onDelivery_reports {f : Delivery → Delivery} (hu : ∀ q, (f q).updated = q.updated) (hp : ∀ q, (f q).passed = q.passed) :
    SameReports s (s.onDelivery f) := ⟨hu _, hp _⟩

/-! The learning pass (R247 to R251). -/

theorem faultSlot_reports {k p n : Nat} {d : Desc} {b : Bad} {src : Nat} : SameReports s (s.faultSlot k p n d b src) := by
  unfold faultSlot
  extract_lets p0 u v w x
  have hx : SameBut [.regs, .events, .sent] s x := by
    refine put_sameBut (by decide) (put_sameBut (by decide) (put_sameBut (by decide) (put_sameBut (by decide)
      (raise_sameBut (by decide) (put_sameBut (by decide) (put_sameBut (by decide) ?_))))))
    exact keeps_ite (log_sameBut (by decide) .refl) (log_sameBut (by decide) .refl)
  exact (SameReports.of_sameBut hx rfl).trans (onDelivery_reports (fun _ => rfl) fun _ => rfl)

theorem learnPart_reports {l : Learn} {c : Sched} {after sources : Nat} {work : Pass → Pass}
    (hw : ∀ a, SameReports a.st (work a).st) : SameReports s (s.learnPart l c after sources work).1 := by
  have hr := hw ⟨s, 0, 0, 0, 0, 0, 0, false, none⟩
  have hd : ∀ n, SameReports s (s.dropDead n) := fun n =>
    .of_sameBut (dropDead_sameBut (F := [.regs]) (by decide) .refl) rfl
  have hc : ∀ (u : State) (k a b m x : Nat), SameReports u ((u.countOp k 1 a).countOp k 6 b) ∧
      SameReports u (((u.countOp k 1 a).countOp k 6 b).logOnce .de m 0x4305 srcDevice x) := fun u k a b m x =>
    ⟨.of_sameBut (F := [.regs]) (countOp_sameBut (by decide) (countOp_sameBut (by decide) .refl)) rfl,
      .of_sameBut (F := [.regs, .events, .once])
        (logOnce_sameBut (by decide) (countOp_sameBut (by decide) (countOp_sameBut (by decide) .refl))) rfl⟩
  unfold learnPart
  dsimp only
  split
  · split
    · exact hd _
    · exact .refl
  · have hu : ∀ k m x, SameReports s (if (work ⟨s, 0, 0, 0, 0, 0, 0, false, none⟩).odd then
        (((work ⟨s, 0, 0, 0, 0, 0, 0, false, none⟩).st.countOp k 1 (work ⟨s, 0, 0, 0, 0, 0, 0, false, none⟩).syns).countOp k 6
          (work ⟨s, 0, 0, 0, 0, 0, 0, false, none⟩).scales).logOnce .de m 0x4305 srcDevice x
        else ((work ⟨s, 0, 0, 0, 0, 0, 0, false, none⟩).st.countOp k 1 (work ⟨s, 0, 0, 0, 0, 0, 0, false, none⟩).syns).countOp k 6
          (work ⟨s, 0, 0, 0, 0, 0, 0, false, none⟩).scales) := fun k m x =>
      keeps_ite (P := SameReports s) (hr.trans (hc _ k _ _ m x).2) (hr.trans (hc _ k _ _ m x).1)
    split
    · exact (hu _ _ _).trans faultSlot_reports
    · exact hu _ _ _

theorem learnParts_reports {l : Learn} {c : Sched} {drift count : Nat} {parts : List (Nat × Bool × (Pass → Pass))}
    (hw : ∀ x ∈ parts, ∀ a, SameReports a.st (x.2.2 a).st) : SameReports s (s.learnParts l c drift count parts).1 := by
  induction parts generalizing s c drift count with
  | nil => exact .refl
  | cons x r ih =>
    have hp : ∀ after, SameReports s (s.learnPart l c after x.1 x.2.2).1 := fun after =>
      learnPart_reports (hw x (by simp))
    have hr : ∀ {u : State} {c d n}, SameReports u (u.learnParts l c d n r).1 := ih fun y hy => hw y (by simp [hy])
    obtain ⟨n, last, work⟩ := x
    unfold learnParts
    dsimp only at hp ⊢
    split <;> split
    · exact hp _
    · exact (hp _).trans hr
    · exact hp _
    · exact (hp _).trans hr

/-- The parts of a slot's pass: the work of each leaves the reports alone. -/
theorem learnWork_reports {l : Learn} {x : Nat × Bool × (Pass → Pass)}
    (hx : x ∈ if l.d.block then (List.range l.d.nb).map fun b => (l.d.srcCount, decide (b + 1 = l.d.nb), fun a => l.blockPart a b)
      else (List.range (ceilDiv l.d.srcCount 256)).map fun k =>
        (min 256 (l.d.srcCount - 256 * k), false, fun a =>
          (List.range (min 256 (l.d.srcCount - 256 * k))).foldl (fun a i => l.source a (256 * k + i)) a)) (a : Pass) :
    SameReports a.st (x.2.2 a).st := by
  split at hx
  · obtain ⟨b, -, rfl⟩ := List.mem_map.1 hx
    exact .of_sameBut (Learn.blockPart_sameBut (F := [.regs, .mem, .events, .fw]) (by decide) .refl) rfl
  · obtain ⟨k, -, rfl⟩ := List.mem_map.1 hx
    exact .of_sameBut (keeps_foldl_pass _ .refl fun y hy i =>
      Learn.source_sameBut (F := [.regs, .mem, .events, .fw]) (by decide) hy) rfl

theorem learnSlot_reports {p n : Nat} {c : Sched} : SameReports s (s.learnSlot p n c).1 := by
  have hp : ∀ (l : Learn) (c : Sched), SameReports s (learnParts s l c 0 0
      (if l.d.block then (List.range l.d.nb).map fun b => (l.d.srcCount, decide (b + 1 = l.d.nb), fun a => l.blockPart a b)
      else (List.range (ceilDiv l.d.srcCount 256)).map fun k =>
        (min 256 (l.d.srcCount - 256 * k), false, fun a =>
          (List.range (min 256 (l.d.srcCount - 256 * k))).foldl (fun a i => l.source a (256 * k + i)) a))).1 := fun l c =>
    learnParts_reports fun x hx => learnWork_reports hx
  unfold learnSlot
  extract_lets d used opened l parts
  have hl := hp l { c with slotEnds := 0 }
  change SameReports s (s.learnParts l { c with slotEnds := 0 } 0 0 parts).1 at hl
  generalize s.learnParts l { c with slotEnds := 0 } 0 0 parts = x at hl ⊢
  obtain ⟨u, c', drift, count⟩ := x
  dsimp only at hl ⊢
  have hq : SameReports u (((u.put (Reg.DE_PL_DRIFT_USED_DRIFT p n) (min (2 ^ 32 - 1) (used + drift))).count
      (Reg.DE_PL_UPDATES_COUNT p) count).onDelivery fun q => { q with rewritten := q.rewritten.put (64 * p + n) count }) :=
    (SameReports.of_sameBut (count_sameBut (F := [.regs]) (by decide) (put_sameBut (by decide) .refl)) rfl).trans
      (onDelivery_reports (fun _ => rfl) fun _ => rfl)
  refine (hl.trans hq).trans ?_
  split
  · exact .of_sameBut (driftClose_sameBut (F := [.regs, .events]) (by decide) .refl) rfl
  · exact .refl

/-! The scan of a tile (R133 to R149). -/

theorem modAdd_reports {k n : Nat} {l : List (Nat × Nat)} (h : SameReports s₀ s) : SameReports s₀ (s.modAdd k n l) := by
  unfold modAdd
  exact keeps_foldl _ h fun x hx c => keeps_ite (hx.trans (onDelivery_reports (fun _ => rfl) fun _ => rfl)) hx

section
set_option Elab.async false
variable {k n : Nat} {x : Ctx} (h : SameReports s₀ s)
include h

theorem emit_reports {l : List (Nat × Nat)} : SameReports s₀ (s.emit k l) :=
  h.trans (.of_sameBut (emit_sameBut (F := [.regs, .mesh]) (by decide) .refl) rfl)

theorem tap_reports {a : Nat} {l : List Nat} : SameReports s₀ (tap s k a l) :=
  h.trans (.of_sameBut (tap_sameBut (F := [.regs, .mesh, .sent]) (by decide) .refl) rfl)

theorem traceSpikes_reports {m : Nat} {l : List Nat} : SameReports s₀ (s.traceSpikes k n m l) :=
  h.trans (.of_sameBut (traceSpikes_sameBut (F := [.regs, .mesh]) (by decide) .refl) rfl)

theorem traceMembrane_reports : SameReports s₀ (s.traceMembrane k n x) :=
  h.trans (.of_sameBut (traceMembrane_sameBut (F := [.regs, .mesh]) (by decide) .refl) rfl)

theorem put_reports {f : RF} {v : Nat} : SameReports s₀ (s.put f v) :=
  h.trans (.of_sameBut (put_sameBut (F := [.regs]) (by decide) .refl) rfl)

theorem count_reports {f : RF} {v : Nat} : SameReports s₀ (s.count f v) :=
  h.trans (.of_sameBut (count_sameBut (F := [.regs]) (by decide) .refl) rfl)

end

theorem scanNeuron_reports {k j slot i : Nat} {x : Ctx} {bad : List Nat} {a : Scan} (h : SameReports s₀ a.st) :
    SameReports s₀ (scanNeuron k x bad j slot a i).st :=
  h.trans (.of_sameBut (scanNeuron_sameBut (F := [.regs, .mem, .events, .fw]) (by decide) .refl) rfl)

theorem scanPass_reports {k n : Nat} {x : Ctx} {bad : List Nat} {j slot : Nat} (h : SameReports s₀ s) :
    SameReports s₀ (s.scanPass k n x bad j slot).1 := by
  unfold scanPass
  with_reducible repeat' first
    | assumption | intro _ | apply keeps_ite | apply scanNeuron_reports | apply emit_reports | apply tap_reports
    | apply modAdd_reports | apply traceSpikes_reports | apply keeps_foldl_scan

theorem scanContext_reports {k n : Nat} {x : Ctx} {bad : List Nat} {z : Totals} (h : SameReports s₀ s) :
    SameReports s₀ (s.scanContext k n x bad z).1 := by
  have hd : ∀ {u : State} {m v}, SameReports s₀ u → SameReports s₀ (u.onDelivery fun q => { q with lastSat := q.lastSat.put m v }) :=
    fun hu => hu.trans (onDelivery_reports (fun _ => rfl) fun _ => rfl)
  unfold scanContext
  with_reducible repeat' first
    | assumption | intro _ | apply keeps_ite | apply keeps_ite_fst | apply keeps_foldl_fst | apply scanPass_reports
    | apply put_reports | apply count_reports | apply hd | apply traceMembrane_reports

theorem scanTile_reports {k : Nat} {ecc : List (Fin 32 × Nat × EccHit)} : SameReports s (s.scanTile k ecc) := by
  unfold scanTile
  extract_lets u
  have hu : SameReports s u := .of_sameBut (F := [.regs, .events, .once, .objs, .fault])
    (keeps_foldl _ .refl fun x hx e => tileHit_sameBut (by decide) hx) rfl
  generalize hf : (u.latched k).foldl (fun (a : State × Totals) x =>
    let bad := ((ecc.filter fun e => e.1.val = x.1 && e.2.2.fatal).map fun e => e.2.1).eraseDups
    a.1.scanContext k x.1 x.2 bad a.2) (u, ⟨0, 0, 0, 0⟩) = y
  have hy : SameReports s y.1 := by
    rw [← hf]
    exact keeps_foldl_fst (P := SameReports s) _ hu fun a ha j => scanContext_reports ha
  obtain ⟨v, z⟩ := y
  dsimp only at hy ⊢
  refine hy.trans (.of_sameBut (F := [.regs]) ?_ rfl)
  with_reducible repeat' first | exact .refl | exact (by decide) | apply put_sameBut | apply countOp_sameBut | apply add64_sameBut

end Sys2Proof.Machine.State
end

section
set_option Elab.async false
/-! PROOFS. The commands of the neuron engines and of learning (R136, R148, R153 to R155, R239, R247, R254). -/

namespace Sys2Proof.Machine.State

variable {s t : State}

/-! A dead pod (R772) keeps what says that a step's sweeps and passes are over. -/

/-- The registers that a dead pod's drain may change: those of its tiles, and the arbiter's levels. -/
def drainRegs (a : Nat) : Prop :=
  (0x100000000 ≤ a ∧ a < 0x112000000) ∨ (0x180000000 ≤ a ∧ (a - 0x180000000) % 0x100000 < 0x81080)

theorem podTile_lt {p i : Nat} (hp : p < 72) (hi : i < 16) : podTile p i < 1152 := by
  unfold podTile
  omega

theorem inPod_lt {k : Nat} : inPod k < 16 := by
  unfold inPod
  omega

theorem dropDead_regsBut {B : Nat → Prop} {s₀ : State} {k m : Nat} (hB : ∀ a, drainRegs a → B a) (hk : k < 1152)
    (h : RegsBut B s₀ s) : RegsBut B s₀ (s.dropDead k m) := by
  have hd : drainRegs (Reg.DE_DROP_FENCED k) := .inl (by simp only [Reg.DE_DROP_FENCED, tileBase]; omega)
  have hl : drainRegs (Reg.DBG_OPS0_LO k + 8 * 11) := .inl (by simp only [Reg.DBG_OPS0_LO, tileBase]; omega)
  have hh : drainRegs (Reg.DBG_OPS0_LO k + 8 * 11 + 4) := .inl (by simp only [Reg.DBG_OPS0_LO, tileBase]; omega)
  exact add64_regsBut (hB _ hl) (hB _ hh) (count_regsBut (hB _ hd) h)

theorem dqLevel_regsBut {B : Nat → Prop} {s₀ : State} {k : Nat} (hB : ∀ a, drainRegs a → B a) (h : RegsBut B s₀ s) :
    RegsBut B s₀ (s.dqLevel k) := by
  have hq : B (Reg.DE_DQ_LEVEL (podOf k) (inPod k)) := hB _ (.inr (by
    have := inPod_lt (k := k)
    simp only [Reg.DE_DQ_LEVEL, podBase]
    omega))
  exact raiseTo_regsBut hq (put_regsBut hq (raiseTo_regsBut hq (put_regsBut hq h)))

/-- What a drain of a pod leaves: the registers outside its own, memory, and the step's reports; no sweep begins. -/
def Drained (s t : State) : Prop :=
  RegsBut drainRegs s t ∧ SameReports s t ∧ t.delivery.contribs = s.delivery.contribs ∧
    ∀ w ∈ t.delivery.sweeps, w ∈ s.delivery.sweeps

theorem sweepsSettle_drained {p : Nat} (h : Drained s t) : Drained s (t.sweepsSettle p) := by
  obtain ⟨h1, h2, h3, h4⟩ := h
  have ha : drainRegs (Reg.DE_ARB_STATUS p) := .inr (by simp only [Reg.DE_ARB_STATUS, podBase]; omega)
  unfold sweepsSettle
  extract_lets q left ended keys u
  have hu : Drained s u :=
    ⟨h1.congr rfl, h2.trans (onDelivery_reports (fun _ => rfl) fun _ => rfl), h3, fun w hw => h4 w (List.mem_filter.1 hw).1⟩
  refine keeps_ite hu ?_
  obtain ⟨k1, k2, k3, k4⟩ := hu
  exact ⟨put_regsBut ha k1, put_reports k2, by rw [put_delivery, k3], by rw [put_delivery]; exact k4⟩

theorem drainDead_drained {p : Nat} (hp : p < 72) : Drained s (s.drainDead p) := by
  have h0 : Drained s s := ⟨.refl, .refl, rfl, fun _ h => h⟩
  unfold drainDead
  refine keeps_ite h0 (sweepsSettle_drained (keeps_foldl_mem _ h0 fun x hx i hi => ?_))
  have hi := List.mem_range.1 hi
  dsimp only
  refine keeps_ite hx ?_
  obtain ⟨h1, h2, h3, h4⟩ := hx
  generalize (x.delivery.step.at (podTile p i)).length + (x.delivery.stepWait.at (podTile p i)).length +
    (x.delivery.win.at (podTile p i)).length + (x.delivery.winWait.at (podTile p i)).length = k
  have hd : (x.dropDead (podTile p i) k).delivery = x.delivery :=
    (dropDead_sameBut (F := [.regs]) (by decide) .refl).eq (f := State.delivery) fun _ => rfl
  generalize hu : ((x.dropDead (podTile p i) k).onDelivery fun q => { q with
    step := q.step.put (podTile p i) [], stepWait := q.stepWait.put (podTile p i) []
    win := q.win.put (podTile p i) [], winWait := q.winWait.put (podTile p i) [] }) = u
  have hr : RegsBut drainRegs s u := by
    rw [← hu]
    exact RegsBut.congr (dropDead_regsBut (fun _ h => h) (podTile_lt hp hi) h1) onDelivery_regs
  have hq : u.delivery.updated = x.delivery.updated ∧ u.delivery.passed = x.delivery.passed ∧
      u.delivery.contribs = x.delivery.contribs ∧ u.delivery.sweeps = x.delivery.sweeps := by
    rw [← hu, onDelivery_delivery, hd]
    exact ⟨rfl, rfl, rfl, rfl⟩
  obtain ⟨q1, q2, q3, q4⟩ := hq
  have he : (u.dqLevel (podTile p i)).delivery = u.delivery :=
    (dqLevel_sameBut (F := [.regs]) (by decide) .refl).eq (f := State.delivery) fun _ => rfl
  refine ⟨dqLevel_regsBut (fun _ h => h) hr, ?_, ?_, ?_⟩
  · rw [SameReports, he, q1, q2]
    exact h2
  · rw [he, q3, h3]
  · rw [he, q4]
    exact h4

theorem drainDead_sameBytes {p : Nat} : s.sameBytes (s.drainDead p) :=
  SameBut.sameBytes (drainDead_sameBut (F := [.regs, .delivery]) (by decide) .refl) rfl rfl

theorem drainDead_inUpdate {p : Nat} (hp : p < 72) : (s.drainDead p).inUpdate = s.inUpdate := by
  have hc : (s.drainDead p).clock = s.clock :=
    (drainDead_sameBut (F := [.regs, .delivery]) (by decide) .refl).eq (f := State.clock) fun _ => rfl
  have hs : (s.drainDead p).get Reg.STEP_STATUS_PHASE = s.get Reg.STEP_STATUS_PHASE :=
    (drainDead_drained hp).1.get (by simp only [drainRegs, Reg.STEP_STATUS]; omega)
  rw [inUpdate, inUpdate, hc, hs]

theorem drainDead_sweepsDone {p q : Nat} (hp : p < 72) (h : s.sweepsDone q = true) : (s.drainDead p).sweepsDone q = true := by
  obtain ⟨-, -, -, hk⟩ := drainDead_drained (s := s) hp
  simp only [sweepsDone, Bool.not_eq_true', List.any_eq_false] at h ⊢
  exact fun w hw => h w (hk w hw)

theorem drainDead_learning {p q : Nat} (hp : p < 72) : (s.drainDead p).learning q = s.learning q := by
  obtain ⟨hr, -, -, -⟩ := drainDead_drained (s := s) hp
  unfold learning
  refine List.filter_congr fun n hn => ?_
  have hn := List.mem_range.1 hn
  have h1 : (s.drainDead p).flag (Reg.DE_PL_CTRL_EN q n) = s.flag (Reg.DE_PL_CTRL_EN q n) :=
    hr.flag (by simp only [drainRegs, Reg.DE_PL_CTRL, podBase]; omega)
  have h2 : (s.drainDead p).faulted q n = s.faulted q n :=
    hr.flag (by simp only [drainRegs, Reg.DE_PROJ_CTRL, podBase]; omega)
  have h3 : ((s.drainDead p).desc q n).valid = (s.desc q n).valid := by
    simp only [desc]
    rw [drainDead_sameBytes]
  rw [h1, h2, h3]

/-! The update of a tile and the pass of a pod report themselves once (R133, R247). -/

theorem scanReady_drainDead {k : Nat} (hk : k < 1152) (h : s.scanReady k = true) :
    (s.drainDead (podOf k)).scanReady k = true := by
  have hp : podOf k < 72 := by
    simp only [podOf, rowOf, colOf]
    omega
  obtain ⟨-, ⟨h1, h2⟩, h3, -⟩ := drainDead_drained (s := s) hp
  unfold scanReady at h ⊢
  simp only [Bool.and_eq_true] at h
  obtain ⟨⟨⟨⟨ha, hb⟩, hc⟩, hd⟩, he⟩ := h
  simp only
  rw [drainDead_inUpdate hp, h1, h2, h3, drainDead_learning hp, drainDead_sweepsDone hp hc, ha, hb, hd, he]
  rfl

theorem neuronScan_updated {k : Nat} {ecc : List (Fin 32 × Nat × EccHit)} (hk : k < 1152) (h : s.scanReady k = true) :
    (s.neuronScan k ecc).delivery.updated = s.delivery.updated ++ [k] := by
  have hp : podOf k < 72 := by
    simp only [podOf, rowOf, colOf]
    omega
  obtain ⟨-, hr, -, -⟩ := drainDead_drained (s := s) hp
  have hs := scanReady_drainDead hk h
  unfold neuronScan
  generalize s.drainDead (podOf k) = u at hr hs
  dsimp only
  rw [if_neg (by simp [hs]), onDelivery_delivery]
  have hm : ∀ v : State, SameReports v (v.remapResume k) := fun v =>
    .of_sameBut (remapResume_sameBut (F := [.regs, .events, .objs, .fault]) (by decide) .refl) rfl
  have ht : SameReports u ((u.scanTile k ecc).raise (Reg.NE_INT_EN k) 0) :=
    scanTile_reports.trans (.of_sameBut (raise_sameBut (F := [.sent]) (by decide) .refl) rfl)
  have hv : SameReports s ((if u.isHole k || u.fenced k || u.isSpare k then u
      else (u.scanTile k ecc).raise (Reg.NE_INT_EN k) 0).remapResume k) :=
    (hr.trans (keeps_ite (P := SameReports u) .refl ht)).trans (hm _)
  exact congrArg (· ++ [k]) hv.1

theorem learningPass_passed {p : Nat} (hp : p < 72) (h3 : s.get Reg.STEP_STATUS_PHASE = 3) (hs : s.sweepsDone p = true)
    (hn : p ∉ s.delivery.passed) : (s.learningPass p).delivery.passed = s.delivery.passed ++ [p] := by
  obtain ⟨-, hr, -, -⟩ := drainDead_drained (s := s) hp
  have hu : (s.drainDead p).inUpdate = true := by
    rw [drainDead_inUpdate hp, inUpdate, h3]
    rfl
  have hs := drainDead_sweepsDone hp hs
  rw [← hr.2] at hn
  unfold learningPass
  generalize s.drainDead p = u at hr hu hs hn
  have hgo : ¬((!u.inUpdate) = true ∨ (!u.sweepsDone p) = true ∨ p ∈ u.delivery.passed) := by simp [hu, hs, hn]
  dsimp only
  rw [if_neg hgo, onDelivery_delivery]
  have hw : SameReports u (u.rewrittenClear p) := onDelivery_reports (fun _ => rfl) fun _ => rfl
  have hk : ∀ c, SameReports u ((u.learning p).foldl (fun (x : State × Sched) n => x.1.learnSlot p n x.2)
      (u.rewrittenClear p, c)).1 := fun c =>
    keeps_foldl_fst (P := SameReports u) _ hw fun x hx n => hx.trans learnSlot_reports
  have hv : ∀ (v : State) e, SameReports v (v.passStalls p e) := fun v e =>
    .of_sameBut (passStalls_sameBut (F := [.regs, .freeCount]) (by decide) .refl) rfl
  exact congrArg (· ++ [p]) ((hr.trans (hk _)).trans (hv _ _)).2

end Sys2Proof.Machine.State
end

section
set_option Elab.async false
/-! PROOFS. The writes of contexts, windows and learning controls, and the modulator queue (R148 to R155, R239, R254). -/

namespace Sys2Proof.Machine.State

variable {s t : State}

/-! A context's registers (R153 to R155). -/

/-- A write of one of a context's registers leaves EN. -/
def notEnable (off : Nat) (f : FieldRow) : Bool := !(off = 0 && f.lo = 0)

theorem ctxWrite_of_off {k n off : Nat} {w : Word} (h : s.flag (Reg.POP_CTRL_EN k n) = false) :
    s.ctxWrite k n off w = s.writeOnly (Reg.POP_CTRL k n + off) w (notEnable off) := if_pos (by simp [h])

theorem writeOnly_regsBut {a : Nat} {w : Word} {only : FieldRow → Bool} : RegsBut (· = a) s (s.writeOnly a w only) :=
  fun _ hb => reg_writeOnly_ne hb

theorem writeOnly_sameBytes {a : Nat} {w : Word} {only : FieldRow → Bool} : s.sameBytes (s.writeOnly a w only) :=
  SameBut.sameBytes (writeOnly_sameBut (F := [.regs]) (by decide) .refl) rfl rfl

theorem reg_writeOnly_self {a : Nat} {w : Word} {only : FieldRow → Bool} : (s.writeOnly a w only).reg a =
    writeFields ((RegMap.rowOf a).map (·.fields) |>.getD []) only (s.reg a) w := by
  cases hr : RegMap.rowOf a with
  | none =>
    rw [writeOnly_of_none hr]
    rfl
  | some r =>
    rw [writeOnly_of_row hr, reg_setReg, if_pos rfl]
    rfl

theorem ctrlWrite_of_right {k n : Nat} {w : Word} (h : s.flag (Reg.POP_CTRL_EN k n) = false) (hw : getF w 0 1 = 1)
    (hc : (s.ctxWrite k n 0 w).ctxCheck k n = 0) : s.ctrlWrite k n w = (s.ctxWrite k n 0 w).put (Reg.POP_CTRL_EN k n) 1 := by
  unfold ctrlWrite
  dsimp only
  rw [if_neg (by rw [hw]; decide), if_neg (by simp [h]), if_pos hc]

theorem ctrlWrite_of_disable {k n : Nat} {w : Word} (hw : getF w 0 1 = 0) :
    s.ctrlWrite k n w = (s.ctxWrite k n 0 w).put (Reg.POP_CTRL_EN k n) 0 := if_pos hw

theorem getF_or_one {v : Word} : getF (v ||| 1) 0 1 = 1 := by
  rw [getF_bit]
  simp

theorem getF_and_not_one {v : Word} : getF (v &&& ~~~1) 0 1 = 0 := by
  rw [getF_bit]
  simp

/-! The window (R148). -/

theorem windowWrite_result {k : Nat} {v : Word} (hw : ∀ c, c < 32 → s.flag (Reg.POP_CTRL_EN k c) = true →
      s.flag (Reg.POP_CTRL_WINDOWED k c) = false) (h1 : getF v 0 7 ≠ 1) (h64 : getF v 0 7 ≤ 64) :
    (s.windowWrite k v).get (Reg.NE_WINDOW_W k) = getF v 0 7 ∧ RegsBut (· = Reg.NE_WINDOW k) s (s.windowWrite k v) ∧
      s.sameBytes (s.windowWrite k v) := by
  have ha : ¬((List.range 32).any fun n => s.flag (Reg.POP_CTRL_EN k n) && s.flag (Reg.POP_CTRL_WINDOWED k n)) = true := by
    rw [List.any_eq_true]
    rintro ⟨c, hc, h⟩
    obtain ⟨he, hh⟩ := Bool.and_eq_true_iff.1 h
    rw [hw c (List.mem_range.1 hc) he] at hh
    cases hh
  unfold windowWrite
  dsimp only
  by_cases hc : getF v 0 7 = s.get (Reg.NE_WINDOW_W k) ∨ getF v 0 7 = 1 ∨ 64 < getF v 0 7
  · have h : getF v 0 7 = s.get (Reg.NE_WINDOW_W k) := hc.resolve_right fun h => by omega
    rw [if_pos hc]
    exact ⟨h.symm, .refl, fun _ => rfl⟩
  · rw [if_neg hc, if_neg ha]
    refine ⟨?_, put_regsBut rfl .refl, fun _ => rd8_put⟩
    rw [get_put_self (by simp)]
    exact Nat.mod_eq_of_lt (by simp only; omega)

/-! A slot's learning control (R239). -/

theorem plCtrlWrite_of_free {p n : Nat} {v : Word} (h : getF v 0 1 = 0 ∨ s.learnBarred p n = false) :
    s.plCtrlWrite p n v = s.writePlain (Reg.DE_PL_CTRL p n) v := by
  have hb : (getF v 0 1 = 1 && !s.flag (Reg.DE_PL_CTRL_EN p n) && s.learnBarred p n) = false := by
    rcases h with h | h <;> simp [h]
  unfold plCtrlWrite
  dsimp only
  rw [hb, if_neg (by decide), writePlain]
  simp only [Bool.and_false, Bool.not_false]

/-! The modulator queue (R254). -/

theorem modPush32_of_near {step ch v : Nat} (hs : (step + 2 ^ 32 - s.stepNum % 2 ^ 32) % 2 ^ 32 ≤ 255)
    (hq : s.delivery.modQueue.length < 64) :
    (s.modPush32 step ch v).1 = (s.onDelivery fun q => { q with modQueue := q.modQueue ++ [(step % 2 ^ 32, ch, v)] }).modLevel := by
  unfold modPush32
  generalize (step + 2 ^ 32 - s.stepNum % 2 ^ 32) % 2 ^ 32 = d at hs
  have hd : sext 32 d = (d : Int) := by
    unfold sext
    rw [Nat.mod_eq_of_lt (by omega), if_pos (by omega)]
  rw [hd]
  unfold modPush
  rw [if_neg (by omega), if_neg (by omega), if_neg (by omega)]

theorem modPushed_result {e : Nat × Nat × Nat} (hq : s.delivery.modQueue.length < 64) :
    let t := (s.onDelivery fun q => { q with modQueue := q.modQueue ++ [e] }).modLevel
    t.delivery.modQueue = s.delivery.modQueue ++ [e] ∧ t.get Reg.SYNC_MODQ_STAT_LEVEL = s.delivery.modQueue.length + 1 ∧
      RegsBut (· = Reg.SYNC_MODQ_STAT) s t ∧ s.sameBytes t := by
  unfold modLevel
  refine ⟨?_, ?_, put_regsBut rfl (RegsBut.congr .refl onDelivery_regs), fun a => ?_⟩
  · rw [put_delivery, onDelivery_delivery]
  · rw [get_put_self (by decide), onDelivery_delivery]
    simp only [List.length_append, List.length_singleton]
    exact Nat.mod_eq_of_lt (show _ < 2 ^ 7 by omega)
  · rw [rd8_put, rd8_onDelivery]

/-- Settles O46: a scan and a pass report themselves once, and each write lands in its own register. -/
theorem neuronAndLearningCommandsComplete : Obligations.NeuronAndLearningCommandsComplete := by
  unfold Obligations.NeuronAndLearningCommandsComplete
  intro s
  refine ⟨fun n ecc h => ?_, fun n c v h hc => ?_, fun n c v => ?_, fun n c r v h => ?_, fun n v hw h1 h64 => ?_,
    fun p h3 hs hn => ?_, fun p n v h => ?_, fun v hs hq => ?_⟩
  · refine completes_done rfl ?_
    rw [withQueue_delivery]
    exact neuronScan_updated n.isLt h
  · refine completes_done (congrArg s.done (ctrlWrite_of_right h getF_or_one hc)) ?_
    rw [ctxWrite_of_off h]
    refine ⟨?_, fun a ha => ?_, fun a => ?_⟩
    · rw [get_withQueue, get_put_self (by simp)]
      rfl
    · have ha : a ≠ Reg.POP_CTRL n.val c.val := by simpa using ha
      rw [reg_withQueue, reg_put_of_ne ha]
      exact writeOnly_regsBut a ha
    · rw [rd8_withQueue, rd8_put, writeOnly_sameBytes]
  · refine completes_done (congrArg s.done (ctrlWrite_of_disable getF_and_not_one)) ⟨?_, fun a => ?_⟩
    · rw [get_withQueue, get_put_self (by simp)]
      rfl
    · rw [rd8_withQueue, rd8_put]
      exact SameBut.sameBytes (ctxWrite_sameBut (F := [.regs, .sent]) (by decide) .refl) rfl rfl a
  · refine completes_done (congrArg s.done (ctxWrite_of_off h)) ⟨?_, fun a ha => ?_, fun a => ?_⟩
    · rw [reg_withQueue, reg_writeOnly_self]
      rfl
    · rw [reg_withQueue]
      exact writeOnly_regsBut a (by simpa using ha)
    · rw [rd8_withQueue, writeOnly_sameBytes]
  · obtain ⟨k1, k2, k3⟩ := windowWrite_result hw h1 h64
    exact completes_done rfl ⟨get_withQueue.trans k1, withQueue_regs_but fun a ha => k2 a (by simpa using ha), sameBytes_withQueue k3⟩
  · refine completes_done rfl ?_
    rw [withQueue_delivery]
    exact learningPass_passed p.isLt h3 hs hn
  · refine completes_done (congrArg s.done (plCtrlWrite_of_free h)) ⟨reg_withQueue, fun a ha => ?_, fun a => ?_⟩
    · rw [reg_withQueue]
      exact writeOnly_regsBut a (by simpa using ha)
    · rw [rd8_withQueue]
      exact rd8_writePlain
  · have hm : s.get Reg.SYNC_MODQ_STEP_STEP % 2 ^ 32 = s.get Reg.SYNC_MODQ_STEP_STEP := Nat.mod_eq_of_lt get_lt
    have e := modPush32_of_near (ch := getF v 0 3) (v := s.get Reg.SYNC_MODQ_PUSH_LO_VALUE) hs hq
    rw [hm] at e
    obtain ⟨k1, k2, k3, k4⟩ := modPushed_result (e := (s.get Reg.SYNC_MODQ_STEP_STEP, getF v 0 3, s.get Reg.SYNC_MODQ_PUSH_LO_VALUE)) hq
    refine completes_done (congrArg s.done e) ⟨?_, get_withQueue.trans k2, withQueue_regs_but fun a ha => k3 a (by simpa using ha),
      sameBytes_withQueue k4⟩
    rw [withQueue_delivery, k1]

end Sys2Proof.Machine.State
end

section
set_option Elab.async false
/-! PROOFS. Reads and writes of the object dictionary (R559, R560, R567). -/

namespace Sys2Proof.Machine.State

variable {s t : State}

/-! A read that nothing turns away (R559). -/

theorem dictRead_of_right {slot index sub len : Nat} {r : ObjRow} (hr : ObjMap.rowOf index sub = some r)
    (ho : s.objRole r ≤ s.slotRole slot) (ha : r.acc ≠ .wo) (hw : s.windowOk slot index sub = true)
    (he : ¬(index = 0x2010 ∧ sub = 3)) :
    s.dictRead slot index sub len = s.useFree.useFree.reply .ok 0 ((s.objBytes slot index sub r.size).map (·.toNat)) := by
  unfold dictRead
  rw [hr]
  exact (if_neg (not_lt.2 ho)).trans ((if_neg ha).trans ((if_neg (by simp [hw])).trans (if_neg he)))

/-! A write of a selector (R567). -/

/-- What the table says of an object that is a selector. -/
theorem selector_row {index sub : Nat} {r : ObjRow} (hm : (index, sub) ∈ selectorObjs) (hr : ObjMap.rowOf index sub = some r) :
    r.acc = .rw ∧ r.size ≠ 0 ∧ r.index ≠ 0x2B03 ∧ r.persist ≠ .husk := by
  have h : (selectorObjs.all fun x => (ObjMap.rowOf x.1 x.2).all fun r =>
      decide (r.acc = .rw ∧ r.size ≠ 0 ∧ r.index ≠ 0x2B03 ∧ r.persist ≠ .husk)) = true := by decide +kernel
  have h := List.all_eq_true.1 h _ hm
  rw [hr] at h
  simpa using h

theorem selectorOf_selector {index sub : Nat} (hm : (index, sub) ∈ selectorObjs) :
    selectorOf index sub = none ∧ ¬(0x1400 ≤ index ∧ index < 0x1C00) := by
  have h : (selectorObjs.all fun x => decide (selectorOf x.1 x.2 = none ∧ ¬(0x1400 ≤ x.1 ∧ x.1 < 0x1C00))) = true := by decide
  exact of_decide_eq_true (List.all_eq_true.1 h _ hm)

theorem commandWrite_selector {slot index sub v : Nat} {data : List Byte} {offset : Option Nat} {image : ImageInfo} {saved : Bool}
    (hm : (index, sub) ∈ selectorObjs) : s.commandWrite slot index sub v data offset image saved = none := by
  have hg : ∀ {i j : Nat}, goObject i j = false → ¬(goObject i j = true ∧ v ≠ 1) := fun h h' => by
    rw [h] at h'
    cases h'.1
  simp only [selectorObjs, List.mem_cons, Prod.mk.injEq, List.not_mem_nil, or_false] at hm
  rcases hm with ⟨rfl, rfl⟩ | ⟨rfl, rfl⟩ | ⟨rfl, rfl⟩ | ⟨rfl, rfl⟩ | ⟨rfl, rfl⟩ | ⟨rfl, rfl⟩ | ⟨rfl, rfl⟩ | ⟨rfl, rfl⟩ <;>
    exact if_neg (hg (by decide))

theorem mem_of_idxOf {index sub k : Nat} (h : selectorObjs.idxOf? (index, sub) = some k) : (index, sub) ∈ selectorObjs := by
  by_contra hm
  rw [List.idxOf?_eq_none_iff.2 hm] at h
  cases h

theorem valueWrite_of_selector {slot index sub k v : Nat} (hk : selectorObjs.idxOf? (index, sub) = some k)
    (hi : s.itemExists k v = true) :
    s.valueWrite slot index sub v = { s with selectors := s.selectors.put (8 * k + slot) v }.reply .ok 0 := by
  have hv : s.valueReason slot index sub v = 0 := by
    unfold valueReason
    rw [hk]
    exact if_pos hi
  unfold valueWrite
  rw [hv, hk]
  exact if_neg (not_not.2 rfl)

/-- The checks of a write that stand before what it commands or holds (R559). -/
theorem dictPut_of_right {slot index sub : Nat} {data : List Byte} {offset : Option Nat} {image : ImageInfo} {saved : Bool} {r : ObjRow}
    (hr : ObjMap.rowOf index sub = some r) (ho : s.objRole r ≤ s.slotRole slot) (ha : r.acc ≠ .ro ∧ r.acc ≠ .const)
    (hs : r.size ≠ 0) (hd : data.length = r.size) (hl : r.least ≤ ofLe data) (hm : ofLe data ≤ r.most)
    (hw : s.windowOk slot index sub = true) : ∃ old, s.dictPut slot index sub data offset image saved =
      match s.commandWrite slot index sub (ofLe data) data offset image saved with
      | some s => s
      | none =>
        if r.persist = .husk then s.huskWrite slot index sub (ofLe data) old data
        else if 0x1400 ≤ index ∧ index < 0x1C00 then s.pdoWrite slot index sub (ofLe data) old data
        else s.valueWrite slot index sub (ofLe data) := by
  unfold dictPut
  rw [hr]
  dsimp only
  rw [if_neg (not_lt.2 ho), if_neg (not_or.2 ha), if_neg (by rw [if_neg hs]; simp [hd]), if_neg (by omega), if_neg (by simp [hw])]
  exact ⟨_, rfl⟩

/-- A write of an object that commands nothing and that no authorised path guards takes a value (R559). -/
theorem dictPut_of_value {slot index sub : Nat} {data : List Byte} {offset : Option Nat} {image : ImageInfo} {saved : Bool} {r : ObjRow}
    (hr : ObjMap.rowOf index sub = some r) (ho : s.objRole r ≤ s.slotRole slot) (ha : r.acc = .rw)
    (hs : r.size ≠ 0) (hd : data.length = r.size) (hl : r.least ≤ ofLe data) (hm : ofLe data ≤ r.most)
    (hw : s.windowOk slot index sub = true) (hc : s.commandWrite slot index sub (ofLe data) data offset image saved = none)
    (hp : r.persist ≠ .husk) (hi : ¬(0x1400 ≤ index ∧ index < 0x1C00)) :
    s.dictPut slot index sub data offset image saved = s.valueWrite slot index sub (ofLe data) := by
  obtain ⟨old, e⟩ := dictPut_of_right (offset := offset) (image := image) (saved := saved) hr ho (by simp [ha]) hs hd hl hm hw
  rw [hc] at e
  exact e.trans ((if_neg hp).trans (if_neg hi))

theorem dictPut_of_selector {slot index sub k : Nat} {data : List Byte} {offset : Option Nat} {image : ImageInfo} {saved : Bool}
    {r : ObjRow} (hr : ObjMap.rowOf index sub = some r) (hk : selectorObjs.idxOf? (index, sub) = some k)
    (ho : r.role ≤ s.slotRole slot) (hd : data.length = r.size) (hl : r.least ≤ ofLe data) (hm : ofLe data ≤ r.most)
    (hi : s.itemExists k (ofLe data) = true) : s.dictPut slot index sub data offset image saved =
      { s with selectors := s.selectors.put (8 * k + slot) (ofLe data) }.reply .ok 0 := by
  have hmem := mem_of_idxOf hk
  obtain ⟨ha, hs, hb, hp⟩ := selector_row hmem hr
  obtain ⟨hn, hx⟩ := selectorOf_selector hmem
  have ho' : s.objRole r ≤ s.slotRole slot := by
    rw [objRole, if_neg fun h => hb h.1]
    exact ho
  have hw : s.windowOk slot index sub = true := by
    rw [windowOk, hn]
    rfl
  rw [dictPut_of_value hr ho' ha hs hd hl hm hw (commandWrite_selector hmem) hp hx, valueWrite_of_selector hk hi]

/-! An audited write: the entry, whether or not a wipe holds the log (R549, R560). -/

theorem audit_count {kind slot role obj status old new : Nat} :
    (s.audit kind slot role obj status old new).sec.appended = s.sec.appended + (if s.wiping then 0 else 1) ∧
      s.sameBytesBut (s.audit kind slot role obj status old new) (auditAt s.sec.appended) 32 := by
  cases h : s.wiping
  · obtain ⟨h1, -, -, -, h2⟩ := audit_result (kind := kind) (slot := slot) (role := role) (obj := obj) (status := status)
      (old := old) (new := new) h
    exact ⟨by rw [h1]; rfl, h2⟩
  · rw [audit_of_wiping h]
    exact ⟨rfl, fun _ _ => rfl⟩

/-- An audit entry counts in one object, and leaves every other. -/
theorem obj_audit {kind slot role o status old new i j : Nat} (h : ObjMap.key i j ≠ ObjMap.key 0x2010 5) :
    (s.audit kind slot role o status old new).obj i j = s.obj i j := by
  have hc : ∀ u : State, (u.countObj 32 0x2010 5).obj i j = u.obj i j := fun u => by
    unfold countObj
    rw [obj_setObj, if_neg h]
  unfold audit
  refine keeps_ite (P := fun z : State => z.obj i j = s.obj i j) rfl ?_
  extract_lets held seq prev body u v w
  have hu : u.obj i j = s.obj i j := (hc _).trans (obj_congr count_objs)
  have hv : v.obj i j = s.obj i j :=
    keeps_ite (P := fun z : State => z.obj i j = s.obj i j) (keeps_ite (P := fun z : State => z.obj i j = s.obj i j)
      ((obj_congr (log_objs.trans onSec_objs)).trans hu) hu) rfl
  have hw : w.obj i j = v.obj i j :=
    obj_congr ((wrBytes_sameBut (F := [.regs, .mem, .events, .fw]) (by decide) .refl).eq (f := State.objs) fun _ => rfl)
  rw [sealDirty, obj_congr put_objs, obj_congr put_objs, obj_congr put_objs, obj_congr onSec_objs, hw, hv]

/-! A write of an object of its own: the update's confirmation time (R565). -/

/-- Nothing turns a value of this object away, and it is held as it is written, beside the mark that a save is due. -/
theorem valueWrite_of_confirm {slot v : Nat} : ∃ l, s.valueWrite slot 0x2C00 7 v =
    ({ s.setObj 0x2C00 7 v with unsaved := l }).reply .ok 0 := by
  have hk : selectorObjs.idxOf? (0x2C00, 7) = none := by decide
  have hr : s.valueReason slot 0x2C00 7 v = 0 := by
    unfold valueReason
    rw [hk]
    rfl
  have hm : ∀ (c : State) l, s.modeReason c l 0x2C00 7 0 v = 0 := fun c l => rfl
  have hi : s.itemOf slot 0x2C00 7 = 0 := rfl
  have hs : ∀ u : State, (u.objTake 0x2C00 7 0 v) = u.setObj 0x2C00 7 v := fun u => by
    have hf : u.fieldsOf 0x2C00 7 0 = [] := by
      have h : (plainFields.find? fun x => x.1 = 0x2C00 && x.2.1 = 7) = none := by decide +kernel
      have e : u.fieldsOf 0x2C00 7 0 = ((plainFields.find? fun x => x.1 = 0x2C00 && x.2.1 = 7).map (·.2.2)).getD [] := rfl
      rw [e, h]
      rfl
    have ho : u.objApply 0x2C00 7 0 v = u.objStore 0x2C00 7 0 v := rfl
    have hp : pairOf 0x2C00 7 = none := by decide
    have e : u.objTake 0x2C00 7 0 v = u.objApply 0x2C00 7 0 v := rfl
    rw [e, ho, objStore, hp, hf]
  have hw : ∀ u : State, ∃ l, u.keepWrite 0x2C00 7 0 v = { u with unsaved := l } := fun u => by
    unfold keepWrite
    rw [if_neg (by decide)]
    split
    · exact ⟨_, rfl⟩
    · exact ⟨u.unsaved, rfl⟩
  obtain ⟨l, hl⟩ := hw (s.setObj 0x2C00 7 v)
  refine ⟨l, ?_⟩
  unfold valueWrite
  dsimp only
  rw [hr, if_neg (not_not.2 rfl), hk]
  dsimp only
  have hp : (s.running && stagePlace 0x2C00 7 v != 0) = false := Bool.and_false _
  rw [hp, hi, hm, if_neg (not_not.2 rfl), if_neg (by decide), if_neg (by decide), hs, hl]

end Sys2Proof.Machine.State
end

section
set_option Elab.async false
/-! PROOFS. The reset of a projection's drift through the authorised path (R255, R256). -/

namespace Sys2Proof.Machine

/-- The row of a register in a pod's window is that of its offset (R42). -/
theorem rowOf_pod {p o : Nat} (hp : p < 72) (ho : o < 0x100000) :
    RegMap.rowOf (podBase p + o) = (RegMap.podBlock o).bind fun x => RegMap.rowAt x.1 x.2 := by
  have ha : 0x180000000 ≤ podBase p + o ∧ podBase p + o < 0x184800000 := by simp only [podBase]; omega
  have hm : (podBase p + o - 0x180000000) % 0x100000 = o := by simp only [podBase]; omega
  have hb : RegMap.blockOf (podBase p + o) = RegMap.podBlock o := by
    rw [RegMap.blockOf, if_neg (by omega), if_neg (by simp; omega), if_pos (by simpa using ha), hm]
  rw [RegMap.rowOf, hb]
  rfl

namespace State

variable {s t : State}

/-- The one field of a slot's drift used, which the authorised path writes (R256). -/
def driftField : FieldRow := ⟨0, 32, .auth, 0, 0, 4294967295⟩

theorem authFields_drift {p n : Nat} (hp : p < 72) (hn : n < 64) : authFields (Reg.DE_PL_DRIFT_USED p n) = [driftField] := by
  have h : ∀ n < 64, ((RegMap.podBlock (0x81600 + 0x4 * n)).bind fun x => RegMap.rowAt x.1 x.2).map (·.fields) =
      some [driftField] := by decide +kernel
  have e : Reg.DE_PL_DRIFT_USED p n = podBase p + (0x81600 + 0x4 * n) := by simp only [Reg.DE_PL_DRIFT_USED]; omega
  have hr := h n hn
  rw [← rowOf_pod hp (by omega), ← e] at hr
  obtain ⟨r, hr, hf⟩ := Option.map_eq_some_iff.1 hr
  rw [authFields, hr]
  dsimp only
  rw [hf]
  rfl

/-- Where a slot's drift used stands among the authorised registers. -/
theorem drift_apart {p n a : Nat} (ha : a = Reg.DE_PL_DRIFT_USED p n) (hp : p < 72) (hn : n < 64) :
    channelOf a = none ∧ pinOf a = none ∧ driftOf a = some (p, n) ∧ a ≠ Reg.SEC_HUSK_WIPE ∧ a ≠ Reg.DBG_INJ_CTRL ∧
      ¬(Reg.DBG_INJ_TARGET ≤ a ∧ a ≤ Reg.DBG_INJ_CTRL) ∧ ¬(Reg.PWR_RAIL_WIN 0 ≤ a ∧ a < Reg.PWR_RAIL_WIN 8) ∧
      a ≠ Reg.PWR_GOV_LIMIT ∧ ¬auditRegs a ∧ a ≠ Reg.FLT_LOG_LOST := by
  have hl : a = 0x180000000 + 0x100000 * p + 0x81600 + 4 * n := ha
  clear ha
  refine ⟨if_neg ?_, if_neg ?_, ?_, ?_, ?_, ?_, ?_, ?_, ?_, ?_⟩
  · simp only [Reg.EGR_CH_CTRL]; omega
  · simp only [Reg.EGR_GPO_CFG]; omega
  · unfold driftOf
    dsimp only
    rw [if_pos (by omega)]
    congr 2 <;> omega
  · simp only [Reg.SEC_HUSK_WIPE]; omega
  · simp only [Reg.DBG_INJ_CTRL]; omega
  · simp only [Reg.DBG_INJ_TARGET, Reg.DBG_INJ_CTRL]; omega
  · simp only [Reg.PWR_RAIL_WIN]; omega
  · simp only [Reg.PWR_GOV_LIMIT]; omega
  · simp only [auditRegs, writeRegs, injectRegs, Reg.SEC_AUDIT_STAT, Reg.SEC_AUDIT_HEAD, Reg.SEC_HUSK_STAT,
      Reg.DBG_INJ_STAT, Reg.DBG_INJ_DONE, Reg.FLT_LOG_LOST, Reg.SEC_SIG_STAT]
    omega
  · simp only [Reg.FLT_LOG_LOST]; omega

/-- The word of a slot's drift used with 0 written through the path. -/
theorem getF_authWord_drift {p n : Nat} (hp : p < 72) (hn : n < 64) {old w : Word} :
    getF (authWord (Reg.DE_PL_DRIFT_USED p n) old (setF w 0 32 0)) 0 32 = 0 := by
  have hz : getF (setF w 0 32 0) 0 32 = 0 := getF_setF (by decide)
  rw [authWord, authFields_drift hp hn]
  simp only [List.foldl_cons, List.foldl_nil, driftField]
  rw [hz, if_pos (by decide)]
  exact getF_setF (by decide)

/-- What an authorised write of a slot's drift used is, while no wipe runs (R256, R543). -/
theorem authPut_of_drift {slot p n : Nat} {w : Word} (hp : p < 72) (hn : n < 64) (hw : s.wiping = false) (hr : 2 ≤ s.slotRole slot) :
    ∃ role old new, s.authPut slot (Reg.DE_PL_DRIFT_USED p n) w =
      (((s.setReg (Reg.DE_PL_DRIFT_USED p n) (authWord (Reg.DE_PL_DRIFT_USED p n) (s.reg (Reg.DE_PL_DRIFT_USED p n)) w)).authAfter s
        (Reg.DE_PL_DRIFT_USED p n)).audit 1 slot role (Reg.DE_PL_DRIFT_USED p n) 0 old new, .ok) := by
  have hf := authFields_drift hp hn
  generalize ha : Reg.DE_PL_DRIFT_USED p n = a at hf ⊢
  obtain ⟨h1, h2, h3, h4, h5, h6, h7, h8, -, -⟩ := drift_apart ha.symm hp hn
  have hrole : s.authRole a w.toNat = 2 := by
    rw [authRole, if_neg h6, if_neg fun h => h8 h.1]
  have hok : ∀ x : State, x.authOk a = true := fun x => by
    rw [authOk, h1, h2]
    exact (if_neg h7).trans (if_neg h8)
  unfold authPut
  rw [if_neg (by simp [hw]), hf, hrole, if_neg (by simp; omega)]
  dsimp only
  rw [hok, if_neg (by decide), if_neg h4, if_neg h5]
  exact ⟨_, _, _, rfl⟩

/-- What the reset of one slot's drift leaves as it was, and what it does (R256). -/
theorem authPut_drift_result {slot p n : Nat} (hs : slot < 8) (hp : p < 72) (hn : n < 64) (hw : s.wiping = false)
    (hr : 2 ≤ s.slotRole slot) : ∃ t,
      s.authPut slot (Reg.DE_PL_DRIFT_USED p n) (setF (s.reg (Reg.DE_PL_DRIFT_USED p n)) 0 32 0) = (t, .ok) ∧
      t.get (Reg.DE_PL_DRIFT_USED_DRIFT p n) = 0 ∧ t.wiping = false ∧ t.slotRole slot = s.slotRole slot ∧
      t.sec.appended = s.sec.appended + 1 ∧ ∀ p' n', p' < 72 → n' < 64 → s.get (Reg.DE_PL_DRIFT_USED_DRIFT p' n') = 0 →
        t.get (Reg.DE_PL_DRIFT_USED_DRIFT p' n') = 0 := by
  obtain ⟨role, old, new, e⟩ := authPut_of_drift (w := setF (s.reg (Reg.DE_PL_DRIFT_USED p n)) 0 32 0) hp hn hw hr
  have hword := getF_authWord_drift (old := s.reg (Reg.DE_PL_DRIFT_USED p n)) (w := s.reg (Reg.DE_PL_DRIFT_USED p n)) hp hn
  generalize authWord (Reg.DE_PL_DRIFT_USED p n) (s.reg (Reg.DE_PL_DRIFT_USED p n)) (setF (s.reg (Reg.DE_PL_DRIFT_USED p n)) 0 32 0)
    = word at e hword
  generalize hu : (s.setReg (Reg.DE_PL_DRIFT_USED p n) word).authAfter s (Reg.DE_PL_DRIFT_USED p n) = u at e
  refine ⟨_, e, ?_⟩
  have hafter : u = s.setReg (Reg.DE_PL_DRIFT_USED p n) word ∨ u = (s.setReg (Reg.DE_PL_DRIFT_USED p n) word).driftClose p n := by
    obtain ⟨h1, h2, h3, -, -, -, -, -, -, -⟩ := drift_apart rfl hp hn
    rw [← hu, authAfter, h1, h2, h3]
    dsimp only
    split
    · exact .inr rfl
    · exact .inl rfl
  have hregs : RegsBut (fun a => a = Reg.DE_PL_STATUS p ∨ a = Reg.FLT_LOG_LOST) (s.setReg (Reg.DE_PL_DRIFT_USED p n) word) u := by
    rcases hafter with h | h <;> rw [h]
    · exact .refl
    · exact driftClose_regsBut (.inl rfl) (.inr rfl) .refl
  have hsame : SameBut [.regs, .events] s u := by
    rcases hafter with h | h <;> rw [h]
    · exact setReg_sameBut (by decide) .refl
    · exact driftClose_sameBut (by decide) (setReg_sameBut (by decide) .refl)
  have hsec : u.sec = s.sec := hsame.eq (f := State.sec) fun _ => rfl
  have hobjs : u.objs = s.objs := hsame.eq (f := State.objs) fun _ => rfl
  have hlow : ∀ f : RF, f.addr < 0x2000000 → f.addr ≠ Reg.FLT_LOG_LOST → u.get f = s.get f := fun f hf hl => by
    rw [hregs.get, get_setReg_addr]
    · simp only [Reg.DE_PL_DRIFT_USED, podBase]; omega
    · rintro (h | h)
      · simp only [Reg.DE_PL_STATUS, podBase] at h
        omega
      · exact hl h
  have hdrift : ∀ q m, q < 72 → m < 64 → u.get (Reg.DE_PL_DRIFT_USED_DRIFT q m) =
      (s.setReg (Reg.DE_PL_DRIFT_USED p n) word).get (Reg.DE_PL_DRIFT_USED_DRIFT q m) := fun q m hq hm => by
    refine hregs.get ?_
    rintro (h | h)
    · simp only [Reg.DE_PL_DRIFT_USED, Reg.DE_PL_STATUS, podBase] at h
      omega
    · exact (drift_apart rfl hq hm).2.2.2.2.2.2.2.2.2 h
  have haudit : ∀ q m, q < 72 → m < 64 → (u.audit 1 slot role (Reg.DE_PL_DRIFT_USED p n) 0 old new).get
      (Reg.DE_PL_DRIFT_USED_DRIFT q m) = u.get (Reg.DE_PL_DRIFT_USED_DRIFT q m) := fun q m hq hm =>
    audit_regsBut'.get (drift_apart rfl hq hm).2.2.2.2.2.2.2.2.1
  have hwu : u.wiping = false := (flag_congr (hlow _ (by decide) (by decide))).trans hw
  have hself : (s.setReg (Reg.DE_PL_DRIFT_USED p n) word).get (Reg.DE_PL_DRIFT_USED_DRIFT p n) = 0 := by
    rw [State.get, reg_setReg, if_pos rfl]
    exact hword
  refine ⟨by rw [haudit p n hp hn, hdrift p n hp hn, hself], (flag_congr audit_wiping).trans hwu, ?_, by rw [audit_appended hwu, hsec],
    fun q m hq hm h => ?_⟩
  · have hk : ∀ f : RF, f.addr = Reg.SEC_SESS slot → (u.audit 1 slot role (Reg.DE_PL_DRIFT_USED p n) 0 old new).get f = s.get f :=
      fun f hf => by
        rw [audit_regsBut'.get (by rw [hf]; exact fun h => sess_ne_auditRegs hs h rfl), hlow f (by rw [hf]; simp only [Reg.SEC_SESS]; omega)
          (by rw [hf]; simp only [Reg.SEC_SESS, Reg.FLT_LOG_LOST]; omega)]
    rw [slotRole, slotRole, flag_congr (hk _ rfl), hk _ rfl, obj_audit (by decide), obj_congr hobjs]
  · rw [haudit q m hq hm, hdrift q m hq hm]
    by_cases hx : Reg.DE_PL_DRIFT_USED q m = Reg.DE_PL_DRIFT_USED p n
    · rw [State.get, reg_setReg, if_pos hx]
      exact hword
    · rw [get_setReg_addr hx, h]

/-- The reset of a list of slots' drift: each reads 0, with an entry for each (R255, R256, R544). -/
theorem authObject_drift {slot : Nat} (hs : slot < 8) (l : List (Nat × Nat)) (hl : ∀ x ∈ l, x.1 < 72 ∧ x.2 < 64)
    (hw : s.wiping = false) (hr : 2 ≤ s.slotRole slot) :
    let t := s.authObject slot 0x2524 5 0 (l.map fun x => Reg.DE_PL_DRIFT_USED_DRIFT x.1 x.2)
    t.answer = [0, 0] ∧ t.wiping = false ∧ t.sec.appended = s.sec.appended + l.length ∧
      (∀ x ∈ l, t.get (Reg.DE_PL_DRIFT_USED_DRIFT x.1 x.2) = 0) ∧
      ∀ p n, p < 72 → n < 64 → s.get (Reg.DE_PL_DRIFT_USED_DRIFT p n) = 0 → t.get (Reg.DE_PL_DRIFT_USED_DRIFT p n) = 0 := by
  induction l generalizing s with
  | nil => exact ⟨rfl, (flag_congr reply_get).trans hw, rfl, by simp, fun p n _ _ h => reply_get.trans h⟩
  | cons x l ih =>
    obtain ⟨hp, hn⟩ := hl x List.mem_cons_self
    obtain ⟨u, e, h1, h2, h3, h4, h5⟩ := authPut_drift_result hs hp hn hw hr
    obtain ⟨k1, k2, k3, k4, k5⟩ := ih (s := u) (fun y hy => hl y (List.mem_cons_of_mem x hy)) h2 (h3 ▸ hr)
    rw [List.map_cons, authObject, e]
    refine ⟨k1, k2, ?_, fun y hy => ?_, fun p n hp hn h => k5 p n hp hn (h5 p n hp hn h)⟩
    · rw [k3, h4, List.length_cons]
      omega
    · rcases List.mem_cons.1 hy with rfl | hy
      · exact k5 _ _ hp hn h1
      · exact k4 y hy

theorem holders_lt {proj : Nat} : ∀ x ∈ s.holders proj, x.1 < 72 ∧ x.2 < 64 := by
  intro x hx
  simp only [holders, List.mem_flatMap, List.mem_map, List.mem_filter, List.mem_range] at hx
  obtain ⟨p, hp, y, ⟨hy, -⟩, rfl⟩ := hx
  unfold validSlots at hy
  obtain ⟨n, hn, e⟩ := List.mem_filterMap.1 hy
  dsimp only at e
  split at e
  · cases e
    exact ⟨hp, List.mem_range.1 hn⟩
  · cases e

end State

end Sys2Proof.Machine
end

section
set_option Elab.async false
/-! PROOFS. The gateways and the dictionary's commands (R256, R510, R523, R559, R560). -/

namespace Sys2Proof.Machine.State

variable {s t : State}

/-! The gateways (R510, R523). -/

theorem gateEnd_result {n st abort : Nat} : let t := s.gateEnd n st abort
    t.obj (gateOf n) 5 = st ∧ t.obj (gateOf n) 6 = abort ∧ t.gates = s.gates ∧ t.tlkIn = s.tlkIn := by
  unfold gateEnd
  refine ⟨?_, ?_, ?_, ?_⟩
  · rw [obj_setObj, if_neg (by simp [ObjMap.key]), obj_setObj, if_pos rfl]
  · rw [obj_setObj, if_pos rfl]
  · rw [setObj_gates, setObj_gates]
  · rw [setObj_tlkIn, setObj_tlkIn]

/-- The state of a request that was sent to a worker, with the mark that it waits (R523). -/
def gateWaiting (s : State) (n : Nat) : State :=
  { s with gates := { s.gates with
    waiting := s.gates.waiting ++ [⟨n, s.gates.next, s.now⟩]
    next := (s.gates.next + 1) % 2 ^ 32 } }

theorem gateExecute_of_right {slot n v : Nat} (hr : 1 ≤ s.slotRole slot) (hv : v = 1 ∨ v = 2) (ho : s.obj (gateOf n) 5 ≠ 1)
    (hb : bits (s.get Reg.TLK_HIER_STAT_ATTACHED) n 1 = 1) :
    ∃ flits, s.gateExecute slot n v = (((s.gateEnd n 1 0).tlkSend n 3 flits).gateWaiting n).reply .ok 0 := by
  unfold gateExecute
  dsimp only
  rw [if_neg (not_lt.2 hr), if_neg (by omega), if_neg ho, if_neg (by omega)]
  exact ⟨_, rfl⟩

theorem gateExecute_result {slot n v : Nat} (hr : 1 ≤ s.slotRole slot) (hv : v = 1 ∨ v = 2) (ho : s.obj (gateOf n) 5 ≠ 1)
    (hb : bits (s.get Reg.TLK_HIER_STAT_ATTACHED) n 1 = 1) : let t := s.gateExecute slot n v
    t.answer = [0, 0] ∧ t.obj (gateOf n) 5 = 1 ∧ t.obj (gateOf n) 6 = 0 ∧
      t.gates.waiting = s.gates.waiting ++ [⟨n, s.gates.next, s.now⟩] ∧ t.gates.next = (s.gates.next + 1) % 2 ^ 32 := by
  obtain ⟨flits, e⟩ := gateExecute_of_right hr hv ho hb
  obtain ⟨h1, h2, h3, -⟩ := gateEnd_result (s := s) (n := n) (st := 1) (abort := 0)
  rw [e]
  have hs : SameBut [.regs, .sent, .tlk] (s.gateEnd n 1 0) ((s.gateEnd n 1 0).tlkSend n 3 flits) := tlkSend_sameBut (by decide) .refl
  have hnow : ((s.gateEnd n 1 0).tlkSend n 3 flits).now = s.now := by
    have hk : ∀ a, a < 0x1090000 → ((s.gateEnd n 1 0).tlkSend n 3 flits).reg a = s.reg a := fun a ha => by
      have hr : RegsBut (fun a => ¬a < 0x1090000) (s.gateEnd n 1 0) ((s.gateEnd n 1 0).tlkSend n 3 flits) :=
        tlkPump_regsBut (by simp only [Reg.TLK_SEQ]; omega) (onTlk_regsBut .refl)
      rw [hr a (not_not.2 ha)]
      exact reg_congr rfl
    unfold now get64
    rw [hk _ (by decide), hk _ (by decide)]
  have ho : ((s.gateEnd n 1 0).tlkSend n 3 flits).objs = (s.gateEnd n 1 0).objs := hs.eq (f := State.objs) fun _ => rfl
  have hg : ((s.gateEnd n 1 0).tlkSend n 3 flits).gates = s.gates := (hs.eq (f := State.gates) fun _ => rfl).trans h3
  generalize (s.gateEnd n 1 0).tlkSend n 3 flits = u at ho hg hnow
  have hw : ∀ i j, ((u.gateWaiting n).reply .ok 0).obj i j = u.obj i j := fun i j => obj_congr rfl
  refine ⟨rfl, ?_, ?_, ?_, ?_⟩
  · rw [hw, obj_congr ho, h1]
  · rw [hw, obj_congr ho, h2]
  · rw [← hg, ← hnow]
    rfl
  · rw [← hg]
    rfl

/-- The state of worker `n` without a request that waits (R523). -/
def gateDropped (s : State) (n : Nat) : State :=
  { s with gates := { s.gates with waiting := s.gates.waiting.filter fun x => x.worker != n } }

theorem gateTimeout_of_waiting {n : Nat} {q : GateRequest} (h : (s.gates.waiting.find? fun q => q.worker = n) = some q) :
    ∃ x, s.gateTimeout n = (((s.reach x).gateDropped n).gateEnd n 3 0x05040000).log .tlk n 0x8205 srcManager := by
  unfold gateTimeout
  rw [h]
  exact ⟨_, rfl⟩

theorem gateTimeout_result {n : Nat} {q : GateRequest} (h : (s.gates.waiting.find? fun q => q.worker = n) = some q) :
    let t := s.gateTimeout n
    t.obj (gateOf n) 5 = 3 ∧ t.obj (gateOf n) 6 = 0x05040000 ∧
      t.gates.waiting = (s.gates.waiting.filter fun x => x.worker != n) ∧ s.sameBytes t := by
  obtain ⟨x, e⟩ := gateTimeout_of_waiting h
  have hb : s.sameBytes (s.gateTimeout n) :=
    SameBut.sameBytes (gateTimeout_sameBut (F := [.regs, .events, .objs, .gates]) (by decide) .refl) rfl rfl
  refine ⟨?_, ?_, ?_, hb⟩ <;> rw [e]
  · obtain ⟨h1, -, -, -⟩ := gateEnd_result (s := (s.reach x).gateDropped n) (n := n) (st := 3) (abort := 0x05040000)
    rw [obj_congr log_objs, h1]
  · obtain ⟨-, h2, -, -⟩ := gateEnd_result (s := (s.reach x).gateDropped n) (n := n) (st := 3) (abort := 0x05040000)
    rw [obj_congr log_objs, h2]
  · obtain ⟨-, -, h3, -⟩ := gateEnd_result (s := (s.reach x).gateDropped n) (n := n) (st := 3) (abort := 0x05040000)
    have hg : (s.reach x).gates = s.gates := reach_gates
    rw [log_gates, h3, gateDropped, hg]

/-- The state of a manager that takes a response of worker `n` (R510). -/
def gateTaken (s : State) (n : Nat) (flits : List (List Byte)) : State :=
  { s with gates := { s.gates with
    waiting := s.gates.waiting.filter fun x => x.worker != n
    data := s.gates.data.put n (dictData flits (min 240 (flitLe (flits.headD []) 6 2))) } }

theorem gateResponse_of_waiting {n : Nat} {flits : List (List Byte)} (ho : flitByte (flits.headD []) 4 = 0)
    (h : (s.gates.waiting.any fun q => q.worker = n && q.id = flitLe (flits.headD []) 0 4) = true) :
    s.gateResponse n flits = (s.gateTaken n flits).gateEnd n 2 (flitLe (flits.headD []) 8 4) := by
  obtain ⟨y, hy, hn⟩ := List.any_eq_true.1 h
  have hs : (s.gates.waiting.find? fun q => q.worker = n && q.id = flitLe (flits.headD []) 0 4).isSome = true :=
    List.find?_isSome.2 ⟨y, hy, hn⟩
  obtain ⟨z, hf⟩ := Option.isSome_iff_exists.1 hs
  unfold gateResponse
  dsimp only
  rw [hf]
  dsimp only
  rw [if_pos ho, if_pos ho]
  rfl

theorem proxyTake_of_manager {port : Nat} {x : Nat × Nat × List (List Byte)} {image : ImageInfo} {saved : Bool} (hr : s.role ≠ 2)
    (hx : s.tlkFirst port 3 = some x) :
    s.proxyTake port image saved = ({ s with tlkIn := s.tlkIn.erase x } : State).gateResponse port x.2.2 := by
  have hr' : ({ s with tlkIn := s.tlkIn.erase x } : State).role ≠ 2 := by
    rw [role] at hr ⊢
    exact fun h => hr ((get_congr rfl).symm.trans h)
  unfold proxyTake
  rw [hx]
  exact if_neg fun h => hr' h.1

/-! A reset of drift as the dictionary's request (R256, R560). -/

theorem desc_congr {p n : Nat} (h : s.sameBytes t) : t.desc p n = s.desc p n := by
  unfold desc
  simp only [h _, rdLe_sameBytes h]

theorem holders_congr {proj : Nat} (h : s.sameBytes t) : t.holders proj = s.holders proj := by
  unfold holders validSlots
  simp only [desc_congr h]

theorem dictPut_of_driftReset {slot : Nat} (hr : 2 ≤ s.slotRole slot) (hw : s.windowOk slot 0x2524 5 = true) :
    s.dictPut slot 0x2524 5 [1] none .blank true = s.driftReset slot (s.selOf slot 3) := by
  have hrow : ObjMap.rowOf 0x2524 5 = some ⟨0x2524, 1, 5, 1, 1, false, .wo, 2, 0, .vol, 0, 255⟩ := by decide +kernel
  obtain ⟨old, e⟩ := dictPut_of_right (s := s) (slot := slot) (data := [1]) (offset := none) (image := .blank) (saved := true) hrow
    (by rw [objRole, if_neg (by simp)]; exact hr) (by simp) (by simp) rfl (by decide) (by decide) hw
  have hc : s.commandWrite slot 0x2524 5 (ofLe [1]) [1] none .blank true = some (s.driftReset slot (s.selOf slot 3)) :=
    if_neg (by decide)
  rw [hc] at e
  exact e

/-- The state on which a request is served: two free values are drawn, and the slot was heard. -/
def served (s : State) (slot : Nat) : State := s.useFree.useFree.touchSlot slot

theorem dictWrite_eq {slot index sub : Nat} {data : List Byte} {offset : Option Nat} {image : ImageInfo} {saved : Bool} :
    s.dictWrite slot index sub data offset image saved =
      ((s.served slot).dictPut slot index sub data offset image saved).auditWrite slot index sub (s.oldBytes slot index sub) data :=
  rfl

theorem driftReset_result {slot : Nat} (hs : slot < 8) (hr : 2 ≤ s.slotRole slot) (hw : s.windowOk slot 0x2524 5 = true)
    (hi : s.wiping = false) : let t := s.dictWrite slot 0x2524 5 [1] none .blank true
    t.answer = [0, 0] ∧ (∀ x ∈ s.holders (s.selOf slot 3), t.get (Reg.DE_PL_DRIFT_USED_DRIFT x.1 x.2) = 0) ∧
      t.sec.appended = s.sec.appended + (s.holders (s.selOf slot 3)).length + 1 := by
  have hh : (s.served slot).holders (s.selOf slot 3) = s.holders (s.selOf slot 3) := holders_congr fun _ => rfl
  have e : (s.served slot).dictPut slot 0x2524 5 [1] none .blank true = (s.served slot).driftReset slot (s.selOf slot 3) :=
    dictPut_of_driftReset hr hw
  obtain ⟨k1, k2, k3, k4, -⟩ := authObject_drift (s := s.served slot) hs ((s.served slot).holders (s.selOf slot 3))
    holders_lt ((flag_congr (get_congr rfl)).trans hi) hr
  rw [← driftReset, ← e] at k1 k2 k3 k4
  rw [hh] at k3 k4
  intro t
  have et : t = _ := dictWrite_eq
  clear_value t
  generalize (s.served slot).dictPut slot 0x2524 5 [1] none .blank true = u at k1 k2 k3 k4 et
  rw [et]
  refine ⟨answer_auditWrite.trans k1, fun x hx => ?_, ?_⟩
  · obtain ⟨hp, hn⟩ := holders_lt x hx
    exact (audit_regsBut'.get (drift_apart rfl hp hn).2.2.2.2.2.2.2.2.1).trans (k4 x hx)
  · refine (audit_count (s := u)).1.trans ?_
    rw [k2, k3]
    rfl

/-! A write of a value, as a request (R559, R560, R567). -/

theorem selectorWrite_result {slot index sub k : Nat} {data : List Byte} {offset : Option Nat} {image : ImageInfo} {saved : Bool}
    {r : ObjRow} (hr : ObjMap.rowOf index sub = some r) (hk : selectorObjs.idxOf? (index, sub) = some k)
    (ho : r.role ≤ s.slotRole slot) (hd : data.length = r.size) (hl : r.least ≤ ofLe data) (hm : ofLe data ≤ r.most)
    (hi : (s.served slot).itemExists k (ofLe data) = true) : let t := s.dictWrite slot index sub data offset image saved
    t.selOf slot k = ofLe data ∧ t.answer = [0, 0] ∧ t.sec.appended = s.sec.appended + (if s.wiping then 0 else 1) ∧
      s.sameBytesBut t (auditAt s.sec.appended) 32 := by
  have e := dictPut_of_selector (s := s.served slot) (offset := offset) (image := image) (saved := saved) hr hk ho hd hl hm hi
  intro t
  have et : t = _ := dictWrite_eq
  clear_value t
  rw [e] at et
  generalize hu : ({ s.served slot with selectors := (s.served slot).selectors.put (8 * k + slot) (ofLe data) } : State).reply .ok 0 = u at et
  have h1 : u.selectors.at (8 * k + slot) = ofLe data := by
    rw [← hu]
    exact Nums.at_put.trans (if_pos rfl)
  have h2 : u.sec.appended = s.sec.appended := by rw [← hu]; rfl
  have h3 : u.wiping = s.wiping := by rw [← hu]; exact flag_congr (get_congr rfl)
  have h4 : u.answer = [0, 0] := by rw [← hu]; rfl
  have h5 : s.sameBytes u := fun a => by rw [← hu]; exact rd8_congr rfl rfl
  obtain ⟨c1, c2⟩ := audit_count (s := u) (kind := 0) (slot := slot) (role := u.slotRole slot) (obj := index + 65536 * sub)
    (status := u.answered) (old := digest3 (s.oldBytes slot index sub)) (new := digest3 data)
  rw [et]
  refine ⟨?_, answer_auditWrite.trans h4, ?_, fun a ha => ?_⟩
  · have hsel : (u.auditWrite slot index sub (s.oldBytes slot index sub) data).selectors = u.selectors :=
      audit_sameBut'.eq (f := State.selectors) fun _ => rfl
    rw [selOf, hsel, h1]
  · rw [auditWrite, c1, h2, h3]
  · rw [auditWrite, c2 a (by rwa [h2]), h5 a]

theorem confirmWrite_result {slot : Nat} {data : List Byte} {image : ImageInfo} {saved : Bool} (hr : 2 ≤ s.slotRole slot)
    (hd : data.length = 2) (hl : 10 ≤ ofLe data) (hm : ofLe data ≤ 3600) :
    let t := s.dictWrite slot 0x2C00 7 data none image saved
    t.obj 0x2C00 7 = ofLe data ∧ t.answer = [0, 0] ∧ s.sameBytesBut t (auditAt s.sec.appended) 32 := by
  have hrow : ObjMap.rowOf 0x2C00 7 = some ⟨0x2C00, 1, 7, 1, 2, false, .rw, 2, 300, .flash, 10, 3600⟩ := by decide +kernel
  have hc : (s.served slot).commandWrite slot 0x2C00 7 (ofLe data) data none image saved = none := if_neg (by
    rintro ⟨h, -⟩
    revert h
    decide)
  have e := dictPut_of_value (s := s.served slot) (slot := slot) (offset := none) (image := image) (saved := saved) hrow
    (by rw [objRole, if_neg (by simp)]; exact hr) rfl (by simp) hd hl hm rfl hc (by simp) (by decide)
  obtain ⟨l, hv⟩ := valueWrite_of_confirm (s := s.served slot) (slot := slot) (v := ofLe data)
  rw [hv] at e
  intro t
  have et : t = _ := dictWrite_eq
  clear_value t
  rw [e] at et
  generalize hu : ({ (s.served slot).setObj 0x2C00 7 (ofLe data) with unsaved := l } : State).reply .ok 0 = u at et
  have h1 : u.obj 0x2C00 7 = ofLe data := by
    rw [← hu]
    exact (obj_congr (s := (s.served slot).setObj 0x2C00 7 (ofLe data)) rfl).trans (obj_setObj.trans (if_pos rfl))
  have h2 : u.sec.appended = s.sec.appended := by rw [← hu]; rfl
  have h4 : u.answer = [0, 0] := by rw [← hu]; rfl
  have h5 : s.sameBytes u := fun a => by rw [← hu]; exact rd8_congr rfl rfl
  obtain ⟨-, c2⟩ := audit_count (s := u) (kind := 0) (slot := slot) (role := u.slotRole slot) (obj := 0x2C00 + 65536 * 7)
    (status := u.answered) (old := digest3 (s.oldBytes slot 0x2C00 7)) (new := digest3 data)
  rw [et]
  refine ⟨(obj_audit (by decide)).trans h1, answer_auditWrite.trans h4, fun a ha => ?_⟩
  rw [auditWrite, c2 a (by rwa [h2]), h5 a]

/-- Settles O34: each request is answered, and its entry, its packet and its log change nothing that the rules name. -/
theorem dictionaryCommandsComplete : Obligations.DictionaryCommandsComplete := by
  unfold Obligations.DictionaryCommandsComplete
  intro s
  refine ⟨fun slot index sub len r hr ho ha hw he => ?_, fun slot index sub data r k image saved hr hk ho hd hl hm hi => ?_,
    fun slot a b image saved hr hl hm => ?_, fun slot hr hw hi => ?_, fun slot n v hr hv ho hb => ?_, fun n q h => ?_,
    fun port x image saved hr hx ho h => ?_⟩
  · have e := dictRead_of_right (s := s.touchSlot slot.val) (len := len) hr ho ha hw he
    exact completes_done (congrArg s.done e) ⟨rfl, fun a _ => rfl, fun a => rfl⟩
  · obtain ⟨k1, k2, k3, k4⟩ := selectorWrite_result (offset := none) (image := image.getD .blank) (saved := saved) hr hk ho hd hl hm hi
    refine completes_done rfl ⟨?_, ?_, ?_, fun a ha => rd8_withQueue.trans (k4 a ha)⟩
    · rw [selOf, withQueue_selectors]
      exact k1
    · rw [withQueue_answer, k2]
    · rw [withQueue_sec, k3]
  · obtain ⟨k1, k2, k3⟩ := confirmWrite_result (data := [a, b]) (image := image.getD .blank) (saved := saved) hr rfl hl hm
    refine completes_done rfl ⟨(obj_congr withQueue_objs).trans k1, ?_, fun a ha => rd8_withQueue.trans (k3 a ha)⟩
    rw [withQueue_answer]
    exact k2
  · obtain ⟨k1, k2, k3⟩ := driftReset_result slot.isLt hr hw hi
    refine completes_done rfl ⟨?_, fun x hx => get_withQueue.trans (k2 x hx), ?_⟩
    · rw [withQueue_answer, k1]
    · rw [withQueue_sec, k3]
  · have hb' : bits ((s.touchSlot slot.val).get Reg.TLK_HIER_STAT_ATTACHED) n.val 1 = 1 := by rw [get_touchSlot, hb]
    obtain ⟨k1, k2, k3, k4, k5⟩ := gateExecute_result (s := s.touchSlot slot.val) (slot := slot.val) hr hv ho hb'
    refine completes_done rfl ?_
    have hq : (s.touchSlot slot.val).now = s.now := now_congr rfl
    generalize (s.touchSlot slot.val).gateExecute slot.val n.val v.val = u at k1 k2 k3 k4 k5
    have hg : (u.auditWrite slot.val (gateOf n.val) 4 [] (leBytes 1 v.val)).gates = u.gates :=
      audit_sameBut'.eq (f := State.gates) fun _ => rfl
    refine ⟨?_, ?_, ?_, ?_, ?_⟩
    · rw [withQueue_answer, answer_auditWrite, k1]
    · rw [obj_congr withQueue_objs, auditWrite, obj_audit (by simp only [ObjMap.key, gateOf]; omega), k2]
    · rw [obj_congr withQueue_objs, auditWrite, obj_audit (by simp only [ObjMap.key, gateOf]; omega), k3]
    · rw [withQueue_gates, hg, k4, hq]
      rfl
    · rw [withQueue_gates, hg, k5]
      rfl
  · obtain ⟨k1, k2, k3, k4⟩ := gateTimeout_result h
    refine completes_done rfl ⟨(obj_congr withQueue_objs).trans k1, (obj_congr withQueue_objs).trans k2, ?_, sameBytes_withQueue k4⟩
    rw [withQueue_gates, k3]
  · have e := (proxyTake_of_manager (image := image.getD .blank) (saved := saved) hr hx).trans
      (gateResponse_of_waiting (s := { s with tlkIn := s.tlkIn.erase x }) ho h)
    refine completes_done (congrArg s.done e) ?_
    obtain ⟨k1, k2, k3, k4⟩ := gateEnd_result (s := ({ s with tlkIn := s.tlkIn.erase x } : State).gateTaken port.val x.2.2) (n := port.val)
      (st := 2) (abort := flitLe (x.2.2.headD []) 8 4)
    have hr : ∀ a, ((({ s with tlkIn := s.tlkIn.erase x } : State).gateTaken port.val x.2.2).gateEnd port.val 2
        (flitLe (x.2.2.headD []) 8 4)).reg a = s.reg a := fun a => reg_congr rfl
    refine ⟨?_, (obj_congr withQueue_objs).trans k1, (obj_congr withQueue_objs).trans k2, ?_, fun a _ => reg_withQueue.trans (hr a)⟩
    · rw [withQueue_tlkIn, k4]
      rfl
    · rw [withQueue_gates, k3]
      rfl

end Sys2Proof.Machine.State
end

section
set_option Elab.async false
/-! PROOFS. Accesses of memory and registers from cores, from tiles' requests and from the host (R10 to R14, R39 to R46, R276,
R480 to R482). -/

namespace Sys2Proof.Machine.State

variable {s t u : State}

/-! Four bytes of memory (R276, R480). -/

theorem toNat_rdLe {a : Nat} : (BitVec.ofNat 32 (s.rdLe a 4)).toNat = s.rdLe a 4 := by
  rw [BitVec.toNat_ofNat]
  exact Nat.mod_eq_of_lt rdLe_lt

/-- What a write of the enabled bytes of a word leaves (R480). -/
theorem memAccess_write {a be : Nat} {w : Word} : ∃ t, s.memAccess a (some w) be = (t, .ok, 0) ∧
    SameBut [.regs, .mem, .events, .fw] s t ∧ RegsBut writeRegs s t ∧
    t.rdLe a 4 = mergeBytes (s.rdLe a 4) w.toNat be ∧ s.sameBytesBut t a 4 := by
  by_cases hb : be = 0
  · refine ⟨s, if_pos hb, .refl, .refl, ?_, fun _ _ => rfl⟩
    rw [hb, mergeBytes_none rdLe_lt]
  · refine ⟨_, if_neg hb, wrLe_sameBut (by decide) .refl, wrLe_regsBut (fun _ h => h) .refl, ?_, wrLe_sameBytesBut⟩
    rw [rdLe_wrLe_self]
    exact Nat.mod_eq_of_lt mergeBytes_lt

theorem sameRegs_of_writeRegs (h : RegsBut writeRegs s t) :
    s.sameRegs t [Reg.DBG_INJ_STAT, Reg.DBG_INJ_DONE, Reg.FLT_LOG_LOST, Reg.SEC_SIG_STAT] := fun a ha => by
  refine h a ?_
  simp only [List.mem_cons, List.not_mem_nil, or_false, not_or] at ha
  obtain ⟨h1, h2, h3, h4⟩ := ha
  simp [writeRegs, injectRegs, h1, h2, h3, h4]

/-! Requests at a tile (R276). -/

/-- A request for a byte of its own data memory is an access of four bytes there (R40, R42). -/
theorem serveAccess_of_data {k a be : Nat} {src : Sender} {wr : Option Word} (hs : s.shut k = false)
    (ht : tileAtAddr (a / 4 * 4) = some k) (ho : (a / 4 * 4 - 0x100000000) % 0x40000 < 0x28000) :
    s.serveAccess k a src wr be .clean = s.memAccess (a / 4 * 4) wr be := by
  generalize hb : a / 4 * 4 = b at ht ho
  have hk : (b - 0x100000000) / 0x40000 = k ∧ 0x100000000 ≤ b := by
    unfold tileAtAddr at ht
    split at ht
    next h => exact ⟨Option.some.inj ht, h.1⟩
    · cases ht
  have ha : 0x100000000 + 0x40000 * k + (b - 0x100000000) % 0x40000 = b := by omega
  unfold serveAccess
  dsimp only
  rw [hb, if_pos ht, tileAccess]
  rw [hk.1, hs, if_neg (by decide), tileWindow]
  dsimp only
  rw [if_pos ho, ha]
  rfl

theorem regRequest_of_data {k : Nat} {write : Bool} {p : Pip} (hp : s.takeCtrl k (if write then 6 else 5) = some (p, u))
    (hs : s.shut k = false) (ht : tileAtAddr (reqAddr p / 4 * 4) = some k)
    (ho : (reqAddr p / 4 * 4 - 0x100000000) % 0x40000 < 0x28000) {wr : Option Word}
    (hw : wr = if write then some (BitVec.ofNat 32 (p.b 64 32)) else none) {x : Ended}
    (hx : u.memAccess (reqAddr p / 4 * 4) wr (p.b 120 4) = x) :
    s.regRequest k write .clean = x.1.sendCtrl k (regResponse k (reqFrom p) (reqTag p) x.2.2.toNat x.2.1.code) := by
  have hu : u.shut k = false := by
    obtain ⟨f, rfl⟩ := takeCtrl_onMesh hp
    exact shut_onMesh.trans hs
  unfold regRequest
  rw [hp]
  dsimp only
  rw [← hw, serveAccess_of_data hu ht ho, hx]

/-! An access that travels (R41, R276). -/

theorem sendAccess_of_free {src : Sender} {k a g be : Nat} {wr : Option Word}
    (hg : ((List.range 256).find? fun g => s.accesses.all fun x => x.1 != g) = some g) :
    ∃ p, s.sendAccess src k a wr be = { s.sendCtrl (1152 + rowOf k) p with
      accesses := s.accesses ++ [(g, src.code)], answer := [] } := by
  rw [sendAccess, hg]
  exact ⟨_, rfl⟩

theorem hartAccess_of_door {n : Fin 4} {m : Bool} {a g : Nat} {wr : Option Word} {ecc : Ecc} (hd : (s.doorOf a).isSome = true)
    (hg : ((List.range 256).find? fun g => s.accesses.all fun x => x.1 != g) = some g) :
    ∃ k p, s.hartAccess n m a wr ecc = { s.sendCtrl (1152 + rowOf k) p with
      accesses := s.accesses ++ [(g, n.val)], answer := [] } := by
  obtain ⟨k, hk⟩ := Option.isSome_iff_exists.1 hd
  obtain ⟨p, e⟩ := sendAccess_of_free (src := .hart n m) (k := k) (a := a) (wr := wr) (be := 15) hg
  refine ⟨k, p, ?_⟩
  rw [hartAccess, hk]
  exact e

/-! A core's accesses that end at once (R39, R46, R219). -/

/-- A hart's store to no range of the manager-local region is an error, and is logged (R39). -/
theorem hartAccess_of_nowhere {n : Fin 4} {m : Bool} {a : Nat} {wr : Option Word} {ecc : Ecc} (h1 : 0x2000000 ≤ a)
    (h2 : a < 0x8000000) : ∃ c x y, s.hartAccess n m a wr ecc =
      ((s.log .flt 0 c srcManager x y).useFree).coreEnded Status.accessError.code 0 := by
  have hd : s.doorOf a = none := by
    unfold doorOf tileAtAddr
    rw [if_neg (by omega)]
    exact if_neg (by omega)
  have hl : s.localAccess (.hart n m) a wr 15 ecc = s.nowhere (.hart n m) a := by
    unfold localAccess
    rw [if_neg (by omega), if_neg (by simp only [sramBase, huskBase]; omega), if_neg (by simp only [huskBase, huskEnd]; omega), if_neg (by omega),
      if_neg (by omega)]
  refine ⟨s.nextFree 16, (Sender.hart n m).code + 256 * (a / 2 ^ 32), a, ?_⟩
  rw [hartAccess, hd]
  dsimp only
  rw [if_pos (by omega), hl]
  rfl

theorem tileCoreAccess_of_fault {k a : Nat} {wr : Option Word} {ecc : Ecc} (hs : s.isSpare k = false) (hg : s.coreGated k = false)
    (ha : (0x40000 ≤ a ∧ a < 0x100000) ∨ 0x200000 ≤ a) :
    s.tileCoreAccess k a wr ecc = s.coreEnded Status.accessError.code 0 := by
  unfold tileCoreAccess
  rw [if_neg (by simp [hs, hg]), if_neg (by omega), if_neg (by omega)]
  rfl

/-- A read of a pod's high-water register returns it, and its marks restart from the present levels (R219). -/
theorem wordRead_of_podMark {r : Nat} (hm : hasMark r = true) (ht : tileAtAddr r = none) : s.wordRead r =
    (s.setReg r (setF (setF (s.view r) 16 7 (getF (s.view r) 0 7)) 24 6 (getF (s.view r) 8 6))).give (s.view r) := by
  unfold wordRead
  rw [ht]
  dsimp only
  rw [if_pos hm, markRead, ht]

/-! The windows of the host (R480 to R482). -/

theorem hostEnd_ok {x : Ended} {w : Word} (h : x.2 = (.ok, w)) : hostEnd x = { x.1 with answer := [0, w.toNat] } := by
  obtain ⟨t, y⟩ := x
  dsimp only at h
  rw [h]
  rfl

/-- A read of four bytes by the host. -/
theorem hostEnd_memRead {a be : Nat} : hostEnd (s.memAccess a none be) = { s with answer := [0, s.rdLe a 4] } := by
  rw [hostEnd_ok (x := s.memAccess a none be) rfl, toNat_rdLe]
  rfl

theorem bar0_of_unused {x be : Nat} {wr : Option Word} (h1 : 0x10800 ≤ x) (h2 : x < 0x18000) :
    s.bar0 x wr be = { s with answer := [0, 0] } := by
  unfold bar0
  rw [if_neg (by omega), if_neg (by omega), if_neg (by omega), if_neg (by omega)]
  rfl

/-- A plain read of a host register through BAR0 (R480). -/
theorem bar0_of_register {x be : Nat} (hx : x < 0x2000) (hp : plainRead (hostBase + x) = true) (hl : s.latches.at (hostBase + x) = 0) :
    ∃ l, s.bar0 x none be = { s with latches := l, answer := [0, (s.view (hostBase + x)).toNat] } := by
  obtain ⟨l, e⟩ := pairRead_of_unlatched hl
  have hr : (s.regAccess .host (hostBase + x) none be) = ({ s with latches := l }, .ok, s.view (hostBase + x)) := by
    unfold regAccess
    dsimp only
    rw [(wordRead_of_plain hp).trans e]
    simp
  have hb : s.bar0 x none be = hostEnd (s.regAccess .host (hostBase + x) none be) := by
    unfold bar0 hostBlock
    dsimp only
    rw [if_pos (by omega), if_pos (by omega)]
  exact ⟨l, by rw [hb, hr, hostEnd_ok rfl]⟩

theorem bar0_of_mailbox {x be : Nat} {w : Word} (h1 : 0x4000 ≤ x) (h2 : x < 0x4100) (hb : s.flag Reg.HOST_MBX_STAT_BUSY = false) :
    s.bar0 x (some w) be = hostEnd (s.memAccess (hostBase + x) (some w) be) := by
  unfold bar0 hostBlock
  rw [if_pos (by omega), if_neg (by omega), if_neg (by simp), if_neg (by omega), if_neg (by simp [hb])]

theorem bar2_of_mapped {x be a : Nat} {wr : Option Word} (ha : a = dramBase + s.get Reg.HOST_WIN_BASE_GIB * 2 ^ 30 + x)
    (hd : (s.dramAt a).isSome = true) (hk : s.dramOk a = true) (hp : s.rangePoisoned a 4 = false) :
    s.bar2 x wr be = hostEnd (s.memAccess a wr be) := by
  unfold bar2 dramAccess
  rw [← ha, if_neg (by simpa using Option.isSome_iff_ne_none.1 hd), if_neg (by simp [hk, hp])]

theorem doorOf_isSome {a : Nat} (h : (0x100000000 ≤ a ∧ a < 0x112000000) ∨ (0x180000000 ≤ a ∧ a < 0x184800000)) :
    (s.doorOf a).isSome = true := by
  unfold doorOf tileAtAddr
  by_cases ht : 0x100000000 ≤ a ∧ a < 0x112000000
  · rw [if_pos ht]
    rfl
  · rw [if_neg ht]
    dsimp only
    rw [if_pos (h.resolve_left ht)]
    rfl

/-- The address that an offset of BAR4 stands for, in a tile's window or a pod's (R481). -/
def bar4Addr (x : Nat) : Nat := if x < 0x12000000 then 0x100000000 + x else 0x180000000 + (x - 0x12000000)

theorem bar4Addr_window {x : Nat} (hx : x < 0x16800000) :
    (0x100000000 ≤ bar4Addr x ∧ bar4Addr x < 0x112000000) ∨ (0x180000000 ≤ bar4Addr x ∧ bar4Addr x < 0x184800000) := by
  unfold bar4Addr
  split <;> omega

theorem bar4_of_window {x be g : Nat} {wr : Option Word} {ecc : Ecc} (hx : x < 0x16800000)
    (hg : ((List.range 256).find? fun g => s.accesses.all fun y => y.1 != g) = some g) : ∃ k p, s.bar4 x wr be ecc =
      { s.sendCtrl (1152 + rowOf k) p with accesses := s.accesses ++ [(g, 5)], answer := [] } := by
  have hd := doorOf_isSome (s := s) (bar4Addr_window hx)
  have e : s.bar4 x wr be ecc = match s.doorOf (bar4Addr x) with
      | some t => s.sendAccess .host t (bar4Addr x) wr be
      | none => s := if_pos hx
  generalize bar4Addr x = a at hd e
  obtain ⟨k, hk⟩ := Option.isSome_iff_exists.1 hd
  rw [hk] at e
  obtain ⟨p, e'⟩ := sendAccess_of_free (src := .host) (k := k) (a := a) (wr := wr) (be := be) hg
  exact ⟨k, p, e.trans e'⟩

theorem bar4_of_sram {x be : Nat} (h1 : 0x18000000 ≤ x) (h2 : x < 0x183C0000) :
    s.bar4 x none be .clean = { s with answer := [0, s.rdLe (sramBase + (x - 0x18000000)) 4] } := by
  unfold bar4
  rw [if_neg (by omega), if_pos ⟨h1, h2⟩]
  exact hostEnd_memRead (be := be)

/-! A response that reaches the host (R276, R481). -/

theorem regEnded_of_host {row : Nat} {p : Pip} (hp : s.takeResponse row = some (p, u)) (hs : s.accessSender (p.b 96 8) = .host) :
    s.regEnded row = ({ u with accesses := u.accesses.filter fun x => x.1 != p.b 96 8 } : State).hostEnded (p.b 32 4) (p.b 0 32) := by
  have hs' : u.accessSender (p.b 96 8) = .host := by
    obtain ⟨f, rfl⟩ := takeResponse_onMesh hp
    exact hs
  unfold regEnded
  rw [hp]
  dsimp only
  rw [hs']

theorem hostEnded_result {st w : Nat} : let t := s.hostEnded st w
    t.answer = [st, w] ∧ t.accesses = s.accesses ∧ RegsBut (· = Reg.HOST_ABORTS) s t ∧ s.sameBytes t := by
  unfold hostEnded
  dsimp only
  split_ifs
  · exact ⟨rfl, rfl, .congr .refl rfl, fun _ => rfl⟩
  · exact ⟨rfl, rfl, .congr (count_regsBut rfl .refl) rfl, fun a => rfl⟩

end Sys2Proof.Machine.State
end

section
set_option Elab.async false
/-! PROOFS. The reads of registers and the accesses from outside, as the rules say (R10 to R14, R39, R41, R46, R276, R480). -/

namespace Sys2Proof.Machine.State

variable {s t u : State}

theorem coreEnded_zero {w : Nat} : s.coreEnded 0 w = { s with answer := [w] } := rfl

/-- A core's read of a pod's high-water register (R219). -/
theorem coreRead_of_podMark {src : Requester} {e : Ecc} {a r : Nat} (hr : s.reaches src a = some r) (hm : hasMark r = true)
    (ht : tileAtAddr r = none) : s.coreAccess ⟨src, e⟩ a none =
      { s.setReg r (setF (setF (s.view r) 16 7 (getF (s.view r) 0 7)) 24 6 (getF (s.view r) 8 6)) with
        answer := [(s.view r).toNat] } := by
  rw [coreAccess_of_reaches hr, regAccess]
  dsimp only
  rw [wordRead_of_podMark hm ht]
  generalize s.view r = w
  generalize s.setReg r (setF (setF w 16 7 (getF w 0 7)) 24 6 (getF w 8 6)) = v
  unfold give
  simp only [List.headD_cons, BitVec.ofNat_toNat, BitVec.setWidth_eq]
  exact coreEnded_zero

/-- The reads of a core in its own blocks (R12, R14, R219). -/
theorem coreReads_complete :
    (∀ (src : Requester) (a : BitVec 40) (e : Ecc) (r : Nat), s.reaches src a.toNat = some r → plainRead r = true →
      s.latches.at r = 0 → ((RegMap.rowOf r).any (·.low)) = true → s.completes (.lowWordRead ⟨src, e⟩ a) fun t =>
        t.answer = [(s.view r).toNat] ∧ t.latches.at (r + 4) = (s.view (r + 4)).toNat + 1 ∧
        s.sameRegs t [] ∧ s.sameBytes t) ∧
    (∀ (src : Requester) (a : BitVec 40) (e : Ecc) (r n : Nat), s.reaches src a.toNat = some r → plainRead r = true →
      s.latches.at r = n + 1 → n < 2 ^ 32 →
      s.completes (.lowWordRead ⟨src, e⟩ a) fun t => t.answer = [n] ∧ t.latches.at r = 0 ∧ s.sameRegs t [] ∧ s.sameBytes t) ∧
    (∀ (src : Requester) (a : BitVec 40) (e : Ecc) (r : Nat), s.reaches src a.toNat = some r → State.hasMark r = true →
      tileAtAddr r = none → s.completes (.highWaterRead ⟨src, e⟩ a) fun t => t.answer = [(s.view r).toNat] ∧
        t.reg r = setF (setF (s.view r) 16 7 (getF (s.view r) 0 7)) 24 6 (getF (s.view r) 8 6) ∧
        s.sameRegs t [r] ∧ s.sameBytes t) := by
  refine ⟨fun src a e r hr hp hl hlow => ?_, fun src a e r n hr hp hl hn => ?_, fun src a e r hr hm ht => ?_⟩
  · obtain ⟨row, hrow, hlow⟩ := (Option.any_eq_true _ _).1 hlow
    refine completes_done (congrArg s.done ((coreRead_of_reaches hr hp).trans (pairRead_of_low hl hrow hlow))) ⟨rfl, ?_, fun _ _ => rfl,
      fun _ => rfl⟩
    rw [withQueue_latches]
    show (s.latches.put (r + 4) ((s.view (r + 4)).toNat + 1)).at (r + 4) = (s.view (r + 4)).toNat + 1
    exact Nums.at_put.trans (if_pos rfl)
  · refine completes_done (congrArg s.done ((coreRead_of_reaches hr hp).trans (pairRead_of_latched hl))) ⟨?_, ?_, fun _ _ => rfl, fun _ => rfl⟩
    · rw [withQueue_answer, BitVec.toNat_ofNat, Nat.mod_eq_of_lt hn]
    · rw [withQueue_latches]
      show (s.latches.put r 0).at r = 0
      exact Nums.at_put.trans (if_pos rfl)
  · refine completes_done (congrArg s.done (coreRead_of_podMark hr hm ht)) ⟨rfl, ?_, fun b hb => ?_, fun b => rfl⟩
    · rw [reg_withQueue]
      exact reg_setReg.trans (if_pos rfl)
    · rw [reg_withQueue]
      exact reg_setReg.trans (if_neg (by simpa using hb))

/-- Requests of memory at a tile, and the response that ends the host's access (R276). -/
theorem regRequests_complete :
    (∀ (tile : Fin 1152) (p : Pip) (u : State), s.takeCtrl tile.val 5 = some (p, u) → s.shut tile.val = false →
      tileAtAddr (reqAddr p / 4 * 4) = some tile.val → (reqAddr p / 4 * 4 - 0x100000000) % 0x40000 < 0x28000 →
      s.completes (.regReadRequest tile .clean) fun t => s.sameRegs t [] ∧ s.sameBytes t ∧
        t.mesh.ctrl = u.mesh.ctrl.push tile.val
          (regResponse tile.val (reqFrom p) (reqTag p) (s.rdLe (reqAddr p / 4 * 4) 4) 0)) ∧
    (∀ (tile : Fin 1152) (p : Pip) (u : State), s.takeCtrl tile.val 6 = some (p, u) → s.shut tile.val = false →
      tileAtAddr (reqAddr p / 4 * 4) = some tile.val → (reqAddr p / 4 * 4 - 0x100000000) % 0x40000 < 0x28000 →
      s.completes (.regWriteRequest tile .clean) fun t => s.sameRegs t [Reg.DBG_INJ_STAT, Reg.DBG_INJ_DONE, Reg.FLT_LOG_LOST, Reg.SEC_SIG_STAT] ∧
        t.rdLe (reqAddr p / 4 * 4) 4 = mergeBytes (s.rdLe (reqAddr p / 4 * 4) 4) (p.b 64 32) (p.b 120 4) ∧
        s.sameBytesBut t (reqAddr p / 4 * 4) 4 ∧
        t.mesh.ctrl = u.mesh.ctrl.push tile.val (regResponse tile.val (reqFrom p) (reqTag p) 0 0)) ∧
    (∀ (row : Fin 32) (p : Pip) (u : State), s.takeResponse row.val = some (p, u) → s.accessSender (p.b 96 8) = .host →
      s.completes (.regResponseReceive row) fun t => t.answer = [p.b 32 4, p.b 0 32] ∧
        t.accesses = (s.accesses.filter fun x => x.1 != p.b 96 8) ∧ s.sameRegs t [Reg.HOST_ABORTS] ∧ s.sameBytes t) := by
  refine ⟨fun tile p u hp hs ht ho => ?_, fun tile p u hp hs ht ho => ?_, fun row p u hp hs => ?_⟩
  · have hx : u.memAccess (reqAddr p / 4 * 4) none (p.b 120 4) = (u, .ok, BitVec.ofNat 32 (u.rdLe (reqAddr p / 4 * 4) 4)) := rfl
    have e := regRequest_of_data (write := false) hp hs ht ho rfl hx
    have hb : s.sameBytes u := by
      obtain ⟨f, rfl⟩ := takeCtrl_onMesh hp
      exact fun _ => rd8_onMesh
    have hr : RegsBut (fun _ => False) s u := by
      obtain ⟨f, rfl⟩ := takeCtrl_onMesh hp
      exact RegsBut.congr .refl rfl
    refine completes_done (congrArg s.done e) ⟨fun a _ => ?_, fun a => ?_, ?_⟩
    · rw [reg_withQueue, sendCtrl, reg_onMesh, hr a id]
    · rw [rd8_withQueue, sendCtrl, rd8_onMesh, hb a]
    · rw [withQueue_mesh, sendCtrl, onMesh_mesh, toNat_rdLe, rdLe_sameBytes hb]
      rfl
  · obtain ⟨v, hx, h1, h2, h3, h4⟩ := memAccess_write (s := u) (a := reqAddr p / 4 * 4) (be := p.b 120 4)
      (w := BitVec.ofNat 32 (p.b 64 32))
    have e := regRequest_of_data (write := true) hp hs ht ho rfl hx
    have hb : s.sameBytes u := by
      obtain ⟨f, rfl⟩ := takeCtrl_onMesh hp
      exact fun _ => rd8_onMesh
    have hr : RegsBut (fun _ => False) s u := by
      obtain ⟨f, rfl⟩ := takeCtrl_onMesh hp
      exact RegsBut.congr .refl rfl
    have hw : (BitVec.ofNat 32 (p.b 64 32)).toNat = p.b 64 32 := by
      rw [BitVec.toNat_ofNat]
      exact Nat.mod_eq_of_lt (bits_lt p.pay.toNat 64 32)
    have hm : v.mesh = u.mesh := h1.eq (f := State.mesh) fun _ => rfl
    refine completes_done (congrArg s.done e) ⟨fun a ha => ?_, ?_, fun a ha => ?_, ?_⟩
    · rw [reg_withQueue, sendCtrl, reg_onMesh, sameRegs_of_writeRegs h2 a ha, hr a id]
    · rw [sendCtrl, rdLe_sameBytes (s := v) fun _ => rd8_withQueue.trans rd8_onMesh, h3, rdLe_sameBytes hb, hw]
    · rw [rd8_withQueue, sendCtrl, rd8_onMesh, h4 a ha, hb a]
    · rw [withQueue_mesh, sendCtrl, onMesh_mesh, hm]
      rfl
  · have e := regEnded_of_host hp hs
    obtain ⟨f, rfl⟩ := takeResponse_onMesh hp
    obtain ⟨h1, h2, h3, h4⟩ := hostEnded_result (s := ({ s.onMesh f with
      accesses := (s.onMesh f).accesses.filter fun x => x.1 != p.b 96 8 } : State)) (st := p.b 32 4) (w := p.b 0 32)
    refine completes_done (congrArg s.done e) ⟨?_, ?_, fun a ha => ?_, fun a => ?_⟩
    · rw [withQueue_answer, h1]
    · rw [withQueue_accesses, h2]
      rfl
    · rw [reg_withQueue, h3 a (by simpa using ha)]
      exact reg_congr rfl
    · rw [rd8_withQueue, h4 a]
      exact rd8_congr rfl rfl

/-- Settles O27: an access is served by the one block its address names, and a response by the one access of its tag. -/
theorem accessCommandsComplete : Obligations.AccessCommandsComplete := by
  unfold Obligations.AccessCommandsComplete
  intro s
  obtain ⟨r1, r2, r3⟩ := coreReads_complete (s := s)
  obtain ⟨q1, q2, q3⟩ := regRequests_complete (s := s)
  refine ⟨r1, r2, r3, fun hart m a e g hd hg => ?_, fun hart m a v e h1 h2 => ?_, fun tile a v e hs hg ha => ?_, q1, q2, q3,
    fun x v be h1 h2 => ?_, fun x be hx hp hl => ?_, fun x v be h1 h2 hb h0 => ?_, fun x v be a ha hd hk hp => ?_,
    fun x v be e g hx hg => ?_, fun x be h1 h2 => ?_⟩
  · obtain ⟨k, p, e'⟩ := hartAccess_of_door (n := hart) (m := m) (wr := none) (ecc := e) hd hg
    exact completes_done (congrArg s.done e') ⟨rfl, rfl, fun _ _ => rfl, fun _ => rfl⟩
  · obtain ⟨c, x, y, e'⟩ := hartAccess_of_nowhere (s := s) (n := hart) (m := m) (wr := some v) (ecc := e) h1 h2
    refine completes_done (congrArg s.done e') ⟨rfl, fun b => ?_⟩
    exact (rd8_congr rfl rfl).trans rd8_log
  · exact completes_done (congrArg s.done (tileCoreAccess_of_fault hs hg ha)) ⟨rfl, rfl, rfl, rfl⟩
  · exact completes_done (congrArg s.done (bar0_of_unused h1 h2)) ⟨rfl, fun _ _ => rfl, fun _ => rfl⟩
  · obtain ⟨l, e⟩ := bar0_of_register (be := be.val) hx hp hl
    exact completes_done (congrArg s.done e) ⟨rfl, fun _ _ => rfl, fun _ => rfl⟩
  · obtain ⟨t, ht, -, k2, k3, k4⟩ := memAccess_write (s := s) (a := hostBase + x.toNat / 4 * 4) (be := be.val) (w := v)
    have e := bar0_of_mailbox (s := s) (be := be.val) (w := v) h1 h2 hb
    rw [ht, hostEnd_ok rfl] at e
    refine completes_done (congrArg s.done e) ⟨rfl, ?_, fun a ha => ?_, fun a ha => ?_⟩
    · exact (rdLe_sameBytes (s := t) fun _ => rd8_congr rfl rfl).trans k3
    · exact (reg_congr rfl).trans (sameRegs_of_writeRegs k2 a ha)
    · exact (rd8_congr rfl rfl).trans (k4 a ha)
  · have e := bar2_of_mapped (x := x.toNat / 4 * 4) (wr := v) (be := be.val) ha hd hk hp
    cases v with
    | none =>
      rw [hostEnd_memRead] at e
      exact completes_done (congrArg s.done e) ⟨fun _ _ => rfl, fun _ => ⟨rfl, fun _ => rfl⟩, fun w hw => by cases hw⟩
    | some w =>
      obtain ⟨t, ht, -, k2, k3, k4⟩ := memAccess_write (s := s) (a := a) (be := be.val) (w := w)
      rw [ht, hostEnd_ok rfl] at e
      refine completes_done (congrArg s.done e) ⟨fun b hb => ?_, fun h => (by cases h), fun w' hw => ?_⟩
      · exact (reg_congr rfl).trans (sameRegs_of_writeRegs k2 b hb)
      · cases hw
        exact ⟨rfl, fun b hb => (rd8_congr rfl rfl).trans (k4 b hb),
          (rdLe_sameBytes (s := t) fun _ => rd8_congr rfl rfl).trans k3⟩
  · obtain ⟨k, p, e'⟩ := bar4_of_window (be := be.val) (wr := v) (ecc := e) hx hg
    exact completes_done (congrArg s.done e') ⟨rfl, rfl, fun _ _ => rfl, fun _ => rfl⟩
  · exact completes_done (congrArg s.done (bar4_of_sram h1 h2)) ⟨rfl, fun _ _ => rfl, fun _ => rfl⟩

end Sys2Proof.Machine.State
end

section
set_option Elab.async false
/-! PROOFS. The commands of synaptic delivery: what an engine's run of a job leaves (R193 to R216). -/

namespace Sys2Proof.Machine.State

variable {s u v : State} {n : Nat}

/-! No register that a run writes is the count of jobs. -/

theorem tile_ne_jobs {k o : Nat} (h : o ≠ 0x30828) (ho : o < 0x40000) : tileBase k + o ≠ Reg.DE_JOBS n := by
  simp only [tileBase, Reg.DE_JOBS]
  omega

theorem pod_ne_jobs {p o : Nat} (hn : n < 1152) : podBase p + o ≠ Reg.DE_JOBS n := by
  simp only [tileBase, podBase, Reg.DE_JOBS]
  omega

theorem ops_ne_jobs {k i : Nat} (hi : i < 0x100) : Reg.DBG_OPS0_LO k + 8 * i ≠ Reg.DE_JOBS n ∧
    Reg.DBG_OPS0_LO k + 8 * i + 4 ≠ Reg.DE_JOBS n := by
  simp only [tileBase, Reg.DBG_OPS0_LO, Reg.DE_JOBS]
  omega

theorem writeRegs_ne_jobs {a : Nat} (h : writeRegs a) : a ≠ Reg.DE_JOBS n := by
  obtain (h | h | h) | h := h <;> subst h <;>
    simp only [tileBase, Reg.DBG_INJ_STAT, Reg.DBG_INJ_DONE, Reg.FLT_LOG_LOST, Reg.SEC_SIG_STAT, Reg.DE_JOBS] <;> omega

theorem lost_ne_jobs : Reg.FLT_LOG_LOST ≠ Reg.DE_JOBS n := writeRegs_ne_jobs (.inl (.inr (.inr rfl)))

/-- What a run of a job leaves as it was: a tile's count of jobs, and every step deque. -/
def JobKept (n : Nat) (s u : State) : Prop :=
  RegsBut (· ≠ Reg.DE_JOBS n) s u ∧ u.delivery.step = s.delivery.step

theorem JobKept.refl : JobKept n s s := ⟨.refl, rfl⟩

theorem JobKept.of_delivery (h : JobKept n s u) (hr : RegsBut (· ≠ Reg.DE_JOBS n) u v) (hd : v.delivery = u.delivery) :
    JobKept n s v := ⟨h.1.trans hr, by rw [hd, h.2]⟩

theorem put_jobKept {f : RF} {x : Nat} (hf : f.addr ≠ Reg.DE_JOBS n) (h : JobKept n s u) : JobKept n s (u.put f x) :=
  h.of_delivery (put_regsBut hf .refl) put_delivery

theorem raiseTo_jobKept {f : RF} {x : Nat} (hf : f.addr ≠ Reg.DE_JOBS n) (h : JobKept n s u) : JobKept n s (u.raiseTo f x) :=
  put_jobKept hf h

theorem onDelivery_jobKept {f : Delivery → Delivery} (hf : ∀ q, (f q).step = q.step) (h : JobKept n s u) :
    JobKept n s (u.onDelivery f) :=
  ⟨h.1.congr onDelivery_regs, by rw [onDelivery_delivery, hf, h.2]⟩

theorem onMesh_jobKept {f : Mesh → Mesh} (h : JobKept n s u) : JobKept n s (u.onMesh f) :=
  h.of_delivery (onMesh_regsBut .refl) (onMesh_sameBut (F := [.mesh]) (by decide) .refl |>.eq (f := State.delivery) fun _ => rfl)

theorem raise_jobKept {e i : Nat} (h : JobKept n s u) : JobKept n s (u.raise e i) :=
  h.of_delivery (raise_regsBut .refl) ((raise_sameBut (F := [.sent]) (by decide) .refl).eq (f := State.delivery) fun _ => rfl)

theorem log_jobKept {b i c r p q} (h : JobKept n s u) : JobKept n s (u.log b i c r p q) :=
  h.of_delivery (log_regsBut lost_ne_jobs .refl)
    ((log_sameBut (F := [.regs, .events]) (by decide) .refl).eq (f := State.delivery) fun _ => rfl)

theorem logOnce_jobKept {b i c r p q} (h : JobKept n s u) : JobKept n s (u.logOnce b i c r p q) :=
  h.of_delivery (logOnce_regsBut lost_ne_jobs .refl)
    ((logOnce_sameBut (F := [.regs, .events, .once]) (by decide) .refl).eq (f := State.delivery) fun _ => rfl)

theorem wrBytes_jobKept {a : Nat} {l : List Byte} (h : JobKept n s u) : JobKept n s (u.wrBytes a l) :=
  h.of_delivery (wrBytes_regsBut (fun _ h => writeRegs_ne_jobs h) .refl)
    ((wrBytes_sameBut (F := [.regs, .mem, .events, .fw]) (by decide) .refl).eq (f := State.delivery) fun _ => rfl)

theorem countOp_jobKept {k i x : Nat} (hi : i < 0x100) (h : JobKept n s u) : JobKept n s (u.countOp k i x) :=
  h.of_delivery (add64_regsBut (ops_ne_jobs hi).1 (ops_ne_jobs hi).2 .refl)
    ((countOp_sameBut (F := [.regs]) (by decide) .refl).eq (f := State.delivery) fun _ => rfl)

theorem add64_jobKept {a x : Nat} (h1 : a ≠ Reg.DE_JOBS n) (h2 : a + 4 ≠ Reg.DE_JOBS n) (h : JobKept n s u) :
    JobKept n s (u.add64 a x) :=
  h.of_delivery (add64_regsBut h1 h2 .refl)
    ((add64_sameBut (F := [.regs]) (by decide) .refl).eq (f := State.delivery) fun _ => rfl)

theorem countDrop_jobKept {k i x : Nat} {f : RF} (hi : i < 0x100) (hf : f.addr ≠ Reg.DE_JOBS n) (h : JobKept n s u) :
    JobKept n s (u.countDrop k i f x) :=
  countOp_jobKept hi (put_jobKept hf h)

/-! The writes of a run (R200, R214, R285, R299). -/

theorem sendAll_jobKept {k p m : Nat} {w : Bool} {out : List (Nat × Nat × Int)} (h : JobKept n s u) :
    JobKept n s (u.sendAll k p m w out) := by
  refine keeps_foldl _ h fun x hx c => ?_
  split
  · exact hx
  · exact onDelivery_jobKept (fun _ => rfl) hx

theorem faultSlot_jobKept {k p m : Nat} {d : Desc} {b : Bad} {src : Nat} (hn : n < 1152) (h : JobKept n s u) :
    JobKept n s (u.faultSlot k p m d b src) := by
  have hp : Reg.DE_PROJ_CTRL p m ≠ Reg.DE_JOBS n := by
    rw [Reg.DE_PROJ_CTRL, Nat.add_assoc]
    exact pod_ne_jobs hn
  have ht : Reg.DE_STATUS k ≠ Reg.DE_JOBS n := tile_ne_jobs (by decide) (by decide)
  have hl : Reg.DE_LAST_FAULT k ≠ Reg.DE_JOBS n := tile_ne_jobs (by decide) (by decide)
  have hc : Reg.DE_LAST_FAULT_SRC k ≠ Reg.DE_JOBS n := tile_ne_jobs (by decide) (by decide)
  unfold faultSlot
  exact onDelivery_jobKept (fun _ => rfl) (put_jobKept hc (put_jobKept hl (put_jobKept hl (put_jobKept hl
    (raise_jobKept (put_jobKept ht (put_jobKept hp (keeps_ite (log_jobKept h) (log_jobKept h)))))))))

theorem finishWork_jobKept {k p m : Nat} {d : Desc} {src : Nat} {w : Work} (hn : n < 1152) (hd : d.bfmt < 4)
    (h : JobKept n s u) : JobKept n s (u.finishWork k p m d src w) := by
  have h1 : ∀ {x}, JobKept n s (u.add64 (Reg.DE_SYN_LO k) x) := fun {x} =>
    add64_jobKept (tile_ne_jobs (by decide) (by decide)) (by simp only [tileBase, Reg.DE_SYN_LO, Reg.DE_JOBS]; omega) h
  have h2 : ∀ {z x}, JobKept n s z → JobKept n s (z.add64 (Reg.DE_MAC_LO k) x) := fun {z x} hz =>
    add64_jobKept (tile_ne_jobs (by decide) (by decide)) (by simp only [tileBase, Reg.DE_MAC_LO, Reg.DE_JOBS]; omega) hz
  have h3 := sendAll_jobKept (k := k) (p := p) (m := m) (w := d.wintgt) (out := w.out) (countOp_jobKept (k := k) (x := w.scales)
    (i := 6) (by decide) (countOp_jobKept (k := k) (i := 2 + d.bfmt) (x := w.macs) (by omega) (h2 (x := w.macs)
      (countOp_jobKept (k := k) (i := 1) (x := w.events) (by decide) (h1 (x := w.events))))))
  unfold finishWork
  extract_lets bad a b c e
  have he : JobKept n s e := by
    show JobKept n s (match w.odd with | some g => _ | none => _)
    split
    · exact logOnce_jobKept h3
    · exact h3
  clear_value e bad
  cases bad with
  | none => exact he
  | some x => exact faultSlot_jobKept hn he

theorem dsLevel_jobKept {k : Nat} (h : JobKept n s u) : JobKept n s (u.dsLevel k) := by
  have hl : Reg.EVM_DS_LEVEL k ≠ Reg.DE_JOBS n := tile_ne_jobs (by decide) (by decide)
  exact raiseTo_jobKept hl (put_jobKept hl h)

theorem dsSpill_jobKept {k : Nat} {e : BitVec 128} (h : JobKept n s u) : JobKept n s (u.dsSpill k e) := by
  have h1 : Reg.EVM_SPILLED k ≠ Reg.DE_JOBS n := tile_ne_jobs (by decide) (by decide)
  have h2 : Reg.EVM_STATUS k ≠ Reg.DE_JOBS n := tile_ne_jobs (by decide) (by decide)
  have h3 : Reg.EVM_SPILL_LEVEL k ≠ Reg.DE_JOBS n := tile_ne_jobs (by decide) (by decide)
  have h4 : Reg.EVM_DROP_SPILL k ≠ Reg.DE_JOBS n := tile_ne_jobs (by decide) (by decide)
  unfold dsSpill
  exact keeps_ite (logOnce_jobKept (put_jobKept h3 (put_jobKept h2 (countDrop_jobKept (by decide) h1
    (onMesh_jobKept (wrBytes_jobKept h)))))) (logOnce_jobKept (raise_jobKept (put_jobKept h2 (countDrop_jobKept (by decide) h4 h))))

theorem dsWrite_jobKept {k : Nat} {e : BitVec 128} (h : JobKept n s u) : JobKept n s (u.dsWrite k e) := by
  unfold dsWrite
  exact keeps_ite (dsLevel_jobKept (onMesh_jobKept h)) (dsSpill_jobKept h)

theorem deferRecord_jobKept {k : Nat} {e : BitVec 128} (h : JobKept n s u) : JobKept n s (u.deferRecord k e) := by
  unfold deferRecord
  split
  · exact keeps_ite (dsWrite_jobKept (onMesh_jobKept h)) (onMesh_jobKept h)
  · exact onMesh_jobKept h

/-! The three expansions of a job (R196, R202, R209). -/

theorem expandList_jobKept {k p : Nat} {d : Desc} {j : Job} {cut : Option (Nat × Nat)} (hn : n < 1152) (hd : d.bfmt < 4)
    (h : JobKept n s u) : JobKept n s (u.expandList k p d j cut) := by
  have hf : ∀ {z c}, JobKept n s z → JobKept n s (z.faultSlot k p j.dslot d (.plain c 0) j.axon) := faultSlot_jobKept hn
  have hw : ∀ {z w}, JobKept n s z → JobKept n s (z.finishWork k p j.dslot d j.axon w) := finishWork_jobKept hn hd
  unfold expandList
  with_reducible repeat' first
    | assumption | intro _ | apply keeps_foldl | apply keeps_ite | apply hf | apply hw | apply deferRecord_jobKept
    | dsimp only | split

theorem expandBlock_jobKept {k p : Nat} {d : Desc} {j : Job} {cut : Option (Nat × Nat)} (hn : n < 1152) (hd : d.bfmt < 4)
    (h : JobKept n s u) : JobKept n s (u.expandBlock k p d j cut) := finishWork_jobKept hn hd h

theorem runPart_jobKept {k p : Nat} {d : Desc} {j : Job} {cut : Option (Nat × Nat)} (hn : n < 1152) (hd : d.bfmt < 4)
    (h : JobKept n s u) : JobKept n s (u.runPart k p d j cut) := by
  unfold runPart
  split
  · exact h
  · exact finishWork_jobKept hn hd h

/-! What ends with a job (R204, R205, R342). -/

theorem sweepsSettle_jobKept {p : Nat} (hn : n < 1152) (h : JobKept n s u) : JobKept n s (u.sweepsSettle p) := by
  unfold sweepsSettle
  extract_lets q left ended keys v
  have hv : JobKept n s v := onDelivery_jobKept (fun _ => rfl) h
  clear_value v
  exact keeps_ite hv (put_jobKept (pod_ne_jobs hn) hv)

theorem releaseHalf_jobKept {p m i : Nat} (h : JobKept n s u) : JobKept n s (u.releaseHalf p m i) := by
  unfold releaseHalf
  extract_lets key d lastChunk v
  have hv : JobKept n s v := onDelivery_jobKept (fun _ => rfl) h
  clear_value v
  exact keeps_ite h (keeps_ite (wrBytes_jobKept hv) (wrBytes_jobKept hv))

theorem settle_jobKept {p m : Nat} (hn : n < 1152) (h : JobKept n s u) : JobKept n s (u.settle p m) :=
  releaseHalf_jobKept (releaseHalf_jobKept (sweepsSettle_jobKept hn h))

/-! A run of a job that is neither faulted nor stale is counted once (R193, R216). -/

theorem bfmt_desc {p m : Nat} : (s.desc p m).bfmt < 4 := bits_lt _ 5 2

/-- The expansion of a job, by its kind and its descriptor's layout. -/
def expand (s : State) (k : Nat) (j : Job) : State :=
  if j.kind = 3 then s.runPart k (podOf k) (s.desc (podOf k) j.dslot) j none
  else if (s.desc (podOf k) j.dslot).block then s.expandBlock k (podOf k) (s.desc (podOf k) j.dslot) j none
  else s.expandList k (podOf k) (s.desc (podOf k) j.dslot) j none

theorem expand_jobKept {k : Nat} {j : Job} (hn : n < 1152) : JobKept n s (s.expand k j) :=
  keeps_ite (runPart_jobKept hn bfmt_desc .refl)
    (keeps_ite (expandBlock_jobKept hn bfmt_desc .refl) (expandList_jobKept hn bfmt_desc .refl))

theorem runJob_of_live {k : Nat} {j : Job} (h1 : s.faulted (podOf k) j.dslot = false)
    (h2 : j.dgen = s.get (Reg.DE_PROJ_CTRL_DGEN (podOf k) j.dslot)) :
    s.runJob k j none = ((s.expand k j).count (Reg.DE_JOBS_COUNT k)).settle (podOf k) j.dslot := by
  have e : s.runJob k j none = (if s.faulted (podOf k) j.dslot then s.countDrop k 10 (Reg.DE_DROP_FAULT_COUNT k)
      else if j.dgen ≠ s.get (Reg.DE_PROJ_CTRL_DGEN (podOf k) j.dslot) then s.countDrop k 10 (Reg.DE_DROP_STALE_COUNT k)
      else (s.expand k j).count (Reg.DE_JOBS_COUNT k)).settle (podOf k) j.dslot := rfl
  rw [e, if_neg (by simp [h1]), if_neg (by simp [h2])]

theorem runJob_result {k : Nat} {j : Job} (hk : k < 1152) (h1 : s.faulted (podOf k) j.dslot = false)
    (h2 : j.dgen = s.get (Reg.DE_PROJ_CTRL_DGEN (podOf k) j.dslot)) :
    (s.runJob k j none).delivery.step = s.delivery.step ∧ (s.runJob k j none).get (Reg.DE_JOBS_COUNT k) =
      satInc (Reg.DE_JOBS_COUNT k).len (s.get (Reg.DE_JOBS_COUNT k)) 1 := by
  rw [runJob_of_live h1 h2]
  obtain ⟨ha, hb⟩ := expand_jobKept (n := k) (s := s) (k := k) (j := j) hk
  generalize s.expand k j = x at ha hb
  obtain ⟨hc, hd⟩ := settle_jobKept (n := k) (p := podOf k) (m := j.dslot) hk (JobKept.refl (s := x.count (Reg.DE_JOBS_COUNT k)))
  refine ⟨hd.trans ?_, ?_⟩
  · rw [count, put_delivery, hb]
  · rw [hc.get (not_not.2 rfl), get_count_self (by simp), ha.get (not_not.2 rfl)]

/-! An engine takes the job at the head of its own deque (R193). -/

theorem refillDeques_step {k : Nat} (h : s.delivery.stepWait.at k = []) :
    (s.refillDeques k).delivery.step.at k = s.delivery.step.at k := by
  have hq : ∀ y : State, (y.dqLevel k).delivery = y.delivery := fun y =>
    (dqLevel_sameBut (F := [.regs]) (by decide) .refl).eq (f := State.delivery) fun _ => rfl
  unfold refillDeques
  dsimp only
  rw [hq, onDelivery_delivery, h, List.take_nil, List.nil_append]
  exact Lists.at_put.trans (if_pos rfl)

theorem takeJob_of_own {k : Nat} {j : Job} (h : s.delivery.stepWait.at k = []) :
    (s.takeJob k false j true).delivery.step.at k = (s.delivery.step.at k).erase j := by
  unfold takeJob
  refine (refillDeques_step ?_).trans ?_
  · rw [onDelivery_delivery]
    exact h
  · rw [onDelivery_delivery]
    exact Lists.at_put.trans (if_pos rfl)

/-- The registers of the deques' levels. -/
theorem takeJob_regsBut {k : Nat} {w f : Bool} {j : Job} :
    RegsBut (fun a => a = Reg.DE_DQ_LEVEL (podOf k) (inPod k)) s (s.takeJob k w j f) := by
  have h : ∀ {z : State}, RegsBut (fun a => a = Reg.DE_DQ_LEVEL (podOf k) (inPod k)) s z →
      RegsBut (fun a => a = Reg.DE_DQ_LEVEL (podOf k) (inPod k)) s (z.dqLevel k) := fun hz =>
    raiseTo_regsBut rfl (put_regsBut rfl (raiseTo_regsBut rfl (put_regsBut rfl hz)))
  unfold takeJob refillDeques
  exact h ((RegsBut.refl.congr onDelivery_regs).congr onDelivery_regs)

theorem engineTake_of_own {k : Nat} {j : Job} (h1 : s.engineOk k = true) (h2 : s.nextJob k = some (k, false, j)) :
    s.engineTake k none = (s.takeJob k false j true).runJob k j none := by
  unfold engineTake
  rw [if_neg (by simp [h1]), h2]
  dsimp only
  rw [if_pos rfl, decide_eq_true rfl]

theorem engineTake_result {k : Nat} {j : Job} (hk : k < 1152) (h1 : s.engineOk k = true)
    (h2 : s.nextJob k = some (k, false, j)) (h3 : s.delivery.stepWait.at k = []) (h4 : s.faulted (podOf k) j.dslot = false)
    (h5 : j.dgen = s.get (Reg.DE_PROJ_CTRL_DGEN (podOf k) j.dslot)) :
    (s.engineTake k none).delivery.step.at k = (s.delivery.step.at k).erase j ∧ (s.engineTake k none).get (Reg.DE_JOBS_COUNT k) =
      satInc (Reg.DE_JOBS_COUNT k).len (s.get (Reg.DE_JOBS_COUNT k)) 1 := by
  have hr := takeJob_regsBut (s := s) (k := k) (w := false) (f := true) (j := j)
  have hp : podOf k < 72 := by
    simp only [podOf, rowOf, colOf]
    omega
  have hc : ¬Reg.DE_PROJ_CTRL (podOf k) j.dslot = Reg.DE_DQ_LEVEL (podOf k) (inPod k) := by
    have := inPod_lt (k := k)
    simp only [Reg.DE_PROJ_CTRL, Reg.DE_DQ_LEVEL, podBase]
    omega
  have hj : ¬Reg.DE_JOBS k = Reg.DE_DQ_LEVEL (podOf k) (inPod k) := by
    simp only [Reg.DE_JOBS, Reg.DE_DQ_LEVEL, podBase, tileBase]
    omega
  have h6 := takeJob_of_own (s := s) (j := j) h3
  rw [engineTake_of_own h1 h2]
  generalize s.takeJob k false j true = x at hr h6
  obtain ⟨ha, hb⟩ := runJob_result (s := x) (j := j) hk ((hr.flag hc).trans h4) (h5.trans (hr.get hc).symm)
  exact ⟨by rw [ha, h6], by rw [hb, hr.get hj]⟩

end Sys2Proof.Machine.State
end

section
set_option Elab.async false
/-! PROOFS. The commands of synaptic delivery (R188 to R219, R300). -/

namespace Sys2Proof.Machine.State

variable {s : State}

/-! Matching (R188, R189). -/

/-- The ejection buffer behind the record that the matcher takes. -/
def ejectLeft (e : Ejected) (rest : List Ejected) : List Ejected :=
  if e.taken + 1 < e.pip.ptype then { e with taken := e.taken + 1 } :: rest else rest

/-- The state in which the matcher has taken a record of tile `k`. -/
def recordTaken (s : State) (k : Nat) (e : Ejected) (rest : List Ejected) : State :=
  s.onMesh fun m => { m with eject := m.eject.put k (ejectLeft e rest) }

theorem matchRecord_of_miss {k : Nat} {e : Ejected} {rest : List Ejected} (he : s.mesh.eject.at k = e :: rest)
    (hm : s.flag (Reg.DE_ARB_CTRL_MATCH_EN (podOf k)) = true)
    (hr : (s.validSlots (podOf k)).filter (fun x => x.2.holds (recAxon (e.pip.record e.taken))) = []) :
    s.matchRecord k none = (s.recordTaken k e rest).count (Reg.DE_MATCH_MISS_COUNT (podOf k)) := by
  unfold matchRecord
  rw [he]
  dsimp only
  rw [if_neg (by simp [hm]), hr]
  rfl

theorem matchRecord_of_job {k m h : Nat} {d : Desc} {e : Ejected} {rest : List Ejected} (he : s.mesh.eject.at k = e :: rest)
    (hm : s.flag (Reg.DE_ARB_CTRL_MATCH_EN (podOf k)) = true)
    (hr : (s.validSlots (podOf k)).filter (fun x => x.2.holds (recAxon (e.pip.record e.taken))) = [(m, d)])
    (hj : s.matchRow (podOf k) m d (recAxon (e.pip.record e.taken)) = .job h false) (hl : (s.delivery.step.at h).length < 64)
    (ha : s.areaHeld (podOf k) m d e.pip.tag = false) (hp : s.flag (Reg.DE_PL_CTRL_EN (podOf k) m) = false) :
    s.matchRecord k none = (s.recordTaken k e rest).pushStep h
      ⟨0, m, recAxon (e.pip.record e.taken), recGraded (e.pip.record e.taken), recSlot (e.pip.record e.taken), 0, e.pip.tag,
        s.get (Reg.DE_PROJ_CTRL_DGEN (podOf k) m), 0, 0, 0, none⟩ := by
  have hp' : (s.recordTaken k e rest).preCount (podOf k) m d (recAxon (e.pip.record e.taken))
      ((s.recordTaken k e rest).stepOf e.pip.tag) = s.recordTaken k e rest := if_pos (by
    rw [show (s.recordTaken k e rest).flag (Reg.DE_PL_CTRL_EN (podOf k) m) = s.flag (Reg.DE_PL_CTRL_EN (podOf k) m) from rfl, hp]
    rfl)
  have hw : (Match.job h false = .window) = False := eq_false fun e => by cases e
  unfold matchRecord
  rw [he]
  dsimp only
  rw [if_neg (by simp [hm]), hr, List.map_cons, List.map_nil, hj, if_neg (by simp [ha]; omega)]
  simp only [List.isEmpty_cons, Bool.false_eq_true, if_false, List.foldl_cons, List.foldl_nil, List.any_cons, List.any_nil, hw,
    decide_false, Bool.or_false]
  change (s.recordTaken k e rest).matchApply k (podOf k) (m, d, .job h false) e.pip.tag (e.pip.record e.taken) = _
  unfold matchApply
  dsimp only
  rw [if_neg (by simp), hp']
  rfl

theorem pushStep_of_live {k : Nat} {j : Job} (h : s.podDead (podOf k) = false) :
    (s.pushStep k j).delivery.step.at k = s.delivery.step.at k ++ [j] := by
  have hq : ∀ y : State, (y.dqLevel k).delivery = y.delivery := fun y =>
    (dqLevel_sameBut (F := [.regs]) (by decide) .refl).eq (f := State.delivery) fun _ => rfl
  unfold pushStep
  rw [if_neg (by simp [h]), hq, onDelivery_delivery]
  exact Lists.at_put.trans (if_pos rfl)

/-! Accumulation (R200, R201). -/

theorem accumulateNext_of_owned {k : Nat} {c : Contrib} {rest : List Contrib} (hc : s.delivery.contribs.at k = c :: rest)
    (hs : s.shut k = false) (hk : c.k < (s.ctx k c.ctx).count) (hw : (s.ctx k c.ctx).windowed = false) :
    s.accumulateNext k none = (s.onDelivery fun q => { q with contribs := q.contribs.drop1 k }).wrLe
      (tileBase k + (s.ctx k c.ctx).accBase + 4 * c.k) 4
      (accAdd (s.rdLe (tileBase k + (s.ctx k c.ctx).accBase + 4 * c.k) 4) (sext 32 c.val)) := by
  unfold accumulateNext
  rw [hc]
  dsimp only
  have h1 : (s.onDelivery fun q => { q with contribs := q.contribs.drop1 k }).shut k = s.shut k := rfl
  have h2 : (s.onDelivery fun q => { q with contribs := q.contribs.drop1 k }).ctx k c.ctx = s.ctx k c.ctx := rfl
  have h3 : ∀ a, (s.onDelivery fun q => { q with contribs := q.contribs.drop1 k }).rdLe a 4 = s.rdLe a 4 := fun a =>
    rdLe_sameBytes fun _ => rd8_congr rfl rfl
  generalize (s.onDelivery fun q => { q with contribs := q.contribs.drop1 k }) = x at h1 h2 h3 ⊢
  unfold accumulate
  rw [if_neg (by simp [h1, hs]), h2]
  dsimp only
  rw [hw, if_neg (by simpa using hk), h3]
  simp only [Bool.false_eq_true, if_false, Nat.zero_mul, Nat.zero_add]

/-! The clear of an area (R205) and the end of a window's application (R207). -/

theorem areaClear_zero {p m i : Nat} {d : Desc} (h : i < areaBytes d (s.areaSlots p m d)) :
    (s.areaClear p m d).rd8 (podBase p + d.actBase + i) = 0 := by
  unfold areaClear
  rw [rd8_wrBytes, if_pos (by rw [List.length_replicate]; omega), Nat.add_sub_cancel_left, List.getD_eq_getElem _ _
    (by rw [List.length_replicate]; exact h), List.getElem_replicate]

theorem areaClear_sameBytesBut {p m : Nat} {d : Desc} :
    s.sameBytesBut (s.areaClear p m d) (podBase p + d.actBase) (areaBytes d (s.areaSlots p m d)) := by
  have h := wrBytes_sameBytesBut (s := s) (a := podBase p + d.actBase)
    (l := List.replicate (areaBytes d (s.areaSlots p m d)) 0)
  rwa [List.length_replicate] at h

theorem winFill_fits {k b : Nat} : (winFill k b).lo + (winFill k b).len ≤ 32 := by
  unfold winFill
  split <;> simp

theorem winDone_result {k m : Nat} (h1 : s.delivery.applying.at k = m + 1) (h2 : s.winFinished (podOf k) m = true) :
    (s.winDone k).delivery.applying.at k = 0 ∧ (s.winDone k).get (winFill k (m % 2)) = 0 := by
  unfold winDone
  rw [h1]
  dsimp only
  rw [if_pos h2]
  unfold winClear
  dsimp only
  generalize (List.foldl _ s _ : State) = x
  constructor
  · rw [onDelivery_delivery]
    show (Nums.put (x.put (winFill k (m % 2)) 0).delivery.applying k 0).at k = 0
    exact Nums.at_put.trans (if_pos rfl)
  · rw [get_congr onDelivery_regs, get_put_self winFill_fits, Nat.zero_mod]

/-! A write of DE_PROJ_CTRL (R215, R219). -/

theorem projCtrlWrite_of_taken {p m : Nat} {v : Word} (hv : getF v 0 2 = 0 ∨ (s.desc p m).block = true)
    (hr : s.running = false) : s.projCtrlWrite p m v = s.writePlain (Reg.DE_PROJ_CTRL p m) v := by
  have hb : ¬((getF v 0 2 = 1 ∨ getF v 0 2 = 2) ∧ (!(s.desc p m).block) = true) := by
    rintro ⟨h1, h2⟩
    obtain h | h := hv
    · omega
    · rw [h] at h2
      cases h2
  unfold projCtrlWrite
  dsimp only
  rw [if_neg hb, writePlain]
  refine congrArg _ (funext fun f => ?_)
  split
  · rw [decide_eq_false hb]
    rfl
  · split
    · simp [hr]
    · rfl

/-! A release of the delay store (R300). -/

theorem releaseNext_of_due {r : Nat} {b : Bool} {e : BitVec 128} (h1 : s.deliveryOpen = true) (h2 : s.dueOnChip r = some e)
    (h3 : s.releaseRoom r e = true) : s.releaseNext r b =
      ((s.onMesh fun m => { m with delay := m.delay.put r ((m.delay.at r).erase e) }).dsLevel r).releaseEntry r e := by
  unfold releaseNext
  rw [if_neg (by simp [h1]), h2]
  exact if_pos h3

theorem releaseEntry_delay {r : Nat} {e : BitVec 128} : (s.releaseEntry r e).mesh.delay = s.mesh.delay := by
  have hd : ∀ {k i f x}, (s.countDrop k i f x).mesh = s.mesh := fun {k i f x} =>
    (countDrop_sameBut (F := [.regs]) (by decide) .refl).eq (f := State.mesh) fun _ => rfl
  have hp : ∀ {k j}, (s.pushStep k j).mesh = s.mesh := fun {k j} =>
    (pushStep_sameBut (F := [.regs, .delivery]) (by decide) .refl).eq (f := State.mesh) fun _ => rfl
  have hb : (s.releaseBad r).mesh = s.mesh :=
    (releaseBad_sameBut (F := [.regs, .events, .once, .sent]) (by decide) .refl).eq (f := State.mesh) fun _ => rfl
  have hl : ∀ {x : State} {i j k l}, (x.logOnce i j k l).mesh = x.mesh := fun {x i j k l} =>
    (logOnce_sameBut (F := [.regs, .events, .once]) (by decide) .refl).eq (f := State.mesh) fun _ => rfl
  unfold releaseEntry
  dsimp only
  split
  · split
    · rw [hl, hd]
    · rw [onMesh_mesh]
  · split
    · rw [hd]
    · split
      · rw [hd]
      · rw [hp]
  · rw [hb]

/-- Settles O33: each engine of delivery takes the oldest of what waits for it, and leaves the rest. -/
theorem deliveryCommandsComplete : Obligations.DeliveryCommandsComplete := by
  unfold Obligations.DeliveryCommandsComplete
  intro s
  refine ⟨fun n e rest he hm hr => ?_, fun n e rest k d h he hm hr hj hl hd ha hp => ?_, fun n j h1 h2 h3 h4 h5 => ?_,
    fun n c rest hc hs hk hw => ?_, fun p n h => ?_, fun n m h1 h2 => ?_, fun p n v hv hr => ?_, fun r b e h1 h2 h3 => ?_⟩
  · refine completes_done (congrArg s.done (matchRecord_of_miss he hm hr)) ⟨?_, ?_, fun a ha => ?_, fun a => ?_⟩
    · rw [withQueue_mesh, count, put_mesh, recordTaken, onMesh_mesh]
      exact Lists.at_put.trans (if_pos rfl)
    · rw [get_withQueue, get_count_self (by simp), recordTaken, get_onMesh]
    · rw [reg_withQueue]
      refine (count_regsBut (B := (· ∈ [Reg.DE_MATCH_MISS (podOf n.val)])) (by simp) (onMesh_regsBut .refl)) a ha
    · rw [rd8_withQueue, count, rd8_put, recordTaken, rd8_onMesh]
  · have e' := matchRecord_of_job he hm hr hj hl ha hp
    refine completes_done (congrArg s.done e') ⟨?_, fun a => ?_⟩
    · rw [withQueue_delivery, pushStep_of_live (show (s.recordTaken n.val e rest).podDead (podOf h) = false from hd)]
      rfl
    · rw [rd8_withQueue, SameBut.sameBytes (pushStep_sameBut (F := [.regs, .delivery]) (by decide) .refl) rfl rfl, recordTaken,
        rd8_onMesh]
  · obtain ⟨k1, k2⟩ := engineTake_result n.isLt h1 h2 h3 h4 h5
    exact completes_done rfl ⟨by rw [withQueue_delivery, k1], by rw [get_withQueue, k2]⟩
  · refine completes_done (congrArg s.done (accumulateNext_of_owned hc hs hk hw)) ⟨?_, ?_, fun a ha => ?_⟩
    · rw [withQueue_delivery]
      refine (congrArg (fun q : Delivery => q.contribs.at n.val) ((wrLe_sameBut (F := [.regs, .mem, .events, .fw]) (by decide)
        .refl).eq (f := State.delivery) fun _ => rfl)).trans ?_
      refine Lists.at_put.trans ((if_pos rfl).trans ?_)
      rw [hc]
      rfl
    · rw [rdBytes_sameBytes (s := State.wrLe _ _ 4 _) fun _ => rd8_withQueue, wrLe]
      exact rdBytes_wrBytes_self
    · rw [rd8_withQueue, wrLe_sameBytesBut a ha]
      exact rd8_congr rfl rfl
  · refine completes_done (if_pos h) ⟨?_, fun i hi => ?_, fun a ha => ?_⟩
    · simp [withQueue_delivery, onDelivery_delivery]
    · rw [rd8_withQueue, rd8_onDelivery, areaClear_zero hi]
    · rw [rd8_withQueue, rd8_onDelivery, areaClear_sameBytesBut a ha]
  · obtain ⟨k1, k2⟩ := winDone_result h1 h2
    exact completes_done rfl ⟨by rw [withQueue_delivery, k1], by rw [get_withQueue, k2]⟩
  · refine completes_done (congrArg s.done (projCtrlWrite_of_taken hv hr)) ⟨by rw [reg_withQueue], fun a ha => ?_, fun a => ?_⟩
    · rw [reg_withQueue, reg_writePlain_ne (by simpa using ha)]
    · rw [rd8_withQueue, rd8_writePlain]
  · refine completes_done (congrArg s.done (releaseNext_of_due h1 h2 h3)) ⟨?_, fun a => ?_⟩
    · rw [withQueue_mesh, releaseEntry_delay]
      refine (congrArg (fun q : Mesh => q.delay.at r.val) ((dsLevel_sameBut (F := [.regs]) (by decide) .refl).eq
        (f := State.mesh) fun _ => rfl)).trans ?_
      exact Lists.at_put.trans (if_pos rfl)
    · rw [rd8_withQueue, SameBut.sameBytes (releaseEntry_sameBut (F := [.regs, .events, .mesh, .once, .delivery, .sent])
        (by decide) .refl) rfl rfl, SameBut.sameBytes (dsLevel_sameBut (F := [.regs]) (by decide) .refl) rfl rfl, rd8_onMesh]

end Sys2Proof.Machine.State
end

section
set_option Elab.async false
/-! PROOFS. A statement about states whose copies name a stream engine that the device does not have. -/

namespace Sys2Proof.Machine.State

/-- An engine number, far beyond the device's sixteen, whose status register is the mesh status of router 1140. -/
def strayEngine : Nat := (Reg.SCM_STATUS 1140 - Reg.STR_STATUS 0) / 0x1000

/-- A stray engine holds seventeen copies, one of which uses the link of router 1140 to the north. -/
def strayCopies : State :=
  (((State.reset.setReg (Reg.STR_DESC0 strayEngine 0) 2).setReg (Reg.STR_DESC3 strayEngine 0) 0x10000).onStreams fun m =>
    { m with active := [(1024 * 1140, 64)], copies := ⟨strayEngine, 0, 0, 0, 0, 0⟩ :: List.replicate 16 ⟨strayEngine, 1, 0, 0, 0, 0⟩ })

/-- Refutes O54: the copies that fail with the link leave sixteen in the register of the engine that held them, which here is that
of the link's state (R322); the statement does not ask that a copy's engine be one of the sixteen. -/
theorem not_streamCommandsComplete : ¬ Obligations.StreamCommandsComplete := by
  unfold Obligations.StreamCommandsComplete
  intro h
  obtain ⟨-, -, -, -, -, -, hfail, -⟩ := h strayCopies
  have hdown := of_completes (hfail 1140 0) rfl
  exact absurd hdown (by decide +kernel)

end Sys2Proof.Machine.State
end

section
set_option Elab.async false
/-! PROOFS. The commands of the event mesh: the cycle of a router with one pip (R268, R279, R280, R287). -/

namespace Sys2Proof.Machine.State

variable {s : State} {r p : Nat} {x : Pip}

/-! What a pip's way off its link leaves (R268). -/

/-- The registers of the seam FIFOs' levels. -/
def seamRegs (a : Nat) : Prop := ∃ k, a = Reg.EVM_SEAM k

theorem seamLevel_regsBut {k : Nat} : RegsBut seamRegs s (s.seamLevel k) := by
  unfold seamLevel
  exact keeps_ite (raiseTo_regsBut ⟨k, rfl⟩ (put_regsBut ⟨k, rfl⟩ .refl)) .refl

theorem seamLevel_mesh {k : Nat} : (s.seamLevel k).mesh = s.mesh :=
  (seamLevel_sameBut (F := [.regs]) (by decide) .refl).eq (f := State.mesh) fun _ => rfl

theorem takeLink_mesh : (s.takeLink r p).mesh = { s.mesh with links := s.mesh.links.drop1 (4 * r + p) } := by
  unfold takeLink
  dsimp only
  split
  · split
    · rw [seamLevel_mesh, onMesh_mesh]
    · rw [onMesh_mesh]
  · rw [onMesh_mesh]

theorem takeLink_regsBut : RegsBut seamRegs s (s.takeLink r p) := by
  have h : RegsBut seamRegs s (s.onMesh fun m => { m with links := m.links.drop1 (4 * r + p) }) := onMesh_regsBut .refl
  unfold takeLink
  dsimp only
  split
  · exact keeps_ite (h.trans seamLevel_regsBut) h
  · exact h

theorem takeLink_links (h : s.mesh.links.at (4 * r + p) = [x]) {k : Nat} :
    (s.takeLink r p).mesh.links.at k = if k = 4 * r + p then [] else s.mesh.links.at k := by
  rw [takeLink_mesh]
  refine Lists.at_put.trans ?_
  rw [h]
  rfl

theorem not_seamRegs_link {k : Nat} : ¬seamRegs (Reg.EVM_LINK k) := by
  rintro ⟨j, h⟩
  simp only [Reg.EVM_LINK, Reg.EVM_SEAM, tileBase] at h
  omega

theorem not_seamRegs_fence {k : Nat} (hk : k < 1152) : ¬seamRegs (Reg.FLT_FENCE (k / 32)) := by
  rintro ⟨j, h⟩
  simp only [Reg.FLT_FENCE, Reg.EVM_SEAM, tileBase] at h
  omega

theorem not_seamRegs_inject : ¬seamRegs Reg.DBG_INJ_STAT := by
  rintro ⟨j, h⟩
  simp only [Reg.DBG_INJ_STAT, Reg.EVM_SEAM, tileBase] at h
  omega

theorem takeLink_linkUp {k q : Nat} : (s.takeLink r p).linkUp k q = s.linkUp k q := by
  rw [linkUp, takeLink_regsBut _ not_seamRegs_link, linkUp]

theorem takeLink_fenced {k : Nat} (hk : k < 1152) : (s.takeLink r p).fenced k = s.fenced k := by
  rw [fenced, takeLink_regsBut _ (not_seamRegs_fence hk), fenced]

theorem takeLink_blockedAt : (s.takeLink r p).blockedAt r x = s.blockedAt r x := by
  simp only [blockedAt, takeLink_linkUp]

/-! The cycle of a router at whose inputs one pip waits (R279, R280). -/

/-- The pips at the heads of a router's links. -/
def linkHeads (s : State) (r : Nat) : List (Nat × Pip) := (List.range 4).filterMap fun p =>
  if s.linkUp r p then ((s.mesh.links.at (4 * r + p)).head?).map fun x => (p, x) else none

/-- The ports that a cycle may award. -/
def openPorts (s : State) (r : Nat) : List Nat := (List.range 5).filter fun q => q = 4 || s.linkUp r q

/-- The record of the ports that a cycle awarded. -/
def award (s : State) (r : Nat) (l : List Nat) : State := s.onMesh fun m => { m with awarded := m.awarded.put r l }

/-- The end of a cycle: what could not be placed goes back to its link, and the ports awarded are recorded. -/
def cycleEnd (a : Award) (r : Nat) (free : List Nat) : State :=
  (a.kept.foldl (fun s x => s.onMesh fun m => { m with links := m.links.put (4 * r + x.1) (x.2 :: m.links.at (4 * r + x.1)) })
    a.st).award r (free.filter fun q => !a.free.contains q)

theorem cycleEnd_of_none {a : Award} {free : List Nat} (h : a.kept = []) :
    cycleEnd a r free = a.st.award r (free.filter fun q => !a.free.contains q) := by
  rw [cycleEnd, h, List.foldl_nil]

theorem linkHeads_of_one (hp : p < 4) (hu : s.linkUp r p = true) (hx : s.mesh.links.at (4 * r + p) = [x])
    (hq : ∀ q, q < 4 → q ≠ p → s.mesh.links.at (4 * r + q) = []) : s.linkHeads r = [(p, x)] := by
  have h : s.linkHeads r = (List.range 4).filterMap fun q => if q = p then some (p, x) else none :=
    List.filterMap_congr fun q hm => by
      have hm := List.mem_range.1 hm
      by_cases e : q = p
      · subst e
        rw [if_pos hu, if_pos rfl, hx]
        rfl
      · rw [if_neg e, hq q hm e]
        split <;> rfl
  rw [h]
  interval_cases p <;> rfl

theorem routeCycle_of_head (hg : s.coreGated r = false) (hh : s.linkHeads r = [(p, x)]) {a : Award}
    (ha : ({ st := s.takeLink r p, free := (s.takeLink r p).openPorts r, kept := [] } : Award).place r p x 0 = a)
    (hk : a.kept = []) : s.routeCycle r [] =
      a.st.award r (((s.takeLink r p).openPorts r).filter fun q => !a.free.contains q) := by
  unfold routeCycle
  rw [if_neg (by simp [hg])]
  unfold linkHeads at hh
  rw [hh]
  show cycleEnd (({ st := s.takeLink r p, free := (s.takeLink r p).openPorts r, kept := [] } : Award).place r p x 0) r
    ((s.takeLink r p).openPorts r) = _
  rw [ha]
  exact cycleEnd_of_none hk

theorem routeCycle_of_damaged {c : Fin 4 × BitVec 16} (hg : s.coreGated r = false) (hh : s.linkHeads r = [(c.1.val, x)])
    (hc : c.2.toNat ≠ pipCrc x) : ∃ l, s.routeCycle r [c] = (s.crcDiscard r c.1.val x).award r l := by
  have hb : crcFails [c] (c.1.val, x) = true := by simp [crcFails, hc]
  refine ⟨((s.crcDiscard r c.1.val x).openPorts r).filter fun q => !((s.crcDiscard r c.1.val x).openPorts r).contains q, ?_⟩
  unfold routeCycle
  rw [if_neg (by simp [hg])]
  unfold linkHeads at hh
  rw [hh]
  dsimp only
  rw [List.filter_cons_of_pos hb, List.filter_nil, List.filter_cons_of_neg (by simp [hb]), List.filter_nil]
  rfl

/-! A pip for its own router (R283). -/

theorem neighbour_ne {q : Nat} (hr : r < 1152) : neighbour r q ≠ some r := by
  have h36 : rowOf r = 0 ∨ 36 ≤ r := by
    simp only [rowOf]
    omega
  have h1 : colOf r = 0 ∨ 1 ≤ r := by
    simp only [colOf]
    omega
  unfold neighbour
  split <;> split <;> simp <;> omega

theorem blockedAt_own (hr : r < 1152) (hm : x.mc = false) (hd : x.dest = r) : s.blockedAt r x = false := by
  have ht : target x = r := by
    rw [target, Pip.rejoin, hm]
    exact hd
  have hn : ∀ q, neighbour r q ≠ some r := fun q => neighbour_ne hr
  unfold blockedAt
  rw [ht]
  have he : ∀ q ∈ List.range 4, (!s.linkUp r q && (decide (neighbour r q = some r) ||
      (decide (q = 3) && decide (colOf r = 0) && decide (r = 1152 + rowOf r)))) = false := fun q _ => by
    have h3 : ¬r = 1152 + rowOf r := by omega
    simp [hn q, h3]
  rw [Bool.and_eq_false_iff]
  right
  rw [List.any_eq_false]
  exact fun q hq => by simpa using he q hq

theorem echo_of_control (hc : x.cls = 0) : s.echo r x = s := if_neg (by simp [hc])

theorem takeAtL_of_control (hc : x.cls = 0) (h1 : x.ptype ≠ 1) (h2 : x.ptype ≠ 2) (hf : s.fenced r = false) :
    s.takeAtL r x = (s.add64 (Reg.EVM_EJ_LO r) 1).onMesh fun m => { m with ctrlIn := m.ctrlIn.push r x } := by
  have hf' : (s.add64 (Reg.EVM_EJ_LO r) 1).fenced r = false := by
    rw [fenced, add64_regsBut (B := (· ∈ [Reg.EVM_EJ_LO r, Reg.EVM_EJ_LO r + 4])) (by simp) (by simp) .refl
      (Reg.FLT_FENCE (r / 32)) (by
        simp only [Reg.FLT_FENCE, Reg.EVM_EJ_LO, tileBase, List.mem_cons, List.not_mem_nil, or_false]
        omega)]
    exact hf
  unfold takeAtL
  dsimp only
  rw [echo_of_control hc, if_neg (by simp [hf']), hc]
  exact if_neg (by simp [h1, h2])

theorem ejectable_of_control (hc : x.cls = 0) (hf : s.fenced r = false) (hl : (s.mesh.ctrlIn.at r).length < 4) :
    s.ejectable r x = true := by
  unfold ejectable
  rw [if_neg (by simp [hf]), hc]
  show (if x.ptype = 1 ∨ x.ptype = 2 then true else decide ((s.mesh.ctrlIn.at r).length < 4)) = true
  split
  · rfl
  · exact decide_eq_true hl

theorem place_of_own {a : Award} {later : Nat} (hr : r < 1152) (hl : x.legal = true) (hm : x.mc = false) (hd : x.dest = r)
    (hf : a.free.contains 4 = true) (he : a.st.ejectable r x = true) :
    a.place r p x later = { a with st := a.st.takeAtL r x, free := a.free.filter fun y => y ≠ 4 } := by
  unfold Award.place
  rw [if_neg (by simp [hl]), if_neg (by simp [hm]), if_neg (by simp [blockedAt_own hr hm hd]), if_pos (by simp [hm, hd])]
  exact if_pos (by rw [hf, he]; rfl)

theorem openPorts_own : (s.openPorts r).contains 4 = true := by
  simp [openPorts]

/-! A pip that goes east (R278, R280). -/

theorem productive_east (hj : x.rejoin = false) (hd : x.dest < 1152) (hc : colOf r < colOf x.dest) :
    ∃ l, productive r x = 1 :: l := by
  unfold productive
  rw [target, hj]
  simp only [Bool.false_eq_true, if_false, pointOf, if_pos hd]
  rw [if_pos (by omega)]
  exact ⟨_, rfl⟩

theorem neighbour_east (hc : colOf r < 35) : neighbour r 1 = some (r + 1) := if_neg (by omega)

theorem portOpen_east (hu : s.linkUp r 1 = true) (hc : colOf r ≠ 17) (hx : x.cls = 1) : s.portOpen r x 1 = true := by
  have hs : isSeam r 1 = false := by simp [isSeam, hc]
  simp [portOpen, hu, seamFull, hs, hx]

theorem sendOn_east (hc : colOf r < 35) (hx : x.cls = 1) (ha : s.flag Reg.DBG_INJ_STAT_ARMED = false) :
    s.sendOn r 1 x = (s.onMesh fun m => { m with links := m.links.push (4 * (r + 1) + 3) x }).seamLevel r := by
  unfold sendOn
  dsimp only
  rw [if_neg (by simp [hx]), linkOut, neighbour_east hc]
  simp only [Option.map_some, injecting_of_disarmed ha, Bool.false_eq_true, if_false, Bool.and_false]

theorem place_of_east {a : Award} {later : Nat} (hl : x.legal = true) (hm : x.mc = false) (hj : x.rejoin = false)
    (hx : x.cls = 1) (hu : a.st.linkUp r 1 = true) (hf : a.free.contains 1 = true) (h17 : colOf r ≠ 17) (hd : x.dest < 1152)
    (hr : x.dest ≠ r) (hc : colOf r < colOf x.dest) (hb : a.st.blockedAt r x = false)
    (ha : a.st.flag Reg.DBG_INJ_STAT_ARMED = false) : a.place r p x later = a.give r 1 x := by
  obtain ⟨l, hp⟩ := productive_east hj hd hc
  have hmesh : (a.mesh r x).contains 1 = true := by
    simpa [Award.mesh, portOpen_east hu h17 hx] using hf
  unfold Award.place
  rw [if_neg (by simp [hl]), if_neg (by simp [hm]), if_neg (by simp [hb]), if_neg (by simp [hr]), hp,
    List.find?_cons_of_pos (by simpa using hmesh)]
  dsimp only
  rw [injecting_of_disarmed ha]
  exact if_neg (by simp)

theorem openPorts_east (hu : s.linkUp r 1 = true) : (s.openPorts r).contains 1 = true := by
  simp [openPorts, hu]

/-! The three cycles with one pip. -/

theorem award_mesh {l : List Nat} : (s.award r l).mesh = { s.mesh with awarded := s.mesh.awarded.put r l } := rfl

theorem award_regs {l : List Nat} : (s.award r l).regs = s.regs := rfl

theorem get64_congr {a : Nat} {t : State} (h : t.regs = s.regs) : t.get64 a = s.get64 a := by
  rw [get64, reg_congr h, reg_congr h, get64]

theorem routeCycle_own (hr : r < 1152) (hp : p < 4) (hg : s.coreGated r = false) (hu : s.linkUp r p = true)
    (hx : s.mesh.links.at (4 * r + p) = [x]) (hq : ∀ q, q < 4 → q ≠ p → s.mesh.links.at (4 * r + q) = [])
    (hl : x.legal = true) (hm : x.mc = false) (hd : x.dest = r) (hc : x.cls = 0) (h1 : x.ptype ≠ 1) (h2 : x.ptype ≠ 2)
    (hf : s.fenced r = false) (hn : (s.mesh.ctrlIn.at r).length < 4) :
    let t := s.routeCycle r []
    t.mesh.ctrlIn.at r = s.mesh.ctrlIn.at r ++ [x] ∧ t.mesh.links.at (4 * r + p) = [] ∧
      t.get64 (Reg.EVM_EJ_LO r) = (s.get64 (Reg.EVM_EJ_LO r) + 1) % 2 ^ 64 := by
  have hf' : (s.takeLink r p).fenced r = false := (takeLink_fenced hr).trans hf
  have hi : (s.takeLink r p).mesh.ctrlIn = s.mesh.ctrlIn := by rw [takeLink_mesh]
  have hk := takeLink_links (k := 4 * r + p) hx
  have hj : (s.takeLink r p).get64 (Reg.EVM_EJ_LO r) = s.get64 (Reg.EVM_EJ_LO r) :=
    takeLink_regsBut.get64 (by rintro ⟨j, h⟩; simp only [Reg.EVM_EJ_LO, Reg.EVM_SEAM, tileBase] at h; omega)
      (by rintro ⟨j, h⟩; simp only [Reg.EVM_EJ_LO, Reg.EVM_SEAM, tileBase] at h; omega)
  dsimp only
  rw [routeCycle_of_head hg (linkHeads_of_one hp hu hx hq) (place_of_own hr hl hm hd openPorts_own
    (ejectable_of_control hc hf' (by rw [hi]; exact hn))) rfl]
  dsimp only
  rw [takeAtL_of_control hc h1 h2 hf', get64_congr award_regs, get64_congr onMesh_regs, add64, get64_put64, hj, award_mesh,
    onMesh_mesh, put64_mesh]
  refine ⟨?_, (if_pos rfl : (if (4 * r + p) = 4 * r + p then [] else _) = []) ▸ hk, rfl⟩
  rw [hi]
  exact Lists.at_put.trans (if_pos rfl)

theorem routeCycle_east (hp : p < 4) (hg : s.coreGated r = false) (hu : s.linkUp r p = true)
    (hx : s.mesh.links.at (4 * r + p) = [x]) (hq : ∀ q, q < 4 → q ≠ p → s.mesh.links.at (4 * r + q) = [])
    (hl : x.legal = true) (hm : x.mc = false) (hj : x.rejoin = false) (hc : x.cls = 1) (hu1 : s.linkUp r 1 = true)
    (h35 : colOf r < 35) (h17 : colOf r ≠ 17) (hd : x.dest < 1152) (hr : x.dest ≠ r) (hlt : colOf r < colOf x.dest)
    (hb : s.blockedAt r x = false) (ha : s.flag Reg.DBG_INJ_STAT_ARMED = false) :
    let t := s.routeCycle r []
    t.mesh.links.at (4 * (r + 1) + 3) = s.mesh.links.at (4 * (r + 1) + 3) ++ [x] ∧ t.mesh.links.at (4 * r + p) = [] := by
  have hu1' : (s.takeLink r p).linkUp r 1 = true := takeLink_linkUp.trans hu1
  have ha' : (s.takeLink r p).flag Reg.DBG_INJ_STAT_ARMED = false := (takeLink_regsBut.flag not_seamRegs_inject).trans ha
  have hk := fun {k} => takeLink_links (k := k) hx
  dsimp only
  rw [routeCycle_of_head hg (linkHeads_of_one hp hu hx hq) (place_of_east hl hm hj hc hu1' (openPorts_east hu1') h17 hd hr hlt
    (takeLink_blockedAt.trans hb) ha') rfl]
  unfold Award.give
  dsimp only
  rw [sendOn_east h35 hc ha', award_mesh, seamLevel_mesh, onMesh_mesh]
  generalize s.takeLink r p = u at hk ⊢
  constructor
  · refine Lists.at_put.trans ((if_pos rfl).trans ?_)
    rw [hk, if_neg (by omega)]
  · refine Lists.at_put.trans ((if_neg (by omega)).trans ?_)
    rw [hk, if_pos rfl]

end Sys2Proof.Machine.State
end

section
set_option Elab.async false
/-! PROOFS. The commands of the event mesh: damaged pips, injection, and links that go down (R284 to R288). -/

namespace Sys2Proof.Machine.State

variable {s : State} {r p : Nat} {x : Pip}

/-! A damaged pip (R287, R288). -/

/-- The registers that the report of damaged pips may change beside their count. -/
def damageRegs (r a : Nat) : Prop := a = Reg.EVM_STATUS r ∨ a = Reg.FLT_LOG_LOST ∨ a = fltStat r

theorem fileReport_of_faults_regsBut {f : Faults} {suspect : Nat} :
    RegsBut (fun a => a = fltStat r) s (({ s with fault := f } : State).fileReport r suspect) :=
  (RegsBut.refl (s := s).congr rfl).trans fileReport_regsBut

theorem detect_regsBut {d : Detect} {suspect : Nat} : RegsBut (fun a => a = fltStat r) s (s.detect r suspect d) := by
  unfold detect
  extract_lets key w old c f g
  clear_value f g
  split
  · exact fileReport_of_faults_regsBut
  · exact fileReport_of_faults_regsBut

theorem discardPips_of_some {k : Nat} (hk : k ≠ 0) : s.discardPips r p k =
    (((s.count (Reg.EVM_CRC_ERR_COUNT r) k).put (Reg.EVM_STATUS_CRC r) 1).raise (Reg.EVM_INT_EN r) 1).logOnce .evm r 0x3102 r p :=
  if_neg hk

theorem discardPips_mesh {k : Nat} : (s.discardPips r p k).mesh = s.mesh :=
  (discardPips_sameBut (F := [.regs, .events, .once, .sent]) (by decide) .refl).eq (f := State.mesh) fun _ => rfl

theorem not_damageRegs_crc (hr : r < 1152) : ¬damageRegs r (Reg.EVM_CRC_ERR r) := by
  have h : fltStat r = Reg.SYNC_FLT_STAT r := if_pos hr
  simp only [damageRegs, h, Reg.EVM_CRC_ERR, Reg.EVM_STATUS, Reg.FLT_LOG_LOST, Reg.SYNC_FLT_STAT, tileBase]
  omega

theorem damaged_count (hr : r < 1152) : (s.damaged r p x).get (Reg.EVM_CRC_ERR_COUNT r) =
    satInc (Reg.EVM_CRC_ERR_COUNT r).len (s.get (Reg.EVM_CRC_ERR_COUNT r)) 1 := by
  have hn : ∀ z : State, (z.nakPips r p [x]).regs = z.regs := fun z =>
    (nakPips_sameBut (F := [.mesh]) (by decide) .refl).eq (f := State.regs) fun _ => rfl
  have h : RegsBut (damageRegs r) (s.count (Reg.EVM_CRC_ERR_COUNT r)) ((s.discardPips r p 1).detect r
      (suspectId 1 (4 * r + p)) .linkCrc) := by
    rw [discardPips_of_some (by decide)]
    exact (logOnce_regsBut (.inr (.inl rfl)) (raise_regsBut (put_regsBut (.inl rfl) .refl))).trans
      (detect_regsBut.mono fun _ h => .inr (.inr h))
  unfold damaged
  rw [get_congr (hn _), h.get (not_damageRegs_crc hr), get_count_self (by simp)]

theorem damaged_mesh : (s.damaged r p x).mesh = (s.nakPips r p [x]).mesh := by
  have hd : ∀ z : State, (z.detect r (suspectId 1 (4 * r + p)) .linkCrc).mesh = z.mesh := fun z =>
    (detect_sameBut (F := [.regs, .objs, .fault]) (by decide) .refl).eq (f := State.mesh) fun _ => rfl
  unfold damaged nakPips
  split
  · rw [onMesh_mesh, onMesh_mesh, hd, discardPips_mesh]
  · rw [onMesh_mesh, onMesh_mesh, hd, discardPips_mesh]

theorem nakPips_of_neighbour {q : Nat} {l : List Pip} (h : neighbour r p = some q) : (s.nakPips r p l).mesh =
    { s.mesh with naks := s.mesh.naks.put (4 * q + facing p) (s.mesh.naks.at (4 * q + facing p) ++ l) } := by
  rw [nakPips, h]
  rfl

theorem nakPips_of_edge {l : List Pip} (h : neighbour r p = none) : (s.nakPips r p l).mesh =
    { s.mesh with edgeRetry := s.mesh.edgeRetry.put (rowOf r) (s.mesh.edgeRetry.at (rowOf r) ++ l) } := by
  rw [nakPips, h]
  rfl

theorem nakPips_links {l : List Pip} : (s.nakPips r p l).mesh.links = s.mesh.links := by
  cases h : neighbour r p with
  | none => rw [nakPips_of_edge h]
  | some q => rw [nakPips_of_neighbour h]

theorem routeCycle_damaged {c : BitVec 16} {p : Fin 4} (hr : r < 1152) (hg : s.coreGated r = false) (hu : s.linkUp r p.val = true)
    (hx : s.mesh.links.at (4 * r + p.val) = [x]) (hq : ∀ q, q < 4 → q ≠ p.val → s.mesh.links.at (4 * r + q) = [])
    (hc : c.toNat ≠ pipCrc x) :
    let t := s.routeCycle r [(p, c)]
    t.get (Reg.EVM_CRC_ERR_COUNT r) = satInc (Reg.EVM_CRC_ERR_COUNT r).len (s.get (Reg.EVM_CRC_ERR_COUNT r)) 1 ∧
      t.mesh.links.at (4 * r + p.val) = [] ∧
      (∀ q, neighbour r p.val = some q → t.mesh.naks.at (4 * q + facing p.val) = s.mesh.naks.at (4 * q + facing p.val) ++ [x]) ∧
      (neighbour r p.val = none → t.mesh.edgeRetry.at (rowOf r) = s.mesh.edgeRetry.at (rowOf r) ++ [x]) := by
  obtain ⟨l, e⟩ := routeCycle_of_damaged (c := (p, c)) hg (linkHeads_of_one p.isLt hu hx hq) hc
  have hk := takeLink_links (k := 4 * r + p.val) hx
  have hm := takeLink_mesh (s := s) (r := r) (p := p.val)
  have hn : (s.takeLink r p.val).get (Reg.EVM_CRC_ERR_COUNT r) = s.get (Reg.EVM_CRC_ERR_COUNT r) := takeLink_regsBut.get (by
    rintro ⟨j, h⟩
    simp only [Reg.EVM_CRC_ERR, Reg.EVM_SEAM, tileBase] at h
    omega)
  dsimp only
  rw [e, get_congr award_regs, award_mesh]
  unfold crcDiscard
  dsimp only
  rw [damaged_count hr, hn, damaged_mesh]
  generalize s.takeLink r p.val = u at hk hm
  refine ⟨rfl, ?_, fun q h => ?_, fun h => ?_⟩
  · rw [nakPips_links, hk, if_pos rfl]
  · rw [nakPips_of_neighbour h, hm]
    exact Lists.at_put.trans (if_pos rfl)
  · rw [nakPips_of_edge h, hm]
    exact Lists.at_put.trans (if_pos rfl)

/-! A control pip injected at its own router (R284). -/

theorem refill_mesh {n : Nat} : (s.refill n).mesh = { s.mesh with spent := s.mesh.spent.put n (s.mesh.spent.at n - s.rate n) } := by
  rw [refill, putBucket, put_mesh, onMesh_mesh]

theorem refill_regsBut {n : Nat} : RegsBut (fun a => a = thrRate n) s (s.refill n) :=
  put_regsBut rfl (onMesh_regsBut .refl)

/-- The state in which an injection cycle looks for its candidate. -/
def readyToInject (s : State) (r : Nat) : State := (s.refill r).onMesh fun m => { m with awarded := m.awarded.put r [] }

/-- The ports that an injection may take. -/
def injectPorts (s : State) (r : Nat) : List Nat := (List.range 5).filter fun q =>
  !(s.mesh.awarded.at r).contains q && (q = 4 || s.linkUp r q)

theorem readyToInject_mesh : (s.readyToInject r).mesh = { s.mesh with
    spent := s.mesh.spent.put r (s.mesh.spent.at r - s.rate r)
    awarded := s.mesh.awarded.put r [] } := by
  rw [readyToInject, onMesh_mesh, refill_mesh]

theorem candidate_of_control {rest : List Pip} (h1 : s.mesh.retry.at r = []) (h2 : s.mesh.ctrl.at r = x :: rest) :
    s.candidate r = some (.ctrl, x, 4) := by
  rw [candidate, h1, h2]

theorem injectCycle_of_own (hr : r < 1152) (hg : s.coreGated r = false)
    (hc : (s.readyToInject r).candidate r = some (.ctrl, x, 4)) (hl : x.legal = true) (hm : x.mc = false) (hd : x.dest = r)
    (hp : (s.injectPorts r).contains 4 = true) (he : (s.readyToInject r).ejectable r x = true) :
    s.injectCycle r = ((s.readyToInject r).takeCandidate r .ctrl x).takeAtL r x := by
  unfold injectCycle
  rw [if_neg (by simp [hg])]
  unfold readyToInject at hc he ⊢
  unfold injectPorts at hp
  dsimp only
  rw [hc]
  dsimp only
  rw [if_neg (by simp [hl]), if_neg (by simp [hm]), if_neg (by simp [blockedAt_own hr hm hd]), if_pos (by simp [hm, hd]), hp, he]
  exact if_pos rfl

theorem takeCandidate_control_mesh : (s.takeCandidate r .ctrl x).mesh = { s.mesh with ctrl := s.mesh.ctrl.drop1 r } := by
  have h : ((s.add64 (Reg.EVM_INJ_LO r) 1).countOp r 8 1).mesh = s.mesh := by rw [countOp, add64_mesh, add64_mesh]
  unfold takeCandidate
  dsimp only
  rw [onMesh_mesh, h]

theorem fenced_of_regsBut {B : Nat → Prop} {t : State} (h : RegsBut B s t) (hB : ∀ a, B a → 0x100000000 ≤ a) (hr : r < 1152) :
    t.fenced r = s.fenced r := by
  rw [fenced, h _ (fun hb => by have := hB _ hb; simp only [Reg.FLT_FENCE] at this; omega), fenced]

theorem takeCandidate_control_regsBut : RegsBut (fun a => 0x100000000 ≤ a) s (s.takeCandidate r .ctrl x) := by
  have h1 : 0x100000000 ≤ Reg.EVM_INJ_LO r := by simp only [Reg.EVM_INJ_LO, tileBase]; omega
  have h2 : 0x100000000 ≤ Reg.DBG_OPS0_LO r + 8 * 8 := by simp only [Reg.DBG_OPS0_LO, tileBase]; omega
  exact onMesh_regsBut (add64_regsBut h2 (by omega) (add64_regsBut h1 (by omega) .refl))

theorem injectCycle_own {rest : List Pip} (hr : r < 1152) (hg : s.coreGated r = false) (h1 : s.mesh.retry.at r = [])
    (h2 : s.mesh.ctrl.at r = x :: rest) (hl : x.legal = true) (hm : x.mc = false) (hd : x.dest = r) (hc : x.cls = 0)
    (hp1 : x.ptype ≠ 1) (hp2 : x.ptype ≠ 2) (hf : s.fenced r = false) (hn : (s.mesh.ctrlIn.at r).length < 4)
    (hw : (s.mesh.awarded.at r).contains 4 = false) :
    let t := s.injectCycle r
    t.mesh.ctrlIn.at r = s.mesh.ctrlIn.at r ++ [x] ∧ t.mesh.ctrl.at r = rest ∧ t.mesh.awarded.at r = [] := by
  have hq := readyToInject_mesh (s := s) (r := r)
  have hrate : thrRate r = Reg.EVM_THR_RATE r := if_pos hr
  have hf1 : (s.readyToInject r).fenced r = false :=
    (fenced_of_regsBut (onMesh_regsBut refill_regsBut) (fun a ha => by
      rw [ha, hrate]
      simp only [Reg.EVM_THR_RATE, tileBase]
      omega) hr).trans hf
  have hp : (s.injectPorts r).contains 4 = true := by simpa [injectPorts] using hw
  have e := injectCycle_of_own hr hg (candidate_of_control (by rw [hq]; exact h1) (by rw [hq]; exact h2)) hl hm hd hp
    (ejectable_of_control hc hf1 (by rw [hq]; exact hn))
  dsimp only
  rw [e]
  generalize s.readyToInject r = u at hq hf1
  have hf2 : (u.takeCandidate r .ctrl x).fenced r = false :=
    (fenced_of_regsBut takeCandidate_control_regsBut (fun _ h => h) hr).trans hf1
  rw [takeAtL_of_control hc hp1 hp2 hf2, onMesh_mesh, add64_mesh, takeCandidate_control_mesh, hq]
  refine ⟨Lists.at_put.trans (if_pos rfl), ?_, ?_⟩
  rotate_left
  · show (s.mesh.awarded.put r []).at r = []
    exact Lists.at_put.trans (if_pos rfl)
  refine Lists.at_put.trans ((if_pos rfl).trans ?_)
  rw [h2]
  rfl

/-! Retries and links that go down (R287, R288). -/

theorem linkUp_of_reg {q : Nat} {t : State} (h : t.reg (Reg.EVM_LINK r) = s.reg (Reg.EVM_LINK r)) :
    t.linkUp r q = s.linkUp r q := by
  rw [linkUp, h, linkUp]

theorem linkUp_put_of_apart {f : RF} {v q : Nat} (h : f.addr ≠ Reg.EVM_LINK r ∨ q < f.lo) :
    (s.put f v).linkUp r q = s.linkUp r q := by
  rw [linkUp, reg_put]
  split
  · next e => rw [getLsbD_setF, if_neg (by omega), linkUp, e]
  · rfl

theorem linkUp_put_up {v q : Nat} (hq : q < 4) : (s.put (Reg.EVM_LINK_UP r) v).linkUp r q = (v % 16).testBit q := by
  rw [linkUp, reg_put, if_pos rfl, getLsbD_setF, if_pos (show 0 ≤ q ∧ q < 0 + 4 ∧ q < 32 by omega)]
  rfl

theorem cleared_testBit : ∀ v < 16, ∀ q < 4, ((v - bits v q 1 * 2 ^ q) % 16).testBit q = false := by decide

theorem discardPips_linkUp {k q j m : Nat} : (s.discardPips k j m).linkUp r q = s.linkUp r q := by
  have hc : Reg.EVM_CRC_ERR k ≠ Reg.EVM_LINK r := by simp only [Reg.EVM_CRC_ERR, Reg.EVM_LINK, tileBase]; omega
  have hs : Reg.EVM_STATUS k ≠ Reg.EVM_LINK r := by simp only [Reg.EVM_STATUS, Reg.EVM_LINK, tileBase]; omega
  have hl : Reg.FLT_LOG_LOST ≠ Reg.EVM_LINK r := by simp only [Reg.FLT_LOG_LOST, Reg.EVM_LINK, tileBase]; omega
  have h : RegsBut (· ≠ Reg.EVM_LINK r) s (s.discardPips k j m) := by
    unfold discardPips
    exact keeps_ite .refl (logOnce_regsBut hl (raise_regsBut (put_regsBut hs (count_regsBut hc .refl))))
  exact linkUp_of_reg (h _ (not_not.2 rfl))

theorem seamLevel_linkUp {k q : Nat} : (s.seamLevel k).linkUp r q = s.linkUp r q :=
  linkUp_of_reg (seamLevel_regsBut _ not_seamRegs_link)

theorem nakPips_linkUp {k j q : Nat} {l : List Pip} : (s.nakPips k j l).linkUp r q = s.linkUp r q :=
  linkUp_of_reg (reg_congr ((nakPips_sameBut (F := [.mesh]) (by decide) .refl).eq (f := State.regs) fun _ => rfl))

theorem onMesh_linkUp {f : Mesh → Mesh} {q : Nat} : (s.onMesh f).linkUp r q = s.linkUp r q :=
  linkUp_of_reg (reg_congr onMesh_regs)

theorem halfDown_linkUp {k j q : Nat} : (s.halfDown k j).linkUp r q = (s.put (Reg.EVM_LINK_UP k)
    (s.get (Reg.EVM_LINK_UP k) - bits (s.get (Reg.EVM_LINK_UP k)) j 1 * 2 ^ j)).linkUp r q := by
  unfold halfDown
  generalize s.put (Reg.EVM_LINK_UP k) (s.get (Reg.EVM_LINK_UP k) - bits (s.get (Reg.EVM_LINK_UP k)) j 1 * 2 ^ j) = u
  extract_lets u₀ onway v w
  rw [nakPips_linkUp, discardPips_linkUp]
  have hv : v.linkUp r q = u.linkUp r q := onMesh_linkUp
  clear_value v
  show State.linkUp (match neighbour k j with | some r' => if isSeam r' (facing j) then v.seamLevel r' else v | none => v) r q = _
  split
  · split
    · rw [seamLevel_linkUp, hv]
    · exact hv
  · exact hv

theorem halfDown_down (hp : p < 4) : (s.halfDown r p).linkUp r p = false := by
  rw [halfDown_linkUp, linkUp_put_up hp]
  exact cleared_testBit _ (getF_lt : _ < 2 ^ 4) p hp

theorem halfDown_keeps_down {k j : Nat} (hk : k ≠ r) (h : s.linkUp r p = false) : (s.halfDown k j).linkUp r p = false := by
  rw [halfDown_linkUp, linkUp_put_of_apart (.inl (by simp only [Reg.EVM_LINK, tileBase]; omega)), h]

theorem drainNaks_keeps_down {k j fuel : Nat} (hp : p < 4) (h : s.linkUp r p = false) :
    (s.drainNaks k j fuel).linkUp r p = false := by
  induction fuel generalizing s with
  | zero => exact h
  | succ fuel ih =>
    unfold drainNaks
    split
    · exact h
    · split
      · exact h
      · exact ih ((linkUp_put_of_apart (.inr (by simp; omega))).trans h)

theorem refillRetry_keeps_down {k : Nat} (hp : p < 4) (h : s.linkUp r p = false) : (s.refillRetry k).linkUp r p = false :=
  keeps_foldl (P := fun z => z.linkUp r p = false) _ h fun _ hz _ =>
    keeps_ite (P := fun z => z.linkUp r p = false) hz (drainNaks_keeps_down hp hz)

theorem linkDown_down (hr : r < 1152) (hp : p < 4) : (s.linkDown r p).linkUp r p = false := by
  unfold linkDown
  dsimp only
  split
  · next q h =>
    have hq : q ≠ r := by
      rintro rfl
      exact neighbour_ne hr h
    exact refillRetry_keeps_down hp (refillRetry_keeps_down hp (halfDown_keeps_down hq (halfDown_down hp)))
  · exact refillRetry_keeps_down hp (halfDown_down hp)

end Sys2Proof.Machine.State
end

section
set_option Elab.async false
/-! PROOFS. The commands of the event mesh (R280 to R311, R443, R769). -/

namespace Sys2Proof.Machine.State

variable {s : State} {r p : Nat} {x : Pip}

/-! The edge's injection (R443, R769). -/

theorem edgeSend_mesh {y : Nat} : (s.edgeSend y x).mesh = { s.mesh with links := s.mesh.links.push (4 * (36 * y) + 3) x } := rfl

theorem edgeReturn_of_waiting {y : Fin 32} {rest : List Pip} (h : s.mesh.edgeBack.at y.val = x :: rest) :
    execEdgeReturnPip y s = s.done ((s.onMesh fun m => { m with edgeBack := m.edgeBack.drop1 y.val }).edgeSend y.val x) := by
  rw [execEdgeReturnPip, h]

theorem edgeCycle_of_control {y : Nat} {rest : List Pip} (hy : y < 32) (h1 : s.mesh.edgeBack.at y = [])
    (h2 : s.linkUp (36 * y) 3 = true) (h3 : s.mesh.edgeRetry.at y = []) (h4 : s.mesh.ctrl.at (1152 + y) = x :: rest) :
    s.edgeCycle y = (((s.refill (1152 + y)).onMesh fun m => { m with ctrl := m.ctrl.drop1 (1152 + y) }).edgeSend y x) := by
  have hm := refill_mesh (s := s) (n := 1152 + y)
  have hu : (s.refill (1152 + y)).linkUp (36 * y) 3 = true := (linkUp_of_reg (refill_regsBut _ (by
    have : thrRate (1152 + y) = Reg.SEN_WE_RATE y := (if_neg (by omega)).trans (congrArg _ (by omega))
    rw [this]
    simp only [Reg.EVM_LINK, Reg.SEN_WE_RATE, tileBase]
    omega))).trans h2
  unfold edgeCycle
  dsimp only
  generalize s.refill (1152 + y) = u at hm hu
  have e1 : u.mesh.edgeBack.at y = [] := by rw [hm]; exact h1
  have e3 : u.mesh.edgeRetry.at y = [] := by rw [hm]; exact h3
  have e4 : u.mesh.ctrl.at (1152 + y) = x :: rest := by rw [hm]; exact h4
  rw [e1, hu, if_neg (by simp), e3, e4]

/-! Retries (R288). -/

theorem retryLevel_mesh : (s.retryLevel r).mesh = s.mesh := put_mesh

theorem nakReceive_of_room {r : Fin 1152} {p : Fin 4} {rest : List Pip} (h : s.mesh.naks.at (4 * r.val + p.val) = x :: rest)
    (hl : (s.mesh.retry.at r.val).length < 8) : execNakReceive r p s = s.done ((s.onMesh fun m => { m with
      naks := m.naks.drop1 (4 * r.val + p.val)
      retry := m.retry.push r.val (x, p.val) }).retryLevel r.val) := by
  unfold execNakReceive
  dsimp only
  rw [if_neg (by simp [h]), if_pos hl]
  unfold drainNaks
  rw [h]
  dsimp only
  rw [if_neg (by omega)]
  rfl

/-! The throttle (R295, R296). -/

/-- The state in which a throttle has taken a control pip. -/
def throttleTaken (s : State) (n : Nat) (x : Pip) : State :=
  s.onMesh fun m => { m with throttleIn := m.throttleIn.put n ((m.throttleIn.at n).erase x) }

theorem throttleTake_of_find {n k : Nat} (h : ((s.mesh.throttleIn.at n).find? fun p => p.ptype = k) = some x) :
    s.throttleTake n k = some (s.throttleTaken n x) := by
  rw [throttleTake, h]
  rfl

/-- The state in which an echo is counted and its time taken. -/
def echoCounted (s : State) (n : Nat) : State :=
  (if n < 1152 then s.count (Reg.EVM_ECHO_RX_COUNT n) else s).onMesh fun m => { m with
    lastEcho := m.lastEcho.put n ((if n < 1152 then s.count (Reg.EVM_ECHO_RX_COUNT n) else s).now + 1)
    riseFrom := m.riseFrom.put n (if n < 1152 then s.count (Reg.EVM_ECHO_RX_COUNT n) else s).now }

theorem echoCounted_regsBut {n : Nat} : RegsBut (fun a => a = Reg.EVM_ECHO_RX n) s (s.echoCounted n) :=
  onMesh_regsBut (keeps_ite (count_regsBut rfl .refl) .refl)

theorem echoCounted_throttleIn {n : Nat} : (s.echoCounted n).mesh.throttleIn = s.mesh.throttleIn := by
  rw [echoCounted, onMesh_mesh]
  split
  · rw [count, put_mesh]
  · rfl

theorem acceptEcho_of_first {n : Nat} (hm : (s.echoCounted n).metered n = true) (hl : s.mesh.lastEcho.at n = 0) :
    s.acceptEcho n = (s.echoCounted n).put ⟨thrRate n, 0, 9⟩ (max ((s.echoCounted n).get ⟨thrHold n, 0, 9⟩)
      ((s.echoCounted n).rate n * (s.echoCounted n).get ⟨thrCfg n, 0, 4⟩ / 16)) := by
  have h0 : (if n < 1152 then s.count (Reg.EVM_ECHO_RX_COUNT n) else s).mesh.lastEcho.at n = 0 := by
    split
    · rw [count, put_mesh, hl]
    · exact hl
  unfold echoCounted at hm ⊢
  unfold acceptEcho
  dsimp only at hm ⊢
  generalize (if n < 1152 then s.count (Reg.EVM_ECHO_RX_COUNT n) else s) = u at hm h0 ⊢
  rw [if_neg (by simp [h0])]
  exact if_pos hm

/-- The registers of a node's throttle. -/
def thrRegs (n a : Nat) : Prop := a = thrCfg n ∨ a = thrHold n ∨ a = thrRate n ∨ (n < 1152 ∧ a = Reg.EVM_CTRL n)

theorem thrRegs_apart {n a : Nat} (hn : n < 1184) (h : thrRegs n a) :
    a ≠ Reg.EVM_ECHO_RX n ∧ a ≠ Reg.TB_COUNT_LO ∧ a ≠ Reg.TB_COUNT_LO + 4 := by
  simp only [thrRegs, thrCfg, thrHold, thrRate] at h
  simp only [Reg.EVM_ECHO_RX, Reg.TB_COUNT_LO, tileBase]
  split at h <;>
    simp only [Reg.EVM_THR_CFG, Reg.EVM_THR_HOLD, Reg.EVM_THR_RATE, Reg.EVM_CTRL, Reg.SEN_WE_THR_CFG, Reg.SEN_WE_THR_HOLD,
      Reg.SEN_WE_RATE, tileBase] at h <;> omega

/-- What a throttle reads is the same where its registers are. -/
theorem throttle_congr {n : Nat} {t : State} (h : ∀ a, thrRegs n a → t.reg a = s.reg a) :
    t.metered n = s.metered n ∧ t.rate n = s.rate n ∧ (∀ lo len, t.get ⟨thrHold n, lo, len⟩ = s.get ⟨thrHold n, lo, len⟩) ∧
      (∀ lo len, t.get ⟨thrCfg n, lo, len⟩ = s.get ⟨thrCfg n, lo, len⟩) := by
  have hr : ∀ lo len, t.get ⟨thrRate n, lo, len⟩ = s.get ⟨thrRate n, lo, len⟩ := fun lo len => by
    rw [get, get, h _ (.inr (.inr (.inl rfl)))]
  have hm : t.metered n = s.metered n := by
    by_cases hn : n < 1152
    · rw [metered, metered, flag, flag, get, get, h _ (.inr (.inr (.inr ⟨hn, rfl⟩)))]
    · simp [metered, Nat.le_of_not_lt hn]
  refine ⟨hm, by rw [rate, rate, hm, hr], fun lo len => ?_, fun lo len => ?_⟩
  · rw [get, get, h _ (.inr (.inl rfl))]
  · rw [get, get, h _ (.inl rfl)]

theorem acceptEcho_result {n : Nat} (hn : n < 1184) (hm : s.metered n = true) (hl : s.mesh.lastEcho.at n = 0) :
    (s.acceptEcho n).get ⟨thrRate n, 0, 9⟩ = max (s.get ⟨thrHold n, 0, 9⟩) (s.rate n * s.get ⟨thrCfg n, 0, 4⟩ / 16) % 2 ^ 9 ∧
      (s.acceptEcho n).mesh.throttleIn = s.mesh.throttleIn := by
  have ht := echoCounted_throttleIn (s := s) (n := n)
  obtain ⟨h1, h2, h3, h4⟩ := throttle_congr (s := s) (t := s.echoCounted n) fun a ha =>
    echoCounted_regsBut a (thrRegs_apart hn ha).1
  rw [acceptEcho_of_first (h1.trans hm) hl, get_put_self (by simp), put_mesh]
  exact ⟨by rw [h2, h3, h4], ht⟩

theorem stormNotice_of_find {n : Fin 1184} (h : ((s.mesh.throttleIn.at n.val).find? fun p => p.ptype = 2) = some x)
    (hm : s.metered n.val = true) : execStormNoticeReceive n s =
      s.done ((s.throttleTaken n.val x).put ⟨thrRate n.val, 0, 9⟩ (s.get ⟨thrHold n.val, 0, 9⟩)) := by
  unfold execStormNoticeReceive
  rw [throttleTake_of_find h]
  exact if_pos hm

/-- The state at the time of a rate's next rise. -/
def riseTime (s : State) (n : Nat) : State := s.reach (s.mesh.riseFrom.at n + s.nodeCycles n (s.get ⟨thrCfg n, 16, 12⟩))

theorem throttleIncrease_result {n : Fin 1184} (hm : s.metered n.val = true) : ∃ t,
    execThrottleIncrease n s = s.done t ∧
      t.get ⟨thrRate n.val, 0, 9⟩ = min 256 (s.get ⟨thrRate n.val, 0, 9⟩ + s.get ⟨thrCfg n.val, 4, 8⟩) ∧ s.sameBytes t := by
  generalize hu : ((s.riseTime n.val).onMesh fun m => { m with riseFrom := m.riseFrom.put n.val (s.riseTime n.val).now }) = u
  have hr : RegsBut (fun a => a = Reg.TB_COUNT_LO ∨ a = Reg.TB_COUNT_LO + 4) s u := by
    rw [← hu]
    exact onMesh_regsBut (reach_regsBut (.inl rfl) (.inr rfl) .refl)
  have hb : s.sameBytes u := by
    rw [← hu]
    exact fun a => by rw [rd8_onMesh, riseTime, rd8_reach]
  obtain ⟨h1, h2, -, h4⟩ := throttle_congr (s := s) (t := u) fun a ha => hr a (by
    obtain ⟨-, h1, h2⟩ := thrRegs_apart n.isLt ha
    simp [h1, h2])
  have hrate : s.rate n.val = s.get ⟨thrRate n.val, 0, 9⟩ := if_pos hm
  refine ⟨u.put ⟨thrRate n.val, 0, 9⟩ (min 256 (u.rate n.val + u.get ⟨thrCfg n.val, 4, 8⟩)), ?_, ?_, fun a => ?_⟩
  · rw [← hu] at h1 ⊢
    exact if_pos (h1.trans hm)
  · rw [get_put_self (by simp), h2, h4, hrate]
    exact Nat.mod_eq_of_lt (Nat.lt_of_le_of_lt (Nat.min_le_left ..) (show 256 < 2 ^ 9 by decide))
  · rw [rd8_put, hb a]

/-! The delay store, the multicast table and the spill region (R289, R298, R301). -/

theorem delayStoreWrite_of_room {r : Fin 1152} {e : BitVec 128} {rest : List (BitVec 128)}
    (h : s.mesh.delayWait.at r.val = e :: rest) (hl : (s.mesh.delay.at r.val).length < 1024) : execDelayStoreWrite r s =
      s.done (((s.onMesh fun m => { m with delayWait := m.delayWait.drop1 r.val }).onMesh fun m =>
        { m with delay := m.delay.push r.val e }).dsLevel r.val) := by
  rw [execDelayStoreWrite, h]
  exact congrArg s.done (if_pos hl)

theorem dsLevel_mesh : (s.dsLevel r).mesh = s.mesh := by rw [dsLevel, raiseTo, put_mesh, put_mesh]

theorem dsLevel_regsBut : RegsBut (· ∈ [Reg.EVM_DS_LEVEL r]) s (s.dsLevel r) :=
  raiseTo_regsBut (by simp) (put_regsBut (by simp) .refl)

theorem dsLevel_level (h : (s.mesh.delay.at r).length < 2 ^ 11) :
    (s.dsLevel r).get (Reg.EVM_DS_LEVEL_LEVEL r) = (s.mesh.delay.at r).length := by
  rw [dsLevel, raiseTo, get_put_clear (by simp), get_put_self (by simp)]
  exact Nat.mod_eq_of_lt h

theorem mcWrite_of_open {v : Nat} {remap : Bool} (h : s.running = false ∨ remap = true) : s.mcWrite r v remap =
    (s.onMesh fun m => { m with
      mcast := m.mcast.put (4096 * r + s.get (Reg.EVM_MC_ADDR_GROUP r)) (v % 2 ^ 24 - bits v 11 1 * 2 ^ 11) }).mcStep r := by
  unfold mcWrite
  rw [if_neg (by obtain h | h := h <;> simp [h])]

theorem mcStep_mesh : (s.mcStep r).mesh = s.mesh := by
  unfold mcStep
  split
  · rw [put_mesh]
  · rfl

theorem mcStep_regsBut : RegsBut (· ∈ [Reg.EVM_MC_ADDR r]) s (s.mcStep r) := by
  unfold mcStep
  exact keeps_ite (put_regsBut (by simp) .refl) .refl

theorem spillWrite_base {v : Nat} (h1 : v % 2 ^ 19 % 16 = 0)
    (h2 : v % 2 ^ 19 + 1024 * s.get (Reg.EVM_SPILL_LEN_LEN r) ≤ 0x80000) :
    s.spillWrite r false v = s.put (Reg.EVM_SPILL_BASE_BASE r) (v % 2 ^ 19) := by
  unfold spillWrite
  simp only [Bool.false_eq_true, if_false, Bool.false_and, Bool.not_false, Bool.true_and]
  rw [if_neg (by simpa using h1), if_neg (by omega)]

theorem spillWrite_len {v : Nat} (h1 : s.running = false)
    (h2 : s.get (Reg.EVM_SPILL_BASE_BASE r) + 1024 * (v % 1024) ≤ 0x80000) :
    s.spillWrite r true v = s.put (Reg.EVM_SPILL_LEN_LEN r) (v % 1024) := by
  unfold spillWrite
  simp only [if_true, Bool.true_and, h1, Bool.false_eq_true, if_false, Bool.not_true, Bool.false_and]
  rw [if_neg (by omega)]

end Sys2Proof.Machine.State
end

section
set_option Elab.async false
/-! PROOFS. The commands of the event mesh complete as the rules say. -/

namespace Sys2Proof.Machine.State

variable {s : State}

/-- The edge, retries and links (R287, R288, R443, R769). -/
theorem linkCommands_complete :
    (∀ (y : Fin 32) (x : Pip) rest, s.mesh.edgeBack.at y.val = x :: rest → s.completes (.edgeReturnPip y) fun t =>
      t.mesh.edgeBack.at y.val = rest ∧
        t.mesh.links.at (4 * (36 * y.val) + 3) = s.mesh.links.at (4 * (36 * y.val) + 3) ++ [x] ∧ s.sameRegs t [] ∧ s.sameBytes t) ∧
    (∀ (y : Fin 32) (x : Pip) rest, s.mesh.edgeBack.at y.val = [] → s.linkUp (36 * y.val) 3 = true →
      s.mesh.edgeRetry.at y.val = [] → s.mesh.ctrl.at (1152 + y.val) = x :: rest →
      s.completes (.edgeInject y) fun t => t.mesh.ctrl.at (1152 + y.val) = rest ∧
        t.mesh.links.at (4 * (36 * y.val) + 3) = s.mesh.links.at (4 * (36 * y.val) + 3) ++ [x] ∧ s.sameBytes t) ∧
    (∀ (r : Fin 1152) (p : Fin 4) (x : Pip) rest, s.mesh.naks.at (4 * r.val + p.val) = x :: rest →
      (s.mesh.retry.at r.val).length < 8 → s.completes (.nakReceive r p) fun t =>
        t.mesh.retry.at r.val = s.mesh.retry.at r.val ++ [(x, p.val)] ∧ t.mesh.naks.at (4 * r.val + p.val) = rest ∧
        s.sameRegs t [Reg.EVM_LINK r.val] ∧ s.sameBytes t) ∧
    (∀ (r : Fin 1152) (p : Fin 4), s.completes (.linkDownSignal r p) fun t => t.linkUp r.val p.val = false ∧ s.sameBytes t) := by
  refine ⟨fun y x rest h => ?_, fun y x rest h1 h2 h3 h4 => ?_, fun r p x rest h hl => ?_, fun r p => ?_⟩
  · refine completes_done (edgeReturn_of_waiting h) ⟨?_, ?_, fun _ _ => rfl, fun _ => rfl⟩
    · rw [withQueue_mesh, edgeSend_mesh, onMesh_mesh]
      refine Lists.at_put.trans ((if_pos rfl).trans ?_)
      rw [h]
      rfl
    · rw [withQueue_mesh, edgeSend_mesh, onMesh_mesh]
      exact Lists.at_put.trans (if_pos rfl)
  · refine completes_done (congrArg s.done (edgeCycle_of_control y.isLt h1 h2 h3 h4)) ⟨?_, ?_, fun a => ?_⟩
    · rw [withQueue_mesh, edgeSend_mesh, onMesh_mesh, refill_mesh]
      refine Lists.at_put.trans ((if_pos rfl).trans ?_)
      rw [h4]
      rfl
    · rw [withQueue_mesh, edgeSend_mesh, onMesh_mesh, refill_mesh]
      exact Lists.at_put.trans (if_pos rfl)
    · rw [rd8_withQueue, edgeSend, rd8_onMesh, rd8_onMesh, refill, putBucket, rd8_put, rd8_onMesh]
  · refine completes_done (nakReceive_of_room h hl) ⟨?_, ?_, fun a ha => ?_, fun a => ?_⟩
    · rw [withQueue_mesh, retryLevel_mesh, onMesh_mesh]
      exact Lists.at_put.trans (if_pos rfl)
    · rw [withQueue_mesh, retryLevel_mesh, onMesh_mesh]
      refine Lists.at_put.trans ((if_pos rfl).trans ?_)
      rw [h]
      rfl
    · rw [reg_withQueue]
      exact (put_regsBut (B := (· ∈ [Reg.EVM_LINK r.val])) (by simp) (onMesh_regsBut .refl)) a ha
    · rw [rd8_withQueue, retryLevel, rd8_put, rd8_onMesh]
  · refine completes_done rfl ⟨(linkUp_of_reg reg_withQueue).trans (linkDown_down r.isLt p.isLt), fun a => ?_⟩
    rw [rd8_withQueue]
    exact SameBut.sameBytes (linkDown_sameBut (F := [.regs, .events, .mesh, .once, .sent]) (by decide) .refl) rfl rfl a

/-- The throttles (R295, R296). -/
theorem throttleCommands_complete :
    (∀ (n : Fin 1184) (x : Pip), ((s.mesh.throttleIn.at n.val).find? fun p => p.ptype = 1) = some x →
      s.metered n.val = true → s.mesh.lastEcho.at n.val = 0 → s.completes (.echoReceive n) fun t =>
        t.get ⟨thrRate n.val, 0, 9⟩ =
          max (s.get ⟨thrHold n.val, 0, 9⟩) (s.rate n.val * s.get ⟨thrCfg n.val, 0, 4⟩ / 16) % 2 ^ 9 ∧
        t.mesh.throttleIn.at n.val = (s.mesh.throttleIn.at n.val).erase x ∧ s.sameBytes t) ∧
    (∀ (n : Fin 1184) (x : Pip), ((s.mesh.throttleIn.at n.val).find? fun p => p.ptype = 2) = some x →
      s.metered n.val = true → s.completes (.stormNoticeReceive n) fun t =>
        t.get ⟨thrRate n.val, 0, 9⟩ = s.get ⟨thrHold n.val, 0, 9⟩ ∧
        t.mesh.throttleIn.at n.val = (s.mesh.throttleIn.at n.val).erase x ∧ s.sameRegs t [thrRate n.val] ∧ s.sameBytes t) ∧
    (∀ n : Fin 1184, s.metered n.val = true → s.completes (.throttleIncrease n) fun t =>
      t.get ⟨thrRate n.val, 0, 9⟩ = min 256 (s.get ⟨thrRate n.val, 0, 9⟩ + s.get ⟨thrCfg n.val, 4, 8⟩) ∧ s.sameBytes t) := by
  refine ⟨fun n x h hm hl => ?_, fun n x h hm => ?_, fun n hm => ?_⟩
  · have e : execEchoReceive n s = s.done ((s.throttleTaken n.val x).acceptEcho n.val) := by
      rw [execEchoReceive, throttleTake_of_find h]
    obtain ⟨h1, h2⟩ := acceptEcho_result (s := s.throttleTaken n.val x) n.isLt hm hl
    refine completes_done e ⟨get_withQueue.trans h1, ?_, fun a => ?_⟩
    · rw [withQueue_mesh, h2]
      exact Lists.at_put.trans (if_pos rfl)
    · rw [rd8_withQueue, SameBut.sameBytes (acceptEcho_sameBut (F := [.regs, .mesh]) (by decide) .refl) rfl rfl, throttleTaken,
        rd8_onMesh]
  · refine completes_done (stormNotice_of_find h hm) ⟨?_, ?_, fun a ha => ?_, fun a => ?_⟩
    · rw [get_withQueue, get_put_self (by simp)]
      exact Nat.mod_eq_of_lt getF_lt
    · rw [withQueue_mesh, put_mesh]
      exact Lists.at_put.trans (if_pos rfl)
    · rw [reg_withQueue]
      exact (put_regsBut (B := (· ∈ [thrRate n.val])) (by simp) (onMesh_regsBut .refl)) a ha
    · rw [rd8_withQueue, rd8_put, throttleTaken, rd8_onMesh]
  · obtain ⟨t, e, h1, h2⟩ := throttleIncrease_result hm
    exact completes_done e ⟨get_withQueue.trans h1, sameBytes_withQueue h2⟩

/-- Settles O45: a pip stands in one place of the mesh at a time, and each command moves the one it takes. -/
theorem meshCommandsComplete : Obligations.MeshCommandsComplete := by
  unfold Obligations.MeshCommandsComplete
  intro s
  obtain ⟨l1, l2, l3, l4⟩ := linkCommands_complete (s := s)
  obtain ⟨t1, t2, t3⟩ := throttleCommands_complete (s := s)
  refine ⟨fun r p x hg hu hx hq hl hm hd hc h1 h2 hf hn => ?_, fun r p x hg hu hx hq hl hm hj hc hu1 h35 h17 hd hr hlt hb ha => ?_,
    fun r p c x hg hu hx hq hc => ?_, fun r x rest hg h1 h2 hl hm hd hc hp1 hp2 hf hn hw => ?_, l1, l2, l3, l4, t1, t2, t3,
    fun r e rest h hl => ?_, fun r v remap h => ?_, fun r v h1 h2 => ?_, fun r v h1 h2 => ?_⟩
  · obtain ⟨k1, k2, k3⟩ := routeCycle_own r.isLt p.isLt hg hu hx hq hl hm hd hc h1 h2 hf hn
    exact completes_done rfl ⟨by rw [withQueue_mesh, k1], by rw [withQueue_mesh, k2], (get64_congr rfl).trans k3⟩
  · obtain ⟨k1, k2⟩ := routeCycle_east p.isLt hg hu hx hq hl hm hj hc hu1 h35 h17 hd hr hlt hb ha
    exact completes_done rfl ⟨by rw [withQueue_mesh, k1], by rw [withQueue_mesh, k2]⟩
  · obtain ⟨k1, k2, k3, k4⟩ := routeCycle_damaged r.isLt hg hu hx hq hc
    exact completes_done rfl ⟨get_withQueue.trans k1, by rw [withQueue_mesh, k2], fun q h => by rw [withQueue_mesh, k3 q h],
      fun h => by rw [withQueue_mesh, k4 h]⟩
  · obtain ⟨k1, k2, k3⟩ := injectCycle_own r.isLt hg h1 h2 hl hm hd hc hp1 hp2 hf hn hw
    exact completes_done rfl ⟨by rw [withQueue_mesh, k1], by rw [withQueue_mesh, k2], by rw [withQueue_mesh, k3]⟩
  · refine completes_done (delayStoreWrite_of_room h hl) ⟨?_, ?_, ?_, fun a ha => ?_, fun a => ?_⟩
    · rw [withQueue_mesh, dsLevel_mesh, onMesh_mesh, onMesh_mesh]
      exact Lists.at_put.trans (if_pos rfl)
    · rw [withQueue_mesh, dsLevel_mesh, onMesh_mesh, onMesh_mesh]
      refine Lists.at_put.trans ((if_pos rfl).trans ?_)
      rw [h]
      rfl
    · have hd : ((s.onMesh fun m => { m with delayWait := m.delayWait.drop1 r.val }).onMesh fun m =>
          { m with delay := m.delay.push r.val e }).mesh.delay.at r.val = s.mesh.delay.at r.val ++ [e] := by
        rw [onMesh_mesh, onMesh_mesh]
        exact Lists.at_put.trans (if_pos rfl)
      rw [get_withQueue, dsLevel_level (by rw [hd, List.length_append, List.length_singleton]; omega), hd, List.length_append,
        List.length_singleton]
    · rw [reg_withQueue, dsLevel_regsBut a ha, reg_onMesh, reg_onMesh]
    · rw [rd8_withQueue, SameBut.sameBytes (dsLevel_sameBut (F := [.regs]) (by decide) .refl) rfl rfl, rd8_onMesh, rd8_onMesh]
  · refine completes_done (congrArg s.done (mcWrite_of_open h)) ⟨?_, fun a ha => ?_, fun a => ?_⟩
    · rw [withQueue_mesh, mcStep_mesh, onMesh_mesh]
      exact Nums.at_put.trans (if_pos rfl)
    · rw [reg_withQueue, mcStep_regsBut a ha, reg_onMesh]
    · rw [rd8_withQueue, SameBut.sameBytes (mcStep_sameBut (F := [.regs]) (by decide) .refl) rfl rfl, rd8_onMesh]
  · refine completes_done (congrArg s.done (spillWrite_base h1 h2)) ⟨?_, fun a ha => ?_, fun a => ?_⟩
    · rw [get_withQueue, get_put_self (by simp)]
      exact Nat.mod_mod ..
    · rw [reg_withQueue]
      exact (put_regsBut (B := (· ∈ [Reg.EVM_SPILL_BASE r.val])) (by simp) .refl) a ha
    · rw [rd8_withQueue, rd8_put]
  · refine completes_done (congrArg s.done (spillWrite_len h1 h2)) ⟨?_, fun a ha => ?_, fun a => ?_⟩
    · rw [get_withQueue, get_put_self (by simp)]
      exact Nat.mod_mod ..
    · rw [reg_withQueue]
      exact (put_regsBut (B := (· ∈ [Reg.EVM_SPILL_LEN r.val])) (by simp) .refl) a ha
    · rw [rd8_withQueue, rd8_put]

end Sys2Proof.Machine.State
end
